-- ==== Sys2Proof/Word.lean ====
section
/-!
DEFINITION. The word types of the module's fields. Every multi-byte field is little-endian and bit 0 is the least
significant bit (spec/00_scope.md R3).
-/
namespace Sys2Proof

/-- One byte of a register, packet, point, record or message. -/
abbrev Byte := BitVec 8

/-- A 16-bit field. -/
abbrev Half := BitVec 16

/-- A 32-bit field. -/
abbrev Word := BitVec 32

/-- A 64-bit field. -/
abbrev Dword := BitVec 64

end Sys2Proof
end

