-- ==== Sys2Proof/Config.lean ====
section
/-!
DEFINITION. The configuration parameters of the module (their names, ranges and defaults as the parameter tables of the
spec give them) and the values the spec leaves open, as constants without a body.
-/
namespace Sys2Proof

/-- The configuration parameters, by their names in the parameter tables of the spec (the rule of each stands beside it).
Three names are the model's own, for settings that the rules use and no table lists: `REF_RB` (a slot is a range-bearing
reference, R57), `REF_TARGET_N`/`REF_TARGET_E` (its target) and `REF_MED_LIMIT_DIR` (the direction limit of the median
test, R68); `RED_HAS_W` is the installation's Warden (R389). DESIGN CHOICE, log 40. -/
inductive Param where
  | FRM_ALLOC_DEADLINE -- R54
  | FRM_SKEW_ALARM -- R54
  | FRM_STALL_LIMIT -- R54
  | REF_KIND -- R93
  | REF_SOURCE -- R93
  | REF_LEVER_X -- R93
  | REF_LEVER_Y -- R93
  | REF_LEVER_Z -- R93
  | REF_LATENCY -- R93
  | REF_MAX_AGE -- R93
  | REF_TIMEOUT -- R93
  | REF_SIGMA -- R93
  | REF_MIN_STATUS -- R93
  | REF_FREEZE_TIME -- R93
  | REF_FREEZE_TOL -- R93
  | REF_VAR_WINDOW -- R93
  | REF_VAR_LIMIT -- R93
  | REF_PRED_GATE -- R93
  | REF_PRED_COUNT -- R93
  | REF_MED_LIMIT -- R93
  | REF_MED_LIMIT_DIR -- R93
  | REF_DIV_TAU -- R93
  | REF_DIV_LIMIT -- R93
  | REF_TRIAL_TIME -- R93
  | REF_TRIAL_DR -- R93
  | REF_LATCH -- R93
  | REF_SHADOW_FROM -- R93
  | REF_SHADOW_TO -- R93
  | REF_RB -- R57
  | REF_TARGET_N -- R57
  | REF_TARGET_E -- R57
  | EST_ORIGIN_LAT -- R94
  | EST_ORIGIN_LON -- R94
  | EST_ORIGIN_H -- R94
  | EST_M11 -- R94
  | EST_M22 -- R94
  | EST_M33 -- R94
  | EST_D11 -- R94
  | EST_D22 -- R94
  | EST_D33 -- R94
  | EST_WAVE_ON -- R94
  | EST_WAVE_W0 -- R94
  | EST_WAVE_ZETA -- R94
  | EST_BIAS_TAU -- R94
  | EST_MAX_SHARE -- R94
  | EST_MIN_POS_REFS -- R94
  | EST_RESET_FRAMES -- R94
  | EST_NOMRU_ANGLE -- R94
  | EST_DR_LIMIT -- R94
  | EST_HDG_DR_LIMIT -- R94
  | EST_PEER_DIFF -- R94
  | EST_PEER_DIFF_HDG -- R94
  | HOLD_FMAX_X -- R133
  | HOLD_FMAX_Y -- R133
  | HOLD_FMAX_N -- R133
  | HOLD_DTAU_MAX_X -- R133
  | HOLD_DTAU_MAX_Y -- R133
  | HOLD_DTAU_MAX_N -- R133
  | HOLD_JOY_X_PT -- R133
  | HOLD_JOY_Y_PT -- R133
  | HOLD_JOY_N_PT -- R133
  | HOLD_JOY_DEADBAND -- R133
  | HOLD_JOY_EXP -- R133
  | HOLD_JOY_SCALE -- R133
  | HOLD_JOY_RATE -- R133
  | HOLD_DL_PERIOD_X -- R133
  | HOLD_DL_PERIOD_Y -- R133
  | HOLD_DL_PERIOD_N -- R133
  | HOLD_DL_ZETA -- R133
  | HOLD_MPC_POS_SCALE -- R133
  | HOLD_MPC_HDG_SCALE -- R133
  | HOLD_MPC_VEL_SCALE -- R133
  | HOLD_MPC_ROT_SCALE -- R133
  | HOLD_MPC_TAU_W -- R133
  | HOLD_MPC_TERM_W -- R133
  | HOLD_MPC_FAIL_FRAMES -- R133
  | HOLD_MPC_OK_FRAMES -- R133
  | HOLD_SP_SPEED -- R133
  | HOLD_SP_ROT -- R133
  | HOLD_SP_MAX_STEP -- R133
  | HOLD_XFER_TIME -- R133
  | HOLD_EXC_WARN -- R133
  | HOLD_EXC_ALARM -- R133
  | HOLD_HDG_WARN -- R133
  | HOLD_HDG_ALARM -- R133
  | HOLD_WFF_GAIN -- R133
  | HOLD_WFF_TAU -- R133
  | HOLD_WFF_JOY -- R133
  | HOLD_AIR_RHO -- R133
  | HOLD_WIND_AF -- R133
  | HOLD_WIND_AL -- R133
  | HOLD_WIND_L -- R133
  | HOLD_WIND_CX -- R133
  | HOLD_WIND_CY -- R133
  | HOLD_WIND_CN -- R133
  | HOLD_SIDE_OFFSET -- R133
  | APR_SPEED -- R134
  | APR_DECEL -- R134
  | APR_XTRACK_LIMIT -- R134
  | APR_ARRIVE_DIST -- R134
  | APR_ARRIVE_SPEED -- R134
  | APR_ARRIVE_HDG -- R134
  | APR_AUTO_BPR -- R134
  | APR_MAX_DIST -- R134
  | BPR_FORCE -- R134
  | BPR_FORCE_MAX -- R134
  | BPR_SEAT_FORCE -- R134
  | BPR_RAMP -- R134
  | BPR_CLOSE_SPEED -- R134
  | BPR_TOUCH_SPEED -- R134
  | BPR_CLOSE_GAIN -- R134
  | BPR_SPEED_TAU -- R134
  | BPR_CONTACT_DIST -- R134
  | BPR_STALL_SPEED -- R134
  | BPR_STALL_TIME -- R134
  | BPR_BAL_FRAC -- R134
  | BPR_LOSS_DIST -- R134
  | BPR_LOSS_SPEED -- R134
  | BPR_CONTACT_TIMEOUT -- R134
  | BPR_MAX_GAP -- R134
  | BPR_MAX_HDG_DIFF -- R134
  | BERTH_A_N -- R134
  | BERTH_A_E -- R134
  | BERTH_B_N -- R134
  | BERTH_B_E -- R134
  | BERTH_HDG -- R134
  | BERTH_SIDE -- R134
  | BERTH_STANDOFF -- R134
  | BERTH_ALONG -- R134
  | ALC_X -- R165
  | ALC_Y -- R165
  | ALC_TFWD -- R165
  | ALC_TREV -- R165
  | ALC_PRATED -- R165
  | ALC_KAPPA -- R165
  | ALC_RAMP -- R165
  | ALC_SLEW -- R165
  | ALC_DIR -- R165
  | ALC_SECTION -- R165
  | ALC_RUD_K -- R165
  | ALC_RUD_MAX -- R165
  | ALC_RUD_RATE -- R165
  | ALC_T_TURN -- R165
  | ALC_W_POWER -- R166
  | ALC_W_DEV -- R166
  | ALC_W_AZ -- R166
  | ALC_W_BERM -- R166
  | ALC_PWR_T_MIN -- R166
  | ALC_RES_TOL -- R166
  | ALC_SAT_TOL -- R166
  | ALC_SAT_TIME -- R166
  | ALC_REPEAT_LIMIT -- R166
  | ALC_BERM_ON -- R166
  | ALC_BERM_TURN -- R166
  | ALC_LEARN_USE -- R166
  | ALC_LEARN_TAU -- R166
  | PWR_REGEN_TAU -- R166
  | PWR_FRESH_COUNT -- R166
  | PWR_LIMIT_FRAMES -- R166
  | PWR_PORT -- R166
  | PWR_PORT2 -- R166
  | PWR_SRC -- R166
  | PWR_SRC2 -- R166
  | PWR_CONS_AVAIL -- R166
  | PWR_CONS_REGEN -- R166
  | PWR_CONS_RAMP -- R166
  | PWR_FALL_FLOOR -- R166
  | CQA_HORIZON -- R194
  | CQA_FEAS_TOL -- R194
  | CQA_ALARM_DELAY -- R194
  | CQA_CLEAR_TIME -- R194
  | CQA_UNPROVEN_DELAY -- R194
  | CQA_MIN_POS_REFS -- R194
  | CQA_MIN_HDG_REFS -- R194
  | CQA_TIE_SPREAD -- R194
  | CQA_ENV_ON -- R194
  | CQA_ENV_CASE -- R194
  | CQA_ROOM_SECTIONS -- R194
  | CQA_NAME -- R194
  | CQA_THR -- R194
  | CQA_SECT -- R194
  | CQA_ROOM -- R194
  | CQA_REF -- R194
  | CQA_ENABLE -- R194
  | HEN_ALLOC_ITER -- R231
  | HEN_MPC_ITER -- R231
  | HEN_PIV_EXP -- R231
  | THR_TYPE -- R271
  | THR_LINK -- R271
  | THR_CAN_PORT -- R271
  | THR_DRIVE_NODE -- R271
  | THR_AO -- R271
  | THR_ANG_AO_MODE -- R271
  | THR_AO_MAP -- R271
  | THR_AO_SHAPE -- R271
  | THR_AI -- R271
  | THR_AI_MAP -- R271
  | THR_AI_SHAPE -- R271
  | THR_ENC_AZ -- R271
  | THR_ENC_SHAFT -- R271
  | THR_ENC_FMT -- R271
  | THR_ENC_BITS -- R271
  | THR_ENC_CLK -- R271
  | THR_ENC_CPR -- R271
  | THR_ENC_OFFSET -- R271
  | THR_ENC_DIR -- R271
  | THR_GR_FROM -- R271
  | THR_GR_TO -- R271
  | THR_GR_FADE -- R271
  | THR_LOOKAHEAD -- R271
  | THR_ANG_MAXAGE -- R271
  | THR_ANG_DIS -- R271
  | THR_FB_TIMEOUT -- R271
  | THR_AZ_FOLLOW -- R271
  | THR_AZ_FOLLOW_TIME -- R271
  | THR_AZ_DIR_RATE -- R271
  | THR_AZ_DIR_TIME -- R271
  | THR_T_DEV -- R271
  | THR_T_DEV_TIME -- R271
  | THR_TX_DELTA -- R271
  | THR_CAN_NODE -- R271
  | THR_AO_HOLD -- R271
  | SAT_ANT_X -- R303
  | SAT_ANT_Y -- R303
  | SAT_ANT_Z -- R303
  | SAT_ANT_USE -- R303
  | SAT_ANT_BIAS -- R303
  | SAT_MASTER_ANT -- R303
  | SAT_RATE -- R303
  | SAT_ELEV_MASK -- R303
  | SAT_RTCM_PORT -- R303
  | SAT_RTCM_UDP -- R303
  | SAT_RTK_MAX_AGE -- R303
  | SAT_RAIM_PFA -- R303
  | SAT_RAIM_MAX_EXCL -- R303
  | SAT_HAL_RTK -- R303
  | SAT_HAL_SBAS -- R303
  | SAT_SPOOF_MIN -- R303
  | SAT_CLK_JUMP -- R303
  | SAT_CLK_FJUMP -- R303
  | SAT_AGC_DROP -- R303
  | SAT_BASE_TOL -- R303
  | SAT_OCXO_TAU -- R303
  | SAT_RETURN_CONFIRM -- R303
  | SAT_RETURN_GATE -- R303
  | SAT_HO_RATE -- R303
  | SAT_HO_TEMPCO -- R303
  | SAT_HO_AGING -- R303
  | SAT_WAKE_INTERVAL -- R303
  | SAT_WAKE_TIME -- R303
  | TMU_VC_SRC -- R332
  | TMU_PTP_DOM -- R332
  | TMU_PTP_ROLE -- R332
  | TMU_PTP_PRIO1 -- R332
  | TMU_PTP_PRIO2 -- R332
  | TMU_PTP_DELAY -- R332
  | TMU_PTP_TRANSPORT -- R332
  | TMU_PTP_SYNC_LOG -- R332
  | TMU_PTP_ANN_LOG -- R332
  | TMU_PTP_ANN_TIMEOUT -- R332
  | TMU_PTP_DELAY_LOG -- R332
  | TMU_PTP_MAX_CLASS -- R332
  | TMU_PTP_SVC_MASTER -- R332
  | TMU_GM_HO_LIMIT -- R332
  | TMU_SRV_TAU -- R332
  | TMU_LOCK_LIMIT -- R332
  | TMU_LOCK_TIME -- R332
  | TMU_FRAME_REVERT -- R332
  | TMU_REVERT_TIME -- R332
  | TMU_FALLBACK_SAT -- R332
  | TMU_BOUND_ALARM -- R332
  | TMU_PPS_OUT_SRC -- R332
  | TMU_TPO34_PART -- R332
  | TMU_CAP_SOURCES -- R332
  | TMU_CAP_OWNER -- R332
  | CMD_OPERATOR_OPEN -- R363
  | CMD_DORMANT_KEEP -- R363
  | CMD_MIRROR_TIMEOUT -- R363
  | PNT_TYPE -- R387
  | PNT_PRODUCER -- R387
  | PNT_TIMEOUT -- R387
  | PNT_SUBST -- R387
  | PNT_SUBST_VAL -- R387
  | PNT_PROD_TRANSPORT -- R387
  | PNT_PROD_ID -- R387
  | PNT_PROD_UDP -- R387
  | PNT_PROD_TIMEOUT -- R387
  | PNT_PROD_NAME -- R387
  | RED_MODE -- R421
  | RED_W_AUTO_PROMOTE -- R421
  | RED_YIELD_BACK -- R421
  | RED_ROLE_FB1_PT -- R421
  | RED_ROLE_FB2_PT -- R421
  | RED_ROTATE_HOURS -- R421
  | RED_HAS_W -- R389
  | SAFE_SIN_FUNC -- R445
  | SAFE_SIN_TP -- R445
  | SAFE_SIN_DISC -- R445
  | SAFE_SIN_STS -- R445
  | SAFE_SIN_BRK -- R445
  | SAFE_SIN_SLT -- R445
  | SAFE_SIN_RESTART -- R445
  | SAFE_STS_USE -- R445
  | SAFE_STS_DELAY -- R445
  | SAFE_BRK_USE -- R445
  | SAFE_BRK_CHAN -- R445
  | SAFE_BRK_ENC -- R445
  | SAFE_BRK_SET_SPEED -- R445
  | SAFE_BRK_TEST_T -- R445
  | SAFE_BRK_TEST_ANG -- R445
  | SAFE_BRK_TEST_INT -- R445
  | SAFE_SLT_CHAN -- R445
  | SAFE_SLT_ENC -- R445
  | SAFE_SLT_SPEED -- R445
  | SAFE_SLT_TIME -- R445
  | SAFE_SLT_STS -- R445
  | SAFE_ENC_FMT -- R445
  | SAFE_ENC_RES -- R445
  | SAFE_STOP_BRK -- R445
  | SAFE_THR_STS -- R446
  | SAFE_THR_FAIL_STS -- R446
  | FIO_MODE -- R471
  | FIO_FILTER -- R471
  | FIO_OUT_SRC -- R471
  | FIO_OUT_CHAN -- R471
  | FIO_OUT_PT -- R471
  | FIO_FAILSAFE -- R471
  | FIO_AUTH -- R471
  | FIO_OPEN_DET -- R471
  | FIO_G_RESTORE -- R471
  | FIO_RETRY_MAX -- R471
  | BUS_CAN_NOM -- R499, R623
  | BUS_CAN_DATA -- R499, R623
  | BUS_CAN_SP_NOM -- R499, R623
  | BUS_CAN_SP_DATA -- R499, R623
  | BUS_CAN_TERM -- R499, R623
  | BUS_CAN_AUTO -- R499, R623
  | BUS_CAN_RATES -- R499, R623
  | BUS_CAN_ADOPT -- R499, R623
  | BUS_DETECT_DWELL -- R499, R623
  | BUS_RECOVER_TIMEOUT -- R499, R623
  | BUS_NODE_FORGET -- R499, R623
  | BUS_CMAP_PORT -- R499, R623
  | BUS_CMAP_IDE -- R499, R623
  | BUS_CMAP_ID -- R499, R623
  | BUS_CMAP_MASK -- R499, R623
  | BUS_CMAP_PROD -- R499, R623
  | BUS_CMAP_BYTE -- R499, R623
  | BUS_CMAP_ENC -- R499, R623
  | BUS_CMAP_ORDER -- R499, R623
  | BUS_CMAP_SCALE -- R499, R623
  | BUS_CMAP_OFS -- R499, R623
  | BUS_CMAP_POINT -- R499, R623
  | BUS_CMAP_E2E -- R499, R623
  | BUS_SER_MODE -- R499, R623
  | BUS_SER_PROTO -- R499, R623
  | BUS_SER_BAUD -- R499, R623
  | BUS_SER_FORMAT -- R499, R623
  | BUS_SER_TERM -- R499, R623
  | BUS_SER_CKSUM -- R499, R623
  | BUS_SER_PARSER -- R499, R623
  | BUS_SER_TX -- R499, R623
  | BUS_SER_TALKER -- R499, R623
  | BUS_SMAP -- R499, R623
  | BUS_BIN -- R499, R623
  | BUS_450_GROUPS -- R499, R623
  | BUS_AO_MODE -- R499, R623
  | BUS_AI_MODE -- R499, R623
  | LOG_MIN_SEV -- R542
  | LOG_SNAP_ON -- R542
  | LOG_SNAP_LIST -- R542
  | LOG_SNAP_HOLDOFF -- R542
  | PWR_SINGLE_INPUT -- R571
  | PWR_BASEPLATE_ALARM -- R571
  | IMG_TRIAL_TIME -- R593
  deriving DecidableEq, Repr

/-- The kind a reference slot has by its number: 0 position, 1 heading, 2 motion, 3 wind. spec/03 R55. -/
def slotKind (s : Nat) : Nat := if s < 16 then 0 else if s < 20 then 1 else if s < 24 then 2 else 3

/-- The value of a four-way table by the kind of a slot. -/
def byKind (s : Nat) (p h m w : Rat) : Rat :=
  match slotKind s with
  | 0 => p
  | 1 => h
  | 2 => m
  | _ => w

/-- The default of a parameter at an index; none where the tables give none, or the value is a list or a text. -/
def Param.dflt (p : Param) (i : Nat) : Option Rat :=
  match p with
  | .FRM_ALLOC_DEADLINE => some 14
  | .FRM_SKEW_ALARM
  | .HOLD_JOY_SCALE
  | .HOLD_DL_PERIOD_X
  | .HOLD_DL_PERIOD_Y
  | .HOLD_WFF_GAIN
  | .THR_FB_TIMEOUT
  | .SAT_OCXO_TAU
  | .TMU_BOUND_ALARM
  | .SAFE_SIN_DISC => some 100
  | .FRM_STALL_LIMIT
  | .REF_TIMEOUT
  | .REF_PRED_COUNT
  | .HOLD_MPC_FAIL_FRAMES
  | .HOLD_XFER_TIME
  | .HOLD_EXC_ALARM
  | .HOLD_HDG_ALARM
  | .HOLD_WFF_TAU
  | .ALC_PWR_T_MIN
  | .ALC_SAT_TIME
  | .THR_GR_FADE
  | .SAT_CLK_FJUMP
  | .BUS_RECOVER_TIMEOUT => some 5
  | .REF_KIND => some (slotKind i : Nat)
  | .REF_SOURCE
  | .REF_MIN_STATUS
  | .EST_ORIGIN_LAT
  | .EST_ORIGIN_LON
  | .EST_M11
  | .EST_M22
  | .EST_M33
  | .EST_D11
  | .EST_D22
  | .EST_D33
  | .HOLD_FMAX_X
  | .HOLD_FMAX_Y
  | .HOLD_FMAX_N
  | .HOLD_JOY_X_PT
  | .HOLD_JOY_Y_PT
  | .HOLD_JOY_N_PT
  | .HOLD_WIND_AF
  | .HOLD_WIND_AL
  | .HOLD_WIND_L
  | .HOLD_WIND_CX
  | .HOLD_WIND_CY
  | .HOLD_WIND_CN
  | .HOLD_SIDE_OFFSET
  | .BERTH_A_N
  | .BERTH_A_E
  | .BERTH_B_N
  | .BERTH_B_E
  | .BERTH_HDG
  | .BERTH_SIDE
  | .BERTH_ALONG
  | .ALC_X
  | .ALC_Y
  | .ALC_TFWD
  | .ALC_PRATED
  | .ALC_KAPPA
  | .ALC_DIR
  | .PWR_SRC
  | .PWR_SRC2
  | .PWR_CONS_AVAIL
  | .PWR_CONS_REGEN
  | .PWR_CONS_RAMP
  | .CQA_NAME
  | .THR_CAN_PORT
  | .THR_DRIVE_NODE
  | .THR_ANG_AO_MODE
  | .THR_AO_MAP
  | .THR_AI_MAP
  | .THR_CAN_NODE
  | .SAT_ANT_X
  | .SAT_ANT_Y
  | .SAT_ANT_Z
  | .TMU_PTP_ROLE
  | .TMU_CAP_SOURCES
  | .PNT_PRODUCER
  | .PNT_PROD_TRANSPORT
  | .PNT_PROD_ID
  | .PNT_PROD_UDP
  | .PNT_PROD_NAME
  | .RED_ROLE_FB1_PT
  | .RED_ROLE_FB2_PT
  | .SAFE_THR_STS
  | .FIO_OUT_CHAN
  | .FIO_OUT_PT
  | .BUS_CAN_RATES
  | .BUS_CMAP_ID
  | .BUS_CMAP_MASK
  | .BUS_CMAP_PROD
  | .BUS_CMAP_POINT
  | .BUS_SER_BAUD
  | .BUS_SER_FORMAT
  | .BUS_SER_PARSER
  | .BUS_SER_TX
  | .BUS_SER_TALKER
  | .BUS_SMAP
  | .BUS_BIN
  | .BUS_450_GROUPS
  | .LOG_SNAP_LIST => none
  | .REF_LEVER_X
  | .REF_LEVER_Y
  | .REF_LEVER_Z
  | .REF_LATENCY
  | .REF_FREEZE_TOL
  | .REF_LATCH
  | .REF_SHADOW_FROM
  | .REF_SHADOW_TO
  | .REF_RB
  | .REF_TARGET_N
  | .REF_TARGET_E
  | .EST_ORIGIN_H
  | .HOLD_WFF_JOY
  | .ALC_TREV
  | .ALC_SECTION
  | .PWR_PORT
  | .PWR_PORT2
  | .CQA_ENV_CASE
  | .CQA_ROOM_SECTIONS
  | .CQA_THR
  | .CQA_SECT
  | .CQA_ROOM
  | .CQA_REF
  | .THR_TYPE
  | .THR_LINK
  | .THR_AO
  | .THR_AO_SHAPE
  | .THR_AI
  | .THR_AI_SHAPE
  | .THR_ENC_AZ
  | .THR_ENC_SHAFT
  | .THR_ENC_FMT
  | .THR_ENC_OFFSET
  | .THR_GR_FROM
  | .THR_GR_TO
  | .THR_LOOKAHEAD
  | .SAT_RTCM_PORT
  | .TMU_PTP_DELAY
  | .TMU_PTP_TRANSPORT
  | .TMU_PTP_ANN_LOG
  | .TMU_PTP_DELAY_LOG
  | .TMU_PTP_SVC_MASTER
  | .TMU_FRAME_REVERT
  | .TMU_PPS_OUT_SRC
  | .TMU_CAP_OWNER
  | .CMD_OPERATOR_OPEN
  | .PNT_TIMEOUT
  | .PNT_SUBST
  | .PNT_SUBST_VAL
  | .RED_MODE
  | .RED_W_AUTO_PROMOTE
  | .SAFE_SIN_FUNC
  | .SAFE_SIN_STS
  | .SAFE_SIN_BRK
  | .SAFE_SIN_SLT
  | .SAFE_SIN_RESTART
  | .SAFE_STS_USE
  | .SAFE_STS_DELAY
  | .SAFE_BRK_USE
  | .SAFE_BRK_CHAN
  | .SAFE_BRK_ENC
  | .SAFE_BRK_TEST_T
  | .SAFE_SLT_CHAN
  | .SAFE_SLT_ENC
  | .SAFE_SLT_STS
  | .SAFE_ENC_FMT
  | .SAFE_ENC_RES
  | .SAFE_THR_FAIL_STS
  | .FIO_MODE
  | .FIO_OUT_SRC
  | .FIO_FAILSAFE
  | .FIO_AUTH
  | .FIO_OPEN_DET
  | .BUS_CAN_TERM
  | .BUS_CAN_AUTO
  | .BUS_CMAP_PORT
  | .BUS_CMAP_BYTE
  | .BUS_CMAP_ORDER
  | .BUS_CMAP_OFS
  | .BUS_CMAP_E2E
  | .BUS_SER_MODE
  | .BUS_SER_PROTO
  | .BUS_SER_TERM
  | .PWR_SINGLE_INPUT => some 0
  | .REF_MAX_AGE => some 2000
  | .REF_SIGMA => some (byKind i (1/50) (1/20) (1/1000) (1/1000))
  | .REF_FREEZE_TIME => some (byKind i 5 30 5 30)
  | .REF_VAR_WINDOW
  | .EST_HDG_DR_LIMIT
  | .SAT_WAKE_INTERVAL => some 30
  | .REF_VAR_LIMIT
  | .REF_DIV_LIMIT => some (byKind i 1 (1/2) 1 1)
  | .REF_PRED_GATE => some (byKind i (69/5) (54/5) (69/5) (69/5))
  | .REF_MED_LIMIT => some (byKind i 2 1 1 5)
  | .REF_MED_LIMIT_DIR
  | .HOLD_DTAU_MAX_X
  | .HOLD_DTAU_MAX_Y
  | .HOLD_DTAU_MAX_N
  | .HEN_PIV_EXP
  | .CMD_MIRROR_TIMEOUT => some 20
  | .REF_DIV_TAU
  | .HOLD_DL_PERIOD_N
  | .ALC_BERM_TURN
  | .TMU_REVERT_TIME => some 60
  | .REF_TRIAL_TIME
  | .HOLD_MPC_TERM_W
  | .BPR_MAX_GAP
  | .BPR_MAX_HDG_DIFF
  | .ALC_RAMP
  | .ALC_SLEW
  | .CQA_ALARM_DELAY
  | .CQA_CLEAR_TIME
  | .THR_AZ_FOLLOW
  | .SAT_RATE
  | .SAT_ELEV_MASK
  | .SAT_RTK_MAX_AGE
  | .SAT_HAL_SBAS
  | .SAT_AGC_DROP
  | .SAT_RETURN_CONFIRM
  | .SAFE_SLT_SPEED
  | .FIO_RETRY_MAX
  | .LOG_SNAP_HOLDOFF => some 10
  | .REF_TRIAL_DR
  | .HOLD_JOY_EXP
  | .HOLD_SP_ROT
  | .HOLD_EXC_WARN
  | .APR_ARRIVE_HDG
  | .BPR_SPEED_TAU
  | .BPR_STALL_TIME
  | .ALC_T_TURN
  | .ALC_RES_TOL
  | .ALC_SAT_TOL
  | .CQA_FEAS_TOL
  | .CQA_UNPROVEN_DELAY
  | .THR_AZ_FOLLOW_TIME
  | .THR_AZ_DIR_RATE
  | .SAT_RAIM_MAX_EXCL
  | .TMU_LOCK_TIME
  | .SAFE_BRK_TEST_ANG
  | .BUS_CAN_DATA
  | .BUS_CMAP_ENC => some 2
  | .EST_WAVE_ON
  | .EST_PEER_DIFF
  | .EST_PEER_DIFF_HDG
  | .HOLD_MPC_POS_SCALE
  | .HOLD_MPC_HDG_SCALE
  | .HOLD_MPC_ROT_SCALE
  | .APR_AUTO_BPR
  | .ALC_W_POWER
  | .ALC_BERM_ON
  | .ALC_LEARN_USE
  | .CQA_MIN_POS_REFS
  | .CQA_MIN_HDG_REFS
  | .CQA_TIE_SPREAD
  | .CQA_ENV_ON
  | .CQA_ENABLE
  | .THR_ENC_DIR
  | .THR_TX_DELTA
  | .SAT_ANT_BIAS
  | .SAT_MASTER_ANT
  | .TMU_VC_SRC
  | .TMU_FALLBACK_SAT
  | .TMU_TPO34_PART
  | .RED_YIELD_BACK
  | .RED_HAS_W
  | .SAFE_SIN_TP
  | .FIO_G_RESTORE
  | .BUS_CAN_ADOPT
  | .BUS_CMAP_IDE
  | .BUS_CMAP_SCALE
  | .BUS_SER_CKSUM
  | .BUS_AO_MODE
  | .BUS_AI_MODE
  | .LOG_MIN_SEV
  | .LOG_SNAP_ON => some 1
  | .EST_WAVE_W0
  | .APR_SPEED => some (4/5)
  | .EST_WAVE_ZETA
  | .APR_ARRIVE_SPEED
  | .BPR_CLOSE_GAIN
  | .BPR_LOSS_SPEED
  | .ALC_W_AZ => some (1/10)
  | .EST_BIAS_TAU
  | .TMU_GM_HO_LIMIT
  | .TMU_LOCK_LIMIT
  | .PNT_PROD_TIMEOUT => some 1000
  | .EST_MAX_SHARE
  | .HOLD_MPC_OK_FRAMES
  | .HOLD_SP_MAX_STEP
  | .ALC_REPEAT_LIMIT
  | .PWR_LIMIT_FRAMES
  | .THR_ANG_MAXAGE => some 50
  | .EST_MIN_POS_REFS
  | .EST_RESET_FRAMES
  | .EST_NOMRU_ANGLE
  | .HOLD_HDG_WARN
  | .APR_XTRACK_LIMIT
  | .BERTH_STANDOFF
  | .PWR_FRESH_COUNT
  | .CQA_HORIZON
  | .THR_ANG_DIS
  | .THR_T_DEV_TIME
  | .SAT_ANT_USE
  | .SAT_RETURN_GATE
  | .TMU_PTP_ANN_TIMEOUT
  | .FIO_FILTER => some 3
  | .EST_DR_LIMIT
  | .BPR_CONTACT_TIMEOUT => some 120
  | .HOLD_JOY_DEADBAND
  | .BPR_TOUCH_SPEED
  | .ALC_W_BERM
  | .SAT_BASE_TOL => some (1/20)
  | .HOLD_JOY_RATE => some 25
  | .HOLD_DL_ZETA => some (9/10)
  | .HOLD_MPC_VEL_SCALE
  | .APR_ARRIVE_DIST
  | .BPR_BAL_FRAC
  | .BPR_LOSS_DIST
  | .PWR_REGEN_TAU
  | .SAT_HAL_RTK
  | .SAFE_BRK_SET_SPEED => some (1/2)
  | .HOLD_MPC_TAU_W
  | .APR_DECEL => some (1/100)
  | .HOLD_SP_SPEED => some (1/5)
  | .HOLD_AIR_RHO => some (49/40)
  | .APR_MAX_DIST
  | .THR_ENC_CLK
  | .BUS_CAN_NOM
  | .BUS_DETECT_DWELL => some 500
  | .BPR_FORCE
  | .PWR_FALL_FLOOR => some 50000
  | .BPR_FORCE_MAX => some 200000
  | .BPR_SEAT_FORCE => some 20000
  | .BPR_RAMP
  | .ALC_W_DEV => some 10000
  | .BPR_CLOSE_SPEED => some (3/20)
  | .BPR_CONTACT_DIST
  | .THR_AZ_DIR_TIME => some (3/10)
  | .BPR_STALL_SPEED => some (1/50)
  | .ALC_RUD_K => some (2/5)
  | .ALC_RUD_MAX => some 35
  | .ALC_RUD_RATE
  | .SAT_SPOOF_MIN => some 4
  | .ALC_LEARN_TAU
  | .CMD_DORMANT_KEEP => some 3600
  | .HEN_ALLOC_ITER
  | .HEN_MPC_ITER => some 12
  | .THR_ENC_BITS => some 17
  | .THR_ENC_CPR => some 4096
  | .THR_T_DEV
  | .SAFE_STOP_BRK => some 15
  | .THR_AO_HOLD => some 250
  | .SAT_RTCM_UDP => some 2101
  | .SAT_RAIM_PFA => some (1/100000)
  | .SAT_CLK_JUMP
  | .SAFE_SLT_TIME => some 200
  | .SAT_HO_RATE => some (1/10000000000)
  | .SAT_HO_TEMPCO => some (1/20000000000)
  | .SAT_HO_AGING => some (1/500000000000000)
  | .SAT_WAKE_TIME => some 45
  | .TMU_PTP_DOM => some (i : Nat)
  | .TMU_PTP_PRIO1
  | .TMU_PTP_PRIO2 => some 128
  | .TMU_PTP_SYNC_LOG => some (-3)
  | .TMU_PTP_MAX_CLASS => some 7
  | .TMU_SRV_TAU
  | .SAFE_BRK_TEST_INT => some 8
  | .PNT_TYPE => some 255
  | .RED_ROTATE_HOURS => some 24
  | .BUS_CAN_SP_NOM
  | .PWR_BASEPLATE_ALARM => some 80
  | .BUS_CAN_SP_DATA => some 75
  | .BUS_NODE_FORGET
  | .IMG_TRIAL_TIME => some 600

/-- The range of a parameter; none where the tables give none. -/
def Param.range (p : Param) : Option (Rat × Rat) :=
  match p with
  | .FRM_ALLOC_DEADLINE => some (10, 14)
  | .FRM_SKEW_ALARM
  | .APR_MAX_DIST
  | .SAFE_SLT_TIME => some (10, 2000)
  | .FRM_STALL_LIMIT => some (3, 10)
  | .REF_KIND
  | .THR_TYPE
  | .SAT_ANT_USE
  | .SAT_RAIM_MAX_EXCL
  | .TMU_VC_SRC
  | .TMU_PTP_ROLE
  | .SAFE_ENC_FMT
  | .BUS_SER_PROTO => some (0, 3)
  | .REF_SOURCE
  | .HOLD_JOY_X_PT
  | .HOLD_JOY_Y_PT
  | .HOLD_JOY_N_PT
  | .RED_ROLE_FB1_PT
  | .RED_ROLE_FB2_PT
  | .FIO_OUT_PT => some (0, 131071)
  | .REF_LEVER_X
  | .REF_LEVER_Y
  | .REF_LEVER_Z
  | .ALC_X
  | .ALC_Y
  | .SAT_ANT_X
  | .SAT_ANT_Y
  | .SAT_ANT_Z => some ((-200), 200)
  | .REF_LATENCY
  | .THR_AO_HOLD => some (0, 1000)
  | .REF_MAX_AGE
  | .THR_ENC_CLK => some (100, 2000)
  | .REF_TIMEOUT
  | .HOLD_XFER_TIME
  | .HOLD_HDG_WARN
  | .HOLD_HDG_ALARM
  | .HOLD_WFF_TAU
  | .BPR_MAX_GAP
  | .BPR_MAX_HDG_DIFF
  | .ALC_SLEW
  | .THR_T_DEV_TIME => some (1, 30)
  | .REF_SIGMA => some ((1/1000), 50)
  | .REF_MIN_STATUS
  | .PWR_SRC
  | .PWR_SRC2
  | .TMU_PTP_PRIO1
  | .TMU_PTP_PRIO2
  | .PNT_TYPE
  | .BUS_SER_FORMAT => some (0, 255)
  | .REF_FREEZE_TIME
  | .LOG_SNAP_HOLDOFF => some (1, 600)
  | .REF_FREEZE_TOL
  | .REF_LATCH
  | .REF_RB
  | .EST_WAVE_ON
  | .HOLD_MPC_TAU_W
  | .HOLD_WFF_JOY
  | .APR_AUTO_BPR
  | .BERTH_SIDE
  | .ALC_RUD_K
  | .ALC_BERM_ON
  | .ALC_LEARN_USE
  | .CQA_TIE_SPREAD
  | .CQA_ENV_ON
  | .CQA_ENABLE
  | .THR_ANG_AO_MODE
  | .THR_AO_SHAPE
  | .THR_AI_SHAPE
  | .SAT_ANT_BIAS
  | .TMU_PTP_DELAY
  | .TMU_PTP_TRANSPORT
  | .TMU_PTP_SVC_MASTER
  | .TMU_FRAME_REVERT
  | .TMU_FALLBACK_SAT
  | .TMU_PPS_OUT_SRC
  | .TMU_TPO34_PART
  | .TMU_CAP_OWNER
  | .CMD_OPERATOR_OPEN
  | .PNT_SUBST
  | .RED_MODE
  | .RED_W_AUTO_PROMOTE
  | .RED_YIELD_BACK
  | .RED_HAS_W
  | .SAFE_SIN_TP
  | .SAFE_SIN_RESTART
  | .SAFE_STS_USE
  | .SAFE_BRK_USE
  | .SAFE_THR_FAIL_STS
  | .FIO_FAILSAFE
  | .FIO_AUTH
  | .FIO_OPEN_DET
  | .FIO_G_RESTORE
  | .BUS_CAN_TERM
  | .BUS_CAN_AUTO
  | .BUS_CAN_ADOPT
  | .BUS_CMAP_IDE
  | .BUS_CMAP_ORDER
  | .BUS_CMAP_E2E
  | .BUS_SER_TERM
  | .BUS_SER_CKSUM
  | .BUS_AO_MODE
  | .BUS_AI_MODE
  | .LOG_SNAP_ON
  | .PWR_SINGLE_INPUT => some (0, 1)
  | .REF_VAR_WINDOW => some (5, 120)
  | .REF_VAR_LIMIT => some ((1/20), 20)
  | .REF_PRED_GATE => some (4, 100)
  | .REF_PRED_COUNT
  | .HOLD_MPC_FAIL_FRAMES => some (1, 50)
  | .REF_MED_LIMIT
  | .REF_MED_LIMIT_DIR => some ((1/10), 50)
  | .REF_DIV_TAU
  | .EST_DR_LIMIT
  | .TMU_REVERT_TIME => some (10, 600)
  | .REF_DIV_LIMIT
  | .EST_PEER_DIFF
  | .EST_PEER_DIFF_HDG
  | .HOLD_MPC_POS_SCALE
  | .HOLD_MPC_HDG_SCALE
  | .HOLD_MPC_ROT_SCALE
  | .CQA_UNPROVEN_DELAY
  | .SAFE_BRK_TEST_ANG => some ((1/10), 10)
  | .REF_TRIAL_TIME => some (1, 120)
  | .REF_TRIAL_DR
  | .HOLD_SP_ROT
  | .APR_ARRIVE_HDG
  | .BPR_SPEED_TAU
  | .BPR_STALL_TIME
  | .ALC_T_TURN
  | .ALC_RES_TOL
  | .CQA_FEAS_TOL
  | .THR_AZ_FOLLOW_TIME
  | .THR_AZ_DIR_RATE => some ((1/2), 10)
  | .REF_SHADOW_FROM
  | .REF_SHADOW_TO
  | .BERTH_HDG
  | .ALC_DIR
  | .THR_ENC_OFFSET
  | .THR_GR_FROM
  | .THR_GR_TO => some (0, 360)
  | .REF_TARGET_N
  | .REF_TARGET_E
  | .BERTH_A_N
  | .BERTH_A_E
  | .BERTH_B_N
  | .BERTH_B_E => some ((-1000000), 1000000)
  | .EST_ORIGIN_LAT => some ((-90), 90)
  | .EST_ORIGIN_LON => some ((-180), 180)
  | .EST_ORIGIN_H => some ((-100), 1000)
  | .EST_M11
  | .EST_M22
  | .HOLD_FMAX_N => some (10000, 1000000000)
  | .EST_M33 => some (1000000, 10000000000000)
  | .EST_D11
  | .EST_D22
  | .EST_D33 => some (0, 1000000000)
  | .EST_WAVE_W0 => some ((3/10), (3/2))
  | .EST_WAVE_ZETA
  | .BPR_CLOSE_SPEED => some ((1/20), (1/2))
  | .EST_BIAS_TAU => some (100, 10000)
  | .EST_MAX_SHARE => some (30, 100)
  | .EST_MIN_POS_REFS => some (1, 6)
  | .EST_RESET_FRAMES
  | .SAT_HAL_SBAS => some (2, 50)
  | .EST_NOMRU_ANGLE
  | .ALC_W_AZ
  | .ALC_W_BERM => some (0, 10)
  | .EST_HDG_DR_LIMIT => some (5, 300)
  | .HOLD_FMAX_X
  | .HOLD_FMAX_Y
  | .PWR_CONS_RAMP => some (1000, 10000000)
  | .HOLD_DTAU_MAX_X
  | .HOLD_DTAU_MAX_Y
  | .HOLD_DTAU_MAX_N
  | .HOLD_MPC_TERM_W
  | .ALC_RAMP
  | .SAT_CLK_FJUMP
  | .TMU_SRV_TAU
  | .FIO_RETRY_MAX => some (1, 100)
  | .HOLD_JOY_DEADBAND => some (0, (1/5))
  | .HOLD_JOY_EXP => some (1, 3)
  | .HOLD_JOY_SCALE => some (10, 100)
  | .HOLD_JOY_RATE => some (5, 100)
  | .HOLD_DL_PERIOD_X
  | .HOLD_DL_PERIOD_Y
  | .SAT_WAKE_TIME => some (20, 300)
  | .HOLD_DL_PERIOD_N => some (10, 300)
  | .HOLD_DL_ZETA => some ((1/2), (3/2))
  | .HOLD_MPC_VEL_SCALE => some ((1/20), 2)
  | .HOLD_MPC_OK_FRAMES
  | .PWR_LIMIT_FRAMES
  | .THR_ANG_MAXAGE => some (10, 500)
  | .HOLD_SP_SPEED => some ((1/20), 1)
  | .HOLD_SP_MAX_STEP => some (1, 500)
  | .HOLD_EXC_WARN
  | .HOLD_EXC_ALARM => some ((1/2), 50)
  | .HOLD_WFF_GAIN
  | .ALC_W_POWER => some (0, 100)
  | .HOLD_AIR_RHO => some ((11/10), (7/5))
  | .HOLD_WIND_AF
  | .HOLD_WIND_AL => some (10, 20000)
  | .HOLD_WIND_L => some (10, 400)
  | .HOLD_WIND_CX
  | .HOLD_WIND_CY
  | .HOLD_WIND_CN => some ((-3), 3)
  | .HOLD_SIDE_OFFSET => some (1, 40)
  | .APR_SPEED => some ((1/10), (1029/1000))
  | .APR_DECEL => some ((1/500), (1/20))
  | .APR_XTRACK_LIMIT
  | .BERTH_STANDOFF
  | .ALC_SAT_TOL
  | .THR_ANG_DIS => some ((1/2), 20)
  | .APR_ARRIVE_DIST
  | .BPR_CONTACT_DIST
  | .THR_AZ_DIR_TIME => some ((1/10), 2)
  | .APR_ARRIVE_SPEED => some ((1/50), (3/10))
  | .BPR_FORCE
  | .BERTH_ALONG
  | .ALC_TREV
  | .PWR_FALL_FLOOR
  | .SAFE_BRK_TEST_T => some (0, 1000000)
  | .BPR_FORCE_MAX => some (10000, 1000000)
  | .BPR_SEAT_FORCE => some (5000, 100000)
  | .BPR_RAMP => some (1000, 50000)
  | .BPR_TOUCH_SPEED => some ((1/100), (1/10))
  | .BPR_CLOSE_GAIN
  | .BPR_LOSS_SPEED => some ((1/50), (1/2))
  | .BPR_STALL_SPEED => some ((1/200), (1/10))
  | .BPR_BAL_FRAC => some ((1/5), (9/10))
  | .BPR_LOSS_DIST => some ((1/5), 3)
  | .BPR_CONTACT_TIMEOUT => some (30, 600)
  | .ALC_TFWD => some (1000, 1000000)
  | .ALC_PRATED => some (10000, 10000000)
  | .ALC_KAPPA => some ((1/10000), 1)
  | .ALC_SECTION
  | .PWR_PORT
  | .PWR_PORT2
  | .FIO_MODE
  | .BUS_CMAP_PORT
  | .LOG_MIN_SEV => some (0, 4)
  | .ALC_RUD_MAX => some (10, 45)
  | .ALC_RUD_RATE
  | .PWR_FRESH_COUNT
  | .CQA_HORIZON => some (1, 10)
  | .ALC_W_DEV => some (1, 1000000)
  | .ALC_PWR_T_MIN
  | .SAT_RATE => some (1, 20)
  | .ALC_SAT_TIME
  | .CQA_CLEAR_TIME
  | .SAT_RTK_MAX_AGE
  | .TMU_LOCK_TIME
  | .BUS_RECOVER_TIMEOUT => some (1, 60)
  | .ALC_REPEAT_LIMIT => some (10, 250)
  | .ALC_BERM_TURN => some (20, 180)
  | .ALC_LEARN_TAU
  | .CMD_DORMANT_KEEP
  | .IMG_TRIAL_TIME => some (60, 86400)
  | .PWR_REGEN_TAU
  | .SAT_HAL_RTK => some ((1/10), 5)
  | .PWR_CONS_AVAIL
  | .PWR_CONS_REGEN => some (0, 10000000)
  | .CQA_ALARM_DELAY => some (0, 60)
  | .CQA_MIN_POS_REFS
  | .CQA_MIN_HDG_REFS
  | .THR_CAN_PORT
  | .SAT_MASTER_ANT
  | .SAFE_THR_STS => some (1, 4)
  | .CQA_ENV_CASE
  | .TMU_PTP_DOM => some (0, 127)
  | .CQA_ROOM_SECTIONS
  | .CQA_SECT
  | .CQA_ROOM
  | .SAFE_SIN_STS
  | .SAFE_SIN_BRK
  | .SAFE_SIN_SLT
  | .SAFE_SLT_STS
  | .SAFE_STOP_BRK => some (0, 15)
  | .CQA_NAME
  | .TMU_CAP_SOURCES
  | .PNT_SUBST_VAL
  | .PNT_PROD_NAME
  | .BUS_CAN_RATES
  | .BUS_CMAP_SCALE
  | .BUS_CMAP_OFS
  | .BUS_SER_TX
  | .BUS_SER_TALKER
  | .BUS_SMAP
  | .BUS_BIN
  | .BUS_450_GROUPS
  | .LOG_SNAP_LIST => none
  | .CQA_THR => some (0, 16777215)
  | .CQA_REF => some (0, 268435455)
  | .HEN_ALLOC_ITER
  | .HEN_MPC_ITER => some (4, 32)
  | .HEN_PIV_EXP => some (10, 40)
  | .THR_LINK
  | .THR_ENC_FMT
  | .TMU_PTP_ANN_LOG
  | .PNT_PROD_TRANSPORT
  | .SAFE_SIN_FUNC
  | .FIO_OUT_SRC
  | .BUS_SER_MODE => some (0, 2)
  | .THR_DRIVE_NODE
  | .THR_CAN_NODE => some (1, 253)
  | .THR_AO => some (0, 16)
  | .THR_AO_MAP
  | .THR_AI_MAP => some ((-1000000000), 1000000000)
  | .THR_AI => some (0, 32)
  | .THR_ENC_AZ
  | .THR_ENC_SHAFT
  | .SAFE_BRK_ENC
  | .SAFE_SLT_ENC
  | .BUS_CAN_DATA => some (0, 8)
  | .THR_ENC_BITS => some (10, 32)
  | .THR_ENC_CPR => some (64, 16777216)
  | .THR_ENC_DIR => some ((-1), 1)
  | .THR_GR_FADE
  | .SAT_ELEV_MASK => some (0, 30)
  | .THR_LOOKAHEAD => some (0, 500)
  | .THR_FB_TIMEOUT => some (40, 1000)
  | .THR_AZ_FOLLOW => some (2, 45)
  | .THR_T_DEV
  | .CMD_MIRROR_TIMEOUT => some (5, 50)
  | .THR_TX_DELTA => some ((1/5), 10)
  | .SAT_RTCM_PORT => some (0, 13)
  | .SAT_RTCM_UDP => some (1024, 65535)
  | .SAT_RAIM_PFA => some ((1/10000000), (1/1000))
  | .SAT_SPOOF_MIN => some (3, 8)
  | .SAT_CLK_JUMP
  | .TMU_LOCK_LIMIT => some (50, 10000)
  | .SAT_AGC_DROP => some (3, 30)
  | .SAT_BASE_TOL => some ((1/100), (1/2))
  | .SAT_OCXO_TAU
  | .SAFE_SIN_DISC => some (10, 1000)
  | .SAT_RETURN_CONFIRM => some (2, 60)
  | .SAT_RETURN_GATE
  | .TMU_PTP_ANN_TIMEOUT => some (2, 10)
  | .SAT_HO_RATE => some ((1/100000000000), (1/100000000))
  | .SAT_HO_TEMPCO => some (0, (1/1000000000))
  | .SAT_HO_AGING => some ((1/10000000000000000), (1/10000000000000))
  | .SAT_WAKE_INTERVAL => some (0, 240)
  | .TMU_PTP_SYNC_LOG => some ((-4), 0)
  | .TMU_PTP_DELAY_LOG => some ((-4), 2)
  | .TMU_PTP_MAX_CLASS => some (6, 248)
  | .TMU_GM_HO_LIMIT => some (100, 100000)
  | .TMU_BOUND_ALARM => some (1, 10000)
  | .PNT_PRODUCER => some (0, 513)
  | .PNT_TIMEOUT => some (0, 600000)
  | .PNT_PROD_ID => some (0, 4294967295)
  | .PNT_PROD_UDP => some (1, 65535)
  | .PNT_PROD_TIMEOUT => some (50, 600000)
  | .RED_ROTATE_HOURS
  | .SAFE_BRK_TEST_INT => some (1, 168)
  | .SAFE_STS_DELAY => some (0, 5000)
  | .SAFE_BRK_CHAN
  | .SAFE_SLT_CHAN => some (0, 24)
  | .SAFE_BRK_SET_SPEED => some (0, 20)
  | .SAFE_SLT_SPEED => some ((1/2), 200)
  | .SAFE_ENC_RES => some (0, 16777216)
  | .FIO_FILTER => some ((1/10), 20)
  | .FIO_OUT_CHAN => some (1, 24)
  | .BUS_CAN_NOM => some (125, 1000)
  | .BUS_CAN_SP_NOM
  | .BUS_CAN_SP_DATA => some (60, 90)
  | .BUS_DETECT_DWELL => some (100, 5000)
  | .BUS_NODE_FORGET => some (10, 86400)
  | .BUS_CMAP_ID
  | .BUS_CMAP_MASK => some (0, 536870911)
  | .BUS_CMAP_PROD => some (0, 511)
  | .BUS_CMAP_BYTE => some (0, 63)
  | .BUS_CMAP_ENC => some (0, 6)
  | .BUS_CMAP_POINT => some (32768, 131071)
  | .BUS_SER_BAUD => some (1200, 921600)
  | .BUS_SER_PARSER => some (1, 16)
  | .PWR_BASEPLATE_ALARM => some (60, 85)

/-- The step of a parameter where its table gives one. -/
def Param.stepSize (p : Param) : Option Rat :=
  match p with
  | .FRM_ALLOC_DEADLINE => some (1/2)
  | .SAFE_SIN_DISC => some 10
  | .FIO_FILTER => some (1/10)
  | _ => none

/-- The indices of a parameter, first and last; a plain parameter has index 0. Values per channel are indexed by the
channel, several values of one channel by (channel − 1) times their number, plus their place from 0. -/
def Param.indices (p : Param) : Nat × Nat :=
  match p with
  | .REF_KIND
  | .REF_SOURCE
  | .REF_LEVER_X
  | .REF_LEVER_Y
  | .REF_LEVER_Z
  | .REF_LATENCY
  | .REF_MAX_AGE
  | .REF_TIMEOUT
  | .REF_SIGMA
  | .REF_MIN_STATUS
  | .REF_FREEZE_TIME
  | .REF_FREEZE_TOL
  | .REF_VAR_WINDOW
  | .REF_VAR_LIMIT
  | .REF_PRED_GATE
  | .REF_PRED_COUNT
  | .REF_MED_LIMIT
  | .REF_MED_LIMIT_DIR
  | .REF_DIV_TAU
  | .REF_DIV_LIMIT
  | .REF_TRIAL_TIME
  | .REF_TRIAL_DR
  | .REF_LATCH
  | .REF_SHADOW_FROM
  | .REF_SHADOW_TO
  | .REF_RB
  | .REF_TARGET_N
  | .REF_TARGET_E => (0, 27)
  | .BERTH_A_N
  | .BERTH_A_E
  | .BERTH_B_N
  | .BERTH_B_E
  | .BERTH_HDG
  | .BERTH_SIDE
  | .BERTH_STANDOFF
  | .BERTH_ALONG
  | .TMU_CAP_SOURCES
  | .TMU_CAP_OWNER => (0, 7)
  | .ALC_X
  | .ALC_Y
  | .ALC_TFWD
  | .ALC_TREV
  | .ALC_PRATED
  | .ALC_KAPPA
  | .ALC_RAMP
  | .ALC_SLEW
  | .ALC_DIR
  | .ALC_SECTION
  | .ALC_RUD_K
  | .ALC_RUD_MAX
  | .ALC_RUD_RATE
  | .ALC_T_TURN
  | .THR_TYPE
  | .THR_LINK
  | .THR_CAN_PORT
  | .THR_DRIVE_NODE
  | .THR_ANG_AO_MODE
  | .THR_ENC_AZ
  | .THR_ENC_SHAFT
  | .THR_ENC_FMT
  | .THR_ENC_BITS
  | .THR_ENC_CLK
  | .THR_ENC_CPR
  | .THR_ENC_OFFSET
  | .THR_ENC_DIR
  | .THR_LOOKAHEAD
  | .THR_ANG_MAXAGE
  | .THR_ANG_DIS
  | .THR_FB_TIMEOUT
  | .THR_AZ_FOLLOW
  | .THR_AZ_FOLLOW_TIME
  | .THR_AZ_DIR_RATE
  | .THR_AZ_DIR_TIME
  | .THR_T_DEV
  | .THR_T_DEV_TIME
  | .THR_TX_DELTA
  | .SAFE_THR_STS
  | .SAFE_THR_FAIL_STS => (1, 24)
  | .PWR_PORT
  | .PWR_PORT2
  | .PWR_SRC
  | .PWR_SRC2
  | .PWR_CONS_AVAIL
  | .PWR_CONS_REGEN
  | .PWR_CONS_RAMP
  | .PWR_FALL_FLOOR
  | .CQA_ROOM_SECTIONS
  | .THR_CAN_NODE
  | .SAT_ANT_X
  | .SAT_ANT_Y
  | .SAT_ANT_Z
  | .SAT_ANT_USE
  | .SAT_ANT_BIAS
  | .SAFE_STS_USE
  | .SAFE_STS_DELAY
  | .SAFE_BRK_USE
  | .SAFE_BRK_CHAN
  | .SAFE_BRK_ENC
  | .SAFE_BRK_SET_SPEED
  | .SAFE_BRK_TEST_T
  | .SAFE_BRK_TEST_ANG
  | .SAFE_BRK_TEST_INT
  | .SAFE_SLT_CHAN
  | .SAFE_SLT_ENC
  | .SAFE_SLT_SPEED
  | .SAFE_SLT_TIME
  | .SAFE_SLT_STS
  | .BUS_CAN_NOM
  | .BUS_CAN_DATA
  | .BUS_CAN_SP_NOM
  | .BUS_CAN_SP_DATA
  | .BUS_CAN_TERM
  | .BUS_CAN_AUTO
  | .BUS_CAN_RATES
  | .BUS_CAN_ADOPT => (1, 4)
  | .CQA_NAME
  | .CQA_THR
  | .CQA_SECT
  | .CQA_ROOM
  | .CQA_REF
  | .CQA_ENABLE => (1, 127)
  | .THR_AO
  | .THR_AO_SHAPE
  | .THR_AI
  | .THR_AI_SHAPE => (0, 71)
  | .THR_AO_MAP
  | .THR_AI_MAP => (0, 287)
  | .THR_GR_FROM
  | .THR_GR_TO
  | .THR_GR_FADE => (0, 95)
  | .TMU_VC_SRC
  | .TMU_PTP_DOM
  | .TMU_PTP_PRIO1
  | .TMU_PTP_PRIO2 => (0, 1)
  | .PNT_TYPE
  | .PNT_PRODUCER
  | .PNT_TIMEOUT
  | .PNT_SUBST
  | .PNT_SUBST_VAL => (32768, 131071)
  | .PNT_PROD_TRANSPORT
  | .PNT_PROD_ID
  | .PNT_PROD_UDP
  | .PNT_PROD_TIMEOUT
  | .PNT_PROD_NAME => (0, 511)
  | .SAFE_SIN_FUNC
  | .SAFE_SIN_TP
  | .SAFE_SIN_DISC
  | .SAFE_SIN_STS
  | .SAFE_SIN_BRK
  | .SAFE_SIN_SLT
  | .SAFE_SIN_RESTART
  | .SAFE_ENC_FMT
  | .SAFE_ENC_RES
  | .FIO_G_RESTORE => (1, 8)
  | .FIO_MODE
  | .FIO_FILTER
  | .FIO_OUT_SRC
  | .FIO_OUT_CHAN
  | .FIO_OUT_PT
  | .FIO_FAILSAFE
  | .FIO_AUTH
  | .FIO_OPEN_DET => (1, 96)
  | .BUS_CMAP_PORT
  | .BUS_CMAP_IDE
  | .BUS_CMAP_ID
  | .BUS_CMAP_MASK
  | .BUS_CMAP_PROD
  | .BUS_CMAP_BYTE
  | .BUS_CMAP_ENC
  | .BUS_CMAP_ORDER
  | .BUS_CMAP_SCALE
  | .BUS_CMAP_OFS
  | .BUS_CMAP_POINT
  | .BUS_CMAP_E2E
  | .BUS_SMAP => (0, 1023)
  | .BUS_SER_MODE
  | .BUS_SER_PROTO
  | .BUS_SER_BAUD
  | .BUS_SER_FORMAT
  | .BUS_SER_TERM
  | .BUS_SER_CKSUM
  | .BUS_SER_PARSER
  | .BUS_SER_TX => (1, 12)
  | .BUS_BIN
  | .BUS_AO_MODE => (1, 16)
  | .BUS_AI_MODE => (1, 32)
  | .LOG_SNAP_ON
  | .LOG_SNAP_LIST => (1, 5)
  | _ => (0, 0)

/-- Whether a parameter's value is a list of numbers or a text. -/
def Param.listed (p : Param) : Bool :=
  match p with
  | .HOLD_WIND_CX
  | .HOLD_WIND_CY
  | .HOLD_WIND_CN
  | .CQA_NAME
  | .TMU_CAP_SOURCES
  | .PNT_PROD_NAME
  | .BUS_CAN_RATES
  | .BUS_SER_TX
  | .BUS_SER_TALKER
  | .BUS_SMAP
  | .BUS_BIN
  | .BUS_450_GROUPS
  | .LOG_SNAP_LIST => true
  | _ => false

/-! ### What the spec leaves open

Each constant below has no body: nothing in Lean can give it a value, and a statement about it holds for every value. -/

/-- A fresh free number, by the counter of the state. -/
opaque Config.freeRat : Nat → Rat

/-- A fresh free 32-bit word, by the counter of the state. -/
opaque Config.freeWord : Nat → Word

/-- Fresh free bytes, by the counter of the state and the length asked for. -/
opaque Config.freeByte : Nat → Nat → Byte

/-- Real functions on exact numbers: the spec uses them and no exact number gives their values (log 3). -/
opaque Config.sin : Rat → Rat
opaque Config.cos : Rat → Rat
opaque Config.tan : Rat → Rat
opaque Config.atan2 : Rat → Rat → Rat
opaque Config.sqrt : Rat → Rat
opaque Config.exp : Rat → Rat
opaque Config.ln : Rat → Rat
opaque Config.log10 : Rat → Rat
opaque Config.pow : Rat → Rat → Rat

/-- The parameter, and its index, that a record's number and index name: the catalogue of CFG_QUERY, which the spec does not print
(R584, log 71). -/
opaque Config.catalogue : Nat → Nat → Option (Param × Nat)

/-- The bytes of entry n of the catalogue, where it has one; 32 of them are sent (R592, log 71). -/
opaque Config.catalogueEntry : Nat → Option (List Byte)

/-- The length of a parameter's value in a record (R584, log 71). -/
opaque Config.valueLength : Param → Nat

/-- The code of a reason for which a body fails its validation (R592, log 72). -/
opaque Config.cfgReason : Nat → Nat

/-- The record that a failed rule over a whole body names: offset and parameter number (R592, log 72). -/
opaque Config.cfgPlace : List Byte → Nat → Nat × Nat

/-- The value of a configuration item from its bytes. -/
opaque Config.decodeValue : Param → List Byte → Rat

/-- The values of a list or text item from its bytes. -/
opaque Config.decodeList : Param → List Byte → List Rat

/-- Whether an ECDSA P-256 signature over a SHA-256 verifies with a key: key, hash, signature. R580 (log 76). -/
opaque Config.ecdsaOk : List Byte → List Byte → List Byte → Bool

/-- The public key of Clalek's images, as delivered in the key store. R580 (log 76). -/
opaque Config.clalekKey : List Byte

/-- The completion code of an image whose header is wrong, to which the spec gives none. R592 (log 77). -/
opaque Config.imgHeadCode : List Byte → Nat

/-- The mirror level of a domain's image that the peer is running: no message of the spec carries it. R581 (log 78). -/
opaque Config.peerLevel : Nat → Nat

/-- The IEEE 1588 clock identity of the unit (its MAC address is not the spec's, log 61). -/
opaque Config.clockIdentity : Dword

/-- IPv4 address of a unit of the installation (log 79). -/
opaque Config.unitIp : Nat → Nat

/-- Bits 2:0 of the capability bits of the one entry for 24 thruster channels, by their types: R368 words them for one channel (log 83). -/
opaque Config.thrCap : List Nat → Nat

end Sys2Proof
end

