-- ==== Sys2Proof/Machine/CommandState.lean ====
section
/-!
DEFINITION. State of the time unit and of the command interface with its journal (spec/10, 11).
-/
namespace Sys2Proof.Machine

/-- Sources of a virtual clock. spec/10 R307. -/
inductive VcSrc where
  | none | ptp | sat | pps
  deriving DecidableEq, Repr

/-- The raw counter. spec/10 R304. -/
structure RawSt where
  incr : Word := 0x40000000 -- R305: 4.28 fixed point
  baseAt : Nat := 0 -- R304: instant the count below belongs to
  base : Nat := 0 -- R304: count at that instant in units of 2^-28 ns, wrap included
  deriving DecidableEq, Repr

/-- An IEEE 1588 Announce data set. spec/10 R317. -/
structure PtpAnnounce where
  domain : Nat := 0
  prio1 : Nat := 128
  cls : Nat := 248
  accuracy : Nat := 0xFE
  variance : Nat := 0xFFFF
  prio2 : Nat := 128
  gmId : Dword := 0
  stepsRemoved : Nat := 0
  sender : Nat := 0
  traceable : Bool := false
  utcOffset : Option Int := none
  deriving DecidableEq, Repr

/-- One virtual clock and its servo block. spec/10 R306–R311, R328. -/
structure VcSt where
  ofs : Int := 0 -- R328 OFS: signed 64-bit ns
  ref : Nat := 0 -- R328 REF: raw count
  rate : Int := 0 -- R328 RATE: units of 2^-40, ±9,895,604
  tau : Nat := 8 -- R328 CTRL.TAU
  freeze : Bool := false -- R328 CTRL.FREEZE
  stepArm : Bool := false -- R328 CTRL.STEP_ARM
  qual : Nat := 0 -- R307: 0 NONE, 1 LOCKED, 2 HOLDOVER, 3 SLEWING
  src : VcSrc := .none -- R307: source followed
  srcPresent : Bool := false -- R307
  srcPresentAt : Option Nat := none -- R314: instant since which the configured source is present
  stepPending : Bool := false -- R310
  stepE : Int := 0 -- R309: offset of the step that waits
  stepAllowed : Bool := false -- R310: TIME_STEP_ALLOW names the clock
  gm : Bool := false -- R317
  fallback : Bool := false -- R314
  stepGen : Nat := 0 -- R328, modulo 16
  steps : Word := 0 -- R329
  lastStepAt : Option Nat := none -- R309: at most one step in 5 s
  integ : Rat := 0 -- R308: integral of the offset over time, s²
  lastOff : Int := 0 -- R329: last offset used, ns
  lastOffAt : Nat := 0 -- R308
  recent : List Int := [] -- R308: last 8 offset samples, newest first
  hist : List (Nat × Int × Rat × Bool) := [] -- R311: offsets and rates of the last 60 s: instant, offset, rate, LOCKED
  delays : List Rat := [] -- R308: last 8 path delay measurements
  discards : Word := 0 -- R308: discarded samples
  lockSince : Option Nat := none -- R308: every offset within TMU_LOCK_LIMIT since
  everLocked : Bool := false -- R311
  hoStart : Nat := 0 -- R311
  b0 : Rat := 0 -- R311, ns
  hoT : Rat := 25 -- R292, R311: baseplate temperature at entry, °C
  hoDT : Rat := 0 -- R292, R311: largest change of it since entry, K
  discardNew : Nat := 0 -- R318: samples of a new master still to discard
  gmId : Dword := 0 -- R318: clock identity of the master
  gmClass : Nat := 0 -- R329
  syncLog : Int := -3 -- R307: interval the master announces
  lastSync : Nat := 0 -- R307
  lastAnnounce : Nat := 0 -- R307
  portState : List Nat := [1, 1] -- R329: IEEE 1588 portState of LAN-A and LAN-B
  portToMaster : Nat := 0 -- R318: port towards the master
  master : Nat := 0 -- R307: port identity of the chosen master, whose Syncs count
  relay : Option PtpAnnounce := none -- R317: the chosen master's last Announce
  best : List (Nat × Nat × List Nat) := [] -- R317: foreign masters: port, receipt instant, data set in comparison order
  ppsLast : Option Nat := none -- R307: last PPS_IN edge
  deriving DecidableEq, Repr

/-- A capture entry. spec/10 R320, R328. -/
structure CapEntry where
  ns : Word := 0 -- R328 DATA0
  source : Nat := 0 -- R321
  rising : Bool := false -- R328 EDGE
  raw : Nat := 0 -- R320: raw time of the capture
  gen : Nat := 0 -- R320: steps of the selected clock at the capture
  overrun : Bool := false -- R320
  aged : Bool := false -- R320
  deriving DecidableEq, Repr

/-- One capture FIFO. spec/10 R320, R328. -/
structure CapFifo where
  q : List CapEntry := [] -- R328: oldest first, at most 256
  latched : Option CapEntry := none -- R328: entry latched by a DATA0 read
  ovr : Bool := false -- R328 STAT.OVR
  lost : Bool := false -- R320: OVERRUN goes into the next entry stored
  deriving DecidableEq, Repr

/-- One pulse output. spec/10 R325–R327, R328. -/
structure PulseOut where
  start : Nat := 0 -- R328 START
  period : Nat := 0 -- R328 PERIOD
  width : Nat := 100000 -- R328 WIDTH
  clk : Nat := 0 -- R328 CTRL.CLK
  pol : Bool := false -- R328 CTRL.POL
  armed : Bool := false -- R328
  past : Bool := false -- R328 STAT.PAST
  abortedF : Bool := false -- R328 STAT.ABORTED
  suppressed : Bool := false -- R328 STAT.SUPPRESSED
  late : Bool := false -- R328 STAT.LATE
  count : Byte := 0 -- R328 STAT.COUNT
  next : Nat := 0 -- R325: next scheduled instant on the output's clock
  high : Bool := false -- R325: the output is in its width
  endAt : Nat := 0 -- R327: end of the width
  lastEdgeRaw : Option Nat := none -- R326: last leading edge, raw counter
  armAfter : Bool := false -- R327: armed during a width; takes effect after it
  deriving DecidableEq, Repr

/-- Latched HI words of one requester. spec/10 R319. -/
structure HiLatch where
  sel : Word := 0 -- R319 TMU_SEL_HI
  vc0 : Word := 0 -- R319 TMU_VC0_HI
  vc1 : Word := 0 -- R319 TMU_VC1_HI
  raw : Word := 0 -- R319 TMU_RAW_HI
  deriving DecidableEq, Repr

/-- The time unit. spec/10. -/
structure TmuSt where
  raw : RawSt := {} -- R304
  vc0 : VcSt := {} -- R306
  vc1 : VcSt := {} -- R306
  selVc : Nat := 0 -- R312: VC_k followed
  selD : Rat := 0 -- R312: d at the anchor, ns
  selDRaw : Nat := 0 -- R312: raw count of the anchor
  force : Nat := 0 -- R328 CTRL.SEL_FORCE
  revert : Bool := false -- R328 CTRL.REVERT
  fallbackSat : Bool := true -- R328 CTRL.FALLBACK_SAT
  selGen : Nat := 0 -- R328 SEL_STAT.STEP_GEN
  pre : Nat := 0 -- R320 SEL_PRE: selected clock before its last step
  switchTo : Option Nat := none -- R313: clock to follow from the next frame start
  stepThisFrame : Bool := false -- R315: a step was applied since the last frame start
  vc0PresentSince : Option Nat := none -- R313: for TMU_REVERT_TIME
  hi : List HiLatch := [{}, {}, {}] -- R319: APP-0, APP-1, partition
  caps : List CapFifo := List.replicate 8 {} -- R328
  capOverrun : Word := 0 -- R329 point 2837
  capAged : Word := 0 -- R329 point 2838
  pulses : List PulseOut := List.replicate 6 {} -- R325: PPS_OUT, TPO1–TPO4, FRAME_OUT
  ptpSeq : Nat := 0 -- R316: sequence number of messages sent
  ptpSent : List (Nat × Nat) := [] -- R316: instant of the last message by clock, port and kind
  utcOffset : Option Int := none -- R317: currentUtcOffset once SAT has decoded it
  deriving DecidableEq, Repr

/-- Roles of a session. spec/11 R342. -/
inductive Role where
  | operator | engineer | service
  deriving DecidableEq, Repr

/-- Interfaces that carry commands. spec/11 R333. -/
inductive Iface where
  | lan | svc
  deriving DecidableEq, Repr

/-- A packet held for a sequence gap. spec/11 R346. -/
structure HeldPkt where
  seq : Nat := 0 -- R346
  opcode : Nat := 0 -- R346
  params : List Byte := [] -- R346
  at_ : Nat := 0 -- R346: arrival
  iface : Iface := .lan -- R333
  addr : Nat := 0 -- R333: source address
  port : Nat := 0 -- R333: source port
  deriving DecidableEq, Repr

/-- A kept reply. spec/11 R353. -/
structure KeptReply where
  seq : Nat := 0 -- R353
  opcode : Nat := 0 -- R353
  status : Nat := 0 -- R338
  flags : Nat := 0 -- R336
  epoch : Word := 0 -- R335
  params : Option (List Byte) := none -- R353; none: no longer held
  complete : Bool := true -- R352: false while an ACCEPTED command is outstanding
  deriving DecidableEq, Repr

/-- One session slot. spec/11 R340–R346. -/
structure Session where
  num : Nat := 0 -- R343
  client : Nat := 0 -- R335
  pair : Bool := true -- R340
  role : Role := .operator -- R342
  auth : Bool := false -- R342
  keyLoad : Bool := false -- R342: the key-loading session of module replacement
  key : List Byte := [] -- R342: k_s
  e : Nat := 1 -- R346: next expected sequence number
  dormant : Bool := false -- R344
  closing : Bool := false -- R344
  lastValid : Nat := 0 -- R344
  dormantAt : Nat := 0 -- R344
  held : List HeldPkt := [] -- R346
  replies : List KeptReply := [] -- R353: newest first, at most 1,024
  words : List (Nat × Nat × Nat) := [] -- R347: status words: slot, status, ring block
  openNonce : List Byte := [] -- R343
  openAt : Nat := 0 -- R343
  openSess : Nat := 0 -- R343: session field of the OPEN_SESSION, 0 of a new session
  openReply : KeptReply := {} -- R343: reply of the OPEN_SESSION
  iface : Iface := .lan -- R333: of the newest valid packet
  addr : Nat := 0 -- R333
  port : Nat := 0 -- R333
  deriving DecidableEq, Repr

/-- States of a journal entry. spec/11 R348. -/
inductive JState where
  | journalled | applied | complete | refused
  deriving DecidableEq, Repr

/-- One journal entry. spec/11 R348. -/
structure JEntry where
  num : Nat := 0 -- R348
  client : Nat := 0 -- R348
  session : Nat := 0 -- R348
  seq : Nat := 0 -- R348
  opcode : Nat := 0 -- R348
  status : Nat := 0 -- R348
  state : JState := .journalled -- R348
  mirrored : Bool := false -- R348
  single : Bool := false -- R348
  unitOp : Bool := false -- R348
  accepted : Bool := false -- R348: ACCEPTED type
  params : List Byte := [] -- R348
  reply : List Byte := [] -- R348
  frame : Nat := 0 -- R348
  time : Nat := 0 -- R348
  epoch : Word := 0 -- R348
  closed : Bool := false -- R353: its session is closed or reclaimed
  block : Nat := 0 -- R347: ring block of its header
  deriving DecidableEq, Repr

/-- A command between its checks and its reply. spec/11 R349. -/
structure InFlight where
  jnum : Nat := 0 -- R349: journal number
  session : Nat := 0 -- R349
  sentAt : Nat := 0 -- R351
  exec : Bool := true -- R349: step 3 follows the acknowledgement
  deriving DecidableEq, Repr

/-- Command interface and journal. spec/11. -/
structure CmdSt where
  sessions : List Session := [] -- R340: slots in use, at most 256
  nextSession : Nat := 1 -- R343
  journal : List JEntry := [] -- R348: entries held, oldest first
  jnum : Nat := 0 -- R347: newest journal number
  jtail : Nat := 0 -- R347: next ring block
  inflight : List InFlight := [] -- R349: entries awaiting the peer
  peerPresent : Bool := false -- R351
  resync : Bool := false -- R351: resynchronisation runs
  pairAuth : Bool := false -- R341: decided at each fence
  pairHolder : Option Nat := none -- R341: unit that holds it, 0 A, 1 B, 2 W; none unknown
  discarded : Word := 0 -- R334
  netUntil : Nat := 0 -- R334: instant at which the datagrams received are processed, 500 µs each
  retransmits : Word := 0 -- R336
  acceptedCnt : Word := 0 -- R361 point 2949
  replayed : Word := 0 -- R361 point 2950
  seqGaps : Word := 0 -- R361 point 2951
  badCrc : Word := 0 -- R361 point 2952
  badAuth : Word := 0 -- R361 point 2953
  journalFull : Word := 0 -- R361 point 2954
  mirrorMax : Nat := 0 -- R361 point 2948: longest acknowledgement of the previous frame, ns
  mirrorMaxNow : Nat := 0 -- R361: of the frame in progress
  errReplies : List (Nat × Nat) := [] -- R339: source address and instant of error replies of the last second
  errSuppressed : Word := 0 -- R339: error replies not sent
  badAuthAt : List Nat := [] -- R362: instants of BAD_AUTH of the last 60 s
  accepted : List (Nat × Nat) := [] -- R352: outstanding ACCEPTED commands: session, sequence
  replayDone : Bool := true -- R355: entries of the start have been handled
  toApply : List Nat := [] -- R356: mirrored entries that no applied mirror has marked APPLIED
  takeoverDue : Bool := false -- R356: mirrored entries are to be applied at the first fence after a takeover
  deriving DecidableEq, Repr

end Sys2Proof.Machine
end

