-- ==== Sys2Proof/Machine/Events.lean ====
section
/-!
DEFINITION. The events the module records: every alarm and every record the spec names, with its block (spec/18 R519) and
its severity. Records the spec asks for without a name carry a name of the model's own (log 41).
-/
namespace Sys2Proof.Machine

/-- The events and alarms of the module, with the rule that names each. -/
inductive EvCode where
  | POWER_FAIL -- R550
  | SUPPLY_LOW -- R548
  | VL_INPUT_LOST -- R547
  | SUPPLY_HIGH -- R547
  | BASEPLATE_HOT -- R569
  | RESET_PIN -- R552
  | RESET_HELD -- R553
  | KEEP_DATA_LOST -- R564
  | KEY_LOST -- R564
  | MODE_CHANGE -- R574
  | HOLD_NOT_GRANTED -- R575
  | DOMAIN_FAILED -- R591
  | SERVICE_ACTIVE -- R591
  | LOCKSTEP_MISMATCH -- R11
  | DRAM_VIOLATION -- R13
  | DRAM_ECC_UNCORR -- R14
  | IMG_FALLBACK -- R582
  | DIS_DOMAIN -- R25
  | FRAME_SKEW -- R40
  | FRAME_EST_LATE -- R43
  | FRAME_STALL -- R47
  | FRAME_STALL_LIMIT -- R47
  | FRAME_RENUMBER -- R52
  | REF_REJECTED -- R91
  | REF_DISAGREE -- R91
  | POS_REF_LOW -- R91
  | POS_DR -- R91
  | POS_LOST -- R91
  | HDG_DR -- R91
  | HDG_LOST -- R91
  | EST_RESET -- R91
  | EST_PEER_DIFF -- R91
  | HOLD_TRANSITION -- R97
  | POS_EXC_WARN -- R131
  | HDG_EXC_WARN -- R131
  | POS_EXCURSION -- R131
  | HDG_EXCURSION -- R131
  | JOY_INPUT_BAD -- R131
  | MPC_FAIL -- R131
  | HOLD_DEGRADED -- R131
  | APR_XTRACK -- R131
  | BPR_NO_CONTACT -- R131
  | BPR_CONTACT_LOST -- R131
  | ALLOC_REPEAT -- R163
  | ALLOC_STALLED -- R163
  | ALLOC_SATURATED -- R163
  | PWR_ENV_STALE -- R163
  | PWR_ENV_LIMIT -- R163
  | PWR_MSG_BAD -- R163
  | PWR_TIE_MISMATCH -- R163
  | ALC_LEARN_LIMIT -- R163
  | ALC_LEARN_BAD -- R157
  | CONSEQUENCE -- R192
  | CQA_CASE_BREACH -- R182
  | CQA_CASE_CLEAR -- R183
  | CQA_UNPROVEN -- R192
  | HEN_MEMERR -- R223
  | HEN_CL_FAULT -- R223
  | DIS_HEN_QUEUE -- R25
  | DIS_HEN_CLUSTER -- R25
  | THR_FAILED -- R269
  | THR_UNAVAILABLE -- R269
  | THR_DEGRADED -- R269
  | DIS_THR -- R25
  | SAT_RAIM_EXCL -- R301
  | SAT_RAIM_FAIL -- R301
  | SAT_HPL -- R301
  | SAT_SPOOF -- R301
  | TIME_INCONSISTENT -- R301
  | SAT_JAMMING -- R301
  | SAT_HOLDOVER -- R301
  | ANT_OPEN -- R301
  | ANT_SHORT -- R301
  | ANT_GEOMETRY -- R301
  | SAT_WAKE_FAIL -- R297
  | TIME_BOUND_EXCEEDED -- R293
  | SAT_RETAINED_BAD -- R298
  | TIME_STEP -- R309
  | TIME_FRAME_SWITCH -- R313
  | PTP_GM_CHANGE -- R318
  | TIME_SRC_LOST -- R330
  | TIME_FRAME_HOLDOVER -- R330
  | TIME_STEP_PENDING -- R330
  | TIME_BOUND -- R330
  | DIS_PULSE -- R25
  | JOURNAL_MIRROR_LOST -- R362
  | JOURNAL_LOW -- R362
  | CMD_AUTH_FAIL -- R362
  | CMD_UNIT_ABORTED -- R356
  | PNT_UNKNOWN -- R377
  | PNT_PRODUCER_LOST -- R378
  | PNT_PRODUCER_BACK -- R378
  | PRODUCER_SILENT -- R386
  | PNT_FORCED -- R386
  | TAKEOVER -- R419
  | PEER_LOST -- R419
  | W_LOST -- R419
  | XLP_LOST -- R419
  | LEASE_SUSPENDED -- R419
  | SILENCED -- R419
  | TAKEOVER_CHECK_FAIL -- R419
  | ROLE_RELAY_FAULT -- R419
  | UID_CONFLICT -- R419
  | UID_CHANGED -- R388
  | ROTATE_DUE -- R419
  | SAFE_DEMAND -- R452
  | SAFE_STOP_EV -- R452
  | SAFE_STOP_END -- R452
  | SAFE_FAULT_EV -- R452
  | SAFE_STOP_ACTIVE -- R452
  | SAFE_FAULT -- R452
  | SAFE_PATH_FAULT -- R452
  | BRAKE_TEST_OVERDUE -- R452
  | BRAKE_TEST_FAIL -- R452
  | BRAKE_TEST_PASS -- R437
  | SAFE_CFG_DIFFERS -- R452
  | SAFE_CFG_CONFIRMED -- R448
  | SSUP_LOW -- R452
  | FIO_SUPPLY_LOW -- R469
  | FIO_SUPPLY_MISSING -- R469
  | FIO_RESTORE_WAIT -- R469
  | FIO_WIRE_BREAK -- R469
  | FIO_BACKFED -- R469
  | FIO_OVERLOAD -- R469
  | FIO_GROUP_OVERLOAD -- R469
  | FIO_OPEN_LOAD -- R469
  | DIS_FIO -- R25
  | CAN_ERROR_PASSIVE -- R497
  | CAN_BUS_OFF -- R497
  | IDENTIFIER_CLASH -- R497
  | CAN_RATE_UNKNOWN -- R497
  | CAN_RX_OVERRUN -- R497
  | CAN_NODE_TABLE_FULL -- R488
  | SER_RX_ERROR -- R497
  | DIS_MAILBOX -- R25
  | DIS_SERIAL -- R25
  | LOG_FREEZE -- R530
  | LOG_THAW -- R531
  | LOG_FROZEN -- R530
  | LOG_FLOOD -- R540
  | LOG_FULL -- R540
  | LOG_MEM_FAIL -- R535
  | LOG_MEM_FAULT -- R540
  | LOG_SNAP_FAULT -- R540
  | LOG_TORN_RECOVERED -- R524
  | LOG_QUEUE_LOST -- R537
  | DIS_DMA -- R25
  | CFG_COPY_BAD -- R564
  | CFG_BASE_SET -- R569
  | CFG_APPLY_FAIL -- R591
  | CFG_FACTORY_EV -- R570
  | PARTITION_VIOLATION -- R19
  | PARTITION_RESTART -- R20
  | PARTITION_STOPPED -- R20
  | DIS_PARTITION -- R25
  deriving DecidableEq, Repr

/-- The severity of a record to which the spec gives none. -/
opaque Config.openSeverity : EvCode → Nat

/-- Numbers of the event codes within their blocks, which the spec does not print (R519). -/
opaque Config.eventNumber : EvCode → Nat

/-- The block of an event code. spec/18 R519. -/
def EvCode.block (e : EvCode) : Nat :=
  match e with
  | .POWER_FAIL
  | .SUPPLY_LOW
  | .VL_INPUT_LOST
  | .SUPPLY_HIGH
  | .BASEPLATE_HOT
  | .RESET_PIN
  | .RESET_HELD
  | .KEEP_DATA_LOST
  | .KEY_LOST
  | .MODE_CHANGE
  | .HOLD_NOT_GRANTED
  | .DOMAIN_FAILED
  | .SERVICE_ACTIVE
  | .LOCKSTEP_MISMATCH
  | .DRAM_VIOLATION
  | .DRAM_ECC_UNCORR
  | .IMG_FALLBACK
  | .DIS_DOMAIN => 0x0
  | .FRAME_SKEW
  | .FRAME_EST_LATE
  | .FRAME_STALL
  | .FRAME_STALL_LIMIT
  | .FRAME_RENUMBER => 0x1
  | .REF_REJECTED
  | .REF_DISAGREE
  | .POS_REF_LOW
  | .POS_DR
  | .POS_LOST
  | .HDG_DR
  | .HDG_LOST
  | .EST_RESET
  | .EST_PEER_DIFF => 0x2
  | .HOLD_TRANSITION
  | .POS_EXC_WARN
  | .HDG_EXC_WARN
  | .POS_EXCURSION
  | .HDG_EXCURSION
  | .JOY_INPUT_BAD
  | .MPC_FAIL
  | .HOLD_DEGRADED
  | .APR_XTRACK
  | .BPR_NO_CONTACT
  | .BPR_CONTACT_LOST => 0x3
  | .ALLOC_REPEAT
  | .ALLOC_STALLED
  | .ALLOC_SATURATED
  | .PWR_ENV_STALE
  | .PWR_ENV_LIMIT
  | .PWR_MSG_BAD
  | .PWR_TIE_MISMATCH
  | .ALC_LEARN_LIMIT
  | .ALC_LEARN_BAD => 0x4
  | .CONSEQUENCE
  | .CQA_CASE_BREACH
  | .CQA_CASE_CLEAR
  | .CQA_UNPROVEN => 0x5
  | .HEN_MEMERR
  | .HEN_CL_FAULT
  | .DIS_HEN_QUEUE
  | .DIS_HEN_CLUSTER => 0x6
  | .THR_FAILED
  | .THR_UNAVAILABLE
  | .THR_DEGRADED
  | .DIS_THR => 0x7
  | .SAT_RAIM_EXCL
  | .SAT_RAIM_FAIL
  | .SAT_HPL
  | .SAT_SPOOF
  | .TIME_INCONSISTENT
  | .SAT_JAMMING
  | .SAT_HOLDOVER
  | .ANT_OPEN
  | .ANT_SHORT
  | .ANT_GEOMETRY
  | .SAT_WAKE_FAIL
  | .TIME_BOUND_EXCEEDED
  | .SAT_RETAINED_BAD => 0x8
  | .TIME_STEP
  | .TIME_FRAME_SWITCH
  | .PTP_GM_CHANGE
  | .TIME_SRC_LOST
  | .TIME_FRAME_HOLDOVER
  | .TIME_STEP_PENDING
  | .TIME_BOUND
  | .DIS_PULSE => 0x9
  | .JOURNAL_MIRROR_LOST
  | .JOURNAL_LOW
  | .CMD_AUTH_FAIL
  | .CMD_UNIT_ABORTED
  | .PNT_UNKNOWN
  | .PNT_PRODUCER_LOST
  | .PNT_PRODUCER_BACK
  | .PRODUCER_SILENT
  | .PNT_FORCED => 0xA
  | .TAKEOVER
  | .PEER_LOST
  | .W_LOST
  | .XLP_LOST
  | .LEASE_SUSPENDED
  | .SILENCED
  | .TAKEOVER_CHECK_FAIL
  | .ROLE_RELAY_FAULT
  | .UID_CONFLICT
  | .UID_CHANGED
  | .ROTATE_DUE => 0xB
  | .SAFE_DEMAND
  | .SAFE_STOP_EV
  | .SAFE_STOP_END
  | .SAFE_FAULT_EV
  | .SAFE_STOP_ACTIVE
  | .SAFE_FAULT
  | .SAFE_PATH_FAULT
  | .BRAKE_TEST_OVERDUE
  | .BRAKE_TEST_FAIL
  | .BRAKE_TEST_PASS
  | .SAFE_CFG_DIFFERS
  | .SAFE_CFG_CONFIRMED
  | .SSUP_LOW => 0xC
  | .FIO_SUPPLY_LOW
  | .FIO_SUPPLY_MISSING
  | .FIO_RESTORE_WAIT
  | .FIO_WIRE_BREAK
  | .FIO_BACKFED
  | .FIO_OVERLOAD
  | .FIO_GROUP_OVERLOAD
  | .FIO_OPEN_LOAD
  | .DIS_FIO
  | .CAN_ERROR_PASSIVE
  | .CAN_BUS_OFF
  | .IDENTIFIER_CLASH
  | .CAN_RATE_UNKNOWN
  | .CAN_RX_OVERRUN
  | .CAN_NODE_TABLE_FULL
  | .SER_RX_ERROR
  | .DIS_MAILBOX
  | .DIS_SERIAL => 0xD
  | .LOG_FREEZE
  | .LOG_THAW
  | .LOG_FROZEN
  | .LOG_FLOOD
  | .LOG_FULL
  | .LOG_MEM_FAIL
  | .LOG_MEM_FAULT
  | .LOG_SNAP_FAULT
  | .LOG_TORN_RECOVERED
  | .LOG_QUEUE_LOST
  | .DIS_DMA => 0xE
  | .CFG_COPY_BAD
  | .CFG_BASE_SET
  | .CFG_APPLY_FAIL
  | .CFG_FACTORY_EV
  | .PARTITION_VIOLATION
  | .PARTITION_RESTART
  | .PARTITION_STOPPED
  | .DIS_PARTITION => 0xF

/-- The severity of an event; none where the spec gives none. -/
def EvCode.sev (e : EvCode) : Option Nat :=
  match e with
  | .HOLD_TRANSITION
  | .PNT_UNKNOWN
  | .PNT_PRODUCER_BACK => some 2
  | .MODE_CHANGE
  | .SERVICE_ACTIVE
  | .DIS_DOMAIN
  | .FRAME_RENUMBER
  | .PWR_ENV_LIMIT
  | .PWR_MSG_BAD
  | .PWR_TIE_MISMATCH
  | .ALC_LEARN_LIMIT
  | .DIS_HEN_QUEUE
  | .DIS_HEN_CLUSTER
  | .DIS_THR
  | .SAT_RAIM_EXCL
  | .SAT_WAKE_FAIL
  | .TIME_FRAME_SWITCH
  | .PTP_GM_CHANGE
  | .DIS_PULSE
  | .PNT_FORCED
  | .XLP_LOST
  | .ROTATE_DUE
  | .FIO_RESTORE_WAIT
  | .FIO_OPEN_LOAD
  | .DIS_FIO
  | .CAN_RX_OVERRUN
  | .CAN_NODE_TABLE_FULL
  | .SER_RX_ERROR
  | .DIS_MAILBOX
  | .DIS_SERIAL
  | .LOG_FREEZE
  | .LOG_THAW
  | .LOG_FROZEN
  | .DIS_DMA
  | .PARTITION_VIOLATION
  | .DIS_PARTITION => some 3
  | .SUPPLY_LOW
  | .VL_INPUT_LOST
  | .SUPPLY_HIGH
  | .RESET_PIN
  | .RESET_HELD
  | .HOLD_NOT_GRANTED
  | .FRAME_SKEW
  | .FRAME_EST_LATE
  | .REF_REJECTED
  | .REF_DISAGREE
  | .POS_REF_LOW
  | .EST_RESET
  | .EST_PEER_DIFF
  | .POS_EXC_WARN
  | .HDG_EXC_WARN
  | .APR_XTRACK
  | .BPR_NO_CONTACT
  | .ALLOC_SATURATED
  | .PWR_ENV_STALE
  | .CQA_CASE_CLEAR
  | .CQA_UNPROVEN
  | .THR_UNAVAILABLE
  | .THR_DEGRADED
  | .SAT_HPL
  | .SAT_JAMMING
  | .SAT_HOLDOVER
  | .ANT_OPEN
  | .ANT_SHORT
  | .ANT_GEOMETRY
  | .TIME_STEP
  | .TIME_SRC_LOST
  | .TIME_STEP_PENDING
  | .JOURNAL_LOW
  | .CMD_AUTH_FAIL
  | .PNT_PRODUCER_LOST
  | .PRODUCER_SILENT
  | .W_LOST
  | .UID_CHANGED
  | .BRAKE_TEST_OVERDUE
  | .SAFE_CFG_DIFFERS
  | .FIO_SUPPLY_LOW
  | .FIO_WIRE_BREAK
  | .FIO_OVERLOAD
  | .CAN_ERROR_PASSIVE
  | .CAN_RATE_UNKNOWN
  | .LOG_FLOOD
  | .LOG_FULL
  | .CFG_COPY_BAD
  | .CFG_FACTORY_EV
  | .PARTITION_RESTART => some 4
  | .POWER_FAIL
  | .BASEPLATE_HOT
  | .DOMAIN_FAILED
  | .IMG_FALLBACK
  | .FRAME_STALL
  | .POS_DR
  | .HDG_DR
  | .POS_EXCURSION
  | .HDG_EXCURSION
  | .JOY_INPUT_BAD
  | .MPC_FAIL
  | .HOLD_DEGRADED
  | .BPR_CONTACT_LOST
  | .ALLOC_REPEAT
  | .CONSEQUENCE
  | .CQA_CASE_BREACH
  | .HEN_MEMERR
  | .HEN_CL_FAULT
  | .THR_FAILED
  | .SAT_RAIM_FAIL
  | .TIME_INCONSISTENT
  | .TIME_FRAME_HOLDOVER
  | .TIME_BOUND
  | .JOURNAL_MIRROR_LOST
  | .TAKEOVER
  | .PEER_LOST
  | .LEASE_SUSPENDED
  | .ROLE_RELAY_FAULT
  | .SAFE_STOP_ACTIVE
  | .SSUP_LOW
  | .FIO_SUPPLY_MISSING
  | .FIO_BACKFED
  | .FIO_GROUP_OVERLOAD
  | .CAN_BUS_OFF
  | .IDENTIFIER_CLASH
  | .LOG_SNAP_FAULT
  | .LOG_QUEUE_LOST => some 5
  | .KEEP_DATA_LOST
  | .KEY_LOST
  | .LOCKSTEP_MISMATCH
  | .FRAME_STALL_LIMIT
  | .POS_LOST
  | .HDG_LOST
  | .ALLOC_STALLED
  | .SAT_SPOOF
  | .SILENCED
  | .TAKEOVER_CHECK_FAIL
  | .UID_CONFLICT
  | .SAFE_FAULT
  | .LOG_MEM_FAIL
  | .LOG_MEM_FAULT
  | .CFG_BASE_SET
  | .CFG_APPLY_FAIL => some 6
  | .SAFE_DEMAND
  | .SAFE_STOP_EV
  | .SAFE_STOP_END
  | .SAFE_FAULT_EV
  | .SAFE_PATH_FAULT
  | .BRAKE_TEST_FAIL
  | .SAFE_CFG_CONFIRMED => some 7
  | .DRAM_VIOLATION
  | .DRAM_ECC_UNCORR
  | .ALC_LEARN_BAD
  | .TIME_BOUND_EXCEEDED
  | .SAT_RETAINED_BAD
  | .CMD_UNIT_ABORTED
  | .BRAKE_TEST_PASS
  | .LOG_TORN_RECOVERED
  | .PARTITION_STOPPED => none

/-- The severity an event is recorded at. spec/18 R518. -/
def EvCode.severity (e : EvCode) : Nat := e.sev.getD (Config.openSeverity e)

/-- The event code: block in bits 15:12, number in bits 11:0. spec/18 R517. -/
def EvCode.code (e : EvCode) : Half := BitVec.ofNat 16 (e.block * 4096 + Config.eventNumber e % 4096)

/-- Events 0 to 7 in the order of LOG_CODES. -/
def evPart0 : List EvCode := [.POWER_FAIL, .SUPPLY_LOW, .VL_INPUT_LOST, .SUPPLY_HIGH, .BASEPLATE_HOT, .RESET_PIN, .RESET_HELD, .KEEP_DATA_LOST]

/-- Events 8 to 15 in the order of LOG_CODES. -/
def evPart1 : List EvCode := [.KEY_LOST, .MODE_CHANGE, .HOLD_NOT_GRANTED, .DOMAIN_FAILED, .SERVICE_ACTIVE, .LOCKSTEP_MISMATCH, .DRAM_VIOLATION, .DRAM_ECC_UNCORR]

/-- Events 16 to 23 in the order of LOG_CODES. -/
def evPart2 : List EvCode := [.IMG_FALLBACK, .DIS_DOMAIN, .FRAME_SKEW, .FRAME_EST_LATE, .FRAME_STALL, .FRAME_STALL_LIMIT, .FRAME_RENUMBER, .REF_REJECTED]

/-- Events 24 to 31 in the order of LOG_CODES. -/
def evPart3 : List EvCode := [.REF_DISAGREE, .POS_REF_LOW, .POS_DR, .POS_LOST, .HDG_DR, .HDG_LOST, .EST_RESET, .EST_PEER_DIFF]

/-- Events 32 to 39 in the order of LOG_CODES. -/
def evPart4 : List EvCode := [.HOLD_TRANSITION, .POS_EXC_WARN, .HDG_EXC_WARN, .POS_EXCURSION, .HDG_EXCURSION, .JOY_INPUT_BAD, .MPC_FAIL, .HOLD_DEGRADED]

/-- Events 40 to 47 in the order of LOG_CODES. -/
def evPart5 : List EvCode := [.APR_XTRACK, .BPR_NO_CONTACT, .BPR_CONTACT_LOST, .ALLOC_REPEAT, .ALLOC_STALLED, .ALLOC_SATURATED, .PWR_ENV_STALE, .PWR_ENV_LIMIT]

/-- Events 48 to 55 in the order of LOG_CODES. -/
def evPart6 : List EvCode := [.PWR_MSG_BAD, .PWR_TIE_MISMATCH, .ALC_LEARN_LIMIT, .ALC_LEARN_BAD, .CONSEQUENCE, .CQA_CASE_BREACH, .CQA_CASE_CLEAR, .CQA_UNPROVEN]

/-- Events 56 to 63 in the order of LOG_CODES. -/
def evPart7 : List EvCode := [.HEN_MEMERR, .HEN_CL_FAULT, .DIS_HEN_QUEUE, .DIS_HEN_CLUSTER, .THR_FAILED, .THR_UNAVAILABLE, .THR_DEGRADED, .DIS_THR]

/-- Events 64 to 71 in the order of LOG_CODES. -/
def evPart8 : List EvCode := [.SAT_RAIM_EXCL, .SAT_RAIM_FAIL, .SAT_HPL, .SAT_SPOOF, .TIME_INCONSISTENT, .SAT_JAMMING, .SAT_HOLDOVER, .ANT_OPEN]

/-- Events 72 to 79 in the order of LOG_CODES. -/
def evPart9 : List EvCode := [.ANT_SHORT, .ANT_GEOMETRY, .SAT_WAKE_FAIL, .TIME_BOUND_EXCEEDED, .SAT_RETAINED_BAD, .TIME_STEP, .TIME_FRAME_SWITCH, .PTP_GM_CHANGE]

/-- Events 80 to 87 in the order of LOG_CODES. -/
def evPart10 : List EvCode := [.TIME_SRC_LOST, .TIME_FRAME_HOLDOVER, .TIME_STEP_PENDING, .TIME_BOUND, .DIS_PULSE, .JOURNAL_MIRROR_LOST, .JOURNAL_LOW, .CMD_AUTH_FAIL]

/-- Events 88 to 95 in the order of LOG_CODES. -/
def evPart11 : List EvCode := [.CMD_UNIT_ABORTED, .PNT_UNKNOWN, .PNT_PRODUCER_LOST, .PNT_PRODUCER_BACK, .PRODUCER_SILENT, .PNT_FORCED, .TAKEOVER, .PEER_LOST]

/-- Events 96 to 103 in the order of LOG_CODES. -/
def evPart12 : List EvCode := [.W_LOST, .XLP_LOST, .LEASE_SUSPENDED, .SILENCED, .TAKEOVER_CHECK_FAIL, .ROLE_RELAY_FAULT, .UID_CONFLICT, .UID_CHANGED]

/-- Events 104 to 111 in the order of LOG_CODES. -/
def evPart13 : List EvCode := [.ROTATE_DUE, .SAFE_DEMAND, .SAFE_STOP_EV, .SAFE_STOP_END, .SAFE_FAULT_EV, .SAFE_STOP_ACTIVE, .SAFE_FAULT, .SAFE_PATH_FAULT]

/-- Events 112 to 119 in the order of LOG_CODES. -/
def evPart14 : List EvCode := [.BRAKE_TEST_OVERDUE, .BRAKE_TEST_FAIL, .BRAKE_TEST_PASS, .SAFE_CFG_DIFFERS, .SAFE_CFG_CONFIRMED, .SSUP_LOW, .FIO_SUPPLY_LOW, .FIO_SUPPLY_MISSING]

/-- Events 120 to 127 in the order of LOG_CODES. -/
def evPart15 : List EvCode := [.FIO_RESTORE_WAIT, .FIO_WIRE_BREAK, .FIO_BACKFED, .FIO_OVERLOAD, .FIO_GROUP_OVERLOAD, .FIO_OPEN_LOAD, .DIS_FIO, .CAN_ERROR_PASSIVE]

/-- Events 128 to 135 in the order of LOG_CODES. -/
def evPart16 : List EvCode := [.CAN_BUS_OFF, .IDENTIFIER_CLASH, .CAN_RATE_UNKNOWN, .CAN_RX_OVERRUN, .CAN_NODE_TABLE_FULL, .SER_RX_ERROR, .DIS_MAILBOX, .DIS_SERIAL]

/-- Events 136 to 143 in the order of LOG_CODES. -/
def evPart17 : List EvCode := [.LOG_FREEZE, .LOG_THAW, .LOG_FROZEN, .LOG_FLOOD, .LOG_FULL, .LOG_MEM_FAIL, .LOG_MEM_FAULT, .LOG_SNAP_FAULT]

/-- Events 144 to 151 in the order of LOG_CODES. -/
def evPart18 : List EvCode := [.LOG_TORN_RECOVERED, .LOG_QUEUE_LOST, .DIS_DMA, .CFG_COPY_BAD, .CFG_BASE_SET, .CFG_APPLY_FAIL, .CFG_FACTORY_EV, .PARTITION_VIOLATION]

/-- Events 152 to 154 in the order of LOG_CODES. -/
def evPart19 : List EvCode := [.PARTITION_RESTART, .PARTITION_STOPPED, .DIS_PARTITION]

/-- Every event, in the order of LOG_CODES. spec/18 R519. -/
def EvCode.all : List EvCode :=
  evPart0 ++ evPart1 ++ evPart2 ++ evPart3 ++ evPart4 ++ evPart5 ++ evPart6 ++ evPart7 ++ evPart8 ++ evPart9 ++
    evPart10 ++ evPart11 ++ evPart12 ++ evPart13 ++ evPart14 ++ evPart15 ++ evPart16 ++ evPart17 ++ evPart18 ++ evPart19

/-- Whether an event is an alarm, raised and cleared. -/
def EvCode.isAlarm (e : EvCode) : Bool :=
  match e with
  | .SUPPLY_LOW
  | .VL_INPUT_LOST
  | .SUPPLY_HIGH
  | .BASEPLATE_HOT
  | .KEEP_DATA_LOST
  | .DOMAIN_FAILED
  | .SERVICE_ACTIVE
  | .IMG_FALLBACK
  | .FRAME_SKEW
  | .FRAME_EST_LATE
  | .FRAME_STALL
  | .REF_REJECTED
  | .REF_DISAGREE
  | .POS_REF_LOW
  | .POS_DR
  | .POS_LOST
  | .HDG_DR
  | .HDG_LOST
  | .EST_RESET
  | .EST_PEER_DIFF
  | .POS_EXC_WARN
  | .HDG_EXC_WARN
  | .POS_EXCURSION
  | .HDG_EXCURSION
  | .JOY_INPUT_BAD
  | .MPC_FAIL
  | .HOLD_DEGRADED
  | .APR_XTRACK
  | .BPR_NO_CONTACT
  | .BPR_CONTACT_LOST
  | .ALLOC_REPEAT
  | .ALLOC_STALLED
  | .ALLOC_SATURATED
  | .PWR_ENV_STALE
  | .PWR_ENV_LIMIT
  | .PWR_MSG_BAD
  | .PWR_TIE_MISMATCH
  | .ALC_LEARN_LIMIT
  | .CONSEQUENCE
  | .CQA_CASE_BREACH
  | .CQA_UNPROVEN
  | .THR_FAILED
  | .THR_UNAVAILABLE
  | .THR_DEGRADED
  | .SAT_RAIM_EXCL
  | .SAT_RAIM_FAIL
  | .SAT_HPL
  | .SAT_SPOOF
  | .TIME_INCONSISTENT
  | .SAT_JAMMING
  | .SAT_HOLDOVER
  | .ANT_OPEN
  | .ANT_SHORT
  | .ANT_GEOMETRY
  | .TIME_SRC_LOST
  | .TIME_FRAME_HOLDOVER
  | .TIME_STEP_PENDING
  | .TIME_BOUND
  | .JOURNAL_MIRROR_LOST
  | .JOURNAL_LOW
  | .CMD_AUTH_FAIL
  | .PRODUCER_SILENT
  | .PNT_FORCED
  | .PEER_LOST
  | .W_LOST
  | .XLP_LOST
  | .LEASE_SUSPENDED
  | .SILENCED
  | .TAKEOVER_CHECK_FAIL
  | .ROLE_RELAY_FAULT
  | .UID_CONFLICT
  | .ROTATE_DUE
  | .SAFE_STOP_ACTIVE
  | .SAFE_FAULT
  | .SAFE_PATH_FAULT
  | .BRAKE_TEST_OVERDUE
  | .BRAKE_TEST_FAIL
  | .SAFE_CFG_DIFFERS
  | .SSUP_LOW
  | .FIO_SUPPLY_LOW
  | .FIO_SUPPLY_MISSING
  | .FIO_RESTORE_WAIT
  | .FIO_WIRE_BREAK
  | .FIO_BACKFED
  | .FIO_OVERLOAD
  | .FIO_GROUP_OVERLOAD
  | .FIO_OPEN_LOAD
  | .CAN_ERROR_PASSIVE
  | .CAN_BUS_OFF
  | .IDENTIFIER_CLASH
  | .CAN_RATE_UNKNOWN
  | .CAN_RX_OVERRUN
  | .SER_RX_ERROR
  | .LOG_FROZEN
  | .LOG_FLOOD
  | .LOG_FULL
  | .LOG_MEM_FAULT
  | .LOG_SNAP_FAULT
  | .CFG_BASE_SET
  | .CFG_APPLY_FAIL => true
  | .POWER_FAIL
  | .RESET_PIN
  | .RESET_HELD
  | .KEY_LOST
  | .MODE_CHANGE
  | .HOLD_NOT_GRANTED
  | .LOCKSTEP_MISMATCH
  | .DRAM_VIOLATION
  | .DRAM_ECC_UNCORR
  | .DIS_DOMAIN
  | .FRAME_STALL_LIMIT
  | .FRAME_RENUMBER
  | .HOLD_TRANSITION
  | .ALC_LEARN_BAD
  | .CQA_CASE_CLEAR
  | .HEN_MEMERR
  | .HEN_CL_FAULT
  | .DIS_HEN_QUEUE
  | .DIS_HEN_CLUSTER
  | .DIS_THR
  | .SAT_WAKE_FAIL
  | .TIME_BOUND_EXCEEDED
  | .SAT_RETAINED_BAD
  | .TIME_STEP
  | .TIME_FRAME_SWITCH
  | .PTP_GM_CHANGE
  | .DIS_PULSE
  | .CMD_UNIT_ABORTED
  | .PNT_UNKNOWN
  | .PNT_PRODUCER_LOST
  | .PNT_PRODUCER_BACK
  | .TAKEOVER
  | .UID_CHANGED
  | .SAFE_DEMAND
  | .SAFE_STOP_EV
  | .SAFE_STOP_END
  | .SAFE_FAULT_EV
  | .BRAKE_TEST_PASS
  | .SAFE_CFG_CONFIRMED
  | .DIS_FIO
  | .CAN_NODE_TABLE_FULL
  | .DIS_MAILBOX
  | .DIS_SERIAL
  | .LOG_FREEZE
  | .LOG_THAW
  | .LOG_MEM_FAIL
  | .LOG_TORN_RECOVERED
  | .LOG_QUEUE_LOST
  | .DIS_DMA
  | .CFG_COPY_BAD
  | .CFG_FACTORY_EV
  | .PARTITION_VIOLATION
  | .PARTITION_RESTART
  | .PARTITION_STOPPED
  | .DIS_PARTITION => false

/-- The name of an event. spec/18 R519. -/
def EvCode.name (e : EvCode) : String :=
  match e with
  | .POWER_FAIL => "POWER_FAIL"
  | .SUPPLY_LOW => "SUPPLY_LOW"
  | .VL_INPUT_LOST => "VL_INPUT_LOST"
  | .SUPPLY_HIGH => "SUPPLY_HIGH"
  | .BASEPLATE_HOT => "BASEPLATE_HOT"
  | .RESET_PIN => "RESET_PIN"
  | .RESET_HELD => "RESET_HELD"
  | .KEEP_DATA_LOST => "KEEP_DATA_LOST"
  | .KEY_LOST => "KEY_LOST"
  | .MODE_CHANGE => "MODE_CHANGE"
  | .HOLD_NOT_GRANTED => "HOLD_NOT_GRANTED"
  | .DOMAIN_FAILED => "DOMAIN_FAILED"
  | .SERVICE_ACTIVE => "SERVICE_ACTIVE"
  | .LOCKSTEP_MISMATCH => "LOCKSTEP_MISMATCH"
  | .DRAM_VIOLATION => "DRAM_VIOLATION"
  | .DRAM_ECC_UNCORR => "DRAM_ECC_UNCORR"
  | .IMG_FALLBACK => "IMG_FALLBACK"
  | .DIS_DOMAIN => "DIS_DOMAIN"
  | .FRAME_SKEW => "FRAME_SKEW"
  | .FRAME_EST_LATE => "FRAME_EST_LATE"
  | .FRAME_STALL => "FRAME_STALL"
  | .FRAME_STALL_LIMIT => "FRAME_STALL_LIMIT"
  | .FRAME_RENUMBER => "FRAME_RENUMBER"
  | .REF_REJECTED => "REF_REJECTED"
  | .REF_DISAGREE => "REF_DISAGREE"
  | .POS_REF_LOW => "POS_REF_LOW"
  | .POS_DR => "POS_DR"
  | .POS_LOST => "POS_LOST"
  | .HDG_DR => "HDG_DR"
  | .HDG_LOST => "HDG_LOST"
  | .EST_RESET => "EST_RESET"
  | .EST_PEER_DIFF => "EST_PEER_DIFF"
  | .HOLD_TRANSITION => "HOLD_TRANSITION"
  | .POS_EXC_WARN => "POS_EXC_WARN"
  | .HDG_EXC_WARN => "HDG_EXC_WARN"
  | .POS_EXCURSION => "POS_EXCURSION"
  | .HDG_EXCURSION => "HDG_EXCURSION"
  | .JOY_INPUT_BAD => "JOY_INPUT_BAD"
  | .MPC_FAIL => "MPC_FAIL"
  | .HOLD_DEGRADED => "HOLD_DEGRADED"
  | .APR_XTRACK => "APR_XTRACK"
  | .BPR_NO_CONTACT => "BPR_NO_CONTACT"
  | .BPR_CONTACT_LOST => "BPR_CONTACT_LOST"
  | .ALLOC_REPEAT => "ALLOC_REPEAT"
  | .ALLOC_STALLED => "ALLOC_STALLED"
  | .ALLOC_SATURATED => "ALLOC_SATURATED"
  | .PWR_ENV_STALE => "PWR_ENV_STALE"
  | .PWR_ENV_LIMIT => "PWR_ENV_LIMIT"
  | .PWR_MSG_BAD => "PWR_MSG_BAD"
  | .PWR_TIE_MISMATCH => "PWR_TIE_MISMATCH"
  | .ALC_LEARN_LIMIT => "ALC_LEARN_LIMIT"
  | .ALC_LEARN_BAD => "ALC_LEARN_BAD"
  | .CONSEQUENCE => "CONSEQUENCE"
  | .CQA_CASE_BREACH => "CQA_CASE_BREACH"
  | .CQA_CASE_CLEAR => "CQA_CASE_CLEAR"
  | .CQA_UNPROVEN => "CQA_UNPROVEN"
  | .HEN_MEMERR => "HEN_MEMERR"
  | .HEN_CL_FAULT => "HEN_CL_FAULT"
  | .DIS_HEN_QUEUE => "DIS_HEN_QUEUE"
  | .DIS_HEN_CLUSTER => "DIS_HEN_CLUSTER"
  | .THR_FAILED => "THR_FAILED"
  | .THR_UNAVAILABLE => "THR_UNAVAILABLE"
  | .THR_DEGRADED => "THR_DEGRADED"
  | .DIS_THR => "DIS_THR"
  | .SAT_RAIM_EXCL => "SAT_RAIM_EXCL"
  | .SAT_RAIM_FAIL => "SAT_RAIM_FAIL"
  | .SAT_HPL => "SAT_HPL"
  | .SAT_SPOOF => "SAT_SPOOF"
  | .TIME_INCONSISTENT => "TIME_INCONSISTENT"
  | .SAT_JAMMING => "SAT_JAMMING"
  | .SAT_HOLDOVER => "SAT_HOLDOVER"
  | .ANT_OPEN => "ANT_OPEN"
  | .ANT_SHORT => "ANT_SHORT"
  | .ANT_GEOMETRY => "ANT_GEOMETRY"
  | .SAT_WAKE_FAIL => "SAT_WAKE_FAIL"
  | .TIME_BOUND_EXCEEDED => "TIME_BOUND_EXCEEDED"
  | .SAT_RETAINED_BAD => "SAT_RETAINED_BAD"
  | .TIME_STEP => "TIME_STEP"
  | .TIME_FRAME_SWITCH => "TIME_FRAME_SWITCH"
  | .PTP_GM_CHANGE => "PTP_GM_CHANGE"
  | .TIME_SRC_LOST => "TIME_SRC_LOST"
  | .TIME_FRAME_HOLDOVER => "TIME_FRAME_HOLDOVER"
  | .TIME_STEP_PENDING => "TIME_STEP_PENDING"
  | .TIME_BOUND => "TIME_BOUND"
  | .DIS_PULSE => "DIS_PULSE"
  | .JOURNAL_MIRROR_LOST => "JOURNAL_MIRROR_LOST"
  | .JOURNAL_LOW => "JOURNAL_LOW"
  | .CMD_AUTH_FAIL => "CMD_AUTH_FAIL"
  | .CMD_UNIT_ABORTED => "CMD_UNIT_ABORTED"
  | .PNT_UNKNOWN => "PNT_UNKNOWN"
  | .PNT_PRODUCER_LOST => "PNT_PRODUCER_LOST"
  | .PNT_PRODUCER_BACK => "PNT_PRODUCER_BACK"
  | .PRODUCER_SILENT => "PRODUCER_SILENT"
  | .PNT_FORCED => "PNT_FORCED"
  | .TAKEOVER => "TAKEOVER"
  | .PEER_LOST => "PEER_LOST"
  | .W_LOST => "W_LOST"
  | .XLP_LOST => "XLP_LOST"
  | .LEASE_SUSPENDED => "LEASE_SUSPENDED"
  | .SILENCED => "SILENCED"
  | .TAKEOVER_CHECK_FAIL => "TAKEOVER_CHECK_FAIL"
  | .ROLE_RELAY_FAULT => "ROLE_RELAY_FAULT"
  | .UID_CONFLICT => "UID_CONFLICT"
  | .UID_CHANGED => "UID_CHANGED"
  | .ROTATE_DUE => "ROTATE_DUE"
  | .SAFE_DEMAND => "SAFE_DEMAND"
  | .SAFE_STOP_EV => "SAFE_STOP"
  | .SAFE_STOP_END => "SAFE_STOP_END"
  | .SAFE_FAULT_EV => "SAFE_FAULT"
  | .SAFE_STOP_ACTIVE => "SAFE_STOP_ACTIVE"
  | .SAFE_FAULT => "SAFE_FAULT"
  | .SAFE_PATH_FAULT => "SAFE_PATH_FAULT"
  | .BRAKE_TEST_OVERDUE => "BRAKE_TEST_OVERDUE"
  | .BRAKE_TEST_FAIL => "BRAKE_TEST_FAIL"
  | .BRAKE_TEST_PASS => "BRAKE_TEST_PASS"
  | .SAFE_CFG_DIFFERS => "SAFE_CFG_DIFFERS"
  | .SAFE_CFG_CONFIRMED => "SAFE_CFG_CONFIRMED"
  | .SSUP_LOW => "SSUP_LOW"
  | .FIO_SUPPLY_LOW => "FIO_SUPPLY_LOW"
  | .FIO_SUPPLY_MISSING => "FIO_SUPPLY_MISSING"
  | .FIO_RESTORE_WAIT => "FIO_RESTORE_WAIT"
  | .FIO_WIRE_BREAK => "FIO_WIRE_BREAK"
  | .FIO_BACKFED => "FIO_BACKFED"
  | .FIO_OVERLOAD => "FIO_OVERLOAD"
  | .FIO_GROUP_OVERLOAD => "FIO_GROUP_OVERLOAD"
  | .FIO_OPEN_LOAD => "FIO_OPEN_LOAD"
  | .DIS_FIO => "DIS_FIO"
  | .CAN_ERROR_PASSIVE => "CAN_ERROR_PASSIVE"
  | .CAN_BUS_OFF => "CAN_BUS_OFF"
  | .IDENTIFIER_CLASH => "IDENTIFIER_CLASH"
  | .CAN_RATE_UNKNOWN => "CAN_RATE_UNKNOWN"
  | .CAN_RX_OVERRUN => "CAN_RX_OVERRUN"
  | .CAN_NODE_TABLE_FULL => "CAN_NODE_TABLE_FULL"
  | .SER_RX_ERROR => "SER_RX_ERROR"
  | .DIS_MAILBOX => "DIS_MAILBOX"
  | .DIS_SERIAL => "DIS_SERIAL"
  | .LOG_FREEZE => "LOG_FREEZE"
  | .LOG_THAW => "LOG_THAW"
  | .LOG_FROZEN => "LOG_FROZEN"
  | .LOG_FLOOD => "LOG_FLOOD"
  | .LOG_FULL => "LOG_FULL"
  | .LOG_MEM_FAIL => "LOG_MEM_FAIL"
  | .LOG_MEM_FAULT => "LOG_MEM_FAULT"
  | .LOG_SNAP_FAULT => "LOG_SNAP_FAULT"
  | .LOG_TORN_RECOVERED => "LOG_TORN_RECOVERED"
  | .LOG_QUEUE_LOST => "LOG_QUEUE_LOST"
  | .DIS_DMA => "DIS_DMA"
  | .CFG_COPY_BAD => "CFG_COPY_BAD"
  | .CFG_BASE_SET => "CFG_BASE_SET"
  | .CFG_APPLY_FAIL => "CFG_APPLY_FAIL"
  | .CFG_FACTORY_EV => "CFG_FACTORY"
  | .PARTITION_VIOLATION => "PARTITION_VIOLATION"
  | .PARTITION_RESTART => "PARTITION_RESTART"
  | .PARTITION_STOPPED => "PARTITION_STOPPED"
  | .DIS_PARTITION => "DIS_PARTITION"

end Sys2Proof.Machine
end

