-- ==== Sys2Proof/Machine/FieldState.lean ====
section
/-!
DEFINITION. State of the field channels, the bus and serial ports, the DMA engine and the event recorder (spec/15, 16, 17, 18).
-/
namespace Sys2Proof.Machine

/-- A pulse in progress. spec/15 R466, R470. -/
structure FioPulse where
  session : Nat := 0 -- R470
  seq : Nat := 0 -- R470
  start : Nat := 0 -- R470
  stop : Nat := 0 -- R470
  deriving DecidableEq, Repr

/-- One field channel. spec/15. -/
structure FioChan where
  volts : Rat := 0 -- R455: pin voltage against FRETg as last measured, V
  raw : Bool := false -- R455: input level before the filter
  level : Bool := false -- R467 INw: filtered level
  cmd : Bool := false -- R467 CMDw: commanded state
  on : Bool := false -- R458: the switch is on
  rb : Bool := false -- R467 RBw: readback
  wireBreak : Bool := false -- R457
  backfed : Bool := false -- R460
  backSince : Option Nat := none -- R460: readback high while off since
  backLowSince : Option Nat := none -- R460
  overcurrent : Bool := false -- R460
  retryAt : Option Nat := none -- R460: retry after a thermal shutdown
  shutdowns : Nat := 0 -- R460: consecutive shutdowns
  lastShutdown : Nat := 0 -- R460
  overload : Bool := false -- R460, latched
  stuckOff : Bool := false -- R460, latched
  lowSince : Option Nat := none -- R460: readback low while on since
  openLoad : Bool := false -- R460
  openSince : Option Nat := none -- R460
  openOkSince : Option Nat := none -- R460
  edge : Bool := false -- R467 EDGE
  current : Nat := 0 -- R467 CURRENT, register units
  onAt : Nat := 0 -- R460: instant it was switched on
  pulse : Option FioPulse := none -- R470
  pendingLevel : Bool := false -- R463: an evaluation after MISSING is still to be written
  lastPt : Bool := false -- R458: state of a point source when its quality was last usable
  deriving DecidableEq, Repr

/-- One field group. spec/15. -/
structure FioGroup where
  state : Nat := 0 -- R467: 0 OK, 1 LOW, 2 MISSING, 3 WAIT_RESTORE, 4 UNUSED
  volt : Nat := 0 -- R462, R467: field supply, 10 mV units
  overload : Bool := false -- R467
  overSince : Option Nat := none -- R460: sum above 4 A since
  overOkSince : Option Nat := none -- R469
  current : Nat := 0 -- R467: mA
  shutdowns : Word := 0 -- R468
  leftMissing : Nat := 0 -- R463: instant the supply left MISSING
  restore : List Nat := [] -- R464: channels still to switch on
  restoreAt : Nat := 0 -- R464: instant of the next switch
  deriving DecidableEq, Repr

/-- Field inputs and outputs. spec/15. -/
structure FioSt where
  chans : List FioChan := List.replicate 96 {} -- R454: FIO01 to FIO96
  groups : List FioGroup := List.replicate 8 {} -- R454: G1 to G8
  upAt : Nat := 0 -- R467: instant D11 came up
  deriving DecidableEq, Repr

/-- A CAN frame. spec/16 R472. -/
structure CanFrame where
  ext : Bool := true -- R472: 29-bit identifier
  id : Nat := 0 -- R472
  fd : Bool := true -- R472: CAN FD format
  brs : Bool := true -- R472: bit-rate switching
  rtr : Bool := false -- R472: a remote frame, received and ignored
  data : List Byte := [] -- R472: at most 64 bytes
  deriving DecidableEq, Repr

/-- A frame in a mailbox. spec/16 R475–R479. -/
structure TxFrame where
  frame : CanFrame := {} -- R475
  chan : Nat := 0 -- R475: submitting thruster channel
  interim : Bool := false -- R475
  t : Option Nat := none -- R477: raw instant of a timed frame
  expiry : Option Nat := none -- R477: raw instant
  begun : Bool := false -- R479: an attempt's start of frame has begun
  due : Bool := true -- R477: it takes part in arbitration
  cancelled : Option Nat := none -- R479: reason of a cancellation during an attempt
  epoch : Word := 0 -- R410: epoch the frame carries
  check : Bool := false -- R410: it belongs to a takeover check
  deriving DecidableEq, Repr

/-- One mailbox: the frame it holds and one that waits behind it. spec/16 R475. -/
structure Mailbox where
  cur : Option TxFrame := none -- R475
  behind : Option TxFrame := none -- R475
  deriving DecidableEq, Repr

/-- One node of a discovery table. spec/16 R488, R498. -/
structure CanNode where
  node : Nat := 0 -- R488
  first : Nat := 0 -- R498
  last : Nat := 0 -- R498
  lastId : Nat := 0 -- R498
  recent : List Nat := [] -- R498: instants of the frames of the last second
  deriving DecidableEq, Repr

/-- Clash detection of one identifier. spec/16 R485. -/
structure ClashTrack where
  id : Nat := 0 -- R485
  bitPos : Nat := 0 -- R485
  run : Nat := 0 -- R485: consecutive attempts with the signature
  own : Bool := false -- R485
  deriving DecidableEq, Repr

/-- Rate detection. spec/16 R486. -/
structure Detect where
  idx : Nat := 0 -- R486: pair tried
  pass : Nat := 0 -- R486: full passes without confirmation
  good : Nat := 0 -- R486: consecutive frames without error
  sawBrs : Bool := false -- R486
  frames : Nat := 0 -- R486: frames in this dwell
  since : Nat := 0 -- R486: start of the dwell
  deriving DecidableEq, Repr

/-- One CAN port. spec/16. -/
structure CanPort where
  state : Nat := 0 -- R481: 0 OFF … 6 LISTEN_ONLY
  tec : Nat := 0 -- R481
  rec_ : Nat := 0 -- R481
  nom : Nat := 500 -- R498: nominal rate in force, kbit/s
  dat : Nat := 2000 -- R498: data rate in force, kbit/s, 0 none
  boxes : List Mailbox := List.replicate 64 {} -- R475
  onBus : Option Nat := none -- R476: mailbox whose attempt is on the bus
  onBusAt : Nat := 0 -- R496: instant the attempt began
  foreign : Bool := false -- R477: a frame of another node is on the bus
  rxFifo : List (Nat × CanFrame) := [] -- R487: at most 512
  rx : Word := 0 -- R496
  tx : Word := 0 -- R496
  errors : Word := 0 -- R496
  txPast : Word := 0 -- R477 CAN_TX_PAST
  aborts : List Nat := [0, 0, 0, 0, 0, 0] -- R478: ABORTED per reason, in the order of the table
  mapFail : Word := 0 -- R496
  rxOverrun : Word := 0 -- R487
  overrunAt : Option Nat := none -- R497
  nodes : List CanNode := [] -- R488: at most 64
  tableFullRec : Bool := false -- R488
  clash : List ClashTrack := [] -- R485
  clashSeen : List (Nat × Nat) := [] -- R485: identifiers alarmed and the last signature
  lastClash : Nat := 0 -- R498
  lastClashPos : Nat := 0 -- R498
  busyNs : Nat := 0 -- R496: bus time busy in this frame
  load : Rat := 0 -- R496
  detect : Option Detect := none -- R486
  recover : Option (Nat × Nat × Nat) := none -- R483: session, sequence and deadline
  activeSince : Option Nat := none -- R497
  term : Bool := false -- R608, R609: its termination switch is closed
  deriving DecidableEq, Repr

/-- A sentence a transmitter has queued. spec/16 R495. -/
structure SerTx where
  kind : Nat := 0 -- R495: 0 HDT, 1 ROT, 2 ZDA
  data : List Byte := [] -- R495
  queued : Nat := 0 -- R495: instant of queueing
  deriving DecidableEq, Repr

/-- One serial port. spec/16. -/
structure SerPort where
  accepted : Word := 0 -- R496
  bad : Word := 0 -- R496
  charErr : Word := 0 -- R496
  window : List (Nat × Nat × Nat) := [] -- R497: instant, characters and characters with errors, 10 s
  lastAcc : Option Nat := none -- R496
  txq : List SerTx := [] -- R495: the sentence on the line and at most 8 behind it, oldest first
  lastTx : List (Nat × Nat) := [] -- R495: per sentence, instant of the last queueing
  aborted : Word := 0 -- R495: sentences ABORTED
  term : Bool := false -- R608, R609: its termination switch is closed
  deriving DecidableEq, Repr

/-- CAN FD, serial ports and analogue pins. spec/16. -/
structure BusSt where
  can : List CanPort := List.replicate 4 {} -- R472: CAN1 to CAN4
  ser : List SerPort := List.replicate 12 {} -- R490: SER1 to SER12
  cmapCtr : List (Nat × Byte) := [] -- R489: last E2E counter per map entry and identifier
  ao : List Rat := List.replicate 16 0 -- R253: AO01 to AO16, V or mA
  ai : List Rat := List.replicate 32 0 -- R254: AI01 to AI32, V or mA
  deriving DecidableEq, Repr

/-- A DMA descriptor as taken. spec/17 R503. -/
structure DmaDesc where
  addr : Nat := 0 -- R503
  src : Nat := 0 -- R503
  dst : Nat := 0 -- R503
  len : Nat := 0 -- R503
  ctrl : Word := 0 -- R504
  next : Nat := 0 -- R503
  tag : Word := 0 -- R503
  moved : Nat := 0 -- R511: bytes moved
  startPos : Nat := 0 -- R508: position of the circular side at the start
  deriving DecidableEq, Repr

/-- One DMA channel. spec/17 R516. -/
structure DmaChan where
  descLo : Word := 0 -- R516
  descHi : Word := 0 -- R516
  en : Bool := true -- R516
  ie : Bool := false -- R516
  prio : Nat := 0 -- R516
  state : Nat := 0 -- R516: 0 idle, 1 waiting, 2 moving
  last : Nat := 0 -- R516
  endF : Bool := false -- R516
  half : Bool := false -- R516
  full : Bool := false -- R516
  err : Bool := false -- R516
  refused : Bool := false -- R516
  trigMiss : Bool := false -- R516
  remain : Word := 0 -- R516
  cur : Nat := 0 -- R516
  circPos : Nat := 0 -- R516
  tag : Word := 0 -- R516
  count : Word := 0 -- R516
  desc : Option DmaDesc := none -- R506: the descriptor taken
  prevCirc : Option (Bool × Nat × Nat × Nat) := none -- R508: side, base, size and final position of the previous one
  startAt : Option (Nat × Nat × Word × Nat) := none -- R515: instant of the last START, with CH_CUR, CH_REMAIN and CH_CIRC_POS before it
  goAt : Option Nat := none -- R515: instant of the trigger that set the descriptor moving
  deriving DecidableEq, Repr

/-- The DMA engine. spec/17. -/
structure DmaSt where
  chans : List DmaChan := List.replicate 32 {} -- R500
  sram0 : List Host.Cell := [] -- R501: HEN0 SRAM at 0x6000_0000
  sram1 : List Host.Cell := [] -- R501: HEN1 SRAM at 0x6010_0000
  deriving DecidableEq, Repr

/-- One record. spec/18 R517. -/
structure LogRec where
  seq : Word := 0 -- R521
  code : Half := 0 -- R519
  sev : Nat := 0 -- R518
  cls : Nat := 0 -- R518
  flags : Nat := 0 -- R518
  pcycle : Word := 0 -- R517
  optime : Nat := 0 -- R520: ms, 48 bits
  fmt : Half := 0 -- R517
  netS : Word := 0 -- R517
  netNs : Word := 0 -- R517
  params : List Word := [0, 0, 0, 0, 0, 0, 0, 0] -- R517
  ok : Bool := true -- R534: the stored record passes its CRC
  slot : Nat := 0 -- R525: slot of its region; in the MRAM the last 8,192 are the reserved ones
  deriving DecidableEq, Repr

/-- An entry of the front end's queue. spec/18 R522. -/
structure LogEntry where
  rec_ : LogRec := {} -- R517
  submitted : Nat := 0 -- R522: instant of submission
  capture : Nat := 0 -- R324: capture or submission instant, raw
  captured : Bool := false -- R522: it has a capture time
  source : Nat := 0xFFFF -- R324
  order : Nat := 0 -- R522: submission order
  key : Nat := 0 -- R324: capture instant it is released by; for a late record that of the newest one released before
  released : Bool := false -- R522
  trigger : Option Nat := none -- R526
  deriving DecidableEq, Repr

/-- One snapshot. spec/18 R528. -/
structure Snap where
  recSeq : Word := 0 -- R528
  num : Word := 0 -- R528
  trig : Nat := 0 -- R528
  sev : Nat := 0 -- R528
  pcycle : Word := 0 -- R528
  optime : Nat := 0 -- R528
  frame : Nat := 0 -- R528
  items : List (Nat × Bool × List Byte) := [] -- R528: item word, read, 32 bytes
  deriving DecidableEq, Repr

/-- One requester's read port. spec/18 R538. -/
structure LogRd where
  sel : Word := 0 -- R538
  kind : Nat := 0 -- R538
  entry : Nat := 0 -- R538
  result : Nat := 0 -- R538
  data : List Word := List.replicate 16 0 -- R538
  optimeHi : Half := 0 -- R538
  deriving DecidableEq, Repr

/-- One export. spec/18 R541. -/
structure LogExport where
  num : Word := 0 -- R541
  recs : List LogRec := [] -- R541
  snaps : List Snap := [] -- R541
  deriving DecidableEq, Repr

/-- The event recorder. spec/18. -/
structure LogSt where
  queue : List LogEntry := [] -- R522: at most 4,096
  order : Nat := 0 -- R522: submissions so far
  queueMax : Nat := 0 -- R539
  queueMaxNow : Nat := 0 -- R539: of the frame in progress
  lastRel : Option Nat := none -- R324: capture time of the newest released record
  recs : List LogRec := [] -- R525: records in the MRAM, oldest first
  spill : List LogRec := [] -- R535: records in the spillway
  head : Word := 0 -- R538 LOG_HEAD_SEQ
  nextSeq : Word := 1 -- R521 (DESIGN CHOICE 1, log 30)
  state : Nat := 0 -- R538: 0 NORMAL, 1 FROZEN, 2 SPILLWAY
  freezeSeq : Word := 0 -- R538
  freezeAt : Nat := 0 -- R531
  autoThaw : Option (Nat × Nat × Nat) := none -- R533: instant of the last thaw with reason AUTO, entries queued and snapshots held then
  frozenSnaps : List Snap := [] -- R530: at most 16
  snaps : List Snap := [] -- R529: at most 1,023
  snapNum : Word := 0 -- R528: number of the newest snapshot captured
  snapHead : Word := 0 -- R538 LOG_SNAP_HEAD
  trigLast : List (Nat × Nat) := [] -- R526: trigger and instant of its last snapshot
  trigPend : List (Nat × Word × Nat × Nat) := [] -- R527: trigger, record sequence, severity and release instant
  drops : List Word := List.replicate 8 0 -- R525
  qdrops : List Word := List.replicate 8 0 -- R532
  merged : Word := 0 -- R538
  torn : Word := 0 -- R524
  after : Option LogRec := none -- R524: what a write left in the slot after the head
  snapMissed : Word := 0 -- R539
  snapFault : Bool := false -- R538
  floodLowSince : Option Nat := none -- R540
  dropAt : Option Nat := none -- R540
  memFault : Bool := false -- R535
  rd : List LogRd := [{}, {}, {}] -- R538: APP-0, APP-1, partition
  exporting : Option (Nat × Nat) := none -- R541: session and sequence of LOG_EXPORT
  exportNum : Word := 0 -- R541
  exports : List LogExport := [] -- R541: the log export partition, oldest first
  spillEnd : Option (Nat × Nat) := none -- R541: session and sequence of LOG_SPILL_END
  deriving DecidableEq, Repr

end Sys2Proof.Machine
end

