-- ==== Sys2Proof/Machine/HoldState.lean ====
section
/-!
DEFINITION. State of the hold functions and of thrust allocation (spec/04, 05).
-/
namespace Sys2Proof.Machine

/-- A hold command waiting for the next fence. spec/04 R97. -/
inductive HoldCmd where
  | select (func : Nat) (autoHdg keep : Bool) (berth : Nat)
  | setpoint (n e psi : Rat) (pos hdg : Bool)
  | setEnd (e : Nat)
  | bprSet (force offset : Rat)
  deriving DecidableEq, Repr

/-- Three components of a force demand. spec/04 R96. -/
structure Tau where
  x : Rat := 0 -- R96: surge, N
  y : Rat := 0 -- R96: sway, N
  n : Rat := 0 -- R96: yaw, N·m
  deriving DecidableEq, Repr

/-- The hold function and what a mirror carries of it. spec/04 R95–R129. -/
structure HoldCore where
  func : Nat := 0 -- R95: 0 JOY, 1 AHD, 2 PHD, 3 APR, 4 BPR
  autoHdg : Bool := false -- R130 flag bit 0
  degraded : Bool := false -- R130 flag bit 2
  direct : Bool := false -- R107 flag bit 3
  wffOn : Bool := false -- R110 flag bit 4
  endSel : Nat := 1 -- R111: 1 END1, 2 END2 (DESIGN CHOICE 1, log 13)
  spN : Rat := 0 -- R113
  spE : Rat := 0 -- R113
  spPsi : Rat := 0 -- R113: heading of END1; END2 adds π
  refN : Rat := 0 -- R108: moving reference
  refE : Rat := 0 -- R108
  refPsi : Rat := 0 -- R108
  tau : Tau := {} -- R96: demand of this frame, END1 frame
  tauPrev : Tau := {} -- R105: the controller's share of the demand of the previous frame
  wff : Tau := {} -- R110: feed-forward, END1 frame
  wffUsed : Tau := {} -- R105: feed-forward in the demand of the previous frame
  joyShaped : Tau := {} -- R99: shaped axes, selected end's frame
  joyDemand : Tau := {} -- R99: ramped joystick demand, END1 frame
  joyFrozen : Bool := false -- R112
  joyFrozenTau : Tau := {} -- R112: demand frozen in its physical direction, END1 frame
  joyCentredAt : Option Nat := none -- R112: instant since which all axes are centred
  blendFrom : Option (Tau × Tau × Nat) := none -- R126: τ_prev, τ_new,0 and the start of the blend
  blendNew : Bool := false -- R126: the first demand of the new function is still to come
  blendK : Rat := 0 -- R126: the factor of this frame
  mpcFail : Nat := 0 -- R107: consecutive failed frames
  mpcOk : Nat := 0 -- R107: consecutive good results
  mpcStatus : Nat := 4 -- R130 point 782: 4 not posed
  mpcLast : List Rat := [] -- R129: the MPC's last solution
  berth : Nat := 0 -- R115, R119: berth of APR and BPR
  bprState : Nat := 0 -- R120
  bprB0 : Rat := 0 -- R122: stored cross bias
  bprStallSince : Option Nat := none -- R122
  bprLossSince : Option Nat := none -- R123
  bprSelectedAt : Nat := 0 -- R122: instant of the selection
  bprF : Rat := 0 -- R121: applied cross force f
  bprRamp : Bool := false -- R121: f still moves to the target of the state entered last
  bprNoPos : Bool := false -- R128: the along force is held since POS_LOST
  bprNoHdg : Bool := false -- R128: the yaw moment is held since HDG_LOST
  bprForce : Option Rat := none -- R124: press force of HOLD_BPR_SET
  bprOffset : Rat := 0 -- R124: heading offset
  bprAlong : Rat := 0 -- R125: along setpoint
  bprHdgRef : Rat := 0 -- R125: moving heading setpoint
  gap : Rat := 0 -- R119 point 784
  reaction : Rat := 0 -- R122 point 786
  aprStartN : Rat := 0 -- R115: track start
  aprStartE : Rat := 0 -- R115
  aprTgtN : Rat := 0 -- R115: target
  aprTgtE : Rat := 0 -- R115
  aprAlong : Rat := 0 -- R116: distance of the reference point along the track
  aprSpeed : Rat := 0 -- R116 point 788
  aprXtrack : Rat := 0 -- R117 point 789
  aprHeld : Bool := false -- R117: the reference point is held
  lastBias : Tau := {} -- R128: biases at the last position and heading update, earth frame
  errPos : Rat := 0 -- R114 point 780
  errHdg : Rat := 0 -- R114 point 781
  deriving DecidableEq, Repr

/-- Hold functions. spec/04. -/
structure HoldSt where
  core : HoldCore := {} -- R129: what a mirror carries
  preselected : Option (Nat × Bool × Bool × Nat) := none -- R95, R127: function, auto-heading, keep flag and berth preselected in STANDBY
  started : Bool := false -- R95: the function of HOLD has started
  pend : List HoldCmd := [] -- R97: commands in journal order for the next fence
  due : List HoldCmd := [] -- R97: the commands of this fence
  excBelow : List (Nat × Nat) := [] -- R114: per alarm, instant since which the excursion is below the limit
  windV : List Rat := [0, 0] -- R109: filtered relative wind, body components of END1
  mpcJob : Option Nat := none -- R107: tag of the MPC job of this frame
  mpcResult : Option (Nat × Nat × List Rat) := none -- R107: status, flags and τ_0 onwards of the job
  mirrorCore : Option HoldCore := none -- R129: the hold state of the newest mirror applied
  afterTakeover : Bool := false -- R129: the first fence after a takeover is still to come
  deriving DecidableEq, Repr

/-- The learned values of a channel with the sums they come from, as the MRAM and the mirror carry them. spec/05 R157. -/
structure AlcLearned where
  ch : Nat := 0 -- R157: channel
  k : Option Rat := none -- R156: κ
  slew : Option Rat := none -- R156: slew rate
  num : Rat := 0 -- R156: weighted sum of P·|T|^1.5
  den : Rat := 0 -- R156: weighted sum of |T|^3
  deriving DecidableEq, Repr

/-- One thruster channel as allocation sees it. spec/05. -/
structure AlcChan where
  selected : Bool := true -- R136: ALC_SELECT (DESIGN CHOICE true, log 14)
  t : Rat := 0 -- R135: command of the previous frame, thrust
  ang : Rat := 0 -- R144: azimuth or rudder angle commanded, rad
  l : Rat := 0 -- R143: rudder side force commanded
  cT : Rat := 0 -- R144: thrust composed in this frame
  cAng : Rat := 0 -- R144: angle composed in this frame
  cL : Rat := 0 -- R144: rudder side force composed in this frame
  azPred : Rat := 0 -- R135: azimuth α_p extrapolated for this frame's commit instant
  avail : Nat := 4 -- R162 channel point 3
  pwr : Rat := 0 -- R162 channel point 4
  bermAz : Rat := 0 -- R155
  bermOn : Bool := false -- R155: a berm term is posed for the channel
  kNum : Rat := 0 -- R156: weighted sum of P·|T|^1.5
  kDen : Rat := 0 -- R156: weighted sum of |T|^3
  kLearned : Option Rat := none -- R156
  slewLearned : Option Rat := none -- R156
  fullRateSince : Option Nat := none -- R156: start of a turn at the full commanded rate
  learnAt : Nat := 0 -- R156: instant of the last sample learned from
  bermW : Rat := 0 -- R155: worst turn
  deriving DecidableEq, Repr

/-- One source of power-envelope messages. spec/05 R151–R153. -/
structure PwrSource where
  last : Option Nat := none -- R152: capture instant of the newest valid message
  avail : Rat := 0 -- R151
  regen : Rat := 0 -- R151
  ramp : Rat := 0 -- R151
  flags : Byte := 0 -- R151 byte 12
  counter : Option Byte := none -- R152: counter of the previous message
  run : Nat := 0 -- R153: consecutive messages, each counter one above the last
  deriving DecidableEq, Repr

/-- One bus section. spec/05. -/
structure PwrSection where
  state : Nat := 1 -- R153: every section starts in CONSERVATIVE
  src1 : PwrSource := {} -- R152
  src2 : PwrSource := {} -- R152
  avail : Rat := 0 -- R162: in force
  regen : Rat := 0 -- R162
  ramp : Rat := 0 -- R162
  flags : Word := 0 -- R162: byte 12 in force, bit 8 tied
  planned : Rat := 0 -- R162
  age : Word := 0xFFFFFFFF -- R162
  bad : Word := 0 -- R152, R162
  bindRun : Nat := 0 -- R163: frames the upper bound has bound
  freeRun : Nat := 0 -- R163: frames it has not
  deriving DecidableEq, Repr

/-- The solved nominal case as the engine returned it. spec/05 R158. -/
structure NomResult where
  x : List Rat := [] -- R137: variables
  slack : Tau := {} -- R204: slack
  truncated : Bool := false -- R158
  pivTiny : Bool := false -- R158
  pivNonpos : Bool := false -- R158
  ovf : Bool := false -- R158
  iter : Nat := 0 -- R162
  deriving DecidableEq, Repr

/-- One channel as a problem poses it. spec/05 R137–R149, spec/06 R172–R175. -/
structure AlcVar where
  ch : Nat := 0 -- R137: channel
  typ : Nat := 0 -- R137: 1 AZ, 2 TT, 3 PR
  v0 : Nat := 0 -- R137: its first variable
  lost : Bool := false -- R224: lost in the case, its variables without effect
  az : Rat := 0 -- R140: α_p
  prev : Rat := 0 -- R141: signed command of the previous frame
  prevL : Rat := 0 -- R143
  lo : Rat := 0 -- R141: thrust interval; an AZ channel of a case: the radius of R174 either way
  hi : Rat := 0 -- R141
  cMax : Rat := 0 -- R140
  lMax : Rat := 0 -- R143: largest change of the rudder side force
  rev : Bool := false -- R174: posed in the reverse sector
  sLo : Rat := 0 -- R174: sector counter-clockwise of the present direction, rad
  sHi : Rat := 0 -- R174: sector clockwise of it
  free : Bool := false -- R174: the direction is free
  slope : Rat := 0 -- R147, R175: chord power of one unit of the variable or force component
  k0 : Rat := 0 -- R147, R175: chord power at zero
  deriving DecidableEq, Repr

/-- One section row: the sections it stands for, its coefficients and its bounds on the posed power. spec/05 R149, R150. -/
structure AlcRow where
  secs : List Nat := [] -- R150: one section, or a tied pair
  co : List Rat := [] -- R147: by variable
  k0 : Rat := 0 -- R147: power that does not depend on the variables
  lo : Option Rat := none -- R149; none: no lower bound
  hi : Rat := 0 -- R149
  deriving DecidableEq, Repr

/-- One pair entry: lo ≤ a·x_j + b·x_l ≤ hi. spec/07 R203. -/
structure AlcPair where
  j : Nat := 0 -- R203
  l : Nat := 0 -- R203
  a : Rat := 0 -- R203
  b : Rat := 0 -- R203
  lo : Option Rat := none -- R203; none: −∞
  hi : Option Rat := none -- R203; none: +∞
  deriving DecidableEq, Repr

/-- One posed allocation problem. spec/05 R137–R149, spec/07 R204. -/
structure AlcProb where
  vars : List AlcVar := [] -- R137: channels posed
  n : Nat := 0 -- R137: variables
  b : List (Rat × Rat × Rat) := [] -- R138: force of one unit of each variable
  w : Tau := {} -- R139: weights of the slack
  tau : Tau := {} -- R138: demand
  h : List Rat := [] -- R139
  c : List Rat := [] -- R139
  lo : List Rat := [] -- R141
  hi : List Rat := [] -- R141
  rows : List AlcRow := [] -- R149
  pairs : List AlcPair := [] -- R143, R174: pair entries of R203
  deriving DecidableEq, Repr

/-- Thrust allocation. spec/05. -/
structure AlcSt where
  chans : List AlcChan := List.replicate 24 {} -- R135: channels 1 to 24
  sections : List PwrSection := List.replicate 4 {} -- R152: sections 1 to 4
  status : Nat := 3 -- R162: 3 NOT_POSED
  flags : Word := 0 -- R162
  iter : Nat := 0 -- R162
  slack : Tau := {} -- R162
  power : Rat := 0 -- R162
  cap : Tau := {} -- R161
  uses : Bool := false -- R158: the result of this frame is used
  repeatRun : Nat := 0 -- R162 point 1290
  usedRun : Nat := 0 -- R159: consecutive used results
  nvar : Nat := 0 -- R162 point 1291
  satOver : Option Nat := none -- R160: instant since which the slack exceeds the limit
  satUnder : Option Nat := none -- R160: instant since which it does not
  bermSwitch : Option Bool := none -- R164: ALC_SET_BERM, over ALC_BERM_ON of the generation
  posed : List (Nat × AlcProb) := [] -- R135, R180: case and problem of the ALLOC job, the nominal one, case 0, first
  prevX : List (Nat × List Rat) := [] -- R224: result of each case in the previous frame
  berm : List (Nat × Rat) := [] -- R155: channels with a berm term and their signed turn e
  demand : Tau := {} -- R135: demand in the END1 frame
  job : Option Nat := none -- R44: tag of the ALLOC job of this frame
  result : Option NomResult := none -- R158: the nominal result at composition; none: absent
  composed : Bool := false -- R158: this frame has been composed
  pendSelect : List (Nat × Bool) := [] -- R164
  pendBerm : Option Bool := none -- R164
  pendLearnReset : List Nat := [] -- R164
  savedAt : Nat := 0 -- R157: instant of the last write of learned values
  retained : List AlcLearned := [] -- R157: learned values in the MRAM
  retainedGen : Nat := 0 -- R157: generation of that copy
  retainedModel : List (Nat × List (Option Rat)) := [] -- R157, R564: model parameters of its channels
  retainedOk : Bool := true -- R157: the copy's CRC holds
  tieMismatch : List Nat := [] -- R150: tied pairs whose flags disagree
  deriving DecidableEq, Repr

end Sys2Proof.Machine
end

