-- ==== Sys2Proof/Machine/FrameState.lean ====
section
/-!
DEFINITION. State of the partition, the DRAM, the control frame, the references and the estimator (spec/01, 02, 03).
-/
namespace Sys2Proof.Machine

/-- One integrator partition: its run state and budget. spec/01 R17–R20. -/
structure PartitionSt where
  present : Bool := false -- R16, R20: an integrator image is active, so the partition exists
  running : Bool := false -- R20: the partition runs; false while stopped
  slicesFrame : Nat := 0 -- R17: ns of APP-1 time used in this frame (at most 8 ms)
  preemptions : Word := 0 -- R17: pre-emptions, under no point number (log 110)
  restarts : List Nat := [] -- R20: instants of the restarts of the last 10 minutes, newest first
  stoppedByFaults : Bool := false -- R20: stopped after three restarts within 10 minutes
  watchdogAt : Nat := 0 -- R20: instant of the last watchdog service (500 ms limit)
  lastBusError : Nat := 0 -- R19: address of the last access that was not performed
  busErrors : Word := 0 -- R19: accesses of the partition that were not performed
  startDue : Option (Bool × Nat) := none -- R20: a start that waits for the partition's jobs to end: whether it is a restart, and its cause
  deriving DecidableEq, Repr

/-- DRAM and its error accounting. spec/01 R13, R14. -/
structure DramSt where
  cells : List Host.Cell := [] -- R13: the 8 GiB of DRAM at 0x8000_0000, canonical list
  eccCorrected : Word := 0 -- R14: corrected single-bit errors (device point)
  deriving DecidableEq, Repr

/-- What a mirror of frame state carries. spec/02 R41, spec/03 R85, spec/13. -/
structure MirrorData where
  frame : Nat := 0 -- R41: the frame number the active unit tags the mirror with
  estN : Rat := 0 -- R85: mirrored active position, north
  estE : Rat := 0 -- R85: mirrored active position, east
  estPsi : Rat := 0 -- R85: mirrored active heading
  hold : Option HoldCore := none -- R129: the hold state; none: the pair is not in HOLD
  learned : List AlcLearned := [] -- R157: learned values, once per second
  applied : List Nat := [] -- R356: journal numbers of the entries applied in it
  cfgLeft : Option Nat := none -- R586: frame starts left of a commit
  stepAllow : List Nat := [] -- R52: clocks whose step is allowed
  stepAt : Option Nat := none -- R52: frame number from which it is applied
  active : Bool := true -- R41: sent by the active unit; else only the two fields below are meant
  safeCrc : Word := 0 -- R444: check value of the sender's confirmed set, 0 none
  brkHours : List Nat := [0, 0, 0, 0] -- R436: the sender's released times of the brakes, ns
  deriving DecidableEq, Repr

/-- The control frame. spec/02. -/
structure FrameSt where
  running : Bool := false -- R30: frames run whenever D9 runs, outside KEEP
  number : Nat := 0 -- R29: frame number, T / 20,000,000
  startT : Nat := 0 -- R28: value of the selected clock at the frame start, ns
  startAt : Nat := 0 -- R32: instant of F+0 on the module's time axis
  startRaw : Nat := 0 -- R52, R53: raw count at the frame start
  started : Nat := 0 -- R52: frame starts since D9 came up
  estDone : Bool := false -- R43: estimation of this frame has completed
  phaseHold : Bool := false -- R32: the hold function of this frame has started (F+3 ms reached)
  phaseAlloc : Bool := false -- R44: the ALLOC job of this frame has been submitted (F+4 ms reached)
  phaseSealClosed : Bool := false -- R46: the seal window of this frame has closed
  phaseCommit : Bool := false -- R32: the commit instant of this frame has passed
  length : Word := 0 -- R53 point 258: length of the previous frame, raw ns
  estEnd : Word := 0 -- R49 point 259
  solveEnd : Word := 0 -- R49 point 260
  sealEnd : Word := 0 -- R49 point 261
  estLate : Word := 0 -- R43 point 262
  holdLate : Word := 0 -- R44 point 263
  solverTrunc : Word := 0 -- R45 point 264
  truncNow : Bool := false -- R45: a truncated job of this frame has been counted
  sealLate : Word := 0 -- R46 point 265
  stalled : Word := 0 -- R47 point 266
  txLate : Word := 0 -- R38 point 267
  mirrorLate : Word := 0 -- R41 point 269
  peerSkew : Option Int := none -- R40 point 268; none: no peer, quality BAD
  skewRun : Nat := 0 -- R40: consecutive frames beyond FRM_SKEW_ALARM
  skewOkRun : Nat := 0 -- R40: consecutive frames within it
  estLateRun : Nat := 0 -- R43: consecutive late frames
  estOkRun : Nat := 0 -- R43: consecutive frames in time
  stallRun : Nat := 0 -- R47: consecutive stalled frames
  stallGaveUp : Bool := false -- R47: authority given up by FRM_STALL_LIMIT; STANDBY until frames complete
  sealedNow : List Nat := [] -- R47: channels APP-0 sealed in this frame
  mirrorHeld : Option MirrorData := none -- R41: newest mirror held at the standby
  mirrorApplied : Option Nat := none -- R41: frame number of the mirror applied last
  activeN : Rat := 0 -- R85: last applied mirrored position
  activeE : Rat := 0 -- R85
  activePsi : Rat := 0 -- R85
  stepHoldoff : Option Nat := none -- R52: raw count before which no frame starts after a step
  renumberFrom : Option Nat := none -- R52: frame number before a step, until the next start
  stepAtFrame : Option Nat := none -- R52: frame number from which the three units apply an allowed step
  deriving DecidableEq, Repr

/-- Kinds of reference slot. spec/03 R55. -/
inductive RefKind where
  | position | heading | motion | wind
  deriving DecidableEq, Repr

/-- States of a reference slot. spec/03 R58. -/
inductive RefState where
  | notConfigured | deselected | unavailable | trial | accepted | rejected
  deriving DecidableEq, Repr

/-- One reference slot. spec/03. -/
structure RefSlot where
  state : RefState := .notConfigured -- R58
  reason : Nat := 0 -- R90: 0, 1–6, 16–19
  selected : Bool := true -- R67: false after REF_SELECT deselect (DESIGN CHOICE true, log 12)
  share : Rat := 0 -- R75
  nis : Option Rat := none -- R69, R90: none where the point is BAD
  lastSeq : Option Word := none -- R59: sequence number of the last sample used
  lastNewAt : Nat := 0 -- R92: time of the last new sample
  lastUsableAt : Nat := 0 -- R61: instant of the last usable sample
  freezeFirst : Option (List Rat) := none -- R68: first sample of the run the freeze test compares with
  freezeSince : Nat := 0 -- R68: start of that run
  innov : List (Nat × List Rat) := [] -- R68: innovations of REF_VAR_WINDOW, newest first
  predFails : Nat := 0 -- R70: consecutive prediction failures
  divFilter : List Rat := [] -- R68: low-pass filtered innovation
  past : List (Nat × List Rat) := [] -- R63, R79: a motion reference's samples of the last 2 s, newest first
  trialSince : Option Nat := none -- R73: start of continuous passing
  rejections : List Nat := [] -- R74: instants of rejections, newest first
  latched : Bool := false -- R74: stays REJECTED until REF_RETRY
  lastVal : List Rat := [] -- R68, R79, R80: the last new sample's value
  lastSd : Rat := 0 -- R75: standard deviation the source reported last
  deriving DecidableEq, Repr

/-- The estimator at one past fence. spec/03 R62. -/
structure FenceRec where
  at_ : Nat := 0 -- R62: fence instant
  x : List Rat := [] -- R62: the 15 states
  p : List Rat := [] -- R62: the covariance, 225 entries by rows
  tau : List Rat := [] -- R62: thrust input after this fence
  wind : List Rat := [] -- R62: wind input after this fence
  deriving DecidableEq, Repr

/-- A value a point of kind wind or motion publishes, with its quality. -/
structure EstOut where
  windSpeed : Rat := 0 -- R89 point 531
  windDir : Rat := 0 -- R89 point 532
  windGood : Bool := false -- R80
  roll : Rat := 0 -- R89 point 533
  pitch : Rat := 0 -- R89 point 534
  heave : Rat := 0 -- R89 point 535
  motionGood : Bool := false -- R64
  deriving DecidableEq, Repr

/-- The estimator. spec/03 R81–R88. -/
structure EstCore where
  inited : Bool := false -- R84
  x : List Rat := List.replicate 15 0 -- R81: n e ψ u v r b_n b_e b_ψ ξ_n ξ̇_n ξ_e ξ̇_e ξ_ψ ξ̇_ψ
  p : List Rat := List.replicate 225 0 -- R69: covariance, by rows
  drPos : Bool := false -- R86 EST_MODE bit 0
  posLost : Bool := false -- R87 bit 1
  drHdg : Bool := false -- R87 bit 2
  hdgLost : Bool := false -- R87 bit 3
  lastPosUpd : Nat := 0 -- R86: instant of the last position update
  lastHdgUpd : Nat := 0 -- R87: instant of the last heading update
  resetRunPos : Nat := 0 -- R72: fences in a row at which all position references failed prediction
  resetRunHdg : Nat := 0 -- R72
  resetPosDue : Bool := false -- R72: the reset is applied at the next fence
  resetHdgDue : Bool := false -- R72
  resetPosTo : List Rat := [] -- R72: the combined position and its variance
  resetHdgTo : List Rat := [] -- R72
  out : EstOut := {} -- R79, R80
  hist : List FenceRec := [] -- R62: at most 100 fences, newest first
  deriving DecidableEq, Repr

/-- References and estimator. spec/03. -/
structure EstSt where
  slots : List RefSlot := List.replicate 28 {} -- R55
  core : EstCore := {} -- R81: the estimate in use
  lateOut : Bool := false -- R43: estimated points carry UNCERTAIN with LATE
  pendSelect : List (Nat × Bool) := [] -- R67: selections waiting for the next fence
  pendRetry : List Nat := [] -- R92: REF_RETRY waiting for the next fence
  pendReinit : Bool := false -- R84, R92: EST_REINIT waiting for the next fence
  dueReinit : Bool := false -- R84: EST_REINIT whose fence has come, until there are references to initialise from
  peerDiffRun : Nat := 0 -- R85
  peerOkRun : Nat := 0 -- R91
  disagreeSince : List (Nat × Nat) := [] -- R91: per kind, last instant REF_DISAGREE's condition held
  deriving DecidableEq, Repr

end Sys2Proof.Machine
end

