-- ==== Sys2Proof/Machine/PowerState.lean ====
section
/-!
DEFINITION. State of KEEP, the modes, the images and the configuration (spec/19, 20).
-/
namespace Sys2Proof.Machine

/-- The supply as KEEP measures it. spec/19 R543, R547. -/
structure SupplySt where
  vla : Rat := 24 -- R568: V (nominal 24 V, R543)
  vlb : Rat := 24 -- R568: V
  state : Nat := 0 -- R547: 0 NORMAL, 1 LOW, 2 POWER_DOWN
  dips : Word := 0 -- R568 PWR_DIPS, retained
  deriving DecidableEq, Repr

/-- KEEP's time keeper. spec/19 R557. -/
structure TimeKeeper where
  time : Option Nat := none -- R557: time at the calibration, ns of TAI; none: no time offered
  at_ : Nat := 0 -- R557: instant of the calibration
  bound : Nat := 0 -- R557: the source's bound at calibration, ns
  lastKnown : Option Nat := none -- R557: last known time, for the recorder and for reference
  deriving DecidableEq, Repr

/-- One copy of KEEP's control words; the role epoch counter, the trim and the last known time are the same in both. spec/19 R556, R564. -/
structure KeepWords where
  optime : Nat := 0 -- R556: operating time
  pcycle : Word := 0 -- R556: power-cycle count
  deriving DecidableEq, Repr

/-- KEEP. spec/19. -/
structure KeepSt where
  supply : SupplySt := {} -- R547
  pcycle : Word := 1 -- R556: power-cycle count (first cold start)
  optimeBase : Nat := 0 -- R556: operating time at the anchor, ms
  optimeAt : Nat := 0 -- R556: anchor, ns
  wordsA : KeepWords := {} -- R556, R564: control words, copy A
  wordsB : KeepWords := {} -- R556, R564: control words, copy B
  resetCause : Nat := 0 -- R568: 0 POWER_ON
  resetHeld : Option Nat := none -- R553: RESET_N asserted since
  resetHeldRec : Bool := false -- R553: RESET_HELD recorded
  tk : TimeKeeper := {} -- R557
  epochRetained : Word := 0 -- R404: highest role epoch counter, with its unit bits
  trim : Word := 0x40000000 -- R305: factory trim of TMU_INCR
  roleKeys : List (Nat × List Byte) := [] -- R342: role keys 1 to 3 by role
  integKey : List Byte := [] -- R580: integrator image key
  minVersion : List (Nat × Nat) := [] -- R580: minimum version per domain
  baseT : Rat := 25 -- R568 PWR_BASEPLATE_T, °C
  coolSince : Option Nat := none -- R569: 5 °C below the limit since
  powered : Nat := 0x031 -- R568 PWR_DOMAINS: D0, D4 and D5 powered at the entry to RESTORE (R559)
  coldReady : Bool := false -- R551: the sequence of POWER_DOWN has ended
  d0On : Bool := true -- R550: D0 is powered
  queueLost : Nat := 0 -- R537: entries queued when D1 was lost
  deriving DecidableEq, Repr

/-- Major modes. spec/20 R572. -/
inductive Mode where
  | keep | restore | commission | standby | hold | warden | service | safeStop
  deriving DecidableEq, Repr

/-- One slot of a domain's images. spec/20 R580. -/
structure ImgSlot where
  valid : Bool := false -- R580: verified
  version : Nat := 0 -- R580
  mirror : Nat := 0 -- R580: mirror level
  image : List Byte := [] -- R16: the image held (a delivered one is not the spec's: DESIGN CHOICE empty, log 32)
  deriving DecidableEq, Repr

/-- The images of one domain. spec/20 R580–R582. -/
structure ImgSt where
  domain : Nat := 0 -- R580: 0, 2, 3, 4, 6, 8, 9, 10, 11 or 0x80
  a : ImgSlot := { valid := true } -- R16: slot A (DESIGN CHOICE: a delivered image, log 32)
  b : ImgSlot := {} -- R16: slot B
  active : Nat := 0 -- R581: slot to start from, 0 A, 1 B
  running : Nat := 0 -- R590: slot the domain runs from
  running7 : Nat := 0 -- R590: of the shared HEN image, the slot D7 runs from
  trial : Option Nat := none -- R582: instant of its first start
  trialDue : Bool := false -- R582: activated, not yet started
  selfResets : Nat := 0 -- R582: resets by its own fault within the trial
  fellBack : Bool := false -- R591: IMG_FALLBACK raised
  deriving DecidableEq, Repr

/-- One copy of the configuration in the MRAM. spec/19 R561. -/
structure CfgCopy where
  valid : Bool := false -- R561
  gen : Nat := 0 -- R561
  body : List Byte := [] -- R561
  time : Nat := 0 -- R561: commit time, of the selected clock
  deriving DecidableEq, Repr

/-- Configuration. spec/20 R584–R588. -/
structure CfgSt where
  given : List ((Param × Nat) × Rat) := [] -- R584: values the generation in force gives, in the order of its body
  lists : List ((Param × Nat) × List Rat) := [] -- R584: list-valued and text-valued parameters in force
  gen : Nat := 0 -- R590: generation in force
  source : Nat := 2 -- R568: 0 copy A, 1 copy B, 2 base set
  base : Bool := true -- R563: the base set is in force
  copyA : CfgCopy := {} -- R561
  copyB : CfgCopy := {} -- R561
  archive : List CfgCopy := [] -- R16: committed generations in the configuration archive, oldest first
  staging : List Byte := [] -- R585: the staging area as written so far
  validated : Option (Nat × Word × Nat) := none -- R585: generation it was validated against, CRC and length
  commit : Option (Nat × Nat × List Byte) := none -- R586: new generation, frame starts left and body
  commitOk : Bool := false -- R586: its copy is written and read back
  deriving DecidableEq, Repr

/-- A drain or restore in progress. spec/20 R578. -/
structure DrainJob where
  domain : Nat := 0 -- R578
  restore : Bool := false -- R578
  session : Nat := 0 -- R578
  seq : Nat := 0 -- R578
  deriving DecidableEq, Repr

/-- Modes, domains and images. spec/20. -/
structure SysSt where
  mode : Mode := .restore -- R572, R558: a start enters RESTORE
  before : Mode := .standby -- R574: mode before SERVICE
  safeStopBy : Nat := 0 -- R574: 0 through R425, 1 through R11 on Single
  drainedCmd : Nat := 0 -- R590 SVC_DRAINED
  failedDom : Nat := 0 -- R591: domains that failed to start
  jobs : List DrainJob := [] -- R578
  images : List ImgSt := [0, 2, 3, 4, 6, 8, 9, 10, 11].map (fun d => { domain := d }) ++ [{ domain := 0x80, a := {} }] -- R580
  stage : List Byte := [] -- R581: the update staging partition as written so far
  verifying : Option (Nat × Nat × Nat) := none -- R592: session, sequence and image length of IMG_VERIFY
  holdReq : Option (Nat × Nat × Nat) := none -- R575: session, sequence and deadline of SET_MODE HOLD
  leavingHold : Option Nat := none -- R576: instant of SET_MODE STANDBY
  keepExit : Option Nat := none -- R577: instant of the KEEP exit
  restartAt : Option (Nat × Bool) := none -- R592: instant of the restart and the cold flag
  cfgFromPeer : Option (Nat × Nat) := none -- R588: session and sequence
  deriving DecidableEq, Repr

end Sys2Proof.Machine
end

