-- ==== Sys2Proof/Machine/ThrusterState.lean ====
section
/-!
DEFINITION. State of the thruster channels and of the satellite receiver (spec/08, 09).
-/
namespace Sys2Proof.Machine

/-- An angle sample with its capture time. spec/08 R245. -/
structure AngSample where
  t : Nat := 0 -- R245: capture time, ns of the raw counter
  a : Rat := 0 -- R245: angle, rad
  deriving DecidableEq, Repr

/-- One angle source of a channel: its recent samples. spec/08 R244, R245, R248. -/
structure AngSource where
  samples : List AngSample := [] -- R245: newest first, as far back as 100 ms
  rejects : Nat := 0 -- R248: consecutive rejected samples
  goods : Nat := 0 -- R248: consecutive good samples since it became unusable
  dead : Bool := false -- R248: unusable until 20 consecutive good samples
  indexed : Bool := false -- R248: a quadrature index has been met since D10 came up
  lastIndexCount : Option Int := none -- R248: count at the previous index, rejected or not
  deriving DecidableEq, Repr

/-- Newest feedback of a function of the profile. spec/08 R257–R259. -/
structure ThrFeedback where
  at_ : Option Nat := none -- R262: capture time of the newest valid frame
  counter : Option Byte := none -- R259: counter of the previous frame
  ready : Bool := false -- R257
  running : Bool := false -- R257
  fault : Bool := false -- R257
  local_ : Bool := false -- R257
  limited : Bool := false -- R257
  holding : Bool := false -- R257
  epochSeen : Word := 0 -- R258: highest role epoch the drive accepted
  faultCode : Byte := 0 -- R258
  faultSeen : Bool := false -- R262 DRIVE_FAULT: a FEEDBACK with FAULT since the last slice
  deriving DecidableEq, Repr

/-- Since when each timed condition of supervision holds. spec/08 R262. -/
structure ThrTimers where
  readySince : Option Nat := none -- R262 NOT_READY: READY and not LOCAL since
  aiGoodAt : Nat := 0 -- R262 FB_AI_BAD: last valid thrust input sample
  azFollow : Option Nat := none -- R262 AZ_FOLLOW
  azDir : Option Nat := none -- R262 AZ_WRONG_DIR
  rudder : Option Nat := none -- R262 RUDDER_FOLLOW
  tHigh : Option Nat := none -- R262 T_HIGH
  tDev : Option Nat := none -- R262 T_DEV
  aoBad : List Nat := [0, 0, 0] -- R262 AO_FAULT: per output, consecutive slices with a readback difference
  angDis : Option Nat := none -- R262 ANG_DISAGREE
  clearSince : Option Nat := none -- R264: no DEGRADED condition present since
  deriving DecidableEq, Repr

/-- One thruster channel. spec/08 R232–R271. -/
structure ThrChan where
  en : Bool := true -- R266 CTRL.EN
  pendEn : Option Bool := none -- R265: request processed at the next slice
  pendAt : Nat := 0 -- R241: instant of that request
  state : Nat := 0 -- R261
  fault : Nat := 0 -- R266 FAULT, bits 0–12
  present : Nat := 0 -- R262: fault conditions present now
  shT : Word := 0 -- R266 SH_T
  shAng : Word := 0 -- R266 SH_ANG
  shRun : Bool := false -- R266 SH_FLAGS.RUN
  shTest : Bool := false -- R266 SH_FLAGS.TEST
  sealed : Bool := false -- R266 SEAL
  sealedAt : Nat := 0 -- R241: instant at which SEAL was set
  withdrawnAt : Option Nat := none -- R241: instant of the last withdrawal that cleared SEAL
  latch : Bool := false -- R239: hand-over latch of the commit
  latchPend : Bool := false -- R239: the first slice after the commit is still to come
  handed : Bool := false -- R266 STAT.HANDED
  sealLateF : Bool := false -- R266 STAT.SEAL_LATE
  wrSealed : Bool := false -- R266 STAT.WR_SEALED
  wdLate : Bool := false -- R266 STAT.WD_LATE
  abortedF : Bool := false -- R266 STAT.ABORTED
  gated : Bool := false -- R266 STAT.GATED
  angSrc : Nat := 3 -- R266 STAT.ANG_SRC
  actT : Word := 0 -- R266 ACT_T
  actAng : Word := 0 -- R266 ACT_ANG
  actRun : Bool := false -- R237
  actTest : Bool := false -- R237
  q : Rat := 0 -- R252: ramped value, N
  outT : Rat := 0 -- R250: output thrust, N (OUT_T shows it as binary32)
  outRun : Bool := false -- R263: RUN flag of the output; clear after ZERO
  frozenAng : Option Rat := none -- R263, R265: active angle frozen during a ramp-out
  zero : Bool := false -- R263: a ZERO reaction stands
  rampOut : Bool := false -- R263: a RAMP_OUT reaction or a disable ramps q to 0
  gate : Rat := 1 -- R266 GATE
  azUsed : Option AngSample := none -- R245: newest sample in use
  azRate : Rat := 0 -- R245 ω
  azLast : Rat := 0 -- R250: last extrapolated azimuth
  azKnown : Bool := false -- R250: an azimuth source has been usable since D10 came up
  azPred : Rat := 0 -- R246 AZ_PRED
  encAz : AngSource := {} -- R244
  fbAz : AngSource := {} -- R244
  aiAz : AngSource := {} -- R244
  encShaft : AngSource := {} -- R247
  fbShaft : AngSource := {} -- R247: shaft angles of FEEDBACK2
  tMeas : Rat := 0 -- R266 T_MEAS
  tMeasAt : Option Nat := none -- R268: capture time of the thrust sample
  pMeas : Rat := 0 -- R266 P_MEAS
  pMeasAt : Option Nat := none -- R268: capture time of the power sample
  shaftSpd : Rat := 0 -- R266 SHAFT_SPD
  shaftAng : Rat := 0 -- R266 SHAFT_ANG
  fb : ThrFeedback := {} -- R257
  fb2 : ThrFeedback := {} -- R258
  timers : ThrTimers := {} -- R262
  inServiceAt : Nat := 0 -- R262: instant supervision of the feedback started from
  handoverTime : Word := 0 -- R266 HANDOVER
  handovers : Half := 0 -- R266 CNT.HANDOVERS
  sealLates : Nat := 0 -- R266 CNT.SEAL_LATES, saturating at 255
  fbBad : Nat := 0 -- R266 CNT.FB_BAD, saturating at 255
  spCounter : Byte := 0 -- R256: end-to-end counter of SETPOINT frames
  lastPlaced : Option Rat := none -- R251: thrust of the last SETPOINT frame placed
  interimRound : Option Nat := none -- R251: round in which an interim frame was sent
  disAborted : Nat := 0 -- R265: sealed sets that the disable in progress returned ABORTED
  aoOff : List Bool := [false, false, false] -- R262 AO_FAULT: per output, held at 0 V or 0 mA
  aoSeen : Rat × Rat := (0, 0) -- R264: written and read value of the last difference
  deriving DecidableEq, Repr

/-- The sequencer. spec/08 R234, R235, R267. -/
structure ThrSt where
  chans : List ThrChan := List.replicate 24 {} -- R232: channels 1 to 24
  auth : Bool := false -- R267 THR_AUTH.AUTH
  aoHoldUntil : Option Nat := none -- R234: end of THR_AO_HOLD after a loss of authority
  roundBase : Nat := 0 -- R235, R267: instant at which rounds started (D10 up); THR_ROUND counts from it
  committed : Option Nat := none -- R239: instant of the last commit
  deriving DecidableEq, Repr

/-- Satellite systems of SAT. spec/09 R272. -/
inductive SatSys where
  | gps | galileo | beidou | sbas
  deriving DecidableEq, Repr

/-- Signals SAT tracks. spec/09 R272. -/
inductive SatSig where
  | l1ca | l1c | e1 | b1c | sbasL1 | l5 | e5a | b2a | sbasL5
  deriving DecidableEq, Repr

/-- A signal of a satellite on an antenna. spec/09 R275. -/
structure SigId where
  ant : Nat := 1 -- R272: 1 to 4
  sys : SatSys := .gps -- R272
  sv : Nat := 1 -- R302: satellite number
  sig : SatSig := .l1ca -- R272
  deriving DecidableEq, Repr

/-- One tracking channel in use. spec/09 R275, R276. -/
structure SatChan where
  id : SigId := {} -- R275
  elev : Rat := 0 -- R276: elevation, degrees
  lostAt : Option Nat := none -- R276: start of its 10 s of reacquisition
  deriving DecidableEq, Repr

/-- One antenna input. spec/09 R273, R284. -/
structure AntSt where
  biasCmd : Option Bool := none -- R302: SAT_ANT_BIAS, over SAT_ANTk_BIAS
  state : Nat := 0 -- R300: 0 OFF, 1 OK, 2 OPEN, 3 SHORT, 4 EXCLUDED
  biasOn : Bool := false -- R273
  current : Rat := 0 -- R300: A
  cn0L1 : Rat := 0 -- R300
  cn0L5 : Rat := 0 -- R300
  opened : Bool := false -- R273: found OPEN
  openSince : Option Nat := none -- R273: current below 3 mA since
  okSince : Option Nat := none -- R301: current within limits since
  shortAt : Option Nat := none -- R273: instant of the last bias switch-off by a short
  geomSince : Option Nat := none -- R284: baselines beyond SAT_BASE_TOL since
  geomOkSince : Option Nat := none -- R301: within tolerance since
  excluded : Bool := false -- R284
  agc : List (Nat × Rat × Rat) := [] -- R285: AGC gain per band over 10 minutes, newest first
  cn0 : List (Nat × Rat × Rat) := [] -- R285: mean C/N0 per band over 10 minutes, newest first
  agcLowSince : List (Nat × Nat) := [] -- R285: per band, gain below the limit since
  deriving DecidableEq, Repr

/-- One solution block. spec/09 R280, R281. -/
structure SatBlock where
  v : List Rat := [0, 0, 0] -- R300: three values
  status : Nat := 0 -- R279
  sd : Rat := 0 -- R300
  good : Bool := false -- R281
  withdrawn : Bool := false -- R281
  epochT : Nat := 0 -- R280: epoch instant on the selected clock
  deriving DecidableEq, Repr

/-- Retained data of SAT in the MRAM. spec/09 R298. -/
structure SatRetained where
  gen : Nat := 0 -- R298
  ok : Bool := true -- R298: the CRC holds
  ephem : List (SatSys × Nat × Nat) := [] -- R298: system, satellite, time of the ephemeris
  almanacAt : Option Nat := none -- R278, R298: time of the almanac
  pos : Option (List Rat × Nat) := none -- R298: last position and its time
  sbas : Option Nat := none -- R298: time of the SBAS corrections
  drift : Rat := 0 -- R298: learned OCXO drift
  time : Option (Nat × Nat) := none -- R298: last time and bound
  deriving DecidableEq, Repr

/-- Types of start. spec/09 R278. -/
inductive SatStart where
  | hot | warm | cold
  deriving DecidableEq, Repr

/-- SAT time. spec/09 R289–R296. -/
structure SatTime where
  qual : Nat := 0 -- R291: 0 NONE, 1 LOCKED, 2 HOLDOVER, 3 SLEWING
  base : Nat := 0 -- R289: SAT time at the anchor, ns of TAI
  baseAt : Nat := 0 -- R289: anchor on the module's time axis
  slewRate : Rat := 0 -- R293: rate offset of a slew
  lastUpdate : Nat := 0 -- R292: instant of the last epoch that updated it
  hoStart : Nat := 0 -- R292: entry to HOLDOVER
  b0 : Rat := 0 -- R292: bound at entry, ns
  tEntry : Rat := 0 -- R292: baseplate temperature at entry, K
  dTmax : Rat := 0 -- R292: largest temperature change since entry
  sd : Rat := 0 -- R292: time standard deviation, ns
  err : Int := 0 -- R300 SAT_TIME_ERR
  offsets : List (Nat × Int) := [] -- R293: GNSS offsets of the confirmation, newest first
  confirmSince : Option Nat := none -- R293: start of consecutive confirming epochs
  lastOff : Option (Nat × Int × Rat) := none -- R288: last epoch's offset and frequency offset against the OCXO
  slewEnd : Nat := 0 -- R293: instant at which e is absorbed
  stepDue : Option (Nat × Int) := none -- R294: instant of the whole second and e
  held : Option Int := none -- R293: GNSS error held under TIME_INCONSISTENT
  latchedHold : Bool := false -- R285: HOLDOVER latched until SAT_TIME_ACCEPT
  lastStep : Int := 0 -- R302: last step, ns
  ppsSuppressUntil : Option Nat := none -- R294: no pulse before this SAT time
  lastPps : Option Nat := none -- R289: instant of the last SAT_PPS
  ocxoCtrl : Rat := 0 -- R290
  drift : Rat := 0 -- R290: learned drift, fractional frequency per second
  deriving DecidableEq, Repr

/-- The satellite receiver. spec/09. -/
structure SatSt where
  state : Nat := 0 -- R300: 0 OFF, 1 SLEEP, 2 ACQUIRING, 3 TRACKING, 4 FAULT
  start : SatStart := .cold -- R278
  startedAt : Nat := 0 -- R278
  ants : List AntSt := List.replicate 4 {} -- R272: ANT1 to ANT4
  chans : List SatChan := [] -- R275: channels in use, at most 384
  excluded : List (SatSys × Nat) := [] -- R302: SAT_EXCLUDE
  rtk : SatBlock := {} -- R279
  sbas : SatBlock := {} -- R279
  att : SatBlock := {} -- R279
  hplRtk : Option Rat := none -- R300; none: no solution gives one
  hplSbas : Option Rat := none -- R300
  svUsed : Nat := 0 -- R300
  raimExclAt : Option Nat := none -- R301: last epoch with an exclusion
  raimPassRun : Nat := 0 -- R301: consecutive passing epochs
  hplOkRun : Nat := 0 -- R301: epochs within the limit
  masterSubst : Bool := false -- R274
  corrStale : Bool := false -- R282
  spoofRun : List (Nat × Nat) := [] -- R287: pairs of antennas that agree, and for how many seconds on end
  spoofLatched : Bool := false -- R285
  jamLast : Option Nat := none -- R301: last instant interference was found
  corrAt : Option Nat := none -- R282: capture instant of the newest corrections
  stationKnown : Bool := false -- R282: 1005 or 1006 received
  antDescr : Bool := false -- R282: 1033 received
  corrSys : List (SatSys × Nat) := [] -- R282: systems with observations, and the instant of the newest
  rtcmBad : Word := 0 -- R300
  rtcmOther : Word := 0 -- R282: frames ignored and counted
  time : SatTime := {} -- R289
  ephem : List (SatSys × Nat × Nat) := [] -- R278, R297: ephemerides and their times
  almanacAt : Option Nat := none -- R278
  lastPos : Option (List Rat × Nat) := none -- R278
  retained : SatRetained := {} -- R298: the copy in the MRAM
  posWrittenAt : Nat := 0 -- R298
  driftWrittenAt : Nat := 0 -- R298
  wake : Option Nat := none -- R297: start of the wake in progress
  wakeFix : Bool := false -- R297: a fix was made in this wake
  nextWake : Option Nat := none -- R297: instant of the next wake
  deriving DecidableEq, Repr

end Sys2Proof.Machine
end

