-- ==== Sys2Proof/Machine/Types.lean ====
section
/-!
DEFINITION. What a command carries beside numbers: who reads or writes a register, what the pins and antennas show, and
the messages of the protocols in the form their own standards give them after checking.
-/
namespace Sys2Proof.Machine

/-- Who reads or writes a register or memory. spec/01 R13, R18. -/
inductive Who where
  | app0 | app1 | part | safeP | dma
  deriving DecidableEq, Repr

/-- One read of an encoder port in a slice. spec/08 R244, R248. -/
structure EncRead where
  at_ : Nat := 0 -- R245: capture time
  raw : Nat := 0 -- R247: count of the encoder
  ok : Bool := true -- R248: no error bit, no signal fault
  index : Option Nat := none -- R248: the count at a quadrature index met since the last read
  deriving DecidableEq, Repr

/-- What one sequencer slice finds at the pins of its channel. spec/08 R236. -/
structure SliceIn where
  encAz : Option EncRead := none -- R244; none: no read in this slice
  encShaft : Option EncRead := none -- R247
  ai : List Rat := [] -- R254: the inputs AI_T, AI_P and AI_A in this order, V or mA
  aoRead : List Rat := [] -- R262: readback of the outputs AO_T, AO_A1 and AO_A2 in this order, V or mA
  deriving DecidableEq, Repr

/-- One satellite's observation at an epoch, on one antenna. spec/09 R279. -/
structure SatObs where
  id : SigId := {} -- R275
  used : Bool := true -- R279: above the mask, healthy and tracked
  prange : Rat := 0 -- R286: pseudorange, m
  los : List Rat := [0, 0, 0] -- R286: line of sight
  sigma : Rat := 1 -- R286
  deriving DecidableEq, Repr

/-- What the satellite receiver measures at an epoch. spec/09 R279–R288. -/
structure EpochObs where
  epochS : Nat := 0 -- R279: SAT time of the epoch, ns
  obs : List SatObs := [] -- R279
  gnss : Option (SatSys × Nat) := none -- R289: the system that gives the time and its time at the epoch, ns; none: no time solution
  ocxoShares : Bool := false -- R288: the OCXO shares the change since the epoch before
  freqOffset : Rat := 0 -- R288: frequency of the OCXO against GNSS
  timeSd : Rat := 0 -- R292
  rtkAmb : Nat := 0 -- R279: carrier ambiguities of the RTK solution: 0 code only, 1 float, 2 fixed
  attAmb : Nat := 0 -- R279: of the attitude: 0 none, 1 float, 2 fixed
  ephem : List (SatSys × Nat × Nat) := [] -- R278: ephemerides decoded since the last epoch
  almanac : Option Nat := none -- R278
  baseline : List (Nat × Nat × Rat) := [] -- R284: antenna pair and its measured length
  utcOffset : Option Int := none -- R317
  bias : List (Nat × Rat) := [] -- R273: antenna and its measured bias current, A
  deriving DecidableEq, Repr

/-- A satellite that a pair of antennas tracks in common. spec/09 R287. -/
structure PairSat where
  sys : SatSys := .gps
  sv : Nat := 1
  phase : Rat := 0 -- R287: carrier phase of the one antenna less that of the other, cycles
  dir : List Rat := [0, 0, 0] -- R287: unit vector of the broadcast direction
  deriving DecidableEq, Repr

/-- A pair of antennas in the check of a second. spec/09 R287. -/
structure PairObs where
  a : Nat := 1
  b : Nat := 2
  sats : List PairSat := [] -- R287: the satellites tracked in common
  deriving DecidableEq, Repr

/-- Where an RTCM frame arrives. spec/09 R282. -/
inductive RtcmVia where
  | ser (n charErr : Nat)
  | udp (port : Nat)
  deriving DecidableEq, Repr

/-- What the checks of a second find. spec/09 R285, R287. -/
structure SecondObs where
  agc : List (Nat × Nat × Rat) := [] -- R285: antenna, band (0 L1, 1 L5), gain, dB
  cn0 : List (Nat × Nat × Rat) := [] -- R285: antenna, band, mean C/N0
  pairs : List PairObs := [] -- R287: the phases and directions compared
  deriving DecidableEq, Repr

/-- How a transmission attempt on a CAN port ends. spec/16 R476, R481, R485: success, a lost arbitration, or an error with
the bit position at which it began, whether that lies after the arbitration field, and whether it is a missing
acknowledgement. -/
inductive TxOutcome where
  | success | lost
  | error (bitPos : Nat) (afterArb : Bool) (noAck : Bool)
  deriving DecidableEq, Repr

/-- What a cold start finds in the retained memory. spec/19 R564, spec/18 R524. -/
structure RetainBad where
  words : Nat := 0 -- R564: copies of the control words that fail their check: bit 0 A, bit 1 B
  keys : List Nat := [] -- R564: keys that fail: 1 to 3 a role key, 0x10 the integrator image key
  cfg : Nat := 0 -- R563: configuration copies that are not valid: bit 0 A, bit 1 B
  models : Bool := false -- R157: the learned models fail their CRC
  sat : Bool := false -- R298: SAT's data fail their CRC
  journal : Option Nat := none -- R348: number of the first journal entry whose CRC fails
  slot : Nat := 0 -- R524: a write cut off left in the slot after the head: 0 nothing, 1 the whole record, 2 a part
  deriving DecidableEq, Repr

/-- What met an error of the DRAM. spec/01 R14: an access of a processor, a transfer of a DMA channel, the staging of a cluster's problem, or
none, where a scrub found it. -/
inductive EccMeet where
  | none_ | core (who : Who) | dma (ch : Nat) | hen (cl : Nat)
  deriving DecidableEq, Repr

/-- What leaves the module during a command: packets, messages to the other units, frames on its ports, bus errors, the data
a register read returns and interrupts. The pins are state, not messages. -/
inductive Emit where
  | packet (iface : Iface) (addr port : Nat) (bytes : List Byte) -- R336: a reply, completion or notification
  | mirror (lan : Bool) (m : MirrorData) -- R41, R392: frame state to the standby, on the lane or on the LAN path
  | holdState (lan : Bool) (m : MirrorData) -- R392: hold state to W
  | journal (lan : Bool) (e : JEntry) -- R349, R392: an entry to the peer
  | journalAck (lan : Bool) (jnum : Nat) -- R349: the acknowledgement to the peer
  | heartbeat (path : Nat) (bytes : List Byte) -- R392: 0 the peer lane, 1 the W lane, 2 the LAN
  | grant (unit path : Nat) (bytes : List Byte) -- R398
  | stopToPeer (mask : Nat) -- R432: process stop request over the Shesen link
  | resetToPeer -- R453: SAFE_RESET forwarded
  | ptp (n port kind seq : Nat) (ann : Option PtpAnnounce) -- R316, R317: a message, an Announce with its data set
  | can (port : Nat) (frame : CanFrame) -- R476: a frame whose attempt has begun
  | serial (port : Nat) (bytes : List Byte) -- R495
  | irq (name : String) (n : Nat) -- an interrupt raised to a processor: its kind, and its queue or channel
  | busError (who : Who) (addr : Nat) -- R13, R19: an access that was not performed
  | readData (w : Word) -- R8: what a register read returns
  deriving DecidableEq, Repr

end Sys2Proof.Machine
end

