-- ==== Sys2Proof/Syntax.lean ====
section
/-!
DEFINITION. The commands of the block: one constructor for each row of the table. The first operand of each, `t`, is the
instant at which the command reaches the block, in ns of the module's own time axis (log 1). An operand with a default is one that an event need
not tell: where it is left out, the default is what it says.
-/
namespace Sys2Proof

open Machine in
/-- The commands. Rows with an opcode carry the session, the sequence number and the parameter bytes of their packet. -/
inductive Instr where
  /-- A command datagram arrives on port 30960 and is checked in order, discarded or refused, or passed on to the row of its opcode. R345. -/
  | commandPacket (t : Nat) (iface : Iface) (addr : Nat) (port : Nat) (bytes : List Byte)
  /-- A sequence gap is not filled within 500 ms of the oldest held packet, so every held packet is discarded and answered SEQ_GAP. R346. -/
  | seqGapTimeout (t : Nat) (sess : Nat)
  /-- The peer acknowledges a mirrored journal entry over XLP; the command is then executed and the reply is sent. R349. -/
  | journalPeerAck (t : Nat) (jnum : Nat)
  /-- A peer acknowledgement does not arrive within CMD_MIRROR_TIMEOUT; the peer is treated as absent, replies carry SINGLE and JOURNAL_MIRROR_LOST is raised. R351. -/
  | journalMirrorTimeout (t : Nat) (jnum : Nat)
  /-- Journal resynchronisation with a returning peer completes; the peer is present again and the alarm clears. R351. -/
  | journalResyncComplete (t : Nat) (held : List Nat)
  /-- An ACCEPTED command reaches its final status; the status is journalled and mirrored, and a completion packet is sent. R352. -/
  | commandCompletion (t : Nat) (sess : Nat) (seq : Nat) (status : Nat) (p : List Byte)
  /-- A session receives no valid packet for 30 s and becomes DORMANT. R344. -/
  | sessionDormant (t : Nat) (sess : Nat)
  /-- A DORMANT session is reclaimed after CMD_DORMANT_KEEP, or earlier when a new session needs its slot. R344. -/
  | sessionReclaim (t : Nat) (sess : Nat)
  /-- Returns the mode, unit, domains, generation, image slots and running versions. R592. -/
  | sysQuery (t : Nat) (sess : Nat) (seq : Nat) (p : List Byte)
  /-- Returns the bytes of the Survey. R364. -/
  | getSurvey (t : Nat) (sess : Nat) (seq : Nat) (p : List Byte)
  /-- Requests a major-mode transition; it is checked against the transition table, and for HOLD also against R575. R574. -/
  | setMode (t : Nat) (sess : Nat) (seq : Nat) (p : List Byte)
  /-- Returns the session's expected sequence number, held packets, outstanding commands and session counts. R360. -/
  | sessionQuery (t : Nat) (sess : Nat) (seq : Nat) (p : List Byte)
  /-- Opens or resumes a pair or unit session, with role checks and key derivation. R343. -/
  | openSession (t : Nat) (iface : Iface) (addr : Nat) (port : Nat) (client : Nat) (sess : Nat) (auth : Bool) (p : List Byte)
  /-- Closes the session and frees its slot once its accepted commands have completed. R344. -/
  | closeSession (t : Nat) (sess : Nat) (seq : Nat) (p : List Byte)
  /-- Keeps a silent session open. R344. -/
  | keepalive (t : Nat) (sess : Nat) (seq : Nat) (p : List Byte)
  /-- Returns free journal blocks, journal numbers, peer presence and refusal count. R360. -/
  | journalQuery (t : Nat) (sess : Nat) (seq : Nat) (p : List Byte)
  /-- Returns entries of the parameter catalogue. R592. -/
  | cfgQuery (t : Nat) (sess : Nat) (seq : Nat) (p : List Byte)
  /-- Writes configuration body bytes into the DRAM staging area. R585. -/
  | cfgStage (t : Nat) (sess : Nat) (seq : Nat) (p : List Byte)
  /-- Validates the staged body and returns a report. R585. -/
  | cfgValidate (t : Nat) (sess : Nat) (seq : Nat) (p : List Byte)
  /-- Writes a validated generation to MRAM and schedules its effect ten frame starts later. R586. -/
  | cfgCommit (t : Nat) (sess : Nat) (seq : Nat) (p : List Byte)
  /-- Restores selected factory settings and restarts the unit through RESTORE. R570. -/
  | cfgFactory (t : Nat) (sess : Nat) (seq : Nat) (p : List Byte)
  /-- Copies the peer's generation in force over the Shesen link to a replacement module. R588. -/
  | cfgFromPeer (t : Nat) (sess : Nat) (seq : Nat) (p : List Byte)
  /-- Selects a hold function, checked against the state at acceptance, and applied at the next fence. R98. -/
  | holdSelectFunction (t : Nat) (sess : Nat) (seq : Nat) (p : List Byte)
  /-- Sets the position and/or heading setpoint. R113. -/
  | holdSetSetpoint (t : Nat) (sess : Nat) (seq : Nat) (p : List Byte)
  /-- Changes the forward end at the next fence. R111. -/
  | holdSetEnd (t : Nat) (sess : Nat) (seq : Nat) (p : List Byte)
  /-- Sets the berth-press force and heading offset. R124. -/
  | holdBprSet (t : Nat) (sess : Nat) (seq : Nat) (p : List Byte)
  /-- Returns the hold function, BPR state, flags, demand and setpoint. R132. -/
  | holdStatus (t : Nat) (sess : Nat) (seq : Nat) (p : List Byte)
  /-- Selects or deselects a reference slot at the next fence. R67. -/
  | refSelect (t : Nat) (sess : Nat) (seq : Nat) (p : List Byte)
  /-- Returns a slot's state, reason, share, NIS and recent rejections. R92. -/
  | refQuery (t : Nat) (sess : Nat) (seq : Nat) (p : List Byte)
  /-- Returns a latched REJECTED reference to TRIAL and clears its rejection count. R74. -/
  | refRetry (t : Nat) (sess : Nat) (seq : Nat) (p : List Byte)
  /-- Repeats the estimator initialisation. R84. -/
  | estReinit (t : Nat) (sess : Nat) (seq : Nat) (p : List Byte)
  /-- Selects or deselects a thruster channel for allocation. R136. -/
  | alcSelect (t : Nat) (sess : Nat) (seq : Nat) (p : List Byte)
  /-- Switches the berm on or off. R164. -/
  | alcSetBerm (t : Nat) (sess : Nat) (seq : Nat) (p : List Byte)
  /-- Returns allocation status, flags, slack, power and iterations. R164. -/
  | alcQuery (t : Nat) (sess : Nat) (seq : Nat) (p : List Byte)
  /-- Returns the learned values of a channel, or of all channels, to the configured values. R164. -/
  | alcLearnReset (t : Nat) (sess : Nat) (seq : Nat) (p : List Byte)
  /-- Returns a channel's state, faults, outputs, feedback and counters. R270. -/
  | thrQuery (t : Nat) (sess : Nat) (seq : Nat) (p : List Byte)
  /-- Clears latched faults and returns a FAILED channel to service when no fault is present. R264. -/
  | thrClear (t : Nat) (sess : Nat) (seq : Nat) (p : List Byte)
  /-- Enables a channel, or disables it with ramp-out and abort of its unsent sealed set. R265. -/
  | thrEnable (t : Nat) (sess : Nat) (seq : Nat) (p : List Byte)
  /-- Returns the consequence-analysis summary. R193. -/
  | cqaQuery (t : Nat) (sess : Nat) (seq : Nat) (p : List Byte)
  /-- Returns the detailed result of one failure case. R193. -/
  | cqaCaseQuery (t : Nat) (sess : Nat) (seq : Nat) (p : List Byte)
  /-- Enables or disables a failure case at the next fence. R193. -/
  | cqaCaseEnable (t : Nat) (sess : Nat) (seq : Nat) (p : List Byte)
  /-- Poses an ad-hoc failure set on queue 1 and completes with a case result. R188. -/
  | cqaWhatif (t : Nat) (sess : Nat) (seq : Nat) (p : List Byte)
  /-- A what-if query not completed within 50 frames completes with DEADLINE. R188. -/
  | whatifDeadline (t : Nat) (sess : Nat) (seq : Nat)
  /-- Returns the state of the selected and virtual clocks. R331. -/
  | timeQuery (t : Nat) (sess : Nat) (seq : Nat) (p : List Byte)
  /-- Forces or releases the frame's choice of virtual clock. R313. -/
  | timeSelect (t : Nat) (sess : Nat) (seq : Nat) (p : List Byte)
  /-- Arms or disarms a pulse output. R331. -/
  | timePulse (t : Nat) (sess : Nat) (seq : Nat) (p : List Byte)
  /-- Releases a pending step of a named virtual clock, mirrored to the pair. R310. -/
  | timeStepAllow (t : Nat) (sess : Nat) (seq : Nat) (p : List Byte)
  /-- Returns a CAN port's state, counters, rates, last clash and load. R498. -/
  | canQuery (t : Nat) (sess : Nat) (seq : Nat) (p : List Byte)
  /-- Starts bus-off recovery of a CAN port. R483. -/
  | busRecover (t : Nat) (sess : Nat) (seq : Nat) (p : List Byte)
  /-- Starts listen-only rate detection on a port. R486. -/
  | canRateDetect (t : Nat) (sess : Nat) (seq : Nat) (p : List Byte)
  /-- Returns entries of a port's discovery table. R498. -/
  | canNodeList (t : Nat) (sess : Nat) (seq : Nat) (p : List Byte)
  /-- Returns a serial port's counters. R498. -/
  | serQuery (t : Nat) (sess : Nat) (seq : Nat) (p : List Byte)
  /-- Returns up to 43 points. R384. -/
  | pointRead (t : Nat) (sess : Nat) (seq : Nat) (p : List Byte)
  /-- Writes a point whose producer is command. R384. -/
  | pointWrite (t : Nat) (sess : Nat) (seq : Nat) (p : List Byte)
  /-- Forces a configured point to a value with quality FORCED. R380. -/
  | pointForce (t : Nat) (sess : Nat) (seq : Nat) (p : List Byte)
  /-- Ends a force with one new write, from the kept state. R380. -/
  | pointUnforce (t : Nat) (sess : Nat) (seq : Nat) (p : List Byte)
  /-- Creates a periodic or on-change subscription. R384. -/
  | pointSubscribe (t : Nat) (sess : Nat) (seq : Nat) (p : List Byte)
  /-- Ends a subscription. R384. -/
  | pointUnsubscribe (t : Nat) (sess : Nat) (seq : Nat) (p : List Byte)
  /-- Returns configured and unknown producers. R384. -/
  | producerList (t : Nat) (sess : Nat) (seq : Nat) (p : List Byte)
  /-- Between F+19 and F+20 ms, a subscription sends a notification packet of its points. R385. -/
  | pointNotify (t : Nat) (sub : Nat)
  /-- Returns a field channel's and its group's status. R470. -/
  | fioQuery (t : Nat) (sess : Nat) (seq : Nat) (p : List Byte)
  /-- Sets the commanded states of command-sourced outputs. R470. -/
  | fioSet (t : Nat) (sess : Nat) (seq : Nat) (p : List Byte)
  /-- Switches an output on for a duration, as an accepted item. R470. -/
  | fioPulse (t : Nat) (sess : Nat) (seq : Nat) (p : List Byte)
  /-- Clears latched OVERLOAD and STUCK_OFF. R470. -/
  | fioClear (t : Nat) (sess : Nat) (seq : Nat) (p : List Byte)
  /-- Restores the outputs of a group that is in WAIT_RESTORE. R464. -/
  | fioGroupRestore (t : Nat) (sess : Nat) (seq : Nat) (p : List Byte)
  /-- Writes the freeze record and stops writes to the record and snapshot regions. R530. -/
  | logFreeze (t : Nat) (sess : Nat) (seq : Nat) (p : List Byte)
  /-- Ends a freeze and writes the queued records and held snapshots. R531. -/
  | logThaw (t : Nat) (sess : Nat) (seq : Nat) (p : List Byte)
  /-- Returns held records from MRAM or from the spillway. R541. -/
  | logRead (t : Nat) (sess : Nat) (seq : Nat) (p : List Byte)
  /-- Returns a snapshot's header and entries. R541. -/
  | logSnapRead (t : Nat) (sess : Nat) (seq : Nat) (p : List Byte)
  /-- Returns the event code catalogue. R519. -/
  | logCodes (t : Nat) (sess : Nat) (seq : Nat) (p : List Byte)
  /-- Copies records and snapshots to the NAND export partition. R541. -/
  | logExport (t : Nat) (sess : Nat) (seq : Nat) (p : List Byte)
  /-- Tests the log MRAM and returns the log from the spillway to MRAM. R536. -/
  | logSpillEnd (t : Nat) (sess : Nat) (seq : Nat) (p : List Byte)
  /-- Returns the safety points. R453. -/
  | safeQuery (t : Nat) (sess : Nat) (seq : Nat) (p : List Byte)
  /-- Ends latched stops and faults whose causes are gone, optionally forwarded to the peer. R431. -/
  | safeReset (t : Nat) (sess : Nat) (seq : Nat) (p : List Byte)
  /-- Starts a brake test on a brake. R436. -/
  | safeBrakeTest (t : Nat) (sess : Nat) (seq : Nat) (p : List Byte)
  /-- Returns the confirmed or pending safety set with its check value. R448. -/
  | safeCfgRead (t : Nat) (sess : Nat) (seq : Nat) (p : List Byte)
  /-- Puts the pending safety set into effect when the check value matches. R448. -/
  | safeCfgConfirm (t : Nat) (sess : Nat) (seq : Nat) (p : List Byte)
  /-- Requests a process stop of the named STS pairs. R432. -/
  | safeStop (t : Nat) (sess : Nat) (seq : Nat) (p : List Byte)
  /-- Returns the redundancy state. R420. -/
  | redQuery (t : Nat) (sess : Nat) (seq : Nat) (p : List Byte)
  /-- Schedules a hand-over of authority to the peer two frames later. R413. -/
  | roleRotate (t : Nat) (sess : Nat) (seq : Nat) (p : List Byte)
  /-- Makes the Warden take command authority. R416. -/
  | wardenPromote (t : Nat) (sess : Nat) (seq : Nat) (p : List Byte)
  /-- Hands the Warden's authority back to A or B. R417. -/
  | wardenRelease (t : Nat) (sess : Nat) (seq : Nat) (p : List Byte)
  /-- Writes image bytes into the update staging partition. R581. -/
  | imgStage (t : Nat) (sess : Nat) (seq : Nat) (p : List Byte)
  /-- Verifies the staged image and copies it into the inactive slot. R581. -/
  | imgVerify (t : Nat) (sess : Nat) (seq : Nat) (p : List Byte)
  /-- Marks the inactive slot of a domain as the one to start from. R581. -/
  | imgActivate (t : Nat) (sess : Nat) (seq : Nat) (p : List Byte)
  /-- Ends a domain's accepted items and powers the domain down. R578. -/
  | domainDrain (t : Nat) (sess : Nat) (seq : Nat) (p : List Byte)
  /-- Powers a drained domain up from its active slot. R578. -/
  | domainRestore (t : Nat) (sess : Nat) (seq : Nat) (p : List Byte)
  /-- A draining domain reaches off; DOMAIN_DRAIN completes. R578. -/
  | domainOff (t : Nat) (dom : Nat)
  /-- A restored domain is running again; DOMAIN_RESTORE completes. R578. -/
  | domainRunning (t : Nat) (dom : Nat)
  /-- Replies DONE and schedules a restart through RESTORE. R592. -/
  | sysRestart (t : Nat) (sess : Nat) (seq : Nat) (p : List Byte)
  /-- 100 ms after SYS_RESTART, the unit enters RESTORE. R592. -/
  | sysRestartDelayEnd (t : Nat)
  /-- Writes a role key or the integrator image key into the key store. R592. -/
  | keyWrite (t : Nat) (sess : Nat) (seq : Nat) (p : List Byte)
  /-- Submits a solver job to queue 2 or 3 by command. R228. -/
  | henSubmit (t : Nat) (sess : Nat) (seq : Nat) (p : List Byte)
  /-- Returns the Hold engine status and queue depths. R228. -/
  | henStatus (t : Nat) (sess : Nat) (seq : Nat) (p : List Byte)
  /-- Cancels a commanded solver job. R228. -/
  | henCancel (t : Nat) (sess : Nat) (seq : Nat) (p : List Byte)
  /-- Returns the receiver's state and time information. R302. -/
  | satQuery (t : Nat) (sess : Nat) (seq : Nat) (p : List Byte)
  /-- Restarts the receiver hot, warm or cold. R298. -/
  | satRestart (t : Nat) (sess : Nat) (seq : Nat) (p : List Byte)
  /-- Evaluates the cross-antenna check afresh and ends a latched spoof withdrawal. R302. -/
  | satIntegrityReset (t : Nat) (sess : Nat) (seq : Nat) (p : List Byte)
  /-- Accepts the held GNSS time without the gate. R293. -/
  | satTimeAccept (t : Nat) (sess : Nat) (seq : Nat) (p : List Byte)
  /-- Excludes or includes a satellite. R302. -/
  | satExclude (t : Nat) (sess : Nat) (seq : Nat) (p : List Byte)
  /-- Switches an antenna bias on or off. R302. -/
  | satAntBias (t : Nat) (sess : Nat) (seq : Nat) (p : List Byte)
  /-- A write to a register field that has no behaviour of its own stores per its access code. R8. -/
  | registerWrite (t : Nat) (who : Who) (addr : Nat) (v : Word)
  /-- A read of a register with RS fields returns them and clears them. R8. -/
  | stickyRegisterRead (t : Nat) (who : Who) (addr : Nat)
  /-- A partition access outside R18 is not performed, and a bus error and a record result. R19. -/
  | partitionAccessViolation (t : Nat) (addr : Nat)
  /-- A processor access outside its DRAM regions ends in a bus error and a record. R13. -/
  | dramRegionViolation (t : Nat) (who : Who) (addr : Nat)
  /-- A DRAM ECC error is corrected and counted, or treated as a lockstep mismatch or a failed access. R14. -/
  | dramEccError (t : Nat) (addr : Nat) (corrected : Bool) (met : EccMeet := .none_)
  /-- An APP-0 or APP-1 lockstep mismatch removes authority, signals SAFE-P, resets the domain and returns the unit in STANDBY or SAFE-STOP. R11. -/
  | lockstepMismatch (t : Nat) (app1 : Bool)
  /-- An integrator partition time slice ends and the partition is pre-empted. R17. -/
  | partitionSliceEnd (t : Nat) (used : Nat)
  /-- A partition fault restarts the partition after ending its jobs and transfers, or stops it after three restarts. R20. -/
  | partitionFault (t : Nat) (cause : Nat)
  /-- The 500 ms partition watchdog expires, a partition fault. R20. -/
  | partitionWatchdogExpiry (t : Nat)
  /-- A frame starts at a 20 ms boundary of the selected clock. R28. -/
  | frameStart (t : Nat)
  /-- At F+3 ms, late estimation is stopped and the hold function starts and submits the MPC. R43. -/
  | estimationDeadline (t : Nat) (ended : Option Nat)
  /-- At F+4 ms, a late MPC is cancelled and the ALLOC job is submitted to queue 0. R44. -/
  | allocSubmitInstant (t : Nat)
  /-- APP-0 composes channel commands from the nominal result, or repeats the previous ones, and seals them. R158. -/
  | allocationCompose (t : Nat) (chans : List Nat)
  /-- At F+15.9 ms, unsealed compositions are discarded and stalled frames are counted. R46. -/
  | sealWindowClose (t : Nat)
  /-- At F+16 ms, every channel's SEAL is latched and the timed setpoint frames become due. R239. -/
  | commitInstant (t : Nat)
  /-- The active unit sends the frame state to the standby over XLP. R41. -/
  | frameMirrorSend (t : Nat)
  /-- The standby receives a mirror, keeps the newest and discards older ones. R41. -/
  | frameMirrorReceived (t : Nat) (m : MirrorData)
  /-- A step of the frame clock lets the current frame run out and starts the next at a later boundary. R52. -/
  | frameClockStep (t : Nat) (vc : Nat)
  /-- A reference with no usable sample for REF_TIMEOUT becomes UNAVAILABLE. R61. -/
  | refTimeoutExpiry (t : Nat) (slot : Nat)
  /-- A reference passes for REF_TRIAL_TIME and becomes ACCEPTED. R73. -/
  | refTrialComplete (t : Nat) (slot : Nat)
  /-- Dead reckoning lasts EST_DR_LIMIT and POS_LOST is raised, or for heading HDG_LOST. R87. -/
  | estDrLimitExpiry (t : Nat) (hdg : Bool)
  /-- The standby's estimate differs from the mirrored one for 50 frames and EST_PEER_DIFF is raised. R85. -/
  | estPeerDiffCount (t : Nat)
  /-- After HOLD_MPC_FAIL_FRAMES failed frames, the function falls back to the direct law. R107. -/
  | mpcFailCount (t : Nat)
  /-- After HOLD_MPC_OK_FRAMES good results, the function returns to the MPC. R107. -/
  | mpcOkCount (t : Nat)
  /-- All joystick axes are centred for 0.5 s after an END change and the freeze ends. R112. -/
  | joyCentreRelease (t : Nat)
  /-- An excursion warning or alarm clears after 10 s below its limit. R114. -/
  | excursionClearTimer (t : Nat) (alarm : Nat)
  /-- The contact conditions hold for BPR_STALL_TIME and BPR moves to RAMPING or PRESSING. R122. -/
  | bprContactDetected (t : Nat)
  /-- No contact within BPR_CONTACT_TIMEOUT of selection raises BPR_NO_CONTACT. R122. -/
  | bprContactTimeout (t : Nat)
  /-- The outward speed exceeds the limit for 1 s, or the gap exceeds BPR_LOSS_DIST, and BPR moves to LOST. R123. -/
  | bprContactLoss (t : Nat)
  /-- A power-envelope CAN frame is checked and applied, ignored or discarded. R152. -/
  | powerEnvelopeMessage (t : Nat) (port : Nat) (sof : Nat) (frame : CanFrame)
  /-- A section has no current source at a fence and enters CONSERVATIVE. R153. -/
  | pwrSourceStale (t : Nat) (sec : Nat)
  /-- A source delivers PWR_FRESH_COUNT consecutive messages and its section becomes FRESH. R153. -/
  | pwrFreshCountReached (t : Nat) (sec : Nat)
  /-- A section's bound binds, or stops binding, for PWR_LIMIT_FRAMES frames. R163. -/
  | pwrLimitCount (t : Nat) (sec : Nat)
  /-- After ALC_REPEAT_LIMIT repeated frames, ALLOC_STALLED is raised. R159. -/
  | alcRepeatLimitReached (t : Nat)
  /-- The slack exceeds the limit, or stays below it, for ALC_SAT_TIME. R160. -/
  | alcSatTimer (t : Nat)
  /-- Every 600 s, learned thruster values are written to MRAM. R157. -/
  | learnedModelSave (t : Nat)
  /-- Once per second, the active unit sends its learned values to the standby. R157. -/
  | learnedModelMirror (t : Nat)
  /-- A case's breach timer reaches CQA_ALARM_DELAY and the case enters alarm. R182. -/
  | cqaAlarmDelayReached (t : Nat) (k : Nat)
  /-- A case stays clear for CQA_CLEAR_TIME and leaves alarm. R183. -/
  | cqaClearTimeReached (t : Nat) (k : Nat)
  /-- A case stays UNPROVEN for CQA_UNPROVEN_DELAY and CQA_UNPROVEN is raised. R181. -/
  | cqaUnprovenDelayReached (t : Nat)
  /-- Every 50 frames, a capability-envelope period starts, two problems per frame. R186. -/
  | capabilityEnvelopePeriod (t : Nat)
  /-- At a period's 50th frame, unsolved directions keep the old envelope and ENV_PARTIAL is set. R187. -/
  | capabilityEnvelopeEnd (t : Nat)
  /-- A write to HEN_Qq_SUB_HI copies and checks a descriptor and accepts or refuses the job. R213. -/
  | henSubHiWrite (t : Nat) (q : Nat) (who : Who) (v : Word)
  /-- A problem ends on a cluster; outputs and status are written, and the cluster dispatches the next work. R211. -/
  | henProblemEnd (t : Nat) (cl : Nat) (both : Bool := false)
  /-- A higher-queue problem reaches a suspension point while lower-queue work waits, and is suspended. R212. -/
  | henSuspensionPoint (t : Nat) (cl : Nat) (both : Bool := false)
  /-- A job's deadline arrives and the job is ended TRUNCATED. R217. -/
  | henJobDeadline (t : Nat) (q : Nat) (id : Nat) (ends : List Nat := [])
  /-- A write to HEN_Qq_CANCEL cancels the oldest job with that tag. R219. -/
  | henQCancelWrite (t : Nat) (q : Nat) (tag : Word) (ends : List Nat := [])
  /-- Clearing HEN_Qq_CTRL.EN aborts the queued jobs. R220. -/
  | henQEnClear (t : Nat) (q : Nat)
  /-- A write to POP removes the oldest completion entry. R227. -/
  | henQPop (t : Nat) (q : Nat)
  /-- Clearing CLn_EN makes a cluster stop taking new work under the drain rule. R221. -/
  | henClusterEnClear (t : Nat) (cl : Nat)
  /-- A cluster SRAM error is corrected, or ends the problem ABSENT and may take the cluster out of service. R223. -/
  | henSramError (t : Nat) (cl : Nat) (corrected : Bool)
  /-- A cluster stops by a fault of its domain; its problems end ABSENT with CLUSTER_LOST. R223. -/
  | henClusterStop (t : Nat) (cl : Nat)
  /-- A draining cluster finishes its permitted work and is powered down. R221. -/
  | henDrainDone (t : Nat) (cl : Nat)
  /-- A channel's 100 µs slice samples angles, supervises, hands over, ramps, gates and writes the outputs. R236. -/
  | sequencerSlice (t : Nat) (c : Nat) (inp : SliceIn)
  /-- A write of SEAL locks the shadow set and builds the timed SETPOINT frame. R237. -/
  | thrSealWrite (t : Nat) (c : Nat)
  /-- A write to a shadow register stores it, or is ignored with WR_SEALED while sealed. R238. -/
  | thrShadowWrite (t : Nat) (c : Nat) (reg : Nat) (v : Word)
  /-- A WITHDRAW write clears SEAL before the commit, or is late with WD_LATE. R238. -/
  | thrWithdraw (t : Nat) (c : Nat)
  /-- A write of CTRL.CLEAR clears latched faults. R264. -/
  | thrCtrlClear (t : Nat) (c : Nat)
  /-- A write of CTRL.EN disables or enables the channel. R265. -/
  | thrCtrlEnWrite (t : Nat) (c : Nat) (en : Bool)
  /-- Redundancy supervision sets or clears THR_AUTH, switching setpoints, analogue outputs and ROLE outputs. R234. -/
  | thrAuthWrite (t : Nat) (on : Bool)
  /-- After loss of authority, the analogue outputs go to 0 V or 0 mA once THR_AO_HOLD has expired. R234. -/
  | thrAoHoldExpiry (t : Nat)
  /-- A FEEDBACK frame is checked and accepted, ignored or discarded. R259. -/
  | thrFeedbackFrame (t : Nat) (port : Nat) (sof : Nat) (frame : CanFrame)
  /-- A FEEDBACK2 frame with shaft data and accepted epoch is checked and taken. R258. -/
  | thrFeedback2Frame (t : Nat) (port : Nat) (sof : Nat) (frame : CanFrame)
  /-- No valid feedback within THR_c_FB_TIMEOUT: FAILED, or CAN_LOST on a BOTH link. R262. -/
  | thrFbTimeout (t : Nat) (c : Nat)
  /-- The azimuth fails to follow for THR_c_AZ_FOLLOW_TIME and the channel is ramped out. R262. -/
  | thrAzFollowExpiry (t : Nat) (c : Nat)
  /-- The azimuth turns the wrong way for THR_c_AZ_DIR_TIME and the thrust is zeroed. R262. -/
  | thrAzWrongDirExpiry (t : Nat) (c : Nat)
  /-- The rudder stays more than 5° from the active angle for 2 s and the channel is ramped out. R262. -/
  | thrRudderFollowExpiry (t : Nat) (c : Nat)
  /-- Measured thrust stays too high for 1 s and the thrust is zeroed. R262. -/
  | thrTHighExpiry (t : Nat) (c : Nat)
  /-- Thrust deviation lasts THR_c_T_DEV_TIME and the channel is DEGRADED. R262. -/
  | thrTDevExpiry (t : Nat) (c : Nat)
  /-- Two azimuth sources disagree for 0.5 s and the channel is DEGRADED. R262. -/
  | thrAngDisagreeExpiry (t : Nat) (c : Nat)
  /-- After 1 s of READY and not LOCAL, an UNAVAILABLE channel returns to service. R262. -/
  | thrNotReadyRecovery (t : Nat) (c : Nat)
  /-- A DEGRADED channel's condition is absent for 10 s and the channel returns to service. R264. -/
  | thrDegradedRecovery (t : Nat) (c : Nat)
  /-- At each epoch, SAT computes solutions with RAIM and protection levels and writes the blocks. R279. -/
  | satEpoch (t : Nat) (obs : EpochObs)
  /-- Each second, SAT runs the cross-antenna and interference checks. R285. -/
  | satSecondChecks (t : Nat) (obs : SecondObs)
  /-- Acquisition finds a signal, which is assigned a channel at the next slice. R275. -/
  | satSignalAcquired (t : Nat) (id : SigId) (elev : Rat)
  /-- A lost signal's 10 s reacquisition ends and its channel is released. R276. -/
  | satChannelRelease (t : Nat) (id : SigId)
  /-- An RTCM 3 frame is received, checked and used or counted. R282. -/
  | rtcmFrame (t : Nat) (via : RtcmVia) (bytes : List Byte := [])
  /-- A bias current below 3 mA for 1 s sets the antenna OPEN. R273. -/
  | antOpenDetect (t : Nat) (a : Nat)
  /-- The bias current limit acts at 80 mA and the bias is switched off. R273. -/
  | antShort (t : Nat) (a : Nat)
  /-- Every 10 s a shorted bias is retried. R273. -/
  | antBiasRetry (t : Nat) (a : Nat) (ok : Bool)
  /-- An antenna's baselines differ beyond SAT_BASE_TOL for 10 s and the antenna is excluded. R284. -/
  | antGeometryExclude (t : Nat) (a : Nat)
  /-- No epoch updates SAT time for 1 s and SAT time enters HOLDOVER. R292. -/
  | satHoldoverEntry (t : Nat)
  /-- SAT_RETURN_CONFIRM epochs pass and SAT time slews, steps or waits. R293. -/
  | satReturnConfirmed (t : Nat)
  /-- At the next whole second, SAT time steps to GNSS time and the due pulse is suppressed. R294. -/
  | satTimeStep (t : Nat)
  /-- The slewed error is absorbed and SAT time is LOCKED. R293. -/
  | satSlewComplete (t : Nat)
  /-- SAT_PPS marks a whole second of SAT time. R289. -/
  | satPps (t : Nat)
  /-- In KEEP, a wake powers D1, D9 and D8 and runs SAT. R297. -/
  | satWake (t : Nat)
  /-- A wake ends, calibrates the time keeper, writes retained data and powers down. R297. -/
  | satWakeEnd (t : Nat)
  /-- SAT writes its retained data on its periodic and event schedule. R298. -/
  | satRetainedWrite (t : Nat)
  /-- A Sync with Follow_Up gives an offset sample to the servo. R308. -/
  | ptpSyncReceived (t : Nat) (n : Nat) (port : Nat) (dom : Nat) (sender : Nat) (log : Int) (origin : Nat := 0) (corr : Rat := 0)
  /-- A delay measurement updates the mean path delay. R308. -/
  | ptpDelayResponse (t : Nat) (n : Nat) (delay : Rat)
  /-- An Announce message feeds the BMCA. R317. -/
  | ptpAnnounceReceived (t : Nat) (port : Nat) (msg : PtpAnnounce)
  /-- The announce receipt timeout expires and the source is not present. R307. -/
  | ptpAnnounceTimeout (t : Nat) (n : Nat) (port : Nat)
  /-- No Sync within four intervals; the clock enters HOLDOVER. R311. -/
  | ptpSyncTimeout (t : Nat) (n : Nat)
  /-- A PPS_IN rising edge gives a phase sample. R307. -/
  | ppsInEdge (t : Nat)
  /-- A clock's offsets stay within TMU_LOCK_LIMIT for TMU_LOCK_TIME and the clock becomes LOCKED. R308. -/
  | vcLock (t : Nat) (n : Nat)
  /-- A virtual clock is stepped at its whole second, or the step is deferred in HOLD. R309. -/
  | vcStep (t : Nat) (n : Nat)
  /-- VC0 has been present for TMU_REVERT_TIME and the frame returns to VC0. R313. -/
  | frameRevertTimer (t : Nat)
  /-- The configured source has been present for 10 s and the clock leaves SAT fallback. R314. -/
  | fallbackReturnTimer (t : Nat) (n : Nat)
  /-- A write of TMU_CTRL sets the selection force and fallback and releases pending steps. R313. -/
  | tmuCtrlWrite (t : Nat) (v : Word)
  /-- A write of TMU_INCR sets the counter increment, clamped to ±50 ppm. R305. -/
  | tmuIncrWrite (t : Nat) (v : Word)
  /-- A read of a LO time register latches its HI word for the requester. R319. -/
  | timeLoRead (t : Nat) (who : Who) (which : Nat)
  /-- A capture source is timestamped and queued to its FIFO. R321. -/
  | captureEvent (t : Nat) (source : Nat) (rising : Bool)
  /-- A capture entry unread for 2 s is marked AGED. R320. -/
  | captureEntryAged (t : Nat) (f : Nat)
  /-- A read of DATA0 latches the oldest capture entry. R328. -/
  | capFifoData0Read (t : Nat) (f : Nat)
  /-- A read of DATA1 returns the latched entry and removes it. R328. -/
  | capFifoData1Read (t : Nat) (f : Nat)
  /-- A write of the pulse CTRL.ARM arms a pulse output, or sets PAST. R325. -/
  | pulseArm (t : Nat) (k : Nat) (v : Word)
  /-- A DISARM write aborts an armed pulse that has not begun. R327. -/
  | pulseDisarm (t : Nat) (k : Nat)
  /-- A pulse output's leading edge falls at its instant. R325. -/
  | pulseOutputFire (t : Nat) (k : Nat)
  /-- A pulse reaches its programmed width and ends. R325. -/
  | pulseWidthEnd (t : Nat) (k : Nat)
  /-- A producer's message writes a point, which is kept behind a force or shown. R375. -/
  | producerWrite (t : Nat) (p : Nat) (src : Nat) (value : Dword) (ts : Nat)
  /-- A producer is SILENT after PNT_PRODk_TIMEOUT and its points turn STALE or substituted. R378. -/
  | producerTimeout (t : Nat) (k : Nat)
  /-- A point without a write for PNT_p_TIMEOUT turns STALE or is substituted. R378. -/
  | pointTimeout (t : Nat) (p : Nat)
  /-- A write of PNT_WR_GO checks and makes a staged partition point write. R382. -/
  | pntWrGo (t : Nat)
  /-- At F+3 ms, the unit sends its heartbeat on every path. R392. -/
  | heartbeatSend (t : Nat)
  /-- A heartbeat, or a lease request at W, is checked and recorded. R393. -/
  | heartbeatReceived (t : Nat) (path : Nat) (bytes : List Byte)
  /-- At F+6 ms, missed heartbeats are counted and partners declared lost. R394. -/
  | heartbeatMissCheck (t : Nat)
  /-- A grant renews the holder or gives authority with a new epoch. R398. -/
  | leaseGrantReceived (t : Nat) (path : Nat) (bytes : List Byte)
  /-- 60 ms after the last granted request, the holder gives up or suspends the lease. R397. -/
  | leaseHolderExpiry (t : Nat)
  /-- A lease expires at W and the 10 ms guard begins. R398. -/
  | leaseExpiryW (t : Nat)
  /-- The guard ends and W grants the best candidate, or itself. R398. -/
  | leaseGuardEnd (t : Nat)
  /-- At F+19 ms of the second frame, the takeover check result is decided. R410. -/
  | takeoverCheckEnd (t : Nat)
  /-- At frame N+1 F+18.5 ms of a rotation, the outgoing unit releases authority. R413. -/
  | rotationRelease (t : Nat)
  /-- A relay contact reads closed for 1 s with its ROLE output low. R408. -/
  | roleRelayFaultDetect (t : Nat) (k : Nat)
  /-- Standby hours reach RED_ROTATE_HOURS and ROTATE_DUE is raised. R414. -/
  | rotateDueReached (t : Nat)
  /-- A strap changes while running and UID_CHANGED is recorded. R388. -/
  | uidStrapChange (t : Nat) (v : Nat)
  /-- A filtered safety input channel changes and demands or releases. R428. -/
  | safeInputEdge (t : Nat) (n : Nat) (chB : Bool) (closed : Bool)
  /-- A test pulse check finds TP_STUCK or TP_CROSS. R427. -/
  | testPulseCheck (t : Nat) (n : Nat) (chB : Bool) (cross : Bool)
  /-- Channel disagreement exceeds the discrepancy time and DISC latches. R429. -/
  | discrepancyExpiry (t : Nat) (n : Nat)
  /-- SAFE-P's 4 ms cycle evaluates and cross-checks SAFE-L. R424. -/
  | safePCycle (t : Nat) (speeds : List (Nat × Rat))
  /-- SAFE-L sees no token toggle for 10 ms and removes its enables. R424. -/
  | safeWatchdogExpiry (t : Nat)
  /-- Enable states differ for 20 ms; SAFE_PATH_FAULT, SAFE-STOP. R424. -/
  | safePathDisagree (t : Nat)
  /-- A SAFE-P lockstep mismatch is handled by the safety section with SAFE-STOP. R12. -/
  | safePLockstepMismatch (t : Nat)
  /-- SAFE-P receives a stop request from APP, or from the peer, and stops the pair. R432. -/
  | processStopRequest (t : Nat) (mask : Nat) (fromPeer : Bool)
  /-- SAFE_STSp_DELAY expires and the pair is de-energised. R430. -/
  | stsDelayExpiry (t : Nat) (p : Nat)
  /-- An energised channel is briefly switched off and its readback tested. R434. -/
  | stsOffPulse (t : Nat) (p : Nat) (chB : Bool) (fell : Bool)
  /-- The shaft falls below the set speed and both brake switches open. R435. -/
  | brakeSetSpeedReached (t : Nat) (b : Nat)
  /-- Released hours reach SAFE_BRKb_TEST_INT; BRAKE_TEST_OVERDUE. R436. -/
  | brakeTestDue (t : Nat) (b : Nat)
  /-- At t0+1 s of the test, TEST thrust is sealed and the rotation is accumulated. R437. -/
  | brakeTestThrust (t : Nat) (b : Nat)
  /-- At t0+3 s, thrust 0 is sealed. R437. -/
  | brakeTestThrustEnd (t : Nat) (b : Nat)
  /-- At t0+3.5 s, the brake test passes or fails. R437. -/
  | brakeTestResult (t : Nat) (b : Nat) (rotP : Rat) (rotL : Rat)
  /-- Shaft speed above the limit for SAFE_SLTj_TIME stops the pairs. R438. -/
  | sltViolation (t : Nat) (j : Nat)
  /-- A readback finds back-feed or a short on an STS or brake output. R441. -/
  | safetyOutputFault (t : Nat) (out : Nat)
  /-- A safety encoder fault is detected. R441. -/
  | safetyEncoderFault (t : Nat) (k : Nat) (present : Bool)
  /-- SSUP below 18 V switches every safety output off. R441. -/
  | ssupLow (t : Nat)
  /-- When D4 and D5 come up, SAFE-P loads and checks the set and energises the pairs. R443. -/
  | safetyStartTest (t : Nat) (setOk : Bool) (bankOk : Bool := true) (mask : Nat := 0)
  /-- An input level passes its filter and is written as a new sample. R456. -/
  | fioInputEdge (t : Nat) (c : Nat) (began : Nat) (volts : Rat := 0) (mA : Rat := 0)
  /-- The current falls below 0.35 mA and WIRE_BREAK is set. R457. -/
  | fioWireBreak (t : Nat) (c : Nat) (mA : Rat := 0)
  /-- The current stays at or above 0.45 mA for 100 ms and WIRE_BREAK clears. R457. -/
  | fioWireBreakClear (t : Nat) (c : Nat) (since : Nat := 0) (mA : Rat := 0)
  /-- The 100 µs output sample reads back and detects output faults. R460. -/
  | fioOutputSample (t : Nat) (c : Nat) (volts : Rat) (mA : Rat)
  /-- 100 ms after a thermal shutdown, the output retries. R460. -/
  | fioOvercurrentRetry (t : Nat) (c : Nat)
  /-- A group's current exceeds 4 A for 10 ms and its newest output goes off. R460. -/
  | fioGroupOverload (t : Nat) (g : Nat)
  /-- A group supply enters or leaves LOW or MISSING. R462. -/
  | fioSupplyStateChange (t : Nat) (g : Nat) (since : Nat) (volt : Rat := 24)
  /-- Outputs commanded on switch on in order at 1 ms intervals. R464. -/
  | fioRestoreSwitch (t : Nat) (g : Nat)
  /-- A FIO_PULSE duration ends; the output is off and the command completes. R470. -/
  | fioPulseEnd (t : Nat) (c : Nat)
  /-- A received CAN frame is timestamped, queued, discovered and mapped. R487. -/
  | canFrameReceived (t : Nat) (port : Nat) (sof : Nat) (frame : CanFrame)
  /-- A timed frame's instant arrives and it enters arbitration. R477. -/
  | canTimedFrameDue (t : Nat) (port : Nat) (box : Nat) (idle : Bool := true)
  /-- A transmission attempt ends in success, lost arbitration or error. R476. -/
  | canTxAttemptEnd (t : Nat) (port : Nat) (outcome : TxOutcome)
  /-- A frame's expiry arrives before its start of frame; ABORTED. R477. -/
  | canFrameExpiry (t : Nat) (port : Nat) (box : Nat)
  /-- The transmit counter exceeds 255; the port stops. R482. -/
  | canBusOff (t : Nat) (port : Nat)
  /-- 128 recessive sequences return the port to ERROR_ACTIVE. R483. -/
  | canRecoverComplete (t : Nat) (port : Nat)
  /-- Recovery does not finish in BUS_RECOVER_TIMEOUT; DEADLINE. R483. -/
  | canRecoverTimeout (t : Nat) (port : Nat)
  /-- A detection dwell ends and the next rate pair is tried. R486. -/
  | canDetectDwellEnd (t : Nat) (port : Nat)
  /-- A node silent for BUS_NODE_FORGET is freed. R488. -/
  | canNodeForget (t : Nat) (port : Nat) (node : Nat)
  /-- An IEC 61162 sentence is checked and mapped to points. R491. -/
  | serialSentence (t : Nat) (port : Nat) (start : Nat) (charErr : Nat) (bytes : List Byte)
  /-- A binary frame is parsed and checked and written to points. R493. -/
  | serialBinaryFrame (t : Nat) (port : Nat) (start : Nat) (charErr : Nat) (bytes : List Byte)
  /-- An IEC 61162-450 datagram's sentences are handled. R494. -/
  | iec450Datagram (t : Nat) (group : Nat) (addr : Nat) (port : Nat) (bytes : List Byte)
  /-- A configured talker sentence is queued at its interval. R495. -/
  | serialTxSentence (t : Nat) (port : Nat) (kind : Nat)
  /-- A write of CH_CTRL.START takes the first descriptor, or is refused. R505. -/
  | dmaStart (t : Nat) (ch : Nat)
  /-- Clearing CH_CTRL.EN aborts the running descriptor. R513. -/
  | dmaEnClear (t : Nat) (ch : Nat)
  /-- A trigger starts a waiting descriptor's move. R507. -/
  | dmaTrigger (t : Nat) (kind : Nat)
  /-- A descriptor completes, status is written and the next is taken. R511. -/
  | dmaDescriptorEnd (t : Nat) (ch : Nat) (busErr : Bool)
  /-- A record is submitted to the front end queue, merged or dropped. R522. -/
  | logRecordSubmit (t : Nat) (code : EvCode) (cls : Nat) (params : List Word) (cap : Option (Nat × Nat))
  /-- After 10 ms a record is released, numbered and written. R522. -/
  | logRecordRelease (t : Nat) (fails : Nat := 0)
  /-- In the F+16 to F+19 ms window, a triggered snapshot is captured. R527. -/
  | logSnapshotCapture (t : Nat) (fails : Nat := 0)
  /-- A freeze ends with reason AUTO after 60 s. R531. -/
  | logFreezeTimeout (t : Nat)
  /-- A write of LOG_RD_CTRL.GO reads a record or snapshot. R538. -/
  | logRdGo (t : Nat) (who : Who) (v : Word) (sound : Bool := true)
  /-- A read of LOG_OPTIME_LO latches the high word. R538. -/
  | logOptimeLoRead (t : Nat) (who : Who)
  /-- V_L below 17 V for 200 µs enters LOW; deferred retained writes are made. R548. -/
  | supplyLowEntry (t : Nat) (vla : Rat) (vlb : Rat)
  /-- V_L at or above 18 V for 1 ms returns to NORMAL. R547. -/
  | supplyNormalReturn (t : Nat) (vla : Rat) (vlb : Rat)
  /-- V_L below 14.5 V runs the power-down sequence. R550. -/
  | powerDown (t : Nat) (vla : Rat) (vlb : Rat)
  /-- One input stays below 17 V for 100 ms. R547. -/
  | vlInputLost (t : Nat) (b : Bool) (v : Rat)
  /-- V_L above 33 V for 1 ms raises SUPPLY_HIGH. R547. -/
  | supplyHigh (t : Nat) (vla : Rat) (vlb : Rat)
  /-- RESET_N low for 10 samples; outputs off and domains held. R552. -/
  | resetNAssert (t : Nat)
  /-- RESET_N released; the unit enters RESTORE. R558. -/
  | resetNRelease (t : Nat) (straps : Nat)
  /-- Reset held 30 s; RESET_HELD recorded, KEEP_STAT pattern. R553. -/
  | resetHeld (t : Nat)
  /-- V_L at or above 18 V for 50 ms starts D0 and RESTORE. R558. -/
  | coldStart (t : Nat) (straps : Nat) (vla : Rat) (vlb : Rat) (bad : RetainBad := {})
  /-- RESTORE ends in STANDBY, COMMISSION or with domains drained. R560. -/
  | restoreComplete (t : Nat) (failed : Nat)
  /-- Every 1 s counters are written to MRAM. R556. -/
  | keepCounterSave (t : Nat)
  /-- Every 60 s the time keeper is calibrated against the selected clock. R557. -/
  | timeKeeperCalibrate (t : Nat)
  /-- Baseplate above the limit for 10 s raises BASEPLATE_HOT. R569. -/
  | baseplateHot (t : Nat) (temp : Rat)
  /-- The KEEP exit time arrives and the unit enters RESTORE. R577. -/
  | keepExitTimer (t : Nat)
  /-- No grant within 200 ms of SET_MODE HOLD; DEADLINE. R575. -/
  | holdGrantTimeout (t : Nat)
  /-- All commands zero or 30 s after SET_MODE STANDBY; authority given up. R576. -/
  | holdReleaseComplete (t : Nat)
  /-- At the tenth frame start the committed generation applies whole. R586. -/
  | cfgEffectFrame (t : Nat)
  /-- IMG_TRIAL_TIME ends and the slot is confirmed. R582. -/
  | imgTrialEnd (t : Nat) (d : Nat)
  /-- A domain fails to start or resets twice in trial and falls back. R582. -/
  | domainStartFailure (t : Nat) (d : Nat)
  /-- The peer receives a journal entry and status word over XLP, writes and reads them back in its own MRAM, and acknowledges. R349. -/
  | journalEntryMirrored (t : Nat) (e : JEntry)
  /-- W receives the commanding unit's per-frame hold state and applies it to its shadow hold state. R392. -/
  | wardenHoldStateReceived (t : Nat) (m : MirrorData)
  /-- A SAFE_RESET forwarded by the peer over the Shesen link is applied by this unit's SAFE-P under its own conditions. R453. -/
  | safeResetForwarded (t : Nat)
  /-- SSUP returns to 18 V or above; the unlatched SSUP_LOW condition ends, outputs may energise again and SSUP_LOW clears after 1 s. R441. -/
  | ssupRestored (t : Nat)
  /-- A logic input returns to 18.0 V or above for 1 s and VL_INPUT_LOST clears; likewise V_L falling to 32.0 V or below for 1 s clears SUPPLY_HIGH. R569. -/
  | vlInputRestored (t : Nat) (which : Nat) (v : Rat)
  /-- PPS_IN edges stop arriving within 1 s plus 100 µs, so the PPS_IN source is no longer present and a clock following it enters HOLDOVER. R307. -/
  | ppsInLost (t : Nat)
  /-- An error is seen on the bus in a frame this controller does not transmit; REC changes, rate detection may reject a pair, and an observed clash signature is detected. R481. -/
  | canReceiveError (t : Nat) (port : Nat) (sof : Nat) (bitPos : Nat) (afterArb : Bool) (id : Nat) (eight : Bool := false)
  /-- Tracking of a signal is lost; its channel enters 10 s of reacquisition, and a loss during return confirmation or slewing acts under R296. R276. -/
  | satSignalLost (t : Nat) (id : SigId)
  /-- A PTP interval timer expires and the unit sends Sync, Announce, Delay_Req or Pdelay_Req as its port states require. R316. -/
  | ptpTransmitInterval (t : Nat) (n : Nat) (port : Nat) (kind : Nat)
  /-- The command that starts a stopped integrator partition again after three restarts within 10 minutes. R20. -/
  | partitionStartCommand (t : Nat)
  deriving DecidableEq, Repr

end Sys2Proof
end

