-- ==== Sys2Proof/Machine/Bytes.lean ====
section
/-!
DEFINITION. Bytes and fields (little-endian, spec/00 R3), binary32 (R4), check values and list helpers the blocks share.
-/
namespace Sys2Proof.Machine

/-! ### Fields in bytes -/

/-- The number a little-endian byte string spells. -/
def leNat : List Byte → Nat
  | [] => 0
  | b :: bs => b.toNat + 256 * leNat bs

/-- The `n` bytes of a number, lowest first. -/
def leBytes : Nat → Nat → List Byte
  | 0, _ => []
  | n + 1, v => BitVec.ofNat 8 v :: leBytes n (v / 256)

/-- `n` bytes from offset `o`, absent bytes reading 0. -/
def slice (o n : Nat) (bs : List Byte) : List Byte :=
  let d := (bs.drop o).take n
  d ++ List.replicate (n - d.length) 0

/-- The unsigned field of `n` bytes at offset `o`. -/
def fld (bs : List Byte) (o n : Nat) : Nat := leNat (slice o n bs)

/-- The signed 32-bit field at offset `o`. -/
def fldI (bs : List Byte) (o : Nat) : Int := (BitVec.ofNat 32 (fld bs o 4)).toInt

/-- A byte of a number. -/
def byte (n : Nat) : Byte := BitVec.ofNat 8 n

/-- A bit of a number as 0 or 1. -/
def b2n (b : Bool) : Nat := if b then 1 else 0

/-- Whether bit `i` of a number is set. -/
def bitOf (n i : Nat) : Bool := n.testBit i

/-- The mask of the bits in a list of bit numbers below `w`. -/
def maskOf (w : Nat) (f : Nat → Bool) : Nat :=
  (List.range w).foldl (fun m i => if f i then m + 2 ^ i else m) 0

/-- `n` zero bytes. -/
def zeros (n : Nat) : List Byte := List.replicate n 0

/-! ### binary32 -/

/-- 2 to an integer power. -/
def pow2 (e : Int) : Rat := if 0 ≤ e then ((2 ^ e.toNat : Nat) : Rat) else 1 / ((2 ^ (-e).toNat : Nat) : Rat)

/-- The exact value of a finite binary32 word; none for an infinity or a NaN. spec/00 R4. -/
def f32Val (w : Word) : Option Rat :=
  let e : Nat := (w.toNat / 2 ^ 23) % 256
  let m : Nat := w.toNat % 2 ^ 23
  let sgn : Rat := if w.toNat / 2 ^ 31 = 1 then -1 else 1
  if e = 255 then none
  else if e = 0 then some (sgn * (m : Rat) * pow2 (-149))
  else some (sgn * ((2 ^ 23 + m : Nat) : Rat) * pow2 ((e : Int) - 150))

/-- The value of a binary32 word, 0 for one that is not finite. -/
def f32 (w : Word) : Rat := (f32Val w).getD 0

/-- Rounds a non-negative number to the nearest natural number, ties to even. -/
def roundEven (q : Rat) : Nat :=
  let f := q.floor.toNat
  let r := q - (f : Rat)
  if r < 1 / 2 then f
  else if 1 / 2 < r then f + 1
  else if f % 2 = 0 then f else f + 1

/-- The exponent e with 2^e ≤ q < 2^(e+1), for positive q. -/
def ilog2 (q : Rat) : Int :=
  let e : Int := (Nat.log2 q.num.natAbs : Int) - (Nat.log2 q.den : Int)
  if q < pow2 e then e - 1 else e

/-- The binary32 word nearest to a number, ties to even, with overflow to infinity. -/
def toF32 (q : Rat) : Word :=
  if q = 0 then 0
  else
    let sgn : Nat := if q < 0 then 2 ^ 31 else 0
    let a : Rat := if q < 0 then -q else q
    let e := ilog2 a
    let e' := if e < -126 then -126 else e
    let m := roundEven (a * pow2 (23 - e'))
    let (m, e') := if m = 2 ^ 24 then (2 ^ 23, e' + 1) else (m, e')
    if 127 < e' then BitVec.ofNat 32 (sgn + 255 * 2 ^ 23)
    else if m < 2 ^ 23 then BitVec.ofNat 32 (sgn + m)
    else BitVec.ofNat 32 (sgn + (e' + 127).toNat * 2 ^ 23 + (m - 2 ^ 23))

/-- The binary64 word nearest to a number, ties to even, with overflow to infinity. -/
def toF64 (q : Rat) : Dword :=
  if q = 0 then 0
  else
    let sgn : Nat := if q < 0 then 2 ^ 63 else 0
    let e := max (ilog2 (if q < 0 then -q else q)) (-1022)
    let m := roundEven ((if q < 0 then -q else q) * pow2 (52 - e))
    let (m, e) := if m = 2 ^ 53 then (2 ^ 52, e + 1) else (m, e)
    if 1023 < e then BitVec.ofNat 64 (sgn + 2047 * 2 ^ 52)
    else if m < 2 ^ 52 then BitVec.ofNat 64 (sgn + m)
    else BitVec.ofNat 64 (sgn + (e + 1023).toNat * 2 ^ 52 + (m - 2 ^ 52))

/-- A number as binary32 keeps it. -/
def rnd32 (q : Rat) : Rat := f32 (toF32 q)

/-- The binary32 field at offset `o`; none where it is not finite. -/
def fldF? (bs : List Byte) (o : Nat) : Option Rat := f32Val (BitVec.ofNat 32 (fld bs o 4))

/-- The binary32 field at offset `o`, 0 where it is not finite. -/
def fldF (bs : List Byte) (o : Nat) : Rat := (fldF? bs o).getD 0

/-- The four bytes of a number as binary32. -/
def bF (q : Rat) : List Byte := leBytes 4 (toF32 q).toNat

/-- The four bytes of a signed number, two's complement. -/
def bI (i : Int) : List Byte := leBytes 4 (BitVec.ofInt 32 i).toNat

/-! ### Numbers -/

/-- The absolute value of an exact number. -/
def absQ (q : Rat) : Rat := if q < 0 then -q else q

/-- An exact number held between two limits. -/
def clampQ (lo hi q : Rat) : Rat := if q < lo then lo else if hi < q then hi else q

/-- π, to 30 decimals (log 4). -/
def pi : Rat := 3141592653589793238462643383280 / 1000000000000000000000000000000

/-- Degrees to radians. -/
def rad (d : Rat) : Rat := d * pi / 180

/-- Radians to degrees. -/
def deg (r : Rat) : Rat := r * 180 / pi

/-- An angle wrapped into (−π, π]: azimuths are directions of thrust from +x, clockwise. R7. -/
def wrapPi (a : Rat) : Rat :=
  let k := ((pi - a) / (2 * pi)).floor
  a + (k : Rat) * (2 * pi)

/-- An angle wrapped into [0, 2π). -/
def wrap2Pi (a : Rat) : Rat := a - ((a / (2 * pi)).floor : Rat) * (2 * pi)

/-- The sum of a list. -/
def sumQ (l : List Rat) : Rat := l.foldl (· + ·) 0

/-- The sum of a list of natural numbers. -/
def sumN (l : List Nat) : Nat := l.foldl (· + ·) 0

/-- The largest of a list of natural numbers, 0 of none. -/
def maxN (l : List Nat) : Nat := l.foldl max 0

/-- The largest of a list of numbers with a floor. -/
def maxQ (z : Rat) (l : List Rat) : Rat := l.foldl (fun a b => if a < b then b else a) z

/-- The smallest of a list of numbers with a ceiling. -/
def minQ (z : Rat) (l : List Rat) : Rat := l.foldl (fun a b => if b < a then b else a) z

/-- The i-th number of a list, 0 beyond its end. -/
def nth (l : List Rat) (i : Nat) : Rat := l.getD i 0

/-- A sorted copy of a list of numbers, ascending. -/
def sortQ (l : List Rat) : List Rat :=
  let rec ins (x : Rat) : List Rat → List Rat
    | [] => [x]
    | y :: ys => if x ≤ y then x :: y :: ys else y :: ins x ys
  l.foldr ins []

/-- The median of a list: the middle value, or the mean of the two middle values. -/
def median (l : List Rat) : Rat :=
  let s := sortQ l
  let n := s.length
  if n % 2 = 1 then nth s (n / 2) else (nth s (n / 2 - 1) + nth s (n / 2)) / 2

/-- A number rounded towards −∞ to an integer. -/
def flr (q : Rat) : Int := q.floor

/-- A number rounded to the nearest integer, halves away from zero. -/
def nearest (q : Rat) : Int := if 0 ≤ q then (q + 1 / 2).floor else -((-q + 1 / 2).floor)

/-- A natural number from a number, 0 below 0. -/
def natOf (q : Rat) : Nat := q.floor.toNat

/-- A saturating increment. -/
def satInc (lim n : Nat) : Nat := if n < lim then n + 1 else n

/-- A Word counter that saturates. -/
def wSat (w : Word) : Word := if w = 0xFFFFFFFF then w else w + 1

/-! ### Association lists in ascending order of their keys -/

/-- The value under a key. -/
def assoc {α : Type} (l : List (Nat × α)) (k : Nat) : Option α :=
  match l with
  | [] => none
  | (j, v) :: t => if j = k then some v else assoc t k

/-- The list with a key set, kept ascending. -/
def assocSet {α : Type} (l : List (Nat × α)) (k : Nat) (v : α) : List (Nat × α) :=
  match l with
  | [] => [(k, v)]
  | (j, w) :: t => if k < j then (k, v) :: (j, w) :: t else if k = j then (k, v) :: t else (j, w) :: assocSet t k v

/-- The list without a key. -/
def assocDel {α : Type} (l : List (Nat × α)) (k : Nat) : List (Nat × α) := l.filter (fun e => e.1 ≠ k)

/-! ### Check values -/

/-- One step of a reflected CRC-32 with a polynomial. -/
def crcStep (poly : Nat) (c : Nat) : Nat := if c % 2 = 1 then (c / 2) ^^^ poly else c / 2

/-- A reflected CRC-32 over bytes from a starting register. -/
def crcRefl (poly : Nat) (bs : List Byte) (c : Nat) : Nat :=
  bs.foldl (fun c b => (List.range 8).foldl (fun c _ => crcStep poly c) (c ^^^ b.toNat)) c

/-- CRC-32C: polynomial 0x1EDC6F41 reflected, initial value and final exclusive-or 0xFFFF_FFFF. spec/11 R337. -/
def crc32c (bs : List Byte) : Nat := crcRefl 0x82F63B78 bs 0xFFFFFFFF ^^^ 0xFFFFFFFF

/-- A CRC-16 with polynomial 0x1021, most significant bit first, from an initial value. spec/05 R151. -/
def crc16 (init : Nat) (bs : List Byte) : Nat :=
  bs.foldl (fun c b => (List.range 8).foldl
    (fun c _ => if c / 0x8000 = 1 then ((c * 2) % 0x10000) ^^^ 0x1021 else (c * 2) % 0x10000) (c ^^^ (b.toNat * 256))) init

/-- A CRC-24Q as RTCM 3 frames carry it: polynomial 0x864CFB, initial value 0. -/
def crc24q (bs : List Byte) : Nat :=
  bs.foldl (fun c b => (List.range 8).foldl
    (fun c _ => if c / 0x800000 = 1 then ((c * 2) % 0x1000000) ^^^ 0x864CFB else (c * 2) % 0x1000000) (c ^^^ (b.toNat * 65536))) 0

end Sys2Proof.Machine
end

