-- ==== Sys2Proof/Machine/Lin.lean ====
section
/-!
DEFINITION. Vectors and matrices of exact numbers, as the estimator and the problems of the engine use them: a vector is a
list, a matrix of w columns a list by rows.
-/
namespace Sys2Proof.Machine

/-- The inner product. -/
def dot (a b : List Rat) : Rat := sumQ (a.zipWith (· * ·) b)

/-- A vector scaled. -/
def vScale (k : Rat) (a : List Rat) : List Rat := a.map (k * ·)

/-- The sum of two vectors. -/
def vAdd (a b : List Rat) : List Rat := a.zipWith (· + ·) b

/-- The difference of two vectors. -/
def vSub (a b : List Rat) : List Rat := a.zipWith (· - ·) b

/-- Entry i, j of a matrix of w columns. -/
def ent (w : Nat) (m : List Rat) (i j : Nat) : Rat := nth m (i * w + j)

/-- Row i of a matrix of w columns. -/
def rowOf (w : Nat) (m : List Rat) (i : Nat) : List Rat := (m.drop (i * w)).take w

/-- Column j of a matrix of r rows and w columns. -/
def colOf (r w : Nat) (m : List Rat) (j : Nat) : List Rat := (List.range r).map (fun i => ent w m i j)

/-- A matrix of r rows and w columns from its entries. -/
def mat (r w : Nat) (f : Nat → Nat → Rat) : List Rat := (List.range r).flatMap (fun i => (List.range w).map (f i))

/-- The product of an r × k and a k × w matrix. -/
def mMul (r k w : Nat) (a b : List Rat) : List Rat := mat r w (fun i j => dot (rowOf k a i) (colOf k w b j))

/-- A matrix of r rows and w columns times a vector. -/
def mVec (r w : Nat) (a v : List Rat) : List Rat := (List.range r).map (fun i => dot (rowOf w a i) v)

/-- The transpose of a matrix of r rows and w columns. -/
def mT (r w : Nat) (a : List Rat) : List Rat := mat w r (fun i j => ent w a j i)

/-- The identity of n rows. -/
def mId (n : Nat) : List Rat := mat n n (fun i j => if i = j then 1 else 0)

/-- The vector with entry i set. -/
def setAt (l : List Rat) (i : Nat) (v : Rat) : List Rat := l.set i v

/-- A value between two limits by a fraction. -/
def lerp (f a b : Rat) : Rat := a + f * (b - a)

/-- The square of the length of a plane vector. -/
def len2 (x y : Rat) : Rat := x * x + y * y

end Sys2Proof.Machine
end

