-- ==== Sys2Proof/Machine/Crypto.lean ====
section
/-!
DEFINITION. SHA-256 and HMAC-SHA-256, which spec/11 R337, R342 and R343 name for tags and key derivation and spec/20 R580 for images. Both are
defined by their standards, FIPS 180-4 and RFC 2104; the constants are computed from primes as the standard derives them.
-/
namespace Sys2Proof.Machine

/-- The largest number below 2^bits whose k-th power does not exceed n. -/
def rootFloor (k n bits : Nat) : Nat :=
  ((List.range bits).reverse).foldl (fun r b => if (r + 2 ^ b) ^ k ≤ n then r + 2 ^ b else r) 0

/-- The first 32 bits of the fraction of the k-th root of p. -/
def rootFraction (k p : Nat) : Word := BitVec.ofNat 32 (rootFloor k (p * 2 ^ (32 * k)) 40)

/-- The primes below n. -/
def primesBelow (n : Nat) : List Nat := (List.range n).filter (fun p => decide (2 ≤ p) && (List.range p).all (fun d => decide (d < 2) || decide (p % d ≠ 0)))

/-- The keys of the 64 rounds: cube roots of the first 64 primes. -/
def roundKeys : List Word := (primesBelow 312).map (rootFraction 3)

/-- The digest before the first block: square roots of the first eight primes. -/
def digestStart : List Word := (primesBelow 20).map (rootFraction 2)

/-- The exclusive-or of a word's rotations to the right. -/
def mixRot (ns : List Nat) (w : Word) : Word := ns.foldl (fun x n => x ^^^ w.rotateRight n) 0

/-- The digest's working words and the 16 words of the schedule that the coming rounds use. -/
structure HashState where
  vars : List Word := []
  window : List Word := []

/-- A round with its key: the oldest word of the window is taken, and the window moves on by the word 16 rounds ahead. -/
def HashState.round (x : HashState) (key : Word) : HashState :=
  let v (i : Nat) : Word := x.vars.getD i 0
  let w (i : Nat) : Word := x.window.getD i 0
  let choose := v 6 ^^^ (v 4 &&& (v 5 ^^^ v 6))
  let most := (v 0 &&& (v 1 ||| v 2)) ||| (v 1 &&& v 2)
  let low := key + w 0 + v 7 + choose + mixRot [6, 11, 25] (v 4)
  let ahead := w 0 + w 9 + (mixRot [7, 18] (w 1) ^^^ (w 1 >>> 3)) + (mixRot [17, 19] (w 14) ^^^ (w 14 >>> 10))
  { vars := (low + most + mixRot [2, 13, 22] (v 0)) :: (x.vars.take 3 ++ (v 3 + low) :: (x.vars.drop 4).take 3)
    window := x.window.drop 1 ++ [ahead] }

/-- The bytes of a number, highest first. -/
def beBytes (n v : Nat) : List Byte := (leBytes n v).reverse

/-- A 64-byte block into a digest. -/
def intoDigest (keys digest : List Word) (block : List Byte) : List Word :=
  let words := (List.range 16).map (fun i => BitVec.ofNat 32 (leNat ((block.drop (4 * i)).take 4).reverse))
  let out := keys.foldl HashState.round { vars := digest, window := words }
  (digest.zip out.vars).map (fun e => e.1 + e.2)

/-- A message with its end mark, padded to whole blocks with its length in bits last. -/
def shaPadded (m : List Byte) : List Byte :=
  let body := m ++ [0x80]
  body ++ zeros ((120 - body.length % 64) % 64) ++ beBytes 8 (8 * m.length)

/-- SHA-256. -/
def sha256 (m : List Byte) : List Byte :=
  let bytes := shaPadded m
  let keys := roundKeys
  let blocks := (List.range (bytes.length / 64)).map (fun i => (bytes.drop (64 * i)).take 64)
  (blocks.foldl (intoDigest keys) digestStart).flatMap (fun w => beBytes 4 w.toNat)

/-- HMAC-SHA-256: the inner digest over the key with 0x36 and the message, the outer one over the key with 0x5C and the inner. -/
def hmac (key m : List Byte) : List Byte :=
  let short := if key.length ≤ 64 then key else sha256 key
  let block := slice 0 64 short
  let masked (b : Byte) : List Byte := block.map (fun x => x ^^^ b)
  sha256 (masked 0x5C ++ sha256 (masked 0x36 ++ m))

end Sys2Proof.Machine
end

