-- ==== Sys2Proof/Machine/Mram.lean ====
section
/-!
DEFINITION. The retained memory and the image memory as the spec divides them: the regions of the MRAM with their offsets and sizes, and the
partitions of the NAND (spec/01 R15, R16). What each region holds stands in the state of its block; the capacities of those blocks are taken
from here.
-/
namespace Sys2Proof.Machine

/-- The regions of the 64 MiB of MRAM. R15. -/
inductive MramRegion where
  | records | snapshots | cfgA | cfgB | journal | learned | sat | reserve
  deriving DecidableEq, Repr

/-- Offset of a region from the start of the MRAM. R15. -/
def MramRegion.base : MramRegion → Nat
  | .records => 0x0000000
  | .snapshots => 0x1000000
  | .cfgA => 0x2000000
  | .cfgB => 0x2400000
  | .journal => 0x2800000
  | .learned => 0x2C00000
  | .sat => 0x2E00000
  | .reserve => 0x2F00000

/-- Bytes of a region. R15. -/
def MramRegion.size : MramRegion → Nat
  | .records => 16 * 2 ^ 20
  | .snapshots => 16 * 2 ^ 20
  | .cfgA => 4 * 2 ^ 20
  | .cfgB => 4 * 2 ^ 20
  | .journal => 4 * 2 ^ 20
  | .learned => 2 * 2 ^ 20
  | .sat => 1 * 2 ^ 20
  | .reserve => 17 * 2 ^ 20

/-- The regions in the order of their offsets. -/
def mramRegions : List MramRegion := [.records, .snapshots, .cfgA, .cfgB, .journal, .learned, .sat, .reserve]

/-- Bytes of the MRAM. R15. -/
def mramBytes : Nat := 64 * 2 ^ 20

/-- The region that holds an offset of the MRAM. -/
def mramRegionAt (ofs : Nat) : Option MramRegion := mramRegions.find? (fun r => decide (r.base ≤ ofs ∧ ofs < r.base + r.size))

/-- The partitions of the 16 GiB of NAND. R16. -/
inductive NandPart where
  | images | integImages | staging | archive | export_ | reserve
  deriving DecidableEq, Repr

/-- Bytes of a partition. R16. -/
def NandPart.size : NandPart → Nat
  | .images => 2 * 2 ^ 30
  | .integImages => 4 * 2 ^ 30
  | .staging => 2 * 2 ^ 30
  | .archive => 1 * 2 ^ 30
  | .export_ => 4 * 2 ^ 30
  | .reserve => 3 * 2 ^ 30

/-- Most bytes of an integrator image: one of its two slots. R16. -/
def integSlotBytes : Nat := NandPart.integImages.size / 2

/-- Records the record region holds. R15, R520. -/
def logSlots : Nat := MramRegion.records.size / 64

/-- Most bytes of a configuration body: a copy less its header. R15, R561. -/
def cfgBodyMax : Nat := MramRegion.cfgA.size - 64

end Sys2Proof.Machine
end

