-- ==== Sys2Proof/Machine/EngineState.lean ====
section
/-!
DEFINITION. State of consequence analysis and of the Hold engine (spec/06, 07).
-/
namespace Sys2Proof.Machine

/-- What a failure case loses. spec/06 R167. -/
structure LossSet where
  thr : Nat := 0 -- R167: channel mask, bit c−1
  sect : Nat := 0 -- R167: section mask, bit n−1
  room : Nat := 0 -- R167: room mask, bit r−1
  refs : Nat := 0 -- R167: reference slot mask, bit s
  deriving DecidableEq, Repr

/-- Result of one case. spec/06 R176–R179. -/
structure CaseRes where
  state : Nat := 4 -- R176: 0 FEASIBLE, 1 BREACH, 2 UNPROVEN, 3 CURRENT, 4 DISABLED
  iter : Nat := 0 -- R191 CQA_INFO bits 0–5
  truncated : Bool := false -- R191 bit 8
  pivTiny : Bool := false -- R191 bit 9
  pivNonpos : Bool := false -- R191 bit 10
  ovf : Bool := false -- R191 bit 11
  refBreach : Bool := false -- R191 bit 12
  margin : Option Rat := none -- R177
  trec : Option Rat := none -- R178
  binding : Nat := 0 -- R177: 1–24 channel, 33–36 section, 0 none
  slack : Tau := {} -- R193
  power : Rat := 0 -- R193: model power of the survivors
  az : List (Nat × Rat × Bool) := [] -- R179: channel, azimuth, valid
  lostCh : Nat := 0 -- R193: channels lost, bit c−1
  lostSect : Nat := 0 -- R193: sections lost, bit n−1
  deriving DecidableEq, Repr

/-- One failure case. spec/06. -/
structure CaseSt where
  enabledCmd : Option Bool := none -- R193: CQA_CASE_ENABLE, over CQA_k_ENABLE of the generation
  res : CaseRes := {} -- R176
  breachTimer : Nat := 0 -- R182: frames
  timerRuns : Bool := false -- R182
  inAlarm : Bool := false -- R182
  clearRun : Nat := 0 -- R183: frames FEASIBLE, CURRENT or DISABLED in a row
  unprovenRun : Nat := 0 -- R181: frames UNPROVEN in a row
  deriving DecidableEq, Repr

/-- One what-if query. spec/06 R188. -/
structure WhatIf where
  session : Nat := 0 -- R188: session of the command
  seq : Nat := 0 -- R188: its sequence number
  loss : LossSet := {} -- R188
  demand : Option Tau := none -- R188
  prob : Option AlcProb := none -- R188: posed on queue 1
  res : CaseRes := {} -- R188: what its posing found
  frames : Nat := 0 -- R188: frames since acceptance
  deriving DecidableEq, Repr

/-- Consequence analysis. spec/06. -/
structure CqaSt where
  cases : List CaseSt := List.replicate 127 {} -- R168: cases 1 to 127
  nPosed : Nat := 0 -- R191 point 1984
  judged : Bool := false -- R182: the timers have still to count the results of a frame
  tieSpread : Bool := false -- R191 CQA_FLAGS bit 3
  pendEnable : List (Nat × Bool) := [] -- R193: waiting for the next fence
  noUnprovenRun : Nat := 0 -- R181: frames with no case UNPROVEN
  envIntact : List Rat := List.replicate 36 0 -- R191 points 2560–2595
  envWorst : List Rat := List.replicate 36 0 -- R191 points 2596–2631
  envTimeI : List Nat := List.replicate 36 0 -- R187: start of the period each direction was solved in
  envTimeW : List Nat := List.replicate 36 0 -- R187
  envCase : Nat := 0 -- R191 point 2632
  envFrame : Option Nat := none -- R186: frame of the period, 0 to 49; none: no period runs
  envStart : Nat := 0 -- R187: start time of the period
  envSolved : List Nat := [] -- R187: problems 0–71 of the period that are solved
  envLost : Nat := 0 -- R186: channels the worst case loses
  envPartial : Bool := false -- R187, R191 bit 2
  whatif : List WhatIf := [] -- R188: outstanding queries in journal order
  budget2 : Word := 0 -- R185 point 1992
  budget1 : Word := 0 -- R185 point 1993
  deriving DecidableEq, Repr

/-- A binary32 problem as HEN stages it. spec/07 R201–R203. -/
structure HenProblem where
  op : Nat := 0 -- R202: operation code
  opt : Nat := 0 -- R225: option bits 0–4
  n : Nat := 0 -- R202
  m : Nat := 0 -- R202
  k : Nat := 0 -- R202
  iter : Nat := 0 -- R225
  pivExp : Nat := 0 -- R199: e in force for the problem; 0 until it is staged
  words : List Word := [] -- R201: the input block
  deriving DecidableEq, Repr

/-- Status of one problem of a job. spec/07 R226. -/
structure ProbRes where
  status : Nat := 2 -- R226: 0 DONE, 1 TRUNCATED, 2 ABSENT, 3 ABORTED
  iters : Nat := 0 -- R226
  flags : Nat := 0 -- R226: bits 0–8
  pivot : Nat := 0xFFFF -- R226
  cluster : Nat := 0xFF -- R226
  out : Option (List Word) := none -- R217: the output block; none: not written
  deriving DecidableEq, Repr

/-- Who submitted a HEN job. spec/07 R213, R228. -/
inductive HenOrigin where
  | app0Mpc | app0Alloc | app0Env (period problem : Nat) | app0Whatif (session seq : Nat)
  | app0 | app1 | partition
  | command (session seq : Nat) (mode : Nat)
  deriving DecidableEq, Repr

/-- A job HEN holds. spec/07 R210. -/
structure HenJob where
  id : Nat := 0 -- R210: order of acceptance
  origin : HenOrigin := .app0 -- R213
  op : Nat := 0 -- R225
  opt : Nat := 0 -- R225
  clusters : Nat := 0 -- R225
  iter : Nat := 0 -- R225
  count : Nat := 0 -- R225
  n : Nat := 0 -- R225
  m : Nat := 0 -- R225
  k : Nat := 0 -- R225
  pivExp : Nat := 0 -- R225
  tag : Word := 0 -- R225
  deadline : Option Nat := none -- R216: raw-counter instant
  inAddr : Nat := 0 -- R225
  outAddr : Nat := 0 -- R225
  statAddr : Nat := 0 -- R225
  inStride : Nat := 0 -- R225
  outStride : Nat := 0 -- R225
  acceptedAt : Nat := 0 -- R209
  inline : List HenProblem := [] -- R224, R228: operands held by firmware instead of addresses
  queue : Nat := 0 -- R210
  next : Nat := 0 -- R211: next undispatched problem
  results : List ProbRes := [] -- R226: by problem index, as they end
  ranOn : List Nat := [] -- R221: clusters that have run a problem of the job
  deriving DecidableEq, Repr

/-- A problem on a cluster. spec/07 R206, R212. -/
structure HenRun where
  job : Nat := 0 -- R211: the job's id
  queue : Nat := 0 -- R211
  index : Nat := 0 -- R211
  prob : HenProblem := {} -- R214: the inputs as staged at dispatch
  iters : Nat := 0 -- R206: iterations completed
  suspended : Bool := false -- R212: it has been suspended
  startAt : Nat := 0 -- R209
  suspAt : Option Nat := none -- R218: instant of its last suspension
  suspBefore : Bool := false -- R218: it had been suspended before that one
  deriving DecidableEq, Repr

/-- A queue 0 problem that has waited for work of other queues. spec/07 R212. -/
structure HenWait where
  job : Nat := 0 -- R212: its job's id
  index : Nat := 0 -- R212: its number in the job
  waited : Nat := 0 -- R212: ns counted so far
  since : Option Nat := none -- R212: the instant since which the wait in progress counts
  deriving DecidableEq, Repr

/-- A completion entry. spec/07 R227. -/
structure HenDone where
  tag : Word := 0 -- R227 DONE_TAG
  jstat : Nat := 0 -- R227: 0 DONE, 1 TRUNCATED, 2 ABORTED
  cancel : Bool := false -- R227
  flagged : Bool := false -- R227
  nDone : Nat := 0 -- R227
  nTrunc : Nat := 0 -- R227
  nAbsent : Nat := 0 -- R227
  time : Word := 0 -- R227 DONE_TIME
  deriving DecidableEq, Repr

/-- One requester's submission registers of a queue. spec/07 R213. -/
structure HenSub where
  lo : Word := 0 -- R227 SUB_LO
  res : Nat := 0 -- R227 STAT.SUB
  deriving DecidableEq, Repr

/-- One HEN queue. spec/07 R210, R227. -/
structure HenQueue where
  en : Bool := true -- R227 CTRL.EN
  ieDone : Bool := false -- R227
  ieAbort : Bool := false -- R227
  subs : List HenSub := [{}, {}, {}] -- R213: APP-0, APP-1, partition
  intDone : Bool := false -- R227 INT.DONE
  intAborted : Bool := false -- R227 INT.ABORTED
  intRefused : Bool := false -- R227 INT.REFUSED
  jobsDone : Half := 0 -- R227 COUNT.JOBS
  refusals : Half := 0 -- R227 COUNT.REFUSALS
  jobs : List HenJob := [] -- R210: not yet complete, oldest first
  done : List HenDone := [] -- R215: completion entries, oldest first
  deriving DecidableEq, Repr

/-- One cluster. spec/07 R195, R212, R221, R223. -/
structure HenCluster where
  en : Bool := true -- R227 CLn_EN
  powered : Bool := true -- R221: 0 off after a drain
  fault : Bool := false -- R223 CLn_FAULT
  draining : Bool := false -- R221
  run : Option HenRun := none -- R195: the problem it works on
  susp : Option HenRun := none -- R212: at most one suspended problem
  uncorrAt : List Nat := [] -- R223: uncorrectable errors of the last hour
  deriving DecidableEq, Repr

/-- The Hold engine. spec/07. -/
structure HenSt where
  cl0 : HenCluster := {} -- R195: HEN0
  cl1 : HenCluster := {} -- R195: HEN1
  queues : List HenQueue := List.replicate 4 {} -- R210
  piv : Nat := 20 -- R227 HEN_PIV
  corr : Nat := 0 -- R227 HEN_ERR.CORR, saturating at 65535
  uncorr : Nat := 0 -- R227 HEN_ERR.UNCORR, saturating at 255
  uncorrNew : Bool := false -- R227 HEN_ERR.UNCORR_NEW
  nextId : Nat := 0 -- R210: jobs accepted so far
  waitMax : Nat := 0 -- R212 point 1761
  waitMaxNow : Nat := 0 -- R212: of the frame in progress
  q0Wait : List HenWait := [] -- R212: queue 0 problems not yet dispatched that have waited for other queues' work
  suspends : Word := 0 -- R230 point 1762
  eccCorr : Word := 0 -- R230 point 1763
  eccUncorr : Word := 0 -- R230 point 1764
  aborted : Word := 0 -- R230 point 1765
  q2Jobs : Word := 0 -- R230 point 1766
  q3Jobs : Word := 0 -- R230 point 1767
  finished : List (HenJob × HenDone) := [] -- R224: firmware jobs that have ended and whose results the firmware has still to take
  replay : List (Nat × Nat × List Byte) := [] -- R216, R229: HEN_SUBMITs with a deadline (session, sequence number, parameters) that a start submits again with its first frame
  deriving DecidableEq, Repr

end Sys2Proof.Machine
end

