-- ==== Sys2Proof/Machine/PairState.lean ====
section
/-!
DEFINITION. State of the point table, of the pair and Warden, and of the safety section (spec/12, 13, 14).
-/
namespace Sys2Proof.Machine

/-- One point as PNT holds it. spec/12 R370, R372, R373. -/
structure Point where
  value : Dword := 0 -- R370 bytes 0–7
  ts : Nat := 0 -- R370 bytes 8–15
  seq : Word := 0 -- R370 bytes 16–19
  qual : Half := 0x0402 -- R371, R373: BAD with NOT_CONFIGURED until the first write
  src : Half := 0 -- R370 bytes 22–23
  typ : Byte := 0xFF -- R371, R372: NONE until the point has a meaning
  deriving DecidableEq, Repr

/-- What stands behind a forced point. spec/12 R380. -/
structure Forced where
  kept : Option Point := none -- R380: newest kept write; none: no write kept
  before : Point := {} -- R380: the point before the force
  keptAt : Nat := 0 -- R380: instant of the kept write
  deriving DecidableEq, Repr

/-- One configured or unknown producer. spec/12 R377, R378. -/
structure Producer where
  state : Nat := 0 -- R378, R384: 0 EXPECTED, 1 PRESENT, 2 SILENT, 3 UNKNOWN
  transport : Nat := 0 -- R377: code of an unknown producer
  id : Word := 0 -- R377: identity of an unknown producer
  udp : Nat := 0 -- R377
  lastMsg : Nat := 0 -- R378
  deriving DecidableEq, Repr

/-- One subscription. spec/12 R384, R385. -/
structure Subscr where
  num : Nat := 0 -- R384
  session : Nat := 0 -- R385
  points : List Nat := [] -- R384
  onChange : Bool := false -- R384
  period : Nat := 1 -- R384: frames
  counter : Word := 0 -- R385
  wait : Nat := 0 -- R385: frames since the last notification
  last : List (Nat × Word × Half) := [] -- R385: point, sequence and quality reported last
  iface : Iface := .lan -- R385
  addr : Nat := 0 -- R385
  port : Nat := 0 -- R385
  deriving DecidableEq, Repr

/-- The point table and the Survey's live parts. spec/12. -/
structure PntSt where
  points : List (Nat × Point) := [] -- R370: points written since D1 came up, ascending
  cycleAt : Nat := 0 -- R381: instant of the newest write
  before : List (Nat × Point) := [] -- R33, R381: what the points written at that instant held before, newest first
  countFrom : Nat := 0 -- R378: instant from which the timeout of a point that nothing has written counts
  writtenAt : List (Nat × Nat) := [] -- R378: configured point and instant of its last write
  forced : List (Nat × Forced) := [] -- R380
  fenced : List (Nat × Point) := [] -- R33, R376: the fenced set
  fence : Word := 0 -- R383 PNT_FENCE
  producers : List (Nat × Producer) := [] -- R377: producers seen, by index
  unknownFull : Bool := false -- R377: the 64 unknown indices are taken
  subs : List Subscr := [] -- R384: at most 128
  nextSub : Nat := 1 -- R384
  wrIdx : Nat := 0 -- R383 PNT_WR_IDX
  wrQual : Half := 0 -- R383
  wrVal : Dword := 0 -- R383 PNT_WR_VAL_LO, _HI
  wrTime : Dword := 0 -- R383
  wrStat : Nat := 0 -- R383 RESULT
  watchHit : Half := 0 -- R383
  watchIe : Half := 0 -- R383
  watch : List (Nat × Bool) := List.replicate 16 (0, false) -- R383 PNT_WATCHw: INDEX, EN
  writes : Word := 0 -- R383 PNT_WRITES
  svyGen : Word := 0 -- R364: generation of the Survey
  svyLive : List Nat := [] -- R364, R368: capability bits when the generation was last looked at; empty: not yet
  deriving DecidableEq, Repr

/-- What a unit knows of a partner. spec/13 R393, R394. -/
structure Partner where
  laneFrame : Option Nat := none -- R394: frame of the last heartbeat on the lane
  lanFrame : Option Nat := none -- R394: frame of the last heartbeat on the LAN
  missed : Nat := 0 -- R394: consecutive frames missed
  lost : Bool := true -- R394: declared lost (no heartbeat since start: DESIGN CHOICE, log 20)
  score : Nat := 0 -- R393
  mode : Nat := 3 -- R393 byte 16
  flags : Byte := 0 -- R393 byte 18
  heard : Byte := 0 -- R393 byte 19
  gen : Nat := 0 -- R393
  epoch : Word := 0 -- R393
  lastAt : Nat := 0 -- R401, R416: instant of the last heartbeat
  lanCmdAt : Option Nat := none -- R401: last heartbeat with COMMANDING on the LAN
  laneOkSince : Option Nat := none -- R392, R419: the lane carries heartbeats since; none: it is down
  deriving DecidableEq, Repr

/-- A unit's newest lease request as W keeps it. spec/13 R396–R398. -/
structure LeaseReq where
  unit : Nat := 0 -- R396: the requester
  at_ : Nat := 0 -- R396: receipt
  score : Nat := 0 -- R398
  epoch : Word := 0 -- R398
  commanding : Bool := false -- R398
  sentLo : Word := 0 -- R393 bytes 32–35: low half of the send instant
  deriving DecidableEq, Repr

/-- A lease as W keeps it. spec/13 R396–R398. -/
structure LeaseW where
  holder : Option Nat := none -- R398
  expires : Nat := 0 -- R396: 80 ms from the receipt of the request
  guardUntil : Option Nat := none -- R398
  lastHolder : Option Nat := none -- R398
  epoch : Word := 0 -- R398: epoch of the last grant
  lastGrant : Option Nat := none -- R398: restart rule of 100 ms
  requests : List LeaseReq := [] -- R398: the newest of each unit
  startedAt : Nat := 0 -- R398: W's own start
  released : Option (Nat × Nat) := none -- R398: the unit that released last and when; its last requests are passed over
  promote : Bool := false -- R416: WARDEN_PROMOTE waits for the expiry
  deriving DecidableEq, Repr

/-- The takeover check. spec/13 R410, R411. -/
structure CheckSt where
  running : Bool := false -- R410
  frames : Nat := 0 -- R410: frames committed since the gain
  failed : Nat := 0 -- R410: channels whose CAN path has failed, bit c−1
  failedAo : Nat := 0 -- R410: channels whose analogue path has failed
  prev : Option Nat := none -- R411: previous commanding unit
  prevFault : Bool := false -- R411: it gave up through its own fault
  failedSince : Bool := false -- R411: a failed check since the last RESTORE
  last : Nat := 0 -- R418 RED_CHECK_FAIL
  deriving DecidableEq, Repr

/-- Redundancy supervision. spec/13. -/
structure RedSt where
  unit : Nat := 3 -- R388: unit ID read from the straps (DESIGN CHOICE 3, log 20)
  strap : Nat := 3 -- R388: straps now
  uidChanged : Bool := false -- R388
  commanding : Bool := false -- R391, R396, R401: this unit holds command authority
  silenced : Bool := false -- R402
  suspended : Bool := false -- R399
  epochHeld : Word := 0 -- R404
  epochSeen : Word := 0 -- R404: highest counter seen, with its unit bits
  health : Nat := 0 -- R395
  a : Partner := {} -- R393: unit A as heard
  b : Partner := {} -- R393: unit B as heard
  w : Partner := {} -- R393: the Warden as heard
  requestAt : Nat := 0 -- R396: send instant of the newest request
  hbFrame : Option Nat := none -- R392: frame whose heartbeat has been sent
  missFrame : Option Nat := none -- R394: frame whose missed heartbeats have been counted
  grantedAt : Option Nat := none -- R397: send instant of the last granted request
  lease : LeaseW := {} -- R396
  bothMiss : Nat := 0 -- R402: consecutive frames in which peer and W were missed
  uidConflictAt : Option Nat := none -- R390
  check : CheckSt := {} -- R410
  releaseDue : Bool := false -- R411, R413: the next heartbeat carries RELEASE
  rotation : Option Nat := none -- R413: frame starts counted since the acceptance
  rotationTo : Nat := 0 -- R413, R417: unit that takes over
  takeovers : Word := 0 -- R418
  rotateAge : Nat := 0 -- R414: ns as the standby since its last passed check
  rotateAgeAt : Nat := 0 -- R414: instant the age was advanced to
  relayBadSince : List (Nat × Nat) := [] -- R408: ROLE output and since when its contact reads closed while low
  relayOkSince : Option Nat := none -- R419
  heldState : Option MirrorData := none -- R415: hold state W received
  pairHold : Bool := false -- R396: the mirrored hold state says that the pair is in HOLD
  gainDue : Bool := false -- R391: authority is taken at the first fence in HOLD
  relPend : Option (Nat × Nat) := none -- R413: unit that releases for the next frame, and the frame of its heartbeat
  relFrom : Option (Nat × Nat) := none -- R411: unit that released last, and when
  marksOut : Bool := false -- R576: a mirror that marks the pair out of HOLD is still to be sent
  promoteReq : Option (Nat × Nat) := none -- R416: session and sequence of a WARDEN_PROMOTE that waits
  deriving DecidableEq, Repr

/-- One channel pair of a safety input. spec/14 R426–R429. -/
structure SafeIn where
  a : Bool := true -- R426: filtered SINnA, true closed
  b : Bool := true -- R426: filtered SINnB
  stuckA : Bool := false -- R427 TP_STUCK
  stuckB : Bool := false -- R427
  cross : Bool := false -- R427 TP_CROSS
  disc : Bool := false -- R429 DISC
  disagreeSince : Option Nat := none -- R429
  demand : Bool := false -- R428
  deriving DecidableEq, Repr

/-- One STS pair. spec/14 R430–R434, R441. -/
structure StsPair where
  stopped : Bool := true -- R430, R443
  latched : Bool := false -- R431: the stop has latched
  delayEnd : Option Nat := none -- R430: end of SAFE_STSp_DELAY
  request : Bool := false -- R432: process stop request in force
  requestAt : Nat := 0 -- R449: instant of that request
  faulted : Bool := false -- R441
  gateP : List Bool := [false, false] -- R422: SAFE-P's enables of A and B
  gateL : List Bool := [false, false] -- R422: SAFE-L's enables of A and B
  pulseAt : List Nat := [0, 0] -- R434: last off-pulse of A and B
  deriving DecidableEq, Repr

/-- The phase of a brake test. spec/14 R437. -/
structure BrakeTest where
  t0 : Nat := 0 -- R437
  session : Nat := 0 -- R453
  seq : Nat := 0 -- R453
  phase : Nat := 0 -- R437: 0 set, 1 thrust, 2 thrust ended
  deriving DecidableEq, Repr

/-- One brake. spec/14 R435–R437. -/
structure Brake where
  setReq : Bool := false -- R435: a set request of an input or of SAFE-STOP stands
  autoReq : Bool := false -- R435: only inputs with automatic restart request it
  isSet : Bool := true -- R435, R443: both switches open
  gatesP : Bool := false -- R422: SAFE-P's gates
  gatesL : Bool := false -- R422: SAFE-L's gates
  failed : Bool := false -- R437
  overdue : Bool := false -- R436
  fault : Bool := false -- R441
  hoursNs : Nat := 0 -- R436: released time since the last passed test, ns
  hoursAt : Nat := 0 -- R436: instant the time was advanced to
  testHold : Bool := false -- R437: a test, or one that ended ABORTED, holds the brake set
  test : Option BrakeTest := none -- R437
  deriving DecidableEq, Repr

/-- One SF3 entry. spec/14 R438. -/
structure SltEntry where
  active : Bool := false -- R438
  overSince : Option Nat := none -- R438
  violation : Bool := false -- R438
  deriving DecidableEq, Repr

/-- The safety section. spec/14. -/
structure SafeSt where
  ins : List SafeIn := List.replicate 8 {} -- R426
  sts : List StsPair := List.replicate 4 {} -- R430
  brk : List Brake := List.replicate 4 {} -- R435
  slt : List SltEntry := List.replicate 4 {} -- R438
  safeStop : Bool := false -- R425: the unit is in SAFE-STOP
  confirmed : Option (List Byte) := none -- R443: canonical form of the confirmed set
  pendingSet : Option (List Byte) := none -- R447
  slBank : List Byte := [] -- R447: SAFE-L's register set, 64 bytes
  slPending : List Byte := [] -- R447: SAFE-L's pending bank
  pHealthy : Bool := false -- R443, R451: SAFE-P runs and its start test has passed
  lHealthy : Bool := false -- R443, R451: SAFE-L runs and its start test has passed
  startDue : Bool := true -- R425, R443: D4 and D5 have come up and their start test is still to come
  tokenAt : Nat := 0 -- R424: last toggle SAFE-L saw
  differSince : Option Nat := none -- R424: enable states differ since
  ssupLow : Bool := false -- R441
  ssupOkSince : Option Nat := none -- R452
  encFault : List Nat := [] -- R441: encoders with a latched fault
  encPresent : List Nat := [] -- R441: encoders whose fault is present
  encSpeed : List (Nat × Rat) := [] -- R435: valid shaft speed per encoder, rad/s
  peerCrc : Option Word := none -- R444: check value of the peer's confirmed set, 0 none; none: not yet received
  peerHours : List Nat := [0, 0, 0, 0] -- R436: the peer's hours
  deriving DecidableEq, Repr

end Sys2Proof.Machine
end

