-- ==== Sys2Proof/Machine/State.lean ====
section
/-!
DEFINITION. The state of the module, the reasons a command can stop, and the state after reset. The parts of the state
stand in the files FrameState to PowerState; every field there names its rule of the spec and carries its reset value.
-/
namespace Sys2Proof.Machine

/-- Everything the spec gives the module, and the queue of commands that wait. -/
structure State where
  pending : List Instr := [] -- commands that wait, first in, first out
  now : Nat := 0 -- log 1: the instant of the newest command, ns
  free : Nat := 0 -- log 2: the model's own counter of free values taken
  sent : List Emit := [] -- log 5: what left the module during the newest command, in order
  alarms : List (EvCode × Nat) := [] -- R518: alarms raised now, with the slot, channel, port … they name
  part : PartitionSt := {} -- R17
  dram : DramSt := {} -- R13
  frame : FrameSt := {} -- R28
  est : EstSt := {} -- R55
  hold : HoldSt := {} -- R95
  alc : AlcSt := {} -- R135
  cqa : CqaSt := {} -- R167
  hen : HenSt := {} -- R195
  thr : ThrSt := {} -- R232
  sat : SatSt := {} -- R272
  tmu : TmuSt := {} -- R304
  cmd : CmdSt := {} -- R333
  pnt : PntSt := {} -- R370
  red : RedSt := {} -- R388
  safe : SafeSt := {} -- R422
  fio : FioSt := {} -- R454
  bus : BusSt := {} -- R472
  dma : DmaSt := {} -- R500
  log : LogSt := {} -- R517
  keep : KeepSt := {} -- R543
  sys : SysSt := {} -- R572
  cfg : CfgSt := {} -- R584
  deriving DecidableEq, Repr

/-- Why the model stops. -/
inductive Fault where
  /-- A command names a channel, port, queue or other unit that the module does not have: no such event exists, so the model
  stops. Raised by the meanings of commands with such an operand. Safe. -/
  | noSuchUnit (n : Nat)
  deriving DecidableEq, Repr

/-- Why the model has no answer. -/
inductive Refusal where
  /-- A command whose meaning is not modelled. Raised by the arms of exec alone. Safe. -/
  | notModelled (mnemonic : String)
  deriving DecidableEq, Repr

/-- The module right after reset: every field at the value given beside it in its structure. -/
def State.reset : State := {}

end Sys2Proof.Machine
end

