-- ==== Sys2Proof/Machine/Ops.lean ====
section
/-!
DEFINITION. The operations every block uses: the arrival of a command, what leaves the module, parameters in force, free
values, and the clocks' readings.
-/
namespace Sys2Proof.Machine

/-- What a command's meaning answers. -/
abbrev Res := Host.Outcome State Fault Refusal

/-- A command arrives at an instant: time goes on (never back) and nothing has been sent yet. -/
def State.arrive (s : State) (t : Nat) : State := { s with now := max s.now t, sent := [] }

/-- Something leaves the module. -/
def State.emit (s : State) (e : Emit) : State := { s with sent := s.sent ++ [e] }

/-- An access that was not performed answers a bus error. spec/01 R13, R19. -/
def State.busErr (s : State) (w : Who) (a : Nat) : State := s.emit (.busError w a)

/-- Whether what goes to the peer of a pair takes the LAN path: the lane carries no heartbeats. spec/13 R392. -/
def State.peerOnLan (s : State) : Bool := (if s.red.unit = 0 then s.red.b else s.red.a).laneOkSince.isNone

/-- The answer of a meaning whose operand must name a unit the module has. -/
def guardUnit (ok : Bool) (n : Nat) (s : State) : Res := if ok then .next s else .fault (.noSuchUnit n)

/-- Whether `n` lies between two numbers. -/
def between (a n b : Nat) : Bool := a ≤ n && n ≤ b

/-- A free word, and the counter advanced. -/
def State.freeW (s : State) : Word × State := (Config.freeWord s.free, { s with free := s.free + 1 })

/-- A free number, and the counter advanced. -/
def State.freeQ (s : State) : Rat × State := (Config.freeRat s.free, { s with free := s.free + 1 })

/-- `n` free bytes, and the counter advanced. -/
def State.freeBytes (s : State) (n : Nat) : List Byte × State :=
  ((List.range n).map (Config.freeByte s.free), { s with free := s.free + 1 })

/-! ### Parameters in force (spec/20 R584) -/

/-- The value of a parameter in force; none where it is unset. -/
def State.par? (s : State) (p : Param) (i : Nat := 0) : Option Rat :=
  match s.cfg.given.find? (fun e => decide (e.1 = (p, i))) with
  | some e => some e.2
  | none => p.dflt i

/-- The value of a parameter in force, 0 where it is unset. -/
def State.par (s : State) (p : Param) (i : Nat := 0) : Rat := (s.par? p i).getD 0

/-- A parameter that counts. -/
def State.parN (s : State) (p : Param) (i : Nat := 0) : Nat := natOf (s.par p i)

/-- A parameter that is a switch. -/
def State.parB (s : State) (p : Param) (i : Nat := 0) : Bool := s.par p i ≠ 0

/-- A parameter in seconds, as ns. -/
def State.parNs (s : State) (p : Param) (i : Nat := 0) : Nat := natOf (s.par p i * 1000000000)

/-- A parameter in milliseconds, as ns. -/
def State.parMs (s : State) (p : Param) (i : Nat := 0) : Nat := natOf (s.par p i * 1000000)

/-- The values of a list parameter in force. -/
def State.parL (s : State) (p : Param) (i : Nat := 0) : List Rat :=
  match s.cfg.lists.find? (fun e => decide (e.1 = (p, i))) with
  | some e => e.2
  | none => []

/-! ### Power domains -/

/-- Whether a domain is powered. spec/19 R568. -/
def State.dom (s : State) (d : Nat) : Bool := s.keep.powered.testBit d

/-- Whether D9 drives its pins: it runs, and the unit is not in KEEP, whose wakes power no link, no lane's laser, no pulse output and no reference
output. R611, R613, R615. -/
def State.netUp (s : State) : Bool := s.dom 9 && decide (s.sys.mode ≠ .keep)

/-- A domain powered or not. -/
def State.setDom (s : State) (d : Nat) (on : Bool) : State :=
  { s with keep := { s.keep with
      powered := if on then s.keep.powered ||| 2 ^ d else s.keep.powered - (s.keep.powered &&& 2 ^ d) } }

/-! ### Time since -/

/-- Whether an instant lies at least `d` ns back. -/
def State.past (s : State) (since d : Nat) : Bool := since + d ≤ s.now

/-- Whether a condition that holds since an instant, if it holds, has held for `d` ns. -/
def State.held (s : State) (since : Option Nat) (d : Nat) : Bool :=
  match since with
  | none => false
  | some a => s.past a d

/-- The start of a condition: kept while it holds, now when it begins, none while it does not hold. -/
def State.since (s : State) (cond : Bool) (old : Option Nat) : Option Nat :=
  if cond then some (old.getD s.now) else none

/-! ### The raw counter (spec/10 R304, R305) -/

/-- The raw counter in units of 2^-28 ns: one increment for each tick of the 250 MHz clock. -/
def State.rawFixed (s : State) : Nat :=
  (s.tmu.raw.base + (s.now / 4 - s.tmu.raw.baseAt / 4) * s.tmu.raw.incr.toNat) % 2 ^ 92

/-- The 64-bit raw count: wrap count and nanosecond field. -/
def State.raw (s : State) : Nat := s.rawFixed / 2 ^ 28

/-- The raw count at another instant of the module's axis. -/
def State.rawAt (s : State) (t : Nat) : Nat := ({ s with now := t } : State).raw

/-- Fixes the raw counter's present count as the base of later counts. -/
def State.rawAnchor (s : State) : State :=
  { s with tmu := { s.tmu with raw := { s.tmu.raw with base := s.rawFixed, baseAt := s.now } } }

/-! ### Virtual clocks (spec/10 R306, R312) -/

/-- Virtual clock n. -/
def State.vc (s : State) (n : Nat) : VcSt := if n = 0 then s.tmu.vc0 else s.tmu.vc1

/-- Virtual clock n put in its place. -/
def State.putVc (s : State) (n : Nat) (v : VcSt) : State :=
  if n = 0 then { s with tmu := { s.tmu with vc0 := v } } else { s with tmu := { s.tmu with vc1 := v } }

/-- The value of a virtual clock at a raw count: raw + ofs + rate · 2^-40 · (raw − ref). -/
def VcSt.value (v : VcSt) (raw : Nat) : Int :=
  (raw : Int) + v.ofs + (v.rate * ((raw : Int) - (v.ref : Int))) / (2 ^ 40 : Int)

/-- Virtual clock n now. -/
def State.vcNow (s : State) (n : Nat) : Int := (s.vc n).value s.raw

/-- The difference d at a raw count: it decays at 10 ppm less |rate_k| of raw time since its anchor. spec/10 R312. -/
def State.selDAt (s : State) (raw : Nat) : Rat :=
  let v := s.vc s.tmu.selVc
  let ppm : Rat := 1 / 100000 - ((v.rate.natAbs : Rat) / ((2 ^ 40 : Nat) : Rat))
  let fall := ppm * (((raw : Int) - (s.tmu.selDRaw : Int)) : Rat)
  let d := s.tmu.selD
  if absQ d ≤ fall then 0 else if d < 0 then d + fall else d - fall

/-- Virtual clock n changed; d is anchored before the clock followed changes its rate, so that its decay so far stands. spec/10 R51, R312. -/
def State.setVc (s : State) (n : Nat) (v : VcSt) : State :=
  let s : State := if s.tmu.selVc = n ∧ (s.vc n).rate ≠ v.rate then { s with tmu := { s.tmu with selD := s.selDAt s.raw, selDRaw := s.raw } } else s
  s.putVc n v

/-- The selected virtual clock at a raw count, ns of TAI. spec/10 R312. -/
def State.selAt (s : State) (raw : Nat) : Nat :=
  ((s.vc s.tmu.selVc).value raw + nearest (s.selDAt raw)).toNat

/-- The selected virtual clock now. -/
def State.sel (s : State) : Nat := s.selAt s.raw

/-- The raw count at which the selected clock, at its present rate, reads a value. spec/10 R312, spec/16 R477. -/
def State.rawOfSel (s : State) (v : Nat) : Nat :=
  (List.range 3).foldl (fun (r : Nat) _ => ((r : Int) + (v : Int) - (s.selAt r : Int)).toNat) s.raw

/-- The raw count `ns` after the start of the frame in progress; after a step of the clock the frame goes on by the raw counter. spec/02 R52,
spec/07 R216. -/
def State.frameRaw (s : State) (ns : Nat) : Nat :=
  if s.frame.stepHoldoff.isSome then s.frame.startRaw + ns else s.rawOfSel (s.frame.startT + ns)

/-- The quality of the selected clock: that of the clock followed. -/
def State.selQual (s : State) : Nat := (s.vc s.tmu.selVc).qual

/-- Whether a clock is present: LOCKED or SLEWING. spec/10 R307. -/
def VcSt.present (v : VcSt) : Bool := v.qual = 1 || v.qual = 3

/-! ### KEEP's counters (spec/19 R556) -/

/-- The operating time now, ns. -/
def State.optimeNs (s : State) : Nat := s.keep.optimeBase * 1000000 + (s.now - s.keep.optimeAt)

/-- The operating time now, ms. -/
def State.optime (s : State) : Nat := s.keep.optimeBase + (s.now - s.keep.optimeAt) / 1000000

end Sys2Proof.Machine
end

