-- ==== Sys2Proof/Machine/LogOps.lean ====
section
/-!
DEFINITION. The recorder's operations: records and alarms submitted by the blocks, the queue with its rules for floods,
release, and the storage with its spillway (spec/18 R517–R537).
-/
namespace Sys2Proof.Machine

/-- Classes of a record. spec/18 R518. -/
def clsEvent : Nat := 0
/-- An alarm raised. -/
def clsRaised : Nat := 1
/-- An alarm cleared. -/
def clsCleared : Nat := 2
/-- A summary of merged records. -/
def clsSummary : Nat := 3
/-- The record of R25. -/
def clsDisable : Nat := 4

/-- Flags of a record. spec/18 R518. -/
def flNtime : Nat := 1
/-- R324. -/
def flLate : Nat := 2
/-- Written by KEEP without the front end. -/
def flDirect : Nat := 4
/-- Written to the spillway. -/
def flSpill : Nat := 8
/-- A snapshot belongs to it. -/
def flSnap : Nat := 16
/-- Held through a freeze. -/
def flQueued : Nat := 32

/-- Eight parameters, the missing ones 0. -/
def pad8 (p : List Word) : List Word := (p ++ List.replicate 8 0).take 8

/-- A word of a natural number. -/
def wN (n : Nat) : Word := BitVec.ofNat 32 n

/-- The trigger that fires on a record of an event and class. spec/18 R526. -/
def triggerOf (e : EvCode) (cls : Nat) : Option Nat :=
  match e with
  | .POS_EXCURSION => if cls = 1 then some 1 else none
  | .HDG_EXCURSION => if cls = 1 then some 1 else none
  | .REF_REJECTED => if cls = 1 then some 2 else none
  | .TAKEOVER => some 3
  | .CQA_CASE_BREACH => some 4
  | .SAFE_DEMAND => some 5
  | _ => none

/-! ### Storage (spec/18 R523–R525, R535) -/

/-- Whether sequence a comes before b, modulo 2^32. spec/18 R521. -/
def seqBefore (a b : Word) : Bool := a ≠ b && decide ((b - a).toNat < 2 ^ 31)

/-- General slots of the record region: all but the 8,192 that are reserved for severity 7. spec/18 R525. -/
def logGeneral : Nat := logSlots - 8192

/-- Records in reserved slots. spec/18 R525. -/
def reservedUsed (rs : List LogRec) : Nat := (rs.filter (fun r => logGeneral ≤ r.slot)).length

/-- A drop is counted. spec/18 R525. -/
def State.countDrop (s : State) (sev : Nat) : State :=
  { s with log := { s.log with drops := s.log.drops.modify sev wSat, dropAt := some s.now } }

/-- A record stored in the MRAM in the first slot the order of R525 yields; the head then covers it. -/
def State.storeMram (s : State) (r : LogRec) : State :=
  let rs := s.log.recs
  let put (slot : Nat) (l : List LogRec) : State := { s with log := { s.log with recs := l ++ [{ r with slot := slot }], head := r.seq } }
  let evict (f : LogRec → Bool) : State :=
    match rs.find? f with
    | some x => put x.slot (rs.filter (fun y => y.slot ≠ x.slot))
    | none => s.countDrop r.sev
  let res := reservedUsed rs
  let gen := rs.length - res
  if r.sev = 7 ∧ res < 8192 then put (logGeneral + res) rs
  else if gen < logGeneral then put gen rs
  else if r.sev = 7 then evict (fun x => logGeneral ≤ x.slot)
  else evict (fun x => x.slot < logGeneral && x.sev ≤ r.sev)

/-- A record stored in the spillway. spec/18 R535. -/
def State.storeSpill (s : State) (r : LogRec) : State :=
  let r := { r with flags := r.flags ||| flSpill }
  let rs := s.log.spill
  let put (slot : Nat) (l : List LogRec) : State := { s with log := { s.log with spill := l ++ [{ r with slot := slot }], head := r.seq } }
  if rs.length < 256 then put rs.length rs
  else
    match rs.find? (fun x => x.sev ≤ r.sev) with
    | some x => put x.slot (rs.filter (fun y => y.slot ≠ x.slot))
    | none => { s with log := { s.log with drops := s.log.drops.modify r.sev wSat } }

/-- A record written to the storage in use. -/
def State.storeRec (s : State) (r : LogRec) : State :=
  if s.log.state = 2 then s.storeSpill r else s.storeMram r

/-- The next sequence number taken. spec/18 R521. -/
def State.takeSeq (s : State) : Word × State :=
  (s.log.nextSeq, { s with log := { s.log with nextSeq := s.log.nextSeq + 1 } })

/-! ### Submission (spec/18 R520, R522, R532) -/

/-- The parameter format of an event: every parameter is UINT32 but those named here (log 120). spec/18 R517. -/
def EvCode.fmt (e : EvCode) : Nat :=
  match e with
  | .POWER_FAIL => 2 + 2 * 4 + 2 * 16
  | .TIME_FRAME_SWITCH => 4
  | .REF_REJECTED => 2 * 16
  | .THR_FAILED => 2 * 16 + 2 * 64 + 2 * 256
  | .CQA_CASE_BREACH => 2 * 4 + 2 * 16 + 2 * 64 + 2 * 256
  | _ => 0

/-- The record of an event at this instant. spec/18 R517, R520. -/
def State.mkRec (s : State) (e : EvCode) (cls : Nat) (params : List Word) : LogRec :=
  let net := s.sel
  { code := e.code
    sev := e.severity
    cls := cls
    flags := if s.selQual = 0 then 0 else flNtime
    pcycle := s.keep.pcycle
    optime := s.optime
    fmt := BitVec.ofNat 16 e.fmt
    netS := wN (net / 1000000000)
    netNs := wN (net % 1000000000)
    params := pad8 params }

/-- What the trigger of a released record does: a snapshot pending and SNAPSHOT set, or a miss counted. spec/18 R526. -/
def State.fireTrigger (s : State) (t : Nat) (r : LogRec) : State × LogRec :=
  if ¬ s.parB .LOG_SNAP_ON t then (s, r)
  else
    let hold : Bool := match assoc s.log.trigLast t with
      | none => false
      | some a => decide (s.now < a + s.parNs .LOG_SNAP_HOLDOFF)
    if hold ∨ s.log.state = 2 ∨ s.log.snapFault then ({ s with log := { s.log with snapMissed := s.log.snapMissed + 1 } }, r)
    else
      ({ s with log := { s.log with
          trigLast := assocSet s.log.trigLast t s.now, trigPend := s.log.trigPend ++ [(t, r.seq, r.sev, s.now)] } },
       { r with flags := r.flags ||| flSnap })

/-- The released entry's record, numbered and flagged. spec/18 R520, R521, R526. -/
def State.numberEntry (s : State) (en : LogEntry) : State × LogRec :=
  let (q, s) := s.takeSeq
  let opt := if en.captured then (s.optimeNs - (s.raw - en.capture)) / 1000000 else en.rec_.optime
  let r := { en.rec_ with seq := q, optime := opt }
  let s := { s with log := { s.log with lastRel := some (max (s.log.lastRel.getD 0) en.key) } }
  match en.trigger with
  | none => (s, r)
  | some t => s.fireTrigger t r

/-- A record written by KEEP straight to the storage, with DIRECT. spec/18 R523. -/
def State.direct (s : State) (e : EvCode) (cls : Nat) (params : List Word) : State :=
  let (q, s) := s.takeSeq
  let r := s.mkRec e cls params
  s.storeRec { r with seq := q, flags := r.flags ||| flDirect }

/-- The queue's largest length is kept. spec/18 R539. -/
def State.noteQueue (s : State) : State :=
  { s with log := { s.log with queueMaxNow := max s.log.queueMaxNow s.log.queue.length } }

/-- Adds the parameters of a merged record to a summary's. spec/18 R532. -/
def mergeParams (p : List Word) (optime : Nat) : List Word :=
  [p.getD 0 0 + 1, p.getD 1 0, p.getD 2 0, wN (optime % 2 ^ 32), wN (optime / 2 ^ 32), p.getD 5 0, 0, 0]

/-- The first record of a summary. spec/18 R532. -/
def summaryParams (p0 : Word) (optime : Nat) : List Word :=
  [1, wN (optime % 2 ^ 32), wN (optime / 2 ^ 32), wN (optime % 2 ^ 32), wN (optime / 2 ^ 32), p0, 0, 0]

/-- The lowest severity in the queue below `sv`, if any. -/
def lowestBelow (q : List LogEntry) (sv : Nat) : Option Nat :=
  (List.range sv).find? (fun k => q.any (fun e => e.rec_.sev = k))

/-- The newest entry of a severity removed. -/
def dropNewest (q : List LogEntry) (sv : Nat) : List LogEntry :=
  match q.reverse.find? (fun e => e.rec_.sev = sv) with
  | none => q
  | some x => q.filter (fun e => e.order ≠ x.order)

/-- A dropped submission is counted. spec/18 R532. -/
def State.countQdrop (s : State) (sev : Nat) : State :=
  { s with log := { s.log with qdrops := s.log.qdrops.modify sev wSat } }

/-- An entry put at the end of the queue. One captured before a record already released is late, and is released by its arrival. R324. -/
def State.pushEntry (s : State) (en : LogEntry) : State :=
  let en : LogEntry := match s.log.lastRel with
    | some c =>
      if en.capture < c then { en with key := c, source := 0xFFFF, rec_ := { en.rec_ with flags := en.rec_.flags ||| flLate } }
      else { en with key := en.capture }
    | none => { en with key := en.capture }
  State.noteQueue { s with log := { s.log with
    queue := s.log.queue ++ [{ en with order := s.log.order }], order := s.log.order + 1 } }

/-- An entry submitted to the queue under the rules for floods. spec/18 R532. -/
def State.enqueue (s : State) (en : LogEntry) : State :=
  let q := s.log.queue
  let sv := en.rec_.sev
  if 4096 ≤ q.length then
    if sv ≤ 4 then s.countQdrop sv
    else
      match lowestBelow q sv with
      | none => s.countQdrop sv
      | some k =>
        (State.countQdrop { s with log := { s.log with queue := dropNewest q k } } k).pushEntry en
  else if 3072 ≤ q.length ∧ sv ≤ 2 then
    let s := { s with log := { s.log with merged := wSat s.log.merged } }
    if q.any (fun e => e.rec_.code = en.rec_.code && e.rec_.cls = clsSummary && !e.released) then
      let upd (e : LogEntry) : LogEntry :=
        if e.rec_.code = en.rec_.code ∧ e.rec_.cls = clsSummary ∧ ¬ e.released then
          { e with rec_ := { e.rec_ with params := mergeParams e.rec_.params en.rec_.optime } }
        else e
      { s with log := { s.log with queue := q.map upd } }
    else
      s.pushEntry { en with rec_ := { en.rec_ with
        cls := clsSummary, fmt := BitVec.ofNat 16 (en.rec_.fmt.toNat % 4 * 1024), params := summaryParams (en.rec_.params.getD 0 0) en.rec_.optime } }
  else s.pushEntry en

/-- Whether an alarm stands for an instance. -/
def State.alarmOn (s : State) (e : EvCode) (i : Nat := 0) : Bool := s.alarms.any (fun a => decide (a = (e, i)))

/-- LOG_FLOOD is raised at 3,072 entries. spec/18 R532, R540. -/
def State.floodCheck (s : State) : State :=
  if 3072 ≤ s.log.queue.length ∧ ¬ s.alarmOn .LOG_FLOOD then
    let s := { s with log := { s.log with floodLowSince := none }, alarms := s.alarms ++ [(EvCode.LOG_FLOOD, 0)] }
    s.enqueue { rec_ := s.mkRec .LOG_FLOOD clsRaised [], submitted := s.now, capture := s.raw }
  else s

/-- A record submitted by a block, with its capture instant (raw) and source where it has one. While D1 is down KEEP and
the safety section write straight to the storage; under SUPPLY_LOW records are written synchronously (R537). -/
def State.submitRec (s : State) (e : EvCode) (cls : Nat) (params : List Word) (cap : Option (Nat × Nat) := none) : State :=
  if (e.severity : Rat) < s.par .LOG_MIN_SEV then s
  else if ¬ s.dom 1 then s.direct e cls params
  else
    let r := s.mkRec e cls params
    let en : LogEntry := match cap with
      | none => { rec_ := r, submitted := s.now, capture := s.raw, trigger := triggerOf e cls }
      | some (raw, src) =>
        let net := s.selAt raw
        { rec_ := { r with netS := wN (net / 1000000000), netNs := wN (net % 1000000000) }
          submitted := s.now, capture := raw, captured := true, source := src, trigger := triggerOf e cls }
    if s.keep.supply.state ≠ 0 then
      let (s, r) := s.numberEntry { en with key := en.capture }
      s.storeRec r
    else (s.enqueue en).floodCheck

/-- An event recorded only. -/
def State.event (s : State) (e : EvCode) (params : List Word := []) : State := s.submitRec e clsEvent params

/-- An alarm raised, if it does not stand, and recorded. -/
def State.raiseAlarm (s : State) (e : EvCode) (i : Nat := 0) (params : List Word := []) : State :=
  if s.alarmOn e i then s
  else State.submitRec { s with alarms := s.alarms ++ [(e, i)] } e clsRaised (wN i :: params)

/-- An alarm that stands no longer. -/
def State.dropAlarm (s : State) (e : EvCode) (i : Nat := 0) : State :=
  { s with alarms := s.alarms.filter (fun a => decide (a ≠ (e, i))) }

/-- An alarm cleared, if it stands, and recorded. -/
def State.clearAlarm (s : State) (e : EvCode) (i : Nat := 0) : State :=
  if s.alarmOn e i then (s.dropAlarm e i).submitRec e clsCleared [wN i]
  else s

/-- An alarm that stands exactly while a condition holds. -/
def State.alarmIf (s : State) (cond : Bool) (e : EvCode) (i : Nat := 0) : State :=
  if cond then s.raiseAlarm e i else s.clearAlarm e i

/-- The record of R25: function, cause, items completed and aborted, first and last aborted item. -/
def State.disableRec (s : State) (e : EvCode) (func cause done aborted first last : Nat) : State :=
  s.submitRec e clsDisable [wN func, wN cause, wN done, wN aborted, wN first, wN last]

/-! ### Release (spec/18 R522, R324, R530) -/

/-- Whether entry a is released before entry b: capture instant, then source, then submission order. -/
def entryBefore (a b : LogEntry) : Bool :=
  a.key < b.key || (a.key = b.key && (a.source < b.source || (a.source = b.source && a.order < b.order)))

/-- The entry released next, among those not yet released. -/
def nextRelease (q : List LogEntry) : Option LogEntry :=
  (q.filter (fun e => !e.released)).foldl
    (fun m e => match m with
      | none => some e
      | some x => if entryBefore e x then some e else some x) none

/-- An entry released: written, or held in the queue with QUEUED during a freeze. -/
def State.releaseEntry (s : State) (en : LogEntry) : State :=
  let (s, r) := s.numberEntry en
  if s.log.state = 1 then
    let upd (e : LogEntry) : LogEntry :=
      if e.order = en.order then { e with released := true, rec_ := { r with flags := r.flags ||| flQueued } } else e
    { s with log := { s.log with queue := s.log.queue.map upd } }
  else
    State.storeRec { s with log := { s.log with queue := s.log.queue.filter (fun e => e.order ≠ en.order) } } r

/-- The released records held through a freeze are written, in sequence order. spec/18 R531. -/
def State.writeHeld (s : State) : State :=
  let ins (l : List LogEntry) (e : LogEntry) : List LogEntry :=
    l.takeWhile (fun x => !seqBefore e.rec_.seq x.rec_.seq) ++ e :: l.dropWhile (fun x => !seqBefore e.rec_.seq x.rec_.seq)
  let hs := (s.log.queue.filter (·.released)).foldl ins []
  hs.foldl (fun s e => s.storeRec e.rec_) { s with log := { s.log with queue := s.log.queue.filter (fun e => !e.released) } }

/-- Every entry of the queue released and written at once. spec/18 R537. -/
def State.flushQueue (s : State) : State :=
  let rec go : Nat → State → State
    | 0, s => s
    | n + 1, s =>
      match nextRelease s.log.queue with
      | none => s
      | some en => go n (s.releaseEntry en)
  (go s.log.queue.length s).writeHeld

end Sys2Proof.Machine
end

