-- ==== Sys2Proof/Machine/CmdOps.lean ====
section
/-!
DEFINITION. Sessions, replies and the journal: what every command with an opcode shares (spec/11 R335–R353).
-/
namespace Sys2Proof.Machine

/-! ### Status codes (R338) -/

/-- Journalled and executed. -/
def stDone : Nat := 0x0000
/-- Journalled and queued. -/
def stAccepted : Nat := 0x0001
/-- A duplicate. -/
def stReplayed : Nat := 0x0002
/-- The CRC failed. -/
def stBadCrc : Nat := 0x8000
/-- The tag failed. -/
def stBadAuth : Nat := 0x8001
/-- The opcode is not in R358. -/
def stUnknownOpcode : Nat := 0x8002
/-- A parameter is out of range or malformed. -/
def stBadParam : Nat := 0x8003
/-- Refused by the state. -/
def stNotInMode : Nat := 0x8004
/-- Without pair authority. -/
def stNotActive : Nat := 0x8005
/-- A gap in the sequence. -/
def stSeqGap : Nat := 0x8006
/-- No space. -/
def stJournalFull : Nat := 0x8007
/-- Final status under R23. -/
def stAborted : Nat := 0x8008
/-- Final status of a command whose time passed. -/
def stDeadline : Nat := 0x8009
/-- The role or the port does not admit it. -/
def stPermission : Nat := 0x800A

/-! ### Flags (R336) -/

/-- Set in every packet the unit sends. -/
def fgReply : Nat := 1
/-- The trailer is a tag. -/
def fgAuth : Nat := 2
/-- The packet completes an ACCEPTED command. -/
def fgCompletion : Nat := 4
/-- Guaranteed across resets of this unit only. -/
def fgSingle : Nat := 8
/-- The original parameters are no longer held. -/
def fgParamsGone : Nat := 16
/-- The client retransmits. -/
def fgRetransmit : Nat := 32
/-- Not yet completed. -/
def fgPending : Nat := 64

/-! ### Sequence numbers (R346) -/

/-- Sequence numbers run from 1 to this and wrap to 1. -/
def seqMod : Nat := 2 ^ 32 - 1

/-- The sequence number after `e`. -/
def seqNext (e : Nat) : Nat := if e = seqMod then 1 else e + 1

/-- How far `a` lies behind `b`, modulo 2^32 − 1. -/
def seqBehind (a b : Nat) : Nat := (b + seqMod - a % seqMod) % seqMod

/-- Whether a sequence number lies before another, in serial-number arithmetic modulo 2^32 − 1. R346. -/
def seqIsBefore (a e : Nat) : Bool := 0 < seqBehind a e && decide (seqBehind a e < seqMod / 2)

/-! ### Sessions -/

/-- The session of a number. -/
def State.sess? (s : State) (n : Nat) : Option Session := s.cmd.sessions.find? (fun x => x.num = n)

/-- The session of a number changed. -/
def State.modSess (s : State) (n : Nat) (f : Session → Session) : State :=
  { s with cmd := { s.cmd with sessions := s.cmd.sessions.map (fun x => if x.num = n then f x else x) } }

/-- Code of a role. spec/11 R343. -/
def Role.code : Role → Nat
  | .operator => 1
  | .engineer => 2
  | .service => 3

/-- Whether the unit is one of a pair. spec/13 R388. -/
def State.pairUnit (s : State) : Bool := s.red.unit = 0 || s.red.unit = 1

/-- Whether a session's entries are mirrored: a pair session on a unit of a pair whose peer is present. R340, R351. -/
def State.mirrors (s : State) (x : Session) : Bool := x.pair && s.pairUnit && s.cmd.peerPresent

/-- Whether a reply carries SINGLE: no peer, a unit session, the Warden or Single. R2, R351. -/
def State.single (s : State) (x : Session) : Bool := !s.mirrors x

/-! ### Packets -/

/-- A header of R335 with its parameters. -/
def packet (flags client sess seq op status : Nat) (epoch : Word) (p : List Byte) : List Byte :=
  leBytes 2 0x5843 ++ [1, byte flags] ++ leBytes 4 client ++ leBytes 4 sess ++ leBytes 4 seq ++ leBytes 2 op ++
    leBytes 2 status ++ leBytes 4 p.length ++ leBytes 4 epoch.toNat ++ zeros 4 ++ p

/-- The trailer of a packet: a CRC-32C, or the first 16 bytes of the tag under a key. R337. -/
def trailer (key : Option (List Byte)) (pk : List Byte) : List Byte :=
  match key with
  | none => leBytes 4 (crc32c pk)
  | some k => (hmac k pk).take 16

/-- The key of a session's trailers. R337, R342. -/
def Session.trailKey (x : Session) : Option (List Byte) := if x.auth then some x.key else none

/-- A packet of a session leaves the module. -/
def State.sendPkt (s : State) (x : Session) (flags seq op status : Nat) (p : List Byte) : State :=
  let fl := flags ||| fgReply ||| (if x.auth then fgAuth else 0) ||| (if s.single x then fgSingle else 0)
  let pk := packet fl x.client x.num seq op status s.red.epochHeld p
  s.emit (.packet x.iface x.addr x.port (pk ++ trailer x.trailKey pk))

/-! ### The journal -/

/-- 64-byte blocks a number of bytes takes. -/
def blocks64 (n : Nat) : Nat := (n + 63) / 64

/-- Blocks an entry occupies. R348. -/
def JEntry.blocks (e : JEntry) : Nat := 1 + blocks64 e.params.length + blocks64 e.reply.length

/-- Blocks of the ring. R347. -/
def ringBlocks : Nat := 48128

/-- Blocks in use. -/
def State.usedBlocks (s : State) : Nat := sumN (s.cmd.journal.map JEntry.blocks)

/-- Free blocks. R361. -/
def State.freeBlocks (s : State) : Nat := ringBlocks - s.usedBlocks

/-- Whether an entry's blocks may be freed: final, and E is 64 beyond it or its session is gone. R353. -/
def State.freeable (s : State) (e : JEntry) : Bool :=
  (e.state = .complete || e.state = .refused) &&
    (match s.sess? e.session with
     | none => true
     | some x => e.closed || decide (64 ≤ seqBehind e.seq x.e))

/-- JOURNAL_LOW below 10 % of the ring, cleared above 20 %. R362. -/
def State.journalLow (s : State) : State :=
  if s.freeBlocks * 10 < ringBlocks then s.raiseAlarm .JOURNAL_LOW
  else if ringBlocks < s.freeBlocks * 5 then s.clearAlarm .JOURNAL_LOW
  else s

/-- Entries whose blocks are freed leave the ring. -/
def State.pruneJournal (s : State) : State :=
  State.journalLow { s with cmd := { s.cmd with journal := s.cmd.journal.filter (fun e => !s.freeable e) } }

/-- An entry changed by its journal number. -/
def State.modEntry (s : State) (n : Nat) (f : JEntry → JEntry) : State :=
  { s with cmd := { s.cmd with journal := s.cmd.journal.map (fun e => if e.num = n then f e else e) } }

/-- Entries discarded: their sessions go back to before them. R348, R351. -/
def State.dropEntries (s : State) (gone : JEntry → Bool) : State :=
  let out := s.cmd.journal.filter gone
  let lost := out.map (fun e => (e.session, e.seq))
  let s : State := { s with cmd := { s.cmd with
    journal := s.cmd.journal.filter (fun e => !gone e)
    accepted := s.cmd.accepted.filter (fun a => !lost.contains a), toApply := s.cmd.toApply.filter (fun n => !out.any (fun e => e.num = n)) } }
  lost.foldl (fun s a => s.modSess a.1 (fun x => { x with
    e := if seqIsBefore a.2 x.e then a.2 else x.e
    replies := x.replies.filter (fun r => r.seq ≠ a.2), words := x.words.filter (fun w => w.1 ≠ a.2 % 1024) })) s

/-- At a start the journal ends before the first entry whose CRC fails; the next entry takes its place and its number. R348. -/
def State.journalCut (s : State) (n : Nat) : State :=
  let after := s.cmd.journal.dropWhile (fun e => e.num ≠ n)
  match after with
  | [] => s
  | e :: _ =>
    let nums := after.map (·.num)
    let s := s.dropEntries (fun x => nums.contains x.num)
    { s with cmd := { s.cmd with jnum := (n + 2 ^ 32 - 1) % 2 ^ 32, jtail := e.block } }

/-- The entry of a journal number. -/
def State.entry? (s : State) (n : Nat) : Option JEntry := s.cmd.journal.find? (fun e => e.num = n)

/-- A new entry written to the ring. R347, R348. -/
def State.pushEntryJ (s : State) (x : Session) (seq op status : Nat) (st : JState) (unitOp acc : Bool)
    (p reply : List Byte) : State :=
  let n := (s.cmd.jnum + 1) % 2 ^ 32
  let e : JEntry := {
    num := n, client := x.client, session := x.num, seq := seq, opcode := op, status := status, state := st
    mirrored := false, single := s.single x, unitOp := unitOp, accepted := acc, params := p, reply := reply
    frame := s.frame.number, time := s.sel, epoch := s.red.epochHeld, block := s.cmd.jtail }
  let slot := seq % 1024
  let x' (y : Session) : Session :=
    { y with words := (slot, status, s.cmd.jtail) :: y.words.filter (fun w => w.1 ≠ slot) }
  (State.modSess { s with cmd := { s.cmd with
      journal := s.cmd.journal ++ [e], jnum := n, jtail := (s.cmd.jtail + e.blocks) % ringBlocks } } x.num x').journalLow

/-- An entry takes its reply; the newest entry grows in the ring by it. R347, R348. -/
def State.setReply (s : State) (jn : Nat) (r : List Byte) : State :=
  let s := s.modEntry jn (fun e => { e with reply := r })
  match s.entry? jn with
  | some e => if s.cmd.jnum = jn then { s with cmd := { s.cmd with jtail := (e.block + e.blocks) % ringBlocks } } else s
  | none => s

/-- The status word of a sequence number. R347. -/
def State.setWord (s : State) (n seq status : Nat) : State :=
  s.modSess n (fun y => { y with words := y.words.map (fun w => if w.1 = seq % 1024 then (w.1, status, w.2.2) else w) })

/-! ### Replies kept (R353) -/

/-- The reply kept for a sequence number, with the flags and the epoch of its header. -/
def State.keepReply (s : State) (n : Nat) (r : KeptReply) : State :=
  let single (y : Session) : Nat := if s.single y then fgSingle else 0
  let put (y : Session) : Session :=
    let r' := { r with flags := r.flags ||| fgReply ||| (if y.auth then fgAuth else 0) ||| single y, epoch := s.red.epochHeld }
    { y with replies := (r' :: y.replies.filter (fun k => k.seq ≠ r.seq)).take 1024 }
  s.modSess n put

/-- E advances over a consumed sequence number. R346. -/
def State.advance (s : State) (n : Nat) : State := s.modSess n (fun y => { y with e := seqNext y.e })

/-- A session whose last accepted command has completed leaves its slot where it is closing. R344. -/
def State.freeSlot (s : State) (n : Nat) : State :=
  match s.sess? n with
  | none => s
  | some x =>
    if x.closing ∧ ¬ (s.cmd.accepted.any (fun a => a.1 = n)) then
      State.pruneJournal { s with
        cmd := { s.cmd with
          sessions := s.cmd.sessions.filter (fun y => y.num ≠ n)
          journal := s.cmd.journal.map (fun e => if e.session = n then { e with closed := true } else e) }
        pnt := { s.pnt with subs := s.pnt.subs.filter (fun b => b.session ≠ n) } }
    else s

/-- A consuming reply: kept, sent, and E advanced. R338, R349. -/
def State.reply (s : State) (n seq op status : Nat) (p : List Byte) : State :=
  match s.sess? n with
  | none => s
  | some x =>
    let s := s.keepReply n { seq := seq, opcode := op, status := status, flags := 0, params := some p, complete := status ≠ stAccepted }
    let s := s.advance n
    let s := if status = stDone ∨ status = stAccepted then
        { s with cmd := { s.cmd with acceptedCnt := s.cmd.acceptedCnt + 1 } } else s
    (s.sendPkt x 0 seq op status p).pruneJournal.freeSlot n

/-- A reply that consumes nothing. R338. -/
def State.replyFree (s : State) (x : Session) (seq op status : Nat) (p : List Byte) : State :=
  let s := if status = stJournalFull then { s with cmd := { s.cmd with journalFull := s.cmd.journalFull + 1 } }
    else if status = stSeqGap then { s with cmd := { s.cmd with seqGaps := s.cmd.seqGaps + 1 } } else s
  s.sendPkt x 0 seq op status p

/-- The completion packet of an ACCEPTED command. R352. -/
def State.sendCompletion (s : State) (n seq op status : Nat) (p : List Byte) : State :=
  match s.sess? n with
  | none => s
  | some x => (if x.closing then s else s.sendPkt x fgCompletion seq op status p).freeSlot n

/-- An ACCEPTED command reaches its final status: entry, status word and kept reply, then the mirror and the packet. R352. -/
def State.completeCmd (s : State) (n seq status : Nat) (p : List Byte) : State :=
  if ¬ s.cmd.accepted.contains (n, seq) then s
  else
    let ent := s.cmd.journal.find? (fun e => e.session = n && e.seq = seq)
    let op := match ent with
      | some e => e.opcode
      | none => 0
    let s := { s with cmd := { s.cmd with accepted := s.cmd.accepted.filter (fun a => a ≠ (n, seq)) } }
    let s := match ent with
      | none => s
      | some e => s.modEntry e.num (fun e => { e with status := status, state := .complete, reply := p })
    let s := s.setWord n seq status
    let s := s.keepReply n { seq := seq, opcode := op, status := status, flags := fgCompletion, params := some p, complete := true }
    match s.sess? n, ent with
    | some x, some e =>
      if s.mirrors x then
        (State.emit { s with cmd := { s.cmd with
          inflight := s.cmd.inflight ++ [({ jnum := e.num, session := n, sentAt := s.now, exec := false } : InFlight)] } }
          (.journal s.peerOnLan { e with status := status, state := .complete, reply := p })).pruneJournal
      else (s.sendCompletion n seq op status p).pruneJournal
    | _, _ => s.sendCompletion n seq op status p

/-! ### A command with an opcode -/

/-- What an opcode is: its number, its class, the least role, the bytes its parameters take at least, the check at acceptance
(0, 1 for ACCEPTED, or a refusal), what a refusal leaves behind and says in its reply, whether its DONE waits for its effect, and what
it does (the state after it, and the reply's parameters). R358. -/
structure OpDef where
  code : Nat
  pair : Bool
  role : Nat := 1
  readOnly : Bool := false
  len : Nat := 0
  chk : State → Nat → List Byte → Nat := fun _ _ _ => 0
  bad : State → List Byte → State := fun s _ => s
  badReply : State → Nat → List Byte → List Byte := fun _ _ _ => []
  defer : State → List Byte → Bool := fun _ _ => false
  run : State → Nat → Nat → List Byte → State × List Byte

/-- Opcodes that SVC alone carries. spec/20 R592. -/
def svcOnly (c : Nat) : Bool := c = 0x0C00 || c = 0x0C01 || c = 0x0C02 || c = 0x0C05 || c = 0x0C06

/-- Whether a session admits an opcode: role, kind, the port it came on, and the key-loading session's limits. R340, R342, R345 check 7. -/
def OpDef.admitted (o : OpDef) (x : Session) : Bool :=
  (!svcOnly o.code || x.iface = .svc) &&
    (if x.keyLoad then o.code = 0x0C06 || (o.readOnly && !o.pair)
     else (x.pair || !o.pair) && decide (o.role ≤ x.role.code))

/-- The check of journal space and of the ACCEPTED commands outstanding. R345 check 9, R352, R353. -/
def State.roomFor (s : State) (n : Nat) (acc : Bool) (p : List Byte) : Bool :=
  decide (1 + blocks64 p.length ≤ s.freeBlocks) &&
    (!acc || decide ((s.cmd.accepted.filter (fun a => a.1 = n)).length < 16))

/-- An entry sent to the peer as it stands, with its reply: nothing waits for its acknowledgement. R340, R353. -/
def State.mirrorEntry (s : State) (n jn : Nat) : State :=
  match s.sess? n, s.entry? jn with
  | some x, some e => if s.mirrors x then s.emit (.journal s.peerOnLan e) else s
  | _, _ => s

/-- The command's effect and its reply, once it is journalled and acknowledged; an ACCEPTED reply goes before the effect that completes
later. R349 steps 3 and 4, R352. -/
def State.runOp (s : State) (o : OpDef) (n seq jn : Nat) (acc : Bool) (p : List Byte) : State :=
  let s := if acc then { s with cmd := { s.cmd with accepted := s.cmd.accepted ++ [(n, seq)] } } else s
  let st := if acc then stAccepted else stDone
  let s := s.modEntry jn (fun e => { e with state := if acc then .applied else .complete, frame := s.frame.number })
  if acc then (o.run (s.reply n seq o.code st []) n seq p).1
  else if o.defer s p then (o.run (s.modEntry jn (fun e => { e with state := .journalled })) n seq p).1
  else
    let (s, r) := o.run s n seq p
    ((s.setReply jn r).mirrorEntry n jn).reply n seq o.code st r

/-- The DONE of a command that waited for its effect. -/
def State.deferredDone (s : State) (n seq op : Nat) (p : List Byte) : State :=
  let s : State := match s.cmd.journal.find? (fun e => e.session = n && e.seq = seq) with
    | none => s
    | some e => s.modEntry e.num (fun (e : JEntry) => { e with state := .complete, reply := p, frame := s.frame.number })
  s.reply n seq op stDone p

/-- A refusal that consumes the sequence number: a REFUSED entry and the reply, or JOURNAL_FULL where the ring cannot hold the entry. R338, R348,
R353. -/
def State.refuse (s : State) (x : Session) (o : Nat) (unitOp : Bool) (seq status : Nat) (r : List Byte := []) : State :=
  if s.freeBlocks < 1 + blocks64 r.length then s.replyFree x seq o stJournalFull []
  else
  let s := s.pushEntryJ x seq o status .refused unitOp false [] r
  (s.mirrorEntry x.num s.cmd.jnum).reply x.num seq o status r

/-- Checks 6 to 9 and the journal for the packet that is next to execute. R345, R349. -/
def State.accept (s : State) (o : OpDef) (x : Session) (seq : Nat) (p : List Byte) : State :=
  if ¬ o.admitted x then s.refuse x o.code (!o.pair) seq stPermission
  else
    let c := if p.length < o.len then stBadParam else o.chk s x.num p
    if c = stJournalFull then s.replyFree x seq o.code stJournalFull []
    else if 0x8000 ≤ c then (o.bad s p).refuse x o.code (!o.pair) seq c (o.badReply s c p)
    else
      let acc : Bool := decide (c = stAccepted)
      if ¬ s.roomFor x.num acc p then s.replyFree x seq o.code stJournalFull []
      else
        let s := s.pushEntryJ x seq o.code c .journalled (!o.pair) acc p []
        if s.mirrors x then
          let s := { s with cmd := { s.cmd with
            inflight := s.cmd.inflight ++ [({ jnum := s.cmd.jnum, session := x.num, sentAt := s.now, exec := true } : InFlight)] } }
          match s.entry? s.cmd.jnum with
          | some e => s.emit (.journal s.peerOnLan e)
          | none => s
        else s.runOp o x.num seq s.cmd.jnum acc p

/-- Whether a session's next command waits for the peer's acknowledgement. -/
def State.waiting (s : State) (n : Nat) : Bool :=
  s.cmd.inflight.any (fun f => f.session = n && f.exec) || s.red.promoteReq.any (fun x => x.1 = n)

end Sys2Proof.Machine
end

