-- ==== Sys2Proof/Machine/SurveyData.lean ====
section
/-!
DEFINITION. The fixed parts of the Survey: the field maps of its blocks, taken from the register tables (spec/07 R227, spec/08 R266,
R267, spec/10 R328, spec/12 R383, spec/15 R467, spec/17 R516, spec/18 R538), and the point directory, taken from the tables of device
points of every chapter. A register of which a block has several copies stands once, at its first copy (log 80).
-/
namespace Sys2Proof.Machine

/-- A row of a field map: offset, lowest bit, width, access, partition access, reset value, name. spec/12 R367. -/
abbrev FieldRow := Nat × Nat × Nat × Nat × Nat × Nat × String

/-- A row of the point directory: first point, count, stride, type, owning block, name. spec/12 R369. -/
abbrev GroupRow := Nat × Nat × Nat × Nat × Nat × String

/-- Field map of R328. -/
def tmuFieldsA : List FieldRow := [
  (0x0, 0, 8, 0, 1, 0x1, "ID.VERSION"), (0x0, 8, 4, 0, 1, 0x8, "ID.CAPFIFOS"), (0x0, 12, 4, 0, 1, 0x6, "ID.PULSES"),
   (0x4, 0, 2, 1, 1, 0x0, "CTRL.SEL_FORCE"), (0x4, 2, 1, 1, 1, 0x0, "CTRL.REVERT"), (0x4, 3, 1, 1, 1, 0x1, "CTRL.FALLBACK_SA"),
   (0x4, 4, 2, 4, 1, 0x0, "CTRL.STEP_ALLOW"), (0x8, 0, 32, 1, 1, 0x40000000, "INCR.INCR"), (0x10, 0, 32, 0, 1, 0x0, "RAW_LO.NS"),
   (0x14, 0, 32, 0, 1, 0x0, "RAW_HI.HI"), (0x20, 0, 32, 0, 1, 0x0, "VC0_LO.NS"), (0x24, 0, 32, 0, 1, 0x0, "VC0_HI.HI"),
   (0x28, 0, 2, 0, 1, 0x0, "VC0_STAT.QUAL"), (0x28, 2, 3, 0, 1, 0x0, "VC0_STAT.SRC"), (0x28, 5, 1, 0, 1, 0x0, "VC0_STAT.STEP_PE"),
   (0x28, 6, 1, 0, 1, 0x0, "VC0_STAT.GM"), (0x28, 7, 1, 0, 1, 0x0, "VC0_STAT.FALLBAC"), (0x28, 8, 4, 0, 1, 0x0, "VC0_STAT.STEP_GE"),
   (0x30, 0, 32, 0, 1, 0x0, "VC1_LO.NS"), (0x34, 0, 32, 0, 1, 0x0, "VC1_HI.HI"), (0x38, 0, 2, 0, 1, 0x0, "VC1_STAT.QUAL"),
   (0x38, 2, 3, 0, 1, 0x0, "VC1_STAT.SRC"), (0x38, 5, 1, 0, 1, 0x0, "VC1_STAT.STEP_PE"), (0x38, 6, 1, 0, 1, 0x0, "VC1_STAT.GM"),
   (0x38, 7, 1, 0, 1, 0x0, "VC1_STAT.FALLBAC"), (0x38, 8, 4, 0, 1, 0x0, "VC1_STAT.STEP_GE"), (0x40, 0, 32, 0, 1, 0x0, "SEL_LO.NS"),
   (0x44, 0, 32, 0, 1, 0x0, "SEL_HI.HI"), (0x48, 0, 1, 0, 1, 0x0, "SEL_STAT.VC"), (0x48, 1, 1, 0, 1, 0x0, "SEL_STAT.SWITCHI"),
   (0x48, 2, 1, 0, 1, 0x0, "SEL_STAT.FORCED"), (0x48, 4, 4, 0, 1, 0x0, "SEL_STAT.STEP_GE"), (0x4C, 0, 32, 0, 1, 0x0, "SEL_DIFF.D"),
   (0x50, 0, 32, 0, 1, 0x0, "SEL_PRE_LO.VALUE"), (0x54, 0, 32, 0, 1, 0x0, "SEL_PRE_HI.VALUE"),
   (0x80, 0, 32, 1, 0, 0x0, "SRVn_OFS_LO.OFS"), (0x84, 0, 32, 1, 0, 0x0, "SRVn_OFS_HI.OFS"),
   (0x88, 0, 32, 1, 0, 0x0, "SRVn_REF_LO.REF"), (0x8C, 0, 32, 1, 0, 0x0, "SRVn_REF_HI.REF"), (0x90, 0, 32, 1, 0, 0x0, "SRVn_RATE.RATE"),
   (0x94, 0, 7, 1, 0, 0x8, "SRVn_CTRL.TAU"), (0x94, 8, 1, 1, 0, 0x0, "SRVn_CTRL.FREEZE"), (0x94, 9, 1, 1, 0, 0x0, "SRVn_CTRL.STEP_A"),
   (0x100, 0, 32, 1, 2, 0x0, "START_LO.START"), (0x104, 0, 32, 1, 2, 0x0, "START_HI.START")]

/-- Field map of R328. -/
def tmuFieldsB : List FieldRow := [
  (0x108, 0, 32, 1, 2, 0x0, "PERIOD.PERIOD"), (0x10C, 0, 32, 1, 2, 0x186A0, "WIDTH.WIDTH"), (0x110, 0, 1, 1, 2, 0x0, "CTRL.ARM"),
   (0x110, 1, 2, 1, 2, 0x0, "CTRL.CLK"), (0x110, 3, 1, 1, 2, 0x0, "CTRL.POL"), (0x110, 4, 1, 4, 2, 0x0, "CTRL.DISARM"),
   (0x114, 0, 1, 0, 2, 0x0, "STAT.ARMED"), (0x114, 1, 1, 5, 2, 0x0, "STAT.PAST"), (0x114, 2, 1, 5, 2, 0x0, "STAT.ABORTED"),
   (0x114, 3, 1, 5, 2, 0x0, "STAT.SUPPRESSED"), (0x114, 4, 1, 5, 2, 0x0, "STAT.LATE"), (0x114, 8, 8, 0, 2, 0x0, "STAT.COUNT"),
   (0x200, 0, 32, 0, 1, 0x0, "DATA0.NS"), (0x204, 0, 16, 0, 1, 0x0, "DATA1.SOURCE"), (0x204, 16, 1, 0, 1, 0x0, "DATA1.EDGE"),
   (0x204, 24, 1, 0, 1, 0x0, "DATA1.AGED"), (0x204, 25, 1, 0, 1, 0x0, "DATA1.STEPPED"), (0x204, 26, 1, 0, 1, 0x0, "DATA1.OVERRUN"),
   (0x204, 31, 1, 0, 1, 0x0, "DATA1.VALID"), (0x208, 0, 9, 0, 1, 0x0, "STAT.LEVEL"), (0x208, 9, 1, 5, 1, 0x0, "STAT.OVR")]

/-- Field map of R328. -/
def tmuFields : List FieldRow := tmuFieldsA ++ tmuFieldsB

/-- Field map of R516. -/
def dmaFields : List FieldRow := [
  (0x0, 0, 8, 0, 1, 0x1, "ID.VERSION"), (0x0, 8, 8, 0, 1, 0x20, "ID.CHANNELS"), (0x4, 0, 32, 0, 1, 0x0, "BUSY.BUSY"),
   (0x100, 6, 26, 1, 2, 0x0, "CH_DESC_LO.ADDR"), (0x104, 0, 8, 1, 2, 0x0, "CH_DESC_HI.ADDR"), (0x108, 0, 1, 4, 2, 0x0, "CH_CTRL.START"),
   (0x108, 1, 1, 1, 2, 0x1, "CH_CTRL.EN"), (0x108, 2, 1, 1, 2, 0x0, "CH_CTRL.IE"), (0x108, 4, 2, 1, 2, 0x0, "CH_CTRL.PRIO"),
   (0x10C, 0, 2, 0, 2, 0x0, "CH_STAT.STATE"), (0x10C, 2, 4, 0, 2, 0x0, "CH_STAT.LAST"), (0x10C, 8, 1, 3, 2, 0x0, "CH_STAT.END"),
   (0x10C, 9, 1, 3, 2, 0x0, "CH_STAT.HALF"), (0x10C, 10, 1, 3, 2, 0x0, "CH_STAT.FULL"), (0x10C, 11, 1, 3, 2, 0x0, "CH_STAT.ERR"),
   (0x10C, 12, 1, 3, 2, 0x0, "CH_STAT.REFUSED"), (0x10C, 13, 1, 3, 2, 0x0, "CH_STAT.TRIG_MIS"),
   (0x110, 0, 32, 0, 2, 0x0, "CH_REMAIN.BYTES"), (0x114, 0, 32, 0, 2, 0x0, "CH_CUR_LO.ADDR"),
   (0x118, 0, 32, 0, 2, 0x0, "CH_CUR_HI.ADDR"), (0x11C, 0, 24, 0, 2, 0x0, "CH_CIRC_POS.POS"), (0x120, 0, 32, 0, 2, 0x0, "CH_TAG.TAG"),
   (0x124, 0, 32, 0, 2, 0x0, "CH_COUNT.DONE")]

/-- Field map of R227. -/
def henFields : List FieldRow := [
  (0x0, 0, 8, 0, 1, 0x1, "ID.VERSION"), (0x0, 8, 4, 0, 1, 0x2, "ID.CLUSTERS"), (0x0, 16, 8, 0, 1, 0x20, "ID.LANES"),
   (0x0, 24, 8, 0, 1, 0x40, "ID.MAXN"), (0x4, 0, 1, 1, 0, 0x1, "CTRL.CL0_EN"), (0x4, 1, 1, 1, 0, 0x1, "CTRL.CL1_EN"),
   (0x8, 0, 2, 0, 1, 0x1, "STAT.CL0_STATE"), (0x8, 2, 2, 0, 1, 0x1, "STAT.CL1_STATE"), (0x8, 4, 1, 0, 1, 0x0, "STAT.CL0_FAULT"),
   (0x8, 5, 1, 0, 1, 0x0, "STAT.CL1_FAULT"), (0x8, 6, 4, 0, 1, 0x0, "STAT.PENDING"), (0xC, 0, 6, 1, 0, 0x14, "PIV.PIV_EXP"),
   (0x10, 0, 16, 0, 0, 0x0, "ERR.CORR"), (0x10, 16, 8, 0, 0, 0x0, "ERR.UNCORR"), (0x10, 24, 1, 5, 0, 0x0, "ERR.UNCORR_NEW"),
   (0x100, 6, 26, 2, 2, 0x0, "Qq_SUB_LO.ADDR_L"), (0x104, 0, 8, 2, 2, 0x0, "Qq_SUB_HI.ADDR_H"), (0x108, 0, 1, 1, 2, 0x1, "Qq_CTRL.EN"),
   (0x108, 1, 1, 1, 2, 0x0, "Qq_CTRL.IE_DONE"), (0x108, 2, 1, 1, 2, 0x0, "Qq_CTRL.IE_ABORT"), (0x10C, 0, 5, 0, 2, 0x0, "Qq_STAT.DEPTH"),
   (0x10C, 8, 3, 0, 2, 0x0, "Qq_STAT.SUB"), (0x10C, 16, 1, 0, 2, 0x0, "Qq_STAT.RUNNING"), (0x10C, 17, 1, 0, 2, 0x0, "Qq_STAT.SUSP"),
   (0x110, 0, 32, 0, 2, 0x0, "Qq_DONE_TAG.TAG"), (0x114, 0, 2, 0, 2, 0x0, "Qq_DONE_INFO.JST"),
   (0x114, 2, 1, 0, 2, 0x0, "Qq_DONE_INFO.CAN"), (0x114, 3, 1, 0, 2, 0x0, "Qq_DONE_INFO.FLA"),
   (0x114, 4, 9, 0, 2, 0x0, "Qq_DONE_INFO.NDO"), (0x114, 13, 9, 0, 2, 0x0, "Qq_DONE_INFO.NTR"),
   (0x114, 22, 9, 0, 2, 0x0, "Qq_DONE_INFO.NAB"), (0x114, 31, 1, 0, 2, 0x0, "Qq_DONE_INFO.VAL"),
   (0x118, 0, 32, 0, 2, 0x0, "Qq_DONE_TIME.TIM"), (0x11C, 0, 1, 2, 2, 0x0, "Qq_POP.POP"), (0x120, 0, 1, 3, 2, 0x0, "Qq_INT.DONE"),
   (0x120, 1, 1, 3, 2, 0x0, "Qq_INT.ABORTED"), (0x120, 2, 1, 3, 2, 0x0, "Qq_INT.REFUSED"), (0x124, 0, 32, 2, 2, 0x0, "Qq_CANCEL.TAG"),
   (0x128, 0, 16, 0, 2, 0x0, "Qq_COUNT.JOBS"), (0x128, 16, 16, 0, 2, 0x0, "Qq_COUNT.REFUSAL")]

/-- Field map of R383. -/
def pntFields : List FieldRow := [
  (0x0, 0, 8, 0, 1, 0x1, "ID.VERSION"), (0x4, 0, 32, 0, 1, 0x0, "FENCE.FRAME"), (0x8, 0, 17, 1, 2, 0x0, "WR_IDX.INDEX"),
   (0xC, 0, 16, 1, 2, 0x0, "WR_QUAL.QUAL"), (0x10, 0, 32, 1, 2, 0x0, "WR_VAL_LO.VALUE"), (0x14, 0, 32, 1, 2, 0x0, "WR_VAL_HI.VALUE"),
   (0x18, 0, 32, 1, 2, 0x0, "WR_TIME_LO.TIME"), (0x1C, 0, 32, 1, 2, 0x0, "WR_TIME_HI.TIME"), (0x20, 0, 1, 4, 2, 0x0, "WR_GO.GO"),
   (0x24, 0, 3, 0, 1, 0x0, "WR_STAT.RESULT"), (0x28, 0, 16, 3, 2, 0x0, "WATCH_HIT.HIT"), (0x2C, 0, 16, 1, 2, 0x0, "WATCH_IE.IE"),
   (0x40, 0, 17, 1, 2, 0x0, "WATCHw.INDEX"), (0x40, 31, 1, 1, 2, 0x0, "WATCHw.EN"), (0x80, 0, 32, 0, 1, 0x0, "WRITES.COUNT")]

/-- Field map of R538. -/
def logFields : List FieldRow := [
  (0x0, 0, 8, 0, 1, 0x1, "ID.VERSION"), (0x4, 0, 2, 0, 1, 0x0, "STAT.STATE"), (0x4, 2, 1, 0, 1, 0x0, "STAT.FLOOD"),
   (0x4, 3, 1, 0, 1, 0x0, "STAT.SNAP_FAULT"), (0x4, 16, 13, 0, 1, 0x0, "STAT.QUEUE"), (0x8, 0, 32, 0, 1, 0x0, "HEAD_SEQ.SEQ"),
   (0xC, 0, 32, 0, 1, 0x0, "TAIL_SEQ.SEQ"), (0x10, 0, 32, 0, 1, 0x0, "FREEZE_SEQ.SEQ"), (0x14, 0, 32, 0, 1, 0x0, "PCYCLE.COUNT"),
   (0x18, 0, 32, 0, 1, 0x0, "OPTIME_LO.MS"), (0x1C, 0, 16, 0, 1, 0x0, "OPTIME_HI.MS"), (0x20, 0, 32, 0, 1, 0x0, "SNAP_HEAD.NUMBER"),
   (0x24, 0, 32, 0, 1, 0x0, "TORN.COUNT"), (0x40, 0, 32, 0, 1, 0x0, "DROPs.COUNT"), (0x60, 0, 32, 0, 1, 0x0, "QDROPs.COUNT"),
   (0x80, 0, 32, 0, 1, 0x0, "MERGED.COUNT"), (0x100, 0, 32, 1, 2, 0x0, "RD_SEL.SEL"), (0x104, 0, 2, 1, 2, 0x0, "RD_CTRL.KIND"),
   (0x104, 16, 9, 1, 2, 0x0, "RD_CTRL.ENTRY"), (0x104, 31, 1, 4, 2, 0x0, "RD_CTRL.GO"), (0x108, 0, 2, 0, 1, 0x0, "RD_STAT.RESULT"),
   (0x140, 0, 32, 0, 1, 0x0, "RD_DATAi.DATA")]

/-- Field map of R266. -/
def thrFields : List FieldRow := [
  (0x0, 0, 2, 0, 1, 0x0, "ID.TYPE"), (0x0, 2, 2, 0, 1, 0x0, "ID.LINK"), (0x0, 4, 5, 0, 1, 0x1, "ID.CHAN"),
   (0x4, 0, 1, 1, 1, 0x1, "CTRL.EN"), (0x4, 1, 1, 4, 1, 0x0, "CTRL.WITHDRAW"), (0x4, 2, 1, 4, 1, 0x0, "CTRL.CLEAR"),
   (0x8, 0, 3, 0, 1, 0x0, "STAT.STATE"), (0x8, 3, 1, 0, 1, 0x0, "STAT.SEAL"), (0x8, 4, 1, 5, 1, 0x0, "STAT.HANDED"),
   (0x8, 5, 1, 5, 1, 0x0, "STAT.SEAL_LATE"), (0x8, 6, 1, 5, 1, 0x0, "STAT.WR_SEALED"), (0x8, 7, 1, 5, 1, 0x0, "STAT.WD_LATE"),
   (0x8, 8, 1, 5, 1, 0x0, "STAT.ABORTED"), (0x8, 9, 1, 0, 1, 0x0, "STAT.GATED"), (0x8, 10, 2, 0, 1, 0x3, "STAT.ANG_SRC"),
   (0xC, 0, 13, 0, 1, 0x0, "FAULT.FAULTS"), (0x10, 0, 32, 1, 0, 0x0, "SH_T.VALUE"), (0x14, 0, 32, 1, 0, 0x0, "SH_ANG.VALUE"),
   (0x18, 0, 1, 1, 0, 0x0, "SH_FLAGS.RUN"), (0x18, 1, 1, 1, 0, 0x0, "SH_FLAGS.TEST"), (0x1C, 0, 1, 4, 0, 0x0, "SEAL.SEAL"),
   (0x20, 0, 32, 0, 1, 0x0, "ACT_T.VALUE"), (0x24, 0, 32, 0, 1, 0x0, "ACT_ANG.VALUE"), (0x28, 0, 32, 0, 1, 0x0, "OUT_T.VALUE"),
   (0x2C, 0, 32, 0, 1, 0x3F800000, "GATE.VALUE"), (0x30, 0, 32, 0, 1, 0x0, "AZ.VALUE"), (0x34, 0, 32, 0, 1, 0x0, "AZ_TIME.TIME"),
   (0x38, 0, 32, 0, 1, 0x0, "AZ_RATE.VALUE"), (0x3C, 0, 32, 0, 1, 0x0, "AZ_PRED.VALUE"), (0x40, 0, 32, 0, 1, 0x0, "T_MEAS.VALUE"),
   (0x44, 0, 32, 0, 1, 0x0, "P_MEAS.VALUE"), (0x48, 0, 32, 0, 1, 0x0, "SHAFT_SPD.VALUE"), (0x4C, 0, 32, 0, 1, 0x0, "SHAFT_ANG.VALUE"),
   (0x50, 0, 32, 0, 1, 0x0, "HANDOVER.TIME"), (0x54, 0, 16, 0, 1, 0x0, "CNT.HANDOVERS"), (0x54, 16, 8, 0, 1, 0x0, "CNT.SEAL_LATES"),
   (0x54, 24, 8, 0, 1, 0x0, "CNT.FB_BAD")]

/-- Field map of R267. -/
def thrCommonFields : List FieldRow := [
  (0x0, 0, 1, 1, 1, 0x0, "AUTH.AUTH"), (0x4, 0, 32, 0, 1, 0x0, "ROUND.COUNT"), (0x8, 0, 32, 0, 1, 0x0, "ROUND_TIME.T")]

/-- Field map of R467. -/
def fioFields : List FieldRow := [
  (0x0, 0, 8, 0, 1, 0x1, "ID.VERSION"), (0x0, 8, 8, 0, 1, 0x60, "ID.CHANNELS"), (0x10, 0, 32, 0, 1, 0x0, "INw.LEVEL"),
   (0x20, 0, 32, 0, 1, 0x0, "CMDw.CMD"), (0x30, 0, 32, 0, 1, 0x0, "RBw.RB"), (0x40, 0, 12, 0, 1, 0x0, "Gg_STAT.VOLT"),
   (0x40, 12, 3, 0, 1, 0x0, "Gg_STAT.STATE"), (0x40, 15, 1, 0, 1, 0x0, "Gg_STAT.OVERLOAD"),
   (0x40, 16, 12, 0, 1, 0x0, "Gg_STAT.CURRENT"), (0x100, 0, 3, 0, 1, 0x0, "Cc_STAT.MODE"), (0x100, 3, 1, 0, 1, 0x0, "Cc_STAT.LEVEL"),
   (0x100, 4, 1, 0, 1, 0x0, "Cc_STAT.CMD"), (0x100, 5, 1, 0, 1, 0x0, "Cc_STAT.WIRE_BRE"), (0x100, 6, 1, 0, 1, 0x0, "Cc_STAT.BACKFED"),
   (0x100, 7, 1, 0, 1, 0x0, "Cc_STAT.OVERCURR"), (0x100, 8, 1, 0, 1, 0x0, "Cc_STAT.OVERLOAD"),
   (0x100, 9, 1, 0, 1, 0x0, "Cc_STAT.OPEN_LOA"), (0x100, 10, 1, 0, 1, 0x0, "Cc_STAT.STUCK_OF"),
   (0x100, 11, 1, 5, 1, 0x0, "Cc_STAT.EDGE"), (0x100, 16, 12, 0, 1, 0x0, "Cc_STAT.CURRENT")]

/-- Device points, part 1. spec/12 R369. -/
def pointGroups1 : List GroupRow := [
  (256, 1, 1, 2, 0xFFFF, "FRM_NUMBER_LO"), (257, 1, 1, 5, 0xFFFF, "FRM_VC"), (258, 1, 1, 2, 0xFFFF, "FRM_LENGTH"),
   (259, 1, 1, 2, 0xFFFF, "FRM_EST_END"), (260, 1, 1, 2, 0xFFFF, "FRM_SOLVE_END"), (261, 1, 1, 2, 0xFFFF, "FRM_SEAL_END"),
   (262, 1, 1, 2, 0xFFFF, "FRM_EST_LATE"), (263, 1, 1, 2, 0xFFFF, "FRM_HOLD_LATE"), (264, 1, 1, 2, 0xFFFF, "FRM_SOLVER_TRUNC"),
   (265, 1, 1, 2, 0xFFFF, "FRM_SEAL_LATE"), (266, 1, 1, 2, 0xFFFF, "FRM_STALLED"), (267, 1, 1, 2, 0xFFFF, "FRM_TX_LATE"),
   (268, 1, 1, 1, 0xFFFF, "FRM_PEER_SKEW"), (269, 1, 1, 2, 0xFFFF, "FRM_MIRROR_LATE"), (512, 1, 1, 3, 0xFFFF, "EST_N"),
   (513, 1, 1, 3, 0xFFFF, "EST_E"), (514, 1, 1, 3, 0xFFFF, "EST_PSI"), (515, 1, 1, 3, 0xFFFF, "EST_U"), (516, 1, 1, 3, 0xFFFF, "EST_V"),
   (517, 1, 1, 3, 0xFFFF, "EST_R"), (518, 1, 1, 3, 0xFFFF, "EST_BIAS_N"), (519, 1, 1, 3, 0xFFFF, "EST_BIAS_E"),
   (520, 1, 1, 3, 0xFFFF, "EST_BIAS_PSI"), (521, 1, 1, 3, 0xFFFF, "EST_WF_N"), (522, 1, 1, 3, 0xFFFF, "EST_WF_E"),
   (523, 1, 1, 3, 0xFFFF, "EST_WF_PSI"), (524, 1, 1, 3, 0xFFFF, "EST_POS_SD"), (525, 1, 1, 3, 0xFFFF, "EST_HDG_SD"),
   (526, 1, 1, 6, 0xFFFF, "EST_MODE"), (527, 1, 1, 2, 0xFFFF, "EST_DR_TIME"), (528, 1, 1, 3, 0xFFFF, "EST_POS_BOUND"),
   (529, 1, 1, 2, 0xFFFF, "EST_POS_REFS"), (530, 1, 1, 2, 0xFFFF, "EST_HDG_REFS"), (531, 1, 1, 3, 0xFFFF, "EST_WIND_SPEED"),
   (532, 1, 1, 3, 0xFFFF, "EST_WIND_DIR"), (533, 1, 1, 3, 0xFFFF, "EST_ROLL"), (534, 1, 1, 3, 0xFFFF, "EST_PITCH"),
   (535, 1, 1, 3, 0xFFFF, "EST_HEAVE"), (768, 1, 1, 5, 0xFFFF, "HOLD_FUNC"), (769, 1, 1, 6, 0xFFFF, "HOLD_FLAGS"),
   (770, 1, 1, 5, 0xFFFF, "HOLD_END"), (771, 1, 1, 3, 0xFFFF, "HOLD_SP_N"), (772, 1, 1, 3, 0xFFFF, "HOLD_SP_E"),
   (773, 1, 1, 3, 0xFFFF, "HOLD_SP_PSI"), (774, 1, 1, 3, 0xFFFF, "HOLD_TAU_X")]

/-- Device points, part 2. spec/12 R369. -/
def pointGroups2 : List GroupRow := [
  (775, 1, 1, 3, 0xFFFF, "HOLD_TAU_Y"), (776, 1, 1, 3, 0xFFFF, "HOLD_TAU_N"), (777, 1, 1, 3, 0xFFFF, "HOLD_WFF_X"),
   (778, 1, 1, 3, 0xFFFF, "HOLD_WFF_Y"), (779, 1, 1, 3, 0xFFFF, "HOLD_WFF_N"), (780, 1, 1, 3, 0xFFFF, "HOLD_ERR_POS"),
   (781, 1, 1, 3, 0xFFFF, "HOLD_ERR_HDG"), (782, 1, 1, 5, 0xFFFF, "HOLD_MPC_STATUS"), (783, 1, 1, 5, 0xFFFF, "BPR_STATE"),
   (784, 1, 1, 3, 0xFFFF, "BPR_GAP"), (785, 1, 1, 3, 0xFFFF, "BPR_FORCE_CMD"), (786, 1, 1, 3, 0xFFFF, "BPR_REACTION"),
   (787, 1, 1, 3, 0xFFFF, "APR_DIST"), (788, 1, 1, 3, 0xFFFF, "APR_SPEED_REF"), (789, 1, 1, 3, 0xFFFF, "APR_XTRACK"),
   (790, 1, 1, 3, 0xFFFF, "JOY_X"), (791, 1, 1, 3, 0xFFFF, "JOY_Y"), (792, 1, 1, 3, 0xFFFF, "JOY_N"),
   (1024, 28, 4, 5, 0xFFFF, "REF_STATUS"), (1025, 28, 4, 5, 0xFFFF, "REF_REASON"), (1026, 28, 4, 3, 0xFFFF, "REF_SHARE"),
   (1027, 28, 4, 3, 0xFFFF, "REF_NIS"), (1280, 1, 1, 5, 0xFFFF, "ALC_STATUS"), (1281, 1, 1, 6, 0xFFFF, "ALC_FLAGS"),
   (1282, 1, 1, 2, 0xFFFF, "ALC_ITER"), (1283, 1, 1, 3, 0xFFFF, "ALC_SLACK_X"), (1284, 1, 1, 3, 0xFFFF, "ALC_SLACK_Y"),
   (1285, 1, 1, 3, 0xFFFF, "ALC_SLACK_N"), (1286, 1, 1, 3, 0xFFFF, "ALC_POWER"), (1287, 1, 1, 3, 0xFFFF, "ALC_CAP_X"),
   (1288, 1, 1, 3, 0xFFFF, "ALC_CAP_Y"), (1289, 1, 1, 3, 0xFFFF, "ALC_CAP_N"), (1290, 1, 1, 2, 0xFFFF, "ALC_REPEAT"),
   (1291, 1, 1, 2, 0xFFFF, "ALC_NVAR"), (1296, 4, 8, 3, 0xFFFF, "PWR_AVAIL"), (1297, 4, 8, 3, 0xFFFF, "PWR_REGEN"),
   (1298, 4, 8, 3, 0xFFFF, "PWR_RAMP"), (1299, 4, 8, 5, 0xFFFF, "PWR_STATE"), (1300, 4, 8, 3, 0xFFFF, "PWR_PLANNED"),
   (1301, 4, 8, 2, 0xFFFF, "PWR_AGE"), (1302, 4, 8, 6, 0xFFFF, "PWR_FLAGS"), (1303, 4, 8, 2, 0xFFFF, "PWR_BAD"),
   (1536, 24, 8, 3, 0xFFFF, "ALC_CMD_T"), (1537, 24, 8, 3, 0xFFFF, "ALC_CMD_ANG"), (1538, 24, 8, 3, 0xFFFF, "ALC_CMD_L")]

/-- Device points, part 3. spec/12 R369. -/
def pointGroups3 : List GroupRow := [
  (1539, 24, 8, 5, 0xFFFF, "ALC_AVAIL"), (1540, 24, 8, 3, 0xFFFF, "ALC_PWR"), (1541, 24, 8, 3, 0xFFFF, "ALC_BERM_AZ"),
   (1542, 24, 8, 3, 0xFFFF, "ALC_KAPPA"), (1543, 24, 8, 3, 0xFFFF, "ALC_SLEW"), (1760, 1, 1, 6, 0x4, "HEN_STATE"),
   (1761, 1, 1, 2, 0x4, "HEN_WAIT_MAX"), (1762, 1, 1, 2, 0x4, "HEN_SUSPENDS"), (1763, 1, 1, 2, 0x4, "HEN_ECC_CORR"),
   (1764, 1, 1, 2, 0x4, "HEN_ECC_UNCORR"), (1765, 1, 1, 2, 0x4, "HEN_ABORTED"), (1766, 1, 1, 2, 0x4, "HEN_Q2_JOBS"),
   (1767, 1, 1, 2, 0x4, "HEN_Q3_JOBS"), (1792, 24, 8, 5, 0x7, "THR_STATE"), (1793, 24, 8, 6, 0x7, "THR_FAULT"),
   (1794, 24, 8, 3, 0x7, "THR_AZ_MEAS"), (1795, 24, 8, 3, 0x7, "THR_AZ_PRED"), (1796, 24, 8, 3, 0x7, "THR_T_MEAS"),
   (1797, 24, 8, 3, 0x7, "THR_P_MEAS"), (1798, 24, 8, 3, 0x7, "THR_SHAFT_SPD"), (1799, 24, 8, 3, 0x7, "THR_GATE"),
   (1984, 1, 1, 2, 0xFFFF, "CQA_N_POSED"), (1985, 1, 1, 2, 0xFFFF, "CQA_N_FEASIBLE"), (1986, 1, 1, 2, 0xFFFF, "CQA_N_BREACH"),
   (1987, 1, 1, 2, 0xFFFF, "CQA_N_UNPROVEN"), (1988, 1, 1, 2, 0xFFFF, "CQA_WORST_CASE"), (1989, 1, 1, 3, 0xFFFF, "CQA_WORST_MARGIN"),
   (1990, 1, 1, 3, 0xFFFF, "CQA_WORST_TREC"), (1991, 1, 1, 6, 0xFFFF, "CQA_FLAGS"), (1992, 1, 1, 2, 0xFFFF, "CQA_BUDGET_2C"),
   (1993, 1, 1, 2, 0xFFFF, "CQA_BUDGET_1C"), (2048, 127, 4, 5, 0xFFFF, "CQA_STATE"), (2049, 127, 4, 3, 0xFFFF, "CQA_MARGIN"),
   (2050, 127, 4, 3, 0xFFFF, "CQA_TREC"), (2051, 127, 4, 6, 0xFFFF, "CQA_INFO"), (2560, 36, 1, 3, 0xFFFF, "CQA_ENV_INTACT"),
   (2596, 36, 1, 3, 0xFFFF, "CQA_ENV_WORST"), (2632, 1, 1, 2, 0xFFFF, "CQA_ENV_CASEIDX"), (2688, 1, 1, 5, 0xFFFF, "SAT_STATE"),
   (2689, 1, 1, 6, 0xFFFF, "SAT_FLAGS"), (2690, 1, 1, 3, 0xFFFF, "SAT_RTK_N"), (2691, 1, 1, 3, 0xFFFF, "SAT_RTK_E"),
   (2692, 1, 1, 3, 0xFFFF, "SAT_RTK_D"), (2693, 1, 1, 5, 0xFFFF, "SAT_RTK_STATUS"), (2694, 1, 1, 3, 0xFFFF, "SAT_RTK_SD")]

/-- Device points, part 4. spec/12 R369. -/
def pointGroups4 : List GroupRow := [
  (2695, 1, 1, 3, 0xFFFF, "SAT_SBAS_N"), (2696, 1, 1, 3, 0xFFFF, "SAT_SBAS_E"), (2697, 1, 1, 3, 0xFFFF, "SAT_SBAS_D"),
   (2698, 1, 1, 5, 0xFFFF, "SAT_SBAS_STATUS"), (2699, 1, 1, 3, 0xFFFF, "SAT_SBAS_SD"), (2700, 1, 1, 3, 0xFFFF, "SAT_HDG"),
   (2701, 1, 1, 3, 0xFFFF, "SAT_PITCH"), (2702, 1, 1, 3, 0xFFFF, "SAT_ROLL"), (2703, 1, 1, 5, 0xFFFF, "SAT_ATT_STATUS"),
   (2704, 1, 1, 3, 0xFFFF, "SAT_HDG_SD"), (2705, 1, 1, 3, 0xFFFF, "SAT_HPL_RTK"), (2706, 1, 1, 3, 0xFFFF, "SAT_HPL_SBAS"),
   (2707, 1, 1, 5, 0xFFFF, "SAT_TIME_QUAL"), (2708, 1, 1, 2, 0xFFFF, "SAT_TIME_BOUND"), (2709, 1, 1, 1, 0xFFFF, "SAT_TIME_ERR"),
   (2710, 1, 1, 3, 0xFFFF, "SAT_OCXO_CTRL"), (2711, 1, 1, 2, 0xFFFF, "SAT_HO_TIME"), (2712, 1, 1, 2, 0xFFFF, "SAT_SV_USED"),
   (2713, 1, 1, 2, 0xFFFF, "SAT_CH_USED"), (2714, 1, 1, 2, 0xFFFF, "SAT_CORR_AGE"), (2715, 1, 1, 2, 0xFFFF, "SAT_RTCM_BAD"),
   (2716, 4, 4, 5, 0xFFFF, "ANT_STATE"), (2717, 4, 4, 3, 0xFFFF, "ANT_CURRENT"), (2718, 4, 4, 3, 0xFFFF, "ANT_CN0_L1"),
   (2719, 4, 4, 3, 0xFFFF, "ANT_CN0_L5"), (2816, 2, 8, 5, 0x2, "TMU_VC_QUAL"), (2817, 2, 8, 5, 0x2, "TMU_VC_SRC"),
   (2818, 2, 8, 1, 0x2, "TMU_VC_OFFSET"), (2819, 2, 8, 3, 0x2, "TMU_VC_RATE"), (2820, 2, 8, 2, 0x2, "TMU_VC_BOUND"),
   (2821, 2, 8, 2, 0x2, "TMU_VC_GM_CLASS"), (2822, 2, 8, 6, 0x2, "TMU_VC_FLAGS"), (2823, 2, 8, 2, 0x2, "TMU_VC_STEPS"),
   (2832, 1, 1, 1, 0x2, "TMU_SEL_DIFF"), (2833, 4, 1, 5, 0x2, "TMU_PTP_STATE"), (2837, 1, 1, 2, 0x2, "TMU_CAP_OVERRUN"),
   (2838, 1, 1, 2, 0x2, "TMU_CAP_AGED"), (2944, 1, 1, 2, 0xFFFF, "CMD_SESSIONS_OPEN"), (2945, 1, 1, 2, 0xFFFF, "CMD_SESSIONS_DORMANT"),
   (2946, 1, 1, 2, 0xFFFF, "CMD_JOURNAL_FREE"), (2947, 1, 1, 0, 0xFFFF, "CMD_PEER_PRESENT"), (2948, 1, 1, 2, 0xFFFF, "CMD_MIRROR_MAX"),
   (2949, 1, 1, 2, 0xFFFF, "CMD_ACCEPTED"), (2950, 1, 1, 2, 0xFFFF, "CMD_REPLAYED"), (2951, 1, 1, 2, 0xFFFF, "CMD_SEQ_GAPS")]

/-- Device points, part 5. spec/12 R369. -/
def pointGroups5 : List GroupRow := [
  (2952, 1, 1, 2, 0xFFFF, "CMD_BAD_CRC"), (2953, 1, 1, 2, 0xFFFF, "CMD_BAD_AUTH"), (2954, 1, 1, 2, 0xFFFF, "CMD_JOURNAL_FULL"),
   (2955, 1, 1, 2, 0xFFFF, "CMD_DISCARDED"), (2960, 1, 1, 2, 0x5, "PNT_PROD_PRESENT"), (2961, 1, 1, 2, 0x5, "PNT_PROD_SILENT"),
   (2962, 1, 1, 2, 0x5, "PNT_PROD_UNKNOWN"), (2963, 1, 1, 2, 0x5, "PNT_FORCED_COUNT"), (2964, 1, 1, 2, 0x5, "PNT_SUBSCRIPTIONS"),
   (3072, 1, 1, 5, 0xFFFF, "RED_UNIT"), (3073, 1, 1, 5, 0xFFFF, "RED_ROLE"), (3074, 1, 1, 2, 0xFFFF, "RED_EPOCH"),
   (3075, 1, 1, 2, 0xFFFF, "RED_HEALTH"), (3076, 1, 1, 2, 0xFFFF, "RED_PEER_HEALTH"), (3077, 1, 1, 6, 0xFFFF, "RED_HEARD"),
   (3078, 1, 1, 1, 0xFFFF, "RED_LEASE_LEFT"), (3079, 1, 1, 5, 0xFFFF, "RED_MODE"), (3080, 1, 1, 2, 0xFFFF, "RED_TAKEOVERS"),
   (3081, 1, 1, 6, 0xFFFF, "RED_CHECK_FAIL"), (3082, 1, 1, 2, 0xFFFF, "RED_ROTATE_AGE"), (3200, 1, 1, 5, 0xFFFF, "SAFE_STATE"),
   (3201, 1, 1, 6, 0xFFFF, "SAFE_SIN"), (3202, 1, 1, 6, 0xFFFF, "SAFE_SIN_FAULT"), (3203, 1, 1, 6, 0xFFFF, "SAFE_STS"),
   (3204, 1, 1, 6, 0xFFFF, "SAFE_BRK"), (3205, 1, 1, 6, 0xFFFF, "SAFE_SLT"), (3206, 1, 1, 2, 0xFFFF, "SAFE_CFG_CRC"),
   (3207, 1, 1, 2, 0xFFFF, "SAFE_CFG_PENDING"), (3208, 4, 1, 2, 0xFFFF, "SAFE_BRK_HOURS"), (3212, 1, 1, 6, 0xFFFF, "SAFE_PATHS"),
   (3328, 96, 2, 0, 0x9, "FIO_VALUE"), (3329, 96, 2, 6, 0x9, "FIO_CH_FAULT"), (3520, 8, 4, 3, 0x9, "FIO_G_VOLT"),
   (3521, 8, 4, 5, 0x9, "FIO_G_STATE"), (3522, 8, 4, 3, 0x9, "FIO_G_CURRENT"), (3523, 8, 4, 2, 0x9, "FIO_G_SHUTDOWNS"),
   (3584, 4, 8, 5, 0xFFFF, "CAN_STATE"), (3585, 4, 8, 2, 0xFFFF, "CAN_TEC"), (3586, 4, 8, 2, 0xFFFF, "CAN_REC"),
   (3587, 4, 8, 3, 0xFFFF, "CAN_LOAD"), (3588, 4, 8, 2, 0xFFFF, "CAN_RX_FRAMES"), (3589, 4, 8, 2, 0xFFFF, "CAN_TX_FRAMES"),
   (3590, 4, 8, 2, 0xFFFF, "CAN_ERRORS"), (3591, 4, 8, 2, 0xFFFF, "CAN_NODES"), (3616, 12, 4, 2, 0xFFFF, "SER_ACCEPTED")]

/-- Device points, part 6. spec/12 R369. -/
def pointGroups6 : List GroupRow := [
  (3617, 12, 4, 2, 0xFFFF, "SER_BAD"), (3618, 12, 4, 2, 0xFFFF, "SER_CHAR_ERR"), (3619, 12, 4, 2, 0xFFFF, "SER_AGE"),
   (3664, 4, 1, 2, 0xFFFF, "CAN_MAP_FAIL"), (3712, 1, 1, 5, 0x6, "LOG_STATE"), (3713, 1, 1, 2, 0x6, "LOG_HEAD"),
   (3714, 1, 1, 2, 0x6, "LOG_QUEUE"), (3715, 1, 1, 2, 0x6, "LOG_QUEUE_MAX"), (3716, 1, 1, 2, 0x6, "LOG_HELD"),
   (3717, 1, 1, 2, 0x6, "LOG_SNAPS_HELD"), (3718, 1, 1, 2, 0x6, "LOG_DROPS_SUM"), (3719, 1, 1, 2, 0x6, "LOG_QDROPS_SUM"),
   (3720, 1, 1, 2, 0x6, "LOG_SNAP_MISSED"), (3721, 1, 1, 2, 0x6, "LOG_SPILL_USED"), (3840, 1, 1, 3, 0xFFFF, "PWR_VLA"),
   (3841, 1, 1, 3, 0xFFFF, "PWR_VLB"), (3842, 1, 1, 5, 0xFFFF, "PWR_SUPPLY_STATE"), (3843, 1, 1, 2, 0xFFFF, "PWR_DIPS"),
   (3844, 1, 1, 2, 0xFFFF, "PWR_CYCLES"), (3845, 1, 1, 2, 0xFFFF, "KEEP_OPTIME_LO"), (3846, 1, 1, 2, 0xFFFF, "KEEP_OPTIME_HI"),
   (3847, 1, 1, 5, 0xFFFF, "RESET_CAUSE"), (3848, 1, 1, 2, 0xFFFF, "CFG_GEN_A"), (3849, 1, 1, 2, 0xFFFF, "CFG_GEN_B"),
   (3850, 1, 1, 5, 0xFFFF, "CFG_SOURCE"), (3851, 1, 1, 3, 0xFFFF, "PWR_INPUT"), (3852, 1, 1, 3, 0xFFFF, "PWR_BASEPLATE_T"),
   (3853, 1, 1, 2, 0xFFFF, "KEEP_TIME_BOUND"), (3854, 1, 1, 6, 0xFFFF, "PWR_DOMAINS"), (3968, 1, 1, 5, 0xFFFF, "SYS_MODE"),
   (3969, 1, 1, 6, 0xFFFF, "SYS_MODE_FLAGS"), (3970, 1, 1, 2, 0xFFFF, "CFG_GEN"), (3971, 1, 1, 2, 0xFFFF, "CFG_STAGED_CRC"),
   (3972, 1, 1, 2, 0xFFFF, "CFG_EFFECT_FRAME"), (3973, 1, 1, 6, 0xFFFF, "IMG_SLOT"), (3974, 1, 1, 6, 0xFFFF, "IMG_TRIAL"),
   (3975, 1, 1, 6, 0xFFFF, "SVC_DRAINED")]

/-- Every group of device points, ascending. spec/12 R369. -/
def pointGroups : List GroupRow := pointGroups1 ++ pointGroups2 ++ pointGroups3 ++ pointGroups4 ++ pointGroups5 ++ pointGroups6

end Sys2Proof.Machine
end

