-- ==== Sys2Proof/Machine/PointOps.lean ====
section
/-!
DEFINITION. The point table: values and their encodings, writes with their sequence and quality rules, forces, producers and
timeouts (spec/12 R370–R381).
-/
namespace Sys2Proof.Machine

/-! ### Types, qualities and encodings (R372, R373) -/

/-- A value with the type it is encoded for. -/
structure PVal where
  typ : Byte := 0xFF
  val : Dword := 0
  deriving DecidableEq, Repr

/-- BOOL. -/
def pvB (b : Bool) : PVal := { typ := 0, val := BitVec.ofNat 64 (b2n b) }
/-- INT32, sign-extended, saturating. -/
def pvI (i : Int) : PVal :=
  let i := if i < -(2 ^ 31 : Int) then -(2 ^ 31 : Int) else if (2 ^ 31 - 1 : Int) < i then (2 ^ 31 - 1 : Int) else i
  { typ := 1, val := BitVec.ofInt 64 i }
/-- UINT32, modulo 2^32. -/
def pvU (n : Nat) : PVal := { typ := 2, val := BitVec.ofNat 64 (n % 2 ^ 32) }
/-- UINT32, saturating. -/
def pvUs (n : Nat) : PVal := { typ := 2, val := BitVec.ofNat 64 (min n (2 ^ 32 - 1)) }
/-- FLOAT32. -/
def pvF (q : Rat) : PVal := { typ := 3, val := (toF32 q).setWidth 64 }
/-- ENUM16. -/
def pvE (n : Nat) : PVal := { typ := 5, val := BitVec.ofNat 64 (n % 2 ^ 16) }
/-- BITS32. -/
def pvX (n : Nat) : PVal := { typ := 6, val := BitVec.ofNat 64 (n % 2 ^ 32) }

/-- Qualities by state. -/
def qGood : Half := 0
/-- UNCERTAIN. -/
def qUncertain : Half := 1
/-- BAD. -/
def qBad : Half := 2
/-- STALE. -/
def qStale : Half := 3
/-- FORCED. -/
def qForced : Half := 4
/-- SUBSTITUTED. -/
def qSubst : Half := 5
/-- Reason LATE. -/
def rLate : Half := 0x0008
/-- Reason NO_MOTION. -/
def rNoMotion : Half := 0x0010
/-- Reason WITHDRAWN. -/
def rWithdrawn : Half := 0x0020
/-- Reason NO_PRODUCER. -/
def rNoProducer : Half := 0x0040
/-- Reason TIMEOUT. -/
def rTimeout : Half := 0x0080
/-- Reason RANGE. -/
def rRange : Half := 0x0100
/-- Reason SUPPLY. -/
def rSupply : Half := 0x0200
/-- Reason NOT_CONFIGURED. -/
def rNotConfigured : Half := 0x0400
/-- Reason COMM. -/
def rComm : Half := 0x0800

/-- The state of a quality word. -/
def qState (q : Half) : Nat := q.toNat % 8

/-- Whether a consumer uses a value of this quality: not BAD and not STALE. R374. -/
def qUsable (q : Half) : Bool := qState q = 0 || qState q = 1 || qState q = 4 || qState q = 5

/-- Whether a value counts as GOOD: GOOD or FORCED. R374. -/
def qIsGood (q : Half) : Bool := qState q = 0 || qState q = 4

/-- Whether value bytes are encoded as R372 gives for a type. -/
def encodedFor (typ : Nat) (v : Dword) : Bool :=
  match typ with
  | 0 => v.toNat ≤ 1
  | 1 => v = ((v.setWidth 32 : Word).signExtend 64)
  | 2 => v.toNat < 2 ^ 32
  | 3 => v.toNat < 2 ^ 32
  | 4 => true
  | 5 => v.toNat < 2 ^ 16
  | 6 => v.toNat < 2 ^ 32
  | _ => false

/-- The number a point's value stands for; none for a value that is not finite or has no type. -/
def Point.num (p : Point) : Option Rat :=
  match p.typ.toNat with
  | 0 => some ((p.value.toNat % 256 : Nat) : Rat)
  | 1 => some (((p.value.setWidth 32 : Word).toInt : Int) : Rat)
  | 2 => some ((p.value.toNat % 2 ^ 32 : Nat) : Rat)
  | 3 => f32Val (p.value.setWidth 32)
  | 4 =>
    let n : Nat := p.value.toNat
    let e : Nat := (n / 2 ^ 52) % 2048
    let m : Nat := n % 2 ^ 52
    let sg : Rat := if n / 2 ^ 63 = 1 then -1 else 1
    if e = 2047 then none
    else if e = 0 then some (sg * (m : Rat) * pow2 (-1074))
    else some (sg * ((2 ^ 52 + m : Nat) : Rat) * pow2 ((e : Int) - 1075))
  | 5 => some ((p.value.toNat % 2 ^ 16 : Nat) : Rat)
  | 6 => some ((p.value.toNat % 2 ^ 32 : Nat) : Rat)
  | _ => none

/-- A number encoded for a type, and whether it fits. R372. -/
def encodeNum (typ : Nat) (q : Rat) : Dword × Bool :=
  match typ with
  | 0 => let i := nearest q; (BitVec.ofInt 64 i, decide (i = 0) || decide (i = 1))
  | 1 => let i := nearest q; (BitVec.ofInt 64 i, decide (-(2 ^ 31 : Int) ≤ i) && decide (i < (2 ^ 31 : Int)))
  | 2 => let i := nearest q; (BitVec.ofInt 64 i, decide (0 ≤ i) && decide (i < (2 ^ 32 : Int)))
  | 3 => ((toF32 q).setWidth 64, (f32Val (toF32 q)).isSome)
  | 4 => (toF64 q, true)
  | 5 => let i := nearest q; (BitVec.ofInt 64 i, decide (0 ≤ i) && decide (i < (2 ^ 16 : Int)))
  | 6 => let i := nearest q; (BitVec.ofInt 64 i, decide (0 ≤ i) && decide (i < (2 ^ 32 : Int)))
  | _ => (0, false)

/-- The 32 bytes of a point. R370. -/
def Point.bytes (p : Point) : List Byte :=
  leBytes 8 p.value.toNat ++ leBytes 8 p.ts ++ leBytes 4 p.seq.toNat ++ leBytes 2 p.qual.toNat ++
    leBytes 2 p.src.toNat ++ [p.typ] ++ zeros 7

/-! ### Reading (R371, R33) -/

/-- Whether a number is that of a configured point. R371. -/
def cfgPoint (p : Nat) : Bool := 32768 ≤ p && p ≤ 131071

/-- The type a configured point is given; 0xFF where it is not configured. -/
def State.cfgType (s : State) (p : Nat) : Nat := if cfgPoint p then s.parN .PNT_TYPE p else 0xFF

/-- The type the point directory gives a device point; 0xFF where no block has the point. R369. -/
def devType (p : Nat) : Nat :=
  match pointGroups.find? (fun (first, count, stride, _) => first ≤ p && p < first + count * stride && (p - first) % stride = 0) with
  | some (_, _, _, typ, _, _) => typ
  | none => 0xFF

/-- A point that nothing has written since D1 came up: BAD with its type; one without a meaning is NONE, BAD with NOT_CONFIGURED (log 21).
R371, R565. -/
def State.blankPoint (s : State) (p : Nat) : Point :=
  let ty := if p < 32768 then devType p else s.cfgType p
  if ty = 0xFF then {} else { qual := qBad, typ := byte ty, src := 0xFFFF }

/-- A point as the window shows it. -/
def State.point (s : State) (p : Nat) : Point := (assoc s.pnt.points p).getD (s.blankPoint p)

/-- A point of the fenced set. R33. -/
def State.fpoint (s : State) (p : Nat) : Point := (assoc s.pnt.fenced p).getD (s.blankPoint p)

/-- The number of a fenced point, where its quality is usable. -/
def State.fval (s : State) (p : Nat) : Option Rat :=
  let x := s.fpoint p
  if qUsable x.qual then x.num else none

/-! ### Writing (R375, R376) -/

/-- The sequence number after a write: 0 until the first, wrapping to 1. R375. -/
def pseqNext (q : Word) : Word := if q = 0xFFFFFFFF then 1 else q + 1

/-- Watches of a point set their HIT bits, and one that sets with IE raises interrupt 48. R383. -/
def State.watchHits (s : State) (p : Nat) : State :=
  let m := maskOf 16 (fun w => decide (s.pnt.watch[w]? = some (p, true)))
  if m = 0 then s
  else
    let new : Half := BitVec.ofNat 16 m &&& ~~~s.pnt.watchHit
    let s := { s with pnt := { s.pnt with watchHit := s.pnt.watchHit ||| BitVec.ofNat 16 m } }
    if (s.pnt.watchIe &&& new) ≠ 0 then s.emit (.irq "PNT_WATCH" 0) else s

/-- A point replaced in the table; what it held before this instant is kept until the next instant's write. R376, R381. -/
def State.putPoint (s : State) (p : Nat) (x : Point) : State :=
  let old := (p, s.point p)
  State.watchHits { s with pnt := { s.pnt with
    cycleAt := s.now, before := if s.pnt.cycleAt = s.now then old :: s.pnt.before else [old]
    points := assocSet s.pnt.points p x } } p

/-- The points as they stood before this instant's writes: a write that meets the fence belongs to the next frame. R33, R381. -/
def State.pointsBefore (s : State) : List (Nat × Point) :=
  if s.pnt.cycleAt = s.now then s.pnt.before.foldl (fun l e => assocSet l e.1 e.2) s.pnt.points else s.pnt.points

/-- What a point held before a write of this instant. R381. -/
def State.beforeNow (s : State) (p : Nat) : Option Point :=
  if s.pnt.cycleAt = s.now then assoc s.pnt.before.reverse p else none

/-- A write of a point that is shown: value, timestamp, quality, source and type together, sequence + 1. R375. -/
def State.writePoint (s : State) (p : Nat) (v : Dword) (typ : Byte) (ts : Nat) (q : Half) (src : Half) : State :=
  s.putPoint p { value := v, ts := ts, seq := pseqNext (s.point p).seq, qual := q, src := src, typ := typ }

/-- A device point written with a value. -/
def State.devPoint (s : State) (ts p : Nat) (v : PVal) (q : Half := qGood) (src : Half := 0xFFFF) : State :=
  s.writePoint p v.val v.typ ts q src

/-- Device points published together. -/
def State.publish (s : State) (ts : Nat) (l : List (Nat × PVal × Half)) : State :=
  l.foldl (fun s e => s.devPoint ts e.1 e.2.1 e.2.2) s

/-- A quality change PNT makes on its own. R375. -/
def State.requal (s : State) (p : Nat) (q : Half) : State :=
  let x := s.point p
  if x.qual = q then s else s.putPoint p { x with qual := q }

/-! ### Forces and producers (R377–R380) -/

/-- The force of a point. -/
def State.force? (s : State) (p : Nat) : Option Forced := assoc s.pnt.forced p

/-- A write by a producer, the partition or a command: kept behind a force, or shown. R380. -/
def State.producerWrite (s : State) (p : Nat) (v : Dword) (ts : Nat) (q : Half) (src : Half) : State :=
  let typ := byte (s.cfgType p)
  let s := { s with pnt := { s.pnt with writtenAt := assocSet s.pnt.writtenAt p s.now } }
  match s.force? p with
  | some f =>
    let k : Point := { value := v, ts := ts, seq := 0, qual := q, src := src, typ := typ }
    { s with pnt := { s.pnt with forced := assocSet s.pnt.forced p { f with kept := some k, keptAt := s.now } } }
  | none => s.writePoint p v typ ts q src

/-- The quality of a point that turns STALE: a point already STALE or SUBSTITUTED only gains the reason (log 115). R373, R378. -/
def staleQual (q reason : Half) : Half := if qState q = 3 ∨ qState q = 5 then q ||| reason else qStale ||| reason

/-- The value that stands in for a configured point. R379. -/
def State.substVal (s : State) (p : Nat) : Dword := (encodeNum (s.cfgType p) (s.par .PNT_SUBST_VAL p)).1

/-- Whether a point of this quality is now substituted in place of turning STALE. R379. -/
def State.substs (s : State) (p : Nat) (q : Half) : Bool := s.parB .PNT_SUBST p && qState q ≠ 5

/-- A configured point turned STALE for a reason, or substituted; behind a force the kept state is. R378, R379, R380. -/
def State.stale (s : State) (p : Nat) (reason : Half) : State :=
  match s.force? p with
  | some f =>
    match f.kept with
    | none => s
    | some k =>
      let k' := if s.substs p k.qual then { k with value := s.substVal p, ts := s.sel, qual := qSubst ||| reason, src := 0xFFFF }
        else { k with qual := staleQual k.qual reason }
      { s with pnt := { s.pnt with forced := assocSet s.pnt.forced p { f with kept := some k' } } }
  | none =>
    let q := (s.point p).qual
    if s.substs p q then s.writePoint p (s.substVal p) (byte (s.cfgType p)) s.sel (qSubst ||| reason) 0xFFFF
    else s.requal p (staleQual q reason)

/-- Configured points given to a producer, by the parameters in force. R387. -/
def State.pointsOf (s : State) (k : Nat) : List Nat :=
  (s.cfg.given.filter (fun e => e.1.1 = Param.PNT_PRODUCER && e.2 = (k : Rat) && s.cfgType e.1.2 ≠ 0xFF)).map (fun e => e.1.2)

/-- A producer's entry. -/
def State.prod (s : State) (k : Nat) : Producer := (assoc s.pnt.producers k).getD {}

/-- A producer's entry changed. -/
def State.setProd (s : State) (k : Nat) (x : Producer) : State :=
  { s with pnt := { s.pnt with producers := assocSet s.pnt.producers k x } }

/-- Whether producer k is configured. -/
def State.prodCfg (s : State) (k : Nat) : Bool := (s.par? .PNT_PROD_TRANSPORT k).isSome && k < 512

/-- Configured producers in a state of R378. -/
def State.prodsIn (s : State) (st : Nat) : List (Nat × Producer) := s.pnt.producers.filter (fun e => s.prodCfg e.1 && e.2.state = st)

/-- The alarm PRODUCER_SILENT stands while any producer is SILENT. R386. -/
def State.silentAlarm (s : State) : State := s.alarmIf (!(s.prodsIn 2).isEmpty) .PRODUCER_SILENT

/-- The configured producer of an identity. R377. -/
def State.findProd (s : State) (transport id udp : Nat) : Option Nat :=
  let ks := (s.cfg.given.filter (fun e => e.1.1 = Param.PNT_PROD_ID && e.2 = (id : Rat))).map (fun e => e.1.2)
  ks.find? (fun k => decide (s.par? .PNT_PROD_TRANSPORT k = some (transport : Rat)) &&
    (transport ≠ 2 || decide (s.parN .PNT_PROD_UDP k = udp)))

/-- A valid message of an identity arrives: its producer is PRESENT, or it is listed as UNKNOWN. Answers the configured
producer. R377, R378. -/
def State.producerSeen (s : State) (transport id udp : Nat) : Option Nat × State :=
  match s.findProd transport id udp with
  | some k =>
    let x := s.prod k
    let s' := s.setProd k { x with state := 1, lastMsg := s.now }
    let s' := if x.state = 2 then (s'.event .PNT_PRODUCER_BACK [wN k]).silentAlarm else s'
    (some k, s')
  | none =>
    match s.pnt.producers.find? (fun e => 512 ≤ e.1 && e.2.transport = transport && e.2.id = BitVec.ofNat 32 id && e.2.udp = udp) with
    | some e => (none, s.setProd e.1 { e.2 with lastMsg := s.now })
    | none =>
      match (List.range 64).find? (fun i => (assoc s.pnt.producers (512 + i)).isNone) with
      | none => (none, { s with pnt := { s.pnt with unknownFull := true } })
      | some i =>
        (none, (s.setProd (512 + i)
          { state := 3, transport := transport, id := BitVec.ofNat 32 id, udp := udp, lastMsg := s.now }).event .PNT_UNKNOWN
            [wN (512 + i), wN transport, wN id])

/-- Whether a point's own timeout has passed since its last write, or since it was configured where nothing has written it (log 115).
R378. -/
def State.pointTimedOut (s : State) (p : Nat) : Bool :=
  let t := s.parMs .PNT_TIMEOUT p
  t ≠ 0 && s.cfgType p ≠ 0xFF && s.past ((assoc s.pnt.writtenAt p).getD s.pnt.countFrom) t

/-- A force made: a write with quality FORCED, the state before it kept. A producer's write of the same instant is kept behind it and was not
shown. R380, R381. -/
def State.forcePoint (s : State) (p : Nat) (v : Dword) : State :=
  let meets : Option Point := if assoc s.pnt.writtenAt p = some s.now then s.beforeNow p else none
  let (f, seq) : Forced × Word := match s.force? p, meets with
    | some f, _ => (f, (s.point p).seq)
    | none, some old => ({ kept := some (s.point p), keptAt := s.now, before := old }, old.seq)
    | none, none => ({ kept := none, before := s.point p }, (s.point p).seq)
  let s := { s with pnt := { s.pnt with forced := assocSet s.pnt.forced p f } }
  (s.putPoint p { value := v, ts := s.sel, seq := pseqNext seq, qual := qForced, src := 0xFFFD, typ := byte (s.cfgType p) }).raiseAlarm
    .PNT_FORCED

/-- A force ended by one new write. R380. -/
def State.unforcePoint (s : State) (p : Nat) : State :=
  match s.force? p with
  | none => s
  | some f =>
    let s := { s with pnt := { s.pnt with forced := assocDel s.pnt.forced p } }
    let s := match f.kept with
      | some k => s.writePoint p k.value k.typ k.ts k.qual k.src
      | none =>
        if s.parB .PNT_SUBST p then s.writePoint p (s.substVal p) (byte (s.cfgType p)) s.sel (qSubst ||| rTimeout) 0xFFFF
        else s.writePoint p f.before.value f.before.typ f.before.ts (qStale ||| rTimeout) f.before.src
    s.alarmIf (!s.pnt.forced.isEmpty) .PNT_FORCED

/-! ### A new configuration (R371, R387) -/

/-- Whether a producer's identity is the same under two configurations. -/
def sameProd (s old : State) (k : Nat) : Bool :=
  decide (s.par? .PNT_PROD_TRANSPORT k = old.par? .PNT_PROD_TRANSPORT k ∧ s.par? .PNT_PROD_ID k = old.par? .PNT_PROD_ID k ∧
    s.par? .PNT_PROD_UDP k = old.par? .PNT_PROD_UDP k)

/-- The point table under a new configuration: a configured point of another type reads as one that nothing has written, its force is gone, a
producer with another identity is EXPECTED, and the timeouts of points never written count from now (log 115). R371, R377, R378, R387. -/
def State.pntConfig (s old : State) : State :=
  let keep (p : Nat) : Bool := !cfgPoint p || s.cfgType p = old.cfgType p
  let gone := (s.pnt.points.filter (fun e => !keep e.1)).map (fun e => e.1)
  let s : State := { s with pnt := { s.pnt with
    points := s.pnt.points.filter (fun e => keep e.1), fenced := s.pnt.fenced.filter (fun e => keep e.1)
    before := s.pnt.before.filter (fun e => keep e.1)
    forced := s.pnt.forced.filter (fun e => keep e.1), writtenAt := s.pnt.writtenAt.filter (fun e => keep e.1), countFrom := s.now
    producers := s.pnt.producers.filter (fun e => 512 ≤ e.1 || sameProd s old e.1) } }
  ((gone.foldl State.watchHits s).silentAlarm).alarmIf (!s.pnt.forced.isEmpty) .PNT_FORCED

end Sys2Proof.Machine
end

