-- ==== Sys2Proof/Machine/TimeOps.lean ====
section
/-!
DEFINITION. The time unit's operations: sources and servo of the virtual clocks, holdover, the selected clock, PTP, capture
and pulse outputs (spec/10 R304–R330).
-/
namespace Sys2Proof.Machine

/-! ### SAT time (spec/09 R289, R291) as the time unit sees it -/

/-- SAT time at an instant: it runs on the OCXO from its anchor, with the rate offset of a slew until the slew ends. -/
def State.satTimeAt (s : State) (t : Nat) : Nat :=
  let x := s.sat.time
  let d : Nat := t - x.baseAt
  let sl : Nat := min t x.slewEnd - x.baseAt
  (((x.base + d : Nat) : Int) + nearest (x.slewRate * (sl : Rat))).toNat

/-- SAT time now. -/
def State.satTime (s : State) : Nat := s.satTimeAt s.now

/-- Whether SAT time is LOCKED or SLEWING. -/
def State.satPresent (s : State) : Bool := s.sat.time.qual = 1 || s.sat.time.qual = 3

/-! ### Holdover bound (spec/09 R292, spec/10 R311) -/

/-- b0 + (SAT_HO_RATE + SAT_HO_TEMPCO · dT_max) · t + 0.5 · SAT_HO_AGING · t², in ns for t in s. -/
def State.hoBound (s : State) (b0 dT t : Rat) : Rat :=
  b0 + ((s.par .SAT_HO_RATE + s.par .SAT_HO_TEMPCO * dT) * t + s.par .SAT_HO_AGING * t * t / 2) * 1000000000

/-- The bound of virtual clock n, ns; 0 when present, and all ones in NONE, which has no bound (log 113). R311, R329. -/
def State.vcBound (s : State) (n : Nat) : Rat :=
  let v := s.vc n
  match v.qual with
  | 0 => 4294967295
  | 2 => s.hoBound v.b0 v.hoDT (((s.now - v.hoStart : Nat) : Rat) / 1000000000)
  | _ => 0

/-! ### Sources (R307) -/

/-- The source a clock is configured for. R332. -/
def State.vcCfgSrc (s : State) (n : Nat) : VcSrc :=
  match s.parN .TMU_VC_SRC n with
  | 0 => .ptp
  | 1 => .sat
  | 2 => .pps
  | _ => .none

/-- Code of a source. R328 VCn_STAT.SRC. -/
def VcSrc.code : VcSrc → Nat
  | .none => 0
  | .ptp => 1
  | .sat => 2
  | .pps => 3

/-- Virtual clock n changed by a function. -/
def State.modVc (s : State) (n : Nat) (f : VcSt → VcSt) : State := s.setVc n (f (s.vc n))

/-- The largest rate of a virtual clock: 9 ppm in units of 2^-40. R306, R328. -/
def rateMax : Int := 9895604

/-- A rate held within its bound. -/
def rateClamp (r : Int) : Int := max (-rateMax) (min rateMax r)

/-- A fractional frequency in units of 2^-40. -/
def rateOf (f : Rat) : Int := rateClamp (nearest (f * ((2 ^ 40 : Nat) : Rat)))

/-- A clock continues from its present value with another rate. R306. -/
def VcSt.rerate (v : VcSt) (raw : Nat) (r : Int) : VcSt :=
  { v with ofs := v.value raw - (raw : Int), ref := raw, rate := r }

/-- The median absolute deviation of samples from a value. -/
def madFrom (m : Rat) (l : List Int) : Rat := median (l.map (fun (i : Int) => absQ ((i : Rat) - m)))

/-- Whether a sample differs by more than 1 µs and 10 median absolute deviations from the median of the last 8. R308 -/
def VcSt.outlier (v : VcSt) (e : Int) : Bool :=
  v.recent.length = 8 &&
    (let m := median (v.recent.map (fun (i : Int) => (i : Rat)))
     let d := absQ ((e : Rat) - m)
     decide (1000 < d) && decide (10 * madFrom m v.recent < d))

/-- Whether the frame follows clock n in HOLD, where no step is applied before it is allowed, and by all units in one frame. R50, R52, R310. -/
def State.stepBarred (s : State) (n : Nat) : Bool :=
  s.tmu.selVc = n && ((s.sys.mode = .hold && !(s.vc n).stepAllowed) || s.frame.stepAtFrame.any (fun f => s.frame.number < f))

/-- The mean of a list. -/
def meanQ (l : List Rat) : Rat := if l.isEmpty then 0 else sumQ l / (l.length : Rat)

/-- The standard deviation of a list. -/
def sdQ (l : List Rat) : Rat :=
  let m := meanQ l
  Config.sqrt (meanQ (l.map (fun x => (x - m) * (x - m))))

/-- The servo's step for an offset e within 50 µs: the loop of R308, its rate bounded by R306. -/
def VcSt.servo (v : VcSt) (raw now : Nat) (e : Int) : VcSt :=
  let wn : Rat := 1 / (max v.tau 1 : Nat)
  let es : Rat := (e : Rat) / 1000000000
  let dt : Rat := if v.lastOffAt = 0 then 0 else ((now - v.lastOffAt : Nat) : Rat) / 1000000000
  let integ : Rat := v.integ + es * dt
  ({ v with integ := integ } : VcSt).rerate raw (rateOf (2 * (7 / 10) * wn * es + wn * wn * integ))

/-- The rate steered to the source's rate from two offsets, the phase left alone. R310. -/
def VcSt.steerRate (v : VcSt) (raw now : Nat) (e : Int) : VcSt :=
  if v.lastOffAt = 0 ∨ now ≤ v.lastOffAt then v
  else
    let f : Rat := ((e - v.lastOff : Int) : Rat) / ((now - v.lastOffAt : Nat) : Rat)
    v.rerate raw (rateClamp (v.rate + nearest (f * ((2 ^ 40 : Nat) : Rat))))

/-- The history of the last 60 s. R311. -/
def VcSt.note (v : VcSt) (now : Nat) (e : Int) : VcSt :=
  { v with
    hist := (now, e, ((v.rate : Int) : Rat), decide (v.qual = 1)) ::
      v.hist.filter (fun h => decide (now < h.1 + 60000000000) || (h.2.2.2 && v.qual ≠ 1))
    lastOff := e
    lastOffAt := now }

/-- An offset sample of the source of clock n: the first four of a new master and outliers are discarded, the others go to the servo, or call for
a step. Until its step a clock that was LOCKED is SLEWING, and one that was not present stays as it was (log 113). R308–R310, R318. -/
def State.vcSample (s : State) (n : Nat) (e : Int) : State :=
  let v := s.vc n
  let v1 : VcSt := { v with srcPresent := true, recent := (e :: v.recent).take 8 }
  if 0 < v.discardNew then s.setVc n { v1 with discardNew := v.discardNew - 1, recent := [] }
  else if v.outlier e then s.setVc n { v1 with discards := wSat v.discards }
  else if v.stepPending ∧ 50000 < e.natAbs then s.setVc n { ((v1.steerRate s.raw s.now e).note s.now e) with stepE := e }
  else
    let s := if v.stepPending then s.clearAlarm .TIME_STEP_PENDING n else s
    let lim := s.parN .TMU_LOCK_LIMIT
    let small : Bool := decide (e.natAbs ≤ lim)
    if e.natAbs ≤ 50000 then
      let v2 := (v1.servo s.raw s.now e).note s.now e
      s.setVc n { v2 with
        freeze := false
        stepArm := false
        stepPending := false
        stepAllowed := false
        lockSince := s.since small v.lockSince
        qual := if v.qual = 1 ∧ small then 1 else 3 }
    else
      let s := s.setVc n { (v1.note s.now e) with freeze := false, stepE := e, stepArm := true, lockSince := none, qual := if v.present then 3 else v.qual }
      if s.stepBarred n then (s.modVc n (fun v => { v with stepPending := true })).raiseAlarm .TIME_STEP_PENDING n else s

/-- Every offset has stayed within TMU_LOCK_LIMIT for TMU_LOCK_TIME: the clock is LOCKED. R308, R330. -/
def State.vcLock (s : State) (n : Nat) : State :=
  let v := s.vc n
  if v.qual = 3 ∧ v.srcPresent ∧ s.held v.lockSince (s.parNs .TMU_LOCK_TIME) then
    (s.setVc n { v with qual := 1, everLocked := true }).clearAlarm .TIME_SRC_LOST n
  else s

/-- The source of clock n is not present: a clock that was present enters HOLDOVER with its rate frozen. R311. -/
def State.srcLost (s : State) (n : Nat) : State :=
  let v := s.vc n
  let v1 : VcSt := { v with srcPresent := false, srcPresentAt := none, lockSince := none, stepArm := v.stepPending }
  if ¬ v.present then s.setVc n v1
  else
    let lk := v.hist.filter (fun h => h.2.2.2)
    let newest : Nat := match lk with
      | h :: _ => h.1
      | [] => s.now
    let used := if v.everLocked ∧ ¬ lk.isEmpty then lk.filter (fun h => decide (newest < h.1 + 60000000000)) else v.hist
    let sd3 : Rat := 3 * sdQ (used.map (fun h => ((h.2.1 : Int) : Rat)))
    let r : Int := if v.everLocked ∧ ¬ lk.isEmpty then rateClamp (nearest (meanQ (used.map (fun h => h.2.2.1)))) else v.rate
    let b0 : Rat := if v.everLocked then sd3 else sd3 + ((v.lastOff.natAbs : Nat) : Rat)
    (s.setVc n { (v1.rerate s.raw r) with
      qual := 2, freeze := true, hoStart := s.now, b0 := b0, hoT := s.keep.baseT, hoDT := 0, lastOffAt := 0
      integ := ((r : Int) : Rat) / ((2 ^ 40 : Nat) : Rat) * ((max v.tau 1 * max v.tau 1 : Nat) : Rat) }).raiseAlarm .TIME_SRC_LOST n

/-- The offset of SAT time from clock n now. R307. -/
def State.satOffset (s : State) (n : Nat) : Int := (s.satTime : Int) - s.vcNow n

/-- Clock n follows another source; SAT gives a first offset at once. R314, R317. -/
def State.follow (s : State) (n : Nat) (src : VcSrc) : State :=
  let s := s.srcLost n
  let s := s.modVc n (fun v => { v with src := src, recent := [], lastOffAt := 0, discardNew := 0 })
  if src = .sat ∧ s.satPresent then s.vcSample n (s.satOffset n) else s

/-- A change of master: the clock waits in HOLDOVER for the new one, whose first four samples are discarded. R318. -/
def State.masterChange (s : State) (n : Nat) (old new : Dword) : State :=
  let s := s.srcLost n
  (s.modVc n (fun v => { v with discardNew := 4, recent := [], lastOffAt := 0, gmId := new })).event .PTP_GM_CHANGE
    [old.setWidth 32, new.setWidth 32]

/-- The BMCA's choice of a grandmaster for clock n; the first after a start replaces none and is no change (log 113). R318. -/
def State.newMaster (s : State) (n : Nat) (new : Dword) : State :=
  let old := (s.vc n).gmId
  if old = 0 then s.modVc n (fun v => { v with gmId := new }) else s.masterChange n old new

/-! ### Pulse outputs (R325–R327) -/

/-- Pulse output k. -/
def State.pulse (s : State) (k : Nat) : PulseOut := s.tmu.pulses.getD k {}

/-- Pulse output k changed. -/
def State.modPulse (s : State) (k : Nat) (f : PulseOut → PulseOut) : State :=
  { s with tmu := { s.tmu with pulses := s.tmu.pulses.modify k f } }

/-- The clock of a pulse output now: the selected clock, VC0 or VC1. -/
def State.pulseClock (s : State) (clk : Nat) : Int :=
  match clk with
  | 1 => s.vcNow 0
  | 2 => s.vcNow 1
  | _ => (s.sel : Int)

/-- A leading edge: the output is in its width, the pulse is counted and the next one scheduled. -/
def State.pulseEdge (s : State) (k : Nat) : State :=
  let raw := s.raw
  s.modPulse k (fun x => { x with
    high := true
    endAt := s.now + x.width
    count := x.count + 1
    lastEdgeRaw := some raw
    armed := x.armed && (k = 5 || x.clk = 3 || x.period ≠ 0)
    next := x.next + x.period })

/-- The value of a pulse output's clock at a raw count. -/
def State.pulseClockAt (s : State) (clk raw : Nat) : Int :=
  match clk with
  | 1 => (s.vc 0).value raw
  | 2 => (s.vc 1).value raw
  | _ => (s.selAt raw : Int)

/-- Whether clock n stands at a whole second, to the tick of 250 MHz. R309. -/
def State.atSecond (s : State) (n : Nat) : Bool := decide ((s.vcNow n).emod 1000000000 < 8)

/-- Whether an armed step of clock n may be applied: at a whole second, 5 s after the last, and not barred. R309, R310. -/
def State.stepMay (s : State) (n : Nat) : Bool :=
  let v := s.vc n
  v.stepArm && s.atSecond n && (match v.lastStepAt with
    | none => true
    | some a => s.past a 5000000000)

/-- Whether a step of a pulse output's clock is due at this instant. R326. -/
def State.clkSteps (s : State) (clk : Nat) : Bool :=
  let n : Nat := match clk with
    | 1 => 0
    | 2 => 1
    | _ => s.tmu.selVc
  s.stepMay n && !s.stepBarred n

/-- The due pulse of output k: its clock has reached the instant, to the nearest tick. One due where its clock steps is no pulse of a periodic
output. R325, R326. -/
def State.pulseDue (s : State) (k : Nat) : Bool :=
  let x := s.pulse k
  x.armed && !x.armAfter && k ≠ 5 && x.clk ≠ 3 && decide ((x.next : Int) ≤ s.pulseClock x.clk + 2) &&
    (x.period = 0 || !s.clkSteps x.clk)

/-- Output k fires where it is due; an output in its width has no second edge. -/
def State.pulseFire (s : State) (k : Nat) : State := if s.pulseDue k ∧ ¬ (s.pulse k).high then s.pulseEdge k else s

/-- FRAME_OUT fires at a frame start. R325. -/
def State.frameOut (s : State) : State :=
  if (s.pulse 5).armed ∧ ¬ (s.pulse 5).armAfter ∧ ¬ (s.pulse 5).high then s.pulseEdge 5 else s

/-- PPS_OUT routed from SAT_PPS fires with it. R325. -/
def State.ppsOut (s : State) : State :=
  if (s.pulse 0).armed ∧ (s.pulse 0).clk = 3 ∧ ¬ (s.pulse 0).high then s.pulseEdge 0 else s

/-- The first scheduled instant of a periodic output at or after a value of its clock. -/
def nextScheduled (start period : Nat) (v : Int) : Nat :=
  if v ≤ (start : Int) ∨ period = 0 then start
  else start + ((v - (start : Int)).toNat + period - 1) / period * period

/-- What a step of its clock from one value to another does to an output: a once pulse that is skipped fires late; the pulse of a periodic output
that is due is suppressed, and its next comes after the step and, by the clock's value one PERIOD of raw time after the last edge, not before
that. R326. -/
def PulseOut.stepped (x : PulseOut) (before after : Int) (least : Option Int) : PulseOut × Bool :=
  if ¬ x.armed then (x, false)
  else if x.period = 0 then
    if before < (x.next : Int) ∧ (x.next : Int) ≤ after then ({ x with late := true, next := after.toNat }, true) else (x, false)
  else
    ({ x with
      suppressed := x.suppressed || decide ((x.next : Int) ≤ before + 2)
      next := nextScheduled x.start x.period (max (after + 1) (least.getD (after + 1))) }, false)

/-- The outputs of a clock (0 selected, 1 VC0, 2 VC1) meet a step of it. R326. -/
def State.pulsesStepped (s : State) (clk : Nat) (before after : Int) : State :=
  (List.range 5).foldl (fun s k =>
    let x := s.pulse k
    if x.clk = clk then
      let r := x.stepped before after (x.lastEdgeRaw.map (fun e => s.pulseClockAt clk (e + x.period)))
      let s := s.modPulse k (fun _ => r.1)
      if r.2 then s.pulseFire k else s
    else s) s

/-- Whether an arm is refused: PERIOD or WIDTH out of range, CLK 3 elsewhere than PPS_OUT. R325, R328. -/
def armBad (k clk period width : Nat) : Bool :=
  5 < k || 3 < clk || (clk = 3 && k ≠ 0) || (period ≠ 0 && !between 1000 period 4294967295) ||
    !between 100 width 500000000 || (period ≠ 0 && period ≤ width)

/-- Whether START lies less than 10 µs in the future; FRAME_OUT and SAT_PPS routing ignore START. R325. -/
def State.armPast (s : State) (k clk start : Nat) : Bool :=
  k ≠ 5 && clk ≠ 3 && decide ((start : Int) < s.pulseClock clk + 10000)

/-- Output k armed with its programmed START, PERIOD and WIDTH. R325, R327. -/
def State.pulseArm (s : State) (k : Nat) : State :=
  let x := s.pulse k
  if s.armPast k x.clk x.start then s.modPulse k (fun x => { x with past := true })
  else s.modPulse k (fun x => { x with armed := true, next := x.start, armAfter := x.high })

/-- Output k disarmed: a pulse that has begun completes; one armed and not begun returns ABORTED. R327. -/
def State.pulseDisarm (s : State) (k : Nat) : State :=
  let x := s.pulse k
  if ¬ x.armed then s
  else
    (s.modPulse k (fun x => { x with armed := false, armAfter := false, abortedF := x.abortedF || !x.high })).disableRec
      .DIS_PULSE k 0 (b2n x.high) (b2n !x.high) k k

/-- A write of an output's CTRL word. The value 3 of CLK has a meaning for TPO0 only; another output keeps the clock it had (DESIGN CHOICE,
log 110). R328. -/
def State.pulseCtrl (s : State) (k : Nat) (v : Word) : State :=
  let n := v.toNat
  let clk : Nat := n / 2 % 4
  let s := s.modPulse k (fun x => { x with clk := if clk = 3 ∧ k ≠ 0 then x.clk else clk, pol := n.testBit 3 })
  if n.testBit 4 then s.pulseDisarm k
  else if n.testBit 0 ∧ ¬ armBad k clk (s.pulse k).period (s.pulse k).width then s.pulseArm k
  else s

/-! ### Steps (R309, R310, R315) -/

/-- The word halves of a 64-bit signed value. -/
def words64 (i : Int) : List Word :=
  let v := BitVec.ofInt 64 i
  [v.setWidth 32, (v >>> 32).setWidth 32]

/-- Clock n is stepped by e: the clock, the selected clock where it follows n, and the pulse outputs. R309, R315, R320. -/
def State.vcApplyStep (s : State) (n : Nat) : State :=
  let v := s.vc n
  let e := v.stepE
  let before := s.vcNow n
  let selBefore := s.sel
  let followed : Bool := decide (s.tmu.selVc = n)
  let s := s.setVc n { v with
    ofs := v.ofs + e
    stepArm := false
    stepPending := false
    stepAllowed := false
    stepE := 0
    stepGen := (v.stepGen + 1) % 16
    steps := v.steps + 1
    lastStepAt := some s.now
    lastOffAt := s.now
    recent := []
    qual := if v.srcPresent then 3 else v.qual
    lockSince := none }
  let s := if followed then
      let f := s.frame
      ({ s with
        tmu := { s.tmu with selGen := s.tmu.selGen + 1, pre := selBefore }
        frame := { f with
          stepAtFrame := none, renumberFrom := if f.running ∧ f.started ≠ 0 then some f.number else none
          stepHoldoff := if f.running ∧ f.started ≠ 0 then some (f.startRaw + 30000000) else none } }).pulsesStepped 0 (selBefore : Int)
        ((selBefore : Int) + e)
    else { s with tmu := { s.tmu with stepThisFrame := true } }
  let s := s.pulsesStepped (n + 1) before (before + e)
  (s.event .TIME_STEP ([wN n] ++ words64 e ++ words64 before ++ words64 (before + e))).clearAlarm .TIME_STEP_PENDING n

/-- The whole second at which a step of clock n is due: applied, deferred in HOLD, or waiting for 5 s after the last. -/
def State.vcStep (s : State) (n : Nat) : State :=
  if ¬ s.stepMay n then s
  else if s.stepBarred n then (s.modVc n (fun v => { v with stepPending := true })).raiseAlarm .TIME_STEP_PENDING n
  else s.vcApplyStep n

/-- TIME_STEP_ALLOW or CTRL.STEP_ALLOW names clock n: its pending step is released. R310. -/
def State.stepAllow (s : State) (n : Nat) : State :=
  let at_ : Option Nat := if s.tmu.selVc = n ∧ s.sys.mode = .hold ∧ (s.vc n).stepPending then some (s.frame.number + 2) else s.frame.stepAtFrame
  State.modVc { s with frame := { s.frame with stepAtFrame := at_ } } n (fun v =>
    if v.stepPending then { v with stepAllowed := true, stepArm := true } else v)

/-! ### The selected clock (R312–R315) -/

/-- The frame follows VC_j from this instant: d keeps the selected clock's value. R312, R313. -/
def State.switchVc (s : State) (j : Nat) : State :=
  let d : Int := (s.sel : Int) - s.vcNow j
  ({ s with tmu := { s.tmu with
      selVc := j, selD := ((d : Int) : Rat), selDRaw := s.raw, switchTo := none } }).event .TIME_FRAME_SWITCH
    [wN j, BitVec.ofInt 32 d]

/-- The clock the frame should follow, where that is another one. R313. -/
def State.wantVc (s : State) : Option Nat :=
  let k := s.tmu.selVc
  let j := 1 - k
  let go (n : Nat) : Option Nat := if n = k then none else some n
  if s.tmu.force = 1 then go 0
  else if s.tmu.force = 2 then go 1
  else if ¬ (s.vc k).present ∧ (s.vc j).present then some j
  else if k = 1 ∧ s.tmu.revert ∧ s.held s.tmu.vc0PresentSince (s.parNs .TMU_REVERT_TIME) then some 0
  else none

/-- The largest temperature change since entry to HOLDOVER. R292, R311. -/
def State.hoTemp (s : State) (n : Nat) : State :=
  s.modVc n (fun v => if v.qual = 2 then
    let d : Rat := absQ (s.keep.baseT - v.hoT)
    { v with hoDT := if v.hoDT < d then d else v.hoDT } else v)

/-- A switch of the frame's clock at a frame start, unless its target took a step in the frame before. R313, R315. -/
def State.frameSwitch (s : State) : State :=
  let s : State := { s with tmu := { s.tmu with vc0PresentSince := s.since s.tmu.vc0.present s.tmu.vc0PresentSince } }
  let s : State := match s.wantVc with
    | some j => if s.tmu.stepThisFrame then { s with tmu := { s.tmu with switchTo := some j } } else s.switchVc j
    | none => s
  { s with tmu := { s.tmu with stepThisFrame := false } }

/-- Whether the followed clock takes SAT at a frame start. One whose configured source is present and that only waits for its samples takes no
fallback, or its return would undo itself (log 113). R314. -/
def State.takesSat (s : State) : Bool :=
  let v := s.vc s.tmu.selVc
  !(s.vc 0).present && !(s.vc 1).present && s.tmu.fallbackSat && decide (s.sat.time.qual = 1 ∧ v.src ≠ .sat) && v.srcPresentAt.isNone

/-- The alarms of the followed clock at a frame start. R314, R330. -/
def State.frameTime (s : State) : State :=
  let k := s.tmu.selVc
  let v := s.vc k
  let kept : Bool := (v.fallback && s.satPresent) || (s.vc (1 - k)).present
  let s := if v.present then (s.clearAlarm .TIME_FRAME_HOLDOVER).clearAlarm .TIME_BOUND
    else if kept then s
    else s.raiseAlarm .TIME_FRAME_HOLDOVER
  if s.par .TMU_BOUND_ALARM * 1000 < s.vcBound k then s.raiseAlarm .TIME_BOUND else s

/-- The time unit at a frame start: a switch of the frame's clock, fallback to SAT, and the alarms of the followed clock. R311, R313–R315,
R330. -/
def State.tmuFrame (s : State) : State :=
  let s := ((s.hoTemp 0).hoTemp 1).frameSwitch
  let k := s.tmu.selVc
  let s := if s.takesSat then (s.modVc k (fun v => { v with fallback := true })).follow k .sat else s
  s.frameTime

/-- The configured source of a clock in fallback has been present for 10 s: it returns, as a master change. R314. -/
def State.fallbackReturn (s : State) (n : Nat) : State :=
  let v := s.vc n
  if v.fallback ∧ s.held v.srcPresentAt 10000000000 then
    ((s.modVc n (fun v => { v with fallback := false, src := s.vcCfgSrc n })).masterChange n v.gmId v.gmId).modVc n
      (fun x => { x with srcPresentAt := v.srcPresentAt })
  else s

/-! ### PTP (R316–R318) -/

/-- Whether one list of numbers comes before another. -/
def listBefore : List Nat → List Nat → Bool
  | a :: as, b :: bs => a < b || (a = b && listBefore as bs)
  | _, _ => false

/-- The clock identity of the unit (log 61). -/
def State.clockId (_ : State) : Dword := Config.clockIdentity

/-- The class, accuracy and traceable flag a grandmaster announces. R317; the accuracy codes of IEEE 1588 in holdover. -/
def State.gmAnnounce (s : State) : Nat × Nat × Bool :=
  let x := s.sat.time
  let b : Rat := s.hoBound x.b0 x.dTmax (((s.now - x.hoStart : Nat) : Rat) / 1000000000)
  let acc : Nat :=
    if b ≤ 25 then 0x20 else if b ≤ 100 then 0x21 else if b ≤ 250 then 0x22 else if b ≤ 1000 then 0x23
    else if b ≤ 2500 then 0x24 else if b ≤ 10000 then 0x25 else if b ≤ 25000 then 0x26 else if b ≤ 100000 then 0x27 else 0xFE
  if s.satPresent then (6, 0x21, true)
  else if x.qual = 2 then (if b ≤ s.par .TMU_GM_HO_LIMIT then (7, acc, true) else (52, 0xFE, false))
  else (248, 0xFE, false)

/-- The unit's role: 0 SLAVE_ONLY, 1 ORDINARY, 2 BOUNDARY, 3 GRANDMASTER; where none is configured, SLAVE_ONLY on unit W. R317, R332. -/
def State.ptpRole (s : State) : Nat :=
  match s.cfg.given.find? (fun e => decide (e.1 = (.TMU_PTP_ROLE, 0))) with
  | some e => natOf e.2
  | none => if s.red.unit = 2 then 0 else 1

/-- The unit's own data set for clock n, in comparison order. R317. -/
def State.ownSet (s : State) (n : Nat) : List Nat :=
  let a := if s.ptpRole = 3 then s.gmAnnounce else (248, 0xFE, false)
  [s.parN .TMU_PTP_PRIO1 n, a.1, a.2.1, 0xFFFF, s.parN .TMU_PTP_PRIO2 n, s.clockId.toNat, 0, 0]

/-- Announce receipt timeout from the interval of the unit's profile. R332. -/
def State.annTimeout (s : State) : Nat := s.parN .TMU_PTP_ANN_TIMEOUT * 2 ^ (s.parN .TMU_PTP_ANN_LOG) * 1000000000

/-- The BMCA for clock n: the best data set gives the port states, the master, and a master change where it is another. -/
def State.bmca (s : State) (n : Nat) : State :=
  if s.vcCfgSrc n ≠ .ptp then s
  else
    let v := s.vc n
    let role := s.ptpRole
    let top := v.best.foldl (fun (m : Option (Nat × Nat × List Nat)) e =>
      match m with
      | none => some e
      | some x => if listBefore e.2.2 x.2.2 then some e else some x) none
    let own := s.ownSet n
    let self : Bool := role ≠ 0 && (match top with
      | none => true
      | some e => listBefore own e.2.2)
    if self then
      let s := s.modVc n (fun v => { v with portState := [6, 6], gmClass := own.getD 1 0, gm := decide (role = 3) })
      let s := if v.gmId ≠ s.clockId then s.newMaster n s.clockId else s
      if role = 3 ∧ (s.vc n).src ≠ .sat then
        (s.modVc n (fun v => { v with discardNew := 0 })).follow n .sat
      else s
    else
      match top with
      | none => s.modVc n (fun v => { v with portState := [4, 4], gm := false, gmClass := 0 })
      | some e =>
        let other := if role = 2 then 6 else 7
        let id : Dword := BitVec.ofNat 64 (e.2.2.getD 5 0)
        let s := s.modVc n (fun v => { v with
          portState := if e.1 = 0 then [9, other] else [other, 9], gm := false, gmClass := e.2.2.getD 1 0, master := e.2.2.getD 7 0 })
        let s := if v.gm ∧ v.src = .sat ∧ ¬ v.fallback then s.follow n .ptp else s
        if v.gmId ≠ id ∨ v.portToMaster ≠ e.1 then
          (s.modVc n (fun v => { v with portToMaster := e.1 })).newMaster n id
        else s

/-- An Announce data set in comparison order. -/
def PtpAnnounce.set (m : PtpAnnounce) (port : Nat) : List Nat :=
  [m.prio1, m.cls, m.accuracy, m.variance, m.prio2, m.gmId.toNat, m.stepsRemoved + 1, m.sender, port]

/-- The mean path delay. R308. -/
def VcSt.pathDelay (v : VcSt) : Rat := meanQ v.delays

/-- The configured source of clock n has gone; a clock in fallback keeps SAT. -/
def State.cfgSrcLost (s : State) (n : Nat) : State :=
  if (s.vc n).fallback then s.modVc n (fun v => { v with srcPresentAt := none }) else s.srcLost n

/-- An Announce of the domain of clock n enters its data sets; a chosen master whose clockClass has become too high is no source. R307, R317. -/
def State.announce (s : State) (n port : Nat) (m : PtpAnnounce) : State :=
  if s.vcCfgSrc n ≠ .ptp ∨ s.parN .TMU_PTP_DOM n ≠ m.domain then s
  else
    let s := (s.modVc n (fun v => { v with
      best := (port, s.now, m.set port) :: v.best.filter (fun e => e.1 ≠ port || e.2.2.getD 7 0 ≠ m.sender)
      lastAnnounce := if v.portToMaster = port then s.now else v.lastAnnounce })).bmca n
    let s := s.modVc n (fun v => { v with relay := if v.master = m.sender ∧ v.portToMaster = port then some m else v.relay })
    if s.parN .TMU_PTP_MAX_CLASS < (s.vc n).gmClass ∧ (s.vc n).srcPresentAt.isSome ∧ ¬ (s.vc n).gm then s.cfgSrcLost n else s

/-- A Sync of the chosen master on its port, with the interval it announces. R307, R308. -/
def State.ptpSync (s : State) (n port dom sender : Nat) (log : Int) (origin : Nat) (corr : Rat) : State :=
  let v := s.vc n
  if s.vcCfgSrc n ≠ .ptp ∨ s.parN .TMU_PTP_DOM n ≠ dom ∨ v.portState.getD port 0 ≠ 9 ∨ sender ≠ v.master ∨
      s.parN .TMU_PTP_MAX_CLASS < v.gmClass then s
  else
    let e : Int := (origin : Int) + nearest (corr + v.pathDelay) - s.vcNow n
    let s := s.modVc n (fun v => { v with lastSync := s.now, syncLog := log, srcPresentAt := some (v.srcPresentAt.getD s.now) })
    if (s.vc n).fallback then s else s.vcSample n e

/-- What the unit announces for clock n on a port: its own data set as grandmaster, with GNSS's UTC offset once SAT has decoded it, or that of its
master one step further. R316, R317. -/
def State.annOut (s : State) (n port : Nat) : PtpAnnounce :=
  let id : Nat := s.clockId.toNat * 65536 + port + 1
  let a := if s.ptpRole = 3 then s.gmAnnounce else (248, 0xFE, false)
  let own : PtpAnnounce := {
    domain := s.parN .TMU_PTP_DOM n, prio1 := s.parN .TMU_PTP_PRIO1 n, cls := a.1, accuracy := a.2.1, variance := 0xFFFF
    prio2 := s.parN .TMU_PTP_PRIO2 n, gmId := s.clockId, stepsRemoved := 0, sender := id, traceable := a.2.2, utcOffset := s.tmu.utcOffset }
  if (s.vc n).portState.any (· = 9) then
    match (s.vc n).relay with
    | some m => { m with stepsRemoved := m.stepsRemoved + 1, sender := id }
    | none => own
  else own

/-! ### SAT and PPS_IN as sources (R307) -/

/-- A SAT_PPS edge gives every clock that follows SAT a sample, while SAT time is LOCKED or SLEWING. -/
def State.satEdge (s : State) : State :=
  if ¬ s.satPresent then s
  else (List.range 2).foldl (fun s n => if (s.vc n).src = .sat then s.vcSample n (s.satOffset n) else s) s

/-- SAT time is no longer present: the clocks that follow it lose their source. -/
def State.satGone (s : State) : State :=
  (List.range 2).foldl (fun s n => if (s.vc n).src = .sat then s.srcLost n else s) s

/-- The offset to the nearest whole second of a clock. -/
def secOffset (v : Int) : Int :=
  let r := v.emod 1000000000
  if r ≤ 500000000 then -r else 1000000000 - r

/-! ### Capture (R320, R321) -/

/-- A capture entry put into a FIFO of at most 256. R320. -/
def CapFifo.push (f : CapFifo) (e : CapEntry) : CapFifo × Bool :=
  if 256 ≤ f.q.length then ({ f with ovr := true, lost := true }, true)
  else ({ f with q := f.q ++ [{ e with overrun := f.lost }], lost := false }, false)

/-- FIFO f. -/
def State.capf (s : State) (f : Nat) : CapFifo := s.tmu.caps.getD f {}

/-- FIFO f changed. -/
def State.modCap (s : State) (f : Nat) (g : CapFifo → CapFifo) : State :=
  { s with tmu := { s.tmu with caps := s.tmu.caps.modify f g } }

/-- A capture of a source enters every FIFO it feeds. R320, R321, R332. -/
def State.capture (s : State) (source : Nat) (rising : Bool) : State :=
  let e : CapEntry := { ns := wN (s.sel % 2 ^ 32), source := source, rising := rising, raw := s.raw, gen := s.tmu.selGen }
  (List.range 8).foldl (fun s f =>
    if (s.parL .TMU_CAP_SOURCES f).contains (source : Rat) then
      let r := (s.capf f).push e
      let s := s.modCap f (fun _ => r.1)
      if r.2 then { s with tmu := { s.tmu with capOverrun := wSat s.tmu.capOverrun } } else s
    else s) s

/-- Whether an entry has stayed unread for more than 2 s of raw time. R320. -/
def State.capAged (s : State) (e : CapEntry) : Bool := e.aged || decide (e.raw + 2000000000 < s.raw)

/-- The word of DATA1. R328. -/
def State.data1 (s : State) (e : CapEntry) : Word :=
  wN (e.source + 2 ^ 16 * b2n e.rising + 2 ^ 24 * b2n e.aged + 2 ^ 25 * b2n (decide (e.gen ≠ s.tmu.selGen)) +
    2 ^ 26 * b2n e.overrun + 2 ^ 31)

/-- A read of DATA0 latches the oldest entry. R328. -/
def State.readData0 (s : State) (f : Nat) : Word × State :=
  let e := (s.capf f).q.head?.map (fun (x : CapEntry) => { x with aged := s.capAged x })
  let w : Word := match e with
    | some x => x.ns
    | none => 0
  (w, s.modCap f (fun c => { c with latched := e }))

/-- A read of DATA1 returns the latched entry and removes it. R328. -/
def State.readData1 (s : State) (f : Nat) : Word × State :=
  match (s.capf f).latched with
  | none => (0, s)
  | some e =>
    let s' := s.modCap f (fun c => { c with latched := none, q := c.q.tail })
    (s.data1 e, if e.aged then { s' with tmu := { s'.tmu with capAged := wSat s'.tmu.capAged } } else s')

/-! ### Extended reads (R319) -/

/-- Index of a requester's latches: APP-0, APP-1 and the partition. -/
def Who.latch : Who → Nat
  | .app0 => 0
  | .app1 => 1
  | _ => 2

/-- A read of a LO register, 0 SEL, 1 VC0, 2 VC1, 3 RAW: the low word, the high word latched for the requester. -/
def State.readLo (s : State) (who : Who) (which : Nat) : Word × State :=
  let v : Int := match which with
    | 0 => (s.sel : Int)
    | 1 => s.vcNow 0
    | 2 => s.vcNow 1
    | _ => (s.raw : Int)
  let w := words64 v
  let h := w.getD 1 0
  let upd (l : HiLatch) : HiLatch := match which with
    | 0 => { l with sel := h }
    | 1 => { l with vc0 := h }
    | 2 => { l with vc1 := h }
    | _ => { l with raw := h }
  (w.getD 0 0, { s with tmu := { s.tmu with hi := s.tmu.hi.modify who.latch upd } })

/-! ### Start, registers and points -/

/-- TMU_INCR clamped to 4.0 ns ± 50 ppm. R305. -/
def incrClamp (v : Word) : Word :=
  if v < 0x3FFF2E49 then 0x3FFF2E49 else if (0x4000D1B7 : Word) < v then 0x4000D1B7 else v

/-- TMU_INCR written: the count so far is kept. R305. -/
def State.setIncr (s : State) (v : Word) : State :=
  let s := s.rawAnchor
  { s with tmu := { s.tmu with raw := { s.tmu.raw with incr := incrClamp v } } }

/-- Parameters that lie in registers. R328, R332. -/
def State.tmuConfig (s : State) : State :=
  { s with tmu := { s.tmu with
      revert := s.parB .TMU_FRAME_REVERT, fallbackSat := s.parB .TMU_FALLBACK_SAT
      vc0 := { s.tmu.vc0 with tau := s.parN .TMU_SRV_TAU }, vc1 := { s.tmu.vc1 with tau := s.parN .TMU_SRV_TAU } } }

/-- KEEP's time now, where it offers one, and its uncertainty. spec/19 R557 is asked through these two. -/
structure KeptTime where
  time : Nat
  bound : Rat
  deriving DecidableEq, Repr

/-- A virtual clock as it starts: KEEP's time in HOLDOVER, or NONE. R311. -/
def State.startVc (s : State) (n : Nat) (k : Option KeptTime) : VcSt :=
  let v : VcSt := { src := s.vcCfgSrc n, tau := s.parN .TMU_SRV_TAU, portState := [4, 4], lastAnnounce := s.now }
  match k with
  | none => v
  | some t => { v with
      ofs := (t.time : Int) - (s.raw : Int), ref := s.raw, qual := 2, freeze := true, hoStart := s.now, b0 := t.bound, hoT := s.keep.baseT }

/-- PPS_OUT as TMU_PPS_OUT_SRC routes it: SAT_PPS, or each second of the selected clock. R325. -/
def State.ppsRoute (s : State) : State :=
  s.modPulse 0 (fun _ =>
    if s.parN .TMU_PPS_OUT_SRC = 0 then { clk := 3, armed := true }
    else
      let n : Nat := (s.sel / 1000000000 + 2) * 1000000000
      { start := n, period := 1000000000, armed := true, next := n })

/-- D9 comes up: the raw counter starts at zero with the factory trim, the clocks start from KEEP's time, and PPS_OUT takes
its routing. R304, R305, R311, R325. -/
def State.tmuUp (s : State) (k : Option KeptTime) : State :=
  let s := { s with tmu := { raw := { incr := incrClamp s.keep.trim, base := 0, baseAt := s.now } } }
  let s := s.tmuConfig
  let s := { s with tmu := { s.tmu with vc0 := s.startVc 0 k, vc1 := s.startVc 1 k } }
  let s := s.ppsRoute
  let s := (List.range 2).foldl (fun s n => if (s.vc n).qual = 2 then s.raiseAlarm .TIME_SRC_LOST n else s) s
  (List.range 2).foldl (fun s n => if (s.vc n).src = .sat ∧ s.satPresent then s.vcSample n (s.satOffset n) else s) s

/-- TMU_VC_SRC. R329. -/
def VcSt.srcCode (v : VcSt) : Nat := if v.fallback then 4 else v.src.code

/-- TMU_VC_FLAGS. R329. -/
def State.vcFlags (s : State) (n : Nat) : Nat :=
  let v := s.vc n
  b2n v.stepPending + 2 * b2n v.gm + 4 * b2n v.fallback + 8 * b2n (decide (s.tmu.force = n + 1))

/-- d now, signed ns. R312. -/
def State.selDiff (s : State) : Int := nearest (s.selDAt s.raw)

/-- The holdover bound in whole ns, saturating. -/
def State.vcBoundN (s : State) (n : Nat) : Nat := min (natOf (s.vcBound n)) (2 ^ 32 - 1)

/-- The points of the time unit. R329. -/
def tmuPoints (s : State) : List (Nat × PVal × Half) :=
  (List.range 2).flatMap (fun n =>
    let v := s.vc n
    let b := 2816 + 8 * n
    [(b, pvE v.qual, qGood), (b + 1, pvE v.srcCode, qGood), (b + 2, pvI v.lastOff, qGood),
      (b + 3, pvF (((v.rate : Int) : Rat) / ((2 ^ 40 : Nat) : Rat)), qGood), (b + 4, pvUs (s.vcBoundN n), qGood),
      (b + 5, pvU v.gmClass, qGood), (b + 6, pvX (s.vcFlags n), qGood), (b + 7, pvU v.steps.toNat, qGood),
      (2833 + 2 * n, pvE (v.portState.getD 0 0), qGood), (2834 + 2 * n, pvE (v.portState.getD 1 0), qGood)]) ++
  [(2832, pvI s.selDiff, qGood), (2837, pvU s.tmu.capOverrun.toNat, qGood), (2838, pvU s.tmu.capAged.toNat, qGood)]

end Sys2Proof.Machine
end

