-- ==== Sys2Proof/Machine/SatOps.lean ====
section
/-!
DEFINITION. The satellite receiver's operations: antennas, tracking channels, solutions with their integrity checks, SAT time
and the retained data (spec/09 R272–R301).
-/
namespace Sys2Proof.Machine

/-! ### What the spec leaves to the receiver: values of the solutions (log 62) -/

/-- Position of an antenna from an epoch's observations, by solution (0 RTK, 1 SBAS-aided), status and the corrections in use: north, east, down
in m. -/
opaque Config.satPos : Nat → Nat → List (SatSys × Nat) → List SatObs → List Rat
/-- Horizontal standard deviation of that position, m. -/
opaque Config.satSd : Nat → Nat → List (SatSys × Nat) → List SatObs → Rat
/-- Normalised residuals of a position solution, one for each observation. R286. -/
opaque Config.satResid : Nat → List SatObs → List Rat
/-- Horizontal protection level of a position solution, m. R285. -/
opaque Config.satHpl : Nat → List SatObs → Rat
/-- Heading, pitch, roll and the standard deviation of heading, from the observations of the attitude antennas. R283. -/
opaque Config.satAtt : List SatObs → List Rat
/-- The chi-square threshold for a number of satellites and a false-alarm probability. R285. -/
opaque Config.chiSquare : Nat → Rat → Rat
/-- Whether retained data place the receiver within a distance, km (R278 asks for a truth SAT does not hold). -/
opaque Config.satWithin : Nat → Nat → Bool

/-! ### Antennas (R273, R274) -/

/-- Antenna a, 1 to 4. -/
def State.ant (s : State) (a : Nat) : AntSt := s.sat.ants.getD (a - 1) {}

/-- ANT_STATE while the receiver runs or not: OFF, SHORT, EXCLUDED, OPEN, OK, in this order of precedence (log 112). R273, R284, R300. -/
def AntSt.shown (x : AntSt) (on : Bool) : Nat :=
  if !on then 0 else if x.shortAt.isSome then 3 else if x.excluded then 4 else if x.opened then 2 else if x.biasOn then 1 else 0

/-- An antenna with its ANT_STATE as its other fields and the receiver have it. -/
def State.antShow (s : State) (y : AntSt) : AntSt := { y with state := y.shown (decide (s.sat.state = 2 ∨ s.sat.state = 3)) }

/-- Antenna a changed, its ANT_STATE with it. -/
def State.modAnt (s : State) (a : Nat) (f : AntSt → AntSt) : State :=
  { s with sat := { s.sat with ants := s.sat.ants.modify (a - 1) (fun x => s.antShow (f x)) } }

/-- The antennas. -/
def antAll : List Nat := [1, 2, 3, 4]

/-- Whether an antenna's bias is commanded: SAT_ANT_BIAS over the parameter. R273, R302. -/
def State.biasWanted (s : State) (a : Nat) : Bool := ((s.ant a).biasCmd).getD (s.parB .SAT_ANT_BIAS a)

/-- A bias switched on or off. R273. -/
def State.setBias (s : State) (a : Nat) (on : Bool) : State :=
  s.modAnt a (fun x => { x with
    biasOn := on
    current := if on then x.current else 0
    opened := false
    openSince := none
    okSince := none
    shortAt := none })

/-- A bias current at an epoch: within limits it ends OPEN, and 10 s of it clears the alarms. R273, R301. -/
def State.biasSample (s : State) (a : Nat) (i : Rat) : State :=
  let x := s.ant a
  let ok : Bool := x.biasOn && decide (3 / 1000 ≤ i) && decide (i < 80 / 1000)
  let s := s.modAnt a (fun x => { x with
    current := i
    openSince := s.since (x.biasOn && decide (i < 3 / 1000)) x.openSince
    okSince := s.since ok x.okSince
    opened := x.opened && !ok })
  if s.held (s.ant a).okSince 10000000000 then (s.clearAlarm .ANT_OPEN a).clearAlarm .ANT_SHORT a else s

/-- The uses of an antenna: 0 off, 1 position, 2 attitude, 3 both. R303. -/
def State.antUse (s : State) (a : Nat) : Nat := s.parN .SAT_ANT_USE a

/-- The master antenna. R274. -/
def State.masterAnt (s : State) : Nat := s.parN .SAT_MASTER_ANT

/-- An antenna's configured position. R303. -/
def State.antPos (s : State) (a : Nat) : List Rat :=
  [s.par .SAT_ANT_X a, s.par .SAT_ANT_Y a, s.par .SAT_ANT_Z a]

/-- Whether an antenna's position is configured; it has no default. R303. -/
def State.antPlaced (s : State) (a : Nat) : Bool :=
  (s.par? .SAT_ANT_X a).isSome && (s.par? .SAT_ANT_Y a).isSome && (s.par? .SAT_ANT_Z a).isSome

/-- A vector of the END1 body frame in north, east and down, at heading, pitch and roll. R6, R274. -/
def bodyToNed (att v : List Rat) : List Rat :=
  let c := Config.cos (nth att 0)
  let n := Config.sin (nth att 0)
  let ct := Config.cos (nth att 1)
  let st := Config.sin (nth att 1)
  let cp := Config.cos (nth att 2)
  let sp := Config.sin (nth att 2)
  let y := cp * nth v 1 - sp * nth v 2
  let z := sp * nth v 1 + cp * nth v 2
  let x := ct * nth v 0 + st * z
  [c * x - n * y, n * x + c * y, ct * z - st * nth v 0]

/-- The square of the distance of two antennas. -/
def State.antDist2 (s : State) (a b : Nat) : Rat :=
  sumQ ((s.antPos a).zipWith (fun x y => (x - y) * (x - y)) (s.antPos b))

/-! ### Tracking channels (R275, R276) -/

/-- Whether a signal lies in the L1 band. R272. -/
def SatSig.isL1 : SatSig → Bool
  | .l1ca | .l1c | .e1 | .b1c | .sbasL1 => true
  | .l5 | .e5a | .b2a | .sbasL5 => false

/-- Whether a system sends a signal that SAT tracks. R272. -/
def SigId.valid (i : SigId) : Bool :=
  between 1 i.ant 4 && (match i.sys, i.sig with
    | .gps, .l1ca | .gps, .l1c | .gps, .l5 => true
    | .galileo, .e1 | .galileo, .e5a => true
    | .beidou, .b1c | .beidou, .b2a => true
    | .sbas, .sbasL1 | .sbas, .sbasL5 => true
    | _, _ => false)

/-- The order of a signal: 1 on the master, 2 L1 elsewhere, 3 L5 elsewhere. R276. -/
def State.sigOrder (s : State) (i : SigId) : Nat := if i.ant = s.masterAnt then 1 else if i.sig.isL1 then 2 else 3

/-- Whether signal a comes before signal b: order, then higher elevation. R276. -/
def State.sigBefore (s : State) (a b : SatChan) : Bool :=
  let x := s.sigOrder a.id
  let y := s.sigOrder b.id
  x < y || (x = y && x ≠ 1 && decide (b.elev < a.elev))

/-- The signal of lowest order in a channel. -/
def State.lowestChan (s : State) : Option SatChan :=
  s.sat.chans.foldl (fun (m : Option SatChan) c =>
    match m with
    | none => some c
    | some x => if s.sigBefore c x then some x else some c) none

/-- A signal found by acquisition is assigned a channel, or displaces the signal of lowest order. R275, R276. -/
def State.sigAcquired (s : State) (i : SigId) (elev : Rat) : State :=
  let c : SatChan := { id := i, elev := elev }
  let set (l : List SatChan) : State := { s with sat := { s.sat with chans := l } }
  if elev < s.par .SAT_ELEV_MASK ∨ (i.sys = .sbas ∧ i.ant ≠ s.masterAnt) then s
  else if s.sat.chans.any (fun x => x.id = i) then set (s.sat.chans.map (fun x => if x.id = i then c else x))
  else if s.sat.chans.length < 384 then set (s.sat.chans ++ [c])
  else
    match s.lowestChan with
    | none => s
    | some l => if s.sigBefore c l then set (s.sat.chans.filter (fun x => x.id ≠ l.id) ++ [c]) else s

/-- Satellites with a tracked signal on the master antenna. -/
def State.masterSats (s : State) : Nat :=
  let l := (s.sat.chans.filter (fun c => c.id.ant = s.masterAnt && c.lostAt.isNone && c.id.sys ≠ .sbas)).map (fun c => (c.id.sys, c.id.sv))
  l.eraseDups.length

/-! ### SAT time (R289–R296) -/

/-- The SAT time structure changed. -/
def State.modSt (s : State) (f : SatTime → SatTime) : State := { s with sat := { s.sat with time := f s.sat.time } }

/-- SAT_OCXO_CTRL: the correction in force; in holdover the last value with the learned drift. R290. -/
def State.ocxoNow (s : State) : Rat :=
  let x := s.sat.time
  if x.qual = 2 then x.ocxoCtrl + x.drift * (((s.now - x.hoStart : Nat) : Rat) / 1000000000) else x.ocxoCtrl

/-- SAT time anchored at its present value, with the OCXO's correction in force. -/
def State.satAnchor (s : State) : State :=
  let v := s.satTime
  let c := s.ocxoNow
  s.modSt (fun x => { x with base := v, baseAt := s.now, slewRate := 0, slewEnd := s.now, ocxoCtrl := c, hoStart := s.now })

/-- The remaining error of a slew, ns. -/
def State.slewLeft (s : State) : Rat :=
  let x := s.sat.time
  if x.qual = 3 then absQ x.slewRate * ((x.slewEnd - s.now : Nat) : Rat) else 0

/-- SAT_TIME_BOUND, ns: of LOCKED time the 3 standard deviations with which R292 enters HOLDOVER, of no time all ones (log 112). R291, R292. -/
def State.satBound (s : State) : Rat :=
  let x := s.sat.time
  match x.qual with
  | 0 => 4294967295
  | 2 => s.hoBound x.b0 x.dTmax (((s.now - x.hoStart : Nat) : Rat) / 1000000000)
  | 3 => s.slewLeft + 3 * x.sd
  | _ => 3 * x.sd

/-- A step that will not happen is recorded with the flag ABANDONED. R296. -/
def State.abandonStep (s : State) : State :=
  match s.sat.time.stepDue with
  | none => s
  | some d => (s.modSt (fun x => { x with stepDue := none })).event .TIME_STEP ([2] ++ words64 d.2 ++ [1])

/-- SAT time enters HOLDOVER with a bound. R292. -/
def State.satHold (s : State) (b0 : Rat) : State :=
  let s := s.abandonStep.satAnchor
  let was := s.sat.time.qual
  let s := s.modSt (fun x => { x with
    qual := 2, hoStart := s.now, b0 := b0, tEntry := s.keep.baseT, dTmax := 0, confirmSince := none, offsets := [], lastOff := none })
  (if was = 1 ∨ was = 3 then s.satGone else s).raiseAlarm .SAT_HOLDOVER

/-- Loss of the signals, or a check that fails: HOLDOVER, with the remaining error of a slew in the bound. R292, R296. -/
def State.satLose (s : State) : State :=
  let x := s.sat.time
  if x.qual = 1 then s.satHold (3 * x.sd)
  else if x.qual = 3 then s.satHold (s.slewLeft + 3 * x.sd)
  else (s.abandonStep).modSt (fun x => { x with confirmSince := none, offsets := [] })

/-- SAT time is LOCKED. R293, R301. -/
def State.satLocked (s : State) : State :=
  (s.satAnchor.modSt (fun x => { x with qual := 1, held := none, lastUpdate := s.now, lastOff := none, confirmSince := none, offsets := [] })).clearAlarm
    .SAT_HOLDOVER

/-- The error e is taken: a slew within 50 µs, else a step at the next whole second. R293. -/
def State.satTake (s : State) (e : Int) : State :=
  if e.natAbs ≤ 50000 then
    let s := s.satAnchor
    let r : Rat := if e < 0 then -1 / 100000 else 1 / 100000
    s.modSt (fun x => { x with qual := 3, slewRate := r, slewEnd := s.now + e.natAbs * 100000, held := none, lastUpdate := s.now, stepDue := none })
  else
    s.modSt (fun x => { x with stepDue := some (s.now + (1000000000 - s.satTime % 1000000000), e), held := none })

/-- The decision after the confirmation. R293. -/
def State.satReturn (s : State) (e : Int) : State :=
  let gate := s.par .SAT_RETURN_GATE * s.satBound
  let a : Rat := ((e.natAbs : Nat) : Rat)
  let s := s.modSt (fun x => { x with err := e })
  if e.natAbs ≤ 50000 then
    let s := if gate < a then s.event .TIME_BOUND_EXCEEDED (words64 e) else s.clearAlarm .TIME_INCONSISTENT
    s.satTake e
  else if a ≤ gate then (s.clearAlarm .TIME_INCONSISTENT).satTake e
  else (s.modSt (fun x => { x with held := some e })).raiseAlarm .TIME_INCONSISTENT

/-- SAT time steps by e at its whole second. R294. -/
def State.satStep (s : State) (e : Int) : State :=
  let before := s.satTime
  let after : Nat := ((before : Int) + e).toNat
  let s := s.modSt (fun x => { x with
    base := after, baseAt := s.now, slewRate := 0, slewEnd := s.now, stepDue := none, lastStep := e
    ppsSuppressUntil := some ((after + 1000000000 + 999999999) / 1000000000 * 1000000000) })
  (s.event .TIME_STEP ([2] ++ words64 e ++ words64 before ++ words64 after)).satLocked

/-- The clock check between consecutive epochs. R288. -/
def State.clockCheckFails (s : State) (off : Int) (f : Rat) (shares : Bool) : Bool :=
  match s.sat.time.lastOff with
  | none => false
  | some (_, o, g) =>
    !shares && (decide (s.parN .SAT_CLK_JUMP < (off - o).natAbs) || decide (s.par .SAT_CLK_FJUMP / 1000000000 < absQ (f - g)))

/-- The interval of the epochs, ns. R279, R303. -/
def State.epochNs (s : State) : Nat := 1000000000 / max 1 (s.parN .SAT_RATE)

/-- Whether a new offset agrees with those of the confirmation within 100 ns. R293. -/
def offsetsAgree (l : List (Nat × Int)) (off : Int) : Bool := l.all (fun e => decide ((e.2 - off).natAbs ≤ 100))

/-- TAI of a system's time: GPS and Galileo plus 19 s, BeiDou plus 33 s; SBAS gives no time. R289. -/
def taiOf (g : SatSys × Nat) : Option Nat :=
  match g.1 with
  | .gps | .galileo => some (g.2 + 19000000000)
  | .beidou => some (g.2 + 33000000000)
  | .sbas => none

/-- An epoch that gives no time: the next is not consecutive to the one before, and a confirmation starts again. R288, R293. -/
def State.satTimeMiss (s : State) : State := s.modSt (fun x => { x with lastOff := none, confirmSince := none, offsets := [] })

/-- A GNSS time offset of an epoch whose RAIM passed. R288, R290, R292, R293. -/
def State.satTimeEpoch (s : State) (off : Int) (f sd : Rat) (shares : Bool) : State :=
  let x := s.sat.time
  match x.qual with
  | 0 =>
    if s.sat.spoofLatched then s
    else
      let v : Nat := ((s.satTime : Int) + off).toNat
      (s.modSt (fun x => { x with base := v, baseAt := s.now, slewEnd := s.now, sd := sd })).satLocked
  | 1 =>
    if s.clockCheckFails off f shares then
      ((s.satHold (3 * x.sd)).modSt (fun x => { x with latchedHold := true, held := some off })).raiseAlarm .TIME_INCONSISTENT
    else
      let (c, s) := s.freeQ
      let (d, s) := s.freeQ
      s.modSt (fun x => { x with lastUpdate := s.now, sd := sd, lastOff := some (s.now, off, f), ocxoCtrl := c, drift := d })
  | 3 => s.modSt (fun x => { x with lastUpdate := s.now, sd := sd })
  | _ =>
    if s.sat.spoofLatched then s
    else if x.latchedHold then s.modSt (fun x => { x with held := some off, sd := sd })
    else
      let ok := offsetsAgree x.offsets off && x.offsets.head?.any (fun e => decide (s.now < e.1 + 2 * s.epochNs))
      s.modSt (fun x => { x with
        sd := sd
        held := x.held.map (fun _ => off)
        offsets := if ok then (s.now, off) :: x.offsets else [(s.now, off)]
        confirmSince := if ok then some (x.confirmSince.getD s.now) else some s.now })

/-! ### Solutions (R279–R286) -/

/-- Satellites of a list of observations. -/
def satsOf (l : List SatObs) : List (SatSys × Nat) := (l.map (fun o => (o.id.sys, o.id.sv))).eraseDups

/-- The observations of a solution on an antenna: used, not excluded, of its systems. R279, R286. -/
def State.solObs (s : State) (kind ant : Nat) (obs : List SatObs) : List SatObs :=
  obs.filter (fun o => o.used && o.id.ant = ant && !s.sat.excluded.contains (o.id.sys, o.id.sv) &&
    (match o.id.sys with
     | .gps => true
     | .galileo => true
     | .beidou => kind = 0
     | .sbas => false))

/-- The sum of squared residuals against the threshold. R285. -/
def State.raimPass (s : State) (kind : Nat) (l : List SatObs) : Bool :=
  decide (sumQ ((Config.satResid kind l).map (fun r => r * r)) ≤ Config.chiSquare (satsOf l).length (s.par .SAT_RAIM_PFA))

/-- The satellite with the largest normalised residual. R286. -/
def worstSat (kind : Nat) (l : List SatObs) : Option (SatSys × Nat) :=
  ((l.zip (Config.satResid kind l)).foldl (fun (m : Option (SatObs × Rat)) e =>
    match m with
    | none => some e
    | some x => if absQ x.2 < absQ e.2 then some e else some x) none).map (fun e => (e.1.id.sys, e.1.id.sv))

/-- What RAIM says of a solution: too few satellites to test it, a failure, or the observations that pass and how many satellites were excluded.
R285, R286. -/
inductive Raim where
  | untested
  | failed
  | passed (l : List SatObs) (excl : Nat)
  deriving DecidableEq, Repr

/-- RAIM with exclusion. R285, R286. -/
def State.raim (s : State) (kind : Nat) : Nat → Nat → List SatObs → Raim
  | 0, _, _ => .failed
  | fuel + 1, k, l =>
    if (satsOf l).length < 5 then .untested
    else if s.raimPass kind l then .passed l k
    else if (satsOf l).length < 6 ∨ s.parN .SAT_RAIM_MAX_EXCL ≤ k then .failed
    else
      match worstSat kind l with
      | none => .failed
      | some w => s.raim kind fuel (k + 1) (l.filter (fun o => (o.id.sys, o.id.sv) ≠ w))

/-- The systems whose corrections are not older than SAT_RTK_MAX_AGE. R282. -/
def State.corrNow (s : State) : List (SatSys × Nat) := s.sat.corrSys.filter (fun e => !s.past e.2 (s.parNs .SAT_RTK_MAX_AGE + 1))

/-- Whether an RTK solution has corrections: the station's position and current observations. R282. -/
def State.corrCurrent (s : State) : Bool := s.sat.stationKnown && !s.corrNow.isEmpty

/-- Whether SBAS corrections are received: an SBAS signal is used on the master. -/
def State.sbasCurrent (s : State) (obs : List SatObs) : Bool :=
  obs.any (fun o => o.used && o.id.ant = s.masterAnt && o.id.sys = .sbas && !s.sat.excluded.contains (o.id.sys, o.id.sv))

/-- The status of the RTK solution: with corrections DGNSS, RTK_FLOAT or RTK_FIXED by its ambiguities. R279. -/
def State.rtkStatus (s : State) (amb : Nat) (obs : List SatObs) : Nat :=
  if s.corrCurrent then 3 + min amb 2 else if s.sbasCurrent obs then 2 else 1

/-- The antennas used for attitude at this epoch: used for it, placed, not excluded, with four satellites (log 112). R283. -/
def State.attAnts (s : State) (obs : List SatObs) : List Nat :=
  antAll.filter (fun a => 2 ≤ s.antUse a && s.antPlaced a && !(s.ant a).excluded && 4 ≤ (satsOf (obs.filter (fun o => o.used && o.id.ant = a))).length)

/-- Whether two of the antennas stand at least 2 m apart. R283. -/
def State.attPair (s : State) (l : List Nat) : Bool := l.any (fun a => l.any (fun b => a ≠ b && decide (4 ≤ s.antDist2 a b)))

/-- Whether three of the antennas, two of their baselines usable, are not collinear. R283. -/
def State.attTriple (s : State) (l : List Nat) : Bool :=
  let d (a b i : Nat) : Rat := nth (s.antPos b) i - nth (s.antPos a) i
  let far (a b : Nat) : Bool := decide (4 ≤ s.antDist2 a b)
  l.any (fun a => l.any (fun b => far a b && l.any (fun c => far a c && (
    d a b 1 * d a c 2 - d a b 2 * d a c 1 ≠ 0 || d a b 2 * d a c 0 - d a b 0 * d a c 2 ≠ 0 || d a b 0 * d a c 1 - d a b 1 * d a c 0 ≠ 0))))

/-- Whether EST_ORIGIN is configured. R280. -/
def State.originSet (s : State) : Bool := (s.par? .EST_ORIGIN_LAT).isSome && (s.par? .EST_ORIGIN_LON).isSome

/-- A position block written at its five points; without an origin its three positions are BAD. R280, R281. -/
def State.posBlock (s : State) (p : Nat) (b : SatBlock) : State :=
  let q : Half := if b.withdrawn then qBad ||| rWithdrawn else if b.good then qGood else qBad
  let qp : Half := if s.originSet then q else q ||| qBad
  s.publish b.epochT [(p, pvF (nth b.v 0), qp), (p + 1, pvF (nth b.v 1), qp), (p + 2, pvF (nth b.v 2), qp), (p + 3, pvE b.status, q),
    (p + 4, pvF b.sd, q)]

/-- The attitude block; pitch and roll are BAD where the antennas give no plane. R283. -/
def State.attBlock (s : State) (b : SatBlock) (plane : Bool) : State :=
  let q : Half := if b.withdrawn then qBad ||| rWithdrawn else if b.good then qGood else qBad
  let q2 : Half := if plane then q else q ||| qBad
  s.publish b.epochT [(2700, pvF (nth b.v 0), q), (2701, pvF (nth b.v 1), q2), (2702, pvF (nth b.v 2), q2), (2703, pvE b.status, q),
    (2704, pvF b.sd, q)]

/-- Every solution withdrawn. R281. -/
def State.satWithdraw (s : State) : State :=
  let w (b : SatBlock) : SatBlock := { b with good := false, withdrawn := true, status := 0 }
  let s := { s with sat := { s.sat with rtk := w s.sat.rtk, sbas := w s.sat.sbas, att := w s.sat.att } }
  ((s.posBlock 2690 s.sat.rtk).posBlock 2695 s.sat.sbas).attBlock s.sat.att true

/-- A position solution of an epoch from an antenna, `lever` the master's place from it in north, east and down: the block, what RAIM said, and
the protection level. R274, R279, R285, R286. -/
def State.posSol (s : State) (kind ant epochT amb : Nat) (lever : List Rat) (obs : List SatObs) : SatBlock × Raim × Option Rat :=
  match s.raim kind 4 0 (s.solObs kind ant obs) with
  | .passed l k =>
    let hpl := Config.satHpl kind l
    let lim := if kind = 0 then s.par .SAT_HAL_RTK else s.par .SAT_HAL_SBAS
    let bad : Bool := decide (lim < hpl) || s.sat.spoofLatched
    let st : Nat := if kind = 0 then s.rtkStatus amb obs else if s.sbasCurrent obs then 2 else 1
    let corr := if s.sat.stationKnown then s.corrNow else []
    ({ v := (Config.satPos kind st corr l).zipWith (· + ·) lever, sd := Config.satSd kind st corr l, status := if bad then 0 else st
       good := !bad, withdrawn := bad, epochT := epochT }, .passed l k, some hpl)
  | r => ({ epochT := epochT, withdrawn := true }, r, none)

/-- Whether antenna a delivers a fix at this epoch: satellites enough to test a solution (log 112). R274, R286. -/
def State.antFix (s : State) (a : Nat) (obs : List SatObs) : Bool := 5 ≤ (satsOf (s.solObs 0 a obs)).length

/-- Whether RAIM passed. -/
def Raim.pass : Raim → Bool
  | .passed _ _ => true
  | _ => false

/-- The satellites RAIM excluded. -/
def Raim.excl : Raim → Nat
  | .passed _ k => k
  | _ => 0

/-- The alarm of exclusions. R285, R301. -/
def State.exclAlarm (s : State) (excl : Bool) : State :=
  if excl then State.raiseAlarm { s with sat := { s.sat with raimExclAt := some s.now } } .SAT_RAIM_EXCL
  else if s.held s.sat.raimExclAt 60000000000 then s.clearAlarm .SAT_RAIM_EXCL else s

/-- An alarm raised by a condition at an epoch and cleared after ten epochs on end without it. R301. -/
def State.epochAlarm (s : State) (e : EvCode) (bad : Bool) (run : Nat) : State :=
  if bad then s.raiseAlarm e else if 10 ≤ run then s.clearAlarm e else s

/-- The alarms of RAIM and of the protection level from the two position solutions. R285, R301. -/
def State.raimAlarms (s : State) (x y : SatBlock × Raim × Option Rat) : State :=
  let fail : Bool := x.2.1 = .failed || y.2.1 = .failed
  let pass : Bool := !fail && (x.2.1.pass || y.2.1.pass)
  let above : Bool := x.2.2.any (fun h => decide (s.par .SAT_HAL_RTK < h)) || y.2.2.any (fun h => decide (s.par .SAT_HAL_SBAS < h))
  let s := s.exclAlarm (decide (0 < x.2.1.excl) || decide (0 < y.2.1.excl))
  let s := { s with sat := { s.sat with
      raimPassRun := if pass then s.sat.raimPassRun + 1 else 0
      hplOkRun := if above then 0 else if pass then s.sat.hplOkRun + 1 else s.sat.hplOkRun } }
  (s.epochAlarm .SAT_RAIM_FAIL fail s.sat.raimPassRun).epochAlarm .SAT_HPL above s.sat.hplOkRun

/-- Baselines of an epoch against the configured ones. R284. -/
def State.geomCheck (s : State) (bl : List (Nat × Nat × Rat)) : State :=
  antAll.foldl (fun s a =>
    let mine := bl.filter (fun e => e.1 = a || e.2.1 = a)
    let off (e : Nat × Nat × Rat) : Bool :=
      decide (s.par .SAT_BASE_TOL < absQ (e.2.2 - Config.sqrt (s.antDist2 e.1 e.2.1)))
    if mine.isEmpty then s
    else
      let bad := mine.all off
      let s := s.modAnt a (fun x => { x with
        geomSince := s.since bad x.geomSince, geomOkSince := s.since (!bad) x.geomOkSince })
      if s.alarmOn .ANT_GEOMETRY a ∧ s.held (s.ant a).geomOkSince 60000000000 then
        (s.modAnt a (fun x => { x with excluded := false })).clearAlarm .ANT_GEOMETRY a
      else s) s

/-- An epoch without a FIXED attitude ends the intervals of the comparison. R284. -/
def State.geomMiss (s : State) : State :=
  antAll.foldl (fun s a => s.modAnt a (fun x => { x with geomSince := none, geomOkSince := none })) s

/-! ### Retained data (R298) -/

/-- Retained data written with a new generation: the position, the drift, and the rest where asked; nothing in a wake that has no fix yet. R297,
R298. -/
def State.satWrite (s : State) (pos drift rest : Bool) : State :=
  let x := s.sat
  let r := x.retained
  if x.wake.isSome && !x.wakeFix then s
  else
    { s with sat := { x with
        posWrittenAt := if pos then s.now else x.posWrittenAt, driftWrittenAt := if drift then s.now else x.driftWrittenAt
        retained := {
          gen := r.gen + 1, ok := true
          pos := if pos then x.lastPos else r.pos
          drift := if drift then x.time.drift else r.drift
          ephem := if rest then x.ephem else r.ephem
          almanacAt := if rest then x.almanacAt else r.almanacAt
          sbas := if rest && decide (x.sbas.status = 2) then some s.satTime else r.sbas
          time := if rest && decide (x.time.qual ≠ 0) then some (s.satTime, natOf s.satBound) else r.time } } }

/-- All of the retained data written. R298. -/
def State.satRetain (s : State) : State := s.satWrite true true true

/-- Ephemerides decoded replace the older ones of their satellites. R278. -/
def mergeEphem (old new : List (SatSys × Nat × Nat)) : List (SatSys × Nat × Nat) :=
  new ++ old.filter (fun e => !new.any (fun n => n.1 = e.1 && n.2.1 = e.2.1))

/-! ### An epoch -/

/-- What an epoch decodes and measures beside its solutions: bias currents, ephemerides, almanac and UTC offset. R273, R278, R282, R317. -/
def State.epochTake (s : State) (o : EpochObs) : State :=
  let s := o.bias.foldl (fun s e => s.biasSample e.1 e.2) s
  let s := { s with sat := { s.sat with
      ephem := mergeEphem s.sat.ephem o.ephem
      almanacAt := match o.almanac with
        | some a => some a
        | none => s.sat.almanacAt
      corrStale := s.held s.sat.corrAt (s.parNs .SAT_RTK_MAX_AGE + 1) } }
  let s := if o.ephem.isEmpty then s else s.satRetain
  match o.utcOffset with
  | some u => { s with tmu := { s.tmu with utcOffset := some u } }
  | none => s

/-- The antenna whose fix gives the master's position, and the master's place from it: the master itself, or another one with the attitude of the
epoch, three antennas giving it pitch and roll (log 112). R274. -/
def State.posFrom (s : State) (o : EpochObs) (atts : List Nat) (att : SatBlock) : Option (Nat × List Rat) :=
  let m := s.masterAnt
  if s.antFix m o.obs then some (m, [0, 0, 0])
  else
    match antAll.find? (fun a => a ≠ m && s.antUse a % 2 = 1 && s.antPlaced a && s.antPlaced m && s.antFix a o.obs) with
    | none => none
    | some a =>
      if att.good && s.attTriple atts then some (a, bodyToNed att.v ((s.antPos m).zipWith (· - ·) (s.antPos a))) else none

/-- The time of an epoch: taken where RAIM failed in no solution and passed in one; else missed, and a failure or the loss of the signals ends a
slew or a decided step. R285, R292, R296. -/
def State.epochTime (s : State) (o : EpochObs) (x y : Raim) : State :=
  let fail : Bool := x = .failed || y = .failed
  match (if !fail && (x.pass || y.pass) then o.gnss.bind taiOf else none) with
  | some t => s.satTimeEpoch ((t : Int) - o.epochS) o.freqOffset o.timeSd o.ocxoShares
  | none => if s.sat.time.qual ≠ 1 ∧ (fail || x = .untested) then s.satLose else s.satTimeMiss

/-- An epoch of the receiver at a whole multiple of its interval, at most 30 ms ago. R273, R279–R293. -/
def State.satEpoch (s : State) (o : EpochObs) : State :=
  if o.epochS % s.epochNs ≠ 0 ∨ s.satTime < o.epochS ∨ o.epochS + 30000000 < s.satTime then s
  else
    let epochT := s.selAt (s.raw - (s.satTime - o.epochS))
    let s := s.epochTake o
    let atts := s.attAnts o.obs
    let av := Config.satAtt (o.obs.filter (fun x => x.used && atts.contains x.id.ant))
    let attOk : Bool := s.attPair atts && decide (0 < o.attAmb) && !s.sat.spoofLatched
    let att : SatBlock := { v := wrap2Pi (nth av 0) :: (av.drop 1).take 2, sd := nth av 3, status := if attOk then min o.attAmb 2 else 0
                            good := attOk, withdrawn := !attOk, epochT := epochT }
    let pf : Option (Nat × List Rat) := s.posFrom o atts att
    let sol (kind : Nat) : SatBlock × Raim × Option Rat :=
      match pf with
      | none => ({ epochT := epochT, withdrawn := true }, .untested, none)
      | some (a, lever) => s.posSol kind a epochT o.rtkAmb lever o.obs
    let r := sol 0
    let b := sol 1
    let fix : Bool := 1 ≤ r.1.status || 1 ≤ b.1.status
    let tracked : Bool := s.sat.chans.any (fun c => c.lostAt.isNone)
    let s := { s with sat := { s.sat with
        rtk := r.1, sbas := b.1, att := att, hplRtk := r.2.2, hplSbas := b.2.2
        svUsed := match r.2.1 with
          | .passed l _ => (satsOf l).length
          | _ => 0
        masterSubst := match pf with
          | some e => decide (e.1 ≠ s.masterAnt)
          | none => false
        state := if fix then 3 else if tracked then s.sat.state else 2
        wakeFix := s.sat.wakeFix || fix
        lastPos := if 1 ≤ r.1.status then some (r.1.v, s.satTime) else if fix then some (b.1.v, s.satTime) else s.sat.lastPos } }
    let s := s.raimAlarms r b
    let s := ((s.posBlock 2690 r.1).posBlock 2695 b.1).attBlock att (s.attTriple atts)
    let s := if att.status = 2 then s.geomCheck o.baseline else s.geomMiss
    s.epochTime o r.2.1 b.2.1

/-! ### The checks of each second (R285, R287) -/

/-- Whether two carrier phase differences agree, modulo one cycle, to within 0.05 cycles. R287. -/
def phaseNear (x y : PairSat) : Bool :=
  let d := x.phase - y.phase
  decide (absQ (d - (nearest d : Rat)) ≤ 1 / 20)

/-- The cosine of 20°, to 15 decimals (log 4). -/
def cos20 : Rat := 939692620785908 / 1000000000000000

/-- Whether two broadcast directions differ by more than 20°. R287. -/
def apart20 (x y : PairSat) : Bool := decide (sumQ (x.dir.zipWith (· * ·) y.dir) < cos20)

/-- Whether `n` satellites of a list lie more than 20° from one another and from those chosen. R287. -/
def spread20 : Nat → List PairSat → List PairSat → Bool
  | 0, _, _ => true
  | _ + 1, _, [] => false
  | n + 1, chosen, x :: l => (chosen.all (apart20 x) && spread20 n (x :: chosen) l) || spread20 (n + 1) chosen l

/-- Whether a pair of antennas sees one direction where the broadcast gives several: a common direction of arrival gives every satellite one phase
difference. R287. -/
def State.pairAgrees (s : State) (o : PairObs) : Bool :=
  let min := s.parN .SAT_SPOOF_MIN
  decide (min ≤ o.sats.length) && decide (1 ≤ s.antDist2 o.a o.b) &&
    o.sats.any (fun r => spread20 min [] (o.sats.filter (phaseNear r)))

/-- The seconds for which each pair has agreed, with a second more. R287. -/
def State.spoofRuns (s : State) (l : List PairObs) : List (Nat × Nat) :=
  (l.filter s.pairAgrees).map (fun o => let k := 10 * o.a + o.b; (k, (assoc s.sat.spoofRun k).getD 0 + 1))

/-- A value by antenna and band. -/
def bandVal (l : List (Nat × Nat × Rat)) (a b : Nat) : Option Rat := (l.find? (fun e => e.1 = a && e.2.1 = b)).map (fun e => e.2.2)

/-- A history of 10 minutes, one entry a second. -/
def hist10 (now : Nat) (l : List (Nat × Rat × Rat)) (x y : Rat) : List (Nat × Rat × Rat) :=
  (now, x, y) :: l.filter (fun e => now < e.1 + 600000000000)

/-- Interference on an antenna: the gain has stayed below its median by more than SAT_AGC_DROP for 1 s, or C/N0 fell by more
than 10 dB. R285. -/
def State.antSecond (s : State) (a : Nat) (o : SecondObs) : Bool × State :=
  let x := s.ant a
  let g (b : Nat) : Rat := (bandVal o.agc a b).getD 0
  let c (b : Nat) : Rat := (bandVal o.cn0 a b).getD 0
  let med (l : List (Nat × Rat × Rat)) (b : Nat) : Rat := median (l.map (fun e => if b = 0 then e.2.1 else e.2.2))
  let lowG (b : Nat) : Bool :=
    (bandVal o.agc a b).isSome && !x.agc.isEmpty && decide (g b < med x.agc b - s.par .SAT_AGC_DROP)
  let lowC (b : Nat) : Bool := (bandVal o.cn0 a b).isSome && !x.cn0.isEmpty && decide (c b < med x.cn0 b - 10)
  let since (b : Nat) : Option Nat := s.since (lowG b) (assoc x.agcLowSince b)
  let jam : Bool := lowC 0 || lowC 1 || s.held (since 0) 1000000000 || s.held (since 1) 1000000000
  let keep (b : Nat) : List (Nat × Nat) := match since b with
    | some t => [(b, t)]
    | none => []
  (jam, s.modAnt a (fun x => { x with
    agc := if (bandVal o.agc a 0).isSome || (bandVal o.agc a 1).isSome then hist10 s.now x.agc (g 0) (g 1) else x.agc
    cn0 := if (bandVal o.cn0 a 0).isSome || (bandVal o.cn0 a 1).isSome then hist10 s.now x.cn0 (c 0) (c 1) else x.cn0
    cn0L1 := c 0, cn0L5 := c 1, agcLowSince := keep 0 ++ keep 1 }))

/-- The checks of a second. -/
def State.satSecond (s : State) (o : SecondObs) : State :=
  let s := { s with sat := { s.sat with spoofRun := s.spoofRuns o.pairs } }
  let s := if s.sat.spoofRun.any (fun e => 3 ≤ e.2) ∧ ¬ s.sat.spoofLatched then
      let s := State.satWithdraw { s with sat := { s.sat with spoofLatched := true } }
      (s.satLose.modSt (fun x => { x with held := none })).raiseAlarm .SAT_SPOOF
    else s
  let r := antAll.foldl (fun (acc : Bool × State) a =>
    let x := acc.2.antSecond a o
    (acc.1 || x.1, x.2)) (false, s)
  let s := r.2
  if r.1 then State.raiseAlarm { s with sat := { s.sat with jamLast := some s.now } } .SAT_JAMMING
  else
    match s.sat.jamLast with
    | none => s
    | some a => if s.past a 10000000000 then s.clearAlarm .SAT_JAMMING else s

/-! ### Start and stop (R278, R296) -/

/-- How many retained ephemerides are younger than 4 h at a time. -/
def freshEphem (l : List (SatSys × Nat × Nat)) (t age : Nat) : Nat := (l.filter (fun e => decide (t < e.2.2 + age))).length

/-- The type of start that retained data and the given time allow. R278. -/
def State.satStartType (s : State) (t : Nat) (bound : Option Rat) : SatStart :=
  let r := s.sat.retained
  match bound with
  | none => .cold
  | some b =>
    if ¬ r.ok then .cold
    else if 6 ≤ freshEphem r.ephem t 14400000000000 ∧ r.pos.isSome ∧ Config.satWithin 10 r.gen ∧ b ≤ 1000000 then .hot
    else
      match r.almanacAt with
      | none => .cold
      | some a => if t < a + 2592000000000000 ∧ r.pos.isSome ∧ Config.satWithin 100 r.gen ∧ b ≤ 10000000000 then .warm else .cold

/-- The receiver starts with a type: what of the retained data it takes. R298. -/
def State.satBegin (s : State) (ty : SatStart) : State :=
  let r : SatRetained := if s.sat.retained.ok then s.sat.retained else { gen := s.sat.retained.gen, ok := false }
  { s with sat := { s.sat with
      state := 2, start := ty, startedAt := s.now, chans := []
      ephem := if ty = .hot then r.ephem else []
      almanacAt := if ty = .cold then none else r.almanacAt
      lastPos := if ty = .cold then none else r.pos
      retained := match ty with
        | .hot => r
        | .warm => { r with ephem := [] }
        | .cold => { r with ephem := [], almanacAt := none, pos := none, sbas := none, time := none } } }

/-- The uncertainty of KEEP's time now: the bound at calibration, 1 µs and 0.2 ppm. R557. -/
def State.keepBound (s : State) : Rat :=
  (s.keep.tk.bound : Rat) + 1000 + ((s.now - s.keep.tk.at_ : Nat) : Rat) * 2 / 10000000

/-- KEEP's time, where it offers one. R557. -/
def State.keptTime (s : State) : Option KeptTime :=
  s.keep.tk.time.map (fun a => { time := a + (s.now - s.keep.tk.at_), bound := s.keepBound })

/-- The time given to SAT at its start, with its uncertainty: the selected clock's while it has a source, else that of KEEP's time keeper, else
what the clock holds. R278. -/
def State.satGiven (s : State) : Option (Nat × Rat) :=
  let k := s.tmu.selVc
  if (s.vc k).present then some (s.sel, s.vcBound k)
  else
    match s.keptTime with
    | some x => some (x.time, x.bound)
    | none => if s.selQual = 0 then none else some (s.sel, s.vcBound k)

/-- D8 comes up: the start type from the time given, SAT time in HOLDOVER where its bound is below 1 s, and the antennas biased. R273, R278,
R292. -/
def State.satUp (s : State) : State :=
  let g := s.satGiven
  let t := (g.map (fun e => e.1)).getD 0
  let bound := g.map (fun e => e.2)
  let ty := s.satStartType t bound
  let s := if s.sat.retained.ok then s else s.event .SAT_RETAINED_BAD []
  let s := s.satBegin ty
  let s := s.modSt (fun _ => { drift := s.sat.retained.drift, ocxoCtrl := s.sat.time.ocxoCtrl })
  let s := match bound with
    | none => s
    | some b =>
      if b < 1000000000 then
        (s.modSt (fun x => { x with
          qual := 2, base := t, baseAt := s.now, slewEnd := s.now, hoStart := s.now, b0 := b, tEntry := s.keep.baseT })).raiseAlarm .SAT_HOLDOVER
      else s
  antAll.foldl (fun s a => s.setBias a (s.biasWanted a)) s

/-- D8 goes down: SAT time ends and the solutions are withdrawn. R296. -/
def State.satDown (s : State) : State :=
  let s := s.satWithdraw
  let had := s.satPresent
  let s := s.modSt (fun x => { drift := x.drift, ocxoCtrl := x.ocxoCtrl })
  let s := if had then s.satGone else s
  let s : State := { s with sat := { s.sat with
      state := if s.sys.mode = .keep then 1 else 0, chans := [], wake := none, spoofRun := []
      ants := s.sat.ants.map (fun x => { x with excluded := false, geomSince := none, geomOkSince := none, agc := [], cn0 := [], agcLowSince := [] }) } }
  antAll.foldl (fun s a => s.setBias a false) s

/-! ### Points (R300) -/

/-- SAT_FLAGS. -/
def State.satFlags (s : State) : Nat :=
  let k := s.tmu.selVc
  b2n (s.alarmOn .SAT_RAIM_EXCL) + 2 * b2n (s.alarmOn .SAT_RAIM_FAIL) + 4 * b2n s.sat.spoofLatched +
    8 * b2n (s.alarmOn .TIME_INCONSISTENT) + 16 * b2n (s.alarmOn .SAT_JAMMING) + 32 * b2n s.sat.corrStale + 64 * b2n s.sat.masterSubst +
    128 * b2n ((List.range 4).any (fun a => s.alarmOn .ANT_GEOMETRY (a + 1))) +
    256 * b2n (decide ((s.vc k).src = .sat) && (s.vc k).stepPending) + 512 * b2n (s.alarmOn .SAT_HPL)

/-- Seconds of the current holdover. -/
def State.satHoTime (s : State) : Nat := if s.sat.time.qual = 2 then (s.now - s.sat.time.hoStart) / 1000000000 else 0

/-- Age of the corrections, ms. -/
def State.corrAge (s : State) : Nat :=
  match s.sat.corrAt with
  | none => 0xFFFFFFFF
  | some a => min ((s.now - a) / 1000000) 0xFFFFFFFF

/-- SAT_TIME_BOUND in whole ns, saturating. -/
def State.satBoundN (s : State) : Nat := min (natOf s.satBound) 0xFFFFFFFF

/-- The points SAT publishes once per frame. -/
def satPoints (s : State) : List (Nat × PVal × Half) :=
  let x := s.sat
  let hpl (h : Option Rat) : PVal × Half := (pvF (h.getD 0), if h.isSome then qGood else qBad)
  [(2688, pvE x.state, qGood), (2689, pvX s.satFlags, qGood), (2705, hpl x.hplRtk), (2706, hpl x.hplSbas),
    (2707, pvE x.time.qual, qGood), (2708, pvUs s.satBoundN, qGood), (2709, pvI x.time.err, qGood), (2710, pvF s.ocxoNow, qGood),
    (2711, pvU s.satHoTime, qGood), (2712, pvU x.svUsed, qGood), (2713, pvU x.chans.length, qGood), (2714, pvUs s.corrAge, qGood),
    (2715, pvU x.rtcmBad.toNat, qGood)] ++
  antAll.flatMap (fun a =>
    let y := s.ant a
    let b := 2716 + 4 * (a - 1)
    [(b, pvE y.state, qGood), (b + 1, pvF y.current, qGood), (b + 2, pvF y.cn0L1, qGood), (b + 3, pvF y.cn0L5, qGood)])

/-- The biases follow their commands and parameters; one switched off by a short stays off. R273, R302. -/
def State.biasFollow (s : State) : State :=
  antAll.foldl (fun s a =>
    let x := s.ant a
    if (x.biasOn || x.shortAt.isSome) ≠ s.biasWanted a then s.setBias a (s.biasWanted a) else s) s

/-- SAT at a frame start: the biases, the SBAS channels of the master alone, and the largest temperature change of its holdover. R273, R276,
R292. -/
def State.satFrame (s : State) : State :=
  let s := s.biasFollow
  let s := { s with sat := { s.sat with chans := s.sat.chans.filter (fun c => decide (c.id.sys ≠ SatSys.sbas ∨ c.id.ant = s.masterAnt)) } }
  s.modSt (fun x => if x.qual = 2 then
    let d : Rat := absQ (s.keep.baseT - x.tEntry)
    { x with dTmax := if x.dTmax < d then d else x.dTmax } else x)

end Sys2Proof.Machine
end

