-- ==== Sys2Proof/Machine/EstOps.lean ====
section
/-!
DEFINITION. The references and the estimator: samples, the six tests, weighting, the filter, dead reckoning and the points
(spec/03 R55–R91).
-/
namespace Sys2Proof.Machine

/-! ### What the spec leaves to the filter (log 63) -/

/-- The variance that one frame's noise adds to a state: the spec gives the noises no size. R81. -/
opaque Config.ekfNoise : Nat → Rat
/-- The covariance of the states that an initialisation sets to zero. R84. -/
opaque Config.ekfStart : Nat → Rat

/-! ### Frames and filters -/

/-- Seconds of a frame. R28. -/
def frameSec : Rat := 2 / 100

/-- The part of a filter's way to its input in one frame. -/
def lagStep (tau : Rat) : Rat := if tau ≤ frameSec then 1 else frameSec / tau

/-! ### Slots and samples (R55–R61) -/

/-- Slot i. -/
def State.slot (s : State) (i : Nat) : RefSlot := s.est.slots.getD i {}

/-- Slot i changed. -/
def State.modSlot (s : State) (i : Nat) (f : RefSlot → RefSlot) : State :=
  { s with est := { s.est with slots := s.est.slots.modify i f } }

/-- The slots. -/
def slotAll : List Nat := List.range 28

/-- The kind of a slot: 0 position, 1 heading, 2 motion, 3 wind. REF_KIND decides it, also where it is contrary to the slot's number: the spec
does not say what a contrary kind does (log 95). R55, R93. -/
def State.slotKind (s : State) (i : Nat) : Nat := s.parN .REF_KIND i

/-- The source point of a slot. -/
def State.slotSrc (s : State) (i : Nat) : Option Nat := (s.par? .REF_SOURCE i).map natOf

/-- The slots of a kind. -/
def State.kindSlots (s : State) (k : Nat) : List Nat := slotAll.filter (fun i => s.slotKind i = k)

/-- The slots of a kind that are ACCEPTED. -/
def State.acceptedOf (s : State) (k : Nat) : List Nat := (s.kindSlots k).filter (fun i => (s.slot i).state = .accepted)

/-- Whether a slot reads a block of SAT. R280. -/
def satBlockSrc (p : Nat) : Bool := p = 2690 || p = 2695 || p = 2700

/-- Whether a slot is a range-bearing reference. R57. -/
def State.slotRb (s : State) (i : Nat) : Bool := s.parB .REF_RB i

/-- A sample of a slot: its values, the source's status and its own standard deviation where it has them, and its time. -/
structure Sample where
  vals : List Rat := []
  status : Option Rat := none
  sd : Rat := 0
  t : Nat := 0
  deriving DecidableEq, Repr

/-- How many values a sample of a kind has: north and east or range and bearing, heading, roll pitch and heave, wind speed and direction. R55. -/
def kindVals (k : Nat) : Nat :=
  match k with
  | 0 => 2
  | 1 => 1
  | 2 => 3
  | _ => 2

/-- The least status of test 2: REF_MIN_STATUS, else RTK fixed for SAT RTK and differential for other positions (SBAS for the block that
reaches no more, log 96); none for a slot without a default. R68, R93. -/
def State.minStatus (s : State) (i src : Nat) : Option Rat :=
  match s.par? .REF_MIN_STATUS i with
  | some q => some q
  | none => if s.slotKind i ≠ 0 ∨ s.slotRb i then none else some (if src = 2690 then 5 else if src = 2695 then 2 else 3)

/-- The sample a slot's source holds in the fenced set, its time less REF_LATENCY (0 for a block of SAT). The further values and the status of
a source stand in the points behind it, as a block of R280 and the conversions of R492 write them (log 97). R59, R60. -/
def State.sampleOf (s : State) (i src : Nat) : Option Sample :=
  let num (k : Nat) : Option Rat := (s.fpoint (src + k)).num
  let sat := satBlockSrc src
  let t : Nat := (s.fpoint src).ts - (if sat then 0 else s.parMs .REF_LATENCY i)
  let n := kindVals (s.slotKind i)
  let vs := (List.range n).map num
  if vs.any Option.isNone then none
  else some {
    vals := vs.map (fun v => v.getD 0), t := t
    sd := if sat then (num 4).getD 0 else 0
    status := if (s.minStatus i src).isNone then none else if sat then num 3 else num n }

/-- Whether a sample's time is usable: at most REF_MAX_AGE before the fence and not after it. R61. -/
def State.sampleUsable (s : State) (i : Nat) (x : Sample) : Bool :=
  x.t ≤ s.frame.startT && s.frame.startT ≤ x.t + s.parMs .REF_MAX_AGE i

/-! ### The estimate at a past instant (R62) -/

/-- A record between two fences. -/
def FenceRec.between (a b : FenceRec) (t : Nat) : FenceRec :=
  if b.at_ ≤ a.at_ then b
  else
    let f : Rat := ((t - a.at_ : Nat) : Rat) / ((b.at_ - a.at_ : Nat) : Rat)
    { at_ := t
      x := (List.range 15).map (fun i =>
        if i = 2 then nth a.x 2 + f * wrapPi (nth b.x 2 - nth a.x 2) else lerp f (nth a.x i) (nth b.x i))
      p := a.p.zipWith (lerp f) b.p
      tau := b.tau, wind := b.wind }

/-- The record at an instant from records newest first; the oldest where it lies before them. -/
def histAt : List FenceRec → Nat → FenceRec
  | [], _ => {}
  | [r], _ => r
  | b :: a :: l, t => if b.at_ ≤ t then b else if a.at_ ≤ t then a.between b t else histAt (a :: l) t

/-! ### Motion compensation (R63, R64, R79) -/

/-- Whether a motion reference is ACCEPTED. R64. -/
def State.motionOk (s : State) : Bool := !(s.acceptedOf 2).isEmpty

/-- The median, the mean of two, or the single value. R79. -/
def fuse (l : List Rat) : Rat := if l.isEmpty then 0 else median l

/-- An axis of a motion reference at an instant, from its samples newest first: interpolated between two, else the nearest. R79. -/
def motionVal (k : Nat) : List (Nat × List Rat) → Nat → Rat
  | [], _ => 0
  | [a], _ => nth a.2 k
  | b :: a :: l, t =>
    if b.1 ≤ t then nth b.2 k
    else if a.1 ≤ t then lerp (((t - a.1 : Nat) : Rat) / ((b.1 - a.1 : Nat) : Rat)) (nth a.2 k) (nth b.2 k)
    else motionVal k (a :: l) t

/-- Roll (0), pitch (1) or heave (2) at an instant from the ACCEPTED motion references; 0 without any. R63, R64, R79. -/
def State.motionAt (s : State) (k t : Nat) : Rat := fuse ((s.acceptedOf 2).map (fun i => motionVal k (s.slot i).past t))

/-! ### Predicted measurements (R63, R64) -/

/-- Whether the wave states take part. R83. -/
def State.waveOn (s : State) : Bool := s.parB .EST_WAVE_ON

/-- Low-frequency plus wave-frequency north, east and heading of a record. R81. -/
def FenceRec.pose (r : FenceRec) (wave : Bool) : Rat × Rat × Rat :=
  let w (i : Nat) : Rat := if wave then nth r.x i else 0
  (nth r.x 0 + w 9, nth r.x 1 + w 11, nth r.x 2 + w 13)

/-- rot_z(ψ) · rot_y(θ) · rot_x(φ) · lever, north and east. R63. -/
def leverNE (psi theta phi x y z : Rat) : Rat × Rat :=
  let cp := Config.cos phi
  let sp := Config.sin phi
  let ct := Config.cos theta
  let st := Config.sin theta
  let c := Config.cos psi
  let n := Config.sin psi
  let y1 := cp * y - sp * z
  let z1 := sp * y + cp * z
  let x2 := ct * x + st * z1
  (c * x2 - n * y1, n * x2 + c * y1)

/-- A slot's lever arm in the earth frame at a heading and an instant. R63. -/
def State.leverAt (s : State) (i t : Nat) (psi : Rat) : Rat × Rat :=
  leverNE psi (s.motionAt 1 t) (s.motionAt 0 t) (s.par .REF_LEVER_X i) (s.par .REF_LEVER_Y i) (s.par .REF_LEVER_Z i)

/-- Where a slot's measuring point should be at a sample's time by a record. R63. -/
def State.refPoint (s : State) (i t : Nat) (r : FenceRec) : Rat × Rat :=
  let p := r.pose s.waveOn
  let l := s.leverAt i t p.2.2
  (p.1 + l.1, p.2.1 + l.2)

/-- The position a sample reports for its measuring point; a range and bearing is taken from its target, the bearing clockwise from the bow of
END1 (log 98: the spec does not say from where). R57. -/
def State.measNE (s : State) (i : Nat) (x : Sample) (psi : Rat) : Rat × Rat :=
  if s.slotRb i then
    let b := psi + nth x.vals 1
    (s.par .REF_TARGET_N i - nth x.vals 0 * Config.cos b, s.par .REF_TARGET_E i - nth x.vals 0 * Config.sin b)
  else (nth x.vals 0, nth x.vals 1)

/-- The innovation of a sample against a record. R62, R76. -/
def State.innovation (s : State) (i : Nat) (x : Sample) (r : FenceRec) : List Rat :=
  let p := r.pose s.waveOn
  if s.slotKind i = 0 then
    let m := s.measNE i x p.2.2
    let q := s.refPoint i x.t r
    [m.1 - q.1, m.2 - q.2]
  else [wrapPi (nth x.vals 0 - p.2.2)]

/-- A limit in the units of a slot's values: m, or ° turned to rad. R93. -/
def State.lim (s : State) (i : Nat) (p : Param) : Rat := if s.slotKind i = 1 ∨ s.slotKind i = 2 then rad (s.par p i) else s.par p i

/-- The largest variance of an axis of the innovations of REF_VAR_WINDOW. R68. -/
def innovVar (l : List (Nat × List Rat)) : Rat :=
  let axis (k : Nat) : Rat :=
    let v := l.map (fun e => nth e.2 k)
    let m := meanQ v
    meanQ (v.map (fun x => (x - m) * (x - m)))
  if axis 0 < axis 1 then axis 1 else axis 0

/-- The variance of a reference whose window holds `inn` and whose source reports `sd`: the largest of the measured variance, the reported one
and REF_SIGMA², with what R64 adds. R64, R75. -/
def State.varOf (s : State) (i : Nat) (inn : List (Nat × List Rat)) (sd : Rat) : Rat :=
  let sg := s.lim i .REF_SIGMA
  let a := maxQ (sg * sg) [innovVar inn, sd * sd]
  if s.slotKind i = 0 ∧ ¬ s.motionOk then
    let d := absQ (s.par .REF_LEVER_Z i) * rad (s.par .EST_NOMRU_ANGLE)
    a + d * d
  else a

/-- R_i of a slot as it stands. R75. -/
def State.refVar (s : State) (i : Nat) : Rat := s.varOf i (s.slot i).innov (s.slot i).lastSd

/-- Columns of H of a kind's measurement: position and wave position, or heading and wave heading. R76, R81. -/
def State.hCols (s : State) (kind : Nat) : List (List Nat) :=
  let w (i : Nat) : List Nat := if s.waveOn then [i] else []
  if kind = 0 then [0 :: w 9, 1 :: w 11] else [2 :: w 13]

/-- H P Hᵀ entry of two measurement rows. -/
def hph (p : List Rat) (a b : List Nat) : Rat := sumQ (a.flatMap (fun i => b.map (fun j => ent 15 p i j)))

/-- The normalised innovation squared. R69. -/
def State.nisOf (s : State) (kind : Nat) (p : List Rat) (nu : List Rat) (r : Rat) : Rat :=
  match s.hCols kind with
  | [a, b] =>
    let s11 := hph p a a + r
    let s22 := hph p b b + r
    let s12 := hph p a b
    let det := s11 * s22 - s12 * s12
    (nth nu 0 * nth nu 0 * s22 - 2 * nth nu 0 * nth nu 1 * s12 + nth nu 1 * nth nu 1 * s11) / det
  | [a] => nth nu 0 * nth nu 0 / (hph p a a + r)
  | _ => 0

/-! ### The tests of one sample (R66, R68) -/

/-- What the tests found of a new sample of a slot. -/
structure RefEval where
  slot : Nat := 0
  x : Sample := {}
  seq : Word := 0
  nu : List Rat := []
  r : Rat := 0
  nis : Rat := 0
  fail : Nat := 0 -- the first test that failed, 0 none
  dev : Rat := 0 -- deviation from the median
  dt : Rat := 0 -- seconds since the slot's last new sample; 0 for its first
  deriving DecidableEq, Repr

/-- Whether a new sample continues a run within REF_FREEZE_TOL of its first sample. -/
def nearFirst (tol : Rat) (first v : List Rat) : Bool := (first.zip v).all (fun e => decide (absQ (e.1 - e.2) ≤ tol))

/-- Test 2. R68. -/
def State.rangeBad (s : State) (i : Nat) (x : Sample) : Bool :=
  let v := nth x.vals
  let z := s.slot i
  let low : Bool := match x.status, s.minStatus i ((s.slotSrc i).getD 0) with
    | some q, some m => decide (q < m)
    | _, _ => false
  low || (match s.slotKind i with
    | 0 => s.slotRb i && (decide (v 0 < 5) || decide (500 < v 0))
    | 1 =>
      let dt : Rat := ((x.t - z.lastNewAt : Nat) : Rat) / 1000000000
      decide (v 0 < 0) || decide (2 * pi < v 0) ||
        (!z.lastVal.isEmpty && decide (rad 10 * dt < absQ (wrapPi (v 0 - nth z.lastVal 0))))
    | 2 => decide (rad 30 < absQ (v 0)) || decide (rad 30 < absQ (v 1))
    | _ => decide (v 0 < 0) || decide (75 < v 0))

/-- Tests 1 to 4 of a sample, with the slot as it is after them. The filter's own tests need an initialised estimate. R_i is taken from the
innovations before this sample; the sample joins the window unless freeze, range or prediction turns it away (log 99). R66, R68, R69. -/
def State.tests14 (s : State) (i : Nat) (x : Sample) (seq : Word) (h : List FenceRec) : RefEval × RefSlot :=
  let z := s.slot i
  let tol := s.par .REF_FREEZE_TOL i
  let same : Bool := match z.freezeFirst with
    | none => false
    | some f => nearFirst tol f x.vals
  let frozen : Bool := same && decide (z.freezeSince + s.parNs .REF_FREEZE_TIME i ≤ x.t)
  let k := s.slotKind i
  let est : Bool := s.est.core.inited && decide (k < 2)
  let rec_ := histAt h x.t
  let nu : List Rat := if est then s.innovation i x rec_ else []
  let old := z.innov.filter (fun e => x.t < e.1 + s.parNs .REF_VAR_WINDOW i)
  let inn := if est then (x.t, nu) :: old else old
  let r := s.varOf i old x.sd
  let nis := if est then s.nisOf k rec_.p nu r else 0
  let vl := s.lim i .REF_VAR_LIMIT
  let noisy : Bool := k < 2 && (decide (vl * vl < innovVar inn) || decide (vl < x.sd))
  let fail : Nat := if frozen then 1 else if s.rangeBad i x then 2 else if noisy then 3
    else if est && decide (s.par .REF_PRED_GATE i < nis) then 4 else 0
  let dt : Rat := if z.lastSeq.isNone then 0 else ((x.t - z.lastNewAt : Nat) : Rat) / 1000000000
  ({ slot := i, x := x, seq := seq, nu := nu, r := r, nis := nis, fail := fail, dt := dt },
    { z with
      lastSeq := some seq, lastNewAt := x.t, lastUsableAt := s.now, lastSd := x.sd, lastVal := x.vals
      innov := if fail = 0 ∨ fail = 3 then inn else old
      freezeFirst := if same then z.freezeFirst else some x.vals
      freezeSince := if same then z.freezeSince else x.t })

/-- The heading that the references of kind heading show by themselves, those ACCEPTED before the others; none without any value. R84. -/
def State.refHeading (s : State) : Option Rat :=
  let has (i : Nat) : Bool := !(s.slot i).lastVal.isEmpty
  let l := (s.acceptedOf 1).filter has
  let l := if l.isEmpty then (s.kindSlots 1).filter (fun i => has i && decide ((s.slot i).state = .trial)) else l
  match l with
  | [] => none
  | h0 :: _ =>
    let a := nth (s.slot h0).lastVal 0
    some (wrapPi (a + meanQ (l.map (fun i => wrapPi (nth (s.slot i).lastVal 0 - a)))))

/-- The position of the vessel reference point that a sample shows at a heading. R57, R63. -/
def State.samplePos (s : State) (i : Nat) (x : Sample) (psi : Rat) : List Rat :=
  let m := s.measNE i x psi
  let l := s.leverAt i x.t psi
  [m.1 - l.1, m.2 - l.2]

/-- The values the median test compares: innovations once there is an estimate; before, positions of the vessel reference point, where a
heading is known to place them, headings, and the values themselves. R71. -/
def State.medVals (s : State) (e : RefEval) (first : RefEval) : Option (List Rat) :=
  match s.slotKind e.slot with
  | 0 => if e.nu.isEmpty then s.refHeading.map (s.samplePos e.slot e.x) else some e.nu
  | 1 => some (if e.nu.isEmpty then [wrapPi (nth e.x.vals 0 - nth first.x.vals 0)] else e.nu)
  | 2 => some (e.x.vals.take 2)
  | _ => some [nth e.x.vals 0, wrapPi (nth e.x.vals 1 - nth first.x.vals 1)]

/-- The limits of the median test per axis. -/
def State.medLims (s : State) (i : Nat) : List Rat :=
  if s.slotKind i = 3 then [s.par .REF_MED_LIMIT i, rad (s.par .REF_MED_LIMIT_DIR i)] else [s.lim i .REF_MED_LIMIT, s.lim i .REF_MED_LIMIT]

/-- Whether an axis lies beyond its limit. -/
def beyond (d lims : List Rat) : Bool := (d.zip lims).any (fun e => decide (e.2 < absQ e.1))

/-- The deviations from the median of the samples that passed tests 1 to 4. R71. -/
def State.medDevs (s : State) (l : List RefEval) : List (RefEval × List Rat) :=
  match l with
  | [] => []
  | f :: _ =>
    let vs := l.filterMap (fun e => (s.medVals e f).map (fun v => (e, v)))
    let med (k : Nat) : Rat := median (vs.map (fun v => nth v.2 k))
    vs.map (fun e => (e.1, (List.range e.2.length).map (fun k => nth e.2 k - med k)))

/-- Test 5 over the samples of a kind: the samples with their result, and whether the references disagree. R71. -/
def State.medianTest (s : State) (l : List RefEval) : List RefEval × Bool :=
  let ok := l.filter (fun e => e.fail = 0)
  let devs := s.medDevs ok
  let isBad (e : RefEval × List Rat) : Bool := beyond e.2 (s.medLims e.1.slot)
  let size (d : List Rat) : Rat := maxQ 0 (d.map absQ)
  if devs.length < 2 then (l, false)
  else if devs.length = 2 then
    match devs with
    | [a, b] => (l, beyond (vSub a.2 b.2) (s.medLims a.1.slot))
    | _ => (l, false)
  else
    let nbad := (devs.filter isBad).length
    let none_ : Bool := devs.length < 2 * nbad
    (l.map (fun e =>
      match devs.find? (fun d => d.1.slot = e.slot) with
      | none => e
      | some d => { e with dev := size d.2, fail := if !none_ && isBad d then 5 else 0 }), none_)

/-- Test 6 of a sample that passed the others, and the filtered innovation. The filter starts at zero, and again when the reference comes back
(log 100); it is stepped by the time since the slot's last new sample. R66, R68. -/
def State.divTest (s : State) (e : RefEval) : RefEval × List Rat :=
  let z := s.slot e.slot
  if e.nu.isEmpty ∨ e.fail ≠ 0 then (e, z.divFilter)
  else
    let k := minQ 1 [e.dt / s.par .REF_DIV_TAU e.slot]
    let f := if z.divFilter.isEmpty then e.nu.map (fun _ => 0) else z.divFilter.zipWith (fun a b => a + (b - a) * k) e.nu
    let l := s.lim e.slot .REF_DIV_LIMIT
    ({ e with fail := if f.any (fun x => decide (l < absQ x)) then 6 else 0 }, f)

/-! ### What a result does to a slot (R70, R73, R74) -/

/-- A slot enters REJECTED. R74, R91. -/
def State.rejectRef (s : State) (e : RefEval) : State :=
  let i := e.slot
  let z := s.slot i
  let rj := s.now :: z.rejections.filter (fun a => s.now < a + 600000000000)
  let s := s.modSlot i (fun z => { z with
    state := .rejected, reason := e.fail, trialSince := none, rejections := rj, predFails := 0
    latched := z.latched || s.parB .REF_LATCH i || decide (3 ≤ rj.length) })
  s.raiseAlarm .REF_REJECTED i [wN e.fail, toF32 e.nis, wN e.x.t, wN (e.x.t / 2 ^ 32)]

/-- The result of the tests of one sample. A reference in TRIAL is rejected by any failing sample, the prediction test's too (R73 says so of
TRIAL, log 101); the reason of a rejected one stays that of the test that rejected it. R66, R70, R73, R90. -/
def State.applyEval (s : State) (e : RefEval) (spare : Bool) : State :=
  let i := e.slot
  let z := s.slot i
  let s := s.modSlot i (fun z => { z with
    nis := if s.slotKind i < 2 then (if e.nu.isEmpty then none else some e.nis) else z.nis
    predFails := if e.fail = 4 then z.predFails + 1 else if e.fail = 0 ∨ 4 < e.fail then 0 else z.predFails })
  if spare then s.modSlot i (fun z => { z with predFails := 0 })
  else if e.fail = 0 then
    match z.state with
    | .rejected => if z.latched then s else s.modSlot i (fun z => { z with state := .trial, trialSince := some s.now, reason := 0 })
    | .trial => s.modSlot i (fun z => { z with trialSince := some (z.trialSince.getD s.now), reason := 0 })
    | _ => s.modSlot i (fun z => { z with reason := 0 })
  else
    match z.state with
    | .trial => s.rejectRef e
    | .accepted => if e.fail = 4 ∧ (s.slot i).predFails < s.parN .REF_PRED_COUNT i then s else s.rejectRef e
    | _ => s

/-- A slot becomes ACCEPTED once it has passed for REF_TRIAL_TIME, or REF_TRIAL_DR where its kind has none. R73. -/
def State.trialDone (s : State) (i : Nat) : State :=
  let z := s.slot i
  let t := if (s.acceptedOf (s.slotKind i)).isEmpty then s.parNs .REF_TRIAL_DR i else s.parNs .REF_TRIAL_TIME i
  if z.state = .trial ∧ s.held z.trialSince t then
    let s := (s.modSlot i (fun z => { z with state := .accepted, reason := 0, predFails := 0 })).clearAlarm .REF_REJECTED i
    if s.slotKind i = 1 ∧ s.est.core.hdgLost then
      { s with est := { s.est with core := { s.est.core with hdgLost := false, resetHdgDue := true, resetHdgTo := [] } } }.clearAlarm .HDG_LOST
    else s
  else s

/-- A slot becomes UNAVAILABLE for a reason. R61. -/
def State.refUnavailable (s : State) (i reason : Nat) : State :=
  s.modSlot i (fun z => { z with
    state := .unavailable, reason := reason, trialSince := none, freezeFirst := none, divFilter := [] })

/-- A slot with no usable sample for REF_TIMEOUT. R61, R90. -/
def State.refTimeout (s : State) (i : Nat) : State :=
  let z := s.slot i
  let live : Bool := z.state = .trial || z.state = .accepted || z.state = .rejected
  if live ∧ s.past z.lastUsableAt (s.parNs .REF_TIMEOUT i) then
    match s.slotSrc i with
    | none => s
    | some p =>
      let stale : Bool := match s.sampleOf i p with
        | none => false
        | some x => !s.sampleUsable i x && decide (z.lastSeq ≠ some (s.fpoint p).seq)
      s.refUnavailable i (if stale then 17 else 19)
  else s

/-! ### Reading every slot at a fence -/

/-- A slot before its tests: configured, its source usable, and back from UNAVAILABLE with a usable sample. R58, R61. -/
def State.readSlot (s : State) (i : Nat) : State :=
  let z := s.slot i
  match s.slotSrc i with
  | none => s.modSlot i (fun z => { z with state := .notConfigured, reason := 0 })
  | some p =>
    if ¬ z.selected then s.modSlot i (fun z => { z with state := .deselected, reason := 0, share := 0 })
    else
      let s := if z.state = .notConfigured ∨ z.state = .deselected then
          s.modSlot i (fun z => { z with state := .trial, reason := 0, trialSince := none, lastUsableAt := s.now, divFilter := [] })
        else s
      let q := (s.fpoint p).qual
      if ¬ qUsable q then s.refUnavailable i (if (q &&& rWithdrawn) ≠ 0 then 18 else 16)
      else
        match s.sampleOf i p with
        | none => s
        | some x =>
          if (s.slot i).state = .unavailable ∧ s.sampleUsable i x ∧ z.lastSeq ≠ some (s.fpoint p).seq then
            s.modSlot i (fun z => { z with state := .trial, reason := 0, trialSince := none })
          else s

/-- The new usable sample of a slot that is tested at this fence. R59, R66. -/
def State.newSample (s : State) (i : Nat) : Option (Sample × Word) :=
  let z := s.slot i
  if z.state = .trial ∨ z.state = .accepted ∨ z.state = .rejected then
    match s.slotSrc i with
    | none => none
    | some p =>
      let q := (s.fpoint p).seq
      match s.sampleOf i p with
      | none => none
      | some x => if s.sampleUsable i x ∧ z.lastSeq ≠ some q then some (x, q) else none
  else none

/-- The tests of a kind at this fence: results in slot order. R66, R71. -/
def State.testKind (s : State) (k : Nat) (h : List FenceRec) : State × List RefEval × Bool :=
  let r := (s.kindSlots k).foldl (fun (acc : State × List RefEval) i =>
    match acc.1.newSample i with
    | none => acc
    | some (x, q) =>
      let e := acc.1.tests14 i x q h
      (acc.1.modSlot i (fun _ => e.2), acc.2 ++ [e.1])) (s, [])
  let s := r.1
  let m := s.medianTest r.2
  let d := m.1.map s.divTest
  let s := d.foldl (fun s e => s.modSlot e.1.slot (fun z => { z with divFilter := e.2 })) s
  (s, d.map (fun e => e.1), m.2)

/-- REF_DISAGREE of a kind. R71, R91. -/
def State.disagree (s : State) (k : Nat) (now_ : Bool) : State :=
  if now_ then
    State.raiseAlarm { s with est := { s.est with disagreeSince := assocSet s.est.disagreeSince k s.now } } .REF_DISAGREE k
  else
    match assoc s.est.disagreeSince k with
    | none => s
    | some a => if s.past a 10000000000 then s.clearAlarm .REF_DISAGREE k else s

/-! ### Shares and combination (R75, R76) -/

/-- One round of the cap: shares above it are held at it, the excess divided among the others in proportion. -/
def capRound (cap : Rat) (l : List (Nat × Rat × Bool)) : List (Nat × Rat × Bool) :=
  let held := l.map (fun e => (e.1, e.2.1, e.2.2 || decide (cap < e.2.1)))
  let free := sumQ ((held.filter (fun e => !e.2.2)).map (fun e => e.2.1))
  let left := 1 - cap * ((held.filter (fun e => e.2.2)).length : Rat)
  held.map (fun e => if e.2.2 then (e.1, cap, true) else (e.1, if free = 0 then 0 else e.2.1 * left / free, false))

/-- The shares of weights, capped where three or more references are ACCEPTED. R75. -/
def sharesOf (cap : Rat) (l : List (Nat × Rat)) : List (Nat × Rat) :=
  let tot := sumQ (l.map (fun e => e.2))
  let base : List (Nat × Rat × Bool) := l.map (fun e => (e.1, if tot = 0 then 0 else e.2 / tot, false))
  if l.length < 3 then base.map (fun e => (e.1, e.2.1))
  else ((List.range l.length).foldl (fun b _ => capRound cap b) base).map (fun e => (e.1, e.2.1))

/-- The shares of a kind published in its slots. R75, R80. -/
def State.setShares (s : State) (k : Nat) : State :=
  let acc := s.acceptedOf k
  let shadow (i : Nat) : Bool :=
    let a := s.par .REF_SHADOW_FROM i
    let b := s.par .REF_SHADOW_TO i
    let d := deg (wrap2Pi (nth (s.slot i).lastVal 1))
    k = 3 && a ≠ b && (if a < b then decide (a ≤ d) && decide (d ≤ b) else decide (a ≤ d) || decide (d ≤ b))
  let w : List (Nat × Rat) := acc.filterMap (fun i => if shadow i then none else some (i, if k < 2 then 1 / s.refVar i else 1))
  let sh := sharesOf (s.par .EST_MAX_SHARE / 100) w
  (s.kindSlots k).foldl (fun s i => s.modSlot i (fun z => { z with share := (assoc sh i).getD 0 })) s

/-- The combined innovation and variance of samples with weights. R76. -/
def combine (l : List (List Rat × Rat × Rat)) : List Rat × Rat :=
  let tot := sumQ (l.map (fun e => e.2.1))
  let w (e : List Rat × Rat × Rat) : Rat := if tot = 0 then 0 else e.2.1 / tot
  let n := match l with
    | [] => 0
    | e :: _ => e.1.length
  ((List.range n).map (fun k => sumQ (l.map (fun e => w e * nth e.1 k))), sumQ (l.map (fun e => w e * w e * e.2.2)))

/-! ### The filter (R81–R84) -/

/-- Whether thruster channel c is configured for allocation. -/
def State.alcModel (s : State) (c : Nat) : Bool := (s.par? .ALC_TFWD c).isSome && (s.par? .ALC_X c).isSome

/-- ALC_DIR of a channel: 90° for TT and 0° for PR where it is unset. R165. -/
def State.alcDir (s : State) (c : Nat) : Rat := rad ((s.par? .ALC_DIR c).getD (if s.parN .THR_TYPE c = 2 then 90 else 0))

/-- The force of one channel on the hull in the END1 body frame from thrust, angle and rudder force: an azimuth acts along its
angle, the others along ALC_DIR. R82, R138. -/
def State.chanForce (s : State) (c : Nat) (t ang l : Rat) : Rat × Rat :=
  if s.parN .THR_TYPE c = 1 then (t * Config.cos ang, t * Config.sin ang)
  else
    let b := s.alcDir c
    (t * Config.cos b - l * Config.sin b, t * Config.sin b + l * Config.cos b)

/-- τ_thr: measured thrust and azimuth, or the committed command where there is no thrust feedback: the active set on the unit that commands, its
own composed command on one that commits nothing. R48, R82. -/
def State.tauThr (s : State) : List Rat :=
  let one (c : Nat) : List Rat :=
    let x := s.thr.chans.getD (c - 1) {}
    let a := s.alc.chans.getD (c - 1) {}
    if ¬ s.alcModel c then [0, 0, 0]
    else
      let t := if x.tMeasAt.isSome then x.tMeas else if s.thr.auth then f32 x.actT else a.t
      let ang := match x.azUsed with
        | some z => z.a
        | none => if s.thr.auth then f32 x.actAng else a.ang
      let f := s.chanForce c t ang a.l
      [f.1, f.2, s.par .ALC_X c * f.2 - s.par .ALC_Y c * f.1]
  (List.range 24).foldl (fun v i => vAdd v (one (i + 1))) [0, 0, 0]

/-- A coefficient interpolated between the 36 configured ones. spec/04 R109. -/
def coef36 (l : List Rat) (gamma : Rat) : Rat :=
  let d := deg (wrap2Pi gamma) / 10
  let k := natOf d
  lerp (d - (k : Rat)) (nth l (k % 36)) (nth l ((k + 1) % 36))

/-- The modelled wind force of END1 from relative wind V, γ. spec/04 R109. -/
def State.windForce (s : State) (v gamma : Rat) : List Rat :=
  let q := s.par .HOLD_AIR_RHO * v * v / 2
  [q * s.par .HOLD_WIND_AF * coef36 (s.parL .HOLD_WIND_CX) gamma, q * s.par .HOLD_WIND_AL * coef36 (s.parL .HOLD_WIND_CY) gamma,
    q * s.par .HOLD_WIND_AL * s.par .HOLD_WIND_L * coef36 (s.parL .HOLD_WIND_CN) gamma]

/-- The estimated relative wind of a fence passes the filter of HOLD_WFF_TAU, in every mode. R109. -/
def State.windStep (s : State) : State :=
  let o := s.est.core.out
  let k := lagStep (s.par .HOLD_WFF_TAU)
  if o.windGood then
    { s with hold := { s.hold with windV :=
      [lerp k (nth s.hold.windV 0) (o.windSpeed * Config.cos o.windDir), lerp k (nth s.hold.windV 1) (o.windSpeed * Config.sin o.windDir)] } }
  else s

/-- τ_wind: the force of the filtered wind; none while the wind is BAD. R82, R109. -/
def State.tauWind (s : State) : List Rat :=
  let x := nth s.hold.windV 0
  let y := nth s.hold.windV 1
  if s.est.core.out.windGood then s.windForce (Config.sqrt (x * x + y * y)) (Config.atan2 y x) else [0, 0, 0]

/-- The parameters of the filter's model. R94. -/
structure EkfModel where
  m : List Rat := [] -- M: mass and yaw inertia
  d : List Rat := [] -- D: linear damping
  tau : Rat := 1 -- EST_BIAS_TAU
  w0 : Rat := 0 -- EST_WAVE_W0
  zeta : Rat := 0 -- EST_WAVE_ZETA
  wave : Bool := true -- R83
  holdBias : Bool := false -- R86: the biases are held
  deriving DecidableEq, Repr

/-- The filter's model as the parameters and the references give it now. -/
def State.estModel (s : State) : EkfModel :=
  { m := [s.par .EST_M11, s.par .EST_M22, s.par .EST_M33], d := [s.par .EST_D11, s.par .EST_D22, s.par .EST_D33]
    tau := s.par .EST_BIAS_TAU, w0 := s.par .EST_WAVE_W0, zeta := s.par .EST_WAVE_ZETA, wave := s.waveOn
    holdBias := (s.acceptedOf 0).isEmpty }

/-- The rates of the 15 states: kinematics, M·ν̇ + D·ν = τ_thr + τ_wind + rot(ψ)ᵀ·b, Markov biases and wave oscillators. R81, R83, R86. -/
def EkfModel.rate (m : EkfModel) (x tau wind : List Rat) : List Rat :=
  let v := nth x
  let c := Config.cos (v 2)
  let n := Config.sin (v 2)
  let f (k : Nat) (b : Rat) : Rat := (nth tau k + nth wind k + b - nth m.d k * v (3 + k)) / nth m.m k
  let bias (k : Nat) : Rat := if m.holdBias then 0 else -(v k) / m.tau
  let wv (k : Nat) : List Rat := if m.wave then [v (k + 1), -(2 * m.zeta * m.w0 * v (k + 1)) - m.w0 * m.w0 * v k] else [0, 0]
  [v 3 * c - v 4 * n, v 3 * n + v 4 * c, v 5, f 0 (c * v 6 + n * v 7), f 1 (c * v 7 - n * v 6), f 2 (v 8), bias 6, bias 7, bias 8] ++
    wv 9 ++ wv 11 ++ wv 13

/-- The states one frame later: one step of the rates over 20 ms (log 63). Wave states are held at zero where they are off. R81, R83. -/
def EkfModel.step (m : EkfModel) (x tau wind : List Rat) : List Rat :=
  let y := x.zipWith (fun a r => a + r / 50) (m.rate x tau wind)
  (List.range 15).map (fun i => if i = 2 then wrapPi (nth y 2) else if 9 ≤ i ∧ ¬ m.wave then 0 else nth y i)

/-- The derivative of the rate of state i by state j. R81. -/
def EkfModel.deriv (m : EkfModel) (x : List Rat) (i j : Nat) : Rat :=
  let v := nth x
  let c := Config.cos (v 2)
  let n := Config.sin (v 2)
  let w (k : Nat) : Rat := if ¬ m.wave then 0 else if i = k ∧ j = k + 1 then 1 else if i = k + 1 ∧ j = k then -(m.w0 * m.w0)
    else if i = k + 1 ∧ j = k + 1 then -(2 * m.zeta * m.w0) else 0
  match i, j with
  | 0, 2 => -(v 3 * n) - v 4 * c
  | 0, 3 => c
  | 0, 4 => -n
  | 1, 2 => v 3 * c - v 4 * n
  | 1, 3 => n
  | 1, 4 => c
  | 2, 5 => 1
  | 3, 2 => (c * v 7 - n * v 6) / nth m.m 0
  | 3, 3 => -(nth m.d 0) / nth m.m 0
  | 3, 6 => c / nth m.m 0
  | 3, 7 => n / nth m.m 0
  | 4, 2 => -(n * v 7 + c * v 6) / nth m.m 1
  | 4, 4 => -(nth m.d 1) / nth m.m 1
  | 4, 6 => -n / nth m.m 1
  | 4, 7 => c / nth m.m 1
  | 5, 5 => -(nth m.d 2) / nth m.m 2
  | 5, 8 => 1 / nth m.m 2
  | _, _ => if 6 ≤ i ∧ i < 9 then (if i = j ∧ ¬ m.holdBias then -1 / m.tau else 0) else w 9 + w 11 + w 13

/-- The covariance one frame later: F·P·Fᵀ of the model's derivative, and the frame's noise. Wave rows are zero where the waves are off. R69,
R81, R83, R86. -/
def EkfModel.spread (m : EkfModel) (x p : List Rat) : List Rat :=
  let f := mat 15 15 (fun i j => (if i = j then 1 else 0) + m.deriv x i j / 50)
  let q := mMul 15 15 15 (mMul 15 15 15 f p) (mT 15 15 f)
  mat 15 15 (fun i j => if ¬ m.wave ∧ (9 ≤ i ∨ 9 ≤ j) then 0 else ent 15 q i j + (if i = j then Config.ekfNoise i else 0))

/-- The estimate propagated to this fence. R81. -/
def State.estPredict (s : State) (c : EstCore) : EstCore :=
  if ¬ c.inited then c
  else
    let m := s.estModel
    { c with x := m.step c.x s.tauThr s.tauWind, p := m.spread c.x c.p }

/-- This fence's record. -/
def State.fenceRec (s : State) (c : EstCore) : FenceRec :=
  { at_ := s.frame.startT, x := c.x, p := c.p, tau := s.tauThr, wind := s.tauWind }

/-- The states an update leaves alone: the wave states where they are off, the biases in position dead reckoning. R83, R86. -/
def State.estHeld (s : State) (i : Nat) : Bool := (decide (9 ≤ i) && !s.waveOn) || (decide (6 ≤ i ∧ i < 9) && (s.acceptedOf 0).isEmpty)

/-- A covariance after an update that would take `d i j` from entry i, j: entries among held states stay. -/
def heldCov (held : Nat → Bool) (p : List Rat) (d : Nat → Nat → Rat) : List Rat :=
  mat 15 15 (fun i j => if held i && held j then ent 15 p i j else if held i then ent 15 p i j - d j i else ent 15 p i j - d i j)

/-- One measurement update of a kind's states with a combined innovation and variance. R76. -/
def State.estUpdate (s : State) (c : EstCore) (kind : Nat) (nu : List Rat) (r : Rat) : EstCore :=
  match s.hCols kind with
  | [a, b] =>
    let col (h : List Nat) (i : Nat) : Rat := sumQ (h.map (fun j => ent 15 c.p i j))
    let s11 := hph c.p a a + r
    let s22 := hph c.p b b + r
    let s12 := hph c.p a b
    let det := s11 * s22 - s12 * s12
    if det = 0 then c
    else
      let k (i : Nat) : Rat × Rat :=
        ((col a i * s22 - col b i * s12) / det, (col b i * s11 - col a i * s12) / det)
      { c with
        x := (List.range 15).map (fun i => if s.estHeld i then nth c.x i else nth c.x i + (k i).1 * nth nu 0 + (k i).2 * nth nu 1)
        p := heldCov s.estHeld c.p (fun i j => (k i).1 * col a j + (k i).2 * col b j) }
  | [a] =>
    let col (i : Nat) : Rat := sumQ (a.map (fun j => ent 15 c.p i j))
    let s11 := hph c.p a a + r
    if s11 = 0 then c
    else
      let k (i : Nat) : Rat := col i / s11
      { c with
        x := (List.range 15).map (fun i => if s.estHeld i then nth c.x i else nth c.x i + k i * nth nu 0)
        p := heldCov s.estHeld c.p (fun i j => k i * col j) }
  | _ => c

/-- States set and their covariance replaced, the others left. R72, R88. -/
def EstCore.setStates (c : EstCore) (l : List (Nat × Rat)) (r : Rat) : EstCore :=
  { c with
    x := l.foldl (fun x e => setAt x e.1 e.2) c.x
    p := mat 15 15 (fun i j =>
      let a := l.any (fun e => e.1 = i)
      let b := l.any (fun e => e.1 = j)
      if a && i = j then r else if a || b then 0 else ent 15 c.p i j) }

/-- What a reset of a kind sets: position or heading moved by a combined innovation. -/
def EstCore.resetTo (c : EstCore) (kind : Nat) (nu : List Rat) (r : Rat) : EstCore :=
  if kind = 0 then c.setStates [(0, nth c.x 0 + nth nu 0), (1, nth c.x 1 + nth nu 1)] r
  else c.setStates [(2, wrapPi (nth c.x 2 + nth nu 0))] r

/-- Initialisation from the combined references. R84. -/
def State.estInit (s : State) (c : EstCore) : EstCore :=
  let ps := s.acceptedOf 0
  let hs := s.acceptedOf 1
  match hs with
  | [] => c
  | h0 :: _ =>
    let ref := nth (s.slot h0).lastVal 0
    let hc := combine (hs.map (fun i => ([wrapPi (nth (s.slot i).lastVal 0 - ref)], (s.slot i).share, s.refVar i)))
    let psi := wrapPi (ref + nth hc.1 0)
    let one (i : Nat) : List Rat := s.samplePos i { vals := (s.slot i).lastVal, t := (s.slot i).lastNewAt } psi
    let pc := combine (ps.map (fun i => (one i, (s.slot i).share, s.refVar i)))
    if ps.isEmpty then c
    else
      { c with
        inited := true
        x := [nth pc.1 0, nth pc.1 1, psi] ++ List.replicate 12 0
        p := mat 15 15 (fun i j => if i ≠ j then 0 else if i < 2 then pc.2 else if i = 2 then hc.2 else Config.ekfStart i)
        lastPosUpd := s.now, lastHdgUpd := s.now, hist := [], drPos := false, posLost := false, drHdg := false, hdgLost := false
        resetRunPos := 0, resetRunHdg := 0, resetPosDue := false, resetHdgDue := false }

/-! ### Motion and wind (R79, R80) -/

/-- The values of the motion and wind references at this fence. -/
def State.estOut (s : State) (o : EstOut) : EstOut :=
  let ms := s.acceptedOf 2
  let mv (k : Nat) : Rat := s.motionAt k s.frame.startT
  let ws := (s.acceptedOf 3).filter (fun i => 0 < (s.slot i).share)
  let vx := meanQ (ws.map (fun i => nth (s.slot i).lastVal 0 * Config.cos (nth (s.slot i).lastVal 1)))
  let vy := meanQ (ws.map (fun i => nth (s.slot i).lastVal 0 * Config.sin (nth (s.slot i).lastVal 1)))
  { o with
    roll := if ms.isEmpty then o.roll else mv 0, pitch := if ms.isEmpty then o.pitch else mv 1
    heave := if ms.isEmpty then o.heave else mv 2, motionGood := !ms.isEmpty
    windSpeed := if ws.isEmpty then o.windSpeed else Config.sqrt (len2 vx vy)
    windDir := if ws.isEmpty then o.windDir else wrap2Pi (Config.atan2 vy vx), windGood := !ws.isEmpty }

/-! ### One fence (R66–R88) -/

/-- The core changed. -/
def State.modCore (s : State) (f : EstCore → EstCore) : State := { s with est := { s.est with core := f s.est.core } }

/-- Whether every reference of a kind with a new sample fails prediction, at least two do, and they agree. R72. -/
def State.allFail (s : State) (l : List RefEval) : Bool :=
  2 ≤ l.length && l.all (fun e => e.fail = 4) &&
    (let ds := s.medDevs l
     if l.length = 2 then
       match ds with
       | [a, b] => !beyond (vSub a.2 b.2) (s.medLims a.1.slot)
       | _ => false
     else ds.all (fun e => !beyond e.2 (s.medLims e.1.slot)))

/-- The consecutive fences of R72; at the limit the reset is due at the next fence. -/
def State.resetCount (s : State) (kind : Nat) (l : List RefEval) : State × Bool :=
  let all := s.allFail l
  let c := s.est.core
  let run := if all then (if kind = 0 then c.resetRunPos else c.resetRunHdg) + 1 else 0
  let due : Bool := all && decide (s.parN .EST_RESET_FRAMES ≤ run)
  let w := combine (l.map (fun e => (e.nu, 1 / e.r, e.r)))
  let aim := w.1 ++ [w.2]
  (s.modCore (fun c =>
    if kind = 0 then { c with
      resetRunPos := if due then 0 else run, resetPosDue := c.resetPosDue || due, resetPosTo := if due then aim else c.resetPosTo }
    else { c with
      resetRunHdg := if due then 0 else run, resetHdgDue := c.resetHdgDue || due, resetHdgTo := if due then aim else c.resetHdgTo }), due)

/-- A reset that is due from the last fence. R72. -/
def State.applyReset (s : State) (kind : Nat) : State :=
  let c := s.est.core
  let due := if kind = 0 then c.resetPosDue else c.resetHdgDue
  let aim := if kind = 0 then c.resetPosTo else c.resetHdgTo
  if due ∧ ¬ aim.isEmpty then
    let n := aim.length - 1
    (s.modCore (fun c => { (c.resetTo kind (aim.take n) (nth aim n)) with
      resetPosDue := c.resetPosDue && kind ≠ 0, resetHdgDue := c.resetHdgDue && kind = 0 })).event .EST_RESET [wN kind]
  else s

/-- The measurement update of a kind from the accepted new samples; the first after a loss resets the states. R76, R88. -/
def State.kindUpdate (s : State) (kind : Nat) (l : List RefEval) : State :=
  let use := l.filter (fun e => e.fail = 0 && (s.slot e.slot).state = .accepted && !e.nu.isEmpty)
  if use.isEmpty then s
  else
    let w := combine (use.map (fun e => (e.nu, (s.slot e.slot).share, e.r)))
    let lost := if kind = 0 then s.est.core.posLost else s.est.core.resetHdgDue && s.est.core.resetHdgTo.isEmpty
    if lost then
      let s := s.modCore (fun c => { (c.resetTo kind w.1 w.2) with
        posLost := c.posLost && kind ≠ 0, resetHdgDue := c.resetHdgDue && kind = 0
        lastPosUpd := if kind = 0 then s.now else c.lastPosUpd, lastHdgUpd := if kind = 0 then c.lastHdgUpd else s.now })
      let s := s.event .EST_RESET [wN kind]
      if kind = 0 then (s.clearAlarm .POS_LOST).clearAlarm .POS_DR else s.clearAlarm .HDG_DR
    else
      let s := s.modCore (fun c => { (s.estUpdate c kind w.1 w.2) with
        lastPosUpd := if kind = 0 then s.now else c.lastPosUpd, lastHdgUpd := if kind = 0 then c.lastHdgUpd else s.now })
      s.clearAlarm (if kind = 0 then .POS_DR else .HDG_DR)

/-- Dead reckoning starts where a kind has no ACCEPTED reference. R86, R87, R91. -/
def State.drState (s : State) : State :=
  if ¬ s.est.core.inited then s
  else
    let np : Bool := (s.acceptedOf 0).isEmpty
    let nh : Bool := (s.acceptedOf 1).isEmpty
    let s := s.modCore (fun c => { c with drPos := np, drHdg := nh })
    let s := if np then s.raiseAlarm .POS_DR else s
    if nh then s.raiseAlarm .HDG_DR else s

/-- Deviation from the median, shown by motion and wind slots with three or more references. R90. -/
def State.showDev (s : State) (l : List RefEval) : State :=
  let n := (l.filter (fun e => e.fail = 0 || e.fail = 5)).length
  l.foldl (fun s e => s.modSlot e.slot (fun z => { z with nis := if 3 ≤ n then some e.dev else none })) s

/-- A motion sample that passed joins its reference's samples of the last 2 s and the one before them. R63, R79. -/
def State.keepMotion (s : State) (e : RefEval) : State :=
  if e.fail ≠ 0 then s
  else s.modSlot e.slot (fun z =>
    let l := z.past.takeWhile (fun o => e.x.t < o.1 + 2000000000)
    { z with past := (e.x.t, e.x.vals) :: (l ++ (z.past.drop l.length).take 1) })

/-- The initialisation, first or repeated: it waits for references of both kinds, and ends what dead reckoning had raised. R84, R91. -/
def State.initStep (s : State) : State :=
  if (s.acceptedOf 0).isEmpty ∨ (s.acceptedOf 1).isEmpty then s
  else
    let s := State.modCore { s with est := { s.est with dueReinit := false } } (fun c => s.estInit c)
    [EvCode.POS_DR, .POS_LOST, .HDG_DR, .HDG_LOST].foldl (fun s a => s.clearAlarm a) s

/-- Estimation of a frame on its fenced set. -/
def State.estimate (s : State) : State :=
  let s := slotAll.foldl (fun s i => s.readSlot i) s
  -- motion and wind first: the position references need them
  let r2 := s.testKind 2 []
  let s := r2.2.1.foldl (fun s e => (s.applyEval e false).keepMotion e) r2.1
  let s := (s.showDev r2.2.1).disagree 2 r2.2.2
  let r3 := s.testKind 3 []
  let s := r3.2.1.foldl (fun s e => s.applyEval e false) r3.1
  let s := (s.showDev r3.2.1).disagree 3 r3.2.2
  let s := (s.setShares 2).setShares 3
  let s := (s.modCore (fun c => { c with out := s.estOut c.out })).windStep
  -- prediction, and what is due from the last fence
  let s := s.modCore s.estPredict
  let s := (s.applyReset 0).applyReset 1
  let h := s.fenceRec s.est.core :: s.est.core.hist
  -- position and heading
  let r0 := s.testKind 0 h
  let c0 := r0.1.resetCount 0 r0.2.1
  let s := r0.2.1.foldl (fun s e => s.applyEval e c0.2) c0.1
  let s := s.disagree 0 r0.2.2
  let r1 := s.testKind 1 h
  let c1 := r1.1.resetCount 1 r1.2.1
  let s := r1.2.1.foldl (fun s e => s.applyEval e c1.2) c1.1
  let s := s.disagree 1 r1.2.2
  let s := (s.setShares 0).setShares 1
  let s := if ¬ s.est.core.inited ∨ (s.est.dueReinit ∧ ¬ (s.acceptedOf 0).isEmpty ∧ ¬ (s.acceptedOf 1).isEmpty) then s.initStep
    else (s.kindUpdate 0 r0.2.1).kindUpdate 1 r1.2.1
  let s := s.modCore (fun c => { c with hist := if c.inited then (s.fenceRec c :: c.hist).take 100 else [] })
  let s := s.drState
  s.alarmIf (decide (((s.acceptedOf 0).length : Rat) < s.par .EST_MIN_POS_REFS)) .POS_REF_LOW

/-- Estimation that has not completed: the previous estimate propagated by one frame. R43. -/
def State.estimateLate (s : State) : State :=
  let s := s.modCore s.estPredict
  s.modCore (fun c => { c with hist := if c.inited then (s.fenceRec c :: c.hist).take 100 else [] })

/-! ### What the hold function reads, and the points (R65, R89, R90) -/

/-- The low-frequency states: north, east, heading, surge, sway and yaw rate of END1. -/
def State.lf (s : State) : List Rat := s.est.core.x.take 6

/-- Whether the estimate is usable. R84. -/
def State.estGood (s : State) : Bool := s.est.core.inited

/-- Larger eigenvalue of the horizontal covariance. R86. -/
def EstCore.posEig (c : EstCore) : Rat :=
  let a := ent 15 c.p 0 0
  let d := ent 15 c.p 1 1
  let b := ent 15 c.p 0 1
  (a + d) / 2 + Config.sqrt ((a - d) * (a - d) / 4 + b * b)

/-- Seconds since the last position update while dead-reckoning. R86. -/
def State.drTime (s : State) : Nat := if s.est.core.drPos then (s.now - s.est.core.lastPosUpd) / 1000000000 else 0

/-- EST_MODE. R89. -/
def State.estMode (s : State) : Nat :=
  let c := s.est.core
  b2n c.drPos + 2 * b2n c.posLost + 4 * b2n c.drHdg + 8 * b2n c.hdgLost + 16 * b2n (!s.motionOk) + 32 * b2n (!s.waveOn)

/-- The points of the estimator, in the body frame of the selected end: wind direction, roll and pitch turn with it as surge and sway do
(log 102). Every one carries NO_MOTION without a motion reference, LATE in a late frame, and BAD before initialisation. R6, R43, R64, R65, R84,
R89. -/
def estPoints (s : State) : List (Nat × PVal × Half) :=
  let c := s.est.core
  let x := nth c.x
  let end2 : Bool := s.hold.core.endSel = 2
  let sg : Rat := if end2 then -1 else 1
  let turn (a : Rat) : Rat := wrap2Pi (if end2 then a + pi else a)
  let mo : Half := if s.motionOk then 0 else rNoMotion
  let base : Half := if ¬ c.inited then qBad else if s.est.lateOut then qUncertain ||| rLate else qGood
  let q : Half := base ||| mo
  let wq : Half := if c.out.windGood then q else qBad ||| mo
  let mq : Half := if c.out.motionGood then q else qBad ||| mo
  let a := ent 15 c.p 0 0
  let d := ent 15 c.p 1 1
  [(512, pvF (x 0), q), (513, pvF (x 1), q), (514, pvF (turn (x 2)), q), (515, pvF (sg * x 3), q),
    (516, pvF (sg * x 4), q), (517, pvF (x 5), q), (518, pvF (x 6), q), (519, pvF (x 7), q), (520, pvF (x 8), q), (521, pvF (x 9), q),
    (522, pvF (x 11), q), (523, pvF (x 13), q), (524, pvF (Config.sqrt (if a < d then d else a)), q), (525, pvF (Config.sqrt (ent 15 c.p 2 2)), q),
    (526, pvX s.estMode, q), (527, pvU s.drTime, q), (528, pvF (245 / 100 * Config.sqrt c.posEig), q),
    (529, pvU (s.acceptedOf 0).length, q), (530, pvU (s.acceptedOf 1).length, q), (531, pvF c.out.windSpeed, wq),
    (532, pvF (turn c.out.windDir), wq), (533, pvF (sg * c.out.roll), mq), (534, pvF (sg * c.out.pitch), mq), (535, pvF c.out.heave, mq)]

/-- Code of a slot's state. R58. -/
def RefState.code : RefState → Nat
  | .notConfigured => 0
  | .deselected => 1
  | .unavailable => 2
  | .trial => 3
  | .accepted => 4
  | .rejected => 5

/-- The points of the slots. R90. -/
def refPoints (s : State) : List (Nat × PVal × Half) :=
  slotAll.flatMap (fun i =>
    let z := s.slot i
    let b := 1024 + 4 * i
    [(b, pvE z.state.code, qGood), (b + 1, pvE z.reason, qGood), (b + 2, pvF z.share, qGood),
      (b + 3, pvF (z.nis.getD 0), if z.nis.isSome then qGood else qBad)])

/-! ### Commands at the fence (R67, R92) -/

/-- Selections, retries and a re-initialisation take effect before testing. -/
def State.estFence (s : State) : State :=
  let s := s.est.pendSelect.foldl (fun s e =>
    let s := s.modSlot e.1 (fun z => { z with selected := e.2 })
    if e.2 then s
    else (s.modSlot e.1 (fun z => { z with state := .deselected, reason := 0, share := 0, trialSince := none })).clearAlarm .REF_REJECTED e.1) s
  let s := s.est.pendRetry.foldl (fun s i =>
    s.modSlot i (fun z => if z.state = .rejected then
      { z with state := .trial, reason := 0, trialSince := none, rejections := [], latched := false, predFails := 0, divFilter := [] }
    else { z with rejections := [], latched := false })) s
  { s with est := { s.est with pendSelect := [], pendRetry := [], pendReinit := false, dueReinit := s.est.dueReinit || s.est.pendReinit } }

/-- The standby's estimate against the mirrored one: consecutive frames beyond and within the limits. R85, R91. -/
def State.peerDiff (s : State) (standby : Bool) : State :=
  let c := s.est.core
  let dn := nth c.x 0 - s.frame.activeN
  let de := nth c.x 1 - s.frame.activeE
  let lim := s.par .EST_PEER_DIFF
  let far : Bool := decide (lim * lim < len2 dn de) || decide (rad (s.par .EST_PEER_DIFF_HDG) < absQ (wrapPi (nth c.x 2 - s.frame.activePsi)))
  if ¬ standby ∨ ¬ c.inited ∨ s.frame.mirrorApplied.isNone then s
  else
    let s := { s with est := { s.est with
      peerDiffRun := if far then s.est.peerDiffRun + 1 else 0, peerOkRun := if far then 0 else s.est.peerOkRun + 1 } }
    if 50 ≤ s.est.peerOkRun then s.clearAlarm .EST_PEER_DIFF else s

end Sys2Proof.Machine
end

