-- ==== Sys2Proof/Machine/Mem.lean ====
section
/-!
DEFINITION. Memory as one canonical list: addresses strictly rising, no listed byte equal to what an unlisted address reads as
(0, log 6). DRAM, its regions and the solver SRAMs (spec/01 R13, spec/17 R501).
-/
namespace Sys2Proof.Machine

/-- A memory: cells in strictly rising order of address. -/
abbrev Memory := List Host.Cell

/-- What an address that nothing has written reads as (log 6). -/
def Memory.blank : Byte := 0

/-- The byte at an address. -/
def Memory.get : Memory → Nat → Byte
  | [], _ => Memory.blank
  | (b, v) :: m, a => if a = b then v else if a < b then Memory.blank else Memory.get m a

/-- A cell in front of a memory, unless it holds what an unlisted address reads as. -/
def Memory.cons (a : Nat) (v : Byte) (m : Memory) : Memory := if v = Memory.blank then m else (a, v) :: m

/-- The memory with a byte written. -/
def Memory.set : Memory → Nat → Byte → Memory
  | [], a, v => Memory.cons a v []
  | (b, w) :: m, a, v =>
    if a = b then Memory.cons a v m else if a < b then Memory.cons a v ((b, w) :: m) else (b, w) :: Memory.set m a v

/-- Bytes read from an address on. -/
def Memory.read (m : Memory) (a n : Nat) : List Byte := (List.range n).map (fun i => m.get (a + i))

/-- Bytes written from an address on. -/
def Memory.write (m : Memory) : Nat → List Byte → Memory
  | _, [] => m
  | a, b :: bs => Memory.write (m.set a b) (a + 1) bs

/-- Whether every address of a memory lies above `a`, rising, with no blank cell. -/
def Memory.above : Nat → Memory → Bool
  | _, [] => true
  | a, (b, v) :: m => decide (a < b) && decide (v ≠ Memory.blank) && Memory.above b m

/-- The canonical form. -/
def Memory.wf : Memory → Bool
  | [] => true
  | (a, v) :: m => decide (v ≠ Memory.blank) && Memory.above a m

/-! ### Regions (spec/01 R13) -/

/-- First address of DRAM. -/
def dramLo : Nat := 0x80000000
/-- Last address of DRAM. -/
def dramHi : Nat := 0x27FFFFFFF
/-- The shared region. -/
def sharedLo : Nat := 0x180000000
/-- Last address of the shared region. -/
def sharedHi : Nat := 0x23FFFFFFF
/-- The integrator partition's region. -/
def partLo : Nat := 0x240000000
/-- Last address of the integrator partition's region. -/
def partHi : Nat := 0x27FFFFFFF
/-- APP-1's region. -/
def app1Lo : Nat := 0x100000000
/-- Last address of APP-1's region. -/
def app1Hi : Nat := 0x17FFFFFFF

/-- Whether `n` bytes from `a` lie in a range. -/
def inRange (lo hi a n : Nat) : Bool := lo ≤ a && a + n ≤ hi + 1

/-- Whether two ranges of bytes share one. -/
def overlaps (a n b m : Nat) : Bool := n ≠ 0 && m ≠ 0 && a < b + m && b < a + n

end Sys2Proof.Machine
end

