-- ==== Sys2Proof/Machine/HenMath.lean ====
section
/-!
DEFINITION. The arithmetic of the Hold engine: operand layout, checks of the inputs, the dense operations with their pivot
rule, and the interior-point operations (spec/07 R196–R208). The order in which an operation rounds inside a formula is the model's reading
(log 50).
-/
namespace Sys2Proof.Machine

/-! ### Layout (R201–R203) -/

/-- A number of elements rounded up to a multiple of 8. R201. -/
def up8 (n : Nat) : Nat := (n + 7) / 8 * 8

/-- Words of an operand of `r` rows and `c` columns. R201. -/
def shapeWords (s : Nat × Nat) : Nat := up8 s.1 * s.2

/-- Operation codes with a meaning. R202. -/
def henOps : List Nat := [0x01, 0x02, 0x03, 0x04, 0x05, 0x06, 0x07, 0x08, 0x10, 0x11]

/-- Whether an option bit is set: 0 TRANS_A, 1 TRANS_B, 2 UPPER, 3 UNIT_DIAG, 4 WARM, 5 IRQ. R225. -/
def optBit (opt i : Nat) : Bool := opt.testBit i

/-- The shapes of the input operands in order. R202. -/
def inShapes (op opt n m k : Nat) : List (Nat × Nat) :=
  let ta := optBit opt 0
  let tb := optBit opt 1
  let warm : List (Nat × Nat) := if optBit opt 4 then [(n, 1)] else []
  match op with
  | 0x01 => [(n, n)]
  | 0x02 => [(n, n)]
  | 0x03 => [(n, n)]
  | 0x04 => [(m, n)]
  | 0x05 => [(n, n), (n, 1)]
  | 0x06 => [(n, n), (n, k)]
  | 0x07 => [(8, 1), (m, n), (if ta then m else n, 1), (if ta then n else m, 1)]
  | 0x08 => [(8, 1), if ta then (k, m) else (m, k), if tb then (n, k) else (k, n), (m, n)]
  | 0x10 => [(n, n), (n, 1), (n, 1), (n, 1), (m, n), (m, 1), (m, 1), (8, k)] ++ warm
  | 0x11 => [(3, n), (3, 1), (3, 1), (n, 1), (n, 1), (n, 1), (n, 1), (m, n), (m, 1), (m, 1), (8, k)] ++ warm
  | _ => []

/-- The shapes of the output operands in order. R202. -/
def outShapes (op opt n m k : Nat) : List (Nat × Nat) :=
  match op with
  | 0x01 => [(n, n)]
  | 0x02 => [(n, n)]
  | 0x03 => [(n, n), (n, 1)]
  | 0x04 => [(m, n), (n, 1)]
  | 0x05 => [(n, 1)]
  | 0x06 => [(n, k)]
  | 0x07 => [(if optBit opt 0 then n else m, 1)]
  | 0x08 => [(m, n)]
  | 0x10 => [(n, 1), (8, 1), (n, 1), (m, 1), (k, 1)]
  | 0x11 => [(n, 1), (3, 1), (8, 1)]
  | _ => []

/-- Bytes of a block. R201. -/
def blockBytes (l : List (Nat × Nat)) : Nat := 4 * sumN (l.map shapeWords)

/-- Words of a problem's output block. -/
def HenProblem.outWords (p : HenProblem) : Nat := sumN ((outShapes p.op p.opt p.n p.m p.k).map shapeWords)

/-- First word of operand i in the input block. -/
def HenProblem.opStart (p : HenProblem) (i : Nat) : Nat := sumN (((inShapes p.op p.opt p.n p.m p.k).take i).map shapeWords)

/-- The word of operand i at row r and column c. -/
def HenProblem.at (p : HenProblem) (i r c : Nat) : Word :=
  let sh := (inShapes p.op p.opt p.n p.m p.k).getD i (0, 0)
  p.words.getD (p.opStart i + c * up8 sh.1 + r) 0

/-- A block built from operands: each with its shape and its elements by column; padding is zero. R201. -/
def mkBlock (l : List ((Nat × Nat) × List Word)) : List Word :=
  l.flatMap (fun e => (List.range e.1.2).flatMap (fun c =>
    ((e.2.drop (c * e.1.1)).take e.1.1 ++ List.replicate (up8 e.1.1) 0).take (up8 e.1.1)))

/-! ### Numbers (R196–R198) -/

/-- Whether a word is NaN or infinite. R197. -/
def nonFinite (w : Word) : Bool := (f32Val w).isNone

/-- Whether a word is NaN. -/
def isNaN (w : Word) : Bool := nonFinite w && w.toNat % 2 ^ 23 ≠ 0

/-- Flag bits of R226. -/
def hfTiny : Nat := 1
/-- PIV_NONPOS. -/
def hfNonpos : Nat := 2
/-- OVF. -/
def hfOvf : Nat := 4
/-- NONFINITE. -/
def hfNonfinite : Nat := 8
/-- BADBND. -/
def hfBadbnd : Nat := 16
/-- STRUCT. -/
def hfStruct : Nat := 32
/-- MEMERR. -/
def hfMemerr : Nat := 64
/-- SUSPENDED. -/
def hfSusp : Nat := 128
/-- CLUSTER_LOST. -/
def hfLost : Nat := 256

/-- The largest finite binary32 number. R198. -/
def f32Max : Rat := ((2 ^ 24 - 1 : Nat) : Rat) * pow2 104

/-- A number in HEN: its value, the sign of a zero, and whether it or a number it was computed from was saturated. R196, R198. -/
structure HNum where
  v : Rat := 0
  neg : Bool := false
  ovf : Bool := false
  deriving DecidableEq, Repr

/-- The sign of a number, a zero's included. -/
def HNum.sgn (x : HNum) : Bool := if x.v = 0 then x.neg else decide (x.v < 0)

/-- A number whose zero is positive. -/
def HNum.of (q : Rat) : HNum := { v := q }

/-- A number negated. -/
def HNum.minus (x : HNum) : HNum := { x with v := -x.v, neg := !x.neg }

/-- An input element: a subnormal reads as zero of its sign. R196. -/
def hIn (w : Word) : HNum := { v := if (w.toNat / 2 ^ 23) % 256 = 0 then 0 else f32 w, neg := w.toNat / 2 ^ 31 = 1 }

/-- A number stored: rounded once to nearest even, a subnormal to zero of its sign, saturated beyond the largest finite one. R196, R198. -/
def HNum.store (x : HNum) : HNum :=
  let e := ((toF32 x.v).toNat / 2 ^ 23) % 256
  if e = 255 then { v := if x.v < 0 then -f32Max else f32Max, ovf := true }
  else if e = 0 then { x with v := 0, neg := x.sgn }
  else { x with v := f32 (toF32 x.v) }

/-- The word of a stored number. -/
def HNum.word (x : HNum) : Word := if x.v = 0 then (if x.neg then 0x80000000 else 0) else toF32 x.v

/-- A sum, exact: two zeros of one sign keep it, any other zero sum is positive. -/
def HNum.plus (x y : HNum) : HNum := { v := x.v + y.v, neg := x.sgn && y.sgn, ovf := x.ovf || y.ovf }

/-- A product, exact. -/
def HNum.times (x y : HNum) : HNum := { v := x.v * y.v, neg := x.sgn != y.sgn, ovf := x.ovf || y.ovf }

/-- Sum, difference, product and fused multiply-add, each rounded once. R196. -/
def HNum.add (x y : HNum) : HNum := (x.plus y).store
/-- The difference. -/
def HNum.sub (x y : HNum) : HNum := (x.plus y.minus).store
/-- The product. -/
def HNum.mul (x y : HNum) : HNum := (x.times y).store
/-- x·y + z. -/
def HNum.fma (x y z : HNum) : HNum := ((x.times y).plus z).store

/-- A quotient, rounded once; by zero it is beyond every finite number. R196, R198. -/
def HNum.div (x y : HNum) : HNum :=
  let n : Bool := x.sgn != y.sgn
  if y.v = 0 ∧ x.v ≠ 0 then { v := if n then -f32Max else f32Max, ovf := true }
  else HNum.store { v := x.v / y.v, neg := n, ovf := x.ovf || y.ovf }

/-- The square root of a positive number, rounded once; zero otherwise. R196. -/
def HNum.sqrt (x : HNum) : HNum :=
  if x.v ≤ 0 then { x with v := 0, neg := false }
  else
    let e := ilog2 x.v / 2
    let n := (x.v * pow2 (2 * (30 - e))).floor.toNat
    let r := n.sqrt
    let exact : Bool := decide (r * r = n) && decide ((n : Rat) = x.v * pow2 (2 * (30 - e)))
    HNum.store { x with v := ((2 * r + (if exact then 0 else 1) : Nat) : Rat) / 2 * pow2 (e - 30) }

/-- A number in the extended format: 48 bits of significand, to nearest even. R196. -/
def HNum.ext (x : HNum) : HNum :=
  if x.v = 0 then x
  else
    let a := absQ x.v
    let e := ilog2 a
    let m : Rat := ((roundEven (a * pow2 (47 - e)) : Nat) : Rat) * pow2 (e - 47)
    { x with v := if x.v < 0 then -m else m }

/-- A reduction: an initial number and products in ascending index order, in the extended format, stored once. R196. -/
def hAcc (init : HNum) (l : List (HNum × HNum)) : HNum := (l.foldl (fun a e => ((e.1.times e.2).plus a).ext) init).store

/-- The larger of two numbers. -/
def HNum.max (x y : HNum) : HNum := if x.v < y.v then y else x

/-- The magnitude of a number. -/
def HNum.abs (x : HNum) : HNum := { x with v := absQ x.v, neg := false }

/-! ### Work of an operation -/

/-- What an operation has computed so far: one list of numbers, its flags, the first replaced pivot, and the smallest pivot met. -/
structure Kern where
  a : List HNum := []
  flags : Nat := 0
  piv : Option Nat := none
  least : Option HNum := none
  deriving DecidableEq, Repr

/-- An element of the work. -/
def Kern.g (k : Kern) (i : Nat) : HNum := k.a.getD i {}

/-- A number put into the work. -/
def Kern.put (k : Kern) (i : Nat) (x : HNum) : Kern := { k with a := k.a.set i x }

/-- The flags with OVF where a number was saturated. R198. -/
def Kern.allFlags (k : Kern) : Nat := k.flags ||| (if k.a.any HNum.ovf then hfOvf else 0)

/-- A pivot under the rule of R200: `pos` where a pivot at or below zero is not legal. -/
def Kern.pivot (k : Kern) (idx : Nat) (t d : HNum) (pos : Bool) : HNum × Kern :=
  let k : Kern := { k with least := some (match k.least with
    | none => d
    | some x => if d.v < x.v then d else x) }
  let note (k : Kern) (f : Nat) : Kern := { k with flags := k.flags ||| f, piv := some (k.piv.getD idx) }
  let t : HNum := { t with ovf := t.ovf || d.ovf }
  if pos ∧ d.v ≤ 0 then (t, note k hfNonpos)
  else if absQ d.v ≤ t.v then (if d.v < 0 then t.minus else t, note k hfTiny)
  else (d, k)

/-- The pivot threshold of a matrix given by its diagonal and its elements. R199. -/
def pivThreshold (e : Nat) (diag els : List HNum) : HNum :=
  let s := (hAcc {} (diag.map (fun d => (d.abs, HNum.of 1)))).div (HNum.of diag.length)
  let s := if s.v = 0 then els.foldl (fun m x => m.max x.abs) {} else s
  if s.v = 0 then HNum.of (pow2 (-126)) else HNum.mul (HNum.of (pow2 (-(e : Int)))) s

/-- Pairs (i, j) with i in a range. -/
def upto (a b : Nat) : List Nat := (List.range (b - a)).map (· + a)

/-- The symmetric matrix of an operand as its lower triangle, read from the upper one with UPPER. R202. -/
def HenProblem.lower (p : HenProblem) (i r c : Nat) : HNum := if optBit p.opt 2 then hIn (p.at i c r) else hIn (p.at i r c)

/-- The threshold of a symmetric matrix given by its lower triangle. R199. -/
def symThreshold (e n : Nat) (m : Nat → Nat → HNum) : HNum :=
  pivThreshold e ((List.range n).map (fun i => m i i)) ((List.range n).flatMap (fun c => (upto c n).map (fun r => m r c)))

/-- The factor of a symmetric matrix, element (r, c) at r + n·c, its pivots counted from `base`. R200. -/
def cholK (n base : Nat) (t : HNum) (m : Nat → Nat → HNum) (k0 : Kern) : Kern :=
  (List.range n).foldl (fun k c =>
    let row (k : Kern) (r : Nat) : HNum := hAcc (m r c) ((List.range c).map (fun j => ((k.g (r + n * j)).minus, k.g (c + n * j))))
    let (d, k) := k.pivot (base + c) t (row k c) true
    let k := k.put (c + n * c) d.sqrt
    (upto (c + 1) n).foldl (fun k r => k.put (r + n * c) ((row k r).div (k.g (c + n * c)))) k)
    { k0 with a := List.replicate (n * n) {} }

/-- LDLT: the unit lower factor with D on the diagonal. R200, R202. -/
def ldltK (p : HenProblem) : Kern :=
  let n := p.n
  let t := symThreshold p.pivExp n (p.lower 0)
  (List.range n).foldl (fun k c =>
    let w := (List.range c).map (fun j => (k.g (c + n * j)).mul (k.g (j + n * j)))
    let row (k : Kern) (r : Nat) : HNum := hAcc (p.lower 0 r c) ((List.range c).map (fun j => ((k.g (r + n * j)).minus, w.getD j {})))
    let (d, k) := k.pivot c t (row k c) false
    let k := k.put (c + n * c) d
    (upto (c + 1) n).foldl (fun k r => k.put (r + n * c) ((row k r).div d)) k) { a := List.replicate (n * n) {} }

/-- Two rows of the work exchanged, columns 0 to n − 1. -/
def Kern.swapRows (k : Kern) (n r s : Nat) : Kern :=
  (List.range n).foldl (fun k c =>
    let x := k.g (r + n * c)
    let y := k.g (s + n * c)
    (k.put (r + n * c) y).put (s + n * c) x) k

/-- LUPP: L strictly below the diagonal and U on and above, with the row taken at each step: the lowest row of the largest magnitude. R200,
R202. -/
def luppK (p : HenProblem) : Kern × List Nat :=
  let n := p.n
  let els := (List.range n).flatMap (fun c => (List.range n).map (fun r => hIn (p.at 0 r c)))
  let t := pivThreshold p.pivExp ((List.range n).map (fun i => hIn (p.at 0 i i))) els
  (List.range n).foldl (fun s c =>
    let (k, pv) := s
    let k := (List.range n).foldl (fun k r =>
      k.put (r + n * c) (hAcc (k.g (r + n * c)) ((List.range (min r c)).map (fun j => ((k.g (r + n * j)).minus, k.g (j + n * c)))))) k
    let best := (upto c n).foldl (fun b r => if absQ (k.g (b + n * c)).v < absQ (k.g (r + n * c)).v then r else b) c
    let k := if best = c then k else k.swapRows n c best
    let (u, k) := k.pivot c t (k.g (c + n * c)) false
    let k := k.put (c + n * c) u
    ((upto (c + 1) n).foldl (fun k r => k.put (r + n * c) ((k.g (r + n * c)).div u)) k, pv ++ [best])) ({ a := els }, [])

/-- QRH: one Householder reflection a column: R on and above the diagonal, the vector below it with its leading 1 left out, and tau. The
reflection that makes r_kk of the sign opposite to the column's first element; none where everything below that element is zero (DESIGN
CHOICE, log 50). R200, R202. -/
def qrhK (p : HenProblem) : Kern × List HNum :=
  let m := p.m
  let els := (List.range p.n).flatMap (fun c => (List.range m).map (fun r => hIn (p.at 0 r c)))
  let t := pivThreshold p.pivExp ((List.range p.n).map (fun i => hIn (p.at 0 i i))) els
  (List.range p.n).foldl (fun s c =>
    let (k, taus) := s
    let al := k.g (c + m * c)
    let below := (upto (c + 1) m).map (fun r => (k.g (r + m * c), k.g (r + m * c)))
    if (hAcc {} below).v = 0 then
      let (u, k) := k.pivot c t al false
      (k.put (c + m * c) u, taus ++ [{}])
    else
      let norm := (hAcc {} ((al, al) :: below)).sqrt
      let beta := if al.sgn then norm else norm.minus
      let tau := (beta.sub al).div beta
      let k := (upto (c + 1) m).foldl (fun k r => k.put (r + m * c) ((k.g (r + m * c)).div (al.sub beta))) k
      let k := (upto (c + 1) p.n).foldl (fun k j =>
        let w := tau.mul (hAcc (k.g (c + m * j)) ((upto (c + 1) m).map (fun r => (k.g (r + m * c), k.g (r + m * j)))))
        let k := k.put (c + m * j) ((k.g (c + m * j)).sub w)
        (upto (c + 1) m).foldl (fun k r => k.put (r + m * j) ((k.g (r + m * c)).minus.fma w (k.g (r + m * j)))) k) k
      let (u, k) := k.pivot c t beta false
      (k.put (c + m * c) u, taus ++ [tau])) ({ a := els }, [])

/-- A triangular solve of one right-hand side by op(T): the solution at 0 to n − 1. R200, R202. -/
def trsvK (p : HenProblem) (b : Nat → HNum) (k0 : Kern) : Kern :=
  let n := p.n
  let ta := optBit p.opt 0
  let unit := optBit p.opt 3
  let tt (r c : Nat) : HNum := if ta then hIn (p.at 0 c r) else hIn (p.at 0 r c)
  let lower : Bool := optBit p.opt 2 = ta
  let t := pivThreshold p.pivExp ((List.range n).map (fun i => tt i i))
    ((List.range n).flatMap (fun c => ((List.range n).filter (fun r => if lower then c ≤ r else r ≤ c)).map (fun r => tt r c)))
  let order := if lower then List.range n else (List.range n).reverse
  order.foldl (fun k r =>
    let known := if lower then List.range r else upto (r + 1) n
    let v := hAcc (b r) (known.map (fun j => ((tt r j).minus, k.g j)))
    if unit then k.put r v
    else
      let (d, k) := k.pivot r t (tt r r) false
      k.put r (v.div d)) { k0 with a := List.replicate n {} }

/-- Numbers as stored words, by columns of a shape. -/
def outWordsOf (sh : Nat × Nat) (l : List HNum) : List Word := mkBlock [(sh, l.map HNum.word)]

/-- α·(dot product) + β·(old): the dot product stored, then one multiply and one fused multiply-add. -/
def axpby (al be d old : HNum) : HNum := be.fma old (al.mul d)

/-! ### Checks of the inputs (R197, R205) -/

/-- Whether an element of operand i at (r, c) is an input: not outside a triangle that is read, nor a unit diagonal. R197, R202. -/
def HenProblem.isRead (p : HenProblem) (i r c : Nat) : Bool :=
  let tri : Bool := if optBit p.opt 2 then r ≤ c else c ≤ r
  let solve : Bool := i ≠ 0 || (tri && !(optBit p.opt 3 && r = c))
  match p.op with
  | 0x01 => tri
  | 0x02 => tri
  | 0x05 => solve
  | 0x06 => solve
  | 0x07 => i ≠ 0 || r < 2
  | 0x08 => i ≠ 0 || r < 2
  | 0x10 => if i = 0 then c ≤ r else if i = 7 then (r = 1 || r = 2) else true
  | 0x11 => if i = 10 then (r = 1 || r = 2) else true
  | _ => true

/-- Whether operand i holds bounds, whose infinities are legal. R197. -/
def HenProblem.isBound (p : HenProblem) (i r : Nat) : Bool :=
  (p.op = 0x10 && (i = 2 || i = 3 || i = 5 || i = 6 || (i = 7 && (r = 3 || r = 4)))) ||
  (p.op = 0x11 && (i = 5 || i = 6 || i = 8 || i = 9 || (i = 10 && (r = 3 || r = 4))))

/-- Whether a problem has a non-finite input. R197. -/
def HenProblem.nonfinite (p : HenProblem) : Bool :=
  let shs := inShapes p.op p.opt p.n p.m p.k
  ((List.range shs.length).zip shs).any (fun e =>
    (List.range e.2.2).any (fun c => (List.range e.2.1).any (fun r =>
      let w := p.at e.1 r c
      if p.isBound e.1 r then isNaN w else p.isRead e.1 r c && nonFinite w)))

/-- A bound; none where it binds nothing. R197. -/
def boundOf (w : Word) : Option HNum := if nonFinite w then none else some (hIn w)

/-- Whether a lower bound exceeds an upper bound; an infinity of the wrong sign does so too, NaN compares with nothing. R197, R205. -/
def boundsCross (lo hi : Word) : Bool :=
  let val (w : Word) : Rat := if nonFinite w then (if w.toNat / 2 ^ 31 = 1 then -(pow2 200) else pow2 200) else (hIn w).v
  !isNaN lo && !isNaN hi && decide (val hi < val lo)

/-- The first of an iterating operation's bound operands and of its rows' bounds, and its pair operand. R202. -/
def HenProblem.boxAt (p : HenProblem) : Nat := if p.op = 0x10 then 2 else 5
/-- The operand with the lower bounds of the rows. -/
def HenProblem.rowAt (p : HenProblem) : Nat := if p.op = 0x10 then 5 else 8
/-- The operand with the pair entries. -/
def HenProblem.pairAt (p : HenProblem) : Nat := if p.op = 0x10 then 7 else 10

/-- Whether some lower bound exceeds its upper bound. R205. -/
def HenProblem.badBound (p : HenProblem) : Bool :=
  let worse (i rows : Nat) : Bool := (List.range rows).any (fun r => boundsCross (p.at i r 0) (p.at (i + 1) r 0))
  worse p.boxAt p.n || worse p.rowAt p.m || (List.range p.k).any (fun c => boundsCross (p.at p.pairAt 3 c) (p.at p.pairAt 4 c))

/-- Whether a pair index is out of range, or an ALLOC column has non-zeros in two rows of G. R205. -/
def HenProblem.badStruct (p : HenProblem) : Bool :=
  (List.range p.k).any (fun c =>
    let w := (p.at p.pairAt 0 c).toNat
    p.n ≤ w % 65536 || p.n ≤ w / 65536) ||
  (p.op = 0x11 && (List.range p.n).any (fun c =>
    2 ≤ ((List.range p.m).filter (fun r => nonFinite (p.at 7 r c) || (hIn (p.at 7 r c)).v ≠ 0)).length))

/-- Whether an operation iterates. -/
def iterative (op : Nat) : Bool := 0x10 ≤ op

/-- The flags of a problem that is not computed, every finding among them; none where it is computed. R197, R205. -/
def HenProblem.refused (p : HenProblem) : Option Nat :=
  let on (b : Bool) (f : Nat) : Nat := if b then f else 0
  let f := on p.nonfinite hfNonfinite ||| on (iterative p.op && p.badBound) hfBadbnd ||| on (iterative p.op && p.badStruct) hfStruct
  if f = 0 then none else some (f ||| hfOvf)

/-! ### The interior-point operations (R203–R207) -/

/-- One coordinate of the start point: nearest to zero or to x0 in its box, moved inside each finite bound by 1 % of the width, or by
1.0 where one side is finite. R206. -/
def startCoord (lo hi : Option HNum) (x0 : HNum) : HNum :=
  let one := HNum.of 1
  let below (x b : HNum) : HNum := if b.v < x.v then b else x
  match lo, hi with
  | some l, some h =>
    let w := (h.sub l).div (HNum.of 100)
    below ((below (x0.max l) h).max (l.add w)) (h.sub w)
  | some l, none => (x0.max l).max (l.add one)
  | none, some h => below (below x0 h) (h.sub one)
  | none, none => x0

/-- The x of iterate 0. R206. -/
def HenProblem.startX (p : HenProblem) : List HNum :=
  let w := (inShapes p.op p.opt p.n p.m p.k).length - 1
  (List.range p.n).map (fun j =>
    startCoord (boundOf (p.at p.boxAt j 0)) (boundOf (p.at (p.boxAt + 1) j 0)) (if optBit p.opt 4 then hIn (p.at w j 0) else {}))

/-- A row of the constraints: its coefficients by ascending variable and its bounds; the box's rows, then G's, then the pairs'. R203, R204. -/
structure IpRow where
  co : List (Nat × HNum) := []
  lo : Option HNum := none
  hi : Option HNum := none
  deriving DecidableEq, Repr

/-- The rows of a problem. A pair with l = j is one row on one variable with the sum of its coefficients. R203. -/
def HenProblem.rows (p : HenProblem) : List IpRow :=
  (List.range p.n).map (fun j =>
    ({ co := [(j, HNum.of 1)], lo := boundOf (p.at p.boxAt j 0), hi := boundOf (p.at (p.boxAt + 1) j 0) } : IpRow)) ++
  (List.range p.m).map (fun i =>
    ({ co := (List.range p.n).map (fun j => (j, hIn (p.at (p.rowAt - 1) i j))), lo := boundOf (p.at p.rowAt i 0)
       hi := boundOf (p.at (p.rowAt + 1) i 0) } : IpRow)) ++
  (List.range p.k).map (fun c =>
    let w := (p.at p.pairAt 0 c).toNat
    let j := w % 65536
    let l := w / 65536
    let a := hIn (p.at p.pairAt 1 c)
    let b := hIn (p.at p.pairAt 2 c)
    ({ co := if j = l then [(j, a.add b)] else if j < l then [(j, a), (l, b)] else [(l, b), (j, a)]
       lo := boundOf (p.at p.pairAt 3 c), hi := boundOf (p.at p.pairAt 4 c) } : IpRow))

/-- One finite side of a row: the row's number, whether it is the upper one, its coefficients negated there, and its bound, likewise: the
side states co·x ≥ bound. R206. -/
structure IpSide where
  row : Nat := 0
  upper : Bool := false
  co : List (Nat × HNum) := []
  bound : HNum := {}
  deriving DecidableEq, Repr

/-- The finite sides of the rows, a row's lower side first. R206. -/
def HenProblem.sides (p : HenProblem) : List IpSide :=
  ((List.range p.rows.length).zip p.rows).flatMap (fun e =>
    (match e.2.lo with
      | some b => [({ row := e.1, co := e.2.co, bound := b } : IpSide)]
      | none => []) ++
    (match e.2.hi with
      | some b => [({ row := e.1, upper := true, co := e.2.co.map (fun c => (c.1, c.2.minus)), bound := b.minus } : IpSide)]
      | none => []))

/-- A list of numbers by index. -/
def hAt (l : List HNum) (i : Nat) : HNum := l.getD i {}

/-- The coefficient of a variable in a side, where it has one. -/
def IpSide.at (d : IpSide) (j : Nat) : Option HNum := (d.co.find? (fun c => c.1 = j)).map (·.2)

/-- How far x lies inside a side. -/
def IpSide.inside (d : IpSide) (x : List HNum) : HNum := hAcc d.bound.minus (d.co.map (fun c => (c.2, hAt x c.1)))

/-- The rest τ − B·x of an ALLOC problem. R204. -/
def HenProblem.slack (p : HenProblem) (x : List HNum) : List HNum :=
  (List.range 3).map (fun i => hAcc (hIn (p.at 2 i 0)) ((List.range p.n).map (fun j => ((hIn (p.at 0 i j)).minus, hAt x j))))

/-- h_cost, element (r, c) of its lower triangle: H, or diag(h) + Bᵀ·diag(w)·B. R206. -/
def HenProblem.hCost (p : HenProblem) (r c : Nat) : HNum :=
  if p.op = 0x10 then hIn (p.at 0 r c)
  else
    hAcc (if r = c then hIn (p.at 3 r 0) else {})
      ((List.range 3).map (fun i => ((hIn (p.at 1 i 0)).mul (hIn (p.at 0 i r)), hIn (p.at 0 i c))))

/-- The gradient of the cost. R204. -/
def HenProblem.grad (p : HenProblem) (x : List HNum) : List HNum :=
  if p.op = 0x10 then
    (List.range p.n).map (fun i => hAcc (hIn (p.at 1 i 0)) ((List.range p.n).map (fun j => (p.hCost (max i j) (min i j), hAt x j))))
  else
    let ws := (List.range 3).map (fun i => (hIn (p.at 1 i 0)).mul (hAt (p.slack x) i))
    (List.range p.n).map (fun j => hAcc (hIn (p.at 4 j 0)) ((hIn (p.at 3 j 0), hAt x j) ::
      (List.range 3).map (fun i => ((hIn (p.at 0 i j)).minus, hAt ws i))))

/-- The objective. R204. -/
def HenProblem.objective (p : HenProblem) (x : List HNum) : HNum :=
  let half := HNum.of (1 / 2)
  let all := List.range p.n
  if p.op = 0x10 then
    let hx := all.map (fun i => hAcc {} (all.map (fun j => (p.hCost (max i j) (min i j), hAt x j))))
    half.fma (hAcc {} (all.map (fun i => (hAt x i, hAt hx i)))) (hAcc {} (all.map (fun i => (hIn (p.at 1 i 0), hAt x i))))
  else
    let sl := p.slack x
    let q := hAcc {} (all.map (fun j => ((hIn (p.at 3 j 0)).mul (hAt x j), hAt x j)))
    let r := hAcc {} ((List.range 3).map (fun i => ((hIn (p.at 1 i 0)).mul (hAt sl i), hAt sl i)))
    half.fma r (half.fma q (hAcc {} (all.map (fun j => (hIn (p.at 4 j 0), hAt x j)))))

/-- An iterate: x, a slack and a multiplier for each side, the last step, and what the factorisations met. R206. -/
structure IpIter where
  x : List HNum := []
  sl : List HNum := []
  z : List HNum := []
  step : HNum := {}
  flags : Nat := 0
  piv : Option Nat := none
  ratio : Option HNum := none -- R207: the smallest pivot met, divided by its t
  deriving DecidableEq, Repr

/-- Whether a number of the iterate was saturated. R198. -/
def IpIter.ovf (it : IpIter) : Bool := (it.x ++ it.sl ++ it.z).any HNum.ovf

/-- Iterate 0. R206. -/
def HenProblem.ipStart (p : HenProblem) : IpIter :=
  let x := p.startX
  let sl := p.sides.map (fun d => (d.inside x).max (HNum.of 1))
  { x := x, sl := sl, z := sl.map (fun v => (HNum.of 1).div v) }

/-- The residuals of the sides: how far x lies inside, less the slack. R206. -/
def HenProblem.primal (p : HenProblem) (it : IpIter) : List HNum :=
  (p.sides.zip it.sl).map (fun e => (e.1.inside it.x).sub e.2)

/-- The residual of the stationarity condition. R206, R207. -/
def HenProblem.dual (p : HenProblem) (it : IpIter) : List HNum :=
  ((List.range p.n).zip (p.grad it.x)).map (fun e =>
    hAcc e.2 ((p.sides.zip it.z).filterMap (fun d => (d.1.at e.1).map (fun a => (a.minus, d.2)))))

/-- The mean product of slack and multiplier; zero where no side is finite. R206. -/
def ipMu (sl z : List HNum) : HNum := if sl.isEmpty then {} else (hAcc {} (sl.zip z)).div (HNum.of sl.length)

/-- The largest step to the boundary: none where no slack and no multiplier falls. R206. -/
def ipReach (v d : List HNum) : Option HNum :=
  ((v.zip d).filterMap (fun e => if e.2.v < 0 then some ((e.1.minus).div e.2) else none)).foldl
    (fun (m : Option HNum) q => match m with
      | none => some q
      | some y => some (if q.v < y.v then q else y)) none

/-- A vector moved by a step along a direction. -/
def ipMove (a : HNum) (v d : List HNum) : List HNum := (v.zip d).map (fun e => a.fma e.2 e.1)

/-- min(1, f · largest step), the largest step being without bound where nothing falls. R206. -/
def ipStep (f : Rat) (it : IpIter) (ds dz : List HNum) : HNum :=
  match ipReach (it.sl ++ it.z) (ds ++ dz) with
  | none => HNum.of 1
  | some a =>
    let q := (HNum.of f).store.mul a
    if q.v < 1 then q else HNum.of 1

/-- A solve by the factor l of m: forward, then backward. -/
def cholSolve (n : Nat) (l : Kern) (b : List HNum) : List HNum :=
  let y := (List.range n).foldl (fun (y : List HNum) r =>
    y ++ [(hAcc (hAt b r) ((List.range r).map (fun j => ((l.g (r + n * j)).minus, hAt y j)))).div (l.g (r + n * r))]) []
  (List.range n).reverse.foldl (fun (x : List HNum) r =>
    (hAcc (hAt y r) ((upto (r + 1) n).map (fun j => ((l.g (j + n * r)).minus, hAt x (j - r - 1))))).div (l.g (r + n * r)) :: x) []

/-- The directions of x, slacks and multipliers for given complementarity terms. R206. -/
def HenProblem.ipDir (p : HenProblem) (it : IpIter) (l : Kern) (rp rd rc : List HNum) : List HNum × List HNum × List HNum :=
  let sd := p.sides
  let ix := List.range sd.length
  let w := ix.map (fun i => ((hAt it.z i).fma (hAt rp i) (hAt rc i)).div (hAt it.sl i))
  let rhs := (List.range p.n).map (fun j =>
    hAcc (hAt rd j).minus ((sd.zip w).filterMap (fun d => (d.1.at j).map (fun a => (a.minus, d.2)))))
  let dx := cholSolve p.n l rhs
  let ds := (sd.zip rp).map (fun d => hAcc d.2 (d.1.co.map (fun c => (c.2, hAt dx c.1))))
  let dz := ix.map (fun i => (((hAt it.z i).fma (hAt ds i) (hAt rc i)).div (hAt it.sl i)).minus)
  (dx, ds, dz)

/-- The matrix of an iteration, element (r, c) of its lower triangle. R206. -/
def HenProblem.ipMatrix (p : HenProblem) (it : IpIter) (r c : Nat) : HNum :=
  hAcc (p.hCost r c) ((p.sides.zip (it.z.zip it.sl)).filterMap (fun d =>
    match d.1.at r, d.1.at c with
    | some a, some b => some ((d.2.1.div d.2.2).mul a, b)
    | _, _ => none))

/-- Iteration number `no` + 1, as R206 prints it: the second right-hand side takes the affine direction's products as well as sigma·mu
(log 50). -/
def HenProblem.ipIterate (p : HenProblem) (no : Nat) (it : IpIter) : IpIter :=
  let n := p.n
  let rp := p.primal it
  let rd := p.dual it
  let mu := ipMu it.sl it.z
  let m := p.ipMatrix it
  let cols := (List.range n).map (fun c => (List.range n).map (fun r => if c ≤ r then m r c else {}))
  let look (r c : Nat) : HNum := hAt (cols.getD c []) r
  let t := symThreshold p.pivExp n look
  let l := cholK n (no * n) t look { flags := it.flags, piv := it.piv }
  let sz := (it.sl.zip it.z).map (fun e => e.1.mul e.2)
  let (_, dsA, dzA) := p.ipDir it l rp rd sz
  let aff := ipStep 1 it dsA dzA
  let q := (ipMu (ipMove aff it.sl dsA) (ipMove aff it.z dzA)).div mu
  let sigma := (q.mul q).mul q
  let rc := (sz.zip (dsA.zip dzA)).map (fun e => (e.2.1.fma e.2.2 e.1).sub (sigma.mul mu))
  let (dx, ds, dz) := p.ipDir it l rp rd rc
  let step := ipStep (99 / 100) it ds dz
  let ratio := l.least.map (fun d => d.div t)
  { x := ipMove step it.x dx, sl := ipMove step it.sl ds, z := ipMove step it.z dz, step := step, flags := l.flags, piv := l.piv
    ratio := match it.ratio, ratio with
      | some a, some b => some (if b.v < a.v then b else a)
      | a, none => a
      | none, b => b }

/-- The iterate after at most `k` iterations, the number completed, and whether one overflowed: then the method stops in it. R198, R206. -/
def HenProblem.ipRun (p : HenProblem) (k : Nat) : IpIter × Nat × Bool :=
  (List.range k).foldl (fun s no =>
    if s.2.2 then s
    else
      let it := p.ipIterate no s.1
      if it.ovf then (it, no, true) else (it, no + 1, false)) (p.ipStart, 0, p.ipStart.ovf)

/-- The info block of an iterate: objective, largest primal and dual residual, μ, last step, smallest pivot over its t, and two zeros. R207. -/
def HenProblem.ipInfo (p : HenProblem) (it : IpIter) : List HNum :=
  let top (l : List HNum) : HNum := l.foldl (fun m x => m.max x.abs) {}
  [p.objective it.x, top (p.primal it), top (p.dual it), ipMu it.sl it.z, it.step, it.ratio.getD {}, {}, {}]

/-- The multiplier of a row: positive at an active upper bound, negative at an active lower one. R207. -/
def HenProblem.lambda (p : HenProblem) (it : IpIter) (r : Nat) : HNum :=
  (p.sides.zip it.z).foldl (fun a d => if d.1.row = r then (if d.1.upper then a.add d.2 else a.sub d.2) else a) {}

/-- The output numbers of an iterate, by operand. R202, R207. -/
def HenProblem.ipOut (p : HenProblem) (it : IpIter) : List (List HNum) :=
  if p.op = 0x10 then
    [it.x, p.ipInfo it, (List.range p.n).map (p.lambda it), (List.range p.m).map (fun i => p.lambda it (p.n + i)),
      (List.range p.k).map (fun i => p.lambda it (p.n + p.m + i))]
  else [it.x, p.slack it.x, p.ipInfo it]

/-! ### A problem run to its end -/

/-- What a problem gives: output block, iterations, flags and first replaced pivot. -/
structure HenOut where
  words : List Word := []
  iters : Nat := 0
  flags : Nat := 0
  piv : Option Nat := none
  deriving DecidableEq, Repr

/-- The output of a dense operation from its work. -/
def Kern.out (k : Kern) (sh : Nat × Nat) : HenOut := { words := outWordsOf sh k.a, flags := k.allFlags, piv := k.piv }

/-- A factor of CHOL with UPPER is written as its transpose, of LDLT likewise. R202. -/
def HenProblem.factorOut (p : HenProblem) (k : Kern) : HenOut :=
  let n := p.n
  let a := if optBit p.opt 2 then (List.range n).flatMap (fun c => (List.range n).map (fun r => k.g (c + n * r))) else k.a
  { words := outWordsOf (n, n) a, flags := k.allFlags, piv := k.piv }

/-- The result of an operation that does not iterate. R202. -/
def HenProblem.dense (p : HenProblem) : HenOut :=
  let n := p.n
  let al := hIn (p.at 0 0 0)
  let be := hIn (p.at 0 1 0)
  let ta := optBit p.opt 0
  let tb := optBit p.opt 1
  match p.op with
  | 0x01 => p.factorOut (cholK n 0 (symThreshold p.pivExp n (p.lower 0)) (p.lower 0) {})
  | 0x02 => p.factorOut (ldltK p)
  | 0x03 =>
    let (k, pv) := luppK p
    { words := outWordsOf (n, n) k.a ++ mkBlock [((n, 1), pv.map (BitVec.ofNat 32))], flags := k.allFlags, piv := k.piv }
  | 0x04 =>
    let (k, taus) := qrhK p
    { words := outWordsOf (p.m, n) k.a ++ outWordsOf (n, 1) taus, piv := k.piv
      flags := k.allFlags ||| (if taus.any HNum.ovf then hfOvf else 0) }
  | 0x05 => (trsvK p (fun r => hIn (p.at 1 r 0)) {}).out (n, 1)
  | 0x06 =>
    (List.range p.k).foldl (fun o c =>
      let k := trsvK p (fun r => hIn (p.at 1 r c)) { flags := o.flags, piv := o.piv }
      { words := o.words ++ outWordsOf (n, 1) k.a, flags := k.allFlags, piv := k.piv }) {}
  | 0x07 =>
    let rows := if ta then n else p.m
    let cols := if ta then p.m else n
    let ys := (List.range rows).map (fun r =>
      axpby al be (hAcc {} ((List.range cols).map (fun j => (hIn (if ta then p.at 1 j r else p.at 1 r j), hIn (p.at 2 j 0)))))
        (hIn (p.at 3 r 0)))
    Kern.out { a := ys } (rows, 1)
  | 0x08 =>
    let ys := (List.range n).flatMap (fun c => (List.range p.m).map (fun r =>
      axpby al be (hAcc {} ((List.range p.k).map (fun j =>
        (hIn (if ta then p.at 1 j r else p.at 1 r j), hIn (if tb then p.at 2 c j else p.at 2 j c))))) (hIn (p.at 3 r c))))
    Kern.out { a := ys } (p.m, n)
  | _ => {}

/-- The result of a problem after `k` iterations (its whole ITER where it runs to its end). An iterating problem's numbers are written operand
by operand. R196–R198, R201, R205–R207. -/
def HenProblem.result (p : HenProblem) (k : Nat) : HenOut :=
  match p.refused with
  | some f => { words := List.replicate p.outWords 0, iters := 0, flags := f }
  | none =>
    if iterative p.op then
      let (it, done, ovf) := p.ipRun k
      let out := p.ipOut it
      { words := ((outShapes p.op p.opt p.n p.m p.k).zip out).flatMap (fun e => outWordsOf e.1 e.2), iters := done
        flags := it.flags ||| (if ovf || out.any (fun l => l.any HNum.ovf) then hfOvf else 0), piv := it.piv }
    else p.dense

/-- The multiply-add count of a problem, in sixths. R208. -/
def HenProblem.mac6 (p : HenProblem) : Nat :=
  let n := p.n
  match p.op with
  | 0x01 => n ^ 3 + 6 * n ^ 2
  | 0x02 => n ^ 3 + 12 * n ^ 2
  | 0x03 => 2 * n ^ 3 + 12 * n ^ 2
  | 0x04 => 12 * p.m * n ^ 2 - 4 * n ^ 3 + 24 * p.m * n
  | 0x05 => 3 * n ^ 2 + 6 * n
  | 0x06 => p.k * (3 * n ^ 2 + 6 * n)
  | 0x07 => 6 * (p.m * n + p.m)
  | 0x08 => 6 * (p.m * n * p.k + p.m * n)
  | 0x10 => p.iter * (n ^ 3 + 60 * n ^ 2 + 3 * (p.m * n * (n + 1)) + 36 * p.k)
  | 0x11 => p.iter * (n ^ 3 + 60 * n ^ 2)
  | _ => 0

/-- The longest time a problem takes on one cluster, ns: max(MAC, 2,000) / 10.25 GFMA/s. R209. -/
def HenProblem.maxNs (p : HenProblem) : Nat := (max p.mac6 12000) * 100 / (6 * 1025) + 1

end Sys2Proof.Machine
end

