-- ==== Sys2Proof/Machine/HenOps.lean ====
section
/-!
DEFINITION. The Hold engine's queues: submission with its checks, dispatch, suspension, deadlines, cancels, disabling, drains
and faults, and completion (spec/07 R209–R230).
-/
namespace Sys2Proof.Machine

/-! ### Clusters, queues and jobs -/

/-- Cluster i, 0 or 1. -/
def State.cl (s : State) (i : Nat) : HenCluster := if i = 0 then s.hen.cl0 else s.hen.cl1

/-- A cluster changed. -/
def State.modCl (s : State) (i : Nat) (f : HenCluster → HenCluster) : State :=
  if i = 0 then { s with hen := { s.hen with cl0 := f s.hen.cl0 } } else { s with hen := { s.hen with cl1 := f s.hen.cl1 } }

/-- Queue q, 0 to 3. -/
def State.hq (s : State) (q : Nat) : HenQueue := s.hen.queues.getD q {}

/-- A queue changed. -/
def State.modHq (s : State) (q : Nat) (f : HenQueue → HenQueue) : State :=
  { s with hen := { s.hen with queues := s.hen.queues.modify q f } }

/-- A job changed by its identity. -/
def State.modJob (s : State) (q id : Nat) (f : HenJob → HenJob) : State :=
  s.modHq q (fun x => { x with jobs := x.jobs.map (fun j => if j.id = id then f j else j) })

/-- A job by its identity. -/
def State.job? (s : State) (q id : Nat) : Option HenJob := (s.hq q).jobs.find? (fun j => j.id = id)

/-- A cluster in service: it takes problems of any job it is admitted to. R221, R223. -/
def HenCluster.inService (c : HenCluster) : Bool := c.powered && c.en && !c.draining && !c.fault

/-- Whether a job admits a cluster. R225. -/
def HenJob.admits (j : HenJob) (i : Nat) : Bool := j.clusters = 0 || j.clusters.testBit i

/-- Whether a cluster may take a problem of a job: in service, or draining with a job that has a deadline and has run on it. R221. -/
def HenCluster.mayTake (c : HenCluster) (i : Nat) (j : HenJob) : Bool :=
  j.admits i && (c.inService || (c.powered && !c.fault && j.deadline.isSome && j.ranOn.contains i))

/-- Whether a job has an undispatched problem. -/
def HenJob.undispatched (j : HenJob) : Bool := j.next < j.count

/-- Whether a job has had a problem dispatched. R220. -/
def HenJob.started (j : HenJob) : Bool := 0 < j.next

/-- The next problem for a cluster: queue and job. R211. -/
def State.nextWork (s : State) (i : Nat) : Option (Nat × HenJob) :=
  (List.range 4).findSome? (fun q =>
    ((s.hq q).jobs.find? (fun j => j.undispatched && (s.cl i).mayTake i j)).map (fun j => (q, j)))

/-- Words of DRAM from an address on. -/
def Memory.words (m : Memory) (a n : Nat) : List Word :=
  (List.range n).map (fun i => BitVec.ofNat 32 (leNat (m.read (a + 4 * i) 4)))

/-- Words written to memory. -/
def Memory.writeWords (m : Memory) (a : Nat) (ws : List Word) : Memory := m.write a (ws.flatMap (fun w => leBytes 4 w.toNat))

/-- Problem `idx` of a job as staged at its dispatch. R201, R214. -/
def State.stage (s : State) (j : HenJob) (idx : Nat) : HenProblem :=
  let e := if j.pivExp = 0 then s.hen.piv else j.pivExp
  match j.inline[idx]? with
  | some p => { p with pivExp := if p.pivExp = 0 then e else p.pivExp }
  | none =>
    { op := j.op, opt := j.opt, n := j.n, m := j.m, k := j.k, iter := j.iter, pivExp := e
      words := Memory.words s.dram.cells (j.inAddr + idx * j.inStride) (blockBytes (inShapes j.op j.opt j.n j.m j.k) / 4) }

/-! ### Completion (R215, R226, R227) -/

/-- The 8 bytes of a status entry. R226. -/
def ProbRes.bytes (r : ProbRes) : List Byte :=
  [byte r.status, byte r.iters] ++ leBytes 2 r.flags ++ leBytes 2 r.pivot ++ [byte r.cluster, 0]

/-- The result of a job's problem as it stands. -/
def HenJob.resOf (j : HenJob) (i : Nat) : Option ProbRes := j.results[i]?

/-- A job whose list of results is as long as its count, results not yet known marked with the status 4. -/
def HenJob.padded (j : HenJob) : List ProbRes :=
  j.results ++ List.replicate (j.count - j.results.length) { status := 4 }

/-- A problem's result recorded, its output block written before its status entry. R215. -/
def State.putResult (s : State) (q id idx : Nat) (r : ProbRes) : State :=
  match s.job? q id with
  | none => s
  | some j =>
    let s := s.modJob q id (fun j => { j with results := j.padded.set idx r })
    if ¬ j.inline.isEmpty then s
    else
      let m := s.dram.cells
      let m := match r.out with
        | some ws => Memory.writeWords m (j.outAddr + idx * j.outStride) ws
        | none => m
      { s with dram := { s.dram with cells := Memory.write m (j.statAddr + 8 * idx) r.bytes } }

/-- The completion entry of a job. R227. -/
def HenJob.done (j : HenJob) (jstat : Nat) (cancel : Bool) (time : Word) : HenDone :=
  let n (f : ProbRes → Bool) : Nat := (j.results.filter f).length
  { tag := j.tag, jstat := jstat, cancel := cancel, flagged := j.results.any (fun r => r.flags ≠ 0)
    nDone := n (fun r => r.status = 0), nTrunc := n (fun r => r.status = 1), nAbsent := n (fun r => 2 ≤ r.status), time := time }

/-- The completion parameters of a HEN_SUBMIT. R228. -/
def henCompletion (j : HenJob) (d : HenDone) (mode : Nat) : List Byte :=
  leBytes 4 d.tag.toNat ++ [byte d.jstat, 0] ++ leBytes 2 d.nDone ++ leBytes 2 d.nTrunc ++ leBytes 2 d.nAbsent ++ leBytes 4 d.time.toNat ++
    (if mode = 0 then
      let blk := j.outStride
      j.results.flatMap ProbRes.bytes ++ j.results.flatMap (fun r =>
        let b := (r.out.getD []).flatMap (fun w => leBytes 4 w.toNat)
        (b ++ zeros (blk - b.length)).take blk)
    else [])

/-- Who takes a job's completion: a requester by its queue's registers, a command, or the firmware that posed it. R213, R228. -/
def State.deliver (s : State) (q : Nat) (j : HenJob) (d : HenDone) : State :=
  match j.origin with
  | .app0 => s.modHq q (fun x => { x with done := x.done ++ [d] })
  | .app1 => s.modHq q (fun x => { x with done := x.done ++ [d] })
  | .partition => s.modHq q (fun x => { x with done := x.done ++ [d] })
  | .command n sq mode => s.completeCmd n sq stDone (henCompletion j d mode)
  | _ => { s with hen := { s.hen with finished := s.hen.finished ++ [(j, d)] } }

/-- A frame whose queue 0 job was truncated is counted once; a job that ends by a cancel, as a late MPC does, is none. R44, R45, R53, R217. -/
def State.countTrunc (s : State) : State :=
  if s.frame.truncNow then s
  else { s with frame := { s.frame with solverTrunc := s.frame.solverTrunc + 1, truncNow := true } }

/-- A job completes: problems without a status take `rest`, the entry is posted and the counters move. R215, R217, R220, R227. -/
def State.completeJob (s : State) (q id jstat rest : Nat) (cancel : Bool) : State :=
  match s.job? q id with
  | none => s
  | some j =>
    let missing := (List.range j.count).filter (fun i => (j.padded.getD i {}).status = 4)
    let s := missing.foldl (fun s i => s.putResult q id i { status := rest }) s
    match s.job? q id with
    | none => s
    | some j =>
      let d := j.done jstat cancel (wN s.sel)
      let irq : Bool := optBit j.opt 5
      let s := s.modHq q (fun x => { x with
        jobs := x.jobs.filter (fun y => y.id ≠ id), jobsDone := x.jobsDone + 1, intDone := x.intDone || irq })
      let s := { s with hen := { s.hen with
        aborted := if jstat = 2 then s.hen.aborted + 1 else s.hen.aborted
        q2Jobs := if q = 2 then s.hen.q2Jobs + 1 else s.hen.q2Jobs
        q3Jobs := if q = 3 then s.hen.q3Jobs + 1 else s.hen.q3Jobs } }
      let s := if q = 0 ∧ jstat = 1 ∧ ¬ cancel then s.countTrunc else s
      let s := if irq && (s.hq q).ieDone then s.emit (.irq "HEN_DONE" q) else s
      s.deliver q j d

/-- A job completes where every problem of it has ended: TRUNCATED where the loss of the last cluster it admits left a problem without its
result. R215, R222. -/
def State.checkJob (s : State) (q id : Nat) : State :=
  match s.job? q id with
  | none => s
  | some j =>
    let lost : Bool := j.results.any (fun r => r.status ≠ 0) && !([0, 1].any (fun i => (s.cl i).mayTake i j))
    if j.count ≤ j.results.length ∧ j.results.all (fun r => r.status ≠ 4) then s.completeJob q id (if lost then 1 else 0) 2 false else s

/-- A job aborted whole. R219, R220, R222. -/
def State.abortJob (s : State) (q id : Nat) (int : Bool) : State :=
  let s := s.completeJob q id 2 3 false
  if int then
    let s := s.modHq q (fun x => { x with intAborted := true })
    if (s.hq q).ieAbort then s.emit (.irq "HEN_ABORTED" q) else s
  else s

/-! ### Dispatch (R211, R212) -/

/-- The undispatched problems of queue 0 that would be dispatched but for work of other queues: each cluster that runs such work holds back
the next problem that it may take. R211, R212. -/
def State.q0Held (s : State) : List (Nat × Nat) :=
  let waiting := (s.hq 0).jobs.flatMap (fun j => ((List.range 2).filter (fun k => j.next + k < j.count)).map (fun k => (j, j.next + k)))
  [0, 1].foldl (fun (l : List (Nat × Nat)) i =>
    match (s.cl i).run with
    | none => l
    | some r =>
      if r.queue = 0 then l
      else match waiting.find? (fun e => (s.cl i).mayTake i e.1 && !l.contains (e.1.id, e.2)) with
        | none => l
        | some e => l ++ [(e.1.id, e.2)]) []

/-- What a problem of queue 0 has waited for other queues' work until now. R212. -/
def State.q0Waited (s : State) (id idx : Nat) : Nat :=
  match s.hen.q0Wait.find? (fun w => w.job = id && w.index = idx) with
  | none => 0
  | some w => w.waited + (match w.since with
    | some a => s.now - a
    | none => 0)

/-- The waits of queue 0 brought up to now: those that go on, and those that stand still while other problems of queue 0 hold the
clusters. R212. -/
def State.noteWait (s : State) : State :=
  let held := s.q0Held
  let open_ (w : HenWait) : Bool := (s.hq 0).jobs.any (fun j => j.id = w.job && j.next ≤ w.index)
  let old := (s.hen.q0Wait.filter open_).map (fun w => (w.job, w.index))
  let keys := old ++ held.filter (fun k => !old.contains k)
  { s with hen := { s.hen with q0Wait := keys.map (fun k =>
      ({ job := k.1, index := k.2, waited := s.q0Waited k.1 k.2, since := if held.contains k then some s.now else none } : HenWait)) } }

/-- The next problem of a job goes to a cluster. A job's first problem starts no earlier than 2 µs after the job's acceptance, unless it
takes a cluster at a suspension point. R209, R211, R212. -/
def State.dispatch (s : State) (i q : Nat) (j : HenJob) (atSusp : Bool) : State :=
  let wait := if q = 0 then s.q0Waited j.id j.next else 0
  let start := if j.next = 0 ∧ ¬ atSusp then max s.now (j.acceptedAt + 2000) else s.now
  let r : HenRun := { job := j.id, queue := q, index := j.next, prob := s.stage j j.next, startAt := start }
  let s : State := { s with hen := { s.hen with waitMaxNow := max s.hen.waitMaxNow wait } }
  (s.modCl i (fun c => { c with run := some r })).modJob q j.id (fun j => { j with
    next := j.next + 1, ranOn := if j.ranOn.contains i then j.ranOn else j.ranOn ++ [i] })

/-- A free cluster resumes its suspended problem, or takes the next one. R211. -/
def State.fill (s : State) (i : Nat) : State :=
  let c := s.cl i
  if c.run.isSome ∨ ¬ c.powered ∨ c.fault then s
  else
    match c.susp with
    | some r => s.modCl i (fun c => { c with run := some { r with startAt := s.now }, susp := none })
    | none =>
      match s.nextWork i with
      | none => s
      | some (q, j) => s.dispatch i q j false

/-- Both clusters, HEN0 first. R211. -/
def State.fillBoth (s : State) : State := ((s.fill 0).fill 1).noteWait

/-- Iterations a running problem has completed: at least what its longest time allows, at most ITER; between them free (log 51). -/
def State.itersNow (s : State) (r : HenRun) (lim : Nat) : Nat × State :=
  let p := r.prob
  if ¬ iterative p.op then (0, s)
  else
    let cost := if r.suspended then 1000 else 0
    let least := min lim (r.iters + (s.now - r.startAt - cost) * p.iter / p.maxNs)
    let (w, s) := s.freeW
    (least + w.toNat % (lim - least + 1), s)

/-! ### Ends of problems and jobs (R217–R219) -/

/-- A problem's result from its output. -/
def HenOut.res (o : HenOut) (status i : Nat) (susp : Bool) : ProbRes :=
  { status := status, iters := o.iters, flags := o.flags ||| (if susp then hfSusp else 0), pivot := o.piv.getD 0xFFFF
    cluster := i, out := some o.words }

/-- The problem on a cluster ends DONE. R211, R217. -/
def State.problemEnd (s : State) (i : Nat) : State :=
  match (s.cl i).run with
  | none => s
  | some r =>
    let o := r.prob.result r.prob.iter
    ((s.modCl i (fun c => { c with run := none })).putResult r.queue r.job r.index (o.res 0 i r.suspended)).checkJob r.queue r.job

/-- A dispatched problem ends at its job's deadline or cancel. R217. -/
def State.cutRun (s : State) (i : Nat) (r : HenRun) : State :=
  if iterative r.prob.op then
    let (k, s) := s.itersNow r r.prob.iter
    s.putResult r.queue r.job r.index ((r.prob.result k).res 1 i r.suspended)
  else s.putResult r.queue r.job r.index { status := 2, cluster := i }

/-- The problems of a job on one cluster end. One suspended at this very instant was not suspended. R217, R218. -/
def State.cutCluster (s : State) (i id : Nat) : State :=
  let c := s.cl i
  let s := match c.run with
    | some r => if r.job = id then (s.cutRun i r).modCl i (fun c => { c with run := none }) else s
    | none => s
  match c.susp with
  | some r =>
    if r.job = id then
      let undone : Bool := r.suspAt = some s.now
      let s : State := if undone then { s with hen := { s.hen with suspends := s.hen.suspends - 1 } } else s
      (s.putResult r.queue r.job r.index ((r.prob.result r.iters).res 1 i (!undone || r.suspBefore))).modCl i (fun c => { c with susp := none })
    else s
  | none => s

/-- A job ended as at its deadline. R217, R219. -/
def State.endJob (s : State) (q id : Nat) (cancel : Bool) : State := ((s.cutCluster 0 id).cutCluster 1 id).completeJob q id 1 2 cancel

/-- A problem on a cluster ends ABSENT with a flag. R223. -/
def State.lose (s : State) (i : Nat) (r : HenRun) (flag : Nat) : State :=
  (s.putResult r.queue r.job r.index
    { status := 2, flags := flag ||| (if r.suspended then hfSusp else 0), cluster := i }).checkJob r.queue r.job

/-- Everything on a cluster is lost: the running problem with one flag, the suspended one with CLUSTER_LOST. R223. -/
def State.loseAll (s : State) (i flag : Nat) : State :=
  let c := s.cl i
  let s := s.modCl i (fun c => { c with run := none, susp := none })
  let s := match c.run with
    | some r => s.lose i r flag
    | none => s
  match c.susp with
  | some r => s.lose i r hfLost
  | none => s

/-- Jobs no cluster will take again: not started, they abort; started, they end once nothing of them runs. R222. -/
def State.sweepJob (s : State) (q : Nat) (j : HenJob) : State :=
  let takers := [0, 1].any (fun i => (s.cl i).mayTake i j)
  let onCl := [0, 1].any (fun i =>
    (match (s.cl i).run with | some r => decide (r.job = j.id) | none => false) ||
    (match (s.cl i).susp with | some r => decide (r.job = j.id) | none => false))
  if takers ∨ ¬ j.undispatched then s
  else if ¬ j.started then s.abortJob q j.id true
  else if onCl then s
  else s.completeJob q j.id 1 2 false

/-- Every job judged under R222. -/
def State.sweep (s : State) : State :=
  (List.range 4).foldl (fun s q => (s.hq q).jobs.foldl (fun s j => s.sweepJob q j) s) s

/-- After any change: clusters filled and jobs judged. -/
def State.henGo (s : State) : State := s.fillBoth.sweep.fillBoth

/-- A job cancelled: one not yet started ends ABORTED, a running one as at its deadline. R219. -/
def State.cancelJob (s : State) (q id : Nat) : State :=
  match s.job? q id with
  | none => s
  | some j => (if j.started then s.endJob q id true else s.completeJob q id 2 3 true).henGo

/-! ### Submission (R213, R216, R225) -/

/-- The fields of a descriptor. R225. -/
def descJob (d : List Byte) : HenJob :=
  { op := fld d 0 1, opt := fld d 1 1, clusters := fld d 2 1, iter := fld d 3 1, count := fld d 4 2, n := fld d 6 1, m := fld d 7 1
    k := fld d 8 2, pivExp := fld d 10 1, tag := wN (fld d 12 4), inAddr := fld d 24 8, outAddr := fld d 32 8, statAddr := fld d 40 8
    inStride := fld d 48 4, outStride := fld d 52 4 }

/-- Option bits that apply to an operation, IRQ with all. R202, R225. -/
def optMask (op : Nat) : Nat :=
  32 + (match op with
    | 0x01 => 4
    | 0x02 => 4
    | 0x05 => 13
    | 0x06 => 13
    | 0x07 => 1
    | 0x08 => 3
    | 0x10 => 16
    | 0x11 => 16
    | _ => 0)

/-- Whether the dimensions are those of R202. -/
def dimsOk (op n m k : Nat) : Bool :=
  between 1 n 64 && (match op with
    | 0x01 => m = 0 && k = 0
    | 0x02 => m = 0 && k = 0
    | 0x03 => m = 0 && k = 0
    | 0x04 => between n m 64 && k = 0
    | 0x05 => m = 0 && k = 0
    | 0x06 => m = 0 && between 1 k 64
    | 0x07 => between 1 m 64 && k = 0
    | 0x08 => between 1 m 64 && between 1 k 64
    | 0x10 => m ≤ 64 && k ≤ 256
    | 0x11 => m ≤ 8 && k ≤ 512
    | _ => false)

/-- Whether a descriptor is one R213 accepts, mode 0 leaving its addresses zero. BADDESC. -/
def State.descOk (s : State) (d : List Byte) (j : HenJob) : Bool :=
  henOps.contains j.op && (j.opt &&& optMask j.op) = j.opt && j.clusters ≤ 3 && dimsOk j.op j.n j.m j.k &&
    (if iterative j.op then between 4 j.iter 32 else j.iter = 0) && between 1 j.count 256 &&
    (j.pivExp = 0 || between 10 j.pivExp 40) && fld d 11 1 = 0 && fld d 20 4 = 0 && fld d 56 8 = 0 &&
    j.inAddr < 2 ^ 40 && j.outAddr < 2 ^ 40 && j.statAddr < 2 ^ 40 &&
    blockBytes (inShapes j.op j.opt j.n j.m j.k) ≤ j.inStride && blockBytes (outShapes j.op j.opt j.n j.m j.k) ≤ j.outStride &&
    (fld d 16 4 = 0 || (s.frame.running && s.frame.started ≠ 0))

/-- Whether the ranges of a job lie in a region. BADADDR. -/
def HenJob.inRegion (j : HenJob) (lo hi : Nat) : Bool :=
  let span (a st sz : Nat) : Bool := inRange lo hi a ((j.count - 1) * st + sz)
  span j.inAddr j.inStride (blockBytes (inShapes j.op j.opt j.n j.m j.k)) &&
    span j.outAddr j.outStride (blockBytes (outShapes j.op j.opt j.n j.m j.k)) && span j.statAddr 8 8

/-- Whether outputs or statuses of a job meet inputs of its other problems, or outputs each other. OVERLAP. -/
def HenJob.overlap (j : HenJob) : Bool :=
  let isz := blockBytes (inShapes j.op j.opt j.n j.m j.k)
  let osz := blockBytes (outShapes j.op j.opt j.n j.m j.k)
  (List.range j.count).any (fun a => (List.range j.count).any (fun b => a ≠ b &&
    (overlaps (j.outAddr + a * j.outStride) osz (j.inAddr + b * j.inStride) isz ||
     overlaps (j.statAddr + 8 * a) 8 (j.inAddr + b * j.inStride) isz ||
     overlaps (j.outAddr + a * j.outStride) osz (j.outAddr + b * j.outStride) osz)))

/-- The result of a submission's checks, in their order. R213. -/
def State.henCheck (s : State) (q addr : Nat) (d : List Byte) (lo hi : Nat) : Nat :=
  let j := descJob d
  let x := s.hq q
  if ¬ x.en ∨ ¬ [0, 1].any (fun i => j.admits i && (s.cl i).inService) then 2
  else if 16 ≤ x.jobs.length + x.done.length then 1
  else if addr % 64 ≠ 0 ∨ j.inAddr % 32 ≠ 0 ∨ j.outAddr % 32 ≠ 0 ∨ j.statAddr % 32 ≠ 0 ∨ j.inStride % 32 ≠ 0 ∨ j.outStride % 32 ≠ 0 then 3
  else if ¬ s.descOk d j then 4
  else if ¬ j.inRegion lo hi then 5
  else if j.overlap then 6
  else 0

/-- The order in which submissions of one cycle are accepted: APP-0, APP-1, the partition. R213. -/
def HenOrigin.rank (o : HenOrigin) : Nat :=
  match o with
  | .partition => 2
  | .app1 => 1
  | .command _ _ _ => 1
  | _ => 0

/-- A job accepted into a queue, before those of the same cycle that come later in their order. A deadline already past completes it at once
TRUNCATED. R210, R213, R216. -/
def State.henAccept (s : State) (q : Nat) (j : HenJob) (deadline : Nat) : State :=
  let id := s.hen.nextId
  let dl := if deadline = 0 then none else some (s.frameRaw deadline)
  let j := { j with id := id, queue := q, deadline := dl, acceptedAt := s.now }
  let s := { s with hen := { s.hen with nextId := id + 1 } }
  let after (y : HenJob) : Bool := y.acceptedAt = s.now && !y.started && decide (j.origin.rank < y.origin.rank)
  let s := s.modHq q (fun x => { x with jobs := x.jobs.takeWhile (fun y => !after y) ++ j :: x.jobs.dropWhile (fun y => !after y) })
  match dl with
  | some a => if a ≤ s.raw then s.completeJob q id 1 2 false else s.henGo
  | none => s.henGo

/-- A job the firmware poses itself: its operands held by the firmware. R224. -/
def State.henFirm (s : State) (q : Nat) (origin : HenOrigin) (ps : List HenProblem) (deadline : Nat) : State :=
  let x := s.hq q
  let p := ps.headD {}
  if ¬ x.en ∨ ¬ (s.hen.cl0.inService ∨ s.hen.cl1.inService) ∨ 16 ≤ x.jobs.length + x.done.length then
    s.modHq q (fun x => { x with refusals := x.refusals + 1, intRefused := true })
  else
    s.henAccept q { origin := origin, op := p.op, opt := p.opt, iter := p.iter, count := ps.length, n := p.n, m := p.m, k := p.k, inline := ps }
      deadline

/-- The requester number of a register access: APP-0, APP-1, the partition. R213. -/
def Who.req (w : Who) : Nat :=
  match w with
  | .app0 => 0
  | .app1 => 1
  | .part => 2
  | .safeP => 0
  | .dma => 0

/-- A write of SUB_HI: the descriptor is copied and checked, and the job accepted or refused. R213. -/
def State.henSubmit (s : State) (q : Nat) (who : Who) (v : Word) : State :=
  let r := who.req
  let lo := ((s.hq q).subs.getD r {}).lo
  let addr := v.toNat % 256 * 2 ^ 32 + lo.toNat
  let d := Memory.read s.dram.cells addr 64
  let (rlo, rhi) := if r = 2 then (partLo, partHi) else (sharedLo, sharedHi)
  let c := s.henCheck q addr d rlo rhi
  let s := s.modHq q (fun x => { x with subs := x.subs.modify r (fun y => { y with res := c }) })
  if c = 0 then
    s.henAccept q { descJob d with origin := if r = 0 then .app0 else if r = 1 then .app1 else .partition } (fld d 16 4)
  else s.modHq q (fun x => { x with refusals := x.refusals + 1, intRefused := true })

/-! ### Disabling, draining, faults (R220–R223) -/

/-- The disable record of a function: how many items complete, and the number and the first and last id of those aborted. spec/01 R25. -/
def State.disableItems (s : State) (e : EvCode) (func why done : Nat) (ids : List Nat) : State :=
  s.disableRec e func why done ids.length (ids.headD 0) (ids.getLastD 0)

/-- The id by which a record names a job. -/
def HenJob.idShown (j : HenJob) : Nat := j.tag.toNat

/-- Register submissions accepted in the cycle in which EN is cleared are refused DISABLED after all. R218. -/
def State.unaccept (s : State) (q : Nat) : State :=
  let js := (s.hq q).jobs.filter (fun j => j.acceptedAt = s.now && (match j.origin with
    | .app0 | .app1 | .partition => true
    | _ => false))
  let req (j : HenJob) : Nat := match j.origin with
    | .partition => 2
    | .app1 => 1
    | _ => 0
  js.foldl (fun s j =>
    let off (c : HenCluster) : HenCluster := match c.run with
      | some r => if r.job = j.id then { c with run := none } else c
      | none => c
    let s := (s.modCl 0 off).modCl 1 off
    s.modHq q (fun x => { x with
      jobs := x.jobs.filter (fun y => y.id ≠ j.id), refusals := x.refusals + 1, intRefused := true
      subs := x.subs.modify (req j) (fun y => { y with res := 2 }) })) s

/-- Clearing EN of a queue: its running jobs complete, the others are aborted. R218, R220. -/
def State.henDisable (s : State) (q why : Nat) : State :=
  let s := s.unaccept q
  let js := (s.hq q).jobs.filter (fun j => !j.started)
  let done := (s.hq q).jobs.length - js.length
  let s := s.modHq q (fun x => { x with en := false })
  (js.foldl (fun s j => s.abortJob q j.id true) s).disableItems .DIS_HEN_QUEUE q why done (js.map HenJob.idShown)

/-- Whether a leaving cluster still works for a job: a problem of it is there, or it goes on with it. R221. -/
def State.clServes (s : State) (i : Nat) (j : HenJob) : Bool :=
  let has (r : Option HenRun) : Bool := r.any (fun x => x.job = j.id)
  has (s.cl i).run || has (s.cl i).susp || (j.undispatched && (s.cl i).mayTake i j)

/-- A cluster stops taking new work. The record counts the jobs it goes on with as completed. R221, spec/01 R25, R27. -/
def State.clLeave (s : State) (i : Nat) (drain : Bool) (why : Nat) : State :=
  let before := (List.range 4).flatMap (fun q => (s.hq q).jobs)
  let s := s.modCl i (fun c => if drain then { c with draining := true } else { c with en := false })
  let s := s.henGo
  let left := (List.range 4).flatMap (fun q => (s.hq q).jobs)
  let gone := before.filter (fun j => !left.any (fun k => k.id = j.id))
  s.disableItems .DIS_HEN_CLUSTER i why (left.filter (s.clServes i)).length (gone.map HenJob.idShown)

/-- Whether a leaving cluster has finished what it is permitted to finish. R221. -/
def State.clFinished (s : State) (i : Nat) : Bool :=
  (s.cl i).run.isNone && (s.cl i).susp.isNone && (s.nextWork i).isNone

/-- A cluster comes up with its domain; HEN_CTRL, which D1 holds, keeps CLn_EN. R223, R227. -/
def State.clUp (s : State) (i : Nat) : State := (s.modCl i (fun c => { en := c.en })).henGo

/-- A cluster loses its domain at once. R223. -/
def State.clStop (s : State) (i : Nat) : State :=
  ((s.modCl i (fun c => { c with powered := false, draining := false })).loseAll i hfLost).henGo

/-- The partition's jobs, and the commanded jobs whose operands lie in its region. spec/01 R20. -/
def HenJob.ofPart (j : HenJob) : Bool :=
  match j.origin with
  | .partition => true
  | .command _ _ m => m = 1
  | _ => false

/-- The jobs of the partition that HEN holds. -/
def State.partJobs (s : State) : List HenJob := [2, 3].flatMap (fun q => (s.hq q).jobs.filter HenJob.ofPart)

/-- The partition stops: its running jobs go on to their end or deadline, the others are aborted. spec/01 R20, R27, R220. -/
def State.henPartEnd (s : State) : State :=
  ((s.partJobs.filter (fun j => !j.started)).foldl (fun s j => s.abortJob j.queue j.id true) s).henGo

/-- A start of the partition that waits takes place once every job of it has its final status. A restart is recorded. spec/01 R20. -/
def State.partGo (s : State) : State :=
  match s.part.startDue with
  | none => s
  | some (again, cause) =>
    if ¬ s.partJobs.isEmpty then s
    else
      let s : State := { s with part := { s.part with startDue := none, running := true, watchdogAt := s.now } }
      if again then s.event .PARTITION_RESTART [wN cause] else s

/-- An access of the partition outside R18: not performed, a bus error and a record of severity 3 with the address. spec/01 R19. -/
def State.partViolation (s : State) (addr : Nat) : State :=
  let s : State := { s with part := { s.part with lastBusError := addr, busErrors := s.part.busErrors + 1 } }
  (s.event .PARTITION_VIOLATION [wN addr, wN (addr / 2 ^ 32)]).busErr .part addr

/-! ### Registers and points (R227, R230) -/

/-- The state of a cluster: 0 off, 1 idle, 2 busy, 3 draining. R227. -/
def HenCluster.code (c : HenCluster) : Nat :=
  if ¬ c.powered then 0 else if c.draining || (!c.en && c.run.isSome) then 3 else if c.run.isSome then 2 else 1

/-- HEN_STAT. R227. -/
def State.henStat (s : State) : Nat :=
  s.hen.cl0.code + 4 * s.hen.cl1.code + 16 * b2n s.hen.cl0.fault + 32 * b2n s.hen.cl1.fault +
    64 * maskOf 4 (fun q => (s.hq q).jobs.any HenJob.undispatched)

/-- HEN_ERR. R227. -/
def HenSt.err (h : HenSt) : Nat := h.corr + 65536 * h.uncorr + 2 ^ 24 * b2n h.uncorrNew

/-- Jobs a queue holds. R210. -/
def HenQueue.depth (x : HenQueue) : Nat := x.jobs.length + x.done.length

/-- Whether a problem of a queue is on a cluster. -/
def State.hqRunning (s : State) (q : Nat) : Bool :=
  [0, 1].any (fun i => match (s.cl i).run with | some r => decide (r.queue = q) | none => false)

/-- Whether a problem of a queue is suspended. -/
def State.hqSusp (s : State) (q : Nat) : Bool :=
  [0, 1].any (fun i => match (s.cl i).susp with | some r => decide (r.queue = q) | none => false)

/-- The HEN points of a frame. R230. -/
def State.henPoints (s : State) : List (Nat × PVal × Half) :=
  let h := s.hen
  [(1760, pvX (s.henStat % 4096), qGood), (1761, pvU h.waitMax, qGood), (1762, pvU h.suspends.toNat, qGood), (1763, pvU h.eccCorr.toNat, qGood),
   (1764, pvU h.eccUncorr.toNat, qGood), (1765, pvU h.aborted.toNat, qGood), (1766, pvU h.q2Jobs.toNat, qGood), (1767, pvU h.q3Jobs.toNat, qGood)]

/-- The longest wait of the frame that ends is published. R212. -/
def State.henFrame (s : State) : State := { s with hen := { s.hen with waitMax := s.hen.waitMaxNow, waitMaxNow := 0 } }

end Sys2Proof.Machine
end

