-- ==== Sys2Proof/Machine/HoldOps.lean ====
section
/-!
DEFINITION. The hold functions: joystick, direct law, model-predictive problem, wind feed-forward, approach, berth press, blends,
degradations and the points (spec/04 R95–R131). Everything is kept in the END1 body frame; the selected end enters where values are
published or read from the joystick and the commands (R111).
-/
namespace Sys2Proof.Machine

/-! ### Small things -/

/-- A component of a force demand: 0 surge, 1 sway, 2 yaw. -/
def Tau.get (t : Tau) (i : Nat) : Rat := if i = 0 then t.x else if i = 1 then t.y else t.n

/-- A force demand from its components. -/
def tauOf (f : Nat → Rat) : Tau := { x := f 0, y := f 1, n := f 2 }

/-- The sum of two demands. -/
def Tau.add (a b : Tau) : Tau := tauOf (fun i => a.get i + b.get i)

/-- The difference of two demands. -/
def Tau.sub (a b : Tau) : Tau := tauOf (fun i => a.get i - b.get i)

/-- A demand scaled. -/
def Tau.scale (k : Rat) (a : Tau) : Tau := tauOf (fun i => k * a.get i)

/-- A vector of three as a demand. -/
def tauL (l : List Rat) : Tau := tauOf (nth l)

/-- The sign of the selected end's surge and sway against END1. R111. -/
def HoldCore.sg (c : HoldCore) : Rat := if c.endSel = 2 then -1 else 1

/-- A demand of one end's frame in the other's, END1 and the selected end. R111. -/
def HoldCore.flip (c : HoldCore) (t : Tau) : Tau := { x := c.sg * t.x, y := c.sg * t.y, n := t.n }

/-- A heading of the selected end as one of END1, and back. R111. -/
def HoldCore.hdg (c : HoldCore) (psi : Rat) : Rat := wrapPi (if c.endSel = 2 then psi + pi else psi)

/-- The hold function's state changed. -/
def State.modHold (s : State) (f : HoldCore → HoldCore) : State := { s with hold := { s.hold with core := f s.hold.core } }

/-- The parameter of an axis. -/
def State.axPar (s : State) (x y n : Param) (i : Nat) : Rat := s.par (if i = 0 then x else if i = 1 then y else n)

/-- HOLD_FMAX of an axis. -/
def State.fmax (s : State) (i : Nat) : Rat := s.axPar .HOLD_FMAX_X .HOLD_FMAX_Y .HOLD_FMAX_N i

/-- HOLD_DTAU_MAX of an axis, N/s. -/
def State.dtau (s : State) (i : Nat) : Rat :=
  s.axPar .HOLD_DTAU_MAX_X .HOLD_DTAU_MAX_Y .HOLD_DTAU_MAX_N i / 100 * s.fmax i

/-- A mass term. -/
def State.massOf (s : State) (i : Nat) : Rat := s.axPar .EST_M11 .EST_M22 .EST_M33 i

/-- A damping term. -/
def State.dampOf (s : State) (i : Nat) : Rat := s.axPar .EST_D11 .EST_D22 .EST_D33 i

/-- A value moved towards another by at most a step. -/
def toward (step v aim : Rat) : Rat := if absQ (aim - v) ≤ step then aim else if v < aim then v + step else v - step

/-- A heading turned towards another by at most a step, the shorter way. -/
def turn (step v aim : Rat) : Rat := wrapPi (v + clampQ (-step) step (wrapPi (aim - v)))

/-- Estimated north, east and heading of END1. R81. -/
def State.estN (s : State) : Rat := nth s.lf 0
/-- East. -/
def State.estE (s : State) : Rat := nth s.lf 1
/-- Heading. -/
def State.estPsi (s : State) : Rat := nth s.lf 2
/-- Body velocity of an axis. -/
def State.estNu (s : State) (i : Nat) : Rat := nth s.lf (3 + i)
/-- Earth-frame bias. -/
def State.estBias (s : State) (i : Nat) : Rat := nth s.est.core.x (6 + i)

/-- An earth vector in the body frame at a heading. -/
def toBody (psi n e : Rat) : Rat × Rat := (Config.cos psi * n + Config.sin psi * e, Config.cos psi * e - Config.sin psi * n)

/-- A body vector in the earth frame at a heading. -/
def toEarth (psi x y : Rat) : Rat × Rat := (Config.cos psi * x - Config.sin psi * y, Config.sin psi * x + Config.cos psi * y)

/-- The bias in the body frame. R102. -/
def State.bodyBias (s : State) : Tau :=
  let b := toBody s.estPsi (s.estBias 0) (s.estBias 1)
  { x := b.1, y := b.2, n := s.estBias 2 }

/-- Whether the position is lost. -/
def State.posLost (s : State) : Bool := s.est.core.posLost
/-- Whether the heading is lost. -/
def State.hdgLost (s : State) : Bool := s.est.core.hdgLost

/-- Whether a hold function runs: in HOLD, or in shadow while the pair is in HOLD. R48, R95, R415. -/
def State.holdRuns (s : State) : Bool :=
  s.sys.mode = .hold || ((s.sys.mode = .standby || s.sys.mode = .warden) && s.red.pairHold)

/-! ### Berths (R115, R119) -/

/-- A berth with its axes: a along the line in the direction of BERTH_HDG, c towards the fenders. -/
structure Berth where
  an : Rat := 0
  ae : Rat := 0
  cn : Rat := 0
  ce : Rat := 0
  lineN : Rat := 0
  lineE : Rat := 0
  psi : Rat := 0
  star : Rat := 1
  tgtN : Rat := 0
  tgtE : Rat := 0
  deriving DecidableEq, Repr

/-- Whether a berth is configured. R134. -/
def State.berthOk (s : State) (b : Nat) : Bool :=
  b < 8 && [Param.BERTH_A_N, .BERTH_A_E, .BERTH_B_N, .BERTH_B_E, .BERTH_HDG, .BERTH_SIDE, .BERTH_ALONG].all (fun p => (s.par? p b).isSome)

/-- The berth of an index. R115, R119. -/
def State.berth (s : State) (b : Nat) : Berth :=
  let n0 := s.par .BERTH_A_N b
  let e0 := s.par .BERTH_A_E b
  let dn := s.par .BERTH_B_N b - n0
  let de := s.par .BERTH_B_E b - e0
  let l := Config.sqrt (len2 dn de)
  let u := dn / l
  let v := de / l
  let psi := rad (s.par .BERTH_HDG b)
  let sg : Rat := if u * Config.cos psi + v * Config.sin psi < 0 then -1 else 1
  let star : Rat := if s.par .BERTH_SIDE b = 0 then -1 else 1
  let a1 := sg * u
  let a2 := sg * v
  let c1 := -star * a2
  let c2 := star * a1
  let off := s.par .BERTH_STANDOFF b + s.par .HOLD_SIDE_OFFSET
  let al := s.par .BERTH_ALONG b
  { an := a1, ae := a2, cn := c1, ce := c2, lineN := n0, lineE := e0, psi := psi, star := star
    tgtN := n0 + al * u - off * c1, tgtE := e0 + al * v - off * c2 }

/-- The gap of a point. R119. -/
def State.gapOf (s : State) (b : Berth) (n e : Rat) : Rat := (b.lineN - n) * b.cn + (b.lineE - e) * b.ce - s.par .HOLD_SIDE_OFFSET

/-- The along position of a point. -/
def Berth.along (b : Berth) (n e : Rat) : Rat := (n - b.lineN) * b.an + (e - b.lineE) * b.ae

/-- The gap at the estimated position. -/
def State.gapNow (s : State) (b : Berth) : Rat := s.gapOf b s.estN s.estE

/-- The heading of the axis conversion at a berth: the estimated one, or BERTH_HDG once HDG_LOST has degraded BPR. R128. -/
def State.bprPsi (s : State) (b : Berth) : Rat := if s.hold.core.bprNoHdg then b.psi else s.estPsi

/-- The velocity at a berth, along and towards the fenders. R121, R125, R128. -/
def State.bprVel (s : State) (b : Berth) : Rat × Rat :=
  let v := toEarth (s.bprPsi b) (s.estNu 0) (s.estNu 1)
  (v.1 * b.an + v.2 * b.ae, v.1 * b.cn + v.2 * b.ce)

/-- The bias towards the fenders. R121. -/
def State.bCross (s : State) (b : Berth) : Rat := s.estBias 0 * b.cn + s.estBias 1 * b.ce

/-- The press force. R118, R124. -/
def State.pressForce (s : State) : Rat := s.hold.core.bprForce.getD (s.par .BPR_FORCE)

/-! ### Changes of function (R95, R97, R126, R127) -/

/-- A blend starts from the last demand. R126. -/
def State.startBlend (s : State) (tau : Tau) : State :=
  s.modHold (fun c => { c with blendFrom := some (tau, {}, s.frame.startAt), blendNew := true, blendK := 1 })

/-- Entry to SEATING: the cross bias is stored. R122. -/
def State.seat (s : State) (b : Berth) : State :=
  s.modHold (fun c => { c with bprState := 2, bprB0 := s.bCross b, bprStallSince := none })

/-- The setpoints and references with which a function starts. R115, R127. -/
def State.initFunc (s : State) (func berth : Nat) (auto keep fromApr : Bool) : State :=
  let n := s.estN
  let e := s.estE
  let psi := s.estPsi
  let b := s.berth berth
  let c0 := s.hold.core
  match func with
  | 0 => s.modHold (fun c => { c with func := 0, autoHdg := auto, spPsi := psi, refPsi := psi })
  | 1 =>
    let kept : Bool := c0.func = 0 && c0.autoHdg
    s.modHold (fun c => { c with func := 1, autoHdg := false, spPsi := if kept then c.spPsi else psi, refPsi := if kept then c.refPsi else psi })
  | 2 =>
    let lim := s.par .HOLD_SP_MAX_STEP
    let k : Bool := keep && decide (len2 (c0.spN - n) (c0.spE - e) ≤ lim * lim)
    s.modHold (fun c => { c with
      func := 2, autoHdg := false, refN := n, refE := e, refPsi := psi
      spN := if k then c.spN else n, spE := if k then c.spE else e, spPsi := if k then c.spPsi else psi })
  | 3 =>
    s.modHold (fun c => { c with
      func := 3, autoHdg := false, berth := berth, aprStartN := n, aprStartE := e, aprTgtN := b.tgtN, aprTgtE := b.tgtE, aprAlong := 0
      aprSpeed := 0, aprXtrack := 0, aprHeld := false, refN := n, refE := e, refPsi := psi, spPsi := wrapPi b.psi, spN := b.tgtN, spE := b.tgtE })
  | _ =>
    let s := s.modHold (fun c => { c with
      func := 4, autoHdg := false, berth := berth, bprState := 1, bprF := if c0.func = 4 then c.bprF else 0, bprRamp := true
      bprNoPos := false, bprNoHdg := false, bprStallSince := none, bprLossSince := none
      bprSelectedAt := s.frame.startAt, bprAlong := if fromApr then b.along c.aprTgtN c.aprTgtE else b.along n e
      bprHdgRef := psi, spPsi := wrapPi (b.psi + c.bprOffset) })
    if s.gapNow b ≤ s.par .BPR_CONTACT_DIST then s.seat b else s

/-- BPR is no longer selected. R120, R131. -/
def State.bprEnd (s : State) : State :=
  (State.clearAlarm (s.clearAlarm .BPR_NO_CONTACT) .BPR_CONTACT_LOST).modHold (fun c => { c with
    bprState := 0, bprF := 0, bprRamp := false, bprNoPos := false, bprNoHdg := false, reaction := 0, gap := 0 })

/-- APR is no longer selected. R131. -/
def State.aprEnd (s : State) : State :=
  (s.clearAlarm .APR_XTRACK).modHold (fun c => { c with aprSpeed := 0, aprXtrack := 0, aprHeld := false })

/-- A function that is left. R131. -/
def State.leaveFunc (s : State) (func : Nat) : State :=
  if s.hold.core.func = 4 ∧ func ≠ 4 then s.bprEnd
  else if s.hold.core.func = 3 ∧ func ≠ 3 then s.aprEnd
  else s

/-- A change of function with its cause: 0 command, 1 POS_LOST, 2 HDG_LOST, 3 arrival, 4 entry to HOLD. R97, R126. -/
def State.changeFunc (s : State) (func berth cause : Nat) (auto keep : Bool) : State :=
  let old := s.hold.core.func
  let fromApr : Bool := old = 3
  let s := (s.leaveFunc func).startBlend s.hold.core.tau
  let s := s.initFunc func berth auto keep fromApr
  s.event .HOLD_TRANSITION [wN old, wN func, wN cause]

/-- The function whose setpoints a command changes: the one in force, or the one preselected. R113. -/
def State.setpointFunc (s : State) : Nat :=
  if s.sys.mode = .hold then s.hold.core.func
  else match s.hold.preselected with
    | some (f, _, _) => f
    | none => 0

/-- Step 1 of a fence: one command. A setpoint that the function in force at the fence does not take changes nothing. R97, R111, R113, R124. -/
def State.applyHold (s : State) (c : HoldCmd) : State :=
  match c with
  | .select f a k b =>
    let s := if s.sys.mode = .hold then s.changeFunc f b 0 a k else { s with hold := { s.hold with preselected := some (f, a, k, b) } }
    (s.modHold (fun c => { c with degraded := false })).clearAlarm .HOLD_DEGRADED
  | .setpoint n e psi pos hdg =>
    let f := s.setpointFunc
    let pos : Bool := pos && f = 2
    let hdg : Bool := hdg && decide (f ≤ 2)
    s.modHold (fun c => { c with
      spN := if pos then n else c.spN, spE := if pos then e else c.spE, spPsi := if hdg then c.hdg psi else c.spPsi })
  | .setEnd e =>
    if s.hold.core.endSel = e then s
    else s.modHold (fun c => { c with endSel := e, joyFrozen := true, joyFrozenTau := c.joyDemand, joyCentredAt := none })
  | .bprSet f o => s.modHold (fun c => { c with bprForce := some f, bprOffset := o })

/-- HOLD is entered by SET_MODE: the preselected function starts, or JOY without auto-heading. What MPC_FAIL and HOLD_DEGRADED report stays until
R107 and R131 clear it. R95. -/
def State.startHold (s : State) : State :=
  let p := s.hold.preselected.getD (0, false, false, 0)
  let s := (s.bprEnd.aprEnd).modHold (fun c => { c with
    func := 0, autoHdg := false, tau := {}, tauPrev := {}, wffUsed := {}, joyDemand := {}, joyFrozen := false
    joyCentredAt := none, blendFrom := none, blendNew := false, blendK := 0, mpcFail := 0, mpcOk := 0, mpcLast := [] })
  let s := { s with hold := { s.hold with started := true, preselected := none, afterTakeover := false } }
  (s.initFunc p.1 p.2.2.2 p.2.1 p.2.2.1 false).event .HOLD_TRANSITION [0xFFFF, wN p.1, 4]

/-- HOLD_DEGRADED with its cause: 1 position, 2 heading, 3 MPC. R128. -/
def State.degrade (s : State) (cause : Nat) : State :=
  (s.modHold (fun c => { c with degraded := true })).raiseAlarm .HOLD_DEGRADED 0 [wN cause]

/-- Step 2 of a fence: POS_LOST and HDG_LOST. A degradation stays until a function is selected. R128. -/
def State.degradeStep (s : State) : State :=
  let f := s.hold.core.func
  let s :=
    if s.hdgLost then
      if f = 1 ∨ f = 2 ∨ f = 3 then (s.changeFunc 0 0 2 false false).degrade 2
      else if f = 0 ∧ s.hold.core.autoHdg then (s.modHold (fun c => { c with autoHdg := false })).degrade 2
      else if f = 4 ∧ ¬ s.hold.core.bprNoHdg then (s.modHold (fun c => { c with bprNoHdg := true })).degrade 2
      else s
    else s
  let f := s.hold.core.func
  if s.posLost then
    if f = 2 ∨ f = 3 then (s.changeFunc 1 0 1 false false).degrade 1
    else if f = 4 ∧ ¬ s.hold.core.bprNoPos then (s.modHold (fun c => { c with bprNoPos := true })).degrade 1
    else s
  else s

/-! ### Step 3: automatic transitions (R118, R120) -/

/-- Whether APR has arrived. R118. -/
def State.aprArrived (s : State) : Bool :=
  let c := s.hold.core
  let d := s.par .APR_ARRIVE_DIST
  let v := s.par .APR_ARRIVE_SPEED
  decide (len2 (c.aprTgtN - s.estN) (c.aprTgtE - s.estE) ≤ d * d) && decide (len2 (s.estNu 0) (s.estNu 1) ≤ v * v) &&
    decide (absQ (wrapPi (s.estPsi - (s.berth c.berth).psi)) ≤ rad (s.par .APR_ARRIVE_HDG))

/-- The states of BPR that follow from gap and force. R120, R124. -/
def State.bprAuto (s : State) : State :=
  let c := s.hold.core
  let b := s.berth c.berth
  if c.bprState = 1 ∧ s.gapNow b ≤ s.par .BPR_CONTACT_DIST then s.seat b
  else if c.bprState = 3 ∧ c.bprF = s.pressForce then s.modHold (fun c => { c with bprState := 4 })
  else if c.bprState = 4 ∧ c.bprF ≠ s.pressForce then s.modHold (fun c => { c with bprState := 3 })
  else s

/-- Step 3 of a fence. -/
def State.autoStep (s : State) : State :=
  if s.hold.core.func = 3 then
    if s.aprArrived then
      if s.parB .APR_AUTO_BPR then s.changeFunc 4 s.hold.core.berth 3 false false
      else
        let c := s.hold.core
        (s.changeFunc 2 0 3 false false).modHold (fun d => { d with spN := c.aprTgtN, spE := c.aprTgtE, spPsi := c.spPsi })
    else s
  else if s.hold.core.func = 4 then s.bprAuto
  else s

/-! ### Joystick (R99–R101, R112) -/

/-- The shaped value of an axis. R99. -/
def State.shape (s : State) (j : Rat) : Rat :=
  let d := s.par .HOLD_JOY_DEADBAND
  let p := s.par .HOLD_JOY_EXP
  if absQ j ≤ d then 0 else (if j < 0 then -1 else 1) * Config.pow ((absQ j - d) / (1 - d)) p

/-- An axis as the fence holds it: its value, and whether its point is usable. R101. -/
def State.joyAxis (s : State) (p : Param) : Rat × Bool :=
  match s.par? p with
  | none => (0, true)
  | some n =>
    match s.fval (natOf n) with
    | some v => (s.shape v, true)
    | none => (0, false)

/-- The joystick at a fence, in every mode: shaped axes, the freeze's timer and the alarm. R99, R101, R112. -/
def State.joyRead (s : State) : State :=
  let x := s.joyAxis .HOLD_JOY_X_PT
  let y := s.joyAxis .HOLD_JOY_Y_PT
  let n := s.joyAxis .HOLD_JOY_N_PT
  let js : Tau := { x := x.1, y := y.1, n := n.1 }
  let centred : Bool := x.1 = 0 && y.1 = 0 && n.1 = 0
  let s := s.modHold (fun c => { c with joyShaped := js, joyCentredAt := s.since centred c.joyCentredAt })
  s.alarmIf (!(x.2 && y.2 && n.2)) .JOY_INPUT_BAD

/-- The joystick demand of a frame: frozen, or moved towards the shaped axes. R99, R112. -/
def State.joyMove (s : State) : State :=
  let k := s.par .HOLD_JOY_SCALE / 100
  let step (i : Nat) : Rat := s.par .HOLD_JOY_RATE / 100 * s.fmax i * frameSec
  s.modHold (fun c =>
    let aim := c.flip (tauOf (fun i => c.joyShaped.get i * k * s.fmax i))
    { c with joyDemand := if c.joyFrozen then c.joyFrozenTau else tauOf (fun i => toward (step i) (c.joyDemand.get i) (aim.get i)) })

/-- The yaw axis where the function holds heading: it moves the setpoint. R100. -/
def State.joyYaw (s : State) : State :=
  let c := s.hold.core
  if (c.func = 1 ∨ (c.func = 0 ∧ c.autoHdg)) ∧ ¬ c.joyFrozen then
    s.modHold (fun c => { c with spPsi := wrapPi (c.spPsi + c.joyShaped.n * rad (s.par .HOLD_SP_ROT) * frameSec) })
  else s

/-! ### Wind feed-forward (R109, R110) -/

/-- The feed-forward of a frame. -/
def State.wffStep (s : State) : State :=
  let k := lagStep (s.par .HOLD_WFF_TAU)
  if s.est.core.out.windGood then
    let g := s.par .HOLD_WFF_GAIN / 100
    s.modHold (fun c => { c with wff := Tau.scale (-g) (tauL s.tauWind), wffOn := c.func ≠ 0 || s.parB .HOLD_WFF_JOY })
  else s.modHold (fun c => { c with wff := Tau.scale (1 - k) c.wff, wffOn := false })

/-- The feed-forward that is added to the demand. R110. -/
def State.wffAdded (s : State) : Tau := if s.hold.core.func ≠ 0 ∨ s.parB .HOLD_WFF_JOY then s.hold.core.wff else {}

/-! ### References (R108, R116) -/

/-- The distance left to the approach target along the track. -/
def HoldCore.aprLen (c : HoldCore) : Rat := Config.sqrt (len2 (c.aprTgtN - c.aprStartN) (c.aprTgtE - c.aprStartE))

/-- The speed of the reference point with a distance left. R116. -/
def State.aprV (s : State) (d : Rat) : Rat :=
  if d ≤ 0 then 0 else minQ (s.par .APR_SPEED) [Config.sqrt (2 * s.par .APR_DECEL * d)]

/-- The point of the track a distance from its start. -/
def HoldCore.aprPoint (c : HoldCore) (a : Rat) : Rat × Rat :=
  let l := c.aprLen
  (c.aprStartN + a * (c.aprTgtN - c.aprStartN) / l, c.aprStartE + a * (c.aprTgtE - c.aprStartE) / l)

/-- The position reference moved for a time towards the setpoint. R108. -/
def State.refPos (s : State) (c : HoldCore) (t : Rat) : Rat × Rat :=
  let dn := c.spN - c.refN
  let de := c.spE - c.refE
  let step := s.par .HOLD_SP_SPEED * t
  if len2 dn de ≤ step * step then (c.spN, c.spE)
  else
    let l := Config.sqrt (len2 dn de)
    (c.refN + step * dn / l, c.refE + step * de / l)

/-- The heading reference moved for a time. R108, R115. -/
def State.refHdg (s : State) (c : HoldCore) (t : Rat) : Rat := turn (rad (s.par .HOLD_SP_ROT) * t) c.refPsi c.spPsi

/-- The reference of a frame. R108, R116, R117, R125. -/
def State.refStep (s : State) : State :=
  let c := s.hold.core
  if c.func = 2 then
    let p := s.refPos c frameSec
    s.modHold (fun c => { c with refN := p.1, refE := p.2, refPsi := s.refHdg c frameSec })
  else if c.func = 1 ∨ c.func = 0 then s.modHold (fun c => { c with refPsi := s.refHdg c frameSec })
  else if c.func = 3 then
    let l := c.aprLen
    let xt := ((s.estE - c.aprStartE) * (c.aprTgtN - c.aprStartN) - (s.estN - c.aprStartN) * (c.aprTgtE - c.aprStartE)) / l
    let lim := s.par .APR_XTRACK_LIMIT
    let held : Bool := if c.aprHeld then decide (lim ≤ 2 * absQ xt) else decide (lim < absQ xt)
    let v := if held then 0 else s.aprV (l - c.aprAlong)
    let a := minQ l [c.aprAlong + v * frameSec]
    let p := c.aprPoint a
    (s.modHold (fun c => { c with
      aprXtrack := xt, aprHeld := held, aprSpeed := v, aprAlong := a, refN := p.1, refE := p.2, refPsi := s.refHdg c frameSec })).alarmIf held .APR_XTRACK
  else
    let b := s.berth c.berth
    s.modHold (fun c =>
      let sp := wrapPi (b.psi + c.bprOffset)
      { c with spPsi := sp, bprHdgRef := turn (rad (s.par .HOLD_SP_ROT) * frameSec) c.bprHdgRef sp })

/-! ### The direct law (R102) -/

/-- The direct law of an axis for an error, a velocity and a bias. -/
def State.directLaw (s : State) (i : Nat) (e nu b : Rat) : Rat :=
  let w := 2 * pi / s.axPar .HOLD_DL_PERIOD_X .HOLD_DL_PERIOD_Y .HOLD_DL_PERIOD_N i
  let m := s.massOf i
  let kd := 2 * s.par .HOLD_DL_ZETA * w * m - s.dampOf i
  0 - m * w * w * e - (if kd < 0 then 0 else kd) * nu - b

/-- The yaw moment that holds a heading. -/
def State.yawLaw (s : State) (ref : Rat) : Rat := s.directLaw 2 (wrapPi (s.estPsi - ref)) (s.estNu 2) (s.estBias 2)

/-- The direct law of the functions with a reference. -/
def State.directDemand (s : State) : Tau :=
  let c := s.hold.core
  let e := toBody s.estPsi (s.estN - c.refN) (s.estE - c.refE)
  let b := s.bodyBias
  let n := s.yawLaw c.refPsi
  if c.func = 1 then { x := c.joyDemand.x, y := c.joyDemand.y, n := n }
  else { x := s.directLaw 0 e.1 (s.estNu 0) b.x, y := s.directLaw 1 e.2 (s.estNu 1) b.y, n := n }

/-! ### Berth press (R119–R125) -/

/-- The cross force, its published terms and the timers of contact and loss. R121–R124. -/
def State.bprStep (s : State) : State :=
  let c := s.hold.core
  let b := s.berth c.berth
  let gap := s.gapNow b
  let v := (s.bprVel b).2
  let seat := s.par .BPR_SEAT_FORCE
  let target : Rat :=
    if c.bprState = 1 then
      let vr := clampQ (s.par .BPR_TOUCH_SPEED) (s.par .BPR_CLOSE_SPEED) (s.par .BPR_CLOSE_GAIN * gap)
      clampQ (-seat) seat (s.massOf 1 / s.par .BPR_SPEED_TAU * (vr - v) - s.bCross b)
    else if c.bprState = 2 then seat
    else s.pressForce
  let f := if c.bprState = 1 ∧ ¬ c.bprRamp then target else toward (s.par .BPR_RAMP * frameSec) c.bprF target
  let rf := if c.bprState = 1 then 0 else c.bprB0 - s.bCross b
  let contact : Bool := (c.bprState = 2 || c.bprState = 5) && decide (gap ≤ s.par .BPR_CONTACT_DIST) &&
    decide (absQ v ≤ s.par .BPR_STALL_SPEED) && decide (s.par .BPR_BAL_FRAC * f ≤ rf)
  let loss : Bool := (c.bprState = 3 || c.bprState = 4) && decide (v < -(s.par .BPR_LOSS_SPEED))
  s.modHold (fun c => { c with
    gap := gap, bprF := f, bprRamp := c.bprRamp && decide (f ≠ target), reaction := rf, bprStallSince := s.since contact c.bprStallSince, bprLossSince := s.since loss c.bprLossSince })

/-- The body forces of BPR before the feed-forward. R125, R128. -/
def State.bprDemand (s : State) : Tau :=
  let c := s.hold.core
  let b := s.berth c.berth
  let bAlong (n e : Rat) : Rat := n * b.an + e * b.ae
  let fa := if c.bprNoPos then -(bAlong c.lastBias.x c.lastBias.y)
    else s.directLaw 0 (b.along s.estN s.estE - c.bprAlong) (s.bprVel b).1 (bAlong (s.estBias 0) (s.estBias 1))
  let d := s.bprPsi b - b.psi
  let fs := b.star * c.bprF
  { x := fa * Config.cos d + fs * Config.sin d, y := fs * Config.cos d - fa * Config.sin d
    n := if c.bprNoHdg then -c.lastBias.n else s.yawLaw c.bprHdgRef }

/-! ### The model-predictive problem (R103–R106) -/

/-- The response of one axis to force, discretised for 0.5 s with zero-order hold: velocity kept, velocity gained, way from velocity and
way gained for one unit of force. R103. -/
def State.zoh (s : State) (i : Nat) : Rat × Rat × Rat × Rat :=
  let h : Rat := 1 / 2
  let m := s.massOf i
  let d := s.dampOf i
  if d = 0 then (1, h / m, h, h * h / (2 * m))
  else
    let a := Config.exp (-(d * h / m))
    (a, (1 - a) / d, (1 - a) * m / d, (h - (1 - a) * m / d) / d)

/-- Powers of a number. -/
def powers (a : Rat) (n : Nat) : List Rat := (List.range n).map (fun k => a ^ k)

/-- What one axis of the problem needs: responses of velocity and way after d steps, free motion, references and weights. -/
structure MpcAxis where
  vImp : List Rat := [] -- velocity d + 1 steps after one unit of force
  sImp : List Rat := [] -- way d + 1 steps after it
  vFree : List Rat := [] -- velocity error at steps 1 to 20 without force
  sFree : List Rat := [] -- position error at steps 1 to 20 without force
  wPos : Rat := 0
  wVel : Rat := 0
  wTau : Rat := 0
  wRate : Rat := 0
  prev : Rat := 0

/-- Steps of the horizon. -/
def mpcN : Nat := 20

/-- The references over the horizon: position and heading at steps 1 to 20, and their velocities. R104, R108, R116. -/
def State.mpcRef (s : State) : List (Rat × Rat × Rat × Rat × Rat × Rat) :=
  let c := s.hold.core
  let h : Rat := 1 / 2
  let rot := rad (s.par .HOLD_SP_ROT)
  if c.func = 3 then
    let l := c.aprLen
    let go (acc : Rat × List (Rat × Rat)) (_ : Nat) : Rat × List (Rat × Rat) :=
      let v := if c.aprHeld then 0 else s.aprV (l - acc.1)
      let a := minQ l [acc.1 + v * h]
      (a, acc.2 ++ [(a, v)])
    let along := ((List.range mpcN).foldl go (c.aprAlong, [])).2
    (List.range mpcN).map (fun k =>
      let t := h * ((k + 1 : Nat) : Rat)
      let av := along.getD k (0, 0)
      let p := c.aprPoint av.1
      let psi := s.refHdg c t
      (p.1, p.2, psi, av.2 * (c.aprTgtN - c.aprStartN) / l, av.2 * (c.aprTgtE - c.aprStartE) / l,
        if psi = wrapPi c.spPsi then 0 else if wrapPi (c.spPsi - psi) < 0 then -rot else rot))
  else
    (List.range mpcN).map (fun k =>
      let t := h * ((k + 1 : Nat) : Rat)
      let p := s.refPos c t
      let dn := c.spN - p.1
      let de := c.spE - p.2
      let l := Config.sqrt (len2 dn de)
      let v := s.par .HOLD_SP_SPEED
      let psi := s.refHdg c t
      let still : Bool := dn = 0 && de = 0
      (p.1, p.2, psi, if still then 0 else v * dn / l, if still then 0 else v * de / l,
        if psi = wrapPi c.spPsi then 0 else if wrapPi (c.spPsi - psi) < 0 then -rot else rot))

/-- One axis of the problem. R103, R104, R106. -/
def State.mpcAxis (s : State) (refs : List (Rat × Rat × Rat × Rat × Rat × Rat)) (i : Nat) : MpcAxis :=
  let z := s.zoh i
  let pw := powers z.1 mpcN
  let vImp := pw.map (z.2.1 * ·)
  let sImp := (List.range mpcN).map (fun d => z.2.2.2 + z.2.2.1 * sumQ (vImp.take d))
  let ahd : Bool := s.hold.core.func = 1
  let keep := 1 - s.par .HOLD_WFF_GAIN / 100
  let f := s.bodyBias.get i + keep * nth s.tauWind i
  let psi := s.estPsi
  let free (k : Nat) : Rat × Rat :=
    let nu0 := s.estNu i
    let v := z.1 ^ (k + 1) * nu0 + f * sumQ (vImp.take (k + 1))
    let w := z.2.2.1 * nu0 * sumQ (pw.take (k + 1)) + f * sumQ (sImp.take (k + 1))
    match refs[k]? with
    | none => (v, w)
    | some (rn, re, rp, vn, ve, vp) =>
      let e := toBody psi (s.estN - rn) (s.estE - re)
      let u := toBody psi vn ve
      if i = 0 then (if ahd then v else v - u.1, w + e.1)
      else if i = 1 then (if ahd then v else v - u.2, w + e.2)
      else (v - vp, w + wrapPi (psi - rp))
  let fr := (List.range mpcN).map free
  let ps := if i = 2 then rad (s.par .HOLD_MPC_HDG_SCALE) else s.par .HOLD_MPC_POS_SCALE
  let vs := if i = 2 then rad (s.par .HOLD_MPC_ROT_SCALE) else s.par .HOLD_MPC_VEL_SCALE
  let rt := s.dtau i / 2
  { vImp := vImp, sImp := sImp, vFree := fr.map (·.1), sFree := fr.map (·.2)
    wPos := if ahd && i ≠ 2 then 0 else 1 / (ps * ps), wVel := if ahd && i = 1 then 0 else 1 / (vs * vs)
    wTau := s.par .HOLD_MPC_TAU_W / (s.fmax i * s.fmax i), wRate := 1 / (rt * rt), prev := s.hold.core.tauPrev.get i }

/-- The weight of a step. R104. -/
def State.mpcStep (s : State) (k : Nat) : Rat := if k + 1 = mpcN then s.par .HOLD_MPC_TERM_W else 1

/-- An entry of the Hessian of one axis. -/
def State.mpcH (s : State) (a : MpcAxis) (p q : Nat) : Rat :=
  let track := sumQ ((List.range mpcN).map (fun k =>
    if k < p ∨ k < q then 0
    else s.mpcStep k * (a.wPos * nth a.sImp (k - p) * nth a.sImp (k - q) + a.wVel * nth a.vImp (k - p) * nth a.vImp (k - q))))
  let own := if p = q then a.wTau + a.wRate * (if p + 1 = mpcN then 1 else 2) else 0
  let next := if p = q + 1 ∨ q = p + 1 then -a.wRate else 0
  2 * (track + own + next)

/-- An entry of the gradient of one axis. -/
def State.mpcG (s : State) (a : MpcAxis) (p : Nat) : Rat :=
  2 * (sumQ ((List.range mpcN).map (fun k =>
    if k < p then 0
    else s.mpcStep k * (a.wPos * nth a.sImp (k - p) * nth a.sFree k + a.wVel * nth a.vImp (k - p) * nth a.vFree k))) -
      (if p = 0 then a.wRate * a.prev else 0))

/-- The bounds of a variable. R105, R106. -/
def State.mpcBound (s : State) (k i : Nat) : Rat × Rat :=
  let c := s.hold.core
  if c.func = 1 ∧ i ≠ 2 then (c.joyDemand.get i - 1, c.joyDemand.get i + 1)
  else
    let m := minQ (s.fmax i) [s.alc.cap.get i]
    if k = 0 then
      let p := c.tauPrev.get i
      let d := s.dtau i * frameSec
      (maxQ (-m) [p - d], minQ m [p + d])
    else (-m, m)

/-- The condensed problem of a frame; variable 3k + i is component i of step k. R103–R106, R202, R224. -/
def State.mpcProblem (s : State) : HenProblem :=
  let n := 3 * mpcN
  let refs := s.mpcRef
  let ax := (List.range 3).map (s.mpcAxis refs)
  let axis (i : Nat) : MpcAxis := ax.getD i {}
  let fw (q : Rat) : Word := toF32 q
  let bs := (List.range n).map (fun v => s.mpcBound (v / 3) (v % 3))
  let pair (j : Nat) : List Word :=
    let d := s.dtau (j % 3) / 2
    [BitVec.ofNat 32 (j + 3 + 65536 * j), fw 1, fw (-1), fw (-d), fw d, 0, 0, 0]
  let warm := s.hold.core.mpcLast
  { op := 0x10, opt := if warm.length = n then 0x10 else 0, n := n, m := 0, k := n - 3, iter := s.parN .HEN_MPC_ITER, pivExp := 0
    words := mkBlock ([
      ((n, n), (List.range n).flatMap (fun c => (List.range n).map (fun r =>
        if r % 3 = c % 3 then fw (s.mpcH (axis (r % 3)) (r / 3) (c / 3)) else 0))),
      ((n, 1), (List.range n).map (fun v => fw (s.mpcG (axis (v % 3)) (v / 3)))),
      ((n, 1), bs.map (fun b => fw b.1)), ((n, 1), bs.map (fun b => fw b.2)),
      ((8, n - 3), (List.range (n - 3)).flatMap pair)] ++
      (if warm.length = n then [((n, 1), warm.map fw)] else [])) }

/-- Whether a function poses the problem. R103. -/
def HoldCore.usesMpc (c : HoldCore) : Bool := c.func = 1 || c.func = 2 || c.func = 3

/-- The problem is submitted to queue 0. R107, R224. -/
def State.poseMpc (s : State) : State :=
  let s := { s with hold := { s.hold with mpcJob := none, mpcResult := none } }
  if s.hold.core.usesMpc then
    let id := s.hen.nextId
    let s := s.henFirm 0 .app0Mpc [s.mpcProblem] (s.parMs .FRM_ALLOC_DEADLINE)
    { s with hold := { s.hold with mpcJob := if s.hen.nextId = id then none else some id } }
  else s

/-! ### Excursions (R114) -/

/-- The alarms of R114 by number. -/
def excAlarm (i : Nat) : EvCode :=
  if i = 0 then .POS_EXC_WARN else if i = 1 then .HDG_EXC_WARN else if i = 2 then .POS_EXCURSION else .HDG_EXCURSION

/-- The limit of an excursion alarm. -/
def State.excLimit (s : State) (i : Nat) : Rat :=
  if i = 0 then s.par .HOLD_EXC_WARN else if i = 1 then rad (s.par .HOLD_HDG_WARN) else if i = 2 then s.par .HOLD_EXC_ALARM
  else rad (s.par .HOLD_HDG_ALARM)

/-- The excursions of a frame and their alarms; none where no function runs. -/
def State.excStep (s : State) : State :=
  let c := s.hold.core
  let runs := s.holdRuns
  let pos : Rat :=
    if ¬ runs then 0
    else if c.func = 2 then Config.sqrt (len2 (s.estN - c.refN) (s.estE - c.refE))
    else if c.func = 3 then absQ c.aprXtrack
    else if c.func = 4 ∧ ¬ c.bprNoPos then absQ ((s.berth c.berth).along s.estN s.estE - c.bprAlong)
    else 0
  let hdg : Rat :=
    if ¬ runs ∨ (c.func = 0 ∧ ¬ c.autoHdg) ∨ s.hdgLost ∨ (c.func = 4 ∧ c.bprNoHdg) then 0
    else absQ (wrapPi (s.estPsi - (if c.func = 4 then c.bprHdgRef else c.refPsi)))
  let s := s.modHold (fun c => { c with errPos := pos, errHdg := hdg })
  (List.range 4).foldl (fun s i =>
    let v := if i % 2 = 0 then pos else hdg
    if s.excLimit i < v then
      State.raiseAlarm { s with hold := { s.hold with excBelow := assocDel s.hold.excBelow i } } (excAlarm i)
    else { s with hold := { s.hold with excBelow :=
      if (assoc s.hold.excBelow i).isSome then s.hold.excBelow else assocSet s.hold.excBelow i s.now } }) s

/-! ### A frame of the hold function -/

/-- The biases of the last updates. R128. -/
def State.biasStep (s : State) : State :=
  let e := s.est.core
  s.modHold (fun c => { c with lastBias := {
    x := if e.drPos then c.lastBias.x else s.estBias 0, y := if e.drPos then c.lastBias.y else s.estBias 1
    n := if e.drHdg then c.lastBias.n else s.estBias 2 } })

/-- The first fence after a takeover: the function continues from the newest mirror, and one older than one frame is blended in from the mirrored
demand. R129. -/
def State.takeoverStep (s : State) : State :=
  if ¬ s.hold.afterTakeover then s
  else
    let old : Bool := match s.frame.mirrorApplied with
      | none => true
      | some n => decide (n + 1 < s.frame.number)
    let s := { s with hold := { s.hold with afterTakeover := false } }
    if old then
      let s := match s.hold.mirrorCore with
        | some c => s.modHold (fun _ => c)
        | none => s
      s.startBlend s.hold.core.tau
    else s

/-- A fence at which no function runs: BPR and APR are not selected, and nothing is posed. R120, R131. -/
def State.holdIdle (s : State) : State :=
  let s := if s.hold.core.bprState ≠ 0 ∨ s.hold.core.func = 4 then s.bprEnd else s
  let s := if s.hold.core.func = 3 then s.aprEnd else s
  let s := s.excStep
  { s with hold := { s.hold with mpcJob := none, mpcResult := none } }

/-- From F+3 ms: steps 1 to 3 of the fence, joystick, feed-forward, references, and the problem posed. R97, R107. -/
def State.holdBegin (s : State) : State :=
  let due := s.hold.due
  let s := { s with hold := { s.hold with due := [] } }
  let s := if s.sys.mode = .hold ∧ ¬ s.hold.started then s.startHold else s
  let s := if s.holdRuns then s.takeoverStep else s
  let s := (due.foldl State.applyHold s).joyRead
  if ¬ s.holdRuns then s.holdIdle
  else
    let s := s.degradeStep.autoStep
    let s := s.joyMove.joyYaw.wffStep.refStep.biasStep
    let s := if s.hold.core.func = 4 then s.bprStep else s
    let s := s.modHold (fun c => { c with tauPrev := c.tau.sub c.wffUsed })
    s.excStep.poseMpc

/-- A result of the problem, as R107 judges it: the status of point 782. -/
def mpcJudge (r : Option (Nat × Nat × List Rat)) : Nat :=
  match r with
  | none => 1
  | some (st, fl, _) => if st = 1 then 2 else if st ≠ 0 then 1 else if fl &&& (hfNonpos ||| hfOvf) = 0 then 0 else 3

/-- The new demand of a frame without blending; none where R44 keeps the previous one. R107. -/
def State.newDemand (s : State) : Option Tau :=
  let c := s.hold.core
  if c.func = 0 then
    some { x := c.joyDemand.x, y := c.joyDemand.y, n := if c.autoHdg then s.yawLaw c.refPsi else c.joyDemand.n }
  else if c.func = 4 then some s.bprDemand
  else if c.direct then some s.directDemand
  else
    match s.hold.mpcResult with
    | some (_, _, x) => if mpcJudge s.hold.mpcResult = 0 then some (tauL x) else none
    | none => none

/-- The demand with its feed-forward, blended. R96, R126. -/
def State.blend (s : State) (new : Tau) : State :=
  let c := s.hold.core
  match c.blendFrom with
  | none => s.modHold (fun c => { c with tau := new, blendK := 0 })
  | some (prev, new0, start) =>
    let n0 := if c.blendNew then new else new0
    let t : Rat := ((s.frame.startAt - start : Nat) : Rat) / 1000000000
    let k := maxQ 0 [1 - t / s.par .HOLD_XFER_TIME]
    if k = 0 then s.modHold (fun c => { c with tau := new, blendFrom := none, blendNew := false, blendK := 0 })
    else s.modHold (fun c => { c with
      tau := new.add ((prev.sub n0).scale k), blendFrom := some (prev, n0, start), blendNew := false, blendK := k })

/-- A late problem is counted and cancelled at F+4 ms. R44. -/
def State.mpcLate (s : State) : State :=
  if ¬ s.hold.core.usesMpc ∨ s.hold.mpcResult.isSome then s
  else
    let s : State := { s with frame := { s.frame with holdLate := s.frame.holdLate + 1 } }
    match s.hold.mpcJob with
    | none => s
    | some id =>
      let s := s.cancelJob 0 id
      { s with hen := { s.hen with finished := s.hen.finished.filter (fun e => e.1.id ≠ id) } }

/-- The frame's counts of failed and good results. R107. -/
def State.mpcCount (s : State) : State :=
  if ¬ s.hold.core.usesMpc then s.modHold (fun c => { c with mpcStatus := 4, mpcFail := 0, mpcOk := 0 })
  else
    let j := mpcJudge s.hold.mpcResult
    let x := match s.hold.mpcResult with
      | some (_, _, x) => x
      | none => []
    s.modHold (fun c => { c with
      mpcStatus := j, mpcFail := if j = 0 then 0 else c.mpcFail + 1, mpcOk := if j = 0 then c.mpcOk + 1 else 0
      mpcLast := if j = 0 then x else c.mpcLast })

/-- At F+4 ms: the demand of the frame. R44, R96. -/
def State.holdEnd (s : State) : State :=
  if ¬ s.holdRuns then s.modHold (fun c => { c with tau := {}, mpcStatus := 4 })
  else
    let s := s.mpcLate.mpcCount
    match s.newDemand with
    | none => s
    | some t => (s.blend (t.add s.wffAdded)).modHold (fun c => { c with wffUsed := s.wffAdded })

/-! ### Points (R130) -/

/-- HOLD_FLAGS. -/
def HoldCore.flags (c : HoldCore) : Nat :=
  b2n c.autoHdg + 2 * b2n (decide (0 < c.blendK)) + 4 * b2n c.degraded + 8 * b2n c.direct + 16 * b2n c.wffOn + 32 * b2n c.joyFrozen

/-- The heading setpoint of the selected end. -/
def HoldCore.spShown (c : HoldCore) : Rat := wrap2Pi (c.hdg c.spPsi)

/-- The points of the hold functions. -/
def holdPoints (s : State) : List (Nat × PVal × Half) :=
  let c := s.hold.core
  let g : Half := qGood
  let t := c.flip c.tau
  let w := c.flip c.wff
  let on : Bool := s.sys.mode = .hold
  let f (p : Nat) (q : Rat) : Nat × PVal × Half := (p, pvF q, g)
  [(768, pvE (if on then c.func else 0xFFFF), g), (769, pvX c.flags, g), (770, pvE c.endSel, g), f 771 c.spN, f 772 c.spE, f 773 c.spShown,
    f 774 t.x, f 775 t.y, f 776 t.n, f 777 w.x, f 778 w.y, f 779 w.n, f 780 c.errPos, f 781 c.errHdg, (782, pvE c.mpcStatus, g),
    (783, pvE c.bprState, g), f 784 c.gap, f 785 c.bprF, f 786 c.reaction,
    f 787 (if c.func = 3 then c.aprLen - c.aprAlong else 0), f 788 c.aprSpeed, f 789 c.aprXtrack, f 790 c.joyShaped.x, f 791 c.joyShaped.y,
    f 792 c.joyShaped.n]

end Sys2Proof.Machine
end

