-- ==== Sys2Proof/Machine/FioOps.lean ====
section
/-!
DEFINITION. The field channels' operations: commanded states and switches, pulses, readback faults, supply states, restore
and the device points (spec/15).
-/
namespace Sys2Proof.Machine

/-! ### Channels and groups -/

/-- Field channel c, 1 to 96. -/
def State.fch (s : State) (c : Nat) : FioChan := s.fio.chans.getD (c - 1) {}

/-- A field channel changed. -/
def State.modFch (s : State) (c : Nat) (f : FioChan → FioChan) : State :=
  { s with fio := { s.fio with chans := s.fio.chans.modify (c - 1) f } }

/-- Field group g, 1 to 8. -/
def State.fgr (s : State) (g : Nat) : FioGroup := s.fio.groups.getD (g - 1) {}

/-- A field group changed. -/
def State.modFgr (s : State) (g : Nat) (f : FioGroup → FioGroup) : State :=
  { s with fio := { s.fio with groups := s.fio.groups.modify (g - 1) f } }

/-- The group of a channel. R454. -/
def groupOf (c : Nat) : Nat := (c - 1) / 12 + 1

/-- The channels of a group. R454. -/
def groupChans (g : Nat) : List Nat := (List.range 12).map (fun i => 12 * (g - 1) + i + 1)

/-- All channels. -/
def fioAll : List Nat := (List.range 96).map (· + 1)

/-- The mode of a channel. R454. -/
def State.fmode (s : State) (c : Nat) : Nat := s.parN .FIO_MODE c

/-- Whether a channel is an output. -/
def State.fout (s : State) (c : Nat) : Bool := s.fmode c = 4

/-- Whether a channel is an input. -/
def State.fin (s : State) (c : Nat) : Bool := between 1 (s.fmode c) 3

/-- A group's state: UNUSED with no channel configured. R454, R462. -/
def State.fstate (s : State) (g : Nat) : Nat :=
  if (groupChans g).all (fun c => s.fmode c = 0) then 4 else (s.fgr g).state

/-- Whether the supply of a group carries its outputs: OK or LOW. -/
def State.fsupplied (s : State) (g : Nat) : Bool := s.fstate g ≤ 1

/-- The value point of a channel. R468. -/
def fioPoint (c : Nat) : Nat := 3328 + 2 * (c - 1)

/-- The quality a group's supply gives its value points. R463; in WAIT_RESTORE the LOW alarm says whether the supply is low. -/
def State.fqual (s : State) (g : Nat) : Half :=
  match s.fstate g with
  | 1 => qUncertain ||| rSupply
  | 2 => qBad ||| rSupply
  | 3 => if s.alarmOn .FIO_SUPPLY_LOW g then qUncertain ||| rSupply else qGood
  | _ => qGood

/-- The quality of a channel's value point: BAD with SUPPLY in a group whose supply is MISSING, BAD with RANGE under WIRE_BREAK or BACKFED, else
as the supply gives it. R457, R460, R463. -/
def State.fchQual (s : State) (c : Nat) : Half :=
  let g := groupOf c
  if s.fstate g = 2 then s.fqual g else if (s.fch c).wireBreak || (s.fch c).backfed then qBad ||| rRange else s.fqual g

/-- A value point written as a new sample. R456, R461. -/
def State.fioSample (s : State) (c ts : Nat) (v : Bool) : State :=
  s.devPoint ts (fioPoint c) (pvB v) (s.fchQual c) (if s.fout c then 0xFFFF else BitVec.ofNat 16 c)

/-- The level an input decides from its pin voltage and current, by its mode: ON, OFF, or between them the level before. R455. -/
def inputLevel (mode : Nat) (was : Bool) (volts mA : Rat) : Bool :=
  let onV : Rat := if mode = 1 then 15 else 11
  let offA : Rat := if mode = 1 then 1 / 2 else 3 / 2
  if onV ≤ volts ∧ 2 ≤ mA then true else if volts ≤ 5 ∨ mA < offA then false else was

/-- A pin current as the status register of an input shows it, in 10 µA units. R467. -/
def pin10uA (mA : Rat) : Nat := natOf (mA * 100)

/-! ### Commanded states and switches (R458, R459, R464) -/

/-- Whether an output needs authority: FIO_AUTH, or a thruster source. R459. -/
def State.fneedsAuth (s : State) (c : Nat) : Bool := s.parB .FIO_AUTH c || s.parN .FIO_OUT_SRC c = 1

/-- The state the source of an output commands. R458. -/
def State.fcommanded (s : State) (c : Nat) : Bool :=
  match s.parN .FIO_OUT_SRC c with
  | 1 => ((s.thr.chans.getD (s.parN .FIO_OUT_CHAN c - 1) {}).actRun)
  | 2 =>
    let p := s.point (s.parN .FIO_OUT_PT c)
    if qUsable p.qual then p.value.toNat % 2 = 1 else s.parB .FIO_FAILSAFE c && (s.fch c).lastPt
  | _ => (s.fch c).cmd

/-- Whether the switch of an output is on. R458–R464. -/
def State.fswitch (s : State) (c : Nat) : Bool :=
  let x := s.fch c
  let g := groupOf c
  s.fout c && s.dom 11 && x.cmd && !x.overload && !x.stuckOff && x.retryAt.isNone && s.fsupplied g &&
    !(s.fgr g).restore.contains c && (s.thr.auth || !s.fneedsAuth c)

/-- One output follows its source and its conditions; a channel that is no output has its switch off. -/
def State.fioFollow1 (s : State) (c : Nat) : State :=
  if ¬ s.fout c then s.modFch c (fun x => { x with on := false })
  else
    let cm := s.fcommanded c
    let usable : Bool := s.parN .FIO_OUT_SRC c = 2 && qUsable (s.point (s.parN .FIO_OUT_PT c)).qual
    let s := s.modFch c (fun x => { x with
      cmd := cm, lastPt := if usable then cm else x.lastPt
      retryAt := if cm then x.retryAt else none, shutdowns := if cm || x.retryAt.isNone then x.shutdowns else 0 })
    let on := s.fswitch c
    s.modFch c (fun x => { x with
      on := on
      onAt := if on && !x.on then s.now else x.onAt
      backSince := if on then none else x.backSince
      lowSince := if on then x.lowSince else none
      openSince := if on then x.openSince else none
      overcurrent := x.overcurrent && (on || x.retryAt.isSome) })

/-- Every output follows its source and its conditions. R458, R459. -/
def State.fioFollow (s : State) : State := fioAll.foldl (fun s c => s.fioFollow1 c) s

/-! ### Pulses (R466, R470) -/

/-- Milliseconds of a time in ns. -/
def msOf (ns : Nat) : Nat := ns / 1000000

/-- A pulse ended: its output off, the time on in the completion. -/
def State.fioPulseOver (s : State) (c status : Nat) : State :=
  match (s.fch c).pulse with
  | none => s
  | some x =>
    ((s.modFch c (fun y => { y with pulse := none, cmd := false })).fioFollow1 c).completeCmd x.session x.seq status
      (leBytes 4 (msOf (min s.now x.stop - x.start)))

/-- A pulse ended by a cause of R466: ABORTED, or DONE where its end falls in the same sample. -/
def State.fioPulseAbort (s : State) (c why : Nat) : State :=
  match (s.fch c).pulse with
  | none => s
  | some x =>
    if x.stop ≤ s.now then (s.fioPulseOver c stDone).disableRec .DIS_FIO c why 1 0 0 0
    else (s.fioPulseOver c stAborted).disableRec .DIS_FIO c why 0 1 x.seq x.seq

/-- Pulses of a list of channels ended. -/
def State.fioPulsesAbort (s : State) (cs : List Nat) (why : Nat) : State := cs.foldl (fun s c => s.fioPulseAbort c why) s

/-- Loss of authority ends the pulses of outputs that need it. R459, R466. -/
def State.fioAuthLost (s : State) : State := (s.fioPulsesAbort (fioAll.filter (fun c => s.parB .FIO_AUTH c)) 4).fioFollow

/-! ### Supply (R462–R464) -/

/-- The next output of a restore switches on; the others follow at 1 ms. R464. -/
def State.fioRestoreNext (s : State) (g : Nat) : State :=
  match (s.fgr g).restore with
  | [] => s
  | c :: t => (s.modFgr g (fun x => { x with restore := t, restoreAt := s.now + 1000000 })).fioFollow1 c

/-- A group restored: outputs commanded on switch on in ascending order. R464. -/
def State.fioRestore (s : State) (g : Nat) : State :=
  (s.modFgr g (fun x => { x with restore := (groupChans g).filter (fun c => s.fout c && (s.fch c).cmd) })).fioRestoreNext g

/-- The quality words of a group's value points follow its supply. R463, R375. -/
def State.fioRequal (s : State) (g : Nat) : State :=
  (groupChans g).foldl (fun s c => if s.fmode c = 0 then s else s.requal (fioPoint c) (s.fchQual c)) s

/-- A sample that an input's filter passed at this very instant is not written where its group enters MISSING. R465. -/
def State.fioUnwrite (s : State) (c : Nat) : State :=
  match s.beforeNow (fioPoint c) with
  | some old => if s.fin c then s.putPoint (fioPoint c) { old with qual := s.fchQual c } else s
  | none => s

/-- A group enters MISSING. R463, R465. -/
def State.fioMissing (s : State) (g : Nat) : State :=
  let s := s.modFgr g (fun x => { x with state := 2, restore := [] })
  let s := s.clearAlarm .FIO_RESTORE_WAIT g
  let s := (s.raiseAlarm .FIO_SUPPLY_LOW g).raiseAlarm .FIO_SUPPLY_MISSING g
  let s := s.fioPulsesAbort (groupChans g) 3
  let s := (groupChans g).foldl (fun s c => s.fioFollow1 c) s
  ((groupChans g).foldl State.fioUnwrite s).fioRequal g

/-- A group leaves MISSING with its supply at `volt`: its inputs are evaluated afresh, and its outputs' value points carry the readback again.
R462–R464. -/
def State.fioLeaveMissing (s : State) (g : Nat) (volt : Rat) : State :=
  let auto := s.parN .FIO_G_RESTORE g = 0
  let low : Bool := decide (volt < 37 / 2)
  let s := s.modFgr g (fun x => { x with state := if auto then (if low then 1 else 0) else 3, leftMissing := s.now })
  let s := s.clearAlarm .FIO_SUPPLY_MISSING g
  let s := if low then s else s.clearAlarm .FIO_SUPPLY_LOW g
  let s := (groupChans g).foldl (fun s c =>
    if s.fin c then s.modFch c (fun x => { x with pendingLevel := true })
    else if ¬ s.fout c then s
    else if decide ((s.point (fioPoint c)).value.toNat = b2n (s.fch c).rb) then s.requal (fioPoint c) (s.fchQual c)
    else s.fioSample c s.sel (s.fch c).rb) s
  if auto then s.fioRestore g else s.raiseAlarm .FIO_RESTORE_WAIT g

/-- A group found with its supply at the start of D11 or when its first channel is configured: MISSING below 12.5 V, else as one that leaves
MISSING (log 118). R454, R462, R464. -/
def State.fioGroupUp (s : State) (g : Nat) : State :=
  let v : Rat := (s.fgr g).volt / 100
  if s.fstate g = 4 then s else if v < 25 / 2 then s.fioMissing g else s.fioLeaveMissing g v

/-- D11 comes up: status at its reset values, each group as one that leaves MISSING. R464, R467. -/
def State.fioUp (s : State) : State :=
  let keep (x : FioChan) : FioChan := { cmd := x.cmd }
  let s := { s with fio := {
    chans := s.fio.chans.map keep, groups := s.fio.groups.map (fun (x : FioGroup) => { volt := x.volt }), upAt := s.now } }
  (List.range 8).foldl (fun s i => s.fioGroupUp (i + 1)) s

/-- A configuration takes effect: a channel whose mode changes ends its pulse and starts afresh, and a group that is no longer UNUSED is taken
as it is found. R454, R466. -/
def State.fioConfig (s old : State) : State :=
  if ¬ s.dom 11 then s
  else
    let cs := fioAll.filter (fun c => decide (s.fmode c ≠ old.fmode c))
    let s := s.fioPulsesAbort cs 2
    let s := cs.foldl (fun s c => s.modFch c (fun _ => {})) s
    [1, 2, 3, 4, 5, 6, 7, 8].foldl (fun s g => if old.fstate g = 4 then s.fioGroupUp g else s) s

/-- D11 goes off: pulses end, outputs switch off, commanded states are kept. R466. -/
def State.fioDown (s : State) (why : Nat) : State := (s.fioPulsesAbort fioAll why).fioFollow

/-! ### Status words and points (R467, R468) -/

/-- FIO_CH_FAULT. R468. -/
def FioChan.faultBits (x : FioChan) : Nat :=
  b2n x.wireBreak + 2 * b2n x.backfed + 4 * b2n x.overcurrent + 8 * b2n x.overload + 16 * b2n x.openLoad + 32 * b2n x.stuckOff +
    256 * b2n x.cmd

/-- Whether the status fields are valid: from 1 ms after D11 came up; until then they read their reset values. R467. -/
def State.fioValid (s : State) : Bool := s.past s.fio.upAt 1000000

/-- FIO_Cc_STAT. R467. -/
def State.fioStat (s : State) (c : Nat) : Nat :=
  let x := s.fch c
  s.fmode c % 8 + 8 * b2n (if s.fout c then x.rb else x.level) + 16 * b2n x.cmd + 32 * b2n x.wireBreak + 64 * b2n x.backfed +
    128 * b2n x.overcurrent + 256 * b2n x.overload + 512 * b2n x.openLoad + 1024 * b2n x.stuckOff + 2048 * b2n x.edge +
    65536 * min x.current 4095

/-- FIO_Gg_STAT. R467. -/
def State.fioGstat (s : State) (g : Nat) : Nat :=
  let x := s.fgr g
  min x.volt 4095 + 4096 * s.fstate g + 32768 * b2n x.overload + 65536 * min x.current 4095

/-- The FIO points of a frame. R468. -/
def State.fioPoints (s : State) : List (Nat × PVal × Half) :=
  fioAll.flatMap (fun c =>
    if s.fmode c = 0 then [(fioPoint c, pvB false, qBad ||| rNotConfigured), (fioPoint c + 1, pvX 0, qBad ||| rNotConfigured)]
    else [(fioPoint c + 1, pvX (s.fch c).faultBits, qGood)]) ++
  (List.range 8).flatMap (fun i =>
    let g := i + 1
    let x := s.fgr g
    let b := 3520 + 4 * i
    [(b, pvF ((x.volt : Rat) / 100), qGood), (b + 1, pvE (s.fstate g), qGood), (b + 2, pvF ((x.current : Rat) / 1000), qGood),
     (b + 3, pvU x.shutdowns.toNat, qGood)])

end Sys2Proof.Machine
end

