-- ==== Sys2Proof/Machine/BusOps.lean ====
section
/-!
DEFINITION. The CAN controllers' operations: mailboxes, arbitration, final statuses, error states and clash detection; the
counters of the serial ports (spec/16 R475–R485, R490, R496).
-/
namespace Sys2Proof.Machine

/-! ### Checks shared with the thruster profile -/

/-- The CRC-16 of R151 over the four identifier bytes and bytes 0 to 13 agrees with bytes 14 and 15. -/
def CanFrame.crcOk (f : CanFrame) : Bool :=
  16 ≤ f.data.length && crc16 0xFFFF (leBytes 4 f.id ++ f.data.take 14) = fld f.data 14 2

/-- The source unit, the index, the function and the priority of a 29-bit identifier. R151, R255. -/
def CanFrame.src (f : CanFrame) : Nat := f.id % 256
/-- Index. -/
def CanFrame.index (f : CanFrame) : Nat := f.id / 256 % 256
/-- Function. -/
def CanFrame.func (f : CanFrame) : Nat := f.id / 65536 % 1024
/-- Priority. -/
def CanFrame.prio (f : CanFrame) : Nat := f.id / 2 ^ 26 % 8

/-- CAN port n, 1 to 4. -/
def State.port (s : State) (n : Nat) : CanPort := s.bus.can.getD (n - 1) {}

/-- A CAN port changed. -/
def State.modPort (s : State) (n : Nat) (f : CanPort → CanPort) : State :=
  { s with bus := { s.bus with can := s.bus.can.modify (n - 1) f } }

/-- The node address of this unit on a port. R271. -/
def State.canNode (s : State) (n : Nat) : Nat :=
  match s.par? .THR_CAN_NODE n with
  | some q => natOf q
  | none => if s.red.unit = 1 then 0x0B else if s.red.unit = 2 then 0x0C else 0x0A

/-- Mailbox of a channel's timed frame, and of its interim frames. R475. -/
def boxOf (c : Nat) (interim : Bool) : Nat := 2 * (c - 1) + (if interim then 1 else 0)

/-! ### Reasons of ABORTED (R478), in the order of its table -/

/-- CANCELLED. -/
def abCancelled : Nat := 0
/-- EXPIRED. -/
def abExpired : Nat := 1
/-- REPLACED. -/
def abReplaced : Nat := 2
/-- BUS_OFF. -/
def abBusOff : Nat := 3
/-- CLASH. -/
def abClash : Nat := 4
/-- DISABLED. -/
def abDisabled : Nat := 5

/-- A frame completes ABORTED: counted; an expired SETPOINT counts in FRM_TX_LATE (R38), and a frame of a takeover check
fails its channel's path (R410). -/
def State.frameAborted (s : State) (n : Nat) (f : TxFrame) (why : Nat) : State :=
  let s := s.modPort n (fun p => { p with aborts := p.aborts.modify why (· + 1) })
  let s : State := if why = abExpired ∧ ¬ f.interim then
      { s with frame := { s.frame with txLate := s.frame.txLate + 1 } } else s
  if f.check then
    { s with red := { s.red with check := { s.red.check with failed := s.red.check.failed ||| 2 ^ (f.chan - 1) } } }
  else s

/-- A frame completes TRANSMITTED. -/
def State.frameSent (s : State) (n : Nat) : State := s.modPort n (fun p => { p with tx := p.tx + 1 })

/-- A mailbox changed. -/
def State.modBox (s : State) (n i : Nat) (f : Mailbox → Mailbox) : State :=
  s.modPort n (fun p => { p with boxes := p.boxes.modify i f })

/-- The mailbox i of a port. -/
def State.box (s : State) (n i : Nat) : Mailbox := (s.port n).boxes.getD i {}

/-- Whether a frame takes part in arbitration now. R477. -/
def State.dueNow (s : State) (f : TxFrame) : Bool :=
  match f.t with
  | none => true
  | some t => t ≤ s.raw

/-- The mailbox entered into arbitration: lowest identifier, then lowest mailbox. R476. -/
def pickBox (bs : List Mailbox) : Option (Nat × TxFrame) :=
  ((List.range bs.length).zip bs).foldl
    (fun m e => match e.2.cur with
      | none => m
      | some f =>
        if ¬ f.due then m
        else match m with
          | none => some (e.1, f)
          | some (i, g) => if f.frame.id < g.frame.id then some (e.1, f) else some (i, g)) none

/-- Whether a port transmits: ERROR_ACTIVE or ERROR_PASSIVE, and not past bus-off. R481, R482. -/
def CanPort.canSend (p : CanPort) : Bool := (p.state = 2 || p.state = 3) && p.tec ≤ 255

/-- With the bus idle, the next frame begins its start of frame. R476, R477. -/
def State.canNext (s : State) (n : Nat) : State :=
  let p := s.port n
  if p.onBus.isSome ∨ p.foreign ∨ ¬ p.canSend then s
  else
    match pickBox p.boxes with
    | none => s
    | some (i, f) =>
      ((s.modPort n (fun p => { p with onBus := some i, onBusAt := s.now })).modBox n i
        (fun b => { b with cur := some { f with begun := true } })).emit (.can n f.frame)

/-- Timed frames whose instant has come are due, and with the bus idle the next one begins: a start of frame comes before what happens to its
frame in the same cycle. R477, R479, R480. -/
def State.canDue (s : State) (n : Nat) : State :=
  (s.modPort n (fun p => { p with boxes := p.boxes.map (fun b =>
    { b with cur := b.cur.map (fun f => { f with due := f.due || s.dueNow f }) }) })).canNext n

/-- The frame waiting behind moves into its mailbox. R475. -/
def State.nextBehind (s : State) (n i : Nat) : State :=
  match (s.box n i).behind with
  | none => s.modBox n i (fun b => { b with cur := none })
  | some f => s.modBox n i (fun _ => { cur := some { f with due := s.dueNow f }, behind := none })

/-- Whether a frame's expiry has come. R477. -/
def State.expired (s : State) (f : TxFrame) : Bool :=
  match f.expiry with
  | none => false
  | some e => e ≤ s.raw

/-- A frame placed in a mailbox. R475, R477, R482. -/
def State.placeFrame (s : State) (n i : Nat) (f : TxFrame) : State :=
  let s := s.canDue n
  let p := s.port n
  if p.state = 4 ∨ p.state = 5 then s.frameAborted n f abBusOff
  else if p.state = 0 then s.frameAborted n f abDisabled
  else if s.expired f then s.frameAborted n f abExpired
  else
    let s := match f.t with
      | some t => if t < s.raw then s.modPort n (fun p => { p with txPast := p.txPast + 1 }) else s
      | none => s
    let f := { f with due := s.dueNow f }
    let b := s.box n i
    let s := match b.cur with
      | none => s.modBox n i (fun b => { b with cur := some f })
      | some g =>
        if g.begun then
          let s := match b.behind with
            | some h => s.frameAborted n h abReplaced
            | none => s
          s.modBox n i (fun b => { b with behind := some f })
        else (s.frameAborted n g abReplaced).modBox n i (fun b => { b with cur := some f })
    s.canNext n

/-- A mailbox's frames end for a reason: at once where no attempt is running. R479. -/
def State.dropBox (s : State) (n i why : Nat) : State :=
  let b := s.box n i
  let s := match b.behind with
    | some h => (s.frameAborted n h why).modBox n i (fun b => { b with behind := none })
    | none => s
  match b.cur with
  | none => s
  | some g =>
    if g.begun then s.modBox n i (fun b => { b with cur := some { g with cancelled := some why } })
    else (s.frameAborted n g why).modBox n i (fun b => { b with cur := none })

/-- A cancellation of a mailbox's frames; one in the cycle of a start of frame is too late for that frame. R479. -/
def State.cancelBox (s : State) (n i why : Nat) : State := (s.canDue n).dropBox n i why

/-- Every frame of a port completes ABORTED at once, the attempt on the bus included. R482. -/
def State.abortPort (s : State) (n why : Nat) : State :=
  let s := (List.range 64).foldl (fun s i =>
    let b := s.box n i
    let s := match b.cur with
      | some g => s.frameAborted n g why
      | none => s
    let s := match b.behind with
      | some g => s.frameAborted n g why
      | none => s
    s.modBox n i (fun _ => {})) s
  s.modPort n (fun p => { p with onBus := none })

/-- Frames held in a port's mailboxes. -/
def CanPort.frames (p : CanPort) : List TxFrame := p.boxes.flatMap (fun b => b.cur.toList ++ b.behind.toList)

/-- A port's frames cancelled for a disable; the attempt on the bus runs to its end. R27, R479. -/
def State.disablePort (s : State) (n why : Nat) : State :=
  let s := s.canDue n
  let k := (s.port n).frames.length
  let s := (List.range 64).foldl (fun s i => s.dropBox n i why) s
  let left := (s.port n).frames.length
  s.disableRec .DIS_MAILBOX n why 0 (k - left) 0 0

/-- The error state after a change of the counters. R481. -/
def CanPort.reState (p : CanPort) : CanPort :=
  if p.state = 2 ∨ p.state = 3 then
    if 128 ≤ p.tec ∨ 128 ≤ p.rec_ then { p with state := 3, activeSince := none }
    else { p with state := 2 }
  else p

/-- A port's counters changed, with the alarm on entry to ERROR_PASSIVE. R481, R497. -/
def State.canCount (s : State) (n : Nat) (f : CanPort → CanPort) : State :=
  let was := (s.port n).state
  let s := s.modPort n (fun p =>
    let q := (f p).reState
    if was = 3 ∧ q.state = 2 then { q with activeSince := some s.now } else q)
  if was = 2 ∧ (s.port n).state = 3 then s.raiseAlarm .CAN_ERROR_PASSIVE n else s

/-- The receive counter after a good frame, as ISO 11898-1 counts (log 42). -/
def recGood (r : Nat) : Nat := if 127 < r then 120 else r - 1

/-- Three consecutive attempts with one identifier and one error position. R485. -/
def State.clashSeen (s : State) (n id bitPos : Nat) (own : Bool) : Bool × State :=
  let p := s.port n
  let run := match p.clash.find? (fun k => k.id = id && k.bitPos = bitPos && k.own = own) with
    | some k => k.run + 1
    | none => 1
  let s := s.modPort n (fun p => { p with clash :=
    ({ id := id, bitPos := bitPos, run := run, own := own } : ClashTrack) :: p.clash.filter (fun k => k.id ≠ id || k.own ≠ own) })
  if run < 3 then (false, s)
  else
    let was := (s.port n).clashSeen.any (fun c => c.1 = id)
    let s := s.modPort n (fun p => { p with
      lastClash := id, lastClashPos := bitPos, clashSeen := (id, s.now) :: p.clashSeen.filter (fun c => c.1 ≠ id) })
    (true, if was then s else s.raiseAlarm .IDENTIFIER_CLASH (n * 2 ^ 32 + id) [wN n, wN id, wN bitPos])

/-- A frame of an identifier without the signature ends its run. -/
def State.clashReset (s : State) (n id : Nat) (own : Bool) : State :=
  s.modPort n (fun p => { p with clash := p.clash.filter (fun k => k.id ≠ id || k.own ≠ own) })

/-! ### Serial ports (R490) -/

/-- Serial port n, 1 to 12. -/
def State.ser (s : State) (n : Nat) : SerPort := s.bus.ser.getD (n - 1) {}

/-- A serial port changed. -/
def State.modSer (s : State) (n : Nat) (f : SerPort → SerPort) : State :=
  { s with bus := { s.bus with ser := s.bus.ser.modify (n - 1) f } }

/-- SER_RX_ERROR judged over the characters of the last 10 s. R497. -/
def State.serJudge (s : State) (n : Nat) : State :=
  let s := s.modSer n (fun p => { p with window := p.window.filter (fun w => s.now < w.1 + 10000000000) })
  let w := (s.ser n).window
  let c := sumN (w.map (fun x => x.2.1))
  let e := sumN (w.map (fun x => x.2.2))
  if c < e * 100 then s.raiseAlarm .SER_RX_ERROR n
  else if e * 1000 < c then s.clearAlarm .SER_RX_ERROR n
  else s

/-- Characters received are counted. R490, R497. -/
def State.serChars (s : State) (n chars errs : Nat) : State :=
  (s.modSer n (fun p => { p with charErr := p.charErr + wN errs, window := (s.now, chars, errs) :: p.window })).serJudge n

/-- A sentence or frame discarded. -/
def State.serBad (s : State) (n : Nat) : State := s.modSer n (fun p => { p with bad := p.bad + 1 })

/-- A sentence or frame accepted. -/
def State.serGood (s : State) (n : Nat) : State :=
  s.modSer n (fun p => { p with accepted := p.accepted + 1, lastAcc := some s.now })

end Sys2Proof.Machine
end

