-- ==== Sys2Proof/Machine/SafeOps.lean ====
section
/-!
DEFINITION. The safety section's operations: the parameter set in its canonical and packed forms, evaluation of stops, brakes
and limited thrust by both technologies, and reset (spec/14).
-/
namespace Sys2Proof.Machine

/-! ### The parameter set (R445) -/

/-- Fields of the canonical form in table order: the parameter, its index and its bytes; binary32 where marked. R445. -/
def safeFields : List (Param × Nat × Nat × Bool) :=
  ((List.range 8).flatMap (fun i => let n := i + 1
    [(Param.SAFE_SIN_FUNC, n, 1, false), (.SAFE_SIN_TP, n, 1, false), (.SAFE_SIN_DISC, n, 2, false), (.SAFE_SIN_STS, n, 1, false),
     (.SAFE_SIN_BRK, n, 1, false), (.SAFE_SIN_SLT, n, 1, false), (.SAFE_SIN_RESTART, n, 1, false)])) ++
  ((List.range 4).flatMap (fun i => let n := i + 1
    [(Param.SAFE_STS_USE, n, 1, false), (.SAFE_STS_DELAY, n, 2, false)])) ++
  ((List.range 4).flatMap (fun i => let n := i + 1
    [(Param.SAFE_BRK_USE, n, 1, false), (.SAFE_BRK_CHAN, n, 1, false), (.SAFE_BRK_ENC, n, 1, false), (.SAFE_BRK_SET_SPEED, n, 4, true),
     (.SAFE_BRK_TEST_T, n, 4, true), (.SAFE_BRK_TEST_ANG, n, 4, true), (.SAFE_BRK_TEST_INT, n, 2, false)])) ++
  ((List.range 4).flatMap (fun i => let n := i + 1
    [(Param.SAFE_SLT_CHAN, n, 1, false), (.SAFE_SLT_ENC, n, 1, false), (.SAFE_SLT_SPEED, n, 4, true), (.SAFE_SLT_TIME, n, 2, false),
     (.SAFE_SLT_STS, n, 1, false)])) ++
  ((List.range 8).flatMap (fun i => let n := i + 1
    [(Param.SAFE_ENC_FMT, n, 1, false), (.SAFE_ENC_RES, n, 4, false)])) ++
  [(Param.SAFE_STOP_BRK, 0, 1, false)]

/-- The canonical form of the set in a generation's values: format 0x0001 and the fields, 223 bytes. R445. -/
def State.safeCanon (s : State) : List Byte :=
  leBytes 2 1 ++ safeFields.flatMap (fun f =>
    if f.2.2.2 then bF (s.par f.1 f.2.1) else leBytes f.2.2.1 (s.parN f.1 f.2.1))

/-- A one-, two- or four-byte field of the confirmed set; 0 without one. -/
def SafeSt.cf (x : SafeSt) (o n : Nat) : Nat := fld (x.confirmed.getD []) o n

/-- A binary32 field of the confirmed set. -/
def SafeSt.cfF (x : SafeSt) (o : Nat) : Rat := fldF (x.confirmed.getD []) o

/-- SAFE_SINn_FUNC. -/
def SafeSt.sinFunc (x : SafeSt) (n : Nat) : Nat := x.cf (2 + 8 * (n - 1)) 1
/-- SAFE_SINn_TP. -/
def SafeSt.sinTp (x : SafeSt) (n : Nat) : Nat := x.cf (3 + 8 * (n - 1)) 1
/-- SAFE_SINn_DISC, ms. -/
def SafeSt.sinDisc (x : SafeSt) (n : Nat) : Nat := x.cf (4 + 8 * (n - 1)) 2
/-- SAFE_SINn_STS. -/
def SafeSt.sinSts (x : SafeSt) (n : Nat) : Nat := x.cf (6 + 8 * (n - 1)) 1
/-- SAFE_SINn_BRK. -/
def SafeSt.sinBrk (x : SafeSt) (n : Nat) : Nat := x.cf (7 + 8 * (n - 1)) 1
/-- SAFE_SINn_SLT. -/
def SafeSt.sinSlt (x : SafeSt) (n : Nat) : Nat := x.cf (8 + 8 * (n - 1)) 1
/-- SAFE_SINn_RESTART: automatic. -/
def SafeSt.sinAuto (x : SafeSt) (n : Nat) : Bool := x.cf (9 + 8 * (n - 1)) 1 = 1
/-- SAFE_STSp_USE. -/
def SafeSt.stsUse (x : SafeSt) (p : Nat) : Bool := x.cf (66 + 3 * (p - 1)) 1 = 1
/-- SAFE_STSp_DELAY, ms. -/
def SafeSt.stsDelay (x : SafeSt) (p : Nat) : Nat := x.cf (67 + 3 * (p - 1)) 2
/-- SAFE_BRKb_USE. -/
def SafeSt.brkUse (x : SafeSt) (b : Nat) : Bool := x.cf (78 + 17 * (b - 1)) 1 = 1
/-- SAFE_BRKb_CHAN. -/
def SafeSt.brkChan (x : SafeSt) (b : Nat) : Nat := x.cf (79 + 17 * (b - 1)) 1
/-- SAFE_BRKb_ENC. -/
def SafeSt.brkEnc (x : SafeSt) (b : Nat) : Nat := x.cf (80 + 17 * (b - 1)) 1
/-- SAFE_BRKb_SET_SPEED, rad/s. -/
def SafeSt.brkSpeed (x : SafeSt) (b : Nat) : Rat := x.cfF (81 + 17 * (b - 1))
/-- SAFE_BRKb_TEST_T, N. -/
def SafeSt.brkTestT (x : SafeSt) (b : Nat) : Rat := x.cfF (85 + 17 * (b - 1))
/-- SAFE_BRKb_TEST_ANG, degrees. -/
def SafeSt.brkTestAng (x : SafeSt) (b : Nat) : Rat := x.cfF (89 + 17 * (b - 1))
/-- SAFE_BRKb_TEST_INT, h. -/
def SafeSt.brkTestInt (x : SafeSt) (b : Nat) : Nat := x.cf (93 + 17 * (b - 1)) 2
/-- SAFE_SLTj_ENC. -/
def SafeSt.sltEnc (x : SafeSt) (j : Nat) : Nat := x.cf (147 + 9 * (j - 1)) 1
/-- SAFE_SLTj_SPEED, rad/s. -/
def SafeSt.sltSpeed (x : SafeSt) (j : Nat) : Rat := x.cfF (148 + 9 * (j - 1))
/-- SAFE_SLTj_TIME, ms. -/
def SafeSt.sltTime (x : SafeSt) (j : Nat) : Nat := x.cf (152 + 9 * (j - 1)) 2
/-- SAFE_SLTj_STS. -/
def SafeSt.sltSts (x : SafeSt) (j : Nat) : Nat := x.cf (154 + 9 * (j - 1)) 1
/-- SAFE_STOP_BRK. -/
def SafeSt.stopBrk (x : SafeSt) : Nat := x.cf 222 1

/-- Counts per revolution SAFE-L reckons with for an encoder of a canonical form. R445. -/
def encCounts (c : List Byte) (k : Nat) : Nat :=
  let fmt := fld c (182 + 5 * (k - 1)) 1
  let res := fld c (183 + 5 * (k - 1)) 4
  if fmt = 3 then res else 2 ^ min res 16

/-- SAFE-L's 512-bit register set from a canonical form, as a number. R445. -/
def slPack (c : List Byte) : Nat :=
  let sin := sumN ((List.range 8).map (fun i =>
    let o := 2 + 8 * i
    (fld c o 1 % 4 + 4 * (fld c (o + 1) 1 % 2) + 8 * ((fld c (o + 2) 2 / 10 - 1) % 128) + 1024 * (fld c (o + 4) 1 % 16) +
      16384 * (fld c (o + 5) 1 % 16) + 262144 * (fld c (o + 7) 1 % 2)) * 2 ^ (19 * i)))
  let sts := sumN ((List.range 4).map (fun i =>
    let o := 66 + 3 * i
    (fld c o 1 % 2 + 2 * (fld c (o + 1) 2 % 8192)) * 2 ^ (152 + 14 * i)))
  let brk := sumN ((List.range 4).map (fun i =>
    let o := 78 + 17 * i
    let k := fld c (o + 2) 1
    let fmt := if k = 0 then 0 else fld c (182 + 5 * (k - 1)) 1
    let res := if k = 0 then 0 else fld c (183 + 5 * (k - 1)) 4
    let cpr : Rat := if k = 0 then 0 else (encCounts c k : Rat)
    let setc := natOf (fldF c (o + 3) * cpr * (1 / 100) / (2 * pi))
    let tstc := natOf (fldF c (o + 11) / 360 * cpr)
    (fld c o 1 % 2 + 2 * (k % 16) + 32 * (fmt % 4) + 128 * (res % 2 ^ 24) + 2 ^ 31 * (setc % 2 ^ 20) +
      2 ^ 51 * (tstc % 2 ^ 20)) * 2 ^ (208 + 71 * i)))
  sin + sts + brk + (fld c 222 1 % 16) * 2 ^ 492 + (fld c 0 2 % 65536) * 2 ^ 496

/-- The 64 bytes of SAFE-L's register set. -/
def slBytes (c : List Byte) : List Byte := leBytes 64 (slPack c)

/-- Bits `lo` on, `w` of them, of a number. -/
def bitsAt (n lo w : Nat) : Nat := n / 2 ^ lo % 2 ^ w

/-- Bytes replaced from an offset. -/
def patch (o : Nat) (d bs : List Byte) : List Byte := bs.take o ++ d ++ bs.drop (o + d.length)

/-- The canonical form rebuilt from a readback of SAFE-L's bank, the fields SAFE-L does not hold taken from SAFE-P's copy. R447. -/
def slRebuild (bank c : List Byte) : List Byte :=
  let n := leNat bank
  let c := (List.range 8).foldl (fun c i =>
    let b := 19 * i
    let o := 2 + 8 * i
    patch (o + 7) [byte (bitsAt n (b + 18) 1)] (patch (o + 5) [byte (bitsAt n (b + 14) 4)] (patch (o + 4) [byte (bitsAt n (b + 10) 4)]
      (patch (o + 2) (leBytes 2 ((bitsAt n (b + 3) 7 + 1) * 10)) (patch (o + 1) [byte (bitsAt n (b + 2) 1)]
        (patch o [byte (bitsAt n b 2)] c)))))) c
  let c := (List.range 4).foldl (fun c i =>
    let b := 152 + 14 * i
    let o := 66 + 3 * i
    patch (o + 1) (leBytes 2 (bitsAt n (b + 1) 13)) (patch o [byte (bitsAt n b 1)] c)) c
  let c := (List.range 4).foldl (fun c i =>
    let b := 208 + 71 * i
    let o := 78 + 17 * i
    patch (o + 2) [byte (bitsAt n (b + 1) 4)] (patch o [byte (bitsAt n b 1)] c)) c
  patch 222 [byte (bitsAt n 492 4)] (patch 0 (leBytes 2 (bitsAt n 496 16)) c)

/-! ### Parts of the state -/

/-- Input n, 1 to 8. -/
def SafeSt.inp (x : SafeSt) (n : Nat) : SafeIn := x.ins.getD (n - 1) {}
/-- Pair p, 1 to 4. -/
def SafeSt.pair (x : SafeSt) (p : Nat) : StsPair := x.sts.getD (p - 1) {}
/-- Brake b, 1 to 4. -/
def SafeSt.brake (x : SafeSt) (b : Nat) : Brake := x.brk.getD (b - 1) {}
/-- Entry j, 1 to 4. -/
def SafeSt.entry (x : SafeSt) (j : Nat) : SltEntry := x.slt.getD (j - 1) {}

/-- The safety section changed. -/
def State.modSafe (s : State) (f : SafeSt → SafeSt) : State := { s with safe := f s.safe }

/-- Input n changed. -/
def SafeSt.modIn (x : SafeSt) (n : Nat) (f : SafeIn → SafeIn) : SafeSt := { x with ins := x.ins.modify (n - 1) f }
/-- Pair p changed. -/
def SafeSt.modPair (x : SafeSt) (p : Nat) (f : StsPair → StsPair) : SafeSt := { x with sts := x.sts.modify (p - 1) f }
/-- Brake b changed. -/
def SafeSt.modBrake (x : SafeSt) (b : Nat) (f : Brake → Brake) : SafeSt := { x with brk := x.brk.modify (b - 1) f }
/-- Entry j changed. -/
def SafeSt.modEntry (x : SafeSt) (j : Nat) (f : SltEntry → SltEntry) : SafeSt := { x with slt := x.slt.modify (j - 1) f }

/-- An input is in demand: a channel open, or a fault latched. R426–R429. -/
def SafeIn.inDemand (i : SafeIn) : Bool := !i.a || !i.b || i.stuckA || i.stuckB || i.cross || i.disc

/-- Whether an input's demand is one of its function: STOP 1, SLT 2. -/
def SafeSt.demands (x : SafeSt) (n func : Nat) : Bool := (x.inp n).inDemand && x.sinFunc n = func

/-- Inputs 1 to 8. -/
def inputs8 : List Nat := [1, 2, 3, 4, 5, 6, 7, 8]
/-- Pairs, brakes and entries 1 to 4. -/
def four : List Nat := [1, 2, 3, 4]

/-- An input whose stop of pair p is not automatic demands it. R430, R431. -/
def SafeSt.manualDemand (x : SafeSt) (p : Nat) : Bool :=
  inputs8.any (fun n => x.demands n 1 && (x.sinSts n).testBit (p - 1) && !x.sinAuto n)

/-- An input with automatic restart demands pair p. -/
def SafeSt.autoDemand (x : SafeSt) (p : Nat) : Bool :=
  inputs8.any (fun n => x.demands n 1 && (x.sinSts n).testBit (p - 1) && x.sinAuto n)

/-- A violation of limited thrust stops pair p. R438. -/
def SafeSt.sltStops (x : SafeSt) (p : Nat) : Bool :=
  four.any (fun j => (x.entry j).violation && (x.sltSts j).testBit (p - 1))

/-- Causes that de-energise at once, without the delay. R430, R441. -/
def SafeSt.hardCause (x : SafeSt) (p : Nat) : Bool :=
  x.safeStop || x.confirmed.isNone || !x.stsUse p || (x.pair p).faulted || x.sltStops p

/-- Causes that follow SAFE_STSp_DELAY. R430. -/
def SafeSt.softCause (x : SafeSt) (p : Nat) : Bool := x.manualDemand p || x.autoDemand p || (x.pair p).request

/-- Any cause of R430 stands. -/
def SafeSt.cause (x : SafeSt) (p : Nat) : Bool := x.hardCause p || x.softCause p

/-! ### Evaluation (R430, R435, R438) -/

/-- Pair p evaluated at an instant: stopped, latched, and the delay's end. Every stop latches but that of an input with automatic restart.
R430, R431. -/
def SafeSt.evalPair (x : SafeSt) (now p : Nat) : SafeSt :=
  let q := x.pair p
  let latchCause := x.hardCause p || x.manualDemand p || q.request
  let stopped := x.cause p || q.latched
  let delayEnd := if x.hardCause p then none
    else if ¬ stopped then none
    else if q.stopped then q.delayEnd
    else if x.stsDelay p = 0 then none
    else some (now + x.stsDelay p * 1000000)
  x.modPair p (fun q => { q with stopped := stopped, latched := q.latched || latchCause, delayEnd := delayEnd })

/-- Whether the evaluation energises pair p: not stopped, or its delay still runs; never with SSUP low. R430, R441. -/
def SafeSt.pairOn (x : SafeSt) (p : Nat) : Bool :=
  let q := x.pair p
  (!q.stopped || q.delayEnd.isSome) && !x.ssupLow

/-- A request to set brake b stands: an input in demand, or SAFE-STOP. R435. -/
def SafeSt.brakeAsked (x : SafeSt) (b : Nat) : Bool :=
  inputs8.any (fun n => (x.inp n).inDemand && x.sinFunc n ≠ 0 && (x.sinBrk n).testBit (b - 1)) ||
    (x.safeStop && x.stopBrk.testBit (b - 1))

/-- A request that does not end by itself. R435. -/
def SafeSt.brakeAskedManual (x : SafeSt) (b : Nat) : Bool :=
  inputs8.any (fun n => (x.inp n).inDemand && x.sinFunc n ≠ 0 && (x.sinBrk n).testBit (b - 1) && !x.sinAuto n) ||
    (x.safeStop && x.stopBrk.testBit (b - 1))

/-- The valid shaft speed of an encoder. -/
def SafeSt.speed (x : SafeSt) (k : Nat) : Option Rat := if k = 0 ∨ x.encFault.contains k then none else assoc x.encSpeed k

/-- The shaft is below the set speed, or its speed is not valid. R435. -/
def SafeSt.slowEnough (x : SafeSt) (b : Nat) : Bool :=
  match x.speed (x.brkEnc b) with
  | none => true
  | some v => absQ v < x.brkSpeed b

/-- Conditions that set brake b without waiting for the speed. R435, R441, R445. -/
def SafeSt.brakeAtOnce (x : SafeSt) (b : Nat) : Bool :=
  let k := x.brake b
  x.confirmed.isNone || !x.brkUse b || k.testHold || k.test.isSome || k.failed || k.fault || x.ssupLow

/-- Brake b evaluated: requests kept until they end, switches opened when the rule allows. Released time is counted. R435, R436. -/
def SafeSt.evalBrake (x : SafeSt) (now b : Nat) : SafeSt :=
  let k := x.brake b
  let hours := if k.isSet then k.hoursNs else k.hoursNs + (now - k.hoursAt)
  let manual := x.brakeAskedManual b
  let setReq := (k.setReq && !k.autoReq) || x.brakeAsked b
  let autoReq := setReq && !manual && (k.autoReq || !k.setReq)
  let set := x.brakeAtOnce b || (setReq && (k.isSet || x.slowEnough b))
  x.modBrake b (fun k => { k with setReq := setReq, autoReq := autoReq, isSet := set, hoursNs := hours, hoursAt := now })

/-- Entry j active while an SLT input that names it is in demand; a fault of its encoder meanwhile is a violation. R438. -/
def SafeSt.evalSlt (x : SafeSt) (j : Nat) : SafeSt :=
  let act := inputs8.any (fun n => x.demands n 2 && (x.sinSlt n).testBit (j - 1))
  x.modEntry j (fun e => { e with
    active := act, overSince := if act then e.overSince else none, violation := e.violation || (act && x.encFault.contains (x.sltEnc j)) })

/-- Every input's demand as it stands. -/
def SafeSt.noteDemands (x : SafeSt) : SafeSt := { x with ins := x.ins.map (fun (i : SafeIn) => { i with demand := i.inDemand }) }

/-- The logic both technologies evaluate. -/
def SafeSt.eval (x : SafeSt) (now : Nat) : SafeSt :=
  let x := four.foldl (fun x j => x.evalSlt j) x.noteDemands
  let x := four.foldl (fun x p => x.evalPair now p) x
  four.foldl (fun x b => x.evalBrake now b) x

/-- SAFE-L's gates follow its evaluation at its next tick. R422, R424. -/
def SafeSt.driveL (x : SafeSt) : SafeSt :=
  let x := four.foldl (fun x p => let on := x.pairOn p && x.lHealthy; x.modPair p (fun q => { q with gateL := [on, on] })) x
  four.foldl (fun x b => x.modBrake b (fun k => { k with gatesL := !k.isSet && x.lHealthy })) x

/-- SAFE-P's gates follow its evaluation in its cycle. R422, R424. -/
def SafeSt.driveP (x : SafeSt) : SafeSt :=
  let x := four.foldl (fun x p => let on := x.pairOn p && x.pHealthy; x.modPair p (fun q => { q with gateP := [on, on] })) x
  four.foldl (fun x b => x.modBrake b (fun k => { k with gatesP := !k.isSet && x.pHealthy })) x

/-- Whether the two technologies' enable states differ. R424. -/
def SafeSt.differs (x : SafeSt) : Bool :=
  x.sts.any (fun q => q.gateP ≠ q.gateL) || x.brk.any (fun k => k.gatesP ≠ k.gatesL)

/-- A channel of a pair is energised while both its gates are enabled. R422. -/
def SafeSt.energised (x : SafeSt) (p : Nat) (chB : Bool) : Bool :=
  let q := x.pair p
  let i := if chB then 1 else 0
  q.gateP.getD i false && q.gateL.getD i false

/-- The instant since which the enable states differ is kept. -/
def State.noteDiffer (s : State) : State :=
  s.modSafe (fun x => { x with differSince := s.since x.differs x.differSince })

/-- Records of stops that began or ended between two states. R452. -/
def State.stopRecords (s : State) (before : SafeSt) : State :=
  let s := four.foldl (fun s p =>
    let a := (before.pair p).stopped
    let b := (s.safe.pair p).stopped
    if ¬ a ∧ b then s.event .SAFE_STOP_EV [wN p] else if a ∧ ¬ b then s.event .SAFE_STOP_END [wN p] else s) s
  s.alarmIf (s.safe.sts.any (·.stopped)) .SAFE_STOP_ACTIVE

/-- Whether a fault of R441 is latched. -/
def SafeSt.faultLatched (x : SafeSt) : Bool :=
  x.ins.any (fun i => i.stuckA || i.stuckB || i.cross || i.disc) || x.sts.any (·.faulted) || x.brk.any (·.fault) ||
    !x.encFault.isEmpty || x.safeStop

/-- A brake test that a demand, a fault or a loss ends: ABORTED, the brake held set. R437, R449. -/
def State.abortBrakeTest (s : State) (b : Nat) : State :=
  match (s.safe.brake b).test with
  | none => s
  | some x => (s.modSafe (fun y => y.modBrake b (fun k => { k with test := none, testHold := true }))).completeCmd x.session x.seq stAborted []

/-- Brake tests that a demand on their pair or brake ends. R449. -/
def State.abortDemanded (s : State) : State :=
  four.foldl (fun s b =>
    let pr := s.parN .SAFE_THR_STS (s.safe.brkChan b)
    if (s.safe.brake b).test.isSome ∧ (s.safe.brakeAsked b ∨ (1 ≤ pr ∧ s.safe.cause pr)) then s.abortBrakeTest b else s) s

/-- SAFE-L evaluates at its tick; SAFE-P follows at its cycle, each from the inputs and encoder lines it has itself. R423, R424. -/
def State.safeL (s : State) : State :=
  let before := s.safe
  let s := s.abortDemanded
  (s.modSafe (fun x => (x.eval s.now).driveL)).noteDiffer.stopRecords before

/-- Both technologies evaluate. -/
def State.safeBoth (s : State) : State :=
  let before := s.safe
  let s := s.abortDemanded
  (s.modSafe (fun x => (x.eval s.now).driveL.driveP)).noteDiffer.stopRecords before

/-- A fault of R441 is latched: recorded at severity 7, with the alarm. R441, R452. -/
def State.safetyFault (s : State) (kind which : Nat) : State :=
  (s.event .SAFE_FAULT_EV [wN kind, wN which]).raiseAlarm .SAFE_FAULT

/-- SAFE-P receives a process stop request for pairs of a mask. R432. -/
def State.processStop (s : State) (mask : Nat) : State :=
  (s.modSafe (fun x => four.foldl (fun x p =>
    if mask.testBit (p - 1) then x.modPair p (fun q => { q with request := true, requestAt := s.now }) else x) x)).safeBoth

/-- A process stop request in a pair is forwarded to the peer. R432. -/
def State.requestStop (s : State) (mask : Nat) : State :=
  let s := s.processStop mask
  if s.pairUnit then s.emit (.stopToPeer mask) else s

/-! ### What the units of a pair exchange (R436, R444) -/

/-- The check value of a set. R445. -/
def setCrc (l : Option (List Byte)) : Word := match l with
  | none => 0
  | some b => wN (crc32c b)

/-- The check value in force; 0 none. -/
def SafeSt.confCrc (x : SafeSt) : Word := setCrc x.confirmed

/-- Released time of brake b now, ns. R436. -/
def SafeSt.releasedNs (x : SafeSt) (now b : Nat) : Nat :=
  let k := x.brake b
  if k.isSet then k.hoursNs else k.hoursNs + (now - k.hoursAt)

/-- Released times of the brakes. -/
def State.brkHours (s : State) : List Nat := four.map (fun b => s.safe.releasedNs s.now b)

/-- BRAKE_TEST_OVERDUE of brake b as its released time says. R436, R452. -/
def State.overdue (s : State) (b : Nat) : State :=
  let due : Bool := decide (s.safe.brkTestInt b * 3600000000000 ≤ s.safe.releasedNs s.now b) && s.safe.brkUse b && s.safe.confirmed.isSome
  (s.modSafe (fun x => x.modBrake b (fun k => { k with overdue := due }))).alarmIf due .BRAKE_TEST_OVERDUE b

/-- What the peer's mirror says of its safety section; the standby takes the released times of the active unit. R436, R444. -/
def State.takeExchange (s : State) (m : MirrorData) : State :=
  let s := s.modSafe (fun x => { x with peerCrc := some m.safeCrc, peerHours := m.brkHours })
  let s := s.alarmIf (decide (m.safeCrc ≠ s.safe.confCrc)) .SAFE_CFG_DIFFERS
  if m.active then
    four.foldl (fun s b => State.overdue (s.modSafe (fun x => x.modBrake b (fun k => { k with
      hoursNs := m.brkHours.getD (b - 1) 0, hoursAt := s.now }))) b) s
  else s

/-- A brake test on a channel ends when its drive reports FAULT. R437. -/
def State.abortChanTest (s : State) (c : Nat) : State :=
  four.foldl (fun s b => if s.safe.brkChan b = c then s.abortBrakeTest b else s) s

/-! ### Reset (R429, R431, R435, R441) -/

/-- What SAFE_RESET leaves: latches whose causes are gone are cleared, the rest stands; a process stop request of the same instant comes after
it. R431, R441, R449. -/
def SafeSt.reset (x : SafeSt) (now : Nat) : SafeSt :=
  let x := { x with
    ins := x.ins.map (fun (i : SafeIn) => if i.a && i.b then { i with stuckA := false, stuckB := false, cross := false, disc := false } else i)
    encFault := x.encFault.filter (fun k => x.encPresent.contains k) }
  let x := { x with slt := x.slt.map (fun (e : SltEntry) => if e.active && e.overSince.isSome then e else { e with violation := false }) }
  let x := { x with sts := x.sts.map (fun (q : StsPair) => { q with faulted := false, request := q.request && q.requestAt = now }) }
  let x := four.foldl (fun x p =>
    if x.cause p then x else x.modPair p (fun q => { q with latched := false, stopped := false, delayEnd := none })) x
  let x := four.foldl (fun x b => x.modBrake b (fun k => { k with
    fault := false, testHold := false, setReq := x.brakeAsked b, autoReq := k.autoReq && x.brakeAsked b })) x
  x.eval now

/-- Whether SAFE_RESET would clear any latch. R453. -/
def SafeSt.resettable (x : SafeSt) (now : Nat) : Bool := decide (x.reset now ≠ x.eval now)

/-- SAFE_RESET applied in both technologies. -/
def State.safeReset (s : State) : State :=
  let before := s.safe
  let s := (s.modSafe (fun x => (x.reset s.now).driveL.driveP)).noteDiffer.stopRecords before
  if s.safe.faultLatched then s else s.clearAlarm .SAFE_FAULT

/-- The highest stop a unit's safety section makes of itself: SAFE-STOP. The technology that detects the fault removes its
enables. R425. -/
def State.safeStopEnter (s : State) (byP byL : Bool) : State :=
  let before := s.safe
  let s := s.abortDemanded
  let s := s.modSafe (fun x => ({ x with safeStop := true } : SafeSt).eval s.now)
  let s := if byP then s.modSafe (·.driveP) else s
  let s := if byL then s.modSafe (·.driveL) else s
  (four.foldl (fun s b => s.abortBrakeTest b) s).noteDiffer.stopRecords before

end Sys2Proof.Machine
end

