-- ==== Sys2Proof/Machine/ThrOps.lean ====
section
/-!
DEFINITION. The thruster channels' operations: angles and their extrapolation, groynes, SETPOINT frames, faults with their
reactions, authority, and the steps of a slice (spec/08).
-/
namespace Sys2Proof.Machine

/-! ### Channels and parameters -/

/-- Thruster channel c, 1 to 24. -/
def State.tch (s : State) (c : Nat) : ThrChan := s.thr.chans.getD (c - 1) {}

/-- A thruster channel changed. -/
def State.modTch (s : State) (c : Nat) (f : ThrChan → ThrChan) : State :=
  { s with thr := { s.thr with chans := s.thr.chans.modify (c - 1) f } }

/-- Channels 1 to 24. -/
def thrAll : List Nat := (List.range 24).map (· + 1)

/-- Whether a number names a channel. -/
def isTch (c : Nat) : Bool := between 1 c 24

/-- The type of a channel: 0 none, 1 AZ, 2 TT, 3 PR. R232. -/
def State.ttype (s : State) (c : Nat) : Nat := s.parN .THR_TYPE c

/-- Whether a channel is configured. R232. -/
def State.tconf (s : State) (c : Nat) : Bool := s.ttype c ≠ 0 && (s.par? .ALC_TFWD c).isSome

/-- ALC_c_TFWD, N. -/
def State.tfwd (s : State) (c : Nat) : Rat := s.par .ALC_TFWD c

/-- ALC_c_TREV, N. -/
def State.trev (s : State) (c : Nat) : Rat := s.par .ALC_TREV c

/-- The link of a channel: 0 CAN, 1 ANALOG, 2 BOTH. R233. -/
def State.tlink (s : State) (c : Nat) : Nat := s.parN .THR_LINK c

/-- The CAN port of a channel's CAN path; 0 where it has none. -/
def State.tport (s : State) (c : Nat) : Nat := if s.tlink c = 1 then 0 else s.parN .THR_CAN_PORT c

/-- Whether a channel has an azimuth or rudder angle: AZ or PR. -/
def State.tangled (s : State) (c : Nat) : Bool := s.ttype c = 1 || s.ttype c = 3

/-- The analogue output in place x of a channel (0 thrust, 1 and 2 angle); 0 where none is assigned or the link is CAN. -/
def State.taoPin (s : State) (c x : Nat) : Nat := if s.tlink c = 0 then 0 else s.parN .THR_AO (3 * (c - 1) + x)

/-- The analogue input in place x of a channel (0 thrust, 1 power, 2 angle); 0 where none is assigned or the link is CAN. -/
def State.taiPin (s : State) (c x : Nat) : Nat := if s.tlink c = 0 then 0 else s.parN .THR_AI (3 * (c - 1) + x)

/-! ### Angles (R244–R248) -/

/-- A source with a new sample, kept as far back as 100 ms. R245. -/
def AngSource.take (x : AngSource) (t : Nat) (a : Rat) : AngSource :=
  { x with samples := { t := t, a := a } :: x.samples.filter (fun y => t ≤ y.t + 100000000) }

/-- Whether a source is usable: alive, with a sample no older than THR_c_ANG_MAXAGE. R244, R248. -/
def AngSource.usable (x : AngSource) (raw maxAge : Nat) : Bool :=
  !x.dead && (match x.samples.head? with
    | none => false
    | some y => decide (raw ≤ y.t + maxAge))

/-- ω of a source: from the newest sample and the newest one 10 to 100 ms older. R245. -/
def AngSource.omega (x : AngSource) (lim : Option Rat) : Rat :=
  match x.samples with
  | [] => 0
  | y :: ys =>
    match ys.find? (fun z => z.t + 10000000 ≤ y.t && y.t ≤ z.t + 100000000) with
    | none => 0
    | some z =>
      let w := wrapPi (y.a - z.a) / (((y.t - z.t : Nat) : Rat) / 1000000000)
      match lim with
      | none => w
      | some l => clampQ (-l) l w

/-- The angle a sample with rate ω gives at a raw instant: it stops at THR_c_ANG_MAXAGE. R245. -/
def extrapolate (y : AngSample) (w : Rat) (raw maxAge : Nat) : Rat :=
  wrap2Pi (y.a + w * (((min (raw - y.t) maxAge : Nat) : Rat) / 1000000000))

/-- THR_c_ANG_MAXAGE, ns. -/
def State.maxAge (s : State) (c : Nat) : Nat := s.parMs .THR_ANG_MAXAGE c

/-- The slew rate of a channel, rad/s. -/
def State.slew (s : State) (c : Nat) : Rat := rad (s.par .ALC_SLEW c)

/-- The azimuth sources a channel has assigned, in order of preference with their codes. R244. -/
def State.azSources (s : State) (c : Nat) : List (Nat × AngSource) :=
  let x := s.tch c
  (if s.parN .THR_ENC_AZ c = 0 then [] else [(0, x.encAz)]) ++ (if s.tport c = 0 then [] else [(1, x.fbAz)]) ++
    (if s.taiPin c 2 = 0 then [] else [(2, x.aiAz)])

/-- The source in use, if any. R244. -/
def State.azSource (s : State) (c : Nat) : Option (Nat × AngSource) :=
  (s.azSources c).find? (fun e => e.2.usable s.raw (s.maxAge c))

/-- Counts per revolution of a channel's encoders. R248. -/
def State.encCpr (s : State) (c : Nat) : Nat :=
  if s.parN .THR_ENC_FMT c = 2 then s.parN .THR_ENC_CPR c else 2 ^ s.parN .THR_ENC_BITS c

/-- The number a Gray code word of `bits` bits stands for: each bit is the parity of the word's bits from there up. R248. -/
def grayValue (bits w : Nat) : Nat := (List.range bits).foldl (fun v k => v ^^^ (w % 2 ^ bits / 2 ^ k)) 0

/-- The count of a read: SSI Gray words are decoded, SSI words cut to their bits. R248. -/
def State.encCount (s : State) (c raw : Nat) : Nat :=
  match s.parN .THR_ENC_FMT c with
  | 0 => raw % 2 ^ s.parN .THR_ENC_BITS c
  | 1 => grayValue (s.parN .THR_ENC_BITS c) raw
  | _ => raw

/-- The angle of a read. R248. -/
def State.encAngle (s : State) (c raw : Nat) : Rat :=
  wrap2Pi (s.par .THR_ENC_DIR c * 2 * pi * (s.encCount c raw : Rat) / (s.encCpr c : Rat) + rad (s.par .THR_ENC_OFFSET c))

/-- Whether a read of an encoder is rejected. An index count is compared modulo the counts of a revolution. R248. -/
def State.encRejects (s : State) (c : Nat) (x : AngSource) (r : EncRead) : Bool :=
  !r.ok ||
  (if s.parN .THR_ENC_FMT c = 2 then
    (match r.index, x.lastIndexCount with
      | some i, some k =>
        let d : Int := ((i : Int) - k).emod (s.encCpr c : Int)
        decide (2 < d) && decide (2 < (s.encCpr c : Int) - d)
      | _, _ => false)
  else match x.samples.head? with
    | some y =>
      let dt : Rat := ((s.rawAt r.at_ - y.t : Nat) : Rat) / 1000000000
      decide (3 / 2 * s.slew c * dt + rad 1 < absQ (wrapPi (s.encAngle c r.raw - y.a)))
    | none => false)

/-- A read of an encoder taken: rejected reads count towards unusable, good ones towards usable. R248. -/
def State.encTake (s : State) (c : Nat) (x : AngSource) (r : EncRead) : AngSource :=
  let bad := s.encRejects c x r
  let x := { x with lastIndexCount := match r.index with
    | some i => some (i : Int)
    | none => x.lastIndexCount }
  if bad then
    let k := x.rejects + 1
    { x with rejects := k, goods := 0, dead := x.dead || decide (3 ≤ k) }
  else
    let quad : Bool := s.parN .THR_ENC_FMT c = 2
    let g := x.goods + 1
    let x := { x with
      rejects := 0, goods := if x.dead then g else 0, dead := x.dead && decide (g < 20), indexed := x.indexed || r.index.isSome }
    if quad && !x.indexed then x else x.take (s.rawAt r.at_) (s.encAngle c r.raw)

/-! ### Groynes (R249, R250) -/

/-- A number of degrees modulo 360. -/
def mod360 (d : Rat) : Rat := d - 360 * ((d / 360).floor : Rat)

/-- The factor of one groyne at an azimuth in degrees. R249. -/
def groyne (from_ to_ fade az : Rat) : Rat :=
  if from_ = to_ then 1
  else if absQ (from_ - to_) = 360 then 0
  else
    let w := mod360 (to_ - from_)
    let o := mod360 (az - from_)
    if o ≤ w then 0
    else
      let d := if o - w ≤ 360 - o then o - w else 360 - o
      if fade = 0 then 1 else if fade ≤ d then 1 else d / fade

/-- The gate factor g of a channel at an azimuth in rad; 1 for TT and PR. R249, R250. -/
def State.gateAt (s : State) (c : Nat) (az : Rat) : Rat :=
  if s.ttype c ≠ 1 then 1
  else
    let a := mod360 (deg az)
    minQ 1 ((List.range 4).map (fun k =>
      let i := 4 * (c - 1) + k
      groyne (s.par .THR_GR_FROM i) (s.par .THR_GR_TO i) (s.par .THR_GR_FADE i) a))

/-- The extrapolated azimuth of a channel at a raw instant; the last one where no source is usable. R245, R250. -/
def State.azAt (s : State) (c raw : Nat) : Rat :=
  let x := s.tch c
  match x.azUsed with
  | none => x.azLast
  | some y => extrapolate y x.azRate raw (s.maxAge c)

/-- A thrust capped as R250 caps it at a raw instant; 0 for an AZ channel whose azimuth has never been known. -/
def State.capped (s : State) (c raw : Nat) (q : Rat) : Rat :=
  if s.ttype c = 1 ∧ ¬ (s.tch c).azKnown then 0
  else
    let a := s.azAt c raw
    clampQ (-(s.trev c * s.gateAt c (a + pi))) (s.tfwd c * s.gateAt c a) q

/-! ### SETPOINT frames (R242, R251, R255, R256) -/

/-- Whether a channel's output is not its active set: a reaction, a disable or a fault governs it. -/
def ThrChan.held (x : ThrChan) : Bool := x.zero || x.rampOut || 4 ≤ x.state

/-- The thrust, angle and flags of a channel's frame at a raw instant, from its shadow set or its active set. R242, R246, R263. -/
def State.spFields (s : State) (c raw : Nat) (shadow : Bool) : Rat × Word × Bool × Bool :=
  let x := s.tch c
  if x.held then (x.outT, (x.frozenAng.map toF32).getD x.actAng, x.outRun, x.actTest)
  else if shadow then (s.capped c raw (f32 x.shT), x.shAng, x.shRun, x.shTest)
  else (s.capped c raw (f32 x.actT), x.actAng, x.actRun, x.actTest)

/-- The data field of a SETPOINT frame: it carries the epoch of the unit that sends it. R256, R405. -/
def setpointData (id : Nat) (thr : Rat) (ang epoch : Word) (flags ctr : Nat) : List Byte :=
  let d := bF thr ++ leBytes 4 ang.toNat ++ leBytes 4 epoch.toNat ++ [byte flags, byte ctr]
  d ++ leBytes 2 (crc16 0xFFFF (leBytes 4 id ++ d))

/-- The identifier of a channel's SETPOINT frames: priority 1, function 0x010, index c, the port's node. R255, R259. -/
def State.spId (s : State) (c : Nat) : Nat :=
  2 ^ 26 + 0x010 * 65536 + c * 256 + s.canNode (s.tport c)

/-- A SETPOINT frame placed for transmission: its counter advances. R242, R251, R256. -/
def State.placeSetpoint (s : State) (c : Nat) (f : Rat × Word × Bool × Bool) (interim : Bool) (at_ expiry : Option Nat) : State :=
  let n := s.tport c
  if n = 0 ∨ ¬ s.thr.auth then s
  else
    let x := s.tch c
    let ang := if s.ttype c = 2 then 0 else f.2.1
    let flags := b2n f.2.2.1 + 2 * b2n interim + 4 * b2n f.2.2.2 + 8 * b2n x.gated
    let id := s.spId c
    let fr : CanFrame := { id := id, data := setpointData id f.1 ang s.red.epochHeld flags x.spCounter.toNat }
    (s.modTch c (fun x => { x with spCounter := x.spCounter + 1, lastPlaced := some f.1 })).placeFrame n (boxOf c interim)
      { frame := fr, chan := c, interim := interim, t := at_, expiry := expiry, epoch := s.red.epochHeld, check := s.red.check.running }

/-- The timed frame of a channel, from its shadow set or its active set, armed for the commit instant of this frame or of the next one: the
instant lies on the selected clock and is converted into a raw count when the frame is placed. R240, R242, R477, R38. -/
def State.placeTimed (s : State) (c : Nat) (shadow next : Bool) : State :=
  let late : Nat := if next then 20000000 else 0
  let at_ := s.frameRaw (16000000 + late)
  s.placeSetpoint c (s.spFields c at_ shadow) false (some at_) (some (s.frameRaw (20000000 + late)))

/-- The timed frame of a sealed set built anew where a reaction has changed what the channel sends. R242, R263. -/
def State.retime (s : State) (c : Nat) : State :=
  let x := s.tch c
  if x.sealed ∧ ¬ x.latch ∧ s.tport c ≠ 0 ∧ s.tconf c then s.placeTimed c true s.frame.phaseCommit else s

/-- The number of rounds since D10 came up. R267. -/
def State.thrRound (s : State) : Nat := (s.now - s.thr.roundBase) / 2400000

/-- An interim frame with the output thrust and the active angle; the round has its interim frame. R251, R263. -/
def State.placeInterim (s : State) (c : Nat) : State :=
  let s := s.modTch c (fun x => { x with interimRound := some s.thrRound })
  let x := s.tch c
  s.placeSetpoint c (x.outT, (x.frozenAng.map toF32).getD x.actAng, x.outRun, x.actTest) true none none

/-! ### Faults and reactions (R262–R264) -/

/-- What a fault does to its channel: the bit, its reaction (0 ZERO, 1 RAMP_OUT, 2 REPORT) and its state. R262. -/
structure ThrFaultDef where
  bit : Nat
  react : Nat
  state : Nat
  deriving DecidableEq, Repr

/-- The reaction and state of a fault bit for a channel's link. R262. -/
def faultDef (bit link : Nat) : ThrFaultDef :=
  match bit with
  | 1 => { bit := 1, react := 0, state := 3 }
  | 3 => { bit := 3, react := 1, state := 6 }
  | 4 => { bit := 4, react := 1, state := 6 }
  | 11 => { bit := 11, react := 1, state := 6 }
  | 7 => { bit := 7, react := 2, state := 2 }
  | 8 => if link = 2 then { bit := 8, react := 2, state := 2 } else { bit := 8, react := 0, state := 6 }
  | 9 => { bit := 9, react := 2, state := 2 }
  | 10 => { bit := 10, react := 2, state := 2 }
  | b => { bit := b, react := 0, state := 6 }

/-- The fault bits with a state, for a link. -/
def faultMask (link state : Nat) : Nat := maskOf 13 (fun b => decide ((faultDef b link).state = state))

/-- A ZERO reaction: output thrust 0 and RUN clear at once, with an interim frame, and in a sealed set's frame that has not gone out. R263. -/
def State.thrZero (s : State) (c : Nat) : State :=
  if (s.tch c).zero then s
  else
    ((s.modTch c (fun x => { x with zero := true, rampOut := false, q := 0, outT := 0, outRun := false })).placeInterim c).retime c

/-- A RAMP_OUT reaction: the angle frozen and q on its way to 0. R263. -/
def State.thrRampOut (s : State) (c : Nat) : State :=
  if (s.tch c).zero then s
  else if (s.tch c).rampOut then s
  else (s.modTch c (fun x => { x with rampOut := true, frozenAng := some (x.frozenAng.getD (f32 x.actAng)) })).retime c

/-- The angles of the usable azimuth sources now, in order of preference. R244, R262. -/
def State.azNow (s : State) (c : Nat) : List Rat :=
  ((s.azSources c).filter (fun e => e.2.usable s.raw (s.maxAge c))).filterMap (fun e =>
    e.2.samples.head?.map (fun y => extrapolate y (e.2.omega (some (3 / 2 * s.slew c))) s.raw (s.maxAge c)))

/-- The drive's status byte as last received. R257. -/
def ThrFeedback.status (x : ThrFeedback) : Nat :=
  b2n x.ready + 2 * b2n x.running + 4 * b2n x.fault + 8 * b2n x.local_ + 16 * b2n x.limited + 32 * b2n x.holding

/-- The values that tripped a fault, for its record: the drive's status; the seconds since the last valid feedback or input; the angle, the active
angle and ω; measured and output thrust; written value and readback; the two angles. R264. -/
def State.tripVals (s : State) (c bit : Nat) : List Word :=
  let x := s.tch c
  let age (a : Option Nat) : List Word := [toF32 (((s.now - a.getD x.inServiceAt : Nat) : Rat) / 1000000000), 0, 0]
  let ang : List Word := [toF32 (x.azUsed.getD {}).a, (x.frozenAng.map toF32).getD x.actAng, toF32 x.azRate]
  match bit with
  | 0 => [toF32 (x.fb.status : Nat), 0, 0]
  | 1 => [toF32 (x.fb.status : Nat), 0, 0]
  | 2 => age x.fb.at_
  | 3 => [toF32 x.azLast, 0, 0]
  | 4 => ang
  | 5 => ang
  | 6 => [toF32 x.tMeas, toF32 x.outT, 0]
  | 7 => [toF32 x.tMeas, toF32 x.outT, 0]
  | 8 => [toF32 x.aoSeen.1, toF32 x.aoSeen.2, 0]
  | 9 => age x.fb.at_
  | 10 => ((s.azNow c).map toF32 ++ [0, 0, 0]).take 3
  | 11 => ang
  | _ => age (some x.timers.aiGoodAt)

/-- Entry to FAILED by a fault: recorded with the fault bits and the values that tripped it, and a process stop requested where configured.
R264, R269, R432. -/
def State.thrFailed (s : State) (c bit : Nat) : State :=
  let v := s.tripVals c bit
  let s := (s.modTch c (fun x => { x with state := 6 })).raiseAlarm .THR_FAILED c (wN (s.tch c).fault :: v)
  let s := (s.clearAlarm .THR_UNAVAILABLE c).clearAlarm .THR_DEGRADED c
  let p := s.parN .SAFE_THR_STS c
  if s.parB .SAFE_THR_FAIL_STS c ∧ 1 ≤ p ∧ p ≤ 4 then s.requestStop (2 ^ (p - 1)) else s

/-- A fault found: its bit latched, its reaction and its state. R241, R262, R263, R264. -/
def State.thrFault (s : State) (c bit : Nat) : State :=
  let d := faultDef bit (s.tlink c)
  let s := s.modTch c (fun x => { x with fault := x.fault ||| 2 ^ bit })
  let st := (s.tch c).state
  if st = 0 ∨ st = 5 then s
  else
    let rec_ := wN (s.tch c).fault :: s.tripVals c bit
    let failed (s : State) : State := if d.state = 6 ∧ st ≠ 6 ∧ st ≠ 4 then s.thrFailed c bit else s
    let s := failed s
    let s := match d.react with
      | 0 => s.thrZero c
      | 1 => s.thrRampOut c
      | _ => s
    match d.state with
    | 6 => s
    | 3 => if st = 1 ∨ st = 2 then
        ((s.modTch c (fun x => { x with state := 3 })).clearAlarm .THR_DEGRADED c).raiseAlarm .THR_UNAVAILABLE c rec_ else s
    | _ => if st = 1 then (s.modTch c (fun x => { x with state := 2 })).raiseAlarm .THR_DEGRADED c rec_ else s

/-- A channel back in service: reactions end. -/
def State.thrInService (s : State) (c : Nat) : State :=
  ((s.modTch c (fun x => { x with
    state := 1, zero := false, rampOut := false, frozenAng := none, outRun := x.actRun, aoOff := [false, false, false]
    timers := { x.timers with clearSince := none } })).clearAlarm .THR_UNAVAILABLE c).clearAlarm .THR_DEGRADED c

/-- Latched faults cleared, and a FAILED channel returned to service. R264. -/
def State.thrClear (s : State) (c : Nat) : State :=
  if (s.tch c).present ≠ 0 then s
  else
    let st := (s.tch c).state
    let s := (s.modTch c (fun x => { x with fault := 0 })).clearAlarm .THR_FAILED c
    if st = 6 then s.thrInService c else s

/-! #### Conditions of R262 -/

/-- Nanoseconds since the newest valid FEEDBACK reach THR_c_FB_TIMEOUT. -/
def State.fbTimedOut (s : State) (c : Nat) : Bool :=
  let x := s.tch c
  s.past (max (x.fb.at_.getD 0) x.inServiceAt) (s.parMs .THR_FB_TIMEOUT c)

/-- Whether the drive is not ready: READY clear or LOCAL set, or its STS pair is stopped. R262, R433. -/
def State.notReady (s : State) (c : Nat) : Bool :=
  let x := s.tch c
  let p := s.parN .SAFE_THR_STS c
  (x.fb.at_.isSome && (!x.fb.ready || x.fb.local_)) || (between 1 p 4 && (s.safe.pair p).stopped)

/-- The newest angle less the active angle, wrapped, where the channel has both. -/
def State.angError (s : State) (c : Nat) : Option Rat :=
  let x := s.tch c
  x.azUsed.map (fun y => wrapPi (y.a - x.frozenAng.getD (f32 x.actAng)))

/-- The azimuth turns away from the active angle faster than THR_c_AZ_DIR_RATE. R262. -/
def State.wrongDir (s : State) (c : Nat) : Bool :=
  match s.angError c with
  | none => false
  | some e =>
    let w := (s.tch c).azRate
    decide (rad 1 < absQ e) && decide (rad (s.par .THR_AZ_DIR_RATE c) < (if e < 0 then -w else w))

/-- Whether the channel has a measured thrust: not an ANALOG channel without a thrust input. R262. -/
def State.hasThrust (s : State) (c : Nat) : Bool := s.tlink c ≠ 1 || s.taiPin c 0 ≠ 0

/-- Two usable azimuth sources differ by more than THR_c_ANG_DIS. R262. -/
def State.angDisagree (s : State) (c : Nat) : Bool :=
  let us := s.azNow c
  us.any (fun a => us.any (fun b => decide (rad (s.par .THR_ANG_DIS c) < absQ (wrapPi (a - b)))))

/-- The timers of the timed conditions, kept at each slice. While AUTH is clear the conditions that compare with this unit's own
output are not evaluated. R262. -/
def State.thrTimers (s : State) (c : Nat) : State :=
  let x := s.tch c
  let a := s.thr.auth
  let err := absQ ((s.angError c).getD 0)
  let az : Bool := a && s.ttype c = 1
  let th : Bool := a && s.hasThrust c
  let tf := s.tfwd c
  let y := x.timers
  s.modTch c (fun x => { x with timers := { y with
    readySince := s.since (!s.notReady c) y.readySince
    azFollow := s.since (az && decide (rad (s.par .THR_AZ_FOLLOW c) < err)) y.azFollow
    azDir := s.since (az && s.wrongDir c) y.azDir
    rudder := s.since (a && decide (s.ttype c = 3) && decide (rad 5 < err)) y.rudder
    tHigh := s.since (th && decide (absQ x.outT + tf / 5 < absQ x.tMeas)) y.tHigh
    tDev := s.since (th && decide (s.par .THR_T_DEV c / 100 * tf < absQ (x.tMeas - x.outT))) y.tDev
    angDis := s.since (s.tangled c && s.angDisagree c) y.angDis } })

/-- Whether a fault condition of R262 is confirmed now, by its bit. -/
def State.thrCond (s : State) (c bit : Nat) : Bool :=
  let x := s.tch c
  let link := s.tlink c
  match bit with
  | 0 => link ≠ 1 && (x.fb.fault || x.fb.faultSeen)
  | 1 => s.notReady c
  | 2 => link = 0 && s.fbTimedOut c
  | 3 => s.tangled c && (s.azSource c).isNone && s.past x.inServiceAt (s.maxAge c)
  | 4 => s.held x.timers.azFollow (s.parNs .THR_AZ_FOLLOW_TIME c)
  | 5 => s.held x.timers.azDir (s.parNs .THR_AZ_DIR_TIME c)
  | 6 => s.held x.timers.tHigh 1000000000
  | 7 => s.held x.timers.tDev (s.parNs .THR_T_DEV_TIME c)
  | 8 => x.timers.aoBad.any (fun k => decide (3 ≤ k))
  | 9 => link = 2 && (s.fbTimedOut c || (s.port (s.tport c)).state = 4)
  | 10 => s.held x.timers.angDis 500000000
  | 11 => s.held x.timers.rudder 2000000000
  | 12 => link = 1 && s.taiPin c 0 ≠ 0 && s.past (max x.timers.aiGoodAt x.inServiceAt) (s.parMs .THR_FB_TIMEOUT c)
  | _ => false

/-- A fault confirmed now takes its reaction. -/
def State.thrDetect (s : State) (c bit : Nat) : State :=
  if s.thrCond c bit then
    let s := if bit = 8 then s.modTch c (fun x => { x with
        aoOff := (x.aoOff.zip x.timers.aoBad).map (fun e => e.1 || decide (3 ≤ e.2)) }) else s
    s.thrFault c bit
  else s

/-- An UNAVAILABLE channel returns after 1 s of READY and not LOCAL. R262. -/
def State.thrReadyBack (s : State) (c : Nat) : State :=
  if (s.tch c).state = 3 ∧ s.held (s.tch c).timers.readySince 1000000000 then s.thrInService c else s

/-- A DEGRADED channel returns once no such condition has been present for 10 s. R264. -/
def State.thrDegradedBack (s : State) (c : Nat) : State :=
  if (s.tch c).state = 2 ∧ s.held (s.tch c).timers.clearSince 10000000000 then s.thrInService c else s

/-- Supervision in a slice. R262. -/
def State.thrSupervise (s : State) (c : Nat) : State :=
  let s := s.thrTimers c
  let present := maskOf 13 (fun b => s.thrCond c b)
  let s := s.modTch c (fun x => { x with
    present := present
    timers := { x.timers with clearSince := s.since (decide (present &&& faultMask (s.tlink c) 2 = 0)) x.timers.clearSince } })
  let s := (List.range 13).foldl (fun s b => s.thrDetect c b) s
  let s := s.modTch c (fun x => { x with fb := { x.fb with faultSeen := false } })
  (s.thrReadyBack c).thrDegradedBack c

/-! ### Disable and enable (R265) -/

/-- A disable processed at a slice: the sealed set returns ABORTED and q ramps out. R265. -/
def State.thrDisable (s : State) (c : Nat) : State :=
  let x := s.tch c
  if x.state = 4 ∨ x.state = 5 then s
  else
    let ab := b2n x.sealed
    let s := if x.sealed ∧ s.tport c ≠ 0 then s.cancelBox (s.tport c) (boxOf c false) abDisabled else s
    s.modTch c (fun x => { x with
      en := false, state := 4, sealed := false, latch := false, latchPend := false
      abortedF := x.abortedF || decide (ab = 1), disAborted := ab
      frozenAng := some (x.frozenAng.getD (f32 x.actAng)) })

/-- DISABLED is reached: the record of R25. -/
def State.thrDisabled (s : State) (c : Nat) : State :=
  let ab := (s.tch c).disAborted
  (s.modTch c (fun x => { x with state := 5, q := 0, outT := 0, disAborted := 0 })).disableRec .DIS_THR c 0 0 ab
    (if ab = 1 then c else 0) (if ab = 1 then c else 0)

/-- An enable processed at a slice. R265. -/
def State.thrEnable (s : State) (c : Nat) : State :=
  let x := s.tch c
  if x.state ≠ 4 ∧ x.state ≠ 5 then s
  else
    let s := s.modTch c (fun x => { x with en := true })
    let bad := (List.range 13).find? (fun b => x.fault.testBit b && (faultDef b (s.tlink c)).state = 6)
    if bad.isSome then (s.thrFailed c (bad.getD 0)).thrZero c
    else
      let s := s.thrInService c
      let s := if (x.present &&& 2) ≠ 0 then s.thrFault c 1 else s
      (List.range 13).foldl (fun s b =>
        if x.present.testBit b ∧ (faultDef b (s.tlink c)).state = 2 then s.thrFault c b else s) s

/-- A pending request processed; one written at this slice's own start waits for the next slice. R236, R241, R265. -/
def State.thrRequest (s : State) (c : Nat) : State :=
  match (s.tch c).pendEn with
  | none => s
  | some e =>
    if (s.tch c).pendAt = s.now then s
    else
    let s := s.modTch c (fun x => { x with pendEn := none })
    if e then s.thrEnable c else s.thrDisable c

/-! ### Hand-over (R239, R241) -/

/-- The hand-over latch sampled at the first slice after the commit. -/
def State.thrHandOver (s : State) (c : Nat) : State :=
  let x := s.tch c
  let after : Bool := match s.thr.committed with
    | none => false
    | some a => decide (a < s.now)
  if ¬ x.latchPend ∨ ¬ after then s
  else if ¬ x.latch then s.modTch c (fun x => { x with latchPend := false })
  else if 4 ≤ x.state then
    s.modTch c (fun x => { x with latchPend := false, latch := false, sealed := false, abortedF := true })
  else
    s.modTch c (fun x => { x with
      latchPend := false, latch := false, sealed := false
      actT := x.shT, actAng := x.shAng, actRun := x.shRun, actTest := x.shTest, outRun := x.shRun && !x.zero
      handed := true, handoverTime := wN s.sel, handovers := x.handovers + 1 })

/-! ### Ramp, gate and outputs (R250–R254) -/

/-- The ramped value moved for one round. R252, R263. -/
def State.thrRamp (s : State) (c : Nat) : State :=
  let x := s.tch c
  let slow : Bool := x.rampOut || x.state = 4
  let rate := s.par .ALC_RAMP c / 100 * s.tfwd c * (if slow then 24 / 10000 else 2 / 100)
  let goal : Rat := if x.zero || slow || x.state = 5 || x.state = 6 then 0 else f32 x.actT
  let q := if x.zero then 0 else clampQ (x.q - rate) (x.q + rate) goal
  s.modTch c (fun x => { x with q := q })

/-- The groyne gate of a slice, for the azimuth at the start of the next slice plus the look-ahead. R250. -/
def State.thrGate (s : State) (c : Nat) : State :=
  let x := s.tch c
  let raw := s.raw + 2400000 + s.parMs .THR_LOOKAHEAD c
  let az := s.azAt c raw
  let out := s.capped c raw x.q
  let g := if s.ttype c = 1 ∧ ¬ x.azKnown then 0 else s.gateAt c az
  s.modTch c (fun x => { x with outT := if x.zero then 0 else out, gate := g, gated := decide (out ≠ x.q), azLast := az })

/-- The value of a map of R253 for an engineering value. -/
def aoMap (elo ehi xlo xhi : Rat) (root : Bool) (e : Rat) : Rat :=
  let m := if absQ elo < absQ ehi then absQ ehi else absQ elo
  let e := if root then (if e < 0 then -(Config.sqrt (-e * m)) else Config.sqrt (e * m)) else e
  let lo := if xlo < xhi then xlo else xhi
  let hi := if xlo < xhi then xhi else xlo
  if ehi = elo then xlo else clampQ lo hi (xlo + (e - elo) * (xhi - xlo) / (ehi - elo))

/-- The engineering value of an input. R254. -/
def aiMap (elo ehi xlo xhi : Rat) (root : Bool) (x : Rat) : Rat :=
  if xhi = xlo then elo
  else
    let e := elo + (x - xlo) * (ehi - elo) / (xhi - xlo)
    let m := if absQ elo < absQ ehi then absQ ehi else absQ elo
    if root then (if m = 0 then 0 else if e < 0 then -(e * e / m) else e * e / m) else e

/-- Entry j of a map in place x of a channel. -/
def State.mapPar (s : State) (p : Param) (c x j : Nat) : Rat := s.par p (12 * (c - 1) + 4 * x + j)

/-- Whether the angle goes out as sine and cosine: the default for AZ. R271. -/
def State.sincos (s : State) (c : Nat) : Bool :=
  match s.par? .THR_ANG_AO_MODE c with
  | some q => q = 1
  | none => s.ttype c = 1

/-- The engineering value of an output in place x. R253. -/
def State.aoValue (s : State) (c x : Nat) : Rat :=
  let y := s.tch c
  let a := y.frozenAng.getD (f32 y.actAng)
  match x with
  | 0 => y.outT
  | 1 => if s.sincos c then Config.sin a else a
  | _ => Config.cos a

/-- An analogue output pin set. -/
def State.setAo (s : State) (j : Nat) (v : Rat) : State :=
  if j = 0 then s else { s with bus := { s.bus with ao := s.bus.ao.set (j - 1) v } }

/-- What the output in place x is written with: 0 V or 0 mA without authority or after AO_FAULT. R234, R253, R262,
R412. -/
def State.aoWrite (s : State) (c x : Nat) : Rat :=
  if ¬ s.thr.auth ∨ (s.tch c).aoOff.getD x false then 0
  else
    let m := s.mapPar .THR_AO_MAP c x
    aoMap (m 0) (m 1) (m 2) (m 3) (s.parB .THR_AO_SHAPE (3 * (c - 1) + x)) (s.aoValue c x)

/-- The outputs of a slice: written, except while a hold of R234 runs. -/
def State.thrOutputs (s : State) (c : Nat) : State :=
  if ¬ s.thr.auth ∧ s.thr.aoHoldUntil.isSome then s
  else (List.range 3).foldl (fun s x => s.setAo (s.taoPin c x) (s.aoWrite c x)) s

/-- What the readback of the output in place x shows: the written and the read value where they differ by more than 2 % of the range of the
pin's mode, and whether a current loop is open: below 3.6 mA with the output set at 4 mA or more. R262, R605. -/
def State.aoDiff (s : State) (c x : Nat) (inp : SliceIn) : Option (Rat × Rat) × Bool :=
  let j := s.taoPin c x
  if j = 0 then (none, false)
  else
    let current : Bool := s.parN .BUS_AO_MODE j ≠ 0
    let w := nth s.bus.ao (j - 1)
    match inp.aoRead[x]? with
    | none => (none, false)
    | some r =>
      (if (if current then 22 else 21) * 2 / 100 < absQ (r - w) then some (w, r) else none, current && decide (4 ≤ w) && decide (r < 36 / 10))

/-- The readbacks of a slice, each output counted for itself. R262, R605, R410. -/
def State.thrReadback (s : State) (c : Nat) (inp : SliceIn) : State :=
  let ds := (List.range 3).map (fun x => s.aoDiff c x inp)
  let s := if ds.any (fun d => d.1.isSome || d.2) ∧ s.red.check.running then
      { s with red := { s.red with check := { s.red.check with failedAo := s.red.check.failedAo ||| 2 ^ (c - 1) } } } else s
  s.modTch c (fun x => { x with
    aoSeen := ((ds.filterMap (fun d => d.1)).head?).getD x.aoSeen
    timers := { x.timers with aoBad := (x.timers.aoBad.zip ds).map (fun e => if e.2.2 then 3 else if e.2.1.isSome then e.1 + 1 else 0) } })

/-- The interim frame of a slice, at most one in a round. R251. -/
def State.thrInterim (s : State) (c : Nat) : State :=
  let x := s.tch c
  let d := absQ (x.outT - x.lastPlaced.getD 0)
  let due : Bool := decide (s.par .THR_TX_DELTA c / 100 * s.tfwd c < d) && decide (x.interimRound ≠ some s.thrRound)
  if due ∧ s.thr.auth ∧ s.tport c ≠ 0 then
    (s.modTch c (fun x => { x with interimRound := some s.thrRound })).placeInterim c
  else s

/-- An analogue input in place x, where its sample is valid. R254. -/
def State.aiValue (s : State) (c x : Nat) (inp : SliceIn) : Option Rat :=
  let i := s.taiPin c x
  if i = 0 then none
  else
    match inp.ai[x]? with
    | none => none
    | some v =>
      let m := s.mapPar .THR_AI_MAP c x
      if s.parN .BUS_AI_MODE i ≠ 0 ∧ (21 < v ∨ (v < 36 / 10 ∧ 4 ≤ m 2 ∧ 4 ≤ m 3)) then none
      else some (aiMap (m 0) (m 1) (m 2) (m 3) (s.parB .THR_AI_SHAPE (3 * (c - 1) + x)) v)

/-- The shaft angle and speed of a slice, from the encoder assigned or from FEEDBACK2; the last values where its source is not usable. R247. -/
def State.thrShaft (s : State) (c : Nat) : State :=
  let enc : Bool := s.parN .THR_ENC_SHAFT c ≠ 0
  let x := if enc then (s.tch c).encShaft else (s.tch c).fbShaft
  match x.samples.head? with
  | none => s
  | some z =>
    if x.dead then s
    else
      let a := extrapolate z (x.omega none) s.raw (s.maxAge c)
      s.modTch c (fun y => { y with shaftAng := a, shaftSpd := if enc then x.omega none else y.shaftSpd })

/-- The angles and feedback a slice takes from the encoder ports and the analogue inputs, and the extrapolation. R244, R245, R247, R254. -/
def State.thrSample (s : State) (c : Nat) (inp : SliceIn) : State :=
  let raw := s.raw
  let s := (List.range 3).foldl (fun s x =>
    let i := s.taiPin c x
    if i = 0 then s else { s with bus := { s.bus with ai := s.bus.ai.set (i - 1) (inp.ai.getD x (nth s.bus.ai (i - 1))) } }) s
  let lim := 3 / 2 * s.slew c
  let s := match inp.encAz with
    | some r => if s.parN .THR_ENC_AZ c = 0 then s else
        let x := s.encTake c (s.tch c).encAz r
        s.modTch c (fun y => { y with encAz := x })
    | none => s
  let s := match inp.encShaft with
    | some r => if s.parN .THR_ENC_SHAFT c = 0 then s else
        let x := s.encTake c (s.tch c).encShaft r
        s.modTch c (fun y => { y with encShaft := x })
    | none => s
  let s := s.thrShaft c
  let s := match s.aiValue c 2 inp with
    | some a => s.modTch c (fun y => { y with aiAz := y.aiAz.take raw (wrap2Pi a) })
    | none => s
  let s := match s.aiValue c 0 inp with
    | some v => s.modTch c (fun y => { y with tMeas := v, tMeasAt := some s.now, timers := { y.timers with aiGoodAt := s.now } })
    | none => s
  let s := match s.aiValue c 1 inp with
    | some v => s.modTch c (fun y => { y with pMeas := v, pMeasAt := some s.now })
    | none => s
  match s.azSource c with
  | none => s.modTch c (fun y => { y with angSrc := 3 })
  | some (k, x) => s.modTch c (fun y => { y with
      angSrc := k, azUsed := x.samples.head?, azRate := x.omega (some lim), azKnown := true })

/-- One slice of a configured channel. R236. -/
def State.thrSlice (s : State) (c : Nat) (inp : SliceIn) : State :=
  let s := (s.thrSample c inp).thrSupervise c
  let s := ((s.thrRequest c).thrHandOver c).thrRamp c
  let s := s.thrGate c
  let s := if (s.tch c).state = 4 ∧ (s.tch c).q = 0 then s.thrDisabled c else s
  let s := (s.thrOutputs c).thrReadback c inp
  (s.thrInterim c).fioFollow

/-! ### Commit, authority and the fence -/

/-- A channel at the commit instant: its SEAL latched. A seal set in this very cycle belongs to the next commit, and a withdrawal in it is too
late. R239–R241. -/
def ThrChan.atCommit (x : ThrChan) (now : Nat) : ThrChan :=
  if x.sealed ∧ x.sealedAt = now then
    { x with latch := false, latchPend := true, sealLateF := true, sealLates := satInc 255 x.sealLates }
  else if ¬ x.sealed ∧ x.withdrawnAt = some now then { x with sealed := true, latch := true, latchPend := true, wdLate := true }
  else { x with latch := x.sealed, latchPend := true }

/-- The frame of a channel at the commit instant: from its active set where its latch is clear, and again from a set whose withdrawal came too
late; the frame of a seal set in this cycle is armed for the next commit. R46, R240–R242. -/
def State.commitFrame (s was : State) (c : Nat) : State :=
  let x := s.tch c
  if ¬ s.tconf c then s
  else if x.latch then (if (was.tch c).sealed then s else s.placeTimed c true false)
  else
    let s := if x.sealed ∧ s.tport c ≠ 0 then s.cancelBox (s.tport c) (boxOf c false) abCancelled else s
    let s := s.placeTimed c false false
    if x.sealed then s.placeTimed c true true else s

/-- The commit instant at THR. R239, R242. -/
def State.thrCommit (s : State) : State :=
  let was := s
  let s : State := { s with thr := { s.thr with
    committed := some s.now, chans := s.thr.chans.map (fun (x : ThrChan) => x.atCommit s.now) } }
  thrAll.foldl (fun s c => s.commitFrame was c) s

/-- AUTH set or cleared by redundancy supervision; `hold` keeps the analogue outputs for THR_AO_HOLD. R234, R262, R459. -/
def State.thrAuth (s : State) (on hold : Bool) : State :=
  if on = s.thr.auth then s
  else
    let s := { s with thr := { s.thr with
      auth := on, aoHoldUntil := if !on && hold then some (s.now + s.parMs .THR_AO_HOLD) else none
      chans := s.thr.chans.map (fun (x : ThrChan) => { x with timers := { x.timers with
        azFollow := none, azDir := none, rudder := none, tHigh := none, tDev := none } }) } }
    if on then s.fioFollow
    else
      let s := thrAll.foldl (fun s c =>
        let n := s.tport c
        if n = 0 then s else (s.cancelBox n (boxOf c false) abCancelled).cancelBox n (boxOf c true) abCancelled) s
      let s := if hold then s else thrAll.foldl (fun s c => s.thrOutputs c) s
      s.fioAuthLost

/-- Outputs go to 0 V or 0 mA once a hold has run out. R234. -/
def State.thrHoldEnd (s : State) : State :=
  thrAll.foldl (fun s c => s.thrOutputs c) { s with thr := { s.thr with aoHoldUntil := none } }

/-- D10 comes up: rounds start, registers at their reset values. R235, R266. -/
def State.thrUp (s : State) : State :=
  { s with thr := { s.thr with
      roundBase := s.now, committed := none
      chans := (List.range 24).map (fun i => ({ state := if s.tconf (i + 1) then 1 else 0, inServiceAt := s.now } : ThrChan)) } }

/-- The configuration of a channel changes: a channel leaves or enters NOT_CONFIGURED. R232. -/
def State.thrConfig (s : State) : State :=
  thrAll.foldl (fun s c =>
    let was : Bool := (s.tch c).state ≠ 0
    if s.tconf c = was then s
    else s.modTch c (fun _ => { state := if s.tconf c then 1 else 0, inServiceAt := s.now })) s

/-- At a fence every AZ channel's azimuth is extrapolated to F+16 ms. R246. -/
def State.thrFence (s : State) : State :=
  thrAll.foldl (fun s c =>
    if s.ttype c = 1 then
      let a := s.azAt c (s.frameRaw 16000000)
      s.modTch c (fun x => { x with azPred := a })
    else s) s

/-- THR_c_STAT. R266. -/
def ThrChan.stat (x : ThrChan) : Nat :=
  x.state + 8 * b2n x.sealed + 16 * b2n x.handed + 32 * b2n x.sealLateF + 64 * b2n x.wrSealed + 128 * b2n x.wdLate +
    256 * b2n x.abortedF + 512 * b2n x.gated + 1024 * x.angSrc

/-- THR_c_CNT. R266. -/
def ThrChan.cnt (x : ThrChan) : Nat := x.handovers.toNat + 65536 * x.sealLates + 2 ^ 24 * x.fbBad

/-- The quality of a value measured at an instant: BAD where there is none. -/
def qMeas (ok : Bool) : Half := if ok then qGood else qBad ||| rTimeout

/-- The THR points of a frame. Measured values carry the capture time of their sample. R268. -/
def State.thrPublish (s : State) (ts : Nat) : State :=
  thrAll.foldl (fun s c =>
    let x := s.tch c
    let b := 1792 + 8 * (c - 1)
    if x.state = 0 then
      let nc : Half := qBad ||| rNotConfigured
      (s.devPoint ts b (pvE 0)).publish ts [(b + 1, pvX 0, nc), (b + 2, pvF 0, nc), (b + 3, pvF 0, nc), (b + 4, pvF 0, nc),
        (b + 5, pvF 0, nc), (b + 6, pvF 0, nc), (b + 7, pvF 0, nc)]
    else
      let az := x.azUsed.getD {}
      let azTs := s.selAt az.t
      let at_ (t : Option Nat) : Nat := s.selAt (s.rawAt (t.getD s.now))
      let spdTs := if s.parN .THR_ENC_SHAFT c ≠ 0 then (match x.encShaft.samples.head? with
        | some y => s.selAt y.t
        | none => ts) else at_ x.fb2.at_
      let spd : Bool := if s.parN .THR_ENC_SHAFT c ≠ 0 then !x.encShaft.dead && !x.encShaft.samples.isEmpty else x.fb2.at_.isSome
      ((((s.publish ts [(b, pvE x.state, qGood), (b + 1, pvX x.fault, qGood), (b + 3, pvF x.azPred, qMeas x.azKnown),
          (b + 7, pvF x.gate, qGood)]).publish azTs [(b + 2, pvF az.a, qMeas (x.azUsed.isSome && x.angSrc ≠ 3))]).publish (at_ x.tMeasAt)
        [(b + 4, pvF x.tMeas, qMeas x.tMeasAt.isSome)]).publish (at_ x.pMeasAt) [(b + 5, pvF x.pMeas, qMeas x.pMeasAt.isSome)]).publish spdTs
          [(b + 6, pvF x.shaftSpd, qMeas spd)]) s

end Sys2Proof.Machine
end

