-- ==== Sys2Proof/Machine/AlcOps.lean ====
section
/-!
DEFINITION. Thrust allocation: availability, the power envelope, the posed problem of a frame and of a failure case, the berm, learned
values, composition and the points (spec/05; the horizon of a case is spec/06 R172–R175).
-/
namespace Sys2Proof.Machine

/-- Time since the frame start: on the selected clock, or on the raw counter after a step; 0 before the first frame. R32, R52. -/
def State.frameElapsed (s : State) : Nat :=
  if s.frame.started = 0 then 0 else if s.frame.stepHoldoff.isSome then s.raw - s.frame.startRaw else s.sel - s.frame.startT

/-! ### Channels and their model (R136, R146, R156, R165) -/

/-- Channel c as allocation sees it. -/
def State.ach (s : State) (c : Nat) : AlcChan := s.alc.chans.getD (c - 1) {}

/-- Channel c changed. -/
def State.modAch (s : State) (c : Nat) (f : AlcChan → AlcChan) : State :=
  { s with alc := { s.alc with chans := s.alc.chans.modify (c - 1) f } }

/-- |T|^1.5. -/
def pow15 (t : Rat) : Rat := absQ t * Config.sqrt (absQ t)

/-- ALC_KAPPA of a channel, PRATED / TFWD^1.5 where it is unset. R165. -/
def State.kappaCfg (s : State) (c : Nat) : Rat := (s.par? .ALC_KAPPA c).getD (s.par .ALC_PRATED c / pow15 (s.tfwd c))

/-- κ in use. R146. -/
def State.kappa (s : State) (c : Nat) : Rat :=
  if s.parB .ALC_LEARN_USE then ((s.ach c).kLearned).getD (s.kappaCfg c) else s.kappaCfg c

/-- Slew rate in use, rad/s. R156. -/
def State.slewUse (s : State) (c : Nat) : Rat := if s.parB .ALC_LEARN_USE then ((s.ach c).slewLearned).getD (s.slew c) else s.slew c

/-- Model power of a thrust. R146. -/
def State.power (s : State) (c : Nat) (t : Rat) : Rat := s.kappa c * pow15 t

/-- Thrust ramp of a channel, N/s. R141. -/
def State.rampN (s : State) (c : Nat) : Rat := s.par .ALC_RAMP c / 100 * s.tfwd c

/-- Whether a channel's model is configured. R136, R165. -/
def State.alcConf (s : State) (c : Nat) : Bool :=
  s.tconf c && (s.par? .ALC_X c).isSome && (s.par? .ALC_Y c).isSome && ((s.par? .ALC_PRATED c).isSome || (s.par? .ALC_KAPPA c).isSome)

/-- Availability: 0 available, 1 deselected, 2 ramping out, 3 failed, 4 not configured; a unit that leaves HOLD treats every channel as
deselected. R136, R162, R576. -/
def State.availOf (s : State) (c : Nat) : Nat :=
  let st := (s.tch c).state
  let a := s.ach c
  if ¬ s.alcConf c then 4
  else if st ≠ 1 ∧ st ≠ 2 then 3
  else if a.selected ∧ s.sys.leavingHold.isNone then 0
  else if a.t = 0 then 1
  else 2

/-- Whether a channel has variables in the problem of the frame. R136. -/
def State.alcIn (s : State) (c : Nat) : Bool := (s.ach c).avail = 0 || (s.ach c).avail = 2

/-- The channels of the problem. -/
def State.alcList (s : State) : List Nat := thrAll.filter s.alcIn

/-- The available channels, those that ramp out apart. R136. -/
def State.availList (s : State) : List Nat := thrAll.filter (fun c => (s.ach c).avail = 0)

/-- Whether a unit's mode poses problems. R135, R415. -/
def State.alcPoses (s : State) : Bool := s.sys.mode = .hold || s.sys.mode = .standby || s.sys.mode = .warden

/-! ### Groynes over a sector (R142, R174) -/

/-- The groynes of a channel that are on: from, to, fade, degrees. R249. -/
def State.groynes (s : State) (c : Nat) : List (Rat × Rat × Rat) :=
  if s.ttype c ≠ 1 then []
  else
    ((List.range 4).map (fun k =>
      let i := 4 * (c - 1) + k
      (s.par .THR_GR_FROM i, s.par .THR_GR_TO i, s.par .THR_GR_FADE i))).filter (fun g => g.1 ≠ g.2.1)

/-- Whether a groyne covers the whole circle. R249. -/
def wholeGroyne (g : Rat × Rat × Rat) : Bool := absQ (g.1 - g.2.1) = 360

/-- Whether the arc of `len` degrees clockwise from `a` meets a groyne's sector. -/
def arcHits (g : Rat × Rat × Rat) (a len : Rat) : Bool :=
  wholeGroyne g || mod360 (g.1 - a) ≤ len || mod360 (a - g.1) ≤ mod360 (g.2.1 - g.1)

/-- The smallest gate factor over the sector of half-width d around an azimuth, rad. R142. -/
def State.gateMin (s : State) (c : Nat) (az d : Rat) : Rat :=
  if (s.groynes c).any (fun g => arcHits g (deg (az - d)) (deg (2 * d))) then 0
  else minQ (s.gateAt c (az - d)) [s.gateAt c (az + d)]

/-- The turn clockwise from an azimuth to where the gate factor first falls below 1, rad; none without a groyne. R174. -/
def State.cutCw (s : State) (c : Nat) (az : Rat) : Option Rat :=
  if s.gateAt c az < 1 then some 0
  else
    match s.groynes c with
    | [] => none
    | g :: l => some (rad (minQ (mod360 (g.1 - g.2.2 - deg az)) (l.map (fun g => mod360 (g.1 - g.2.2 - deg az)))))

/-- The same turn counter-clockwise. -/
def State.cutCcw (s : State) (c : Nat) (az : Rat) : Option Rat :=
  if s.gateAt c az < 1 then some 0
  else
    match s.groynes c with
    | [] => none
    | g :: l => some (rad (minQ (mod360 (deg az - g.2.1 - g.2.2)) (l.map (fun g => mod360 (deg az - g.2.1 - g.2.2)))))

/-! ### The posed channel (R137–R144, R172–R175) -/

/-- The interval of R141: the part of the reach within the limit, or the end of the reach nearest to it. -/
def interval (prev r lo hi : Rat) : Rat × Rat :=
  let a := maxQ lo [prev - r]
  let b := minQ hi [prev + r]
  if a ≤ b then (a, b) else if hi < prev - r then (prev - r, prev - r) else (prev + r, prev + r)

/-- Seconds a problem looks ahead: 20 ms for the nominal case, the horizon for a failure case. -/
def lookAhead (h : Option Rat) : Rat := h.getD frameSec

/-- A channel as a problem poses it; `h` is the horizon of a failure case. -/
def State.poseChan (s : State) (h : Option Rat) (lost : Bool) (c v0 : Nat) : AlcVar :=
  let a := s.ach c
  let dt := lookAhead h
  let r := s.rampN c * dt
  let tf := s.tfwd c
  let tr := s.trev c
  let out : Bool := a.avail = 2
  let base : AlcVar := { ch := c, typ := s.ttype c, v0 := v0, lost := lost, az := a.azPred, prev := a.t, prevL := a.l }
  let chord (lo hi : Rat) : Rat × Rat :=
    if lo = hi then (0, s.power c lo)
    else
      let sl := (s.power c hi - s.power c lo) / (hi - lo)
      (sl, s.power c lo - sl * lo)
  if s.ttype c = 1 then
    match h with
    | none =>
      let d := s.slewUse c * dt
      let g := s.gateMin c a.azPred d
      let gr := if tr = 0 then 1 else s.gateMin c (a.azPred + pi) d
      let v := interval a.t r (0 - tr * gr) (if out then 0 else tf * g)
      let p := chord v.1 v.2
      { base with lo := v.1, hi := v.2, cMax := tf * g * Config.sin d, slope := p.1, k0 := p.2 }
    | some _ =>
      let rev : Bool := decide (0 < tr) && decide (a.t < 0)
      let dir := if rev then a.azPred + pi else a.azPred
      let reach := absQ a.t + r
      let th := if out ∧ ¬ rev then maxQ 0 [absQ a.t - r] else minQ (if rev then tr else tf) [reach]
      let d := s.slewUse c * dt
      let cw := s.cutCw c dir
      let cc := s.cutCcw c dir
      let side (x : Option Rat) : Rat := minQ d [x.getD d]
      let sl := side cc
      let sh := side cw
      let free : Bool := decide (pi ≤ d) && cw.isNone
      let hw := (sl + sh) / 2
      let wide : Bool := free || decide (rad 60 < hw)
      { base with
        lo := 0 - th, hi := th, rev := rev, sLo := sl, sHi := sh, free := free
        cMax := tf * Config.sin (minQ (pi / 2) [d])
        slope := if wide ∨ th = 0 then 0 else s.power c th / th / Config.cos hw
        k0 := if wide then s.power c th else 0 }
  else
    let fwd : Bool := s.ttype c = 3 && decide (0 < a.t)
    let v := interval a.t r (if fwd then 0 else 0 - tr) (if out then 0 else tf)
    let p := chord v.1 v.2
    { base with
      lo := v.1, hi := v.2, slope := p.1, k0 := p.2
      lMax := if fwd then s.par .ALC_RUD_K c * a.t * rad (s.par .ALC_RUD_RATE c) * dt / rad (s.par .ALC_RUD_MAX c) else 0 }

/-- Variables of a channel type. R137. -/
def AlcVar.width (v : AlcVar) : Nat := if v.typ = 2 then 1 else 2

/-- The channels of a problem with their places. -/
def State.poseChans (s : State) (h : Option Rat) (lost : Nat → Bool) : List AlcVar :=
  s.alcList.foldl (fun l c =>
    let n := match l.getLast? with
      | none => 0
      | some v => v.v0 + v.width
    l ++ [s.poseChan h (lost c) c n]) []

/-- The force of one unit of each variable of a channel. R138. -/
def State.varForce (s : State) (v : AlcVar) : List (Rat × Rat × Rat) :=
  let x := s.par .ALC_X v.ch
  let y := s.par .ALC_Y v.ch
  let b := if v.typ = 1 then v.az else s.alcDir v.ch
  let cb := Config.cos b
  let sb := Config.sin b
  let l := if v.lost then [(0, 0, 0), (0, 0, 0)] else [(cb, sb, x * sb - y * cb), (-sb, cb, x * cb + y * sb)]
  l.take v.width

/-- A section row's share of a channel: coefficients of its variables. R147, R175. -/
def AlcVar.powerCo (v : AlcVar) (case_ : Bool) : List Rat :=
  if v.typ = 1 then
    if case_ then
      let m := (if v.rev then pi else 0) + (v.sHi - v.sLo) / 2
      [v.slope * Config.cos m, v.slope * Config.sin m]
    else [v.slope, 0]
  else if v.typ = 2 then [v.slope] else [v.slope, 0]

/-- The range of a channel's posed power. R149. -/
def AlcVar.powerRange (v : AlcVar) (case_ : Bool) : Rat × Rat :=
  if v.typ = 1 ∧ case_ then (v.k0, v.k0 + v.slope * v.hi)
  else
    let a := v.k0 + v.slope * v.lo
    let b := v.k0 + v.slope * v.hi
    if a ≤ b then (a, b) else (b, a)

/-! ### Section rows (R149, R150, R153) -/

/-- Section n, 1 to 4. -/
def State.sect (s : State) (n : Nat) : PwrSection := s.alc.sections.getD (n - 1) {}

/-- A section changed. -/
def State.modSect (s : State) (n : Nat) (f : PwrSection → PwrSection) : State :=
  { s with alc := { s.alc with sections := s.alc.sections.modify (n - 1) f } }

/-- The section of a channel, 0 without an envelope. -/
def State.sectOf (s : State) (c : Nat) : Nat := s.parN .ALC_SECTION c

/-- Model power of the previous frame's commands on sections. R149. -/
def State.prevPower (s : State) (secs : List Nat) : Rat :=
  sumQ ((thrAll.filter (fun c => s.alcConf c && secs.contains (s.sectOf c))).map (fun c => s.power c (s.ach c).t))

/-- Whether a section is posed with its partner. R150, R162. -/
def State.tied (s : State) (n : Nat) : Bool := (s.sect n).flags.getLsbD 8

/-- The groups of sections posed as one. R150. -/
def State.groups (s : State) : List (List Nat) :=
  (if s.tied 1 then [[1, 2]] else [[1], [2]]) ++ (if s.tied 3 then [[3, 4]] else [[3], [4]])

/-- The row of a group of sections; none where no channel of it is posed. A tied pair is posed from the sums of its fields, its fall floor among
them, and the upper bound of a case is only raised, to what the channels can reach (log 104). R149, R150, R175. -/
def State.poseRow (s : State) (h : Option Rat) (vs : List AlcVar) (secs : List Nat) : Option AlcRow :=
  let on := vs.filter (fun v => !v.lost && secs.contains (s.sectOf v.ch))
  if on.isEmpty then none
  else
    let sum (f : PwrSection → Rat) : Rat := sumQ (secs.map (fun n => f (s.sect n)))
    let dis := sum (fun x => x.avail)
    let rise := sum (fun x => x.ramp)
    let regen := sum (fun x => x.regen)
    let fall := maxQ (sumQ (secs.map (fun n => s.par .PWR_FALL_FLOOR n))) [minQ rise [regen / s.par .PWR_REGEN_TAU]]
    let prev := s.prevPower secs
    let dt := lookAhead h
    let case_ := h.isSome
    let up := if ¬ case_ ∧ dis < prev then maxQ dis [prev - fall * dt] else minQ dis [prev + rise * dt]
    let rng := on.map (fun v => v.powerRange case_)
    let lo0 := sumQ (rng.map (fun r => r.1))
    let hi0 := sumQ (rng.map (fun r => r.2))
    some {
      secs := secs, k0 := sumQ (on.map (fun v => v.k0)), hi := if case_ then maxQ lo0 [up] else clampQ lo0 hi0 up
      lo := if case_ then none else some (clampQ lo0 hi0 (prev - fall * dt))
      co := vs.flatMap (fun v => if !v.lost && secs.contains (s.sectOf v.ch) then v.powerCo case_ else List.replicate v.width 0) }

/-! ### Pair entries (R143, R174) -/

/-- The pair entries of a channel. -/
def State.posePairs (s : State) (h : Option Rat) (v : AlcVar) : List AlcPair :=
  if v.lost then []
  else if v.typ = 3 then
    if 0 < v.prev then
      let k := s.par .ALC_RUD_K v.ch
      [{ j := v.v0 + 1, l := v.v0, a := 1, b := 0 - k, hi := some 0 }, { j := v.v0 + 1, l := v.v0, a := 1, b := k, lo := some 0 }]
    else []
  else if v.typ = 1 ∧ h.isSome then
    let base := if v.rev then pi else 0
    let w := pi / 16
    let facets : List AlcPair := (List.range 16).filterMap (fun (k : Nat) =>
      let o := wrapPi (w + 2 * w * (k : Rat))
      if v.free ∨ [o - 2 * pi, o, o + 2 * pi].any (fun q => decide (0 - v.sLo ≤ q + w) && decide (q - w ≤ v.sHi)) then
        some { j := v.v0, l := v.v0 + 1, a := Config.cos (base + o), b := Config.sin (base + o), hi := some (v.hi * Config.cos w) }
      else none)
    let edges : List AlcPair :=
      if v.free then []
      else
        let e1 := base - v.sLo
        let e2 := base + v.sHi
        [{ j := v.v0, l := v.v0 + 1, a := 0 - Config.sin e1, b := Config.cos e1, lo := some 0 },
          { j := v.v0, l := v.v0 + 1, a := Config.sin e2, b := 0 - Config.cos e2, lo := some 0 }]
    facets ++ edges
  else []

/-! ### The whole problem (R139, R148, R155) -/

/-- Quadratic and linear cost of each variable of a channel. R139, R148, R155. -/
def State.poseCost (s : State) (wp : Rat) (berm : Option Rat) (v : AlcVar) : List (Rat × Rat) :=
  if v.lost then List.replicate v.width (0, 0)
  else
    let tf := s.tfwd v.ch
    let t0 := maxQ (s.par .ALC_PWR_T_MIN / 100 * tf) [absQ v.prev]
    let q := Config.sqrt t0
    let sg : Rat := if v.prev < 0 then -1 else 1
    let k := wp * s.kappa v.ch
    let p : Rat × Rat := (75 / 100 * k / q, 75 / 100 * k * sg * q)
    if v.typ = 1 then
      let az := 2 * s.par .ALC_W_AZ / (v.cMax * v.cMax)
      let b : Rat × Rat := match berm with
        | none => (0, 0)
        | some e =>
          let wb := 2 * s.par .ALC_W_BERM / (t0 * pi * pi)
          (wb / t0, 0 - wb * e)
      [p, (az + b.1, b.2)]
    else if v.typ = 2 then [p]
    else [p, (0, 0)]

/-- Bounds of each variable of a channel. R140, R141, R143. -/
def State.poseBounds (s : State) (h : Option Rat) (v : AlcVar) : List (Rat × Rat) :=
  if v.lost then List.replicate v.width (0, 0)
  else if v.typ = 1 then [(v.lo, v.hi), if h.isSome then (v.lo, v.hi) else (0 - v.cMax, v.cMax)]
  else if v.typ = 2 then [(v.lo, v.hi)]
  else if 0 < v.prev then
    let m := s.par .ALC_RUD_K v.ch * s.tfwd v.ch
    [(v.lo, v.hi), (maxQ (0 - m) [v.prevL - v.lMax], minQ m [v.prevL + v.lMax])]
  else [(v.lo, v.hi), (0, 0)]

/-- A problem: the nominal one without a horizon, or a failure case's. R135–R150, R172–R175. -/
def State.poseAlc (s : State) (h : Option Rat) (demand : Tau) (lost : Nat → Bool) (berm : List (Nat × Rat)) : AlcProb :=
  let vs := s.poseChans h lost
  let pref := sumQ ((vs.filter (fun v => !v.lost && (s.ach v.ch).avail = 0)).map (fun v => s.par .ALC_PRATED v.ch))
  let cost := vs.flatMap (fun v => s.poseCost (s.par .ALC_W_POWER / pref) (assoc berm v.ch) v)
  let bnd := vs.flatMap (fun v => s.poseBounds h v)
  { vars := vs, n := sumN (vs.map AlcVar.width), b := vs.flatMap s.varForce
    w := tauOf (fun j => 2 * s.par .ALC_W_DEV / (s.fmax j * s.fmax j)), tau := demand
    h := cost.map (fun e => e.1), c := cost.map (fun e => e.2), lo := bnd.map (fun e => e.1), hi := bnd.map (fun e => e.2)
    rows := s.groups.filterMap (s.poseRow h vs), pairs := vs.flatMap (s.posePairs h) }

/-- Minus infinity and plus infinity in binary32. -/
def f32NegInf : Word := 0xFF800000
/-- Plus infinity. -/
def f32PosInf : Word := 0x7F800000

/-- A problem as HEN stages it, filled to m rows and k pair entries, warm from a previous result. R202–R204, R224. -/
def AlcProb.hen (p : AlcProb) (m k iter : Nat) (x0 : List Rat) : HenProblem :=
  let fw (q : Rat) : Word := toF32 q
  let row (i : Nat) : AlcRow := p.rows.getD i {}
  let x0 := if x0.length = p.n then x0 else List.replicate p.n 0
  let pair (i : Nat) : List Word :=
    match p.pairs[i]? with
    | none => [0, 0, 0, f32NegInf, f32PosInf, 0, 0, 0]
    | some e =>
      let bound (x : Option Rat) (inf : Word) : Word := match x with
        | some q => fw q
        | none => inf
      [BitVec.ofNat 32 (e.j + 65536 * e.l), fw e.a, fw e.b, bound e.lo f32NegInf, bound e.hi f32PosInf, 0, 0, 0]
  { op := 0x11, opt := 0x10, n := p.n, m := m, k := k, iter := iter, pivExp := 0
    words := mkBlock [
      ((3, p.n), p.b.flatMap (fun e => [fw e.1, fw e.2.1, fw e.2.2])),
      ((3, 1), [fw p.w.x, fw p.w.y, fw p.w.n]), ((3, 1), [fw p.tau.x, fw p.tau.y, fw p.tau.n]),
      ((p.n, 1), p.h.map fw), ((p.n, 1), p.c.map fw), ((p.n, 1), p.lo.map fw), ((p.n, 1), p.hi.map fw),
      ((m, p.n), (List.range p.n).flatMap (fun j => (List.range m).map (fun i => fw (nth (row i).co j)))),
      ((m, 1), (List.range m).map (fun i => if i < p.rows.length then
          (match (row i).lo with
           | some q => fw (q - (row i).k0)
           | none => f32NegInf) else f32NegInf)),
      ((m, 1), (List.range m).map (fun i => if i < p.rows.length then fw ((row i).hi - (row i).k0) else f32PosInf)),
      ((8, k), (List.range k).flatMap pair), ((p.n, 1), x0.map fw)] }

/-- The variables and the slack of an ALLOC output block. R202. -/
def alcOut (n : Nat) (ws : List Word) : List Rat × Tau :=
  ((ws.take n).map f32, { x := f32 (ws.getD (up8 n) 0), y := f32 (ws.getD (up8 n + 1) 0), n := f32 (ws.getD (up8 n + 2) 0) })

/-! ### The intact capability (R161) -/

/-- The largest cosine to a direction that an azimuth outside the groynes reaches, at least 0. -/
def State.bestCos (s : State) (c : Nat) (dir : Rat) : Rat :=
  let gs := s.groynes c
  let inside (d : Rat) (strict : Bool) : Bool := gs.any (fun g =>
    wholeGroyne g || (let o := mod360 (d - g.1)
                      let w := mod360 (g.2.1 - g.1)
                      if strict then decide (0 < o) && decide (o < w) else decide (o ≤ w)))
  if gs.any wholeGroyne then 0
  else if ¬ inside (deg dir) false then 1
  else
    let edges := (gs.flatMap (fun g => [g.1, g.2.1])).filter (fun e => !inside e true)
    maxQ 0 (edges.map (fun e => Config.cos (rad e - dir)))

/-- The largest thrust of a channel. R161. -/
def State.tMax (s : State) (c : Nat) : Rat := maxQ (s.tfwd c) [s.trev c]

/-- The largest force of a channel in a direction, or for component 2 moment, of one sign. R161. -/
def State.capChan (s : State) (c j : Nat) (sg : Rat) : Rat :=
  let tf := s.tfwd c
  let tr := s.trev c
  let x := s.par .ALC_X c
  let y := s.par .ALC_Y c
  if s.ttype c = 1 then
    let t := s.tMax c
    if j = 0 then t * s.bestCos c (if sg < 0 then pi else 0)
    else if j = 1 then t * s.bestCos c (if sg < 0 then 0 - pi / 2 else pi / 2)
    else t * Config.sqrt (len2 x y) * s.bestCos c (Config.atan2 (sg * x) (0 - sg * y))
  else
    let b := s.alcDir c
    let along := sg * (if j = 0 then Config.cos b else Config.sin b)
    let across := absQ (if j = 0 then Config.sin b else Config.cos b)
    let k := if s.ttype c = 3 then s.par .ALC_RUD_K c else 0
    if j = 2 then absQ x * (if 0 ≤ sg * x * Config.sin b then tf else tr)
    else maxQ 0 [tf * (along + k * across), 0 - tr * along]

/-- The factor by which the sections hold back a channel among the channels cs. R161. -/
def State.capScale (s : State) (cs : List Nat) (c : Nat) : Rat :=
  match s.groups.find? (fun g => g.contains (s.sectOf c)) with
  | none => 1
  | some g =>
    let p := sumQ ((cs.filter (fun c => g.contains (s.sectOf c))).map (fun c => s.power c (s.tMax c)))
    let d := sumQ (g.map (fun n => (s.sect n).avail))
    if p = 0 then 1 else minQ 1 [Config.pow (d / p) (2 / 3)]

/-- ALC_CAP of a component over the available channels. R161. -/
def State.capOf (s : State) (j : Nat) : Rat :=
  let cs := s.availList
  let side (sg : Rat) : Rat := sumQ (cs.map (fun c => s.capScale cs c * s.capChan c j sg))
  minQ (side 1) [side (-1)]

/-! ### The berm (R154, R155) -/

/-- The signed turn from an azimuth to another along the way of R154, rad. -/
def State.bermTurn (s : State) (c : Nat) (a b : Rat) : Rat :=
  let gs := s.groynes c
  let cw := mod360 (deg (b - a))
  let cc := 360 - cw
  let hitCw := gs.any (fun g => arcHits g (deg a) cw)
  let hitCc := gs.any (fun g => arcHits g (deg b) cc)
  let short : Bool := cw ≤ cc
  let useCw : Bool := if short then !hitCw || hitCc else hitCc && !hitCw
  rad (if useCw then cw else 0 - cc)

/-- The worst turn from an azimuth over a set. -/
def State.worstTurn (s : State) (c : Nat) (a : Rat) (l : List Rat) : Rat := maxQ 0 (l.map (fun b => absQ (s.bermTurn c a b)))

/-- The azimuths the failure cases of the previous frame ask of a channel. R154. -/
def State.bermSet (s : State) (c : Nat) : List Rat :=
  (s.cqa.cases.filter (fun k => k.res.state ≠ 2 && !k.res.truncated)).filterMap (fun k => (k.res.az.find? (fun e => e.1 = c && e.2.2)).map (fun e => e.2.1))

/-- The berm target of a channel: searched at 1° steps, the lower azimuth winning a tie. R154. -/
def State.bermTarget (s : State) (c : Nat) (l : List Rat) : Rat :=
  let best := (List.range 360).foldl (fun (m : Option (Nat × Rat)) (d : Nat) =>
    let w := s.worstTurn c (rad (d : Rat)) l
    match m with
    | none => some (d, w)
    | some (d0, w0) => if w < w0 then some (d, w) else some (d0, w0)) none
  match best with
  | none => 0
  | some (d, _) => rad (d : Rat)

/-- Whether the berm is on. R154, R164. -/
def State.bermOn (s : State) : Bool := s.alc.bermSwitch.getD (s.parB .ALC_BERM_ON)

/-- Berm targets and terms of a frame. R154, R155. -/
def State.bermStep (s : State) : State :=
  if ¬ s.bermOn then
    { s with alc := { s.alc with berm := [], chans := s.alc.chans.map (fun (x : AlcChan) => { x with bermOn := false, bermW := 0 }) } }
  else
    let s := { s with alc := { s.alc with berm := [] } }
    s.alcList.foldl (fun s c =>
      let l := s.bermSet c
      if s.ttype c ≠ 1 ∨ (s.ach c).avail ≠ 0 ∨ l.isEmpty then s.modAch c (fun x => { x with bermOn := false, bermW := 0 })
      else
        let a := (s.ach c).azPred
        let w := s.worstTurn c a l
        let t := s.bermTarget c l
        let on : Bool := decide (rad (s.par .ALC_BERM_TURN) < w)
        let s := s.modAch c (fun x => { x with bermAz := t, bermOn := on, bermW := w })
        if on then { s with alc := { s.alc with berm := s.alc.berm ++ [(c, s.bermTurn c a t)] } } else s) s

/-! ### The fence (R135, R152, R156, R164) -/

/-- Whether a source is current at the fence. R152. -/
def State.pwrCurrent (s : State) (x : PwrSource) : Bool :=
  match x.last with
  | none => false
  | some a => decide (s.frame.startAt ≤ a + 200000000)

/-- The envelope in force of a section. R152, R153. -/
def State.envelope (s : State) (n : Nat) : State :=
  s.modSect n (fun x =>
    let cur := [x.src1, x.src2].filter s.pwrCurrent
    let newest := [x.src1, x.src2].filterMap (fun y => y.last)
    let age : Word := match newest with
      | [] => 0xFFFFFFFF
      | l => wN ((s.frame.startAt - maxN l) / 1000000)
    match x.state, cur with
    | 0, y :: l =>
      let av (z : PwrSource) : Rat := if z.flags.getLsbD 0 then z.avail else 0
      { x with
        avail := minQ (av y) (l.map av), regen := minQ y.regen (l.map (fun z => z.regen)), ramp := minQ y.ramp (l.map (fun z => z.ramp))
        flags := y.flags.setWidth 32, age := age }
    | _, _ =>
      { x with avail := s.par .PWR_CONS_AVAIL n, regen := s.par .PWR_CONS_REGEN n, ramp := s.par .PWR_CONS_RAMP n
               flags := match cur with
                 | y :: _ => y.flags.setWidth 32
                 | [] => 0
               age := age })

/-- TIE_CLOSED of a section's message in force; none without a current source. R150, R152. -/
def State.sectTie (s : State) (n : Nat) : Option Bool :=
  let x := s.sect n
  ([x.src1, x.src2].find? s.pwrCurrent).map (fun y => y.flags.getLsbD 1)

/-- Tied pairs, and the disagreement of their messages, which ends when they agree. R150, R163. -/
def State.tieStep (s : State) : State :=
  [1, 3].foldl (fun s n =>
    let a := s.sectTie n
    let b := s.sectTie (n + 1)
    let tie : Bool := (s.sect n).state = 0 && (s.sect (n + 1)).state = 0 && a = some true && b = some true
    let s := if tie then
        (s.modSect n (fun x => { x with flags := x.flags ||| 0x100 })).modSect (n + 1) (fun x => { x with flags := x.flags ||| 0x100 })
      else s
    match a, b with
    | some p, some q => s.alarmIf (p ≠ q) .PWR_TIE_MISMATCH n
    | _, _ => s) s

/-- A section none of whose sources is current enters CONSERVATIVE. R153. -/
def State.sectStale (s : State) (n : Nat) : State :=
  let x := s.sect n
  if s.pwrCurrent x.src1 ∨ s.pwrCurrent x.src2 then s
  else
    let s := (s.modSect n (fun x => { x with state := 1, src1 := { x.src1 with run := 0 }, src2 := { x.src2 with run := 0 } })).envelope n
    s.raiseAlarm .PWR_ENV_STALE n

/-- A section at a fence: its state and the envelope in force. R152, R153. -/
def State.sectFence (s : State) (n : Nat) : State :=
  let s := s.envelope n
  if (s.sect n).state = 1 then s else s.sectStale n

/-- Whether thrust and power of a channel's feedback are there with quality GOOD. R156, R268. -/
def State.fbGood (s : State) (c : Nat) : Bool :=
  let x := s.tch c
  x.tMeasAt.isSome && x.pMeasAt.isSome && x.state ≠ 6

/-- κ and slew rate learned from a channel's feedback. R156. -/
def State.learnChan (s : State) (c : Nat) : State :=
  let x := s.tch c
  let a := s.ach c
  let tau := s.par .ALC_LEARN_TAU
  let k0 := s.kappaCfg c
  let s :=
    match x.tMeasAt with
    | none => s
    | some t =>
      if t ≤ a.learnAt ∨ absQ x.tMeas < 20 / 100 * s.tfwd c ∨ ¬ s.fbGood c then s
      else
        let dt : Rat := if a.learnAt = 0 then 0 else ((t - a.learnAt : Nat) : Rat) / 1000000000
        let d := Config.exp (0 - dt / tau)
        let num := a.kNum * d + x.pMeas * pow15 x.tMeas
        let den := a.kDen * d + absQ x.tMeas * absQ x.tMeas * absQ x.tMeas
        s.modAch c (fun y => { y with
          learnAt := t, kNum := num, kDen := den, kLearned := if den = 0 then y.kLearned else some (clampQ (7 / 10 * k0) (13 / 10 * k0) (num / den)) })
  let sl := s.slew c
  let s := if s.held a.fullRateSince 1000000000 then
      let w := (a.slewLearned.getD sl) + (absQ x.azRate - a.slewLearned.getD sl) * minQ 1 [frameSec / tau]
      s.modAch c (fun y => { y with slewLearned := some (clampQ (sl / 2) sl w) })
    else s
  let y := s.ach c
  let at1 (v : Option Rat) (l : List Rat) : Bool := match v with
    | none => false
    | some q => l.any (fun e => q = e)
  s.alarmIf (at1 y.kLearned [7 / 10 * k0, 13 / 10 * k0] || at1 y.slewLearned [sl / 2, sl]) .ALC_LEARN_LIMIT c

/-- Commands, availability, azimuths, the envelope and learned values at a fence. R135, R164. -/
def State.alcFence (s : State) : State :=
  let s := s.alc.pendSelect.foldl (fun s e => s.modAch e.1 (fun x => { x with selected := e.2 })) s
  let s := s.alc.pendLearnReset.foldl (fun s c =>
    s.modAch c (fun x => { x with kLearned := none, slewLearned := none, kNum := 0, kDen := 0 })) s
  let s := { s with alc := { s.alc with
    pendSelect := [], pendLearnReset := [], bermSwitch := if s.alc.pendBerm.isSome then s.alc.pendBerm else s.alc.bermSwitch
    pendBerm := none, result := none, composed := false, job := none } }
  let s := thrAll.foldl (fun s c => if s.alcConf c then s.learnChan c else s) s
  let s := thrAll.foldl (fun s c => s.modAch c (fun x => { x with avail := s.availOf c, azPred := (s.tch c).azPred })) s
  ([1, 2, 3, 4].foldl State.sectFence s).tieStep

/-- A frame without a posed problem: nothing is planned and no upper bound binds. R159, R163. -/
def State.alcNotPosed (s : State) : State :=
  let s := { s with alc := { s.alc with
    sections := s.alc.sections.map (fun (x : PwrSection) => { x with planned := 0, bindRun := 0, freeRun := x.freeRun + 1 })
    status := 3, flags := 0, iter := 0, repeatRun := 0, usedRun := 0, nvar := 0, posed := [], uses := false, satOver := none, satUnder := none } }
  (s.clearAlarm .ALLOC_REPEAT).clearAlarm .ALLOC_STALLED

/-! ### Composition (R144, R145, R158, R159) -/

/-- Whether a slack lies within a part of HOLD_FMAX on every axis. -/
def State.slackWithin (s : State) (t : Tau) (part : Rat) : Bool :=
  [0, 1, 2].all (fun j => decide (absQ (t.get j) ≤ part * s.fmax j))

/-- Whether a nominal result is used. R158. -/
def State.resultUsed (s : State) (r : Option NomResult) : Bool :=
  match r with
  | none => false
  | some r => !r.ovf && ((!r.truncated && !r.pivNonpos) || s.slackWithin r.slack (s.par .ALC_RES_TOL / 100))

/-- Thrust, angle and rudder force from a used result. R144. -/
def State.composeUsed (s : State) (v : AlcVar) (x : List Rat) : Rat × Rat × Rat :=
  let a := nth x v.v0
  let c := nth x (v.v0 + 1)
  if v.typ = 1 then
    let d := s.slewUse v.ch * frameSec
    if absQ a < s.par .ALC_T_TURN v.ch / 100 * s.tfwd v.ch then
      let y := s.ach v.ch
      let e := if y.bermOn then clampQ (0 - d) d ((assoc s.alc.berm v.ch).getD 0) else 0
      (a, wrap2Pi (v.az + e), 0)
    else
      ((if a < 0 then -1 else 1) * Config.sqrt (a * a + c * c), wrap2Pi (v.az + clampQ (0 - d) d (Config.atan2 (c / a) 1)), 0)
  else if v.typ = 2 then (a, 0, 0)
  else
    let k := s.par .ALC_RUD_K v.ch
    (a, if 0 < a then rad (s.par .ALC_RUD_MAX v.ch) * c / (k * a) else 0, if 0 < a then c else 0)

/-- The clip of R145. -/
def State.clipCmd (s : State) (v : AlcVar) (t : Rat × Rat × Rat) : Rat × Rat × Rat :=
  let f := clampQ v.lo v.hi t.1
  if v.typ = 1 then
    let d := s.slewUse v.ch * frameSec
    (f, wrap2Pi (v.az + clampQ (0 - d) d (wrapPi (t.2.1 - v.az))), 0)
  else if v.typ = 2 then (f, 0, 0)
  else
    let k := s.par .ALC_RUD_K v.ch
    if 0 < v.prev ∧ 0 < f then
      let l := clampQ (0 - k * f) (k * f) (clampQ (v.prevL - v.lMax) (v.prevL + v.lMax) t.2.2)
      (f, rad (s.par .ALC_RUD_MAX v.ch) * l / (k * f), l)
    else (f, 0, 0)

/-- The repeated commands of a frame: each through its interval, then each section reduced into its bound. R159. -/
def State.composeRepeat (s : State) (p : AlcProb) : List (Nat × Rat × Rat × Rat) :=
  let first := p.vars.map (fun v => (v.ch, clampQ v.lo v.hi v.prev, (s.ach v.ch).ang, v.prevL))
  let red (l : List (Nat × Rat × Rat × Rat)) (r : AlcRow) : List (Nat × Rat × Rat × Rat) :=
    let on (c : Nat) : Bool := r.secs.contains (s.sectOf c)
    let pw := sumQ ((l.filter (fun e => on e.1)).map (fun e => s.power e.1 e.2.1))
    if pw ≤ r.hi then l
    else
      let k := Config.pow (r.hi / pw) (2 / 3)
      l.map (fun e =>
        if on e.1 then
          match p.vars.find? (fun v => v.ch = e.1) with
          | none => e
          | some v => (e.1, clampQ v.lo v.hi (k * e.2.1), e.2.2)
        else e)
  p.rows.foldl red first

/-- The posed power of a row's sections at composed commands. R147. -/
def State.rowPower (s : State) (p : AlcProb) (r : AlcRow) : Rat :=
  sumQ ((p.vars.filter (fun v => r.secs.contains (s.sectOf v.ch))).map (fun v => v.k0 + v.slope * (s.ach v.ch).cT))

/-- What a frame's commands mean for the sections: planned power and whether an upper bound binds. R162, R163. -/
def State.sectStep (s : State) (p : AlcProb) : State :=
  let s := [1, 2, 3, 4].foldl (fun s n => s.modSect n (fun x => { x with
    planned := sumQ ((s.alcList.filter (fun c => s.sectOf c = n)).map (fun c => s.power c (s.ach c).cT)) })) s
  [1, 2, 3, 4].foldl (fun s n =>
    let binds : Bool := p.rows.any (fun r => r.secs.contains n && decide (999 / 1000 * r.hi ≤ s.rowPower p r))
    s.modSect n (fun x => { x with
      bindRun := if binds then x.bindRun + 1 else 0, freeRun := if binds then 0 else x.freeRun + 1 })) s

/-- The nominal problem of the frame. -/
def State.nominal (s : State) : Option AlcProb := (s.alc.posed.find? (fun e => e.1 = 0)).map (fun e => e.2)

/-- The alarms and counts of used and repeated frames. R159, R160. -/
def State.useStep (s : State) (used : Bool) (slack : Tau) : State :=
  if used then
    let above : Bool := !s.slackWithin slack (s.par .ALC_SAT_TOL / 100)
    let s := { s with alc := { s.alc with
      repeatRun := 0, usedRun := s.alc.usedRun + 1, slack := slack, satOver := s.since above s.alc.satOver, satUnder := s.since (!above) s.alc.satUnder } }
    if 50 ≤ s.alc.usedRun then (s.clearAlarm .ALLOC_REPEAT).clearAlarm .ALLOC_STALLED else s
  else State.raiseAlarm { s with alc := { s.alc with repeatRun := s.alc.repeatRun + 1, usedRun := 0 } } .ALLOC_REPEAT

/-- Composition of a frame, once. R144, R145, R158, R159. -/
def State.alcCompose (s : State) : State :=
  match s.nominal with
  | none => s
  | some p =>
    if s.alc.composed then s
    else
      let r := s.alc.result
      let used := s.resultUsed r
      let x : NomResult := r.getD {}
      let raw : List (Nat × Rat × Rat × Rat) := if used then p.vars.map (fun v => (v.ch, s.composeUsed v x.x)) else s.composeRepeat p
      let clip := p.vars.map (fun v => (v.ch, s.clipCmd v ((assoc raw v.ch).getD (0, 0, 0))))
      let clipped : Bool := p.vars.any (fun v =>
        decide (s.tfwd v.ch / 1000 < absQ (((assoc clip v.ch).getD (0, 0, 0)).1 - ((assoc raw v.ch).getD (0, 0, 0)).1)))
      let s := clip.foldl (fun s e => s.modAch e.1 (fun y => { y with cT := e.2.1, cAng := e.2.2.1, cL := e.2.2.2 })) s
      let s := s.useStep used x.slack
      let s := s.sectStep p
      let cons : Bool := [1, 2, 3, 4].any (fun n => (s.sect n).state ≠ 0)
      { s with alc := { s.alc with
        composed := true, uses := used, iter := x.iter, status := if ¬ used then 2 else if x.truncated then 1 else 0
        flags := wN (b2n x.truncated + 2 * b2n x.pivTiny + 4 * b2n x.pivNonpos + 8 * b2n x.ovf + 16 * b2n (s.alarmOn .ALLOC_SATURATED) +
          32 * b2n (!s.alc.berm.isEmpty) + 64 * b2n cons + 128 * b2n clipped + 256 * b2n r.isNone) } }

/-- The composed command of a channel becomes its command of this frame. R135, R156. -/
def State.alcTake (s : State) (c : Nat) : State :=
  let d := s.slewUse c * frameSec
  s.modAch c (fun x =>
    let full : Bool := s.ttype c = 1 && decide (999 / 1000 * d ≤ absQ (wrapPi (x.cAng - x.azPred)))
    { x with t := x.cT, ang := x.cAng, l := x.cL, fullRateSince := s.since full x.fullRateSince })

/-- Model power of the commands in force. R162. -/
def State.cmdPower (s : State) : Rat := sumQ ((thrAll.filter s.alcConf).map (fun c => s.power c (s.ach c).t))

/-- Channels that are not in the problem carry no command. R136. -/
def State.alcDrop (s : State) : State :=
  thrAll.foldl (fun s c => if s.alcIn c then s else s.modAch c (fun x => { x with t := 0, l := 0, cT := 0, cL := 0, fullRateSince := none })) s

/-! ### Learned values kept (R157) -/

/-- The learned values of every channel. -/
def State.learnedVals (s : State) : List AlcLearned :=
  (thrAll.filter s.alcConf).map (fun c =>
    let x := s.ach c
    { ch := c, k := x.kLearned, slew := x.slewLearned, num := x.kNum, den := x.kDen })

/-- The model parameters of a channel, whose change resets its learned values. R157, R165. -/
def modelPars : List Param := [.ALC_X, .ALC_Y, .ALC_TFWD, .ALC_TREV, .ALC_PRATED, .ALC_KAPPA, .ALC_RAMP, .ALC_SLEW, .ALC_DIR, .ALC_SECTION,
  .ALC_RUD_K, .ALC_RUD_MAX, .ALC_RUD_RATE, .ALC_T_TURN]

/-- The model of a channel in force. -/
def State.modelOf (s : State) (c : Nat) : List (Option Rat) := modelPars.map (fun p => s.par? p c)

/-- Learned values written to the MRAM. -/
def State.learnSave (s : State) : State :=
  { s with alc := { s.alc with
      savedAt := s.now, retained := s.learnedVals, retainedGen := s.cfg.gen, retainedOk := true
      retainedModel := thrAll.map (fun c => (c, s.modelOf c)) } }

/-- Learned values taken. -/
def State.learnTake (s : State) (l : List AlcLearned) : State :=
  l.foldl (fun s e => s.modAch e.ch (fun x => { x with kLearned := e.k, slewLearned := e.slew, kNum := e.num, kDen := e.den })) s

/-- Learned values restored at a start, except of channels whose model differs. R157, R564. -/
def State.learnRestore (s : State) : State :=
  if ¬ s.alc.retainedOk then s.event .ALC_LEARN_BAD []
  else s.learnTake (s.alc.retained.filter (fun e => decide (assoc s.alc.retainedModel e.ch = some (s.modelOf e.ch))))

/-! ### Points (R162) -/

/-- The points of allocation. -/
def alcPoints (s : State) : List (Nat × PVal × Half) :=
  let a := s.alc
  let g : Half := qGood
  [(1280, pvE a.status, g), (1281, pvX a.flags.toNat, g), (1282, pvU a.iter, g), (1283, pvF a.slack.x, g), (1284, pvF a.slack.y, g),
    (1285, pvF a.slack.n, g), (1286, pvF a.power, g), (1287, pvF a.cap.x, g), (1288, pvF a.cap.y, g), (1289, pvF a.cap.n, g),
    (1290, pvU a.repeatRun, g), (1291, pvU a.nvar, g)] ++
  [1, 2, 3, 4].flatMap (fun n =>
    let x := s.sect n
    let b := 1296 + 8 * (n - 1)
    [(b, pvF x.avail, g), (b + 1, pvF x.regen, g), (b + 2, pvF x.ramp, g), (b + 3, pvE x.state, g), (b + 4, pvF x.planned, g),
      (b + 5, pvU x.age.toNat, g), (b + 6, pvX x.flags.toNat, g), (b + 7, pvU x.bad.toNat, g)]) ++
  thrAll.flatMap (fun c =>
    let x := s.ach c
    let b := 1536 + 8 * (c - 1)
    [(b, pvF x.t, g), (b + 1, pvF (if s.ttype c = 2 then 0 else x.ang), g), (b + 2, pvF x.l, g), (b + 3, pvE x.avail, g),
      (b + 4, pvF (s.power c x.t), g), (b + 5, pvF x.bermAz, g), (b + 6, pvF (s.kappa c), g), (b + 7, pvF (s.slewUse c), g)])

end Sys2Proof.Machine
end

