-- ==== Sys2Proof/Machine/Thr.lean ====
section
/-!
DEFINITION. Thruster channels: slices, register writes with behaviour, feedback frames, timed supervision and the channel
commands (spec/08).
-/
namespace Sys2Proof.Machine

/-- Whether an instant is the start of a slice of channel c. R235. -/
def State.sliceStart (s : State) (c : Nat) : Bool :=
  s.dom 10 && (s.now - s.thr.roundBase) % 2400000 = (c - 1) * 100000

/-- A channel's slice. At an instant that is no start of its slice there is none. R235, R236. -/
def execSequencerSlice (t c : Nat) (inp : SliceIn) (s : State) : Res :=
  let s := s.arrive t
  guardUnit (isTch c) c <| if s.sliceStart c ∧ s.tconf c ∧ (s.tch c).state ≠ 0 then s.thrSlice c inp else s

/-- SEAL set: the shadow set is locked and its frame is built. R237, R240, R242. -/
def State.thrSeal (s : State) (c : Nat) : State :=
  if (s.tch c).sealed then s
  else
    let late := s.frame.phaseCommit
    let s := s.modTch c (fun x => { x with
      sealed := true, sealedAt := s.now, withdrawnAt := none, sealLateF := x.sealLateF || late, sealLates := if late then satInc 255 x.sealLates else x.sealLates })
    if s.tconf c then s.placeTimed c true late else s

/-- A write of THR_c_SEAL with SEAL set. R237, R241. -/
def execThrSealWrite (t c : Nat) (s : State) : Res :=
  let s := s.arrive t
  guardUnit (isTch c) c <| if s.dom 10 then s.thrSeal c else s

/-- A write of a shadow register, by its offset. R238, R266. -/
def State.thrShadow (s : State) (c reg : Nat) (v : Word) : State :=
  if (s.tch c).sealed then s.modTch c (fun x => { x with wrSealed := true })
  else match reg with
    | 0x010 => s.modTch c (fun x => { x with shT := v })
    | 0x014 => s.modTch c (fun x => { x with shAng := v })
    | 0x018 => s.modTch c (fun x => { x with shRun := v.getLsbD 0, shTest := v.getLsbD 1 })
    | _ => s

/-- A write of a shadow register. R238. -/
def execThrShadowWrite (t c reg : Nat) (v : Word) (s : State) : Res :=
  let s := s.arrive t
  guardUnit (isTch c) c <| if s.dom 10 then s.thrShadow c reg v else s

/-- WITHDRAW written: before the commit instant SEAL clears, after it WD_LATE is set. R238, R241. -/
def State.thrWithdraw (s : State) (c : Nat) : State :=
  let x := s.tch c
  if x.sealed ∧ ¬ x.latch then
    let s := if s.tport c = 0 then s else s.cancelBox (s.tport c) (boxOf c false) abCancelled
    s.modTch c (fun x => { x with sealed := false, withdrawnAt := some s.now })
  else if x.latch ∨ s.frame.phaseCommit then s.modTch c (fun x => { x with wdLate := true })
  else s

/-- A write of THR_c_CTRL.WITHDRAW. R238. -/
def execThrWithdraw (t c : Nat) (s : State) : Res :=
  let s := s.arrive t
  guardUnit (isTch c) c <| if s.dom 10 then s.thrWithdraw c else s

/-- A write of THR_c_CTRL.CLEAR. R264. -/
def execThrCtrlClear (t c : Nat) (s : State) : Res :=
  let s := s.arrive t
  guardUnit (isTch c) c <| if s.dom 10 then s.thrClear c else s

/-- A write of THR_c_CTRL.EN, processed at the channel's next slice. R241, R265. -/
def execThrCtrlEnWrite (t c : Nat) (en : Bool) (s : State) : Res :=
  let s := s.arrive t
  guardUnit (isTch c) c <| if s.dom 10 then s.modTch c (fun x => { x with en := en, pendEn := some en, pendAt := s.now }) else s

/-- Redundancy supervision writes THR_AUTH. R234, R267. -/
def execThrAuthWrite (t : Nat) (on : Bool) (s : State) : Res :=
  let s := s.arrive t
  .next (if s.dom 10 then s.thrAuth on false else s)

/-- THR_AO_HOLD runs out. R234. -/
def execThrAoHoldExpiry (t : Nat) (s : State) : Res :=
  let s := s.arrive t
  match s.thr.aoHoldUntil with
  | none => .next s
  | some e => .next (if s.now < e then s else s.thrHoldEnd)

/-! ### Feedback (R257–R259) -/

/-- The channel a feedback frame on a port is for: its index, where that channel has its CAN path there. -/
def State.fbChan (s : State) (port : Nat) (f : CanFrame) : Option Nat :=
  let c := f.index
  if isTch c ∧ s.tconf c ∧ s.tport c = port ∧ s.dom 10 then some c else none

/-- Whether a binary32 field is not infinite. -/
def nanOrFinite (bs : List Byte) (o : Nat) : Bool :=
  let w := fld bs o 4
  (f32Val (BitVec.ofNat 32 w)).isSome || w % 2 ^ 23 ≠ 0

/-- The checks of R259 but the counter's. -/
def State.fbValid (s : State) (c : Nat) (func : Nat) (f : CanFrame) : Bool :=
  f.ext && f.func = func && f.data.length = 16 && decide (s.par? .THR_DRIVE_NODE c = some (f.src : Rat)) && f.crcOk &&
    (fldF? f.data 0).isSome && nanOrFinite f.data 4 && (func = 0x012 || (fldF? f.data 8).isSome)

/-- A failing frame counted. R259. -/
def State.fbBad (s : State) (c : Nat) : State := s.modTch c (fun x => { x with fbBad := satInc 255 x.fbBad })

/-- A FEEDBACK frame accepted. R257. -/
def State.feedback (s : State) (c sof : Nat) (f : CanFrame) : State :=
  let d := f.data
  let st := fld d 12 1
  let raw := s.rawAt sof
  s.modTch c (fun x => { x with
    fb := { x.fb with
      at_ := some sof, counter := some (byte (fld d 13 1)), ready := st.testBit 0, running := st.testBit 1, fault := st.testBit 2
      local_ := st.testBit 3, limited := st.testBit 4, holding := st.testBit 5, faultSeen := x.fb.faultSeen || st.testBit 2 }
    tMeas := fldF d 0, tMeasAt := some sof, pMeas := fldF d 8, pMeasAt := some sof
    fbAz := match fldF? d 4 with
      | some a => x.fbAz.take raw (wrap2Pi a)
      | none => x.fbAz })

/-- A FEEDBACK frame on a port. R259. -/
def execThrFeedbackFrame (t port sof : Nat) (f : CanFrame) (s : State) : Res :=
  let s := s.arrive t
  guardUnit (between 1 port 4) port <|
    match s.fbChan port f with
    | none => s
    | some c =>
      if ¬ s.fbValid c 0x011 f then s.fbBad c
      else if (s.tch c).fb.counter = some (byte (fld f.data 13 1)) then s
      else
        let s := s.feedback c sof f
        if (s.tch c).fb.fault then s.abortChanTest c else s

/-- A FEEDBACK2 frame accepted. R247, R258. -/
def State.feedback2 (s : State) (c sof : Nat) (f : CanFrame) : State :=
  let d := f.data
  let enc : Bool := s.parN .THR_ENC_SHAFT c ≠ 0
  s.modTch c (fun x => { x with
    fb2 := { x.fb2 with
      at_ := some sof, counter := some (byte (fld d 13 1)), epochSeen := wN (fld d 8 4), faultCode := byte (fld d 12 1) }
    shaftSpd := if enc then x.shaftSpd else fldF d 0
    fbShaft := match fldF? d 4 with
      | some a => x.fbShaft.take (s.rawAt sof) (wrap2Pi a)
      | none => x.fbShaft })

/-- A FEEDBACK2 frame on a port. R258, R259. -/
def execThrFeedback2Frame (t port sof : Nat) (f : CanFrame) (s : State) : Res :=
  let s := s.arrive t
  guardUnit (between 1 port 4) port <|
    match s.fbChan port f with
    | none => s
    | some c =>
      if ¬ s.fbValid c 0x012 f then s.fbBad c
      else if (s.tch c).fb2.counter = some (byte (fld f.data 13 1)) then s
      else s.feedback2 c sof f

/-! ### Timed supervision (R262, R264): each row is the condition's own, confirmed as in a slice -/

/-- A condition's row: the fault is taken where its time has run out. -/
def State.thrTimed (s : State) (c bit : Nat) : State := if s.dom 10 ∧ (s.tch c).state ≠ 0 then s.thrDetect c bit else s

/-- No valid FEEDBACK for THR_c_FB_TIMEOUT: FB_TIMEOUT, or CAN_LOST on a BOTH link. -/
def execThrFbTimeout (t c : Nat) (s : State) : Res :=
  let s := s.arrive t
  guardUnit (isTch c) c <| (s.thrTimed c 2).thrTimed c 9

/-- AZ_FOLLOW. -/
def execThrAzFollowExpiry (t c : Nat) (s : State) : Res :=
  let s := s.arrive t
  guardUnit (isTch c) c <| s.thrTimed c 4

/-- AZ_WRONG_DIR. -/
def execThrAzWrongDirExpiry (t c : Nat) (s : State) : Res :=
  let s := s.arrive t
  guardUnit (isTch c) c <| s.thrTimed c 5

/-- RUDDER_FOLLOW. -/
def execThrRudderFollowExpiry (t c : Nat) (s : State) : Res :=
  let s := s.arrive t
  guardUnit (isTch c) c <| s.thrTimed c 11

/-- T_HIGH. -/
def execThrTHighExpiry (t c : Nat) (s : State) : Res :=
  let s := s.arrive t
  guardUnit (isTch c) c <| s.thrTimed c 6

/-- T_DEV. -/
def execThrTDevExpiry (t c : Nat) (s : State) : Res :=
  let s := s.arrive t
  guardUnit (isTch c) c <| s.thrTimed c 7

/-- ANG_DISAGREE. -/
def execThrAngDisagreeExpiry (t c : Nat) (s : State) : Res :=
  let s := s.arrive t
  guardUnit (isTch c) c <| s.thrTimed c 10

/-- 1 s of READY and not LOCAL. -/
def execThrNotReadyRecovery (t c : Nat) (s : State) : Res :=
  let s := s.arrive t
  guardUnit (isTch c) c <| if s.dom 10 then s.thrReadyBack c else s

/-- A DEGRADED condition absent for 10 s. -/
def execThrDegradedRecovery (t c : Nat) (s : State) : Res :=
  let s := s.arrive t
  guardUnit (isTch c) c <| if s.dom 10 then s.thrDegradedBack c else s

/-! ### Commands (R270) -/

/-- Whether byte 0 names a configured channel. -/
def State.isThr (s : State) (p : List Byte) : Bool := isTch (fld p 0 1) && s.tconf (fld p 0 1)

/-- THR_QUERY. -/
def opThrQuery : OpDef := {
  code := 0x0510, pair := true, readOnly := true, len := 4
  chk := fun s _ p => if s.isThr p then stDone else stBadParam
  run := fun s _ _ p =>
    let x := s.tch (fld p 0 1)
    (s, leBytes 2 x.state ++ leBytes 2 x.fault ++ bF x.outT ++ leBytes 4 x.actAng.toNat ++ bF (x.azUsed.getD {}).a ++ bF x.gate ++
      bF x.tMeas ++ leBytes 4 x.cnt) }

/-- THR_CLEAR. R264. -/
def opThrClear : OpDef := {
  code := 0x0511, pair := true, role := 2, len := 4
  chk := fun s _ p =>
    if ¬ s.isThr p then stBadParam else if (s.tch (fld p 0 1)).present ≠ 0 then stNotInMode else stDone
  run := fun s _ _ p => (s.thrClear (fld p 0 1), []) }

/-- THR_ENABLE. R265. -/
def opThrEnable : OpDef := {
  code := 0x0512, pair := true, role := 2, len := 4
  chk := fun s _ p => if s.isThr p ∧ fld p 1 1 ≤ 1 then stDone else stBadParam
  run := fun s _ _ p =>
    let e : Bool := fld p 1 1 = 1
    (s.modTch (fld p 0 1) (fun x => { x with en := e, pendEn := some e, pendAt := s.now }), []) }

end Sys2Proof.Machine
end

