-- ==== Sys2Proof/Machine/Alc.lean ====
section
/-!
DEFINITION. Thrust allocation: power-envelope messages, the timers and counters of its alarms, learned values, composition with sealing,
and the allocation commands (spec/05).
-/
namespace Sys2Proof.Machine

/-! ### Power-envelope messages (R151–R153) -/

/-- Whether the section's bytes 0 to 11 are finite and in range. R151. -/
def pwrRange (d : List Byte) : Bool :=
  match fldF? d 0, fldF? d 4, fldF? d 8 with
  | some a, some r, some p => decide (0 ≤ a) && decide (0 ≤ r) && decide (0 < p)
  | _, _, _ => false

/-- The source of a section that a frame comes from: 1 or 2. R152. -/
def State.pwrSourceOf (s : State) (n port : Nat) (f : CanFrame) : Option Nat :=
  let is (p q : Param) : Bool := s.parN p n = port && decide (s.par? q n = some (f.src : Rat))
  if is .PWR_PORT .PWR_SRC then some 1 else if is .PWR_PORT2 .PWR_SRC2 then some 2 else none

/-- A valid message taken by a source of a section. R152, R153. -/
def PwrSource.take (x : PwrSource) (sof : Nat) (d : List Byte) : PwrSource :=
  let c := byte (fld d 13 1)
  { last := some sof, avail := fldF d 0, regen := fldF d 4, ramp := fldF d 8, flags := byte (fld d 12 1), counter := some c
    run := if x.counter = some (c - 1) ∧ x.run ≠ 0 then x.run + 1 else 1 }

/-- A power-envelope frame on a port. R152. -/
def execPowerEnvelopeMessage (t port sof : Nat) (f : CanFrame) (s : State) : Res :=
  let s := s.arrive t
  guardUnit (between 1 port 4) port <|
    let n := f.index
    if ¬ s.dom 10 ∨ ¬ f.ext ∨ f.func ≠ 0x040 ∨ ¬ between 1 n 4 then s
    else
      match s.pwrSourceOf n port f with
      | none => s
      | some k =>
        let x := s.sect n
        let src := if k = 1 then x.src1 else x.src2
        let ok : Bool := f.fd && f.data.length = 16 && f.prio = 2 && f.crcOk && pwrRange f.data
        if ¬ ok then
          (s.modSect n (fun x => { x with bad := x.bad + 1 })).event .PWR_MSG_BAD [wN port, wN f.id]
        else if src.counter = some (byte (fld f.data 13 1)) then s
        else
          let y := src.take sof f.data
          s.modSect n (fun x => { x with
            src1 := if k = 1 then y else x.src1, src2 := if k = 1 then x.src2 else y, state := if x.state = 1 then 2 else x.state })

/-- A section without a current source at the fence. R153. -/
def execPwrSourceStale (t sec : Nat) (s : State) : Res :=
  let s := s.arrive t
  guardUnit (between 1 sec 4) sec <|
    s.sectStale sec

/-- A source of a returning section has delivered PWR_FRESH_COUNT consecutive messages. R153. -/
def execPwrFreshCountReached (t sec : Nat) (s : State) : Res :=
  let s := s.arrive t
  guardUnit (between 1 sec 4) sec <|
    let x := s.sect sec
    let n := s.parN .PWR_FRESH_COUNT
    if x.state = 2 ∧ ((s.pwrCurrent x.src1 ∧ n ≤ x.src1.run) ∨ (s.pwrCurrent x.src2 ∧ n ≤ x.src2.run)) then
      ((s.modSect sec (fun x => { x with state := 0 })).envelope sec).clearAlarm .PWR_ENV_STALE sec
    else s

/-- A section's upper bound has bound, or not bound, for PWR_LIMIT_FRAMES frames. R163. -/
def execPwrLimitCount (t sec : Nat) (s : State) : Res :=
  let s := s.arrive t
  guardUnit (between 1 sec 4) sec <|
    let x := s.sect sec
    let n := s.parN .PWR_LIMIT_FRAMES
    if n ≤ x.bindRun then s.raiseAlarm .PWR_ENV_LIMIT sec
    else if n ≤ x.freeRun then s.clearAlarm .PWR_ENV_LIMIT sec
    else s

/-! ### Timers of repeated and saturated frames (R159, R160) -/

/-- ALC_REPEAT_LIMIT repeated frames. R159. -/
def execAlcRepeatLimitReached (t : Nat) (s : State) : Res :=
  let s := s.arrive t
  .next (if s.parN .ALC_REPEAT_LIMIT ≤ s.alc.repeatRun then s.raiseAlarm .ALLOC_STALLED else s)

/-- The slack has lain beyond the limit, or below it, for ALC_SAT_TIME. R160. -/
def execAlcSatTimer (t : Nat) (s : State) : Res :=
  let s := s.arrive t
  let d := s.parNs .ALC_SAT_TIME
  .next (if s.held s.alc.satOver d then s.raiseAlarm .ALLOC_SATURATED
    else if s.held s.alc.satUnder d then s.clearAlarm .ALLOC_SATURATED
    else s)

/-! ### Learned values (R157) -/

/-- 600 s since the last write: learned values go to the MRAM. R157. -/
def execLearnedModelSave (t : Nat) (s : State) : Res :=
  let s := s.arrive t
  .next (if s.past s.alc.savedAt 600000000000 ∧ s.frame.running then s.learnSave else s)

/-! ### Composition and sealing (R46, R158, R237) -/

/-- A composed channel sealed: shadow set and seal on the unit that commands, in shadow on a standby. R48, R237. -/
def State.alcSeal (s : State) (c : Nat) : State :=
  if ¬ s.alcIn c ∨ s.frame.sealedNow.contains c then s
  else
    let s := s.alcTake c
    let x := s.ach c
    let s := if s.red.commanding ∧ s.dom 10 ∧ ¬ (s.tch c).sealed then
        (s.modTch c (fun y => { y with shT := toF32 x.t, shAng := toF32 x.ang, shRun := true, shTest := false })).thrSeal c
      else s
    { s with frame := { s.frame with sealedNow := s.frame.sealedNow ++ [c], sealEnd := wN s.frameElapsed } }

/-- APP-0 composes from the nominal result, or repeats, and seals the channels named. R144, R158. -/
def execAllocationCompose (t : Nat) (chans : List Nat) (s : State) : Res :=
  let s := s.arrive t
  .next (if s.dom 2 ∧ s.frame.running ∧ s.frame.phaseAlloc ∧ ¬ s.frame.phaseSealClosed ∧ 14000000 ≤ s.frameElapsed ∧ s.nominal.isSome then
      chans.foldl State.alcSeal s.alcCompose
    else s)

/-! ### Commands (R164) -/

/-- Whether the mode has frames. R164, R572. -/
def State.hasFrames (s : State) : Bool := s.frame.running && s.sys.mode ≠ .keep

/-- ALC_SELECT. R136. -/
def opAlcSelect : OpDef := {
  code := 0x0500, pair := true, len := 4
  chk := fun s _ p =>
    let c := fld p 0 1
    if ¬ isTch c ∨ 1 < fld p 1 1 ∨ (fld p 1 1 = 1 ∧ ¬ s.alcConf c) then stBadParam else if s.hasFrames then stDone else stNotInMode
  run := fun s _ _ p =>
    ({ s with alc := { s.alc with pendSelect := s.alc.pendSelect ++ [(fld p 0 1, decide (fld p 1 1 = 1))] } }, []) }

/-- ALC_SET_BERM. -/
def opAlcSetBerm : OpDef := {
  code := 0x0501, pair := true, len := 4
  chk := fun s _ p => if 1 < fld p 0 1 then stBadParam else if s.hasFrames then stDone else stNotInMode
  run := fun s _ _ p => ({ s with alc := { s.alc with pendBerm := some (decide (fld p 0 1 = 1)) } }, []) }

/-- ALC_QUERY. -/
def opAlcQuery : OpDef := {
  code := 0x0502, pair := true, readOnly := true
  chk := fun s _ _ => if s.hasFrames then stDone else stNotInMode
  run := fun s _ _ _ =>
    let a := s.alc
    (s, leBytes 2 a.status ++ zeros 2 ++ leBytes 4 a.flags.toNat ++ bF a.slack.x ++ bF a.slack.y ++ bF a.slack.n ++ bF a.power ++
      leBytes 4 a.iter ++ leBytes 4 a.repeatRun) }

/-- ALC_LEARN_RESET. -/
def opAlcLearnReset : OpDef := {
  code := 0x0503, pair := true, role := 2, len := 4
  chk := fun s _ p => if 24 < fld p 0 1 then stBadParam else if s.hasFrames then stDone else stNotInMode
  run := fun s _ _ p =>
    ({ s with alc := { s.alc with pendLearnReset := s.alc.pendLearnReset ++ (if fld p 0 1 = 0 then thrAll else [fld p 0 1]) } }, []) }

end Sys2Proof.Machine
end

