-- ==== Sys2Proof/Machine/Bus.lean ====
section
/-!
DEFINITION. CAN FD reception, transmission events, recovery and rate detection, the serial ports with their sentence and
binary conversions, and the bus commands (spec/16).
-/
namespace Sys2Proof.Machine

/-- A write that marks a point BAD; the value the spec leaves open is free. -/
def State.badWrite (s : State) (p ts : Nat) (reason src : Half) : State :=
  let (w, s) := s.freeW
  s.producerWrite p (w.setWidth 64) ts (qBad ||| reason) src

/-- A number written to a configured point by producer k; BAD with RANGE where its type cannot hold it. R489. -/
def State.numWrite (s : State) (p k ts : Nat) (q : Rat) : State :=
  let (v, ok) := encodeNum (s.cfgType p) q
  let src := BitVec.ofNat 16 (0x8000 + k)
  if ok then s.producerWrite p v ts qGood src else s.badWrite p ts rRange src

/-! ### CAN reception (R487–R489, R623) -/

/-- A raw value read from a frame by an encoding and a byte order: 0 U8, 1 S8, 2 U16, 3 S16, 4 U32, 5 S32, 6 F32. R623. -/
def rawValue (enc : Nat) (big : Bool) (bs : List Byte) : Option Rat :=
  let n := leNat (if big then bs.reverse else bs)
  match enc with
  | 0 => some (n : Rat)
  | 1 => some (((BitVec.ofNat 8 n).toInt : Int) : Rat)
  | 2 => some (n : Rat)
  | 3 => some (((BitVec.ofNat 16 n).toInt : Int) : Rat)
  | 4 => some (n : Rat)
  | 5 => some (((BitVec.ofNat 32 n).toInt : Int) : Rat)
  | _ => f32Val (BitVec.ofNat 32 n)

/-- Bytes an encoding reads. -/
def encBytes (enc : Nat) : Nat := if enc ≤ 1 then 1 else if enc ≤ 3 then 2 else 4

/-- A failed map entry is counted in CAN_MAP_FAIL. R489. -/
def State.mapFail (s : State) (n : Nat) : State := s.modPort n (fun p => { p with mapFail := p.mapFail + 1 })

/-- One map entry m applied to a frame of producer k. R489, R623. -/
def State.mapEntry (s : State) (n m k ts : Nat) (f : CanFrame) : State :=
  let enc := s.parN .BUS_CMAP_ENC m
  let o := s.parN .BUS_CMAP_BYTE m
  let len := encBytes enc
  let full : Nat := if f.ext then 0x1FFFFFFF else 0x7FF
  let mask := match s.par? .BUS_CMAP_MASK m with
    | some q => natOf q
    | none => full
  if s.parN .BUS_CMAP_PORT m ≠ n ∨ s.parN .BUS_CMAP_PROD m ≠ k ∨ (s.par? .BUS_CMAP_PROD m).isNone ∨
      s.parB .BUS_CMAP_IDE m ≠ f.ext ∨ (f.id ^^^ s.parN .BUS_CMAP_ID m) &&& mask ≠ 0 ∨ (s.par? .BUS_CMAP_POINT m).isNone then s
  else if f.data.length < o + len then s.mapFail n
  else
    let e2e := s.parB .BUS_CMAP_E2E m
    let ctr := (slice 13 1 f.data).getD 0 0
    let key := m * 2 ^ 29 + f.id
    if e2e ∧ (¬ f.crcOk ∨ assoc s.bus.cmapCtr key = some ctr) then s.mapFail n
    else
      let s : State := if e2e then { s with bus := { s.bus with cmapCtr := assocSet s.bus.cmapCtr key ctr } } else s
      let p := s.parN .BUS_CMAP_POINT m
      match rawValue enc (s.parB .BUS_CMAP_ORDER m) (slice o len f.data) with
      | none => s.badWrite p ts rRange (BitVec.ofNat 16 (0x8000 + k))
      | some q => s.numWrite p k ts (q * s.par .BUS_CMAP_SCALE m + s.par .BUS_CMAP_OFS m)

/-- The map entries in use, ascending. -/
def State.mapsUsed (s : State) : List Nat :=
  (s.cfg.given.filter (fun e => e.1.1 = Param.BUS_CMAP_PORT && e.2 ≠ 0)).map (fun e => e.1.2)

/-- Whether a node address of a port is one the module's own chapters use, so that it is no unconfigured producer: a drive, a power source or
a unit of the installation, whose partners' addresses are the defaults of R271 (log 119). R377. -/
def State.ownNode (s : State) (n node : Nat) : Bool :=
  (List.range 24).any (fun i => s.par? .THR_DRIVE_NODE (i + 1) = some (node : Rat) && s.parN .THR_CAN_PORT (i + 1) = n) ||
  (List.range 4).any (fun i => s.par? .PWR_SRC (i + 1) = some (node : Rat) && s.parN .PWR_PORT (i + 1) = n) ||
  (List.range 4).any (fun i => s.par? .PWR_SRC2 (i + 1) = some (node : Rat) && s.parN .PWR_PORT2 (i + 1) = n) ||
  [some (s.canNode n), some 0x0A, if s.red.unit = 0 then none else some 0x0B, if s.red.unit = 0 then none else some 0x0C].contains (some node)

/-- A frame counts towards discovery. R488. -/
def State.discover (s : State) (n : Nat) (f : CanFrame) : State :=
  let node := f.id % 256
  match (s.port n).nodes.find? (fun x => x.node = node) with
  | some _ =>
    s.modPort n (fun p => { p with nodes := p.nodes.map (fun x =>
      if x.node = node then
        { x with last := s.now, lastId := f.id, recent := s.now :: x.recent.filter (fun a => s.now < a + 1000000000) } else x) })
  | none =>
    if (s.port n).nodes.length < 64 then
      s.modPort n (fun p => { p with nodes := p.nodes ++
        [({ node := node, first := s.now, last := s.now, lastId := f.id, recent := [s.now] } : CanNode)] })
    else if (s.port n).tableFullRec then s
    else (s.modPort n (fun p => { p with tableFullRec := true })).event .CAN_NODE_TABLE_FULL [wN n, wN node]

/-- A received frame of a producer: announced where its node has entered the discovery table, and written through its maps. R377, R488,
R489. -/
def State.canMaps (s : State) (n ts : Nat) (f : CanFrame) : State :=
  let node := if f.ext then f.id % 256 else 0xFF
  let id := node + n * 256
  let listed := f.ext && !s.ownNode n node && (s.port n).nodes.any (fun x => x.node = node)
  if ¬ listed ∧ (s.findProd 0 id 0).isNone then s
  else
    match s.producerSeen 0 id 0 with
    | (none, s) => s
    | (some k, s) => s.mapsUsed.foldl (fun s m => s.mapEntry n m k ts f) s

/-- Rate detection hears a good frame. R486. -/
def State.detectGood (s : State) (n : Nat) (f : CanFrame) : State :=
  match (s.port n).detect with
  | none => s
  | some d =>
    let d := { d with good := d.good + 1, frames := d.frames + 1, sawBrs := d.sawBrs || (f.fd && f.brs) }
    let rates := s.parL .BUS_CAN_RATES n
    let nom := natOf (nth rates (2 * d.idx))
    let dat := natOf (nth rates (2 * d.idx + 1))
    if rates.length / 2 ≤ d.idx then s
    else if 4 ≤ d.good ∧ (dat = 0 ∨ d.sawBrs) then
      (s.modPort n (fun p => { p with
        detect := none, nom := nom, dat := dat * 1000, tec := 0, rec_ := 0, activeSince := some s.now
        state := if s.parB .BUS_CAN_ADOPT n then 2 else 6 })).clearAlarm .CAN_RATE_UNKNOWN n
    else s.modPort n (fun p => { p with detect := some d })

/-- Rate detection tries the next pair; two full passes raise CAN_RATE_UNKNOWN. R486. -/
def State.detectNext (s : State) (n : Nat) : State :=
  match (s.port n).detect with
  | none => s
  | some d =>
    let k := (s.parL .BUS_CAN_RATES n).length / 2
    let wrap := k ≤ d.idx + 1
    let pass := if wrap then d.pass + 1 else d.pass
    let d : Detect := { idx := if wrap then 0 else d.idx + 1, pass := pass, since := s.now }
    let s := s.modPort n (fun p => { p with detect := some d })
    if wrap ∧ pass = 2 then s.raiseAlarm .CAN_RATE_UNKNOWN n else s

/-- Whether a port takes frames: ERROR_ACTIVE, ERROR_PASSIVE or LISTEN_ONLY. R481. -/
def CanPort.listens (p : CanPort) : Bool := p.state = 2 || p.state = 3 || p.state = 6

/-- A frame of another node, begun at `sof`, leaves the bus idle. R476, R496. -/
def State.busEnd (s : State) (n sof : Nat) : State :=
  s.modPort n (fun p => { p with foreign := false, busyNs := p.busyNs + (s.now - sof) })

/-- A good frame is counted, queued, entered in the discovery table and mapped; with the FIFO full it is dropped. R481, R487, R488, R489. -/
def State.canTake (s : State) (n sof : Nat) (f : CanFrame) : State :=
  let s := (s.canCount n (fun p => { p with rx := p.rx + 1, rec_ := recGood p.rec_ })).clashReset n f.id false
  if 512 ≤ (s.port n).rxFifo.length then
    (s.modPort n (fun p => { p with rxOverrun := p.rxOverrun + 1, overrunAt := some s.now })).raiseAlarm .CAN_RX_OVERRUN n
  else
    let s := s.modPort n (fun p => { p with rxFifo := p.rxFifo ++ [(sof, f)] })
    let s := if f.ext then s.discover n f else s
    s.canMaps n (s.selAt (s.rawAt sof)) f

/-- A CAN frame received without error, its start of frame at `sof`; a remote frame is ignored. R472, R481, R487. -/
def execCanFrameReceived (t n sof : Nat) (f : CanFrame) (s : State) : Res :=
  let s := s.arrive t
  guardUnit (between 1 n 4) n <|
    let s := s.busEnd n sof
    (if f.rtr then s
    else if (s.port n).state = 1 then s.detectGood n f
    else if (s.port n).listens then s.canTake n sof f
    else s).canNext n

/-- An error seen in a frame, begun at `sof`, that this controller does not transmit. R481, R485, R486. -/
def execCanReceiveError (t n sof bitPos : Nat) (afterArb : Bool) (id : Nat) (s : State) (eight : Bool := false) : Res :=
  let s := s.arrive t
  guardUnit (between 1 n 4) n <|
    let s := s.busEnd n sof
    (if (s.port n).state = 1 then s.detectNext n
    else if (s.port n).listens then
      let s := s.canCount n (fun p => { p with
        errors := p.errors + 1, rec_ := if p.state = 6 then p.rec_ else p.rec_ + (if eight then 8 else 1) })
      if afterArb then (s.clashSeen n id bitPos false).2 else s
    else s).canNext n

/-! ### CAN transmission events (R476–R483) -/

/-- A timed frame's instant arrives, with the bus idle or with a frame of another node on it, which the frame then waits for. R477, R480. -/
def execCanTimedFrameDue (t n i : Nat) (s : State) (idle : Bool := true) : Res :=
  let s := s.arrive t
  guardUnit (between 1 n 4 && i < 64) n <|
    ((s.modPort n (fun p => { p with foreign := !idle && p.onBus.isNone })).modBox n i (fun b => match b.cur with
      | some f => { b with cur := some { f with due := s.dueNow f } }
      | none => b)).canNext n

/-- A transmission attempt ends: one that was lost leaves the winner's frame on the bus, one with which the port goes bus-off leaves its frame
to the bus-off. R476, R478, R479, R480, R481, R485. -/
def State.attemptEnd (s : State) (n i : Nat) (f : TxFrame) (o : TxOutcome) : State :=
  let s := s.modPort n (fun p => { p with onBus := none, busyNs := p.busyNs + (s.now - p.onBusAt) })
  let again (s : State) : State := match f.cancelled with
    | some why => (s.frameAborted n f why).nextBehind n i
    | none => s.modBox n i (fun b => { b with cur := some { f with begun := false } })
  match o with
  | .success =>
    (((s.canCount n (fun p => { p with tec := p.tec - 1 })).frameSent n).clashReset n f.frame.id true).nextBehind n i
  | .lost => again (s.modPort n (fun p => { p with foreign := true }))
  | .error bitPos afterArb noAck =>
    let s := s.canCount n (fun p => { p with
      errors := p.errors + 1, tec := if noAck ∧ p.state = 3 then p.tec else p.tec + 8 })
    let seen := s.clashSeen n f.frame.id bitPos true
    let clash := afterArb && seen.1
    let s := if afterArb then seen.2 else s.clashReset n f.frame.id true
    if 255 < (s.port n).tec then s.modBox n i (fun b => { b with cur := some { f with begun := false } })
    else if clash then ((s.frameAborted n f abClash).nextBehind n i).clashReset n f.frame.id true
    else again s

/-- A transmission attempt ends, and the next begins. R476. -/
def execCanTxAttemptEnd (t n : Nat) (o : TxOutcome) (s : State) : Res :=
  let s := s.arrive t
  guardUnit (between 1 n 4) n <|
    match (s.port n).onBus with
    | none => s
    | some i =>
      match (s.box n i).cur with
      | none => s.modPort n (fun p => { p with onBus := none })
      | some f => (s.attemptEnd n i f o).canNext n

/-- A frame's expiry arrives before its start of frame. R477, R479. -/
def execCanFrameExpiry (t n i : Nat) (s : State) : Res :=
  let s := s.arrive t
  guardUnit (between 1 n 4 && i < 64) n <|
    let s := s.canDue n
    let s := match (s.box n i).behind with
      | some h => if s.expired h then (s.frameAborted n h abExpired).modBox n i (fun b => { b with behind := none }) else s
      | none => s
    match (s.box n i).cur with
    | none => s
    | some f =>
      if ¬ s.expired f then s
      else if f.begun then s.modBox n i (fun b => { b with cur := some { f with cancelled := some (f.cancelled.getD abExpired) } })
      else ((s.frameAborted n f abExpired).nextBehind n i).canNext n

/-- The transmit counter exceeds 255: the port stops. R482. -/
def execCanBusOff (t n : Nat) (s : State) : Res :=
  let s := s.arrive t
  guardUnit (between 1 n 4) n <|
    if ((s.port n).state = 2 ∨ (s.port n).state = 3) ∧ 255 < (s.port n).tec then
      ((s.modPort n (fun p => { p with state := 4 })).abortPort n abBusOff).raiseAlarm .CAN_BUS_OFF n
    else s

/-- 128 recessive sequences: the port is ERROR_ACTIVE and BUS_RECOVER completes DONE. R483. -/
def execCanRecoverComplete (t n : Nat) (s : State) : Res :=
  let s := s.arrive t
  guardUnit (between 1 n 4) n <|
    match (s.port n).recover with
    | none => s
    | some (ss, sq, _) =>
      ((s.modPort n (fun p => { p with state := 2, tec := 0, rec_ := 0, recover := none, activeSince := some s.now })).clearAlarm
        .CAN_BUS_OFF n).completeCmd ss sq stDone []

/-- Recovery has not finished within BUS_RECOVER_TIMEOUT. R483. -/
def execCanRecoverTimeout (t n : Nat) (s : State) : Res :=
  let s := s.arrive t
  guardUnit (between 1 n 4) n <|
    match (s.port n).recover with
    | none => s
    | some (ss, sq, dl) =>
      if s.now < dl then s
      else (s.modPort n (fun p => { p with state := 4, recover := none })).completeCmd ss sq stDeadline []

/-- A detection dwell ends: without frames the pair is rejected, with frames it is listened on further (log 119). R486. -/
def execCanDetectDwellEnd (t n : Nat) (s : State) : Res :=
  let s := s.arrive t
  guardUnit (between 1 n 4) n <|
    match (s.port n).detect with
    | none => s
    | some d =>
      if ¬ s.past d.since (s.parMs .BUS_DETECT_DWELL) then s
      else if d.frames = 0 then s.detectNext n
      else s.modPort n (fun p => { p with detect := some { d with since := s.now, frames := 0 } })

/-- A node silent for BUS_NODE_FORGET is freed, and its UNKNOWN producer index with it. R377, R488. -/
def execCanNodeForget (t n node : Nat) (s : State) : Res :=
  let s := s.arrive t
  guardUnit (between 1 n 4) n <|
    match (s.port n).nodes.find? (fun x => x.node = node) with
    | none => s
    | some x =>
      if s.past x.last (s.parNs .BUS_NODE_FORGET) then
        let s := s.modPort n (fun p => { p with nodes := p.nodes.filter (fun y => y.node ≠ node), tableFullRec := false })
        { s with pnt := { s.pnt with producers := s.pnt.producers.filter (fun e =>
            !(512 ≤ e.1 && e.2.transport = 0 && e.2.id = BitVec.ofNat 32 (node + n * 256))) } }
      else s

/-- The serial part of a frame start: SER_RX_ERROR over the last 10 s. R497. -/
def State.serFrame (s : State) : State := (List.range 12).foldl (fun s i => s.serJudge (i + 1)) s

/-- The BUS part of a frame start: loads, alarms that clear after a time, and the receive FIFOs taken by firmware. R496, R497. -/
def State.busFrame (s : State) : State :=
  (List.range 4).foldl (fun s i =>
    let n := i + 1
    let s := s.modPort n (fun p => { p with load := min 1 ((p.busyNs : Rat) / 20000000), busyNs := 0, rxFifo := [] })
    let p := s.port n
    let s := if p.state = 2 ∧ s.held p.activeSince 10000000000 then s.clearAlarm .CAN_ERROR_PASSIVE n else s
    let s := if s.held p.overrunAt 10000000000 then s.clearAlarm .CAN_RX_OVERRUN n else s
    (p.clashSeen.filter (fun c => s.past c.2 60000000000)).foldl (fun s c =>
      (s.modPort n (fun p => { p with clashSeen := p.clashSeen.filter (fun d => d.1 ≠ c.1) })).clearAlarm .IDENTIFIER_CLASH
        (n * 2 ^ 32 + c.1)) s) s.serFrame

/-! ### Serial ports (R490–R495) -/

/-- The value of a hexadecimal character. -/
def hexVal (c : Nat) : Option Nat :=
  if 48 ≤ c ∧ c ≤ 57 then some (c - 48) else if 65 ≤ c ∧ c ≤ 70 then some (c - 55) else if 97 ≤ c ∧ c ≤ 102 then some (c - 87) else none

/-- Characters split at commas. -/
def splitComma : List Nat → List (List Nat)
  | [] => [[]]
  | c :: cs =>
    if c = 44 then [] :: splitComma cs
    else match splitComma cs with
      | [] => [[c]]
      | f :: fs => (c :: f) :: fs

/-- A decimal number from characters. -/
def decNum (cs : List Nat) : Option Rat :=
  let (neg, cs) : Bool × List Nat := match cs with
    | 45 :: r => (true, r)
    | 43 :: r => (false, r)
    | r => (false, r)
  let a := cs.takeWhile (· ≠ 46)
  let b := (cs.dropWhile (· ≠ 46)).drop 1
  if (a ++ b).isEmpty ∨ ¬ (a ++ b).all (fun c => 48 ≤ c && c ≤ 57) then none
  else
    let n : Nat := (a ++ b).foldl (fun v c => v * 10 + (c - 48)) 0
    let q : Rat := (n : Rat) / ((10 ^ b.length : Nat) : Rat)
    some (if neg then -q else q)

/-- The sentence between its first character and its checksum, where R491 accepts it. -/
def sentenceBody (cksum : Bool) (cs : List Nat) : Option (List Nat) :=
  let n := cs.length
  if 82 < n ∨ n < 6 ∨ ¬ (cs.head? = some 36 ∨ cs.head? = some 33) ∨ cs.drop (n - 2) ≠ [13, 10] then none
  else
    let inner := (cs.drop 1).take (n - 3)
    let body := inner.takeWhile (· ≠ 42)
    match inner.drop body.length with
    | [] => if cksum then none else some body
    | [_, h, l] =>
      match hexVal h, hexVal l with
      | some a, some b => if body.foldl (fun x c => x ^^^ c) 0 = a * 16 + b then some body else none
      | _, _ => none
    | _ => none

/-- The talker identity of a sentence: two characters, or 'P' for a proprietary one. R377. -/
def talkerOf (body : List Nat) : Nat :=
  if body.head? = some 80 then 80 else body.getD 0 0 + 256 * body.getD 1 0

/-- The formatter, or the manufacturer code of a proprietary sentence, as three characters. R492. -/
def formatterOf (body : List Nat) : Nat :=
  let d := if body.head? = some 80 then body.drop 1 else body.drop 2
  d.getD 0 0 + 256 * d.getD 1 0 + 65536 * d.getD 2 0

/-- Degrees of a ddmm.mmm field with its hemisphere. -/
def nmeaAngle (v hemi : List Nat) : Option Rat :=
  (decNum v).map (fun q =>
    let d : Int := (q / 100).floor
    let a : Rat := (d : Rat) + (q - 100 * (d : Rat)) / 60
    if hemi = [83] ∨ hemi = [87] then -a else a)

/-- The square of the eccentricity of the ellipsoid WGS 84 (PRESUMED, log 103). -/
def earthE2 : Rat := 669437999014 / 100000000000000

/-- Earth-centred coordinates of a latitude and a longitude in degrees at a height in metres, on the ellipsoid WGS 84 (PRESUMED, log 103). -/
def earthXYZ (h lat lon : Rat) : Rat × Rat × Rat :=
  let sf := Config.sin (rad lat)
  let cf := Config.cos (rad lat)
  let r := 6378137 / Config.sqrt (1 - earthE2 * sf * sf)
  ((r + h) * cf * Config.cos (rad lon), (r + h) * cf * Config.sin (rad lon), (r * (1 - earthE2) + h) * sf)

/-- North and east in metres of a latitude and a longitude from the origin lat0, lon0 at height h: their place relative to the origin, turned
into the origin's north-east-down frame; the sample is taken at the origin's height (log 103). R57. -/
def localNE (h lat0 lon0 lat lon : Rat) : Rat × Rat :=
  let o := earthXYZ h lat0 lon0
  let p := earthXYZ h lat lon
  let dx := p.1 - o.1
  let dy := p.2.1 - o.2.1
  let dz := p.2.2 - o.2.2
  let s0 := Config.sin (rad lat0)
  let c0 := Config.cos (rad lat0)
  let sl := Config.sin (rad lon0)
  let cl := Config.cos (rad lon0)
  (-s0 * cl * dx - s0 * sl * dy + c0 * dz, -sl * dx + cl * dy)

/-- What a conversion writes: points from the target on, each a number, or BAD. A GNS sentence has the best status of its systems' modes, and a
MWV sentence of another reference than R writes nothing (log 119). R492. -/
def convert (s : State) (conv : Nat) (fs : List (List Nat)) : List (Option Rat) :=
  let f (i : Nat) : List Nat := fs.getD i []
  let num (i : Nat) : Option Rat := decNum (f i)
  let posn (bad : Bool) (la lo : Nat) (st : Rat) : List (Option Rat) :=
    match nmeaAngle (f la) (f (la + 1)), nmeaAngle (f lo) (f (lo + 1)), s.par? .EST_ORIGIN_LAT, s.par? .EST_ORIGIN_LON with
    | some a, some b, some a0, some b0 =>
      if bad then [none, none, none]
      else
        let ne := localNE (s.par .EST_ORIGIN_H) a0 b0 a b
        [some ne.1, some ne.2, some st]
    | _, _, _, _ => [none, none, none]
  match conv with
  | 1 =>
    let q := (num 6).getD 0
    posn (q = 0) 2 4 (if q = 1 then 1 else if q = 2 then 3 else if q = 4 then 5 else if q = 5 then 4 else 0)
  | 2 =>
    let code (m : Nat) : Nat := if m = 65 then 1 else if m = 68 then 3 else if m = 82 then 5 else if m = 70 then 4 else 0
    posn ((f 6).all (· = 78)) 2 4 (((f 6).map code).foldl max 0 : Nat)
  | 3 => [(num 1).map rad]
  | 4 => [if f 2 = [65] then (num 1).map rad else none]
  | 5 => [if f 2 = [86] then none else (num 1).map (fun q => rad q / 60)]
  | 6 =>
    let unit : Rat := if f 4 = [78] then 1852 / 3600 else if f 4 = [75] then 1000 / 3600 else if f 4 = [83] then 1609344 / 3600000 else 1
    if f 2 ≠ [82] then [] else if f 5 = [86] then [none, none] else [(num 3).map (· * unit), (num 1).map rad]
  | 7 => if f 9 = [78] then [none, none] else [(num 1).map rad, (num 5).map (fun q => q * 1852 / 3600)]
  | _ => []

/-- One sentence map applied; its list holds the source (port, or 256 + group), talker (0 any), formatter, conversion, target,
field, scale, offset, validity field (0 none) and its character (log 43). A target is written only from its own producer. R492. -/
def State.smapEntry (s : State) (src k ts : Nat) (body : List Nat) (m : List Rat) : State :=
  let g (i : Nat) : Nat := natOf (nth m i)
  let talker := talkerOf body
  if g 0 ≠ src ∨ (g 1 ≠ 0 ∧ g 1 ≠ talker) ∨ g 2 ≠ formatterOf body then s
  else
    let fs := splitComma body
    let vals : List (Option Rat) :=
      if g 3 = 0 then
        let ok := g 8 = 0 || (fs.getD (g 8) []) = [g 9]
        [if ok then (decNum (fs.getD (g 5) [])).map (fun q => q * nth m 6 + nth m 7) else none]
      else convert s (g 3) fs
    ((List.range vals.length).zip vals).foldl (fun s e =>
      let p := g 4 + e.1
      if s.par? .PNT_PRODUCER p ≠ some (k : Rat) then s
      else match e.2 with
        | some q => s.numWrite p k ts q
        | none => s.badWrite p ts rRange (BitVec.ofNat 16 (0x8000 + k))) s

/-- The sentence maps in use. -/
def State.smaps (s : State) : List (List Rat) :=
  (s.cfg.lists.filter (fun e => e.1.1 = Param.BUS_SMAP)).map (fun e => e.2)

/-- An accepted sentence of a source: its producer is seen and its maps write. R377, R492. -/
def State.sentence (s : State) (src transport id udp ts : Nat) (body : List Nat) : State :=
  match s.producerSeen transport id udp with
  | (none, s) => s
  | (some k, s) => s.smaps.foldl (fun s m => s.smapEntry src k ts body m) s

/-- An IEC 61162 sentence received on a port, `start` the start bit of its first character. R490–R492. -/
def execSerialSentence (t n start charErr : Nat) (bytes : List Byte) (s : State) : Res :=
  let s := s.arrive t
  guardUnit (between 1 n 12) n <|
    if ¬ s.dom 10 ∨ s.parN .BUS_SER_MODE n = 0 ∨ 2 ≤ s.parN .BUS_SER_PROTO n then s
    else
      let s := s.serChars n bytes.length charErr
      let cs := bytes.map BitVec.toNat
      match (if charErr = 0 then sentenceBody (s.parB .BUS_SER_CKSUM n) cs else none) with
      | none => s.serBad n
      | some body => (s.serGood n).sentence n 1 (talkerOf body + n * 65536) 0 (s.selAt (s.rawAt start)) body

/-- The check of a binary frame: 0 none, 1 sum, 2 exclusive-or, 3 CRC-16, 4 CRC-32C, over bytes a to b − 1, the value after
them. R493. -/
def binCheck (kind a b : Nat) (bs : List Byte) : Bool :=
  let d := (bs.take b).drop a
  match kind with
  | 0 => true
  | 1 => (sumN (d.map BitVec.toNat)) % 256 = fld bs b 1
  | 2 => (d.foldl (fun x y => x ^^^ y.toNat) 0) = fld bs b 1
  | 3 => crc16 0xFFFF d = fld bs b 2
  | _ => crc32c d = fld bs b 4

/-- Bytes of a frame of a parser definition, from the fixed length or the length field. Its list holds the sync count and four sync bytes, the
length kind (0 fixed) with the length or the field's offset and encoding (8 more where it is big-endian), the check with its first and last
byte, and per field the offset, encoding, order, scale, offset and target (log 43). R493. -/
def binLen (d : List Rat) (bs : List Byte) : Nat :=
  let g (i : Nat) : Nat := natOf (nth d i)
  if g 5 = 0 then g 6 else natOf ((rawValue (g 7 % 8) (8 ≤ g 7) (slice (g 6) (encBytes (g 7 % 8)) bs)).getD 0)

/-- The fields of a frame by a parser definition: target and value. R493. -/
def binFields (d : List Rat) (bs : List Byte) : List (Nat × Option Rat) :=
  let g (i : Nat) : Nat := natOf (nth d i)
  (List.range (min ((d.length - 11) / 6) 24)).map (fun i =>
    let o := 11 + 6 * i
    (g (o + 5), (rawValue (g (o + 1)) (g (o + 2) = 1) (slice (g o) (encBytes (g (o + 1))) bs)).map
      (fun q => q * nth d (o + 3) + nth d (o + 4))))

/-- The frames in a run of bytes: place and bytes of each accepted one, and how many failed. A frame begins at the first sync; after one that
fails its check, or whose length is not admitted, the search goes on from the byte after the failed sync. R493. -/
def binScan (d : List Rat) (bs : List Byte) : List (Nat × List Byte) × Nat :=
  let g (i : Nat) : Nat := natOf (nth d i)
  let sync := (List.range (g 0)).map (fun i => byte (g (1 + i)))
  let rec go : Nat → Nat → List Byte → List (Nat × List Byte) × Nat
    | 0, _, _ => ([], 0)
    | fuel + 1, at_, bs =>
      if bs.isEmpty then ([], 0)
      else if bs.take (g 0) ≠ sync then go fuel (at_ + 1) (bs.drop 1)
      else
        let len := binLen d bs
        if len = 0 ∨ 256 < len then
          let r := go fuel (at_ + 1) (bs.drop 1)
          (r.1, r.2 + 1)
        else if bs.length < len then ([], 0)
        else if binCheck (g 8) (g 9) (g 10) (bs.take len) then
          let r := go fuel (at_ + len) (bs.drop len)
          ((at_, bs.take len) :: r.1, r.2)
        else
          let r := go fuel (at_ + 1) (bs.drop 1)
          (r.1, r.2 + 1)
  go (bs.length + 1) 0 bs

/-- The line rate of a port, Bd. R490. -/
def State.serBaud (s : State) (n : Nat) : Nat :=
  match s.parN .BUS_SER_PROTO n with
  | 0 => 4800
  | 1 => 38400
  | _ => max 1200 (s.parN .BUS_SER_BAUD n)

/-- Bits of a character on a line, start bit, parity and stop bits included: the format's bit 0 is 7 data bits, bits 2:1 the parity and bit 3 two
stop bits (log 43). R490. -/
def State.charBits (s : State) (n : Nat) : Nat :=
  if s.parN .BUS_SER_PROTO n < 2 then 10
  else
    let f := s.parN .BUS_SER_FORMAT n
    (if f % 2 = 1 then 8 else 9) + (if f / 2 % 4 = 0 then 0 else 1) + (if f / 8 % 2 = 1 then 2 else 1)

/-- The fields of a binary frame of producer k written; a target is written only from its own producer. R489, R493. -/
def State.binWrite (s : State) (k ts : Nat) (vs : List (Nat × Option Rat)) : State :=
  vs.foldl (fun s e =>
    if s.par? .PNT_PRODUCER e.1 ≠ some (k : Rat) then s
    else match e.2 with
      | some q => s.numWrite e.1 k ts q
      | none => s.badWrite e.1 ts rRange (BitVec.ofNat 16 (0x8000 + k))) s

/-- A binary frame received on a port: the bytes from `start` on, the start bit of the first. A frame's time is the start bit of its first sync
byte. R490, R493. -/
def execSerialBinaryFrame (t n start charErr : Nat) (bytes : List Byte) (s : State) : Res :=
  let s := s.arrive t
  guardUnit (between 1 n 12) n <|
    if ¬ s.dom 10 ∨ s.parN .BUS_SER_MODE n = 0 ∨ s.parN .BUS_SER_PROTO n ≠ 2 then s
    else
      let s := s.serChars n bytes.length charErr
      let d := s.parL .BUS_BIN (s.parN .BUS_SER_PARSER n)
      if d.isEmpty then s
      else if charErr ≠ 0 then s.serBad n
      else
        let (fs, bad) := binScan d bytes
        let s := (List.range bad).foldl (fun s _ => s.serBad n) s
        fs.foldl (fun s f =>
          match (s.serGood n).producerSeen 1 (n * 65536) 0 with
          | (none, s) => s
          | (some k, s) =>
            s.binWrite k (s.selAt (s.rawAt (start + f.1 * s.charBits n * 1000000000 / s.serBaud n))) (binFields d f.2)) s

/-- The lines of a datagram, each up to its line feed. -/
def splitLines : List Nat → List (List Nat)
  | [] => [[]]
  | c :: cs =>
    match splitLines cs with
    | [] => [[c]]
    | l :: ls => if c = 10 then [10] :: l :: ls else (c :: l) :: ls

/-- A line without its tag block (between two backslashes), and whether the tag block's checksum holds. R494. -/
def dropTag (l : List Nat) : Option (List Nat) :=
  match l with
  | 92 :: r =>
    let tag := r.takeWhile (· ≠ 92)
    let body := tag.takeWhile (· ≠ 42)
    match tag.drop body.length with
    | [_, h, m] =>
      match hexVal h, hexVal m with
      | some a, some b => if body.foldl (fun x c => x ^^^ c) 0 = a * 16 + b then some ((r.drop tag.length).drop 1) else none
      | _, _ => none
    | _ => none
  | r => some r

/-- An IEC 61162-450 datagram of a transmission group: "UdPbC", a null, and its sentences. R494. -/
def execIec450Datagram (t group addr port : Nat) (bytes : List Byte) (s : State) : Res :=
  let s := s.arrive t
  let cs := bytes.map BitVec.toNat
  if ¬ s.netUp ∨ ¬ s.dom 10 ∨ ¬ (s.parL .BUS_450_GROUPS 0).contains (group : Rat) ∨ cs.take 6 ≠ [85, 100, 80, 98, 67, 0] then .next s
  else
    let ts := s.sel
    let ls := (splitLines (cs.drop 6)).filter (fun l => !l.isEmpty)
    .next (ls.foldl (fun s l =>
      match (dropTag l).bind (sentenceBody false) with
      | none => s
      | some body => s.sentence (256 + group) 2 addr port ts body) s)

/-! ### Talker sentences (R495) -/

/-- The characters of a natural number, at least `w` digits. -/
def digits (w n : Nat) : List Nat :=
  let rec go : Nat → Nat → List Nat → List Nat
    | 0, _, acc => acc
    | k + 1, v, acc => if v = 0 ∧ w ≤ acc.length then acc else go k (v / 10) ((48 + v % 10) :: acc)
  go 20 n []

/-- Tenths of a non-negative number as characters. -/
def tenths (w : Nat) (q : Rat) : List Nat :=
  let n := natOf (q * 10 + 1 / 2)
  digits w (n / 10) ++ [46, 48 + n % 10]

/-- Year, month and day of a count of days since 1970-01-01. -/
def civil (z : Nat) : Nat × Nat × Nat :=
  let z := z + 719468
  let era := z / 146097
  let doe := z % 146097
  let yoe := (doe - doe / 1460 + doe / 36524 - doe / 146096) / 365
  let doy := doe - (365 * yoe + yoe / 4 - yoe / 100)
  let mp := (5 * doy + 2) / 153
  let m := if mp < 10 then mp + 3 else mp - 9
  (yoe + era * 400 + (if m ≤ 2 then 1 else 0), m, doy - (153 * mp + 2) / 5 + 1)

/-- A sentence with its frame, talker and checksum. -/
def mkSentence (talker body : List Nat) : List Byte :=
  let b := talker ++ body
  let c := b.foldl (fun x y => x ^^^ y) 0
  let hx (v : Nat) : Nat := if v < 10 then 48 + v else 55 + v
  ([36] ++ b ++ [42, hx (c / 16), hx (c % 16), 13, 10]).map byte

/-- A talker sentence from present data; none where its data are BAD or the UTC offset is not valid. Kinds 0 HDT, 1 ROT,
2 ZDA. The number of decimals is the model's own (log 43). R495. -/
def State.talker (s : State) (kind : Nat) : Option (List Byte) :=
  let tk := match s.parL .BUS_SER_TALKER 0 with
    | [a, b] => [natOf a, natOf b]
    | _ => [73, 73]
  match kind with
  | 0 =>
    let p := s.point 514
    if qState p.qual = 2 then none
    else p.num.map (fun q => mkSentence tk ([72, 68, 84, 44] ++ tenths 1 (deg q) ++ [44, 84]))
  | 1 =>
    let p := s.point 517
    if qState p.qual = 2 then none
    else p.num.map (fun q =>
      let r := deg q * 60
      mkSentence tk ([82, 79, 84, 44] ++ (if r < 0 then [45] else []) ++ tenths 1 (absQ r) ++ [44, 65]))
  | 2 =>
    match s.tmu.utcOffset with
    | none => none
    | some o =>
      let ns : Int := (s.sel : Int) - o * 1000000000
      let sec := ns.toNat / 1000000000
      let (y, m, d) := civil (sec / 86400)
      let c := ns.toNat / 10000000 % 100
      some (mkSentence tk ([90, 68, 65, 44] ++ digits 2 (sec / 3600 % 24) ++ digits 2 (sec / 60 % 60) ++ digits 2 (sec % 60) ++
        [46] ++ digits 2 c ++ [44] ++ digits 2 d ++ [44] ++ digits 2 m ++ [44] ++ digits 4 y ++ [44, 48, 48, 44, 48, 48]))
  | _ => none

/-- The instant at which a queue of sentences, begun at `a`, has been sent, ten bits a character. -/
def sentBy (baud a : Nat) (x : SerTx) : Nat := a + x.data.length * 10 * 1000000000 / baud

/-- Sentences whose last character has been sent leave the queue. R495. -/
def State.serDrain (s : State) (n : Nat) : State :=
  let rec go : Nat → State → State
    | 0, s => s
    | k + 1, s =>
      match (s.ser n).txq with
      | [] => s
      | x :: _ =>
        let start := match (s.ser n).lastTx.find? (fun e => e.1 = 1000) with
          | some e => max e.2 x.queued
          | none => x.queued
        let e := sentBy (s.serBaud n) start x
        if s.now < e then s
        else go k ((s.modSer n (fun p => { p with
          txq := p.txq.drop 1, lastTx := (1000, e) :: p.lastTx.filter (fun l => l.1 ≠ 1000) })).emit (.serial n x.data))
  go 9 s

/-- Queued sentences return ABORTED; the character in progress completes. R27, R495. -/
def State.serDisable (s : State) (n why : Nat) : State :=
  let k := (s.ser n).txq.length
  (s.modSer n (fun p => { p with txq := [], aborted := p.aborted + wN k })).disableRec .DIS_SERIAL n why 0 k 0 0

/-- The interval of a talker sentence on a port, ms; 0 where the port does not send it. R495. -/
def State.serInterval (s : State) (n kind : Nat) : Rat :=
  let tx := s.parL .BUS_SER_TX n
  let k : Nat := (List.range (tx.length / 2)).findIdx (fun i => decide (nth tx (2 * i) = (kind : Rat)))
  nth tx (2 * k + 1)

/-- Whether a port queues a talker sentence now: IEC 61162 on a port in use, the sentence configured and its interval over. R495. -/
def State.serDue (s : State) (n kind : Nat) : Bool :=
  s.dom 10 && decide (s.parN .BUS_SER_MODE n ≠ 0 ∧ s.parN .BUS_SER_PROTO n < 2 ∧ s.serInterval n kind ≠ 0) &&
    (match (s.ser n).lastTx.find? (fun e => e.1 = kind) with
    | some e => s.past e.2 (natOf (s.serInterval n kind * 1000000))
    | none => true)

/-- A sentence put in a port's queue: 8 wait behind the one on the line, and a full queue drops the oldest that waits. R495. -/
def State.serQueue (s : State) (n : Nat) (x : SerTx) : State :=
  let s := s.modSer n (fun p => { p with lastTx := (x.kind, x.queued) :: p.lastTx.filter (fun l => l.1 ≠ x.kind) })
  let s := if 9 ≤ (s.ser n).txq.length then s.modSer n (fun p => { p with txq := p.txq.take 1 ++ p.txq.drop 2, aborted := p.aborted + 1 }) else s
  s.modSer n (fun p => { p with txq := p.txq ++ [x] })

/-- A configured talker sentence is queued at its interval. R495. -/
def execSerialTxSentence (t n kind : Nat) (s : State) : Res :=
  let s := s.arrive t
  guardUnit (between 1 n 12) n <|
    let s := s.serDrain n
    match (if s.serDue n kind then s.talker kind else none) with
    | none => s
    | some d => s.serQueue n { kind := kind, data := d, queued := s.now }

/-! ### Bus commands (R498) -/

/-- Whether a byte names a CAN port. -/
def isPort (p : List Byte) : Bool := between 1 (fld p 0 1) 4

/-- CAN_QUERY. -/
def opCanQuery : OpDef := {
  code := 0x0800, pair := false, readOnly := true, len := 4
  chk := fun _ _ p => if isPort p then stDone else stBadParam
  run := fun s _ _ p =>
    let c := s.port (fld p 0 1)
    (s, leBytes 2 c.state ++ [byte (min c.tec 255), byte (min c.rec_ 255)] ++ leBytes 4 c.nom ++ leBytes 4 c.dat ++
      leBytes 4 c.lastClash ++ leBytes 4 c.lastClashPos ++ bF c.load) }

/-- BUS_RECOVER. R483. -/
def opBusRecover : OpDef := {
  code := 0x0801, pair := false, len := 4
  chk := fun s _ p => if ¬ isPort p then stBadParam else if (s.port (fld p 0 1)).state = 4 then stAccepted else stNotInMode
  run := fun s n q p =>
    (s.modPort (fld p 0 1) (fun c => { c with
      state := 5, recover := some (n, q, s.now + s.parNs .BUS_RECOVER_TIMEOUT) }), []) }

/-- Whether a port is named by a THR_c_CAN_PORT or a PWR_n_PORT. R486. -/
def State.portNamed (s : State) (n : Nat) : Bool :=
  (List.range 24).any (fun i => s.par? .THR_CAN_PORT (i + 1) = some (n : Rat)) ||
  (List.range 4).any (fun i => s.par? .PWR_PORT (i + 1) = some (n : Rat))

/-- Whether THR or PWR names a port, a second source's included. R498. -/
def State.portUsed (s : State) (n : Nat) : Bool :=
  s.portNamed n || (List.range 4).any (fun i => s.par? .PWR_PORT2 (i + 1) = some (n : Rat))

/-- Rate detection starts on a port. R486. -/
def State.startDetect (s : State) (n : Nat) : State :=
  s.modPort n (fun c => { c with state := 1, detect := some { since := s.now } })

/-- CAN_RATE_DETECT; a port that is OFF has nothing to listen on (log 119). R486, R498. -/
def opCanRateDetect : OpDef := {
  code := 0x0802, pair := false, role := 2, len := 4
  chk := fun s _ p =>
    let n := fld p 0 1
    if ¬ isPort p then stBadParam
    else if (s.port n).state = 0 ∨ (s.port n).state = 4 ∨ (s.port n).state = 5 ∨ (s.sys.mode = .hold ∧ s.portUsed n) then stNotInMode else stDone
  run := fun s _ _ p => ((s.disablePort (fld p 0 1) abDisabled).startDetect (fld p 0 1), []) }

/-- CAN_NODE_LIST. -/
def opCanNodeList : OpDef := {
  code := 0x0803, pair := false, readOnly := true, len := 4
  chk := fun _ _ p => if isPort p ∧ fld p 1 1 < 64 then stDone else stBadParam
  run := fun s _ _ p =>
    let l := (((s.port (fld p 0 1)).nodes).drop (fld p 1 1)).take 40
    (s, [byte l.length] ++ zeros 3 ++ l.flatMap (fun x =>
      [byte x.node, byte (if s.now < x.last + 1000000000 then 0 else 1)] ++
        leBytes 2 (x.recent.filter (fun a => s.now < a + 1000000000)).length ++ leBytes 4 ((s.now - x.last) / 1000000) ++
        leBytes 4 x.lastId ++ leBytes 4 ((s.now - x.first) / 1000000000))) }

/-- SER_AGE: ms since the last accepted sentence, all ones if none. R496. -/
def State.serAge (s : State) (n : Nat) : Nat :=
  match (s.ser n).lastAcc with
  | none => 0xFFFFFFFF
  | some a => min ((s.now - a) / 1000000) 0xFFFFFFFE

/-- SER_QUERY. -/
def opSerQuery : OpDef := {
  code := 0x0804, pair := false, readOnly := true, len := 4
  chk := fun _ _ p => if between 1 (fld p 0 1) 12 then stDone else stBadParam
  run := fun s _ _ p =>
    let n := fld p 0 1
    let x := s.ser n
    (s, leBytes 4 x.accepted.toNat ++ leBytes 4 x.bad.toNat ++ leBytes 4 x.charErr.toNat ++ leBytes 4 (s.serAge n)) }

/-- The device points of BUS. R496. -/
def State.busPoints (s : State) : List (Nat × PVal × Half) :=
  ((List.range 4).flatMap (fun i =>
    let c := s.port (i + 1)
    let b := 3584 + 8 * i
    [(b, pvE c.state, qGood), (b + 1, pvU c.tec, qGood), (b + 2, pvU c.rec_, qGood), (b + 3, pvF c.load, qGood),
     (b + 4, pvU c.rx.toNat, qGood), (b + 5, pvU c.tx.toNat, qGood), (b + 6, pvU c.errors.toNat, qGood),
     (b + 7, pvU (c.nodes.filter (fun x => s.now < x.last + 1000000000)).length, qGood)])) ++
  ((List.range 12).flatMap (fun i =>
    let x := s.ser (i + 1)
    let b := 3616 + 4 * i
    [(b, pvU x.accepted.toNat, qGood), (b + 1, pvU x.bad.toNat, qGood), (b + 2, pvU x.charErr.toNat, qGood),
     (b + 3, pvU (s.serAge (i + 1)), qGood)])) ++
  ((List.range 4).map (fun i => (3664 + i, pvU (s.port (i + 1)).mapFail.toNat, qGood)))

end Sys2Proof.Machine
end

