-- ==== Sys2Proof/Machine/CqaOps.lean ====
section
/-!
DEFINITION. Consequence analysis: cases and what they lose, sorting and posing, what a case yields, timers, the capability envelope, what-if
queries and the points (spec/06).
-/
namespace Sys2Proof.Machine

/-! ### What a case loses (R167–R169) -/

/-- The elements a case of the configuration names. R167, R194. -/
def State.caseLoss (s : State) (k : Nat) : LossSet :=
  { thr := s.parN .CQA_THR k, sect := s.parN .CQA_SECT k, room := s.parN .CQA_ROOM k, refs := s.parN .CQA_REF k }

/-- Whether a set names an element. -/
def LossSet.any (l : LossSet) : Bool := l.thr ≠ 0 || l.sect ≠ 0 || l.room ≠ 0 || l.refs ≠ 0

/-- Whether a case is configured. R168, R193. -/
def State.caseConf (s : State) (k : Nat) : Bool := between 1 k 127 && (s.caseLoss k).any

/-- Sections lost: those named, those of rooms, and tie partners. Bit n − 1. R167, R169. -/
def State.lossSects (s : State) (l : LossSet) : Nat :=
  let base := [1, 2, 3, 4].foldl (fun m r => if l.room.testBit (r - 1) then m ||| s.parN .CQA_ROOM_SECTIONS r else m) l.sect
  if ¬ s.parB .CQA_TIE_SPREAD then base % 16
  else
    let has (n : Nat) : Bool := base.testBit (n - 1)
    let pair (n : Nat) : Nat := if s.tied n ∧ (has n ∨ has (n + 1)) then 3 * 2 ^ (n - 1) else 0
    (base ||| pair 1 ||| pair 3) % 16

/-- Whether the tie rule added a section. R191. -/
def State.tieAdded (s : State) (l : LossSet) : Bool :=
  let base := [1, 2, 3, 4].foldl (fun m r => if l.room.testBit (r - 1) then m ||| s.parN .CQA_ROOM_SECTIONS r else m) l.sect
  s.lossSects l ≠ base % 16

/-- Channels lost: those named and those of lost sections. Bit c − 1. R167. -/
def State.lossChans (s : State) (l : LossSet) : Nat :=
  let sm := s.lossSects l
  maskOf 24 (fun i => l.thr.testBit i || (let n := s.sectOf (i + 1)
                                          n ≠ 0 && sm.testBit (n - 1)))

/-- The reference slots lost. -/
def lossRefs (l : LossSet) : List Nat := slotAll.filter (fun i => l.refs.testBit i)

/-- Whether a case is enabled, by its configuration and by the command. R170. -/
def State.caseOn (s : State) (k : Nat) : Bool :=
  s.caseConf k && s.parB .CQA_ENABLE k && ((s.cqa.cases.getD (k - 1) {}).enabledCmd).getD true

/-- Whether every element of a set is unavailable already. R170. -/
def State.allLost (s : State) (l : LossSet) : Bool :=
  let m := s.lossChans l
  thrAll.all (fun c => !m.testBit (c - 1) || !s.alcIn c) && (lossRefs l).all (fun i => decide ((s.slot i).state ≠ .accepted))

/-- Whether the reference part of a set is in breach. R171. -/
def State.refPart (s : State) (l : LossSet) : Bool :=
  let left (k : Nat) : Nat := ((s.acceptedOf k).filter (fun i => !l.refs.testBit i)).length
  l.refs ≠ 0 && (decide (left 0 < s.parN .CQA_MIN_POS_REFS) || decide (left 1 < s.parN .CQA_MIN_HDG_REFS))

/-! ### Posing (R170–R175, R180) -/

/-- Case k. -/
def State.caseSt (s : State) (k : Nat) : CaseSt := s.cqa.cases.getD (k - 1) {}

/-- Case k changed. -/
def State.modCase (s : State) (k : Nat) (f : CaseSt → CaseSt) : State :=
  { s with cqa := { s.cqa with cases := s.cqa.cases.modify (k - 1) f } }

/-- A set judged at the fence: its result so far, and whether it goes to the engine. R170, R171. -/
def State.sortLoss (s : State) (l : LossSet) : CaseRes × Bool :=
  let m := s.lossChans l
  let b := s.refPart l
  let base : CaseRes := { lostCh := m, lostSect := s.lossSects l, refBreach := b }
  if s.allLost l then ({ base with state := 3 }, false)
  else if thrAll.any (fun c => m.testBit (c - 1) && s.alcIn c) then ({ base with state := if b then 1 else 2, margin := if b then some (-100) else none }, true)
  else if b then ({ base with state := 1, margin := some (-100), trec := some 0 }, false)
  else ({ base with state := 0, margin := some 100, trec := some 0 }, false)

/-- A set's problem. R172–R175. -/
def State.poseLoss (s : State) (m : Nat) (demand : Tau) : AlcProb :=
  s.poseAlc (some (s.par .CQA_HORIZON)) demand (fun c => m.testBit (c - 1)) []

/-- Every configured case sorted, and the problems for the engine in ascending index. R170, R180. -/
def State.cqaPose (s : State) (demand : Tau) : State × List (Nat × AlcProb) :=
  let r := (List.range 127).foldl (fun (acc : State × List (Nat × AlcProb)) i =>
    let k := i + 1
    let s := acc.1
    if ¬ s.caseOn k then (s.modCase k (fun x => { x with res := { state := 4 } }), acc.2)
    else
      let l := s.caseLoss k
      let (res, eng) := s.sortLoss l
      let s := s.modCase k (fun x => { x with res := res })
      let s : State := { s with cqa := { s.cqa with
        nPosed := if res.state = 3 then s.cqa.nPosed else s.cqa.nPosed + 1, tieSpread := s.cqa.tieSpread || s.tieAdded l } }
      (s, if eng then acc.2 ++ [(k, s.poseLoss res.lostCh demand)] else acc.2))
    ({ s with cqa := { s.cqa with nPosed := 0, tieSpread := false, judged := true } }, [])
  r

/-! ### What a case yields (R176–R179) -/

/-- A surviving channel's force in a result: its signed thrust, its force angle against α_p, and the thrust its utilisation is against. R177. -/
def caseForce (v : AlcVar) (x : List Rat) : Rat × Rat × Rat :=
  let a := nth x v.v0
  let c := nth x (v.v0 + 1)
  if v.typ = 1 then
    let t := Config.sqrt (a * a + c * c)
    (if v.rev then 0 - t else t, if a = 0 ∧ c = 0 then (if v.rev then pi else 0) else Config.atan2 c a, v.hi)
  else (a, 0, if a < 0 then 0 - v.lo else v.hi)

/-- The utilisation of each posed upper bound with its element. R177. -/
def State.caseUtil (_s : State) (p : AlcProb) (x : List Rat) : List (Nat × Rat) :=
  (p.vars.filter (fun v => !v.lost)).map (fun v =>
    let f := caseForce v x
    (v.ch, if f.2.2 = 0 then 0 else absQ f.1 / f.2.2)) ++
  p.rows.map (fun r => (32 + r.secs.headD 0, if r.hi = 0 then 0 else (r.k0 + dot r.co x) / r.hi))

/-- The largest utilisation and its element, the first of equals. -/
def worstOf (l : List (Nat × Rat)) : Nat × Rat := l.foldl (fun m e => if m.2 < e.2 then e else m) (0, 0)

/-- The recovery time of a complete result. R178. -/
def State.caseTrec (s : State) (p : AlcProb) (x : List Rat) : Rat :=
  let on := p.vars.filter (fun v => !v.lost)
  let chan (v : AlcVar) : List Rat :=
    let f := caseForce v x
    let ramp := absQ (f.1 - v.prev) / s.rampN v.ch
    let turn_ := if v.typ = 1 then absQ (wrapPi (f.2.1 - (if v.rev then pi else 0))) / s.slewUse v.ch else 0
    let rud :=
      if v.typ = 3 then
        let k := s.par .ALC_RUD_K v.ch
        let mx := s.par .ALC_RUD_MAX v.ch
        let new := if 0 < f.1 then mx * nth x (v.v0 + 1) / (k * f.1) else 0
        let old := if 0 < v.prev then mx * v.prevL / (k * v.prev) else 0
        absQ (new - old) / s.par .ALC_RUD_RATE v.ch
      else 0
    [ramp, turn_, rud]
  let row (r : AlcRow) : Rat :=
    let cs := on.filter (fun v => r.secs.contains (s.sectOf v.ch))
    let now_ := sumQ (cs.map (fun v => s.power v.ch (caseForce v x).1))
    let was := sumQ (cs.map (fun v => s.power v.ch v.prev))
    let ramp := sumQ (r.secs.map (fun n => (s.sect n).ramp))
    if ramp = 0 then 0 else maxQ 0 [(now_ - was) / ramp]
  maxQ 0 (on.flatMap chan ++ p.rows.map row)

/-- A case's result from the engine's. R176–R179. -/
def State.judge (s : State) (p : AlcProb) (base : CaseRes) (r : ProbRes) : CaseRes :=
  let (x, sl) := alcOut p.n (r.out.getD [])
  let tiny : Bool := r.flags.testBit 0
  let nonpos : Bool := r.flags.testBit 1
  let ovf : Bool := r.flags.testBit 2
  let within := s.slackWithin sl (s.par .CQA_FEAS_TOL / 100)
  let complete : Bool := r.status = 0
  let st : Nat := if base.refBreach then 1 else if 2 ≤ r.status then 2 else if ovf then 1 else if ¬ complete ∨ nonpos then 2
    else if within then 0 else 1
  let w := worstOf (s.caseUtil p x)
  let slackWorst := maxQ 0 ([0, 1, 2].map (fun j => absQ (sl.get j) / s.fmax j))
  let margin : Option Rat :=
    if st = 0 then some (100 * (1 - w.2))
    else if st = 1 then some (if complete ∧ ¬ within then -100 * slackWorst else if base.refBreach then -100 else -100 * slackWorst)
    else none
  let on := p.vars.filter (fun v => !v.lost)
  { base with
    state := st, iter := r.iters, truncated := r.status = 1, pivTiny := tiny, pivNonpos := nonpos, ovf := ovf, margin := margin
    trec := if complete ∧ st ≤ 1 then some (s.caseTrec p x) else none, binding := if st = 0 then w.1 else 0, slack := sl
    power := sumQ (on.map (fun v => s.power v.ch (caseForce v x).1))
    az := if complete then (on.filter (fun v => v.typ = 1)).map (fun v =>
        let f := caseForce v x
        (v.ch, wrap2Pi (v.az + f.2.1), decide (s.par .ALC_T_TURN v.ch / 100 * s.tfwd v.ch < absQ f.1)))
      else [] }

/-- The results of the ALLOC job taken: the nominal case first. R158, R180. -/
def State.takeAlloc (s : State) (j : HenJob) : State :=
  let s : State := { s with frame := { s.frame with solveEnd := wN s.frameElapsed }, alc := { s.alc with job := none } }
  let rs := j.padded
  let both := s.alc.posed.zip rs
  let s := both.foldl (fun s e =>
    let p := e.1.2
    let r := e.2
    if e.1.1 = 0 then
      let (x, sl) := alcOut p.n (r.out.getD [])
      let n : NomResult := { x := x, slack := sl, truncated := r.status = 1, pivTiny := r.flags.testBit 0, pivNonpos := r.flags.testBit 1
                             ovf := r.flags.testBit 2, iter := r.iters }
      { s with alc := { s.alc with result := if r.status ≤ 1 then some n else none } }
    else s.modCase e.1.1 (fun c => { c with res := s.judge p c.res r })) s
  { s with alc := { s.alc with prevX := both.filterMap (fun e => if e.2.status ≤ 1 then some (e.1.1, (alcOut e.1.2.n (e.2.out.getD [])).1) else none) } }

/-! ### Timers (R181–R183) -/

/-- One frame of a case's timers. -/
def CaseSt.tick (x : CaseSt) : CaseSt :=
  let st := x.res.state
  if st = 1 then { x with breachTimer := x.breachTimer + 1, timerRuns := true, clearRun := 0, unprovenRun := 0 }
  else if st = 2 then
    { x with breachTimer := if x.timerRuns then x.breachTimer + 1 else 0, clearRun := 0, unprovenRun := x.unprovenRun + 1 }
  else { x with breachTimer := 0, timerRuns := false, clearRun := x.clearRun + 1, unprovenRun := 0 }

/-- Frames in a time. -/
def State.frames (s : State) (p : Param) : Nat := natOf (s.par p * 50)

/-- The timers of every case count the results of a frame, once. R181–R183. -/
def State.cqaTick (s : State) : State :=
  if ¬ s.cqa.judged then s
  else
  let s : State := { s with cqa := { s.cqa with cases := s.cqa.cases.map CaseSt.tick, judged := false } }
  let un : Bool := s.cqa.cases.any (fun x => x.res.state = 2)
  let s : State := { s with cqa := { s.cqa with noUnprovenRun := if un then 0 else s.cqa.noUnprovenRun + 1 } }
  if s.frames .CQA_UNPROVEN_DELAY ≤ s.cqa.noUnprovenRun then s.clearAlarm .CQA_UNPROVEN else s

/-! ### The budget (R184, R185) -/

/-- Problems of the ALLOC job the configuration asks for. R184. -/
def State.budgetN (s : State) : Nat :=
  min 128 (1 + ((List.range 127).filter (fun i => s.parB .CQA_ENABLE (i + 1) && s.lossChans (s.caseLoss (i + 1)) ≠ 0)).length)

/-- t_one, ns. R184. -/
def State.tOne (s : State) : Nat := s.budgetN * s.parN .HEN_ALLOC_ITER * 41500 * 100 / 1025

/-- t_two, ns. R184. -/
def State.tTwo (s : State) : Nat := s.budgetN * s.parN .HEN_ALLOC_ITER * 41500 * 100 / 2050

/-! ### The capability envelope (R186, R187) -/

/-- The widest arc outside a channel's groynes: its start and length in degrees; none where a groyne covers the circle. R186. -/
def State.freeArc (s : State) (c : Nat) : Option (Rat × Rat) :=
  let gs := s.groynes c
  let len (a : Rat) : Rat := minQ 360 (gs.map (fun g => mod360 (g.1 - a)))
  let inside (a : Rat) : Bool := gs.any (fun g => decide (0 < mod360 (a - g.1)) && decide (mod360 (a - g.1) < mod360 (g.2.1 - g.1)))
  if gs.any wholeGroyne then none
  else
    (gs.filter (fun g => !inside g.2.1)).foldl (fun m g =>
      let e := (g.2.1, len g.2.1)
      match m with
      | none => some e
      | some b => if b.2 < e.2 then some e else some b) none

/-- A channel of an envelope problem with its thrust held back by its section: an azimuth outside its groynes is posed in the widest arc, of which
at most a half circle is convex (log 65). R161, R186. -/
def State.envChan (s : State) (k : Rat) (c v0 : Nat) : AlcVar :=
  let a := s.ach c
  let base : AlcVar := { ch := c, typ := s.ttype c, v0 := v0, prev := a.t }
  if s.ttype c = 1 then
    match s.groynes c, s.freeArc c with
    | [], _ => { base with lo := 0 - k * s.tMax c, hi := k * s.tMax c, free := true }
    | _, none => base
    | _, some (b, l) =>
      let h := minQ (pi / 2) [rad (l / 2)]
      { base with az := rad (b + l / 2), lo := 0 - k * s.tMax c, hi := k * s.tMax c, sLo := h, sHi := h }
  else { base with lo := if s.ttype c = 3 ∧ 0 < a.t then 0 else 0 - k * s.trev c, hi := k * s.tfwd c }

/-- Bounds of each variable of a channel of an envelope problem. R161. -/
def State.envBounds (s : State) (v : AlcVar) : List (Rat × Rat) :=
  if v.typ = 1 then [(v.lo, v.hi), (v.lo, v.hi)]
  else if v.typ = 2 then [(v.lo, v.hi)]
  else
    let m := if 0 < v.prev then s.par .ALC_RUD_K v.ch * v.hi else 0
    [(v.lo, v.hi), (0 - m, m)]

/-- The square of the largest wind speed of the envelope. R186. -/
def envMax : Rat := 75 * 75

/-- The problem of a direction: the forces of the surviving channels and, last, the square s of the wind speed, whose unit takes w(γ) from the
demand; s alone has a cost (log 65). R186. -/
def State.poseEnv (s : State) (d lost : Nat) : AlcProb :=
  let c := s.hold.core
  let t0 := c.tau.sub c.wffUsed
  let w := s.windForce 1 (rad (10 * (d : Rat)) + (if c.endSel = 2 then pi else 0))
  let cs := s.availList.filter (fun c => !lost.testBit (c - 1))
  let vs := cs.foldl (fun (l : List AlcVar) c =>
    l ++ [s.envChan (s.capScale cs c) c (match l.getLast? with
      | none => 0
      | some v => v.v0 + v.width)]) []
  let bnd := vs.flatMap s.envBounds ++ [(0, envMax)]
  let n := bnd.length
  { vars := vs, n := n, b := vs.flatMap s.varForce ++ [(nth w 0, nth w 1, nth w 2)]
    w := tauOf (fun j => 2 * s.par .ALC_W_DEV / (s.fmax j * s.fmax j)), tau := t0
    h := List.replicate n 0, c := List.replicate (n - 1) 0 ++ [0 - 1 / envMax]
    lo := bnd.map (fun e => e.1), hi := bnd.map (fun e => e.2), pairs := vs.flatMap (s.posePairs (some 0)) }

/-- Envelope problem p of 72: direction p / 2, intact or worst case. R187. -/
def State.envProblem (s : State) (p : Nat) : HenProblem :=
  let q := s.poseEnv (p / 2) (if p % 2 = 0 then 0 else s.cqa.envLost)
  q.hen 0 q.pairs.length (s.parN .HEN_ALLOC_ITER) []

/-- The case of the worst envelope. R186. -/
def State.envPick (s : State) : Nat :=
  let k := s.parN .CQA_ENV_CASE
  if k ≠ 0 ∧ (s.caseSt k).res.state ≤ 2 then k
  else
    let l := ((List.range 127).map (· + 1)).filterMap (fun k =>
      let r := (s.caseSt k).res
      if r.state = 0 then r.margin.map (fun m => (k, m)) else none)
    match l with
    | [] => 0
    | e :: t => (t.foldl (fun m x => if x.2 < m.2 then x else m) e).1

/-- A period starts. R186. -/
def State.envStartPeriod (s : State) : State :=
  let k := s.envPick
  { s with cqa := { s.cqa with
      envFrame := some 0, envStart := s.frame.startT, envSolved := [], envCase := k, envLost := if k = 0 then 0 else (s.caseSt k).res.lostCh } }

/-- The two problems of a frame of a period. R187. -/
def State.envSubmit (s : State) : State :=
  match s.cqa.envFrame with
  | none => s
  | some f =>
    if 36 ≤ f then s
    else
      let s := s.henFirm 1 (.app0Env s.cqa.envStart (2 * f)) [s.envProblem (2 * f)] 0
      if s.cqa.envCase = 0 then s else s.henFirm 1 (.app0Env s.cqa.envStart (2 * f + 1)) [s.envProblem (2 * f + 1)] 0

/-- The result of an envelope problem of the period in progress. R186, R187. -/
def State.takeEnv (s : State) (period p : Nat) (j : HenJob) : State :=
  let r := j.padded.headD {}
  if r.status ≠ 0 ∨ r.flags.testBit 2 ∨ s.cqa.envFrame.isNone ∨ period ≠ s.cqa.envStart then s
  else
    let (x, sl) := alcOut j.n (r.out.getD [])
    let q := nth x (j.n - 1)
    let v := if q ≤ 0 ∨ ¬ s.slackWithin sl (s.par .CQA_FEAS_TOL / 100) then 0 else minQ 75 [Config.sqrt q]
    let d := p / 2
    let s : State := { s with cqa := { s.cqa with envSolved := s.cqa.envSolved ++ [p] } }
    if p % 2 = 0 then
      { s with cqa := { s.cqa with envIntact := s.cqa.envIntact.set d v, envTimeI := s.cqa.envTimeI.set d s.cqa.envStart } }
    else { s with cqa := { s.cqa with envWorst := s.cqa.envWorst.set d v, envTimeW := s.cqa.envTimeW.set d s.cqa.envStart } }

/-- Problems a period poses. -/
def State.envDue (s : State) : List Nat := (List.range 72).filter (fun p => p % 2 = 0 || s.cqa.envCase ≠ 0)

/-- A period's 50th frame. R187. -/
def State.envEnd (s : State) : State :=
  { s with cqa := { s.cqa with envFrame := none, envPartial := s.envDue.any (fun p => !s.cqa.envSolved.contains p) } }

/-! ### What a query returns (R188, R193) -/

/-- CQA_INFO. R191. -/
def CaseSt.info (x : CaseSt) : Nat :=
  let r := x.res
  r.iter % 64 + 256 * b2n r.truncated + 512 * b2n r.pivTiny + 1024 * b2n r.pivNonpos + 2048 * b2n r.ovf + 4096 * b2n r.refBreach +
    8192 * b2n x.inAlarm + 65536 * r.binding

/-- The 160 bytes of CQA_CASE_QUERY. R193. -/
def CaseSt.reply (x : CaseSt) (name : List Byte) : List Byte :=
  let r := x.res
  let azOf (c : Nat) : Option (Nat × Rat × Bool) := r.az.find? (fun e => e.1 = c)
  slice 0 16 name ++ leBytes 2 r.state ++ leBytes 2 r.iter ++ bF (r.margin.getD 0) ++ bF (r.trec.getD 0) ++ leBytes 4 x.info ++
    bF r.slack.x ++ bF r.slack.y ++ bF r.slack.n ++ bF r.power ++ leBytes 4 x.breachTimer ++ leBytes 4 r.lostCh ++ [byte r.lostSect] ++ zeros 3 ++
    leBytes 4 (maskOf 24 (fun i => match azOf (i + 1) with
      | some e => e.2.2
      | none => false)) ++
    thrAll.flatMap (fun c => match azOf c with
      | some e => bF e.2.1
      | none => zeros 4)

/-- A what-if query completed. R188. -/
def State.whatifDone (s : State) (w : WhatIf) (status : Nat) (r : CaseRes) : State :=
  let s : State := { s with cqa := { s.cqa with whatif := s.cqa.whatif.filter (fun x => ¬ (x.session = w.session ∧ x.seq = w.seq)) } }
  s.completeCmd w.session w.seq status (if status = stDone then ({ res := r } : CaseSt).reply [] else [])

/-- A what-if query posed: on the engine, or answered where it takes none. R188. -/
def State.whatifPose (s : State) (w : WhatIf) : State :=
  let (r, eng) := s.sortLoss w.loss
  if ¬ eng then s.whatifDone w stDone r
  else
    let p := s.poseLoss r.lostCh (w.demand.getD s.hold.core.tau)
    let s : State := { s with cqa := { s.cqa with whatif := s.cqa.whatif.map (fun (x : WhatIf) =>
      if x.session = w.session ∧ x.seq = w.seq then { x with prob := some p, res := r } else x) } }
    s.henFirm 1 (.app0Whatif w.session w.seq) [p.hen p.rows.length p.pairs.length (s.parN .HEN_ALLOC_ITER) []] 0

/-- At most four queries accepted before the fence, in journal order. R188. -/
def State.whatifFrame (s : State) : State := ((s.cqa.whatif.filter (fun w => w.prob.isNone && 1 ≤ w.frames)).take 4).foldl State.whatifPose s

/-- The result of a query's job. R188. -/
def State.takeWhatif (s : State) (n q : Nat) (j : HenJob) : State :=
  match s.cqa.whatif.find? (fun w => w.session = n && w.seq = q) with
  | none => s
  | some w =>
    match w.prob with
    | none => s
    | some p => s.whatifDone w stDone (s.judge p w.res (j.padded.headD {}))

/-- The frames of the queries that wait are counted. R188. -/
def State.whatifAge (s : State) : State :=
  { s with cqa := { s.cqa with whatif := s.cqa.whatif.map (fun (x : WhatIf) => { x with frames := x.frames + 1 }) } }

/-- Queries returned when the unit leaves HOLD and STANDBY. R23, R188. -/
def State.whatifAbort (s : State) : State := s.cqa.whatif.foldl (fun s w => s.whatifDone w stAborted {}) s

/-! ### Firmware jobs that have ended -/

/-- The results of firmware jobs taken, in the order they ended; a partition that waits for its jobs starts. R20, R107, R158, R187, R188. -/
def State.henSettle (s : State) : State :=
  let l := s.hen.finished
  State.partGo <| l.foldl (fun s e =>
    let j := e.1
    match j.origin with
    | .app0Mpc =>
      let r := j.padded.headD {}
      if s.hold.mpcJob = some j.id then
        { s with hold := { s.hold with mpcResult := some (r.status, r.flags, ((r.out.getD []).take j.n).map f32) } }
      else s
    | .app0Alloc => if s.alc.job = some j.id then s.takeAlloc j else s
    | .app0Env a p => s.takeEnv a p j
    | .app0Whatif n q => s.takeWhatif n q j
    | _ => s) { s with hen := { s.hen with finished := [] } }

/-! ### Points and commands at the fence (R191, R193) -/

/-- Commands of the case table at a fence. R193. -/
def State.cqaFence (s : State) : State :=
  let s := s.cqa.pendEnable.foldl (fun s e => s.modCase e.1 (fun x => { x with enabledCmd := some e.2 })) s
  { s with cqa := { s.cqa with pendEnable := [] } }

/-- How many cases are in a state. -/
def State.caseCount (s : State) (st : Nat) : Nat := (s.cqa.cases.filter (fun x => x.res.state = st)).length

/-- The case with the least margin among FEASIBLE and BREACH. R191. -/
def State.worstCase (s : State) : Nat :=
  let l := ((List.range 127).map (· + 1)).filterMap (fun k =>
    let r := (s.caseSt k).res
    if r.state ≤ 1 then r.margin.map (fun m => (k, m)) else none)
  match l with
  | [] => 0
  | e :: t => (t.foldl (fun m x => if x.2 < m.2 then x else m) e).1

/-- CQA_FLAGS. -/
def State.cqaFlags (s : State) : Nat :=
  b2n (s.alarmOn .CONSEQUENCE) + 2 * b2n (s.alarmOn .CQA_UNPROVEN) + 4 * b2n s.cqa.envPartial + 8 * b2n s.cqa.tieSpread

/-- The points of consequence analysis, the envelope's apart. R191. -/
def cqaPoints (s : State) : List (Nat × PVal × Half) :=
  let g : Half := qGood
  let w := s.worstCase
  let r := (s.caseSt w).res
  let opt (p : Nat) (v : Option Rat) : Nat × PVal × Half := (p, pvF (v.getD 0), if v.isSome then g else qBad)
  [(1984, pvU s.cqa.nPosed, g), (1985, pvU (s.caseCount 0), g), (1986, pvU (s.caseCount 1), g), (1987, pvU (s.caseCount 2), g), (1988, pvU w, g),
    opt 1989 (if w = 0 then none else r.margin), opt 1990 (if w = 0 then none else r.trec), (1991, pvX s.cqaFlags, g),
    (1992, pvUs s.tTwo, g), (1993, pvUs s.tOne, g), (2632, pvU s.cqa.envCase, g)] ++
  ((List.range 127).zip s.cqa.cases).flatMap (fun e =>
    let b := 2048 + 4 * e.1
    let x := e.2
    [(b, pvE x.res.state, g), opt (b + 1) x.res.margin, opt (b + 2) x.res.trec, (b + 3, pvX x.info, g)])

/-- The envelope's points, each with the start of the period it was solved in. R187, R191. -/
def State.envPublish (s : State) : State :=
  let put (s : State) (b : Nat) (l : List (Rat × Nat)) : State :=
    ((List.range 36).zip l).foldl (fun s e => if e.2.2 = 0 then s else s.devPoint e.2.2 (b + e.1) (pvF e.2.1)) s
  put (put s 2560 (s.cqa.envIntact.zip s.cqa.envTimeI)) 2596 (s.cqa.envWorst.zip s.cqa.envTimeW)

end Sys2Proof.Machine
end

