-- ==== Sys2Proof/Machine/Cqa.lean ====
section
/-!
DEFINITION. Consequence analysis: the alarm delays, the periods of the capability envelope, and the consequence commands (spec/06).
-/
namespace Sys2Proof.Machine

/-! ### Alarms (R181–R183) -/

/-- A case's breach timer has reached CQA_ALARM_DELAY: the case enters alarm. R182. -/
def execCqaAlarmDelayReached (t k : Nat) (s : State) : Res :=
  let s := s.arrive t
  guardUnit (between 1 k 127) k <|
    let x := s.caseSt k
    if x.timerRuns ∧ ¬ x.inAlarm ∧ s.frames .CQA_ALARM_DELAY ≤ x.breachTimer then
      let r := x.res
      let s := (s.modCase k (fun x => { x with inAlarm := true })).raiseAlarm .CQA_CASE_BREACH k
        [toF32 (r.margin.getD 0), toF32 r.slack.x, toF32 r.slack.y, toF32 r.slack.n]
      s.raiseAlarm .CONSEQUENCE
    else s

/-- A case has been FEASIBLE, CURRENT or DISABLED for CQA_CLEAR_TIME: it leaves alarm. R183. -/
def execCqaClearTimeReached (t k : Nat) (s : State) : Res :=
  let s := s.arrive t
  guardUnit (between 1 k 127) k <|
    let x := s.caseSt k
    if x.inAlarm ∧ s.frames .CQA_CLEAR_TIME ≤ x.clearRun then
      let s := ((s.modCase k (fun x => { x with inAlarm := false })).dropAlarm .CQA_CASE_BREACH k).submitRec .CQA_CASE_CLEAR clsCleared [wN k]
      if s.cqa.cases.any (fun x => x.inAlarm) then s else s.clearAlarm .CONSEQUENCE
    else s

/-- A case has been UNPROVEN for CQA_UNPROVEN_DELAY. R181. -/
def execCqaUnprovenDelayReached (t : Nat) (s : State) : Res :=
  let s := s.arrive t
  .next (if s.cqa.cases.any (fun x => x.res.state = 2 && decide (s.frames .CQA_UNPROVEN_DELAY ≤ x.unprovenRun)) then
      s.raiseAlarm .CQA_UNPROVEN
    else s)

/-- A what-if query that has not completed within 50 frames. R188. -/
def execWhatifDeadline (t n q : Nat) (s : State) : Res :=
  let s := s.arrive t
  .next (match s.cqa.whatif.find? (fun w => w.session = n && w.seq = q) with
    | none => s
    | some w => if 50 ≤ w.frames then s.whatifDone w stDeadline {} else s)

/-! ### The capability envelope (R186, R187) -/

/-- A period of the capability envelope starts: none has yet, or the last has had its 50 frames. R186. -/
def execCapabilityEnvelopePeriod (t : Nat) (s : State) : Res :=
  let s := s.arrive t
  let idle : Bool := match s.cqa.envFrame with
    | none => true
    | some f => decide (50 ≤ f)
  .next (if s.parB .CQA_ENV_ON ∧ s.alcPoses ∧ s.frame.running ∧ idle then s.envStartPeriod else s)

/-- The 50th frame of a period. R187. -/
def execCapabilityEnvelopeEnd (t : Nat) (s : State) : Res :=
  let s := s.arrive t
  .next (match s.cqa.envFrame with
    | none => s
    | some f => if 49 ≤ f then s.envEnd else s)

/-! ### Commands (R193) -/

/-- CQA_QUERY. -/
def opCqaQuery : OpDef := {
  code := 0x0600, pair := true, readOnly := true
  run := fun s _ _ _ =>
    let w := s.worstCase
    let r := (s.caseSt w).res
    (s, leBytes 4 s.cqa.nPosed ++ leBytes 4 (s.caseCount 0) ++ leBytes 4 (s.caseCount 1) ++ leBytes 4 (s.caseCount 2) ++ leBytes 4 w ++
      bF (if w = 0 then 0 else r.margin.getD 0) ++ bF (if w = 0 then 0 else r.trec.getD 0) ++ leBytes 4 s.cqaFlags) }

/-- CQA_CASE_QUERY. -/
def opCqaCaseQuery : OpDef := {
  code := 0x0601, pair := true, readOnly := true, len := 4
  chk := fun s _ p => if s.caseConf (fld p 0 1) then stDone else stBadParam
  run := fun s _ _ p =>
    let k := fld p 0 1
    (s, (s.caseSt k).reply ((s.parL .CQA_NAME k).map (fun (q : Rat) => byte (natOf q)))) }

/-- CQA_CASE_ENABLE. -/
def opCqaCaseEnable : OpDef := {
  code := 0x0602, pair := true, role := 2, len := 4
  chk := fun s _ p => if s.caseConf (fld p 0 1) ∧ fld p 1 1 ≤ 1 then stDone else stBadParam
  run := fun s _ _ p => ({ s with cqa := { s.cqa with pendEnable := s.cqa.pendEnable ++ [(fld p 0 1, decide (fld p 1 1 = 1))] } }, []) }

/-- The loss set of a query. -/
def whatifLoss (p : List Byte) : LossSet := { thr := fld p 0 4 % 2 ^ 24, sect := fld p 4 1 % 16, room := fld p 5 1 % 16, refs := fld p 8 4 % 2 ^ 28 }

/-- CQA_WHATIF. -/
def opCqaWhatif : OpDef := {
  code := 0x0603, pair := true, len := 28
  chk := fun s _ p =>
    let useD : Bool := (fld p 24 1).testBit 0
    let bad : Bool := useD && !([12, 16, 20].all (fun (i : Nat) => (fldF? p i).isSome))
    if ¬ (whatifLoss p).any ∨ bad then stBadParam
    else if s.sys.mode = .hold ∨ s.sys.mode = .standby then stAccepted else stNotInMode
  run := fun s n q p =>
    let d : Option Tau := if (fld p 24 1).testBit 0 then some { x := fldF p 12, y := fldF p 16, n := fldF p 20 } else none
    ({ s with cqa := { s.cqa with whatif := s.cqa.whatif ++ [{ session := n, seq := q, loss := whatifLoss p, demand := d }] } }, []) }

end Sys2Proof.Machine
end

