-- ==== Sys2Proof/Machine/DmaOps.lean ====
section
/-!
DEFINITION. The DMA engine's operations: descriptors taken and checked, data moved, ends with their status, and aborts
(spec/17).
-/
namespace Sys2Proof.Machine

/-- DMA channel n, 0 to 31. -/
def State.dch (s : State) (n : Nat) : DmaChan := s.dma.chans.getD n {}

/-- A DMA channel changed. -/
def State.modDch (s : State) (n : Nat) (f : DmaChan → DmaChan) : State :=
  { s with dma := { s.dma with chans := s.dma.chans.modify n f } }

/-- Whether a channel is the partition's. R500. -/
def dmaPart (n : Nat) : Bool := 24 ≤ n

/-! ### Reach (R501, R502) -/

/-- First address of the PNT data. -/
def pntLo : Nat := 0x50000000
/-- Last address of the PNT data. -/
def pntHi : Nat := 0x503FFFFF

/-- The solver SRAM a range lies in, 0 or 1. -/
def sramOf (a n : Nat) : Option Nat :=
  if inRange 0x60000000 0x600FFFFF a n then some 0 else if inRange 0x60100000 0x601FFFFF a n then some 1 else none

/-- Whether a range has a byte of cluster i's SRAM. R501. -/
def sramHit (i : Nat) (r : Nat × Nat) : Bool := overlaps r.1 r.2 (0x60000000 + i * 2 ^ 20) (2 ^ 20)

/-- Whether a channel reaches a range for a read or a write. R501. -/
def State.dmaReach (s : State) (n a len : Nat) (write : Bool) : Bool :=
  if dmaPart n then inRange partLo partHi a len || (!write && inRange pntLo pntHi a len)
  else
    inRange dramLo sharedHi a len || (!write && inRange pntLo pntHi a len) ||
      (inRange 0x60000000 0x601FFFFF a len && [0, 1].all (fun i => !sramHit i (a, len) || (s.cl i).inService))

/-- A byte at an address DMA reaches. -/
def State.dmaByte (s : State) (a : Nat) : Byte :=
  if pntLo ≤ a ∧ a ≤ pntHi then (s.point ((a - pntLo) / 32)).bytes.getD ((a - pntLo) % 32) 0
  else match sramOf a 1 with
    | some 0 => Memory.get s.dma.sram0 a
    | some _ => Memory.get s.dma.sram1 a
    | none => Memory.get s.dram.cells a

/-- A byte written at an address DMA reaches. -/
def State.dmaSet (s : State) (a : Nat) (v : Byte) : State :=
  match sramOf a 1 with
  | some 0 => { s with dma := { s.dma with sram0 := Memory.set s.dma.sram0 a v } }
  | some _ => { s with dma := { s.dma with sram1 := Memory.set s.dma.sram1 a v } }
  | none => { s with dram := { s.dram with cells := Memory.set s.dram.cells a v } }

/-! ### Descriptors (R503, R504, R508) -/

/-- A descriptor read at an address. -/
def State.dmaDesc (s : State) (a : Nat) : DmaDesc :=
  let d := Memory.read s.dram.cells a 64
  { addr := a, src := fld d 0 8, dst := fld d 8 8, len := fld d 16 4, ctrl := wN (fld d 20 4), next := fld d 24 8, tag := wN (fld d 32 4) }

/-- SRC_CIRC. -/
def DmaDesc.srcCirc (d : DmaDesc) : Bool := d.ctrl.getLsbD 0
/-- DST_CIRC. -/
def DmaDesc.dstCirc (d : DmaDesc) : Bool := d.ctrl.getLsbD 1
/-- A circular side exists. -/
def DmaDesc.circ (d : DmaDesc) : Bool := d.srcCirc || d.dstCirc
/-- CIRC_LOG2. -/
def DmaDesc.log2 (d : DmaDesc) : Nat := d.ctrl.toNat / 4 % 32
/-- The size of the circular buffer. -/
def DmaDesc.size (d : DmaDesc) : Nat := 2 ^ d.log2
/-- TRIG. -/
def DmaDesc.trig (d : DmaDesc) : Nat := d.ctrl.toNat / 1024 % 4
/-- The address of the circular side. -/
def DmaDesc.circAddr (d : DmaDesc) : Nat := if d.srcCirc then d.src else d.dst
/-- The base of the circular buffer. R508. -/
def DmaDesc.base (d : DmaDesc) : Nat := d.circAddr / d.size * d.size

/-- The range of one side: its whole buffer where a circular side wraps. -/
def DmaDesc.span (d : DmaDesc) (src : Bool) : Nat × Nat :=
  let a := if src then d.src else d.dst
  let c := if src then d.srcCirc else d.dstCirc
  if c then
    if d.startPos + d.len ≤ d.size then (d.base + d.startPos, d.len) else (d.base, d.size)
  else (a, d.len)

/-- Whether a range of PNT data cuts a point. R502. -/
def pntCut (r : Nat × Nat) : Bool := overlaps r.1 r.2 pntLo (pntHi + 1 - pntLo) && (r.1 % 32 ≠ 0 || r.2 % 32 ≠ 0)

/-- The status of the checks at the take, 0 where all pass. R506, R509. -/
def State.dmaCheck (s : State) (n : Nat) (d : DmaDesc) (raw : List Byte) : Nat :=
  let sp := d.span true
  let dp := d.span false
  if fld raw 48 16 ≠ 0 ∨ d.ctrl.toNat / 4096 ≠ 0 ∨ d.len < 8 ∨ 0xFFFFFFF8 < d.len ∨ (d.circ ∧ ¬ between 6 d.log2 24) ∨ (d.srcCirc ∧ d.dstCirc) ∨
      2 ^ 40 ≤ d.src ∨ 2 ^ 40 ≤ d.dst ∨ 2 ^ 40 ≤ d.next then 4
  else if d.src % 8 ≠ 0 ∨ d.dst % 8 ≠ 0 ∨ d.len % 8 ≠ 0 ∨ pntCut sp ∨ pntCut dp then 2
  else if ¬ s.dmaReach n sp.1 sp.2 false ∨ ¬ s.dmaReach n dp.1 dp.2 true then 5
  else if d.circ ∧ (if d.srcCirc then overlaps d.base d.size d.dst d.len else overlaps d.base d.size d.src d.len) then 3
  else 0

/-- A descriptor ends with a status and a number of bytes moved: into the descriptor, then the registers, then the interrupt. R511. -/
def State.dmaEnd (s : State) (n : Nat) (d : DmaDesc) (status moved : Nat) (trusted : Bool) : State :=
  let rem := d.len - moved
  let cells := Memory.write s.dram.cells (d.addr + 36) (leBytes 4 status ++ leBytes 4 rem ++ leBytes 4 (s.sel % 2 ^ 32))
  let s : State := if trusted then { s with dram := { s.dram with cells := cells } } else s
  let half := d.size / 2
  let tot := d.startPos + moved
  let hf : Bool := d.circ && (decide (d.startPos < half ∧ half ≤ tot) || decide (d.size + half ≤ tot))
  let ff : Bool := d.circ && decide (d.size ≤ tot)
  let ef : Bool := status = 0
  let pos := if d.circ then tot % d.size else 0
  let s := s.modDch n (fun c => { c with
    state := 0, last := status, endF := c.endF || ef, half := c.half || hf, full := c.full || ff, err := c.err || !ef
    remain := wN rem, cur := d.addr, circPos := if d.circ then pos else c.circPos, tag := d.tag, count := if ef then c.count + 1 else c.count
    prevCirc := if d.circ then some (d.srcCirc, d.base, d.size, pos) else none, desc := none, goAt := none })
  let asks := (d.ctrl.getLsbD 7 && ef) || (d.ctrl.getLsbD 8 && hf) || (d.ctrl.getLsbD 9 && ff)
  if (s.dch n).ie && asks then s.emit (.irq "DMA" n) else s

/-- A descriptor taken: checked, then waiting for its trigger or moving. R506, R507. -/
def State.dmaTake (s : State) (n a : Nat) : State :=
  let s := s.modDch n (fun c => { c with cur := a })
  if a % 64 ≠ 0 then s.modDch n (fun c => { c with state := 0, last := 2, err := true, desc := none })
  else if ¬ (if dmaPart n then inRange partLo partHi a 64 else inRange dramLo sharedHi a 64) then
    let s := if dmaPart n then s.event .PARTITION_VIOLATION [wN a, wN (a / 2 ^ 32)] else s
    s.modDch n (fun c => { c with state := 0, last := 5, err := true, desc := none })
  else
    let d := s.dmaDesc a
    let c := s.dch n
    let pos := if ¬ d.circ then 0
      else match c.prevCirc with
        | some (sd, b, z, p) => if sd = d.srcCirc ∧ b = d.base ∧ z = d.size then p else d.circAddr % d.size
        | none => d.circAddr % d.size
    let d := { d with startPos := pos }
    let st := s.dmaCheck n d (Memory.read s.dram.cells a 64)
    if st = 0 then
      s.modDch n (fun c => { c with desc := some d, state := if d.trig = 0 then 2 else 1, remain := wN d.len, circPos := if d.circ then pos else c.circPos })
    else
      let a := if s.dmaReach n (d.span true).1 (d.span true).2 false then d.dst else d.src
      let s := if st = 5 ∧ dmaPart n then s.event .PARTITION_VIOLATION [wN a, wN (a / 2 ^ 32)] else s
      s.dmaEnd n d st 0 true

/-- The address of byte i of one side. R508. -/
def DmaDesc.addrAt (d : DmaDesc) (src : Bool) (i : Nat) : Nat :=
  let c := if src then d.srcCirc else d.dstCirc
  if c then d.base + (d.startPos + i) % d.size else (if src then d.src else d.dst) + i

/-- Whether a copy runs from its end: overlapping ranges with the destination above the source. R509. -/
def DmaDesc.backward (d : DmaDesc) : Bool := !d.circ && d.src < d.dst && d.dst < d.src + d.len

/-- The bytes from `a` on of a descriptor copied: the destination holds what the source held before. R509. -/
def State.dmaCopy (s : State) (d : DmaDesc) (a n : Nat) : State :=
  let data := (List.range n).map (fun i => s.dmaByte (d.addrAt true (a + i)))
  ((List.range n).zip data).foldl (fun s e => s.dmaSet (d.addrAt false (a + e.1)) e.2) s

/-- `m` bytes of a descriptor moved. -/
def State.dmaMove (s : State) (d : DmaDesc) (m : Nat) : State :=
  if d.backward then s.dmaCopy d (d.len - m) m else s.dmaCopy d 0 m

/-- Bursts a descriptor takes, each ending at a 64-byte boundary of its destination. R511. -/
def DmaDesc.bursts (d : DmaDesc) : Nat := (d.addrAt false 0 % 64 + d.len + 63) / 64

/-- Bytes moved after `k` bursts. -/
def DmaDesc.afterBursts (d : DmaDesc) (k : Nat) : Nat := min d.len (64 * k - d.addrAt false 0 % 64)

/-- The next descriptor of a chain. R503, R506. -/
def State.dmaNext (s : State) (n : Nat) (d : DmaDesc) : State := if d.next = 0 then s else s.dmaTake n d.next

/-- A START of the cycle in which EN is cleared is refused: its descriptor is not taken. R515. -/
def State.dmaUnstart (s : State) (n : Nat) : State :=
  match (s.dch n).startAt with
  | none => s
  | some (a, cur, rem, pos) =>
    if a = s.now ∧ (s.dch n).desc.isSome then
      s.modDch n (fun c => { c with desc := none, state := 0, refused := true, cur := cur, remain := rem, circPos := pos, startAt := none })
    else s

/-- EN cleared: the running descriptor stops after a burst that the spec does not place (log 52); one that waits, or whose trigger fell into the
same cycle, has moved nothing. R513, R515. -/
def State.dmaDisable (s : State) (n why : Nat) : State :=
  let s := s.dmaUnstart n
  let c := s.dch n
  let s := s.modDch n (fun c => { c with en := false })
  match c.desc with
  | none => s.disableRec .DIS_DMA n why 0 0 0 0
  | some d =>
    if c.state = 1 ∨ c.goAt = some s.now then (s.dmaEnd n d 1 0 true).disableRec .DIS_DMA n why 0 1 d.tag.toNat d.tag.toNat
    else
      let (w, s) := s.freeW
      let m := d.afterBursts (1 + w.toNat % d.bursts)
      let s := s.dmaMove d m
      if m = d.len then (s.dmaEnd n d 0 m true).disableRec .DIS_DMA n why 1 0 0 0
      else (s.dmaEnd n d 1 m true).disableRec .DIS_DMA n why 0 1 d.tag.toNat d.tag.toNat

/-- A descriptor ends BUSERR after some of its bursts; one that waits has moved nothing. R514. -/
def State.dmaBusErr (s : State) (n : Nat) (d : DmaDesc) : State :=
  if (s.dch n).state = 1 then s.dmaEnd n d 6 0 true
  else
  let (w, s) := s.freeW
  let m := d.afterBursts (w.toNat % d.bursts)
  (s.dmaMove d m).dmaEnd n d 6 m true

/-- A cluster leaves service: descriptors that reach its SRAM end BUSERR. R514. -/
def State.dmaClusterLost (s : State) (i : Nat) : State :=
  (List.range 32).foldl (fun s n =>
    match (s.dch n).desc with
    | none => s
    | some d =>
      if sramHit i (d.span true) || sramHit i (d.span false) then s.dmaBusErr n d else s) s

/-- Stopping the partition clears EN on its channels. R513. -/
def State.dmaPartStop (s : State) : State :=
  [24, 25, 26, 27, 28, 29, 30, 31].foldl (fun s n => if (s.dch n).en then s.dmaDisable n 1 else s) s

/-- A reset of D1 ends every transfer; KEEP records how many channels ran. R514. -/
def State.dmaReset (s : State) : State :=
  let k := (s.dma.chans.filter (fun c => c.desc.isSome)).length
  let s := if k = 0 then s else s.direct .DIS_DMA clsDisable [wN 32, wN 0, wN 0, wN k]
  { s with dma := { s.dma with chans := List.replicate 32 {} } }

end Sys2Proof.Machine
end

