-- ==== Sys2Proof/Machine/Dma.lean ====
section
/-!
DEFINITION. The DMA engine's events (spec/17).
-/
namespace Sys2Proof.Machine

/-- A write of CH_CTRL.START. R505. -/
def State.dmaStart (s : State) (n : Nat) : State :=
  let c := s.dch n
  if c.desc.isSome ∨ ¬ c.en then s.modDch n (fun c => { c with refused := true })
  else (s.modDch n (fun c => { c with prevCirc := none, startAt := some (s.now, c.cur, c.remain, c.circPos) })).dmaTake n (c.descHi.toNat % 256 * 2 ^ 32 + c.descLo.toNat)

/-- A write of CH_CTRL.START. R505, R506. -/
def execDmaStart (t n : Nat) (s : State) : Res :=
  let s := s.arrive t
  guardUnit (n < 32) n <| if s.dom 1 then s.dmaStart n else s

/-- CH_CTRL.EN cleared. R513. -/
def execDmaEnClear (t n : Nat) (s : State) : Res :=
  let s := s.arrive t
  guardUnit (n < 32) n <| if s.dom 1 ∧ (s.dch n).en then s.dmaDisable n 0 else s

/-- A trigger: 1 frame start, 2 TPO3, 3 TPO4. Waiting descriptors start; for one that still moves it is missed. R507. -/
def execDmaTrigger (t kind : Nat) (s : State) : Res :=
  let s := s.arrive t
  guardUnit (between 1 kind 3) kind <|
    (List.range 32).foldl (fun s n =>
      match (s.dch n).desc with
      | none => s
      | some d =>
        if d.trig ≠ kind then s
        else if (s.dch n).state = 1 then s.modDch n (fun c => { c with state := 2, goAt := some s.now })
        else s.modDch n (fun c => { c with trigMiss := true })) s

/-- The running descriptor of a channel ends: its data moved, its status written and the next taken; or BUSERR. R511, R514. -/
def execDmaDescriptorEnd (t n : Nat) (busErr : Bool) (s : State) : Res :=
  let s := s.arrive t
  guardUnit (n < 32) n <|
    let c := s.dch n
    match c.desc with
    | none => s
    | some d =>
      if c.state ≠ 2 then s
      else if busErr then s.dmaBusErr n d
      else ((s.dmaMove d d.len).dmaEnd n d 0 d.len true).dmaNext n d

end Sys2Proof.Machine
end

