-- ==== Sys2Proof/Machine/Est.lean ====
section
/-!
DEFINITION. References and estimator: the timers of the slots and of dead reckoning, and the reference commands (spec/03).
-/
namespace Sys2Proof.Machine

/-- No usable sample of a slot for REF_TIMEOUT. R61. -/
def execRefTimeoutExpiry (t slot : Nat) (s : State) : Res :=
  let s := s.arrive t
  guardUnit (decide (slot < 28)) slot (s.refTimeout slot)

/-- A slot has passed for REF_TRIAL_TIME. R73. -/
def execRefTrialComplete (t slot : Nat) (s : State) : Res :=
  let s := s.arrive t
  guardUnit (decide (slot < 28)) slot (s.trialDone slot)

/-- Dead reckoning has lasted its limit. R87. -/
def execEstDrLimitExpiry (t : Nat) (hdg : Bool) (s : State) : Res :=
  let s := s.arrive t
  let c := s.est.core
  .next (if hdg then
      (if c.drHdg ∧ ¬ c.hdgLost ∧ s.past c.lastHdgUpd (s.parNs .EST_HDG_DR_LIMIT) then
        (s.modCore (fun c => { c with hdgLost := true })).raiseAlarm .HDG_LOST
      else s)
    else if c.drPos ∧ ¬ c.posLost ∧ s.past c.lastPosUpd (s.parNs .EST_DR_LIMIT) then
      (s.modCore (fun c => { c with posLost := true })).raiseAlarm .POS_LOST
    else s)

/-- The standby's estimate has differed for 50 frames. R85. -/
def execEstPeerDiffCount (t : Nat) (s : State) : Res :=
  let s := s.arrive t
  .next (if 50 ≤ s.est.peerDiffRun then s.raiseAlarm .EST_PEER_DIFF else s)

/-! ### Commands (R92) -/

/-- Whether byte 0 names a configured slot. -/
def State.isSlot (s : State) (p : List Byte) : Bool := decide (fld p 0 1 < 28) && (s.slotSrc (fld p 0 1)).isSome

/-- REF_SELECT. R67. -/
def opRefSelect : OpDef := {
  code := 0x0400, pair := true, len := 4
  chk := fun s _ p => if s.isSlot p ∧ fld p 1 1 ≤ 1 then stDone else stBadParam
  run := fun s _ _ p =>
    ({ s with est := { s.est with pendSelect := s.est.pendSelect ++ [(fld p 0 1, decide (fld p 1 1 = 1))] } }, []) }

/-- REF_QUERY. -/
def opRefQuery : OpDef := {
  code := 0x0401, pair := true, readOnly := true, len := 4
  chk := fun s _ p => if s.isSlot p then stDone else stBadParam
  run := fun s _ _ p =>
    let z := s.slot (fld p 0 1)
    (s, leBytes 2 z.state.code ++ leBytes 2 z.reason ++ bF z.share ++ bF (z.nis.getD 0) ++
      leBytes 4 (z.rejections.filter (fun a => s.now < a + 600000000000)).length ++ leBytes 8 z.lastNewAt) }

/-- REF_RETRY. R74. -/
def opRefRetry : OpDef := {
  code := 0x0402, pair := true, role := 2, len := 4
  chk := fun s _ p => if s.isSlot p then stDone else stBadParam
  run := fun s _ _ p => ({ s with est := { s.est with pendRetry := s.est.pendRetry ++ [fld p 0 1] } }, []) }

/-- EST_REINIT. R84. -/
def opEstReinit : OpDef := {
  code := 0x0403, pair := true, role := 2
  chk := fun s _ _ => if s.sys.mode = .hold ∧ s.hold.core.func ≠ 0 then stNotInMode else stDone
  run := fun s _ _ _ => ({ s with est := { s.est with pendReinit := true } }, []) }

end Sys2Proof.Machine
end

