-- ==== Sys2Proof/Machine/Fio.lean ====
section
/-!
DEFINITION. Field inputs and outputs: the events at their pins and supplies, and the field I/O commands (spec/15).
-/
namespace Sys2Proof.Machine

/-- Whether c names a field channel. -/
def isFch (c : Nat) : Bool := between 1 c 96

/-- Whether g names a field group. -/
def isFgr (g : Nat) : Bool := between 1 g 8

/-- The instant a level that passes now is said to have begun, in steps of 1 µs of the selected clock. R456. -/
def State.fioStamp (s : State) (began : Nat) : Nat := s.selAt (s.rawAt began) / 1000 * 1000

/-- An input's pin at a voltage and a current since `began`: the level they decide passes once it has held for the filter time, and is written
as a new sample. In a group that has left MISSING the first level to pass is written whatever it is, with that instant. R455, R456, R463. -/
def State.fioInput (s : State) (c began : Nat) (volts mA : Rat) : State :=
  let g := groupOf c
  let level := inputLevel (s.fmode c) (s.fch c).raw volts mA
  let s := s.modFch c (fun x => { x with volts := volts, current := pin10uA mA, raw := level })
  let x := s.fch c
  let from_ := if x.pendingLevel then (s.fgr g).leftMissing else began
  if s.fstate g = 2 ∨ (x.level = level ∧ ¬ x.pendingLevel) ∨ ¬ s.past (max began from_) (s.parMs .FIO_FILTER c) then s
  else
    let s := s.modFch c (fun x => { x with level := level, edge := true, pendingLevel := false })
    if x.wireBreak ∧ ¬ x.pendingLevel then s else s.fioSample c (s.fioStamp from_) (level && !x.wireBreak)

/-- An input level passes its filter. R455, R456. -/
def execFioInputEdge (t c began : Nat) (s : State) (volts : Rat := 0) (mA : Rat := 0) : Res :=
  let s := s.arrive t
  guardUnit (isFch c) c (if s.dom 11 ∧ s.fin c then (s.fioInput c began volts mA).fioFollow else s)

/-- The current of an IN_WB input falls below 0.35 mA. R457. -/
def execFioWireBreak (t c : Nat) (s : State) (mA : Rat := 0) : Res :=
  let s := s.arrive t
  guardUnit (isFch c) c <|
    if ¬ s.dom 11 ∨ s.fmode c ≠ 3 then s
    else
      let s := s.modFch c (fun x => { x with current := pin10uA mA })
      if 7 / 20 ≤ mA ∨ 2 ≤ s.fstate (groupOf c) ∨ (s.fch c).wireBreak then s
      else (((s.modFch c (fun x => { x with wireBreak := true })).fioSample c s.sel false).raiseAlarm .FIO_WIRE_BREAK c).fioFollow

/-- The current has stayed at or above 0.45 mA since an instant, for 100 ms. R457. -/
def execFioWireBreakClear (t c : Nat) (s : State) (since : Nat := 0) (mA : Rat := 0) : Res :=
  let s := s.arrive t
  guardUnit (isFch c) c <|
    if ¬ s.dom 11 ∨ s.fmode c ≠ 3 then s
    else
      let s := s.modFch c (fun x => { x with current := pin10uA mA })
      if mA < 9 / 20 ∨ ¬ s.past since 100000000 ∨ 2 ≤ s.fstate (groupOf c) ∨ ¬ (s.fch c).wireBreak then s
      else
        (((s.modFch c (fun x => { x with wireBreak := false })).fioSample c s.sel (s.fch c).level).clearAlarm .FIO_WIRE_BREAK c).fioFollow

/-! ### The 100 µs output sample (R460, R461) -/

/-- The readback of a sample: high at or above 8 V, low at or below 4 V. R460. -/
def readBack (was : Bool) (volts : Rat) : Bool := if 8 ≤ volts then true else if volts ≤ 4 then false else was

/-- A change of readback is a new sample of the value point; with the supply MISSING the point keeps its value and time. R461, R463. -/
def State.fioReadback (s : State) (c : Nat) (volts mA : Rat) : State :=
  let was := (s.fch c).rb
  let rb := readBack was volts
  let s := s.modFch c (fun x => { x with volts := volts, rb := rb, current := natOf mA })
  if rb = was ∨ s.fstate (groupOf c) = 2 then s else s.fioSample c s.sel rb

/-- A thermal shutdown: the output waits 100 ms for its retry, or latches OVERLOAD. R460. -/
def State.fioShutdown (s : State) (c : Nat) : State :=
  let x := s.fch c
  let k := if s.now < x.lastShutdown + 1000000000 then x.shutdowns + 1 else 1
  let above := s.parN .FIO_RETRY_MAX ≤ k
  let s := s.modFch c (fun x => { x with
    shutdowns := k, lastShutdown := s.now, overload := x.overload || above
    retryAt := if above then none else some (s.now + 100000000) })
  let s := s.modFgr (groupOf c) (fun g => { g with shutdowns := g.shutdowns + 1 })
  (if above then s.raiseAlarm .FIO_OVERLOAD c else s).fioFollow1 c

/-- OVERCURRENT: the limiter acts at 1.2 A; with the limiter acting, a pin without voltage and current is shut down. R460. -/
def State.fioOvercurrent (s : State) (c : Nat) (volts mA : Rat) : State :=
  let x := s.fch c
  if ¬ x.on then s
  else if 1200 ≤ mA then s.modFch c (fun x => { x with overcurrent := true })
  else if x.overcurrent ∧ volts ≤ 4 ∧ mA < 5 then s.fioShutdown c
  else if x.overcurrent ∧ 8 ≤ volts then s.modFch c (fun x => { x with overcurrent := false })
  else s

/-- The alarm of BACKFED follows the flag, and the value point is written with its quality, but for a supply that is MISSING. R460, R463. -/
def State.backfedSample (s : State) (c : Nat) (v : Bool) (e : EvCode) : State :=
  let s := s.alarmIf (s.fch c).backfed e c
  if s.fstate (groupOf c) = 2 then s else s.fioSample c s.sel v

/-- BACKFED: readback high for 2 ms after the switch is off; clears after 100 ms low. R460, R465. -/
def State.fioBackfed (s : State) (c : Nat) : State :=
  let x := s.fch c
  let high : Bool := !x.on && x.rb
  let s := s.modFch c (fun x => { x with
    backSince := s.since high x.backSince, backLowSince := s.since (!x.rb) x.backLowSince })
  let x := s.fch c
  if ¬ x.backfed ∧ s.held x.backSince 2000000 then
    (s.modFch c (fun x => { x with backfed := true })).backfedSample c true .FIO_BACKFED
  else if x.backfed ∧ (s.held x.backLowSince 100000000 ∨ x.on) then
    (s.modFch c (fun x => { x with backfed := false })).backfedSample c x.rb .FIO_BACKFED
  else s

/-- STUCK_OFF: readback low for 2 ms while on, with no OVERCURRENT. R460. -/
def State.fioStuck (s : State) (c : Nat) : State :=
  let x := s.fch c
  let s := s.modFch c (fun x => { x with lowSince := s.since (x.on && !x.rb && !x.overcurrent) x.lowSince })
  if s.held (s.fch c).lowSince 2000000 ∧ ¬ x.stuckOff then
    ((s.modFch c (fun x => { x with stuckOff := true })).fioFollow1 c).raiseAlarm .FIO_OVERLOAD c
  else s

/-- OPEN_LOAD: less than 5 mA for 100 ms while on; clears after 100 ms above 10 mA. R460. -/
def State.fioOpen (s : State) (c : Nat) (mA : Rat) : State :=
  let s := s.modFch c (fun x => { x with
    openSince := s.since (x.on && decide (mA < 5)) x.openSince, openOkSince := s.since (decide (10 < mA)) x.openOkSince })
  let x := s.fch c
  if s.parB .FIO_OPEN_DET c ∧ ¬ x.openLoad ∧ s.held x.openSince 100000000 then
    (s.modFch c (fun x => { x with openLoad := true })).raiseAlarm .FIO_OPEN_LOAD c
  else if s.alarmOn .FIO_OPEN_LOAD c ∧ s.held x.openOkSince 100000000 then
    (s.modFch c (fun x => { x with openLoad := false })).clearAlarm .FIO_OPEN_LOAD c
  else s

/-- The sum of a group's output currents, and since when it exceeds 4 A or does not. R460, R469. -/
def State.fioGroupSum (s : State) (g : Nat) : State :=
  let sum := sumN ((groupChans g).map (fun c => if s.fout c then (s.fch c).current else 0))
  let s := s.modFgr g (fun x => { x with
    current := sum, overSince := s.since (decide (4000 < sum)) x.overSince, overOkSince := s.since (decide (sum ≤ 4000)) x.overOkSince
    overload := x.overload && decide (4000 < sum) })
  if s.held (s.fgr g).overOkSince 1000000000 then s.clearAlarm .FIO_GROUP_OVERLOAD g else s

/-- One 100 µs sample of an output's pin. R460, R461. -/
def execFioOutputSample (t c : Nat) (volts mA : Rat) (s : State) : Res :=
  let s := s.arrive t
  guardUnit (isFch c) c <|
    if ¬ s.dom 11 ∨ ¬ s.fout c then s
    else
      let s := (s.fioReadback c volts mA).fioOvercurrent c volts mA
      let s := s.fioBackfed c
      let s := if s.fsupplied (groupOf c) then s.fioStuck c else s
      ((s.fioOpen c mA).fioGroupSum (groupOf c)).fioFollow

/-- 100 ms after a shutdown the output retries. R460. -/
def execFioOvercurrentRetry (t c : Nat) (s : State) : Res :=
  let s := s.arrive t
  guardUnit (isFch c) c <|
    match (s.fch c).retryAt with
    | none => s
    | some a =>
      if s.now < a then s else (s.modFch c (fun x => { x with retryAt := none, overcurrent := false })).fioFollow1 c

/-- The output of a group switched on most recently, the highest channel among equals. -/
def State.fioNewest (s : State) (g : Nat) : Option Nat :=
  ((groupChans g).filter (fun c => (s.fch c).on)).foldl (fun m c => match m with
    | none => some c
    | some d => if (s.fch d).onAt ≤ (s.fch c).onAt then some c else some d) none

/-- A group's current has exceeded 4 A for 10 ms: its newest output goes off, OVERLOAD latched. R460. -/
def execFioGroupOverload (t g : Nat) (s : State) : Res :=
  let s := s.arrive t
  guardUnit (isFgr g) g <|
    if ¬ s.held (s.fgr g).overSince 10000000 then s
    else
      let s := (s.modFgr g (fun x => { x with overload := true, overSince := some s.now })).raiseAlarm .FIO_GROUP_OVERLOAD g
      match s.fioNewest g with
      | none => s
      | some c =>
        (((s.modFch c (fun x => { x with overload := true })).fioFollow1 c).modFch c (fun x => { x with current := 0 })).raiseAlarm
          .FIO_OVERLOAD c

/-- A group's supply decides a state: entered after 1 ms below a limit, left after 100 ms at or above one. R462, R463. -/
def State.fioSupply (s : State) (g since : Nat) (volt : Rat) : State :=
  let below (v : Rat) : Bool := decide (volt < v) && s.past since 1000000
  let above (v : Rat) : Bool := decide (v ≤ volt) && s.past since 100000000
  match s.fstate g with
  | 0 =>
    if below 12 then s.fioMissing g
    else if below 18 then ((s.modFgr g (fun x => { x with state := 1 })).raiseAlarm .FIO_SUPPLY_LOW g).fioRequal g
    else s
  | 1 =>
    if below 12 then s.fioMissing g
    else if above (37 / 2) then ((s.modFgr g (fun x => { x with state := 0 })).clearAlarm .FIO_SUPPLY_LOW g).fioRequal g
    else s
  | 2 => if above (25 / 2) then s.fioLeaveMissing g volt else s
  | 3 =>
    if below 12 then s.fioMissing g
    else if above (37 / 2) then (s.clearAlarm .FIO_SUPPLY_LOW g).fioRequal g
    else s
  | _ => s

/-- A group's supply has stood at `volt` since an instant: it is measured, and it may enter or leave a state. R454, R462. -/
def execFioSupplyStateChange (t g since : Nat) (s : State) (volt : Rat := 24) : Res :=
  let s := s.arrive t
  guardUnit (isFgr g) g <|
    let s := s.modFgr g (fun x => { x with volt := natOf (volt * 100) })
    if s.dom 11 then (s.fioSupply g since volt).fioFollow else s

/-- The next output of a restore switches on. R464. -/
def execFioRestoreSwitch (t g : Nat) (s : State) : Res :=
  let s := s.arrive t
  guardUnit (isFgr g) g <| if s.now < (s.fgr g).restoreAt ∨ ¬ s.fsupplied g then s else s.fioRestoreNext g

/-- A pulse's duration ends. R470, R24. -/
def execFioPulseEnd (t c : Nat) (s : State) : Res :=
  let s := s.arrive t
  guardUnit (isFch c) c <|
    match (s.fch c).pulse with
    | none => s
    | some x => if s.now < x.stop then s else s.fioPulseOver c stDone

/-! ### Commands (R470) -/

/-- Whether a channel is an OUT channel with source command. -/
def State.fcmdOut (s : State) (c : Nat) : Bool := s.fout c && s.parN .FIO_OUT_SRC c = 0

/-- FIO_QUERY. -/
def opFioQuery : OpDef := {
  code := 0x0820, pair := true, readOnly := true, len := 4
  chk := fun _ _ p => if isFch (fld p 0 1) then stDone else stBadParam
  run := fun s _ _ p =>
    let c := fld p 0 1
    (s, leBytes 4 (s.fioStat c) ++ leBytes 4 (s.fioGstat (groupOf c)) ++ leBytes 8 (s.point (fioPoint c)).ts) }

/-- The states FIO_SET commands: a running pulse of a named channel completes ABORTED. R465. -/
def State.fioSet (s : State) (p : List Byte) : State :=
  let mask := fld p 0 12
  let st := fld p 12 12
  fioAll.foldl (fun s c =>
    if mask.testBit (c - 1) then
      ((s.fioPulseAbort c 5).modFch c (fun x => { x with cmd := st.testBit (c - 1) })).fioFollow1 c
    else s) s

/-- FIO_SET. -/
def opFioSet : OpDef := {
  code := 0x0821, pair := true, len := 24
  chk := fun s _ p =>
    if fioAll.all (fun c => !(fld p 0 12).testBit (c - 1) || s.fcmdOut c) then stDone else stBadParam
  run := fun s _ _ p => (s.fioSet p, []) }

/-- A pulse starts. R470. -/
def State.fioPulse (s : State) (n q : Nat) (p : List Byte) : State :=
  let c := fld p 0 1
  (s.modFch c (fun x => { x with
    cmd := true
    pulse := some { session := n, seq := q, start := s.now, stop := s.now + fld p 4 4 * 1000000 } })).fioFollow1 c

/-- FIO_PULSE. -/
def opFioPulse : OpDef := {
  code := 0x0822, pair := true, len := 8
  chk := fun s _ p =>
    let c := fld p 0 1
    if ¬ isFch c ∨ ¬ s.fcmdOut c ∨ ¬ between 1 (fld p 4 4) 60000 then stBadParam
    else if (s.fch c).cmd ∨ (s.fch c).pulse.isSome then stNotInMode
    else stAccepted
  run := fun s n q p => (s.fioPulse n q p, []) }

/-- The channels FIO_CLEAR names. -/
def fioNamed (p : List Byte) : List Nat := if fld p 0 1 = 0 then fioAll else [fld p 0 1]

/-- OVERLOAD and STUCK_OFF of named channels cleared. -/
def State.fioClear (s : State) (p : List Byte) : State :=
  (fioNamed p).foldl (fun s c =>
    ((s.modFch c (fun x => { x with overload := false, stuckOff := false, shutdowns := 0, lowSince := none })).fioFollow1 c).clearAlarm
      .FIO_OVERLOAD c) s

/-- FIO_CLEAR: refused while OVERCURRENT or the group overload of a latched channel is present. -/
def opFioClear : OpDef := {
  code := 0x0823, pair := true, role := 2, len := 4
  chk := fun s _ p =>
    if 96 < fld p 0 1 then stBadParam
    else if (fioNamed p).any (fun c => ((s.fch c).overload || (s.fch c).stuckOff) &&
        ((s.fch c).overcurrent || (s.fgr (groupOf c)).overload)) then stNotInMode
    else stDone
  run := fun s _ _ p => (s.fioClear p, []) }

/-- FIO_GROUP_RESTORE on a group in WAIT_RESTORE. R462, R464. -/
def State.fioGroupRestore (s : State) (g : Nat) : State :=
  if s.fstate g ≠ 3 then s
  else
    ((s.modFgr g (fun x => { x with state := if s.alarmOn .FIO_SUPPLY_LOW g then 1 else 0 })).clearAlarm .FIO_RESTORE_WAIT g).fioRestore g

/-- FIO_GROUP_RESTORE. -/
def opFioGroupRestore : OpDef := {
  code := 0x0824, pair := true, len := 4
  chk := fun s _ p =>
    if ¬ isFgr (fld p 0 1) then stBadParam else if s.fstate (fld p 0 1) = 3 then stDone else stNotInMode
  run := fun s _ _ p => (s.fioGroupRestore (fld p 0 1), []) }

end Sys2Proof.Machine
end

