-- ==== Sys2Proof/Machine/UnitOps.lean ====
section
/-!
DEFINITION. Changes of the major mode (spec/20 R574).
-/
namespace Sys2Proof.Machine

/-- Code of a mode. R572. -/
def Mode.code : Mode → Nat
  | .keep => 0
  | .restore => 1
  | .commission => 2
  | .standby => 3
  | .hold => 4
  | .warden => 5
  | .service => 6
  | .safeStop => 7

/-- What the unit leaves undone in a mode it leaves: what-if queries, and in HOLD the function. R23, R95, R188, R576. -/
def State.leaveMode (s : State) : State :=
  match s.sys.mode with
  | .hold => State.whatifAbort { s with
      hold := { s.hold with started := false }
      sys := { s.sys with leavingHold := none } }
  | .standby => s.whatifAbort
  | _ => s

/-- The mode changes for a trigger, and is recorded. Entry to STANDBY keeps the learned values and SAT's data. R157,
R298, R574. -/
def State.setMode (s : State) (m : Mode) (trigger : Nat) : State :=
  if s.sys.mode = m then s
  else
    let old := s.sys.mode
    let s := s.leaveMode
    let s := State.event { s with sys := { s.sys with mode := m } } .MODE_CHANGE [wN old.code, wN m.code, wN trigger]
    if m = .standby then (if s.dom 8 then s.learnSave.satRetain else s.learnSave) else s

end Sys2Proof.Machine
end

