-- ==== Sys2Proof/Machine/RedOps.lean ====
section
/-!
DEFINITION. Redundancy supervision: partners, the health score, role epochs, gain and loss of authority, leases, pair authority, and the
mirror (spec/13, spec/02 R40, R41, spec/11 R341). Who commands after each loss, and for how long both may (R400, R403, R409), follows from
these operations of the two units. Causes of a change of authority and triggers of a mode are numbered here (log 41):
0 SET_MODE, 1 a grant, 2 a RELEASE, 3 promotion in overlap mode, 4 the Warden by itself, 5 WARDEN_PROMOTE, 16 R11, 17 R47, 18 R397, 19 R402,
20 R411, 21 R413 and R417, 22 R576, 23 a supply or reset event, 24 a command, 25 R425, 26 a start.
-/
namespace Sys2Proof.Machine

/-! ### Partners (R388, R393, R394) -/

/-- Redundancy supervision changed. -/
def State.modRed (s : State) (f : RedSt → RedSt) : State := { s with red := f s.red }

/-- The other unit of a pair. -/
def State.peerOf (s : State) : Option Nat := if s.red.unit = 0 then some 1 else if s.red.unit = 1 then some 0 else none

/-- What the unit knows of partner k: 0 A, 1 B, 2 W. -/
def State.partner (s : State) (k : Nat) : Partner := if k = 0 then s.red.a else if k = 1 then s.red.b else s.red.w

/-- A partner changed. -/
def State.modPartner (s : State) (k : Nat) (f : Partner → Partner) : State :=
  s.modRed (fun r => if k = 0 then { r with a := f r.a } else if k = 1 then { r with b := f r.b } else { r with w := f r.w })

/-- The partners of the installation. R389. -/
def State.partners (s : State) : List Nat :=
  if s.red.unit = 3 then []
  else [0, 1, 2].filter (fun k => k ≠ s.red.unit && (k ≠ 2 || s.parB .RED_HAS_W))

/-- A partner that is heard. -/
def State.heard (s : State) (k : Nat) : Bool := s.partners.contains k && !(s.partner k).lost

/-- A bit of a partner's last flags. R393 byte 18. -/
def Partner.flag (p : Partner) (i : Nat) : Bool := p.flags.toNat.testBit i

/-- Whether a partner that is heard commands. -/
def State.heardCommanding (s : State) (k : Nat) : Bool := s.heard k && (s.partner k).flag 0

/-- Whether a path brought a partner's heartbeat in this frame or the previous one. -/
def State.recent (s : State) (f : Option Nat) : Bool := f.any (fun n => s.frame.number ≤ n + 1)

/-- Byte 19: partners heard in this frame or the previous one. R393. -/
def State.heardMask (s : State) : Nat :=
  maskOf 3 (fun k => s.partners.contains k && (s.recent (s.partner k).laneFrame || s.recent (s.partner k).lanFrame))

/-- Whether overlap mode applies: by RED_MODE, or while the lease is suspended on either unit. R399, R401. -/
def State.overlap (s : State) : Bool :=
  s.parN .RED_MODE = 1 || s.red.suspended || (match s.peerOf with
    | some p => s.heard p && (s.partner p).flag 6
    | none => false)

/-! ### Health (R395) -/

/-- Whether a domain is drained. R395, R573. -/
def State.drained (s : State) : Bool := s.sys.drainedCmd ≠ 0 || s.sys.failedDom ≠ 0

/-- Conditions that make the score 0. R395. -/
def State.scoreZero (s : State) : Bool :=
  !s.estGood || s.safe.confirmed.isNone || s.alarmOn .UID_CONFLICT || s.red.check.failedSince ||
    !(s.sys.mode = .standby || s.sys.mode = .hold) ||
    s.partners.any (fun k => s.heardCommanding k && decide ((s.partner k).gen ≠ s.cfg.gen))

/-- The health score. R395. -/
def State.score (s : State) : Nat :=
  if s.scoreZero then 0
  else
    255 - (128 * b2n (s.alarmOn .FRAME_STALL) + 128 * b2n (s.alarmOn .ALLOC_STALLED) + 32 * b2n (s.alarmOn .ALLOC_REPEAT) +
      64 * b2n (s.alarmOn .POS_LOST || s.alarmOn .HDG_LOST) +
      16 * (thrAll.filter (fun c => s.tconf c && ((s.tch c).state = 3 || (s.tch c).state = 6))).length +
      8 * ([0, 1].filter (fun i => !(s.cl i).inService)).length + 8 * b2n s.drained)

/-! ### Role epochs (R404) -/

/-- An epoch seen: the highest is kept, by KEEP as well. -/
def State.seeEpoch (s : State) (e : Word) : State :=
  let m : Word := if s.red.epochSeen.toNat < e.toNat then e else s.red.epochSeen
  let s := s.modRed (fun r => { r with epochSeen := m, epochHeld := if r.commanding then r.epochHeld else m })
  { s with keep := { s.keep with epochRetained := m } }

/-- A new epoch for a unit: one above the highest counter of heartbeats, grants, FEEDBACK2 frames and the retained value. -/
def State.newEpoch (s : State) (unit : Nat) : Word × State :=
  let s := thrAll.foldl (fun s c => if (s.tch c).fb2.at_.isSome then s.seeEpoch (s.tch c).fb2.epochSeen else s) (s.seeEpoch s.keep.epochRetained)
  let e : Word := BitVec.ofNat 32 ((s.red.epochSeen.toNat / 4 + 1) * 4 + unit % 4)
  (e, s.seeEpoch e)

/-! ### Gain and loss of authority (R391, R397, R410) -/

/-- A SET_MODE HOLD that waits completes. R575. -/
def State.holdReqDone (s : State) (status : Nat) : State :=
  match s.sys.holdReq with
  | none => s
  | some (n, q, _) => State.completeCmd { s with sys := { s.sys with holdReq := none } } n q status []

/-- The previous commanding unit at a gain: the one that released, or one heard or last heard as commanding. R411. -/
def State.prevCommander (s : State) : Option Nat × Bool :=
  match s.red.relFrom with
  | some (u, a) => if s.past a 60000000 then
      (s.partners.find? (fun k => (s.partner k).flag 0), true)
    else (some u, false)
  | none => (s.partners.find? (fun k => (s.partner k).flag 0), true)

/-- The unit takes authority with an epoch, by SET_MODE or from another unit. R129, R356, R391, R397, R406, R410, R419. -/
def State.gain (s : State) (epoch : Word) (cause : Nat) : State :=
  let fresh : Bool := s.red.gainDue || s.sys.holdReq.isSome
  let old := s.red.epochHeld
  let (prev, fault) := s.prevCommander
  let s := s.seeEpoch epoch
  let s := s.modRed (fun r => { r with
    commanding := true, epochHeld := epoch, pairHold := true, gainDue := false, takeovers := r.takeovers + 1, relFrom := none
    check := { r.check with running := true, frames := 0, failed := 0, failedAo := 0, prev := prev, prevFault := fault } })
  let s := { s with
    hold := { s.hold with started := !fresh, afterTakeover := !fresh }
    cmd := { s.cmd with takeoverDue := s.cmd.takeoverDue || !fresh } }
  let s := s.thrAuth true false
  let s := s.setMode .hold cause
  let s := { s with hold := { s.hold with started := !fresh } }
  (s.event .TAKEOVER [old, epoch, wN cause]).holdReqDone stDone

/-- The unit gives up authority. `hold` keeps the analogue outputs for THR_AO_HOLD. R234, R397, R406, R419. -/
def State.giveUp (s : State) (cause : Nat) (hold : Bool) : State :=
  if ¬ s.red.commanding then s
  else
    let old := s.red.epochHeld
    let s := four.foldl (fun s b => s.abortBrakeTest b) (s.thrAuth false hold)
    let s := s.modRed (fun r => { r with
      commanding := false, suspended := false, grantedAt := none, rotation := none, check := { r.check with running := false }
      epochHeld := r.epochSeen, rotateAgeAt := s.now, pairHold := r.pairHold && r.unit ≠ 3
      lease := if r.lease.holder = some r.unit then { r.lease with holder := none } else r.lease })
    let s := (s.clearAlarm .LEASE_SUSPENDED).event .TAKEOVER [old, 0, wN cause]
    if s.sys.mode = .hold then s.setMode (if s.red.unit = 2 then .warden else .standby) cause else s

/-! ### Messages (R393) -/

/-- The 64 bytes of a heartbeat or grant. -/
def State.shesen (s : State) (flags named : Nat) (epoch lo : Word) : List Byte :=
  let m : Nat := match s.sys.mode with
    | .standby => 0
    | .hold => 1
    | .warden => 2
    | _ => 3
  let b := leBytes 2 0x5348 ++ [1, byte s.red.unit] ++ leBytes 8 s.frame.number ++ leBytes 4 s.red.epochHeld.toNat ++
    [byte m, byte s.red.health, byte flags, byte s.heardMask] ++ leBytes 4 s.cfg.gen ++ [byte named, 0, 0, 0] ++ leBytes 4 epoch.toNat ++
    leBytes 4 lo.toNat ++ zeros 24
  b ++ leBytes 4 (crc32c b)

/-- Whether a message is taken: length, magic, version, CRC, and a frame number at most one away. R393. -/
def State.shesenOk (s : State) (b : List Byte) : Bool :=
  b.length = 64 && fld b 0 2 = 0x5348 && fld b 2 1 = 1 && fld b 60 4 = crc32c (b.take 60) &&
    fld b 4 8 ≤ s.frame.number + 1 && s.frame.number ≤ fld b 4 8 + 1

/-- Whether the unit is a candidate: its request goes into the heartbeat. R396, R47. -/
def State.candidate (s : State) : Bool :=
  s.pairUnit && s.parN .RED_MODE ≠ 1 &&
    (s.red.commanding || (s.sys.mode = .standby && s.red.pairHold && decide (0 < s.red.health) && !s.frame.stallGaveUp))

/-- The flags of a heartbeat. -/
def State.hbFlags (s : State) (release : Bool) : Nat :=
  b2n s.red.commanding + 2 * b2n s.candidate + 4 * b2n (s.parB .RED_HAS_W && s.red.unit ≠ 2 && s.red.w.lost) +
    8 * b2n (match s.peerOf with
      | some p => (s.partner p).lost
      | none => false) +
    16 * b2n release + 32 * b2n s.red.check.running + 64 * b2n s.red.suspended

/-! ### Leases at W (R396, R398) -/

/-- Whether the unit decides leases. -/
def State.arbiter (s : State) : Bool := s.red.unit = 2 && s.parN .RED_MODE ≠ 1

/-- The lease changed. -/
def State.modLease (s : State) (f : LeaseW → LeaseW) : State := s.modRed (fun r => { r with lease := f r.lease })

/-- The answer to a request, on every path to the requester. R392. -/
def State.sendGrant (s : State) (unit : Nat) (lo : Word) : State :=
  let l := s.red.lease
  let named := l.holder.getD 0xFF
  let b := s.shesen (s.hbFlags false ||| 128) named (if l.holder.isSome then l.epoch else 0) lo
  (s.emit (.grant unit unit b)).emit (.grant unit 2 b)

/-- The request that is granted among fresh ones: a COMMANDING unit first where W has granted nothing for 100 ms, else the highest score, A on
a tie. R398. -/
def State.bestReq (s : State) : Option (LeaseReq × Bool) :=
  let l := s.red.lease
  let fresh := l.requests.filter (fun r => decide (s.now ≤ r.at_ + 40000000) && decide (0 < r.score) &&
    !(l.released.any (fun x => x.1 = r.unit && !s.past x.2 40000000)))
  let idle : Bool := match l.lastGrant with
    | none => true
    | some a => s.past a 100000000
  let pick (le : LeaseReq → LeaseReq → Bool) (l : List LeaseReq) : Option LeaseReq :=
    l.foldl (fun (m : Option LeaseReq) (r : LeaseReq) => match m with
      | none => some r
      | some x => if le x r then some r else some x) none
  match (if idle then pick (fun x r => decide (x.epoch.toNat < r.epoch.toNat)) (fresh.filter (·.commanding)) else none) with
  | some r => some (r, true)
  | none =>
    if ¬ s.past l.startedAt 100000000 then none
    else (pick (fun x r => decide (x.score < r.score ∨ (x.score = r.score ∧ r.unit < x.unit))) fresh).map (fun r => (r, false))

/-- The epoch of a grant: the last holder keeps its own, a unit found COMMANDING by a W that has granted to none keeps the one it shows, every
other unit gets a new one (log 48). R398, R404. -/
def State.grantEpoch (s : State) (r : LeaseReq) (keep : Bool) : Word × State :=
  let l := s.red.lease
  let shown : Word := if keep ∧ l.epoch.toNat < r.epoch.toNat then r.epoch else l.epoch
  if l.lastHolder = some r.unit ∨ (keep ∧ l.lastHolder = none) then (shown, s) else s.newEpoch r.unit

/-- W grants where no lease runs and no guard. R398. -/
def State.tryGrant (s : State) : State :=
  let l := s.red.lease
  if l.holder.isSome ∨ l.guardUntil.isSome then s
  else
    match s.bestReq with
    | none => s
    | some (r, keep) =>
      let (e, s) := s.grantEpoch r keep
      let s := s.modLease (fun l => { l with
        holder := some r.unit, lastHolder := some r.unit, epoch := e, expires := r.at_ + 80000000, lastGrant := some s.now, released := none })
      s.sendGrant r.unit r.sentLo

/-- A lease request at W: renewed, granted or answered. R392, R396, R398. -/
def State.leaseRequest (s : State) (r : LeaseReq) : State :=
  let s := s.modLease (fun l => { l with requests := l.requests.filter (fun x => x.unit ≠ r.unit) ++ [r] })
  if s.red.lease.holder = some r.unit then
    (s.modLease (fun l => { l with expires := s.now + 80000000, lastGrant := some s.now })).sendGrant r.unit r.sentLo
  else
    let s := s.tryGrant
    if s.red.lease.holder = some r.unit then s else s.sendGrant r.unit r.sentLo

/-- A release takes effect: at W the lease ends without a guard; in overlap mode the unit named takes authority. R398, R411, R413, R417. -/
def State.applyRelease (s : State) (u : Nat) : State :=
  if s.arbiter then
    if s.red.lease.holder = some u ∨ (u = 2 ∧ ¬ s.red.commanding) then
      (s.modLease (fun l => { l with holder := none, guardUntil := none, released := some (u, s.now) })).tryGrant
    else s
  else if s.overlap ∧ s.pairUnit ∧ ¬ s.red.commanding ∧ ¬ s.red.silenced ∧ s.sys.mode = .standby ∧ 0 < s.red.health ∧ ¬ s.frame.stallGaveUp then
    let (e, s) := s.newEpoch s.red.unit
    s.gain e 2
  else s

/-! ### The Warden (R416) -/

/-- W takes authority: it holds its own lease, and continues the hold state it received. R129, R416. -/
def State.wardenTake (s : State) (cause : Nat) : State :=
  let (e, s) := s.newEpoch 2
  let s := s.modLease (fun l => { l with holder := some 2, lastHolder := some 2, epoch := e, guardUntil := none })
  let s := s.gain e cause
  match s.red.promoteReq with
  | none => s
  | some (n, q) => (s.modRed (fun r => { r with promoteReq := none })).deferredDone n q 0x0B02 []

/-- In lease mode W takes authority once no lease runs and the guard has ended: by itself where neither unit is heard, or by command.
R416. -/
def State.wardenStep (s : State) : State :=
  let l := s.red.lease
  let free : Bool := l.holder.isNone && l.guardUntil.isNone
  let alone : Bool := s.parB .RED_W_AUTO_PROMOTE && s.red.pairHold && !s.heard 0 && !s.heard 1
  if s.arbiter ∧ s.sys.mode = .warden ∧ ¬ s.red.commanding ∧ free ∧ ¬ s.frame.stallGaveUp ∧
      (alone ∨ s.red.promoteReq.isSome) then
    s.wardenTake (if s.red.promoteReq.isSome then 5 else 4)
  else s

/-! ### The lease at the holder (R397, R399) -/

/-- Whether the lease is to be suspended: W declared lost, and a fresh heartbeat of the peer with W_LOST and without COMMANDING. R399. -/
def State.maySuspend (s : State) : Bool :=
  s.red.w.lost && (match s.peerOf with
    | none => false
    | some p =>
      let x := s.partner p
      (s.recent x.laneFrame || s.recent x.lanFrame) && x.flag 2 && !x.flag 0)

/-- The holder's view: whether `d` ns of raw time have passed since the send instant of its last granted request. -/
def State.leaseAge (s : State) (d : Nat) : Bool :=
  match s.red.grantedAt with
  | none => true
  | some a => a + d ≤ s.raw

/-- Whether the unit holds authority by a lease. -/
def State.leased (s : State) : Bool := s.red.commanding && s.pairUnit && s.parN .RED_MODE ≠ 1 && !s.red.suspended

/-- The lease runs out at the holder: suspended, or authority given up. R397, R399. -/
def State.leaseOut (s : State) : State :=
  if s.maySuspend then (s.modRed (fun r => { r with suspended := true })).raiseAlarm .LEASE_SUSPENDED
  else s.giveUp 18 false

/-- A commit instant at the holder: more than 60 ms after the granted request's sending, authority is given up before it. R397. -/
def State.leaseCommit (s : State) : State := if s.leased ∧ s.leaseAge 60000001 then s.leaseOut else s

/-! ### Pair authority (R341) -/

/-- The unit that holds pair authority, as this unit of a pair sees it. -/
def State.pairHolderOf (s : State) (p : Nat) : Nat :=
  let u := s.red.unit
  let peer := s.partner p
  let mineOk : Bool := s.sys.mode = .standby || s.sys.mode = .commission || s.sys.mode = .service
  let peerOk : Bool := peer.mode = 0 || peer.mode = 3
  let top : Nat := (max s.red.epochSeen.toNat peer.epoch.toNat) % 4
  if s.red.commanding then u
  else if s.heardCommanding 2 then 2
  else if s.heardCommanding p then p
  else if ¬ s.heard p then u
  else if top = u ∧ mineOk ∧ peer.heard.toNat.testBit u then u
  else if top = p ∧ peerOk then p
  else 0

/-- Pair authority decided at a fence. -/
def State.decidePair (s : State) : State :=
  let h : Option Nat :=
    match s.peerOf with
    | some p => some (s.pairHolderOf p)
    | none =>
      if s.red.unit = 3 ∨ s.red.commanding then some s.red.unit
      else if s.heardCommanding 1 then some 1
      else if s.heard 0 then some 0
      else if s.heard 1 then some 1
      else none
  { s with cmd := { s.cmd with pairAuth := decide (h = some s.red.unit), pairHolder := h } }

/-! ### The mirror (R41, R129, R356, R392) -/

/-- The frame state a mirror carries. -/
def State.mirrorData (s : State) (learned : List AlcLearned) : MirrorData :=
  { frame := s.frame.number, estN := s.estN, estE := s.estE, estPsi := s.estPsi, hold := if s.red.pairHold then some s.hold.core else none
    learned := learned
    applied := (s.cmd.journal.filter (fun e => e.state = .applied || e.state = .complete)).map (fun e => e.num)
    cfgLeft := s.cfg.commit.map (fun c => c.2.1)
    stepAllow := [0, 1].filter (fun n => (s.vc n).stepAllowed), stepAt := s.frame.stepAtFrame
    active := true, safeCrc := s.safe.confCrc, brkHours := s.brkHours }

/-- What a mirror brings: the hold state, whether the pair is in HOLD, learned values, the steps allowed and the frames left to a commit.
R41, R52, R129, R157, R586. -/
def State.applyMirror (s : State) (m : MirrorData) : State :=
  let s := { s with frame := { s.frame with mirrorApplied := some m.frame, activeN := m.estN, activeE := m.estE, activePsi := m.estPsi } }
  let s := s.modRed (fun r => { r with pairHold := m.hold.isSome })
  let s := match m.hold with
    | some c => { s with hold := { s.hold with core := c, mirrorCore := some c } }
    | none => { s with hold := { s.hold with mirrorCore := none } }
  let s := s.learnTake m.learned
  let s := m.stepAllow.foldl State.stepAllow s
  { s with
    frame := { s.frame with stepAtFrame := if m.stepAt.isSome then m.stepAt else s.frame.stepAtFrame }
    cfg := { s.cfg with commit := match s.cfg.commit, m.cfgLeft with
      | some (g, _, b), some n => some (g, m.frame + n - s.frame.number, b)
      | c, _ => c } }

/-! ### The fence and the points (R341, R395, R413, R414, R418) -/

/-- Consecutive frames beyond and within FRM_SKEW_ALARM. R40. -/
def State.skewFrame (s : State) : State :=
  match s.frame.peerSkew with
  | none => { s with frame := { s.frame with skewRun := 0, skewOkRun := 0 } }
  | some k =>
    let above : Bool := decide (s.parN .FRM_SKEW_ALARM * 1000 < k.natAbs)
    let f := s.frame
    let s := { s with frame := { f with skewRun := if above then f.skewRun + 1 else 0, skewOkRun := if above then 0 else f.skewOkRun + 1 } }
    if 10 ≤ s.frame.skewRun then s.raiseAlarm .FRAME_SKEW else if 10 ≤ s.frame.skewOkRun then s.clearAlarm .FRAME_SKEW else s

/-- Time as the standby is added up. R414. -/
def State.rotateAge (s : State) : State :=
  let on : Bool := s.pairUnit && s.sys.mode = .standby && !s.red.commanding
  s.modRed (fun r => { r with rotateAge := if on then r.rotateAge + (s.now - r.rotateAgeAt) else r.rotateAge, rotateAgeAt := s.now })

/-- Whether a contact of K1 or K2 is configured, and whether it reads closed. R408. -/
def State.roleContact (s : State) (k : Nat) : Option Bool :=
  (s.par? (if k = 1 then .RED_ROLE_FB1_PT else .RED_ROLE_FB2_PT)).map (fun p => decide ((s.fval (natOf p)).getD 0 ≠ 0))

/-- The contacts against the ROLE outputs. R408, R419. -/
def State.relayFrame (s : State) : State :=
  let s := [1, 2].foldl (fun s k =>
    let bad : Bool := s.roleContact k = some true && !s.thr.auth
    let l := s.red.relayBadSince
    s.modRed (fun r => { r with relayBadSince :=
      if bad then (if (assoc l k).isSome then l else assocSet l k s.now) else assocDel l k })) s
  let agree : Bool := [1, 2].all (fun k => s.roleContact k = none || s.roleContact k = some s.thr.auth)
  let s := s.modRed (fun r => { r with relayOkSince := s.since agree r.relayOkSince })
  if s.held s.red.relayOkSince 10000000000 then s.clearAlarm .ROLE_RELAY_FAULT else s

/-- UID_CONFLICT clears 10 s after the last heartbeat with the unit's own ID. R390. -/
def State.uidFrame (s : State) : State :=
  if s.held s.red.uidConflictAt 10000000000 then (s.modRed (fun r => { r with uidConflictAt := none })).clearAlarm .UID_CONFLICT else s

/-- HOLD is entered at the first fence after a SET_MODE in overlap mode or on Single. R391, R575. -/
def State.gainFence (s : State) : State :=
  if s.red.gainDue && !s.red.commanding && s.sys.mode = .standby then
    let x := s.newEpoch s.red.unit
    x.2.gain x.1 0
  else s

/-- Redundancy supervision at a fence. -/
def State.redFence (s : State) : State :=
  let s := s.rotateAge.relayFrame.skewFrame.uidFrame
  let s := (s.modRed (fun r => { r with rotation := r.rotation.map (· + 1) })).gainFence
  let s := if s.red.unit = 2 && s.sys.mode = .standby then s.setMode .warden 26 else s
  (s.modRed (fun r => { r with health := s.score })).decidePair

/-- RED_ROLE. R418. -/
def State.redRole (s : State) : Nat :=
  if s.red.check.running then 4 else if s.red.commanding then 1 else if s.red.silenced then 3
  else if s.sys.mode = .warden then 2 else 0

/-- RED_HEARD. R418. -/
def State.redHeard (s : State) : Nat :=
  let bits (k : Nat) : Nat := if s.partners.contains k then
      b2n (s.recent (s.partner k).laneFrame) + 2 * b2n (s.recent (s.partner k).lanFrame) else 0
  let p := s.peerOf.getD 0
  (if s.pairUnit then bits p else 0) + (if s.pairUnit then 4 * bits 2 else 0) +
    16 * b2n (s.pairUnit && s.heard 2 && s.red.w.heard.toNat.testBit p)

/-- RED_MODE. R391, R418. -/
def State.redMode (s : State) : Nat :=
  if s.red.unit = 3 then 3 else if s.red.suspended then 2 else if s.parN .RED_MODE = 1 then 1 else 0

/-- RED_LEASE_LEFT: what is left of the 80 ms, as the holder counts them. R396, R418. -/
def State.leaseLeft (s : State) : Int :=
  if ¬ s.leased then 0
  else
    match s.red.grantedAt with
    | none => 0
    | some a => (a : Int) + 80000000 - (s.raw : Int)

/-- The peer's score where it is heard. -/
def State.peerScore (s : State) : Option Nat :=
  match s.peerOf with
  | some p => if s.heard p then some (s.partner p).score else none
  | none => none

/-- The points of redundancy supervision. R418. -/
def redPoints (s : State) : List (Nat × PVal × Half) :=
  let r := s.red
  let g : Half := qGood
  [(3072, pvE r.unit, g), (3073, pvE s.redRole, g), (3074, pvU r.epochHeld.toNat, g), (3075, pvU r.health, g),
    (3076, pvU (s.peerScore.getD 0), if s.peerScore.isSome then g else qBad), (3077, pvX s.redHeard, g), (3078, pvI s.leaseLeft, g),
    (3079, pvE s.redMode, g), (3080, pvU r.takeovers.toNat, g), (3081, pvX r.check.last, g), (3082, pvU (r.rotateAge / 3600000000000), g)]

end Sys2Proof.Machine
end

