-- ==== Sys2Proof/Machine/Frame.lean ====
section
/-!
DEFINITION. The instants inside a control frame: the estimation deadline, the submission of the ALLOC job, the close of the seal window, the
commit and a step of the frame clock (spec/02). No phase waits for a later one: each uses what stands at its own start (R21). The frame start
stands in FrameStart.
-/
namespace Sys2Proof.Machine

/-! ### Estimation and the hold function (R32, R43, R48) -/

/-- What the frame counts of estimation: late or in time, with its alarm. R43, R49. -/
def State.estCount (s : State) (inTime : Bool) (e : Nat) : State :=
  let f := s.frame
  if inTime then
    let s : State := { s with
      frame := { f with estDone := true, estEnd := wN e, estOkRun := f.estOkRun + 1, estLateRun := 0 }, est := { s.est with lateOut := false } }
    if 50 ≤ s.frame.estOkRun then s.clearAlarm .FRAME_EST_LATE else s
  else
    let s : State := { s with
      frame := { f with estDone := false, estEnd := 3000000, estLate := f.estLate + 1, estLateRun := f.estLateRun + 1, estOkRun := 0 }
      est := { s.est with lateOut := true } }
    if 3 ≤ s.frame.estLateRun then s.raiseAlarm .FRAME_EST_LATE else s

/-- F+3 ms: what estimation left, published with the fence it is valid at, and the start of the hold function. R43, R89, R90. -/
def State.estDeadline (s : State) (ended : Option Nat) : State :=
  let e := ended.getD 0
  let inTime : Bool := ended.any (fun n => n ≤ 3000000)
  let s := (if inTime then s.estimate else s.estimateLate).estCount inTime e
  let s := if s.dom 1 then s.publish s.frame.startT (estPoints s ++ refPoints s) else s
  let s := (s.peerDiff (s.pairUnit && !s.red.commanding)).holdBegin
  { s with frame := { s.frame with phaseHold := true } }

/-- The estimation deadline of the frame. `ended` is when estimation completed, in ns after F+0; none where it has not. R43. -/
def execEstimationDeadline (t : Nat) (ended : Option Nat) (s : State) : Res :=
  let s := s.arrive t
  .next (if s.frame.running ∧ s.dom 2 ∧ ¬ s.frame.phaseHold ∧ 3000000 ≤ s.frameElapsed then s.estDeadline ended else s)

/-! ### The ALLOC job (R44, R48, R135, R180) -/

/-- The problems of the ALLOC job, the nominal one first. R135, R180. -/
def State.poseCases (s : State) : List (Nat × AlcProb) × State :=
  let s := s.bermStep
  let d := s.hold.core.tau
  let s : State := { s with alc := { s.alc with demand := d } }
  let nom := s.poseAlc none d (fun _ => false) s.alc.berm
  let (s, cs) := s.cqaPose d
  ((0, nom) :: cs, s)

/-- The job submitted to queue 0 with its deadline. All its problems share one row and one pair count. R180, R224. -/
def State.submitCases (s : State) (l : List (Nat × AlcProb)) : State :=
  let m := maxN (l.map (fun e => e.2.rows.length))
  let k := maxN (l.map (fun e => e.2.pairs.length))
  let it := s.parN .HEN_ALLOC_ITER
  let ps := l.map (fun e => e.2.hen m k it ((assoc s.alc.prevX e.1).getD []))
  let id := s.hen.nextId
  let n := (l.map (fun e => e.2.n)).headD 0
  let s : State := { s with alc := { s.alc with posed := l, nvar := n, job := some id } }
  let s := s.henFirm 0 .app0Alloc ps (s.parMs .FRM_ALLOC_DEADLINE)
  { s with alc := { s.alc with job := if s.hen.nextId = id then none else s.alc.job } }

/-- F+4 ms: the demand of the frame, the intact capability and the ALLOC job; channels that are not posed carry no command from then on. -/
def State.allocSubmit (s : State) : State :=
  let s := s.henSettle.holdEnd
  let s : State := { s with frame := { s.frame with phaseAlloc := true }, alc := { s.alc with cap := tauOf s.capOf } }
  if ¬ s.alcPoses then s.alcNotPosed
  else
    let (l, s) := s.poseCases
    let s := s.alcDrop
    let s := if (l.map (fun e => e.2.n)).headD 0 = 0 then s.alcNotPosed else s.submitCases l
    s.whatifFrame.envSubmit.henSettle

/-- The instant at which the ALLOC job is submitted. R44. -/
def execAllocSubmitInstant (t : Nat) (s : State) : Res :=
  let s := s.arrive t
  .next (if s.frame.running ∧ s.dom 2 ∧ s.frame.phaseHold ∧ ¬ s.frame.phaseAlloc ∧ 4000000 ≤ s.frameElapsed then s.allocSubmit else s)

/-! ### The seal window (R46, R47) -/

/-- The channels APP-0 was to seal in this frame. -/
def State.sealAll (s : State) : List Nat := if s.nominal.isSome then s.alcList else []

/-- A stalled frame, and one that is not. R47. -/
def State.stallStep (s : State) (stall : Bool) : State :=
  let f := s.frame
  if stall then
    let s : State := { s with frame := { f with stalled := f.stalled + 1, stallRun := f.stallRun + 1 } }
    let s := if 3 ≤ s.frame.stallRun then s.raiseAlarm .FRAME_STALL else s
    if s.parN .FRM_STALL_LIMIT ≤ s.frame.stallRun ∧ s.red.commanding then
      State.giveUp (State.event { s with frame := { s.frame with stallGaveUp := true } } .FRAME_STALL_LIMIT [wN s.frame.stallRun]) 17 true
    else s
  else State.clearAlarm { s with frame := { f with stallRun := 0, stallGaveUp := false } } .FRAME_STALL

/-- F+15.9 ms: compositions that are not sealed are discarded and counted; a frame that seals no channel at all is stalled, also where no
channel is posed. A unit that does not command counts what it would have sealed. R46, R47, R48. -/
def State.sealClose (s : State) : State :=
  let all := s.sealAll
  let left := (all.filter (fun c => !s.frame.sealedNow.contains c)).length
  let s : State := { s with frame := { s.frame with sealLate := s.frame.sealLate + wN left, phaseSealClosed := true } }
  if s.alcPoses then s.stallStep s.frame.sealedNow.isEmpty else s

/-- The close of the seal window. R46. -/
def execSealWindowClose (t : Nat) (s : State) : Res :=
  let s := s.arrive t
  .next (if s.frame.running ∧ s.dom 2 ∧ ¬ s.frame.phaseSealClosed ∧ 15900000 ≤ s.frameElapsed then s.sealClose else s)

/-! ### The commit (R32, R36, R239, R397, R410) -/

/-- F+16 ms: seals are latched, unless the lease has run out at this instant; a takeover check counts the frame. -/
def State.commitNow (s : State) : State :=
  let s := s.leaseCommit
  let s := s.modRed (fun r => { r with check := { r.check with frames := if r.check.running then r.check.frames + 1 else r.check.frames } })
  let s := if s.dom 10 then s.thrCommit else s
  { s with frame := { s.frame with phaseCommit := true }, alc := { s.alc with power := s.cmdPower } }

/-- The commit instant. R239. -/
def execCommitInstant (t : Nat) (s : State) : Res :=
  let s := s.arrive t
  .next (if s.frame.running ∧ ¬ s.frame.phaseCommit ∧ 16000000 ≤ s.frameElapsed then s.commitNow else s)

/-! ### A step of the frame clock (R52) -/

/-- The step that the clock the frame follows has armed is applied where nothing bars it. -/
def execFrameClockStep (t vc : Nat) (s : State) : Res :=
  let s := s.arrive t
  guardUnit (decide (vc < 2)) vc (if s.dom 9 ∧ s.tmu.selVc = vc then s.vcStep vc else s)

end Sys2Proof.Machine
end

