-- ==== Sys2Proof/Machine/Log.lean ====
section
/-!
DEFINITION. The event recorder: release, freeze, snapshots held, failure of the log memory, its read port and the recorder
commands (spec/18).
-/
namespace Sys2Proof.Machine

/-! ### Bytes of records and snapshots (R517, R528) -/

/-- The 64 bytes of a record; a stored record whose CRC fails shows a CRC that does not match. R517. -/
def LogRec.bytes (r : LogRec) : List Byte :=
  let b := leBytes 4 r.seq.toNat ++ leBytes 2 r.code.toNat ++ [byte (r.sev % 16 + 16 * r.cls), byte r.flags] ++
    leBytes 4 r.pcycle.toNat ++ leBytes 6 r.optime ++ leBytes 2 r.fmt.toNat ++ leBytes 4 r.netS.toNat ++ leBytes 4 r.netNs.toNat ++
    (pad8 r.params).flatMap (fun w => leBytes 4 w.toNat)
  b ++ leBytes 4 (if r.ok then crc32c b else crc32c b ^^^ 1)

/-- One 40-byte entry of a snapshot. R528. -/
def snapEntry (e : Nat × Bool × List Byte) : List Byte :=
  leBytes 4 e.1 ++ leBytes 4 (if e.2.1 then 0 else 1) ++ slice 0 32 e.2.2

/-- The 64-byte header of a snapshot. R528. -/
def Snap.header (x : Snap) : List Byte :=
  let b := leBytes 4 x.recSeq.toNat ++ leBytes 4 x.num.toNat ++ [byte x.trig, byte x.sev] ++ leBytes 2 x.items.length ++
    leBytes 4 x.pcycle.toNat ++ leBytes 6 x.optime ++ zeros 2 ++ leBytes 8 x.frame ++ zeros 28
  b ++ leBytes 4 (crc32c (b ++ x.items.flatMap snapEntry))

/-- The words of a byte string. -/
def wordsOf (bs : List Byte) : List Word := (List.range 16).map (fun i => BitVec.ofNat 32 (fld bs (4 * i) 4))

/-! ### Held records -/

/-- The oldest record held. R525, R538. -/
def State.logTail (s : State) : Word :=
  match s.log.recs with
  | [] => s.log.head
  | r :: t => (t.foldl (fun (m : LogRec) x => if seqBefore x.seq m.seq then x else m) r).seq

/-- Records of a source (0 MRAM, 1 spillway) in sequence order: they are stored in that order. -/
def State.logSource (s : State) (src : Nat) : List LogRec := if src = 1 then s.log.spill else s.log.recs

/-- A snapshot held in the region, by its number. -/
def State.snap? (s : State) (n : Word) : Option Snap := s.log.snaps.find? (fun x => x.num = n)

/-! ### Failure of the log memory (R534, R535) -/

/-- A snapshot takes a slot of the snapshot region: a free one, or that of the oldest of the same or lower severity; none where neither
exists. R529. -/
def LogSt.placeSnap (l : LogSt) (x : Snap) : Option LogSt :=
  if l.snaps.length < 1023 then some { l with snaps := l.snaps ++ [x], snapHead := x.num }
  else (l.snaps.find? (fun y => y.sev ≤ x.sev)).map (fun y =>
    { l with snaps := l.snaps.filter (fun z => z.num ≠ y.num) ++ [x], snapHead := x.num })

/-- A snapshot that is missed is counted. R529. -/
def LogSt.missSnap (l : LogSt) : LogSt := { l with snapMissed := l.snapMissed + 1 }

/-- LOG_FULL is raised where a record has just been dropped. R540. -/
def State.fullCheck (s : State) : State := if s.log.dropAt = some s.now then s.raiseAlarm .LOG_FULL else s

/-- What a freeze held is written in sequence order, snapshots after the records, and LOG_THAW follows; in SPILLWAY the snapshots are missed.
R531, R533, R535. -/
def State.logRelease (s : State) (reason : Nat) : State :=
  let s := s.writeHeld
  let put (s : State) (x : Snap) : State :=
    { s with log := if s.log.state = 2 then s.log.missSnap else (s.log.placeSnap x).getD s.log.missSnap }
  let held := s.log.frozenSnaps
  let s := held.foldl put { s with log := { s.log with frozenSnaps := [] } }
  (State.submitRec (s.dropAlarm .LOG_FROZEN) .LOG_THAW clsCleared [wN reason]).fullCheck

/-- The freeze ends for a reason. R531. -/
def State.logThaw (s : State) (reason : Nat) : State :=
  if s.log.state ≠ 1 then s else State.logRelease { s with log := { s.log with state := 0 } } reason

/-- The log memory has failed: region 0, slot, sequence and cause 0 comparison, 1 CRC. A record whose write failed goes to the spillway with its
number, LOG_MEM_FAIL after it, and what a freeze held follows. R531, R535. -/
def State.logFail (s : State) (slot : Nat) (q : Word) (cause : Nat) (pending : Option LogRec) : State :=
  if s.log.memFault then s
  else
    let frozen : Bool := s.log.state = 1
    let s := { s with log := { s.log with memFault := true, state := 2 } }
    let s := match pending with
      | some r => s.storeSpill r
      | none => s
    let r := s.takeSeq
    let s := r.2.storeSpill { r.2.mkRec .LOG_MEM_FAIL clsEvent [0, wN slot, q, wN cause] with seq := r.1 }
    let s := s.raiseAlarm .LOG_MEM_FAULT
    if frozen then s.logRelease 3 else s

/-- A read of a held record: one that fails its CRC is a failure of the log memory. R534. -/
def State.logReadCheck (s : State) (rs : List LogRec) : State :=
  match rs.find? (fun r => !r.ok) with
  | none => s
  | some r => s.logFail r.slot r.seq 1 none

/-! ### Events -/

/-- A record submitted by a block. R522. -/
def execLogRecordSubmit (t : Nat) (code : EvCode) (cls : Nat) (params : List Word) (cap : Option (Nat × Nat)) (s : State) : Res :=
  .next ((s.arrive t).submitRec code cls params cap)

/-- While the 10 ms of an entry have passed, the first entry in the order of R324 is released, so that none waits longer (log 120). R522. -/
def State.releaseDue : Nat → State → State
  | 0, s => s
  | n + 1, s =>
    if s.log.queue.any (fun e => !e.released && s.past e.submitted 10000000) then
      match nextRelease s.log.queue with
      | none => s
      | some en => State.releaseDue n (s.releaseEntry en)
    else s

/-- The first record released now still fails its comparison after the retry: the log memory has failed. R523, R534. -/
def State.releaseFail (s : State) : State :=
  match nextRelease s.log.queue with
  | none => s
  | some en =>
    if s.past en.submitted 10000000 ∧ s.log.state = 0 then
      let (s, r) := s.numberEntry en
      let s : State := { s with log := { s.log with queue := s.log.queue.filter (fun e => e.order ≠ en.order) } }
      s.logFail (s.log.recs.length % logSlots) r.seq 0 (some r)
    else s

/-- The 10 ms of a record have passed; `fails` comparisons of the first record written fail, of which one is retried. R522, R523. -/
def execLogRecordRelease (t : Nat) (s : State) (fails : Nat := 0) : Res :=
  let s := s.arrive t
  .next (if s.dom 1 then
      let s := if 2 ≤ fails then s.releaseFail else s
      (State.releaseDue s.log.queue.length s).fullCheck
    else s)

/-- A freeze ends with reason AUTO after 60 s; a LOG_THAW of the same instant still has its say. R531, R533. -/
def execLogFreezeTimeout (t : Nat) (s : State) : Res :=
  let s := s.arrive t
  .next (if s.log.state = 1 ∧ s.past s.log.freezeAt 60000000000 then
      let a := (s.now, s.log.queue.length, s.log.frozenSnaps.length)
      let s := s.logThaw 1
      { s with log := { s.log with autoThaw := some a } }
    else s)

/-- Read port of a requester. R538. -/
def State.rdPort (s : State) (who : Who) : LogRd := s.log.rd.getD who.latch {}

/-- Read port changed. -/
def State.modRd (s : State) (who : Who) (f : LogRd → LogRd) : State :=
  { s with log := { s.log with rd := s.log.rd.modify who.latch f } }

/-- A record of the MRAM or the spillway found bad. R534. -/
def State.logSpoil (s : State) (kind : Nat) (q : Word) : State :=
  let bad (l : List LogRec) : List LogRec := l.map (fun r => if r.seq = q then { r with ok := false } else r)
  if kind = 0 then { s with log := { s.log with recs := bad s.log.recs } }
  else if kind = 1 then { s with log := { s.log with spill := bad s.log.spill } }
  else s

/-- A write of LOG_RD_CTRL; GO reads a record of the MRAM or the spillway, or a part of a snapshot. R538. -/
def State.logRdGo (s : State) (who : Who) (v : Word) : State :=
  let kind := v.toNat % 4
  let entry := v.toNat / 65536 % 512
  let s := s.modRd who (fun x => { x with kind := kind, entry := entry })
  let sel := (s.rdPort who).sel
  let answer (s : State) (r : Nat) (d : List Byte) : State := s.modRd who (fun x => { x with result := r, data := wordsOf d })
  if ¬ v.toNat.testBit 31 then s
  else if kind < 2 then
    match (s.logSource kind).find? (fun x => x.seq = sel) with
    | none => s.modRd who (fun x => { x with result := 1 })
    | some r =>
      if r.ok then answer s 0 r.bytes
      else
        let s := answer s 2 r.bytes
        if kind = 0 then s.logReadCheck [r] else s
  else
    match s.snap? sel with
    | none => s.modRd who (fun x => { x with result := 1 })
    | some x =>
      if entry = 0x1FF then answer s 0 x.header
      else
        match x.items[entry]? with
        | none => s.modRd who (fun x => { x with result := 1 })
        | some e => answer s 0 (snapEntry e)

/-- LOG_RD_CTRL written; `sound` tells whether the record that GO reads passes its CRC. R534, R538. -/
def execLogRdGo (t : Nat) (who : Who) (v : Word) (s : State) (sound : Bool := true) : Res :=
  let s := s.arrive t
  .next (if s.dom 1 then
      let s := if v.toNat.testBit 31 ∧ ¬ sound then s.logSpoil (v.toNat % 4) (s.rdPort who).sel else s
      s.logRdGo who v
    else s)

/-- A read of LOG_OPTIME_LO latches the high half. R538. -/
def State.logOptimeLo (s : State) (who : Who) : Word × State :=
  (wN (s.optime % 2 ^ 32), s.modRd who (fun x => { x with optimeHi := BitVec.ofNat 16 (s.optime / 2 ^ 32) }))

/-- LOG_OPTIME_LO read. -/
def execLogOptimeLoRead (t : Nat) (who : Who) (s : State) : Res :=
  let s := s.arrive t
  .next (if s.dom 1 then
    let r := s.logOptimeLo who
    r.2.emit (.readData r.1) else s)

/-! ### Once per frame, and resets of D1 -/

/-- The recorder at a fence: the queue's largest length, and the alarms that clear by time. R539, R540. -/
def State.logFrame (s : State) : State :=
  let s := { s with log := { s.log with queueMax := s.log.queueMaxNow, queueMaxNow := s.log.queue.length } }
  let s := { s with log := { s.log with floodLowSince := s.since (decide (s.log.queue.length < 1024)) s.log.floodLowSince } }
  let s := if s.held s.log.floodLowSince 10000000000 then s.clearAlarm .LOG_FLOOD else s
  match s.log.dropAt with
  | none => s
  | some a => if s.past a 600000000000 then s.clearAlarm .LOG_FULL else s.raiseAlarm .LOG_FULL

/-- A sum of counters. -/
def sumW (l : List Word) : Nat := sumN (l.map BitVec.toNat)

/-- The points of the recorder. R539. -/
def logPoints (s : State) : List (Nat × PVal × Half) :=
  [(3712, pvE s.log.state, qGood), (3713, pvU s.log.head.toNat, qGood), (3714, pvU s.log.queue.length, qGood),
    (3715, pvU s.log.queueMax, qGood), (3716, pvU s.log.recs.length, qGood), (3717, pvU s.log.snaps.length, qGood),
    (3718, pvU (sumW s.log.drops), qGood), (3719, pvU (sumW s.log.qdrops), qGood), (3720, pvU s.log.snapMissed.toNat, qGood),
    (3721, pvU s.log.spill.length, qGood)]

/-- Draining D1 writes the queue before the domain goes down. R537. -/
def State.logDrain (s : State) : State := (s.logThaw 0).flushQueue

/-- A reset of D1 loses the queue, ends a freeze with its snapshots in RAM, and resets the front end. R537, R540. -/
def State.logReset (s : State) : State :=
  let s : State := { s with
    keep := { s.keep with queueLost := s.keep.queueLost + s.log.queue.length }
    log := { s.log with
      queue := [], queueMax := 0, queueMaxNow := 0, lastRel := none, state := if s.log.memFault then 2 else 0, freezeSeq := 0
      frozenSnaps := [], snapNum := s.log.snapHead, trigPend := [], merged := 0, snapFault := false, floodLowSince := none
      rd := [{}, {}, {}] } }
  [EvCode.LOG_FROZEN, .LOG_SNAP_FAULT].foldl (fun s e =>
    if s.alarmOn e then (s.dropAlarm e).direct e clsCleared [wN 0] else s) s

/-- After a reset of D1 KEEP writes what the queue lost. R537. -/
def State.logUp (s : State) : State :=
  let n := s.keep.queueLost
  if n = 0 then s
  else State.direct { s with keep := { s.keep with queueLost := 0 } } .LOG_QUEUE_LOST clsEvent [wN n]

/-! ### Commands (R541) -/

/-- At the start of D0 the storage examines the slot after the head: a whole record with the next number is adopted, anything else a write left
there is cleared, counted and recorded. In SPILLWAY the head is the highest number that passes its CRC. R524, R535. -/
def State.logStart (s : State) : State :=
  let s : State := match s.log.after with
    | none => s
    | some r =>
      let s : State := { s with log := { s.log with after := none } }
      if r.ok ∧ seqBefore s.log.head r.seq then s.storeRec r
      else State.direct { s with log := { s.log with torn := wSat s.log.torn, nextSeq := r.seq } } .LOG_TORN_RECOVERED clsEvent [r.seq]
  if s.log.memFault then
    let top := ((s.log.recs ++ s.log.spill).filter (·.ok)).foldl (fun (m : Option Word) r => match m with
      | none => some r.seq
      | some q => some (if seqBefore q r.seq then r.seq else q)) none
    match top with
    | some q => { s with log := { s.log with head := q, nextSeq := q + 1 } }
    | none => s
  else s

/-- What a loss of D0 in the middle of a write leaves in the slot after the head: 1 the whole record without the head's update, 2 a torn one.
R524. -/
def State.logCut (s : State) (slot : Nat) : State :=
  if slot = 0 ∨ s.log.state = 1 then s
  else
    match nextRelease s.log.queue with
    | none => s
    | some en =>
      let (s, r) := s.numberEntry en
      { s with log := { s.log with after := some { r with ok := decide (slot = 1) } } }

/-- The freeze: records whose 10 ms have passed are released first, then its record is written at once and gives the boundary. R530, R533. -/
def State.logFreeze (s : State) : State :=
  let s := State.releaseDue s.log.queue.length s
  let r := s.takeSeq
  let s := r.2.storeRec { r.2.mkRec .LOG_FREEZE clsRaised [] with seq := r.1 }
  { s with
    alarms := s.alarms ++ [(EvCode.LOG_FROZEN, 0)]
    log := { s.log with state := 1, freezeSeq := r.1, freezeAt := s.now } }

/-- LOG_FREEZE. -/
def opLogFreeze : OpDef := {
  code := 0x0900, pair := false
  chk := fun s _ _ => if s.log.state = 0 then stDone else stNotInMode
  run := fun s _ _ _ =>
    let s := s.logFreeze
    (s, leBytes 4 s.log.freezeSeq.toNat ++ leBytes 4 s.logTail.toNat ++ leBytes 4 s.log.snapHead.toNat) }

/-- What a thaw with reason AUTO at this very instant found held. R533. -/
def State.autoNow (s : State) : Option (Nat × Nat) :=
  match s.log.autoThaw with
  | some (a, q, x) => if a = s.now ∧ s.log.state = 0 then some (q, x) else none
  | none => none

/-- The LOG_THAW record that waits takes reason COMMAND. R533. -/
def State.thawReason (s : State) : State :=
  { s with log := { s.log with autoThaw := none, queue := s.log.queue.map (fun e =>
      if e.rec_.code = EvCode.LOG_THAW.code ∧ e.submitted = s.now then { e with rec_ := { e.rec_ with params := pad8 [wN 0] } } else e) } }

/-- LOG_THAW. R531, R533. -/
def opLogThaw : OpDef := {
  code := 0x0901, pair := false
  chk := fun s _ _ => if s.log.state = 1 ∨ s.autoNow.isSome then stDone else stNotInMode
  run := fun s _ _ _ =>
    match s.autoNow with
    | some (q, x) => (s.thawReason, leBytes 4 q ++ leBytes 4 x)
    | none => (s.logThaw 0, leBytes 4 s.log.queue.length ++ leBytes 4 s.log.frozenSnaps.length) }

/-- Records from a sequence on, of a least severity, at most n. -/
def State.logPick (s : State) (src sev n : Nat) (q : Word) : List LogRec :=
  ((s.logSource src).filter (fun r => !seqBefore r.seq q && decide (sev ≤ r.sev))).take n

/-- LOG_READ: END where no newer record is held or none that is asked for (log 120), GAP where a sequence in the range looked through is not
held, CRC where one fails. -/
def opLogRead : OpDef := {
  code := 0x0902, pair := false, readOnly := true, len := 8
  chk := fun _ _ p => if between 1 (fld p 4 1) 21 ∧ fld p 5 1 ≤ 1 ∧ fld p 6 1 ≤ 7 then stDone else stBadParam
  run := fun s _ _ p =>
    let q : Word := BitVec.ofNat 32 (fld p 0 4)
    let src := fld p 5 1
    let rs := s.logPick src (fld p 6 1) (fld p 4 1) q
    let last : Word := match rs.getLast? with
      | some r => r.seq
      | none => q - 1
    let all := (s.logSource src).filter (fun r => !seqBefore r.seq q)
    let fin : Bool := rs.length < fld p 4 1 || !all.any (fun r => seqBefore last r.seq)
    let stop : Word := if rs.length < fld p 4 1 then (all.getLast?.map (·.seq)).getD last else last
    let held := all.filter (fun r => !seqBefore stop r.seq)
    let gap : Bool := decide (held.length < (stop - q).toNat + 1) && !all.isEmpty
    let bad : Bool := rs.any (fun r => !r.ok)
    let first : Word := match rs with
      | r :: _ => r.seq
      | [] => q
    (if src = 0 then s.logReadCheck rs else s,
      leBytes 4 first.toNat ++ [byte rs.length, byte (b2n fin + 2 * b2n gap + 4 * b2n bad), 0, 0] ++ rs.flatMap LogRec.bytes) }

/-- LOG_SNAP_READ. -/
def opLogSnapRead : OpDef := {
  code := 0x0903, pair := false, readOnly := true, len := 8
  chk := fun s _ p =>
    match s.snap? (BitVec.ofNat 32 (fld p 0 4)) with
    | none => stBadParam
    | some x => if fld p 5 1 ≤ 33 ∧ fld p 4 1 + fld p 5 1 ≤ x.items.length then stDone else stBadParam
  run := fun s _ _ p =>
    let x := (s.snap? (BitVec.ofNat 32 (fld p 0 4))).getD {}
    (s, x.header ++ ((x.items.drop (fld p 4 1)).take (fld p 5 1)).flatMap snapEntry) }

/-- A 16-byte name. -/
def nameBytes (n : String) : List Byte := slice 0 16 (n.toList.map (fun c => byte c.toNat))

/-- LOG_CODES. R519. -/
def opLogCodes : OpDef := {
  code := 0x0904, pair := false, readOnly := true, len := 4
  chk := fun _ _ p => if fld p 0 2 ≤ EvCode.all.length then stDone else stBadParam
  run := fun s _ _ p =>
    let l := (EvCode.all.drop (fld p 0 2)).take 56
    let one (e : EvCode) : List Byte :=
      leBytes 2 e.code.toNat ++ [byte e.severity, byte (if e.isAlarm then clsRaised else clsEvent)] ++ leBytes 2 e.fmt ++ zeros 2 ++ nameBytes e.name
    (s, leBytes 2 l.length ++ leBytes 2 EvCode.all.length ++ zeros 4 ++ l.flatMap one) }

/-- LOG_EXPORT. -/
def opLogExport : OpDef := {
  code := 0x0905, pair := false, role := 2
  chk := fun s _ _ => if s.log.exporting.isSome then stNotInMode else stAccepted
  run := fun s n q _ => ({ s with log := { s.log with exporting := some (n, q) } }, []) }

/-- Bytes an export takes. -/
def LogExport.size (x : LogExport) : Nat := 64 * x.recs.length + sumN (x.snaps.map (fun y => 64 + 40 * y.items.length))

/-- An export put into the log export partition; the oldest exports go while it does not fit. R16, R541. -/
def putExport (l : List LogExport) (x : LogExport) : List LogExport :=
  let rec go : List LogExport → List LogExport
    | [] => [x]
    | y :: t => if sumN ((y :: t).map LogExport.size) + x.size ≤ NandPart.export_.size then y :: t ++ [x] else go t
  go l

/-- The export has been written: the held records and snapshots, during a freeze the frozen image. R541. -/
def State.logExportEnd (s : State) : State :=
  match s.log.exporting with
  | none => s
  | some (n, q) =>
    let num := s.log.exportNum + 1
    let recs := s.log.recs ++ s.log.spill
    let x : LogExport := { num := num, recs := recs, snaps := s.log.snaps }
    State.completeCmd { s with log := { s.log with exporting := none, exportNum := num, exports := putExport s.log.exports x } } n q stDone
      (leBytes 4 recs.length ++ leBytes 4 s.log.snaps.length ++ leBytes 4 num.toNat ++ leBytes 4 (((recs.getLast?.map LogRec.seq).getD 0)).toNat)

/-- LOG_SPILL_END. -/
def opLogSpillEnd : OpDef := {
  code := 0x0906, pair := false, role := 3
  chk := fun s _ _ => if s.log.state = 2 ∧ s.log.spillEnd.isNone then stAccepted else stNotInMode
  run := fun s n q _ => ({ s with log := { s.log with spillEnd := some (n, q) } }, []) }

/-- The test of every slot has ended with a number of failing slots: a pass returns the log to the MRAM. R536. -/
def State.logSpillTested (s : State) (failing : Nat) : State :=
  match s.log.spillEnd with
  | none => s
  | some (n, q) =>
    let s := { s with log := { s.log with spillEnd := none } }
    let s := if failing = 0 then
        let sp := s.log.spill
        let s := { s with log := { s.log with spill := [], state := 0, memFault := false } }
        (sp.foldl State.storeMram s).clearAlarm .LOG_MEM_FAULT
      else s
    s.completeCmd n q stDone ([if failing = 0 then 0 else 1, 0, 0, 0] ++ leBytes 4 failing)

end Sys2Proof.Machine
end

