-- ==== Sys2Proof/Machine/Safe.lean ====
section
/-!
DEFINITION. The safety section: inputs, the two technologies, stops, brakes and their test, limited thrust, faults, the safety set and the
commands (spec/14).
-/
namespace Sys2Proof.Machine

/-- Whether SAFE-P runs and has passed its start test. -/
def State.safeP (s : State) : Bool := s.dom 4 && s.safe.pHealthy

/-- Whether a safety technology runs. -/
def State.safeUp (s : State) : Bool := (s.dom 4 && s.safe.pHealthy) || (s.dom 5 && s.safe.lHealthy)

/-! ### Inputs (R426–R429) -/

/-- Records of demands that began at input n: its capture index names the channel. R321, R452. -/
def State.demandRecord (s : State) (before : SafeSt) (n : Nat) (chB : Bool) : State :=
  if ¬ (before.inp n).inDemand ∧ (s.safe.inp n).inDemand ∧ s.safe.sinFunc n ≠ 0 then
    s.submitRec .SAFE_DEMAND clsEvent [wN n, wN (b2n (s.safe.inp n).a), wN (b2n (s.safe.inp n).b)]
      (some (s.rawAt (s.now - 3000000), 0x0101 + 2 * (n - 1) + b2n chB))
  else s

/-- The disagreement of an input has lasted for the discrepancy time: DISC latches. R429. -/
def State.discLatch (s : State) (n : Nat) : State :=
  ((s.modSafe (fun x => x.modIn n (fun i => { i with disc := true }))).safetyFault 2 n).safeL

/-- Whether an input's disagreement has lasted `ns` beyond d − 1 ms by the count that decides: SAFE-L's, and SAFE-P's 10 ms later where SAFE-L has
failed. R429. -/
def State.discLasted (s : State) (n : Nat) (ns : Nat) : Bool :=
  s.safeUp && s.safe.sinFunc n ≠ 0 && !(s.safe.inp n).disc &&
    s.held (s.safe.inp n).disagreeSince ((s.safe.sinDisc n + (if s.safe.lHealthy then 0 else 10) - 1) * 1000000 + ns)

/-- A filtered channel of an input has changed. A disagreement that ends after d + 1 ms or more has latched DISC. R426, R428, R429. -/
def State.inputEdge (s : State) (n : Nat) (chB closed : Bool) : State :=
  let s := if s.discLasted n 2000000 then s.discLatch n else s
  let before := s.safe
  let s := s.modSafe (fun x => x.modIn n (fun i => if chB then { i with b := closed } else { i with a := closed }))
  let s := s.modSafe (fun x => x.modIn n (fun i => { i with disagreeSince := s.since (decide (i.a ≠ i.b)) i.disagreeSince }))
  if s.safeUp then (s.demandRecord before n chB).safeL else s

/-- A safety input channel changes. R428. -/
def execSafeInputEdge (t n : Nat) (chB closed : Bool) (s : State) : Res :=
  let s := s.arrive t
  guardUnit (between 1 n 8) n (s.inputEdge n chB closed)

/-- A channel does not follow two pulses of its own source, or follows the other source's. R427. -/
def State.pulseFault (s : State) (n : Nat) (chB cross : Bool) : State :=
  let before := s.safe
  let s := s.modSafe (fun x => x.modIn n (fun i =>
    if cross then { i with cross := true } else if chB then { i with stuckB := true } else { i with stuckA := true }))
  ((s.safetyFault (if cross then 1 else 0) n).demandRecord before n chB).safeL

/-- A check of test pulses on a closed channel of an input with pulsed feed finds a fault. R427. -/
def execTestPulseCheck (t n : Nat) (chB cross : Bool) (s : State) : Res :=
  let s := s.arrive t
  let i := s.safe.inp n
  let closed : Bool := if chB then i.b else i.a
  guardUnit (between 1 n 8) n (if s.safeUp ∧ s.safe.sinTp n = 1 ∧ s.safe.sinFunc n ≠ 0 ∧ closed then s.pulseFault n chB cross else s)

/-- The discrepancy time of an input ends: more than d − 1 ms after the disagreement began DISC may latch, because SAFE-L counts 1 ms ticks whose
phase is free. R429. -/
def execDiscrepancyExpiry (t n : Nat) (s : State) : Res :=
  let s := s.arrive t
  guardUnit (between 1 n 8) n (if s.discLasted n 1 then s.discLatch n else s)

/-! ### The technologies (R424, R425) -/

/-- A fault of a technology: the one that detects it removes its enables, and the unit enters SAFE-STOP. R425. -/
def State.techFault (s : State) (kind : Nat) (byP byL : Bool) : State :=
  let s := s.modSafe (fun x => { x with pHealthy := x.pHealthy && !byL, lHealthy := x.lHealthy && !byP })
  let s := (s.safetyFault (16 + kind) 0).safeStopEnter byP byL
  let s : State := { s with sys := { s.sys with safeStopBy := 0 } }
  let s := if s.sys.mode = .keep then s else s.setMode .safeStop 25
  s.giveUp 25 false

/-- Entries of limited thrust: since when a shaft is above its limit. R438. -/
def SafeSt.watchSlt (x : SafeSt) (now j : Nat) : SafeSt :=
  let above : Bool := (x.entry j).active && (match x.speed (x.sltEnc j) with
    | none => false
    | some v => decide (x.sltSpeed j < absQ v))
  x.modEntry j (fun e => { e with overSince := if above then some (e.overSince.getD now) else none })

/-- SAFE-P's cycle: the token, the speeds of the shafts, its evaluation and its gates, and the readback of SAFE-L's registers. R424. -/
def State.safePCycle (s : State) (speeds : List (Nat × Rat)) : State :=
  let before := s.safe
  let s := s.abortDemanded
  let s := s.modSafe (fun x =>
    let x := four.foldl (fun x j => SafeSt.watchSlt x s.now j) ({ x with tokenAt := s.now, encSpeed := speeds } : SafeSt)
    (x.eval s.now).driveP)
  let s := s.modSafe (fun x => if s.dom 5 && x.lHealthy then x.driveL else x)
  let s := s.noteDiffer.stopRecords before
  match s.safe.confirmed with
  | none => s
  | some c => if s.dom 5 && s.safe.lHealthy && s.safe.slBank ≠ slBytes c then s.techFault 2 true false else s

/-- A cycle of SAFE-P with the valid shaft speeds of this window. R424. -/
def execSafePCycle (t : Nat) (speeds : List (Nat × Rat)) (s : State) : Res :=
  let s := s.arrive t
  .next (if s.safeP then s.safePCycle speeds else s)

/-- SAFE-L has seen no token for 10 ms. R424. -/
def execSafeWatchdogExpiry (t : Nat) (s : State) : Res :=
  let s := s.arrive t
  .next (if s.dom 5 ∧ s.safe.lHealthy ∧ s.past s.safe.tokenAt 10000000 then s.techFault 1 false true else s)

/-- The enable states have differed for more than 20 ms. R424. -/
def execSafePathDisagree (t : Nat) (s : State) : Res :=
  let s := s.arrive t
  .next (if s.safeUp ∧ s.held s.safe.differSince 20000001 then (s.techFault 3 true true).raiseAlarm .SAFE_PATH_FAULT else s)

/-- A lockstep mismatch in SAFE-P: SAFE-L removes its enables. R12, R425. -/
def execSafePLockstepMismatch (t : Nat) (s : State) : Res :=
  let s := s.arrive t
  .next (if s.dom 4 then s.techFault 0 false true else s)

/-! ### Stops (R430–R434) -/

/-- SAFE-P receives a process stop request. One of this unit goes to the peer as well. R432. -/
def execProcessStopRequest (t mask : Nat) (fromPeer : Bool) (s : State) : Res :=
  let s := s.arrive t
  .next (if ¬ s.dom 4 then s else if fromPeer then s.processStop (mask % 16) else s.requestStop (mask % 16))

/-- SAFE_STSp_DELAY ends. R430. -/
def execStsDelayExpiry (t p : Nat) (s : State) : Res :=
  let s := s.arrive t
  guardUnit (between 1 p 4) p
    (match (s.safe.pair p).delayEnd with
    | none => s
    | some e => if e ≤ s.now then (s.modSafe (fun x => x.modPair p (fun q => { q with delayEnd := none }))).safeBoth else s)

/-- An output fault of pair p: cross-fault, the pair stopped. R441. -/
def State.stsFault (s : State) (p which : Nat) : State :=
  ((s.modSafe (fun x => x.modPair p (fun q => { q with faulted := true }))).safetyFault 3 which).safeBoth

/-- The off-pulse of an energised channel, at least 100 ms from that of its partner; its readback must fall. R434, R441. -/
def execStsOffPulse (t p : Nat) (chB fell : Bool) (s : State) : Res :=
  let s := s.arrive t
  let i := b2n chB
  guardUnit (between 1 p 4) p
    (if s.safe.energised p chB ∧ s.past ((s.safe.pair p).pulseAt.getD (1 - i) 0) 100000000 then
      let s := s.modSafe (fun x => x.modPair p (fun q => { q with pulseAt := q.pulseAt.set i s.now }))
      if fell then s else s.stsFault p (2 * (p - 1) + i)
    else s)

/-- A readback finds back-feed or a short on an output that is off: outputs 0–7 STS1A to STS4B, 8–11 BRK1P to BRK4P, 12–15 BRK1M to BRK4M.
R441. -/
def execSafetyOutputFault (t out : Nat) (s : State) : Res :=
  let s := s.arrive t
  guardUnit (decide (out < 16)) out
    (if ¬ s.safeUp then s
    else if out < 8 then
      (if s.safe.energised (out / 2 + 1) (out % 2 = 1) then s else s.stsFault (out / 2 + 1) out)
    else
      let b := out % 4 + 1
      if (s.safe.brake b).isSet then
        ((s.modSafe (fun x => x.modBrake b (fun k => { k with fault := true }))).safetyFault (if out < 12 then 4 else 5) out).safeBoth
      else s)

/-! ### Brakes and their test (R435–R437) -/

/-- The shaft has fallen below the set speed: both switches open. R435. -/
def execBrakeSetSpeedReached (t b : Nat) (s : State) : Res :=
  let s := s.arrive t
  guardUnit (between 1 b 4) b
    (if s.safeUp ∧ (s.safe.brake b).setReq ∧ ¬ (s.safe.brake b).isSet ∧ s.safe.slowEnough b then
      s.safeBoth
    else s)

/-- The released hours reach SAFE_BRKb_TEST_INT. R436. -/
def execBrakeTestDue (t b : Nat) (s : State) : Res :=
  let s := s.arrive t
  guardUnit (between 1 b 4) b (s.overdue b)

/-- APP-0 seals the channel of a brake test. R237, R437. -/
def State.sealTest (s : State) (c : Nat) (thrust : Rat) (test : Bool) : State :=
  if isTch c ∧ s.red.commanding ∧ s.dom 2 ∧ s.dom 10 ∧ ¬ (s.tch c).sealed then
    (s.modTch c (fun (y : ThrChan) => { y with shT := toF32 thrust, shAng := toF32 (s.ach c).ang, shRun := true, shTest := test })).thrSeal c
  else s

/-- The phase of a test. -/
def State.testPhase (s : State) (b ph : Nat) : State :=
  s.modSafe (fun x => x.modBrake b (fun k => { k with test := k.test.map (fun (y : BrakeTest) => { y with phase := ph }) }))

/-- Whether a test of brake b is in a phase and has lasted `d` ns. -/
def State.testAt (s : State) (b ph d : Nat) : Bool :=
  match (s.safe.brake b).test with
  | none => false
  | some y => y.phase = ph && s.past y.t0 d

/-- t0 + 1 s: TEST thrust. R437. -/
def execBrakeTestThrust (t b : Nat) (s : State) : Res :=
  let s := s.arrive t
  guardUnit (between 1 b 4) b
    (if s.testAt b 0 1000000000 then (s.testPhase b 1).sealTest (s.safe.brkChan b) (s.safe.brkTestT b) true else s)

/-- t0 + 3 s: thrust 0. R437. -/
def execBrakeTestThrustEnd (t b : Nat) (s : State) : Res :=
  let s := s.arrive t
  guardUnit (between 1 b 4) b
    (if s.testAt b 1 3000000000 then (s.testPhase b 2).sealTest (s.safe.brkChan b) 0 false else s)

/-- What a test leaves. After a PASS the brake is held by what held it before t0, but no longer by an earlier FAIL (log 117). R437. -/
def State.testEnd (s : State) (b : Nat) (rotP rotL : Rat) : State :=
  let lim := s.safe.brkTestAng b
  let pass : Bool := absQ rotP ≤ lim && absQ rotL ≤ lim
  match (s.safe.brake b).test with
  | none => s
  | some y =>
    let s := s.modSafe (fun x => x.modBrake b (fun k =>
      if pass then { k with test := none, failed := false, hoursNs := 0, hoursAt := s.now, overdue := false }
      else { k with test := none, failed := true }))
    let s := if pass then ((s.event .BRAKE_TEST_PASS [wN b]).clearAlarm .BRAKE_TEST_OVERDUE b).clearAlarm .BRAKE_TEST_FAIL b
      else s.raiseAlarm .BRAKE_TEST_FAIL b
    s.safeBoth.completeCmd y.session y.seq stDone ([if pass then 0 else 1, 0, 0, 0] ++ bF rotP ++ bF rotL)

/-- t0 + 3.5 s: the result, with the rotation each technology has measured, in degrees. R437. -/
def execBrakeTestResult (t b : Nat) (rotP rotL : Rat) (s : State) : Res :=
  let s := s.arrive t
  guardUnit (between 1 b 4) b (if s.testAt b 2 3500000000 then s.testEnd b rotP rotL else s)

/-! ### Limited thrust and encoders (R438, R441) -/

/-- A violation of entry j stops its pairs. R438. -/
def State.sltViolate (s : State) (j : Nat) : State :=
  (s.modSafe (fun x => x.modEntry j (fun e => { e with violation := true }))).safeBoth

/-- The limit has been exceeded for SAFE_SLTj_TIME. R438. -/
def execSltViolation (t j : Nat) (s : State) : Res :=
  let s := s.arrive t
  guardUnit (between 1 j 4) j
    (if s.safeP ∧ (s.safe.entry j).active ∧ s.held (s.safe.entry j).overSince (s.safe.sltTime j * 1000000) then s.sltViolate j else s)

/-- A fault of a safety encoder: latched, the tests on it end, and an active entry on it is violated. R438, R441. -/
def State.encoderFault (s : State) (k : Nat) : State :=
  let s := s.modSafe (fun x => { x with
    encPresent := if x.encPresent.contains k then x.encPresent else x.encPresent ++ [k]
    encFault := if x.encFault.contains k then x.encFault else x.encFault ++ [k] })
  let s := (four.foldl (fun s b => if s.safe.brkEnc b = k then s.abortBrakeTest b else s) s).safetyFault 6 k
  let s := four.foldl (fun s j => if (s.safe.entry j).active ∧ s.safe.sltEnc j = k then s.sltViolate j else s) s
  s.safeBoth

/-- A safety encoder's fault is found, or its condition is gone. R441. -/
def execSafetyEncoderFault (t k : Nat) (present : Bool) (s : State) : Res :=
  let s := s.arrive t
  guardUnit (between 1 k 8) k
    (if ¬ present then s.modSafe (fun x => { x with encPresent := x.encPresent.filter (fun n => n ≠ k) })
    else if s.safeUp then s.encoderFault k else s)

/-! ### The supply (R441, R452) -/

/-- SSUP below 18 V. R441. -/
def execSsupLow (t : Nat) (s : State) : Res :=
  let s := s.arrive t
  .next ((s.modSafe (fun x => { x with ssupLow := true, ssupOkSince := none })).safeBoth.raiseAlarm .SSUP_LOW)

/-- SSUP at 18 V or above again. R441, R452. -/
def execSsupRestored (t : Nat) (s : State) : Res :=
  let s := s.arrive t
  .next (if s.safe.ssupLow then (s.modSafe (fun x => { x with ssupLow := false, ssupOkSince := some s.now })).safeBoth else s)

/-- SSUP_LOW clears after 1 s at 18 V or above. R452. -/
def State.safeFrame (s : State) : State :=
  if s.held s.safe.ssupOkSince 1000000000 then (s.modSafe (fun x => { x with ssupOkSince := none })).clearAlarm .SSUP_LOW else s

/-! ### The start test (R425, R443, R574) -/

/-- Both technologies start on the confirmed set; SAFE-STOP that R425 made ends. -/
def State.safeStart (s : State) : State :=
  let back : Bool := s.safe.safeStop && s.sys.safeStopBy = 0
  let before := s.safe
  let s := s.modSafe (fun x => { x with
    pHealthy := true, lHealthy := true, startDue := false, safeStop := x.safeStop && !back, tokenAt := s.now, differSince := none, encSpeed := []
    slBank := (x.confirmed.map slBytes).getD [], slPending := (x.pendingSet.map slBytes).getD []
    brk := x.brk.map (fun (k : Brake) => { k with hoursAt := s.now }) })
  let s := ((s.modSafe (fun x => (x.eval s.now).driveL.driveP)).noteDiffer.stopRecords before).clearAlarm .SAFE_PATH_FAULT
  if back ∧ s.sys.mode = .safeStop then s.setMode .standby 24 else s

/-- Channels STS1A to STS4B of a mask fail the off-pulse of the start test. R441, R443. -/
def State.startPulses (s : State) (mask : Nat) : State :=
  (List.range 8).foldl (fun s i => if mask.testBit i then s.stsFault (i / 2 + 1) i else s) s

/-- The start test of D4 and D5: whether the check value of the set in KEEP is right, whether SAFE-L's register set reads back, and the channels
that fail their off-pulse. Without a valid confirmed set every output stays off; a register set that does not read back is a fault of SAFE-L.
R425, R441, R443. -/
def execSafetyStartTest (t : Nat) (setOk : Bool) (s : State) (bankOk : Bool := true) (mask : Nat := 0) : Res :=
  let s := s.arrive t
  .next (if ¬ s.dom 4 ∨ ¬ s.dom 5 ∨ ¬ s.safe.startDue then s
    else
      let s := if setOk then s else s.modSafe (fun x => { x with confirmed := none })
      if bankOk then s.safeStart.startPulses mask
      else (s.modSafe (fun x => { x with startDue := false })).techFault 2 true false)

/-- D4 and D5 go down: every enable is removed, tests end. R422, R550, R578. -/
def State.safeDown (s : State) : State :=
  let s := four.foldl (fun s b => s.abortBrakeTest b) s
  s.modSafe (fun x => (({ x with pHealthy := false, lHealthy := false, startDue := true, encSpeed := [] } : SafeSt).driveL.driveP).eval s.now)

/-! ### The safety set (R447, R448) -/

/-- A generation brings a set: PENDING where it differs from the confirmed one (log 53). R447. -/
def State.safePend (s : State) (c : List Byte) : State :=
  if s.safe.confirmed = some c then s.modSafe (fun x => { x with pendingSet := none, slPending := [] })
  else s.modSafe (fun x => { x with pendingSet := some c, slPending := slBytes c })

/-- Confirmation: the pending set takes effect; what is stopped or set stays so until SAFE_RESET. R448. -/
def State.safeConfirm (s : State) : State :=
  let old := s.safe.confCrc
  let s := s.modSafe (fun x => { x with
    confirmed := x.pendingSet, slBank := x.slPending, pendingSet := none, slPending := []
    sts := x.sts.map (fun (q : StsPair) => { q with latched := q.latched || q.stopped })
    brk := x.brk.map (fun (k : Brake) => if k.isSet then { k with setReq := true, autoReq := false } else k) })
  s.safeBoth.event .SAFE_CFG_CONFIRMED [old, s.safe.confCrc]

/-! ### Points (R451) -/

/-- SAFE_STATE. -/
def SafeSt.stateCode (x : SafeSt) : Nat :=
  if x.safeStop then 2 else if x.confirmed.isNone then 3 else if x.sts.any (·.stopped) then 1 else 0

/-- SAFE_SIN. -/
def SafeSt.sinBits (x : SafeSt) : Nat := maskOf 16 (fun i => let c := x.inp (i / 2 + 1); if i % 2 = 0 then c.a else c.b)

/-- SAFE_SIN_FAULT. -/
def SafeSt.sinFaultBits (x : SafeSt) : Nat :=
  maskOf 24 (fun i => let c := x.inp (i % 8 + 1); if i < 8 then c.disc else if i < 16 then c.stuckA || c.stuckB else c.cross)

/-- SAFE_STS. -/
def SafeSt.stsBits (x : SafeSt) : Nat :=
  maskOf 20 (fun i =>
    if i < 8 then x.energised (i / 2 + 1) (i % 2 = 1)
    else
      let q := x.pair (i % 4 + 1)
      if i < 12 then q.stopped else if i < 16 then q.request else q.faulted)

/-- SAFE_BRK. -/
def SafeSt.brkBits (x : SafeSt) : Nat :=
  maskOf 16 (fun i =>
    let k := x.brake (i % 4 + 1)
    if i < 4 then k.gatesP && k.gatesL else if i < 8 then k.failed else if i < 12 then k.overdue else k.fault)

/-- SAFE_SLT. -/
def SafeSt.sltBits (x : SafeSt) : Nat :=
  maskOf 8 (fun i => let e := x.entry (i % 4 + 1); if i < 4 then e.active else e.violation)

/-- Released hours of brake b. -/
def State.brkH (s : State) (b : Nat) : Nat := s.safe.releasedNs s.now b / 3600000000000

/-- Points 3200 to 3209 as words. R453. -/
def State.safeWords (s : State) : List Nat :=
  let x := s.safe
  [x.stateCode, x.sinBits, x.sinFaultBits, x.stsBits, x.brkBits, x.sltBits, x.confCrc.toNat, (setCrc x.pendingSet).toNat, s.brkH 1, s.brkH 2]

/-- The points of the safety section. -/
def safePoints (s : State) : List (Nat × PVal × Half) :=
  let x := s.safe
  let g : Half := qGood
  [(3200, pvE x.stateCode, g), (3201, pvX x.sinBits, g), (3202, pvX x.sinFaultBits, g), (3203, pvX x.stsBits, g), (3204, pvX x.brkBits, g),
    (3205, pvX x.sltBits, g), (3206, pvU x.confCrc.toNat, g), (3207, pvU (setCrc x.pendingSet).toNat, g), (3208, pvU (s.brkH 1), g),
    (3209, pvU (s.brkH 2), g), (3210, pvU (s.brkH 3), g), (3211, pvU (s.brkH 4), g),
    (3212, pvX (b2n x.pHealthy + 2 * b2n x.lHealthy + 4 * b2n (!x.ssupLow)), g)]

/-! ### Commands (R453) -/

/-- SAFE_QUERY. -/
def opSafeQuery : OpDef := {
  code := 0x0A00, pair := false, readOnly := true
  run := fun s _ _ _ => (s, s.safeWords.flatMap (leBytes 4)) }

/-- SAFE-STOP entered through R11 on Single ends with SAFE_RESET once the domain runs again. R574. -/
def State.singleStop (s : State) : Bool := s.safe.safeStop && s.sys.safeStopBy = 1 && s.dom 2 && s.dom 3

/-- A SAFE_RESET in this unit. R431, R574. -/
def State.resetHere (s : State) : State :=
  let s := if s.singleStop then (s.modSafe (fun x => { x with safeStop := false })).setMode .standby 24 else s
  s.safeReset

/-- Whether a SAFE_RESET would clear anything. -/
def State.canReset (s : State) : Bool :=
  s.safeP && (s.singleStop || s.safe.resettable s.now || (s.alarmOn .SAFE_FAULT && !(s.safe.reset s.now).faultLatched))

/-- SAFE_RESET. -/
def opSafeReset : OpDef := {
  code := 0x0A01, pair := false, len := 4
  chk := fun s _ p => if 1 < fld p 0 1 then stBadParam else if s.canReset then stDone else stNotInMode
  run := fun s _ _ p =>
    let s := s.resetHere
    (if fld p 0 1 = 1 ∧ s.pairUnit then s.emit .resetToPeer else s, []) }

/-- Whether a brake test of brake b may start. R436, R441. -/
def State.mayTest (s : State) (b : Nat) : Bool :=
  let x := s.safe
  let c := x.brkChan b
  let p := s.parN .SAFE_THR_STS c
  s.safeP && s.red.commanding && (x.brake b).test.isNone && !(s.ach c).selected && (s.tch c).outT = 0 &&
    (match x.speed (x.brkEnc b) with
    | none => false
    | some v => decide (absQ v < x.brkSpeed b)) && between 1 p 4 && x.energised p false && x.energised p true

/-- SAFE_BRAKE_TEST. -/
def opSafeBrakeTest : OpDef := {
  code := 0x0A02, pair := false, role := 2, len := 4
  chk := fun s _ p =>
    let b := fld p 0 1
    if ¬ between 1 b 4 ∨ s.safe.brkChan b = 0 then stBadParam else if s.mayTest b then stAccepted else stNotInMode
  run := fun s n q p =>
    let b := fld p 0 1
    ((s.modSafe (fun x => x.modBrake b (fun k => { k with
      test := some { t0 := s.now, session := n, seq := q } }))).safeBoth, []) }

/-- SAFE_CFG_READ. -/
def opSafeCfgRead : OpDef := {
  code := 0x0A03, pair := false, readOnly := true, len := 4
  chk := fun s _ p =>
    if 1 < fld p 0 1 then stBadParam
    else if (if fld p 0 1 = 0 then s.safe.confirmed else s.safe.pendingSet).isSome then stDone else stNotInMode
  run := fun s _ _ p =>
    let c := if fld p 0 1 = 0 then s.safe.confirmed else s.safe.pendingSet
    (s, leBytes 4 (setCrc c).toNat ++ c.getD []) }

/-- SAFE_CFG_CONFIRM. R448. -/
def opSafeCfgConfirm : OpDef := {
  code := 0x0A04, pair := false, role := 2, len := 4
  chk := fun s _ p =>
    match s.safe.pendingSet with
    | none => stNotInMode
    | some c =>
      let v := fld p 0 4
      if v ≠ crc32c c ∨ v ≠ crc32c (slRebuild s.safe.slPending c) then stBadParam
      else if s.sys.mode = .hold ∨ ¬ s.safeP then stNotInMode else stDone
  run := fun s _ _ _ => (s.safeConfirm, []) }

/-- SAFE_STOP. R432. -/
def opSafeStop : OpDef := {
  code := 0x0A05, pair := false, role := 2, len := 4
  chk := fun s _ p => if 15 < fld p 0 1 then stBadParam else if s.dom 4 then stDone else stNotInMode
  run := fun s _ _ p => (s.requestStop (fld p 0 1), []) }

/-- A SAFE_RESET the peer has forwarded. R453. -/
def execSafeResetForwarded (t : Nat) (s : State) : Res :=
  let s := s.arrive t
  .next (if s.canReset then s.resetHere else s)

end Sys2Proof.Machine
end

