-- ==== Sys2Proof/Machine/DomOps.lean ====
section
/-!
DEFINITION. Power domains going down and coming up: what ends, what is lost and what starts (spec/01 R20, R22–R27, spec/11 R353,
spec/19 R550, R559, R564, R565, spec/20 R578).
-/
namespace Sys2Proof.Machine

/-! ### The integrator partition (R18–R20) -/

/-- The partition's jobs and transfers receive their final status. -/
def State.partEnd (s : State) : State := s.dmaPartStop.henPartEnd.henSettle

/-- The partition stops: it runs no more, and its items end as R27 says, with the record of R25. R20. -/
def State.partStop (s : State) (why : Nat) : State :=
  let s : State := { s with part := { s.part with startDue := none } }
  if ¬ s.part.running then s
  else
    let js := s.partJobs
    let ds := (s.dma.chans.drop 24).filterMap (fun c => c.desc.map (fun d => d.tag.toNat))
    let done := (js.filter HenJob.started).length
    (State.partEnd { s with part := { s.part with running := false } }).disableItems .DIS_PARTITION 0 why done
      ((js.filter (fun j => !j.started)).map HenJob.idShown ++ ds)

/-- The partition starts from its active image, once its earlier jobs have ended; `again` names a restart. R20. -/
def State.partStart (s : State) (again : Bool) (cause : Nat) : State :=
  if s.part.present ∧ ¬ s.part.stoppedByFaults ∧ ¬ s.part.running then
    State.partGo { s with part := { s.part with startDue := some (again, cause) } }
  else s

/-! ### Down -/

/-- Replies that the MRAM gives back: whole where an entry is held, the status alone where only its word is. R353. -/
def State.rebuildReplies (s : State) : State :=
  let build (x : Session) : Session :=
    let es := s.cmd.journal.filter (fun e => e.session = x.num)
    let whole := es.map (fun (e : JEntry) => ({
      seq := e.seq, opcode := e.opcode, status := e.status, flags := fgReply ||| (if e.accepted && e.state = .complete then fgCompletion else 0) ||| (if e.single then fgSingle else 0) |||
        (if x.auth then fgAuth else 0), epoch := e.epoch
      params := some e.reply, complete := e.state = .complete || e.state = .refused } : KeptReply))
    let rest := (x.replies.filter (fun r => !es.any (fun e => e.seq = r.seq))).map (fun (r : KeptReply) => { r with params := none })
    { x with replies := (whole.reverse ++ rest).take 1024, held := [] }
  { s with cmd := { s.cmd with sessions := s.cmd.sessions.map build } }

/-- APP-0 is reset: references, estimator, hold, allocation and consequence analysis start anew, and the counters of the frame. Commands that
were answered and wait for a fence, and queries not yet complete, go on waiting. R23, R27, R53, R565. -/
def State.d2Reset (s : State) : State :=
  let f := s.frame
  { s with
    est := { pendSelect := s.est.pendSelect, pendRetry := s.est.pendRetry, pendReinit := s.est.pendReinit, dueReinit := s.est.dueReinit }
    hold := { pend := s.hold.due ++ s.hold.pend }
    cqa := { pendEnable := s.cqa.pendEnable, whatif := s.cqa.whatif.map (fun (w : WhatIf) => { w with prob := none }) }
    alc := { retained := s.alc.retained, retainedGen := s.alc.retainedGen, retainedOk := s.alc.retainedOk
             retainedModel := s.alc.retainedModel, savedAt := s.now, pendSelect := s.alc.pendSelect, pendBerm := s.alc.pendBerm
             pendLearnReset := s.alc.pendLearnReset }
    frame := { running := f.running, number := f.number, startT := f.startT, startAt := f.startAt, startRaw := f.startRaw
               started := f.started, length := f.length, stepHoldoff := f.stepHoldoff, renumberFrom := f.renumberFrom
               stepAtFrame := f.stepAtFrame, stallGaveUp := f.stallGaveUp, phaseCommit := f.phaseCommit, peerSkew := f.peerSkew } }

/-- APP-1 is reset: the partition ends, packets held are gone, entries in flight stay in the journal, and what it knew of its partners is
lost. R353, R361, R418. -/
def State.d3Reset (s : State) : State :=
  let s := (s.partStop 16).rebuildReplies
  let c := s.cmd
  let r := s.red
  { s with
    cmd := { sessions := c.sessions, nextSession := c.nextSession, journal := c.journal, jnum := c.jnum, jtail := c.jtail
             accepted := c.accepted, toApply := c.toApply, replayDone := false, takeoverDue := c.takeoverDue }
    pnt := { s.pnt with subs := [] }
    red := { unit := r.unit, strap := r.strap, uidChanged := r.uidChanged, epochHeld := s.keep.epochRetained, epochSeen := s.keep.epochRetained
             lease := { startedAt := s.now }, rotateAge := r.rotateAge, rotateAgeAt := s.now
             check := { failedSince := r.check.failedSince, last := r.check.last } } }

/-- D10 goes down: every frame, sentence and sealed set ends, every path is off. R27, R478, R578. -/
def State.d10Down (s : State) : State :=
  let s := [1, 2, 3, 4].foldl (fun s n =>
    let s := if (s.port n).frames.isEmpty then s else (s.disablePort n abDisabled).abortPort n abDisabled
    s.modPort n (fun p => { p with state := 0, detect := none, foreign := false, term := false })) s
  let s := [1, 2, 3, 4].foldl (fun s n => match (s.port n).recover with
    | none => s
    | some (a, q, _) => (s.modPort n (fun p => { p with recover := none })).completeCmd a q stAborted []) s
  let s := (List.range 12).foldl (fun s i =>
    (if ((s.ser (i + 1)).txq).isEmpty then s else s.serDisable (i + 1) 1).modSer (i + 1) (fun p => { p with term := false })) s
  { s with
    thr := { s.thr with auth := false, aoHoldUntil := none, chans := s.thr.chans.map (fun (x : ThrChan) =>
      { x with sealed := false, latch := false, abortedF := x.abortedF || x.sealed, q := 0, outT := 0, outRun := false }) }
    bus := { s.bus with ao := List.replicate 16 0 } }

/-- D9 goes down: frames and clocks stop, pulses end. R27, R30. -/
def State.d9Down (s : State) : State :=
  let s := (List.range 6).foldl (fun s k => if (s.pulse k).armed then s.pulseDisarm k else s) s
  { s with frame := { s.frame with running := false } }

/-- Jobs and completion entries that a reset of D1 takes from the queues: KEEP records how many, as it does for transfers. R23, R25, R514. -/
def State.henReset (s : State) : State :=
  (List.range 4).foldl (fun s q =>
    let ids := (s.hq q).jobs.map (fun j => wN j.idShown) ++ (s.hq q).done.map (fun d => d.tag)
    if ids.isEmpty then s
    else s.direct .DIS_HEN_QUEUE clsDisable [wN q, wN 0, wN 0, wN ids.length, ids.headD 0, ids.getLastD 0]) s

/-- D1 goes down: transfers and jobs end, the DRAM, the points and the recorder's queue are lost. R514, R537, R565. -/
def State.d1Down (s : State) : State :=
  let s := s.logReset.dmaReset.henReset
  { s with
    dram := {}, hen := { cl0 := { powered := s.hen.cl0.powered }, cl1 := { powered := s.hen.cl1.powered } }, pnt := { svyGen := s.pnt.svyGen, svyLive := s.pnt.svyLive, nextSub := s.pnt.nextSub }
    cfg := { s.cfg with staging := [], validated := none } }

/-- The SRAM of a cluster loses its contents with the cluster's power. -/
def State.sramLost (s : State) (k : Nat) : State :=
  { s with dma := if k = 0 then { s.dma with sram0 := [] } else { s.dma with sram1 := [] } }

/-- A domain goes down at once: its items end as R27 says, and its power goes. -/
def State.domDown (s : State) (d : Nat) : State :=
  if ¬ s.dom d then s
  else
    let s := match d with
      | 1 => s.d1Down
      | 2 => s.d2Reset
      | 3 => s.d3Reset
      | 4 => s.safeDown
      | 5 => s.safeDown
      | 6 => ((s.clStop 0).dmaClusterLost 0).sramLost 0
      | 7 => ((s.clStop 1).dmaClusterLost 1).sramLost 1
      | 8 => s.satDown
      | 9 => s.d9Down
      | 10 => s.d10Down
      | 11 => s.fioDown 1
      | _ => s
    (s.setDom d false).henSettle

/-! ### Up -/

/-- The termination switches of the ports as the parameters ask, closed only while D10 powers the ports. R499, R608, R609. -/
def State.busTerm (s : State) : State :=
  { s with bus := { s.bus with
    can := (List.range 4).map (fun i => { s.port (i + 1) with term := s.dom 10 && s.parB .BUS_CAN_TERM (i + 1) })
    ser := (List.range 12).map (fun i => { s.ser (i + 1) with term := s.dom 10 && s.parB .BUS_SER_TERM (i + 1) }) } }

/-- The CAN and serial ports as D10 comes up. A port is configured where a generation other than the base set is in force (log 70). What a
standing alarm waits for is kept. R481, R486, R497. -/
def State.busUp (s : State) : State :=
  let port (i : Nat) : CanPort :=
    let old := s.port (i + 1)
    let auto := s.parB .BUS_CAN_AUTO (i + 1)
    { state := if s.cfg.base then 0 else if auto then 1 else 2
      nom := s.parN .BUS_CAN_NOM (i + 1), dat := s.parN .BUS_CAN_DATA (i + 1) * 1000
      detect := if auto && !s.cfg.base then some { since := s.now } else none, activeSince := some s.now
      overrunAt := old.overrunAt, clashSeen := old.clashSeen }
  State.busTerm { s with bus := { can := (List.range 4).map port } }

/-- A domain comes up: its power, and its state as the spec says it starts. R559. -/
def State.domUp (s : State) (d : Nat) : State :=
  if s.dom d then s
  else
    let s := s.setDom d true
    match d with
    | 1 => State.logUp { s with pnt := { s.pnt with countFrom := s.now } }
    | 2 => s.learnRestore
    | 3 => (s.modRed (fun r => { r with lease := { startedAt := s.now } })).partStart false 0
    | 6 => s.clUp 0
    | 7 => s.clUp 1
    | 8 => s.satUp
    | 9 => State.tmuUp { s with frame := { running := decide (s.sys.mode ≠ .keep) } } s.keptTime
    | 10 => s.thrUp.busUp
    | 11 => s.fioUp
    | _ => s

/-- What the functions hold that R27 names: kind, place and the id that a record shows. R23, R25. -/
def State.heldItems (s : State) : List (Nat × Nat × Nat) :=
  (List.range 4).flatMap (fun q => (s.hq q).jobs.map (fun j => (0, j.id, j.idShown))) ++
  (List.range 32).filterMap (fun n => (s.dch n).desc.map (fun d => (1, n, d.tag.toNat))) ++
  [1, 2, 3, 4].flatMap (fun n => (List.range 64).flatMap (fun b =>
    let x := (s.port n).boxes.getD b {}
    (if x.cur.isSome then [(2, 128 * n + 2 * b, b)] else []) ++ (if x.behind.isSome then [(2, 128 * n + 2 * b + 1, b)] else []))) ++
  (List.range 12).flatMap (fun i => (List.range ((s.ser (i + 1)).txq).length).map (fun k => (3, 16 * i + k, i + 1))) ++
  thrAll.filterMap (fun c => if (s.tch c).sealed then some (4, c, c) else none) ++
  (List.range 6).filterMap (fun k => if (s.pulse k).armed then some (5, k, k) else none) ++
  fioAll.filterMap (fun c => ((s.fch c).pulse).map (fun y => (6, c, y.seq)))

/-- Domains down by a drain, with the record of R25: what was accepted and is held no longer has been returned. R25, R27, R578. -/
def State.drainDown (s : State) (d : Nat) (ds : List Nat) : State :=
  let before := s.heldItems
  let s := ds.foldl State.domDown s
  let after := s.heldItems
  s.disableItems .DIS_DOMAIN d 24 0 ((before.filter (fun e => !after.contains e)).map (fun e => e.2.2))

/-- Domains go down in the order of R550. -/
def State.allDown (s : State) (ds : List Nat) : State :=
  ([11, 10, 8, 7, 6, 3, 2, 9, 1, 4, 5].filter (fun d => ds.contains d)).foldl State.domDown s

/-- Domains come up in the order of R559. -/
def State.allUp (s : State) (ds : List Nat) : State :=
  ([1, 9, 4, 5, 2, 3, 8, 6, 7, 10, 11].filter (fun d => ds.contains d)).foldl State.domUp s

/-- Every domain except D0. -/
def allDoms : List Nat := [1, 2, 3, 4, 5, 6, 7, 8, 9, 10, 11]

/-! ### Alarms of a restart (R565) -/

/-- Alarm states are not retained: none stands after a start. -/
def State.dropAlarms (s : State) : State := { s with alarms := [] }

/-- The conditions of the safety section that outlast a start raise their alarms again. -/
def State.safeAlarms (s : State) : State :=
  let s := s.alarmIf s.safe.faultLatched .SAFE_FAULT
  let s := four.foldl (fun s b => (s.alarmIf (s.safe.brake b).failed .BRAKE_TEST_FAIL b).overdue b) s
  s.alarmIf s.safe.ssupLow .SSUP_LOW

end Sys2Proof.Machine
end

