-- ==== Sys2Proof/Machine/Points.lean ====
section
/-!
DEFINITION. The point table: producers, timeouts, writes of the partition, subscriptions and the point commands (spec/12).
-/
namespace Sys2Proof.Machine

/-- PNT_PRODUCER of a point whose producer is the partition (log 60). -/
def prodPartition : Nat := 512
/-- PNT_PRODUCER of a point whose producer is command (log 60). -/
def prodCommand : Nat := 513

/-- Whether a point's producer is the one numbered `k`. R387. -/
def State.producedBy (s : State) (p k : Nat) : Bool := cfgPoint p && s.cfgType p ≠ 0xFF && s.par? .PNT_PRODUCER p = some (k : Rat)

/-- A valid message of configured producer k writes one of its points; a value its type cannot hold is BAD with RANGE.
R375, R377, R378. -/
def State.prodWrite (s : State) (p k : Nat) (v : Dword) (ts : Nat) : State :=
  if ¬ s.prodCfg k then s
  else
    let x := s.prod k
    let s := s.setProd k { x with state := 1, lastMsg := s.now }
    let s := if x.state = 2 then (s.event .PNT_PRODUCER_BACK [wN k]).silentAlarm else s
    let src := BitVec.ofNat 16 (0x8000 + k)
    if ¬ s.producedBy p k then s
    else if encodedFor (s.cfgType p) v then s.producerWrite p v ts qGood src
    else s.producerWrite p v ts (qBad ||| rRange) src

/-- A producer's message writes a point. -/
def execProducerWrite (t p src : Nat) (value : Dword) (ts : Nat) (s : State) : Res :=
  let s := s.arrive t
  guardUnit (decide (src < 512)) src (if s.dom 1 then (s.prodWrite p src value ts).fioFollow else s)

/-- A configured producer is SILENT after PNT_PRODk_TIMEOUT: its points turn STALE or are substituted. R378, R379. -/
def State.prodSilent (s : State) (k : Nat) : State :=
  let x := s.prod k
  if s.prodCfg k ∧ x.state = 1 ∧ s.past x.lastMsg (s.parMs .PNT_PROD_TIMEOUT k) then
    let s := s.setProd k { x with state := 2 }
    (((s.pointsOf k).foldl (fun s p => if s.producedBy p k then s.stale p rNoProducer else s) s).event .PNT_PRODUCER_LOST
      [wN k]).silentAlarm
  else s

/-- A producer's timeout. -/
def execProducerTimeout (t k : Nat) (s : State) : Res :=
  let s := s.arrive t
  guardUnit (decide (k < 512)) k (if s.dom 1 then (s.prodSilent k).fioFollow else s)

/-- Whether a point, or what is kept behind its force, already shows that it timed out or is substituted. -/
def State.timedShown (s : State) (p : Nat) : Bool :=
  let q : Half := match s.force? p with
    | none => (s.point p).qual
    | some f => match f.kept with
      | none => qSubst ||| rTimeout
      | some k => k.qual
  (qState q = 5 || qState q = 3) && (q &&& rTimeout) ≠ 0

/-- A point's own timeout. R378. -/
def execPointTimeout (t p : Nat) (s : State) : Res :=
  let s := s.arrive t
  guardUnit (cfgPoint p) p (if s.dom 1 ∧ s.pointTimedOut p ∧ ¬ s.timedShown p then (s.stale p rTimeout).fioFollow else s)

/-! ### Writes of the partition (R382, R383) -/

/-- Whether a quality word may be written: GOOD, UNCERTAIN or BAD, and no reserved bit. R382, R383. -/
def qWritable (q : Half) : Bool := qState q ≤ 2 && q.toNat < 0x1000

/-- The result of a staged write: the first check that fails. R382. -/
def State.wrCheck (s : State) : Nat :=
  let p := s.pnt.wrIdx
  if ¬ cfgPoint p ∨ s.cfgType p = 0xFF then 2
  else if ¬ s.producedBy p prodPartition then 1
  else if ¬ qWritable s.pnt.wrQual then 3
  else if ¬ encodedFor (s.cfgType p) s.pnt.wrVal then 6
  else if s.sel < s.pnt.wrTime.toNat then 4
  else if (s.force? p).isSome then 5
  else 0

/-- PNT_WR_GO: the staged write is checked and made; one kept behind a force is kept. -/
def State.wrGo (s : State) : State :=
  let r := s.wrCheck
  let s := { s with pnt := { s.pnt with wrStat := r } }
  if r = 0 ∨ r = 5 then
    let ts : Nat := if s.pnt.wrTime = 0 then s.sel else s.pnt.wrTime.toNat
    let s := s.producerWrite s.pnt.wrIdx s.pnt.wrVal ts s.pnt.wrQual 0xFFFE
    { s with pnt := { s.pnt with writes := s.pnt.writes + 1 } }
  else s

/-- A write of PNT_WR_GO by the partition. -/
def execPntWrGo (t : Nat) (s : State) : Res :=
  let s := s.arrive t
  .next (if s.part.running ∧ s.dom 1 then s.wrGo.fioFollow else s)

/-! ### Notifications (R385) -/

/-- What a subscription reports now: every point, or those whose sequence or quality changed. -/
def State.subReport (s : State) (b : Subscr) : List Nat :=
  if ¬ b.onChange then b.points
  else b.points.filter (fun p =>
    let x := s.point p
    match b.last.find? (fun e => e.1 = p) with
    | none => true
    | some e => decide (e.2.1 ≠ x.seq ∨ e.2.2 ≠ x.qual))

/-- The parameters of a POINT_NOTIFY. -/
def State.notifyBytes (s : State) (b : Subscr) (ps : List Nat) : List Byte :=
  leBytes 2 b.num ++ leBytes 2 ps.length ++ leBytes 4 b.counter.toNat ++
    ps.flatMap (fun p => leBytes 4 p ++ (s.point p).bytes)

/-- Whether the unit sends a session's notifications: its own, or a pair session's where it holds pair authority. A mirrored subscription on the
other unit counts with it and sends nothing. -/
def State.notifies (s : State) (x : Session) : Bool := !x.pair || !s.pairUnit || s.cmd.pairAuth

/-- A subscription sends a notification between F+19 and F+20 ms where it is due; none while the session is DORMANT. -/
def State.notify (s : State) (b : Subscr) : State :=
  match s.sess? b.session with
  | none => s
  | some x =>
    let ps := s.subReport b
    if x.dormant ∨ x.closing ∨ b.wait < b.period ∨ ps.isEmpty then s
    else
      let b' : Subscr := { b with
        counter := b.counter + 1, wait := 0
        last := b.points.map (fun p => (p, (s.point p).seq, (s.point p).qual)) }
      let s := { s with pnt := { s.pnt with subs := s.pnt.subs.map (fun (y : Subscr) => if y.num = b.num then b' else y) } }
      if s.notifies x then s.sendPkt { x with iface := b.iface, addr := b.addr, port := b.port } 0 0 0x0817 stDone (s.notifyBytes b ps) else s

/-- The instant of a frame at which notifications go. -/
def execPointNotify (t sub : Nat) (s : State) : Res :=
  let s := s.arrive t
  match s.pnt.subs.find? (fun b => b.num = sub) with
  | none => .next s
  | some b =>
    .next (if s.frame.running ∧ between (s.frame.startAt + 19000000) s.now (s.frame.startAt + 20000000) then s.notify b else s)

/-- Frames since the last notification, counted at a frame start. -/
def State.subsFrame (s : State) : State :=
  { s with pnt := { s.pnt with subs := s.pnt.subs.map (fun (b : Subscr) => { b with wait := b.wait + 1 }) } }

/-- The points of PNT. R386. -/
def pntPoints (s : State) : List (Nat × PVal × Half) :=
  [(2960, pvU (s.prodsIn 1).length, qGood), (2961, pvU (s.prodsIn 2).length, qGood),
    (2962, pvU (s.pnt.producers.filter (fun e => 512 ≤ e.1)).length, qGood), (2963, pvU s.pnt.forced.length, qGood),
    (2964, pvU s.pnt.subs.length, qGood)]

/-! ### Commands (R384) -/

/-- POINT_READ. -/
def opPointRead : OpDef := {
  code := 0x0810, pair := true, readOnly := true, len := 8
  chk := fun _ _ p => if between 1 (fld p 4 2) 43 && fld p 0 4 + fld p 4 2 ≤ 131072 then stDone else stBadParam
  run := fun s _ _ p =>
    (s, p.take 8 ++ (List.range (fld p 4 2)).flatMap (fun i => (s.point (fld p 0 4 + i)).bytes)) }

/-- The write of POINT_WRITE, at its timestamp or now. R384. -/
def State.writeCmd (s : State) (p : List Byte) : State :=
  let ts : Nat := if fld p 16 8 = 0 then s.sel else fld p 16 8
  (s.producerWrite (fld p 0 4) (BitVec.ofNat 64 (fld p 8 8)) ts (BitVec.ofNat 16 (fld p 4 2)) 0xFFFD).fioFollow

/-- POINT_WRITE. -/
def opPointWrite : OpDef := {
  code := 0x0811, pair := true, role := 2, len := 24
  chk := fun s _ p =>
    let pt := fld p 0 4
    if s.producedBy pt prodCommand ∧ qWritable (BitVec.ofNat 16 (fld p 4 2)) ∧ encodedFor (s.cfgType pt) (BitVec.ofNat 64 (fld p 8 8))
    then stDone else stBadParam
  run := fun s _ _ p => (s.writeCmd p, []) }

/-- Whether a point may not be forced in HOLD: source of a selected slot, or a joystick axis. R380. -/
def State.forceBarred (s : State) (p : Nat) : Bool :=
  s.sys.mode = .hold &&
    ((List.range 28).any (fun i => s.par? .REF_SOURCE i = some (p : Rat) && (s.est.slots.getD i {}).selected) ||
      s.par? .HOLD_JOY_X_PT = some (p : Rat) || s.par? .HOLD_JOY_Y_PT = some (p : Rat) || s.par? .HOLD_JOY_N_PT = some (p : Rat))

/-- POINT_FORCE. R380. -/
def opPointForce : OpDef := {
  code := 0x0812, pair := true, role := 2, len := 16
  chk := fun s _ p =>
    let pt := fld p 0 4
    if ¬ cfgPoint pt ∨ ¬ encodedFor (s.cfgType pt) (BitVec.ofNat 64 (fld p 8 8)) then stBadParam
    else if s.forceBarred pt then stNotInMode
    else stDone
  run := fun s _ _ p => ((s.forcePoint (fld p 0 4) (BitVec.ofNat 64 (fld p 8 8))).fioFollow, []) }

/-- POINT_UNFORCE. R380. -/
def opPointUnforce : OpDef := {
  code := 0x0813, pair := true, role := 2, len := 4
  chk := fun s _ p => if ¬ cfgPoint (fld p 0 4) then stBadParam else if (s.force? (fld p 0 4)).isNone then stNotInMode else stDone
  run := fun s _ _ p => ((s.unforcePoint (fld p 0 4)).fioFollow, []) }

/-- The points a POINT_SUBSCRIBE names. -/
def subPoints (p : List Byte) : List Nat := (List.range (fld p 0 2)).map (fun i => fld p (8 + 4 * i) 4)

/-- The number of the next subscription: the next one that none has (log 115). R384. -/
def State.subNum (s : State) : Nat :=
  let at_ (i : Nat) : Nat := (s.pnt.nextSub + i - 1) % 65535 + 1
  at_ (((List.range 129).find? (fun i => s.pnt.subs.all (fun b => b.num ≠ at_ i))).getD 0)

/-- POINT_SUBSCRIBE. A subscription on change reports what changes after it is made. R384, R385. -/
def opPointSubscribe : OpDef := {
  code := 0x0814, pair := true, len := 12
  chk := fun s n p =>
    if ¬ between 1 (fld p 0 2) 38 ∨ 1 < fld p 2 1 ∨ ¬ between 1 (fld p 3 1) 250 ∨ p.length < 8 + 4 * fld p 0 2 ∨
        (subPoints p).any (fun x => 131071 < x) then stBadParam
    else if 4 ≤ (s.pnt.subs.filter (fun b => b.session = n)).length ∨ 128 ≤ s.pnt.subs.length then stJournalFull
    else stDone
  run := fun s n _ p =>
    let x := (s.sess? n).getD {}
    let num := s.subNum
    let b : Subscr := {
      num := num, session := n, points := subPoints p, onChange := decide (fld p 2 1 = 1), period := fld p 3 1
      last := (subPoints p).map (fun q => (q, (s.point q).seq, (s.point q).qual))
      iface := x.iface, addr := x.addr, port := x.port }
    ({ s with pnt := { s.pnt with subs := s.pnt.subs ++ [b], nextSub := num % 65535 + 1 } }, leBytes 2 num) }

/-- POINT_UNSUBSCRIBE. R384. -/
def opPointUnsubscribe : OpDef := {
  code := 0x0815, pair := true, len := 4
  chk := fun s n p => if s.pnt.subs.any (fun b => b.num = fld p 0 2 && b.session = n) then stDone else stBadParam
  run := fun s _ _ p => ({ s with pnt := { s.pnt with subs := s.pnt.subs.filter (fun b => b.num ≠ fld p 0 2) } }, []) }

/-- One entry of PRODUCER_LIST; a producer not seen yet shows all ones as its age (log 115). R384. -/
def State.producerEntry (s : State) (k : Nat) : List Byte :=
  let x := s.prod k
  let ms : Nat := if x.state = 0 then 2 ^ 32 - 1 else (s.now - x.lastMsg) / 1000000
  if k < 512 then
    leBytes 2 k ++ [byte x.state, byte (s.parN .PNT_PROD_TRANSPORT k)] ++ leBytes 4 (s.parN .PNT_PROD_ID k) ++
      leBytes 2 (if s.parN .PNT_PROD_TRANSPORT k = 2 then s.parN .PNT_PROD_UDP k else 0) ++ leBytes 2 (s.pointsOf k).length ++
      leBytes 4 (min ms (2 ^ 32 - 1)) ++ slice 0 16 ((s.parL .PNT_PROD_NAME k).map (fun q => byte (natOf q)))
  else
    leBytes 2 k ++ [3, byte x.transport] ++ leBytes 4 x.id.toNat ++ leBytes 2 (if x.transport = 2 then x.udp else 0) ++ leBytes 2 0 ++
      leBytes 4 (min ms (2 ^ 32 - 1)) ++ zeros 16

/-- PRODUCER_LIST. -/
def opProducerList : OpDef := {
  code := 0x0816, pair := true, readOnly := true, len := 4
  chk := fun _ _ p => if fld p 0 2 ≤ 575 then stDone else stBadParam
  run := fun s _ _ p =>
    let ks := ((List.range 576).filter (fun k =>
      fld p 0 2 ≤ k && (if k < 512 then s.prodCfg k else (assoc s.pnt.producers k).isSome))).take 40
    (s, leBytes 2 ks.length ++ zeros 6 ++ ks.flatMap s.producerEntry) }

end Sys2Proof.Machine
end

