-- ==== Sys2Proof/Machine/CfgOps.lean ====
section
/-!
DEFINITION. Configuration generations: the body and its checks, validation, commit, application and the copies in the MRAM (spec/19 R561–R563,
spec/20 R584–R589, and the consistency rules the chapters assign to CFG_COMMIT).
-/
namespace Sys2Proof.Machine

/-! ### The body (R584, R585) -/

/-- One record of a body, and its place in it. -/
structure CfgRec where
  num : Nat := 0
  idx : Nat := 0
  off : Nat := 0
  val : List Byte := []
  deriving DecidableEq, Repr

/-- Why a body fails: the reason, and the record's offset and number where one record fails alone. Reasons: 1 the length or the CRC, 2 the
record format, 3 a number or an index the catalogue does not hold, 4 a length, range or step, 16 and above a rule over the whole body. -/
structure CfgFail where
  reason : Nat := 0
  at_ : Option (Nat × Nat) := none
  deriving DecidableEq, Repr

/-- The records of a body from an offset, in ascending order of number and index; `fuel` bounds their count. -/
def cfgRecs : Nat → Nat → Nat → List Byte → List CfgRec × Option CfgFail
  | 0, _, _, _ => ([], none)
  | fuel + 1, off, last, bs =>
    if bs.isEmpty then ([], none)
    else
      let num := fld bs 0 2
      let idx := fld bs 2 2
      let len := fld bs 4 2
      let whole := 8 + (len + 7) / 8 * 8
      let key := num * 65536 + idx + 1
      if bs.length < whole ∨ fld bs 6 2 ≠ 0 ∨ key ≤ last ∨ ((bs.take whole).drop (8 + len)).any (fun b => b ≠ 0) then
        ([], some { reason := 2, at_ := some (off, num) })
      else
        let r := cfgRecs fuel (off + whole) key (bs.drop whole)
        (({ num := num, idx := idx, off := off, val := slice 8 len bs } : CfgRec) :: r.1, r.2)

/-- Every record of a body. -/
def cfgBody (b : List Byte) : List CfgRec × Option CfgFail := cfgRecs (b.length / 8 + 1) 0 0 b

/-- The values of a parameter whose range is a list of them; 0 stands for a data rate of none. R271, R303, R499. -/
def parValues (p : Param) : Option (List Rat) :=
  match p with
  | .SAT_RATE => some [1, 2, 5, 10, 20]
  | .BUS_CAN_NOM => some [125, 250, 500, 1000]
  | .BUS_CAN_DATA => some [0, 2, 5, 8]
  | .THR_ENC_DIR => some [-1, 1]
  | _ => none

/-- Whether a value of a parameter lies outside a gap of its range: 0, or 10 at least; a character format has a parity. R303, R387, R490. -/
def parGap (p : Param) (q : Rat) : Bool :=
  match p with
  | .SAT_WAKE_INTERVAL => q = 0 || decide (10 ≤ q)
  | .PNT_TIMEOUT => q = 0 || decide (10 ≤ q)
  | .BUS_SER_FORMAT => decide (natOf q < 16) && decide (natOf q / 2 % 4 ≠ 3)
  | _ => true

/-- Whether a value lies in the range and on the step of its parameter. -/
def parAdmits (p : Param) (q : Rat) : Bool :=
  (match parValues p with
   | some l => l.contains q
   | none => true) && parGap p q &&
  match p.range with
  | none => true
  | some (lo, hi) => decide (lo ≤ q) && decide (q ≤ hi) && (match p.stepSize with
    | none => true
    | some st => ((q - lo) / st).den = 1)

/-- Whether a list holds the characters of a text of at most n. -/
def isText (n : Nat) (l : List Rat) : Bool := l.length ≤ n && l.all (fun q => decide (q.den = 1) && decide (0 ≤ q) && decide (q < 128))

/-- The pairs of a list. -/
def pairsOf (l : List Rat) : List (Rat × Rat) := (List.range (l.length / 2)).map (fun i => (nth l (2 * i), nth l (2 * i + 1)))

/-- Whether an item of a snapshot list names a point, or a register of the integrator window. R528. -/
def snapNames (q : Rat) : Bool :=
  let w := natOf q
  decide (q.den = 1) && (if w.testBit 31 then decide (w / 2 ^ 28 = 8) && w % 4 = 0 else decide (w < 131072))

/-- Whether a parser definition has the shape R493 gives it. -/
def binShape (l : List Rat) : Bool :=
  let g (i : Nat) : Nat := natOf (nth l i)
  l.isEmpty || (decide (11 ≤ l.length) && (l.length - 11) % 6 = 0 && decide ((l.length - 11) / 6 ≤ 24) && between 1 (g 0) 4 &&
    (g 5 ≠ 0 || between 1 (g 6) 256) && decide (g 7 % 8 < 7) && decide (g 8 ≤ 4) &&
    (List.range ((l.length - 11) / 6)).all (fun i => decide (g (12 + 6 * i) ≤ 6)))

/-- Whether a list or a text lies in the range of its parameter. R133, R194, R332, R387, R492–R495, R499, R542. -/
def listAdmits (p : Param) (l : List Rat) : Bool :=
  match p with
  | .HOLD_WIND_CX | .HOLD_WIND_CY | .HOLD_WIND_CN => l.length = 36 && l.all (fun q => decide (-3 ≤ q) && decide (q ≤ 3))
  | .CQA_NAME | .PNT_PROD_NAME => isText 16 l
  | .BUS_SER_TALKER => l.length = 2 && isText 2 l
  | .BUS_CAN_RATES => l.length % 2 = 0 && decide (l.length ≤ 16) && (pairsOf l).all (fun e => parAdmits .BUS_CAN_NOM e.1 && parAdmits .BUS_CAN_DATA e.2)
  | .BUS_SER_TX => l.length % 2 = 0 && (pairsOf l).all (fun e => [0, 1, 2].contains e.1 && decide (100 ≤ e.2) && decide (e.2 ≤ 10000))
  | .LOG_SNAP_LIST => decide (l.length ≤ 256) && l.all snapNames
  | .BUS_BIN => binShape l
  | .BUS_SMAP => l.isEmpty || (l.length = 10 && decide (natOf (nth l 3) ≤ 7))
  | _ => l.all (fun q => decide (q.den = 1) && decide (0 ≤ q))

/-- Why a record fails by itself; 0 where it does not. -/
def CfgRec.bad (r : CfgRec) : Nat :=
  match Config.catalogue r.num r.idx with
  | none => 3
  | some (p, i) =>
    if ¬ between p.indices.1 i p.indices.2 then 3
    else if p.listed then (if listAdmits p (Config.decodeList p r.val) then 0 else 4)
    else if r.val.length ≠ Config.valueLength p ∨ ¬ parAdmits p (Config.decodeValue p r.val) then 4
    else 0

/-- The plain values of a body's records. -/
def cfgOver (l : List CfgRec) : List ((Param × Nat) × Rat) :=
  l.filterMap (fun r => match Config.catalogue r.num r.idx with
    | some (p, i) => if p.listed then none else some ((p, i), Config.decodeValue p r.val)
    | none => none)

/-- The lists and texts of a body's records. -/
def cfgLists (l : List CfgRec) : List ((Param × Nat) × List Rat) :=
  l.filterMap (fun r => match Config.catalogue r.num r.idx with
    | some (p, i) => if p.listed then some ((p, i), Config.decodeList p r.val) else none
    | none => none)

/-- The state with a body's parameters in force. -/
def State.withBody (s : State) (b : List Byte) : State :=
  let l := (cfgBody b).1
  { s with cfg := { s.cfg with given := cfgOver l, lists := cfgLists l } }

/-! ### Consistency rules; each is asked of the state with the body in force -/

/-- At most one position slot from each of SAT's solutions, and one heading slot from its attitude. R56. -/
def State.okSat (s : State) : Bool :=
  let feeds (k p : Nat) : Nat := (slotAll.filter (fun i => s.slotKind i = k && s.slotSrc i = some p)).length
  feeds 0 2690 ≤ 1 && feeds 0 2695 ≤ 1 && feeds 1 2700 ≤ 1

/-- The mass and damping values are there. R94. -/
def State.okMass (s : State) : Bool :=
  [Param.EST_M11, .EST_M22, .EST_M33, .EST_D11, .EST_D22, .EST_D33].all (fun p => (s.par? p).isSome)

/-- A section with channels assigned has its conservative values. R152. -/
def State.okSections (s : State) : Bool :=
  four.all (fun n => !(thrAll.any (fun c => s.tconf c && s.parN .ALC_SECTION c = n)) ||
    [Param.PWR_CONS_AVAIL, .PWR_CONS_REGEN, .PWR_CONS_RAMP].all (fun p => (s.par? p n).isSome))

/-- Whether the generation speaks of failure case k. -/
def State.caseNamed (s : State) (k : Nat) : Bool :=
  s.cfg.given.any (fun e => e.1.2 = k && [Param.CQA_THR, .CQA_SECT, .CQA_ROOM, .CQA_REF, .CQA_ENABLE].contains e.1.1) ||
    s.cfg.lists.any (fun e => decide (e.1 = (Param.CQA_NAME, k)))

/-- Every case names an element. R168. -/
def State.okCases (s : State) : Bool := (List.range 127).all (fun i => !s.caseNamed (i + 1) || s.caseConf (i + 1))

/-- The solve fits its window on one cluster. R184. -/
def State.okBudget (s : State) : Bool :=
  decide (((s.budgetN * s.parN .HEN_ALLOC_ITER * 41500 : Nat) : Rat) * 100 / 1025 ≤ s.par .FRM_ALLOC_DEADLINE * 1000000 - 4100000)

/-- A pair without a Warden runs in overlap mode only. R389. -/
def State.okMode (s : State) : Bool := !s.pairUnit || s.parB .RED_HAS_W || s.parN .RED_MODE = 1

/-- The rules of a safety set. R445. -/
def State.okSafe (s : State) : Bool :=
  let fmt (k : Nat) : Nat := s.parN .SAFE_ENC_FMT k
  let res (k : Nat) : Nat := s.parN .SAFE_ENC_RES k
  let encOk (k : Nat) : Bool := match fmt k with
    | 0 => res k = 0
    | 3 => between 64 (res k) 16777216
    | _ => between 10 (res k) 32
  let named (k : Nat) : Bool := k = 0 || fmt k ≠ 0
  inputs8.all encOk && four.all (fun b => named (s.parN .SAFE_BRK_ENC b) && named (s.parN .SAFE_SLT_ENC b)) &&
    four.all (fun j => !(inputs8.any (fun n => (s.parN .SAFE_SIN_SLT n).testBit (j - 1))) ||
      (s.parN .SAFE_SLT_CHAN j ≠ 0 && s.parN .SAFE_SLT_ENC j ≠ 0))

/-- No output follows a point of the integrator partition. R458. -/
def State.okFio (s : State) : Bool :=
  fioAll.all (fun c => s.parN .FIO_OUT_SRC c ≠ 2 || s.par? .PNT_PRODUCER (s.parN .FIO_OUT_PT c) ≠ some (prodPartition : Rat))

/-- No rate detection on a port that channels or power sources name. R486. -/
def State.okAuto (s : State) : Bool := four.all (fun n => !(s.parB .BUS_CAN_AUTO n && s.portNamed n))

/-- A frame map writes points of its own producer, and reads no byte of a counter or CRC. R489, R623. -/
def State.okMaps (s : State) : Bool :=
  s.mapsUsed.all (fun m =>
    (match s.par? .BUS_CMAP_POINT m with
     | none => true
     | some p => s.par? .PNT_PRODUCER (natOf p) = s.par? .BUS_CMAP_PROD m) &&
    (!s.parB .BUS_CMAP_E2E m || decide (s.parN .BUS_CMAP_BYTE m + encBytes (s.parN .BUS_CMAP_ENC m) ≤ 13)))

/-- The X values of the maps lie in the range of their pins' modes. R622. -/
def State.okAnalog (s : State) : Bool :=
  let inside (q lo hi : Rat) : Bool := decide (lo ≤ q) && decide (q ≤ hi)
  thrAll.all (fun c => (List.range 3).all (fun x =>
    let o := s.taoPin c x
    let i := s.taiPin c x
    let ox := [s.mapPar .THR_AO_MAP c x 2, s.mapPar .THR_AO_MAP c x 3]
    let ix := [s.mapPar .THR_AI_MAP c x 2, s.mapPar .THR_AI_MAP c x 3]
    (o = 0 || ox.all (fun q => if s.parN .BUS_AO_MODE o = 0 then inside q (-10) 10 else inside q 4 20)) &&
    (i = 0 || ix.all (fun q => if s.parN .BUS_AI_MODE i = 0 then inside q (-10) 10 else inside q 0 20))))

/-- The force of a press is at most its limit, and a berth's point lies on its line. R133, R134. -/
def State.okBerth (s : State) : Bool :=
  decide (s.par .BPR_FORCE ≤ s.par .BPR_FORCE_MAX) &&
  (List.range 8).all (fun n =>
    let dn := s.par .BERTH_B_N n - s.par .BERTH_A_N n
    let de := s.par .BERTH_B_E n - s.par .BERTH_A_E n
    let a := s.par .BERTH_ALONG n
    (s.par? .BERTH_ALONG n).isNone || decide (a * a ≤ dn * dn + de * de))

/-- A substituted value fits the type of its point. R387. -/
def State.okSubst (s : State) : Bool :=
  s.cfg.given.all (fun e => e.1.1 ≠ .PNT_SUBST_VAL || (encodeNum (s.cfgType e.1.2) e.2).2)

/-- The capture FIFOs of the partition are the last two. R332. -/
def State.okCapture (s : State) : Bool := (List.range 6).all (fun f => s.parN .TMU_CAP_OWNER f = 0)

/-- A frame map's identifier and mask fit its identifier length. R623. -/
def State.okIds (s : State) : Bool :=
  s.mapsUsed.all (fun m =>
    let hi := if s.parN .BUS_CMAP_IDE m = 0 then 0x7FF else 0x1FFFFFFF
    decide (s.parN .BUS_CMAP_ID m ≤ hi) && (match s.par? .BUS_CMAP_MASK m with
      | some q => decide (natOf q ≤ hi)
      | none => true))

/-- The rules, each with its reason. -/
def State.cfgRules (s : State) : List (Nat × Bool) :=
  [(16, s.okSat), (17, s.okMass), (18, s.okSections), (19, s.okCases), (20, s.okBudget), (21, s.okMode), (22, s.okSafe), (23, s.okFio),
    (24, s.okAuto), (25, s.okMaps), (26, s.okAnalog), (27, s.okBerth), (28, s.okSubst), (29, s.okCapture), (30, s.okIds)]

/-- Why a body fails its validation; none where it passes. R585. -/
def State.bodyFail (s : State) (b : List Byte) : Option CfgFail :=
  let (l, e) := cfgBody b
  match e, l.find? (fun r => r.bad ≠ 0) with
  | _, some r => some { reason := r.bad, at_ := some (r.off, r.num) }
  | some e, none => some e
  | none, none =>
    match (s.withBody b).cfgRules.find? (fun x => !x.2) with
    | some x => some { reason := x.1 }
    | none => none

/-! ### Staging and validation (R585) -/

/-- Bytes of the staging area. -/
def stageMax : Nat := 4 * 1024 * 1024

/-- Bytes written at an offset of a staging area; what lies between reads 0. -/
def stageAt (a : List Byte) (o : Nat) (d : List Byte) : List Byte := patch o d (slice 0 (max a.length (o + d.length)) a)

/-- The staged body of a length and CRC, where the staging area holds it. -/
def State.stagedBody (s : State) (len crc : Nat) : Option (List Byte) :=
  let b := s.cfg.staging.take len
  if b.length = len ∧ len ≤ cfgBodyMax ∧ crc32c b = crc then some b else none

/-- Why the staged body of a length and CRC fails. -/
def State.stagedFail (s : State) (len crc : Nat) : Option CfgFail :=
  match s.stagedBody len crc with
  | none => some { reason := 1 }
  | some b => s.bodyFail b

/-- The report of a validation. R592. -/
def cfgReport (b : List Byte) (f : Option CfgFail) : List Byte :=
  match f with
  | none => zeros 10
  | some f =>
    let (o, n) := f.at_.getD (Config.cfgPlace b f.reason)
    [byte (1 + Config.cfgReason f.reason % 255)] ++ zeros 3 ++ leBytes 4 o ++ leBytes 2 n

/-! ### What HOLD bars (R57, R587, R589) -/

/-- Whether the value of a parameter differs between two states. -/
def parDiffers (s t : State) (p : Param) (i : Nat := 0) : Bool := s.par? p i ≠ t.par? p i

/-- Parameters of a channel that HOLD fixes while it is available, with the number of values each has. -/
def holdChanPars : List (Param × Nat) :=
  [(.THR_TYPE, 1), (.THR_LINK, 1), (.THR_CAN_PORT, 1), (.THR_DRIVE_NODE, 1), (.THR_AO, 3), (.THR_AI, 3), (.THR_ENC_AZ, 1), (.THR_ENC_SHAFT, 1)]

/-- Parameters of a channel that change in HOLD only while it is deselected. -/
def holdCalPars : List (Param × Nat) := [(.THR_ENC_OFFSET, 1), (.THR_ENC_DIR, 1), (.THR_AO_MAP, 12), (.THR_AI_MAP, 12)]

/-- Whether a list of a channel's parameters differs between two states. -/
def chanDiffers (s t : State) (l : List (Param × Nat)) (c : Nat) : Bool :=
  l.any (fun e => if e.2 = 1 then parDiffers s t e.1 c else (List.range e.2).any (fun j => parDiffers s t e.1 (e.2 * (c - 1) + j)))

/-- Whether a CAN port carries setpoints or power-envelope messages. -/
def State.portCarries (s : State) (n : Nat) : Bool :=
  thrAll.any (fun c => s.tconf c && s.tport c = n) || four.any (fun k => s.parN .PWR_PORT k = n || s.parN .PWR_PORT2 k = n)

/-- Whether the unit, or its pair, is in HOLD. -/
def State.pairInHold (s : State) : Bool := s.sys.mode = .hold || s.red.pairHold

/-- Whether HOLD bars a generation's changes. -/
def State.holdBars (s t : State) : Bool :=
  s.pairInHold &&
    ([Param.EST_ORIGIN_LAT, .EST_ORIGIN_LON, .EST_ORIGIN_H, .RED_MODE].any (fun p => parDiffers s t p) ||
      thrAll.any (fun c => (s.availOf c = 0 && chanDiffers s t holdChanPars c) || ((s.ach c).selected && s.alcConf c && chanDiffers s t holdCalPars c)) ||
      four.any (fun n => s.portCarries n && (parDiffers s t .BUS_CAN_NOM n || parDiffers s t .BUS_CAN_DATA n)) ||
      (slotAll.any (fun i => s.slotSrc i = some 2700 && (s.slot i).state = .accepted) &&
        antAll.any (fun a => [Param.SAT_ANT_X, .SAT_ANT_Y, .SAT_ANT_Z].any (fun p => parDiffers s t p a))))

/-! ### Copies (R561–R563) -/

/-- Generation of a copy; 0 where it is not valid. R568. -/
def CfgCopy.genOf (c : CfgCopy) : Nat := if c.valid then c.gen else 0

/-- The number of the next generation. R562. -/
def State.nextGen (s : State) : Nat := max s.cfg.copyA.genOf s.cfg.copyB.genOf + 1

/-- The header of a copy. R561. -/
def CfgCopy.header (c : CfgCopy) : List Byte :=
  let b := leBytes 4 0x47464358 ++ leBytes 4 c.gen ++ leBytes 4 c.body.length ++ leBytes 4 (crc32c c.body) ++ leBytes 8 c.time ++ zeros 36
  b ++ leBytes 4 (crc32c b)

/-- A generation put into the configuration archive; the oldest go while it does not fit (log 121). R16. -/
def putArchive (l : List CfgCopy) (c : CfgCopy) : List CfgCopy :=
  let rec go : List CfgCopy → List CfgCopy
    | [] => [c]
    | y :: t => if sumN ((y :: t).map (fun x => 64 + x.body.length)) + 64 + c.body.length ≤ NandPart.archive.size then y :: t ++ [c] else go t
  go l

/-- A generation written over the copy with the lower generation, over B on equal ones, and archived. R16, R562. -/
def State.writeCopy (s : State) (gen : Nat) (b : List Byte) : State :=
  let c : CfgCopy := { valid := true, gen := gen, body := b, time := s.sel }
  let s : State := { s with cfg := { s.cfg with archive := putArchive s.cfg.archive c } }
  if s.cfg.copyA.genOf < s.cfg.copyB.genOf then { s with cfg := { s.cfg with copyA := c } }
  else { s with cfg := { s.cfg with copyB := c } }

/-- Which copy holds a generation: 0 A, 1 B. -/
def State.copyOf (s : State) (gen : Nat) : Nat := if s.cfg.copyA.genOf = gen then 0 else 1

/-- HEN_PIV written from the generation in force. spec/07 R227, R231. -/
def State.henPivSet (s : State) : State := { s with hen := { s.hen with piv := s.parN .HEN_PIV_EXP } }

/-- The configuration as a start chooses it, with what it records; an empty body is the base set (log 75). R563. -/
def State.chooseCfg (s : State) : State :=
  let a := s.cfg.copyA
  let b := s.cfg.copyB
  let s : State := { s with cfg := { s.cfg with staging := [], validated := none, commit := none, commitOk := false } }
  let use (s : State) (c : CfgCopy) (src : Nat) : State :=
    let s := (s.withBody c.body).henPivSet
    State.alarmIf { s with cfg := { s.cfg with gen := c.gen, source := src, base := c.body.isEmpty } } c.body.isEmpty .CFG_BASE_SET
  if a.valid && b.valid then (if a.gen < b.gen then use s b 1 else use s a 0)
  else if a.valid then (use { s with cfg := { s.cfg with copyB := a } } a 0).event .CFG_COPY_BAD [1]
  else if b.valid then (use { s with cfg := { s.cfg with copyA := b } } b 1).event .CFG_COPY_BAD [0]
  else (State.raiseAlarm { s with cfg := { s.cfg with given := [], lists := [], gen := 0, source := 2, base := true } } .CFG_BASE_SET).henPivSet

/-! ### A generation takes effect (R586) -/

/-- Learned values of channels whose model differs are reset. R157. -/
def State.learnCfg (s old : State) : State :=
  thrAll.foldl (fun s c =>
    if old.modelOf c ≠ s.modelOf c then
      s.modAch c (fun x => { x with kNum := 0, kDen := 0, kLearned := none, slewLearned := none, fullRateSince := none })
    else s) s

/-- The timers of cases whose elements differ start anew. R168. -/
def State.caseCfg (s old : State) : State :=
  (List.range 127).foldl (fun s i =>
    if s.caseLoss (i + 1) = old.caseLoss (i + 1) then s
    else s.modCase (i + 1) (fun x => { x with breachTimer := 0, timerRuns := false, clearRun := 0, unprovenRun := 0 })) s

/-- Ports whose rates or detection differ, or that the base set left unconfigured, start as when D10 comes up (log 74), but for one that is
bus-off, which stays so; a recovery ends ABORTED. R482, R483. -/
def State.portCfg (s old : State) : State :=
  if ¬ s.dom 10 then s
  else
    let up := s.busUp
    four.foldl (fun s n =>
      if old.cfg.base || [Param.BUS_CAN_NOM, .BUS_CAN_DATA, .BUS_CAN_AUTO].any (fun p => parDiffers old s p n) then
        let s := (s.disablePort n abDisabled).abortPort n abDisabled
        let p := up.port n
        let s := match (s.port n).recover with
          | some (a, q, _) => (s.modPort n (fun p => { p with recover := none, state := 4 })).completeCmd a q stAborted []
          | none => s
        s.modPort n (fun q => if q.state = 4 then { q with nom := p.nom, dat := p.dat } else { q with
          state := p.state, nom := p.nom, dat := p.dat, detect := p.detect, activeSince := p.activeSince, tec := 0, rec_ := 0 })
      else s) s

/-- A serial transmitter that a generation takes out of use or changes returns its sentences, and the termination switches follow. R27, R495,
R608. -/
def State.serCfg (s old : State) : State :=
  if ¬ s.dom 10 then s
  else
    ((List.range 12).foldl (fun s i =>
      let n := i + 1
      let differs := [Param.BUS_SER_MODE, .BUS_SER_PROTO].any (fun p => parDiffers old s p n) || decide (s.parL .BUS_SER_TX n ≠ old.parL .BUS_SER_TX n)
      if differs ∧ ¬ ((s.ser n).txq).isEmpty then s.serDisable n 2 else s) s).busTerm

/-- The clocks follow the sources the generation gives them. R307, R325. -/
def State.clockCfg (s old : State) : State :=
  if ¬ s.dom 9 then s
  else
    let s := s.tmuConfig
    let s := [0, 1].foldl (fun s n =>
      if s.vcCfgSrc n = old.vcCfgSrc n then s
      else (s.modVc n (fun v => { v with fallback := false, best := [], portState := [4, 4], lastAnnounce := s.now })).follow n (s.vcCfgSrc n)) s
    if parDiffers old s .TMU_PPS_OUT_SRC then s.ppsRoute else s

/-- A body in force with its generation number, all together, and what follows from the change. R447, R586. -/
def State.cfgApply (s : State) (gen : Nat) (b : List Byte) : State :=
  let old := s
  let s := (s.withBody b).henPivSet
  let s : State := { s with cfg := { s.cfg with gen := gen, source := s.copyOf gen, base := false } }
  let s := (((((s.thrConfig.learnCfg old).caseCfg old).portCfg old).serCfg old).clockCfg old).pntConfig old
  let s := ((s.safePend s.safeCanon).fioConfig old).fioFollow
  (s.clearAlarm .CFG_BASE_SET).clearAlarm .CFG_APPLY_FAIL

/-- The frame of a commit: its generation applies, or the unit keeps the previous one where its copy is not written. R586. -/
def State.cfgEffect (s : State) : State :=
  match s.cfg.commit with
  | none => s
  | some (g, _, b) =>
    let ok := s.cfg.commitOk
    let s : State := { s with cfg := { s.cfg with commit := none, commitOk := false } }
    if ok then s.cfgApply g b else s.raiseAlarm .CFG_APPLY_FAIL

/-- A frame start counts towards a commit's effect. R586. -/
def State.cfgCount (s : State) : State :=
  { s with cfg := { s.cfg with commit := s.cfg.commit.map (fun c => (c.1, c.2.1 - 1, c.2.2)) } }

/-! ### Commands (R592) -/

/-- CFG_QUERY: entries from the first named, as many as a reply takes. R592, R335. -/
def opCfgQuery : OpDef := {
  code := 0x0200, pair := false, readOnly := true, len := 2
  run := fun s _ _ p => (s, ((List.range 43).filterMap (fun i => Config.catalogueEntry (fld p 0 2 + i))).flatMap (fun e => slice 0 32 e)) }

/-- CFG_STAGE. -/
def opCfgStage : OpDef := {
  code := 0x0201, pair := true, role := 2, len := 12
  chk := fun _ _ p =>
    if 1388 < fld p 4 2 ∨ p.length ≠ 12 + fld p 4 2 ∨ stageMax < fld p 0 4 + fld p 4 2 then stBadParam else stDone
  run := fun s _ _ p =>
    let s : State := { s with cfg := { s.cfg with staging := stageAt s.cfg.staging (fld p 0 4) (p.drop 12) } }
    let still : Bool := match s.cfg.validated with
      | none => false
      | some (_, crc, len) => (s.stagedBody len crc.toNat).isSome
    ({ s with cfg := { s.cfg with validated := if still then s.cfg.validated else none } }, []) }

/-- CFG_VALIDATE. -/
def opCfgValidate : OpDef := {
  code := 0x0202, pair := true, role := 2, len := 8
  run := fun s _ _ p =>
    let len := fld p 0 4
    let f := s.stagedFail len (fld p 4 4)
    let v : Option (Nat × Word × Nat) := if f.isNone then some (s.cfg.gen, wN (fld p 4 4), len) else none
    ({ s with cfg := { s.cfg with validated := v } }, cfgReport (s.cfg.staging.take len) f) }

/-- The body a commit names: it has passed validation against the generation named, which is the one in force. -/
def State.commitBody (s : State) (p : List Byte) : Option (List Byte) :=
  match s.cfg.validated with
  | none => none
  | some (g, crc, len) => if g = fld p 0 4 ∧ g = s.cfg.gen ∧ crc.toNat = fld p 4 4 then s.stagedBody len crc.toNat else none

/-- CFG_COMMIT. Applied from the journal on a unit that does not hold the body, it leaves no copy written. R562, R586, R587. -/
def opCfgCommit : OpDef := {
  code := 0x0203, pair := true, role := 2, len := 8
  chk := fun s _ p =>
    match s.commitBody p with
    | none => stBadParam
    | some b => if s.cfg.commit.isSome ∨ s.holdBars (s.withBody b) then stNotInMode else stDone
  badReply := fun s c p =>
    let b := s.cfg.staging
    let g : Option CfgFail := if fld p 0 4 = s.cfg.gen then none else some { reason := 32 }
    if c ≠ stBadParam then [] else cfgReport b ((s.stagedFail b.length (fld p 4 4)).or (g.or (some { reason := 33 })))
  run := fun s _ _ p =>
    let g := s.nextGen
    let s : State := match s.commitBody p with
      | some b =>
        let s := (s.writeCopy g b).safePend (s.withBody b).safeCanon
        { s with cfg := { s.cfg with commit := some (g, 10, b), commitOk := true } }
      | none => { s with cfg := { s.cfg with commit := some (g, 10, []), commitOk := false } }
    (s, leBytes 4 g ++ leBytes 8 (s.frame.number + 10)) }

end Sys2Proof.Machine
end

