-- ==== Sys2Proof/Machine/Hen.lean ====
section
/-!
DEFINITION. The Hold engine's commands: submissions, ends and suspensions of problems, deadlines, cancels, disabling, faults of a cluster,
and the solver opcodes (spec/07 R210–R228). Each takes the results of firmware jobs that have ended (R107, R158, R187, R188).
-/
namespace Sys2Proof.Machine

/-! ### Registers that act (R213, R219–R221, R227) -/

/-- A write of SUB_HI of a queue by a requester that R227 admits: firmware every queue, the partition queues 2 and 3; another access is not
performed and answers a bus error, with the record of R19 for the partition. Of a unit without D1 nothing is stored. R19, R213, R227. -/
def execHenSubHiWrite (t q : Nat) (who : Who) (v : Word) (s : State) : Res :=
  let s := s.arrive t
  let addr := 0x40030104 + 0x40 * q
  guardUnit (decide (q < 4)) q <|
    match who with
    | .app0 | .app1 => if s.dom 1 then (s.henSubmit q who v).henSettle else s
    | .part => if q < 2 then s.partViolation addr else if s.dom 1 then (s.henSubmit q who v).henSettle else s
    | .safeP | .dma => s.busErr who addr

/-- A write of a tag to CANCEL: the oldest job of the queue with it ends. R219. -/
def State.henCancel (s : State) (q : Nat) (tag : Word) (cmdOnly : Bool) : State :=
  let isCmd (j : HenJob) : Bool := match j.origin with
    | .command _ _ _ => true
    | _ => false
  match (s.hq q).jobs.find? (fun j => j.tag = tag && (!cmdOnly || isCmd j)) with
  | none => s
  | some j => s.cancelJob q j.id

/-- The problems on clusters that end in the cycle of a deadline or a cancel are DONE. R218. -/
def State.endFirst (s : State) (ends : List Nat) : State := (ends.filter (fun i => i < 2)).foldl State.problemEnd s

/-- A write of CANCEL; `ends` are the clusters whose problem ends in the same cycle. R218, R219. -/
def execHenQCancelWrite (t q : Nat) (tag : Word) (s : State) (ends : List Nat := []) : Res :=
  let s := s.arrive t
  guardUnit (decide (q < 4)) q (((s.endFirst ends).henCancel q tag false).henGo.henSettle)

/-- EN of a queue cleared. R220. -/
def execHenQEnClear (t q : Nat) (s : State) : Res :=
  let s := s.arrive t
  guardUnit (decide (q < 4)) q (if (s.hq q).en then (s.henDisable q 0).henGo.henSettle else s)

/-- POP: the oldest completion entry is removed. R227. -/
def execHenQPop (t q : Nat) (s : State) : Res :=
  let s := s.arrive t
  guardUnit (decide (q < 4)) q (s.modHq q (fun x => { x with done := x.done.drop 1 }))

/-- CLn_EN cleared. R221. -/
def execHenClusterEnClear (t i : Nat) (s : State) : Res :=
  let s := s.arrive t
  guardUnit (decide (i < 2)) i (if (s.cl i).en then ((s.clLeave i false 0).dmaClusterLost i).henSettle else s)

/-! ### Ends, suspension points and deadlines (R211, R212, R217) -/

/-- The problem on a cluster ends, with `both` that on the other one in the same cycle; HEN0 takes its next work first. R211. -/
def execHenProblemEnd (t i : Nat) (s : State) (both : Bool := false) : Res :=
  let s := s.arrive t
  guardUnit (decide (i < 2)) i <|
    if (s.cl i).run.isSome then ((if both then s.endFirst [0, 1] else s.problemEnd i).henGo.henSettle) else s

/-- Suspends the problem on a cluster after a number of iterations, and takes the lower-numbered queue's problem at that point. R209, R212. -/
def State.suspend (s : State) (i : Nat) (r : HenRun) : State :=
  match s.nextWork i with
  | none => s
  | some (q, j) =>
    if r.queue ≤ q ∨ (s.cl i).susp.isSome ∨ ¬ iterative r.prob.op ∨ r.prob.iter ≤ r.iters + 1 then s
    else
      let (k, s) := s.itersNow r (r.prob.iter - 1)
      let r' := { r with iters := max (r.iters + 1) k, suspended := true, suspAt := some s.now, suspBefore := r.suspended }
      let s := s.modCl i (fun c => { c with run := none, susp := some r' })
      let s : State := { s with hen := { s.hen with suspends := s.hen.suspends + 1 } }
      (s.dispatch i q j true).henGo

/-- The problem on a cluster, if there is one, reaches a suspension point. R212. -/
def State.suspPoint (s : State) (i : Nat) : State :=
  match (s.cl i).run with
  | none => s
  | some r => s.suspend i r

/-- The problem on a cluster reaches a suspension point, with `both` that on the other one in the same cycle: HEN0 is used first. R212. -/
def execHenSuspensionPoint (t i : Nat) (s : State) (both : Bool := false) : Res :=
  let s := s.arrive t
  guardUnit (decide (i < 2)) i (if both then (s.suspPoint 0).suspPoint 1 else s.suspPoint i)

/-- A job's deadline arrives; `ends` are the clusters whose problem ends in the same cycle. R217, R218. -/
def execHenJobDeadline (t q id : Nat) (s : State) (ends : List Nat := []) : Res :=
  let s := s.arrive t
  guardUnit (decide (q < 4)) q <|
    match s.job? q id with
    | none => s
    | some j =>
      match j.deadline with
      | none => s
      | some a => if a ≤ s.raw then ((s.endFirst ends).endJob q id false).henGo.henSettle else s

/-! ### Faults (R223) -/

/-- An SRAM error that could not be corrected: the problem that met it ends ABSENT; the third within an hour takes the cluster out of service.
R223. -/
def State.henMemErr (s : State) (i : Nat) : State :=
  let c := s.cl i
  let times := (c.uncorrAt.filter (fun a => s.now < a + 3600000000000)) ++ [s.now]
  let third : Bool := decide (3 ≤ times.length) && !c.fault
  let s : State := { s with hen := { s.hen with
    uncorr := min 255 (s.hen.uncorr + 1), uncorrNew := true, eccUncorr := s.hen.eccUncorr + 1 } }
  let s := (s.modCl i (fun c => { c with uncorrAt := times, run := none, fault := c.fault || third })).event .HEN_MEMERR [wN i]
  let s := match c.run with
    | some r => s.lose i r hfMemerr
    | none => s
  if third then (((s.event .HEN_CL_FAULT [wN i]).loseAll i hfLost).henGo).dmaClusterLost i else s.henGo

/-- An SRAM error of a cluster. R223. -/
def execHenSramError (t i : Nat) (corrected : Bool) (s : State) : Res :=
  let s := s.arrive t
  guardUnit (decide (i < 2)) i <|
    if ¬ (s.cl i).powered then s
    else if corrected then
      { s with hen := { s.hen with corr := min 65535 (s.hen.corr + 1), eccCorr := s.hen.eccCorr + 1 } }
    else (s.henMemErr i).henSettle

/-- A cluster stops by a fault of its domain. R223. -/
def execHenClusterStop (t i : Nat) (s : State) : Res :=
  let s := s.arrive t
  guardUnit (decide (i < 2)) i (if (s.cl i).powered then (((s.clStop i).dmaClusterLost i).setDom (6 + i) false).henSettle else s)

/-! ### Commands (R228) -/

/-- Jobs of commands a queue holds. R228. -/
def HenQueue.commanded (x : HenQueue) : List HenJob := x.jobs.filter (fun j => match j.origin with
  | .command _ _ _ => true
  | _ => false)

/-- The operands of a mode 0 submission, problem by problem. R228. -/
def inlineProblems (j : HenJob) (data : List Byte) : List HenProblem :=
  let w := blockBytes (inShapes j.op j.opt j.n j.m j.k) / 4
  (List.range j.count).map (fun (i : Nat) =>
    { op := j.op, opt := j.opt, n := j.n, m := j.m, k := j.k, iter := j.iter, pivExp := j.pivExp
      words := (List.range w).map (fun (x : Nat) => BitVec.ofNat 32 (fld data (i * j.inStride + 4 * x) 4)) })

/-- The check of a HEN_SUBMIT. R228. A full queue answers as a queue limit does. -/
def State.henSubmitChk (s : State) (p : List Byte) : Nat :=
  let d := slice 0 64 p
  let j := descJob d
  let mode := fld p 64 1
  let q := fld p 65 1
  let sizes : Bool := decide (j.count * j.inStride ≤ 1332) && decide (16 + j.count * (8 + j.outStride) ≤ 1400) &&
    decide (68 + j.count * j.inStride ≤ p.length) && decide (j.inAddr = 0) && decide (j.outAddr = 0) && decide (j.statAddr = 0) &&
    decide (j.inStride % 32 = 0) && decide (j.outStride % 32 = 0)
  if (q ≠ 2 ∧ q ≠ 3) ∨ 1 < mode then stBadParam
  else if ¬ (s.hq q).en then stNotInMode
  else
    let c := if mode = 1 then s.henCheck q 0 d partLo partHi
      else if ¬ [0, 1].any (fun i => j.admits i && (s.cl i).inService) then 2
      else if 16 ≤ (s.hq q).depth then 1
      else if sizes && s.descOk d j then 0 else 4
    if 2 ≤ c then stBadParam
    else if c = 1 ∨ 16 ≤ (s.hq q).commanded.length then stJournalFull
    else stAccepted

/-- A commanded job submitted. One that R213 does not admit any more, as a start or a takeover may find it, is returned ABORTED; one with a
deadline waits for the first frame of a start, from which its deadline counts. R210, R213, R216, R229, spec/01 R23. -/
def State.henCommand (s : State) (n q : Nat) (p : List Byte) : State :=
  let d := slice 0 64 p
  let j := descJob d
  let mode := fld p 64 1
  let ps := if mode = 0 then inlineProblems j (p.drop 68) else []
  if fld d 16 4 ≠ 0 ∧ s.frame.running ∧ s.frame.started = 0 then { s with hen := { s.hen with replay := s.hen.replay ++ [(n, q, p)] } }
  else if s.henSubmitChk p = stAccepted then
    (s.henAccept (fld p 65 1) { j with origin := .command n q mode, inline := ps } (fld d 16 4)).henSettle
  else s.completeCmd n q stAborted []

/-- The submissions that waited for the first frame. R216, R229. -/
def State.henReplayFrame (s : State) : State :=
  s.hen.replay.foldl (fun s e => s.henCommand e.1 e.2.1 e.2.2) { s with hen := { s.hen with replay := [] } }

/-- HEN_SUBMIT. -/
def opHenSubmit : OpDef := {
  code := 0x0D00, pair := true, role := 2, len := 68
  chk := fun s _ p => s.henSubmitChk p
  run := fun s n q p => (s.henCommand n q p, []) }

/-- HEN_STATUS. -/
def opHenStatus : OpDef := {
  code := 0x0D01, pair := true, readOnly := true
  run := fun s _ _ _ =>
    (s, leBytes 4 s.henStat ++ leBytes 4 s.hen.err ++ [0, 1, 2, 3].flatMap (fun (q : Nat) =>
      [byte (s.hq q).depth, byte (b2n (s.hqRunning q)), byte (b2n (s.hqSusp q)), 0])) }

/-- HEN_CANCEL. -/
def opHenCancel : OpDef := {
  code := 0x0D02, pair := true, role := 2, len := 8
  chk := fun s _ p =>
    let q := fld p 0 1
    if (q = 2 ∨ q = 3) ∧ (s.hq q).commanded.any (fun j => j.tag = wN (fld p 4 4)) then stDone else stBadParam
  run := fun s _ _ p => ((s.henCancel (fld p 0 1) (wN (fld p 4 4)) true).henSettle, []) }

end Sys2Proof.Machine
end

