-- ==== Sys2Proof/Machine/Hold.lean ====
section
/-!
DEFINITION. Hold functions: the counters and timers of the MPC, the joystick, the excursions and berth press, and the hold
commands (spec/04).
-/
namespace Sys2Proof.Machine

/-- HOLD_MPC_FAIL_FRAMES failed frames: the function continues on the direct law. R107, R128. -/
def execMpcFailCount (t : Nat) (s : State) : Res :=
  let s := s.arrive t
  let c := s.hold.core
  .next (if c.usesMpc ∧ ¬ c.direct ∧ s.parN .HOLD_MPC_FAIL_FRAMES ≤ c.mpcFail then
      ((s.modHold (fun c => { c with direct := true })).raiseAlarm .MPC_FAIL).degrade 3
    else s)

/-- HOLD_MPC_OK_FRAMES good results: the function returns to the MPC under the blend rule. R107, R126. -/
def execMpcOkCount (t : Nat) (s : State) : Res :=
  let s := s.arrive t
  let c := s.hold.core
  .next (if c.usesMpc ∧ c.direct ∧ s.parN .HOLD_MPC_OK_FRAMES ≤ c.mpcOk then
      ((s.startBlend c.tau).modHold (fun c => { c with direct := false })).clearAlarm .MPC_FAIL
    else s)

/-- All axes centred for 0.5 s: the joystick acts in the new frame, from zero. R112. -/
def execJoyCentreRelease (t : Nat) (s : State) : Res :=
  let s := s.arrive t
  let c := s.hold.core
  .next (if c.joyFrozen ∧ s.held c.joyCentredAt 500000000 then
      s.modHold (fun c => { c with joyFrozen := false, joyDemand := {} })
    else s)

/-- An excursion has been below its limit for 10 s. R114. -/
def execExcursionClearTimer (t alarm : Nat) (s : State) : Res :=
  let s := s.arrive t
  guardUnit (decide (alarm < 4)) alarm
    (if s.held (assoc s.hold.excBelow alarm) 10000000000 then s.clearAlarm (excAlarm alarm) else s)

/-- Contact: the conditions have held for BPR_STALL_TIME. R122, R123. -/
def execBprContactDetected (t : Nat) (s : State) : Res :=
  let s := s.arrive t
  let c := s.hold.core
  .next (if c.func = 4 ∧ (c.bprState = 2 ∨ c.bprState = 5) ∧ s.held c.bprStallSince (s.parNs .BPR_STALL_TIME) then
      let st : Nat := if c.bprState = 5 then 4 else if c.bprF = s.pressForce then 4 else 3
      ((s.modHold (fun c => { c with bprState := st, bprStallSince := none, bprLossSince := none })).clearAlarm .BPR_NO_CONTACT).clearAlarm
        .BPR_CONTACT_LOST
    else s)

/-- No contact within BPR_CONTACT_TIMEOUT of the selection. R122. -/
def execBprContactTimeout (t : Nat) (s : State) : Res :=
  let s := s.arrive t
  let c := s.hold.core
  .next (if c.func = 4 ∧ (c.bprState = 1 ∨ c.bprState = 2) ∧ s.past c.bprSelectedAt (s.parNs .BPR_CONTACT_TIMEOUT) then
      s.raiseAlarm .BPR_NO_CONTACT
    else s)

/-- Loss of contact: the gap, or the outward speed for 1 s. R123. -/
def execBprContactLoss (t : Nat) (s : State) : Res :=
  let s := s.arrive t
  let c := s.hold.core
  .next (if c.func = 4 ∧ (c.bprState = 3 ∨ c.bprState = 4) ∧ (s.par .BPR_LOSS_DIST < c.gap ∨ s.held c.bprLossSince 1000000000) then
      (s.modHold (fun c => { c with bprState := 5, bprStallSince := none, bprLossSince := none })).raiseAlarm .BPR_CONTACT_LOST
    else s)

/-! ### Commands (R98, R113, R132) -/

/-- Whether the hold commands are accepted. R132. -/
def State.holdCmdMode (s : State) : Bool := s.sys.mode = .standby || s.sys.mode = .hold

/-- A command waits for the next fence. R97. -/
def State.pendHold (s : State) (c : HoldCmd) : State := { s with hold := { s.hold with pend := s.hold.pend ++ [c] } }

/-- Whether the state refuses a function. R98. -/
def State.funcBarred (s : State) (f b : Nat) : Bool :=
  let x := s.berth b
  let far := s.par .APR_MAX_DIST
  ((f = 2 || f = 3) && (s.posLost || s.hdgLost)) || (f = 1 && s.hdgLost) ||
    (f = 3 && decide (far * far < len2 (x.tgtN - s.estN) (x.tgtE - s.estE))) ||
    (f = 4 && (s.hdgLost || decide (s.par .BPR_MAX_GAP < s.gapNow x) ||
      decide (rad (s.par .BPR_MAX_HDG_DIFF) < absQ (wrapPi (s.estPsi - x.psi)))))

/-- HOLD_SELECT_FUNCTION. R98. -/
def opHoldSelectFunction : OpDef := {
  code := 0x0300, pair := true, len := 4
  chk := fun s _ p =>
    let f := fld p 0 1
    let b := fld p 2 1
    if 4 < f ∨ (3 ≤ f ∧ ¬ s.berthOk b) then stBadParam
    else if ¬ s.holdCmdMode ∨ s.funcBarred f b then stNotInMode
    else stDone
  run := fun s _ _ p => (s.pendHold (.select (fld p 0 1) (bitOf (fld p 1 1) 0) (bitOf (fld p 1 1) 1) (fld p 2 1)), []) }

/-- HOLD_SET_SETPOINT. R113. -/
def opHoldSetSetpoint : OpDef := {
  code := 0x0301, pair := true, len := 16
  chk := fun s _ p =>
    let pos := bitOf (fld p 12 1) 0
    let hdg := bitOf (fld p 12 1) 1
    let f := s.setpointFunc
    let lim := s.par .HOLD_SP_MAX_STEP
    if (pos ∧ ((fldF? p 0).isNone ∨ (fldF? p 4).isNone)) ∨ (hdg ∧ (fldF? p 8).isNone) then stBadParam
    else if pos ∧ lim * lim < len2 (fldF p 0 - s.estN) (fldF p 4 - s.estE) then stBadParam
    else if ¬ s.holdCmdMode ∨ f = 3 ∨ f = 4 ∨ (pos ∧ (f = 0 ∨ f = 1)) then stNotInMode
    else stDone
  run := fun s _ _ p =>
    (s.pendHold (.setpoint (fldF p 0) (fldF p 4) (fldF p 8) (bitOf (fld p 12 1) 0) (bitOf (fld p 12 1) 1)), []) }

/-- HOLD_SET_END. R111. -/
def opHoldSetEnd : OpDef := {
  code := 0x0302, pair := true, len := 4
  chk := fun s _ p => if fld p 0 1 ≠ 1 ∧ fld p 0 1 ≠ 2 then stBadParam else if s.holdCmdMode then stDone else stNotInMode
  run := fun s _ _ p => (s.pendHold (.setEnd (fld p 0 1)), []) }

/-- HOLD_BPR_SET. R124. -/
def opHoldBprSet : OpDef := {
  code := 0x0303, pair := true, len := 8
  chk := fun s _ p =>
    match fldF? p 0, fldF? p 4 with
    | some f, some o =>
      if f < 0 ∨ s.par .BPR_FORCE_MAX < f ∨ 175 / 1000 < absQ o then stBadParam
      else if s.holdCmdMode then stDone else stNotInMode
    | _, _ => stBadParam
  run := fun s _ _ p => (s.pendHold (.bprSet (fldF p 0) (fldF p 4)), []) }

/-- HOLD_STATUS. R132. -/
def opHoldStatus : OpDef := {
  code := 0x0304, pair := true, readOnly := true
  chk := fun s _ _ => if s.holdCmdMode then stDone else stNotInMode
  run := fun s _ _ _ =>
    let c := s.hold.core
    let t := c.flip c.tau
    (s, leBytes 2 (if s.sys.mode = .hold then c.func else 0xFFFF) ++ leBytes 2 c.bprState ++ leBytes 4 c.flags ++ bF t.x ++ bF t.y ++ bF t.n ++
      bF c.spN ++ bF c.spE ++ bF c.spShown) }

end Sys2Proof.Machine
end

