-- ==== Sys2Proof/Machine/Power.lean ====
section
/-!
DEFINITION. KEEP: the logic supply, power-down, the reset input, counters and the time keeper, the entry to RESTORE, and the wakes of SAT
(spec/19; spec/09 R297).
-/
namespace Sys2Proof.Machine

/-! ### The supply (R543, R547, R548) -/

/-- V_L: the higher of the two inputs. R543. -/
def SupplySt.vl (x : SupplySt) : Rat := if x.vla < x.vlb then x.vlb else x.vla

/-- KEEP's state changed. -/
def State.modKeep (s : State) (f : KeepSt → KeepSt) : State := { s with keep := f s.keep }

/-- The supply's state changed. -/
def State.modSupply (s : State) (f : SupplySt → SupplySt) : State := s.modKeep (fun k => { k with supply := f k.supply })

/-- The inputs as measured. -/
def State.supplyIs (s : State) (vla vlb : Rat) : State := s.modSupply (fun x => { x with vla := vla, vlb := vlb })

/-- The retained writes of the entry to LOW: the recorder's queue, learned values and SAT's data. R548. -/
def State.lowWrites (s : State) : State :=
  let s := if s.dom 1 then (s.logThaw 2).flushQueue else s
  let s := if s.dom 2 then s.learnSave else s
  if s.dom 8 then s.satRetain else s

/-- LOW is entered: a dip that recovers leaves these traces and no other. R548, R549. -/
def State.lowEnter (s : State) : State :=
  (s.lowWrites.modSupply (fun x => { x with state := 1, dips := x.dips + 1 })).raiseAlarm .SUPPLY_LOW

/-- V_L below 17.0 V for 200 µs. R547, R548. -/
def execSupplyLowEntry (t : Nat) (vla vlb : Rat) (s : State) : Res :=
  let s := (s.arrive t).supplyIs vla vlb
  .next (if s.keep.d0On ∧ s.keep.supply.state = 0 ∧ s.keep.supply.vl < 17 then s.lowEnter else s)

/-- V_L at or above 18.0 V for 1 ms. R547. -/
def execSupplyNormalReturn (t : Nat) (vla vlb : Rat) (s : State) : Res :=
  let s := (s.arrive t).supplyIs vla vlb
  .next (if s.keep.d0On ∧ s.keep.supply.state = 1 ∧ 18 ≤ s.keep.supply.vl then
      (s.clearAlarm .SUPPLY_LOW).modSupply (fun x => { x with state := 0 })
    else s)

/-- One input's voltage as measured: input 0 is VLA, 1 VLB. -/
def State.inputIs (s : State) (i : Nat) (v : Rat) : State :=
  s.modSupply (fun x => if i = 0 then { x with vla := v } else { x with vlb := v })

/-- One input below 17.0 V for 100 ms while V_L is at or above 18.0 V. R547. -/
def execVlInputLost (t : Nat) (b : Bool) (v : Rat) (s : State) : Res :=
  let s := (s.arrive t).inputIs (b2n b) v
  .next (if s.keep.d0On ∧ v < 17 ∧ 18 ≤ s.keep.supply.vl ∧ ¬ s.parB .PWR_SINGLE_INPUT then s.raiseAlarm .VL_INPUT_LOST (b2n b) else s)

/-- An input at or above 18.0 V for 1 s, or (which = 2) V_L at or below 32.0 V for 1 s. R569. -/
def execVlInputRestored (t which : Nat) (v : Rat) (s : State) : Res :=
  let s := s.arrive t
  guardUnit (decide (which < 3)) which <|
    if which = 2 then (if v ≤ 32 ∧ s.keep.d0On then s.clearAlarm .SUPPLY_HIGH else s)
    else
      let s := s.inputIs which v
      if 18 ≤ v ∧ s.keep.d0On then s.clearAlarm .VL_INPUT_LOST which else s

/-- V_L above 33.0 V for 1 ms. R547. -/
def execSupplyHigh (t : Nat) (vla vlb : Rat) (s : State) : Res :=
  let s := (s.arrive t).supplyIs vla vlb
  .next (if s.keep.d0On ∧ 33 < s.keep.supply.vl then s.raiseAlarm .SUPPLY_HIGH else s)

/-! ### Counters and the time keeper (R556, R557) -/

/-- The counters written to both copies of the control words. R556. -/
def State.saveCounters (s : State) : State :=
  let w : KeepWords := { optime := s.optime, pcycle := s.keep.pcycle }
  s.modKeep (fun k => { k with wordsA := w, wordsB := w })

/-- Every 1 s the counters are written. R556. -/
def execKeepCounterSave (t : Nat) (s : State) : Res :=
  let s := s.arrive t
  .next (if s.keep.d0On then s.saveCounters else s)

/-- The time keeper takes a time and its bound. R557. -/
def State.calibrate (s : State) (time bound : Nat) : State :=
  s.modKeep (fun k => { k with tk := { time := some time, at_ := s.now, bound := bound, lastKnown := some time } })

/-- Every 60 s the time keeper is calibrated against the selected clock, while that clock is present. R557. -/
def execTimeKeeperCalibrate (t : Nat) (s : State) : Res :=
  let s := s.arrive t
  let k := s.tmu.selVc
  .next (if s.keep.d0On ∧ s.dom 9 ∧ (s.vc k).present ∧ (s.keep.tk.time = none ∨ s.past s.keep.tk.at_ 60000000000) then
      s.calibrate s.sel (s.vcBoundN k)
    else s)

/-- The time keeper as it is saved: the last known time. R550, R557. -/
def State.saveTime (s : State) : State :=
  s.modKeep (fun k => { k with tk := { k.tk with lastKnown := match s.keptTime with
    | some x => some x.time
    | none => k.tk.lastKnown } })

/-- KEEP_TIME_BOUND. R557, R568. -/
def State.keepBoundN (s : State) : Nat := if s.keep.tk.time.isSome then min (natOf s.keepBound) 0xFFFFFFFF else 0xFFFFFFFF

/-! ### Power-down (R550, R551) -/

/-- The sequence of POWER_DOWN: authority and outputs first, the record, what KEEP saves, then every domain. -/
def State.powerDown (s : State) : State :=
  let s := s.modSupply (fun x => { x with state := 2 })
  let s := (s.giveUp 23 false).allDown [10, 11]
  let x := s.keep.supply
  let s := (s.direct .POWER_FAIL clsEvent [toF32 x.vl, toF32 x.vla, toF32 x.vlb, wN s.sys.mode.code]).saveCounters.saveTime
  let s := s.allDown allDoms
  s.modKeep (fun k => { k with powered := 0, d0On := false, coldReady := true, resetHeld := none, resetHeldRec := false })

/-- V_L below 14.5 V for 200 µs; it has then been below 17.0 V as long, so the entry to LOW has come before (log 121). R547, R550. -/
def execPowerDown (t : Nat) (vla vlb : Rat) (s : State) : Res :=
  let s := (s.arrive t).supplyIs vla vlb
  .next (if s.keep.d0On ∧ s.keep.supply.vl < 29 / 2 then (if s.keep.supply.state = 0 then s.lowEnter else s).powerDown else s)

/-! ### The entry to RESTORE (R558, R559, R563, R565, R574, R582) -/

/-- An image starts from its active slot; one that was activated begins its trial. HEN0 and HEN1 share one image and start by themselves. R16,
R581, R582. -/
def ImgSt.start (x : ImgSt) (now : Nat) (own hen1 : Bool) : ImgSt :=
  { x with running := if own then x.active else x.running, running7 := if hen1 then x.active else x.running7
           trial := if x.trialDue then some now else x.trial, trialDue := false, selfResets := if x.trialDue then 0 else x.selfResets }

/-- The images of domains start; the partition exists where its image is valid. R16, R20. -/
def State.imgStart (s : State) (ds : List Nat) : State :=
  let start (x : ImgSt) : ImgSt :=
    let own := ds.contains x.domain
    let hen1 : Bool := x.domain = 6 && ds.contains 7
    if own || hen1 then x.start s.now own hen1 else x
  let s : State := { s with sys := { s.sys with images := s.sys.images.map start } }
  let valid (x : ImgSt) : Bool := x.domain = 0x80 && (if x.running = 0 then x.a.valid else x.b.valid)
  if ds.contains 0x80 then { s with part := { s.part with present := s.sys.images.any valid } } else s

/-- The images of every domain except D0. -/
def imgDoms : List Nat := [2, 3, 4, 6, 7, 8, 9, 10, 11, 0x80]

/-- What the unit forgets of its mode at a start: jobs, requests and drains. -/
def SysSt.fresh (y : SysSt) : SysSt := { mode := y.mode, images := y.images, stage := y.stage }

/-- The entry to RESTORE with its cause: every domain goes down, but for those a wake leaves running; D4 and D5 are powered. KEEP_DATA_LOST
clears, as the control words are valid; no other alarm's state is kept. R565, R569. -/
def State.enterRestore (s : State) (cause straps : Nat) : State :=
  let wake : Bool := s.sys.mode = .keep && s.sat.wake.isSome
  let s := ((s.allDown (if wake then [2, 3, 4, 5, 6, 7, 10, 11] else allDoms)).clearAlarm .KEEP_DATA_LOST).dropAlarms
  let s := s.modRed (fun r => { r with unit := straps, strap := straps, uidChanged := false, check := { r.check with failedSince := false } })
  let s := s.modKeep (fun k => { k with resetCause := cause, resetHeld := none, resetHeldRec := false })
  let s := (s.modSafe (fun x => { x with safeStop := false })).setMode .restore 26
  let s : State := { s with sys := s.sys.fresh, sat := { s.sat with wake := none, nextWake := none } }
  let s : State := { s with part := {} }
  let s := (s.imgStart imgDoms).chooseCfg
  let s := if s.cfg.base then s else s.safePend s.safeCanon
  let s := (s.domUp 4).domUp 5
  if wake then { s with frame := { s.frame with running := true } } else s

/-! ### The reset input (R552, R553, R558) -/

/-- RESET_N asserted: the first rows of R550, then every domain except D0 is reset and held. R552, R567. -/
def execResetNAssert (t : Nat) (s : State) : Res :=
  let s := s.arrive t
  .next (if s.keep.d0On ∧ s.keep.resetHeld.isNone then
      (((s.giveUp 23 false).allDown allDoms).modKeep (fun k => { k with resetHeld := some s.now, resetHeldRec := false })).direct .RESET_PIN clsEvent []
    else s)

/-- Reset has been held for 30 s. R553. -/
def execResetHeld (t : Nat) (s : State) : Res :=
  let s := s.arrive t
  .next (if s.held s.keep.resetHeld 30000000000 ∧ ¬ s.keep.resetHeldRec then
      (s.modKeep (fun k => { k with resetHeldRec := true })).direct .RESET_HELD clsEvent []
    else s)

/-- RESET_N released: the unit enters RESTORE; from KEEP this is its exit. R558, R577. -/
def execResetNRelease (t straps : Nat) (s : State) : Res :=
  let s := s.arrive t
  guardUnit (decide (straps < 4)) straps
    (if s.keep.d0On ∧ s.keep.resetHeld.isSome then s.enterRestore (if s.sys.mode = .keep then 3 else 2) straps else s)

/-! ### Cold start (R551, R556, R558) -/

/-- D0 is lost without the sequence: every domain at once, with no record, no completion and no packet; a record's write in progress leaves its
mark in the slot after the head. R524, R556, R568. -/
def State.loseD0 (s : State) (slot : Nat) : State :=
  let s := s.logCut slot
  let l := s.logReset.log
  let c := s.d3Reset.cmd
  let x := s.allDown allDoms
  { x with log := l, cmd := c, sent := [], alarms := [], keep := { x.keep with queueLost := 0, powered := 0, resetHeld := none } }

/-- The control words a start uses: of the copies that pass their check, the one with the higher operating time. R564. -/
def KeepSt.words (k : KeepSt) (bad : Nat) : Option KeepWords :=
  match bad.testBit 0, bad.testBit 1 with
  | true, true => none
  | true, false => some k.wordsB
  | false, true => some k.wordsA
  | false, false => some (if k.wordsA.optime < k.wordsB.optime then k.wordsB else k.wordsA)

/-- The newest record held. -/
def LogSt.newest (l : LogSt) : LogRec :=
  ((l.recs ++ l.spill).filter (·.ok)).foldl (fun (m : LogRec) r => if seqBefore r.seq m.seq then m else r) {}

/-- The counters at a cold start: power-cycle count and operating time. They go on from the control words, with 1,000 ms more where D0 was lost
without the sequence; where no copy holds, from the newest record plus one. R556, R564. -/
def State.startCounters (s : State) (seq : Bool) (w : Option KeepWords) : Word × Nat :=
  match w with
  | some w => (w.pcycle + 1, if seq then w.optime else w.optime + 1000)
  | none => (s.log.newest.pcycle + 1, s.log.newest.optime + 1)

/-- Retained data that fail their checks are not used; a key that fails is recorded. R157, R298, R348, R563, R564. -/
def State.retainedBad (s : State) (b : RetainBad) : State :=
  let cut (m : Nat) (c : CfgCopy) : CfgCopy := { c with valid := c.valid && !b.cfg.testBit m }
  let s : State := { s with
    cfg := { s.cfg with copyA := cut 0 s.cfg.copyA, copyB := cut 1 s.cfg.copyB }
    alc := { s.alc with retainedOk := s.alc.retainedOk && !b.models }
    sat := { s.sat with retained := { s.sat.retained with ok := s.sat.retained.ok && !b.sat } } }
  let s := match b.journal with
    | some n => s.journalCut n
    | none => s
  let s := s.modKeep (fun k => { k with
    roleKeys := k.roleKeys.filter (fun e => !b.keys.contains e.1), integKey := if b.keys.contains 0x10 then [] else k.integKey })
  b.keys.foldl (fun s k => s.direct .KEY_LOST clsEvent [wN k]) s

/-- What both copies of the control words took with them: the role epoch counter and the trim read as the spec leaves open, and no time is known
(log 121). R564. -/
def State.wordsLost (s : State) : State :=
  let (e, s) := s.freeW
  let (t, s) := s.freeW
  s.modKeep (fun k => { k with epochRetained := e, trim := t, tk := {} })

/-- D0 starts: counters, the log's head, the retained data, and RESTORE; the time keeper offers no time. R524, R556, R557, R558, R564. -/
def State.coldStart (s : State) (seq : Bool) (cause straps : Nat) (bad : RetainBad) : State :=
  let w := s.keep.words bad.words
  let c := s.startCounters seq w
  let s := State.dropAlarms (s.modKeep (fun k => { k with
    pcycle := c.1, optimeBase := c.2, optimeAt := s.now, wordsA := { optime := c.2, pcycle := c.1 }, wordsB := { optime := c.2, pcycle := c.1 }
    coldReady := false, d0On := true, powered := 1, tk := { lastKnown := k.tk.lastKnown }
    supply := { k.supply with state := 0 }, coolSince := none }))
  let s := ((if w.isSome then s else s.wordsLost).logStart).retainedBad bad
  let s := (s.imgStart [0]).enterRestore cause straps
  if w.isSome then s else s.raiseAlarm .KEEP_DATA_LOST

/-- V_L at or above 18.0 V for 50 ms. A unit whose D0 was still powered has lost it without the sequence. R551, R558. -/
def execColdStart (t straps : Nat) (vla vlb : Rat) (s : State) (bad : RetainBad := {}) : Res :=
  let s := (s.arrive t).supplyIs vla vlb
  guardUnit (decide (straps < 4)) straps <|
    if ¬ 18 ≤ s.keep.supply.vl then s
    else if s.keep.coldReady then s.coldStart true 1 straps bad
    else (s.loseD0 bad.slot).coldStart false 0 straps bad

/-! ### The baseplate (R569) -/

/-- The baseplate temperature: above the limit for 10 s, or as measured. R569. -/
def execBaseplateHot (t : Nat) (temp : Rat) (s : State) : Res :=
  let s := s.arrive t
  let lim := s.par .PWR_BASEPLATE_ALARM
  let s := s.modKeep (fun k => { k with baseT := temp, coolSince := s.since (decide (temp ≤ lim - 5)) k.coolSince })
  .next (if s.keep.d0On ∧ lim < temp then s.raiseAlarm .BASEPLATE_HOT else s)

/-- BASEPLATE_HOT clears after 60 s at 5 °C below the limit. R569. -/
def State.keepFrame (s : State) : State := if s.held s.keep.coolSince 60000000000 then s.clearAlarm .BASEPLATE_HOT else s

/-- Conditions of the supply that outlast a start raise their alarms again. R565. -/
def State.keepAlarms (s : State) : State :=
  let x := s.keep.supply
  let s := if 33 < x.vl then s.raiseAlarm .SUPPLY_HIGH else s
  [(0, x.vla), (1, x.vlb)].foldl (fun (s : State) (e : Nat × Rat) =>
    if e.2 < 17 ∧ 18 ≤ s.keep.supply.vl ∧ ¬ s.parB .PWR_SINGLE_INPUT then s.raiseAlarm .VL_INPUT_LOST e.1 else s) s

/-! ### KEEP mode and the wakes (R297, R577) -/

/-- Minutes in ns. -/
def minNs (n : Nat) : Nat := n * 60000000000

/-- D1 goes down in order: the recorder's queue is written first. R537. -/
def State.drainMem (s : State) : State := (if s.dom 1 then s.logDrain else s).domDown 1

/-- KEEP mode entered: the recorder's queue is written, every domain except D0 goes down, and the wakes are timed. R297, R572, R577. -/
def State.enterKeep (s : State) (exitMin : Nat) : State :=
  let s := if s.dom 8 then s.satRetain else s
  let s := ((s.setMode .keep 0).allDown (allDoms.filter (· ≠ 1))).drainMem
  { s with
    sys := { s.sys with keepExit := if exitMin = 0 then none else some (s.now + minNs exitMin), drainedCmd := 0 }
    sat := { s.sat with wake := none, nextWake := some (s.now + minNs (s.parN .SAT_WAKE_INTERVAL)) } }

/-- The KEEP exit time has come. R577. -/
def execKeepExitTimer (t : Nat) (s : State) : Res :=
  let s := s.arrive t
  .next (match s.sys.keepExit with
    | none => s
    | some a => if s.sys.mode = .keep ∧ a ≤ s.now ∧ s.keep.d0On ∧ s.keep.resetHeld.isNone then s.enterRestore 3 s.red.strap else s)

/-- A wake begins: D1, D9 and D8 are powered. R297. -/
def execSatWake (t : Nat) (s : State) : Res :=
  let s := s.arrive t
  let due : Bool := s.sat.nextWake.any (fun a => decide (a ≤ s.now))
  .next (if s.sys.mode = .keep ∧ s.keep.d0On ∧ s.keep.resetHeld.isNone ∧ s.sat.wake.isNone ∧ s.parN .SAT_WAKE_INTERVAL ≠ 0 ∧ due then
      let s := s.allUp [1, 9, 8]
      { s with sat := { s.sat with
          wake := some s.now, wakeFix := false, nextWake := some (s.now + minNs (s.parN .SAT_WAKE_INTERVAL)) } }
    else s)

/-- Whether every satellite above the mask, some being tracked, has an ephemeris younger than 30 minutes. R297. -/
def State.ephemAll (s : State) : Bool :=
  !s.sat.chans.isEmpty && s.sat.chans.all (fun c => s.sat.ephem.any (fun e => e.1 = c.id.sys && e.2.1 = c.id.sv && decide (s.satTime < e.2.2 + 1800000000000)))

/-- Whether a wake that began at an instant may end. R297. -/
def State.wakeOver (s : State) (a : Nat) : Bool :=
  s.past a (s.parNs .SAT_WAKE_TIME) || (s.past a 20000000000 && s.ephemAll)

/-- A wake ends: with a fix the time keeper is calibrated and the retained data are written; the three domains go down. R297. -/
def State.wakeEnd (s : State) : State :=
  let s := if s.sat.wakeFix then
      (if s.sat.time.qual = 0 then s else s.calibrate s.satTime s.satBoundN).satRetain
    else s.event .SAT_WAKE_FAIL []
  let s := (s.allDown [8, 9]).drainMem
  { s with sat := { s.sat with wake := none } }

/-- A wake ends. R297. -/
def execSatWakeEnd (t : Nat) (s : State) : Res :=
  let s := s.arrive t
  .next (match s.sat.wake with
    | none => s
    | some a => if s.sys.mode = .keep ∧ s.wakeOver a then s.wakeEnd else s)

/-! ### Pins and points (R555, R568) -/

/-- The pattern of KEEP_STAT: 0 low, 1 high, 2 1 Hz, 3 a pulse every 5 s, 4 a pulse every 1 s. R555. -/
def State.keepStat (s : State) : Nat :=
  if ¬ s.keep.d0On then 0
  else if s.keep.resetHeld.isSome then (if s.held s.keep.resetHeld 30000000000 then 4 else 0)
  else
    match s.sys.mode with
    | .keep => 3
    | .restore => 2
    | .commission => 2
    | _ => 1

/-- The points of KEEP. PWR_INPUT is a measurement of no command's operand: a free value. R568. -/
def pwrPoints (s : State) : List (Nat × PVal × Half) :=
  let k := s.keep
  let g : Half := qGood
  [(3840, pvF k.supply.vla, g), (3841, pvF k.supply.vlb, g), (3842, pvE k.supply.state, g), (3843, pvU k.supply.dips.toNat, g),
    (3844, pvU k.pcycle.toNat, g), (3845, pvU (s.optime % 2 ^ 32), g), (3846, pvU (s.optime / 2 ^ 32 % 2 ^ 16), g), (3847, pvE k.resetCause, g),
    (3848, pvU s.cfg.copyA.genOf, g), (3849, pvU s.cfg.copyB.genOf, g), (3850, pvE s.cfg.source, g), (3851, pvF (Config.freeRat s.free), g),
    (3852, pvF k.baseT, g), (3853, pvUs s.keepBoundN, g), (3854, pvX k.powered, g)]

end Sys2Proof.Machine
end

