-- ==== Sys2Proof/Machine/Red.lean ====
section
/-!
DEFINITION. Redundancy supervision: heartbeats, leases and grants, the takeover check, rotation, the mirror, and the redundancy commands
(spec/13; spec/02 R40, R41).
-/
namespace Sys2Proof.Machine

/-! ### Heartbeats out (R392, R411, R413) -/

/-- A release announced in an earlier frame takes effect. R413. -/
def State.relDue (s : State) : State :=
  match s.red.relPend with
  | none => s
  | some (u, f) => if f < s.frame.number then (s.modRed (fun r => { r with relPend := none })).applyRelease u else s

/-- The paths of a unit: lanes 0 and 1 to its partners, 2 the LAN. R392. -/
def State.paths (s : State) : List Nat := if s.parB .RED_HAS_W ∨ s.red.unit = 2 then [0, 1, 2] else [0, 2]

/-- The heartbeat of a frame. A unit that yields back gives up authority with it; one that rotates announces the release. -/
def State.heartbeat (s : State) : State :=
  let s := s.relDue
  let yield_ : Bool := s.red.releaseDue
  let aim := if yield_ then s.red.check.prev.getD 0xFF else s.red.rotationTo
  let s := if yield_ then (s.modRed (fun r => { r with releaseDue := false })).giveUp 20 false else s
  let rel : Bool := yield_ || s.red.rotation = some 1
  let s := s.modRed (fun r => { r with requestAt := s.raw, hbFrame := some s.frame.number })
  let b := s.shesen (s.hbFlags rel) (if rel then aim else 0xFF) 0 (wN s.raw)
  s.paths.foldl (fun s p => s.emit (.heartbeat p b)) s

/-- F+3 ms: the heartbeat on every path, once per frame. R392. -/
def execHeartbeatSend (t : Nat) (s : State) : Res :=
  let s := s.arrive t
  .next (if s.frame.running ∧ s.red.unit ≠ 3 ∧ s.dom 3 ∧ 3000000 ≤ s.frameElapsed ∧ s.red.hbFrame ≠ some s.frame.number then s.heartbeat
    else s)

/-! ### Heartbeats in (R390, R393, R394, R402) -/

/-- What a heartbeat says of its sender. -/
def Partner.take (x : Partner) (now : Nat) (lane : Bool) (b : List Byte) : Partner :=
  let f := fld b 4 8
  let newer (o : Option Nat) : Option Nat := some (max f (o.getD 0))
  { x with
    laneFrame := if lane then newer x.laneFrame else x.laneFrame, lanFrame := if lane then x.lanFrame else newer x.lanFrame
    lost := false, score := fld b 17 1, mode := fld b 16 1, flags := byte (fld b 18 1), heard := byte (fld b 19 1), gen := fld b 20 4
    epoch := wN (fld b 12 4), lastAt := now, lanCmdAt := if !lane && (fld b 18 1).testBit 0 then some now else x.lanCmdAt }

/-- The offset of the peer's frame start from this unit's, from a heartbeat sent 3 ms after its own. R40. -/
def State.takeSkew (s : State) (k : Nat) (b : List Byte) : State :=
  if s.peerOf ≠ some k then s
  else
    let own : Int := (s.now : Int) - (s.frame.startAt : Int) - 3000000
    { s with frame := { s.frame with peerSkew := some (own - 20000000 * ((fld b 4 8 : Int) - (s.frame.number : Int))) } }

/-- A partner is heard: the alarms of its loss, and of silence, clear. R394, R402, R419. -/
def State.hearsAgain (s : State) (k : Nat) : State :=
  let s := if s.pairUnit then s.clearAlarm (if k = 2 then .W_LOST else .PEER_LOST) else s
  if s.red.silenced then (s.modRed (fun r => { r with silenced := false })).clearAlarm .SILENCED else s

/-- A RELEASE heard: of a unit still commanding it takes effect at the next frame's F+3 ms, else at once. R398, R411, R413. -/
def State.takeRelease (s : State) (k : Nat) (b : List Byte) : State :=
  if ¬ (fld b 18 1).testBit 4 then s
  else
    let s := s.modRed (fun r => { r with relFrom := some (k, s.now) })
    let named := fld b 24 1
    if ¬ s.arbiter ∧ named ≠ 0xFF ∧ named ≠ s.red.unit then s
    else if (fld b 18 1).testBit 0 then s.modRed (fun r => { r with relPend := some (k, s.frame.number) })
    else s.applyRelease k

/-- A valid heartbeat of partner k. -/
def State.takeHeartbeat (s : State) (k : Nat) (lane : Bool) (b : List Byte) : State :=
  let s := s.relDue
  let s := ((s.modPartner k (fun x => x.take s.now lane b)).hearsAgain k).takeSkew k b
  let s := s.seeEpoch (wN (fld b 12 4))
  let s := if s.arbiter ∧ (fld b 18 1).testBit 1 then
      s.leaseRequest { unit := k, at_ := s.now, score := fld b 17 1, epoch := wN (fld b 12 4), commanding := (fld b 18 1).testBit 0
                       sentLo := wN (fld b 32 4) }
    else s
  s.takeRelease k b

/-- A heartbeat on a path: 0 and 1 the lanes, 2 the LAN. -/
def execHeartbeatReceived (t path : Nat) (b : List Byte) (s : State) : Res :=
  let s := s.arrive t
  guardUnit (decide (path < 3)) path <|
    let k := fld b 3 1
    if ¬ s.dom 3 ∨ ¬ s.shesenOk b ∨ (fld b 18 1).testBit 7 then s
    else if k = s.red.unit then
      (s.modRed (fun r => { r with uidConflictAt := some s.now, health := 0 })).raiseAlarm .UID_CONFLICT
    else if s.partners.contains k then s.takeHeartbeat k (decide (path < 2)) b
    else s

/-- A partner's heartbeat of this frame has arrived or is missed; lost after 2 frames for W and 3 for the others. R394. -/
def State.missOne (s : State) (k : Nat) : State :=
  let x := s.partner k
  let n := s.frame.number
  let got : Bool := x.laneFrame.any (fun f => decide (n ≤ f)) || x.lanFrame.any (fun f => decide (n ≤ f))
  let m := if got then 0 else x.missed + 1
  let newly : Bool := !x.lost && decide ((if k = 2 then 2 else 3) ≤ m)
  let s := s.modPartner k (fun x => { x with missed := m, lost := x.lost || newly })
  if ¬ newly then s
  else
    let s : State := if s.peerOf = some k then { s with frame := { s.frame with peerSkew := none } } else s
    if s.pairUnit then s.raiseAlarm (if k = 2 then .W_LOST else .PEER_LOST) else s

/-- The lane to a partner: down in a frame that brought no heartbeat on it. XLP_LOST is raised for the lane to the peer where the LAN path alone
carries heartbeats, and clears once the lane has carried them for 10 s (log 116). R392, R419. -/
def State.laneCheck (s : State) (k : Nat) : State :=
  let x := s.partner k
  let up : Bool := x.laneFrame.any (fun f => decide (s.frame.number ≤ f))
  let s := s.modPartner k (fun x => { x with laneOkSince := if up then some (x.laneOkSince.getD s.now) else none })
  if s.peerOf ≠ some k then s
  else if up then (if s.held (s.partner k).laneOkSince 10000000000 then s.clearAlarm .XLP_LOST else s)
  else if x.lanFrame.any (fun f => decide (s.frame.number ≤ f)) then s.raiseAlarm .XLP_LOST
  else s

/-- A commanding unit in overlap mode that has missed peer and W for five frames silences itself. R402. -/
def State.silenceCheck (s : State) : State :=
  match s.peerOf with
  | none => s
  | some k =>
    let miss : Bool := decide (0 < (s.partner k).missed) && (!s.parB .RED_HAS_W || decide (0 < s.red.w.missed))
    let s := s.modRed (fun r => { r with bothMiss := if miss then r.bothMiss + 1 else 0 })
    if s.red.commanding ∧ s.overlap ∧ 5 ≤ s.red.bothMiss then
      ((s.modRed (fun r => { r with silenced := true })).raiseAlarm .SILENCED).giveUp 19 false
    else s

/-- Promotion in overlap mode. R401. -/
def State.promoteCheck (s : State) : State :=
  match s.peerOf with
  | none => s
  | some k =>
    let x := s.partner k
    let wOk : Bool := !s.heard 2 || !s.red.w.heard.toNat.testBit k
    let lanOk : Bool := match x.lanCmdAt with
      | none => true
      | some a => s.past a 60000000
    if s.overlap && !s.red.commanding && !s.red.silenced && s.sys.mode = .standby && s.red.pairHold && decide (0 < s.red.health) &&
        x.lost && x.flag 0 && wOk && lanOk && !s.frame.stallGaveUp then
      let e := s.newEpoch s.red.unit
      e.2.gain e.1 3
    else s

/-- F+6 ms: missed heartbeats are counted, once per frame. R394, R401, R402, R416. -/
def execHeartbeatMissCheck (t : Nat) (s : State) : Res :=
  let s := s.arrive t
  .next (if s.frame.running ∧ s.dom 3 ∧ 6000000 ≤ s.frameElapsed ∧ s.red.missFrame ≠ some s.frame.number then
      let s := s.modRed (fun r => { r with missFrame := some s.frame.number })
      (s.partners.foldl State.laneCheck (s.partners.foldl State.missOne s)).silenceCheck.promoteCheck.wardenStep
    else s)

/-! ### Leases (R396–R399) -/

/-- The raw instant a low half names: the newest one not after now. R396. -/
def State.sentAt (s : State) (lo : Nat) : Nat := s.raw - (s.raw % 2 ^ 32 + 2 ^ 32 - lo % 2 ^ 32) % 2 ^ 32

/-- A grant to this unit: a holder's lease is renewed and a suspension ends; a candidate takes authority. R397–R399. -/
def State.takeGrant (s : State) (b : List Byte) : State :=
  let at_ := s.sentAt (fld b 32 4)
  let s := s.seeEpoch (wN (fld b 28 4))
  if s.red.commanding then
    let s := s.modRed (fun r => { r with grantedAt := some (max at_ (r.grantedAt.getD 0)) })
    if s.red.suspended ∧ ¬ s.red.w.lost then (s.modRed (fun r => { r with suspended := false })).clearAlarm .LEASE_SUSPENDED else s
  else if s.candidate then (s.modRed (fun r => { r with grantedAt := some at_ })).gain (wN (fld b 28 4)) 1
  else s

/-- A grant message of W. R393, R398. -/
def execLeaseGrantReceived (t path : Nat) (b : List Byte) (s : State) : Res :=
  let s := s.arrive t
  guardUnit (decide (path < 3)) path <|
    if s.dom 3 ∧ s.shesenOk b ∧ (fld b 18 1).testBit 7 ∧ fld b 3 1 = 2 ∧ fld b 24 1 = s.red.unit ∧ s.pairUnit ∧ s.parN .RED_MODE ≠ 1 then
      s.takeGrant b
    else s

/-- 60 ms after the last granted request. R397, R399. -/
def execLeaseHolderExpiry (t : Nat) (s : State) : Res :=
  let s := s.arrive t
  .next (if s.leased ∧ s.leaseAge 60000000 then s.leaseOut else s)

/-- A lease expires at W: the guard begins. R398. -/
def execLeaseExpiryW (t : Nat) (s : State) : Res :=
  let s := s.arrive t
  let l := s.red.lease
  .next (if s.arbiter ∧ l.holder.isSome ∧ l.holder ≠ some 2 ∧ l.expires ≤ s.now then
      s.modLease (fun l => { l with holder := none, guardUntil := some (l.expires + 10000000) })
    else s)

/-- The guard ends: W grants the best candidate, or takes authority itself. R398, R416. -/
def execLeaseGuardEnd (t : Nat) (s : State) : Res :=
  let s := s.arrive t
  .next (match s.red.lease.guardUntil with
    | none => s
    | some g => if s.arbiter ∧ g ≤ s.now then (s.modLease (fun l => { l with guardUntil := none })).tryGrant.wardenStep else s)

/-! ### The takeover check (R410, R411) -/

/-- Channels whose CAN path fails the check: a frame that ended ABORTED, or a FEEDBACK2 that names another epoch. -/
def State.checkCan (s : State) : Nat :=
  maskOf 24 (fun i =>
    let c := i + 1
    s.tconf c && s.tport c ≠ 0 && (s.red.check.failed.testBit i ||
      ((s.tch c).fb2.at_.isSome && decide ((s.tch c).fb2.epochSeen ≠ s.red.epochHeld))))

/-- Channels whose ROLE relays fail the check: those with analogue outputs, where a contact reads open. -/
def State.checkRole (s : State) : Nat :=
  if s.roleContact 1 = some false ∨ s.roleContact 2 = some false then maskOf 24 (fun i => s.tconf (i + 1) && s.tlink (i + 1) ≠ 0) else 0

/-- Whether a unit that fails the check yields back to the previous one. R391, R411. -/
def State.mayYield (s : State) : Bool :=
  s.red.unit ≠ 3 && s.parB .RED_YIELD_BACK && !s.red.check.prevFault &&
    (match s.red.check.prev with
     | none => false
     | some p => s.heard p && decide (0 < (s.partner p).score))

/-- A channel that failed the check enters FAILED. R411. -/
def State.checkFail (s : State) (c : Nat) : State :=
  let st := (s.tch c).state
  if st = 1 ∨ st = 2 ∨ st = 3 then (s.thrFailed c (if s.red.check.failedAo.testBit (c - 1) then 8 else 9)).thrZero c else s

/-- Pairs that stop failed channels. R411, R432. -/
def State.stsOf (s : State) (mask : Nat) : Nat :=
  maskOf 4 (fun p => thrAll.any (fun c => mask.testBit (c - 1) && s.par? .SAFE_THR_STS c = some ((p + 1 : Nat) : Rat)))

/-- The result of the takeover check. -/
def State.checkEnd (s : State) : State :=
  let can := s.checkCan
  let ao := s.red.check.failedAo
  let role := s.checkRole
  let mask := can ||| ao ||| role
  let s := s.modRed (fun r => { r with check := { r.check with running := false, last := mask } })
  if mask = 0 then (s.modRed (fun r => { r with rotateAge := 0, rotateAgeAt := s.now })).clearAlarm .ROTATE_DUE
  else
    let s := (s.modRed (fun r => { r with check := { r.check with failedSince := true } })).raiseAlarm .TAKEOVER_CHECK_FAIL 0
      [wN can, wN ao, wN role]
    if s.mayYield then s.modRed (fun r => { r with releaseDue := true })
    else
      let s := thrAll.foldl (fun s c => if mask.testBit (c - 1) then s.checkFail c else s) s
      let st := s.stsOf mask
      if st = 0 then s else s.requestStop st

/-- F+19 ms of the second frame. R410. -/
def execTakeoverCheckEnd (t : Nat) (s : State) : Res :=
  let s := s.arrive t
  .next (if s.red.check.running ∧ 2 ≤ s.red.check.frames ∧ 19000000 ≤ s.frameElapsed then s.checkEnd else s)

/-! ### Rotation and relays (R388, R408, R413, R414) -/

/-- Frame N+1, F+18.5 ms: the outgoing unit releases authority; its analogue outputs hold. R413. -/
def execRotationRelease (t : Nat) (s : State) : Res :=
  let s := s.arrive t
  .next (if s.red.commanding ∧ s.red.rotation = some 1 ∧ 18500000 ≤ s.frameElapsed then
      let s := if s.red.unit = 2 then s.modRed (fun r => { r with relPend := some (2, s.frame.number) }) else s
      s.giveUp 21 true
    else s)

/-- A contact reads closed for 1 s with its ROLE output low. R408. -/
def execRoleRelayFaultDetect (t k : Nat) (s : State) : Res :=
  let s := s.arrive t
  guardUnit (between 1 k 2) k (if s.held (assoc s.red.relayBadSince k) 1000000000 then s.raiseAlarm .ROLE_RELAY_FAULT else s)

/-- The standby's age reaches RED_ROTATE_HOURS. R414. -/
def execRotateDueReached (t : Nat) (s : State) : Res :=
  let s := s.arrive t
  let s := s.rotateAge
  .next (if s.parN .RED_ROTATE_HOURS * 3600000000000 ≤ s.red.rotateAge then s.raiseAlarm .ROTATE_DUE else s)

/-- A strap changes while the unit runs: it takes effect at the next reset. R388. -/
def execUidStrapChange (t v : Nat) (s : State) : Res :=
  let s := s.arrive t
  guardUnit (decide (v < 4)) v <|
    if s.red.strap = v then s
    else (s.modRed (fun r => { r with strap := v, uidChanged := true })).event .UID_CHANGED [wN v]

/-! ### The mirror (R41, R157, R392) -/

/-- Whether the frame has reached the span in which its mirror leaves, F+16 to F+19 ms. R32. -/
def State.mirrorSpan (s : State) : Bool := s.frame.running && between 16000000 s.frameElapsed 19000000

/-- The active unit sends the frame state to the standby, and the hold state to W; the standby's message carries only what the safety sections
exchange. R32, R41, R392, R436, R444. -/
def execFrameMirrorSend (t : Nat) (s : State) : Res :=
  let s := s.arrive t
  .next (if s.mirrorSpan ∧ s.dom 3 ∧ s.pairUnit ∧ (s.red.commanding ∨ s.red.marksOut) then
      let m := s.mirrorData []
      let s := (s.modRed (fun r => { r with marksOut := false })).emit (.mirror s.peerOnLan m)
      if s.parB .RED_HAS_W then s.emit (.holdState s.red.w.laneOkSince.isNone m) else s
    else if s.mirrorSpan ∧ s.dom 3 ∧ s.pairUnit then
      s.emit (.mirror s.peerOnLan { frame := s.frame.number, active := false, safeCrc := s.safe.confCrc, brkHours := s.brkHours })
    else s)

/-- The newest mirror is held for the next fence. One that arrives after the fence of the frame behind its own is counted, and one older than a
mirror already applied is discarded. R41, R157. -/
def State.holdMirror (s : State) (m : MirrorData) : State :=
  let f := { s.frame with mirrorLate := if m.frame < s.frame.number then s.frame.mirrorLate + 1 else s.frame.mirrorLate }
  if f.mirrorApplied.any (fun n => m.frame < n) then { s with frame := f }
  else
    let held : MirrorData := match f.mirrorHeld with
      | none => m
      | some h => if m.frame < h.frame then h else { m with learned := if m.learned.isEmpty then h.learned else m.learned }
    { s with frame := { f with mirrorHeld := some held } }

/-- The standby receives a mirror. R41. -/
def execFrameMirrorReceived (t : Nat) (m : MirrorData) (s : State) : Res :=
  let s := s.arrive t
  .next (if s.dom 3 ∧ s.pairUnit then
      let s := s.takeExchange { m with active := m.active && !s.red.commanding }
      if m.active ∧ ¬ s.red.commanding then s.holdMirror m else s
    else s)

/-- The active unit sends its learned values in the mirror. R157. -/
def execLearnedModelMirror (t : Nat) (s : State) : Res :=
  let s := s.arrive t
  .next (if s.red.commanding ∧ s.pairUnit ∧ s.frame.running ∧ s.dom 3 then s.emit (.mirror s.peerOnLan (s.mirrorData s.learnedVals)) else s)

/-- W receives the hold state and applies it to its own. R392, R415. -/
def execWardenHoldStateReceived (t : Nat) (m : MirrorData) (s : State) : Res :=
  let s := s.arrive t
  .next (if s.dom 3 ∧ s.red.unit = 2 ∧ ¬ s.red.commanding ∧ ¬ s.frame.mirrorApplied.any (fun n => m.frame < n) then
      (s.modRed (fun r => { r with heldState := some m })).applyMirror m
    else s)

/-! ### Commands (R420) -/

/-- RED_QUERY. -/
def opRedQuery : OpDef := {
  code := 0x0B00, pair := false, readOnly := true
  run := fun s _ _ _ =>
    let r := s.red
    (s, leBytes 2 r.unit ++ leBytes 2 s.redRole ++ leBytes 4 r.epochHeld.toNat ++
      [byte r.health, byte (s.peerScore.getD 0), byte s.redHeard, byte s.redMode] ++
      leBytes 4 (BitVec.ofInt 32 s.leaseLeft).toNat ++ leBytes 4 r.check.last) }

/-- Whether ROLE_ROTATE is admitted. R413. -/
def State.mayRotate (s : State) : Bool :=
  s.red.commanding && !s.red.check.running && !s.red.suspended && s.red.rotation.isNone && (match s.peerOf with
    | none => false
    | some p => s.heard p && decide (0 < (s.partner p).score) && decide ((s.partner p).gen = s.cfg.gen))

/-- A hand-over to a unit scheduled, and the reply that names frame N+2. R413. -/
def State.rotate (s : State) (aim : Nat) : State × List Byte :=
  (s.modRed (fun r => { r with rotation := some 0, rotationTo := aim }), leBytes 4 (s.frame.number + 2))

/-- ROLE_ROTATE. -/
def opRoleRotate : OpDef := {
  code := 0x0B01, pair := false, role := 2
  chk := fun s _ _ => if s.mayRotate then stDone else stNotInMode
  run := fun s _ _ _ => s.rotate (s.peerOf.getD 0) }

/-- Whether a heartbeat of A or B has arrived within 100 ms. R416. -/
def State.abRecent (s : State) : Bool :=
  [s.red.a, s.red.b].any (fun x => (x.laneFrame.isSome || x.lanFrame.isSome) && decide (s.now < x.lastAt + 100000000))

/-- W's promotion: in lease mode it waits for its lease, otherwise it takes authority. R416. -/
def State.promote (s : State) (n q : Nat) : State :=
  if s.arbiter then (s.modRed (fun r => { r with promoteReq := some (n, q) })).wardenStep else s.wardenTake 5

/-- WARDEN_PROMOTE. In lease mode its DONE waits until W commands. R416. -/
def opWardenPromote : OpDef := {
  code := 0x0B02, pair := false, role := 2
  chk := fun s _ _ =>
    if s.red.unit ≠ 2 ∨ s.sys.mode ≠ .warden ∨ (¬ s.arbiter ∧ s.abRecent) ∨ s.red.promoteReq.isSome then stNotInMode else stDone
  defer := fun s _ => s.arbiter
  run := fun s n q _ => (s.promote n q, []) }

/-- The unit WARDEN_RELEASE hands authority to: the higher score of those heard, A on a tie. R417. -/
def State.releaseTo (s : State) : Option Nat :=
  let ok (k : Nat) : Bool := s.heard k && decide (0 < (s.partner k).score)
  if ok 0 ∧ (¬ ok 1 ∨ s.red.b.score ≤ s.red.a.score) then some 0 else if ok 1 then some 1 else none

/-- WARDEN_RELEASE. -/
def opWardenRelease : OpDef := {
  code := 0x0B03, pair := false, role := 2
  chk := fun s _ _ =>
    if s.red.unit = 2 ∧ s.red.commanding ∧ s.releaseTo.isSome ∧ ¬ s.red.check.running ∧ s.red.rotation.isNone then stDone else stNotInMode
  run := fun s _ _ _ => s.rotate (s.releaseTo.getD 0) }

end Sys2Proof.Machine
end

