-- ==== Sys2Proof/Machine/ModeOps.lean ====
section
/-!
DEFINITION. Modes, drains and images: what SET_MODE, DOMAIN_DRAIN, DOMAIN_RESTORE and the image commands share (spec/20 R572–R583, R590).
-/
namespace Sys2Proof.Machine

/-! ### What HOLD depends on (R22, R578) -/

/-- Whether a point is one of FIO's. -/
def fioPt (p : Nat) : Bool := 3328 ≤ p && p < 3520

/-- Whether a selected hold function, a reference in use or a thruster channel depends on FIO's channels. R22. -/
def State.fieldNeeded (s : State) : Bool :=
  let joy : Bool := s.hold.core.func = 0 &&
    [Param.HOLD_JOY_X_PT, .HOLD_JOY_Y_PT, .HOLD_JOY_N_PT].any (fun p => (s.par? p).any (fun q => fioPt (natOf q)))
  let ref : Bool := slotAll.any (fun i => (s.slot i).state = .accepted && (s.slotSrc i).any fioPt)
  let thr : Bool := fioAll.any (fun c => s.parN .FIO_OUT_SRC c = 1 && s.availOf (s.parN .FIO_OUT_CHAN c) = 0)
  joy || ref || thr

/-- Whether R22 admits the drain of a domain in HOLD, under the configuration in force. -/
def State.drainAdmitted (s : State) (d : Nat) : Bool :=
  match d with
  | 6 => s.dom 7
  | 7 => s.dom 6
  | 8 => true
  | 10 => thrAll.all (fun c => s.availOf c ≠ 0)
  | 11 => !s.fieldNeeded
  | _ => false

/-- The domains a drain or restore names: D4 and D5 always go together. R578. -/
def domGroup (d : Nat) : List Nat := if d = 4 || d = 5 then [4, 5] else [d]

/-- The mask of a group. -/
def domMask (d : Nat) : Nat := sumN ((domGroup d).map (fun k => 2 ^ k))

/-- Domains that a command may drain. R578. -/
def drainable (d : Nat) : Bool := d ≤ 11 && !([0, 1, 3, 9].contains d)

/-- The job of a domain's group in progress. -/
def State.domJob (s : State) (d : Nat) : Option DrainJob := s.sys.jobs.find? (fun j => (domGroup d).contains j.domain)

/-- A job ended. -/
def State.dropJob (s : State) (d : Nat) : State :=
  { s with sys := { s.sys with jobs := s.sys.jobs.filter (fun j => !(domGroup d).contains j.domain) } }

/-- The acceptance of DOMAIN_DRAIN. R578, R579. -/
def State.drainChk (s : State) (d : Nat) : Nat :=
  if ¬ drainable d then stBadParam
  else if s.red.check.running then stNotInMode
  else if ¬ s.dom d then stDone
  else if (s.domJob d).isSome then stNotInMode
  else if (d = 6 ∨ d = 7 ∨ s.sys.mode = .hold) ∧ ¬ s.drainAdmitted d then stNotInMode
  else stAccepted

/-- A domain drained by command that R573 keeps out of service moves the unit into SERVICE. R573, R574. -/
def State.serviceEnter (s : State) (admitted : Bool) : State :=
  if admitted then s
  else
    match s.sys.mode with
    | .standby | .commission | .warden => State.setMode { s with sys := { s.sys with before := s.sys.mode } } .service 24
    | _ => s

/-- Whether D10 has nothing left to finish: no thrust stands at an output, and no attempt is on a bus. R27. -/
def State.busIdle (s : State) : Bool := thrAll.all (fun c => decide ((s.tch c).outT = 0)) && s.bus.can.all (fun p => p.onBus.isNone)

/-- A domain's items end under R27 and its power goes. A cluster first finishes what it may; D10 first ramps the thrust of its channels to
zero and lets attempts on a bus run to their end. R27, R221, R298, R578. -/
def State.drainGo (s : State) (d : Nat) : State :=
  if d = 6 ∨ d = 7 then s.clLeave (d - 6) true 24
  else if d = 10 ∧ ¬ s.busIdle then
    [1, 2, 3, 4].foldl (fun s n => s.disablePort n abDisabled)
      (thrAll.foldl (fun s c => State.modTch (s.thrRampOut c) c (fun x => { x with abortedF := x.abortedF || x.sealed, sealed := false })) s)
  else (if d = 8 then s.satRetain else s).drainDown d (domGroup d)

/-- DOMAIN_DRAIN accepted. -/
def State.drainStart (s : State) (n q d : Nat) : State :=
  let ok := s.drainAdmitted d
  let s := s.serviceEnter ok
  let s : State := { s with sys := { s.sys with
    jobs := s.sys.jobs ++ [({ domain := d, restore := false, session := n, seq := q } : DrainJob)], drainedCmd := s.sys.drainedCmd ||| domMask d } }
  (s.raiseAlarm .SERVICE_ACTIVE).drainGo d

/-- The image a domain starts from: HEN0 and HEN1 share one, D5 and D1 have none. R16, R580. -/
def imgOf (d : Nat) : Nat := if d = 7 then 6 else d

/-- The image state of a domain. -/
def State.img? (s : State) (d : Nat) : Option ImgSt := s.sys.images.find? (fun x => x.domain = imgOf d)

/-- The image state of a domain changed. -/
def State.modImg (s : State) (d : Nat) (f : ImgSt → ImgSt) : State :=
  { s with sys := { s.sys with images := s.sys.images.map (fun (x : ImgSt) => if x.domain = imgOf d then f x else x) } }

/-- A slot of an image. -/
def ImgSt.slot (x : ImgSt) (k : Nat) : ImgSlot := if k = 0 then x.a else x.b

/-- A slot changed. -/
def ImgSt.setSlot (x : ImgSt) (k : Nat) (v : ImgSlot) : ImgSt := if k = 0 then { x with a := v } else { x with b := v }

/-- Whether a domain's active slot holds an image that verifies, or the domain has none. R578, R580. -/
def State.imgStarts (s : State) (d : Nat) : Bool :=
  match s.img? d with
  | none => true
  | some x => (x.slot x.active).valid

/-- The active mark returns to the other slot, where that one holds an image. R582. -/
def State.imgFallback (s : State) (d : Nat) : State :=
  match s.img? d with
  | none => s
  | some x =>
    if (x.slot (1 - x.active)).valid then
      (s.modImg d (fun x => { x with active := 1 - x.active, trial := none, trialDue := false, selfResets := 0, fellBack := true })).raiseAlarm
        .IMG_FALLBACK (imgOf d)
    else s

/-- The images of a domain group start. -/
def State.imgUp (s : State) (d : Nat) : State := s.imgStart (domGroup d)

/-- The domains a domain needs. R22. -/
def domNeeds (d : Nat) : List Nat :=
  match d with
  | 8 | 10 => [1, 9]
  | 1 | 4 | 5 => []
  | _ => [1]

/-- Whether R573 still places the unit in SERVICE. -/
def State.serviceStays (s : State) : Bool :=
  (List.range 12).any (fun d => (s.sys.drainedCmd.testBit d || s.sys.failedDom.testBit d) && !s.drainAdmitted d)

/-- A domain runs again: it is no longer drained or failed, and the last that kept the unit in SERVICE ends it. R574, R591. -/
def State.domRuns (s : State) (d : Nat) : State :=
  let m := domMask d
  let s : State := { s with sys := { s.sys with
    drainedCmd := s.sys.drainedCmd - (s.sys.drainedCmd &&& m), failedDom := s.sys.failedDom - (s.sys.failedDom &&& m) } }
  let s := (domGroup d).foldl (fun s k => s.clearAlarm .DOMAIN_FAILED k) s
  let s := if s.sys.drainedCmd = 0 then s.clearAlarm .SERVICE_ACTIVE else s
  if s.sys.mode = .service ∧ ¬ s.serviceStays then s.setMode s.sys.before 24 else s

/-- A job completes. -/
def State.jobDone (s : State) (d status : Nat) : State :=
  match s.domJob d with
  | none => s
  | some j => (s.dropJob d).completeCmd j.session j.seq status []

/-! ### SET_MODE (R574, R575) -/

/-- The mode a code names. -/
def modeOfCode (c : Nat) : Option Mode :=
  match c with
  | 0 => some .keep
  | 1 => some .restore
  | 2 => some .commission
  | 3 => some .standby
  | 4 => some .hold
  | 5 => some .warden
  | 6 => some .service
  | 7 => some .safeStop
  | _ => none

/-- Whether SET_MODE HOLD is refused in STANDBY. R47, R390, R575. -/
def State.holdRefused (s : State) : Bool :=
  s.partners.any s.heardCommanding || !s.estGood || s.red.health = 0 || s.alarmOn .UID_CONFLICT || s.frame.stallGaveUp || s.sys.holdReq.isSome ||
    s.red.gainDue

/-- Whether a unit in STANDBY waits for a grant on SET_MODE HOLD. R575. -/
def State.leaseMode (s : State) : Bool := s.pairUnit && !s.overlap

/-- The acceptance of a change from a mode to another. R574. -/
def State.modeChk (s : State) (m : Mode) : Nat :=
  match s.sys.mode, m with
  | .standby, .hold => if s.holdRefused then stNotInMode else if s.leaseMode then stAccepted else stDone
  | .hold, .standby => if s.red.commanding then stDone else stNotInMode
  | .standby, .commission => stDone
  | .commission, .standby => if s.cfg.base then stNotInMode else stDone
  | .standby, .keep | .commission, .keep | .service, .keep | .warden, .keep => if s.cmd.accepted.isEmpty then stDone else stNotInMode
  | _, _ => stNotInMode

/-- What an admitted change does at once. R574–R576. -/
def State.modeGo (s : State) (n q : Nat) (m : Mode) : State :=
  match m with
  | .hold =>
    if s.leaseMode then { s with red := { s.red with pairHold := true }, sys := { s.sys with holdReq := some (n, q, s.now + 200000000) } }
    else s.modRed (fun r => { r with gainDue := true })
  | .standby =>
    if s.sys.mode = .hold then { s with sys := { s.sys with leavingHold := some (s.sys.leavingHold.getD s.now) } } else s.setMode .standby 0
  | m => s.setMode m 0

/-! ### Images (R580, R581) -/

/-- The completion code of an image against its header: 0 verified, 1 hash, 2 signature, 3 version; another code for a wrong header. R580, R592. -/
def State.imgCheck (s : State) (b : List Byte) : Nat :=
  let d := fld b 4 1
  let len := fld b 12 4
  let key := if d = 0x80 then s.keep.integKey else Config.clalekKey
  let head : Bool := fld b 0 4 = 0x474D4958 && (s.sys.images.any (fun x => x.domain = d)) && b.length = 256 + len &&
    decide (len ≤ if d = 0x80 then integSlotBytes else 96 * 2 ^ 20)
  if ¬ head then 1 + Config.imgHeadCode b % 255
  else if sha256 (b.drop 256) ≠ slice 16 32 b then 1
  else if ¬ Config.ecdsaOk key (sha256 (b.take 48)) (slice 48 64 b) then 2
  else if fld b 8 4 < (assoc s.keep.minVersion d).getD 0 then 3
  else 0

/-- A verified image copied into its domain's inactive slot. R581. -/
def State.imgCopy (s : State) (b : List Byte) : State :=
  s.modImg (fld b 4 1) (fun x => x.setSlot (1 - x.active) { valid := true, version := fld b 8 4, mirror := fld b 6 2, image := b })

/-- IMG_VERIFY ends; `readback` tells that the slot read back differs. R581, R592. -/
def State.imgVerified (s : State) (readback : Bool) : State :=
  match s.sys.verifying with
  | none => s
  | some (n, q, len) =>
    let s : State := { s with sys := { s.sys with verifying := none } }
    let b := slice 0 len s.sys.stage
    let c := s.imgCheck b
    let s := if c = 0 ∧ ¬ readback then s.imgCopy b
      else if c = 0 then s.modImg (fld b 4 1) (fun x => x.setSlot (1 - x.active) { image := b })
      else s
    s.completeCmd n q stDone [byte (if c = 0 ∧ readback then 4 else c)]

/-- The partition restarts from its active slot. R20, R583. -/
def State.partRestart (s : State) : State :=
  let s := s.partStop 24
  let s := s.imgStart [0x80]
  State.partStart { s with part := { s.part with stoppedByFaults := false, restarts := [] } } true 24

/-- IMG_ACTIVATE: the inactive slot becomes the one to start from. R581, R583. -/
def State.imgActivate (s : State) (d : Nat) : State :=
  let s := s.modImg d (fun x => { x with active := 1 - x.active, trialDue := true, trial := none })
  if d = 0x80 then s.partRestart else s

/-! ### Points (R590) -/

/-- A mask with bit n for domain n whose image meets a test of it and of the domain; bit 31 is the partition. R590. -/
def State.imgMask (s : State) (f : Nat → ImgSt → Bool) : Nat :=
  let on (d : Nat) : Bool := [0, 2, 3, 4, 6, 7, 8, 9, 10, 11].contains d && (s.img? d).any (f d)
  maskOf 12 on + 2 ^ 31 * b2n ((s.img? 0x80).any (f 0x80))

/-- IMG_SLOT. -/
def State.imgSlots (s : State) : Nat := s.imgMask (fun d x => (if d = 7 then x.running7 else x.running) = 1)

/-- IMG_TRIAL. -/
def State.imgTrials (s : State) : Nat := s.imgMask (fun _ x => x.trial.isSome)

/-- SYS_MODE_FLAGS. -/
def State.modeFlags (s : State) : Nat :=
  b2n s.drained + 2 * b2n (s.sys.images.any (fun x => x.trial.isSome)) + 4 * b2n s.cfg.base + 8 * b2n s.cfg.commit.isSome

/-- The points of the modes and the configuration. R590. -/
def sysPoints (s : State) : List (Nat × PVal × Half) :=
  let g : Half := qGood
  [(3968, pvE s.sys.mode.code, g), (3969, pvX s.modeFlags, g), (3970, pvU s.cfg.gen, g),
    (3971, pvU (match s.cfg.validated with
      | some (_, c, _) => c.toNat
      | none => 0), g),
    (3972, pvU (match s.cfg.commit with
      | some (_, n, _) => (s.frame.number + n) % 2 ^ 32
      | none => 0), g),
    (3973, pvX s.imgSlots, g), (3974, pvX s.imgTrials, g), (3975, pvX s.sys.drainedCmd, g)]

end Sys2Proof.Machine
end

