-- ==== Sys2Proof/Machine/Modes.lean ====
section
/-!
DEFINITION. Modes, domains, images and keys: their commands and events (spec/20 R572–R592, spec/19 R570).
-/
namespace Sys2Proof.Machine

/-! ### Modes (R574–R576, R592) -/

/-- SYS_QUERY. -/
def opSysQuery : OpDef := {
  code := 0x0100, pair := false, readOnly := true
  run := fun s _ _ _ =>
    let v (d : Nat) : Nat := match s.img? d with
      | some x => (x.slot x.running).version
      | none => 0
    (s, [byte s.sys.mode.code, byte s.red.unit, 0, 0] ++ leBytes 4 s.modeFlags ++ leBytes 4 s.keep.powered ++ leBytes 4 s.cfg.gen ++
      leBytes 4 s.imgSlots ++ leBytes 4 s.imgTrials ++ [0, 2, 3, 4, 6, 8, 9, 10, 11].flatMap (fun d => leBytes 4 (v d))) }

/-- SET_MODE. Modes other than HOLD and STANDBY ask for an engineer. R574, R575, R592. -/
def opSetMode : OpDef := {
  code := 0x0103, pair := false, len := 8
  chk := fun s n p =>
    let role : Nat := match s.sess? n with
      | some x => x.role.code
      | none => 0
    match modeOfCode (fld p 0 1) with
    | none => stBadParam
    | some m => if m ≠ .hold ∧ m ≠ .standby ∧ role < 2 then stPermission else s.modeChk m
  defer := fun _ p => fld p 0 1 = 0
  run := fun s n q p =>
    if fld p 0 1 = 0 then ((s.deferredDone n q 0x0103 []).enterKeep (fld p 4 4), [])
    else (s.modeGo n q ((modeOfCode (fld p 0 1)).getD .standby), []) }

/-- 200 ms after SET_MODE HOLD without a grant. R575. -/
def execHoldGrantTimeout (t : Nat) (s : State) : Res :=
  let s := s.arrive t
  .next (match s.sys.holdReq with
    | none => s
    | some (_, _, a) =>
      if a ≤ s.now then ((s.modRed (fun r => { r with pairHold := false })).event .HOLD_NOT_GRANTED []).holdReqDone stDeadline else s)

/-- Whether a unit that leaves HOLD may give up authority: every command is zero, or 30 s have passed. R576. -/
def State.mayLeave (s : State) : Bool :=
  s.held s.sys.leavingHold 30000000000 ||
    (s.sys.leavingHold.isSome && thrAll.all (fun c => !s.alcConf c || decide ((s.ach c).t = 0)))

/-- The end of HOLD after SET_MODE STANDBY; the mirror marks the pair out of HOLD. R576. -/
def execHoldReleaseComplete (t : Nat) (s : State) : Res :=
  let s := s.arrive t
  .next (if s.mayLeave then (s.giveUp 22 false).modRed (fun r => { r with pairHold := false, marksOut := r.unit = 0 || r.unit = 1 }) else s)

/-! ### Domains (R578, R579) -/

/-- DOMAIN_DRAIN. -/
def opDomainDrain : OpDef := {
  code := 0x0C03, pair := false, role := 2, len := 1
  chk := fun s _ p => s.drainChk (fld p 0 1)
  run := fun s n q p => (if s.dom (fld p 0 1) then s.drainStart n q (fld p 0 1) else s, []) }

/-- The acceptance of DOMAIN_RESTORE. R22, R578. -/
def State.restoreChk (s : State) (d : Nat) : Nat :=
  if ¬ drainable d then stBadParam
  else if (s.domJob d).isSome then stNotInMode
  else if s.dom d then stDone
  else if ¬ (domNeeds d).all s.dom then stNotInMode
  else stAccepted

/-- DOMAIN_RESTORE accepted; D4 and D5 are powered at once, and run once their start test passes. R443, R578. -/
def State.restoreStart (s : State) (n q d : Nat) : State :=
  let s : State := { s with sys := { s.sys with
    jobs := s.sys.jobs ++ [({ domain := d, restore := true, session := n, seq := q } : DrainJob)] } }
  if (d = 4 ∨ d = 5) ∧ s.imgStarts 4 then ((s.imgUp 4).domUp 4).domUp 5 else s

/-- DOMAIN_RESTORE. -/
def opDomainRestore : OpDef := {
  code := 0x0C04, pair := false, role := 2, len := 1
  chk := fun s _ p => s.restoreChk (fld p 0 1)
  run := fun s n q p => (if s.dom (fld p 0 1) then s else s.restoreStart n q (fld p 0 1), []) }

/-- A cluster that drains has finished what it may: it is powered down. R221. -/
def execHenDrainDone (t i : Nat) (s : State) : Res :=
  let s := s.arrive t
  guardUnit (decide (i < 2)) i <|
    if (s.cl i).draining ∧ s.dom (6 + i) ∧ s.clFinished i then s.drainDown (6 + i) [6 + i] else s

/-- A draining domain is off; D10 goes off once it has nothing left to finish. R27, R578. -/
def execDomainOff (t d : Nat) (s : State) : Res :=
  let s := s.arrive t
  guardUnit (decide (d < 12)) d <|
    match s.domJob d with
    | none => s
    | some j =>
      if j.restore then s
      else
        let s := if d = 10 ∧ s.dom 10 ∧ s.busIdle then s.drainDown 10 [10] else s
        if s.dom d then s else s.jobDone d stDone

/-- The domains of a group come up from their images. -/
def State.groupUp (s : State) (d : Nat) : State := (domGroup d).foldl State.domUp (s.imgUp d)

/-- A restored domain runs; in RESTORE a domain has come up. R559, R578. -/
def execDomainRunning (t d : Nat) (s : State) : Res :=
  let s := s.arrive t
  let safety : Bool := d = 4 || d = 5
  guardUnit (decide (d < 12)) d <|
    if s.sys.mode = .restore then
      (if 0 < d ∧ ¬ s.dom d ∧ (domNeeds d).all s.dom ∧ s.imgStarts d ∧ ¬ s.sys.failedDom.testBit d then s.domUp d else s)
    else
      match s.domJob d with
      | none => s
      | some j =>
        if ¬ j.restore ∨ ¬ s.imgStarts d ∨ ¬ (domNeeds d).all s.dom ∨ (safety ∧ s.safe.startDue) then s
        else ((if safety then s else s.groupUp d).domRuns d).jobDone d stDone

/-- A domain that fails to start: the previous slot is made active where it can be, and the alarm stands. R578, R579. -/
def State.failedStart (s : State) (d : Nat) : State :=
  let s := s.imgFallback d
  State.raiseAlarm { s with sys := { s.sys with failedDom := s.sys.failedDom ||| 2 ^ d } } .DOMAIN_FAILED d

/-- What a failed start does: in RESTORE, to a domain that DOMAIN_RESTORE brings up, or to one within a trial. The domains that need it go down
first. R22. -/
def State.startFailure (s : State) (d : Nat) : State :=
  if s.sys.mode = .restore ∧ d < 12 then (((allDoms.filter (fun k => (domNeeds k).contains d)).foldl State.domDown s).domDown d).failedStart d
  else
    match s.domJob d with
    | some j => if j.restore then (((domGroup d).foldl State.domDown s).failedStart d).jobDone d stAborted else s
    | none => if (s.img? d).any (fun x => x.trial.isSome) then s.imgFallback d else s

/-- A domain fails to start from its active slot, or has been reset twice by its own fault within a trial. R578, R579, R582, R591. -/
def execDomainStartFailure (t d : Nat) (s : State) : Res :=
  let s := s.arrive t
  guardUnit (decide (d < 12) || d == 0x80) d (s.startFailure d)

/-! ### Restart, factory settings and keys (R570, R592) -/

/-- SYS_RESTART. -/
def opSysRestart : OpDef := {
  code := 0x0C05, pair := false, role := 3, len := 1
  chk := fun s _ _ => if s.sys.mode = .hold then stNotInMode else stDone
  run := fun s _ _ p => ({ s with sys := { s.sys with restartAt := some (s.now + 100000000, (fld p 0 1).testBit 0) } }, []) }

/-- Before a restart by command the unit gives up what R552 names, its domains go down, and the recorder's queue is written before D1 (log 121).
R537, R550. -/
def State.restartEnd (s : State) : State := ((s.giveUp 23 false).allDown (allDoms.filter (· ≠ 1))).drainMem

/-- The restart of SYS_RESTART: with the cold flag D0 starts as well. R592. -/
def State.restart (s : State) (cold : Bool) : State :=
  let s := s.restartEnd
  if cold then (s.saveCounters.saveTime.allDown allDoms).coldStart true 4 s.red.strap {} else s.enterRestore 4 s.red.strap

/-- 100 ms after SYS_RESTART. R592. -/
def execSysRestartDelayEnd (t : Nat) (s : State) : Res :=
  let s := s.arrive t
  .next (match s.sys.restartAt with
    | none => s
    | some (a, cold) => if a ≤ s.now then s.restart cold else s)

/-- What CFG_FACTORY sets back, by its mask. R570. -/
def State.factory (s : State) (mask : Nat) : State :=
  let g := s.nextGen
  let c : CfgCopy := { valid := true, gen := g, body := [], time := s.sel }
  let s : State := if mask.testBit 0 then { s with cfg := { s.cfg with copyA := c, copyB := c } } else s
  let s : State := if mask.testBit 1 then
      { s with alc := { s.alc with
          retained := [], retainedModel := []
          chans := s.alc.chans.map (fun (x : AlcChan) => { x with kNum := 0, kDen := 0, kLearned := none, slewLearned := none, fullRateSince := none }) } }
    else s
  let s : State := if mask.testBit 2 then { s with sat := { s.sat with retained := {} } } else s
  if mask.testBit 3 then s.modSafe (fun x => { x with confirmed := none, pendingSet := none, slBank := [], slPending := [] }) else s

/-- CFG_FACTORY: DONE, the record, and RESTORE. R566, R570. -/
def opCfgFactory : OpDef := {
  code := 0x0204, pair := false, role := 3, len := 8
  chk := fun s _ p =>
    if fld p 4 4 ≠ s.cfg.gen ∨ fld p 0 1 = 0 then stBadParam else if s.sys.mode ≠ .commission then stNotInMode else stDone
  defer := fun _ _ => true
  run := fun s n q p =>
    (((((s.deferredDone n q 0x0204 []).event .CFG_FACTORY_EV [wN (fld p 0 1)]).factory (fld p 0 1)).restartEnd).enterRestore 5 s.red.strap, []) }

/-- CFG_FROM_PEER. R588, R592. -/
def opCfgFromPeer : OpDef := {
  code := 0x0205, pair := false, role := 3
  chk := fun s _ _ => if s.sys.mode ≠ .commission ∨ s.sys.cfgFromPeer.isSome then stNotInMode else stAccepted
  run := fun s n q _ => ({ s with sys := { s.sys with cfgFromPeer := some (n, q) } }, []) }

/-- The peer's generation has been copied: it is in force with its own number, its safety set PENDING. `b` holds the generation's number and its
body. R447, R588. -/
def State.fromPeer (s : State) (status : Nat) (b : List Byte) : State :=
  match s.sys.cfgFromPeer with
  | none => s
  | some (n, q) =>
    let s : State := { s with sys := { s.sys with cfgFromPeer := none } }
    if status ≠ stDone then s.completeCmd n q status []
    else ((s.writeCopy (fld b 0 4) (b.drop 4)).cfgApply (fld b 0 4) (b.drop 4)).completeCmd n q stDone (leBytes 4 (fld b 0 4))

/-- KEY_WRITE: a role key, or the integrator image key. Writing the service key ends a key-loading session. R342, R588, R592. -/
def opKeyWrite : OpDef := {
  code := 0x0C06, pair := false, role := 3, len := 36
  chk := fun _ _ p => if between 1 (fld p 0 1) 3 ∨ fld p 0 1 = 0x10 then stDone else stBadParam
  run := fun s n _ p =>
    let k := fld p 0 1
    let v := p.drop 4
    let s := if k = 0x10 then s.modKeep (fun x => { x with integKey := v }) else s.modKeep (fun x => { x with roleKeys := assocSet x.roleKeys k (v.take 32) })
    (if k = 3 then s.modSess n (fun x => { x with closing := x.closing || x.keyLoad }) else s, []) }

/-! ### Images (R581, R582, R592) -/

/-- Bytes of the update staging partition. R16. -/
def imgStageMax : Nat := NandPart.staging.size

/-- IMG_STAGE. -/
def opImgStage : OpDef := {
  code := 0x0C00, pair := false, role := 3, len := 6
  chk := fun s _ p =>
    if p.length ≠ 6 + fld p 4 2 ∨ imgStageMax < fld p 0 4 + fld p 4 2 then stBadParam else if s.sys.verifying.isSome then stNotInMode else stDone
  run := fun s _ _ p => ({ s with sys := { s.sys with stage := stageAt s.sys.stage (fld p 0 4) (p.drop 6) } }, []) }

/-- IMG_VERIFY. -/
def opImgVerify : OpDef := {
  code := 0x0C01, pair := false, role := 3, len := 4
  chk := fun s _ p => if imgStageMax < fld p 0 4 then stBadParam else if s.sys.verifying.isSome then stNotInMode else stAccepted
  run := fun s n q p => ({ s with sys := { s.sys with verifying := some (n, q, fld p 0 4) } }, []) }

/-- IMG_ACTIVATE. -/
def opImgActivate : OpDef := {
  code := 0x0C02, pair := false, role := 3, len := 1
  chk := fun s _ p =>
    let d := fld p 0 1
    match s.sys.images.find? (fun x => x.domain = d) with
    | none => stBadParam
    | some x =>
      let other := x.slot (1 - x.active)
      if ¬ other.valid ∨ (s.peerOf.any s.heard ∧ other.mirror ≠ Config.peerLevel d) then stNotInMode else stDone
  run := fun s _ _ p => (s.imgActivate (fld p 0 1), []) }

/-- The end of a trial: the slot is confirmed and its version becomes the least. R582. -/
def execImgTrialEnd (t d : Nat) (s : State) : Res :=
  let s := s.arrive t
  guardUnit (decide (d < 12) || d == 0x80) d <|
    match s.img? d with
    | none => s
    | some x =>
      if s.held x.trial (s.parNs .IMG_TRIAL_TIME) then
        let s := s.modImg d (fun x => { x with trial := none, selfResets := 0, fellBack := false })
        let s := s.modKeep (fun k => { k with minVersion := assocSet k.minVersion (imgOf d) (x.slot x.running).version })
        s.clearAlarm .IMG_FALLBACK (imgOf d)
      else s

end Sys2Proof.Machine
end

