-- ==== Sys2Proof/Machine/Sat.lean ====
section
/-!
DEFINITION. The satellite receiver: its epochs, checks, signals, antennas, time events, corrections and commands (spec/09).
The wakes in KEEP stand with the power domains.
-/
namespace Sys2Proof.Machine

/-- Whether the receiver runs. -/
def State.satOn (s : State) : Bool := s.dom 8 && (s.sat.state = 2 || s.sat.state = 3)

/-- The answer of an event of the running receiver. -/
def satEv (s : State) (f : State → State) : Res := .next (if s.satOn then f s else s)

/-- An epoch. -/
def execSatEpoch (t : Nat) (obs : EpochObs) (s : State) : Res := satEv (s.arrive t) (fun s => s.satEpoch obs)

/-- The checks of a second. -/
def execSatSecondChecks (t : Nat) (obs : SecondObs) (s : State) : Res := satEv (s.arrive t) (fun s => s.satSecond obs)

/-- A signal is acquired. R275, R276. -/
def execSatSignalAcquired (t : Nat) (id : SigId) (elev : Rat) (s : State) : Res :=
  satEv (s.arrive t) (fun s => if id.valid then s.sigAcquired id elev else s)

/-- A lost signal's 10 s end. R276. -/
def execSatChannelRelease (t : Nat) (id : SigId) (s : State) : Res :=
  satEv (s.arrive t) (fun s => { s with sat := { s.sat with
    chans := s.sat.chans.filter (fun c => c.id ≠ id || !s.held c.lostAt 10000000000) } })

/-- Tracking of a signal is lost: 10 s of reacquisition; with fewer than five satellites left the signals are lost, which ends
a confirmation, a slew or a decided step. R276, R296. -/
def execSatSignalLost (t : Nat) (id : SigId) (s : State) : Res :=
  satEv (s.arrive t) (fun s =>
    let s := { s with sat := { s.sat with
      chans := s.sat.chans.map (fun (c : SatChan) => if c.id = id then { c with lostAt := some (c.lostAt.getD s.now) } else c) } }
    if s.masterSats < 5 ∧ s.sat.time.qual ≠ 1 then s.satLose else s)

/-- No epoch has updated SAT time for 1 s. R292. -/
def execSatHoldoverEntry (t : Nat) (s : State) : Res :=
  let s := s.arrive t
  let x := s.sat.time
  .next (if s.dom 8 ∧ (x.qual = 1 ∨ x.qual = 3) ∧ s.past x.lastUpdate 1000000000 then s.satLose else s)

/-- The confirmation of the return is complete. R293. -/
def execSatReturnConfirmed (t : Nat) (s : State) : Res :=
  satEv (s.arrive t) (fun s =>
    let x := s.sat.time
    match x.offsets with
    | [] => s
    | (_, e) :: _ =>
      if x.qual = 2 ∧ ¬ x.latchedHold ∧ ¬ s.sat.spoofLatched ∧ x.stepDue.isNone ∧ s.held x.confirmSince (s.parNs .SAT_RETURN_CONFIRM) then
        s.satReturn e
      else s)

/-- The whole second at which a decided step is applied. R294. -/
def execSatTimeStep (t : Nat) (s : State) : Res :=
  satEv (s.arrive t) (fun s =>
    match s.sat.time.stepDue with
    | none => s
    | some (a, e) => if a ≤ s.now then s.satStep e else s)

/-- The error has been absorbed. R293. -/
def execSatSlewComplete (t : Nat) (s : State) : Res :=
  satEv (s.arrive t) (fun s => if s.sat.time.qual = 3 ∧ s.sat.time.slewEnd ≤ s.now then s.satLocked else s)

/-- A whole second of SAT time: the pulse, unless a step suppresses it. R289, R294, R325. -/
def execSatPps (t : Nat) (s : State) : Res :=
  let s := s.arrive t
  let x := s.sat.time
  let off : Bool := match x.ppsSuppressUntil with
    | none => false
    | some u => decide (s.satTime + 5 < u)
  let off : Bool := off || x.stepDue.any (fun e => decide (e.1 ≤ s.now))
  .next (if s.dom 8 ∧ x.qual ≠ 0 ∧ ¬ off ∧ (s.satTime + 5) % 1000000000 ≤ 10 then
      let s := s.modSt (fun x => { x with lastPps := some s.now, ppsSuppressUntil := none })
      if s.dom 9 then (let s := s.satEdge; if s.netUp then s.ppsOut else s) else s
    else s)

/-- Retained data written on their schedule: the position every 60 s, the drift every 600 s. R298. -/
def execSatRetainedWrite (t : Nat) (s : State) : Res :=
  satEv (s.arrive t) (fun s =>
    let p := s.past s.sat.posWrittenAt 60000000000
    let d := s.past s.sat.driftWrittenAt 600000000000
    if p || d then s.satWrite p d false else s)

/-! ### Antennas (R273, R284) -/

/-- A bias current below 3 mA for 1 s. -/
def execAntOpenDetect (t a : Nat) (s : State) : Res :=
  let s := s.arrive t
  guardUnit (between 1 a 4) a (if s.dom 8 ∧ (s.ant a).biasOn ∧ s.held (s.ant a).openSince 1000000000 then
    (s.modAnt a (fun x => { x with opened := true, okSince := none })).raiseAlarm .ANT_OPEN a else s)

/-- The bias current limit acts at 80 mA. -/
def execAntShort (t a : Nat) (s : State) : Res :=
  let s := s.arrive t
  guardUnit (between 1 a 4) a (if s.dom 8 ∧ (s.ant a).biasOn then
    (s.modAnt a (fun x => { x with
      biasOn := false, opened := false, openSince := none, shortAt := some s.now, okSince := none, current := 0 })).raiseAlarm .ANT_SHORT a
    else s)

/-- The retry of a shorted bias: restored when the current is within limits. -/
def State.biasRetry (s : State) (a : Nat) (ok : Bool) : State :=
  s.modAnt a (fun x =>
    if ok then { x with biasOn := true, shortAt := none, okSince := some s.now }
    else { x with shortAt := some s.now })

/-- Every 10 s a shorted bias is retried. -/
def execAntBiasRetry (t a : Nat) (ok : Bool) (s : State) : Res :=
  let s := s.arrive t
  guardUnit (between 1 a 4) a (if s.dom 8 ∧ s.held (s.ant a).shortAt 10000000000 then s.biasRetry a ok else s)

/-- An antenna's baselines differ for 10 s. R284. -/
def execAntGeometryExclude (t a : Nat) (s : State) : Res :=
  let s := s.arrive t
  guardUnit (between 1 a 4) a (if s.dom 8 ∧ s.held (s.ant a).geomSince 10000000000 ∧ ¬ (s.ant a).excluded then
    (s.modAnt a (fun x => { x with excluded := true, geomOkSince := none })).raiseAlarm .ANT_GEOMETRY a else s)

/-! ### Corrections (R282) -/

/-- The system whose observations a message carries. -/
def rtcmSys (ty : Nat) : Option SatSys :=
  if ty = 1074 ∨ ty = 1075 ∨ ty = 1077 then some .gps
  else if ty = 1094 ∨ ty = 1095 ∨ ty = 1097 then some .galileo
  else if ty = 1124 ∨ ty = 1125 ∨ ty = 1127 then some .beidou
  else none

/-- The field of `n` bits from bit `o`, the most significant bit of the first byte being bit 0. -/
def msbField (bs : List Byte) (o n : Nat) : Nat :=
  (List.range n).foldl (fun v i => 2 * v + b2n (bitOf (bs.getD ((o + i) / 8) 0).toNat (7 - (o + i) % 8))) 0

/-- Whether a BeiDou MSM message holds observations of B1C or B2a: its signal mask, after 24 bits of frame, 73 of header and 64 of satellite mask,
names one of the signals 22 to 24 (B2a) or 30 to 32 (B1C) (log 112). R282. -/
def rtcmBds (bs : List Byte) : Bool :=
  [22, 23, 24, 30, 31, 32].any (fun i => msbField bs (24 + 73 + 64 + (i - 1)) 1 = 1)

/-- Whether bytes are an RTCM 3 frame whose CRC-24Q is right. R282. -/
def rtcmSound (bs : List Byte) : Bool :=
  let len := (bs.getD 1 0).toNat % 4 * 256 + (bs.getD 2 0).toNat
  bs.getD 0 0 = 0xD3 && bs.length = len + 6 && crc24q (bs.take (len + 3)) = leNat ((bs.drop (len + 3)).take 3).reverse

/-- An RTCM 3 frame: preamble 0xD3, ten bits of length, the payload and a CRC-24Q. -/
def State.rtcm (s : State) (bs : List Byte) : State :=
  if ¬ rtcmSound bs then { s with sat := { s.sat with rtcmBad := s.sat.rtcmBad + 1 } }
  else
    let ty := msbField bs 24 12
    match rtcmSys ty with
    | some y =>
      if y = .beidou ∧ ¬ rtcmBds bs then s
      else { s with sat := { s.sat with corrAt := some s.now, corrSys := (y, s.now) :: s.sat.corrSys.filter (fun e => e.1 ≠ y) } }
    | none =>
      if ty = 1005 ∨ ty = 1006 then { s with sat := { s.sat with stationKnown := true } }
      else if ty = 1033 then { s with sat := { s.sat with antDescr := true } }
      else if ty = 1019 ∨ ty = 1042 ∨ ty = 1045 ∨ ty = 1046 then s
      else { s with sat := { s.sat with rtcmOther := s.sat.rtcmOther + 1 } }

/-- Whether RTCM frames are taken where one arrives: the serial port that SAT_RTCM_PORT names, in a framing without sentences, or its UDP port.
R282. -/
def State.rtcmFrom (s : State) : RtcmVia → Bool
  | .ser n _ => s.dom 10 && between 1 n 12 && decide (s.parN .SAT_RTCM_PORT = n ∧ s.parN .BUS_SER_MODE n ≠ 0 ∧ 2 ≤ s.parN .BUS_SER_PROTO n)
  | .udp p => s.netUp && decide (s.parN .SAT_RTCM_PORT = 13 ∧ p = s.parN .SAT_RTCM_UDP)

/-- A frame on SAT_RTCM_PORT; on a serial port its characters and the frame count there too. R282, R490, R496. -/
def execRtcmFrame (t : Nat) (via : RtcmVia) (s : State) (bytes : List Byte := []) : Res :=
  let s := s.arrive t
  if ¬ s.rtcmFrom via then .next s
  else
    match via with
    | .ser n errs =>
      let s := s.serChars n bytes.length errs
      .next (if errs ≠ 0 then s.serBad n
        else
          let s := if rtcmSound bytes then s.serGood n else s
          if s.dom 8 then s.rtcm bytes else s)
    | .udp _ => .next (if s.dom 8 then s.rtcm bytes else s)

/-! ### Commands (R302) -/

/-- SAT_QUERY. -/
def opSatQuery : OpDef := {
  code := 0x0E00, pair := false, readOnly := true
  run := fun s _ _ _ =>
    (s, leBytes 2 s.sat.state ++ leBytes 2 s.sat.time.qual ++ leBytes 4 s.satFlags ++ leBytes 4 s.sat.svUsed ++
      leBytes 4 s.sat.chans.length ++ leBytes 4 s.satBoundN ++ leBytes 4 s.satHoTime ++ leBytes 4 s.corrAge ++ bI s.sat.time.lastStep) }

/-- Whether a slot fed by a block of SAT is ACCEPTED. -/
def State.satFeedsAccepted (s : State) : Bool :=
  (List.range 28).any (fun i =>
    (s.est.slots.getD i {}).state = .accepted &&
      (s.par? .REF_SOURCE i = some 2690 || s.par? .REF_SOURCE i = some 2695 || s.par? .REF_SOURCE i = some 2700))

/-- SAT_RESTART: 0 hot, 1 warm, 2 cold; the signals are lost until they are found again. R296, R298. -/
def opSatRestart : OpDef := {
  code := 0x0E01, pair := false, role := 2, len := 4
  chk := fun s _ p =>
    if 2 < fld p 0 1 then stBadParam
    else if s.sys.mode = .hold ∧ s.satFeedsAccepted then stNotInMode else stDone
  run := fun s _ _ p =>
    if ¬ s.dom 8 then (s, [])
    else
      let s := s.satWithdraw
      let s := if s.sat.time.qual = 1 then s.satTimeMiss else s.satLose
      (s.satBegin (match fld p 0 1 with
        | 0 => .hot
        | 1 => .warm
        | _ => .cold), []) }

/-- SAT_INTEGRITY_RESET. -/
def opSatIntegrityReset : OpDef := {
  code := 0x0E02, pair := false, role := 2
  run := fun s _ _ _ =>
    let absent : Bool := s.sat.spoofRun.isEmpty
    let s := { s with sat := { s.sat with spoofLatched := false, spoofRun := [] } }
    (if absent then s.clearAlarm .SAT_SPOOF else s, []) }

/-- SAT_TIME_ACCEPT: the held GNSS time is taken without the gate. R293, R296. -/
def opSatTimeAccept : OpDef := {
  code := 0x0E03, pair := false, role := 2
  chk := fun s _ _ => if s.sat.time.held.isSome ∧ s.alarmOn .TIME_INCONSISTENT then stDone else stNotInMode
  run := fun s _ _ _ =>
    match s.sat.time.held with
    | none => (s, [])
    | some e =>
      let s := s.modSt (fun x => { x with latchedHold := false, err := e })
      ((s.clearAlarm .TIME_INCONSISTENT).satTake e, []) }

/-- A system of SAT_EXCLUDE. -/
def satSysOf (n : Nat) : SatSys :=
  match n with
  | 0 => .gps
  | 1 => .galileo
  | 2 => .beidou
  | _ => .sbas

/-- SAT_EXCLUDE. -/
def opSatExclude : OpDef := {
  code := 0x0E04, pair := false, role := 2, len := 4
  chk := fun _ _ p =>
    let sv := fld p 1 1
    let svOk : Bool := if fld p 0 1 = 3 then between 120 sv 158 else between 1 sv 63
    if fld p 0 1 ≤ 3 ∧ svOk ∧ fld p 2 1 ≤ 1 then stDone else stBadParam
  run := fun s _ _ p =>
    let x : SatSys × Nat := (satSysOf (fld p 0 1), fld p 1 1)
    let l := s.sat.excluded.filter (fun y => y ≠ x)
    ({ s with sat := { s.sat with excluded := if fld p 2 1 = 1 then l ++ [x] else l } }, []) }

/-- SAT_ANT_BIAS: switching on retries a shorted input at once. -/
def opSatAntBias : OpDef := {
  code := 0x0E05, pair := false, role := 2, len := 4
  chk := fun _ _ p => if between 1 (fld p 0 1) 4 ∧ fld p 1 1 ≤ 1 then stDone else stBadParam
  run := fun s _ _ p =>
    let a := fld p 0 1
    let on : Bool := fld p 1 1 = 1
    let s := s.modAnt a (fun x => { x with biasCmd := some on })
    (if s.dom 8 then s.setBias a on else s, []) }

end Sys2Proof.Machine
end

