-- ==== Sys2Proof/Machine/Survey.lean ====
section
/-!
DEFINITION. The Survey: its entries with their live bits, the field maps and the point directory as bytes, and the command that reads it
(spec/12 R364–R369).
-/
namespace Sys2Proof.Machine

/-- A name in a given number of bytes. -/
def asciiBytes (len : Nat) (n : String) : List Byte := slice 0 len (n.toList.map (fun c => byte c.toNat))

/-- A record of a field map. R367. -/
def fieldBytes (r : FieldRow) : List Byte :=
  let (off, lsb, width, acc, pacc, rst, name) := r
  leBytes 4 off ++ [byte lsb, byte width, byte acc, byte pacc] ++ leBytes 4 rst ++ zeros 4 ++ asciiBytes 16 name

/-- A field map, ended by a record with WIDTH 0. R367. -/
def mapBytes (m : List FieldRow) : List Byte := m.flatMap fieldBytes ++ zeros 32

/-- A record of the point directory. R369. -/
def groupBytes (g : GroupRow) : List Byte :=
  let (first, count, stride, typ, blk, name) := g
  leBytes 4 first ++ leBytes 2 count ++ leBytes 2 stride ++ [byte typ, 0] ++ leBytes 2 blk ++ asciiBytes 16 name ++ zeros 4

/-- What an entry of the Survey says of a block. R365, R366. -/
structure SurveyEntry where
  typ : Nat
  inst : Nat := 1
  base : Nat
  irqN : Nat := 0
  irq0 : Nat := 0xFFFF
  size : Nat
  stride : Nat := 0
  fmap : Nat := 0
  cap : Nat := 0
  pacc : Nat := 1

/-- An entry as bytes. R365. -/
def SurveyEntry.bytes (e : SurveyEntry) : List Byte :=
  leBytes 2 e.typ ++ [byte e.inst, 1] ++ leBytes 5 e.base ++ [byte e.irqN] ++ leBytes 2 e.irq0 ++ leBytes 4 e.size ++ leBytes 4 e.stride ++
    leBytes 4 e.fmap ++ leBytes 4 e.cap ++ [byte e.pacc] ++ zeros 3

/-- The field maps in the order of their blocks: TMU, DMA, HEN, PNT control, LOG, THR channel, THR common, FIO status. -/
def surveyMaps : List (List FieldRow) :=
  [tmuFields, dmaFields, henFields, pntFields, logFields, thrFields, thrCommonFields, fioFields]

/-- Entries of the Survey: header, ten blocks, the point directory, terminator. R365, R366. -/
def surveyCount : Nat := 13

/-- Where field map k begins in the Survey. R365. -/
def mapOfs (k : Nat) : Nat := 32 * surveyCount + sumN ((surveyMaps.take k).map (fun m => 32 * (m.length + 1)))

/-- Where the point directory begins. R366. -/
def dirOfs : Nat := mapOfs surveyMaps.length

/-- Bytes of the whole Survey. R365. -/
def surveySize : Nat := dirOfs + 32 * pointGroups.length

/-- A block's PRESENT and DEGRADED bits. R368. -/
def liveBits (present degraded : Bool) : Nat := 2 ^ 31 * b2n present + 2 ^ 30 * b2n degraded

/-- A configured channel that is not in service. R261, R368. -/
def State.thrOut (s : State) : Bool := thrAll.any (fun c => s.tconf c && !between 1 (s.tch c).state 2)

/-- A configured group without supply. R368, R462. -/
def State.fioOut (s : State) : Bool := [1, 2, 3, 4, 5, 6, 7, 8].any (fun g => between 2 (s.fstate g) 3)

/-- The capability bits of the blocks, in the order of R366. Which part of a block being out of service sets DEGRADED is read from
what the blocks' chapters call out of service (log 81). R368. -/
def State.surveyCaps (s : State) : List Nat :=
  let vc (n : Nat) : Bool := s.dom 9 && (s.vc n).present
  let cl (i : Nat) : Bool := s.dom (6 + i) && (s.cl i).inService
  [ liveBits (s.dom 9) (s.dom 9 && !(vc 0 && vc 1)) + b2n (vc 0) + 2 * b2n (vc 1) + 4 * b2n (s.parB .TMU_TPO34_PART),
    liveBits (s.dom 1) false + 255,
    liveBits (cl 0 || cl 1) ((cl 0 || cl 1) && !(cl 0 && cl 1)) + b2n (cl 0) + 2 * b2n (cl 1) + 12,
    liveBits (s.dom 1) false,
    liveBits (s.dom 1) (s.log.state = 2),
    liveBits (s.dom 10) (s.dom 10 && s.thrOut) + Config.thrCap (thrAll.map s.ttype) % 8,
    liveBits (s.dom 10) false,
    liveBits (s.dom 11) (s.dom 11 && s.fioOut) +
      maskOf 8 (fun i => (groupChans (i + 1)).any (fun c => s.fmode c ≠ 0)),
    liveBits (s.dom 1) false,
    liveBits (s.dom 1) false ]

/-- The generation counts a change of the live bits since it was last looked at (log 81). R364. -/
def State.surveySync (s : State) : State :=
  let l := s.surveyCaps
  if s.pnt.svyLive = l then s
  else { s with pnt := { s.pnt with svyLive := l, svyGen := if s.pnt.svyLive = [] then s.pnt.svyGen else s.pnt.svyGen + 1 } }

/-- The blocks' entries. R366. -/
def State.surveyBlocks (s : State) : List SurveyEntry :=
  let c := s.surveyCaps
  let cap (k : Nat) : Nat := c.getD k 0
  [ { typ := 2, base := 0x40010000, size := 0x1000, irqN := 4, irq0 := 16, fmap := mapOfs 0, cap := cap 0, pacc := 3 },
    { typ := 3, base := 0x40020000, size := 0x1000, irqN := 8, irq0 := 24, fmap := mapOfs 1, cap := cap 1, pacc := 3 },
    { typ := 4, base := 0x40030000, size := 0x1000, irqN := 2, irq0 := 40, fmap := mapOfs 2, cap := cap 2, pacc := 3 },
    { typ := 5, base := 0x40040000, size := 0x1000, irqN := 1, irq0 := 48, fmap := mapOfs 3, cap := cap 3, pacc := 3 },
    { typ := 6, base := 0x40050000, size := 0x1000, fmap := mapOfs 4, cap := cap 4, pacc := 3 },
    { typ := 7, inst := 24, base := 0x40060000, size := 0x400, stride := 0x400, fmap := mapOfs 5, cap := cap 5 },
    { typ := 8, base := 0x40066000, size := 0x10, fmap := mapOfs 6, cap := cap 6 },
    { typ := 9, base := 0x40070000, size := 0x1000, fmap := mapOfs 7, cap := cap 7 },
    { typ := 0xA, base := 0x50000000, size := 0x400000, cap := cap 8 },
    { typ := 0xB, base := 0x240000000, size := 0x40000000, cap := cap 9, pacc := 3 },
    { typ := 0x20, base := 0x40000000 + dirOfs, size := 32 * pointGroups.length, stride := 32, cap := liveBits (s.dom 1) false } ]

/-- The bytes of the Survey. R364, R365. -/
def State.survey (s : State) : List Byte :=
  ({ typ := 1, inst := surveyCount, base := 0x40000000, size := surveySize, stride := s.pnt.svyGen.toNat, cap := 1 } : SurveyEntry).bytes ++
    s.surveyBlocks.flatMap SurveyEntry.bytes ++ zeros 32 ++ surveyMaps.flatMap mapBytes ++ pointGroups.flatMap groupBytes

/-- GET_SURVEY: bytes 0–3 an offset, 0 without parameters; the reply is the Survey from there, at most 1,400 bytes (log 82). R364. -/
def opGetSurvey : OpDef := {
  code := 0x0101, pair := false, readOnly := true
  chk := fun _ _ p => if surveySize < fld p 0 4 then stBadParam else 0
  run := fun s _ _ p =>
    let s := s.surveySync
    (s, (s.survey.drop (fld p 0 4)).take 1400) }

end Sys2Proof.Machine
end

