-- ==== Sys2Proof/Machine/Time.lean ====
section
/-!
DEFINITION. The time unit: the events of its sources, captures, pulse outputs and registers, and the time commands
(spec/10).
-/
namespace Sys2Proof.Machine

/-- The answer of a time event on clock n while D9 runs. -/
def tmuOn (n lim : Nat) (s : State) (f : State → State) : Res := guardUnit (decide (n < lim)) n (if s.dom 9 then f s else s)

/-- The answer of a message of the network on clock n: nothing arrives while the links are down. R615. -/
def netOn (n lim : Nat) (s : State) (f : State → State) : Res := tmuOn n lim s (fun s => if s.netUp then f s else s)

/-- A Sync with its Follow_Up: its sender and logMessageInterval, the origin in ns of TAI and the correction. R307, R308. -/
def execPtpSyncReceived (t n port dom sender : Nat) (log : Int) (s : State) (origin : Nat := 0) (corr : Rat := 0) : Res :=
  netOn n 2 (s.arrive t) (fun s => s.ptpSync n port dom sender log origin corr)

/-- A delay measurement, ns: the mean of the last 8 is used. R308. -/
def execPtpDelayResponse (t n : Nat) (delay : Rat) (s : State) : Res :=
  netOn n 2 (s.arrive t) (fun s => s.modVc n (fun v => { v with delays := (delay :: v.delays).take 8 }))

/-- An Announce feeds the BMCA of the clocks of its domain. R317, R318. -/
def execPtpAnnounceReceived (t port : Nat) (m : PtpAnnounce) (s : State) : Res :=
  netOn port 2 (s.arrive t) (fun s => (s.announce 0 port m).announce 1 port m)

/-- The announce receipt timeout of a port: its data sets leave, and the BMCA chooses again. R307, R318. -/
def execPtpAnnounceTimeout (t n port : Nat) (s : State) : Res :=
  tmuOn n 2 (s.arrive t) (fun s =>
    let v := s.vc n
    let gone : Bool := decide (v.portToMaster = port) && s.past v.lastAnnounce s.annTimeout
    let s := s.modVc n (fun v => { v with best := v.best.filter (fun e => e.1 ≠ port || !s.past e.2.1 s.annTimeout) })
    let s := if gone ∧ (v.src = .ptp ∨ v.fallback) then s.cfgSrcLost n else s
    if v.best = (s.vc n).best ∧ ¬ gone then s else s.bmca n)

/-- Four Sync intervals without a Sync. R307, R311. -/
def execPtpSyncTimeout (t n : Nat) (s : State) : Res :=
  tmuOn n 2 (s.arrive t) (fun s =>
    let v := s.vc n
    if s.vcCfgSrc n = .ptp ∧ s.past v.lastSync (natOf (4 * pow2 v.syncLog * 1000000000)) ∧ (v.src = .ptp ∨ v.fallback) then
      s.cfgSrcLost n
    else s)

/-- A PPS_IN rising edge: a phase sample where edges arrive 1 s ± 100 µs apart and the clock has a time. R307. -/
def execPpsInEdge (t : Nat) (s : State) : Res :=
  tmuOn 0 1 (s.arrive t) (fun s =>
    (List.range 2).foldl (fun s n =>
      let v := s.vc n
      if s.vcCfgSrc n ≠ .pps then s
      else
        let good : Bool := match v.ppsLast with
          | none => false
          | some a => between 999900000 (s.raw - a) 1000100000
        let s := s.modVc n (fun v => { v with
          ppsLast := some s.raw, srcPresentAt := if good then some (v.srcPresentAt.getD s.now) else none })
        if ¬ good then s.cfgSrcLost n
        else if v.qual ≠ 0 ∧ ¬ v.fallback then s.vcSample n (secOffset (s.vcNow n))
        else s) s)

/-- PPS_IN edges stop. R307. -/
def execPpsInLost (t : Nat) (s : State) : Res :=
  tmuOn 0 1 (s.arrive t) (fun s =>
    (List.range 2).foldl (fun s n =>
      match (s.vc n).ppsLast with
      | none => s
      | some a => if s.vcCfgSrc n = .pps ∧ a + 1000100000 < s.raw then (s.modVc n (fun v => { v with ppsLast := none })).cfgSrcLost n else s) s)

/-- Every offset within TMU_LOCK_LIMIT for TMU_LOCK_TIME. R308. -/
def execVcLock (t n : Nat) (s : State) : Res := tmuOn n 2 (s.arrive t) (fun s => s.vcLock n)

/-- A whole second of a clock with a step due. R309, R310. -/
def execVcStep (t n : Nat) (s : State) : Res := tmuOn n 2 (s.arrive t) (fun s => s.vcStep n)

/-- VC0 has been present for TMU_REVERT_TIME: the frame returns to it at its next start. R313. -/
def execFrameRevertTimer (t : Nat) (s : State) : Res :=
  tmuOn 0 1 (s.arrive t) (fun s =>
    if s.wantVc = some 0 then { s with tmu := { s.tmu with switchTo := some 0 } } else s)

/-- The configured source has been present for 10 s. R314. -/
def execFallbackReturnTimer (t n : Nat) (s : State) : Res := tmuOn n 2 (s.arrive t) (fun s => s.fallbackReturn n)

/-- A write of TMU_CTRL. R313, R314, R310. -/
def State.tmuCtrl (s : State) (v : Word) : State :=
  let n := v.toNat
  let s := { s with tmu := { s.tmu with
    force := if n % 4 = 3 then s.tmu.force else n % 4, revert := n.testBit 2, fallbackSat := n.testBit 3 } }
  let s := if n.testBit 4 then s.stepAllow 0 else s
  if n.testBit 5 then s.stepAllow 1 else s

/-- TMU_CTRL written. -/
def execTmuCtrlWrite (t : Nat) (v : Word) (s : State) : Res := tmuOn 0 1 (s.arrive t) (fun s => s.tmuCtrl v)

/-- TMU_INCR written. R305. -/
def execTmuIncrWrite (t : Nat) (v : Word) (s : State) : Res := tmuOn 0 1 (s.arrive t) (fun s => s.setIncr v)

/-- A LO register read. R319. -/
def execTimeLoRead (t : Nat) (who : Who) (which : Nat) (s : State) : Res :=
  tmuOn which 4 (s.arrive t) (fun s =>
    let r := s.readLo who which
    r.2.emit (.readData r.1))

/-- Whether an index names a capture source. R321. -/
def isCapSource (i : Nat) : Bool :=
  between 0x0001 i 0x0060 || between 0x0101 i 0x0110 || between 0x0201 i 0x0204 || between 0x0301 i 0x030C ||
    between 0x0401 i 0x0408 || between 0x0501 i 0x0520 || between 0x0601 i 0x0605 || between 0x0701 i 0x0702

/-- A capture source is timestamped. R320, R321. -/
def execCaptureEvent (t source : Nat) (rising : Bool) (s : State) : Res :=
  let s := s.arrive t
  guardUnit (isCapSource source) source (if s.dom 9 then s.capture source rising else s)

/-- Entries unread for more than 2 s are marked. R320. -/
def execCaptureEntryAged (t f : Nat) (s : State) : Res :=
  tmuOn f 8 (s.arrive t) (fun s =>
    s.modCap f (fun c => { c with q := c.q.map (fun (e : CapEntry) => { e with aged := s.capAged e }) }))

/-- DATA0 of a FIFO read. R328. -/
def execCapFifoData0Read (t f : Nat) (s : State) : Res :=
  tmuOn f 8 (s.arrive t) (fun s =>
    let r := s.readData0 f
    r.2.emit (.readData r.1))

/-- DATA1 of a FIFO read. R328. -/
def execCapFifoData1Read (t f : Nat) (s : State) : Res :=
  tmuOn f 8 (s.arrive t) (fun s =>
    let r := s.readData1 f
    r.2.emit (.readData r.1))

/-- CTRL of an output written with ARM. R325. -/
def execPulseArm (t k : Nat) (v : Word) (s : State) : Res := tmuOn k 6 (s.arrive t) (fun s => s.pulseCtrl k (v ||| 1))

/-- CTRL of an output written with DISARM. R327. -/
def execPulseDisarm (t k : Nat) (s : State) : Res := tmuOn k 6 (s.arrive t) (fun s => s.pulseDisarm k)

/-- The instant of an output's pulse. R325, R326. -/
def execPulseOutputFire (t k : Nat) (s : State) : Res := tmuOn k 6 (s.arrive t) (fun s => s.pulseFire k)

/-- The end of a pulse's width; an arm made during it takes effect. R327. -/
def execPulseWidthEnd (t k : Nat) (s : State) : Res :=
  tmuOn k 6 (s.arrive t) (fun s =>
    if (s.pulse k).high ∧ (s.pulse k).endAt ≤ s.now then s.modPulse k (fun x => { x with high := false, armAfter := false }) else s)

/-- Whether a port sends a kind of message: Sync and Announce as MASTER, Delay_Req as SLAVE under E2E, Pdelay_Req under P2P.
SVC is a master-only port. R316. -/
def State.ptpSends (s : State) (n port kind : Nat) : Bool :=
  let st : Nat := (s.vc n).portState.getD port 0
  let p2p : Bool := s.parN .TMU_PTP_DELAY = 1
  let master : Bool := if port = 2 then s.parB .TMU_PTP_SVC_MASTER && (s.vc n).portState.any (· = 6) else st = 6
  match kind with
  | 0 => master
  | 1 => master
  | 2 => port < 2 && st = 9 && !p2p
  | _ => p2p && (port < 2 || s.parB .TMU_PTP_SVC_MASTER)

/-- The interval of a kind of message, ns. R316, R332. -/
def State.ptpInterval (s : State) (kind : Nat) : Nat :=
  let p : Param := match kind with
    | 0 => .TMU_PTP_SYNC_LOG
    | 1 => .TMU_PTP_ANN_LOG
    | _ => .TMU_PTP_DELAY_LOG
  natOf (pow2 (s.par p).floor * 1000000000)

/-- An interval of PTP: 0 Sync, 1 Announce, 2 Delay_Req, 3 Pdelay_Req on port 0 LAN-A, 1 LAN-B, 2 SVC. R316, R317. -/
def execPtpTransmitInterval (t n port kind : Nat) (s : State) : Res :=
  netOn n 2 (s.arrive t) (fun s =>
    let key : Nat := 12 * n + 4 * port + kind
    let due : Bool := match assoc s.tmu.ptpSent key with
      | none => true
      | some a => s.past a (s.ptpInterval kind)
    if s.vcCfgSrc n = .ptp ∧ port < 3 ∧ kind < 4 ∧ due ∧ s.ptpSends n port kind then
      State.emit { s with tmu := { s.tmu with ptpSeq := (s.tmu.ptpSeq + 1) % 65536, ptpSent := assocSet s.tmu.ptpSent key s.now } }
        (.ptp n port kind s.tmu.ptpSeq (if kind = 1 then some (s.annOut n port) else none))
    else s)

/-! ### Commands (R331) -/

/-- TIME_QUERY; byte 1 holds bits 1 and 2 of SEL_STAT as its bits 0 and 1 (log 113). -/
def opTimeQuery : OpDef := {
  code := 0x0700, pair := false, readOnly := true
  run := fun s _ _ _ =>
    let clk (n : Nat) : List Byte :=
      let v := s.vc n
      [byte v.srcCode, byte v.qual, byte (s.vcFlags n), 0] ++ leBytes 4 (s.vcBoundN n) ++ bI (pvI v.lastOff).val.toInt ++
        bF (((v.rate : Int) : Rat) / ((2 ^ 40 : Nat) : Rat))
    (s, [byte s.tmu.selVc, byte (b2n (decide (s.selDAt s.raw ≠ 0)) + 2 * b2n (decide (s.tmu.force ≠ 0))), 0, 0] ++
      bI s.selDiff ++ leBytes 8 s.sel ++ clk 0 ++ clk 1) }

/-- TIME_SELECT. R313, R315. -/
def opTimeSelect : OpDef := {
  code := 0x0701, pair := false, role := 2, len := 4
  chk := fun s _ p =>
    let k := fld p 0 1
    if 2 < k then stBadParam else if k ≠ 0 ∧ (s.vc (k - 1)).qual = 0 then stNotInMode else stDone
  run := fun s _ _ p => ({ s with tmu := { s.tmu with force := fld p 0 1 } }, []) }

/-- Whether the parameters of TIME_PULSE lie in range. -/
def State.pulseOk (s : State) (p : List Byte) : Bool :=
  let k := fld p 0 1
  let f := fld p 1 1
  !armBad k (fld p 2 1) (fld p 12 4) (fld p 16 4) && f < 4 && fld p 3 1 ≤ 1 && !(f.testBit 0 && s.armPast k (fld p 2 1) (fld p 4 8))

/-- TIME_PULSE. R325, R327. -/
def opTimePulse : OpDef := {
  code := 0x0702, pair := false, role := 2, len := 20
  chk := fun s _ p =>
    let k := fld p 0 1
    if (k = 3 ∨ k = 4) ∧ s.parB .TMU_TPO34_PART then stPermission
    else if s.pulseOk p ∨ (k ≤ 5 ∧ fld p 1 1 = 2) then stDone else stBadParam
  bad := fun s p =>
    let k := fld p 0 1
    if k ≤ 5 ∧ (fld p 1 1).testBit 0 ∧ ¬ armBad k (fld p 2 1) (fld p 12 4) (fld p 16 4) ∧ s.armPast k (fld p 2 1) (fld p 4 8) then
      s.modPulse k (fun x => { x with past := true })
    else s
  run := fun s _ _ p =>
    let k := fld p 0 1
    if (fld p 1 1).testBit 1 then (s.pulseDisarm k, [])
    else
      let s := s.modPulse k (fun x => { x with
        clk := fld p 2 1, pol := decide (fld p 3 1 = 1), start := fld p 4 8, period := fld p 12 4, width := fld p 16 4 })
      (if (fld p 1 1).testBit 0 then s.pulseArm k else s, []) }

/-- TIME_STEP_ALLOW. R310. -/
def opTimeStepAllow : OpDef := {
  code := 0x0703, pair := true, role := 2, len := 4
  chk := fun s _ p =>
    let m := fld p 0 1
    if 3 < m then stBadParam
    else if (m.testBit 0 && (s.vc 0).stepPending) || (m.testBit 1 && (s.vc 1).stepPending) then stDone else stNotInMode
  run := fun s _ _ p =>
    let m := fld p 0 1
    let s := if m.testBit 0 then s.stepAllow 0 else s
    (if m.testBit 1 then s.stepAllow 1 else s, []) }

end Sys2Proof.Machine
end

