-- ==== Sys2Proof/Machine/OpTable.lean ====
section
/-!
DEFINITION. The session and journal commands, and the table of all opcodes (spec/11 R344, R358, R360).
-/
namespace Sys2Proof.Machine

/-- Sessions that are OPEN. R344. -/
def State.openCount (s : State) : Nat := (s.cmd.sessions.filter (fun x => !x.dormant && !x.closing)).length

/-- Sessions that are DORMANT. R344. -/
def State.dormantCount (s : State) : Nat := (s.cmd.sessions.filter (fun x => x.dormant && !x.closing)).length

/-- ACCEPTED commands of a session that are not COMPLETE. R352. -/
def State.outstanding (s : State) (n : Nat) : Nat := (s.cmd.accepted.filter (fun a => a.1 = n)).length

/-- SESSION_QUERY. -/
def opSessionQuery : OpDef := {
  code := 0x0104, pair := false, readOnly := true
  run := fun s n _ _ =>
    match s.sess? n with
    | none => (s, [])
    | some x =>
      (s, leBytes 4 x.e ++ leBytes 4 x.held.length ++ leBytes 4 (s.outstanding n) ++ [byte x.role.code, byte (b2n (!x.pair)), 0, 0] ++
        leBytes 4 s.openCount ++ leBytes 4 s.dormantCount) }

/-- CLOSE_SESSION: its slot is freed once every accepted command of it has completed; packets held are gone. -/
def opCloseSession : OpDef := {
  code := 0x0106, pair := false
  run := fun s n _ _ => (s.modSess n (fun x => { x with closing := true, held := [] }), []) }

/-- KEEPALIVE. -/
def opKeepalive : OpDef := { code := 0x0107, pair := false, readOnly := true, run := fun s _ _ _ => (s, []) }

/-- JOURNAL_QUERY. -/
def opJournalQuery : OpDef := {
  code := 0x0108, pair := false, readOnly := true
  run := fun s _ _ _ =>
    let oldest : Nat := match s.cmd.journal with
      | e :: _ => e.num
      | [] => 0
    (s, leBytes 4 s.freeBlocks ++ leBytes 4 s.cmd.jnum ++ leBytes 4 oldest ++ [byte (b2n s.cmd.peerPresent), 0, 0, 0] ++
      leBytes 4 s.cmd.journalFull.toNat) }

/-- Opcodes 0x0100 to 0x02FF. R358. -/
def opsSys : List OpDef :=
  [opSysQuery, opGetSurvey, opSetMode, opSessionQuery, opCloseSession, opKeepalive, opJournalQuery, opCfgQuery, opCfgStage,
   opCfgValidate, opCfgCommit, opCfgFactory, opCfgFromPeer]

/-- Opcodes 0x0300 to 0x06FF. R358. -/
def opsHold : List OpDef :=
  [opHoldSelectFunction, opHoldSetSetpoint, opHoldSetEnd, opHoldBprSet, opHoldStatus, opRefSelect, opRefQuery, opRefRetry,
   opEstReinit, opAlcSelect, opAlcSetBerm, opAlcQuery, opAlcLearnReset, opThrQuery, opThrClear, opThrEnable, opCqaQuery,
   opCqaCaseQuery, opCqaCaseEnable, opCqaWhatif]

/-- Opcodes 0x0700 to 0x08FF. R358. -/
def opsIo : List OpDef :=
  [opTimeQuery, opTimeSelect, opTimePulse, opTimeStepAllow, opCanQuery, opBusRecover, opCanRateDetect, opCanNodeList, opSerQuery,
   opPointRead, opPointWrite, opPointForce, opPointUnforce, opPointSubscribe, opPointUnsubscribe, opProducerList, opFioQuery,
   opFioSet, opFioPulse, opFioClear, opFioGroupRestore]

/-- Opcodes 0x0900 to 0x0EFF. R358. -/
def opsLog : List OpDef :=
  [opLogFreeze, opLogThaw, opLogRead, opLogSnapRead, opLogCodes, opLogExport, opLogSpillEnd, opSafeQuery, opSafeReset,
   opSafeBrakeTest, opSafeCfgRead, opSafeCfgConfirm, opSafeStop, opRedQuery, opRoleRotate, opWardenPromote, opWardenRelease,
   opImgStage, opImgVerify, opImgActivate, opDomainDrain, opDomainRestore, opSysRestart, opKeyWrite, opHenSubmit, opHenStatus,
   opHenCancel, opSatQuery, opSatRestart, opSatIntegrityReset, opSatTimeAccept, opSatExclude, opSatAntBias]

/-- Every opcode of R358 but OPEN_SESSION, which opens the session the others need. -/
def opTable : List OpDef := opsSys ++ opsHold ++ opsIo ++ opsLog

/-- The definition of an opcode. -/
def opOf (c : Nat) : Option OpDef := opTable.find? (fun o => o.code = c)

end Sys2Proof.Machine
end

