-- ==== Sys2Proof/Machine/PktOps.lean ====
section
/-!
DEFINITION. Command packets, sessions and the journal: the checks of a packet, replies kept and repeated, packets held for a gap, opening
and closing sessions, mirrored entries, and the journal at a start and at a takeover (spec/11 R333–R356).
-/
namespace Sys2Proof.Machine

/-! ### What a packet says (R335) -/

/-- The fields of a request's header, and its parameters. R335. -/
structure Pkt where
  flags : Nat
  client : Nat
  sess : Nat
  seq : Nat
  op : Nat
  params : List Byte
  raw : List Byte

/-- Whether the trailer is a tag. R336. -/
def Pkt.auth (k : Pkt) : Bool := k.flags.testBit 1

/-- A datagram read as a packet; none where R334 discards it. -/
def Pkt.read (b : List Byte) : Option Pkt :=
  let plen := fld b 20 4
  if b.length < 36 ∨ fld b 0 2 ≠ 0x5843 ∨ fld b 2 1 ≠ 1 ∨ (fld b 3 1).testBit 0 ∨ 1400 < plen ∨
      b.length ≠ 32 + plen + (if (fld b 3 1).testBit 1 then 16 else 4) then none
  else some {
    flags := fld b 3 1, client := fld b 4 4, sess := fld b 8 4, seq := fld b 12 4, op := fld b 16 2
    params := slice 32 plen b, raw := b }

/-- The bytes a trailer protects. R337. -/
def Pkt.body (k : Pkt) : List Byte := k.raw.take (32 + k.params.length)

/-- Whether the trailer is the one that a key, or none, gives. R337. -/
def Pkt.trailerOk (k : Pkt) (key : Option (List Byte)) : Bool := k.raw.drop (32 + k.params.length) == trailer key k.body

/-- Where a packet came from. R333. -/
structure Source where
  iface : Iface
  addr : Nat
  port : Nat

/-! ### Replies outside a session's sequence (R338, R339) -/

/-- A reply that copies a request's header, under a key or a CRC. -/
def State.answer (s : State) (f : Source) (key : Option (List Byte)) (single : Bool) (client sess seq op status flags : Nat)
    (p : List Byte) : State :=
  let fl := flags ||| fgReply ||| (if key.isSome then fgAuth else 0) ||| (if single then fgSingle else 0)
  let pk := packet fl client sess seq op status s.red.epochHeld p
  s.emit (.packet f.iface f.addr f.port (pk ++ trailer key pk))

/-- The session whose key and kind a reply to a packet has, where it is known. -/
def State.replyKey (s : State) (n : Nat) : Option (List Byte) × Bool :=
  match s.sess? n with
  | some x => (x.trailKey, s.single x)
  | none => (none, !s.pairUnit)

/-- A refusal that consumes nothing and keeps nothing. -/
def State.reject (s : State) (f : Source) (k : Pkt) (status : Nat) (p : List Byte) : State :=
  let r := s.replyKey k.sess
  s.answer f r.1 r.2 k.client k.sess k.seq k.op status 0 p

/-- BAD_CRC or BAD_AUTH: counted, and answered at most ten times a second to one source. R339, R362. -/
def State.badTrailer (s : State) (f : Source) (k : Pkt) (status : Nat) : State :=
  let c := s.cmd
  let s : State :=
    if status = stBadCrc then { s with cmd := { c with badCrc := c.badCrc + 1 } }
    else { s with cmd := { c with
      badAuth := c.badAuth + 1, badAuthAt := s.now :: c.badAuthAt.filter (fun a => s.now < a + 60000000000) } }
  let recent := (s.cmd.badAuthAt.filter (fun a => s.now < a + 10000000000)).length
  let s := if 20 < recent then s.raiseAlarm .CMD_AUTH_FAIL else s
  let last := s.cmd.errReplies.filter (fun e => s.now < e.2 + 1000000000)
  if 10 ≤ (last.filter (fun e => e.1 = f.addr)).length then
    { s with cmd := { s.cmd with errReplies := last, errSuppressed := s.cmd.errSuppressed + 1 } }
  else State.reject { s with cmd := { s.cmd with errReplies := (f.addr, s.now) :: last } } f k status []

/-- The parameters of NOT_ACTIVE: who holds pair authority. R339. -/
def State.holderParams (s : State) : List Byte :=
  let h := s.cmd.pairHolder
  leBytes 4 (match h with
    | some u => Config.unitIp u
    | none => 0) ++ [byte (h.getD 0xFF), 0, 0, 0] ++ leBytes 4 s.red.epochHeld.toNat

/-- Whether the unit executes pair opcodes. R340, R341. -/
def State.pairOk (s : State) : Bool := s.red.unit = 3 || s.cmd.pairAuth

/-! ### Duplicates (R346, R353) -/

/-- The reply to a duplicate: the kept reply's header and parameters. R338, R352, R353. -/
def State.replayed (s : State) (x : Session) (f : Source) (seq : Nat) (r : KeptReply) : State :=
  let fl := (if r.complete then (r.flags &&& fgCompletion) else fgPending) ||| (if r.params.isNone then fgParamsGone else 0)
  let head := packet r.flags x.client x.num seq r.opcode r.status r.epoch (r.params.getD [])
  State.answer { s with cmd := { s.cmd with replayed := s.cmd.replayed + 1 } } f x.trailKey (s.single x) x.client x.num seq r.opcode stReplayed fl head

/-! ### Held packets (R346) -/

/-- SEQ_GAP with the next expected number. -/
def State.seqGap (s : State) (x : Session) (f : Source) (seq op : Nat) : State :=
  State.answer { s with cmd := { s.cmd with seqGaps := s.cmd.seqGaps + 1 } } f x.trailKey (s.single x) x.client x.num seq op stSeqGap 0
    (leBytes 4 x.e)

/-- Every held packet of a session is discarded and answered SEQ_GAP. -/
def State.dropHeld (s : State) (n : Nat) : State :=
  match s.sess? n with
  | none => s
  | some x =>
    x.held.foldl (fun s h => s.seqGap x { iface := h.iface, addr := h.addr, port := h.port } h.seq h.opcode)
      (s.modSess n (fun y => { y with held := [] }))

/-- A packet after E is held; one that repeats a held one replaces it; a 65th discards all. -/
def State.hold1 (s : State) (x : Session) (h : HeldPkt) : State :=
  let rest := x.held.filter (fun y => y.seq ≠ h.seq)
  let s := s.modSess x.num (fun y => { y with held := rest ++ [h] })
  if 64 ≤ rest.length then s.dropHeld x.num else s

/-! ### The packet that is next (R345 checks 6 to 9) -/

/-- The newest packet of a session came from here. -/
def State.noteSource (s : State) (n : Nat) (f : Source) : State :=
  s.modSess n (fun y => { y with iface := f.iface, addr := f.addr, port := f.port })

/-- The next packet of a session: an unknown opcode is refused, another runs. -/
def State.nextPkt (s : State) (x : Session) (seq op : Nat) (p : List Byte) : State :=
  match opOf op with
  | none => s.refuse x op false seq stUnknownOpcode
  | some o => s.accept o x seq p

/-- The held packets that have become next run in order. R346. -/
def State.runHeld : Nat → State → Nat → State
  | 0, s, _ => s
  | k + 1, s, n =>
    match s.sess? n with
    | none => s
    | some x =>
      if x.closing ∨ s.waiting n ∨ ¬ s.dom 3 then s
      else
        match x.held.find? (fun h => h.seq = x.e) with
        | none => s
        | some h =>
          let s := (s.modSess n (fun y => { y with held := y.held.filter (fun z => z.seq ≠ h.seq) })).noteSource n { iface := h.iface, addr := h.addr, port := h.port }
          let s := match s.sess? n with
            | some y => s.nextPkt y h.seq h.opcode h.params
            | none => s
          s.runHeld k n

/-- A packet of an open session, after checks 1 to 4: executed, answered as a duplicate, refused or held. R346. -/
def State.sequenced (s : State) (x : Session) (f : Source) (seq op : Nat) (p : List Byte) : State :=
  if seq = x.e then
    (if s.waiting x.num ∨ ¬ s.cmd.replayDone then s else ((s.nextPkt x seq op p).runHeld 64 x.num))
  else if seq = 0 then s.seqGap x f seq op
  else if seqIsBefore seq x.e then
    match x.replies.find? (fun r => r.seq = seq), decide (seqBehind seq x.e ≤ 1024) with
    | some r, true => s.replayed x f seq r
    | _, _ => s.seqGap x f seq op
  else s.hold1 x { seq := seq, opcode := op, params := p, at_ := s.now, iface := f.iface, addr := f.addr, port := f.port }

/-! ### Opening and closing (R340, R342–R344) -/

/-- The descriptor of a pair session goes to the peer, as a message of the journal with opcode 0x0105 that takes no block: role, authentication,
interface, address, port, E, state (2 closed) and key (log 85). R340, R342, R347. -/
def State.mirrorSession (s : State) (x : Session) : State :=
  if s.mirrors x then
    let st : Nat := if x.closing then 2 else if x.dormant then 1 else 0
    let d : List Byte := [byte x.role.code, byte (b2n x.auth), byte (b2n (x.iface = .svc))] ++ leBytes 4 x.addr ++ leBytes 2 x.port ++
      leBytes 4 x.e ++ [byte st] ++ x.key
    s.emit (.journal s.peerOnLan { client := x.client, session := x.num, opcode := 0x0105, params := d })
  else s

/-- A session's slot is given up at once, its entries closed. R344. -/
def State.reclaim (s : State) (n : Nat) : State :=
  let s : State := match s.sess? n with
    | some x => s.mirrorSession { x with closing := true }
    | none => s
  State.pruneJournal { s with
    cmd := { s.cmd with
      sessions := s.cmd.sessions.filter (fun y => y.num ≠ n)
      journal := s.cmd.journal.map (fun (e : JEntry) => if e.session = n then { e with closed := true } else e) }
    pnt := { s.pnt with subs := s.pnt.subs.filter (fun b => b.session ≠ n) } }

/-- The oldest DORMANT session without an uncompleted ACCEPTED command. R344. -/
def State.oldestDormant (s : State) : Option Session :=
  let l := s.cmd.sessions.filter (fun x => x.dormant && s.outstanding x.num = 0)
  l.foldl (fun b x => match b with
    | none => some x
    | some y => if x.dormantAt < y.dormantAt then some x else some y) none

/-- A free slot, made where the rule allows one. R344. -/
def State.makeSlot (s : State) : Option State :=
  if s.cmd.sessions.length < 256 then some s else s.oldestDormant.map (fun x => s.reclaim x.num)

/-- The role of a code. R343. -/
def roleOf (c : Nat) : Option Role :=
  match c with
  | 1 => some .operator
  | 2 => some .engineer
  | 3 => some .service
  | _ => none

/-- The key of a role. R342. -/
def State.roleKey (s : State) (r : Role) : Option (List Byte) := assoc s.keep.roleKeys r.code

/-- The key-loading session of module replacement. R342. -/
def State.keyLoading (s : State) (r : Role) (iface : Iface) (auth : Bool) : Bool :=
  r = .service && !auth && iface = .svc && s.sys.mode = .commission && s.keep.roleKeys.isEmpty

/-- Whether a role may open without authentication. R342. -/
def State.openFree (s : State) (r : Role) (iface : Iface) : Bool :=
  (r = .operator && s.parB .CMD_OPERATOR_OPEN) || s.keyLoading r iface false

/-- Whether a port carries a role. R342. -/
def portAdmits (r : Role) (i : Iface) : Bool :=
  match r, i with
  | .operator, .lan => true
  | .operator, .svc => false
  | .engineer, _ => true
  | .service, .svc => true
  | .service, .lan => false

/-- The session key. R342. -/
def sessionKey (role : List Byte) (client sess : Nat) (cn un : List Byte) : List Byte :=
  hmac role (asciiBytes 14 "XS9600-SESSION" ++ leBytes 4 client ++ leBytes 4 sess ++ cn ++ un)

/-- The reply of an OPEN_SESSION: DONE with the parameters of R343, under the session's key, and kept for a retransmission. -/
def State.opened (s : State) (x : Session) (f : Source) (sess : Nat) (un : List Byte) : State :=
  let peer : Nat := match s.peerOf with
    | some u => Config.unitIp u
    | none => 0
  let r := leBytes 4 x.num ++ leBytes 4 x.e ++ un ++ [byte s.red.unit, byte (b2n (!x.pair)), 0, 0] ++ leBytes 4 peer
  let fl := fgReply ||| (if x.auth then fgAuth else 0) ||| (if s.single x then fgSingle else 0)
  let s := s.modSess x.num (fun y => { y with
    openSess := sess, openReply := { seq := 0, opcode := 0x0105, status := stDone, flags := fl, epoch := s.red.epochHeld, params := some r } })
  (s.mirrorSession x).answer f x.trailKey (s.single x) x.client x.num 0 0x0105 stDone 0 r

/-- A resumed session is OPEN again, keyed anew. R343. -/
def State.resume (s : State) (x : Session) (f : Source) (auth : Bool) (nonce : List Byte) : State :=
  let r := s.freeBytes 16
  let un := if auth then r.1 else zeros 16
  let s := if auth then r.2 else s
  let y : Session := { x with
    auth := auth, dormant := false, lastValid := s.now, openNonce := nonce, openAt := s.now, iface := f.iface, addr := f.addr, port := f.port
    key := if auth then sessionKey ((s.roleKey x.role).getD []) x.client x.num nonce un else [] }
  (s.modSess x.num (fun _ => y)).opened y f x.num un

/-- A new session in a slot; any session of the same client closes. R340, R343. -/
def State.newSession (s : State) (r : Role) (f : Source) (client : Nat) (pair auth : Bool) (nonce : List Byte) : State :=
  let old := (s.cmd.sessions.filter (fun x => x.client = client)).map (fun x => x.num)
  let close (s : State) (n : Nat) : State :=
    let s := s.modSess n (fun x => { x with closing := true, held := [] })
    let s := match s.sess? n with
      | some x => s.mirrorSession x
      | none => s
    s.freeSlot n
  let s := old.foldl close s
  match s.makeSlot with
  | none =>
    State.answer { s with cmd := { s.cmd with journalFull := s.cmd.journalFull + 1 } } f none (!s.pairUnit) client 0 0 0x0105 stJournalFull 0 []
  | some s =>
    let g := s.freeBytes 16
    let un := if auth then g.1 else zeros 16
    let s := if auth then g.2 else s
    let n := s.cmd.nextSession
    let x : Session := {
      num := n, client := client, pair := pair, role := r, auth := auth, keyLoad := s.keyLoading r f.iface auth
      key := if auth then sessionKey ((s.roleKey r).getD []) client n nonce un else []
      lastValid := s.now, openNonce := nonce, openAt := s.now, iface := f.iface, addr := f.addr, port := f.port }
    State.opened { s with cmd := { s.cmd with sessions := s.cmd.sessions ++ [x], nextSession := seqNext n } } x f 0 un

/-- An OPEN_SESSION whose trailer has passed. `sess` is 0 in a new one. R340–R344. -/
def State.openSession (s : State) (f : Source) (client sess : Nat) (auth : Bool) (p : List Byte) : State :=
  let flags := fld p 1 1
  let nonce := slice 4 16 p
  let deny (s : State) (status : Nat) (q : List Byte) : State := s.answer f none (!s.pairUnit) client sess 0 0x0105 status 0 q
  match s.cmd.sessions.find? (fun x => x.client = client && x.openNonce = nonce && x.openSess = sess && !x.closing &&
      decide (s.now < x.openAt + 30000000000)) with
  | some x => s.replayed x f 0 x.openReply
  | none =>
    let old : Option Session := if flags.testBit 0 then (s.sess? sess).filter (fun x => !x.closing) else none
    if flags.testBit 0 ∧ old.isNone then deny s stNotInMode [1, 0, 0, 0]
    else if old.any (fun x => x.client ≠ client || x.role.code ≠ fld p 0 1) then deny s stNotInMode [3, 0, 0, 0]
    else
      let pair : Bool := match old with
        | some x => x.pair
        | none => !flags.testBit 1
      if pair ∧ ¬ s.pairOk then deny s stNotActive s.holderParams
      else
        match roleOf (fld p 0 1) with
        | none => deny s stBadParam []
        | some r =>
          if ¬ portAdmits r f.iface then deny s stPermission []
          else if p.length < 20 then deny s stBadParam []
          else
            match old with
            | some x => s.resume x f auth nonce
            | none => s.newSession r f client pair auth nonce

/-! ### A datagram (R345) -/

/-- An OPEN_SESSION datagram: its trailer, under K_role where AUTH is set, then its meaning; a resume has AUTH as its session has. R337, R342,
R345. -/
def State.openPkt (s : State) (f : Source) (k : Pkt) : State :=
  let role := roleOf (fld k.params 0 1)
  let key : Option (List Byte) := role.bind s.roleKey
  if (fld k.params 1 1).testBit 0 ∧ (s.sess? k.sess).any (fun x => !x.closing && x.auth ≠ k.auth) then s.badTrailer f k stBadAuth
  else
  if k.auth then
    (if key.isSome ∧ k.trailerOk key then s.openSession f k.client k.sess true k.params else s.badTrailer f k stBadAuth)
  else if ¬ k.trailerOk none then s.badTrailer f k stBadCrc
  else if role.any (fun r => !s.openFree r f.iface && portAdmits r f.iface) then s.badTrailer f k stBadAuth
  else s.openSession f k.client k.sess false k.params

/-- Checks 2 to 5 of another datagram. R337, R345. -/
def State.sessPkt (s : State) (f : Source) (k : Pkt) : State :=
  match (s.sess? k.sess).filter (fun x => !x.closing) with
  | none => if ¬ k.auth ∧ ¬ k.trailerOk none then s.badTrailer f k stBadCrc else s.reject f k stNotInMode [1, 0, 0, 0]
  | some x =>
    if k.auth ≠ x.auth then s.badTrailer f k stBadAuth
    else if ¬ k.trailerOk x.trailKey then s.badTrailer f k (if x.auth then stBadAuth else stBadCrc)
    else if x.dormant then s.reject f k stNotInMode [2, 0, 0, 0]
    else if x.client ≠ k.client then s.reject f k stNotInMode [3, 0, 0, 0]
    else
      let s := (s.modSess x.num (fun y => { y with lastValid := s.now })).noteSource x.num f
      let x := (s.sess? k.sess).getD x
      if (opOf k.op).any OpDef.pair ∧ ¬ s.pairOk then s.reject f k stNotActive s.holderParams
      else s.sequenced x f k.seq k.op k.params

/-- Datagrams that wait at NET: the unit processes 2,000 a second, which R334 gives as the least (log 114). R334. -/
def State.netWaiting (s : State) : Nat := (s.cmd.netUntil - s.now + 499999) / 500000

/-- A datagram on port 30960. R334, R336, R345. -/
def State.datagram (s : State) (f : Source) (b : List Byte) : State :=
  match Pkt.read b with
  | none => { s with cmd := { s.cmd with discarded := s.cmd.discarded + 1 } }
  | some k =>
    let s : State := if k.flags.testBit 5 then { s with cmd := { s.cmd with retransmits := s.cmd.retransmits + 1 } } else s
    if k.op = 0x0105 then s.openPkt f k else s.sessPkt f k

/-! ### The peer (R349, R351, R352) -/

/-- A command whose entry is acknowledged, or waits no longer: it runs and is answered, or its completion is sent. -/
def State.proceed (s : State) (f : InFlight) : State :=
  match s.entry? f.jnum with
  | none => s
  | some e =>
    if f.exec then
      match opOf e.opcode with
      | none => s
      | some o => s.runOp o e.session e.seq e.num e.accepted e.params
    else s.sendCompletion e.session e.seq e.opcode e.status e.reply

/-- The peer's acknowledgement of an entry. R349. -/
def State.peerAck (s : State) (jnum : Nat) : State :=
  match s.cmd.inflight.find? (fun f => f.jnum = jnum) with
  | none => s.modEntry jnum (fun e => { e with mirrored := true })
  | some f =>
    let c := s.cmd
    let s : State := { s with cmd := { c with
      inflight := c.inflight.filter (fun g => g.jnum ≠ jnum), mirrorMaxNow := max c.mirrorMaxNow (s.now - f.sentAt) } }
    ((s.modEntry jnum (fun e => { e with mirrored := true })).proceed f).runHeld 64 f.session

/-- An acknowledgement that has not come in CMD_MIRROR_TIMEOUT: the peer is absent for that entry and every later one. R351. -/
def State.mirrorLost (s : State) (jnum : Nat) : State :=
  if ¬ s.cmd.inflight.any (fun f => f.jnum = jnum && s.past f.sentAt (s.parMs .CMD_MIRROR_TIMEOUT)) then s
  else
    let l := s.cmd.inflight
    let s := State.raiseAlarm { s with cmd := { s.cmd with inflight := [], peerPresent := false, resync := false } } .JOURNAL_MIRROR_LOST
    let s := l.foldl (fun s f => (s.modEntry f.jnum (fun e => { e with single := true })).proceed f) s
    (l.map (fun f => f.session)).foldl (fun s n => s.runHeld 64 n) s

/-- Whether an entry belongs to a pair session, as far as the unit still knows its session. R340. -/
def State.pairEntry (s : State) (e : JEntry) : Bool :=
  match s.sess? e.session with
  | some x => x.pair
  | none => !e.unitOp

/-- A unit without pair authority discards its entries of pair sessions that the authority's unit does not hold, and their sessions go back to
before them. R351. -/
def State.resyncDiscard (s : State) (held : List Nat) : State :=
  if s.cmd.pairAuth then s else s.dropEntries (fun e => s.pairEntry e && !held.contains e.num)

/-- What a unit sends a returning peer: the descriptors of its pair sessions, and every entry of them not yet marked mirrored, in journal order,
each with its status word. R351. -/
def State.resyncSend (s : State) : State :=
  let s := s.cmd.sessions.foldl State.mirrorSession s
  let l := s.cmd.journal.filter (fun e => s.pairEntry e && !e.mirrored)
  let s := l.foldl (fun s e => s.emit (.journal s.peerOnLan e)) s
  { s with cmd := { s.cmd with journal := s.cmd.journal.map (fun (e : JEntry) => { e with mirrored := e.mirrored || s.pairEntry e }) } }

/-- Resynchronisation completes: the returning unit discards, the other sends, and the peer is present again. R351. -/
def State.resynced (s : State) (held : List Nat) : State :=
  if ¬ s.pairUnit then s
  else
    let s := s.resyncDiscard held
    (State.resyncSend { s with cmd := { s.cmd with peerPresent := true, resync := false } }).clearAlarm .JOURNAL_MIRROR_LOST

/-- Whether a number is later than another, modulo 2^32. R347. -/
def numLater (a b : Nat) : Bool := a ≠ b && decide ((a + 2 ^ 32 - b) % 2 ^ 32 < 2 ^ 31)

/-- The session slot a mirrored entry belongs to, made where the unit has none. R340. -/
def State.mirrorSlot (s : State) (e : JEntry) : State :=
  if (s.sess? e.session).isSome then s
  else
    let x : Session := { num := e.session, client := e.client, lastValid := s.now }
    let nx := if s.cmd.nextSession ≤ e.session then seqNext e.session else s.cmd.nextSession
    { s with cmd := { s.cmd with sessions := s.cmd.sessions ++ [x], nextSession := nx } }

/-- A session of the peer has ended: its slot here is freed as the peer's is. R340, R344. -/
def State.mirrorClose (s : State) (n : Nat) : State := (s.modSess n (fun x => { x with closing := true, held := [] })).freeSlot n

/-- A session descriptor from the peer. R340, R342, R347. -/
def State.takeDescriptor (s : State) (e : JEntry) : State :=
  let st := fld e.params 13 1
  if st = 2 then s.mirrorClose e.session
  else
    (s.mirrorSlot e).modSess e.session (fun x => { x with
      client := e.client, role := (roleOf (fld e.params 0 1)).getD .operator, auth := fld e.params 1 1 = 1, key := e.params.drop 14
      lastValid := s.now, e := fld e.params 9 4, dormant := st = 1, dormantAt := if st = 1 then s.now else x.dormantAt
      iface := if fld e.params 2 1 = 1 then .svc else .lan, addr := fld e.params 3 4, port := fld e.params 7 2 })

/-- A mirrored entry is stored, acknowledged, and its session follows: E, the status word and the reply. R347, R349, R353. -/
def State.takeEntry (s : State) (e : JEntry) : State :=
  let s := s.mirrorSlot e
  let e' : JEntry := { e with mirrored := true }
  let known := (s.entry? e.num).isSome
  let c := s.cmd
  let s : State := if known then s.modEntry e.num (fun _ => e')
    else { s with cmd := { c with
      journal := c.journal ++ [e'], jnum := if numLater e.num c.jnum then e.num else c.jnum
      jtail := (e.block + e.blocks) % ringBlocks
      toApply := if e.unitOp || e.state = .refused then c.toApply else c.toApply ++ [e.num] } }
  let fin : Bool := e.state = .complete || e.state = .refused
  let slot := e.seq % 1024
  let s := s.modSess e.session (fun x => { x with
    e := if seqIsBefore e.seq x.e then x.e else seqNext e.seq
    lastValid := s.now, dormant := false
    words := (slot, e.status, e.block) :: x.words.filter (fun w => w.1 ≠ slot) })
  let s := s.keepReply e.session {
    seq := e.seq, opcode := e.opcode, status := if e.accepted && !fin then stAccepted else e.status
    flags := if e.accepted && fin then fgCompletion else 0, params := some e.reply, complete := fin || !e.accepted }
  let s := (s.emit (.journalAck s.peerOnLan e.num)).pruneJournal
  if e.opcode = 0x0106 ∧ e.state = .complete then s.mirrorClose e.session else s

/-- A journal message of the peer. R349. -/
def State.fromJournal (s : State) (e : JEntry) : State :=
  if ¬ s.pairUnit ∨ ¬ s.dom 3 then s else if e.opcode = 0x0105 then s.takeDescriptor e else s.takeEntry e

/-! ### Applying entries without a packet (R355, R356) -/

/-- An entry's effect is made, and its reply kept: nothing is sent. -/
def State.applyEntry (s : State) (e : JEntry) : State :=
  match opOf e.opcode with
  | none => s.modEntry e.num (fun x => { x with state := .complete })
  | some o =>
    let s : State := { s with cmd := { s.cmd with toApply := s.cmd.toApply.filter (fun n => n ≠ e.num) } }
    let s := s.modSess e.session (fun x => { x with e := if x.e = e.seq then seqNext e.seq else x.e })
    if e.accepted then
      let a := (e.session, e.seq)
      let s : State := { s with cmd := { s.cmd with accepted := s.cmd.accepted.filter (fun b => b ≠ a) ++ [a] } }
      let s := s.modEntry e.num (fun x => { x with state := .applied, frame := s.frame.number })
      (o.run (s.keepReply e.session { seq := e.seq, opcode := e.opcode, status := stAccepted, params := some [], complete := false }) e.session e.seq e.params).1
    else
      let r := o.run s e.session e.seq e.params
      let s := r.1.modEntry e.num (fun x => { x with state := .complete, reply := r.2, frame := s.frame.number })
      s.keepReply e.session { seq := e.seq, opcode := e.opcode, status := e.status, params := some r.2, complete := true }

/-- Whether some block still holds an ACCEPTED command. -/
def State.cmdHeld (s : State) (n q : Nat) : Bool :=
  let job : Bool := s.hen.queues.any (fun x => x.jobs.any (fun j => match j.origin with
    | .command a b _ => a = n && b = q
    | _ => false))
  let two (o : Option (Nat × Nat)) : Bool := o = some (n, q)
  let three (o : Option (Nat × Nat × Nat)) : Bool := o.any (fun x => x.1 = n && x.2.1 = q)
  job || s.hen.replay.any (fun e => e.1 = n && e.2.1 = q) || s.cqa.whatif.any (fun w => w.session = n && w.seq = q) || s.fio.chans.any (fun c => c.pulse.any (fun y => y.session = n && y.seq = q)) ||
    s.safe.brk.any (fun b => b.test.any (fun y => y.session = n && y.seq = q)) || s.sys.jobs.any (fun j => j.session = n && j.seq = q) ||
    three s.sys.verifying || three s.sys.holdReq || two s.sys.cfgFromPeer || two s.log.exporting || two s.log.spillEnd ||
    s.bus.can.any (fun p => three p.recover)

/-- One entry at a start: a JOURNALLED one is applied, an ACCEPTED one that is not complete goes on where a block still holds it, is submitted
again where it is a solver job, and is otherwise returned ABORTED. R229, R355, R565. -/
def State.replayEntry (s : State) (e : JEntry) : State :=
  match e.state with
  | .journalled => s.applyEntry e
  | .applied =>
    if e.accepted ∧ ¬ s.cmdHeld e.session e.seq then
      (if e.opcode = 0x0D00 then s.applyEntry e
       else State.completeCmd { s with cmd := { s.cmd with accepted := s.cmd.accepted.filter (fun b => b ≠ (e.session, e.seq)) ++ [(e.session, e.seq)] } }
         e.session e.seq stAborted [])
    else s
  | _ => s

/-- The journal at a start, in journal order; entries of pair sessions wait on a unit without pair authority, whose peer applies them. What
the failed unit had sent already may be sent again. R355, R356, R357. -/
def State.replayJournal (s : State) : State :=
  let mine (e : JEntry) : Bool := e.unitOp || !s.pairUnit || !e.mirrored || s.cmd.pairAuth
  let l := s.cmd.journal.filter mine
  l.foldl State.replayEntry { s with cmd := { s.cmd with replayDone := true } }

/-- An entry at a takeover: a unit opcode that is unfinished ends ABORTED with a record, any other not marked APPLIED is applied, and an ACCEPTED
one that is not COMPLETE and not held here is begun again. R356. -/
def State.takeoverEntry (s : State) (e : JEntry) : State :=
  let fin : Bool := e.state = .complete || e.state = .refused
  let due : Bool := s.cmd.toApply.contains e.num
  if e.unitOp then
    (if fin ∨ ¬ e.mirrored ∨ s.cmd.accepted.contains (e.session, e.seq) then s
     else
       let s : State := { s with cmd := { s.cmd with accepted := s.cmd.accepted ++ [(e.session, e.seq)] } }
       (s.completeCmd e.session e.seq stAborted []).event .CMD_UNIT_ABORTED [wN e.num, wN e.opcode])
  else if e.accepted then
    (if fin then { s with cmd := { s.cmd with toApply := s.cmd.toApply.filter (fun n => n ≠ e.num) } }
     else if s.cmdHeld e.session e.seq then
       { s with cmd := { s.cmd with accepted := s.cmd.accepted.filter (fun b => b ≠ (e.session, e.seq)) ++ [(e.session, e.seq)]
                                    toApply := s.cmd.toApply.filter (fun n => n ≠ e.num) } }
     else s.applyEntry e)
  else if due then s.applyEntry e
  else s

/-- The first fence after a takeover: mirrored entries of pair sessions, in journal order. R356. -/
def State.takeoverJournal (s : State) : State :=
  let s : State := { s with cmd := { s.cmd with takeoverDue := false } }
  if s.pairUnit then s.cmd.journal.foldl State.takeoverEntry s else s

/-- On the standby: the entries that a mirror marks APPLIED for the first time are applied; those of the hold functions come with the hold
state, and ACCEPTED ones wait for their completion, but for field pulses, whose outputs the standby commands too. R129, R356, R470. -/
def State.standbyApply (s : State) (m : MirrorData) : State :=
  let now := s.cmd.journal.filter (fun e => s.cmd.toApply.contains e.num && m.applied.contains e.num)
  let skip (e : JEntry) : Bool := (between 0x0300 e.opcode 0x0304 && m.hold.isSome) || (e.accepted && e.opcode ≠ 0x0822)
  let s := now.foldl (fun s e =>
    if skip e then s
    else match opOf e.opcode with
      | none => s
      | some o => (o.run s e.session e.seq e.params).1) s
  { s with cmd := { s.cmd with toApply := s.cmd.toApply.filter (fun n => !m.applied.contains n) } }

/-! ### Points and frames (R344, R361, R362) -/

/-- The counters of a frame. -/
def State.cmdFrame (s : State) : State :=
  let c := s.cmd
  let keep := c.badAuthAt.filter (fun a => s.now < a + 60000000000)
  let s : State := { s with cmd := { c with mirrorMax := c.mirrorMaxNow, mirrorMaxNow := 0, badAuthAt := keep } }
  if keep.isEmpty then s.clearAlarm .CMD_AUTH_FAIL else s

/-- The points of the command interface. R361. -/
def cmdPoints (s : State) : List (Nat × PVal × Half) :=
  let c := s.cmd
  let u (p : Nat) (w : Word) : Nat × PVal × Half := (p, pvU w.toNat, qGood)
  [(2944, pvU s.openCount, qGood), (2945, pvU s.dormantCount, qGood), (2946, pvU s.freeBlocks, qGood), (2947, pvB c.peerPresent, qGood),
    (2948, pvUs c.mirrorMax, qGood), u 2949 c.acceptedCnt, u 2950 c.replayed, u 2951 c.seqGaps, u 2952 c.badCrc, u 2953 c.badAuth,
    u 2954 c.journalFull, u 2955 c.discarded]

end Sys2Proof.Machine
end

