-- ==== Sys2Proof/Machine/FrameStart.lean ====
section
/-!
DEFINITION. The start of a control frame: the boundary of the selected clock, what the fence takes and what waits for it, and the points
that blocks publish once per frame (spec/02 R28–R35, R41, R51–R53; spec/20 R586).
-/
namespace Sys2Proof.Machine

/-! ### The boundary (R28, R29, R52) -/

/-- ns of a frame on the selected clock. R28. -/
def frameNs : Nat := 20000000

/-- The selected clock at its nearest tick's reading, and the newest boundary it has reached. -/
def State.boundary (s : State) : Nat := (s.sel + 2) / frameNs * frameNs

/-- Whether a frame starts: the clock has reached a boundary since the last start; the first start lies on the boundary itself, and after a
step the boundary lies at least 10 ms of raw time behind the end of the frame in progress. R28, R52. -/
def State.frameDue (s : State) : Bool :=
  let b := s.boundary
  s.frame.running && s.dom 9 &&
    (match s.frame.stepHoldoff with
      | some h => decide (h + (s.sel - b) ≤ s.raw)
      | none => if s.frame.started = 0 then decide (s.sel + 2 < b + 6) else decide (s.frame.startT < b))

/-- The frame of a boundary: its number and start, and phases that have not come yet. A backward step is recorded. The first frame's length is
published as 0, and the ends of solving and sealing keep the last frame's values until there are new ones (DESIGN CHOICE, log 110). R29, R49,
R52, R53. -/
def State.frameBegin (s : State) : State :=
  let b := s.boundary
  let f := s.frame
  let late := s.sel - b
  let raw := s.raw - late
  let number := b / frameNs
  let back : Bool := f.renumberFrom.any (fun n => decide (number ≤ n))
  let s : State := { s with frame := { f with
    number := number, startT := b, startAt := s.now - late, startRaw := raw, started := f.started + 1
    length := if f.started = 0 then 0 else wN (raw - f.startRaw), stepHoldoff := none, renumberFrom := none
    mirrorApplied := if back then none else f.mirrorApplied
    truncNow := false, estDone := false, phaseHold := false, phaseAlloc := false, phaseSealClosed := false, phaseCommit := false, sealedNow := [] } }
  if back then s.event .FRAME_RENUMBER [wN (f.renumberFrom.getD 0), wN number] else s

/-! ### What waits for a fence -/

/-- The newest mirror is applied by a unit that does not hold authority. R41, R356. -/
def State.mirrorFence (s : State) : State :=
  match s.frame.mirrorHeld with
  | none => s
  | some m =>
    let s : State := { s with frame := { s.frame with mirrorHeld := none } }
    if s.red.commanding then s else (s.standbyApply m).applyMirror m

/-- A generation whose frame has come applies before the fence. R54, R586. -/
def State.cfgFence (s : State) : State :=
  let s := s.cfgCount
  if s.cfg.commit.any (fun c => c.2.1 = 0) then s.cfgEffect else s

/-- The writes that PNT has completed before the fence. R33. -/
def State.takeFence (s : State) : State := { s with pnt := { s.pnt with fenced := s.pointsBefore } }

/-- APP-1's part of a fence. R341, R356, R395. -/
def State.app1Fence (s : State) : State :=
  if ¬ s.dom 3 then s
  else
    let s := s.mirrorFence.redFence
    let s := (if s.cmd.takeoverDue then s.takeoverJournal else s).henReplayFrame
    let s := s.cmdFrame.subsFrame
    { s with part := { s.part with slicesFrame := 0 } }

/-- APP-0's part of a fence: the commands that wait, and what the frame reads of its fenced set. R67, R97, R135, R193. -/
def State.app0Fence (s : State) : State :=
  if ¬ s.dom 2 then s
  else
    let s : State := { s with hold := { s.hold with due := s.hold.due ++ s.hold.pend, pend := [] } }
    s.estFence.alcFence.cqaFence.whatifAge

/-- What the blocks count or clear once per frame. -/
def State.blockFrame (s : State) : State :=
  let s := if s.dom 1 then s.logFrame.henFrame else s
  let s := if s.dom 8 then s.satFrame else s
  let s := if s.dom 10 then s.busFrame else s
  let s := if s.dom 11 then s.fioFollow else s
  let s : State := { s with cqa := { s.cqa with envFrame := s.cqa.envFrame.map (fun n => n + 1) } }
  s.safeFrame.keepFrame

/-! ### Points of a frame (R53) -/

/-- The frame's own points. R53. -/
def framePoints (s : State) : List (Nat × PVal × Half) :=
  let f := s.frame
  let u (p : Nat) (w : Word) : Nat × PVal × Half := (p, pvU w.toNat, qGood)
  [(256, pvU (f.number % 2 ^ 32), qGood), (257, pvE s.tmu.selVc, qGood), u 258 f.length, u 259 f.estEnd, u 260 f.solveEnd, u 261 f.sealEnd,
    u 262 f.estLate, u 263 f.holdLate, u 264 f.solverTrunc, u 265 f.sealLate, u 266 f.stalled, u 267 f.txLate,
    (268, pvI (f.peerSkew.getD 0), if f.peerSkew.isSome then qGood else qBad), u 269 f.mirrorLate]

/-- Every block whose domain runs publishes its points with the fence instant; PNT takes them after the fence, so they enter the next fenced
set. R33, R53. -/
def State.publishAll (s : State) : State :=
  let ts := s.frame.startT
  let on (d : Nat) (f : State → List (Nat × PVal × Half)) (s : State) : State := if s.dom d then s.publish ts (f s) else s
  let s := on 2 framePoints s
  let s := on 2 holdPoints s
  let s := on 2 alcPoints s
  let s := on 2 cqaPoints s
  let s := if s.dom 2 then s.envPublish else s
  let s := on 1 henPoints s
  let s := if s.dom 10 then s.thrPublish ts else s
  let s := on 8 satPoints s
  let s := on 9 tmuPoints s
  let s := on 3 cmdPoints s
  let s := on 1 pntPoints s
  let s := on 3 redPoints s
  let s := on 4 safePoints s
  let s := on 11 State.fioPoints s
  let s := on 10 State.busPoints s
  let s := on 1 logPoints s
  let s := on 3 sysPoints s
  { (s.publish ts (pwrPoints s)) with free := s.free + 1 }

/-! ### The frame start -/

/-- F+0. -/
def State.frameStart (s : State) : State :=
  let s := (if s.dom 2 then s.cqaTick else s).tmuFrame.frameBegin.frameOut
  let s := s.cfgFence
  let s := if s.dom 1 then s.takeFence else s
  let s := s.app1Fence
  let s := if s.dom 10 then s.thrFence else s
  let s := s.app0Fence.blockFrame.surveySync
  let s := if s.dom 1 then s.publishAll else s
  if s.dom 11 then s.fioFollow else s

/-- A frame starts, on A, B and the Warden alike. R28, R42. -/
def execFrameStart (t : Nat) (s : State) : Res :=
  let s := s.arrive t
  .next (if s.frameDue then s.frameStart else s)

/-- At the tenth frame start the committed generation applies, before the fence of that frame. R586. -/
def execCfgEffectFrame (t : Nat) (s : State) : Res :=
  let s := s.arrive t
  .next (if s.frameDue ∧ s.cfg.commit.any (fun c => c.2.1 ≤ 1) then (if s.dom 2 then s.cqaTick else s).cfgEffect else s)

end Sys2Proof.Machine
end

