-- ==== Sys2Proof/Machine/Opcodes.lean ====
section
/-!
DEFINITION. The commands with an opcode: what each does stands in its OpDef; here is what they share once a packet has passed checks 1 to 5
(spec/11 R345, R346, R349).
-/
namespace Sys2Proof.Machine

/-- A command of an open session whose packet has passed the checks of its trailer, session and sequence: the meaning every opcode row
shares. A row that names no open session, or a sequence number that is not its next, is no packet that passed them, and changes only time. A
pair opcode on a unit without pair authority is answered NOT_ACTIVE. Packets held behind it run after it. -/
def opRow (o : OpDef) (t n seq : Nat) (p : List Byte) (s : State) : Res :=
  let s := s.arrive t
  match s.sess? n with
  | none => .next s
  | some x =>
    if ¬ s.dom 3 ∨ x.dormant ∨ x.closing ∨ seq ≠ x.e ∨ s.waiting n ∨ ¬ s.cmd.replayDone then .next s
    else if o.pair ∧ ¬ s.pairOk then .next (s.replyFree x seq o.code stNotActive s.holderParams)
    else .next (((s.modSess n (fun y => { y with lastValid := s.now })).accept o x seq p).runHeld 64 n)

/-- Returns the mode, unit, domains, generation, image slots and running versions. R592. -/
def execSysQuery (t n q : Nat) (p : List Byte) (s : State) : Res := opRow opSysQuery t n q p s

/-- Returns the bytes of the Survey. R364. -/
def execGetSurvey (t n q : Nat) (p : List Byte) (s : State) : Res := opRow opGetSurvey t n q p s

/-- Requests a major-mode transition; it is checked against the transition table, and for HOLD also against R575. R574. -/
def execSetMode (t n q : Nat) (p : List Byte) (s : State) : Res := opRow opSetMode t n q p s

/-- Returns the session's expected sequence number, held packets, outstanding commands and session counts. R360. -/
def execSessionQuery (t n q : Nat) (p : List Byte) (s : State) : Res := opRow opSessionQuery t n q p s

/-- Closes the session and frees its slot once its accepted commands have completed. R344. -/
def execCloseSession (t n q : Nat) (p : List Byte) (s : State) : Res := opRow opCloseSession t n q p s

/-- Keeps a silent session open. R344. -/
def execKeepalive (t n q : Nat) (p : List Byte) (s : State) : Res := opRow opKeepalive t n q p s

/-- Returns free journal blocks, journal numbers, peer presence and refusal count. R360. -/
def execJournalQuery (t n q : Nat) (p : List Byte) (s : State) : Res := opRow opJournalQuery t n q p s

/-- Returns entries of the parameter catalogue. R592. -/
def execCfgQuery (t n q : Nat) (p : List Byte) (s : State) : Res := opRow opCfgQuery t n q p s

/-- Writes configuration body bytes into the DRAM staging area. R585. -/
def execCfgStage (t n q : Nat) (p : List Byte) (s : State) : Res := opRow opCfgStage t n q p s

/-- Validates the staged body and returns a report. R585. -/
def execCfgValidate (t n q : Nat) (p : List Byte) (s : State) : Res := opRow opCfgValidate t n q p s

/-- Writes a validated generation to MRAM and schedules its effect ten frame starts later. R586. -/
def execCfgCommit (t n q : Nat) (p : List Byte) (s : State) : Res := opRow opCfgCommit t n q p s

/-- Restores selected factory settings and restarts the unit through RESTORE. R570. -/
def execCfgFactory (t n q : Nat) (p : List Byte) (s : State) : Res := opRow opCfgFactory t n q p s

/-- Copies the peer's generation in force over the Shesen link to a replacement module. R588. -/
def execCfgFromPeer (t n q : Nat) (p : List Byte) (s : State) : Res := opRow opCfgFromPeer t n q p s

/-- Selects a hold function, checked against the state at acceptance, and applied at the next fence. R98. -/
def execHoldSelectFunction (t n q : Nat) (p : List Byte) (s : State) : Res := opRow opHoldSelectFunction t n q p s

/-- Sets the position and/or heading setpoint. R113. -/
def execHoldSetSetpoint (t n q : Nat) (p : List Byte) (s : State) : Res := opRow opHoldSetSetpoint t n q p s

/-- Changes the forward end at the next fence. R111. -/
def execHoldSetEnd (t n q : Nat) (p : List Byte) (s : State) : Res := opRow opHoldSetEnd t n q p s

/-- Sets the berth-press force and heading offset. R124. -/
def execHoldBprSet (t n q : Nat) (p : List Byte) (s : State) : Res := opRow opHoldBprSet t n q p s

/-- Returns the hold function, BPR state, flags, demand and setpoint. R132. -/
def execHoldStatus (t n q : Nat) (p : List Byte) (s : State) : Res := opRow opHoldStatus t n q p s

/-- Selects or deselects a reference slot at the next fence. R67. -/
def execRefSelect (t n q : Nat) (p : List Byte) (s : State) : Res := opRow opRefSelect t n q p s

/-- Returns a slot's state, reason, share, NIS and recent rejections. R92. -/
def execRefQuery (t n q : Nat) (p : List Byte) (s : State) : Res := opRow opRefQuery t n q p s

/-- Returns a latched REJECTED reference to TRIAL and clears its rejection count. R74. -/
def execRefRetry (t n q : Nat) (p : List Byte) (s : State) : Res := opRow opRefRetry t n q p s

/-- Repeats the estimator initialisation. R84. -/
def execEstReinit (t n q : Nat) (p : List Byte) (s : State) : Res := opRow opEstReinit t n q p s

/-- Selects or deselects a thruster channel for allocation. R136. -/
def execAlcSelect (t n q : Nat) (p : List Byte) (s : State) : Res := opRow opAlcSelect t n q p s

/-- Switches the berm on or off. R164. -/
def execAlcSetBerm (t n q : Nat) (p : List Byte) (s : State) : Res := opRow opAlcSetBerm t n q p s

/-- Returns allocation status, flags, slack, power and iterations. R164. -/
def execAlcQuery (t n q : Nat) (p : List Byte) (s : State) : Res := opRow opAlcQuery t n q p s

/-- Returns the learned values of a channel, or of all channels, to the configured values. R164. -/
def execAlcLearnReset (t n q : Nat) (p : List Byte) (s : State) : Res := opRow opAlcLearnReset t n q p s

/-- Returns a channel's state, faults, outputs, feedback and counters. R270. -/
def execThrQuery (t n q : Nat) (p : List Byte) (s : State) : Res := opRow opThrQuery t n q p s

/-- Clears latched faults and returns a FAILED channel to service when no fault is present. R264. -/
def execThrClear (t n q : Nat) (p : List Byte) (s : State) : Res := opRow opThrClear t n q p s

/-- Enables a channel, or disables it with ramp-out and abort of its unsent sealed set. R265. -/
def execThrEnable (t n q : Nat) (p : List Byte) (s : State) : Res := opRow opThrEnable t n q p s

/-- Returns the consequence-analysis summary. R193. -/
def execCqaQuery (t n q : Nat) (p : List Byte) (s : State) : Res := opRow opCqaQuery t n q p s

/-- Returns the detailed result of one failure case. R193. -/
def execCqaCaseQuery (t n q : Nat) (p : List Byte) (s : State) : Res := opRow opCqaCaseQuery t n q p s

/-- Enables or disables a failure case at the next fence. R193. -/
def execCqaCaseEnable (t n q : Nat) (p : List Byte) (s : State) : Res := opRow opCqaCaseEnable t n q p s

/-- Poses an ad-hoc failure set on queue 1 and completes with a case result. R188. -/
def execCqaWhatif (t n q : Nat) (p : List Byte) (s : State) : Res := opRow opCqaWhatif t n q p s

/-- Returns the state of the selected and virtual clocks. R331. -/
def execTimeQuery (t n q : Nat) (p : List Byte) (s : State) : Res := opRow opTimeQuery t n q p s

/-- Forces or releases the frame's choice of virtual clock. R313. -/
def execTimeSelect (t n q : Nat) (p : List Byte) (s : State) : Res := opRow opTimeSelect t n q p s

/-- Arms or disarms a pulse output. R331. -/
def execTimePulse (t n q : Nat) (p : List Byte) (s : State) : Res := opRow opTimePulse t n q p s

/-- Releases a pending step of a named virtual clock, mirrored to the pair. R310. -/
def execTimeStepAllow (t n q : Nat) (p : List Byte) (s : State) : Res := opRow opTimeStepAllow t n q p s

/-- Returns a CAN port's state, counters, rates, last clash and load. R498. -/
def execCanQuery (t n q : Nat) (p : List Byte) (s : State) : Res := opRow opCanQuery t n q p s

/-- Starts bus-off recovery of a CAN port. R483. -/
def execBusRecover (t n q : Nat) (p : List Byte) (s : State) : Res := opRow opBusRecover t n q p s

/-- Starts listen-only rate detection on a port. R486. -/
def execCanRateDetect (t n q : Nat) (p : List Byte) (s : State) : Res := opRow opCanRateDetect t n q p s

/-- Returns entries of a port's discovery table. R498. -/
def execCanNodeList (t n q : Nat) (p : List Byte) (s : State) : Res := opRow opCanNodeList t n q p s

/-- Returns a serial port's counters. R498. -/
def execSerQuery (t n q : Nat) (p : List Byte) (s : State) : Res := opRow opSerQuery t n q p s

/-- Returns up to 43 points. R384. -/
def execPointRead (t n q : Nat) (p : List Byte) (s : State) : Res := opRow opPointRead t n q p s

/-- Writes a point whose producer is command. R384. -/
def execPointWrite (t n q : Nat) (p : List Byte) (s : State) : Res := opRow opPointWrite t n q p s

/-- Forces a configured point to a value with quality FORCED. R380. -/
def execPointForce (t n q : Nat) (p : List Byte) (s : State) : Res := opRow opPointForce t n q p s

/-- Ends a force with one new write, from the kept state. R380. -/
def execPointUnforce (t n q : Nat) (p : List Byte) (s : State) : Res := opRow opPointUnforce t n q p s

/-- Creates a periodic or on-change subscription. R384. -/
def execPointSubscribe (t n q : Nat) (p : List Byte) (s : State) : Res := opRow opPointSubscribe t n q p s

/-- Ends a subscription. R384. -/
def execPointUnsubscribe (t n q : Nat) (p : List Byte) (s : State) : Res := opRow opPointUnsubscribe t n q p s

/-- Returns configured and unknown producers. R384. -/
def execProducerList (t n q : Nat) (p : List Byte) (s : State) : Res := opRow opProducerList t n q p s

/-- Returns a field channel's and its group's status. R470. -/
def execFioQuery (t n q : Nat) (p : List Byte) (s : State) : Res := opRow opFioQuery t n q p s

/-- Sets the commanded states of command-sourced outputs. R470. -/
def execFioSet (t n q : Nat) (p : List Byte) (s : State) : Res := opRow opFioSet t n q p s

/-- Switches an output on for a duration, as an accepted item. R470. -/
def execFioPulse (t n q : Nat) (p : List Byte) (s : State) : Res := opRow opFioPulse t n q p s

/-- Clears latched OVERLOAD and STUCK_OFF. R470. -/
def execFioClear (t n q : Nat) (p : List Byte) (s : State) : Res := opRow opFioClear t n q p s

/-- Restores the outputs of a group that is in WAIT_RESTORE. R464. -/
def execFioGroupRestore (t n q : Nat) (p : List Byte) (s : State) : Res := opRow opFioGroupRestore t n q p s

/-- Writes the freeze record and stops writes to the record and snapshot regions. R530. -/
def execLogFreeze (t n q : Nat) (p : List Byte) (s : State) : Res := opRow opLogFreeze t n q p s

/-- Ends a freeze and writes the queued records and held snapshots. R531. -/
def execLogThaw (t n q : Nat) (p : List Byte) (s : State) : Res := opRow opLogThaw t n q p s

/-- Returns held records from MRAM or from the spillway. R541. -/
def execLogRead (t n q : Nat) (p : List Byte) (s : State) : Res := opRow opLogRead t n q p s

/-- Returns a snapshot's header and entries. R541. -/
def execLogSnapRead (t n q : Nat) (p : List Byte) (s : State) : Res := opRow opLogSnapRead t n q p s

/-- Returns the event code catalogue. R519. -/
def execLogCodes (t n q : Nat) (p : List Byte) (s : State) : Res := opRow opLogCodes t n q p s

/-- Copies records and snapshots to the NAND export partition. R541. -/
def execLogExport (t n q : Nat) (p : List Byte) (s : State) : Res := opRow opLogExport t n q p s

/-- Tests the log MRAM and returns the log from the spillway to MRAM. R536. -/
def execLogSpillEnd (t n q : Nat) (p : List Byte) (s : State) : Res := opRow opLogSpillEnd t n q p s

/-- Returns the safety points. R453. -/
def execSafeQuery (t n q : Nat) (p : List Byte) (s : State) : Res := opRow opSafeQuery t n q p s

/-- Ends latched stops and faults whose causes are gone, optionally forwarded to the peer. R431. -/
def execSafeReset (t n q : Nat) (p : List Byte) (s : State) : Res := opRow opSafeReset t n q p s

/-- Starts a brake test on a brake. R436. -/
def execSafeBrakeTest (t n q : Nat) (p : List Byte) (s : State) : Res := opRow opSafeBrakeTest t n q p s

/-- Returns the confirmed or pending safety set with its check value. R448. -/
def execSafeCfgRead (t n q : Nat) (p : List Byte) (s : State) : Res := opRow opSafeCfgRead t n q p s

/-- Puts the pending safety set into effect when the check value matches. R448. -/
def execSafeCfgConfirm (t n q : Nat) (p : List Byte) (s : State) : Res := opRow opSafeCfgConfirm t n q p s

/-- Requests a process stop of the named STS pairs. R432. -/
def execSafeStop (t n q : Nat) (p : List Byte) (s : State) : Res := opRow opSafeStop t n q p s

/-- Returns the redundancy state. R420. -/
def execRedQuery (t n q : Nat) (p : List Byte) (s : State) : Res := opRow opRedQuery t n q p s

/-- Schedules a hand-over of authority to the peer two frames later. R413. -/
def execRoleRotate (t n q : Nat) (p : List Byte) (s : State) : Res := opRow opRoleRotate t n q p s

/-- Makes the Warden take command authority. R416. -/
def execWardenPromote (t n q : Nat) (p : List Byte) (s : State) : Res := opRow opWardenPromote t n q p s

/-- Hands the Warden's authority back to A or B. R417. -/
def execWardenRelease (t n q : Nat) (p : List Byte) (s : State) : Res := opRow opWardenRelease t n q p s

/-- Writes image bytes into the update staging partition. R581. -/
def execImgStage (t n q : Nat) (p : List Byte) (s : State) : Res := opRow opImgStage t n q p s

/-- Verifies the staged image and copies it into the inactive slot. R581. -/
def execImgVerify (t n q : Nat) (p : List Byte) (s : State) : Res := opRow opImgVerify t n q p s

/-- Marks the inactive slot of a domain as the one to start from. R581. -/
def execImgActivate (t n q : Nat) (p : List Byte) (s : State) : Res := opRow opImgActivate t n q p s

/-- Ends a domain's accepted items and powers the domain down. R578. -/
def execDomainDrain (t n q : Nat) (p : List Byte) (s : State) : Res := opRow opDomainDrain t n q p s

/-- Powers a drained domain up from its active slot. R578. -/
def execDomainRestore (t n q : Nat) (p : List Byte) (s : State) : Res := opRow opDomainRestore t n q p s

/-- Replies DONE and schedules a restart through RESTORE. R592. -/
def execSysRestart (t n q : Nat) (p : List Byte) (s : State) : Res := opRow opSysRestart t n q p s

/-- Writes a role key or the integrator image key into the key store. R592. -/
def execKeyWrite (t n q : Nat) (p : List Byte) (s : State) : Res := opRow opKeyWrite t n q p s

/-- Submits a solver job to queue 2 or 3 by command. R228. -/
def execHenSubmit (t n q : Nat) (p : List Byte) (s : State) : Res := opRow opHenSubmit t n q p s

/-- Returns the Hold engine status and queue depths. R228. -/
def execHenStatus (t n q : Nat) (p : List Byte) (s : State) : Res := opRow opHenStatus t n q p s

/-- Cancels a commanded solver job. R228. -/
def execHenCancel (t n q : Nat) (p : List Byte) (s : State) : Res := opRow opHenCancel t n q p s

/-- Returns the receiver's state and time information. R302. -/
def execSatQuery (t n q : Nat) (p : List Byte) (s : State) : Res := opRow opSatQuery t n q p s

/-- Restarts the receiver hot, warm or cold. R298. -/
def execSatRestart (t n q : Nat) (p : List Byte) (s : State) : Res := opRow opSatRestart t n q p s

/-- Evaluates the cross-antenna check afresh and ends a latched spoof withdrawal. R302. -/
def execSatIntegrityReset (t n q : Nat) (p : List Byte) (s : State) : Res := opRow opSatIntegrityReset t n q p s

/-- Accepts the held GNSS time without the gate. R293. -/
def execSatTimeAccept (t n q : Nat) (p : List Byte) (s : State) : Res := opRow opSatTimeAccept t n q p s

/-- Excludes or includes a satellite. R302. -/
def execSatExclude (t n q : Nat) (p : List Byte) (s : State) : Res := opRow opSatExclude t n q p s

/-- Switches an antenna bias on or off. R302. -/
def execSatAntBias (t n q : Nat) (p : List Byte) (s : State) : Res := opRow opSatAntBias t n q p s

end Sys2Proof.Machine
end

