-- ==== Sys2Proof/Machine/Packets.lean ====
section
/-!
DEFINITION. Datagrams, sessions and the journal: the events of the command interface (spec/11 R333–R353).
-/
namespace Sys2Proof.Machine

/-- Whether the unit receives commands: NET and APP-1 run. R22, R333. -/
def State.hears (s : State) : Bool := s.netUp && s.dom 3

/-- A datagram arrives on port 30960; a command that passes every check is executed. One that finds 256 waiting is dropped and counted. R334,
R345. -/
def execCommandPacket (t : Nat) (iface : Iface) (addr port : Nat) (bytes : List Byte) (s : State) : Res :=
  let s := s.arrive t
  .next (if ¬ s.hears then s
    else if 256 ≤ s.netWaiting then { s with cmd := { s.cmd with discarded := s.cmd.discarded + 1 } }
    else State.datagram { s with cmd := { s.cmd with netUntil := max s.now s.cmd.netUntil + 500000 } }
      { iface := iface, addr := addr, port := port } bytes)

/-- An OPEN_SESSION whose trailer has passed: with a tag under the key of its role, or without one where that is admitted. R342, R343. -/
def execOpenSession (t : Nat) (iface : Iface) (addr port client sess : Nat) (auth : Bool) (p : List Byte) (s : State) : Res :=
  let s := s.arrive t
  let trailed : Bool := match roleOf (fld p 0 1) with
    | some r => if auth then (s.roleKey r).isSome else s.openFree r iface || !portAdmits r iface
    | none => !auth
  .next (if s.hears ∧ trailed then s.openSession { iface := iface, addr := addr, port := port } client sess auth p else s)

/-- A sequence gap has not been filled 500 ms after the oldest held packet. R346. -/
def execSeqGapTimeout (t sess : Nat) (s : State) : Res :=
  let s := s.arrive t
  .next (match s.sess? sess with
    | none => s
    | some x => if x.held.any (fun h => s.past h.at_ 500000000) then s.dropHeld sess else s)

/-- A session has received no valid packet for 30 s. R344. -/
def execSessionDormant (t sess : Nat) (s : State) : Res :=
  let s := s.arrive t
  .next (match s.sess? sess with
    | none => s
    | some x =>
      if ¬ x.dormant ∧ s.past x.lastValid 30000000000 then s.modSess sess (fun y => { y with dormant := true, dormantAt := s.now }) else s)

/-- A DORMANT session is reclaimed after CMD_DORMANT_KEEP. R344. -/
def execSessionReclaim (t sess : Nat) (s : State) : Res :=
  let s := s.arrive t
  .next (match s.sess? sess with
    | none => s
    | some x => if x.dormant ∧ s.past x.dormantAt (s.parNs .CMD_DORMANT_KEEP) then s.reclaim sess else s)

/-- The peer acknowledges an entry. R349. -/
def execJournalPeerAck (t jnum : Nat) (s : State) : Res :=
  let s := s.arrive t
  .next (if s.dom 3 then s.peerAck jnum else s)

/-- An acknowledgement has not come within CMD_MIRROR_TIMEOUT. R351. -/
def execJournalMirrorTimeout (t jnum : Nat) (s : State) : Res :=
  let s := s.arrive t
  .next (if s.dom 3 then s.mirrorLost jnum else s)

/-- Resynchronisation with a returning peer completes; `held` are the entries that the unit holding pair authority holds. R351. -/
def execJournalResyncComplete (t : Nat) (held : List Nat) (s : State) : Res :=
  let s := s.arrive t
  .next (if s.dom 3 then s.resynced held else s)

/-- An entry or a descriptor comes from the peer. R349. -/
def execJournalEntryMirrored (t : Nat) (e : JEntry) (s : State) : Res := .next ((s.arrive t).fromJournal e)

/-- What ends an ACCEPTED command whose work lies outside the module's own blocks: an export, the test of the log memory, an image's
verification, a copy from the peer; another that no block holds ends with the status named. R352, R541, R588, R592. -/
def State.completion (s : State) (n q status : Nat) (p : List Byte) : State :=
  if ¬ s.cmd.accepted.contains (n, q) then s
  else if s.log.exporting = some (n, q) then s.logExportEnd
  else if s.log.spillEnd = some (n, q) then s.logSpillTested (fld p 0 4)
  else if s.sys.verifying.any (fun v => v.1 = n && v.2.1 = q) then s.imgVerified (fld p 0 1 = 4)
  else if s.sys.cfgFromPeer = some (n, q) then s.fromPeer status p
  else if s.cmdHeld n q then s
  else s.completeCmd n q status p

/-- An ACCEPTED command reaches its final status. R352. -/
def execCommandCompletion (t sess seq status : Nat) (p : List Byte) (s : State) : Res :=
  let s := s.arrive t
  .next (if s.dom 3 then s.completion sess seq status p else s)

end Sys2Proof.Machine
end

