-- ==== Sys2Proof/Machine/RegOps.lean ====
section
/-!
DEFINITION. The register window: what every register reads as, what a read does to it, what a write stores, and who may do either
(spec/00 R8–R10, spec/01 R18, R19, and the register tables of spec/07, 08, 10, 12, 15, 17, 18). Registers are words at word addresses;
offsets not listed read 0 and ignore writes.
-/
namespace Sys2Proof.Machine

/-- A word of named bit fields: value and lowest bit. -/
def packed (l : List (Nat × Nat)) : Word := wN (sumN (l.map (fun x => x.1 * 2 ^ x.2)))

/-- Bit mask of a list of Bools, the first at bit 0. -/
def maskB (l : List Bool) : Nat := maskOf l.length (fun i => l.getD i false)

/-- The low and high word of a 64-bit number with one of them replaced. -/
def setHalf (old : Nat) (hi : Bool) (v : Word) : Nat :=
  if hi then old % 2 ^ 32 + v.toNat * 2 ^ 32 else old / 2 ^ 32 % 2 ^ 32 * 2 ^ 32 + v.toNat

/-- The high or low word of a 64-bit number. -/
def halfOf (n : Nat) (hi : Bool) : Word := wN (if hi then n / 2 ^ 32 else n)

/-! ### Reading (R8) -/

/-- A pulse output's registers. spec/10 R328. -/
def PulseOut.reg (x : PulseOut) (r : Nat) : Word :=
  match r with
  | 0x00 => halfOf x.start false
  | 0x04 => halfOf x.start true
  | 0x08 => wN x.period
  | 0x0C => wN x.width
  | 0x10 => packed [(b2n x.armed, 0), (x.clk, 1), (b2n x.pol, 3)]
  | 0x14 => packed [(b2n x.armed, 0), (b2n x.past, 1), (b2n x.abortedF, 2), (b2n x.suppressed, 3), (b2n x.late, 4), (x.count.toNat, 8)]
  | _ => 0

/-- VCn_STAT. spec/10 R328. -/
def VcSt.stat (v : VcSt) : Word :=
  packed [(v.qual, 0), (v.src.code, 2), (b2n v.stepPending, 5), (b2n v.gm, 6), (b2n v.fallback, 7), (v.stepGen % 16, 8)]

/-- A servo block's registers. spec/10 R328. -/
def VcSt.reg (v : VcSt) (r : Nat) : Word :=
  match r with
  | 0x00 => (words64 v.ofs).getD 0 0
  | 0x04 => (words64 v.ofs).getD 1 0
  | 0x08 => halfOf v.ref false
  | 0x0C => halfOf v.ref true
  | 0x10 => BitVec.ofInt 32 v.rate
  | 0x14 => packed [(v.tau % 128, 0), (b2n v.freeze, 8), (b2n v.stepArm, 9)]
  | _ => 0

/-- The word that follows a latched HI register of a requester. spec/10 R319. -/
def State.hiOf (s : State) (who : Who) : HiLatch := s.tmu.hi.getD who.latch {}

/-- TMU. spec/10 R328. -/
def State.tmuRead (s : State) (who : Who) (o : Nat) : Word :=
  if between 0x080 o 0x0BF then (s.vc ((o - 0x80) / 0x20)).reg ((o - 0x80) % 0x20)
  else if between 0x100 o 0x1BF then (s.pulse ((o - 0x100) / 0x20)).reg ((o - 0x100) % 0x20)
  else if between 0x200 o 0x27F then
    let f := (o - 0x200) / 0x10
    match (o - 0x200) % 0x10 with
    | 0x0 => (s.readData0 f).1
    | 0x4 => (s.readData1 f).1
    | 0x8 => packed [((s.capf f).q.length, 0), (b2n (s.capf f).ovr, 9)]
    | _ => 0
  else match o with
    | 0x000 => packed [(1, 0), (8, 8), (6, 12)]
    | 0x004 => packed [(s.tmu.force, 0), (b2n s.tmu.revert, 2), (b2n s.tmu.fallbackSat, 3)]
    | 0x008 => s.tmu.raw.incr
    | 0x010 => (s.readLo who 3).1
    | 0x014 => (s.hiOf who).raw
    | 0x020 => (s.readLo who 1).1
    | 0x024 => (s.hiOf who).vc0
    | 0x028 => (s.vc 0).stat
    | 0x030 => (s.readLo who 2).1
    | 0x034 => (s.hiOf who).vc1
    | 0x038 => (s.vc 1).stat
    | 0x040 => (s.readLo who 0).1
    | 0x044 => (s.hiOf who).sel
    | 0x048 => packed [(s.tmu.selVc, 0), (b2n (s.selDAt s.raw ≠ 0), 1), (b2n (s.tmu.force ≠ 0), 2), (s.tmu.selGen % 16, 4)]
    | 0x04C => BitVec.ofInt 32 (max (-(2 ^ 31 : Int)) (min (2 ^ 31 - 1 : Int) s.selDiff))
    | 0x050 => halfOf s.tmu.pre false
    | 0x054 => halfOf s.tmu.pre true
    | _ => 0

/-- DMA. spec/17 R516. -/
def State.dmaRead (s : State) (o : Nat) : Word :=
  if between 0x100 o 0x8FF then
    let c := s.dch ((o - 0x100) / 0x40)
    match (o - 0x100) % 0x40 with
    | 0x00 => c.descLo
    | 0x04 => wN (c.descHi.toNat % 256)
    | 0x08 => packed [(b2n c.en, 1), (b2n c.ie, 2), (c.prio, 4)]
    | 0x0C => packed [(c.state, 0), (c.last, 2), (b2n c.endF, 8), (b2n c.half, 9), (b2n c.full, 10), (b2n c.err, 11), (b2n c.refused, 12),
        (b2n c.trigMiss, 13)]
    | 0x10 => c.remain
    | 0x14 => halfOf c.cur false
    | 0x18 => halfOf c.cur true
    | 0x1C => wN (c.circPos % 2 ^ 24)
    | 0x20 => c.tag
    | 0x24 => c.count
    | _ => 0
  else match o with
    | 0x000 => packed [(1, 0), (32, 8)]
    | 0x004 => wN (maskOf 32 (fun n => (s.dch n).desc.isSome))
    | _ => 0

/-- DONE_INFO of a completion entry. spec/07 R227. -/
def HenDone.info (d : HenDone) : Word :=
  packed [(d.jstat, 0), (b2n d.cancel, 2), (b2n d.flagged, 3), (d.nDone, 4), (d.nTrunc, 13), (d.nAbsent, 22), (1, 31)]

/-- HEN. spec/07 R227. -/
def State.henRead (s : State) (who : Who) (o : Nat) : Word :=
  if between 0x100 o 0x1FF then
    let q := (o - 0x100) / 0x40
    let x := s.hq q
    match (o - 0x100) % 0x40 with
    | 0x08 => packed [(b2n x.en, 0), (b2n x.ieDone, 1), (b2n x.ieAbort, 2)]
    | 0x0C => packed [(x.depth, 0), ((x.subs.getD who.req {}).res, 8), (b2n (s.hqRunning q), 16), (b2n (s.hqSusp q), 17)]
    | 0x10 => (x.done.head?.map HenDone.tag).getD 0
    | 0x14 => (x.done.head?.map HenDone.info).getD 0
    | 0x18 => (x.done.head?.map HenDone.time).getD 0
    | 0x20 => packed [(b2n x.intDone, 0), (b2n x.intAborted, 1), (b2n x.intRefused, 2)]
    | 0x28 => packed [(x.jobsDone.toNat, 0), (x.refusals.toNat, 16)]
    | _ => 0
  else match o with
    | 0x000 => packed [(1, 0), (2, 8), (32, 16), (64, 24)]
    | 0x004 => packed [(b2n s.hen.cl0.en, 0), (b2n s.hen.cl1.en, 1)]
    | 0x008 => wN s.henStat
    | 0x00C => wN s.hen.piv
    | 0x010 => wN s.hen.err
    | _ => 0

/-- PNT control. spec/12 R383. -/
def State.pntRead (s : State) (o : Nat) : Word :=
  let x := s.pnt
  if between 0x040 o 0x07F then
    let w := x.watch.getD ((o - 0x40) / 4) (0, false)
    packed [(w.1, 0), (b2n w.2, 31)]
  else match o with
    | 0x000 => 1
    | 0x004 => x.fence
    | 0x008 => wN x.wrIdx
    | 0x00C => wN x.wrQual.toNat
    | 0x010 => halfOf x.wrVal.toNat false
    | 0x014 => halfOf x.wrVal.toNat true
    | 0x018 => halfOf x.wrTime.toNat false
    | 0x01C => halfOf x.wrTime.toNat true
    | 0x024 => wN x.wrStat
    | 0x028 => wN x.watchHit.toNat
    | 0x02C => wN x.watchIe.toNat
    | 0x080 => x.writes
    | _ => 0

/-- LOG. spec/18 R538. -/
def State.logRegRead (s : State) (who : Who) (o : Nat) : Word :=
  let x := s.log
  let rd := s.rdPort who
  if between 0x040 o 0x05F then x.drops.getD ((o - 0x40) / 4) 0
  else if between 0x060 o 0x07F then x.qdrops.getD ((o - 0x60) / 4) 0
  else if between 0x140 o 0x17F then rd.data.getD ((o - 0x140) / 4) 0
  else match o with
    | 0x000 => 1
    | 0x004 => packed [(x.state, 0), (b2n (3072 ≤ x.queue.length), 2), (b2n x.snapFault, 3), (x.queue.length, 16)]
    | 0x008 => x.head
    | 0x00C => s.logTail
    | 0x010 => x.freezeSeq
    | 0x014 => s.keep.pcycle
    | 0x018 => (s.logOptimeLo who).1
    | 0x01C => wN rd.optimeHi.toNat
    | 0x020 => x.snapHead
    | 0x024 => x.torn
    | 0x080 => x.merged
    | 0x100 => rd.sel
    | 0x104 => packed [(rd.kind, 0), (rd.entry, 16)]
    | 0x108 => wN rd.result
    | _ => 0

/-- A thruster channel's page. spec/08 R266. -/
def State.thrRead (s : State) (c r : Nat) : Word :=
  let x := s.tch c
  match r with
  | 0x00 => packed [(s.ttype c, 0), (s.tlink c, 2), (c, 4)]
  | 0x04 => packed [(b2n x.en, 0)]
  | 0x08 => wN x.stat
  | 0x0C => wN x.fault
  | 0x10 => x.shT
  | 0x14 => x.shAng
  | 0x18 => packed [(b2n x.shRun, 0), (b2n x.shTest, 1)]
  | 0x1C => packed [(b2n x.sealed, 0)]
  | 0x20 => x.actT
  | 0x24 => x.actAng
  | 0x28 => toF32 x.outT
  | 0x2C => toF32 x.gate
  | 0x30 => toF32 (x.azUsed.getD {}).a
  | 0x34 => match x.azUsed with
    | some y => wN (s.selAt y.t)
    | none => 0
  | 0x38 => toF32 x.azRate
  | 0x3C => toF32 x.azPred
  | 0x40 => toF32 x.tMeas
  | 0x44 => toF32 x.pMeas
  | 0x48 => toF32 x.shaftSpd
  | 0x4C => toF32 x.shaftAng
  | 0x50 => x.handoverTime
  | 0x54 => wN x.cnt
  | _ => 0

/-- The sequencer's common registers. spec/08 R267. -/
def State.thrCommonRead (s : State) (r : Nat) : Word :=
  match r with
  | 0x0 => packed [(b2n s.thr.auth, 0)]
  | 0x4 => wN s.thrRound
  | 0x8 => wN (s.selAt (s.rawAt (s.thr.roundBase + 2400000 * s.thrRound)))
  | _ => 0

/-- FIO. spec/15 R467. -/
def State.fioRead (s : State) (o : Nat) : Word :=
  let bank (w : Nat) (f : FioChan → Bool) : Word := wN (maskOf 32 (fun i => f (s.fch (32 * w + i + 1))))
  if o ≠ 0 ∧ ¬ s.fioValid then 0
  else if between 0x010 o 0x01B then bank ((o - 0x10) / 4) FioChan.level
  else if between 0x020 o 0x02B then bank ((o - 0x20) / 4) FioChan.cmd
  else if between 0x030 o 0x03B then bank ((o - 0x30) / 4) FioChan.rb
  else if between 0x040 o 0x05F then wN (s.fioGstat ((o - 0x40) / 4 + 1))
  else if between 0x100 o 0x27F then wN (s.fioStat ((o - 0x100) / 4 + 1))
  else if o = 0 then packed [(1, 0), (96, 8)] else 0

/-- The block whose registers an offset from 0x4000_0000 lies among, and the domain that holds them: 0 SVY, 1 TMU, 2 DMA, 3 HEN, 4 PNT,
5 LOG, 6 THR, 7 FIO, 8 none. spec/12 R366, spec/01 R22. -/
def regBlock (o : Nat) : Nat × Nat :=
  if o < 0x10000 then (0, 1)
  else if o < 0x20000 then (1, 9)
  else if o < 0x30000 then (2, 1)
  else if o < 0x40000 then (3, 1)
  else if o < 0x50000 then (4, 1)
  else if o < 0x60000 then (5, 1)
  else if o < 0x70000 then (6, 10)
  else if o < 0x80000 then (7, 11)
  else (8, 1)

/-- What a register reads as for a requester, by its offset from 0x4000_0000. -/
def State.regRead (s : State) (who : Who) (off : Nat) : Word :=
  let o := off / 4 * 4
  let r := o % 0x10000
  match (regBlock o).1 with
  | 0 => wN (fld s.survey r 4)
  | 1 => s.tmuRead who r
  | 2 => s.dmaRead r
  | 3 => s.henRead who r
  | 4 => s.pntRead r
  | 5 => s.logRegRead who r
  | 6 => if r < 0x6000 then s.thrRead (r / 0x400 + 1) (r % 0x400) else if r < 0x6010 then s.thrCommonRead (r - 0x6000) else 0
  | 7 => s.fioRead r
  | _ => 0

/-- What a read leaves behind: RS fields clear, LO registers latch HI, a capture entry is latched or removed. R8, R319, R328, R538. -/
def State.regTouch (s : State) (who : Who) (off : Nat) : State :=
  let o := off / 4 * 4
  let r := o % 0x10000
  match (regBlock o).1 with
  | 0 => s.surveySync
  | 1 =>
    if between 0x100 r 0x1BF ∧ r % 0x20 = 0x14 then
      s.modPulse ((r - 0x100) / 0x20) (fun x => { x with past := false, abortedF := false, suppressed := false, late := false })
    else if between 0x200 r 0x27F then
      let f := (r - 0x200) / 0x10
      match (r - 0x200) % 0x10 with
      | 0x0 => (s.readData0 f).2
      | 0x4 => (s.readData1 f).2
      | 0x8 => s.modCap f (fun x => { x with ovr := false })
      | _ => s
    else match r with
      | 0x010 => (s.readLo who 3).2
      | 0x020 => (s.readLo who 1).2
      | 0x030 => (s.readLo who 2).2
      | 0x040 => (s.readLo who 0).2
      | _ => s
  | 3 => if r = 0x010 then { s with hen := { s.hen with uncorrNew := false } } else s
  | 5 => if r = 0x018 then (s.logOptimeLo who).2 else s
  | 6 =>
    if r < 0x6000 ∧ r % 0x400 = 0x008 then
      s.modTch (r / 0x400 + 1) (fun x => { x with handed := false, sealLateF := false, wrSealed := false, wdLate := false, abortedF := false })
    else s
  | 7 => if between 0x100 r 0x27F then s.modFch ((r - 0x100) / 4 + 1) (fun x => { x with edge := false }) else s
  | _ => s

/-- A read of a register whose domain runs; of one whose domain is off the data are free (log 84). -/
def State.regGet (s : State) (who : Who) (off : Nat) : Word × State :=
  if s.dom (regBlock off).2 then
    let s : State := if off < 0x10000 then s.surveySync else s
    (s.regRead who off, s.regTouch who off)
  else s.freeW

/-! ### Writing (R8) -/

/-- The answer to a read: the data, and what the read does to the register. R8. -/
def State.regReply (s : State) (who : Who) (off : Nat) : State :=
  let r := s.regGet who off
  r.2.emit (.readData r.1)

/-- TMU: TMU_CTRL, TMU_INCR, the servo blocks and the pulse outputs. spec/10 R305, R306, R325, R328. -/
def State.tmuWrite (s : State) (o : Nat) (v : Word) : State :=
  let n := v.toNat
  if between 0x080 o 0x0BF then
    s.modVc ((o - 0x80) / 0x20) (fun (x : VcSt) => match (o - 0x80) % 0x20 with
      | 0x00 => { x with ofs := (BitVec.ofNat 64 (setHalf (BitVec.ofInt 64 x.ofs).toNat false v)).toInt }
      | 0x04 => { x with ofs := (BitVec.ofNat 64 (setHalf (BitVec.ofInt 64 x.ofs).toNat true v)).toInt }
      | 0x08 => { x with ref := setHalf x.ref false v }
      | 0x0C => { x with ref := setHalf x.ref true v }
      | 0x10 => { x with rate := rateClamp v.toInt }
      | 0x14 => { x with tau := n % 128, freeze := n.testBit 8, stepArm := n.testBit 9 }
      | _ => x)
  else if between 0x100 o 0x1BF then
    let k := (o - 0x100) / 0x20
    match (o - 0x100) % 0x20 with
    | 0x00 => s.modPulse k (fun x => { x with start := setHalf x.start false v })
    | 0x04 => s.modPulse k (fun x => { x with start := setHalf x.start true v })
    | 0x08 => s.modPulse k (fun x => { x with period := n })
    | 0x0C => s.modPulse k (fun x => { x with width := n })
    | 0x10 => s.pulseCtrl k v
    | _ => s
  else match o with
    | 0x004 => s.tmuCtrl v
    | 0x008 => s.setIncr v
    | _ => s

/-- DMA. spec/17 R505, R512, R513, R516. -/
def State.dmaWrite (s : State) (o : Nat) (v : Word) : State :=
  let k := v.toNat
  if ¬ between 0x100 o 0x8FF then s
  else
    let n := (o - 0x100) / 0x40
    match (o - 0x100) % 0x40 with
    | 0x00 => s.modDch n (fun c => { c with descLo := v })
    | 0x04 => s.modDch n (fun c => { c with descHi := wN (k % 256) })
    | 0x08 =>
      let prio : Nat := if dmaPart n then min 1 (k / 16 % 4) else k / 16 % 4
      let s := s.modDch n (fun c => { c with ie := k.testBit 2, prio := prio })
      let s : State :=
        if k.testBit 1 then s.modDch n (fun c => { c with en := true })
        else if (s.dch n).en then s.dmaDisable n 0 else s
      if k.testBit 0 then s.dmaStart n else s
    | 0x0C => s.modDch n (fun c => { c with
        endF := c.endF && !k.testBit 8, half := c.half && !k.testBit 9, full := c.full && !k.testBit 10
        err := c.err && !k.testBit 11, refused := c.refused && !k.testBit 12, trigMiss := c.trigMiss && !k.testBit 13 })
    | _ => s

/-- CLn_EN written. spec/07 R221, R227. -/
def State.clEnWrite (s : State) (i : Nat) (on : Bool) : State :=
  if on then (s.modCl i (fun c => { c with en := true })).henGo
  else if (s.cl i).en then (s.clLeave i false 0).dmaClusterLost i
  else s

/-- HEN. spec/07 R213, R219–R221, R227. -/
def State.henWrite (s : State) (who : Who) (o : Nat) (v : Word) : State :=
  let n := v.toNat
  if between 0x100 o 0x1FF then
    let q := (o - 0x100) / 0x40
    match (o - 0x100) % 0x40 with
    | 0x00 => s.modHq q (fun x => { x with subs := x.subs.modify who.req (fun y => { y with lo := v }) })
    | 0x04 => (s.henSubmit q who v).henSettle
    | 0x08 =>
      let s := s.modHq q (fun x => { x with ieDone := n.testBit 1, ieAbort := n.testBit 2 })
      if n.testBit 0 then s.modHq q (fun x => { x with en := true })
      else if (s.hq q).en then (s.henDisable q 0).henGo.henSettle else s
    | 0x1C => if n.testBit 0 then s.modHq q (fun x => { x with done := x.done.drop 1 }) else s
    | 0x20 => s.modHq q (fun x => { x with
        intDone := x.intDone && !n.testBit 0, intAborted := x.intAborted && !n.testBit 1, intRefused := x.intRefused && !n.testBit 2 })
    | 0x24 => (s.henCancel q v false).henSettle
    | _ => s
  else match o with
    | 0x004 => ((s.clEnWrite 0 (n.testBit 0)).clEnWrite 1 (n.testBit 1)).henSettle
    | 0x00C => { s with hen := { s.hen with piv := max 10 (min 40 (n % 64)) } }
    | _ => s

/-- PNT control. spec/12 R381–R383. -/
def State.pntWrite (s : State) (o : Nat) (v : Word) : State :=
  let x := s.pnt
  let n := v.toNat
  if between 0x040 o 0x07F then { s with pnt := { x with watch := x.watch.set ((o - 0x40) / 4) (n % 2 ^ 17, n.testBit 31) } }
  else match o with
    | 0x008 => { s with pnt := { x with wrIdx := n % 2 ^ 17 } }
    | 0x00C => { s with pnt := { x with wrQual := v.setWidth 16 } }
    | 0x010 => { s with pnt := { x with wrVal := BitVec.ofNat 64 (setHalf x.wrVal.toNat false v) } }
    | 0x014 => { s with pnt := { x with wrVal := BitVec.ofNat 64 (setHalf x.wrVal.toNat true v) } }
    | 0x018 => { s with pnt := { x with wrTime := BitVec.ofNat 64 (setHalf x.wrTime.toNat false v) } }
    | 0x01C => { s with pnt := { x with wrTime := BitVec.ofNat 64 (setHalf x.wrTime.toNat true v) } }
    | 0x020 => if n.testBit 0 then s.wrGo else s
    | 0x028 => { s with pnt := { x with watchHit := x.watchHit &&& ~~~(v.setWidth 16) } }
    | 0x02C => { s with pnt := { x with watchIe := v.setWidth 16 } }
    | _ => s

/-- LOG. spec/18 R538. -/
def State.logWrite (s : State) (who : Who) (o : Nat) (v : Word) : State :=
  match o with
  | 0x100 => s.modRd who (fun x => { x with sel := v })
  | 0x104 => s.logRdGo who v
  | _ => s

/-- THR: a channel's page and THR_AUTH, which redundancy supervision on APP-1 alone writes. spec/08 R237, R238, R264–R267. -/
def State.thrWrite (s : State) (who : Who) (o : Nat) (v : Word) : State :=
  let n := v.toNat
  if o < 0x6000 then
    let c := o / 0x400 + 1
    match o % 0x400 with
    | 0x004 =>
      let s := s.modTch c (fun x => if n.testBit 0 = x.en then x else { x with en := n.testBit 0, pendEn := some (n.testBit 0), pendAt := s.now })
      let s := if n.testBit 1 then s.thrWithdraw c else s
      if n.testBit 2 then s.thrClear c else s
    | 0x010 => s.thrShadow c 0x010 v
    | 0x014 => s.thrShadow c 0x014 v
    | 0x018 => s.thrShadow c 0x018 v
    | 0x01C => if n.testBit 0 then s.thrSeal c else s
    | _ => s
  else if o = 0x6000 ∧ who = .app1 then s.thrAuth (n.testBit 0) false
  else s

/-- A write of a register, by its offset from 0x4000_0000; FIO and the Survey are read-only; of a register whose domain is off nothing is
stored. -/
def State.regWrite (s : State) (who : Who) (off : Nat) (v : Word) : State :=
  let o := off / 4 * 4
  let r := o % 0x10000
  if ¬ s.dom (regBlock o).2 then s
  else match (regBlock o).1 with
    | 1 => s.tmuWrite r v
    | 2 => s.dmaWrite r v
    | 3 => s.henWrite who r v
    | 4 => s.pntWrite r v
    | 5 => s.logWrite who r v
    | 6 => s.thrWrite who r v
    | _ => s

/-! ### Who may (R18, R19) -/

/-- A capture FIFO that the partition owns. spec/10 R328, R332. -/
def State.partCap (s : State) (f : Nat) : Bool := (f = 6 || f = 7) && s.parB .TMU_CAP_OWNER f

/-- Whether the partition reads an offset of the window. spec/01 R18 and the text of each register table. -/
def State.partReads (s : State) (off : Nat) : Bool :=
  let r := off / 4 * 4 % 0x10000
  match (regBlock off).1 with
  | 0 => true
  | 1 => r ≤ 0x057 || (between 0x160 r 0x19F && s.parB .TMU_TPO34_PART) || (between 0x200 r 0x27F && s.partCap ((r - 0x200) / 0x10))
  | 2 => r < 8 || between 0x700 r 0x8FF
  | 3 => r = 0 || r = 8 || between 0x180 r 0x1FF
  | 4 => r < 0x1000
  | 5 => r < 0x1000
  | 6 => (r < 0x6000 && !between 0x010 (r % 0x400) 0x01F) || between 0x6000 r 0x600F
  | 7 => r < 0x1000
  | _ => false

/-- Whether the partition writes an offset of the window. -/
def State.partWrites (s : State) (off : Nat) : Bool :=
  let r := off / 4 * 4 % 0x10000
  match (regBlock off).1 with
  | 1 => between 0x160 r 0x19F && s.parB .TMU_TPO34_PART
  | 2 => between 0x700 r 0x8FF
  | 3 => between 0x180 r 0x1FF
  | 4 => r < 0x1000
  | 5 => r = 0x100 || r = 0x104
  | _ => false

/-- Whether a requester may read (or write) an offset: firmware every register, the partition as R18, SAFE-P reads the feedback
registers of the channels, DMA none. R13, R18, spec/17 R501. -/
def State.mayReg (s : State) (who : Who) (off : Nat) (write : Bool) : Bool :=
  match who with
  | .app0 => true
  | .app1 => true
  | .part => if write then s.partWrites off else s.partReads off
  | .safeP => !write && between 0x60000 off 0x65FFF && between 0x030 (off % 0x400) 0x04F
  | .dma => false

/-- An access that is refused. -/
def State.regRefused (s : State) (who : Who) (addr : Nat) : State :=
  match who with
  | .part => s.partViolation addr
  | _ => s.busErr who addr

/-- The register window. spec/01 R13. -/
def winLo : Nat := 0x40000000

/-- Whether an address lies in the register window. -/
def inWin (a : Nat) : Bool := between winLo a 0x4FFFFFFF

end Sys2Proof.Machine
end

