-- ==== Sys2Proof/Machine/Part.lean ====
section
/-!
DEFINITION. The integrator partition's run, errors of the DRAM, the lockstep pairs of APP-0 and APP-1, and the end of RESTORE (spec/01
R11, R13, R14, R17, R20; spec/19 R560, R564).
-/
namespace Sys2Proof.Machine

/-! ### The partition (R17, R20) -/

/-- Whether APP-1 gives a slice that ends now: at most 1 ms, within the 8 ms of the frame, and none of it between F+15.5 and F+19 ms. R17,
R32. -/
def State.sliceMay (s : State) (used : Nat) : Bool :=
  let e := s.frameElapsed
  s.part.running && decide (used ≤ 1000000) && decide (s.part.slicesFrame + used ≤ 8000000) &&
    (!s.frame.running || s.frame.started = 0 || decide (e ≤ 15500000) || decide (19000000 + used ≤ e))

/-- A slice of the partition ends: its time and the pre-emption are counted. A slice that APP-1 does not give does not occur. R17. -/
def execPartitionSliceEnd (t used : Nat) (s : State) : Res :=
  let s := s.arrive t
  .next (if s.sliceMay used then
      { s with part := { s.part with slicesFrame := s.part.slicesFrame + used, preemptions := s.part.preemptions + 1 } }
    else s)

/-- Resets of an image within its trial by a fault of its own: the second makes the next start take the other slot. R582. -/
def State.selfReset (s : State) (d : Nat) : State :=
  match s.img? d with
  | none => s
  | some x =>
    if x.trial.isNone then s
    else
      let s := s.modImg d (fun x => { x with selfResets := x.selfResets + 1 })
      if 1 ≤ x.selfResets then s.imgFallback d else s

/-- The partition's restarts of the last 10 minutes. R20. -/
def State.recentRestarts (s : State) : List Nat := s.part.restarts.filter (fun a => s.now < a + 600000000000)

/-- A fault of the running partition: its jobs and transfers end first; it restarts from its active image, or stays stopped after three
restarts within 10 minutes. R20. -/
def State.partFault (s : State) (cause : Nat) : State :=
  if ¬ s.part.running then s
  else
    let l := s.recentRestarts
    let s := s.partStop cause
    if 3 ≤ l.length then State.event { s with part := { s.part with stoppedByFaults := true } } .PARTITION_STOPPED [wN cause]
    else
      let s := (s.selfReset 0x80).imgStart [0x80]
      State.partStart { s with part := { s.part with restarts := s.now :: l } } true cause

/-- A fault of the partition: a repeated bus error or an unhandled trap. R20. -/
def execPartitionFault (t cause : Nat) (s : State) : Res := .next ((s.arrive t).partFault cause)

/-- The partition's watchdog of 500 ms expires. R20. -/
def execPartitionWatchdogExpiry (t : Nat) (s : State) : Res :=
  let s := s.arrive t
  .next (if s.past s.part.watchdogAt 500000000 then s.partFault 2 else s)

/-- A partition that was stopped after three restarts starts again. R20. -/
def execPartitionStartCommand (t : Nat) (s : State) : Res :=
  let s := s.arrive t
  .next (if s.part.stoppedByFaults ∧ s.dom 3 then
      State.partStart { s with part := { s.part with stoppedByFaults := false, restarts := [] } } false 0
    else s)

/-! ### Lockstep (R11) -/

/-- APP-0 or APP-1 starts again from its image. APP-1 handles its journal. R355, R564, R582. -/
def State.appRestart (s : State) (d : Nat) : State :=
  let s := s.selfReset d
  if d = 2 then (s.d2Reset.imgStart [2]).learnRestore
  else ((s.d3Reset.imgStart [3, 0x80]).partStart true 16).replayJournal

/-- The safety section's answer: every pair stops and the brakes of SAFE_STOP_BRK set; a unit strapped Single is in SAFE-STOP. R11, R435. -/
def State.lockstepStop (s : State) : State :=
  if ¬ s.dom 4 then s
  else if s.red.unit = 3 ∧ s.sys.mode ≠ .keep then
    (s.safeStopEnter true false).processStop 15
  else
    let set (x : SafeSt) : SafeSt := four.foldl (fun x b => if x.stopBrk.testBit (b - 1) then x.modBrake b (fun k => { k with setReq := true, autoReq := false }) else x) x
    (s.modSafe set).processStop 15

/-- A lockstep mismatch of APP-0 (domain 2) or APP-1 (domain 3). R11. -/
def State.lockstep (s : State) (d : Nat) : State :=
  if ¬ s.dom d then s
  else
    let single : Bool := s.red.unit = 3 && s.sys.mode ≠ .keep
    let inStop : Bool := s.sys.mode = .safeStop
    let s := (s.giveUp 16 true).event .LOCKSTEP_MISMATCH [wN (d - 2)]
    let s := s.lockstepStop.appRestart d
    if single ∧ ¬ inStop then State.setMode { s with sys := { s.sys with safeStopBy := 1 } } .safeStop 16 else s

/-- A lockstep mismatch. R11. -/
def execLockstepMismatch (t : Nat) (app1 : Bool) (s : State) : Res := .next ((s.arrive t).lockstep (if app1 then 3 else 2))

/-! ### DRAM (R13, R14) -/

/-- Whether a processor reaches a DRAM address. APP-1 and the partition share D3; the model gives each of the two regions to the one the
table of R13 names, so APP-1 does not reach the integrator region (DESIGN CHOICE, log 105). R13. -/
def dramMay (who : Who) (a : Nat) : Bool :=
  match who with
  | .app0 => between dramLo a 0xFFFFFFFF || between sharedLo a sharedHi
  | .app1 => between app1Lo a app1Hi || between sharedLo a sharedHi
  | .part => between partLo a partHi
  | .safeP => false
  | .dma => true

/-- A processor access outside its regions: a bus error and a record; the partition's are those of R19. An access the regions admit is no
violation, and DMA, which is no processor, ends its descriptor instead. R13, R19, R514. -/
def execDramRegionViolation (t : Nat) (who : Who) (addr : Nat) (s : State) : Res :=
  let s := s.arrive t
  guardUnit (between dramLo addr dramHi) addr <|
    if ¬ s.dom 1 ∨ dramMay who addr then s
    else
      match who with
      | .part => if s.part.running then s.partViolation addr else s
      | _ => (s.event .DRAM_VIOLATION [wN addr, wN (addr / 2 ^ 32)]).busErr who addr

/-- What an uncorrectable error in the shared or integrator region fails: a processor's access with a bus error, a DMA transfer with BUSERR,
a cluster's problem, which ends ABSENT as R223 has it for operands that cannot be read (DEDUCED, log 105). R14, spec/17 R514. -/
def State.eccFails (s : State) (addr : Nat) (m : EccMeet) : State :=
  match m with
  | .none_ => s
  | .core w => s.busErr w addr
  | .dma n => (match (s.dch n).desc with
    | some d => if (s.dch n).state = 2 then s.dmaBusErr n d else s
    | none => s)
  | .hen i => (match (s.cl i).run with
    | some r => (((s.modCl i (fun c => { c with run := none })).lose i r hfMemerr).henGo).henSettle
    | none => s)

/-- An error of the DRAM: corrected and counted; not correctable, a lockstep mismatch of the pair whose region it is, or a record and the
failure of what met it. R14. -/
def execDramEccError (t addr : Nat) (corrected : Bool) (s : State) (met : EccMeet := .none_) : Res :=
  let s := s.arrive t
  guardUnit (between dramLo addr dramHi) addr <|
    if ¬ s.dom 1 then s
    else if corrected then { s with dram := { s.dram with eccCorrected := s.dram.eccCorrected + 1 } }
    else if addr < app1Lo then s.lockstep 2
    else if addr ≤ app1Hi then s.lockstep 3
    else (s.event .DRAM_ECC_UNCORR [wN addr, wN (addr / 2 ^ 32)]).eccFails addr met

/-! ### The end of RESTORE (R559, R560, R564, R574) -/

/-- Whether a domain has failed to start: named so, found so before, without a valid image, or in need of one that failed. R22, R560. -/
def State.startFails (s : State) (failed d : Nat) : Bool :=
  let bad (k : Nat) : Bool := failed.testBit k || s.sys.failedDom.testBit k || !s.imgStarts k
  bad d || (domNeeds d).any bad

/-- A domain that failed: off, drained and recorded; its image falls back. R560, R582, R591. -/
def State.domFailed (s : State) (d : Nat) : State :=
  let s := if s.sys.failedDom.testBit d then s else s.imgFallback d
  State.raiseAlarm { s.domDown d with sys := { (s.domDown d).sys with failedDom := s.sys.failedDom ||| 2 ^ d } } .DOMAIN_FAILED d

/-- The mode RESTORE ends in. R560, R573, R574. -/
def State.restoreEnd (s : State) : State :=
  let f := s.sys.failedDom
  if s.cfg.base ∨ s.alarmOn .KEEP_DATA_LOST ∨ [1, 2, 3, 4, 5, 9].any f.testBit then s.setMode .commission 26
  else if s.serviceStays then State.setMode { s with sys := { s.sys with before := .standby } } .service 26
  else s.setMode .standby 26

/-- RESTORE ends: the domains that start are up, the others drained, the journal is handled, and conditions still present raise their alarms.
R355, R559, R560, R565. -/
def State.restored (s : State) (failed : Nat) : State :=
  let bad := allDoms.filter (s.startFails failed)
  let s := bad.foldl State.domFailed (s.allUp (allDoms.filter (fun d => !bad.contains d)))
  let s := s.sys.images.foldl (fun (s : State) (x : ImgSt) => if x.fellBack then s.raiseAlarm .IMG_FALLBACK x.domain else s) s
  let s := if s.dom 3 then s.replayJournal else s
  s.safeAlarms.keepAlarms.restoreEnd

/-- RESTORE ends. `failed` has bit n set for a domain that has failed to start. R560. -/
def execRestoreComplete (t failed : Nat) (s : State) : Res :=
  let s := s.arrive t
  .next (if s.sys.mode = .restore ∧ s.keep.d0On ∧ s.keep.resetHeld.isNone then s.restored failed else s)

end Sys2Proof.Machine
end

