-- ==== Sys2Proof/Machine/Regs.lean ====
section
/-!
DEFINITION. Accesses to the register window, accesses of the partition that are refused, and the capture of a snapshot, which reads
registers (spec/00 R8, spec/01 R19, spec/18 R527).
-/
namespace Sys2Proof.Machine

/-- A write of a register. R8, R19. -/
def execRegisterWrite (t : Nat) (who : Who) (addr : Nat) (v : Word) (s : State) : Res :=
  let s := s.arrive t
  guardUnit (inWin addr) addr <|
    if s.mayReg who (addr - winLo) true then s.regWrite who (addr - winLo) v else s.regRefused who addr

/-- A read of a register: its data are returned, its RS fields clear. R8, R19. -/
def execStickyRegisterRead (t : Nat) (who : Who) (addr : Nat) (s : State) : Res :=
  let s := s.arrive t
  guardUnit (inWin addr) addr <|
    if s.mayReg who (addr - winLo) false then s.regReply who (addr - winLo) else s.regRefused who addr

/-- An access of the running partition outside R18. Where the address admits one of the two accesses, the command does not say which it
was, and it is taken as the other. An address the partition has full access to is no violation. R19. -/
def execPartitionAccessViolation (t addr : Nat) (s : State) : Res :=
  let s := s.arrive t
  let full : Bool := between partLo addr partHi ||
    (inWin addr && s.partReads (addr - winLo) && s.partWrites (addr - winLo))
  .next (if s.part.running ∧ s.dom 3 ∧ ¬ full then s.partViolation addr else s)

/-! ### Snapshots (R527–R530) -/

/-- An item of a snapshot: a point of the fenced set, or a register read by APP-1, unreadable where its domain is off. R527, R528. -/
def State.snapItem (s : State) (w : Nat) : (Nat × Bool × List Byte) × State :=
  if w.testBit 31 then
    let off := w % 2 ^ 28
    if s.dom (regBlock off).2 then
      let r := s.regGet .app1 off
      ((w, true, leBytes 4 r.1.toNat ++ zeros 28), r.2)
    else ((w, false, zeros 32), s)
  else ((w, true, (s.fpoint (w % 2 ^ 17)).bytes), s)

/-- The items of a snapshot in list order. R527. -/
def State.snapItems (s : State) : List Nat → List (Nat × Bool × List Byte) × State
  | [] => ([], s)
  | w :: t =>
    let r := s.snapItem w
    let rest := r.2.snapItems t
    (r.1 :: rest.1, rest.2)

/-- One snapshot captured, and written, held in RAM during a freeze, or dropped; a write whose comparison fails twice stops the snapshots.
R527–R530, R535, R540. -/
def State.captureSnap (s : State) (bad : Bool) (p : Nat × Word × Nat × Nat) : State :=
  let (trig, q, sev, _) := p
  if s.log.state = 2 ∨ s.log.snapFault then { s with log := s.log.missSnap }
  else
    let its := s.snapItems (((s.parL .LOG_SNAP_LIST trig).take 256).map natOf)
    let s := its.2
    let x : Snap := {
      recSeq := q, num := s.log.snapNum + 1, trig := trig, sev := sev, pcycle := s.keep.pcycle, optime := s.optime
      frame := s.frame.number, items := its.1 }
    let l : Option LogSt :=
      if s.log.state = 1 then
        (if s.log.frozenSnaps.length < 16 then some { s.log with frozenSnaps := s.log.frozenSnaps ++ [x] } else none)
      else s.log.placeSnap x
    if bad ∧ s.log.state = 0 then State.raiseAlarm { s with log := { s.log.missSnap with snapFault := true } } .LOG_SNAP_FAULT
    else match l with
    | some l => { s with log := { l with snapNum := x.num } }
    | none => { s with log := s.log.missSnap }

/-- The window from F+16 to F+19 ms: the snapshots of trigger records released before it began are captured; `fails`
comparisons of a write fail. R527, R540. -/
def execLogSnapshotCapture (t : Nat) (s : State) (fails : Nat := 0) : Res :=
  let s := s.arrive t
  let w := s.frame.startAt + 16000000
  if ¬ (s.dom 1 ∧ s.dom 3 ∧ s.frame.running ∧ between w s.now (s.frame.startAt + 19000000)) then .next s
  else
    let due := s.log.trigPend.filter (fun p => p.2.2.2 ≤ w)
    let s : State := { s with log := { s.log with trigPend := s.log.trigPend.filter (fun p => ¬ p.2.2.2 ≤ w) } }
    .next (due.foldl (fun s p => s.captureSnap (2 ≤ fails) p) s)

end Sys2Proof.Machine
end

