-- ==== Sys2Proof/Machine/Dispatch.lean ====
section
/-!
DEFINITION. Dispatch: one arm for each command, each one direct call of its meaning.
-/
namespace Sys2Proof.Machine

/-- The effect of a command on everything but the queue. -/
def exec (i : Instr) (s : State) : Host.Outcome State Fault Refusal :=
  match i with
  | .commandPacket t iface addr port bytes => Sys2Proof.Machine.execCommandPacket t iface addr port bytes s
  | .seqGapTimeout t sess => Sys2Proof.Machine.execSeqGapTimeout t sess s
  | .journalPeerAck t jnum => Sys2Proof.Machine.execJournalPeerAck t jnum s
  | .journalMirrorTimeout t jnum => Sys2Proof.Machine.execJournalMirrorTimeout t jnum s
  | .journalResyncComplete t held => Sys2Proof.Machine.execJournalResyncComplete t held s
  | .commandCompletion t sess seq status p => Sys2Proof.Machine.execCommandCompletion t sess seq status p s
  | .sessionDormant t sess => Sys2Proof.Machine.execSessionDormant t sess s
  | .sessionReclaim t sess => Sys2Proof.Machine.execSessionReclaim t sess s
  | .sysQuery t sess seq p => Sys2Proof.Machine.execSysQuery t sess seq p s
  | .getSurvey t sess seq p => Sys2Proof.Machine.execGetSurvey t sess seq p s
  | .setMode t sess seq p => Sys2Proof.Machine.execSetMode t sess seq p s
  | .sessionQuery t sess seq p => Sys2Proof.Machine.execSessionQuery t sess seq p s
  | .openSession t iface addr port client sess auth p => Sys2Proof.Machine.execOpenSession t iface addr port client sess auth p s
  | .closeSession t sess seq p => Sys2Proof.Machine.execCloseSession t sess seq p s
  | .keepalive t sess seq p => Sys2Proof.Machine.execKeepalive t sess seq p s
  | .journalQuery t sess seq p => Sys2Proof.Machine.execJournalQuery t sess seq p s
  | .cfgQuery t sess seq p => Sys2Proof.Machine.execCfgQuery t sess seq p s
  | .cfgStage t sess seq p => Sys2Proof.Machine.execCfgStage t sess seq p s
  | .cfgValidate t sess seq p => Sys2Proof.Machine.execCfgValidate t sess seq p s
  | .cfgCommit t sess seq p => Sys2Proof.Machine.execCfgCommit t sess seq p s
  | .cfgFactory t sess seq p => Sys2Proof.Machine.execCfgFactory t sess seq p s
  | .cfgFromPeer t sess seq p => Sys2Proof.Machine.execCfgFromPeer t sess seq p s
  | .holdSelectFunction t sess seq p => Sys2Proof.Machine.execHoldSelectFunction t sess seq p s
  | .holdSetSetpoint t sess seq p => Sys2Proof.Machine.execHoldSetSetpoint t sess seq p s
  | .holdSetEnd t sess seq p => Sys2Proof.Machine.execHoldSetEnd t sess seq p s
  | .holdBprSet t sess seq p => Sys2Proof.Machine.execHoldBprSet t sess seq p s
  | .holdStatus t sess seq p => Sys2Proof.Machine.execHoldStatus t sess seq p s
  | .refSelect t sess seq p => Sys2Proof.Machine.execRefSelect t sess seq p s
  | .refQuery t sess seq p => Sys2Proof.Machine.execRefQuery t sess seq p s
  | .refRetry t sess seq p => Sys2Proof.Machine.execRefRetry t sess seq p s
  | .estReinit t sess seq p => Sys2Proof.Machine.execEstReinit t sess seq p s
  | .alcSelect t sess seq p => Sys2Proof.Machine.execAlcSelect t sess seq p s
  | .alcSetBerm t sess seq p => Sys2Proof.Machine.execAlcSetBerm t sess seq p s
  | .alcQuery t sess seq p => Sys2Proof.Machine.execAlcQuery t sess seq p s
  | .alcLearnReset t sess seq p => Sys2Proof.Machine.execAlcLearnReset t sess seq p s
  | .thrQuery t sess seq p => Sys2Proof.Machine.execThrQuery t sess seq p s
  | .thrClear t sess seq p => Sys2Proof.Machine.execThrClear t sess seq p s
  | .thrEnable t sess seq p => Sys2Proof.Machine.execThrEnable t sess seq p s
  | .cqaQuery t sess seq p => Sys2Proof.Machine.execCqaQuery t sess seq p s
  | .cqaCaseQuery t sess seq p => Sys2Proof.Machine.execCqaCaseQuery t sess seq p s
  | .cqaCaseEnable t sess seq p => Sys2Proof.Machine.execCqaCaseEnable t sess seq p s
  | .cqaWhatif t sess seq p => Sys2Proof.Machine.execCqaWhatif t sess seq p s
  | .whatifDeadline t sess seq => Sys2Proof.Machine.execWhatifDeadline t sess seq s
  | .timeQuery t sess seq p => Sys2Proof.Machine.execTimeQuery t sess seq p s
  | .timeSelect t sess seq p => Sys2Proof.Machine.execTimeSelect t sess seq p s
  | .timePulse t sess seq p => Sys2Proof.Machine.execTimePulse t sess seq p s
  | .timeStepAllow t sess seq p => Sys2Proof.Machine.execTimeStepAllow t sess seq p s
  | .canQuery t sess seq p => Sys2Proof.Machine.execCanQuery t sess seq p s
  | .busRecover t sess seq p => Sys2Proof.Machine.execBusRecover t sess seq p s
  | .canRateDetect t sess seq p => Sys2Proof.Machine.execCanRateDetect t sess seq p s
  | .canNodeList t sess seq p => Sys2Proof.Machine.execCanNodeList t sess seq p s
  | .serQuery t sess seq p => Sys2Proof.Machine.execSerQuery t sess seq p s
  | .pointRead t sess seq p => Sys2Proof.Machine.execPointRead t sess seq p s
  | .pointWrite t sess seq p => Sys2Proof.Machine.execPointWrite t sess seq p s
  | .pointForce t sess seq p => Sys2Proof.Machine.execPointForce t sess seq p s
  | .pointUnforce t sess seq p => Sys2Proof.Machine.execPointUnforce t sess seq p s
  | .pointSubscribe t sess seq p => Sys2Proof.Machine.execPointSubscribe t sess seq p s
  | .pointUnsubscribe t sess seq p => Sys2Proof.Machine.execPointUnsubscribe t sess seq p s
  | .producerList t sess seq p => Sys2Proof.Machine.execProducerList t sess seq p s
  | .pointNotify t sub => Sys2Proof.Machine.execPointNotify t sub s
  | .fioQuery t sess seq p => Sys2Proof.Machine.execFioQuery t sess seq p s
  | .fioSet t sess seq p => Sys2Proof.Machine.execFioSet t sess seq p s
  | .fioPulse t sess seq p => Sys2Proof.Machine.execFioPulse t sess seq p s
  | .fioClear t sess seq p => Sys2Proof.Machine.execFioClear t sess seq p s
  | .fioGroupRestore t sess seq p => Sys2Proof.Machine.execFioGroupRestore t sess seq p s
  | .logFreeze t sess seq p => Sys2Proof.Machine.execLogFreeze t sess seq p s
  | .logThaw t sess seq p => Sys2Proof.Machine.execLogThaw t sess seq p s
  | .logRead t sess seq p => Sys2Proof.Machine.execLogRead t sess seq p s
  | .logSnapRead t sess seq p => Sys2Proof.Machine.execLogSnapRead t sess seq p s
  | .logCodes t sess seq p => Sys2Proof.Machine.execLogCodes t sess seq p s
  | .logExport t sess seq p => Sys2Proof.Machine.execLogExport t sess seq p s
  | .logSpillEnd t sess seq p => Sys2Proof.Machine.execLogSpillEnd t sess seq p s
  | .safeQuery t sess seq p => Sys2Proof.Machine.execSafeQuery t sess seq p s
  | .safeReset t sess seq p => Sys2Proof.Machine.execSafeReset t sess seq p s
  | .safeBrakeTest t sess seq p => Sys2Proof.Machine.execSafeBrakeTest t sess seq p s
  | .safeCfgRead t sess seq p => Sys2Proof.Machine.execSafeCfgRead t sess seq p s
  | .safeCfgConfirm t sess seq p => Sys2Proof.Machine.execSafeCfgConfirm t sess seq p s
  | .safeStop t sess seq p => Sys2Proof.Machine.execSafeStop t sess seq p s
  | .redQuery t sess seq p => Sys2Proof.Machine.execRedQuery t sess seq p s
  | .roleRotate t sess seq p => Sys2Proof.Machine.execRoleRotate t sess seq p s
  | .wardenPromote t sess seq p => Sys2Proof.Machine.execWardenPromote t sess seq p s
  | .wardenRelease t sess seq p => Sys2Proof.Machine.execWardenRelease t sess seq p s
  | .imgStage t sess seq p => Sys2Proof.Machine.execImgStage t sess seq p s
  | .imgVerify t sess seq p => Sys2Proof.Machine.execImgVerify t sess seq p s
  | .imgActivate t sess seq p => Sys2Proof.Machine.execImgActivate t sess seq p s
  | .domainDrain t sess seq p => Sys2Proof.Machine.execDomainDrain t sess seq p s
  | .domainRestore t sess seq p => Sys2Proof.Machine.execDomainRestore t sess seq p s
  | .domainOff t dom => Sys2Proof.Machine.execDomainOff t dom s
  | .domainRunning t dom => Sys2Proof.Machine.execDomainRunning t dom s
  | .sysRestart t sess seq p => Sys2Proof.Machine.execSysRestart t sess seq p s
  | .sysRestartDelayEnd t => Sys2Proof.Machine.execSysRestartDelayEnd t s
  | .keyWrite t sess seq p => Sys2Proof.Machine.execKeyWrite t sess seq p s
  | .henSubmit t sess seq p => Sys2Proof.Machine.execHenSubmit t sess seq p s
  | .henStatus t sess seq p => Sys2Proof.Machine.execHenStatus t sess seq p s
  | .henCancel t sess seq p => Sys2Proof.Machine.execHenCancel t sess seq p s
  | .satQuery t sess seq p => Sys2Proof.Machine.execSatQuery t sess seq p s
  | .satRestart t sess seq p => Sys2Proof.Machine.execSatRestart t sess seq p s
  | .satIntegrityReset t sess seq p => Sys2Proof.Machine.execSatIntegrityReset t sess seq p s
  | .satTimeAccept t sess seq p => Sys2Proof.Machine.execSatTimeAccept t sess seq p s
  | .satExclude t sess seq p => Sys2Proof.Machine.execSatExclude t sess seq p s
  | .satAntBias t sess seq p => Sys2Proof.Machine.execSatAntBias t sess seq p s
  | .registerWrite t who addr v => Sys2Proof.Machine.execRegisterWrite t who addr v s
  | .stickyRegisterRead t who addr => Sys2Proof.Machine.execStickyRegisterRead t who addr s
  | .partitionAccessViolation t addr => Sys2Proof.Machine.execPartitionAccessViolation t addr s
  | .dramRegionViolation t who addr => Sys2Proof.Machine.execDramRegionViolation t who addr s
  | .dramEccError t addr corrected met => Sys2Proof.Machine.execDramEccError t addr corrected s met
  | .lockstepMismatch t app1 => Sys2Proof.Machine.execLockstepMismatch t app1 s
  | .partitionSliceEnd t used => Sys2Proof.Machine.execPartitionSliceEnd t used s
  | .partitionFault t cause => Sys2Proof.Machine.execPartitionFault t cause s
  | .partitionWatchdogExpiry t => Sys2Proof.Machine.execPartitionWatchdogExpiry t s
  | .frameStart t => Sys2Proof.Machine.execFrameStart t s
  | .estimationDeadline t ended => Sys2Proof.Machine.execEstimationDeadline t ended s
  | .allocSubmitInstant t => Sys2Proof.Machine.execAllocSubmitInstant t s
  | .allocationCompose t chans => Sys2Proof.Machine.execAllocationCompose t chans s
  | .sealWindowClose t => Sys2Proof.Machine.execSealWindowClose t s
  | .commitInstant t => Sys2Proof.Machine.execCommitInstant t s
  | .frameMirrorSend t => Sys2Proof.Machine.execFrameMirrorSend t s
  | .frameMirrorReceived t m => Sys2Proof.Machine.execFrameMirrorReceived t m s
  | .frameClockStep t vc => Sys2Proof.Machine.execFrameClockStep t vc s
  | .refTimeoutExpiry t slot => Sys2Proof.Machine.execRefTimeoutExpiry t slot s
  | .refTrialComplete t slot => Sys2Proof.Machine.execRefTrialComplete t slot s
  | .estDrLimitExpiry t hdg => Sys2Proof.Machine.execEstDrLimitExpiry t hdg s
  | .estPeerDiffCount t => Sys2Proof.Machine.execEstPeerDiffCount t s
  | .mpcFailCount t => Sys2Proof.Machine.execMpcFailCount t s
  | .mpcOkCount t => Sys2Proof.Machine.execMpcOkCount t s
  | .joyCentreRelease t => Sys2Proof.Machine.execJoyCentreRelease t s
  | .excursionClearTimer t alarm => Sys2Proof.Machine.execExcursionClearTimer t alarm s
  | .bprContactDetected t => Sys2Proof.Machine.execBprContactDetected t s
  | .bprContactTimeout t => Sys2Proof.Machine.execBprContactTimeout t s
  | .bprContactLoss t => Sys2Proof.Machine.execBprContactLoss t s
  | .powerEnvelopeMessage t port sof frame => Sys2Proof.Machine.execPowerEnvelopeMessage t port sof frame s
  | .pwrSourceStale t sec => Sys2Proof.Machine.execPwrSourceStale t sec s
  | .pwrFreshCountReached t sec => Sys2Proof.Machine.execPwrFreshCountReached t sec s
  | .pwrLimitCount t sec => Sys2Proof.Machine.execPwrLimitCount t sec s
  | .alcRepeatLimitReached t => Sys2Proof.Machine.execAlcRepeatLimitReached t s
  | .alcSatTimer t => Sys2Proof.Machine.execAlcSatTimer t s
  | .learnedModelSave t => Sys2Proof.Machine.execLearnedModelSave t s
  | .learnedModelMirror t => Sys2Proof.Machine.execLearnedModelMirror t s
  | .cqaAlarmDelayReached t k => Sys2Proof.Machine.execCqaAlarmDelayReached t k s
  | .cqaClearTimeReached t k => Sys2Proof.Machine.execCqaClearTimeReached t k s
  | .cqaUnprovenDelayReached t => Sys2Proof.Machine.execCqaUnprovenDelayReached t s
  | .capabilityEnvelopePeriod t => Sys2Proof.Machine.execCapabilityEnvelopePeriod t s
  | .capabilityEnvelopeEnd t => Sys2Proof.Machine.execCapabilityEnvelopeEnd t s
  | .henSubHiWrite t q who v => Sys2Proof.Machine.execHenSubHiWrite t q who v s
  | .henProblemEnd t cl both => Sys2Proof.Machine.execHenProblemEnd t cl s both
  | .henSuspensionPoint t cl both => Sys2Proof.Machine.execHenSuspensionPoint t cl s both
  | .henJobDeadline t q id ends => Sys2Proof.Machine.execHenJobDeadline t q id s ends
  | .henQCancelWrite t q tag ends => Sys2Proof.Machine.execHenQCancelWrite t q tag s ends
  | .henQEnClear t q => Sys2Proof.Machine.execHenQEnClear t q s
  | .henQPop t q => Sys2Proof.Machine.execHenQPop t q s
  | .henClusterEnClear t cl => Sys2Proof.Machine.execHenClusterEnClear t cl s
  | .henSramError t cl corrected => Sys2Proof.Machine.execHenSramError t cl corrected s
  | .henClusterStop t cl => Sys2Proof.Machine.execHenClusterStop t cl s
  | .henDrainDone t cl => Sys2Proof.Machine.execHenDrainDone t cl s
  | .sequencerSlice t c inp => Sys2Proof.Machine.execSequencerSlice t c inp s
  | .thrSealWrite t c => Sys2Proof.Machine.execThrSealWrite t c s
  | .thrShadowWrite t c reg v => Sys2Proof.Machine.execThrShadowWrite t c reg v s
  | .thrWithdraw t c => Sys2Proof.Machine.execThrWithdraw t c s
  | .thrCtrlClear t c => Sys2Proof.Machine.execThrCtrlClear t c s
  | .thrCtrlEnWrite t c en => Sys2Proof.Machine.execThrCtrlEnWrite t c en s
  | .thrAuthWrite t on => Sys2Proof.Machine.execThrAuthWrite t on s
  | .thrAoHoldExpiry t => Sys2Proof.Machine.execThrAoHoldExpiry t s
  | .thrFeedbackFrame t port sof frame => Sys2Proof.Machine.execThrFeedbackFrame t port sof frame s
  | .thrFeedback2Frame t port sof frame => Sys2Proof.Machine.execThrFeedback2Frame t port sof frame s
  | .thrFbTimeout t c => Sys2Proof.Machine.execThrFbTimeout t c s
  | .thrAzFollowExpiry t c => Sys2Proof.Machine.execThrAzFollowExpiry t c s
  | .thrAzWrongDirExpiry t c => Sys2Proof.Machine.execThrAzWrongDirExpiry t c s
  | .thrRudderFollowExpiry t c => Sys2Proof.Machine.execThrRudderFollowExpiry t c s
  | .thrTHighExpiry t c => Sys2Proof.Machine.execThrTHighExpiry t c s
  | .thrTDevExpiry t c => Sys2Proof.Machine.execThrTDevExpiry t c s
  | .thrAngDisagreeExpiry t c => Sys2Proof.Machine.execThrAngDisagreeExpiry t c s
  | .thrNotReadyRecovery t c => Sys2Proof.Machine.execThrNotReadyRecovery t c s
  | .thrDegradedRecovery t c => Sys2Proof.Machine.execThrDegradedRecovery t c s
  | .satEpoch t obs => Sys2Proof.Machine.execSatEpoch t obs s
  | .satSecondChecks t obs => Sys2Proof.Machine.execSatSecondChecks t obs s
  | .satSignalAcquired t id elev => Sys2Proof.Machine.execSatSignalAcquired t id elev s
  | .satChannelRelease t id => Sys2Proof.Machine.execSatChannelRelease t id s
  | .rtcmFrame t via bytes => Sys2Proof.Machine.execRtcmFrame t via s bytes
  | .antOpenDetect t a => Sys2Proof.Machine.execAntOpenDetect t a s
  | .antShort t a => Sys2Proof.Machine.execAntShort t a s
  | .antBiasRetry t a ok => Sys2Proof.Machine.execAntBiasRetry t a ok s
  | .antGeometryExclude t a => Sys2Proof.Machine.execAntGeometryExclude t a s
  | .satHoldoverEntry t => Sys2Proof.Machine.execSatHoldoverEntry t s
  | .satReturnConfirmed t => Sys2Proof.Machine.execSatReturnConfirmed t s
  | .satTimeStep t => Sys2Proof.Machine.execSatTimeStep t s
  | .satSlewComplete t => Sys2Proof.Machine.execSatSlewComplete t s
  | .satPps t => Sys2Proof.Machine.execSatPps t s
  | .satWake t => Sys2Proof.Machine.execSatWake t s
  | .satWakeEnd t => Sys2Proof.Machine.execSatWakeEnd t s
  | .satRetainedWrite t => Sys2Proof.Machine.execSatRetainedWrite t s
  | .ptpSyncReceived t n port dom sender log origin corr => Sys2Proof.Machine.execPtpSyncReceived t n port dom sender log s origin corr
  | .ptpDelayResponse t n delay => Sys2Proof.Machine.execPtpDelayResponse t n delay s
  | .ptpAnnounceReceived t port msg => Sys2Proof.Machine.execPtpAnnounceReceived t port msg s
  | .ptpAnnounceTimeout t n port => Sys2Proof.Machine.execPtpAnnounceTimeout t n port s
  | .ptpSyncTimeout t n => Sys2Proof.Machine.execPtpSyncTimeout t n s
  | .ppsInEdge t => Sys2Proof.Machine.execPpsInEdge t s
  | .vcLock t n => Sys2Proof.Machine.execVcLock t n s
  | .vcStep t n => Sys2Proof.Machine.execVcStep t n s
  | .frameRevertTimer t => Sys2Proof.Machine.execFrameRevertTimer t s
  | .fallbackReturnTimer t n => Sys2Proof.Machine.execFallbackReturnTimer t n s
  | .tmuCtrlWrite t v => Sys2Proof.Machine.execTmuCtrlWrite t v s
  | .tmuIncrWrite t v => Sys2Proof.Machine.execTmuIncrWrite t v s
  | .timeLoRead t who which => Sys2Proof.Machine.execTimeLoRead t who which s
  | .captureEvent t source rising => Sys2Proof.Machine.execCaptureEvent t source rising s
  | .captureEntryAged t f => Sys2Proof.Machine.execCaptureEntryAged t f s
  | .capFifoData0Read t f => Sys2Proof.Machine.execCapFifoData0Read t f s
  | .capFifoData1Read t f => Sys2Proof.Machine.execCapFifoData1Read t f s
  | .pulseArm t k v => Sys2Proof.Machine.execPulseArm t k v s
  | .pulseDisarm t k => Sys2Proof.Machine.execPulseDisarm t k s
  | .pulseOutputFire t k => Sys2Proof.Machine.execPulseOutputFire t k s
  | .pulseWidthEnd t k => Sys2Proof.Machine.execPulseWidthEnd t k s
  | .producerWrite t p src value ts => Sys2Proof.Machine.execProducerWrite t p src value ts s
  | .producerTimeout t k => Sys2Proof.Machine.execProducerTimeout t k s
  | .pointTimeout t p => Sys2Proof.Machine.execPointTimeout t p s
  | .pntWrGo t => Sys2Proof.Machine.execPntWrGo t s
  | .heartbeatSend t => Sys2Proof.Machine.execHeartbeatSend t s
  | .heartbeatReceived t path bytes => Sys2Proof.Machine.execHeartbeatReceived t path bytes s
  | .heartbeatMissCheck t => Sys2Proof.Machine.execHeartbeatMissCheck t s
  | .leaseGrantReceived t path bytes => Sys2Proof.Machine.execLeaseGrantReceived t path bytes s
  | .leaseHolderExpiry t => Sys2Proof.Machine.execLeaseHolderExpiry t s
  | .leaseExpiryW t => Sys2Proof.Machine.execLeaseExpiryW t s
  | .leaseGuardEnd t => Sys2Proof.Machine.execLeaseGuardEnd t s
  | .takeoverCheckEnd t => Sys2Proof.Machine.execTakeoverCheckEnd t s
  | .rotationRelease t => Sys2Proof.Machine.execRotationRelease t s
  | .roleRelayFaultDetect t k => Sys2Proof.Machine.execRoleRelayFaultDetect t k s
  | .rotateDueReached t => Sys2Proof.Machine.execRotateDueReached t s
  | .uidStrapChange t v => Sys2Proof.Machine.execUidStrapChange t v s
  | .safeInputEdge t n chB closed => Sys2Proof.Machine.execSafeInputEdge t n chB closed s
  | .testPulseCheck t n chB cross => Sys2Proof.Machine.execTestPulseCheck t n chB cross s
  | .discrepancyExpiry t n => Sys2Proof.Machine.execDiscrepancyExpiry t n s
  | .safePCycle t speeds => Sys2Proof.Machine.execSafePCycle t speeds s
  | .safeWatchdogExpiry t => Sys2Proof.Machine.execSafeWatchdogExpiry t s
  | .safePathDisagree t => Sys2Proof.Machine.execSafePathDisagree t s
  | .safePLockstepMismatch t => Sys2Proof.Machine.execSafePLockstepMismatch t s
  | .processStopRequest t mask fromPeer => Sys2Proof.Machine.execProcessStopRequest t mask fromPeer s
  | .stsDelayExpiry t p => Sys2Proof.Machine.execStsDelayExpiry t p s
  | .stsOffPulse t p chB fell => Sys2Proof.Machine.execStsOffPulse t p chB fell s
  | .brakeSetSpeedReached t b => Sys2Proof.Machine.execBrakeSetSpeedReached t b s
  | .brakeTestDue t b => Sys2Proof.Machine.execBrakeTestDue t b s
  | .brakeTestThrust t b => Sys2Proof.Machine.execBrakeTestThrust t b s
  | .brakeTestThrustEnd t b => Sys2Proof.Machine.execBrakeTestThrustEnd t b s
  | .brakeTestResult t b rotP rotL => Sys2Proof.Machine.execBrakeTestResult t b rotP rotL s
  | .sltViolation t j => Sys2Proof.Machine.execSltViolation t j s
  | .safetyOutputFault t out => Sys2Proof.Machine.execSafetyOutputFault t out s
  | .safetyEncoderFault t k present => Sys2Proof.Machine.execSafetyEncoderFault t k present s
  | .ssupLow t => Sys2Proof.Machine.execSsupLow t s
  | .safetyStartTest t setOk bankOk mask => Sys2Proof.Machine.execSafetyStartTest t setOk s bankOk mask
  | .fioInputEdge t c began volts mA => Sys2Proof.Machine.execFioInputEdge t c began s volts mA
  | .fioWireBreak t c mA => Sys2Proof.Machine.execFioWireBreak t c s mA
  | .fioWireBreakClear t c since mA => Sys2Proof.Machine.execFioWireBreakClear t c s since mA
  | .fioOutputSample t c volts mA => Sys2Proof.Machine.execFioOutputSample t c volts mA s
  | .fioOvercurrentRetry t c => Sys2Proof.Machine.execFioOvercurrentRetry t c s
  | .fioGroupOverload t g => Sys2Proof.Machine.execFioGroupOverload t g s
  | .fioSupplyStateChange t g since volt => Sys2Proof.Machine.execFioSupplyStateChange t g since s volt
  | .fioRestoreSwitch t g => Sys2Proof.Machine.execFioRestoreSwitch t g s
  | .fioPulseEnd t c => Sys2Proof.Machine.execFioPulseEnd t c s
  | .canFrameReceived t port sof frame => Sys2Proof.Machine.execCanFrameReceived t port sof frame s
  | .canTimedFrameDue t port box idle => Sys2Proof.Machine.execCanTimedFrameDue t port box s idle
  | .canTxAttemptEnd t port outcome => Sys2Proof.Machine.execCanTxAttemptEnd t port outcome s
  | .canFrameExpiry t port box => Sys2Proof.Machine.execCanFrameExpiry t port box s
  | .canBusOff t port => Sys2Proof.Machine.execCanBusOff t port s
  | .canRecoverComplete t port => Sys2Proof.Machine.execCanRecoverComplete t port s
  | .canRecoverTimeout t port => Sys2Proof.Machine.execCanRecoverTimeout t port s
  | .canDetectDwellEnd t port => Sys2Proof.Machine.execCanDetectDwellEnd t port s
  | .canNodeForget t port node => Sys2Proof.Machine.execCanNodeForget t port node s
  | .serialSentence t port start charErr bytes => Sys2Proof.Machine.execSerialSentence t port start charErr bytes s
  | .serialBinaryFrame t port start charErr bytes => Sys2Proof.Machine.execSerialBinaryFrame t port start charErr bytes s
  | .iec450Datagram t group addr port bytes => Sys2Proof.Machine.execIec450Datagram t group addr port bytes s
  | .serialTxSentence t port kind => Sys2Proof.Machine.execSerialTxSentence t port kind s
  | .dmaStart t ch => Sys2Proof.Machine.execDmaStart t ch s
  | .dmaEnClear t ch => Sys2Proof.Machine.execDmaEnClear t ch s
  | .dmaTrigger t kind => Sys2Proof.Machine.execDmaTrigger t kind s
  | .dmaDescriptorEnd t ch busErr => Sys2Proof.Machine.execDmaDescriptorEnd t ch busErr s
  | .logRecordSubmit t code cls params cap => Sys2Proof.Machine.execLogRecordSubmit t code cls params cap s
  | .logRecordRelease t fails => Sys2Proof.Machine.execLogRecordRelease t s fails
  | .logSnapshotCapture t fails => Sys2Proof.Machine.execLogSnapshotCapture t s fails
  | .logFreezeTimeout t => Sys2Proof.Machine.execLogFreezeTimeout t s
  | .logRdGo t who v sound => Sys2Proof.Machine.execLogRdGo t who v s sound
  | .logOptimeLoRead t who => Sys2Proof.Machine.execLogOptimeLoRead t who s
  | .supplyLowEntry t vla vlb => Sys2Proof.Machine.execSupplyLowEntry t vla vlb s
  | .supplyNormalReturn t vla vlb => Sys2Proof.Machine.execSupplyNormalReturn t vla vlb s
  | .powerDown t vla vlb => Sys2Proof.Machine.execPowerDown t vla vlb s
  | .vlInputLost t b v => Sys2Proof.Machine.execVlInputLost t b v s
  | .supplyHigh t vla vlb => Sys2Proof.Machine.execSupplyHigh t vla vlb s
  | .resetNAssert t => Sys2Proof.Machine.execResetNAssert t s
  | .resetNRelease t straps => Sys2Proof.Machine.execResetNRelease t straps s
  | .resetHeld t => Sys2Proof.Machine.execResetHeld t s
  | .coldStart t straps vla vlb bad => Sys2Proof.Machine.execColdStart t straps vla vlb s bad
  | .restoreComplete t failed => Sys2Proof.Machine.execRestoreComplete t failed s
  | .keepCounterSave t => Sys2Proof.Machine.execKeepCounterSave t s
  | .timeKeeperCalibrate t => Sys2Proof.Machine.execTimeKeeperCalibrate t s
  | .baseplateHot t temp => Sys2Proof.Machine.execBaseplateHot t temp s
  | .keepExitTimer t => Sys2Proof.Machine.execKeepExitTimer t s
  | .holdGrantTimeout t => Sys2Proof.Machine.execHoldGrantTimeout t s
  | .holdReleaseComplete t => Sys2Proof.Machine.execHoldReleaseComplete t s
  | .cfgEffectFrame t => Sys2Proof.Machine.execCfgEffectFrame t s
  | .imgTrialEnd t d => Sys2Proof.Machine.execImgTrialEnd t d s
  | .domainStartFailure t d => Sys2Proof.Machine.execDomainStartFailure t d s
  | .journalEntryMirrored t e => Sys2Proof.Machine.execJournalEntryMirrored t e s
  | .wardenHoldStateReceived t m => Sys2Proof.Machine.execWardenHoldStateReceived t m s
  | .safeResetForwarded t => Sys2Proof.Machine.execSafeResetForwarded t s
  | .ssupRestored t => Sys2Proof.Machine.execSsupRestored t s
  | .vlInputRestored t which v => Sys2Proof.Machine.execVlInputRestored t which v s
  | .ppsInLost t => Sys2Proof.Machine.execPpsInLost t s
  | .canReceiveError t port sof bitPos afterArb id eight => Sys2Proof.Machine.execCanReceiveError t port sof bitPos afterArb id s eight
  | .satSignalLost t id => Sys2Proof.Machine.execSatSignalLost t id s
  | .ptpTransmitInterval t n port kind => Sys2Proof.Machine.execPtpTransmitInterval t n port kind s
  | .partitionStartCommand t => Sys2Proof.Machine.execPartitionStartCommand t s

end Sys2Proof.Machine
end

