-- ==== Sys2Proof/Machine/Pins.lean ====
section
/-!
DEFINITION. What the module drives at its connectors, pin class by pin class (spec/21 R605, R608–R615). The pins are read off the state: each
class is in its idle state where the domain that drives it does not run. The fifth state of R615, a module removed from the carrier, is none of
the block's.
-/
namespace Sys2Proof.Machine

/-- The levels and drives of the pins of J1 to J5 and J9, in the order of R615. -/
structure Pins where
  fio : List Bool -- FIO outputs FIO01 to FIO96: switched on
  sts : List (Bool × Bool) -- STS1A, STS1B to STS4A, STS4B: driven from SSUP
  role : Bool -- ROLE1 and ROLE2: driven
  testPulse : Bool -- TPA and TPB: driven
  brk : List Bool -- BRK1 to BRK4: both switches closed, the brake released
  ao : List (Option Rat) -- AO01 to AO16: the value driven, V or mA; none: high-impedance
  can : List (Bool × Bool) -- CAN1 to CAN4: the transceiver takes part on the bus, and its termination is closed
  ser : List (Bool × Bool) -- SER1 to SER12: the port is in use, and its termination is closed
  link : Bool -- LAN-A, LAN-B and SVC: the links are up
  txDisLow : Bool -- XLP and XLW: TX_DIS is driven low, the laser enabled
  pulse : List Bool -- PPS_OUT, TPO1 to TPO4 and FRAME_OUT: high
  bias : List Bool -- ANT1 to ANT4: antenna bias applied
  j9 : Bool -- the 10 MHz output is driven
  keepStat : Nat -- KEEP_STAT: the pattern of R555
  deriving DecidableEq, Repr

/-- Both enables of a channel of a pair, of SAFE-P and of SAFE-L, hold it on. R422. -/
def StsPair.driven (x : StsPair) (i : Nat) : Bool := x.gateP.getD i false && x.gateL.getD i false

/-- The pins as the state drives them. R605, R608, R609, R611, R613, R615. -/
def State.pins (s : State) : Pins := {
  fio := fioAll.map (fun c => s.dom 11 && (s.fch c).on)
  sts := s.safe.sts.map (fun x => (s.dom 4 && s.dom 5 && x.driven 0, s.dom 4 && s.dom 5 && x.driven 1))
  role := s.dom 10 && s.thr.auth
  testPulse := s.dom 4 && s.dom 5 && !s.safe.ssupLow
  brk := s.safe.brk.map (fun b => s.dom 4 && s.dom 5 && b.gatesP && b.gatesL)
  ao := s.bus.ao.map (fun q => if s.dom 10 then some q else none)
  can := (List.range 4).map (fun i =>
    let p := s.port (i + 1)
    (s.dom 10 && decide (p.state = 2 ∨ p.state = 3), s.dom 10 && p.term))
  ser := (List.range 12).map (fun i => (s.dom 10 && decide (s.parN .BUS_SER_MODE (i + 1) ≠ 0), s.dom 10 && (s.ser (i + 1)).term))
  link := s.netUp
  txDisLow := s.netUp
  pulse := (List.range 6).map (fun k => s.netUp && ((s.pulse k).high != (s.pulse k).pol))
  bias := antAll.map (fun a => s.dom 8 && (s.ant a).biasOn)
  j9 := s.netUp
  keepStat := s.keepStat }

/-- Every pin class idle, with a pattern at KEEP_STAT. R615. -/
def Pins.idle (stat : Nat) : Pins := {
  fio := List.replicate 96 false, sts := List.replicate 4 (false, false), role := false, testPulse := false, brk := List.replicate 4 false
  ao := List.replicate 16 none, can := List.replicate 4 (false, false), ser := List.replicate 12 (false, false), link := false, txDisLow := false
  pulse := List.replicate 6 false, bias := List.replicate 4 false, j9 := false, keepStat := stat }

end Sys2Proof.Machine
end

