-- ==== Sys2Proof/Safety.lean ====
section
/-!
DEFINITION. What every run keeps, in the terms the statements use: the memories stay in their canonical form, every numbered unit stays, the
queue is a step's alone, and time never goes back.
-/
namespace Sys2Proof.Machine

/-- The memories of the module are in canonical form: DRAM and the two solver SRAMs. R13, R501. -/
def State.memOk (s : State) : Bool := Memory.wf s.dram.cells && Memory.wf s.dma.sram0 && Memory.wf s.dma.sram1

/-- How many inputs, STS pairs, brakes and limited-thrust entries a safety section holds. R426, R430, R435, R438. -/
def SafeSt.sizes (x : SafeSt) : List Nat := [x.ins.length, x.sts.length, x.brk.length, x.slt.length]

/-- How many of each numbered unit a state holds: thruster channels, field channels and groups, CAN and serial ports, analogue outputs and
inputs, DMA channels, latches, capture FIFOs and pulse outputs of the time unit, allocation channels and sections, cases, reference slots,
queues of the engine, drop counters and read ports of the recorder, watches, antennas, and the parts of the safety section. -/
def State.sizes (s : State) : List (List Nat) :=
  [[s.thr.chans.length], [s.fio.chans.length, s.fio.groups.length], [s.bus.can.length, s.bus.ser.length, s.bus.ao.length, s.bus.ai.length],
   [s.dma.chans.length], [s.tmu.hi.length, s.tmu.caps.length, s.tmu.pulses.length], [s.alc.chans.length, s.alc.sections.length],
   [s.cqa.cases.length], [s.est.slots.length], [s.hen.queues.length],
   [s.log.drops.length, s.log.qdrops.length, s.log.rd.length], [s.pnt.watch.length], [s.sat.ants.length], s.safe.sizes]

/-- The numbers the spec gives. R135, R152, R168, R210, R232, R253, R254, R272, R319, R325, R328, R383, R426, R430, R435, R438, R454, R472,
R490, R500, R525, R532, R538, R55. -/
def unitSizes : List (List Nat) :=
  [[24], [96, 8], [4, 12, 16, 32], [32], [3, 8, 6], [24, 4], [127], [28], [4], [8, 8, 3], [16], [4], [8, 4, 4, 4]]

/-- What every step keeps: memories in canonical form, and every numbered unit there. -/
def State.Inv (s : State) : Prop := s.memOk = true ∧ s.sizes = unitSizes

/-- A state whose queue is `q`, whose instant is `n`, whose memories are in canonical form, and which holds every numbered unit the spec gives. -/
structure Kept (q : List Instr) (n : Nat) (s : State) : Prop where
  pending : s.pending = q
  now : s.now = n
  dram : Memory.wf s.dram.cells = true
  sram0 : Memory.wf s.dma.sram0 = true
  sram1 : Memory.wf s.dma.sram1 = true
  sizes : s.sizes = unitSizes

/-- A meaning whose next state, where it answers one, has the queue `q`, the instant `n`, memories in canonical form and every unit. -/
def KeptR (q : List Instr) (n : Nat) (r : Res) : Prop := ∀ t, r = .next t → Kept q n t

/-- A state that differs from `s` in the recorder and the alarms at most. R518, R522. -/
def OnlyLog (s u : State) : Prop := ∃ l a, u = { s with log := l, alarms := a }

/-- A state that differs from `s` in what was sent, the recorder, the alarms, and the sessions with their journal, at most: what the
acceptance and the reply of a command change. R349. -/
def OnlyCmd (s u : State) : Prop := ∃ e l a c, u = { s with sent := e, log := l, alarms := a, cmd := c }

/-- Whether a command of a session passes the checks of R345 and is executed at once: the interface runs, the session is open and has no held
packets, the number is its next, nothing waits, pair authority is held where a pair opcode asks it, the role and the port admit the
opcode, its parameters are there, the journal has room, and no peer has to acknowledge it. R340–R349. -/
def State.ready (s : State) (o : OpDef) (x : Session) (seq : Nat) (acc : Bool) (p : List Byte) : Bool :=
  s.dom 3 && !x.dormant && !x.closing && decide (seq = x.e) && !s.waiting x.num && s.cmd.replayDone && (!o.pair || s.pairOk) && o.admitted x &&
    decide (o.len ≤ p.length) && s.roomFor x.num acc p && !s.mirrors x && x.held.isEmpty

/-- The state in which an opcode's own check looks: the packet has arrived and its session is alive. R344, R345. -/
def State.asked (s : State) (t : Nat) (x : Session) : State := (s.arrive t).modSess x.num (fun y => { y with lastValid := max s.now t })

/-- The reply of a session's command as it leaves the unit. R335–R338. -/
def State.replyOf (s : State) (x : Session) (seq op status : Nat) (p : List Byte) : Emit :=
  let fl := fgReply ||| (if x.auth then fgAuth else 0) ||| (if s.single x then fgSingle else 0)
  let pk := packet fl x.client x.num seq op status s.red.epochHeld p
  .packet x.iface x.addr x.port (pk ++ trailer x.trailKey pk)

/-- The state in which the effect of an accepted command starts: its entry is in the journal, and ACCEPTED has been replied where its effect
completes later. R348, R349, R352. -/
def State.began (s : State) (o : OpDef) (t : Nat) (x : Session) (seq : Nat) (acc : Bool) (p : List Byte) : State :=
  let s := (s.asked t x).pushEntryJ x seq o.code (if acc then stAccepted else stDone) .journalled (!o.pair) acc p []
  let jn := s.cmd.jnum
  let s := if acc then { s with cmd := { s.cmd with accepted := s.cmd.accepted ++ [(x.num, seq)] } } else s
  let s := s.modEntry jn (fun e => { e with state := if acc then .applied else .complete, frame := s.frame.number })
  if acc then s.reply x.num seq o.code stAccepted [] else s

/-- Whether a session's command is taken: the unit is ready for it, and the opcode's own check answers DONE or ACCEPTED. R345, R349. -/
def State.takes (s : State) (o : OpDef) (t : Nat) (x : Session) (seq : Nat) (acc : Bool) (p : List Byte) : Bool :=
  decide (s.sess? x.num = some x) && s.ready o x seq acc p && decide (o.chk (s.asked t x) x.num p = if acc then stAccepted else stDone)

/-- The state after a command that is taken: its entry journalled, its effect with the reply, and what its session held behind it. R346, R349. -/
def State.ended (s : State) (o : OpDef) (t : Nat) (x : Session) (seq : Nat) (acc : Bool) (p : List Byte) : State :=
  let s := (s.asked t x).pushEntryJ x seq o.code (if acc then stAccepted else stDone) .journalled (!o.pair) acc p []
  (s.runOp o x.num seq s.cmd.jnum acc p).runHeld 64 x.num

/-- A command ends in a next state: its reply `e` has left the unit, and but for the acceptance and the reply that state is `v`. -/
def Does (c : Instr) (s : State) (e : Emit) (v : State) : Prop := ∃ u, exec c s = .next u ∧ OnlyCmd v u ∧ e ∈ u.sent

end Sys2Proof.Machine
end

