-- ==== Sys2Proof/WellFormed.lean ====
section
/-!
DEFINITION. Which commands are well-formed: those whose operands name a unit, port, channel or address the module has (spec/00 to spec/21).
-/
namespace Sys2Proof

/-- A number from 1 to n. -/
def oneTo (n x : Nat) : Bool := 1 ≤ x && x ≤ n

/-- A number below n. -/
def below (n x : Nat) : Bool := decide (x < n)

/-- A number of a configured point. R371. -/
def from32768 (p : Nat) : Bool := 32768 ≤ p && p ≤ 131071

/-- An address of the register window. R8. -/
def window (a : Nat) : Bool := 0x40000000 ≤ a && a ≤ 0x4FFFFFFF

/-- An address of DRAM. R13. -/
def dramAt (a : Nat) : Bool := 0x80000000 ≤ a && a ≤ 0x27FFFFFFF

/-- An index of a capture source. R321. -/
def capSource (i : Nat) : Bool :=
  (0x0001 ≤ i && i ≤ 0x0060) || (0x0101 ≤ i && i ≤ 0x0110) || (0x0201 ≤ i && i ≤ 0x0204) || (0x0301 ≤ i && i ≤ 0x030C) ||
    (0x0401 ≤ i && i ≤ 0x0408) || (0x0501 ≤ i && i ≤ 0x0520) || (0x0601 ≤ i && i ≤ 0x0605) || (0x0701 ≤ i && i ≤ 0x0702)

/-- Whether a command names only what the module has. The packets of opcode rows carry any bytes: what is wrong with them is answered, not refused. -/
def Instr.wf (i : Instr) : Bool :=
  match i with
  | .commandPacket _ _ _ _ _ => true
  | .seqGapTimeout _ _ => true
  | .journalPeerAck _ _ => true
  | .journalMirrorTimeout _ _ => true
  | .journalResyncComplete _ _ => true
  | .commandCompletion _ _ _ _ _ => true
  | .sessionDormant _ _ => true
  | .sessionReclaim _ _ => true
  | .sysQuery _ _ _ _ => true
  | .getSurvey _ _ _ _ => true
  | .setMode _ _ _ _ => true
  | .sessionQuery _ _ _ _ => true
  | .openSession _ _ _ _ _ _ _ _ => true
  | .closeSession _ _ _ _ => true
  | .keepalive _ _ _ _ => true
  | .journalQuery _ _ _ _ => true
  | .cfgQuery _ _ _ _ => true
  | .cfgStage _ _ _ _ => true
  | .cfgValidate _ _ _ _ => true
  | .cfgCommit _ _ _ _ => true
  | .cfgFactory _ _ _ _ => true
  | .cfgFromPeer _ _ _ _ => true
  | .holdSelectFunction _ _ _ _ => true
  | .holdSetSetpoint _ _ _ _ => true
  | .holdSetEnd _ _ _ _ => true
  | .holdBprSet _ _ _ _ => true
  | .holdStatus _ _ _ _ => true
  | .refSelect _ _ _ _ => true
  | .refQuery _ _ _ _ => true
  | .refRetry _ _ _ _ => true
  | .estReinit _ _ _ _ => true
  | .alcSelect _ _ _ _ => true
  | .alcSetBerm _ _ _ _ => true
  | .alcQuery _ _ _ _ => true
  | .alcLearnReset _ _ _ _ => true
  | .thrQuery _ _ _ _ => true
  | .thrClear _ _ _ _ => true
  | .thrEnable _ _ _ _ => true
  | .cqaQuery _ _ _ _ => true
  | .cqaCaseQuery _ _ _ _ => true
  | .cqaCaseEnable _ _ _ _ => true
  | .cqaWhatif _ _ _ _ => true
  | .whatifDeadline _ _ _ => true
  | .timeQuery _ _ _ _ => true
  | .timeSelect _ _ _ _ => true
  | .timePulse _ _ _ _ => true
  | .timeStepAllow _ _ _ _ => true
  | .canQuery _ _ _ _ => true
  | .busRecover _ _ _ _ => true
  | .canRateDetect _ _ _ _ => true
  | .canNodeList _ _ _ _ => true
  | .serQuery _ _ _ _ => true
  | .pointRead _ _ _ _ => true
  | .pointWrite _ _ _ _ => true
  | .pointForce _ _ _ _ => true
  | .pointUnforce _ _ _ _ => true
  | .pointSubscribe _ _ _ _ => true
  | .pointUnsubscribe _ _ _ _ => true
  | .producerList _ _ _ _ => true
  | .pointNotify _ _ => true
  | .fioQuery _ _ _ _ => true
  | .fioSet _ _ _ _ => true
  | .fioPulse _ _ _ _ => true
  | .fioClear _ _ _ _ => true
  | .fioGroupRestore _ _ _ _ => true
  | .logFreeze _ _ _ _ => true
  | .logThaw _ _ _ _ => true
  | .logRead _ _ _ _ => true
  | .logSnapRead _ _ _ _ => true
  | .logCodes _ _ _ _ => true
  | .logExport _ _ _ _ => true
  | .logSpillEnd _ _ _ _ => true
  | .safeQuery _ _ _ _ => true
  | .safeReset _ _ _ _ => true
  | .safeBrakeTest _ _ _ _ => true
  | .safeCfgRead _ _ _ _ => true
  | .safeCfgConfirm _ _ _ _ => true
  | .safeStop _ _ _ _ => true
  | .redQuery _ _ _ _ => true
  | .roleRotate _ _ _ _ => true
  | .wardenPromote _ _ _ _ => true
  | .wardenRelease _ _ _ _ => true
  | .imgStage _ _ _ _ => true
  | .imgVerify _ _ _ _ => true
  | .imgActivate _ _ _ _ => true
  | .domainDrain _ _ _ _ => true
  | .domainRestore _ _ _ _ => true
  | .domainOff _ dom => below 12 dom
  | .domainRunning _ dom => below 12 dom
  | .sysRestart _ _ _ _ => true
  | .sysRestartDelayEnd _ => true
  | .keyWrite _ _ _ _ => true
  | .henSubmit _ _ _ _ => true
  | .henStatus _ _ _ _ => true
  | .henCancel _ _ _ _ => true
  | .satQuery _ _ _ _ => true
  | .satRestart _ _ _ _ => true
  | .satIntegrityReset _ _ _ _ => true
  | .satTimeAccept _ _ _ _ => true
  | .satExclude _ _ _ _ => true
  | .satAntBias _ _ _ _ => true
  | .registerWrite _ _ addr _ => window addr
  | .stickyRegisterRead _ _ addr => window addr
  | .partitionAccessViolation _ _ => true
  | .dramRegionViolation _ _ addr => dramAt addr
  | .dramEccError _ addr _ _ => dramAt addr
  | .lockstepMismatch _ _ => true
  | .partitionSliceEnd _ _ => true
  | .partitionFault _ _ => true
  | .partitionWatchdogExpiry _ => true
  | .frameStart _ => true
  | .estimationDeadline _ _ => true
  | .allocSubmitInstant _ => true
  | .allocationCompose _ _ => true
  | .sealWindowClose _ => true
  | .commitInstant _ => true
  | .frameMirrorSend _ => true
  | .frameMirrorReceived _ _ => true
  | .frameClockStep _ vc => below 2 vc
  | .refTimeoutExpiry _ slot => below 28 slot
  | .refTrialComplete _ slot => below 28 slot
  | .estDrLimitExpiry _ _ => true
  | .estPeerDiffCount _ => true
  | .mpcFailCount _ => true
  | .mpcOkCount _ => true
  | .joyCentreRelease _ => true
  | .excursionClearTimer _ alarm => below 4 alarm
  | .bprContactDetected _ => true
  | .bprContactTimeout _ => true
  | .bprContactLoss _ => true
  | .powerEnvelopeMessage _ port _ _ => oneTo 4 port
  | .pwrSourceStale _ sec => oneTo 4 sec
  | .pwrFreshCountReached _ sec => oneTo 4 sec
  | .pwrLimitCount _ sec => oneTo 4 sec
  | .alcRepeatLimitReached _ => true
  | .alcSatTimer _ => true
  | .learnedModelSave _ => true
  | .learnedModelMirror _ => true
  | .cqaAlarmDelayReached _ k => oneTo 127 k
  | .cqaClearTimeReached _ k => oneTo 127 k
  | .cqaUnprovenDelayReached _ => true
  | .capabilityEnvelopePeriod _ => true
  | .capabilityEnvelopeEnd _ => true
  | .henSubHiWrite _ q _ _ => below 4 q
  | .henProblemEnd _ cl _ => below 2 cl
  | .henSuspensionPoint _ cl _ => below 2 cl
  | .henJobDeadline _ q _ _ => below 4 q
  | .henQCancelWrite _ q _ _ => below 4 q
  | .henQEnClear _ q => below 4 q
  | .henQPop _ q => below 4 q
  | .henClusterEnClear _ cl => below 2 cl
  | .henSramError _ cl _ => below 2 cl
  | .henClusterStop _ cl => below 2 cl
  | .henDrainDone _ cl => below 2 cl
  | .sequencerSlice _ c _ => oneTo 24 c
  | .thrSealWrite _ c => oneTo 24 c
  | .thrShadowWrite _ c _ _ => oneTo 24 c
  | .thrWithdraw _ c => oneTo 24 c
  | .thrCtrlClear _ c => oneTo 24 c
  | .thrCtrlEnWrite _ c _ => oneTo 24 c
  | .thrAuthWrite _ _ => true
  | .thrAoHoldExpiry _ => true
  | .thrFeedbackFrame _ port _ _ => oneTo 4 port
  | .thrFeedback2Frame _ port _ _ => oneTo 4 port
  | .thrFbTimeout _ c => oneTo 24 c
  | .thrAzFollowExpiry _ c => oneTo 24 c
  | .thrAzWrongDirExpiry _ c => oneTo 24 c
  | .thrRudderFollowExpiry _ c => oneTo 24 c
  | .thrTHighExpiry _ c => oneTo 24 c
  | .thrTDevExpiry _ c => oneTo 24 c
  | .thrAngDisagreeExpiry _ c => oneTo 24 c
  | .thrNotReadyRecovery _ c => oneTo 24 c
  | .thrDegradedRecovery _ c => oneTo 24 c
  | .satEpoch _ _ => true
  | .satSecondChecks _ _ => true
  | .satSignalAcquired _ _ _ => true
  | .satChannelRelease _ _ => true
  | .rtcmFrame _ _ _ => true
  | .antOpenDetect _ a => oneTo 4 a
  | .antShort _ a => oneTo 4 a
  | .antBiasRetry _ a _ => oneTo 4 a
  | .antGeometryExclude _ a => oneTo 4 a
  | .satHoldoverEntry _ => true
  | .satReturnConfirmed _ => true
  | .satTimeStep _ => true
  | .satSlewComplete _ => true
  | .satPps _ => true
  | .satWake _ => true
  | .satWakeEnd _ => true
  | .satRetainedWrite _ => true
  | .ptpSyncReceived _ n _ _ _ _ _ _ => below 2 n
  | .ptpDelayResponse _ n _ => below 2 n
  | .ptpAnnounceReceived _ port _ => below 2 port
  | .ptpAnnounceTimeout _ n _ => below 2 n
  | .ptpSyncTimeout _ n => below 2 n
  | .ppsInEdge _ => true
  | .vcLock _ n => below 2 n
  | .vcStep _ n => below 2 n
  | .frameRevertTimer _ => true
  | .fallbackReturnTimer _ n => below 2 n
  | .tmuCtrlWrite _ _ => true
  | .tmuIncrWrite _ _ => true
  | .timeLoRead _ _ which => below 4 which
  | .captureEvent _ source _ => capSource source
  | .captureEntryAged _ f => below 8 f
  | .capFifoData0Read _ f => below 8 f
  | .capFifoData1Read _ f => below 8 f
  | .pulseArm _ k _ => below 6 k
  | .pulseDisarm _ k => below 6 k
  | .pulseOutputFire _ k => below 6 k
  | .pulseWidthEnd _ k => below 6 k
  | .producerWrite _ _ src _ _ => below 512 src
  | .producerTimeout _ k => below 512 k
  | .pointTimeout _ p => from32768 p
  | .pntWrGo _ => true
  | .heartbeatSend _ => true
  | .heartbeatReceived _ path _ => below 3 path
  | .heartbeatMissCheck _ => true
  | .leaseGrantReceived _ path _ => below 3 path
  | .leaseHolderExpiry _ => true
  | .leaseExpiryW _ => true
  | .leaseGuardEnd _ => true
  | .takeoverCheckEnd _ => true
  | .rotationRelease _ => true
  | .roleRelayFaultDetect _ k => oneTo 2 k
  | .rotateDueReached _ => true
  | .uidStrapChange _ v => below 4 v
  | .safeInputEdge _ n _ _ => oneTo 8 n
  | .testPulseCheck _ n _ _ => oneTo 8 n
  | .discrepancyExpiry _ n => oneTo 8 n
  | .safePCycle _ _ => true
  | .safeWatchdogExpiry _ => true
  | .safePathDisagree _ => true
  | .safePLockstepMismatch _ => true
  | .processStopRequest _ _ _ => true
  | .stsDelayExpiry _ p => oneTo 4 p
  | .stsOffPulse _ p _ _ => oneTo 4 p
  | .brakeSetSpeedReached _ b => oneTo 4 b
  | .brakeTestDue _ b => oneTo 4 b
  | .brakeTestThrust _ b => oneTo 4 b
  | .brakeTestThrustEnd _ b => oneTo 4 b
  | .brakeTestResult _ b _ _ => oneTo 4 b
  | .sltViolation _ j => oneTo 4 j
  | .safetyOutputFault _ out => below 16 out
  | .safetyEncoderFault _ k _ => oneTo 8 k
  | .ssupLow _ => true
  | .safetyStartTest _ _ _ _ => true
  | .fioInputEdge _ c _ _ _ => oneTo 96 c
  | .fioWireBreak _ c _ => oneTo 96 c
  | .fioWireBreakClear _ c _ _ => oneTo 96 c
  | .fioOutputSample _ c _ _ => oneTo 96 c
  | .fioOvercurrentRetry _ c => oneTo 96 c
  | .fioGroupOverload _ g => oneTo 8 g
  | .fioSupplyStateChange _ g _ _ => oneTo 8 g
  | .fioRestoreSwitch _ g => oneTo 8 g
  | .fioPulseEnd _ c => oneTo 96 c
  | .canFrameReceived _ port _ _ => oneTo 4 port
  | .canTimedFrameDue _ port box _ => oneTo 4 port && below 64 box
  | .canTxAttemptEnd _ port _ => oneTo 4 port
  | .canFrameExpiry _ port box => oneTo 4 port && below 64 box
  | .canBusOff _ port => oneTo 4 port
  | .canRecoverComplete _ port => oneTo 4 port
  | .canRecoverTimeout _ port => oneTo 4 port
  | .canDetectDwellEnd _ port => oneTo 4 port
  | .canNodeForget _ port _ => oneTo 4 port
  | .serialSentence _ port _ _ _ => oneTo 12 port
  | .serialBinaryFrame _ port _ _ _ => oneTo 12 port
  | .iec450Datagram _ _ _ _ _ => true
  | .serialTxSentence _ port _ => oneTo 12 port
  | .dmaStart _ ch => below 32 ch
  | .dmaEnClear _ ch => below 32 ch
  | .dmaTrigger _ kind => oneTo 3 kind
  | .dmaDescriptorEnd _ ch _ => below 32 ch
  | .logRecordSubmit _ _ _ _ _ => true
  | .logRecordRelease _ _ => true
  | .logSnapshotCapture _ _ => true
  | .logFreezeTimeout _ => true
  | .logRdGo _ _ _ _ => true
  | .logOptimeLoRead _ _ => true
  | .supplyLowEntry _ _ _ => true
  | .supplyNormalReturn _ _ _ => true
  | .powerDown _ _ _ => true
  | .vlInputLost _ _ _ => true
  | .supplyHigh _ _ _ => true
  | .resetNAssert _ => true
  | .resetNRelease _ straps => below 4 straps
  | .resetHeld _ => true
  | .coldStart _ straps _ _ _ => below 4 straps
  | .restoreComplete _ _ => true
  | .keepCounterSave _ => true
  | .timeKeeperCalibrate _ => true
  | .baseplateHot _ _ => true
  | .keepExitTimer _ => true
  | .holdGrantTimeout _ => true
  | .holdReleaseComplete _ => true
  | .cfgEffectFrame _ => true
  | .imgTrialEnd _ d => (below 12 d || d == 0x80)
  | .domainStartFailure _ d => (below 12 d || d == 0x80)
  | .journalEntryMirrored _ _ => true
  | .wardenHoldStateReceived _ _ => true
  | .safeResetForwarded _ => true
  | .ssupRestored _ => true
  | .vlInputRestored _ which _ => below 3 which
  | .ppsInLost _ => true
  | .canReceiveError _ port _ _ _ _ _ => oneTo 4 port
  | .satSignalLost _ _ => true
  | .ptpTransmitInterval _ n _ _ => below 2 n
  | .partitionStartCommand _ => true

end Sys2Proof
end

