-- ==== Sys2Proof/Certificates/Slice0/Obligations.lean ====
section
/-!
DEFINITION. The statements the provers prove or refute, one `def Obligations.<Name> : Prop` each: what every step keeps, what a command of an
open session is answered and does, and what each event of the module does. Each names the rules of spec/ it follows; `s.arrive t` is the state
at the event's instant, with nothing sent yet (log 1, log 5).
-/
set_option linter.unusedVariables false
open Sys2Proof Sys2Proof.Machine

/-- A step takes the command at the front of the queue: it is the command's effect on the state with the queue's rest. With no command waiting the
block idles (log 1). -/
def Obligations.StepTakesTheFront : Prop :=  (∀ (c : Instr) (q : List Instr) (s : State), s.pending = c :: q → step s = exec c { s with pending := q }) ∧
  ∀ s : State, s.pending = [] → step s = .next s

/-- Every step keeps the memories in canonical form and every numbered unit the spec gives the module. -/
def Obligations.StepKeepsInvariant : Prop := ∀ s u : State, s.Inv → step s = .next u → u.Inv

/-- The state after reset has the memories in canonical form and every numbered unit. -/
def Obligations.ResetMeetsInvariant : Prop := State.reset.Inv

/-- No command's effect reaches the queue, and time never goes back (log 1). -/
def Obligations.QueueAndTimeKept : Prop := ∀ (c : Instr) (s u : State), s.Inv → exec c s = .next u → u.pending = s.pending ∧ s.now ≤ u.now

/-- Every command that names only units the module has ends in a next state, in every state of the module; one that names a unit the module does not
have stops with that fault. -/
def Obligations.WellFormedCommandsComplete : Prop := ∀ (c : Instr) (s : State),
  (c.wf = true → ∃ u, exec c s = .next u) ∧ (c.wf = false → ∃ n, exec c s = .fault (.noSuchUnit n))

/-- The registers after reset read as their Reset columns say. R227, R266, R328, R383, R516, R538. -/
def Obligations.ResetValues : Prop :=  (∀ i, i < 2 → (State.reset.cl i).en = true ∧ (State.reset.cl i).fault = false) ∧
  State.reset.hen.piv = 20 ∧ State.reset.hen.corr = 0 ∧ State.reset.hen.uncorr = 0 ∧ State.reset.hen.uncorrNew = false ∧
  (∀ q, q < 4 → (State.reset.hq q).en = true ∧ (State.reset.hq q).ieDone = false ∧ (State.reset.hq q).ieAbort = false ∧
    (State.reset.hq q).jobs = [] ∧ (State.reset.hq q).done = [] ∧ (State.reset.hq q).jobsDone = 0 ∧ (State.reset.hq q).refusals = 0) ∧
  State.reset.thr.auth = false ∧
  (∀ c, 1 ≤ c → c ≤ 24 → (State.reset.tch c).en = true ∧ (State.reset.tch c).state = 0 ∧ (State.reset.tch c).fault = 0 ∧
    (State.reset.tch c).shT = 0 ∧ (State.reset.tch c).shAng = 0 ∧ (State.reset.tch c).shRun = false ∧ (State.reset.tch c).shTest = false ∧
    (State.reset.tch c).sealed = false ∧ (State.reset.tch c).handed = false ∧ (State.reset.tch c).sealLateF = false ∧
    (State.reset.tch c).wrSealed = false ∧ (State.reset.tch c).wdLate = false ∧ (State.reset.tch c).abortedF = false ∧
    (State.reset.tch c).gated = false ∧ (State.reset.tch c).angSrc = 3 ∧ (State.reset.tch c).actT = 0 ∧ (State.reset.tch c).actAng = 0 ∧
    (State.reset.tch c).handovers = 0 ∧ (State.reset.tch c).fbBad = 0) ∧
  State.reset.tmu.force = 0 ∧ State.reset.tmu.revert = false ∧ State.reset.tmu.fallbackSat = true ∧
  (∀ k, k < 2 → (State.reset.vc k).ofs = 0 ∧ (State.reset.vc k).ref = 0 ∧ (State.reset.vc k).rate = 0 ∧ (State.reset.vc k).tau = 8 ∧
    (State.reset.vc k).freeze = false ∧ (State.reset.vc k).stepArm = false ∧ (State.reset.vc k).qual = 0 ∧
    (State.reset.vc k).stepPending = false ∧ (State.reset.vc k).gm = false ∧ (State.reset.vc k).fallback = false) ∧
  (∀ k, k < 6 → (State.reset.pulse k).armed = false) ∧
  State.reset.pnt.fence = 0 ∧ State.reset.pnt.wrIdx = 0 ∧ State.reset.pnt.wrQual = 0 ∧ State.reset.pnt.wrVal = 0 ∧ State.reset.pnt.wrTime = 0 ∧
  State.reset.pnt.wrStat = 0 ∧ State.reset.pnt.watchIe = 0 ∧ State.reset.pnt.watch = List.replicate 16 (0, false) ∧ State.reset.pnt.writes = 0 ∧
  (∀ n, n < 32 → (State.reset.dch n).descLo = 0 ∧ (State.reset.dch n).descHi = 0 ∧ (State.reset.dch n).en = true ∧
    (State.reset.dch n).ie = false ∧ (State.reset.dch n).prio = 0 ∧ (State.reset.dch n).state = 0 ∧ (State.reset.dch n).last = 0 ∧
    (State.reset.dch n).endF = false ∧ (State.reset.dch n).err = false ∧ (State.reset.dch n).refused = false ∧
    (State.reset.dch n).remain = 0 ∧ (State.reset.dch n).tag = 0 ∧ (State.reset.dch n).count = 0) ∧
  State.reset.log.state = 0 ∧ State.reset.log.merged = 0 ∧
  ∀ w, (State.reset.rdPort w).sel = 0 ∧ (State.reset.rdPort w).kind = 0 ∧ (State.reset.rdPort w).entry = 0 ∧ (State.reset.rdPort w).result = 0

/-- What a command of an open session is answered when it is not executed: a number that is not the next one is no command of the row, a pair opcode
without pair authority is NOT_ACTIVE, one its session may not send PERMISSION, and one its own check refuses that status; none of these has the
command's effect. R340, R345. -/
def Obligations.CommandRefusals : Prop := ∀ (t q : Nat) (p : List Byte) (s : State) (x : Session) (i : Instr) (o : OpDef),
  (i, o) ∈ [(Instr.setMode t x.num q p, opSetMode), (Instr.cfgStage t x.num q p, opCfgStage), (Instr.holdSetEnd t x.num q p, opHoldSetEnd),
      (Instr.refSelect t x.num q p, opRefSelect), (Instr.alcSelect t x.num q p, opAlcSelect), (Instr.thrEnable t x.num q p, opThrEnable),
      (Instr.pointForce t x.num q p, opPointForce), (Instr.busRecover t x.num q p, opBusRecover), (Instr.logFreeze t x.num q p, opLogFreeze),
      (Instr.safeReset t x.num q p, opSafeReset), (Instr.imgActivate t x.num q p, opImgActivate)] →
  s.sess? x.num = some x →
  (q ≠ x.e → exec i s = .next (s.arrive t)) ∧
  (s.dom 3 = true → x.dormant = false → x.closing = false → q = x.e → s.waiting x.num = false → s.cmd.replayDone = true → x.held = [] →
    (o.pair = true → s.pairOk = false →
      exec i s = .next ((s.arrive t).replyFree x q o.code stNotActive (s.arrive t).holderParams)) ∧
    ((o.pair = false ∨ s.pairOk = true) → o.admitted x = false →
      ∃ u, exec i s = .next u ∧ OnlyCmd (s.arrive t) u ∧ s.replyOf x q o.code stPermission [] ∈ u.sent)) ∧
  ∀ st, s.ready o x q false p = true → o.chk (s.asked t x) x.num p = st → 0x8000 ≤ st → st ≠ stJournalFull →
    ∃ u, exec i s = .next u ∧ OnlyCmd (s.arrive t) u ∧ s.replyOf x q o.code st [] ∈ u.sent

/-- A datagram that is no packet, or finds 256 waiting, is discarded and counted, one that the unit does not hear changes nothing, and one that passes
the checks of a session is the command its opcode names. R334–R337, R345. The timeouts of a session: 500 ms after the oldest held packet every held
packet is answered SEQ_GAP and discarded; after 30 s without a valid packet it is DORMANT; after CMD_DORMANT_KEEP it is reclaimed with its
subscriptions. R344, R346. -/
def Obligations.CommandArrivalAndTimeouts : Prop :=
  (∀ (t : Nat) (iface : Iface) (addr port : Nat) (bytes : List Byte) (s : State),
  (s.hears = false → exec (.commandPacket t iface addr port bytes) s = .next (s.arrive t)) ∧
  (s.hears = true → 256 ≤ (s.arrive t).netWaiting →
    exec (.commandPacket t iface addr port bytes) s = .next { s.arrive t with cmd := { s.cmd with discarded := s.cmd.discarded + 1 } }) ∧
  (s.hears = true → (s.arrive t).netWaiting < 256 → Pkt.read bytes = none →
    exec (.commandPacket t iface addr port bytes) s = .next { s.arrive t with cmd := { s.cmd with
      netUntil := max (max s.now t) s.cmd.netUntil + 500000, discarded := s.cmd.discarded + 1 } }) ∧
  (∀ (k : Pkt) (o : OpDef) (x : Session) (acc : Bool) (z : State), s.hears = true → (s.arrive t).netWaiting < 256 →
    z = { s with cmd := { s.cmd with netUntil := max (max s.now t) s.cmd.netUntil + 500000 } } → Pkt.read bytes = some k → k.flags.testBit 5 = false →
    k.op ≠ 0x0105 → opOf k.op = some o → k.sess = x.num → k.auth = x.auth → k.trailerOk x.trailKey = true → k.client = x.client →
    x.iface = iface → x.addr = addr → x.port = port → (∀ y ∈ s.cmd.sessions, y.num = x.num → y = x) →
    z.takes o t x k.seq acc k.params = true →
    exec (.commandPacket t iface addr port bytes) s = .next (z.ended o t x k.seq acc k.params))) ∧
  (∀ (t : Nat) (s : State) (x : Session), s.sess? x.num = some x →
  ((∃ h ∈ x.held, h.at_ + 500000000 ≤ max s.now t) →
    ∃ u y, exec (.seqGapTimeout t x.num) s = .next u ∧ u.sess? x.num = some y ∧ y.held = [] ∧ y.e = x.e ∧
      u.cmd.seqGaps = s.cmd.seqGaps + x.held.length ∧ u.sent.length = x.held.length) ∧
  ((∀ h ∈ x.held, max s.now t < h.at_ + 500000000) → exec (.seqGapTimeout t x.num) s = .next (s.arrive t)) ∧
  (x.dormant = false → x.lastValid + 30000000000 ≤ max s.now t →
    ∃ u y, exec (.sessionDormant t x.num) s = .next u ∧ u.sess? x.num = some y ∧
      y = { x with dormant := true, dormantAt := max s.now t } ∧ ∀ n, n ≠ x.num → u.sess? n = s.sess? n) ∧
  (max s.now t < x.lastValid + 30000000000 → exec (.sessionDormant t x.num) s = .next (s.arrive t)) ∧
  (x.dormant = true → x.dormantAt + s.parNs .CMD_DORMANT_KEEP ≤ max s.now t →
    ∃ u, exec (.sessionReclaim t x.num) s = .next u ∧ u.sess? x.num = none ∧ (∀ b ∈ u.pnt.subs, b.session ≠ x.num) ∧
      ∀ n, n ≠ x.num → u.sess? n = s.sess? n) ∧
  (x.dormant = false → exec (.sessionReclaim t x.num) s = .next (s.arrive t)))

/-- SYS_QUERY, KEEPALIVE, SESSION_QUERY, JOURNAL_QUERY, CFG_QUERY and GET_SURVEY answer DONE with what they return. R360, R364, R592. The queries of
the recorder, the safety section, redundancy and the receiver answer DONE with what they return. R302, R420, R448, R453, R541. -/
def Obligations.SystemAndSafetyQueries : Prop :=
  (∀ (t q : Nat) (p : List Byte) (s : State) (x : Session),
  (s.takes opSysQuery t x q false p = true →
    Does (.sysQuery t x.num q p) s (s.replyOf x q 0x0100 stDone ([byte s.sys.mode.code, byte s.red.unit, 0, 0] ++ leBytes 4 s.modeFlags ++
      leBytes 4 s.keep.powered ++ leBytes 4 s.cfg.gen ++ leBytes 4 s.imgSlots ++ leBytes 4 s.imgTrials ++
      [0, 2, 3, 4, 6, 8, 9, 10, 11].flatMap (fun d => leBytes 4 (match s.img? d with
        | some z => (z.slot z.running).version
        | none => 0)))) (s.arrive t)) ∧
  (s.takes opKeepalive t x q false p = true →
    Does (.keepalive t x.num q p) s (s.replyOf x q 0x0107 stDone []) (s.arrive t)) ∧
  (s.takes opSessionQuery t x q false p = true →
    Does (.sessionQuery t x.num q p) s (s.replyOf x q 0x0104 stDone (leBytes 4 x.e ++ leBytes 4 0 ++ leBytes 4 (s.outstanding x.num) ++
      [byte x.role.code, byte (b2n (!x.pair)), 0, 0] ++ leBytes 4 s.openCount ++ leBytes 4 s.dormantCount)) (s.arrive t)) ∧
  (s.takes opJournalQuery t x q false p = true →
    Does (.journalQuery t x.num q p) s (s.replyOf x q 0x0108 stDone (opJournalQuery.run (s.began opJournalQuery t x q false p) x.num q p).2)
      (s.arrive t) ∧
    (s.began opJournalQuery t x q false p).cmd.jnum = (s.cmd.jnum + 1) % 2 ^ 32) ∧
  (s.takes opCfgQuery t x q false p = true →
    Does (.cfgQuery t x.num q p) s (s.replyOf x q 0x0200 stDone
      (((List.range 43).filterMap (fun i => Config.catalogueEntry (fld p 0 2 + i))).flatMap (fun e => slice 0 32 e))) (s.arrive t)) ∧
  (s.takes opGetSurvey t x q false p = true →
    Does (.getSurvey t x.num q p) s
      (s.replyOf x q 0x0101 stDone (((s.began opGetSurvey t x q false p).surveySync.survey.drop (fld p 0 4)).take 1400))
      { s.arrive t with pnt := (s.began opGetSurvey t x q false p).surveySync.pnt })) ∧
  (∀ (t q : Nat) (p : List Byte) (s : State) (x : Session),
  (s.takes opLogCodes t x q false p = true →
    Does (.logCodes t x.num q p) s (s.replyOf x q 0x0904 stDone
      (leBytes 2 ((EvCode.all.drop (fld p 0 2)).take 56).length ++ leBytes 2 EvCode.all.length ++ zeros 4 ++
        ((EvCode.all.drop (fld p 0 2)).take 56).flatMap (fun e => leBytes 2 e.code.toNat ++
          [byte e.severity, byte (if e.isAlarm then clsRaised else clsEvent)] ++ leBytes 2 e.fmt ++ zeros 2 ++ nameBytes e.name))) (s.arrive t)) ∧
  (s.takes opLogRead t x q false p = true →
    Does (.logRead t x.num q p) s
      (s.replyOf x q 0x0902 stDone (opLogRead.run (s.began opLogRead t x q false p) x.num q p).2) (s.arrive t)) ∧
  (s.takes opLogSnapRead t x q false p = true →
    Does (.logSnapRead t x.num q p) s
      (s.replyOf x q 0x0903 stDone (opLogSnapRead.run (s.began opLogSnapRead t x q false p) x.num q p).2) (s.arrive t)) ∧
  (s.takes opSafeQuery t x q false p = true →
    Does (.safeQuery t x.num q p) s (s.replyOf x q 0x0A00 stDone ((s.began opSafeQuery t x q false p).safeWords.flatMap (leBytes 4))) (s.arrive t)) ∧
  (s.takes opSafeCfgRead t x q false p = true →
    Does (.safeCfgRead t x.num q p) s (s.replyOf x q 0x0A03 stDone
      (leBytes 4 (setCrc (if fld p 0 1 = 0 then s.safe.confirmed else s.safe.pendingSet)).toNat ++
        (if fld p 0 1 = 0 then s.safe.confirmed else s.safe.pendingSet).getD [])) (s.arrive t)) ∧
  (s.takes opRedQuery t x q false p = true →
    Does (.redQuery t x.num q p) s (s.replyOf x q 0x0B00 stDone
      (leBytes 2 s.red.unit ++ leBytes 2 (s.arrive t).redRole ++ leBytes 4 s.red.epochHeld.toNat ++
        [byte s.red.health, byte ((s.arrive t).peerScore.getD 0), byte (s.arrive t).redHeard, byte (s.arrive t).redMode] ++
        leBytes 4 (BitVec.ofInt 32 (s.arrive t).leaseLeft).toNat ++ leBytes 4 s.red.check.last)) (s.arrive t)) ∧
  (s.takes opSatQuery t x q false p = true →
    Does (.satQuery t x.num q p) s (s.replyOf x q 0x0E00 stDone
      (leBytes 2 s.sat.state ++ leBytes 2 s.sat.time.qual ++ leBytes 4 (s.began opSatQuery t x q false p).satFlags ++ leBytes 4 s.sat.svUsed ++
        leBytes 4 s.sat.chans.length ++ leBytes 4 (s.arrive t).satBoundN ++ leBytes 4 (s.arrive t).satHoTime ++ leBytes 4 (s.arrive t).corrAge ++
        bI s.sat.time.lastStep)) (s.arrive t)))

/-- The queries of the hold functions, the references, allocation, the channels, consequence analysis and the engine answer DONE with what they
return. R90, R132, R162, R193, R228, R266. The queries of the clocks, the ports, the points and the field channels answer DONE with what they return.
R331, R384, R470, R498. -/
def Obligations.ControlAndFieldQueries : Prop :=
  (∀ (t q : Nat) (p : List Byte) (s : State) (x : Session),
  (s.takes opHoldStatus t x q false p = true →
    Does (.holdStatus t x.num q p) s (s.replyOf x q 0x0304 stDone
      (leBytes 2 (if s.sys.mode = .hold then s.hold.core.func else 0xFFFF) ++ leBytes 2 s.hold.core.bprState ++ leBytes 4 s.hold.core.flags ++
        bF (s.hold.core.flip s.hold.core.tau).x ++ bF (s.hold.core.flip s.hold.core.tau).y ++ bF (s.hold.core.flip s.hold.core.tau).n ++
        bF s.hold.core.spN ++ bF s.hold.core.spE ++ bF s.hold.core.spShown)) (s.arrive t)) ∧
  (s.takes opRefQuery t x q false p = true →
    Does (.refQuery t x.num q p) s (s.replyOf x q 0x0401 stDone
      (leBytes 2 (s.slot (fld p 0 1)).state.code ++ leBytes 2 (s.slot (fld p 0 1)).reason ++ bF (s.slot (fld p 0 1)).share ++
        bF ((s.slot (fld p 0 1)).nis.getD 0) ++
        leBytes 4 ((s.slot (fld p 0 1)).rejections.filter (fun a => max s.now t < a + 600000000000)).length ++
        leBytes 8 (s.slot (fld p 0 1)).lastNewAt)) (s.arrive t)) ∧
  (s.takes opAlcQuery t x q false p = true →
    Does (.alcQuery t x.num q p) s (s.replyOf x q 0x0502 stDone
      (leBytes 2 s.alc.status ++ zeros 2 ++ leBytes 4 s.alc.flags.toNat ++ bF s.alc.slack.x ++ bF s.alc.slack.y ++ bF s.alc.slack.n ++
        bF s.alc.power ++ leBytes 4 s.alc.iter ++ leBytes 4 s.alc.repeatRun)) (s.arrive t)) ∧
  (s.takes opThrQuery t x q false p = true →
    Does (.thrQuery t x.num q p) s (s.replyOf x q 0x0510 stDone
      (leBytes 2 (s.tch (fld p 0 1)).state ++ leBytes 2 (s.tch (fld p 0 1)).fault ++ bF (s.tch (fld p 0 1)).outT ++
        leBytes 4 (s.tch (fld p 0 1)).actAng.toNat ++ bF ((s.tch (fld p 0 1)).azUsed.getD {}).a ++ bF (s.tch (fld p 0 1)).gate ++
        bF (s.tch (fld p 0 1)).tMeas ++ leBytes 4 (s.tch (fld p 0 1)).cnt)) (s.arrive t)) ∧
  (s.takes opCqaQuery t x q false p = true →
    Does (.cqaQuery t x.num q p) s (s.replyOf x q 0x0600 stDone
      (leBytes 4 s.cqa.nPosed ++ leBytes 4 (s.caseCount 0) ++ leBytes 4 (s.caseCount 1) ++ leBytes 4 (s.caseCount 2) ++ leBytes 4 s.worstCase ++
        bF (if s.worstCase = 0 then 0 else (s.caseSt s.worstCase).res.margin.getD 0) ++
        bF (if s.worstCase = 0 then 0 else (s.caseSt s.worstCase).res.trec.getD 0) ++ leBytes 4 (s.began opCqaQuery t x q false p).cqaFlags)) (s.arrive t)) ∧
  (s.takes opCqaCaseQuery t x q false p = true →
    Does (.cqaCaseQuery t x.num q p) s (s.replyOf x q 0x0601 stDone
      ((s.caseSt (fld p 0 1)).reply ((s.parL .CQA_NAME (fld p 0 1)).map (fun (c : Rat) => byte (natOf c))))) (s.arrive t)) ∧
  (s.takes opHenStatus t x q false p = true →
    Does (.henStatus t x.num q p) s (s.replyOf x q 0x0D01 stDone
      (leBytes 4 s.henStat ++ leBytes 4 s.hen.err ++ [0, 1, 2, 3].flatMap (fun (k : Nat) =>
        [byte (s.hq k).depth, byte (b2n (s.hqRunning k)), byte (b2n (s.hqSusp k)), 0]))) (s.arrive t))) ∧
  (∀ (t q : Nat) (p : List Byte) (s : State) (x : Session),
  (s.takes opTimeQuery t x q false p = true →
    Does (.timeQuery t x.num q p) s (s.replyOf x q 0x0700 stDone (opTimeQuery.run (s.began opTimeQuery t x q false p) x.num q p).2) (s.arrive t) ∧
    (opTimeQuery.run (s.began opTimeQuery t x q false p) x.num q p).2.length = 48 ∧
    slice 0 1 (opTimeQuery.run (s.began opTimeQuery t x q false p) x.num q p).2 = [byte s.tmu.selVc] ∧
    slice 8 8 (opTimeQuery.run (s.began opTimeQuery t x q false p) x.num q p).2 = leBytes 8 (s.arrive t).sel) ∧
  (s.takes opCanQuery t x q false p = true →
    Does (.canQuery t x.num q p) s (s.replyOf x q 0x0800 stDone
      (leBytes 2 (s.port (fld p 0 1)).state ++ [byte (min (s.port (fld p 0 1)).tec 255), byte (min (s.port (fld p 0 1)).rec_ 255)] ++
        leBytes 4 (s.port (fld p 0 1)).nom ++ leBytes 4 (s.port (fld p 0 1)).dat ++ leBytes 4 (s.port (fld p 0 1)).lastClash ++
        leBytes 4 (s.port (fld p 0 1)).lastClashPos ++ bF (s.port (fld p 0 1)).load)) (s.arrive t)) ∧
  (s.takes opCanNodeList t x q false p = true →
    Does (.canNodeList t x.num q p) s (s.replyOf x q 0x0803 stDone (opCanNodeList.run (s.arrive t) x.num q p).2) (s.arrive t) ∧
    (opCanNodeList.run (s.arrive t) x.num q p).2.length =
      4 + 16 * min 40 ((s.port (fld p 0 1)).nodes.length - fld p 1 1)) ∧
  (s.takes opSerQuery t x q false p = true →
    Does (.serQuery t x.num q p) s (s.replyOf x q 0x0804 stDone
      (leBytes 4 (s.ser (fld p 0 1)).accepted.toNat ++ leBytes 4 (s.ser (fld p 0 1)).bad.toNat ++ leBytes 4 (s.ser (fld p 0 1)).charErr.toNat ++
        leBytes 4 ((s.arrive t).serAge (fld p 0 1)))) (s.arrive t)) ∧
  (s.takes opPointRead t x q false p = true →
    Does (.pointRead t x.num q p) s (s.replyOf x q 0x0810 stDone
      (p.take 8 ++ (List.range (fld p 4 2)).flatMap (fun i => (s.point (fld p 0 4 + i)).bytes))) (s.arrive t)) ∧
  (s.takes opProducerList t x q false p = true →
    Does (.producerList t x.num q p) s (s.replyOf x q 0x0816 stDone (opProducerList.run (s.arrive t) x.num q p).2) (s.arrive t)) ∧
  (s.takes opFioQuery t x q false p = true →
    Does (.fioQuery t x.num q p) s (s.replyOf x q 0x0820 stDone
      (leBytes 4 (s.fioStat (fld p 0 1)) ++ leBytes 4 (s.fioGstat (groupOf (fld p 0 1))) ++ leBytes 8 (s.point (fioPoint (fld p 0 1))).ts))
      (s.arrive t)))

/-- Each hold command that is taken waits for the next fence, in journal order, and changes nothing else. R97, R98, R111, R113, R124. A hold command
is refused with NOT_IN_MODE outside STANDBY and HOLD, an end other than END1 and END2 with BAD_PARAM: the checks that an accepted hold command has
passed. R111, R132, R345. -/
def Obligations.HoldCommands : Prop :=
  (∀ (t q : Nat) (p : List Byte) (s : State) (x : Session),
  (s.takes opHoldSelectFunction t x q false p = true →
    Does (.holdSelectFunction t x.num q p) s (s.replyOf x q 0x0300 stDone []) { s.arrive t with hold := { s.hold with
      pend := s.hold.pend ++ [.select (fld p 0 1) (bitOf (fld p 1 1) 0) (bitOf (fld p 1 1) 1) (fld p 2 1)] } }) ∧
  (s.takes opHoldSetSetpoint t x q false p = true →
    Does (.holdSetSetpoint t x.num q p) s (s.replyOf x q 0x0301 stDone []) { s.arrive t with hold := { s.hold with
      pend := s.hold.pend ++ [.setpoint (fldF p 0) (fldF p 4) (fldF p 8) (bitOf (fld p 12 1) 0) (bitOf (fld p 12 1) 1)] } }) ∧
  (s.takes opHoldSetEnd t x q false p = true →
    Does (.holdSetEnd t x.num q p) s (s.replyOf x q 0x0302 stDone []) { s.arrive t with hold := { s.hold with
      pend := s.hold.pend ++ [.setEnd (fld p 0 1)] } }) ∧
  (s.takes opHoldBprSet t x q false p = true →
    Does (.holdBprSet t x.num q p) s (s.replyOf x q 0x0303 stDone []) { s.arrive t with hold := { s.hold with
      pend := s.hold.pend ++ [.bprSet (fldF p 0) (fldF p 4)] } })) ∧
  (∀ (t : Nat) (p : List Byte) (s : State) (x : Session),
  (s.sys.mode ≠ .standby → s.sys.mode ≠ .hold →
    opHoldSelectFunction.chk (s.asked t x) x.num p ≠ stDone ∧ opHoldSetSetpoint.chk (s.asked t x) x.num p ≠ stDone ∧
    opHoldSetEnd.chk (s.asked t x) x.num p ≠ stDone ∧ opHoldBprSet.chk (s.asked t x) x.num p ≠ stDone ∧
    opHoldStatus.chk (s.asked t x) x.num p = stNotInMode) ∧
  (fld p 0 1 ≠ 1 → fld p 0 1 ≠ 2 → opHoldSetEnd.chk (s.asked t x) x.num p = stBadParam) ∧
  ((s.sys.mode = .standby ∨ s.sys.mode = .hold) → (fld p 0 1 = 1 ∨ fld p 0 1 = 2) → opHoldSetEnd.chk (s.asked t x) x.num p = stDone) ∧
  (4 < fld p 0 1 → opHoldSelectFunction.chk (s.asked t x) x.num p = stBadParam))

/-- The commands of the references, the estimator, allocation and consequence analysis wait for the next fence; a what-if query is ACCEPTED and waits
as an item. R67, R74, R84, R136, R164, R188, R193. THR_CLEAR clears the latched faults of a channel and returns a FAILED one to service; THR_ENABLE
leaves its request for the channel's next slice. R264, R265. -/
def Obligations.FenceAndChannelCommands : Prop :=
  (∀ (t q : Nat) (p : List Byte) (s : State) (x : Session),
  (s.takes opRefSelect t x q false p = true →
    Does (.refSelect t x.num q p) s (s.replyOf x q 0x0400 stDone [])
      { s.arrive t with est := { s.est with pendSelect := s.est.pendSelect ++ [(fld p 0 1, decide (fld p 1 1 = 1))] } }) ∧
  (s.takes opRefRetry t x q false p = true →
    Does (.refRetry t x.num q p) s (s.replyOf x q 0x0402 stDone [])
      { s.arrive t with est := { s.est with pendRetry := s.est.pendRetry ++ [fld p 0 1] } }) ∧
  (s.takes opEstReinit t x q false p = true →
    Does (.estReinit t x.num q p) s (s.replyOf x q 0x0403 stDone []) { s.arrive t with est := { s.est with pendReinit := true } }) ∧
  (s.takes opAlcSelect t x q false p = true →
    Does (.alcSelect t x.num q p) s (s.replyOf x q 0x0500 stDone [])
      { s.arrive t with alc := { s.alc with pendSelect := s.alc.pendSelect ++ [(fld p 0 1, decide (fld p 1 1 = 1))] } }) ∧
  (s.takes opAlcSetBerm t x q false p = true →
    Does (.alcSetBerm t x.num q p) s (s.replyOf x q 0x0501 stDone [])
      { s.arrive t with alc := { s.alc with pendBerm := some (decide (fld p 0 1 = 1)) } }) ∧
  (s.takes opAlcLearnReset t x q false p = true →
    Does (.alcLearnReset t x.num q p) s (s.replyOf x q 0x0503 stDone [])
      { s.arrive t with alc := { s.alc with
        pendLearnReset := s.alc.pendLearnReset ++ (if fld p 0 1 = 0 then thrAll else [fld p 0 1]) } }) ∧
  (s.takes opCqaCaseEnable t x q false p = true →
    Does (.cqaCaseEnable t x.num q p) s (s.replyOf x q 0x0602 stDone [])
      { s.arrive t with cqa := { s.cqa with pendEnable := s.cqa.pendEnable ++ [(fld p 0 1, decide (fld p 1 1 = 1))] } }) ∧
  (s.takes opCqaWhatif t x q true p = true →
    Does (.cqaWhatif t x.num q p) s (s.replyOf x q 0x0603 stAccepted [])
      { s.arrive t with cqa := { s.cqa with whatif := s.cqa.whatif ++
        [{ session := x.num, seq := q, loss := whatifLoss p
           demand := if (fld p 24 1).testBit 0 then some { x := fldF p 12, y := fldF p 16, n := fldF p 20 } else none }] } })) ∧
  (∀ (t q : Nat) (p : List Byte) (s : State) (x : Session),
  (s.takes opThrClear t x q false p = true → (s.tch (fld p 0 1)).state ≠ 6 →
    Does (.thrClear t x.num q p) s (s.replyOf x q 0x0511 stDone []) ((s.arrive t).modTch (fld p 0 1) (fun c => { c with fault := 0 }))) ∧
  (s.takes opThrClear t x q false p = true → (s.tch (fld p 0 1)).state = 6 →
    Does (.thrClear t x.num q p) s (s.replyOf x q 0x0511 stDone [])
      (((s.arrive t).modTch (fld p 0 1) (fun c => { c with fault := 0 })).modTch (fld p 0 1) (fun c => { c with
        state := 1, zero := false, rampOut := false, frozenAng := none, outRun := c.actRun, aoOff := [false, false, false]
        timers := { c.timers with clearSince := none } }))) ∧
  (s.takes opThrEnable t x q false p = true →
    Does (.thrEnable t x.num q p) s (s.replyOf x q 0x0512 stDone []) ((s.arrive t).modTch (fld p 0 1) (fun c => { c with
      en := decide (fld p 1 1 = 1), pendEn := some (decide (fld p 1 1 = 1)), pendAt := max s.now t }))))

/-- TIME_SELECT forces or releases the frame's choice, TIME_PULSE programs, arms and disarms an output, TIME_STEP_ALLOW releases the pending steps it
names. R310, R313, R325, R327, R331. The commands of the ports and the field channels: recovery is ACCEPTED and waits with its deadline, rate
detection starts, a pulse is ACCEPTED and its output commanded on; FIO_SET, FIO_CLEAR and FIO_GROUP_RESTORE act on the channels they name. R464, R470,
R483, R486, R498. -/
def Obligations.TimeAndFieldCommands : Prop :=
  (∀ (t q : Nat) (p : List Byte) (s : State) (x : Session),
  (s.takes opTimeSelect t x q false p = true →
    Does (.timeSelect t x.num q p) s (s.replyOf x q 0x0701 stDone []) { s.arrive t with tmu := { s.tmu with force := fld p 0 1 } }) ∧
  (s.takes opTimePulse t x q false p = true → (fld p 1 1).testBit 1 = false → (fld p 1 1).testBit 0 = false →
    Does (.timePulse t x.num q p) s (s.replyOf x q 0x0702 stDone []) ((s.arrive t).modPulse (fld p 0 1) (fun y => { y with
      clk := fld p 2 1, pol := decide (fld p 3 1 = 1), start := fld p 4 8, period := fld p 12 4, width := fld p 16 4 }))) ∧
  (s.takes opTimePulse t x q false p = true → (fld p 1 1).testBit 1 = false → (fld p 1 1).testBit 0 = true →
    Does (.timePulse t x.num q p) s (s.replyOf x q 0x0702 stDone []) (((s.arrive t).modPulse (fld p 0 1) (fun y => { y with
      clk := fld p 2 1, pol := decide (fld p 3 1 = 1), start := fld p 4 8, period := fld p 12 4, width := fld p 16 4 })).pulseArm (fld p 0 1))) ∧
  (s.takes opTimePulse t x q false p = true → (fld p 1 1).testBit 1 = true → (s.pulse (fld p 0 1)).armed = true →
    Does (.timePulse t x.num q p) s (s.replyOf x q 0x0702 stDone []) ((s.arrive t).modPulse (fld p 0 1) (fun y => { y with
      armed := false, armAfter := false, abortedF := y.abortedF || !y.high }))) ∧
  (s.takes opTimeStepAllow t x q false p = true → fld p 0 1 = 1 →
    Does (.timeStepAllow t x.num q p) s (s.replyOf x q 0x0703 stDone []) ((s.arrive t).stepAllow 0)) ∧
  (s.takes opTimeStepAllow t x q false p = true → fld p 0 1 = 2 →
    Does (.timeStepAllow t x.num q p) s (s.replyOf x q 0x0703 stDone []) ((s.arrive t).stepAllow 1)) ∧
  (s.takes opTimeStepAllow t x q false p = true → fld p 0 1 = 3 →
    Does (.timeStepAllow t x.num q p) s (s.replyOf x q 0x0703 stDone []) (((s.arrive t).stepAllow 0).stepAllow 1))) ∧
  (∀ (t q : Nat) (p : List Byte) (s : State) (x : Session),
  (s.takes opBusRecover t x q true p = true →
    Does (.busRecover t x.num q p) s (s.replyOf x q 0x0801 stAccepted []) ((s.arrive t).modPort (fld p 0 1) (fun c => { c with
      state := 5, recover := some (x.num, q, max s.now t + s.parNs .BUS_RECOVER_TIMEOUT) }))) ∧
  (s.takes opCanRateDetect t x q false p = true →
    exec (.canRateDetect t x.num q p) s = .next (s.ended opCanRateDetect t x q false p) ∧
    opCanRateDetect.run (s.began opCanRateDetect t x q false p) x.num q p =
      (((s.began opCanRateDetect t x q false p).disablePort (fld p 0 1) abDisabled).startDetect (fld p 0 1), [])) ∧
  (s.takes opFioPulse t x q true p = true →
    Does (.fioPulse t x.num q p) s (s.replyOf x q 0x0822 stAccepted []) (((s.arrive t).modFch (fld p 0 1) (fun c => { c with
      cmd := true
      pulse := some { session := x.num, seq := q, start := max s.now t, stop := max s.now t + fld p 4 4 * 1000000 } })).fioFollow1
        (fld p 0 1))) ∧
  (s.takes opFioSet t x q false p = true →
    exec (.fioSet t x.num q p) s = .next (s.ended opFioSet t x q false p) ∧
    opFioSet.run (s.began opFioSet t x q false p) x.num q p = ((s.began opFioSet t x q false p).fioSet p, [])) ∧
  (s.takes opFioClear t x q false p = true →
    exec (.fioClear t x.num q p) s = .next (s.ended opFioClear t x q false p) ∧
    opFioClear.run (s.began opFioClear t x q false p) x.num q p = ((s.began opFioClear t x q false p).fioClear p, [])) ∧
  (s.takes opFioGroupRestore t x q false p = true →
    exec (.fioGroupRestore t x.num q p) s = .next (s.ended opFioGroupRestore t x q false p) ∧
    opFioGroupRestore.run (s.began opFioGroupRestore t x q false p) x.num q p =
      ((s.began opFioGroupRestore t x q false p).fioGroupRestore (fld p 0 1), [])))

/-- POINT_WRITE replaces a configured point that is not forced: its value, type, quality, source 0xFFFD, timestamp and next sequence number, and no
other point. Behind a force the write is kept and the point stays. POINT_FORCE writes quality FORCED and keeps what stood before. R375, R380, R384. -/
def Obligations.PointCommands : Prop := ∀ (t q : Nat) (p : List Byte) (s : State) (x : Session),
  (s.takes opPointWrite t x q false p = true → s.force? (fld p 0 4) = none →
    ∃ u, exec (.pointWrite t x.num q p) s = .next u ∧ s.replyOf x q 0x0811 stDone [] ∈ u.sent ∧
      u.point (fld p 0 4) = {
        value := BitVec.ofNat 64 (fld p 8 8), ts := if fld p 16 8 = 0 then (s.arrive t).sel else fld p 16 8
        seq := pseqNext (s.point (fld p 0 4)).seq, qual := BitVec.ofNat 16 (fld p 4 2), src := 0xFFFD, typ := byte (s.cfgType (fld p 0 4)) } ∧
      ∀ k, k ≠ fld p 0 4 → u.point k = s.point k) ∧
  (∀ f, s.takes opPointWrite t x q false p = true → s.force? (fld p 0 4) = some f →
    ∃ u, exec (.pointWrite t x.num q p) s = .next u ∧ s.replyOf x q 0x0811 stDone [] ∈ u.sent ∧
      (∀ k, u.point k = s.point k) ∧
      u.force? (fld p 0 4) = some { f with
        keptAt := max s.now t
        kept := some {
          value := BitVec.ofNat 64 (fld p 8 8), ts := if fld p 16 8 = 0 then (s.arrive t).sel else fld p 16 8
          seq := 0, qual := BitVec.ofNat 16 (fld p 4 2), src := 0xFFFD, typ := byte (s.cfgType (fld p 0 4)) } }) ∧
  (s.takes opPointForce t x q false p = true → s.force? (fld p 0 4) = none →
    ∃ u, exec (.pointForce t x.num q p) s = .next u ∧ s.replyOf x q 0x0812 stDone [] ∈ u.sent ∧
      u.point (fld p 0 4) = {
        value := BitVec.ofNat 64 (fld p 8 8), ts := (s.arrive t).sel
        seq := pseqNext (s.point (fld p 0 4)).seq, qual := qForced, src := 0xFFFD, typ := byte (s.cfgType (fld p 0 4)) } ∧
      u.force? (fld p 0 4) = some { before := s.point (fld p 0 4) } ∧
      ∀ k, k ≠ fld p 0 4 → u.point k = s.point k ∧ u.force? k = s.force? k) ∧
  (∀ f k, s.takes opPointUnforce t x q false p = true → s.force? (fld p 0 4) = some f → f.kept = some k →
    ∃ u, exec (.pointUnforce t x.num q p) s = .next u ∧ s.replyOf x q 0x0813 stDone [] ∈ u.sent ∧
      u.point (fld p 0 4) = { k with seq := pseqNext (s.point (fld p 0 4)).seq } ∧
      u.force? (fld p 0 4) = none ∧
      ∀ n, n ≠ fld p 0 4 → u.point n = s.point n) ∧
  (s.takes opPointSubscribe t x q false p = true →
    Does (.pointSubscribe t x.num q p) s (s.replyOf x q 0x0814 stDone (leBytes 2 s.subNum)) { s.arrive t with pnt := { s.pnt with
      subs := s.pnt.subs ++ [{
        num := s.subNum, session := x.num, points := subPoints p, onChange := decide (fld p 2 1 = 1), period := fld p 3 1
        last := (subPoints p).map (fun i => (i, (s.point i).seq, (s.point i).qual)), iface := x.iface, addr := x.addr, port := x.port }]
      nextSub := s.subNum % 65535 + 1 } }) ∧
  (s.takes opPointUnsubscribe t x q false p = true →
    Does (.pointUnsubscribe t x.num q p) s (s.replyOf x q 0x0815 stDone []) { s.arrive t with pnt := { s.pnt with
      subs := s.pnt.subs.filter (fun b => b.num ≠ fld p 0 2) } })

/-- LOG_FREEZE starts the freeze at its own record, LOG_THAW ends it, LOG_EXPORT and LOG_SPILL_END are ACCEPTED and wait for their end. R530, R531,
R536, R541. SAFE_RESET, SAFE_BRAKE_TEST, SAFE_CFG_CONFIRM and SAFE_STOP act on both technologies of the safety section, and a pair's unit passes a
reset and a stop on to its peer. R431, R432, R439, R448, R453. -/
def Obligations.RecorderAndSafetyCommands : Prop :=
  (∀ (t q : Nat) (p : List Byte) (s : State) (x : Session),
  (s.takes opLogFreeze t x q false p = true →
    Does (.logFreeze t x.num q p) s (s.replyOf x q 0x0900 stDone
      (leBytes 4 (s.began opLogFreeze t x q false p).takeSeq.1.toNat ++ leBytes 4 (s.began opLogFreeze t x q false p).logFreeze.logTail.toNat ++
        leBytes 4 (s.began opLogFreeze t x q false p).logFreeze.log.snapNum.toNat)) (s.arrive t) ∧
    exec (.logFreeze t x.num q p) s = .next (s.ended opLogFreeze t x q false p) ∧
    (opLogFreeze.run (s.began opLogFreeze t x q false p) x.num q p).1 = (s.began opLogFreeze t x q false p).logFreeze ∧
    (s.began opLogFreeze t x q false p).logFreeze.log.state = 1 ∧
    (s.began opLogFreeze t x q false p).logFreeze.log.freezeAt = max s.now t ∧
    (EvCode.LOG_FROZEN, 0) ∈ (s.began opLogFreeze t x q false p).logFreeze.alarms) ∧
  (s.takes opLogThaw t x q false p = true →
    Does (.logThaw t x.num q p) s (s.replyOf x q 0x0901 stDone (leBytes 4 (s.began opLogThaw t x q false p).log.queue.length ++
      leBytes 4 (s.began opLogThaw t x q false p).log.frozenSnaps.length)) (s.arrive t) ∧
    exec (.logThaw t x.num q p) s = .next (s.ended opLogThaw t x q false p) ∧
    (opLogThaw.run (s.began opLogThaw t x q false p) x.num q p).1 = (s.began opLogThaw t x q false p).logThaw 0) ∧
  (s.takes opLogExport t x q true p = true →
    Does (.logExport t x.num q p) s (s.replyOf x q 0x0905 stAccepted []) (s.arrive t) ∧
    exec (.logExport t x.num q p) s = .next { s.began opLogExport t x q true p with
      log := { (s.began opLogExport t x q true p).log with exporting := some (x.num, q) } }) ∧
  (s.takes opLogSpillEnd t x q true p = true →
    Does (.logSpillEnd t x.num q p) s (s.replyOf x q 0x0906 stAccepted []) (s.arrive t) ∧
    exec (.logSpillEnd t x.num q p) s = .next { s.began opLogSpillEnd t x q true p with
      log := { (s.began opLogSpillEnd t x q true p).log with spillEnd := some (x.num, q) } })) ∧
  (∀ (t q : Nat) (p : List Byte) (s : State) (x : Session),
  (s.takes opSafeReset t x q false p = true →
    exec (.safeReset t x.num q p) s = .next (s.ended opSafeReset t x q false p) ∧
    (opSafeReset.run (s.began opSafeReset t x q false p) x.num q p).1 =
      if fld p 0 1 = 1 ∧ (s.began opSafeReset t x q false p).resetHere.pairUnit then
        (s.began opSafeReset t x q false p).resetHere.emit .resetToPeer
      else (s.began opSafeReset t x q false p).resetHere) ∧
  (s.takes opSafeBrakeTest t x q true p = true →
    exec (.safeBrakeTest t x.num q p) s = .next (s.ended opSafeBrakeTest t x q true p) ∧
    opSafeBrakeTest.run (s.began opSafeBrakeTest t x q true p) x.num q p =
      (((s.began opSafeBrakeTest t x q true p).modSafe (fun y => y.modBrake (fld p 0 1) (fun k => { k with
        test := some { t0 := (s.began opSafeBrakeTest t x q true p).now, session := x.num, seq := q } }))).safeBoth, [])) ∧
  (s.takes opSafeCfgConfirm t x q false p = true →
    exec (.safeCfgConfirm t x.num q p) s = .next (s.ended opSafeCfgConfirm t x q false p) ∧
    opSafeCfgConfirm.run (s.began opSafeCfgConfirm t x q false p) x.num q p = ((s.began opSafeCfgConfirm t x q false p).safeConfirm, [])) ∧
  (s.takes opSafeStop t x q false p = true →
    exec (.safeStop t x.num q p) s = .next (s.ended opSafeStop t x q false p) ∧
    opSafeStop.run (s.began opSafeStop t x q false p) x.num q p = ((s.began opSafeStop t x q false p).requestStop (fld p 0 1), [])))

/-- ROLE_ROTATE and WARDEN_RELEASE schedule the hand-over and name frame N+2; WARDEN_PROMOTE makes W take authority, and in lease mode its DONE waits
for the lease. R413, R416, R417. SET_MODE: without leases STANDBY to HOLD waits for the authority check of the next frame; with them it is ACCEPTED
and waits 200 ms for pair authority; HOLD to STANDBY waits for the release; KEEP is answered before it begins; every other change it admits is made at
once. R574–R576. -/
def Obligations.AuthorityAndModeCommands : Prop :=
  (∀ (t q : Nat) (p : List Byte) (s : State) (x : Session),
  (s.takes opRoleRotate t x q false p = true →
    Does (.roleRotate t x.num q p) s (s.replyOf x q 0x0B01 stDone (leBytes 4 (s.frame.number + 2)))
      ((s.arrive t).modRed (fun r => { r with rotation := some 0, rotationTo := s.peerOf.getD 0 }))) ∧
  (s.takes opWardenRelease t x q false p = true →
    Does (.wardenRelease t x.num q p) s (s.replyOf x q 0x0B03 stDone (leBytes 4 (s.frame.number + 2)))
      ((s.arrive t).modRed (fun r => { r with rotation := some 0, rotationTo := (s.arrive t).releaseTo.getD 0 }))) ∧
  (s.takes opWardenPromote t x q false p = true → s.arbiter = false →
    exec (.wardenPromote t x.num q p) s = .next (s.ended opWardenPromote t x q false p) ∧
    opWardenPromote.run (s.began opWardenPromote t x q false p) x.num q p = ((s.began opWardenPromote t x q false p).wardenTake 5, [])) ∧
  (s.takes opWardenPromote t x q false p = true → s.arbiter = true →
    exec (.wardenPromote t x.num q p) s = .next (s.ended opWardenPromote t x q false p) ∧
    opWardenPromote.defer (s.began opWardenPromote t x q false p) p = true ∧
    ∀ b : State, b.arbiter = true → opWardenPromote.run b x.num q p =
      ((b.modRed (fun r => { r with promoteReq := some (x.num, q) })).wardenStep, []))) ∧
  (∀ (t q : Nat) (p : List Byte) (s : State) (x : Session),
  (s.takes opSetMode t x q false p = true → modeOfCode (fld p 0 1) = some .hold → s.leaseMode = false →
    Does (.setMode t x.num q p) s (s.replyOf x q 0x0103 stDone []) ((s.arrive t).modRed (fun r => { r with gainDue := true }))) ∧
  (s.takes opSetMode t x q true p = true → modeOfCode (fld p 0 1) = some .hold → s.leaseMode = true →
    Does (.setMode t x.num q p) s (s.replyOf x q 0x0103 stAccepted []) { s.arrive t with
      red := { s.red with pairHold := true }, sys := { s.sys with holdReq := some (x.num, q, max s.now t + 200000000) } }) ∧
  (s.takes opSetMode t x q false p = true → modeOfCode (fld p 0 1) = some .standby → s.sys.mode = .hold →
    Does (.setMode t x.num q p) s (s.replyOf x q 0x0103 stDone []) { s.arrive t with
      sys := { s.sys with leavingHold := some (s.sys.leavingHold.getD (max s.now t)) } }) ∧
  (∀ m, s.takes opSetMode t x q false p = true → fld p 0 1 ≠ 0 → modeOfCode (fld p 0 1) = some m → m ≠ .hold → s.sys.mode ≠ .hold →
    exec (.setMode t x.num q p) s = .next (s.ended opSetMode t x q false p) ∧
    opSetMode.run (s.began opSetMode t x q false p) x.num q p = ((s.began opSetMode t x q false p).setMode m 0, [])) ∧
  (s.takes opSetMode t x q false p = true → fld p 0 1 = 0 →
    exec (.setMode t x.num q p) s = .next (s.ended opSetMode t x q false p) ∧
    opSetMode.defer (s.began opSetMode t x q false p) p = true ∧
    ∀ b : State, opSetMode.run b x.num q p = ((b.deferredDone x.num q 0x0103 []).enterKeep (fld p 4 4), [])))

/-- CLOSE_SESSION is answered DONE; with no command of the session still to complete its slot is free at once. OPEN_SESSION that names no session, of
a client that has none, takes a slot that is free under the next number. R340, R343, R344. The commands of the unit's image store, keys, restarts and
domains. R22, R342, R578, R581, R592. -/
def Obligations.SessionAndUnitCommands : Prop :=
  (∀ (t q : Nat) (p : List Byte) (s : State) (x : Session),
  (s.takes opCloseSession t x q false p = true → (∀ a ∈ s.cmd.accepted, a.1 ≠ x.num) →
    ∃ u, exec (.closeSession t x.num q p) s = .next u ∧ s.replyOf x q 0x0106 stDone [] ∈ u.sent ∧ u.sess? x.num = none) ∧
  (∀ (iface : Iface) (addr port client : Nat) (auth : Bool) (r : Role), s.hears = true → roleOf (fld p 0 1) = some r → portAdmits r iface = true →
    (if auth then (s.roleKey r).isSome else s.openFree r iface) = true → 20 ≤ p.length → (fld p 1 1).testBit 0 = false →
    ((fld p 1 1).testBit 1 = true ∨ s.pairOk = true) → (∀ y ∈ s.cmd.sessions, y.client ≠ client ∧ y.num ≠ s.cmd.nextSession) → s.cmd.sessions.length < 256 →
    ∃ u y, exec (.openSession t iface addr port client 0 auth p) s = .next u ∧ u.sess? s.cmd.nextSession = some y ∧
      y.client = client ∧ y.role = r ∧ y.auth = auth ∧ y.pair = !(fld p 1 1).testBit 1 ∧ y.e = 1 ∧ y.openNonce = slice 4 16 p ∧
      u.cmd.nextSession = seqNext s.cmd.nextSession)) ∧
  (∀ (t q : Nat) (p : List Byte) (s : State) (x : Session),
  (s.takes opSysRestart t x q false p = true →
    Does (.sysRestart t x.num q p) s (s.replyOf x q 0x0C05 stDone []) { s.arrive t with
      sys := { s.sys with restartAt := some (max s.now t + 100000000, (fld p 0 1).testBit 0) } }) ∧
  (s.takes opKeyWrite t x q false p = true → fld p 0 1 = 0x10 →
    Does (.keyWrite t x.num q p) s (s.replyOf x q 0x0C06 stDone []) ((s.arrive t).modKeep (fun k => { k with integKey := p.drop 4 }))) ∧
  (s.takes opKeyWrite t x q false p = true → fld p 0 1 ≠ 0x10 → fld p 0 1 ≠ 3 →
    Does (.keyWrite t x.num q p) s (s.replyOf x q 0x0C06 stDone [])
      ((s.arrive t).modKeep (fun k => { k with roleKeys := assocSet k.roleKeys (fld p 0 1) ((p.drop 4).take 32) }))) ∧
  (s.takes opKeyWrite t x q false p = true → fld p 0 1 = 3 →
    exec (.keyWrite t x.num q p) s = .next (s.ended opKeyWrite t x q false p) ∧
    ∀ b : State, opKeyWrite.run b x.num q p =
      ((b.modKeep (fun k => { k with roleKeys := assocSet k.roleKeys 3 ((p.drop 4).take 32) })).modSess x.num
        (fun y => { y with closing := y.closing || y.keyLoad }), [])) ∧
  (s.takes opImgStage t x q false p = true →
    Does (.imgStage t x.num q p) s (s.replyOf x q 0x0C00 stDone []) { s.arrive t with
      sys := { s.sys with stage := stageAt s.sys.stage (fld p 0 4) (p.drop 6) } }) ∧
  (s.takes opImgVerify t x q true p = true →
    Does (.imgVerify t x.num q p) s (s.replyOf x q 0x0C01 stAccepted []) { s.arrive t with
      sys := { s.sys with verifying := some (x.num, q, fld p 0 4) } }) ∧
  (s.takes opImgActivate t x q false p = true → fld p 0 1 ≠ 0x80 →
    Does (.imgActivate t x.num q p) s (s.replyOf x q 0x0C02 stDone [])
      ((s.arrive t).modImg (fld p 0 1) (fun y => { y with active := 1 - y.active, trialDue := true, trial := none }))) ∧
  (s.takes opImgActivate t x q false p = true → fld p 0 1 = 0x80 →
    exec (.imgActivate t x.num q p) s = .next (s.ended opImgActivate t x q false p) ∧
    ∀ b : State, opImgActivate.run b x.num q p =
      ((b.modImg 0x80 (fun y => { y with active := 1 - y.active, trialDue := true, trial := none })).partRestart, [])) ∧
  (s.takes opDomainDrain t x q false p = true →
    Does (.domainDrain t x.num q p) s (s.replyOf x q 0x0C03 stDone []) (s.arrive t)) ∧
  (s.takes opDomainDrain t x q true p = true →
    exec (.domainDrain t x.num q p) s = .next (s.ended opDomainDrain t x q true p) ∧
    s.dom (fld p 0 1) = true ∧
    ∀ b : State, b.dom (fld p 0 1) = true → opDomainDrain.run b x.num q p = (b.drainStart x.num q (fld p 0 1), [])) ∧
  (s.takes opDomainRestore t x q false p = true →
    Does (.domainRestore t x.num q p) s (s.replyOf x q 0x0C04 stDone []) (s.arrive t)) ∧
  (s.takes opDomainRestore t x q true p = true →
    exec (.domainRestore t x.num q p) s = .next (s.ended opDomainRestore t x q true p) ∧
    s.dom (fld p 0 1) = false ∧
    ∀ b : State, b.dom (fld p 0 1) = false → opDomainRestore.run b x.num q p = (b.restoreStart x.num q (fld p 0 1), [])))

/-- The commands of the configuration: staging, validation, commit ten frame starts ahead, factory settings and the copy from the peer. R570, R585,
R586, R588. -/
def Obligations.ConfigurationCommands : Prop := ∀ (t q : Nat) (p : List Byte) (s : State) (x : Session),
  (s.takes opCfgStage t x q false p = true →
    ∃ v, Does (.cfgStage t x.num q p) s (s.replyOf x q 0x0201 stDone []) { s.arrive t with
      cfg := { s.cfg with staging := stageAt s.cfg.staging (fld p 0 4) (p.drop 12), validated := v } } ∧
      (v = none ∨ v = s.cfg.validated)) ∧
  (∀ f, s.takes opCfgValidate t x q false p = true → (s.began opCfgValidate t x q false p).stagedFail (fld p 0 4) (fld p 4 4) = f →
    Does (.cfgValidate t x.num q p) s (s.replyOf x q 0x0202 stDone (cfgReport (s.cfg.staging.take (fld p 0 4)) f)) { s.arrive t with
      cfg := { s.cfg with validated := if f.isNone then some (s.cfg.gen, wN (fld p 4 4), fld p 0 4) else none } }) ∧
  (∀ b v, s.takes opCfgCommit t x q false p = true → s.commitBody p = some b →
    v = ((s.arrive t).writeCopy s.nextGen b).safePend (s.withBody b).safeCanon →
    Does (.cfgCommit t x.num q p) s (s.replyOf x q 0x0203 stDone (leBytes 4 s.nextGen ++ leBytes 8 (s.frame.number + 10)))
      { v with cfg := { v.cfg with commit := some (s.nextGen, 10, b), commitOk := true } }) ∧
  (s.takes opCfgFactory t x q false p = true →
    exec (.cfgFactory t x.num q p) s = .next (s.ended opCfgFactory t x q false p) ∧
    opCfgFactory.defer (s.began opCfgFactory t x q false p) p = true ∧
    ∀ b : State, opCfgFactory.run b x.num q p = ((((b.deferredDone x.num q 0x0204 []).event .CFG_FACTORY_EV [wN (fld p 0 1)]).factory
      (fld p 0 1)).restartEnd.enterRestore 5 b.red.strap, [])) ∧
  (s.takes opCfgFromPeer t x q true p = true →
    Does (.cfgFromPeer t x.num q p) s (s.replyOf x q 0x0205 stAccepted []) { s.arrive t with
      sys := { s.sys with cfgFromPeer := some (x.num, q) } })

/-- The commands of the receiver: exclusion, bias and the withheld step act as named, the integrity latch clears, a restart begins anew. R282, R293,
R299, R302. HEN_SUBMIT is ACCEPTED and puts its job into the queue it names, HEN_CANCEL ends the job with its tag; then ended jobs are taken. R219,
R228. -/
def Obligations.ReceiverAndEngineCommands : Prop :=
  (∀ (t q : Nat) (p : List Byte) (s : State) (x : Session),
  (s.takes opSatRestart t x q false p = true → s.dom 8 = false →
    Does (.satRestart t x.num q p) s (s.replyOf x q 0x0E01 stDone []) (s.arrive t)) ∧
  (s.takes opSatRestart t x q false p = true → s.dom 8 = true →
    exec (.satRestart t x.num q p) s = .next (s.ended opSatRestart t x q false p) ∧
    ∀ b : State, b.dom 8 = true → opSatRestart.run b x.num q p =
      ((if b.satWithdraw.sat.time.qual = 1 then b.satWithdraw.satTimeMiss else b.satWithdraw.satLose).satBegin (match fld p 0 1 with | 0 => .hot | 1 => .warm | _ => .cold), [])) ∧
  (s.takes opSatIntegrityReset t x q false p = true →
    Does (.satIntegrityReset t x.num q p) s (s.replyOf x q 0x0E02 stDone []) { s.arrive t with
      sat := { s.sat with spoofLatched := false, spoofRun := [] } }) ∧
  (∀ e, s.takes opSatTimeAccept t x q false p = true → s.sat.time.held = some e →
    exec (.satTimeAccept t x.num q p) s = .next (s.ended opSatTimeAccept t x q false p) ∧
    ∀ b : State, b.sat.time.held = some e → opSatTimeAccept.run b x.num q p =
      ((((b.modSt (fun y => { y with latchedHold := false, err := e })).clearAlarm .TIME_INCONSISTENT).satTake e), [])) ∧
  (s.takes opSatExclude t x q false p = true →
    Does (.satExclude t x.num q p) s (s.replyOf x q 0x0E04 stDone []) { s.arrive t with sat := { s.sat with
      excluded := s.sat.excluded.filter (fun y => y ≠ (satSysOf (fld p 0 1), fld p 1 1)) ++
        (if fld p 2 1 = 1 then [(satSysOf (fld p 0 1), fld p 1 1)] else []) } }) ∧
  (s.takes opSatAntBias t x q false p = true → s.dom 8 = false →
    Does (.satAntBias t x.num q p) s (s.replyOf x q 0x0E05 stDone [])
      ((s.arrive t).modAnt (fld p 0 1) (fun y => { y with biasCmd := some (decide (fld p 1 1 = 1)) }))) ∧
  (s.takes opSatAntBias t x q false p = true → s.dom 8 = true →
    Does (.satAntBias t x.num q p) s (s.replyOf x q 0x0E05 stDone [])
      (((s.arrive t).modAnt (fld p 0 1) (fun y => { y with biasCmd := some (decide (fld p 1 1 = 1)) })).setBias (fld p 0 1)
        (decide (fld p 1 1 = 1))))) ∧
  (∀ (t q : Nat) (p : List Byte) (s : State) (x : Session),
  (s.takes opHenSubmit t x q true p = true →
    exec (.henSubmit t x.num q p) s = .next (s.ended opHenSubmit t x q true p) ∧
    ∀ b : State, opHenSubmit.run b x.num q p = ((b.henAccept (fld p 65 1) { descJob (slice 0 64 p) with
      origin := .command x.num q (fld p 64 1)
      inline := if fld p 64 1 = 0 then inlineProblems (descJob (slice 0 64 p)) (p.drop 68) else [] } (fld (slice 0 64 p) 16 4)).henSettle, [])) ∧
  (s.takes opHenCancel t x q false p = true →
    exec (.henCancel t x.num q p) s = .next (s.ended opHenCancel t x q false p) ∧
    ∀ b : State, opHenCancel.run b x.num q p = ((b.henCancel (fld p 0 1) (wN (fld p 4 4)) true).henSettle, [])))

/-- The peer and the journal: an acknowledged entry is marked, a command that waited for it runs; an acknowledgement that has not come within
CMD_MIRROR_TIMEOUT makes the peer absent; resynchronisation sends the entries of pair sessions not yet mirrored, or discards those the other does not
hold, and ends the absence; a mirrored entry is stored and answered. R347, R349, R351. -/
def Obligations.JournalEvents : Prop := ∀ (t j : Nat) (s : State), s.dom 3 = true →
  ((∀ f ∈ s.cmd.inflight, f.jnum ≠ j) →
    exec (.journalPeerAck t j) s = .next ((s.arrive t).modEntry j (fun e => { e with mirrored := true }))) ∧
  (∀ f, s.cmd.inflight.find? (fun f => f.jnum = j) = some f →
    exec (.journalPeerAck t j) s = .next (((State.modEntry { s.arrive t with cmd := { s.cmd with
      inflight := s.cmd.inflight.filter (fun g => g.jnum ≠ j), mirrorMaxNow := max s.cmd.mirrorMaxNow (max s.now t - f.sentAt) } } j
        (fun e => { e with mirrored := true })).proceed f).runHeld 64 f.session)) ∧
  ((∀ f ∈ s.cmd.inflight, f.jnum = j → max s.now t < f.sentAt + s.parMs .CMD_MIRROR_TIMEOUT) →
    exec (.journalMirrorTimeout t j) s = .next (s.arrive t)) ∧
  (∀ f, s.cmd.inflight = [f] → f.jnum = j → f.sentAt + s.parMs .CMD_MIRROR_TIMEOUT ≤ max s.now t →
    exec (.journalMirrorTimeout t j) s = .next
      (((State.modEntry (State.raiseAlarm { s.arrive t with cmd := { s.cmd with inflight := [], peerPresent := false, resync := false } }
        .JOURNAL_MIRROR_LOST) j (fun e => { e with single := true })).proceed f).runHeld 64 f.session)) ∧
  (∀ held, s.pairUnit = true → ∃ u, exec (.journalResyncComplete t held) s = .next u ∧ u.cmd.peerPresent = true ∧ u.cmd.resync = false ∧
    (s.cmd.pairAuth = true → u.cmd.journal = s.cmd.journal.map (fun e => { e with mirrored := e.mirrored || s.pairEntry e }) ∧
      ∀ e ∈ s.cmd.journal, s.pairEntry e = true → e.mirrored = false → .journal s.peerOnLan e ∈ u.sent) ∧
    (s.cmd.pairAuth = false → ∀ e ∈ u.cmd.journal, s.pairEntry e = true → e.num ∈ held ∧ e.mirrored = true)) ∧
  (∀ e, s.pairUnit = true → e.opcode ≠ 0x0105 → ∃ u, exec (.journalEntryMirrored t e) s = .next u ∧ .journalAck s.peerOnLan e.num ∈ u.sent) ∧
  (∀ e, s.pairUnit = true → e.opcode = 0x0105 → fld e.params 13 1 = 2 → (∀ a ∈ s.cmd.accepted, a.1 ≠ e.session) →
    ∃ u, exec (.journalEntryMirrored t e) s = .next u ∧ u.sess? e.session = none) ∧
  (∀ e x, s.pairUnit = true → e.opcode = 0x0105 → fld e.params 13 1 ≠ 2 → s.sess? e.session = some x →
    exec (.journalEntryMirrored t e) s = .next ((s.arrive t).modSess e.session (fun y => { y with
      client := e.client, role := (roleOf (fld e.params 0 1)).getD .operator, auth := decide (fld e.params 1 1 = 1), key := e.params.drop 14
      lastValid := max s.now t, e := fld e.params 9 4, dormant := decide (fld e.params 13 1 = 1)
      dormantAt := if fld e.params 13 1 = 1 then max s.now t else y.dormantAt, iface := if fld e.params 2 1 = 1 then .svc else .lan, addr := fld e.params 3 4, port := fld e.params 7 2 }))) ∧
  (∀ e, s.pairUnit = false → exec (.journalEntryMirrored t e) s = .next (s.arrive t))

/-- The end of an ACCEPTED command: an export and a test of the log memory end in the recorder, a verification and a copy from the peer in the unit;
another that no block holds completes with the status named, once; a what-if query of 50 frames completes DEADLINE. R188, R352, R541, R592. -/
def Obligations.Completions : Prop := ∀ (t n q status : Nat) (p : List Byte) (s : State), s.dom 3 = true →
  ((n, q) ∉ s.cmd.accepted → exec (.commandCompletion t n q status p) s = .next (s.arrive t)) ∧
  ((n, q) ∈ s.cmd.accepted → s.log.exporting = some (n, q) → exec (.commandCompletion t n q status p) s = .next (s.arrive t).logExportEnd) ∧
  ((n, q) ∈ s.cmd.accepted → s.log.exporting ≠ some (n, q) → s.log.spillEnd = some (n, q) →
    exec (.commandCompletion t n q status p) s = .next ((s.arrive t).logSpillTested (fld p 0 4))) ∧
  (∀ len, (n, q) ∈ s.cmd.accepted → s.log.exporting ≠ some (n, q) → s.log.spillEnd ≠ some (n, q) → s.sys.verifying = some (n, q, len) →
    exec (.commandCompletion t n q status p) s = .next ((s.arrive t).imgVerified (fld p 0 1 = 4))) ∧
  ((n, q) ∈ s.cmd.accepted → s.log.exporting ≠ some (n, q) → s.log.spillEnd ≠ some (n, q) → s.sys.verifying = none →
    s.sys.cfgFromPeer = some (n, q) → status ≠ stDone →
    exec (.commandCompletion t n q status p) s =
      .next (State.completeCmd { s.arrive t with sys := { s.sys with cfgFromPeer := none } } n q status [])) ∧
  ((n, q) ∈ s.cmd.accepted → s.cmdHeld n q = false →
    ∃ u, exec (.commandCompletion t n q status p) s = .next u ∧ u = (s.arrive t).completeCmd n q status p ∧ (n, q) ∉ u.cmd.accepted) ∧
  (∀ w, s.cqa.whatif.find? (fun w => w.session = n && w.seq = q) = some w → 50 ≤ w.frames →
    exec (.whatifDeadline t n q) s = .next ((s.arrive t).whatifDone w stDeadline {})) ∧
  (∀ w, s.cqa.whatif.find? (fun w => w.session = n && w.seq = q) = some w → w.frames < 50 →
    exec (.whatifDeadline t n q) s = .next (s.arrive t))

/-- A register is written and read by those R18 and R19 admit: the write stores, the read answers the data and clears what reading clears; an access
that is refused changes nothing of the register and is a bus error, the partition's with its record. An address outside the window is no register. R8,
R13, R18, R19. -/
def Obligations.RegisterAccesses : Prop := ∀ (t : Nat) (who : Who) (addr : Nat) (v : Word) (s : State),
  (inWin addr = true → s.mayReg who (addr - winLo) true = true →
    exec (.registerWrite t who addr v) s = .next ((s.arrive t).regWrite who (addr - winLo) v)) ∧
  (inWin addr = true → s.mayReg who (addr - winLo) false = true → s.dom (regBlock (addr - winLo)).2 = true → 0x10000 ≤ addr - winLo →
    ∃ u, exec (.stickyRegisterRead t who addr) s = .next u ∧ u.sent = [.readData ((s.arrive t).regRead who (addr - winLo))] ∧
      { u with sent := [] } = { (s.arrive t).regTouch who (addr - winLo) with sent := [] }) ∧
  (inWin addr = true → s.mayReg who (addr - winLo) false = true → s.dom 1 = true → addr - winLo < 0x10000 →
    ∃ u, exec (.stickyRegisterRead t who addr) s = .next u ∧
      u.sent = [.readData (wN (fld (s.arrive t).surveySync.survey ((addr - winLo) / 4 * 4) 4))]) ∧
  (inWin addr = true → s.mayReg who (addr - winLo) false = true → s.dom (regBlock (addr - winLo)).2 = false →
    exec (.stickyRegisterRead t who addr) s =
      .next { s.arrive t with free := s.free + 1, sent := [.readData (Config.freeWord s.free)] }) ∧
  (inWin addr = true → who ≠ .part → s.mayReg who (addr - winLo) true = false →
    exec (.registerWrite t who addr v) s = .next { s.arrive t with sent := [.busError who addr] }) ∧
  (inWin addr = true → s.mayReg .part (addr - winLo) true = false →
    ∃ u, exec (.registerWrite t .part addr v) s = .next u ∧
      OnlyLog { s.arrive t with sent := [.busError .part addr], part := { s.part with lastBusError := addr, busErrors := s.part.busErrors + 1 } } u) ∧
  (inWin addr = false → exec (.registerWrite t who addr v) s = .fault (.noSuchUnit addr) ∧
    exec (.stickyRegisterRead t who addr) s = .fault (.noSuchUnit addr))

/-- The integrator partition: its slices are counted, each at most 1 ms, at most 8 ms a frame, none between F+15.5 and F+19 ms; an access outside R18
is a bus error with its record; a fault restarts it, the fourth within 10 minutes leaves it stopped, and a start command releases it. R17–R20. -/
def Obligations.PartitionEvents : Prop := ∀ (t n : Nat) (s : State),
  (s.part.running = true → n ≤ 1000000 → s.part.slicesFrame + n ≤ 8000000 → (s.frame.running = false ∨ s.frame.started = 0 ∨
      (s.arrive t).frameElapsed ≤ 15500000 ∨ 19000000 + n ≤ (s.arrive t).frameElapsed) →
    exec (.partitionSliceEnd t n) s = .next { s.arrive t with
      part := { s.part with slicesFrame := s.part.slicesFrame + n, preemptions := s.part.preemptions + 1 } }) ∧
  ((1000000 < n ∨ 8000000 < s.part.slicesFrame + n) → exec (.partitionSliceEnd t n) s = .next (s.arrive t)) ∧
  (s.frame.running = true → s.frame.started ≠ 0 → 15500000 < (s.arrive t).frameElapsed → (s.arrive t).frameElapsed < 19000000 + n →
    exec (.partitionSliceEnd t n) s = .next (s.arrive t)) ∧
  (s.part.running = false → exec (.partitionSliceEnd t n) s = .next (s.arrive t) ∧ exec (.partitionFault t n) s = .next (s.arrive t)) ∧
  (s.part.running = true → s.dom 3 = true → between partLo n partHi = false → inWin n = false →
    ∃ u, exec (.partitionAccessViolation t n) s = .next u ∧
      OnlyLog { s.arrive t with sent := [.busError .part n], part := { s.part with lastBusError := n, busErrors := s.part.busErrors + 1 } } u) ∧
  (s.part.running = true → 3 ≤ (s.part.restarts.filter (fun a => max s.now t < a + 600000000000)).length →
    ∃ u, exec (.partitionFault t n) s = .next u ∧ u.part.running = false ∧ u.part.stoppedByFaults = true) ∧
  (s.part.running = true → (s.part.restarts.filter (fun a => max s.now t < a + 600000000000)).length < 3 →
    exec (.partitionFault t n) s = .next (State.partStart { ((((s.arrive t).partStop n).selfReset 0x80).imgStart [0x80]) with
      part := { ((((s.arrive t).partStop n).selfReset 0x80).imgStart [0x80]).part with
        restarts := max s.now t :: s.part.restarts.filter (fun a => max s.now t < a + 600000000000) } } true n)) ∧
  (s.part.watchdogAt + 500000000 ≤ max s.now t → exec (.partitionWatchdogExpiry t) s = exec (.partitionFault t 2) s) ∧
  (max s.now t < s.part.watchdogAt + 500000000 → exec (.partitionWatchdogExpiry t) s = .next (s.arrive t)) ∧
  (s.part.stoppedByFaults = true → s.part.present = true → s.part.running = false → s.dom 3 = true → s.partJobs = [] →
    exec (.partitionStartCommand t) s = .next { s.arrive t with
      part := { s.part with stoppedByFaults := false, restarts := [], running := true, watchdogAt := max s.now t, startDue := none } })

/-- DRAM and the lockstep pairs: an access outside a processor's regions is a bus error and a record; a corrected error is counted; one that is not is
a lockstep mismatch of the pair whose region it is, elsewhere a record and the failure of the access, the transfer or the problem that met it; a
mismatch gives authority up with the outputs held, is recorded, answered by the safety section, and the processor starts again. R11, R13, R14. -/
def Obligations.MemoryErrors : Prop := ∀ (t a : Nat) (s : State),
  (between dramLo a dramHi = false → ∀ w b, exec (.dramRegionViolation t w a) s = .fault (.noSuchUnit a) ∧
    ∀ m, exec (.dramEccError t a b m) s = .fault (.noSuchUnit a)) ∧
  (∀ w, between dramLo a dramHi = true → s.dom 1 = true → dramMay w a = false → w ≠ .part →
    ∃ u, exec (.dramRegionViolation t w a) s = .next u ∧ OnlyLog { s.arrive t with sent := [.busError w a] } u) ∧
  (∀ w, between dramLo a dramHi = true → dramMay w a = true → exec (.dramRegionViolation t w a) s = .next (s.arrive t)) ∧
  (between dramLo a dramHi = true → s.dom 1 = true → ∀ m, exec (.dramEccError t a true m) s = .next { s.arrive t with
    dram := { s.dram with eccCorrected := s.dram.eccCorrected + 1 } }) ∧
  (between dramLo a dramHi = true → s.dom 1 = true → a < app1Lo → ∀ m, exec (.dramEccError t a false m) s = exec (.lockstepMismatch t false) s) ∧
  (s.dom 1 = true → app1Lo ≤ a → a ≤ app1Hi → ∀ m, exec (.dramEccError t a false m) s = exec (.lockstepMismatch t true) s) ∧
  (between dramLo a dramHi = true → s.dom 1 = true → app1Hi < a →
    (∃ u, exec (.dramEccError t a false .none_) s = .next u ∧ OnlyLog (s.arrive t) u) ∧
    (∀ w, ∃ u, exec (.dramEccError t a false (.core w)) s = .next u ∧ OnlyLog { s.arrive t with sent := [.busError w a] } u) ∧
    (∀ n d, (s.dch n).desc = some d → (s.dch n).state = 2 → exec (.dramEccError t a false (.dma n)) s =
      .next (((s.arrive t).event .DRAM_ECC_UNCORR [wN a, wN (a / 2 ^ 32)]).dmaBusErr n d)) ∧
    (∀ i r, (s.cl i).run = some r → exec (.dramEccError t a false (.hen i)) s =
      .next ((((((s.arrive t).event .DRAM_ECC_UNCORR [wN a, wN (a / 2 ^ 32)]).modCl i (fun c => { c with run := none })).lose i r hfMemerr).henGo).henSettle)) ∧
    (∀ i, (s.cl i).run = none → ∃ u, exec (.dramEccError t a false (.hen i)) s = .next u ∧ OnlyLog (s.arrive t) u)) ∧
  (s.dom 2 = false → exec (.lockstepMismatch t false) s = .next (s.arrive t)) ∧
  (s.dom 2 = true → (s.red.unit ≠ 3 ∨ s.sys.mode = .keep) →
    exec (.lockstepMismatch t false) s =
      .next (((((s.arrive t).giveUp 16 true).event .LOCKSTEP_MISMATCH [wN 0]).lockstepStop).appRestart 2)) ∧
  (s.dom 3 = true → (s.red.unit ≠ 3 ∨ s.sys.mode = .keep) →
    exec (.lockstepMismatch t true) s =
      .next (((((s.arrive t).giveUp 16 true).event .LOCKSTEP_MISMATCH [wN 1]).lockstepStop).appRestart 3)) ∧
  (∀ b, s.dom (if b then 3 else 2) = true → s.red.unit = 3 → s.sys.mode ≠ .keep → s.sys.mode ≠ .safeStop →
    ∃ u, exec (.lockstepMismatch t b) s = .next u ∧ u.sys.mode = .safeStop)

/-- Domains and restarts: a drained domain that is off completes its DOMAIN_DRAIN, a restored one completes its DOMAIN_RESTORE, one that fails to
start returns ABORTED; SYS_RESTART acts 100 ms after its answer; the end of RESTORE handles the journal and leaves the mode. R355, R560, R578, R592.
The major mode: 200 ms without a grant end SET_MODE HOLD with DEADLINE; a unit that leaves HOLD gives authority up when every channel's command is
zero or 30 s have passed; KEEP ends at its exit time. R575–R577. -/
def Obligations.DomainAndModeEvents : Prop :=
  (∀ (t d : Nat) (s : State),
  (12 ≤ d → exec (.domainOff t d) s = .fault (.noSuchUnit d) ∧ exec (.domainRunning t d) s = .fault (.noSuchUnit d)) ∧
  (∀ j, d < 12 → s.domJob d = some j → j.restore = false → s.dom d = false →
    exec (.domainOff t d) s = .next (((s.arrive t).dropJob d).completeCmd j.session j.seq stDone [])) ∧
  (∀ j, d < 12 → s.domJob d = some j → j.restore = true → exec (.domainOff t d) s = .next (s.arrive t)) ∧
  (d < 12 → s.sys.mode = .restore → 0 < d → s.dom d = false → (domNeeds d).all s.dom = true → s.imgStarts d = true →
    s.sys.failedDom.testBit d = false → exec (.domainRunning t d) s = .next ((s.arrive t).domUp d)) ∧
  (∀ j, d < 12 → s.sys.mode ≠ .restore → s.domJob d = some j → j.restore = true → s.imgStarts d = true → (domNeeds d).all s.dom = true → d ≠ 4 → d ≠ 5 →
    exec (.domainRunning t d) s = .next ((((s.arrive t).groupUp d).domRuns d).jobDone d stDone)) ∧
  (∀ j, s.sys.mode ≠ .restore → s.domJob d = some j → j.restore = true → s.imgStarts d = true → (d = 4 ∨ d = 5) →
    s.safe.startDue = false → exec (.domainRunning t d) s = .next (((s.arrive t).domRuns d).jobDone d stDone)) ∧
  (d < 12 → s.sys.mode = .restore → exec (.domainStartFailure t d) s =
    .next ((((allDoms.filter (fun k => (domNeeds k).contains d)).foldl State.domDown (s.arrive t)).domDown d).failedStart d)) ∧
  (∀ j, d < 12 → s.sys.mode ≠ .restore → s.domJob d = some j → j.restore = true →
    exec (.domainStartFailure t d) s =
      .next ((((domGroup d).foldl State.domDown (s.arrive t)).failedStart d).jobDone d stAborted)) ∧
  (s.sys.restartAt = none → exec (.sysRestartDelayEnd t) s = .next (s.arrive t)) ∧
  (∀ a, s.sys.restartAt = some (a, false) → a ≤ max s.now t →
    exec (.sysRestartDelayEnd t) s = .next ((s.arrive t).restartEnd.enterRestore 4 (s.arrive t).restartEnd.red.strap)) ∧
  (∀ a, s.sys.restartAt = some (a, true) → a ≤ max s.now t →
    exec (.sysRestartDelayEnd t) s =
      .next (((s.arrive t).restartEnd.saveCounters.saveTime.allDown allDoms).coldStart true 4 (s.arrive t).restartEnd.red.strap {})) ∧
  (∀ a c, s.sys.restartAt = some (a, c) → max s.now t < a → exec (.sysRestartDelayEnd t) s = .next (s.arrive t)) ∧
  (s.sys.mode = .restore → s.keep.d0On = true → s.keep.resetHeld = none →
    exec (.restoreComplete t d) s = .next ((s.arrive t).restored d)) ∧
  (s.sys.mode ≠ .restore → exec (.restoreComplete t d) s = .next (s.arrive t))) ∧
  (∀ (t : Nat) (s : State),
  (∀ n q a, s.sys.holdReq = some (n, q, a) → a ≤ max s.now t →
    exec (.holdGrantTimeout t) s = .next ((((s.arrive t).modRed (fun r => { r with pairHold := false })).event .HOLD_NOT_GRANTED []).holdReqDone
      stDeadline)) ∧
  (∀ n q a, s.sys.holdReq = some (n, q, a) → max s.now t < a → exec (.holdGrantTimeout t) s = .next (s.arrive t)) ∧
  (∀ a, s.sys.leavingHold = some a → a + 30000000000 ≤ max s.now t →
    exec (.holdReleaseComplete t) s = .next (((s.arrive t).giveUp 22 false).modRed (fun r => { r with
      pairHold := false, marksOut := r.unit = 0 || r.unit = 1 }))) ∧
  (∀ a, s.sys.leavingHold = some a → (∀ c ∈ thrAll, s.alcConf c = false ∨ (s.ach c).t = 0) →
    exec (.holdReleaseComplete t) s = .next (((s.arrive t).giveUp 22 false).modRed (fun r => { r with
      pairHold := false, marksOut := r.unit = 0 || r.unit = 1 }))) ∧
  (s.sys.leavingHold = none → exec (.holdReleaseComplete t) s = .next (s.arrive t)) ∧
  (∀ a, s.sys.keepExit = some a → s.sys.mode = .keep → a ≤ max s.now t → s.keep.d0On = true → s.keep.resetHeld = none →
    exec (.keepExitTimer t) s = .next ((s.arrive t).enterRestore 3 s.red.strap)) ∧
  (s.sys.mode ≠ .keep → exec (.keepExitTimer t) s = .next (s.arrive t)) ∧
  (∀ d x, (d < 12 ∨ d = 0x80) → s.img? d = some x → (s.arrive t).held x.trial (s.parNs .IMG_TRIAL_TIME) = true →
    ∃ u, exec (.imgTrialEnd t d) s = .next u ∧ assoc u.keep.minVersion (imgOf d) = some (x.slot x.running).version ∧
      u.img? d = some { x with trial := none, selfResets := 0, fellBack := false }))

/-- The instants of a frame: it starts at a boundary of the selected clock with the boundary's number; APP-0 estimates by F+3 ms, submits at F+4 ms,
composes from F+14 ms, the seal window closes at F+15.9 ms and the commit is at F+16 ms, each once in a frame. R28, R32, R43–R48. A step of the clock
the frame follows: applied at a whole second where it is armed and nothing bars it, pending with its alarm where it is barred, and refused within 5 s
of the last. R52, R309, R310. -/
def Obligations.FrameInstants : Prop :=
  (∀ (t : Nat) (s : State),
  (s.frame.running = false → exec (.frameStart t) s = .next (s.arrive t)) ∧
  ((s.arrive t).frameDue = true → exec (.frameStart t) s = .next (s.arrive t).frameStart ∧
    (s.arrive t).frameBegin.frame.number = ((s.arrive t).sel + 2) / 20000000 ∧
    (s.arrive t).frameBegin.frame.startT = ((s.arrive t).sel + 2) / 20000000 * 20000000 ∧
    (s.arrive t).frameBegin.frame.started = s.frame.started + 1) ∧
  ((s.arrive t).frameDue = true → (∃ g n b, s.cfg.commit = some (g, n, b) ∧ n ≤ 1) →
    exec (.cfgEffectFrame t) s = .next (if s.dom 2 then (s.arrive t).cqaTick else s.arrive t).cfgEffect) ∧
  (s.cfg.commit = none → exec (.cfgEffectFrame t) s = .next (s.arrive t)) ∧
  (∀ e, s.frame.running = true → s.dom 2 = true → s.frame.phaseHold = false → 3000000 ≤ (s.arrive t).frameElapsed →
    ∃ u, exec (.estimationDeadline t e) s = .next u ∧ u = (s.arrive t).estDeadline e ∧ u.frame.phaseHold = true) ∧
  (∀ e, s.frame.phaseHold = true → exec (.estimationDeadline t e) s = .next (s.arrive t)) ∧
  (s.frame.running = true → s.dom 2 = true → s.frame.phaseHold = true → s.frame.phaseAlloc = false → 4000000 ≤ (s.arrive t).frameElapsed →
    exec (.allocSubmitInstant t) s = .next (s.arrive t).allocSubmit) ∧
  (s.frame.phaseHold = false → exec (.allocSubmitInstant t) s = .next (s.arrive t)) ∧
  (∀ l, s.dom 2 = true → s.frame.running = true → s.frame.phaseAlloc = true → s.frame.phaseSealClosed = false →
    14000000 ≤ (s.arrive t).frameElapsed → s.nominal.isSome = true →
    exec (.allocationCompose t l) s = .next (l.foldl State.alcSeal (s.arrive t).alcCompose)) ∧
  (∀ l, s.frame.phaseSealClosed = true → exec (.allocationCompose t l) s = .next (s.arrive t)) ∧
  (s.frame.running = true → s.dom 2 = true → s.frame.phaseSealClosed = false → 15900000 ≤ (s.arrive t).frameElapsed →
    exec (.sealWindowClose t) s = .next (s.arrive t).sealClose) ∧
  (s.frame.running = true → s.dom 2 = true → s.frame.phaseSealClosed = false → 15900000 ≤ (s.arrive t).frameElapsed → s.alcPoses = true →
    s.frame.sealedNow = [] → s.red.commanding = false →
    ∃ u, exec (.sealWindowClose t) s = .next u ∧ OnlyLog { s.arrive t with frame := { s.frame with
      sealLate := s.frame.sealLate + wN s.sealAll.length
      phaseSealClosed := true, stalled := s.frame.stalled + 1, stallRun := s.frame.stallRun + 1 } } u) ∧
  (s.frame.running = true → s.dom 2 = true → s.frame.phaseSealClosed = false → 15900000 ≤ (s.arrive t).frameElapsed →
    s.alcPoses = true → s.frame.sealedNow ≠ [] →
    ∃ u, exec (.sealWindowClose t) s = .next u ∧ OnlyLog { s.arrive t with frame := { s.frame with
      sealLate := s.frame.sealLate + wN (s.sealAll.filter (fun c => !s.frame.sealedNow.contains c)).length
      phaseSealClosed := true, stallRun := 0, stallGaveUp := false } } u ∧ u.alarmOn .FRAME_STALL = false) ∧
  (s.frame.phaseSealClosed = true → exec (.sealWindowClose t) s = .next (s.arrive t)) ∧
  (s.frame.running = true → s.frame.phaseCommit = false → 16000000 ≤ (s.arrive t).frameElapsed →
    ∃ u, exec (.commitInstant t) s = .next u ∧ u = (s.arrive t).commitNow ∧ u.frame.phaseCommit = true) ∧
  (s.frame.phaseCommit = true → exec (.commitInstant t) s = .next (s.arrive t))) ∧
  (∀ (t n : Nat) (s : State),
  (2 ≤ n → exec (.frameClockStep t n) s = .fault (.noSuchUnit n)) ∧
  (n < 2 → s.tmu.selVc ≠ n → exec (.frameClockStep t n) s = .next (s.arrive t)) ∧
  (n < 2 → (s.arrive t).atSecond n = false → exec (.frameClockStep t n) s = .next (s.arrive t)) ∧
  (n < 2 → (s.vc n).stepArm = false → exec (.frameClockStep t n) s = .next (s.arrive t)) ∧
  (∀ a, n < 2 → (s.vc n).lastStepAt = some a → max s.now t < a + 5000000000 → exec (.frameClockStep t n) s = .next (s.arrive t)) ∧
  (n < 2 → s.dom 9 = true → s.tmu.selVc = n → (s.vc n).stepArm = true → (s.vc n).lastStepAt = none → (s.arrive t).atSecond n = true →
    (s.arrive t).stepBarred n = false →
    exec (.frameClockStep t n) s = .next ((s.arrive t).vcApplyStep n)) ∧
  (n < 2 → s.dom 9 = true → s.tmu.selVc = n → (s.vc n).stepArm = true → (s.vc n).lastStepAt = none → (s.arrive t).atSecond n = true →
    (s.arrive t).stepBarred n = true →
    exec (.frameClockStep t n) s = .next (((s.arrive t).modVc n (fun v => { v with stepPending := true })).raiseAlarm .TIME_STEP_PENDING n)))

/-- The mirror: from F+16 to F+19 ms the unit with authority sends the frame state to the standby and the hold state to W, the standby only what the
safety sections exchange; the standby holds the newest until its fence and discards one older than one applied; W applies the hold state to its own.
R41, R157, R392, R415, R436. -/
def Obligations.Mirrors : Prop := ∀ (t : Nat) (m : MirrorData) (s : State),
  ((s.arrive t).mirrorSpan = false → exec (.frameMirrorSend t) s = .next (s.arrive t)) ∧
  ((s.arrive t).mirrorSpan = true → s.dom 3 = true → s.pairUnit = true → s.red.commanding = true →
    exec (.frameMirrorSend t) s = .next { s.arrive t with
      red := { s.red with marksOut := false }
      sent := Emit.mirror s.peerOnLan ((s.arrive t).mirrorData []) ::
        if s.parB .RED_HAS_W then [.holdState s.red.w.laneOkSince.isNone ((s.arrive t).mirrorData [])] else [] }) ∧
  ((s.arrive t).mirrorSpan = true → s.dom 3 = true → s.pairUnit = true → s.red.commanding = false → s.red.marksOut = false →
    exec (.frameMirrorSend t) s = .next { s.arrive t with sent := [.mirror s.peerOnLan {
      frame := s.frame.number, active := false, safeCrc := s.safe.confCrc, brkHours := (s.arrive t).brkHours }] }) ∧
  (s.pairUnit = false → exec (.frameMirrorSend t) s = .next (s.arrive t) ∧ exec (.frameMirrorReceived t m) s = .next (s.arrive t)) ∧
  (s.dom 3 = true → s.pairUnit = true → s.red.commanding = false → m.active = true →
    exec (.frameMirrorReceived t m) s = .next (((s.arrive t).takeExchange m).holdMirror m)) ∧
  (s.dom 3 = true → s.pairUnit = true → (s.red.commanding = true ∨ m.active = false) →
    exec (.frameMirrorReceived t m) s = .next ((s.arrive t).takeExchange { m with active := false })) ∧
  (∀ n, s.frame.mirrorApplied = some n → m.frame < n → s.holdMirror m = { s with frame := { s.frame with
    mirrorLate := if m.frame < s.frame.number then s.frame.mirrorLate + 1 else s.frame.mirrorLate } }) ∧
  (∀ n, s.frame.mirrorApplied = some n → n ≤ m.frame → s.frame.mirrorHeld = none →
    (s.holdMirror m).frame.mirrorHeld = some m) ∧
  (s.red.commanding = true → s.pairUnit = true → s.frame.running = true → s.dom 3 = true →
    exec (.learnedModelMirror t) s = .next { s.arrive t with sent := [.mirror s.peerOnLan ((s.arrive t).mirrorData (s.arrive t).learnedVals)] }) ∧
  (s.red.commanding = false → exec (.learnedModelMirror t) s = .next (s.arrive t)) ∧
  (s.dom 3 = true → s.red.unit = 2 → s.red.commanding = false → s.frame.mirrorApplied = none →
    exec (.wardenHoldStateReceived t m) s = .next (((s.arrive t).modRed (fun r => { r with heldState := some m })).applyMirror m)) ∧
  (s.red.unit ≠ 2 → exec (.wardenHoldStateReceived t m) s = .next (s.arrive t))

/-- The timers of the references and the estimator: a slot without a usable sample for REF_TIMEOUT is UNAVAILABLE; a TRIAL that has passed for its
time is ACCEPTED; dead reckoning beyond its limit loses position or heading; the peer's difference of 50 frames is an alarm. R61, R73, R85, R87. -/
def Obligations.EstimatorTimers : Prop := ∀ (t i : Nat) (s : State),
  (28 ≤ i → exec (.refTimeoutExpiry t i) s = .fault (.noSuchUnit i) ∧ exec (.refTrialComplete t i) s = .fault (.noSuchUnit i)) ∧
  (∀ p, i < 28 → i < s.est.slots.length → s.slotSrc i = some p →
    ((s.slot i).state = .trial ∨ (s.slot i).state = .accepted ∨ (s.slot i).state = .rejected) →
    (s.slot i).lastUsableAt + s.parNs .REF_TIMEOUT i ≤ max s.now t →
    ∃ u r, exec (.refTimeoutExpiry t i) s = .next u ∧ u = (s.arrive t).refUnavailable i r ∧ (r = 17 ∨ r = 19) ∧
      (u.slot i).state = .unavailable ∧ (u.slot i).reason = r ∧ ∀ k, k ≠ i → u.slot k = s.slot k) ∧
  (i < 28 → max s.now t < (s.slot i).lastUsableAt + s.parNs .REF_TIMEOUT i → exec (.refTimeoutExpiry t i) s = .next (s.arrive t)) ∧
  (∀ a, i < 28 → i < s.est.slots.length → (s.slot i).state = .trial → (s.slot i).trialSince = some a →
    a + (if (s.acceptedOf (s.slotKind i)).isEmpty then s.parNs .REF_TRIAL_DR i else s.parNs .REF_TRIAL_TIME i) ≤ max s.now t →
    ∃ u, exec (.refTrialComplete t i) s = .next u ∧ (u.slot i).state = .accepted ∧ (u.slot i).reason = 0 ∧
      u.alarmOn .REF_REJECTED i = false ∧ ∀ k, k ≠ i → u.slot k = s.slot k) ∧
  (i < 28 → (s.slot i).state ≠ .trial → exec (.refTrialComplete t i) s = .next (s.arrive t)) ∧
  (s.est.core.drPos = true → s.est.core.posLost = false → s.est.core.lastPosUpd + s.parNs .EST_DR_LIMIT ≤ max s.now t →
    ∃ u, exec (.estDrLimitExpiry t false) s = .next u ∧ u.alarmOn .POS_LOST = true ∧
      OnlyLog { s.arrive t with est := { s.est with core := { s.est.core with posLost := true } } } u) ∧
  (s.est.core.drHdg = true → s.est.core.hdgLost = false → s.est.core.lastHdgUpd + s.parNs .EST_HDG_DR_LIMIT ≤ max s.now t →
    ∃ u, exec (.estDrLimitExpiry t true) s = .next u ∧ u.alarmOn .HDG_LOST = true ∧
      OnlyLog { s.arrive t with est := { s.est with core := { s.est.core with hdgLost := true } } } u) ∧
  (s.est.core.drPos = false → exec (.estDrLimitExpiry t false) s = .next (s.arrive t)) ∧
  (50 ≤ s.est.peerDiffRun → ∃ u, exec (.estPeerDiffCount t) s = .next u ∧ u.alarmOn .EST_PEER_DIFF = true ∧ OnlyLog (s.arrive t) u) ∧
  (s.est.peerDiffRun < 50 → exec (.estPeerDiffCount t) s = .next (s.arrive t))

/-- The counters of the hold functions: after HOLD_MPC_FAIL_FRAMES failures the function continues on the direct law with its alarm, after
HOLD_MPC_OK_FRAMES results it returns to the MPC; a frozen joystick acts again after 0.5 s centred; an excursion alarm clears after 10 s. R107, R112,
R114, R128. Berth press: contact after BPR_STALL_TIME enters PRESSING, or LOADED at the full force; no contact in time is an alarm; a gap beyond the
loss distance, or 1 s of outward speed, loses contact. R122, R123. -/
def Obligations.HoldCountersAndBerthPress : Prop :=
  (∀ (t i : Nat) (s : State),
  (s.hold.core.usesMpc = true → s.hold.core.direct = false → s.parN .HOLD_MPC_FAIL_FRAMES ≤ s.hold.core.mpcFail →
    ∃ u, exec (.mpcFailCount t) s = .next u ∧ u.alarmOn .MPC_FAIL = true ∧ u.alarmOn .HOLD_DEGRADED = true ∧
      OnlyLog { s.arrive t with hold := { s.hold with core := { s.hold.core with direct := true, degraded := true } } } u) ∧
  (s.hold.core.mpcFail < s.parN .HOLD_MPC_FAIL_FRAMES → exec (.mpcFailCount t) s = .next (s.arrive t)) ∧
  (s.hold.core.usesMpc = true → s.hold.core.direct = true → s.parN .HOLD_MPC_OK_FRAMES ≤ s.hold.core.mpcOk →
    ∃ u, exec (.mpcOkCount t) s = .next u ∧ u.alarmOn .MPC_FAIL = false ∧
      OnlyLog { s.arrive t with hold := { s.hold with core := { s.hold.core with
        direct := false, blendFrom := some (s.hold.core.tau, {}, s.frame.startAt), blendNew := true, blendK := 1 } } } u) ∧
  (s.hold.core.direct = false → exec (.mpcOkCount t) s = .next (s.arrive t)) ∧
  (∀ a, s.hold.core.joyFrozen = true → s.hold.core.joyCentredAt = some a → a + 500000000 ≤ max s.now t →
    exec (.joyCentreRelease t) s = .next { s.arrive t with hold := { s.hold with core := { s.hold.core with
      joyFrozen := false, joyDemand := {} } } }) ∧
  (s.hold.core.joyFrozen = false → exec (.joyCentreRelease t) s = .next (s.arrive t)) ∧
  (4 ≤ i → exec (.excursionClearTimer t i) s = .fault (.noSuchUnit i)) ∧
  (∀ a, i < 4 → assoc s.hold.excBelow i = some a → a + 10000000000 ≤ max s.now t →
    ∃ u, exec (.excursionClearTimer t i) s = .next u ∧ u.alarmOn (excAlarm i) = false ∧ OnlyLog (s.arrive t) u) ∧
  (i < 4 → assoc s.hold.excBelow i = none → exec (.excursionClearTimer t i) s = .next (s.arrive t))) ∧
  (∀ (t : Nat) (s : State),
  (∀ a, s.hold.core.func = 4 → (s.hold.core.bprState = 2 ∨ s.hold.core.bprState = 5) → s.hold.core.bprStallSince = some a →
    a + s.parNs .BPR_STALL_TIME ≤ max s.now t →
    ∃ u, exec (.bprContactDetected t) s = .next u ∧ u.alarmOn .BPR_NO_CONTACT = false ∧ u.alarmOn .BPR_CONTACT_LOST = false ∧
      OnlyLog { s.arrive t with hold := { s.hold with core := { s.hold.core with
        bprState := if s.hold.core.bprState = 5 ∨ s.hold.core.bprF = s.pressForce then 4 else 3, bprStallSince := none, bprLossSince := none } } } u) ∧
  (s.hold.core.bprStallSince = none → exec (.bprContactDetected t) s = .next (s.arrive t)) ∧
  (s.hold.core.func = 4 → (s.hold.core.bprState = 1 ∨ s.hold.core.bprState = 2) →
    s.hold.core.bprSelectedAt + s.parNs .BPR_CONTACT_TIMEOUT ≤ max s.now t →
    ∃ u, exec (.bprContactTimeout t) s = .next u ∧ u.alarmOn .BPR_NO_CONTACT = true ∧ OnlyLog (s.arrive t) u) ∧
  (s.hold.core.func ≠ 4 → exec (.bprContactDetected t) s = .next (s.arrive t) ∧ exec (.bprContactTimeout t) s = .next (s.arrive t) ∧
    exec (.bprContactLoss t) s = .next (s.arrive t)) ∧
  (s.hold.core.func = 4 → (s.hold.core.bprState = 3 ∨ s.hold.core.bprState = 4) →
    (s.par .BPR_LOSS_DIST < s.hold.core.gap ∨ ∃ a, s.hold.core.bprLossSince = some a ∧ a + 1000000000 ≤ max s.now t) →
    ∃ u, exec (.bprContactLoss t) s = .next u ∧ u.alarmOn .BPR_CONTACT_LOST = true ∧
      OnlyLog { s.arrive t with hold := { s.hold with core := { s.hold.core with
        bprState := 5, bprStallSince := none, bprLossSince := none } } } u))

/-- The power envelopes: a bad message of a section's source is counted and recorded and changes nothing of the source, a valid one is taken, a
repeated counter changes nothing; a section without a current source is STALE, one whose source has delivered PWR_FRESH_COUNT messages is current
again; a bound that has bound for PWR_LIMIT_FRAMES is an alarm. R151–R153, R163. -/
def Obligations.PowerEnvelopes : Prop := ∀ (t port sof n : Nat) (f : CanFrame) (s : State),
  (between 1 port 4 = false → exec (.powerEnvelopeMessage t port sof f) s = .fault (.noSuchUnit port)) ∧
  (between 1 port 4 = true → s.pwrSourceOf f.index port f = none → exec (.powerEnvelopeMessage t port sof f) s = .next (s.arrive t)) ∧
  (∀ k, between 1 port 4 = true → s.dom 10 = true → f.ext = true → f.func = 0x040 → between 1 f.index 4 = true →
    s.pwrSourceOf f.index port f = some k → (f.fd && f.data.length = 16 && f.prio = 2 && f.crcOk && pwrRange f.data) = false →
    ∃ u, exec (.powerEnvelopeMessage t port sof f) s = .next u ∧
      OnlyLog ((s.arrive t).modSect f.index (fun x => { x with bad := x.bad + 1 })) u) ∧
  (between 1 port 4 = true → s.dom 10 = true → f.ext = true → f.func = 0x040 → between 1 f.index 4 = true →
    s.pwrSourceOf f.index port f = some 1 → (f.fd && f.data.length = 16 && f.prio = 2 && f.crcOk && pwrRange f.data) = true →
    (s.sect f.index).src1.counter ≠ some (byte (fld f.data 13 1)) →
    exec (.powerEnvelopeMessage t port sof f) s = .next ((s.arrive t).modSect f.index (fun x => { x with
      src1 := (s.sect f.index).src1.take sof f.data, state := if x.state = 1 then 2 else x.state }))) ∧
  (between 1 port 4 = true → s.dom 10 = true → f.ext = true → f.func = 0x040 → between 1 f.index 4 = true →
    s.pwrSourceOf f.index port f = some 1 → (f.fd && f.data.length = 16 && f.prio = 2 && f.crcOk && pwrRange f.data) = true →
    (s.sect f.index).src1.counter = some (byte (fld f.data 13 1)) →
    exec (.powerEnvelopeMessage t port sof f) s = .next (s.arrive t)) ∧
  (between 1 port 4 = true → s.dom 10 = true → f.ext = true → f.func = 0x040 → between 1 f.index 4 = true →
    s.pwrSourceOf f.index port f = some 2 → (f.fd && f.data.length = 16 && f.prio = 2 && f.crcOk && pwrRange f.data) = true →
    (s.sect f.index).src2.counter ≠ some (byte (fld f.data 13 1)) →
    exec (.powerEnvelopeMessage t port sof f) s = .next ((s.arrive t).modSect f.index (fun x => { x with
      src2 := (s.sect f.index).src2.take sof f.data, state := if x.state = 1 then 2 else x.state }))) ∧
  (between 1 port 4 = true → s.dom 10 = true → f.ext = true → f.func = 0x040 → between 1 f.index 4 = true →
    s.pwrSourceOf f.index port f = some 2 → (f.fd && f.data.length = 16 && f.prio = 2 && f.crcOk && pwrRange f.data) = true →
    (s.sect f.index).src2.counter = some (byte (fld f.data 13 1)) →
    exec (.powerEnvelopeMessage t port sof f) s = .next (s.arrive t)) ∧
  (between 1 n 4 = false → exec (.pwrSourceStale t n) s = .fault (.noSuchUnit n) ∧ exec (.pwrFreshCountReached t n) s = .fault (.noSuchUnit n) ∧
    exec (.pwrLimitCount t n) s = .fault (.noSuchUnit n)) ∧
  (between 1 n 4 = true → (s.pwrCurrent (s.sect n).src1 = true ∨ s.pwrCurrent (s.sect n).src2 = true) →
    exec (.pwrSourceStale t n) s = .next (s.arrive t)) ∧
  (between 1 n 4 = true → s.pwrCurrent (s.sect n).src1 = false → s.pwrCurrent (s.sect n).src2 = false →
    ∃ u, exec (.pwrSourceStale t n) s = .next u ∧ u.alarmOn .PWR_ENV_STALE n = true ∧
      OnlyLog (((s.arrive t).modSect n (fun x => { x with
        state := 1, src1 := { x.src1 with run := 0 }, src2 := { x.src2 with run := 0 } })).envelope n) u) ∧
  (between 1 n 4 = true → (s.sect n).state = 2 → ((s.pwrCurrent (s.sect n).src1 = true ∧ s.parN .PWR_FRESH_COUNT ≤ (s.sect n).src1.run) ∨
    (s.pwrCurrent (s.sect n).src2 = true ∧ s.parN .PWR_FRESH_COUNT ≤ (s.sect n).src2.run)) →
    ∃ u, exec (.pwrFreshCountReached t n) s = .next u ∧ u.alarmOn .PWR_ENV_STALE n = false ∧
      OnlyLog (((s.arrive t).modSect n (fun x => { x with state := 0 })).envelope n) u) ∧
  (between 1 n 4 = true → (s.sect n).state ≠ 2 → exec (.pwrFreshCountReached t n) s = .next (s.arrive t)) ∧
  (between 1 n 4 = true → s.parN .PWR_LIMIT_FRAMES ≤ (s.sect n).bindRun →
    ∃ u, exec (.pwrLimitCount t n) s = .next u ∧ u.alarmOn .PWR_ENV_LIMIT n = true ∧ OnlyLog (s.arrive t) u) ∧
  (between 1 n 4 = true → (s.sect n).bindRun < s.parN .PWR_LIMIT_FRAMES → s.parN .PWR_LIMIT_FRAMES ≤ (s.sect n).freeRun →
    ∃ u, exec (.pwrLimitCount t n) s = .next u ∧ u.alarmOn .PWR_ENV_LIMIT n = false ∧ OnlyLog (s.arrive t) u)

/-- The alarms of allocation and its learned values: ALC_REPEAT_LIMIT repeated frames and a slack beyond its limit for ALC_SAT_TIME raise their
alarms, the slack below it for that time clears it; every 600 s the learned values are kept with the generation and the model. R157, R159, R160. The
alarms of consequence analysis: a case whose breach timer has reached CQA_ALARM_DELAY enters alarm, one clear for CQA_CLEAR_TIME leaves it, and the
alarm stands while some case is in alarm; a case UNPROVEN for its delay is an alarm; the capability envelope runs in periods of 50 frames. R181–R183,
R186, R187. -/
def Obligations.AllocationAndConsequenceTimers : Prop :=
  (∀ (t : Nat) (s : State),
  (s.parN .ALC_REPEAT_LIMIT ≤ s.alc.repeatRun →
    ∃ u, exec (.alcRepeatLimitReached t) s = .next u ∧ u.alarmOn .ALLOC_STALLED = true ∧ OnlyLog (s.arrive t) u) ∧
  (s.alc.repeatRun < s.parN .ALC_REPEAT_LIMIT → exec (.alcRepeatLimitReached t) s = .next (s.arrive t)) ∧
  (∀ a, s.alc.satOver = some a → a + s.parNs .ALC_SAT_TIME ≤ max s.now t →
    ∃ u, exec (.alcSatTimer t) s = .next u ∧ u.alarmOn .ALLOC_SATURATED = true ∧ OnlyLog (s.arrive t) u) ∧
  (∀ a, s.alc.satOver = none → s.alc.satUnder = some a → a + s.parNs .ALC_SAT_TIME ≤ max s.now t →
    ∃ u, exec (.alcSatTimer t) s = .next u ∧ u.alarmOn .ALLOC_SATURATED = false ∧ OnlyLog (s.arrive t) u) ∧
  (s.alc.satOver = none → s.alc.satUnder = none → exec (.alcSatTimer t) s = .next (s.arrive t)) ∧
  (s.alc.savedAt + 600000000000 ≤ max s.now t → s.frame.running = true →
    exec (.learnedModelSave t) s = .next { s.arrive t with alc := { s.alc with
      savedAt := max s.now t, retained := s.learnedVals, retainedGen := s.cfg.gen, retainedOk := true
      retainedModel := thrAll.map (fun c => (c, s.modelOf c)) } }) ∧
  (max s.now t < s.alc.savedAt + 600000000000 → exec (.learnedModelSave t) s = .next (s.arrive t))) ∧
  (∀ (t k : Nat) (s : State),
  (between 1 k 127 = false → exec (.cqaAlarmDelayReached t k) s = .fault (.noSuchUnit k) ∧ exec (.cqaClearTimeReached t k) s = .fault (.noSuchUnit k)) ∧
  (between 1 k 127 = true → (s.caseSt k).timerRuns = true → (s.caseSt k).inAlarm = false → s.frames .CQA_ALARM_DELAY ≤ (s.caseSt k).breachTimer →
    ∃ u, exec (.cqaAlarmDelayReached t k) s = .next u ∧ u.alarmOn .CONSEQUENCE = true ∧
      OnlyLog ((s.arrive t).modCase k (fun x => { x with inAlarm := true })) u) ∧
  (between 1 k 127 = true → (s.caseSt k).timerRuns = false → exec (.cqaAlarmDelayReached t k) s = .next (s.arrive t)) ∧
  (between 1 k 127 = true → (s.caseSt k).inAlarm = true → s.frames .CQA_CLEAR_TIME ≤ (s.caseSt k).clearRun →
    ∃ u, exec (.cqaClearTimeReached t k) s = .next u ∧ OnlyLog ((s.arrive t).modCase k (fun x => { x with inAlarm := false })) u ∧
      ((∀ x ∈ u.cqa.cases, x.inAlarm = false) → u.alarmOn .CONSEQUENCE = false)) ∧
  (between 1 k 127 = true → (s.caseSt k).inAlarm = false → exec (.cqaClearTimeReached t k) s = .next (s.arrive t)) ∧
  ((∃ x ∈ s.cqa.cases, x.res.state = 2 ∧ s.frames .CQA_UNPROVEN_DELAY ≤ x.unprovenRun) →
    ∃ u, exec (.cqaUnprovenDelayReached t) s = .next u ∧ u.alarmOn .CQA_UNPROVEN = true ∧ OnlyLog (s.arrive t) u) ∧
  ((∀ x ∈ s.cqa.cases, x.res.state ≠ 2) → exec (.cqaUnprovenDelayReached t) s = .next (s.arrive t)) ∧
  (s.parB .CQA_ENV_ON = true → s.alcPoses = true → s.frame.running = true → (s.cqa.envFrame = none ∨ ∃ f, s.cqa.envFrame = some f ∧ 50 ≤ f) →
    exec (.capabilityEnvelopePeriod t) s = .next (s.arrive t).envStartPeriod) ∧
  (s.parB .CQA_ENV_ON = false → exec (.capabilityEnvelopePeriod t) s = .next (s.arrive t)) ∧
  (∀ f, s.cqa.envFrame = some f → 49 ≤ f → exec (.capabilityEnvelopeEnd t) s = .next (s.arrive t).envEnd) ∧
  (∀ f, s.cqa.envFrame = some f → f < 49 → exec (.capabilityEnvelopeEnd t) s = .next (s.arrive t)) ∧
  (s.cqa.envFrame = none → exec (.capabilityEnvelopeEnd t) s = .next (s.arrive t)))

/-- Submissions to the engine's queues: SUB_HI copies and checks the descriptor, its RESULT is the first check that fails; a refused one is counted
and flagged and changes nothing else, an accepted one joins its queue; the partition writes queues 2 and 3, a write it may not make is a bus error
with its record. R19, R213. henSubHiWrite completes for each of the four queues, every requester and every value, henQPop for each of the four queues.
-/
def Obligations.EngineSubmissions : Prop := ∀ (t q : Nat) (who : Who) (v : Word) (s : State),
  (4 ≤ q → exec (.henSubHiWrite t q who v) s = .fault (.noSuchUnit q) ∧ exec (.henQPop t q) s = .fault (.noSuchUnit q)) ∧
  (q < 2 → ∃ u, exec (.henSubHiWrite t q .part v) s = .next u ∧ OnlyLog { s.arrive t with
    sent := [.busError .part (0x40030104 + 0x40 * q)]
    part := { s.part with lastBusError := 0x40030104 + 0x40 * q, busErrors := s.part.busErrors + 1 } } u) ∧
  (q < 4 → s.dom 1 = false → (who = .app0 ∨ who = .app1 ∨ (who = .part ∧ 2 ≤ q)) → exec (.henSubHiWrite t q who v) s = .next (s.arrive t)) ∧
  (q < 4 → (who = .safeP ∨ who = .dma) →
    exec (.henSubHiWrite t q who v) s = .next { s.arrive t with sent := [.busError who (0x40030104 + 0x40 * q)] }) ∧
  (∀ c a, q < 4 → s.dom 1 = true → (who = .app0 ∨ who = .app1 ∨ (who = .part ∧ 2 ≤ q)) →
    a = v.toNat % 256 * 2 ^ 32 + ((s.hq q).subs.getD who.req {}).lo.toNat →
    c = s.henCheck q a (Memory.read s.dram.cells a 64) (if who = .part then partLo else sharedLo) (if who = .part then partHi else sharedHi) →
    c ≠ 0 →
    exec (.henSubHiWrite t q who v) s = .next (((s.arrive t).modHq q (fun x => { x with
      subs := x.subs.modify who.req (fun y => { y with res := c }) })).modHq q (fun x => { x with
        refusals := x.refusals + 1, intRefused := true })).henSettle) ∧
  (∀ a, q < 4 → s.dom 1 = true → (who = .app0 ∨ who = .app1 ∨ (who = .part ∧ 2 ≤ q)) →
    a = v.toNat % 256 * 2 ^ 32 + ((s.hq q).subs.getD who.req {}).lo.toNat →
    s.henCheck q a (Memory.read s.dram.cells a 64) (if who = .part then partLo else sharedLo) (if who = .part then partHi else sharedHi) = 0 →
    exec (.henSubHiWrite t q who v) s = .next ((((s.arrive t).modHq q (fun x => { x with
      subs := x.subs.modify who.req (fun y => { y with res := 0 }) })).henAccept q { descJob (Memory.read s.dram.cells a 64) with
        origin := if who = .app0 then .app0 else if who = .app1 then .app1 else .partition }
          (fld (Memory.read s.dram.cells a 64) 16 4)).henSettle)) ∧
  (q < 4 → q < s.hen.queues.length →
    ∃ u, exec (.henQPop t q) s = .next u ∧ (u.hq q).done = (s.hq q).done.drop 1 ∧ (u.hq q).jobs = (s.hq q).jobs ∧ ∀ k, k ≠ q → u.hq k = s.hq k) ∧
  (q < 4 → (∃ u, exec (.henSubHiWrite t q who v) s = .next u) ∧ ∃ u, exec (.henQPop t q) s = .next u)

/-- The ends of problems and jobs: the problem that runs on a cluster ends DONE; at its deadline, by a cancel, or as its queue is disabled a job ends
with what it has, after the problems that end in the same cycle; a suspension point gives the cluster to a lower-numbered queue. R211, R212,
R217–R220. henProblemEnd and henSuspensionPoint complete for each of the two clusters, with or without a problem on it; henJobDeadline,
henQCancelWrite and henQEnClear for each of the four queues, with the job named or none. The engine's clusters: one disabled takes no new work; an
SRAM error that is corrected is counted, one that is not ends its problem ABSENT and the third within an hour takes the cluster out of service; a stop
loses what runs on it; one that drains is off when it has finished. R221, R223, R227. henClusterEnClear, henSramError, henClusterStop and henDrainDone
complete for each of the two clusters. -/
def Obligations.EngineEndsAndClusters : Prop :=
  (∀ (t i q id : Nat) (tag : Word) (s : State),
  (2 ≤ i → ∀ both, exec (.henProblemEnd t i both) s = .fault (.noSuchUnit i) ∧ exec (.henSuspensionPoint t i both) s = .fault (.noSuchUnit i)) ∧
  (4 ≤ q → ∀ ends, exec (.henJobDeadline t q id ends) s = .fault (.noSuchUnit q) ∧ exec (.henQCancelWrite t q tag ends) s = .fault (.noSuchUnit q) ∧
    exec (.henQEnClear t q) s = .fault (.noSuchUnit q)) ∧
  (i < 2 → (s.cl i).run = none → (∀ both, exec (.henProblemEnd t i both) s = .next (s.arrive t)) ∧
    exec (.henSuspensionPoint t i false) s = .next (s.arrive t)) ∧
  (∀ r, i < 2 → (s.cl i).run = some r →
    exec (.henProblemEnd t i false) s = .next (((((s.arrive t).modCl i (fun c => { c with run := none })).putResult r.queue r.job r.index
      ((r.prob.result r.prob.iter).res 0 i r.suspended)).checkJob r.queue r.job).henGo.henSettle) ∧
    exec (.henProblemEnd t i true) s = .next (((s.arrive t).problemEnd 0).problemEnd 1).henGo.henSettle) ∧
  (∀ r k j, i < 2 → (s.cl i).run = some r → s.nextWork i = some (k, j) → k < r.queue → (s.cl i).susp = none → iterative r.prob.op = true →
    r.iters + 1 < r.prob.iter →
    ∃ n, r.iters < n ∧ n < r.prob.iter ∧ exec (.henSuspensionPoint t i false) s = .next (((State.modCl { s.arrive t with
      free := s.free + 1, hen := { s.hen with suspends := s.hen.suspends + 1 } } i (fun c => { c with
        run := none
        susp := some { r with iters := n, suspended := true, suspAt := some (max s.now t), suspBefore := r.suspended } })).dispatch i k j true).henGo)) ∧
  (i < 2 → exec (.henSuspensionPoint t i true) s = .next (((s.arrive t).suspPoint 0).suspPoint 1)) ∧
  (∀ r k j, i < 2 → (s.cl i).run = some r → s.nextWork i = some (k, j) → r.queue ≤ k →
    exec (.henSuspensionPoint t i false) s = .next (s.arrive t)) ∧
  (∀ j a ends, q < 4 → s.job? q id = some j → j.deadline = some a → a ≤ (s.arrive t).raw →
    exec (.henJobDeadline t q id ends) s = .next ((((s.arrive t).endFirst ends).endJob q id false).henGo.henSettle)) ∧
  (∀ j a ends, q < 4 → s.job? q id = some j → j.deadline = some a → (s.arrive t).raw < a →
    exec (.henJobDeadline t q id ends) s = .next (s.arrive t)) ∧
  (∀ ends, q < 4 → s.job? q id = none → exec (.henJobDeadline t q id ends) s = .next (s.arrive t)) ∧
  (∀ ends, q < 4 → exec (.henQCancelWrite t q tag ends) s = .next ((((s.arrive t).endFirst ends).henCancel q tag false).henGo.henSettle)) ∧
  (∀ j, q < 4 → (s.hq q).jobs.find? (fun j => j.tag = tag) = some j → s.job? q j.id = some j → j.started = false →
    exec (.henQCancelWrite t q tag []) s = .next (((s.arrive t).completeJob q j.id 2 3 true).henGo.henGo.henSettle)) ∧
  (∀ j, q < 4 → (s.hq q).jobs.find? (fun j => j.tag = tag) = some j → s.job? q j.id = some j → j.started = true →
    exec (.henQCancelWrite t q tag []) s = .next (((s.arrive t).endJob q j.id true).henGo.henGo.henSettle)) ∧
  (q < 4 → (s.hq q).en = true → exec (.henQEnClear t q) s = .next ((s.arrive t).henDisable q 0).henGo.henSettle) ∧
  (q < 4 → (s.hq q).en = false → exec (.henQEnClear t q) s = .next (s.arrive t)) ∧
  (i < 2 → ∀ both, (∃ u, exec (.henProblemEnd t i both) s = .next u) ∧ ∃ u, exec (.henSuspensionPoint t i both) s = .next u) ∧
  (q < 4 → ∀ ends, (∃ u, exec (.henJobDeadline t q id ends) s = .next u) ∧ (∃ u, exec (.henQCancelWrite t q tag ends) s = .next u) ∧
    ∃ u, exec (.henQEnClear t q) s = .next u)) ∧
  (∀ (t i : Nat) (s : State),
  (2 ≤ i → ∀ b, exec (.henClusterEnClear t i) s = .fault (.noSuchUnit i) ∧ exec (.henSramError t i b) s = .fault (.noSuchUnit i) ∧
    exec (.henClusterStop t i) s = .fault (.noSuchUnit i) ∧ exec (.henDrainDone t i) s = .fault (.noSuchUnit i)) ∧
  (i < 2 → (s.cl i).en = true →
    exec (.henClusterEnClear t i) s = .next ((((s.arrive t).clLeave i false 0).dmaClusterLost i).henSettle)) ∧
  (i < 2 → (s.cl i).en = false → exec (.henClusterEnClear t i) s = .next (s.arrive t)) ∧
  (i < 2 → (s.cl i).powered = false → ∀ b, exec (.henSramError t i b) s = .next (s.arrive t) ∧ exec (.henClusterStop t i) s = .next (s.arrive t)) ∧
  (i < 2 → (s.cl i).powered = true → exec (.henSramError t i true) s = .next { s.arrive t with
    hen := { s.hen with corr := min 65535 (s.hen.corr + 1), eccCorr := s.hen.eccCorr + 1 } }) ∧
  (i < 2 → (s.cl i).powered = true → exec (.henSramError t i false) s = .next ((s.arrive t).henMemErr i).henSettle) ∧
  (i < 2 → (s.cl i).powered = true →
    exec (.henClusterStop t i) s = .next (((((s.arrive t).clStop i).dmaClusterLost i).setDom (6 + i) false).henSettle)) ∧
  (i < 2 → (s.cl i).draining = true → s.dom (6 + i) = true → s.clFinished i = true →
    exec (.henDrainDone t i) s = .next ((s.arrive t).drainDown (6 + i) [6 + i])) ∧
  (i < 2 → (s.cl i).draining = false → exec (.henDrainDone t i) s = .next (s.arrive t)) ∧
  (i < 2 → ∀ b, (∃ u, exec (.henClusterEnClear t i) s = .next u) ∧ (∃ u, exec (.henSramError t i b) s = .next u) ∧
    (∃ u, exec (.henClusterStop t i) s = .next u) ∧ ∃ u, exec (.henDrainDone t i) s = .next u))

/-- Writes of a thruster channel's registers: SEAL locks the shadow set and builds its frame, late once the commit has passed; the shadow set is
written while it is not sealed; WITHDRAW clears SEAL before the commit; EN waits for the channel's slice; THR_AUTH gates what leaves. R234, R237–R239,
R241, R242, R264, R265. -/
def Obligations.ThrusterWrites : Prop := ∀ (t c : Nat) (v : Word) (b : Bool) (s : State),
  (isTch c = false → exec (.thrSealWrite t c) s = .fault (.noSuchUnit c) ∧ exec (.thrShadowWrite t c 0x010 v) s = .fault (.noSuchUnit c) ∧
    exec (.thrWithdraw t c) s = .fault (.noSuchUnit c) ∧ exec (.thrCtrlClear t c) s = .fault (.noSuchUnit c) ∧
    exec (.thrCtrlEnWrite t c b) s = .fault (.noSuchUnit c)) ∧
  (isTch c = true → s.dom 10 = true → (s.tch c).sealed = true → exec (.thrSealWrite t c) s = .next (s.arrive t)) ∧
  (isTch c = true → s.dom 10 = true → (s.tch c).sealed = false → s.tconf c = true → s.frame.phaseCommit = false →
    exec (.thrSealWrite t c) s = .next (((s.arrive t).modTch c (fun x => { x with
      sealed := true, sealedAt := max s.now t, withdrawnAt := none })).placeTimed c true false)) ∧
  (isTch c = true → s.dom 10 = true → (s.tch c).sealed = false → s.tconf c = true → s.frame.phaseCommit = true →
    exec (.thrSealWrite t c) s = .next (((s.arrive t).modTch c (fun x => { x with
      sealed := true, sealedAt := max s.now t, withdrawnAt := none, sealLateF := true, sealLates := satInc 255 x.sealLates })).placeTimed c true true)) ∧
  (isTch c = true → s.dom 10 = true → (s.tch c).sealed = true →
    exec (.thrShadowWrite t c 0x010 v) s = .next ((s.arrive t).modTch c (fun x => { x with wrSealed := true }))) ∧
  (isTch c = true → s.dom 10 = true → (s.tch c).sealed = false →
    exec (.thrShadowWrite t c 0x010 v) s = .next ((s.arrive t).modTch c (fun x => { x with shT := v })) ∧
    exec (.thrShadowWrite t c 0x014 v) s = .next ((s.arrive t).modTch c (fun x => { x with shAng := v })) ∧
    exec (.thrShadowWrite t c 0x018 v) s = .next ((s.arrive t).modTch c (fun x => { x with shRun := v.getLsbD 0, shTest := v.getLsbD 1 }))) ∧
  (isTch c = true → s.dom 10 = true → (s.tch c).sealed = true → (s.tch c).latch = false → s.tport c = 0 →
    exec (.thrWithdraw t c) s = .next ((s.arrive t).modTch c (fun x => { x with sealed := false, withdrawnAt := some (max s.now t) }))) ∧
  (isTch c = true → s.dom 10 = true → (s.tch c).sealed = true → (s.tch c).latch = false → s.tport c ≠ 0 →
    exec (.thrWithdraw t c) s = .next (((s.arrive t).cancelBox (s.tport c) (boxOf c false) abCancelled).modTch c (fun x => { x with
      sealed := false, withdrawnAt := some (max s.now t) }))) ∧
  (isTch c = true → s.dom 10 = true → (s.tch c).latch = true →
    exec (.thrWithdraw t c) s = .next ((s.arrive t).modTch c (fun x => { x with wdLate := true }))) ∧
  (isTch c = true → s.dom 10 = true → exec (.thrCtrlClear t c) s = .next ((s.arrive t).thrClear c)) ∧
  (isTch c = true → s.dom 10 = true → exec (.thrCtrlEnWrite t c b) s = .next ((s.arrive t).modTch c (fun x => { x with en := b, pendEn := some b, pendAt := max s.now t }))) ∧
  (s.dom 10 = true → s.thr.auth = b → exec (.thrAuthWrite t b) s = .next (s.arrive t)) ∧
  (s.dom 10 = true → s.thr.auth ≠ b → exec (.thrAuthWrite t b) s = .next ((s.arrive t).thrAuth b false)) ∧
  (∀ e, s.thr.aoHoldUntil = some e → e ≤ max s.now t → exec (.thrAoHoldExpiry t) s = .next (s.arrive t).thrHoldEnd) ∧
  (∀ e, s.thr.aoHoldUntil = some e → max s.now t < e → exec (.thrAoHoldExpiry t) s = .next (s.arrive t)) ∧
  (s.dom 10 = false → exec (.thrAuthWrite t b) s = .next (s.arrive t))

/-- Feedback of a channel: a frame that fails its checks is counted and changes nothing else, one that repeats the counter changes nothing, a valid
one gives status, thrust, power and azimuth, or shaft and epoch. R257–R259. -/
def Obligations.ThrusterFeedback : Prop := ∀ (t port sof c : Nat) (f : CanFrame) (s : State),
  (between 1 port 4 = false → exec (.thrFeedbackFrame t port sof f) s = .fault (.noSuchUnit port) ∧
    exec (.thrFeedback2Frame t port sof f) s = .fault (.noSuchUnit port)) ∧
  (between 1 port 4 = true → s.fbChan port f = none → exec (.thrFeedbackFrame t port sof f) s = .next (s.arrive t) ∧
    exec (.thrFeedback2Frame t port sof f) s = .next (s.arrive t)) ∧
  (between 1 port 4 = true → s.fbChan port f = some c → s.fbValid c 0x011 f = false →
    exec (.thrFeedbackFrame t port sof f) s = .next ((s.arrive t).modTch c (fun x => { x with fbBad := satInc 255 x.fbBad }))) ∧
  (between 1 port 4 = true → s.fbChan port f = some c → s.fbValid c 0x012 f = false →
    exec (.thrFeedback2Frame t port sof f) s = .next ((s.arrive t).modTch c (fun x => { x with fbBad := satInc 255 x.fbBad }))) ∧
  (between 1 port 4 = true → s.fbChan port f = some c → s.fbValid c 0x011 f = true →
    (s.tch c).fb.counter = some (byte (fld f.data 13 1)) → exec (.thrFeedbackFrame t port sof f) s = .next (s.arrive t)) ∧
  (between 1 port 4 = true → s.fbChan port f = some c → c - 1 < s.thr.chans.length → s.fbValid c 0x011 f = true →
    (s.tch c).fb.counter ≠ some (byte (fld f.data 13 1)) → (fld f.data 12 1).testBit 2 = false →
    ∃ u, exec (.thrFeedbackFrame t port sof f) s = .next u ∧ (u.tch c).tMeas = fldF f.data 0 ∧ (u.tch c).pMeas = fldF f.data 8 ∧
      (u.tch c).tMeasAt = some sof ∧ (u.tch c).fb.ready = (fld f.data 12 1).testBit 0 ∧ (u.tch c).fb.local_ = (fld f.data 12 1).testBit 3 ∧
      (u.tch c).fb.counter = some (byte (fld f.data 13 1)) ∧ (∀ k, 1 ≤ k → k ≠ c → u.tch k = s.tch k) ∧ u.safe = s.safe ∧ u.sent = []) ∧
  (between 1 port 4 = true → s.fbChan port f = some c → s.fbValid c 0x011 f = true →
    (s.tch c).fb.counter ≠ some (byte (fld f.data 13 1)) → (fld f.data 12 1).testBit 2 = true →
    exec (.thrFeedbackFrame t port sof f) s = .next (if (((s.arrive t).feedback c sof f).tch c).fb.fault = true then
      ((s.arrive t).feedback c sof f).abortChanTest c else (s.arrive t).feedback c sof f)) ∧
  (between 1 port 4 = true → s.fbChan port f = some c → c - 1 < s.thr.chans.length → s.fbValid c 0x012 f = true → s.parN .THR_ENC_SHAFT c = 0 →
    (s.tch c).fb2.counter ≠ some (byte (fld f.data 13 1)) →
    ∃ u, exec (.thrFeedback2Frame t port sof f) s = .next u ∧ (u.tch c).shaftSpd = fldF f.data 0 ∧
      (u.tch c).fb2.epochSeen = wN (fld f.data 8 4) ∧ (u.tch c).fb2.faultCode = byte (fld f.data 12 1) ∧
      (∀ k, 1 ≤ k → k ≠ c → u.tch k = s.tch k) ∧ u.sent = [])

/-- The timed supervision of a channel: a fault whose time has run out takes its reaction, one whose condition does not hold changes nothing; an
UNAVAILABLE channel returns after 1 s of READY, a DEGRADED one after 10 s without a condition. R262, R264. -/
def Obligations.ThrusterSupervision : Prop := ∀ (t c : Nat) (s : State), isTch c = true →
  (∀ i b, (i, b) ∈ [(Instr.thrAzFollowExpiry t c, 4), (Instr.thrAzWrongDirExpiry t c, 5), (Instr.thrRudderFollowExpiry t c, 11),
      (Instr.thrTHighExpiry t c, 6), (Instr.thrTDevExpiry t c, 7), (Instr.thrAngDisagreeExpiry t c, 10)] →
    (s.dom 10 = true → (s.tch c).state ≠ 0 → (s.arrive t).thrCond c b = true → exec i s = .next ((s.arrive t).thrFault c b)) ∧
    ((s.arrive t).thrCond c b = false → exec i s = .next (s.arrive t)) ∧
    ((s.dom 10 = false ∨ (s.tch c).state = 0) → exec i s = .next (s.arrive t))) ∧
  (s.dom 10 = true → (s.tch c).state ≠ 0 → (s.arrive t).thrCond c 2 = true →
    exec (.thrFbTimeout t c) s = .next (((s.arrive t).thrFault c 2).thrTimed c 9)) ∧
  (s.dom 10 = true → (s.tch c).state ≠ 0 → (s.arrive t).thrCond c 2 = false → (s.arrive t).thrCond c 9 = true →
    exec (.thrFbTimeout t c) s = .next ((s.arrive t).thrFault c 9)) ∧
  ((s.arrive t).thrCond c 2 = false → (s.arrive t).thrCond c 9 = false → exec (.thrFbTimeout t c) s = .next (s.arrive t)) ∧
  (∀ a, s.dom 10 = true → (s.tch c).state = 3 → (s.tch c).timers.readySince = some a → a + 1000000000 ≤ max s.now t →
    exec (.thrNotReadyRecovery t c) s = .next ((s.arrive t).thrInService c)) ∧
  ((s.tch c).state ≠ 3 → exec (.thrNotReadyRecovery t c) s = .next (s.arrive t)) ∧
  (∀ a, s.dom 10 = true → (s.tch c).state = 2 → (s.tch c).timers.clearSince = some a → a + 10000000000 ≤ max s.now t →
    exec (.thrDegradedRecovery t c) s = .next ((s.arrive t).thrInService c)) ∧
  ((s.tch c).state ≠ 2 → exec (.thrDegradedRecovery t c) s = .next (s.arrive t)) ∧
  (∀ inp, (s.arrive t).sliceStart c = true → s.tconf c = true → (s.tch c).state ≠ 0 →
    exec (.sequencerSlice t c inp) s = .next ((s.arrive t).thrSlice c inp)) ∧
  (∀ inp, (s.arrive t).sliceStart c = false → exec (.sequencerSlice t c inp) s = .next (s.arrive t))

/-- R238. While SEAL is set a write to a shadow register is ignored and WR_SEALED is set; WITHDRAW before the commit instant clears SEAL and unlocks
the shadow set; after it, it has no effect on that commit and WD_LATE is set. -/
def Obligations.SealLocksTheShadowSet : Prop := ∀ (t c o : Nat) (v : Word) (s : State), s.Inv → isTch c = true → s.dom 10 = true →
  (s.tch c).sealed = true →
  ((o = 0x010 ∨ o = 0x014 ∨ o = 0x018) →
    exec (.thrShadowWrite t c o v) s = .next ((s.arrive t).modTch c (fun x => { x with wrSealed := true }))) ∧
  ((s.tch c).latch = false → ∃ u, exec (.thrWithdraw t c) s = .next u ∧ u.tch c = { s.tch c with sealed := false, withdrawnAt := some (max s.now t) } ∧
    ∀ t' w, ∃ z, exec (.thrShadowWrite t' c 0x010 w) u = .next z ∧ (z.tch c).shT = w) ∧
  ((s.tch c).latch = true → exec (.thrWithdraw t c) s = .next ((s.arrive t).modTch c (fun x => { x with wdLate := true })))

/-- The receiver while it runs: epochs and the checks of a second act, a signal acquired takes a channel, one lost is kept for 10 s and then released;
with the receiver off nothing happens. R275, R276, R288. -/
def Obligations.ReceiverSignals : Prop := ∀ (t : Nat) (id : SigId) (el : Rat) (o : EpochObs) (o2 : SecondObs) (s : State),
  (s.satOn = false → exec (.satEpoch t o) s = .next (s.arrive t) ∧ exec (.satSecondChecks t o2) s = .next (s.arrive t) ∧
    exec (.satSignalAcquired t id el) s = .next (s.arrive t) ∧ exec (.satSignalLost t id) s = .next (s.arrive t) ∧
    exec (.satChannelRelease t id) s = .next (s.arrive t)) ∧
  (s.satOn = true → exec (.satEpoch t o) s = .next ((s.arrive t).satEpoch o)) ∧
  (s.satOn = true → exec (.satSecondChecks t o2) s = .next ((s.arrive t).satSecond o2)) ∧
  (s.satOn = true → id.valid = true → s.par .SAT_ELEV_MASK ≤ el → id.sys ≠ .sbas → (∀ c ∈ s.sat.chans, c.id ≠ id) → s.sat.chans.length < 384 →
    exec (.satSignalAcquired t id el) s = .next { s.arrive t with sat := { s.sat with chans := s.sat.chans ++ [{ id := id, elev := el }] } }) ∧
  (s.satOn = true → el < s.par .SAT_ELEV_MASK → exec (.satSignalAcquired t id el) s = .next (s.arrive t)) ∧
  (s.satOn = true → id.valid = false → exec (.satSignalAcquired t id el) s = .next (s.arrive t)) ∧
  (s.satOn = true → exec (.satChannelRelease t id) s = .next { s.arrive t with sat := { s.sat with
    chans := s.sat.chans.filter (fun c => c.id ≠ id || !(s.arrive t).held c.lostAt 10000000000) } }) ∧
  (s.satOn = true → (s.sat.time.qual = 1 ∨ 5 ≤ (State.masterSats { s.arrive t with sat := { s.sat with
      chans := s.sat.chans.map (fun c => if c.id = id then { c with lostAt := some (c.lostAt.getD (max s.now t)) } else c) } })) →
    exec (.satSignalLost t id) s = .next { s.arrive t with sat := { s.sat with
      chans := s.sat.chans.map (fun c => if c.id = id then { c with lostAt := some (c.lostAt.getD (max s.now t)) } else c) } }) ∧
  (s.satOn = true → s.sat.time.qual ≠ 1 → (State.masterSats { s.arrive t with sat := { s.sat with
      chans := s.sat.chans.map (fun c => if c.id = id then { c with lostAt := some (c.lostAt.getD (max s.now t)) } else c) } }) < 5 →
    exec (.satSignalLost t id) s = .next (State.satLose { s.arrive t with sat := { s.sat with
      chans := s.sat.chans.map (fun c => if c.id = id then { c with lostAt := some (c.lostAt.getD (max s.now t)) } else c) } }))

/-- SAT time: 1 s without an update is HOLDOVER, the confirmed return is judged, a decided step is made at its second, a slew that is over is LOCKED;
each second gives its pulse unless a step suppresses it; retained data are written when 60 s or 600 s have passed. R289, R292–R294, R298, R325. -/
def Obligations.ReceiverTime : Prop := ∀ (t : Nat) (s : State),
  (s.dom 8 = true → (s.sat.time.qual = 1 ∨ s.sat.time.qual = 3) → s.sat.time.lastUpdate + 1000000000 ≤ max s.now t →
    exec (.satHoldoverEntry t) s = .next (s.arrive t).satLose) ∧
  (max s.now t < s.sat.time.lastUpdate + 1000000000 → exec (.satHoldoverEntry t) s = .next (s.arrive t)) ∧
  (∀ w e l a, s.satOn = true → s.sat.time.offsets = (w, e) :: l → s.sat.time.qual = 2 → s.sat.time.latchedHold = false →
    s.sat.spoofLatched = false → s.sat.time.stepDue = none → s.sat.time.confirmSince = some a →
    a + s.parNs .SAT_RETURN_CONFIRM ≤ max s.now t → exec (.satReturnConfirmed t) s = .next ((s.arrive t).satReturn e)) ∧
  (s.sat.time.qual ≠ 2 → exec (.satReturnConfirmed t) s = .next (s.arrive t)) ∧
  (∀ a e, s.satOn = true → s.sat.time.stepDue = some (a, e) → a ≤ max s.now t → exec (.satTimeStep t) s = .next ((s.arrive t).satStep e)) ∧
  (∀ a e, s.sat.time.stepDue = some (a, e) → max s.now t < a → exec (.satTimeStep t) s = .next (s.arrive t)) ∧
  (s.sat.time.stepDue = none → exec (.satTimeStep t) s = .next (s.arrive t)) ∧
  (s.satOn = true → s.sat.time.qual = 3 → s.sat.time.slewEnd ≤ max s.now t →
    ∃ u, exec (.satSlewComplete t) s = .next u ∧ u.sat.time.qual = 1 ∧ u.alarmOn .SAT_HOLDOVER = false) ∧
  (s.sat.time.qual ≠ 3 → exec (.satSlewComplete t) s = .next (s.arrive t)) ∧
  (s.dom 8 = true → s.dom 9 = false → s.sat.time.qual ≠ 0 → s.sat.time.ppsSuppressUntil = none → s.sat.time.stepDue = none →
    ((s.arrive t).satTime + 5) % 1000000000 ≤ 10 → exec (.satPps t) s = .next { s.arrive t with sat := { s.sat with time := { s.sat.time with lastPps := some (max s.now t) } } }) ∧
  (s.dom 8 = true → s.dom 9 = true → s.netUp = true → s.sat.time.qual ≠ 0 → s.sat.time.ppsSuppressUntil = none → s.sat.time.stepDue = none →
    ((s.arrive t).satTime + 5) % 1000000000 ≤ 10 → exec (.satPps t) s = .next (State.satEdge { s.arrive t with
      sat := { s.sat with time := { s.sat.time with lastPps := some (max s.now t) } } }).ppsOut) ∧
  (∀ u, s.sat.time.ppsSuppressUntil = some u → (s.arrive t).satTime + 5 < u → exec (.satPps t) s = .next (s.arrive t)) ∧
  ((s.sat.time.qual = 0 ∨ 10 < ((s.arrive t).satTime + 5) % 1000000000) → exec (.satPps t) s = .next (s.arrive t)) ∧
  (∀ p d, s.satOn = true → p = decide (s.sat.posWrittenAt + 60000000000 ≤ max s.now t) →
    d = decide (s.sat.driftWrittenAt + 600000000000 ≤ max s.now t) → (p = true ∨ d = true) →
    exec (.satRetainedWrite t) s = .next ((s.arrive t).satWrite p d false)) ∧
  (max s.now t < s.sat.posWrittenAt + 60000000000 → max s.now t < s.sat.driftWrittenAt + 600000000000 →
    exec (.satRetainedWrite t) s = .next (s.arrive t))

/-- The antennas and the corrections: an open or shorted bias and a baseline that differs for 10 s are alarms and states of the antenna, a shorted
bias is retried after 10 s; an RTCM frame counts for SAT_RTCM_PORT alone, a bad one is counted, observations of a system are noted with their instant,
others are counted. R273, R282, R284. -/
def Obligations.ReceiverInputs : Prop := ∀ (t a : Nat) (ok : Bool) (via : RtcmVia) (b : List Byte) (s : State),
  (between 1 a 4 = false → exec (.antOpenDetect t a) s = .fault (.noSuchUnit a) ∧ exec (.antShort t a) s = .fault (.noSuchUnit a) ∧
    exec (.antBiasRetry t a ok) s = .fault (.noSuchUnit a) ∧ exec (.antGeometryExclude t a) s = .fault (.noSuchUnit a)) ∧
  (between 1 a 4 = true → s.dom 8 = false → exec (.antOpenDetect t a) s = .next (s.arrive t) ∧ exec (.antShort t a) s = .next (s.arrive t) ∧
    exec (.antBiasRetry t a ok) s = .next (s.arrive t) ∧ exec (.antGeometryExclude t a) s = .next (s.arrive t)) ∧
  (∀ i, between 1 a 4 = true → s.dom 8 = true → (s.ant a).biasOn = true → (s.ant a).openSince = some i → i + 1000000000 ≤ max s.now t →
    ∃ u, exec (.antOpenDetect t a) s = .next u ∧ u.alarmOn .ANT_OPEN a = true ∧
      OnlyLog ((s.arrive t).modAnt a (fun x => { x with opened := true, okSince := none })) u) ∧
  (between 1 a 4 = true → ((s.ant a).biasOn = false ∨ (s.ant a).openSince = none) → exec (.antOpenDetect t a) s = .next (s.arrive t)) ∧
  (between 1 a 4 = true → s.dom 8 = true → (s.ant a).biasOn = true →
    ∃ u, exec (.antShort t a) s = .next u ∧ u.alarmOn .ANT_SHORT a = true ∧ OnlyLog ((s.arrive t).modAnt a (fun x => { x with
      biasOn := false, opened := false, openSince := none, shortAt := some (max s.now t), okSince := none, current := 0 })) u) ∧
  (∀ i, between 1 a 4 = true → s.dom 8 = true → (s.ant a).shortAt = some i → i + 10000000000 ≤ max s.now t →
    exec (.antBiasRetry t a true) s = .next ((s.arrive t).modAnt a (fun x => { x with
      biasOn := true, shortAt := none, okSince := some (max s.now t) })) ∧
    exec (.antBiasRetry t a false) s = .next ((s.arrive t).modAnt a (fun x => { x with shortAt := some (max s.now t) }))) ∧
  (∀ i, between 1 a 4 = true → s.dom 8 = true → (s.ant a).geomSince = some i → i + 10000000000 ≤ max s.now t → (s.ant a).excluded = false →
    ∃ u, exec (.antGeometryExclude t a) s = .next u ∧ u.alarmOn .ANT_GEOMETRY a = true ∧
      OnlyLog ((s.arrive t).modAnt a (fun x => { x with excluded := true, geomOkSince := none })) u) ∧
  (s.rtcmFrom via = false → exec (.rtcmFrame t via b) s = .next (s.arrive t)) ∧
  (∀ p, s.rtcmFrom (.udp p) = true → s.dom 8 = true → b.getD 0 0 ≠ 0xD3 →
    exec (.rtcmFrame t (.udp p) b) s = .next { s.arrive t with sat := { s.sat with rtcmBad := s.sat.rtcmBad + 1 } }) ∧
  (∀ p y, s.rtcmFrom (.udp p) = true → s.dom 8 = true → rtcmSound b = true → rtcmSys (msbField b 24 12) = some y → (y = .beidou → rtcmBds b = true) →
    exec (.rtcmFrame t (.udp p) b) s = .next { s.arrive t with sat := { s.sat with
      corrAt := some (max s.now t), corrSys := (y, max s.now t) :: s.sat.corrSys.filter (fun e => e.1 ≠ y) } }) ∧
  (∀ n e, s.rtcmFrom (.ser n e) = true → e ≠ 0 →
    exec (.rtcmFrame t (.ser n e) b) s = .next (((s.arrive t).serChars n b.length e).serBad n)) ∧
  (∀ n, s.rtcmFrom (.ser n 0) = true → rtcmSound b = true → s.dom 8 = true →
    exec (.rtcmFrame t (.ser n 0) b) s = .next ((((s.arrive t).serChars n b.length 0).serGood n).rtcm b))

/-- The sources of the virtual clocks: a delay joins the last eight, an announce goes to both clocks, four Sync intervals without a Sync and the end
of the announces lose the source; a clock is LOCKED after its lock time; the interval of a port sends its message. R307, R308, R311, R316–R318.
PPS_IN: a clock with another source is left alone; an edge of one that follows it is noted, present where it comes 1 s ± 100 µs after the last, with a
sample for a clock that has a time; edges that stop lose the source. R307. -/
def Obligations.ClockSourcesAndPulseInput : Prop :=
  (∀ (t n port d o k : Nat) (log : Int) (c : Rat) (m : PtpAnnounce) (s : State),
  (2 ≤ n → exec (.ptpSyncReceived t n port d k log o c) s = .fault (.noSuchUnit n) ∧ exec (.ptpDelayResponse t n c) s = .fault (.noSuchUnit n) ∧
    exec (.ptpAnnounceReceived t n m) s = .fault (.noSuchUnit n) ∧ exec (.ptpAnnounceTimeout t n port) s = .fault (.noSuchUnit n) ∧
    exec (.ptpSyncTimeout t n) s = .fault (.noSuchUnit n) ∧ exec (.vcLock t n) s = .fault (.noSuchUnit n)) ∧
  (n < 2 → s.dom 9 = false → exec (.ptpSyncReceived t n port d k log o c) s = .next (s.arrive t) ∧ exec (.vcLock t n) s = .next (s.arrive t) ∧
    exec (.ptpTransmitInterval t n port k) s = .next (s.arrive t) ∧ exec (.ppsInEdge t) s = .next (s.arrive t)) ∧
  (n < 2 → s.netUp = false → exec (.ptpSyncReceived t n port d k log o c) s = .next (s.arrive t) ∧
    exec (.ptpDelayResponse t n c) s = .next (s.arrive t) ∧ exec (.ptpAnnounceReceived t n m) s = .next (s.arrive t)) ∧
  (n < 2 → s.netUp = true → exec (.ptpSyncReceived t n port d k log o c) s = .next ((s.arrive t).ptpSync n port d k log o c)) ∧
  (n < 2 → s.netUp = true →
    ∃ u, exec (.ptpDelayResponse t n c) s = .next u ∧ u.vc n = { s.vc n with delays := (c :: (s.vc n).delays).take 8 } ∧
      u.vc (1 - n) = s.vc (1 - n)) ∧
  (port < 2 → s.netUp = true → exec (.ptpAnnounceReceived t port m) s = .next (((s.arrive t).announce 0 port m).announce 1 port m)) ∧
  (n < 2 → s.dom 9 = true → (s.vc n).portToMaster = port → (s.vc n).lastAnnounce + (s.arrive t).annTimeout ≤ max s.now t → (s.vc n).src = .ptp →
    exec (.ptpAnnounceTimeout t n port) s = .next ((((s.arrive t).modVc n (fun v => { v with
      best := v.best.filter (fun e => e.1 ≠ port || !(s.arrive t).past e.2.1 (s.arrive t).annTimeout) })).cfgSrcLost n).bmca n)) ∧
  (n < 2 → s.dom 9 = true → (s.vc n).portToMaster ≠ port → (∀ e ∈ (s.vc n).best, e.1 ≠ port) →
    exec (.ptpAnnounceTimeout t n port) s = .next (s.arrive t)) ∧
  (n < 2 → s.dom 9 = true → s.vcCfgSrc n = .ptp → (s.vc n).src = .ptp →
    (s.vc n).lastSync + natOf (4 * pow2 (s.vc n).syncLog * 1000000000) ≤ max s.now t →
    exec (.ptpSyncTimeout t n) s = .next ((s.arrive t).cfgSrcLost n)) ∧
  (n < 2 → s.vcCfgSrc n ≠ .ptp → exec (.ptpSyncTimeout t n) s = .next (s.arrive t)) ∧
  (∀ a, n < 2 → s.dom 9 = true → (s.vc n).qual = 3 → (s.vc n).srcPresent = true → (s.vc n).lockSince = some a →
    a + s.parNs .TMU_LOCK_TIME ≤ max s.now t →
    ∃ u, exec (.vcLock t n) s = .next u ∧ u.alarmOn .TIME_SRC_LOST n = false ∧
      OnlyLog ((s.arrive t).setVc n { s.vc n with qual := 1, everLocked := true }) u) ∧
  (n < 2 → (s.vc n).qual ≠ 3 → exec (.vcLock t n) s = .next (s.arrive t)) ∧
  (n < 2 → s.netUp = true → s.vcCfgSrc n = .ptp → port < 3 → k < 4 → (s.arrive t).ptpSends n port k = true →
    (∀ a, assoc s.tmu.ptpSent (12 * n + 4 * port + k) = some a → a + s.ptpInterval k ≤ max s.now t) →
    exec (.ptpTransmitInterval t n port k) s = .next { s.arrive t with
      tmu := { s.tmu with
        ptpSeq := (s.tmu.ptpSeq + 1) % 65536
        ptpSent := assocSet s.tmu.ptpSent (12 * n + 4 * port + k) (max s.now t) }
      sent := [.ptp n port k s.tmu.ptpSeq (if k = 1 then some ((s.arrive t).annOut n port) else none)] }) ∧
  (n < 2 → s.vcCfgSrc n ≠ .ptp → exec (.ptpTransmitInterval t n port k) s = .next (s.arrive t))) ∧
  (∀ (t : Nat) (s : State),
  (s.vcCfgSrc 0 ≠ .pps → s.vcCfgSrc 1 ≠ .pps → exec (.ppsInEdge t) s = .next (s.arrive t) ∧ exec (.ppsInLost t) s = .next (s.arrive t)) ∧
  (s.dom 9 = true → s.vcCfgSrc 0 = .pps → s.vcCfgSrc 1 ≠ .pps → s.tmu.vc0.ppsLast = none →
    exec (.ppsInEdge t) s = .next (((s.arrive t).modVc 0 (fun v => { v with
      ppsLast := some (s.arrive t).raw, srcPresentAt := none })).cfgSrcLost 0)) ∧
  (∀ a, s.dom 9 = true → s.vcCfgSrc 0 = .pps → s.vcCfgSrc 1 ≠ .pps → s.tmu.vc0.ppsLast = some a →
    999900000 ≤ (s.arrive t).raw - a → (s.arrive t).raw - a ≤ 1000100000 → s.tmu.vc0.qual = 0 →
    exec (.ppsInEdge t) s = .next ((s.arrive t).modVc 0 (fun v => { v with
      ppsLast := some (s.arrive t).raw, srcPresentAt := some (v.srcPresentAt.getD (max s.now t)) }))) ∧
  (∀ a, s.dom 9 = true → s.vcCfgSrc 0 = .pps → s.tmu.vc0.ppsLast = some a → s.tmu.vc1.ppsLast = none → a + 1000100000 < (s.arrive t).raw →
    s.vcCfgSrc 1 ≠ .pps →
    exec (.ppsInLost t) s = .next (((s.arrive t).modVc 0 (fun v => { v with ppsLast := none })).cfgSrcLost 0)))

/-- The steps and the choice of clocks: a whole second applies an armed step that nothing bars; after its time the frame returns to VC0 at its next
start, a clock that fell back to its source; TMU_CTRL forces, permits and releases, TMU_INCR is clamped to 4.0 ns ± 50 ppm. R305, R309, R310, R313,
R314. -/
def Obligations.ClockControl : Prop := ∀ (t n : Nat) (v : Word) (s : State),
  (2 ≤ n → exec (.vcStep t n) s = .fault (.noSuchUnit n) ∧ exec (.fallbackReturnTimer t n) s = .fault (.noSuchUnit n)) ∧
  (n < 2 → s.dom 9 = true → (s.vc n).stepArm = true → (s.vc n).lastStepAt = none → (s.arrive t).atSecond n = true →
    (s.arrive t).stepBarred n = false →
    exec (.vcStep t n) s = .next ((s.arrive t).vcApplyStep n)) ∧
  (n < 2 → s.dom 9 = true → (s.vc n).stepArm = true → (s.vc n).lastStepAt = none → (s.arrive t).atSecond n = true →
    (s.arrive t).stepBarred n = true →
    exec (.vcStep t n) s = .next (((s.arrive t).modVc n (fun v => { v with stepPending := true })).raiseAlarm .TIME_STEP_PENDING n)) ∧
  (n < 2 → ((s.vc n).stepArm = false ∨ (s.arrive t).atSecond n = false) → exec (.vcStep t n) s = .next (s.arrive t)) ∧
  (s.dom 9 = true → (s.arrive t).wantVc = some 0 →
    exec (.frameRevertTimer t) s = .next { s.arrive t with tmu := { s.tmu with switchTo := some 0 } }) ∧
  ((s.arrive t).wantVc ≠ some 0 → exec (.frameRevertTimer t) s = .next (s.arrive t)) ∧
  (∀ a, n < 2 → s.dom 9 = true → (s.vc n).fallback = true → (s.vc n).srcPresentAt = some a → a + 10000000000 ≤ max s.now t →
    exec (.fallbackReturnTimer t n) s = .next ((((s.arrive t).modVc n (fun v => { v with fallback := false, src := s.vcCfgSrc n })).masterChange n
      (s.vc n).gmId (s.vc n).gmId).modVc n (fun x => { x with srcPresentAt := some a }))) ∧
  (n < 2 → (s.vc n).fallback = false → exec (.fallbackReturnTimer t n) s = .next (s.arrive t)) ∧
  (s.dom 9 = true → v.toNat.testBit 4 = false → v.toNat.testBit 5 = false →
    exec (.tmuCtrlWrite t v) s = .next { s.arrive t with tmu := { s.tmu with
      force := if v.toNat % 4 = 3 then s.tmu.force else v.toNat % 4, revert := v.toNat.testBit 2, fallbackSat := v.toNat.testBit 3 } }) ∧
  (s.dom 9 = true → v.toNat.testBit 4 = true → v.toNat.testBit 5 = false →
    exec (.tmuCtrlWrite t v) s = .next (State.stepAllow { s.arrive t with tmu := { s.tmu with
      force := if v.toNat % 4 = 3 then s.tmu.force else v.toNat % 4, revert := v.toNat.testBit 2, fallbackSat := v.toNat.testBit 3 } } 0)) ∧
  (s.dom 9 = true →
    ∃ u, exec (.tmuIncrWrite t v) s = .next u ∧ u.tmu.raw.base = (s.arrive t).rawFixed ∧ u.tmu.raw.baseAt = max s.now t ∧
      0x3FFF2E49 ≤ u.tmu.raw.incr.toNat ∧ u.tmu.raw.incr.toNat ≤ 0x4000D1B7 ∧
      (0x3FFF2E49 ≤ v.toNat → v.toNat ≤ 0x4000D1B7 → u.tmu.raw.incr = v) ∧ u.raw = (s.arrive t).raw) ∧
  (s.dom 9 = false → exec (.tmuCtrlWrite t v) s = .next (s.arrive t) ∧ exec (.tmuIncrWrite t v) s = .next (s.arrive t) ∧
    exec (.frameRevertTimer t) s = .next (s.arrive t))

/-- Extended reads and captures: a LO register answers the low word and latches the high word for its requester; a captured source enters each FIFO it
feeds; DATA0 answers and latches the oldest entry, DATA1 answers and removes it; entries unread for 2 s are marked. R319–R321, R328. The pulse
outputs: arming programs and arms an output unless its instant is past, disarming one that has not begun is ABORTED, a due output goes high and
counts, the end of its width takes it low. R325–R327. -/
def Obligations.TimeReadsAndPulseOutputs : Prop :=
  (∀ (t k f : Nat) (who : Who) (r : Bool) (s : State),
  (4 ≤ k → exec (.timeLoRead t who k) s = .fault (.noSuchUnit k)) ∧
  (k < 4 → s.dom 9 = true →
    ∃ u, exec (.timeLoRead t who k) s = .next u ∧ u.sent = [.readData ((s.arrive t).readLo who k).1] ∧
      ∀ w : Who, w.latch ≠ who.latch → u.tmu.hi.getD w.latch {} = s.tmu.hi.getD w.latch {}) ∧
  (s.dom 9 = true → 3 ≤ s.tmu.hi.length →
    ∃ u, exec (.timeLoRead t who 0) s = .next u ∧ u.sent = [.readData ((words64 ((s.arrive t).sel : Int)).getD 0 0)] ∧
      (u.tmu.hi.getD who.latch {}).sel = (words64 ((s.arrive t).sel : Int)).getD 1 0) ∧
  (8 ≤ f → exec (.captureEntryAged t f) s = .fault (.noSuchUnit f) ∧ exec (.capFifoData0Read t f) s = .fault (.noSuchUnit f) ∧
    exec (.capFifoData1Read t f) s = .fault (.noSuchUnit f)) ∧
  (isCapSource k = false → exec (.captureEvent t k r) s = .fault (.noSuchUnit k)) ∧
  (isCapSource k = true → s.dom 9 = true → exec (.captureEvent t k r) s = .next ((s.arrive t).capture k r)) ∧
  (f < 8 → f < s.tmu.caps.length → (s.parL .TMU_CAP_SOURCES f).contains (k : Rat) = true → (s.capf f).q.length < 256 →
    (s.capture k r).capf f = { s.capf f with lost := false, q := (s.capf f).q ++ [{
      ns := wN (s.sel % 2 ^ 32), source := k, rising := r, raw := s.raw, gen := s.tmu.selGen, overrun := (s.capf f).lost }] }) ∧
  (f < 8 → s.dom 9 = true → exec (.captureEntryAged t f) s = .next ((s.arrive t).modCap f (fun c => { c with
    q := c.q.map (fun e => { e with aged := (s.arrive t).capAged e }) }))) ∧
  (∀ e l, f < 8 → s.dom 9 = true → f < s.tmu.caps.length → (s.capf f).q = e :: l →
    ∃ u, exec (.capFifoData0Read t f) s = .next u ∧ u.sent = [.readData e.ns] ∧ (u.capf f).q = e :: l ∧
      (u.capf f).latched = some { e with aged := (s.arrive t).capAged e }) ∧
  (f < 8 → s.dom 9 = true → (s.capf f).q = [] → ∃ u, exec (.capFifoData0Read t f) s = .next u ∧ u.sent = [.readData 0]) ∧
  (∀ e, f < 8 → s.dom 9 = true → f < s.tmu.caps.length → (s.capf f).latched = some e →
    ∃ u, exec (.capFifoData1Read t f) s = .next u ∧ u.sent = [.readData (s.data1 e)] ∧ (u.capf f).q = (s.capf f).q.tail ∧
      (u.capf f).latched = none) ∧
  (f < 8 → s.dom 9 = true → (s.capf f).latched = none →
    exec (.capFifoData1Read t f) s = .next { s.arrive t with sent := [.readData 0] })) ∧
  (∀ (t k : Nat) (v : Word) (s : State),
  (6 ≤ k → exec (.pulseArm t k v) s = .fault (.noSuchUnit k) ∧ exec (.pulseDisarm t k) s = .fault (.noSuchUnit k) ∧
    exec (.pulseOutputFire t k) s = .fault (.noSuchUnit k) ∧ exec (.pulseWidthEnd t k) s = .fault (.noSuchUnit k)) ∧
  (k < 6 → s.dom 9 = true → exec (.pulseArm t k v) s = .next ((s.arrive t).pulseCtrl k (v ||| 1))) ∧
  (s.armPast k (s.pulse k).clk (s.pulse k).start = false →
    s.pulseArm k = s.modPulse k (fun x => { x with armed := true, next := x.start, armAfter := x.high })) ∧
  (s.armPast k (s.pulse k).clk (s.pulse k).start = true → s.pulseArm k = s.modPulse k (fun x => { x with past := true })) ∧
  (k < 6 → s.dom 9 = true → (s.pulse k).armed = true →
    ∃ u, exec (.pulseDisarm t k) s = .next u ∧ OnlyLog ((s.arrive t).modPulse k (fun x => { x with
      armed := false, armAfter := false, abortedF := x.abortedF || !x.high })) u) ∧
  (k < 6 → (s.pulse k).armed = false → exec (.pulseDisarm t k) s = .next (s.arrive t)) ∧
  (k < 6 → s.dom 9 = true → k < s.tmu.pulses.length → (s.arrive t).pulseDue k = true → (s.pulse k).high = false →
    ∃ u, exec (.pulseOutputFire t k) s = .next u ∧ u.pulse k = { s.pulse k with
      high := true, endAt := max s.now t + (s.pulse k).width, count := (s.pulse k).count + 1, lastEdgeRaw := some (s.arrive t).raw
      armed := (s.pulse k).armed && (k = 5 || (s.pulse k).clk = 3 || (s.pulse k).period ≠ 0)
      next := (s.pulse k).next + (s.pulse k).period } ∧ ∀ j, j ≠ k → u.pulse j = s.pulse j) ∧
  (k < 6 → (s.arrive t).pulseDue k = false → exec (.pulseOutputFire t k) s = .next (s.arrive t)) ∧
  (k < 6 → s.dom 9 = true → (s.pulse k).high = true → (s.pulse k).endAt ≤ max s.now t →
    exec (.pulseWidthEnd t k) s = .next ((s.arrive t).modPulse k (fun x => { x with high := false, armAfter := false }))) ∧
  (k < 6 → max s.now t < (s.pulse k).endAt → exec (.pulseWidthEnd t k) s = .next (s.arrive t)))

/-- A producer's message, its silence and a point's timeout, and a write of the partition: which point is written, with which quality, source and next
sequence number, what happens behind a force, and what a write that fails a check does. R375, R377–R380, R382. A subscription sends its notification
in its window of the frame when it is due, to the address it was made from, and counts it; outside the window nothing is sent. R385. -/
def Obligations.PointEventsAndNotifications : Prop :=
  (∀ (t p k : Nat) (v : Dword) (ts : Nat) (s : State),
  (512 ≤ k → exec (.producerWrite t p k v ts) s = .fault (.noSuchUnit k) ∧ exec (.producerTimeout t k) s = .fault (.noSuchUnit k)) ∧
  (cfgPoint p = false → exec (.pointTimeout t p) s = .fault (.noSuchUnit p)) ∧
  (k < 512 → s.dom 1 = true → s.prodCfg k = true → s.producedBy p k = true → encodedFor (s.cfgType p) v = true → s.force? p = none →
    ∃ u, exec (.producerWrite t p k v ts) s = .next u ∧
      u.point p = {
        value := v, ts := ts, seq := pseqNext (s.point p).seq, qual := qGood, src := BitVec.ofNat 16 (0x8000 + k), typ := byte (s.cfgType p) } ∧
      (∀ j, j ≠ p → u.point j = s.point j) ∧ u.prod k = { s.prod k with state := 1, lastMsg := max s.now t }) ∧
  (k < 512 → s.dom 1 = true → s.prodCfg k = true → s.producedBy p k = true → encodedFor (s.cfgType p) v = false → s.force? p = none →
    ∃ u, exec (.producerWrite t p k v ts) s = .next u ∧ (u.point p).qual = qBad ||| rRange ∧
      (u.point p).seq = pseqNext (s.point p).seq ∧ ∀ j, j ≠ p → u.point j = s.point j) ∧
  (∀ f, k < 512 → s.dom 1 = true → s.prodCfg k = true → s.producedBy p k = true → encodedFor (s.cfgType p) v = true → s.force? p = some f →
    ∃ u, exec (.producerWrite t p k v ts) s = .next u ∧ (∀ j, u.point j = s.point j) ∧
      u.force? p = some { f with
        keptAt := max s.now t
        kept := some {
          value := v, ts := ts, seq := 0, qual := qGood, src := BitVec.ofNat 16 (0x8000 + k), typ := byte (s.cfgType p) } }) ∧
  (k < 512 → s.dom 1 = true → s.prodCfg k = true → s.producedBy p k = false →
    ∃ u, exec (.producerWrite t p k v ts) s = .next u ∧ (∀ j, u.point j = s.point j) ∧
      u.prod k = { s.prod k with state := 1, lastMsg := max s.now t }) ∧
  (k < 512 → s.dom 1 = true → s.prodCfg k = true → (s.prod k).state = 1 → (s.prod k).lastMsg + s.parMs .PNT_PROD_TIMEOUT k ≤ max s.now t →
    ∃ u, exec (.producerTimeout t k) s = .next u ∧ u.prod k = { s.prod k with state := 2 } ∧ u.alarmOn .PRODUCER_SILENT = true ∧
      (∀ j, s.producedBy j k = false → u.point j = s.point j) ∧
      (s.producedBy p k = true → s.force? p = none → s.parB .PNT_SUBST p = false →
        u.point p = { s.point p with qual := qStale ||| rNoProducer })) ∧
  (k < 512 → s.dom 1 = true → max s.now t < (s.prod k).lastMsg + s.parMs .PNT_PROD_TIMEOUT k →
    exec (.producerTimeout t k) s = .next ((s.arrive t).fioFollow)) ∧
  (cfgPoint p = true → s.dom 1 = true → (s.arrive t).pointTimedOut p = true → s.timedShown p = false → s.force? p = none →
    s.parB .PNT_SUBST p = false →
    ∃ u, exec (.pointTimeout t p) s = .next u ∧ u.point p = { s.point p with qual := qStale ||| rTimeout } ∧
      ∀ j, j ≠ p → u.point j = s.point j) ∧
  (cfgPoint p = true → s.dom 1 = true → (s.arrive t).pointTimedOut p = true → s.timedShown p = false → s.force? p = none →
    s.parB .PNT_SUBST p = true →
    ∃ u, exec (.pointTimeout t p) s = .next u ∧
      u.point p = {
        value := (encodeNum (s.cfgType p) (s.par .PNT_SUBST_VAL p)).1, ts := (s.arrive t).sel, seq := pseqNext (s.point p).seq
        qual := qSubst ||| rTimeout, src := 0xFFFF, typ := byte (s.cfgType p) } ∧
      ∀ j, j ≠ p → u.point j = s.point j) ∧
  (cfgPoint p = true → (s.arrive t).pointTimedOut p = false → exec (.pointTimeout t p) s = .next (s.arrive t)) ∧
  (s.part.running = true → s.dom 1 = true → (s.arrive t).wrCheck = 0 →
    ∃ u, exec (.pntWrGo t) s = .next u ∧ u.pnt.wrStat = 0 ∧ u.pnt.writes = s.pnt.writes + 1 ∧
      u.point s.pnt.wrIdx = {
        value := s.pnt.wrVal, ts := if s.pnt.wrTime = 0 then (s.arrive t).sel else s.pnt.wrTime.toNat
        seq := pseqNext (s.point s.pnt.wrIdx).seq, qual := s.pnt.wrQual, src := 0xFFFE, typ := byte (s.cfgType s.pnt.wrIdx) } ∧
      ∀ j, j ≠ s.pnt.wrIdx → u.point j = s.point j) ∧
  (s.part.running = true → s.dom 1 = true → (s.arrive t).wrCheck ≠ 0 → (s.arrive t).wrCheck ≠ 5 →
    exec (.pntWrGo t) s = .next (State.fioFollow { s.arrive t with pnt := { s.pnt with wrStat := (s.arrive t).wrCheck } })) ∧
  (s.part.running = false → exec (.pntWrGo t) s = .next (s.arrive t))) ∧
  (∀ (t n : Nat) (s : State) (b : Subscr), s.pnt.subs.find? (fun b => b.num = n) = some b →
  (∀ x, s.sess? b.session = some x → s.frame.running = true → s.frame.startAt + 19000000 ≤ max s.now t →
    max s.now t ≤ s.frame.startAt + 20000000 → s.notifies x = true → b.period ≤ b.wait → s.subReport b ≠ [] →
    x.dormant = false → x.closing = false → ∃ u, exec (.pointNotify t n) s = .next u ∧
      u.pnt.subs = s.pnt.subs.map (fun y => if y.num = b.num then { b with
        counter := b.counter + 1, wait := 0, last := b.points.map (fun p => (p, (s.point p).seq, (s.point p).qual)) } else y) ∧
      u.sent = [.packet b.iface b.addr b.port
        (let pk := packet (fgReply ||| (if x.auth then fgAuth else 0) ||| (if s.single x then fgSingle else 0)) x.client x.num 0 0x0817 stDone
          s.red.epochHeld (s.notifyBytes b (s.subReport b))
         pk ++ trailer x.trailKey pk)]) ∧
  (s.frame.running = false → exec (.pointNotify t n) s = .next (s.arrive t)) ∧
  (s.frame.startAt + 20000000 < max s.now t → exec (.pointNotify t n) s = .next (s.arrive t)) ∧
  (b.wait < b.period → exec (.pointNotify t n) s = .next (s.arrive t)))

/-- R375. A write of a point replaces value, timestamp, quality, source and type together and counts it; the sequence number is 0 until the first
write and wraps from 0xFFFF_FFFF to 1; a change of quality alone changes only the quality word. -/
def Obligations.WritesOfAPoint : Prop := ∀ (s : State) (p ts : Nat) (v : Dword) (ty : Byte) (q src : Half),
  (s.writePoint p v ty ts q src).point p = {
    value := v, ts := ts, seq := if (s.point p).seq = 0xFFFFFFFF then 1 else (s.point p).seq + 1, qual := q, src := src, typ := ty } ∧
  (∀ k, k ≠ p → (s.writePoint p v ty ts q src).point k = s.point k) ∧
  (assoc s.pnt.points p = none → (s.point p).seq = 0) ∧
  (s.requal p q).point p = { s.point p with qual := q } ∧
  ∀ k, k ≠ p → (s.requal p q).point k = s.point k

/-- Heartbeats: one goes out on every path at F+3 ms; a valid one of a partner is taken as its state, one with the own unit ID is a conflict, any
other message changes nothing; at F+6 ms missed ones are counted and a partner is lost. A strap that changes waits for the next reset. R388, R390,
R392–R394, R402, R404. -/
def Obligations.HeartbeatEvents : Prop := ∀ (t path k : Nat) (b : List Byte) (s : State),
  (3 ≤ path → exec (.heartbeatReceived t path b) s = .fault (.noSuchUnit path)) ∧
  (s.frame.running = true → s.red.unit ≠ 3 → s.dom 3 = true → 3000000 ≤ (s.arrive t).frameElapsed → s.red.hbFrame ≠ some s.frame.number →
    s.red.relPend = none → s.red.releaseDue = false →
    exec (.heartbeatSend t) s = .next { s.arrive t with
      red := { s.red with requestAt := (s.arrive t).raw, hbFrame := some s.frame.number }
      sent := s.paths.map (fun p => .heartbeat p (s.shesen (s.hbFlags (s.red.rotation = some 1))
        (if s.red.rotation = some 1 then s.red.rotationTo else 0xFF) 0 (wN (s.arrive t).raw))) }) ∧
  ((s.red.unit = 3 ∨ s.red.hbFrame = some s.frame.number) → exec (.heartbeatSend t) s = .next (s.arrive t)) ∧
  ((s.arrive t).frameElapsed < 3000000 → exec (.heartbeatSend t) s = .next (s.arrive t)) ∧
  (path < 3 → s.shesenOk b = false → exec (.heartbeatReceived t path b) s = .next (s.arrive t)) ∧
  (path < 3 → s.dom 3 = true → s.shesenOk b = true → (fld b 18 1).testBit 7 = false → fld b 3 1 = s.red.unit →
    ∃ u, exec (.heartbeatReceived t path b) s = .next u ∧ u.alarmOn .UID_CONFLICT = true ∧
      OnlyLog { s.arrive t with red := { s.red with uidConflictAt := some (max s.now t), health := 0 } } u) ∧
  (path < 3 → s.dom 3 = true → s.shesenOk b = true → (fld b 18 1).testBit 7 = false → fld b 3 1 = k → k ≠ s.red.unit →
    s.partners.contains k = true → s.red.relPend = none → s.arbiter = false → (fld b 18 1).testBit 4 = false →
    ∃ u, exec (.heartbeatReceived t path b) s = .next u ∧ u.partner k = (s.partner k).take (max s.now t) (decide (path < 2)) b ∧
      (∀ j, j < 3 → j ≠ k → u.partner j = s.partner j) ∧ u.red.silenced = false ∧ u.sent = [] ∧
      u.red.epochSeen = (if s.red.epochSeen.toNat < (wN (fld b 12 4)).toNat then wN (fld b 12 4) else s.red.epochSeen) ∧
      u.keep.epochRetained = u.red.epochSeen ∧
      (s.pairUnit = true → u.alarmOn (if k = 2 then .W_LOST else .PEER_LOST) = false)) ∧
  (path < 3 → s.dom 3 = true → s.shesenOk b = true → (fld b 18 1).testBit 7 = false → fld b 3 1 = k → k ≠ s.red.unit →
    s.partners.contains k = true → s.arbiter = true → (fld b 18 1).testBit 1 = true → s.red.relPend = none → (fld b 18 1).testBit 4 = false →
    s.red.lease.holder = some k →
    ∃ v : State, exec (.heartbeatReceived t path b) s = .next (v.sendGrant k (wN (fld b 32 4))) ∧
      v.red.lease.holder = some k ∧ v.red.lease.expires = max s.now t + 80000000 ∧ v.red.lease.epoch = s.red.lease.epoch) ∧
  (path < 3 → s.partners.contains (fld b 3 1) = false → fld b 3 1 ≠ s.red.unit →
    exec (.heartbeatReceived t path b) s = .next (s.arrive t)) ∧
  (s.frame.running = true → s.dom 3 = true → 6000000 ≤ (s.arrive t).frameElapsed → s.red.missFrame ≠ some s.frame.number →
    exec (.heartbeatMissCheck t) s = .next (s.partners.foldl State.laneCheck (s.partners.foldl State.missOne { s.arrive t with
      red := { s.red with missFrame := some s.frame.number } })).silenceCheck.promoteCheck.wardenStep) ∧
  (s.red.missFrame = some s.frame.number → exec (.heartbeatMissCheck t) s = .next (s.arrive t)) ∧
  ((s.arrive t).frameElapsed < 6000000 → exec (.heartbeatMissCheck t) s = .next (s.arrive t)) ∧
  (k < 3 → (∀ f, (s.partner k).laneFrame = some f → f < s.frame.number) → (∀ f, (s.partner k).lanFrame = some f → f < s.frame.number) →
    ((s.missOne k).partner k).missed = (s.partner k).missed + 1 ∧
    ((s.missOne k).partner k).lost = ((s.partner k).lost || decide ((if k = 2 then 2 else 3) ≤ (s.partner k).missed + 1)) ∧
    (s.pairUnit = true → (s.partner k).lost = false → (if k = 2 then 2 else 3) ≤ (s.partner k).missed + 1 →
      (s.missOne k).alarmOn (if k = 2 then .W_LOST else .PEER_LOST) = true)) ∧
  (∀ f, k < 3 → s.frame.number ≤ f → ((s.partner k).laneFrame = some f ∨ (s.partner k).lanFrame = some f) →
    ((s.missOne k).partner k).missed = 0 ∧ ((s.missOne k).partner k).lost = (s.partner k).lost) ∧
  (4 ≤ k → exec (.uidStrapChange t k) s = .fault (.noSuchUnit k)) ∧
  (k < 4 → k ≠ s.red.strap →
    ∃ u, exec (.uidStrapChange t k) s = .next u ∧ OnlyLog { s.arrive t with red := { s.red with strap := k, uidChanged := true } } u) ∧
  (s.red.strap < 4 → exec (.uidStrapChange t s.red.strap) s = .next (s.arrive t))

/-- Leases, the takeover check, rotation and the relays: a grant renews the holder's lease or gives a candidate authority, a lease that runs out at
the holder gives it up, at W it ends in its guard and then another unit is granted; the check passes or fails channel by channel. R397–R399, R408,
R410, R411, R413, R414. -/
def Obligations.LeaseEvents : Prop := ∀ (t path k : Nat) (b : List Byte) (s : State),
  (3 ≤ path → exec (.leaseGrantReceived t path b) s = .fault (.noSuchUnit path)) ∧
  (path < 3 → s.dom 3 = true → s.shesenOk b = true → (fld b 18 1).testBit 7 = true → fld b 3 1 = 2 → fld b 24 1 = s.red.unit →
    s.pairUnit = true → s.parN .RED_MODE ≠ 1 → s.red.commanding = true → s.red.w.lost = false →
    ∃ u, exec (.leaseGrantReceived t path b) s = .next u ∧ u.red.commanding = true ∧ u.red.suspended = false ∧
      u.red.grantedAt = some (max ((s.arrive t).sentAt (fld b 32 4)) (s.red.grantedAt.getD 0))) ∧
  (path < 3 → s.dom 3 = true → s.shesenOk b = true → (fld b 18 1).testBit 7 = true → fld b 3 1 = 2 → fld b 24 1 = s.red.unit →
    s.pairUnit = true → s.parN .RED_MODE ≠ 1 → s.red.commanding = false → s.candidate = true →
    exec (.leaseGrantReceived t path b) s = .next ((((s.arrive t).seeEpoch (wN (fld b 28 4))).modRed (fun r => { r with
      grantedAt := some ((s.arrive t).sentAt (fld b 32 4)) })).gain (wN (fld b 28 4)) 1)) ∧
  (path < 3 → fld b 24 1 ≠ s.red.unit → exec (.leaseGrantReceived t path b) s = .next (s.arrive t)) ∧
  (path < 3 → s.shesenOk b = false → exec (.leaseGrantReceived t path b) s = .next (s.arrive t)) ∧
  (s.leased = true → (s.arrive t).leaseAge 60000000 = true → s.maySuspend = false →
    exec (.leaseHolderExpiry t) s = .next ((s.arrive t).giveUp 18 false)) ∧
  (s.leased = true → (s.arrive t).leaseAge 60000000 = true → s.maySuspend = true →
    ∃ u, exec (.leaseHolderExpiry t) s = .next u ∧ u.alarmOn .LEASE_SUSPENDED = true ∧
      OnlyLog { s.arrive t with red := { s.red with suspended := true } } u) ∧
  (s.leased = false → exec (.leaseHolderExpiry t) s = .next (s.arrive t)) ∧
  ((s.arrive t).leaseAge 60000000 = false → exec (.leaseHolderExpiry t) s = .next (s.arrive t)) ∧
  (s.arbiter = true → s.red.lease.holder = some k → k ≠ 2 → s.red.lease.expires ≤ max s.now t →
    exec (.leaseExpiryW t) s = .next { s.arrive t with red := { s.red with
      lease := { s.red.lease with holder := none, guardUntil := some (s.red.lease.expires + 10000000) } } }) ∧
  (max s.now t < s.red.lease.expires → exec (.leaseExpiryW t) s = .next (s.arrive t)) ∧
  (∀ g, s.arbiter = true → s.red.lease.guardUntil = some g → g ≤ max s.now t →
    exec (.leaseGuardEnd t) s = .next (State.wardenStep (State.tryGrant { s.arrive t with red := { s.red with
      lease := { s.red.lease with guardUntil := none } } }))) ∧
  (s.red.lease.guardUntil = none → exec (.leaseGuardEnd t) s = .next (s.arrive t)) ∧
  (s.red.check.running = true → 2 ≤ s.red.check.frames → 19000000 ≤ (s.arrive t).frameElapsed →
    s.checkCan ||| s.red.check.failedAo ||| s.checkRole = 0 →
    ∃ u, exec (.takeoverCheckEnd t) s = .next u ∧ u.alarmOn .ROTATE_DUE = false ∧
      OnlyLog { s.arrive t with red := { s.red with
        rotateAge := 0, rotateAgeAt := max s.now t, check := { s.red.check with running := false, last := 0 } } } u) ∧
  (s.red.check.running = true → 2 ≤ s.red.check.frames → 19000000 ≤ (s.arrive t).frameElapsed →
    s.checkCan ||| s.red.check.failedAo ||| s.checkRole ≠ 0 → s.mayYield = true →
    ∃ u, exec (.takeoverCheckEnd t) s = .next u ∧ u.alarmOn .TAKEOVER_CHECK_FAIL = true ∧
      OnlyLog { s.arrive t with red := { s.red with
        releaseDue := true
        check := { s.red.check with
          running := false, last := s.checkCan ||| s.red.check.failedAo ||| s.checkRole, failedSince := true } } } u) ∧
  (s.red.check.running = false → exec (.takeoverCheckEnd t) s = .next (s.arrive t)) ∧
  (s.red.commanding = true → s.red.rotation = some 1 → 18500000 ≤ (s.arrive t).frameElapsed → s.red.unit ≠ 2 →
    exec (.rotationRelease t) s = .next ((s.arrive t).giveUp 21 true)) ∧
  (s.red.commanding = true → s.red.rotation = some 1 → 18500000 ≤ (s.arrive t).frameElapsed → s.red.unit = 2 →
    exec (.rotationRelease t) s =
      .next (State.giveUp { s.arrive t with red := { s.red with relPend := some (2, s.frame.number) } } 21 true)) ∧
  (s.red.rotation ≠ some 1 → exec (.rotationRelease t) s = .next (s.arrive t)) ∧
  ((k = 0 ∨ 2 < k) → exec (.roleRelayFaultDetect t k) s = .fault (.noSuchUnit k)) ∧
  (∀ a, (k = 1 ∨ k = 2) → assoc s.red.relayBadSince k = some a → a + 1000000000 ≤ max s.now t →
    ∃ u, exec (.roleRelayFaultDetect t k) s = .next u ∧ u.alarmOn .ROLE_RELAY_FAULT = true ∧ OnlyLog (s.arrive t) u) ∧
  ((k = 1 ∨ k = 2) → assoc s.red.relayBadSince k = none → exec (.roleRelayFaultDetect t k) s = .next (s.arrive t)) ∧
  (s.parN .RED_ROTATE_HOURS * 3600000000000 ≤ (s.arrive t).rotateAge.red.rotateAge →
    ∃ u, exec (.rotateDueReached t) s = .next u ∧ u.alarmOn .ROTATE_DUE = true ∧ OnlyLog (s.arrive t).rotateAge u) ∧
  ((s.arrive t).rotateAge.red.rotateAge < s.parN .RED_ROTATE_HOURS * 3600000000000 →
    exec (.rotateDueReached t) s = .next (s.arrive t).rotateAge) ∧
  (s.red.commanding = true → ∀ c h, (s.giveUp c h).red.commanding = false ∧ (s.giveUp c h).red.epochHeld = s.red.epochSeen ∧
    (s.giveUp c h).red.rotation = none)

/-- The safety inputs and outputs: an input channel that opens puts its input in demand and stops every pair its STOP function names, at once or after
the pair's delay; faults of inputs and outputs latch and stop; a process stop latches the pairs it names; a low SSUP switches everything off.
R426–R435, R438, R441. -/
def Obligations.SafetyStops : Prop := ∀ (t n p : Nat) (ch x : Bool) (s : State), s.Inv →
  ((n = 0 ∨ 8 < n) → exec (.safeInputEdge t n ch x) s = .fault (.noSuchUnit n) ∧ exec (.testPulseCheck t n ch x) s = .fault (.noSuchUnit n) ∧
    exec (.discrepancyExpiry t n) s = .fault (.noSuchUnit n) ∧ exec (.safetyEncoderFault t n x) s = .fault (.noSuchUnit n)) ∧
  ((p = 0 ∨ 4 < p) → exec (.stsDelayExpiry t p) s = .fault (.noSuchUnit p) ∧ exec (.stsOffPulse t p ch x) s = .fault (.noSuchUnit p) ∧
    exec (.sltViolation t p) s = .fault (.noSuchUnit p) ∧ exec (.brakeSetSpeedReached t p) s = .fault (.noSuchUnit p)) ∧
  (16 ≤ n → exec (.safetyOutputFault t n) s = .fault (.noSuchUnit n)) ∧
  (1 ≤ n → n ≤ 8 →
    ∃ u, exec (.safeInputEdge t n ch x) s = .next u ∧ (u.safe.inp n).a = (if ch then (s.safe.inp n).a else x) ∧
      (u.safe.inp n).b = (if ch then x else (s.safe.inp n).b)) ∧
  (1 ≤ n → n ≤ 8 → 1 ≤ p → p ≤ 4 → s.safeUp = true → s.safe.sinFunc n = 1 → (s.safe.sinSts n).testBit (p - 1) = true →
    ∃ u, exec (.safeInputEdge t n ch false) s = .next u ∧ (u.safe.pair p).stopped = true ∧
      (s.safe.sinAuto n = false → (u.safe.pair p).latched = true) ∧
      ((s.safe.pair p).stopped = false → s.safe.stsDelay p = 0 → (u.safe.pair p).gateL = [false, false]) ∧
      ((s.safe.pair p).stopped = false → s.safe.stsDelay p ≠ 0 → s.safe.hardCause p = false →
        (u.safe.pair p).delayEnd = some (max s.now t + s.safe.stsDelay p * 1000000))) ∧
  (1 ≤ n → n ≤ 8 → s.safeUp = true → s.safe.sinFunc n ≠ 0 → (s.safe.inp n).disc = false → (s.arrive t).discLasted n 1 = true →
    ∃ u, exec (.discrepancyExpiry t n) s = .next u ∧ (u.safe.inp n).disc = true ∧ u.alarmOn .SAFE_FAULT = true) ∧
  (1 ≤ n → n ≤ 8 → (s.arrive t).discLasted n 1 = false → exec (.discrepancyExpiry t n) s = .next (s.arrive t)) ∧
  (1 ≤ n → n ≤ 8 → s.safeUp = true → s.safe.sinTp n = 1 → s.safe.sinFunc n ≠ 0 → (if ch then (s.safe.inp n).b else (s.safe.inp n).a) = true →
    ∃ u, exec (.testPulseCheck t n ch x) s = .next u ∧ u.alarmOn .SAFE_FAULT = true ∧
      (if x then (u.safe.inp n).cross else if ch then (u.safe.inp n).stuckB else (u.safe.inp n).stuckA) = true) ∧
  (1 ≤ n → n ≤ 8 → s.safe.sinTp n ≠ 1 → exec (.testPulseCheck t n ch x) s = .next (s.arrive t)) ∧
  (1 ≤ p → p ≤ 4 → s.dom 4 = true → n.testBit (p - 1) = true →
    ∃ u, exec (.processStopRequest t n x) s = .next u ∧ (u.safe.pair p).request = true ∧ (u.safe.pair p).stopped = true ∧
      (u.safe.pair p).latched = true ∧ (x = false → s.pairUnit = true → .stopToPeer (n % 16) ∈ u.sent)) ∧
  (s.dom 4 = false → exec (.processStopRequest t n x) s = .next (s.arrive t)) ∧
  (∀ e, 1 ≤ p → p ≤ 4 → (s.safe.pair p).delayEnd = some e → e ≤ max s.now t → (s.safe.pair p).stopped = true → (s.safe.pair p).latched = true →
    ∃ u, exec (.stsDelayExpiry t p) s = .next u ∧ (u.safe.pair p).delayEnd = none ∧ ∀ c, u.safe.energised p c = false) ∧
  (1 ≤ p → p ≤ 4 → (s.safe.pair p).delayEnd = none → exec (.stsDelayExpiry t p) s = .next (s.arrive t)) ∧
  (1 ≤ p → p ≤ 4 → s.safe.energised p ch = true → (s.safe.pair p).pulseAt.getD (1 - b2n ch) 0 + 100000000 ≤ max s.now t →
    exec (.stsOffPulse t p ch true) s = .next ((s.arrive t).modSafe (fun y => y.modPair p (fun q => { q with
      pulseAt := q.pulseAt.set (b2n ch) (max s.now t) }))) ∧
    ∃ u, exec (.stsOffPulse t p ch false) s = .next u ∧ (u.safe.pair p).faulted = true ∧ (u.safe.pair p).stopped = true ∧
      (∀ c, u.safe.energised p c = false) ∧ u.alarmOn .SAFE_FAULT = true) ∧
  (1 ≤ p → p ≤ 4 → s.safe.energised p ch = false → exec (.stsOffPulse t p ch x) s = .next (s.arrive t)) ∧
  (1 ≤ p → p ≤ 4 → s.safeUp = true → n < 8 → p = n / 2 + 1 → s.safe.energised p (n % 2 = 1) = false →
    ∃ u, exec (.safetyOutputFault t n) s = .next u ∧ (u.safe.pair p).faulted = true ∧ (u.safe.pair p).stopped = true ∧
      (∀ c, u.safe.energised p c = false) ∧ u.alarmOn .SAFE_FAULT = true) ∧
  (s.safeUp = true → 8 ≤ n → n < 16 → p = n % 4 + 1 → (s.safe.brake p).isSet = true →
    ∃ u, exec (.safetyOutputFault t n) s = .next u ∧ (u.safe.brake p).fault = true ∧ (u.safe.brake p).isSet = true ∧
      u.alarmOn .SAFE_FAULT = true) ∧
  (n < 16 → s.safeUp = false → exec (.safetyOutputFault t n) s = .next (s.arrive t)) ∧
  (1 ≤ p → p ≤ 4 → s.safeUp = true → (s.safe.brake p).setReq = true → (s.safe.brake p).autoReq = false → (s.safe.brake p).isSet = false →
    s.safe.slowEnough p = true →
    ∃ u, exec (.brakeSetSpeedReached t p) s = .next u ∧ (u.safe.brake p).isSet = true ∧ (u.safe.brake p).gatesP = false ∧
      (u.safe.brake p).gatesL = false) ∧
  (1 ≤ p → p ≤ 4 → (s.safe.brake p).setReq = false → exec (.brakeSetSpeedReached t p) s = .next (s.arrive t)) ∧
  (∀ j, 1 ≤ j → j ≤ 4 → 1 ≤ p → p ≤ 4 → s.safeP = true → (s.safe.entry j).active = true →
    (s.arrive t).held (s.safe.entry j).overSince (s.safe.sltTime j * 1000000) = true → (s.safe.sltSts j).testBit (p - 1) = true →
    ∃ u, exec (.sltViolation t j) s = .next u ∧ (u.safe.entry j).violation = true ∧ (u.safe.pair p).stopped = true ∧
      (∀ c, u.safe.energised p c = false)) ∧
  (1 ≤ p → p ≤ 4 → (s.safe.entry p).active = false → exec (.sltViolation t p) s = .next (s.arrive t)) ∧
  (1 ≤ n → n ≤ 8 → s.safeUp = true →
    ∃ u, exec (.safetyEncoderFault t n true) s = .next u ∧ n ∈ u.safe.encFault ∧ n ∈ u.safe.encPresent ∧ u.alarmOn .SAFE_FAULT = true) ∧
  (1 ≤ n → n ≤ 8 →
    exec (.safetyEncoderFault t n false) s = .next ((s.arrive t).modSafe (fun y => { y with
      encPresent := y.encPresent.filter (fun k => k ≠ n) }))) ∧
  (∃ u, exec (.ssupLow t) s = .next u ∧ u.safe.ssupLow = true ∧ u.alarmOn .SSUP_LOW = true ∧
    (∀ k c, 1 ≤ k → k ≤ 4 → u.safe.energised k c = false) ∧ ∀ k, 1 ≤ k → k ≤ 4 → (u.safe.brake k).isSet = true) ∧
  (s.safe.ssupLow = true →
    ∃ u, exec (.ssupRestored t) s = .next u ∧ u.safe.ssupLow = false ∧ u.safe.ssupOkSince = some (max s.now t)) ∧
  (s.safe.ssupLow = false → exec (.ssupRestored t) s = .next (s.arrive t))

/-- The two technologies and the brake tests: SAFE-P's cycle, its watchdog, a lasting disagreement and a lockstep mismatch, each of which ends in
SAFE-STOP without authority; the start test; a brake test that becomes due, thrusts, passes or fails; a forwarded SAFE_RESET. R424, R425, R435–R437,
R443, R453. -/
def Obligations.SafetyTechnologies : Prop := ∀ (t b : Nat) (rp rl : Rat) (sp : List (Nat × Rat)) (s : State), s.Inv →
  (s.safeP = true → (∀ c, s.safe.confirmed = some c → s.safe.slBank = slBytes c) →
    ∃ u, exec (.safePCycle t sp) s = .next u ∧ u.safe.tokenAt = max s.now t ∧ u.safe.encSpeed = sp ∧ u.sys.mode = s.sys.mode) ∧
  (∀ c, s.safeP = true → s.safe.confirmed = some c → s.safe.slBank ≠ slBytes c → s.dom 5 = true → s.safe.lHealthy = true → s.sys.mode ≠ .keep →
    ∃ u, exec (.safePCycle t sp) s = .next u ∧ u.sys.mode = .safeStop ∧ u.safe.safeStop = true ∧ u.red.commanding = false) ∧
  (s.safeP = false → exec (.safePCycle t sp) s = .next (s.arrive t)) ∧
  (s.dom 5 = true → s.safe.lHealthy = true → s.safe.tokenAt + 10000000 ≤ max s.now t → s.sys.mode ≠ .keep →
    ∃ u, exec (.safeWatchdogExpiry t) s = .next u ∧ u.sys.mode = .safeStop ∧ u.safe.safeStop = true ∧ u.red.commanding = false ∧
      u.safe.pHealthy = false ∧ ∀ p c, 1 ≤ p → p ≤ 4 → (u.safe.pair p).stopped = true ∧ u.safe.energised p c = false) ∧
  (max s.now t < s.safe.tokenAt + 10000000 → exec (.safeWatchdogExpiry t) s = .next (s.arrive t)) ∧
  (∀ a, s.safeUp = true → s.safe.differSince = some a → a + 20000001 ≤ max s.now t → s.sys.mode ≠ .keep →
    ∃ u, exec (.safePathDisagree t) s = .next u ∧ u.alarmOn .SAFE_PATH_FAULT = true ∧ u.sys.mode = .safeStop ∧ u.safe.safeStop = true ∧
      u.red.commanding = false ∧ ∀ p c, 1 ≤ p → p ≤ 4 → (u.safe.pair p).stopped = true ∧ u.safe.energised p c = false) ∧
  (s.safe.differSince = none → exec (.safePathDisagree t) s = .next (s.arrive t)) ∧
  (s.dom 4 = true → s.sys.mode ≠ .keep →
    ∃ u, exec (.safePLockstepMismatch t) s = .next u ∧ u.sys.mode = .safeStop ∧ u.safe.safeStop = true ∧ u.red.commanding = false ∧
      ∀ p c, 1 ≤ p → p ≤ 4 → (u.safe.pair p).stopped = true ∧ u.safe.energised p c = false) ∧
  (s.dom 4 = false → exec (.safePLockstepMismatch t) s = .next (s.arrive t)) ∧
  (s.dom 4 = true → s.dom 5 = true → s.safe.startDue = true →
    (∃ u, exec (.safetyStartTest t false true 0) s = .next u ∧ u.safe.confirmed = none ∧ u.safe.startDue = false ∧
      ∀ p c, 1 ≤ p → p ≤ 4 → (u.safe.pair p).stopped = true ∧ u.safe.energised p c = false) ∧
    (s.sys.mode ≠ .keep → ∀ mask, ∃ u, exec (.safetyStartTest t true false mask) s = .next u ∧ u.sys.mode = .safeStop ∧
      u.safe.lHealthy = false ∧ u.safe.safeStop = true ∧ u.red.commanding = false) ∧
    (∀ mask p c, 1 ≤ p → p ≤ 4 → mask.testBit (2 * (p - 1) + b2n c) = true →
      ∃ u, exec (.safetyStartTest t true true mask) s = .next u ∧ (u.safe.pair p).faulted = true ∧ (u.safe.pair p).stopped = true ∧
        u.safe.energised p c = false ∧ u.alarmOn .SAFE_FAULT = true) ∧
    ∃ u, exec (.safetyStartTest t true true 0) s = .next u ∧ u.safe.pHealthy = true ∧ u.safe.lHealthy = true ∧ u.safe.startDue = false ∧
      u.safe.tokenAt = max s.now t ∧ u.safe.slBank = (s.safe.confirmed.map slBytes).getD [] ∧ u.alarmOn .SAFE_PATH_FAULT = false) ∧
  (∀ ok bank mask, s.safe.startDue = false → exec (.safetyStartTest t ok bank mask) s = .next (s.arrive t)) ∧
  ((b = 0 ∨ 4 < b) → exec (.brakeTestDue t b) s = .fault (.noSuchUnit b) ∧ exec (.brakeTestThrust t b) s = .fault (.noSuchUnit b) ∧
    exec (.brakeTestThrustEnd t b) s = .fault (.noSuchUnit b) ∧ exec (.brakeTestResult t b rp rl) s = .fault (.noSuchUnit b)) ∧
  (1 ≤ b → b ≤ 4 → s.safe.brkUse b = true → s.safe.confirmed.isSome = true →
    ∃ u, exec (.brakeTestDue t b) s = .next u ∧
      (u.alarmOn .BRAKE_TEST_OVERDUE b = true ↔ s.safe.brkTestInt b * 3600000000000 ≤ s.safe.releasedNs (max s.now t) b)) ∧
  (∀ y, 1 ≤ b → b ≤ 4 → (s.safe.brake b).test = some y → y.phase = 0 → y.t0 + 1000000000 ≤ max s.now t →
    exec (.brakeTestThrust t b) s = .next (((s.arrive t).testPhase b 1).sealTest (s.safe.brkChan b) (s.safe.brkTestT b) true)) ∧
  (∀ y, 1 ≤ b → b ≤ 4 → (s.safe.brake b).test = some y → y.phase = 1 → y.t0 + 3000000000 ≤ max s.now t →
    exec (.brakeTestThrustEnd t b) s = .next (((s.arrive t).testPhase b 2).sealTest (s.safe.brkChan b) 0 false)) ∧
  (1 ≤ b → b ≤ 4 → (s.safe.brake b).test = none →
    exec (.brakeTestThrust t b) s = .next (s.arrive t) ∧ exec (.brakeTestThrustEnd t b) s = .next (s.arrive t) ∧
    exec (.brakeTestResult t b rp rl) s = .next (s.arrive t)) ∧
  (∀ y, 1 ≤ b → b ≤ 4 → (s.safe.brake b).test = some y → y.phase = 2 → y.t0 + 3500000000 ≤ max s.now t →
    absQ rp ≤ s.safe.brkTestAng b → absQ rl ≤ s.safe.brkTestAng b →
    ∃ u, exec (.brakeTestResult t b rp rl) s = .next u ∧ (u.safe.brake b).test = none ∧ (u.safe.brake b).failed = false ∧
      (u.safe.brake b).hoursNs = 0 ∧ (u.safe.brake b).overdue = false ∧ (y.session, y.seq) ∉ u.cmd.accepted) ∧
  (∀ y, 1 ≤ b → b ≤ 4 → (s.safe.brake b).test = some y → y.phase = 2 → y.t0 + 3500000000 ≤ max s.now t → s.safe.brkTestAng b < absQ rp →
    ∃ u, exec (.brakeTestResult t b rp rl) s = .next u ∧ (u.safe.brake b).test = none ∧ (u.safe.brake b).failed = true ∧
      (u.safe.brake b).isSet = true ∧ u.alarmOn .BRAKE_TEST_FAIL b = true ∧ (y.session, y.seq) ∉ u.cmd.accepted) ∧
  ((s.arrive t).canReset = true → exec (.safeResetForwarded t) s = .next (s.arrive t).resetHere) ∧
  ((s.arrive t).canReset = false → exec (.safeResetForwarded t) s = .next (s.arrive t))

/-- The field channels: a filtered level writes the value point once; a broken wire, back-feed, overcurrent and overload are marked and alarmed; the
supply of a group moves through its states; outputs restore one by one; a pulse ends with its completion. R455–R457, R460–R466, R470. -/
def Obligations.FieldEvents : Prop := ∀ (t c g a0 : Nat) (lv : Bool) (v mA : Rat) (s : State), s.Inv →
  ((c = 0 ∨ 96 < c) → exec (.fioInputEdge t c a0 v mA) s = .fault (.noSuchUnit c) ∧ exec (.fioWireBreak t c mA) s = .fault (.noSuchUnit c) ∧
    exec (.fioWireBreakClear t c a0 mA) s = .fault (.noSuchUnit c) ∧ exec (.fioOutputSample t c v mA) s = .fault (.noSuchUnit c) ∧
    exec (.fioOvercurrentRetry t c) s = .fault (.noSuchUnit c) ∧ exec (.fioPulseEnd t c) s = .fault (.noSuchUnit c)) ∧
  ((g = 0 ∨ 8 < g) → exec (.fioGroupOverload t g) s = .fault (.noSuchUnit g) ∧ exec (.fioSupplyStateChange t g a0 v) s = .fault (.noSuchUnit g) ∧
    exec (.fioRestoreSwitch t g) s = .fault (.noSuchUnit g)) ∧
  (∀ b, 1 ≤ c → c ≤ 96 → s.dom 11 = true → s.fin c = true → s.fstate (groupOf c) ≠ 2 → (s.fch c).wireBreak = false →
    lv = inputLevel (s.fmode c) (s.fch c).raw v mA → ((s.fch c).level ≠ lv ∨ (s.fch c).pendingLevel = true) →
    b = (if (s.fch c).pendingLevel then (s.fgr (groupOf c)).leftMissing else a0) → max a0 b + s.parMs .FIO_FILTER c ≤ max s.now t →
    ∃ u, exec (.fioInputEdge t c a0 v mA) s = .next u ∧ u.fch c = { s.fch c with
        volts := v, current := pin10uA mA, raw := lv, level := lv, edge := true, pendingLevel := false, on := false } ∧
      u.point (fioPoint c) = {
        value := (pvB lv).val, typ := 0, seq := pseqNext (s.point (fioPoint c)).seq, qual := s.fqual (groupOf c), src := BitVec.ofNat 16 c
        ts := (s.arrive t).fioStamp b } ∧
      ∀ k, k ≠ fioPoint c → u.point k = s.point k) ∧
  (1 ≤ c → c ≤ 96 → s.dom 11 = true → s.fin c = true → lv = inputLevel (s.fmode c) (s.fch c).raw v mA →
    ((s.fch c).level = lv ∧ (s.fch c).pendingLevel = false ∨ max s.now t < a0 + s.parMs .FIO_FILTER c) →
    exec (.fioInputEdge t c a0 v mA) s = .next ((s.arrive t).modFch c (fun x => { x with
      volts := v, current := pin10uA mA, raw := lv })).fioFollow) ∧
  (1 ≤ c → c ≤ 96 → (s.fin c = false ∨ s.dom 11 = false) → exec (.fioInputEdge t c a0 v mA) s = .next (s.arrive t)) ∧
  (1 ≤ c → c ≤ 96 → s.dom 11 = true → s.fmode c = 3 → s.fstate (groupOf c) < 2 → (s.fch c).wireBreak = false → mA < 7 / 20 →
    ∃ u, exec (.fioWireBreak t c mA) s = .next u ∧ u.fch c = { s.fch c with current := pin10uA mA, wireBreak := true, on := false } ∧ u.alarmOn .FIO_WIRE_BREAK c = true ∧
      (u.point (fioPoint c)).qual = qBad ||| rRange ∧ (u.point (fioPoint c)).value = 0 ∧ ∀ k, k ≠ fioPoint c → u.point k = s.point k) ∧
  (1 ≤ c → c ≤ 96 → s.fmode c ≠ 3 → exec (.fioWireBreak t c mA) s = .next (s.arrive t)) ∧
  (1 ≤ c → c ≤ 96 → s.dom 11 = true → s.fmode c = 3 → s.fstate (groupOf c) < 2 → (s.fch c).wireBreak = true → 9 / 20 ≤ mA →
    a0 + 100000000 ≤ max s.now t →
    ∃ u, exec (.fioWireBreakClear t c a0 mA) s = .next u ∧ u.fch c = { s.fch c with current := pin10uA mA, wireBreak := false, on := false } ∧ u.alarmOn .FIO_WIRE_BREAK c = false ∧
      (u.point (fioPoint c)).qual = s.fqual (groupOf c) ∧ (u.point (fioPoint c)).value = (pvB (s.fch c).level).val) ∧
  (1 ≤ c → c ≤ 96 → s.dom 11 = true → s.fmode c = 3 → ((s.fch c).wireBreak = false ∨ mA < 9 / 20 ∨ max s.now t < a0 + 100000000) →
    exec (.fioWireBreakClear t c a0 mA) s = .next ((s.arrive t).modFch c (fun x => { x with current := pin10uA mA }))) ∧
  (1 ≤ c → c ≤ 96 → s.dom 11 = true → s.fout c = true →
    ∃ u, exec (.fioOutputSample t c v mA) s = .next u ∧ (u.fch c).rb = readBack (s.fch c).rb v ∧ (u.fch c).current = natOf mA ∧
      ((s.fch c).on = true → 1200 ≤ mA → (u.fch c).overcurrent = true)) ∧
  (1 ≤ c → c ≤ 96 → s.fout c = false → exec (.fioOutputSample t c v mA) s = .next (s.arrive t)) ∧
  (∀ a, 1 ≤ c → c ≤ 96 → (s.fch c).retryAt = some a → a ≤ max s.now t →
    exec (.fioOvercurrentRetry t c) s =
      .next (((s.arrive t).modFch c (fun x => { x with retryAt := none, overcurrent := false })).fioFollow1 c)) ∧
  (1 ≤ c → c ≤ 96 → (s.fch c).retryAt = none → exec (.fioOvercurrentRetry t c) s = .next (s.arrive t)) ∧
  (∀ a d, 1 ≤ g → g ≤ 8 → (s.fgr g).overSince = some a → a + 10000000 ≤ max s.now t → s.fioNewest g = some d → 1 ≤ d → d ≤ 96 →
    s.fout d = true →
    ∃ u, exec (.fioGroupOverload t g) s = .next u ∧ u.alarmOn .FIO_GROUP_OVERLOAD g = true ∧ u.alarmOn .FIO_OVERLOAD d = true ∧
      (u.fch d).overload = true ∧ (u.fch d).on = false ∧ (u.fgr g).overload = true ∧ (u.fgr g).overSince = some (max s.now t)) ∧
  (1 ≤ g → g ≤ 8 → (s.fgr g).overSince = none → exec (.fioGroupOverload t g) s = .next (s.arrive t)) ∧
  (1 ≤ g → g ≤ 8 → s.dom 11 = true → (s.fstate g = 0 ∨ s.fstate g = 1 ∨ s.fstate g = 3) → v < 12 → a0 + 1000000 ≤ max s.now t →
    ∃ u, exec (.fioSupplyStateChange t g a0 v) s = .next u ∧ (u.fgr g).state = 2 ∧ (u.fgr g).restore = [] ∧
      u.alarmOn .FIO_SUPPLY_MISSING g = true ∧ u.alarmOn .FIO_SUPPLY_LOW g = true ∧ u.alarmOn .FIO_RESTORE_WAIT g = false) ∧
  (1 ≤ g → g ≤ 8 → s.dom 11 = true → s.fstate g = 0 → 12 ≤ v → v < 18 → a0 + 1000000 ≤ max s.now t →
    ∃ u, exec (.fioSupplyStateChange t g a0 v) s = .next u ∧ (u.fgr g).state = 1 ∧ u.alarmOn .FIO_SUPPLY_LOW g = true) ∧
  (1 ≤ g → g ≤ 8 → s.dom 11 = true → s.fstate g = 1 → 37 / 2 ≤ v → a0 + 100000000 ≤ max s.now t →
    ∃ u, exec (.fioSupplyStateChange t g a0 v) s = .next u ∧ (u.fgr g).state = 0 ∧ u.alarmOn .FIO_SUPPLY_LOW g = false) ∧
  (1 ≤ g → g ≤ 8 → s.dom 11 = true → s.fstate g = 2 → 25 / 2 ≤ v → a0 + 100000000 ≤ max s.now t →
    ∃ u, exec (.fioSupplyStateChange t g a0 v) s = .next u ∧ u.alarmOn .FIO_SUPPLY_MISSING g = false ∧
      (u.fgr g).state = (if s.parN .FIO_G_RESTORE g = 0 then (if v < 37 / 2 then 1 else 0) else 3) ∧
      (s.parN .FIO_G_RESTORE g ≠ 0 → u.alarmOn .FIO_RESTORE_WAIT g = true)) ∧
  (1 ≤ g → g ≤ 8 → (s.dom 11 = true → max s.now t < a0 + 1000000) → exec (.fioSupplyStateChange t g a0 v) s =
    .next (if s.dom 11 then ((s.arrive t).modFgr g (fun x => { x with volt := natOf (v * 100) })).fioFollow
      else (s.arrive t).modFgr g (fun x => { x with volt := natOf (v * 100) }))) ∧
  (1 ≤ g → g ≤ 8 → (s.fgr g).restoreAt ≤ max s.now t → s.fsupplied g = true →
    exec (.fioRestoreSwitch t g) s = .next ((s.arrive t).fioRestoreNext g) ∧
    ∀ k l, (s.fgr g).restore = k :: l → ((s.arrive t).fioRestoreNext g).fgr g = { s.fgr g with
      restore := l, restoreAt := max s.now t + 1000000 }) ∧
  (1 ≤ g → g ≤ 8 → max s.now t < (s.fgr g).restoreAt → exec (.fioRestoreSwitch t g) s = .next (s.arrive t)) ∧
  (∀ x, 1 ≤ c → c ≤ 96 → (s.fch c).pulse = some x → x.stop ≤ max s.now t →
    ∃ u, exec (.fioPulseEnd t c) s = .next u ∧ (u.fch c).pulse = none ∧ (x.session, x.seq) ∉ u.cmd.accepted ∧
      (s.parN .FIO_OUT_SRC c = 0 → (u.fch c).cmd = false)) ∧
  (∀ x, 1 ≤ c → c ≤ 96 → (s.fch c).pulse = some x → max s.now t < x.stop → exec (.fioPulseEnd t c) s = .next (s.arrive t)) ∧
  (1 ≤ c → c ≤ 96 → (s.fch c).pulse = none → exec (.fioPulseEnd t c) s = .next (s.arrive t))

/-- Events of the CAN controllers: a good frame is counted and queued, or overruns; an error counts; an attempt ends with its counters and the frame's
final status; expiry, bus-off, recovery, rate detection and forgotten nodes. R476–R488, R497. -/
def Obligations.CanEvents : Prop := ∀ (t n i sof bit id node : Nat) (late eight noAck idle : Bool) (f : CanFrame) (s : State), s.Inv →
  ((n = 0 ∨ 4 < n) → ∀ o, exec (.canFrameReceived t n sof f) s = .fault (.noSuchUnit n) ∧
    exec (.canReceiveError t n sof bit late id eight) s = .fault (.noSuchUnit n) ∧ exec (.canTimedFrameDue t n i idle) s = .fault (.noSuchUnit n) ∧
    exec (.canTxAttemptEnd t n o) s = .fault (.noSuchUnit n) ∧ exec (.canFrameExpiry t n i) s = .fault (.noSuchUnit n) ∧
    exec (.canBusOff t n) s = .fault (.noSuchUnit n) ∧ exec (.canRecoverComplete t n) s = .fault (.noSuchUnit n) ∧
    exec (.canRecoverTimeout t n) s = .fault (.noSuchUnit n) ∧ exec (.canDetectDwellEnd t n) s = .fault (.noSuchUnit n) ∧
    exec (.canNodeForget t n node) s = .fault (.noSuchUnit n)) ∧
  (1 ≤ n → n ≤ 4 → f.rtr = true → exec (.canFrameReceived t n sof f) s = .next (((s.arrive t).busEnd n sof).canNext n)) ∧
  (1 ≤ n → n ≤ 4 → ((s.port n).state = 2 ∨ (s.port n).state = 3 ∨ (s.port n).state = 6) →
    (f.rtr = false → ∃ u, exec (.canFrameReceived t n sof f) s = .next u ∧ (u.port n).rx = (s.port n).rx + 1 ∧
      (u.port n).rec_ = (if 127 < (s.port n).rec_ then 120 else (s.port n).rec_ - 1) ∧ (u.port n).tec = (s.port n).tec ∧
      ((s.port n).rxFifo.length < 512 → (u.port n).rxFifo = (s.port n).rxFifo ++ [(sof, f)]) ∧
      (512 ≤ (s.port n).rxFifo.length → (u.port n).rxFifo = (s.port n).rxFifo ∧ (u.port n).rxOverrun = (s.port n).rxOverrun + 1 ∧
        u.alarmOn .CAN_RX_OVERRUN n = true ∧ u.pnt = s.pnt)) ∧
    ∃ u, exec (.canReceiveError t n sof bit late id eight) s = .next u ∧ (u.port n).errors = (s.port n).errors + 1 ∧
      (u.port n).rec_ = (if (s.port n).state = 6 then (s.port n).rec_ else (s.port n).rec_ + (if eight then 8 else 1)) ∧
      (u.port n).rx = (s.port n).rx ∧ u.pnt = s.pnt) ∧
  (1 ≤ n → n ≤ 4 → (s.port n).state = 1 →
    (f.rtr = false → exec (.canFrameReceived t n sof f) s = .next ((((s.arrive t).busEnd n sof).detectGood n f).canNext n)) ∧
    exec (.canReceiveError t n sof bit late id eight) s = .next ((((s.arrive t).busEnd n sof).detectNext n).canNext n)) ∧
  (1 ≤ n → n ≤ 4 → ((s.port n).state = 0 ∨ (s.port n).state = 4 ∨ (s.port n).state = 5) →
    exec (.canFrameReceived t n sof f) s = .next ((s.arrive t).busEnd n sof) ∧
    exec (.canReceiveError t n sof bit late id eight) s = .next ((s.arrive t).busEnd n sof)) ∧
  (1 ≤ n → n ≤ 4 → 64 ≤ i → exec (.canTimedFrameDue t n i idle) s = .fault (.noSuchUnit n) ∧
    exec (.canFrameExpiry t n i) s = .fault (.noSuchUnit n)) ∧
  (∀ x, 1 ≤ n → n ≤ 4 → i < 64 → (s.box n i).cur = some x → (∀ a, x.t = some a → a ≤ (s.arrive t).raw) →
    exec (.canTimedFrameDue t n i idle) s =
      .next ((((s.arrive t).modPort n (fun p => { p with foreign := !idle && p.onBus.isNone })).modBox n i (fun b => { b with
        cur := some { x with due := true } })).canNext n)) ∧
  (∀ o, 1 ≤ n → n ≤ 4 → (s.port n).onBus = none → exec (.canTxAttemptEnd t n o) s = .next (s.arrive t)) ∧
  (∀ j x, 1 ≤ n → n ≤ 4 → (s.port n).onBus = some j → (s.box n j).cur = some x →
    (∃ u, exec (.canTxAttemptEnd t n .success) s = .next u ∧ (u.port n).tx = (s.port n).tx + 1 ∧ (u.port n).tec = (s.port n).tec - 1 ∧
      (u.port n).aborts = (s.port n).aborts ∧ ((s.box n j).behind = none → (u.box n j).cur = none)) ∧
    (x.cancelled = none → ∃ u, exec (.canTxAttemptEnd t n .lost) s = .next u ∧ (u.port n).tx = (s.port n).tx ∧
      (u.port n).tec = (s.port n).tec ∧ (u.port n).aborts = (s.port n).aborts ∧ (u.box n j).cur = some { x with begun := false } ∧ (u.port n).foreign = true) ∧
    ∃ u, exec (.canTxAttemptEnd t n (.error bit late noAck)) s = .next u ∧ (u.port n).errors = (s.port n).errors + 1 ∧
      (u.port n).tx = (s.port n).tx ∧
      (u.port n).tec = (if noAck ∧ (s.port n).state = 3 then (s.port n).tec else (s.port n).tec + 8)) ∧
  (∀ v : State, 1 ≤ n → n ≤ 4 → i < 64 → v = (s.arrive t).canDue n →
    ((v.box n i).cur = none → (v.box n i).behind = none → exec (.canFrameExpiry t n i) s = .next v) ∧
    (∀ x e, (v.box n i).cur = some x → (v.box n i).behind = none → x.expiry = some e →
      ((s.arrive t).raw < e → exec (.canFrameExpiry t n i) s = .next v) ∧
      (e ≤ (s.arrive t).raw → x.begun = true → exec (.canFrameExpiry t n i) s =
        .next (v.modBox n i (fun b => { b with cur := some { x with cancelled := some (x.cancelled.getD abExpired) } }))) ∧
      (e ≤ (s.arrive t).raw → x.begun = false → exec (.canFrameExpiry t n i) s =
        .next (((v.frameAborted n x abExpired).nextBehind n i).canNext n))) ∧
    ∀ x h e, (v.box n i).cur = some x → x.expiry = none → (v.box n i).behind = some h → h.expiry = some e → e ≤ (s.arrive t).raw →
      exec (.canFrameExpiry t n i) s = .next ((v.frameAborted n h abExpired).modBox n i (fun b => { b with behind := none }))) ∧
  (1 ≤ n → n ≤ 4 → ((s.port n).state = 2 ∨ (s.port n).state = 3) → 255 < (s.port n).tec →
    ∃ u, exec (.canBusOff t n) s = .next u ∧ (u.port n).state = 4 ∧ (u.port n).onBus = none ∧ (∀ k, k < 64 → u.box n k = {}) ∧
      u.alarmOn .CAN_BUS_OFF n = true) ∧
  (1 ≤ n → n ≤ 4 → (s.port n).tec ≤ 255 → exec (.canBusOff t n) s = .next (s.arrive t)) ∧
  (∀ a q d, 1 ≤ n → n ≤ 4 → (s.port n).recover = some (a, q, d) →
    (∃ u, exec (.canRecoverComplete t n) s = .next u ∧ (u.port n).state = 2 ∧ (u.port n).tec = 0 ∧ (u.port n).rec_ = 0 ∧
      (u.port n).recover = none ∧ u.alarmOn .CAN_BUS_OFF n = false ∧ (a, q) ∉ u.cmd.accepted) ∧
    (max s.now t < d → exec (.canRecoverTimeout t n) s = .next (s.arrive t)) ∧
    (d ≤ max s.now t → ∃ u, exec (.canRecoverTimeout t n) s = .next u ∧ (u.port n).state = 4 ∧ (u.port n).recover = none ∧
      (a, q) ∉ u.cmd.accepted)) ∧
  (1 ≤ n → n ≤ 4 → (s.port n).recover = none →
    exec (.canRecoverComplete t n) s = .next (s.arrive t) ∧ exec (.canRecoverTimeout t n) s = .next (s.arrive t)) ∧
  (∀ d, 1 ≤ n → n ≤ 4 → (s.port n).detect = some d →
    (max s.now t < d.since + s.parMs .BUS_DETECT_DWELL → exec (.canDetectDwellEnd t n) s = .next (s.arrive t)) ∧
    (d.since + s.parMs .BUS_DETECT_DWELL ≤ max s.now t → d.frames ≠ 0 → exec (.canDetectDwellEnd t n) s =
      .next ((s.arrive t).modPort n (fun p => { p with detect := some { d with since := max s.now t, frames := 0 } }))) ∧
    (d.since + s.parMs .BUS_DETECT_DWELL ≤ max s.now t → d.frames = 0 → ∃ u x, exec (.canDetectDwellEnd t n) s = .next u ∧
      (u.port n).detect = some x ∧ x.since = max s.now t ∧ x.good = 0 ∧ (u.port n).state = (s.port n).state ∧
      x.idx = (if (s.parL .BUS_CAN_RATES n).length / 2 ≤ d.idx + 1 then 0 else d.idx + 1))) ∧
  (1 ≤ n → n ≤ 4 → (s.port n).detect = none → exec (.canDetectDwellEnd t n) s = .next (s.arrive t)) ∧
  (∀ x, 1 ≤ n → n ≤ 4 → (s.port n).nodes.find? (fun y => y.node = node) = some x →
    (max s.now t < x.last + s.parNs .BUS_NODE_FORGET → exec (.canNodeForget t n node) s = .next (s.arrive t)) ∧
    (x.last + s.parNs .BUS_NODE_FORGET ≤ max s.now t → ∃ u, exec (.canNodeForget t n node) s = .next u ∧
      (u.port n).nodes = (s.port n).nodes.filter (fun y => y.node ≠ node) ∧ u.pnt.points = s.pnt.points)) ∧
  (1 ≤ n → n ≤ 4 → (∀ x ∈ (s.port n).nodes, x.node ≠ node) → exec (.canNodeForget t n node) s = .next (s.arrive t))

/-- Events of the serial ports and of the IEC 61162-450 network: an accepted sentence or frame counts and its instant is kept, a bad one is counted
and writes nothing; talker sentences are queued at their interval. R490–R496. -/
def Obligations.SerialEvents : Prop := ∀ (t n start g addr port kind : Nat) (bs : List Byte) (s : State), s.Inv →
  ((n = 0 ∨ 12 < n) → ∀ errs, exec (.serialSentence t n start errs bs) s = .fault (.noSuchUnit n) ∧
    exec (.serialBinaryFrame t n start errs bs) s = .fault (.noSuchUnit n) ∧ exec (.serialTxSentence t n kind) s = .fault (.noSuchUnit n)) ∧
  (1 ≤ n → n ≤ 12 → (s.dom 10 = false ∨ s.parN .BUS_SER_MODE n = 0) → ∀ errs,
    exec (.serialSentence t n start errs bs) s = .next (s.arrive t) ∧ exec (.serialBinaryFrame t n start errs bs) s = .next (s.arrive t)) ∧
  (1 ≤ n → n ≤ 12 → s.dom 10 = true → s.parN .BUS_SER_MODE n ≠ 0 → s.parN .BUS_SER_PROTO n < 2 →
    (∀ body, sentenceBody (s.parB .BUS_SER_CKSUM n) (bs.map BitVec.toNat) = some body →
      ∃ u, exec (.serialSentence t n start 0 bs) s = .next u ∧ (u.ser n).accepted = (s.ser n).accepted + 1 ∧
        (u.ser n).lastAcc = some (max s.now t) ∧ (u.ser n).bad = (s.ser n).bad) ∧
    (sentenceBody (s.parB .BUS_SER_CKSUM n) (bs.map BitVec.toNat) = none →
      ∃ u, exec (.serialSentence t n start 0 bs) s = .next u ∧ (u.ser n).bad = (s.ser n).bad + 1 ∧
        (u.ser n).accepted = (s.ser n).accepted ∧ u.pnt = s.pnt) ∧
    ∀ errs, 0 < errs → ∃ u, exec (.serialSentence t n start errs bs) s = .next u ∧ (u.ser n).bad = (s.ser n).bad + 1 ∧
      (u.ser n).charErr = (s.ser n).charErr + BitVec.ofNat 32 errs ∧ (u.ser n).accepted = (s.ser n).accepted ∧ u.pnt = s.pnt) ∧
  (1 ≤ n → n ≤ 12 → s.dom 10 = true → s.parN .BUS_SER_MODE n ≠ 0 → s.parN .BUS_SER_PROTO n = 2 →
    ∀ d, d = s.parL .BUS_BIN (s.parN .BUS_SER_PARSER n) →
      (d = [] → ∀ errs, exec (.serialBinaryFrame t n start errs bs) s = .next ((s.arrive t).serChars n bs.length errs)) ∧
      (∀ errs, d ≠ [] → 0 < errs → exec (.serialBinaryFrame t n start errs bs) s = .next (((s.arrive t).serChars n bs.length errs).serBad n)) ∧
      (d ≠ [] → ∃ u, exec (.serialBinaryFrame t n start 0 bs) s = .next u ∧
        (u.ser n).accepted = (s.ser n).accepted + BitVec.ofNat 32 (binScan d bs).1.length ∧
        (u.ser n).bad = (s.ser n).bad + BitVec.ofNat 32 (binScan d bs).2 ∧
        ((binScan d bs).1 ≠ [] → (u.ser n).lastAcc = some (max s.now t)) ∧ ((binScan d bs).1 = [] → u.pnt = s.pnt))) ∧
  ((s.netUp = false ∨ s.dom 10 = false ∨ (s.parL .BUS_450_GROUPS 0).contains (g : Rat) = false ∨ (bs.map BitVec.toNat).take 6 ≠ [85, 100, 80, 98, 67, 0]) →
    exec (.iec450Datagram t g addr port bs) s = .next (s.arrive t)) ∧
  (s.netUp = true → s.dom 10 = true → (s.parL .BUS_450_GROUPS 0).contains (g : Rat) = true → (bs.map BitVec.toNat).take 6 = [85, 100, 80, 98, 67, 0] →
    ∃ u, exec (.iec450Datagram t g addr port bs) s = .next u ∧ u.bus = s.bus ∧
      ((∀ l ∈ splitLines ((bs.map BitVec.toNat).drop 6), l ≠ [] → (dropTag l).bind (sentenceBody false) = none) → u.pnt = s.pnt)) ∧
  (1 ≤ n → n ≤ 12 → ((s.arrive t).serDrain n).serDue n kind = false →
    exec (.serialTxSentence t n kind) s = .next ((s.arrive t).serDrain n)) ∧
  (1 ≤ n → n ≤ 12 → ((s.arrive t).serDrain n).serDue n kind = true → ((s.arrive t).serDrain n).talker kind = none →
    exec (.serialTxSentence t n kind) s = .next ((s.arrive t).serDrain n)) ∧
  (∀ d, 1 ≤ n → n ≤ 12 → ((s.arrive t).serDrain n).serDue n kind = true → ((s.arrive t).serDrain n).talker kind = some d →
    ∃ u, exec (.serialTxSentence t n kind) s = .next u ∧ u.pnt = s.pnt ∧
      (u.ser n).txq = (if 9 ≤ (((s.arrive t).serDrain n).ser n).txq.length
        then (((s.arrive t).serDrain n).ser n).txq.take 1 ++ (((s.arrive t).serDrain n).ser n).txq.drop 2
        else (((s.arrive t).serDrain n).ser n).txq) ++ [{ kind := kind, data := d, queued := max s.now t }])

/-- The DMA engine's events: START is refused, faults on its descriptor's address or place, or takes the descriptor; EN ends it; a trigger starts what
waits for it; at a descriptor's end its bytes are copied, its status words written, and every other byte is as before. R501–R514. -/
def Obligations.DmaEvents : Prop := ∀ (t n k : Nat) (e : Bool) (s : State), s.Inv →
  (32 ≤ n → exec (.dmaStart t n) s = .fault (.noSuchUnit n) ∧ exec (.dmaEnClear t n) s = .fault (.noSuchUnit n) ∧
    exec (.dmaDescriptorEnd t n e) s = .fault (.noSuchUnit n)) ∧
  ((k = 0 ∨ 3 < k) → exec (.dmaTrigger t k) s = .fault (.noSuchUnit k)) ∧
  (n < 32 → s.dom 1 = false → exec (.dmaStart t n) s = .next (s.arrive t) ∧ exec (.dmaEnClear t n) s = .next (s.arrive t)) ∧
  (n < 32 → s.dom 1 = true → ((s.dch n).desc.isSome = true ∨ (s.dch n).en = false) →
    exec (.dmaStart t n) s = .next ((s.arrive t).modDch n (fun c => { c with refused := true }))) ∧
  (∀ a, n < 32 → s.dom 1 = true → (s.dch n).desc = none → (s.dch n).en = true →
    a = (s.dch n).descHi.toNat % 256 * 2 ^ 32 + (s.dch n).descLo.toNat →
    (a % 64 ≠ 0 → ∃ u, exec (.dmaStart t n) s = .next u ∧
      u.dch n = { s.dch n with
        prevCirc := none, startAt := some (max s.now t, (s.dch n).cur, (s.dch n).remain, (s.dch n).circPos), cur := a, state := 0, last := 2, err := true, desc := none } ∧
      ∀ j, j ≠ n → u.dch j = s.dch j) ∧
    (a % 64 = 0 → inRange (if 24 ≤ n then partLo else dramLo) (if 24 ≤ n then partHi else sharedHi) a 64 = false →
      ∃ u, exec (.dmaStart t n) s = .next u ∧
        u.dch n = { s.dch n with
        prevCirc := none, startAt := some (max s.now t, (s.dch n).cur, (s.dch n).remain, (s.dch n).circPos), cur := a, state := 0, last := 5, err := true, desc := none }) ∧
    ∀ d st, a % 64 = 0 → inRange (if 24 ≤ n then partLo else dramLo) (if 24 ≤ n then partHi else sharedHi) a 64 = true →
      d = { s.dmaDesc a with startPos := if (s.dmaDesc a).circ then (s.dmaDesc a).circAddr % (s.dmaDesc a).size else 0 } →
      st = s.dmaCheck n d (Memory.read s.dram.cells a 64) →
      ∃ u, exec (.dmaStart t n) s = .next u ∧ (u.dch n).cur = a ∧
        (st = 0 → (u.dch n).desc = some d ∧ (u.dch n).state = (if d.trig = 0 then 2 else 1) ∧
          (u.dch n).remain = BitVec.ofNat 32 d.len ∧ u.dram = s.dram) ∧
        (st ≠ 0 → (u.dch n).desc = none ∧ (u.dch n).state = 0 ∧ (u.dch n).last = st ∧ (u.dch n).err = true ∧
          (u.dch n).count = (s.dch n).count)) ∧
  (n < 32 → s.dom 1 = true → (s.dch n).en = true →
    ∃ u, exec (.dmaEnClear t n) s = .next u ∧ (u.dch n).en = false ∧ (u.dch n).desc = none ∧
      ((s.dch n).desc = none → OnlyLog ((s.arrive t).modDch n (fun c => { c with en := false })) u) ∧
      ((s.dch n).desc.isSome = true → (s.dch n).state = 1 → (∀ x, (s.dch n).startAt = some x → x.1 ≠ max s.now t) →
        (u.dch n).last = 1 ∧ (u.dch n).err = true) ∧
      (∀ x, (s.dch n).desc.isSome = true → (s.dch n).startAt = some x → x.1 = max s.now t → (u.dch n).refused = true ∧
        (u.dch n).last = (s.dch n).last ∧ u.dram = s.dram)) ∧
  (n < 32 → (s.dch n).en = false → exec (.dmaEnClear t n) s = .next (s.arrive t)) ∧
  (1 ≤ k → k ≤ 3 → ∃ u, exec (.dmaTrigger t k) s = .next u ∧ u = { s.arrive t with dma := { s.dma with chans := u.dma.chans } } ∧
    ∀ j, j < 32 → u.dch j = (
      if (s.dch j).desc.any (fun d => d.trig = k) then
        (if (s.dch j).state = 1 then { s.dch j with state := 2, goAt := some (max s.now t) } else { s.dch j with trigMiss := true })
      else s.dch j)) ∧
  (n < 32 → ((s.dch n).desc = none ∨ (s.dch n).state ≠ 2) → exec (.dmaDescriptorEnd t n e) s = .next (s.arrive t)) ∧
  (∀ d, n < 32 → (s.dch n).desc = some d → (s.dch n).state = 2 → d.next ≠ 0 → exec (.dmaDescriptorEnd t n false) s =
    .next ((((s.arrive t).dmaMove d d.len).dmaEnd n d 0 d.len true).dmaTake n d.next)) ∧
  (∀ d, n < 32 → (s.dch n).desc = some d → (s.dch n).state = 2 → d.dstCirc = false → (d.dst + d.len ≤ pntLo ∨ pntHi < d.dst) →
    (∃ u, exec (.dmaDescriptorEnd t n true) s = .next u ∧ (u.dch n).last = 6 ∧ (u.dch n).err = true ∧ (u.dch n).desc = none ∧
      (u.dch n).state = 0 ∧ (u.dch n).count = (s.dch n).count ∧
      ∀ a, (a < d.dst ∨ d.dst + d.len ≤ a) → (a < d.addr + 36 ∨ d.addr + 48 ≤ a) → u.dmaByte a = s.dmaByte a) ∧
    (d.next = 0 → ∃ u, exec (.dmaDescriptorEnd t n false) s = .next u ∧ (u.dch n).last = 0 ∧ (u.dch n).endF = true ∧
      (u.dch n).err = (s.dch n).err ∧ (u.dch n).remain = 0 ∧ (u.dch n).count = (s.dch n).count + 1 ∧ (u.dch n).tag = d.tag ∧
      (u.dch n).desc = none ∧ (u.dch n).state = 0 ∧
      Memory.read u.dram.cells (d.addr + 36) 12 = leBytes 4 0 ++ leBytes 4 0 ++ leBytes 4 ((s.arrive t).sel % 2 ^ 32) ∧
      (∀ a, (a < d.dst ∨ d.dst + d.len ≤ a) → (a < d.addr + 36 ∨ d.addr + 48 ≤ a) → u.dmaByte a = s.dmaByte a) ∧
      ∀ i, i < d.len → (d.dst + i < d.addr + 36 ∨ d.addr + 48 ≤ d.dst + i) → u.dmaByte (d.dst + i) = s.dmaByte (d.addrAt true i)))

/-- R505. A start writes the address of the first descriptor and then START: the channel takes the descriptor at that address; on a channel that runs,
or whose EN is clear, it is refused: REFUSED is set and nothing is taken. -/
def Obligations.StartOfAChain : Prop := ∀ (t n : Nat) (s : State), s.Inv → n < 32 → s.dom 1 = true →
  ((s.dch n).desc.isSome = true ∨ (s.dch n).en = false →
    ∃ u, exec (.dmaStart t n) s = .next u ∧ u.dch n = { s.dch n with refused := true } ∧ (∀ k, k ≠ n → u.dch k = s.dch k) ∧
      u = { s.arrive t with dma := { s.dma with chans := u.dma.chans } }) ∧
  ((s.dch n).desc = none → (s.dch n).en = true →
    ∃ u, exec (.dmaStart t n) s = .next u ∧ (u.dch n).cur = (s.dch n).descHi.toNat % 256 * 2 ^ 32 + (s.dch n).descLo.toNat ∧
      (u.dch n).refused = (s.dch n).refused ∧ ∀ k, k ≠ n → u.dch k = s.dch k)

/-- R507. With TRIG other than 0 the descriptor taken waits for the first trigger after the take; a trigger while it still moves is not stored, and
TRIG_MISS is set. -/
def Obligations.TriggeredDescriptors : Prop := ∀ (t n k : Nat) (s : State), s.Inv → n < 32 → 1 ≤ k → k ≤ 3 →
  (∀ a d, s.dom 1 = true → (s.dch n).desc = none → (s.dch n).en = true →
    a = (s.dch n).descHi.toNat % 256 * 2 ^ 32 + (s.dch n).descLo.toNat → a % 64 = 0 →
    inRange (if 24 ≤ n then partLo else dramLo) (if 24 ≤ n then partHi else sharedHi) a 64 = true →
    d = { s.dmaDesc a with startPos := if (s.dmaDesc a).circ then (s.dmaDesc a).circAddr % (s.dmaDesc a).size else 0 } →
    s.dmaCheck n d (Memory.read s.dram.cells a 64) = 0 → d.trig = k →
    ∃ u, exec (.dmaStart t n) s = .next u ∧ (u.dch n).desc = some d ∧ (u.dch n).state = 1) ∧
  (∀ d, (s.dch n).desc = some d → d.trig = k → (s.dch n).state = 1 →
    (exec (.dmaDescriptorEnd t n false) s = .next (s.arrive t)) ∧
    ∃ u, exec (.dmaTrigger t k) s = .next u ∧ u.dch n = { s.dch n with state := 2, goAt := some (max s.now t) }) ∧
  (∀ d, (s.dch n).desc = some d → d.trig = k → (s.dch n).state = 2 →
    ∃ u, exec (.dmaTrigger t k) s = .next u ∧ u.dch n = { s.dch n with trigMiss := true }) ∧
  (∀ d, (s.dch n).desc = some d → d.trig ≠ k → ∃ u, exec (.dmaTrigger t k) s = .next u ∧ u.dch n = s.dch n)

/-- R509. A copy between ranges that overlap, neither side circular, leaves the destination with what the source held before; a circular buffer that
overlaps the other side's range ends the descriptor OVERLAP_CIRC, the other side's range being LEN bytes from its address. -/
def Obligations.OverlappingCopies : Prop := ∀ (t n : Nat) (s : State), s.Inv → n < 32 →
  (∀ d i, (s.dch n).desc = some d → (s.dch n).state = 2 → d.circ = false → d.next = 0 → (d.dst + d.len ≤ pntLo ∨ pntHi < d.dst) →
    i < d.len → (d.dst + i < d.addr + 36 ∨ d.addr + 48 ≤ d.dst + i) →
    ∃ u, exec (.dmaDescriptorEnd t n false) s = .next u ∧ u.dmaByte (d.dst + i) = s.dmaByte (d.src + i)) ∧
  (∀ a d, s.dom 1 = true → (s.dch n).desc = none → (s.dch n).en = true →
    a = (s.dch n).descHi.toNat % 256 * 2 ^ 32 + (s.dch n).descLo.toNat → a % 64 = 0 →
    inRange (if 24 ≤ n then partLo else dramLo) (if 24 ≤ n then partHi else sharedHi) a 64 = true →
    d = { s.dmaDesc a with startPos := if (s.dmaDesc a).circ then (s.dmaDesc a).circAddr % (s.dmaDesc a).size else 0 } →
    fld (Memory.read s.dram.cells a 64) 48 16 = 0 → d.ctrl.toNat / 4096 = 0 → 8 ≤ d.len → 6 ≤ d.log2 → d.log2 ≤ 24 →
    d.src < 2 ^ 40 → d.dst < 2 ^ 40 → d.next < 2 ^ 40 → d.src % 8 = 0 → d.dst % 8 = 0 → d.len % 8 = 0 → pntCut (d.span true) = false →
    s.dmaReach n (d.span true).1 (d.span true).2 false = true → s.dmaReach n (d.span false).1 (d.span false).2 true = true →
    (d.srcCirc = true ∧ d.dstCirc = false ∧ overlaps d.base d.size d.dst d.len = true ∨
      d.srcCirc = false ∧ d.dstCirc = true ∧ overlaps d.base d.size d.src d.len = true) →
    ∃ u, exec (.dmaStart t n) s = .next u ∧ (u.dch n).last = 3 ∧ (u.dch n).desc = none)

/-- The recorder's events: a submission below the least severity is not kept, otherwise it is queued, or written at once while the front end is down;
entries leave in the order of their captures; a freeze ends; snapshots are captured in their window; the read ports. R520–R538. -/
def Obligations.RecorderEvents : Prop := ∀ (t cls k : Nat) (c : EvCode) (ps : List Word) (cap : Option (Nat × Nat)) (w : Who) (v : Word) (sound : Bool)
    (s : State), s.Inv →
  ((c.severity : Rat) < s.par .LOG_MIN_SEV → exec (.logRecordSubmit t c cls ps cap) s = .next (s.arrive t)) ∧
  (s.par .LOG_MIN_SEV ≤ (c.severity : Rat) → s.dom 1 = true → s.keep.supply.state = 0 → s.log.queue.length < 3071 →
    ∃ u x, exec (.logRecordSubmit t c cls ps cap) s = .next u ∧ u = { s.arrive t with log := u.log } ∧ u.log.queue = s.log.queue ++ [x] ∧
      x.rec_.code = c.code ∧ x.rec_.sev = c.severity ∧ x.rec_.cls = cls ∧ x.rec_.params = pad8 ps ∧ x.submitted = max s.now t ∧
      x.released = false ∧ x.capture = (match cap with
        | some y => y.1
        | none => (s.arrive t).raw)) ∧
  (s.par .LOG_MIN_SEV ≤ (c.severity : Rat) → s.dom 1 = false →
    ∃ u, exec (.logRecordSubmit t c cls ps cap) s = .next u ∧ u = { s.arrive t with log := u.log } ∧
      u.log.nextSeq = s.log.nextSeq + 1 ∧ u.log.queue = s.log.queue ∧
      (s.log.state ≠ 2 → s.log.recs.length < logGeneral + reservedUsed s.log.recs → ∃ r, u.log.recs = s.log.recs ++ [r] ∧ r.seq = s.log.nextSeq ∧ r.code = c.code ∧
        r.cls = cls ∧ r.params = pad8 ps ∧ r.flags &&& flDirect = flDirect)) ∧
  (s.dom 1 = false ∨ (∀ x ∈ s.log.queue, x.released = true ∨ max s.now t < x.submitted + 10000000) →
    exec (.logRecordRelease t k) s = .next (s.arrive t)) ∧
  (∀ x, s.dom 1 = true → s.log.queue = [x] → x.released = false → x.trigger = none → x.submitted + 10000000 ≤ max s.now t → s.log.state = 0 →
    k < 2 → s.log.dropAt ≠ some (max s.now t) →
    s.log.recs.length < logGeneral + reservedUsed s.log.recs →
    ∃ u r, exec (.logRecordRelease t k) s = .next u ∧ u.log.queue = [] ∧ u.log.nextSeq = s.log.nextSeq + 1 ∧
      u.log.recs = s.log.recs ++ [r] ∧ r.seq = s.log.nextSeq ∧ r.code = x.rec_.code ∧ r.params = x.rec_.params ∧
      u = { s.arrive t with log := u.log }) ∧
  (∀ x, s.dom 1 = true → s.log.queue = [x] → x.released = false → x.trigger = none → x.submitted + 10000000 ≤ max s.now t → s.log.state = 0 →
    s.log.memFault = false → s.keep.supply.state = 0 → 2 ≤ k → s.log.spill.length < 255 →
    ∃ u r y, exec (.logRecordRelease t k) s = .next u ∧ u.log.state = 2 ∧ u.log.memFault = true ∧ u.alarmOn .LOG_MEM_FAULT = true ∧
      u.log.recs = s.log.recs ∧ u.log.spill = s.log.spill ++ [r, y] ∧ r.seq = s.log.nextSeq ∧ r.code = x.rec_.code ∧
      y.code = EvCode.LOG_MEM_FAIL.code) ∧
  (∀ x, nextRelease s.log.queue = some x → x ∈ s.log.queue ∧ x.released = false ∧
    ∀ y ∈ s.log.queue, y.released = false → entryBefore y x = false) ∧
  (s.log.state = 1 → s.log.freezeAt + 60000000000 ≤ max s.now t →
    ∃ u, exec (.logFreezeTimeout t) s = .next u ∧ u.log.state = 0 ∧ u.log.frozenSnaps = [] ∧ u.alarmOn .LOG_FROZEN = false) ∧
  (s.log.state ≠ 1 ∨ max s.now t < s.log.freezeAt + 60000000000 → exec (.logFreezeTimeout t) s = .next (s.arrive t)) ∧
  (s.dom 1 = false ∨ s.dom 3 = false ∨ s.frame.running = false ∨ max s.now t < s.frame.startAt + 16000000 ∨
      s.frame.startAt + 19000000 < max s.now t → exec (.logSnapshotCapture t k) s = .next (s.arrive t)) ∧
  (s.dom 1 = true → s.dom 3 = true → s.frame.running = true → s.frame.startAt + 16000000 ≤ max s.now t →
      max s.now t ≤ s.frame.startAt + 19000000 →
    ∃ u, exec (.logSnapshotCapture t k) s = .next u ∧
      u.log.trigPend = s.log.trigPend.filter (fun p => ¬ p.2.2.2 ≤ s.frame.startAt + 16000000) ∧
      ∀ g q sv a, s.log.trigPend = [(g, q, sv, a)] → a ≤ s.frame.startAt + 16000000 → s.log.state = 0 → s.log.snapFault = false → k < 2 →
        s.log.snaps.length < 1023 → ∃ x, u.log.snaps = s.log.snaps ++ [x] ∧ x.recSeq = q ∧ x.trig = g ∧ x.sev = sv ∧
          x.num = s.log.snapNum + 1 ∧ u.log.snapNum = s.log.snapNum + 1) ∧
  (s.dom 1 = false → exec (.logRdGo t w v sound) s = .next (s.arrive t) ∧ exec (.logOptimeLoRead t w) s = .next (s.arrive t)) ∧
  (s.dom 1 = true →
    (∃ u, exec (.logOptimeLoRead t w) s = .next u ∧ u.sent = [.readData (BitVec.ofNat 32 ((s.arrive t).optime % 2 ^ 32))] ∧
      (u.rdPort w).optimeHi = BitVec.ofNat 16 ((s.arrive t).optime / 2 ^ 32) ∧ u.log.recs = s.log.recs) ∧
    (v.toNat.testBit 31 = false → exec (.logRdGo t w v sound) s =
      .next ((s.arrive t).modRd w (fun x => { x with kind := v.toNat % 4, entry := v.toNat / 65536 % 512 }))) ∧
    (v.toNat.testBit 31 = true → v.toNat % 4 < 2 → ((s.logSource (v.toNat % 4)).find? (fun x => x.seq = (s.rdPort w).sel) = none →
        ∃ u, exec (.logRdGo t w v sound) s = .next u ∧ (u.rdPort w).result = 1) ∧
      ∀ r, (s.logSource (v.toNat % 4)).find? (fun x => x.seq = (s.rdPort w).sel) = some r → r.ok = true →
        (sound = false → v.toNat % 4 = 0 → s.log.memFault = false → ∃ u, exec (.logRdGo t w v sound) s = .next u ∧
          (u.rdPort w).result = 2 ∧ u.log.state = 2 ∧ u.log.memFault = true) ∧
        (sound = true → ∃ u, exec (.logRdGo t w v sound) s = .next u ∧ (u.rdPort w).result = 0 ∧ (u.rdPort w).data = wordsOf r.bytes)) ∧
    (v.toNat.testBit 31 = true → 2 ≤ v.toNat % 4 → s.snap? (s.rdPort w).sel = none →
      ∃ u, exec (.logRdGo t w v sound) s = .next u ∧ (u.rdPort w).result = 1) ∧
    ∀ x, v.toNat.testBit 31 = true → 2 ≤ v.toNat % 4 → s.snap? (s.rdPort w).sel = some x → v.toNat / 65536 % 512 = 511 →
      ∃ u, exec (.logRdGo t w v sound) s = .next u ∧ (u.rdPort w).result = 0 ∧ (u.rdPort w).data = wordsOf x.header)

/-- The logic supply, the baseplate and KEEP's counters: LOW writes what is retained and raises SUPPLY_LOW, NORMAL clears it, the inputs' alarms, the
counters saved every second and the time keeper calibrated. R543, R547, R548, R556, R557, R569. -/
def Obligations.SupplyEvents : Prop := ∀ (t k : Nat) (b : Bool) (va vb v : Rat) (s : State),
  (s.keep.d0On = true → s.keep.supply.state = 0 → (if va < vb then vb else va) < 17 →
    ∃ u, exec (.supplyLowEntry t va vb) s = .next u ∧ u.keep.supply.state = 1 ∧ u.keep.supply.dips = s.keep.supply.dips + 1 ∧
      u.keep.supply.vla = va ∧ u.keep.supply.vlb = vb ∧ u.alarmOn .SUPPLY_LOW = true ∧ (s.dom 1 = true → u.log.queue = [])) ∧
  ((s.keep.d0On = false ∨ s.keep.supply.state ≠ 0 ∨ 17 ≤ (if va < vb then vb else va)) →
    exec (.supplyLowEntry t va vb) s = .next ((s.arrive t).supplyIs va vb)) ∧
  (s.keep.d0On = true → s.keep.supply.state = 1 → 18 ≤ (if va < vb then vb else va) →
    ∃ u, exec (.supplyNormalReturn t va vb) s = .next u ∧ u.keep.supply.state = 0 ∧ u.keep.supply.dips = s.keep.supply.dips ∧
      u.alarmOn .SUPPLY_LOW = false) ∧
  ((s.keep.d0On = false ∨ s.keep.supply.state ≠ 1 ∨ (if va < vb then vb else va) < 18) →
    exec (.supplyNormalReturn t va vb) s = .next ((s.arrive t).supplyIs va vb)) ∧
  (s.keep.d0On = true → 33 < (if va < vb then vb else va) →
    ∃ u, exec (.supplyHigh t va vb) s = .next u ∧ u.alarmOn .SUPPLY_HIGH = true ∧ OnlyLog ((s.arrive t).supplyIs va vb) u) ∧
  ((if va < vb then vb else va) ≤ 33 → exec (.supplyHigh t va vb) s = .next ((s.arrive t).supplyIs va vb)) ∧
  (s.keep.d0On = true → v < 17 → 18 ≤ (if b then s.keep.supply.vla else s.keep.supply.vlb) → s.parB .PWR_SINGLE_INPUT = false →
    ∃ u, exec (.vlInputLost t b v) s = .next u ∧ u.alarmOn .VL_INPUT_LOST (if b then 1 else 0) = true ∧
      OnlyLog ((s.arrive t).inputIs (if b then 1 else 0) v) u) ∧
  ((17 ≤ v ∨ s.parB .PWR_SINGLE_INPUT = true) → exec (.vlInputLost t b v) s = .next ((s.arrive t).inputIs (if b then 1 else 0) v)) ∧
  (3 ≤ k → exec (.vlInputRestored t k v) s = .fault (.noSuchUnit k)) ∧
  (s.keep.d0On = true → v ≤ 32 → ∃ u, exec (.vlInputRestored t 2 v) s = .next u ∧ u.alarmOn .SUPPLY_HIGH = false ∧ OnlyLog (s.arrive t) u) ∧
  ((32 < v ∨ s.keep.d0On = false) → exec (.vlInputRestored t 2 v) s = .next (s.arrive t)) ∧
  (k < 2 → s.keep.d0On = true → 18 ≤ v → ∃ u, exec (.vlInputRestored t k v) s = .next u ∧ u.alarmOn .VL_INPUT_LOST k = false ∧
    OnlyLog ((s.arrive t).inputIs k v) u) ∧
  (k < 2 → (v < 18 ∨ s.keep.d0On = false) → exec (.vlInputRestored t k v) s = .next ((s.arrive t).inputIs k v)) ∧
  (∃ u, exec (.baseplateHot t v) s = .next u ∧ u.keep.baseT = v ∧
    (s.keep.d0On = true → s.par .PWR_BASEPLATE_ALARM < v → u.alarmOn .BASEPLATE_HOT = true) ∧
    (v ≤ s.par .PWR_BASEPLATE_ALARM → u.alarms = s.alarms ∧ u.log = s.log)) ∧
  (s.keep.d0On = true → exec (.keepCounterSave t) s = .next ((s.arrive t).modKeep (fun x => { x with
    wordsA := { optime := (s.arrive t).optime, pcycle := x.pcycle }, wordsB := { optime := (s.arrive t).optime, pcycle := x.pcycle } }))) ∧
  (s.keep.d0On = false → exec (.keepCounterSave t) s = .next (s.arrive t)) ∧
  (s.keep.d0On = true → s.dom 9 = true → (s.vc s.tmu.selVc).present = true →
      (s.keep.tk.time = none ∨ s.keep.tk.at_ + 60000000000 ≤ max s.now t) →
    ∃ u, exec (.timeKeeperCalibrate t) s = .next u ∧ u.keep.tk.time = some (s.arrive t).sel ∧ u.keep.tk.at_ = max s.now t ∧
      u.keep.tk.lastKnown = some (s.arrive t).sel ∧ u = { s.arrive t with keep := { s.keep with tk := u.keep.tk } }) ∧
  ((s.keep.d0On = false ∨ s.dom 9 = false ∨ (s.vc s.tmu.selVc).present = false) → exec (.timeKeeperCalibrate t) s = .next (s.arrive t))

/-- Power-down, the reset input, the cold start and the wakes of KEEP: what is saved, what is powered after, and the unit's start in RESTORE. R297,
R550–R553, R556, R558, R577. The pins: each class is idle where the domain that drives it does not run, and with no domain running every class is; the
terminations of a port open with its power; the links, TX_DIS and the 10 MHz output are driven exactly while D9 runs outside KEEP. R609, R611, R613,
R615. -/
def Obligations.RestartEvents : Prop :=
  (∀ (t x : Nat) (va vb : Rat) (bad : RetainBad) (s : State),
  (s.keep.d0On = true → (if va < vb then vb else va) < 29 / 2 →
    ∃ u, exec (.powerDown t va vb) s = .next u ∧ u.keep.d0On = false ∧ u.keep.powered = 0 ∧ u.keep.coldReady = true ∧
      u.keep.supply.state = 2 ∧ u.red.commanding = false ∧
      u.keep.wordsA = { optime := (s.arrive t).optime, pcycle := s.keep.pcycle } ∧ u.keep.wordsB = u.keep.wordsA) ∧
  ((s.keep.d0On = false ∨ 29 / 2 ≤ (if va < vb then vb else va)) → exec (.powerDown t va vb) s = .next ((s.arrive t).supplyIs va vb)) ∧
  (s.keep.d0On = true → s.keep.resetHeld = none →
    ∃ u, exec (.resetNAssert t) s = .next u ∧ u.keep.resetHeld = some (max s.now t) ∧ u.keep.resetHeldRec = false ∧
      u.red.commanding = false ∧ ∀ d, 1 ≤ d → d ≤ 11 → u.dom d = false) ∧
  ((s.keep.d0On = false ∨ s.keep.resetHeld.isSome = true) → exec (.resetNAssert t) s = .next (s.arrive t)) ∧
  (∀ a, s.keep.resetHeld = some a → a + 30000000000 ≤ max s.now t → s.keep.resetHeldRec = false →
    ∃ u, exec (.resetHeld t) s = .next u ∧ OnlyLog ((s.arrive t).modKeep (fun k => { k with resetHeldRec := true })) u ∧
      u.log.nextSeq = s.log.nextSeq + 1) ∧
  ((s.keep.resetHeld = none ∨ s.keep.resetHeldRec = true) → exec (.resetHeld t) s = .next (s.arrive t)) ∧
  (4 ≤ x → exec (.resetNRelease t x) s = .fault (.noSuchUnit x) ∧ exec (.coldStart t x va vb bad) s = .fault (.noSuchUnit x)) ∧
  (x < 4 → s.keep.d0On = true → s.keep.resetHeld.isSome = true →
    ∃ u, exec (.resetNRelease t x) s = .next u ∧ u.sys.mode = .restore ∧ u.keep.resetHeld = none ∧ u.red.unit = x ∧ u.red.strap = x ∧
      u.keep.resetCause = (if s.sys.mode = .keep then 3 else 2) ∧ u.keep.d0On = true ∧ u.dom 4 = true ∧ u.dom 5 = true ∧
      (s.red.commanding = false ∨ s.dom 3 = true → u.red.commanding = false)) ∧
  (x < 4 → (s.keep.d0On = false ∨ s.keep.resetHeld = none) → exec (.resetNRelease t x) s = .next (s.arrive t)) ∧
  (x < 4 → (if va < vb then vb else va) < 18 → exec (.coldStart t x va vb bad) s = .next ((s.arrive t).supplyIs va vb)) ∧
  (∀ w, x < 4 → 18 ≤ (if va < vb then vb else va) → s.keep.words bad.words = some w →
    ∃ u, exec (.coldStart t x va vb bad) s = .next u ∧ u.sys.mode = .restore ∧ u.keep.d0On = true ∧ u.keep.coldReady = false ∧
      u.keep.supply.state = 0 ∧ u.red.unit = x ∧ u.keep.resetCause = (if s.keep.coldReady then 1 else 0) ∧
      u.keep.pcycle = w.pcycle + 1 ∧ u.keep.tk.time = none ∧ u.keep.optimeBase = (if s.keep.coldReady then w.optime else w.optime + 1000) ∧
      u.keep.wordsA = { optime := u.keep.optimeBase, pcycle := u.keep.pcycle } ∧ u.keep.wordsB = u.keep.wordsA ∧
      u.dom 4 = true ∧ u.dom 5 = true) ∧
  (x < 4 → 18 ≤ (if va < vb then vb else va) → s.keep.words bad.words = none →
    ∃ u, exec (.coldStart t x va vb bad) s = .next u ∧ u.sys.mode = .restore ∧ u.keep.d0On = true ∧ u.alarmOn .KEEP_DATA_LOST = true ∧
      (s.keep.coldReady = true → u.keep.pcycle = s.log.newest.pcycle + 1 ∧ u.keep.optimeBase = s.log.newest.optime + 1) ∧
      u.keep.wordsA = { optime := u.keep.optimeBase, pcycle := u.keep.pcycle } ∧ u.keep.wordsB = u.keep.wordsA) ∧
  (∀ a, s.sys.mode = .keep → s.keep.d0On = true → s.keep.resetHeld = none → s.sat.wake = none → s.parN .SAT_WAKE_INTERVAL ≠ 0 →
      s.sat.nextWake = some a → a ≤ max s.now t →
    ∃ u, exec (.satWake t) s = .next u ∧ u.sat.wake = some (max s.now t) ∧ u.dom 1 = true ∧ u.dom 8 = true ∧ u.dom 9 = true ∧
      u.sat.nextWake = some (max s.now t + s.parN .SAT_WAKE_INTERVAL * 60000000000)) ∧
  ((s.sys.mode ≠ .keep ∨ s.sat.wake.isSome = true ∨ s.sat.nextWake = none) → exec (.satWake t) s = .next (s.arrive t)) ∧
  (∀ a, s.sat.wake = some a → s.sys.mode = .keep → a + s.parNs .SAT_WAKE_TIME ≤ max s.now t →
    ∃ u, exec (.satWakeEnd t) s = .next u ∧ u.sat.wake = none ∧ u.dom 1 = false ∧ u.dom 8 = false ∧ u.dom 9 = false) ∧
  (∀ a, s.sat.wake = some a → max s.now t < a + s.parNs .SAT_WAKE_TIME → max s.now t < a + 20000000000 →
    exec (.satWakeEnd t) s = .next (s.arrive t)) ∧
  (s.sat.wake = none → exec (.satWakeEnd t) s = .next (s.arrive t))) ∧
  (∀ s : State, s.Inv →
  (s.pins.txDisLow = true ↔ s.dom 9 = true ∧ s.sys.mode ≠ .keep) ∧ (s.pins.j9 = true ↔ s.dom 9 = true ∧ s.sys.mode ≠ .keep) ∧
  (s.pins.link = true ↔ s.dom 9 = true ∧ s.sys.mode ≠ .keep) ∧
  (s.dom 10 = false → s.pins.role = false ∧ (∀ p ∈ s.pins.can, p = (false, false)) ∧ (∀ p ∈ s.pins.ser, p = (false, false)) ∧
    ∀ q ∈ s.pins.ao, q = none) ∧
  (∀ n, 1 ≤ n → n ≤ 4 → s.dom 10 = true →
    s.pins.can.getD (n - 1) (false, false) = (decide ((s.port n).state = 2 ∨ (s.port n).state = 3), (s.port n).term)) ∧
  (s.dom 11 = false → ∀ x ∈ s.pins.fio, x = false) ∧
  ((s.dom 4 = false ∨ s.dom 5 = false) → s.pins.testPulse = false ∧ (∀ p ∈ s.pins.sts, p = (false, false)) ∧ ∀ x ∈ s.pins.brk, x = false) ∧
  (s.dom 8 = false → ∀ x ∈ s.pins.bias, x = false) ∧
  ((∀ d, 1 ≤ d → d ≤ 11 → s.dom d = false) → s.pins = Pins.idle s.keepStat))

/-- R555. KEEP_STAT: 0 low while D0 is unpowered or reset has been held for less than 30 s; 4 a pulse every second where reset has been held for 30 s
or more; 3 a pulse every 5 s in KEEP; 2 1 Hz in RESTORE and COMMISSION; 1 high in any other mode. -/
def Obligations.KeepStatPatterns : Prop := ∀ s : State,
  (s.keep.d0On = false → s.keepStat = 0) ∧
  (s.keep.d0On = true → ∀ a, s.keep.resetHeld = some a →
    (s.now < a + 30000000000 → s.keepStat = 0) ∧ (a + 30000000000 ≤ s.now → s.keepStat = 4)) ∧
  (s.keep.d0On = true → s.keep.resetHeld = none →
    (s.sys.mode = .keep → s.keepStat = 3) ∧ ((s.sys.mode = .restore ∨ s.sys.mode = .commission) → s.keepStat = 2) ∧
    ((s.sys.mode = .standby ∨ s.sys.mode = .hold ∨ s.sys.mode = .warden ∨ s.sys.mode = .service ∨ s.sys.mode = .safeStop) → s.keepStat = 1))
end

