-- ==== Sys2Proof/Laws/State.lean ====
section
/-!
SUPPORT. What each named update of the state leaves as it was: one lemma for each field, and for what arrives one for each reading.
-/
namespace Sys2Proof.Machine
variable (s : State)

/-! ### arrive -/

@[simp] theorem State.arrive_pending (t : Nat) : (s.arrive t).pending = s.pending := rfl
@[simp] theorem State.arrive_now (t : Nat) : (s.arrive t).now = max s.now t := rfl
@[simp] theorem State.arrive_free (t : Nat) : (s.arrive t).free = s.free := rfl
@[simp] theorem State.arrive_sent (t : Nat) : (s.arrive t).sent = [] := rfl
@[simp] theorem State.arrive_alarms (t : Nat) : (s.arrive t).alarms = s.alarms := rfl
@[simp] theorem State.arrive_part (t : Nat) : (s.arrive t).part = s.part := rfl
@[simp] theorem State.arrive_dram (t : Nat) : (s.arrive t).dram = s.dram := rfl
@[simp] theorem State.arrive_frame (t : Nat) : (s.arrive t).frame = s.frame := rfl
@[simp] theorem State.arrive_est (t : Nat) : (s.arrive t).est = s.est := rfl
@[simp] theorem State.arrive_hold (t : Nat) : (s.arrive t).hold = s.hold := rfl
@[simp] theorem State.arrive_alc (t : Nat) : (s.arrive t).alc = s.alc := rfl
@[simp] theorem State.arrive_cqa (t : Nat) : (s.arrive t).cqa = s.cqa := rfl
@[simp] theorem State.arrive_hen (t : Nat) : (s.arrive t).hen = s.hen := rfl
@[simp] theorem State.arrive_thr (t : Nat) : (s.arrive t).thr = s.thr := rfl
@[simp] theorem State.arrive_sat (t : Nat) : (s.arrive t).sat = s.sat := rfl
@[simp] theorem State.arrive_tmu (t : Nat) : (s.arrive t).tmu = s.tmu := rfl
@[simp] theorem State.arrive_cmd (t : Nat) : (s.arrive t).cmd = s.cmd := rfl
@[simp] theorem State.arrive_pnt (t : Nat) : (s.arrive t).pnt = s.pnt := rfl
@[simp] theorem State.arrive_red (t : Nat) : (s.arrive t).red = s.red := rfl
@[simp] theorem State.arrive_safe (t : Nat) : (s.arrive t).safe = s.safe := rfl
@[simp] theorem State.arrive_fio (t : Nat) : (s.arrive t).fio = s.fio := rfl
@[simp] theorem State.arrive_bus (t : Nat) : (s.arrive t).bus = s.bus := rfl
@[simp] theorem State.arrive_dma (t : Nat) : (s.arrive t).dma = s.dma := rfl
@[simp] theorem State.arrive_log (t : Nat) : (s.arrive t).log = s.log := rfl
@[simp] theorem State.arrive_keep (t : Nat) : (s.arrive t).keep = s.keep := rfl
@[simp] theorem State.arrive_sys (t : Nat) : (s.arrive t).sys = s.sys := rfl
@[simp] theorem State.arrive_cfg (t : Nat) : (s.arrive t).cfg = s.cfg := rfl

/-! ### emit -/

@[simp] theorem State.emit_pending (e : Emit) : (s.emit e).pending = s.pending := rfl
@[simp] theorem State.emit_now (e : Emit) : (s.emit e).now = s.now := rfl
@[simp] theorem State.emit_free (e : Emit) : (s.emit e).free = s.free := rfl
@[simp] theorem State.emit_sent (e : Emit) : (s.emit e).sent = s.sent ++ [e] := rfl
@[simp] theorem State.emit_alarms (e : Emit) : (s.emit e).alarms = s.alarms := rfl
@[simp] theorem State.emit_part (e : Emit) : (s.emit e).part = s.part := rfl
@[simp] theorem State.emit_dram (e : Emit) : (s.emit e).dram = s.dram := rfl
@[simp] theorem State.emit_frame (e : Emit) : (s.emit e).frame = s.frame := rfl
@[simp] theorem State.emit_est (e : Emit) : (s.emit e).est = s.est := rfl
@[simp] theorem State.emit_hold (e : Emit) : (s.emit e).hold = s.hold := rfl
@[simp] theorem State.emit_alc (e : Emit) : (s.emit e).alc = s.alc := rfl
@[simp] theorem State.emit_cqa (e : Emit) : (s.emit e).cqa = s.cqa := rfl
@[simp] theorem State.emit_hen (e : Emit) : (s.emit e).hen = s.hen := rfl
@[simp] theorem State.emit_thr (e : Emit) : (s.emit e).thr = s.thr := rfl
@[simp] theorem State.emit_sat (e : Emit) : (s.emit e).sat = s.sat := rfl
@[simp] theorem State.emit_tmu (e : Emit) : (s.emit e).tmu = s.tmu := rfl
@[simp] theorem State.emit_cmd (e : Emit) : (s.emit e).cmd = s.cmd := rfl
@[simp] theorem State.emit_pnt (e : Emit) : (s.emit e).pnt = s.pnt := rfl
@[simp] theorem State.emit_red (e : Emit) : (s.emit e).red = s.red := rfl
@[simp] theorem State.emit_safe (e : Emit) : (s.emit e).safe = s.safe := rfl
@[simp] theorem State.emit_fio (e : Emit) : (s.emit e).fio = s.fio := rfl
@[simp] theorem State.emit_bus (e : Emit) : (s.emit e).bus = s.bus := rfl
@[simp] theorem State.emit_dma (e : Emit) : (s.emit e).dma = s.dma := rfl
@[simp] theorem State.emit_log (e : Emit) : (s.emit e).log = s.log := rfl
@[simp] theorem State.emit_keep (e : Emit) : (s.emit e).keep = s.keep := rfl
@[simp] theorem State.emit_sys (e : Emit) : (s.emit e).sys = s.sys := rfl
@[simp] theorem State.emit_cfg (e : Emit) : (s.emit e).cfg = s.cfg := rfl

/-! ### setDom -/

@[simp] theorem State.setDom_pending (d : Nat) (b : Bool) : (s.setDom d b).pending = s.pending := rfl
@[simp] theorem State.setDom_now (d : Nat) (b : Bool) : (s.setDom d b).now = s.now := rfl
@[simp] theorem State.setDom_free (d : Nat) (b : Bool) : (s.setDom d b).free = s.free := rfl
@[simp] theorem State.setDom_sent (d : Nat) (b : Bool) : (s.setDom d b).sent = s.sent := rfl
@[simp] theorem State.setDom_alarms (d : Nat) (b : Bool) : (s.setDom d b).alarms = s.alarms := rfl
@[simp] theorem State.setDom_part (d : Nat) (b : Bool) : (s.setDom d b).part = s.part := rfl
@[simp] theorem State.setDom_dram (d : Nat) (b : Bool) : (s.setDom d b).dram = s.dram := rfl
@[simp] theorem State.setDom_frame (d : Nat) (b : Bool) : (s.setDom d b).frame = s.frame := rfl
@[simp] theorem State.setDom_est (d : Nat) (b : Bool) : (s.setDom d b).est = s.est := rfl
@[simp] theorem State.setDom_hold (d : Nat) (b : Bool) : (s.setDom d b).hold = s.hold := rfl
@[simp] theorem State.setDom_alc (d : Nat) (b : Bool) : (s.setDom d b).alc = s.alc := rfl
@[simp] theorem State.setDom_cqa (d : Nat) (b : Bool) : (s.setDom d b).cqa = s.cqa := rfl
@[simp] theorem State.setDom_hen (d : Nat) (b : Bool) : (s.setDom d b).hen = s.hen := rfl
@[simp] theorem State.setDom_thr (d : Nat) (b : Bool) : (s.setDom d b).thr = s.thr := rfl
@[simp] theorem State.setDom_sat (d : Nat) (b : Bool) : (s.setDom d b).sat = s.sat := rfl
@[simp] theorem State.setDom_tmu (d : Nat) (b : Bool) : (s.setDom d b).tmu = s.tmu := rfl
@[simp] theorem State.setDom_cmd (d : Nat) (b : Bool) : (s.setDom d b).cmd = s.cmd := rfl
@[simp] theorem State.setDom_pnt (d : Nat) (b : Bool) : (s.setDom d b).pnt = s.pnt := rfl
@[simp] theorem State.setDom_red (d : Nat) (b : Bool) : (s.setDom d b).red = s.red := rfl
@[simp] theorem State.setDom_safe (d : Nat) (b : Bool) : (s.setDom d b).safe = s.safe := rfl
@[simp] theorem State.setDom_fio (d : Nat) (b : Bool) : (s.setDom d b).fio = s.fio := rfl
@[simp] theorem State.setDom_bus (d : Nat) (b : Bool) : (s.setDom d b).bus = s.bus := rfl
@[simp] theorem State.setDom_dma (d : Nat) (b : Bool) : (s.setDom d b).dma = s.dma := rfl
@[simp] theorem State.setDom_log (d : Nat) (b : Bool) : (s.setDom d b).log = s.log := rfl
@[simp] theorem State.setDom_sys (d : Nat) (b : Bool) : (s.setDom d b).sys = s.sys := rfl
@[simp] theorem State.setDom_cfg (d : Nat) (b : Bool) : (s.setDom d b).cfg = s.cfg := rfl

/-! ### putVc -/

@[simp] theorem State.putVc_pending (n : Nat) (v : VcSt) : (s.putVc n v).pending = s.pending := by unfold State.putVc; split <;> rfl
@[simp] theorem State.putVc_now (n : Nat) (v : VcSt) : (s.putVc n v).now = s.now := by unfold State.putVc; split <;> rfl
@[simp] theorem State.putVc_free (n : Nat) (v : VcSt) : (s.putVc n v).free = s.free := by unfold State.putVc; split <;> rfl
@[simp] theorem State.putVc_sent (n : Nat) (v : VcSt) : (s.putVc n v).sent = s.sent := by unfold State.putVc; split <;> rfl
@[simp] theorem State.putVc_alarms (n : Nat) (v : VcSt) : (s.putVc n v).alarms = s.alarms := by unfold State.putVc; split <;> rfl
@[simp] theorem State.putVc_part (n : Nat) (v : VcSt) : (s.putVc n v).part = s.part := by unfold State.putVc; split <;> rfl
@[simp] theorem State.putVc_dram (n : Nat) (v : VcSt) : (s.putVc n v).dram = s.dram := by unfold State.putVc; split <;> rfl
@[simp] theorem State.putVc_frame (n : Nat) (v : VcSt) : (s.putVc n v).frame = s.frame := by unfold State.putVc; split <;> rfl
@[simp] theorem State.putVc_est (n : Nat) (v : VcSt) : (s.putVc n v).est = s.est := by unfold State.putVc; split <;> rfl
@[simp] theorem State.putVc_hold (n : Nat) (v : VcSt) : (s.putVc n v).hold = s.hold := by unfold State.putVc; split <;> rfl
@[simp] theorem State.putVc_alc (n : Nat) (v : VcSt) : (s.putVc n v).alc = s.alc := by unfold State.putVc; split <;> rfl
@[simp] theorem State.putVc_cqa (n : Nat) (v : VcSt) : (s.putVc n v).cqa = s.cqa := by unfold State.putVc; split <;> rfl
@[simp] theorem State.putVc_hen (n : Nat) (v : VcSt) : (s.putVc n v).hen = s.hen := by unfold State.putVc; split <;> rfl
@[simp] theorem State.putVc_thr (n : Nat) (v : VcSt) : (s.putVc n v).thr = s.thr := by unfold State.putVc; split <;> rfl
@[simp] theorem State.putVc_sat (n : Nat) (v : VcSt) : (s.putVc n v).sat = s.sat := by unfold State.putVc; split <;> rfl
@[simp] theorem State.putVc_cmd (n : Nat) (v : VcSt) : (s.putVc n v).cmd = s.cmd := by unfold State.putVc; split <;> rfl
@[simp] theorem State.putVc_pnt (n : Nat) (v : VcSt) : (s.putVc n v).pnt = s.pnt := by unfold State.putVc; split <;> rfl
@[simp] theorem State.putVc_red (n : Nat) (v : VcSt) : (s.putVc n v).red = s.red := by unfold State.putVc; split <;> rfl
@[simp] theorem State.putVc_safe (n : Nat) (v : VcSt) : (s.putVc n v).safe = s.safe := by unfold State.putVc; split <;> rfl
@[simp] theorem State.putVc_fio (n : Nat) (v : VcSt) : (s.putVc n v).fio = s.fio := by unfold State.putVc; split <;> rfl
@[simp] theorem State.putVc_bus (n : Nat) (v : VcSt) : (s.putVc n v).bus = s.bus := by unfold State.putVc; split <;> rfl
@[simp] theorem State.putVc_dma (n : Nat) (v : VcSt) : (s.putVc n v).dma = s.dma := by unfold State.putVc; split <;> rfl
@[simp] theorem State.putVc_log (n : Nat) (v : VcSt) : (s.putVc n v).log = s.log := by unfold State.putVc; split <;> rfl
@[simp] theorem State.putVc_keep (n : Nat) (v : VcSt) : (s.putVc n v).keep = s.keep := by unfold State.putVc; split <;> rfl
@[simp] theorem State.putVc_sys (n : Nat) (v : VcSt) : (s.putVc n v).sys = s.sys := by unfold State.putVc; split <;> rfl
@[simp] theorem State.putVc_cfg (n : Nat) (v : VcSt) : (s.putVc n v).cfg = s.cfg := by unfold State.putVc; split <;> rfl

/-! ### setVc -/

@[simp] theorem State.setVc_pending (n : Nat) (v : VcSt) : (s.setVc n v).pending = s.pending := by unfold State.setVc; dsimp only; split <;> simp
@[simp] theorem State.setVc_now (n : Nat) (v : VcSt) : (s.setVc n v).now = s.now := by unfold State.setVc; dsimp only; split <;> simp
@[simp] theorem State.setVc_free (n : Nat) (v : VcSt) : (s.setVc n v).free = s.free := by unfold State.setVc; dsimp only; split <;> simp
@[simp] theorem State.setVc_sent (n : Nat) (v : VcSt) : (s.setVc n v).sent = s.sent := by unfold State.setVc; dsimp only; split <;> simp
@[simp] theorem State.setVc_alarms (n : Nat) (v : VcSt) : (s.setVc n v).alarms = s.alarms := by unfold State.setVc; dsimp only; split <;> simp
@[simp] theorem State.setVc_part (n : Nat) (v : VcSt) : (s.setVc n v).part = s.part := by unfold State.setVc; dsimp only; split <;> simp
@[simp] theorem State.setVc_dram (n : Nat) (v : VcSt) : (s.setVc n v).dram = s.dram := by unfold State.setVc; dsimp only; split <;> simp
@[simp] theorem State.setVc_frame (n : Nat) (v : VcSt) : (s.setVc n v).frame = s.frame := by unfold State.setVc; dsimp only; split <;> simp
@[simp] theorem State.setVc_est (n : Nat) (v : VcSt) : (s.setVc n v).est = s.est := by unfold State.setVc; dsimp only; split <;> simp
@[simp] theorem State.setVc_hold (n : Nat) (v : VcSt) : (s.setVc n v).hold = s.hold := by unfold State.setVc; dsimp only; split <;> simp
@[simp] theorem State.setVc_alc (n : Nat) (v : VcSt) : (s.setVc n v).alc = s.alc := by unfold State.setVc; dsimp only; split <;> simp
@[simp] theorem State.setVc_cqa (n : Nat) (v : VcSt) : (s.setVc n v).cqa = s.cqa := by unfold State.setVc; dsimp only; split <;> simp
@[simp] theorem State.setVc_hen (n : Nat) (v : VcSt) : (s.setVc n v).hen = s.hen := by unfold State.setVc; dsimp only; split <;> simp
@[simp] theorem State.setVc_thr (n : Nat) (v : VcSt) : (s.setVc n v).thr = s.thr := by unfold State.setVc; dsimp only; split <;> simp
@[simp] theorem State.setVc_sat (n : Nat) (v : VcSt) : (s.setVc n v).sat = s.sat := by unfold State.setVc; dsimp only; split <;> simp
@[simp] theorem State.setVc_cmd (n : Nat) (v : VcSt) : (s.setVc n v).cmd = s.cmd := by unfold State.setVc; dsimp only; split <;> simp
@[simp] theorem State.setVc_pnt (n : Nat) (v : VcSt) : (s.setVc n v).pnt = s.pnt := by unfold State.setVc; dsimp only; split <;> simp
@[simp] theorem State.setVc_red (n : Nat) (v : VcSt) : (s.setVc n v).red = s.red := by unfold State.setVc; dsimp only; split <;> simp
@[simp] theorem State.setVc_safe (n : Nat) (v : VcSt) : (s.setVc n v).safe = s.safe := by unfold State.setVc; dsimp only; split <;> simp
@[simp] theorem State.setVc_fio (n : Nat) (v : VcSt) : (s.setVc n v).fio = s.fio := by unfold State.setVc; dsimp only; split <;> simp
@[simp] theorem State.setVc_bus (n : Nat) (v : VcSt) : (s.setVc n v).bus = s.bus := by unfold State.setVc; dsimp only; split <;> simp
@[simp] theorem State.setVc_dma (n : Nat) (v : VcSt) : (s.setVc n v).dma = s.dma := by unfold State.setVc; dsimp only; split <;> simp
@[simp] theorem State.setVc_log (n : Nat) (v : VcSt) : (s.setVc n v).log = s.log := by unfold State.setVc; dsimp only; split <;> simp
@[simp] theorem State.setVc_keep (n : Nat) (v : VcSt) : (s.setVc n v).keep = s.keep := by unfold State.setVc; dsimp only; split <;> simp
@[simp] theorem State.setVc_sys (n : Nat) (v : VcSt) : (s.setVc n v).sys = s.sys := by unfold State.setVc; dsimp only; split <;> simp
@[simp] theorem State.setVc_cfg (n : Nat) (v : VcSt) : (s.setVc n v).cfg = s.cfg := by unfold State.setVc; dsimp only; split <;> simp

/-! ### modAch -/

@[simp] theorem State.modAch_pending (c : Nat) (f : AlcChan → AlcChan) : (s.modAch c f).pending = s.pending := rfl
@[simp] theorem State.modAch_now (c : Nat) (f : AlcChan → AlcChan) : (s.modAch c f).now = s.now := rfl
@[simp] theorem State.modAch_free (c : Nat) (f : AlcChan → AlcChan) : (s.modAch c f).free = s.free := rfl
@[simp] theorem State.modAch_sent (c : Nat) (f : AlcChan → AlcChan) : (s.modAch c f).sent = s.sent := rfl
@[simp] theorem State.modAch_alarms (c : Nat) (f : AlcChan → AlcChan) : (s.modAch c f).alarms = s.alarms := rfl
@[simp] theorem State.modAch_part (c : Nat) (f : AlcChan → AlcChan) : (s.modAch c f).part = s.part := rfl
@[simp] theorem State.modAch_dram (c : Nat) (f : AlcChan → AlcChan) : (s.modAch c f).dram = s.dram := rfl
@[simp] theorem State.modAch_frame (c : Nat) (f : AlcChan → AlcChan) : (s.modAch c f).frame = s.frame := rfl
@[simp] theorem State.modAch_est (c : Nat) (f : AlcChan → AlcChan) : (s.modAch c f).est = s.est := rfl
@[simp] theorem State.modAch_hold (c : Nat) (f : AlcChan → AlcChan) : (s.modAch c f).hold = s.hold := rfl
@[simp] theorem State.modAch_cqa (c : Nat) (f : AlcChan → AlcChan) : (s.modAch c f).cqa = s.cqa := rfl
@[simp] theorem State.modAch_hen (c : Nat) (f : AlcChan → AlcChan) : (s.modAch c f).hen = s.hen := rfl
@[simp] theorem State.modAch_thr (c : Nat) (f : AlcChan → AlcChan) : (s.modAch c f).thr = s.thr := rfl
@[simp] theorem State.modAch_sat (c : Nat) (f : AlcChan → AlcChan) : (s.modAch c f).sat = s.sat := rfl
@[simp] theorem State.modAch_tmu (c : Nat) (f : AlcChan → AlcChan) : (s.modAch c f).tmu = s.tmu := rfl
@[simp] theorem State.modAch_cmd (c : Nat) (f : AlcChan → AlcChan) : (s.modAch c f).cmd = s.cmd := rfl
@[simp] theorem State.modAch_pnt (c : Nat) (f : AlcChan → AlcChan) : (s.modAch c f).pnt = s.pnt := rfl
@[simp] theorem State.modAch_red (c : Nat) (f : AlcChan → AlcChan) : (s.modAch c f).red = s.red := rfl
@[simp] theorem State.modAch_safe (c : Nat) (f : AlcChan → AlcChan) : (s.modAch c f).safe = s.safe := rfl
@[simp] theorem State.modAch_fio (c : Nat) (f : AlcChan → AlcChan) : (s.modAch c f).fio = s.fio := rfl
@[simp] theorem State.modAch_bus (c : Nat) (f : AlcChan → AlcChan) : (s.modAch c f).bus = s.bus := rfl
@[simp] theorem State.modAch_dma (c : Nat) (f : AlcChan → AlcChan) : (s.modAch c f).dma = s.dma := rfl
@[simp] theorem State.modAch_log (c : Nat) (f : AlcChan → AlcChan) : (s.modAch c f).log = s.log := rfl
@[simp] theorem State.modAch_keep (c : Nat) (f : AlcChan → AlcChan) : (s.modAch c f).keep = s.keep := rfl
@[simp] theorem State.modAch_sys (c : Nat) (f : AlcChan → AlcChan) : (s.modAch c f).sys = s.sys := rfl
@[simp] theorem State.modAch_cfg (c : Nat) (f : AlcChan → AlcChan) : (s.modAch c f).cfg = s.cfg := rfl

/-! ### modSect -/

@[simp] theorem State.modSect_pending (c : Nat) (f : PwrSection → PwrSection) : (s.modSect c f).pending = s.pending := rfl
@[simp] theorem State.modSect_now (c : Nat) (f : PwrSection → PwrSection) : (s.modSect c f).now = s.now := rfl
@[simp] theorem State.modSect_free (c : Nat) (f : PwrSection → PwrSection) : (s.modSect c f).free = s.free := rfl
@[simp] theorem State.modSect_sent (c : Nat) (f : PwrSection → PwrSection) : (s.modSect c f).sent = s.sent := rfl
@[simp] theorem State.modSect_alarms (c : Nat) (f : PwrSection → PwrSection) : (s.modSect c f).alarms = s.alarms := rfl
@[simp] theorem State.modSect_part (c : Nat) (f : PwrSection → PwrSection) : (s.modSect c f).part = s.part := rfl
@[simp] theorem State.modSect_dram (c : Nat) (f : PwrSection → PwrSection) : (s.modSect c f).dram = s.dram := rfl
@[simp] theorem State.modSect_frame (c : Nat) (f : PwrSection → PwrSection) : (s.modSect c f).frame = s.frame := rfl
@[simp] theorem State.modSect_est (c : Nat) (f : PwrSection → PwrSection) : (s.modSect c f).est = s.est := rfl
@[simp] theorem State.modSect_hold (c : Nat) (f : PwrSection → PwrSection) : (s.modSect c f).hold = s.hold := rfl
@[simp] theorem State.modSect_cqa (c : Nat) (f : PwrSection → PwrSection) : (s.modSect c f).cqa = s.cqa := rfl
@[simp] theorem State.modSect_hen (c : Nat) (f : PwrSection → PwrSection) : (s.modSect c f).hen = s.hen := rfl
@[simp] theorem State.modSect_thr (c : Nat) (f : PwrSection → PwrSection) : (s.modSect c f).thr = s.thr := rfl
@[simp] theorem State.modSect_sat (c : Nat) (f : PwrSection → PwrSection) : (s.modSect c f).sat = s.sat := rfl
@[simp] theorem State.modSect_tmu (c : Nat) (f : PwrSection → PwrSection) : (s.modSect c f).tmu = s.tmu := rfl
@[simp] theorem State.modSect_cmd (c : Nat) (f : PwrSection → PwrSection) : (s.modSect c f).cmd = s.cmd := rfl
@[simp] theorem State.modSect_pnt (c : Nat) (f : PwrSection → PwrSection) : (s.modSect c f).pnt = s.pnt := rfl
@[simp] theorem State.modSect_red (c : Nat) (f : PwrSection → PwrSection) : (s.modSect c f).red = s.red := rfl
@[simp] theorem State.modSect_safe (c : Nat) (f : PwrSection → PwrSection) : (s.modSect c f).safe = s.safe := rfl
@[simp] theorem State.modSect_fio (c : Nat) (f : PwrSection → PwrSection) : (s.modSect c f).fio = s.fio := rfl
@[simp] theorem State.modSect_bus (c : Nat) (f : PwrSection → PwrSection) : (s.modSect c f).bus = s.bus := rfl
@[simp] theorem State.modSect_dma (c : Nat) (f : PwrSection → PwrSection) : (s.modSect c f).dma = s.dma := rfl
@[simp] theorem State.modSect_log (c : Nat) (f : PwrSection → PwrSection) : (s.modSect c f).log = s.log := rfl
@[simp] theorem State.modSect_keep (c : Nat) (f : PwrSection → PwrSection) : (s.modSect c f).keep = s.keep := rfl
@[simp] theorem State.modSect_sys (c : Nat) (f : PwrSection → PwrSection) : (s.modSect c f).sys = s.sys := rfl
@[simp] theorem State.modSect_cfg (c : Nat) (f : PwrSection → PwrSection) : (s.modSect c f).cfg = s.cfg := rfl

/-! ### modSer -/

@[simp] theorem State.modSer_pending (c : Nat) (f : SerPort → SerPort) : (s.modSer c f).pending = s.pending := rfl
@[simp] theorem State.modSer_now (c : Nat) (f : SerPort → SerPort) : (s.modSer c f).now = s.now := rfl
@[simp] theorem State.modSer_free (c : Nat) (f : SerPort → SerPort) : (s.modSer c f).free = s.free := rfl
@[simp] theorem State.modSer_sent (c : Nat) (f : SerPort → SerPort) : (s.modSer c f).sent = s.sent := rfl
@[simp] theorem State.modSer_alarms (c : Nat) (f : SerPort → SerPort) : (s.modSer c f).alarms = s.alarms := rfl
@[simp] theorem State.modSer_part (c : Nat) (f : SerPort → SerPort) : (s.modSer c f).part = s.part := rfl
@[simp] theorem State.modSer_dram (c : Nat) (f : SerPort → SerPort) : (s.modSer c f).dram = s.dram := rfl
@[simp] theorem State.modSer_frame (c : Nat) (f : SerPort → SerPort) : (s.modSer c f).frame = s.frame := rfl
@[simp] theorem State.modSer_est (c : Nat) (f : SerPort → SerPort) : (s.modSer c f).est = s.est := rfl
@[simp] theorem State.modSer_hold (c : Nat) (f : SerPort → SerPort) : (s.modSer c f).hold = s.hold := rfl
@[simp] theorem State.modSer_alc (c : Nat) (f : SerPort → SerPort) : (s.modSer c f).alc = s.alc := rfl
@[simp] theorem State.modSer_cqa (c : Nat) (f : SerPort → SerPort) : (s.modSer c f).cqa = s.cqa := rfl
@[simp] theorem State.modSer_hen (c : Nat) (f : SerPort → SerPort) : (s.modSer c f).hen = s.hen := rfl
@[simp] theorem State.modSer_thr (c : Nat) (f : SerPort → SerPort) : (s.modSer c f).thr = s.thr := rfl
@[simp] theorem State.modSer_sat (c : Nat) (f : SerPort → SerPort) : (s.modSer c f).sat = s.sat := rfl
@[simp] theorem State.modSer_tmu (c : Nat) (f : SerPort → SerPort) : (s.modSer c f).tmu = s.tmu := rfl
@[simp] theorem State.modSer_cmd (c : Nat) (f : SerPort → SerPort) : (s.modSer c f).cmd = s.cmd := rfl
@[simp] theorem State.modSer_pnt (c : Nat) (f : SerPort → SerPort) : (s.modSer c f).pnt = s.pnt := rfl
@[simp] theorem State.modSer_red (c : Nat) (f : SerPort → SerPort) : (s.modSer c f).red = s.red := rfl
@[simp] theorem State.modSer_safe (c : Nat) (f : SerPort → SerPort) : (s.modSer c f).safe = s.safe := rfl
@[simp] theorem State.modSer_fio (c : Nat) (f : SerPort → SerPort) : (s.modSer c f).fio = s.fio := rfl
@[simp] theorem State.modSer_dma (c : Nat) (f : SerPort → SerPort) : (s.modSer c f).dma = s.dma := rfl
@[simp] theorem State.modSer_log (c : Nat) (f : SerPort → SerPort) : (s.modSer c f).log = s.log := rfl
@[simp] theorem State.modSer_keep (c : Nat) (f : SerPort → SerPort) : (s.modSer c f).keep = s.keep := rfl
@[simp] theorem State.modSer_sys (c : Nat) (f : SerPort → SerPort) : (s.modSer c f).sys = s.sys := rfl
@[simp] theorem State.modSer_cfg (c : Nat) (f : SerPort → SerPort) : (s.modSer c f).cfg = s.cfg := rfl

/-! ### modPort -/

@[simp] theorem State.modPort_pending (c : Nat) (f : CanPort → CanPort) : (s.modPort c f).pending = s.pending := rfl
@[simp] theorem State.modPort_now (c : Nat) (f : CanPort → CanPort) : (s.modPort c f).now = s.now := rfl
@[simp] theorem State.modPort_free (c : Nat) (f : CanPort → CanPort) : (s.modPort c f).free = s.free := rfl
@[simp] theorem State.modPort_sent (c : Nat) (f : CanPort → CanPort) : (s.modPort c f).sent = s.sent := rfl
@[simp] theorem State.modPort_alarms (c : Nat) (f : CanPort → CanPort) : (s.modPort c f).alarms = s.alarms := rfl
@[simp] theorem State.modPort_part (c : Nat) (f : CanPort → CanPort) : (s.modPort c f).part = s.part := rfl
@[simp] theorem State.modPort_dram (c : Nat) (f : CanPort → CanPort) : (s.modPort c f).dram = s.dram := rfl
@[simp] theorem State.modPort_frame (c : Nat) (f : CanPort → CanPort) : (s.modPort c f).frame = s.frame := rfl
@[simp] theorem State.modPort_est (c : Nat) (f : CanPort → CanPort) : (s.modPort c f).est = s.est := rfl
@[simp] theorem State.modPort_hold (c : Nat) (f : CanPort → CanPort) : (s.modPort c f).hold = s.hold := rfl
@[simp] theorem State.modPort_alc (c : Nat) (f : CanPort → CanPort) : (s.modPort c f).alc = s.alc := rfl
@[simp] theorem State.modPort_cqa (c : Nat) (f : CanPort → CanPort) : (s.modPort c f).cqa = s.cqa := rfl
@[simp] theorem State.modPort_hen (c : Nat) (f : CanPort → CanPort) : (s.modPort c f).hen = s.hen := rfl
@[simp] theorem State.modPort_thr (c : Nat) (f : CanPort → CanPort) : (s.modPort c f).thr = s.thr := rfl
@[simp] theorem State.modPort_sat (c : Nat) (f : CanPort → CanPort) : (s.modPort c f).sat = s.sat := rfl
@[simp] theorem State.modPort_tmu (c : Nat) (f : CanPort → CanPort) : (s.modPort c f).tmu = s.tmu := rfl
@[simp] theorem State.modPort_cmd (c : Nat) (f : CanPort → CanPort) : (s.modPort c f).cmd = s.cmd := rfl
@[simp] theorem State.modPort_pnt (c : Nat) (f : CanPort → CanPort) : (s.modPort c f).pnt = s.pnt := rfl
@[simp] theorem State.modPort_red (c : Nat) (f : CanPort → CanPort) : (s.modPort c f).red = s.red := rfl
@[simp] theorem State.modPort_safe (c : Nat) (f : CanPort → CanPort) : (s.modPort c f).safe = s.safe := rfl
@[simp] theorem State.modPort_fio (c : Nat) (f : CanPort → CanPort) : (s.modPort c f).fio = s.fio := rfl
@[simp] theorem State.modPort_dma (c : Nat) (f : CanPort → CanPort) : (s.modPort c f).dma = s.dma := rfl
@[simp] theorem State.modPort_log (c : Nat) (f : CanPort → CanPort) : (s.modPort c f).log = s.log := rfl
@[simp] theorem State.modPort_keep (c : Nat) (f : CanPort → CanPort) : (s.modPort c f).keep = s.keep := rfl
@[simp] theorem State.modPort_sys (c : Nat) (f : CanPort → CanPort) : (s.modPort c f).sys = s.sys := rfl
@[simp] theorem State.modPort_cfg (c : Nat) (f : CanPort → CanPort) : (s.modPort c f).cfg = s.cfg := rfl

/-! ### modBox -/

@[simp] theorem State.modBox_pending (c i : Nat) (f : Mailbox → Mailbox) : (s.modBox c i f).pending = s.pending := rfl
@[simp] theorem State.modBox_now (c i : Nat) (f : Mailbox → Mailbox) : (s.modBox c i f).now = s.now := rfl
@[simp] theorem State.modBox_free (c i : Nat) (f : Mailbox → Mailbox) : (s.modBox c i f).free = s.free := rfl
@[simp] theorem State.modBox_sent (c i : Nat) (f : Mailbox → Mailbox) : (s.modBox c i f).sent = s.sent := rfl
@[simp] theorem State.modBox_alarms (c i : Nat) (f : Mailbox → Mailbox) : (s.modBox c i f).alarms = s.alarms := rfl
@[simp] theorem State.modBox_part (c i : Nat) (f : Mailbox → Mailbox) : (s.modBox c i f).part = s.part := rfl
@[simp] theorem State.modBox_dram (c i : Nat) (f : Mailbox → Mailbox) : (s.modBox c i f).dram = s.dram := rfl
@[simp] theorem State.modBox_frame (c i : Nat) (f : Mailbox → Mailbox) : (s.modBox c i f).frame = s.frame := rfl
@[simp] theorem State.modBox_est (c i : Nat) (f : Mailbox → Mailbox) : (s.modBox c i f).est = s.est := rfl
@[simp] theorem State.modBox_hold (c i : Nat) (f : Mailbox → Mailbox) : (s.modBox c i f).hold = s.hold := rfl
@[simp] theorem State.modBox_alc (c i : Nat) (f : Mailbox → Mailbox) : (s.modBox c i f).alc = s.alc := rfl
@[simp] theorem State.modBox_cqa (c i : Nat) (f : Mailbox → Mailbox) : (s.modBox c i f).cqa = s.cqa := rfl
@[simp] theorem State.modBox_hen (c i : Nat) (f : Mailbox → Mailbox) : (s.modBox c i f).hen = s.hen := rfl
@[simp] theorem State.modBox_thr (c i : Nat) (f : Mailbox → Mailbox) : (s.modBox c i f).thr = s.thr := rfl
@[simp] theorem State.modBox_sat (c i : Nat) (f : Mailbox → Mailbox) : (s.modBox c i f).sat = s.sat := rfl
@[simp] theorem State.modBox_tmu (c i : Nat) (f : Mailbox → Mailbox) : (s.modBox c i f).tmu = s.tmu := rfl
@[simp] theorem State.modBox_cmd (c i : Nat) (f : Mailbox → Mailbox) : (s.modBox c i f).cmd = s.cmd := rfl
@[simp] theorem State.modBox_pnt (c i : Nat) (f : Mailbox → Mailbox) : (s.modBox c i f).pnt = s.pnt := rfl
@[simp] theorem State.modBox_red (c i : Nat) (f : Mailbox → Mailbox) : (s.modBox c i f).red = s.red := rfl
@[simp] theorem State.modBox_safe (c i : Nat) (f : Mailbox → Mailbox) : (s.modBox c i f).safe = s.safe := rfl
@[simp] theorem State.modBox_fio (c i : Nat) (f : Mailbox → Mailbox) : (s.modBox c i f).fio = s.fio := rfl
@[simp] theorem State.modBox_dma (c i : Nat) (f : Mailbox → Mailbox) : (s.modBox c i f).dma = s.dma := rfl
@[simp] theorem State.modBox_log (c i : Nat) (f : Mailbox → Mailbox) : (s.modBox c i f).log = s.log := rfl
@[simp] theorem State.modBox_keep (c i : Nat) (f : Mailbox → Mailbox) : (s.modBox c i f).keep = s.keep := rfl
@[simp] theorem State.modBox_sys (c i : Nat) (f : Mailbox → Mailbox) : (s.modBox c i f).sys = s.sys := rfl
@[simp] theorem State.modBox_cfg (c i : Nat) (f : Mailbox → Mailbox) : (s.modBox c i f).cfg = s.cfg := rfl

/-! ### modSess -/

@[simp] theorem State.modSess_pending (c : Nat) (f : Session → Session) : (s.modSess c f).pending = s.pending := rfl
@[simp] theorem State.modSess_now (c : Nat) (f : Session → Session) : (s.modSess c f).now = s.now := rfl
@[simp] theorem State.modSess_free (c : Nat) (f : Session → Session) : (s.modSess c f).free = s.free := rfl
@[simp] theorem State.modSess_sent (c : Nat) (f : Session → Session) : (s.modSess c f).sent = s.sent := rfl
@[simp] theorem State.modSess_alarms (c : Nat) (f : Session → Session) : (s.modSess c f).alarms = s.alarms := rfl
@[simp] theorem State.modSess_part (c : Nat) (f : Session → Session) : (s.modSess c f).part = s.part := rfl
@[simp] theorem State.modSess_dram (c : Nat) (f : Session → Session) : (s.modSess c f).dram = s.dram := rfl
@[simp] theorem State.modSess_frame (c : Nat) (f : Session → Session) : (s.modSess c f).frame = s.frame := rfl
@[simp] theorem State.modSess_est (c : Nat) (f : Session → Session) : (s.modSess c f).est = s.est := rfl
@[simp] theorem State.modSess_hold (c : Nat) (f : Session → Session) : (s.modSess c f).hold = s.hold := rfl
@[simp] theorem State.modSess_alc (c : Nat) (f : Session → Session) : (s.modSess c f).alc = s.alc := rfl
@[simp] theorem State.modSess_cqa (c : Nat) (f : Session → Session) : (s.modSess c f).cqa = s.cqa := rfl
@[simp] theorem State.modSess_hen (c : Nat) (f : Session → Session) : (s.modSess c f).hen = s.hen := rfl
@[simp] theorem State.modSess_thr (c : Nat) (f : Session → Session) : (s.modSess c f).thr = s.thr := rfl
@[simp] theorem State.modSess_sat (c : Nat) (f : Session → Session) : (s.modSess c f).sat = s.sat := rfl
@[simp] theorem State.modSess_tmu (c : Nat) (f : Session → Session) : (s.modSess c f).tmu = s.tmu := rfl
@[simp] theorem State.modSess_pnt (c : Nat) (f : Session → Session) : (s.modSess c f).pnt = s.pnt := rfl
@[simp] theorem State.modSess_red (c : Nat) (f : Session → Session) : (s.modSess c f).red = s.red := rfl
@[simp] theorem State.modSess_safe (c : Nat) (f : Session → Session) : (s.modSess c f).safe = s.safe := rfl
@[simp] theorem State.modSess_fio (c : Nat) (f : Session → Session) : (s.modSess c f).fio = s.fio := rfl
@[simp] theorem State.modSess_bus (c : Nat) (f : Session → Session) : (s.modSess c f).bus = s.bus := rfl
@[simp] theorem State.modSess_dma (c : Nat) (f : Session → Session) : (s.modSess c f).dma = s.dma := rfl
@[simp] theorem State.modSess_log (c : Nat) (f : Session → Session) : (s.modSess c f).log = s.log := rfl
@[simp] theorem State.modSess_keep (c : Nat) (f : Session → Session) : (s.modSess c f).keep = s.keep := rfl
@[simp] theorem State.modSess_sys (c : Nat) (f : Session → Session) : (s.modSess c f).sys = s.sys := rfl
@[simp] theorem State.modSess_cfg (c : Nat) (f : Session → Session) : (s.modSess c f).cfg = s.cfg := rfl

/-! ### modEntry -/

@[simp] theorem State.modEntry_pending (c : Nat) (f : JEntry → JEntry) : (s.modEntry c f).pending = s.pending := rfl
@[simp] theorem State.modEntry_now (c : Nat) (f : JEntry → JEntry) : (s.modEntry c f).now = s.now := rfl
@[simp] theorem State.modEntry_free (c : Nat) (f : JEntry → JEntry) : (s.modEntry c f).free = s.free := rfl
@[simp] theorem State.modEntry_sent (c : Nat) (f : JEntry → JEntry) : (s.modEntry c f).sent = s.sent := rfl
@[simp] theorem State.modEntry_alarms (c : Nat) (f : JEntry → JEntry) : (s.modEntry c f).alarms = s.alarms := rfl
@[simp] theorem State.modEntry_part (c : Nat) (f : JEntry → JEntry) : (s.modEntry c f).part = s.part := rfl
@[simp] theorem State.modEntry_dram (c : Nat) (f : JEntry → JEntry) : (s.modEntry c f).dram = s.dram := rfl
@[simp] theorem State.modEntry_frame (c : Nat) (f : JEntry → JEntry) : (s.modEntry c f).frame = s.frame := rfl
@[simp] theorem State.modEntry_est (c : Nat) (f : JEntry → JEntry) : (s.modEntry c f).est = s.est := rfl
@[simp] theorem State.modEntry_hold (c : Nat) (f : JEntry → JEntry) : (s.modEntry c f).hold = s.hold := rfl
@[simp] theorem State.modEntry_alc (c : Nat) (f : JEntry → JEntry) : (s.modEntry c f).alc = s.alc := rfl
@[simp] theorem State.modEntry_cqa (c : Nat) (f : JEntry → JEntry) : (s.modEntry c f).cqa = s.cqa := rfl
@[simp] theorem State.modEntry_hen (c : Nat) (f : JEntry → JEntry) : (s.modEntry c f).hen = s.hen := rfl
@[simp] theorem State.modEntry_thr (c : Nat) (f : JEntry → JEntry) : (s.modEntry c f).thr = s.thr := rfl
@[simp] theorem State.modEntry_sat (c : Nat) (f : JEntry → JEntry) : (s.modEntry c f).sat = s.sat := rfl
@[simp] theorem State.modEntry_tmu (c : Nat) (f : JEntry → JEntry) : (s.modEntry c f).tmu = s.tmu := rfl
@[simp] theorem State.modEntry_pnt (c : Nat) (f : JEntry → JEntry) : (s.modEntry c f).pnt = s.pnt := rfl
@[simp] theorem State.modEntry_red (c : Nat) (f : JEntry → JEntry) : (s.modEntry c f).red = s.red := rfl
@[simp] theorem State.modEntry_safe (c : Nat) (f : JEntry → JEntry) : (s.modEntry c f).safe = s.safe := rfl
@[simp] theorem State.modEntry_fio (c : Nat) (f : JEntry → JEntry) : (s.modEntry c f).fio = s.fio := rfl
@[simp] theorem State.modEntry_bus (c : Nat) (f : JEntry → JEntry) : (s.modEntry c f).bus = s.bus := rfl
@[simp] theorem State.modEntry_dma (c : Nat) (f : JEntry → JEntry) : (s.modEntry c f).dma = s.dma := rfl
@[simp] theorem State.modEntry_log (c : Nat) (f : JEntry → JEntry) : (s.modEntry c f).log = s.log := rfl
@[simp] theorem State.modEntry_keep (c : Nat) (f : JEntry → JEntry) : (s.modEntry c f).keep = s.keep := rfl
@[simp] theorem State.modEntry_sys (c : Nat) (f : JEntry → JEntry) : (s.modEntry c f).sys = s.sys := rfl
@[simp] theorem State.modEntry_cfg (c : Nat) (f : JEntry → JEntry) : (s.modEntry c f).cfg = s.cfg := rfl

/-! ### modCase -/

@[simp] theorem State.modCase_pending (c : Nat) (f : CaseSt → CaseSt) : (s.modCase c f).pending = s.pending := rfl
@[simp] theorem State.modCase_now (c : Nat) (f : CaseSt → CaseSt) : (s.modCase c f).now = s.now := rfl
@[simp] theorem State.modCase_free (c : Nat) (f : CaseSt → CaseSt) : (s.modCase c f).free = s.free := rfl
@[simp] theorem State.modCase_sent (c : Nat) (f : CaseSt → CaseSt) : (s.modCase c f).sent = s.sent := rfl
@[simp] theorem State.modCase_alarms (c : Nat) (f : CaseSt → CaseSt) : (s.modCase c f).alarms = s.alarms := rfl
@[simp] theorem State.modCase_part (c : Nat) (f : CaseSt → CaseSt) : (s.modCase c f).part = s.part := rfl
@[simp] theorem State.modCase_dram (c : Nat) (f : CaseSt → CaseSt) : (s.modCase c f).dram = s.dram := rfl
@[simp] theorem State.modCase_frame (c : Nat) (f : CaseSt → CaseSt) : (s.modCase c f).frame = s.frame := rfl
@[simp] theorem State.modCase_est (c : Nat) (f : CaseSt → CaseSt) : (s.modCase c f).est = s.est := rfl
@[simp] theorem State.modCase_hold (c : Nat) (f : CaseSt → CaseSt) : (s.modCase c f).hold = s.hold := rfl
@[simp] theorem State.modCase_alc (c : Nat) (f : CaseSt → CaseSt) : (s.modCase c f).alc = s.alc := rfl
@[simp] theorem State.modCase_hen (c : Nat) (f : CaseSt → CaseSt) : (s.modCase c f).hen = s.hen := rfl
@[simp] theorem State.modCase_thr (c : Nat) (f : CaseSt → CaseSt) : (s.modCase c f).thr = s.thr := rfl
@[simp] theorem State.modCase_sat (c : Nat) (f : CaseSt → CaseSt) : (s.modCase c f).sat = s.sat := rfl
@[simp] theorem State.modCase_tmu (c : Nat) (f : CaseSt → CaseSt) : (s.modCase c f).tmu = s.tmu := rfl
@[simp] theorem State.modCase_cmd (c : Nat) (f : CaseSt → CaseSt) : (s.modCase c f).cmd = s.cmd := rfl
@[simp] theorem State.modCase_pnt (c : Nat) (f : CaseSt → CaseSt) : (s.modCase c f).pnt = s.pnt := rfl
@[simp] theorem State.modCase_red (c : Nat) (f : CaseSt → CaseSt) : (s.modCase c f).red = s.red := rfl
@[simp] theorem State.modCase_safe (c : Nat) (f : CaseSt → CaseSt) : (s.modCase c f).safe = s.safe := rfl
@[simp] theorem State.modCase_fio (c : Nat) (f : CaseSt → CaseSt) : (s.modCase c f).fio = s.fio := rfl
@[simp] theorem State.modCase_bus (c : Nat) (f : CaseSt → CaseSt) : (s.modCase c f).bus = s.bus := rfl
@[simp] theorem State.modCase_dma (c : Nat) (f : CaseSt → CaseSt) : (s.modCase c f).dma = s.dma := rfl
@[simp] theorem State.modCase_log (c : Nat) (f : CaseSt → CaseSt) : (s.modCase c f).log = s.log := rfl
@[simp] theorem State.modCase_keep (c : Nat) (f : CaseSt → CaseSt) : (s.modCase c f).keep = s.keep := rfl
@[simp] theorem State.modCase_sys (c : Nat) (f : CaseSt → CaseSt) : (s.modCase c f).sys = s.sys := rfl
@[simp] theorem State.modCase_cfg (c : Nat) (f : CaseSt → CaseSt) : (s.modCase c f).cfg = s.cfg := rfl

/-! ### modDch -/

@[simp] theorem State.modDch_pending (c : Nat) (f : DmaChan → DmaChan) : (s.modDch c f).pending = s.pending := rfl
@[simp] theorem State.modDch_now (c : Nat) (f : DmaChan → DmaChan) : (s.modDch c f).now = s.now := rfl
@[simp] theorem State.modDch_free (c : Nat) (f : DmaChan → DmaChan) : (s.modDch c f).free = s.free := rfl
@[simp] theorem State.modDch_sent (c : Nat) (f : DmaChan → DmaChan) : (s.modDch c f).sent = s.sent := rfl
@[simp] theorem State.modDch_alarms (c : Nat) (f : DmaChan → DmaChan) : (s.modDch c f).alarms = s.alarms := rfl
@[simp] theorem State.modDch_part (c : Nat) (f : DmaChan → DmaChan) : (s.modDch c f).part = s.part := rfl
@[simp] theorem State.modDch_dram (c : Nat) (f : DmaChan → DmaChan) : (s.modDch c f).dram = s.dram := rfl
@[simp] theorem State.modDch_frame (c : Nat) (f : DmaChan → DmaChan) : (s.modDch c f).frame = s.frame := rfl
@[simp] theorem State.modDch_est (c : Nat) (f : DmaChan → DmaChan) : (s.modDch c f).est = s.est := rfl
@[simp] theorem State.modDch_hold (c : Nat) (f : DmaChan → DmaChan) : (s.modDch c f).hold = s.hold := rfl
@[simp] theorem State.modDch_alc (c : Nat) (f : DmaChan → DmaChan) : (s.modDch c f).alc = s.alc := rfl
@[simp] theorem State.modDch_cqa (c : Nat) (f : DmaChan → DmaChan) : (s.modDch c f).cqa = s.cqa := rfl
@[simp] theorem State.modDch_hen (c : Nat) (f : DmaChan → DmaChan) : (s.modDch c f).hen = s.hen := rfl
@[simp] theorem State.modDch_thr (c : Nat) (f : DmaChan → DmaChan) : (s.modDch c f).thr = s.thr := rfl
@[simp] theorem State.modDch_sat (c : Nat) (f : DmaChan → DmaChan) : (s.modDch c f).sat = s.sat := rfl
@[simp] theorem State.modDch_tmu (c : Nat) (f : DmaChan → DmaChan) : (s.modDch c f).tmu = s.tmu := rfl
@[simp] theorem State.modDch_cmd (c : Nat) (f : DmaChan → DmaChan) : (s.modDch c f).cmd = s.cmd := rfl
@[simp] theorem State.modDch_pnt (c : Nat) (f : DmaChan → DmaChan) : (s.modDch c f).pnt = s.pnt := rfl
@[simp] theorem State.modDch_red (c : Nat) (f : DmaChan → DmaChan) : (s.modDch c f).red = s.red := rfl
@[simp] theorem State.modDch_safe (c : Nat) (f : DmaChan → DmaChan) : (s.modDch c f).safe = s.safe := rfl
@[simp] theorem State.modDch_fio (c : Nat) (f : DmaChan → DmaChan) : (s.modDch c f).fio = s.fio := rfl
@[simp] theorem State.modDch_bus (c : Nat) (f : DmaChan → DmaChan) : (s.modDch c f).bus = s.bus := rfl
@[simp] theorem State.modDch_log (c : Nat) (f : DmaChan → DmaChan) : (s.modDch c f).log = s.log := rfl
@[simp] theorem State.modDch_keep (c : Nat) (f : DmaChan → DmaChan) : (s.modDch c f).keep = s.keep := rfl
@[simp] theorem State.modDch_sys (c : Nat) (f : DmaChan → DmaChan) : (s.modDch c f).sys = s.sys := rfl
@[simp] theorem State.modDch_cfg (c : Nat) (f : DmaChan → DmaChan) : (s.modDch c f).cfg = s.cfg := rfl

/-! ### modSlot -/

@[simp] theorem State.modSlot_pending (c : Nat) (f : RefSlot → RefSlot) : (s.modSlot c f).pending = s.pending := rfl
@[simp] theorem State.modSlot_now (c : Nat) (f : RefSlot → RefSlot) : (s.modSlot c f).now = s.now := rfl
@[simp] theorem State.modSlot_free (c : Nat) (f : RefSlot → RefSlot) : (s.modSlot c f).free = s.free := rfl
@[simp] theorem State.modSlot_sent (c : Nat) (f : RefSlot → RefSlot) : (s.modSlot c f).sent = s.sent := rfl
@[simp] theorem State.modSlot_alarms (c : Nat) (f : RefSlot → RefSlot) : (s.modSlot c f).alarms = s.alarms := rfl
@[simp] theorem State.modSlot_part (c : Nat) (f : RefSlot → RefSlot) : (s.modSlot c f).part = s.part := rfl
@[simp] theorem State.modSlot_dram (c : Nat) (f : RefSlot → RefSlot) : (s.modSlot c f).dram = s.dram := rfl
@[simp] theorem State.modSlot_frame (c : Nat) (f : RefSlot → RefSlot) : (s.modSlot c f).frame = s.frame := rfl
@[simp] theorem State.modSlot_hold (c : Nat) (f : RefSlot → RefSlot) : (s.modSlot c f).hold = s.hold := rfl
@[simp] theorem State.modSlot_alc (c : Nat) (f : RefSlot → RefSlot) : (s.modSlot c f).alc = s.alc := rfl
@[simp] theorem State.modSlot_cqa (c : Nat) (f : RefSlot → RefSlot) : (s.modSlot c f).cqa = s.cqa := rfl
@[simp] theorem State.modSlot_hen (c : Nat) (f : RefSlot → RefSlot) : (s.modSlot c f).hen = s.hen := rfl
@[simp] theorem State.modSlot_thr (c : Nat) (f : RefSlot → RefSlot) : (s.modSlot c f).thr = s.thr := rfl
@[simp] theorem State.modSlot_sat (c : Nat) (f : RefSlot → RefSlot) : (s.modSlot c f).sat = s.sat := rfl
@[simp] theorem State.modSlot_tmu (c : Nat) (f : RefSlot → RefSlot) : (s.modSlot c f).tmu = s.tmu := rfl
@[simp] theorem State.modSlot_cmd (c : Nat) (f : RefSlot → RefSlot) : (s.modSlot c f).cmd = s.cmd := rfl
@[simp] theorem State.modSlot_pnt (c : Nat) (f : RefSlot → RefSlot) : (s.modSlot c f).pnt = s.pnt := rfl
@[simp] theorem State.modSlot_red (c : Nat) (f : RefSlot → RefSlot) : (s.modSlot c f).red = s.red := rfl
@[simp] theorem State.modSlot_safe (c : Nat) (f : RefSlot → RefSlot) : (s.modSlot c f).safe = s.safe := rfl
@[simp] theorem State.modSlot_fio (c : Nat) (f : RefSlot → RefSlot) : (s.modSlot c f).fio = s.fio := rfl
@[simp] theorem State.modSlot_bus (c : Nat) (f : RefSlot → RefSlot) : (s.modSlot c f).bus = s.bus := rfl
@[simp] theorem State.modSlot_dma (c : Nat) (f : RefSlot → RefSlot) : (s.modSlot c f).dma = s.dma := rfl
@[simp] theorem State.modSlot_log (c : Nat) (f : RefSlot → RefSlot) : (s.modSlot c f).log = s.log := rfl
@[simp] theorem State.modSlot_keep (c : Nat) (f : RefSlot → RefSlot) : (s.modSlot c f).keep = s.keep := rfl
@[simp] theorem State.modSlot_sys (c : Nat) (f : RefSlot → RefSlot) : (s.modSlot c f).sys = s.sys := rfl
@[simp] theorem State.modSlot_cfg (c : Nat) (f : RefSlot → RefSlot) : (s.modSlot c f).cfg = s.cfg := rfl

/-! ### modCore -/

@[simp] theorem State.modCore_pending (f : EstCore → EstCore) : (s.modCore f).pending = s.pending := rfl
@[simp] theorem State.modCore_now (f : EstCore → EstCore) : (s.modCore f).now = s.now := rfl
@[simp] theorem State.modCore_free (f : EstCore → EstCore) : (s.modCore f).free = s.free := rfl
@[simp] theorem State.modCore_sent (f : EstCore → EstCore) : (s.modCore f).sent = s.sent := rfl
@[simp] theorem State.modCore_alarms (f : EstCore → EstCore) : (s.modCore f).alarms = s.alarms := rfl
@[simp] theorem State.modCore_part (f : EstCore → EstCore) : (s.modCore f).part = s.part := rfl
@[simp] theorem State.modCore_dram (f : EstCore → EstCore) : (s.modCore f).dram = s.dram := rfl
@[simp] theorem State.modCore_frame (f : EstCore → EstCore) : (s.modCore f).frame = s.frame := rfl
@[simp] theorem State.modCore_hold (f : EstCore → EstCore) : (s.modCore f).hold = s.hold := rfl
@[simp] theorem State.modCore_alc (f : EstCore → EstCore) : (s.modCore f).alc = s.alc := rfl
@[simp] theorem State.modCore_cqa (f : EstCore → EstCore) : (s.modCore f).cqa = s.cqa := rfl
@[simp] theorem State.modCore_hen (f : EstCore → EstCore) : (s.modCore f).hen = s.hen := rfl
@[simp] theorem State.modCore_thr (f : EstCore → EstCore) : (s.modCore f).thr = s.thr := rfl
@[simp] theorem State.modCore_sat (f : EstCore → EstCore) : (s.modCore f).sat = s.sat := rfl
@[simp] theorem State.modCore_tmu (f : EstCore → EstCore) : (s.modCore f).tmu = s.tmu := rfl
@[simp] theorem State.modCore_cmd (f : EstCore → EstCore) : (s.modCore f).cmd = s.cmd := rfl
@[simp] theorem State.modCore_pnt (f : EstCore → EstCore) : (s.modCore f).pnt = s.pnt := rfl
@[simp] theorem State.modCore_red (f : EstCore → EstCore) : (s.modCore f).red = s.red := rfl
@[simp] theorem State.modCore_safe (f : EstCore → EstCore) : (s.modCore f).safe = s.safe := rfl
@[simp] theorem State.modCore_fio (f : EstCore → EstCore) : (s.modCore f).fio = s.fio := rfl
@[simp] theorem State.modCore_bus (f : EstCore → EstCore) : (s.modCore f).bus = s.bus := rfl
@[simp] theorem State.modCore_dma (f : EstCore → EstCore) : (s.modCore f).dma = s.dma := rfl
@[simp] theorem State.modCore_log (f : EstCore → EstCore) : (s.modCore f).log = s.log := rfl
@[simp] theorem State.modCore_keep (f : EstCore → EstCore) : (s.modCore f).keep = s.keep := rfl
@[simp] theorem State.modCore_sys (f : EstCore → EstCore) : (s.modCore f).sys = s.sys := rfl
@[simp] theorem State.modCore_cfg (f : EstCore → EstCore) : (s.modCore f).cfg = s.cfg := rfl

/-! ### modFch -/

@[simp] theorem State.modFch_pending (c : Nat) (f : FioChan → FioChan) : (s.modFch c f).pending = s.pending := rfl
@[simp] theorem State.modFch_now (c : Nat) (f : FioChan → FioChan) : (s.modFch c f).now = s.now := rfl
@[simp] theorem State.modFch_free (c : Nat) (f : FioChan → FioChan) : (s.modFch c f).free = s.free := rfl
@[simp] theorem State.modFch_sent (c : Nat) (f : FioChan → FioChan) : (s.modFch c f).sent = s.sent := rfl
@[simp] theorem State.modFch_alarms (c : Nat) (f : FioChan → FioChan) : (s.modFch c f).alarms = s.alarms := rfl
@[simp] theorem State.modFch_part (c : Nat) (f : FioChan → FioChan) : (s.modFch c f).part = s.part := rfl
@[simp] theorem State.modFch_dram (c : Nat) (f : FioChan → FioChan) : (s.modFch c f).dram = s.dram := rfl
@[simp] theorem State.modFch_frame (c : Nat) (f : FioChan → FioChan) : (s.modFch c f).frame = s.frame := rfl
@[simp] theorem State.modFch_est (c : Nat) (f : FioChan → FioChan) : (s.modFch c f).est = s.est := rfl
@[simp] theorem State.modFch_hold (c : Nat) (f : FioChan → FioChan) : (s.modFch c f).hold = s.hold := rfl
@[simp] theorem State.modFch_alc (c : Nat) (f : FioChan → FioChan) : (s.modFch c f).alc = s.alc := rfl
@[simp] theorem State.modFch_cqa (c : Nat) (f : FioChan → FioChan) : (s.modFch c f).cqa = s.cqa := rfl
@[simp] theorem State.modFch_hen (c : Nat) (f : FioChan → FioChan) : (s.modFch c f).hen = s.hen := rfl
@[simp] theorem State.modFch_thr (c : Nat) (f : FioChan → FioChan) : (s.modFch c f).thr = s.thr := rfl
@[simp] theorem State.modFch_sat (c : Nat) (f : FioChan → FioChan) : (s.modFch c f).sat = s.sat := rfl
@[simp] theorem State.modFch_tmu (c : Nat) (f : FioChan → FioChan) : (s.modFch c f).tmu = s.tmu := rfl
@[simp] theorem State.modFch_cmd (c : Nat) (f : FioChan → FioChan) : (s.modFch c f).cmd = s.cmd := rfl
@[simp] theorem State.modFch_pnt (c : Nat) (f : FioChan → FioChan) : (s.modFch c f).pnt = s.pnt := rfl
@[simp] theorem State.modFch_red (c : Nat) (f : FioChan → FioChan) : (s.modFch c f).red = s.red := rfl
@[simp] theorem State.modFch_safe (c : Nat) (f : FioChan → FioChan) : (s.modFch c f).safe = s.safe := rfl
@[simp] theorem State.modFch_bus (c : Nat) (f : FioChan → FioChan) : (s.modFch c f).bus = s.bus := rfl
@[simp] theorem State.modFch_dma (c : Nat) (f : FioChan → FioChan) : (s.modFch c f).dma = s.dma := rfl
@[simp] theorem State.modFch_log (c : Nat) (f : FioChan → FioChan) : (s.modFch c f).log = s.log := rfl
@[simp] theorem State.modFch_keep (c : Nat) (f : FioChan → FioChan) : (s.modFch c f).keep = s.keep := rfl
@[simp] theorem State.modFch_sys (c : Nat) (f : FioChan → FioChan) : (s.modFch c f).sys = s.sys := rfl
@[simp] theorem State.modFch_cfg (c : Nat) (f : FioChan → FioChan) : (s.modFch c f).cfg = s.cfg := rfl

/-! ### modFgr -/

@[simp] theorem State.modFgr_pending (c : Nat) (f : FioGroup → FioGroup) : (s.modFgr c f).pending = s.pending := rfl
@[simp] theorem State.modFgr_now (c : Nat) (f : FioGroup → FioGroup) : (s.modFgr c f).now = s.now := rfl
@[simp] theorem State.modFgr_free (c : Nat) (f : FioGroup → FioGroup) : (s.modFgr c f).free = s.free := rfl
@[simp] theorem State.modFgr_sent (c : Nat) (f : FioGroup → FioGroup) : (s.modFgr c f).sent = s.sent := rfl
@[simp] theorem State.modFgr_alarms (c : Nat) (f : FioGroup → FioGroup) : (s.modFgr c f).alarms = s.alarms := rfl
@[simp] theorem State.modFgr_part (c : Nat) (f : FioGroup → FioGroup) : (s.modFgr c f).part = s.part := rfl
@[simp] theorem State.modFgr_dram (c : Nat) (f : FioGroup → FioGroup) : (s.modFgr c f).dram = s.dram := rfl
@[simp] theorem State.modFgr_frame (c : Nat) (f : FioGroup → FioGroup) : (s.modFgr c f).frame = s.frame := rfl
@[simp] theorem State.modFgr_est (c : Nat) (f : FioGroup → FioGroup) : (s.modFgr c f).est = s.est := rfl
@[simp] theorem State.modFgr_hold (c : Nat) (f : FioGroup → FioGroup) : (s.modFgr c f).hold = s.hold := rfl
@[simp] theorem State.modFgr_alc (c : Nat) (f : FioGroup → FioGroup) : (s.modFgr c f).alc = s.alc := rfl
@[simp] theorem State.modFgr_cqa (c : Nat) (f : FioGroup → FioGroup) : (s.modFgr c f).cqa = s.cqa := rfl
@[simp] theorem State.modFgr_hen (c : Nat) (f : FioGroup → FioGroup) : (s.modFgr c f).hen = s.hen := rfl
@[simp] theorem State.modFgr_thr (c : Nat) (f : FioGroup → FioGroup) : (s.modFgr c f).thr = s.thr := rfl
@[simp] theorem State.modFgr_sat (c : Nat) (f : FioGroup → FioGroup) : (s.modFgr c f).sat = s.sat := rfl
@[simp] theorem State.modFgr_tmu (c : Nat) (f : FioGroup → FioGroup) : (s.modFgr c f).tmu = s.tmu := rfl
@[simp] theorem State.modFgr_cmd (c : Nat) (f : FioGroup → FioGroup) : (s.modFgr c f).cmd = s.cmd := rfl
@[simp] theorem State.modFgr_pnt (c : Nat) (f : FioGroup → FioGroup) : (s.modFgr c f).pnt = s.pnt := rfl
@[simp] theorem State.modFgr_red (c : Nat) (f : FioGroup → FioGroup) : (s.modFgr c f).red = s.red := rfl
@[simp] theorem State.modFgr_safe (c : Nat) (f : FioGroup → FioGroup) : (s.modFgr c f).safe = s.safe := rfl
@[simp] theorem State.modFgr_bus (c : Nat) (f : FioGroup → FioGroup) : (s.modFgr c f).bus = s.bus := rfl
@[simp] theorem State.modFgr_dma (c : Nat) (f : FioGroup → FioGroup) : (s.modFgr c f).dma = s.dma := rfl
@[simp] theorem State.modFgr_log (c : Nat) (f : FioGroup → FioGroup) : (s.modFgr c f).log = s.log := rfl
@[simp] theorem State.modFgr_keep (c : Nat) (f : FioGroup → FioGroup) : (s.modFgr c f).keep = s.keep := rfl
@[simp] theorem State.modFgr_sys (c : Nat) (f : FioGroup → FioGroup) : (s.modFgr c f).sys = s.sys := rfl
@[simp] theorem State.modFgr_cfg (c : Nat) (f : FioGroup → FioGroup) : (s.modFgr c f).cfg = s.cfg := rfl

/-! ### modCl -/

@[simp] theorem State.modCl_pending (c : Nat) (f : HenCluster → HenCluster) : (s.modCl c f).pending = s.pending := by unfold State.modCl; split <;> rfl
@[simp] theorem State.modCl_now (c : Nat) (f : HenCluster → HenCluster) : (s.modCl c f).now = s.now := by unfold State.modCl; split <;> rfl
@[simp] theorem State.modCl_free (c : Nat) (f : HenCluster → HenCluster) : (s.modCl c f).free = s.free := by unfold State.modCl; split <;> rfl
@[simp] theorem State.modCl_sent (c : Nat) (f : HenCluster → HenCluster) : (s.modCl c f).sent = s.sent := by unfold State.modCl; split <;> rfl
@[simp] theorem State.modCl_alarms (c : Nat) (f : HenCluster → HenCluster) : (s.modCl c f).alarms = s.alarms := by unfold State.modCl; split <;> rfl
@[simp] theorem State.modCl_part (c : Nat) (f : HenCluster → HenCluster) : (s.modCl c f).part = s.part := by unfold State.modCl; split <;> rfl
@[simp] theorem State.modCl_dram (c : Nat) (f : HenCluster → HenCluster) : (s.modCl c f).dram = s.dram := by unfold State.modCl; split <;> rfl
@[simp] theorem State.modCl_frame (c : Nat) (f : HenCluster → HenCluster) : (s.modCl c f).frame = s.frame := by unfold State.modCl; split <;> rfl
@[simp] theorem State.modCl_est (c : Nat) (f : HenCluster → HenCluster) : (s.modCl c f).est = s.est := by unfold State.modCl; split <;> rfl
@[simp] theorem State.modCl_hold (c : Nat) (f : HenCluster → HenCluster) : (s.modCl c f).hold = s.hold := by unfold State.modCl; split <;> rfl
@[simp] theorem State.modCl_alc (c : Nat) (f : HenCluster → HenCluster) : (s.modCl c f).alc = s.alc := by unfold State.modCl; split <;> rfl
@[simp] theorem State.modCl_cqa (c : Nat) (f : HenCluster → HenCluster) : (s.modCl c f).cqa = s.cqa := by unfold State.modCl; split <;> rfl
@[simp] theorem State.modCl_thr (c : Nat) (f : HenCluster → HenCluster) : (s.modCl c f).thr = s.thr := by unfold State.modCl; split <;> rfl
@[simp] theorem State.modCl_sat (c : Nat) (f : HenCluster → HenCluster) : (s.modCl c f).sat = s.sat := by unfold State.modCl; split <;> rfl
@[simp] theorem State.modCl_tmu (c : Nat) (f : HenCluster → HenCluster) : (s.modCl c f).tmu = s.tmu := by unfold State.modCl; split <;> rfl
@[simp] theorem State.modCl_cmd (c : Nat) (f : HenCluster → HenCluster) : (s.modCl c f).cmd = s.cmd := by unfold State.modCl; split <;> rfl
@[simp] theorem State.modCl_pnt (c : Nat) (f : HenCluster → HenCluster) : (s.modCl c f).pnt = s.pnt := by unfold State.modCl; split <;> rfl
@[simp] theorem State.modCl_red (c : Nat) (f : HenCluster → HenCluster) : (s.modCl c f).red = s.red := by unfold State.modCl; split <;> rfl
@[simp] theorem State.modCl_safe (c : Nat) (f : HenCluster → HenCluster) : (s.modCl c f).safe = s.safe := by unfold State.modCl; split <;> rfl
@[simp] theorem State.modCl_fio (c : Nat) (f : HenCluster → HenCluster) : (s.modCl c f).fio = s.fio := by unfold State.modCl; split <;> rfl
@[simp] theorem State.modCl_bus (c : Nat) (f : HenCluster → HenCluster) : (s.modCl c f).bus = s.bus := by unfold State.modCl; split <;> rfl
@[simp] theorem State.modCl_dma (c : Nat) (f : HenCluster → HenCluster) : (s.modCl c f).dma = s.dma := by unfold State.modCl; split <;> rfl
@[simp] theorem State.modCl_log (c : Nat) (f : HenCluster → HenCluster) : (s.modCl c f).log = s.log := by unfold State.modCl; split <;> rfl
@[simp] theorem State.modCl_keep (c : Nat) (f : HenCluster → HenCluster) : (s.modCl c f).keep = s.keep := by unfold State.modCl; split <;> rfl
@[simp] theorem State.modCl_sys (c : Nat) (f : HenCluster → HenCluster) : (s.modCl c f).sys = s.sys := by unfold State.modCl; split <;> rfl
@[simp] theorem State.modCl_cfg (c : Nat) (f : HenCluster → HenCluster) : (s.modCl c f).cfg = s.cfg := by unfold State.modCl; split <;> rfl

/-! ### modHq -/

@[simp] theorem State.modHq_pending (c : Nat) (f : HenQueue → HenQueue) : (s.modHq c f).pending = s.pending := rfl
@[simp] theorem State.modHq_now (c : Nat) (f : HenQueue → HenQueue) : (s.modHq c f).now = s.now := rfl
@[simp] theorem State.modHq_free (c : Nat) (f : HenQueue → HenQueue) : (s.modHq c f).free = s.free := rfl
@[simp] theorem State.modHq_sent (c : Nat) (f : HenQueue → HenQueue) : (s.modHq c f).sent = s.sent := rfl
@[simp] theorem State.modHq_alarms (c : Nat) (f : HenQueue → HenQueue) : (s.modHq c f).alarms = s.alarms := rfl
@[simp] theorem State.modHq_part (c : Nat) (f : HenQueue → HenQueue) : (s.modHq c f).part = s.part := rfl
@[simp] theorem State.modHq_dram (c : Nat) (f : HenQueue → HenQueue) : (s.modHq c f).dram = s.dram := rfl
@[simp] theorem State.modHq_frame (c : Nat) (f : HenQueue → HenQueue) : (s.modHq c f).frame = s.frame := rfl
@[simp] theorem State.modHq_est (c : Nat) (f : HenQueue → HenQueue) : (s.modHq c f).est = s.est := rfl
@[simp] theorem State.modHq_hold (c : Nat) (f : HenQueue → HenQueue) : (s.modHq c f).hold = s.hold := rfl
@[simp] theorem State.modHq_alc (c : Nat) (f : HenQueue → HenQueue) : (s.modHq c f).alc = s.alc := rfl
@[simp] theorem State.modHq_cqa (c : Nat) (f : HenQueue → HenQueue) : (s.modHq c f).cqa = s.cqa := rfl
@[simp] theorem State.modHq_thr (c : Nat) (f : HenQueue → HenQueue) : (s.modHq c f).thr = s.thr := rfl
@[simp] theorem State.modHq_sat (c : Nat) (f : HenQueue → HenQueue) : (s.modHq c f).sat = s.sat := rfl
@[simp] theorem State.modHq_tmu (c : Nat) (f : HenQueue → HenQueue) : (s.modHq c f).tmu = s.tmu := rfl
@[simp] theorem State.modHq_cmd (c : Nat) (f : HenQueue → HenQueue) : (s.modHq c f).cmd = s.cmd := rfl
@[simp] theorem State.modHq_pnt (c : Nat) (f : HenQueue → HenQueue) : (s.modHq c f).pnt = s.pnt := rfl
@[simp] theorem State.modHq_red (c : Nat) (f : HenQueue → HenQueue) : (s.modHq c f).red = s.red := rfl
@[simp] theorem State.modHq_safe (c : Nat) (f : HenQueue → HenQueue) : (s.modHq c f).safe = s.safe := rfl
@[simp] theorem State.modHq_fio (c : Nat) (f : HenQueue → HenQueue) : (s.modHq c f).fio = s.fio := rfl
@[simp] theorem State.modHq_bus (c : Nat) (f : HenQueue → HenQueue) : (s.modHq c f).bus = s.bus := rfl
@[simp] theorem State.modHq_dma (c : Nat) (f : HenQueue → HenQueue) : (s.modHq c f).dma = s.dma := rfl
@[simp] theorem State.modHq_log (c : Nat) (f : HenQueue → HenQueue) : (s.modHq c f).log = s.log := rfl
@[simp] theorem State.modHq_keep (c : Nat) (f : HenQueue → HenQueue) : (s.modHq c f).keep = s.keep := rfl
@[simp] theorem State.modHq_sys (c : Nat) (f : HenQueue → HenQueue) : (s.modHq c f).sys = s.sys := rfl
@[simp] theorem State.modHq_cfg (c : Nat) (f : HenQueue → HenQueue) : (s.modHq c f).cfg = s.cfg := rfl

/-! ### pendHold -/

@[simp] theorem State.pendHold_pending (c : HoldCmd) : (s.pendHold c).pending = s.pending := rfl
@[simp] theorem State.pendHold_now (c : HoldCmd) : (s.pendHold c).now = s.now := rfl
@[simp] theorem State.pendHold_free (c : HoldCmd) : (s.pendHold c).free = s.free := rfl
@[simp] theorem State.pendHold_sent (c : HoldCmd) : (s.pendHold c).sent = s.sent := rfl
@[simp] theorem State.pendHold_alarms (c : HoldCmd) : (s.pendHold c).alarms = s.alarms := rfl
@[simp] theorem State.pendHold_part (c : HoldCmd) : (s.pendHold c).part = s.part := rfl
@[simp] theorem State.pendHold_dram (c : HoldCmd) : (s.pendHold c).dram = s.dram := rfl
@[simp] theorem State.pendHold_frame (c : HoldCmd) : (s.pendHold c).frame = s.frame := rfl
@[simp] theorem State.pendHold_est (c : HoldCmd) : (s.pendHold c).est = s.est := rfl
@[simp] theorem State.pendHold_alc (c : HoldCmd) : (s.pendHold c).alc = s.alc := rfl
@[simp] theorem State.pendHold_cqa (c : HoldCmd) : (s.pendHold c).cqa = s.cqa := rfl
@[simp] theorem State.pendHold_hen (c : HoldCmd) : (s.pendHold c).hen = s.hen := rfl
@[simp] theorem State.pendHold_thr (c : HoldCmd) : (s.pendHold c).thr = s.thr := rfl
@[simp] theorem State.pendHold_sat (c : HoldCmd) : (s.pendHold c).sat = s.sat := rfl
@[simp] theorem State.pendHold_tmu (c : HoldCmd) : (s.pendHold c).tmu = s.tmu := rfl
@[simp] theorem State.pendHold_cmd (c : HoldCmd) : (s.pendHold c).cmd = s.cmd := rfl
@[simp] theorem State.pendHold_pnt (c : HoldCmd) : (s.pendHold c).pnt = s.pnt := rfl
@[simp] theorem State.pendHold_red (c : HoldCmd) : (s.pendHold c).red = s.red := rfl
@[simp] theorem State.pendHold_safe (c : HoldCmd) : (s.pendHold c).safe = s.safe := rfl
@[simp] theorem State.pendHold_fio (c : HoldCmd) : (s.pendHold c).fio = s.fio := rfl
@[simp] theorem State.pendHold_bus (c : HoldCmd) : (s.pendHold c).bus = s.bus := rfl
@[simp] theorem State.pendHold_dma (c : HoldCmd) : (s.pendHold c).dma = s.dma := rfl
@[simp] theorem State.pendHold_log (c : HoldCmd) : (s.pendHold c).log = s.log := rfl
@[simp] theorem State.pendHold_keep (c : HoldCmd) : (s.pendHold c).keep = s.keep := rfl
@[simp] theorem State.pendHold_sys (c : HoldCmd) : (s.pendHold c).sys = s.sys := rfl
@[simp] theorem State.pendHold_cfg (c : HoldCmd) : (s.pendHold c).cfg = s.cfg := rfl

/-! ### modHold -/

@[simp] theorem State.modHold_pending (f : HoldCore → HoldCore) : (s.modHold f).pending = s.pending := rfl
@[simp] theorem State.modHold_now (f : HoldCore → HoldCore) : (s.modHold f).now = s.now := rfl
@[simp] theorem State.modHold_free (f : HoldCore → HoldCore) : (s.modHold f).free = s.free := rfl
@[simp] theorem State.modHold_sent (f : HoldCore → HoldCore) : (s.modHold f).sent = s.sent := rfl
@[simp] theorem State.modHold_alarms (f : HoldCore → HoldCore) : (s.modHold f).alarms = s.alarms := rfl
@[simp] theorem State.modHold_part (f : HoldCore → HoldCore) : (s.modHold f).part = s.part := rfl
@[simp] theorem State.modHold_dram (f : HoldCore → HoldCore) : (s.modHold f).dram = s.dram := rfl
@[simp] theorem State.modHold_frame (f : HoldCore → HoldCore) : (s.modHold f).frame = s.frame := rfl
@[simp] theorem State.modHold_est (f : HoldCore → HoldCore) : (s.modHold f).est = s.est := rfl
@[simp] theorem State.modHold_alc (f : HoldCore → HoldCore) : (s.modHold f).alc = s.alc := rfl
@[simp] theorem State.modHold_cqa (f : HoldCore → HoldCore) : (s.modHold f).cqa = s.cqa := rfl
@[simp] theorem State.modHold_hen (f : HoldCore → HoldCore) : (s.modHold f).hen = s.hen := rfl
@[simp] theorem State.modHold_thr (f : HoldCore → HoldCore) : (s.modHold f).thr = s.thr := rfl
@[simp] theorem State.modHold_sat (f : HoldCore → HoldCore) : (s.modHold f).sat = s.sat := rfl
@[simp] theorem State.modHold_tmu (f : HoldCore → HoldCore) : (s.modHold f).tmu = s.tmu := rfl
@[simp] theorem State.modHold_cmd (f : HoldCore → HoldCore) : (s.modHold f).cmd = s.cmd := rfl
@[simp] theorem State.modHold_pnt (f : HoldCore → HoldCore) : (s.modHold f).pnt = s.pnt := rfl
@[simp] theorem State.modHold_red (f : HoldCore → HoldCore) : (s.modHold f).red = s.red := rfl
@[simp] theorem State.modHold_safe (f : HoldCore → HoldCore) : (s.modHold f).safe = s.safe := rfl
@[simp] theorem State.modHold_fio (f : HoldCore → HoldCore) : (s.modHold f).fio = s.fio := rfl
@[simp] theorem State.modHold_bus (f : HoldCore → HoldCore) : (s.modHold f).bus = s.bus := rfl
@[simp] theorem State.modHold_dma (f : HoldCore → HoldCore) : (s.modHold f).dma = s.dma := rfl
@[simp] theorem State.modHold_log (f : HoldCore → HoldCore) : (s.modHold f).log = s.log := rfl
@[simp] theorem State.modHold_keep (f : HoldCore → HoldCore) : (s.modHold f).keep = s.keep := rfl
@[simp] theorem State.modHold_sys (f : HoldCore → HoldCore) : (s.modHold f).sys = s.sys := rfl
@[simp] theorem State.modHold_cfg (f : HoldCore → HoldCore) : (s.modHold f).cfg = s.cfg := rfl

/-! ### modRd -/

@[simp] theorem State.modRd_pending (w : Who) (f : LogRd → LogRd) : (s.modRd w f).pending = s.pending := rfl
@[simp] theorem State.modRd_now (w : Who) (f : LogRd → LogRd) : (s.modRd w f).now = s.now := rfl
@[simp] theorem State.modRd_free (w : Who) (f : LogRd → LogRd) : (s.modRd w f).free = s.free := rfl
@[simp] theorem State.modRd_sent (w : Who) (f : LogRd → LogRd) : (s.modRd w f).sent = s.sent := rfl
@[simp] theorem State.modRd_alarms (w : Who) (f : LogRd → LogRd) : (s.modRd w f).alarms = s.alarms := rfl
@[simp] theorem State.modRd_part (w : Who) (f : LogRd → LogRd) : (s.modRd w f).part = s.part := rfl
@[simp] theorem State.modRd_dram (w : Who) (f : LogRd → LogRd) : (s.modRd w f).dram = s.dram := rfl
@[simp] theorem State.modRd_frame (w : Who) (f : LogRd → LogRd) : (s.modRd w f).frame = s.frame := rfl
@[simp] theorem State.modRd_est (w : Who) (f : LogRd → LogRd) : (s.modRd w f).est = s.est := rfl
@[simp] theorem State.modRd_hold (w : Who) (f : LogRd → LogRd) : (s.modRd w f).hold = s.hold := rfl
@[simp] theorem State.modRd_alc (w : Who) (f : LogRd → LogRd) : (s.modRd w f).alc = s.alc := rfl
@[simp] theorem State.modRd_cqa (w : Who) (f : LogRd → LogRd) : (s.modRd w f).cqa = s.cqa := rfl
@[simp] theorem State.modRd_hen (w : Who) (f : LogRd → LogRd) : (s.modRd w f).hen = s.hen := rfl
@[simp] theorem State.modRd_thr (w : Who) (f : LogRd → LogRd) : (s.modRd w f).thr = s.thr := rfl
@[simp] theorem State.modRd_sat (w : Who) (f : LogRd → LogRd) : (s.modRd w f).sat = s.sat := rfl
@[simp] theorem State.modRd_tmu (w : Who) (f : LogRd → LogRd) : (s.modRd w f).tmu = s.tmu := rfl
@[simp] theorem State.modRd_cmd (w : Who) (f : LogRd → LogRd) : (s.modRd w f).cmd = s.cmd := rfl
@[simp] theorem State.modRd_pnt (w : Who) (f : LogRd → LogRd) : (s.modRd w f).pnt = s.pnt := rfl
@[simp] theorem State.modRd_red (w : Who) (f : LogRd → LogRd) : (s.modRd w f).red = s.red := rfl
@[simp] theorem State.modRd_safe (w : Who) (f : LogRd → LogRd) : (s.modRd w f).safe = s.safe := rfl
@[simp] theorem State.modRd_fio (w : Who) (f : LogRd → LogRd) : (s.modRd w f).fio = s.fio := rfl
@[simp] theorem State.modRd_bus (w : Who) (f : LogRd → LogRd) : (s.modRd w f).bus = s.bus := rfl
@[simp] theorem State.modRd_dma (w : Who) (f : LogRd → LogRd) : (s.modRd w f).dma = s.dma := rfl
@[simp] theorem State.modRd_keep (w : Who) (f : LogRd → LogRd) : (s.modRd w f).keep = s.keep := rfl
@[simp] theorem State.modRd_sys (w : Who) (f : LogRd → LogRd) : (s.modRd w f).sys = s.sys := rfl
@[simp] theorem State.modRd_cfg (w : Who) (f : LogRd → LogRd) : (s.modRd w f).cfg = s.cfg := rfl

/-! ### modImg -/

@[simp] theorem State.modImg_pending (c : Nat) (f : ImgSt → ImgSt) : (s.modImg c f).pending = s.pending := rfl
@[simp] theorem State.modImg_now (c : Nat) (f : ImgSt → ImgSt) : (s.modImg c f).now = s.now := rfl
@[simp] theorem State.modImg_free (c : Nat) (f : ImgSt → ImgSt) : (s.modImg c f).free = s.free := rfl
@[simp] theorem State.modImg_sent (c : Nat) (f : ImgSt → ImgSt) : (s.modImg c f).sent = s.sent := rfl
@[simp] theorem State.modImg_alarms (c : Nat) (f : ImgSt → ImgSt) : (s.modImg c f).alarms = s.alarms := rfl
@[simp] theorem State.modImg_part (c : Nat) (f : ImgSt → ImgSt) : (s.modImg c f).part = s.part := rfl
@[simp] theorem State.modImg_dram (c : Nat) (f : ImgSt → ImgSt) : (s.modImg c f).dram = s.dram := rfl
@[simp] theorem State.modImg_frame (c : Nat) (f : ImgSt → ImgSt) : (s.modImg c f).frame = s.frame := rfl
@[simp] theorem State.modImg_est (c : Nat) (f : ImgSt → ImgSt) : (s.modImg c f).est = s.est := rfl
@[simp] theorem State.modImg_hold (c : Nat) (f : ImgSt → ImgSt) : (s.modImg c f).hold = s.hold := rfl
@[simp] theorem State.modImg_alc (c : Nat) (f : ImgSt → ImgSt) : (s.modImg c f).alc = s.alc := rfl
@[simp] theorem State.modImg_cqa (c : Nat) (f : ImgSt → ImgSt) : (s.modImg c f).cqa = s.cqa := rfl
@[simp] theorem State.modImg_hen (c : Nat) (f : ImgSt → ImgSt) : (s.modImg c f).hen = s.hen := rfl
@[simp] theorem State.modImg_thr (c : Nat) (f : ImgSt → ImgSt) : (s.modImg c f).thr = s.thr := rfl
@[simp] theorem State.modImg_sat (c : Nat) (f : ImgSt → ImgSt) : (s.modImg c f).sat = s.sat := rfl
@[simp] theorem State.modImg_tmu (c : Nat) (f : ImgSt → ImgSt) : (s.modImg c f).tmu = s.tmu := rfl
@[simp] theorem State.modImg_cmd (c : Nat) (f : ImgSt → ImgSt) : (s.modImg c f).cmd = s.cmd := rfl
@[simp] theorem State.modImg_pnt (c : Nat) (f : ImgSt → ImgSt) : (s.modImg c f).pnt = s.pnt := rfl
@[simp] theorem State.modImg_red (c : Nat) (f : ImgSt → ImgSt) : (s.modImg c f).red = s.red := rfl
@[simp] theorem State.modImg_safe (c : Nat) (f : ImgSt → ImgSt) : (s.modImg c f).safe = s.safe := rfl
@[simp] theorem State.modImg_fio (c : Nat) (f : ImgSt → ImgSt) : (s.modImg c f).fio = s.fio := rfl
@[simp] theorem State.modImg_bus (c : Nat) (f : ImgSt → ImgSt) : (s.modImg c f).bus = s.bus := rfl
@[simp] theorem State.modImg_dma (c : Nat) (f : ImgSt → ImgSt) : (s.modImg c f).dma = s.dma := rfl
@[simp] theorem State.modImg_log (c : Nat) (f : ImgSt → ImgSt) : (s.modImg c f).log = s.log := rfl
@[simp] theorem State.modImg_keep (c : Nat) (f : ImgSt → ImgSt) : (s.modImg c f).keep = s.keep := rfl
@[simp] theorem State.modImg_cfg (c : Nat) (f : ImgSt → ImgSt) : (s.modImg c f).cfg = s.cfg := rfl

/-! ### setProd -/

@[simp] theorem State.setProd_pending (k : Nat) (x : Producer) : (s.setProd k x).pending = s.pending := rfl
@[simp] theorem State.setProd_now (k : Nat) (x : Producer) : (s.setProd k x).now = s.now := rfl
@[simp] theorem State.setProd_free (k : Nat) (x : Producer) : (s.setProd k x).free = s.free := rfl
@[simp] theorem State.setProd_sent (k : Nat) (x : Producer) : (s.setProd k x).sent = s.sent := rfl
@[simp] theorem State.setProd_alarms (k : Nat) (x : Producer) : (s.setProd k x).alarms = s.alarms := rfl
@[simp] theorem State.setProd_part (k : Nat) (x : Producer) : (s.setProd k x).part = s.part := rfl
@[simp] theorem State.setProd_dram (k : Nat) (x : Producer) : (s.setProd k x).dram = s.dram := rfl
@[simp] theorem State.setProd_frame (k : Nat) (x : Producer) : (s.setProd k x).frame = s.frame := rfl
@[simp] theorem State.setProd_est (k : Nat) (x : Producer) : (s.setProd k x).est = s.est := rfl
@[simp] theorem State.setProd_hold (k : Nat) (x : Producer) : (s.setProd k x).hold = s.hold := rfl
@[simp] theorem State.setProd_alc (k : Nat) (x : Producer) : (s.setProd k x).alc = s.alc := rfl
@[simp] theorem State.setProd_cqa (k : Nat) (x : Producer) : (s.setProd k x).cqa = s.cqa := rfl
@[simp] theorem State.setProd_hen (k : Nat) (x : Producer) : (s.setProd k x).hen = s.hen := rfl
@[simp] theorem State.setProd_thr (k : Nat) (x : Producer) : (s.setProd k x).thr = s.thr := rfl
@[simp] theorem State.setProd_sat (k : Nat) (x : Producer) : (s.setProd k x).sat = s.sat := rfl
@[simp] theorem State.setProd_tmu (k : Nat) (x : Producer) : (s.setProd k x).tmu = s.tmu := rfl
@[simp] theorem State.setProd_cmd (k : Nat) (x : Producer) : (s.setProd k x).cmd = s.cmd := rfl
@[simp] theorem State.setProd_red (k : Nat) (x : Producer) : (s.setProd k x).red = s.red := rfl
@[simp] theorem State.setProd_safe (k : Nat) (x : Producer) : (s.setProd k x).safe = s.safe := rfl
@[simp] theorem State.setProd_fio (k : Nat) (x : Producer) : (s.setProd k x).fio = s.fio := rfl
@[simp] theorem State.setProd_bus (k : Nat) (x : Producer) : (s.setProd k x).bus = s.bus := rfl
@[simp] theorem State.setProd_dma (k : Nat) (x : Producer) : (s.setProd k x).dma = s.dma := rfl
@[simp] theorem State.setProd_log (k : Nat) (x : Producer) : (s.setProd k x).log = s.log := rfl
@[simp] theorem State.setProd_keep (k : Nat) (x : Producer) : (s.setProd k x).keep = s.keep := rfl
@[simp] theorem State.setProd_sys (k : Nat) (x : Producer) : (s.setProd k x).sys = s.sys := rfl
@[simp] theorem State.setProd_cfg (k : Nat) (x : Producer) : (s.setProd k x).cfg = s.cfg := rfl

/-! ### modKeep -/

@[simp] theorem State.modKeep_pending (f : KeepSt → KeepSt) : (s.modKeep f).pending = s.pending := rfl
@[simp] theorem State.modKeep_now (f : KeepSt → KeepSt) : (s.modKeep f).now = s.now := rfl
@[simp] theorem State.modKeep_free (f : KeepSt → KeepSt) : (s.modKeep f).free = s.free := rfl
@[simp] theorem State.modKeep_sent (f : KeepSt → KeepSt) : (s.modKeep f).sent = s.sent := rfl
@[simp] theorem State.modKeep_alarms (f : KeepSt → KeepSt) : (s.modKeep f).alarms = s.alarms := rfl
@[simp] theorem State.modKeep_part (f : KeepSt → KeepSt) : (s.modKeep f).part = s.part := rfl
@[simp] theorem State.modKeep_dram (f : KeepSt → KeepSt) : (s.modKeep f).dram = s.dram := rfl
@[simp] theorem State.modKeep_frame (f : KeepSt → KeepSt) : (s.modKeep f).frame = s.frame := rfl
@[simp] theorem State.modKeep_est (f : KeepSt → KeepSt) : (s.modKeep f).est = s.est := rfl
@[simp] theorem State.modKeep_hold (f : KeepSt → KeepSt) : (s.modKeep f).hold = s.hold := rfl
@[simp] theorem State.modKeep_alc (f : KeepSt → KeepSt) : (s.modKeep f).alc = s.alc := rfl
@[simp] theorem State.modKeep_cqa (f : KeepSt → KeepSt) : (s.modKeep f).cqa = s.cqa := rfl
@[simp] theorem State.modKeep_hen (f : KeepSt → KeepSt) : (s.modKeep f).hen = s.hen := rfl
@[simp] theorem State.modKeep_thr (f : KeepSt → KeepSt) : (s.modKeep f).thr = s.thr := rfl
@[simp] theorem State.modKeep_sat (f : KeepSt → KeepSt) : (s.modKeep f).sat = s.sat := rfl
@[simp] theorem State.modKeep_tmu (f : KeepSt → KeepSt) : (s.modKeep f).tmu = s.tmu := rfl
@[simp] theorem State.modKeep_cmd (f : KeepSt → KeepSt) : (s.modKeep f).cmd = s.cmd := rfl
@[simp] theorem State.modKeep_pnt (f : KeepSt → KeepSt) : (s.modKeep f).pnt = s.pnt := rfl
@[simp] theorem State.modKeep_red (f : KeepSt → KeepSt) : (s.modKeep f).red = s.red := rfl
@[simp] theorem State.modKeep_safe (f : KeepSt → KeepSt) : (s.modKeep f).safe = s.safe := rfl
@[simp] theorem State.modKeep_fio (f : KeepSt → KeepSt) : (s.modKeep f).fio = s.fio := rfl
@[simp] theorem State.modKeep_bus (f : KeepSt → KeepSt) : (s.modKeep f).bus = s.bus := rfl
@[simp] theorem State.modKeep_dma (f : KeepSt → KeepSt) : (s.modKeep f).dma = s.dma := rfl
@[simp] theorem State.modKeep_log (f : KeepSt → KeepSt) : (s.modKeep f).log = s.log := rfl
@[simp] theorem State.modKeep_keep (f : KeepSt → KeepSt) : (s.modKeep f).keep = f s.keep := rfl
@[simp] theorem State.modKeep_sys (f : KeepSt → KeepSt) : (s.modKeep f).sys = s.sys := rfl
@[simp] theorem State.modKeep_cfg (f : KeepSt → KeepSt) : (s.modKeep f).cfg = s.cfg := rfl

/-! ### modRed -/

@[simp] theorem State.modRed_pending (f : RedSt → RedSt) : (s.modRed f).pending = s.pending := rfl
@[simp] theorem State.modRed_now (f : RedSt → RedSt) : (s.modRed f).now = s.now := rfl
@[simp] theorem State.modRed_free (f : RedSt → RedSt) : (s.modRed f).free = s.free := rfl
@[simp] theorem State.modRed_sent (f : RedSt → RedSt) : (s.modRed f).sent = s.sent := rfl
@[simp] theorem State.modRed_alarms (f : RedSt → RedSt) : (s.modRed f).alarms = s.alarms := rfl
@[simp] theorem State.modRed_part (f : RedSt → RedSt) : (s.modRed f).part = s.part := rfl
@[simp] theorem State.modRed_dram (f : RedSt → RedSt) : (s.modRed f).dram = s.dram := rfl
@[simp] theorem State.modRed_frame (f : RedSt → RedSt) : (s.modRed f).frame = s.frame := rfl
@[simp] theorem State.modRed_est (f : RedSt → RedSt) : (s.modRed f).est = s.est := rfl
@[simp] theorem State.modRed_hold (f : RedSt → RedSt) : (s.modRed f).hold = s.hold := rfl
@[simp] theorem State.modRed_alc (f : RedSt → RedSt) : (s.modRed f).alc = s.alc := rfl
@[simp] theorem State.modRed_cqa (f : RedSt → RedSt) : (s.modRed f).cqa = s.cqa := rfl
@[simp] theorem State.modRed_hen (f : RedSt → RedSt) : (s.modRed f).hen = s.hen := rfl
@[simp] theorem State.modRed_thr (f : RedSt → RedSt) : (s.modRed f).thr = s.thr := rfl
@[simp] theorem State.modRed_sat (f : RedSt → RedSt) : (s.modRed f).sat = s.sat := rfl
@[simp] theorem State.modRed_tmu (f : RedSt → RedSt) : (s.modRed f).tmu = s.tmu := rfl
@[simp] theorem State.modRed_cmd (f : RedSt → RedSt) : (s.modRed f).cmd = s.cmd := rfl
@[simp] theorem State.modRed_pnt (f : RedSt → RedSt) : (s.modRed f).pnt = s.pnt := rfl
@[simp] theorem State.modRed_red (f : RedSt → RedSt) : (s.modRed f).red = f s.red := rfl
@[simp] theorem State.modRed_safe (f : RedSt → RedSt) : (s.modRed f).safe = s.safe := rfl
@[simp] theorem State.modRed_fio (f : RedSt → RedSt) : (s.modRed f).fio = s.fio := rfl
@[simp] theorem State.modRed_bus (f : RedSt → RedSt) : (s.modRed f).bus = s.bus := rfl
@[simp] theorem State.modRed_dma (f : RedSt → RedSt) : (s.modRed f).dma = s.dma := rfl
@[simp] theorem State.modRed_log (f : RedSt → RedSt) : (s.modRed f).log = s.log := rfl
@[simp] theorem State.modRed_keep (f : RedSt → RedSt) : (s.modRed f).keep = s.keep := rfl
@[simp] theorem State.modRed_sys (f : RedSt → RedSt) : (s.modRed f).sys = s.sys := rfl
@[simp] theorem State.modRed_cfg (f : RedSt → RedSt) : (s.modRed f).cfg = s.cfg := rfl

/-! ### modSafe -/

@[simp] theorem State.modSafe_pending (f : SafeSt → SafeSt) : (s.modSafe f).pending = s.pending := rfl
@[simp] theorem State.modSafe_now (f : SafeSt → SafeSt) : (s.modSafe f).now = s.now := rfl
@[simp] theorem State.modSafe_free (f : SafeSt → SafeSt) : (s.modSafe f).free = s.free := rfl
@[simp] theorem State.modSafe_sent (f : SafeSt → SafeSt) : (s.modSafe f).sent = s.sent := rfl
@[simp] theorem State.modSafe_alarms (f : SafeSt → SafeSt) : (s.modSafe f).alarms = s.alarms := rfl
@[simp] theorem State.modSafe_part (f : SafeSt → SafeSt) : (s.modSafe f).part = s.part := rfl
@[simp] theorem State.modSafe_dram (f : SafeSt → SafeSt) : (s.modSafe f).dram = s.dram := rfl
@[simp] theorem State.modSafe_frame (f : SafeSt → SafeSt) : (s.modSafe f).frame = s.frame := rfl
@[simp] theorem State.modSafe_est (f : SafeSt → SafeSt) : (s.modSafe f).est = s.est := rfl
@[simp] theorem State.modSafe_hold (f : SafeSt → SafeSt) : (s.modSafe f).hold = s.hold := rfl
@[simp] theorem State.modSafe_alc (f : SafeSt → SafeSt) : (s.modSafe f).alc = s.alc := rfl
@[simp] theorem State.modSafe_cqa (f : SafeSt → SafeSt) : (s.modSafe f).cqa = s.cqa := rfl
@[simp] theorem State.modSafe_hen (f : SafeSt → SafeSt) : (s.modSafe f).hen = s.hen := rfl
@[simp] theorem State.modSafe_thr (f : SafeSt → SafeSt) : (s.modSafe f).thr = s.thr := rfl
@[simp] theorem State.modSafe_sat (f : SafeSt → SafeSt) : (s.modSafe f).sat = s.sat := rfl
@[simp] theorem State.modSafe_tmu (f : SafeSt → SafeSt) : (s.modSafe f).tmu = s.tmu := rfl
@[simp] theorem State.modSafe_cmd (f : SafeSt → SafeSt) : (s.modSafe f).cmd = s.cmd := rfl
@[simp] theorem State.modSafe_pnt (f : SafeSt → SafeSt) : (s.modSafe f).pnt = s.pnt := rfl
@[simp] theorem State.modSafe_red (f : SafeSt → SafeSt) : (s.modSafe f).red = s.red := rfl
@[simp] theorem State.modSafe_safe (f : SafeSt → SafeSt) : (s.modSafe f).safe = f s.safe := rfl
@[simp] theorem State.modSafe_fio (f : SafeSt → SafeSt) : (s.modSafe f).fio = s.fio := rfl
@[simp] theorem State.modSafe_bus (f : SafeSt → SafeSt) : (s.modSafe f).bus = s.bus := rfl
@[simp] theorem State.modSafe_dma (f : SafeSt → SafeSt) : (s.modSafe f).dma = s.dma := rfl
@[simp] theorem State.modSafe_log (f : SafeSt → SafeSt) : (s.modSafe f).log = s.log := rfl
@[simp] theorem State.modSafe_keep (f : SafeSt → SafeSt) : (s.modSafe f).keep = s.keep := rfl
@[simp] theorem State.modSafe_sys (f : SafeSt → SafeSt) : (s.modSafe f).sys = s.sys := rfl
@[simp] theorem State.modSafe_cfg (f : SafeSt → SafeSt) : (s.modSafe f).cfg = s.cfg := rfl

/-! ### modAnt -/

@[simp] theorem State.modAnt_pending (c : Nat) (f : AntSt → AntSt) : (s.modAnt c f).pending = s.pending := rfl
@[simp] theorem State.modAnt_now (c : Nat) (f : AntSt → AntSt) : (s.modAnt c f).now = s.now := rfl
@[simp] theorem State.modAnt_free (c : Nat) (f : AntSt → AntSt) : (s.modAnt c f).free = s.free := rfl
@[simp] theorem State.modAnt_sent (c : Nat) (f : AntSt → AntSt) : (s.modAnt c f).sent = s.sent := rfl
@[simp] theorem State.modAnt_alarms (c : Nat) (f : AntSt → AntSt) : (s.modAnt c f).alarms = s.alarms := rfl
@[simp] theorem State.modAnt_part (c : Nat) (f : AntSt → AntSt) : (s.modAnt c f).part = s.part := rfl
@[simp] theorem State.modAnt_dram (c : Nat) (f : AntSt → AntSt) : (s.modAnt c f).dram = s.dram := rfl
@[simp] theorem State.modAnt_frame (c : Nat) (f : AntSt → AntSt) : (s.modAnt c f).frame = s.frame := rfl
@[simp] theorem State.modAnt_est (c : Nat) (f : AntSt → AntSt) : (s.modAnt c f).est = s.est := rfl
@[simp] theorem State.modAnt_hold (c : Nat) (f : AntSt → AntSt) : (s.modAnt c f).hold = s.hold := rfl
@[simp] theorem State.modAnt_alc (c : Nat) (f : AntSt → AntSt) : (s.modAnt c f).alc = s.alc := rfl
@[simp] theorem State.modAnt_cqa (c : Nat) (f : AntSt → AntSt) : (s.modAnt c f).cqa = s.cqa := rfl
@[simp] theorem State.modAnt_hen (c : Nat) (f : AntSt → AntSt) : (s.modAnt c f).hen = s.hen := rfl
@[simp] theorem State.modAnt_thr (c : Nat) (f : AntSt → AntSt) : (s.modAnt c f).thr = s.thr := rfl
@[simp] theorem State.modAnt_tmu (c : Nat) (f : AntSt → AntSt) : (s.modAnt c f).tmu = s.tmu := rfl
@[simp] theorem State.modAnt_cmd (c : Nat) (f : AntSt → AntSt) : (s.modAnt c f).cmd = s.cmd := rfl
@[simp] theorem State.modAnt_pnt (c : Nat) (f : AntSt → AntSt) : (s.modAnt c f).pnt = s.pnt := rfl
@[simp] theorem State.modAnt_red (c : Nat) (f : AntSt → AntSt) : (s.modAnt c f).red = s.red := rfl
@[simp] theorem State.modAnt_safe (c : Nat) (f : AntSt → AntSt) : (s.modAnt c f).safe = s.safe := rfl
@[simp] theorem State.modAnt_fio (c : Nat) (f : AntSt → AntSt) : (s.modAnt c f).fio = s.fio := rfl
@[simp] theorem State.modAnt_bus (c : Nat) (f : AntSt → AntSt) : (s.modAnt c f).bus = s.bus := rfl
@[simp] theorem State.modAnt_dma (c : Nat) (f : AntSt → AntSt) : (s.modAnt c f).dma = s.dma := rfl
@[simp] theorem State.modAnt_log (c : Nat) (f : AntSt → AntSt) : (s.modAnt c f).log = s.log := rfl
@[simp] theorem State.modAnt_keep (c : Nat) (f : AntSt → AntSt) : (s.modAnt c f).keep = s.keep := rfl
@[simp] theorem State.modAnt_sys (c : Nat) (f : AntSt → AntSt) : (s.modAnt c f).sys = s.sys := rfl
@[simp] theorem State.modAnt_cfg (c : Nat) (f : AntSt → AntSt) : (s.modAnt c f).cfg = s.cfg := rfl

/-! ### modSt -/

@[simp] theorem State.modSt_pending (f : SatTime → SatTime) : (s.modSt f).pending = s.pending := rfl
@[simp] theorem State.modSt_now (f : SatTime → SatTime) : (s.modSt f).now = s.now := rfl
@[simp] theorem State.modSt_free (f : SatTime → SatTime) : (s.modSt f).free = s.free := rfl
@[simp] theorem State.modSt_sent (f : SatTime → SatTime) : (s.modSt f).sent = s.sent := rfl
@[simp] theorem State.modSt_alarms (f : SatTime → SatTime) : (s.modSt f).alarms = s.alarms := rfl
@[simp] theorem State.modSt_part (f : SatTime → SatTime) : (s.modSt f).part = s.part := rfl
@[simp] theorem State.modSt_dram (f : SatTime → SatTime) : (s.modSt f).dram = s.dram := rfl
@[simp] theorem State.modSt_frame (f : SatTime → SatTime) : (s.modSt f).frame = s.frame := rfl
@[simp] theorem State.modSt_est (f : SatTime → SatTime) : (s.modSt f).est = s.est := rfl
@[simp] theorem State.modSt_hold (f : SatTime → SatTime) : (s.modSt f).hold = s.hold := rfl
@[simp] theorem State.modSt_alc (f : SatTime → SatTime) : (s.modSt f).alc = s.alc := rfl
@[simp] theorem State.modSt_cqa (f : SatTime → SatTime) : (s.modSt f).cqa = s.cqa := rfl
@[simp] theorem State.modSt_hen (f : SatTime → SatTime) : (s.modSt f).hen = s.hen := rfl
@[simp] theorem State.modSt_thr (f : SatTime → SatTime) : (s.modSt f).thr = s.thr := rfl
@[simp] theorem State.modSt_tmu (f : SatTime → SatTime) : (s.modSt f).tmu = s.tmu := rfl
@[simp] theorem State.modSt_cmd (f : SatTime → SatTime) : (s.modSt f).cmd = s.cmd := rfl
@[simp] theorem State.modSt_pnt (f : SatTime → SatTime) : (s.modSt f).pnt = s.pnt := rfl
@[simp] theorem State.modSt_red (f : SatTime → SatTime) : (s.modSt f).red = s.red := rfl
@[simp] theorem State.modSt_safe (f : SatTime → SatTime) : (s.modSt f).safe = s.safe := rfl
@[simp] theorem State.modSt_fio (f : SatTime → SatTime) : (s.modSt f).fio = s.fio := rfl
@[simp] theorem State.modSt_bus (f : SatTime → SatTime) : (s.modSt f).bus = s.bus := rfl
@[simp] theorem State.modSt_dma (f : SatTime → SatTime) : (s.modSt f).dma = s.dma := rfl
@[simp] theorem State.modSt_log (f : SatTime → SatTime) : (s.modSt f).log = s.log := rfl
@[simp] theorem State.modSt_keep (f : SatTime → SatTime) : (s.modSt f).keep = s.keep := rfl
@[simp] theorem State.modSt_sys (f : SatTime → SatTime) : (s.modSt f).sys = s.sys := rfl
@[simp] theorem State.modSt_cfg (f : SatTime → SatTime) : (s.modSt f).cfg = s.cfg := rfl

/-! ### modTch -/

@[simp] theorem State.modTch_pending (c : Nat) (f : ThrChan → ThrChan) : (s.modTch c f).pending = s.pending := rfl
@[simp] theorem State.modTch_now (c : Nat) (f : ThrChan → ThrChan) : (s.modTch c f).now = s.now := rfl
@[simp] theorem State.modTch_free (c : Nat) (f : ThrChan → ThrChan) : (s.modTch c f).free = s.free := rfl
@[simp] theorem State.modTch_sent (c : Nat) (f : ThrChan → ThrChan) : (s.modTch c f).sent = s.sent := rfl
@[simp] theorem State.modTch_alarms (c : Nat) (f : ThrChan → ThrChan) : (s.modTch c f).alarms = s.alarms := rfl
@[simp] theorem State.modTch_part (c : Nat) (f : ThrChan → ThrChan) : (s.modTch c f).part = s.part := rfl
@[simp] theorem State.modTch_dram (c : Nat) (f : ThrChan → ThrChan) : (s.modTch c f).dram = s.dram := rfl
@[simp] theorem State.modTch_frame (c : Nat) (f : ThrChan → ThrChan) : (s.modTch c f).frame = s.frame := rfl
@[simp] theorem State.modTch_est (c : Nat) (f : ThrChan → ThrChan) : (s.modTch c f).est = s.est := rfl
@[simp] theorem State.modTch_hold (c : Nat) (f : ThrChan → ThrChan) : (s.modTch c f).hold = s.hold := rfl
@[simp] theorem State.modTch_alc (c : Nat) (f : ThrChan → ThrChan) : (s.modTch c f).alc = s.alc := rfl
@[simp] theorem State.modTch_cqa (c : Nat) (f : ThrChan → ThrChan) : (s.modTch c f).cqa = s.cqa := rfl
@[simp] theorem State.modTch_hen (c : Nat) (f : ThrChan → ThrChan) : (s.modTch c f).hen = s.hen := rfl
@[simp] theorem State.modTch_sat (c : Nat) (f : ThrChan → ThrChan) : (s.modTch c f).sat = s.sat := rfl
@[simp] theorem State.modTch_tmu (c : Nat) (f : ThrChan → ThrChan) : (s.modTch c f).tmu = s.tmu := rfl
@[simp] theorem State.modTch_cmd (c : Nat) (f : ThrChan → ThrChan) : (s.modTch c f).cmd = s.cmd := rfl
@[simp] theorem State.modTch_pnt (c : Nat) (f : ThrChan → ThrChan) : (s.modTch c f).pnt = s.pnt := rfl
@[simp] theorem State.modTch_red (c : Nat) (f : ThrChan → ThrChan) : (s.modTch c f).red = s.red := rfl
@[simp] theorem State.modTch_safe (c : Nat) (f : ThrChan → ThrChan) : (s.modTch c f).safe = s.safe := rfl
@[simp] theorem State.modTch_fio (c : Nat) (f : ThrChan → ThrChan) : (s.modTch c f).fio = s.fio := rfl
@[simp] theorem State.modTch_bus (c : Nat) (f : ThrChan → ThrChan) : (s.modTch c f).bus = s.bus := rfl
@[simp] theorem State.modTch_dma (c : Nat) (f : ThrChan → ThrChan) : (s.modTch c f).dma = s.dma := rfl
@[simp] theorem State.modTch_log (c : Nat) (f : ThrChan → ThrChan) : (s.modTch c f).log = s.log := rfl
@[simp] theorem State.modTch_keep (c : Nat) (f : ThrChan → ThrChan) : (s.modTch c f).keep = s.keep := rfl
@[simp] theorem State.modTch_sys (c : Nat) (f : ThrChan → ThrChan) : (s.modTch c f).sys = s.sys := rfl
@[simp] theorem State.modTch_cfg (c : Nat) (f : ThrChan → ThrChan) : (s.modTch c f).cfg = s.cfg := rfl

/-! ### modPulse -/

@[simp] theorem State.modPulse_pending (c : Nat) (f : PulseOut → PulseOut) : (s.modPulse c f).pending = s.pending := rfl
@[simp] theorem State.modPulse_now (c : Nat) (f : PulseOut → PulseOut) : (s.modPulse c f).now = s.now := rfl
@[simp] theorem State.modPulse_free (c : Nat) (f : PulseOut → PulseOut) : (s.modPulse c f).free = s.free := rfl
@[simp] theorem State.modPulse_sent (c : Nat) (f : PulseOut → PulseOut) : (s.modPulse c f).sent = s.sent := rfl
@[simp] theorem State.modPulse_alarms (c : Nat) (f : PulseOut → PulseOut) : (s.modPulse c f).alarms = s.alarms := rfl
@[simp] theorem State.modPulse_part (c : Nat) (f : PulseOut → PulseOut) : (s.modPulse c f).part = s.part := rfl
@[simp] theorem State.modPulse_dram (c : Nat) (f : PulseOut → PulseOut) : (s.modPulse c f).dram = s.dram := rfl
@[simp] theorem State.modPulse_frame (c : Nat) (f : PulseOut → PulseOut) : (s.modPulse c f).frame = s.frame := rfl
@[simp] theorem State.modPulse_est (c : Nat) (f : PulseOut → PulseOut) : (s.modPulse c f).est = s.est := rfl
@[simp] theorem State.modPulse_hold (c : Nat) (f : PulseOut → PulseOut) : (s.modPulse c f).hold = s.hold := rfl
@[simp] theorem State.modPulse_alc (c : Nat) (f : PulseOut → PulseOut) : (s.modPulse c f).alc = s.alc := rfl
@[simp] theorem State.modPulse_cqa (c : Nat) (f : PulseOut → PulseOut) : (s.modPulse c f).cqa = s.cqa := rfl
@[simp] theorem State.modPulse_hen (c : Nat) (f : PulseOut → PulseOut) : (s.modPulse c f).hen = s.hen := rfl
@[simp] theorem State.modPulse_thr (c : Nat) (f : PulseOut → PulseOut) : (s.modPulse c f).thr = s.thr := rfl
@[simp] theorem State.modPulse_sat (c : Nat) (f : PulseOut → PulseOut) : (s.modPulse c f).sat = s.sat := rfl
@[simp] theorem State.modPulse_cmd (c : Nat) (f : PulseOut → PulseOut) : (s.modPulse c f).cmd = s.cmd := rfl
@[simp] theorem State.modPulse_pnt (c : Nat) (f : PulseOut → PulseOut) : (s.modPulse c f).pnt = s.pnt := rfl
@[simp] theorem State.modPulse_red (c : Nat) (f : PulseOut → PulseOut) : (s.modPulse c f).red = s.red := rfl
@[simp] theorem State.modPulse_safe (c : Nat) (f : PulseOut → PulseOut) : (s.modPulse c f).safe = s.safe := rfl
@[simp] theorem State.modPulse_fio (c : Nat) (f : PulseOut → PulseOut) : (s.modPulse c f).fio = s.fio := rfl
@[simp] theorem State.modPulse_bus (c : Nat) (f : PulseOut → PulseOut) : (s.modPulse c f).bus = s.bus := rfl
@[simp] theorem State.modPulse_dma (c : Nat) (f : PulseOut → PulseOut) : (s.modPulse c f).dma = s.dma := rfl
@[simp] theorem State.modPulse_log (c : Nat) (f : PulseOut → PulseOut) : (s.modPulse c f).log = s.log := rfl
@[simp] theorem State.modPulse_keep (c : Nat) (f : PulseOut → PulseOut) : (s.modPulse c f).keep = s.keep := rfl
@[simp] theorem State.modPulse_sys (c : Nat) (f : PulseOut → PulseOut) : (s.modPulse c f).sys = s.sys := rfl
@[simp] theorem State.modPulse_cfg (c : Nat) (f : PulseOut → PulseOut) : (s.modPulse c f).cfg = s.cfg := rfl

/-! ### modCap -/

@[simp] theorem State.modCap_pending (c : Nat) (f : CapFifo → CapFifo) : (s.modCap c f).pending = s.pending := rfl
@[simp] theorem State.modCap_now (c : Nat) (f : CapFifo → CapFifo) : (s.modCap c f).now = s.now := rfl
@[simp] theorem State.modCap_free (c : Nat) (f : CapFifo → CapFifo) : (s.modCap c f).free = s.free := rfl
@[simp] theorem State.modCap_sent (c : Nat) (f : CapFifo → CapFifo) : (s.modCap c f).sent = s.sent := rfl
@[simp] theorem State.modCap_alarms (c : Nat) (f : CapFifo → CapFifo) : (s.modCap c f).alarms = s.alarms := rfl
@[simp] theorem State.modCap_part (c : Nat) (f : CapFifo → CapFifo) : (s.modCap c f).part = s.part := rfl
@[simp] theorem State.modCap_dram (c : Nat) (f : CapFifo → CapFifo) : (s.modCap c f).dram = s.dram := rfl
@[simp] theorem State.modCap_frame (c : Nat) (f : CapFifo → CapFifo) : (s.modCap c f).frame = s.frame := rfl
@[simp] theorem State.modCap_est (c : Nat) (f : CapFifo → CapFifo) : (s.modCap c f).est = s.est := rfl
@[simp] theorem State.modCap_hold (c : Nat) (f : CapFifo → CapFifo) : (s.modCap c f).hold = s.hold := rfl
@[simp] theorem State.modCap_alc (c : Nat) (f : CapFifo → CapFifo) : (s.modCap c f).alc = s.alc := rfl
@[simp] theorem State.modCap_cqa (c : Nat) (f : CapFifo → CapFifo) : (s.modCap c f).cqa = s.cqa := rfl
@[simp] theorem State.modCap_hen (c : Nat) (f : CapFifo → CapFifo) : (s.modCap c f).hen = s.hen := rfl
@[simp] theorem State.modCap_thr (c : Nat) (f : CapFifo → CapFifo) : (s.modCap c f).thr = s.thr := rfl
@[simp] theorem State.modCap_sat (c : Nat) (f : CapFifo → CapFifo) : (s.modCap c f).sat = s.sat := rfl
@[simp] theorem State.modCap_cmd (c : Nat) (f : CapFifo → CapFifo) : (s.modCap c f).cmd = s.cmd := rfl
@[simp] theorem State.modCap_pnt (c : Nat) (f : CapFifo → CapFifo) : (s.modCap c f).pnt = s.pnt := rfl
@[simp] theorem State.modCap_red (c : Nat) (f : CapFifo → CapFifo) : (s.modCap c f).red = s.red := rfl
@[simp] theorem State.modCap_safe (c : Nat) (f : CapFifo → CapFifo) : (s.modCap c f).safe = s.safe := rfl
@[simp] theorem State.modCap_fio (c : Nat) (f : CapFifo → CapFifo) : (s.modCap c f).fio = s.fio := rfl
@[simp] theorem State.modCap_bus (c : Nat) (f : CapFifo → CapFifo) : (s.modCap c f).bus = s.bus := rfl
@[simp] theorem State.modCap_dma (c : Nat) (f : CapFifo → CapFifo) : (s.modCap c f).dma = s.dma := rfl
@[simp] theorem State.modCap_log (c : Nat) (f : CapFifo → CapFifo) : (s.modCap c f).log = s.log := rfl
@[simp] theorem State.modCap_keep (c : Nat) (f : CapFifo → CapFifo) : (s.modCap c f).keep = s.keep := rfl
@[simp] theorem State.modCap_sys (c : Nat) (f : CapFifo → CapFifo) : (s.modCap c f).sys = s.sys := rfl
@[simp] theorem State.modCap_cfg (c : Nat) (f : CapFifo → CapFifo) : (s.modCap c f).cfg = s.cfg := rfl

/-! ### Readings of a state in which a command has arrived -/

@[simp] theorem State.arrive_dom (t : Nat) (d : Nat) : (s.arrive t).dom d = s.dom d := rfl
@[simp] theorem State.emit_dom (e0 : Emit) (d : Nat) : (s.emit e0).dom d = s.dom d := rfl
@[simp] theorem State.arrive_parOf (t : Nat) (p : Param) (i : Nat) : (s.arrive t).par? p i = s.par? p i := rfl
@[simp] theorem State.emit_parOf (e0 : Emit) (p : Param) (i : Nat) : (s.emit e0).par? p i = s.par? p i := rfl
@[simp] theorem State.arrive_par (t : Nat) (p : Param) (i : Nat) : (s.arrive t).par p i = s.par p i := rfl
@[simp] theorem State.emit_par (e0 : Emit) (p : Param) (i : Nat) : (s.emit e0).par p i = s.par p i := rfl
@[simp] theorem State.arrive_parN (t : Nat) (p : Param) (i : Nat) : (s.arrive t).parN p i = s.parN p i := rfl
@[simp] theorem State.emit_parN (e0 : Emit) (p : Param) (i : Nat) : (s.emit e0).parN p i = s.parN p i := rfl
@[simp] theorem State.arrive_parB (t : Nat) (p : Param) (i : Nat) : (s.arrive t).parB p i = s.parB p i := rfl
@[simp] theorem State.emit_parB (e0 : Emit) (p : Param) (i : Nat) : (s.emit e0).parB p i = s.parB p i := rfl
@[simp] theorem State.arrive_parNs (t : Nat) (p : Param) (i : Nat) : (s.arrive t).parNs p i = s.parNs p i := rfl
@[simp] theorem State.emit_parNs (e0 : Emit) (p : Param) (i : Nat) : (s.emit e0).parNs p i = s.parNs p i := rfl
@[simp] theorem State.arrive_parMs (t : Nat) (p : Param) (i : Nat) : (s.arrive t).parMs p i = s.parMs p i := rfl
@[simp] theorem State.emit_parMs (e0 : Emit) (p : Param) (i : Nat) : (s.emit e0).parMs p i = s.parMs p i := rfl
@[simp] theorem State.arrive_parL (t : Nat) (p : Param) (i : Nat) : (s.arrive t).parL p i = s.parL p i := rfl
@[simp] theorem State.emit_parL (e0 : Emit) (p : Param) (i : Nat) : (s.emit e0).parL p i = s.parL p i := rfl
@[simp] theorem State.arrive_alarmOn (t : Nat) (e : EvCode) (i : Nat) : (s.arrive t).alarmOn e i = s.alarmOn e i := rfl
@[simp] theorem State.emit_alarmOn (e0 : Emit) (e : EvCode) (i : Nat) : (s.emit e0).alarmOn e i = s.alarmOn e i := rfl
@[simp] theorem State.arrive_point (t : Nat) (p : Nat) : (s.arrive t).point p = s.point p := rfl
@[simp] theorem State.emit_point (e0 : Emit) (p : Nat) : (s.emit e0).point p = s.point p := rfl
@[simp] theorem State.arrive_sessOf (t : Nat) (k : Nat) : (s.arrive t).sess? k = s.sess? k := rfl
@[simp] theorem State.emit_sessOf (e0 : Emit) (k : Nat) : (s.emit e0).sess? k = s.sess? k := rfl
@[simp] theorem State.arrive_tch (t : Nat) (k : Nat) : (s.arrive t).tch k = s.tch k := rfl
@[simp] theorem State.emit_tch (e0 : Emit) (k : Nat) : (s.emit e0).tch k = s.tch k := rfl
@[simp] theorem State.arrive_ach (t : Nat) (k : Nat) : (s.arrive t).ach k = s.ach k := rfl
@[simp] theorem State.emit_ach (e0 : Emit) (k : Nat) : (s.emit e0).ach k = s.ach k := rfl
@[simp] theorem State.arrive_sect (t : Nat) (k : Nat) : (s.arrive t).sect k = s.sect k := rfl
@[simp] theorem State.emit_sect (e0 : Emit) (k : Nat) : (s.emit e0).sect k = s.sect k := rfl
@[simp] theorem State.arrive_cl (t : Nat) (k : Nat) : (s.arrive t).cl k = s.cl k := rfl
@[simp] theorem State.emit_cl (e0 : Emit) (k : Nat) : (s.emit e0).cl k = s.cl k := rfl
@[simp] theorem State.arrive_hq (t : Nat) (k : Nat) : (s.arrive t).hq k = s.hq k := rfl
@[simp] theorem State.emit_hq (e0 : Emit) (k : Nat) : (s.emit e0).hq k = s.hq k := rfl
@[simp] theorem State.arrive_dch (t : Nat) (k : Nat) : (s.arrive t).dch k = s.dch k := rfl
@[simp] theorem State.emit_dch (e0 : Emit) (k : Nat) : (s.emit e0).dch k = s.dch k := rfl
@[simp] theorem State.arrive_port (t : Nat) (k : Nat) : (s.arrive t).port k = s.port k := rfl
@[simp] theorem State.emit_port (e0 : Emit) (k : Nat) : (s.emit e0).port k = s.port k := rfl
@[simp] theorem State.arrive_box (t : Nat) (k j : Nat) : (s.arrive t).box k j = s.box k j := rfl
@[simp] theorem State.emit_box (e0 : Emit) (k j : Nat) : (s.emit e0).box k j = s.box k j := rfl
@[simp] theorem State.arrive_ser (t : Nat) (k : Nat) : (s.arrive t).ser k = s.ser k := rfl
@[simp] theorem State.emit_ser (e0 : Emit) (k : Nat) : (s.emit e0).ser k = s.ser k := rfl
@[simp] theorem State.arrive_fch (t : Nat) (k : Nat) : (s.arrive t).fch k = s.fch k := rfl
@[simp] theorem State.emit_fch (e0 : Emit) (k : Nat) : (s.emit e0).fch k = s.fch k := rfl
@[simp] theorem State.arrive_fgr (t : Nat) (k : Nat) : (s.arrive t).fgr k = s.fgr k := rfl
@[simp] theorem State.emit_fgr (e0 : Emit) (k : Nat) : (s.emit e0).fgr k = s.fgr k := rfl
@[simp] theorem State.arrive_vc (t : Nat) (k : Nat) : (s.arrive t).vc k = s.vc k := rfl
@[simp] theorem State.emit_vc (e0 : Emit) (k : Nat) : (s.emit e0).vc k = s.vc k := rfl
@[simp] theorem State.arrive_pulse (t : Nat) (k : Nat) : (s.arrive t).pulse k = s.pulse k := rfl
@[simp] theorem State.emit_pulse (e0 : Emit) (k : Nat) : (s.emit e0).pulse k = s.pulse k := rfl
@[simp] theorem State.arrive_slot (t : Nat) (k : Nat) : (s.arrive t).slot k = s.slot k := rfl
@[simp] theorem State.emit_slot (e0 : Emit) (k : Nat) : (s.emit e0).slot k = s.slot k := rfl
@[simp] theorem State.arrive_rdPort (t : Nat) (k : Who) : (s.arrive t).rdPort k = s.rdPort k := rfl
@[simp] theorem State.emit_rdPort (e0 : Emit) (k : Who) : (s.emit e0).rdPort k = s.rdPort k := rfl
@[simp] theorem State.arrive_imgOf (t : Nat) (k : Nat) : (s.arrive t).img? k = s.img? k := rfl
@[simp] theorem State.emit_imgOf (e0 : Emit) (k : Nat) : (s.emit e0).img? k = s.img? k := rfl
@[simp] theorem State.arrive_ant (t : Nat) (k : Nat) : (s.arrive t).ant k = s.ant k := rfl
@[simp] theorem State.emit_ant (e0 : Emit) (k : Nat) : (s.emit e0).ant k = s.ant k := rfl

/-! ### A numbered unit that is changed, and the others -/

theorem getD_modify_self {α : Type} {l : List α} {k : Nat} (f : α → α) (d : α) (h : k < l.length) : (l.modify k f).getD k d = f (l.getD k d) := by
  simp [List.getD, List.getElem?_eq_getElem h]

theorem getD_modify_ne {α : Type} {l : List α} {k j : Nat} (f : α → α) (d : α) (h : k ≠ j) : (l.modify k f).getD j d = l.getD j d := by
  simp [List.getD, h]

theorem State.tch_modTch {s : State} {c : Nat} (f : ThrChan → ThrChan) (h : c - 1 < s.thr.chans.length) : (s.modTch c f).tch c = f (s.tch c) := getD_modify_self f _ h
theorem State.tch_modTch_ne {s : State} {c k : Nat} (f : ThrChan → ThrChan) (h : c - 1 ≠ k - 1) : (s.modTch c f).tch k = s.tch k := getD_modify_ne f _ h
theorem State.ach_modAch {s : State} {c : Nat} (f : AlcChan → AlcChan) (h : c - 1 < s.alc.chans.length) : (s.modAch c f).ach c = f (s.ach c) := getD_modify_self f _ h
theorem State.ach_modAch_ne {s : State} {c k : Nat} (f : AlcChan → AlcChan) (h : c - 1 ≠ k - 1) : (s.modAch c f).ach k = s.ach k := getD_modify_ne f _ h
theorem State.sect_modSect {s : State} {c : Nat} (f : PwrSection → PwrSection) (h : c - 1 < s.alc.sections.length) : (s.modSect c f).sect c = f (s.sect c) := getD_modify_self f _ h
theorem State.sect_modSect_ne {s : State} {c k : Nat} (f : PwrSection → PwrSection) (h : c - 1 ≠ k - 1) : (s.modSect c f).sect k = s.sect k := getD_modify_ne f _ h
theorem State.port_modPort {s : State} {c : Nat} (f : CanPort → CanPort) (h : c - 1 < s.bus.can.length) : (s.modPort c f).port c = f (s.port c) := getD_modify_self f _ h
theorem State.port_modPort_ne {s : State} {c k : Nat} (f : CanPort → CanPort) (h : c - 1 ≠ k - 1) : (s.modPort c f).port k = s.port k := getD_modify_ne f _ h
theorem State.ser_modSer {s : State} {c : Nat} (f : SerPort → SerPort) (h : c - 1 < s.bus.ser.length) : (s.modSer c f).ser c = f (s.ser c) := getD_modify_self f _ h
theorem State.ser_modSer_ne {s : State} {c k : Nat} (f : SerPort → SerPort) (h : c - 1 ≠ k - 1) : (s.modSer c f).ser k = s.ser k := getD_modify_ne f _ h
theorem State.fch_modFch {s : State} {c : Nat} (f : FioChan → FioChan) (h : c - 1 < s.fio.chans.length) : (s.modFch c f).fch c = f (s.fch c) := getD_modify_self f _ h
theorem State.fch_modFch_ne {s : State} {c k : Nat} (f : FioChan → FioChan) (h : c - 1 ≠ k - 1) : (s.modFch c f).fch k = s.fch k := getD_modify_ne f _ h
theorem State.fgr_modFgr {s : State} {c : Nat} (f : FioGroup → FioGroup) (h : c - 1 < s.fio.groups.length) : (s.modFgr c f).fgr c = f (s.fgr c) := getD_modify_self f _ h
theorem State.fgr_modFgr_ne {s : State} {c k : Nat} (f : FioGroup → FioGroup) (h : c - 1 ≠ k - 1) : (s.modFgr c f).fgr k = s.fgr k := getD_modify_ne f _ h
theorem State.ant_modAnt {s : State} {c : Nat} (f : AntSt → AntSt) (h : c - 1 < s.sat.ants.length) : (s.modAnt c f).ant c = s.antShow (f (s.ant c)) := getD_modify_self (fun x => s.antShow (f x)) _ h
theorem State.ant_modAnt_ne {s : State} {c k : Nat} (f : AntSt → AntSt) (h : c - 1 ≠ k - 1) : (s.modAnt c f).ant k = s.ant k := getD_modify_ne (fun x => s.antShow (f x)) _ h
theorem State.dch_modDch {s : State} {c : Nat} (f : DmaChan → DmaChan) (h : c < s.dma.chans.length) : (s.modDch c f).dch c = f (s.dch c) := getD_modify_self f _ h
theorem State.dch_modDch_ne {s : State} {c k : Nat} (f : DmaChan → DmaChan) (h : c ≠ k) : (s.modDch c f).dch k = s.dch k := getD_modify_ne f _ h
theorem State.hq_modHq {s : State} {c : Nat} (f : HenQueue → HenQueue) (h : c < s.hen.queues.length) : (s.modHq c f).hq c = f (s.hq c) := getD_modify_self f _ h
theorem State.hq_modHq_ne {s : State} {c k : Nat} (f : HenQueue → HenQueue) (h : c ≠ k) : (s.modHq c f).hq k = s.hq k := getD_modify_ne f _ h
theorem State.slot_modSlot {s : State} {c : Nat} (f : RefSlot → RefSlot) (h : c < s.est.slots.length) : (s.modSlot c f).slot c = f (s.slot c) := getD_modify_self f _ h
theorem State.slot_modSlot_ne {s : State} {c k : Nat} (f : RefSlot → RefSlot) (h : c ≠ k) : (s.modSlot c f).slot k = s.slot k := getD_modify_ne f _ h
theorem State.pulse_modPulse {s : State} {c : Nat} (f : PulseOut → PulseOut) (h : c < s.tmu.pulses.length) : (s.modPulse c f).pulse c = f (s.pulse c) := getD_modify_self f _ h
theorem State.pulse_modPulse_ne {s : State} {c k : Nat} (f : PulseOut → PulseOut) (h : c ≠ k) : (s.modPulse c f).pulse k = s.pulse k := getD_modify_ne f _ h

/-- The numbers of units in a state that meets the invariant. -/
theorem State.Inv.units {s : State} (h : s.Inv) :
    s.thr.chans.length = 24 ∧ s.fio.chans.length = 96 ∧ s.fio.groups.length = 8 ∧ s.bus.can.length = 4 ∧ s.bus.ser.length = 12 ∧
    s.dma.chans.length = 32 ∧ s.tmu.hi.length = 3 ∧ s.tmu.caps.length = 8 ∧ s.tmu.pulses.length = 6 ∧ s.alc.chans.length = 24 ∧
    s.alc.sections.length = 4 ∧ s.cqa.cases.length = 127 ∧ s.est.slots.length = 28 ∧ s.hen.queues.length = 4 ∧ s.log.rd.length = 3 ∧
    s.pnt.watch.length = 16 ∧ s.sat.ants.length = 4 := by
  have k := h.2
  simp only [State.sizes, unitSizes, List.cons.injEq, and_true] at k
  simp [k]

end Sys2Proof.Machine
end

