-- ==== Sys2Proof/Laws/Arrive.lean ====
section
/-!
SUPPORT. What a command's arrival leaves of each reading of the state: everything that depends on neither the instant nor what was sent.
-/
namespace Sys2Proof.Machine
variable (s : State)

@[simp] theorem State.arrive_pwrSourceOf (t0 : Nat) (n port : Nat) (f : CanFrame) : (s.arrive t0).pwrSourceOf n port f = s.pwrSourceOf n port f := rfl
@[simp] theorem State.arrive_hasFrames (t0 : Nat) : (s.arrive t0).hasFrames = s.hasFrames := rfl
@[simp] theorem State.arrive_kappaCfg (t0 : Nat) (c : Nat) : (s.arrive t0).kappaCfg c = s.kappaCfg c := rfl
@[simp] theorem State.arrive_kappa (t0 : Nat) (c : Nat) : (s.arrive t0).kappa c = s.kappa c := rfl
@[simp] theorem State.arrive_slewUse (t0 : Nat) (c : Nat) : (s.arrive t0).slewUse c = s.slewUse c := rfl
@[simp] theorem State.arrive_power (t0 : Nat) (c : Nat) (t : Rat) : (s.arrive t0).power c t = s.power c t := rfl
@[simp] theorem State.arrive_rampN (t0 : Nat) (c : Nat) : (s.arrive t0).rampN c = s.rampN c := rfl
@[simp] theorem State.arrive_alcConf (t0 : Nat) (c : Nat) : (s.arrive t0).alcConf c = s.alcConf c := rfl
@[simp] theorem State.arrive_availOf (t0 : Nat) (c : Nat) : (s.arrive t0).availOf c = s.availOf c := rfl
@[simp] theorem State.arrive_alcIn (t0 : Nat) (c : Nat) : (s.arrive t0).alcIn c = s.alcIn c := rfl
@[simp] theorem State.arrive_alcList (t0 : Nat) : (s.arrive t0).alcList = s.alcList := rfl
@[simp] theorem State.arrive_availList (t0 : Nat) : (s.arrive t0).availList = s.availList := rfl
@[simp] theorem State.arrive_alcPoses (t0 : Nat) : (s.arrive t0).alcPoses = s.alcPoses := rfl
@[simp] theorem State.arrive_groynes (t0 : Nat) (c : Nat) : (s.arrive t0).groynes c = s.groynes c := rfl
@[simp] theorem State.arrive_gateMin (t0 : Nat) (c : Nat) (az d : Rat) : (s.arrive t0).gateMin c az d = s.gateMin c az d := rfl
@[simp] theorem State.arrive_cutCw (t0 : Nat) (c : Nat) (az : Rat) : (s.arrive t0).cutCw c az = s.cutCw c az := rfl
@[simp] theorem State.arrive_cutCcw (t0 : Nat) (c : Nat) (az : Rat) : (s.arrive t0).cutCcw c az = s.cutCcw c az := rfl
@[simp] theorem State.arrive_poseChan (t0 : Nat) (h : Option Rat) (lost : Bool) (c v0 : Nat) : (s.arrive t0).poseChan h lost c v0 = s.poseChan h lost c v0 := rfl
@[simp] theorem State.arrive_poseChans (t0 : Nat) (h : Option Rat) (lost : Nat → Bool) : (s.arrive t0).poseChans h lost = s.poseChans h lost := rfl
@[simp] theorem State.arrive_varForce (t0 : Nat) (v : AlcVar) : (s.arrive t0).varForce v = s.varForce v := rfl
@[simp] theorem State.arrive_sectOf (t0 : Nat) (c : Nat) : (s.arrive t0).sectOf c = s.sectOf c := rfl
@[simp] theorem State.arrive_prevPower (t0 : Nat) (secs : List Nat) : (s.arrive t0).prevPower secs = s.prevPower secs := rfl
@[simp] theorem State.arrive_tied (t0 : Nat) (n : Nat) : (s.arrive t0).tied n = s.tied n := rfl
@[simp] theorem State.arrive_groups (t0 : Nat) : (s.arrive t0).groups = s.groups := rfl
@[simp] theorem State.arrive_poseRow (t0 : Nat) (h : Option Rat) (vs : List AlcVar) (secs : List Nat) : (s.arrive t0).poseRow h vs secs = s.poseRow h vs secs := rfl
@[simp] theorem State.arrive_posePairs (t0 : Nat) (h : Option Rat) (v : AlcVar) : (s.arrive t0).posePairs h v = s.posePairs h v := rfl
@[simp] theorem State.arrive_poseCost (t0 : Nat) (wp : Rat) (berm : Option Rat) (v : AlcVar) : (s.arrive t0).poseCost wp berm v = s.poseCost wp berm v := rfl
@[simp] theorem State.arrive_poseBounds (t0 : Nat) (h : Option Rat) (v : AlcVar) : (s.arrive t0).poseBounds h v = s.poseBounds h v := rfl
@[simp] theorem State.arrive_bestCos (t0 : Nat) (c : Nat) (dir : Rat) : (s.arrive t0).bestCos c dir = s.bestCos c dir := rfl
@[simp] theorem State.arrive_tMax (t0 : Nat) (c : Nat) : (s.arrive t0).tMax c = s.tMax c := rfl
@[simp] theorem State.arrive_capChan (t0 : Nat) (c j : Nat) (sg : Rat) : (s.arrive t0).capChan c j sg = s.capChan c j sg := rfl
@[simp] theorem State.arrive_capScale (t0 : Nat) (cs : List Nat) (c : Nat) : (s.arrive t0).capScale cs c = s.capScale cs c := rfl
@[simp] theorem State.arrive_capOf (t0 : Nat) (j : Nat) : (s.arrive t0).capOf j = s.capOf j := rfl
@[simp] theorem State.arrive_bermTurn (t0 : Nat) (c : Nat) (a b : Rat) : (s.arrive t0).bermTurn c a b = s.bermTurn c a b := rfl
@[simp] theorem State.arrive_worstTurn (t0 : Nat) (c : Nat) (a : Rat) (l : List Rat) : (s.arrive t0).worstTurn c a l = s.worstTurn c a l := rfl
@[simp] theorem State.arrive_bermSet (t0 : Nat) (c : Nat) : (s.arrive t0).bermSet c = s.bermSet c := rfl
@[simp] theorem State.arrive_bermOn (t0 : Nat) : (s.arrive t0).bermOn = s.bermOn := rfl
@[simp] theorem State.arrive_pwrCurrent (t0 : Nat) (x : PwrSource) : (s.arrive t0).pwrCurrent x = s.pwrCurrent x := rfl
@[simp] theorem State.arrive_sectTie (t0 : Nat) (n : Nat) : (s.arrive t0).sectTie n = s.sectTie n := rfl
@[simp] theorem State.arrive_fbGood (t0 : Nat) (c : Nat) : (s.arrive t0).fbGood c = s.fbGood c := rfl
@[simp] theorem State.arrive_slackWithin (t0 : Nat) (t : Tau) (part : Rat) : (s.arrive t0).slackWithin t part = s.slackWithin t part := rfl
@[simp] theorem State.arrive_resultUsed (t0 : Nat) (r : Option NomResult) : (s.arrive t0).resultUsed r = s.resultUsed r := rfl
@[simp] theorem State.arrive_composeUsed (t0 : Nat) (v : AlcVar) (x : List Rat) : (s.arrive t0).composeUsed v x = s.composeUsed v x := rfl
@[simp] theorem State.arrive_clipCmd (t0 : Nat) (v : AlcVar) (t : Rat × Rat × Rat) : (s.arrive t0).clipCmd v t = s.clipCmd v t := rfl
@[simp] theorem State.arrive_composeRepeat (t0 : Nat) (p : AlcProb) : (s.arrive t0).composeRepeat p = s.composeRepeat p := rfl
@[simp] theorem State.arrive_rowPower (t0 : Nat) (p : AlcProb) (r : AlcRow) : (s.arrive t0).rowPower p r = s.rowPower p r := rfl
@[simp] theorem State.arrive_nominal (t0 : Nat) : (s.arrive t0).nominal = s.nominal := rfl
@[simp] theorem State.arrive_cmdPower (t0 : Nat) : (s.arrive t0).cmdPower = s.cmdPower := rfl
@[simp] theorem State.arrive_learnedVals (t0 : Nat) : (s.arrive t0).learnedVals = s.learnedVals := rfl
@[simp] theorem State.arrive_modelOf (t0 : Nat) (c : Nat) : (s.arrive t0).modelOf c = s.modelOf c := rfl
@[simp] theorem State.arrive_mapsUsed (t0 : Nat) : (s.arrive t0).mapsUsed = s.mapsUsed := rfl
@[simp] theorem State.arrive_ownNode (t0 : Nat) (n node : Nat) : (s.arrive t0).ownNode n node = s.ownNode n node := rfl
@[simp] theorem State.arrive_smaps (t0 : Nat) : (s.arrive t0).smaps = s.smaps := rfl
@[simp] theorem State.arrive_serBaud (t0 : Nat) (n : Nat) : (s.arrive t0).serBaud n = s.serBaud n := rfl
@[simp] theorem State.arrive_charBits (t0 : Nat) (n : Nat) : (s.arrive t0).charBits n = s.charBits n := rfl
@[simp] theorem State.arrive_serInterval (t0 : Nat) (n kind : Nat) : (s.arrive t0).serInterval n kind = s.serInterval n kind := rfl
@[simp] theorem State.arrive_portNamed (t0 : Nat) (n : Nat) : (s.arrive t0).portNamed n = s.portNamed n := rfl
@[simp] theorem State.arrive_portUsed (t0 : Nat) (n : Nat) : (s.arrive t0).portUsed n = s.portUsed n := rfl
@[simp] theorem State.arrive_canNode (t0 : Nat) (n : Nat) : (s.arrive t0).canNode n = s.canNode n := rfl
@[simp] theorem State.arrive_okSat (t0 : Nat) : (s.arrive t0).okSat = s.okSat := rfl
@[simp] theorem State.arrive_okMass (t0 : Nat) : (s.arrive t0).okMass = s.okMass := rfl
@[simp] theorem State.arrive_okSections (t0 : Nat) : (s.arrive t0).okSections = s.okSections := rfl
@[simp] theorem State.arrive_caseNamed (t0 : Nat) (k : Nat) : (s.arrive t0).caseNamed k = s.caseNamed k := rfl
@[simp] theorem State.arrive_okCases (t0 : Nat) : (s.arrive t0).okCases = s.okCases := rfl
@[simp] theorem State.arrive_okBudget (t0 : Nat) : (s.arrive t0).okBudget = s.okBudget := rfl
@[simp] theorem State.arrive_okMode (t0 : Nat) : (s.arrive t0).okMode = s.okMode := rfl
@[simp] theorem State.arrive_okSafe (t0 : Nat) : (s.arrive t0).okSafe = s.okSafe := rfl
@[simp] theorem State.arrive_okFio (t0 : Nat) : (s.arrive t0).okFio = s.okFio := rfl
@[simp] theorem State.arrive_okAuto (t0 : Nat) : (s.arrive t0).okAuto = s.okAuto := rfl
@[simp] theorem State.arrive_okMaps (t0 : Nat) : (s.arrive t0).okMaps = s.okMaps := rfl
@[simp] theorem State.arrive_okAnalog (t0 : Nat) : (s.arrive t0).okAnalog = s.okAnalog := rfl
@[simp] theorem State.arrive_okBerth (t0 : Nat) : (s.arrive t0).okBerth = s.okBerth := rfl
@[simp] theorem State.arrive_okSubst (t0 : Nat) : (s.arrive t0).okSubst = s.okSubst := rfl
@[simp] theorem State.arrive_okCapture (t0 : Nat) : (s.arrive t0).okCapture = s.okCapture := rfl
@[simp] theorem State.arrive_okIds (t0 : Nat) : (s.arrive t0).okIds = s.okIds := rfl
@[simp] theorem State.arrive_cfgRules (t0 : Nat) : (s.arrive t0).cfgRules = s.cfgRules := rfl
@[simp] theorem State.arrive_bodyFail (t0 : Nat) (b : List Byte) : (s.arrive t0).bodyFail b = s.bodyFail b := rfl
@[simp] theorem State.arrive_stagedBody (t0 : Nat) (len crc : Nat) : (s.arrive t0).stagedBody len crc = s.stagedBody len crc := rfl
@[simp] theorem State.arrive_stagedFail (t0 : Nat) (len crc : Nat) : (s.arrive t0).stagedFail len crc = s.stagedFail len crc := rfl
@[simp] theorem State.arrive_portCarries (t0 : Nat) (n : Nat) : (s.arrive t0).portCarries n = s.portCarries n := rfl
@[simp] theorem State.arrive_pairInHold (t0 : Nat) : (s.arrive t0).pairInHold = s.pairInHold := rfl
@[simp] theorem State.arrive_nextGen (t0 : Nat) : (s.arrive t0).nextGen = s.nextGen := rfl
@[simp] theorem State.arrive_copyOf (t0 : Nat) (gen : Nat) : (s.arrive t0).copyOf gen = s.copyOf gen := rfl
@[simp] theorem State.arrive_commitBody (t0 : Nat) (p : List Byte) : (s.arrive t0).commitBody p = s.commitBody p := rfl
@[simp] theorem State.arrive_pairUnit (t0 : Nat) : (s.arrive t0).pairUnit = s.pairUnit := rfl
@[simp] theorem State.arrive_mirrors (t0 : Nat) (x : Session) : (s.arrive t0).mirrors x = s.mirrors x := rfl
@[simp] theorem State.arrive_single (t0 : Nat) (x : Session) : (s.arrive t0).single x = s.single x := rfl
@[simp] theorem State.arrive_usedBlocks (t0 : Nat) : (s.arrive t0).usedBlocks = s.usedBlocks := rfl
@[simp] theorem State.arrive_freeBlocks (t0 : Nat) : (s.arrive t0).freeBlocks = s.freeBlocks := rfl
@[simp] theorem State.arrive_freeable (t0 : Nat) (e : JEntry) : (s.arrive t0).freeable e = s.freeable e := rfl
@[simp] theorem State.arrive_entryOf (t0 : Nat) (n : Nat) : (s.arrive t0).entry? n = s.entry? n := rfl
@[simp] theorem State.arrive_roomFor (t0 : Nat) (n : Nat) (acc : Bool) (p : List Byte) : (s.arrive t0).roomFor n acc p = s.roomFor n acc p := rfl
@[simp] theorem State.arrive_waiting (t0 : Nat) (n : Nat) : (s.arrive t0).waiting n = s.waiting n := rfl
@[simp] theorem State.arrive_caseLoss (t0 : Nat) (k : Nat) : (s.arrive t0).caseLoss k = s.caseLoss k := rfl
@[simp] theorem State.arrive_caseConf (t0 : Nat) (k : Nat) : (s.arrive t0).caseConf k = s.caseConf k := rfl
@[simp] theorem State.arrive_lossSects (t0 : Nat) (l : LossSet) : (s.arrive t0).lossSects l = s.lossSects l := rfl
@[simp] theorem State.arrive_tieAdded (t0 : Nat) (l : LossSet) : (s.arrive t0).tieAdded l = s.tieAdded l := rfl
@[simp] theorem State.arrive_lossChans (t0 : Nat) (l : LossSet) : (s.arrive t0).lossChans l = s.lossChans l := rfl
@[simp] theorem State.arrive_caseOn (t0 : Nat) (k : Nat) : (s.arrive t0).caseOn k = s.caseOn k := rfl
@[simp] theorem State.arrive_allLost (t0 : Nat) (l : LossSet) : (s.arrive t0).allLost l = s.allLost l := rfl
@[simp] theorem State.arrive_refPart (t0 : Nat) (l : LossSet) : (s.arrive t0).refPart l = s.refPart l := rfl
@[simp] theorem State.arrive_caseSt (t0 : Nat) (k : Nat) : (s.arrive t0).caseSt k = s.caseSt k := rfl
@[simp] theorem State.arrive_poseLoss (t0 : Nat) (m : Nat) (demand : Tau) : (s.arrive t0).poseLoss m demand = s.poseLoss m demand := rfl
@[simp] theorem State.arrive_caseTrec (t0 : Nat) (p : AlcProb) (x : List Rat) : (s.arrive t0).caseTrec p x = s.caseTrec p x := rfl
@[simp] theorem State.arrive_frames (t0 : Nat) (p : Param) : (s.arrive t0).frames p = s.frames p := rfl
@[simp] theorem State.arrive_budgetN (t0 : Nat) : (s.arrive t0).budgetN = s.budgetN := rfl
@[simp] theorem State.arrive_tOne (t0 : Nat) : (s.arrive t0).tOne = s.tOne := rfl
@[simp] theorem State.arrive_tTwo (t0 : Nat) : (s.arrive t0).tTwo = s.tTwo := rfl
@[simp] theorem State.arrive_freeArc (t0 : Nat) (c : Nat) : (s.arrive t0).freeArc c = s.freeArc c := rfl
@[simp] theorem State.arrive_envChan (t0 : Nat) (k : Rat) (c v0 : Nat) : (s.arrive t0).envChan k c v0 = s.envChan k c v0 := rfl
@[simp] theorem State.arrive_envBounds (t0 : Nat) (v : AlcVar) : (s.arrive t0).envBounds v = s.envBounds v := rfl
@[simp] theorem State.arrive_poseEnv (t0 : Nat) (d lost : Nat) : (s.arrive t0).poseEnv d lost = s.poseEnv d lost := rfl
@[simp] theorem State.arrive_envProblem (t0 : Nat) (p : Nat) : (s.arrive t0).envProblem p = s.envProblem p := rfl
@[simp] theorem State.arrive_envPick (t0 : Nat) : (s.arrive t0).envPick = s.envPick := rfl
@[simp] theorem State.arrive_envDue (t0 : Nat) : (s.arrive t0).envDue = s.envDue := rfl
@[simp] theorem State.arrive_caseCount (t0 : Nat) (st : Nat) : (s.arrive t0).caseCount st = s.caseCount st := rfl
@[simp] theorem State.arrive_worstCase (t0 : Nat) : (s.arrive t0).worstCase = s.worstCase := rfl
@[simp] theorem State.arrive_cqaFlags (t0 : Nat) : (s.arrive t0).cqaFlags = s.cqaFlags := rfl
@[simp] theorem State.arrive_dmaReach (t0 : Nat) (n a len : Nat) (write : Bool) : (s.arrive t0).dmaReach n a len write = s.dmaReach n a len write := rfl
@[simp] theorem State.arrive_dmaByte (t0 : Nat) (a : Nat) : (s.arrive t0).dmaByte a = s.dmaByte a := rfl
@[simp] theorem State.arrive_dmaDesc (t0 : Nat) (a : Nat) : (s.arrive t0).dmaDesc a = s.dmaDesc a := rfl
@[simp] theorem State.arrive_dmaCheck (t0 : Nat) (n : Nat) (d : DmaDesc) (raw : List Byte) : (s.arrive t0).dmaCheck n d raw = s.dmaCheck n d raw := rfl
@[simp] theorem State.arrive_heldItems (t0 : Nat) : (s.arrive t0).heldItems = s.heldItems := rfl
@[simp] theorem State.arrive_isSlot (t0 : Nat) (p : List Byte) : (s.arrive t0).isSlot p = s.isSlot p := rfl
@[simp] theorem State.arrive_slotKind (t0 : Nat) (i : Nat) : (s.arrive t0).slotKind i = s.slotKind i := rfl
@[simp] theorem State.arrive_slotSrc (t0 : Nat) (i : Nat) : (s.arrive t0).slotSrc i = s.slotSrc i := rfl
@[simp] theorem State.arrive_kindSlots (t0 : Nat) (k : Nat) : (s.arrive t0).kindSlots k = s.kindSlots k := rfl
@[simp] theorem State.arrive_acceptedOf (t0 : Nat) (k : Nat) : (s.arrive t0).acceptedOf k = s.acceptedOf k := rfl
@[simp] theorem State.arrive_slotRb (t0 : Nat) (i : Nat) : (s.arrive t0).slotRb i = s.slotRb i := rfl
@[simp] theorem State.arrive_minStatus (t0 : Nat) (i src : Nat) : (s.arrive t0).minStatus i src = s.minStatus i src := rfl
@[simp] theorem State.arrive_sampleOf (t0 : Nat) (i src : Nat) : (s.arrive t0).sampleOf i src = s.sampleOf i src := rfl
@[simp] theorem State.arrive_sampleUsable (t0 : Nat) (i : Nat) (x : Sample) : (s.arrive t0).sampleUsable i x = s.sampleUsable i x := rfl
@[simp] theorem State.arrive_motionOk (t0 : Nat) : (s.arrive t0).motionOk = s.motionOk := rfl
@[simp] theorem State.arrive_motionAt (t0 : Nat) (k t : Nat) : (s.arrive t0).motionAt k t = s.motionAt k t := rfl
@[simp] theorem State.arrive_waveOn (t0 : Nat) : (s.arrive t0).waveOn = s.waveOn := rfl
@[simp] theorem State.arrive_leverAt (t0 : Nat) (i t : Nat) (psi : Rat) : (s.arrive t0).leverAt i t psi = s.leverAt i t psi := rfl
@[simp] theorem State.arrive_refPoint (t0 : Nat) (i t : Nat) (r : FenceRec) : (s.arrive t0).refPoint i t r = s.refPoint i t r := rfl
@[simp] theorem State.arrive_measNE (t0 : Nat) (i : Nat) (x : Sample) (psi : Rat) : (s.arrive t0).measNE i x psi = s.measNE i x psi := rfl
@[simp] theorem State.arrive_innovation (t0 : Nat) (i : Nat) (x : Sample) (r : FenceRec) : (s.arrive t0).innovation i x r = s.innovation i x r := rfl
@[simp] theorem State.arrive_lim (t0 : Nat) (i : Nat) (p : Param) : (s.arrive t0).lim i p = s.lim i p := rfl
@[simp] theorem State.arrive_varOf (t0 : Nat) (i : Nat) (inn : List (Nat × List Rat)) (sd : Rat) : (s.arrive t0).varOf i inn sd = s.varOf i inn sd := rfl
@[simp] theorem State.arrive_refVar (t0 : Nat) (i : Nat) : (s.arrive t0).refVar i = s.refVar i := rfl
@[simp] theorem State.arrive_hCols (t0 : Nat) (kind : Nat) : (s.arrive t0).hCols kind = s.hCols kind := rfl
@[simp] theorem State.arrive_nisOf (t0 : Nat) (kind : Nat) (p : List Rat) (nu : List Rat) (r : Rat) : (s.arrive t0).nisOf kind p nu r = s.nisOf kind p nu r := rfl
@[simp] theorem State.arrive_rangeBad (t0 : Nat) (i : Nat) (x : Sample) : (s.arrive t0).rangeBad i x = s.rangeBad i x := rfl
@[simp] theorem State.arrive_refHeading (t0 : Nat) : (s.arrive t0).refHeading = s.refHeading := rfl
@[simp] theorem State.arrive_samplePos (t0 : Nat) (i : Nat) (x : Sample) (psi : Rat) : (s.arrive t0).samplePos i x psi = s.samplePos i x psi := rfl
@[simp] theorem State.arrive_medVals (t0 : Nat) (e : RefEval) (first : RefEval) : (s.arrive t0).medVals e first = s.medVals e first := rfl
@[simp] theorem State.arrive_medLims (t0 : Nat) (i : Nat) : (s.arrive t0).medLims i = s.medLims i := rfl
@[simp] theorem State.arrive_medDevs (t0 : Nat) (l : List RefEval) : (s.arrive t0).medDevs l = s.medDevs l := rfl
@[simp] theorem State.arrive_medianTest (t0 : Nat) (l : List RefEval) : (s.arrive t0).medianTest l = s.medianTest l := rfl
@[simp] theorem State.arrive_divTest (t0 : Nat) (e : RefEval) : (s.arrive t0).divTest e = s.divTest e := rfl
@[simp] theorem State.arrive_newSample (t0 : Nat) (i : Nat) : (s.arrive t0).newSample i = s.newSample i := rfl
@[simp] theorem State.arrive_alcModel (t0 : Nat) (c : Nat) : (s.arrive t0).alcModel c = s.alcModel c := rfl
@[simp] theorem State.arrive_alcDir (t0 : Nat) (c : Nat) : (s.arrive t0).alcDir c = s.alcDir c := rfl
@[simp] theorem State.arrive_chanForce (t0 : Nat) (c : Nat) (t ang l : Rat) : (s.arrive t0).chanForce c t ang l = s.chanForce c t ang l := rfl
@[simp] theorem State.arrive_tauThr (t0 : Nat) : (s.arrive t0).tauThr = s.tauThr := rfl
@[simp] theorem State.arrive_windForce (t0 : Nat) (v gamma : Rat) : (s.arrive t0).windForce v gamma = s.windForce v gamma := rfl
@[simp] theorem State.arrive_tauWind (t0 : Nat) : (s.arrive t0).tauWind = s.tauWind := rfl
@[simp] theorem State.arrive_estModel (t0 : Nat) : (s.arrive t0).estModel = s.estModel := rfl
@[simp] theorem State.arrive_estPredict (t0 : Nat) (c : EstCore) : (s.arrive t0).estPredict c = s.estPredict c := rfl
@[simp] theorem State.arrive_fenceRec (t0 : Nat) (c : EstCore) : (s.arrive t0).fenceRec c = s.fenceRec c := rfl
@[simp] theorem State.arrive_estHeld (t0 : Nat) (i : Nat) : (s.arrive t0).estHeld i = s.estHeld i := rfl
@[simp] theorem State.arrive_estUpdate (t0 : Nat) (c : EstCore) (kind : Nat) (nu : List Rat) (r : Rat) : (s.arrive t0).estUpdate c kind nu r = s.estUpdate c kind nu r := rfl
@[simp] theorem State.arrive_estOut (t0 : Nat) (o : EstOut) : (s.arrive t0).estOut o = s.estOut o := rfl
@[simp] theorem State.arrive_allFail (t0 : Nat) (l : List RefEval) : (s.arrive t0).allFail l = s.allFail l := rfl
@[simp] theorem State.arrive_lf (t0 : Nat) : (s.arrive t0).lf = s.lf := rfl
@[simp] theorem State.arrive_estGood (t0 : Nat) : (s.arrive t0).estGood = s.estGood := rfl
@[simp] theorem State.arrive_estMode (t0 : Nat) : (s.arrive t0).estMode = s.estMode := rfl
@[simp] theorem State.arrive_fioStamp (t0 : Nat) (began : Nat) : (s.arrive t0).fioStamp began = s.fioStamp began := rfl
@[simp] theorem State.arrive_fioNewest (t0 : Nat) (g : Nat) : (s.arrive t0).fioNewest g = s.fioNewest g := rfl
@[simp] theorem State.arrive_fcmdOut (t0 : Nat) (c : Nat) : (s.arrive t0).fcmdOut c = s.fcmdOut c := rfl
@[simp] theorem State.arrive_fmode (t0 : Nat) (c : Nat) : (s.arrive t0).fmode c = s.fmode c := rfl
@[simp] theorem State.arrive_fout (t0 : Nat) (c : Nat) : (s.arrive t0).fout c = s.fout c := rfl
@[simp] theorem State.arrive_fin (t0 : Nat) (c : Nat) : (s.arrive t0).fin c = s.fin c := rfl
@[simp] theorem State.arrive_fstate (t0 : Nat) (g : Nat) : (s.arrive t0).fstate g = s.fstate g := rfl
@[simp] theorem State.arrive_fsupplied (t0 : Nat) (g : Nat) : (s.arrive t0).fsupplied g = s.fsupplied g := rfl
@[simp] theorem State.arrive_fqual (t0 : Nat) (g : Nat) : (s.arrive t0).fqual g = s.fqual g := rfl
@[simp] theorem State.arrive_fchQual (t0 : Nat) (c : Nat) : (s.arrive t0).fchQual c = s.fchQual c := rfl
@[simp] theorem State.arrive_fneedsAuth (t0 : Nat) (c : Nat) : (s.arrive t0).fneedsAuth c = s.fneedsAuth c := rfl
@[simp] theorem State.arrive_fcommanded (t0 : Nat) (c : Nat) : (s.arrive t0).fcommanded c = s.fcommanded c := rfl
@[simp] theorem State.arrive_fswitch (t0 : Nat) (c : Nat) : (s.arrive t0).fswitch c = s.fswitch c := rfl
@[simp] theorem State.arrive_fioStat (t0 : Nat) (c : Nat) : (s.arrive t0).fioStat c = s.fioStat c := rfl
@[simp] theorem State.arrive_fioGstat (t0 : Nat) (g : Nat) : (s.arrive t0).fioGstat g = s.fioGstat g := rfl
@[simp] theorem State.arrive_fioPoints (t0 : Nat) : (s.arrive t0).fioPoints = s.fioPoints := rfl
@[simp] theorem State.arrive_sealAll (t0 : Nat) : (s.arrive t0).sealAll = s.sealAll := rfl
@[simp] theorem State.arrive_henSubmitChk (t0 : Nat) (p : List Byte) : (s.arrive t0).henSubmitChk p = s.henSubmitChk p := rfl
@[simp] theorem State.arrive_jobOf (t0 : Nat) (q id : Nat) : (s.arrive t0).job? q id = s.job? q id := rfl
@[simp] theorem State.arrive_nextWork (t0 : Nat) (i : Nat) : (s.arrive t0).nextWork i = s.nextWork i := rfl
@[simp] theorem State.arrive_stage (t0 : Nat) (j : HenJob) (idx : Nat) : (s.arrive t0).stage j idx = s.stage j idx := rfl
@[simp] theorem State.arrive_q0Held (t0 : Nat) : (s.arrive t0).q0Held = s.q0Held := rfl
@[simp] theorem State.arrive_descOk (t0 : Nat) (d : List Byte) (j : HenJob) : (s.arrive t0).descOk d j = s.descOk d j := rfl
@[simp] theorem State.arrive_henCheck (t0 : Nat) (q addr : Nat) (d : List Byte) (lo hi : Nat) : (s.arrive t0).henCheck q addr d lo hi = s.henCheck q addr d lo hi := rfl
@[simp] theorem State.arrive_clServes (t0 : Nat) (i : Nat) (j : HenJob) : (s.arrive t0).clServes i j = s.clServes i j := rfl
@[simp] theorem State.arrive_clFinished (t0 : Nat) (i : Nat) : (s.arrive t0).clFinished i = s.clFinished i := rfl
@[simp] theorem State.arrive_partJobs (t0 : Nat) : (s.arrive t0).partJobs = s.partJobs := rfl
@[simp] theorem State.arrive_henStat (t0 : Nat) : (s.arrive t0).henStat = s.henStat := rfl
@[simp] theorem State.arrive_hqRunning (t0 : Nat) (q : Nat) : (s.arrive t0).hqRunning q = s.hqRunning q := rfl
@[simp] theorem State.arrive_hqSusp (t0 : Nat) (q : Nat) : (s.arrive t0).hqSusp q = s.hqSusp q := rfl
@[simp] theorem State.arrive_henPoints (t0 : Nat) : (s.arrive t0).henPoints = s.henPoints := rfl
@[simp] theorem State.arrive_holdCmdMode (t0 : Nat) : (s.arrive t0).holdCmdMode = s.holdCmdMode := rfl
@[simp] theorem State.arrive_funcBarred (t0 : Nat) (f b : Nat) : (s.arrive t0).funcBarred f b = s.funcBarred f b := rfl
@[simp] theorem State.arrive_axPar (t0 : Nat) (x y n : Param) (i : Nat) : (s.arrive t0).axPar x y n i = s.axPar x y n i := rfl
@[simp] theorem State.arrive_fmax (t0 : Nat) (i : Nat) : (s.arrive t0).fmax i = s.fmax i := rfl
@[simp] theorem State.arrive_dtau (t0 : Nat) (i : Nat) : (s.arrive t0).dtau i = s.dtau i := rfl
@[simp] theorem State.arrive_massOf (t0 : Nat) (i : Nat) : (s.arrive t0).massOf i = s.massOf i := rfl
@[simp] theorem State.arrive_dampOf (t0 : Nat) (i : Nat) : (s.arrive t0).dampOf i = s.dampOf i := rfl
@[simp] theorem State.arrive_estN (t0 : Nat) : (s.arrive t0).estN = s.estN := rfl
@[simp] theorem State.arrive_estE (t0 : Nat) : (s.arrive t0).estE = s.estE := rfl
@[simp] theorem State.arrive_estPsi (t0 : Nat) : (s.arrive t0).estPsi = s.estPsi := rfl
@[simp] theorem State.arrive_estNu (t0 : Nat) (i : Nat) : (s.arrive t0).estNu i = s.estNu i := rfl
@[simp] theorem State.arrive_estBias (t0 : Nat) (i : Nat) : (s.arrive t0).estBias i = s.estBias i := rfl
@[simp] theorem State.arrive_bodyBias (t0 : Nat) : (s.arrive t0).bodyBias = s.bodyBias := rfl
@[simp] theorem State.arrive_posLost (t0 : Nat) : (s.arrive t0).posLost = s.posLost := rfl
@[simp] theorem State.arrive_hdgLost (t0 : Nat) : (s.arrive t0).hdgLost = s.hdgLost := rfl
@[simp] theorem State.arrive_holdRuns (t0 : Nat) : (s.arrive t0).holdRuns = s.holdRuns := rfl
@[simp] theorem State.arrive_berthOk (t0 : Nat) (b : Nat) : (s.arrive t0).berthOk b = s.berthOk b := rfl
@[simp] theorem State.arrive_berth (t0 : Nat) (b : Nat) : (s.arrive t0).berth b = s.berth b := rfl
@[simp] theorem State.arrive_gapOf (t0 : Nat) (b : Berth) (n e : Rat) : (s.arrive t0).gapOf b n e = s.gapOf b n e := rfl
@[simp] theorem State.arrive_gapNow (t0 : Nat) (b : Berth) : (s.arrive t0).gapNow b = s.gapNow b := rfl
@[simp] theorem State.arrive_bprPsi (t0 : Nat) (b : Berth) : (s.arrive t0).bprPsi b = s.bprPsi b := rfl
@[simp] theorem State.arrive_bprVel (t0 : Nat) (b : Berth) : (s.arrive t0).bprVel b = s.bprVel b := rfl
@[simp] theorem State.arrive_bCross (t0 : Nat) (b : Berth) : (s.arrive t0).bCross b = s.bCross b := rfl
@[simp] theorem State.arrive_pressForce (t0 : Nat) : (s.arrive t0).pressForce = s.pressForce := rfl
@[simp] theorem State.arrive_setpointFunc (t0 : Nat) : (s.arrive t0).setpointFunc = s.setpointFunc := rfl
@[simp] theorem State.arrive_aprArrived (t0 : Nat) : (s.arrive t0).aprArrived = s.aprArrived := rfl
@[simp] theorem State.arrive_shape (t0 : Nat) (j : Rat) : (s.arrive t0).shape j = s.shape j := rfl
@[simp] theorem State.arrive_joyAxis (t0 : Nat) (p : Param) : (s.arrive t0).joyAxis p = s.joyAxis p := rfl
@[simp] theorem State.arrive_wffAdded (t0 : Nat) : (s.arrive t0).wffAdded = s.wffAdded := rfl
@[simp] theorem State.arrive_aprV (t0 : Nat) (d : Rat) : (s.arrive t0).aprV d = s.aprV d := rfl
@[simp] theorem State.arrive_refPos (t0 : Nat) (c : HoldCore) (t : Rat) : (s.arrive t0).refPos c t = s.refPos c t := rfl
@[simp] theorem State.arrive_refHdg (t0 : Nat) (c : HoldCore) (t : Rat) : (s.arrive t0).refHdg c t = s.refHdg c t := rfl
@[simp] theorem State.arrive_directLaw (t0 : Nat) (i : Nat) (e nu b : Rat) : (s.arrive t0).directLaw i e nu b = s.directLaw i e nu b := rfl
@[simp] theorem State.arrive_yawLaw (t0 : Nat) (ref : Rat) : (s.arrive t0).yawLaw ref = s.yawLaw ref := rfl
@[simp] theorem State.arrive_directDemand (t0 : Nat) : (s.arrive t0).directDemand = s.directDemand := rfl
@[simp] theorem State.arrive_bprDemand (t0 : Nat) : (s.arrive t0).bprDemand = s.bprDemand := rfl
@[simp] theorem State.arrive_zoh (t0 : Nat) (i : Nat) : (s.arrive t0).zoh i = s.zoh i := rfl
@[simp] theorem State.arrive_mpcRef (t0 : Nat) : (s.arrive t0).mpcRef = s.mpcRef := rfl
@[simp] theorem State.arrive_mpcAxis (t0 : Nat) (refs : List (Rat × Rat × Rat × Rat × Rat × Rat)) (i : Nat) : (s.arrive t0).mpcAxis refs i = s.mpcAxis refs i := rfl
@[simp] theorem State.arrive_mpcStep (t0 : Nat) (k : Nat) : (s.arrive t0).mpcStep k = s.mpcStep k := rfl
@[simp] theorem State.arrive_mpcH (t0 : Nat) (a : MpcAxis) (p q : Nat) : (s.arrive t0).mpcH a p q = s.mpcH a p q := rfl
@[simp] theorem State.arrive_mpcG (t0 : Nat) (a : MpcAxis) (p : Nat) : (s.arrive t0).mpcG a p = s.mpcG a p := rfl
@[simp] theorem State.arrive_mpcBound (t0 : Nat) (k i : Nat) : (s.arrive t0).mpcBound k i = s.mpcBound k i := rfl
@[simp] theorem State.arrive_mpcProblem (t0 : Nat) : (s.arrive t0).mpcProblem = s.mpcProblem := rfl
@[simp] theorem State.arrive_excLimit (t0 : Nat) (i : Nat) : (s.arrive t0).excLimit i = s.excLimit i := rfl
@[simp] theorem State.arrive_newDemand (t0 : Nat) : (s.arrive t0).newDemand = s.newDemand := rfl
@[simp] theorem State.arrive_logTail (t0 : Nat) : (s.arrive t0).logTail = s.logTail := rfl
@[simp] theorem State.arrive_logSource (t0 : Nat) (src : Nat) : (s.arrive t0).logSource src = s.logSource src := rfl
@[simp] theorem State.arrive_snapOf (t0 : Nat) (n : Word) : (s.arrive t0).snap? n = s.snap? n := rfl
@[simp] theorem State.arrive_logPick (t0 : Nat) (src sev n : Nat) (q : Word) : (s.arrive t0).logPick src sev n q = s.logPick src sev n q := rfl
@[simp] theorem State.arrive_fieldNeeded (t0 : Nat) : (s.arrive t0).fieldNeeded = s.fieldNeeded := rfl
@[simp] theorem State.arrive_drainAdmitted (t0 : Nat) (d : Nat) : (s.arrive t0).drainAdmitted d = s.drainAdmitted d := rfl
@[simp] theorem State.arrive_domJob (t0 : Nat) (d : Nat) : (s.arrive t0).domJob d = s.domJob d := rfl
@[simp] theorem State.arrive_drainChk (t0 : Nat) (d : Nat) : (s.arrive t0).drainChk d = s.drainChk d := rfl
@[simp] theorem State.arrive_busIdle (t0 : Nat) : (s.arrive t0).busIdle = s.busIdle := rfl
@[simp] theorem State.arrive_imgStarts (t0 : Nat) (d : Nat) : (s.arrive t0).imgStarts d = s.imgStarts d := rfl
@[simp] theorem State.arrive_serviceStays (t0 : Nat) : (s.arrive t0).serviceStays = s.serviceStays := rfl
@[simp] theorem State.arrive_holdRefused (t0 : Nat) : (s.arrive t0).holdRefused = s.holdRefused := rfl
@[simp] theorem State.arrive_leaseMode (t0 : Nat) : (s.arrive t0).leaseMode = s.leaseMode := rfl
@[simp] theorem State.arrive_modeChk (t0 : Nat) (m : Mode) : (s.arrive t0).modeChk m = s.modeChk m := rfl
@[simp] theorem State.arrive_imgCheck (t0 : Nat) (b : List Byte) : (s.arrive t0).imgCheck b = s.imgCheck b := rfl
@[simp] theorem State.arrive_imgMask (t0 : Nat) (f : Nat → ImgSt → Bool) : (s.arrive t0).imgMask f = s.imgMask f := rfl
@[simp] theorem State.arrive_imgSlots (t0 : Nat) : (s.arrive t0).imgSlots = s.imgSlots := rfl
@[simp] theorem State.arrive_imgTrials (t0 : Nat) : (s.arrive t0).imgTrials = s.imgTrials := rfl
@[simp] theorem State.arrive_modeFlags (t0 : Nat) : (s.arrive t0).modeFlags = s.modeFlags := rfl
@[simp] theorem State.arrive_restoreChk (t0 : Nat) (d : Nat) : (s.arrive t0).restoreChk d = s.restoreChk d := rfl
@[simp] theorem State.arrive_openCount (t0 : Nat) : (s.arrive t0).openCount = s.openCount := rfl
@[simp] theorem State.arrive_dormantCount (t0 : Nat) : (s.arrive t0).dormantCount = s.dormantCount := rfl
@[simp] theorem State.arrive_outstanding (t0 : Nat) (n : Nat) : (s.arrive t0).outstanding n = s.outstanding n := rfl
@[simp] theorem State.arrive_peerOnLan (t0 : Nat) : (s.arrive t0).peerOnLan = s.peerOnLan := rfl
@[simp] theorem State.arrive_netUp (t0 : Nat) : (s.arrive t0).netUp = s.netUp := rfl
@[simp] theorem State.arrive_rawAt (t0 : Nat) (t : Nat) : (s.arrive t0).rawAt t = s.rawAt t := rfl
@[simp] theorem State.arrive_selDAt (t0 : Nat) (raw : Nat) : (s.arrive t0).selDAt raw = s.selDAt raw := rfl
@[simp] theorem State.arrive_selAt (t0 : Nat) (raw : Nat) : (s.arrive t0).selAt raw = s.selAt raw := rfl
@[simp] theorem State.arrive_selQual (t0 : Nat) : (s.arrive t0).selQual = s.selQual := rfl
@[simp] theorem State.arrive_hears (t0 : Nat) : (s.arrive t0).hears = s.hears := rfl
@[simp] theorem State.arrive_startFails (t0 : Nat) (failed d : Nat) : (s.arrive t0).startFails failed d = s.startFails failed d := rfl
@[simp] theorem State.arrive_replyKey (t0 : Nat) (n : Nat) : (s.arrive t0).replyKey n = s.replyKey n := rfl
@[simp] theorem State.arrive_holderParams (t0 : Nat) : (s.arrive t0).holderParams = s.holderParams := rfl
@[simp] theorem State.arrive_pairOk (t0 : Nat) : (s.arrive t0).pairOk = s.pairOk := rfl
@[simp] theorem State.arrive_oldestDormant (t0 : Nat) : (s.arrive t0).oldestDormant = s.oldestDormant := rfl
@[simp] theorem State.arrive_roleKey (t0 : Nat) (r : Role) : (s.arrive t0).roleKey r = s.roleKey r := rfl
@[simp] theorem State.arrive_keyLoading (t0 : Nat) (r : Role) (iface : Iface) (auth : Bool) : (s.arrive t0).keyLoading r iface auth = s.keyLoading r iface auth := rfl
@[simp] theorem State.arrive_openFree (t0 : Nat) (r : Role) (iface : Iface) : (s.arrive t0).openFree r iface = s.openFree r iface := rfl
@[simp] theorem State.arrive_pairEntry (t0 : Nat) (e : JEntry) : (s.arrive t0).pairEntry e = s.pairEntry e := rfl
@[simp] theorem State.arrive_cmdHeld (t0 : Nat) (n q : Nat) : (s.arrive t0).cmdHeld n q = s.cmdHeld n q := rfl
@[simp] theorem State.arrive_cfgType (t0 : Nat) (p : Nat) : (s.arrive t0).cfgType p = s.cfgType p := rfl
@[simp] theorem State.arrive_blankPoint (t0 : Nat) (p : Nat) : (s.arrive t0).blankPoint p = s.blankPoint p := rfl
@[simp] theorem State.arrive_fpoint (t0 : Nat) (p : Nat) : (s.arrive t0).fpoint p = s.fpoint p := rfl
@[simp] theorem State.arrive_fval (t0 : Nat) (p : Nat) : (s.arrive t0).fval p = s.fval p := rfl
@[simp] theorem State.arrive_forceOf (t0 : Nat) (p : Nat) : (s.arrive t0).force? p = s.force? p := rfl
@[simp] theorem State.arrive_substVal (t0 : Nat) (p : Nat) : (s.arrive t0).substVal p = s.substVal p := rfl
@[simp] theorem State.arrive_substs (t0 : Nat) (p : Nat) (q : Half) : (s.arrive t0).substs p q = s.substs p q := rfl
@[simp] theorem State.arrive_pointsOf (t0 : Nat) (k : Nat) : (s.arrive t0).pointsOf k = s.pointsOf k := rfl
@[simp] theorem State.arrive_prod (t0 : Nat) (k : Nat) : (s.arrive t0).prod k = s.prod k := rfl
@[simp] theorem State.arrive_prodCfg (t0 : Nat) (k : Nat) : (s.arrive t0).prodCfg k = s.prodCfg k := rfl
@[simp] theorem State.arrive_prodsIn (t0 : Nat) (st : Nat) : (s.arrive t0).prodsIn st = s.prodsIn st := rfl
@[simp] theorem State.arrive_findProd (t0 : Nat) (transport id udp : Nat) : (s.arrive t0).findProd transport id udp = s.findProd transport id udp := rfl
@[simp] theorem State.arrive_producedBy (t0 : Nat) (p k : Nat) : (s.arrive t0).producedBy p k = s.producedBy p k := rfl
@[simp] theorem State.arrive_timedShown (t0 : Nat) (p : Nat) : (s.arrive t0).timedShown p = s.timedShown p := rfl
@[simp] theorem State.arrive_subReport (t0 : Nat) (b : Subscr) : (s.arrive t0).subReport b = s.subReport b := rfl
@[simp] theorem State.arrive_notifyBytes (t0 : Nat) (b : Subscr) (ps : List Nat) : (s.arrive t0).notifyBytes b ps = s.notifyBytes b ps := rfl
@[simp] theorem State.arrive_notifies (t0 : Nat) (x : Session) : (s.arrive t0).notifies x = s.notifies x := rfl
@[simp] theorem State.arrive_forceBarred (t0 : Nat) (p : Nat) : (s.arrive t0).forceBarred p = s.forceBarred p := rfl
@[simp] theorem State.arrive_subNum (t0 : Nat) : (s.arrive t0).subNum = s.subNum := rfl
@[simp] theorem State.arrive_startCounters (t0 : Nat) (seq : Bool) (w : Option KeepWords) : (s.arrive t0).startCounters seq w = s.startCounters seq w := rfl
@[simp] theorem State.arrive_paths (t0 : Nat) : (s.arrive t0).paths = s.paths := rfl
@[simp] theorem State.arrive_checkCan (t0 : Nat) : (s.arrive t0).checkCan = s.checkCan := rfl
@[simp] theorem State.arrive_checkRole (t0 : Nat) : (s.arrive t0).checkRole = s.checkRole := rfl
@[simp] theorem State.arrive_mayYield (t0 : Nat) : (s.arrive t0).mayYield = s.mayYield := rfl
@[simp] theorem State.arrive_stsOf (t0 : Nat) (mask : Nat) : (s.arrive t0).stsOf mask = s.stsOf mask := rfl
@[simp] theorem State.arrive_mayRotate (t0 : Nat) : (s.arrive t0).mayRotate = s.mayRotate := rfl
@[simp] theorem State.arrive_releaseTo (t0 : Nat) : (s.arrive t0).releaseTo = s.releaseTo := rfl
@[simp] theorem State.arrive_peerOf (t0 : Nat) : (s.arrive t0).peerOf = s.peerOf := rfl
@[simp] theorem State.arrive_partner (t0 : Nat) (k : Nat) : (s.arrive t0).partner k = s.partner k := rfl
@[simp] theorem State.arrive_partners (t0 : Nat) : (s.arrive t0).partners = s.partners := rfl
@[simp] theorem State.arrive_heard (t0 : Nat) (k : Nat) : (s.arrive t0).heard k = s.heard k := rfl
@[simp] theorem State.arrive_heardCommanding (t0 : Nat) (k : Nat) : (s.arrive t0).heardCommanding k = s.heardCommanding k := rfl
@[simp] theorem State.arrive_recent (t0 : Nat) (f : Option Nat) : (s.arrive t0).recent f = s.recent f := rfl
@[simp] theorem State.arrive_heardMask (t0 : Nat) : (s.arrive t0).heardMask = s.heardMask := rfl
@[simp] theorem State.arrive_overlap (t0 : Nat) : (s.arrive t0).overlap = s.overlap := rfl
@[simp] theorem State.arrive_drained (t0 : Nat) : (s.arrive t0).drained = s.drained := rfl
@[simp] theorem State.arrive_scoreZero (t0 : Nat) : (s.arrive t0).scoreZero = s.scoreZero := rfl
@[simp] theorem State.arrive_score (t0 : Nat) : (s.arrive t0).score = s.score := rfl
@[simp] theorem State.arrive_shesen (t0 : Nat) (flags named : Nat) (epoch lo : Word) : (s.arrive t0).shesen flags named epoch lo = s.shesen flags named epoch lo := rfl
@[simp] theorem State.arrive_shesenOk (t0 : Nat) (b : List Byte) : (s.arrive t0).shesenOk b = s.shesenOk b := rfl
@[simp] theorem State.arrive_candidate (t0 : Nat) : (s.arrive t0).candidate = s.candidate := rfl
@[simp] theorem State.arrive_hbFlags (t0 : Nat) (release : Bool) : (s.arrive t0).hbFlags release = s.hbFlags release := rfl
@[simp] theorem State.arrive_arbiter (t0 : Nat) : (s.arrive t0).arbiter = s.arbiter := rfl
@[simp] theorem State.arrive_maySuspend (t0 : Nat) : (s.arrive t0).maySuspend = s.maySuspend := rfl
@[simp] theorem State.arrive_leased (t0 : Nat) : (s.arrive t0).leased = s.leased := rfl
@[simp] theorem State.arrive_pairHolderOf (t0 : Nat) (p : Nat) : (s.arrive t0).pairHolderOf p = s.pairHolderOf p := rfl
@[simp] theorem State.arrive_roleContact (t0 : Nat) (k : Nat) : (s.arrive t0).roleContact k = s.roleContact k := rfl
@[simp] theorem State.arrive_redRole (t0 : Nat) : (s.arrive t0).redRole = s.redRole := rfl
@[simp] theorem State.arrive_redHeard (t0 : Nat) : (s.arrive t0).redHeard = s.redHeard := rfl
@[simp] theorem State.arrive_redMode (t0 : Nat) : (s.arrive t0).redMode = s.redMode := rfl
@[simp] theorem State.arrive_peerScore (t0 : Nat) : (s.arrive t0).peerScore = s.peerScore := rfl
@[simp] theorem State.arrive_hiOf (t0 : Nat) (who : Who) : (s.arrive t0).hiOf who = s.hiOf who := rfl
@[simp] theorem State.arrive_pntRead (t0 : Nat) (o : Nat) : (s.arrive t0).pntRead o = s.pntRead o := rfl
@[simp] theorem State.arrive_thrRead (t0 : Nat) (c r : Nat) : (s.arrive t0).thrRead c r = s.thrRead c r := rfl
@[simp] theorem State.arrive_partCap (t0 : Nat) (f : Nat) : (s.arrive t0).partCap f = s.partCap f := rfl
@[simp] theorem State.arrive_partReads (t0 : Nat) (off : Nat) : (s.arrive t0).partReads off = s.partReads off := rfl
@[simp] theorem State.arrive_partWrites (t0 : Nat) (off : Nat) : (s.arrive t0).partWrites off = s.partWrites off := rfl
@[simp] theorem State.arrive_mayReg (t0 : Nat) (who : Who) (off : Nat) (write : Bool) : (s.arrive t0).mayReg who off write = s.mayReg who off write := rfl
@[simp] theorem State.arrive_safeP (t0 : Nat) : (s.arrive t0).safeP = s.safeP := rfl
@[simp] theorem State.arrive_safeUp (t0 : Nat) : (s.arrive t0).safeUp = s.safeUp := rfl
@[simp] theorem State.arrive_singleStop (t0 : Nat) : (s.arrive t0).singleStop = s.singleStop := rfl
@[simp] theorem State.arrive_mayTest (t0 : Nat) (b : Nat) : (s.arrive t0).mayTest b = s.mayTest b := rfl
@[simp] theorem State.arrive_safeCanon (t0 : Nat) : (s.arrive t0).safeCanon = s.safeCanon := rfl
@[simp] theorem State.arrive_satOn (t0 : Nat) : (s.arrive t0).satOn = s.satOn := rfl
@[simp] theorem State.arrive_satFeedsAccepted (t0 : Nat) : (s.arrive t0).satFeedsAccepted = s.satFeedsAccepted := rfl
@[simp] theorem State.arrive_antShow (t0 : Nat) (y : AntSt) : (s.arrive t0).antShow y = s.antShow y := rfl
@[simp] theorem State.arrive_biasWanted (t0 : Nat) (a : Nat) : (s.arrive t0).biasWanted a = s.biasWanted a := rfl
@[simp] theorem State.arrive_antUse (t0 : Nat) (a : Nat) : (s.arrive t0).antUse a = s.antUse a := rfl
@[simp] theorem State.arrive_masterAnt (t0 : Nat) : (s.arrive t0).masterAnt = s.masterAnt := rfl
@[simp] theorem State.arrive_antPos (t0 : Nat) (a : Nat) : (s.arrive t0).antPos a = s.antPos a := rfl
@[simp] theorem State.arrive_antPlaced (t0 : Nat) (a : Nat) : (s.arrive t0).antPlaced a = s.antPlaced a := rfl
@[simp] theorem State.arrive_antDist2 (t0 : Nat) (a b : Nat) : (s.arrive t0).antDist2 a b = s.antDist2 a b := rfl
@[simp] theorem State.arrive_sigOrder (t0 : Nat) (i : SigId) : (s.arrive t0).sigOrder i = s.sigOrder i := rfl
@[simp] theorem State.arrive_sigBefore (t0 : Nat) (a b : SatChan) : (s.arrive t0).sigBefore a b = s.sigBefore a b := rfl
@[simp] theorem State.arrive_lowestChan (t0 : Nat) : (s.arrive t0).lowestChan = s.lowestChan := rfl
@[simp] theorem State.arrive_masterSats (t0 : Nat) : (s.arrive t0).masterSats = s.masterSats := rfl
@[simp] theorem State.arrive_clockCheckFails (t0 : Nat) (off : Int) (f : Rat) (shares : Bool) : (s.arrive t0).clockCheckFails off f shares = s.clockCheckFails off f shares := rfl
@[simp] theorem State.arrive_epochNs (t0 : Nat) : (s.arrive t0).epochNs = s.epochNs := rfl
@[simp] theorem State.arrive_solObs (t0 : Nat) (kind ant : Nat) (obs : List SatObs) : (s.arrive t0).solObs kind ant obs = s.solObs kind ant obs := rfl
@[simp] theorem State.arrive_raimPass (t0 : Nat) (kind : Nat) (l : List SatObs) : (s.arrive t0).raimPass kind l = s.raimPass kind l := rfl
@[simp] theorem State.arrive_sbasCurrent (t0 : Nat) (obs : List SatObs) : (s.arrive t0).sbasCurrent obs = s.sbasCurrent obs := rfl
@[simp] theorem State.arrive_attAnts (t0 : Nat) (obs : List SatObs) : (s.arrive t0).attAnts obs = s.attAnts obs := rfl
@[simp] theorem State.arrive_attPair (t0 : Nat) (l : List Nat) : (s.arrive t0).attPair l = s.attPair l := rfl
@[simp] theorem State.arrive_attTriple (t0 : Nat) (l : List Nat) : (s.arrive t0).attTriple l = s.attTriple l := rfl
@[simp] theorem State.arrive_originSet (t0 : Nat) : (s.arrive t0).originSet = s.originSet := rfl
@[simp] theorem State.arrive_antFix (t0 : Nat) (a : Nat) (obs : List SatObs) : (s.arrive t0).antFix a obs = s.antFix a obs := rfl
@[simp] theorem State.arrive_posFrom (t0 : Nat) (o : EpochObs) (atts : List Nat) (att : SatBlock) : (s.arrive t0).posFrom o atts att = s.posFrom o atts att := rfl
@[simp] theorem State.arrive_pairAgrees (t0 : Nat) (o : PairObs) : (s.arrive t0).pairAgrees o = s.pairAgrees o := rfl
@[simp] theorem State.arrive_spoofRuns (t0 : Nat) (l : List PairObs) : (s.arrive t0).spoofRuns l = s.spoofRuns l := rfl
@[simp] theorem State.arrive_satStartType (t0 : Nat) (t : Nat) (bound : Option Rat) : (s.arrive t0).satStartType t bound = s.satStartType t bound := rfl
@[simp] theorem State.arrive_satFlags (t0 : Nat) : (s.arrive t0).satFlags = s.satFlags := rfl
@[simp] theorem State.arrive_thrOut (t0 : Nat) : (s.arrive t0).thrOut = s.thrOut := rfl
@[simp] theorem State.arrive_fioOut (t0 : Nat) : (s.arrive t0).fioOut = s.fioOut := rfl
@[simp] theorem State.arrive_surveyCaps (t0 : Nat) : (s.arrive t0).surveyCaps = s.surveyCaps := rfl
@[simp] theorem State.arrive_surveyBlocks (t0 : Nat) : (s.arrive t0).surveyBlocks = s.surveyBlocks := rfl
@[simp] theorem State.arrive_survey (t0 : Nat) : (s.arrive t0).survey = s.survey := rfl
@[simp] theorem State.arrive_fbChan (t0 : Nat) (port : Nat) (f : CanFrame) : (s.arrive t0).fbChan port f = s.fbChan port f := rfl
@[simp] theorem State.arrive_fbValid (t0 : Nat) (c : Nat) (func : Nat) (f : CanFrame) : (s.arrive t0).fbValid c func f = s.fbValid c func f := rfl
@[simp] theorem State.arrive_isThr (t0 : Nat) (p : List Byte) : (s.arrive t0).isThr p = s.isThr p := rfl
@[simp] theorem State.arrive_ttype (t0 : Nat) (c : Nat) : (s.arrive t0).ttype c = s.ttype c := rfl
@[simp] theorem State.arrive_tconf (t0 : Nat) (c : Nat) : (s.arrive t0).tconf c = s.tconf c := rfl
@[simp] theorem State.arrive_tfwd (t0 : Nat) (c : Nat) : (s.arrive t0).tfwd c = s.tfwd c := rfl
@[simp] theorem State.arrive_trev (t0 : Nat) (c : Nat) : (s.arrive t0).trev c = s.trev c := rfl
@[simp] theorem State.arrive_tlink (t0 : Nat) (c : Nat) : (s.arrive t0).tlink c = s.tlink c := rfl
@[simp] theorem State.arrive_tport (t0 : Nat) (c : Nat) : (s.arrive t0).tport c = s.tport c := rfl
@[simp] theorem State.arrive_tangled (t0 : Nat) (c : Nat) : (s.arrive t0).tangled c = s.tangled c := rfl
@[simp] theorem State.arrive_taoPin (t0 : Nat) (c x : Nat) : (s.arrive t0).taoPin c x = s.taoPin c x := rfl
@[simp] theorem State.arrive_taiPin (t0 : Nat) (c x : Nat) : (s.arrive t0).taiPin c x = s.taiPin c x := rfl
@[simp] theorem State.arrive_maxAge (t0 : Nat) (c : Nat) : (s.arrive t0).maxAge c = s.maxAge c := rfl
@[simp] theorem State.arrive_slew (t0 : Nat) (c : Nat) : (s.arrive t0).slew c = s.slew c := rfl
@[simp] theorem State.arrive_azSources (t0 : Nat) (c : Nat) : (s.arrive t0).azSources c = s.azSources c := rfl
@[simp] theorem State.arrive_encCpr (t0 : Nat) (c : Nat) : (s.arrive t0).encCpr c = s.encCpr c := rfl
@[simp] theorem State.arrive_encCount (t0 : Nat) (c raw : Nat) : (s.arrive t0).encCount c raw = s.encCount c raw := rfl
@[simp] theorem State.arrive_encAngle (t0 : Nat) (c raw : Nat) : (s.arrive t0).encAngle c raw = s.encAngle c raw := rfl
@[simp] theorem State.arrive_encRejects (t0 : Nat) (c : Nat) (x : AngSource) (r : EncRead) : (s.arrive t0).encRejects c x r = s.encRejects c x r := rfl
@[simp] theorem State.arrive_encTake (t0 : Nat) (c : Nat) (x : AngSource) (r : EncRead) : (s.arrive t0).encTake c x r = s.encTake c x r := rfl
@[simp] theorem State.arrive_gateAt (t0 : Nat) (c : Nat) (az : Rat) : (s.arrive t0).gateAt c az = s.gateAt c az := rfl
@[simp] theorem State.arrive_azAt (t0 : Nat) (c raw : Nat) : (s.arrive t0).azAt c raw = s.azAt c raw := rfl
@[simp] theorem State.arrive_capped (t0 : Nat) (c raw : Nat) (q : Rat) : (s.arrive t0).capped c raw q = s.capped c raw q := rfl
@[simp] theorem State.arrive_spFields (t0 : Nat) (c raw : Nat) (shadow : Bool) : (s.arrive t0).spFields c raw shadow = s.spFields c raw shadow := rfl
@[simp] theorem State.arrive_spId (t0 : Nat) (c : Nat) : (s.arrive t0).spId c = s.spId c := rfl
@[simp] theorem State.arrive_notReady (t0 : Nat) (c : Nat) : (s.arrive t0).notReady c = s.notReady c := rfl
@[simp] theorem State.arrive_angError (t0 : Nat) (c : Nat) : (s.arrive t0).angError c = s.angError c := rfl
@[simp] theorem State.arrive_wrongDir (t0 : Nat) (c : Nat) : (s.arrive t0).wrongDir c = s.wrongDir c := rfl
@[simp] theorem State.arrive_hasThrust (t0 : Nat) (c : Nat) : (s.arrive t0).hasThrust c = s.hasThrust c := rfl
@[simp] theorem State.arrive_mapPar (t0 : Nat) (p : Param) (c x j : Nat) : (s.arrive t0).mapPar p c x j = s.mapPar p c x j := rfl
@[simp] theorem State.arrive_sincos (t0 : Nat) (c : Nat) : (s.arrive t0).sincos c = s.sincos c := rfl
@[simp] theorem State.arrive_aoValue (t0 : Nat) (c x : Nat) : (s.arrive t0).aoValue c x = s.aoValue c x := rfl
@[simp] theorem State.arrive_aoWrite (t0 : Nat) (c x : Nat) : (s.arrive t0).aoWrite c x = s.aoWrite c x := rfl
@[simp] theorem State.arrive_aoDiff (t0 : Nat) (c x : Nat) (inp : SliceIn) : (s.arrive t0).aoDiff c x inp = s.aoDiff c x inp := rfl
@[simp] theorem State.arrive_aiValue (t0 : Nat) (c x : Nat) (inp : SliceIn) : (s.arrive t0).aiValue c x inp = s.aiValue c x inp := rfl
@[simp] theorem State.arrive_ptpSends (t0 : Nat) (n port kind : Nat) : (s.arrive t0).ptpSends n port kind = s.ptpSends n port kind := rfl
@[simp] theorem State.arrive_ptpInterval (t0 : Nat) (kind : Nat) : (s.arrive t0).ptpInterval kind = s.ptpInterval kind := rfl
@[simp] theorem State.arrive_satTimeAt (t0 : Nat) (t : Nat) : (s.arrive t0).satTimeAt t = s.satTimeAt t := rfl
@[simp] theorem State.arrive_satPresent (t0 : Nat) : (s.arrive t0).satPresent = s.satPresent := rfl
@[simp] theorem State.arrive_hoBound (t0 : Nat) (b0 dT t : Rat) : (s.arrive t0).hoBound b0 dT t = s.hoBound b0 dT t := rfl
@[simp] theorem State.arrive_vcCfgSrc (t0 : Nat) (n : Nat) : (s.arrive t0).vcCfgSrc n = s.vcCfgSrc n := rfl
@[simp] theorem State.arrive_stepBarred (t0 : Nat) (n : Nat) : (s.arrive t0).stepBarred n = s.stepBarred n := rfl
@[simp] theorem State.arrive_pulseClockAt (t0 : Nat) (clk raw : Nat) : (s.arrive t0).pulseClockAt clk raw = s.pulseClockAt clk raw := rfl
@[simp] theorem State.arrive_takesSat (t0 : Nat) : (s.arrive t0).takesSat = s.takesSat := rfl
@[simp] theorem State.arrive_ptpRole (t0 : Nat) : (s.arrive t0).ptpRole = s.ptpRole := rfl
@[simp] theorem State.arrive_annTimeout (t0 : Nat) : (s.arrive t0).annTimeout = s.annTimeout := rfl
@[simp] theorem State.arrive_capf (t0 : Nat) (f : Nat) : (s.arrive t0).capf f = s.capf f := rfl
@[simp] theorem State.arrive_data1 (t0 : Nat) (e : CapEntry) : (s.arrive t0).data1 e = s.data1 e := rfl
@[simp] theorem State.arrive_vcFlags (t0 : Nat) (n : Nat) : (s.arrive t0).vcFlags n = s.vcFlags n := rfl

end Sys2Proof.Machine
end

