-- ==== Sys2Proof/Laws/Beside.lean ====
section
/-!
SUPPORT. What the recorder's operations and the acceptance and reply of a command leave alone.
-/
namespace Sys2Proof.Machine

theorem onlyLog_refl (s : State) : OnlyLog s s := ⟨_, _, rfl⟩

theorem onlyLog_trans {a b c : State} (h : OnlyLog a b) (k : OnlyLog b c) : OnlyLog a c := by
  obtain ⟨_, _, rfl⟩ := h
  obtain ⟨_, _, rfl⟩ := k
  exact ⟨_, _, rfl⟩

theorem onlyLog_ite {s a b : State} {c : Prop} [Decidable c] (ha : OnlyLog s a) (hb : OnlyLog s b) : OnlyLog s (if c then a else b) := by
  split
  · exact ha
  · exact hb

theorem onlyLog_foldl {α : Type} {s a : State} {f : State → α → State} {l : List α} (h : OnlyLog s a)
    (hf : ∀ a x, OnlyLog s a → OnlyLog s (f a x)) : OnlyLog s (l.foldl f a) := by
  induction l generalizing a with
  | nil => exact h
  | cons x l ih => exact ih (hf a x h)

theorem onlyLog_takeSeq (s : State) : OnlyLog s s.takeSeq.2 := ⟨_, _, rfl⟩

theorem onlyLog_storeMram (s : State) (r : LogRec) : OnlyLog s (s.storeMram r) := by
  unfold State.storeMram
  dsimp only
  repeat' split
  all_goals exact ⟨_, _, rfl⟩

theorem onlyLog_storeSpill (s : State) (r : LogRec) : OnlyLog s (s.storeSpill r) := by
  unfold State.storeSpill
  dsimp only
  repeat' split
  all_goals exact ⟨_, _, rfl⟩

theorem onlyLog_storeRec (s : State) (r : LogRec) : OnlyLog s (s.storeRec r) := by
  unfold State.storeRec
  split
  · exact onlyLog_storeSpill s r
  · exact onlyLog_storeMram s r

theorem onlyLog_fireTrigger (s : State) (t : Nat) (r : LogRec) : OnlyLog s (s.fireTrigger t r).1 := by
  unfold State.fireTrigger
  dsimp only
  repeat' split
  all_goals exact ⟨_, _, rfl⟩

theorem onlyLog_numberEntry (s : State) (en : LogEntry) : OnlyLog s (s.numberEntry en).1 := by
  unfold State.numberEntry
  dsimp only
  split
  · exact ⟨_, _, rfl⟩
  · exact onlyLog_trans ⟨_, _, rfl⟩ (onlyLog_fireTrigger _ _ _)

theorem onlyLog_pushEntry (s : State) (e : LogEntry) : OnlyLog s (s.pushEntry e) := ⟨_, _, rfl⟩

theorem onlyLog_enqueue (s : State) (e : LogEntry) : OnlyLog s (s.enqueue e) := by
  unfold State.enqueue
  dsimp only
  repeat' split
  all_goals exact ⟨_, _, rfl⟩

theorem onlyLog_floodCheck (s : State) : OnlyLog s s.floodCheck := by
  unfold State.floodCheck
  split
  · exact onlyLog_trans ⟨_, _, rfl⟩ (onlyLog_enqueue _ _)
  · exact onlyLog_refl s

theorem onlyLog_direct (s : State) (e : EvCode) (c : Nat) (p : List Word) : OnlyLog s (s.direct e c p) :=
  onlyLog_trans (onlyLog_takeSeq s) (onlyLog_storeRec _ _)

theorem onlyLog_submitRec (s : State) (e : EvCode) (c : Nat) (p : List Word) (k : Option (Nat × Nat)) :
    OnlyLog s (s.submitRec e c p k) := by
  unfold State.submitRec
  refine onlyLog_ite (onlyLog_refl s) (onlyLog_ite (onlyLog_direct s e c p) (onlyLog_ite ?_ ?_))
  · exact onlyLog_trans (onlyLog_numberEntry s _) (onlyLog_storeRec _ _)
  · exact onlyLog_trans (onlyLog_enqueue s _) (onlyLog_floodCheck _)

theorem onlyLog_event (s : State) (e : EvCode) (p : List Word) : OnlyLog s (s.event e p) := onlyLog_submitRec s e _ p none

theorem onlyLog_disableRec (s : State) (e : EvCode) (a b c d f g : Nat) : OnlyLog s (s.disableRec e a b c d f g) :=
  onlyLog_submitRec s e _ _ none

theorem onlyLog_raiseAlarm (s : State) (e : EvCode) (i : Nat) (p : List Word) : OnlyLog s (s.raiseAlarm e i p) := by
  unfold State.raiseAlarm
  exact onlyLog_ite (onlyLog_refl s) (onlyLog_trans ⟨_, _, rfl⟩ (onlyLog_submitRec _ e _ _ none))

theorem onlyLog_clearAlarm (s : State) (e : EvCode) (i : Nat) : OnlyLog s (s.clearAlarm e i) := by
  unfold State.clearAlarm
  exact onlyLog_ite (onlyLog_trans ⟨_, _, rfl⟩ (onlyLog_submitRec _ e _ _ none)) (onlyLog_refl s)

theorem onlyLog_alarmIf (s : State) (c : Bool) (e : EvCode) (i : Nat) : OnlyLog s (s.alarmIf c e i) := by
  unfold State.alarmIf
  exact onlyLog_ite (onlyLog_raiseAlarm s e i []) (onlyLog_clearAlarm s e i)

theorem onlyCmd_refl (s : State) : OnlyCmd s s := ⟨_, _, _, _, rfl⟩

/-- A change of the commands' own state alone. -/
theorem onlyCmd_upd (s : State) {e : List Emit} {a : List (EvCode × Nat)} {l : LogSt} {c : CmdSt} :
    OnlyCmd s (State.mk s.pending s.now s.free e a s.part s.dram s.frame s.est s.hold s.alc s.cqa s.hen s.thr s.sat s.tmu c s.pnt s.red s.safe
      s.fio s.bus s.dma l s.keep s.sys s.cfg) := ⟨e, l, a, c, rfl⟩

theorem onlyCmd_trans {a b c : State} (h : OnlyCmd a b) (k : OnlyCmd b c) : OnlyCmd a c := by
  obtain ⟨_, _, _, _, rfl⟩ := h
  obtain ⟨_, _, _, _, rfl⟩ := k
  exact ⟨_, _, _, _, rfl⟩

theorem onlyCmd_of_onlyLog {a b : State} (h : OnlyLog a b) : OnlyCmd a b := by
  obtain ⟨_, _, rfl⟩ := h
  exact ⟨_, _, _, _, rfl⟩

theorem onlyCmd_ite {s a b : State} {c : Prop} [Decidable c] (ha : OnlyCmd s a) (hb : OnlyCmd s b) : OnlyCmd s (if c then a else b) := by
  split
  · exact ha
  · exact hb

theorem onlyCmd_emit (s : State) (e : Emit) : OnlyCmd s (s.emit e) := ⟨_, _, _, _, rfl⟩

theorem onlyCmd_modSess (s : State) (n : Nat) (f : Session → Session) : OnlyCmd s (s.modSess n f) := ⟨_, _, _, _, rfl⟩

theorem onlyCmd_modEntry (s : State) (n : Nat) (f : JEntry → JEntry) : OnlyCmd s (s.modEntry n f) := ⟨_, _, _, _, rfl⟩

theorem onlyCmd_setReply (s : State) (n : Nat) (r : List Byte) : OnlyCmd s (s.setReply n r) := by
  unfold State.setReply
  dsimp only
  repeat' split
  all_goals exact ⟨_, _, _, _, rfl⟩

theorem onlyCmd_sendPkt (s : State) (x : Session) (a b c d : Nat) (p : List Byte) : OnlyCmd s (s.sendPkt x a b c d p) :=
  ⟨_, _, _, _, rfl⟩

theorem onlyCmd_keepReply (s : State) (n : Nat) (r : KeptReply) : OnlyCmd s (s.keepReply n r) := ⟨_, _, _, _, rfl⟩

theorem onlyCmd_advance (s : State) (n : Nat) : OnlyCmd s (s.advance n) := ⟨_, _, _, _, rfl⟩

theorem onlyCmd_setWord (s : State) (n a b : Nat) : OnlyCmd s (s.setWord n a b) := ⟨_, _, _, _, rfl⟩

theorem onlyLog_journalLow (s : State) : OnlyLog s s.journalLow := by
  unfold State.journalLow
  exact onlyLog_ite (onlyLog_raiseAlarm s _ _ _) (onlyLog_ite (onlyLog_clearAlarm s _ _) (onlyLog_refl s))

theorem onlyCmd_pruneJournal (s : State) : OnlyCmd s s.pruneJournal :=
  onlyCmd_trans (⟨_, _, _, _, rfl⟩ : OnlyCmd s { s with cmd := { s.cmd with journal := s.cmd.journal.filter (fun e => !s.freeable e) } })
    (onlyCmd_of_onlyLog (onlyLog_journalLow _))

theorem onlyCmd_pushEntryJ (s : State) (x : Session) (a b c : Nat) (st : JState) (u v : Bool) (p r : List Byte) :
    OnlyCmd s (s.pushEntryJ x a b c st u v p r) := by
  unfold State.pushEntryJ
  exact onlyCmd_trans ⟨_, _, _, _, rfl⟩ (onlyCmd_of_onlyLog (onlyLog_journalLow _))

theorem onlyCmd_replyFree (s : State) (x : Session) (a b c : Nat) (p : List Byte) : OnlyCmd s (s.replyFree x a b c p) := by
  unfold State.replyFree
  dsimp only
  refine onlyCmd_trans ?_ (onlyCmd_sendPkt _ _ _ _ _ _ _)
  exact onlyCmd_ite ⟨_, _, _, _, rfl⟩ (onlyCmd_ite ⟨_, _, _, _, rfl⟩ (onlyCmd_refl s))

theorem onlyCmd_mirrorEntry (s : State) (n k : Nat) : OnlyCmd s (s.mirrorEntry n k) := by
  unfold State.mirrorEntry
  split
  · exact onlyCmd_ite (onlyCmd_emit _ _) (onlyCmd_refl s)
  · exact onlyCmd_refl s

theorem onlyCmd_asked (s : State) (t : Nat) (x : Session) : OnlyCmd (s.arrive t) (s.asked t x) := ⟨_, _, _, _, rfl⟩

end Sys2Proof.Machine
end

