-- ==== Sys2Proof/Laws/Exec.lean ====
section
/-!
SUPPORT. What exec does with each command, by the name of its meaning: one lemma for each.
-/
namespace Sys2Proof.Machine

@[simp] theorem exec_commandPacket (t : Nat) (iface : Iface) (addr : Nat) (port : Nat) (bytes : List Byte) (s : State) : exec (.commandPacket t iface addr port bytes) s = execCommandPacket t iface addr port bytes s := rfl
@[simp] theorem exec_seqGapTimeout (t : Nat) (sess : Nat) (s : State) : exec (.seqGapTimeout t sess) s = execSeqGapTimeout t sess s := rfl
@[simp] theorem exec_journalPeerAck (t : Nat) (jnum : Nat) (s : State) : exec (.journalPeerAck t jnum) s = execJournalPeerAck t jnum s := rfl
@[simp] theorem exec_journalMirrorTimeout (t : Nat) (jnum : Nat) (s : State) : exec (.journalMirrorTimeout t jnum) s = execJournalMirrorTimeout t jnum s := rfl
@[simp] theorem exec_journalResyncComplete (t : Nat) (held : List Nat) (s : State) : exec (.journalResyncComplete t held) s = execJournalResyncComplete t held s := rfl
@[simp] theorem exec_commandCompletion (t : Nat) (sess : Nat) (seq : Nat) (status : Nat) (p : List Byte) (s : State) : exec (.commandCompletion t sess seq status p) s = execCommandCompletion t sess seq status p s := rfl
@[simp] theorem exec_sessionDormant (t : Nat) (sess : Nat) (s : State) : exec (.sessionDormant t sess) s = execSessionDormant t sess s := rfl
@[simp] theorem exec_sessionReclaim (t : Nat) (sess : Nat) (s : State) : exec (.sessionReclaim t sess) s = execSessionReclaim t sess s := rfl
@[simp] theorem exec_sysQuery (t : Nat) (sess : Nat) (seq : Nat) (p : List Byte) (s : State) : exec (.sysQuery t sess seq p) s = execSysQuery t sess seq p s := rfl
@[simp] theorem exec_getSurvey (t : Nat) (sess : Nat) (seq : Nat) (p : List Byte) (s : State) : exec (.getSurvey t sess seq p) s = execGetSurvey t sess seq p s := rfl
@[simp] theorem exec_setMode (t : Nat) (sess : Nat) (seq : Nat) (p : List Byte) (s : State) : exec (.setMode t sess seq p) s = execSetMode t sess seq p s := rfl
@[simp] theorem exec_sessionQuery (t : Nat) (sess : Nat) (seq : Nat) (p : List Byte) (s : State) : exec (.sessionQuery t sess seq p) s = execSessionQuery t sess seq p s := rfl
@[simp] theorem exec_openSession (t : Nat) (iface : Iface) (addr : Nat) (port : Nat) (client : Nat) (sess : Nat) (auth : Bool) (p : List Byte) (s : State) : exec (.openSession t iface addr port client sess auth p) s = execOpenSession t iface addr port client sess auth p s := rfl
@[simp] theorem exec_closeSession (t : Nat) (sess : Nat) (seq : Nat) (p : List Byte) (s : State) : exec (.closeSession t sess seq p) s = execCloseSession t sess seq p s := rfl
@[simp] theorem exec_keepalive (t : Nat) (sess : Nat) (seq : Nat) (p : List Byte) (s : State) : exec (.keepalive t sess seq p) s = execKeepalive t sess seq p s := rfl
@[simp] theorem exec_journalQuery (t : Nat) (sess : Nat) (seq : Nat) (p : List Byte) (s : State) : exec (.journalQuery t sess seq p) s = execJournalQuery t sess seq p s := rfl
@[simp] theorem exec_cfgQuery (t : Nat) (sess : Nat) (seq : Nat) (p : List Byte) (s : State) : exec (.cfgQuery t sess seq p) s = execCfgQuery t sess seq p s := rfl
@[simp] theorem exec_cfgStage (t : Nat) (sess : Nat) (seq : Nat) (p : List Byte) (s : State) : exec (.cfgStage t sess seq p) s = execCfgStage t sess seq p s := rfl
@[simp] theorem exec_cfgValidate (t : Nat) (sess : Nat) (seq : Nat) (p : List Byte) (s : State) : exec (.cfgValidate t sess seq p) s = execCfgValidate t sess seq p s := rfl
@[simp] theorem exec_cfgCommit (t : Nat) (sess : Nat) (seq : Nat) (p : List Byte) (s : State) : exec (.cfgCommit t sess seq p) s = execCfgCommit t sess seq p s := rfl
@[simp] theorem exec_cfgFactory (t : Nat) (sess : Nat) (seq : Nat) (p : List Byte) (s : State) : exec (.cfgFactory t sess seq p) s = execCfgFactory t sess seq p s := rfl
@[simp] theorem exec_cfgFromPeer (t : Nat) (sess : Nat) (seq : Nat) (p : List Byte) (s : State) : exec (.cfgFromPeer t sess seq p) s = execCfgFromPeer t sess seq p s := rfl
@[simp] theorem exec_holdSelectFunction (t : Nat) (sess : Nat) (seq : Nat) (p : List Byte) (s : State) : exec (.holdSelectFunction t sess seq p) s = execHoldSelectFunction t sess seq p s := rfl
@[simp] theorem exec_holdSetSetpoint (t : Nat) (sess : Nat) (seq : Nat) (p : List Byte) (s : State) : exec (.holdSetSetpoint t sess seq p) s = execHoldSetSetpoint t sess seq p s := rfl
@[simp] theorem exec_holdSetEnd (t : Nat) (sess : Nat) (seq : Nat) (p : List Byte) (s : State) : exec (.holdSetEnd t sess seq p) s = execHoldSetEnd t sess seq p s := rfl
@[simp] theorem exec_holdBprSet (t : Nat) (sess : Nat) (seq : Nat) (p : List Byte) (s : State) : exec (.holdBprSet t sess seq p) s = execHoldBprSet t sess seq p s := rfl
@[simp] theorem exec_holdStatus (t : Nat) (sess : Nat) (seq : Nat) (p : List Byte) (s : State) : exec (.holdStatus t sess seq p) s = execHoldStatus t sess seq p s := rfl
@[simp] theorem exec_refSelect (t : Nat) (sess : Nat) (seq : Nat) (p : List Byte) (s : State) : exec (.refSelect t sess seq p) s = execRefSelect t sess seq p s := rfl
@[simp] theorem exec_refQuery (t : Nat) (sess : Nat) (seq : Nat) (p : List Byte) (s : State) : exec (.refQuery t sess seq p) s = execRefQuery t sess seq p s := rfl
@[simp] theorem exec_refRetry (t : Nat) (sess : Nat) (seq : Nat) (p : List Byte) (s : State) : exec (.refRetry t sess seq p) s = execRefRetry t sess seq p s := rfl
@[simp] theorem exec_estReinit (t : Nat) (sess : Nat) (seq : Nat) (p : List Byte) (s : State) : exec (.estReinit t sess seq p) s = execEstReinit t sess seq p s := rfl
@[simp] theorem exec_alcSelect (t : Nat) (sess : Nat) (seq : Nat) (p : List Byte) (s : State) : exec (.alcSelect t sess seq p) s = execAlcSelect t sess seq p s := rfl
@[simp] theorem exec_alcSetBerm (t : Nat) (sess : Nat) (seq : Nat) (p : List Byte) (s : State) : exec (.alcSetBerm t sess seq p) s = execAlcSetBerm t sess seq p s := rfl
@[simp] theorem exec_alcQuery (t : Nat) (sess : Nat) (seq : Nat) (p : List Byte) (s : State) : exec (.alcQuery t sess seq p) s = execAlcQuery t sess seq p s := rfl
@[simp] theorem exec_alcLearnReset (t : Nat) (sess : Nat) (seq : Nat) (p : List Byte) (s : State) : exec (.alcLearnReset t sess seq p) s = execAlcLearnReset t sess seq p s := rfl
@[simp] theorem exec_thrQuery (t : Nat) (sess : Nat) (seq : Nat) (p : List Byte) (s : State) : exec (.thrQuery t sess seq p) s = execThrQuery t sess seq p s := rfl
@[simp] theorem exec_thrClear (t : Nat) (sess : Nat) (seq : Nat) (p : List Byte) (s : State) : exec (.thrClear t sess seq p) s = execThrClear t sess seq p s := rfl
@[simp] theorem exec_thrEnable (t : Nat) (sess : Nat) (seq : Nat) (p : List Byte) (s : State) : exec (.thrEnable t sess seq p) s = execThrEnable t sess seq p s := rfl
@[simp] theorem exec_cqaQuery (t : Nat) (sess : Nat) (seq : Nat) (p : List Byte) (s : State) : exec (.cqaQuery t sess seq p) s = execCqaQuery t sess seq p s := rfl
@[simp] theorem exec_cqaCaseQuery (t : Nat) (sess : Nat) (seq : Nat) (p : List Byte) (s : State) : exec (.cqaCaseQuery t sess seq p) s = execCqaCaseQuery t sess seq p s := rfl
@[simp] theorem exec_cqaCaseEnable (t : Nat) (sess : Nat) (seq : Nat) (p : List Byte) (s : State) : exec (.cqaCaseEnable t sess seq p) s = execCqaCaseEnable t sess seq p s := rfl
@[simp] theorem exec_cqaWhatif (t : Nat) (sess : Nat) (seq : Nat) (p : List Byte) (s : State) : exec (.cqaWhatif t sess seq p) s = execCqaWhatif t sess seq p s := rfl
@[simp] theorem exec_whatifDeadline (t : Nat) (sess : Nat) (seq : Nat) (s : State) : exec (.whatifDeadline t sess seq) s = execWhatifDeadline t sess seq s := rfl
@[simp] theorem exec_timeQuery (t : Nat) (sess : Nat) (seq : Nat) (p : List Byte) (s : State) : exec (.timeQuery t sess seq p) s = execTimeQuery t sess seq p s := rfl
@[simp] theorem exec_timeSelect (t : Nat) (sess : Nat) (seq : Nat) (p : List Byte) (s : State) : exec (.timeSelect t sess seq p) s = execTimeSelect t sess seq p s := rfl
@[simp] theorem exec_timePulse (t : Nat) (sess : Nat) (seq : Nat) (p : List Byte) (s : State) : exec (.timePulse t sess seq p) s = execTimePulse t sess seq p s := rfl
@[simp] theorem exec_timeStepAllow (t : Nat) (sess : Nat) (seq : Nat) (p : List Byte) (s : State) : exec (.timeStepAllow t sess seq p) s = execTimeStepAllow t sess seq p s := rfl
@[simp] theorem exec_canQuery (t : Nat) (sess : Nat) (seq : Nat) (p : List Byte) (s : State) : exec (.canQuery t sess seq p) s = execCanQuery t sess seq p s := rfl
@[simp] theorem exec_busRecover (t : Nat) (sess : Nat) (seq : Nat) (p : List Byte) (s : State) : exec (.busRecover t sess seq p) s = execBusRecover t sess seq p s := rfl
@[simp] theorem exec_canRateDetect (t : Nat) (sess : Nat) (seq : Nat) (p : List Byte) (s : State) : exec (.canRateDetect t sess seq p) s = execCanRateDetect t sess seq p s := rfl
@[simp] theorem exec_canNodeList (t : Nat) (sess : Nat) (seq : Nat) (p : List Byte) (s : State) : exec (.canNodeList t sess seq p) s = execCanNodeList t sess seq p s := rfl
@[simp] theorem exec_serQuery (t : Nat) (sess : Nat) (seq : Nat) (p : List Byte) (s : State) : exec (.serQuery t sess seq p) s = execSerQuery t sess seq p s := rfl
@[simp] theorem exec_pointRead (t : Nat) (sess : Nat) (seq : Nat) (p : List Byte) (s : State) : exec (.pointRead t sess seq p) s = execPointRead t sess seq p s := rfl
@[simp] theorem exec_pointWrite (t : Nat) (sess : Nat) (seq : Nat) (p : List Byte) (s : State) : exec (.pointWrite t sess seq p) s = execPointWrite t sess seq p s := rfl
@[simp] theorem exec_pointForce (t : Nat) (sess : Nat) (seq : Nat) (p : List Byte) (s : State) : exec (.pointForce t sess seq p) s = execPointForce t sess seq p s := rfl
@[simp] theorem exec_pointUnforce (t : Nat) (sess : Nat) (seq : Nat) (p : List Byte) (s : State) : exec (.pointUnforce t sess seq p) s = execPointUnforce t sess seq p s := rfl
@[simp] theorem exec_pointSubscribe (t : Nat) (sess : Nat) (seq : Nat) (p : List Byte) (s : State) : exec (.pointSubscribe t sess seq p) s = execPointSubscribe t sess seq p s := rfl
@[simp] theorem exec_pointUnsubscribe (t : Nat) (sess : Nat) (seq : Nat) (p : List Byte) (s : State) : exec (.pointUnsubscribe t sess seq p) s = execPointUnsubscribe t sess seq p s := rfl
@[simp] theorem exec_producerList (t : Nat) (sess : Nat) (seq : Nat) (p : List Byte) (s : State) : exec (.producerList t sess seq p) s = execProducerList t sess seq p s := rfl
@[simp] theorem exec_pointNotify (t : Nat) (sub : Nat) (s : State) : exec (.pointNotify t sub) s = execPointNotify t sub s := rfl
@[simp] theorem exec_fioQuery (t : Nat) (sess : Nat) (seq : Nat) (p : List Byte) (s : State) : exec (.fioQuery t sess seq p) s = execFioQuery t sess seq p s := rfl
@[simp] theorem exec_fioSet (t : Nat) (sess : Nat) (seq : Nat) (p : List Byte) (s : State) : exec (.fioSet t sess seq p) s = execFioSet t sess seq p s := rfl
@[simp] theorem exec_fioPulse (t : Nat) (sess : Nat) (seq : Nat) (p : List Byte) (s : State) : exec (.fioPulse t sess seq p) s = execFioPulse t sess seq p s := rfl
@[simp] theorem exec_fioClear (t : Nat) (sess : Nat) (seq : Nat) (p : List Byte) (s : State) : exec (.fioClear t sess seq p) s = execFioClear t sess seq p s := rfl
@[simp] theorem exec_fioGroupRestore (t : Nat) (sess : Nat) (seq : Nat) (p : List Byte) (s : State) : exec (.fioGroupRestore t sess seq p) s = execFioGroupRestore t sess seq p s := rfl
@[simp] theorem exec_logFreeze (t : Nat) (sess : Nat) (seq : Nat) (p : List Byte) (s : State) : exec (.logFreeze t sess seq p) s = execLogFreeze t sess seq p s := rfl
@[simp] theorem exec_logThaw (t : Nat) (sess : Nat) (seq : Nat) (p : List Byte) (s : State) : exec (.logThaw t sess seq p) s = execLogThaw t sess seq p s := rfl
@[simp] theorem exec_logRead (t : Nat) (sess : Nat) (seq : Nat) (p : List Byte) (s : State) : exec (.logRead t sess seq p) s = execLogRead t sess seq p s := rfl
@[simp] theorem exec_logSnapRead (t : Nat) (sess : Nat) (seq : Nat) (p : List Byte) (s : State) : exec (.logSnapRead t sess seq p) s = execLogSnapRead t sess seq p s := rfl
@[simp] theorem exec_logCodes (t : Nat) (sess : Nat) (seq : Nat) (p : List Byte) (s : State) : exec (.logCodes t sess seq p) s = execLogCodes t sess seq p s := rfl
@[simp] theorem exec_logExport (t : Nat) (sess : Nat) (seq : Nat) (p : List Byte) (s : State) : exec (.logExport t sess seq p) s = execLogExport t sess seq p s := rfl
@[simp] theorem exec_logSpillEnd (t : Nat) (sess : Nat) (seq : Nat) (p : List Byte) (s : State) : exec (.logSpillEnd t sess seq p) s = execLogSpillEnd t sess seq p s := rfl
@[simp] theorem exec_safeQuery (t : Nat) (sess : Nat) (seq : Nat) (p : List Byte) (s : State) : exec (.safeQuery t sess seq p) s = execSafeQuery t sess seq p s := rfl
@[simp] theorem exec_safeReset (t : Nat) (sess : Nat) (seq : Nat) (p : List Byte) (s : State) : exec (.safeReset t sess seq p) s = execSafeReset t sess seq p s := rfl
@[simp] theorem exec_safeBrakeTest (t : Nat) (sess : Nat) (seq : Nat) (p : List Byte) (s : State) : exec (.safeBrakeTest t sess seq p) s = execSafeBrakeTest t sess seq p s := rfl
@[simp] theorem exec_safeCfgRead (t : Nat) (sess : Nat) (seq : Nat) (p : List Byte) (s : State) : exec (.safeCfgRead t sess seq p) s = execSafeCfgRead t sess seq p s := rfl
@[simp] theorem exec_safeCfgConfirm (t : Nat) (sess : Nat) (seq : Nat) (p : List Byte) (s : State) : exec (.safeCfgConfirm t sess seq p) s = execSafeCfgConfirm t sess seq p s := rfl
@[simp] theorem exec_safeStop (t : Nat) (sess : Nat) (seq : Nat) (p : List Byte) (s : State) : exec (.safeStop t sess seq p) s = execSafeStop t sess seq p s := rfl
@[simp] theorem exec_redQuery (t : Nat) (sess : Nat) (seq : Nat) (p : List Byte) (s : State) : exec (.redQuery t sess seq p) s = execRedQuery t sess seq p s := rfl
@[simp] theorem exec_roleRotate (t : Nat) (sess : Nat) (seq : Nat) (p : List Byte) (s : State) : exec (.roleRotate t sess seq p) s = execRoleRotate t sess seq p s := rfl
@[simp] theorem exec_wardenPromote (t : Nat) (sess : Nat) (seq : Nat) (p : List Byte) (s : State) : exec (.wardenPromote t sess seq p) s = execWardenPromote t sess seq p s := rfl
@[simp] theorem exec_wardenRelease (t : Nat) (sess : Nat) (seq : Nat) (p : List Byte) (s : State) : exec (.wardenRelease t sess seq p) s = execWardenRelease t sess seq p s := rfl
@[simp] theorem exec_imgStage (t : Nat) (sess : Nat) (seq : Nat) (p : List Byte) (s : State) : exec (.imgStage t sess seq p) s = execImgStage t sess seq p s := rfl
@[simp] theorem exec_imgVerify (t : Nat) (sess : Nat) (seq : Nat) (p : List Byte) (s : State) : exec (.imgVerify t sess seq p) s = execImgVerify t sess seq p s := rfl
@[simp] theorem exec_imgActivate (t : Nat) (sess : Nat) (seq : Nat) (p : List Byte) (s : State) : exec (.imgActivate t sess seq p) s = execImgActivate t sess seq p s := rfl
@[simp] theorem exec_domainDrain (t : Nat) (sess : Nat) (seq : Nat) (p : List Byte) (s : State) : exec (.domainDrain t sess seq p) s = execDomainDrain t sess seq p s := rfl
@[simp] theorem exec_domainRestore (t : Nat) (sess : Nat) (seq : Nat) (p : List Byte) (s : State) : exec (.domainRestore t sess seq p) s = execDomainRestore t sess seq p s := rfl
@[simp] theorem exec_domainOff (t : Nat) (dom : Nat) (s : State) : exec (.domainOff t dom) s = execDomainOff t dom s := rfl
@[simp] theorem exec_domainRunning (t : Nat) (dom : Nat) (s : State) : exec (.domainRunning t dom) s = execDomainRunning t dom s := rfl
@[simp] theorem exec_sysRestart (t : Nat) (sess : Nat) (seq : Nat) (p : List Byte) (s : State) : exec (.sysRestart t sess seq p) s = execSysRestart t sess seq p s := rfl
@[simp] theorem exec_sysRestartDelayEnd (t : Nat) (s : State) : exec (.sysRestartDelayEnd t) s = execSysRestartDelayEnd t s := rfl
@[simp] theorem exec_keyWrite (t : Nat) (sess : Nat) (seq : Nat) (p : List Byte) (s : State) : exec (.keyWrite t sess seq p) s = execKeyWrite t sess seq p s := rfl
@[simp] theorem exec_henSubmit (t : Nat) (sess : Nat) (seq : Nat) (p : List Byte) (s : State) : exec (.henSubmit t sess seq p) s = execHenSubmit t sess seq p s := rfl
@[simp] theorem exec_henStatus (t : Nat) (sess : Nat) (seq : Nat) (p : List Byte) (s : State) : exec (.henStatus t sess seq p) s = execHenStatus t sess seq p s := rfl
@[simp] theorem exec_henCancel (t : Nat) (sess : Nat) (seq : Nat) (p : List Byte) (s : State) : exec (.henCancel t sess seq p) s = execHenCancel t sess seq p s := rfl
@[simp] theorem exec_satQuery (t : Nat) (sess : Nat) (seq : Nat) (p : List Byte) (s : State) : exec (.satQuery t sess seq p) s = execSatQuery t sess seq p s := rfl
@[simp] theorem exec_satRestart (t : Nat) (sess : Nat) (seq : Nat) (p : List Byte) (s : State) : exec (.satRestart t sess seq p) s = execSatRestart t sess seq p s := rfl
@[simp] theorem exec_satIntegrityReset (t : Nat) (sess : Nat) (seq : Nat) (p : List Byte) (s : State) : exec (.satIntegrityReset t sess seq p) s = execSatIntegrityReset t sess seq p s := rfl
@[simp] theorem exec_satTimeAccept (t : Nat) (sess : Nat) (seq : Nat) (p : List Byte) (s : State) : exec (.satTimeAccept t sess seq p) s = execSatTimeAccept t sess seq p s := rfl
@[simp] theorem exec_satExclude (t : Nat) (sess : Nat) (seq : Nat) (p : List Byte) (s : State) : exec (.satExclude t sess seq p) s = execSatExclude t sess seq p s := rfl
@[simp] theorem exec_satAntBias (t : Nat) (sess : Nat) (seq : Nat) (p : List Byte) (s : State) : exec (.satAntBias t sess seq p) s = execSatAntBias t sess seq p s := rfl
@[simp] theorem exec_registerWrite (t : Nat) (who : Who) (addr : Nat) (v : Word) (s : State) : exec (.registerWrite t who addr v) s = execRegisterWrite t who addr v s := rfl
@[simp] theorem exec_stickyRegisterRead (t : Nat) (who : Who) (addr : Nat) (s : State) : exec (.stickyRegisterRead t who addr) s = execStickyRegisterRead t who addr s := rfl
@[simp] theorem exec_partitionAccessViolation (t : Nat) (addr : Nat) (s : State) : exec (.partitionAccessViolation t addr) s = execPartitionAccessViolation t addr s := rfl
@[simp] theorem exec_dramRegionViolation (t : Nat) (who : Who) (addr : Nat) (s : State) : exec (.dramRegionViolation t who addr) s = execDramRegionViolation t who addr s := rfl
@[simp] theorem exec_dramEccError (t : Nat) (addr : Nat) (corrected : Bool) (met : EccMeet) (s : State) : exec (.dramEccError t addr corrected met) s = execDramEccError t addr corrected s met := rfl
@[simp] theorem exec_lockstepMismatch (t : Nat) (app1 : Bool) (s : State) : exec (.lockstepMismatch t app1) s = execLockstepMismatch t app1 s := rfl
@[simp] theorem exec_partitionSliceEnd (t : Nat) (used : Nat) (s : State) : exec (.partitionSliceEnd t used) s = execPartitionSliceEnd t used s := rfl
@[simp] theorem exec_partitionFault (t : Nat) (cause : Nat) (s : State) : exec (.partitionFault t cause) s = execPartitionFault t cause s := rfl
@[simp] theorem exec_partitionWatchdogExpiry (t : Nat) (s : State) : exec (.partitionWatchdogExpiry t) s = execPartitionWatchdogExpiry t s := rfl
@[simp] theorem exec_frameStart (t : Nat) (s : State) : exec (.frameStart t) s = execFrameStart t s := rfl
@[simp] theorem exec_estimationDeadline (t : Nat) (ended : Option Nat) (s : State) : exec (.estimationDeadline t ended) s = execEstimationDeadline t ended s := rfl
@[simp] theorem exec_allocSubmitInstant (t : Nat) (s : State) : exec (.allocSubmitInstant t) s = execAllocSubmitInstant t s := rfl
@[simp] theorem exec_allocationCompose (t : Nat) (chans : List Nat) (s : State) : exec (.allocationCompose t chans) s = execAllocationCompose t chans s := rfl
@[simp] theorem exec_sealWindowClose (t : Nat) (s : State) : exec (.sealWindowClose t) s = execSealWindowClose t s := rfl
@[simp] theorem exec_commitInstant (t : Nat) (s : State) : exec (.commitInstant t) s = execCommitInstant t s := rfl
@[simp] theorem exec_frameMirrorSend (t : Nat) (s : State) : exec (.frameMirrorSend t) s = execFrameMirrorSend t s := rfl
@[simp] theorem exec_frameMirrorReceived (t : Nat) (m : MirrorData) (s : State) : exec (.frameMirrorReceived t m) s = execFrameMirrorReceived t m s := rfl
@[simp] theorem exec_frameClockStep (t : Nat) (vc : Nat) (s : State) : exec (.frameClockStep t vc) s = execFrameClockStep t vc s := rfl
@[simp] theorem exec_refTimeoutExpiry (t : Nat) (slot : Nat) (s : State) : exec (.refTimeoutExpiry t slot) s = execRefTimeoutExpiry t slot s := rfl
@[simp] theorem exec_refTrialComplete (t : Nat) (slot : Nat) (s : State) : exec (.refTrialComplete t slot) s = execRefTrialComplete t slot s := rfl
@[simp] theorem exec_estDrLimitExpiry (t : Nat) (hdg : Bool) (s : State) : exec (.estDrLimitExpiry t hdg) s = execEstDrLimitExpiry t hdg s := rfl
@[simp] theorem exec_estPeerDiffCount (t : Nat) (s : State) : exec (.estPeerDiffCount t) s = execEstPeerDiffCount t s := rfl
@[simp] theorem exec_mpcFailCount (t : Nat) (s : State) : exec (.mpcFailCount t) s = execMpcFailCount t s := rfl
@[simp] theorem exec_mpcOkCount (t : Nat) (s : State) : exec (.mpcOkCount t) s = execMpcOkCount t s := rfl
@[simp] theorem exec_joyCentreRelease (t : Nat) (s : State) : exec (.joyCentreRelease t) s = execJoyCentreRelease t s := rfl
@[simp] theorem exec_excursionClearTimer (t : Nat) (alarm : Nat) (s : State) : exec (.excursionClearTimer t alarm) s = execExcursionClearTimer t alarm s := rfl
@[simp] theorem exec_bprContactDetected (t : Nat) (s : State) : exec (.bprContactDetected t) s = execBprContactDetected t s := rfl
@[simp] theorem exec_bprContactTimeout (t : Nat) (s : State) : exec (.bprContactTimeout t) s = execBprContactTimeout t s := rfl
@[simp] theorem exec_bprContactLoss (t : Nat) (s : State) : exec (.bprContactLoss t) s = execBprContactLoss t s := rfl
@[simp] theorem exec_powerEnvelopeMessage (t : Nat) (port : Nat) (sof : Nat) (frame : CanFrame) (s : State) : exec (.powerEnvelopeMessage t port sof frame) s = execPowerEnvelopeMessage t port sof frame s := rfl
@[simp] theorem exec_pwrSourceStale (t : Nat) (sec : Nat) (s : State) : exec (.pwrSourceStale t sec) s = execPwrSourceStale t sec s := rfl
@[simp] theorem exec_pwrFreshCountReached (t : Nat) (sec : Nat) (s : State) : exec (.pwrFreshCountReached t sec) s = execPwrFreshCountReached t sec s := rfl
@[simp] theorem exec_pwrLimitCount (t : Nat) (sec : Nat) (s : State) : exec (.pwrLimitCount t sec) s = execPwrLimitCount t sec s := rfl
@[simp] theorem exec_alcRepeatLimitReached (t : Nat) (s : State) : exec (.alcRepeatLimitReached t) s = execAlcRepeatLimitReached t s := rfl
@[simp] theorem exec_alcSatTimer (t : Nat) (s : State) : exec (.alcSatTimer t) s = execAlcSatTimer t s := rfl
@[simp] theorem exec_learnedModelSave (t : Nat) (s : State) : exec (.learnedModelSave t) s = execLearnedModelSave t s := rfl
@[simp] theorem exec_learnedModelMirror (t : Nat) (s : State) : exec (.learnedModelMirror t) s = execLearnedModelMirror t s := rfl
@[simp] theorem exec_cqaAlarmDelayReached (t : Nat) (k : Nat) (s : State) : exec (.cqaAlarmDelayReached t k) s = execCqaAlarmDelayReached t k s := rfl
@[simp] theorem exec_cqaClearTimeReached (t : Nat) (k : Nat) (s : State) : exec (.cqaClearTimeReached t k) s = execCqaClearTimeReached t k s := rfl
@[simp] theorem exec_cqaUnprovenDelayReached (t : Nat) (s : State) : exec (.cqaUnprovenDelayReached t) s = execCqaUnprovenDelayReached t s := rfl
@[simp] theorem exec_capabilityEnvelopePeriod (t : Nat) (s : State) : exec (.capabilityEnvelopePeriod t) s = execCapabilityEnvelopePeriod t s := rfl
@[simp] theorem exec_capabilityEnvelopeEnd (t : Nat) (s : State) : exec (.capabilityEnvelopeEnd t) s = execCapabilityEnvelopeEnd t s := rfl
@[simp] theorem exec_henSubHiWrite (t : Nat) (q : Nat) (who : Who) (v : Word) (s : State) : exec (.henSubHiWrite t q who v) s = execHenSubHiWrite t q who v s := rfl
@[simp] theorem exec_henProblemEnd (t : Nat) (cl : Nat) (both : Bool) (s : State) : exec (.henProblemEnd t cl both) s = execHenProblemEnd t cl s both := rfl
@[simp] theorem exec_henSuspensionPoint (t : Nat) (cl : Nat) (both : Bool) (s : State) : exec (.henSuspensionPoint t cl both) s = execHenSuspensionPoint t cl s both := rfl
@[simp] theorem exec_henJobDeadline (t : Nat) (q : Nat) (id : Nat) (ends : List Nat) (s : State) : exec (.henJobDeadline t q id ends) s = execHenJobDeadline t q id s ends := rfl
@[simp] theorem exec_henQCancelWrite (t : Nat) (q : Nat) (tag : Word) (ends : List Nat) (s : State) : exec (.henQCancelWrite t q tag ends) s = execHenQCancelWrite t q tag s ends := rfl
@[simp] theorem exec_henQEnClear (t : Nat) (q : Nat) (s : State) : exec (.henQEnClear t q) s = execHenQEnClear t q s := rfl
@[simp] theorem exec_henQPop (t : Nat) (q : Nat) (s : State) : exec (.henQPop t q) s = execHenQPop t q s := rfl
@[simp] theorem exec_henClusterEnClear (t : Nat) (cl : Nat) (s : State) : exec (.henClusterEnClear t cl) s = execHenClusterEnClear t cl s := rfl
@[simp] theorem exec_henSramError (t : Nat) (cl : Nat) (corrected : Bool) (s : State) : exec (.henSramError t cl corrected) s = execHenSramError t cl corrected s := rfl
@[simp] theorem exec_henClusterStop (t : Nat) (cl : Nat) (s : State) : exec (.henClusterStop t cl) s = execHenClusterStop t cl s := rfl
@[simp] theorem exec_henDrainDone (t : Nat) (cl : Nat) (s : State) : exec (.henDrainDone t cl) s = execHenDrainDone t cl s := rfl
@[simp] theorem exec_sequencerSlice (t : Nat) (c : Nat) (inp : SliceIn) (s : State) : exec (.sequencerSlice t c inp) s = execSequencerSlice t c inp s := rfl
@[simp] theorem exec_thrSealWrite (t : Nat) (c : Nat) (s : State) : exec (.thrSealWrite t c) s = execThrSealWrite t c s := rfl
@[simp] theorem exec_thrShadowWrite (t : Nat) (c : Nat) (reg : Nat) (v : Word) (s : State) : exec (.thrShadowWrite t c reg v) s = execThrShadowWrite t c reg v s := rfl
@[simp] theorem exec_thrWithdraw (t : Nat) (c : Nat) (s : State) : exec (.thrWithdraw t c) s = execThrWithdraw t c s := rfl
@[simp] theorem exec_thrCtrlClear (t : Nat) (c : Nat) (s : State) : exec (.thrCtrlClear t c) s = execThrCtrlClear t c s := rfl
@[simp] theorem exec_thrCtrlEnWrite (t : Nat) (c : Nat) (en : Bool) (s : State) : exec (.thrCtrlEnWrite t c en) s = execThrCtrlEnWrite t c en s := rfl
@[simp] theorem exec_thrAuthWrite (t : Nat) (on : Bool) (s : State) : exec (.thrAuthWrite t on) s = execThrAuthWrite t on s := rfl
@[simp] theorem exec_thrAoHoldExpiry (t : Nat) (s : State) : exec (.thrAoHoldExpiry t) s = execThrAoHoldExpiry t s := rfl
@[simp] theorem exec_thrFeedbackFrame (t : Nat) (port : Nat) (sof : Nat) (frame : CanFrame) (s : State) : exec (.thrFeedbackFrame t port sof frame) s = execThrFeedbackFrame t port sof frame s := rfl
@[simp] theorem exec_thrFeedback2Frame (t : Nat) (port : Nat) (sof : Nat) (frame : CanFrame) (s : State) : exec (.thrFeedback2Frame t port sof frame) s = execThrFeedback2Frame t port sof frame s := rfl
@[simp] theorem exec_thrFbTimeout (t : Nat) (c : Nat) (s : State) : exec (.thrFbTimeout t c) s = execThrFbTimeout t c s := rfl
@[simp] theorem exec_thrAzFollowExpiry (t : Nat) (c : Nat) (s : State) : exec (.thrAzFollowExpiry t c) s = execThrAzFollowExpiry t c s := rfl
@[simp] theorem exec_thrAzWrongDirExpiry (t : Nat) (c : Nat) (s : State) : exec (.thrAzWrongDirExpiry t c) s = execThrAzWrongDirExpiry t c s := rfl
@[simp] theorem exec_thrRudderFollowExpiry (t : Nat) (c : Nat) (s : State) : exec (.thrRudderFollowExpiry t c) s = execThrRudderFollowExpiry t c s := rfl
@[simp] theorem exec_thrTHighExpiry (t : Nat) (c : Nat) (s : State) : exec (.thrTHighExpiry t c) s = execThrTHighExpiry t c s := rfl
@[simp] theorem exec_thrTDevExpiry (t : Nat) (c : Nat) (s : State) : exec (.thrTDevExpiry t c) s = execThrTDevExpiry t c s := rfl
@[simp] theorem exec_thrAngDisagreeExpiry (t : Nat) (c : Nat) (s : State) : exec (.thrAngDisagreeExpiry t c) s = execThrAngDisagreeExpiry t c s := rfl
@[simp] theorem exec_thrNotReadyRecovery (t : Nat) (c : Nat) (s : State) : exec (.thrNotReadyRecovery t c) s = execThrNotReadyRecovery t c s := rfl
@[simp] theorem exec_thrDegradedRecovery (t : Nat) (c : Nat) (s : State) : exec (.thrDegradedRecovery t c) s = execThrDegradedRecovery t c s := rfl
@[simp] theorem exec_satEpoch (t : Nat) (obs : EpochObs) (s : State) : exec (.satEpoch t obs) s = execSatEpoch t obs s := rfl
@[simp] theorem exec_satSecondChecks (t : Nat) (obs : SecondObs) (s : State) : exec (.satSecondChecks t obs) s = execSatSecondChecks t obs s := rfl
@[simp] theorem exec_satSignalAcquired (t : Nat) (id : SigId) (elev : Rat) (s : State) : exec (.satSignalAcquired t id elev) s = execSatSignalAcquired t id elev s := rfl
@[simp] theorem exec_satChannelRelease (t : Nat) (id : SigId) (s : State) : exec (.satChannelRelease t id) s = execSatChannelRelease t id s := rfl
@[simp] theorem exec_rtcmFrame (t : Nat) (via : RtcmVia) (bytes : List Byte) (s : State) : exec (.rtcmFrame t via bytes) s = execRtcmFrame t via s bytes := rfl
@[simp] theorem exec_antOpenDetect (t : Nat) (a : Nat) (s : State) : exec (.antOpenDetect t a) s = execAntOpenDetect t a s := rfl
@[simp] theorem exec_antShort (t : Nat) (a : Nat) (s : State) : exec (.antShort t a) s = execAntShort t a s := rfl
@[simp] theorem exec_antBiasRetry (t : Nat) (a : Nat) (ok : Bool) (s : State) : exec (.antBiasRetry t a ok) s = execAntBiasRetry t a ok s := rfl
@[simp] theorem exec_antGeometryExclude (t : Nat) (a : Nat) (s : State) : exec (.antGeometryExclude t a) s = execAntGeometryExclude t a s := rfl
@[simp] theorem exec_satHoldoverEntry (t : Nat) (s : State) : exec (.satHoldoverEntry t) s = execSatHoldoverEntry t s := rfl
@[simp] theorem exec_satReturnConfirmed (t : Nat) (s : State) : exec (.satReturnConfirmed t) s = execSatReturnConfirmed t s := rfl
@[simp] theorem exec_satTimeStep (t : Nat) (s : State) : exec (.satTimeStep t) s = execSatTimeStep t s := rfl
@[simp] theorem exec_satSlewComplete (t : Nat) (s : State) : exec (.satSlewComplete t) s = execSatSlewComplete t s := rfl
@[simp] theorem exec_satPps (t : Nat) (s : State) : exec (.satPps t) s = execSatPps t s := rfl
@[simp] theorem exec_satWake (t : Nat) (s : State) : exec (.satWake t) s = execSatWake t s := rfl
@[simp] theorem exec_satWakeEnd (t : Nat) (s : State) : exec (.satWakeEnd t) s = execSatWakeEnd t s := rfl
@[simp] theorem exec_satRetainedWrite (t : Nat) (s : State) : exec (.satRetainedWrite t) s = execSatRetainedWrite t s := rfl
@[simp] theorem exec_ptpSyncReceived (t : Nat) (n : Nat) (port : Nat) (dom : Nat) (sender : Nat) (log : Int) (origin : Nat) (corr : Rat) (s : State) : exec (.ptpSyncReceived t n port dom sender log origin corr) s = execPtpSyncReceived t n port dom sender log s origin corr := rfl
@[simp] theorem exec_ptpDelayResponse (t : Nat) (n : Nat) (delay : Rat) (s : State) : exec (.ptpDelayResponse t n delay) s = execPtpDelayResponse t n delay s := rfl
@[simp] theorem exec_ptpAnnounceReceived (t : Nat) (port : Nat) (msg : PtpAnnounce) (s : State) : exec (.ptpAnnounceReceived t port msg) s = execPtpAnnounceReceived t port msg s := rfl
@[simp] theorem exec_ptpAnnounceTimeout (t : Nat) (n : Nat) (port : Nat) (s : State) : exec (.ptpAnnounceTimeout t n port) s = execPtpAnnounceTimeout t n port s := rfl
@[simp] theorem exec_ptpSyncTimeout (t : Nat) (n : Nat) (s : State) : exec (.ptpSyncTimeout t n) s = execPtpSyncTimeout t n s := rfl
@[simp] theorem exec_ppsInEdge (t : Nat) (s : State) : exec (.ppsInEdge t) s = execPpsInEdge t s := rfl
@[simp] theorem exec_vcLock (t : Nat) (n : Nat) (s : State) : exec (.vcLock t n) s = execVcLock t n s := rfl
@[simp] theorem exec_vcStep (t : Nat) (n : Nat) (s : State) : exec (.vcStep t n) s = execVcStep t n s := rfl
@[simp] theorem exec_frameRevertTimer (t : Nat) (s : State) : exec (.frameRevertTimer t) s = execFrameRevertTimer t s := rfl
@[simp] theorem exec_fallbackReturnTimer (t : Nat) (n : Nat) (s : State) : exec (.fallbackReturnTimer t n) s = execFallbackReturnTimer t n s := rfl
@[simp] theorem exec_tmuCtrlWrite (t : Nat) (v : Word) (s : State) : exec (.tmuCtrlWrite t v) s = execTmuCtrlWrite t v s := rfl
@[simp] theorem exec_tmuIncrWrite (t : Nat) (v : Word) (s : State) : exec (.tmuIncrWrite t v) s = execTmuIncrWrite t v s := rfl
@[simp] theorem exec_timeLoRead (t : Nat) (who : Who) (which : Nat) (s : State) : exec (.timeLoRead t who which) s = execTimeLoRead t who which s := rfl
@[simp] theorem exec_captureEvent (t : Nat) (source : Nat) (rising : Bool) (s : State) : exec (.captureEvent t source rising) s = execCaptureEvent t source rising s := rfl
@[simp] theorem exec_captureEntryAged (t : Nat) (f : Nat) (s : State) : exec (.captureEntryAged t f) s = execCaptureEntryAged t f s := rfl
@[simp] theorem exec_capFifoData0Read (t : Nat) (f : Nat) (s : State) : exec (.capFifoData0Read t f) s = execCapFifoData0Read t f s := rfl
@[simp] theorem exec_capFifoData1Read (t : Nat) (f : Nat) (s : State) : exec (.capFifoData1Read t f) s = execCapFifoData1Read t f s := rfl
@[simp] theorem exec_pulseArm (t : Nat) (k : Nat) (v : Word) (s : State) : exec (.pulseArm t k v) s = execPulseArm t k v s := rfl
@[simp] theorem exec_pulseDisarm (t : Nat) (k : Nat) (s : State) : exec (.pulseDisarm t k) s = execPulseDisarm t k s := rfl
@[simp] theorem exec_pulseOutputFire (t : Nat) (k : Nat) (s : State) : exec (.pulseOutputFire t k) s = execPulseOutputFire t k s := rfl
@[simp] theorem exec_pulseWidthEnd (t : Nat) (k : Nat) (s : State) : exec (.pulseWidthEnd t k) s = execPulseWidthEnd t k s := rfl
@[simp] theorem exec_producerWrite (t : Nat) (p : Nat) (src : Nat) (value : Dword) (ts : Nat) (s : State) : exec (.producerWrite t p src value ts) s = execProducerWrite t p src value ts s := rfl
@[simp] theorem exec_producerTimeout (t : Nat) (k : Nat) (s : State) : exec (.producerTimeout t k) s = execProducerTimeout t k s := rfl
@[simp] theorem exec_pointTimeout (t : Nat) (p : Nat) (s : State) : exec (.pointTimeout t p) s = execPointTimeout t p s := rfl
@[simp] theorem exec_pntWrGo (t : Nat) (s : State) : exec (.pntWrGo t) s = execPntWrGo t s := rfl
@[simp] theorem exec_heartbeatSend (t : Nat) (s : State) : exec (.heartbeatSend t) s = execHeartbeatSend t s := rfl
@[simp] theorem exec_heartbeatReceived (t : Nat) (path : Nat) (bytes : List Byte) (s : State) : exec (.heartbeatReceived t path bytes) s = execHeartbeatReceived t path bytes s := rfl
@[simp] theorem exec_heartbeatMissCheck (t : Nat) (s : State) : exec (.heartbeatMissCheck t) s = execHeartbeatMissCheck t s := rfl
@[simp] theorem exec_leaseGrantReceived (t : Nat) (path : Nat) (bytes : List Byte) (s : State) : exec (.leaseGrantReceived t path bytes) s = execLeaseGrantReceived t path bytes s := rfl
@[simp] theorem exec_leaseHolderExpiry (t : Nat) (s : State) : exec (.leaseHolderExpiry t) s = execLeaseHolderExpiry t s := rfl
@[simp] theorem exec_leaseExpiryW (t : Nat) (s : State) : exec (.leaseExpiryW t) s = execLeaseExpiryW t s := rfl
@[simp] theorem exec_leaseGuardEnd (t : Nat) (s : State) : exec (.leaseGuardEnd t) s = execLeaseGuardEnd t s := rfl
@[simp] theorem exec_takeoverCheckEnd (t : Nat) (s : State) : exec (.takeoverCheckEnd t) s = execTakeoverCheckEnd t s := rfl
@[simp] theorem exec_rotationRelease (t : Nat) (s : State) : exec (.rotationRelease t) s = execRotationRelease t s := rfl
@[simp] theorem exec_roleRelayFaultDetect (t : Nat) (k : Nat) (s : State) : exec (.roleRelayFaultDetect t k) s = execRoleRelayFaultDetect t k s := rfl
@[simp] theorem exec_rotateDueReached (t : Nat) (s : State) : exec (.rotateDueReached t) s = execRotateDueReached t s := rfl
@[simp] theorem exec_uidStrapChange (t : Nat) (v : Nat) (s : State) : exec (.uidStrapChange t v) s = execUidStrapChange t v s := rfl
@[simp] theorem exec_safeInputEdge (t : Nat) (n : Nat) (chB : Bool) (closed : Bool) (s : State) : exec (.safeInputEdge t n chB closed) s = execSafeInputEdge t n chB closed s := rfl
@[simp] theorem exec_testPulseCheck (t : Nat) (n : Nat) (chB : Bool) (cross : Bool) (s : State) : exec (.testPulseCheck t n chB cross) s = execTestPulseCheck t n chB cross s := rfl
@[simp] theorem exec_discrepancyExpiry (t : Nat) (n : Nat) (s : State) : exec (.discrepancyExpiry t n) s = execDiscrepancyExpiry t n s := rfl
@[simp] theorem exec_safePCycle (t : Nat) (speeds : List (Nat × Rat)) (s : State) : exec (.safePCycle t speeds) s = execSafePCycle t speeds s := rfl
@[simp] theorem exec_safeWatchdogExpiry (t : Nat) (s : State) : exec (.safeWatchdogExpiry t) s = execSafeWatchdogExpiry t s := rfl
@[simp] theorem exec_safePathDisagree (t : Nat) (s : State) : exec (.safePathDisagree t) s = execSafePathDisagree t s := rfl
@[simp] theorem exec_safePLockstepMismatch (t : Nat) (s : State) : exec (.safePLockstepMismatch t) s = execSafePLockstepMismatch t s := rfl
@[simp] theorem exec_processStopRequest (t : Nat) (mask : Nat) (fromPeer : Bool) (s : State) : exec (.processStopRequest t mask fromPeer) s = execProcessStopRequest t mask fromPeer s := rfl
@[simp] theorem exec_stsDelayExpiry (t : Nat) (p : Nat) (s : State) : exec (.stsDelayExpiry t p) s = execStsDelayExpiry t p s := rfl
@[simp] theorem exec_stsOffPulse (t : Nat) (p : Nat) (chB : Bool) (fell : Bool) (s : State) : exec (.stsOffPulse t p chB fell) s = execStsOffPulse t p chB fell s := rfl
@[simp] theorem exec_brakeSetSpeedReached (t : Nat) (b : Nat) (s : State) : exec (.brakeSetSpeedReached t b) s = execBrakeSetSpeedReached t b s := rfl
@[simp] theorem exec_brakeTestDue (t : Nat) (b : Nat) (s : State) : exec (.brakeTestDue t b) s = execBrakeTestDue t b s := rfl
@[simp] theorem exec_brakeTestThrust (t : Nat) (b : Nat) (s : State) : exec (.brakeTestThrust t b) s = execBrakeTestThrust t b s := rfl
@[simp] theorem exec_brakeTestThrustEnd (t : Nat) (b : Nat) (s : State) : exec (.brakeTestThrustEnd t b) s = execBrakeTestThrustEnd t b s := rfl
@[simp] theorem exec_brakeTestResult (t : Nat) (b : Nat) (rotP : Rat) (rotL : Rat) (s : State) : exec (.brakeTestResult t b rotP rotL) s = execBrakeTestResult t b rotP rotL s := rfl
@[simp] theorem exec_sltViolation (t : Nat) (j : Nat) (s : State) : exec (.sltViolation t j) s = execSltViolation t j s := rfl
@[simp] theorem exec_safetyOutputFault (t : Nat) (out : Nat) (s : State) : exec (.safetyOutputFault t out) s = execSafetyOutputFault t out s := rfl
@[simp] theorem exec_safetyEncoderFault (t : Nat) (k : Nat) (present : Bool) (s : State) : exec (.safetyEncoderFault t k present) s = execSafetyEncoderFault t k present s := rfl
@[simp] theorem exec_ssupLow (t : Nat) (s : State) : exec (.ssupLow t) s = execSsupLow t s := rfl
@[simp] theorem exec_safetyStartTest (t : Nat) (setOk : Bool) (bankOk : Bool) (mask : Nat) (s : State) : exec (.safetyStartTest t setOk bankOk mask) s = execSafetyStartTest t setOk s bankOk mask := rfl
@[simp] theorem exec_fioInputEdge (t : Nat) (c : Nat) (began : Nat) (volts : Rat) (mA : Rat) (s : State) : exec (.fioInputEdge t c began volts mA) s = execFioInputEdge t c began s volts mA := rfl
@[simp] theorem exec_fioWireBreak (t : Nat) (c : Nat) (mA : Rat) (s : State) : exec (.fioWireBreak t c mA) s = execFioWireBreak t c s mA := rfl
@[simp] theorem exec_fioWireBreakClear (t : Nat) (c : Nat) (since : Nat) (mA : Rat) (s : State) : exec (.fioWireBreakClear t c since mA) s = execFioWireBreakClear t c s since mA := rfl
@[simp] theorem exec_fioOutputSample (t : Nat) (c : Nat) (volts : Rat) (mA : Rat) (s : State) : exec (.fioOutputSample t c volts mA) s = execFioOutputSample t c volts mA s := rfl
@[simp] theorem exec_fioOvercurrentRetry (t : Nat) (c : Nat) (s : State) : exec (.fioOvercurrentRetry t c) s = execFioOvercurrentRetry t c s := rfl
@[simp] theorem exec_fioGroupOverload (t : Nat) (g : Nat) (s : State) : exec (.fioGroupOverload t g) s = execFioGroupOverload t g s := rfl
@[simp] theorem exec_fioSupplyStateChange (t : Nat) (g : Nat) (since : Nat) (volt : Rat) (s : State) : exec (.fioSupplyStateChange t g since volt) s = execFioSupplyStateChange t g since s volt := rfl
@[simp] theorem exec_fioRestoreSwitch (t : Nat) (g : Nat) (s : State) : exec (.fioRestoreSwitch t g) s = execFioRestoreSwitch t g s := rfl
@[simp] theorem exec_fioPulseEnd (t : Nat) (c : Nat) (s : State) : exec (.fioPulseEnd t c) s = execFioPulseEnd t c s := rfl
@[simp] theorem exec_canFrameReceived (t : Nat) (port : Nat) (sof : Nat) (frame : CanFrame) (s : State) : exec (.canFrameReceived t port sof frame) s = execCanFrameReceived t port sof frame s := rfl
@[simp] theorem exec_canTimedFrameDue (t : Nat) (port : Nat) (box : Nat) (idle : Bool) (s : State) : exec (.canTimedFrameDue t port box idle) s = execCanTimedFrameDue t port box s idle := rfl
@[simp] theorem exec_canTxAttemptEnd (t : Nat) (port : Nat) (outcome : TxOutcome) (s : State) : exec (.canTxAttemptEnd t port outcome) s = execCanTxAttemptEnd t port outcome s := rfl
@[simp] theorem exec_canFrameExpiry (t : Nat) (port : Nat) (box : Nat) (s : State) : exec (.canFrameExpiry t port box) s = execCanFrameExpiry t port box s := rfl
@[simp] theorem exec_canBusOff (t : Nat) (port : Nat) (s : State) : exec (.canBusOff t port) s = execCanBusOff t port s := rfl
@[simp] theorem exec_canRecoverComplete (t : Nat) (port : Nat) (s : State) : exec (.canRecoverComplete t port) s = execCanRecoverComplete t port s := rfl
@[simp] theorem exec_canRecoverTimeout (t : Nat) (port : Nat) (s : State) : exec (.canRecoverTimeout t port) s = execCanRecoverTimeout t port s := rfl
@[simp] theorem exec_canDetectDwellEnd (t : Nat) (port : Nat) (s : State) : exec (.canDetectDwellEnd t port) s = execCanDetectDwellEnd t port s := rfl
@[simp] theorem exec_canNodeForget (t : Nat) (port : Nat) (node : Nat) (s : State) : exec (.canNodeForget t port node) s = execCanNodeForget t port node s := rfl
@[simp] theorem exec_serialSentence (t : Nat) (port : Nat) (start : Nat) (charErr : Nat) (bytes : List Byte) (s : State) : exec (.serialSentence t port start charErr bytes) s = execSerialSentence t port start charErr bytes s := rfl
@[simp] theorem exec_serialBinaryFrame (t : Nat) (port : Nat) (start : Nat) (charErr : Nat) (bytes : List Byte) (s : State) : exec (.serialBinaryFrame t port start charErr bytes) s = execSerialBinaryFrame t port start charErr bytes s := rfl
@[simp] theorem exec_iec450Datagram (t : Nat) (group : Nat) (addr : Nat) (port : Nat) (bytes : List Byte) (s : State) : exec (.iec450Datagram t group addr port bytes) s = execIec450Datagram t group addr port bytes s := rfl
@[simp] theorem exec_serialTxSentence (t : Nat) (port : Nat) (kind : Nat) (s : State) : exec (.serialTxSentence t port kind) s = execSerialTxSentence t port kind s := rfl
@[simp] theorem exec_dmaStart (t : Nat) (ch : Nat) (s : State) : exec (.dmaStart t ch) s = execDmaStart t ch s := rfl
@[simp] theorem exec_dmaEnClear (t : Nat) (ch : Nat) (s : State) : exec (.dmaEnClear t ch) s = execDmaEnClear t ch s := rfl
@[simp] theorem exec_dmaTrigger (t : Nat) (kind : Nat) (s : State) : exec (.dmaTrigger t kind) s = execDmaTrigger t kind s := rfl
@[simp] theorem exec_dmaDescriptorEnd (t : Nat) (ch : Nat) (busErr : Bool) (s : State) : exec (.dmaDescriptorEnd t ch busErr) s = execDmaDescriptorEnd t ch busErr s := rfl
@[simp] theorem exec_logRecordSubmit (t : Nat) (code : EvCode) (cls : Nat) (params : List Word) (cap : Option (Nat × Nat)) (s : State) : exec (.logRecordSubmit t code cls params cap) s = execLogRecordSubmit t code cls params cap s := rfl
@[simp] theorem exec_logRecordRelease (t : Nat) (fails : Nat) (s : State) : exec (.logRecordRelease t fails) s = execLogRecordRelease t s fails := rfl
@[simp] theorem exec_logSnapshotCapture (t : Nat) (fails : Nat) (s : State) : exec (.logSnapshotCapture t fails) s = execLogSnapshotCapture t s fails := rfl
@[simp] theorem exec_logFreezeTimeout (t : Nat) (s : State) : exec (.logFreezeTimeout t) s = execLogFreezeTimeout t s := rfl
@[simp] theorem exec_logRdGo (t : Nat) (who : Who) (v : Word) (sound : Bool) (s : State) : exec (.logRdGo t who v sound) s = execLogRdGo t who v s sound := rfl
@[simp] theorem exec_logOptimeLoRead (t : Nat) (who : Who) (s : State) : exec (.logOptimeLoRead t who) s = execLogOptimeLoRead t who s := rfl
@[simp] theorem exec_supplyLowEntry (t : Nat) (vla : Rat) (vlb : Rat) (s : State) : exec (.supplyLowEntry t vla vlb) s = execSupplyLowEntry t vla vlb s := rfl
@[simp] theorem exec_supplyNormalReturn (t : Nat) (vla : Rat) (vlb : Rat) (s : State) : exec (.supplyNormalReturn t vla vlb) s = execSupplyNormalReturn t vla vlb s := rfl
@[simp] theorem exec_powerDown (t : Nat) (vla : Rat) (vlb : Rat) (s : State) : exec (.powerDown t vla vlb) s = execPowerDown t vla vlb s := rfl
@[simp] theorem exec_vlInputLost (t : Nat) (b : Bool) (v : Rat) (s : State) : exec (.vlInputLost t b v) s = execVlInputLost t b v s := rfl
@[simp] theorem exec_supplyHigh (t : Nat) (vla : Rat) (vlb : Rat) (s : State) : exec (.supplyHigh t vla vlb) s = execSupplyHigh t vla vlb s := rfl
@[simp] theorem exec_resetNAssert (t : Nat) (s : State) : exec (.resetNAssert t) s = execResetNAssert t s := rfl
@[simp] theorem exec_resetNRelease (t : Nat) (straps : Nat) (s : State) : exec (.resetNRelease t straps) s = execResetNRelease t straps s := rfl
@[simp] theorem exec_resetHeld (t : Nat) (s : State) : exec (.resetHeld t) s = execResetHeld t s := rfl
@[simp] theorem exec_coldStart (t : Nat) (straps : Nat) (vla : Rat) (vlb : Rat) (bad : RetainBad) (s : State) : exec (.coldStart t straps vla vlb bad) s = execColdStart t straps vla vlb s bad := rfl
@[simp] theorem exec_restoreComplete (t : Nat) (failed : Nat) (s : State) : exec (.restoreComplete t failed) s = execRestoreComplete t failed s := rfl
@[simp] theorem exec_keepCounterSave (t : Nat) (s : State) : exec (.keepCounterSave t) s = execKeepCounterSave t s := rfl
@[simp] theorem exec_timeKeeperCalibrate (t : Nat) (s : State) : exec (.timeKeeperCalibrate t) s = execTimeKeeperCalibrate t s := rfl
@[simp] theorem exec_baseplateHot (t : Nat) (temp : Rat) (s : State) : exec (.baseplateHot t temp) s = execBaseplateHot t temp s := rfl
@[simp] theorem exec_keepExitTimer (t : Nat) (s : State) : exec (.keepExitTimer t) s = execKeepExitTimer t s := rfl
@[simp] theorem exec_holdGrantTimeout (t : Nat) (s : State) : exec (.holdGrantTimeout t) s = execHoldGrantTimeout t s := rfl
@[simp] theorem exec_holdReleaseComplete (t : Nat) (s : State) : exec (.holdReleaseComplete t) s = execHoldReleaseComplete t s := rfl
@[simp] theorem exec_cfgEffectFrame (t : Nat) (s : State) : exec (.cfgEffectFrame t) s = execCfgEffectFrame t s := rfl
@[simp] theorem exec_imgTrialEnd (t : Nat) (d : Nat) (s : State) : exec (.imgTrialEnd t d) s = execImgTrialEnd t d s := rfl
@[simp] theorem exec_domainStartFailure (t : Nat) (d : Nat) (s : State) : exec (.domainStartFailure t d) s = execDomainStartFailure t d s := rfl
@[simp] theorem exec_journalEntryMirrored (t : Nat) (e : JEntry) (s : State) : exec (.journalEntryMirrored t e) s = execJournalEntryMirrored t e s := rfl
@[simp] theorem exec_wardenHoldStateReceived (t : Nat) (m : MirrorData) (s : State) : exec (.wardenHoldStateReceived t m) s = execWardenHoldStateReceived t m s := rfl
@[simp] theorem exec_safeResetForwarded (t : Nat) (s : State) : exec (.safeResetForwarded t) s = execSafeResetForwarded t s := rfl
@[simp] theorem exec_ssupRestored (t : Nat) (s : State) : exec (.ssupRestored t) s = execSsupRestored t s := rfl
@[simp] theorem exec_vlInputRestored (t : Nat) (which : Nat) (v : Rat) (s : State) : exec (.vlInputRestored t which v) s = execVlInputRestored t which v s := rfl
@[simp] theorem exec_ppsInLost (t : Nat) (s : State) : exec (.ppsInLost t) s = execPpsInLost t s := rfl
@[simp] theorem exec_canReceiveError (t : Nat) (port : Nat) (sof : Nat) (bitPos : Nat) (afterArb : Bool) (id : Nat) (eight : Bool) (s : State) : exec (.canReceiveError t port sof bitPos afterArb id eight) s = execCanReceiveError t port sof bitPos afterArb id s eight := rfl
@[simp] theorem exec_satSignalLost (t : Nat) (id : SigId) (s : State) : exec (.satSignalLost t id) s = execSatSignalLost t id s := rfl
@[simp] theorem exec_ptpTransmitInterval (t : Nat) (n : Nat) (port : Nat) (kind : Nat) (s : State) : exec (.ptpTransmitInterval t n port kind) s = execPtpTransmitInterval t n port kind s := rfl
@[simp] theorem exec_partitionStartCommand (t : Nat) (s : State) : exec (.partitionStartCommand t) s = execPartitionStartCommand t s := rfl

end Sys2Proof.Machine
end

