-- ==== Sys2Proof/Laws/Memory.lean ====
section
/-!
SUPPORT. Memory in its canonical form: every write keeps it, a read after a write gives what was written, and every other address reads as
before.
-/
namespace Sys2Proof.Machine

/-- A memory above an address lies above every lower one. -/
theorem Memory.above_of_lt {a b : Nat} (h : a < b) : ∀ {m : Memory}, Memory.above b m = true → Memory.above a m = true
  | [], _ => rfl
  | (c, v) :: m, hm => by
    simp only [Memory.above, Bool.and_eq_true, decide_eq_true_eq] at hm ⊢
    exact ⟨⟨Nat.lt_trans h hm.1.1, hm.1.2⟩, hm.2⟩

/-- A cell in front of a memory that lies above it. -/
theorem Memory.cons_above {c a : Nat} {v : Byte} {m : Memory} (hc : c < a) (hm : Memory.above a m = true) :
    Memory.above c (Memory.cons a v m) = true := by
  unfold Memory.cons
  split
  · exact Memory.above_of_lt hc hm
  · next hv => simp [Memory.above, hc, hv, hm]

/-- A write at an address above `c` keeps what lies above `c`. -/
theorem Memory.set_above {c a : Nat} {v : Byte} (hc : c < a) : ∀ {m : Memory}, Memory.above c m = true → Memory.above c (m.set a v) = true
  | [], _ => by
    show Memory.above c (Memory.cons a v []) = true
    exact Memory.cons_above hc rfl
  | (b, w) :: m, hm => by
    have hm' := hm
    simp only [Memory.above, Bool.and_eq_true, decide_eq_true_eq] at hm'
    show Memory.above c (if a = b then Memory.cons a v m else if a < b then Memory.cons a v ((b, w) :: m) else (b, w) :: Memory.set m a v) = true
    split
    · next he => subst he; exact Memory.cons_above hc hm'.2
    · split
      · next hl =>
        refine Memory.cons_above hc ?_
        simp [Memory.above, hl, hm'.1.2, hm'.2]
      · next hne hl =>
        have hba : b < a := Nat.lt_of_le_of_ne (Nat.le_of_not_lt hl) (fun e => hne e.symm)
        simp [Memory.above, hm'.1.1, hm'.1.2, Memory.set_above hba hm'.2]

/-- A memory above an address is canonical. -/
theorem Memory.wf_of_above {a : Nat} : ∀ {m : Memory}, Memory.above a m = true → Memory.wf m = true
  | [], _ => rfl
  | (b, v) :: m, hm => by
    simp only [Memory.above, Bool.and_eq_true, decide_eq_true_eq] at hm
    simp [Memory.wf, hm.1.2, hm.2]

/-- A canonical memory with a cell in front of it. -/
theorem Memory.cons_wf {a : Nat} {v : Byte} {m : Memory} (hm : Memory.above a m = true) : Memory.wf (Memory.cons a v m) = true := by
  unfold Memory.cons
  split
  · exact Memory.wf_of_above hm
  · next hv => simp [Memory.wf, hv, hm]

/-- A write keeps the canonical form. -/
theorem Memory.set_wf {a : Nat} {v : Byte} : ∀ {m : Memory}, Memory.wf m = true → Memory.wf (m.set a v) = true
  | [], _ => by
    show Memory.wf (Memory.cons a v []) = true
    exact Memory.cons_wf rfl
  | (b, w) :: m, hm => by
    have hm' := hm
    simp only [Memory.wf, Bool.and_eq_true, decide_eq_true_eq] at hm'
    show Memory.wf (if a = b then Memory.cons a v m else if a < b then Memory.cons a v ((b, w) :: m) else (b, w) :: Memory.set m a v) = true
    split
    · next he => subst he; exact Memory.cons_wf hm'.2
    · split
      · next hl =>
        refine Memory.cons_wf ?_
        simp [Memory.above, hl, hm'.1, hm'.2]
      · next hne hl =>
        have hba : b < a := Nat.lt_of_le_of_ne (Nat.le_of_not_lt hl) (fun e => hne e.symm)
        simp [Memory.wf, hm'.1, Memory.set_above hba hm'.2]

/-- A write of several bytes keeps the canonical form. -/
theorem Memory.write_wf : ∀ {bs : List Byte} {m : Memory} {a : Nat}, Memory.wf m = true → Memory.wf (m.write a bs) = true
  | [], _, _, h => h
  | _ :: bs, _, _, h => Memory.write_wf (bs := bs) (Memory.set_wf h)

/-- An address at or below the least listed one reads as blank. -/
theorem Memory.get_above {a c : Nat} (h : c ≤ a) : ∀ {m : Memory}, Memory.above a m = true → m.get c = Memory.blank
  | [], _ => rfl
  | (b, v) :: m, hm => by
    simp only [Memory.above, Bool.and_eq_true, decide_eq_true_eq] at hm
    have hb : c < b := Nat.lt_of_le_of_lt h hm.1.1
    show (if c = b then v else if c < b then Memory.blank else Memory.get m c) = Memory.blank
    rw [if_neg (Nat.ne_of_lt hb), if_pos hb]

/-- What a cell in front of a memory reads as. -/
theorem Memory.get_cons {a c : Nat} {v : Byte} {m : Memory} (hm : Memory.above a m = true) :
    (Memory.cons a v m).get c = if c = a then v else m.get c := by
  unfold Memory.cons
  split
  · next hv =>
    split
    · next he => rw [he, Memory.get_above (Nat.le_refl a) hm, hv]
    · rfl
  · show (if c = a then v else if c < a then Memory.blank else Memory.get m c) = if c = a then v else m.get c
    split
    · rfl
    · split
      · next hl => rw [Memory.get_above (Nat.le_of_lt hl) hm]
      · rfl

/-- A read after a write, in a memory above an address. -/
theorem Memory.get_set_above {z a c : Nat} {v : Byte} : ∀ {m : Memory}, Memory.above z m = true → (m.set a v).get c = if c = a then v else m.get c
  | [], _ => by
    show (Memory.cons a v []).get c = _
    rw [Memory.get_cons rfl]
  | (b, w) :: m, hm => by
    have hm' := hm
    simp only [Memory.above, Bool.and_eq_true, decide_eq_true_eq] at hm'
    show Memory.get (if a = b then Memory.cons a v m else if a < b then Memory.cons a v ((b, w) :: m) else (b, w) :: Memory.set m a v) c = _
    split
    · next he =>
      subst he
      rw [Memory.get_cons hm'.2]
      split
      · rfl
      · next hne =>
        show Memory.get m c = if c = a then w else if c < a then Memory.blank else Memory.get m c
        rw [if_neg hne]
        split
        · next hl => exact Memory.get_above (Nat.le_of_lt hl) hm'.2
        · rfl
    · split
      · next hl => rw [Memory.get_cons (by simp [Memory.above, hl, hm'.1.2, hm'.2])]
      · next hne hl =>
        have hba : b < a := Nat.lt_of_le_of_ne (Nat.le_of_not_lt hl) (fun e => hne e.symm)
        show (if c = b then w else if c < b then Memory.blank else Memory.get (Memory.set m a v) c) =
          if c = a then v else if c = b then w else if c < b then Memory.blank else Memory.get m c
        rw [Memory.get_set_above hm'.2]
        by_cases h1 : c = a
        · subst h1
          rw [if_pos rfl, if_neg (Nat.ne_of_gt hba), if_neg (Nat.not_lt.mpr (Nat.le_of_lt hba)), if_pos rfl]
        · rw [if_neg h1, if_neg h1]

/-- A read after a write gives the byte written, and every other address reads as before. -/
theorem Memory.get_set {a c : Nat} {v : Byte} : ∀ {m : Memory}, Memory.wf m = true → (m.set a v).get c = if c = a then v else m.get c
  | [], _ => by
    show (Memory.cons a v []).get c = _
    rw [Memory.get_cons rfl]
  | (b, w) :: m, hm => by
    have hm' := hm
    simp only [Memory.wf, Bool.and_eq_true, decide_eq_true_eq] at hm'
    show Memory.get (if a = b then Memory.cons a v m else if a < b then Memory.cons a v ((b, w) :: m) else (b, w) :: Memory.set m a v) c = _
    split
    · next he =>
      subst he
      rw [Memory.get_cons hm'.2]
      split
      · rfl
      · next hne =>
        show Memory.get m c = if c = a then w else if c < a then Memory.blank else Memory.get m c
        rw [if_neg hne]
        split
        · next hl => exact Memory.get_above (Nat.le_of_lt hl) hm'.2
        · rfl
    · split
      · next hl => rw [Memory.get_cons (by simp [Memory.above, hl, hm'.1, hm'.2])]
      · next hne hl =>
        have hba : b < a := Nat.lt_of_le_of_ne (Nat.le_of_not_lt hl) (fun e => hne e.symm)
        show (if c = b then w else if c < b then Memory.blank else Memory.get (Memory.set m a v) c) =
          if c = a then v else if c = b then w else if c < b then Memory.blank else Memory.get m c
        rw [Memory.get_set_above hm'.2]
        by_cases h1 : c = a
        · subst h1
          rw [if_pos rfl, if_neg (Nat.ne_of_gt hba), if_neg (Nat.not_lt.mpr (Nat.le_of_lt hba)), if_pos rfl]
        · rw [if_neg h1, if_neg h1]

end Sys2Proof.Machine
end

