-- ==== Sys2Proof/Laws/Safety.lean ====
section
/-!
SUPPORT. The safety section keeps its numbered parts through every evaluation.
-/
namespace Sys2Proof.Machine

theorem sizes_foldl {α : Type} {f : SafeSt → α → SafeSt} (hf : ∀ x a, (f x a).sizes = x.sizes) (l : List α) (x : SafeSt) :
    (l.foldl f x).sizes = x.sizes := by
  induction l generalizing x with
  | nil => rfl
  | cons a l ih => exact (ih (f x a)).trans (hf x a)

@[simp] theorem SafeSt.modIn_sizes (x : SafeSt) (n : Nat) (f : SafeIn → SafeIn) : (x.modIn n f).sizes = x.sizes := by
  simp [SafeSt.modIn, SafeSt.sizes]

@[simp] theorem SafeSt.modPair_sizes (x : SafeSt) (n : Nat) (f : StsPair → StsPair) : (x.modPair n f).sizes = x.sizes := by
  simp [SafeSt.modPair, SafeSt.sizes]

@[simp] theorem SafeSt.modBrake_sizes (x : SafeSt) (n : Nat) (f : Brake → Brake) : (x.modBrake n f).sizes = x.sizes := by
  simp [SafeSt.modBrake, SafeSt.sizes]

@[simp] theorem SafeSt.modEntry_sizes (x : SafeSt) (n : Nat) (f : SltEntry → SltEntry) : (x.modEntry n f).sizes = x.sizes := by
  simp [SafeSt.modEntry, SafeSt.sizes]

@[simp] theorem SafeSt.noteDemands_sizes (x : SafeSt) : x.noteDemands.sizes = x.sizes := by
  simp [SafeSt.noteDemands, SafeSt.sizes]

@[simp] theorem SafeSt.evalPair_sizes (x : SafeSt) (n p : Nat) : (x.evalPair n p).sizes = x.sizes := SafeSt.modPair_sizes _ _ _

@[simp] theorem SafeSt.evalBrake_sizes (x : SafeSt) (n p : Nat) : (x.evalBrake n p).sizes = x.sizes := SafeSt.modBrake_sizes _ _ _

@[simp] theorem SafeSt.evalSlt_sizes (x : SafeSt) (p : Nat) : (x.evalSlt p).sizes = x.sizes := SafeSt.modEntry_sizes _ _ _

@[simp] theorem SafeSt.eval_sizes (x : SafeSt) (n : Nat) : (x.eval n).sizes = x.sizes := by
  unfold SafeSt.eval
  dsimp only
  rw [sizes_foldl (fun x p => SafeSt.evalBrake_sizes x n p), sizes_foldl (fun x p => SafeSt.evalPair_sizes x n p),
    sizes_foldl (fun x p => SafeSt.evalSlt_sizes x p), SafeSt.noteDemands_sizes]

@[simp] theorem SafeSt.driveL_sizes (x : SafeSt) : x.driveL.sizes = x.sizes := by
  unfold SafeSt.driveL
  dsimp only
  rw [sizes_foldl (fun x b => SafeSt.modBrake_sizes x b _), sizes_foldl (fun x p => SafeSt.modPair_sizes x p _)]

@[simp] theorem SafeSt.driveP_sizes (x : SafeSt) : x.driveP.sizes = x.sizes := by
  unfold SafeSt.driveP
  dsimp only
  rw [sizes_foldl (fun x b => SafeSt.modBrake_sizes x b _), sizes_foldl (fun x p => SafeSt.modPair_sizes x p _)]

@[simp] theorem SafeSt.reset_sizes (x : SafeSt) (n : Nat) : (x.reset n).sizes = x.sizes := by
  unfold SafeSt.reset
  dsimp only
  rw [SafeSt.eval_sizes, sizes_foldl (fun x b => SafeSt.modBrake_sizes x b _), sizes_foldl ?_]
  · simp [SafeSt.sizes]
  · intro x p
    split
    · rfl
    · exact SafeSt.modPair_sizes x p _

@[simp] theorem SafeSt.watchSlt_sizes (x : SafeSt) (n j : Nat) : (x.watchSlt n j).sizes = x.sizes := SafeSt.modEntry_sizes _ _ _

/-- The safety section changed, its parts kept. -/
theorem State.modSafe_sizes {s : State} {f : SafeSt → SafeSt} (k : (f s.safe).sizes = s.safe.sizes) : (s.modSafe f).sizes = s.sizes := by
  unfold State.modSafe State.sizes
  dsimp only
  rw [k]

end Sys2Proof.Machine
end

