-- ==== Sys2Proof/Laws/Kept.lean ====
section
/-!
SUPPORT. How what every run keeps goes through the forms the meanings are written in. The lemmas of the operations themselves, one for each,
stand in the files Laws/Kept<file>.lean, named <operation>_kept.
-/
namespace Sys2Proof.Machine
variable {q : List Instr} {n : Nat}

/-- A change that leaves the queue, the instant and the memories. -/
theorem kept_mem {s s' : State} (h : Kept q n s)
    (e : s'.pending = s.pending ∧ s'.now = s.now ∧ s'.dram.cells = s.dram.cells ∧ s'.dma.sram0 = s.dma.sram0 ∧ s'.dma.sram1 = s.dma.sram1)
    (k : s.sizes = unitSizes → s'.sizes = unitSizes) : Kept q n s' :=
  ⟨e.1.trans h.1, e.2.1.trans h.2, e.2.2.1 ▸ h.3, e.2.2.2.1 ▸ h.4, e.2.2.2.2 ▸ h.5, k h.6⟩

/-- A change that leaves the queue, the instant, DRAM and the DMA engine. -/
theorem kept_upd {s : State} {free : Nat} {sent : List Emit} {alarms : List (EvCode × Nat)} {part : PartitionSt} {frame : FrameSt} {est : EstSt} {hold : HoldSt} {alc : AlcSt} {cqa : CqaSt} {hen : HenSt} {thr : ThrSt} {sat : SatSt} {tmu : TmuSt} {cmd : CmdSt} {pnt : PntSt} {red : RedSt} {safe : SafeSt} {fio : FioSt} {bus : BusSt} {log : LogSt} {keep : KeepSt} {sys : SysSt} {cfg : CfgSt}
    (h : Kept q n s)
    (k : s.sizes = unitSizes →
      [[thr.chans.length], [fio.chans.length, fio.groups.length], [bus.can.length, bus.ser.length, bus.ao.length, bus.ai.length],
       [s.dma.chans.length], [tmu.hi.length, tmu.caps.length, tmu.pulses.length], [alc.chans.length, alc.sections.length],
       [cqa.cases.length], [est.slots.length], [hen.queues.length], [log.drops.length, log.qdrops.length, log.rd.length],
       [pnt.watch.length], [sat.ants.length], safe.sizes] = unitSizes) :
    Kept q n (State.mk s.pending s.now free sent alarms part s.dram frame est hold alc cqa hen thr sat tmu cmd pnt red safe fio bus s.dma log keep sys cfg) :=
  ⟨h.1, h.2, h.3, h.4, h.5, k h.6⟩

/-- What holds is kept where it reads the same. -/
theorem same {p : Prop} (h : p) : p := h

/-- The recorder replaced, its counters and ports kept. -/
theorem log_kept {s : State} {l : LogSt} (h : Kept q n s)
    (e : l.drops.length = s.log.drops.length ∧ l.qdrops.length = s.log.qdrops.length ∧ l.rd.length = s.log.rd.length) :
    Kept q n { s with log := l } :=
  kept_upd h (fun k => by simpa [State.sizes, unitSizes, e.1, e.2.1, e.2.2] using k)

theorem placeSnap_sizes {l m : LogSt} {x : Snap} (e : l.placeSnap x = some m) :
    m.drops.length = l.drops.length ∧ m.qdrops.length = l.qdrops.length ∧ m.rd.length = l.rd.length := by
  unfold LogSt.placeSnap at e
  split at e
  · cases e
    exact ⟨rfl, rfl, rfl⟩
  · rw [Option.map_eq_some_iff] at e
    obtain ⟨_, _, rfl⟩ := e
    exact ⟨rfl, rfl, rfl⟩

/-- Five fields left as they are. -/
theorem five {α β γ δ ε : Type} (a : α) (b : β) (c : γ) (d : δ) (e : ε) : a = a ∧ b = b ∧ c = c ∧ d = d ∧ e = e :=
  ⟨rfl, rfl, rfl, rfl, rfl⟩

/-- A fact about a state shown first, and then used. -/
theorem have_kept {s : State} {p : Prop} (h : Kept q n s) (k : Kept q n s → p) : p := k h

theorem kept_ite {c : Prop} [Decidable c] {a b : State} (ha : Kept q n a) (hb : Kept q n b) : Kept q n (if c then a else b) := by
  split
  · exact ha
  · exact hb

theorem kept_ite_fst {α : Type} {c : Prop} [Decidable c] {a b : State × α} (ha : Kept q n a.1) (hb : Kept q n b.1) :
    Kept q n (if c then a else b).1 := by
  split
  · exact ha
  · exact hb

theorem kept_ite_snd {α : Type} {c : Prop} [Decidable c] {a b : α × State} (ha : Kept q n a.2) (hb : Kept q n b.2) :
    Kept q n (if c then a else b).2 := by
  split
  · exact ha
  · exact hb

theorem kept_snd {α : Type} {d : α × State} {a : α} {s : State} (e : d = (a, s)) (h : Kept q n d.2) : Kept q n s := by
  subst e
  exact h

theorem kept_fst {α : Type} {d : State × α} {a : α} {s : State} (e : d = (s, a)) (h : Kept q n d.1) : Kept q n s := by
  subst e
  exact h

theorem kept_mk_fst {α : Type} {s : State} {a : α} (h : Kept q n s) : Kept q n (s, a).1 := h

theorem kept_mk_snd {α : Type} {s : State} {a : α} (h : Kept q n s) : Kept q n (a, s).2 := h

theorem kept_foldl {α : Type} {f : State → α → State} {l : List α} {s : State} (h : Kept q n s)
    (hf : ∀ s a, Kept q n s → Kept q n (f s a)) : Kept q n (l.foldl f s) := by
  induction l generalizing s with
  | nil => exact h
  | cons a l ih => exact ih (hf s a h)

theorem kept_foldl_fst {α β : Type} {f : State × β → α → State × β} {l : List α} {s : State × β} (h : Kept q n s.1)
    (hf : ∀ s a, Kept q n s.1 → Kept q n (f s a).1) : Kept q n (l.foldl f s).1 := by
  induction l generalizing s with
  | nil => exact h
  | cons a l ih => exact ih (hf s a h)

theorem kept_foldl_snd {α β : Type} {f : β × State → α → β × State} {l : List α} {s : β × State} (h : Kept q n s.2)
    (hf : ∀ s a, Kept q n s.2 → Kept q n (f s a).2) : Kept q n (l.foldl f s).2 := by
  induction l generalizing s with
  | nil => exact h
  | cons a l ih => exact ih (hf s a h)

theorem keptR_next {s : State} (h : Kept q n s) : KeptR q n (.next s) := by
  intro t e
  cases e
  exact h

theorem keptR_guard {c : Bool} {k : Nat} {s : State} (h : Kept q n s) : KeptR q n (guardUnit c k s) := by
  unfold guardUnit
  split
  · exact keptR_next h
  · intro t e
    cases e

theorem keptR_ite {c : Prop} [Decidable c] {a b : Res} (ha : KeptR q n a) (hb : KeptR q n b) : KeptR q n (if c then a else b) := by
  split
  · exact ha
  · exact hb

/-- What an opcode's command does, and what its refusal does, keep what every run keeps. -/
structure KeptOp (o : OpDef) : Prop where
  run : ∀ {q n s a b p}, Kept q n s → Kept q n (o.run s a b p).1
  bad : ∀ {q n s p}, Kept q n s → Kept q n (o.bad s p)

theorem State.arrive_kept {s : State} {t : Nat} (h : Kept q n s) : Kept q (max n t) (s.arrive t) :=
  ⟨h.1, congrArg (fun x => max x t) h.2, h.3, h.4, h.5, h.6⟩

end Sys2Proof.Machine
end

