-- ==== Sys2Proof/Laws/KeptOps.lean ====
section
/-!
SUPPORT. What every run keeps, through the operations and meanings of Machine/Ops.lean: one lemma for each.
-/
namespace Sys2Proof.Machine
variable {q : List Instr} {n : Nat}

theorem State.emit_kept {s a1} (h : Kept q n s) :
    Kept q n (State.emit s a1) := by
  unfold State.emit
  exact kept_upd h same

theorem State.busErr_kept {s a1 a2} (h : Kept q n s) :
    Kept q n (State.busErr s a1 a2) := by
  unfold State.busErr
  exact State.emit_kept h

theorem State.freeW_kept {s} (h : Kept q n s) :
    Kept q n (State.freeW s).2 := by
  unfold State.freeW
  exact kept_upd h same

theorem State.freeQ_kept {s} (h : Kept q n s) :
    Kept q n (State.freeQ s).2 := by
  unfold State.freeQ
  exact kept_upd h same

theorem State.freeBytes_kept {s a1} (h : Kept q n s) :
    Kept q n (State.freeBytes s a1).2 := by
  unfold State.freeBytes
  exact kept_upd h same

theorem State.setDom_kept {s a1 a2} (h : Kept q n s) :
    Kept q n (State.setDom s a1 a2) := by
  unfold State.setDom
  exact kept_upd h same

theorem State.rawAnchor_kept {s} (h : Kept q n s) :
    Kept q n (State.rawAnchor s) := by
  unfold State.rawAnchor
  exact kept_upd h same

theorem State.putVc_kept {s a1 a2} (h : Kept q n s) :
    Kept q n (State.putVc s a1 a2) := by
  unfold State.putVc
  refine kept_ite ?_ ?_
  · exact kept_upd h same
  · exact kept_upd h same

theorem State.setVc_kept {s a1 a2} (h : Kept q n s) :
    Kept q n (State.setVc s a1 a2) := by
  unfold State.setVc
  extract_lets +onlyGivenNames v1
  extract_lets +onlyGivenNames v2
  have h2 : Kept q n v2 := by
    unfold v2
    refine kept_ite ?_ ?_
    · exact kept_upd h same
    · exact h
  clear_value v2
  exact State.putVc_kept h2

end Sys2Proof.Machine
end

