-- ==== Sys2Proof/Laws/KeptLogOps.lean ====
section
/-!
SUPPORT. What every run keeps, through the operations and meanings of Machine/LogOps.lean: one lemma for each.
-/
namespace Sys2Proof.Machine
variable {q : List Instr} {n : Nat}

theorem State.countDrop_kept {s a1} (h : Kept q n s) :
    Kept q n (State.countDrop s a1) := by
  unfold State.countDrop
  exact kept_upd h (fun e => by simpa [State.sizes, unitSizes] using e)

theorem State.storeMram_kept {s a1} (h : Kept q n s) :
    Kept q n (State.storeMram s a1) := by
  unfold State.storeMram
  extract_lets +onlyGivenNames v1
  extract_lets +onlyGivenNames v2
  extract_lets +onlyGivenNames v3
  extract_lets +onlyGivenNames v4
  extract_lets +onlyGivenNames v5
  extract_lets +onlyGivenNames v6
  refine kept_ite ?_ ?_
  · unfold v3
    exact kept_upd h same
  · refine kept_ite ?_ ?_
    · unfold v3
      exact kept_upd h same
    · refine kept_ite ?_ ?_
      · unfold v4
        clear_value v1
        split
        next y7 y8 y9 =>
          unfold v3
          exact kept_upd h same
        next y10 y11 =>
          exact State.countDrop_kept h
      · unfold v4
        clear_value v1
        split
        next y12 y13 y14 =>
          unfold v3
          exact kept_upd h same
        next y15 y16 =>
          exact State.countDrop_kept h

theorem State.storeSpill_kept {s a1} (h : Kept q n s) :
    Kept q n (State.storeSpill s a1) := by
  unfold State.storeSpill
  extract_lets +onlyGivenNames v1
  extract_lets +onlyGivenNames v2
  extract_lets +onlyGivenNames v3
  extract_lets +onlyGivenNames v4
  refine kept_ite ?_ ?_
  · unfold v4
    exact kept_upd h same
  · clear_value v2
    clear_value v1
    split
    next y5 y6 y7 =>
      unfold v4
      exact kept_upd h same
    next y8 y9 =>
      exact kept_upd h (fun e => by simpa [State.sizes, unitSizes] using e)

theorem State.storeRec_kept {s a1} (h : Kept q n s) :
    Kept q n (State.storeRec s a1) := by
  unfold State.storeRec
  refine kept_ite ?_ ?_
  · exact State.storeSpill_kept h
  · exact State.storeMram_kept h

theorem State.takeSeq_kept {s} (h : Kept q n s) :
    Kept q n (State.takeSeq s).2 := by
  unfold State.takeSeq
  exact kept_upd h same

theorem State.fireTrigger_kept {s a1 a2} (h : Kept q n s) :
    Kept q n (State.fireTrigger s a1 a2).1 := by
  unfold State.fireTrigger
  refine kept_ite_fst ?_ ?_
  · exact h
  · extract_lets +onlyGivenNames v1
    refine kept_ite_fst ?_ ?_
    · exact kept_upd h same
    · exact kept_upd h same

theorem State.numberEntry_kept {s a1} (h : Kept q n s) :
    Kept q n (State.numberEntry s a1).1 := by
  unfold State.numberEntry
  split
  next y1 y2 y3 y4 =>
    have h5 : Kept q n y3 := kept_snd y4 (State.takeSeq_kept h)
    extract_lets +onlyGivenNames v6
    extract_lets +onlyGivenNames v7
    extract_lets +onlyGivenNames v8
    extract_lets +onlyGivenNames v9
    extract_lets +onlyGivenNames v10
    have h10 : Kept q n v10 := by
      unfold v10
      exact kept_upd h5 same
    clear_value v10
    split
    next y11 y12 =>
      exact h10
    next y13 y14 y15 =>
      exact State.fireTrigger_kept h10

theorem State.direct_kept {s a1 a2 a3} (h : Kept q n s) :
    Kept q n (State.direct s a1 a2 a3) := by
  unfold State.direct
  split
  next y1 y2 y3 y4 =>
    have h5 : Kept q n y3 := kept_snd y4 (State.takeSeq_kept h)
    extract_lets +onlyGivenNames v6
    exact State.storeRec_kept h5

theorem State.noteQueue_kept {s} (h : Kept q n s) :
    Kept q n (State.noteQueue s) := by
  unfold State.noteQueue
  exact kept_upd h same

theorem State.countQdrop_kept {s a1} (h : Kept q n s) :
    Kept q n (State.countQdrop s a1) := by
  unfold State.countQdrop
  exact kept_upd h (fun e => by simpa [State.sizes, unitSizes] using e)

theorem State.pushEntry_kept {s a1} (h : Kept q n s) :
    Kept q n (State.pushEntry s a1) := by
  unfold State.pushEntry
  extract_lets +onlyGivenNames v1
  extract_lets +onlyGivenNames v2
  exact State.noteQueue_kept (kept_upd h same)

theorem State.enqueue_kept {s a1} (h : Kept q n s) :
    Kept q n (State.enqueue s a1) := by
  unfold State.enqueue
  extract_lets +onlyGivenNames v1
  extract_lets +onlyGivenNames v2
  refine kept_ite ?_ ?_
  · refine kept_ite ?_ ?_
    · exact State.countQdrop_kept h
    · clear_value v2
      clear_value v1
      split
      next y3 y4 =>
        exact State.countQdrop_kept h
      next y5 y6 y7 =>
        exact State.pushEntry_kept (State.countQdrop_kept (kept_upd h same))
  · refine kept_ite ?_ ?_
    · extract_lets +onlyGivenNames v8
      extract_lets +onlyGivenNames v9
      have h9 : Kept q n v9 := by
        unfold v9
        exact kept_upd h same
      clear_value v9
      refine kept_ite ?_ ?_
      · extract_lets +onlyGivenNames v10
        exact kept_upd h9 same
      · exact State.pushEntry_kept h9
    · exact State.pushEntry_kept h

theorem State.floodCheck_kept {s} (h : Kept q n s) :
    Kept q n (State.floodCheck s) := by
  unfold State.floodCheck
  refine kept_ite ?_ ?_
  · extract_lets +onlyGivenNames v1
    extract_lets +onlyGivenNames v2
    have h2 : Kept q n v2 := by
      unfold v2
      exact kept_upd h same
    clear_value v2
    exact State.enqueue_kept h2
  · exact h

theorem State.submitRec_kept {s a1 a2 a3 a4} (h : Kept q n s) :
    Kept q n (State.submitRec s a1 a2 a3 a4) := by
  unfold State.submitRec
  refine kept_ite ?_ ?_
  · exact h
  · refine kept_ite ?_ ?_
    · exact State.direct_kept h
    · extract_lets +onlyGivenNames v1
      extract_lets +onlyGivenNames v2
      refine kept_ite ?_ ?_
      · clear_value v2
        split
        next y3 y4 y5 y6 =>
          have h7 : Kept q n y4 := kept_fst y6 (State.numberEntry_kept h)
          exact State.storeRec_kept h7
      · exact State.floodCheck_kept (State.enqueue_kept h)

theorem State.event_kept {s a1 a2} (h : Kept q n s) :
    Kept q n (State.event s a1 a2) := by
  unfold State.event
  exact State.submitRec_kept h

theorem State.raiseAlarm_kept {s a1 a2 a3} (h : Kept q n s) :
    Kept q n (State.raiseAlarm s a1 a2 a3) := by
  unfold State.raiseAlarm
  refine kept_ite ?_ ?_
  · exact h
  · exact State.submitRec_kept (kept_upd h same)

theorem State.dropAlarm_kept {s a1 a2} (h : Kept q n s) :
    Kept q n (State.dropAlarm s a1 a2) := by
  unfold State.dropAlarm
  exact kept_upd h same

theorem State.clearAlarm_kept {s a1 a2} (h : Kept q n s) :
    Kept q n (State.clearAlarm s a1 a2) := by
  unfold State.clearAlarm
  refine kept_ite ?_ ?_
  · exact State.submitRec_kept (State.dropAlarm_kept h)
  · exact h

theorem State.alarmIf_kept {s a1 a2 a3} (h : Kept q n s) :
    Kept q n (State.alarmIf s a1 a2 a3) := by
  unfold State.alarmIf
  refine kept_ite ?_ ?_
  · exact State.raiseAlarm_kept h
  · exact State.clearAlarm_kept h

theorem State.disableRec_kept {s a1 a2 a3 a4 a5 a6 a7} (h : Kept q n s) :
    Kept q n (State.disableRec s a1 a2 a3 a4 a5 a6 a7) := by
  unfold State.disableRec
  exact State.submitRec_kept h

theorem State.releaseEntry_kept {s a1} (h : Kept q n s) :
    Kept q n (State.releaseEntry s a1) := by
  unfold State.releaseEntry
  split
  next y1 y2 y3 y4 =>
    have h5 : Kept q n y2 := kept_fst y4 (State.numberEntry_kept h)
    refine kept_ite ?_ ?_
    · extract_lets +onlyGivenNames v6
      exact kept_upd h5 same
    · exact State.storeRec_kept (kept_upd h5 same)

theorem State.writeHeld_kept {s} (h : Kept q n s) :
    Kept q n (State.writeHeld s) := by
  unfold State.writeHeld
  extract_lets +onlyGivenNames v1
  extract_lets +onlyGivenNames v2
  refine kept_foldl (kept_upd h same) ?_
  intro x3 x4 h5
  exact State.storeRec_kept h5

theorem State.flushQueue.go_kept {a0 s} (h : Kept q n s) :
    Kept q n (State.flushQueue.go a0 s) := by
  induction a0 generalizing s with
  | zero =>
    unfold State.flushQueue.go
    exact h
  | succ b1 ih =>
    unfold State.flushQueue.go
    split
    next y1 y2 =>
      exact h
    next y3 y4 y5 =>
      apply ih
      exact State.releaseEntry_kept h

theorem State.flushQueue_kept {s} (h : Kept q n s) :
    Kept q n (State.flushQueue s) := by
  unfold State.flushQueue
  exact State.writeHeld_kept (State.flushQueue.go_kept h)

end Sys2Proof.Machine
end

