-- ==== Sys2Proof/Laws/KeptCmdOps.lean ====
section
/-!
SUPPORT. What every run keeps, through the operations and meanings of Machine/CmdOps.lean: one lemma for each.
-/
namespace Sys2Proof.Machine
variable {q : List Instr} {n : Nat}

theorem State.modSess_kept {s a1 a2} (h : Kept q n s) :
    Kept q n (State.modSess s a1 a2) := by
  unfold State.modSess
  exact kept_upd h same

theorem State.sendPkt_kept {s a1 a2 a3 a4 a5 a6} (h : Kept q n s) :
    Kept q n (State.sendPkt s a1 a2 a3 a4 a5 a6) := by
  unfold State.sendPkt
  extract_lets +onlyGivenNames v1
  extract_lets +onlyGivenNames v2
  exact State.emit_kept h

theorem State.journalLow_kept {s} (h : Kept q n s) :
    Kept q n (State.journalLow s) := by
  unfold State.journalLow
  refine kept_ite ?_ ?_
  · exact State.raiseAlarm_kept h
  · refine kept_ite ?_ ?_
    · exact State.clearAlarm_kept h
    · exact h

theorem State.pruneJournal_kept {s} (h : Kept q n s) :
    Kept q n (State.pruneJournal s) := by
  unfold State.pruneJournal
  exact State.journalLow_kept (kept_upd h same)

theorem State.modEntry_kept {s a1 a2} (h : Kept q n s) :
    Kept q n (State.modEntry s a1 a2) := by
  unfold State.modEntry
  exact kept_upd h same

theorem State.dropEntries_kept {s a1} (h : Kept q n s) :
    Kept q n (State.dropEntries s a1) := by
  unfold State.dropEntries
  extract_lets +onlyGivenNames v1
  extract_lets +onlyGivenNames v2
  extract_lets +onlyGivenNames v3
  extract_lets +onlyGivenNames v4
  have h4 : Kept q n v4 := by
    unfold v4
    exact kept_upd h same
  clear_value v4
  refine kept_foldl h4 ?_
  intro x5 x6 h7
  exact State.modSess_kept h7

theorem State.journalCut_kept {s a1} (h : Kept q n s) :
    Kept q n (State.journalCut s a1) := by
  unfold State.journalCut
  extract_lets +onlyGivenNames v1
  clear_value v1
  split
  next y2 =>
    exact h
  next y3 y4 y5 =>
    extract_lets +onlyGivenNames v6
    extract_lets +onlyGivenNames v7
    have h7 : Kept q n v7 := by
      unfold v7
      exact State.dropEntries_kept h
    clear_value v7
    exact kept_upd h7 same

theorem State.pushEntryJ_kept {s a1 a2 a3 a4 a5 a6 a7 a8 a9} (h : Kept q n s) :
    Kept q n (State.pushEntryJ s a1 a2 a3 a4 a5 a6 a7 a8 a9) := by
  unfold State.pushEntryJ
  extract_lets +onlyGivenNames v1
  extract_lets +onlyGivenNames v2
  extract_lets +onlyGivenNames v3
  extract_lets +onlyGivenNames v4
  exact State.journalLow_kept (State.modSess_kept (kept_upd h same))

theorem State.setReply_kept {s a1 a2} (h : Kept q n s) :
    Kept q n (State.setReply s a1 a2) := by
  unfold State.setReply
  extract_lets +onlyGivenNames v1
  have h1 : Kept q n v1 := by
    unfold v1
    exact State.modEntry_kept h
  clear_value v1
  split
  next y2 y3 y4 =>
    refine kept_ite ?_ ?_
    · exact kept_upd h1 same
    · exact h1
  next y5 y6 =>
    exact h1

theorem State.setWord_kept {s a1 a2 a3} (h : Kept q n s) :
    Kept q n (State.setWord s a1 a2 a3) := by
  unfold State.setWord
  exact State.modSess_kept h

theorem State.keepReply_kept {s a1 a2} (h : Kept q n s) :
    Kept q n (State.keepReply s a1 a2) := by
  unfold State.keepReply
  extract_lets +onlyGivenNames v1
  extract_lets +onlyGivenNames v2
  exact State.modSess_kept h

theorem State.advance_kept {s a1} (h : Kept q n s) :
    Kept q n (State.advance s a1) := by
  unfold State.advance
  exact State.modSess_kept h

theorem State.freeSlot_kept {s a1} (h : Kept q n s) :
    Kept q n (State.freeSlot s a1) := by
  unfold State.freeSlot
  split
  next y1 y2 =>
    exact h
  next y3 y4 y5 =>
    refine kept_ite ?_ ?_
    · exact State.pruneJournal_kept (kept_upd h same)
    · exact h

theorem State.reply_kept {s a1 a2 a3 a4 a5} (h : Kept q n s) :
    Kept q n (State.reply s a1 a2 a3 a4 a5) := by
  unfold State.reply
  split
  next y1 y2 =>
    exact h
  next y3 y4 y5 =>
    extract_lets +onlyGivenNames v6
    have h6 : Kept q n v6 := by
      unfold v6
      exact State.keepReply_kept h
    clear_value v6
    extract_lets +onlyGivenNames v7
    have h7 : Kept q n v7 := by
      unfold v7
      exact State.advance_kept h6
    clear_value v7
    extract_lets +onlyGivenNames v8
    extract_lets +onlyGivenNames v9
    have h9 : Kept q n v9 := by
      unfold v9
      refine kept_ite ?_ ?_
      · exact kept_upd h7 same
      · exact h7
    clear_value v9
    exact State.freeSlot_kept (State.pruneJournal_kept (State.sendPkt_kept h9))

theorem State.replyFree_kept {s a1 a2 a3 a4 a5} (h : Kept q n s) :
    Kept q n (State.replyFree s a1 a2 a3 a4 a5) := by
  unfold State.replyFree
  extract_lets +onlyGivenNames v1
  extract_lets +onlyGivenNames v2
  have h2 : Kept q n v2 := by
    unfold v2
    refine kept_ite ?_ ?_
    · exact kept_upd h same
    · refine kept_ite ?_ ?_
      · exact kept_upd h same
      · exact h
  clear_value v2
  exact State.sendPkt_kept h2

theorem State.sendCompletion_kept {s a1 a2 a3 a4 a5} (h : Kept q n s) :
    Kept q n (State.sendCompletion s a1 a2 a3 a4 a5) := by
  unfold State.sendCompletion
  split
  next y1 y2 =>
    exact h
  next y3 y4 y5 =>
    refine State.freeSlot_kept ?_
    refine kept_ite ?_ ?_
    · exact h
    · exact State.sendPkt_kept h

theorem State.completeCmd_kept {s a1 a2 a3 a4} (h : Kept q n s) :
    Kept q n (State.completeCmd s a1 a2 a3 a4) := by
  unfold State.completeCmd
  refine kept_ite ?_ ?_
  · exact h
  · extract_lets +onlyGivenNames v1
    extract_lets +onlyGivenNames v2
    extract_lets +onlyGivenNames v3
    extract_lets +onlyGivenNames v4
    have h4 : Kept q n v4 := by
      unfold v4
      exact kept_upd h same
    clear_value v4
    extract_lets +onlyGivenNames v5
    have h5 : Kept q n v5 := by
      unfold v5
      clear_value v1
      split
      next y6 =>
        exact h4
      next y7 y8 =>
        exact State.modEntry_kept h4
    clear_value v5
    extract_lets +onlyGivenNames v9
    have h9 : Kept q n v9 := by
      unfold v9
      exact State.setWord_kept h5
    clear_value v9
    extract_lets +onlyGivenNames v10
    have h10 : Kept q n v10 := by
      unfold v10
      exact State.keepReply_kept h9
    clear_value v10
    clear_value v1
    split
    next y11 y12 y13 y14 y15 =>
      refine kept_ite ?_ ?_
      · exact State.pruneJournal_kept (State.emit_kept (kept_upd h10 same))
      · exact State.pruneJournal_kept (State.sendCompletion_kept h10)
    next y16 y17 y18 y19 =>
      exact State.sendCompletion_kept h10

theorem State.mirrorEntry_kept {s a1 a2} (h : Kept q n s) :
    Kept q n (State.mirrorEntry s a1 a2) := by
  unfold State.mirrorEntry
  split
  next y1 y2 y3 y4 y5 y6 =>
    refine kept_ite ?_ ?_
    · exact State.emit_kept h
    · exact h
  next y7 y8 y9 =>
    exact h

theorem State.runOp_kept {s a1 a2 a3 a4 a5 a6} (ho : KeptOp a1) (h : Kept q n s) :
    Kept q n (State.runOp s a1 a2 a3 a4 a5 a6) := by
  unfold State.runOp
  extract_lets +onlyGivenNames v1
  extract_lets +onlyGivenNames v2
  have h2 : Kept q n v2 := by
    unfold v2
    refine kept_ite ?_ ?_
    · exact kept_upd h same
    · exact h
  clear_value v2
  extract_lets +onlyGivenNames v3
  extract_lets +onlyGivenNames v4
  have h4 : Kept q n v4 := by
    unfold v4
    exact State.modEntry_kept h2
  clear_value v4
  refine kept_ite ?_ ?_
  · exact ho.run (State.reply_kept h4)
  · refine kept_ite ?_ ?_
    · exact ho.run (State.modEntry_kept h4)
    · split
      next y5 y6 y7 y8 =>
        have h9 : Kept q n y6 := kept_fst y8 (ho.run h4)
        exact State.reply_kept (State.mirrorEntry_kept (State.setReply_kept h9))

theorem State.deferredDone_kept {s a1 a2 a3 a4} (h : Kept q n s) :
    Kept q n (State.deferredDone s a1 a2 a3 a4) := by
  unfold State.deferredDone
  extract_lets +onlyGivenNames v1
  have h1 : Kept q n v1 := by
    unfold v1
    split
    next y2 y3 =>
      exact h
    next y4 y5 y6 =>
      exact State.modEntry_kept h
  clear_value v1
  exact State.reply_kept h1

theorem State.refuse_kept {s a1 a2 a3 a4 a5 a6} (h : Kept q n s) :
    Kept q n (State.refuse s a1 a2 a3 a4 a5 a6) := by
  unfold State.refuse
  refine kept_ite ?_ ?_
  · exact State.replyFree_kept h
  · extract_lets +onlyGivenNames v1
    have h1 : Kept q n v1 := by
      unfold v1
      exact State.pushEntryJ_kept h
    clear_value v1
    exact State.reply_kept (State.mirrorEntry_kept h1)

theorem State.accept_kept {s a1 a2 a3 a4} (ho : KeptOp a1) (h : Kept q n s) :
    Kept q n (State.accept s a1 a2 a3 a4) := by
  unfold State.accept
  refine kept_ite ?_ ?_
  · exact State.refuse_kept h
  · extract_lets +onlyGivenNames v1
    refine kept_ite ?_ ?_
    · exact State.replyFree_kept h
    · refine kept_ite ?_ ?_
      · exact State.refuse_kept (ho.bad h)
      · extract_lets +onlyGivenNames v2
        refine kept_ite ?_ ?_
        · exact State.replyFree_kept h
        · extract_lets +onlyGivenNames v3
          have h3 : Kept q n v3 := by
            unfold v3
            exact State.pushEntryJ_kept h
          clear_value v3
          refine kept_ite ?_ ?_
          · extract_lets +onlyGivenNames v4
            extract_lets +onlyGivenNames v5
            have h5 : Kept q n v5 := by
              unfold v5
              exact kept_upd h3 same
            clear_value v5
            split
            next y6 y7 y8 =>
              exact State.emit_kept h5
            next y9 y10 =>
              exact h5
          · exact State.runOp_kept ho h3

end Sys2Proof.Machine
end

