-- ==== Sys2Proof/Laws/KeptPointOps.lean ====
section
/-!
SUPPORT. What every run keeps, through the operations and meanings of Machine/PointOps.lean: one lemma for each.
-/
namespace Sys2Proof.Machine
variable {q : List Instr} {n : Nat}

theorem State.watchHits_kept {s a1} (h : Kept q n s) :
    Kept q n (State.watchHits s a1) := by
  unfold State.watchHits
  extract_lets +onlyGivenNames v1
  refine kept_ite ?_ ?_
  · exact h
  · extract_lets +onlyGivenNames v2
    extract_lets +onlyGivenNames v3
    extract_lets +onlyGivenNames v4
    have h4 : Kept q n v4 := by
      unfold v4
      exact kept_upd h same
    clear_value v4
    refine kept_ite ?_ ?_
    · exact State.emit_kept h4
    · exact h4

theorem State.putPoint_kept {s a1 a2} (h : Kept q n s) :
    Kept q n (State.putPoint s a1 a2) := by
  unfold State.putPoint
  extract_lets +onlyGivenNames v1
  exact State.watchHits_kept (kept_upd h same)

theorem State.writePoint_kept {s a1 a2 a3 a4 a5 a6} (h : Kept q n s) :
    Kept q n (State.writePoint s a1 a2 a3 a4 a5 a6) := by
  unfold State.writePoint
  exact State.putPoint_kept h

theorem State.devPoint_kept {s a1 a2 a3 a4 a5} (h : Kept q n s) :
    Kept q n (State.devPoint s a1 a2 a3 a4 a5) := by
  unfold State.devPoint
  exact State.writePoint_kept h

theorem State.publish_kept {s a1 a2} (h : Kept q n s) :
    Kept q n (State.publish s a1 a2) := by
  unfold State.publish
  refine kept_foldl h ?_
  intro x1 x2 h3
  exact State.devPoint_kept h3

theorem State.requal_kept {s a1 a2} (h : Kept q n s) :
    Kept q n (State.requal s a1 a2) := by
  unfold State.requal
  extract_lets +onlyGivenNames v1
  refine kept_ite ?_ ?_
  · exact h
  · exact State.putPoint_kept h

theorem State.producerWrite_kept {s a1 a2 a3 a4 a5} (h : Kept q n s) :
    Kept q n (State.producerWrite s a1 a2 a3 a4 a5) := by
  unfold State.producerWrite
  extract_lets +onlyGivenNames v1
  extract_lets +onlyGivenNames v2
  extract_lets +onlyGivenNames v3
  have h3 : Kept q n v3 := by
    unfold v3
    exact kept_upd h same
  clear_value v3
  split
  next y4 y5 y6 =>
    extract_lets +onlyGivenNames v7
    exact kept_upd h3 same
  next y8 y9 =>
    exact State.writePoint_kept h3

theorem State.stale_kept {s a1 a2} (h : Kept q n s) :
    Kept q n (State.stale s a1 a2) := by
  unfold State.stale
  split
  next y1 y2 y3 =>
    split
    next y4 y5 =>
      exact h
    next y6 y7 y8 =>
      extract_lets +onlyGivenNames v9
      exact kept_upd h same
  next y10 y11 =>
    extract_lets +onlyGivenNames v12
    refine kept_ite ?_ ?_
    · exact State.writePoint_kept h
    · exact State.requal_kept h

theorem State.setProd_kept {s a1 a2} (h : Kept q n s) :
    Kept q n (State.setProd s a1 a2) := by
  unfold State.setProd
  exact kept_upd h same

theorem State.silentAlarm_kept {s} (h : Kept q n s) :
    Kept q n (State.silentAlarm s) := by
  unfold State.silentAlarm
  exact State.alarmIf_kept h

theorem State.producerSeen_kept {s a1 a2 a3} (h : Kept q n s) :
    Kept q n (State.producerSeen s a1 a2 a3).2 := by
  unfold State.producerSeen
  split
  next y1 y2 y3 =>
    extract_lets +onlyGivenNames v4
    extract_lets +onlyGivenNames v5
    have h5 : Kept q n v5 := by
      unfold v5
      exact State.setProd_kept h
    clear_value v5
    extract_lets +onlyGivenNames v6
    have h6 : Kept q n v6 := by
      unfold v6
      refine kept_ite ?_ ?_
      · exact State.silentAlarm_kept (State.event_kept h5)
      · exact h5
    clear_value v6
    exact h6
  next y7 y8 =>
    split
    next y9 y10 y11 =>
      exact State.setProd_kept h
    next y12 y13 =>
      split
      next y14 y15 =>
        exact kept_upd h same
      next y16 y17 y18 =>
        exact State.event_kept (State.setProd_kept h)

theorem State.forcePoint_kept {s a1 a2} (h : Kept q n s) :
    Kept q n (State.forcePoint s a1 a2) := by
  unfold State.forcePoint
  extract_lets +onlyGivenNames v1
  clear_value v1
  split
  next y2 y3 y4 y5 =>
    extract_lets +onlyGivenNames v6
    extract_lets +onlyGivenNames v7
    have h7 : Kept q n v7 := by
      unfold v7
      exact kept_upd h same
    clear_value v7
    exact State.raiseAlarm_kept (State.putPoint_kept h7)

theorem State.unforcePoint_kept {s a1} (h : Kept q n s) :
    Kept q n (State.unforcePoint s a1) := by
  unfold State.unforcePoint
  split
  next y1 y2 =>
    exact h
  next y3 y4 y5 =>
    extract_lets +onlyGivenNames v6
    extract_lets +onlyGivenNames v7
    have h7 : Kept q n v7 := by
      unfold v7
      exact kept_upd h same
    clear_value v7
    extract_lets +onlyGivenNames v8
    have h8 : Kept q n v8 := by
      unfold v8
      split
      next y9 y10 y11 =>
        exact State.writePoint_kept h7
      next y12 y13 =>
        refine kept_ite ?_ ?_
        · exact State.writePoint_kept h7
        · exact State.writePoint_kept h7
    clear_value v8
    exact State.alarmIf_kept h8

theorem State.pntConfig_kept {s a1} (h : Kept q n s) :
    Kept q n (State.pntConfig s a1) := by
  unfold State.pntConfig
  extract_lets +onlyGivenNames v1
  extract_lets +onlyGivenNames v2
  extract_lets +onlyGivenNames v3
  extract_lets +onlyGivenNames v4
  have h4 : Kept q n v4 := by
    unfold v4
    exact kept_upd h same
  clear_value v4
  refine State.alarmIf_kept ?_
  refine State.silentAlarm_kept ?_
  refine kept_foldl h4 ?_
  intro x5 x6 h7
  exact State.watchHits_kept h7

end Sys2Proof.Machine
end

