-- ==== Sys2Proof/Laws/KeptTimeOps.lean ====
section
/-!
SUPPORT. What every run keeps, through the operations and meanings of Machine/TimeOps.lean: one lemma for each.
-/
namespace Sys2Proof.Machine
variable {q : List Instr} {n : Nat}

theorem State.modVc_kept {s a1 a2} (h : Kept q n s) :
    Kept q n (State.modVc s a1 a2) := by
  unfold State.modVc
  exact State.setVc_kept h

theorem State.vcSample_kept {s a1 a2} (h : Kept q n s) :
    Kept q n (State.vcSample s a1 a2) := by
  unfold State.vcSample
  extract_lets +onlyGivenNames v1
  extract_lets +onlyGivenNames v2
  refine kept_ite ?_ ?_
  · exact State.setVc_kept h
  · refine kept_ite ?_ ?_
    · exact State.setVc_kept h
    · refine kept_ite ?_ ?_
      · exact State.setVc_kept h
      · extract_lets +onlyGivenNames v3
        have h3 : Kept q n v3 := by
          unfold v3
          refine kept_ite ?_ ?_
          · exact State.clearAlarm_kept h
          · exact h
        clear_value v3
        extract_lets +onlyGivenNames v4
        extract_lets +onlyGivenNames v5
        refine kept_ite ?_ ?_
        · extract_lets +onlyGivenNames v6
          exact State.setVc_kept h3
        · extract_lets +onlyGivenNames v7
          extract_lets +onlyGivenNames v8
          have h8 : Kept q n v8 := by
            unfold v8
            exact State.setVc_kept h3
          clear_value v8
          refine kept_ite ?_ ?_
          · exact State.raiseAlarm_kept (State.modVc_kept h8)
          · exact h8

theorem State.vcLock_kept {s a1} (h : Kept q n s) :
    Kept q n (State.vcLock s a1) := by
  unfold State.vcLock
  extract_lets +onlyGivenNames v1
  refine kept_ite ?_ ?_
  · exact State.clearAlarm_kept (State.setVc_kept h)
  · exact h

theorem State.srcLost_kept {s a1} (h : Kept q n s) :
    Kept q n (State.srcLost s a1) := by
  unfold State.srcLost
  extract_lets +onlyGivenNames v1
  extract_lets +onlyGivenNames v2
  refine kept_ite ?_ ?_
  · exact State.setVc_kept h
  · extract_lets +onlyGivenNames v3
    extract_lets +onlyGivenNames v4
    extract_lets +onlyGivenNames v5
    extract_lets +onlyGivenNames v6
    extract_lets +onlyGivenNames v7
    extract_lets +onlyGivenNames v8
    exact State.raiseAlarm_kept (State.setVc_kept h)

theorem State.follow_kept {s a1 a2} (h : Kept q n s) :
    Kept q n (State.follow s a1 a2) := by
  unfold State.follow
  extract_lets +onlyGivenNames v1
  have h1 : Kept q n v1 := by
    unfold v1
    exact State.srcLost_kept h
  clear_value v1
  extract_lets +onlyGivenNames v2
  have h2 : Kept q n v2 := by
    unfold v2
    exact State.modVc_kept h1
  clear_value v2
  refine kept_ite ?_ ?_
  · exact State.vcSample_kept h2
  · exact h2

theorem State.masterChange_kept {s a1 a2 a3} (h : Kept q n s) :
    Kept q n (State.masterChange s a1 a2 a3) := by
  unfold State.masterChange
  extract_lets +onlyGivenNames v1
  have h1 : Kept q n v1 := by
    unfold v1
    exact State.srcLost_kept h
  clear_value v1
  exact State.event_kept (State.modVc_kept h1)

theorem State.newMaster_kept {s a1 a2} (h : Kept q n s) :
    Kept q n (State.newMaster s a1 a2) := by
  unfold State.newMaster
  extract_lets +onlyGivenNames v1
  refine kept_ite ?_ ?_
  · exact State.modVc_kept h
  · exact State.masterChange_kept h

theorem State.modPulse_kept {s a1 a2} (h : Kept q n s) :
    Kept q n (State.modPulse s a1 a2) := by
  unfold State.modPulse
  exact kept_upd h (fun e => by simpa [State.sizes, unitSizes] using e)

theorem State.pulseEdge_kept {s a1} (h : Kept q n s) :
    Kept q n (State.pulseEdge s a1) := by
  unfold State.pulseEdge
  extract_lets +onlyGivenNames v1
  exact State.modPulse_kept h

theorem State.pulseFire_kept {s a1} (h : Kept q n s) :
    Kept q n (State.pulseFire s a1) := by
  unfold State.pulseFire
  refine kept_ite ?_ ?_
  · exact State.pulseEdge_kept h
  · exact h

theorem State.frameOut_kept {s} (h : Kept q n s) :
    Kept q n (State.frameOut s) := by
  unfold State.frameOut
  refine kept_ite ?_ ?_
  · exact State.pulseEdge_kept h
  · exact h

theorem State.ppsOut_kept {s} (h : Kept q n s) :
    Kept q n (State.ppsOut s) := by
  unfold State.ppsOut
  refine kept_ite ?_ ?_
  · exact State.pulseEdge_kept h
  · exact h

theorem State.pulsesStepped_kept {s a1 a2 a3} (h : Kept q n s) :
    Kept q n (State.pulsesStepped s a1 a2 a3) := by
  unfold State.pulsesStepped
  refine kept_foldl h ?_
  intro x1 x2 h3
  extract_lets +onlyGivenNames v4
  refine kept_ite ?_ ?_
  · extract_lets +onlyGivenNames v5
    extract_lets +onlyGivenNames v6
    have h6 : Kept q n v6 := by
      unfold v6
      exact State.modPulse_kept h3
    clear_value v6
    refine kept_ite ?_ ?_
    · exact State.pulseFire_kept h6
    · exact h6
  · exact h3

theorem State.pulseArm_kept {s a1} (h : Kept q n s) :
    Kept q n (State.pulseArm s a1) := by
  unfold State.pulseArm
  extract_lets +onlyGivenNames v1
  refine kept_ite ?_ ?_
  · exact State.modPulse_kept h
  · exact State.modPulse_kept h

theorem State.pulseDisarm_kept {s a1} (h : Kept q n s) :
    Kept q n (State.pulseDisarm s a1) := by
  unfold State.pulseDisarm
  extract_lets +onlyGivenNames v1
  refine kept_ite ?_ ?_
  · exact h
  · exact State.disableRec_kept (State.modPulse_kept h)

theorem State.pulseCtrl_kept {s a1 a2} (h : Kept q n s) :
    Kept q n (State.pulseCtrl s a1 a2) := by
  unfold State.pulseCtrl
  extract_lets +onlyGivenNames v1
  extract_lets +onlyGivenNames v2
  extract_lets +onlyGivenNames v3
  have h3 : Kept q n v3 := by
    unfold v3
    exact State.modPulse_kept h
  clear_value v3
  refine kept_ite ?_ ?_
  · exact State.pulseDisarm_kept h3
  · refine kept_ite ?_ ?_
    · exact State.pulseArm_kept h3
    · exact h3

theorem State.vcApplyStep_kept {s a1} (h : Kept q n s) :
    Kept q n (State.vcApplyStep s a1) := by
  unfold State.vcApplyStep
  extract_lets +onlyGivenNames v1
  extract_lets +onlyGivenNames v2
  extract_lets +onlyGivenNames v3
  extract_lets +onlyGivenNames v4
  extract_lets +onlyGivenNames v5
  extract_lets +onlyGivenNames v6
  have h6 : Kept q n v6 := by
    unfold v6
    exact State.setVc_kept h
  clear_value v6
  extract_lets +onlyGivenNames v7
  extract_lets +onlyGivenNames v8
  extract_lets +onlyGivenNames v9
  have h9 : Kept q n v9 := by
    unfold v9
    refine kept_ite ?_ ?_
    · exact State.pulsesStepped_kept (kept_upd h6 same)
    · exact kept_upd h6 same
  clear_value v9
  extract_lets +onlyGivenNames v10
  have h10 : Kept q n v10 := by
    unfold v10
    exact State.pulsesStepped_kept h9
  clear_value v10
  exact State.clearAlarm_kept (State.event_kept h10)

theorem State.vcStep_kept {s a1} (h : Kept q n s) :
    Kept q n (State.vcStep s a1) := by
  unfold State.vcStep
  refine kept_ite ?_ ?_
  · exact h
  · refine kept_ite ?_ ?_
    · exact State.raiseAlarm_kept (State.modVc_kept h)
    · exact State.vcApplyStep_kept h

theorem State.stepAllow_kept {s a1} (h : Kept q n s) :
    Kept q n (State.stepAllow s a1) := by
  unfold State.stepAllow
  extract_lets +onlyGivenNames v1
  exact State.modVc_kept (kept_upd h same)

theorem State.switchVc_kept {s a1} (h : Kept q n s) :
    Kept q n (State.switchVc s a1) := by
  unfold State.switchVc
  extract_lets +onlyGivenNames v1
  exact State.event_kept (kept_upd h same)

theorem State.hoTemp_kept {s a1} (h : Kept q n s) :
    Kept q n (State.hoTemp s a1) := by
  unfold State.hoTemp
  exact State.modVc_kept h

theorem State.frameSwitch_kept {s} (h : Kept q n s) :
    Kept q n (State.frameSwitch s) := by
  unfold State.frameSwitch
  extract_lets +onlyGivenNames v1
  extract_lets +onlyGivenNames v2
  have h2 : Kept q n v2 := by
    unfold v2
    exact kept_upd h same
  clear_value v2
  extract_lets +onlyGivenNames v3
  extract_lets +onlyGivenNames v4
  have h4 : Kept q n v4 := by
    unfold v4
    split
    next y5 y6 y7 =>
      refine kept_ite ?_ ?_
      · exact kept_upd h2 same
      · exact State.switchVc_kept h2
    next y8 y9 =>
      exact h2
  clear_value v4
  exact kept_upd h4 same

theorem State.frameTime_kept {s} (h : Kept q n s) :
    Kept q n (State.frameTime s) := by
  unfold State.frameTime
  extract_lets +onlyGivenNames v1
  extract_lets +onlyGivenNames v2
  extract_lets +onlyGivenNames v3
  extract_lets +onlyGivenNames v4
  have h4 : Kept q n v4 := by
    unfold v4
    refine kept_ite ?_ ?_
    · exact State.clearAlarm_kept (State.clearAlarm_kept h)
    · refine kept_ite ?_ ?_
      · exact h
      · exact State.raiseAlarm_kept h
  clear_value v4
  refine kept_ite ?_ ?_
  · exact State.raiseAlarm_kept h4
  · exact h4

theorem State.tmuFrame_kept {s} (h : Kept q n s) :
    Kept q n (State.tmuFrame s) := by
  unfold State.tmuFrame
  extract_lets +onlyGivenNames v1
  have h1 : Kept q n v1 := by
    unfold v1
    exact State.frameSwitch_kept (State.hoTemp_kept (State.hoTemp_kept h))
  clear_value v1
  extract_lets +onlyGivenNames v2
  extract_lets +onlyGivenNames v3
  have h3 : Kept q n v3 := by
    unfold v3
    refine kept_ite ?_ ?_
    · exact State.follow_kept (State.modVc_kept h1)
    · exact h1
  clear_value v3
  exact State.frameTime_kept h3

theorem State.fallbackReturn_kept {s a1} (h : Kept q n s) :
    Kept q n (State.fallbackReturn s a1) := by
  unfold State.fallbackReturn
  extract_lets +onlyGivenNames v1
  refine kept_ite ?_ ?_
  · exact State.modVc_kept (State.masterChange_kept (State.modVc_kept h))
  · exact h

theorem State.bmca_kept {s a1} (h : Kept q n s) :
    Kept q n (State.bmca s a1) := by
  unfold State.bmca
  refine kept_ite ?_ ?_
  · exact h
  · extract_lets +onlyGivenNames v1
    extract_lets +onlyGivenNames v2
    extract_lets +onlyGivenNames v3
    extract_lets +onlyGivenNames v4
    extract_lets +onlyGivenNames v5
    refine kept_ite ?_ ?_
    · extract_lets +onlyGivenNames v6
      have h6 : Kept q n v6 := by
        unfold v6
        exact State.modVc_kept h
      clear_value v6
      extract_lets +onlyGivenNames v7
      have h7 : Kept q n v7 := by
        unfold v7
        refine kept_ite ?_ ?_
        · exact State.newMaster_kept h6
        · exact h6
      clear_value v7
      refine kept_ite ?_ ?_
      · exact State.follow_kept (State.modVc_kept h7)
      · exact h7
    · clear_value v3
      split
      next y8 =>
        exact State.modVc_kept h
      next y9 y10 =>
        extract_lets +onlyGivenNames v11
        extract_lets +onlyGivenNames v12
        extract_lets +onlyGivenNames v13
        have h13 : Kept q n v13 := by
          unfold v13
          exact State.modVc_kept h
        clear_value v13
        extract_lets +onlyGivenNames v14
        have h14 : Kept q n v14 := by
          unfold v14
          refine kept_ite ?_ ?_
          · exact State.follow_kept h13
          · exact h13
        clear_value v14
        refine kept_ite ?_ ?_
        · exact State.newMaster_kept (State.modVc_kept h14)
        · exact h14

theorem State.cfgSrcLost_kept {s a1} (h : Kept q n s) :
    Kept q n (State.cfgSrcLost s a1) := by
  unfold State.cfgSrcLost
  refine kept_ite ?_ ?_
  · exact State.modVc_kept h
  · exact State.srcLost_kept h

theorem State.announce_kept {s a1 a2 a3} (h : Kept q n s) :
    Kept q n (State.announce s a1 a2 a3) := by
  unfold State.announce
  refine kept_ite ?_ ?_
  · exact h
  · extract_lets +onlyGivenNames v1
    have h1 : Kept q n v1 := by
      unfold v1
      exact State.bmca_kept (State.modVc_kept h)
    clear_value v1
    extract_lets +onlyGivenNames v2
    have h2 : Kept q n v2 := by
      unfold v2
      exact State.modVc_kept h1
    clear_value v2
    refine kept_ite ?_ ?_
    · exact State.cfgSrcLost_kept h2
    · exact h2

theorem State.ptpSync_kept {s a1 a2 a3 a4 a5 a6 a7} (h : Kept q n s) :
    Kept q n (State.ptpSync s a1 a2 a3 a4 a5 a6 a7) := by
  unfold State.ptpSync
  extract_lets +onlyGivenNames v1
  refine kept_ite ?_ ?_
  · exact h
  · extract_lets +onlyGivenNames v2
    extract_lets +onlyGivenNames v3
    have h3 : Kept q n v3 := by
      unfold v3
      exact State.modVc_kept h
    clear_value v3
    refine kept_ite ?_ ?_
    · exact h3
    · exact State.vcSample_kept h3

theorem State.satEdge_kept {s} (h : Kept q n s) :
    Kept q n (State.satEdge s) := by
  unfold State.satEdge
  refine kept_ite ?_ ?_
  · exact h
  · refine kept_foldl h ?_
    intro x1 x2 h3
    refine kept_ite ?_ ?_
    · exact State.vcSample_kept h3
    · exact h3

theorem State.satGone_kept {s} (h : Kept q n s) :
    Kept q n (State.satGone s) := by
  unfold State.satGone
  refine kept_foldl h ?_
  intro x1 x2 h3
  refine kept_ite ?_ ?_
  · exact State.srcLost_kept h3
  · exact h3

theorem State.modCap_kept {s a1 a2} (h : Kept q n s) :
    Kept q n (State.modCap s a1 a2) := by
  unfold State.modCap
  exact kept_upd h (fun e => by simpa [State.sizes, unitSizes] using e)

theorem State.capture_kept {s a1 a2} (h : Kept q n s) :
    Kept q n (State.capture s a1 a2) := by
  unfold State.capture
  extract_lets +onlyGivenNames v1
  refine kept_foldl h ?_
  intro x2 x3 h4
  refine kept_ite ?_ ?_
  · extract_lets +onlyGivenNames v5
    extract_lets +onlyGivenNames v6
    have h6 : Kept q n v6 := by
      unfold v6
      exact State.modCap_kept h4
    clear_value v6
    refine kept_ite ?_ ?_
    · exact kept_upd h6 same
    · exact h6
  · exact h4

theorem State.readData0_kept {s a1} (h : Kept q n s) :
    Kept q n (State.readData0 s a1).2 := by
  unfold State.readData0
  extract_lets +onlyGivenNames v1
  extract_lets +onlyGivenNames v2
  exact State.modCap_kept h

theorem State.readData1_kept {s a1} (h : Kept q n s) :
    Kept q n (State.readData1 s a1).2 := by
  unfold State.readData1
  split
  next y1 y2 =>
    exact h
  next y3 y4 y5 =>
    extract_lets +onlyGivenNames v6
    have h6 : Kept q n v6 := by
      unfold v6
      exact State.modCap_kept h
    clear_value v6
    refine kept_mk_snd ?_
    refine kept_ite ?_ ?_
    · exact kept_upd h6 same
    · exact h6

theorem State.readLo_kept {s a1 a2} (h : Kept q n s) :
    Kept q n (State.readLo s a1 a2).2 := by
  unfold State.readLo
  extract_lets +onlyGivenNames v1
  extract_lets +onlyGivenNames v2
  extract_lets +onlyGivenNames v3
  extract_lets +onlyGivenNames v4
  exact kept_upd h (fun e => by simpa [State.sizes, unitSizes] using e)

theorem State.setIncr_kept {s a1} (h : Kept q n s) :
    Kept q n (State.setIncr s a1) := by
  unfold State.setIncr
  extract_lets +onlyGivenNames v1
  have h1 : Kept q n v1 := by
    unfold v1
    exact State.rawAnchor_kept h
  clear_value v1
  exact kept_upd h1 same

theorem State.tmuConfig_kept {s} (h : Kept q n s) :
    Kept q n (State.tmuConfig s) := by
  unfold State.tmuConfig
  exact kept_upd h same

theorem State.ppsRoute_kept {s} (h : Kept q n s) :
    Kept q n (State.ppsRoute s) := by
  unfold State.ppsRoute
  exact State.modPulse_kept h

theorem State.tmuUp_kept {s a1} (h : Kept q n s) :
    Kept q n (State.tmuUp s a1) := by
  unfold State.tmuUp
  extract_lets +onlyGivenNames v1
  have h1 : Kept q n v1 := by
    unfold v1
    exact kept_upd h (fun e => by simp [State.sizes, unitSizes] at e ⊢; simp [e])
  clear_value v1
  extract_lets +onlyGivenNames v2
  have h2 : Kept q n v2 := by
    unfold v2
    exact State.tmuConfig_kept h1
  clear_value v2
  extract_lets +onlyGivenNames v3
  extract_lets +onlyGivenNames v4
  have h4 : Kept q n v4 := by
    unfold v4
    exact kept_upd h2 same
  clear_value v4
  extract_lets +onlyGivenNames v5
  have h5 : Kept q n v5 := by
    unfold v5
    exact State.ppsRoute_kept h4
  clear_value v5
  extract_lets +onlyGivenNames v6
  have h6 : Kept q n v6 := by
    unfold v6
    refine kept_foldl h5 ?_
    intro x7 x8 h9
    refine kept_ite ?_ ?_
    · exact State.raiseAlarm_kept h9
    · exact h9
  clear_value v6
  refine kept_foldl h6 ?_
  intro x10 x11 h12
  refine kept_ite ?_ ?_
  · exact State.vcSample_kept h12
  · exact h12

end Sys2Proof.Machine
end

