-- ==== Sys2Proof/Laws/KeptSatOps.lean ====
section
/-!
SUPPORT. What every run keeps, through the operations and meanings of Machine/SatOps.lean: one lemma for each.
-/
namespace Sys2Proof.Machine
variable {q : List Instr} {n : Nat}

theorem State.modAnt_kept {s a1 a2} (h : Kept q n s) :
    Kept q n (State.modAnt s a1 a2) := by
  unfold State.modAnt
  exact kept_upd h (fun e => by simpa [State.sizes, unitSizes] using e)

theorem State.setBias_kept {s a1 a2} (h : Kept q n s) :
    Kept q n (State.setBias s a1 a2) := by
  unfold State.setBias
  exact State.modAnt_kept h

theorem State.biasSample_kept {s a1 a2} (h : Kept q n s) :
    Kept q n (State.biasSample s a1 a2) := by
  unfold State.biasSample
  extract_lets +onlyGivenNames v1
  extract_lets +onlyGivenNames v2
  extract_lets +onlyGivenNames v3
  have h3 : Kept q n v3 := by
    unfold v3
    exact State.modAnt_kept h
  clear_value v3
  refine kept_ite ?_ ?_
  · exact State.clearAlarm_kept (State.clearAlarm_kept h3)
  · exact h3

theorem State.sigAcquired_kept {s a1 a2} (h : Kept q n s) :
    Kept q n (State.sigAcquired s a1 a2) := by
  unfold State.sigAcquired
  extract_lets +onlyGivenNames v1
  extract_lets +onlyGivenNames v2
  extract_lets +onlyGivenNames v3
  refine kept_ite ?_ ?_
  · exact h
  · refine kept_ite ?_ ?_
    · unfold v3
      exact kept_upd h same
    · refine kept_ite ?_ ?_
      · unfold v3
        exact kept_upd h same
      · split
        next y4 y5 =>
          exact h
        next y6 y7 y8 =>
          refine kept_ite ?_ ?_
          · unfold v3
            exact kept_upd h same
          · exact h

theorem State.modSt_kept {s a1} (h : Kept q n s) :
    Kept q n (State.modSt s a1) := by
  unfold State.modSt
  exact kept_upd h same

theorem State.satAnchor_kept {s} (h : Kept q n s) :
    Kept q n (State.satAnchor s) := by
  unfold State.satAnchor
  extract_lets +onlyGivenNames v1
  extract_lets +onlyGivenNames v2
  exact State.modSt_kept h

theorem State.abandonStep_kept {s} (h : Kept q n s) :
    Kept q n (State.abandonStep s) := by
  unfold State.abandonStep
  split
  next y1 y2 =>
    exact h
  next y3 y4 y5 =>
    exact State.event_kept (State.modSt_kept h)

theorem State.satHold_kept {s a1} (h : Kept q n s) :
    Kept q n (State.satHold s a1) := by
  unfold State.satHold
  extract_lets +onlyGivenNames v1
  have h1 : Kept q n v1 := by
    unfold v1
    exact State.satAnchor_kept (State.abandonStep_kept h)
  clear_value v1
  extract_lets +onlyGivenNames v2
  extract_lets +onlyGivenNames v3
  have h3 : Kept q n v3 := by
    unfold v3
    exact State.modSt_kept h1
  clear_value v3
  refine State.raiseAlarm_kept ?_
  refine kept_ite ?_ ?_
  · exact State.satGone_kept h3
  · exact h3

theorem State.satLose_kept {s} (h : Kept q n s) :
    Kept q n (State.satLose s) := by
  unfold State.satLose
  extract_lets +onlyGivenNames v1
  refine kept_ite ?_ ?_
  · exact State.satHold_kept h
  · refine kept_ite ?_ ?_
    · exact State.satHold_kept h
    · exact State.modSt_kept (State.abandonStep_kept h)

theorem State.satLocked_kept {s} (h : Kept q n s) :
    Kept q n (State.satLocked s) := by
  unfold State.satLocked
  exact State.clearAlarm_kept (State.modSt_kept (State.satAnchor_kept h))

theorem State.satTake_kept {s a1} (h : Kept q n s) :
    Kept q n (State.satTake s a1) := by
  unfold State.satTake
  refine kept_ite ?_ ?_
  · extract_lets +onlyGivenNames v1
    have h1 : Kept q n v1 := by
      unfold v1
      exact State.satAnchor_kept h
    clear_value v1
    extract_lets +onlyGivenNames v2
    exact State.modSt_kept h1
  · exact State.modSt_kept h

theorem State.satReturn_kept {s a1} (h : Kept q n s) :
    Kept q n (State.satReturn s a1) := by
  unfold State.satReturn
  extract_lets +onlyGivenNames v1
  extract_lets +onlyGivenNames v2
  extract_lets +onlyGivenNames v3
  have h3 : Kept q n v3 := by
    unfold v3
    exact State.modSt_kept h
  clear_value v3
  refine kept_ite ?_ ?_
  · extract_lets +onlyGivenNames v4
    have h4 : Kept q n v4 := by
      unfold v4
      refine kept_ite ?_ ?_
      · exact State.event_kept h3
      · exact State.clearAlarm_kept h3
    clear_value v4
    exact State.satTake_kept h4
  · refine kept_ite ?_ ?_
    · exact State.satTake_kept (State.clearAlarm_kept h3)
    · exact State.raiseAlarm_kept (State.modSt_kept h3)

theorem State.satStep_kept {s a1} (h : Kept q n s) :
    Kept q n (State.satStep s a1) := by
  unfold State.satStep
  extract_lets +onlyGivenNames v1
  extract_lets +onlyGivenNames v2
  extract_lets +onlyGivenNames v3
  have h3 : Kept q n v3 := by
    unfold v3
    exact State.modSt_kept h
  clear_value v3
  exact State.satLocked_kept (State.event_kept h3)

theorem State.satTimeMiss_kept {s} (h : Kept q n s) :
    Kept q n (State.satTimeMiss s) := by
  unfold State.satTimeMiss
  exact State.modSt_kept h

theorem State.satTimeEpoch_kept {s a1 a2 a3 a4} (h : Kept q n s) :
    Kept q n (State.satTimeEpoch s a1 a2 a3 a4) := by
  unfold State.satTimeEpoch
  extract_lets +onlyGivenNames v1
  clear_value v1
  split
  next y2 y3 =>
    refine kept_ite ?_ ?_
    · exact h
    · extract_lets +onlyGivenNames v4
      exact State.satLocked_kept (State.modSt_kept h)
  next y5 y6 =>
    refine kept_ite ?_ ?_
    · exact State.raiseAlarm_kept (State.modSt_kept (State.satHold_kept h))
    · split
      next y7 y8 y9 y10 =>
        have h11 : Kept q n y9 := kept_snd y10 (State.freeQ_kept h)
        split
        next y12 y13 y14 y15 =>
          have h16 : Kept q n y14 := kept_snd y15 (State.freeQ_kept h11)
          exact State.modSt_kept h16
  next y17 y18 =>
    exact State.modSt_kept h
  next y19 y20 y21 y22 =>
    refine kept_ite ?_ ?_
    · exact h
    · refine kept_ite ?_ ?_
      · exact State.modSt_kept h
      · extract_lets +onlyGivenNames v23
        exact State.modSt_kept h

theorem State.posBlock_kept {s a1 a2} (h : Kept q n s) :
    Kept q n (State.posBlock s a1 a2) := by
  unfold State.posBlock
  extract_lets +onlyGivenNames v1
  extract_lets +onlyGivenNames v2
  exact State.publish_kept h

theorem State.attBlock_kept {s a1 a2} (h : Kept q n s) :
    Kept q n (State.attBlock s a1 a2) := by
  unfold State.attBlock
  extract_lets +onlyGivenNames v1
  extract_lets +onlyGivenNames v2
  exact State.publish_kept h

theorem State.satWithdraw_kept {s} (h : Kept q n s) :
    Kept q n (State.satWithdraw s) := by
  unfold State.satWithdraw
  extract_lets +onlyGivenNames v1
  extract_lets +onlyGivenNames v2
  extract_lets +onlyGivenNames v3
  have h3 : Kept q n v3 := by
    unfold v3
    exact kept_upd h same
  clear_value v3
  exact State.attBlock_kept (State.posBlock_kept (State.posBlock_kept h3))

theorem State.exclAlarm_kept {s a1} (h : Kept q n s) :
    Kept q n (State.exclAlarm s a1) := by
  unfold State.exclAlarm
  refine kept_ite ?_ ?_
  · exact State.raiseAlarm_kept (kept_upd h same)
  · refine kept_ite ?_ ?_
    · exact State.clearAlarm_kept h
    · exact h

theorem State.epochAlarm_kept {s a1 a2 a3} (h : Kept q n s) :
    Kept q n (State.epochAlarm s a1 a2 a3) := by
  unfold State.epochAlarm
  refine kept_ite ?_ ?_
  · exact State.raiseAlarm_kept h
  · refine kept_ite ?_ ?_
    · exact State.clearAlarm_kept h
    · exact h

theorem State.raimAlarms_kept {s a1 a2} (h : Kept q n s) :
    Kept q n (State.raimAlarms s a1 a2) := by
  unfold State.raimAlarms
  extract_lets +onlyGivenNames v1
  extract_lets +onlyGivenNames v2
  extract_lets +onlyGivenNames v3
  extract_lets +onlyGivenNames v4
  have h4 : Kept q n v4 := by
    unfold v4
    exact State.exclAlarm_kept h
  clear_value v4
  extract_lets +onlyGivenNames v5
  extract_lets +onlyGivenNames v6
  have h6 : Kept q n v6 := by
    unfold v6
    exact kept_upd h4 same
  clear_value v6
  exact State.epochAlarm_kept (State.epochAlarm_kept h6)

theorem State.geomCheck_kept {s a1} (h : Kept q n s) :
    Kept q n (State.geomCheck s a1) := by
  unfold State.geomCheck
  refine kept_foldl h ?_
  intro x1 x2 h3
  extract_lets +onlyGivenNames v4
  extract_lets +onlyGivenNames v5
  refine kept_ite ?_ ?_
  · exact h3
  · extract_lets +onlyGivenNames v6
    extract_lets +onlyGivenNames v7
    have h7 : Kept q n v7 := by
      unfold v7
      exact State.modAnt_kept h3
    clear_value v7
    refine kept_ite ?_ ?_
    · exact State.clearAlarm_kept (State.modAnt_kept h7)
    · exact h7

theorem State.geomMiss_kept {s} (h : Kept q n s) :
    Kept q n (State.geomMiss s) := by
  unfold State.geomMiss
  refine kept_foldl h ?_
  intro x1 x2 h3
  exact State.modAnt_kept h3

theorem State.satWrite_kept {s a1 a2 a3} (h : Kept q n s) :
    Kept q n (State.satWrite s a1 a2 a3) := by
  unfold State.satWrite
  extract_lets +onlyGivenNames v1
  extract_lets +onlyGivenNames v2
  refine kept_ite ?_ ?_
  · exact h
  · exact kept_upd h same

theorem State.satRetain_kept {s} (h : Kept q n s) :
    Kept q n (State.satRetain s) := by
  unfold State.satRetain
  exact State.satWrite_kept h

theorem State.epochTake_kept {s a1} (h : Kept q n s) :
    Kept q n (State.epochTake s a1) := by
  unfold State.epochTake
  extract_lets +onlyGivenNames v1
  have h1 : Kept q n v1 := by
    unfold v1
    refine kept_foldl h ?_
    intro x2 x3 h4
    exact State.biasSample_kept h4
  clear_value v1
  extract_lets +onlyGivenNames v5
  extract_lets +onlyGivenNames v6
  have h6 : Kept q n v6 := by
    unfold v6
    exact kept_upd h1 same
  clear_value v6
  extract_lets +onlyGivenNames v7
  have h7 : Kept q n v7 := by
    unfold v7
    refine kept_ite ?_ ?_
    · exact h6
    · exact State.satRetain_kept h6
  clear_value v7
  split
  next y8 y9 y10 =>
    exact kept_upd h7 same
  next y11 y12 =>
    exact h7

theorem State.epochTime_kept {s a1 a2 a3} (h : Kept q n s) :
    Kept q n (State.epochTime s a1 a2 a3) := by
  unfold State.epochTime
  extract_lets +onlyGivenNames v1
  clear_value v1
  split
  next y2 y3 y4 =>
    exact State.satTimeEpoch_kept h
  next y5 y6 =>
    refine kept_ite ?_ ?_
    · exact State.satLose_kept h
    · exact State.satTimeMiss_kept h

theorem State.satEpoch_kept {s a1} (h : Kept q n s) :
    Kept q n (State.satEpoch s a1) := by
  unfold State.satEpoch
  refine kept_ite ?_ ?_
  · exact h
  · extract_lets +onlyGivenNames v1
    extract_lets +onlyGivenNames v2
    have h2 : Kept q n v2 := by
      unfold v2
      exact State.epochTake_kept h
    clear_value v2
    extract_lets +onlyGivenNames v3
    extract_lets +onlyGivenNames v4
    extract_lets +onlyGivenNames v5
    extract_lets +onlyGivenNames v6
    extract_lets +onlyGivenNames v7
    extract_lets +onlyGivenNames v8
    extract_lets +onlyGivenNames v9
    extract_lets +onlyGivenNames v10
    extract_lets +onlyGivenNames v11
    extract_lets +onlyGivenNames v12
    extract_lets +onlyGivenNames v13
    extract_lets +onlyGivenNames v14
    have h14 : Kept q n v14 := by
      unfold v14
      exact kept_upd h2 same
    clear_value v14
    extract_lets +onlyGivenNames v15
    have h15 : Kept q n v15 := by
      unfold v15
      exact State.raimAlarms_kept h14
    clear_value v15
    extract_lets +onlyGivenNames v16
    have h16 : Kept q n v16 := by
      unfold v16
      exact State.attBlock_kept (State.posBlock_kept (State.posBlock_kept h15))
    clear_value v16
    extract_lets +onlyGivenNames v17
    have h17 : Kept q n v17 := by
      unfold v17
      refine kept_ite ?_ ?_
      · exact State.geomCheck_kept h16
      · exact State.geomMiss_kept h16
    clear_value v17
    exact State.epochTime_kept h17

theorem State.antSecond_kept {s a1 a2} (h : Kept q n s) :
    Kept q n (State.antSecond s a1 a2).2 := by
  unfold State.antSecond
  extract_lets +onlyGivenNames v1
  extract_lets +onlyGivenNames v2
  extract_lets +onlyGivenNames v3
  extract_lets +onlyGivenNames v4
  extract_lets +onlyGivenNames v5
  extract_lets +onlyGivenNames v6
  extract_lets +onlyGivenNames v7
  extract_lets +onlyGivenNames v8
  extract_lets +onlyGivenNames v9
  exact State.modAnt_kept h

theorem State.satSecond_kept {s a1} (h : Kept q n s) :
    Kept q n (State.satSecond s a1) := by
  unfold State.satSecond
  extract_lets +onlyGivenNames v1
  extract_lets +onlyGivenNames v2
  have h2 : Kept q n v2 := by
    unfold v2
    exact kept_upd h same
  clear_value v2
  extract_lets +onlyGivenNames v3
  extract_lets +onlyGivenNames v4
  have h4 : Kept q n v4 := by
    unfold v4
    exact State.satWithdraw_kept (kept_upd h2 same)
  clear_value v4
  extract_lets +onlyGivenNames v5
  have h5 : Kept q n v5 := by
    unfold v5
    refine kept_ite ?_ ?_
    · exact State.raiseAlarm_kept (State.modSt_kept (State.satLose_kept h4))
    · exact h2
  clear_value v5
  extract_lets +onlyGivenNames v6
  have h6 : Kept q n v6.2 := by
    unfold v6
    refine kept_foldl_snd ?_ ?_
    · exact h5
    · intro x7 x8 h9
      extract_lets +onlyGivenNames v10
      have h10 : Kept q n v10.2 := by
        unfold v10
        exact State.antSecond_kept h9
      clear_value v10
      exact h10
  clear_value v6
  extract_lets +onlyGivenNames v11
  have h11 : Kept q n v11 := by
    unfold v11
    exact h6
  clear_value v11
  refine kept_ite ?_ ?_
  · exact State.raiseAlarm_kept (kept_upd h11 same)
  · split
    next y12 y13 =>
      exact h11
    next y14 y15 y16 =>
      refine kept_ite ?_ ?_
      · exact State.clearAlarm_kept h11
      · exact h11

theorem State.satBegin_kept {s a1} (h : Kept q n s) :
    Kept q n (State.satBegin s a1) := by
  unfold State.satBegin
  extract_lets +onlyGivenNames v1
  exact kept_upd h same

theorem State.satUp_kept {s} (h : Kept q n s) :
    Kept q n (State.satUp s) := by
  unfold State.satUp
  extract_lets +onlyGivenNames v1
  extract_lets +onlyGivenNames v2
  extract_lets +onlyGivenNames v3
  extract_lets +onlyGivenNames v4
  extract_lets +onlyGivenNames v5
  have h5 : Kept q n v5 := by
    unfold v5
    refine kept_ite ?_ ?_
    · exact h
    · exact State.event_kept h
  clear_value v5
  extract_lets +onlyGivenNames v6
  have h6 : Kept q n v6 := by
    unfold v6
    exact State.satBegin_kept h5
  clear_value v6
  extract_lets +onlyGivenNames v7
  have h7 : Kept q n v7 := by
    unfold v7
    exact State.modSt_kept h6
  clear_value v7
  extract_lets +onlyGivenNames v8
  have h8 : Kept q n v8 := by
    unfold v8
    clear_value v3
    split
    next y9 =>
      exact h7
    next y10 y11 =>
      refine kept_ite ?_ ?_
      · exact State.raiseAlarm_kept (State.modSt_kept h7)
      · exact h7
  clear_value v8
  refine kept_foldl h8 ?_
  intro x12 x13 h14
  exact State.setBias_kept h14

theorem State.satDown_kept {s} (h : Kept q n s) :
    Kept q n (State.satDown s) := by
  unfold State.satDown
  extract_lets +onlyGivenNames v1
  have h1 : Kept q n v1 := by
    unfold v1
    exact State.satWithdraw_kept h
  clear_value v1
  extract_lets +onlyGivenNames v2
  extract_lets +onlyGivenNames v3
  have h3 : Kept q n v3 := by
    unfold v3
    exact State.modSt_kept h1
  clear_value v3
  extract_lets +onlyGivenNames v4
  have h4 : Kept q n v4 := by
    unfold v4
    refine kept_ite ?_ ?_
    · exact State.satGone_kept h3
    · exact h3
  clear_value v4
  extract_lets +onlyGivenNames v5
  extract_lets +onlyGivenNames v6
  have h6 : Kept q n v6 := by
    unfold v6
    exact kept_upd h4 (fun e => by simpa [State.sizes, unitSizes] using e)
  clear_value v6
  refine kept_foldl h6 ?_
  intro x7 x8 h9
  exact State.setBias_kept h9

theorem State.biasFollow_kept {s} (h : Kept q n s) :
    Kept q n (State.biasFollow s) := by
  unfold State.biasFollow
  refine kept_foldl h ?_
  intro x1 x2 h3
  extract_lets +onlyGivenNames v4
  refine kept_ite ?_ ?_
  · exact State.setBias_kept h3
  · exact h3

theorem State.satFrame_kept {s} (h : Kept q n s) :
    Kept q n (State.satFrame s) := by
  unfold State.satFrame
  extract_lets +onlyGivenNames v1
  have h1 : Kept q n v1 := by
    unfold v1
    exact State.biasFollow_kept h
  clear_value v1
  extract_lets +onlyGivenNames v2
  extract_lets +onlyGivenNames v3
  have h3 : Kept q n v3 := by
    unfold v3
    exact kept_upd h1 same
  clear_value v3
  exact State.modSt_kept h3

end Sys2Proof.Machine
end

