-- ==== Sys2Proof/Laws/KeptEstOps.lean ====
section
/-!
SUPPORT. What every run keeps, through the operations and meanings of Machine/EstOps.lean: one lemma for each.
-/
namespace Sys2Proof.Machine
variable {q : List Instr} {n : Nat}

theorem State.modSlot_kept {s a1 a2} (h : Kept q n s) :
    Kept q n (State.modSlot s a1 a2) := by
  unfold State.modSlot
  exact kept_upd h (fun e => by simpa [State.sizes, unitSizes] using e)

theorem State.rejectRef_kept {s a1} (h : Kept q n s) :
    Kept q n (State.rejectRef s a1) := by
  unfold State.rejectRef
  extract_lets +onlyGivenNames v1
  extract_lets +onlyGivenNames v2
  extract_lets +onlyGivenNames v3
  extract_lets +onlyGivenNames v4
  have h4 : Kept q n v4 := by
    unfold v4
    exact State.modSlot_kept h
  clear_value v4
  exact State.raiseAlarm_kept h4

theorem State.applyEval_kept {s a1 a2} (h : Kept q n s) :
    Kept q n (State.applyEval s a1 a2) := by
  unfold State.applyEval
  extract_lets +onlyGivenNames v1
  extract_lets +onlyGivenNames v2
  extract_lets +onlyGivenNames v3
  have h3 : Kept q n v3 := by
    unfold v3
    exact State.modSlot_kept h
  clear_value v3
  refine kept_ite ?_ ?_
  · exact State.modSlot_kept h3
  · refine kept_ite ?_ ?_
    · clear_value v2
      split
      next y4 y5 =>
        refine kept_ite ?_ ?_
        · exact h3
        · exact State.modSlot_kept h3
      next y6 y7 =>
        exact State.modSlot_kept h3
      next y8 y9 y10 =>
        exact State.modSlot_kept h3
    · clear_value v2
      split
      next y11 y12 =>
        exact State.rejectRef_kept h3
      next y13 y14 =>
        refine kept_ite ?_ ?_
        · exact h3
        · exact State.rejectRef_kept h3
      next y15 y16 y17 =>
        exact h3

theorem State.trialDone_kept {s a1} (h : Kept q n s) :
    Kept q n (State.trialDone s a1) := by
  unfold State.trialDone
  extract_lets +onlyGivenNames v1
  extract_lets +onlyGivenNames v2
  refine kept_ite ?_ ?_
  · extract_lets +onlyGivenNames v3
    have h3 : Kept q n v3 := by
      unfold v3
      exact State.clearAlarm_kept (State.modSlot_kept h)
    clear_value v3
    refine kept_ite ?_ ?_
    · exact State.clearAlarm_kept (kept_upd h3 same)
    · exact h3
  · exact h

theorem State.refUnavailable_kept {s a1 a2} (h : Kept q n s) :
    Kept q n (State.refUnavailable s a1 a2) := by
  unfold State.refUnavailable
  exact State.modSlot_kept h

theorem State.refTimeout_kept {s a1} (h : Kept q n s) :
    Kept q n (State.refTimeout s a1) := by
  unfold State.refTimeout
  extract_lets +onlyGivenNames v1
  extract_lets +onlyGivenNames v2
  refine kept_ite ?_ ?_
  · split
    next y3 y4 =>
      exact h
    next y5 y6 y7 =>
      extract_lets +onlyGivenNames v8
      exact State.refUnavailable_kept h
  · exact h

theorem State.readSlot_kept {s a1} (h : Kept q n s) :
    Kept q n (State.readSlot s a1) := by
  unfold State.readSlot
  extract_lets +onlyGivenNames v1
  split
  next y2 y3 =>
    exact State.modSlot_kept h
  next y4 y5 y6 =>
    refine kept_ite ?_ ?_
    · exact State.modSlot_kept h
    · extract_lets +onlyGivenNames v7
      have h7 : Kept q n v7 := by
        unfold v7
        refine kept_ite ?_ ?_
        · exact State.modSlot_kept h
        · exact h
      clear_value v7
      extract_lets +onlyGivenNames v8
      refine kept_ite ?_ ?_
      · exact State.refUnavailable_kept h7
      · split
        next y9 y10 =>
          exact h7
        next y11 y12 y13 =>
          refine kept_ite ?_ ?_
          · exact State.modSlot_kept h7
          · exact h7

theorem State.testKind_kept {s a1 a2} (h : Kept q n s) :
    Kept q n (State.testKind s a1 a2).1 := by
  unfold State.testKind
  extract_lets +onlyGivenNames v1
  have h1 : Kept q n v1.1 := by
    unfold v1
    refine kept_foldl_fst ?_ ?_
    · exact h
    · intro x2 x3 h4
      split
      next y5 y6 =>
        exact h4
      next y7 y8 y9 y10 =>
        extract_lets +onlyGivenNames v11
        exact State.modSlot_kept h4
  clear_value v1
  extract_lets +onlyGivenNames v12
  have h12 : Kept q n v12 := by
    unfold v12
    exact h1
  clear_value v12
  extract_lets +onlyGivenNames v13
  extract_lets +onlyGivenNames v14
  extract_lets +onlyGivenNames v15
  have h15 : Kept q n v15 := by
    unfold v15
    refine kept_foldl h12 ?_
    intro x16 x17 h18
    exact State.modSlot_kept h18
  clear_value v15
  exact h15

theorem State.disagree_kept {s a1 a2} (h : Kept q n s) :
    Kept q n (State.disagree s a1 a2) := by
  unfold State.disagree
  refine kept_ite ?_ ?_
  · exact State.raiseAlarm_kept (kept_upd h same)
  · split
    next y1 y2 =>
      exact h
    next y3 y4 y5 =>
      refine kept_ite ?_ ?_
      · exact State.clearAlarm_kept h
      · exact h

theorem State.setShares_kept {s a1} (h : Kept q n s) :
    Kept q n (State.setShares s a1) := by
  unfold State.setShares
  extract_lets +onlyGivenNames v1
  extract_lets +onlyGivenNames v2
  extract_lets +onlyGivenNames v3
  extract_lets +onlyGivenNames v4
  refine kept_foldl h ?_
  intro x5 x6 h7
  exact State.modSlot_kept h7

theorem State.windStep_kept {s} (h : Kept q n s) :
    Kept q n (State.windStep s) := by
  unfold State.windStep
  extract_lets +onlyGivenNames v1
  extract_lets +onlyGivenNames v2
  refine kept_ite ?_ ?_
  · exact kept_upd h same
  · exact h

theorem State.modCore_kept {s a1} (h : Kept q n s) :
    Kept q n (State.modCore s a1) := by
  unfold State.modCore
  exact kept_upd h same

theorem State.resetCount_kept {s a1 a2} (h : Kept q n s) : Kept q n (State.resetCount s a1 a2).1 :=
  kept_mem h ⟨rfl, rfl, rfl, rfl, rfl⟩ same

theorem State.applyReset_kept {s a1} (h : Kept q n s) :
    Kept q n (State.applyReset s a1) := by
  unfold State.applyReset
  extract_lets +onlyGivenNames v1
  extract_lets +onlyGivenNames v2
  extract_lets +onlyGivenNames v3
  refine kept_ite ?_ ?_
  · extract_lets +onlyGivenNames v4
    exact State.event_kept (State.modCore_kept h)
  · exact h

theorem State.kindUpdate_kept {s a1 a2} (h : Kept q n s) :
    Kept q n (State.kindUpdate s a1 a2) := by
  unfold State.kindUpdate
  extract_lets +onlyGivenNames v1
  refine kept_ite ?_ ?_
  · exact h
  · extract_lets +onlyGivenNames v2
    extract_lets +onlyGivenNames v3
    refine kept_ite ?_ ?_
    · extract_lets +onlyGivenNames v4
      have h4 : Kept q n v4 := by
        unfold v4
        exact State.modCore_kept h
      clear_value v4
      extract_lets +onlyGivenNames v5
      have h5 : Kept q n v5 := by
        unfold v5
        exact State.event_kept h4
      clear_value v5
      refine kept_ite ?_ ?_
      · exact State.clearAlarm_kept (State.clearAlarm_kept h5)
      · exact State.clearAlarm_kept h5
    · extract_lets +onlyGivenNames v6
      have h6 : Kept q n v6 := by
        unfold v6
        exact State.modCore_kept h
      clear_value v6
      exact State.clearAlarm_kept h6

theorem State.drState_kept {s} (h : Kept q n s) :
    Kept q n (State.drState s) := by
  unfold State.drState
  refine kept_ite ?_ ?_
  · exact h
  · extract_lets +onlyGivenNames v1
    extract_lets +onlyGivenNames v2
    extract_lets +onlyGivenNames v3
    have h3 : Kept q n v3 := by
      unfold v3
      exact State.modCore_kept h
    clear_value v3
    extract_lets +onlyGivenNames v4
    have h4 : Kept q n v4 := by
      unfold v4
      refine kept_ite ?_ ?_
      · exact State.raiseAlarm_kept h3
      · exact h3
    clear_value v4
    refine kept_ite ?_ ?_
    · exact State.raiseAlarm_kept h4
    · exact h4

theorem State.showDev_kept {s a1} (h : Kept q n s) :
    Kept q n (State.showDev s a1) := by
  unfold State.showDev
  extract_lets +onlyGivenNames v1
  refine kept_foldl h ?_
  intro x2 x3 h4
  exact State.modSlot_kept h4

theorem State.keepMotion_kept {s a1} (h : Kept q n s) :
    Kept q n (State.keepMotion s a1) := by
  unfold State.keepMotion
  refine kept_ite ?_ ?_
  · exact h
  · exact State.modSlot_kept h

theorem State.initStep_kept {s} (h : Kept q n s) :
    Kept q n (State.initStep s) := by
  unfold State.initStep
  refine kept_ite ?_ ?_
  · exact h
  · extract_lets +onlyGivenNames v1
    extract_lets +onlyGivenNames v2
    have h2 : Kept q n v2 := by
      unfold v2
      exact State.modCore_kept (kept_upd h same)
    clear_value v2
    refine kept_foldl h2 ?_
    intro x3 x4 h5
    exact State.clearAlarm_kept h5

theorem State.estimate_kept {s} (h : Kept q n s) :
    Kept q n (State.estimate s) := by
  unfold State.estimate
  extract_lets +onlyGivenNames v1
  have h1 : Kept q n v1 := by
    unfold v1
    refine kept_foldl h ?_
    intro x2 x3 h4
    exact State.readSlot_kept h4
  clear_value v1
  extract_lets +onlyGivenNames v5
  have h5 : Kept q n v5.1 := by
    unfold v5
    exact State.testKind_kept h1
  clear_value v5
  extract_lets +onlyGivenNames v6
  have h6 : Kept q n v6 := by
    unfold v6
    refine kept_foldl h5 ?_
    intro x7 x8 h9
    exact State.keepMotion_kept (State.applyEval_kept h9)
  clear_value v6
  extract_lets +onlyGivenNames v10
  have h10 : Kept q n v10 := by
    unfold v10
    exact State.disagree_kept (State.showDev_kept h6)
  clear_value v10
  extract_lets +onlyGivenNames v11
  have h11 : Kept q n v11.1 := by
    unfold v11
    exact State.testKind_kept h10
  clear_value v11
  extract_lets +onlyGivenNames v12
  have h12 : Kept q n v12 := by
    unfold v12
    refine kept_foldl h11 ?_
    intro x13 x14 h15
    exact State.applyEval_kept h15
  clear_value v12
  extract_lets +onlyGivenNames v16
  have h16 : Kept q n v16 := by
    unfold v16
    exact State.disagree_kept (State.showDev_kept h12)
  clear_value v16
  extract_lets +onlyGivenNames v17
  have h17 : Kept q n v17 := by
    unfold v17
    exact State.setShares_kept (State.setShares_kept h16)
  clear_value v17
  extract_lets +onlyGivenNames v18
  have h18 : Kept q n v18 := by
    unfold v18
    exact State.windStep_kept (State.modCore_kept h17)
  clear_value v18
  extract_lets +onlyGivenNames v19
  have h19 : Kept q n v19 := by
    unfold v19
    exact State.modCore_kept h18
  clear_value v19
  extract_lets +onlyGivenNames v20
  have h20 : Kept q n v20 := by
    unfold v20
    exact State.applyReset_kept (State.applyReset_kept h19)
  clear_value v20
  extract_lets +onlyGivenNames v21
  extract_lets +onlyGivenNames v22
  have h22 : Kept q n v22.1 := by
    unfold v22
    exact State.testKind_kept h20
  clear_value v22
  extract_lets +onlyGivenNames v23
  have h23 : Kept q n v23.1 := by
    unfold v23
    exact State.resetCount_kept h22
  clear_value v23
  extract_lets +onlyGivenNames v24
  have h24 : Kept q n v24 := by
    unfold v24
    refine kept_foldl h23 ?_
    intro x25 x26 h27
    exact State.applyEval_kept h27
  clear_value v24
  extract_lets +onlyGivenNames v28
  have h28 : Kept q n v28 := by
    unfold v28
    exact State.disagree_kept h24
  clear_value v28
  extract_lets +onlyGivenNames v29
  have h29 : Kept q n v29.1 := by
    unfold v29
    exact State.testKind_kept h28
  clear_value v29
  extract_lets +onlyGivenNames v30
  have h30 : Kept q n v30.1 := by
    unfold v30
    exact State.resetCount_kept h29
  clear_value v30
  extract_lets +onlyGivenNames v31
  have h31 : Kept q n v31 := by
    unfold v31
    refine kept_foldl h30 ?_
    intro x32 x33 h34
    exact State.applyEval_kept h34
  clear_value v31
  extract_lets +onlyGivenNames v35
  have h35 : Kept q n v35 := by
    unfold v35
    exact State.disagree_kept h31
  clear_value v35
  extract_lets +onlyGivenNames v36
  have h36 : Kept q n v36 := by
    unfold v36
    exact State.setShares_kept (State.setShares_kept h35)
  clear_value v36
  extract_lets +onlyGivenNames v37
  have h37 : Kept q n v37 := by
    unfold v37
    refine kept_ite ?_ ?_
    · exact State.initStep_kept h36
    · exact State.kindUpdate_kept (State.kindUpdate_kept h36)
  clear_value v37
  extract_lets +onlyGivenNames v38
  have h38 : Kept q n v38 := by
    unfold v38
    exact State.modCore_kept h37
  clear_value v38
  extract_lets +onlyGivenNames v39
  have h39 : Kept q n v39 := by
    unfold v39
    exact State.drState_kept h38
  clear_value v39
  exact State.alarmIf_kept h39

theorem State.estimateLate_kept {s} (h : Kept q n s) :
    Kept q n (State.estimateLate s) := by
  unfold State.estimateLate
  extract_lets +onlyGivenNames v1
  have h1 : Kept q n v1 := by
    unfold v1
    exact State.modCore_kept h
  clear_value v1
  exact State.modCore_kept h1

theorem State.estFence_kept {s} (h : Kept q n s) :
    Kept q n (State.estFence s) := by
  unfold State.estFence
  extract_lets +onlyGivenNames v1
  have h1 : Kept q n v1 := by
    unfold v1
    refine kept_foldl h ?_
    intro x2 x3 h4
    extract_lets +onlyGivenNames v5
    have h5 : Kept q n v5 := by
      unfold v5
      exact State.modSlot_kept h4
    clear_value v5
    refine kept_ite ?_ ?_
    · exact h5
    · exact State.clearAlarm_kept (State.modSlot_kept h5)
  clear_value v1
  extract_lets +onlyGivenNames v6
  have h6 : Kept q n v6 := by
    unfold v6
    refine kept_foldl h1 ?_
    intro x7 x8 h9
    exact State.modSlot_kept h9
  clear_value v6
  exact kept_upd h6 same

theorem State.peerDiff_kept {s a1} (h : Kept q n s) :
    Kept q n (State.peerDiff s a1) := by
  unfold State.peerDiff
  extract_lets +onlyGivenNames v1
  extract_lets +onlyGivenNames v2
  extract_lets +onlyGivenNames v3
  extract_lets +onlyGivenNames v4
  extract_lets +onlyGivenNames v5
  refine kept_ite ?_ ?_
  · exact h
  · extract_lets +onlyGivenNames v6
    extract_lets +onlyGivenNames v7
    have h7 : Kept q n v7 := by
      unfold v7
      exact kept_upd h same
    refine kept_ite ?_ ?_
    · exact State.clearAlarm_kept h7
    · exact h7

end Sys2Proof.Machine
end

