-- ==== Sys2Proof/Laws/KeptHenOps.lean ====
section
/-!
SUPPORT. What every run keeps, through the operations and meanings of Machine/HenOps.lean: one lemma for each.
-/
namespace Sys2Proof.Machine
variable {q : List Instr} {n : Nat}

theorem State.modCl_kept {s a1 a2} (h : Kept q n s) :
    Kept q n (State.modCl s a1 a2) := by
  unfold State.modCl
  refine kept_ite ?_ ?_
  · exact kept_upd h same
  · exact kept_upd h same

theorem State.modHq_kept {s a1 a2} (h : Kept q n s) :
    Kept q n (State.modHq s a1 a2) := by
  unfold State.modHq
  exact kept_upd h (fun e => by simpa [State.sizes, unitSizes] using e)

theorem State.modJob_kept {s a1 a2 a3} (h : Kept q n s) :
    Kept q n (State.modJob s a1 a2 a3) := by
  unfold State.modJob
  exact State.modHq_kept h

theorem State.putResult_kept {s a1 a2 a3 a4} (h : Kept q n s) : Kept q n (State.putResult s a1 a2 a3 a4) := by
  unfold State.putResult
  split
  · exact h
  · next j e =>
    have h1 : Kept q n (s.modJob a1 a2 (fun j => { j with results := j.padded.set a3 a4 })) := State.modJob_kept h
    refine kept_ite h1 ⟨h1.1, h1.2, ?_, h1.4, h1.5, h1.6⟩
    refine Memory.write_wf ?_
    split
    · exact Memory.write_wf h1.3
    · exact h1.3

theorem State.deliver_kept {s a1 a2 a3} (h : Kept q n s) :
    Kept q n (State.deliver s a1 a2 a3) := by
  unfold State.deliver
  split
  next y1 y2 =>
    exact State.modHq_kept h
  next y3 y4 =>
    exact State.modHq_kept h
  next y5 y6 =>
    exact State.modHq_kept h
  next y7 y8 y9 y10 y11 =>
    exact State.completeCmd_kept h
  next y12 y13 y14 y15 y16 =>
    exact kept_upd h same

theorem State.countTrunc_kept {s} (h : Kept q n s) :
    Kept q n (State.countTrunc s) := by
  unfold State.countTrunc
  refine kept_ite ?_ ?_
  · exact h
  · exact kept_upd h same

theorem State.completeJob_kept {s a1 a2 a3 a4 a5} (h : Kept q n s) :
    Kept q n (State.completeJob s a1 a2 a3 a4 a5) := by
  unfold State.completeJob
  split
  next y1 y2 =>
    exact h
  next y3 y4 y5 =>
    extract_lets +onlyGivenNames v6
    extract_lets +onlyGivenNames v7
    have h7 : Kept q n v7 := by
      unfold v7
      refine kept_foldl h ?_
      intro x8 x9 h10
      exact State.putResult_kept h10
    clear_value v7
    split
    next y11 y12 =>
      exact h7
    next y13 y14 y15 =>
      extract_lets +onlyGivenNames v16
      extract_lets +onlyGivenNames v17
      extract_lets +onlyGivenNames v18
      have h18 : Kept q n v18 := by
        unfold v18
        exact State.modHq_kept h7
      clear_value v18
      extract_lets +onlyGivenNames v19
      extract_lets +onlyGivenNames v20
      have h20 : Kept q n v20 := by
        unfold v20
        exact kept_upd h18 same
      clear_value v20
      extract_lets +onlyGivenNames v21
      have h21 : Kept q n v21 := by
        unfold v21
        refine kept_ite ?_ ?_
        · exact State.countTrunc_kept h20
        · exact h20
      clear_value v21
      extract_lets +onlyGivenNames v22
      have h22 : Kept q n v22 := by
        unfold v22
        refine kept_ite ?_ ?_
        · exact State.emit_kept h21
        · exact h21
      clear_value v22
      exact State.deliver_kept h22

theorem State.checkJob_kept {s a1 a2} (h : Kept q n s) :
    Kept q n (State.checkJob s a1 a2) := by
  unfold State.checkJob
  split
  next y1 y2 =>
    exact h
  next y3 y4 y5 =>
    extract_lets +onlyGivenNames v6
    refine kept_ite ?_ ?_
    · exact State.completeJob_kept h
    · exact h

theorem State.abortJob_kept {s a1 a2 a3} (h : Kept q n s) :
    Kept q n (State.abortJob s a1 a2 a3) := by
  unfold State.abortJob
  extract_lets +onlyGivenNames v1
  have h1 : Kept q n v1 := by
    unfold v1
    exact State.completeJob_kept h
  clear_value v1
  refine kept_ite ?_ ?_
  · extract_lets +onlyGivenNames v2
    have h2 : Kept q n v2 := by
      unfold v2
      exact State.modHq_kept h1
    clear_value v2
    refine kept_ite ?_ ?_
    · exact State.emit_kept h2
    · exact h2
  · exact h1

theorem State.noteWait_kept {s} (h : Kept q n s) :
    Kept q n (State.noteWait s) := by
  unfold State.noteWait
  extract_lets +onlyGivenNames v1
  extract_lets +onlyGivenNames v2
  extract_lets +onlyGivenNames v3
  extract_lets +onlyGivenNames v4
  exact kept_upd h same

theorem State.dispatch_kept {s a1 a2 a3 a4} (h : Kept q n s) :
    Kept q n (State.dispatch s a1 a2 a3 a4) := by
  unfold State.dispatch
  extract_lets +onlyGivenNames v1
  extract_lets +onlyGivenNames v2
  extract_lets +onlyGivenNames v3
  extract_lets +onlyGivenNames v4
  extract_lets +onlyGivenNames v5
  have h5 : Kept q n v5 := by
    unfold v5
    exact kept_upd h same
  clear_value v5
  exact State.modJob_kept (State.modCl_kept h5)

theorem State.fill_kept {s a1} (h : Kept q n s) :
    Kept q n (State.fill s a1) := by
  unfold State.fill
  extract_lets +onlyGivenNames v1
  refine kept_ite ?_ ?_
  · exact h
  · clear_value v1
    split
    next y2 y3 y4 =>
      exact State.modCl_kept h
    next y5 y6 =>
      split
      next y7 y8 =>
        exact h
      next y9 y10 y11 y12 =>
        exact State.dispatch_kept h

theorem State.fillBoth_kept {s} (h : Kept q n s) :
    Kept q n (State.fillBoth s) := by
  unfold State.fillBoth
  exact State.noteWait_kept (State.fill_kept (State.fill_kept h))

theorem State.itersNow_kept {s a1 a2} (h : Kept q n s) :
    Kept q n (State.itersNow s a1 a2).2 := by
  unfold State.itersNow
  extract_lets +onlyGivenNames v1
  refine kept_ite_snd ?_ ?_
  · exact h
  · extract_lets +onlyGivenNames v2
    extract_lets +onlyGivenNames v3
    split
    next y4 y5 y6 y7 =>
      have h8 : Kept q n y6 := kept_snd y7 (State.freeW_kept h)
      exact h8

theorem State.problemEnd_kept {s a1} (h : Kept q n s) :
    Kept q n (State.problemEnd s a1) := by
  unfold State.problemEnd
  split
  next y1 y2 =>
    exact h
  next y3 y4 y5 =>
    extract_lets +onlyGivenNames v6
    exact State.checkJob_kept (State.putResult_kept (State.modCl_kept h))

theorem State.cutRun_kept {s a1 a2} (h : Kept q n s) :
    Kept q n (State.cutRun s a1 a2) := by
  unfold State.cutRun
  refine kept_ite ?_ ?_
  · split
    next y1 y2 y3 y4 =>
      have h5 : Kept q n y3 := kept_snd y4 (State.itersNow_kept h)
      exact State.putResult_kept h5
  · exact State.putResult_kept h

theorem State.cutCluster_kept {s a1 a2} (h : Kept q n s) :
    Kept q n (State.cutCluster s a1 a2) := by
  unfold State.cutCluster
  extract_lets +onlyGivenNames v1
  extract_lets +onlyGivenNames v2
  have h2 : Kept q n v2 := by
    unfold v2
    clear_value v1
    split
    next y3 y4 y5 =>
      refine kept_ite ?_ ?_
      · exact State.modCl_kept (State.cutRun_kept h)
      · exact h
    next y6 y7 =>
      exact h
  clear_value v2
  clear_value v1
  split
  next y8 y9 y10 =>
    refine kept_ite ?_ ?_
    · extract_lets +onlyGivenNames v11
      extract_lets +onlyGivenNames v12
      extract_lets +onlyGivenNames v13
      have h13 : Kept q n v13 := by
        unfold v13
        refine kept_ite ?_ ?_
        · exact kept_upd h2 same
        · exact h2
      clear_value v13
      exact State.modCl_kept (State.putResult_kept h13)
    · exact h2
  next y14 y15 =>
    exact h2

theorem State.endJob_kept {s a1 a2 a3} (h : Kept q n s) :
    Kept q n (State.endJob s a1 a2 a3) := by
  unfold State.endJob
  exact State.completeJob_kept (State.cutCluster_kept (State.cutCluster_kept h))

theorem State.lose_kept {s a1 a2 a3} (h : Kept q n s) :
    Kept q n (State.lose s a1 a2 a3) := by
  unfold State.lose
  exact State.checkJob_kept (State.putResult_kept h)

theorem State.loseAll_kept {s a1 a2} (h : Kept q n s) :
    Kept q n (State.loseAll s a1 a2) := by
  unfold State.loseAll
  extract_lets +onlyGivenNames v1
  extract_lets +onlyGivenNames v2
  have h2 : Kept q n v2 := by
    unfold v2
    exact State.modCl_kept h
  clear_value v2
  extract_lets +onlyGivenNames v3
  have h3 : Kept q n v3 := by
    unfold v3
    clear_value v1
    split
    next y4 y5 y6 =>
      exact State.lose_kept h2
    next y7 y8 =>
      exact h2
  clear_value v3
  clear_value v1
  split
  next y9 y10 y11 =>
    exact State.lose_kept h3
  next y12 y13 =>
    exact h3

theorem State.sweepJob_kept {s a1 a2} (h : Kept q n s) :
    Kept q n (State.sweepJob s a1 a2) := by
  unfold State.sweepJob
  extract_lets +onlyGivenNames v1
  extract_lets +onlyGivenNames v2
  refine kept_ite ?_ ?_
  · exact h
  · refine kept_ite ?_ ?_
    · exact State.abortJob_kept h
    · refine kept_ite ?_ ?_
      · exact h
      · exact State.completeJob_kept h

theorem State.sweep_kept {s} (h : Kept q n s) :
    Kept q n (State.sweep s) := by
  unfold State.sweep
  refine kept_foldl h ?_
  intro x1 x2 h3
  refine kept_foldl h3 ?_
  intro x4 x5 h6
  exact State.sweepJob_kept h6

theorem State.henGo_kept {s} (h : Kept q n s) :
    Kept q n (State.henGo s) := by
  unfold State.henGo
  exact State.fillBoth_kept (State.sweep_kept (State.fillBoth_kept h))

theorem State.cancelJob_kept {s a1 a2} (h : Kept q n s) :
    Kept q n (State.cancelJob s a1 a2) := by
  unfold State.cancelJob
  split
  next y1 y2 =>
    exact h
  next y3 y4 y5 =>
    refine State.henGo_kept ?_
    refine kept_ite ?_ ?_
    · exact State.endJob_kept h
    · exact State.completeJob_kept h

theorem State.henAccept_kept {s a1 a2 a3} (h : Kept q n s) :
    Kept q n (State.henAccept s a1 a2 a3) := by
  unfold State.henAccept
  extract_lets +onlyGivenNames v1
  extract_lets +onlyGivenNames v2
  extract_lets +onlyGivenNames v3
  extract_lets +onlyGivenNames v4
  extract_lets +onlyGivenNames v5
  have h5 : Kept q n v5 := by
    unfold v5
    exact kept_upd h same
  clear_value v5
  extract_lets +onlyGivenNames v6
  extract_lets +onlyGivenNames v7
  have h7 : Kept q n v7 := by
    unfold v7
    exact State.modHq_kept h5
  clear_value v7
  clear_value v2
  split
  next y8 y9 =>
    refine kept_ite ?_ ?_
    · exact State.completeJob_kept h7
    · exact State.henGo_kept h7
  next y10 =>
    exact State.henGo_kept h7

theorem State.henFirm_kept {s a1 a2 a3 a4} (h : Kept q n s) :
    Kept q n (State.henFirm s a1 a2 a3 a4) := by
  unfold State.henFirm
  extract_lets +onlyGivenNames v1
  extract_lets +onlyGivenNames v2
  refine kept_ite ?_ ?_
  · exact State.modHq_kept h
  · exact State.henAccept_kept h

theorem State.henSubmit_kept {s a1 a2 a3} (h : Kept q n s) :
    Kept q n (State.henSubmit s a1 a2 a3) := by
  unfold State.henSubmit
  extract_lets +onlyGivenNames v1
  extract_lets +onlyGivenNames v2
  extract_lets +onlyGivenNames v3
  extract_lets +onlyGivenNames v4
  clear_value v1
  split
  next y5 y6 y7 y8 =>
    extract_lets +onlyGivenNames v9
    extract_lets +onlyGivenNames v10
    have h10 : Kept q n v10 := by
      unfold v10
      exact State.modHq_kept h
    clear_value v10
    refine kept_ite ?_ ?_
    · exact State.henAccept_kept h10
    · exact State.modHq_kept h10

theorem State.disableItems_kept {s a1 a2 a3 a4 a5} (h : Kept q n s) :
    Kept q n (State.disableItems s a1 a2 a3 a4 a5) := by
  unfold State.disableItems
  exact State.disableRec_kept h

theorem State.unaccept_kept {s a1} (h : Kept q n s) :
    Kept q n (State.unaccept s a1) := by
  unfold State.unaccept
  extract_lets +onlyGivenNames v1
  extract_lets +onlyGivenNames v2
  refine kept_foldl h ?_
  intro x3 x4 h5
  extract_lets +onlyGivenNames v6
  extract_lets +onlyGivenNames v7
  have h7 : Kept q n v7 := by
    unfold v7
    exact State.modCl_kept (State.modCl_kept h5)
  clear_value v7
  exact State.modHq_kept h7

theorem State.henDisable_kept {s a1 a2} (h : Kept q n s) :
    Kept q n (State.henDisable s a1 a2) := by
  unfold State.henDisable
  extract_lets +onlyGivenNames v1
  have h1 : Kept q n v1 := by
    unfold v1
    exact State.unaccept_kept h
  clear_value v1
  extract_lets +onlyGivenNames v2
  extract_lets +onlyGivenNames v3
  extract_lets +onlyGivenNames v4
  have h4 : Kept q n v4 := by
    unfold v4
    exact State.modHq_kept h1
  clear_value v4
  refine State.disableItems_kept ?_
  refine kept_foldl h4 ?_
  intro x5 x6 h7
  exact State.abortJob_kept h7

theorem State.clLeave_kept {s a1 a2 a3} (h : Kept q n s) :
    Kept q n (State.clLeave s a1 a2 a3) := by
  unfold State.clLeave
  extract_lets +onlyGivenNames v1
  extract_lets +onlyGivenNames v2
  have h2 : Kept q n v2 := by
    unfold v2
    exact State.modCl_kept h
  clear_value v2
  extract_lets +onlyGivenNames v3
  have h3 : Kept q n v3 := by
    unfold v3
    exact State.henGo_kept h2
  clear_value v3
  extract_lets +onlyGivenNames v4
  extract_lets +onlyGivenNames v5
  exact State.disableItems_kept h3

theorem State.clUp_kept {s a1} (h : Kept q n s) :
    Kept q n (State.clUp s a1) := by
  unfold State.clUp
  exact State.henGo_kept (State.modCl_kept h)

theorem State.clStop_kept {s a1} (h : Kept q n s) :
    Kept q n (State.clStop s a1) := by
  unfold State.clStop
  exact State.henGo_kept (State.loseAll_kept (State.modCl_kept h))

theorem State.henPartEnd_kept {s} (h : Kept q n s) :
    Kept q n (State.henPartEnd s) := by
  unfold State.henPartEnd
  refine State.henGo_kept ?_
  refine kept_foldl h ?_
  intro x1 x2 h3
  exact State.abortJob_kept h3

theorem State.partGo_kept {s} (h : Kept q n s) :
    Kept q n (State.partGo s) := by
  unfold State.partGo
  split
  next y1 y2 =>
    exact h
  next y3 y4 y5 y6 =>
    refine kept_ite ?_ ?_
    · exact h
    · extract_lets +onlyGivenNames v7
      extract_lets +onlyGivenNames v8
      have h8 : Kept q n v8 := by
        unfold v8
        exact kept_upd h same
      clear_value v8
      refine kept_ite ?_ ?_
      · exact State.event_kept h8
      · exact h8

theorem State.partViolation_kept {s a1} (h : Kept q n s) :
    Kept q n (State.partViolation s a1) := by
  unfold State.partViolation
  extract_lets +onlyGivenNames v1
  extract_lets +onlyGivenNames v2
  have h2 : Kept q n v2 := by
    unfold v2
    exact kept_upd h same
  clear_value v2
  exact State.busErr_kept (State.event_kept h2)

theorem State.henFrame_kept {s} (h : Kept q n s) :
    Kept q n (State.henFrame s) := by
  unfold State.henFrame
  exact kept_upd h same

end Sys2Proof.Machine
end

