-- ==== Sys2Proof/Laws/KeptHoldOps.lean ====
section
/-!
SUPPORT. What every run keeps, through the operations and meanings of Machine/HoldOps.lean: one lemma for each.
-/
namespace Sys2Proof.Machine
variable {q : List Instr} {n : Nat}

theorem State.modHold_kept {s a1} (h : Kept q n s) :
    Kept q n (State.modHold s a1) := by
  unfold State.modHold
  exact kept_upd h same

theorem State.startBlend_kept {s a1} (h : Kept q n s) :
    Kept q n (State.startBlend s a1) := by
  unfold State.startBlend
  exact State.modHold_kept h

theorem State.seat_kept {s a1} (h : Kept q n s) :
    Kept q n (State.seat s a1) := by
  unfold State.seat
  exact State.modHold_kept h

theorem State.initFunc_kept {s a1 a2 a3 a4 a5} (h : Kept q n s) :
    Kept q n (State.initFunc s a1 a2 a3 a4 a5) := by
  unfold State.initFunc
  extract_lets +onlyGivenNames v1
  extract_lets +onlyGivenNames v2
  extract_lets +onlyGivenNames v3
  extract_lets +onlyGivenNames v4
  extract_lets +onlyGivenNames v5
  split
  next y6 =>
    exact State.modHold_kept h
  next y7 =>
    extract_lets +onlyGivenNames v8
    exact State.modHold_kept h
  next y9 =>
    extract_lets +onlyGivenNames v10
    extract_lets +onlyGivenNames v11
    exact State.modHold_kept h
  next y12 =>
    exact State.modHold_kept h
  next y13 y14 y15 y16 y17 =>
    extract_lets +onlyGivenNames v18
    have h18 : Kept q n v18 := by
      unfold v18
      exact State.modHold_kept h
    clear_value v18
    refine kept_ite ?_ ?_
    · exact State.seat_kept h18
    · exact h18

theorem State.bprEnd_kept {s} (h : Kept q n s) :
    Kept q n (State.bprEnd s) := by
  unfold State.bprEnd
  exact State.modHold_kept (State.clearAlarm_kept (State.clearAlarm_kept h))

theorem State.aprEnd_kept {s} (h : Kept q n s) :
    Kept q n (State.aprEnd s) := by
  unfold State.aprEnd
  exact State.modHold_kept (State.clearAlarm_kept h)

theorem State.leaveFunc_kept {s a1} (h : Kept q n s) :
    Kept q n (State.leaveFunc s a1) := by
  unfold State.leaveFunc
  refine kept_ite ?_ ?_
  · exact State.bprEnd_kept h
  · refine kept_ite ?_ ?_
    · exact State.aprEnd_kept h
    · exact h

theorem State.changeFunc_kept {s a1 a2 a3 a4 a5} (h : Kept q n s) :
    Kept q n (State.changeFunc s a1 a2 a3 a4 a5) := by
  unfold State.changeFunc
  extract_lets +onlyGivenNames v1
  extract_lets +onlyGivenNames v2
  extract_lets +onlyGivenNames v3
  have h3 : Kept q n v3 := by
    unfold v3
    exact State.startBlend_kept (State.leaveFunc_kept h)
  clear_value v3
  extract_lets +onlyGivenNames v4
  have h4 : Kept q n v4 := by
    unfold v4
    exact State.initFunc_kept h3
  clear_value v4
  exact State.event_kept h4

theorem State.applyHold_kept {s a1} (h : Kept q n s) :
    Kept q n (State.applyHold s a1) := by
  unfold State.applyHold
  split
  next y1 y2 y3 y4 y5 =>
    extract_lets +onlyGivenNames v6
    extract_lets +onlyGivenNames v7
    have h7 : Kept q n v7 := by
      unfold v7
      refine kept_ite ?_ ?_
      · exact State.changeFunc_kept h
      · exact kept_upd h same
    clear_value v7
    exact State.clearAlarm_kept (State.modHold_kept h7)
  next y8 y9 y10 y11 y12 y13 =>
    extract_lets +onlyGivenNames v14
    extract_lets +onlyGivenNames v15
    extract_lets +onlyGivenNames v16
    exact State.modHold_kept h
  next y17 y18 =>
    refine kept_ite ?_ ?_
    · exact h
    · exact State.modHold_kept h
  next y19 y20 y21 =>
    exact State.modHold_kept h

theorem State.startHold_kept {s} (h : Kept q n s) :
    Kept q n (State.startHold s) := by
  unfold State.startHold
  extract_lets +onlyGivenNames v1
  extract_lets +onlyGivenNames v2
  have h2 : Kept q n v2 := by
    unfold v2
    exact State.modHold_kept (State.aprEnd_kept (State.bprEnd_kept h))
  clear_value v2
  extract_lets +onlyGivenNames v3
  extract_lets +onlyGivenNames v4
  have h4 : Kept q n v4 := by
    unfold v4
    exact kept_upd h2 same
  clear_value v4
  exact State.event_kept (State.initFunc_kept h4)

theorem State.degrade_kept {s a1} (h : Kept q n s) :
    Kept q n (State.degrade s a1) := by
  unfold State.degrade
  exact State.raiseAlarm_kept (State.modHold_kept h)

theorem State.degradeStep_kept {s} (h : Kept q n s) :
    Kept q n (State.degradeStep s) := by
  unfold State.degradeStep
  extract_lets +onlyGivenNames v1
  extract_lets +onlyGivenNames v2
  have h2 : Kept q n v2 := by
    unfold v2
    refine kept_ite ?_ ?_
    · refine kept_ite ?_ ?_
      · exact State.degrade_kept (State.changeFunc_kept h)
      · refine kept_ite ?_ ?_
        · exact State.degrade_kept (State.modHold_kept h)
        · refine kept_ite ?_ ?_
          · exact State.degrade_kept (State.modHold_kept h)
          · exact h
    · exact h
  clear_value v2
  extract_lets +onlyGivenNames v3
  refine kept_ite ?_ ?_
  · refine kept_ite ?_ ?_
    · exact State.degrade_kept (State.changeFunc_kept h2)
    · refine kept_ite ?_ ?_
      · exact State.degrade_kept (State.modHold_kept h2)
      · exact h2
  · exact h2

theorem State.bprAuto_kept {s} (h : Kept q n s) :
    Kept q n (State.bprAuto s) := by
  unfold State.bprAuto
  extract_lets +onlyGivenNames v1
  extract_lets +onlyGivenNames v2
  refine kept_ite ?_ ?_
  · exact State.seat_kept h
  · refine kept_ite ?_ ?_
    · exact State.modHold_kept h
    · refine kept_ite ?_ ?_
      · exact State.modHold_kept h
      · exact h

theorem State.autoStep_kept {s} (h : Kept q n s) :
    Kept q n (State.autoStep s) := by
  unfold State.autoStep
  refine kept_ite ?_ ?_
  · refine kept_ite ?_ ?_
    · refine kept_ite ?_ ?_
      · exact State.changeFunc_kept h
      · extract_lets +onlyGivenNames v1
        exact State.modHold_kept (State.changeFunc_kept h)
    · exact h
  · refine kept_ite ?_ ?_
    · exact State.bprAuto_kept h
    · exact h

theorem State.joyRead_kept {s} (h : Kept q n s) :
    Kept q n (State.joyRead s) := by
  unfold State.joyRead
  extract_lets +onlyGivenNames v1
  extract_lets +onlyGivenNames v2
  extract_lets +onlyGivenNames v3
  extract_lets +onlyGivenNames v4
  extract_lets +onlyGivenNames v5
  extract_lets +onlyGivenNames v6
  have h6 : Kept q n v6 := by
    unfold v6
    exact State.modHold_kept h
  clear_value v6
  exact State.alarmIf_kept h6

theorem State.joyMove_kept {s} (h : Kept q n s) :
    Kept q n (State.joyMove s) := by
  unfold State.joyMove
  extract_lets +onlyGivenNames v1
  extract_lets +onlyGivenNames v2
  exact State.modHold_kept h

theorem State.joyYaw_kept {s} (h : Kept q n s) :
    Kept q n (State.joyYaw s) := by
  unfold State.joyYaw
  extract_lets +onlyGivenNames v1
  refine kept_ite ?_ ?_
  · exact State.modHold_kept h
  · exact h

theorem State.wffStep_kept {s} (h : Kept q n s) :
    Kept q n (State.wffStep s) := by
  unfold State.wffStep
  extract_lets +onlyGivenNames v1
  refine kept_ite ?_ ?_
  · extract_lets +onlyGivenNames v2
    exact State.modHold_kept h
  · exact State.modHold_kept h

theorem State.refStep_kept {s} (h : Kept q n s) :
    Kept q n (State.refStep s) := by
  unfold State.refStep
  extract_lets +onlyGivenNames v1
  refine kept_ite ?_ ?_
  · extract_lets +onlyGivenNames v2
    exact State.modHold_kept h
  · refine kept_ite ?_ ?_
    · exact State.modHold_kept h
    · refine kept_ite ?_ ?_
      · extract_lets +onlyGivenNames v3
        extract_lets +onlyGivenNames v4
        extract_lets +onlyGivenNames v5
        extract_lets +onlyGivenNames v6
        extract_lets +onlyGivenNames v7
        extract_lets +onlyGivenNames v8
        extract_lets +onlyGivenNames v9
        exact State.alarmIf_kept (State.modHold_kept h)
      · extract_lets +onlyGivenNames v10
        exact State.modHold_kept h

theorem State.bprStep_kept {s} (h : Kept q n s) :
    Kept q n (State.bprStep s) := by
  unfold State.bprStep
  extract_lets +onlyGivenNames v1
  extract_lets +onlyGivenNames v2
  extract_lets +onlyGivenNames v3
  extract_lets +onlyGivenNames v4
  extract_lets +onlyGivenNames v5
  extract_lets +onlyGivenNames v6
  extract_lets +onlyGivenNames v7
  extract_lets +onlyGivenNames v8
  extract_lets +onlyGivenNames v9
  extract_lets +onlyGivenNames v10
  extract_lets +onlyGivenNames v11
  exact State.modHold_kept h

theorem State.poseMpc_kept {s} (h : Kept q n s) :
    Kept q n (State.poseMpc s) := by
  unfold State.poseMpc
  extract_lets +onlyGivenNames v1
  extract_lets +onlyGivenNames v2
  have h2 : Kept q n v2 := by
    unfold v2
    exact kept_upd h same
  clear_value v2
  refine kept_ite ?_ ?_
  · extract_lets +onlyGivenNames v3
    extract_lets +onlyGivenNames v4
    have h4 : Kept q n v4 := by
      unfold v4
      exact State.henFirm_kept h2
    clear_value v4
    exact kept_upd h4 same
  · exact h2

theorem State.excStep_kept {s} (h : Kept q n s) :
    Kept q n (State.excStep s) := by
  unfold State.excStep
  extract_lets +onlyGivenNames v1
  extract_lets +onlyGivenNames v2
  extract_lets +onlyGivenNames v3
  extract_lets +onlyGivenNames v4
  extract_lets +onlyGivenNames v5
  have h5 : Kept q n v5 := by
    unfold v5
    exact State.modHold_kept h
  clear_value v5
  refine kept_foldl h5 ?_
  intro x6 x7 h8
  extract_lets +onlyGivenNames v9
  refine kept_ite ?_ ?_
  · exact State.raiseAlarm_kept (kept_upd h8 same)
  · exact kept_upd h8 same

theorem State.biasStep_kept {s} (h : Kept q n s) :
    Kept q n (State.biasStep s) := by
  unfold State.biasStep
  extract_lets +onlyGivenNames v1
  exact State.modHold_kept h

theorem State.takeoverStep_kept {s} (h : Kept q n s) :
    Kept q n (State.takeoverStep s) := by
  unfold State.takeoverStep
  refine kept_ite ?_ ?_
  · exact h
  · extract_lets +onlyGivenNames v1
    extract_lets +onlyGivenNames v2
    extract_lets +onlyGivenNames v3
    have h3 : Kept q n v3 := by
      unfold v3
      exact kept_upd h same
    clear_value v3
    refine kept_ite ?_ ?_
    · extract_lets +onlyGivenNames v4
      have h4 : Kept q n v4 := by
        unfold v4
        split
        next y5 y6 y7 =>
          exact State.modHold_kept h3
        next y8 y9 =>
          exact h3
      clear_value v4
      exact State.startBlend_kept h4
    · exact h3

theorem State.holdIdle_kept {s} (h : Kept q n s) :
    Kept q n (State.holdIdle s) := by
  unfold State.holdIdle
  extract_lets +onlyGivenNames v1
  have h1 : Kept q n v1 := by
    unfold v1
    refine kept_ite ?_ ?_
    · exact State.bprEnd_kept h
    · exact h
  clear_value v1
  extract_lets +onlyGivenNames v2
  have h2 : Kept q n v2 := by
    unfold v2
    refine kept_ite ?_ ?_
    · exact State.aprEnd_kept h1
    · exact h1
  clear_value v2
  extract_lets +onlyGivenNames v3
  have h3 : Kept q n v3 := by
    unfold v3
    exact State.excStep_kept h2
  clear_value v3
  exact kept_upd h3 same

theorem State.holdBegin_kept {s} (h : Kept q n s) :
    Kept q n (State.holdBegin s) := by
  unfold State.holdBegin
  extract_lets +onlyGivenNames v1
  extract_lets +onlyGivenNames v2
  extract_lets +onlyGivenNames v3
  have h3 : Kept q n v3 := by
    unfold v3
    exact kept_upd h same
  extract_lets +onlyGivenNames v4
  have h4 : Kept q n v4 := by
    unfold v4
    refine kept_ite ?_ ?_
    · exact State.startHold_kept h3
    · exact h3
  clear_value v4
  extract_lets +onlyGivenNames v5
  have h5 : Kept q n v5 := by
    unfold v5
    refine kept_ite ?_ ?_
    · exact State.takeoverStep_kept h4
    · exact h4
  clear_value v5
  extract_lets +onlyGivenNames v6
  have h6 : Kept q n v6 := by
    unfold v6
    refine State.joyRead_kept ?_
    refine kept_foldl h5 ?_
    intro x7 x8 h9
    exact State.applyHold_kept h9
  clear_value v6
  refine kept_ite ?_ ?_
  · exact State.holdIdle_kept h6
  · extract_lets +onlyGivenNames v10
    have h10 : Kept q n v10 := by
      unfold v10
      exact State.autoStep_kept (State.degradeStep_kept h6)
    clear_value v10
    extract_lets +onlyGivenNames v11
    have h11 : Kept q n v11 := by
      unfold v11
      exact State.biasStep_kept (State.refStep_kept (State.wffStep_kept (State.joyYaw_kept (State.joyMove_kept h10))))
    clear_value v11
    extract_lets +onlyGivenNames v12
    have h12 : Kept q n v12 := by
      unfold v12
      refine kept_ite ?_ ?_
      · exact State.bprStep_kept h11
      · exact h11
    clear_value v12
    extract_lets +onlyGivenNames v13
    have h13 : Kept q n v13 := by
      unfold v13
      exact State.modHold_kept h12
    clear_value v13
    exact State.poseMpc_kept (State.excStep_kept h13)

theorem State.blend_kept {s a1} (h : Kept q n s) :
    Kept q n (State.blend s a1) := by
  unfold State.blend
  extract_lets +onlyGivenNames v1
  clear_value v1
  split
  next y2 y3 =>
    exact State.modHold_kept h
  next y4 y5 y6 y7 y8 =>
    extract_lets +onlyGivenNames v9
    extract_lets +onlyGivenNames v10
    extract_lets +onlyGivenNames v11
    refine kept_ite ?_ ?_
    · exact State.modHold_kept h
    · exact State.modHold_kept h

theorem State.mpcLate_kept {s} (h : Kept q n s) :
    Kept q n (State.mpcLate s) := by
  unfold State.mpcLate
  refine kept_ite ?_ ?_
  · exact h
  · extract_lets +onlyGivenNames v1
    extract_lets +onlyGivenNames v2
    have h2 : Kept q n v2 := by
      unfold v2
      exact kept_upd h same
    clear_value v2
    split
    next y3 y4 =>
      exact h2
    next y5 y6 y7 =>
      extract_lets +onlyGivenNames v8
      have h8 : Kept q n v8 := by
        unfold v8
        exact State.cancelJob_kept h2
      clear_value v8
      exact kept_upd h8 same

theorem State.mpcCount_kept {s} (h : Kept q n s) :
    Kept q n (State.mpcCount s) := by
  unfold State.mpcCount
  refine kept_ite ?_ ?_
  · exact State.modHold_kept h
  · extract_lets +onlyGivenNames v1
    extract_lets +onlyGivenNames v2
    exact State.modHold_kept h

theorem State.holdEnd_kept {s} (h : Kept q n s) :
    Kept q n (State.holdEnd s) := by
  unfold State.holdEnd
  refine kept_ite ?_ ?_
  · exact State.modHold_kept h
  · extract_lets +onlyGivenNames v1
    have h1 : Kept q n v1 := by
      unfold v1
      exact State.mpcCount_kept (State.mpcLate_kept h)
    clear_value v1
    split
    next y2 y3 =>
      exact h1
    next y4 y5 y6 =>
      exact State.modHold_kept (State.blend_kept h1)

end Sys2Proof.Machine
end

