-- ==== Sys2Proof/Laws/KeptFioOps.lean ====
section
/-!
SUPPORT. What every run keeps, through the operations and meanings of Machine/FioOps.lean: one lemma for each.
-/
namespace Sys2Proof.Machine
variable {q : List Instr} {n : Nat}

theorem State.modFch_kept {s a1 a2} (h : Kept q n s) :
    Kept q n (State.modFch s a1 a2) := by
  unfold State.modFch
  exact kept_upd h (fun e => by simpa [State.sizes, unitSizes] using e)

theorem State.modFgr_kept {s a1 a2} (h : Kept q n s) :
    Kept q n (State.modFgr s a1 a2) := by
  unfold State.modFgr
  exact kept_upd h (fun e => by simpa [State.sizes, unitSizes] using e)

theorem State.fioSample_kept {s a1 a2 a3} (h : Kept q n s) :
    Kept q n (State.fioSample s a1 a2 a3) := by
  unfold State.fioSample
  exact State.devPoint_kept h

theorem State.fioFollow1_kept {s a1} (h : Kept q n s) :
    Kept q n (State.fioFollow1 s a1) := by
  unfold State.fioFollow1
  refine kept_ite ?_ ?_
  · exact State.modFch_kept h
  · extract_lets +onlyGivenNames v1
    extract_lets +onlyGivenNames v2
    extract_lets +onlyGivenNames v3
    have h3 : Kept q n v3 := by
      unfold v3
      exact State.modFch_kept h
    clear_value v3
    extract_lets +onlyGivenNames v4
    exact State.modFch_kept h3

theorem State.fioFollow_kept {s} (h : Kept q n s) :
    Kept q n (State.fioFollow s) := by
  unfold State.fioFollow
  refine kept_foldl h ?_
  intro x1 x2 h3
  exact State.fioFollow1_kept h3

theorem State.fioPulseOver_kept {s a1 a2} (h : Kept q n s) :
    Kept q n (State.fioPulseOver s a1 a2) := by
  unfold State.fioPulseOver
  split
  next y1 y2 =>
    exact h
  next y3 y4 y5 =>
    exact State.completeCmd_kept (State.fioFollow1_kept (State.modFch_kept h))

theorem State.fioPulseAbort_kept {s a1 a2} (h : Kept q n s) :
    Kept q n (State.fioPulseAbort s a1 a2) := by
  unfold State.fioPulseAbort
  split
  next y1 y2 =>
    exact h
  next y3 y4 y5 =>
    refine kept_ite ?_ ?_
    · exact State.disableRec_kept (State.fioPulseOver_kept h)
    · exact State.disableRec_kept (State.fioPulseOver_kept h)

theorem State.fioPulsesAbort_kept {s a1 a2} (h : Kept q n s) :
    Kept q n (State.fioPulsesAbort s a1 a2) := by
  unfold State.fioPulsesAbort
  refine kept_foldl h ?_
  intro x1 x2 h3
  exact State.fioPulseAbort_kept h3

theorem State.fioAuthLost_kept {s} (h : Kept q n s) :
    Kept q n (State.fioAuthLost s) := by
  unfold State.fioAuthLost
  exact State.fioFollow_kept (State.fioPulsesAbort_kept h)

theorem State.fioRestoreNext_kept {s a1} (h : Kept q n s) :
    Kept q n (State.fioRestoreNext s a1) := by
  unfold State.fioRestoreNext
  split
  next y1 y2 =>
    exact h
  next y3 y4 y5 y6 =>
    exact State.fioFollow1_kept (State.modFgr_kept h)

theorem State.fioRestore_kept {s a1} (h : Kept q n s) :
    Kept q n (State.fioRestore s a1) := by
  unfold State.fioRestore
  exact State.fioRestoreNext_kept (State.modFgr_kept h)

theorem State.fioRequal_kept {s a1} (h : Kept q n s) :
    Kept q n (State.fioRequal s a1) := by
  unfold State.fioRequal
  refine kept_foldl h ?_
  intro x1 x2 h3
  refine kept_ite ?_ ?_
  · exact h3
  · exact State.requal_kept h3

theorem State.fioUnwrite_kept {s a1} (h : Kept q n s) :
    Kept q n (State.fioUnwrite s a1) := by
  unfold State.fioUnwrite
  split
  next y1 y2 y3 =>
    refine kept_ite ?_ ?_
    · exact State.putPoint_kept h
    · exact h
  next y4 y5 =>
    exact h

theorem State.fioMissing_kept {s a1} (h : Kept q n s) :
    Kept q n (State.fioMissing s a1) := by
  unfold State.fioMissing
  extract_lets +onlyGivenNames v1
  have h1 : Kept q n v1 := by
    unfold v1
    exact State.modFgr_kept h
  clear_value v1
  extract_lets +onlyGivenNames v2
  have h2 : Kept q n v2 := by
    unfold v2
    exact State.clearAlarm_kept h1
  clear_value v2
  extract_lets +onlyGivenNames v3
  have h3 : Kept q n v3 := by
    unfold v3
    exact State.raiseAlarm_kept (State.raiseAlarm_kept h2)
  clear_value v3
  extract_lets +onlyGivenNames v4
  have h4 : Kept q n v4 := by
    unfold v4
    exact State.fioPulsesAbort_kept h3
  clear_value v4
  extract_lets +onlyGivenNames v5
  have h5 : Kept q n v5 := by
    unfold v5
    refine kept_foldl h4 ?_
    intro x6 x7 h8
    exact State.fioFollow1_kept h8
  clear_value v5
  refine State.fioRequal_kept ?_
  refine kept_foldl h5 ?_
  intro x9 x10 h11
  exact State.fioUnwrite_kept h11

theorem State.fioLeaveMissing_kept {s a1 a2} (h : Kept q n s) :
    Kept q n (State.fioLeaveMissing s a1 a2) := by
  unfold State.fioLeaveMissing
  extract_lets +onlyGivenNames v1
  extract_lets +onlyGivenNames v2
  extract_lets +onlyGivenNames v3
  have h3 : Kept q n v3 := by
    unfold v3
    exact State.modFgr_kept h
  clear_value v3
  extract_lets +onlyGivenNames v4
  have h4 : Kept q n v4 := by
    unfold v4
    exact State.clearAlarm_kept h3
  clear_value v4
  extract_lets +onlyGivenNames v5
  have h5 : Kept q n v5 := by
    unfold v5
    refine kept_ite ?_ ?_
    · exact h4
    · exact State.clearAlarm_kept h4
  clear_value v5
  extract_lets +onlyGivenNames v6
  have h6 : Kept q n v6 := by
    unfold v6
    refine kept_foldl h5 ?_
    intro x7 x8 h9
    refine kept_ite ?_ ?_
    · exact State.modFch_kept h9
    · refine kept_ite ?_ ?_
      · exact h9
      · refine kept_ite ?_ ?_
        · exact State.requal_kept h9
        · exact State.fioSample_kept h9
  clear_value v6
  refine kept_ite ?_ ?_
  · exact State.fioRestore_kept h6
  · exact State.raiseAlarm_kept h6

theorem State.fioGroupUp_kept {s a1} (h : Kept q n s) :
    Kept q n (State.fioGroupUp s a1) := by
  unfold State.fioGroupUp
  extract_lets +onlyGivenNames v1
  refine kept_ite ?_ ?_
  · exact h
  · refine kept_ite ?_ ?_
    · exact State.fioMissing_kept h
    · exact State.fioLeaveMissing_kept h

theorem State.fioUp_kept {s} (h : Kept q n s) :
    Kept q n (State.fioUp s) := by
  unfold State.fioUp
  extract_lets +onlyGivenNames v1
  extract_lets +onlyGivenNames v2
  have h2 : Kept q n v2 := by
    unfold v2
    exact kept_upd h (fun e => by simpa [State.sizes, unitSizes] using e)
  clear_value v2
  refine kept_foldl h2 ?_
  intro x3 x4 h5
  exact State.fioGroupUp_kept h5

theorem State.fioConfig_kept {s a1} (h : Kept q n s) :
    Kept q n (State.fioConfig s a1) := by
  unfold State.fioConfig
  refine kept_ite ?_ ?_
  · exact h
  · extract_lets +onlyGivenNames v1
    extract_lets +onlyGivenNames v2
    have h2 : Kept q n v2 := by
      unfold v2
      exact State.fioPulsesAbort_kept h
    clear_value v2
    extract_lets +onlyGivenNames v3
    have h3 : Kept q n v3 := by
      unfold v3
      refine kept_foldl h2 ?_
      intro x4 x5 h6
      exact State.modFch_kept h6
    clear_value v3
    refine kept_foldl h3 ?_
    intro x7 x8 h9
    refine kept_ite ?_ ?_
    · exact State.fioGroupUp_kept h9
    · exact h9

theorem State.fioDown_kept {s a1} (h : Kept q n s) :
    Kept q n (State.fioDown s a1) := by
  unfold State.fioDown
  exact State.fioFollow_kept (State.fioPulsesAbort_kept h)

end Sys2Proof.Machine
end

