-- ==== Sys2Proof/Laws/KeptBusOps.lean ====
section
/-!
SUPPORT. What every run keeps, through the operations and meanings of Machine/BusOps.lean: one lemma for each.
-/
namespace Sys2Proof.Machine
variable {q : List Instr} {n : Nat}

theorem State.modPort_kept {s a1 a2} (h : Kept q n s) :
    Kept q n (State.modPort s a1 a2) := by
  unfold State.modPort
  exact kept_upd h (fun e => by simpa [State.sizes, unitSizes] using e)

theorem State.frameAborted_kept {s a1 a2 a3} (h : Kept q n s) :
    Kept q n (State.frameAborted s a1 a2 a3) := by
  unfold State.frameAborted
  extract_lets +onlyGivenNames v1
  have h1 : Kept q n v1 := by
    unfold v1
    exact State.modPort_kept h
  clear_value v1
  extract_lets +onlyGivenNames v2
  extract_lets +onlyGivenNames v3
  have h3 : Kept q n v3 := by
    unfold v3
    refine kept_ite ?_ ?_
    · exact kept_upd h1 same
    · exact h1
  clear_value v3
  refine kept_ite ?_ ?_
  · exact kept_upd h3 same
  · exact h3

theorem State.frameSent_kept {s a1} (h : Kept q n s) :
    Kept q n (State.frameSent s a1) := by
  unfold State.frameSent
  exact State.modPort_kept h

theorem State.modBox_kept {s a1 a2 a3} (h : Kept q n s) :
    Kept q n (State.modBox s a1 a2 a3) := by
  unfold State.modBox
  exact State.modPort_kept h

theorem State.canNext_kept {s a1} (h : Kept q n s) :
    Kept q n (State.canNext s a1) := by
  unfold State.canNext
  extract_lets +onlyGivenNames v1
  refine kept_ite ?_ ?_
  · exact h
  · clear_value v1
    split
    next y2 y3 =>
      exact h
    next y4 y5 y6 y7 =>
      exact State.emit_kept (State.modBox_kept (State.modPort_kept h))

theorem State.canDue_kept {s a1} (h : Kept q n s) :
    Kept q n (State.canDue s a1) := by
  unfold State.canDue
  exact State.canNext_kept (State.modPort_kept h)

theorem State.nextBehind_kept {s a1 a2} (h : Kept q n s) :
    Kept q n (State.nextBehind s a1 a2) := by
  unfold State.nextBehind
  split
  next y1 y2 =>
    exact State.modBox_kept h
  next y3 y4 y5 =>
    exact State.modBox_kept h

theorem State.placeFrame_kept {s a1 a2 a3} (h : Kept q n s) :
    Kept q n (State.placeFrame s a1 a2 a3) := by
  unfold State.placeFrame
  extract_lets +onlyGivenNames v1
  have h1 : Kept q n v1 := by
    unfold v1
    exact State.canDue_kept h
  clear_value v1
  extract_lets +onlyGivenNames v2
  refine kept_ite ?_ ?_
  · exact State.frameAborted_kept h1
  · refine kept_ite ?_ ?_
    · exact State.frameAborted_kept h1
    · refine kept_ite ?_ ?_
      · exact State.frameAborted_kept h1
      · extract_lets +onlyGivenNames v3
        have h3 : Kept q n v3 := by
          unfold v3
          split
          next y4 y5 y6 =>
            refine kept_ite ?_ ?_
            · exact State.modPort_kept h1
            · exact h1
          next y7 y8 =>
            exact h1
        clear_value v3
        extract_lets +onlyGivenNames v9
        extract_lets +onlyGivenNames v10
        extract_lets +onlyGivenNames v11
        have h11 : Kept q n v11 := by
          unfold v11
          clear_value v10
          split
          next y12 y13 y14 =>
            exact State.frameAborted_kept h3
          next y15 y16 =>
            exact h3
        clear_value v11
        extract_lets +onlyGivenNames v17
        have h17 : Kept q n v17 := by
          unfold v17
          clear_value v10
          split
          next y18 y19 =>
            exact State.modBox_kept h3
          next y20 y21 y22 =>
            refine kept_ite ?_ ?_
            · exact State.modBox_kept h11
            · exact State.modBox_kept (State.frameAborted_kept h3)
        clear_value v17
        exact State.canNext_kept h17

theorem State.dropBox_kept {s a1 a2 a3} (h : Kept q n s) :
    Kept q n (State.dropBox s a1 a2 a3) := by
  unfold State.dropBox
  extract_lets +onlyGivenNames v1
  extract_lets +onlyGivenNames v2
  have h2 : Kept q n v2 := by
    unfold v2
    clear_value v1
    split
    next y3 y4 y5 =>
      exact State.modBox_kept (State.frameAborted_kept h)
    next y6 y7 =>
      exact h
  clear_value v2
  clear_value v1
  split
  next y8 y9 =>
    exact h2
  next y10 y11 y12 =>
    refine kept_ite ?_ ?_
    · exact State.modBox_kept h2
    · exact State.modBox_kept (State.frameAborted_kept h2)

theorem State.cancelBox_kept {s a1 a2 a3} (h : Kept q n s) :
    Kept q n (State.cancelBox s a1 a2 a3) := by
  unfold State.cancelBox
  exact State.dropBox_kept (State.canDue_kept h)

theorem State.abortPort_kept {s a1 a2} (h : Kept q n s) :
    Kept q n (State.abortPort s a1 a2) := by
  unfold State.abortPort
  extract_lets +onlyGivenNames v1
  have h1 : Kept q n v1 := by
    unfold v1
    refine kept_foldl h ?_
    intro x2 x3 h4
    extract_lets +onlyGivenNames v5
    extract_lets +onlyGivenNames v6
    have h6 : Kept q n v6 := by
      unfold v6
      clear_value v5
      split
      next y7 y8 y9 =>
        exact State.frameAborted_kept h4
      next y10 y11 =>
        exact h4
    clear_value v6
    extract_lets +onlyGivenNames v12
    have h12 : Kept q n v12 := by
      unfold v12
      clear_value v5
      split
      next y13 y14 y15 =>
        exact State.frameAborted_kept h6
      next y16 y17 =>
        exact h6
    clear_value v12
    exact State.modBox_kept h12
  clear_value v1
  exact State.modPort_kept h1

theorem State.disablePort_kept {s a1 a2} (h : Kept q n s) :
    Kept q n (State.disablePort s a1 a2) := by
  unfold State.disablePort
  extract_lets +onlyGivenNames v1
  have h1 : Kept q n v1 := by
    unfold v1
    exact State.canDue_kept h
  clear_value v1
  extract_lets +onlyGivenNames v2
  extract_lets +onlyGivenNames v3
  have h3 : Kept q n v3 := by
    unfold v3
    refine kept_foldl h1 ?_
    intro x4 x5 h6
    exact State.dropBox_kept h6
  clear_value v3
  extract_lets +onlyGivenNames v7
  exact State.disableRec_kept h3

theorem State.canCount_kept {s a1 a2} (h : Kept q n s) :
    Kept q n (State.canCount s a1 a2) := by
  unfold State.canCount
  extract_lets +onlyGivenNames v1
  extract_lets +onlyGivenNames v2
  have h2 : Kept q n v2 := by
    unfold v2
    exact State.modPort_kept h
  clear_value v2
  refine kept_ite ?_ ?_
  · exact State.raiseAlarm_kept h2
  · exact h2

theorem State.clashSeen_kept {s a1 a2 a3 a4} (h : Kept q n s) :
    Kept q n (State.clashSeen s a1 a2 a3 a4).2 := by
  unfold State.clashSeen
  extract_lets +onlyGivenNames v1
  extract_lets +onlyGivenNames v2
  extract_lets +onlyGivenNames v3
  have h3 : Kept q n v3 := by
    unfold v3
    exact State.modPort_kept h
  clear_value v3
  refine kept_ite_snd ?_ ?_
  · exact h3
  · extract_lets +onlyGivenNames v4
    extract_lets +onlyGivenNames v5
    have h5 : Kept q n v5 := by
      unfold v5
      exact State.modPort_kept h3
    clear_value v5
    refine kept_mk_snd ?_
    refine kept_ite ?_ ?_
    · exact h5
    · exact State.raiseAlarm_kept h5

theorem State.clashReset_kept {s a1 a2 a3} (h : Kept q n s) :
    Kept q n (State.clashReset s a1 a2 a3) := by
  unfold State.clashReset
  exact State.modPort_kept h

theorem State.modSer_kept {s a1 a2} (h : Kept q n s) :
    Kept q n (State.modSer s a1 a2) := by
  unfold State.modSer
  exact kept_upd h (fun e => by simpa [State.sizes, unitSizes] using e)

theorem State.serJudge_kept {s a1} (h : Kept q n s) :
    Kept q n (State.serJudge s a1) := by
  unfold State.serJudge
  extract_lets +onlyGivenNames v1
  have h1 : Kept q n v1 := by
    unfold v1
    exact State.modSer_kept h
  clear_value v1
  extract_lets +onlyGivenNames v2
  extract_lets +onlyGivenNames v3
  extract_lets +onlyGivenNames v4
  refine kept_ite ?_ ?_
  · exact State.raiseAlarm_kept h1
  · refine kept_ite ?_ ?_
    · exact State.clearAlarm_kept h1
    · exact h1

theorem State.serChars_kept {s a1 a2 a3} (h : Kept q n s) :
    Kept q n (State.serChars s a1 a2 a3) := by
  unfold State.serChars
  exact State.serJudge_kept (State.modSer_kept h)

theorem State.serBad_kept {s a1} (h : Kept q n s) :
    Kept q n (State.serBad s a1) := by
  unfold State.serBad
  exact State.modSer_kept h

theorem State.serGood_kept {s a1} (h : Kept q n s) :
    Kept q n (State.serGood s a1) := by
  unfold State.serGood
  exact State.modSer_kept h

end Sys2Proof.Machine
end

