-- ==== Sys2Proof/Laws/KeptSafeOps.lean ====
section
/-!
SUPPORT. What every run keeps, through the operations and meanings of Machine/SafeOps.lean: one lemma for each.
-/
namespace Sys2Proof.Machine
variable {q : List Instr} {n : Nat}

theorem State.modSafe_kept {s a1} (h : Kept q n s) (k : (a1 s.safe).sizes = s.safe.sizes) : Kept q n (State.modSafe s a1) :=
  ⟨h.1, h.2, h.3, h.4, h.5, (State.modSafe_sizes k).trans h.6⟩

theorem State.noteDiffer_kept {s} (h : Kept q n s) :
    Kept q n (State.noteDiffer s) := by
  unfold State.noteDiffer
  exact State.modSafe_kept h rfl

theorem State.stopRecords_kept {s a1} (h : Kept q n s) :
    Kept q n (State.stopRecords s a1) := by
  unfold State.stopRecords
  extract_lets +onlyGivenNames v1
  have h1 : Kept q n v1 := by
    unfold v1
    refine kept_foldl h ?_
    intro x2 x3 h4
    extract_lets +onlyGivenNames v5
    extract_lets +onlyGivenNames v6
    refine kept_ite ?_ ?_
    · exact State.event_kept h4
    · refine kept_ite ?_ ?_
      · exact State.event_kept h4
      · exact h4
  clear_value v1
  exact State.alarmIf_kept h1

theorem State.abortBrakeTest_kept {s a1} (h : Kept q n s) :
    Kept q n (State.abortBrakeTest s a1) := by
  unfold State.abortBrakeTest
  split
  next y1 y2 =>
    exact h
  next y3 y4 y5 =>
    exact State.completeCmd_kept (State.modSafe_kept h (by simp))

theorem State.abortDemanded_kept {s} (h : Kept q n s) :
    Kept q n (State.abortDemanded s) := by
  unfold State.abortDemanded
  refine kept_foldl h ?_
  intro x1 x2 h3
  extract_lets +onlyGivenNames v4
  refine kept_ite ?_ ?_
  · exact State.abortBrakeTest_kept h3
  · exact h3

theorem State.safeL_kept {s} (h : Kept q n s) :
    Kept q n (State.safeL s) := by
  unfold State.safeL
  extract_lets +onlyGivenNames v1
  extract_lets +onlyGivenNames v2
  have h2 : Kept q n v2 := by
    unfold v2
    exact State.abortDemanded_kept h
  clear_value v2
  exact State.stopRecords_kept (State.noteDiffer_kept (State.modSafe_kept h2 (by simp)))

theorem State.safeBoth_kept {s} (h : Kept q n s) :
    Kept q n (State.safeBoth s) := by
  unfold State.safeBoth
  extract_lets +onlyGivenNames v1
  extract_lets +onlyGivenNames v2
  have h2 : Kept q n v2 := by
    unfold v2
    exact State.abortDemanded_kept h
  clear_value v2
  exact State.stopRecords_kept (State.noteDiffer_kept (State.modSafe_kept h2 (by simp)))

theorem State.safetyFault_kept {s a1 a2} (h : Kept q n s) :
    Kept q n (State.safetyFault s a1 a2) := by
  unfold State.safetyFault
  exact State.raiseAlarm_kept (State.event_kept h)

theorem State.processStop_kept {s a1} (h : Kept q n s) : Kept q n (State.processStop s a1) := by
  unfold State.processStop
  refine State.safeBoth_kept (State.modSafe_kept h ?_)
  refine sizes_foldl ?_ _ _
  intro x p
  split
  · exact SafeSt.modPair_sizes x p _
  · rfl

theorem State.requestStop_kept {s a1} (h : Kept q n s) :
    Kept q n (State.requestStop s a1) := by
  unfold State.requestStop
  extract_lets +onlyGivenNames v1
  have h1 : Kept q n v1 := by
    unfold v1
    exact State.processStop_kept h
  clear_value v1
  refine kept_ite ?_ ?_
  · exact State.emit_kept h1
  · exact h1

theorem State.overdue_kept {s a1} (h : Kept q n s) :
    Kept q n (State.overdue s a1) := by
  unfold State.overdue
  extract_lets +onlyGivenNames v1
  exact State.alarmIf_kept (State.modSafe_kept h (by simp))

theorem State.takeExchange_kept {s a1} (h : Kept q n s) :
    Kept q n (State.takeExchange s a1) := by
  unfold State.takeExchange
  extract_lets +onlyGivenNames v1
  have h1 : Kept q n v1 := by
    unfold v1
    exact State.modSafe_kept h rfl
  clear_value v1
  extract_lets +onlyGivenNames v2
  have h2 : Kept q n v2 := by
    unfold v2
    exact State.alarmIf_kept h1
  clear_value v2
  refine kept_ite ?_ ?_
  · refine kept_foldl h2 ?_
    intro x3 x4 h5
    exact State.overdue_kept (State.modSafe_kept h5 (by simp))
  · exact h2

theorem State.abortChanTest_kept {s a1} (h : Kept q n s) :
    Kept q n (State.abortChanTest s a1) := by
  unfold State.abortChanTest
  refine kept_foldl h ?_
  intro x1 x2 h3
  refine kept_ite ?_ ?_
  · exact State.abortBrakeTest_kept h3
  · exact h3

theorem State.safeReset_kept {s} (h : Kept q n s) :
    Kept q n (State.safeReset s) := by
  unfold State.safeReset
  extract_lets +onlyGivenNames v1
  extract_lets +onlyGivenNames v2
  have h2 : Kept q n v2 := by
    unfold v2
    exact State.stopRecords_kept (State.noteDiffer_kept (State.modSafe_kept h (by simp)))
  clear_value v2
  refine kept_ite ?_ ?_
  · exact h2
  · exact State.clearAlarm_kept h2

theorem State.safeStopEnter_kept {s a1 a2} (h : Kept q n s) :
    Kept q n (State.safeStopEnter s a1 a2) := by
  unfold State.safeStopEnter
  extract_lets +onlyGivenNames v1
  extract_lets +onlyGivenNames v2
  have h2 : Kept q n v2 := by
    unfold v2
    exact State.abortDemanded_kept h
  clear_value v2
  extract_lets +onlyGivenNames v3
  have h3 : Kept q n v3 := by
    unfold v3
    exact State.modSafe_kept h2 (by simp; rfl)
  clear_value v3
  extract_lets +onlyGivenNames v4
  have h4 : Kept q n v4 := by
    unfold v4
    refine kept_ite ?_ ?_
    · exact State.modSafe_kept h3 (by simp)
    · exact h3
  clear_value v4
  extract_lets +onlyGivenNames v5
  have h5 : Kept q n v5 := by
    unfold v5
    refine kept_ite ?_ ?_
    · exact State.modSafe_kept h4 (by simp)
    · exact h4
  clear_value v5
  refine State.stopRecords_kept ?_
  refine State.noteDiffer_kept ?_
  refine kept_foldl h5 ?_
  intro x6 x7 h8
  exact State.abortBrakeTest_kept h8

end Sys2Proof.Machine
end

