-- ==== Sys2Proof/Laws/KeptThrOps.lean ====
section
/-!
SUPPORT. What every run keeps, through the operations and meanings of Machine/ThrOps.lean: one lemma for each.
-/
namespace Sys2Proof.Machine
variable {q : List Instr} {n : Nat}

theorem State.modTch_kept {s a1 a2} (h : Kept q n s) :
    Kept q n (State.modTch s a1 a2) := by
  unfold State.modTch
  exact kept_upd h (fun e => by simpa [State.sizes, unitSizes] using e)

theorem State.placeSetpoint_kept {s a1 a2 a3 a4 a5} (h : Kept q n s) :
    Kept q n (State.placeSetpoint s a1 a2 a3 a4 a5) := by
  unfold State.placeSetpoint
  extract_lets +onlyGivenNames v1
  refine kept_ite ?_ ?_
  · exact h
  · extract_lets +onlyGivenNames v2
    extract_lets +onlyGivenNames v3
    extract_lets +onlyGivenNames v4
    extract_lets +onlyGivenNames v5
    extract_lets +onlyGivenNames v6
    exact State.placeFrame_kept (State.modTch_kept h)

theorem State.placeTimed_kept {s a1 a2 a3} (h : Kept q n s) :
    Kept q n (State.placeTimed s a1 a2 a3) := by
  unfold State.placeTimed
  extract_lets +onlyGivenNames v1
  extract_lets +onlyGivenNames v2
  exact State.placeSetpoint_kept h

theorem State.retime_kept {s a1} (h : Kept q n s) :
    Kept q n (State.retime s a1) := by
  unfold State.retime
  extract_lets +onlyGivenNames v1
  refine kept_ite ?_ ?_
  · exact State.placeTimed_kept h
  · exact h

theorem State.placeInterim_kept {s a1} (h : Kept q n s) :
    Kept q n (State.placeInterim s a1) := by
  unfold State.placeInterim
  extract_lets +onlyGivenNames v1
  have h1 : Kept q n v1 := by
    unfold v1
    exact State.modTch_kept h
  clear_value v1
  extract_lets +onlyGivenNames v2
  exact State.placeSetpoint_kept h1

theorem State.thrZero_kept {s a1} (h : Kept q n s) :
    Kept q n (State.thrZero s a1) := by
  unfold State.thrZero
  refine kept_ite ?_ ?_
  · exact h
  · exact State.retime_kept (State.placeInterim_kept (State.modTch_kept h))

theorem State.thrRampOut_kept {s a1} (h : Kept q n s) :
    Kept q n (State.thrRampOut s a1) := by
  unfold State.thrRampOut
  refine kept_ite ?_ ?_
  · exact h
  · refine kept_ite ?_ ?_
    · exact h
    · exact State.retime_kept (State.modTch_kept h)

theorem State.thrFailed_kept {s a1 a2} (h : Kept q n s) :
    Kept q n (State.thrFailed s a1 a2) := by
  unfold State.thrFailed
  extract_lets +onlyGivenNames v1
  extract_lets +onlyGivenNames v2
  have h2 : Kept q n v2 := by
    unfold v2
    exact State.raiseAlarm_kept (State.modTch_kept h)
  clear_value v2
  extract_lets +onlyGivenNames v3
  have h3 : Kept q n v3 := by
    unfold v3
    exact State.clearAlarm_kept (State.clearAlarm_kept h2)
  clear_value v3
  extract_lets +onlyGivenNames v4
  refine kept_ite ?_ ?_
  · exact State.requestStop_kept h3
  · exact h3

theorem State.thrFault_kept {s a1 a2} (h : Kept q n s) :
    Kept q n (State.thrFault s a1 a2) := by
  unfold State.thrFault
  extract_lets +onlyGivenNames v1
  extract_lets +onlyGivenNames v2
  have h2 : Kept q n v2 := by
    unfold v2
    exact State.modTch_kept h
  clear_value v2
  extract_lets +onlyGivenNames v3
  refine kept_ite ?_ ?_
  · exact h2
  · extract_lets +onlyGivenNames v4
    extract_lets +onlyGivenNames v5
    extract_lets +onlyGivenNames v6
    have h6 : Kept q n v6 := by
      unfold v6
      unfold v5
      refine kept_ite ?_ ?_
      · exact State.thrFailed_kept h2
      · exact h2
    clear_value v6
    extract_lets +onlyGivenNames v7
    have h7 : Kept q n v7 := by
      unfold v7
      clear_value v1
      split
      next y8 y9 =>
        exact State.thrZero_kept h6
      next y10 y11 =>
        exact State.thrRampOut_kept h6
      next y12 y13 y14 =>
        exact h6
    clear_value v7
    clear_value v1
    split
    next y15 y16 =>
      exact h7
    next y17 y18 =>
      refine kept_ite ?_ ?_
      · exact State.raiseAlarm_kept (State.clearAlarm_kept (State.modTch_kept h7))
      · exact h7
    next y19 y20 y21 =>
      refine kept_ite ?_ ?_
      · exact State.raiseAlarm_kept (State.modTch_kept h7)
      · exact h7

theorem State.thrInService_kept {s a1} (h : Kept q n s) :
    Kept q n (State.thrInService s a1) := by
  unfold State.thrInService
  exact State.clearAlarm_kept (State.clearAlarm_kept (State.modTch_kept h))

theorem State.thrClear_kept {s a1} (h : Kept q n s) :
    Kept q n (State.thrClear s a1) := by
  unfold State.thrClear
  refine kept_ite ?_ ?_
  · exact h
  · extract_lets +onlyGivenNames v1
    extract_lets +onlyGivenNames v2
    have h2 : Kept q n v2 := by
      unfold v2
      exact State.clearAlarm_kept (State.modTch_kept h)
    clear_value v2
    refine kept_ite ?_ ?_
    · exact State.thrInService_kept h2
    · exact h2

theorem State.thrTimers_kept {s a1} (h : Kept q n s) :
    Kept q n (State.thrTimers s a1) := by
  unfold State.thrTimers
  extract_lets +onlyGivenNames v1
  extract_lets +onlyGivenNames v2
  extract_lets +onlyGivenNames v3
  extract_lets +onlyGivenNames v4
  extract_lets +onlyGivenNames v5
  extract_lets +onlyGivenNames v6
  extract_lets +onlyGivenNames v7
  exact State.modTch_kept h

theorem State.thrDetect_kept {s a1 a2} (h : Kept q n s) :
    Kept q n (State.thrDetect s a1 a2) := by
  unfold State.thrDetect
  refine kept_ite ?_ ?_
  · extract_lets +onlyGivenNames v1
    have h1 : Kept q n v1 := by
      unfold v1
      refine kept_ite ?_ ?_
      · exact State.modTch_kept h
      · exact h
    clear_value v1
    exact State.thrFault_kept h1
  · exact h

theorem State.thrReadyBack_kept {s a1} (h : Kept q n s) :
    Kept q n (State.thrReadyBack s a1) := by
  unfold State.thrReadyBack
  refine kept_ite ?_ ?_
  · exact State.thrInService_kept h
  · exact h

theorem State.thrDegradedBack_kept {s a1} (h : Kept q n s) :
    Kept q n (State.thrDegradedBack s a1) := by
  unfold State.thrDegradedBack
  refine kept_ite ?_ ?_
  · exact State.thrInService_kept h
  · exact h

theorem State.thrSupervise_kept {s a1} (h : Kept q n s) :
    Kept q n (State.thrSupervise s a1) := by
  unfold State.thrSupervise
  extract_lets +onlyGivenNames v1
  have h1 : Kept q n v1 := by
    unfold v1
    exact State.thrTimers_kept h
  clear_value v1
  extract_lets +onlyGivenNames v2
  extract_lets +onlyGivenNames v3
  have h3 : Kept q n v3 := by
    unfold v3
    exact State.modTch_kept h1
  clear_value v3
  extract_lets +onlyGivenNames v4
  have h4 : Kept q n v4 := by
    unfold v4
    refine kept_foldl h3 ?_
    intro x5 x6 h7
    exact State.thrDetect_kept h7
  clear_value v4
  extract_lets +onlyGivenNames v8
  have h8 : Kept q n v8 := by
    unfold v8
    exact State.modTch_kept h4
  clear_value v8
  exact State.thrDegradedBack_kept (State.thrReadyBack_kept h8)

theorem State.thrDisable_kept {s a1} (h : Kept q n s) :
    Kept q n (State.thrDisable s a1) := by
  unfold State.thrDisable
  extract_lets +onlyGivenNames v1
  refine kept_ite ?_ ?_
  · exact h
  · extract_lets +onlyGivenNames v2
    extract_lets +onlyGivenNames v3
    have h3 : Kept q n v3 := by
      unfold v3
      refine kept_ite ?_ ?_
      · exact State.cancelBox_kept h
      · exact h
    clear_value v3
    exact State.modTch_kept h3

theorem State.thrDisabled_kept {s a1} (h : Kept q n s) :
    Kept q n (State.thrDisabled s a1) := by
  unfold State.thrDisabled
  extract_lets +onlyGivenNames v1
  exact State.disableRec_kept (State.modTch_kept h)

theorem State.thrEnable_kept {s a1} (h : Kept q n s) :
    Kept q n (State.thrEnable s a1) := by
  unfold State.thrEnable
  extract_lets +onlyGivenNames v1
  refine kept_ite ?_ ?_
  · exact h
  · extract_lets +onlyGivenNames v2
    have h2 : Kept q n v2 := by
      unfold v2
      exact State.modTch_kept h
    clear_value v2
    extract_lets +onlyGivenNames v3
    refine kept_ite ?_ ?_
    · exact State.thrZero_kept (State.thrFailed_kept h2)
    · extract_lets +onlyGivenNames v4
      have h4 : Kept q n v4 := by
        unfold v4
        exact State.thrInService_kept h2
      clear_value v4
      extract_lets +onlyGivenNames v5
      have h5 : Kept q n v5 := by
        unfold v5
        refine kept_ite ?_ ?_
        · exact State.thrFault_kept h4
        · exact h4
      clear_value v5
      refine kept_foldl h5 ?_
      intro x6 x7 h8
      refine kept_ite ?_ ?_
      · exact State.thrFault_kept h8
      · exact h8

theorem State.thrRequest_kept {s a1} (h : Kept q n s) :
    Kept q n (State.thrRequest s a1) := by
  unfold State.thrRequest
  split
  next y1 y2 =>
    exact h
  next y3 y4 y5 =>
    refine kept_ite ?_ ?_
    · exact h
    · extract_lets +onlyGivenNames v6
      have h6 : Kept q n v6 := by
        unfold v6
        exact State.modTch_kept h
      clear_value v6
      refine kept_ite ?_ ?_
      · exact State.thrEnable_kept h6
      · exact State.thrDisable_kept h6

theorem State.thrHandOver_kept {s a1} (h : Kept q n s) :
    Kept q n (State.thrHandOver s a1) := by
  unfold State.thrHandOver
  extract_lets +onlyGivenNames v1
  extract_lets +onlyGivenNames v2
  refine kept_ite ?_ ?_
  · exact h
  · refine kept_ite ?_ ?_
    · exact State.modTch_kept h
    · refine kept_ite ?_ ?_
      · exact State.modTch_kept h
      · exact State.modTch_kept h

theorem State.thrRamp_kept {s a1} (h : Kept q n s) :
    Kept q n (State.thrRamp s a1) := by
  unfold State.thrRamp
  extract_lets +onlyGivenNames v1
  extract_lets +onlyGivenNames v2
  extract_lets +onlyGivenNames v3
  extract_lets +onlyGivenNames v4
  extract_lets +onlyGivenNames v5
  exact State.modTch_kept h

theorem State.thrGate_kept {s a1} (h : Kept q n s) :
    Kept q n (State.thrGate s a1) := by
  unfold State.thrGate
  extract_lets +onlyGivenNames v1
  extract_lets +onlyGivenNames v2
  extract_lets +onlyGivenNames v3
  extract_lets +onlyGivenNames v4
  extract_lets +onlyGivenNames v5
  exact State.modTch_kept h

theorem State.setAo_kept {s a1 a2} (h : Kept q n s) :
    Kept q n (State.setAo s a1 a2) := by
  unfold State.setAo
  refine kept_ite ?_ ?_
  · exact h
  · exact kept_upd h (fun e => by simpa [State.sizes, unitSizes] using e)

theorem State.thrOutputs_kept {s a1} (h : Kept q n s) :
    Kept q n (State.thrOutputs s a1) := by
  unfold State.thrOutputs
  refine kept_ite ?_ ?_
  · exact h
  · refine kept_foldl h ?_
    intro x1 x2 h3
    exact State.setAo_kept h3

theorem State.thrReadback_kept {s a1 a2} (h : Kept q n s) :
    Kept q n (State.thrReadback s a1 a2) := by
  unfold State.thrReadback
  extract_lets +onlyGivenNames v1
  extract_lets +onlyGivenNames v2
  extract_lets +onlyGivenNames v3
  extract_lets +onlyGivenNames v4
  have h4 : Kept q n v4 := by
    unfold v4
    refine kept_ite ?_ ?_
    · exact kept_upd h same
    · exact h
  clear_value v4
  exact State.modTch_kept h4

theorem State.thrInterim_kept {s a1} (h : Kept q n s) :
    Kept q n (State.thrInterim s a1) := by
  unfold State.thrInterim
  extract_lets +onlyGivenNames v1
  extract_lets +onlyGivenNames v2
  extract_lets +onlyGivenNames v3
  refine kept_ite ?_ ?_
  · exact State.placeInterim_kept (State.modTch_kept h)
  · exact h

theorem State.thrShaft_kept {s a1} (h : Kept q n s) :
    Kept q n (State.thrShaft s a1) := by
  unfold State.thrShaft
  extract_lets +onlyGivenNames v1
  extract_lets +onlyGivenNames v2
  clear_value v2
  split
  next y3 y4 =>
    exact h
  next y5 y6 y7 =>
    refine kept_ite ?_ ?_
    · exact h
    · extract_lets +onlyGivenNames v8
      exact State.modTch_kept h

theorem State.thrSample_kept {s a1 a2} (h : Kept q n s) :
    Kept q n (State.thrSample s a1 a2) := by
  unfold State.thrSample
  extract_lets +onlyGivenNames v1
  extract_lets +onlyGivenNames v2
  have h2 : Kept q n v2 := by
    unfold v2
    refine kept_foldl h ?_
    intro x3 x4 h5
    extract_lets +onlyGivenNames v6
    refine kept_ite ?_ ?_
    · exact h5
    · exact kept_upd h5 (fun e => by simpa [State.sizes, unitSizes] using e)
  clear_value v2
  extract_lets +onlyGivenNames v7
  extract_lets +onlyGivenNames v8
  have h8 : Kept q n v8 := by
    unfold v8
    split
    next y9 y10 y11 =>
      refine kept_ite ?_ ?_
      · exact h2
      · extract_lets +onlyGivenNames v12
        exact State.modTch_kept h2
    next y13 y14 =>
      exact h2
  clear_value v8
  extract_lets +onlyGivenNames v15
  have h15 : Kept q n v15 := by
    unfold v15
    split
    next y16 y17 y18 =>
      refine kept_ite ?_ ?_
      · exact h8
      · extract_lets +onlyGivenNames v19
        exact State.modTch_kept h8
    next y20 y21 =>
      exact h8
  clear_value v15
  extract_lets +onlyGivenNames v22
  have h22 : Kept q n v22 := by
    unfold v22
    exact State.thrShaft_kept h15
  clear_value v22
  extract_lets +onlyGivenNames v23
  have h23 : Kept q n v23 := by
    unfold v23
    split
    next y24 y25 y26 =>
      exact State.modTch_kept h22
    next y27 y28 =>
      exact h22
  clear_value v23
  extract_lets +onlyGivenNames v29
  have h29 : Kept q n v29 := by
    unfold v29
    split
    next y30 y31 y32 =>
      exact State.modTch_kept h23
    next y33 y34 =>
      exact h23
  clear_value v29
  extract_lets +onlyGivenNames v35
  have h35 : Kept q n v35 := by
    unfold v35
    split
    next y36 y37 y38 =>
      exact State.modTch_kept h29
    next y39 y40 =>
      exact h29
  clear_value v35
  split
  next y41 y42 =>
    exact State.modTch_kept h35
  next y43 y44 y45 y46 =>
    exact State.modTch_kept h35

theorem State.thrSlice_kept {s a1 a2} (h : Kept q n s) :
    Kept q n (State.thrSlice s a1 a2) := by
  unfold State.thrSlice
  extract_lets +onlyGivenNames v1
  have h1 : Kept q n v1 := by
    unfold v1
    exact State.thrSupervise_kept (State.thrSample_kept h)
  clear_value v1
  extract_lets +onlyGivenNames v2
  have h2 : Kept q n v2 := by
    unfold v2
    exact State.thrRamp_kept (State.thrHandOver_kept (State.thrRequest_kept h1))
  clear_value v2
  extract_lets +onlyGivenNames v3
  have h3 : Kept q n v3 := by
    unfold v3
    exact State.thrGate_kept h2
  clear_value v3
  extract_lets +onlyGivenNames v4
  have h4 : Kept q n v4 := by
    unfold v4
    refine kept_ite ?_ ?_
    · exact State.thrDisabled_kept h3
    · exact h3
  clear_value v4
  extract_lets +onlyGivenNames v5
  have h5 : Kept q n v5 := by
    unfold v5
    exact State.thrReadback_kept (State.thrOutputs_kept h4)
  clear_value v5
  exact State.fioFollow_kept (State.thrInterim_kept h5)

theorem State.commitFrame_kept {s a1 a2} (h : Kept q n s) :
    Kept q n (State.commitFrame s a1 a2) := by
  unfold State.commitFrame
  extract_lets +onlyGivenNames v1
  refine kept_ite ?_ ?_
  · exact h
  · refine kept_ite ?_ ?_
    · refine kept_ite ?_ ?_
      · exact h
      · exact State.placeTimed_kept h
    · extract_lets +onlyGivenNames v2
      have h2 : Kept q n v2 := by
        unfold v2
        refine kept_ite ?_ ?_
        · exact State.cancelBox_kept h
        · exact h
      clear_value v2
      extract_lets +onlyGivenNames v3
      have h3 : Kept q n v3 := by
        unfold v3
        exact State.placeTimed_kept h2
      clear_value v3
      refine kept_ite ?_ ?_
      · exact State.placeTimed_kept h3
      · exact h3

theorem State.thrCommit_kept {s} (h : Kept q n s) :
    Kept q n (State.thrCommit s) := by
  unfold State.thrCommit
  extract_lets +onlyGivenNames v1
  have h1 : Kept q n v1 := by
    unfold v1
    exact h
  clear_value v1
  extract_lets +onlyGivenNames v2
  extract_lets +onlyGivenNames v3
  have h3 : Kept q n v3 := by
    unfold v3
    exact kept_upd h (fun e => by simpa [State.sizes, unitSizes] using e)
  clear_value v3
  refine kept_foldl h3 ?_
  intro x4 x5 h6
  exact State.commitFrame_kept h6

theorem State.thrAuth_kept {s a1 a2} (h : Kept q n s) :
    Kept q n (State.thrAuth s a1 a2) := by
  unfold State.thrAuth
  refine kept_ite ?_ ?_
  · exact h
  · extract_lets +onlyGivenNames v1
    extract_lets +onlyGivenNames v2
    have h2 : Kept q n v2 := by
      unfold v2
      exact kept_upd h (fun e => by simpa [State.sizes, unitSizes] using e)
    clear_value v2
    refine kept_ite ?_ ?_
    · exact State.fioFollow_kept h2
    · extract_lets +onlyGivenNames v3
      have h3 : Kept q n v3 := by
        unfold v3
        refine kept_foldl h2 ?_
        intro x4 x5 h6
        extract_lets +onlyGivenNames v7
        refine kept_ite ?_ ?_
        · exact h6
        · exact State.cancelBox_kept (State.cancelBox_kept h6)
      clear_value v3
      extract_lets +onlyGivenNames v8
      have h8 : Kept q n v8 := by
        unfold v8
        refine kept_ite ?_ ?_
        · exact h3
        · refine kept_foldl h3 ?_
          intro x9 x10 h11
          exact State.thrOutputs_kept h11
      clear_value v8
      exact State.fioAuthLost_kept h8

theorem State.thrHoldEnd_kept {s} (h : Kept q n s) :
    Kept q n (State.thrHoldEnd s) := by
  unfold State.thrHoldEnd
  refine kept_foldl (kept_upd h same) ?_
  intro x1 x2 h3
  exact State.thrOutputs_kept h3

theorem State.thrUp_kept {s} (h : Kept q n s) :
    Kept q n (State.thrUp s) := by
  unfold State.thrUp
  exact kept_upd h (fun e => by simp [State.sizes, unitSizes] at e ⊢; simp [e])

theorem State.thrConfig_kept {s} (h : Kept q n s) :
    Kept q n (State.thrConfig s) := by
  unfold State.thrConfig
  refine kept_foldl h ?_
  intro x1 x2 h3
  extract_lets +onlyGivenNames v4
  refine kept_ite ?_ ?_
  · exact h3
  · exact State.modTch_kept h3

theorem State.thrFence_kept {s} (h : Kept q n s) :
    Kept q n (State.thrFence s) := by
  unfold State.thrFence
  refine kept_foldl h ?_
  intro x1 x2 h3
  refine kept_ite ?_ ?_
  · extract_lets +onlyGivenNames v4
    exact State.modTch_kept h3
  · exact h3

theorem State.thrPublish_kept {s a1} (h : Kept q n s) :
    Kept q n (State.thrPublish s a1) := by
  unfold State.thrPublish
  refine kept_foldl h ?_
  intro x1 x2 h3
  extract_lets +onlyGivenNames v4
  extract_lets +onlyGivenNames v5
  refine kept_ite ?_ ?_
  · extract_lets +onlyGivenNames v6
    exact State.publish_kept (State.devPoint_kept h3)
  · extract_lets +onlyGivenNames v7
    extract_lets +onlyGivenNames v8
    extract_lets +onlyGivenNames v9
    extract_lets +onlyGivenNames v10
    extract_lets +onlyGivenNames v11
    exact State.publish_kept (State.publish_kept (State.publish_kept (State.publish_kept (State.publish_kept h3))))

end Sys2Proof.Machine
end

