-- ==== Sys2Proof/Laws/KeptAlcOps.lean ====
section
/-!
SUPPORT. What every run keeps, through the operations and meanings of Machine/AlcOps.lean: one lemma for each.
-/
namespace Sys2Proof.Machine
variable {q : List Instr} {n : Nat}

theorem State.modAch_kept {s a1 a2} (h : Kept q n s) :
    Kept q n (State.modAch s a1 a2) := by
  unfold State.modAch
  exact kept_upd h (fun e => by simpa [State.sizes, unitSizes] using e)

theorem State.modSect_kept {s a1 a2} (h : Kept q n s) :
    Kept q n (State.modSect s a1 a2) := by
  unfold State.modSect
  exact kept_upd h (fun e => by simpa [State.sizes, unitSizes] using e)

theorem State.bermStep_kept {s} (h : Kept q n s) :
    Kept q n (State.bermStep s) := by
  unfold State.bermStep
  refine kept_ite ?_ ?_
  · exact kept_upd h (fun e => by simpa [State.sizes, unitSizes] using e)
  · extract_lets +onlyGivenNames v1
    extract_lets +onlyGivenNames v2
    have h2 : Kept q n v2 := by
      unfold v2
      exact kept_upd h same
    clear_value v2
    refine kept_foldl h2 ?_
    intro x3 x4 h5
    extract_lets +onlyGivenNames v6
    refine kept_ite ?_ ?_
    · exact State.modAch_kept h5
    · extract_lets +onlyGivenNames v7
      extract_lets +onlyGivenNames v8
      extract_lets +onlyGivenNames v9
      extract_lets +onlyGivenNames v10
      extract_lets +onlyGivenNames v11
      have h11 : Kept q n v11 := by
        unfold v11
        exact State.modAch_kept h5
      clear_value v11
      refine kept_ite ?_ ?_
      · exact kept_upd h11 same
      · exact h11

theorem State.envelope_kept {s a1} (h : Kept q n s) :
    Kept q n (State.envelope s a1) := by
  unfold State.envelope
  exact State.modSect_kept h

theorem State.tieStep_kept {s} (h : Kept q n s) :
    Kept q n (State.tieStep s) := by
  unfold State.tieStep
  refine kept_foldl h ?_
  intro x1 x2 h3
  extract_lets +onlyGivenNames v4
  extract_lets +onlyGivenNames v5
  extract_lets +onlyGivenNames v6
  extract_lets +onlyGivenNames v7
  have h7 : Kept q n v7 := by
    unfold v7
    refine kept_ite ?_ ?_
    · exact State.modSect_kept (State.modSect_kept h3)
    · exact h3
  clear_value v7
  clear_value v5
  clear_value v4
  split
  next y8 y9 y10 y11 =>
    exact State.alarmIf_kept h7
  next y12 y13 y14 =>
    exact h7

theorem State.sectStale_kept {s a1} (h : Kept q n s) :
    Kept q n (State.sectStale s a1) := by
  unfold State.sectStale
  extract_lets +onlyGivenNames v1
  refine kept_ite ?_ ?_
  · exact h
  · extract_lets +onlyGivenNames v2
    have h2 : Kept q n v2 := by
      unfold v2
      exact State.envelope_kept (State.modSect_kept h)
    clear_value v2
    exact State.raiseAlarm_kept h2

theorem State.sectFence_kept {s a1} (h : Kept q n s) :
    Kept q n (State.sectFence s a1) := by
  unfold State.sectFence
  extract_lets +onlyGivenNames v1
  have h1 : Kept q n v1 := by
    unfold v1
    exact State.envelope_kept h
  clear_value v1
  refine kept_ite ?_ ?_
  · exact h1
  · exact State.sectStale_kept h1

theorem State.learnChan_kept {s a1} (h : Kept q n s) :
    Kept q n (State.learnChan s a1) := by
  unfold State.learnChan
  extract_lets +onlyGivenNames v1
  extract_lets +onlyGivenNames v2
  extract_lets +onlyGivenNames v3
  extract_lets +onlyGivenNames v4
  extract_lets +onlyGivenNames v5
  have h5 : Kept q n v5 := by
    unfold v5
    clear_value v1
    split
    next y6 y7 =>
      exact h
    next y8 y9 y10 =>
      refine kept_ite ?_ ?_
      · exact h
      · extract_lets +onlyGivenNames v11
        extract_lets +onlyGivenNames v12
        extract_lets +onlyGivenNames v13
        extract_lets +onlyGivenNames v14
        exact State.modAch_kept h
  clear_value v5
  extract_lets +onlyGivenNames v15
  extract_lets +onlyGivenNames v16
  extract_lets +onlyGivenNames v17
  have h17 : Kept q n v17 := by
    unfold v17
    refine kept_ite ?_ ?_
    · exact State.modAch_kept h5
    · exact h5
  clear_value v17
  extract_lets +onlyGivenNames v18
  extract_lets +onlyGivenNames v19
  exact State.alarmIf_kept h17

theorem State.alcFence_kept {s} (h : Kept q n s) :
    Kept q n (State.alcFence s) := by
  unfold State.alcFence
  extract_lets +onlyGivenNames v1
  have h1 : Kept q n v1 := by
    unfold v1
    refine kept_foldl h ?_
    intro x2 x3 h4
    exact State.modAch_kept h4
  clear_value v1
  extract_lets +onlyGivenNames v5
  have h5 : Kept q n v5 := by
    unfold v5
    refine kept_foldl h1 ?_
    intro x6 x7 h8
    exact State.modAch_kept h8
  clear_value v5
  extract_lets +onlyGivenNames v9
  extract_lets +onlyGivenNames v10
  have h10 : Kept q n v10 := by
    unfold v10
    exact kept_upd h5 same
  clear_value v10
  extract_lets +onlyGivenNames v11
  have h11 : Kept q n v11 := by
    unfold v11
    refine kept_foldl h10 ?_
    intro x12 x13 h14
    refine kept_ite ?_ ?_
    · exact State.learnChan_kept h14
    · exact h14
  clear_value v11
  extract_lets +onlyGivenNames v15
  have h15 : Kept q n v15 := by
    unfold v15
    refine kept_foldl h11 ?_
    intro x16 x17 h18
    exact State.modAch_kept h18
  clear_value v15
  refine State.tieStep_kept ?_
  refine kept_foldl h15 ?_
  intro x19 x20 h21
  exact State.sectFence_kept h21

theorem State.alcNotPosed_kept {s} (h : Kept q n s) :
    Kept q n (State.alcNotPosed s) := by
  unfold State.alcNotPosed
  extract_lets +onlyGivenNames v1
  extract_lets +onlyGivenNames v2
  have h2 : Kept q n v2 := by
    unfold v2
    exact kept_upd h (fun e => by simpa [State.sizes, unitSizes] using e)
  clear_value v2
  exact State.clearAlarm_kept (State.clearAlarm_kept h2)

theorem State.sectStep_kept {s a1} (h : Kept q n s) :
    Kept q n (State.sectStep s a1) := by
  unfold State.sectStep
  extract_lets +onlyGivenNames v1
  have h1 : Kept q n v1 := by
    unfold v1
    refine kept_foldl h ?_
    intro x2 x3 h4
    exact State.modSect_kept h4
  clear_value v1
  refine kept_foldl h1 ?_
  intro x5 x6 h7
  extract_lets +onlyGivenNames v8
  exact State.modSect_kept h7

theorem State.useStep_kept {s a1 a2} (h : Kept q n s) :
    Kept q n (State.useStep s a1 a2) := by
  unfold State.useStep
  refine kept_ite ?_ ?_
  · extract_lets +onlyGivenNames v1
    extract_lets +onlyGivenNames v2
    extract_lets +onlyGivenNames v3
    have h3 : Kept q n v3 := by
      unfold v3
      exact kept_upd h same
    refine kept_ite ?_ ?_
    · exact State.clearAlarm_kept (State.clearAlarm_kept h3)
    · exact h3
  · exact State.raiseAlarm_kept (kept_upd h same)

theorem State.alcCompose_kept {s} (h : Kept q n s) :
    Kept q n (State.alcCompose s) := by
  unfold State.alcCompose
  split
  next y1 y2 =>
    exact h
  next y3 y4 y5 =>
    refine kept_ite ?_ ?_
    · exact h
    · extract_lets +onlyGivenNames v6
      extract_lets +onlyGivenNames v7
      extract_lets +onlyGivenNames v8
      extract_lets +onlyGivenNames v9
      extract_lets +onlyGivenNames v10
      extract_lets +onlyGivenNames v11
      extract_lets +onlyGivenNames v12
      have h12 : Kept q n v12 := by
        unfold v12
        refine kept_foldl h ?_
        intro x13 x14 h15
        exact State.modAch_kept h15
      clear_value v12
      extract_lets +onlyGivenNames v16
      have h16 : Kept q n v16 := by
        unfold v16
        exact State.useStep_kept h12
      clear_value v16
      extract_lets +onlyGivenNames v17
      have h17 : Kept q n v17 := by
        unfold v17
        exact State.sectStep_kept h16
      clear_value v17
      extract_lets +onlyGivenNames v18
      exact kept_upd h17 same

theorem State.alcTake_kept {s a1} (h : Kept q n s) :
    Kept q n (State.alcTake s a1) := by
  unfold State.alcTake
  extract_lets +onlyGivenNames v1
  exact State.modAch_kept h

theorem State.alcDrop_kept {s} (h : Kept q n s) :
    Kept q n (State.alcDrop s) := by
  unfold State.alcDrop
  refine kept_foldl h ?_
  intro x1 x2 h3
  refine kept_ite ?_ ?_
  · exact h3
  · exact State.modAch_kept h3

theorem State.learnSave_kept {s} (h : Kept q n s) :
    Kept q n (State.learnSave s) := by
  unfold State.learnSave
  exact kept_upd h same

theorem State.learnTake_kept {s a1} (h : Kept q n s) :
    Kept q n (State.learnTake s a1) := by
  unfold State.learnTake
  refine kept_foldl h ?_
  intro x1 x2 h3
  exact State.modAch_kept h3

theorem State.learnRestore_kept {s} (h : Kept q n s) :
    Kept q n (State.learnRestore s) := by
  unfold State.learnRestore
  refine kept_ite ?_ ?_
  · exact State.event_kept h
  · exact State.learnTake_kept h

end Sys2Proof.Machine
end

