-- ==== Sys2Proof/Laws/KeptThr.lean ====
section
/-!
SUPPORT. What every run keeps, through the operations and meanings of Machine/Thr.lean: one lemma for each.
-/
namespace Sys2Proof.Machine
variable {q : List Instr} {n : Nat}

theorem execSequencerSlice_kept {t a1 a2 s} (h : Kept q n s) :
    KeptR q (max n t) (execSequencerSlice t a1 a2 s) := by
  unfold execSequencerSlice
  extract_lets +onlyGivenNames v1
  have h1 : Kept q (max n t) v1 := by
    unfold v1
    exact State.arrive_kept h
  clear_value v1
  refine keptR_guard ?_
  refine kept_ite ?_ ?_
  · exact State.thrSlice_kept h1
  · exact h1

theorem State.thrSeal_kept {s a1} (h : Kept q n s) :
    Kept q n (State.thrSeal s a1) := by
  unfold State.thrSeal
  refine kept_ite ?_ ?_
  · exact h
  · extract_lets +onlyGivenNames v1
    extract_lets +onlyGivenNames v2
    have h2 : Kept q n v2 := by
      unfold v2
      exact State.modTch_kept h
    clear_value v2
    refine kept_ite ?_ ?_
    · exact State.placeTimed_kept h2
    · exact h2

theorem execThrSealWrite_kept {t a1 s} (h : Kept q n s) :
    KeptR q (max n t) (execThrSealWrite t a1 s) := by
  unfold execThrSealWrite
  extract_lets +onlyGivenNames v1
  have h1 : Kept q (max n t) v1 := by
    unfold v1
    exact State.arrive_kept h
  clear_value v1
  refine keptR_guard ?_
  refine kept_ite ?_ ?_
  · exact State.thrSeal_kept h1
  · exact h1

theorem State.thrShadow_kept {s a1 a2 a3} (h : Kept q n s) :
    Kept q n (State.thrShadow s a1 a2 a3) := by
  unfold State.thrShadow
  refine kept_ite ?_ ?_
  · exact State.modTch_kept h
  · split
    next y1 =>
      exact State.modTch_kept h
    next y2 =>
      exact State.modTch_kept h
    next y3 =>
      exact State.modTch_kept h
    next y4 y5 y6 y7 =>
      exact h

theorem execThrShadowWrite_kept {t a1 a2 a3 s} (h : Kept q n s) :
    KeptR q (max n t) (execThrShadowWrite t a1 a2 a3 s) := by
  unfold execThrShadowWrite
  extract_lets +onlyGivenNames v1
  have h1 : Kept q (max n t) v1 := by
    unfold v1
    exact State.arrive_kept h
  clear_value v1
  refine keptR_guard ?_
  refine kept_ite ?_ ?_
  · exact State.thrShadow_kept h1
  · exact h1

theorem State.thrWithdraw_kept {s a1} (h : Kept q n s) :
    Kept q n (State.thrWithdraw s a1) := by
  unfold State.thrWithdraw
  extract_lets +onlyGivenNames v1
  refine kept_ite ?_ ?_
  · extract_lets +onlyGivenNames v2
    have h2 : Kept q n v2 := by
      unfold v2
      refine kept_ite ?_ ?_
      · exact h
      · exact State.cancelBox_kept h
    clear_value v2
    exact State.modTch_kept h2
  · refine kept_ite ?_ ?_
    · exact State.modTch_kept h
    · exact h

theorem execThrWithdraw_kept {t a1 s} (h : Kept q n s) :
    KeptR q (max n t) (execThrWithdraw t a1 s) := by
  unfold execThrWithdraw
  extract_lets +onlyGivenNames v1
  have h1 : Kept q (max n t) v1 := by
    unfold v1
    exact State.arrive_kept h
  clear_value v1
  refine keptR_guard ?_
  refine kept_ite ?_ ?_
  · exact State.thrWithdraw_kept h1
  · exact h1

theorem execThrCtrlClear_kept {t a1 s} (h : Kept q n s) :
    KeptR q (max n t) (execThrCtrlClear t a1 s) := by
  unfold execThrCtrlClear
  extract_lets +onlyGivenNames v1
  have h1 : Kept q (max n t) v1 := by
    unfold v1
    exact State.arrive_kept h
  clear_value v1
  refine keptR_guard ?_
  refine kept_ite ?_ ?_
  · exact State.thrClear_kept h1
  · exact h1

theorem execThrCtrlEnWrite_kept {t a1 a2 s} (h : Kept q n s) :
    KeptR q (max n t) (execThrCtrlEnWrite t a1 a2 s) := by
  unfold execThrCtrlEnWrite
  extract_lets +onlyGivenNames v1
  have h1 : Kept q (max n t) v1 := by
    unfold v1
    exact State.arrive_kept h
  clear_value v1
  refine keptR_guard ?_
  refine kept_ite ?_ ?_
  · exact State.modTch_kept h1
  · exact h1

theorem execThrAuthWrite_kept {t a1 s} (h : Kept q n s) :
    KeptR q (max n t) (execThrAuthWrite t a1 s) := by
  unfold execThrAuthWrite
  extract_lets +onlyGivenNames v1
  have h1 : Kept q (max n t) v1 := by
    unfold v1
    exact State.arrive_kept h
  clear_value v1
  refine keptR_next ?_
  refine kept_ite ?_ ?_
  · exact State.thrAuth_kept h1
  · exact h1

theorem execThrAoHoldExpiry_kept {t s} (h : Kept q n s) :
    KeptR q (max n t) (execThrAoHoldExpiry t s) := by
  unfold execThrAoHoldExpiry
  extract_lets +onlyGivenNames v1
  have h1 : Kept q (max n t) v1 := by
    unfold v1
    exact State.arrive_kept h
  clear_value v1
  split
  next y2 y3 =>
    refine keptR_next ?_
    exact h1
  next y4 y5 y6 =>
    refine keptR_next ?_
    refine kept_ite ?_ ?_
    · exact h1
    · exact State.thrHoldEnd_kept h1

theorem State.fbBad_kept {s a1} (h : Kept q n s) :
    Kept q n (State.fbBad s a1) := by
  unfold State.fbBad
  exact State.modTch_kept h

theorem State.feedback_kept {s a1 a2 a3} (h : Kept q n s) :
    Kept q n (State.feedback s a1 a2 a3) := by
  unfold State.feedback
  extract_lets +onlyGivenNames v1
  extract_lets +onlyGivenNames v2
  extract_lets +onlyGivenNames v3
  exact State.modTch_kept h

theorem execThrFeedbackFrame_kept {t a1 a2 a3 s} (h : Kept q n s) :
    KeptR q (max n t) (execThrFeedbackFrame t a1 a2 a3 s) := by
  unfold execThrFeedbackFrame
  extract_lets +onlyGivenNames v1
  have h1 : Kept q (max n t) v1 := by
    unfold v1
    exact State.arrive_kept h
  clear_value v1
  refine keptR_guard ?_
  split
  next y2 y3 =>
    exact h1
  next y4 y5 y6 =>
    refine kept_ite ?_ ?_
    · exact State.fbBad_kept h1
    · refine kept_ite ?_ ?_
      · exact h1
      · extract_lets +onlyGivenNames v7
        have h7 : Kept q (max n t) v7 := by
          unfold v7
          exact State.feedback_kept h1
        clear_value v7
        refine kept_ite ?_ ?_
        · exact State.abortChanTest_kept h7
        · exact h7

theorem State.feedback2_kept {s a1 a2 a3} (h : Kept q n s) :
    Kept q n (State.feedback2 s a1 a2 a3) := by
  unfold State.feedback2
  extract_lets +onlyGivenNames v1
  extract_lets +onlyGivenNames v2
  exact State.modTch_kept h

theorem execThrFeedback2Frame_kept {t a1 a2 a3 s} (h : Kept q n s) :
    KeptR q (max n t) (execThrFeedback2Frame t a1 a2 a3 s) := by
  unfold execThrFeedback2Frame
  extract_lets +onlyGivenNames v1
  have h1 : Kept q (max n t) v1 := by
    unfold v1
    exact State.arrive_kept h
  clear_value v1
  refine keptR_guard ?_
  split
  next y2 y3 =>
    exact h1
  next y4 y5 y6 =>
    refine kept_ite ?_ ?_
    · exact State.fbBad_kept h1
    · refine kept_ite ?_ ?_
      · exact h1
      · exact State.feedback2_kept h1

theorem State.thrTimed_kept {s a1 a2} (h : Kept q n s) :
    Kept q n (State.thrTimed s a1 a2) := by
  unfold State.thrTimed
  refine kept_ite ?_ ?_
  · exact State.thrDetect_kept h
  · exact h

theorem execThrFbTimeout_kept {t a1 s} (h : Kept q n s) :
    KeptR q (max n t) (execThrFbTimeout t a1 s) := by
  unfold execThrFbTimeout
  extract_lets +onlyGivenNames v1
  have h1 : Kept q (max n t) v1 := by
    unfold v1
    exact State.arrive_kept h
  clear_value v1
  refine keptR_guard ?_
  exact State.thrTimed_kept (State.thrTimed_kept h1)

theorem execThrAzFollowExpiry_kept {t a1 s} (h : Kept q n s) :
    KeptR q (max n t) (execThrAzFollowExpiry t a1 s) := by
  unfold execThrAzFollowExpiry
  extract_lets +onlyGivenNames v1
  have h1 : Kept q (max n t) v1 := by
    unfold v1
    exact State.arrive_kept h
  clear_value v1
  refine keptR_guard ?_
  exact State.thrTimed_kept h1

theorem execThrAzWrongDirExpiry_kept {t a1 s} (h : Kept q n s) :
    KeptR q (max n t) (execThrAzWrongDirExpiry t a1 s) := by
  unfold execThrAzWrongDirExpiry
  extract_lets +onlyGivenNames v1
  have h1 : Kept q (max n t) v1 := by
    unfold v1
    exact State.arrive_kept h
  clear_value v1
  refine keptR_guard ?_
  exact State.thrTimed_kept h1

theorem execThrRudderFollowExpiry_kept {t a1 s} (h : Kept q n s) :
    KeptR q (max n t) (execThrRudderFollowExpiry t a1 s) := by
  unfold execThrRudderFollowExpiry
  extract_lets +onlyGivenNames v1
  have h1 : Kept q (max n t) v1 := by
    unfold v1
    exact State.arrive_kept h
  clear_value v1
  refine keptR_guard ?_
  exact State.thrTimed_kept h1

theorem execThrTHighExpiry_kept {t a1 s} (h : Kept q n s) :
    KeptR q (max n t) (execThrTHighExpiry t a1 s) := by
  unfold execThrTHighExpiry
  extract_lets +onlyGivenNames v1
  have h1 : Kept q (max n t) v1 := by
    unfold v1
    exact State.arrive_kept h
  clear_value v1
  refine keptR_guard ?_
  exact State.thrTimed_kept h1

theorem execThrTDevExpiry_kept {t a1 s} (h : Kept q n s) :
    KeptR q (max n t) (execThrTDevExpiry t a1 s) := by
  unfold execThrTDevExpiry
  extract_lets +onlyGivenNames v1
  have h1 : Kept q (max n t) v1 := by
    unfold v1
    exact State.arrive_kept h
  clear_value v1
  refine keptR_guard ?_
  exact State.thrTimed_kept h1

theorem execThrAngDisagreeExpiry_kept {t a1 s} (h : Kept q n s) :
    KeptR q (max n t) (execThrAngDisagreeExpiry t a1 s) := by
  unfold execThrAngDisagreeExpiry
  extract_lets +onlyGivenNames v1
  have h1 : Kept q (max n t) v1 := by
    unfold v1
    exact State.arrive_kept h
  clear_value v1
  refine keptR_guard ?_
  exact State.thrTimed_kept h1

theorem execThrNotReadyRecovery_kept {t a1 s} (h : Kept q n s) :
    KeptR q (max n t) (execThrNotReadyRecovery t a1 s) := by
  unfold execThrNotReadyRecovery
  extract_lets +onlyGivenNames v1
  have h1 : Kept q (max n t) v1 := by
    unfold v1
    exact State.arrive_kept h
  clear_value v1
  refine keptR_guard ?_
  refine kept_ite ?_ ?_
  · exact State.thrReadyBack_kept h1
  · exact h1

theorem execThrDegradedRecovery_kept {t a1 s} (h : Kept q n s) :
    KeptR q (max n t) (execThrDegradedRecovery t a1 s) := by
  unfold execThrDegradedRecovery
  extract_lets +onlyGivenNames v1
  have h1 : Kept q (max n t) v1 := by
    unfold v1
    exact State.arrive_kept h
  clear_value v1
  refine keptR_guard ?_
  refine kept_ite ?_ ?_
  · exact State.thrDegradedBack_kept h1
  · exact h1

theorem opThrQuery_kept : KeptOp opThrQuery := by
  constructor
  · intro q n s a b p h
    unfold opThrQuery
    dsimp -zeta only
    extract_lets +onlyGivenNames v1
    exact h
  · intro q n s p h
    unfold opThrQuery
    dsimp -zeta only
    exact h

theorem opThrClear_kept : KeptOp opThrClear := by
  constructor
  · intro q n s a b p h
    unfold opThrClear
    dsimp -zeta only
    exact State.thrClear_kept h
  · intro q n s p h
    unfold opThrClear
    dsimp -zeta only
    exact h

theorem opThrEnable_kept : KeptOp opThrEnable := by
  constructor
  · intro q n s a b p h
    unfold opThrEnable
    dsimp -zeta only
    extract_lets +onlyGivenNames v1
    exact State.modTch_kept h
  · intro q n s p h
    unfold opThrEnable
    dsimp -zeta only
    exact h

end Sys2Proof.Machine
end

