-- ==== Sys2Proof/Laws/KeptAlc.lean ====
section
/-!
SUPPORT. What every run keeps, through the operations and meanings of Machine/Alc.lean: one lemma for each.
-/
namespace Sys2Proof.Machine
variable {q : List Instr} {n : Nat}

theorem execPowerEnvelopeMessage_kept {t a1 a2 a3 s} (h : Kept q n s) :
    KeptR q (max n t) (execPowerEnvelopeMessage t a1 a2 a3 s) := by
  unfold execPowerEnvelopeMessage
  extract_lets +onlyGivenNames v1
  have h1 : Kept q (max n t) v1 := by
    unfold v1
    exact State.arrive_kept h
  clear_value v1
  refine keptR_guard ?_
  extract_lets +onlyGivenNames v2
  refine kept_ite ?_ ?_
  · exact h1
  · clear_value v2
    split
    next y3 y4 =>
      exact h1
    next y5 y6 y7 =>
      extract_lets +onlyGivenNames v8
      extract_lets +onlyGivenNames v9
      extract_lets +onlyGivenNames v10
      refine kept_ite ?_ ?_
      · exact State.event_kept (State.modSect_kept h1)
      · refine kept_ite ?_ ?_
        · exact h1
        · extract_lets +onlyGivenNames v11
          exact State.modSect_kept h1

theorem execPwrSourceStale_kept {t a1 s} (h : Kept q n s) :
    KeptR q (max n t) (execPwrSourceStale t a1 s) := by
  unfold execPwrSourceStale
  extract_lets +onlyGivenNames v1
  have h1 : Kept q (max n t) v1 := by
    unfold v1
    exact State.arrive_kept h
  clear_value v1
  refine keptR_guard ?_
  exact State.sectStale_kept h1

theorem execPwrFreshCountReached_kept {t a1 s} (h : Kept q n s) :
    KeptR q (max n t) (execPwrFreshCountReached t a1 s) := by
  unfold execPwrFreshCountReached
  extract_lets +onlyGivenNames v1
  have h1 : Kept q (max n t) v1 := by
    unfold v1
    exact State.arrive_kept h
  clear_value v1
  refine keptR_guard ?_
  extract_lets +onlyGivenNames v2
  extract_lets +onlyGivenNames v3
  refine kept_ite ?_ ?_
  · exact State.clearAlarm_kept (State.envelope_kept (State.modSect_kept h1))
  · exact h1

theorem execPwrLimitCount_kept {t a1 s} (h : Kept q n s) :
    KeptR q (max n t) (execPwrLimitCount t a1 s) := by
  unfold execPwrLimitCount
  extract_lets +onlyGivenNames v1
  have h1 : Kept q (max n t) v1 := by
    unfold v1
    exact State.arrive_kept h
  clear_value v1
  refine keptR_guard ?_
  extract_lets +onlyGivenNames v2
  extract_lets +onlyGivenNames v3
  refine kept_ite ?_ ?_
  · exact State.raiseAlarm_kept h1
  · refine kept_ite ?_ ?_
    · exact State.clearAlarm_kept h1
    · exact h1

theorem execAlcRepeatLimitReached_kept {t s} (h : Kept q n s) :
    KeptR q (max n t) (execAlcRepeatLimitReached t s) := by
  unfold execAlcRepeatLimitReached
  extract_lets +onlyGivenNames v1
  have h1 : Kept q (max n t) v1 := by
    unfold v1
    exact State.arrive_kept h
  clear_value v1
  refine keptR_next ?_
  refine kept_ite ?_ ?_
  · exact State.raiseAlarm_kept h1
  · exact h1

theorem execAlcSatTimer_kept {t s} (h : Kept q n s) :
    KeptR q (max n t) (execAlcSatTimer t s) := by
  unfold execAlcSatTimer
  extract_lets +onlyGivenNames v1
  have h1 : Kept q (max n t) v1 := by
    unfold v1
    exact State.arrive_kept h
  clear_value v1
  extract_lets +onlyGivenNames v2
  refine keptR_next ?_
  refine kept_ite ?_ ?_
  · exact State.raiseAlarm_kept h1
  · refine kept_ite ?_ ?_
    · exact State.clearAlarm_kept h1
    · exact h1

theorem execLearnedModelSave_kept {t s} (h : Kept q n s) :
    KeptR q (max n t) (execLearnedModelSave t s) := by
  unfold execLearnedModelSave
  extract_lets +onlyGivenNames v1
  have h1 : Kept q (max n t) v1 := by
    unfold v1
    exact State.arrive_kept h
  clear_value v1
  refine keptR_next ?_
  refine kept_ite ?_ ?_
  · exact State.learnSave_kept h1
  · exact h1

theorem State.alcSeal_kept {s a1} (h : Kept q n s) :
    Kept q n (State.alcSeal s a1) := by
  unfold State.alcSeal
  refine kept_ite ?_ ?_
  · exact h
  · extract_lets +onlyGivenNames v1
    have h1 : Kept q n v1 := by
      unfold v1
      exact State.alcTake_kept h
    clear_value v1
    extract_lets +onlyGivenNames v2
    extract_lets +onlyGivenNames v3
    have h3 : Kept q n v3 := by
      unfold v3
      refine kept_ite ?_ ?_
      · exact State.thrSeal_kept (State.modTch_kept h1)
      · exact h1
    clear_value v3
    exact kept_upd h3 same

theorem execAllocationCompose_kept {t a1 s} (h : Kept q n s) :
    KeptR q (max n t) (execAllocationCompose t a1 s) := by
  unfold execAllocationCompose
  extract_lets +onlyGivenNames v1
  have h1 : Kept q (max n t) v1 := by
    unfold v1
    exact State.arrive_kept h
  clear_value v1
  refine keptR_next ?_
  refine kept_ite ?_ ?_
  · refine kept_foldl (State.alcCompose_kept h1) ?_
    intro x2 x3 h4
    exact State.alcSeal_kept h4
  · exact h1

theorem opAlcSelect_kept : KeptOp opAlcSelect := by
  constructor
  · intro q n s a b p h
    unfold opAlcSelect
    dsimp -zeta only
    exact kept_upd h same
  · intro q n s p h
    unfold opAlcSelect
    dsimp -zeta only
    exact h

theorem opAlcSetBerm_kept : KeptOp opAlcSetBerm := by
  constructor
  · intro q n s a b p h
    unfold opAlcSetBerm
    dsimp -zeta only
    exact kept_upd h same
  · intro q n s p h
    unfold opAlcSetBerm
    dsimp -zeta only
    exact h

theorem opAlcQuery_kept : KeptOp opAlcQuery := by
  constructor
  · intro q n s a b p h
    unfold opAlcQuery
    dsimp -zeta only
    extract_lets +onlyGivenNames v1
    exact h
  · intro q n s p h
    unfold opAlcQuery
    dsimp -zeta only
    exact h

theorem opAlcLearnReset_kept : KeptOp opAlcLearnReset := by
  constructor
  · intro q n s a b p h
    unfold opAlcLearnReset
    dsimp -zeta only
    exact kept_upd h same
  · intro q n s p h
    unfold opAlcLearnReset
    dsimp -zeta only
    exact h

end Sys2Proof.Machine
end

