-- ==== Sys2Proof/Laws/KeptBus.lean ====
section
/-!
SUPPORT. What every run keeps, through the operations and meanings of Machine/Bus.lean: one lemma for each.
-/
namespace Sys2Proof.Machine
variable {q : List Instr} {n : Nat}

theorem State.badWrite_kept {s a1 a2 a3 a4} (h : Kept q n s) :
    Kept q n (State.badWrite s a1 a2 a3 a4) := by
  unfold State.badWrite
  split
  next y1 y2 y3 y4 =>
    have h5 : Kept q n y3 := kept_snd y4 (State.freeW_kept h)
    exact State.producerWrite_kept h5

theorem State.numWrite_kept {s a1 a2 a3 a4} (h : Kept q n s) :
    Kept q n (State.numWrite s a1 a2 a3 a4) := by
  unfold State.numWrite
  split
  next y1 y2 y3 y4 =>
    extract_lets +onlyGivenNames v5
    refine kept_ite ?_ ?_
    · exact State.producerWrite_kept h
    · exact State.badWrite_kept h

theorem State.mapFail_kept {s a1} (h : Kept q n s) :
    Kept q n (State.mapFail s a1) := by
  unfold State.mapFail
  exact State.modPort_kept h

theorem State.mapEntry_kept {s a1 a2 a3 a4 a5} (h : Kept q n s) :
    Kept q n (State.mapEntry s a1 a2 a3 a4 a5) := by
  unfold State.mapEntry
  extract_lets +onlyGivenNames v1
  extract_lets +onlyGivenNames v2
  extract_lets +onlyGivenNames v3
  extract_lets +onlyGivenNames v4
  extract_lets +onlyGivenNames v5
  refine kept_ite ?_ ?_
  · exact h
  · refine kept_ite ?_ ?_
    · exact State.mapFail_kept h
    · extract_lets +onlyGivenNames v6
      extract_lets +onlyGivenNames v7
      extract_lets +onlyGivenNames v8
      refine kept_ite ?_ ?_
      · exact State.mapFail_kept h
      · extract_lets +onlyGivenNames v9
        extract_lets +onlyGivenNames v10
        have h10 : Kept q n v10 := by
          unfold v10
          refine kept_ite ?_ ?_
          · exact kept_upd h same
          · exact h
        clear_value v10
        extract_lets +onlyGivenNames v11
        clear_value v3
        clear_value v2
        clear_value v1
        split
        next y12 y13 =>
          exact State.badWrite_kept h10
        next y14 y15 y16 =>
          exact State.numWrite_kept h10

theorem State.discover_kept {s a1 a2} (h : Kept q n s) :
    Kept q n (State.discover s a1 a2) := by
  unfold State.discover
  extract_lets +onlyGivenNames v1
  clear_value v1
  split
  next y2 y3 y4 =>
    exact State.modPort_kept h
  next y5 y6 =>
    refine kept_ite ?_ ?_
    · exact State.modPort_kept h
    · refine kept_ite ?_ ?_
      · exact h
      · exact State.event_kept (State.modPort_kept h)

theorem State.canMaps_kept {s a1 a2 a3} (h : Kept q n s) :
    Kept q n (State.canMaps s a1 a2 a3) := by
  unfold State.canMaps
  extract_lets +onlyGivenNames v1
  extract_lets +onlyGivenNames v2
  extract_lets +onlyGivenNames v3
  refine kept_ite ?_ ?_
  · exact h
  · clear_value v2
    split
    next y4 y5 y6 =>
      have h7 : Kept q n y5 := kept_snd y6 (State.producerSeen_kept h)
      exact h7
    next y8 y9 y10 y11 =>
      have h12 : Kept q n y10 := kept_snd y11 (State.producerSeen_kept h)
      refine kept_foldl h12 ?_
      intro x13 x14 h15
      exact State.mapEntry_kept h15

theorem State.detectGood_kept {s a1 a2} (h : Kept q n s) :
    Kept q n (State.detectGood s a1 a2) := by
  unfold State.detectGood
  split
  next y1 y2 =>
    exact h
  next y3 y4 y5 =>
    extract_lets +onlyGivenNames v6
    extract_lets +onlyGivenNames v7
    extract_lets +onlyGivenNames v8
    extract_lets +onlyGivenNames v9
    refine kept_ite ?_ ?_
    · exact h
    · refine kept_ite ?_ ?_
      · exact State.clearAlarm_kept (State.modPort_kept h)
      · exact State.modPort_kept h

theorem State.detectNext_kept {s a1} (h : Kept q n s) :
    Kept q n (State.detectNext s a1) := by
  unfold State.detectNext
  split
  next y1 y2 =>
    exact h
  next y3 y4 y5 =>
    extract_lets +onlyGivenNames v6
    extract_lets +onlyGivenNames v7
    extract_lets +onlyGivenNames v8
    extract_lets +onlyGivenNames v9
    extract_lets +onlyGivenNames v10
    have h10 : Kept q n v10 := by
      unfold v10
      exact State.modPort_kept h
    clear_value v10
    refine kept_ite ?_ ?_
    · exact State.raiseAlarm_kept h10
    · exact h10

theorem State.busEnd_kept {s a1 a2} (h : Kept q n s) :
    Kept q n (State.busEnd s a1 a2) := by
  unfold State.busEnd
  exact State.modPort_kept h

theorem State.canTake_kept {s a1 a2 a3} (h : Kept q n s) :
    Kept q n (State.canTake s a1 a2 a3) := by
  unfold State.canTake
  extract_lets +onlyGivenNames v1
  have h1 : Kept q n v1 := by
    unfold v1
    exact State.clashReset_kept (State.canCount_kept h)
  clear_value v1
  refine kept_ite ?_ ?_
  · exact State.raiseAlarm_kept (State.modPort_kept h1)
  · extract_lets +onlyGivenNames v2
    have h2 : Kept q n v2 := by
      unfold v2
      exact State.modPort_kept h1
    clear_value v2
    extract_lets +onlyGivenNames v3
    have h3 : Kept q n v3 := by
      unfold v3
      refine kept_ite ?_ ?_
      · exact State.discover_kept h2
      · exact h2
    clear_value v3
    exact State.canMaps_kept h3

theorem execCanFrameReceived_kept {t a1 a2 a3 s} (h : Kept q n s) :
    KeptR q (max n t) (execCanFrameReceived t a1 a2 a3 s) := by
  unfold execCanFrameReceived
  extract_lets +onlyGivenNames v1
  have h1 : Kept q (max n t) v1 := by
    unfold v1
    exact State.arrive_kept h
  clear_value v1
  refine keptR_guard ?_
  extract_lets +onlyGivenNames v2
  have h2 : Kept q (max n t) v2 := by
    unfold v2
    exact State.busEnd_kept h1
  clear_value v2
  refine State.canNext_kept ?_
  refine kept_ite ?_ ?_
  · exact h2
  · refine kept_ite ?_ ?_
    · exact State.detectGood_kept h2
    · refine kept_ite ?_ ?_
      · exact State.canTake_kept h2
      · exact h2

theorem execCanReceiveError_kept {t a1 a2 a3 a4 a5 a6 s} (h : Kept q n s) :
    KeptR q (max n t) (execCanReceiveError t a1 a2 a3 a4 a5 s a6) := by
  unfold execCanReceiveError
  extract_lets +onlyGivenNames v1
  have h1 : Kept q (max n t) v1 := by
    unfold v1
    exact State.arrive_kept h
  clear_value v1
  refine keptR_guard ?_
  extract_lets +onlyGivenNames v2
  have h2 : Kept q (max n t) v2 := by
    unfold v2
    exact State.busEnd_kept h1
  clear_value v2
  refine State.canNext_kept ?_
  refine kept_ite ?_ ?_
  · exact State.detectNext_kept h2
  · refine kept_ite ?_ ?_
    · extract_lets +onlyGivenNames v3
      have h3 : Kept q (max n t) v3 := by
        unfold v3
        exact State.canCount_kept h2
      clear_value v3
      refine kept_ite ?_ ?_
      · exact State.clashSeen_kept h3
      · exact h3
    · exact h2

theorem execCanTimedFrameDue_kept {t a1 a2 a3 s} (h : Kept q n s) :
    KeptR q (max n t) (execCanTimedFrameDue t a1 a2 s a3) := by
  unfold execCanTimedFrameDue
  extract_lets +onlyGivenNames v1
  have h1 : Kept q (max n t) v1 := by
    unfold v1
    exact State.arrive_kept h
  clear_value v1
  refine keptR_guard ?_
  exact State.canNext_kept (State.modBox_kept (State.modPort_kept h1))

theorem State.attemptEnd_kept {s a1 a2 a3 a4} (h : Kept q n s) :
    Kept q n (State.attemptEnd s a1 a2 a3 a4) := by
  unfold State.attemptEnd
  extract_lets +onlyGivenNames v1
  have h1 : Kept q n v1 := by
    unfold v1
    exact State.modPort_kept h
  clear_value v1
  extract_lets +onlyGivenNames v2
  split
  next y3 =>
    exact State.nextBehind_kept (State.clashReset_kept (State.frameSent_kept (State.canCount_kept h1)))
  next y4 =>
    unfold v2
    split
    next y5 y6 y7 =>
      exact State.nextBehind_kept (State.frameAborted_kept (State.modPort_kept h1))
    next y8 y9 =>
      exact State.modBox_kept (State.modPort_kept h1)
  next y10 y11 y12 y13 =>
    extract_lets +onlyGivenNames v14
    have h14 : Kept q n v14 := by
      unfold v14
      exact State.canCount_kept h1
    clear_value v14
    extract_lets +onlyGivenNames v15
    have h15 : Kept q n v15.2 := by
      unfold v15
      exact State.clashSeen_kept h14
    clear_value v15
    extract_lets +onlyGivenNames v16
    extract_lets +onlyGivenNames v17
    have h17 : Kept q n v17 := by
      unfold v17
      refine kept_ite ?_ ?_
      · exact h15
      · exact State.clashReset_kept h14
    clear_value v17
    refine kept_ite ?_ ?_
    · exact State.modBox_kept h17
    · refine kept_ite ?_ ?_
      · exact State.clashReset_kept (State.nextBehind_kept (State.frameAborted_kept h17))
      · unfold v2
        split
        next y18 y19 y20 =>
          exact State.nextBehind_kept (State.frameAborted_kept h17)
        next y21 y22 =>
          exact State.modBox_kept h17

theorem execCanTxAttemptEnd_kept {t a1 a2 s} (h : Kept q n s) :
    KeptR q (max n t) (execCanTxAttemptEnd t a1 a2 s) := by
  unfold execCanTxAttemptEnd
  extract_lets +onlyGivenNames v1
  have h1 : Kept q (max n t) v1 := by
    unfold v1
    exact State.arrive_kept h
  clear_value v1
  refine keptR_guard ?_
  split
  next y2 y3 =>
    exact h1
  next y4 y5 y6 =>
    split
    next y7 y8 =>
      exact State.modPort_kept h1
    next y9 y10 y11 =>
      exact State.canNext_kept (State.attemptEnd_kept h1)

theorem execCanFrameExpiry_kept {t a1 a2 s} (h : Kept q n s) :
    KeptR q (max n t) (execCanFrameExpiry t a1 a2 s) := by
  unfold execCanFrameExpiry
  extract_lets +onlyGivenNames v1
  have h1 : Kept q (max n t) v1 := by
    unfold v1
    exact State.arrive_kept h
  clear_value v1
  refine keptR_guard ?_
  extract_lets +onlyGivenNames v2
  have h2 : Kept q (max n t) v2 := by
    unfold v2
    exact State.canDue_kept h1
  clear_value v2
  extract_lets +onlyGivenNames v3
  have h3 : Kept q (max n t) v3 := by
    unfold v3
    split
    next y4 y5 y6 =>
      refine kept_ite ?_ ?_
      · exact State.modBox_kept (State.frameAborted_kept h2)
      · exact h2
    next y7 y8 =>
      exact h2
  clear_value v3
  split
  next y9 y10 =>
    exact h3
  next y11 y12 y13 =>
    refine kept_ite ?_ ?_
    · exact h3
    · refine kept_ite ?_ ?_
      · exact State.modBox_kept h3
      · exact State.canNext_kept (State.nextBehind_kept (State.frameAborted_kept h3))

theorem execCanBusOff_kept {t a1 s} (h : Kept q n s) :
    KeptR q (max n t) (execCanBusOff t a1 s) := by
  unfold execCanBusOff
  extract_lets +onlyGivenNames v1
  have h1 : Kept q (max n t) v1 := by
    unfold v1
    exact State.arrive_kept h
  clear_value v1
  refine keptR_guard ?_
  refine kept_ite ?_ ?_
  · exact State.raiseAlarm_kept (State.abortPort_kept (State.modPort_kept h1))
  · exact h1

theorem execCanRecoverComplete_kept {t a1 s} (h : Kept q n s) :
    KeptR q (max n t) (execCanRecoverComplete t a1 s) := by
  unfold execCanRecoverComplete
  extract_lets +onlyGivenNames v1
  have h1 : Kept q (max n t) v1 := by
    unfold v1
    exact State.arrive_kept h
  clear_value v1
  refine keptR_guard ?_
  split
  next y2 y3 =>
    exact h1
  next y4 y5 y6 y7 y8 =>
    exact State.completeCmd_kept (State.clearAlarm_kept (State.modPort_kept h1))

theorem execCanRecoverTimeout_kept {t a1 s} (h : Kept q n s) :
    KeptR q (max n t) (execCanRecoverTimeout t a1 s) := by
  unfold execCanRecoverTimeout
  extract_lets +onlyGivenNames v1
  have h1 : Kept q (max n t) v1 := by
    unfold v1
    exact State.arrive_kept h
  clear_value v1
  refine keptR_guard ?_
  split
  next y2 y3 =>
    exact h1
  next y4 y5 y6 y7 y8 =>
    refine kept_ite ?_ ?_
    · exact h1
    · exact State.completeCmd_kept (State.modPort_kept h1)

theorem execCanDetectDwellEnd_kept {t a1 s} (h : Kept q n s) :
    KeptR q (max n t) (execCanDetectDwellEnd t a1 s) := by
  unfold execCanDetectDwellEnd
  extract_lets +onlyGivenNames v1
  have h1 : Kept q (max n t) v1 := by
    unfold v1
    exact State.arrive_kept h
  clear_value v1
  refine keptR_guard ?_
  split
  next y2 y3 =>
    exact h1
  next y4 y5 y6 =>
    refine kept_ite ?_ ?_
    · exact h1
    · refine kept_ite ?_ ?_
      · exact State.detectNext_kept h1
      · exact State.modPort_kept h1

theorem execCanNodeForget_kept {t a1 a2 s} (h : Kept q n s) :
    KeptR q (max n t) (execCanNodeForget t a1 a2 s) := by
  unfold execCanNodeForget
  extract_lets +onlyGivenNames v1
  have h1 : Kept q (max n t) v1 := by
    unfold v1
    exact State.arrive_kept h
  clear_value v1
  refine keptR_guard ?_
  split
  next y2 y3 =>
    exact h1
  next y4 y5 y6 =>
    refine kept_ite ?_ ?_
    · extract_lets +onlyGivenNames v7
      have h7 : Kept q (max n t) v7 := by
        unfold v7
        exact State.modPort_kept h1
      clear_value v7
      exact kept_upd h7 same
    · exact h1

theorem State.serFrame_kept {s} (h : Kept q n s) :
    Kept q n (State.serFrame s) := by
  unfold State.serFrame
  refine kept_foldl h ?_
  intro x1 x2 h3
  exact State.serJudge_kept h3

theorem State.busFrame_kept {s} (h : Kept q n s) :
    Kept q n (State.busFrame s) := by
  unfold State.busFrame
  refine kept_foldl (State.serFrame_kept h) ?_
  intro x1 x2 h3
  extract_lets +onlyGivenNames v4
  extract_lets +onlyGivenNames v5
  have h5 : Kept q n v5 := by
    unfold v5
    exact State.modPort_kept h3
  clear_value v5
  extract_lets +onlyGivenNames v6
  extract_lets +onlyGivenNames v7
  have h7 : Kept q n v7 := by
    unfold v7
    refine kept_ite ?_ ?_
    · exact State.clearAlarm_kept h5
    · exact h5
  clear_value v7
  extract_lets +onlyGivenNames v8
  have h8 : Kept q n v8 := by
    unfold v8
    refine kept_ite ?_ ?_
    · exact State.clearAlarm_kept h7
    · exact h7
  clear_value v8
  refine kept_foldl h8 ?_
  intro x9 x10 h11
  exact State.clearAlarm_kept (State.modPort_kept h11)

theorem State.smapEntry_kept {s a1 a2 a3 a4 a5} (h : Kept q n s) :
    Kept q n (State.smapEntry s a1 a2 a3 a4 a5) := by
  unfold State.smapEntry
  extract_lets +onlyGivenNames v1
  extract_lets +onlyGivenNames v2
  refine kept_ite ?_ ?_
  · exact h
  · extract_lets +onlyGivenNames v3
    extract_lets +onlyGivenNames v4
    extract_lets +onlyGivenNames v5
    refine kept_foldl h ?_
    intro x6 x7 h8
    extract_lets +onlyGivenNames v9
    refine kept_ite ?_ ?_
    · exact h8
    · split
      next y10 y11 y12 =>
        exact State.numWrite_kept h8
      next y13 y14 =>
        exact State.badWrite_kept h8

theorem State.sentence_kept {s a1 a2 a3 a4 a5 a6} (h : Kept q n s) :
    Kept q n (State.sentence s a1 a2 a3 a4 a5 a6) := by
  unfold State.sentence
  split
  next y1 y2 y3 =>
    have h4 : Kept q n y2 := kept_snd y3 (State.producerSeen_kept h)
    exact h4
  next y5 y6 y7 y8 =>
    have h9 : Kept q n y7 := kept_snd y8 (State.producerSeen_kept h)
    refine kept_foldl h9 ?_
    intro x10 x11 h12
    exact State.smapEntry_kept h12

theorem execSerialSentence_kept {t a1 a2 a3 a4 s} (h : Kept q n s) :
    KeptR q (max n t) (execSerialSentence t a1 a2 a3 a4 s) := by
  unfold execSerialSentence
  extract_lets +onlyGivenNames v1
  have h1 : Kept q (max n t) v1 := by
    unfold v1
    exact State.arrive_kept h
  clear_value v1
  refine keptR_guard ?_
  refine kept_ite ?_ ?_
  · exact h1
  · extract_lets +onlyGivenNames v2
    have h2 : Kept q (max n t) v2 := by
      unfold v2
      exact State.serChars_kept h1
    clear_value v2
    extract_lets +onlyGivenNames v3
    clear_value v3
    split
    next y4 y5 =>
      exact State.serBad_kept h2
    next y6 y7 y8 =>
      exact State.sentence_kept (State.serGood_kept h2)

theorem State.binWrite_kept {s a1 a2 a3} (h : Kept q n s) :
    Kept q n (State.binWrite s a1 a2 a3) := by
  unfold State.binWrite
  refine kept_foldl h ?_
  intro x1 x2 h3
  refine kept_ite ?_ ?_
  · exact h3
  · split
    next y4 y5 y6 =>
      exact State.numWrite_kept h3
    next y7 y8 =>
      exact State.badWrite_kept h3

theorem execSerialBinaryFrame_kept {t a1 a2 a3 a4 s} (h : Kept q n s) :
    KeptR q (max n t) (execSerialBinaryFrame t a1 a2 a3 a4 s) := by
  unfold execSerialBinaryFrame
  extract_lets +onlyGivenNames v1
  have h1 : Kept q (max n t) v1 := by
    unfold v1
    exact State.arrive_kept h
  clear_value v1
  refine keptR_guard ?_
  refine kept_ite ?_ ?_
  · exact h1
  · extract_lets +onlyGivenNames v2
    have h2 : Kept q (max n t) v2 := by
      unfold v2
      exact State.serChars_kept h1
    clear_value v2
    extract_lets +onlyGivenNames v3
    refine kept_ite ?_ ?_
    · exact h2
    · refine kept_ite ?_ ?_
      · exact State.serBad_kept h2
      · clear_value v3
        split
        next y4 y5 y6 y7 =>
          extract_lets +onlyGivenNames v8
          have h8 : Kept q (max n t) v8 := by
            unfold v8
            refine kept_foldl h2 ?_
            intro x9 x10 h11
            exact State.serBad_kept h11
          clear_value v8
          refine kept_foldl h8 ?_
          intro x12 x13 h14
          split
          next y15 y16 y17 =>
            have h18 : Kept q (max n t) y16 := kept_snd y17 (State.producerSeen_kept (State.serGood_kept h14))
            exact h18
          next y19 y20 y21 y22 =>
            have h23 : Kept q (max n t) y21 := kept_snd y22 (State.producerSeen_kept (State.serGood_kept h14))
            exact State.binWrite_kept h23

theorem execIec450Datagram_kept {t a1 a2 a3 a4 s} (h : Kept q n s) :
    KeptR q (max n t) (execIec450Datagram t a1 a2 a3 a4 s) := by
  unfold execIec450Datagram
  extract_lets +onlyGivenNames v1
  have h1 : Kept q (max n t) v1 := by
    unfold v1
    exact State.arrive_kept h
  clear_value v1
  extract_lets +onlyGivenNames v2
  refine keptR_ite ?_ ?_
  · refine keptR_next ?_
    exact h1
  · extract_lets +onlyGivenNames v3
    extract_lets +onlyGivenNames v4
    refine keptR_next ?_
    refine kept_foldl h1 ?_
    intro x5 x6 h7
    split
    next y8 y9 =>
      exact h7
    next y10 y11 y12 =>
      exact State.sentence_kept h7

theorem State.serDrain.go_kept {a0 a1 s} (h : Kept q n s) :
    Kept q n (State.serDrain.go a0 a1 s) := by
  induction a1 generalizing a0 s with
  | zero =>
    unfold State.serDrain.go
    exact h
  | succ b1 ih =>
    unfold State.serDrain.go
    split
    next y1 y2 =>
      exact h
    next y3 y4 y5 y6 =>
      extract_lets +onlyGivenNames v7
      extract_lets +onlyGivenNames v8
      refine kept_ite ?_ ?_
      · exact h
      · apply ih
        exact State.emit_kept (State.modSer_kept h)

theorem State.serDisable_kept {s a1 a2} (h : Kept q n s) :
    Kept q n (State.serDisable s a1 a2) := by
  unfold State.serDisable
  extract_lets +onlyGivenNames v1
  exact State.disableRec_kept (State.modSer_kept h)

theorem State.serQueue_kept {s a1 a2} (h : Kept q n s) :
    Kept q n (State.serQueue s a1 a2) := by
  unfold State.serQueue
  extract_lets +onlyGivenNames v1
  have h1 : Kept q n v1 := by
    unfold v1
    exact State.modSer_kept h
  clear_value v1
  extract_lets +onlyGivenNames v2
  have h2 : Kept q n v2 := by
    unfold v2
    refine kept_ite ?_ ?_
    · exact State.modSer_kept h1
    · exact h1
  clear_value v2
  exact State.modSer_kept h2

theorem opCanQuery_kept : KeptOp opCanQuery := by
  constructor
  · intro q n s a b p h
    unfold opCanQuery
    dsimp -zeta only
    extract_lets +onlyGivenNames v1
    exact h
  · intro q n s p h
    unfold opCanQuery
    dsimp -zeta only
    exact h

theorem opBusRecover_kept : KeptOp opBusRecover := by
  constructor
  · intro q n s a b p h
    unfold opBusRecover
    dsimp -zeta only
    exact State.modPort_kept h
  · intro q n s p h
    unfold opBusRecover
    dsimp -zeta only
    exact h

theorem State.startDetect_kept {s a1} (h : Kept q n s) :
    Kept q n (State.startDetect s a1) := by
  unfold State.startDetect
  exact State.modPort_kept h

theorem opCanRateDetect_kept : KeptOp opCanRateDetect := by
  constructor
  · intro q n s a b p h
    unfold opCanRateDetect
    dsimp -zeta only
    exact State.startDetect_kept (State.disablePort_kept h)
  · intro q n s p h
    unfold opCanRateDetect
    dsimp -zeta only
    exact h

theorem opCanNodeList_kept : KeptOp opCanNodeList := by
  constructor
  · intro q n s a b p h
    unfold opCanNodeList
    dsimp -zeta only
    extract_lets +onlyGivenNames v1
    exact h
  · intro q n s p h
    unfold opCanNodeList
    dsimp -zeta only
    exact h

theorem opSerQuery_kept : KeptOp opSerQuery := by
  constructor
  · intro q n s a b p h
    unfold opSerQuery
    dsimp -zeta only
    extract_lets +onlyGivenNames v1
    extract_lets +onlyGivenNames v2
    exact h
  · intro q n s p h
    unfold opSerQuery
    dsimp -zeta only
    exact h

theorem State.serDrain_kept {s a1} (h : Kept q n s) :
    Kept q n (State.serDrain s a1) := by
  unfold State.serDrain
  exact State.serDrain.go_kept h

theorem execSerialTxSentence_kept {t a1 a2 s} (h : Kept q n s) :
    KeptR q (max n t) (execSerialTxSentence t a1 a2 s) := by
  unfold execSerialTxSentence
  extract_lets +onlyGivenNames v1
  have h1 : Kept q (max n t) v1 := by
    unfold v1
    exact State.arrive_kept h
  clear_value v1
  refine keptR_guard ?_
  extract_lets +onlyGivenNames v2
  have h2 : Kept q (max n t) v2 := by
    unfold v2
    exact State.serDrain_kept h1
  clear_value v2
  split
  next y3 y4 =>
    exact h2
  next y5 y6 y7 =>
    exact State.serQueue_kept h2

end Sys2Proof.Machine
end

