-- ==== Sys2Proof/Laws/KeptCqaOps.lean ====
section
/-!
SUPPORT. What every run keeps, through the operations and meanings of Machine/CqaOps.lean: one lemma for each.
-/
namespace Sys2Proof.Machine
variable {q : List Instr} {n : Nat}

theorem State.modCase_kept {s a1 a2} (h : Kept q n s) :
    Kept q n (State.modCase s a1 a2) := by
  unfold State.modCase
  exact kept_upd h (fun e => by simpa [State.sizes, unitSizes] using e)

theorem State.cqaPose_kept {s a1} (h : Kept q n s) :
    Kept q n (State.cqaPose s a1).1 := by
  unfold State.cqaPose
  extract_lets +onlyGivenNames v1
  extract_lets +onlyGivenNames v2
  have h2 : Kept q n v2.1 := by
    unfold v2
    refine kept_foldl_fst ?_ ?_
    · exact kept_upd h same
    · intro x3 x4 h5
      extract_lets +onlyGivenNames v6
      extract_lets +onlyGivenNames v7
      have h7 : Kept q n v7 := by
        unfold v7
        exact h5
      clear_value v7
      refine kept_ite_fst ?_ ?_
      · exact State.modCase_kept h7
      · extract_lets +onlyGivenNames v8
        clear_value v8
        split
        next y9 y10 y11 y12 =>
          extract_lets +onlyGivenNames v13
          have h13 : Kept q n v13 := by
            unfold v13
            exact State.modCase_kept h7
          clear_value v13
          extract_lets +onlyGivenNames v14
          extract_lets +onlyGivenNames v15
          have h15 : Kept q n v15 := by
            unfold v15
            exact kept_upd h13 same
          clear_value v15
          exact h15
  clear_value v2
  exact h2

theorem State.takeAlloc_kept {s a1} (h : Kept q n s) :
    Kept q n (State.takeAlloc s a1) := by
  unfold State.takeAlloc
  extract_lets +onlyGivenNames v1
  extract_lets +onlyGivenNames v2
  extract_lets +onlyGivenNames v3
  have h3 : Kept q n v3 := by
    unfold v3
    exact kept_upd h same
  clear_value v3
  extract_lets +onlyGivenNames v4
  extract_lets +onlyGivenNames v5
  extract_lets +onlyGivenNames v6
  have h6 : Kept q n v6 := by
    unfold v6
    refine kept_foldl h3 ?_
    intro x7 x8 h9
    extract_lets +onlyGivenNames v10
    extract_lets +onlyGivenNames v11
    refine kept_ite ?_ ?_
    · clear_value v11
      clear_value v10
      split
      next y12 y13 y14 y15 =>
        extract_lets +onlyGivenNames v16
        exact kept_upd h9 same
    · exact State.modCase_kept h9
  clear_value v6
  exact kept_upd h6 same

theorem State.cqaTick_kept {s} (h : Kept q n s) :
    Kept q n (State.cqaTick s) := by
  unfold State.cqaTick
  refine kept_ite ?_ ?_
  · exact h
  · extract_lets +onlyGivenNames v1
    extract_lets +onlyGivenNames v2
    have h2 : Kept q n v2 := by
      unfold v2
      exact kept_upd h (fun e => by simpa [State.sizes, unitSizes] using e)
    clear_value v2
    extract_lets +onlyGivenNames v3
    extract_lets +onlyGivenNames v4
    extract_lets +onlyGivenNames v5
    have h5 : Kept q n v5 := by
      unfold v5
      exact kept_upd h2 same
    clear_value v5
    refine kept_ite ?_ ?_
    · exact State.clearAlarm_kept h5
    · exact h5

theorem State.envStartPeriod_kept {s} (h : Kept q n s) :
    Kept q n (State.envStartPeriod s) := by
  unfold State.envStartPeriod
  extract_lets +onlyGivenNames v1
  exact kept_upd h same

theorem State.envSubmit_kept {s} (h : Kept q n s) :
    Kept q n (State.envSubmit s) := by
  unfold State.envSubmit
  split
  next y1 y2 =>
    exact h
  next y3 y4 y5 =>
    refine kept_ite ?_ ?_
    · exact h
    · extract_lets +onlyGivenNames v6
      have h6 : Kept q n v6 := by
        unfold v6
        exact State.henFirm_kept h
      clear_value v6
      refine kept_ite ?_ ?_
      · exact h6
      · exact State.henFirm_kept h6

theorem State.takeEnv_kept {s a1 a2 a3} (h : Kept q n s) :
    Kept q n (State.takeEnv s a1 a2 a3) := by
  unfold State.takeEnv
  extract_lets +onlyGivenNames v1
  refine kept_ite ?_ ?_
  · exact h
  · clear_value v1
    split
    next y2 y3 y4 y5 =>
      extract_lets +onlyGivenNames v6
      extract_lets +onlyGivenNames v7
      extract_lets +onlyGivenNames v8
      extract_lets +onlyGivenNames v9
      extract_lets +onlyGivenNames v10
      have h10 : Kept q n v10 := by
        unfold v10
        exact kept_upd h same
      clear_value v10
      refine kept_ite ?_ ?_
      · exact kept_upd h10 same
      · exact kept_upd h10 same

theorem State.envEnd_kept {s} (h : Kept q n s) :
    Kept q n (State.envEnd s) := by
  unfold State.envEnd
  exact kept_upd h same

theorem State.whatifDone_kept {s a1 a2 a3} (h : Kept q n s) :
    Kept q n (State.whatifDone s a1 a2 a3) := by
  unfold State.whatifDone
  extract_lets +onlyGivenNames v1
  extract_lets +onlyGivenNames v2
  have h2 : Kept q n v2 := by
    unfold v2
    exact kept_upd h same
  clear_value v2
  exact State.completeCmd_kept h2

theorem State.whatifPose_kept {s a1} (h : Kept q n s) :
    Kept q n (State.whatifPose s a1) := by
  unfold State.whatifPose
  split
  next y1 y2 y3 y4 =>
    refine kept_ite ?_ ?_
    · exact State.whatifDone_kept h
    · extract_lets +onlyGivenNames v5
      extract_lets +onlyGivenNames v6
      extract_lets +onlyGivenNames v7
      have h7 : Kept q n v7 := by
        unfold v7
        exact kept_upd h same
      clear_value v7
      exact State.henFirm_kept h7

theorem State.whatifFrame_kept {s} (h : Kept q n s) :
    Kept q n (State.whatifFrame s) := by
  unfold State.whatifFrame
  refine kept_foldl h ?_
  intro x1 x2 h3
  exact State.whatifPose_kept h3

theorem State.takeWhatif_kept {s a1 a2 a3} (h : Kept q n s) :
    Kept q n (State.takeWhatif s a1 a2 a3) := by
  unfold State.takeWhatif
  split
  next y1 y2 =>
    exact h
  next y3 y4 y5 =>
    split
    next y6 y7 =>
      exact h
    next y8 y9 y10 =>
      exact State.whatifDone_kept h

theorem State.whatifAge_kept {s} (h : Kept q n s) :
    Kept q n (State.whatifAge s) := by
  unfold State.whatifAge
  exact kept_upd h same

theorem State.whatifAbort_kept {s} (h : Kept q n s) :
    Kept q n (State.whatifAbort s) := by
  unfold State.whatifAbort
  refine kept_foldl h ?_
  intro x1 x2 h3
  exact State.whatifDone_kept h3

theorem State.henSettle_kept {s} (h : Kept q n s) :
    Kept q n (State.henSettle s) := by
  unfold State.henSettle
  extract_lets +onlyGivenNames v1
  refine State.partGo_kept ?_
  refine kept_foldl (kept_upd h same) ?_
  intro x2 x3 h4
  extract_lets +onlyGivenNames v5
  clear_value v5
  split
  next y6 y7 =>
    extract_lets +onlyGivenNames v8
    refine kept_ite ?_ ?_
    · exact kept_upd h4 same
    · exact h4
  next y9 y10 =>
    refine kept_ite ?_ ?_
    · exact State.takeAlloc_kept h4
    · exact h4
  next y11 y12 y13 y14 =>
    exact State.takeEnv_kept h4
  next y15 y16 y17 y18 =>
    exact State.takeWhatif_kept h4
  next y19 y20 y21 y22 y23 =>
    exact h4

theorem State.cqaFence_kept {s} (h : Kept q n s) :
    Kept q n (State.cqaFence s) := by
  unfold State.cqaFence
  extract_lets +onlyGivenNames v1
  have h1 : Kept q n v1 := by
    unfold v1
    refine kept_foldl h ?_
    intro x2 x3 h4
    exact State.modCase_kept h4
  clear_value v1
  exact kept_upd h1 same

theorem State.envPublish_kept {s} (h : Kept q n s) :
    Kept q n (State.envPublish s) := by
  unfold State.envPublish
  extract_lets +onlyGivenNames v1
  unfold v1
  refine kept_foldl ?_ ?_
  · refine kept_foldl h ?_
    intro x2 x3 h4
    refine kept_ite ?_ ?_
    · exact h4
    · exact State.devPoint_kept h4
  · intro x5 x6 h7
    refine kept_ite ?_ ?_
    · exact h7
    · exact State.devPoint_kept h7

end Sys2Proof.Machine
end

