-- ==== Sys2Proof/Laws/KeptDmaOps.lean ====
section
/-!
SUPPORT. What every run keeps, through the operations and meanings of Machine/DmaOps.lean: one lemma for each.
-/
namespace Sys2Proof.Machine
variable {q : List Instr} {n : Nat}

theorem State.modDch_kept {s a1 a2} (h : Kept q n s) :
    Kept q n (State.modDch s a1 a2) := by
  unfold State.modDch
  exact kept_mem h (five _ _ _ _ _) (fun e => by simpa [State.sizes, unitSizes] using e)

theorem State.dmaSet_kept {s a1 a2} (h : Kept q n s) : Kept q n (State.dmaSet s a1 a2) := by
  unfold State.dmaSet
  split
  · exact ⟨h.1, h.2, h.3, Memory.set_wf h.4, h.5, h.6⟩
  · exact ⟨h.1, h.2, h.3, h.4, Memory.set_wf h.5, h.6⟩
  · exact ⟨h.1, h.2, Memory.set_wf h.3, h.4, h.5, h.6⟩

theorem State.dmaEnd_kept {s a1 a2 a3 a4 a5} (h : Kept q n s) : Kept q n (State.dmaEnd s a1 a2 a3 a4 a5) := by
  unfold State.dmaEnd
  extract_lets rem cells
  have h0 : Memory.wf cells = true := Memory.write_wf h.3
  refine kept_ite (State.emit_kept (State.modDch_kept ?_)) (State.modDch_kept ?_) <;>
    exact kept_ite ⟨h.1, h.2, h0, h.4, h.5, h.6⟩ h

theorem State.dmaTake_kept {s a1 a2} (h : Kept q n s) :
    Kept q n (State.dmaTake s a1 a2) := by
  unfold State.dmaTake
  extract_lets +onlyGivenNames v1
  have h1 : Kept q n v1 := by
    unfold v1
    exact State.modDch_kept h
  clear_value v1
  refine kept_ite ?_ ?_
  · exact State.modDch_kept h1
  · refine kept_ite ?_ ?_
    · extract_lets +onlyGivenNames v2
      have h2 : Kept q n v2 := by
        unfold v2
        refine kept_ite ?_ ?_
        · exact State.event_kept h1
        · exact h1
      clear_value v2
      exact State.modDch_kept h2
    · extract_lets +onlyGivenNames v3
      extract_lets +onlyGivenNames v4
      extract_lets +onlyGivenNames v5
      extract_lets +onlyGivenNames v6
      extract_lets +onlyGivenNames v7
      refine kept_ite ?_ ?_
      · exact State.modDch_kept h1
      · extract_lets +onlyGivenNames v8
        extract_lets +onlyGivenNames v9
        have h9 : Kept q n v9 := by
          unfold v9
          refine kept_ite ?_ ?_
          · exact State.event_kept h1
          · exact h1
        clear_value v9
        exact State.dmaEnd_kept h9

theorem State.dmaCopy_kept {s a1 a2 a3} (h : Kept q n s) :
    Kept q n (State.dmaCopy s a1 a2 a3) := by
  unfold State.dmaCopy
  extract_lets +onlyGivenNames v1
  refine kept_foldl h ?_
  intro x2 x3 h4
  exact State.dmaSet_kept h4

theorem State.dmaMove_kept {s a1 a2} (h : Kept q n s) :
    Kept q n (State.dmaMove s a1 a2) := by
  unfold State.dmaMove
  refine kept_ite ?_ ?_
  · exact State.dmaCopy_kept h
  · exact State.dmaCopy_kept h

theorem State.dmaNext_kept {s a1 a2} (h : Kept q n s) :
    Kept q n (State.dmaNext s a1 a2) := by
  unfold State.dmaNext
  refine kept_ite ?_ ?_
  · exact h
  · exact State.dmaTake_kept h

theorem State.dmaUnstart_kept {s a1} (h : Kept q n s) :
    Kept q n (State.dmaUnstart s a1) := by
  unfold State.dmaUnstart
  split
  next y1 y2 =>
    exact h
  next y3 y4 y5 y6 y7 y8 =>
    refine kept_ite ?_ ?_
    · exact State.modDch_kept h
    · exact h

theorem State.dmaDisable_kept {s a1 a2} (h : Kept q n s) :
    Kept q n (State.dmaDisable s a1 a2) := by
  unfold State.dmaDisable
  extract_lets +onlyGivenNames v1
  have h1 : Kept q n v1 := by
    unfold v1
    exact State.dmaUnstart_kept h
  clear_value v1
  extract_lets +onlyGivenNames v2
  extract_lets +onlyGivenNames v3
  have h3 : Kept q n v3 := by
    unfold v3
    exact State.modDch_kept h1
  clear_value v3
  clear_value v2
  split
  next y4 y5 =>
    exact State.disableRec_kept h3
  next y6 y7 y8 =>
    refine kept_ite ?_ ?_
    · exact State.disableRec_kept (State.dmaEnd_kept h3)
    · split
      next y9 y10 y11 y12 =>
        have h13 : Kept q n y11 := kept_snd y12 (State.freeW_kept h3)
        extract_lets +onlyGivenNames v14
        extract_lets +onlyGivenNames v15
        have h15 : Kept q n v15 := by
          unfold v15
          exact State.dmaMove_kept h13
        clear_value v15
        refine kept_ite ?_ ?_
        · exact State.disableRec_kept (State.dmaEnd_kept h15)
        · exact State.disableRec_kept (State.dmaEnd_kept h15)

theorem State.dmaBusErr_kept {s a1 a2} (h : Kept q n s) :
    Kept q n (State.dmaBusErr s a1 a2) := by
  unfold State.dmaBusErr
  refine kept_ite ?_ ?_
  · exact State.dmaEnd_kept h
  · split
    next y1 y2 y3 y4 =>
      have h5 : Kept q n y3 := kept_snd y4 (State.freeW_kept h)
      extract_lets +onlyGivenNames v6
      exact State.dmaEnd_kept (State.dmaMove_kept h5)

theorem State.dmaClusterLost_kept {s a1} (h : Kept q n s) :
    Kept q n (State.dmaClusterLost s a1) := by
  unfold State.dmaClusterLost
  refine kept_foldl h ?_
  intro x1 x2 h3
  split
  next y4 y5 =>
    exact h3
  next y6 y7 y8 =>
    refine kept_ite ?_ ?_
    · exact State.dmaBusErr_kept h3
    · exact h3

theorem State.dmaPartStop_kept {s} (h : Kept q n s) :
    Kept q n (State.dmaPartStop s) := by
  unfold State.dmaPartStop
  refine kept_foldl h ?_
  intro x1 x2 h3
  refine kept_ite ?_ ?_
  · exact State.dmaDisable_kept h3
  · exact h3

theorem State.dmaReset_kept {s} (h : Kept q n s) :
    Kept q n (State.dmaReset s) := by
  unfold State.dmaReset
  extract_lets +onlyGivenNames v1
  extract_lets +onlyGivenNames v2
  have h2 : Kept q n v2 := by
    unfold v2
    refine kept_ite ?_ ?_
    · exact h
    · exact State.direct_kept h
  clear_value v2
  exact kept_mem h2 (five _ _ _ _ _) (fun e => by simp [State.sizes, unitSizes] at e ⊢; simp [e])

end Sys2Proof.Machine
end

