-- ==== Sys2Proof/Laws/KeptUnitOps.lean ====
section
/-!
SUPPORT. What every run keeps, through the operations and meanings of Machine/UnitOps.lean: one lemma for each.
-/
namespace Sys2Proof.Machine
variable {q : List Instr} {n : Nat}

theorem State.leaveMode_kept {s} (h : Kept q n s) :
    Kept q n (State.leaveMode s) := by
  unfold State.leaveMode
  split
  next y1 y2 =>
    exact State.whatifAbort_kept (kept_upd h same)
  next y3 y4 =>
    exact State.whatifAbort_kept h
  next y5 y6 y7 =>
    exact h

theorem State.setMode_kept {s a1 a2} (h : Kept q n s) :
    Kept q n (State.setMode s a1 a2) := by
  unfold State.setMode
  refine kept_ite ?_ ?_
  · exact h
  · extract_lets +onlyGivenNames v1
    extract_lets +onlyGivenNames v2
    have h2 : Kept q n v2 := by
      unfold v2
      exact State.leaveMode_kept h
    clear_value v2
    extract_lets +onlyGivenNames v3
    extract_lets +onlyGivenNames v4
    have h4 : Kept q n v4 := by
      unfold v4
      exact State.event_kept (kept_upd h2 same)
    clear_value v4
    refine kept_ite ?_ ?_
    · refine kept_ite ?_ ?_
      · exact State.satRetain_kept (State.learnSave_kept h4)
      · exact State.learnSave_kept h4
    · exact h4

end Sys2Proof.Machine
end

