-- ==== Sys2Proof/Laws/KeptRedOps.lean ====
section
/-!
SUPPORT. What every run keeps, through the operations and meanings of Machine/RedOps.lean: one lemma for each.
-/
namespace Sys2Proof.Machine
variable {q : List Instr} {n : Nat}

theorem State.modRed_kept {s a1} (h : Kept q n s) :
    Kept q n (State.modRed s a1) := by
  unfold State.modRed
  exact kept_upd h same

theorem State.modPartner_kept {s a1 a2} (h : Kept q n s) :
    Kept q n (State.modPartner s a1 a2) := by
  unfold State.modPartner
  exact State.modRed_kept h

theorem State.seeEpoch_kept {s a1} (h : Kept q n s) :
    Kept q n (State.seeEpoch s a1) := by
  unfold State.seeEpoch
  extract_lets +onlyGivenNames v1
  extract_lets +onlyGivenNames v2
  have h2 : Kept q n v2 := by
    unfold v2
    exact State.modRed_kept h
  clear_value v2
  exact kept_upd h2 same

theorem State.newEpoch_kept {s a1} (h : Kept q n s) :
    Kept q n (State.newEpoch s a1).2 := by
  unfold State.newEpoch
  extract_lets +onlyGivenNames v1
  have h1 : Kept q n v1 := by
    unfold v1
    refine kept_foldl (State.seeEpoch_kept h) ?_
    intro x2 x3 h4
    refine kept_ite ?_ ?_
    · exact State.seeEpoch_kept h4
    · exact h4
  clear_value v1
  extract_lets +onlyGivenNames v5
  exact State.seeEpoch_kept h1

theorem State.holdReqDone_kept {s a1} (h : Kept q n s) :
    Kept q n (State.holdReqDone s a1) := by
  unfold State.holdReqDone
  split
  next y1 y2 =>
    exact h
  next y3 y4 y5 y6 y7 =>
    exact State.completeCmd_kept (kept_upd h same)

theorem State.gain_kept {s a1 a2} (h : Kept q n s) :
    Kept q n (State.gain s a1 a2) := by
  unfold State.gain
  extract_lets +onlyGivenNames v1
  extract_lets +onlyGivenNames v2
  split
  next y3 y4 y5 y6 =>
    extract_lets +onlyGivenNames v7
    have h7 : Kept q n v7 := by
      unfold v7
      exact State.seeEpoch_kept h
    clear_value v7
    extract_lets +onlyGivenNames v8
    have h8 : Kept q n v8 := by
      unfold v8
      exact State.modRed_kept h7
    clear_value v8
    extract_lets +onlyGivenNames v9
    extract_lets +onlyGivenNames v10
    extract_lets +onlyGivenNames v11
    have h11 : Kept q n v11 := by
      unfold v11
      exact kept_upd h8 same
    clear_value v11
    extract_lets +onlyGivenNames v12
    have h12 : Kept q n v12 := by
      unfold v12
      exact State.thrAuth_kept h11
    clear_value v12
    extract_lets +onlyGivenNames v13
    have h13 : Kept q n v13 := by
      unfold v13
      exact State.setMode_kept h12
    clear_value v13
    extract_lets +onlyGivenNames v14
    extract_lets +onlyGivenNames v15
    have h15 : Kept q n v15 := by
      unfold v15
      exact kept_upd h13 same
    clear_value v15
    exact State.holdReqDone_kept (State.event_kept h15)

theorem State.giveUp_kept {s a1 a2} (h : Kept q n s) :
    Kept q n (State.giveUp s a1 a2) := by
  unfold State.giveUp
  refine kept_ite ?_ ?_
  · exact h
  · extract_lets +onlyGivenNames v1
    extract_lets +onlyGivenNames v2
    have h2 : Kept q n v2 := by
      unfold v2
      refine kept_foldl (State.thrAuth_kept h) ?_
      intro x3 x4 h5
      exact State.abortBrakeTest_kept h5
    clear_value v2
    extract_lets +onlyGivenNames v6
    have h6 : Kept q n v6 := by
      unfold v6
      exact State.modRed_kept h2
    clear_value v6
    extract_lets +onlyGivenNames v7
    have h7 : Kept q n v7 := by
      unfold v7
      exact State.event_kept (State.clearAlarm_kept h6)
    clear_value v7
    refine kept_ite ?_ ?_
    · exact State.setMode_kept h7
    · exact h7

theorem State.modLease_kept {s a1} (h : Kept q n s) :
    Kept q n (State.modLease s a1) := by
  unfold State.modLease
  exact State.modRed_kept h

theorem State.sendGrant_kept {s a1 a2} (h : Kept q n s) :
    Kept q n (State.sendGrant s a1 a2) := by
  unfold State.sendGrant
  extract_lets +onlyGivenNames v1
  extract_lets +onlyGivenNames v2
  extract_lets +onlyGivenNames v3
  exact State.emit_kept (State.emit_kept h)

theorem State.grantEpoch_kept {s a1 a2} (h : Kept q n s) :
    Kept q n (State.grantEpoch s a1 a2).2 := by
  unfold State.grantEpoch
  extract_lets +onlyGivenNames v1
  extract_lets +onlyGivenNames v2
  refine kept_ite_snd ?_ ?_
  · exact h
  · exact State.newEpoch_kept h

theorem State.tryGrant_kept {s} (h : Kept q n s) : Kept q n (State.tryGrant s) := by
  unfold State.tryGrant
  refine kept_ite h ?_
  split
  · exact h
  · next r keep e =>
    refine State.sendGrant_kept (State.modLease_kept ?_)
    exact State.grantEpoch_kept h

theorem State.leaseRequest_kept {s a1} (h : Kept q n s) :
    Kept q n (State.leaseRequest s a1) := by
  unfold State.leaseRequest
  extract_lets +onlyGivenNames v1
  have h1 : Kept q n v1 := by
    unfold v1
    exact State.modLease_kept h
  clear_value v1
  refine kept_ite ?_ ?_
  · exact State.sendGrant_kept (State.modLease_kept h1)
  · extract_lets +onlyGivenNames v2
    have h2 : Kept q n v2 := by
      unfold v2
      exact State.tryGrant_kept h1
    clear_value v2
    refine kept_ite ?_ ?_
    · exact h2
    · exact State.sendGrant_kept h2

theorem State.applyRelease_kept {s a1} (h : Kept q n s) :
    Kept q n (State.applyRelease s a1) := by
  unfold State.applyRelease
  refine kept_ite ?_ ?_
  · refine kept_ite ?_ ?_
    · exact State.tryGrant_kept (State.modLease_kept h)
    · exact h
  · refine kept_ite ?_ ?_
    · split
      next y1 y2 y3 y4 =>
        have h5 : Kept q n y3 := kept_snd y4 (State.newEpoch_kept h)
        exact State.gain_kept h5
    · exact h

theorem State.wardenTake_kept {s a1} (h : Kept q n s) :
    Kept q n (State.wardenTake s a1) := by
  unfold State.wardenTake
  split
  next y1 y2 y3 y4 =>
    have h5 : Kept q n y3 := kept_snd y4 (State.newEpoch_kept h)
    extract_lets +onlyGivenNames v6
    have h6 : Kept q n v6 := by
      unfold v6
      exact State.modLease_kept h5
    clear_value v6
    extract_lets +onlyGivenNames v7
    have h7 : Kept q n v7 := by
      unfold v7
      exact State.gain_kept h6
    clear_value v7
    split
    next y8 y9 =>
      exact h7
    next y10 y11 y12 y13 =>
      exact State.deferredDone_kept (State.modRed_kept h7)

theorem State.wardenStep_kept {s} (h : Kept q n s) :
    Kept q n (State.wardenStep s) := by
  unfold State.wardenStep
  extract_lets +onlyGivenNames v1
  extract_lets +onlyGivenNames v2
  extract_lets +onlyGivenNames v3
  refine kept_ite ?_ ?_
  · exact State.wardenTake_kept h
  · exact h

theorem State.leaseOut_kept {s} (h : Kept q n s) :
    Kept q n (State.leaseOut s) := by
  unfold State.leaseOut
  refine kept_ite ?_ ?_
  · exact State.raiseAlarm_kept (State.modRed_kept h)
  · exact State.giveUp_kept h

theorem State.leaseCommit_kept {s} (h : Kept q n s) :
    Kept q n (State.leaseCommit s) := by
  unfold State.leaseCommit
  refine kept_ite ?_ ?_
  · exact State.leaseOut_kept h
  · exact h

theorem State.decidePair_kept {s} (h : Kept q n s) :
    Kept q n (State.decidePair s) := by
  unfold State.decidePair
  extract_lets +onlyGivenNames v1
  exact kept_upd h same

theorem State.applyMirror_kept {s a1} (h : Kept q n s) :
    Kept q n (State.applyMirror s a1) := by
  unfold State.applyMirror
  extract_lets +onlyGivenNames v1
  extract_lets +onlyGivenNames v2
  have h2 : Kept q n v2 := by
    unfold v2
    exact kept_upd h same
  clear_value v2
  extract_lets +onlyGivenNames v3
  have h3 : Kept q n v3 := by
    unfold v3
    exact State.modRed_kept h2
  clear_value v3
  extract_lets +onlyGivenNames v4
  extract_lets +onlyGivenNames v5
  have h5 : Kept q n v5 := by
    unfold v5
    split
    next y6 y7 y8 =>
      exact kept_upd h3 same
    next y9 y10 =>
      exact kept_upd h3 same
  clear_value v5
  extract_lets +onlyGivenNames v11
  have h11 : Kept q n v11 := by
    unfold v11
    exact State.learnTake_kept h5
  clear_value v11
  extract_lets +onlyGivenNames v12
  have h12 : Kept q n v12 := by
    unfold v12
    refine kept_foldl h11 ?_
    intro x13 x14 h15
    exact State.stepAllow_kept h15
  clear_value v12
  exact kept_upd h12 same

theorem State.skewFrame_kept {s} (h : Kept q n s) :
    Kept q n (State.skewFrame s) := by
  unfold State.skewFrame
  split
  next y1 y2 =>
    exact kept_upd h same
  next y3 y4 y5 =>
    extract_lets +onlyGivenNames v6
    extract_lets +onlyGivenNames v7
    extract_lets +onlyGivenNames v8
    have h8 : Kept q n v8 := by
      unfold v8
      exact kept_upd h same
    refine kept_ite ?_ ?_
    · exact State.raiseAlarm_kept h8
    · refine kept_ite ?_ ?_
      · exact State.clearAlarm_kept h8
      · exact h8

theorem State.rotateAge_kept {s} (h : Kept q n s) :
    Kept q n (State.rotateAge s) := by
  unfold State.rotateAge
  extract_lets +onlyGivenNames v1
  exact State.modRed_kept h

theorem State.relayFrame_kept {s} (h : Kept q n s) :
    Kept q n (State.relayFrame s) := by
  unfold State.relayFrame
  extract_lets +onlyGivenNames v1
  have h1 : Kept q n v1 := by
    unfold v1
    refine kept_foldl h ?_
    intro x2 x3 h4
    extract_lets +onlyGivenNames v5
    extract_lets +onlyGivenNames v6
    exact State.modRed_kept h4
  clear_value v1
  extract_lets +onlyGivenNames v7
  extract_lets +onlyGivenNames v8
  have h8 : Kept q n v8 := by
    unfold v8
    exact State.modRed_kept h1
  clear_value v8
  refine kept_ite ?_ ?_
  · exact State.clearAlarm_kept h8
  · exact h8

theorem State.uidFrame_kept {s} (h : Kept q n s) :
    Kept q n (State.uidFrame s) := by
  unfold State.uidFrame
  refine kept_ite ?_ ?_
  · exact State.clearAlarm_kept (State.modRed_kept h)
  · exact h

theorem State.gainFence_kept {s} (h : Kept q n s) :
    Kept q n (State.gainFence s) := by
  unfold State.gainFence
  refine kept_ite ?_ ?_
  · extract_lets +onlyGivenNames v1
    have h1 : Kept q n v1.2 := by
      unfold v1
      exact State.newEpoch_kept h
    clear_value v1
    exact State.gain_kept h1
  · exact h

theorem State.redFence_kept {s} (h : Kept q n s) :
    Kept q n (State.redFence s) := by
  unfold State.redFence
  extract_lets +onlyGivenNames v1
  have h1 : Kept q n v1 := by
    unfold v1
    exact State.uidFrame_kept (State.skewFrame_kept (State.relayFrame_kept (State.rotateAge_kept h)))
  clear_value v1
  extract_lets +onlyGivenNames v2
  have h2 : Kept q n v2 := by
    unfold v2
    exact State.gainFence_kept (State.modRed_kept h1)
  clear_value v2
  extract_lets +onlyGivenNames v3
  have h3 : Kept q n v3 := by
    unfold v3
    refine kept_ite ?_ ?_
    · exact State.setMode_kept h2
    · exact h2
  clear_value v3
  exact State.decidePair_kept (State.modRed_kept h3)

end Sys2Proof.Machine
end

