-- ==== Sys2Proof/Laws/KeptFrame.lean ====
section
/-!
SUPPORT. What every run keeps, through the operations and meanings of Machine/Frame.lean: one lemma for each.
-/
namespace Sys2Proof.Machine
variable {q : List Instr} {n : Nat}

theorem State.estCount_kept {s a1 a2} (h : Kept q n s) :
    Kept q n (State.estCount s a1 a2) := by
  unfold State.estCount
  extract_lets +onlyGivenNames v1
  refine kept_ite ?_ ?_
  · extract_lets +onlyGivenNames v2
    extract_lets +onlyGivenNames v3
    have h3 : Kept q n v3 := by
      unfold v3
      exact kept_upd h same
    clear_value v3
    refine kept_ite ?_ ?_
    · exact State.clearAlarm_kept h3
    · exact h3
  · extract_lets +onlyGivenNames v4
    extract_lets +onlyGivenNames v5
    have h5 : Kept q n v5 := by
      unfold v5
      exact kept_upd h same
    clear_value v5
    refine kept_ite ?_ ?_
    · exact State.raiseAlarm_kept h5
    · exact h5

theorem State.estDeadline_kept {s a1} (h : Kept q n s) :
    Kept q n (State.estDeadline s a1) := by
  unfold State.estDeadline
  extract_lets +onlyGivenNames v1
  extract_lets +onlyGivenNames v2
  extract_lets +onlyGivenNames v3
  have h3 : Kept q n v3 := by
    unfold v3
    refine State.estCount_kept ?_
    refine kept_ite ?_ ?_
    · exact State.estimate_kept h
    · exact State.estimateLate_kept h
  clear_value v3
  extract_lets +onlyGivenNames v4
  have h4 : Kept q n v4 := by
    unfold v4
    refine kept_ite ?_ ?_
    · exact State.publish_kept h3
    · exact h3
  clear_value v4
  extract_lets +onlyGivenNames v5
  have h5 : Kept q n v5 := by
    unfold v5
    exact State.holdBegin_kept (State.peerDiff_kept h4)
  clear_value v5
  exact kept_upd h5 same

theorem execEstimationDeadline_kept {t a1 s} (h : Kept q n s) :
    KeptR q (max n t) (execEstimationDeadline t a1 s) := by
  unfold execEstimationDeadline
  extract_lets +onlyGivenNames v1
  have h1 : Kept q (max n t) v1 := by
    unfold v1
    exact State.arrive_kept h
  clear_value v1
  refine keptR_next ?_
  refine kept_ite ?_ ?_
  · exact State.estDeadline_kept h1
  · exact h1

theorem State.poseCases_kept {s} (h : Kept q n s) :
    Kept q n (State.poseCases s).2 := by
  unfold State.poseCases
  extract_lets +onlyGivenNames v1
  have h1 : Kept q n v1 := by
    unfold v1
    exact State.bermStep_kept h
  clear_value v1
  extract_lets +onlyGivenNames v2
  extract_lets +onlyGivenNames v3
  extract_lets +onlyGivenNames v4
  have h4 : Kept q n v4 := by
    unfold v4
    exact kept_upd h1 same
  clear_value v4
  extract_lets +onlyGivenNames v5
  clear_value v2
  split
  next y6 y7 y8 y9 =>
    have h10 : Kept q n y7 := kept_fst y9 (State.cqaPose_kept h4)
    exact h10

theorem State.submitCases_kept {s a1} (h : Kept q n s) :
    Kept q n (State.submitCases s a1) := by
  unfold State.submitCases
  extract_lets +onlyGivenNames v1
  extract_lets +onlyGivenNames v2
  extract_lets +onlyGivenNames v3
  extract_lets +onlyGivenNames v4
  extract_lets +onlyGivenNames v5
  extract_lets +onlyGivenNames v6
  extract_lets +onlyGivenNames v7
  extract_lets +onlyGivenNames v8
  have h8 : Kept q n v8 := by
    unfold v8
    exact kept_upd h same
  clear_value v8
  extract_lets +onlyGivenNames v9
  have h9 : Kept q n v9 := by
    unfold v9
    exact State.henFirm_kept h8
  clear_value v9
  exact kept_upd h9 same

theorem State.allocSubmit_kept {s} (h : Kept q n s) :
    Kept q n (State.allocSubmit s) := by
  unfold State.allocSubmit
  extract_lets +onlyGivenNames v1
  have h1 : Kept q n v1 := by
    unfold v1
    exact State.holdEnd_kept (State.henSettle_kept h)
  clear_value v1
  extract_lets +onlyGivenNames v2
  extract_lets +onlyGivenNames v3
  extract_lets +onlyGivenNames v4
  have h4 : Kept q n v4 := by
    unfold v4
    exact kept_upd h1 same
  clear_value v4
  refine kept_ite ?_ ?_
  · exact State.alcNotPosed_kept h4
  · split
    next y5 y6 y7 y8 =>
      have h9 : Kept q n y7 := kept_snd y8 (State.poseCases_kept h4)
      extract_lets +onlyGivenNames v10
      have h10 : Kept q n v10 := by
        unfold v10
        exact State.alcDrop_kept h9
      clear_value v10
      extract_lets +onlyGivenNames v11
      have h11 : Kept q n v11 := by
        unfold v11
        refine kept_ite ?_ ?_
        · exact State.alcNotPosed_kept h10
        · exact State.submitCases_kept h10
      clear_value v11
      exact State.henSettle_kept (State.envSubmit_kept (State.whatifFrame_kept h11))

theorem execAllocSubmitInstant_kept {t s} (h : Kept q n s) :
    KeptR q (max n t) (execAllocSubmitInstant t s) := by
  unfold execAllocSubmitInstant
  extract_lets +onlyGivenNames v1
  have h1 : Kept q (max n t) v1 := by
    unfold v1
    exact State.arrive_kept h
  clear_value v1
  refine keptR_next ?_
  refine kept_ite ?_ ?_
  · exact State.allocSubmit_kept h1
  · exact h1

theorem State.stallStep_kept {s a1} (h : Kept q n s) :
    Kept q n (State.stallStep s a1) := by
  unfold State.stallStep
  extract_lets +onlyGivenNames v1
  refine kept_ite ?_ ?_
  · extract_lets +onlyGivenNames v2
    have h2 : Kept q n v2 := by
      unfold v2
      exact kept_upd h same
    clear_value v2
    extract_lets +onlyGivenNames v3
    have h3 : Kept q n v3 := by
      unfold v3
      refine kept_ite ?_ ?_
      · exact State.raiseAlarm_kept h2
      · exact h2
    clear_value v3
    refine kept_ite ?_ ?_
    · exact State.giveUp_kept (State.event_kept (kept_upd h3 same))
    · exact h3
  · exact State.clearAlarm_kept (kept_upd h same)

theorem State.sealClose_kept {s} (h : Kept q n s) :
    Kept q n (State.sealClose s) := by
  unfold State.sealClose
  extract_lets +onlyGivenNames v1
  extract_lets +onlyGivenNames v2
  extract_lets +onlyGivenNames v3
  extract_lets +onlyGivenNames v4
  have h4 : Kept q n v4 := by
    unfold v4
    exact kept_upd h same
  clear_value v4
  refine kept_ite ?_ ?_
  · exact State.stallStep_kept h4
  · exact h4

theorem execSealWindowClose_kept {t s} (h : Kept q n s) :
    KeptR q (max n t) (execSealWindowClose t s) := by
  unfold execSealWindowClose
  extract_lets +onlyGivenNames v1
  have h1 : Kept q (max n t) v1 := by
    unfold v1
    exact State.arrive_kept h
  clear_value v1
  refine keptR_next ?_
  refine kept_ite ?_ ?_
  · exact State.sealClose_kept h1
  · exact h1

theorem State.commitNow_kept {s} (h : Kept q n s) :
    Kept q n (State.commitNow s) := by
  unfold State.commitNow
  extract_lets +onlyGivenNames v1
  have h1 : Kept q n v1 := by
    unfold v1
    exact State.leaseCommit_kept h
  clear_value v1
  extract_lets +onlyGivenNames v2
  have h2 : Kept q n v2 := by
    unfold v2
    exact State.modRed_kept h1
  clear_value v2
  extract_lets +onlyGivenNames v3
  have h3 : Kept q n v3 := by
    unfold v3
    refine kept_ite ?_ ?_
    · exact State.thrCommit_kept h2
    · exact h2
  clear_value v3
  exact kept_upd h3 same

theorem execCommitInstant_kept {t s} (h : Kept q n s) :
    KeptR q (max n t) (execCommitInstant t s) := by
  unfold execCommitInstant
  extract_lets +onlyGivenNames v1
  have h1 : Kept q (max n t) v1 := by
    unfold v1
    exact State.arrive_kept h
  clear_value v1
  refine keptR_next ?_
  refine kept_ite ?_ ?_
  · exact State.commitNow_kept h1
  · exact h1

theorem execFrameClockStep_kept {t a1 s} (h : Kept q n s) :
    KeptR q (max n t) (execFrameClockStep t a1 s) := by
  unfold execFrameClockStep
  extract_lets +onlyGivenNames v1
  have h1 : Kept q (max n t) v1 := by
    unfold v1
    exact State.arrive_kept h
  clear_value v1
  refine keptR_guard ?_
  refine kept_ite ?_ ?_
  · exact State.vcStep_kept h1
  · exact h1

end Sys2Proof.Machine
end

