-- ==== Sys2Proof/Laws/KeptLog.lean ====
section
/-!
SUPPORT. What every run keeps, through the operations and meanings of Machine/Log.lean: one lemma for each.
-/
namespace Sys2Proof.Machine
variable {q : List Instr} {n : Nat}

theorem State.fullCheck_kept {s} (h : Kept q n s) :
    Kept q n (State.fullCheck s) := by
  unfold State.fullCheck
  refine kept_ite ?_ ?_
  · exact State.raiseAlarm_kept h
  · exact h

theorem State.logRelease_kept {s a1} (h : Kept q n s) :
    Kept q n (State.logRelease s a1) := by
  unfold State.logRelease
  extract_lets +onlyGivenNames v2
  have h2 : Kept q n v2 := State.writeHeld_kept h
  clear_value v2
  extract_lets +onlyGivenNames put
  extract_lets +onlyGivenNames v5
  extract_lets +onlyGivenNames w
  extract_lets +onlyGivenNames v6
  have h6 : Kept q n v6 := by
    unfold v6
    refine kept_foldl (kept_upd h2 same) ?_
    intro x7 x8 h9
    unfold put
    refine log_kept h9 ?_
    split
    · exact ⟨rfl, rfl, rfl⟩
    · cases k : x7.log.placeSnap x8 with
      | none => exact ⟨rfl, rfl, rfl⟩
      | some m => exact placeSnap_sizes k
  clear_value v6
  exact State.fullCheck_kept (State.submitRec_kept (State.dropAlarm_kept h6))

theorem State.logThaw_kept {s a1} (h : Kept q n s) :
    Kept q n (State.logThaw s a1) := by
  unfold State.logThaw
  refine kept_ite ?_ ?_
  · exact h
  · exact State.logRelease_kept (kept_upd h same)

theorem State.logFail_kept {s a1 a2 a3 a4} (h : Kept q n s) :
    Kept q n (State.logFail s a1 a2 a3 a4) := by
  unfold State.logFail
  refine kept_ite ?_ ?_
  · exact h
  · extract_lets +onlyGivenNames v1
    extract_lets +onlyGivenNames v2
    extract_lets +onlyGivenNames v3
    have h3 : Kept q n v3 := by
      unfold v3
      exact kept_upd h same
    clear_value v3
    extract_lets +onlyGivenNames v4
    have h4 : Kept q n v4 := by
      unfold v4
      split
      next y5 y6 =>
        exact State.storeSpill_kept h3
      next y7 =>
        exact h3
    clear_value v4
    extract_lets +onlyGivenNames v8
    have h8 : Kept q n v8.2 := by
      unfold v8
      exact State.takeSeq_kept h4
    clear_value v8
    extract_lets +onlyGivenNames v9
    extract_lets +onlyGivenNames v10
    have h10 : Kept q n v10 := by
      unfold v10
      exact State.storeSpill_kept h8
    clear_value v10
    extract_lets +onlyGivenNames v11
    have h11 : Kept q n v11 := by
      unfold v11
      exact State.raiseAlarm_kept h10
    clear_value v11
    refine kept_ite ?_ ?_
    · exact State.logRelease_kept h11
    · exact h11

theorem State.logReadCheck_kept {s a1} (h : Kept q n s) :
    Kept q n (State.logReadCheck s a1) := by
  unfold State.logReadCheck
  split
  next y1 y2 =>
    exact h
  next y3 y4 y5 =>
    exact State.logFail_kept h

theorem execLogRecordSubmit_kept {t a1 a2 a3 a4 s} (h : Kept q n s) :
    KeptR q (max n t) (execLogRecordSubmit t a1 a2 a3 a4 s) := by
  unfold execLogRecordSubmit
  refine keptR_next ?_
  exact State.submitRec_kept (State.arrive_kept h)

theorem State.releaseDue_kept {a0 s} (h : Kept q n s) :
    Kept q n (State.releaseDue a0 s) := by
  induction a0 generalizing s with
  | zero =>
    unfold State.releaseDue
    exact h
  | succ b1 ih =>
    unfold State.releaseDue
    refine kept_ite ?_ ?_
    · split
      next y1 y2 =>
        exact h
      next y3 y4 y5 =>
        apply ih
        exact State.releaseEntry_kept h
    · exact h

theorem State.releaseFail_kept {s} (h : Kept q n s) :
    Kept q n (State.releaseFail s) := by
  unfold State.releaseFail
  split
  next y1 y2 =>
    exact h
  next y3 y4 y5 =>
    refine kept_ite ?_ ?_
    · split
      next y6 y7 y8 y9 =>
        have h10 : Kept q n y7 := kept_fst y9 (State.numberEntry_kept h)
        extract_lets +onlyGivenNames v11
        extract_lets +onlyGivenNames v12
        have h12 : Kept q n v12 := by
          unfold v12
          exact kept_upd h10 same
        clear_value v12
        exact State.logFail_kept h12
    · exact h

theorem execLogRecordRelease_kept {t a1 s} (h : Kept q n s) :
    KeptR q (max n t) (execLogRecordRelease t s a1) := by
  unfold execLogRecordRelease
  extract_lets +onlyGivenNames v1
  have h1 : Kept q (max n t) v1 := by
    unfold v1
    exact State.arrive_kept h
  clear_value v1
  refine keptR_next ?_
  refine kept_ite ?_ ?_
  · extract_lets +onlyGivenNames v2
    have h2 : Kept q (max n t) v2 := by
      unfold v2
      refine kept_ite ?_ ?_
      · exact State.releaseFail_kept h1
      · exact h1
    clear_value v2
    exact State.fullCheck_kept (State.releaseDue_kept h2)
  · exact h1

theorem execLogFreezeTimeout_kept {t s} (h : Kept q n s) :
    KeptR q (max n t) (execLogFreezeTimeout t s) := by
  unfold execLogFreezeTimeout
  extract_lets +onlyGivenNames v1
  have h1 : Kept q (max n t) v1 := by
    unfold v1
    exact State.arrive_kept h
  clear_value v1
  refine keptR_next ?_
  refine kept_ite ?_ ?_
  · extract_lets +onlyGivenNames v2
    extract_lets +onlyGivenNames v3
    have h3 : Kept q (max n t) v3 := by
      unfold v3
      exact State.logThaw_kept h1
    clear_value v3
    exact kept_upd h3 same
  · exact h1

theorem State.modRd_kept {s a1 a2} (h : Kept q n s) :
    Kept q n (State.modRd s a1 a2) := by
  unfold State.modRd
  exact kept_upd h (fun e => by simpa [State.sizes, unitSizes] using e)

theorem State.logSpoil_kept {s a1 a2} (h : Kept q n s) :
    Kept q n (State.logSpoil s a1 a2) := by
  unfold State.logSpoil
  extract_lets +onlyGivenNames v1
  refine kept_ite ?_ ?_
  · exact kept_upd h same
  · refine kept_ite ?_ ?_
    · exact kept_upd h same
    · exact h

theorem State.logRdGo_kept {s a1 a2} (h : Kept q n s) :
    Kept q n (State.logRdGo s a1 a2) := by
  unfold State.logRdGo
  extract_lets +onlyGivenNames v1
  extract_lets +onlyGivenNames v2
  extract_lets +onlyGivenNames v3
  have h3 : Kept q n v3 := by
    unfold v3
    exact State.modRd_kept h
  clear_value v3
  extract_lets +onlyGivenNames v4
  extract_lets +onlyGivenNames v5
  refine kept_ite ?_ ?_
  · exact h3
  · refine kept_ite ?_ ?_
    · clear_value v1
      clear_value v4
      split
      next y6 y7 =>
        exact State.modRd_kept h3
      next y8 y9 y10 =>
        refine kept_ite ?_ ?_
        · unfold v5
          exact State.modRd_kept h3
        · extract_lets +onlyGivenNames v11
          have h11 : Kept q n v11 := by
            unfold v11
            unfold v5
            exact State.modRd_kept h3
          clear_value v11
          refine kept_ite ?_ ?_
          · exact State.logReadCheck_kept h11
          · exact h11
    · clear_value v4
      split
      next y12 y13 =>
        exact State.modRd_kept h3
      next y14 y15 y16 =>
        refine kept_ite ?_ ?_
        · unfold v5
          exact State.modRd_kept h3
        · clear_value v2
          split
          next y17 y18 =>
            exact State.modRd_kept h3
          next y19 y20 y21 =>
            unfold v5
            exact State.modRd_kept h3

theorem execLogRdGo_kept {t a1 a2 a3 s} (h : Kept q n s) :
    KeptR q (max n t) (execLogRdGo t a1 a2 s a3) := by
  unfold execLogRdGo
  extract_lets +onlyGivenNames v1
  have h1 : Kept q (max n t) v1 := by
    unfold v1
    exact State.arrive_kept h
  clear_value v1
  refine keptR_next ?_
  refine kept_ite ?_ ?_
  · extract_lets +onlyGivenNames v2
    have h2 : Kept q (max n t) v2 := by
      unfold v2
      refine kept_ite ?_ ?_
      · exact State.logSpoil_kept h1
      · exact h1
    clear_value v2
    exact State.logRdGo_kept h2
  · exact h1

theorem State.logOptimeLo_kept {s a1} (h : Kept q n s) :
    Kept q n (State.logOptimeLo s a1).2 := by
  unfold State.logOptimeLo
  exact State.modRd_kept h

theorem execLogOptimeLoRead_kept {t a1 s} (h : Kept q n s) :
    KeptR q (max n t) (execLogOptimeLoRead t a1 s) := by
  unfold execLogOptimeLoRead
  extract_lets +onlyGivenNames v1
  have h1 : Kept q (max n t) v1 := by
    unfold v1
    exact State.arrive_kept h
  clear_value v1
  refine keptR_next ?_
  refine kept_ite ?_ ?_
  · extract_lets +onlyGivenNames v2
    have h2 : Kept q (max n t) v2.2 := by
      unfold v2
      exact State.logOptimeLo_kept h1
    clear_value v2
    exact State.emit_kept h2
  · exact h1

theorem State.logFrame_kept {s} (h : Kept q n s) :
    Kept q n (State.logFrame s) := by
  unfold State.logFrame
  extract_lets +onlyGivenNames v1
  extract_lets +onlyGivenNames v2
  have h2 : Kept q n v2 := by
    unfold v2
    exact kept_upd h same
  clear_value v2
  extract_lets +onlyGivenNames v3
  extract_lets +onlyGivenNames v4
  have h4 : Kept q n v4 := by
    unfold v4
    exact kept_upd h2 same
  clear_value v4
  extract_lets +onlyGivenNames v5
  have h5 : Kept q n v5 := by
    unfold v5
    refine kept_ite ?_ ?_
    · exact State.clearAlarm_kept h4
    · exact h4
  clear_value v5
  split
  next y6 y7 =>
    exact h5
  next y8 y9 y10 =>
    refine kept_ite ?_ ?_
    · exact State.clearAlarm_kept h5
    · exact State.raiseAlarm_kept h5

theorem State.logDrain_kept {s} (h : Kept q n s) :
    Kept q n (State.logDrain s) := by
  unfold State.logDrain
  exact State.flushQueue_kept (State.logThaw_kept h)

theorem State.logReset_kept {s} (h : Kept q n s) :
    Kept q n (State.logReset s) := by
  unfold State.logReset
  refine kept_foldl (kept_upd h (fun e => ?_)) (fun s a k => kept_ite (State.direct_kept (State.dropAlarm_kept k)) k)
  simp [State.sizes, unitSizes] at e ⊢
  simp [e]

theorem State.logUp_kept {s} (h : Kept q n s) :
    Kept q n (State.logUp s) := by
  unfold State.logUp
  extract_lets +onlyGivenNames v1
  refine kept_ite ?_ ?_
  · exact h
  · exact State.direct_kept (kept_upd h same)

theorem State.logStart_kept {s} (h : Kept q n s) :
    Kept q n (State.logStart s) := by
  unfold State.logStart
  extract_lets +onlyGivenNames v1
  extract_lets +onlyGivenNames v2
  have h2 : Kept q n v2 := by
    unfold v2
    exact kept_upd h same
  clear_value v2
  extract_lets +onlyGivenNames v3
  extract_lets +onlyGivenNames v4
  have h4 : Kept q n v4 := by
    unfold v4
    split
    next y5 y6 =>
      exact h
    next y7 y8 y9 =>
      refine kept_ite ?_ ?_
      · exact State.storeRec_kept h2
      · exact State.direct_kept (kept_upd h2 same)
  clear_value v4
  refine kept_ite ?_ ?_
  · extract_lets +onlyGivenNames v10
    clear_value v10
    split
    next y11 y12 =>
      exact kept_upd h4 same
    next y13 =>
      exact h4
  · exact h4

theorem State.logCut_kept {s a1} (h : Kept q n s) :
    Kept q n (State.logCut s a1) := by
  unfold State.logCut
  refine kept_ite ?_ ?_
  · exact h
  · split
    next y1 y2 =>
      exact h
    next y3 y4 y5 =>
      split
      next y6 y7 y8 y9 =>
        have h10 : Kept q n y7 := kept_fst y9 (State.numberEntry_kept h)
        exact kept_upd h10 same

theorem State.logFreeze_kept {s} (h : Kept q n s) :
    Kept q n (State.logFreeze s) := by
  unfold State.logFreeze
  extract_lets +onlyGivenNames v1
  have h1 : Kept q n v1 := by
    unfold v1
    exact State.releaseDue_kept h
  clear_value v1
  extract_lets +onlyGivenNames v2
  have h2 : Kept q n v2.2 := by
    unfold v2
    exact State.takeSeq_kept h1
  clear_value v2
  extract_lets +onlyGivenNames v3
  extract_lets +onlyGivenNames v4
  have h4 : Kept q n v4 := by
    unfold v4
    exact State.storeRec_kept h2
  clear_value v4
  exact kept_upd h4 same

theorem opLogFreeze_kept : KeptOp opLogFreeze := by
  constructor
  · intro q n s a b p h
    unfold opLogFreeze
    dsimp -zeta only
    extract_lets +onlyGivenNames v1
    have h1 : Kept q n v1 := by
      unfold v1
      exact State.logFreeze_kept h
    clear_value v1
    exact h1
  · intro q n s p h
    unfold opLogFreeze
    dsimp -zeta only
    exact h

theorem State.thawReason_kept {s} (h : Kept q n s) :
    Kept q n (State.thawReason s) := by
  unfold State.thawReason
  exact kept_upd h same

theorem opLogThaw_kept : KeptOp opLogThaw := by
  constructor
  · intro q n s a b p h
    unfold opLogThaw
    dsimp -zeta only
    split
    next y1 y2 y3 y4 =>
      exact State.thawReason_kept h
    next y5 y6 =>
      exact State.logThaw_kept h
  · intro q n s p h
    unfold opLogThaw
    dsimp -zeta only
    exact h

theorem opLogRead_kept : KeptOp opLogRead := by
  constructor
  · intro q n s a b p h
    unfold opLogRead
    dsimp -zeta only
    extract_lets +onlyGivenNames v1
    extract_lets +onlyGivenNames v2
    extract_lets +onlyGivenNames v3
    extract_lets +onlyGivenNames v4
    extract_lets +onlyGivenNames v5
    extract_lets +onlyGivenNames v6
    extract_lets +onlyGivenNames v7
    extract_lets +onlyGivenNames v8
    extract_lets +onlyGivenNames v9
    extract_lets +onlyGivenNames v10
    extract_lets +onlyGivenNames v11
    refine kept_mk_fst ?_
    refine kept_ite ?_ ?_
    · exact State.logReadCheck_kept h
    · exact h
  · intro q n s p h
    unfold opLogRead
    dsimp -zeta only
    exact h

theorem opLogSnapRead_kept : KeptOp opLogSnapRead := by
  constructor
  · intro q n s a b p h
    unfold opLogSnapRead
    dsimp -zeta only
    extract_lets +onlyGivenNames v1
    exact h
  · intro q n s p h
    unfold opLogSnapRead
    dsimp -zeta only
    exact h

theorem opLogCodes_kept : KeptOp opLogCodes := by
  constructor
  · intro q n s a b p h
    unfold opLogCodes
    dsimp -zeta only
    extract_lets +onlyGivenNames v1
    extract_lets +onlyGivenNames v2
    exact h
  · intro q n s p h
    unfold opLogCodes
    dsimp -zeta only
    exact h

theorem opLogExport_kept : KeptOp opLogExport := by
  constructor
  · intro q n s a b p h
    unfold opLogExport
    dsimp -zeta only
    exact kept_upd h same
  · intro q n s p h
    unfold opLogExport
    dsimp -zeta only
    exact h

theorem State.logExportEnd_kept {s} (h : Kept q n s) :
    Kept q n (State.logExportEnd s) := by
  unfold State.logExportEnd
  split
  next y1 y2 =>
    exact h
  next y3 y4 y5 y6 =>
    extract_lets +onlyGivenNames v7
    extract_lets +onlyGivenNames v8
    extract_lets +onlyGivenNames v9
    exact State.completeCmd_kept (kept_upd h same)

theorem opLogSpillEnd_kept : KeptOp opLogSpillEnd := by
  constructor
  · intro q n s a b p h
    unfold opLogSpillEnd
    dsimp -zeta only
    exact kept_upd h same
  · intro q n s p h
    unfold opLogSpillEnd
    dsimp -zeta only
    exact h

theorem State.logSpillTested_kept {s a1} (h : Kept q n s) :
    Kept q n (State.logSpillTested s a1) := by
  unfold State.logSpillTested
  split
  next y1 y2 =>
    exact h
  next y3 y4 y5 y6 =>
    extract_lets +onlyGivenNames v7
    extract_lets +onlyGivenNames v8
    have h8 : Kept q n v8 := by
      unfold v8
      exact kept_upd h same
    clear_value v8
    extract_lets +onlyGivenNames v9
    extract_lets +onlyGivenNames v10
    extract_lets +onlyGivenNames v11
    have h11 : Kept q n v11 := by
      unfold v11
      exact kept_upd h8 same
    clear_value v11
    extract_lets +onlyGivenNames v12
    have h12 : Kept q n v12 := by
      unfold v12
      refine kept_ite ?_ ?_
      · refine State.clearAlarm_kept ?_
        refine kept_foldl h11 ?_
        intro x13 x14 h15
        exact State.storeMram_kept h15
      · exact h8
    clear_value v12
    exact State.completeCmd_kept h12

end Sys2Proof.Machine
end

