-- ==== Sys2Proof/Laws/KeptSafe.lean ====
section
/-!
SUPPORT. What every run keeps, through the operations and meanings of Machine/Safe.lean: one lemma for each.
-/
namespace Sys2Proof.Machine
variable {q : List Instr} {n : Nat}

theorem State.demandRecord_kept {s a1 a2 a3} (h : Kept q n s) :
    Kept q n (State.demandRecord s a1 a2 a3) := by
  unfold State.demandRecord
  refine kept_ite ?_ ?_
  · exact State.submitRec_kept h
  · exact h

theorem State.discLatch_kept {s a1} (h : Kept q n s) :
    Kept q n (State.discLatch s a1) := by
  unfold State.discLatch
  exact State.safeL_kept (State.safetyFault_kept (State.modSafe_kept h (by simp)))

theorem State.inputEdge_kept {s a1 a2 a3} (h : Kept q n s) :
    Kept q n (State.inputEdge s a1 a2 a3) := by
  unfold State.inputEdge
  extract_lets +onlyGivenNames v1
  have h1 : Kept q n v1 := by
    unfold v1
    refine kept_ite ?_ ?_
    · exact State.discLatch_kept h
    · exact h
  clear_value v1
  extract_lets +onlyGivenNames v2
  extract_lets +onlyGivenNames v3
  have h3 : Kept q n v3 := by
    unfold v3
    exact State.modSafe_kept h1 (by simp)
  clear_value v3
  extract_lets +onlyGivenNames v4
  have h4 : Kept q n v4 := by
    unfold v4
    exact State.modSafe_kept h3 (by simp)
  clear_value v4
  refine kept_ite ?_ ?_
  · exact State.safeL_kept (State.demandRecord_kept h4)
  · exact h4

theorem execSafeInputEdge_kept {t a1 a2 a3 s} (h : Kept q n s) :
    KeptR q (max n t) (execSafeInputEdge t a1 a2 a3 s) := by
  unfold execSafeInputEdge
  extract_lets +onlyGivenNames v1
  have h1 : Kept q (max n t) v1 := by
    unfold v1
    exact State.arrive_kept h
  clear_value v1
  refine keptR_guard ?_
  exact State.inputEdge_kept h1

theorem State.pulseFault_kept {s a1 a2 a3} (h : Kept q n s) :
    Kept q n (State.pulseFault s a1 a2 a3) := by
  unfold State.pulseFault
  extract_lets +onlyGivenNames v1
  extract_lets +onlyGivenNames v2
  have h2 : Kept q n v2 := by
    unfold v2
    exact State.modSafe_kept h (by simp)
  clear_value v2
  exact State.safeL_kept (State.demandRecord_kept (State.safetyFault_kept h2))

theorem execTestPulseCheck_kept {t a1 a2 a3 s} (h : Kept q n s) :
    KeptR q (max n t) (execTestPulseCheck t a1 a2 a3 s) := by
  unfold execTestPulseCheck
  extract_lets +onlyGivenNames v1
  have h1 : Kept q (max n t) v1 := by
    unfold v1
    exact State.arrive_kept h
  clear_value v1
  extract_lets +onlyGivenNames v2
  extract_lets +onlyGivenNames v3
  refine keptR_guard ?_
  refine kept_ite ?_ ?_
  · exact State.pulseFault_kept h1
  · exact h1

theorem execDiscrepancyExpiry_kept {t a1 s} (h : Kept q n s) :
    KeptR q (max n t) (execDiscrepancyExpiry t a1 s) := by
  unfold execDiscrepancyExpiry
  extract_lets +onlyGivenNames v1
  have h1 : Kept q (max n t) v1 := by
    unfold v1
    exact State.arrive_kept h
  clear_value v1
  refine keptR_guard ?_
  refine kept_ite ?_ ?_
  · exact State.discLatch_kept h1
  · exact h1

theorem State.techFault_kept {s a1 a2 a3} (h : Kept q n s) :
    Kept q n (State.techFault s a1 a2 a3) := by
  unfold State.techFault
  extract_lets +onlyGivenNames v1
  have h1 : Kept q n v1 := by
    unfold v1
    exact State.modSafe_kept h rfl
  clear_value v1
  extract_lets +onlyGivenNames v2
  have h2 : Kept q n v2 := by
    unfold v2
    exact State.safeStopEnter_kept (State.safetyFault_kept h1)
  clear_value v2
  extract_lets +onlyGivenNames v3
  extract_lets +onlyGivenNames v4
  have h4 : Kept q n v4 := by
    unfold v4
    exact kept_upd h2 same
  clear_value v4
  extract_lets +onlyGivenNames v5
  have h5 : Kept q n v5 := by
    unfold v5
    refine kept_ite ?_ ?_
    · exact h4
    · exact State.setMode_kept h4
  clear_value v5
  exact State.giveUp_kept h5

theorem State.safePCycle_kept {s a1} (h : Kept q n s) :
    Kept q n (State.safePCycle s a1) := by
  unfold State.safePCycle
  extract_lets +onlyGivenNames v1
  extract_lets +onlyGivenNames v2
  have h2 : Kept q n v2 := by
    unfold v2
    exact State.abortDemanded_kept h
  clear_value v2
  extract_lets +onlyGivenNames v3
  have h3 : Kept q n v3 := by
    unfold v3
    refine State.modSafe_kept h2 ?_
    dsimp only
    rw [SafeSt.driveP_sizes, SafeSt.eval_sizes, sizes_foldl (fun x j => SafeSt.watchSlt_sizes x _ j)]
    rfl
  clear_value v3
  extract_lets +onlyGivenNames v4
  have h4 : Kept q n v4 := by
    unfold v4
    refine State.modSafe_kept h3 ?_
    split
    · exact SafeSt.driveL_sizes _
    · rfl
  clear_value v4
  extract_lets +onlyGivenNames v5
  have h5 : Kept q n v5 := by
    unfold v5
    exact State.stopRecords_kept (State.noteDiffer_kept h4)
  clear_value v5
  split
  next y6 y7 =>
    exact h5
  next y8 y9 y10 =>
    refine kept_ite ?_ ?_
    · exact State.techFault_kept h5
    · exact h5

theorem execSafePCycle_kept {t a1 s} (h : Kept q n s) :
    KeptR q (max n t) (execSafePCycle t a1 s) := by
  unfold execSafePCycle
  extract_lets +onlyGivenNames v1
  have h1 : Kept q (max n t) v1 := by
    unfold v1
    exact State.arrive_kept h
  clear_value v1
  refine keptR_next ?_
  refine kept_ite ?_ ?_
  · exact State.safePCycle_kept h1
  · exact h1

theorem execSafeWatchdogExpiry_kept {t s} (h : Kept q n s) :
    KeptR q (max n t) (execSafeWatchdogExpiry t s) := by
  unfold execSafeWatchdogExpiry
  extract_lets +onlyGivenNames v1
  have h1 : Kept q (max n t) v1 := by
    unfold v1
    exact State.arrive_kept h
  clear_value v1
  refine keptR_next ?_
  refine kept_ite ?_ ?_
  · exact State.techFault_kept h1
  · exact h1

theorem execSafePathDisagree_kept {t s} (h : Kept q n s) :
    KeptR q (max n t) (execSafePathDisagree t s) := by
  unfold execSafePathDisagree
  extract_lets +onlyGivenNames v1
  have h1 : Kept q (max n t) v1 := by
    unfold v1
    exact State.arrive_kept h
  clear_value v1
  refine keptR_next ?_
  refine kept_ite ?_ ?_
  · exact State.raiseAlarm_kept (State.techFault_kept h1)
  · exact h1

theorem execSafePLockstepMismatch_kept {t s} (h : Kept q n s) :
    KeptR q (max n t) (execSafePLockstepMismatch t s) := by
  unfold execSafePLockstepMismatch
  extract_lets +onlyGivenNames v1
  have h1 : Kept q (max n t) v1 := by
    unfold v1
    exact State.arrive_kept h
  clear_value v1
  refine keptR_next ?_
  refine kept_ite ?_ ?_
  · exact State.techFault_kept h1
  · exact h1

theorem execProcessStopRequest_kept {t a1 a2 s} (h : Kept q n s) :
    KeptR q (max n t) (execProcessStopRequest t a1 a2 s) := by
  unfold execProcessStopRequest
  extract_lets +onlyGivenNames v1
  have h1 : Kept q (max n t) v1 := by
    unfold v1
    exact State.arrive_kept h
  clear_value v1
  refine keptR_next ?_
  refine kept_ite ?_ ?_
  · exact h1
  · refine kept_ite ?_ ?_
    · exact State.processStop_kept h1
    · exact State.requestStop_kept h1

theorem execStsDelayExpiry_kept {t a1 s} (h : Kept q n s) :
    KeptR q (max n t) (execStsDelayExpiry t a1 s) := by
  unfold execStsDelayExpiry
  extract_lets +onlyGivenNames v1
  have h1 : Kept q (max n t) v1 := by
    unfold v1
    exact State.arrive_kept h
  clear_value v1
  refine keptR_guard ?_
  split
  next y2 y3 =>
    exact h1
  next y4 y5 y6 =>
    refine kept_ite ?_ ?_
    · exact State.safeBoth_kept (State.modSafe_kept h1 (by simp))
    · exact h1

theorem State.stsFault_kept {s a1 a2} (h : Kept q n s) :
    Kept q n (State.stsFault s a1 a2) := by
  unfold State.stsFault
  exact State.safeBoth_kept (State.safetyFault_kept (State.modSafe_kept h (by simp)))

theorem execStsOffPulse_kept {t a1 a2 a3 s} (h : Kept q n s) :
    KeptR q (max n t) (execStsOffPulse t a1 a2 a3 s) := by
  unfold execStsOffPulse
  extract_lets +onlyGivenNames v1
  have h1 : Kept q (max n t) v1 := by
    unfold v1
    exact State.arrive_kept h
  clear_value v1
  extract_lets +onlyGivenNames v2
  refine keptR_guard ?_
  refine kept_ite ?_ ?_
  · extract_lets +onlyGivenNames v3
    have h3 : Kept q (max n t) v3 := by
      unfold v3
      exact State.modSafe_kept h1 (by simp)
    clear_value v3
    refine kept_ite ?_ ?_
    · exact h3
    · exact State.stsFault_kept h3
  · exact h1

theorem execSafetyOutputFault_kept {t a1 s} (h : Kept q n s) :
    KeptR q (max n t) (execSafetyOutputFault t a1 s) := by
  unfold execSafetyOutputFault
  extract_lets +onlyGivenNames v1
  have h1 : Kept q (max n t) v1 := by
    unfold v1
    exact State.arrive_kept h
  clear_value v1
  refine keptR_guard ?_
  refine kept_ite ?_ ?_
  · exact h1
  · refine kept_ite ?_ ?_
    · refine kept_ite ?_ ?_
      · exact h1
      · exact State.stsFault_kept h1
    · extract_lets +onlyGivenNames v2
      refine kept_ite ?_ ?_
      · exact State.safeBoth_kept (State.safetyFault_kept (State.modSafe_kept h1 (by simp)))
      · exact h1

theorem execBrakeSetSpeedReached_kept {t a1 s} (h : Kept q n s) :
    KeptR q (max n t) (execBrakeSetSpeedReached t a1 s) := by
  unfold execBrakeSetSpeedReached
  extract_lets +onlyGivenNames v1
  have h1 : Kept q (max n t) v1 := by
    unfold v1
    exact State.arrive_kept h
  clear_value v1
  refine keptR_guard ?_
  refine kept_ite ?_ ?_
  · exact State.safeBoth_kept h1
  · exact h1

theorem execBrakeTestDue_kept {t a1 s} (h : Kept q n s) :
    KeptR q (max n t) (execBrakeTestDue t a1 s) := by
  unfold execBrakeTestDue
  extract_lets +onlyGivenNames v1
  have h1 : Kept q (max n t) v1 := by
    unfold v1
    exact State.arrive_kept h
  clear_value v1
  refine keptR_guard ?_
  exact State.overdue_kept h1

theorem State.sealTest_kept {s a1 a2 a3} (h : Kept q n s) :
    Kept q n (State.sealTest s a1 a2 a3) := by
  unfold State.sealTest
  refine kept_ite ?_ ?_
  · exact State.thrSeal_kept (State.modTch_kept h)
  · exact h

theorem State.testPhase_kept {s a1 a2} (h : Kept q n s) :
    Kept q n (State.testPhase s a1 a2) := by
  unfold State.testPhase
  exact State.modSafe_kept h (by simp)

theorem execBrakeTestThrust_kept {t a1 s} (h : Kept q n s) :
    KeptR q (max n t) (execBrakeTestThrust t a1 s) := by
  unfold execBrakeTestThrust
  extract_lets +onlyGivenNames v1
  have h1 : Kept q (max n t) v1 := by
    unfold v1
    exact State.arrive_kept h
  clear_value v1
  refine keptR_guard ?_
  refine kept_ite ?_ ?_
  · exact State.sealTest_kept (State.testPhase_kept h1)
  · exact h1

theorem execBrakeTestThrustEnd_kept {t a1 s} (h : Kept q n s) :
    KeptR q (max n t) (execBrakeTestThrustEnd t a1 s) := by
  unfold execBrakeTestThrustEnd
  extract_lets +onlyGivenNames v1
  have h1 : Kept q (max n t) v1 := by
    unfold v1
    exact State.arrive_kept h
  clear_value v1
  refine keptR_guard ?_
  refine kept_ite ?_ ?_
  · exact State.sealTest_kept (State.testPhase_kept h1)
  · exact h1

theorem State.testEnd_kept {s a1 a2 a3} (h : Kept q n s) :
    Kept q n (State.testEnd s a1 a2 a3) := by
  unfold State.testEnd
  extract_lets +onlyGivenNames v1
  extract_lets +onlyGivenNames v2
  split
  next y3 y4 =>
    exact h
  next y5 y6 y7 =>
    extract_lets +onlyGivenNames v8
    have h8 : Kept q n v8 := by
      unfold v8
      exact State.modSafe_kept h (by simp)
    clear_value v8
    extract_lets +onlyGivenNames v9
    have h9 : Kept q n v9 := by
      unfold v9
      refine kept_ite ?_ ?_
      · exact State.clearAlarm_kept (State.clearAlarm_kept (State.event_kept h8))
      · exact State.raiseAlarm_kept h8
    clear_value v9
    exact State.completeCmd_kept (State.safeBoth_kept h9)

theorem execBrakeTestResult_kept {t a1 a2 a3 s} (h : Kept q n s) :
    KeptR q (max n t) (execBrakeTestResult t a1 a2 a3 s) := by
  unfold execBrakeTestResult
  extract_lets +onlyGivenNames v1
  have h1 : Kept q (max n t) v1 := by
    unfold v1
    exact State.arrive_kept h
  clear_value v1
  refine keptR_guard ?_
  refine kept_ite ?_ ?_
  · exact State.testEnd_kept h1
  · exact h1

theorem State.sltViolate_kept {s a1} (h : Kept q n s) :
    Kept q n (State.sltViolate s a1) := by
  unfold State.sltViolate
  exact State.safeBoth_kept (State.modSafe_kept h (by simp))

theorem execSltViolation_kept {t a1 s} (h : Kept q n s) :
    KeptR q (max n t) (execSltViolation t a1 s) := by
  unfold execSltViolation
  extract_lets +onlyGivenNames v1
  have h1 : Kept q (max n t) v1 := by
    unfold v1
    exact State.arrive_kept h
  clear_value v1
  refine keptR_guard ?_
  refine kept_ite ?_ ?_
  · exact State.sltViolate_kept h1
  · exact h1

theorem State.encoderFault_kept {s a1} (h : Kept q n s) :
    Kept q n (State.encoderFault s a1) := by
  unfold State.encoderFault
  extract_lets +onlyGivenNames v1
  have h1 : Kept q n v1 := by
    unfold v1
    exact State.modSafe_kept h rfl
  clear_value v1
  extract_lets +onlyGivenNames v2
  have h2 : Kept q n v2 := by
    unfold v2
    refine State.safetyFault_kept ?_
    refine kept_foldl h1 ?_
    intro x3 x4 h5
    refine kept_ite ?_ ?_
    · exact State.abortBrakeTest_kept h5
    · exact h5
  clear_value v2
  extract_lets +onlyGivenNames v6
  have h6 : Kept q n v6 := by
    unfold v6
    refine kept_foldl h2 ?_
    intro x7 x8 h9
    refine kept_ite ?_ ?_
    · exact State.sltViolate_kept h9
    · exact h9
  clear_value v6
  exact State.safeBoth_kept h6

theorem execSafetyEncoderFault_kept {t a1 a2 s} (h : Kept q n s) :
    KeptR q (max n t) (execSafetyEncoderFault t a1 a2 s) := by
  unfold execSafetyEncoderFault
  extract_lets +onlyGivenNames v1
  have h1 : Kept q (max n t) v1 := by
    unfold v1
    exact State.arrive_kept h
  clear_value v1
  refine keptR_guard ?_
  refine kept_ite ?_ ?_
  · exact State.modSafe_kept h1 rfl
  · refine kept_ite ?_ ?_
    · exact State.encoderFault_kept h1
    · exact h1

theorem execSsupLow_kept {t s} (h : Kept q n s) :
    KeptR q (max n t) (execSsupLow t s) := by
  unfold execSsupLow
  extract_lets +onlyGivenNames v1
  have h1 : Kept q (max n t) v1 := by
    unfold v1
    exact State.arrive_kept h
  clear_value v1
  refine keptR_next ?_
  exact State.raiseAlarm_kept (State.safeBoth_kept (State.modSafe_kept h1 rfl))

theorem execSsupRestored_kept {t s} (h : Kept q n s) :
    KeptR q (max n t) (execSsupRestored t s) := by
  unfold execSsupRestored
  extract_lets +onlyGivenNames v1
  have h1 : Kept q (max n t) v1 := by
    unfold v1
    exact State.arrive_kept h
  clear_value v1
  refine keptR_next ?_
  refine kept_ite ?_ ?_
  · exact State.safeBoth_kept (State.modSafe_kept h1 rfl)
  · exact h1

theorem State.safeFrame_kept {s} (h : Kept q n s) :
    Kept q n (State.safeFrame s) := by
  unfold State.safeFrame
  refine kept_ite ?_ ?_
  · exact State.clearAlarm_kept (State.modSafe_kept h rfl)
  · exact h

theorem State.safeStart_kept {s} (h : Kept q n s) : Kept q n (State.safeStart s) := by
  unfold State.safeStart
  extract_lets +onlyGivenNames v1
  extract_lets +onlyGivenNames v2
  extract_lets +onlyGivenNames v3
  have h3 : Kept q n v3 := State.modSafe_kept h (by simp [SafeSt.sizes])
  clear_value v3
  extract_lets +onlyGivenNames v4
  have h4 : Kept q n v4 := by
    unfold v4
    exact State.clearAlarm_kept (State.stopRecords_kept (State.noteDiffer_kept (State.modSafe_kept h3 (by simp))))
  clear_value v4
  exact kept_ite (State.setMode_kept h4) h4

theorem State.startPulses_kept {s a1} (h : Kept q n s) :
    Kept q n (State.startPulses s a1) := by
  unfold State.startPulses
  refine kept_foldl h ?_
  intro x1 x2 h3
  refine kept_ite ?_ ?_
  · exact State.stsFault_kept h3
  · exact h3

theorem execSafetyStartTest_kept {t a1 a2 a3 s} (h : Kept q n s) :
    KeptR q (max n t) (execSafetyStartTest t a1 s a2 a3) := by
  unfold execSafetyStartTest
  extract_lets +onlyGivenNames v1
  have h1 : Kept q (max n t) v1 := by
    unfold v1
    exact State.arrive_kept h
  clear_value v1
  refine keptR_next ?_
  refine kept_ite ?_ ?_
  · exact h1
  · extract_lets +onlyGivenNames v2
    have h2 : Kept q (max n t) v2 := by
      unfold v2
      refine kept_ite ?_ ?_
      · exact h1
      · exact State.modSafe_kept h1 rfl
    clear_value v2
    refine kept_ite ?_ ?_
    · exact State.startPulses_kept (State.safeStart_kept h2)
    · exact State.techFault_kept (State.modSafe_kept h2 rfl)

theorem State.safeDown_kept {s} (h : Kept q n s) :
    Kept q n (State.safeDown s) := by
  unfold State.safeDown
  extract_lets +onlyGivenNames v1
  have h1 : Kept q n v1 := by
    unfold v1
    refine kept_foldl h ?_
    intro x2 x3 h4
    exact State.abortBrakeTest_kept h4
  clear_value v1
  exact State.modSafe_kept h1 (by simp; rfl)

theorem State.safePend_kept {s a1} (h : Kept q n s) :
    Kept q n (State.safePend s a1) := by
  unfold State.safePend
  refine kept_ite ?_ ?_
  · exact State.modSafe_kept h rfl
  · exact State.modSafe_kept h rfl

theorem State.safeConfirm_kept {s} (h : Kept q n s) : Kept q n (State.safeConfirm s) := by
  unfold State.safeConfirm
  extract_lets +onlyGivenNames v1
  extract_lets +onlyGivenNames v2
  have h2 : Kept q n v2 := State.modSafe_kept h (by simp [SafeSt.sizes])
  clear_value v2
  exact State.event_kept (State.safeBoth_kept h2)

theorem opSafeQuery_kept : KeptOp opSafeQuery := by
  constructor
  · intro q n s a b p h
    unfold opSafeQuery
    dsimp -zeta only
    exact h
  · intro q n s p h
    unfold opSafeQuery
    dsimp -zeta only
    exact h

theorem State.resetHere_kept {s} (h : Kept q n s) :
    Kept q n (State.resetHere s) := by
  unfold State.resetHere
  extract_lets +onlyGivenNames v1
  have h1 : Kept q n v1 := by
    unfold v1
    refine kept_ite ?_ ?_
    · exact State.setMode_kept (State.modSafe_kept h rfl)
    · exact h
  clear_value v1
  exact State.safeReset_kept h1

theorem opSafeReset_kept : KeptOp opSafeReset := by
  constructor
  · intro q n s a b p h
    unfold opSafeReset
    dsimp -zeta only
    extract_lets +onlyGivenNames v1
    have h1 : Kept q n v1 := by
      unfold v1
      exact State.resetHere_kept h
    clear_value v1
    refine kept_mk_fst ?_
    refine kept_ite ?_ ?_
    · exact State.emit_kept h1
    · exact h1
  · intro q n s p h
    unfold opSafeReset
    dsimp -zeta only
    exact h

theorem opSafeBrakeTest_kept : KeptOp opSafeBrakeTest := by
  constructor
  · intro q n s a b p h
    unfold opSafeBrakeTest
    dsimp -zeta only
    extract_lets +onlyGivenNames v1
    exact State.safeBoth_kept (State.modSafe_kept h (by simp))
  · intro q n s p h
    unfold opSafeBrakeTest
    dsimp -zeta only
    exact h

theorem opSafeCfgRead_kept : KeptOp opSafeCfgRead := by
  constructor
  · intro q n s a b p h
    unfold opSafeCfgRead
    dsimp -zeta only
    extract_lets +onlyGivenNames v1
    exact h
  · intro q n s p h
    unfold opSafeCfgRead
    dsimp -zeta only
    exact h

theorem opSafeCfgConfirm_kept : KeptOp opSafeCfgConfirm := by
  constructor
  · intro q n s a b p h
    unfold opSafeCfgConfirm
    dsimp -zeta only
    exact State.safeConfirm_kept h
  · intro q n s p h
    unfold opSafeCfgConfirm
    dsimp -zeta only
    exact h

theorem opSafeStop_kept : KeptOp opSafeStop := by
  constructor
  · intro q n s a b p h
    unfold opSafeStop
    dsimp -zeta only
    exact State.requestStop_kept h
  · intro q n s p h
    unfold opSafeStop
    dsimp -zeta only
    exact h

theorem execSafeResetForwarded_kept {t s} (h : Kept q n s) :
    KeptR q (max n t) (execSafeResetForwarded t s) := by
  unfold execSafeResetForwarded
  extract_lets +onlyGivenNames v1
  have h1 : Kept q (max n t) v1 := by
    unfold v1
    exact State.arrive_kept h
  clear_value v1
  refine keptR_next ?_
  refine kept_ite ?_ ?_
  · exact State.resetHere_kept h1
  · exact h1

end Sys2Proof.Machine
end

