-- ==== Sys2Proof/Laws/KeptDomOps.lean ====
section
/-!
SUPPORT. What every run keeps, through the operations and meanings of Machine/DomOps.lean: one lemma for each.
-/
namespace Sys2Proof.Machine
variable {q : List Instr} {n : Nat}

theorem State.partEnd_kept {s} (h : Kept q n s) :
    Kept q n (State.partEnd s) := by
  unfold State.partEnd
  exact State.henSettle_kept (State.henPartEnd_kept (State.dmaPartStop_kept h))

theorem State.partStop_kept {s a1} (h : Kept q n s) :
    Kept q n (State.partStop s a1) := by
  unfold State.partStop
  extract_lets +onlyGivenNames v1
  extract_lets +onlyGivenNames v2
  have h2 : Kept q n v2 := by
    unfold v2
    exact kept_upd h same
  clear_value v2
  refine kept_ite ?_ ?_
  · exact h2
  · extract_lets +onlyGivenNames v3
    extract_lets +onlyGivenNames v4
    extract_lets +onlyGivenNames v5
    exact State.disableItems_kept (State.partEnd_kept (kept_upd h2 same))

theorem State.partStart_kept {s a1 a2} (h : Kept q n s) :
    Kept q n (State.partStart s a1 a2) := by
  unfold State.partStart
  refine kept_ite ?_ ?_
  · exact State.partGo_kept (kept_upd h same)
  · exact h

theorem State.rebuildReplies_kept {s} (h : Kept q n s) :
    Kept q n (State.rebuildReplies s) := by
  unfold State.rebuildReplies
  extract_lets +onlyGivenNames v1
  exact kept_upd h same

theorem State.d2Reset_kept {s} (h : Kept q n s) :
    Kept q n (State.d2Reset s) := by
  unfold State.d2Reset
  extract_lets +onlyGivenNames v1
  exact kept_upd h (fun e => by simp [State.sizes, unitSizes] at e ⊢; simp [e])

theorem State.d3Reset_kept {s} (h : Kept q n s) :
    Kept q n (State.d3Reset s) := by
  unfold State.d3Reset
  extract_lets +onlyGivenNames v1
  have h1 : Kept q n v1 := by
    unfold v1
    exact State.rebuildReplies_kept (State.partStop_kept h)
  clear_value v1
  extract_lets +onlyGivenNames v2
  extract_lets +onlyGivenNames v3
  exact kept_upd h1 same

theorem off_kept {s : State} (h : Kept q n s) : Kept q n { s with
    thr := { s.thr with auth := false, aoHoldUntil := none, chans := s.thr.chans.map (fun (x : ThrChan) =>
      { x with sealed := false, latch := false, abortedF := x.abortedF || x.sealed, q := 0, outT := 0, outRun := false }) }
    bus := { s.bus with ao := List.replicate 16 0 } } := by
  refine kept_upd h (fun e => ?_)
  simp only [State.sizes, unitSizes, List.length_map, List.cons.injEq, and_true] at e ⊢
  exact ⟨e.1, e.2.1, ⟨e.2.2.1.1, e.2.2.1.2.1, List.length_replicate, e.2.2.1.2.2.2⟩, e.2.2.2⟩

theorem State.d10Down_kept {s} (h : Kept q n s) :
    Kept q n (State.d10Down s) := by
  unfold State.d10Down
  extract_lets +onlyGivenNames v1
  have h1 : Kept q n v1 := by
    unfold v1
    refine kept_foldl h ?_
    intro x2 x3 h4
    extract_lets +onlyGivenNames w
    refine State.modPort_kept (?_ : Kept q n w)
    exact kept_ite h4 (State.abortPort_kept (State.disablePort_kept h4))
  clear_value v1
  extract_lets +onlyGivenNames v5
  have h5 : Kept q n v5 := by
    unfold v5
    refine kept_foldl h1 ?_
    intro x6 x7 h8
    split
    next y9 y10 =>
      exact h8
    next y11 y12 y13 y14 y15 =>
      exact State.completeCmd_kept (State.modPort_kept h8)
  clear_value v5
  extract_lets +onlyGivenNames v16
  have h16 : Kept q n v16 := by
    unfold v16
    refine kept_foldl h5 ?_
    intro x17 x18 h19
    exact State.modSer_kept (kept_ite h19 (State.serDisable_kept h19))
  clear_value v16
  exact off_kept h16

theorem State.d9Down_kept {s} (h : Kept q n s) :
    Kept q n (State.d9Down s) := by
  unfold State.d9Down
  extract_lets +onlyGivenNames v1
  have h1 : Kept q n v1 := by
    unfold v1
    refine kept_foldl h ?_
    intro x2 x3 h4
    refine kept_ite ?_ ?_
    · exact State.pulseDisarm_kept h4
    · exact h4
  clear_value v1
  exact kept_upd h1 same

theorem State.henReset_kept {s} (h : Kept q n s) :
    Kept q n (State.henReset s) := by
  unfold State.henReset
  refine kept_foldl h ?_
  intro x1 x2 h3
  extract_lets +onlyGivenNames v4
  refine kept_ite ?_ ?_
  · exact h3
  · exact State.direct_kept h3

theorem State.d1Down_kept {s} (h : Kept q n s) : Kept q n (State.d1Down s) := by
  unfold State.d1Down
  extract_lets +onlyGivenNames v1
  have h1 : Kept q n v1 := State.henReset_kept (State.dmaReset_kept (State.logReset_kept h))
  clear_value v1
  refine ⟨h1.1, h1.2, rfl, h1.4, h1.5, ?_⟩
  have e := h1.6
  simp [State.sizes, unitSizes] at e ⊢
  simp [e]

theorem State.sramLost_kept {s a1} (h : Kept q n s) : Kept q n (State.sramLost s a1) := by
  unfold State.sramLost
  split
  · exact ⟨h.1, h.2, h.3, rfl, h.5, h.6⟩
  · exact ⟨h.1, h.2, h.3, h.4, rfl, h.6⟩

theorem State.domDown_kept {s a1} (h : Kept q n s) :
    Kept q n (State.domDown s a1) := by
  unfold State.domDown
  refine kept_ite ?_ ?_
  · exact h
  · extract_lets +onlyGivenNames v1
    have h1 : Kept q n v1 := by
      unfold v1
      split
      next y2 =>
        exact State.d1Down_kept h
      next y3 =>
        exact State.d2Reset_kept h
      next y4 =>
        exact State.d3Reset_kept h
      next y5 =>
        exact State.safeDown_kept h
      next y6 =>
        exact State.safeDown_kept h
      next y7 =>
        exact State.sramLost_kept (State.dmaClusterLost_kept (State.clStop_kept h))
      next y8 =>
        exact State.sramLost_kept (State.dmaClusterLost_kept (State.clStop_kept h))
      next y9 =>
        exact State.satDown_kept h
      next y10 =>
        exact State.d9Down_kept h
      next y11 =>
        exact State.d10Down_kept h
      next y12 =>
        exact State.fioDown_kept h
      next y13 y14 y15 y16 y17 y18 y19 y20 y21 y22 y23 y24 =>
        exact h
    clear_value v1
    exact State.henSettle_kept (State.setDom_kept h1)

theorem State.busTerm_kept {s} (h : Kept q n s) :
    Kept q n (State.busTerm s) := by
  unfold State.busTerm
  exact kept_upd h (fun e => by simp [State.sizes, unitSizes] at e ⊢; simp [e])

theorem State.busUp_kept {s} (h : Kept q n s) :
    Kept q n (State.busUp s) := by
  unfold State.busUp
  extract_lets +onlyGivenNames v1
  exact State.busTerm_kept (kept_upd h (fun e => by simp [State.sizes, unitSizes] at e ⊢; simp [e]))

theorem State.domUp_kept {s a1} (h : Kept q n s) :
    Kept q n (State.domUp s a1) := by
  unfold State.domUp
  refine kept_ite ?_ ?_
  · exact h
  · extract_lets +onlyGivenNames v1
    have h1 : Kept q n v1 := by
      unfold v1
      exact State.setDom_kept h
    clear_value v1
    split
    next y2 =>
      exact State.logUp_kept (kept_upd h1 same)
    next y3 =>
      exact State.learnRestore_kept h1
    next y4 =>
      exact State.partStart_kept (State.modRed_kept h1)
    next y5 =>
      exact State.clUp_kept h1
    next y6 =>
      exact State.clUp_kept h1
    next y7 =>
      exact State.satUp_kept h1
    next y8 =>
      exact State.tmuUp_kept (kept_upd h1 same)
    next y9 =>
      exact State.busUp_kept (State.thrUp_kept h1)
    next y10 =>
      exact State.fioUp_kept h1
    next y11 y12 y13 y14 y15 y16 y17 y18 y19 y20 =>
      exact h1

theorem State.drainDown_kept {s a1 a2} (h : Kept q n s) :
    Kept q n (State.drainDown s a1 a2) := by
  unfold State.drainDown
  extract_lets +onlyGivenNames v1
  extract_lets +onlyGivenNames v2
  have h2 : Kept q n v2 := by
    unfold v2
    refine kept_foldl h ?_
    intro x3 x4 h5
    exact State.domDown_kept h5
  clear_value v2
  extract_lets +onlyGivenNames v6
  exact State.disableItems_kept h2

theorem State.allDown_kept {s a1} (h : Kept q n s) :
    Kept q n (State.allDown s a1) := by
  unfold State.allDown
  refine kept_foldl h ?_
  intro x1 x2 h3
  exact State.domDown_kept h3

theorem State.allUp_kept {s a1} (h : Kept q n s) :
    Kept q n (State.allUp s a1) := by
  unfold State.allUp
  refine kept_foldl h ?_
  intro x1 x2 h3
  exact State.domUp_kept h3

theorem State.dropAlarms_kept {s} (h : Kept q n s) :
    Kept q n (State.dropAlarms s) := by
  unfold State.dropAlarms
  exact kept_upd h same

theorem State.safeAlarms_kept {s} (h : Kept q n s) :
    Kept q n (State.safeAlarms s) := by
  unfold State.safeAlarms
  extract_lets +onlyGivenNames v1
  have h1 : Kept q n v1 := by
    unfold v1
    exact State.alarmIf_kept h
  clear_value v1
  extract_lets +onlyGivenNames v2
  have h2 : Kept q n v2 := by
    unfold v2
    refine kept_foldl h1 ?_
    intro x3 x4 h5
    exact State.overdue_kept (State.alarmIf_kept h5)
  clear_value v2
  exact State.alarmIf_kept h2

end Sys2Proof.Machine
end

