-- ==== Sys2Proof/Laws/KeptPoints.lean ====
section
/-!
SUPPORT. What every run keeps, through the operations and meanings of Machine/Points.lean: one lemma for each.
-/
namespace Sys2Proof.Machine
variable {q : List Instr} {n : Nat}

theorem State.prodWrite_kept {s a1 a2 a3 a4} (h : Kept q n s) :
    Kept q n (State.prodWrite s a1 a2 a3 a4) := by
  unfold State.prodWrite
  refine kept_ite ?_ ?_
  · exact h
  · extract_lets +onlyGivenNames v1
    extract_lets +onlyGivenNames v2
    have h2 : Kept q n v2 := by
      unfold v2
      exact State.setProd_kept h
    clear_value v2
    extract_lets +onlyGivenNames v3
    have h3 : Kept q n v3 := by
      unfold v3
      refine kept_ite ?_ ?_
      · exact State.silentAlarm_kept (State.event_kept h2)
      · exact h2
    clear_value v3
    extract_lets +onlyGivenNames v4
    refine kept_ite ?_ ?_
    · exact h3
    · refine kept_ite ?_ ?_
      · exact State.producerWrite_kept h3
      · exact State.producerWrite_kept h3

theorem execProducerWrite_kept {t a1 a2 a3 a4 s} (h : Kept q n s) :
    KeptR q (max n t) (execProducerWrite t a1 a2 a3 a4 s) := by
  unfold execProducerWrite
  extract_lets +onlyGivenNames v1
  have h1 : Kept q (max n t) v1 := by
    unfold v1
    exact State.arrive_kept h
  clear_value v1
  refine keptR_guard ?_
  refine kept_ite ?_ ?_
  · exact State.fioFollow_kept (State.prodWrite_kept h1)
  · exact h1

theorem State.prodSilent_kept {s a1} (h : Kept q n s) :
    Kept q n (State.prodSilent s a1) := by
  unfold State.prodSilent
  extract_lets +onlyGivenNames v1
  refine kept_ite ?_ ?_
  · extract_lets +onlyGivenNames v2
    have h2 : Kept q n v2 := by
      unfold v2
      exact State.setProd_kept h
    clear_value v2
    refine State.silentAlarm_kept ?_
    refine State.event_kept ?_
    refine kept_foldl h2 ?_
    intro x3 x4 h5
    refine kept_ite ?_ ?_
    · exact State.stale_kept h5
    · exact h5
  · exact h

theorem execProducerTimeout_kept {t a1 s} (h : Kept q n s) :
    KeptR q (max n t) (execProducerTimeout t a1 s) := by
  unfold execProducerTimeout
  extract_lets +onlyGivenNames v1
  have h1 : Kept q (max n t) v1 := by
    unfold v1
    exact State.arrive_kept h
  clear_value v1
  refine keptR_guard ?_
  refine kept_ite ?_ ?_
  · exact State.fioFollow_kept (State.prodSilent_kept h1)
  · exact h1

theorem execPointTimeout_kept {t a1 s} (h : Kept q n s) :
    KeptR q (max n t) (execPointTimeout t a1 s) := by
  unfold execPointTimeout
  extract_lets +onlyGivenNames v1
  have h1 : Kept q (max n t) v1 := by
    unfold v1
    exact State.arrive_kept h
  clear_value v1
  refine keptR_guard ?_
  refine kept_ite ?_ ?_
  · exact State.fioFollow_kept (State.stale_kept h1)
  · exact h1

theorem State.wrGo_kept {s} (h : Kept q n s) :
    Kept q n (State.wrGo s) := by
  unfold State.wrGo
  extract_lets +onlyGivenNames v1
  extract_lets +onlyGivenNames v2
  extract_lets +onlyGivenNames v3
  have h3 : Kept q n v3 := by
    unfold v3
    exact kept_upd h same
  refine kept_ite ?_ ?_
  · extract_lets +onlyGivenNames v4
    extract_lets +onlyGivenNames v5
    have h5 : Kept q n v5 := by
      unfold v5
      exact State.producerWrite_kept h3
    clear_value v5
    exact kept_upd h5 same
  · exact h3

theorem execPntWrGo_kept {t s} (h : Kept q n s) :
    KeptR q (max n t) (execPntWrGo t s) := by
  unfold execPntWrGo
  extract_lets +onlyGivenNames v1
  have h1 : Kept q (max n t) v1 := by
    unfold v1
    exact State.arrive_kept h
  clear_value v1
  refine keptR_next ?_
  refine kept_ite ?_ ?_
  · exact State.fioFollow_kept (State.wrGo_kept h1)
  · exact h1

theorem State.notify_kept {s a1} (h : Kept q n s) :
    Kept q n (State.notify s a1) := by
  unfold State.notify
  split
  next y1 y2 =>
    exact h
  next y3 y4 y5 =>
    extract_lets +onlyGivenNames v6
    refine kept_ite ?_ ?_
    · exact h
    · extract_lets +onlyGivenNames v7
      extract_lets +onlyGivenNames v8
      extract_lets +onlyGivenNames v9
      have h9 : Kept q n v9 := by
        unfold v9
        exact kept_upd h same
      clear_value v9
      refine kept_ite ?_ ?_
      · exact State.sendPkt_kept h9
      · exact h9

theorem execPointNotify_kept {t a1 s} (h : Kept q n s) :
    KeptR q (max n t) (execPointNotify t a1 s) := by
  unfold execPointNotify
  extract_lets +onlyGivenNames v1
  have h1 : Kept q (max n t) v1 := by
    unfold v1
    exact State.arrive_kept h
  clear_value v1
  split
  next y2 y3 =>
    refine keptR_next ?_
    exact h1
  next y4 y5 y6 =>
    refine keptR_next ?_
    refine kept_ite ?_ ?_
    · exact State.notify_kept h1
    · exact h1

theorem State.subsFrame_kept {s} (h : Kept q n s) :
    Kept q n (State.subsFrame s) := by
  unfold State.subsFrame
  exact kept_upd h same

theorem opPointRead_kept : KeptOp opPointRead := by
  constructor
  · intro q n s a b p h
    unfold opPointRead
    dsimp -zeta only
    exact h
  · intro q n s p h
    unfold opPointRead
    dsimp -zeta only
    exact h

theorem State.writeCmd_kept {s a1} (h : Kept q n s) :
    Kept q n (State.writeCmd s a1) := by
  unfold State.writeCmd
  extract_lets +onlyGivenNames v1
  exact State.fioFollow_kept (State.producerWrite_kept h)

theorem opPointWrite_kept : KeptOp opPointWrite := by
  constructor
  · intro q n s a b p h
    unfold opPointWrite
    dsimp -zeta only
    exact State.writeCmd_kept h
  · intro q n s p h
    unfold opPointWrite
    dsimp -zeta only
    exact h

theorem opPointForce_kept : KeptOp opPointForce := by
  constructor
  · intro q n s a b p h
    unfold opPointForce
    dsimp -zeta only
    exact State.fioFollow_kept (State.forcePoint_kept h)
  · intro q n s p h
    unfold opPointForce
    dsimp -zeta only
    exact h

theorem opPointUnforce_kept : KeptOp opPointUnforce := by
  constructor
  · intro q n s a b p h
    unfold opPointUnforce
    dsimp -zeta only
    exact State.fioFollow_kept (State.unforcePoint_kept h)
  · intro q n s p h
    unfold opPointUnforce
    dsimp -zeta only
    exact h

theorem opPointSubscribe_kept : KeptOp opPointSubscribe := by
  constructor
  · intro q n s a b p h
    unfold opPointSubscribe
    dsimp -zeta only
    extract_lets +onlyGivenNames v1
    extract_lets +onlyGivenNames v2
    extract_lets +onlyGivenNames v3
    exact kept_upd h same
  · intro q n s p h
    unfold opPointSubscribe
    dsimp -zeta only
    exact h

theorem opPointUnsubscribe_kept : KeptOp opPointUnsubscribe := by
  constructor
  · intro q n s a b p h
    unfold opPointUnsubscribe
    dsimp -zeta only
    exact kept_upd h same
  · intro q n s p h
    unfold opPointUnsubscribe
    dsimp -zeta only
    exact h

theorem opProducerList_kept : KeptOp opProducerList := by
  constructor
  · intro q n s a b p h
    unfold opProducerList
    dsimp -zeta only
    extract_lets +onlyGivenNames v1
    exact h
  · intro q n s p h
    unfold opProducerList
    dsimp -zeta only
    exact h

end Sys2Proof.Machine
end

