-- ==== Sys2Proof/Laws/KeptCfgOps.lean ====
section
/-!
SUPPORT. What every run keeps, through the operations and meanings of Machine/CfgOps.lean: one lemma for each.
-/
namespace Sys2Proof.Machine
variable {q : List Instr} {n : Nat}

theorem State.withBody_kept {s a1} (h : Kept q n s) :
    Kept q n (State.withBody s a1) := by
  unfold State.withBody
  extract_lets +onlyGivenNames v1
  exact kept_upd h same

theorem State.writeCopy_kept {s a1 a2} (h : Kept q n s) :
    Kept q n (State.writeCopy s a1 a2) := by
  unfold State.writeCopy
  extract_lets +onlyGivenNames v1
  extract_lets +onlyGivenNames v2
  extract_lets +onlyGivenNames v3
  have h3 : Kept q n v3 := by
    unfold v3
    exact kept_upd h same
  clear_value v3
  refine kept_ite ?_ ?_
  · exact kept_upd h3 same
  · exact kept_upd h3 same

theorem State.henPivSet_kept {s} (h : Kept q n s) :
    Kept q n (State.henPivSet s) := by
  unfold State.henPivSet
  exact kept_upd h same

theorem State.chooseCfg_kept {s} (h : Kept q n s) :
    Kept q n (State.chooseCfg s) := by
  unfold State.chooseCfg
  extract_lets +onlyGivenNames v1
  extract_lets +onlyGivenNames v2
  extract_lets +onlyGivenNames v3
  extract_lets +onlyGivenNames v4
  have h4 : Kept q n v4 := by
    unfold v4
    exact kept_upd h same
  clear_value v4
  extract_lets +onlyGivenNames v5
  refine kept_ite ?_ ?_
  · refine kept_ite ?_ ?_
    · unfold v5
      extract_lets +onlyGivenNames v6
      have h6 : Kept q n v6 := by
        unfold v6
        exact State.henPivSet_kept (State.withBody_kept h4)
      clear_value v6
      exact State.alarmIf_kept (kept_upd h6 same)
    · unfold v5
      extract_lets +onlyGivenNames v7
      have h7 : Kept q n v7 := by
        unfold v7
        exact State.henPivSet_kept (State.withBody_kept h4)
      clear_value v7
      exact State.alarmIf_kept (kept_upd h7 same)
  · refine kept_ite ?_ ?_
    · refine State.event_kept ?_
      unfold v5
      extract_lets +onlyGivenNames v8
      extract_lets +onlyGivenNames v9
      have h9 : Kept q n v9 := by
        unfold v9
        exact State.henPivSet_kept (State.withBody_kept (kept_upd h4 same))
      clear_value v9
      exact State.alarmIf_kept (kept_upd h9 same)
    · refine kept_ite ?_ ?_
      · refine State.event_kept ?_
        unfold v5
        extract_lets +onlyGivenNames v10
        extract_lets +onlyGivenNames v11
        have h11 : Kept q n v11 := by
          unfold v11
          exact State.henPivSet_kept (State.withBody_kept (kept_upd h4 same))
        clear_value v11
        exact State.alarmIf_kept (kept_upd h11 same)
      · exact State.henPivSet_kept (State.raiseAlarm_kept (kept_upd h4 same))

theorem State.learnCfg_kept {s a1} (h : Kept q n s) :
    Kept q n (State.learnCfg s a1) := by
  unfold State.learnCfg
  refine kept_foldl h ?_
  intro x1 x2 h3
  refine kept_ite ?_ ?_
  · exact State.modAch_kept h3
  · exact h3

theorem State.caseCfg_kept {s a1} (h : Kept q n s) :
    Kept q n (State.caseCfg s a1) := by
  unfold State.caseCfg
  refine kept_foldl h ?_
  intro x1 x2 h3
  refine kept_ite ?_ ?_
  · exact h3
  · exact State.modCase_kept h3

theorem State.portCfg_kept {s a1} (h : Kept q n s) :
    Kept q n (State.portCfg s a1) := by
  unfold State.portCfg
  refine kept_ite ?_ ?_
  · exact h
  · extract_lets +onlyGivenNames v1
    have h1 : Kept q n v1 := by
      unfold v1
      exact State.busUp_kept h
    clear_value v1
    refine kept_foldl h ?_
    intro x2 x3 h4
    refine kept_ite ?_ ?_
    · extract_lets +onlyGivenNames v5
      have h5 : Kept q n v5 := by
        unfold v5
        exact State.abortPort_kept (State.disablePort_kept h4)
      clear_value v5
      extract_lets +onlyGivenNames v6
      extract_lets +onlyGivenNames v7
      have h7 : Kept q n v7 := by
        unfold v7
        split
        next y8 y9 y10 y11 y12 =>
          exact State.completeCmd_kept (State.modPort_kept h5)
        next y13 y14 =>
          exact h5
      clear_value v7
      exact State.modPort_kept h7
    · exact h4

theorem State.serCfg_kept {s a1} (h : Kept q n s) :
    Kept q n (State.serCfg s a1) := by
  unfold State.serCfg
  refine kept_ite ?_ ?_
  · exact h
  · refine State.busTerm_kept ?_
    refine kept_foldl h ?_
    intro x1 x2 h3
    extract_lets +onlyGivenNames v4
    extract_lets +onlyGivenNames v5
    refine kept_ite ?_ ?_
    · exact State.serDisable_kept h3
    · exact h3

theorem State.clockCfg_kept {s a1} (h : Kept q n s) :
    Kept q n (State.clockCfg s a1) := by
  unfold State.clockCfg
  refine kept_ite ?_ ?_
  · exact h
  · extract_lets +onlyGivenNames v1
    have h1 : Kept q n v1 := by
      unfold v1
      exact State.tmuConfig_kept h
    clear_value v1
    extract_lets +onlyGivenNames v2
    have h2 : Kept q n v2 := by
      unfold v2
      refine kept_foldl h1 ?_
      intro x3 x4 h5
      refine kept_ite ?_ ?_
      · exact h5
      · exact State.follow_kept (State.modVc_kept h5)
    clear_value v2
    refine kept_ite ?_ ?_
    · exact State.ppsRoute_kept h2
    · exact h2

theorem State.cfgApply_kept {s a1 a2} (h : Kept q n s) :
    Kept q n (State.cfgApply s a1 a2) := by
  unfold State.cfgApply
  extract_lets +onlyGivenNames v1
  have h1 : Kept q n v1 := by
    unfold v1
    exact h
  clear_value v1
  extract_lets +onlyGivenNames v2
  have h2 : Kept q n v2 := by
    unfold v2
    exact State.henPivSet_kept (State.withBody_kept h)
  clear_value v2
  extract_lets +onlyGivenNames v3
  extract_lets +onlyGivenNames v4
  have h4 : Kept q n v4 := by
    unfold v4
    exact kept_upd h2 same
  clear_value v4
  extract_lets +onlyGivenNames v5
  have h5 : Kept q n v5 := by
    unfold v5
    exact State.pntConfig_kept (State.clockCfg_kept (State.serCfg_kept (State.portCfg_kept (State.caseCfg_kept (State.learnCfg_kept (State.thrConfig_kept h4))))))
  clear_value v5
  extract_lets +onlyGivenNames v6
  have h6 : Kept q n v6 := by
    unfold v6
    exact State.fioFollow_kept (State.fioConfig_kept (State.safePend_kept h5))
  clear_value v6
  exact State.clearAlarm_kept (State.clearAlarm_kept h6)

theorem State.cfgEffect_kept {s} (h : Kept q n s) :
    Kept q n (State.cfgEffect s) := by
  unfold State.cfgEffect
  split
  next y1 y2 =>
    exact h
  next y3 y4 y5 y6 y7 =>
    extract_lets +onlyGivenNames v8
    extract_lets +onlyGivenNames v9
    extract_lets +onlyGivenNames v10
    have h10 : Kept q n v10 := by
      unfold v10
      exact kept_upd h same
    clear_value v10
    refine kept_ite ?_ ?_
    · exact State.cfgApply_kept h10
    · exact State.raiseAlarm_kept h10

theorem State.cfgCount_kept {s} (h : Kept q n s) :
    Kept q n (State.cfgCount s) := by
  unfold State.cfgCount
  exact kept_upd h same

theorem opCfgQuery_kept : KeptOp opCfgQuery := by
  constructor
  · intro q n s a b p h
    unfold opCfgQuery
    dsimp -zeta only
    exact h
  · intro q n s p h
    unfold opCfgQuery
    dsimp -zeta only
    exact h

theorem opCfgStage_kept : KeptOp opCfgStage := by
  constructor
  · intro q n s a b p h
    unfold opCfgStage
    dsimp -zeta only
    extract_lets +onlyGivenNames v1
    extract_lets +onlyGivenNames v2
    have h2 : Kept q n v2 := by
      unfold v2
      exact kept_upd h same
    clear_value v2
    extract_lets +onlyGivenNames v3
    exact kept_upd h2 same
  · intro q n s p h
    unfold opCfgStage
    dsimp -zeta only
    exact h

theorem opCfgValidate_kept : KeptOp opCfgValidate := by
  constructor
  · intro q n s a b p h
    unfold opCfgValidate
    dsimp -zeta only
    extract_lets +onlyGivenNames v1
    extract_lets +onlyGivenNames v2
    extract_lets +onlyGivenNames v3
    exact kept_upd h same
  · intro q n s p h
    unfold opCfgValidate
    dsimp -zeta only
    exact h

theorem opCfgCommit_kept : KeptOp opCfgCommit := by
  constructor
  · intro q n s a b p h
    unfold opCfgCommit
    dsimp -zeta only
    extract_lets +onlyGivenNames v1
    extract_lets +onlyGivenNames v2
    extract_lets +onlyGivenNames v3
    have h3 : Kept q n v3 := by
      unfold v3
      split
      next y4 y5 y6 =>
        extract_lets +onlyGivenNames v7
        have h7 : Kept q n v7 := by
          unfold v7
          exact State.safePend_kept (State.writeCopy_kept h)
        clear_value v7
        exact kept_upd h7 same
      next y8 y9 =>
        exact kept_upd h same
    clear_value v3
    exact h3
  · intro q n s p h
    unfold opCfgCommit
    dsimp -zeta only
    exact h

end Sys2Proof.Machine
end

