-- ==== Sys2Proof/Laws/KeptCqa.lean ====
section
/-!
SUPPORT. What every run keeps, through the operations and meanings of Machine/Cqa.lean: one lemma for each.
-/
namespace Sys2Proof.Machine
variable {q : List Instr} {n : Nat}

theorem execCqaAlarmDelayReached_kept {t a1 s} (h : Kept q n s) :
    KeptR q (max n t) (execCqaAlarmDelayReached t a1 s) := by
  unfold execCqaAlarmDelayReached
  extract_lets +onlyGivenNames v1
  have h1 : Kept q (max n t) v1 := by
    unfold v1
    exact State.arrive_kept h
  clear_value v1
  refine keptR_guard ?_
  extract_lets +onlyGivenNames v2
  refine kept_ite ?_ ?_
  · extract_lets +onlyGivenNames v3
    extract_lets +onlyGivenNames v4
    have h4 : Kept q (max n t) v4 := by
      unfold v4
      exact State.raiseAlarm_kept (State.modCase_kept h1)
    clear_value v4
    exact State.raiseAlarm_kept h4
  · exact h1

theorem execCqaClearTimeReached_kept {t a1 s} (h : Kept q n s) :
    KeptR q (max n t) (execCqaClearTimeReached t a1 s) := by
  unfold execCqaClearTimeReached
  extract_lets +onlyGivenNames v1
  have h1 : Kept q (max n t) v1 := by
    unfold v1
    exact State.arrive_kept h
  clear_value v1
  refine keptR_guard ?_
  extract_lets +onlyGivenNames v2
  refine kept_ite ?_ ?_
  · extract_lets +onlyGivenNames v3
    have h3 : Kept q (max n t) v3 := by
      unfold v3
      exact State.submitRec_kept (State.dropAlarm_kept (State.modCase_kept h1))
    clear_value v3
    refine kept_ite ?_ ?_
    · exact h3
    · exact State.clearAlarm_kept h3
  · exact h1

theorem execCqaUnprovenDelayReached_kept {t s} (h : Kept q n s) :
    KeptR q (max n t) (execCqaUnprovenDelayReached t s) := by
  unfold execCqaUnprovenDelayReached
  extract_lets +onlyGivenNames v1
  have h1 : Kept q (max n t) v1 := by
    unfold v1
    exact State.arrive_kept h
  clear_value v1
  refine keptR_next ?_
  refine kept_ite ?_ ?_
  · exact State.raiseAlarm_kept h1
  · exact h1

theorem execWhatifDeadline_kept {t a1 a2 s} (h : Kept q n s) :
    KeptR q (max n t) (execWhatifDeadline t a1 a2 s) := by
  unfold execWhatifDeadline
  extract_lets +onlyGivenNames v1
  have h1 : Kept q (max n t) v1 := by
    unfold v1
    exact State.arrive_kept h
  clear_value v1
  refine keptR_next ?_
  split
  next y2 y3 =>
    exact h1
  next y4 y5 y6 =>
    refine kept_ite ?_ ?_
    · exact State.whatifDone_kept h1
    · exact h1

theorem execCapabilityEnvelopePeriod_kept {t s} (h : Kept q n s) :
    KeptR q (max n t) (execCapabilityEnvelopePeriod t s) := by
  unfold execCapabilityEnvelopePeriod
  extract_lets +onlyGivenNames v1
  have h1 : Kept q (max n t) v1 := by
    unfold v1
    exact State.arrive_kept h
  clear_value v1
  extract_lets +onlyGivenNames v2
  refine keptR_next ?_
  refine kept_ite ?_ ?_
  · exact State.envStartPeriod_kept h1
  · exact h1

theorem execCapabilityEnvelopeEnd_kept {t s} (h : Kept q n s) :
    KeptR q (max n t) (execCapabilityEnvelopeEnd t s) := by
  unfold execCapabilityEnvelopeEnd
  extract_lets +onlyGivenNames v1
  have h1 : Kept q (max n t) v1 := by
    unfold v1
    exact State.arrive_kept h
  clear_value v1
  refine keptR_next ?_
  split
  next y2 y3 =>
    exact h1
  next y4 y5 y6 =>
    refine kept_ite ?_ ?_
    · exact State.envEnd_kept h1
    · exact h1

theorem opCqaQuery_kept : KeptOp opCqaQuery := by
  constructor
  · intro q n s a b p h
    unfold opCqaQuery
    dsimp -zeta only
    extract_lets +onlyGivenNames v1
    extract_lets +onlyGivenNames v2
    exact h
  · intro q n s p h
    unfold opCqaQuery
    dsimp -zeta only
    exact h

theorem opCqaCaseQuery_kept : KeptOp opCqaCaseQuery := by
  constructor
  · intro q n s a b p h
    unfold opCqaCaseQuery
    dsimp -zeta only
    extract_lets +onlyGivenNames v1
    exact h
  · intro q n s p h
    unfold opCqaCaseQuery
    dsimp -zeta only
    exact h

theorem opCqaCaseEnable_kept : KeptOp opCqaCaseEnable := by
  constructor
  · intro q n s a b p h
    unfold opCqaCaseEnable
    dsimp -zeta only
    exact kept_upd h same
  · intro q n s p h
    unfold opCqaCaseEnable
    dsimp -zeta only
    exact h

theorem opCqaWhatif_kept : KeptOp opCqaWhatif := by
  constructor
  · intro q n s a b p h
    unfold opCqaWhatif
    dsimp -zeta only
    extract_lets +onlyGivenNames v1
    exact kept_upd h same
  · intro q n s p h
    unfold opCqaWhatif
    dsimp -zeta only
    exact h

end Sys2Proof.Machine
end

