-- ==== Sys2Proof/Laws/KeptDma.lean ====
section
/-!
SUPPORT. What every run keeps, through the operations and meanings of Machine/Dma.lean: one lemma for each.
-/
namespace Sys2Proof.Machine
variable {q : List Instr} {n : Nat}

theorem State.dmaStart_kept {s a1} (h : Kept q n s) :
    Kept q n (State.dmaStart s a1) := by
  unfold State.dmaStart
  extract_lets +onlyGivenNames v1
  refine kept_ite ?_ ?_
  · exact State.modDch_kept h
  · exact State.dmaTake_kept (State.modDch_kept h)

theorem execDmaStart_kept {t a1 s} (h : Kept q n s) :
    KeptR q (max n t) (execDmaStart t a1 s) := by
  unfold execDmaStart
  extract_lets +onlyGivenNames v1
  have h1 : Kept q (max n t) v1 := by
    unfold v1
    exact State.arrive_kept h
  clear_value v1
  refine keptR_guard ?_
  refine kept_ite ?_ ?_
  · exact State.dmaStart_kept h1
  · exact h1

theorem execDmaEnClear_kept {t a1 s} (h : Kept q n s) :
    KeptR q (max n t) (execDmaEnClear t a1 s) := by
  unfold execDmaEnClear
  extract_lets +onlyGivenNames v1
  have h1 : Kept q (max n t) v1 := by
    unfold v1
    exact State.arrive_kept h
  clear_value v1
  refine keptR_guard ?_
  refine kept_ite ?_ ?_
  · exact State.dmaDisable_kept h1
  · exact h1

theorem execDmaTrigger_kept {t a1 s} (h : Kept q n s) :
    KeptR q (max n t) (execDmaTrigger t a1 s) := by
  unfold execDmaTrigger
  extract_lets +onlyGivenNames v1
  have h1 : Kept q (max n t) v1 := by
    unfold v1
    exact State.arrive_kept h
  clear_value v1
  refine keptR_guard ?_
  refine kept_foldl h1 ?_
  intro x2 x3 h4
  split
  next y5 y6 =>
    exact h4
  next y7 y8 y9 =>
    refine kept_ite ?_ ?_
    · exact h4
    · refine kept_ite ?_ ?_
      · exact State.modDch_kept h4
      · exact State.modDch_kept h4

theorem execDmaDescriptorEnd_kept {t a1 a2 s} (h : Kept q n s) :
    KeptR q (max n t) (execDmaDescriptorEnd t a1 a2 s) := by
  unfold execDmaDescriptorEnd
  extract_lets +onlyGivenNames v1
  have h1 : Kept q (max n t) v1 := by
    unfold v1
    exact State.arrive_kept h
  clear_value v1
  refine keptR_guard ?_
  extract_lets +onlyGivenNames v2
  clear_value v2
  split
  next y3 y4 =>
    exact h1
  next y5 y6 y7 =>
    refine kept_ite ?_ ?_
    · exact h1
    · refine kept_ite ?_ ?_
      · exact State.dmaBusErr_kept h1
      · exact State.dmaNext_kept (State.dmaEnd_kept (State.dmaMove_kept h1))

end Sys2Proof.Machine
end

