-- ==== Sys2Proof/Laws/KeptEst.lean ====
section
/-!
SUPPORT. What every run keeps, through the operations and meanings of Machine/Est.lean: one lemma for each.
-/
namespace Sys2Proof.Machine
variable {q : List Instr} {n : Nat}

theorem execRefTimeoutExpiry_kept {t a1 s} (h : Kept q n s) :
    KeptR q (max n t) (execRefTimeoutExpiry t a1 s) := by
  unfold execRefTimeoutExpiry
  extract_lets +onlyGivenNames v1
  have h1 : Kept q (max n t) v1 := by
    unfold v1
    exact State.arrive_kept h
  clear_value v1
  refine keptR_guard ?_
  exact State.refTimeout_kept h1

theorem execRefTrialComplete_kept {t a1 s} (h : Kept q n s) :
    KeptR q (max n t) (execRefTrialComplete t a1 s) := by
  unfold execRefTrialComplete
  extract_lets +onlyGivenNames v1
  have h1 : Kept q (max n t) v1 := by
    unfold v1
    exact State.arrive_kept h
  clear_value v1
  refine keptR_guard ?_
  exact State.trialDone_kept h1

theorem execEstDrLimitExpiry_kept {t a1 s} (h : Kept q n s) :
    KeptR q (max n t) (execEstDrLimitExpiry t a1 s) := by
  unfold execEstDrLimitExpiry
  extract_lets +onlyGivenNames v1
  have h1 : Kept q (max n t) v1 := by
    unfold v1
    exact State.arrive_kept h
  clear_value v1
  extract_lets +onlyGivenNames v2
  refine keptR_next ?_
  refine kept_ite ?_ ?_
  · refine kept_ite ?_ ?_
    · exact State.raiseAlarm_kept (State.modCore_kept h1)
    · exact h1
  · refine kept_ite ?_ ?_
    · exact State.raiseAlarm_kept (State.modCore_kept h1)
    · exact h1

theorem execEstPeerDiffCount_kept {t s} (h : Kept q n s) :
    KeptR q (max n t) (execEstPeerDiffCount t s) := by
  unfold execEstPeerDiffCount
  extract_lets +onlyGivenNames v1
  have h1 : Kept q (max n t) v1 := by
    unfold v1
    exact State.arrive_kept h
  clear_value v1
  refine keptR_next ?_
  refine kept_ite ?_ ?_
  · exact State.raiseAlarm_kept h1
  · exact h1

theorem opRefSelect_kept : KeptOp opRefSelect := by
  constructor
  · intro q n s a b p h
    unfold opRefSelect
    dsimp -zeta only
    exact kept_upd h same
  · intro q n s p h
    unfold opRefSelect
    dsimp -zeta only
    exact h

theorem opRefQuery_kept : KeptOp opRefQuery := by
  constructor
  · intro q n s a b p h
    unfold opRefQuery
    dsimp -zeta only
    extract_lets +onlyGivenNames v1
    exact h
  · intro q n s p h
    unfold opRefQuery
    dsimp -zeta only
    exact h

theorem opRefRetry_kept : KeptOp opRefRetry := by
  constructor
  · intro q n s a b p h
    unfold opRefRetry
    dsimp -zeta only
    exact kept_upd h same
  · intro q n s p h
    unfold opRefRetry
    dsimp -zeta only
    exact h

theorem opEstReinit_kept : KeptOp opEstReinit := by
  constructor
  · intro q n s a b p h
    unfold opEstReinit
    dsimp -zeta only
    exact kept_upd h same
  · intro q n s p h
    unfold opEstReinit
    dsimp -zeta only
    exact h

end Sys2Proof.Machine
end

