-- ==== Sys2Proof/Laws/KeptFio.lean ====
section
/-!
SUPPORT. What every run keeps, through the operations and meanings of Machine/Fio.lean: one lemma for each.
-/
namespace Sys2Proof.Machine
variable {q : List Instr} {n : Nat}

theorem State.fioInput_kept {s a1 a2 a3 a4} (h : Kept q n s) :
    Kept q n (State.fioInput s a1 a2 a3 a4) := by
  unfold State.fioInput
  extract_lets +onlyGivenNames v1
  extract_lets +onlyGivenNames v2
  extract_lets +onlyGivenNames v3
  have h3 : Kept q n v3 := by
    unfold v3
    exact State.modFch_kept h
  clear_value v3
  extract_lets +onlyGivenNames v4
  extract_lets +onlyGivenNames v5
  refine kept_ite ?_ ?_
  · exact h3
  · extract_lets +onlyGivenNames v6
    have h6 : Kept q n v6 := by
      unfold v6
      exact State.modFch_kept h3
    clear_value v6
    refine kept_ite ?_ ?_
    · exact h6
    · exact State.fioSample_kept h6

theorem execFioInputEdge_kept {t a1 a2 a3 a4 s} (h : Kept q n s) :
    KeptR q (max n t) (execFioInputEdge t a1 a2 s a3 a4) := by
  unfold execFioInputEdge
  extract_lets +onlyGivenNames v1
  have h1 : Kept q (max n t) v1 := by
    unfold v1
    exact State.arrive_kept h
  clear_value v1
  refine keptR_guard ?_
  refine kept_ite ?_ ?_
  · exact State.fioFollow_kept (State.fioInput_kept h1)
  · exact h1

theorem execFioWireBreak_kept {t a1 a2 s} (h : Kept q n s) :
    KeptR q (max n t) (execFioWireBreak t a1 s a2) := by
  unfold execFioWireBreak
  extract_lets +onlyGivenNames v1
  have h1 : Kept q (max n t) v1 := by
    unfold v1
    exact State.arrive_kept h
  clear_value v1
  refine keptR_guard ?_
  refine kept_ite ?_ ?_
  · exact h1
  · extract_lets +onlyGivenNames v2
    have h2 : Kept q (max n t) v2 := by
      unfold v2
      exact State.modFch_kept h1
    clear_value v2
    refine kept_ite ?_ ?_
    · exact h2
    · exact State.fioFollow_kept (State.raiseAlarm_kept (State.fioSample_kept (State.modFch_kept h2)))

theorem execFioWireBreakClear_kept {t a1 a2 a3 s} (h : Kept q n s) :
    KeptR q (max n t) (execFioWireBreakClear t a1 s a2 a3) := by
  unfold execFioWireBreakClear
  extract_lets +onlyGivenNames v1
  have h1 : Kept q (max n t) v1 := by
    unfold v1
    exact State.arrive_kept h
  clear_value v1
  refine keptR_guard ?_
  refine kept_ite ?_ ?_
  · exact h1
  · extract_lets +onlyGivenNames v2
    have h2 : Kept q (max n t) v2 := by
      unfold v2
      exact State.modFch_kept h1
    clear_value v2
    refine kept_ite ?_ ?_
    · exact h2
    · exact State.fioFollow_kept (State.clearAlarm_kept (State.fioSample_kept (State.modFch_kept h2)))

theorem State.fioReadback_kept {s a1 a2 a3} (h : Kept q n s) :
    Kept q n (State.fioReadback s a1 a2 a3) := by
  unfold State.fioReadback
  extract_lets +onlyGivenNames v1
  extract_lets +onlyGivenNames v2
  extract_lets +onlyGivenNames v3
  have h3 : Kept q n v3 := by
    unfold v3
    exact State.modFch_kept h
  clear_value v3
  refine kept_ite ?_ ?_
  · exact h3
  · exact State.fioSample_kept h3

theorem State.fioShutdown_kept {s a1} (h : Kept q n s) :
    Kept q n (State.fioShutdown s a1) := by
  unfold State.fioShutdown
  extract_lets +onlyGivenNames v1
  extract_lets +onlyGivenNames v2
  extract_lets +onlyGivenNames v3
  extract_lets +onlyGivenNames v4
  have h4 : Kept q n v4 := by
    unfold v4
    exact State.modFch_kept h
  clear_value v4
  extract_lets +onlyGivenNames v5
  have h5 : Kept q n v5 := by
    unfold v5
    exact State.modFgr_kept h4
  clear_value v5
  refine State.fioFollow1_kept ?_
  refine kept_ite ?_ ?_
  · exact State.raiseAlarm_kept h5
  · exact h5

theorem State.fioOvercurrent_kept {s a1 a2 a3} (h : Kept q n s) :
    Kept q n (State.fioOvercurrent s a1 a2 a3) := by
  unfold State.fioOvercurrent
  extract_lets +onlyGivenNames v1
  refine kept_ite ?_ ?_
  · exact h
  · refine kept_ite ?_ ?_
    · exact State.modFch_kept h
    · refine kept_ite ?_ ?_
      · exact State.fioShutdown_kept h
      · refine kept_ite ?_ ?_
        · exact State.modFch_kept h
        · exact h

theorem State.backfedSample_kept {s a1 a2 a3} (h : Kept q n s) :
    Kept q n (State.backfedSample s a1 a2 a3) := by
  unfold State.backfedSample
  extract_lets +onlyGivenNames v1
  have h1 : Kept q n v1 := by
    unfold v1
    exact State.alarmIf_kept h
  clear_value v1
  refine kept_ite ?_ ?_
  · exact h1
  · exact State.fioSample_kept h1

theorem State.fioBackfed_kept {s a1} (h : Kept q n s) :
    Kept q n (State.fioBackfed s a1) := by
  unfold State.fioBackfed
  extract_lets +onlyGivenNames v1
  extract_lets +onlyGivenNames v2
  extract_lets +onlyGivenNames v3
  have h3 : Kept q n v3 := by
    unfold v3
    exact State.modFch_kept h
  clear_value v3
  extract_lets +onlyGivenNames v4
  refine kept_ite ?_ ?_
  · exact State.backfedSample_kept (State.modFch_kept h3)
  · refine kept_ite ?_ ?_
    · exact State.backfedSample_kept (State.modFch_kept h3)
    · exact h3

theorem State.fioStuck_kept {s a1} (h : Kept q n s) :
    Kept q n (State.fioStuck s a1) := by
  unfold State.fioStuck
  extract_lets +onlyGivenNames v1
  extract_lets +onlyGivenNames v2
  have h2 : Kept q n v2 := by
    unfold v2
    exact State.modFch_kept h
  clear_value v2
  refine kept_ite ?_ ?_
  · exact State.raiseAlarm_kept (State.fioFollow1_kept (State.modFch_kept h2))
  · exact h2

theorem State.fioOpen_kept {s a1 a2} (h : Kept q n s) :
    Kept q n (State.fioOpen s a1 a2) := by
  unfold State.fioOpen
  extract_lets +onlyGivenNames v1
  have h1 : Kept q n v1 := by
    unfold v1
    exact State.modFch_kept h
  clear_value v1
  extract_lets +onlyGivenNames v2
  refine kept_ite ?_ ?_
  · exact State.raiseAlarm_kept (State.modFch_kept h1)
  · refine kept_ite ?_ ?_
    · exact State.clearAlarm_kept (State.modFch_kept h1)
    · exact h1

theorem State.fioGroupSum_kept {s a1} (h : Kept q n s) :
    Kept q n (State.fioGroupSum s a1) := by
  unfold State.fioGroupSum
  extract_lets +onlyGivenNames v1
  extract_lets +onlyGivenNames v2
  have h2 : Kept q n v2 := by
    unfold v2
    exact State.modFgr_kept h
  clear_value v2
  refine kept_ite ?_ ?_
  · exact State.clearAlarm_kept h2
  · exact h2

theorem execFioOutputSample_kept {t a1 a2 a3 s} (h : Kept q n s) :
    KeptR q (max n t) (execFioOutputSample t a1 a2 a3 s) := by
  unfold execFioOutputSample
  extract_lets +onlyGivenNames v1
  have h1 : Kept q (max n t) v1 := by
    unfold v1
    exact State.arrive_kept h
  clear_value v1
  refine keptR_guard ?_
  refine kept_ite ?_ ?_
  · exact h1
  · extract_lets +onlyGivenNames v2
    have h2 : Kept q (max n t) v2 := by
      unfold v2
      exact State.fioOvercurrent_kept (State.fioReadback_kept h1)
    clear_value v2
    extract_lets +onlyGivenNames v3
    have h3 : Kept q (max n t) v3 := by
      unfold v3
      exact State.fioBackfed_kept h2
    clear_value v3
    extract_lets +onlyGivenNames v4
    have h4 : Kept q (max n t) v4 := by
      unfold v4
      refine kept_ite ?_ ?_
      · exact State.fioStuck_kept h3
      · exact h3
    clear_value v4
    exact State.fioFollow_kept (State.fioGroupSum_kept (State.fioOpen_kept h4))

theorem execFioOvercurrentRetry_kept {t a1 s} (h : Kept q n s) :
    KeptR q (max n t) (execFioOvercurrentRetry t a1 s) := by
  unfold execFioOvercurrentRetry
  extract_lets +onlyGivenNames v1
  have h1 : Kept q (max n t) v1 := by
    unfold v1
    exact State.arrive_kept h
  clear_value v1
  refine keptR_guard ?_
  split
  next y2 y3 =>
    exact h1
  next y4 y5 y6 =>
    refine kept_ite ?_ ?_
    · exact h1
    · exact State.fioFollow1_kept (State.modFch_kept h1)

theorem execFioGroupOverload_kept {t a1 s} (h : Kept q n s) :
    KeptR q (max n t) (execFioGroupOverload t a1 s) := by
  unfold execFioGroupOverload
  extract_lets +onlyGivenNames v1
  have h1 : Kept q (max n t) v1 := by
    unfold v1
    exact State.arrive_kept h
  clear_value v1
  refine keptR_guard ?_
  refine kept_ite ?_ ?_
  · exact h1
  · extract_lets +onlyGivenNames v2
    have h2 : Kept q (max n t) v2 := by
      unfold v2
      exact State.raiseAlarm_kept (State.modFgr_kept h1)
    clear_value v2
    split
    next y3 y4 =>
      exact h2
    next y5 y6 y7 =>
      exact State.raiseAlarm_kept (State.modFch_kept (State.fioFollow1_kept (State.modFch_kept h2)))

theorem State.fioSupply_kept {s a1 a2 a3} (h : Kept q n s) :
    Kept q n (State.fioSupply s a1 a2 a3) := by
  unfold State.fioSupply
  extract_lets +onlyGivenNames v1
  extract_lets +onlyGivenNames v2
  split
  next y3 y4 =>
    refine kept_ite ?_ ?_
    · exact State.fioMissing_kept h
    · refine kept_ite ?_ ?_
      · exact State.fioRequal_kept (State.raiseAlarm_kept (State.modFgr_kept h))
      · exact h
  next y5 y6 =>
    refine kept_ite ?_ ?_
    · exact State.fioMissing_kept h
    · refine kept_ite ?_ ?_
      · exact State.fioRequal_kept (State.clearAlarm_kept (State.modFgr_kept h))
      · exact h
  next y7 y8 =>
    refine kept_ite ?_ ?_
    · exact State.fioLeaveMissing_kept h
    · exact h
  next y9 y10 =>
    refine kept_ite ?_ ?_
    · exact State.fioMissing_kept h
    · refine kept_ite ?_ ?_
      · exact State.fioRequal_kept (State.clearAlarm_kept h)
      · exact h
  next y11 y12 y13 y14 y15 =>
    exact h

theorem execFioSupplyStateChange_kept {t a1 a2 a3 s} (h : Kept q n s) :
    KeptR q (max n t) (execFioSupplyStateChange t a1 a2 s a3) := by
  unfold execFioSupplyStateChange
  extract_lets +onlyGivenNames v1
  have h1 : Kept q (max n t) v1 := by
    unfold v1
    exact State.arrive_kept h
  clear_value v1
  refine keptR_guard ?_
  extract_lets +onlyGivenNames v2
  have h2 : Kept q (max n t) v2 := by
    unfold v2
    exact State.modFgr_kept h1
  clear_value v2
  refine kept_ite ?_ ?_
  · exact State.fioFollow_kept (State.fioSupply_kept h2)
  · exact h2

theorem execFioRestoreSwitch_kept {t a1 s} (h : Kept q n s) :
    KeptR q (max n t) (execFioRestoreSwitch t a1 s) := by
  unfold execFioRestoreSwitch
  extract_lets +onlyGivenNames v1
  have h1 : Kept q (max n t) v1 := by
    unfold v1
    exact State.arrive_kept h
  clear_value v1
  refine keptR_guard ?_
  refine kept_ite ?_ ?_
  · exact h1
  · exact State.fioRestoreNext_kept h1

theorem execFioPulseEnd_kept {t a1 s} (h : Kept q n s) :
    KeptR q (max n t) (execFioPulseEnd t a1 s) := by
  unfold execFioPulseEnd
  extract_lets +onlyGivenNames v1
  have h1 : Kept q (max n t) v1 := by
    unfold v1
    exact State.arrive_kept h
  clear_value v1
  refine keptR_guard ?_
  split
  next y2 y3 =>
    exact h1
  next y4 y5 y6 =>
    refine kept_ite ?_ ?_
    · exact h1
    · exact State.fioPulseOver_kept h1

theorem opFioQuery_kept : KeptOp opFioQuery := by
  constructor
  · intro q n s a b p h
    unfold opFioQuery
    dsimp -zeta only
    extract_lets +onlyGivenNames v1
    exact h
  · intro q n s p h
    unfold opFioQuery
    dsimp -zeta only
    exact h

theorem State.fioSet_kept {s a1} (h : Kept q n s) :
    Kept q n (State.fioSet s a1) := by
  unfold State.fioSet
  extract_lets +onlyGivenNames v1
  extract_lets +onlyGivenNames v2
  refine kept_foldl h ?_
  intro x3 x4 h5
  refine kept_ite ?_ ?_
  · exact State.fioFollow1_kept (State.modFch_kept (State.fioPulseAbort_kept h5))
  · exact h5

theorem opFioSet_kept : KeptOp opFioSet := by
  constructor
  · intro q n s a b p h
    unfold opFioSet
    dsimp -zeta only
    exact State.fioSet_kept h
  · intro q n s p h
    unfold opFioSet
    dsimp -zeta only
    exact h

theorem State.fioPulse_kept {s a1 a2 a3} (h : Kept q n s) :
    Kept q n (State.fioPulse s a1 a2 a3) := by
  unfold State.fioPulse
  extract_lets +onlyGivenNames v1
  exact State.fioFollow1_kept (State.modFch_kept h)

theorem opFioPulse_kept : KeptOp opFioPulse := by
  constructor
  · intro q n s a b p h
    unfold opFioPulse
    dsimp -zeta only
    exact State.fioPulse_kept h
  · intro q n s p h
    unfold opFioPulse
    dsimp -zeta only
    exact h

theorem State.fioClear_kept {s a1} (h : Kept q n s) :
    Kept q n (State.fioClear s a1) := by
  unfold State.fioClear
  refine kept_foldl h ?_
  intro x1 x2 h3
  exact State.clearAlarm_kept (State.fioFollow1_kept (State.modFch_kept h3))

theorem opFioClear_kept : KeptOp opFioClear := by
  constructor
  · intro q n s a b p h
    unfold opFioClear
    dsimp -zeta only
    exact State.fioClear_kept h
  · intro q n s p h
    unfold opFioClear
    dsimp -zeta only
    exact h

theorem State.fioGroupRestore_kept {s a1} (h : Kept q n s) :
    Kept q n (State.fioGroupRestore s a1) := by
  unfold State.fioGroupRestore
  refine kept_ite ?_ ?_
  · exact h
  · exact State.fioRestore_kept (State.clearAlarm_kept (State.modFgr_kept h))

theorem opFioGroupRestore_kept : KeptOp opFioGroupRestore := by
  constructor
  · intro q n s a b p h
    unfold opFioGroupRestore
    dsimp -zeta only
    exact State.fioGroupRestore_kept h
  · intro q n s p h
    unfold opFioGroupRestore
    dsimp -zeta only
    exact h

end Sys2Proof.Machine
end

