-- ==== Sys2Proof/Laws/KeptHen.lean ====
section
/-!
SUPPORT. What every run keeps, through the operations and meanings of Machine/Hen.lean: one lemma for each.
-/
namespace Sys2Proof.Machine
variable {q : List Instr} {n : Nat}

theorem execHenSubHiWrite_kept {t a1 a2 a3 s} (h : Kept q n s) :
    KeptR q (max n t) (execHenSubHiWrite t a1 a2 a3 s) := by
  unfold execHenSubHiWrite
  extract_lets +onlyGivenNames v1
  have h1 : Kept q (max n t) v1 := by
    unfold v1
    exact State.arrive_kept h
  clear_value v1
  extract_lets +onlyGivenNames v2
  refine keptR_guard ?_
  split
  next y3 =>
    refine kept_ite ?_ ?_
    · exact State.henSettle_kept (State.henSubmit_kept h1)
    · exact h1
  next y4 =>
    refine kept_ite ?_ ?_
    · exact State.henSettle_kept (State.henSubmit_kept h1)
    · exact h1
  next y5 =>
    refine kept_ite ?_ ?_
    · exact State.partViolation_kept h1
    · refine kept_ite ?_ ?_
      · exact State.henSettle_kept (State.henSubmit_kept h1)
      · exact h1
  next y6 =>
    exact State.busErr_kept h1
  next y7 =>
    exact State.busErr_kept h1

theorem State.henCancel_kept {s a1 a2 a3} (h : Kept q n s) :
    Kept q n (State.henCancel s a1 a2 a3) := by
  unfold State.henCancel
  extract_lets +onlyGivenNames v1
  clear_value v1
  split
  next y2 y3 =>
    exact h
  next y4 y5 y6 =>
    exact State.cancelJob_kept h

theorem State.endFirst_kept {s a1} (h : Kept q n s) :
    Kept q n (State.endFirst s a1) := by
  unfold State.endFirst
  refine kept_foldl h ?_
  intro x1 x2 h3
  exact State.problemEnd_kept h3

theorem execHenQCancelWrite_kept {t a1 a2 a3 s} (h : Kept q n s) :
    KeptR q (max n t) (execHenQCancelWrite t a1 a2 s a3) := by
  unfold execHenQCancelWrite
  extract_lets +onlyGivenNames v1
  have h1 : Kept q (max n t) v1 := by
    unfold v1
    exact State.arrive_kept h
  clear_value v1
  refine keptR_guard ?_
  exact State.henSettle_kept (State.henGo_kept (State.henCancel_kept (State.endFirst_kept h1)))

theorem execHenQEnClear_kept {t a1 s} (h : Kept q n s) :
    KeptR q (max n t) (execHenQEnClear t a1 s) := by
  unfold execHenQEnClear
  extract_lets +onlyGivenNames v1
  have h1 : Kept q (max n t) v1 := by
    unfold v1
    exact State.arrive_kept h
  clear_value v1
  refine keptR_guard ?_
  refine kept_ite ?_ ?_
  · exact State.henSettle_kept (State.henGo_kept (State.henDisable_kept h1))
  · exact h1

theorem execHenQPop_kept {t a1 s} (h : Kept q n s) :
    KeptR q (max n t) (execHenQPop t a1 s) := by
  unfold execHenQPop
  extract_lets +onlyGivenNames v1
  have h1 : Kept q (max n t) v1 := by
    unfold v1
    exact State.arrive_kept h
  clear_value v1
  refine keptR_guard ?_
  exact State.modHq_kept h1

theorem execHenClusterEnClear_kept {t a1 s} (h : Kept q n s) :
    KeptR q (max n t) (execHenClusterEnClear t a1 s) := by
  unfold execHenClusterEnClear
  extract_lets +onlyGivenNames v1
  have h1 : Kept q (max n t) v1 := by
    unfold v1
    exact State.arrive_kept h
  clear_value v1
  refine keptR_guard ?_
  refine kept_ite ?_ ?_
  · exact State.henSettle_kept (State.dmaClusterLost_kept (State.clLeave_kept h1))
  · exact h1

theorem execHenProblemEnd_kept {t a1 a2 s} (h : Kept q n s) :
    KeptR q (max n t) (execHenProblemEnd t a1 s a2) := by
  unfold execHenProblemEnd
  extract_lets +onlyGivenNames v1
  have h1 : Kept q (max n t) v1 := by
    unfold v1
    exact State.arrive_kept h
  clear_value v1
  refine keptR_guard ?_
  refine kept_ite ?_ ?_
  · refine State.henSettle_kept ?_
    refine State.henGo_kept ?_
    refine kept_ite ?_ ?_
    · exact State.endFirst_kept h1
    · exact State.problemEnd_kept h1
  · exact h1

theorem State.suspend_kept {s a1 a2} (h : Kept q n s) :
    Kept q n (State.suspend s a1 a2) := by
  unfold State.suspend
  split
  next y1 y2 =>
    exact h
  next y3 y4 y5 y6 =>
    refine kept_ite ?_ ?_
    · exact h
    · split
      next y7 y8 y9 y10 =>
        have h11 : Kept q n y9 := kept_snd y10 (State.itersNow_kept h)
        extract_lets +onlyGivenNames v12
        extract_lets +onlyGivenNames v13
        have h13 : Kept q n v13 := by
          unfold v13
          exact State.modCl_kept h11
        clear_value v13
        extract_lets +onlyGivenNames v14
        extract_lets +onlyGivenNames v15
        have h15 : Kept q n v15 := by
          unfold v15
          exact kept_upd h13 same
        clear_value v15
        exact State.henGo_kept (State.dispatch_kept h15)

theorem State.suspPoint_kept {s a1} (h : Kept q n s) :
    Kept q n (State.suspPoint s a1) := by
  unfold State.suspPoint
  split
  next y1 y2 =>
    exact h
  next y3 y4 y5 =>
    exact State.suspend_kept h

theorem execHenSuspensionPoint_kept {t a1 a2 s} (h : Kept q n s) :
    KeptR q (max n t) (execHenSuspensionPoint t a1 s a2) := by
  unfold execHenSuspensionPoint
  extract_lets +onlyGivenNames v1
  have h1 : Kept q (max n t) v1 := by
    unfold v1
    exact State.arrive_kept h
  clear_value v1
  refine keptR_guard ?_
  refine kept_ite ?_ ?_
  · exact State.suspPoint_kept (State.suspPoint_kept h1)
  · exact State.suspPoint_kept h1

theorem execHenJobDeadline_kept {t a1 a2 a3 s} (h : Kept q n s) :
    KeptR q (max n t) (execHenJobDeadline t a1 a2 s a3) := by
  unfold execHenJobDeadline
  extract_lets +onlyGivenNames v1
  have h1 : Kept q (max n t) v1 := by
    unfold v1
    exact State.arrive_kept h
  clear_value v1
  refine keptR_guard ?_
  split
  next y2 y3 =>
    exact h1
  next y4 y5 y6 =>
    split
    next y7 y8 =>
      exact h1
    next y9 y10 y11 =>
      refine kept_ite ?_ ?_
      · exact State.henSettle_kept (State.henGo_kept (State.endJob_kept (State.endFirst_kept h1)))
      · exact h1

theorem State.henMemErr_kept {s a1} (h : Kept q n s) :
    Kept q n (State.henMemErr s a1) := by
  unfold State.henMemErr
  extract_lets +onlyGivenNames v1
  extract_lets +onlyGivenNames v2
  extract_lets +onlyGivenNames v3
  extract_lets +onlyGivenNames v4
  extract_lets +onlyGivenNames v5
  have h5 : Kept q n v5 := by
    unfold v5
    exact kept_upd h same
  clear_value v5
  extract_lets +onlyGivenNames v6
  have h6 : Kept q n v6 := by
    unfold v6
    exact State.event_kept (State.modCl_kept h5)
  clear_value v6
  extract_lets +onlyGivenNames v7
  have h7 : Kept q n v7 := by
    unfold v7
    clear_value v1
    split
    next y8 y9 y10 =>
      exact State.lose_kept h6
    next y11 y12 =>
      exact h6
  clear_value v7
  refine kept_ite ?_ ?_
  · exact State.dmaClusterLost_kept (State.henGo_kept (State.loseAll_kept (State.event_kept h7)))
  · exact State.henGo_kept h7

theorem execHenSramError_kept {t a1 a2 s} (h : Kept q n s) :
    KeptR q (max n t) (execHenSramError t a1 a2 s) := by
  unfold execHenSramError
  extract_lets +onlyGivenNames v1
  have h1 : Kept q (max n t) v1 := by
    unfold v1
    exact State.arrive_kept h
  clear_value v1
  refine keptR_guard ?_
  refine kept_ite ?_ ?_
  · exact h1
  · refine kept_ite ?_ ?_
    · exact kept_upd h1 same
    · exact State.henSettle_kept (State.henMemErr_kept h1)

theorem execHenClusterStop_kept {t a1 s} (h : Kept q n s) :
    KeptR q (max n t) (execHenClusterStop t a1 s) := by
  unfold execHenClusterStop
  extract_lets +onlyGivenNames v1
  have h1 : Kept q (max n t) v1 := by
    unfold v1
    exact State.arrive_kept h
  clear_value v1
  refine keptR_guard ?_
  refine kept_ite ?_ ?_
  · exact State.henSettle_kept (State.setDom_kept (State.dmaClusterLost_kept (State.clStop_kept h1)))
  · exact h1

theorem State.henCommand_kept {s a1 a2 a3} (h : Kept q n s) :
    Kept q n (State.henCommand s a1 a2 a3) := by
  unfold State.henCommand
  extract_lets +onlyGivenNames v1
  extract_lets +onlyGivenNames v2
  extract_lets +onlyGivenNames v3
  extract_lets +onlyGivenNames v4
  refine kept_ite ?_ ?_
  · exact kept_upd h same
  · refine kept_ite ?_ ?_
    · exact State.henSettle_kept (State.henAccept_kept h)
    · exact State.completeCmd_kept h

theorem State.henReplayFrame_kept {s} (h : Kept q n s) :
    Kept q n (State.henReplayFrame s) := by
  unfold State.henReplayFrame
  refine kept_foldl (kept_upd h same) ?_
  intro x1 x2 h3
  exact State.henCommand_kept h3

theorem opHenSubmit_kept : KeptOp opHenSubmit := by
  constructor
  · intro q n s a b p h
    unfold opHenSubmit
    dsimp -zeta only
    exact State.henCommand_kept h
  · intro q n s p h
    unfold opHenSubmit
    dsimp -zeta only
    exact h

theorem opHenStatus_kept : KeptOp opHenStatus := by
  constructor
  · intro q n s a b p h
    unfold opHenStatus
    dsimp -zeta only
    exact h
  · intro q n s p h
    unfold opHenStatus
    dsimp -zeta only
    exact h

theorem opHenCancel_kept : KeptOp opHenCancel := by
  constructor
  · intro q n s a b p h
    unfold opHenCancel
    dsimp -zeta only
    exact State.henSettle_kept (State.henCancel_kept h)
  · intro q n s p h
    unfold opHenCancel
    dsimp -zeta only
    exact h

end Sys2Proof.Machine
end

