-- ==== Sys2Proof/Laws/KeptHold.lean ====
section
/-!
SUPPORT. What every run keeps, through the operations and meanings of Machine/Hold.lean: one lemma for each.
-/
namespace Sys2Proof.Machine
variable {q : List Instr} {n : Nat}

theorem execMpcFailCount_kept {t s} (h : Kept q n s) :
    KeptR q (max n t) (execMpcFailCount t s) := by
  unfold execMpcFailCount
  extract_lets +onlyGivenNames v1
  have h1 : Kept q (max n t) v1 := by
    unfold v1
    exact State.arrive_kept h
  clear_value v1
  extract_lets +onlyGivenNames v2
  refine keptR_next ?_
  refine kept_ite ?_ ?_
  · exact State.degrade_kept (State.raiseAlarm_kept (State.modHold_kept h1))
  · exact h1

theorem execMpcOkCount_kept {t s} (h : Kept q n s) :
    KeptR q (max n t) (execMpcOkCount t s) := by
  unfold execMpcOkCount
  extract_lets +onlyGivenNames v1
  have h1 : Kept q (max n t) v1 := by
    unfold v1
    exact State.arrive_kept h
  clear_value v1
  extract_lets +onlyGivenNames v2
  refine keptR_next ?_
  refine kept_ite ?_ ?_
  · exact State.clearAlarm_kept (State.modHold_kept (State.startBlend_kept h1))
  · exact h1

theorem execJoyCentreRelease_kept {t s} (h : Kept q n s) :
    KeptR q (max n t) (execJoyCentreRelease t s) := by
  unfold execJoyCentreRelease
  extract_lets +onlyGivenNames v1
  have h1 : Kept q (max n t) v1 := by
    unfold v1
    exact State.arrive_kept h
  clear_value v1
  extract_lets +onlyGivenNames v2
  refine keptR_next ?_
  refine kept_ite ?_ ?_
  · exact State.modHold_kept h1
  · exact h1

theorem execExcursionClearTimer_kept {t a1 s} (h : Kept q n s) :
    KeptR q (max n t) (execExcursionClearTimer t a1 s) := by
  unfold execExcursionClearTimer
  extract_lets +onlyGivenNames v1
  have h1 : Kept q (max n t) v1 := by
    unfold v1
    exact State.arrive_kept h
  clear_value v1
  refine keptR_guard ?_
  refine kept_ite ?_ ?_
  · exact State.clearAlarm_kept h1
  · exact h1

theorem execBprContactDetected_kept {t s} (h : Kept q n s) :
    KeptR q (max n t) (execBprContactDetected t s) := by
  unfold execBprContactDetected
  extract_lets +onlyGivenNames v1
  have h1 : Kept q (max n t) v1 := by
    unfold v1
    exact State.arrive_kept h
  clear_value v1
  extract_lets +onlyGivenNames v2
  refine keptR_next ?_
  refine kept_ite ?_ ?_
  · extract_lets +onlyGivenNames v3
    exact State.clearAlarm_kept (State.clearAlarm_kept (State.modHold_kept h1))
  · exact h1

theorem execBprContactTimeout_kept {t s} (h : Kept q n s) :
    KeptR q (max n t) (execBprContactTimeout t s) := by
  unfold execBprContactTimeout
  extract_lets +onlyGivenNames v1
  have h1 : Kept q (max n t) v1 := by
    unfold v1
    exact State.arrive_kept h
  clear_value v1
  extract_lets +onlyGivenNames v2
  refine keptR_next ?_
  refine kept_ite ?_ ?_
  · exact State.raiseAlarm_kept h1
  · exact h1

theorem execBprContactLoss_kept {t s} (h : Kept q n s) :
    KeptR q (max n t) (execBprContactLoss t s) := by
  unfold execBprContactLoss
  extract_lets +onlyGivenNames v1
  have h1 : Kept q (max n t) v1 := by
    unfold v1
    exact State.arrive_kept h
  clear_value v1
  extract_lets +onlyGivenNames v2
  refine keptR_next ?_
  refine kept_ite ?_ ?_
  · exact State.raiseAlarm_kept (State.modHold_kept h1)
  · exact h1

theorem State.pendHold_kept {s a1} (h : Kept q n s) :
    Kept q n (State.pendHold s a1) := by
  unfold State.pendHold
  exact kept_upd h same

theorem opHoldSelectFunction_kept : KeptOp opHoldSelectFunction := by
  constructor
  · intro q n s a b p h
    unfold opHoldSelectFunction
    dsimp -zeta only
    exact State.pendHold_kept h
  · intro q n s p h
    unfold opHoldSelectFunction
    dsimp -zeta only
    exact h

theorem opHoldSetSetpoint_kept : KeptOp opHoldSetSetpoint := by
  constructor
  · intro q n s a b p h
    unfold opHoldSetSetpoint
    dsimp -zeta only
    exact State.pendHold_kept h
  · intro q n s p h
    unfold opHoldSetSetpoint
    dsimp -zeta only
    exact h

theorem opHoldSetEnd_kept : KeptOp opHoldSetEnd := by
  constructor
  · intro q n s a b p h
    unfold opHoldSetEnd
    dsimp -zeta only
    exact State.pendHold_kept h
  · intro q n s p h
    unfold opHoldSetEnd
    dsimp -zeta only
    exact h

theorem opHoldBprSet_kept : KeptOp opHoldBprSet := by
  constructor
  · intro q n s a b p h
    unfold opHoldBprSet
    dsimp -zeta only
    exact State.pendHold_kept h
  · intro q n s p h
    unfold opHoldBprSet
    dsimp -zeta only
    exact h

theorem opHoldStatus_kept : KeptOp opHoldStatus := by
  constructor
  · intro q n s a b p h
    unfold opHoldStatus
    dsimp -zeta only
    extract_lets +onlyGivenNames v1
    extract_lets +onlyGivenNames v2
    exact h
  · intro q n s p h
    unfold opHoldStatus
    dsimp -zeta only
    exact h

end Sys2Proof.Machine
end

