-- ==== Sys2Proof/Laws/KeptPower.lean ====
section
/-!
SUPPORT. What every run keeps, through the operations and meanings of Machine/Power.lean: one lemma for each.
-/
namespace Sys2Proof.Machine
variable {q : List Instr} {n : Nat}

theorem State.modKeep_kept {s a1} (h : Kept q n s) :
    Kept q n (State.modKeep s a1) := by
  unfold State.modKeep
  exact kept_upd h same

theorem State.modSupply_kept {s a1} (h : Kept q n s) :
    Kept q n (State.modSupply s a1) := by
  unfold State.modSupply
  exact State.modKeep_kept h

theorem State.supplyIs_kept {s a1 a2} (h : Kept q n s) :
    Kept q n (State.supplyIs s a1 a2) := by
  unfold State.supplyIs
  exact State.modSupply_kept h

theorem State.lowWrites_kept {s} (h : Kept q n s) :
    Kept q n (State.lowWrites s) := by
  unfold State.lowWrites
  extract_lets +onlyGivenNames v1
  have h1 : Kept q n v1 := by
    unfold v1
    refine kept_ite ?_ ?_
    · exact State.flushQueue_kept (State.logThaw_kept h)
    · exact h
  clear_value v1
  extract_lets +onlyGivenNames v2
  have h2 : Kept q n v2 := by
    unfold v2
    refine kept_ite ?_ ?_
    · exact State.learnSave_kept h1
    · exact h1
  clear_value v2
  refine kept_ite ?_ ?_
  · exact State.satRetain_kept h2
  · exact h2

theorem State.lowEnter_kept {s} (h : Kept q n s) :
    Kept q n (State.lowEnter s) := by
  unfold State.lowEnter
  exact State.raiseAlarm_kept (State.modSupply_kept (State.lowWrites_kept h))

theorem execSupplyLowEntry_kept {t a1 a2 s} (h : Kept q n s) :
    KeptR q (max n t) (execSupplyLowEntry t a1 a2 s) := by
  unfold execSupplyLowEntry
  extract_lets +onlyGivenNames v1
  have h1 : Kept q (max n t) v1 := by
    unfold v1
    exact State.supplyIs_kept (State.arrive_kept h)
  clear_value v1
  refine keptR_next ?_
  refine kept_ite ?_ ?_
  · exact State.lowEnter_kept h1
  · exact h1

theorem execSupplyNormalReturn_kept {t a1 a2 s} (h : Kept q n s) :
    KeptR q (max n t) (execSupplyNormalReturn t a1 a2 s) := by
  unfold execSupplyNormalReturn
  extract_lets +onlyGivenNames v1
  have h1 : Kept q (max n t) v1 := by
    unfold v1
    exact State.supplyIs_kept (State.arrive_kept h)
  clear_value v1
  refine keptR_next ?_
  refine kept_ite ?_ ?_
  · exact State.modSupply_kept (State.clearAlarm_kept h1)
  · exact h1

theorem State.inputIs_kept {s a1 a2} (h : Kept q n s) :
    Kept q n (State.inputIs s a1 a2) := by
  unfold State.inputIs
  exact State.modSupply_kept h

theorem execVlInputLost_kept {t a1 a2 s} (h : Kept q n s) :
    KeptR q (max n t) (execVlInputLost t a1 a2 s) := by
  unfold execVlInputLost
  extract_lets +onlyGivenNames v1
  have h1 : Kept q (max n t) v1 := by
    unfold v1
    exact State.inputIs_kept (State.arrive_kept h)
  clear_value v1
  refine keptR_next ?_
  refine kept_ite ?_ ?_
  · exact State.raiseAlarm_kept h1
  · exact h1

theorem execVlInputRestored_kept {t a1 a2 s} (h : Kept q n s) :
    KeptR q (max n t) (execVlInputRestored t a1 a2 s) := by
  unfold execVlInputRestored
  extract_lets +onlyGivenNames v1
  have h1 : Kept q (max n t) v1 := by
    unfold v1
    exact State.arrive_kept h
  clear_value v1
  refine keptR_guard ?_
  refine kept_ite ?_ ?_
  · refine kept_ite ?_ ?_
    · exact State.clearAlarm_kept h1
    · exact h1
  · extract_lets +onlyGivenNames v2
    have h2 : Kept q (max n t) v2 := by
      unfold v2
      exact State.inputIs_kept h1
    clear_value v2
    refine kept_ite ?_ ?_
    · exact State.clearAlarm_kept h2
    · exact h2

theorem execSupplyHigh_kept {t a1 a2 s} (h : Kept q n s) :
    KeptR q (max n t) (execSupplyHigh t a1 a2 s) := by
  unfold execSupplyHigh
  extract_lets +onlyGivenNames v1
  have h1 : Kept q (max n t) v1 := by
    unfold v1
    exact State.supplyIs_kept (State.arrive_kept h)
  clear_value v1
  refine keptR_next ?_
  refine kept_ite ?_ ?_
  · exact State.raiseAlarm_kept h1
  · exact h1

theorem State.saveCounters_kept {s} (h : Kept q n s) :
    Kept q n (State.saveCounters s) := by
  unfold State.saveCounters
  extract_lets +onlyGivenNames v1
  exact State.modKeep_kept h

theorem execKeepCounterSave_kept {t s} (h : Kept q n s) :
    KeptR q (max n t) (execKeepCounterSave t s) := by
  unfold execKeepCounterSave
  extract_lets +onlyGivenNames v1
  have h1 : Kept q (max n t) v1 := by
    unfold v1
    exact State.arrive_kept h
  clear_value v1
  refine keptR_next ?_
  refine kept_ite ?_ ?_
  · exact State.saveCounters_kept h1
  · exact h1

theorem State.calibrate_kept {s a1 a2} (h : Kept q n s) :
    Kept q n (State.calibrate s a1 a2) := by
  unfold State.calibrate
  exact State.modKeep_kept h

theorem execTimeKeeperCalibrate_kept {t s} (h : Kept q n s) :
    KeptR q (max n t) (execTimeKeeperCalibrate t s) := by
  unfold execTimeKeeperCalibrate
  extract_lets +onlyGivenNames v1
  have h1 : Kept q (max n t) v1 := by
    unfold v1
    exact State.arrive_kept h
  clear_value v1
  extract_lets +onlyGivenNames v2
  refine keptR_next ?_
  refine kept_ite ?_ ?_
  · exact State.calibrate_kept h1
  · exact h1

theorem State.saveTime_kept {s} (h : Kept q n s) :
    Kept q n (State.saveTime s) := by
  unfold State.saveTime
  exact State.modKeep_kept h

theorem State.powerDown_kept {s} (h : Kept q n s) :
    Kept q n (State.powerDown s) := by
  unfold State.powerDown
  extract_lets +onlyGivenNames v1
  have h1 : Kept q n v1 := by
    unfold v1
    exact State.modSupply_kept h
  clear_value v1
  extract_lets +onlyGivenNames v2
  have h2 : Kept q n v2 := by
    unfold v2
    exact State.allDown_kept (State.giveUp_kept h1)
  clear_value v2
  extract_lets +onlyGivenNames v3
  extract_lets +onlyGivenNames v4
  have h4 : Kept q n v4 := by
    unfold v4
    exact State.saveTime_kept (State.saveCounters_kept (State.direct_kept h2))
  clear_value v4
  extract_lets +onlyGivenNames v5
  have h5 : Kept q n v5 := by
    unfold v5
    exact State.allDown_kept h4
  clear_value v5
  exact State.modKeep_kept h5

theorem execPowerDown_kept {t a1 a2 s} (h : Kept q n s) :
    KeptR q (max n t) (execPowerDown t a1 a2 s) := by
  unfold execPowerDown
  extract_lets +onlyGivenNames v1
  have h1 : Kept q (max n t) v1 := by
    unfold v1
    exact State.supplyIs_kept (State.arrive_kept h)
  clear_value v1
  refine keptR_next ?_
  refine kept_ite ?_ ?_
  · refine State.powerDown_kept ?_
    refine kept_ite ?_ ?_
    · exact State.lowEnter_kept h1
    · exact h1
  · exact h1

theorem State.imgStart_kept {s a1} (h : Kept q n s) :
    Kept q n (State.imgStart s a1) := by
  unfold State.imgStart
  extract_lets +onlyGivenNames v1
  extract_lets +onlyGivenNames v2
  extract_lets +onlyGivenNames v3
  have h3 : Kept q n v3 := by
    unfold v3
    exact kept_upd h same
  clear_value v3
  extract_lets +onlyGivenNames v4
  refine kept_ite ?_ ?_
  · exact kept_upd h3 same
  · exact h3

theorem State.enterRestore_kept {s a1 a2} (h : Kept q n s) :
    Kept q n (State.enterRestore s a1 a2) := by
  unfold State.enterRestore
  extract_lets +onlyGivenNames v1
  extract_lets +onlyGivenNames v2
  have h2 : Kept q n v2 := by
    unfold v2
    exact State.dropAlarms_kept (State.clearAlarm_kept (State.allDown_kept h))
  clear_value v2
  extract_lets +onlyGivenNames v3
  have h3 : Kept q n v3 := by
    unfold v3
    exact State.modRed_kept h2
  clear_value v3
  extract_lets +onlyGivenNames v4
  have h4 : Kept q n v4 := by
    unfold v4
    exact State.modKeep_kept h3
  clear_value v4
  extract_lets +onlyGivenNames v5
  have h5 : Kept q n v5 := by
    unfold v5
    exact State.setMode_kept (State.modSafe_kept h4 rfl)
  clear_value v5
  extract_lets +onlyGivenNames v6
  extract_lets +onlyGivenNames v7
  have h7 : Kept q n v7 := by
    unfold v7
    exact kept_upd h5 same
  clear_value v7
  extract_lets +onlyGivenNames v8
  have h8 : Kept q n v8 := by
    unfold v8
    exact kept_upd h7 same
  clear_value v8
  extract_lets +onlyGivenNames v9
  have h9 : Kept q n v9 := by
    unfold v9
    exact State.chooseCfg_kept (State.imgStart_kept h8)
  clear_value v9
  extract_lets +onlyGivenNames v10
  have h10 : Kept q n v10 := by
    unfold v10
    refine kept_ite ?_ ?_
    · exact h9
    · exact State.safePend_kept h9
  clear_value v10
  extract_lets +onlyGivenNames v11
  have h11 : Kept q n v11 := by
    unfold v11
    exact State.domUp_kept (State.domUp_kept h10)
  clear_value v11
  refine kept_ite ?_ ?_
  · exact kept_upd h11 same
  · exact h11

theorem execResetNAssert_kept {t s} (h : Kept q n s) :
    KeptR q (max n t) (execResetNAssert t s) := by
  unfold execResetNAssert
  extract_lets +onlyGivenNames v1
  have h1 : Kept q (max n t) v1 := by
    unfold v1
    exact State.arrive_kept h
  clear_value v1
  refine keptR_next ?_
  refine kept_ite ?_ ?_
  · exact State.direct_kept (State.modKeep_kept (State.allDown_kept (State.giveUp_kept h1)))
  · exact h1

theorem execResetHeld_kept {t s} (h : Kept q n s) :
    KeptR q (max n t) (execResetHeld t s) := by
  unfold execResetHeld
  extract_lets +onlyGivenNames v1
  have h1 : Kept q (max n t) v1 := by
    unfold v1
    exact State.arrive_kept h
  clear_value v1
  refine keptR_next ?_
  refine kept_ite ?_ ?_
  · exact State.direct_kept (State.modKeep_kept h1)
  · exact h1

theorem execResetNRelease_kept {t a1 s} (h : Kept q n s) :
    KeptR q (max n t) (execResetNRelease t a1 s) := by
  unfold execResetNRelease
  extract_lets +onlyGivenNames v1
  have h1 : Kept q (max n t) v1 := by
    unfold v1
    exact State.arrive_kept h
  clear_value v1
  refine keptR_guard ?_
  refine kept_ite ?_ ?_
  · exact State.enterRestore_kept h1
  · exact h1

theorem State.loseD0_kept {s a1} (h : Kept q n s) :
    Kept q n (State.loseD0 s a1) := by
  unfold State.loseD0
  extract_lets +onlyGivenNames v0
  have h0 : Kept q n v0 := State.logCut_kept h
  clear_value v0
  extract_lets +onlyGivenNames v1
  extract_lets +onlyGivenNames v2
  extract_lets +onlyGivenNames v3
  have h1 : v1.drops.length = 8 ∧ v1.qdrops.length = 8 ∧ v1.rd.length = 3 := by
    have := (State.logReset_kept h0).6
    simp [State.sizes, unitSizes] at this
    simp [v1, this]
  have h3 : Kept q n v3 := State.allDown_kept h0
  clear_value v1 v3
  refine kept_upd h3 (fun e => ?_)
  simp [State.sizes, unitSizes] at e ⊢
  simp [e, h1]

theorem State.retainedBad_kept {s a1} (h : Kept q n s) :
    Kept q n (State.retainedBad s a1) := by
  unfold State.retainedBad
  extract_lets +onlyGivenNames v1
  extract_lets +onlyGivenNames v2
  extract_lets +onlyGivenNames v3
  extract_lets +onlyGivenNames v4
  extract_lets +onlyGivenNames v5
  extract_lets +onlyGivenNames v6
  have h6 : Kept q n v6 := by
    unfold v6
    exact kept_upd h same
  clear_value v6
  extract_lets +onlyGivenNames v7
  have h7 : Kept q n v7 := by
    unfold v7
    split
    next y8 y9 y10 =>
      exact State.journalCut_kept h6
    next y11 y12 =>
      exact h6
  clear_value v7
  extract_lets +onlyGivenNames v13
  have h13 : Kept q n v13 := by
    unfold v13
    exact State.modKeep_kept h7
  clear_value v13
  refine kept_foldl h13 ?_
  intro x14 x15 h16
  exact State.direct_kept h16

theorem State.wordsLost_kept {s} (h : Kept q n s) :
    Kept q n (State.wordsLost s) := by
  unfold State.wordsLost
  split
  next y1 y2 y3 y4 =>
    have h5 : Kept q n y3 := kept_snd y4 (State.freeW_kept h)
    split
    next y6 y7 y8 y9 =>
      have h10 : Kept q n y8 := kept_snd y9 (State.freeW_kept h5)
      exact State.modKeep_kept h10

theorem State.coldStart_kept {s a1 a2 a3 a4} (h : Kept q n s) :
    Kept q n (State.coldStart s a1 a2 a3 a4) := by
  unfold State.coldStart
  extract_lets +onlyGivenNames v1
  extract_lets +onlyGivenNames v2
  extract_lets +onlyGivenNames v3
  have h3 : Kept q n v3 := by
    unfold v3
    exact State.dropAlarms_kept (State.modKeep_kept h)
  clear_value v3
  extract_lets +onlyGivenNames v4
  have h4 : Kept q n v4 := by
    unfold v4
    refine State.retainedBad_kept ?_
    refine State.logStart_kept ?_
    refine kept_ite ?_ ?_
    · exact h3
    · exact State.wordsLost_kept h3
  clear_value v4
  extract_lets +onlyGivenNames v5
  have h5 : Kept q n v5 := by
    unfold v5
    exact State.enterRestore_kept (State.imgStart_kept h4)
  clear_value v5
  refine kept_ite ?_ ?_
  · exact h5
  · exact State.raiseAlarm_kept h5

theorem execColdStart_kept {t a1 a2 a3 a4 s} (h : Kept q n s) :
    KeptR q (max n t) (execColdStart t a1 a2 a3 s a4) := by
  unfold execColdStart
  extract_lets +onlyGivenNames v1
  have h1 : Kept q (max n t) v1 := by
    unfold v1
    exact State.supplyIs_kept (State.arrive_kept h)
  clear_value v1
  refine keptR_guard ?_
  refine kept_ite ?_ ?_
  · exact h1
  · refine kept_ite ?_ ?_
    · exact State.coldStart_kept h1
    · exact State.coldStart_kept (State.loseD0_kept h1)

theorem execBaseplateHot_kept {t a1 s} (h : Kept q n s) :
    KeptR q (max n t) (execBaseplateHot t a1 s) := by
  unfold execBaseplateHot
  extract_lets +onlyGivenNames v1
  have h1 : Kept q (max n t) v1 := by
    unfold v1
    exact State.arrive_kept h
  clear_value v1
  extract_lets +onlyGivenNames v2
  extract_lets +onlyGivenNames v3
  have h3 : Kept q (max n t) v3 := by
    unfold v3
    exact State.modKeep_kept h1
  clear_value v3
  refine keptR_next ?_
  refine kept_ite ?_ ?_
  · exact State.raiseAlarm_kept h3
  · exact h3

theorem State.keepFrame_kept {s} (h : Kept q n s) :
    Kept q n (State.keepFrame s) := by
  unfold State.keepFrame
  refine kept_ite ?_ ?_
  · exact State.clearAlarm_kept h
  · exact h

theorem State.keepAlarms_kept {s} (h : Kept q n s) :
    Kept q n (State.keepAlarms s) := by
  unfold State.keepAlarms
  extract_lets +onlyGivenNames v1
  extract_lets +onlyGivenNames v2
  have h2 : Kept q n v2 := by
    unfold v2
    refine kept_ite ?_ ?_
    · exact State.raiseAlarm_kept h
    · exact h
  clear_value v2
  refine kept_foldl h2 ?_
  intro x3 x4 h5
  refine kept_ite ?_ ?_
  · exact State.raiseAlarm_kept h5
  · exact h5

theorem State.drainMem_kept {s} (h : Kept q n s) :
    Kept q n (State.drainMem s) := by
  unfold State.drainMem
  refine State.domDown_kept ?_
  refine kept_ite ?_ ?_
  · exact State.logDrain_kept h
  · exact h

theorem State.enterKeep_kept {s a1} (h : Kept q n s) :
    Kept q n (State.enterKeep s a1) := by
  unfold State.enterKeep
  extract_lets +onlyGivenNames v1
  have h1 : Kept q n v1 := by
    unfold v1
    refine kept_ite ?_ ?_
    · exact State.satRetain_kept h
    · exact h
  clear_value v1
  extract_lets +onlyGivenNames v2
  have h2 : Kept q n v2 := by
    unfold v2
    exact State.drainMem_kept (State.allDown_kept (State.setMode_kept h1))
  clear_value v2
  exact kept_upd h2 same

theorem execKeepExitTimer_kept {t s} (h : Kept q n s) :
    KeptR q (max n t) (execKeepExitTimer t s) := by
  unfold execKeepExitTimer
  extract_lets +onlyGivenNames v1
  have h1 : Kept q (max n t) v1 := by
    unfold v1
    exact State.arrive_kept h
  clear_value v1
  refine keptR_next ?_
  split
  next y2 y3 =>
    exact h1
  next y4 y5 y6 =>
    refine kept_ite ?_ ?_
    · exact State.enterRestore_kept h1
    · exact h1

theorem execSatWake_kept {t s} (h : Kept q n s) :
    KeptR q (max n t) (execSatWake t s) := by
  unfold execSatWake
  extract_lets +onlyGivenNames v1
  have h1 : Kept q (max n t) v1 := by
    unfold v1
    exact State.arrive_kept h
  clear_value v1
  extract_lets +onlyGivenNames v2
  refine keptR_next ?_
  refine kept_ite ?_ ?_
  · extract_lets +onlyGivenNames v3
    have h3 : Kept q (max n t) v3 := by
      unfold v3
      exact State.allUp_kept h1
    clear_value v3
    exact kept_upd h3 same
  · exact h1

theorem State.wakeEnd_kept {s} (h : Kept q n s) :
    Kept q n (State.wakeEnd s) := by
  unfold State.wakeEnd
  extract_lets +onlyGivenNames v1
  have h1 : Kept q n v1 := by
    unfold v1
    refine kept_ite ?_ ?_
    · refine State.satRetain_kept ?_
      refine kept_ite ?_ ?_
      · exact h
      · exact State.calibrate_kept h
    · exact State.event_kept h
  clear_value v1
  extract_lets +onlyGivenNames v2
  have h2 : Kept q n v2 := by
    unfold v2
    exact State.drainMem_kept (State.allDown_kept h1)
  clear_value v2
  exact kept_upd h2 same

theorem execSatWakeEnd_kept {t s} (h : Kept q n s) :
    KeptR q (max n t) (execSatWakeEnd t s) := by
  unfold execSatWakeEnd
  extract_lets +onlyGivenNames v1
  have h1 : Kept q (max n t) v1 := by
    unfold v1
    exact State.arrive_kept h
  clear_value v1
  refine keptR_next ?_
  split
  next y2 y3 =>
    exact h1
  next y4 y5 y6 =>
    refine kept_ite ?_ ?_
    · exact State.wakeEnd_kept h1
    · exact h1

end Sys2Proof.Machine
end

