-- ==== Sys2Proof/Laws/KeptRed.lean ====
section
/-!
SUPPORT. What every run keeps, through the operations and meanings of Machine/Red.lean: one lemma for each.
-/
namespace Sys2Proof.Machine
variable {q : List Instr} {n : Nat}

theorem State.relDue_kept {s} (h : Kept q n s) :
    Kept q n (State.relDue s) := by
  unfold State.relDue
  split
  next y1 y2 =>
    exact h
  next y3 y4 y5 y6 =>
    refine kept_ite ?_ ?_
    · exact State.applyRelease_kept (State.modRed_kept h)
    · exact h

theorem State.heartbeat_kept {s} (h : Kept q n s) :
    Kept q n (State.heartbeat s) := by
  unfold State.heartbeat
  extract_lets +onlyGivenNames v1
  have h1 : Kept q n v1 := by
    unfold v1
    exact State.relDue_kept h
  clear_value v1
  extract_lets +onlyGivenNames v2
  extract_lets +onlyGivenNames v3
  extract_lets +onlyGivenNames v4
  have h4 : Kept q n v4 := by
    unfold v4
    refine kept_ite ?_ ?_
    · exact State.giveUp_kept (State.modRed_kept h1)
    · exact h1
  clear_value v4
  extract_lets +onlyGivenNames v5
  extract_lets +onlyGivenNames v6
  have h6 : Kept q n v6 := by
    unfold v6
    exact State.modRed_kept h4
  clear_value v6
  extract_lets +onlyGivenNames v7
  refine kept_foldl h6 ?_
  intro x8 x9 h10
  exact State.emit_kept h10

theorem execHeartbeatSend_kept {t s} (h : Kept q n s) :
    KeptR q (max n t) (execHeartbeatSend t s) := by
  unfold execHeartbeatSend
  extract_lets +onlyGivenNames v1
  have h1 : Kept q (max n t) v1 := by
    unfold v1
    exact State.arrive_kept h
  clear_value v1
  refine keptR_next ?_
  refine kept_ite ?_ ?_
  · exact State.heartbeat_kept h1
  · exact h1

theorem State.takeSkew_kept {s a1 a2} (h : Kept q n s) :
    Kept q n (State.takeSkew s a1 a2) := by
  unfold State.takeSkew
  refine kept_ite ?_ ?_
  · exact h
  · extract_lets +onlyGivenNames v1
    exact kept_upd h same

theorem State.hearsAgain_kept {s a1} (h : Kept q n s) :
    Kept q n (State.hearsAgain s a1) := by
  unfold State.hearsAgain
  extract_lets +onlyGivenNames v1
  have h1 : Kept q n v1 := by
    unfold v1
    refine kept_ite ?_ ?_
    · exact State.clearAlarm_kept h
    · exact h
  clear_value v1
  refine kept_ite ?_ ?_
  · exact State.clearAlarm_kept (State.modRed_kept h1)
  · exact h1

theorem State.takeRelease_kept {s a1 a2} (h : Kept q n s) :
    Kept q n (State.takeRelease s a1 a2) := by
  unfold State.takeRelease
  refine kept_ite ?_ ?_
  · exact h
  · extract_lets +onlyGivenNames v1
    have h1 : Kept q n v1 := by
      unfold v1
      exact State.modRed_kept h
    clear_value v1
    extract_lets +onlyGivenNames v2
    refine kept_ite ?_ ?_
    · exact h1
    · refine kept_ite ?_ ?_
      · exact State.modRed_kept h1
      · exact State.applyRelease_kept h1

theorem State.takeHeartbeat_kept {s a1 a2 a3} (h : Kept q n s) :
    Kept q n (State.takeHeartbeat s a1 a2 a3) := by
  unfold State.takeHeartbeat
  extract_lets +onlyGivenNames v1
  have h1 : Kept q n v1 := by
    unfold v1
    exact State.relDue_kept h
  clear_value v1
  extract_lets +onlyGivenNames v2
  have h2 : Kept q n v2 := by
    unfold v2
    exact State.takeSkew_kept (State.hearsAgain_kept (State.modPartner_kept h1))
  clear_value v2
  extract_lets +onlyGivenNames v3
  have h3 : Kept q n v3 := by
    unfold v3
    exact State.seeEpoch_kept h2
  clear_value v3
  extract_lets +onlyGivenNames v4
  have h4 : Kept q n v4 := by
    unfold v4
    refine kept_ite ?_ ?_
    · exact State.leaseRequest_kept h3
    · exact h3
  clear_value v4
  exact State.takeRelease_kept h4

theorem execHeartbeatReceived_kept {t a1 a2 s} (h : Kept q n s) :
    KeptR q (max n t) (execHeartbeatReceived t a1 a2 s) := by
  unfold execHeartbeatReceived
  extract_lets +onlyGivenNames v1
  have h1 : Kept q (max n t) v1 := by
    unfold v1
    exact State.arrive_kept h
  clear_value v1
  refine keptR_guard ?_
  extract_lets +onlyGivenNames v2
  refine kept_ite ?_ ?_
  · exact h1
  · refine kept_ite ?_ ?_
    · exact State.raiseAlarm_kept (State.modRed_kept h1)
    · refine kept_ite ?_ ?_
      · exact State.takeHeartbeat_kept h1
      · exact h1

theorem State.missOne_kept {s a1} (h : Kept q n s) :
    Kept q n (State.missOne s a1) := by
  unfold State.missOne
  extract_lets +onlyGivenNames v1
  extract_lets +onlyGivenNames v2
  extract_lets +onlyGivenNames v3
  extract_lets +onlyGivenNames v4
  extract_lets +onlyGivenNames v5
  extract_lets +onlyGivenNames v6
  have h6 : Kept q n v6 := by
    unfold v6
    exact State.modPartner_kept h
  clear_value v6
  refine kept_ite ?_ ?_
  · exact h6
  · extract_lets +onlyGivenNames v7
    extract_lets +onlyGivenNames v8
    have h8 : Kept q n v8 := by
      unfold v8
      refine kept_ite ?_ ?_
      · exact kept_upd h6 same
      · exact h6
    clear_value v8
    refine kept_ite ?_ ?_
    · exact State.raiseAlarm_kept h8
    · exact h8

theorem State.laneCheck_kept {s a1} (h : Kept q n s) :
    Kept q n (State.laneCheck s a1) := by
  unfold State.laneCheck
  extract_lets +onlyGivenNames v1
  extract_lets +onlyGivenNames v2
  extract_lets +onlyGivenNames v3
  have h3 : Kept q n v3 := by
    unfold v3
    exact State.modPartner_kept h
  clear_value v3
  refine kept_ite ?_ ?_
  · exact h3
  · refine kept_ite ?_ ?_
    · refine kept_ite ?_ ?_
      · exact State.clearAlarm_kept h3
      · exact h3
    · refine kept_ite ?_ ?_
      · exact State.raiseAlarm_kept h3
      · exact h3

theorem State.silenceCheck_kept {s} (h : Kept q n s) :
    Kept q n (State.silenceCheck s) := by
  unfold State.silenceCheck
  split
  next y1 y2 =>
    exact h
  next y3 y4 y5 =>
    extract_lets +onlyGivenNames v6
    extract_lets +onlyGivenNames v7
    have h7 : Kept q n v7 := by
      unfold v7
      exact State.modRed_kept h
    clear_value v7
    refine kept_ite ?_ ?_
    · exact State.giveUp_kept (State.raiseAlarm_kept (State.modRed_kept h7))
    · exact h7

theorem State.promoteCheck_kept {s} (h : Kept q n s) :
    Kept q n (State.promoteCheck s) := by
  unfold State.promoteCheck
  split
  next y1 y2 =>
    exact h
  next y3 y4 y5 =>
    extract_lets +onlyGivenNames v6
    extract_lets +onlyGivenNames v7
    extract_lets +onlyGivenNames v8
    refine kept_ite ?_ ?_
    · extract_lets +onlyGivenNames v9
      have h9 : Kept q n v9.2 := by
        unfold v9
        exact State.newEpoch_kept h
      clear_value v9
      exact State.gain_kept h9
    · exact h

theorem execHeartbeatMissCheck_kept {t s} (h : Kept q n s) :
    KeptR q (max n t) (execHeartbeatMissCheck t s) := by
  unfold execHeartbeatMissCheck
  extract_lets +onlyGivenNames v1
  have h1 : Kept q (max n t) v1 := by
    unfold v1
    exact State.arrive_kept h
  clear_value v1
  refine keptR_next ?_
  refine kept_ite ?_ ?_
  · extract_lets +onlyGivenNames v2
    have h2 : Kept q (max n t) v2 := by
      unfold v2
      exact State.modRed_kept h1
    clear_value v2
    refine State.wardenStep_kept ?_
    refine State.promoteCheck_kept ?_
    refine State.silenceCheck_kept ?_
    refine kept_foldl ?_ ?_
    · refine kept_foldl h2 ?_
      intro x3 x4 h5
      exact State.missOne_kept h5
    · intro x6 x7 h8
      exact State.laneCheck_kept h8
  · exact h1

theorem State.takeGrant_kept {s a1} (h : Kept q n s) :
    Kept q n (State.takeGrant s a1) := by
  unfold State.takeGrant
  extract_lets +onlyGivenNames v1
  extract_lets +onlyGivenNames v2
  have h2 : Kept q n v2 := by
    unfold v2
    exact State.seeEpoch_kept h
  clear_value v2
  refine kept_ite ?_ ?_
  · extract_lets +onlyGivenNames v3
    have h3 : Kept q n v3 := by
      unfold v3
      exact State.modRed_kept h2
    clear_value v3
    refine kept_ite ?_ ?_
    · exact State.clearAlarm_kept (State.modRed_kept h3)
    · exact h3
  · refine kept_ite ?_ ?_
    · exact State.gain_kept (State.modRed_kept h2)
    · exact h2

theorem execLeaseGrantReceived_kept {t a1 a2 s} (h : Kept q n s) :
    KeptR q (max n t) (execLeaseGrantReceived t a1 a2 s) := by
  unfold execLeaseGrantReceived
  extract_lets +onlyGivenNames v1
  have h1 : Kept q (max n t) v1 := by
    unfold v1
    exact State.arrive_kept h
  clear_value v1
  refine keptR_guard ?_
  refine kept_ite ?_ ?_
  · exact State.takeGrant_kept h1
  · exact h1

theorem execLeaseHolderExpiry_kept {t s} (h : Kept q n s) :
    KeptR q (max n t) (execLeaseHolderExpiry t s) := by
  unfold execLeaseHolderExpiry
  extract_lets +onlyGivenNames v1
  have h1 : Kept q (max n t) v1 := by
    unfold v1
    exact State.arrive_kept h
  clear_value v1
  refine keptR_next ?_
  refine kept_ite ?_ ?_
  · exact State.leaseOut_kept h1
  · exact h1

theorem execLeaseExpiryW_kept {t s} (h : Kept q n s) :
    KeptR q (max n t) (execLeaseExpiryW t s) := by
  unfold execLeaseExpiryW
  extract_lets +onlyGivenNames v1
  have h1 : Kept q (max n t) v1 := by
    unfold v1
    exact State.arrive_kept h
  clear_value v1
  extract_lets +onlyGivenNames v2
  refine keptR_next ?_
  refine kept_ite ?_ ?_
  · exact State.modLease_kept h1
  · exact h1

theorem execLeaseGuardEnd_kept {t s} (h : Kept q n s) :
    KeptR q (max n t) (execLeaseGuardEnd t s) := by
  unfold execLeaseGuardEnd
  extract_lets +onlyGivenNames v1
  have h1 : Kept q (max n t) v1 := by
    unfold v1
    exact State.arrive_kept h
  clear_value v1
  refine keptR_next ?_
  split
  next y2 y3 =>
    exact h1
  next y4 y5 y6 =>
    refine kept_ite ?_ ?_
    · exact State.wardenStep_kept (State.tryGrant_kept (State.modLease_kept h1))
    · exact h1

theorem State.checkFail_kept {s a1} (h : Kept q n s) :
    Kept q n (State.checkFail s a1) := by
  unfold State.checkFail
  extract_lets +onlyGivenNames v1
  refine kept_ite ?_ ?_
  · exact State.thrZero_kept (State.thrFailed_kept h)
  · exact h

theorem State.checkEnd_kept {s} (h : Kept q n s) :
    Kept q n (State.checkEnd s) := by
  unfold State.checkEnd
  extract_lets +onlyGivenNames v1
  extract_lets +onlyGivenNames v2
  extract_lets +onlyGivenNames v3
  extract_lets +onlyGivenNames v4
  extract_lets +onlyGivenNames v5
  have h5 : Kept q n v5 := by
    unfold v5
    exact State.modRed_kept h
  clear_value v5
  refine kept_ite ?_ ?_
  · exact State.clearAlarm_kept (State.modRed_kept h5)
  · extract_lets +onlyGivenNames v6
    have h6 : Kept q n v6 := by
      unfold v6
      exact State.raiseAlarm_kept (State.modRed_kept h5)
    clear_value v6
    refine kept_ite ?_ ?_
    · exact State.modRed_kept h6
    · extract_lets +onlyGivenNames v7
      have h7 : Kept q n v7 := by
        unfold v7
        refine kept_foldl h6 ?_
        intro x8 x9 h10
        refine kept_ite ?_ ?_
        · exact State.checkFail_kept h10
        · exact h10
      clear_value v7
      extract_lets +onlyGivenNames v11
      refine kept_ite ?_ ?_
      · exact h7
      · exact State.requestStop_kept h7

theorem execTakeoverCheckEnd_kept {t s} (h : Kept q n s) :
    KeptR q (max n t) (execTakeoverCheckEnd t s) := by
  unfold execTakeoverCheckEnd
  extract_lets +onlyGivenNames v1
  have h1 : Kept q (max n t) v1 := by
    unfold v1
    exact State.arrive_kept h
  clear_value v1
  refine keptR_next ?_
  refine kept_ite ?_ ?_
  · exact State.checkEnd_kept h1
  · exact h1

theorem execRotationRelease_kept {t s} (h : Kept q n s) :
    KeptR q (max n t) (execRotationRelease t s) := by
  unfold execRotationRelease
  extract_lets +onlyGivenNames v1
  have h1 : Kept q (max n t) v1 := by
    unfold v1
    exact State.arrive_kept h
  clear_value v1
  refine keptR_next ?_
  refine kept_ite ?_ ?_
  · extract_lets +onlyGivenNames v2
    have h2 : Kept q (max n t) v2 := by
      unfold v2
      refine kept_ite ?_ ?_
      · exact State.modRed_kept h1
      · exact h1
    clear_value v2
    exact State.giveUp_kept h2
  · exact h1

theorem execRoleRelayFaultDetect_kept {t a1 s} (h : Kept q n s) :
    KeptR q (max n t) (execRoleRelayFaultDetect t a1 s) := by
  unfold execRoleRelayFaultDetect
  extract_lets +onlyGivenNames v1
  have h1 : Kept q (max n t) v1 := by
    unfold v1
    exact State.arrive_kept h
  clear_value v1
  refine keptR_guard ?_
  refine kept_ite ?_ ?_
  · exact State.raiseAlarm_kept h1
  · exact h1

theorem execRotateDueReached_kept {t s} (h : Kept q n s) :
    KeptR q (max n t) (execRotateDueReached t s) := by
  unfold execRotateDueReached
  extract_lets +onlyGivenNames v1
  have h1 : Kept q (max n t) v1 := by
    unfold v1
    exact State.arrive_kept h
  clear_value v1
  extract_lets +onlyGivenNames v2
  have h2 : Kept q (max n t) v2 := by
    unfold v2
    exact State.rotateAge_kept h1
  clear_value v2
  refine keptR_next ?_
  refine kept_ite ?_ ?_
  · exact State.raiseAlarm_kept h2
  · exact h2

theorem execUidStrapChange_kept {t a1 s} (h : Kept q n s) :
    KeptR q (max n t) (execUidStrapChange t a1 s) := by
  unfold execUidStrapChange
  extract_lets +onlyGivenNames v1
  have h1 : Kept q (max n t) v1 := by
    unfold v1
    exact State.arrive_kept h
  clear_value v1
  refine keptR_guard ?_
  refine kept_ite ?_ ?_
  · exact h1
  · exact State.event_kept (State.modRed_kept h1)

theorem execFrameMirrorSend_kept {t s} (h : Kept q n s) :
    KeptR q (max n t) (execFrameMirrorSend t s) := by
  unfold execFrameMirrorSend
  extract_lets +onlyGivenNames v1
  have h1 : Kept q (max n t) v1 := by
    unfold v1
    exact State.arrive_kept h
  clear_value v1
  refine keptR_next ?_
  refine kept_ite ?_ ?_
  · extract_lets +onlyGivenNames v2
    extract_lets +onlyGivenNames v3
    have h3 : Kept q (max n t) v3 := by
      unfold v3
      exact State.emit_kept (State.modRed_kept h1)
    clear_value v3
    refine kept_ite ?_ ?_
    · exact State.emit_kept h3
    · exact h3
  · refine kept_ite ?_ ?_
    · exact State.emit_kept h1
    · exact h1

theorem State.holdMirror_kept {s a1} (h : Kept q n s) :
    Kept q n (State.holdMirror s a1) := by
  unfold State.holdMirror
  extract_lets +onlyGivenNames v1
  extract_lets +onlyGivenNames v2
  refine kept_ite ?_ ?_
  · exact kept_upd h same
  · extract_lets +onlyGivenNames v3
    exact kept_upd h same

theorem execFrameMirrorReceived_kept {t a1 s} (h : Kept q n s) :
    KeptR q (max n t) (execFrameMirrorReceived t a1 s) := by
  unfold execFrameMirrorReceived
  extract_lets +onlyGivenNames v1
  have h1 : Kept q (max n t) v1 := by
    unfold v1
    exact State.arrive_kept h
  clear_value v1
  refine keptR_next ?_
  refine kept_ite ?_ ?_
  · extract_lets +onlyGivenNames v2
    have h2 : Kept q (max n t) v2 := by
      unfold v2
      exact State.takeExchange_kept h1
    clear_value v2
    refine kept_ite ?_ ?_
    · exact State.holdMirror_kept h2
    · exact h2
  · exact h1

theorem execLearnedModelMirror_kept {t s} (h : Kept q n s) :
    KeptR q (max n t) (execLearnedModelMirror t s) := by
  unfold execLearnedModelMirror
  extract_lets +onlyGivenNames v1
  have h1 : Kept q (max n t) v1 := by
    unfold v1
    exact State.arrive_kept h
  clear_value v1
  refine keptR_next ?_
  refine kept_ite ?_ ?_
  · exact State.emit_kept h1
  · exact h1

theorem execWardenHoldStateReceived_kept {t a1 s} (h : Kept q n s) :
    KeptR q (max n t) (execWardenHoldStateReceived t a1 s) := by
  unfold execWardenHoldStateReceived
  extract_lets +onlyGivenNames v1
  have h1 : Kept q (max n t) v1 := by
    unfold v1
    exact State.arrive_kept h
  clear_value v1
  refine keptR_next ?_
  refine kept_ite ?_ ?_
  · exact State.applyMirror_kept (State.modRed_kept h1)
  · exact h1

theorem opRedQuery_kept : KeptOp opRedQuery := by
  constructor
  · intro q n s a b p h
    unfold opRedQuery
    dsimp -zeta only
    extract_lets +onlyGivenNames v1
    exact h
  · intro q n s p h
    unfold opRedQuery
    dsimp -zeta only
    exact h

theorem State.rotate_kept {s a1} (h : Kept q n s) : Kept q n (State.rotate s a1).1 :=
  kept_mem h ⟨rfl, rfl, rfl, rfl, rfl⟩ same

theorem opRoleRotate_kept : KeptOp opRoleRotate := by
  constructor
  · intro q n s a b p h
    unfold opRoleRotate
    dsimp -zeta only
    exact State.rotate_kept h
  · intro q n s p h
    unfold opRoleRotate
    dsimp -zeta only
    exact h

theorem State.promote_kept {s a1 a2} (h : Kept q n s) :
    Kept q n (State.promote s a1 a2) := by
  unfold State.promote
  refine kept_ite ?_ ?_
  · exact State.wardenStep_kept (State.modRed_kept h)
  · exact State.wardenTake_kept h

theorem opWardenPromote_kept : KeptOp opWardenPromote := by
  constructor
  · intro q n s a b p h
    unfold opWardenPromote
    dsimp -zeta only
    exact State.promote_kept h
  · intro q n s p h
    unfold opWardenPromote
    dsimp -zeta only
    exact h

theorem opWardenRelease_kept : KeptOp opWardenRelease := by
  constructor
  · intro q n s a b p h
    unfold opWardenRelease
    dsimp -zeta only
    exact State.rotate_kept h
  · intro q n s p h
    unfold opWardenRelease
    dsimp -zeta only
    exact h

end Sys2Proof.Machine
end

