-- ==== Sys2Proof/Laws/KeptModeOps.lean ====
section
/-!
SUPPORT. What every run keeps, through the operations and meanings of Machine/ModeOps.lean: one lemma for each.
-/
namespace Sys2Proof.Machine
variable {q : List Instr} {n : Nat}

theorem State.dropJob_kept {s a1} (h : Kept q n s) :
    Kept q n (State.dropJob s a1) := by
  unfold State.dropJob
  exact kept_upd h same

theorem State.serviceEnter_kept {s a1} (h : Kept q n s) :
    Kept q n (State.serviceEnter s a1) := by
  unfold State.serviceEnter
  refine kept_ite ?_ ?_
  · exact h
  · split
    next y1 y2 =>
      exact State.setMode_kept (kept_upd h same)
    next y3 y4 =>
      exact State.setMode_kept (kept_upd h same)
    next y5 y6 =>
      exact State.setMode_kept (kept_upd h same)
    next y7 y8 y9 y10 =>
      exact h

theorem State.drainGo_kept {s a1} (h : Kept q n s) :
    Kept q n (State.drainGo s a1) := by
  unfold State.drainGo
  refine kept_ite ?_ ?_
  · exact State.clLeave_kept h
  · refine kept_ite ?_ ?_
    · refine kept_foldl ?_ ?_
      · refine kept_foldl h ?_
        intro x1 x2 h3
        exact State.modTch_kept (State.thrRampOut_kept h3)
      · intro x4 x5 h6
        exact State.disablePort_kept h6
    · refine State.drainDown_kept ?_
      refine kept_ite ?_ ?_
      · exact State.satRetain_kept h
      · exact h

theorem State.drainStart_kept {s a1 a2 a3} (h : Kept q n s) :
    Kept q n (State.drainStart s a1 a2 a3) := by
  unfold State.drainStart
  extract_lets +onlyGivenNames v1
  extract_lets +onlyGivenNames v2
  have h2 : Kept q n v2 := by
    unfold v2
    exact State.serviceEnter_kept h
  clear_value v2
  extract_lets +onlyGivenNames v3
  extract_lets +onlyGivenNames v4
  have h4 : Kept q n v4 := by
    unfold v4
    exact kept_upd h2 same
  clear_value v4
  exact State.drainGo_kept (State.raiseAlarm_kept h4)

theorem State.modImg_kept {s a1 a2} (h : Kept q n s) :
    Kept q n (State.modImg s a1 a2) := by
  unfold State.modImg
  exact kept_upd h same

theorem State.imgFallback_kept {s a1} (h : Kept q n s) :
    Kept q n (State.imgFallback s a1) := by
  unfold State.imgFallback
  split
  next y1 y2 =>
    exact h
  next y3 y4 y5 =>
    refine kept_ite ?_ ?_
    · exact State.raiseAlarm_kept (State.modImg_kept h)
    · exact h

theorem State.imgUp_kept {s a1} (h : Kept q n s) :
    Kept q n (State.imgUp s a1) := by
  unfold State.imgUp
  exact State.imgStart_kept h

theorem State.domRuns_kept {s a1} (h : Kept q n s) :
    Kept q n (State.domRuns s a1) := by
  unfold State.domRuns
  extract_lets +onlyGivenNames v1
  extract_lets +onlyGivenNames v2
  extract_lets +onlyGivenNames v3
  have h3 : Kept q n v3 := by
    unfold v3
    exact kept_upd h same
  clear_value v3
  extract_lets +onlyGivenNames v4
  have h4 : Kept q n v4 := by
    unfold v4
    refine kept_foldl h3 ?_
    intro x5 x6 h7
    exact State.clearAlarm_kept h7
  clear_value v4
  extract_lets +onlyGivenNames v8
  have h8 : Kept q n v8 := by
    unfold v8
    refine kept_ite ?_ ?_
    · exact State.clearAlarm_kept h4
    · exact h4
  clear_value v8
  refine kept_ite ?_ ?_
  · exact State.setMode_kept h8
  · exact h8

theorem State.jobDone_kept {s a1 a2} (h : Kept q n s) :
    Kept q n (State.jobDone s a1 a2) := by
  unfold State.jobDone
  split
  next y1 y2 =>
    exact h
  next y3 y4 y5 =>
    exact State.completeCmd_kept (State.dropJob_kept h)

theorem State.modeGo_kept {s a1 a2 a3} (h : Kept q n s) :
    Kept q n (State.modeGo s a1 a2 a3) := by
  unfold State.modeGo
  split
  next y1 =>
    refine kept_ite ?_ ?_
    · exact kept_upd h same
    · exact State.modRed_kept h
  next y2 =>
    refine kept_ite ?_ ?_
    · exact kept_upd h same
    · exact State.setMode_kept h
  next y3 y4 y5 =>
    exact State.setMode_kept h

theorem State.imgCopy_kept {s a1} (h : Kept q n s) :
    Kept q n (State.imgCopy s a1) := by
  unfold State.imgCopy
  exact State.modImg_kept h

theorem State.imgVerified_kept {s a1} (h : Kept q n s) :
    Kept q n (State.imgVerified s a1) := by
  unfold State.imgVerified
  split
  next y1 y2 =>
    exact h
  next y3 y4 y5 y6 y7 =>
    extract_lets +onlyGivenNames v8
    extract_lets +onlyGivenNames v9
    have h9 : Kept q n v9 := by
      unfold v9
      exact kept_upd h same
    clear_value v9
    extract_lets +onlyGivenNames v10
    extract_lets +onlyGivenNames v11
    extract_lets +onlyGivenNames v12
    have h12 : Kept q n v12 := by
      unfold v12
      refine kept_ite ?_ ?_
      · exact State.imgCopy_kept h9
      · refine kept_ite ?_ ?_
        · exact State.modImg_kept h9
        · exact h9
    clear_value v12
    exact State.completeCmd_kept h12

theorem State.partRestart_kept {s} (h : Kept q n s) :
    Kept q n (State.partRestart s) := by
  unfold State.partRestart
  extract_lets +onlyGivenNames v1
  have h1 : Kept q n v1 := by
    unfold v1
    exact State.partStop_kept h
  clear_value v1
  extract_lets +onlyGivenNames v2
  have h2 : Kept q n v2 := by
    unfold v2
    exact State.imgStart_kept h1
  clear_value v2
  exact State.partStart_kept (kept_upd h2 same)

theorem State.imgActivate_kept {s a1} (h : Kept q n s) :
    Kept q n (State.imgActivate s a1) := by
  unfold State.imgActivate
  extract_lets +onlyGivenNames v1
  have h1 : Kept q n v1 := by
    unfold v1
    exact State.modImg_kept h
  clear_value v1
  refine kept_ite ?_ ?_
  · exact State.partRestart_kept h1
  · exact h1

end Sys2Proof.Machine
end

