-- ==== Sys2Proof/Laws/KeptModes.lean ====
section
/-!
SUPPORT. What every run keeps, through the operations and meanings of Machine/Modes.lean: one lemma for each.
-/
namespace Sys2Proof.Machine
variable {q : List Instr} {n : Nat}

theorem opSysQuery_kept : KeptOp opSysQuery := by
  constructor
  · intro q n s a b p h
    unfold opSysQuery
    dsimp -zeta only
    extract_lets +onlyGivenNames v1
    exact h
  · intro q n s p h
    unfold opSysQuery
    dsimp -zeta only
    exact h

theorem opSetMode_kept : KeptOp opSetMode := by
  constructor
  · intro q n s a b p h
    unfold opSetMode
    dsimp -zeta only
    refine kept_ite_fst ?_ ?_
    · exact State.enterKeep_kept (State.deferredDone_kept h)
    · exact State.modeGo_kept h
  · intro q n s p h
    unfold opSetMode
    dsimp -zeta only
    exact h

theorem execHoldGrantTimeout_kept {t s} (h : Kept q n s) :
    KeptR q (max n t) (execHoldGrantTimeout t s) := by
  unfold execHoldGrantTimeout
  extract_lets +onlyGivenNames v1
  have h1 : Kept q (max n t) v1 := by
    unfold v1
    exact State.arrive_kept h
  clear_value v1
  refine keptR_next ?_
  split
  next y2 y3 =>
    exact h1
  next y4 y5 y6 y7 y8 =>
    refine kept_ite ?_ ?_
    · exact State.holdReqDone_kept (State.event_kept (State.modRed_kept h1))
    · exact h1

theorem execHoldReleaseComplete_kept {t s} (h : Kept q n s) :
    KeptR q (max n t) (execHoldReleaseComplete t s) := by
  unfold execHoldReleaseComplete
  extract_lets +onlyGivenNames v1
  have h1 : Kept q (max n t) v1 := by
    unfold v1
    exact State.arrive_kept h
  clear_value v1
  refine keptR_next ?_
  refine kept_ite ?_ ?_
  · exact State.modRed_kept (State.giveUp_kept h1)
  · exact h1

theorem opDomainDrain_kept : KeptOp opDomainDrain := by
  constructor
  · intro q n s a b p h
    unfold opDomainDrain
    dsimp -zeta only
    refine kept_ite ?_ ?_
    · exact State.drainStart_kept h
    · exact h
  · intro q n s p h
    unfold opDomainDrain
    dsimp -zeta only
    exact h

theorem State.restoreStart_kept {s a1 a2 a3} (h : Kept q n s) :
    Kept q n (State.restoreStart s a1 a2 a3) := by
  unfold State.restoreStart
  extract_lets +onlyGivenNames v1
  extract_lets +onlyGivenNames v2
  have h2 : Kept q n v2 := by
    unfold v2
    exact kept_upd h same
  clear_value v2
  refine kept_ite ?_ ?_
  · exact State.domUp_kept (State.domUp_kept (State.imgUp_kept h2))
  · exact h2

theorem opDomainRestore_kept : KeptOp opDomainRestore := by
  constructor
  · intro q n s a b p h
    unfold opDomainRestore
    dsimp -zeta only
    refine kept_ite ?_ ?_
    · exact h
    · exact State.restoreStart_kept h
  · intro q n s p h
    unfold opDomainRestore
    dsimp -zeta only
    exact h

theorem execHenDrainDone_kept {t a1 s} (h : Kept q n s) :
    KeptR q (max n t) (execHenDrainDone t a1 s) := by
  unfold execHenDrainDone
  extract_lets +onlyGivenNames v1
  have h1 : Kept q (max n t) v1 := by
    unfold v1
    exact State.arrive_kept h
  clear_value v1
  refine keptR_guard ?_
  refine kept_ite ?_ ?_
  · exact State.drainDown_kept h1
  · exact h1

theorem execDomainOff_kept {t a1 s} (h : Kept q n s) :
    KeptR q (max n t) (execDomainOff t a1 s) := by
  unfold execDomainOff
  extract_lets +onlyGivenNames v1
  have h1 : Kept q (max n t) v1 := by
    unfold v1
    exact State.arrive_kept h
  clear_value v1
  refine keptR_guard ?_
  split
  next y2 y3 =>
    exact h1
  next y4 y5 y6 =>
    refine kept_ite ?_ ?_
    · exact h1
    · extract_lets +onlyGivenNames v7
      have h7 : Kept q (max n t) v7 := by
        unfold v7
        refine kept_ite ?_ ?_
        · exact State.drainDown_kept h1
        · exact h1
      clear_value v7
      refine kept_ite ?_ ?_
      · exact h7
      · exact State.jobDone_kept h7

theorem State.groupUp_kept {s a1} (h : Kept q n s) :
    Kept q n (State.groupUp s a1) := by
  unfold State.groupUp
  refine kept_foldl (State.imgUp_kept h) ?_
  intro x1 x2 h3
  exact State.domUp_kept h3

theorem execDomainRunning_kept {t a1 s} (h : Kept q n s) :
    KeptR q (max n t) (execDomainRunning t a1 s) := by
  unfold execDomainRunning
  extract_lets +onlyGivenNames v1
  have h1 : Kept q (max n t) v1 := by
    unfold v1
    exact State.arrive_kept h
  clear_value v1
  extract_lets +onlyGivenNames v2
  refine keptR_guard ?_
  refine kept_ite ?_ ?_
  · refine kept_ite ?_ ?_
    · exact State.domUp_kept h1
    · exact h1
  · split
    next y3 y4 =>
      exact h1
    next y5 y6 y7 =>
      refine kept_ite ?_ ?_
      · exact h1
      · refine State.jobDone_kept ?_
        refine State.domRuns_kept ?_
        refine kept_ite ?_ ?_
        · exact h1
        · exact State.groupUp_kept h1

theorem State.failedStart_kept {s a1} (h : Kept q n s) :
    Kept q n (State.failedStart s a1) := by
  unfold State.failedStart
  extract_lets +onlyGivenNames v1
  have h1 : Kept q n v1 := by
    unfold v1
    exact State.imgFallback_kept h
  clear_value v1
  exact State.raiseAlarm_kept (kept_upd h1 same)

theorem State.startFailure_kept {s a1} (h : Kept q n s) :
    Kept q n (State.startFailure s a1) := by
  unfold State.startFailure
  refine kept_ite ?_ ?_
  · refine State.failedStart_kept ?_
    refine State.domDown_kept ?_
    refine kept_foldl h ?_
    intro x1 x2 h3
    exact State.domDown_kept h3
  · split
    next y4 y5 y6 =>
      refine kept_ite ?_ ?_
      · refine State.jobDone_kept ?_
        refine State.failedStart_kept ?_
        refine kept_foldl h ?_
        intro x7 x8 h9
        exact State.domDown_kept h9
      · exact h
    next y10 y11 =>
      refine kept_ite ?_ ?_
      · exact State.imgFallback_kept h
      · exact h

theorem execDomainStartFailure_kept {t a1 s} (h : Kept q n s) :
    KeptR q (max n t) (execDomainStartFailure t a1 s) := by
  unfold execDomainStartFailure
  extract_lets +onlyGivenNames v1
  have h1 : Kept q (max n t) v1 := by
    unfold v1
    exact State.arrive_kept h
  clear_value v1
  refine keptR_guard ?_
  exact State.startFailure_kept h1

theorem opSysRestart_kept : KeptOp opSysRestart := by
  constructor
  · intro q n s a b p h
    unfold opSysRestart
    dsimp -zeta only
    exact kept_upd h same
  · intro q n s p h
    unfold opSysRestart
    dsimp -zeta only
    exact h

theorem State.restartEnd_kept {s} (h : Kept q n s) :
    Kept q n (State.restartEnd s) := by
  unfold State.restartEnd
  exact State.drainMem_kept (State.allDown_kept (State.giveUp_kept h))

theorem State.restart_kept {s a1} (h : Kept q n s) :
    Kept q n (State.restart s a1) := by
  unfold State.restart
  extract_lets +onlyGivenNames v1
  have h1 : Kept q n v1 := by
    unfold v1
    exact State.restartEnd_kept h
  clear_value v1
  refine kept_ite ?_ ?_
  · exact State.coldStart_kept (State.allDown_kept (State.saveTime_kept (State.saveCounters_kept h1)))
  · exact State.enterRestore_kept h1

theorem execSysRestartDelayEnd_kept {t s} (h : Kept q n s) :
    KeptR q (max n t) (execSysRestartDelayEnd t s) := by
  unfold execSysRestartDelayEnd
  extract_lets +onlyGivenNames v1
  have h1 : Kept q (max n t) v1 := by
    unfold v1
    exact State.arrive_kept h
  clear_value v1
  refine keptR_next ?_
  split
  next y2 y3 =>
    exact h1
  next y4 y5 y6 y7 =>
    refine kept_ite ?_ ?_
    · exact State.restart_kept h1
    · exact h1

theorem State.factory_kept {s a1} (h : Kept q n s) :
    Kept q n (State.factory s a1) := by
  unfold State.factory
  extract_lets +onlyGivenNames v1
  extract_lets +onlyGivenNames v2
  extract_lets +onlyGivenNames v3
  extract_lets +onlyGivenNames v4
  have h4 : Kept q n v4 := by
    unfold v4
    refine kept_ite ?_ ?_
    · exact kept_upd h same
    · exact h
  clear_value v4
  extract_lets +onlyGivenNames v5
  extract_lets +onlyGivenNames v6
  have h6 : Kept q n v6 := by
    unfold v6
    refine kept_ite ?_ ?_
    · exact kept_upd h4 (fun e => by simpa [State.sizes, unitSizes] using e)
    · exact h4
  clear_value v6
  extract_lets +onlyGivenNames v7
  extract_lets +onlyGivenNames v8
  have h8 : Kept q n v8 := by
    unfold v8
    refine kept_ite ?_ ?_
    · exact kept_upd h6 same
    · exact h6
  clear_value v8
  refine kept_ite ?_ ?_
  · exact State.modSafe_kept h8 rfl
  · exact h8

theorem opCfgFactory_kept : KeptOp opCfgFactory := by
  constructor
  · intro q n s a b p h
    unfold opCfgFactory
    dsimp -zeta only
    exact State.enterRestore_kept (State.restartEnd_kept (State.factory_kept (State.event_kept (State.deferredDone_kept h))))
  · intro q n s p h
    unfold opCfgFactory
    dsimp -zeta only
    exact h

theorem opCfgFromPeer_kept : KeptOp opCfgFromPeer := by
  constructor
  · intro q n s a b p h
    unfold opCfgFromPeer
    dsimp -zeta only
    exact kept_upd h same
  · intro q n s p h
    unfold opCfgFromPeer
    dsimp -zeta only
    exact h

theorem State.fromPeer_kept {s a1 a2} (h : Kept q n s) :
    Kept q n (State.fromPeer s a1 a2) := by
  unfold State.fromPeer
  split
  next y1 y2 =>
    exact h
  next y3 y4 y5 y6 =>
    extract_lets +onlyGivenNames v7
    extract_lets +onlyGivenNames v8
    have h8 : Kept q n v8 := by
      unfold v8
      exact kept_upd h same
    clear_value v8
    refine kept_ite ?_ ?_
    · exact State.completeCmd_kept h8
    · exact State.completeCmd_kept (State.cfgApply_kept (State.writeCopy_kept h8))

theorem opKeyWrite_kept : KeptOp opKeyWrite := by
  constructor
  · intro q n s a b p h
    unfold opKeyWrite
    dsimp -zeta only
    extract_lets +onlyGivenNames v1
    extract_lets +onlyGivenNames v2
    extract_lets +onlyGivenNames v3
    have h3 : Kept q n v3 := by
      unfold v3
      refine kept_ite ?_ ?_
      · exact State.modKeep_kept h
      · exact State.modKeep_kept h
    clear_value v3
    refine kept_mk_fst ?_
    refine kept_ite ?_ ?_
    · exact State.modSess_kept h3
    · exact h3
  · intro q n s p h
    unfold opKeyWrite
    dsimp -zeta only
    exact h

theorem opImgStage_kept : KeptOp opImgStage := by
  constructor
  · intro q n s a b p h
    unfold opImgStage
    dsimp -zeta only
    exact kept_upd h same
  · intro q n s p h
    unfold opImgStage
    dsimp -zeta only
    exact h

theorem opImgVerify_kept : KeptOp opImgVerify := by
  constructor
  · intro q n s a b p h
    unfold opImgVerify
    dsimp -zeta only
    exact kept_upd h same
  · intro q n s p h
    unfold opImgVerify
    dsimp -zeta only
    exact h

theorem opImgActivate_kept : KeptOp opImgActivate := by
  constructor
  · intro q n s a b p h
    unfold opImgActivate
    dsimp -zeta only
    exact State.imgActivate_kept h
  · intro q n s p h
    unfold opImgActivate
    dsimp -zeta only
    exact h

theorem execImgTrialEnd_kept {t a1 s} (h : Kept q n s) :
    KeptR q (max n t) (execImgTrialEnd t a1 s) := by
  unfold execImgTrialEnd
  extract_lets +onlyGivenNames v1
  have h1 : Kept q (max n t) v1 := by
    unfold v1
    exact State.arrive_kept h
  clear_value v1
  refine keptR_guard ?_
  split
  next y2 y3 =>
    exact h1
  next y4 y5 y6 =>
    refine kept_ite ?_ ?_
    · extract_lets +onlyGivenNames v7
      have h7 : Kept q (max n t) v7 := by
        unfold v7
        exact State.modImg_kept h1
      clear_value v7
      extract_lets +onlyGivenNames v8
      have h8 : Kept q (max n t) v8 := by
        unfold v8
        exact State.modKeep_kept h7
      clear_value v8
      exact State.clearAlarm_kept h8
    · exact h1

end Sys2Proof.Machine
end

