-- ==== Sys2Proof/Laws/KeptSat.lean ====
section
/-!
SUPPORT. What every run keeps, through the operations and meanings of Machine/Sat.lean: one lemma for each.
-/
namespace Sys2Proof.Machine
variable {q : List Instr} {n : Nat}

theorem keptR_satEv {s} {f : State → State} (h : Kept q n s) (hf : ∀ s, Kept q n s → Kept q n (f s)) : KeptR q n (satEv s f) := by
  unfold satEv
  exact keptR_next (kept_ite (hf s h) h)

theorem execSatEpoch_kept {t a1 s} (h : Kept q n s) :
    KeptR q (max n t) (execSatEpoch t a1 s) := by
  unfold execSatEpoch
  refine keptR_satEv (State.arrive_kept h) ?_
  intro x1 h2
  exact State.satEpoch_kept h2

theorem execSatSecondChecks_kept {t a1 s} (h : Kept q n s) :
    KeptR q (max n t) (execSatSecondChecks t a1 s) := by
  unfold execSatSecondChecks
  refine keptR_satEv (State.arrive_kept h) ?_
  intro x1 h2
  exact State.satSecond_kept h2

theorem execSatSignalAcquired_kept {t a1 a2 s} (h : Kept q n s) :
    KeptR q (max n t) (execSatSignalAcquired t a1 a2 s) := by
  unfold execSatSignalAcquired
  refine keptR_satEv (State.arrive_kept h) ?_
  intro x1 h2
  refine kept_ite ?_ ?_
  · exact State.sigAcquired_kept h2
  · exact h2

theorem execSatChannelRelease_kept {t a1 s} (h : Kept q n s) :
    KeptR q (max n t) (execSatChannelRelease t a1 s) := by
  unfold execSatChannelRelease
  refine keptR_satEv (State.arrive_kept h) ?_
  intro x1 h2
  exact kept_upd h2 same

theorem execSatSignalLost_kept {t a1 s} (h : Kept q n s) :
    KeptR q (max n t) (execSatSignalLost t a1 s) := by
  unfold execSatSignalLost
  refine keptR_satEv (State.arrive_kept h) ?_
  intro x1 h2
  extract_lets +onlyGivenNames v3
  extract_lets +onlyGivenNames v4
  have h4 : Kept q (max n t) v4 := by
    unfold v4
    exact kept_upd h2 same
  refine kept_ite ?_ ?_
  · exact State.satLose_kept h4
  · exact h4

theorem execSatHoldoverEntry_kept {t s} (h : Kept q n s) :
    KeptR q (max n t) (execSatHoldoverEntry t s) := by
  unfold execSatHoldoverEntry
  extract_lets +onlyGivenNames v1
  have h1 : Kept q (max n t) v1 := by
    unfold v1
    exact State.arrive_kept h
  clear_value v1
  extract_lets +onlyGivenNames v2
  refine keptR_next ?_
  refine kept_ite ?_ ?_
  · exact State.satLose_kept h1
  · exact h1

theorem execSatReturnConfirmed_kept {t s} (h : Kept q n s) :
    KeptR q (max n t) (execSatReturnConfirmed t s) := by
  unfold execSatReturnConfirmed
  refine keptR_satEv (State.arrive_kept h) ?_
  intro x1 h2
  extract_lets +onlyGivenNames v3
  clear_value v3
  split
  next y4 y5 =>
    exact h2
  next y6 y7 y8 y9 y10 =>
    refine kept_ite ?_ ?_
    · exact State.satReturn_kept h2
    · exact h2

theorem execSatTimeStep_kept {t s} (h : Kept q n s) :
    KeptR q (max n t) (execSatTimeStep t s) := by
  unfold execSatTimeStep
  refine keptR_satEv (State.arrive_kept h) ?_
  intro x1 h2
  split
  next y3 y4 =>
    exact h2
  next y5 y6 y7 y8 =>
    refine kept_ite ?_ ?_
    · exact State.satStep_kept h2
    · exact h2

theorem execSatSlewComplete_kept {t s} (h : Kept q n s) :
    KeptR q (max n t) (execSatSlewComplete t s) := by
  unfold execSatSlewComplete
  refine keptR_satEv (State.arrive_kept h) ?_
  intro x1 h2
  refine kept_ite ?_ ?_
  · exact State.satLocked_kept h2
  · exact h2

theorem execSatPps_kept {t s} (h : Kept q n s) :
    KeptR q (max n t) (execSatPps t s) := by
  unfold execSatPps
  extract_lets +onlyGivenNames v1
  have h1 : Kept q (max n t) v1 := by
    unfold v1
    exact State.arrive_kept h
  clear_value v1
  extract_lets +onlyGivenNames v2
  extract_lets +onlyGivenNames v3
  extract_lets +onlyGivenNames v4
  refine keptR_next ?_
  refine kept_ite ?_ ?_
  · extract_lets +onlyGivenNames v5
    have h5 : Kept q (max n t) v5 := by
      unfold v5
      exact State.modSt_kept h1
    clear_value v5
    refine kept_ite ?_ ?_
    · extract_lets +onlyGivenNames v6
      have h6 : Kept q (max n t) v6 := by
        unfold v6
        exact State.satEdge_kept h5
      clear_value v6
      refine kept_ite ?_ ?_
      · exact State.ppsOut_kept h6
      · exact h6
    · exact h5
  · exact h1

theorem execSatRetainedWrite_kept {t s} (h : Kept q n s) :
    KeptR q (max n t) (execSatRetainedWrite t s) := by
  unfold execSatRetainedWrite
  refine keptR_satEv (State.arrive_kept h) ?_
  intro x1 h2
  extract_lets +onlyGivenNames v3
  extract_lets +onlyGivenNames v4
  refine kept_ite ?_ ?_
  · exact State.satWrite_kept h2
  · exact h2

theorem execAntOpenDetect_kept {t a1 s} (h : Kept q n s) :
    KeptR q (max n t) (execAntOpenDetect t a1 s) := by
  unfold execAntOpenDetect
  extract_lets +onlyGivenNames v1
  have h1 : Kept q (max n t) v1 := by
    unfold v1
    exact State.arrive_kept h
  clear_value v1
  refine keptR_guard ?_
  refine kept_ite ?_ ?_
  · exact State.raiseAlarm_kept (State.modAnt_kept h1)
  · exact h1

theorem execAntShort_kept {t a1 s} (h : Kept q n s) :
    KeptR q (max n t) (execAntShort t a1 s) := by
  unfold execAntShort
  extract_lets +onlyGivenNames v1
  have h1 : Kept q (max n t) v1 := by
    unfold v1
    exact State.arrive_kept h
  clear_value v1
  refine keptR_guard ?_
  refine kept_ite ?_ ?_
  · exact State.raiseAlarm_kept (State.modAnt_kept h1)
  · exact h1

theorem State.biasRetry_kept {s a1 a2} (h : Kept q n s) :
    Kept q n (State.biasRetry s a1 a2) := by
  unfold State.biasRetry
  exact State.modAnt_kept h

theorem execAntBiasRetry_kept {t a1 a2 s} (h : Kept q n s) :
    KeptR q (max n t) (execAntBiasRetry t a1 a2 s) := by
  unfold execAntBiasRetry
  extract_lets +onlyGivenNames v1
  have h1 : Kept q (max n t) v1 := by
    unfold v1
    exact State.arrive_kept h
  clear_value v1
  refine keptR_guard ?_
  refine kept_ite ?_ ?_
  · exact State.biasRetry_kept h1
  · exact h1

theorem execAntGeometryExclude_kept {t a1 s} (h : Kept q n s) :
    KeptR q (max n t) (execAntGeometryExclude t a1 s) := by
  unfold execAntGeometryExclude
  extract_lets +onlyGivenNames v1
  have h1 : Kept q (max n t) v1 := by
    unfold v1
    exact State.arrive_kept h
  clear_value v1
  refine keptR_guard ?_
  refine kept_ite ?_ ?_
  · exact State.raiseAlarm_kept (State.modAnt_kept h1)
  · exact h1

theorem State.rtcm_kept {s a1} (h : Kept q n s) :
    Kept q n (State.rtcm s a1) := by
  unfold State.rtcm
  refine kept_ite ?_ ?_
  · exact kept_upd h same
  · extract_lets +onlyGivenNames v1
    clear_value v1
    split
    next y2 y3 y4 =>
      refine kept_ite ?_ ?_
      · exact h
      · exact kept_upd h same
    next y5 y6 =>
      refine kept_ite ?_ ?_
      · exact kept_upd h same
      · refine kept_ite ?_ ?_
        · exact kept_upd h same
        · refine kept_ite ?_ ?_
          · exact h
          · exact kept_upd h same

theorem execRtcmFrame_kept {t a1 a2 s} (h : Kept q n s) :
    KeptR q (max n t) (execRtcmFrame t a1 s a2) := by
  unfold execRtcmFrame
  extract_lets +onlyGivenNames v1
  have h1 : Kept q (max n t) v1 := by
    unfold v1
    exact State.arrive_kept h
  clear_value v1
  refine keptR_ite ?_ ?_
  · refine keptR_next ?_
    exact h1
  · split
    next y2 y3 y4 =>
      extract_lets +onlyGivenNames v5
      have h5 : Kept q (max n t) v5 := by
        unfold v5
        exact State.serChars_kept h1
      clear_value v5
      refine keptR_next ?_
      refine kept_ite ?_ ?_
      · exact State.serBad_kept h5
      · extract_lets +onlyGivenNames v6
        have h6 : Kept q (max n t) v6 := by
          unfold v6
          refine kept_ite ?_ ?_
          · exact State.serGood_kept h5
          · exact h5
        clear_value v6
        refine kept_ite ?_ ?_
        · exact State.rtcm_kept h6
        · exact h6
    next y7 y8 =>
      refine keptR_next ?_
      refine kept_ite ?_ ?_
      · exact State.rtcm_kept h1
      · exact h1

theorem opSatQuery_kept : KeptOp opSatQuery := by
  constructor
  · intro q n s a b p h
    unfold opSatQuery
    dsimp -zeta only
    exact h
  · intro q n s p h
    unfold opSatQuery
    dsimp -zeta only
    exact h

theorem opSatRestart_kept : KeptOp opSatRestart := by
  constructor
  · intro q n s a b p h
    unfold opSatRestart
    dsimp -zeta only
    refine kept_ite_fst ?_ ?_
    · exact h
    · extract_lets +onlyGivenNames v1
      have h1 : Kept q n v1 := by
        unfold v1
        exact State.satWithdraw_kept h
      clear_value v1
      extract_lets +onlyGivenNames v2
      have h2 : Kept q n v2 := by
        unfold v2
        refine kept_ite ?_ ?_
        · exact State.satTimeMiss_kept h1
        · exact State.satLose_kept h1
      clear_value v2
      exact State.satBegin_kept h2
  · intro q n s p h
    unfold opSatRestart
    dsimp -zeta only
    exact h

theorem opSatIntegrityReset_kept : KeptOp opSatIntegrityReset := by
  constructor
  · intro q n s a b p h
    unfold opSatIntegrityReset
    dsimp -zeta only
    extract_lets +onlyGivenNames v1
    extract_lets +onlyGivenNames v2
    extract_lets +onlyGivenNames v3
    have h3 : Kept q n v3 := by
      unfold v3
      exact kept_upd h same
    clear_value v3
    refine kept_mk_fst ?_
    refine kept_ite ?_ ?_
    · exact State.clearAlarm_kept h3
    · exact h3
  · intro q n s p h
    unfold opSatIntegrityReset
    dsimp -zeta only
    exact h

theorem opSatTimeAccept_kept : KeptOp opSatTimeAccept := by
  constructor
  · intro q n s a b p h
    unfold opSatTimeAccept
    dsimp -zeta only
    split
    next y1 y2 =>
      exact h
    next y3 y4 y5 =>
      extract_lets +onlyGivenNames v6
      have h6 : Kept q n v6 := by
        unfold v6
        exact State.modSt_kept h
      clear_value v6
      exact State.satTake_kept (State.clearAlarm_kept h6)
  · intro q n s p h
    unfold opSatTimeAccept
    dsimp -zeta only
    exact h

theorem opSatExclude_kept : KeptOp opSatExclude := by
  constructor
  · intro q n s a b p h
    unfold opSatExclude
    dsimp -zeta only
    extract_lets +onlyGivenNames v1
    extract_lets +onlyGivenNames v2
    exact kept_upd h same
  · intro q n s p h
    unfold opSatExclude
    dsimp -zeta only
    exact h

theorem opSatAntBias_kept : KeptOp opSatAntBias := by
  constructor
  · intro q n s a b p h
    unfold opSatAntBias
    dsimp -zeta only
    extract_lets +onlyGivenNames v1
    extract_lets +onlyGivenNames v2
    extract_lets +onlyGivenNames v3
    have h3 : Kept q n v3 := by
      unfold v3
      exact State.modAnt_kept h
    clear_value v3
    refine kept_mk_fst ?_
    refine kept_ite ?_ ?_
    · exact State.setBias_kept h3
    · exact h3
  · intro q n s p h
    unfold opSatAntBias
    dsimp -zeta only
    exact h

end Sys2Proof.Machine
end

