-- ==== Sys2Proof/Laws/KeptSurvey.lean ====
section
/-!
SUPPORT. What every run keeps, through the operations and meanings of Machine/Survey.lean: one lemma for each.
-/
namespace Sys2Proof.Machine
variable {q : List Instr} {n : Nat}

theorem State.surveySync_kept {s} (h : Kept q n s) :
    Kept q n (State.surveySync s) := by
  unfold State.surveySync
  extract_lets +onlyGivenNames v1
  refine kept_ite ?_ ?_
  · exact h
  · exact kept_upd h same

theorem opGetSurvey_kept : KeptOp opGetSurvey := by
  constructor
  · intro q n s a b p h
    unfold opGetSurvey
    dsimp -zeta only
    extract_lets +onlyGivenNames v1
    have h1 : Kept q n v1 := by
      unfold v1
      exact State.surveySync_kept h
    clear_value v1
    exact h1
  · intro q n s p h
    unfold opGetSurvey
    dsimp -zeta only
    exact h

end Sys2Proof.Machine
end

