-- ==== Sys2Proof/Laws/KeptTime.lean ====
section
/-!
SUPPORT. What every run keeps, through the operations and meanings of Machine/Time.lean: one lemma for each.
-/
namespace Sys2Proof.Machine
variable {q : List Instr} {n : Nat}

theorem keptR_tmuOn {a b s} {f : State → State} (h : Kept q n s) (hf : ∀ s, Kept q n s → Kept q n (f s)) : KeptR q n (tmuOn a b s f) := by
  unfold tmuOn
  exact keptR_guard (kept_ite (hf s h) h)

theorem keptR_netOn {a b s} {f : State → State} (h : Kept q n s) (hf : ∀ s, Kept q n s → Kept q n (f s)) : KeptR q n (netOn a b s f) :=
  keptR_tmuOn h (fun s k => kept_ite (hf s k) k)

theorem execPtpSyncReceived_kept {t a1 a2 a3 a4 a5 a6 a7 s} (h : Kept q n s) :
    KeptR q (max n t) (execPtpSyncReceived t a1 a2 a3 a4 a5 s a6 a7) := by
  unfold execPtpSyncReceived
  refine keptR_netOn (State.arrive_kept h) ?_
  intro x1 h2
  exact State.ptpSync_kept h2

theorem execPtpDelayResponse_kept {t a1 a2 s} (h : Kept q n s) :
    KeptR q (max n t) (execPtpDelayResponse t a1 a2 s) := by
  unfold execPtpDelayResponse
  refine keptR_netOn (State.arrive_kept h) ?_
  intro x1 h2
  exact State.modVc_kept h2

theorem execPtpAnnounceReceived_kept {t a1 a2 s} (h : Kept q n s) :
    KeptR q (max n t) (execPtpAnnounceReceived t a1 a2 s) := by
  unfold execPtpAnnounceReceived
  refine keptR_netOn (State.arrive_kept h) ?_
  intro x1 h2
  exact State.announce_kept (State.announce_kept h2)

theorem execPtpAnnounceTimeout_kept {t a1 a2 s} (h : Kept q n s) :
    KeptR q (max n t) (execPtpAnnounceTimeout t a1 a2 s) := by
  unfold execPtpAnnounceTimeout
  refine keptR_tmuOn (State.arrive_kept h) ?_
  intro x1 h2
  extract_lets +onlyGivenNames v3
  extract_lets +onlyGivenNames v4
  extract_lets +onlyGivenNames v5
  have h5 : Kept q (max n t) v5 := by
    unfold v5
    exact State.modVc_kept h2
  clear_value v5
  extract_lets +onlyGivenNames v6
  have h6 : Kept q (max n t) v6 := by
    unfold v6
    refine kept_ite ?_ ?_
    · exact State.cfgSrcLost_kept h5
    · exact h5
  clear_value v6
  refine kept_ite ?_ ?_
  · exact h6
  · exact State.bmca_kept h6

theorem execPtpSyncTimeout_kept {t a1 s} (h : Kept q n s) :
    KeptR q (max n t) (execPtpSyncTimeout t a1 s) := by
  unfold execPtpSyncTimeout
  refine keptR_tmuOn (State.arrive_kept h) ?_
  intro x1 h2
  extract_lets +onlyGivenNames v3
  refine kept_ite ?_ ?_
  · exact State.cfgSrcLost_kept h2
  · exact h2

theorem execPpsInEdge_kept {t s} (h : Kept q n s) :
    KeptR q (max n t) (execPpsInEdge t s) := by
  unfold execPpsInEdge
  refine keptR_tmuOn (State.arrive_kept h) ?_
  intro x1 h2
  refine kept_foldl h2 ?_
  intro x3 x4 h5
  extract_lets +onlyGivenNames v6
  refine kept_ite ?_ ?_
  · exact h5
  · extract_lets +onlyGivenNames v7
    extract_lets +onlyGivenNames v8
    have h8 : Kept q (max n t) v8 := by
      unfold v8
      exact State.modVc_kept h5
    clear_value v8
    refine kept_ite ?_ ?_
    · exact State.cfgSrcLost_kept h8
    · refine kept_ite ?_ ?_
      · exact State.vcSample_kept h8
      · exact h8

theorem execPpsInLost_kept {t s} (h : Kept q n s) :
    KeptR q (max n t) (execPpsInLost t s) := by
  unfold execPpsInLost
  refine keptR_tmuOn (State.arrive_kept h) ?_
  intro x1 h2
  refine kept_foldl h2 ?_
  intro x3 x4 h5
  split
  next y6 y7 =>
    exact h5
  next y8 y9 y10 =>
    refine kept_ite ?_ ?_
    · exact State.cfgSrcLost_kept (State.modVc_kept h5)
    · exact h5

theorem execVcLock_kept {t a1 s} (h : Kept q n s) :
    KeptR q (max n t) (execVcLock t a1 s) := by
  unfold execVcLock
  refine keptR_tmuOn (State.arrive_kept h) ?_
  intro x1 h2
  exact State.vcLock_kept h2

theorem execVcStep_kept {t a1 s} (h : Kept q n s) :
    KeptR q (max n t) (execVcStep t a1 s) := by
  unfold execVcStep
  refine keptR_tmuOn (State.arrive_kept h) ?_
  intro x1 h2
  exact State.vcStep_kept h2

theorem execFrameRevertTimer_kept {t s} (h : Kept q n s) :
    KeptR q (max n t) (execFrameRevertTimer t s) := by
  unfold execFrameRevertTimer
  refine keptR_tmuOn (State.arrive_kept h) ?_
  intro x1 h2
  refine kept_ite ?_ ?_
  · exact kept_upd h2 same
  · exact h2

theorem execFallbackReturnTimer_kept {t a1 s} (h : Kept q n s) :
    KeptR q (max n t) (execFallbackReturnTimer t a1 s) := by
  unfold execFallbackReturnTimer
  refine keptR_tmuOn (State.arrive_kept h) ?_
  intro x1 h2
  exact State.fallbackReturn_kept h2

theorem State.tmuCtrl_kept {s a1} (h : Kept q n s) :
    Kept q n (State.tmuCtrl s a1) := by
  unfold State.tmuCtrl
  extract_lets +onlyGivenNames v1
  extract_lets +onlyGivenNames v2
  extract_lets +onlyGivenNames v3
  have h3 : Kept q n v3 := by
    unfold v3
    exact kept_upd h same
  clear_value v3
  extract_lets +onlyGivenNames v4
  have h4 : Kept q n v4 := by
    unfold v4
    refine kept_ite ?_ ?_
    · exact State.stepAllow_kept h3
    · exact h3
  clear_value v4
  refine kept_ite ?_ ?_
  · exact State.stepAllow_kept h4
  · exact h4

theorem execTmuCtrlWrite_kept {t a1 s} (h : Kept q n s) :
    KeptR q (max n t) (execTmuCtrlWrite t a1 s) := by
  unfold execTmuCtrlWrite
  refine keptR_tmuOn (State.arrive_kept h) ?_
  intro x1 h2
  exact State.tmuCtrl_kept h2

theorem execTmuIncrWrite_kept {t a1 s} (h : Kept q n s) :
    KeptR q (max n t) (execTmuIncrWrite t a1 s) := by
  unfold execTmuIncrWrite
  refine keptR_tmuOn (State.arrive_kept h) ?_
  intro x1 h2
  exact State.setIncr_kept h2

theorem execTimeLoRead_kept {t a1 a2 s} (h : Kept q n s) :
    KeptR q (max n t) (execTimeLoRead t a1 a2 s) := by
  unfold execTimeLoRead
  refine keptR_tmuOn (State.arrive_kept h) ?_
  intro x1 h2
  extract_lets +onlyGivenNames v3
  have h3 : Kept q (max n t) v3.2 := by
    unfold v3
    exact State.readLo_kept h2
  clear_value v3
  exact State.emit_kept h3

theorem execCaptureEvent_kept {t a1 a2 s} (h : Kept q n s) :
    KeptR q (max n t) (execCaptureEvent t a1 a2 s) := by
  unfold execCaptureEvent
  extract_lets +onlyGivenNames v1
  have h1 : Kept q (max n t) v1 := by
    unfold v1
    exact State.arrive_kept h
  clear_value v1
  refine keptR_guard ?_
  refine kept_ite ?_ ?_
  · exact State.capture_kept h1
  · exact h1

theorem execCaptureEntryAged_kept {t a1 s} (h : Kept q n s) :
    KeptR q (max n t) (execCaptureEntryAged t a1 s) := by
  unfold execCaptureEntryAged
  refine keptR_tmuOn (State.arrive_kept h) ?_
  intro x1 h2
  exact State.modCap_kept h2

theorem execCapFifoData0Read_kept {t a1 s} (h : Kept q n s) :
    KeptR q (max n t) (execCapFifoData0Read t a1 s) := by
  unfold execCapFifoData0Read
  refine keptR_tmuOn (State.arrive_kept h) ?_
  intro x1 h2
  extract_lets +onlyGivenNames v3
  have h3 : Kept q (max n t) v3.2 := by
    unfold v3
    exact State.readData0_kept h2
  clear_value v3
  exact State.emit_kept h3

theorem execCapFifoData1Read_kept {t a1 s} (h : Kept q n s) :
    KeptR q (max n t) (execCapFifoData1Read t a1 s) := by
  unfold execCapFifoData1Read
  refine keptR_tmuOn (State.arrive_kept h) ?_
  intro x1 h2
  extract_lets +onlyGivenNames v3
  have h3 : Kept q (max n t) v3.2 := by
    unfold v3
    exact State.readData1_kept h2
  clear_value v3
  exact State.emit_kept h3

theorem execPulseArm_kept {t a1 a2 s} (h : Kept q n s) :
    KeptR q (max n t) (execPulseArm t a1 a2 s) := by
  unfold execPulseArm
  refine keptR_tmuOn (State.arrive_kept h) ?_
  intro x1 h2
  exact State.pulseCtrl_kept h2

theorem execPulseDisarm_kept {t a1 s} (h : Kept q n s) :
    KeptR q (max n t) (execPulseDisarm t a1 s) := by
  unfold execPulseDisarm
  refine keptR_tmuOn (State.arrive_kept h) ?_
  intro x1 h2
  exact State.pulseDisarm_kept h2

theorem execPulseOutputFire_kept {t a1 s} (h : Kept q n s) :
    KeptR q (max n t) (execPulseOutputFire t a1 s) := by
  unfold execPulseOutputFire
  refine keptR_tmuOn (State.arrive_kept h) ?_
  intro x1 h2
  exact State.pulseFire_kept h2

theorem execPulseWidthEnd_kept {t a1 s} (h : Kept q n s) :
    KeptR q (max n t) (execPulseWidthEnd t a1 s) := by
  unfold execPulseWidthEnd
  refine keptR_tmuOn (State.arrive_kept h) ?_
  intro x1 h2
  refine kept_ite ?_ ?_
  · exact State.modPulse_kept h2
  · exact h2

theorem execPtpTransmitInterval_kept {t a1 a2 a3 s} (h : Kept q n s) :
    KeptR q (max n t) (execPtpTransmitInterval t a1 a2 a3 s) := by
  unfold execPtpTransmitInterval
  refine keptR_netOn (State.arrive_kept h) ?_
  intro x1 h2
  extract_lets +onlyGivenNames v3
  extract_lets +onlyGivenNames v4
  refine kept_ite ?_ ?_
  · exact State.emit_kept (kept_upd h2 same)
  · exact h2

theorem opTimeQuery_kept : KeptOp opTimeQuery := by
  constructor
  · intro q n s a b p h
    unfold opTimeQuery
    dsimp -zeta only
    extract_lets +onlyGivenNames v1
    exact h
  · intro q n s p h
    unfold opTimeQuery
    dsimp -zeta only
    exact h

theorem opTimeSelect_kept : KeptOp opTimeSelect := by
  constructor
  · intro q n s a b p h
    unfold opTimeSelect
    dsimp -zeta only
    exact kept_upd h same
  · intro q n s p h
    unfold opTimeSelect
    dsimp -zeta only
    exact h

theorem opTimePulse_kept : KeptOp opTimePulse := by
  constructor
  · intro q n s a b p h
    unfold opTimePulse
    dsimp -zeta only
    extract_lets +onlyGivenNames v1
    refine kept_ite_fst ?_ ?_
    · exact State.pulseDisarm_kept h
    · extract_lets +onlyGivenNames v2
      have h2 : Kept q n v2 := by
        unfold v2
        exact State.modPulse_kept h
      clear_value v2
      refine kept_mk_fst ?_
      refine kept_ite ?_ ?_
      · exact State.pulseArm_kept h2
      · exact h2
  · intro q n s p h
    unfold opTimePulse
    dsimp -zeta only
    extract_lets +onlyGivenNames v1
    refine kept_ite ?_ ?_
    · exact State.modPulse_kept h
    · exact h

theorem opTimeStepAllow_kept : KeptOp opTimeStepAllow := by
  constructor
  · intro q n s a b p h
    unfold opTimeStepAllow
    dsimp -zeta only
    extract_lets +onlyGivenNames v1
    extract_lets +onlyGivenNames v2
    have h2 : Kept q n v2 := by
      unfold v2
      refine kept_ite ?_ ?_
      · exact State.stepAllow_kept h
      · exact h
    clear_value v2
    refine kept_mk_fst ?_
    refine kept_ite ?_ ?_
    · exact State.stepAllow_kept h2
    · exact h2
  · intro q n s p h
    unfold opTimeStepAllow
    dsimp -zeta only
    exact h

end Sys2Proof.Machine
end

