-- ==== Sys2Proof/Laws/KeptOpTable.lean ====
section
/-!
SUPPORT. What every run keeps, through the operations and meanings of Machine/OpTable.lean: one lemma for each.
-/
namespace Sys2Proof.Machine
variable {q : List Instr} {n : Nat}

theorem opSessionQuery_kept : KeptOp opSessionQuery := by
  constructor
  · intro q n s a b p h
    unfold opSessionQuery
    dsimp -zeta only
    split
    next y1 y2 =>
      exact h
    next y3 y4 y5 =>
      exact h
  · intro q n s p h
    unfold opSessionQuery
    dsimp -zeta only
    exact h

theorem opCloseSession_kept : KeptOp opCloseSession := by
  constructor
  · intro q n s a b p h
    unfold opCloseSession
    dsimp -zeta only
    exact State.modSess_kept h
  · intro q n s p h
    unfold opCloseSession
    dsimp -zeta only
    exact h

theorem opKeepalive_kept : KeptOp opKeepalive := by
  constructor
  · intro q n s a b p h
    unfold opKeepalive
    dsimp -zeta only
    exact h
  · intro q n s p h
    unfold opKeepalive
    dsimp -zeta only
    exact h

theorem opJournalQuery_kept : KeptOp opJournalQuery := by
  constructor
  · intro q n s a b p h
    unfold opJournalQuery
    dsimp -zeta only
    extract_lets +onlyGivenNames v1
    exact h
  · intro q n s p h
    unfold opJournalQuery
    dsimp -zeta only
    exact h

theorem opsSys_kept : ∀ o ∈ opsSys, KeptOp o := by
  unfold opsSys
  refine List.forall_mem_cons.mpr ⟨opSysQuery_kept, ?_⟩
  refine List.forall_mem_cons.mpr ⟨opGetSurvey_kept, ?_⟩
  refine List.forall_mem_cons.mpr ⟨opSetMode_kept, ?_⟩
  refine List.forall_mem_cons.mpr ⟨opSessionQuery_kept, ?_⟩
  refine List.forall_mem_cons.mpr ⟨opCloseSession_kept, ?_⟩
  refine List.forall_mem_cons.mpr ⟨opKeepalive_kept, ?_⟩
  refine List.forall_mem_cons.mpr ⟨opJournalQuery_kept, ?_⟩
  refine List.forall_mem_cons.mpr ⟨opCfgQuery_kept, ?_⟩
  refine List.forall_mem_cons.mpr ⟨opCfgStage_kept, ?_⟩
  refine List.forall_mem_cons.mpr ⟨opCfgValidate_kept, ?_⟩
  refine List.forall_mem_cons.mpr ⟨opCfgCommit_kept, ?_⟩
  refine List.forall_mem_cons.mpr ⟨opCfgFactory_kept, ?_⟩
  refine List.forall_mem_cons.mpr ⟨opCfgFromPeer_kept, ?_⟩
  exact fun o h => absurd h List.not_mem_nil

theorem opsHold_kept : ∀ o ∈ opsHold, KeptOp o := by
  unfold opsHold
  refine List.forall_mem_cons.mpr ⟨opHoldSelectFunction_kept, ?_⟩
  refine List.forall_mem_cons.mpr ⟨opHoldSetSetpoint_kept, ?_⟩
  refine List.forall_mem_cons.mpr ⟨opHoldSetEnd_kept, ?_⟩
  refine List.forall_mem_cons.mpr ⟨opHoldBprSet_kept, ?_⟩
  refine List.forall_mem_cons.mpr ⟨opHoldStatus_kept, ?_⟩
  refine List.forall_mem_cons.mpr ⟨opRefSelect_kept, ?_⟩
  refine List.forall_mem_cons.mpr ⟨opRefQuery_kept, ?_⟩
  refine List.forall_mem_cons.mpr ⟨opRefRetry_kept, ?_⟩
  refine List.forall_mem_cons.mpr ⟨opEstReinit_kept, ?_⟩
  refine List.forall_mem_cons.mpr ⟨opAlcSelect_kept, ?_⟩
  refine List.forall_mem_cons.mpr ⟨opAlcSetBerm_kept, ?_⟩
  refine List.forall_mem_cons.mpr ⟨opAlcQuery_kept, ?_⟩
  refine List.forall_mem_cons.mpr ⟨opAlcLearnReset_kept, ?_⟩
  refine List.forall_mem_cons.mpr ⟨opThrQuery_kept, ?_⟩
  refine List.forall_mem_cons.mpr ⟨opThrClear_kept, ?_⟩
  refine List.forall_mem_cons.mpr ⟨opThrEnable_kept, ?_⟩
  refine List.forall_mem_cons.mpr ⟨opCqaQuery_kept, ?_⟩
  refine List.forall_mem_cons.mpr ⟨opCqaCaseQuery_kept, ?_⟩
  refine List.forall_mem_cons.mpr ⟨opCqaCaseEnable_kept, ?_⟩
  refine List.forall_mem_cons.mpr ⟨opCqaWhatif_kept, ?_⟩
  exact fun o h => absurd h List.not_mem_nil

theorem opsIo_kept : ∀ o ∈ opsIo, KeptOp o := by
  unfold opsIo
  refine List.forall_mem_cons.mpr ⟨opTimeQuery_kept, ?_⟩
  refine List.forall_mem_cons.mpr ⟨opTimeSelect_kept, ?_⟩
  refine List.forall_mem_cons.mpr ⟨opTimePulse_kept, ?_⟩
  refine List.forall_mem_cons.mpr ⟨opTimeStepAllow_kept, ?_⟩
  refine List.forall_mem_cons.mpr ⟨opCanQuery_kept, ?_⟩
  refine List.forall_mem_cons.mpr ⟨opBusRecover_kept, ?_⟩
  refine List.forall_mem_cons.mpr ⟨opCanRateDetect_kept, ?_⟩
  refine List.forall_mem_cons.mpr ⟨opCanNodeList_kept, ?_⟩
  refine List.forall_mem_cons.mpr ⟨opSerQuery_kept, ?_⟩
  refine List.forall_mem_cons.mpr ⟨opPointRead_kept, ?_⟩
  refine List.forall_mem_cons.mpr ⟨opPointWrite_kept, ?_⟩
  refine List.forall_mem_cons.mpr ⟨opPointForce_kept, ?_⟩
  refine List.forall_mem_cons.mpr ⟨opPointUnforce_kept, ?_⟩
  refine List.forall_mem_cons.mpr ⟨opPointSubscribe_kept, ?_⟩
  refine List.forall_mem_cons.mpr ⟨opPointUnsubscribe_kept, ?_⟩
  refine List.forall_mem_cons.mpr ⟨opProducerList_kept, ?_⟩
  refine List.forall_mem_cons.mpr ⟨opFioQuery_kept, ?_⟩
  refine List.forall_mem_cons.mpr ⟨opFioSet_kept, ?_⟩
  refine List.forall_mem_cons.mpr ⟨opFioPulse_kept, ?_⟩
  refine List.forall_mem_cons.mpr ⟨opFioClear_kept, ?_⟩
  refine List.forall_mem_cons.mpr ⟨opFioGroupRestore_kept, ?_⟩
  exact fun o h => absurd h List.not_mem_nil

theorem opsLog_kept : ∀ o ∈ opsLog, KeptOp o := by
  unfold opsLog
  refine List.forall_mem_cons.mpr ⟨opLogFreeze_kept, ?_⟩
  refine List.forall_mem_cons.mpr ⟨opLogThaw_kept, ?_⟩
  refine List.forall_mem_cons.mpr ⟨opLogRead_kept, ?_⟩
  refine List.forall_mem_cons.mpr ⟨opLogSnapRead_kept, ?_⟩
  refine List.forall_mem_cons.mpr ⟨opLogCodes_kept, ?_⟩
  refine List.forall_mem_cons.mpr ⟨opLogExport_kept, ?_⟩
  refine List.forall_mem_cons.mpr ⟨opLogSpillEnd_kept, ?_⟩
  refine List.forall_mem_cons.mpr ⟨opSafeQuery_kept, ?_⟩
  refine List.forall_mem_cons.mpr ⟨opSafeReset_kept, ?_⟩
  refine List.forall_mem_cons.mpr ⟨opSafeBrakeTest_kept, ?_⟩
  refine List.forall_mem_cons.mpr ⟨opSafeCfgRead_kept, ?_⟩
  refine List.forall_mem_cons.mpr ⟨opSafeCfgConfirm_kept, ?_⟩
  refine List.forall_mem_cons.mpr ⟨opSafeStop_kept, ?_⟩
  refine List.forall_mem_cons.mpr ⟨opRedQuery_kept, ?_⟩
  refine List.forall_mem_cons.mpr ⟨opRoleRotate_kept, ?_⟩
  refine List.forall_mem_cons.mpr ⟨opWardenPromote_kept, ?_⟩
  refine List.forall_mem_cons.mpr ⟨opWardenRelease_kept, ?_⟩
  refine List.forall_mem_cons.mpr ⟨opImgStage_kept, ?_⟩
  refine List.forall_mem_cons.mpr ⟨opImgVerify_kept, ?_⟩
  refine List.forall_mem_cons.mpr ⟨opImgActivate_kept, ?_⟩
  refine List.forall_mem_cons.mpr ⟨opDomainDrain_kept, ?_⟩
  refine List.forall_mem_cons.mpr ⟨opDomainRestore_kept, ?_⟩
  refine List.forall_mem_cons.mpr ⟨opSysRestart_kept, ?_⟩
  refine List.forall_mem_cons.mpr ⟨opKeyWrite_kept, ?_⟩
  refine List.forall_mem_cons.mpr ⟨opHenSubmit_kept, ?_⟩
  refine List.forall_mem_cons.mpr ⟨opHenStatus_kept, ?_⟩
  refine List.forall_mem_cons.mpr ⟨opHenCancel_kept, ?_⟩
  refine List.forall_mem_cons.mpr ⟨opSatQuery_kept, ?_⟩
  refine List.forall_mem_cons.mpr ⟨opSatRestart_kept, ?_⟩
  refine List.forall_mem_cons.mpr ⟨opSatIntegrityReset_kept, ?_⟩
  refine List.forall_mem_cons.mpr ⟨opSatTimeAccept_kept, ?_⟩
  refine List.forall_mem_cons.mpr ⟨opSatExclude_kept, ?_⟩
  refine List.forall_mem_cons.mpr ⟨opSatAntBias_kept, ?_⟩
  exact fun o h => absurd h List.not_mem_nil

theorem opOf_kept {c : Nat} {o : OpDef} (e : opOf c = some o) : KeptOp o := by
  have h : o ∈ opTable := List.mem_of_find?_eq_some e
  unfold opTable at h
  rcases List.mem_append.mp h with h | h
  · rcases List.mem_append.mp h with h | h
    · rcases List.mem_append.mp h with h | h
      · exact opsSys_kept o h
      · exact opsHold_kept o h
    · exact opsIo_kept o h
  · exact opsLog_kept o h

end Sys2Proof.Machine
end

