-- ==== Sys2Proof/Laws/KeptPktOps.lean ====
section
/-!
SUPPORT. What every run keeps, through the operations and meanings of Machine/PktOps.lean: one lemma for each.
-/
namespace Sys2Proof.Machine
variable {q : List Instr} {n : Nat}

theorem State.answer_kept {s a1 a2 a3 a4 a5 a6 a7 a8 a9 a10} (h : Kept q n s) :
    Kept q n (State.answer s a1 a2 a3 a4 a5 a6 a7 a8 a9 a10) := by
  unfold State.answer
  extract_lets +onlyGivenNames v1
  extract_lets +onlyGivenNames v2
  exact State.emit_kept h

theorem State.reject_kept {s a1 a2 a3 a4} (h : Kept q n s) :
    Kept q n (State.reject s a1 a2 a3 a4) := by
  unfold State.reject
  extract_lets +onlyGivenNames v1
  exact State.answer_kept h

theorem State.badTrailer_kept {s a1 a2 a3} (h : Kept q n s) :
    Kept q n (State.badTrailer s a1 a2 a3) := by
  unfold State.badTrailer
  extract_lets +onlyGivenNames v1
  extract_lets +onlyGivenNames v2
  have h2 : Kept q n v2 := by
    unfold v2
    refine kept_ite ?_ ?_
    · exact kept_upd h same
    · exact kept_upd h same
  clear_value v2
  extract_lets +onlyGivenNames v3
  extract_lets +onlyGivenNames v4
  have h4 : Kept q n v4 := by
    unfold v4
    refine kept_ite ?_ ?_
    · exact State.raiseAlarm_kept h2
    · exact h2
  clear_value v4
  extract_lets +onlyGivenNames v5
  refine kept_ite ?_ ?_
  · exact kept_upd h4 same
  · exact State.reject_kept (kept_upd h4 same)

theorem State.replayed_kept {s a1 a2 a3 a4} (h : Kept q n s) :
    Kept q n (State.replayed s a1 a2 a3 a4) := by
  unfold State.replayed
  extract_lets +onlyGivenNames v1
  extract_lets +onlyGivenNames v2
  exact State.answer_kept (kept_upd h same)

theorem State.seqGap_kept {s a1 a2 a3 a4} (h : Kept q n s) :
    Kept q n (State.seqGap s a1 a2 a3 a4) := by
  unfold State.seqGap
  exact State.answer_kept (kept_upd h same)

theorem State.dropHeld_kept {s a1} (h : Kept q n s) :
    Kept q n (State.dropHeld s a1) := by
  unfold State.dropHeld
  split
  next y1 y2 =>
    exact h
  next y3 y4 y5 =>
    refine kept_foldl (State.modSess_kept h) ?_
    intro x6 x7 h8
    exact State.seqGap_kept h8

theorem State.hold1_kept {s a1 a2} (h : Kept q n s) :
    Kept q n (State.hold1 s a1 a2) := by
  unfold State.hold1
  extract_lets +onlyGivenNames v1
  extract_lets +onlyGivenNames v2
  have h2 : Kept q n v2 := by
    unfold v2
    exact State.modSess_kept h
  clear_value v2
  refine kept_ite ?_ ?_
  · exact State.dropHeld_kept h2
  · exact h2

theorem State.noteSource_kept {s a1 a2} (h : Kept q n s) :
    Kept q n (State.noteSource s a1 a2) := by
  unfold State.noteSource
  exact State.modSess_kept h

theorem State.nextPkt_kept {s a1 a2 a3 a4} (h : Kept q n s) :
    Kept q n (State.nextPkt s a1 a2 a3 a4) := by
  unfold State.nextPkt
  split
  next y1 y2 =>
    exact State.refuse_kept h
  next y3 y4 y5 =>
    exact State.accept_kept (opOf_kept y5) h

theorem State.runHeld_kept {a0 s a2} (h : Kept q n s) :
    Kept q n (State.runHeld a0 s a2) := by
  induction a0 generalizing s a2 with
  | zero =>
    unfold State.runHeld
    exact h
  | succ b1 ih =>
    unfold State.runHeld
    split
    next y1 y2 =>
      exact h
    next y3 y4 y5 =>
      refine kept_ite ?_ ?_
      · exact h
      · split
        next y6 y7 =>
          exact h
        next y8 y9 y10 =>
          extract_lets +onlyGivenNames v11
          have h11 : Kept q n v11 := by
            unfold v11
            exact State.noteSource_kept (State.modSess_kept h)
          clear_value v11
          extract_lets +onlyGivenNames v12
          have h12 : Kept q n v12 := by
            unfold v12
            split
            next y13 y14 y15 =>
              exact State.nextPkt_kept h11
            next y16 y17 =>
              exact h11
          clear_value v12
          apply ih
          exact h12

theorem State.sequenced_kept {s a1 a2 a3 a4 a5} (h : Kept q n s) :
    Kept q n (State.sequenced s a1 a2 a3 a4 a5) := by
  unfold State.sequenced
  refine kept_ite ?_ ?_
  · refine kept_ite ?_ ?_
    · exact h
    · exact State.runHeld_kept (State.nextPkt_kept h)
  · refine kept_ite ?_ ?_
    · exact State.seqGap_kept h
    · refine kept_ite ?_ ?_
      · split
        next y1 y2 y3 y4 y5 =>
          exact State.replayed_kept h
        next y6 y7 y8 =>
          exact State.seqGap_kept h
      · exact State.hold1_kept h

theorem State.mirrorSession_kept {s a1} (h : Kept q n s) :
    Kept q n (State.mirrorSession s a1) := by
  unfold State.mirrorSession
  refine kept_ite ?_ ?_
  · extract_lets +onlyGivenNames v1
    extract_lets +onlyGivenNames v2
    exact State.emit_kept h
  · exact h

theorem State.reclaim_kept {s a1} (h : Kept q n s) :
    Kept q n (State.reclaim s a1) := by
  unfold State.reclaim
  extract_lets +onlyGivenNames v1
  have h1 : Kept q n v1 := by
    unfold v1
    split
    next y2 y3 y4 =>
      exact State.mirrorSession_kept h
    next y5 y6 =>
      exact h
  clear_value v1
  exact State.pruneJournal_kept (kept_upd h1 same)

theorem State.makeSlot_kept {s t} (h : Kept q n s) (e : State.makeSlot s = some t) : Kept q n t := by
  unfold State.makeSlot at e
  split at e
  · cases e
    exact h
  · rw [Option.map_eq_some_iff] at e
    obtain ⟨x, _, rfl⟩ := e
    exact State.reclaim_kept h

theorem State.opened_kept {s a1 a2 a3 a4} (h : Kept q n s) :
    Kept q n (State.opened s a1 a2 a3 a4) := by
  unfold State.opened
  extract_lets +onlyGivenNames v1
  extract_lets +onlyGivenNames v2
  extract_lets +onlyGivenNames v3
  extract_lets +onlyGivenNames v4
  have h4 : Kept q n v4 := by
    unfold v4
    exact State.modSess_kept h
  clear_value v4
  exact State.answer_kept (State.mirrorSession_kept h4)

theorem State.resume_kept {s a1 a2 a3 a4} (h : Kept q n s) :
    Kept q n (State.resume s a1 a2 a3 a4) := by
  unfold State.resume
  extract_lets +onlyGivenNames v1
  have h1 : Kept q n v1.2 := by
    unfold v1
    exact State.freeBytes_kept h
  clear_value v1
  extract_lets +onlyGivenNames v2
  extract_lets +onlyGivenNames v3
  have h3 : Kept q n v3 := by
    unfold v3
    refine kept_ite ?_ ?_
    · exact h1
    · exact h
  clear_value v3
  extract_lets +onlyGivenNames v4
  exact State.opened_kept (State.modSess_kept h3)

theorem State.newSession_kept {s a1 a2 a3 a4 a5 a6} (h : Kept q n s) :
    Kept q n (State.newSession s a1 a2 a3 a4 a5 a6) := by
  unfold State.newSession
  extract_lets +onlyGivenNames v1
  extract_lets +onlyGivenNames v2
  extract_lets +onlyGivenNames v3
  have h3 : Kept q n v3 := by
    unfold v3
    refine kept_foldl h ?_
    intro x4 x5 h6
    unfold v2
    extract_lets +onlyGivenNames v7
    have h7 : Kept q n v7 := by
      unfold v7
      exact State.modSess_kept h6
    clear_value v7
    extract_lets +onlyGivenNames v8
    have h8 : Kept q n v8 := by
      unfold v8
      split
      next y9 y10 y11 =>
        exact State.mirrorSession_kept h7
      next y12 y13 =>
        exact h7
    clear_value v8
    exact State.freeSlot_kept h8
  clear_value v3
  split
  next y14 y15 =>
    exact State.answer_kept (kept_upd h3 same)
  next y16 y17 y18 =>
    have h19 : Kept q n y17 := State.makeSlot_kept h3 y18
    extract_lets +onlyGivenNames v20
    have h20 : Kept q n v20.2 := by
      unfold v20
      exact State.freeBytes_kept h19
    clear_value v20
    extract_lets +onlyGivenNames v21
    extract_lets +onlyGivenNames v22
    have h22 : Kept q n v22 := by
      unfold v22
      refine kept_ite ?_ ?_
      · exact h20
      · exact h19
    clear_value v22
    extract_lets +onlyGivenNames v23
    extract_lets +onlyGivenNames v24
    exact State.opened_kept (kept_upd h22 same)

theorem State.openSession_kept {s a1 a2 a3 a4 a5} (h : Kept q n s) :
    Kept q n (State.openSession s a1 a2 a3 a4 a5) := by
  unfold State.openSession
  extract_lets +onlyGivenNames v1
  extract_lets +onlyGivenNames v2
  extract_lets +onlyGivenNames v3
  clear_value v2
  split
  next y4 y5 y6 =>
    exact State.replayed_kept h
  next y7 y8 =>
    extract_lets +onlyGivenNames v9
    refine kept_ite ?_ ?_
    · unfold v3
      exact State.answer_kept h
    · refine kept_ite ?_ ?_
      · unfold v3
        exact State.answer_kept h
      · extract_lets +onlyGivenNames v10
        refine kept_ite ?_ ?_
        · unfold v3
          exact State.answer_kept h
        · split
          next y11 y12 =>
            unfold v3
            exact State.answer_kept h
          next y13 y14 y15 =>
            refine kept_ite ?_ ?_
            · unfold v3
              exact State.answer_kept h
            · refine kept_ite ?_ ?_
              · unfold v3
                exact State.answer_kept h
              · clear_value v9
                split
                next y16 y17 =>
                  exact State.resume_kept h
                next y18 =>
                  exact State.newSession_kept h

theorem State.openPkt_kept {s a1 a2} (h : Kept q n s) :
    Kept q n (State.openPkt s a1 a2) := by
  unfold State.openPkt
  extract_lets +onlyGivenNames v1
  extract_lets +onlyGivenNames v2
  refine kept_ite ?_ ?_
  · exact State.badTrailer_kept h
  · refine kept_ite ?_ ?_
    · refine kept_ite ?_ ?_
      · exact State.openSession_kept h
      · exact State.badTrailer_kept h
    · refine kept_ite ?_ ?_
      · exact State.badTrailer_kept h
      · refine kept_ite ?_ ?_
        · exact State.badTrailer_kept h
        · exact State.openSession_kept h

theorem State.sessPkt_kept {s a1 a2} (h : Kept q n s) :
    Kept q n (State.sessPkt s a1 a2) := by
  unfold State.sessPkt
  split
  next y1 y2 =>
    refine kept_ite ?_ ?_
    · exact State.badTrailer_kept h
    · exact State.reject_kept h
  next y3 y4 y5 =>
    refine kept_ite ?_ ?_
    · exact State.badTrailer_kept h
    · refine kept_ite ?_ ?_
      · exact State.badTrailer_kept h
      · refine kept_ite ?_ ?_
        · exact State.reject_kept h
        · refine kept_ite ?_ ?_
          · exact State.reject_kept h
          · extract_lets +onlyGivenNames v6
            have h6 : Kept q n v6 := by
              unfold v6
              exact State.noteSource_kept (State.modSess_kept h)
            clear_value v6
            extract_lets +onlyGivenNames v7
            refine kept_ite ?_ ?_
            · exact State.reject_kept h6
            · exact State.sequenced_kept h6

theorem State.datagram_kept {s a1 a2} (h : Kept q n s) :
    Kept q n (State.datagram s a1 a2) := by
  unfold State.datagram
  split
  next y1 y2 =>
    exact kept_upd h same
  next y3 y4 y5 =>
    extract_lets +onlyGivenNames v6
    extract_lets +onlyGivenNames v7
    have h7 : Kept q n v7 := by
      unfold v7
      refine kept_ite ?_ ?_
      · exact kept_upd h same
      · exact h
    clear_value v7
    refine kept_ite ?_ ?_
    · exact State.openPkt_kept h7
    · exact State.sessPkt_kept h7

theorem State.proceed_kept {s a1} (h : Kept q n s) :
    Kept q n (State.proceed s a1) := by
  unfold State.proceed
  split
  next y1 y2 =>
    exact h
  next y3 y4 y5 =>
    refine kept_ite ?_ ?_
    · split
      next y6 y7 =>
        exact h
      next y8 y9 y10 =>
        exact State.runOp_kept (opOf_kept y10) h
    · exact State.sendCompletion_kept h

theorem State.peerAck_kept {s a1} (h : Kept q n s) :
    Kept q n (State.peerAck s a1) := by
  unfold State.peerAck
  split
  next y1 y2 =>
    exact State.modEntry_kept h
  next y3 y4 y5 =>
    extract_lets +onlyGivenNames v6
    extract_lets +onlyGivenNames v7
    have h7 : Kept q n v7 := by
      unfold v7
      exact kept_upd h same
    clear_value v7
    exact State.runHeld_kept (State.proceed_kept (State.modEntry_kept h7))

theorem State.mirrorLost_kept {s a1} (h : Kept q n s) :
    Kept q n (State.mirrorLost s a1) := by
  unfold State.mirrorLost
  refine kept_ite ?_ ?_
  · exact h
  · extract_lets +onlyGivenNames v1
    extract_lets +onlyGivenNames v2
    extract_lets +onlyGivenNames v3
    have h3 : Kept q n v3 := by
      unfold v3
      exact State.raiseAlarm_kept (kept_upd h same)
    clear_value v3
    extract_lets +onlyGivenNames v4
    have h4 : Kept q n v4 := by
      unfold v4
      refine kept_foldl h3 ?_
      intro x5 x6 h7
      exact State.proceed_kept (State.modEntry_kept h7)
    clear_value v4
    refine kept_foldl h4 ?_
    intro x8 x9 h10
    exact State.runHeld_kept h10

theorem State.resyncDiscard_kept {s a1} (h : Kept q n s) :
    Kept q n (State.resyncDiscard s a1) := by
  unfold State.resyncDiscard
  refine kept_ite ?_ ?_
  · exact h
  · exact State.dropEntries_kept h

theorem State.resyncSend_kept {s} (h : Kept q n s) :
    Kept q n (State.resyncSend s) := by
  unfold State.resyncSend
  extract_lets +onlyGivenNames v1
  have h1 : Kept q n v1 := by
    unfold v1
    refine kept_foldl h ?_
    intro x2 x3 h4
    exact State.mirrorSession_kept h4
  clear_value v1
  extract_lets +onlyGivenNames v5
  extract_lets +onlyGivenNames v6
  have h6 : Kept q n v6 := by
    unfold v6
    refine kept_foldl h1 ?_
    intro x7 x8 h9
    exact State.emit_kept h9
  clear_value v6
  exact kept_upd h6 same

theorem State.resynced_kept {s a1} (h : Kept q n s) :
    Kept q n (State.resynced s a1) := by
  unfold State.resynced
  refine kept_ite ?_ ?_
  · exact h
  · extract_lets +onlyGivenNames v1
    have h1 : Kept q n v1 := by
      unfold v1
      exact State.resyncDiscard_kept h
    clear_value v1
    exact State.clearAlarm_kept (State.resyncSend_kept (kept_upd h1 same))

theorem State.mirrorSlot_kept {s a1} (h : Kept q n s) :
    Kept q n (State.mirrorSlot s a1) := by
  unfold State.mirrorSlot
  refine kept_ite ?_ ?_
  · exact h
  · extract_lets +onlyGivenNames v1
    extract_lets +onlyGivenNames v2
    exact kept_upd h same

theorem State.mirrorClose_kept {s a1} (h : Kept q n s) :
    Kept q n (State.mirrorClose s a1) := by
  unfold State.mirrorClose
  exact State.freeSlot_kept (State.modSess_kept h)

theorem State.takeDescriptor_kept {s a1} (h : Kept q n s) :
    Kept q n (State.takeDescriptor s a1) := by
  unfold State.takeDescriptor
  extract_lets +onlyGivenNames v1
  refine kept_ite ?_ ?_
  · exact State.mirrorClose_kept h
  · exact State.modSess_kept (State.mirrorSlot_kept h)

theorem State.takeEntry_kept {s a1} (h : Kept q n s) :
    Kept q n (State.takeEntry s a1) := by
  unfold State.takeEntry
  extract_lets +onlyGivenNames v1
  have h1 : Kept q n v1 := by
    unfold v1
    exact State.mirrorSlot_kept h
  clear_value v1
  extract_lets +onlyGivenNames v2
  extract_lets +onlyGivenNames v3
  extract_lets +onlyGivenNames v4
  extract_lets +onlyGivenNames v5
  have h5 : Kept q n v5 := by
    unfold v5
    refine kept_ite ?_ ?_
    · exact State.modEntry_kept h1
    · exact kept_upd h1 same
  clear_value v5
  extract_lets +onlyGivenNames v6
  extract_lets +onlyGivenNames v7
  extract_lets +onlyGivenNames v8
  have h8 : Kept q n v8 := by
    unfold v8
    exact State.modSess_kept h5
  clear_value v8
  extract_lets +onlyGivenNames v9
  have h9 : Kept q n v9 := by
    unfold v9
    exact State.keepReply_kept h8
  clear_value v9
  extract_lets +onlyGivenNames v10
  have h10 : Kept q n v10 := by
    unfold v10
    exact State.pruneJournal_kept (State.emit_kept h9)
  clear_value v10
  refine kept_ite ?_ ?_
  · exact State.mirrorClose_kept h10
  · exact h10

theorem State.fromJournal_kept {s a1} (h : Kept q n s) :
    Kept q n (State.fromJournal s a1) := by
  unfold State.fromJournal
  refine kept_ite ?_ ?_
  · exact h
  · refine kept_ite ?_ ?_
    · exact State.takeDescriptor_kept h
    · exact State.takeEntry_kept h

theorem State.applyEntry_kept {s a1} (h : Kept q n s) :
    Kept q n (State.applyEntry s a1) := by
  unfold State.applyEntry
  split
  next y1 y2 =>
    exact State.modEntry_kept h
  next y3 y4 y5 =>
    extract_lets +onlyGivenNames v6
    extract_lets +onlyGivenNames v7
    have h7 : Kept q n v7 := by
      unfold v7
      exact kept_upd h same
    clear_value v7
    extract_lets +onlyGivenNames v8
    have h8 : Kept q n v8 := by
      unfold v8
      exact State.modSess_kept h7
    clear_value v8
    refine kept_ite ?_ ?_
    · extract_lets +onlyGivenNames v9
      extract_lets +onlyGivenNames v10
      extract_lets +onlyGivenNames v11
      have h11 : Kept q n v11 := by
        unfold v11
        exact kept_upd h8 same
      clear_value v11
      extract_lets +onlyGivenNames v12
      have h12 : Kept q n v12 := by
        unfold v12
        exact State.modEntry_kept h11
      clear_value v12
      exact (opOf_kept y5).run (State.keepReply_kept h12)
    · extract_lets +onlyGivenNames v13
      have h13 : Kept q n v13.1 := by
        unfold v13
        exact (opOf_kept y5).run h8
      clear_value v13
      extract_lets +onlyGivenNames v14
      have h14 : Kept q n v14 := by
        unfold v14
        exact State.modEntry_kept h13
      clear_value v14
      exact State.keepReply_kept h14

theorem State.replayEntry_kept {s a1} (h : Kept q n s) :
    Kept q n (State.replayEntry s a1) := by
  unfold State.replayEntry
  split
  next y1 y2 =>
    exact State.applyEntry_kept h
  next y3 y4 =>
    refine kept_ite ?_ ?_
    · refine kept_ite ?_ ?_
      · exact State.applyEntry_kept h
      · exact State.completeCmd_kept (kept_upd h same)
    · exact h
  next y5 y6 y7 =>
    exact h

theorem State.replayJournal_kept {s} (h : Kept q n s) :
    Kept q n (State.replayJournal s) := by
  unfold State.replayJournal
  extract_lets +onlyGivenNames v1
  extract_lets +onlyGivenNames v2
  refine kept_foldl (kept_upd h same) ?_
  intro x3 x4 h5
  exact State.replayEntry_kept h5

theorem State.takeoverEntry_kept {s a1} (h : Kept q n s) :
    Kept q n (State.takeoverEntry s a1) := by
  unfold State.takeoverEntry
  extract_lets +onlyGivenNames v1
  extract_lets +onlyGivenNames v2
  refine kept_ite ?_ ?_
  · refine kept_ite ?_ ?_
    · exact h
    · extract_lets +onlyGivenNames v3
      extract_lets +onlyGivenNames v4
      have h4 : Kept q n v4 := by
        unfold v4
        exact kept_upd h same
      clear_value v4
      exact State.event_kept (State.completeCmd_kept h4)
  · refine kept_ite ?_ ?_
    · refine kept_ite ?_ ?_
      · exact kept_upd h same
      · refine kept_ite ?_ ?_
        · exact kept_upd h same
        · exact State.applyEntry_kept h
    · refine kept_ite ?_ ?_
      · exact State.applyEntry_kept h
      · exact h

theorem State.takeoverJournal_kept {s} (h : Kept q n s) :
    Kept q n (State.takeoverJournal s) := by
  unfold State.takeoverJournal
  extract_lets +onlyGivenNames v1
  extract_lets +onlyGivenNames v2
  have h2 : Kept q n v2 := by
    unfold v2
    exact kept_upd h same
  clear_value v2
  refine kept_ite ?_ ?_
  · refine kept_foldl h2 ?_
    intro x3 x4 h5
    exact State.takeoverEntry_kept h5
  · exact h2

theorem State.standbyApply_kept {s a1} (h : Kept q n s) :
    Kept q n (State.standbyApply s a1) := by
  unfold State.standbyApply
  extract_lets +onlyGivenNames v1
  extract_lets +onlyGivenNames v2
  extract_lets +onlyGivenNames v3
  have h3 : Kept q n v3 := by
    unfold v3
    refine kept_foldl h ?_
    intro x4 x5 h6
    refine kept_ite ?_ ?_
    · exact h6
    · split
      next y7 y8 =>
        exact h6
      next y9 y10 y11 =>
        exact (opOf_kept y11).run h6
  clear_value v3
  exact kept_upd h3 same

theorem State.cmdFrame_kept {s} (h : Kept q n s) :
    Kept q n (State.cmdFrame s) := by
  unfold State.cmdFrame
  extract_lets +onlyGivenNames v1
  extract_lets +onlyGivenNames v2
  extract_lets +onlyGivenNames v3
  have h3 : Kept q n v3 := by
    unfold v3
    exact kept_upd h same
  clear_value v3
  refine kept_ite ?_ ?_
  · exact State.clearAlarm_kept h3
  · exact h3

end Sys2Proof.Machine
end

