-- ==== Sys2Proof/Laws/KeptFrameStart.lean ====
section
/-!
SUPPORT. What every run keeps, through the operations and meanings of Machine/FrameStart.lean: one lemma for each.
-/
namespace Sys2Proof.Machine
variable {q : List Instr} {n : Nat}

theorem State.frameBegin_kept {s} (h : Kept q n s) :
    Kept q n (State.frameBegin s) := by
  unfold State.frameBegin
  extract_lets +onlyGivenNames v1
  extract_lets +onlyGivenNames v2
  extract_lets +onlyGivenNames v3
  extract_lets +onlyGivenNames v4
  extract_lets +onlyGivenNames v5
  extract_lets +onlyGivenNames v6
  extract_lets +onlyGivenNames v7
  have h7 : Kept q n v7 := by
    unfold v7
    exact kept_upd h same
  clear_value v7
  refine kept_ite ?_ ?_
  · exact State.event_kept h7
  · exact h7

theorem State.mirrorFence_kept {s} (h : Kept q n s) :
    Kept q n (State.mirrorFence s) := by
  unfold State.mirrorFence
  split
  next y1 y2 =>
    exact h
  next y3 y4 y5 =>
    extract_lets +onlyGivenNames v6
    extract_lets +onlyGivenNames v7
    have h7 : Kept q n v7 := by
      unfold v7
      exact kept_upd h same
    clear_value v7
    refine kept_ite ?_ ?_
    · exact h7
    · exact State.applyMirror_kept (State.standbyApply_kept h7)

theorem State.cfgFence_kept {s} (h : Kept q n s) :
    Kept q n (State.cfgFence s) := by
  unfold State.cfgFence
  extract_lets +onlyGivenNames v1
  have h1 : Kept q n v1 := by
    unfold v1
    exact State.cfgCount_kept h
  clear_value v1
  refine kept_ite ?_ ?_
  · exact State.cfgEffect_kept h1
  · exact h1

theorem State.takeFence_kept {s} (h : Kept q n s) :
    Kept q n (State.takeFence s) := by
  unfold State.takeFence
  exact kept_upd h same

theorem State.app1Fence_kept {s} (h : Kept q n s) :
    Kept q n (State.app1Fence s) := by
  unfold State.app1Fence
  refine kept_ite ?_ ?_
  · exact h
  · extract_lets +onlyGivenNames v1
    have h1 : Kept q n v1 := by
      unfold v1
      exact State.redFence_kept (State.mirrorFence_kept h)
    clear_value v1
    extract_lets +onlyGivenNames v2
    have h2 : Kept q n v2 := by
      unfold v2
      refine State.henReplayFrame_kept ?_
      refine kept_ite ?_ ?_
      · exact State.takeoverJournal_kept h1
      · exact h1
    clear_value v2
    extract_lets +onlyGivenNames v3
    have h3 : Kept q n v3 := by
      unfold v3
      exact State.subsFrame_kept (State.cmdFrame_kept h2)
    clear_value v3
    exact kept_upd h3 same

theorem State.app0Fence_kept {s} (h : Kept q n s) :
    Kept q n (State.app0Fence s) := by
  unfold State.app0Fence
  refine kept_ite ?_ ?_
  · exact h
  · extract_lets +onlyGivenNames v1
    extract_lets +onlyGivenNames v2
    have h2 : Kept q n v2 := by
      unfold v2
      exact kept_upd h same
    clear_value v2
    exact State.whatifAge_kept (State.cqaFence_kept (State.alcFence_kept (State.estFence_kept h2)))

theorem State.blockFrame_kept {s} (h : Kept q n s) :
    Kept q n (State.blockFrame s) := by
  unfold State.blockFrame
  extract_lets +onlyGivenNames v1
  have h1 : Kept q n v1 := by
    unfold v1
    refine kept_ite ?_ ?_
    · exact State.henFrame_kept (State.logFrame_kept h)
    · exact h
  clear_value v1
  extract_lets +onlyGivenNames v2
  have h2 : Kept q n v2 := by
    unfold v2
    refine kept_ite ?_ ?_
    · exact State.satFrame_kept h1
    · exact h1
  clear_value v2
  extract_lets +onlyGivenNames v3
  have h3 : Kept q n v3 := by
    unfold v3
    refine kept_ite ?_ ?_
    · exact State.busFrame_kept h2
    · exact h2
  clear_value v3
  extract_lets +onlyGivenNames v4
  have h4 : Kept q n v4 := by
    unfold v4
    refine kept_ite ?_ ?_
    · exact State.fioFollow_kept h3
    · exact h3
  clear_value v4
  extract_lets +onlyGivenNames v5
  extract_lets +onlyGivenNames v6
  have h6 : Kept q n v6 := by
    unfold v6
    exact kept_upd h4 same
  clear_value v6
  exact State.keepFrame_kept (State.safeFrame_kept h6)

theorem State.publishAll_kept {s} (h : Kept q n s) :
    Kept q n (State.publishAll s) := by
  unfold State.publishAll
  extract_lets +onlyGivenNames v1
  extract_lets +onlyGivenNames v2
  extract_lets +onlyGivenNames v3
  have h3 : Kept q n v3 := by
    unfold v3
    unfold v2
    refine kept_ite ?_ ?_
    · exact State.publish_kept h
    · exact h
  clear_value v3
  extract_lets +onlyGivenNames v4
  have h4 : Kept q n v4 := by
    unfold v4
    unfold v2
    refine kept_ite ?_ ?_
    · exact State.publish_kept h3
    · exact h3
  clear_value v4
  extract_lets +onlyGivenNames v5
  have h5 : Kept q n v5 := by
    unfold v5
    unfold v2
    refine kept_ite ?_ ?_
    · exact State.publish_kept h4
    · exact h4
  clear_value v5
  extract_lets +onlyGivenNames v6
  have h6 : Kept q n v6 := by
    unfold v6
    unfold v2
    refine kept_ite ?_ ?_
    · exact State.publish_kept h5
    · exact h5
  clear_value v6
  extract_lets +onlyGivenNames v7
  have h7 : Kept q n v7 := by
    unfold v7
    refine kept_ite ?_ ?_
    · exact State.envPublish_kept h6
    · exact h6
  clear_value v7
  extract_lets +onlyGivenNames v8
  have h8 : Kept q n v8 := by
    unfold v8
    unfold v2
    refine kept_ite ?_ ?_
    · exact State.publish_kept h7
    · exact h7
  clear_value v8
  extract_lets +onlyGivenNames v9
  have h9 : Kept q n v9 := by
    unfold v9
    refine kept_ite ?_ ?_
    · exact State.thrPublish_kept h8
    · exact h8
  clear_value v9
  extract_lets +onlyGivenNames v10
  have h10 : Kept q n v10 := by
    unfold v10
    unfold v2
    refine kept_ite ?_ ?_
    · exact State.publish_kept h9
    · exact h9
  clear_value v10
  extract_lets +onlyGivenNames v11
  have h11 : Kept q n v11 := by
    unfold v11
    unfold v2
    refine kept_ite ?_ ?_
    · exact State.publish_kept h10
    · exact h10
  clear_value v11
  extract_lets +onlyGivenNames v12
  have h12 : Kept q n v12 := by
    unfold v12
    unfold v2
    refine kept_ite ?_ ?_
    · exact State.publish_kept h11
    · exact h11
  clear_value v12
  extract_lets +onlyGivenNames v13
  have h13 : Kept q n v13 := by
    unfold v13
    unfold v2
    refine kept_ite ?_ ?_
    · exact State.publish_kept h12
    · exact h12
  clear_value v13
  extract_lets +onlyGivenNames v14
  have h14 : Kept q n v14 := by
    unfold v14
    unfold v2
    refine kept_ite ?_ ?_
    · exact State.publish_kept h13
    · exact h13
  clear_value v14
  extract_lets +onlyGivenNames v15
  have h15 : Kept q n v15 := by
    unfold v15
    unfold v2
    refine kept_ite ?_ ?_
    · exact State.publish_kept h14
    · exact h14
  clear_value v15
  extract_lets +onlyGivenNames v16
  have h16 : Kept q n v16 := by
    unfold v16
    unfold v2
    refine kept_ite ?_ ?_
    · exact State.publish_kept h15
    · exact h15
  clear_value v16
  extract_lets +onlyGivenNames v17
  have h17 : Kept q n v17 := by
    unfold v17
    unfold v2
    refine kept_ite ?_ ?_
    · exact State.publish_kept h16
    · exact h16
  clear_value v17
  extract_lets +onlyGivenNames v18
  have h18 : Kept q n v18 := by
    unfold v18
    unfold v2
    refine kept_ite ?_ ?_
    · exact State.publish_kept h17
    · exact h17
  clear_value v18
  extract_lets +onlyGivenNames v19
  have h19 : Kept q n v19 := by
    unfold v19
    unfold v2
    refine kept_ite ?_ ?_
    · exact State.publish_kept h18
    · exact h18
  clear_value v19
  extract_lets +onlyGivenNames v20
  have h20 : Kept q n v20 := by
    unfold v20
    exact State.publish_kept h19
  clear_value v20
  exact kept_upd h20 same

theorem State.frameStart_kept {s} (h : Kept q n s) :
    Kept q n (State.frameStart s) := by
  unfold State.frameStart
  extract_lets +onlyGivenNames v1
  have h1 : Kept q n v1 := by
    unfold v1
    refine State.frameOut_kept ?_
    refine State.frameBegin_kept ?_
    refine State.tmuFrame_kept ?_
    refine kept_ite ?_ ?_
    · exact State.cqaTick_kept h
    · exact h
  clear_value v1
  extract_lets +onlyGivenNames v2
  have h2 : Kept q n v2 := by
    unfold v2
    exact State.cfgFence_kept h1
  clear_value v2
  extract_lets +onlyGivenNames v3
  have h3 : Kept q n v3 := by
    unfold v3
    refine kept_ite ?_ ?_
    · exact State.takeFence_kept h2
    · exact h2
  clear_value v3
  extract_lets +onlyGivenNames v4
  have h4 : Kept q n v4 := by
    unfold v4
    exact State.app1Fence_kept h3
  clear_value v4
  extract_lets +onlyGivenNames v5
  have h5 : Kept q n v5 := by
    unfold v5
    refine kept_ite ?_ ?_
    · exact State.thrFence_kept h4
    · exact h4
  clear_value v5
  extract_lets +onlyGivenNames v6
  have h6 : Kept q n v6 := by
    unfold v6
    exact State.surveySync_kept (State.blockFrame_kept (State.app0Fence_kept h5))
  clear_value v6
  extract_lets +onlyGivenNames v7
  have h7 : Kept q n v7 := by
    unfold v7
    refine kept_ite ?_ ?_
    · exact State.publishAll_kept h6
    · exact h6
  clear_value v7
  refine kept_ite ?_ ?_
  · exact State.fioFollow_kept h7
  · exact h7

theorem execFrameStart_kept {t s} (h : Kept q n s) :
    KeptR q (max n t) (execFrameStart t s) := by
  unfold execFrameStart
  extract_lets +onlyGivenNames v1
  have h1 : Kept q (max n t) v1 := by
    unfold v1
    exact State.arrive_kept h
  clear_value v1
  refine keptR_next ?_
  refine kept_ite ?_ ?_
  · exact State.frameStart_kept h1
  · exact h1

theorem execCfgEffectFrame_kept {t s} (h : Kept q n s) :
    KeptR q (max n t) (execCfgEffectFrame t s) := by
  unfold execCfgEffectFrame
  extract_lets +onlyGivenNames v1
  have h1 : Kept q (max n t) v1 := by
    unfold v1
    exact State.arrive_kept h
  clear_value v1
  refine keptR_next ?_
  refine kept_ite ?_ ?_
  · refine State.cfgEffect_kept ?_
    refine kept_ite ?_ ?_
    · exact State.cqaTick_kept h1
    · exact h1
  · exact h1

end Sys2Proof.Machine
end

