-- ==== Sys2Proof/Laws/KeptOpcodes.lean ====
section
/-!
SUPPORT. What every run keeps, through the operations and meanings of Machine/Opcodes.lean: one lemma for each.
-/
namespace Sys2Proof.Machine
variable {q : List Instr} {n : Nat}

theorem opRow_kept {a0 t a2 a3 a4 s} (ho : KeptOp a0) (h : Kept q n s) :
    KeptR q (max n t) (opRow a0 t a2 a3 a4 s) := by
  unfold opRow
  extract_lets +onlyGivenNames v1
  have h1 : Kept q (max n t) v1 := by
    unfold v1
    exact State.arrive_kept h
  clear_value v1
  split
  next y2 y3 =>
    refine keptR_next ?_
    exact h1
  next y4 y5 y6 =>
    refine keptR_ite ?_ ?_
    · refine keptR_next ?_
      exact h1
    · refine keptR_ite ?_ ?_
      · refine keptR_next ?_
        exact State.replyFree_kept h1
      · refine keptR_next ?_
        exact State.runHeld_kept (State.accept_kept ho (State.modSess_kept h1))

theorem execSysQuery_kept {t a1 a2 a3 s} (h : Kept q n s) :
    KeptR q (max n t) (execSysQuery t a1 a2 a3 s) := by
  unfold execSysQuery
  refine opRow_kept opSysQuery_kept ?_
  exact h

theorem execGetSurvey_kept {t a1 a2 a3 s} (h : Kept q n s) :
    KeptR q (max n t) (execGetSurvey t a1 a2 a3 s) := by
  unfold execGetSurvey
  refine opRow_kept opGetSurvey_kept ?_
  exact h

theorem execSetMode_kept {t a1 a2 a3 s} (h : Kept q n s) :
    KeptR q (max n t) (execSetMode t a1 a2 a3 s) := by
  unfold execSetMode
  refine opRow_kept opSetMode_kept ?_
  exact h

theorem execSessionQuery_kept {t a1 a2 a3 s} (h : Kept q n s) :
    KeptR q (max n t) (execSessionQuery t a1 a2 a3 s) := by
  unfold execSessionQuery
  refine opRow_kept opSessionQuery_kept ?_
  exact h

theorem execCloseSession_kept {t a1 a2 a3 s} (h : Kept q n s) :
    KeptR q (max n t) (execCloseSession t a1 a2 a3 s) := by
  unfold execCloseSession
  refine opRow_kept opCloseSession_kept ?_
  exact h

theorem execKeepalive_kept {t a1 a2 a3 s} (h : Kept q n s) :
    KeptR q (max n t) (execKeepalive t a1 a2 a3 s) := by
  unfold execKeepalive
  refine opRow_kept opKeepalive_kept ?_
  exact h

theorem execJournalQuery_kept {t a1 a2 a3 s} (h : Kept q n s) :
    KeptR q (max n t) (execJournalQuery t a1 a2 a3 s) := by
  unfold execJournalQuery
  refine opRow_kept opJournalQuery_kept ?_
  exact h

theorem execCfgQuery_kept {t a1 a2 a3 s} (h : Kept q n s) :
    KeptR q (max n t) (execCfgQuery t a1 a2 a3 s) := by
  unfold execCfgQuery
  refine opRow_kept opCfgQuery_kept ?_
  exact h

theorem execCfgStage_kept {t a1 a2 a3 s} (h : Kept q n s) :
    KeptR q (max n t) (execCfgStage t a1 a2 a3 s) := by
  unfold execCfgStage
  refine opRow_kept opCfgStage_kept ?_
  exact h

theorem execCfgValidate_kept {t a1 a2 a3 s} (h : Kept q n s) :
    KeptR q (max n t) (execCfgValidate t a1 a2 a3 s) := by
  unfold execCfgValidate
  refine opRow_kept opCfgValidate_kept ?_
  exact h

theorem execCfgCommit_kept {t a1 a2 a3 s} (h : Kept q n s) :
    KeptR q (max n t) (execCfgCommit t a1 a2 a3 s) := by
  unfold execCfgCommit
  refine opRow_kept opCfgCommit_kept ?_
  exact h

theorem execCfgFactory_kept {t a1 a2 a3 s} (h : Kept q n s) :
    KeptR q (max n t) (execCfgFactory t a1 a2 a3 s) := by
  unfold execCfgFactory
  refine opRow_kept opCfgFactory_kept ?_
  exact h

theorem execCfgFromPeer_kept {t a1 a2 a3 s} (h : Kept q n s) :
    KeptR q (max n t) (execCfgFromPeer t a1 a2 a3 s) := by
  unfold execCfgFromPeer
  refine opRow_kept opCfgFromPeer_kept ?_
  exact h

theorem execHoldSelectFunction_kept {t a1 a2 a3 s} (h : Kept q n s) :
    KeptR q (max n t) (execHoldSelectFunction t a1 a2 a3 s) := by
  unfold execHoldSelectFunction
  refine opRow_kept opHoldSelectFunction_kept ?_
  exact h

theorem execHoldSetSetpoint_kept {t a1 a2 a3 s} (h : Kept q n s) :
    KeptR q (max n t) (execHoldSetSetpoint t a1 a2 a3 s) := by
  unfold execHoldSetSetpoint
  refine opRow_kept opHoldSetSetpoint_kept ?_
  exact h

theorem execHoldSetEnd_kept {t a1 a2 a3 s} (h : Kept q n s) :
    KeptR q (max n t) (execHoldSetEnd t a1 a2 a3 s) := by
  unfold execHoldSetEnd
  refine opRow_kept opHoldSetEnd_kept ?_
  exact h

theorem execHoldBprSet_kept {t a1 a2 a3 s} (h : Kept q n s) :
    KeptR q (max n t) (execHoldBprSet t a1 a2 a3 s) := by
  unfold execHoldBprSet
  refine opRow_kept opHoldBprSet_kept ?_
  exact h

theorem execHoldStatus_kept {t a1 a2 a3 s} (h : Kept q n s) :
    KeptR q (max n t) (execHoldStatus t a1 a2 a3 s) := by
  unfold execHoldStatus
  refine opRow_kept opHoldStatus_kept ?_
  exact h

theorem execRefSelect_kept {t a1 a2 a3 s} (h : Kept q n s) :
    KeptR q (max n t) (execRefSelect t a1 a2 a3 s) := by
  unfold execRefSelect
  refine opRow_kept opRefSelect_kept ?_
  exact h

theorem execRefQuery_kept {t a1 a2 a3 s} (h : Kept q n s) :
    KeptR q (max n t) (execRefQuery t a1 a2 a3 s) := by
  unfold execRefQuery
  refine opRow_kept opRefQuery_kept ?_
  exact h

theorem execRefRetry_kept {t a1 a2 a3 s} (h : Kept q n s) :
    KeptR q (max n t) (execRefRetry t a1 a2 a3 s) := by
  unfold execRefRetry
  refine opRow_kept opRefRetry_kept ?_
  exact h

theorem execEstReinit_kept {t a1 a2 a3 s} (h : Kept q n s) :
    KeptR q (max n t) (execEstReinit t a1 a2 a3 s) := by
  unfold execEstReinit
  refine opRow_kept opEstReinit_kept ?_
  exact h

theorem execAlcSelect_kept {t a1 a2 a3 s} (h : Kept q n s) :
    KeptR q (max n t) (execAlcSelect t a1 a2 a3 s) := by
  unfold execAlcSelect
  refine opRow_kept opAlcSelect_kept ?_
  exact h

theorem execAlcSetBerm_kept {t a1 a2 a3 s} (h : Kept q n s) :
    KeptR q (max n t) (execAlcSetBerm t a1 a2 a3 s) := by
  unfold execAlcSetBerm
  refine opRow_kept opAlcSetBerm_kept ?_
  exact h

theorem execAlcQuery_kept {t a1 a2 a3 s} (h : Kept q n s) :
    KeptR q (max n t) (execAlcQuery t a1 a2 a3 s) := by
  unfold execAlcQuery
  refine opRow_kept opAlcQuery_kept ?_
  exact h

theorem execAlcLearnReset_kept {t a1 a2 a3 s} (h : Kept q n s) :
    KeptR q (max n t) (execAlcLearnReset t a1 a2 a3 s) := by
  unfold execAlcLearnReset
  refine opRow_kept opAlcLearnReset_kept ?_
  exact h

theorem execThrQuery_kept {t a1 a2 a3 s} (h : Kept q n s) :
    KeptR q (max n t) (execThrQuery t a1 a2 a3 s) := by
  unfold execThrQuery
  refine opRow_kept opThrQuery_kept ?_
  exact h

theorem execThrClear_kept {t a1 a2 a3 s} (h : Kept q n s) :
    KeptR q (max n t) (execThrClear t a1 a2 a3 s) := by
  unfold execThrClear
  refine opRow_kept opThrClear_kept ?_
  exact h

theorem execThrEnable_kept {t a1 a2 a3 s} (h : Kept q n s) :
    KeptR q (max n t) (execThrEnable t a1 a2 a3 s) := by
  unfold execThrEnable
  refine opRow_kept opThrEnable_kept ?_
  exact h

theorem execCqaQuery_kept {t a1 a2 a3 s} (h : Kept q n s) :
    KeptR q (max n t) (execCqaQuery t a1 a2 a3 s) := by
  unfold execCqaQuery
  refine opRow_kept opCqaQuery_kept ?_
  exact h

theorem execCqaCaseQuery_kept {t a1 a2 a3 s} (h : Kept q n s) :
    KeptR q (max n t) (execCqaCaseQuery t a1 a2 a3 s) := by
  unfold execCqaCaseQuery
  refine opRow_kept opCqaCaseQuery_kept ?_
  exact h

theorem execCqaCaseEnable_kept {t a1 a2 a3 s} (h : Kept q n s) :
    KeptR q (max n t) (execCqaCaseEnable t a1 a2 a3 s) := by
  unfold execCqaCaseEnable
  refine opRow_kept opCqaCaseEnable_kept ?_
  exact h

theorem execCqaWhatif_kept {t a1 a2 a3 s} (h : Kept q n s) :
    KeptR q (max n t) (execCqaWhatif t a1 a2 a3 s) := by
  unfold execCqaWhatif
  refine opRow_kept opCqaWhatif_kept ?_
  exact h

theorem execTimeQuery_kept {t a1 a2 a3 s} (h : Kept q n s) :
    KeptR q (max n t) (execTimeQuery t a1 a2 a3 s) := by
  unfold execTimeQuery
  refine opRow_kept opTimeQuery_kept ?_
  exact h

theorem execTimeSelect_kept {t a1 a2 a3 s} (h : Kept q n s) :
    KeptR q (max n t) (execTimeSelect t a1 a2 a3 s) := by
  unfold execTimeSelect
  refine opRow_kept opTimeSelect_kept ?_
  exact h

theorem execTimePulse_kept {t a1 a2 a3 s} (h : Kept q n s) :
    KeptR q (max n t) (execTimePulse t a1 a2 a3 s) := by
  unfold execTimePulse
  refine opRow_kept opTimePulse_kept ?_
  exact h

theorem execTimeStepAllow_kept {t a1 a2 a3 s} (h : Kept q n s) :
    KeptR q (max n t) (execTimeStepAllow t a1 a2 a3 s) := by
  unfold execTimeStepAllow
  refine opRow_kept opTimeStepAllow_kept ?_
  exact h

theorem execCanQuery_kept {t a1 a2 a3 s} (h : Kept q n s) :
    KeptR q (max n t) (execCanQuery t a1 a2 a3 s) := by
  unfold execCanQuery
  refine opRow_kept opCanQuery_kept ?_
  exact h

theorem execBusRecover_kept {t a1 a2 a3 s} (h : Kept q n s) :
    KeptR q (max n t) (execBusRecover t a1 a2 a3 s) := by
  unfold execBusRecover
  refine opRow_kept opBusRecover_kept ?_
  exact h

theorem execCanRateDetect_kept {t a1 a2 a3 s} (h : Kept q n s) :
    KeptR q (max n t) (execCanRateDetect t a1 a2 a3 s) := by
  unfold execCanRateDetect
  refine opRow_kept opCanRateDetect_kept ?_
  exact h

theorem execCanNodeList_kept {t a1 a2 a3 s} (h : Kept q n s) :
    KeptR q (max n t) (execCanNodeList t a1 a2 a3 s) := by
  unfold execCanNodeList
  refine opRow_kept opCanNodeList_kept ?_
  exact h

theorem execSerQuery_kept {t a1 a2 a3 s} (h : Kept q n s) :
    KeptR q (max n t) (execSerQuery t a1 a2 a3 s) := by
  unfold execSerQuery
  refine opRow_kept opSerQuery_kept ?_
  exact h

theorem execPointRead_kept {t a1 a2 a3 s} (h : Kept q n s) :
    KeptR q (max n t) (execPointRead t a1 a2 a3 s) := by
  unfold execPointRead
  refine opRow_kept opPointRead_kept ?_
  exact h

theorem execPointWrite_kept {t a1 a2 a3 s} (h : Kept q n s) :
    KeptR q (max n t) (execPointWrite t a1 a2 a3 s) := by
  unfold execPointWrite
  refine opRow_kept opPointWrite_kept ?_
  exact h

theorem execPointForce_kept {t a1 a2 a3 s} (h : Kept q n s) :
    KeptR q (max n t) (execPointForce t a1 a2 a3 s) := by
  unfold execPointForce
  refine opRow_kept opPointForce_kept ?_
  exact h

theorem execPointUnforce_kept {t a1 a2 a3 s} (h : Kept q n s) :
    KeptR q (max n t) (execPointUnforce t a1 a2 a3 s) := by
  unfold execPointUnforce
  refine opRow_kept opPointUnforce_kept ?_
  exact h

theorem execPointSubscribe_kept {t a1 a2 a3 s} (h : Kept q n s) :
    KeptR q (max n t) (execPointSubscribe t a1 a2 a3 s) := by
  unfold execPointSubscribe
  refine opRow_kept opPointSubscribe_kept ?_
  exact h

theorem execPointUnsubscribe_kept {t a1 a2 a3 s} (h : Kept q n s) :
    KeptR q (max n t) (execPointUnsubscribe t a1 a2 a3 s) := by
  unfold execPointUnsubscribe
  refine opRow_kept opPointUnsubscribe_kept ?_
  exact h

theorem execProducerList_kept {t a1 a2 a3 s} (h : Kept q n s) :
    KeptR q (max n t) (execProducerList t a1 a2 a3 s) := by
  unfold execProducerList
  refine opRow_kept opProducerList_kept ?_
  exact h

theorem execFioQuery_kept {t a1 a2 a3 s} (h : Kept q n s) :
    KeptR q (max n t) (execFioQuery t a1 a2 a3 s) := by
  unfold execFioQuery
  refine opRow_kept opFioQuery_kept ?_
  exact h

theorem execFioSet_kept {t a1 a2 a3 s} (h : Kept q n s) :
    KeptR q (max n t) (execFioSet t a1 a2 a3 s) := by
  unfold execFioSet
  refine opRow_kept opFioSet_kept ?_
  exact h

theorem execFioPulse_kept {t a1 a2 a3 s} (h : Kept q n s) :
    KeptR q (max n t) (execFioPulse t a1 a2 a3 s) := by
  unfold execFioPulse
  refine opRow_kept opFioPulse_kept ?_
  exact h

theorem execFioClear_kept {t a1 a2 a3 s} (h : Kept q n s) :
    KeptR q (max n t) (execFioClear t a1 a2 a3 s) := by
  unfold execFioClear
  refine opRow_kept opFioClear_kept ?_
  exact h

theorem execFioGroupRestore_kept {t a1 a2 a3 s} (h : Kept q n s) :
    KeptR q (max n t) (execFioGroupRestore t a1 a2 a3 s) := by
  unfold execFioGroupRestore
  refine opRow_kept opFioGroupRestore_kept ?_
  exact h

theorem execLogFreeze_kept {t a1 a2 a3 s} (h : Kept q n s) :
    KeptR q (max n t) (execLogFreeze t a1 a2 a3 s) := by
  unfold execLogFreeze
  refine opRow_kept opLogFreeze_kept ?_
  exact h

theorem execLogThaw_kept {t a1 a2 a3 s} (h : Kept q n s) :
    KeptR q (max n t) (execLogThaw t a1 a2 a3 s) := by
  unfold execLogThaw
  refine opRow_kept opLogThaw_kept ?_
  exact h

theorem execLogRead_kept {t a1 a2 a3 s} (h : Kept q n s) :
    KeptR q (max n t) (execLogRead t a1 a2 a3 s) := by
  unfold execLogRead
  refine opRow_kept opLogRead_kept ?_
  exact h

theorem execLogSnapRead_kept {t a1 a2 a3 s} (h : Kept q n s) :
    KeptR q (max n t) (execLogSnapRead t a1 a2 a3 s) := by
  unfold execLogSnapRead
  refine opRow_kept opLogSnapRead_kept ?_
  exact h

theorem execLogCodes_kept {t a1 a2 a3 s} (h : Kept q n s) :
    KeptR q (max n t) (execLogCodes t a1 a2 a3 s) := by
  unfold execLogCodes
  refine opRow_kept opLogCodes_kept ?_
  exact h

theorem execLogExport_kept {t a1 a2 a3 s} (h : Kept q n s) :
    KeptR q (max n t) (execLogExport t a1 a2 a3 s) := by
  unfold execLogExport
  refine opRow_kept opLogExport_kept ?_
  exact h

theorem execLogSpillEnd_kept {t a1 a2 a3 s} (h : Kept q n s) :
    KeptR q (max n t) (execLogSpillEnd t a1 a2 a3 s) := by
  unfold execLogSpillEnd
  refine opRow_kept opLogSpillEnd_kept ?_
  exact h

theorem execSafeQuery_kept {t a1 a2 a3 s} (h : Kept q n s) :
    KeptR q (max n t) (execSafeQuery t a1 a2 a3 s) := by
  unfold execSafeQuery
  refine opRow_kept opSafeQuery_kept ?_
  exact h

theorem execSafeReset_kept {t a1 a2 a3 s} (h : Kept q n s) :
    KeptR q (max n t) (execSafeReset t a1 a2 a3 s) := by
  unfold execSafeReset
  refine opRow_kept opSafeReset_kept ?_
  exact h

theorem execSafeBrakeTest_kept {t a1 a2 a3 s} (h : Kept q n s) :
    KeptR q (max n t) (execSafeBrakeTest t a1 a2 a3 s) := by
  unfold execSafeBrakeTest
  refine opRow_kept opSafeBrakeTest_kept ?_
  exact h

theorem execSafeCfgRead_kept {t a1 a2 a3 s} (h : Kept q n s) :
    KeptR q (max n t) (execSafeCfgRead t a1 a2 a3 s) := by
  unfold execSafeCfgRead
  refine opRow_kept opSafeCfgRead_kept ?_
  exact h

theorem execSafeCfgConfirm_kept {t a1 a2 a3 s} (h : Kept q n s) :
    KeptR q (max n t) (execSafeCfgConfirm t a1 a2 a3 s) := by
  unfold execSafeCfgConfirm
  refine opRow_kept opSafeCfgConfirm_kept ?_
  exact h

theorem execSafeStop_kept {t a1 a2 a3 s} (h : Kept q n s) :
    KeptR q (max n t) (execSafeStop t a1 a2 a3 s) := by
  unfold execSafeStop
  refine opRow_kept opSafeStop_kept ?_
  exact h

theorem execRedQuery_kept {t a1 a2 a3 s} (h : Kept q n s) :
    KeptR q (max n t) (execRedQuery t a1 a2 a3 s) := by
  unfold execRedQuery
  refine opRow_kept opRedQuery_kept ?_
  exact h

theorem execRoleRotate_kept {t a1 a2 a3 s} (h : Kept q n s) :
    KeptR q (max n t) (execRoleRotate t a1 a2 a3 s) := by
  unfold execRoleRotate
  refine opRow_kept opRoleRotate_kept ?_
  exact h

theorem execWardenPromote_kept {t a1 a2 a3 s} (h : Kept q n s) :
    KeptR q (max n t) (execWardenPromote t a1 a2 a3 s) := by
  unfold execWardenPromote
  refine opRow_kept opWardenPromote_kept ?_
  exact h

theorem execWardenRelease_kept {t a1 a2 a3 s} (h : Kept q n s) :
    KeptR q (max n t) (execWardenRelease t a1 a2 a3 s) := by
  unfold execWardenRelease
  refine opRow_kept opWardenRelease_kept ?_
  exact h

theorem execImgStage_kept {t a1 a2 a3 s} (h : Kept q n s) :
    KeptR q (max n t) (execImgStage t a1 a2 a3 s) := by
  unfold execImgStage
  refine opRow_kept opImgStage_kept ?_
  exact h

theorem execImgVerify_kept {t a1 a2 a3 s} (h : Kept q n s) :
    KeptR q (max n t) (execImgVerify t a1 a2 a3 s) := by
  unfold execImgVerify
  refine opRow_kept opImgVerify_kept ?_
  exact h

theorem execImgActivate_kept {t a1 a2 a3 s} (h : Kept q n s) :
    KeptR q (max n t) (execImgActivate t a1 a2 a3 s) := by
  unfold execImgActivate
  refine opRow_kept opImgActivate_kept ?_
  exact h

theorem execDomainDrain_kept {t a1 a2 a3 s} (h : Kept q n s) :
    KeptR q (max n t) (execDomainDrain t a1 a2 a3 s) := by
  unfold execDomainDrain
  refine opRow_kept opDomainDrain_kept ?_
  exact h

theorem execDomainRestore_kept {t a1 a2 a3 s} (h : Kept q n s) :
    KeptR q (max n t) (execDomainRestore t a1 a2 a3 s) := by
  unfold execDomainRestore
  refine opRow_kept opDomainRestore_kept ?_
  exact h

theorem execSysRestart_kept {t a1 a2 a3 s} (h : Kept q n s) :
    KeptR q (max n t) (execSysRestart t a1 a2 a3 s) := by
  unfold execSysRestart
  refine opRow_kept opSysRestart_kept ?_
  exact h

theorem execKeyWrite_kept {t a1 a2 a3 s} (h : Kept q n s) :
    KeptR q (max n t) (execKeyWrite t a1 a2 a3 s) := by
  unfold execKeyWrite
  refine opRow_kept opKeyWrite_kept ?_
  exact h

theorem execHenSubmit_kept {t a1 a2 a3 s} (h : Kept q n s) :
    KeptR q (max n t) (execHenSubmit t a1 a2 a3 s) := by
  unfold execHenSubmit
  refine opRow_kept opHenSubmit_kept ?_
  exact h

theorem execHenStatus_kept {t a1 a2 a3 s} (h : Kept q n s) :
    KeptR q (max n t) (execHenStatus t a1 a2 a3 s) := by
  unfold execHenStatus
  refine opRow_kept opHenStatus_kept ?_
  exact h

theorem execHenCancel_kept {t a1 a2 a3 s} (h : Kept q n s) :
    KeptR q (max n t) (execHenCancel t a1 a2 a3 s) := by
  unfold execHenCancel
  refine opRow_kept opHenCancel_kept ?_
  exact h

theorem execSatQuery_kept {t a1 a2 a3 s} (h : Kept q n s) :
    KeptR q (max n t) (execSatQuery t a1 a2 a3 s) := by
  unfold execSatQuery
  refine opRow_kept opSatQuery_kept ?_
  exact h

theorem execSatRestart_kept {t a1 a2 a3 s} (h : Kept q n s) :
    KeptR q (max n t) (execSatRestart t a1 a2 a3 s) := by
  unfold execSatRestart
  refine opRow_kept opSatRestart_kept ?_
  exact h

theorem execSatIntegrityReset_kept {t a1 a2 a3 s} (h : Kept q n s) :
    KeptR q (max n t) (execSatIntegrityReset t a1 a2 a3 s) := by
  unfold execSatIntegrityReset
  refine opRow_kept opSatIntegrityReset_kept ?_
  exact h

theorem execSatTimeAccept_kept {t a1 a2 a3 s} (h : Kept q n s) :
    KeptR q (max n t) (execSatTimeAccept t a1 a2 a3 s) := by
  unfold execSatTimeAccept
  refine opRow_kept opSatTimeAccept_kept ?_
  exact h

theorem execSatExclude_kept {t a1 a2 a3 s} (h : Kept q n s) :
    KeptR q (max n t) (execSatExclude t a1 a2 a3 s) := by
  unfold execSatExclude
  refine opRow_kept opSatExclude_kept ?_
  exact h

theorem execSatAntBias_kept {t a1 a2 a3 s} (h : Kept q n s) :
    KeptR q (max n t) (execSatAntBias t a1 a2 a3 s) := by
  unfold execSatAntBias
  refine opRow_kept opSatAntBias_kept ?_
  exact h

end Sys2Proof.Machine
end

