-- ==== Sys2Proof/Laws/KeptPackets.lean ====
section
/-!
SUPPORT. What every run keeps, through the operations and meanings of Machine/Packets.lean: one lemma for each.
-/
namespace Sys2Proof.Machine
variable {q : List Instr} {n : Nat}

theorem execCommandPacket_kept {t a1 a2 a3 a4 s} (h : Kept q n s) :
    KeptR q (max n t) (execCommandPacket t a1 a2 a3 a4 s) := by
  unfold execCommandPacket
  extract_lets +onlyGivenNames v1
  have h1 : Kept q (max n t) v1 := by
    unfold v1
    exact State.arrive_kept h
  clear_value v1
  refine keptR_next ?_
  refine kept_ite ?_ ?_
  · exact h1
  · refine kept_ite ?_ ?_
    · exact kept_upd h1 same
    · exact State.datagram_kept (kept_upd h1 same)

theorem execOpenSession_kept {t a1 a2 a3 a4 a5 a6 a7 s} (h : Kept q n s) :
    KeptR q (max n t) (execOpenSession t a1 a2 a3 a4 a5 a6 a7 s) := by
  unfold execOpenSession
  extract_lets +onlyGivenNames v1
  have h1 : Kept q (max n t) v1 := by
    unfold v1
    exact State.arrive_kept h
  clear_value v1
  extract_lets +onlyGivenNames v2
  refine keptR_next ?_
  refine kept_ite ?_ ?_
  · exact State.openSession_kept h1
  · exact h1

theorem execSeqGapTimeout_kept {t a1 s} (h : Kept q n s) :
    KeptR q (max n t) (execSeqGapTimeout t a1 s) := by
  unfold execSeqGapTimeout
  extract_lets +onlyGivenNames v1
  have h1 : Kept q (max n t) v1 := by
    unfold v1
    exact State.arrive_kept h
  clear_value v1
  refine keptR_next ?_
  split
  next y2 y3 =>
    exact h1
  next y4 y5 y6 =>
    refine kept_ite ?_ ?_
    · exact State.dropHeld_kept h1
    · exact h1

theorem execSessionDormant_kept {t a1 s} (h : Kept q n s) :
    KeptR q (max n t) (execSessionDormant t a1 s) := by
  unfold execSessionDormant
  extract_lets +onlyGivenNames v1
  have h1 : Kept q (max n t) v1 := by
    unfold v1
    exact State.arrive_kept h
  clear_value v1
  refine keptR_next ?_
  split
  next y2 y3 =>
    exact h1
  next y4 y5 y6 =>
    refine kept_ite ?_ ?_
    · exact State.modSess_kept h1
    · exact h1

theorem execSessionReclaim_kept {t a1 s} (h : Kept q n s) :
    KeptR q (max n t) (execSessionReclaim t a1 s) := by
  unfold execSessionReclaim
  extract_lets +onlyGivenNames v1
  have h1 : Kept q (max n t) v1 := by
    unfold v1
    exact State.arrive_kept h
  clear_value v1
  refine keptR_next ?_
  split
  next y2 y3 =>
    exact h1
  next y4 y5 y6 =>
    refine kept_ite ?_ ?_
    · exact State.reclaim_kept h1
    · exact h1

theorem execJournalPeerAck_kept {t a1 s} (h : Kept q n s) :
    KeptR q (max n t) (execJournalPeerAck t a1 s) := by
  unfold execJournalPeerAck
  extract_lets +onlyGivenNames v1
  have h1 : Kept q (max n t) v1 := by
    unfold v1
    exact State.arrive_kept h
  clear_value v1
  refine keptR_next ?_
  refine kept_ite ?_ ?_
  · exact State.peerAck_kept h1
  · exact h1

theorem execJournalMirrorTimeout_kept {t a1 s} (h : Kept q n s) :
    KeptR q (max n t) (execJournalMirrorTimeout t a1 s) := by
  unfold execJournalMirrorTimeout
  extract_lets +onlyGivenNames v1
  have h1 : Kept q (max n t) v1 := by
    unfold v1
    exact State.arrive_kept h
  clear_value v1
  refine keptR_next ?_
  refine kept_ite ?_ ?_
  · exact State.mirrorLost_kept h1
  · exact h1

theorem execJournalResyncComplete_kept {t a1 s} (h : Kept q n s) :
    KeptR q (max n t) (execJournalResyncComplete t a1 s) := by
  unfold execJournalResyncComplete
  extract_lets +onlyGivenNames v1
  have h1 : Kept q (max n t) v1 := by
    unfold v1
    exact State.arrive_kept h
  clear_value v1
  refine keptR_next ?_
  refine kept_ite ?_ ?_
  · exact State.resynced_kept h1
  · exact h1

theorem execJournalEntryMirrored_kept {t a1 s} (h : Kept q n s) :
    KeptR q (max n t) (execJournalEntryMirrored t a1 s) := by
  unfold execJournalEntryMirrored
  refine keptR_next ?_
  exact State.fromJournal_kept (State.arrive_kept h)

theorem State.completion_kept {s a1 a2 a3 a4} (h : Kept q n s) :
    Kept q n (State.completion s a1 a2 a3 a4) := by
  unfold State.completion
  refine kept_ite ?_ ?_
  · exact h
  · refine kept_ite ?_ ?_
    · exact State.logExportEnd_kept h
    · refine kept_ite ?_ ?_
      · exact State.logSpillTested_kept h
      · refine kept_ite ?_ ?_
        · exact State.imgVerified_kept h
        · refine kept_ite ?_ ?_
          · exact State.fromPeer_kept h
          · refine kept_ite ?_ ?_
            · exact h
            · exact State.completeCmd_kept h

theorem execCommandCompletion_kept {t a1 a2 a3 a4 s} (h : Kept q n s) :
    KeptR q (max n t) (execCommandCompletion t a1 a2 a3 a4 s) := by
  unfold execCommandCompletion
  extract_lets +onlyGivenNames v1
  have h1 : Kept q (max n t) v1 := by
    unfold v1
    exact State.arrive_kept h
  clear_value v1
  refine keptR_next ?_
  refine kept_ite ?_ ?_
  · exact State.completion_kept h1
  · exact h1

end Sys2Proof.Machine
end

