-- ==== Sys2Proof/Laws/KeptRegOps.lean ====
section
/-!
SUPPORT. What every run keeps, through the operations and meanings of Machine/RegOps.lean: one lemma for each.
-/
namespace Sys2Proof.Machine
variable {q : List Instr} {n : Nat}

theorem State.regTouch_kept {s a1 a2} (h : Kept q n s) :
    Kept q n (State.regTouch s a1 a2) := by
  unfold State.regTouch
  extract_lets +onlyGivenNames v1
  extract_lets +onlyGivenNames v2
  clear_value v1
  split
  next y3 y4 =>
    exact State.surveySync_kept h
  next y5 y6 =>
    refine kept_ite ?_ ?_
    · exact State.modPulse_kept h
    · refine kept_ite ?_ ?_
      · extract_lets +onlyGivenNames v7
        clear_value v2
        split
        next y8 y9 =>
          exact State.readData0_kept h
        next y10 y11 =>
          exact State.readData1_kept h
        next y12 y13 =>
          exact State.modCap_kept h
        next y14 y15 y16 y17 =>
          exact h
      · clear_value v2
        split
        next y18 =>
          exact State.readLo_kept h
        next y19 =>
          exact State.readLo_kept h
        next y20 =>
          exact State.readLo_kept h
        next y21 =>
          exact State.readLo_kept h
        next y22 y23 y24 y25 y26 =>
          exact h
  next y27 y28 =>
    refine kept_ite ?_ ?_
    · exact kept_upd h same
    · exact h
  next y29 y30 =>
    refine kept_ite ?_ ?_
    · exact State.logOptimeLo_kept h
    · exact h
  next y31 y32 =>
    refine kept_ite ?_ ?_
    · exact State.modTch_kept h
    · exact h
  next y33 y34 =>
    refine kept_ite ?_ ?_
    · exact State.modFch_kept h
    · exact h
  next y35 y36 y37 y38 y39 y40 y41 =>
    exact h

theorem State.regGet_kept {s a1 a2} (h : Kept q n s) :
    Kept q n (State.regGet s a1 a2).2 := by
  unfold State.regGet
  refine kept_ite_snd ?_ ?_
  · extract_lets +onlyGivenNames v1
    have h1 : Kept q n v1 := by
      unfold v1
      refine kept_ite ?_ ?_
      · exact State.surveySync_kept h
      · exact h
    clear_value v1
    exact State.regTouch_kept h1
  · exact State.freeW_kept h

theorem State.regReply_kept {s a1 a2} (h : Kept q n s) :
    Kept q n (State.regReply s a1 a2) := by
  unfold State.regReply
  extract_lets +onlyGivenNames v1
  have h1 : Kept q n v1.2 := by
    unfold v1
    exact State.regGet_kept h
  clear_value v1
  exact State.emit_kept h1

theorem State.tmuWrite_kept {s a1 a2} (h : Kept q n s) :
    Kept q n (State.tmuWrite s a1 a2) := by
  unfold State.tmuWrite
  extract_lets +onlyGivenNames v1
  refine kept_ite ?_ ?_
  · exact State.modVc_kept h
  · refine kept_ite ?_ ?_
    · extract_lets +onlyGivenNames v2
      split
      next y3 y4 =>
        exact State.modPulse_kept h
      next y5 y6 =>
        exact State.modPulse_kept h
      next y7 y8 =>
        exact State.modPulse_kept h
      next y9 y10 =>
        exact State.modPulse_kept h
      next y11 y12 =>
        exact State.pulseCtrl_kept h
      next y13 y14 y15 y16 y17 y18 =>
        exact h
    · split
      next y19 =>
        exact State.tmuCtrl_kept h
      next y20 =>
        exact State.setIncr_kept h
      next y21 y22 y23 =>
        exact h

theorem State.dmaWrite_kept {s a1 a2} (h : Kept q n s) :
    Kept q n (State.dmaWrite s a1 a2) := by
  unfold State.dmaWrite
  extract_lets +onlyGivenNames v1
  refine kept_ite ?_ ?_
  · exact h
  · extract_lets +onlyGivenNames v2
    split
    next y3 y4 =>
      exact State.modDch_kept h
    next y5 y6 =>
      exact State.modDch_kept h
    next y7 y8 =>
      extract_lets +onlyGivenNames v9
      extract_lets +onlyGivenNames v10
      have h10 : Kept q n v10 := by
        unfold v10
        exact State.modDch_kept h
      clear_value v10
      extract_lets +onlyGivenNames v11
      have h11 : Kept q n v11 := by
        unfold v11
        refine kept_ite ?_ ?_
        · exact State.modDch_kept h10
        · refine kept_ite ?_ ?_
          · exact State.dmaDisable_kept h10
          · exact h10
      clear_value v11
      refine kept_ite ?_ ?_
      · exact State.dmaStart_kept h11
      · exact h11
    next y12 y13 =>
      exact State.modDch_kept h
    next y14 y15 y16 y17 y18 =>
      exact h

theorem State.clEnWrite_kept {s a1 a2} (h : Kept q n s) :
    Kept q n (State.clEnWrite s a1 a2) := by
  unfold State.clEnWrite
  refine kept_ite ?_ ?_
  · exact State.henGo_kept (State.modCl_kept h)
  · refine kept_ite ?_ ?_
    · exact State.dmaClusterLost_kept (State.clLeave_kept h)
    · exact h

theorem State.henWrite_kept {s a1 a2 a3} (h : Kept q n s) :
    Kept q n (State.henWrite s a1 a2 a3) := by
  unfold State.henWrite
  extract_lets +onlyGivenNames v1
  refine kept_ite ?_ ?_
  · extract_lets +onlyGivenNames v2
    split
    next y3 y4 =>
      exact State.modHq_kept h
    next y5 y6 =>
      exact State.henSettle_kept (State.henSubmit_kept h)
    next y7 y8 =>
      extract_lets +onlyGivenNames v9
      have h9 : Kept q n v9 := by
        unfold v9
        exact State.modHq_kept h
      clear_value v9
      refine kept_ite ?_ ?_
      · exact State.modHq_kept h9
      · refine kept_ite ?_ ?_
        · exact State.henSettle_kept (State.henGo_kept (State.henDisable_kept h9))
        · exact h9
    next y10 y11 =>
      refine kept_ite ?_ ?_
      · exact State.modHq_kept h
      · exact h
    next y12 y13 =>
      exact State.modHq_kept h
    next y14 y15 =>
      exact State.henSettle_kept (State.henCancel_kept h)
    next y16 y17 y18 y19 y20 y21 y22 =>
      exact h
  · split
    next y23 =>
      exact State.henSettle_kept (State.clEnWrite_kept (State.clEnWrite_kept h))
    next y24 =>
      exact kept_upd h same
    next y25 y26 y27 =>
      exact h

theorem State.pntWrite_kept {s a1 a2} (h : Kept q n s) :
    Kept q n (State.pntWrite s a1 a2) := by
  unfold State.pntWrite
  extract_lets +onlyGivenNames v1
  extract_lets +onlyGivenNames v2
  refine kept_ite ?_ ?_
  · exact kept_upd h (fun e => by simpa [State.sizes, unitSizes] using e)
  · split
    next y3 =>
      exact kept_upd h same
    next y4 =>
      exact kept_upd h same
    next y5 =>
      exact kept_upd h same
    next y6 =>
      exact kept_upd h same
    next y7 =>
      exact kept_upd h same
    next y8 =>
      exact kept_upd h same
    next y9 =>
      refine kept_ite ?_ ?_
      · exact State.wrGo_kept h
      · exact h
    next y10 =>
      exact kept_upd h same
    next y11 =>
      exact kept_upd h same
    next y12 y13 y14 y15 y16 y17 y18 y19 y20 y21 =>
      exact h

theorem State.logWrite_kept {s a1 a2 a3} (h : Kept q n s) :
    Kept q n (State.logWrite s a1 a2 a3) := by
  unfold State.logWrite
  split
  next y1 =>
    exact State.modRd_kept h
  next y2 =>
    exact State.logRdGo_kept h
  next y3 y4 y5 =>
    exact h

theorem State.thrWrite_kept {s a1 a2 a3} (h : Kept q n s) :
    Kept q n (State.thrWrite s a1 a2 a3) := by
  unfold State.thrWrite
  extract_lets +onlyGivenNames v1
  refine kept_ite ?_ ?_
  · extract_lets +onlyGivenNames v2
    split
    next y3 y4 =>
      extract_lets +onlyGivenNames v5
      have h5 : Kept q n v5 := by
        unfold v5
        exact State.modTch_kept h
      clear_value v5
      extract_lets +onlyGivenNames v6
      have h6 : Kept q n v6 := by
        unfold v6
        refine kept_ite ?_ ?_
        · exact State.thrWithdraw_kept h5
        · exact h5
      clear_value v6
      refine kept_ite ?_ ?_
      · exact State.thrClear_kept h6
      · exact h6
    next y7 y8 =>
      exact State.thrShadow_kept h
    next y9 y10 =>
      exact State.thrShadow_kept h
    next y11 y12 =>
      exact State.thrShadow_kept h
    next y13 y14 =>
      refine kept_ite ?_ ?_
      · exact State.thrSeal_kept h
      · exact h
    next y15 y16 y17 y18 y19 y20 =>
      exact h
  · refine kept_ite ?_ ?_
    · exact State.thrAuth_kept h
    · exact h

theorem State.regWrite_kept {s a1 a2 a3} (h : Kept q n s) :
    Kept q n (State.regWrite s a1 a2 a3) := by
  unfold State.regWrite
  extract_lets +onlyGivenNames v1
  extract_lets +onlyGivenNames v2
  refine kept_ite ?_ ?_
  · exact h
  · clear_value v1
    split
    next y3 y4 =>
      exact State.tmuWrite_kept h
    next y5 y6 =>
      exact State.dmaWrite_kept h
    next y7 y8 =>
      exact State.henWrite_kept h
    next y9 y10 =>
      exact State.pntWrite_kept h
    next y11 y12 =>
      exact State.logWrite_kept h
    next y13 y14 =>
      exact State.thrWrite_kept h
    next y15 y16 y17 y18 y19 y20 y21 =>
      exact h

theorem State.regRefused_kept {s a1 a2} (h : Kept q n s) :
    Kept q n (State.regRefused s a1 a2) := by
  unfold State.regRefused
  split
  next y1 =>
    exact State.partViolation_kept h
  next y2 y3 =>
    exact State.busErr_kept h

end Sys2Proof.Machine
end

