-- ==== Sys2Proof/Laws/KeptPart.lean ====
section
/-!
SUPPORT. What every run keeps, through the operations and meanings of Machine/Part.lean: one lemma for each.
-/
namespace Sys2Proof.Machine
variable {q : List Instr} {n : Nat}

theorem execPartitionSliceEnd_kept {t a1 s} (h : Kept q n s) :
    KeptR q (max n t) (execPartitionSliceEnd t a1 s) := by
  unfold execPartitionSliceEnd
  extract_lets +onlyGivenNames v1
  have h1 : Kept q (max n t) v1 := by
    unfold v1
    exact State.arrive_kept h
  clear_value v1
  refine keptR_next ?_
  refine kept_ite ?_ ?_
  · exact kept_upd h1 same
  · exact h1

theorem State.selfReset_kept {s a1} (h : Kept q n s) :
    Kept q n (State.selfReset s a1) := by
  unfold State.selfReset
  split
  next y1 y2 =>
    exact h
  next y3 y4 y5 =>
    refine kept_ite ?_ ?_
    · exact h
    · extract_lets +onlyGivenNames v6
      have h6 : Kept q n v6 := by
        unfold v6
        exact State.modImg_kept h
      clear_value v6
      refine kept_ite ?_ ?_
      · exact State.imgFallback_kept h6
      · exact h6

theorem State.partFault_kept {s a1} (h : Kept q n s) :
    Kept q n (State.partFault s a1) := by
  unfold State.partFault
  refine kept_ite ?_ ?_
  · exact h
  · extract_lets +onlyGivenNames v1
    extract_lets +onlyGivenNames v2
    have h2 : Kept q n v2 := by
      unfold v2
      exact State.partStop_kept h
    clear_value v2
    refine kept_ite ?_ ?_
    · exact State.event_kept (kept_upd h2 same)
    · extract_lets +onlyGivenNames v3
      have h3 : Kept q n v3 := by
        unfold v3
        exact State.imgStart_kept (State.selfReset_kept h2)
      clear_value v3
      exact State.partStart_kept (kept_upd h3 same)

theorem execPartitionFault_kept {t a1 s} (h : Kept q n s) :
    KeptR q (max n t) (execPartitionFault t a1 s) := by
  unfold execPartitionFault
  refine keptR_next ?_
  exact State.partFault_kept (State.arrive_kept h)

theorem execPartitionWatchdogExpiry_kept {t s} (h : Kept q n s) :
    KeptR q (max n t) (execPartitionWatchdogExpiry t s) := by
  unfold execPartitionWatchdogExpiry
  extract_lets +onlyGivenNames v1
  have h1 : Kept q (max n t) v1 := by
    unfold v1
    exact State.arrive_kept h
  clear_value v1
  refine keptR_next ?_
  refine kept_ite ?_ ?_
  · exact State.partFault_kept h1
  · exact h1

theorem execPartitionStartCommand_kept {t s} (h : Kept q n s) :
    KeptR q (max n t) (execPartitionStartCommand t s) := by
  unfold execPartitionStartCommand
  extract_lets +onlyGivenNames v1
  have h1 : Kept q (max n t) v1 := by
    unfold v1
    exact State.arrive_kept h
  clear_value v1
  refine keptR_next ?_
  refine kept_ite ?_ ?_
  · exact State.partStart_kept (kept_upd h1 same)
  · exact h1

theorem State.appRestart_kept {s a1} (h : Kept q n s) :
    Kept q n (State.appRestart s a1) := by
  unfold State.appRestart
  extract_lets +onlyGivenNames v1
  have h1 : Kept q n v1 := by
    unfold v1
    exact State.selfReset_kept h
  clear_value v1
  refine kept_ite ?_ ?_
  · exact State.learnRestore_kept (State.imgStart_kept (State.d2Reset_kept h1))
  · exact State.replayJournal_kept (State.partStart_kept (State.imgStart_kept (State.d3Reset_kept h1)))

theorem State.lockstepStop_kept {s} (h : Kept q n s) :
    Kept q n (State.lockstepStop s) := by
  unfold State.lockstepStop
  refine kept_ite ?_ ?_
  · exact h
  · refine kept_ite ?_ ?_
    · exact State.processStop_kept (State.safeStopEnter_kept h)
    · extract_lets +onlyGivenNames v1
      exact State.processStop_kept (State.modSafe_kept h (by refine sizes_foldl ?_ _ _; intro x p; split <;> simp))

theorem State.lockstep_kept {s a1} (h : Kept q n s) :
    Kept q n (State.lockstep s a1) := by
  unfold State.lockstep
  refine kept_ite ?_ ?_
  · exact h
  · extract_lets +onlyGivenNames v1
    extract_lets +onlyGivenNames v2
    extract_lets +onlyGivenNames v3
    have h3 : Kept q n v3 := by
      unfold v3
      exact State.event_kept (State.giveUp_kept h)
    clear_value v3
    extract_lets +onlyGivenNames v4
    have h4 : Kept q n v4 := by
      unfold v4
      exact State.appRestart_kept (State.lockstepStop_kept h3)
    clear_value v4
    refine kept_ite ?_ ?_
    · exact State.setMode_kept (kept_upd h4 same)
    · exact h4

theorem execLockstepMismatch_kept {t a1 s} (h : Kept q n s) :
    KeptR q (max n t) (execLockstepMismatch t a1 s) := by
  unfold execLockstepMismatch
  refine keptR_next ?_
  exact State.lockstep_kept (State.arrive_kept h)

theorem execDramRegionViolation_kept {t a1 a2 s} (h : Kept q n s) :
    KeptR q (max n t) (execDramRegionViolation t a1 a2 s) := by
  unfold execDramRegionViolation
  extract_lets +onlyGivenNames v1
  have h1 : Kept q (max n t) v1 := by
    unfold v1
    exact State.arrive_kept h
  clear_value v1
  refine keptR_guard ?_
  refine kept_ite ?_ ?_
  · exact h1
  · split
    next y2 =>
      refine kept_ite ?_ ?_
      · exact State.partViolation_kept h1
      · exact h1
    next y3 y4 =>
      exact State.busErr_kept (State.event_kept h1)

theorem State.eccFails_kept {s a1 a2} (h : Kept q n s) :
    Kept q n (State.eccFails s a1 a2) := by
  unfold State.eccFails
  split
  next y1 =>
    exact h
  next y2 y3 =>
    exact State.busErr_kept h
  next y4 y5 =>
    split
    next y6 y7 y8 =>
      refine kept_ite ?_ ?_
      · exact State.dmaBusErr_kept h
      · exact h
    next y9 y10 =>
      exact h
  next y11 y12 =>
    split
    next y13 y14 y15 =>
      exact State.henSettle_kept (State.henGo_kept (State.lose_kept (State.modCl_kept h)))
    next y16 y17 =>
      exact h

theorem execDramEccError_kept {t a1 a2 a3 s} (h : Kept q n s) :
    KeptR q (max n t) (execDramEccError t a1 a2 s a3) := by
  unfold execDramEccError
  extract_lets +onlyGivenNames v1
  have h1 : Kept q (max n t) v1 := by
    unfold v1
    exact State.arrive_kept h
  clear_value v1
  refine keptR_guard ?_
  refine kept_ite ?_ ?_
  · exact h1
  · refine kept_ite ?_ ?_
    · exact kept_mem h1 (five _ _ _ _ _) same
    · refine kept_ite ?_ ?_
      · exact State.lockstep_kept h1
      · refine kept_ite ?_ ?_
        · exact State.lockstep_kept h1
        · exact State.eccFails_kept (State.event_kept h1)

theorem State.domFailed_kept {s a1} (h : Kept q n s) :
    Kept q n (State.domFailed s a1) := by
  unfold State.domFailed
  extract_lets +onlyGivenNames v1
  have h1 : Kept q n v1 := by
    unfold v1
    refine kept_ite ?_ ?_
    · exact h
    · exact State.imgFallback_kept h
  clear_value v1
  refine State.raiseAlarm_kept ?_
  extract_lets +onlyGivenNames v2
  have h2 : Kept q n v2 := by
    unfold v2
    exact State.domDown_kept h1
  clear_value v2
  exact kept_upd h2 same

theorem State.restoreEnd_kept {s} (h : Kept q n s) :
    Kept q n (State.restoreEnd s) := by
  unfold State.restoreEnd
  extract_lets +onlyGivenNames v1
  refine kept_ite ?_ ?_
  · exact State.setMode_kept h
  · refine kept_ite ?_ ?_
    · exact State.setMode_kept (kept_upd h same)
    · exact State.setMode_kept h

theorem State.restored_kept {s a1} (h : Kept q n s) :
    Kept q n (State.restored s a1) := by
  unfold State.restored
  extract_lets +onlyGivenNames v1
  extract_lets +onlyGivenNames v2
  have h2 : Kept q n v2 := by
    unfold v2
    refine kept_foldl (State.allUp_kept h) ?_
    intro x3 x4 h5
    exact State.domFailed_kept h5
  clear_value v2
  extract_lets +onlyGivenNames v6
  have h6 : Kept q n v6 := by
    unfold v6
    refine kept_foldl h2 ?_
    intro x7 x8 h9
    refine kept_ite ?_ ?_
    · exact State.raiseAlarm_kept h9
    · exact h9
  clear_value v6
  extract_lets +onlyGivenNames v10
  have h10 : Kept q n v10 := by
    unfold v10
    refine kept_ite ?_ ?_
    · exact State.replayJournal_kept h6
    · exact h6
  clear_value v10
  exact State.restoreEnd_kept (State.keepAlarms_kept (State.safeAlarms_kept h10))

theorem execRestoreComplete_kept {t a1 s} (h : Kept q n s) :
    KeptR q (max n t) (execRestoreComplete t a1 s) := by
  unfold execRestoreComplete
  extract_lets +onlyGivenNames v1
  have h1 : Kept q (max n t) v1 := by
    unfold v1
    exact State.arrive_kept h
  clear_value v1
  refine keptR_next ?_
  refine kept_ite ?_ ?_
  · exact State.restored_kept h1
  · exact h1

end Sys2Proof.Machine
end

