-- ==== Sys2Proof/Laws/KeptRegs.lean ====
section
/-!
SUPPORT. What every run keeps, through the operations and meanings of Machine/Regs.lean: one lemma for each.
-/
namespace Sys2Proof.Machine
variable {q : List Instr} {n : Nat}

theorem execRegisterWrite_kept {t a1 a2 a3 s} (h : Kept q n s) :
    KeptR q (max n t) (execRegisterWrite t a1 a2 a3 s) := by
  unfold execRegisterWrite
  extract_lets +onlyGivenNames v1
  have h1 : Kept q (max n t) v1 := by
    unfold v1
    exact State.arrive_kept h
  clear_value v1
  refine keptR_guard ?_
  refine kept_ite ?_ ?_
  · exact State.regWrite_kept h1
  · exact State.regRefused_kept h1

theorem execStickyRegisterRead_kept {t a1 a2 s} (h : Kept q n s) :
    KeptR q (max n t) (execStickyRegisterRead t a1 a2 s) := by
  unfold execStickyRegisterRead
  extract_lets +onlyGivenNames v1
  have h1 : Kept q (max n t) v1 := by
    unfold v1
    exact State.arrive_kept h
  clear_value v1
  refine keptR_guard ?_
  refine kept_ite ?_ ?_
  · exact State.regReply_kept h1
  · exact State.regRefused_kept h1

theorem execPartitionAccessViolation_kept {t a1 s} (h : Kept q n s) :
    KeptR q (max n t) (execPartitionAccessViolation t a1 s) := by
  unfold execPartitionAccessViolation
  extract_lets +onlyGivenNames v1
  have h1 : Kept q (max n t) v1 := by
    unfold v1
    exact State.arrive_kept h
  clear_value v1
  extract_lets +onlyGivenNames v2
  refine keptR_next ?_
  refine kept_ite ?_ ?_
  · exact State.partViolation_kept h1
  · exact h1

theorem State.snapItem_kept {s a1} (h : Kept q n s) :
    Kept q n (State.snapItem s a1).2 := by
  unfold State.snapItem
  refine kept_ite_snd ?_ ?_
  · extract_lets +onlyGivenNames v1
    refine kept_ite_snd ?_ ?_
    · extract_lets +onlyGivenNames v2
      have h2 : Kept q n v2.2 := by
        unfold v2
        exact State.regGet_kept h
      clear_value v2
      exact h2
    · exact h
  · exact h

theorem State.snapItems_kept {s a1} (h : Kept q n s) :
    Kept q n (State.snapItems s a1).2 := by
  induction a1 generalizing s with
  | nil =>
    unfold State.snapItems
    exact h
  | cons b1 b2 ih =>
    unfold State.snapItems
    extract_lets +onlyGivenNames v1
    have h1 : Kept q n v1.2 := by
      unfold v1
      exact State.snapItem_kept h
    clear_value v1
    extract_lets +onlyGivenNames v2
    have h2 : Kept q n v2.2 := by
      unfold v2
      apply ih
      exact h1
    clear_value v2
    exact h2

theorem State.captureSnap_kept {s a1 a2} (h : Kept q n s) :
    Kept q n (State.captureSnap s a1 a2) := by
  unfold State.captureSnap
  split
  next y1 y2 y3 y4 y5 =>
    refine kept_ite ?_ ?_
    · exact kept_upd h same
    · extract_lets +onlyGivenNames v6
      have h6 : Kept q n v6.2 := by
        unfold v6
        exact State.snapItems_kept h
      clear_value v6
      extract_lets +onlyGivenNames v7
      have h7 : Kept q n v7 := by
        unfold v7
        exact h6
      clear_value v7
      extract_lets +onlyGivenNames v8
      extract_lets +onlyGivenNames v9
      extract_lets +onlyGivenNames v10
      have hl : ∀ l, v10 = some l → l.drops.length = v7.log.drops.length ∧ l.qdrops.length = v7.log.qdrops.length ∧
          l.rd.length = v7.log.rd.length := by
        intro l e
        unfold v10 at e
        split at e
        · split at e
          · cases e
            exact ⟨rfl, rfl, rfl⟩
          · cases e
        · exact placeSnap_sizes e
      clear_value v10
      refine kept_ite (State.raiseAlarm_kept (log_kept h7 ⟨rfl, rfl, rfl⟩)) ?_
      split
      next y11 y12 =>
        exact log_kept h7 (hl y12 rfl)
      next y13 =>
        exact kept_upd h7 same

theorem execLogSnapshotCapture_kept {t a1 s} (h : Kept q n s) :
    KeptR q (max n t) (execLogSnapshotCapture t s a1) := by
  unfold execLogSnapshotCapture
  extract_lets +onlyGivenNames v1
  have h1 : Kept q (max n t) v1 := by
    unfold v1
    exact State.arrive_kept h
  clear_value v1
  extract_lets +onlyGivenNames v2
  refine keptR_ite ?_ ?_
  · refine keptR_next ?_
    exact h1
  · extract_lets +onlyGivenNames v3
    extract_lets +onlyGivenNames v4
    extract_lets +onlyGivenNames v5
    have h5 : Kept q (max n t) v5 := by
      unfold v5
      exact kept_upd h1 same
    clear_value v5
    refine keptR_next ?_
    refine kept_foldl h5 ?_
    intro x6 x7 h8
    exact State.captureSnap_kept h8

end Sys2Proof.Machine
end

