-- ==== Sys2Proof/Laws/Opcode.lean ====
section
/-!
SUPPORT. What a command with an opcode answers once it passes its checks: its effect, its reply, and what stays as it was.
-/
namespace Sys2Proof.Machine

/-! ### Sessions through the journal's operations -/

theorem find_map_num (l : List Session) (n m : Nat) (f : Session → Session) (hf : ∀ y, (f y).num = y.num) :
    (l.map (fun x => if x.num = m then f x else x)).find? (fun x => x.num = n) =
      (l.find? (fun x => x.num = n)).map (fun x => if x.num = m then f x else x) := by
  induction l with
  | nil => rfl
  | cons a l ih =>
    have ha : (if a.num = m then f a else a).num = a.num := by
      split
      · exact hf a
      · rfl
    rw [List.map_cons, List.find?_cons, List.find?_cons, ha]
    split
    · rfl
    · exact ih

/-- A session changed, its number kept, is the same session of the others. -/
theorem State.modSess_sess (s : State) (n m : Nat) (f : Session → Session) (hf : ∀ y, (f y).num = y.num) :
    (s.modSess m f).sess? n = (s.sess? n).map (fun x => if x.num = m then f x else x) :=
  find_map_num s.cmd.sessions n m f hf

/-- The parts of a session that a reply depends on, and its held packets. -/
structure SameSess (x y : Session) : Prop where
  num : y.num = x.num
  client : y.client = x.client
  pair : y.pair = x.pair
  auth : y.auth = x.auth
  key : y.key = x.key
  iface : y.iface = x.iface
  addr : y.addr = x.addr
  port : y.port = x.port
  held : y.held = x.held
  closing : y.closing = x.closing

theorem sameSess_refl (x : Session) : SameSess x x := ⟨rfl, rfl, rfl, rfl, rfl, rfl, rfl, rfl, rfl, rfl⟩

/-- The session `x` still there, as far as a reply can tell, in a unit whose identity is that of `s`. -/
structure Talks (s : State) (x : Session) (u : State) : Prop where
  sess : ∃ y, u.sess? x.num = some y ∧ SameSess x y
  epoch : u.red.epochHeld = s.red.epochHeld
  unit : u.red.unit = s.red.unit
  peer : u.cmd.peerPresent = s.cmd.peerPresent

theorem talks_refl {s : State} {x : Session} (h : s.sess? x.num = some x) : Talks s x s :=
  ⟨⟨x, h, sameSess_refl x⟩, rfl, rfl, rfl⟩

theorem talks_modSess {s u : State} {x : Session} (h : Talks s x u) (n : Nat) (f : Session → Session)
    (hf : ∀ y, SameSess y (f y)) : Talks s x (u.modSess n f) := by
  obtain ⟨⟨y, hy, k⟩, a, b, c⟩ := h
  refine ⟨⟨_, by rw [State.modSess_sess u x.num n f (fun y => (hf y).num), hy]; rfl, ?_⟩, a, b, c⟩
  dsimp only
  split
  · have g := hf y
    exact ⟨g.1.trans k.1, g.2.trans k.2, g.3.trans k.3, g.4.trans k.4, g.5.trans k.5, g.6.trans k.6, g.7.trans k.7, g.8.trans k.8,
      g.9.trans k.9, g.10.trans k.10⟩
  · exact k

/-- The sessions, the peer and the unit's identity in one state as in another. -/
theorem talks_same {s u v : State} {x : Session} (h : Talks s x u) (a : v.cmd.sessions = u.cmd.sessions)
    (b : v.cmd.peerPresent = u.cmd.peerPresent) (c : v.red = u.red) : Talks s x v := by
  obtain ⟨⟨y, hy, k⟩, d, e, f⟩ := h
  refine ⟨⟨y, ?_, k⟩, by rw [c, d], by rw [c, e], b.trans f⟩
  unfold State.sess? at *
  rw [a]
  exact hy

theorem talks_onlyLog {s u v : State} {x : Session} (h : Talks s x u) (k : OnlyLog u v) : Talks s x v := by
  obtain ⟨_, _, rfl⟩ := k
  exact talks_same h rfl rfl rfl

theorem talks_pushEntryJ {s u : State} {x : Session} (h : Talks s x u) (y : Session) (a b c : Nat) (st : JState) (d e : Bool)
    (p r : List Byte) : Talks s x (u.pushEntryJ y a b c st d e p r) := by
  unfold State.pushEntryJ
  refine talks_onlyLog ?_ (onlyLog_journalLow _)
  refine talks_modSess ?_ _ _ (fun y => ⟨rfl, rfl, rfl, rfl, rfl, rfl, rfl, rfl, rfl, rfl⟩)
  exact talks_same h rfl rfl rfl

/-- A consuming reply is sent. -/
theorem State.reply_sent {s u : State} {x : Session} (h : Talks s x u) (seq op st : Nat) (p : List Byte) :
    s.replyOf x seq op st p ∈ (u.reply x.num seq op st p).sent := by
  obtain ⟨⟨y, hy, k⟩, a, b, c⟩ := h
  have hs : u.single y = s.single x := by
    unfold State.single State.mirrors State.pairUnit
    rw [b, c, k.pair]
  have hk : y.trailKey = x.trailKey := by
    unfold Session.trailKey
    rw [k.auth, k.key]
  have he : ∀ v : State, v.sent = u.sent → v.red = u.red → v.single y = u.single y →
      s.replyOf x seq op st p ∈ (v.sendPkt y 0 seq op st p).sent := by
    intro v _ hr hv
    unfold State.sendPkt State.emit State.replyOf
    dsimp only
    rw [hv, hs, hk, hr, a, k.auth, k.client, k.num, k.iface, k.addr, k.port]
    exact List.mem_append_right _ (by simp)
  have hp : ∀ v : State, v.pruneJournal.sent = v.sent := by
    intro v
    obtain ⟨_, _, e⟩ := onlyLog_journalLow { v with cmd := { v.cmd with journal := v.cmd.journal.filter (fun e => !v.freeable e) } }
    unfold State.pruneJournal
    rw [e]
  have hf : ∀ (v : State) (n : Nat), (v.freeSlot n).sent = v.sent := by
    intro v n
    unfold State.freeSlot
    split
    · rfl
    · split
      · rw [hp]
      · rfl
  unfold State.reply
  rw [hy]
  dsimp only
  rw [hf, hp]
  refine he _ ?_ ?_ ?_
  · split <;> rfl
  · split <;> rfl
  · unfold State.single State.mirrors State.pairUnit
    split <;> rfl

/-- Nothing is held: nothing runs behind a command. -/
theorem State.runHeld_none (s : State) (k n : Nat) (h : ∀ y, s.sess? n = some y → y.closing = false → y.held = []) : s.runHeld k n = s := by
  cases k with
  | zero => rfl
  | succ k =>
    unfold State.runHeld
    split
    · rfl
    next y hy =>
      cases hc : y.closing with
      | true => simp only [true_or, if_true]
      | false =>
        rw [h y hy hc]
        split <;> rfl

/-- What a reply and the operations around it leave: the sessions' held packets. -/
theorem freeSlot_held (s : State) (n : Nat) (h : ∀ y, s.sess? n = some y → y.held = []) :
    ∀ y, (s.freeSlot n).sess? n = some y → y.held = [] := by
  intro y hy
  unfold State.freeSlot at hy
  split at hy
  · exact h y hy
  · split at hy
    · obtain ⟨_, _, e⟩ := onlyLog_journalLow _
      unfold State.pruneJournal at hy
      rw [e] at hy
      unfold State.sess? at hy
      dsimp only at hy
      have := List.find?_some hy
      have k := List.mem_of_find?_eq_some hy
      simp at this k
      exact absurd this k.2
    · exact h y hy

theorem pruneJournal_sess (s : State) (n : Nat) : s.pruneJournal.sess? n = s.sess? n := by
  obtain ⟨_, _, e⟩ := onlyLog_journalLow { s with cmd := { s.cmd with journal := s.cmd.journal.filter (fun e => !s.freeable e) } }
  unfold State.pruneJournal
  rw [e]
  rfl

theorem reply_held {s u : State} {x : Session} (h : Talks s x u) (hx : x.held = []) (seq op st : Nat) (p : List Byte) :
    ∀ y, (u.reply x.num seq op st p).sess? x.num = some y → y.held = [] := by
  obtain ⟨⟨z, hz, k⟩, _, _, _⟩ := h
  have h1 : Talks u z u := talks_refl (k.num ▸ hz)
  unfold State.reply
  rw [hz]
  dsimp only
  refine freeSlot_held _ _ ?_
  rw [pruneJournal_sess]
  have e : ∀ v : State, ∀ n, (v.sendPkt z 0 seq op st p).sess? n = v.sess? n := fun _ _ => rfl
  rw [e]
  intro y hy
  have hy' : ((u.keepReply x.num { seq := seq, opcode := op, status := st, flags := 0, params := some p, complete := st ≠ stAccepted }).advance
      x.num).sess? x.num = some y := by
    rw [← hy]
    split <;> rfl
  have h2 : Talks u z ((u.keepReply x.num { seq, opcode := op, status := st, params := some p, complete := st ≠ stAccepted }).advance
      x.num) := by
    unfold State.advance State.keepReply
    refine talks_modSess (talks_modSess h1 _ _ ?_) _ _ ?_
    · exact fun y => ⟨rfl, rfl, rfl, rfl, rfl, rfl, rfl, rfl, rfl, rfl⟩
    · exact fun y => ⟨rfl, rfl, rfl, rfl, rfl, rfl, rfl, rfl, rfl, rfl⟩
  obtain ⟨w, hw, kw⟩ := h2.sess
  rw [k.num, hy'] at hw
  cases hw
  exact kw.held.trans (k.held.trans hx)

/-- The slot of a session that is not closing stays. -/
theorem freeSlot_open {s : State} {n : Nat} {y : Session} (h : s.sess? n = some y) (hc : y.closing = false) : s.freeSlot n = s := by
  unfold State.freeSlot
  rw [h]
  dsimp only
  rw [if_neg (by rw [hc]; simp)]

/-- A consuming reply of an open session. -/
theorem onlyCmd_reply {s u : State} {x : Session} (h : Talks s x u) (hx : x.closing = false) (seq op st : Nat) (p : List Byte) :
    OnlyCmd u (u.reply x.num seq op st p) := by
  obtain ⟨⟨z, hz, k⟩, _, _, _⟩ := h
  have h2 : Talks u z ((u.keepReply x.num { seq, opcode := op, status := st, params := some p, complete := st ≠ stAccepted }).advance
      x.num) := by
    unfold State.advance State.keepReply
    refine talks_modSess (talks_modSess (talks_refl (k.num ▸ hz)) _ _ ?_) _ _ ?_
    · exact fun y => ⟨rfl, rfl, rfl, rfl, rfl, rfl, rfl, rfl, rfl, rfl⟩
    · exact fun y => ⟨rfl, rfl, rfl, rfl, rfl, rfl, rfl, rfl, rfl, rfl⟩
  obtain ⟨w, hw, kw⟩ := h2.sess
  rw [k.num] at hw
  unfold State.reply
  rw [hz]
  dsimp only
  have o1 : OnlyCmd u ((u.keepReply x.num { seq, opcode := op, status := st, params := some p, complete := st ≠ stAccepted }).advance x.num) :=
    onlyCmd_trans (onlyCmd_keepReply u x.num _) (onlyCmd_advance _ _)
  generalize (u.keepReply x.num { seq, opcode := op, status := st, params := some p, complete := st ≠ stAccepted }).advance x.num = v at o1 hw ⊢
  have o2 : OnlyCmd u (if st = stDone ∨ st = stAccepted then { v with cmd := { v.cmd with acceptedCnt := v.cmd.acceptedCnt + 1 } } else v) :=
    onlyCmd_ite (onlyCmd_trans o1 (onlyCmd_upd v)) o1
  have g : (if st = stDone ∨ st = stAccepted then { v with cmd := { v.cmd with acceptedCnt := v.cmd.acceptedCnt + 1 } } else v).sess? x.num =
      some w := by
    rw [← hw]
    split <;> rfl
  generalize (if st = stDone ∨ st = stAccepted then { v with cmd := { v.cmd with acceptedCnt := v.cmd.acceptedCnt + 1 } } else v) = y at o2 g ⊢
  have g2 : ((y.sendPkt z 0 seq op st p).pruneJournal).sess? x.num = some w := by
    rw [pruneJournal_sess]
    exact g
  rw [freeSlot_open g2 (kw.closing.trans (k.closing.trans hx))]
  exact onlyCmd_trans o2 (onlyCmd_trans (onlyCmd_sendPkt y _ _ _ _ _ _) (onlyCmd_pruneJournal _))

/-! ### The whole row -/

theorem State.ready_iff {s : State} {o : OpDef} {x : Session} {seq : Nat} {acc : Bool} {p : List Byte} (h : s.ready o x seq acc p = true) :
    (s.dom 3 = true ∧ x.dormant = false ∧ x.closing = false ∧ seq = x.e ∧ s.waiting x.num = false ∧ s.cmd.replayDone = true) ∧
    (o.pair = false ∨ s.pairOk = true) ∧ o.admitted x = true ∧ o.len ≤ p.length ∧ s.roomFor x.num acc p = true ∧ s.mirrors x = false ∧
    x.held = [] := by
  unfold State.ready at h
  simp only [Bool.and_eq_true, Bool.not_eq_true', Bool.or_eq_true, decide_eq_true_eq, List.isEmpty_iff] at h
  obtain ⟨⟨⟨⟨⟨⟨⟨⟨⟨⟨⟨a, b⟩, c⟩, d⟩, e⟩, f⟩, g⟩, i⟩, j⟩, k⟩, l⟩, m⟩ := h
  exact ⟨⟨a, b, c, d, e, f⟩, g, i, j, k, l, m⟩

theorem talks_asked {s : State} {x : Session} (h : s.sess? x.num = some x) (t : Nat) : Talks s x (s.asked t x) := by
  unfold State.asked
  refine talks_modSess (talks_same (v := s.arrive t) (talks_refl h) rfl rfl rfl) _ _ ?_
  exact fun _ => ⟨rfl, rfl, rfl, rfl, rfl, rfl, rfl, rfl, rfl, rfl⟩

/-- A row of an opcode in a state that is ready for it runs the opcode. -/
theorem opRow_runs {o : OpDef} {t seq : Nat} {x : Session} {p : List Byte} {s : State} {acc : Bool} (hs : s.sess? x.num = some x)
    (hr : s.ready o x seq acc p = true) (hc : o.chk (s.asked t x) x.num p = if acc then stAccepted else stDone) :
    opRow o t x.num seq p s = .next
      ((((s.asked t x).pushEntryJ x seq o.code (if acc then stAccepted else stDone) .journalled (!o.pair) acc p []).runOp o x.num seq
        ((s.asked t x).pushEntryJ x seq o.code (if acc then stAccepted else stDone) .journalled (!o.pair) acc p []).cmd.jnum acc p).runHeld
          64 x.num) := by
  obtain ⟨⟨h1, h2, h3, h4, h5, h6⟩, h7, h8, h9, h10, h11, h12⟩ := s.ready_iff hr
  have e : s.asked t x = (s.arrive t).modSess x.num (fun y => { y with lastValid := (s.arrive t).now }) := rfl
  have g1 : (s.arrive t).sess? x.num = some x := hs
  have g2 : (s.arrive t).dom 3 = true := h1
  have g3 : (s.arrive t).waiting x.num = false := h5
  have g4 : (s.arrive t).cmd.replayDone = true := h6
  have g5 : (s.arrive t).pairOk = s.pairOk := rfl
  have g6 : (s.asked t x).roomFor x.num acc p = true := h10
  unfold opRow
  dsimp only
  rw [g1]
  dsimp only
  rw [← e, g2, g3, g4, g5, h2, h3, if_neg (by simp [h4]), if_neg (by rcases h7 with h | h <;> simp [h])]
  congr 2
  unfold State.accept
  rw [if_neg (by simp [h8])]
  dsimp only
  have hl : ¬ p.length < o.len := by omega
  have hm : ∀ st, ¬ ((s.asked t x).pushEntryJ x seq o.code st .journalled (!o.pair) acc p []).mirrors x = true := by
    intro st
    have k := talks_pushEntryJ (talks_asked hs t) x seq o.code st .journalled (!o.pair) acc p []
    rw [Bool.not_eq_true, ← h11]
    unfold State.mirrors State.pairUnit
    rw [k.unit, k.peer]
  simp only [if_neg hl, hc]
  cases acc with
  | true =>
    simp only [if_true, decide_true]
    rw [if_neg (by decide), if_neg (by decide), if_neg (by simp [g6]), if_neg (hm stAccepted)]
  | false =>
    have d : decide (stDone = stAccepted) = false := by decide
    simp only [if_false, Bool.false_eq_true]
    rw [if_neg (by decide), if_neg (by decide), d, if_neg (by simp [g6]), if_neg (hm stDone)]

theorem talks_modEntry {s u : State} {x : Session} (h : Talks s x u) (n : Nat) (f : JEntry → JEntry) : Talks s x (u.modEntry n f) :=
  talks_same h rfl rfl rfl

theorem talks_setReply {s u : State} {x : Session} (h : Talks s x u) (n : Nat) (r : List Byte) : Talks s x (u.setReply n r) := by
  unfold State.setReply
  dsimp only
  repeat' split
  all_goals exact talks_same h rfl rfl rfl

theorem talks_mirrorEntry {s u : State} {x : Session} (h : Talks s x u) (n k : Nat) : Talks s x (u.mirrorEntry n k) := by
  unfold State.mirrorEntry
  split
  · split
    · exact talks_same h rfl rfl rfl
    · exact h
  · exact h

/-- What the acceptance of a command changes. -/
theorem onlyCmd_began {s : State} {x : Session} (hs : s.sess? x.num = some x) (hx : x.closing = false) (o : OpDef) (t a : Nat) (c : Bool)
    (p : List Byte) : OnlyCmd (s.arrive t) (s.began o t x a c p) := by
  unfold State.began
  have k1 := talks_pushEntryJ (talks_asked hs t) x a o.code (if c then stAccepted else stDone) .journalled (!o.pair) c p []
  extract_lets +onlyGivenNames s1
  have h1 : OnlyCmd (s.arrive t) s1 := onlyCmd_trans (onlyCmd_asked s t x) (onlyCmd_pushEntryJ _ _ _ _ _ _ _ _ _ _)
  have k2 : Talks s x s1 := k1
  clear_value s1
  extract_lets +onlyGivenNames jn src s2
  have h2 : OnlyCmd (s.arrive t) s2 ∧ Talks s x s2 := by
    unfold s2
    split
    · exact ⟨onlyCmd_trans h1 (onlyCmd_upd s1), talks_same k2 rfl rfl rfl⟩
    · exact ⟨h1, k2⟩
  clear_value s2
  extract_lets +onlyGivenNames s3
  have h3 : OnlyCmd (s.arrive t) s3 := onlyCmd_trans h2.1 (onlyCmd_modEntry _ _ _)
  have k3 : Talks s x s3 := talks_modEntry h2.2 _ _
  clear_value s3
  exact onlyCmd_ite (onlyCmd_trans h3 (onlyCmd_reply k3 hx _ _ _ _)) h3

theorem talks_began {o : OpDef} {t seq : Nat} {x : Session} {p : List Byte} {s : State} (hs : s.sess? x.num = some x) :
    Talks s x (s.began o t x seq false p) := by
  unfold State.began
  simp only [Bool.false_eq_true, if_false]
  exact talks_modEntry (talks_pushEntryJ (talks_asked hs t) _ _ _ _ _ _ _ _ _) _ _

/-- A command that is DONE at once: its effect on the state it began in, beside its reply, which is sent. -/
theorem opRow_done {o : OpDef} {t seq : Nat} {x : Session} {p : List Byte} {s : State} (hs : s.sess? x.num = some x)
    (hr : s.ready o x seq false p = true) (hc : o.chk (s.asked t x) x.num p = stDone)
    (hd : o.defer (s.began o t x seq false p) p = false)
    (hk : Talks s x (o.run (s.began o t x seq false p) x.num seq p).1) :
    ∃ u, opRow o t x.num seq p s = .next u ∧ OnlyCmd (o.run (s.began o t x seq false p) x.num seq p).1 u ∧
      s.replyOf x seq o.code stDone (o.run (s.began o t x seq false p) x.num seq p).2 ∈ u.sent := by
  have hx : x.held = [] := (s.ready_iff hr).2.2.2.2.2.2
  have hcl : x.closing = false := (s.ready_iff hr).1.2.2.1
  rw [opRow_runs (acc := false) hs hr hc]
  refine ⟨_, rfl, ?_⟩
  simp only [Bool.false_eq_true, if_false]
  generalize hq : (s.asked t x).pushEntryJ x seq o.code stDone .journalled (!o.pair) false p [] = q
  have e : s.began o t x seq false p = q.modEntry q.cmd.jnum (fun e => { e with state := .complete, frame := q.frame.number }) := by
    rw [← hq]
    rfl
  generalize hg : o.run (s.began o t x seq false p) x.num seq p = r at hk ⊢
  have key : q.runOp o x.num seq q.cmd.jnum false p =
      ((r.1.setReply q.cmd.jnum r.2).mirrorEntry x.num q.cmd.jnum).reply x.num seq o.code stDone r.2 := by
    rw [← hg, e]
    rw [e] at hd
    unfold State.runOp
    simp only [Bool.false_eq_true, if_false]
    rw [if_neg (by rw [hd]; exact Bool.false_ne_true)]
  rw [key]
  have k2 := talks_mirrorEntry (talks_setReply hk q.cmd.jnum r.2) x.num q.cmd.jnum
  rw [State.runHeld_none _ _ _ (fun y hy _ => reply_held k2 hx _ _ _ _ y hy)]
  exact ⟨onlyCmd_trans (onlyCmd_trans (onlyCmd_setReply _ _ _) (onlyCmd_mirrorEntry _ _ _)) (onlyCmd_reply k2 hcl _ _ _ _),
    State.reply_sent k2 _ _ _ _⟩

/-- A command that is ACCEPTED: its effect on the state it began in, in which ACCEPTED has been replied. -/
theorem opRow_accepted {o : OpDef} {t seq : Nat} {x : Session} {p : List Byte} {s : State} (hs : s.sess? x.num = some x)
    (hr : s.ready o x seq true p = true) (hc : o.chk (s.asked t x) x.num p = stAccepted) :
    opRow o t x.num seq p s = .next ((o.run (s.began o t x seq true p) x.num seq p).1.runHeld 64 x.num) := by
  rw [opRow_runs (acc := true) hs hr hc]
  rfl


/-- An ACCEPTED command begins with its reply sent and nothing held behind it. -/
theorem began_accepted {o : OpDef} {t seq : Nat} {x : Session} {p : List Byte} {s : State} (hs : s.sess? x.num = some x) (hx : x.held = []) :
    s.replyOf x seq o.code stAccepted [] ∈ (s.began o t x seq true p).sent ∧
      ∀ y, (s.began o t x seq true p).sess? x.num = some y → y.held = [] := by
  have k1 := talks_pushEntryJ (talks_asked hs t) x seq o.code stAccepted .journalled (!o.pair) true p []
  have k2 : Talks s x ({ ((s.asked t x).pushEntryJ x seq o.code stAccepted .journalled (!o.pair) true p []) with
      cmd := { ((s.asked t x).pushEntryJ x seq o.code stAccepted .journalled (!o.pair) true p []).cmd with
        accepted := ((s.asked t x).pushEntryJ x seq o.code stAccepted .journalled (!o.pair) true p []).cmd.accepted ++ [(x.num, seq)] } } : State) :=
    talks_same k1 rfl rfl rfl
  have k3 := talks_modEntry k2 ((s.asked t x).pushEntryJ x seq o.code stAccepted .journalled (!o.pair) true p []).cmd.jnum
    (fun e => { e with
      state := .applied, frame := ((s.asked t x).pushEntryJ x seq o.code stAccepted .journalled (!o.pair) true p []).frame.number })
  exact ⟨State.reply_sent k3 seq o.code stAccepted [], reply_held k3 hx seq o.code stAccepted []⟩

/-- An ACCEPTED command whose effect leaves the held packets: its next state is that effect's. -/
theorem opRow_acceptedRun {o : OpDef} {t seq : Nat} {x : Session} {p : List Byte} {s : State} (hs : s.sess? x.num = some x)
    (hr : s.ready o x seq true p = true) (hc : o.chk (s.asked t x) x.num p = stAccepted)
    (hk : (o.run (s.began o t x seq true p) x.num seq p).1.cmd.sessions = (s.began o t x seq true p).cmd.sessions) :
    opRow o t x.num seq p s = .next (o.run (s.began o t x seq true p) x.num seq p).1 := by
  rw [opRow_accepted hs hr hc, State.runHeld_none]
  intro y hy _
  refine (began_accepted (o := o) (t := t) (seq := seq) (p := p) hs (s.ready_iff hr).2.2.2.2.2.2).2 y ?_
  unfold State.sess? at hy ⊢
  rw [← hk]
  exact hy

/-! ### Rows by what they do -/

theorem State.takes_iff {s : State} {o : OpDef} {t : Nat} {x : Session} {seq : Nat} {acc : Bool} {p : List Byte} (h : s.takes o t x seq acc p = true) :
    s.sess? x.num = some x ∧ s.ready o x seq acc p = true ∧ o.chk (s.asked t x) x.num p = if acc then stAccepted else stDone := by
  unfold State.takes at h
  simp only [Bool.and_eq_true, decide_eq_true_eq] at h
  exact ⟨h.1.1, h.1.2, h.2⟩

/-- A DONE command by its effect: `v` but for the acceptance and the reply, and the reply carries `r`. -/
theorem opRow_effect {o : OpDef} {t seq : Nat} {x : Session} {p r : List Byte} {s v : State} (h : s.takes o t x seq false p = true)
    (H : ∀ b, OnlyCmd (s.arrive t) b → o.defer b p = false ∧ OnlyCmd v (o.run b x.num seq p).1 ∧
      (o.run b x.num seq p).1.cmd = b.cmd ∧ (o.run b x.num seq p).1.red = b.red ∧ (o.run b x.num seq p).2 = r) :
    ∃ u, opRow o t x.num seq p s = .next u ∧ OnlyCmd v u ∧ s.replyOf x seq o.code stDone r ∈ u.sent := by
  obtain ⟨hs, hr, hc⟩ := State.takes_iff h
  obtain ⟨h1, h2, h3, h4, h5⟩ := H _ (onlyCmd_began hs (s.ready_iff hr).1.2.2.1 o t seq false p)
  obtain ⟨u, a, b, c⟩ := opRow_done hs hr hc h1 (talks_same (talks_began hs) (by rw [h3]) (by rw [h3]) h4)
  exact ⟨u, a, onlyCmd_trans h2 b, h5 ▸ c⟩

/-- A query: nothing but the acceptance and the reply, which carries what its definition reads. -/
theorem opRow_query {o : OpDef} {t seq : Nat} {x : Session} {p : List Byte} {s : State} (h : s.takes o t x seq false p = true)
    (H : o.defer (s.began o t x seq false p) p = false ∧
      (o.run (s.began o t x seq false p) x.num seq p).1 = s.began o t x seq false p) :
    ∃ u, opRow o t x.num seq p s = .next u ∧ OnlyCmd (s.arrive t) u ∧
      s.replyOf x seq o.code stDone (o.run (s.began o t x seq false p) x.num seq p).2 ∈ u.sent := by
  obtain ⟨hs, hr, hc⟩ := State.takes_iff h
  obtain ⟨h1, h2⟩ := H
  obtain ⟨u, a, b, c⟩ := opRow_done hs hr hc h1 (h2.symm ▸ talks_began hs)
  exact ⟨u, a, onlyCmd_trans (h2.symm ▸ onlyCmd_began hs (s.ready_iff hr).1.2.2.1 o t seq false p) b, c⟩

/-- An ACCEPTED command by its effect. -/
theorem opRow_acceptedEffect {o : OpDef} {t seq : Nat} {x : Session} {p : List Byte} {s v : State} (h : s.takes o t x seq true p = true)
    (H : ∀ b, OnlyCmd (s.arrive t) b → OnlyCmd v (o.run b x.num seq p).1 ∧
      (o.run b x.num seq p).1.cmd = b.cmd ∧ (o.run b x.num seq p).1.sent = b.sent) :
    ∃ u, opRow o t x.num seq p s = .next u ∧ OnlyCmd v u ∧ s.replyOf x seq o.code stAccepted [] ∈ u.sent := by
  obtain ⟨hs, hr, hc⟩ := State.takes_iff h
  obtain ⟨h1, h2, h3⟩ := H _ (onlyCmd_began hs (s.ready_iff hr).1.2.2.1 o t seq true p)
  refine ⟨_, opRow_acceptedRun hs hr hc (by rw [h2]), h1, ?_⟩
  rw [h3]
  exact (began_accepted hs (s.ready_iff hr).2.2.2.2.2.2).1

/-- A command that is taken ends as `State.ended` says. -/
theorem opRow_ended {o : OpDef} {t seq : Nat} {x : Session} {acc : Bool} {p : List Byte} {s : State} (h : s.takes o t x seq acc p = true) :
    opRow o t x.num seq p s = .next (s.ended o t x seq acc p) := by
  obtain ⟨hs, hr, hc⟩ := State.takes_iff h
  exact opRow_runs hs hr hc

end Sys2Proof.Machine
end

