-- ==== Sys2Proof/Laws/Records.lean ====
section
/-!
SUPPORT. What the recorder's operations and the alarms leave of each part of the state, and which alarms stand after them.
-/
namespace Sys2Proof.Machine

/-- The parts of a state that differs in the recorder and the alarms at most. -/
theorem OnlyLog.parts {s u : State} (h : OnlyLog s u) : u = { s with log := u.log, alarms := u.alarms } := by
  obtain ⟨_, _, rfl⟩ := h
  rfl

theorem OnlyLog.pending {s u : State} (h : OnlyLog s u) : u.pending = s.pending := by obtain ⟨_, _, rfl⟩ := h; rfl
theorem OnlyLog.now {s u : State} (h : OnlyLog s u) : u.now = s.now := by obtain ⟨_, _, rfl⟩ := h; rfl
theorem OnlyLog.free {s u : State} (h : OnlyLog s u) : u.free = s.free := by obtain ⟨_, _, rfl⟩ := h; rfl
theorem OnlyLog.sent {s u : State} (h : OnlyLog s u) : u.sent = s.sent := by obtain ⟨_, _, rfl⟩ := h; rfl
theorem OnlyLog.part {s u : State} (h : OnlyLog s u) : u.part = s.part := by obtain ⟨_, _, rfl⟩ := h; rfl
theorem OnlyLog.dram {s u : State} (h : OnlyLog s u) : u.dram = s.dram := by obtain ⟨_, _, rfl⟩ := h; rfl
theorem OnlyLog.frame {s u : State} (h : OnlyLog s u) : u.frame = s.frame := by obtain ⟨_, _, rfl⟩ := h; rfl
theorem OnlyLog.est {s u : State} (h : OnlyLog s u) : u.est = s.est := by obtain ⟨_, _, rfl⟩ := h; rfl
theorem OnlyLog.hold {s u : State} (h : OnlyLog s u) : u.hold = s.hold := by obtain ⟨_, _, rfl⟩ := h; rfl
theorem OnlyLog.alc {s u : State} (h : OnlyLog s u) : u.alc = s.alc := by obtain ⟨_, _, rfl⟩ := h; rfl
theorem OnlyLog.cqa {s u : State} (h : OnlyLog s u) : u.cqa = s.cqa := by obtain ⟨_, _, rfl⟩ := h; rfl
theorem OnlyLog.hen {s u : State} (h : OnlyLog s u) : u.hen = s.hen := by obtain ⟨_, _, rfl⟩ := h; rfl
theorem OnlyLog.thr {s u : State} (h : OnlyLog s u) : u.thr = s.thr := by obtain ⟨_, _, rfl⟩ := h; rfl
theorem OnlyLog.sat {s u : State} (h : OnlyLog s u) : u.sat = s.sat := by obtain ⟨_, _, rfl⟩ := h; rfl
theorem OnlyLog.tmu {s u : State} (h : OnlyLog s u) : u.tmu = s.tmu := by obtain ⟨_, _, rfl⟩ := h; rfl
theorem OnlyLog.cmd {s u : State} (h : OnlyLog s u) : u.cmd = s.cmd := by obtain ⟨_, _, rfl⟩ := h; rfl
theorem OnlyLog.pnt {s u : State} (h : OnlyLog s u) : u.pnt = s.pnt := by obtain ⟨_, _, rfl⟩ := h; rfl
theorem OnlyLog.red {s u : State} (h : OnlyLog s u) : u.red = s.red := by obtain ⟨_, _, rfl⟩ := h; rfl
theorem OnlyLog.safe {s u : State} (h : OnlyLog s u) : u.safe = s.safe := by obtain ⟨_, _, rfl⟩ := h; rfl
theorem OnlyLog.fio {s u : State} (h : OnlyLog s u) : u.fio = s.fio := by obtain ⟨_, _, rfl⟩ := h; rfl
theorem OnlyLog.bus {s u : State} (h : OnlyLog s u) : u.bus = s.bus := by obtain ⟨_, _, rfl⟩ := h; rfl
theorem OnlyLog.dma {s u : State} (h : OnlyLog s u) : u.dma = s.dma := by obtain ⟨_, _, rfl⟩ := h; rfl
theorem OnlyLog.keep {s u : State} (h : OnlyLog s u) : u.keep = s.keep := by obtain ⟨_, _, rfl⟩ := h; rfl
theorem OnlyLog.sys {s u : State} (h : OnlyLog s u) : u.sys = s.sys := by obtain ⟨_, _, rfl⟩ := h; rfl
theorem OnlyLog.cfg {s u : State} (h : OnlyLog s u) : u.cfg = s.cfg := by obtain ⟨_, _, rfl⟩ := h; rfl

variable (s : State)

@[simp] theorem State.event_pending (e : EvCode) (p : List Word) : (s.event e p).pending = s.pending := (onlyLog_event s e p).pending
@[simp] theorem State.event_now (e : EvCode) (p : List Word) : (s.event e p).now = s.now := (onlyLog_event s e p).now
@[simp] theorem State.event_free (e : EvCode) (p : List Word) : (s.event e p).free = s.free := (onlyLog_event s e p).free
@[simp] theorem State.event_sent (e : EvCode) (p : List Word) : (s.event e p).sent = s.sent := (onlyLog_event s e p).sent
@[simp] theorem State.event_part (e : EvCode) (p : List Word) : (s.event e p).part = s.part := (onlyLog_event s e p).part
@[simp] theorem State.event_dram (e : EvCode) (p : List Word) : (s.event e p).dram = s.dram := (onlyLog_event s e p).dram
@[simp] theorem State.event_frame (e : EvCode) (p : List Word) : (s.event e p).frame = s.frame := (onlyLog_event s e p).frame
@[simp] theorem State.event_est (e : EvCode) (p : List Word) : (s.event e p).est = s.est := (onlyLog_event s e p).est
@[simp] theorem State.event_hold (e : EvCode) (p : List Word) : (s.event e p).hold = s.hold := (onlyLog_event s e p).hold
@[simp] theorem State.event_alc (e : EvCode) (p : List Word) : (s.event e p).alc = s.alc := (onlyLog_event s e p).alc
@[simp] theorem State.event_cqa (e : EvCode) (p : List Word) : (s.event e p).cqa = s.cqa := (onlyLog_event s e p).cqa
@[simp] theorem State.event_hen (e : EvCode) (p : List Word) : (s.event e p).hen = s.hen := (onlyLog_event s e p).hen
@[simp] theorem State.event_thr (e : EvCode) (p : List Word) : (s.event e p).thr = s.thr := (onlyLog_event s e p).thr
@[simp] theorem State.event_sat (e : EvCode) (p : List Word) : (s.event e p).sat = s.sat := (onlyLog_event s e p).sat
@[simp] theorem State.event_tmu (e : EvCode) (p : List Word) : (s.event e p).tmu = s.tmu := (onlyLog_event s e p).tmu
@[simp] theorem State.event_cmd (e : EvCode) (p : List Word) : (s.event e p).cmd = s.cmd := (onlyLog_event s e p).cmd
@[simp] theorem State.event_pnt (e : EvCode) (p : List Word) : (s.event e p).pnt = s.pnt := (onlyLog_event s e p).pnt
@[simp] theorem State.event_red (e : EvCode) (p : List Word) : (s.event e p).red = s.red := (onlyLog_event s e p).red
@[simp] theorem State.event_safe (e : EvCode) (p : List Word) : (s.event e p).safe = s.safe := (onlyLog_event s e p).safe
@[simp] theorem State.event_fio (e : EvCode) (p : List Word) : (s.event e p).fio = s.fio := (onlyLog_event s e p).fio
@[simp] theorem State.event_bus (e : EvCode) (p : List Word) : (s.event e p).bus = s.bus := (onlyLog_event s e p).bus
@[simp] theorem State.event_dma (e : EvCode) (p : List Word) : (s.event e p).dma = s.dma := (onlyLog_event s e p).dma
@[simp] theorem State.event_keep (e : EvCode) (p : List Word) : (s.event e p).keep = s.keep := (onlyLog_event s e p).keep
@[simp] theorem State.event_sys (e : EvCode) (p : List Word) : (s.event e p).sys = s.sys := (onlyLog_event s e p).sys
@[simp] theorem State.event_cfg (e : EvCode) (p : List Word) : (s.event e p).cfg = s.cfg := (onlyLog_event s e p).cfg
@[simp] theorem State.submitRec_pending (e : EvCode) (c : Nat) (p : List Word) (k : Option (Nat × Nat)) : (s.submitRec e c p k).pending = s.pending := (onlyLog_submitRec s e c p k).pending
@[simp] theorem State.submitRec_now (e : EvCode) (c : Nat) (p : List Word) (k : Option (Nat × Nat)) : (s.submitRec e c p k).now = s.now := (onlyLog_submitRec s e c p k).now
@[simp] theorem State.submitRec_free (e : EvCode) (c : Nat) (p : List Word) (k : Option (Nat × Nat)) : (s.submitRec e c p k).free = s.free := (onlyLog_submitRec s e c p k).free
@[simp] theorem State.submitRec_sent (e : EvCode) (c : Nat) (p : List Word) (k : Option (Nat × Nat)) : (s.submitRec e c p k).sent = s.sent := (onlyLog_submitRec s e c p k).sent
@[simp] theorem State.submitRec_part (e : EvCode) (c : Nat) (p : List Word) (k : Option (Nat × Nat)) : (s.submitRec e c p k).part = s.part := (onlyLog_submitRec s e c p k).part
@[simp] theorem State.submitRec_dram (e : EvCode) (c : Nat) (p : List Word) (k : Option (Nat × Nat)) : (s.submitRec e c p k).dram = s.dram := (onlyLog_submitRec s e c p k).dram
@[simp] theorem State.submitRec_frame (e : EvCode) (c : Nat) (p : List Word) (k : Option (Nat × Nat)) : (s.submitRec e c p k).frame = s.frame := (onlyLog_submitRec s e c p k).frame
@[simp] theorem State.submitRec_est (e : EvCode) (c : Nat) (p : List Word) (k : Option (Nat × Nat)) : (s.submitRec e c p k).est = s.est := (onlyLog_submitRec s e c p k).est
@[simp] theorem State.submitRec_hold (e : EvCode) (c : Nat) (p : List Word) (k : Option (Nat × Nat)) : (s.submitRec e c p k).hold = s.hold := (onlyLog_submitRec s e c p k).hold
@[simp] theorem State.submitRec_alc (e : EvCode) (c : Nat) (p : List Word) (k : Option (Nat × Nat)) : (s.submitRec e c p k).alc = s.alc := (onlyLog_submitRec s e c p k).alc
@[simp] theorem State.submitRec_cqa (e : EvCode) (c : Nat) (p : List Word) (k : Option (Nat × Nat)) : (s.submitRec e c p k).cqa = s.cqa := (onlyLog_submitRec s e c p k).cqa
@[simp] theorem State.submitRec_hen (e : EvCode) (c : Nat) (p : List Word) (k : Option (Nat × Nat)) : (s.submitRec e c p k).hen = s.hen := (onlyLog_submitRec s e c p k).hen
@[simp] theorem State.submitRec_thr (e : EvCode) (c : Nat) (p : List Word) (k : Option (Nat × Nat)) : (s.submitRec e c p k).thr = s.thr := (onlyLog_submitRec s e c p k).thr
@[simp] theorem State.submitRec_sat (e : EvCode) (c : Nat) (p : List Word) (k : Option (Nat × Nat)) : (s.submitRec e c p k).sat = s.sat := (onlyLog_submitRec s e c p k).sat
@[simp] theorem State.submitRec_tmu (e : EvCode) (c : Nat) (p : List Word) (k : Option (Nat × Nat)) : (s.submitRec e c p k).tmu = s.tmu := (onlyLog_submitRec s e c p k).tmu
@[simp] theorem State.submitRec_cmd (e : EvCode) (c : Nat) (p : List Word) (k : Option (Nat × Nat)) : (s.submitRec e c p k).cmd = s.cmd := (onlyLog_submitRec s e c p k).cmd
@[simp] theorem State.submitRec_pnt (e : EvCode) (c : Nat) (p : List Word) (k : Option (Nat × Nat)) : (s.submitRec e c p k).pnt = s.pnt := (onlyLog_submitRec s e c p k).pnt
@[simp] theorem State.submitRec_red (e : EvCode) (c : Nat) (p : List Word) (k : Option (Nat × Nat)) : (s.submitRec e c p k).red = s.red := (onlyLog_submitRec s e c p k).red
@[simp] theorem State.submitRec_safe (e : EvCode) (c : Nat) (p : List Word) (k : Option (Nat × Nat)) : (s.submitRec e c p k).safe = s.safe := (onlyLog_submitRec s e c p k).safe
@[simp] theorem State.submitRec_fio (e : EvCode) (c : Nat) (p : List Word) (k : Option (Nat × Nat)) : (s.submitRec e c p k).fio = s.fio := (onlyLog_submitRec s e c p k).fio
@[simp] theorem State.submitRec_bus (e : EvCode) (c : Nat) (p : List Word) (k : Option (Nat × Nat)) : (s.submitRec e c p k).bus = s.bus := (onlyLog_submitRec s e c p k).bus
@[simp] theorem State.submitRec_dma (e : EvCode) (c : Nat) (p : List Word) (k : Option (Nat × Nat)) : (s.submitRec e c p k).dma = s.dma := (onlyLog_submitRec s e c p k).dma
@[simp] theorem State.submitRec_keep (e : EvCode) (c : Nat) (p : List Word) (k : Option (Nat × Nat)) : (s.submitRec e c p k).keep = s.keep := (onlyLog_submitRec s e c p k).keep
@[simp] theorem State.submitRec_sys (e : EvCode) (c : Nat) (p : List Word) (k : Option (Nat × Nat)) : (s.submitRec e c p k).sys = s.sys := (onlyLog_submitRec s e c p k).sys
@[simp] theorem State.submitRec_cfg (e : EvCode) (c : Nat) (p : List Word) (k : Option (Nat × Nat)) : (s.submitRec e c p k).cfg = s.cfg := (onlyLog_submitRec s e c p k).cfg
@[simp] theorem State.raiseAlarm_pending (e : EvCode) (i : Nat) (p : List Word) : (s.raiseAlarm e i p).pending = s.pending := (onlyLog_raiseAlarm s e i p).pending
@[simp] theorem State.raiseAlarm_now (e : EvCode) (i : Nat) (p : List Word) : (s.raiseAlarm e i p).now = s.now := (onlyLog_raiseAlarm s e i p).now
@[simp] theorem State.raiseAlarm_free (e : EvCode) (i : Nat) (p : List Word) : (s.raiseAlarm e i p).free = s.free := (onlyLog_raiseAlarm s e i p).free
@[simp] theorem State.raiseAlarm_sent (e : EvCode) (i : Nat) (p : List Word) : (s.raiseAlarm e i p).sent = s.sent := (onlyLog_raiseAlarm s e i p).sent
@[simp] theorem State.raiseAlarm_part (e : EvCode) (i : Nat) (p : List Word) : (s.raiseAlarm e i p).part = s.part := (onlyLog_raiseAlarm s e i p).part
@[simp] theorem State.raiseAlarm_dram (e : EvCode) (i : Nat) (p : List Word) : (s.raiseAlarm e i p).dram = s.dram := (onlyLog_raiseAlarm s e i p).dram
@[simp] theorem State.raiseAlarm_frame (e : EvCode) (i : Nat) (p : List Word) : (s.raiseAlarm e i p).frame = s.frame := (onlyLog_raiseAlarm s e i p).frame
@[simp] theorem State.raiseAlarm_est (e : EvCode) (i : Nat) (p : List Word) : (s.raiseAlarm e i p).est = s.est := (onlyLog_raiseAlarm s e i p).est
@[simp] theorem State.raiseAlarm_hold (e : EvCode) (i : Nat) (p : List Word) : (s.raiseAlarm e i p).hold = s.hold := (onlyLog_raiseAlarm s e i p).hold
@[simp] theorem State.raiseAlarm_alc (e : EvCode) (i : Nat) (p : List Word) : (s.raiseAlarm e i p).alc = s.alc := (onlyLog_raiseAlarm s e i p).alc
@[simp] theorem State.raiseAlarm_cqa (e : EvCode) (i : Nat) (p : List Word) : (s.raiseAlarm e i p).cqa = s.cqa := (onlyLog_raiseAlarm s e i p).cqa
@[simp] theorem State.raiseAlarm_hen (e : EvCode) (i : Nat) (p : List Word) : (s.raiseAlarm e i p).hen = s.hen := (onlyLog_raiseAlarm s e i p).hen
@[simp] theorem State.raiseAlarm_thr (e : EvCode) (i : Nat) (p : List Word) : (s.raiseAlarm e i p).thr = s.thr := (onlyLog_raiseAlarm s e i p).thr
@[simp] theorem State.raiseAlarm_sat (e : EvCode) (i : Nat) (p : List Word) : (s.raiseAlarm e i p).sat = s.sat := (onlyLog_raiseAlarm s e i p).sat
@[simp] theorem State.raiseAlarm_tmu (e : EvCode) (i : Nat) (p : List Word) : (s.raiseAlarm e i p).tmu = s.tmu := (onlyLog_raiseAlarm s e i p).tmu
@[simp] theorem State.raiseAlarm_cmd (e : EvCode) (i : Nat) (p : List Word) : (s.raiseAlarm e i p).cmd = s.cmd := (onlyLog_raiseAlarm s e i p).cmd
@[simp] theorem State.raiseAlarm_pnt (e : EvCode) (i : Nat) (p : List Word) : (s.raiseAlarm e i p).pnt = s.pnt := (onlyLog_raiseAlarm s e i p).pnt
@[simp] theorem State.raiseAlarm_red (e : EvCode) (i : Nat) (p : List Word) : (s.raiseAlarm e i p).red = s.red := (onlyLog_raiseAlarm s e i p).red
@[simp] theorem State.raiseAlarm_safe (e : EvCode) (i : Nat) (p : List Word) : (s.raiseAlarm e i p).safe = s.safe := (onlyLog_raiseAlarm s e i p).safe
@[simp] theorem State.raiseAlarm_fio (e : EvCode) (i : Nat) (p : List Word) : (s.raiseAlarm e i p).fio = s.fio := (onlyLog_raiseAlarm s e i p).fio
@[simp] theorem State.raiseAlarm_bus (e : EvCode) (i : Nat) (p : List Word) : (s.raiseAlarm e i p).bus = s.bus := (onlyLog_raiseAlarm s e i p).bus
@[simp] theorem State.raiseAlarm_dma (e : EvCode) (i : Nat) (p : List Word) : (s.raiseAlarm e i p).dma = s.dma := (onlyLog_raiseAlarm s e i p).dma
@[simp] theorem State.raiseAlarm_keep (e : EvCode) (i : Nat) (p : List Word) : (s.raiseAlarm e i p).keep = s.keep := (onlyLog_raiseAlarm s e i p).keep
@[simp] theorem State.raiseAlarm_sys (e : EvCode) (i : Nat) (p : List Word) : (s.raiseAlarm e i p).sys = s.sys := (onlyLog_raiseAlarm s e i p).sys
@[simp] theorem State.raiseAlarm_cfg (e : EvCode) (i : Nat) (p : List Word) : (s.raiseAlarm e i p).cfg = s.cfg := (onlyLog_raiseAlarm s e i p).cfg
@[simp] theorem State.clearAlarm_pending (e : EvCode) (i : Nat) : (s.clearAlarm e i).pending = s.pending := (onlyLog_clearAlarm s e i).pending
@[simp] theorem State.clearAlarm_now (e : EvCode) (i : Nat) : (s.clearAlarm e i).now = s.now := (onlyLog_clearAlarm s e i).now
@[simp] theorem State.clearAlarm_free (e : EvCode) (i : Nat) : (s.clearAlarm e i).free = s.free := (onlyLog_clearAlarm s e i).free
@[simp] theorem State.clearAlarm_sent (e : EvCode) (i : Nat) : (s.clearAlarm e i).sent = s.sent := (onlyLog_clearAlarm s e i).sent
@[simp] theorem State.clearAlarm_part (e : EvCode) (i : Nat) : (s.clearAlarm e i).part = s.part := (onlyLog_clearAlarm s e i).part
@[simp] theorem State.clearAlarm_dram (e : EvCode) (i : Nat) : (s.clearAlarm e i).dram = s.dram := (onlyLog_clearAlarm s e i).dram
@[simp] theorem State.clearAlarm_frame (e : EvCode) (i : Nat) : (s.clearAlarm e i).frame = s.frame := (onlyLog_clearAlarm s e i).frame
@[simp] theorem State.clearAlarm_est (e : EvCode) (i : Nat) : (s.clearAlarm e i).est = s.est := (onlyLog_clearAlarm s e i).est
@[simp] theorem State.clearAlarm_hold (e : EvCode) (i : Nat) : (s.clearAlarm e i).hold = s.hold := (onlyLog_clearAlarm s e i).hold
@[simp] theorem State.clearAlarm_alc (e : EvCode) (i : Nat) : (s.clearAlarm e i).alc = s.alc := (onlyLog_clearAlarm s e i).alc
@[simp] theorem State.clearAlarm_cqa (e : EvCode) (i : Nat) : (s.clearAlarm e i).cqa = s.cqa := (onlyLog_clearAlarm s e i).cqa
@[simp] theorem State.clearAlarm_hen (e : EvCode) (i : Nat) : (s.clearAlarm e i).hen = s.hen := (onlyLog_clearAlarm s e i).hen
@[simp] theorem State.clearAlarm_thr (e : EvCode) (i : Nat) : (s.clearAlarm e i).thr = s.thr := (onlyLog_clearAlarm s e i).thr
@[simp] theorem State.clearAlarm_sat (e : EvCode) (i : Nat) : (s.clearAlarm e i).sat = s.sat := (onlyLog_clearAlarm s e i).sat
@[simp] theorem State.clearAlarm_tmu (e : EvCode) (i : Nat) : (s.clearAlarm e i).tmu = s.tmu := (onlyLog_clearAlarm s e i).tmu
@[simp] theorem State.clearAlarm_cmd (e : EvCode) (i : Nat) : (s.clearAlarm e i).cmd = s.cmd := (onlyLog_clearAlarm s e i).cmd
@[simp] theorem State.clearAlarm_pnt (e : EvCode) (i : Nat) : (s.clearAlarm e i).pnt = s.pnt := (onlyLog_clearAlarm s e i).pnt
@[simp] theorem State.clearAlarm_red (e : EvCode) (i : Nat) : (s.clearAlarm e i).red = s.red := (onlyLog_clearAlarm s e i).red
@[simp] theorem State.clearAlarm_safe (e : EvCode) (i : Nat) : (s.clearAlarm e i).safe = s.safe := (onlyLog_clearAlarm s e i).safe
@[simp] theorem State.clearAlarm_fio (e : EvCode) (i : Nat) : (s.clearAlarm e i).fio = s.fio := (onlyLog_clearAlarm s e i).fio
@[simp] theorem State.clearAlarm_bus (e : EvCode) (i : Nat) : (s.clearAlarm e i).bus = s.bus := (onlyLog_clearAlarm s e i).bus
@[simp] theorem State.clearAlarm_dma (e : EvCode) (i : Nat) : (s.clearAlarm e i).dma = s.dma := (onlyLog_clearAlarm s e i).dma
@[simp] theorem State.clearAlarm_keep (e : EvCode) (i : Nat) : (s.clearAlarm e i).keep = s.keep := (onlyLog_clearAlarm s e i).keep
@[simp] theorem State.clearAlarm_sys (e : EvCode) (i : Nat) : (s.clearAlarm e i).sys = s.sys := (onlyLog_clearAlarm s e i).sys
@[simp] theorem State.clearAlarm_cfg (e : EvCode) (i : Nat) : (s.clearAlarm e i).cfg = s.cfg := (onlyLog_clearAlarm s e i).cfg
@[simp] theorem State.alarmIf_pending (c : Bool) (e : EvCode) (i : Nat) : (s.alarmIf c e i).pending = s.pending := (onlyLog_alarmIf s c e i).pending
@[simp] theorem State.alarmIf_now (c : Bool) (e : EvCode) (i : Nat) : (s.alarmIf c e i).now = s.now := (onlyLog_alarmIf s c e i).now
@[simp] theorem State.alarmIf_free (c : Bool) (e : EvCode) (i : Nat) : (s.alarmIf c e i).free = s.free := (onlyLog_alarmIf s c e i).free
@[simp] theorem State.alarmIf_sent (c : Bool) (e : EvCode) (i : Nat) : (s.alarmIf c e i).sent = s.sent := (onlyLog_alarmIf s c e i).sent
@[simp] theorem State.alarmIf_part (c : Bool) (e : EvCode) (i : Nat) : (s.alarmIf c e i).part = s.part := (onlyLog_alarmIf s c e i).part
@[simp] theorem State.alarmIf_dram (c : Bool) (e : EvCode) (i : Nat) : (s.alarmIf c e i).dram = s.dram := (onlyLog_alarmIf s c e i).dram
@[simp] theorem State.alarmIf_frame (c : Bool) (e : EvCode) (i : Nat) : (s.alarmIf c e i).frame = s.frame := (onlyLog_alarmIf s c e i).frame
@[simp] theorem State.alarmIf_est (c : Bool) (e : EvCode) (i : Nat) : (s.alarmIf c e i).est = s.est := (onlyLog_alarmIf s c e i).est
@[simp] theorem State.alarmIf_hold (c : Bool) (e : EvCode) (i : Nat) : (s.alarmIf c e i).hold = s.hold := (onlyLog_alarmIf s c e i).hold
@[simp] theorem State.alarmIf_alc (c : Bool) (e : EvCode) (i : Nat) : (s.alarmIf c e i).alc = s.alc := (onlyLog_alarmIf s c e i).alc
@[simp] theorem State.alarmIf_cqa (c : Bool) (e : EvCode) (i : Nat) : (s.alarmIf c e i).cqa = s.cqa := (onlyLog_alarmIf s c e i).cqa
@[simp] theorem State.alarmIf_hen (c : Bool) (e : EvCode) (i : Nat) : (s.alarmIf c e i).hen = s.hen := (onlyLog_alarmIf s c e i).hen
@[simp] theorem State.alarmIf_thr (c : Bool) (e : EvCode) (i : Nat) : (s.alarmIf c e i).thr = s.thr := (onlyLog_alarmIf s c e i).thr
@[simp] theorem State.alarmIf_sat (c : Bool) (e : EvCode) (i : Nat) : (s.alarmIf c e i).sat = s.sat := (onlyLog_alarmIf s c e i).sat
@[simp] theorem State.alarmIf_tmu (c : Bool) (e : EvCode) (i : Nat) : (s.alarmIf c e i).tmu = s.tmu := (onlyLog_alarmIf s c e i).tmu
@[simp] theorem State.alarmIf_cmd (c : Bool) (e : EvCode) (i : Nat) : (s.alarmIf c e i).cmd = s.cmd := (onlyLog_alarmIf s c e i).cmd
@[simp] theorem State.alarmIf_pnt (c : Bool) (e : EvCode) (i : Nat) : (s.alarmIf c e i).pnt = s.pnt := (onlyLog_alarmIf s c e i).pnt
@[simp] theorem State.alarmIf_red (c : Bool) (e : EvCode) (i : Nat) : (s.alarmIf c e i).red = s.red := (onlyLog_alarmIf s c e i).red
@[simp] theorem State.alarmIf_safe (c : Bool) (e : EvCode) (i : Nat) : (s.alarmIf c e i).safe = s.safe := (onlyLog_alarmIf s c e i).safe
@[simp] theorem State.alarmIf_fio (c : Bool) (e : EvCode) (i : Nat) : (s.alarmIf c e i).fio = s.fio := (onlyLog_alarmIf s c e i).fio
@[simp] theorem State.alarmIf_bus (c : Bool) (e : EvCode) (i : Nat) : (s.alarmIf c e i).bus = s.bus := (onlyLog_alarmIf s c e i).bus
@[simp] theorem State.alarmIf_dma (c : Bool) (e : EvCode) (i : Nat) : (s.alarmIf c e i).dma = s.dma := (onlyLog_alarmIf s c e i).dma
@[simp] theorem State.alarmIf_keep (c : Bool) (e : EvCode) (i : Nat) : (s.alarmIf c e i).keep = s.keep := (onlyLog_alarmIf s c e i).keep
@[simp] theorem State.alarmIf_sys (c : Bool) (e : EvCode) (i : Nat) : (s.alarmIf c e i).sys = s.sys := (onlyLog_alarmIf s c e i).sys
@[simp] theorem State.alarmIf_cfg (c : Bool) (e : EvCode) (i : Nat) : (s.alarmIf c e i).cfg = s.cfg := (onlyLog_alarmIf s c e i).cfg
@[simp] theorem State.disableRec_pending (e : EvCode) (a b c d f g : Nat) : (s.disableRec e a b c d f g).pending = s.pending := (onlyLog_disableRec s e a b c d f g).pending
@[simp] theorem State.disableRec_now (e : EvCode) (a b c d f g : Nat) : (s.disableRec e a b c d f g).now = s.now := (onlyLog_disableRec s e a b c d f g).now
@[simp] theorem State.disableRec_free (e : EvCode) (a b c d f g : Nat) : (s.disableRec e a b c d f g).free = s.free := (onlyLog_disableRec s e a b c d f g).free
@[simp] theorem State.disableRec_sent (e : EvCode) (a b c d f g : Nat) : (s.disableRec e a b c d f g).sent = s.sent := (onlyLog_disableRec s e a b c d f g).sent
@[simp] theorem State.disableRec_part (e : EvCode) (a b c d f g : Nat) : (s.disableRec e a b c d f g).part = s.part := (onlyLog_disableRec s e a b c d f g).part
@[simp] theorem State.disableRec_dram (e : EvCode) (a b c d f g : Nat) : (s.disableRec e a b c d f g).dram = s.dram := (onlyLog_disableRec s e a b c d f g).dram
@[simp] theorem State.disableRec_frame (e : EvCode) (a b c d f g : Nat) : (s.disableRec e a b c d f g).frame = s.frame := (onlyLog_disableRec s e a b c d f g).frame
@[simp] theorem State.disableRec_est (e : EvCode) (a b c d f g : Nat) : (s.disableRec e a b c d f g).est = s.est := (onlyLog_disableRec s e a b c d f g).est
@[simp] theorem State.disableRec_hold (e : EvCode) (a b c d f g : Nat) : (s.disableRec e a b c d f g).hold = s.hold := (onlyLog_disableRec s e a b c d f g).hold
@[simp] theorem State.disableRec_alc (e : EvCode) (a b c d f g : Nat) : (s.disableRec e a b c d f g).alc = s.alc := (onlyLog_disableRec s e a b c d f g).alc
@[simp] theorem State.disableRec_cqa (e : EvCode) (a b c d f g : Nat) : (s.disableRec e a b c d f g).cqa = s.cqa := (onlyLog_disableRec s e a b c d f g).cqa
@[simp] theorem State.disableRec_hen (e : EvCode) (a b c d f g : Nat) : (s.disableRec e a b c d f g).hen = s.hen := (onlyLog_disableRec s e a b c d f g).hen
@[simp] theorem State.disableRec_thr (e : EvCode) (a b c d f g : Nat) : (s.disableRec e a b c d f g).thr = s.thr := (onlyLog_disableRec s e a b c d f g).thr
@[simp] theorem State.disableRec_sat (e : EvCode) (a b c d f g : Nat) : (s.disableRec e a b c d f g).sat = s.sat := (onlyLog_disableRec s e a b c d f g).sat
@[simp] theorem State.disableRec_tmu (e : EvCode) (a b c d f g : Nat) : (s.disableRec e a b c d f g).tmu = s.tmu := (onlyLog_disableRec s e a b c d f g).tmu
@[simp] theorem State.disableRec_cmd (e : EvCode) (a b c d f g : Nat) : (s.disableRec e a b c d f g).cmd = s.cmd := (onlyLog_disableRec s e a b c d f g).cmd
@[simp] theorem State.disableRec_pnt (e : EvCode) (a b c d f g : Nat) : (s.disableRec e a b c d f g).pnt = s.pnt := (onlyLog_disableRec s e a b c d f g).pnt
@[simp] theorem State.disableRec_red (e : EvCode) (a b c d f g : Nat) : (s.disableRec e a b c d f g).red = s.red := (onlyLog_disableRec s e a b c d f g).red
@[simp] theorem State.disableRec_safe (e : EvCode) (a b c d f g : Nat) : (s.disableRec e a b c d f g).safe = s.safe := (onlyLog_disableRec s e a b c d f g).safe
@[simp] theorem State.disableRec_fio (e : EvCode) (a b c d f g : Nat) : (s.disableRec e a b c d f g).fio = s.fio := (onlyLog_disableRec s e a b c d f g).fio
@[simp] theorem State.disableRec_bus (e : EvCode) (a b c d f g : Nat) : (s.disableRec e a b c d f g).bus = s.bus := (onlyLog_disableRec s e a b c d f g).bus
@[simp] theorem State.disableRec_dma (e : EvCode) (a b c d f g : Nat) : (s.disableRec e a b c d f g).dma = s.dma := (onlyLog_disableRec s e a b c d f g).dma
@[simp] theorem State.disableRec_keep (e : EvCode) (a b c d f g : Nat) : (s.disableRec e a b c d f g).keep = s.keep := (onlyLog_disableRec s e a b c d f g).keep
@[simp] theorem State.disableRec_sys (e : EvCode) (a b c d f g : Nat) : (s.disableRec e a b c d f g).sys = s.sys := (onlyLog_disableRec s e a b c d f g).sys
@[simp] theorem State.disableRec_cfg (e : EvCode) (a b c d f g : Nat) : (s.disableRec e a b c d f g).cfg = s.cfg := (onlyLog_disableRec s e a b c d f g).cfg
@[simp] theorem State.direct_pending (e : EvCode) (c : Nat) (p : List Word) : (s.direct e c p).pending = s.pending := (onlyLog_direct s e c p).pending
@[simp] theorem State.direct_now (e : EvCode) (c : Nat) (p : List Word) : (s.direct e c p).now = s.now := (onlyLog_direct s e c p).now
@[simp] theorem State.direct_free (e : EvCode) (c : Nat) (p : List Word) : (s.direct e c p).free = s.free := (onlyLog_direct s e c p).free
@[simp] theorem State.direct_sent (e : EvCode) (c : Nat) (p : List Word) : (s.direct e c p).sent = s.sent := (onlyLog_direct s e c p).sent
@[simp] theorem State.direct_part (e : EvCode) (c : Nat) (p : List Word) : (s.direct e c p).part = s.part := (onlyLog_direct s e c p).part
@[simp] theorem State.direct_dram (e : EvCode) (c : Nat) (p : List Word) : (s.direct e c p).dram = s.dram := (onlyLog_direct s e c p).dram
@[simp] theorem State.direct_frame (e : EvCode) (c : Nat) (p : List Word) : (s.direct e c p).frame = s.frame := (onlyLog_direct s e c p).frame
@[simp] theorem State.direct_est (e : EvCode) (c : Nat) (p : List Word) : (s.direct e c p).est = s.est := (onlyLog_direct s e c p).est
@[simp] theorem State.direct_hold (e : EvCode) (c : Nat) (p : List Word) : (s.direct e c p).hold = s.hold := (onlyLog_direct s e c p).hold
@[simp] theorem State.direct_alc (e : EvCode) (c : Nat) (p : List Word) : (s.direct e c p).alc = s.alc := (onlyLog_direct s e c p).alc
@[simp] theorem State.direct_cqa (e : EvCode) (c : Nat) (p : List Word) : (s.direct e c p).cqa = s.cqa := (onlyLog_direct s e c p).cqa
@[simp] theorem State.direct_hen (e : EvCode) (c : Nat) (p : List Word) : (s.direct e c p).hen = s.hen := (onlyLog_direct s e c p).hen
@[simp] theorem State.direct_thr (e : EvCode) (c : Nat) (p : List Word) : (s.direct e c p).thr = s.thr := (onlyLog_direct s e c p).thr
@[simp] theorem State.direct_sat (e : EvCode) (c : Nat) (p : List Word) : (s.direct e c p).sat = s.sat := (onlyLog_direct s e c p).sat
@[simp] theorem State.direct_tmu (e : EvCode) (c : Nat) (p : List Word) : (s.direct e c p).tmu = s.tmu := (onlyLog_direct s e c p).tmu
@[simp] theorem State.direct_cmd (e : EvCode) (c : Nat) (p : List Word) : (s.direct e c p).cmd = s.cmd := (onlyLog_direct s e c p).cmd
@[simp] theorem State.direct_pnt (e : EvCode) (c : Nat) (p : List Word) : (s.direct e c p).pnt = s.pnt := (onlyLog_direct s e c p).pnt
@[simp] theorem State.direct_red (e : EvCode) (c : Nat) (p : List Word) : (s.direct e c p).red = s.red := (onlyLog_direct s e c p).red
@[simp] theorem State.direct_safe (e : EvCode) (c : Nat) (p : List Word) : (s.direct e c p).safe = s.safe := (onlyLog_direct s e c p).safe
@[simp] theorem State.direct_fio (e : EvCode) (c : Nat) (p : List Word) : (s.direct e c p).fio = s.fio := (onlyLog_direct s e c p).fio
@[simp] theorem State.direct_bus (e : EvCode) (c : Nat) (p : List Word) : (s.direct e c p).bus = s.bus := (onlyLog_direct s e c p).bus
@[simp] theorem State.direct_dma (e : EvCode) (c : Nat) (p : List Word) : (s.direct e c p).dma = s.dma := (onlyLog_direct s e c p).dma
@[simp] theorem State.direct_keep (e : EvCode) (c : Nat) (p : List Word) : (s.direct e c p).keep = s.keep := (onlyLog_direct s e c p).keep
@[simp] theorem State.direct_sys (e : EvCode) (c : Nat) (p : List Word) : (s.direct e c p).sys = s.sys := (onlyLog_direct s e c p).sys
@[simp] theorem State.direct_cfg (e : EvCode) (c : Nat) (p : List Word) : (s.direct e c p).cfg = s.cfg := (onlyLog_direct s e c p).cfg

/-! ### Readings -/

theorem OnlyLog.dom {s u : State} (h : OnlyLog s u) (d : Nat) : u.dom d = s.dom d := by obtain ⟨_, _, rfl⟩ := h; rfl
theorem OnlyLog.par {s u : State} (h : OnlyLog s u) (p : Param) (i : Nat) : u.par p i = s.par p i := by obtain ⟨_, _, rfl⟩ := h; rfl
theorem OnlyLog.parN {s u : State} (h : OnlyLog s u) (p : Param) (i : Nat) : u.parN p i = s.parN p i := by obtain ⟨_, _, rfl⟩ := h; rfl
theorem OnlyLog.point {s u : State} (h : OnlyLog s u) (k : Nat) : u.point k = s.point k := by obtain ⟨_, _, rfl⟩ := h; rfl
theorem OnlyLog.tch {s u : State} (h : OnlyLog s u) (k : Nat) : u.tch k = s.tch k := by obtain ⟨_, _, rfl⟩ := h; rfl
theorem OnlyLog.ach {s u : State} (h : OnlyLog s u) (k : Nat) : u.ach k = s.ach k := by obtain ⟨_, _, rfl⟩ := h; rfl
theorem OnlyLog.sect {s u : State} (h : OnlyLog s u) (k : Nat) : u.sect k = s.sect k := by obtain ⟨_, _, rfl⟩ := h; rfl
theorem OnlyLog.cl {s u : State} (h : OnlyLog s u) (k : Nat) : u.cl k = s.cl k := by obtain ⟨_, _, rfl⟩ := h; rfl
theorem OnlyLog.hq {s u : State} (h : OnlyLog s u) (k : Nat) : u.hq k = s.hq k := by obtain ⟨_, _, rfl⟩ := h; rfl
theorem OnlyLog.dch {s u : State} (h : OnlyLog s u) (k : Nat) : u.dch k = s.dch k := by obtain ⟨_, _, rfl⟩ := h; rfl
theorem OnlyLog.port {s u : State} (h : OnlyLog s u) (k : Nat) : u.port k = s.port k := by obtain ⟨_, _, rfl⟩ := h; rfl
theorem OnlyLog.ser {s u : State} (h : OnlyLog s u) (k : Nat) : u.ser k = s.ser k := by obtain ⟨_, _, rfl⟩ := h; rfl
theorem OnlyLog.fch {s u : State} (h : OnlyLog s u) (k : Nat) : u.fch k = s.fch k := by obtain ⟨_, _, rfl⟩ := h; rfl
theorem OnlyLog.fgr {s u : State} (h : OnlyLog s u) (k : Nat) : u.fgr k = s.fgr k := by obtain ⟨_, _, rfl⟩ := h; rfl
theorem OnlyLog.vc {s u : State} (h : OnlyLog s u) (k : Nat) : u.vc k = s.vc k := by obtain ⟨_, _, rfl⟩ := h; rfl
theorem OnlyLog.pulse {s u : State} (h : OnlyLog s u) (k : Nat) : u.pulse k = s.pulse k := by obtain ⟨_, _, rfl⟩ := h; rfl
theorem OnlyLog.slot {s u : State} (h : OnlyLog s u) (k : Nat) : u.slot k = s.slot k := by obtain ⟨_, _, rfl⟩ := h; rfl
theorem OnlyLog.ant {s u : State} (h : OnlyLog s u) (k : Nat) : u.ant k = s.ant k := by obtain ⟨_, _, rfl⟩ := h; rfl
theorem OnlyLog.sessOf {s u : State} (h : OnlyLog s u) (k : Nat) : u.sess? k = s.sess? k := by obtain ⟨_, _, rfl⟩ := h; rfl
theorem OnlyLog.imgOf {s u : State} (h : OnlyLog s u) (k : Nat) : u.img? k = s.img? k := by obtain ⟨_, _, rfl⟩ := h; rfl
@[simp] theorem State.event_dom (e : EvCode) (p : List Word) (d0 : Nat) : (s.event e p).dom d0 = s.dom d0 := (onlyLog_event s e p).dom d0
@[simp] theorem State.event_par (e : EvCode) (p : List Word) (p0 : Param) (i0 : Nat) : (s.event e p).par p0 i0 = s.par p0 i0 := (onlyLog_event s e p).par p0 i0
@[simp] theorem State.event_parN (e : EvCode) (p : List Word) (p0 : Param) (i0 : Nat) : (s.event e p).parN p0 i0 = s.parN p0 i0 := (onlyLog_event s e p).parN p0 i0
@[simp] theorem State.event_point (e : EvCode) (p : List Word) (k0 : Nat) : (s.event e p).point k0 = s.point k0 := (onlyLog_event s e p).point k0
@[simp] theorem State.event_tch (e : EvCode) (p : List Word) (k0 : Nat) : (s.event e p).tch k0 = s.tch k0 := (onlyLog_event s e p).tch k0
@[simp] theorem State.event_ach (e : EvCode) (p : List Word) (k0 : Nat) : (s.event e p).ach k0 = s.ach k0 := (onlyLog_event s e p).ach k0
@[simp] theorem State.event_sect (e : EvCode) (p : List Word) (k0 : Nat) : (s.event e p).sect k0 = s.sect k0 := (onlyLog_event s e p).sect k0
@[simp] theorem State.event_cl (e : EvCode) (p : List Word) (k0 : Nat) : (s.event e p).cl k0 = s.cl k0 := (onlyLog_event s e p).cl k0
@[simp] theorem State.event_hq (e : EvCode) (p : List Word) (k0 : Nat) : (s.event e p).hq k0 = s.hq k0 := (onlyLog_event s e p).hq k0
@[simp] theorem State.event_dch (e : EvCode) (p : List Word) (k0 : Nat) : (s.event e p).dch k0 = s.dch k0 := (onlyLog_event s e p).dch k0
@[simp] theorem State.event_port (e : EvCode) (p : List Word) (k0 : Nat) : (s.event e p).port k0 = s.port k0 := (onlyLog_event s e p).port k0
@[simp] theorem State.event_ser (e : EvCode) (p : List Word) (k0 : Nat) : (s.event e p).ser k0 = s.ser k0 := (onlyLog_event s e p).ser k0
@[simp] theorem State.event_fch (e : EvCode) (p : List Word) (k0 : Nat) : (s.event e p).fch k0 = s.fch k0 := (onlyLog_event s e p).fch k0
@[simp] theorem State.event_fgr (e : EvCode) (p : List Word) (k0 : Nat) : (s.event e p).fgr k0 = s.fgr k0 := (onlyLog_event s e p).fgr k0
@[simp] theorem State.event_vc (e : EvCode) (p : List Word) (k0 : Nat) : (s.event e p).vc k0 = s.vc k0 := (onlyLog_event s e p).vc k0
@[simp] theorem State.event_pulse (e : EvCode) (p : List Word) (k0 : Nat) : (s.event e p).pulse k0 = s.pulse k0 := (onlyLog_event s e p).pulse k0
@[simp] theorem State.event_slot (e : EvCode) (p : List Word) (k0 : Nat) : (s.event e p).slot k0 = s.slot k0 := (onlyLog_event s e p).slot k0
@[simp] theorem State.event_ant (e : EvCode) (p : List Word) (k0 : Nat) : (s.event e p).ant k0 = s.ant k0 := (onlyLog_event s e p).ant k0
@[simp] theorem State.event_sessOf (e : EvCode) (p : List Word) (k0 : Nat) : (s.event e p).sess? k0 = s.sess? k0 := (onlyLog_event s e p).sessOf k0
@[simp] theorem State.event_imgOf (e : EvCode) (p : List Word) (k0 : Nat) : (s.event e p).img? k0 = s.img? k0 := (onlyLog_event s e p).imgOf k0
@[simp] theorem State.submitRec_dom (e : EvCode) (c : Nat) (p : List Word) (k : Option (Nat × Nat)) (d0 : Nat) : (s.submitRec e c p k).dom d0 = s.dom d0 := (onlyLog_submitRec s e c p k).dom d0
@[simp] theorem State.submitRec_par (e : EvCode) (c : Nat) (p : List Word) (k : Option (Nat × Nat)) (p0 : Param) (i0 : Nat) : (s.submitRec e c p k).par p0 i0 = s.par p0 i0 := (onlyLog_submitRec s e c p k).par p0 i0
@[simp] theorem State.submitRec_parN (e : EvCode) (c : Nat) (p : List Word) (k : Option (Nat × Nat)) (p0 : Param) (i0 : Nat) : (s.submitRec e c p k).parN p0 i0 = s.parN p0 i0 := (onlyLog_submitRec s e c p k).parN p0 i0
@[simp] theorem State.submitRec_point (e : EvCode) (c : Nat) (p : List Word) (k : Option (Nat × Nat)) (k0 : Nat) : (s.submitRec e c p k).point k0 = s.point k0 := (onlyLog_submitRec s e c p k).point k0
@[simp] theorem State.submitRec_tch (e : EvCode) (c : Nat) (p : List Word) (k : Option (Nat × Nat)) (k0 : Nat) : (s.submitRec e c p k).tch k0 = s.tch k0 := (onlyLog_submitRec s e c p k).tch k0
@[simp] theorem State.submitRec_ach (e : EvCode) (c : Nat) (p : List Word) (k : Option (Nat × Nat)) (k0 : Nat) : (s.submitRec e c p k).ach k0 = s.ach k0 := (onlyLog_submitRec s e c p k).ach k0
@[simp] theorem State.submitRec_sect (e : EvCode) (c : Nat) (p : List Word) (k : Option (Nat × Nat)) (k0 : Nat) : (s.submitRec e c p k).sect k0 = s.sect k0 := (onlyLog_submitRec s e c p k).sect k0
@[simp] theorem State.submitRec_cl (e : EvCode) (c : Nat) (p : List Word) (k : Option (Nat × Nat)) (k0 : Nat) : (s.submitRec e c p k).cl k0 = s.cl k0 := (onlyLog_submitRec s e c p k).cl k0
@[simp] theorem State.submitRec_hq (e : EvCode) (c : Nat) (p : List Word) (k : Option (Nat × Nat)) (k0 : Nat) : (s.submitRec e c p k).hq k0 = s.hq k0 := (onlyLog_submitRec s e c p k).hq k0
@[simp] theorem State.submitRec_dch (e : EvCode) (c : Nat) (p : List Word) (k : Option (Nat × Nat)) (k0 : Nat) : (s.submitRec e c p k).dch k0 = s.dch k0 := (onlyLog_submitRec s e c p k).dch k0
@[simp] theorem State.submitRec_port (e : EvCode) (c : Nat) (p : List Word) (k : Option (Nat × Nat)) (k0 : Nat) : (s.submitRec e c p k).port k0 = s.port k0 := (onlyLog_submitRec s e c p k).port k0
@[simp] theorem State.submitRec_ser (e : EvCode) (c : Nat) (p : List Word) (k : Option (Nat × Nat)) (k0 : Nat) : (s.submitRec e c p k).ser k0 = s.ser k0 := (onlyLog_submitRec s e c p k).ser k0
@[simp] theorem State.submitRec_fch (e : EvCode) (c : Nat) (p : List Word) (k : Option (Nat × Nat)) (k0 : Nat) : (s.submitRec e c p k).fch k0 = s.fch k0 := (onlyLog_submitRec s e c p k).fch k0
@[simp] theorem State.submitRec_fgr (e : EvCode) (c : Nat) (p : List Word) (k : Option (Nat × Nat)) (k0 : Nat) : (s.submitRec e c p k).fgr k0 = s.fgr k0 := (onlyLog_submitRec s e c p k).fgr k0
@[simp] theorem State.submitRec_vc (e : EvCode) (c : Nat) (p : List Word) (k : Option (Nat × Nat)) (k0 : Nat) : (s.submitRec e c p k).vc k0 = s.vc k0 := (onlyLog_submitRec s e c p k).vc k0
@[simp] theorem State.submitRec_pulse (e : EvCode) (c : Nat) (p : List Word) (k : Option (Nat × Nat)) (k0 : Nat) : (s.submitRec e c p k).pulse k0 = s.pulse k0 := (onlyLog_submitRec s e c p k).pulse k0
@[simp] theorem State.submitRec_slot (e : EvCode) (c : Nat) (p : List Word) (k : Option (Nat × Nat)) (k0 : Nat) : (s.submitRec e c p k).slot k0 = s.slot k0 := (onlyLog_submitRec s e c p k).slot k0
@[simp] theorem State.submitRec_ant (e : EvCode) (c : Nat) (p : List Word) (k : Option (Nat × Nat)) (k0 : Nat) : (s.submitRec e c p k).ant k0 = s.ant k0 := (onlyLog_submitRec s e c p k).ant k0
@[simp] theorem State.submitRec_sessOf (e : EvCode) (c : Nat) (p : List Word) (k : Option (Nat × Nat)) (k0 : Nat) : (s.submitRec e c p k).sess? k0 = s.sess? k0 := (onlyLog_submitRec s e c p k).sessOf k0
@[simp] theorem State.submitRec_imgOf (e : EvCode) (c : Nat) (p : List Word) (k : Option (Nat × Nat)) (k0 : Nat) : (s.submitRec e c p k).img? k0 = s.img? k0 := (onlyLog_submitRec s e c p k).imgOf k0
@[simp] theorem State.raiseAlarm_dom (e : EvCode) (i : Nat) (p : List Word) (d0 : Nat) : (s.raiseAlarm e i p).dom d0 = s.dom d0 := (onlyLog_raiseAlarm s e i p).dom d0
@[simp] theorem State.raiseAlarm_par (e : EvCode) (i : Nat) (p : List Word) (p0 : Param) (i0 : Nat) : (s.raiseAlarm e i p).par p0 i0 = s.par p0 i0 := (onlyLog_raiseAlarm s e i p).par p0 i0
@[simp] theorem State.raiseAlarm_parN (e : EvCode) (i : Nat) (p : List Word) (p0 : Param) (i0 : Nat) : (s.raiseAlarm e i p).parN p0 i0 = s.parN p0 i0 := (onlyLog_raiseAlarm s e i p).parN p0 i0
@[simp] theorem State.raiseAlarm_point (e : EvCode) (i : Nat) (p : List Word) (k0 : Nat) : (s.raiseAlarm e i p).point k0 = s.point k0 := (onlyLog_raiseAlarm s e i p).point k0
@[simp] theorem State.raiseAlarm_tch (e : EvCode) (i : Nat) (p : List Word) (k0 : Nat) : (s.raiseAlarm e i p).tch k0 = s.tch k0 := (onlyLog_raiseAlarm s e i p).tch k0
@[simp] theorem State.raiseAlarm_ach (e : EvCode) (i : Nat) (p : List Word) (k0 : Nat) : (s.raiseAlarm e i p).ach k0 = s.ach k0 := (onlyLog_raiseAlarm s e i p).ach k0
@[simp] theorem State.raiseAlarm_sect (e : EvCode) (i : Nat) (p : List Word) (k0 : Nat) : (s.raiseAlarm e i p).sect k0 = s.sect k0 := (onlyLog_raiseAlarm s e i p).sect k0
@[simp] theorem State.raiseAlarm_cl (e : EvCode) (i : Nat) (p : List Word) (k0 : Nat) : (s.raiseAlarm e i p).cl k0 = s.cl k0 := (onlyLog_raiseAlarm s e i p).cl k0
@[simp] theorem State.raiseAlarm_hq (e : EvCode) (i : Nat) (p : List Word) (k0 : Nat) : (s.raiseAlarm e i p).hq k0 = s.hq k0 := (onlyLog_raiseAlarm s e i p).hq k0
@[simp] theorem State.raiseAlarm_dch (e : EvCode) (i : Nat) (p : List Word) (k0 : Nat) : (s.raiseAlarm e i p).dch k0 = s.dch k0 := (onlyLog_raiseAlarm s e i p).dch k0
@[simp] theorem State.raiseAlarm_port (e : EvCode) (i : Nat) (p : List Word) (k0 : Nat) : (s.raiseAlarm e i p).port k0 = s.port k0 := (onlyLog_raiseAlarm s e i p).port k0
@[simp] theorem State.raiseAlarm_ser (e : EvCode) (i : Nat) (p : List Word) (k0 : Nat) : (s.raiseAlarm e i p).ser k0 = s.ser k0 := (onlyLog_raiseAlarm s e i p).ser k0
@[simp] theorem State.raiseAlarm_fch (e : EvCode) (i : Nat) (p : List Word) (k0 : Nat) : (s.raiseAlarm e i p).fch k0 = s.fch k0 := (onlyLog_raiseAlarm s e i p).fch k0
@[simp] theorem State.raiseAlarm_fgr (e : EvCode) (i : Nat) (p : List Word) (k0 : Nat) : (s.raiseAlarm e i p).fgr k0 = s.fgr k0 := (onlyLog_raiseAlarm s e i p).fgr k0
@[simp] theorem State.raiseAlarm_vc (e : EvCode) (i : Nat) (p : List Word) (k0 : Nat) : (s.raiseAlarm e i p).vc k0 = s.vc k0 := (onlyLog_raiseAlarm s e i p).vc k0
@[simp] theorem State.raiseAlarm_pulse (e : EvCode) (i : Nat) (p : List Word) (k0 : Nat) : (s.raiseAlarm e i p).pulse k0 = s.pulse k0 := (onlyLog_raiseAlarm s e i p).pulse k0
@[simp] theorem State.raiseAlarm_slot (e : EvCode) (i : Nat) (p : List Word) (k0 : Nat) : (s.raiseAlarm e i p).slot k0 = s.slot k0 := (onlyLog_raiseAlarm s e i p).slot k0
@[simp] theorem State.raiseAlarm_ant (e : EvCode) (i : Nat) (p : List Word) (k0 : Nat) : (s.raiseAlarm e i p).ant k0 = s.ant k0 := (onlyLog_raiseAlarm s e i p).ant k0
@[simp] theorem State.raiseAlarm_sessOf (e : EvCode) (i : Nat) (p : List Word) (k0 : Nat) : (s.raiseAlarm e i p).sess? k0 = s.sess? k0 := (onlyLog_raiseAlarm s e i p).sessOf k0
@[simp] theorem State.raiseAlarm_imgOf (e : EvCode) (i : Nat) (p : List Word) (k0 : Nat) : (s.raiseAlarm e i p).img? k0 = s.img? k0 := (onlyLog_raiseAlarm s e i p).imgOf k0
@[simp] theorem State.clearAlarm_dom (e : EvCode) (i : Nat) (d0 : Nat) : (s.clearAlarm e i).dom d0 = s.dom d0 := (onlyLog_clearAlarm s e i).dom d0
@[simp] theorem State.clearAlarm_par (e : EvCode) (i : Nat) (p0 : Param) (i0 : Nat) : (s.clearAlarm e i).par p0 i0 = s.par p0 i0 := (onlyLog_clearAlarm s e i).par p0 i0
@[simp] theorem State.clearAlarm_parN (e : EvCode) (i : Nat) (p0 : Param) (i0 : Nat) : (s.clearAlarm e i).parN p0 i0 = s.parN p0 i0 := (onlyLog_clearAlarm s e i).parN p0 i0
@[simp] theorem State.clearAlarm_point (e : EvCode) (i : Nat) (k0 : Nat) : (s.clearAlarm e i).point k0 = s.point k0 := (onlyLog_clearAlarm s e i).point k0
@[simp] theorem State.clearAlarm_tch (e : EvCode) (i : Nat) (k0 : Nat) : (s.clearAlarm e i).tch k0 = s.tch k0 := (onlyLog_clearAlarm s e i).tch k0
@[simp] theorem State.clearAlarm_ach (e : EvCode) (i : Nat) (k0 : Nat) : (s.clearAlarm e i).ach k0 = s.ach k0 := (onlyLog_clearAlarm s e i).ach k0
@[simp] theorem State.clearAlarm_sect (e : EvCode) (i : Nat) (k0 : Nat) : (s.clearAlarm e i).sect k0 = s.sect k0 := (onlyLog_clearAlarm s e i).sect k0
@[simp] theorem State.clearAlarm_cl (e : EvCode) (i : Nat) (k0 : Nat) : (s.clearAlarm e i).cl k0 = s.cl k0 := (onlyLog_clearAlarm s e i).cl k0
@[simp] theorem State.clearAlarm_hq (e : EvCode) (i : Nat) (k0 : Nat) : (s.clearAlarm e i).hq k0 = s.hq k0 := (onlyLog_clearAlarm s e i).hq k0
@[simp] theorem State.clearAlarm_dch (e : EvCode) (i : Nat) (k0 : Nat) : (s.clearAlarm e i).dch k0 = s.dch k0 := (onlyLog_clearAlarm s e i).dch k0
@[simp] theorem State.clearAlarm_port (e : EvCode) (i : Nat) (k0 : Nat) : (s.clearAlarm e i).port k0 = s.port k0 := (onlyLog_clearAlarm s e i).port k0
@[simp] theorem State.clearAlarm_ser (e : EvCode) (i : Nat) (k0 : Nat) : (s.clearAlarm e i).ser k0 = s.ser k0 := (onlyLog_clearAlarm s e i).ser k0
@[simp] theorem State.clearAlarm_fch (e : EvCode) (i : Nat) (k0 : Nat) : (s.clearAlarm e i).fch k0 = s.fch k0 := (onlyLog_clearAlarm s e i).fch k0
@[simp] theorem State.clearAlarm_fgr (e : EvCode) (i : Nat) (k0 : Nat) : (s.clearAlarm e i).fgr k0 = s.fgr k0 := (onlyLog_clearAlarm s e i).fgr k0
@[simp] theorem State.clearAlarm_vc (e : EvCode) (i : Nat) (k0 : Nat) : (s.clearAlarm e i).vc k0 = s.vc k0 := (onlyLog_clearAlarm s e i).vc k0
@[simp] theorem State.clearAlarm_pulse (e : EvCode) (i : Nat) (k0 : Nat) : (s.clearAlarm e i).pulse k0 = s.pulse k0 := (onlyLog_clearAlarm s e i).pulse k0
@[simp] theorem State.clearAlarm_slot (e : EvCode) (i : Nat) (k0 : Nat) : (s.clearAlarm e i).slot k0 = s.slot k0 := (onlyLog_clearAlarm s e i).slot k0
@[simp] theorem State.clearAlarm_ant (e : EvCode) (i : Nat) (k0 : Nat) : (s.clearAlarm e i).ant k0 = s.ant k0 := (onlyLog_clearAlarm s e i).ant k0
@[simp] theorem State.clearAlarm_sessOf (e : EvCode) (i : Nat) (k0 : Nat) : (s.clearAlarm e i).sess? k0 = s.sess? k0 := (onlyLog_clearAlarm s e i).sessOf k0
@[simp] theorem State.clearAlarm_imgOf (e : EvCode) (i : Nat) (k0 : Nat) : (s.clearAlarm e i).img? k0 = s.img? k0 := (onlyLog_clearAlarm s e i).imgOf k0
@[simp] theorem State.alarmIf_dom (c : Bool) (e : EvCode) (i : Nat) (d0 : Nat) : (s.alarmIf c e i).dom d0 = s.dom d0 := (onlyLog_alarmIf s c e i).dom d0
@[simp] theorem State.alarmIf_par (c : Bool) (e : EvCode) (i : Nat) (p0 : Param) (i0 : Nat) : (s.alarmIf c e i).par p0 i0 = s.par p0 i0 := (onlyLog_alarmIf s c e i).par p0 i0
@[simp] theorem State.alarmIf_parN (c : Bool) (e : EvCode) (i : Nat) (p0 : Param) (i0 : Nat) : (s.alarmIf c e i).parN p0 i0 = s.parN p0 i0 := (onlyLog_alarmIf s c e i).parN p0 i0
@[simp] theorem State.alarmIf_point (c : Bool) (e : EvCode) (i : Nat) (k0 : Nat) : (s.alarmIf c e i).point k0 = s.point k0 := (onlyLog_alarmIf s c e i).point k0
@[simp] theorem State.alarmIf_tch (c : Bool) (e : EvCode) (i : Nat) (k0 : Nat) : (s.alarmIf c e i).tch k0 = s.tch k0 := (onlyLog_alarmIf s c e i).tch k0
@[simp] theorem State.alarmIf_ach (c : Bool) (e : EvCode) (i : Nat) (k0 : Nat) : (s.alarmIf c e i).ach k0 = s.ach k0 := (onlyLog_alarmIf s c e i).ach k0
@[simp] theorem State.alarmIf_sect (c : Bool) (e : EvCode) (i : Nat) (k0 : Nat) : (s.alarmIf c e i).sect k0 = s.sect k0 := (onlyLog_alarmIf s c e i).sect k0
@[simp] theorem State.alarmIf_cl (c : Bool) (e : EvCode) (i : Nat) (k0 : Nat) : (s.alarmIf c e i).cl k0 = s.cl k0 := (onlyLog_alarmIf s c e i).cl k0
@[simp] theorem State.alarmIf_hq (c : Bool) (e : EvCode) (i : Nat) (k0 : Nat) : (s.alarmIf c e i).hq k0 = s.hq k0 := (onlyLog_alarmIf s c e i).hq k0
@[simp] theorem State.alarmIf_dch (c : Bool) (e : EvCode) (i : Nat) (k0 : Nat) : (s.alarmIf c e i).dch k0 = s.dch k0 := (onlyLog_alarmIf s c e i).dch k0
@[simp] theorem State.alarmIf_port (c : Bool) (e : EvCode) (i : Nat) (k0 : Nat) : (s.alarmIf c e i).port k0 = s.port k0 := (onlyLog_alarmIf s c e i).port k0
@[simp] theorem State.alarmIf_ser (c : Bool) (e : EvCode) (i : Nat) (k0 : Nat) : (s.alarmIf c e i).ser k0 = s.ser k0 := (onlyLog_alarmIf s c e i).ser k0
@[simp] theorem State.alarmIf_fch (c : Bool) (e : EvCode) (i : Nat) (k0 : Nat) : (s.alarmIf c e i).fch k0 = s.fch k0 := (onlyLog_alarmIf s c e i).fch k0
@[simp] theorem State.alarmIf_fgr (c : Bool) (e : EvCode) (i : Nat) (k0 : Nat) : (s.alarmIf c e i).fgr k0 = s.fgr k0 := (onlyLog_alarmIf s c e i).fgr k0
@[simp] theorem State.alarmIf_vc (c : Bool) (e : EvCode) (i : Nat) (k0 : Nat) : (s.alarmIf c e i).vc k0 = s.vc k0 := (onlyLog_alarmIf s c e i).vc k0
@[simp] theorem State.alarmIf_pulse (c : Bool) (e : EvCode) (i : Nat) (k0 : Nat) : (s.alarmIf c e i).pulse k0 = s.pulse k0 := (onlyLog_alarmIf s c e i).pulse k0
@[simp] theorem State.alarmIf_slot (c : Bool) (e : EvCode) (i : Nat) (k0 : Nat) : (s.alarmIf c e i).slot k0 = s.slot k0 := (onlyLog_alarmIf s c e i).slot k0
@[simp] theorem State.alarmIf_ant (c : Bool) (e : EvCode) (i : Nat) (k0 : Nat) : (s.alarmIf c e i).ant k0 = s.ant k0 := (onlyLog_alarmIf s c e i).ant k0
@[simp] theorem State.alarmIf_sessOf (c : Bool) (e : EvCode) (i : Nat) (k0 : Nat) : (s.alarmIf c e i).sess? k0 = s.sess? k0 := (onlyLog_alarmIf s c e i).sessOf k0
@[simp] theorem State.alarmIf_imgOf (c : Bool) (e : EvCode) (i : Nat) (k0 : Nat) : (s.alarmIf c e i).img? k0 = s.img? k0 := (onlyLog_alarmIf s c e i).imgOf k0
@[simp] theorem State.disableRec_dom (e : EvCode) (a b c d f g : Nat) (d0 : Nat) : (s.disableRec e a b c d f g).dom d0 = s.dom d0 := (onlyLog_disableRec s e a b c d f g).dom d0
@[simp] theorem State.disableRec_par (e : EvCode) (a b c d f g : Nat) (p0 : Param) (i0 : Nat) : (s.disableRec e a b c d f g).par p0 i0 = s.par p0 i0 := (onlyLog_disableRec s e a b c d f g).par p0 i0
@[simp] theorem State.disableRec_parN (e : EvCode) (a b c d f g : Nat) (p0 : Param) (i0 : Nat) : (s.disableRec e a b c d f g).parN p0 i0 = s.parN p0 i0 := (onlyLog_disableRec s e a b c d f g).parN p0 i0
@[simp] theorem State.disableRec_point (e : EvCode) (a b c d f g : Nat) (k0 : Nat) : (s.disableRec e a b c d f g).point k0 = s.point k0 := (onlyLog_disableRec s e a b c d f g).point k0
@[simp] theorem State.disableRec_tch (e : EvCode) (a b c d f g : Nat) (k0 : Nat) : (s.disableRec e a b c d f g).tch k0 = s.tch k0 := (onlyLog_disableRec s e a b c d f g).tch k0
@[simp] theorem State.disableRec_ach (e : EvCode) (a b c d f g : Nat) (k0 : Nat) : (s.disableRec e a b c d f g).ach k0 = s.ach k0 := (onlyLog_disableRec s e a b c d f g).ach k0
@[simp] theorem State.disableRec_sect (e : EvCode) (a b c d f g : Nat) (k0 : Nat) : (s.disableRec e a b c d f g).sect k0 = s.sect k0 := (onlyLog_disableRec s e a b c d f g).sect k0
@[simp] theorem State.disableRec_cl (e : EvCode) (a b c d f g : Nat) (k0 : Nat) : (s.disableRec e a b c d f g).cl k0 = s.cl k0 := (onlyLog_disableRec s e a b c d f g).cl k0
@[simp] theorem State.disableRec_hq (e : EvCode) (a b c d f g : Nat) (k0 : Nat) : (s.disableRec e a b c d f g).hq k0 = s.hq k0 := (onlyLog_disableRec s e a b c d f g).hq k0
@[simp] theorem State.disableRec_dch (e : EvCode) (a b c d f g : Nat) (k0 : Nat) : (s.disableRec e a b c d f g).dch k0 = s.dch k0 := (onlyLog_disableRec s e a b c d f g).dch k0
@[simp] theorem State.disableRec_port (e : EvCode) (a b c d f g : Nat) (k0 : Nat) : (s.disableRec e a b c d f g).port k0 = s.port k0 := (onlyLog_disableRec s e a b c d f g).port k0
@[simp] theorem State.disableRec_ser (e : EvCode) (a b c d f g : Nat) (k0 : Nat) : (s.disableRec e a b c d f g).ser k0 = s.ser k0 := (onlyLog_disableRec s e a b c d f g).ser k0
@[simp] theorem State.disableRec_fch (e : EvCode) (a b c d f g : Nat) (k0 : Nat) : (s.disableRec e a b c d f g).fch k0 = s.fch k0 := (onlyLog_disableRec s e a b c d f g).fch k0
@[simp] theorem State.disableRec_fgr (e : EvCode) (a b c d f g : Nat) (k0 : Nat) : (s.disableRec e a b c d f g).fgr k0 = s.fgr k0 := (onlyLog_disableRec s e a b c d f g).fgr k0
@[simp] theorem State.disableRec_vc (e : EvCode) (a b c d f g : Nat) (k0 : Nat) : (s.disableRec e a b c d f g).vc k0 = s.vc k0 := (onlyLog_disableRec s e a b c d f g).vc k0
@[simp] theorem State.disableRec_pulse (e : EvCode) (a b c d f g : Nat) (k0 : Nat) : (s.disableRec e a b c d f g).pulse k0 = s.pulse k0 := (onlyLog_disableRec s e a b c d f g).pulse k0
@[simp] theorem State.disableRec_slot (e : EvCode) (a b c d f g : Nat) (k0 : Nat) : (s.disableRec e a b c d f g).slot k0 = s.slot k0 := (onlyLog_disableRec s e a b c d f g).slot k0
@[simp] theorem State.disableRec_ant (e : EvCode) (a b c d f g : Nat) (k0 : Nat) : (s.disableRec e a b c d f g).ant k0 = s.ant k0 := (onlyLog_disableRec s e a b c d f g).ant k0
@[simp] theorem State.disableRec_sessOf (e : EvCode) (a b c d f g : Nat) (k0 : Nat) : (s.disableRec e a b c d f g).sess? k0 = s.sess? k0 := (onlyLog_disableRec s e a b c d f g).sessOf k0
@[simp] theorem State.disableRec_imgOf (e : EvCode) (a b c d f g : Nat) (k0 : Nat) : (s.disableRec e a b c d f g).img? k0 = s.img? k0 := (onlyLog_disableRec s e a b c d f g).imgOf k0
@[simp] theorem State.direct_dom (e : EvCode) (c : Nat) (p : List Word) (d0 : Nat) : (s.direct e c p).dom d0 = s.dom d0 := (onlyLog_direct s e c p).dom d0
@[simp] theorem State.direct_par (e : EvCode) (c : Nat) (p : List Word) (p0 : Param) (i0 : Nat) : (s.direct e c p).par p0 i0 = s.par p0 i0 := (onlyLog_direct s e c p).par p0 i0
@[simp] theorem State.direct_parN (e : EvCode) (c : Nat) (p : List Word) (p0 : Param) (i0 : Nat) : (s.direct e c p).parN p0 i0 = s.parN p0 i0 := (onlyLog_direct s e c p).parN p0 i0
@[simp] theorem State.direct_point (e : EvCode) (c : Nat) (p : List Word) (k0 : Nat) : (s.direct e c p).point k0 = s.point k0 := (onlyLog_direct s e c p).point k0
@[simp] theorem State.direct_tch (e : EvCode) (c : Nat) (p : List Word) (k0 : Nat) : (s.direct e c p).tch k0 = s.tch k0 := (onlyLog_direct s e c p).tch k0
@[simp] theorem State.direct_ach (e : EvCode) (c : Nat) (p : List Word) (k0 : Nat) : (s.direct e c p).ach k0 = s.ach k0 := (onlyLog_direct s e c p).ach k0
@[simp] theorem State.direct_sect (e : EvCode) (c : Nat) (p : List Word) (k0 : Nat) : (s.direct e c p).sect k0 = s.sect k0 := (onlyLog_direct s e c p).sect k0
@[simp] theorem State.direct_cl (e : EvCode) (c : Nat) (p : List Word) (k0 : Nat) : (s.direct e c p).cl k0 = s.cl k0 := (onlyLog_direct s e c p).cl k0
@[simp] theorem State.direct_hq (e : EvCode) (c : Nat) (p : List Word) (k0 : Nat) : (s.direct e c p).hq k0 = s.hq k0 := (onlyLog_direct s e c p).hq k0
@[simp] theorem State.direct_dch (e : EvCode) (c : Nat) (p : List Word) (k0 : Nat) : (s.direct e c p).dch k0 = s.dch k0 := (onlyLog_direct s e c p).dch k0
@[simp] theorem State.direct_port (e : EvCode) (c : Nat) (p : List Word) (k0 : Nat) : (s.direct e c p).port k0 = s.port k0 := (onlyLog_direct s e c p).port k0
@[simp] theorem State.direct_ser (e : EvCode) (c : Nat) (p : List Word) (k0 : Nat) : (s.direct e c p).ser k0 = s.ser k0 := (onlyLog_direct s e c p).ser k0
@[simp] theorem State.direct_fch (e : EvCode) (c : Nat) (p : List Word) (k0 : Nat) : (s.direct e c p).fch k0 = s.fch k0 := (onlyLog_direct s e c p).fch k0
@[simp] theorem State.direct_fgr (e : EvCode) (c : Nat) (p : List Word) (k0 : Nat) : (s.direct e c p).fgr k0 = s.fgr k0 := (onlyLog_direct s e c p).fgr k0
@[simp] theorem State.direct_vc (e : EvCode) (c : Nat) (p : List Word) (k0 : Nat) : (s.direct e c p).vc k0 = s.vc k0 := (onlyLog_direct s e c p).vc k0
@[simp] theorem State.direct_pulse (e : EvCode) (c : Nat) (p : List Word) (k0 : Nat) : (s.direct e c p).pulse k0 = s.pulse k0 := (onlyLog_direct s e c p).pulse k0
@[simp] theorem State.direct_slot (e : EvCode) (c : Nat) (p : List Word) (k0 : Nat) : (s.direct e c p).slot k0 = s.slot k0 := (onlyLog_direct s e c p).slot k0
@[simp] theorem State.direct_ant (e : EvCode) (c : Nat) (p : List Word) (k0 : Nat) : (s.direct e c p).ant k0 = s.ant k0 := (onlyLog_direct s e c p).ant k0
@[simp] theorem State.direct_sessOf (e : EvCode) (c : Nat) (p : List Word) (k0 : Nat) : (s.direct e c p).sess? k0 = s.sess? k0 := (onlyLog_direct s e c p).sessOf k0
@[simp] theorem State.direct_imgOf (e : EvCode) (c : Nat) (p : List Word) (k0 : Nat) : (s.direct e c p).img? k0 = s.img? k0 := (onlyLog_direct s e c p).imgOf k0

/-! ### Which alarms stand -/

theorem alarmOn_eq {s u : State} (h : u.alarms = s.alarms) (e : EvCode) (i : Nat) : u.alarmOn e i = s.alarmOn e i := by
  unfold State.alarmOn
  rw [h]

@[simp] theorem State.takeSeq_alarms : s.takeSeq.2.alarms = s.alarms := rfl

@[simp] theorem State.storeRec_alarms (r : LogRec) : (s.storeRec r).alarms = s.alarms := by
  unfold State.storeRec State.storeSpill State.storeMram State.countDrop
  dsimp only
  repeat' split
  all_goals rfl

@[simp] theorem State.direct_alarms (e : EvCode) (c : Nat) (p : List Word) : (s.direct e c p).alarms = s.alarms := by
  unfold State.direct
  exact State.storeRec_alarms _ _

@[simp] theorem State.fireTrigger_alarms (n : Nat) (r : LogRec) : (s.fireTrigger n r).1.alarms = s.alarms := by
  unfold State.fireTrigger
  dsimp only
  repeat' split
  all_goals rfl

@[simp] theorem State.numberEntry_alarms (en : LogEntry) : (s.numberEntry en).1.alarms = s.alarms := by
  unfold State.numberEntry
  dsimp only
  split
  · rfl
  · exact State.fireTrigger_alarms _ _ _

@[simp] theorem State.enqueue_alarms (en : LogEntry) : (s.enqueue en).alarms = s.alarms := by
  unfold State.enqueue State.pushEntry State.countQdrop State.noteQueue
  dsimp only
  repeat' split
  all_goals rfl

theorem State.floodCheck_alarmOn (e' : EvCode) (i : Nat) (h : e' ≠ .LOG_FLOOD) : s.floodCheck.alarmOn e' i = s.alarmOn e' i := by
  unfold State.floodCheck
  split
  · refine (alarmOn_eq (State.enqueue_alarms _ _) e' i).trans ?_
    unfold State.alarmOn
    simp [List.any_append, Ne.symm h]
  · rfl

/-- A submission changes no alarm but LOG_FLOOD. -/
theorem State.submitRec_alarmOn (e : EvCode) (c : Nat) (p : List Word) (k : Option (Nat × Nat)) (e' : EvCode) (i : Nat)
    (h : e' ≠ .LOG_FLOOD) : (s.submitRec e c p k).alarmOn e' i = s.alarmOn e' i := by
  unfold State.submitRec
  split
  · rfl
  · split
    · exact alarmOn_eq (by simp) e' i
    · dsimp only
      split
      · exact alarmOn_eq (by simp) e' i
      · exact (State.floodCheck_alarmOn _ e' i h).trans (alarmOn_eq (State.enqueue_alarms _ _) e' i)

theorem State.event_alarmOn (e : EvCode) (p : List Word) (e' : EvCode) (i : Nat) (h : e' ≠ .LOG_FLOOD) :
    (s.event e p).alarmOn e' i = s.alarmOn e' i := State.submitRec_alarmOn s e _ p none e' i h

theorem State.disableRec_alarmOn (e : EvCode) (a b c d f g : Nat) (e' : EvCode) (i : Nat) (h : e' ≠ .LOG_FLOOD) :
    (s.disableRec e a b c d f g).alarmOn e' i = s.alarmOn e' i := State.submitRec_alarmOn s e _ _ none e' i h

/-- An alarm raised stands, and no other changes but LOG_FLOOD. -/
theorem State.raiseAlarm_alarmOn (e : EvCode) (i : Nat) (p : List Word) (e' : EvCode) (j : Nat) (h : e' ≠ .LOG_FLOOD) :
    (s.raiseAlarm e i p).alarmOn e' j = (decide ((e, i) = (e', j)) || s.alarmOn e' j) := by
  unfold State.raiseAlarm
  split
  · rename_i k
    by_cases g : (e, i) = (e', j)
    · obtain ⟨rfl, rfl⟩ := Prod.mk.injEq .. ▸ g
      simp [k]
    · simp [g]
  · rw [State.submitRec_alarmOn _ _ _ _ _ _ _ h]
    unfold State.alarmOn
    simp [List.any_append, Bool.or_comm]

/-- An alarm cleared does not stand, and no other changes but LOG_FLOOD. -/
theorem State.clearAlarm_alarmOn (e : EvCode) (i : Nat) (e' : EvCode) (j : Nat) (h : e' ≠ .LOG_FLOOD) :
    (s.clearAlarm e i).alarmOn e' j = (decide ((e, i) ≠ (e', j)) && s.alarmOn e' j) := by
  unfold State.clearAlarm
  split
  · rw [State.submitRec_alarmOn _ _ _ _ _ _ _ h]
    unfold State.alarmOn State.dropAlarm
    by_cases g : (e, i) = (e', j)
    · obtain ⟨rfl, rfl⟩ := Prod.mk.injEq .. ▸ g
      simp
    · rw [Bool.eq_iff_iff]
      simp only [List.any_eq_true, List.mem_filter, decide_eq_true_eq, ne_eq, Bool.and_eq_true, g, not_false_iff, true_and]
      constructor
      · rintro ⟨x, ⟨a, _⟩, c⟩
        exact ⟨x, a, c⟩
      · rintro ⟨x, a, c⟩
        exact ⟨x, ⟨a, fun d => g (d.symm.trans c)⟩, c⟩
  · rename_i k
    by_cases g : (e, i) = (e', j)
    · obtain ⟨rfl, rfl⟩ := Prod.mk.injEq .. ▸ g
      simpa using k
    · simp [g]

end Sys2Proof.Machine
end

