-- ==== Sys2Proof/Tests/Slice0.lean ====
section
/-!
SUPPORT. Tests: the refusals of WellFormed, one-step tests whose values come from the spec's words and examples, and for every statement with
hypotheses a theorem that meets the hypotheses of each of its clauses together.
-/
namespace Sys2Proof.Tests
open Sys2Proof.Machine

set_option maxRecDepth 100000
set_option Elab.async false

/-- A session of a service client on the service port, with every right. -/
def desk : Session := { num := 1, client := 7, role := .service, auth := true, iface := .svc }

/-- A unit with every domain powered, that holds pair authority and has `desk` open. -/
def unit : State := { State.reset with keep.powered := 4095, cmd.sessions := [desk], cmd.pairAuth := true, cmd.replayDone := true, now := 10 }

/-- A heartbeat message with the given bytes set and its check value right. R393. -/
def beat (l : List (Nat × Byte)) : List Byte :=
  let h := l.foldl (fun h e => h.set e.1 e.2) ([0x48, 0x53, 1] ++ List.replicate 57 0)
  h ++ leBytes 4 (crc32c h)

/-- A CAN frame with its data and end-to-end check value. R151, R255. -/
def canMsg (prio func idx src : Nat) (d : List Byte) : CanFrame :=
  let id := prio * 2 ^ 26 + func * 65536 + idx * 256 + src
  { id := id, data := d ++ leBytes 2 (crc16 0xFFFF (leBytes 4 id ++ d)) }

/-- A job descriptor of one problem with its operands, result and status at the given addresses. R213. -/
def henDesc (i o st : Nat) : List Byte :=
  [1, 0, 0, 0, 1, 0, 1, 0, 0, 0, 0, 0] ++ List.replicate 12 0 ++ leBytes 8 i ++ leBytes 8 o ++ leBytes 8 st ++ leBytes 4 32 ++ leBytes 4 32 ++ List.replicate 8 0

/-- A command packet of session 1 with its CRC trailer. R335, R337. -/
def packet : List Byte :=
  let h := leBytes 2 0x5843 ++ [1, 0] ++ leBytes 4 7 ++ leBytes 4 1 ++ leBytes 4 1 ++ leBytes 2 0x0D01 ++ List.replicate 14 0
  h ++ trailer none h

/-- An RTCM 3 frame of two bytes with its check value. -/
def rtcm : List Byte := [0xD3, 0, 2, 0x43, 0x20] ++ (leBytes 3 (crc24q [0xD3, 0, 2, 0x43, 0x20])).reverse

theorem test_wf_refuses_a :
    ([
    .domainOff 0 12, .domainRunning 0 12, .registerWrite 0 .app0 0x50000000 0, .stickyRegisterRead 0 .app0 0x50000000,
    .dramRegionViolation 0 .app0 0x280000000, .dramEccError 0 0x280000000 false .none_, .frameClockStep 0 2, .refTimeoutExpiry 0 28,
    .refTrialComplete 0 28, .excursionClearTimer 0 4, .powerEnvelopeMessage 0 5 0 { }, .powerEnvelopeMessage 0 0 0 { }, .pwrSourceStale 0 5,
    .pwrSourceStale 0 0, .pwrFreshCountReached 0 5, .pwrFreshCountReached 0 0, .pwrLimitCount 0 5, .pwrLimitCount 0 0,
    .cqaAlarmDelayReached 0 128, .cqaAlarmDelayReached 0 0, .cqaClearTimeReached 0 128, .cqaClearTimeReached 0 0, .henSubHiWrite 0 4 .app0 0,
    .henProblemEnd 0 2 false, .henSuspensionPoint 0 2 false, .henJobDeadline 0 4 0 [], .henQCancelWrite 0 4 0 [], .henQEnClear 0 4, .henQPop 0 4,
    .henClusterEnClear 0 2, .henSramError 0 2 false, .henClusterStop 0 2, .henDrainDone 0 2, .sequencerSlice 0 25 { }, .sequencerSlice 0 0 { },
    .thrSealWrite 0 25, .thrSealWrite 0 0, .thrShadowWrite 0 25 0 0, .thrShadowWrite 0 0 0 0, .thrWithdraw 0 25, .thrWithdraw 0 0,
    .thrCtrlClear 0 25, .thrCtrlClear 0 0, .thrCtrlEnWrite 0 25 false, .thrCtrlEnWrite 0 0 false, .thrFeedbackFrame 0 5 0 { }] : List Instr).all (fun i => i.wf == false) = true := by decide

theorem test_wf_refuses_b :
    ([
    .thrFeedbackFrame 0 0 0 { }, .thrFeedback2Frame 0 5 0 { }, .thrFeedback2Frame 0 0 0 { }, .thrFbTimeout 0 25, .thrFbTimeout 0 0,
    .thrAzFollowExpiry 0 25, .thrAzFollowExpiry 0 0, .thrAzWrongDirExpiry 0 25, .thrAzWrongDirExpiry 0 0, .thrRudderFollowExpiry 0 25,
    .thrRudderFollowExpiry 0 0, .thrTHighExpiry 0 25, .thrTHighExpiry 0 0, .thrTDevExpiry 0 25, .thrTDevExpiry 0 0, .thrAngDisagreeExpiry 0 25,
    .thrAngDisagreeExpiry 0 0, .thrNotReadyRecovery 0 25, .thrNotReadyRecovery 0 0, .thrDegradedRecovery 0 25, .thrDegradedRecovery 0 0,
    .antOpenDetect 0 5, .antOpenDetect 0 0, .antShort 0 5, .antShort 0 0, .antBiasRetry 0 5 false, .antBiasRetry 0 0 false,
    .antGeometryExclude 0 5, .antGeometryExclude 0 0, .ptpSyncReceived 0 2 0 0 0 0 0 0, .ptpDelayResponse 0 2 0, .ptpAnnounceReceived 0 2 { },
    .ptpAnnounceTimeout 0 2 0, .ptpSyncTimeout 0 2, .vcLock 0 2, .vcStep 0 2, .fallbackReturnTimer 0 2, .timeLoRead 0 .app0 4,
    .captureEvent 0 0x0061 false, .captureEntryAged 0 8, .capFifoData0Read 0 8, .capFifoData1Read 0 8, .pulseArm 0 6 0, .pulseDisarm 0 6,
    .pulseOutputFire 0 6, .pulseWidthEnd 0 6] : List Instr).all (fun i => i.wf == false) = true := by decide

theorem test_wf_refuses_c :
    ([
    .producerWrite 0 0 512 0 0, .producerTimeout 0 512, .pointTimeout 0 131072, .heartbeatReceived 0 3 [], .leaseGrantReceived 0 3 [],
    .roleRelayFaultDetect 0 3, .roleRelayFaultDetect 0 0, .uidStrapChange 0 4, .safeInputEdge 0 9 false false, .safeInputEdge 0 0 false false,
    .testPulseCheck 0 9 false false, .testPulseCheck 0 0 false false, .discrepancyExpiry 0 9, .discrepancyExpiry 0 0, .stsDelayExpiry 0 5,
    .stsDelayExpiry 0 0, .stsOffPulse 0 5 false false, .stsOffPulse 0 0 false false, .brakeSetSpeedReached 0 5, .brakeSetSpeedReached 0 0,
    .brakeTestDue 0 5, .brakeTestDue 0 0, .brakeTestThrust 0 5, .brakeTestThrust 0 0, .brakeTestThrustEnd 0 5, .brakeTestThrustEnd 0 0,
    .brakeTestResult 0 5 0 0, .brakeTestResult 0 0 0 0, .sltViolation 0 5, .sltViolation 0 0, .safetyOutputFault 0 16,
    .safetyEncoderFault 0 9 false, .safetyEncoderFault 0 0 false, .fioInputEdge 0 97 0 0 0, .fioInputEdge 0 0 0 0 0, .fioWireBreak 0 97 0,
    .fioWireBreak 0 0 0, .fioWireBreakClear 0 97 0 0, .fioWireBreakClear 0 0 0 0, .fioOutputSample 0 97 0 0, .fioOutputSample 0 0 0 0,
    .fioOvercurrentRetry 0 97, .fioOvercurrentRetry 0 0, .fioGroupOverload 0 9, .fioGroupOverload 0 0, .fioSupplyStateChange 0 9 0 0] : List Instr).all (fun i => i.wf == false) = true := by decide

theorem test_wf_refuses_d :
    ([
    .fioSupplyStateChange 0 0 0 0, .fioRestoreSwitch 0 9, .fioRestoreSwitch 0 0, .fioPulseEnd 0 97, .fioPulseEnd 0 0,
    .canFrameReceived 0 5 0 { }, .canFrameReceived 0 0 0 { }, .canTimedFrameDue 0 5 63 false, .canTimedFrameDue 0 0 63 false,
    .canTimedFrameDue 0 4 64 false, .canTxAttemptEnd 0 5 .success, .canTxAttemptEnd 0 0 .success, .canFrameExpiry 0 5 63, .canFrameExpiry 0 0 63,
    .canFrameExpiry 0 4 64, .canBusOff 0 5, .canBusOff 0 0, .canRecoverComplete 0 5, .canRecoverComplete 0 0, .canRecoverTimeout 0 5,
    .canRecoverTimeout 0 0, .canDetectDwellEnd 0 5, .canDetectDwellEnd 0 0, .canNodeForget 0 5 0, .canNodeForget 0 0 0,
    .serialSentence 0 13 0 0 [], .serialSentence 0 0 0 0 [], .serialBinaryFrame 0 13 0 0 [], .serialBinaryFrame 0 0 0 0 [],
    .serialTxSentence 0 13 0, .serialTxSentence 0 0 0, .dmaStart 0 32, .dmaEnClear 0 32, .dmaTrigger 0 4, .dmaTrigger 0 0,
    .dmaDescriptorEnd 0 32 false, .resetNRelease 0 4, .coldStart 0 4 0 0 { }, .imgTrialEnd 0 12, .domainStartFailure 0 12,
    .vlInputRestored 0 3 0, .canReceiveError 0 5 0 0 false 0 false, .canReceiveError 0 0 0 0 false 0 false, .ptpTransmitInterval 0 2 0 0] : List Instr).all (fun i => i.wf == false) = true := by decide

theorem test_wf_admits_a :
    ([
    .domainOff 0 11, .domainRunning 0 11, .registerWrite 0 .app0 0x4FFFFFFF 0, .stickyRegisterRead 0 .app0 0x4FFFFFFF,
    .dramRegionViolation 0 .app0 0x27FFFFFFF, .dramEccError 0 0x27FFFFFFF false .none_, .frameClockStep 0 1, .refTimeoutExpiry 0 27,
    .refTrialComplete 0 27, .excursionClearTimer 0 3, .powerEnvelopeMessage 0 4 0 { }, .pwrSourceStale 0 4, .pwrFreshCountReached 0 4,
    .pwrLimitCount 0 4, .cqaAlarmDelayReached 0 127, .cqaClearTimeReached 0 127, .henSubHiWrite 0 3 .app0 0, .henProblemEnd 0 1 false,
    .henSuspensionPoint 0 1 false, .henJobDeadline 0 3 0 [], .henQCancelWrite 0 3 0 [], .henQEnClear 0 3, .henQPop 0 3, .henClusterEnClear 0 1,
    .henSramError 0 1 false, .henClusterStop 0 1, .henDrainDone 0 1, .sequencerSlice 0 24 { }, .thrSealWrite 0 24, .thrShadowWrite 0 24 0 0,
    .thrWithdraw 0 24, .thrCtrlClear 0 24, .thrCtrlEnWrite 0 24 false, .thrFeedbackFrame 0 4 0 { }, .thrFeedback2Frame 0 4 0 { },
    .thrFbTimeout 0 24, .thrAzFollowExpiry 0 24, .thrAzWrongDirExpiry 0 24, .thrRudderFollowExpiry 0 24, .thrTHighExpiry 0 24,
    .thrTDevExpiry 0 24, .thrAngDisagreeExpiry 0 24, .thrNotReadyRecovery 0 24, .thrDegradedRecovery 0 24, .antOpenDetect 0 4, .antShort 0 4,
    .antBiasRetry 0 4 false, .antGeometryExclude 0 4, .ptpSyncReceived 0 1 0 0 0 0 0 0, .ptpDelayResponse 0 1 0, .ptpAnnounceReceived 0 1 { },
    .ptpAnnounceTimeout 0 1 0, .ptpSyncTimeout 0 1, .vcLock 0 1, .vcStep 0 1, .fallbackReturnTimer 0 1, .timeLoRead 0 .app0 3,
    .captureEvent 0 0x0702 false, .captureEntryAged 0 7] : List Instr).all (fun i => i.wf == true) = true := by decide

theorem test_wf_admits_b :
    ([
    .capFifoData0Read 0 7, .capFifoData1Read 0 7, .pulseArm 0 5 0, .pulseDisarm 0 5, .pulseOutputFire 0 5, .pulseWidthEnd 0 5,
    .producerWrite 0 0 511 0 0, .producerTimeout 0 511, .pointTimeout 0 131071, .heartbeatReceived 0 2 [], .leaseGrantReceived 0 2 [],
    .roleRelayFaultDetect 0 2, .uidStrapChange 0 3, .safeInputEdge 0 8 false false, .testPulseCheck 0 8 false false, .discrepancyExpiry 0 8,
    .stsDelayExpiry 0 4, .stsOffPulse 0 4 false false, .brakeSetSpeedReached 0 4, .brakeTestDue 0 4, .brakeTestThrust 0 4,
    .brakeTestThrustEnd 0 4, .brakeTestResult 0 4 0 0, .sltViolation 0 4, .safetyOutputFault 0 15, .safetyEncoderFault 0 8 false,
    .fioInputEdge 0 96 0 0 0, .fioWireBreak 0 96 0, .fioWireBreakClear 0 96 0 0, .fioOutputSample 0 96 0 0, .fioOvercurrentRetry 0 96,
    .fioGroupOverload 0 8, .fioSupplyStateChange 0 8 0 0, .fioRestoreSwitch 0 8, .fioPulseEnd 0 96, .canFrameReceived 0 4 0 { },
    .canTimedFrameDue 0 4 63 false, .canTxAttemptEnd 0 4 .success, .canFrameExpiry 0 4 63, .canBusOff 0 4, .canRecoverComplete 0 4,
    .canRecoverTimeout 0 4, .canDetectDwellEnd 0 4, .canNodeForget 0 4 0, .serialSentence 0 12 0 0 [], .serialBinaryFrame 0 12 0 0 [],
    .serialTxSentence 0 12 0, .dmaStart 0 31, .dmaEnClear 0 31, .dmaTrigger 0 3, .dmaDescriptorEnd 0 31 false, .resetNRelease 0 3,
    .coldStart 0 3 0 0 { }, .imgTrialEnd 0 0x80, .domainStartFailure 0 0x80, .vlInputRestored 0 2 0, .canReceiveError 0 4 0 0 false 0 false,
    .ptpTransmitInterval 0 1 0 0] : List Instr).all (fun i => i.wf == true) = true := by decide


/-- Whether a meaning answers a next state of which a test holds. -/
def after (r : Res) (p : State → Bool) : Bool :=
  match r with
  | .next u => p u
  | _ => false

/-- R337: the check value of the packet trailer's CRC over the ASCII string 123456789. -/
theorem test_crc32c_check : crc32c [49, 50, 51, 52, 53, 54, 55, 56, 57] = 0xE3069283 := by decide +kernel

/-- spec/02: the frame that starts at 2,118,000,000,000,000,000 ns, and the low 32 bits of its number. -/
theorem test_frame_number :
    2118000000000000000 / frameNs = 105900000000 ∧ wN 105900000000 = 2820784896 := by decide +kernel

/-- R342's hash: SHA-256 of the three bytes abc, by its standard. -/
theorem test_sha256_abc : (sha256 [97, 98, 99]).take 4 = [0xBA, 0x78, 0x16, 0xBF] := by decide +kernel

/-- Single precision 1.0 in little-endian bytes; a NaN is no number. -/
theorem test_f32 : fldF? [0, 0, 0x80, 0x3F] 0 = some 1 ∧ fldF? [0, 0, 0xC0, 0x7F] 0 = none := by decide +kernel

/-- R455: an input of mode 1 closes at 15 V and 2 mA, keeps its level below, and opens at 5 V or below 0.5 mA. -/
theorem test_input_level :
    inputLevel 1 false 15 2 = true ∧ inputLevel 1 false (149 / 10) 2 = false ∧ inputLevel 1 true (149 / 10) 2 = true ∧
    inputLevel 1 true 5 2 = false ∧ inputLevel 1 true 10 (2 / 5) = false ∧ inputLevel 2 false 11 2 = true := by decide +kernel

/-- R491: a sentence with its checksum is taken, one with a wrong checksum is not. -/
theorem test_sentence :
    sentenceBody true [36, 65, 66, 67, 68, 69, 42, 52, 49, 13, 10] = some [65, 66, 67, 68, 69] ∧
    sentenceBody true [36, 65, 66, 67, 68, 69, 42, 52, 50, 13, 10] = none := by decide +kernel

/-- R13: a byte written to DRAM is read back, and the byte beside it stays. -/
theorem test_memory : (Memory.set [] 0x180000000 7).get 0x180000000 = 7 ∧ (Memory.set [] 0x180000000 7).get 0x180000001 = 0 := by
  decide +kernel

/-- On an empty queue the block idles. -/
theorem test_idle : step unit = .next unit := rfl

/-- The command in front is taken, and the rest of the queue stays. -/
theorem test_front : after (step { unit with pending := [.henDrainDone 0 0, .frameStart 5] }) (fun u => u.pending = [.frameStart 5]) = true := by
  decide +kernel

/-- No word spells a command: the table gives no bits. -/
theorem test_decode_none : decodeTableWord 8 0 = none ∧ decodeTableWord 32 0xFFFFFFFF = none := by decide

/-- R19, R213: the partition's write of queue 0 is a bus error, counted with its address. -/
theorem test_partition_bus_error :
    after (exec (.henSubHiWrite 0 0 .part 5) unit) (fun u => u.part.busErrors = 1 ∧ u.part.lastBusError = 0x40030104) = true := by
  decide +kernel

/-- R227: what the first free entries of a queue hold moves up by a POP. -/
theorem test_pop : after (exec (.henQPop 0 1) { unit with hen.queues := unit.hen.queues.modify 1 (fun x => { x with done := [{ }, { }] }) })
    (fun u => (u.hq 1).done.length = 1) = true := by decide +kernel

/-- R223: a corrected SRAM error is counted and nothing stops. -/
theorem test_sram_corrected : after (exec (.henSramError 0 1 true) unit) (fun u => u.hen.corr = 1 ∧ (u.cl 1).inService) = true := by
  decide +kernel

/-- R220: EN cleared returns the queue's jobs not yet begun. -/
theorem test_queue_disable : after (exec (.henQEnClear 0 2) unit) (fun u => !(u.hq 2).en) = true := by decide +kernel

/-- R221: a cluster that CLn_EN takes out of service takes no new work. -/
theorem test_cluster_disable : after (exec (.henClusterEnClear 0 0) unit) (fun u => !(u.cl 0).inService) = true := by decide +kernel

/-- R238: SEAL locks the shadow set; a write after it is refused and flagged. -/
theorem test_sealed_write :
    after (exec (.thrShadowWrite 0 1 0x010 9) { unit with thr.chans := unit.thr.chans.modify 0 (fun x => { x with sealed := true }) })
      (fun u => (u.tch 1).wrSealed ∧ (u.tch 1).shT = 0) = true := by decide +kernel

/-- R505: a start of a channel whose EN is clear is refused. -/
theorem test_dma_refused : after (exec (.dmaStart 0 3) { unit with dma.chans := unit.dma.chans.modify 3 (fun c => { c with en := false }) })
    (fun u => (u.dch 3).refused) = true := by decide +kernel

/-- R340: a number that is not the next one is no command of the session. -/
theorem test_wrong_number : after (exec (.keepalive 0 1 2 []) unit) (fun u => u.sent = []) = true := by decide +kernel

/-- R390: a heartbeat of the unit's own ID is a conflict. -/
theorem test_uid_conflict : after (exec (.heartbeatReceived 0 0 (beat [(3, 0)])) { unit with red.unit := 0 })
    (fun u => u.alarmOn .UID_CONFLICT ∧ u.red.health = 0) = true := by decide +kernel

/-- R611, R613: with the network domain off the cages are disabled and the 10 MHz output is not driven. -/
theorem test_pins_off : (State.reset.pins).txDisLow = false ∧ (State.reset.pins).j9 = false := by decide +kernel

/-! ### The hypotheses of the statements can be met -/

/-- The hypotheses of each clause of AllocationAndConsequenceTimers can be met. -/
theorem wit_AllocationAndConsequenceTimers :
    (∃ (s : State), s.parN Param.ALC_REPEAT_LIMIT ≤ s.alc.repeatRun) ∧
    (∃ (s : State), s.alc.repeatRun < s.parN Param.ALC_REPEAT_LIMIT) ∧
    (∃ (t : Nat) (s : State) (a : Nat), s.alc.satOver = some a ∧ a + s.parNs Param.ALC_SAT_TIME ≤ max s.now t) ∧
    (∃ (t : Nat) (s : State) (a : Nat), s.alc.satOver = none ∧ s.alc.satUnder = some a ∧ a + s.parNs Param.ALC_SAT_TIME ≤ max s.now t) ∧
    (∃ (s : State), s.alc.satOver = none ∧ s.alc.satUnder = none) ∧
    (∃ (t : Nat) (s : State), s.alc.savedAt + 600000000000 ≤ max s.now t ∧ s.frame.running = true) ∧
    (∃ (t : Nat) (s : State), max s.now t < s.alc.savedAt + 600000000000) ∧
    (∃ (k : Nat), between 1 k 127 = false) ∧
    (∃ (k : Nat) (s : State), between 1 k 127 = true ∧ (s.caseSt k).timerRuns = true ∧ (s.caseSt k).inAlarm = false
      ∧ s.frames Param.CQA_ALARM_DELAY ≤ (s.caseSt k).breachTimer) ∧
    (∃ (k : Nat) (s : State), between 1 k 127 = true ∧ (s.caseSt k).timerRuns = false) ∧
    (∃ (k : Nat) (s : State), between 1 k 127 = true ∧ (s.caseSt k).inAlarm = true ∧ s.frames Param.CQA_CLEAR_TIME ≤ (s.caseSt k).clearRun) ∧
    (∃ (k : Nat) (s : State), between 1 k 127 = true ∧ (s.caseSt k).inAlarm = false) ∧
    (∃ (s : State), ∃ (x : CaseSt), x ∈ s.cqa.cases ∧ x.res.state = 2 ∧ s.frames Param.CQA_UNPROVEN_DELAY ≤ x.unprovenRun) ∧
    (∃ (s : State), ∀ (x : CaseSt), x ∈ s.cqa.cases → x.res.state ≠ 2) ∧
    (∃ (s : State), s.parB Param.CQA_ENV_ON = true ∧ s.alcPoses = true ∧ s.frame.running = true ∧ (s.cqa.envFrame = none
      ∨ ∃ (f : Nat), s.cqa.envFrame = some f ∧ 50 ≤ f)) ∧
    (∃ (s : State), s.parB Param.CQA_ENV_ON = false) ∧
    (∃ (s : State) (f : Nat), s.cqa.envFrame = some f ∧ 49 ≤ f) ∧
    (∃ (s : State) (f : Nat), s.cqa.envFrame = some f ∧ f < 49) ∧
    (∃ (s : State), s.cqa.envFrame = none) :=
  ⟨⟨{ unit with alc.repeatRun := 340 }, by decide +kernel⟩,
   ⟨unit, by decide +kernel⟩,
   ⟨0, { unit with now := 10000000000, alc.satOver := some 369 }, 369, by decide +kernel⟩,
   ⟨1000000000000000000, { unit with alc.satUnder := some 181 }, 181, by decide +kernel⟩,
   ⟨unit, by decide +kernel⟩,
   ⟨0, { unit with now := 600000000000, frame.running := true }, by decide +kernel⟩,
   ⟨0, unit, by decide +kernel⟩,
   ⟨0, by decide +kernel⟩,
   ⟨1, { unit with cqa.cases := (unit.cqa.cases.modify 0 (fun y => { y with breachTimer := 1000000000000000000, timerRuns := true })) },
     by decide +kernel⟩,
   ⟨1, unit, by decide +kernel⟩,
   ⟨3, { unit with cqa.cases := (unit.cqa.cases.modify 2 (fun y => { y with inAlarm := true, clearRun := 65536 })) }, by decide +kernel⟩,
   ⟨1, unit, by decide +kernel⟩,
   ⟨{ unit with cqa.cases := (unit.cqa.cases.modify 0 (fun y => { y with res.state := 2, unprovenRun := 368 })) }, by decide +kernel⟩,
   ⟨unit, by decide +kernel⟩,
   ⟨{ unit with frame.running := true, sys.mode := .hold }, by decide +kernel⟩,
   ⟨{ unit with cfg.given := [((.CQA_ENV_ON, 0), 0)] }, by decide +kernel⟩,
   ⟨{ unit with cqa.envFrame := some 127 }, 127, by decide +kernel⟩,
   ⟨{ unit with cqa.envFrame := some 3 }, 3, by decide +kernel⟩,
   ⟨unit, by decide +kernel⟩⟩

/-- The hypotheses of each clause of AuthorityAndModeCommands can be met. -/
theorem wit_AuthorityAndModeCommands :
    (∃ (t : Nat) (q : Nat) (p : List Byte) (s : State) (x : Session), s.takes opRoleRotate t x q false p = true) ∧
    (∃ (t : Nat) (q : Nat) (p : List Byte) (s : State) (x : Session), s.takes opWardenRelease t x q false p = true) ∧
    (∃ (t : Nat) (q : Nat) (p : List Byte) (s : State) (x : Session), s.takes opWardenPromote t x q false p = true ∧ s.arbiter = false) ∧
    (∃ (t : Nat) (q : Nat) (p : List Byte) (s : State) (x : Session), s.takes opWardenPromote t x q false p = true ∧ s.arbiter = true) ∧
    (∃ (t : Nat) (q : Nat) (p : List Byte) (s : State) (x : Session) (b : State), s.takes opWardenPromote t x q false p = true ∧ s.arbiter = true
      ∧ b.arbiter = true) ∧
    (∃ (t : Nat) (q : Nat) (p : List Byte) (s : State) (x : Session), s.takes opSetMode t x q false p = true
      ∧ modeOfCode (fld p 0 1) = some Mode.hold ∧ s.leaseMode = false) ∧
    (∃ (t : Nat) (q : Nat) (p : List Byte) (s : State) (x : Session), s.takes opSetMode t x q true p = true
      ∧ modeOfCode (fld p 0 1) = some Mode.hold ∧ s.leaseMode = true) ∧
    (∃ (t : Nat) (q : Nat) (p : List Byte) (s : State) (x : Session), s.takes opSetMode t x q false p = true
      ∧ modeOfCode (fld p 0 1) = some Mode.standby ∧ s.sys.mode = Mode.hold) ∧
    (∃ (t : Nat) (q : Nat) (p : List Byte) (s : State) (x : Session) (m : Mode), s.takes opSetMode t x q false p = true ∧ fld p 0 1 ≠ 0
      ∧ modeOfCode (fld p 0 1) = some m ∧ m ≠ Mode.hold ∧ s.sys.mode ≠ Mode.hold) ∧
    (∃ (t : Nat) (q : Nat) (p : List Byte) (s : State) (x : Session), s.takes opSetMode t x q false p = true ∧ fld p 0 1 = 0) :=
  ⟨⟨0, 1, [], { unit with red.unit := 0, red.commanding := true, red.b.lost := false, red.b.score := 1 }, desk, by decide +kernel⟩,
   ⟨0, 1, [], { unit with red.unit := 2, red.commanding := true, red.a.lost := false, red.a.score := 1 }, desk, by decide +kernel⟩,
   ⟨0, 1, [], { unit with red.unit := 2, sys.mode := .warden, cfg.given := [((.RED_MODE, 0), 1)] }, desk, by decide +kernel⟩,
   ⟨0, 1, [], { unit with red.unit := 2, sys.mode := .warden }, desk, by decide +kernel⟩,
   ⟨0, 1, [], { unit with red.unit := 2, sys.mode := .warden }, desk, { unit with red.unit := 2 }, by decide +kernel⟩,
   ⟨0, 1, 4 :: List.replicate 7 0, { unit with sys.mode := .standby, est.core.inited := true, red.health := 1 }, desk, by decide +kernel⟩,
   ⟨0, 1, 4 :: List.replicate 7 0, { unit with sys.mode := .standby, est.core.inited := true, red.health := 1, red.unit := 0 }, desk,
     by decide +kernel⟩,
   ⟨0, 1, [3, 255, 6, 11, 3, 0, 2, 28], { unit with red.commanding := true, sys.mode := .hold }, desk, by decide +kernel⟩,
   ⟨0, 1, [2, 156, 227, 1, 177, 156, 3, 7], { unit with sys.mode := .standby }, desk, .commission, by decide +kernel⟩,
   ⟨0, 1, [0, 32, 0, 4, 251, 194, 254, 11], { unit with sys.mode := .commission }, desk, by decide +kernel⟩⟩

/-- The hypotheses of each clause of CanEvents can be met. -/
theorem wit_CanEvents :
    (∃ (n : Nat) (s : State), s.Inv ∧ (n = 0 ∨ 4 < n)) ∧
    (∃ (n : Nat) (f : CanFrame) (s : State), s.Inv ∧ 1 ≤ n ∧ n ≤ 4 ∧ f.rtr = true) ∧
    (∃ (n : Nat) (f : CanFrame) (s : State), s.Inv ∧ 1 ≤ n ∧ n ≤ 4 ∧ ((s.port n).state = 2 ∨ (s.port n).state = 3 ∨ (s.port n).state = 6)
      ∧ f.rtr = false) ∧
    (∃ (n : Nat) (s : State), s.Inv ∧ 1 ≤ n ∧ n ≤ 4 ∧ ((s.port n).state = 2 ∨ (s.port n).state = 3 ∨ (s.port n).state = 6)) ∧
    (∃ (n : Nat) (f : CanFrame) (s : State), s.Inv ∧ 1 ≤ n ∧ n ≤ 4 ∧ (s.port n).state = 1 ∧ f.rtr = false) ∧
    (∃ (n : Nat) (s : State), s.Inv ∧ 1 ≤ n ∧ n ≤ 4 ∧ (s.port n).state = 1) ∧
    (∃ (n : Nat) (s : State), s.Inv ∧ 1 ≤ n ∧ n ≤ 4 ∧ ((s.port n).state = 0 ∨ (s.port n).state = 4 ∨ (s.port n).state = 5)) ∧
    (∃ (n : Nat) (i : Nat) (s : State), s.Inv ∧ 1 ≤ n ∧ n ≤ 4 ∧ 64 ≤ i) ∧
    (∃ (t : Nat) (n : Nat) (i : Nat) (s : State) (x : TxFrame), s.Inv ∧ 1 ≤ n ∧ n ≤ 4 ∧ i < 64 ∧ (s.box n i).cur = some x
      ∧ (∀ (a : Nat), x.t = some a → a ≤ (s.arrive t).raw)) ∧
    (∃ (n : Nat) (s : State), s.Inv ∧ 1 ≤ n ∧ n ≤ 4 ∧ (s.port n).onBus = none) ∧
    (∃ (n : Nat) (s : State) (j : Nat) (x : TxFrame), s.Inv ∧ 1 ≤ n ∧ n ≤ 4 ∧ (s.port n).onBus = some j ∧ (s.box n j).cur = some x) ∧
    (∃ (n : Nat) (s : State) (j : Nat) (x : TxFrame), s.Inv ∧ 1 ≤ n ∧ n ≤ 4 ∧ (s.port n).onBus = some j ∧ (s.box n j).cur = some x
      ∧ x.cancelled = none) ∧
    (∃ (t : Nat) (n : Nat) (i : Nat) (s : State) (v : State), s.Inv ∧ 1 ≤ n ∧ n ≤ 4 ∧ i < 64 ∧ v = (s.arrive t).canDue n ∧ (v.box n i).cur = none
      ∧ (v.box n i).behind = none) ∧
    (∃ (t : Nat) (n : Nat) (i : Nat) (s : State) (v : State) (x : TxFrame) (e : Nat), s.Inv ∧ 1 ≤ n ∧ n ≤ 4 ∧ i < 64 ∧ v = (s.arrive t).canDue n
      ∧ (v.box n i).cur = some x ∧ (v.box n i).behind = none ∧ x.expiry = some e ∧ (s.arrive t).raw < e) ∧
    (∃ (t : Nat) (n : Nat) (i : Nat) (s : State) (v : State) (x : TxFrame) (e : Nat), s.Inv ∧ 1 ≤ n ∧ n ≤ 4 ∧ i < 64 ∧ v = (s.arrive t).canDue n
      ∧ (v.box n i).cur = some x ∧ (v.box n i).behind = none ∧ x.expiry = some e ∧ e ≤ (s.arrive t).raw ∧ x.begun = true) ∧
    (∃ (t : Nat) (n : Nat) (i : Nat) (s : State) (v : State) (x : TxFrame) (e : Nat), s.Inv ∧ 1 ≤ n ∧ n ≤ 4 ∧ i < 64 ∧ v = (s.arrive t).canDue n
      ∧ (v.box n i).cur = some x ∧ (v.box n i).behind = none ∧ x.expiry = some e ∧ e ≤ (s.arrive t).raw ∧ x.begun = false) ∧
    (∃ (t : Nat) (n : Nat) (i : Nat) (s : State) (v : State) (x : TxFrame) (h : TxFrame) (e : Nat), s.Inv ∧ 1 ≤ n ∧ n ≤ 4 ∧ i < 64
      ∧ v = (s.arrive t).canDue n ∧ (v.box n i).cur = some x ∧ x.expiry = none ∧ (v.box n i).behind = some h ∧ h.expiry = some e
      ∧ e ≤ (s.arrive t).raw) ∧
    (∃ (n : Nat) (s : State), s.Inv ∧ 1 ≤ n ∧ n ≤ 4 ∧ ((s.port n).state = 2 ∨ (s.port n).state = 3) ∧ 255 < (s.port n).tec) ∧
    (∃ (n : Nat) (s : State), s.Inv ∧ 1 ≤ n ∧ n ≤ 4 ∧ (s.port n).tec ≤ 255) ∧
    (∃ (n : Nat) (s : State) (a : Nat) (q : Nat) (d : Nat), s.Inv ∧ 1 ≤ n ∧ n ≤ 4 ∧ (s.port n).recover = some (a, q, d)) ∧
    (∃ (t : Nat) (n : Nat) (s : State) (a : Nat) (q : Nat) (d : Nat), s.Inv ∧ 1 ≤ n ∧ n ≤ 4 ∧ (s.port n).recover = some (a, q, d) ∧ max s.now t < d) ∧
    (∃ (t : Nat) (n : Nat) (s : State) (a : Nat) (q : Nat) (d : Nat), s.Inv ∧ 1 ≤ n ∧ n ≤ 4 ∧ (s.port n).recover = some (a, q, d) ∧ d ≤ max s.now t) ∧
    (∃ (n : Nat) (s : State), s.Inv ∧ 1 ≤ n ∧ n ≤ 4 ∧ (s.port n).recover = none) ∧
    (∃ (t : Nat) (n : Nat) (s : State) (d : Detect), s.Inv ∧ 1 ≤ n ∧ n ≤ 4 ∧ (s.port n).detect = some d
      ∧ max s.now t < d.since + s.parMs Param.BUS_DETECT_DWELL) ∧
    (∃ (t : Nat) (n : Nat) (s : State) (d : Detect), s.Inv ∧ 1 ≤ n ∧ n ≤ 4 ∧ (s.port n).detect = some d
      ∧ d.since + s.parMs Param.BUS_DETECT_DWELL ≤ max s.now t ∧ d.frames ≠ 0) ∧
    (∃ (t : Nat) (n : Nat) (s : State) (d : Detect), s.Inv ∧ 1 ≤ n ∧ n ≤ 4 ∧ (s.port n).detect = some d
      ∧ d.since + s.parMs Param.BUS_DETECT_DWELL ≤ max s.now t ∧ d.frames = 0) ∧
    (∃ (n : Nat) (s : State), s.Inv ∧ 1 ≤ n ∧ n ≤ 4 ∧ (s.port n).detect = none) ∧
    (∃ (t : Nat) (n : Nat) (node : Nat) (s : State) (x : CanNode), s.Inv ∧ 1 ≤ n ∧ n ≤ 4
      ∧ (List.find? (fun (y : CanNode) => decide (y.node = node)) (s.port n).nodes = some x) ∧ max s.now t < x.last + s.parNs Param.BUS_NODE_FORGET) ∧
    (∃ (t : Nat) (n : Nat) (node : Nat) (s : State) (x : CanNode), s.Inv ∧ 1 ≤ n ∧ n ≤ 4
      ∧ (List.find? (fun (y : CanNode) => decide (y.node = node)) (s.port n).nodes = some x) ∧ x.last + s.parNs Param.BUS_NODE_FORGET ≤ max s.now t) ∧
    (∃ (n : Nat) (node : Nat) (s : State), s.Inv ∧ 1 ≤ n ∧ n ≤ 4 ∧ (∀ (x : CanNode), x ∈ (s.port n).nodes → x.node ≠ node)) :=
  ⟨⟨0, unit, by unfold State.Inv; decide +kernel⟩,
   ⟨1, { rtr := true }, unit, by unfold State.Inv; decide +kernel⟩,
   ⟨1, { }, { unit with bus.can := (unit.bus.can.modify 0 (fun y => { y with state := 2 })) }, by unfold State.Inv; decide +kernel⟩,
   ⟨1, { unit with bus.can := (unit.bus.can.modify 0 (fun y => { y with state := 3 })) }, by unfold State.Inv; decide +kernel⟩,
   ⟨2, { }, { unit with bus.can := (unit.bus.can.modify 1 (fun y => { y with state := 1 })) }, by unfold State.Inv; decide +kernel⟩,
   ⟨3, { unit with bus.can := (unit.bus.can.modify 2 (fun y => { y with state := 1 })) }, by unfold State.Inv; decide +kernel⟩,
   ⟨1, unit, by unfold State.Inv; decide +kernel⟩,
   ⟨1, 128, unit, by unfold State.Inv; decide +kernel⟩,
   ⟨0, 1, 4,
     { unit with bus.can := (unit.bus.can.modify 0 (fun y => { y with boxes := (y.boxes.modify 4 (fun z => { z with cur := some { } })) })) }, { },
     by unfold State.Inv; decide +kernel⟩,
   ⟨1, unit, by unfold State.Inv; decide +kernel⟩,
   ⟨1,
     { unit with bus.can := (unit.bus.can.modify 0 (fun y => { y with boxes := (y.boxes.modify 63 (fun z => { z with cur := some { } })), onBus := some 63 })) },
     63, { }, by unfold State.Inv; decide +kernel⟩,
   ⟨3, { unit with bus.can := (unit.bus.can.modify 2 (fun y => { y with boxes := [{ cur := some { } }], onBus := some 0 })) }, 0, { },
     by unfold State.Inv; decide +kernel⟩,
   ⟨0, 1, 0, unit, (State.arrive unit 0).canDue 1, by unfold State.Inv; decide +kernel⟩,
   ⟨0, 1, 0,
     { unit with bus.can := unit.bus.can.modify 0 (fun c => { c with boxes := c.boxes.modify 0 (fun b => { b with cur := some { expiry := some 1000 } }) }) }, (State.arrive { unit with bus.can := unit.bus.can.modify 0 (fun c => { c with boxes := c.boxes.modify 0 (fun b => { b with cur := some { expiry := some 1000 } }) }) } 0).canDue 1, { expiry := some 1000 },
     1000, by unfold State.Inv; decide +kernel⟩,
   ⟨0, 1, 0,
     { unit with bus.can := unit.bus.can.modify 0 (fun c => { c with boxes := c.boxes.modify 0 (fun b => { b with cur := some { expiry := some 0, begun := true } }) }) },
     (State.arrive { unit with bus.can := unit.bus.can.modify 0 (fun c => { c with boxes := c.boxes.modify 0 (fun b => { b with cur := some { expiry := some 0, begun := true } }) }) } 0).canDue 1,
     { expiry := some 0, begun := true }, 0, by unfold State.Inv; decide +kernel⟩,
   ⟨0, 1, 0,
     { unit with bus.can := unit.bus.can.modify 0 (fun c => { c with boxes := c.boxes.modify 0 (fun b => { b with cur := some { expiry := some 0 } }) }) }, (State.arrive { unit with bus.can := unit.bus.can.modify 0 (fun c => { c with boxes := c.boxes.modify 0 (fun b => { b with cur := some { expiry := some 0 } }) }) } 0).canDue 1, { expiry := some 0 },
     0, by unfold State.Inv; decide +kernel⟩,
   ⟨0, 1, 0,
     { unit with bus.can := unit.bus.can.modify 0 (fun c => { c with boxes := c.boxes.modify 0 (fun b => { b with cur := some { }, behind := some { expiry := some 0 } }) }) },
     (State.arrive { unit with bus.can := unit.bus.can.modify 0 (fun c => { c with boxes := c.boxes.modify 0 (fun b => { b with cur := some { }, behind := some { expiry := some 0 } }) }) } 0).canDue 1,
     { }, { expiry := some 0 }, 0, by unfold State.Inv; decide +kernel⟩,
   ⟨1, { unit with bus.can := (unit.bus.can.modify 0 (fun y => { y with state := 3, tec := 999999999999999999 })) },
     by unfold State.Inv; decide +kernel⟩,
   ⟨1, unit, by unfold State.Inv; decide +kernel⟩,
   ⟨1, { unit with bus.can := (unit.bus.can.modify 0 (fun y => { y with recover := some (1000000000000000000, (2, 64)) })) }, 1000000000000000000,
     2, 64, by unfold State.Inv; decide +kernel⟩,
   ⟨0, 1, { unit with bus.can := (unit.bus.can.modify 0 (fun y => { y with recover := some (2, (76, 64)) })) }, 2, 76, 64,
     by unfold State.Inv; decide +kernel⟩,
   ⟨0, 1, { unit with now := 4294969369, bus.can := (unit.bus.can.modify 0 (fun y => { y with recover := some (752, (5, 2001)) })) }, 752, 5, 2001,
     by unfold State.Inv; decide +kernel⟩,
   ⟨1, unit, by unfold State.Inv; decide +kernel⟩,
   ⟨0, 1, { unit with bus.can := (unit.bus.can.modify 0 (fun y => { y with detect := some { } })) }, { }, by unfold State.Inv; decide +kernel⟩,
   ⟨0, 1,
     { unit with now := 1000000000000000, bus.can := (unit.bus.can.modify 0 (fun y => { y with detect := some { frames := 201 } })) }, { frames := 201 },
     by unfold State.Inv; decide +kernel⟩,
   ⟨0, 3, { unit with now := 1000000000, bus.can := (unit.bus.can.modify 2 (fun y => { y with detect := some { } })) }, { },
     by unfold State.Inv; decide +kernel⟩,
   ⟨1, unit, by unfold State.Inv; decide +kernel⟩,
   ⟨0, 1, 1, { unit with bus.can := (unit.bus.can.modify 0 (fun y => { y with nodes := [{ node := 1 }] })) }, { node := 1 },
     by unfold State.Inv; decide +kernel⟩,
   ⟨0, 3, 1,
     { unit with now := 1000000000000000000, bus.can := (unit.bus.can.modify 2 (fun y => { y with nodes := [{ node := 1 }] })) }, { node := 1 },
     by unfold State.Inv; decide +kernel⟩,
   ⟨1, 0, unit, by unfold State.Inv; decide +kernel⟩⟩

/-- The hypotheses of each clause of ClockControl can be met. -/
theorem wit_ClockControl :
    (∃ (n : Nat), 2 ≤ n) ∧
    (∃ (t : Nat) (n : Nat) (s : State), n < 2 ∧ s.dom 9 = true ∧ (s.vc n).stepArm = true ∧ (s.vc n).lastStepAt = none
      ∧ (s.arrive t).atSecond n = true ∧ (s.arrive t).stepBarred n = false) ∧
    (∃ (t : Nat) (n : Nat) (s : State), n < 2 ∧ s.dom 9 = true ∧ (s.vc n).stepArm = true ∧ (s.vc n).lastStepAt = none
      ∧ (s.arrive t).atSecond n = true ∧ (s.arrive t).stepBarred n = true) ∧
    (∃ (t : Nat) (n : Nat) (s : State), n < 2 ∧ ((s.vc n).stepArm = false ∨ (s.arrive t).atSecond n = false)) ∧
    (∃ (t : Nat) (s : State), s.dom 9 = true ∧ (s.arrive t).wantVc = some 0) ∧
    (∃ (t : Nat) (s : State), (s.arrive t).wantVc ≠ some 0) ∧
    (∃ (t : Nat) (n : Nat) (s : State) (a : Nat), n < 2 ∧ s.dom 9 = true ∧ (s.vc n).fallback = true ∧ (s.vc n).srcPresentAt = some a
      ∧ a + 10000000000 ≤ max s.now t) ∧
    (∃ (n : Nat) (s : State), n < 2 ∧ (s.vc n).fallback = false) ∧
    (∃ (v : Word) (s : State), s.dom 9 = true ∧ (BitVec.toNat v).testBit 4 = false ∧ (BitVec.toNat v).testBit 5 = false) ∧
    (∃ (v : Word) (s : State), s.dom 9 = true ∧ (BitVec.toNat v).testBit 4 = true ∧ (BitVec.toNat v).testBit 5 = false) ∧
    (∃ (s : State), s.dom 9 = true) ∧
    (∃ (s : State), s.dom 9 = false) :=
  ⟨⟨126, by decide +kernel⟩,
   ⟨0, 1, { State.reset with tmu.vc1.stepArm := true, keep.powered := 4095 }, by decide +kernel⟩,
   ⟨0, 1, { State.reset with frame.stepAtFrame := some 2, tmu.vc1.stepArm := true, tmu.selVc := 1, keep.powered := 4095 }, by decide +kernel⟩,
   ⟨0, 0, unit, by decide +kernel⟩,
   ⟨0, { unit with tmu.vc0.qual := 1, tmu.selVc := 1 }, by decide +kernel⟩,
   ⟨0, unit, by decide +kernel⟩,
   ⟨0, 1, { unit with now := 1000000000000000, tmu.vc1.srcPresentAt := some 2, tmu.vc1.fallback := true }, 2, by decide +kernel⟩,
   ⟨0, unit, by decide +kernel⟩,
   ⟨0, unit, by decide +kernel⟩,
   ⟨31, unit, by decide +kernel⟩,
   ⟨unit, by decide +kernel⟩,
   ⟨State.reset, by decide +kernel⟩⟩

/-- The hypotheses of each clause of ClockSourcesAndPulseInput can be met. -/
theorem wit_ClockSourcesAndPulseInput :
    (∃ (n : Nat), 2 ≤ n) ∧
    (∃ (n : Nat) (s : State), n < 2 ∧ s.dom 9 = false) ∧
    (∃ (n : Nat) (s : State), n < 2 ∧ s.netUp = false) ∧
    (∃ (n : Nat) (s : State), n < 2 ∧ s.netUp = true) ∧
    (∃ (port : Nat) (s : State), port < 2 ∧ s.netUp = true) ∧
    (∃ (t : Nat) (n : Nat) (port : Nat) (s : State), n < 2 ∧ s.dom 9 = true ∧ (s.vc n).portToMaster = port
      ∧ (s.vc n).lastAnnounce + (s.arrive t).annTimeout ≤ max s.now t ∧ (s.vc n).src = VcSrc.ptp) ∧
    (∃ (n : Nat) (port : Nat) (s : State), n < 2 ∧ s.dom 9 = true ∧ (s.vc n).portToMaster ≠ port
      ∧ (∀ (e : Nat × Nat × List Nat), e ∈ (s.vc n).best → e.fst ≠ port)) ∧
    (∃ (t : Nat) (n : Nat) (s : State), n < 2 ∧ s.dom 9 = true ∧ s.vcCfgSrc n = VcSrc.ptp ∧ (s.vc n).src = VcSrc.ptp
      ∧ (s.vc n).lastSync + natOf (4 * pow2 (s.vc n).syncLog * 1000000000) ≤ max s.now t) ∧
    (∃ (n : Nat) (s : State), n < 2 ∧ s.vcCfgSrc n ≠ VcSrc.ptp) ∧
    (∃ (t : Nat) (n : Nat) (s : State) (a : Nat), n < 2 ∧ s.dom 9 = true ∧ (s.vc n).qual = 3 ∧ (s.vc n).srcPresent = true
      ∧ (s.vc n).lockSince = some a ∧ a + s.parNs Param.TMU_LOCK_TIME ≤ max s.now t) ∧
    (∃ (n : Nat) (s : State), n < 2 ∧ (s.vc n).qual ≠ 3) ∧
    (∃ (t : Nat) (n : Nat) (port : Nat) (k : Nat) (s : State), n < 2 ∧ s.netUp = true ∧ s.vcCfgSrc n = VcSrc.ptp ∧ port < 3 ∧ k < 4
      ∧ (s.arrive t).ptpSends n port k = true
      ∧ (∀ (a : Nat), assoc s.tmu.ptpSent (12 * n + 4 * port + k) = some a → a + s.ptpInterval k ≤ max s.now t)) ∧
    (∃ (s : State), s.vcCfgSrc 0 ≠ VcSrc.pps ∧ s.vcCfgSrc 1 ≠ VcSrc.pps) ∧
    (∃ (s : State), s.dom 9 = true ∧ s.vcCfgSrc 0 = VcSrc.pps ∧ s.vcCfgSrc 1 ≠ VcSrc.pps ∧ s.tmu.vc0.ppsLast = none) ∧
    (∃ (t : Nat) (s : State) (a : Nat), s.dom 9 = true ∧ s.vcCfgSrc 0 = VcSrc.pps ∧ s.vcCfgSrc 1 ≠ VcSrc.pps ∧ s.tmu.vc0.ppsLast = some a
      ∧ 999900000 ≤ (s.arrive t).raw - a ∧ (s.arrive t).raw - a ≤ 1000100000 ∧ s.tmu.vc0.qual = 0) ∧
    (∃ (t : Nat) (s : State) (a : Nat), s.dom 9 = true ∧ s.vcCfgSrc 0 = VcSrc.pps ∧ s.tmu.vc0.ppsLast = some a ∧ s.tmu.vc1.ppsLast = none
      ∧ a + 1000100000 < (s.arrive t).raw ∧ s.vcCfgSrc 1 ≠ VcSrc.pps) :=
  ⟨⟨219, by decide +kernel⟩,
   ⟨0, State.reset, by decide +kernel⟩,
   ⟨0, State.reset, by decide +kernel⟩,
   ⟨0, unit, by decide +kernel⟩,
   ⟨0, unit, by decide +kernel⟩,
   ⟨0, 0, 0, { unit with tmu.vc0.src := .ptp, cfg.given := [((.TMU_PTP_ANN_TIMEOUT, 0), 0)] }, by decide +kernel⟩,
   ⟨0, 0, { unit with tmu.vc0.portToMaster := 1 }, by decide +kernel⟩,
   ⟨0, 1, { unit with tmu.vc1.src := .ptp, tmu.vc1.syncLog := (-290), cfg.given := [((.TMU_VC_SRC, 1), (-254))] }, by decide +kernel⟩,
   ⟨0, unit, by decide +kernel⟩,
   ⟨0, 1, { unit with now := 1000000000000678, tmu.vc1.qual := 3, tmu.vc1.srcPresent := true, tmu.vc1.lockSince := some 179 }, 179,
     by decide +kernel⟩,
   ⟨0, unit, by decide +kernel⟩,
   ⟨0, 0, 0, 0, { unit with cfg.given := [((.TMU_VC_SRC, 0), 0)], tmu.vc0.portState := [6, 1, 1] }, by decide +kernel⟩,
   ⟨unit, by decide +kernel⟩,
   ⟨{ unit with cfg.given := [((.TMU_VC_SRC, 0), 2)] }, by decide +kernel⟩,
   ⟨1000100277, { unit with tmu.vc0.ppsLast := some 3608, cfg.given := [((.TMU_VC_SRC, 0), 2)] }, 3608, by decide +kernel⟩,
   ⟨1000000000000, { unit with tmu.vc0.ppsLast := some 1, cfg.given := [((.TMU_VC_SRC, 0), (12 / 5))] }, 1, by decide +kernel⟩⟩

/-- The hypotheses of each clause of CommandArrivalAndTimeouts can be met. -/
theorem wit_CommandArrivalAndTimeouts :
    (∃ (s : State), s.hears = false) ∧
    (∃ (t : Nat) (s : State), s.hears = true ∧ 256 ≤ (s.arrive t).netWaiting) ∧
    (∃ (t : Nat) (bytes : List Byte) (s : State), s.hears = true ∧ (s.arrive t).netWaiting < 256 ∧ Pkt.read bytes = none) ∧
    (∃ (t : Nat) (iface : Iface) (addr : Nat) (port : Nat) (bytes : List Byte) (s : State) (k : Pkt) (o : OpDef) (x : Session) (acc : Bool) (z : State), s.hears = true
      ∧ (s.arrive t).netWaiting < 256 ∧ z = { s with cmd := { s.cmd with netUntil := max (max s.now t) s.cmd.netUntil + 500000 } }
      ∧ Pkt.read bytes = some k ∧ k.flags.testBit 5 = false ∧ k.op ≠ 261 ∧ opOf k.op = some o ∧ k.sess = x.num ∧ k.auth = x.auth
      ∧ k.trailerOk x.trailKey = true ∧ k.client = x.client ∧ x.iface = iface ∧ x.addr = addr ∧ x.port = port
      ∧ (∀ (y : Session), y ∈ s.cmd.sessions → y.num = x.num → y = x) ∧ z.takes o t x k.seq acc k.params = true) ∧
    (∃ (t : Nat) (s : State) (x : Session), s.sess? x.num = some x ∧ (∃ (h : HeldPkt), h ∈ x.held ∧ h.at_ + 500000000 ≤ max s.now t)) ∧
    (∃ (t : Nat) (s : State) (x : Session), s.sess? x.num = some x ∧ (∀ (h : HeldPkt), h ∈ x.held → max s.now t < h.at_ + 500000000)) ∧
    (∃ (t : Nat) (s : State) (x : Session), s.sess? x.num = some x ∧ x.dormant = false ∧ x.lastValid + 30000000000 ≤ max s.now t) ∧
    (∃ (t : Nat) (s : State) (x : Session), s.sess? x.num = some x ∧ max s.now t < x.lastValid + 30000000000) ∧
    (∃ (t : Nat) (s : State) (x : Session), s.sess? x.num = some x ∧ x.dormant = true ∧ x.dormantAt + s.parNs Param.CMD_DORMANT_KEEP ≤ max s.now t) ∧
    (∃ (s : State) (x : Session), s.sess? x.num = some x ∧ x.dormant = false) :=
  ⟨⟨State.reset, by decide +kernel⟩,
   ⟨0, { unit with cmd.netUntil := 1000000000000000003 }, by decide +kernel⟩,
   ⟨0, [], unit, by decide +kernel⟩,
   ⟨0, .svc, 9, 11, packet, { unit with cmd.sessions := [{ desk with auth := false, addr := 9, port := 11 }], sys.mode := .standby },
     { flags := 0, client := 7, sess := 1, seq := 1, op := 0x0D01, params := [], raw := packet }, opHenStatus,
     { desk with auth := false, addr := 9, port := 11 }, false,
     { unit with cmd.sessions := [{ desk with auth := false, addr := 9, port := 11 }], sys.mode := .standby, cmd.netUntil := 500010 },
     by decide +kernel, by decide +kernel, rfl, rfl, by decide +kernel, by decide +kernel, rfl, by decide +kernel⟩,
   ⟨0, { unit with now := 1000000000500000000, cmd.sessions := [{ held := [{ }] }] }, { held := [{ }] }, by decide +kernel⟩,
   ⟨0, unit, desk, by decide +kernel⟩,
   ⟨0, { unit with now := 60000000000 }, desk, by decide +kernel⟩,
   ⟨0, unit, desk, by decide +kernel⟩,
   ⟨500000000000249, { unit with cmd.sessions := [{ dormant := true, addr := 219, port := 2000 }] }, { dormant := true, addr := 219, port := 2000 },
     by decide +kernel⟩,
   ⟨unit, desk, by decide +kernel⟩⟩

/-- The hypotheses of each clause of CommandRefusals can be met. -/
theorem wit_CommandRefusals :
    (∃ (t : Nat) (q : Nat) (p : List Byte) (s : State) (x : Session) (i : Instr) (o : OpDef), (i, o) ∈ [(Instr.setMode t x.num q p, opSetMode),
      (Instr.cfgStage t x.num q p, opCfgStage), (Instr.holdSetEnd t x.num q p, opHoldSetEnd), (Instr.refSelect t x.num q p, opRefSelect),
      (Instr.alcSelect t x.num q p, opAlcSelect), (Instr.thrEnable t x.num q p, opThrEnable), (Instr.pointForce t x.num q p, opPointForce),
      (Instr.busRecover t x.num q p, opBusRecover), (Instr.logFreeze t x.num q p, opLogFreeze), (Instr.safeReset t x.num q p, opSafeReset),
      (Instr.imgActivate t x.num q p, opImgActivate)] ∧ s.sess? x.num = some x ∧ q ≠ x.e) ∧
    (∃ (t : Nat) (q : Nat) (p : List Byte) (s : State) (x : Session) (i : Instr) (o : OpDef), (i, o) ∈ [(Instr.setMode t x.num q p, opSetMode),
      (Instr.cfgStage t x.num q p, opCfgStage), (Instr.holdSetEnd t x.num q p, opHoldSetEnd), (Instr.refSelect t x.num q p, opRefSelect),
      (Instr.alcSelect t x.num q p, opAlcSelect), (Instr.thrEnable t x.num q p, opThrEnable), (Instr.pointForce t x.num q p, opPointForce),
      (Instr.busRecover t x.num q p, opBusRecover), (Instr.logFreeze t x.num q p, opLogFreeze), (Instr.safeReset t x.num q p, opSafeReset),
      (Instr.imgActivate t x.num q p, opImgActivate)] ∧ s.sess? x.num = some x ∧ s.dom 3 = true ∧ x.dormant = false ∧ x.closing = false ∧ q = x.e
      ∧ s.waiting x.num = false ∧ s.cmd.replayDone = true ∧ x.held = [] ∧ o.pair = true ∧ s.pairOk = false) ∧
    (∃ (t : Nat) (q : Nat) (p : List Byte) (s : State) (x : Session) (i : Instr) (o : OpDef), (i, o) ∈ [(Instr.setMode t x.num q p, opSetMode),
      (Instr.cfgStage t x.num q p, opCfgStage), (Instr.holdSetEnd t x.num q p, opHoldSetEnd), (Instr.refSelect t x.num q p, opRefSelect),
      (Instr.alcSelect t x.num q p, opAlcSelect), (Instr.thrEnable t x.num q p, opThrEnable), (Instr.pointForce t x.num q p, opPointForce),
      (Instr.busRecover t x.num q p, opBusRecover), (Instr.logFreeze t x.num q p, opLogFreeze), (Instr.safeReset t x.num q p, opSafeReset),
      (Instr.imgActivate t x.num q p, opImgActivate)] ∧ s.sess? x.num = some x ∧ s.dom 3 = true ∧ x.dormant = false ∧ x.closing = false ∧ q = x.e
      ∧ s.waiting x.num = false ∧ s.cmd.replayDone = true ∧ x.held = [] ∧ (o.pair = false ∨ s.pairOk = true) ∧ o.admitted x = false) ∧
    (∃ (t : Nat) (q : Nat) (p : List Byte) (s : State) (x : Session) (i : Instr) (o : OpDef) (st : Nat), (i, o) ∈ [(Instr.setMode t x.num q p,
      opSetMode), (Instr.cfgStage t x.num q p, opCfgStage), (Instr.holdSetEnd t x.num q p, opHoldSetEnd), (Instr.refSelect t x.num q p, opRefSelect),
      (Instr.alcSelect t x.num q p, opAlcSelect), (Instr.thrEnable t x.num q p, opThrEnable), (Instr.pointForce t x.num q p, opPointForce),
      (Instr.busRecover t x.num q p, opBusRecover), (Instr.logFreeze t x.num q p, opLogFreeze), (Instr.safeReset t x.num q p, opSafeReset),
      (Instr.imgActivate t x.num q p, opImgActivate)] ∧ s.sess? x.num = some x ∧ s.ready o x q false p = true ∧ o.chk (s.asked t x) x.num p = st
      ∧ 32768 ≤ st ∧ st ≠ stJournalFull) :=
  ⟨⟨0, 2, [], unit, desk, Instr.pointForce 0 1 2 [], opPointForce, by simp [desk], by decide +kernel⟩,
   ⟨0, 1, [], { unit with red.unit := 0, cmd.pairAuth := false }, desk, Instr.pointForce 0 1 1 [], opPointForce, by simp [desk], by decide +kernel⟩,
   ⟨0, 1, [], { unit with cmd.sessions := [{ desk with role := .operator }] }, { desk with role := .operator }, Instr.pointForce 0 1 1 [],
     opPointForce, by simp [desk], by decide +kernel⟩,
   ⟨0, 1, (List.replicate 16 0), unit, desk, Instr.pointForce 0 1 1 (List.replicate 16 0), opPointForce, stBadParam, by simp [desk],
     by decide +kernel⟩⟩

/-- The hypotheses of each clause of Completions can be met. -/
theorem wit_Completions :
    (∃ (n : Nat) (q : Nat) (s : State), s.dom 3 = true ∧ ¬(n, q) ∈ s.cmd.accepted) ∧
    (∃ (n : Nat) (q : Nat) (s : State), s.dom 3 = true ∧ (n, q) ∈ s.cmd.accepted ∧ s.log.exporting = some (n, q)) ∧
    (∃ (n : Nat) (q : Nat) (s : State), s.dom 3 = true ∧ (n, q) ∈ s.cmd.accepted ∧ s.log.exporting ≠ some (n, q) ∧ s.log.spillEnd = some (n, q)) ∧
    (∃ (n : Nat) (q : Nat) (s : State) (len : Nat), s.dom 3 = true ∧ (n, q) ∈ s.cmd.accepted ∧ s.log.exporting ≠ some (n, q)
      ∧ s.log.spillEnd ≠ some (n, q) ∧ s.sys.verifying = some (n, q, len)) ∧
    (∃ (n : Nat) (q : Nat) (status : Nat) (s : State), s.dom 3 = true ∧ (n, q) ∈ s.cmd.accepted ∧ s.log.exporting ≠ some (n, q)
      ∧ s.log.spillEnd ≠ some (n, q) ∧ s.sys.verifying = none ∧ s.sys.cfgFromPeer = some (n, q) ∧ status ≠ stDone) ∧
    (∃ (n : Nat) (q : Nat) (s : State), s.dom 3 = true ∧ (n, q) ∈ s.cmd.accepted ∧ s.cmdHeld n q = false) ∧
    (∃ (n : Nat) (q : Nat) (s : State) (w : WhatIf), s.dom 3 = true
      ∧ (List.find? (fun (w : WhatIf) => decide (w.session = n) && decide (w.seq = q)) s.cqa.whatif = some w) ∧ 50 ≤ w.frames) ∧
    (∃ (n : Nat) (q : Nat) (s : State) (w : WhatIf), s.dom 3 = true
      ∧ (List.find? (fun (w : WhatIf) => decide (w.session = n) && decide (w.seq = q)) s.cqa.whatif = some w) ∧ w.frames < 50) :=
  ⟨⟨0, 0, unit, by decide +kernel⟩,
   ⟨4, 9, { unit with cmd.accepted := [(4, 9)], log.exporting := some (4, 9) }, by decide +kernel⟩,
   ⟨3, 2, { unit with cmd.accepted := [(3, 2)], log.spillEnd := some (3, 2) }, by decide +kernel⟩,
   ⟨6, 1, { unit with cmd.accepted := [(6, 1)], sys.verifying := some (6, (1, 499)) }, 499, by decide +kernel⟩,
   ⟨1, 0, 1, { unit with cmd.accepted := [(1, 0)], sys.cfgFromPeer := some (1, 0) }, by decide +kernel⟩,
   ⟨3, 8, { unit with cmd.accepted := [(3, 8)] }, by decide +kernel⟩,
   ⟨1, 2, { unit with cqa.whatif := [{ session := 1, seq := 2, frames := 127 }] }, { session := 1, seq := 2, frames := 127 }, by decide +kernel⟩,
   ⟨11, 6, { unit with cqa.whatif := [{ session := 11, seq := 6 }] }, { session := 11, seq := 6 }, by decide +kernel⟩⟩

/-- The hypotheses of each clause of ConfigurationCommands can be met. -/
theorem wit_ConfigurationCommands :
    (∃ (t : Nat) (q : Nat) (p : List Byte) (s : State) (x : Session), s.takes opCfgStage t x q false p = true) ∧
    (∃ (t : Nat) (q : Nat) (p : List Byte) (s : State) (x : Session) (f : Option CfgFail), s.takes opCfgValidate t x q false p = true
      ∧ (s.began opCfgValidate t x q false p).stagedFail (fld p 0 4) (fld p 4 4) = f) ∧
    (∃ (t : Nat) (q : Nat) (p : List Byte) (s : State) (x : Session) (b : List Byte) (v : State), s.takes opCfgCommit t x q false p = true
      ∧ s.commitBody p = some b ∧ v = ((s.arrive t).writeCopy s.nextGen b).safePend (s.withBody b).safeCanon) ∧
    (∃ (t : Nat) (q : Nat) (p : List Byte) (s : State) (x : Session), s.takes opCfgFactory t x q false p = true) ∧
    (∃ (t : Nat) (q : Nat) (p : List Byte) (s : State) (x : Session), s.takes opCfgFromPeer t x q true p = true) :=
  ⟨⟨0, 1, List.replicate 12 0, unit, desk, by decide +kernel⟩,
   ⟨0, 1, leBytes 4 0 ++ leBytes 4 (crc32c []), unit, desk, some { reason := 17 }, by decide +kernel⟩,
   ⟨0, 1, leBytes 4 0 ++ leBytes 4 (crc32c []), { unit with cfg.validated := some (0, wN (crc32c []), 0) }, desk, [],
     (State.writeCopy (State.arrive { unit with cfg.validated := some (0, wN (crc32c []), 0) } 0) (State.nextGen unit) []).safePend (State.safeCanon (State.withBody { unit with cfg.validated := some (0, wN (crc32c []), 0) } [])),
     by decide +kernel⟩,
   ⟨0, 1, 1 :: List.replicate 7 0, { unit with sys.mode := .commission }, desk, by decide +kernel⟩,
   ⟨0, 1, [], { unit with sys.mode := .commission }, desk, by decide +kernel⟩⟩

/-- The hypotheses of each clause of ControlAndFieldQueries can be met. -/
theorem wit_ControlAndFieldQueries :
    (∃ (t : Nat) (q : Nat) (p : List Byte) (s : State) (x : Session), s.takes opHoldStatus t x q false p = true) ∧
    (∃ (t : Nat) (q : Nat) (p : List Byte) (s : State) (x : Session), s.takes opRefQuery t x q false p = true) ∧
    (∃ (t : Nat) (q : Nat) (p : List Byte) (s : State) (x : Session), s.takes opAlcQuery t x q false p = true) ∧
    (∃ (t : Nat) (q : Nat) (p : List Byte) (s : State) (x : Session), s.takes opThrQuery t x q false p = true) ∧
    (∃ (t : Nat) (q : Nat) (p : List Byte) (s : State) (x : Session), s.takes opCqaQuery t x q false p = true) ∧
    (∃ (t : Nat) (q : Nat) (p : List Byte) (s : State) (x : Session), s.takes opCqaCaseQuery t x q false p = true) ∧
    (∃ (t : Nat) (q : Nat) (p : List Byte) (s : State) (x : Session), s.takes opHenStatus t x q false p = true) ∧
    (∃ (t : Nat) (q : Nat) (p : List Byte) (s : State) (x : Session), s.takes opTimeQuery t x q false p = true) ∧
    (∃ (t : Nat) (q : Nat) (p : List Byte) (s : State) (x : Session), s.takes opCanQuery t x q false p = true) ∧
    (∃ (t : Nat) (q : Nat) (p : List Byte) (s : State) (x : Session), s.takes opCanNodeList t x q false p = true) ∧
    (∃ (t : Nat) (q : Nat) (p : List Byte) (s : State) (x : Session), s.takes opSerQuery t x q false p = true) ∧
    (∃ (t : Nat) (q : Nat) (p : List Byte) (s : State) (x : Session), s.takes opPointRead t x q false p = true) ∧
    (∃ (t : Nat) (q : Nat) (p : List Byte) (s : State) (x : Session), s.takes opProducerList t x q false p = true) ∧
    (∃ (t : Nat) (q : Nat) (p : List Byte) (s : State) (x : Session), s.takes opFioQuery t x q false p = true) :=
  ⟨⟨0, 1, [], { unit with sys.mode := .hold }, desk, by decide +kernel⟩,
   ⟨0, 1, [0, 166, 0, 0], { unit with cfg.given := [((.REF_SOURCE, 0), (-4))] }, desk, by decide +kernel⟩,
   ⟨0, 1, [], { unit with frame.running := true }, desk, by decide +kernel⟩,
   ⟨0, 1, [1, 212, 164, 4], { unit with cfg.given := [((.ALC_TFWD, 1), (-129)), ((.THR_TYPE, 1), (218 / 7))] }, desk, by decide +kernel⟩,
   ⟨0, 1, [], unit, desk, by decide +kernel⟩,
   ⟨0, 1, [1, 0, 0, 0], { unit with cfg.given := [((.CQA_THR, 1), 1)] }, desk, by decide +kernel⟩,
   ⟨0, 1, [], unit, desk, by decide +kernel⟩,
   ⟨0, 1, [], unit, desk, by decide +kernel⟩,
   ⟨0, 1, [2, 132, 199, 147], unit, desk, by decide +kernel⟩,
   ⟨0, 0, [4, 27, 250, 0], { unit with cmd.sessions := [{ e := 0 }] }, { e := 0 }, by decide +kernel⟩,
   ⟨0, 1, [3, 192, 226, 10], unit, desk, by decide +kernel⟩,
   ⟨0, 1, [239, 0, 1, 0, 1, 0, 0, 1], unit, desk, by decide +kernel⟩,
   ⟨0, 1, [46, 2, 138, 253], unit, desk, by decide +kernel⟩,
   ⟨0, 1, [11, 0, 64, 177], unit, desk, by decide +kernel⟩⟩

/-- The hypotheses of each clause of DmaEvents can be met. -/
theorem wit_DmaEvents :
    (∃ (n : Nat) (s : State), s.Inv ∧ 32 ≤ n) ∧
    (∃ (k : Nat) (s : State), s.Inv ∧ (k = 0 ∨ 3 < k)) ∧
    (∃ (n : Nat) (s : State), s.Inv ∧ n < 32 ∧ s.dom 1 = false) ∧
    (∃ (n : Nat) (s : State), s.Inv ∧ n < 32 ∧ s.dom 1 = true ∧ ((s.dch n).desc.isSome = true ∨ (s.dch n).en = false)) ∧
    (∃ (n : Nat) (s : State) (a : Nat), s.Inv ∧ n < 32 ∧ s.dom 1 = true ∧ (s.dch n).desc = none ∧ (s.dch n).en = true
      ∧ a = BitVec.toNat (s.dch n).descHi % 256 * 2 ^ 32 + BitVec.toNat (s.dch n).descLo ∧ a % 64 ≠ 0) ∧
    (∃ (n : Nat) (s : State) (a : Nat), s.Inv ∧ n < 32 ∧ s.dom 1 = true ∧ (s.dch n).desc = none ∧ (s.dch n).en = true
      ∧ a = BitVec.toNat (s.dch n).descHi % 256 * 2 ^ 32 + BitVec.toNat (s.dch n).descLo ∧ a % 64 = 0
      ∧ (inRange (if 24 ≤ n then partLo else dramLo) (if 24 ≤ n then partHi else sharedHi) a 64 = false)) ∧
    (∃ (n : Nat) (s : State) (a : Nat) (d : DmaDesc) (st : Nat), s.Inv ∧ n < 32 ∧ s.dom 1 = true ∧ (s.dch n).desc = none ∧ (s.dch n).en = true
      ∧ a = BitVec.toNat (s.dch n).descHi % 256 * 2 ^ 32 + BitVec.toNat (s.dch n).descLo ∧ a % 64 = 0
      ∧ (inRange (if 24 ≤ n then partLo else dramLo) (if 24 ≤ n then partHi else sharedHi) a 64 = true)
      ∧ (d = { s.dmaDesc a with startPos := if (s.dmaDesc a).circ = true then (s.dmaDesc a).circAddr % (s.dmaDesc a).size else 0 })
      ∧ st = s.dmaCheck n d (Memory.read s.dram.cells a 64)) ∧
    (∃ (n : Nat) (s : State), s.Inv ∧ n < 32 ∧ s.dom 1 = true ∧ (s.dch n).en = true) ∧
    (∃ (n : Nat) (s : State), s.Inv ∧ n < 32 ∧ (s.dch n).en = false) ∧
    (∃ (k : Nat) (s : State), s.Inv ∧ 1 ≤ k ∧ k ≤ 3) ∧
    (∃ (n : Nat) (s : State), s.Inv ∧ n < 32 ∧ ((s.dch n).desc = none ∨ (s.dch n).state ≠ 2)) ∧
    (∃ (n : Nat) (s : State) (d : DmaDesc), s.Inv ∧ n < 32 ∧ (s.dch n).desc = some d ∧ (s.dch n).state = 2 ∧ d.next ≠ 0) ∧
    (∃ (n : Nat) (s : State) (d : DmaDesc), s.Inv ∧ n < 32 ∧ (s.dch n).desc = some d ∧ (s.dch n).state = 2 ∧ d.dstCirc = false
      ∧ (d.dst + d.len ≤ pntLo ∨ pntHi < d.dst)) ∧
    (∃ (n : Nat) (s : State) (d : DmaDesc), s.Inv ∧ n < 32 ∧ (s.dch n).desc = some d ∧ (s.dch n).state = 2 ∧ d.dstCirc = false
      ∧ (d.dst + d.len ≤ pntLo ∨ pntHi < d.dst) ∧ d.next = 0) :=
  ⟨⟨32, unit, by unfold State.Inv; decide +kernel⟩,
   ⟨0, unit, by unfold State.Inv; decide +kernel⟩,
   ⟨0, State.reset, by unfold State.Inv; decide +kernel⟩,
   ⟨0, { unit with dma.chans := (unit.dma.chans.modify 0 (fun y => { y with desc := some { } })) }, by unfold State.Inv; decide +kernel⟩,
   ⟨0, { unit with dma.chans := (unit.dma.chans.modify 0 (fun y => { y with descLo := 1 })) }, 1, by unfold State.Inv; decide +kernel⟩,
   ⟨0, unit, 0, by unfold State.Inv; decide +kernel⟩,
   ⟨6, { unit with dma.chans := (unit.dma.chans.modify 6 (fun y => { y with descHi := 1 })) }, 4294967296, { addr := 4294967296 }, 4,
     by unfold State.Inv; decide +kernel⟩,
   ⟨0, unit, by unfold State.Inv; decide +kernel⟩,
   ⟨0, { unit with dma.chans := (unit.dma.chans.modify 0 (fun y => { y with en := false })) }, by unfold State.Inv; decide +kernel⟩,
   ⟨1, unit, by unfold State.Inv; decide +kernel⟩,
   ⟨0, unit, by unfold State.Inv; decide +kernel⟩,
   ⟨0, { unit with dma.chans := (unit.dma.chans.modify 0 (fun y => { y with state := 2, desc := some { next := 4 } })) }, { next := 4 },
     by unfold State.Inv; decide +kernel⟩,
   ⟨0, { unit with dma.chans := (unit.dma.chans.modify 0 (fun y => { y with state := 2, desc := some { } })) }, { },
     by unfold State.Inv; decide +kernel⟩,
   ⟨0, { unit with dma.chans := (unit.dma.chans.modify 0 (fun y => { y with state := 2, desc := some { } })) }, { },
     by unfold State.Inv; decide +kernel⟩⟩

/-- The hypotheses of each clause of DomainAndModeEvents can be met. -/
theorem wit_DomainAndModeEvents :
    (∃ (d : Nat), 12 ≤ d) ∧
    (∃ (d : Nat) (s : State) (j : DrainJob), d < 12 ∧ s.domJob d = some j ∧ j.restore = false ∧ s.dom d = false) ∧
    (∃ (d : Nat) (s : State) (j : DrainJob), d < 12 ∧ s.domJob d = some j ∧ j.restore = true) ∧
    (∃ (d : Nat) (s : State), d < 12 ∧ s.sys.mode = Mode.restore ∧ 0 < d ∧ s.dom d = false ∧ (domNeeds d).all s.dom = true ∧ s.imgStarts d = true
      ∧ s.sys.failedDom.testBit d = false) ∧
    (∃ (d : Nat) (s : State) (j : DrainJob), d < 12 ∧ s.sys.mode ≠ Mode.restore ∧ s.domJob d = some j ∧ j.restore = true ∧ s.imgStarts d = true
      ∧ (domNeeds d).all s.dom = true ∧ d ≠ 4 ∧ d ≠ 5) ∧
    (∃ (d : Nat) (s : State) (j : DrainJob), s.sys.mode ≠ Mode.restore ∧ s.domJob d = some j ∧ j.restore = true ∧ s.imgStarts d = true ∧ (d = 4
      ∨ d = 5) ∧ s.safe.startDue = false) ∧
    (∃ (d : Nat) (s : State), d < 12 ∧ s.sys.mode = Mode.restore) ∧
    (∃ (d : Nat) (s : State) (j : DrainJob), d < 12 ∧ s.sys.mode ≠ Mode.restore ∧ s.domJob d = some j ∧ j.restore = true) ∧
    (∃ (s : State), s.sys.restartAt = none) ∧
    (∃ (t : Nat) (s : State) (a : Nat), s.sys.restartAt = some (a, false) ∧ a ≤ max s.now t) ∧
    (∃ (t : Nat) (s : State) (a : Nat), s.sys.restartAt = some (a, true) ∧ a ≤ max s.now t) ∧
    (∃ (t : Nat) (s : State) (a : Nat) (c : Bool), s.sys.restartAt = some (a, c) ∧ max s.now t < a) ∧
    (∃ (s : State), s.sys.mode = Mode.restore ∧ s.keep.d0On = true ∧ s.keep.resetHeld = none) ∧
    (∃ (s : State), s.sys.mode ≠ Mode.restore) ∧
    (∃ (t : Nat) (s : State) (n : Nat) (q : Nat) (a : Nat), s.sys.holdReq = some (n, q, a) ∧ a ≤ max s.now t) ∧
    (∃ (t : Nat) (s : State) (n : Nat) (q : Nat) (a : Nat), s.sys.holdReq = some (n, q, a) ∧ max s.now t < a) ∧
    (∃ (t : Nat) (s : State) (a : Nat), s.sys.leavingHold = some a ∧ a + 30000000000 ≤ max s.now t) ∧
    (∃ (s : State) (a : Nat), s.sys.leavingHold = some a ∧ (∀ (c : Nat), c ∈ thrAll → s.alcConf c = false ∨ (s.ach c).t = 0)) ∧
    (∃ (s : State), s.sys.leavingHold = none) ∧
    (∃ (t : Nat) (s : State) (a : Nat), s.sys.keepExit = some a ∧ s.sys.mode = Mode.keep ∧ a ≤ max s.now t ∧ s.keep.d0On = true
      ∧ s.keep.resetHeld = none) ∧
    (∃ (s : State), s.sys.mode ≠ Mode.keep) ∧
    (∃ (t : Nat) (s : State) (d : Nat) (x : ImgSt), (d < 12 ∨ d = 128) ∧ s.img? d = some x
      ∧ (s.arrive t).held x.trial (s.parNs Param.IMG_TRIAL_TIME) = true) :=
  ⟨⟨128, by decide +kernel⟩,
   ⟨1, { State.reset with sys.jobs := [{ domain := 1 }] }, { domain := 1 }, by decide +kernel⟩,
   ⟨1, { unit with sys.jobs := [{ domain := 1, restore := true }] }, { domain := 1, restore := true }, by decide +kernel⟩,
   ⟨9, { unit with keep.powered := 3 }, by decide +kernel⟩,
   ⟨1, { unit with sys.mode := .service, sys.jobs := [{ domain := 1, restore := true }] }, { domain := 1, restore := true }, by decide +kernel⟩,
   ⟨4, { unit with safe.startDue := false, sys.mode := .safeStop, sys.jobs := [{ domain := 5, restore := true }] },
     { domain := 5, restore := true }, by decide +kernel⟩,
   ⟨0, unit, by decide +kernel⟩,
   ⟨4, { unit with sys.mode := .keep, sys.jobs := [{ domain := 4, restore := true }] }, { domain := 4, restore := true }, by decide +kernel⟩,
   ⟨unit, by decide +kernel⟩,
   ⟨0, { unit with sys.restartAt := some (6, false) }, 6, by decide +kernel⟩,
   ⟨0, { unit with sys.restartAt := some (10, true) }, 10, by decide +kernel⟩,
   ⟨0, { unit with sys.restartAt := some (255, false) }, 255, false, by decide +kernel⟩,
   ⟨unit, by decide +kernel⟩,
   ⟨{ unit with sys.mode := .service }, by decide +kernel⟩,
   ⟨0, { unit with sys.holdReq := some (3, (8, 4)) }, 3, 8, 4, by decide +kernel⟩,
   ⟨0, { State.reset with sys.holdReq := some (1, (0, 6)) }, 1, 0, 6, by decide +kernel⟩,
   ⟨0, { unit with now := 30000000000, sys.leavingHold := some 0 }, 0, by decide +kernel⟩,
   ⟨{ unit with sys.leavingHold := some 284 }, 284, by decide +kernel⟩,
   ⟨unit, by decide +kernel⟩,
   ⟨0, { unit with sys.mode := .keep, sys.keepExit := some 3 }, 3, by decide +kernel⟩,
   ⟨unit, by decide +kernel⟩,
   ⟨1000000000000000000, { unit with sys.images := [{ domain := 3, trial := some 191 }] }, 3, { domain := 3, trial := some 191 }, by decide +kernel⟩⟩

/-- The hypotheses of each clause of EngineEndsAndClusters can be met. -/
theorem wit_EngineEndsAndClusters :
    (∃ (i : Nat), 2 ≤ i) ∧
    (∃ (q : Nat), 4 ≤ q) ∧
    (∃ (i : Nat) (s : State), i < 2 ∧ (s.cl i).run = none) ∧
    (∃ (i : Nat) (s : State) (r : HenRun), i < 2 ∧ (s.cl i).run = some r) ∧
    (∃ (i : Nat) (s : State) (r : HenRun) (k : Nat) (j : HenJob), i < 2 ∧ (s.cl i).run = some r ∧ s.nextWork i = some (k, j) ∧ k < r.queue
      ∧ (s.cl i).susp = none ∧ iterative r.prob.op = true ∧ r.iters + 1 < r.prob.iter) ∧
    (∃ (i : Nat), i < 2) ∧
    (∃ (i : Nat) (s : State) (r : HenRun) (k : Nat) (j : HenJob), i < 2 ∧ (s.cl i).run = some r ∧ s.nextWork i = some (k, j) ∧ r.queue ≤ k) ∧
    (∃ (t : Nat) (q : Nat) (id : Nat) (s : State) (j : HenJob) (a : Nat), q < 4 ∧ s.job? q id = some j ∧ j.deadline = some a ∧ a ≤ (s.arrive t).raw) ∧
    (∃ (t : Nat) (q : Nat) (id : Nat) (s : State) (j : HenJob) (a : Nat), q < 4 ∧ s.job? q id = some j ∧ j.deadline = some a ∧ (s.arrive t).raw < a) ∧
    (∃ (q : Nat) (id : Nat) (s : State), q < 4 ∧ s.job? q id = none) ∧
    (∃ (q : Nat), q < 4) ∧
    (∃ (q : Nat) (tag : Word) (s : State) (j : HenJob), q < 4 ∧ (List.find? (fun (j : HenJob) => decide (j.tag = tag)) (s.hq q).jobs = some j)
      ∧ s.job? q j.id = some j ∧ j.started = false) ∧
    (∃ (q : Nat) (tag : Word) (s : State) (j : HenJob), q < 4 ∧ (List.find? (fun (j : HenJob) => decide (j.tag = tag)) (s.hq q).jobs = some j)
      ∧ s.job? q j.id = some j ∧ j.started = true) ∧
    (∃ (q : Nat) (s : State), q < 4 ∧ (s.hq q).en = true) ∧
    (∃ (q : Nat) (s : State), q < 4 ∧ (s.hq q).en = false) ∧
    (∃ (i : Nat) (s : State), i < 2 ∧ (s.cl i).en = true) ∧
    (∃ (i : Nat) (s : State), i < 2 ∧ (s.cl i).en = false) ∧
    (∃ (i : Nat) (s : State), i < 2 ∧ (s.cl i).powered = false) ∧
    (∃ (i : Nat) (s : State), i < 2 ∧ (s.cl i).powered = true) ∧
    (∃ (i : Nat) (s : State), i < 2 ∧ (s.cl i).draining = true ∧ s.dom (6 + i) = true ∧ s.clFinished i = true) ∧
    (∃ (i : Nat) (s : State), i < 2 ∧ (s.cl i).draining = false) :=
  ⟨⟨4, by decide +kernel⟩,
   ⟨21, by decide +kernel⟩,
   ⟨0, unit, by decide +kernel⟩,
   ⟨0, { unit with hen.cl0.run := some { } }, { }, by decide +kernel⟩,
   ⟨0,
     { unit with hen.cl0.run := some { queue := 37, prob := { op := 146, iter := 32 } }, hen.queues := (unit.hen.queues.modify 0 (fun y => { y with jobs := [{ count := 3, statAddr := 0, inStride := 64, outStride := 1, acceptedAt := 256, inline := [{ }, { }], queue := 1, next := 1, results := [{ }], ranOn := [32, 3, 0] }] })) },
     { queue := 37, prob := { op := 146, iter := 32 } }, 0,
     { count := 3, statAddr := 0, inStride := 64, outStride := 1, acceptedAt := 256, inline := [{ }, { }], queue := 1, next := 1, results := [{ }], ranOn := [32, 3, 0] },
     by decide +kernel⟩,
   ⟨0, by decide +kernel⟩,
   ⟨0,
     { unit with hen.cl0.run := some { }, hen.queues := (unit.hen.queues.modify 0 (fun y => { y with jobs := [{ count := 212, statAddr := 0, inStride := 209, outStride := 11, acceptedAt := 0, inline := [{ }, { }], queue := 20000, next := 1, results := [{ }, { }, { }], ranOn := [] }] })) },
     { }, 0,
     { count := 212, statAddr := 0, inStride := 209, outStride := 11, acceptedAt := 0, inline := [{ }, { }], queue := 20000, next := 1, results := [{ }, { }, { }], ranOn := [] },
     by decide +kernel⟩,
   ⟨10000000000, 2, 1,
     { unit with hen.queues := (unit.hen.queues.modify 2 (fun y => { y with jobs := [{ id := 1, deadline := some 236, inStride := 0, outStride := 3, acceptedAt := 20000000, inline := [{ }, { }, { }], queue := 1, next := 32, results := [], ranOn := [0] }] })) },
     { id := 1, deadline := some 236, inStride := 0, outStride := 3, acceptedAt := 20000000, inline := [{ }, { }, { }], queue := 1, next := 32, results := [], ranOn := [0] },
     236, by decide +kernel⟩,
   ⟨0, 2, 32,
     { unit with hen.queues := (unit.hen.queues.modify 2 (fun y => { y with jobs := [{ id := 32, deadline := some 27, inStride := 1, outStride := 64, acceptedAt := 294, inline := [{ }, { }, { }], queue := 3, next := 20000, results := [{ }], ranOn := [] }] })) },
     { id := 32, deadline := some 27, inStride := 1, outStride := 64, acceptedAt := 294, inline := [{ }, { }, { }], queue := 3, next := 20000, results := [{ }], ranOn := [] },
     27, by decide +kernel⟩,
   ⟨0, 0, unit, by decide +kernel⟩,
   ⟨0, by decide +kernel⟩,
   ⟨0, 1,
     { unit with hen.queues := (unit.hen.queues.modify 0 (fun y => { y with jobs := [{ tag := 1, statAddr := 20, inStride := 2, outStride := 3, acceptedAt := 25, inline := [], queue := 5, next := 0, results := [{ }], ranOn := [5] }] })) },
     { tag := 1, statAddr := 20, inStride := 2, outStride := 3, acceptedAt := 25, inline := [], queue := 5, next := 0, results := [{ }], ranOn := [5] },
     by decide +kernel⟩,
   ⟨2, 0,
     { unit with hen.queues := (unit.hen.queues.modify 2 (fun y => { y with jobs := [{ outAddr := 16, statAddr := 0, inStride := 0, outStride := 41, acceptedAt := 0, inline := [{ }, { }, { }], queue := 255, next := 2, results := [{ }, { }, { }], ranOn := [] }] })) },
     { outAddr := 16, statAddr := 0, inStride := 0, outStride := 41, acceptedAt := 0, inline := [{ }, { }, { }], queue := 255, next := 2, results := [{ }, { }, { }], ranOn := [] },
     by decide +kernel⟩,
   ⟨0, unit, by decide +kernel⟩,
   ⟨0, { unit with hen.queues := (unit.hen.queues.modify 0 (fun y => { y with en := false })) }, by decide +kernel⟩,
   ⟨0, unit, by decide +kernel⟩,
   ⟨0, { unit with hen.cl0.en := false }, by decide +kernel⟩,
   ⟨1, { unit with hen.cl1.powered := false }, by decide +kernel⟩,
   ⟨0, unit, by decide +kernel⟩,
   ⟨1, { unit with hen.cl1.draining := true }, by decide +kernel⟩,
   ⟨1, unit, by decide +kernel⟩⟩

/-- The hypotheses of each clause of EngineSubmissions can be met. -/
theorem wit_EngineSubmissions :
    (∃ (q : Nat), 4 ≤ q) ∧
    (∃ (q : Nat), q < 2) ∧
    (∃ (q : Nat) (who : Who) (s : State), q < 4 ∧ s.dom 1 = false ∧ (who = Who.app0 ∨ who = Who.app1 ∨ who = Who.part ∧ 2 ≤ q)) ∧
    (∃ (q : Nat) (who : Who), q < 4 ∧ (who = Who.safeP ∨ who = Who.dma)) ∧
    (∃ (q : Nat) (who : Who) (v : Word) (s : State) (c : Nat) (a : Nat), q < 4 ∧ s.dom 1 = true ∧ (who = Who.app0 ∨ who = Who.app1 ∨ who = Who.part
      ∧ 2 ≤ q) ∧ a = BitVec.toNat v % 256 * 2 ^ 32 + BitVec.toNat ((s.hq q).subs.getD who.req { }).lo
      ∧ (c = s.henCheck q a (Memory.read s.dram.cells a 64) (if who = Who.part then partLo else sharedLo) (if who = Who.part then partHi else sharedHi))
      ∧ c ≠ 0) ∧
    (∃ (q : Nat) (who : Who) (v : Word) (s : State) (a : Nat), q < 4 ∧ s.dom 1 = true ∧ (who = Who.app0 ∨ who = Who.app1 ∨ who = Who.part ∧ 2 ≤ q)
      ∧ a = BitVec.toNat v % 256 * 2 ^ 32 + BitVec.toNat ((s.hq q).subs.getD who.req { }).lo
      ∧ (s.henCheck q a (Memory.read s.dram.cells a 64) (if who = Who.part then partLo else sharedLo) (if who = Who.part then partHi else sharedHi) = 0)) ∧
    (∃ (q : Nat) (s : State), q < 4 ∧ q < s.hen.queues.length) ∧
    (∃ (q : Nat), q < 4) :=
  ⟨⟨8, by decide +kernel⟩,
   ⟨0, by decide +kernel⟩,
   ⟨0, .app1, State.reset, by decide +kernel⟩,
   ⟨0, .safeP, by decide +kernel⟩,
   ⟨0, .app0, 0, unit, 4, 0, by decide +kernel⟩,
   ⟨2, .app0, 1, { unit with dram.cells := Memory.write [] 0x100000000 (henDesc 0x180000000 0x180000040 0x180000080) }, 0x100000000,
     by decide +kernel⟩,
   ⟨0, unit, by decide +kernel⟩,
   ⟨3, by decide +kernel⟩⟩

/-- The hypotheses of each clause of EstimatorTimers can be met. -/
theorem wit_EstimatorTimers :
    (∃ (i : Nat), 28 ≤ i) ∧
    (∃ (t : Nat) (i : Nat) (s : State) (p : Nat), i < 28 ∧ i < s.est.slots.length ∧ s.slotSrc i = some p ∧ ((s.slot i).state = RefState.trial
      ∨ (s.slot i).state = RefState.accepted ∨ (s.slot i).state = RefState.rejected)
      ∧ (s.slot i).lastUsableAt + s.parNs Param.REF_TIMEOUT i ≤ max s.now t) ∧
    (∃ (t : Nat) (i : Nat) (s : State), i < 28 ∧ max s.now t < (s.slot i).lastUsableAt + s.parNs Param.REF_TIMEOUT i) ∧
    (∃ (t : Nat) (i : Nat) (s : State) (a : Nat), i < 28 ∧ i < s.est.slots.length ∧ (s.slot i).state = RefState.trial
      ∧ (s.slot i).trialSince = some a
      ∧ ((a + if (s.acceptedOf (s.slotKind i)).isEmpty = true then s.parNs Param.REF_TRIAL_DR i else s.parNs Param.REF_TRIAL_TIME i) ≤ max s.now t)) ∧
    (∃ (i : Nat) (s : State), i < 28 ∧ (s.slot i).state ≠ RefState.trial) ∧
    (∃ (t : Nat) (s : State), s.est.core.drPos = true ∧ s.est.core.posLost = false
      ∧ s.est.core.lastPosUpd + s.parNs Param.EST_DR_LIMIT ≤ max s.now t) ∧
    (∃ (t : Nat) (s : State), s.est.core.drHdg = true ∧ s.est.core.hdgLost = false
      ∧ s.est.core.lastHdgUpd + s.parNs Param.EST_HDG_DR_LIMIT ≤ max s.now t) ∧
    (∃ (s : State), s.est.core.drPos = false) ∧
    (∃ (s : State), 50 ≤ s.est.peerDiffRun) ∧
    (∃ (s : State), s.est.peerDiffRun < 50) :=
  ⟨⟨28, by decide +kernel⟩,
   ⟨0, 1,
     { unit with now := 20000000544, est.slots := (unit.est.slots.modify 1 (fun y => { y with state := .trial })), cfg.given := [((.REF_SOURCE, 1), (1 / 2))] },
     0, by decide +kernel⟩,
   ⟨0, 0, unit, by decide +kernel⟩,
   ⟨0, 0, { unit with now := 1000000000004, est.slots := (unit.est.slots.modify 0 (fun y => { y with state := .trial, trialSince := some 6 })) }, 6,
     by decide +kernel⟩,
   ⟨0, unit, by decide +kernel⟩,
   ⟨0, { unit with now := 1000000000000000000, est.core.drPos := true }, by decide +kernel⟩,
   ⟨0, { unit with now := 1000000000000000000, est.core.drHdg := true }, by decide +kernel⟩,
   ⟨unit, by decide +kernel⟩,
   ⟨{ unit with est.peerDiffRun := 119 }, by decide +kernel⟩,
   ⟨unit, by decide +kernel⟩⟩

/-- The hypotheses of each clause of FenceAndChannelCommands can be met. -/
theorem wit_FenceAndChannelCommands :
    (∃ (t : Nat) (q : Nat) (p : List Byte) (s : State) (x : Session), s.takes opRefSelect t x q false p = true) ∧
    (∃ (t : Nat) (q : Nat) (p : List Byte) (s : State) (x : Session), s.takes opRefRetry t x q false p = true) ∧
    (∃ (t : Nat) (q : Nat) (p : List Byte) (s : State) (x : Session), s.takes opEstReinit t x q false p = true) ∧
    (∃ (t : Nat) (q : Nat) (p : List Byte) (s : State) (x : Session), s.takes opAlcSelect t x q false p = true) ∧
    (∃ (t : Nat) (q : Nat) (p : List Byte) (s : State) (x : Session), s.takes opAlcSetBerm t x q false p = true) ∧
    (∃ (t : Nat) (q : Nat) (p : List Byte) (s : State) (x : Session), s.takes opAlcLearnReset t x q false p = true) ∧
    (∃ (t : Nat) (q : Nat) (p : List Byte) (s : State) (x : Session), s.takes opCqaCaseEnable t x q false p = true) ∧
    (∃ (t : Nat) (q : Nat) (p : List Byte) (s : State) (x : Session), s.takes opCqaWhatif t x q true p = true) ∧
    (∃ (t : Nat) (q : Nat) (p : List Byte) (s : State) (x : Session), s.takes opThrClear t x q false p = true ∧ (s.tch (fld p 0 1)).state ≠ 6) ∧
    (∃ (t : Nat) (q : Nat) (p : List Byte) (s : State) (x : Session), s.takes opThrClear t x q false p = true ∧ (s.tch (fld p 0 1)).state = 6) ∧
    (∃ (t : Nat) (q : Nat) (p : List Byte) (s : State) (x : Session), s.takes opThrEnable t x q false p = true) :=
  ⟨⟨0, 1, [1, 1, 71, 215], { unit with cfg.given := [((.REF_SOURCE, 1), 0)] }, desk, by decide +kernel⟩,
   ⟨0, 1, [0, 10, 111, 184], { unit with cfg.given := [((.REF_SOURCE, 0), 256)] }, desk, by decide +kernel⟩,
   ⟨0, 1, [], unit, desk, by decide +kernel⟩,
   ⟨0, 1, [3, 0, 72, 255], { unit with frame.running := true }, desk, by decide +kernel⟩,
   ⟨0, 1, [0, 252, 3, 254], { unit with frame.running := true }, desk, by decide +kernel⟩,
   ⟨0, 1, [4, 111, 32, 232], { unit with frame.running := true }, desk, by decide +kernel⟩,
   ⟨0, 1, [1, 0, 254, 2], { unit with cfg.given := [((.CQA_THR, 1), 8)] }, desk, by decide +kernel⟩,
   ⟨0, 1, [1] ++ List.replicate 27 0, { unit with sys.mode := .standby }, desk, by decide +kernel⟩,
   ⟨0, 1, [1, 0, 0, 0], { unit with cfg.given := [((.THR_TYPE, 1), 1), ((.ALC_TFWD, 1), 1)] }, desk, by decide +kernel⟩,
   ⟨0, 1, [1, 0, 0, 0],
     { unit with cfg.given := [((.THR_TYPE, 1), 1), ((.ALC_TFWD, 1), 1)], thr.chans := unit.thr.chans.modify 0 (fun c => { c with state := 6 }) }, desk,
     by decide +kernel⟩,
   ⟨0, 1, [1, 1, 0, 0], { unit with cfg.given := [((.THR_TYPE, 1), 1), ((.ALC_TFWD, 1), 1)] }, desk, by decide +kernel⟩⟩

/-- The hypotheses of each clause of FieldEvents can be met. -/
theorem wit_FieldEvents :
    (∃ (c : Nat) (s : State), s.Inv ∧ (c = 0 ∨ 96 < c)) ∧
    (∃ (g : Nat) (s : State), s.Inv ∧ (g = 0 ∨ 8 < g)) ∧
    (∃ (t : Nat) (c : Nat) (a0 : Nat) (lv : Bool) (v : Rat) (mA : Rat) (s : State) (b : Nat), s.Inv ∧ 1 ≤ c ∧ c ≤ 96 ∧ s.dom 11 = true
      ∧ s.fin c = true ∧ s.fstate (groupOf c) ≠ 2 ∧ (s.fch c).wireBreak = false ∧ lv = inputLevel (s.fmode c) (s.fch c).raw v mA
      ∧ ((s.fch c).level ≠ lv ∨ (s.fch c).pendingLevel = true) ∧ (b = if (s.fch c).pendingLevel = true then (s.fgr (groupOf c)).leftMissing else a0)
      ∧ max a0 b + s.parMs Param.FIO_FILTER c ≤ max s.now t) ∧
    (∃ (t : Nat) (c : Nat) (a0 : Nat) (lv : Bool) (v : Rat) (mA : Rat) (s : State), s.Inv ∧ 1 ≤ c ∧ c ≤ 96 ∧ s.dom 11 = true ∧ s.fin c = true
      ∧ lv = inputLevel (s.fmode c) (s.fch c).raw v mA ∧ ((s.fch c).level = lv ∧ (s.fch c).pendingLevel = false
      ∨ max s.now t < a0 + s.parMs Param.FIO_FILTER c)) ∧
    (∃ (c : Nat) (s : State), s.Inv ∧ 1 ≤ c ∧ c ≤ 96 ∧ (s.fin c = false ∨ s.dom 11 = false)) ∧
    (∃ (c : Nat) (mA : Rat) (s : State), s.Inv ∧ 1 ≤ c ∧ c ≤ 96 ∧ s.dom 11 = true ∧ s.fmode c = 3 ∧ s.fstate (groupOf c) < 2
      ∧ (s.fch c).wireBreak = false ∧ mA < 7 / 20) ∧
    (∃ (c : Nat) (s : State), s.Inv ∧ 1 ≤ c ∧ c ≤ 96 ∧ s.fmode c ≠ 3) ∧
    (∃ (t : Nat) (c : Nat) (a0 : Nat) (mA : Rat) (s : State), s.Inv ∧ 1 ≤ c ∧ c ≤ 96 ∧ s.dom 11 = true ∧ s.fmode c = 3 ∧ s.fstate (groupOf c) < 2
      ∧ (s.fch c).wireBreak = true ∧ 9 / 20 ≤ mA ∧ a0 + 100000000 ≤ max s.now t) ∧
    (∃ (t : Nat) (c : Nat) (a0 : Nat) (mA : Rat) (s : State), s.Inv ∧ 1 ≤ c ∧ c ≤ 96 ∧ s.dom 11 = true ∧ s.fmode c = 3
      ∧ ((s.fch c).wireBreak = false ∨ mA < 9 / 20 ∨ max s.now t < a0 + 100000000)) ∧
    (∃ (c : Nat) (s : State), s.Inv ∧ 1 ≤ c ∧ c ≤ 96 ∧ s.dom 11 = true ∧ s.fout c = true) ∧
    (∃ (c : Nat) (s : State), s.Inv ∧ 1 ≤ c ∧ c ≤ 96 ∧ s.fout c = false) ∧
    (∃ (t : Nat) (c : Nat) (s : State) (a : Nat), s.Inv ∧ 1 ≤ c ∧ c ≤ 96 ∧ (s.fch c).retryAt = some a ∧ a ≤ max s.now t) ∧
    (∃ (c : Nat) (s : State), s.Inv ∧ 1 ≤ c ∧ c ≤ 96 ∧ (s.fch c).retryAt = none) ∧
    (∃ (t : Nat) (g : Nat) (s : State) (a : Nat) (d : Nat), s.Inv ∧ 1 ≤ g ∧ g ≤ 8 ∧ (s.fgr g).overSince = some a ∧ a + 10000000 ≤ max s.now t
      ∧ s.fioNewest g = some d ∧ 1 ≤ d ∧ d ≤ 96 ∧ s.fout d = true) ∧
    (∃ (g : Nat) (s : State), s.Inv ∧ 1 ≤ g ∧ g ≤ 8 ∧ (s.fgr g).overSince = none) ∧
    (∃ (t : Nat) (g : Nat) (a0 : Nat) (v : Rat) (s : State), s.Inv ∧ 1 ≤ g ∧ g ≤ 8 ∧ s.dom 11 = true ∧ (s.fstate g = 0 ∨ s.fstate g = 1
      ∨ s.fstate g = 3) ∧ v < 12 ∧ a0 + 1000000 ≤ max s.now t) ∧
    (∃ (t : Nat) (g : Nat) (a0 : Nat) (v : Rat) (s : State), s.Inv ∧ 1 ≤ g ∧ g ≤ 8 ∧ s.dom 11 = true ∧ s.fstate g = 0 ∧ 12 ≤ v ∧ v < 18
      ∧ a0 + 1000000 ≤ max s.now t) ∧
    (∃ (t : Nat) (g : Nat) (a0 : Nat) (v : Rat) (s : State), s.Inv ∧ 1 ≤ g ∧ g ≤ 8 ∧ s.dom 11 = true ∧ s.fstate g = 1 ∧ 37 / 2 ≤ v
      ∧ a0 + 100000000 ≤ max s.now t) ∧
    (∃ (t : Nat) (g : Nat) (a0 : Nat) (v : Rat) (s : State), s.Inv ∧ 1 ≤ g ∧ g ≤ 8 ∧ s.dom 11 = true ∧ s.fstate g = 2 ∧ 25 / 2 ≤ v
      ∧ a0 + 100000000 ≤ max s.now t) ∧
    (∃ (t : Nat) (g : Nat) (a0 : Nat) (s : State), s.Inv ∧ 1 ≤ g ∧ g ≤ 8 ∧ (s.dom 11 = true → max s.now t < a0 + 1000000)) ∧
    (∃ (t : Nat) (g : Nat) (s : State), s.Inv ∧ 1 ≤ g ∧ g ≤ 8 ∧ (s.fgr g).restoreAt ≤ max s.now t ∧ s.fsupplied g = true) ∧
    (∃ (t : Nat) (g : Nat) (s : State) (k : Nat) (l : List Nat), s.Inv ∧ 1 ≤ g ∧ g ≤ 8 ∧ (s.fgr g).restoreAt ≤ max s.now t ∧ s.fsupplied g = true
      ∧ (s.fgr g).restore = k :: l) ∧
    (∃ (t : Nat) (g : Nat) (s : State), s.Inv ∧ 1 ≤ g ∧ g ≤ 8 ∧ max s.now t < (s.fgr g).restoreAt) ∧
    (∃ (t : Nat) (c : Nat) (s : State) (x : FioPulse), s.Inv ∧ 1 ≤ c ∧ c ≤ 96 ∧ (s.fch c).pulse = some x ∧ x.stop ≤ max s.now t) ∧
    (∃ (t : Nat) (c : Nat) (s : State) (x : FioPulse), s.Inv ∧ 1 ≤ c ∧ c ≤ 96 ∧ (s.fch c).pulse = some x ∧ max s.now t < x.stop) ∧
    (∃ (c : Nat) (s : State), s.Inv ∧ 1 ≤ c ∧ c ≤ 96 ∧ (s.fch c).pulse = none) :=
  ⟨⟨0, unit, by unfold State.Inv; decide +kernel⟩,
   ⟨0, unit, by unfold State.Inv; decide +kernel⟩,
   ⟨100000000, 1, 0, true, 24, 3, { unit with cfg.given := [((.FIO_MODE, 1), 1)] }, 0, by unfold State.Inv; decide +kernel⟩,
   ⟨0, 1, 0, false, 0, 0, { unit with cfg.given := [((.FIO_MODE, 1), 1)] }, by unfold State.Inv; decide +kernel⟩,
   ⟨1, unit, by unfold State.Inv; decide +kernel⟩,
   ⟨24, 0, { unit with cfg.given := [((.FIO_MODE, 24), 3)] }, by unfold State.Inv; decide +kernel⟩,
   ⟨1, unit, by unfold State.Inv; decide +kernel⟩,
   ⟨499999999999999, 2, 0, 1,
     { unit with fio.chans := (unit.fio.chans.modify 1 (fun y => { y with wireBreak := true })), cfg.given := [((.FIO_MODE, 2), 3)] },
     by unfold State.Inv; decide +kernel⟩,
   ⟨0, 1, 0, 0, { unit with cfg.given := [((.FIO_MODE, 1), 3)] }, by unfold State.Inv; decide +kernel⟩,
   ⟨2, { unit with cfg.given := [((.FIO_MODE, 2), 4)] }, by unfold State.Inv; decide +kernel⟩,
   ⟨1, unit, by unfold State.Inv; decide +kernel⟩,
   ⟨0, 2, { unit with fio.chans := (unit.fio.chans.modify 1 (fun y => { y with retryAt := some 2 })) }, 2, by unfold State.Inv; decide +kernel⟩,
   ⟨1, unit, by unfold State.Inv; decide +kernel⟩,
   ⟨1000000000000035, 1,
     { unit with fio.chans := (unit.fio.chans.modify 0 (fun y => { y with on := true })), fio.groups := (unit.fio.groups.modify 0 (fun y => { y with overSince := some 23 })), cfg.given := [((.FIO_MODE, 1), 4)] },
     23, 1, by unfold State.Inv; decide +kernel⟩,
   ⟨1, unit, by unfold State.Inv; decide +kernel⟩,
   ⟨0, 1, 0, 0, { unit with now := 10000000013, cfg.given := [((.FIO_MODE, 1), 8)] }, by unfold State.Inv; decide +kernel⟩,
   ⟨0, 1, 0, (31 / 2), { unit with now := 20000002, cfg.given := [((.FIO_MODE, 2), 3)] }, by unfold State.Inv; decide +kernel⟩,
   ⟨4294967295, 1, 0, (183 / 7),
     { unit with fio.groups := (unit.fio.groups.modify 0 (fun y => { y with state := 1 })), cfg.given := [((.FIO_MODE, 2), 9)] },
     by unfold State.Inv; decide +kernel⟩,
   ⟨0, 3, 0, (209 / 2),
     { unit with now := 1000000000000002, fio.groups := (unit.fio.groups.modify 2 (fun y => { y with state := 2 })), cfg.given := [((.FIO_MODE, 31), 3)] },
     by unfold State.Inv; decide +kernel⟩,
   ⟨0, 1, 0, unit, by unfold State.Inv; decide +kernel⟩,
   ⟨0, 1, { unit with cfg.given := [((.FIO_MODE, 1), 1)] }, by unfold State.Inv; decide +kernel⟩,
   ⟨0, 1, { unit with fio.groups := (unit.fio.groups.modify 0 (fun y => { y with restore := [2] })), cfg.given := [((.FIO_MODE, 1), 206)] }, 2, [],
     by unfold State.Inv; decide +kernel⟩,
   ⟨0, 8,
     { State.reset with fio.groups := (State.reset.fio.groups.modify 7 (fun y => { y with restoreAt := 1 })) }, by unfold State.Inv; decide +kernel⟩,
   ⟨0, 1, { unit with fio.chans := (unit.fio.chans.modify 0 (fun y => { y with pulse := some { } })) }, { }, by unfold State.Inv; decide +kernel⟩,
   ⟨0, 1, { unit with fio.chans := (unit.fio.chans.modify 0 (fun y => { y with pulse := some { stop := 97 } })) }, { stop := 97 },
     by unfold State.Inv; decide +kernel⟩,
   ⟨1, unit, by unfold State.Inv; decide +kernel⟩⟩

/-- The hypotheses of each clause of FrameInstants can be met. -/
theorem wit_FrameInstants :
    (∃ (s : State), s.frame.running = false) ∧
    (∃ (t : Nat) (s : State), (s.arrive t).frameDue = true) ∧
    (∃ (t : Nat) (s : State), (s.arrive t).frameDue = true ∧ (∃ (g : Nat), ∃ (n : Nat), ∃ (b : List Byte), s.cfg.commit = some (g, n, b) ∧ n ≤ 1)) ∧
    (∃ (s : State), s.cfg.commit = none) ∧
    (∃ (t : Nat) (s : State), s.frame.running = true ∧ s.dom 2 = true ∧ s.frame.phaseHold = false ∧ 3000000 ≤ (s.arrive t).frameElapsed) ∧
    (∃ (s : State), s.frame.phaseHold = true) ∧
    (∃ (t : Nat) (s : State), s.frame.running = true ∧ s.dom 2 = true ∧ s.frame.phaseHold = true ∧ s.frame.phaseAlloc = false
      ∧ 4000000 ≤ (s.arrive t).frameElapsed) ∧
    (∃ (s : State), s.frame.phaseHold = false) ∧
    (∃ (t : Nat) (s : State), s.dom 2 = true ∧ s.frame.running = true ∧ s.frame.phaseAlloc = true ∧ s.frame.phaseSealClosed = false
      ∧ 14000000 ≤ (s.arrive t).frameElapsed ∧ s.nominal.isSome = true) ∧
    (∃ (s : State), s.frame.phaseSealClosed = true) ∧
    (∃ (t : Nat) (s : State), s.frame.running = true ∧ s.dom 2 = true ∧ s.frame.phaseSealClosed = false ∧ 15900000 ≤ (s.arrive t).frameElapsed) ∧
    (∃ (t : Nat) (s : State), s.frame.running = true ∧ s.dom 2 = true ∧ s.frame.phaseSealClosed = false ∧ 15900000 ≤ (s.arrive t).frameElapsed
      ∧ s.alcPoses = true ∧ s.frame.sealedNow = [] ∧ s.red.commanding = false) ∧
    (∃ (t : Nat) (s : State), s.frame.running = true ∧ s.dom 2 = true ∧ s.frame.phaseSealClosed = false ∧ 15900000 ≤ (s.arrive t).frameElapsed
      ∧ s.alcPoses = true ∧ s.frame.sealedNow ≠ []) ∧
    (∃ (t : Nat) (s : State), s.frame.running = true ∧ s.frame.phaseCommit = false ∧ 16000000 ≤ (s.arrive t).frameElapsed) ∧
    (∃ (s : State), s.frame.phaseCommit = true) ∧
    (∃ (n : Nat), 2 ≤ n) ∧
    (∃ (n : Nat) (s : State), n < 2 ∧ s.tmu.selVc ≠ n) ∧
    (∃ (t : Nat) (n : Nat) (s : State), n < 2 ∧ (s.arrive t).atSecond n = false) ∧
    (∃ (n : Nat) (s : State), n < 2 ∧ (s.vc n).stepArm = false) ∧
    (∃ (t : Nat) (n : Nat) (s : State) (a : Nat), n < 2 ∧ (s.vc n).lastStepAt = some a ∧ max s.now t < a + 5000000000) ∧
    (∃ (t : Nat) (n : Nat) (s : State), n < 2 ∧ s.dom 9 = true ∧ s.tmu.selVc = n ∧ (s.vc n).stepArm = true ∧ (s.vc n).lastStepAt = none
      ∧ (s.arrive t).atSecond n = true ∧ (s.arrive t).stepBarred n = false) ∧
    (∃ (t : Nat) (n : Nat) (s : State), n < 2 ∧ s.dom 9 = true ∧ s.tmu.selVc = n ∧ (s.vc n).stepArm = true ∧ (s.vc n).lastStepAt = none
      ∧ (s.arrive t).atSecond n = true ∧ (s.arrive t).stepBarred n = true) :=
  ⟨⟨unit, by decide +kernel⟩,
   ⟨0, { State.reset with frame.running := true, keep.powered := 4095 }, by decide +kernel⟩,
   ⟨20000000, { unit with frame.running := true, cfg.commit := some (1, 1, []) }, by decide +kernel, ⟨1, 1, [], rfl, by decide⟩⟩,
   ⟨unit, by decide +kernel⟩,
   ⟨100000000, { unit with frame.running := true, frame.started := 1 }, by decide +kernel⟩,
   ⟨{ unit with frame.phaseHold := true }, by decide +kernel⟩,
   ⟨8000044, { unit with frame.running := true, frame.started := 1, frame.phaseHold := true }, by decide +kernel⟩,
   ⟨unit, by decide +kernel⟩,
   ⟨0, { unit with now := 13999998, frame.running := true, frame.started := 1, frame.phaseAlloc := true, alc.posed := [(0, { })], tmu.selD := 500 },
     by decide +kernel⟩,
   ⟨{ unit with frame.phaseSealClosed := true }, by decide +kernel⟩,
   ⟨0, { unit with frame.running := true, frame.started := 1, tmu.selD := 1000000000 }, by decide +kernel⟩,
   ⟨9999999999, { unit with frame.running := true, frame.started := 1, sys.mode := .standby }, by decide +kernel⟩,
   ⟨0, { unit with now := 1000000000000000, frame.running := true, frame.started := 1, frame.sealedNow := [1], sys.mode := .warden },
     by decide +kernel⟩,
   ⟨32000000, { unit with frame.running := true, frame.started := 1 }, by decide +kernel⟩,
   ⟨{ unit with frame.phaseCommit := true }, by decide +kernel⟩,
   ⟨2, by decide +kernel⟩,
   ⟨0, { unit with tmu.selVc := 1 }, by decide +kernel⟩,
   ⟨0, 0, unit, by decide +kernel⟩,
   ⟨0, unit, by decide +kernel⟩,
   ⟨0, 1, { unit with tmu.vc1.lastStepAt := some 109 }, 109, by decide +kernel⟩,
   ⟨0, 1, { State.reset with tmu.vc1.stepArm := true, tmu.selVc := 1, keep.powered := 4095 }, by decide +kernel⟩,
   ⟨0, 0, { State.reset with frame.stepAtFrame := some 10000000011, tmu.vc0.stepArm := true, keep.powered := 4095 }, by decide +kernel⟩⟩

/-- The hypotheses of each clause of HeartbeatEvents can be met. -/
theorem wit_HeartbeatEvents :
    (∃ (path : Nat), 3 ≤ path) ∧
    (∃ (t : Nat) (s : State), s.frame.running = true ∧ s.red.unit ≠ 3 ∧ s.dom 3 = true ∧ 3000000 ≤ (s.arrive t).frameElapsed
      ∧ s.red.hbFrame ≠ some s.frame.number ∧ s.red.relPend = none ∧ s.red.releaseDue = false) ∧
    (∃ (s : State), s.red.unit = 3 ∨ s.red.hbFrame = some s.frame.number) ∧
    (∃ (t : Nat) (s : State), (s.arrive t).frameElapsed < 3000000) ∧
    (∃ (path : Nat) (b : List Byte) (s : State), path < 3 ∧ s.shesenOk b = false) ∧
    (∃ (path : Nat) (b : List Byte) (s : State), path < 3 ∧ s.dom 3 = true ∧ s.shesenOk b = true ∧ (fld b 18 1).testBit 7 = false
      ∧ fld b 3 1 = s.red.unit) ∧
    (∃ (path : Nat) (k : Nat) (b : List Byte) (s : State), path < 3 ∧ s.dom 3 = true ∧ s.shesenOk b = true ∧ (fld b 18 1).testBit 7 = false
      ∧ fld b 3 1 = k ∧ k ≠ s.red.unit ∧ s.partners.contains k = true ∧ s.red.relPend = none ∧ s.arbiter = false ∧ (fld b 18 1).testBit 4 = false) ∧
    (∃ (path : Nat) (k : Nat) (b : List Byte) (s : State), path < 3 ∧ s.dom 3 = true ∧ s.shesenOk b = true ∧ (fld b 18 1).testBit 7 = false
      ∧ fld b 3 1 = k ∧ k ≠ s.red.unit ∧ s.partners.contains k = true ∧ s.arbiter = true ∧ (fld b 18 1).testBit 1 = true ∧ s.red.relPend = none
      ∧ (fld b 18 1).testBit 4 = false ∧ s.red.lease.holder = some k) ∧
    (∃ (path : Nat) (b : List Byte) (s : State), path < 3 ∧ s.partners.contains (fld b 3 1) = false ∧ fld b 3 1 ≠ s.red.unit) ∧
    (∃ (t : Nat) (s : State), s.frame.running = true ∧ s.dom 3 = true ∧ 6000000 ≤ (s.arrive t).frameElapsed ∧ s.red.missFrame ≠ some s.frame.number) ∧
    (∃ (s : State), s.red.missFrame = some s.frame.number) ∧
    (∃ (t : Nat) (s : State), (s.arrive t).frameElapsed < 6000000) ∧
    (∃ (k : Nat) (s : State), k < 3 ∧ (∀ (f : Nat), (s.partner k).laneFrame = some f → f < s.frame.number)
      ∧ (∀ (f : Nat), (s.partner k).lanFrame = some f → f < s.frame.number)) ∧
    (∃ (k : Nat) (s : State), k < 3 ∧ (∀ (f : Nat), (s.partner k).laneFrame = some f → f < s.frame.number)
      ∧ (∀ (f : Nat), (s.partner k).lanFrame = some f → f < s.frame.number) ∧ s.pairUnit = true ∧ (s.partner k).lost = false
      ∧ ((if k = 2 then 2 else 3) ≤ (s.partner k).missed + 1)) ∧
    (∃ (k : Nat) (s : State) (f : Nat), k < 3 ∧ s.frame.number ≤ f ∧ ((s.partner k).laneFrame = some f ∨ (s.partner k).lanFrame = some f)) ∧
    (∃ (k : Nat), 4 ≤ k) ∧
    (∃ (k : Nat) (s : State), k < 4 ∧ k ≠ s.red.strap) ∧
    (∃ (s : State), s.red.strap < 4) :=
  ⟨⟨296, by decide +kernel⟩,
   ⟨0, { unit with frame.running := true, frame.started := 1, tmu.selDRaw := 1000000000000000, red.unit := 0 }, by decide +kernel⟩,
   ⟨unit, by decide +kernel⟩,
   ⟨0, unit, by decide +kernel⟩,
   ⟨0, [], unit, by decide +kernel⟩,
   ⟨0, beat [(3, 0)], { unit with red.unit := 0 }, by decide +kernel⟩,
   ⟨0, 1, beat [(3, 1)], { unit with red.unit := 0 }, by decide +kernel⟩,
   ⟨0, 0, beat [(3, 0), (18, 2)], { unit with red.unit := 2, red.lease.holder := some 0 }, by decide +kernel⟩,
   ⟨0, [], unit, by decide +kernel⟩,
   ⟨6000001, { unit with frame.running := true, frame.started := 1 }, by decide +kernel⟩,
   ⟨{ unit with frame.number := 3, red.missFrame := some 3 }, by decide +kernel⟩,
   ⟨0, unit, by decide +kernel⟩,
   ⟨0, unit, by decide +kernel⟩,
   ⟨0, { unit with red.unit := 0, red.a.missed := 3, red.a.lost := false }, by decide +kernel⟩,
   ⟨2, { unit with red.w.laneFrame := some 1 }, 1, by decide +kernel⟩,
   ⟨4, by decide +kernel⟩,
   ⟨0, unit, by decide +kernel⟩,
   ⟨unit, by decide +kernel⟩⟩

/-- The hypotheses of each clause of HoldCommands can be met. -/
theorem wit_HoldCommands :
    (∃ (t : Nat) (q : Nat) (p : List Byte) (s : State) (x : Session), s.takes opHoldSelectFunction t x q false p = true) ∧
    (∃ (t : Nat) (q : Nat) (p : List Byte) (s : State) (x : Session), s.takes opHoldSetSetpoint t x q false p = true) ∧
    (∃ (t : Nat) (q : Nat) (p : List Byte) (s : State) (x : Session), s.takes opHoldSetEnd t x q false p = true) ∧
    (∃ (t : Nat) (q : Nat) (p : List Byte) (s : State) (x : Session), s.takes opHoldBprSet t x q false p = true) ∧
    (∃ (s : State), s.sys.mode ≠ Mode.standby ∧ s.sys.mode ≠ Mode.hold) ∧
    (∃ (p : List Byte), fld p 0 1 ≠ 1 ∧ fld p 0 1 ≠ 2) ∧
    (∃ (p : List Byte) (s : State), (s.sys.mode = Mode.standby ∨ s.sys.mode = Mode.hold) ∧ (fld p 0 1 = 1 ∨ fld p 0 1 = 2)) ∧
    (∃ (p : List Byte), 4 < fld p 0 1) :=
  ⟨⟨0, 1, [0, 240, 115, 0], { unit with sys.mode := .standby }, desk, by decide +kernel⟩,
   ⟨0, 1, List.replicate 12 0 ++ [2, 0, 0, 0], { unit with sys.mode := .standby }, desk, by decide +kernel⟩,
   ⟨0, 1, [2, 12, 254, 20], { unit with sys.mode := .hold }, desk, by decide +kernel⟩,
   ⟨0, 1, [1, 3, 3, 1, 4, 255, 221, 1], { unit with sys.mode := .standby }, desk, by decide +kernel⟩,
   ⟨unit, by decide +kernel⟩,
   ⟨[], by decide +kernel⟩,
   ⟨[2], { unit with sys.mode := .standby }, by decide +kernel⟩,
   ⟨[17], by decide +kernel⟩⟩

/-- The hypotheses of each clause of HoldCountersAndBerthPress can be met. -/
theorem wit_HoldCountersAndBerthPress :
    (∃ (s : State), s.hold.core.usesMpc = true ∧ s.hold.core.direct = false ∧ s.parN Param.HOLD_MPC_FAIL_FRAMES ≤ s.hold.core.mpcFail) ∧
    (∃ (s : State), s.hold.core.mpcFail < s.parN Param.HOLD_MPC_FAIL_FRAMES) ∧
    (∃ (s : State), s.hold.core.usesMpc = true ∧ s.hold.core.direct = true ∧ s.parN Param.HOLD_MPC_OK_FRAMES ≤ s.hold.core.mpcOk) ∧
    (∃ (s : State), s.hold.core.direct = false) ∧
    (∃ (t : Nat) (s : State) (a : Nat), s.hold.core.joyFrozen = true ∧ s.hold.core.joyCentredAt = some a ∧ a + 500000000 ≤ max s.now t) ∧
    (∃ (s : State), s.hold.core.joyFrozen = false) ∧
    (∃ (i : Nat), 4 ≤ i) ∧
    (∃ (t : Nat) (i : Nat) (s : State) (a : Nat), i < 4 ∧ assoc s.hold.excBelow i = some a ∧ a + 10000000000 ≤ max s.now t) ∧
    (∃ (i : Nat) (s : State), i < 4 ∧ assoc s.hold.excBelow i = none) ∧
    (∃ (t : Nat) (s : State) (a : Nat), s.hold.core.func = 4 ∧ (s.hold.core.bprState = 2 ∨ s.hold.core.bprState = 5)
      ∧ s.hold.core.bprStallSince = some a ∧ a + s.parNs Param.BPR_STALL_TIME ≤ max s.now t) ∧
    (∃ (s : State), s.hold.core.bprStallSince = none) ∧
    (∃ (t : Nat) (s : State), s.hold.core.func = 4 ∧ (s.hold.core.bprState = 1 ∨ s.hold.core.bprState = 2)
      ∧ s.hold.core.bprSelectedAt + s.parNs Param.BPR_CONTACT_TIMEOUT ≤ max s.now t) ∧
    (∃ (s : State), s.hold.core.func ≠ 4) ∧
    (∃ (t : Nat) (s : State), s.hold.core.func = 4 ∧ (s.hold.core.bprState = 3 ∨ s.hold.core.bprState = 4)
      ∧ (s.par Param.BPR_LOSS_DIST < s.hold.core.gap ∨ ∃ (a : Nat), s.hold.core.bprLossSince = some a ∧ a + 1000000000 ≤ max s.now t)) :=
  ⟨⟨{ unit with hold.core.func := 1, hold.core.mpcFail := 639 }, by decide +kernel⟩,
   ⟨unit, by decide +kernel⟩,
   ⟨{ unit with hold.core.func := 1, hold.core.direct := true, hold.core.mpcOk := 999999998 }, by decide +kernel⟩,
   ⟨unit, by decide +kernel⟩,
   ⟨0, { unit with now := 500000002, hold.core.joyFrozen := true, hold.core.joyCentredAt := some 1 }, 1, by decide +kernel⟩,
   ⟨unit, by decide +kernel⟩,
   ⟨1000000000000, by decide +kernel⟩,
   ⟨10000000099, 3, { unit with hold.excBelow := [(3, 25)] }, 25, by decide +kernel⟩,
   ⟨0, unit, by decide +kernel⟩,
   ⟨0, { unit with now := 1000000000000000, hold.core.func := 4, hold.core.bprState := 2, hold.core.bprStallSince := some 162 }, 162,
     by decide +kernel⟩,
   ⟨unit, by decide +kernel⟩,
   ⟨0, { unit with hold.core.func := 4, hold.core.bprState := 1, cfg.given := [((.BPR_CONTACT_TIMEOUT, 0), (-3))] }, by decide +kernel⟩,
   ⟨unit, by decide +kernel⟩,
   ⟨0, { unit with hold.core.func := 4, hold.core.bprState := 3, hold.core.gap := 1 }, by decide +kernel⟩⟩

/-- The hypotheses of each clause of JournalEvents can be met. -/
theorem wit_JournalEvents :
    (∃ (j : Nat) (s : State), s.dom 3 = true ∧ (∀ (f : InFlight), f ∈ s.cmd.inflight → f.jnum ≠ j)) ∧
    (∃ (j : Nat) (s : State) (f : InFlight), s.dom 3 = true ∧ (List.find? (fun (f : InFlight) => decide (f.jnum = j)) s.cmd.inflight = some f)) ∧
    (∃ (t : Nat) (j : Nat) (s : State), s.dom 3 = true
      ∧ (∀ (f : InFlight), f ∈ s.cmd.inflight → f.jnum = j → max s.now t < f.sentAt + s.parMs Param.CMD_MIRROR_TIMEOUT)) ∧
    (∃ (t : Nat) (j : Nat) (s : State) (f : InFlight), s.dom 3 = true ∧ s.cmd.inflight = [f] ∧ f.jnum = j
      ∧ f.sentAt + s.parMs Param.CMD_MIRROR_TIMEOUT ≤ max s.now t) ∧
    (∃ (s : State), s.dom 3 = true ∧ s.pairUnit = true) ∧
    (∃ (s : State) (e : JEntry), s.dom 3 = true ∧ s.pairUnit = true ∧ e.opcode ≠ 261) ∧
    (∃ (s : State) (e : JEntry), s.dom 3 = true ∧ s.pairUnit = true ∧ e.opcode = 261 ∧ fld e.params 13 1 = 2
      ∧ (∀ (a : Nat × Nat), a ∈ s.cmd.accepted → a.fst ≠ e.session)) ∧
    (∃ (s : State) (e : JEntry) (x : Session), s.dom 3 = true ∧ s.pairUnit = true ∧ e.opcode = 261 ∧ fld e.params 13 1 ≠ 2
      ∧ s.sess? e.session = some x) ∧
    (∃ (s : State), s.dom 3 = true ∧ s.pairUnit = false) :=
  ⟨⟨0, unit, by decide +kernel⟩,
   ⟨3, { unit with cmd.inflight := [{ jnum := 3 }] }, { jnum := 3 }, by decide +kernel⟩,
   ⟨0, 0, unit, by decide +kernel⟩,
   ⟨0, 123, { unit with now := 4294967295, cmd.inflight := [{ jnum := 123 }] }, { jnum := 123 }, by decide +kernel⟩,
   ⟨{ unit with red.unit := 0 }, by decide +kernel⟩,
   ⟨{ unit with red.unit := 0 }, { epoch := 0, closed := false, block := 0 }, by decide +kernel⟩,
   ⟨{ unit with red.unit := 0 }, { opcode := 261, params := List.replicate 13 0 ++ [2, 0, 0] }, by decide +kernel⟩,
   ⟨{ unit with cmd.sessions := [{ openReply := { }, iface := .svc, addr := 222, port := 1 }], red.unit := 0 },
     { opcode := 261, closed := false, block := 0 }, { openReply := { }, iface := .svc, addr := 222, port := 1 }, by decide +kernel⟩,
   ⟨unit, by decide +kernel⟩⟩

/-- The hypotheses of each clause of KeepStatPatterns can be met. -/
theorem wit_KeepStatPatterns :
    (∃ (s : State), s.keep.d0On = false) ∧
    (∃ (s : State) (a : Nat), s.keep.d0On = true ∧ s.keep.resetHeld = some a ∧ s.now < a + 30000000000) ∧
    (∃ (s : State) (a : Nat), s.keep.d0On = true ∧ s.keep.resetHeld = some a ∧ a + 30000000000 ≤ s.now) ∧
    (∃ (s : State), s.keep.d0On = true ∧ s.keep.resetHeld = none ∧ s.sys.mode = Mode.keep) ∧
    (∃ (s : State), s.keep.d0On = true ∧ s.keep.resetHeld = none ∧ (s.sys.mode = Mode.restore ∨ s.sys.mode = Mode.commission)) ∧
    (∃ (s : State), s.keep.d0On = true ∧ s.keep.resetHeld = none ∧ (s.sys.mode = Mode.standby ∨ s.sys.mode = Mode.hold ∨ s.sys.mode = Mode.warden
      ∨ s.sys.mode = Mode.service ∨ s.sys.mode = Mode.safeStop)) :=
  ⟨⟨{ unit with keep.d0On := false }, by decide +kernel⟩,
   ⟨{ unit with keep.resetHeld := some 29999999999 }, 29999999999, by decide +kernel⟩,
   ⟨{ unit with now := 30000000282, keep.resetHeld := some 200 }, 200, by decide +kernel⟩,
   ⟨{ unit with sys.mode := .keep }, by decide +kernel⟩,
   ⟨unit, by decide +kernel⟩,
   ⟨{ unit with sys.mode := .safeStop }, by decide +kernel⟩⟩

/-- The hypotheses of each clause of LeaseEvents can be met. -/
theorem wit_LeaseEvents :
    (∃ (path : Nat), 3 ≤ path) ∧
    (∃ (path : Nat) (b : List Byte) (s : State), path < 3 ∧ s.dom 3 = true ∧ s.shesenOk b = true ∧ (fld b 18 1).testBit 7 = true ∧ fld b 3 1 = 2
      ∧ fld b 24 1 = s.red.unit ∧ s.pairUnit = true ∧ s.parN Param.RED_MODE ≠ 1 ∧ s.red.commanding = true ∧ s.red.w.lost = false) ∧
    (∃ (path : Nat) (b : List Byte) (s : State), path < 3 ∧ s.dom 3 = true ∧ s.shesenOk b = true ∧ (fld b 18 1).testBit 7 = true ∧ fld b 3 1 = 2
      ∧ fld b 24 1 = s.red.unit ∧ s.pairUnit = true ∧ s.parN Param.RED_MODE ≠ 1 ∧ s.red.commanding = false ∧ s.candidate = true) ∧
    (∃ (path : Nat) (b : List Byte) (s : State), path < 3 ∧ fld b 24 1 ≠ s.red.unit) ∧
    (∃ (path : Nat) (b : List Byte) (s : State), path < 3 ∧ s.shesenOk b = false) ∧
    (∃ (t : Nat) (s : State), s.leased = true ∧ (s.arrive t).leaseAge 60000000 = true ∧ s.maySuspend = false) ∧
    (∃ (t : Nat) (s : State), s.leased = true ∧ (s.arrive t).leaseAge 60000000 = true ∧ s.maySuspend = true) ∧
    (∃ (s : State), s.leased = false) ∧
    (∃ (t : Nat) (s : State), (s.arrive t).leaseAge 60000000 = false) ∧
    (∃ (t : Nat) (k : Nat) (s : State), s.arbiter = true ∧ s.red.lease.holder = some k ∧ k ≠ 2 ∧ s.red.lease.expires ≤ max s.now t) ∧
    (∃ (t : Nat) (s : State), max s.now t < s.red.lease.expires) ∧
    (∃ (t : Nat) (s : State) (g : Nat), s.arbiter = true ∧ s.red.lease.guardUntil = some g ∧ g ≤ max s.now t) ∧
    (∃ (s : State), s.red.lease.guardUntil = none) ∧
    (∃ (t : Nat) (s : State), s.red.check.running = true ∧ 2 ≤ s.red.check.frames ∧ 19000000 ≤ (s.arrive t).frameElapsed
      ∧ s.checkCan ||| s.red.check.failedAo ||| s.checkRole = 0) ∧
    (∃ (t : Nat) (s : State), s.red.check.running = true ∧ 2 ≤ s.red.check.frames ∧ 19000000 ≤ (s.arrive t).frameElapsed
      ∧ s.checkCan ||| s.red.check.failedAo ||| s.checkRole ≠ 0 ∧ s.mayYield = true) ∧
    (∃ (s : State), s.red.check.running = false) ∧
    (∃ (t : Nat) (s : State), s.red.commanding = true ∧ s.red.rotation = some 1 ∧ 18500000 ≤ (s.arrive t).frameElapsed ∧ s.red.unit ≠ 2) ∧
    (∃ (t : Nat) (s : State), s.red.commanding = true ∧ s.red.rotation = some 1 ∧ 18500000 ≤ (s.arrive t).frameElapsed ∧ s.red.unit = 2) ∧
    (∃ (s : State), s.red.rotation ≠ some 1) ∧
    (∃ (k : Nat), k = 0 ∨ 2 < k) ∧
    (∃ (t : Nat) (k : Nat) (s : State) (a : Nat), (k = 1 ∨ k = 2) ∧ assoc s.red.relayBadSince k = some a ∧ a + 1000000000 ≤ max s.now t) ∧
    (∃ (k : Nat) (s : State), (k = 1 ∨ k = 2) ∧ assoc s.red.relayBadSince k = none) ∧
    (∃ (t : Nat) (s : State), s.parN Param.RED_ROTATE_HOURS * 3600000000000 ≤ (s.arrive t).rotateAge.red.rotateAge) ∧
    (∃ (t : Nat) (s : State), (s.arrive t).rotateAge.red.rotateAge < s.parN Param.RED_ROTATE_HOURS * 3600000000000) ∧
    (∃ (s : State), s.red.commanding = true) :=
  ⟨⟨6, by decide +kernel⟩,
   ⟨0, beat [(3, 2), (18, 128), (24, 0)], { unit with red.unit := 0, red.commanding := true, red.w.lost := false }, by decide +kernel⟩,
   ⟨0, beat [(3, 2), (18, 128), (24, 0)], { unit with red.unit := 0, red.pairHold := true, red.health := 1, sys.mode := .standby },
     by decide +kernel⟩,
   ⟨0, [], unit, by decide +kernel⟩,
   ⟨0, [], unit, by decide +kernel⟩,
   ⟨0, { unit with red.unit := 0, red.commanding := true }, by decide +kernel⟩,
   ⟨0, { unit with red.unit := 0, red.commanding := true, red.b.laneFrame := some 40, red.b.flags := 4 }, by decide +kernel⟩,
   ⟨unit, by decide +kernel⟩,
   ⟨0, { unit with red.grantedAt := some 128 }, by decide +kernel⟩,
   ⟨0, 34, { unit with red.unit := 2, red.lease.holder := some 34 }, by decide +kernel⟩,
   ⟨0, { State.reset with red.lease.expires := 1 }, by decide +kernel⟩,
   ⟨200, { unit with red.unit := 2, red.lease.guardUntil := some 81 }, 81, by decide +kernel⟩,
   ⟨unit, by decide +kernel⟩,
   ⟨4294967569, { unit with frame.started := 1, red.check.running := true, red.check.frames := 87 }, by decide +kernel⟩,
   ⟨0,
     { unit with now := 1000000000000000, frame.started := 1, red.unit := 0, red.b.lost := false, red.b.score := 1, red.check.running := true, red.check.frames := 634, red.check.failedAo := 1, red.check.prev := some 1 },
     by decide +kernel⟩,
   ⟨unit, by decide +kernel⟩,
   ⟨0, { unit with now := 18500163, frame.started := 1, red.commanding := true, red.rotation := some 1 }, by decide +kernel⟩,
   ⟨1000001000065903, { unit with frame.started := 1, red.unit := 2, red.commanding := true, red.rotation := some 1 }, by decide +kernel⟩,
   ⟨unit, by decide +kernel⟩,
   ⟨0, by decide +kernel⟩,
   ⟨0, 1, { unit with now := 4294967295, red.relayBadSince := [(1, 999999999)] }, 999999999, by decide +kernel⟩,
   ⟨1, unit, by decide +kernel⟩,
   ⟨0, { unit with cfg.given := [((.RED_ROTATE_HOURS, 0), 0)] }, by decide +kernel⟩,
   ⟨0, unit, by decide +kernel⟩,
   ⟨{ unit with red.commanding := true }, by decide +kernel⟩⟩

/-- The hypotheses of each clause of MemoryErrors can be met. -/
theorem wit_MemoryErrors :
    (∃ (a : Nat), between dramLo a dramHi = false) ∧
    (∃ (a : Nat) (s : State) (w : Who), between dramLo a dramHi = true ∧ s.dom 1 = true ∧ dramMay w a = false ∧ w ≠ Who.part) ∧
    (∃ (a : Nat) (w : Who), between dramLo a dramHi = true ∧ dramMay w a = true) ∧
    (∃ (a : Nat) (s : State), between dramLo a dramHi = true ∧ s.dom 1 = true) ∧
    (∃ (a : Nat) (s : State), between dramLo a dramHi = true ∧ s.dom 1 = true ∧ a < app1Lo) ∧
    (∃ (a : Nat) (s : State), s.dom 1 = true ∧ app1Lo ≤ a ∧ a ≤ app1Hi) ∧
    (∃ (a : Nat) (s : State), between dramLo a dramHi = true ∧ s.dom 1 = true ∧ app1Hi < a) ∧
    (∃ (a : Nat) (s : State) (n : Nat) (d : DmaDesc), between dramLo a dramHi = true ∧ s.dom 1 = true ∧ app1Hi < a ∧ (s.dch n).desc = some d
      ∧ (s.dch n).state = 2) ∧
    (∃ (a : Nat) (s : State) (i : Nat) (r : HenRun), between dramLo a dramHi = true ∧ s.dom 1 = true ∧ app1Hi < a ∧ (s.cl i).run = some r) ∧
    (∃ (a : Nat) (s : State) (i : Nat), between dramLo a dramHi = true ∧ s.dom 1 = true ∧ app1Hi < a ∧ (s.cl i).run = none) ∧
    (∃ (s : State), s.dom 2 = false) ∧
    (∃ (s : State), s.dom 2 = true ∧ (s.red.unit ≠ 3 ∨ s.sys.mode = Mode.keep)) ∧
    (∃ (s : State), s.dom 3 = true ∧ (s.red.unit ≠ 3 ∨ s.sys.mode = Mode.keep)) ∧
    (∃ (s : State) (b : Bool), (s.dom (if b = true then 3 else 2) = true) ∧ s.red.unit = 3 ∧ s.sys.mode ≠ Mode.keep ∧ s.sys.mode ≠ Mode.safeStop) :=
  ⟨⟨0, by decide +kernel⟩,
   ⟨10737418239, unit, .app1, by decide +kernel⟩,
   ⟨9663676416, .dma, by decide +kernel⟩,
   ⟨10737418239, unit, by decide +kernel⟩,
   ⟨2147483648, unit, by decide +kernel⟩,
   ⟨4294967296, unit, by decide +kernel⟩,
   ⟨10737418239, unit, by decide +kernel⟩,
   ⟨10737418238, { unit with dma.chans := (unit.dma.chans.modify 3 (fun y => { y with state := 2, desc := some { } })) }, 3, { }, by decide +kernel⟩,
   ⟨6442450944, { unit with hen.cl1.run := some { } }, 1, { }, by decide +kernel⟩,
   ⟨10000000000, unit, 0, by decide +kernel⟩,
   ⟨State.reset, by decide +kernel⟩,
   ⟨{ unit with sys.mode := .keep }, by decide +kernel⟩,
   ⟨{ unit with red.unit := 0 }, by decide +kernel⟩,
   ⟨unit, false, by decide +kernel⟩⟩

/-- The hypotheses of each clause of Mirrors can be met. -/
theorem wit_Mirrors :
    (∃ (t : Nat) (s : State), (s.arrive t).mirrorSpan = false) ∧
    (∃ (t : Nat) (s : State), (s.arrive t).mirrorSpan = true ∧ s.dom 3 = true ∧ s.pairUnit = true ∧ s.red.commanding = true) ∧
    (∃ (t : Nat) (s : State), (s.arrive t).mirrorSpan = true ∧ s.dom 3 = true ∧ s.pairUnit = true ∧ s.red.commanding = false
      ∧ s.red.marksOut = false) ∧
    (∃ (s : State), s.pairUnit = false) ∧
    (∃ (m : MirrorData) (s : State), s.dom 3 = true ∧ s.pairUnit = true ∧ s.red.commanding = false ∧ m.active = true) ∧
    (∃ (m : MirrorData) (s : State), s.dom 3 = true ∧ s.pairUnit = true ∧ (s.red.commanding = true ∨ m.active = false)) ∧
    (∃ (m : MirrorData) (s : State) (n : Nat), s.frame.mirrorApplied = some n ∧ m.frame < n) ∧
    (∃ (m : MirrorData) (s : State) (n : Nat), s.frame.mirrorApplied = some n ∧ n ≤ m.frame ∧ s.frame.mirrorHeld = none) ∧
    (∃ (s : State), s.red.commanding = true ∧ s.pairUnit = true ∧ s.frame.running = true ∧ s.dom 3 = true) ∧
    (∃ (s : State), s.red.commanding = false) ∧
    (∃ (s : State), s.dom 3 = true ∧ s.red.unit = 2 ∧ s.red.commanding = false ∧ s.frame.mirrorApplied = none) ∧
    (∃ (s : State), s.red.unit ≠ 2) :=
  ⟨⟨0, unit, by decide +kernel⟩,
   ⟨16000000, { unit with frame.running := true, frame.started := 1, red.unit := 0, red.commanding := true }, by decide +kernel⟩,
   ⟨16000001, { unit with frame.running := true, frame.started := 1, red.unit := 0 }, by decide +kernel⟩,
   ⟨unit, by decide +kernel⟩,
   ⟨{ }, { unit with red.unit := 0 }, by decide +kernel⟩,
   ⟨{ active := false }, { unit with red.unit := 0 }, by decide +kernel⟩,
   ⟨{ }, { unit with frame.mirrorApplied := some 11 }, 11, by decide +kernel⟩,
   ⟨{ }, { unit with frame.mirrorApplied := some 0 }, 0, by decide +kernel⟩,
   ⟨{ unit with frame.running := true, red.unit := 0, red.commanding := true }, by decide +kernel⟩,
   ⟨unit, by decide +kernel⟩,
   ⟨{ unit with red.unit := 2 }, by decide +kernel⟩,
   ⟨unit, by decide +kernel⟩⟩

/-- The hypotheses of each clause of OverlappingCopies can be met. -/
theorem wit_OverlappingCopies :
    (∃ (n : Nat) (s : State) (d : DmaDesc) (i : Nat), s.Inv ∧ n < 32 ∧ (s.dch n).desc = some d ∧ (s.dch n).state = 2 ∧ d.circ = false ∧ d.next = 0
      ∧ (d.dst + d.len ≤ pntLo ∨ pntHi < d.dst) ∧ i < d.len ∧ (d.dst + i < d.addr + 36 ∨ d.addr + 48 ≤ d.dst + i)) ∧
    (∃ (n : Nat) (s : State) (a : Nat) (d : DmaDesc), s.Inv ∧ n < 32 ∧ s.dom 1 = true ∧ (s.dch n).desc = none ∧ (s.dch n).en = true
      ∧ a = BitVec.toNat (s.dch n).descHi % 256 * 2 ^ 32 + BitVec.toNat (s.dch n).descLo ∧ a % 64 = 0
      ∧ (inRange (if 24 ≤ n then partLo else dramLo) (if 24 ≤ n then partHi else sharedHi) a 64 = true)
      ∧ (d = { s.dmaDesc a with startPos := if (s.dmaDesc a).circ = true then (s.dmaDesc a).circAddr % (s.dmaDesc a).size else 0 })
      ∧ fld (Memory.read s.dram.cells a 64) 48 16 = 0 ∧ BitVec.toNat d.ctrl / 4096 = 0 ∧ 8 ≤ d.len ∧ 6 ≤ d.log2 ∧ d.log2 ≤ 24 ∧ d.src < 2 ^ 40
      ∧ d.dst < 2 ^ 40 ∧ d.next < 2 ^ 40 ∧ d.src % 8 = 0 ∧ d.dst % 8 = 0 ∧ d.len % 8 = 0 ∧ pntCut (d.span true) = false
      ∧ s.dmaReach n (d.span true).fst (d.span true).snd false = true ∧ s.dmaReach n (d.span false).fst (d.span false).snd true = true
      ∧ (d.srcCirc = true ∧ d.dstCirc = false ∧ overlaps d.base d.size d.dst d.len = true ∨ d.srcCirc = false ∧ d.dstCirc = true
      ∧ overlaps d.base d.size d.src d.len = true)) :=
  ⟨⟨0, { unit with dma.chans := (unit.dma.chans.modify 0 (fun y => { y with state := 2, desc := some { len := 36 } })) }, { len := 36 }, 0,
     by unfold State.Inv; decide +kernel⟩,
   ⟨0,
     { unit with dram.cells := Memory.write [] 0x180000000 (leBytes 8 0x180001000 ++ leBytes 8 0x180001008 ++ leBytes 4 8 ++ leBytes 4 25), dma.chans := unit.dma.chans.modify 0 (fun c => { c with descHi := 1, descLo := 0x80000000 }) },
     0x180000000,
     { State.dmaDesc { unit with dram.cells := Memory.write [] 0x180000000 (leBytes 8 0x180001000 ++ leBytes 8 0x180001008 ++ leBytes 4 8 ++ leBytes 4 25), dma.chans := unit.dma.chans.modify 0 (fun c => { c with descHi := 1, descLo := 0x80000000 }) } 0x180000000 with startPos := 0 },
     by unfold State.Inv; decide +kernel⟩⟩

/-- The hypotheses of each clause of PartitionEvents can be met. -/
theorem wit_PartitionEvents :
    (∃ (t : Nat) (n : Nat) (s : State), s.part.running = true ∧ n ≤ 1000000 ∧ s.part.slicesFrame + n ≤ 8000000 ∧ (s.frame.running = false
      ∨ s.frame.started = 0 ∨ (s.arrive t).frameElapsed ≤ 15500000 ∨ 19000000 + n ≤ (s.arrive t).frameElapsed)) ∧
    (∃ (n : Nat) (s : State), 1000000 < n ∨ 8000000 < s.part.slicesFrame + n) ∧
    (∃ (t : Nat) (n : Nat) (s : State), s.frame.running = true ∧ s.frame.started ≠ 0 ∧ 15500000 < (s.arrive t).frameElapsed
      ∧ (s.arrive t).frameElapsed < 19000000 + n) ∧
    (∃ (s : State), s.part.running = false) ∧
    (∃ (n : Nat) (s : State), s.part.running = true ∧ s.dom 3 = true ∧ between partLo n partHi = false ∧ inWin n = false) ∧
    (∃ (t : Nat) (s : State), s.part.running = true
      ∧ (3 ≤ (List.filter (fun (a : Nat) => decide (max s.now t < a + 600000000000)) s.part.restarts).length)) ∧
    (∃ (t : Nat) (s : State), s.part.running = true
      ∧ ((List.filter (fun (a : Nat) => decide (max s.now t < a + 600000000000)) s.part.restarts).length < 3)) ∧
    (∃ (t : Nat) (s : State), s.part.watchdogAt + 500000000 ≤ max s.now t) ∧
    (∃ (t : Nat) (s : State), max s.now t < s.part.watchdogAt + 500000000) ∧
    (∃ (s : State), s.part.stoppedByFaults = true ∧ s.part.present = true ∧ s.part.running = false ∧ s.dom 3 = true ∧ s.partJobs = []) :=
  ⟨⟨0, 0, { unit with part.running := true }, by decide +kernel⟩,
   ⟨1000000, { unit with part.slicesFrame := 7999999 }, by decide +kernel⟩,
   ⟨19000000, 0, { unit with frame.running := true, frame.startT := 1, frame.started := 1 }, by decide +kernel⟩,
   ⟨unit, by decide +kernel⟩,
   ⟨0, { unit with part.running := true }, by decide +kernel⟩,
   ⟨0, { unit with part.running := true, part.restarts := [600000000000, 1, 600000000000] }, by decide +kernel⟩,
   ⟨0, { unit with part.running := true }, by decide +kernel⟩,
   ⟨0, { unit with now := 1000000003 }, by decide +kernel⟩,
   ⟨0, unit, by decide +kernel⟩,
   ⟨{ unit with part.present := true, part.stoppedByFaults := true }, by decide +kernel⟩⟩

/-- The hypotheses of each clause of PointCommands can be met. -/
theorem wit_PointCommands :
    (∃ (t : Nat) (q : Nat) (p : List Byte) (s : State) (x : Session), s.takes opPointWrite t x q false p = true ∧ s.force? (fld p 0 4) = none) ∧
    (∃ (t : Nat) (q : Nat) (p : List Byte) (s : State) (x : Session) (f : Forced), s.takes opPointWrite t x q false p = true
      ∧ s.force? (fld p 0 4) = some f) ∧
    (∃ (t : Nat) (q : Nat) (p : List Byte) (s : State) (x : Session), s.takes opPointForce t x q false p = true ∧ s.force? (fld p 0 4) = none) ∧
    (∃ (t : Nat) (q : Nat) (p : List Byte) (s : State) (x : Session) (f : Forced) (k : Point), s.takes opPointUnforce t x q false p = true
      ∧ s.force? (fld p 0 4) = some f ∧ f.kept = some k) ∧
    (∃ (t : Nat) (q : Nat) (p : List Byte) (s : State) (x : Session), s.takes opPointSubscribe t x q false p = true) ∧
    (∃ (t : Nat) (q : Nat) (p : List Byte) (s : State) (x : Session), s.takes opPointUnsubscribe t x q false p = true) :=
  ⟨⟨0, 1, leBytes 4 32768 ++ List.replicate 20 0, { unit with cfg.given := [((.PNT_PRODUCER, 32768), 513), ((.PNT_TYPE, 32768), 2)] }, desk,
     by decide +kernel⟩,
   ⟨0, 1, leBytes 4 32768 ++ List.replicate 20 0,
     { unit with cfg.given := [((.PNT_PRODUCER, 32768), 513), ((.PNT_TYPE, 32768), 2)], pnt.forced := [(32768, { })] }, desk, { }, by decide +kernel⟩,
   ⟨0, 1, leBytes 4 32768 ++ List.replicate 12 0, { unit with cfg.given := [((.PNT_TYPE, 32768), 2)] }, desk, by decide +kernel⟩,
   ⟨0, 1, leBytes 4 32768, { unit with pnt.forced := [(32768, { kept := some { } })] }, desk, { kept := some { } }, { }, by decide +kernel⟩,
   ⟨0, 1, [1, 0, 0, 1] ++ List.replicate 8 0, unit, desk, by decide +kernel⟩,
   ⟨0, 1, [1, 0, 0, 0], { unit with pnt.subs := [{ num := 1, session := 1 }] }, desk, by decide +kernel⟩⟩

/-- The hypotheses of each clause of PointEventsAndNotifications can be met. -/
theorem wit_PointEventsAndNotifications :
    (∃ (k : Nat), 512 ≤ k) ∧
    (∃ (p : Nat), cfgPoint p = false) ∧
    (∃ (p : Nat) (k : Nat) (v : Dword) (s : State), k < 512 ∧ s.dom 1 = true ∧ s.prodCfg k = true ∧ s.producedBy p k = true
      ∧ encodedFor (s.cfgType p) v = true ∧ s.force? p = none) ∧
    (∃ (p : Nat) (k : Nat) (v : Dword) (s : State), k < 512 ∧ s.dom 1 = true ∧ s.prodCfg k = true ∧ s.producedBy p k = true
      ∧ encodedFor (s.cfgType p) v = false ∧ s.force? p = none) ∧
    (∃ (p : Nat) (k : Nat) (v : Dword) (s : State) (f : Forced), k < 512 ∧ s.dom 1 = true ∧ s.prodCfg k = true ∧ s.producedBy p k = true
      ∧ encodedFor (s.cfgType p) v = true ∧ s.force? p = some f) ∧
    (∃ (p : Nat) (k : Nat) (s : State), k < 512 ∧ s.dom 1 = true ∧ s.prodCfg k = true ∧ s.producedBy p k = false) ∧
    (∃ (t : Nat) (k : Nat) (s : State), k < 512 ∧ s.dom 1 = true ∧ s.prodCfg k = true ∧ (s.prod k).state = 1
      ∧ (s.prod k).lastMsg + s.parMs Param.PNT_PROD_TIMEOUT k ≤ max s.now t) ∧
    (∃ (t : Nat) (k : Nat) (s : State), k < 512 ∧ s.dom 1 = true ∧ max s.now t < (s.prod k).lastMsg + s.parMs Param.PNT_PROD_TIMEOUT k) ∧
    (∃ (t : Nat) (p : Nat) (s : State), cfgPoint p = true ∧ s.dom 1 = true ∧ (s.arrive t).pointTimedOut p = true ∧ s.timedShown p = false
      ∧ s.force? p = none ∧ s.parB Param.PNT_SUBST p = false) ∧
    (∃ (t : Nat) (p : Nat) (s : State), cfgPoint p = true ∧ s.dom 1 = true ∧ (s.arrive t).pointTimedOut p = true ∧ s.timedShown p = false
      ∧ s.force? p = none ∧ s.parB Param.PNT_SUBST p = true) ∧
    (∃ (t : Nat) (p : Nat) (s : State), cfgPoint p = true ∧ (s.arrive t).pointTimedOut p = false) ∧
    (∃ (t : Nat) (s : State), s.part.running = true ∧ s.dom 1 = true ∧ (s.arrive t).wrCheck = 0) ∧
    (∃ (t : Nat) (s : State), s.part.running = true ∧ s.dom 1 = true ∧ (s.arrive t).wrCheck ≠ 0 ∧ (s.arrive t).wrCheck ≠ 5) ∧
    (∃ (s : State), s.part.running = false) ∧
    (∃ (t : Nat) (n : Nat) (s : State) (b : Subscr) (x : Session), (List.find? (fun (b : Subscr) => decide (b.num = n)) s.pnt.subs = some b)
      ∧ s.sess? b.session = some x ∧ s.frame.running = true ∧ s.frame.startAt + 19000000 ≤ max s.now t ∧ max s.now t ≤ s.frame.startAt + 20000000
      ∧ s.notifies x = true ∧ b.period ≤ b.wait ∧ s.subReport b ≠ [] ∧ x.dormant = false ∧ x.closing = false) ∧
    (∃ (n : Nat) (s : State) (b : Subscr), (List.find? (fun (b : Subscr) => decide (b.num = n)) s.pnt.subs = some b) ∧ s.frame.running = false) ∧
    (∃ (t : Nat) (n : Nat) (s : State) (b : Subscr), (List.find? (fun (b : Subscr) => decide (b.num = n)) s.pnt.subs = some b)
      ∧ s.frame.startAt + 20000000 < max s.now t) ∧
    (∃ (n : Nat) (s : State) (b : Subscr), (List.find? (fun (b : Subscr) => decide (b.num = n)) s.pnt.subs = some b) ∧ b.wait < b.period) :=
  ⟨⟨513, by decide +kernel⟩,
   ⟨0, by decide +kernel⟩,
   ⟨32768, 1, 0, { unit with cfg.given := [((.PNT_PRODUCER, 32768), 1), ((.PNT_TYPE, 32768), 2), ((.PNT_PROD_TRANSPORT, 1), 0)] },
     by decide +kernel⟩,
   ⟨32768, 1, 65536, { unit with cfg.given := [((.PNT_PRODUCER, 32768), 1), ((.PNT_TYPE, 32768), 5), ((.PNT_PROD_TRANSPORT, 1), 0)] },
     by decide +kernel⟩,
   ⟨32768, 1, 0,
     { unit with cfg.given := [((.PNT_PRODUCER, 32768), 1), ((.PNT_TYPE, 32768), 2), ((.PNT_PROD_TRANSPORT, 1), 0)], pnt.forced := [(32768, { })] },
     { }, by decide +kernel⟩,
   ⟨0, 0, { unit with cfg.given := [((.PNT_PROD_TRANSPORT, 0), 0)] }, by decide +kernel⟩,
   ⟨10000000000000, 1,
     { unit with cfg.given := [((.PNT_PRODUCER, 32768), 1), ((.PNT_TYPE, 32768), 2), ((.PNT_PROD_TRANSPORT, 1), 0)], pnt.producers := [(1, { state := 1 })] },
     by decide +kernel⟩,
   ⟨0, 0, unit, by decide +kernel⟩,
   ⟨10000000000000, 32768, { unit with cfg.given := [((.PNT_TYPE, 32768), 2), ((.PNT_TIMEOUT, 32768), 100), ((.PNT_SUBST, 32768), 0)] },
     by decide +kernel⟩,
   ⟨10000000000000, 32768, { unit with cfg.given := [((.PNT_TYPE, 32768), 2), ((.PNT_TIMEOUT, 32768), 100), ((.PNT_SUBST, 32768), 1)] },
     by decide +kernel⟩,
   ⟨0, 65536, unit, by decide +kernel⟩,
   ⟨0, { unit with part.running := true, pnt.wrIdx := 32768, cfg.given := [((.PNT_PRODUCER, 32768), 512), ((.PNT_TYPE, 32768), 2)] },
     by decide +kernel⟩,
   ⟨0, { unit with part.running := true }, by decide +kernel⟩,
   ⟨unit, by decide +kernel⟩,
   ⟨0, 16,
     { unit with now := 20065536, frame.running := true, frame.startAt := 65597, cmd.sessions := [{ iface := .svc }], pnt.subs := [{ num := 16, points := [16, 16, 16, 16, 16, 16, 16, 16, 16, 16, 16, 16, 16, 16, 16, 16, 16, 16, 16, 16, 16, 16, 16, 16, 16, 16, 16, 16, 16, 16, 16, 16, 16, 16], wait := 3 }] },
     { num := 16, points := [16, 16, 16, 16, 16, 16, 16, 16, 16, 16, 16, 16, 16, 16, 16, 16, 16, 16, 16, 16, 16, 16, 16, 16, 16, 16, 16, 16, 16, 16, 16, 16, 16, 16], wait := 3 },
     { iface := .svc }, by decide +kernel⟩,
   ⟨4, { unit with pnt.subs := [{ num := 4 }] }, { num := 4 }, by decide +kernel⟩,
   ⟨0, 1, { unit with now := 1000000000000000000, pnt.subs := [{ num := 1 }] }, { num := 1 }, by decide +kernel⟩,
   ⟨5, { unit with pnt.subs := [{ num := 5 }] }, { num := 5 }, by decide +kernel⟩⟩

/-- The hypotheses of each clause of PowerEnvelopes can be met. -/
theorem wit_PowerEnvelopes :
    (∃ (port : Nat), between 1 port 4 = false) ∧
    (∃ (port : Nat) (f : CanFrame) (s : State), between 1 port 4 = true ∧ s.pwrSourceOf f.index port f = none) ∧
    (∃ (port : Nat) (f : CanFrame) (s : State) (k : Nat), between 1 port 4 = true ∧ s.dom 10 = true ∧ f.ext = true ∧ f.func = 64
      ∧ between 1 f.index 4 = true ∧ s.pwrSourceOf f.index port f = some k
      ∧ (f.fd && decide (f.data.length = 16) && decide (f.prio = 2) && f.crcOk && pwrRange f.data) = false) ∧
    (∃ (port : Nat) (f : CanFrame) (s : State), between 1 port 4 = true ∧ s.dom 10 = true ∧ f.ext = true ∧ f.func = 64 ∧ between 1 f.index 4 = true
      ∧ s.pwrSourceOf f.index port f = some 1 ∧ (f.fd && decide (f.data.length = 16) && decide (f.prio = 2) && f.crcOk && pwrRange f.data) = true
      ∧ (s.sect f.index).src1.counter ≠ some (byte (fld f.data 13 1))) ∧
    (∃ (port : Nat) (f : CanFrame) (s : State), between 1 port 4 = true ∧ s.dom 10 = true ∧ f.ext = true ∧ f.func = 64 ∧ between 1 f.index 4 = true
      ∧ s.pwrSourceOf f.index port f = some 1 ∧ (f.fd && decide (f.data.length = 16) && decide (f.prio = 2) && f.crcOk && pwrRange f.data) = true
      ∧ (s.sect f.index).src1.counter = some (byte (fld f.data 13 1))) ∧
    (∃ (port : Nat) (f : CanFrame) (s : State), between 1 port 4 = true ∧ s.dom 10 = true ∧ f.ext = true ∧ f.func = 64 ∧ between 1 f.index 4 = true
      ∧ s.pwrSourceOf f.index port f = some 2 ∧ (f.fd && decide (f.data.length = 16) && decide (f.prio = 2) && f.crcOk && pwrRange f.data) = true
      ∧ (s.sect f.index).src2.counter ≠ some (byte (fld f.data 13 1))) ∧
    (∃ (port : Nat) (f : CanFrame) (s : State), between 1 port 4 = true ∧ s.dom 10 = true ∧ f.ext = true ∧ f.func = 64 ∧ between 1 f.index 4 = true
      ∧ s.pwrSourceOf f.index port f = some 2 ∧ (f.fd && decide (f.data.length = 16) && decide (f.prio = 2) && f.crcOk && pwrRange f.data) = true
      ∧ (s.sect f.index).src2.counter = some (byte (fld f.data 13 1))) ∧
    (∃ (n : Nat), between 1 n 4 = false) ∧
    (∃ (n : Nat) (s : State), between 1 n 4 = true ∧ (s.pwrCurrent (s.sect n).src1 = true ∨ s.pwrCurrent (s.sect n).src2 = true)) ∧
    (∃ (n : Nat) (s : State), between 1 n 4 = true ∧ s.pwrCurrent (s.sect n).src1 = false ∧ s.pwrCurrent (s.sect n).src2 = false) ∧
    (∃ (n : Nat) (s : State), between 1 n 4 = true ∧ (s.sect n).state = 2 ∧ (s.pwrCurrent (s.sect n).src1 = true
      ∧ s.parN Param.PWR_FRESH_COUNT ≤ (s.sect n).src1.run ∨ s.pwrCurrent (s.sect n).src2 = true
      ∧ s.parN Param.PWR_FRESH_COUNT ≤ (s.sect n).src2.run)) ∧
    (∃ (n : Nat) (s : State), between 1 n 4 = true ∧ (s.sect n).state ≠ 2) ∧
    (∃ (n : Nat) (s : State), between 1 n 4 = true ∧ s.parN Param.PWR_LIMIT_FRAMES ≤ (s.sect n).bindRun) ∧
    (∃ (n : Nat) (s : State), between 1 n 4 = true ∧ (s.sect n).bindRun < s.parN Param.PWR_LIMIT_FRAMES
      ∧ s.parN Param.PWR_LIMIT_FRAMES ≤ (s.sect n).freeRun) :=
  ⟨⟨0, by decide +kernel⟩,
   ⟨1, { }, unit, by decide +kernel⟩,
   ⟨1, { canMsg 2 64 1 5 [] with data := [] }, { unit with cfg.given := [((.PWR_PORT, 1), 1), ((.PWR_SRC, 1), 5)] }, 1, by decide +kernel⟩,
   ⟨1, canMsg 2 64 1 5 ([0, 0, 0, 0, 0, 0, 0, 0, 0, 0, 0x80, 0x3F, 0, 0]), { unit with cfg.given := [((.PWR_PORT, 1), 1), ((.PWR_SRC, 1), 5)] },
     by decide +kernel⟩,
   ⟨1, canMsg 2 64 1 5 ([0, 0, 0, 0, 0, 0, 0, 0, 0, 0, 0x80, 0x3F, 0, 0]),
     { unit with cfg.given := [((.PWR_PORT, 1), 1), ((.PWR_SRC, 1), 5)], alc.sections := unit.alc.sections.modify 0 (fun x => { x with src1.counter := some 0 }) }, by decide +kernel⟩,
   ⟨1, canMsg 2 64 1 5 ([0, 0, 0, 0, 0, 0, 0, 0, 0, 0, 0x80, 0x3F, 0, 0]), { unit with cfg.given := [((.PWR_PORT2, 1), 1), ((.PWR_SRC2, 1), 5)] },
     by decide +kernel⟩,
   ⟨1, canMsg 2 64 1 5 ([0, 0, 0, 0, 0, 0, 0, 0, 0, 0, 0x80, 0x3F, 0, 0]),
     { unit with cfg.given := [((.PWR_PORT2, 1), 1), ((.PWR_SRC2, 1), 5)], alc.sections := unit.alc.sections.modify 0 (fun x => { x with src2.counter := some 0 }) }, by decide +kernel⟩,
   ⟨0, by decide +kernel⟩,
   ⟨1, { unit with alc.sections := (unit.alc.sections.modify 0 (fun y => { y with src2.last := some 8 })) }, by decide +kernel⟩,
   ⟨1, unit, by decide +kernel⟩,
   ⟨4, { unit with alc.sections := (unit.alc.sections.modify 3 (fun y => { y with state := 2, src2.last := some 1073, src2.run := 7 })) },
     by decide +kernel⟩,
   ⟨1, unit, by decide +kernel⟩,
   ⟨2, { unit with alc.sections := (unit.alc.sections.modify 1 (fun y => { y with bindRun := 359 })) }, by decide +kernel⟩,
   ⟨1, { unit with alc.sections := (unit.alc.sections.modify 0 (fun y => { y with freeRun := 178 })) }, by decide +kernel⟩⟩

/-- The hypotheses of each clause of QueueAndTimeKept can be met. -/
theorem wit_QueueAndTimeKept :
    (∃ (c : Instr) (s : State) (u : State), s.Inv ∧ exec c s = Host.Outcome.next u) :=
  ⟨.henDrainDone 0 0, unit, unit.arrive 0, by unfold State.Inv; decide +kernel, rfl⟩

/-- The hypotheses of each clause of ReceiverAndEngineCommands can be met. -/
theorem wit_ReceiverAndEngineCommands :
    (∃ (t : Nat) (q : Nat) (p : List Byte) (s : State) (x : Session), s.takes opSatRestart t x q false p = true ∧ s.dom 8 = false) ∧
    (∃ (t : Nat) (q : Nat) (p : List Byte) (s : State) (x : Session), s.takes opSatRestart t x q false p = true ∧ s.dom 8 = true) ∧
    (∃ (t : Nat) (q : Nat) (p : List Byte) (s : State) (x : Session) (b : State), s.takes opSatRestart t x q false p = true ∧ s.dom 8 = true
      ∧ b.dom 8 = true) ∧
    (∃ (t : Nat) (q : Nat) (p : List Byte) (s : State) (x : Session), s.takes opSatIntegrityReset t x q false p = true) ∧
    (∃ (t : Nat) (q : Nat) (p : List Byte) (s : State) (x : Session) (e : Int), s.takes opSatTimeAccept t x q false p = true
      ∧ s.sat.time.held = some e) ∧
    (∃ (t : Nat) (q : Nat) (p : List Byte) (s : State) (x : Session) (e : Int) (b : State), s.takes opSatTimeAccept t x q false p = true
      ∧ s.sat.time.held = some e ∧ b.sat.time.held = some e) ∧
    (∃ (t : Nat) (q : Nat) (p : List Byte) (s : State) (x : Session), s.takes opSatExclude t x q false p = true) ∧
    (∃ (t : Nat) (q : Nat) (p : List Byte) (s : State) (x : Session), s.takes opSatAntBias t x q false p = true ∧ s.dom 8 = false) ∧
    (∃ (t : Nat) (q : Nat) (p : List Byte) (s : State) (x : Session), s.takes opSatAntBias t x q false p = true ∧ s.dom 8 = true) ∧
    (∃ (t : Nat) (q : Nat) (p : List Byte) (s : State) (x : Session), s.takes opHenSubmit t x q true p = true) ∧
    (∃ (t : Nat) (q : Nat) (p : List Byte) (s : State) (x : Session), s.takes opHenCancel t x q false p = true) :=
  ⟨⟨0, 1, [2, 3, 0, 138], { unit with keep.powered := 104 }, desk, by decide +kernel⟩,
   ⟨0, 1, [2, 1, 250, 139], unit, desk, by decide +kernel⟩,
   ⟨0, 1, [2, 49, 0, 2], unit, desk, unit, by decide +kernel⟩,
   ⟨0, 1, [], unit, desk, by decide +kernel⟩,
   ⟨0, 1, [], { unit with sat.time.held := some 5, alarms := [(.TIME_INCONSISTENT, 0)] }, desk, 5, by decide +kernel⟩,
   ⟨0, 1, [], { unit with sat.time.held := some 5, alarms := [(.TIME_INCONSISTENT, 0)] }, desk, 5, { unit with sat.time.held := some 5 },
     by decide +kernel⟩,
   ⟨0, 1, [0, 3, 0, 1], unit, desk, by decide +kernel⟩,
   ⟨0, 1, [1, 1, 54, 1], { unit with keep.powered := 1000000125 }, desk, by decide +kernel⟩,
   ⟨0, 1, [1, 1, 1, 210], unit, desk, by decide +kernel⟩,
   ⟨0, 1, henDesc 0 0 0 ++ [0, 2, 0, 0] ++ List.replicate 32 0, unit, desk, by decide +kernel⟩,
   ⟨0, 1, [2, 0, 0, 0, 0, 0, 0, 0],
     { unit with hen.queues := unit.hen.queues.modify 2 (fun x => { x with jobs := [{ origin := .command 1 1 0 }] }) }, desk, by decide +kernel⟩⟩

/-- The hypotheses of each clause of ReceiverInputs can be met. -/
theorem wit_ReceiverInputs :
    (∃ (a : Nat), between 1 a 4 = false) ∧
    (∃ (a : Nat) (s : State), between 1 a 4 = true ∧ s.dom 8 = false) ∧
    (∃ (t : Nat) (a : Nat) (s : State) (i : Nat), between 1 a 4 = true ∧ s.dom 8 = true ∧ (s.ant a).biasOn = true ∧ (s.ant a).openSince = some i
      ∧ i + 1000000000 ≤ max s.now t) ∧
    (∃ (a : Nat) (s : State), between 1 a 4 = true ∧ ((s.ant a).biasOn = false ∨ (s.ant a).openSince = none)) ∧
    (∃ (a : Nat) (s : State), between 1 a 4 = true ∧ s.dom 8 = true ∧ (s.ant a).biasOn = true) ∧
    (∃ (t : Nat) (a : Nat) (s : State) (i : Nat), between 1 a 4 = true ∧ s.dom 8 = true ∧ (s.ant a).shortAt = some i
      ∧ i + 10000000000 ≤ max s.now t) ∧
    (∃ (t : Nat) (a : Nat) (s : State) (i : Nat), between 1 a 4 = true ∧ s.dom 8 = true ∧ (s.ant a).geomSince = some i
      ∧ i + 10000000000 ≤ max s.now t ∧ (s.ant a).excluded = false) ∧
    (∃ (via : RtcmVia) (s : State), s.rtcmFrom via = false) ∧
    (∃ (b : List Byte) (s : State) (p : Nat), s.rtcmFrom (RtcmVia.udp p) = true ∧ s.dom 8 = true ∧ b.getD 0 0 ≠ 211) ∧
    (∃ (b : List Byte) (s : State) (p : Nat) (y : SatSys), s.rtcmFrom (RtcmVia.udp p) = true ∧ s.dom 8 = true ∧ rtcmSound b = true
      ∧ rtcmSys (msbField b 24 12) = some y ∧ (y = SatSys.beidou → rtcmBds b = true)) ∧
    (∃ (s : State) (n : Nat) (e : Nat), s.rtcmFrom (RtcmVia.ser n e) = true ∧ e ≠ 0) ∧
    (∃ (b : List Byte) (s : State) (n : Nat), s.rtcmFrom (RtcmVia.ser n 0) = true ∧ rtcmSound b = true ∧ s.dom 8 = true) :=
  ⟨⟨0, by decide +kernel⟩,
   ⟨1, State.reset, by decide +kernel⟩,
   ⟨1000000000000000000, 1, { unit with sat.ants := (unit.sat.ants.modify 0 (fun y => { y with biasOn := true, openSince := some 10000000 })) },
     10000000, by decide +kernel⟩,
   ⟨1, unit, by decide +kernel⟩,
   ⟨1, { unit with sat.ants := (unit.sat.ants.modify 0 (fun y => { y with biasOn := true })) }, by decide +kernel⟩,
   ⟨0, 1, { unit with now := 1000000000000, sat.ants := (unit.sat.ants.modify 0 (fun y => { y with shortAt := some 10000000001 })) }, 10000000001,
     by decide +kernel⟩,
   ⟨0, 1, { unit with now := 1000000000000000002, sat.ants := (unit.sat.ants.modify 0 (fun y => { y with geomSince := some 0 })) }, 0,
     by decide +kernel⟩,
   ⟨(.ser 1 0), unit, by decide +kernel⟩,
   ⟨[], { unit with cfg.given := [((.SAT_RTCM_PORT, 0), 13), ((.SAT_RTCM_UDP, 0), 0)] }, 0, by decide +kernel⟩,
   ⟨rtcm, { unit with cfg.given := [((.SAT_RTCM_PORT, 0), 13), ((.SAT_RTCM_UDP, 0), 5000)] }, 5000, .gps, by decide +kernel⟩,
   ⟨{ unit with cfg.given := [((.BUS_SER_PROTO, 1), 10), ((.BUS_SER_MODE, 1), 1), ((.SAT_RTCM_PORT, 0), 1)] }, 1, 1, by decide +kernel⟩,
   ⟨rtcm, { unit with cfg.given := [((.SAT_RTCM_PORT, 0), 1), ((.BUS_SER_MODE, 1), 1), ((.BUS_SER_PROTO, 1), 2)] }, 1, by decide +kernel⟩⟩

/-- The hypotheses of each clause of ReceiverSignals can be met. -/
theorem wit_ReceiverSignals :
    (∃ (s : State), s.satOn = false) ∧
    (∃ (s : State), s.satOn = true) ∧
    (∃ (id : SigId) (el : Rat) (s : State), s.satOn = true ∧ id.valid = true ∧ s.par Param.SAT_ELEV_MASK ≤ el ∧ id.sys ≠ SatSys.sbas
      ∧ (∀ (c : SatChan), c ∈ s.sat.chans → c.id ≠ id) ∧ s.sat.chans.length < 384) ∧
    (∃ (el : Rat) (s : State), s.satOn = true ∧ el < s.par Param.SAT_ELEV_MASK) ∧
    (∃ (id : SigId) (s : State), s.satOn = true ∧ id.valid = false) ∧
    (∃ (t : Nat) (id : SigId) (s : State), s.satOn = true ∧ (s.sat.time.qual = 1
      ∨ 5 ≤ State.masterSats { s.arrive t with sat := { s.sat with chans := s.sat.chans.map (fun c => if c.id = id then { c with lostAt := some (c.lostAt.getD (max s.now t)) } else c) } })) ∧
    (∃ (t : Nat) (id : SigId) (s : State), s.satOn = true ∧ s.sat.time.qual ≠ 1
      ∧ (State.masterSats { s.arrive t with sat := { s.sat with chans := s.sat.chans.map (fun c => if c.id = id then { c with lostAt := some (c.lostAt.getD (max s.now t)) } else c) } } < 5)) :=
  ⟨⟨unit, by decide +kernel⟩,
   ⟨{ unit with sat.state := 2 }, by decide +kernel⟩,
   ⟨{ sys := .beidou, sig := .b2a }, 70, { unit with sat.state := 3 }, by decide +kernel⟩,
   ⟨0, { unit with sat.state := 3 }, by decide +kernel⟩,
   ⟨{ ant := 0 }, { unit with sat.state := 3 }, by decide +kernel⟩,
   ⟨0, { }, { unit with sat.state := 2, sat.time.qual := 1 }, by decide +kernel⟩,
   ⟨0, { }, { unit with sat.state := 3 }, by decide +kernel⟩⟩

/-- The hypotheses of each clause of ReceiverTime can be met. -/
theorem wit_ReceiverTime :
    (∃ (t : Nat) (s : State), s.dom 8 = true ∧ (s.sat.time.qual = 1 ∨ s.sat.time.qual = 3) ∧ s.sat.time.lastUpdate + 1000000000 ≤ max s.now t) ∧
    (∃ (t : Nat) (s : State), max s.now t < s.sat.time.lastUpdate + 1000000000) ∧
    (∃ (t : Nat) (s : State) (w : Nat) (e : Int) (l : List (Nat × Int)) (a : Nat), s.satOn = true ∧ s.sat.time.offsets = (w, e) :: l
      ∧ s.sat.time.qual = 2 ∧ s.sat.time.latchedHold = false ∧ s.sat.spoofLatched = false ∧ s.sat.time.stepDue = none
      ∧ s.sat.time.confirmSince = some a ∧ a + s.parNs Param.SAT_RETURN_CONFIRM ≤ max s.now t) ∧
    (∃ (s : State), s.sat.time.qual ≠ 2) ∧
    (∃ (t : Nat) (s : State) (a : Nat) (e : Int), s.satOn = true ∧ s.sat.time.stepDue = some (a, e) ∧ a ≤ max s.now t) ∧
    (∃ (t : Nat) (s : State) (a : Nat) (e : Int), s.sat.time.stepDue = some (a, e) ∧ max s.now t < a) ∧
    (∃ (s : State), s.sat.time.stepDue = none) ∧
    (∃ (t : Nat) (s : State), s.satOn = true ∧ s.sat.time.qual = 3 ∧ s.sat.time.slewEnd ≤ max s.now t) ∧
    (∃ (s : State), s.sat.time.qual ≠ 3) ∧
    (∃ (t : Nat) (s : State), s.dom 8 = true ∧ s.dom 9 = false ∧ s.sat.time.qual ≠ 0 ∧ s.sat.time.ppsSuppressUntil = none
      ∧ s.sat.time.stepDue = none ∧ ((s.arrive t).satTime + 5) % 1000000000 ≤ 10) ∧
    (∃ (t : Nat) (s : State), s.dom 8 = true ∧ s.dom 9 = true ∧ s.netUp = true ∧ s.sat.time.qual ≠ 0 ∧ s.sat.time.ppsSuppressUntil = none
      ∧ s.sat.time.stepDue = none ∧ ((s.arrive t).satTime + 5) % 1000000000 ≤ 10) ∧
    (∃ (t : Nat) (s : State) (u : Nat), s.sat.time.ppsSuppressUntil = some u ∧ (s.arrive t).satTime + 5 < u) ∧
    (∃ (t : Nat) (s : State), s.sat.time.qual = 0 ∨ 10 < ((s.arrive t).satTime + 5) % 1000000000) ∧
    (∃ (t : Nat) (s : State) (p : Bool) (d : Bool), s.satOn = true ∧ p = decide (s.sat.posWrittenAt + 60000000000 ≤ max s.now t)
      ∧ d = decide (s.sat.driftWrittenAt + 600000000000 ≤ max s.now t) ∧ (p = true ∨ d = true)) ∧
    (∃ (t : Nat) (s : State), max s.now t < s.sat.posWrittenAt + 60000000000 ∧ max s.now t < s.sat.driftWrittenAt + 600000000000) :=
  ⟨⟨0, { unit with now := 10000000001, sat.time.qual := 1 }, by decide +kernel⟩,
   ⟨0, unit, by decide +kernel⟩,
   ⟨0, { unit with now := 1000000000005, sat.state := 2, sat.time.qual := 2, sat.time.offsets := [(0, 214)], sat.time.confirmSince := some 8 }, 0,
     214, [], 8, by decide +kernel⟩,
   ⟨unit, by decide +kernel⟩,
   ⟨9, { unit with sat.state := 3, sat.time.stepDue := some (2, 7) }, 2, 7, by decide +kernel⟩,
   ⟨0, { unit with sat.time.stepDue := some (44, 4) }, 44, 4, by decide +kernel⟩,
   ⟨unit, by decide +kernel⟩,
   ⟨0, { unit with sat.state := 3, sat.time.qual := 3 }, by decide +kernel⟩,
   ⟨unit, by decide +kernel⟩,
   ⟨0, { State.reset with sat.time.qual := 1, keep.powered := 271 }, by decide +kernel⟩,
   ⟨0, { State.reset with sat.time.qual := 1, keep.powered := 4095 }, by decide +kernel⟩,
   ⟨0, { unit with sat.time.ppsSuppressUntil := some 1000000000000 }, 1000000000000, by decide +kernel⟩,
   ⟨0, unit, by decide +kernel⟩,
   ⟨0, { unit with now := 600000000000, sat.state := 3 }, true, true, by decide +kernel⟩,
   ⟨0, unit, by decide +kernel⟩⟩

/-- The hypotheses of each clause of RecorderAndSafetyCommands can be met. -/
theorem wit_RecorderAndSafetyCommands :
    (∃ (t : Nat) (q : Nat) (p : List Byte) (s : State) (x : Session), s.takes opLogFreeze t x q false p = true) ∧
    (∃ (t : Nat) (q : Nat) (p : List Byte) (s : State) (x : Session), s.takes opLogThaw t x q false p = true) ∧
    (∃ (t : Nat) (q : Nat) (p : List Byte) (s : State) (x : Session), s.takes opLogExport t x q true p = true) ∧
    (∃ (t : Nat) (q : Nat) (p : List Byte) (s : State) (x : Session), s.takes opLogSpillEnd t x q true p = true) ∧
    (∃ (t : Nat) (q : Nat) (p : List Byte) (s : State) (x : Session), s.takes opSafeReset t x q false p = true) ∧
    (∃ (t : Nat) (q : Nat) (p : List Byte) (s : State) (x : Session), s.takes opSafeBrakeTest t x q true p = true) ∧
    (∃ (t : Nat) (q : Nat) (p : List Byte) (s : State) (x : Session), s.takes opSafeCfgConfirm t x q false p = true) ∧
    (∃ (t : Nat) (q : Nat) (p : List Byte) (s : State) (x : Session), s.takes opSafeStop t x q false p = true) :=
  ⟨⟨0, 1, [], unit, desk, by decide +kernel⟩,
   ⟨0, 1, [], { unit with log.state := 1 }, desk, by decide +kernel⟩,
   ⟨0, 1, [], unit, desk, by decide +kernel⟩,
   ⟨0, 1, [], { unit with log.state := 2 }, desk, by decide +kernel⟩,
   ⟨0, 1, [0, 0, 0, 0], { unit with safe.pHealthy := true, safe.safeStop := true, sys.safeStopBy := 1 }, desk, by decide +kernel⟩,
   ⟨0, 1, [1, 0, 0, 0],
     { unit with safe.confirmed := some ((((List.replicate 260 0).set 79 1).set 80 1).set 84 0x3F), safe.pHealthy := true, red.commanding := true, alc.chans := unit.alc.chans.modify 0 (fun x => { x with selected := false }), safe.encSpeed := [(1, 0)], cfg.given := [((.SAFE_THR_STS, 1), 1)], safe.sts := unit.safe.sts.modify 0 (fun x => { x with gateP := [true, true], gateL := [true, true] }) },
     desk, by decide +kernel⟩,
   ⟨0, 1, leBytes 4 (crc32c (slRebuild [] (List.replicate 260 0))),
     { unit with safe.pendingSet := some (slRebuild [] (List.replicate 260 0)), safe.pHealthy := true }, desk, by decide +kernel⟩,
   ⟨0, 1, [0, 18, 33, 0], unit, desk, by decide +kernel⟩⟩

/-- The hypotheses of each clause of RecorderEvents can be met. -/
theorem wit_RecorderEvents :
    (∃ (c : EvCode) (s : State), s.Inv ∧ ↑c.severity < s.par Param.LOG_MIN_SEV) ∧
    (∃ (c : EvCode) (s : State), s.Inv ∧ s.par Param.LOG_MIN_SEV ≤ ↑c.severity ∧ s.dom 1 = true ∧ s.keep.supply.state = 0
      ∧ s.log.queue.length < 3071) ∧
    (∃ (c : EvCode) (s : State), s.Inv ∧ s.par Param.LOG_MIN_SEV ≤ ↑c.severity ∧ s.dom 1 = false) ∧
    (∃ (t : Nat) (s : State), s.Inv ∧ (s.dom 1 = false ∨ ∀ (x : LogEntry), x ∈ s.log.queue → x.released = true
      ∨ max s.now t < x.submitted + 10000000)) ∧
    (∃ (t : Nat) (k : Nat) (s : State) (x : LogEntry), s.Inv ∧ s.dom 1 = true ∧ s.log.queue = [x] ∧ x.released = false ∧ x.trigger = none
      ∧ x.submitted + 10000000 ≤ max s.now t ∧ s.log.state = 0 ∧ k < 2 ∧ s.log.dropAt ≠ some (max s.now t)
      ∧ s.log.recs.length < logGeneral + reservedUsed s.log.recs) ∧
    (∃ (t : Nat) (k : Nat) (s : State) (x : LogEntry), s.Inv ∧ s.dom 1 = true ∧ s.log.queue = [x] ∧ x.released = false ∧ x.trigger = none
      ∧ x.submitted + 10000000 ≤ max s.now t ∧ s.log.state = 0 ∧ s.log.memFault = false ∧ 2 ≤ k ∧ s.log.spill.length < 255) ∧
    (∃ (s : State) (x : LogEntry), s.Inv ∧ nextRelease s.log.queue = some x) ∧
    (∃ (s : State) (x : LogEntry) (y : LogEntry), s.Inv ∧ nextRelease s.log.queue = some x ∧ y ∈ s.log.queue ∧ y.released = false) ∧
    (∃ (t : Nat) (s : State), s.Inv ∧ s.log.state = 1 ∧ s.log.freezeAt + 60000000000 ≤ max s.now t) ∧
    (∃ (t : Nat) (s : State), s.Inv ∧ (s.log.state ≠ 1 ∨ max s.now t < s.log.freezeAt + 60000000000)) ∧
    (∃ (t : Nat) (s : State), s.Inv ∧ (s.dom 1 = false ∨ s.dom 3 = false ∨ s.frame.running = false ∨ max s.now t < s.frame.startAt + 16000000
      ∨ s.frame.startAt + 19000000 < max s.now t)) ∧
    (∃ (t : Nat) (s : State), s.Inv ∧ s.dom 1 = true ∧ s.dom 3 = true ∧ s.frame.running = true ∧ s.frame.startAt + 16000000 ≤ max s.now t
      ∧ max s.now t ≤ s.frame.startAt + 19000000) ∧
    (∃ (s : State), s.Inv ∧ s.dom 1 = false) ∧
    (∃ (s : State), s.Inv ∧ s.dom 1 = true) ∧
    (∃ (v : Word) (s : State), s.Inv ∧ s.dom 1 = true ∧ (BitVec.toNat v).testBit 31 = false) ∧
    (∃ (w : Who) (v : Word) (s : State), s.Inv ∧ s.dom 1 = true ∧ (BitVec.toNat v).testBit 31 = true ∧ BitVec.toNat v % 4 < 2
      ∧ (List.find? (fun (x : LogRec) => decide (x.seq = (s.rdPort w).sel)) (s.logSource (BitVec.toNat v % 4)) = none)) ∧
    (∃ (w : Who) (v : Word) (sound : Bool) (s : State) (r : LogRec), s.Inv ∧ s.dom 1 = true ∧ (BitVec.toNat v).testBit 31 = true
      ∧ BitVec.toNat v % 4 < 2 ∧ (List.find? (fun (x : LogRec) => decide (x.seq = (s.rdPort w).sel)) (s.logSource (BitVec.toNat v % 4)) = some r)
      ∧ r.ok = true ∧ sound = false ∧ BitVec.toNat v % 4 = 0 ∧ s.log.memFault = false) ∧
    (∃ (w : Who) (v : Word) (sound : Bool) (s : State) (r : LogRec), s.Inv ∧ s.dom 1 = true ∧ (BitVec.toNat v).testBit 31 = true
      ∧ BitVec.toNat v % 4 < 2 ∧ (List.find? (fun (x : LogRec) => decide (x.seq = (s.rdPort w).sel)) (s.logSource (BitVec.toNat v % 4)) = some r)
      ∧ r.ok = true ∧ sound = true) ∧
    (∃ (w : Who) (v : Word) (s : State), s.Inv ∧ s.dom 1 = true ∧ (BitVec.toNat v).testBit 31 = true ∧ 2 ≤ BitVec.toNat v % 4
      ∧ s.snap? (s.rdPort w).sel = none) ∧
    (∃ (w : Who) (v : Word) (s : State) (x : Snap), s.Inv ∧ s.dom 1 = true ∧ (BitVec.toNat v).testBit 31 = true ∧ 2 ≤ BitVec.toNat v % 4
      ∧ s.snap? (s.rdPort w).sel = some x ∧ BitVec.toNat v / 65536 % 512 = 511) :=
  ⟨⟨.PARTITION_VIOLATION, { unit with cfg.given := [((.LOG_MIN_SEV, 0), 7)] }, by unfold State.Inv; decide +kernel⟩,
   ⟨.HDG_LOST, unit, by unfold State.Inv; decide +kernel⟩,
   ⟨.SAFE_CFG_CONFIRMED, State.reset, by unfold State.Inv; decide +kernel⟩,
   ⟨0, unit, by unfold State.Inv; decide +kernel⟩,
   ⟨0, 0, { unit with now := 4294967295, log.queue := [{ }] }, { }, by unfold State.Inv; decide +kernel⟩,
   ⟨0, 8, { unit with now := 10000012, log.queue := [{ }] }, { }, by unfold State.Inv; decide +kernel⟩,
   ⟨{ unit with log.queue := [{ }] }, { }, by unfold State.Inv; decide +kernel⟩,
   ⟨{ unit with log.queue := [{ }] }, { }, { }, by unfold State.Inv; decide +kernel⟩,
   ⟨60000000001, { unit with log.state := 1 }, by unfold State.Inv; decide +kernel⟩,
   ⟨0, unit, by unfold State.Inv; decide +kernel⟩,
   ⟨0, unit, by unfold State.Inv; decide +kernel⟩,
   ⟨0, { unit with now := 16000000, frame.running := true }, by unfold State.Inv; decide +kernel⟩,
   ⟨State.reset, by unfold State.Inv; decide +kernel⟩,
   ⟨unit, by unfold State.Inv; decide +kernel⟩,
   ⟨0, unit, by unfold State.Inv; decide +kernel⟩,
   ⟨.app0, 3624165368, unit, by unfold State.Inv; decide +kernel⟩,
   ⟨.part, 4294967168, false,
     { unit with log.recs := [{ seq := 3 }], log.rd := (unit.log.rd.modify 2 (fun y => { y with sel := 3 })) }, { seq := 3 },
     by unfold State.Inv; decide +kernel⟩,
   ⟨.dma, 3757963261, true, { unit with log.spill := [{ }] }, { }, by unfold State.Inv; decide +kernel⟩,
   ⟨.app1, 4294967294, unit, by unfold State.Inv; decide +kernel⟩,
   ⟨.app0, 4294967167, { unit with log.snaps := [{ num := 2 }], log.rd := (unit.log.rd.modify 0 (fun y => { y with sel := 2 })) }, { num := 2 },
     by unfold State.Inv; decide +kernel⟩⟩

/-- The hypotheses of each clause of RegisterAccesses can be met. -/
theorem wit_RegisterAccesses :
    (∃ (who : Who) (addr : Nat) (s : State), inWin addr = true ∧ s.mayReg who (addr - winLo) true = true) ∧
    (∃ (who : Who) (addr : Nat) (s : State), inWin addr = true ∧ s.mayReg who (addr - winLo) false = true
      ∧ s.dom (regBlock (addr - winLo)).snd = true ∧ 65536 ≤ addr - winLo) ∧
    (∃ (who : Who) (addr : Nat) (s : State), inWin addr = true ∧ s.mayReg who (addr - winLo) false = true ∧ s.dom 1 = true ∧ addr - winLo < 65536) ∧
    (∃ (who : Who) (addr : Nat) (s : State), inWin addr = true ∧ s.mayReg who (addr - winLo) false = true
      ∧ s.dom (regBlock (addr - winLo)).snd = false) ∧
    (∃ (who : Who) (addr : Nat) (s : State), inWin addr = true ∧ who ≠ Who.part ∧ s.mayReg who (addr - winLo) true = false) ∧
    (∃ (addr : Nat) (s : State), inWin addr = true ∧ s.mayReg Who.part (addr - winLo) true = false) ∧
    (∃ (addr : Nat), inWin addr = false) :=
  ⟨⟨.app0, 1342177279, unit, by decide +kernel⟩,
   ⟨.app1, 1074160723, unit, by decide +kernel⟩,
   ⟨.app1, 1073741825, unit, by decide +kernel⟩,
   ⟨.app1, 1073741824, State.reset, by decide +kernel⟩,
   ⟨.dma, 1342177279, unit, by decide +kernel⟩,
   ⟨1342177279, unit, by decide +kernel⟩,
   ⟨0, by decide +kernel⟩⟩

/-- The hypotheses of each clause of ResetValues can be met. -/
theorem wit_ResetValues :
    (∃ (i : Nat), i < 2) ∧
    (∃ (q : Nat), q < 4) ∧
    (∃ (c : Nat), 1 ≤ c ∧ c ≤ 24) ∧
    (∃ (k : Nat), k < 2) ∧
    (∃ (k : Nat), k < 6) ∧
    (∃ (n : Nat), n < 32) :=
  ⟨⟨1, by decide +kernel⟩,
   ⟨3, by decide +kernel⟩,
   ⟨24, by decide +kernel⟩,
   ⟨1, by decide +kernel⟩,
   ⟨5, by decide +kernel⟩,
   ⟨31, by decide +kernel⟩⟩

/-- The hypotheses of each clause of RestartEvents can be met. -/
theorem wit_RestartEvents :
    (∃ (va : Rat) (vb : Rat) (s : State), s.keep.d0On = true ∧ ((if va < vb then vb else va) < 29 / 2)) ∧
    (∃ (va : Rat) (vb : Rat) (s : State), s.keep.d0On = false ∨ 29 / 2 ≤ if va < vb then vb else va) ∧
    (∃ (s : State), s.keep.d0On = true ∧ s.keep.resetHeld = none) ∧
    (∃ (s : State), s.keep.d0On = false ∨ s.keep.resetHeld.isSome = true) ∧
    (∃ (t : Nat) (s : State) (a : Nat), s.keep.resetHeld = some a ∧ a + 30000000000 ≤ max s.now t ∧ s.keep.resetHeldRec = false) ∧
    (∃ (s : State), s.keep.resetHeld = none ∨ s.keep.resetHeldRec = true) ∧
    (∃ (x : Nat), 4 ≤ x) ∧
    (∃ (x : Nat) (s : State), x < 4 ∧ s.keep.d0On = true ∧ s.keep.resetHeld.isSome = true) ∧
    (∃ (x : Nat) (s : State), x < 4 ∧ (s.keep.d0On = false ∨ s.keep.resetHeld = none)) ∧
    (∃ (x : Nat) (va : Rat) (vb : Rat), x < 4 ∧ ((if va < vb then vb else va) < 18)) ∧
    (∃ (x : Nat) (va : Rat) (vb : Rat) (bad : RetainBad) (s : State) (w : KeepWords), x < 4 ∧ (18 ≤ if va < vb then vb else va)
      ∧ s.keep.words bad.words = some w) ∧
    (∃ (x : Nat) (va : Rat) (vb : Rat) (bad : RetainBad) (s : State), x < 4 ∧ (18 ≤ if va < vb then vb else va) ∧ s.keep.words bad.words = none) ∧
    (∃ (t : Nat) (s : State) (a : Nat), s.sys.mode = Mode.keep ∧ s.keep.d0On = true ∧ s.keep.resetHeld = none ∧ s.sat.wake = none
      ∧ s.parN Param.SAT_WAKE_INTERVAL ≠ 0 ∧ s.sat.nextWake = some a ∧ a ≤ max s.now t) ∧
    (∃ (s : State), s.sys.mode ≠ Mode.keep ∨ s.sat.wake.isSome = true ∨ s.sat.nextWake = none) ∧
    (∃ (t : Nat) (s : State) (a : Nat), s.sat.wake = some a ∧ s.sys.mode = Mode.keep ∧ a + s.parNs Param.SAT_WAKE_TIME ≤ max s.now t) ∧
    (∃ (t : Nat) (s : State) (a : Nat), s.sat.wake = some a ∧ max s.now t < a + s.parNs Param.SAT_WAKE_TIME ∧ max s.now t < a + 20000000000) ∧
    (∃ (s : State), s.sat.wake = none) ∧
    (∃ (s : State), s.Inv) ∧
    (∃ (s : State), s.Inv ∧ s.dom 10 = false) ∧
    (∃ (s : State) (p : Bool × Bool), s.Inv ∧ s.dom 10 = false ∧ p ∈ s.pins.can) ∧
    (∃ (s : State) (p : Bool × Bool), s.Inv ∧ s.dom 10 = false ∧ p ∈ s.pins.ser) ∧
    (∃ (s : State) (q : Option Rat), s.Inv ∧ s.dom 10 = false ∧ q ∈ s.pins.ao) ∧
    (∃ (s : State) (n : Nat), s.Inv ∧ 1 ≤ n ∧ n ≤ 4 ∧ s.dom 10 = true) ∧
    (∃ (s : State) (x : Bool), s.Inv ∧ s.dom 11 = false ∧ x ∈ s.pins.fio) ∧
    (∃ (s : State), s.Inv ∧ (s.dom 4 = false ∨ s.dom 5 = false)) ∧
    (∃ (s : State) (p : Bool × Bool), s.Inv ∧ (s.dom 4 = false ∨ s.dom 5 = false) ∧ p ∈ s.pins.sts) ∧
    (∃ (s : State) (x : Bool), s.Inv ∧ (s.dom 4 = false ∨ s.dom 5 = false) ∧ x ∈ s.pins.brk) ∧
    (∃ (s : State) (x : Bool), s.Inv ∧ s.dom 8 = false ∧ x ∈ s.pins.bias) ∧
    (∃ (s : State), s.Inv ∧ (∀ (d : Nat), 1 ≤ d → d ≤ 11 → s.dom d = false)) :=
  ⟨⟨0, 0, unit, by decide +kernel⟩,
   ⟨0, 97, unit, by decide +kernel⟩,
   ⟨unit, by decide +kernel⟩,
   ⟨{ unit with keep.d0On := false }, by decide +kernel⟩,
   ⟨0, { unit with now := 30000000001, keep.resetHeld := some 0 }, 0, by decide +kernel⟩,
   ⟨unit, by decide +kernel⟩,
   ⟨5, by decide +kernel⟩,
   ⟨0, { unit with keep.resetHeld := some 1000000000000000 }, by decide +kernel⟩,
   ⟨0, unit, by decide +kernel⟩,
   ⟨0, 0, 0, by decide +kernel⟩,
   ⟨0, 55, 0, { }, unit, { }, by decide +kernel⟩,
   ⟨0, 266, 0, { words := 11 }, unit, by decide +kernel⟩,
   ⟨0, { unit with now := 20000000, sat.nextWake := some 296, sys.mode := .keep }, 296, by decide +kernel⟩,
   ⟨unit, by decide +kernel⟩,
   ⟨0, { unit with now := 1000000000000000000, sat.wake := some 65536, sys.mode := .keep }, 65536, by decide +kernel⟩,
   ⟨0, { unit with sat.wake := some 64 }, 64, by decide +kernel⟩,
   ⟨unit, by decide +kernel⟩,
   ⟨unit, by unfold State.Inv; decide +kernel⟩,
   ⟨State.reset, by unfold State.Inv; decide +kernel⟩,
   ⟨State.reset, (false, false), by unfold State.Inv; decide +kernel⟩,
   ⟨State.reset, (false, false), by unfold State.Inv; decide +kernel⟩,
   ⟨State.reset, none, by unfold State.Inv; decide +kernel⟩,
   ⟨unit, 1, by unfold State.Inv; decide +kernel⟩,
   ⟨State.reset, false, by unfold State.Inv; decide +kernel⟩,
   ⟨{ unit with keep.powered := 0 }, by unfold State.Inv; decide +kernel⟩,
   ⟨{ unit with keep.powered := 0 }, (false, false), by unfold State.Inv; decide +kernel⟩,
   ⟨{ unit with keep.powered := 0 }, false, by unfold State.Inv; decide +kernel⟩,
   ⟨State.reset, false, by unfold State.Inv; decide +kernel⟩,
   ⟨{ unit with keep.powered := 0 }, by unfold State.Inv; decide +kernel,
     fun d h1 h2 => (by decide +kernel : ∀ d < 12, 1 ≤ d → State.dom { unit with keep.powered := 0 } d = false) d (by omega) h1⟩⟩

/-- The hypotheses of each clause of SafetyStops can be met. -/
theorem wit_SafetyStops :
    (∃ (n : Nat) (s : State), s.Inv ∧ (n = 0 ∨ 8 < n)) ∧
    (∃ (p : Nat) (s : State), s.Inv ∧ (p = 0 ∨ 4 < p)) ∧
    (∃ (n : Nat) (s : State), s.Inv ∧ 16 ≤ n) ∧
    (∃ (n : Nat) (s : State), s.Inv ∧ 1 ≤ n ∧ n ≤ 8) ∧
    (∃ (n : Nat) (p : Nat) (s : State), s.Inv ∧ 1 ≤ n ∧ n ≤ 8 ∧ 1 ≤ p ∧ p ≤ 4 ∧ s.safeUp = true ∧ s.safe.sinFunc n = 1
      ∧ (s.safe.sinSts n).testBit (p - 1) = true) ∧
    (∃ (t : Nat) (n : Nat) (s : State), s.Inv ∧ 1 ≤ n ∧ n ≤ 8 ∧ s.safeUp = true ∧ s.safe.sinFunc n ≠ 0 ∧ (s.safe.inp n).disc = false
      ∧ (s.arrive t).discLasted n 1 = true) ∧
    (∃ (t : Nat) (n : Nat) (s : State), s.Inv ∧ 1 ≤ n ∧ n ≤ 8 ∧ (s.arrive t).discLasted n 1 = false) ∧
    (∃ (n : Nat) (ch : Bool) (s : State), s.Inv ∧ 1 ≤ n ∧ n ≤ 8 ∧ s.safeUp = true ∧ s.safe.sinTp n = 1 ∧ s.safe.sinFunc n ≠ 0
      ∧ ((if ch = true then (s.safe.inp n).b else (s.safe.inp n).a) = true)) ∧
    (∃ (n : Nat) (s : State), s.Inv ∧ 1 ≤ n ∧ n ≤ 8 ∧ s.safe.sinTp n ≠ 1) ∧
    (∃ (n : Nat) (p : Nat) (s : State), s.Inv ∧ 1 ≤ p ∧ p ≤ 4 ∧ s.dom 4 = true ∧ n.testBit (p - 1) = true) ∧
    (∃ (s : State), s.Inv ∧ s.dom 4 = false) ∧
    (∃ (t : Nat) (p : Nat) (s : State) (e : Nat), s.Inv ∧ 1 ≤ p ∧ p ≤ 4 ∧ (s.safe.pair p).delayEnd = some e ∧ e ≤ max s.now t
      ∧ (s.safe.pair p).stopped = true ∧ (s.safe.pair p).latched = true) ∧
    (∃ (p : Nat) (s : State), s.Inv ∧ 1 ≤ p ∧ p ≤ 4 ∧ (s.safe.pair p).delayEnd = none) ∧
    (∃ (t : Nat) (p : Nat) (ch : Bool) (s : State), s.Inv ∧ 1 ≤ p ∧ p ≤ 4 ∧ s.safe.energised p ch = true
      ∧ (s.safe.pair p).pulseAt.getD (1 - b2n ch) 0 + 100000000 ≤ max s.now t) ∧
    (∃ (p : Nat) (ch : Bool) (s : State), s.Inv ∧ 1 ≤ p ∧ p ≤ 4 ∧ s.safe.energised p ch = false) ∧
    (∃ (n : Nat) (p : Nat) (s : State), s.Inv ∧ 1 ≤ p ∧ p ≤ 4 ∧ s.safeUp = true ∧ n < 8 ∧ p = n / 2 + 1
      ∧ s.safe.energised p (decide (n % 2 = 1)) = false) ∧
    (∃ (n : Nat) (p : Nat) (s : State), s.Inv ∧ s.safeUp = true ∧ 8 ≤ n ∧ n < 16 ∧ p = n % 4 + 1 ∧ (s.safe.brake p).isSet = true) ∧
    (∃ (n : Nat) (s : State), s.Inv ∧ n < 16 ∧ s.safeUp = false) ∧
    (∃ (p : Nat) (s : State), s.Inv ∧ 1 ≤ p ∧ p ≤ 4 ∧ s.safeUp = true ∧ (s.safe.brake p).setReq = true ∧ (s.safe.brake p).autoReq = false
      ∧ (s.safe.brake p).isSet = false ∧ s.safe.slowEnough p = true) ∧
    (∃ (p : Nat) (s : State), s.Inv ∧ 1 ≤ p ∧ p ≤ 4 ∧ (s.safe.brake p).setReq = false) ∧
    (∃ (t : Nat) (p : Nat) (s : State) (j : Nat), s.Inv ∧ 1 ≤ j ∧ j ≤ 4 ∧ 1 ≤ p ∧ p ≤ 4 ∧ s.safeP = true ∧ (s.safe.entry j).active = true
      ∧ (s.arrive t).held (s.safe.entry j).overSince (s.safe.sltTime j * 1000000) = true ∧ (s.safe.sltSts j).testBit (p - 1) = true) ∧
    (∃ (p : Nat) (s : State), s.Inv ∧ 1 ≤ p ∧ p ≤ 4 ∧ (s.safe.entry p).active = false) ∧
    (∃ (n : Nat) (s : State), s.Inv ∧ 1 ≤ n ∧ n ≤ 8 ∧ s.safeUp = true) ∧
    (∃ (s : State), s.Inv) ∧
    (∃ (s : State), s.Inv ∧ s.safe.ssupLow = true) ∧
    (∃ (s : State), s.Inv ∧ s.safe.ssupLow = false) :=
  ⟨⟨0, unit, by unfold State.Inv; decide +kernel⟩,
   ⟨0, unit, by unfold State.Inv; decide +kernel⟩,
   ⟨1000000000, unit, by unfold State.Inv; decide +kernel⟩,
   ⟨1, unit, by unfold State.Inv; decide +kernel⟩,
   ⟨1, 4, { unit with safe.confirmed := some [255, 188, 1, 64, 3, 10, 254, 5, 1], safe.lHealthy := true }, by unfold State.Inv; decide +kernel⟩,
   ⟨0, 1,
     { unit with now := 65, safe.ins := (unit.safe.ins.modify 0 (fun y => { y with disagreeSince := some 10 })), safe.confirmed := some [0, 45, 4], safe.lHealthy := true },
     by unfold State.Inv; decide +kernel⟩,
   ⟨0, 1, unit, by unfold State.Inv; decide +kernel⟩,
   ⟨1, true,
     { unit with safe.confirmed := some [1, 1, 1, 1, 1, 1, 1, 1, 1, 1, 1, 1, 1, 1, 1, 1, 1, 1, 1, 1, 1, 1, 1, 1, 1, 1, 1, 1, 1, 1, 1, 1, 1, 1, 1, 1, 1, 1, 1, 1, 1, 1, 1, 1, 1, 1, 1, 1, 1, 1, 1, 1, 1, 1, 1, 1, 1, 1, 1], safe.pHealthy := true },
     by unfold State.Inv; decide +kernel⟩,
   ⟨1, unit, by unfold State.Inv; decide +kernel⟩,
   ⟨100, 3, unit, by unfold State.Inv; decide +kernel⟩,
   ⟨{ unit with keep.powered := 0 }, by unfold State.Inv; decide +kernel⟩,
   ⟨0, 1, { unit with safe.sts := (unit.safe.sts.modify 0 (fun y => { y with latched := true, delayEnd := some 4 })) }, 4,
     by unfold State.Inv; decide +kernel⟩,
   ⟨1, unit, by unfold State.Inv; decide +kernel⟩,
   ⟨0, 2, false, { unit with now := 100000000, safe.sts := (unit.safe.sts.modify 1 (fun y => { y with gateP := [true, false], gateL := [true] })) },
     by unfold State.Inv; decide +kernel⟩,
   ⟨1, true, unit, by unfold State.Inv; decide +kernel⟩,
   ⟨0, 1, { unit with safe.lHealthy := true }, by unfold State.Inv; decide +kernel⟩,
   ⟨8, 1, { unit with safe.lHealthy := true }, by unfold State.Inv; decide +kernel⟩,
   ⟨0, unit, by unfold State.Inv; decide +kernel⟩,
   ⟨4, { unit with safe.brk := (unit.safe.brk.modify 3 (fun y => { y with setReq := true, isSet := false })), safe.pHealthy := true },
     by unfold State.Inv; decide +kernel⟩,
   ⟨1, unit, by unfold State.Inv; decide +kernel⟩,
   ⟨0, 1,
     { unit with safe.pHealthy := true, safe.slt := unit.safe.slt.modify 0 (fun x => { x with active := true, overSince := some 0 }), safe.confirmed := some ((List.replicate 260 0).set 154 1) },
     1, by unfold State.Inv; decide +kernel⟩,
   ⟨1, unit, by unfold State.Inv; decide +kernel⟩,
   ⟨1, { unit with safe.pHealthy := true }, by unfold State.Inv; decide +kernel⟩,
   ⟨unit, by unfold State.Inv; decide +kernel⟩,
   ⟨{ unit with safe.ssupLow := true }, by unfold State.Inv; decide +kernel⟩,
   ⟨unit, by unfold State.Inv; decide +kernel⟩⟩

/-- The hypotheses of each clause of SafetyTechnologies can be met. -/
theorem wit_SafetyTechnologies :
    (∃ (s : State), s.Inv ∧ s.safeP = true ∧ (∀ (c : List Byte), s.safe.confirmed = some c → s.safe.slBank = slBytes c)) ∧
    (∃ (s : State) (c : List Byte), s.Inv ∧ s.safeP = true ∧ s.safe.confirmed = some c ∧ s.safe.slBank ≠ slBytes c ∧ s.dom 5 = true
      ∧ s.safe.lHealthy = true ∧ s.sys.mode ≠ Mode.keep) ∧
    (∃ (s : State), s.Inv ∧ s.safeP = false) ∧
    (∃ (t : Nat) (s : State), s.Inv ∧ s.dom 5 = true ∧ s.safe.lHealthy = true ∧ s.safe.tokenAt + 10000000 ≤ max s.now t ∧ s.sys.mode ≠ Mode.keep) ∧
    (∃ (t : Nat) (s : State), s.Inv ∧ max s.now t < s.safe.tokenAt + 10000000) ∧
    (∃ (t : Nat) (s : State) (a : Nat), s.Inv ∧ s.safeUp = true ∧ s.safe.differSince = some a ∧ a + 20000001 ≤ max s.now t ∧ s.sys.mode ≠ Mode.keep) ∧
    (∃ (s : State), s.Inv ∧ s.safe.differSince = none) ∧
    (∃ (s : State), s.Inv ∧ s.dom 4 = true ∧ s.sys.mode ≠ Mode.keep) ∧
    (∃ (s : State), s.Inv ∧ s.dom 4 = false) ∧
    (∃ (s : State), s.Inv ∧ s.dom 4 = true ∧ s.dom 5 = true ∧ s.safe.startDue = true) ∧
    (∃ (s : State), s.Inv ∧ s.dom 4 = true ∧ s.dom 5 = true ∧ s.safe.startDue = true ∧ s.sys.mode ≠ Mode.keep) ∧
    (∃ (s : State) (mask : Nat) (p : Nat) (c : Bool), s.Inv ∧ s.dom 4 = true ∧ s.dom 5 = true ∧ s.safe.startDue = true ∧ 1 ≤ p ∧ p ≤ 4
      ∧ mask.testBit (2 * (p - 1) + b2n c) = true) ∧
    (∃ (s : State), s.Inv ∧ s.safe.startDue = false) ∧
    (∃ (b : Nat) (s : State), s.Inv ∧ (b = 0 ∨ 4 < b)) ∧
    (∃ (b : Nat) (s : State), s.Inv ∧ 1 ≤ b ∧ b ≤ 4 ∧ s.safe.brkUse b = true ∧ s.safe.confirmed.isSome = true) ∧
    (∃ (t : Nat) (b : Nat) (s : State) (y : BrakeTest), s.Inv ∧ 1 ≤ b ∧ b ≤ 4 ∧ (s.safe.brake b).test = some y ∧ y.phase = 0
      ∧ y.t0 + 1000000000 ≤ max s.now t) ∧
    (∃ (t : Nat) (b : Nat) (s : State) (y : BrakeTest), s.Inv ∧ 1 ≤ b ∧ b ≤ 4 ∧ (s.safe.brake b).test = some y ∧ y.phase = 1
      ∧ y.t0 + 3000000000 ≤ max s.now t) ∧
    (∃ (b : Nat) (s : State), s.Inv ∧ 1 ≤ b ∧ b ≤ 4 ∧ (s.safe.brake b).test = none) ∧
    (∃ (t : Nat) (b : Nat) (rp : Rat) (rl : Rat) (s : State) (y : BrakeTest), s.Inv ∧ 1 ≤ b ∧ b ≤ 4 ∧ (s.safe.brake b).test = some y ∧ y.phase = 2
      ∧ y.t0 + 3500000000 ≤ max s.now t ∧ absQ rp ≤ s.safe.brkTestAng b ∧ absQ rl ≤ s.safe.brkTestAng b) ∧
    (∃ (t : Nat) (b : Nat) (rp : Rat) (s : State) (y : BrakeTest), s.Inv ∧ 1 ≤ b ∧ b ≤ 4 ∧ (s.safe.brake b).test = some y ∧ y.phase = 2
      ∧ y.t0 + 3500000000 ≤ max s.now t ∧ s.safe.brkTestAng b < absQ rp) ∧
    (∃ (t : Nat) (s : State), s.Inv ∧ (s.arrive t).canReset = true) ∧
    (∃ (t : Nat) (s : State), s.Inv ∧ (s.arrive t).canReset = false) :=
  ⟨⟨{ unit with safe.pHealthy := true }, by unfold State.Inv; decide +kernel⟩,
   ⟨{ unit with safe.confirmed := some [200, 255], safe.pHealthy := true, safe.lHealthy := true }, [200, 255], by unfold State.Inv; decide +kernel⟩,
   ⟨unit, by unfold State.Inv; decide +kernel⟩,
   ⟨1000000000000, { unit with safe.lHealthy := true }, by unfold State.Inv; decide +kernel⟩,
   ⟨0, unit, by unfold State.Inv; decide +kernel⟩,
   ⟨0, { unit with now := 4294967296, safe.pHealthy := true, safe.differSince := some 1 }, 1, by unfold State.Inv; decide +kernel⟩,
   ⟨unit, by unfold State.Inv; decide +kernel⟩,
   ⟨unit, by unfold State.Inv; decide +kernel⟩,
   ⟨{ unit with keep.powered := 0 }, by unfold State.Inv; decide +kernel⟩,
   ⟨unit, by unfold State.Inv; decide +kernel⟩,
   ⟨unit, by unfold State.Inv; decide +kernel⟩,
   ⟨unit, 200, 2, true, by unfold State.Inv; decide +kernel⟩,
   ⟨{ unit with safe.startDue := false }, by unfold State.Inv; decide +kernel⟩,
   ⟨0, unit, by unfold State.Inv; decide +kernel⟩,
   ⟨1, { unit with safe.confirmed := some ((List.replicate 260 0).set 78 1) }, by unfold State.Inv; decide +kernel⟩,
   ⟨0, 1, { unit with now := 1000065730, safe.brk := (unit.safe.brk.modify 0 (fun y => { y with test := some { } })) }, { },
     by unfold State.Inv; decide +kernel⟩,
   ⟨0, 1, { unit with now := 3000000221, safe.brk := (unit.safe.brk.modify 0 (fun y => { y with test := some { phase := 1 } })) }, { phase := 1 },
     by unfold State.Inv; decide +kernel⟩,
   ⟨1, unit, by unfold State.Inv; decide +kernel⟩,
   ⟨0, 3, 0, 0,
     { unit with now := 1000000000000094, safe.brk := (unit.safe.brk.modify 2 (fun y => { y with test := some { phase := 2 } })) }, { phase := 2 },
     by unfold State.Inv; decide +kernel⟩,
   ⟨0, 2, 1,
     { unit with now := 7000000000, safe.brk := (unit.safe.brk.modify 1 (fun y => { y with test := some { phase := 2 } })) }, { phase := 2 },
     by unfold State.Inv; decide +kernel⟩,
   ⟨0, { unit with safe.brk := (unit.safe.brk.modify 2 (fun y => { y with fault := true })), safe.pHealthy := true },
     by unfold State.Inv; decide +kernel⟩,
   ⟨0, unit, by unfold State.Inv; decide +kernel⟩⟩

/-- The hypotheses of each clause of SealLocksTheShadowSet can be met. -/
theorem wit_SealLocksTheShadowSet :
    (∃ (c : Nat) (o : Nat) (s : State), s.Inv ∧ isTch c = true ∧ s.dom 10 = true ∧ (s.tch c).sealed = true ∧ (o = 16 ∨ o = 20 ∨ o = 24)) ∧
    (∃ (c : Nat) (s : State), s.Inv ∧ isTch c = true ∧ s.dom 10 = true ∧ (s.tch c).sealed = true ∧ (s.tch c).latch = false) ∧
    (∃ (c : Nat) (s : State), s.Inv ∧ isTch c = true ∧ s.dom 10 = true ∧ (s.tch c).sealed = true ∧ (s.tch c).latch = true) :=
  ⟨⟨1, 24, { unit with thr.chans := (unit.thr.chans.modify 0 (fun y => { y with sealed := true })) }, by unfold State.Inv; decide +kernel⟩,
   ⟨1, { unit with thr.chans := unit.thr.chans.modify 0 (fun x => { x with sealed := true }) }, by unfold State.Inv; decide +kernel⟩,
   ⟨2, { unit with thr.chans := (unit.thr.chans.modify 1 (fun y => { y with sealed := true, latch := true })) },
     by unfold State.Inv; decide +kernel⟩⟩

/-- The hypotheses of each clause of SerialEvents can be met. -/
theorem wit_SerialEvents :
    (∃ (n : Nat) (s : State), s.Inv ∧ (n = 0 ∨ 12 < n)) ∧
    (∃ (n : Nat) (s : State), s.Inv ∧ 1 ≤ n ∧ n ≤ 12 ∧ (s.dom 10 = false ∨ s.parN Param.BUS_SER_MODE n = 0)) ∧
    (∃ (n : Nat) (bs : List Byte) (s : State) (body : List Nat), s.Inv ∧ 1 ≤ n ∧ n ≤ 12 ∧ s.dom 10 = true ∧ s.parN Param.BUS_SER_MODE n ≠ 0
      ∧ s.parN Param.BUS_SER_PROTO n < 2 ∧ sentenceBody (s.parB Param.BUS_SER_CKSUM n) (List.map BitVec.toNat bs) = some body) ∧
    (∃ (n : Nat) (bs : List Byte) (s : State), s.Inv ∧ 1 ≤ n ∧ n ≤ 12 ∧ s.dom 10 = true ∧ s.parN Param.BUS_SER_MODE n ≠ 0
      ∧ s.parN Param.BUS_SER_PROTO n < 2 ∧ sentenceBody (s.parB Param.BUS_SER_CKSUM n) (List.map BitVec.toNat bs) = none) ∧
    (∃ (n : Nat) (s : State) (errs : Nat), s.Inv ∧ 1 ≤ n ∧ n ≤ 12 ∧ s.dom 10 = true ∧ s.parN Param.BUS_SER_MODE n ≠ 0
      ∧ s.parN Param.BUS_SER_PROTO n < 2 ∧ 0 < errs) ∧
    (∃ (n : Nat) (s : State) (d : List Rat), s.Inv ∧ 1 ≤ n ∧ n ≤ 12 ∧ s.dom 10 = true ∧ s.parN Param.BUS_SER_MODE n ≠ 0
      ∧ s.parN Param.BUS_SER_PROTO n = 2 ∧ d = s.parL Param.BUS_BIN (s.parN Param.BUS_SER_PARSER n) ∧ d = []) ∧
    (∃ (n : Nat) (s : State) (d : List Rat) (errs : Nat), s.Inv ∧ 1 ≤ n ∧ n ≤ 12 ∧ s.dom 10 = true ∧ s.parN Param.BUS_SER_MODE n ≠ 0
      ∧ s.parN Param.BUS_SER_PROTO n = 2 ∧ d = s.parL Param.BUS_BIN (s.parN Param.BUS_SER_PARSER n) ∧ d ≠ [] ∧ 0 < errs) ∧
    (∃ (n : Nat) (s : State) (d : List Rat), s.Inv ∧ 1 ≤ n ∧ n ≤ 12 ∧ s.dom 10 = true ∧ s.parN Param.BUS_SER_MODE n ≠ 0
      ∧ s.parN Param.BUS_SER_PROTO n = 2 ∧ d = s.parL Param.BUS_BIN (s.parN Param.BUS_SER_PARSER n) ∧ d ≠ []) ∧
    (∃ (g : Nat) (bs : List Byte) (s : State), s.Inv ∧ (s.netUp = false ∨ s.dom 10 = false ∨ (s.parL Param.BUS_450_GROUPS).contains ↑g = false
      ∨ List.take 6 (List.map BitVec.toNat bs) ≠ [85, 100, 80, 98, 67, 0])) ∧
    (∃ (g : Nat) (bs : List Byte) (s : State), s.Inv ∧ s.netUp = true ∧ s.dom 10 = true ∧ (s.parL Param.BUS_450_GROUPS).contains ↑g = true
      ∧ List.take 6 (List.map BitVec.toNat bs) = [85, 100, 80, 98, 67, 0]) ∧
    (∃ (t : Nat) (n : Nat) (kind : Nat) (s : State), s.Inv ∧ 1 ≤ n ∧ n ≤ 12 ∧ ((s.arrive t).serDrain n).serDue n kind = false) ∧
    (∃ (t : Nat) (n : Nat) (kind : Nat) (s : State), s.Inv ∧ 1 ≤ n ∧ n ≤ 12 ∧ ((s.arrive t).serDrain n).serDue n kind = true
      ∧ ((s.arrive t).serDrain n).talker kind = none) ∧
    (∃ (t : Nat) (n : Nat) (kind : Nat) (s : State) (d : List Byte), s.Inv ∧ 1 ≤ n ∧ n ≤ 12 ∧ ((s.arrive t).serDrain n).serDue n kind = true
      ∧ ((s.arrive t).serDrain n).talker kind = some d) :=
  ⟨⟨0, unit, by unfold State.Inv; decide +kernel⟩,
   ⟨1, unit, by unfold State.Inv; decide +kernel⟩,
   ⟨1, [36, 65, 66, 67, 68, 69, 42, 52, 49, 13, 10], { unit with cfg.given := [((.BUS_SER_MODE, 1), 1), ((.BUS_SER_PROTO, 1), 0)] }, [65, 66, 67,
     68, 69], by unfold State.Inv; decide +kernel⟩,
   ⟨1, [36], { unit with cfg.given := [((.BUS_SER_MODE, 1), 1), ((.BUS_SER_PROTO, 1), 0)] }, by unfold State.Inv; decide +kernel⟩,
   ⟨1, { unit with cfg.given := [((.BUS_SER_MODE, 1), 1), ((.BUS_SER_PROTO, 1), 0)] }, 1, by unfold State.Inv; decide +kernel⟩,
   ⟨1, { unit with cfg.given := [((.BUS_SER_MODE, 1), 1), ((.BUS_SER_PROTO, 1), 2)] }, [], by unfold State.Inv; decide +kernel⟩,
   ⟨1,
     { unit with cfg.given := [((.BUS_SER_MODE, 1), 1), ((.BUS_SER_PROTO, 1), 2), ((.BUS_SER_PARSER, 1), 1)], cfg.lists := [((.BUS_BIN, 1), [1])] },
     [1], 1, by unfold State.Inv; decide +kernel⟩,
   ⟨1,
     { unit with cfg.given := [((.BUS_SER_MODE, 1), 1), ((.BUS_SER_PROTO, 1), 2), ((.BUS_SER_PARSER, 1), 1)], cfg.lists := [((.BUS_BIN, 1), [1])] },
     [1], by unfold State.Inv; decide +kernel⟩,
   ⟨0, [], unit, by unfold State.Inv; decide +kernel⟩,
   ⟨1, [85, 100, 80, 98, 67, 0], { unit with cfg.lists := [((.BUS_450_GROUPS, 0), [1])] }, by unfold State.Inv; decide +kernel⟩,
   ⟨0, 1, 0, unit, by unfold State.Inv; decide +kernel⟩,
   ⟨0, 1, 2, { unit with cfg.given := [((.BUS_SER_MODE, 1), 1), ((.BUS_SER_PROTO, 1), 0)], cfg.lists := [((.BUS_SER_TX, 1), [2, 100])] },
     by unfold State.Inv; decide +kernel⟩,
   ⟨0, 1, 2,
     { unit with tmu.utcOffset := some 37, cfg.given := [((.BUS_SER_MODE, 1), 1), ((.BUS_SER_PROTO, 1), 0)], cfg.lists := [((.BUS_SER_TX, 1), [2, 100])] },
     (((State.arrive { unit with tmu.utcOffset := some 37, cfg.given := [((.BUS_SER_MODE, 1), 1), ((.BUS_SER_PROTO, 1), 0)], cfg.lists := [((.BUS_SER_TX, 1), [2, 100])] } 0).serDrain 1).talker 2).getD [],
     by unfold State.Inv; decide +kernel⟩⟩

/-- The hypotheses of each clause of SessionAndUnitCommands can be met. -/
theorem wit_SessionAndUnitCommands :
    (∃ (t : Nat) (q : Nat) (p : List Byte) (s : State) (x : Session), s.takes opCloseSession t x q false p = true
      ∧ (∀ (a : Nat × Nat), a ∈ s.cmd.accepted → a.fst ≠ x.num)) ∧
    (∃ (p : List Byte) (s : State) (iface : Iface) (client : Nat) (auth : Bool) (r : Role), s.hears = true ∧ roleOf (fld p 0 1) = some r
      ∧ portAdmits r iface = true ∧ ((if auth = true then (s.roleKey r).isSome else s.openFree r iface) = true) ∧ 20 ≤ p.length
      ∧ (fld p 1 1).testBit 0 = false ∧ ((fld p 1 1).testBit 1 = true ∨ s.pairOk = true) ∧ (∀ (y : Session), y ∈ s.cmd.sessions → y.client ≠ client
      ∧ y.num ≠ s.cmd.nextSession) ∧ s.cmd.sessions.length < 256) ∧
    (∃ (t : Nat) (q : Nat) (p : List Byte) (s : State) (x : Session), s.takes opSysRestart t x q false p = true) ∧
    (∃ (t : Nat) (q : Nat) (p : List Byte) (s : State) (x : Session), s.takes opKeyWrite t x q false p = true ∧ fld p 0 1 = 16) ∧
    (∃ (t : Nat) (q : Nat) (p : List Byte) (s : State) (x : Session), s.takes opKeyWrite t x q false p = true ∧ fld p 0 1 ≠ 16 ∧ fld p 0 1 ≠ 3) ∧
    (∃ (t : Nat) (q : Nat) (p : List Byte) (s : State) (x : Session), s.takes opKeyWrite t x q false p = true ∧ fld p 0 1 = 3) ∧
    (∃ (t : Nat) (q : Nat) (p : List Byte) (s : State) (x : Session), s.takes opImgStage t x q false p = true) ∧
    (∃ (t : Nat) (q : Nat) (p : List Byte) (s : State) (x : Session), s.takes opImgVerify t x q true p = true) ∧
    (∃ (t : Nat) (q : Nat) (p : List Byte) (s : State) (x : Session), s.takes opImgActivate t x q false p = true ∧ fld p 0 1 ≠ 128) ∧
    (∃ (t : Nat) (q : Nat) (p : List Byte) (s : State) (x : Session), s.takes opImgActivate t x q false p = true ∧ fld p 0 1 = 128) ∧
    (∃ (t : Nat) (q : Nat) (p : List Byte) (s : State) (x : Session), s.takes opDomainDrain t x q false p = true) ∧
    (∃ (t : Nat) (q : Nat) (p : List Byte) (s : State) (x : Session), s.takes opDomainDrain t x q true p = true) ∧
    (∃ (t : Nat) (q : Nat) (p : List Byte) (s : State) (x : Session) (b : State), s.takes opDomainDrain t x q true p = true
      ∧ b.dom (fld p 0 1) = true) ∧
    (∃ (t : Nat) (q : Nat) (p : List Byte) (s : State) (x : Session), s.takes opDomainRestore t x q false p = true) ∧
    (∃ (t : Nat) (q : Nat) (p : List Byte) (s : State) (x : Session), s.takes opDomainRestore t x q true p = true) ∧
    (∃ (t : Nat) (q : Nat) (p : List Byte) (s : State) (x : Session) (b : State), s.takes opDomainRestore t x q true p = true
      ∧ b.dom (fld p 0 1) = false) :=
  ⟨⟨0, 1, [], unit, desk, by decide +kernel⟩,
   ⟨[1, 0, 0, 0, 0, 0, 0, 1, 0, 0, 0, 80, 0, 180, 0, 245, 100, 189, 0, 196],
     { State.reset with keep.powered := 4095, cfg.given := [((.CMD_OPERATOR_OPEN, 0), 1)] }, .lan, 0, false, .operator, by decide +kernel⟩,
   ⟨0, 1, [255], unit, desk, by decide +kernel⟩,
   ⟨0, 1, 16 :: List.replicate 35 0, unit, desk, by decide +kernel⟩,
   ⟨0, 1, [2, 210, 2, 2, 1, 0, 224, 241, 32, 233, 224, 3, 254, 5, 103, 26, 224, 2, 72, 253, 72, 234, 6, 246, 254, 51, 7, 60, 51, 2, 250, 8, 0, 224,
     199, 200], unit, desk, by decide +kernel⟩,
   ⟨0, 1, 3 :: List.replicate 35 0, unit, desk, by decide +kernel⟩,
   ⟨0, 1, List.replicate 6 0, unit, desk, by decide +kernel⟩,
   ⟨0, 3, [249, 31, 165, 2], { unit with cmd.sessions := [{ role := .service, e := 3, iface := .svc }] },
     { role := .service, e := 3, iface := .svc }, by decide +kernel⟩,
   ⟨0, 1, [5], { unit with sys.images := [{ domain := 5, active := 1 }] }, desk, by decide +kernel⟩,
   ⟨0, 1, [128], { unit with sys.images := [{ domain := 128, b := { valid := true } }] }, desk, by decide +kernel⟩,
   ⟨0, 1, [5], { unit with keep.powered := 11 }, desk, by decide +kernel⟩,
   ⟨0, 1, [2], unit, desk, by decide +kernel⟩,
   ⟨0, 1, [4], unit, desk, unit, by decide +kernel⟩,
   ⟨0, 1, [10], unit, desk, by decide +kernel⟩,
   ⟨0, 1, [5], { unit with keep.powered := 9 }, desk, by decide +kernel⟩,
   ⟨0, 1, [7], { State.reset with cmd.sessions := [desk], keep.powered := 127 }, desk, State.reset, by decide +kernel⟩⟩

/-- The hypotheses of each clause of StartOfAChain can be met. -/
theorem wit_StartOfAChain :
    (∃ (n : Nat) (s : State), s.Inv ∧ n < 32 ∧ s.dom 1 = true ∧ ((s.dch n).desc.isSome = true ∨ (s.dch n).en = false)) ∧
    (∃ (n : Nat) (s : State), s.Inv ∧ n < 32 ∧ s.dom 1 = true ∧ (s.dch n).desc = none ∧ (s.dch n).en = true) :=
  ⟨⟨0, { unit with dma.chans := (unit.dma.chans.modify 0 (fun y => { y with desc := some { } })) }, by unfold State.Inv; decide +kernel⟩,
   ⟨0, unit, by unfold State.Inv; decide +kernel⟩⟩

/-- The hypotheses of each clause of StepKeepsInvariant can be met. -/
theorem wit_StepKeepsInvariant :
    (∃ (s : State) (u : State), s.Inv ∧ step s = Host.Outcome.next u) :=
  ⟨unit, unit, by unfold State.Inv; decide +kernel, rfl⟩

/-- The hypotheses of each clause of StepTakesTheFront can be met. -/
theorem wit_StepTakesTheFront :
    (∃ (c : Instr) (q : List Instr) (s : State), s.pending = c :: q) ∧
    (∃ (s : State), s.pending = []) :=
  ⟨⟨.frameStart 0, [], { unit with pending := [.frameStart 0] }, by decide +kernel⟩,
   ⟨unit, by decide +kernel⟩⟩

/-- The hypotheses of each clause of SupplyEvents can be met. -/
theorem wit_SupplyEvents :
    (∃ (va : Rat) (vb : Rat) (s : State), s.keep.d0On = true ∧ s.keep.supply.state = 0 ∧ ((if va < vb then vb else va) < 17)) ∧
    (∃ (va : Rat) (vb : Rat) (s : State), s.keep.d0On = false ∨ s.keep.supply.state ≠ 0 ∨ 17 ≤ if va < vb then vb else va) ∧
    (∃ (va : Rat) (vb : Rat) (s : State), s.keep.d0On = true ∧ s.keep.supply.state = 1 ∧ (18 ≤ if va < vb then vb else va)) ∧
    (∃ (va : Rat) (vb : Rat) (s : State), s.keep.d0On = false ∨ s.keep.supply.state ≠ 1 ∨ (if va < vb then vb else va) < 18) ∧
    (∃ (va : Rat) (vb : Rat) (s : State), s.keep.d0On = true ∧ (33 < if va < vb then vb else va)) ∧
    (∃ (va : Rat) (vb : Rat), (if va < vb then vb else va) ≤ 33) ∧
    (∃ (b : Bool) (v : Rat) (s : State), s.keep.d0On = true ∧ v < 17 ∧ (18 ≤ if b = true then s.keep.supply.vla else s.keep.supply.vlb)
      ∧ s.parB Param.PWR_SINGLE_INPUT = false) ∧
    (∃ (v : Rat) (s : State), 17 ≤ v ∨ s.parB Param.PWR_SINGLE_INPUT = true) ∧
    (∃ (k : Nat), 3 ≤ k) ∧
    (∃ (v : Rat) (s : State), s.keep.d0On = true ∧ v ≤ 32) ∧
    (∃ (v : Rat) (s : State), 32 < v ∨ s.keep.d0On = false) ∧
    (∃ (k : Nat) (v : Rat) (s : State), k < 2 ∧ s.keep.d0On = true ∧ 18 ≤ v) ∧
    (∃ (k : Nat) (v : Rat) (s : State), k < 2 ∧ (v < 18 ∨ s.keep.d0On = false)) ∧
    (∃ (s : State), s.keep.d0On = true) ∧
    (∃ (s : State), s.keep.d0On = false) ∧
    (∃ (t : Nat) (s : State), s.keep.d0On = true ∧ s.dom 9 = true ∧ (s.vc s.tmu.selVc).present = true ∧ (s.keep.tk.time = none
      ∨ s.keep.tk.at_ + 60000000000 ≤ max s.now t)) ∧
    (∃ (s : State), s.keep.d0On = false ∨ s.dom 9 = false ∨ (s.vc s.tmu.selVc).present = false) :=
  ⟨⟨0, 0, unit, by decide +kernel⟩,
   ⟨0, 100, unit, by decide +kernel⟩,
   ⟨50, 0, { unit with keep.supply.state := 1 }, by decide +kernel⟩,
   ⟨0, 0, unit, by decide +kernel⟩,
   ⟨0, (119 / 3), unit, by decide +kernel⟩,
   ⟨0, 0, by decide +kernel⟩,
   ⟨true, 0, unit, by decide +kernel⟩,
   ⟨51, unit, by decide +kernel⟩,
   ⟨256, by decide +kernel⟩,
   ⟨0, unit, by decide +kernel⟩,
   ⟨0, { unit with keep.d0On := false }, by decide +kernel⟩,
   ⟨0, 24, unit, by decide +kernel⟩,
   ⟨0, 0, unit, by decide +kernel⟩,
   ⟨unit, by decide +kernel⟩,
   ⟨{ unit with keep.d0On := false }, by decide +kernel⟩,
   ⟨0, { unit with tmu.vc0.qual := 1 }, by decide +kernel⟩,
   ⟨unit, by decide +kernel⟩⟩

/-- The hypotheses of each clause of SystemAndSafetyQueries can be met. -/
theorem wit_SystemAndSafetyQueries :
    (∃ (t : Nat) (q : Nat) (p : List Byte) (s : State) (x : Session), s.takes opSysQuery t x q false p = true) ∧
    (∃ (t : Nat) (q : Nat) (p : List Byte) (s : State) (x : Session), s.takes opKeepalive t x q false p = true) ∧
    (∃ (t : Nat) (q : Nat) (p : List Byte) (s : State) (x : Session), s.takes opSessionQuery t x q false p = true) ∧
    (∃ (t : Nat) (q : Nat) (p : List Byte) (s : State) (x : Session), s.takes opJournalQuery t x q false p = true) ∧
    (∃ (t : Nat) (q : Nat) (p : List Byte) (s : State) (x : Session), s.takes opCfgQuery t x q false p = true) ∧
    (∃ (t : Nat) (q : Nat) (p : List Byte) (s : State) (x : Session), s.takes opGetSurvey t x q false p = true) ∧
    (∃ (t : Nat) (q : Nat) (p : List Byte) (s : State) (x : Session), s.takes opLogCodes t x q false p = true) ∧
    (∃ (t : Nat) (q : Nat) (p : List Byte) (s : State) (x : Session), s.takes opLogRead t x q false p = true) ∧
    (∃ (t : Nat) (q : Nat) (p : List Byte) (s : State) (x : Session), s.takes opLogSnapRead t x q false p = true) ∧
    (∃ (t : Nat) (q : Nat) (p : List Byte) (s : State) (x : Session), s.takes opSafeQuery t x q false p = true) ∧
    (∃ (t : Nat) (q : Nat) (p : List Byte) (s : State) (x : Session), s.takes opSafeCfgRead t x q false p = true) ∧
    (∃ (t : Nat) (q : Nat) (p : List Byte) (s : State) (x : Session), s.takes opRedQuery t x q false p = true) ∧
    (∃ (t : Nat) (q : Nat) (p : List Byte) (s : State) (x : Session), s.takes opSatQuery t x q false p = true) :=
  ⟨⟨0, 1, [], unit, desk, by decide +kernel⟩,
   ⟨0, 1, [], unit, desk, by decide +kernel⟩,
   ⟨0, 1, [], unit, desk, by decide +kernel⟩,
   ⟨0, 1, [], unit, desk, by decide +kernel⟩,
   ⟨0, 1, [11, 224], unit, desk, by decide +kernel⟩,
   ⟨0, 1, [], unit, desk, by decide +kernel⟩,
   ⟨0, 1, [0, 0, 64, 3], unit, desk, by decide +kernel⟩,
   ⟨0, 1, [254, 3, 0, 252, 1, 1, 2, 1], unit, desk, by decide +kernel⟩,
   ⟨0, 1, List.replicate 8 0, { unit with log.snaps := [{ }] }, desk, by decide +kernel⟩,
   ⟨0, 1, [], unit, desk, by decide +kernel⟩,
   ⟨0, 1, [0, 64, 3, 254], { unit with safe.confirmed := some [192, 192, 192, 192, 192, 192, 192] }, desk, by decide +kernel⟩,
   ⟨0, 1, [], unit, desk, by decide +kernel⟩,
   ⟨0, 1, [], unit, desk, by decide +kernel⟩⟩

/-- The hypotheses of each clause of ThrusterFeedback can be met. -/
theorem wit_ThrusterFeedback :
    (∃ (port : Nat), between 1 port 4 = false) ∧
    (∃ (port : Nat) (f : CanFrame) (s : State), between 1 port 4 = true ∧ s.fbChan port f = none) ∧
    (∃ (port : Nat) (c : Nat) (f : CanFrame) (s : State), between 1 port 4 = true ∧ s.fbChan port f = some c ∧ s.fbValid c 17 f = false) ∧
    (∃ (port : Nat) (c : Nat) (f : CanFrame) (s : State), between 1 port 4 = true ∧ s.fbChan port f = some c ∧ s.fbValid c 18 f = false) ∧
    (∃ (port : Nat) (c : Nat) (f : CanFrame) (s : State), between 1 port 4 = true ∧ s.fbChan port f = some c ∧ s.fbValid c 17 f = true
      ∧ (s.tch c).fb.counter = some (byte (fld f.data 13 1))) ∧
    (∃ (port : Nat) (c : Nat) (f : CanFrame) (s : State), between 1 port 4 = true ∧ s.fbChan port f = some c ∧ c - 1 < s.thr.chans.length
      ∧ s.fbValid c 17 f = true ∧ (s.tch c).fb.counter ≠ some (byte (fld f.data 13 1)) ∧ (fld f.data 12 1).testBit 2 = false) ∧
    (∃ (port : Nat) (c : Nat) (f : CanFrame) (s : State), between 1 port 4 = true ∧ s.fbChan port f = some c ∧ s.fbValid c 17 f = true
      ∧ (s.tch c).fb.counter ≠ some (byte (fld f.data 13 1)) ∧ (fld f.data 12 1).testBit 2 = true) ∧
    (∃ (port : Nat) (c : Nat) (f : CanFrame) (s : State), between 1 port 4 = true ∧ s.fbChan port f = some c ∧ c - 1 < s.thr.chans.length
      ∧ s.fbValid c 18 f = true ∧ s.parN Param.THR_ENC_SHAFT c = 0 ∧ (s.tch c).fb2.counter ≠ some (byte (fld f.data 13 1))) :=
  ⟨⟨0, by decide +kernel⟩,
   ⟨1, { }, unit, by decide +kernel⟩,
   ⟨1, 1, { canMsg 2 17 1 5 [] with data := [] },
     { unit with cfg.given := [((.THR_TYPE, 1), 1), ((.ALC_TFWD, 1), 1), ((.THR_CAN_PORT, 1), 1), ((.THR_LINK, 1), 0), ((.THR_DRIVE_NODE, 1), 5), ((.THR_ENC_SHAFT, 1), 0)] },
     by decide +kernel⟩,
   ⟨1, 1, { canMsg 2 18 1 5 [] with data := [] },
     { unit with cfg.given := [((.THR_TYPE, 1), 1), ((.ALC_TFWD, 1), 1), ((.THR_CAN_PORT, 1), 1), ((.THR_LINK, 1), 0), ((.THR_DRIVE_NODE, 1), 5), ((.THR_ENC_SHAFT, 1), 0)] },
     by decide +kernel⟩,
   ⟨1, 1, canMsg 2 17 1 5 (List.replicate 14 0),
     { unit with cfg.given := [((.THR_TYPE, 1), 1), ((.ALC_TFWD, 1), 1), ((.THR_CAN_PORT, 1), 1), ((.THR_LINK, 1), 0), ((.THR_DRIVE_NODE, 1), 5), ((.THR_ENC_SHAFT, 1), 0)], thr.chans := unit.thr.chans.modify 0 (fun x => { x with fb.counter := some 0 }) }, by decide +kernel⟩,
   ⟨1, 1, canMsg 2 17 1 5 (List.replicate 14 0),
     { unit with cfg.given := [((.THR_TYPE, 1), 1), ((.ALC_TFWD, 1), 1), ((.THR_CAN_PORT, 1), 1), ((.THR_LINK, 1), 0), ((.THR_DRIVE_NODE, 1), 5), ((.THR_ENC_SHAFT, 1), 0)] },
     by decide +kernel⟩,
   ⟨1, 1, canMsg 2 17 1 5 ((List.replicate 14 0).set 12 4),
     { unit with cfg.given := [((.THR_TYPE, 1), 1), ((.ALC_TFWD, 1), 1), ((.THR_CAN_PORT, 1), 1), ((.THR_LINK, 1), 0), ((.THR_DRIVE_NODE, 1), 5), ((.THR_ENC_SHAFT, 1), 0)] },
     by decide +kernel⟩,
   ⟨1, 1, canMsg 2 18 1 5 (List.replicate 14 0),
     { unit with cfg.given := [((.THR_TYPE, 1), 1), ((.ALC_TFWD, 1), 1), ((.THR_CAN_PORT, 1), 1), ((.THR_LINK, 1), 0), ((.THR_DRIVE_NODE, 1), 5), ((.THR_ENC_SHAFT, 1), 0)] },
     by decide +kernel⟩⟩

/-- The hypotheses of each clause of ThrusterSupervision can be met. -/
theorem wit_ThrusterSupervision :
    (∃ (t : Nat) (c : Nat) (s : State) (i : Instr) (b : Nat), isTch c = true ∧ (i, b) ∈ [(Instr.thrAzFollowExpiry t c, 4),
      (Instr.thrAzWrongDirExpiry t c, 5), (Instr.thrRudderFollowExpiry t c, 11), (Instr.thrTHighExpiry t c, 6), (Instr.thrTDevExpiry t c, 7),
      (Instr.thrAngDisagreeExpiry t c, 10)] ∧ s.dom 10 = true ∧ (s.tch c).state ≠ 0 ∧ (s.arrive t).thrCond c b = true) ∧
    (∃ (t : Nat) (c : Nat) (s : State) (i : Instr) (b : Nat), isTch c = true ∧ (i, b) ∈ [(Instr.thrAzFollowExpiry t c, 4),
      (Instr.thrAzWrongDirExpiry t c, 5), (Instr.thrRudderFollowExpiry t c, 11), (Instr.thrTHighExpiry t c, 6), (Instr.thrTDevExpiry t c, 7),
      (Instr.thrAngDisagreeExpiry t c, 10)] ∧ (s.arrive t).thrCond c b = false) ∧
    (∃ (t : Nat) (c : Nat) (s : State) (i : Instr) (b : Nat), isTch c = true ∧ (i, b) ∈ [(Instr.thrAzFollowExpiry t c, 4),
      (Instr.thrAzWrongDirExpiry t c, 5), (Instr.thrRudderFollowExpiry t c, 11), (Instr.thrTHighExpiry t c, 6), (Instr.thrTDevExpiry t c, 7),
      (Instr.thrAngDisagreeExpiry t c, 10)] ∧ (s.dom 10 = false ∨ (s.tch c).state = 0)) ∧
    (∃ (t : Nat) (c : Nat) (s : State), isTch c = true ∧ s.dom 10 = true ∧ (s.tch c).state ≠ 0 ∧ (s.arrive t).thrCond c 2 = true) ∧
    (∃ (t : Nat) (c : Nat) (s : State), isTch c = true ∧ s.dom 10 = true ∧ (s.tch c).state ≠ 0 ∧ (s.arrive t).thrCond c 2 = false
      ∧ (s.arrive t).thrCond c 9 = true) ∧
    (∃ (t : Nat) (c : Nat) (s : State), isTch c = true ∧ (s.arrive t).thrCond c 2 = false ∧ (s.arrive t).thrCond c 9 = false) ∧
    (∃ (t : Nat) (c : Nat) (s : State) (a : Nat), isTch c = true ∧ s.dom 10 = true ∧ (s.tch c).state = 3 ∧ (s.tch c).timers.readySince = some a
      ∧ a + 1000000000 ≤ max s.now t) ∧
    (∃ (c : Nat) (s : State), isTch c = true ∧ (s.tch c).state ≠ 3) ∧
    (∃ (t : Nat) (c : Nat) (s : State) (a : Nat), isTch c = true ∧ s.dom 10 = true ∧ (s.tch c).state = 2 ∧ (s.tch c).timers.clearSince = some a
      ∧ a + 10000000000 ≤ max s.now t) ∧
    (∃ (c : Nat) (s : State), isTch c = true ∧ (s.tch c).state ≠ 2) ∧
    (∃ (t : Nat) (c : Nat) (s : State), isTch c = true ∧ (s.arrive t).sliceStart c = true ∧ s.tconf c = true ∧ (s.tch c).state ≠ 0) ∧
    (∃ (t : Nat) (c : Nat) (s : State), isTch c = true ∧ (s.arrive t).sliceStart c = false) :=
  ⟨⟨2000000457, 1, { unit with thr.chans := (unit.thr.chans.modify 0 (fun y => { y with state := 1, timers.azFollow := some 127 })) },
     .thrAzFollowExpiry 2000000457 1, 4, by decide +kernel, by simp, by decide +kernel⟩,
   ⟨0, 1, unit, .thrAzFollowExpiry 0 1, 4, by decide +kernel, by simp, by decide +kernel⟩,
   ⟨0, 1, unit, .thrAzFollowExpiry 0 1, 4, by decide +kernel, by simp, by decide +kernel⟩,
   ⟨499999999, 1, { unit with thr.chans := (unit.thr.chans.modify 0 (fun y => { y with state := 1 })) }, by decide +kernel⟩,
   ⟨0, 1,
     { unit with cfg.given := [((.THR_TYPE, 1), 1), ((.ALC_TFWD, 1), 1), ((.THR_CAN_PORT, 1), 1), ((.THR_LINK, 1), 2)], bus.can := unit.bus.can.modify 0 (fun x => { x with state := 4 }), thr.chans := unit.thr.chans.modify 0 (fun x => { x with state := 1 }) }, by decide +kernel⟩,
   ⟨0, 1, unit, by decide +kernel⟩,
   ⟨0, 2, { unit with now := 4294967296, thr.chans := (unit.thr.chans.modify 1 (fun y => { y with state := 3, timers.readySince := some 1 })) }, 1,
     by decide +kernel⟩,
   ⟨1, unit, by decide +kernel⟩,
   ⟨0, 2, { unit with now := 20000000869, thr.chans := (unit.thr.chans.modify 1 (fun y => { y with state := 2, timers.clearSince := some 500 })) },
     500, by decide +kernel⟩,
   ⟨1, unit, by decide +kernel⟩,
   ⟨2400000, 1,
     { unit with cfg.given := [((.THR_TYPE, 1), 1), ((.ALC_TFWD, 1), 1), ((.THR_CAN_PORT, 1), 1), ((.THR_LINK, 1), 0), ((.THR_DRIVE_NODE, 1), 5), ((.THR_ENC_SHAFT, 1), 0)], thr.chans := unit.thr.chans.modify 0 (fun x => { x with state := 1 }) }, by decide +kernel⟩,
   ⟨0, 1, unit, by decide +kernel⟩⟩

/-- The hypotheses of each clause of ThrusterWrites can be met. -/
theorem wit_ThrusterWrites :
    (∃ (c : Nat), isTch c = false) ∧
    (∃ (c : Nat) (s : State), isTch c = true ∧ s.dom 10 = true ∧ (s.tch c).sealed = true) ∧
    (∃ (c : Nat) (s : State), isTch c = true ∧ s.dom 10 = true ∧ (s.tch c).sealed = false ∧ s.tconf c = true ∧ s.frame.phaseCommit = false) ∧
    (∃ (c : Nat) (s : State), isTch c = true ∧ s.dom 10 = true ∧ (s.tch c).sealed = false ∧ s.tconf c = true ∧ s.frame.phaseCommit = true) ∧
    (∃ (c : Nat) (s : State), isTch c = true ∧ s.dom 10 = true ∧ (s.tch c).sealed = false) ∧
    (∃ (c : Nat) (s : State), isTch c = true ∧ s.dom 10 = true ∧ (s.tch c).sealed = true ∧ (s.tch c).latch = false ∧ s.tport c = 0) ∧
    (∃ (c : Nat) (s : State), isTch c = true ∧ s.dom 10 = true ∧ (s.tch c).sealed = true ∧ (s.tch c).latch = false ∧ s.tport c ≠ 0) ∧
    (∃ (c : Nat) (s : State), isTch c = true ∧ s.dom 10 = true ∧ (s.tch c).latch = true) ∧
    (∃ (c : Nat) (s : State), isTch c = true ∧ s.dom 10 = true) ∧
    (∃ (b : Bool) (s : State), s.dom 10 = true ∧ s.thr.auth = b) ∧
    (∃ (b : Bool) (s : State), s.dom 10 = true ∧ s.thr.auth ≠ b) ∧
    (∃ (t : Nat) (s : State) (e : Nat), s.thr.aoHoldUntil = some e ∧ e ≤ max s.now t) ∧
    (∃ (t : Nat) (s : State) (e : Nat), s.thr.aoHoldUntil = some e ∧ max s.now t < e) ∧
    (∃ (s : State), s.dom 10 = false) :=
  ⟨⟨0, by decide +kernel⟩,
   ⟨1, { unit with thr.chans := (unit.thr.chans.modify 0 (fun y => { y with sealed := true })) }, by decide +kernel⟩,
   ⟨1,
     { unit with cfg.given := [((.THR_TYPE, 1), 1), ((.ALC_TFWD, 1), 1), ((.THR_CAN_PORT, 1), 1), ((.THR_LINK, 1), 0), ((.THR_DRIVE_NODE, 1), 5), ((.THR_ENC_SHAFT, 1), 0)] },
     by decide +kernel⟩,
   ⟨1,
     { unit with cfg.given := [((.THR_TYPE, 1), 1), ((.ALC_TFWD, 1), 1), ((.THR_CAN_PORT, 1), 1), ((.THR_LINK, 1), 0), ((.THR_DRIVE_NODE, 1), 5), ((.THR_ENC_SHAFT, 1), 0)], frame.phaseCommit := true },
     by decide +kernel⟩,
   ⟨1, unit, by decide +kernel⟩,
   ⟨1, { unit with thr.chans := (unit.thr.chans.modify 0 (fun y => { y with sealed := true })) }, by decide +kernel⟩,
   ⟨1, { unit with thr.chans := (unit.thr.chans.modify 0 (fun y => { y with sealed := true })), cfg.given := [((.THR_CAN_PORT, 1), 3)] },
     by decide +kernel⟩,
   ⟨3, { unit with thr.chans := (unit.thr.chans.modify 2 (fun y => { y with latch := true })) }, by decide +kernel⟩,
   ⟨1, unit, by decide +kernel⟩,
   ⟨false, unit, by decide +kernel⟩,
   ⟨false, { unit with thr.auth := true }, by decide +kernel⟩,
   ⟨0, { unit with thr.aoHoldUntil := some 1 }, 1, by decide +kernel⟩,
   ⟨0, { unit with thr.aoHoldUntil := some 290 }, 290, by decide +kernel⟩,
   ⟨State.reset, by decide +kernel⟩⟩

/-- The hypotheses of each clause of TimeAndFieldCommands can be met. -/
theorem wit_TimeAndFieldCommands :
    (∃ (t : Nat) (q : Nat) (p : List Byte) (s : State) (x : Session), s.takes opTimeSelect t x q false p = true) ∧
    (∃ (t : Nat) (q : Nat) (p : List Byte) (s : State) (x : Session), s.takes opTimePulse t x q false p = true ∧ (fld p 1 1).testBit 1 = false
      ∧ (fld p 1 1).testBit 0 = false) ∧
    (∃ (t : Nat) (q : Nat) (p : List Byte) (s : State) (x : Session), s.takes opTimePulse t x q false p = true ∧ (fld p 1 1).testBit 1 = false
      ∧ (fld p 1 1).testBit 0 = true) ∧
    (∃ (t : Nat) (q : Nat) (p : List Byte) (s : State) (x : Session), s.takes opTimePulse t x q false p = true ∧ (fld p 1 1).testBit 1 = true
      ∧ (s.pulse (fld p 0 1)).armed = true) ∧
    (∃ (t : Nat) (q : Nat) (p : List Byte) (s : State) (x : Session), s.takes opTimeStepAllow t x q false p = true ∧ fld p 0 1 = 1) ∧
    (∃ (t : Nat) (q : Nat) (p : List Byte) (s : State) (x : Session), s.takes opTimeStepAllow t x q false p = true ∧ fld p 0 1 = 2) ∧
    (∃ (t : Nat) (q : Nat) (p : List Byte) (s : State) (x : Session), s.takes opTimeStepAllow t x q false p = true ∧ fld p 0 1 = 3) ∧
    (∃ (t : Nat) (q : Nat) (p : List Byte) (s : State) (x : Session), s.takes opBusRecover t x q true p = true) ∧
    (∃ (t : Nat) (q : Nat) (p : List Byte) (s : State) (x : Session), s.takes opCanRateDetect t x q false p = true) ∧
    (∃ (t : Nat) (q : Nat) (p : List Byte) (s : State) (x : Session), s.takes opFioPulse t x q true p = true) ∧
    (∃ (t : Nat) (q : Nat) (p : List Byte) (s : State) (x : Session), s.takes opFioSet t x q false p = true) ∧
    (∃ (t : Nat) (q : Nat) (p : List Byte) (s : State) (x : Session), s.takes opFioClear t x q false p = true) ∧
    (∃ (t : Nat) (q : Nat) (p : List Byte) (s : State) (x : Session), s.takes opFioGroupRestore t x q false p = true) :=
  ⟨⟨0, 1, [0, 4, 136, 240], unit, desk, by decide +kernel⟩,
   ⟨0, 1, [0, 0, 0, 0] ++ leBytes 8 1000000000000 ++ leBytes 4 0 ++ leBytes 4 100, unit, desk, by decide +kernel⟩,
   ⟨0, 1, [0, 1, 0, 0] ++ leBytes 8 1000000000000 ++ leBytes 4 0 ++ leBytes 4 100, unit, desk, by decide +kernel⟩,
   ⟨0, 1, [0, 2, 0, 0] ++ leBytes 8 1000000000000 ++ leBytes 4 0 ++ leBytes 4 100,
     { unit with tmu.pulses := unit.tmu.pulses.modify 0 (fun x => { x with armed := true }) }, desk, by decide +kernel⟩,
   ⟨0, 1, [1, 2, 52, 0], { unit with tmu.vc0.stepPending := true }, desk, by decide +kernel⟩,
   ⟨0, 1, [2, 0, 0, 0], { unit with tmu.vc1.stepPending := true }, desk, by decide +kernel⟩,
   ⟨0, 1, [3, 253, 255, 128], { unit with tmu.vc1.stepPending := true }, desk, by decide +kernel⟩,
   ⟨0, 1, [1, 0, 0, 0], { unit with bus.can := unit.bus.can.modify 0 (fun x => { x with state := 4 }) }, desk, by decide +kernel⟩,
   ⟨0, 1, [4, 19, 255, 127], { unit with bus.can := (unit.bus.can.modify 3 (fun y => { y with state := 1 })) }, desk, by decide +kernel⟩,
   ⟨0, 1, [1, 0, 0, 0] ++ leBytes 4 1, { unit with cfg.given := [((.FIO_MODE, 1), 4)] }, desk, by decide +kernel⟩,
   ⟨0, 1, List.replicate 24 0, unit, desk, by decide +kernel⟩,
   ⟨0, 1, [17, 254, 1, 0], unit, desk, by decide +kernel⟩,
   ⟨0, 1, [1, 0, 0, 0],
     { unit with cfg.given := [((.FIO_MODE, 1), 4)], fio.groups := unit.fio.groups.modify 0 (fun x => { x with state := 3 }) }, desk,
     by decide +kernel⟩⟩

/-- The hypotheses of each clause of TimeReadsAndPulseOutputs can be met. -/
theorem wit_TimeReadsAndPulseOutputs :
    (∃ (k : Nat), 4 ≤ k) ∧
    (∃ (k : Nat) (s : State), k < 4 ∧ s.dom 9 = true) ∧
    (∃ (s : State), s.dom 9 = true ∧ 3 ≤ s.tmu.hi.length) ∧
    (∃ (f : Nat), 8 ≤ f) ∧
    (∃ (k : Nat), isCapSource k = false) ∧
    (∃ (k : Nat) (s : State), isCapSource k = true ∧ s.dom 9 = true) ∧
    (∃ (k : Nat) (f : Nat) (s : State), f < 8 ∧ f < s.tmu.caps.length ∧ (s.parL Param.TMU_CAP_SOURCES f).contains ↑k = true
      ∧ (s.capf f).q.length < 256) ∧
    (∃ (f : Nat) (s : State), f < 8 ∧ s.dom 9 = true) ∧
    (∃ (f : Nat) (s : State) (e : CapEntry) (l : List CapEntry), f < 8 ∧ s.dom 9 = true ∧ f < s.tmu.caps.length ∧ (s.capf f).q = e :: l) ∧
    (∃ (f : Nat) (s : State), f < 8 ∧ s.dom 9 = true ∧ (s.capf f).q = []) ∧
    (∃ (f : Nat) (s : State) (e : CapEntry), f < 8 ∧ s.dom 9 = true ∧ f < s.tmu.caps.length ∧ (s.capf f).latched = some e) ∧
    (∃ (f : Nat) (s : State), f < 8 ∧ s.dom 9 = true ∧ (s.capf f).latched = none) ∧
    (∃ (k : Nat), 6 ≤ k) ∧
    (∃ (k : Nat) (s : State), k < 6 ∧ s.dom 9 = true) ∧
    (∃ (k : Nat) (s : State), s.armPast k (s.pulse k).clk (s.pulse k).start = false) ∧
    (∃ (k : Nat) (s : State), s.armPast k (s.pulse k).clk (s.pulse k).start = true) ∧
    (∃ (k : Nat) (s : State), k < 6 ∧ s.dom 9 = true ∧ (s.pulse k).armed = true) ∧
    (∃ (k : Nat) (s : State), k < 6 ∧ (s.pulse k).armed = false) ∧
    (∃ (t : Nat) (k : Nat) (s : State), k < 6 ∧ s.dom 9 = true ∧ k < s.tmu.pulses.length ∧ (s.arrive t).pulseDue k = true
      ∧ (s.pulse k).high = false) ∧
    (∃ (t : Nat) (k : Nat) (s : State), k < 6 ∧ (s.arrive t).pulseDue k = false) ∧
    (∃ (t : Nat) (k : Nat) (s : State), k < 6 ∧ s.dom 9 = true ∧ (s.pulse k).high = true ∧ (s.pulse k).endAt ≤ max s.now t) ∧
    (∃ (t : Nat) (k : Nat) (s : State), k < 6 ∧ max s.now t < (s.pulse k).endAt) :=
  ⟨⟨96, by decide +kernel⟩,
   ⟨0, unit, by decide +kernel⟩,
   ⟨unit, by decide +kernel⟩,
   ⟨9, by decide +kernel⟩,
   ⟨0, by decide +kernel⟩,
   ⟨1, unit, by decide +kernel⟩,
   ⟨1, 0, { unit with cfg.lists := [((.TMU_CAP_SOURCES, 0), [1])] }, by decide +kernel⟩,
   ⟨0, unit, by decide +kernel⟩,
   ⟨3, { unit with tmu.caps := (unit.tmu.caps.modify 3 (fun y => { y with q := [{ }] })) }, { }, [], by decide +kernel⟩,
   ⟨0, unit, by decide +kernel⟩,
   ⟨0, { unit with tmu.caps := (unit.tmu.caps.modify 0 (fun y => { y with latched := some { } })) }, { }, by decide +kernel⟩,
   ⟨0, unit, by decide +kernel⟩,
   ⟨7, by decide +kernel⟩,
   ⟨0, unit, by decide +kernel⟩,
   ⟨3, { unit with tmu.pulses := (unit.tmu.pulses.modify 3 (fun y => { y with clk := 3 })) }, by decide +kernel⟩,
   ⟨0, unit, by decide +kernel⟩,
   ⟨0, { unit with tmu.pulses := (unit.tmu.pulses.modify 0 (fun y => { y with armed := true })) }, by decide +kernel⟩,
   ⟨0, unit, by decide +kernel⟩,
   ⟨0, 0, { unit with tmu.pulses := (unit.tmu.pulses.modify 0 (fun y => { y with armed := true })) }, by decide +kernel⟩,
   ⟨0, 0, unit, by decide +kernel⟩,
   ⟨0, 0, { unit with tmu.pulses := (unit.tmu.pulses.modify 0 (fun y => { y with high := true })) }, by decide +kernel⟩,
   ⟨0, 0, { State.reset with tmu.pulses := (State.reset.tmu.pulses.modify 0 (fun y => { y with endAt := 1 })) }, by decide +kernel⟩⟩

/-- The hypotheses of each clause of TriggeredDescriptors can be met. -/
theorem wit_TriggeredDescriptors :
    (∃ (n : Nat) (k : Nat) (s : State) (a : Nat) (d : DmaDesc), s.Inv ∧ n < 32 ∧ 1 ≤ k ∧ k ≤ 3 ∧ s.dom 1 = true ∧ (s.dch n).desc = none
      ∧ (s.dch n).en = true ∧ a = BitVec.toNat (s.dch n).descHi % 256 * 2 ^ 32 + BitVec.toNat (s.dch n).descLo ∧ a % 64 = 0
      ∧ (inRange (if 24 ≤ n then partLo else dramLo) (if 24 ≤ n then partHi else sharedHi) a 64 = true)
      ∧ (d = { s.dmaDesc a with startPos := if (s.dmaDesc a).circ = true then (s.dmaDesc a).circAddr % (s.dmaDesc a).size else 0 })
      ∧ s.dmaCheck n d (Memory.read s.dram.cells a 64) = 0 ∧ d.trig = k) ∧
    (∃ (n : Nat) (k : Nat) (s : State) (d : DmaDesc), s.Inv ∧ n < 32 ∧ 1 ≤ k ∧ k ≤ 3 ∧ (s.dch n).desc = some d ∧ d.trig = k ∧ (s.dch n).state = 1) ∧
    (∃ (n : Nat) (k : Nat) (s : State) (d : DmaDesc), s.Inv ∧ n < 32 ∧ 1 ≤ k ∧ k ≤ 3 ∧ (s.dch n).desc = some d ∧ d.trig = k ∧ (s.dch n).state = 2) ∧
    (∃ (n : Nat) (k : Nat) (s : State) (d : DmaDesc), s.Inv ∧ n < 32 ∧ 1 ≤ k ∧ k ≤ 3 ∧ (s.dch n).desc = some d ∧ d.trig ≠ k) :=
  ⟨⟨0, 1,
     { unit with dram.cells := Memory.write [] 0x180000000 (leBytes 8 0x180001000 ++ leBytes 8 0x180002000 ++ leBytes 4 8 ++ leBytes 4 1024), dma.chans := unit.dma.chans.modify 0 (fun c => { c with descHi := 1, descLo := 0x80000000 }) },
     0x180000000,
     { State.dmaDesc { unit with dram.cells := Memory.write [] 0x180000000 (leBytes 8 0x180001000 ++ leBytes 8 0x180002000 ++ leBytes 4 8 ++ leBytes 4 1024), dma.chans := unit.dma.chans.modify 0 (fun c => { c with descHi := 1, descLo := 0x80000000 }) } 0x180000000 with startPos := 0 },
     by unfold State.Inv; decide +kernel⟩,
   ⟨0, 3, { unit with dma.chans := (unit.dma.chans.modify 0 (fun y => { y with state := 1, desc := some { ctrl := 537173058 } })) },
     { ctrl := 537173058 }, by unfold State.Inv; decide +kernel⟩,
   ⟨0, 3, { unit with dma.chans := (unit.dma.chans.modify 0 (fun y => { y with state := 2, desc := some { ctrl := 4194967298 } })) },
     { ctrl := 4194967298 }, by unfold State.Inv; decide +kernel⟩,
   ⟨0, 1, { unit with dma.chans := (unit.dma.chans.modify 0 (fun y => { y with desc := some { } })) }, { }, by unfold State.Inv; decide +kernel⟩⟩

/-- The hypotheses of each clause of WellFormedCommandsComplete can be met. -/
theorem wit_WellFormedCommandsComplete :
    (∃ (c : Instr), c.wf = true) ∧
    (∃ (c : Instr), c.wf = false) :=
  ⟨⟨.henClusterStop 0 1, by decide +kernel⟩,
   ⟨.henClusterStop 0 2, by decide +kernel⟩⟩

/-- The hypotheses of each clause of WritesOfAPoint can be met. -/
theorem wit_WritesOfAPoint :
    (∃ (p : Nat) (k : Nat), k ≠ p) ∧
    (∃ (s : State) (p : Nat), assoc s.pnt.points p = none) :=
  ⟨⟨1, 0, by decide +kernel⟩,
   ⟨unit, 0, by decide +kernel⟩⟩

end Sys2Proof.Tests
end

section
/-!
PROOF. A sealed shadow set (R238): what a write of a shadow register and a WITHDRAW leave of it. The one obstacle is that WITHDRAW also cancels the
channel's frame in its CAN mailbox, so it is first said what the mailbox operations leave alone.
-/
namespace Sys2Proof.Machine

/-! ### What the mailbox operations of a CAN port leave alone -/

/-- `u` differs from `s` at most in what the mailbox operations of a CAN port touch: what was sent, the frame's counters, the takeover check and the
buses. -/
def OnlyPorts (s u : State) : Prop :=
  ∃ (e : List Emit) (f : FrameSt) (r : RedSt) (b : BusSt), u = { s with sent := e, frame := f, red := r, bus := b }

theorem onlyPorts_refl (s : State) : OnlyPorts s s := ⟨_, _, _, _, rfl⟩

theorem onlyPorts_trans {a b c : State} (h : OnlyPorts a b) (k : OnlyPorts b c) : OnlyPorts a c := by
  obtain ⟨_, _, _, _, rfl⟩ := h
  obtain ⟨_, _, _, _, rfl⟩ := k
  exact ⟨_, _, _, _, rfl⟩

theorem OnlyPorts.now {s u : State} (h : OnlyPorts s u) : u.now = s.now := by obtain ⟨_, _, _, _, rfl⟩ := h; rfl
theorem OnlyPorts.thr {s u : State} (h : OnlyPorts s u) : u.thr = s.thr := by obtain ⟨_, _, _, _, rfl⟩ := h; rfl
theorem OnlyPorts.dom {s u : State} (h : OnlyPorts s u) (d : Nat) : u.dom d = s.dom d := by obtain ⟨_, _, _, _, rfl⟩ := h; rfl
theorem OnlyPorts.tch {s u : State} (h : OnlyPorts s u) (c : Nat) : u.tch c = s.tch c := by obtain ⟨_, _, _, _, rfl⟩ := h; rfl

theorem onlyPorts_modPort (s : State) (n : Nat) (f : CanPort → CanPort) : OnlyPorts s (s.modPort n f) := ⟨_, _, _, _, rfl⟩

theorem onlyPorts_modBox (s : State) (n i : Nat) (f : Mailbox → Mailbox) : OnlyPorts s (s.modBox n i f) := ⟨_, _, _, _, rfl⟩

theorem onlyPorts_frameAborted (s : State) (n : Nat) (f : TxFrame) (why : Nat) : OnlyPorts s (s.frameAborted n f why) := by
  unfold State.frameAborted
  dsimp only
  repeat' split
  all_goals exact ⟨_, _, _, _, rfl⟩

theorem onlyPorts_canNext (s : State) (n : Nat) : OnlyPorts s (s.canNext n) := by
  unfold State.canNext
  dsimp only
  repeat' split
  all_goals exact ⟨_, _, _, _, rfl⟩

theorem onlyPorts_canDue (s : State) (n : Nat) : OnlyPorts s (s.canDue n) :=
  onlyPorts_trans (onlyPorts_modPort s n _) (onlyPorts_canNext _ n)

/-- A frame that completes ABORTED and leaves its mailbox. -/
theorem onlyPorts_abortedFromBox (s : State) (n i : Nat) (f : TxFrame) (why : Nat) (g : Mailbox → Mailbox) :
    OnlyPorts s ((s.frameAborted n f why).modBox n i g) :=
  onlyPorts_trans (onlyPorts_frameAborted s n f why) (onlyPorts_modBox _ n i g)

theorem onlyPorts_dropBox (s : State) (n i why : Nat) : OnlyPorts s (s.dropBox n i why) := by
  unfold State.dropBox
  extract_lets b v
  have hv : OnlyPorts s v := by
    unfold v
    split
    · exact onlyPorts_abortedFromBox s n i _ why _
    · exact onlyPorts_refl s
  refine onlyPorts_trans hv ?_
  split
  · exact onlyPorts_refl v
  · split
    · exact onlyPorts_modBox v n i _
    · exact onlyPorts_abortedFromBox v n i _ why _

theorem onlyPorts_cancelBox (s : State) (n i why : Nat) : OnlyPorts s (s.cancelBox n i why) :=
  onlyPorts_trans (onlyPorts_canDue s n) (onlyPorts_dropBox _ n i why)

/-! ### Writes of a shadow register and of WITHDRAW -/

/-- In a state with every unit, a channel's number names an entry of the channel list. -/
theorem isTch_lt {s : State} {c : Nat} (hs : s.Inv) (hc : isTch c = true) : c - 1 < s.thr.chans.length := by
  obtain ⟨hlen, -⟩ := hs.units
  simp only [isTch, between, Bool.and_eq_true, decide_eq_true_eq] at hc
  omega

/-- A write of a shadow register of a powered channel. -/
theorem exec_thrShadowWrite_powered {c : Nat} {s : State} (hc : isTch c = true) (hd : s.dom 10 = true) (t o : Nat) (v : Word) :
    exec (.thrShadowWrite t c o v) s = .next ((s.arrive t).thrShadow c o v) := by
  simp [execThrShadowWrite, guardUnit, hc, hd]

/-- A write of WITHDRAW of a powered channel. -/
theorem exec_thrWithdraw_powered {c : Nat} {s : State} (hc : isTch c = true) (hd : s.dom 10 = true) (t : Nat) :
    exec (.thrWithdraw t c) s = .next ((s.arrive t).thrWithdraw c) := by
  simp [execThrWithdraw, guardUnit, hc, hd]

theorem thrShadow_sealed {s : State} {c : Nat} (h : (s.tch c).sealed = true) (o : Nat) (v : Word) :
    s.thrShadow c o v = s.modTch c (fun x => { x with wrSealed := true }) := if_pos h

theorem thrShadow_thrust_unsealed {s : State} {c : Nat} (h : (s.tch c).sealed = false) (v : Word) :
    s.thrShadow c 0x010 v = s.modTch c (fun x => { x with shT := v }) := by
  simp [State.thrShadow, h]

/-- Before the commit's latch WITHDRAW clears SEAL, after whatever the cancellation of the channel's frame does to its port. -/
theorem thrWithdraw_sealed {s : State} {c : Nat} (hseal : (s.tch c).sealed = true) (hlatch : (s.tch c).latch = false) :
    ∃ v, OnlyPorts s v ∧ s.thrWithdraw c = v.modTch c (fun x => { x with sealed := false, withdrawnAt := some s.now }) := by
  by_cases hport : s.tport c = 0
  · exact ⟨s, onlyPorts_refl s, by simp [State.thrWithdraw, hseal, hlatch, hport]⟩
  · have hcancel := onlyPorts_cancelBox s (s.tport c) (boxOf c false) abCancelled
    exact ⟨_, hcancel, by simp [State.thrWithdraw, hseal, hlatch, hport, hcancel.now]⟩

theorem thrWithdraw_latched {s : State} {c : Nat} (h : (s.tch c).latch = true) :
    s.thrWithdraw c = s.modTch c (fun x => { x with wdLate := true }) := by
  simp [State.thrWithdraw, h]

/-- After a WITHDRAW in time the channel's SEAL alone is cleared, with the instant noted, and the channel is there and powered as before. -/
theorem exec_thrWithdraw_unseals {c : Nat} {s : State} (hs : s.Inv) (hc : isTch c = true) (hd : s.dom 10 = true)
    (hseal : (s.tch c).sealed = true) (hlatch : (s.tch c).latch = false) (t : Nat) :
    ∃ u, exec (.thrWithdraw t c) s = .next u ∧ u.tch c = { s.tch c with sealed := false, withdrawnAt := some (max s.now t) } ∧
      u.dom 10 = true ∧ c - 1 < u.thr.chans.length := by
  obtain ⟨v, hv, hw⟩ := thrWithdraw_sealed (s := s.arrive t) (c := c) hseal hlatch
  have hlen : c - 1 < v.thr.chans.length := by rw [hv.thr]; exact isTch_lt hs hc
  refine ⟨_, exec_thrWithdraw_powered hc hd t, ?_, ?_, ?_⟩ <;> rw [hw]
  · rw [State.tch_modTch _ hlen, hv.tch, State.arrive_tch, State.arrive_now]
  · exact (hv.dom 10).trans hd
  · simpa [State.modTch] using hlen

/-- A write of the shadow thrust to a powered channel that is not sealed is taken. -/
theorem exec_thrShadowWrite_thrust_taken {c : Nat} {s : State} (hc : isTch c = true) (hd : s.dom 10 = true)
    (hlen : c - 1 < s.thr.chans.length) (hopen : (s.tch c).sealed = false) (t : Nat) (w : Word) :
    ∃ z, exec (.thrShadowWrite t c 0x010 w) s = .next z ∧ (z.tch c).shT = w := by
  refine ⟨_, exec_thrShadowWrite_powered hc hd t _ w, ?_⟩
  rw [thrShadow_thrust_unsealed (s := s.arrive t) hopen, State.tch_modTch (s := s.arrive t) _ hlen]

/-- Settles O37: a sealed channel takes no shadow write, a WITHDRAW in time unseals it so that the next write is taken, and one
after the commit's latch only sets WD_LATE. -/
theorem sealLocksTheShadowSet : Obligations.SealLocksTheShadowSet := by
  unfold Obligations.SealLocksTheShadowSet
  intro t c o v s hs hc hd hseal
  refine ⟨fun _ => ?_, fun hlatch => ?_, fun hlatch => ?_⟩
  · rw [exec_thrShadowWrite_powered hc hd, thrShadow_sealed (s := s.arrive t) hseal]
  · obtain ⟨u, hu, hch, hdu, hlen⟩ := exec_thrWithdraw_unseals hs hc hd hseal hlatch t
    exact ⟨u, hu, hch, exec_thrShadowWrite_thrust_taken hc hdu hlen (by rw [hch])⟩
  · rw [exec_thrWithdraw_powered hc hd, thrWithdraw_latched (s := s.arrive t) hlatch]

end Sys2Proof.Machine
end

section
/-!
PROOF. Writes of a point (R375). Every write goes through `putPoint`, so it is first said once what the table shows after one: the list's entry under
the point, the points beside it, and that the watches read the table and leave it.
-/
namespace Sys2Proof.Machine

/-! ### Reading an association list after a set -/

@[simp] theorem assoc_assocSet_same {α : Type} (l : List (Nat × α)) (k : Nat) (v : α) : assoc (assocSet l k v) k = some v := by
  induction l with
  | nil => simp [assocSet, assoc]
  | cons e l ih =>
    obtain ⟨j, w⟩ := e
    rw [assocSet]
    split
    · simp [assoc]
    · split
      · simp [assoc]
      · next hne => simp [assoc, Ne.symm hne, ih]

theorem assoc_assocSet_other {α : Type} (l : List (Nat × α)) {j k : Nat} (v : α) (h : j ≠ k) :
    assoc (assocSet l k v) j = assoc l j := by
  induction l with
  | nil => simp [assocSet, assoc, h.symm]
  | cons e l ih =>
    obtain ⟨i, w⟩ := e
    rw [assocSet]
    split
    · simp [assoc, h.symm]
    · split
      · next heq =>
        subst heq
        simp [assoc, h.symm]
      · simp [assoc, ih]

/-! ### The point table after a point is put -/

/-- The watches look at the writes and leave the points. -/
@[simp] theorem State.watchHits_point (s : State) (p k : Nat) : (s.watchHits p).point k = s.point k := by
  unfold State.watchHits
  extract_lets m new v
  split
  · rfl
  · split <;> rfl

/-- After a put the window shows the list with the point set. -/
theorem State.putPoint_point (s : State) (p k : Nat) (x : Point) :
    (s.putPoint p x).point k = (assoc (assocSet s.pnt.points p x) k).getD (s.blankPoint k) := by
  rw [State.putPoint, State.watchHits_point]
  rfl

@[simp] theorem State.putPoint_point_same (s : State) (p : Nat) (x : Point) : (s.putPoint p x).point p = x := by
  simp [State.putPoint_point]

theorem State.putPoint_point_other (s : State) {p k : Nat} (x : Point) (h : k ≠ p) : (s.putPoint p x).point k = s.point k := by
  rw [State.putPoint_point, assoc_assocSet_other _ x h]
  rfl

@[simp] theorem State.blankPoint_seq (s : State) (p : Nat) : (s.blankPoint p).seq = 0 := by
  unfold State.blankPoint
  extract_lets ty
  split <;> rfl

theorem State.point_seq_of_unwritten {s : State} {p : Nat} (h : assoc s.pnt.points p = none) : (s.point p).seq = 0 := by
  simp [State.point, h]

/-- A change of a point's quality leaves its other fields; one to the quality it has already changes nothing. -/
theorem State.requal_point_same (s : State) (p : Nat) (q : Half) : (s.requal p q).point p = { s.point p with qual := q } := by
  by_cases h : (s.point p).qual = q
  · simp [State.requal, ← h]
  · simp [State.requal, h]

theorem State.requal_point_other (s : State) {p k : Nat} (q : Half) (h : k ≠ p) : (s.requal p q).point k = s.point k := by
  by_cases hq : (s.point p).qual = q
  · simp [State.requal, hq]
  · simp [State.requal, hq, State.putPoint_point_other s _ h]

/-- Settles O45: a write and a change of quality are both one `putPoint` (none where the quality is the same), which shows the new
point and leaves every other. -/
theorem writesOfAPoint : Obligations.WritesOfAPoint := by
  unfold Obligations.WritesOfAPoint
  intro s p ts v ty q src
  exact ⟨s.putPoint_point_same p _, fun _ hk => s.putPoint_point_other _ hk, State.point_seq_of_unwritten,
    s.requal_point_same p q, fun _ hk => s.requal_point_other q hk⟩

end Sys2Proof.Machine
end

section
/-!
PROOF. A START (R505) and the take of a descriptor (R506). Every way out of a take leaves CH_CUR at the address taken, REFUSED as it was and the other
channels alone; that is carried through the recorder's events, the changes of the channel and the end of a descriptor.
-/
namespace Sys2Proof.Machine

/-! ### The end of a descriptor -/

@[simp] theorem State.modDch_chans_length (s : State) (n : Nat) (f : DmaChan → DmaChan) :
    (s.modDch n f).dma.chans.length = s.dma.chans.length := by
  simp [State.modDch]

/-- The channel `x` is the channel `c` after a descriptor ended on it with a status: the registers that say so, and REFUSED as before. R511. -/
structure EndedAs (d : DmaDesc) (status : Nat) (c x : DmaChan) : Prop where
  last : x.last = status
  desc : x.desc = none
  cur : x.cur = d.addr
  refused : x.refused = c.refused

/-- What an end does: 12 bytes into a trusted descriptor, the registers of its channel, and an interrupt at most. R511. -/
theorem State.dmaEnd_eq (s : State) (n : Nat) (d : DmaDesc) (status moved : Nat) (trusted : Bool) :
    ∃ (bs : List Byte) (f : DmaChan → DmaChan) (e : List Emit), bs.length = 12 ∧ (∀ c, EndedAs d status c (f c)) ∧
      s.dmaEnd n d status moved trusted =
        { { s with dram.cells := if trusted then Memory.write s.dram.cells (d.addr + 36) bs else s.dram.cells }.modDch n f with sent := e } := by
  unfold State.dmaEnd
  extract_lets rem cells m v half tot hf ff ef pos w asks
  obtain ⟨f, hf, hw⟩ : ∃ f, (∀ c, EndedAs d status c (f c)) ∧ w = v.modDch n f := by
    refine ⟨_, fun c => ?_, rfl⟩
    exact ⟨rfl, rfl, rfl, rfl⟩
  refine ⟨leBytes 4 status ++ leBytes 4 rem ++ leBytes 4 (s.sel % 2 ^ 32), f,
    if (w.dch n).ie && asks then s.sent ++ [.irq "DMA" n] else s.sent, rfl, hf, ?_⟩
  rw [hw]
  cases trusted <;> split <;> rfl

theorem State.dmaEnd_dch_self {s : State} {n : Nat} (hn : n < s.dma.chans.length) (d : DmaDesc) (status moved : Nat) (trusted : Bool) :
    EndedAs d status (s.dch n) ((s.dmaEnd n d status moved trusted).dch n) := by
  obtain ⟨bs, f, e, -, hf, heq⟩ := s.dmaEnd_eq n d status moved trusted
  have hch : (s.dmaEnd n d status moved trusted).dch n = f (s.dch n) := by
    rw [heq]
    exact State.dch_modDch (s := { s with dram.cells := _ }) f hn
  exact hch ▸ hf _

theorem State.dmaEnd_dch_other (s : State) {n k : Nat} (h : k ≠ n) (d : DmaDesc) (status moved : Nat) (trusted : Bool) :
    (s.dmaEnd n d status moved trusted).dch k = s.dch k := by
  obtain ⟨bs, f, e, -, -, heq⟩ := s.dmaEnd_eq n d status moved trusted
  rw [heq]
  exact State.dch_modDch_ne (s := { s with dram.cells := _ }) f h.symm

@[simp] theorem State.dmaEnd_chans_length (s : State) (n : Nat) (d : DmaDesc) (status moved : Nat) (trusted : Bool) :
    (s.dmaEnd n d status moved trusted).dma.chans.length = s.dma.chans.length := by
  obtain ⟨bs, f, e, -, -, heq⟩ := s.dmaEnd_eq n d status moved trusted
  rw [heq]
  exact State.modDch_chans_length { s with dram.cells := _ } n f

/-! ### What every take leaves -/

/-- From `s` to `u` channel `n` took what stands at `a`: CH_CUR names it, REFUSED is as before, and so is every other channel. R505, R506. -/
structure Took (n a : Nat) (s u : State) : Prop where
  unit : n < u.dma.chans.length
  cur : (u.dch n).cur = a
  refused : (u.dch n).refused = (s.dch n).refused
  others : ∀ k, k ≠ n → u.dch k = s.dch k

/-- CH_CUR set, whatever else of the channel but REFUSED changes with it. -/
theorem took_modDch {s : State} {n a : Nat} (hn : n < s.dma.chans.length) {f : DmaChan → DmaChan} (hcur : ∀ c, (f c).cur = a)
    (hrefused : ∀ c, (f c).refused = c.refused) : Took n a s (s.modDch n f) where
  unit := by simpa using hn
  cur := by rw [State.dch_modDch f hn, hcur]
  refused := by rw [State.dch_modDch f hn, hrefused]
  others _ hk := State.dch_modDch_ne f hk.symm

theorem took_ite {n a : Nat} {s u v : State} {c : Prop} [Decidable c] (hu : Took n a s u) (hv : Took n a s v) :
    Took n a s (if c then u else v) := by
  split
  · exact hu
  · exact hv

section
variable {s u : State} {n a : Nat} (h : Took n a s u)
include h

theorem Took.onlyLog {v : State} (hv : OnlyLog u v) : Took n a s v where
  unit := hv.dma ▸ h.unit
  cur := hv.dch n ▸ h.cur
  refused := hv.dch n ▸ h.refused
  others k hk := (hv.dch k).trans (h.others k hk)

theorem Took.modDch {f : DmaChan → DmaChan} (hcur : ∀ c, (f c).cur = c.cur) (hrefused : ∀ c, (f c).refused = c.refused) :
    Took n a s (u.modDch n f) where
  unit := by simpa using h.unit
  cur := by rw [State.dch_modDch f h.unit, hcur, h.cur]
  refused := by rw [State.dch_modDch f h.unit, hrefused, h.refused]
  others k hk := (State.dch_modDch_ne f hk.symm).trans (h.others k hk)

theorem Took.dmaEnd {d : DmaDesc} (hd : d.addr = a) (status moved : Nat) (trusted : Bool) :
    Took n a s (u.dmaEnd n d status moved trusted) where
  unit := by simpa using h.unit
  cur := (State.dmaEnd_dch_self h.unit d status moved trusted).cur.trans hd
  refused := (State.dmaEnd_dch_self h.unit d status moved trusted).refused.trans h.refused
  others k hk := (u.dmaEnd_dch_other hk d status moved trusted).trans (h.others k hk)

end

/-- A take, in each of its branches: misaligned, out of reach, accepted, or ended by a check. -/
theorem State.dmaTake_took {s : State} {n : Nat} (hn : n < s.dma.chans.length) (a : Nat) : Took n a s (s.dmaTake n a) := by
  unfold State.dmaTake
  extract_lets +onlyGivenNames v
  have hv : Took n a s v := took_modDch hn (fun _ => rfl) (fun _ => rfl)
  clear_value v
  refine took_ite ?_ (took_ite ?_ ?_)
  · exact hv.modDch (fun _ => rfl) (fun _ => rfl)
  · have hlogged := hv.onlyLog (onlyLog_ite (c := dmaPart n) (onlyLog_event v .PARTITION_VIOLATION [wN a, wN (a / 2 ^ 32)]) (onlyLog_refl v))
    exact hlogged.modDch (fun _ => rfl) (fun _ => rfl)
  · extract_lets +onlyGivenNames d c pos d'
    extract_lets +onlyGivenNames st b x
    refine took_ite ?_ ?_
    · exact hv.modDch (fun _ => rfl) (fun _ => rfl)
    · have hx : Took n a s x := hv.onlyLog (onlyLog_ite (onlyLog_event v _ _) (onlyLog_refl v))
      exact hx.dmaEnd rfl st 0 true

/-! ### A START -/

/-- A START on a powered engine. -/
theorem exec_dmaStart_powered {n : Nat} {s : State} (hn : n < 32) (hd : s.dom 1 = true) (t : Nat) :
    exec (.dmaStart t n) s = .next ((s.arrive t).dmaStart n) := by
  simp [execDmaStart, guardUnit, hn, hd]

/-- The address of the first descriptor, as CH_DESC_LO and CH_DESC_HI give it. R505. -/
def DmaChan.firstAt (c : DmaChan) : Nat := c.descHi.toNat % 256 * 2 ^ 32 + c.descLo.toNat

/-- A channel at its START, before the take: the chain has no previous descriptor, and what the take changes is noted. R508, R515. -/
def State.dmaReady (s : State) (n : Nat) : State :=
  s.modDch n (fun c => { c with prevCirc := none, startAt := some (s.now, c.cur, c.remain, c.circPos) })

theorem State.dmaStart_refused {s : State} {n : Nat} (h : (s.dch n).desc.isSome = true ∨ (s.dch n).en = false) :
    s.dmaStart n = s.modDch n (fun c => { c with refused := true }) := by
  simp only [← Bool.not_eq_true] at h
  exact if_pos h

theorem State.dmaStart_free {s : State} {n : Nat} (hfree : (s.dch n).desc = none) (hen : (s.dch n).en = true) :
    s.dmaStart n = (s.dmaReady n).dmaTake n (s.dch n).firstAt := by
  simp [State.dmaStart, State.dmaReady, DmaChan.firstAt, hfree, hen]

/-- A channel is there in every state with every unit. -/
theorem dch_lt {s : State} {n : Nat} (hs : s.Inv) (hn : n < 32) : n < s.dma.chans.length := by
  obtain ⟨-, -, -, -, -, hlen, -⟩ := hs.units
  omega

theorem State.dmaStart_took {s : State} {n : Nat} (hlt : n < s.dma.chans.length) (hfree : (s.dch n).desc = none)
    (hen : (s.dch n).en = true) : Took n (s.dch n).firstAt s (s.dmaStart n) := by
  have hready : n < (s.dmaReady n).dma.chans.length := by simpa [State.dmaReady] using hlt
  obtain ⟨hunit, hcur, hrefused, hothers⟩ := State.dmaTake_took hready (s.dch n).firstAt
  rw [State.dmaStart_free hfree hen]
  refine ⟨hunit, hcur, hrefused.trans ?_, fun k hk => (hothers k hk).trans (State.dch_modDch_ne _ hk.symm)⟩
  rw [State.dmaReady, State.dch_modDch _ hlt]

/-- Settles O54: a START on a running or disabled channel is one change of REFUSED; on a free one it is a take at the address the
channel's registers give. -/
theorem startOfAChain : Obligations.StartOfAChain := by
  unfold Obligations.StartOfAChain
  intro t n s hs hn hd
  have hlt : n < (s.arrive t).dma.chans.length := dch_lt hs hn
  rw [exec_dmaStart_powered hn hd]
  refine ⟨fun hbusy => ⟨_, rfl, ?_⟩, fun hfree hen => ⟨_, rfl, ?_⟩⟩
  · rw [State.dmaStart_refused (s := s.arrive t) hbusy]
    exact ⟨State.dch_modDch _ hlt, fun k hk => State.dch_modDch_ne _ hk.symm, rfl⟩
  · obtain ⟨-, hcur, hrefused, hothers⟩ := State.dmaStart_took (s := s.arrive t) hlt hfree hen
    exact ⟨hcur, hrefused, hothers⟩

end Sys2Proof.Machine
end

section
/-!
PROOF. Copies between overlapping ranges, and circular buffers that overlap the other side (R509). A copy reads all its bytes before it writes one, so
it is enough that a write of one byte shows at its address alone; an overlap is the last check of R506, so it is enough that the others pass.
-/
namespace Sys2Proof.Machine

/-! ### Bytes DMA writes -/

theorem State.Inv.kept {s : State} (h : s.Inv) : Kept s.pending s.now s := by
  obtain ⟨hmem, hsizes⟩ := h
  simp only [State.memOk, Bool.and_eq_true] at hmem
  obtain ⟨⟨hdram, hsram0⟩, hsram1⟩ := hmem
  exact ⟨rfl, rfl, hdram, hsram0, hsram1, hsizes⟩

/-- A write of several bytes leaves every address outside them. -/
theorem Memory.get_write_outside {c : Nat} (bs : List Byte) : ∀ {m : Memory} {a : Nat}, Memory.wf m = true → c < a ∨ a + bs.length ≤ c →
    (m.write a bs).get c = m.get c := by
  induction bs with
  | nil => intro m a _ _; rfl
  | cons b bs ih =>
    intro m a hm hc
    rw [List.length_cons] at hc
    rw [Memory.write, ih (Memory.set_wf hm) (by omega), Memory.get_set hm, if_neg (by omega)]

section
variable {q : List Instr} {t : Nat} {s : State} (h : Kept q t s)
include h

/-- A byte DMA writes outside the point table reads back at its address, and every other reads as before. -/
theorem State.dmaByte_dmaSet {a : Nat} (ha : a < pntLo ∨ pntHi < a) (v : Byte) (b : Nat) :
    (s.dmaSet a v).dmaByte b = if b = a then v else s.dmaByte b := by
  by_cases hb : b = a
  · subst hb
    have hout : ¬ (pntLo ≤ b ∧ b ≤ pntHi) := by omega
    unfold State.dmaSet
    split <;> next hmem => simp [State.dmaByte, hout, hmem, Memory.get_set, h.dram, h.sram0, h.sram1]
  · unfold State.dmaSet
    split <;> simp [State.dmaByte, hb, Memory.get_set, h.dram, h.sram0, h.sram1] <;> rfl

/-- The end of a descriptor writes its STATUS, REMAIN and TIME and no other byte. R511. -/
theorem State.dmaByte_dmaEnd {d : DmaDesc} {b : Nat} (hb : b < d.addr + 36 ∨ d.addr + 48 ≤ b) (n status moved : Nat) (trusted : Bool) :
    (s.dmaEnd n d status moved trusted).dmaByte b = s.dmaByte b := by
  obtain ⟨bs, f, e, hlen, -, heq⟩ := s.dmaEnd_eq n d status moved trusted
  have hcell : Memory.get (if trusted then Memory.write s.dram.cells (d.addr + 36) bs else s.dram.cells) b = Memory.get s.dram.cells b := by
    split
    · exact Memory.get_write_outside bs h.dram (by omega)
    · rfl
  have hbyte : (s.dmaEnd n d status moved trusted).dmaByte b =
      State.dmaByte { s with dram.cells := if trusted then Memory.write s.dram.cells (d.addr + 36) bs else s.dram.cells } b := heq ▸ rfl
  rw [hbyte]
  simp only [State.dmaByte, hcell]
  rfl

end

/-! ### A copy -/

@[simp] theorem State.dmaCopy_zero (s : State) (d : DmaDesc) (a : Nat) : s.dmaCopy d a 0 = s := rfl

/-- The last byte of a copy is written after the others, and is the byte the source held before all of them. -/
theorem State.dmaCopy_succ (s : State) (d : DmaDesc) (a k : Nat) :
    s.dmaCopy d a (k + 1) = (s.dmaCopy d a k).dmaSet (d.addrAt false (a + k)) (s.dmaByte (d.addrAt true (a + k))) := by
  simp [State.dmaCopy, List.range_succ, List.zip_append]

/-- A destination that is not circular is a plain range. -/
theorem DmaDesc.addrAt_dst {d : DmaDesc} (h : d.dstCirc = false) (i : Nat) : d.addrAt false i = d.dst + i := by
  simp [DmaDesc.addrAt, h]

theorem DmaDesc.addrAt_src {d : DmaDesc} (h : d.srcCirc = false) (i : Nat) : d.addrAt true i = d.src + i := by
  simp [DmaDesc.addrAt, h]

/-- After a copy to a plain range outside the point table each byte copied is what the source held before, however the ranges lie. R509. -/
theorem State.dmaByte_dmaCopy {q : List Instr} {t : Nat} {s : State} (h : Kept q t s) {d : DmaDesc} (hplain : d.dstCirc = false) {a k i : Nat}
    (hout : d.dst + (a + k) ≤ pntLo ∨ pntHi < d.dst) (hi : i < k) :
    (s.dmaCopy d a k).dmaByte (d.dst + (a + i)) = s.dmaByte (d.addrAt true (a + i)) := by
  induction k with
  | zero => omega
  | succ k ih =>
    rw [State.dmaCopy_succ, DmaDesc.addrAt_dst hplain, State.dmaByte_dmaSet (State.dmaCopy_kept h) (by omega)]
    by_cases hlast : i = k
    · rw [hlast, if_pos rfl]
    · rw [if_neg (by omega)]
      exact ih (by omega) (by omega)

/-- All bytes of a descriptor are one copy from its first byte on, in whichever direction it runs. -/
theorem State.dmaMove_len (s : State) (d : DmaDesc) : s.dmaMove d d.len = s.dmaCopy d 0 d.len := by
  simp [State.dmaMove]

/-- The last descriptor of a chain, moving, comes to its end. R511. -/
theorem exec_dmaDescriptorEnd_last {n : Nat} {s : State} {d : DmaDesc} (hn : n < 32) (hd : (s.dch n).desc = some d)
    (hmoving : (s.dch n).state = 2) (hlast : d.next = 0) (t : Nat) :
    exec (.dmaDescriptorEnd t n false) s = .next (((s.arrive t).dmaMove d d.len).dmaEnd n d 0 d.len true) := by
  simp [execDmaDescriptorEnd, guardUnit, hn, hd, hmoving, State.dmaNext, hlast]

/-- The end of a chain's last descriptor with no circular side and its destination outside the point table: each byte of the destination that the
end does not write over is what the source held before. R509, R511. -/
theorem exec_dmaDescriptorEnd_copied {n i : Nat} {s : State} {d : DmaDesc} (hs : s.Inv) (hn : n < 32) (hd : (s.dch n).desc = some d)
    (hmoving : (s.dch n).state = 2) (hcirc : d.circ = false) (hlast : d.next = 0) (hout : d.dst + d.len ≤ pntLo ∨ pntHi < d.dst)
    (hi : i < d.len) (hstat : d.dst + i < d.addr + 36 ∨ d.addr + 48 ≤ d.dst + i) (t : Nat) :
    ∃ u, exec (.dmaDescriptorEnd t n false) s = .next u ∧ u.dmaByte (d.dst + i) = s.dmaByte (d.src + i) := by
  obtain ⟨hsrc, hdst⟩ : d.srcCirc = false ∧ d.dstCirc = false := by simpa [DmaDesc.circ] using hcirc
  have hkept : Kept s.pending (max s.now t) (s.arrive t) := State.arrive_kept hs.kept
  have hcopy := State.dmaByte_dmaCopy hkept hdst (a := 0) (by simpa using hout) hi
  simp only [Nat.zero_add, DmaDesc.addrAt_src hsrc, State.arrive_dmaByte] at hcopy
  refine ⟨_, exec_dmaDescriptorEnd_last hn hd hmoving hlast t, ?_⟩
  rw [State.dmaByte_dmaEnd (State.dmaMove_kept hkept) hstat, State.dmaMove_len, hcopy]

/-! ### The checks at the take -/

/-- The checks of R506 that stand before R509's pass: the fields, the alignment, and the reach of both sides. -/
structure PassesToReach (s : State) (n : Nat) (d : DmaDesc) (raw : List Byte) : Prop where
  reserved : fld raw 48 16 = 0
  ctrl : d.ctrl.toNat / 4096 = 0
  lenLo : 8 ≤ d.len
  lenHi : d.len ≤ 0xFFFFFFF8
  log2 : between 6 d.log2 24 = true
  oneSide : d.srcCirc = true → d.dstCirc = false
  src40 : d.src < 2 ^ 40
  dst40 : d.dst < 2 ^ 40
  next40 : d.next < 2 ^ 40
  src8 : d.src % 8 = 0
  dst8 : d.dst % 8 = 0
  len8 : d.len % 8 = 0
  srcCut : pntCut (d.span true) = false
  dstCut : pntCut (d.span false) = false
  srcReach : s.dmaReach n (d.span true).1 (d.span true).2 false = true
  dstReach : s.dmaReach n (d.span false).1 (d.span false).2 true = true

/-- The circular buffer overlaps the other side's LEN bytes. R509. -/
def DmaDesc.circOverlap (d : DmaDesc) : Prop :=
  d.srcCirc = true ∧ d.dstCirc = false ∧ overlaps d.base d.size d.dst d.len = true ∨
    d.srcCirc = false ∧ d.dstCirc = true ∧ overlaps d.base d.size d.src d.len = true

/-- Where the checks before it pass, an overlap gives OVERLAP_CIRC. -/
theorem PassesToReach.dmaCheck_overlap {s : State} {n : Nat} {d : DmaDesc} {raw : List Byte} (h : PassesToReach s n d raw)
    (hover : d.circOverlap) : s.dmaCheck n d raw = 3 := by
  obtain ⟨hreserved, hctrl, hlenLo, hlenHi, hlog2, hone, hsrc40, hdst40, hnext40, hsrc8, hdst8, hlen8, hsrcCut, hdstCut, hsrc, hdst⟩ := h
  unfold State.dmaCheck
  extract_lets sp dp
  rw [if_neg (by simpa [hreserved, hctrl, hlenLo, hlenHi, hlog2] using And.intro hone ⟨hsrc40, hdst40, hnext40⟩),
    if_neg (by simp [sp, dp, hsrc8, hdst8, hlen8, hsrcCut, hdstCut]), if_neg (by simp [sp, dp, hsrc, hdst]), if_pos]
  obtain ⟨hs, -, ho⟩ | ⟨hs, hd, ho⟩ := hover
  · exact ⟨by simp [DmaDesc.circ, hs], by rw [if_pos hs, ho]⟩
  · exact ⟨by simp [DmaDesc.circ, hd], by simp [hs, ho]⟩

theorem inRange_iff {lo hi a n : Nat} : inRange lo hi a n = true ↔ lo ≤ a ∧ a + n ≤ hi + 1 := by
  simp [inRange]

theorem overlaps_iff {a n b m : Nat} : overlaps a n b m = true ↔ n ≠ 0 ∧ m ≠ 0 ∧ a < b + m ∧ b < a + n := by
  simp [overlaps, and_assoc]

/-- A channel reaches nothing below the solver SRAMs for a write. R501. -/
theorem State.sram_le_of_dmaReach_write {s : State} {n a len : Nat} (h : s.dmaReach n a len true = true) : 0x60000000 ≤ a := by
  unfold State.dmaReach at h
  split at h
  · simp only [Bool.not_true, Bool.false_and, Bool.or_false, inRange_iff, partLo] at h
    omega
  · simp only [Bool.not_true, Bool.false_and, Bool.or_false, Bool.or_eq_true, Bool.and_eq_true, inRange_iff, dramLo] at h
    omega

/-- A channel writes no PNT data, so what it reaches for a write cuts no point. R501, R502. -/
theorem State.dmaReach_write_not_pntCut {s : State} {n : Nat} {r : Nat × Nat} (h : s.dmaReach n r.1 r.2 true = true) : pntCut r = false := by
  have habove := State.sram_le_of_dmaReach_write h
  have hapart : ¬ overlaps r.1 r.2 pntLo (pntHi + 1 - pntLo) = true := by
    rw [overlaps_iff, pntLo, pntHi]
    omega
  simp [pntCut, hapart]

theorem leNat_lt (bs : List Byte) : leNat bs < 256 ^ bs.length := by
  induction bs with
  | nil => simp [leNat]
  | cons b bs ih =>
    have hb := b.isLt
    rw [leNat, List.length_cons, Nat.pow_succ]
    omega

@[simp] theorem slice_length (o n : Nat) (bs : List Byte) : (slice o n bs).length = n := by
  simp only [slice, List.length_append, List.length_take, List.length_drop, List.length_replicate]
  omega

theorem fld_lt (bs : List Byte) (o n : Nat) : fld bs o n < 256 ^ n := by
  simpa [fld] using leNat_lt (slice o n bs)

/-- LEN is a field of four bytes. -/
theorem State.dmaDesc_len_lt (s : State) (a : Nat) : (s.dmaDesc a).len < 2 ^ 32 := fld_lt _ 16 4

/-! ### The take of a chain's first descriptor -/

/-- The descriptor at an address as a chain's first: a circular side starts at its address's low bits. R508. -/
def State.firstDesc (s : State) (a : Nat) : DmaDesc :=
  { s.dmaDesc a with startPos := if (s.dmaDesc a).circ then (s.dmaDesc a).circAddr % (s.dmaDesc a).size else 0 }

/-- A first descriptor that can be read and fails a check ends with that check's status, after a record at most. R506. -/
theorem State.dmaTake_first_fails {s : State} {n a : Nat} (hlt : n < s.dma.chans.length) (halign : a % 64 = 0)
    (hrange : inRange (if 24 ≤ n then partLo else dramLo) (if 24 ≤ n then partHi else sharedHi) a 64 = true)
    (hprev : (s.dch n).prevCirc = none) (hfail : s.dmaCheck n (s.firstDesc a) (Memory.read s.dram.cells a 64) ≠ 0) :
    ∃ v : State, n < v.dma.chans.length ∧
      s.dmaTake n a = v.dmaEnd n (s.firstDesc a) (s.dmaCheck n (s.firstDesc a) (Memory.read s.dram.cells a 64)) 0 true := by
  have hreadable : ¬ ¬ (if dmaPart n then inRange partLo partHi a 64 else inRange dramLo sharedHi a 64) = true := by
    by_cases hp : 24 ≤ n <;> simpa [dmaPart, hp] using hrange
  unfold State.dmaTake
  extract_lets +onlyGivenNames v
  rw [if_neg (by simp [halign]), if_neg hreadable]
  extract_lets d c pos d' st b x
  have hc : c.prevCirc = none := by simp only [c, v, State.dch_modDch _ hlt, hprev]
  have hpos : pos = if d.circ then d.circAddr % d.size else 0 := by simp only [pos, hc, ite_not]
  have hd : d' = s.firstDesc a := by simp only [d', hpos]; rfl
  have hst : st = s.dmaCheck n (s.firstDesc a) (Memory.read s.dram.cells a 64) := by simp only [st, hd]; rfl
  have hx : OnlyLog v x := onlyLog_ite (onlyLog_event v _ _) (onlyLog_refl v)
  rw [if_neg (hst ▸ hfail), ← hst, ← hd]
  exact ⟨x, by simpa [hx.dma, v] using hlt, rfl⟩

/-- A START whose first descriptor can be read and fails a check: the channel shows the check's status and has no descriptor. -/
theorem State.dmaStart_first_fails {s : State} {n a : Nat} (hlt : n < s.dma.chans.length) (hfree : (s.dch n).desc = none)
    (hen : (s.dch n).en = true) (ha : a = (s.dch n).firstAt) (halign : a % 64 = 0)
    (hrange : inRange (if 24 ≤ n then partLo else dramLo) (if 24 ≤ n then partHi else sharedHi) a 64 = true)
    (hfail : s.dmaCheck n (s.firstDesc a) (Memory.read s.dram.cells a 64) ≠ 0) :
    ((s.dmaStart n).dch n).last = s.dmaCheck n (s.firstDesc a) (Memory.read s.dram.cells a 64) ∧ ((s.dmaStart n).dch n).desc = none := by
  have hready : n < (s.dmaReady n).dma.chans.length := by simpa [State.dmaReady] using hlt
  have hprev : ((s.dmaReady n).dch n).prevCirc = none := by rw [State.dmaReady, State.dch_modDch _ hlt]
  obtain ⟨v, hv, htake⟩ := State.dmaTake_first_fails hready halign hrange hprev hfail
  have hended := State.dmaEnd_dch_self hv (s.firstDesc a) (s.dmaCheck n (s.firstDesc a) (Memory.read s.dram.cells a 64)) 0 true
  rw [State.dmaStart_free hfree hen, ← ha, htake]
  exact ⟨hended.last, hended.desc⟩

/-- A START on a first descriptor that passes every check before R509's and whose circular buffer overlaps the other side. -/
theorem exec_dmaStart_overlap {n a : Nat} {s : State} (hs : s.Inv) (hn : n < 32) (hdom : s.dom 1 = true) (hfree : (s.dch n).desc = none)
    (hen : (s.dch n).en = true) (ha : a = (s.dch n).firstAt) (halign : a % 64 = 0)
    (hrange : inRange (if 24 ≤ n then partLo else dramLo) (if 24 ≤ n then partHi else sharedHi) a 64 = true)
    (hpasses : PassesToReach s n (s.firstDesc a) (Memory.read s.dram.cells a 64)) (hover : (s.firstDesc a).circOverlap) (t : Nat) :
    ∃ u, exec (.dmaStart t n) s = .next u ∧ (u.dch n).last = 3 ∧ (u.dch n).desc = none := by
  have hcheck := hpasses.dmaCheck_overlap hover
  obtain ⟨hlast, hnone⟩ := State.dmaStart_first_fails (s := s.arrive t) (dch_lt hs hn) hfree hen ha halign hrange
    (fun hpass => absurd (hcheck.symm.trans hpass) (by decide))
  exact ⟨_, exec_dmaStart_powered hn hdom t, hlast.trans hcheck, hnone⟩

/-- Settles O56: the copy of a descriptor with no circular side leaves in its destination what the source held before, and a START on
one whose circular buffer overlaps the other side ends it OVERLAP_CIRC, every check before R509's passing. -/
theorem overlappingCopies : Obligations.OverlappingCopies := by
  unfold Obligations.OverlappingCopies
  intro t n s hs hn
  constructor
  · intro d i hd hmoving hcirc hlast hout hi hstat
    exact exec_dmaDescriptorEnd_copied hs hn hd hmoving hcirc hlast hout hi hstat t
  · intro a d hdom hfree hen ha halign hrange hd hreserved hctrl hlen hlog2lo hlog2hi hsrc40 hdst40 hnext40 hsrc8 hdst8 hlen8 hcut hsrc hdst hover
    obtain rfl : d = s.firstDesc a := hd
    have hlen32 : (s.firstDesc a).len < 2 ^ 32 := s.dmaDesc_len_lt a
    refine exec_dmaStart_overlap hs hn hdom hfree hen ha halign hrange ?_ hover t
    exact
      { reserved := hreserved, ctrl := hctrl, lenLo := hlen, lenHi := by omega, log2 := by simp [between, hlog2lo, hlog2hi]
        oneSide := fun hboth => by simpa [hboth] using hover.imp (·.2.1) (·.1)
        src40 := hsrc40, dst40 := hdst40, next40 := hnext40, src8 := hsrc8, dst8 := hdst8, len8 := hlen8
        srcCut := hcut, dstCut := State.dmaReach_write_not_pntCut hdst, srcReach := hsrc, dstReach := hdst }

end Sys2Proof.Machine
end

section
/-!
PROOF. The five patterns of KEEP_STAT (R555): unpowered, held in reset and running are told apart once; held, the pattern turns on the 30 s of R553
alone, and running, on the mode alone.
-/
namespace Sys2Proof.Machine

/-- A condition that holds since an instant has held for `d` ns exactly when that instant lies `d` ns back. -/
theorem State.held_some_iff (s : State) (a d : Nat) : s.held (some a) d = true ↔ a + d ≤ s.now := by
  simp [State.held, State.past]

/-- The pattern of a unit that runs, by its mode. R555. -/
def Mode.runningPattern : Mode → Nat
  | .keep => 3
  | .restore | .commission => 2
  | .standby | .hold | .warden | .service | .safeStop => 1

theorem State.keepStat_unpowered {s : State} (hoff : s.keep.d0On = false) : s.keepStat = 0 := by
  simp [State.keepStat, hoff]

theorem State.keepStat_resetHeld {s : State} {a : Nat} (hon : s.keep.d0On = true) (hheld : s.keep.resetHeld = some a) :
    s.keepStat = if a + 30000000000 ≤ s.now then 4 else 0 := by
  simp [State.keepStat, hon, hheld, State.held_some_iff]

theorem State.keepStat_running {s : State} (hon : s.keep.d0On = true) (hfree : s.keep.resetHeld = none) :
    s.keepStat = s.sys.mode.runningPattern := by
  simp only [State.keepStat, hon, hfree, not_true_eq_false, if_false, Option.isSome_none, Bool.false_eq_true]
  cases s.sys.mode <;> rfl

/-- Settles O60: an unpowered KEEP is low, a held reset shows 0 before its 30 s and 4 from them on, and a running unit its mode's pattern. -/
theorem keepStatPatterns : Obligations.KeepStatPatterns := by
  unfold Obligations.KeepStatPatterns
  intro s
  refine ⟨State.keepStat_unpowered, fun hon a hheld => ?_, fun hon hfree => ?_⟩
  · rw [State.keepStat_resetHeld hon hheld]
    exact ⟨fun hbefore => if_neg (by omega), fun hafter => if_pos hafter⟩
  · rw [State.keepStat_running hon hfree]
    refine ⟨fun hkeep => ?_, fun hslow => ?_, fun hhigh => ?_⟩
    · rw [hkeep]; rfl
    · obtain h | h := hslow <;> rw [h] <;> rfl
    · obtain h | h | h | h | h := hhigh <;> rw [h] <;> rfl

end Sys2Proof.Machine
end

section
/-!
PROOF. What every step keeps (O1 to O5): a step is its command's effect, every command keeps the invariant with the queue as it was and the instant no
earlier, and every command answers a next state or names the unit the module does not have. Each row of `exec` cites the lemma of its own meaning.
-/
namespace Sys2Proof.Machine
variable {q : List Instr} {n : Nat}

/-- Settles O1: `step` looks at the front of the queue alone. -/
theorem stepTakesTheFront : Obligations.StepTakesTheFront := by
  unfold Obligations.StepTakesTheFront
  constructor
  · intro c q s hfront
    unfold step
    rw [hfront]
  · intro s hidle
    unfold step
    rw [hidle]

/-! ### The invariant through every command -/

/-- A meaning that keeps the queue and the invariant, at an instant not before `n`. -/
def KeptLater (q : List Instr) (n : Nat) (r : Res) : Prop := ∃ m, n ≤ m ∧ KeptR q m r

theorem keptLater_arrive {r : Res} {t : Nat} (h : KeptR q (max n t) r) : KeptLater q n r := ⟨_, Nat.le_max_left n t, h⟩

/-- Every command keeps the queue, the memories and the units, and time does not go back. -/
theorem exec_keptLater (c : Instr) {s : State} (h : Kept q n s) : KeptLater q n (exec c s) := by
  cases c with
  | commandPacket => exact keptLater_arrive (execCommandPacket_kept h)
  | seqGapTimeout => exact keptLater_arrive (execSeqGapTimeout_kept h)
  | journalPeerAck => exact keptLater_arrive (execJournalPeerAck_kept h)
  | journalMirrorTimeout => exact keptLater_arrive (execJournalMirrorTimeout_kept h)
  | journalResyncComplete => exact keptLater_arrive (execJournalResyncComplete_kept h)
  | commandCompletion => exact keptLater_arrive (execCommandCompletion_kept h)
  | sessionDormant => exact keptLater_arrive (execSessionDormant_kept h)
  | sessionReclaim => exact keptLater_arrive (execSessionReclaim_kept h)
  | sysQuery => exact keptLater_arrive (execSysQuery_kept h)
  | getSurvey => exact keptLater_arrive (execGetSurvey_kept h)
  | setMode => exact keptLater_arrive (execSetMode_kept h)
  | sessionQuery => exact keptLater_arrive (execSessionQuery_kept h)
  | openSession => exact keptLater_arrive (execOpenSession_kept h)
  | closeSession => exact keptLater_arrive (execCloseSession_kept h)
  | keepalive => exact keptLater_arrive (execKeepalive_kept h)
  | journalQuery => exact keptLater_arrive (execJournalQuery_kept h)
  | cfgQuery => exact keptLater_arrive (execCfgQuery_kept h)
  | cfgStage => exact keptLater_arrive (execCfgStage_kept h)
  | cfgValidate => exact keptLater_arrive (execCfgValidate_kept h)
  | cfgCommit => exact keptLater_arrive (execCfgCommit_kept h)
  | cfgFactory => exact keptLater_arrive (execCfgFactory_kept h)
  | cfgFromPeer => exact keptLater_arrive (execCfgFromPeer_kept h)
  | holdSelectFunction => exact keptLater_arrive (execHoldSelectFunction_kept h)
  | holdSetSetpoint => exact keptLater_arrive (execHoldSetSetpoint_kept h)
  | holdSetEnd => exact keptLater_arrive (execHoldSetEnd_kept h)
  | holdBprSet => exact keptLater_arrive (execHoldBprSet_kept h)
  | holdStatus => exact keptLater_arrive (execHoldStatus_kept h)
  | refSelect => exact keptLater_arrive (execRefSelect_kept h)
  | refQuery => exact keptLater_arrive (execRefQuery_kept h)
  | refRetry => exact keptLater_arrive (execRefRetry_kept h)
  | estReinit => exact keptLater_arrive (execEstReinit_kept h)
  | alcSelect => exact keptLater_arrive (execAlcSelect_kept h)
  | alcSetBerm => exact keptLater_arrive (execAlcSetBerm_kept h)
  | alcQuery => exact keptLater_arrive (execAlcQuery_kept h)
  | alcLearnReset => exact keptLater_arrive (execAlcLearnReset_kept h)
  | thrQuery => exact keptLater_arrive (execThrQuery_kept h)
  | thrClear => exact keptLater_arrive (execThrClear_kept h)
  | thrEnable => exact keptLater_arrive (execThrEnable_kept h)
  | cqaQuery => exact keptLater_arrive (execCqaQuery_kept h)
  | cqaCaseQuery => exact keptLater_arrive (execCqaCaseQuery_kept h)
  | cqaCaseEnable => exact keptLater_arrive (execCqaCaseEnable_kept h)
  | cqaWhatif => exact keptLater_arrive (execCqaWhatif_kept h)
  | whatifDeadline => exact keptLater_arrive (execWhatifDeadline_kept h)
  | timeQuery => exact keptLater_arrive (execTimeQuery_kept h)
  | timeSelect => exact keptLater_arrive (execTimeSelect_kept h)
  | timePulse => exact keptLater_arrive (execTimePulse_kept h)
  | timeStepAllow => exact keptLater_arrive (execTimeStepAllow_kept h)
  | canQuery => exact keptLater_arrive (execCanQuery_kept h)
  | busRecover => exact keptLater_arrive (execBusRecover_kept h)
  | canRateDetect => exact keptLater_arrive (execCanRateDetect_kept h)
  | canNodeList => exact keptLater_arrive (execCanNodeList_kept h)
  | serQuery => exact keptLater_arrive (execSerQuery_kept h)
  | pointRead => exact keptLater_arrive (execPointRead_kept h)
  | pointWrite => exact keptLater_arrive (execPointWrite_kept h)
  | pointForce => exact keptLater_arrive (execPointForce_kept h)
  | pointUnforce => exact keptLater_arrive (execPointUnforce_kept h)
  | pointSubscribe => exact keptLater_arrive (execPointSubscribe_kept h)
  | pointUnsubscribe => exact keptLater_arrive (execPointUnsubscribe_kept h)
  | producerList => exact keptLater_arrive (execProducerList_kept h)
  | pointNotify => exact keptLater_arrive (execPointNotify_kept h)
  | fioQuery => exact keptLater_arrive (execFioQuery_kept h)
  | fioSet => exact keptLater_arrive (execFioSet_kept h)
  | fioPulse => exact keptLater_arrive (execFioPulse_kept h)
  | fioClear => exact keptLater_arrive (execFioClear_kept h)
  | fioGroupRestore => exact keptLater_arrive (execFioGroupRestore_kept h)
  | logFreeze => exact keptLater_arrive (execLogFreeze_kept h)
  | logThaw => exact keptLater_arrive (execLogThaw_kept h)
  | logRead => exact keptLater_arrive (execLogRead_kept h)
  | logSnapRead => exact keptLater_arrive (execLogSnapRead_kept h)
  | logCodes => exact keptLater_arrive (execLogCodes_kept h)
  | logExport => exact keptLater_arrive (execLogExport_kept h)
  | logSpillEnd => exact keptLater_arrive (execLogSpillEnd_kept h)
  | safeQuery => exact keptLater_arrive (execSafeQuery_kept h)
  | safeReset => exact keptLater_arrive (execSafeReset_kept h)
  | safeBrakeTest => exact keptLater_arrive (execSafeBrakeTest_kept h)
  | safeCfgRead => exact keptLater_arrive (execSafeCfgRead_kept h)
  | safeCfgConfirm => exact keptLater_arrive (execSafeCfgConfirm_kept h)
  | safeStop => exact keptLater_arrive (execSafeStop_kept h)
  | redQuery => exact keptLater_arrive (execRedQuery_kept h)
  | roleRotate => exact keptLater_arrive (execRoleRotate_kept h)
  | wardenPromote => exact keptLater_arrive (execWardenPromote_kept h)
  | wardenRelease => exact keptLater_arrive (execWardenRelease_kept h)
  | imgStage => exact keptLater_arrive (execImgStage_kept h)
  | imgVerify => exact keptLater_arrive (execImgVerify_kept h)
  | imgActivate => exact keptLater_arrive (execImgActivate_kept h)
  | domainDrain => exact keptLater_arrive (execDomainDrain_kept h)
  | domainRestore => exact keptLater_arrive (execDomainRestore_kept h)
  | domainOff => exact keptLater_arrive (execDomainOff_kept h)
  | domainRunning => exact keptLater_arrive (execDomainRunning_kept h)
  | sysRestart => exact keptLater_arrive (execSysRestart_kept h)
  | sysRestartDelayEnd => exact keptLater_arrive (execSysRestartDelayEnd_kept h)
  | keyWrite => exact keptLater_arrive (execKeyWrite_kept h)
  | henSubmit => exact keptLater_arrive (execHenSubmit_kept h)
  | henStatus => exact keptLater_arrive (execHenStatus_kept h)
  | henCancel => exact keptLater_arrive (execHenCancel_kept h)
  | satQuery => exact keptLater_arrive (execSatQuery_kept h)
  | satRestart => exact keptLater_arrive (execSatRestart_kept h)
  | satIntegrityReset => exact keptLater_arrive (execSatIntegrityReset_kept h)
  | satTimeAccept => exact keptLater_arrive (execSatTimeAccept_kept h)
  | satExclude => exact keptLater_arrive (execSatExclude_kept h)
  | satAntBias => exact keptLater_arrive (execSatAntBias_kept h)
  | registerWrite => exact keptLater_arrive (execRegisterWrite_kept h)
  | stickyRegisterRead => exact keptLater_arrive (execStickyRegisterRead_kept h)
  | partitionAccessViolation => exact keptLater_arrive (execPartitionAccessViolation_kept h)
  | dramRegionViolation => exact keptLater_arrive (execDramRegionViolation_kept h)
  | dramEccError => exact keptLater_arrive (execDramEccError_kept h)
  | lockstepMismatch => exact keptLater_arrive (execLockstepMismatch_kept h)
  | partitionSliceEnd => exact keptLater_arrive (execPartitionSliceEnd_kept h)
  | partitionFault => exact keptLater_arrive (execPartitionFault_kept h)
  | partitionWatchdogExpiry => exact keptLater_arrive (execPartitionWatchdogExpiry_kept h)
  | frameStart => exact keptLater_arrive (execFrameStart_kept h)
  | estimationDeadline => exact keptLater_arrive (execEstimationDeadline_kept h)
  | allocSubmitInstant => exact keptLater_arrive (execAllocSubmitInstant_kept h)
  | allocationCompose => exact keptLater_arrive (execAllocationCompose_kept h)
  | sealWindowClose => exact keptLater_arrive (execSealWindowClose_kept h)
  | commitInstant => exact keptLater_arrive (execCommitInstant_kept h)
  | frameMirrorSend => exact keptLater_arrive (execFrameMirrorSend_kept h)
  | frameMirrorReceived => exact keptLater_arrive (execFrameMirrorReceived_kept h)
  | frameClockStep => exact keptLater_arrive (execFrameClockStep_kept h)
  | refTimeoutExpiry => exact keptLater_arrive (execRefTimeoutExpiry_kept h)
  | refTrialComplete => exact keptLater_arrive (execRefTrialComplete_kept h)
  | estDrLimitExpiry => exact keptLater_arrive (execEstDrLimitExpiry_kept h)
  | estPeerDiffCount => exact keptLater_arrive (execEstPeerDiffCount_kept h)
  | mpcFailCount => exact keptLater_arrive (execMpcFailCount_kept h)
  | mpcOkCount => exact keptLater_arrive (execMpcOkCount_kept h)
  | joyCentreRelease => exact keptLater_arrive (execJoyCentreRelease_kept h)
  | excursionClearTimer => exact keptLater_arrive (execExcursionClearTimer_kept h)
  | bprContactDetected => exact keptLater_arrive (execBprContactDetected_kept h)
  | bprContactTimeout => exact keptLater_arrive (execBprContactTimeout_kept h)
  | bprContactLoss => exact keptLater_arrive (execBprContactLoss_kept h)
  | powerEnvelopeMessage => exact keptLater_arrive (execPowerEnvelopeMessage_kept h)
  | pwrSourceStale => exact keptLater_arrive (execPwrSourceStale_kept h)
  | pwrFreshCountReached => exact keptLater_arrive (execPwrFreshCountReached_kept h)
  | pwrLimitCount => exact keptLater_arrive (execPwrLimitCount_kept h)
  | alcRepeatLimitReached => exact keptLater_arrive (execAlcRepeatLimitReached_kept h)
  | alcSatTimer => exact keptLater_arrive (execAlcSatTimer_kept h)
  | learnedModelSave => exact keptLater_arrive (execLearnedModelSave_kept h)
  | learnedModelMirror => exact keptLater_arrive (execLearnedModelMirror_kept h)
  | cqaAlarmDelayReached => exact keptLater_arrive (execCqaAlarmDelayReached_kept h)
  | cqaClearTimeReached => exact keptLater_arrive (execCqaClearTimeReached_kept h)
  | cqaUnprovenDelayReached => exact keptLater_arrive (execCqaUnprovenDelayReached_kept h)
  | capabilityEnvelopePeriod => exact keptLater_arrive (execCapabilityEnvelopePeriod_kept h)
  | capabilityEnvelopeEnd => exact keptLater_arrive (execCapabilityEnvelopeEnd_kept h)
  | henSubHiWrite => exact keptLater_arrive (execHenSubHiWrite_kept h)
  | henProblemEnd => exact keptLater_arrive (execHenProblemEnd_kept h)
  | henSuspensionPoint => exact keptLater_arrive (execHenSuspensionPoint_kept h)
  | henJobDeadline => exact keptLater_arrive (execHenJobDeadline_kept h)
  | henQCancelWrite => exact keptLater_arrive (execHenQCancelWrite_kept h)
  | henQEnClear => exact keptLater_arrive (execHenQEnClear_kept h)
  | henQPop => exact keptLater_arrive (execHenQPop_kept h)
  | henClusterEnClear => exact keptLater_arrive (execHenClusterEnClear_kept h)
  | henSramError => exact keptLater_arrive (execHenSramError_kept h)
  | henClusterStop => exact keptLater_arrive (execHenClusterStop_kept h)
  | henDrainDone => exact keptLater_arrive (execHenDrainDone_kept h)
  | sequencerSlice => exact keptLater_arrive (execSequencerSlice_kept h)
  | thrSealWrite => exact keptLater_arrive (execThrSealWrite_kept h)
  | thrShadowWrite => exact keptLater_arrive (execThrShadowWrite_kept h)
  | thrWithdraw => exact keptLater_arrive (execThrWithdraw_kept h)
  | thrCtrlClear => exact keptLater_arrive (execThrCtrlClear_kept h)
  | thrCtrlEnWrite => exact keptLater_arrive (execThrCtrlEnWrite_kept h)
  | thrAuthWrite => exact keptLater_arrive (execThrAuthWrite_kept h)
  | thrAoHoldExpiry => exact keptLater_arrive (execThrAoHoldExpiry_kept h)
  | thrFeedbackFrame => exact keptLater_arrive (execThrFeedbackFrame_kept h)
  | thrFeedback2Frame => exact keptLater_arrive (execThrFeedback2Frame_kept h)
  | thrFbTimeout => exact keptLater_arrive (execThrFbTimeout_kept h)
  | thrAzFollowExpiry => exact keptLater_arrive (execThrAzFollowExpiry_kept h)
  | thrAzWrongDirExpiry => exact keptLater_arrive (execThrAzWrongDirExpiry_kept h)
  | thrRudderFollowExpiry => exact keptLater_arrive (execThrRudderFollowExpiry_kept h)
  | thrTHighExpiry => exact keptLater_arrive (execThrTHighExpiry_kept h)
  | thrTDevExpiry => exact keptLater_arrive (execThrTDevExpiry_kept h)
  | thrAngDisagreeExpiry => exact keptLater_arrive (execThrAngDisagreeExpiry_kept h)
  | thrNotReadyRecovery => exact keptLater_arrive (execThrNotReadyRecovery_kept h)
  | thrDegradedRecovery => exact keptLater_arrive (execThrDegradedRecovery_kept h)
  | satEpoch => exact keptLater_arrive (execSatEpoch_kept h)
  | satSecondChecks => exact keptLater_arrive (execSatSecondChecks_kept h)
  | satSignalAcquired => exact keptLater_arrive (execSatSignalAcquired_kept h)
  | satChannelRelease => exact keptLater_arrive (execSatChannelRelease_kept h)
  | rtcmFrame => exact keptLater_arrive (execRtcmFrame_kept h)
  | antOpenDetect => exact keptLater_arrive (execAntOpenDetect_kept h)
  | antShort => exact keptLater_arrive (execAntShort_kept h)
  | antBiasRetry => exact keptLater_arrive (execAntBiasRetry_kept h)
  | antGeometryExclude => exact keptLater_arrive (execAntGeometryExclude_kept h)
  | satHoldoverEntry => exact keptLater_arrive (execSatHoldoverEntry_kept h)
  | satReturnConfirmed => exact keptLater_arrive (execSatReturnConfirmed_kept h)
  | satTimeStep => exact keptLater_arrive (execSatTimeStep_kept h)
  | satSlewComplete => exact keptLater_arrive (execSatSlewComplete_kept h)
  | satPps => exact keptLater_arrive (execSatPps_kept h)
  | satWake => exact keptLater_arrive (execSatWake_kept h)
  | satWakeEnd => exact keptLater_arrive (execSatWakeEnd_kept h)
  | satRetainedWrite => exact keptLater_arrive (execSatRetainedWrite_kept h)
  | ptpSyncReceived => exact keptLater_arrive (execPtpSyncReceived_kept h)
  | ptpDelayResponse => exact keptLater_arrive (execPtpDelayResponse_kept h)
  | ptpAnnounceReceived => exact keptLater_arrive (execPtpAnnounceReceived_kept h)
  | ptpAnnounceTimeout => exact keptLater_arrive (execPtpAnnounceTimeout_kept h)
  | ptpSyncTimeout => exact keptLater_arrive (execPtpSyncTimeout_kept h)
  | ppsInEdge => exact keptLater_arrive (execPpsInEdge_kept h)
  | vcLock => exact keptLater_arrive (execVcLock_kept h)
  | vcStep => exact keptLater_arrive (execVcStep_kept h)
  | frameRevertTimer => exact keptLater_arrive (execFrameRevertTimer_kept h)
  | fallbackReturnTimer => exact keptLater_arrive (execFallbackReturnTimer_kept h)
  | tmuCtrlWrite => exact keptLater_arrive (execTmuCtrlWrite_kept h)
  | tmuIncrWrite => exact keptLater_arrive (execTmuIncrWrite_kept h)
  | timeLoRead => exact keptLater_arrive (execTimeLoRead_kept h)
  | captureEvent => exact keptLater_arrive (execCaptureEvent_kept h)
  | captureEntryAged => exact keptLater_arrive (execCaptureEntryAged_kept h)
  | capFifoData0Read => exact keptLater_arrive (execCapFifoData0Read_kept h)
  | capFifoData1Read => exact keptLater_arrive (execCapFifoData1Read_kept h)
  | pulseArm => exact keptLater_arrive (execPulseArm_kept h)
  | pulseDisarm => exact keptLater_arrive (execPulseDisarm_kept h)
  | pulseOutputFire => exact keptLater_arrive (execPulseOutputFire_kept h)
  | pulseWidthEnd => exact keptLater_arrive (execPulseWidthEnd_kept h)
  | producerWrite => exact keptLater_arrive (execProducerWrite_kept h)
  | producerTimeout => exact keptLater_arrive (execProducerTimeout_kept h)
  | pointTimeout => exact keptLater_arrive (execPointTimeout_kept h)
  | pntWrGo => exact keptLater_arrive (execPntWrGo_kept h)
  | heartbeatSend => exact keptLater_arrive (execHeartbeatSend_kept h)
  | heartbeatReceived => exact keptLater_arrive (execHeartbeatReceived_kept h)
  | heartbeatMissCheck => exact keptLater_arrive (execHeartbeatMissCheck_kept h)
  | leaseGrantReceived => exact keptLater_arrive (execLeaseGrantReceived_kept h)
  | leaseHolderExpiry => exact keptLater_arrive (execLeaseHolderExpiry_kept h)
  | leaseExpiryW => exact keptLater_arrive (execLeaseExpiryW_kept h)
  | leaseGuardEnd => exact keptLater_arrive (execLeaseGuardEnd_kept h)
  | takeoverCheckEnd => exact keptLater_arrive (execTakeoverCheckEnd_kept h)
  | rotationRelease => exact keptLater_arrive (execRotationRelease_kept h)
  | roleRelayFaultDetect => exact keptLater_arrive (execRoleRelayFaultDetect_kept h)
  | rotateDueReached => exact keptLater_arrive (execRotateDueReached_kept h)
  | uidStrapChange => exact keptLater_arrive (execUidStrapChange_kept h)
  | safeInputEdge => exact keptLater_arrive (execSafeInputEdge_kept h)
  | testPulseCheck => exact keptLater_arrive (execTestPulseCheck_kept h)
  | discrepancyExpiry => exact keptLater_arrive (execDiscrepancyExpiry_kept h)
  | safePCycle => exact keptLater_arrive (execSafePCycle_kept h)
  | safeWatchdogExpiry => exact keptLater_arrive (execSafeWatchdogExpiry_kept h)
  | safePathDisagree => exact keptLater_arrive (execSafePathDisagree_kept h)
  | safePLockstepMismatch => exact keptLater_arrive (execSafePLockstepMismatch_kept h)
  | processStopRequest => exact keptLater_arrive (execProcessStopRequest_kept h)
  | stsDelayExpiry => exact keptLater_arrive (execStsDelayExpiry_kept h)
  | stsOffPulse => exact keptLater_arrive (execStsOffPulse_kept h)
  | brakeSetSpeedReached => exact keptLater_arrive (execBrakeSetSpeedReached_kept h)
  | brakeTestDue => exact keptLater_arrive (execBrakeTestDue_kept h)
  | brakeTestThrust => exact keptLater_arrive (execBrakeTestThrust_kept h)
  | brakeTestThrustEnd => exact keptLater_arrive (execBrakeTestThrustEnd_kept h)
  | brakeTestResult => exact keptLater_arrive (execBrakeTestResult_kept h)
  | sltViolation => exact keptLater_arrive (execSltViolation_kept h)
  | safetyOutputFault => exact keptLater_arrive (execSafetyOutputFault_kept h)
  | safetyEncoderFault => exact keptLater_arrive (execSafetyEncoderFault_kept h)
  | ssupLow => exact keptLater_arrive (execSsupLow_kept h)
  | safetyStartTest => exact keptLater_arrive (execSafetyStartTest_kept h)
  | fioInputEdge => exact keptLater_arrive (execFioInputEdge_kept h)
  | fioWireBreak => exact keptLater_arrive (execFioWireBreak_kept h)
  | fioWireBreakClear => exact keptLater_arrive (execFioWireBreakClear_kept h)
  | fioOutputSample => exact keptLater_arrive (execFioOutputSample_kept h)
  | fioOvercurrentRetry => exact keptLater_arrive (execFioOvercurrentRetry_kept h)
  | fioGroupOverload => exact keptLater_arrive (execFioGroupOverload_kept h)
  | fioSupplyStateChange => exact keptLater_arrive (execFioSupplyStateChange_kept h)
  | fioRestoreSwitch => exact keptLater_arrive (execFioRestoreSwitch_kept h)
  | fioPulseEnd => exact keptLater_arrive (execFioPulseEnd_kept h)
  | canFrameReceived => exact keptLater_arrive (execCanFrameReceived_kept h)
  | canTimedFrameDue => exact keptLater_arrive (execCanTimedFrameDue_kept h)
  | canTxAttemptEnd => exact keptLater_arrive (execCanTxAttemptEnd_kept h)
  | canFrameExpiry => exact keptLater_arrive (execCanFrameExpiry_kept h)
  | canBusOff => exact keptLater_arrive (execCanBusOff_kept h)
  | canRecoverComplete => exact keptLater_arrive (execCanRecoverComplete_kept h)
  | canRecoverTimeout => exact keptLater_arrive (execCanRecoverTimeout_kept h)
  | canDetectDwellEnd => exact keptLater_arrive (execCanDetectDwellEnd_kept h)
  | canNodeForget => exact keptLater_arrive (execCanNodeForget_kept h)
  | serialSentence => exact keptLater_arrive (execSerialSentence_kept h)
  | serialBinaryFrame => exact keptLater_arrive (execSerialBinaryFrame_kept h)
  | iec450Datagram => exact keptLater_arrive (execIec450Datagram_kept h)
  | serialTxSentence => exact keptLater_arrive (execSerialTxSentence_kept h)
  | dmaStart => exact keptLater_arrive (execDmaStart_kept h)
  | dmaEnClear => exact keptLater_arrive (execDmaEnClear_kept h)
  | dmaTrigger => exact keptLater_arrive (execDmaTrigger_kept h)
  | dmaDescriptorEnd => exact keptLater_arrive (execDmaDescriptorEnd_kept h)
  | logRecordSubmit => exact keptLater_arrive (execLogRecordSubmit_kept h)
  | logRecordRelease => exact keptLater_arrive (execLogRecordRelease_kept h)
  | logSnapshotCapture => exact keptLater_arrive (execLogSnapshotCapture_kept h)
  | logFreezeTimeout => exact keptLater_arrive (execLogFreezeTimeout_kept h)
  | logRdGo => exact keptLater_arrive (execLogRdGo_kept h)
  | logOptimeLoRead => exact keptLater_arrive (execLogOptimeLoRead_kept h)
  | supplyLowEntry => exact keptLater_arrive (execSupplyLowEntry_kept h)
  | supplyNormalReturn => exact keptLater_arrive (execSupplyNormalReturn_kept h)
  | powerDown => exact keptLater_arrive (execPowerDown_kept h)
  | vlInputLost => exact keptLater_arrive (execVlInputLost_kept h)
  | supplyHigh => exact keptLater_arrive (execSupplyHigh_kept h)
  | resetNAssert => exact keptLater_arrive (execResetNAssert_kept h)
  | resetNRelease => exact keptLater_arrive (execResetNRelease_kept h)
  | resetHeld => exact keptLater_arrive (execResetHeld_kept h)
  | coldStart => exact keptLater_arrive (execColdStart_kept h)
  | restoreComplete => exact keptLater_arrive (execRestoreComplete_kept h)
  | keepCounterSave => exact keptLater_arrive (execKeepCounterSave_kept h)
  | timeKeeperCalibrate => exact keptLater_arrive (execTimeKeeperCalibrate_kept h)
  | baseplateHot => exact keptLater_arrive (execBaseplateHot_kept h)
  | keepExitTimer => exact keptLater_arrive (execKeepExitTimer_kept h)
  | holdGrantTimeout => exact keptLater_arrive (execHoldGrantTimeout_kept h)
  | holdReleaseComplete => exact keptLater_arrive (execHoldReleaseComplete_kept h)
  | cfgEffectFrame => exact keptLater_arrive (execCfgEffectFrame_kept h)
  | imgTrialEnd => exact keptLater_arrive (execImgTrialEnd_kept h)
  | domainStartFailure => exact keptLater_arrive (execDomainStartFailure_kept h)
  | journalEntryMirrored => exact keptLater_arrive (execJournalEntryMirrored_kept h)
  | wardenHoldStateReceived => exact keptLater_arrive (execWardenHoldStateReceived_kept h)
  | safeResetForwarded => exact keptLater_arrive (execSafeResetForwarded_kept h)
  | ssupRestored => exact keptLater_arrive (execSsupRestored_kept h)
  | vlInputRestored => exact keptLater_arrive (execVlInputRestored_kept h)
  | ppsInLost => exact keptLater_arrive (execPpsInLost_kept h)
  | canReceiveError => exact keptLater_arrive (execCanReceiveError_kept h)
  | satSignalLost => exact keptLater_arrive (execSatSignalLost_kept h)
  | ptpTransmitInterval => exact keptLater_arrive (execPtpTransmitInterval_kept h)
  | partitionStartCommand => exact keptLater_arrive (execPartitionStartCommand_kept h)

theorem State.memOk_iff (s : State) :
    s.memOk = true ↔ Memory.wf s.dram.cells = true ∧ Memory.wf s.dma.sram0 = true ∧ Memory.wf s.dma.sram1 = true := by
  simp [State.memOk, and_assoc]

theorem Kept.inv {s : State} (h : Kept q n s) : s.Inv := ⟨s.memOk_iff.2 ⟨h.dram, h.sram0, h.sram1⟩, h.sizes⟩

/-- A command of a unit that meets the invariant: its next state meets it, the queue is as it was, and time has not gone back. -/
theorem exec_keeps {c : Instr} {s u : State} (hinv : s.Inv) (hnext : exec c s = .next u) : u.Inv ∧ u.pending = s.pending ∧ s.now ≤ u.now := by
  obtain ⟨m, hle, hkept⟩ := exec_keptLater c hinv.kept
  have hu : Kept s.pending m u := hkept u hnext
  exact ⟨hu.inv, hu.pending, hu.now ▸ hle⟩

/-- Settles O2: an idle step changes nothing, and a command keeps the invariant on the state with the queue's rest, whose invariant is the same. -/
theorem stepKeepsInvariant : Obligations.StepKeepsInvariant := by
  unfold Obligations.StepKeepsInvariant
  intro s u hinv hstep
  cases hqueue : s.pending with
  | nil =>
    rw [stepTakesTheFront.2 s hqueue] at hstep
    cases hstep
    exact hinv
  | cons c rest =>
    rw [stepTakesTheFront.1 c rest s hqueue] at hstep
    have hrest : State.Inv { s with pending := rest } := hinv
    exact (exec_keeps hrest hstep).1

/-- Settles O3: the memories are empty after reset, and every unit is counted. -/
theorem resetMeetsInvariant : Obligations.ResetMeetsInvariant := by
  unfold Obligations.ResetMeetsInvariant
  exact ⟨rfl, rfl⟩

/-- Settles O4, by the lemma of each command. -/
theorem queueAndTimeKept : Obligations.QueueAndTimeKept := by
  unfold Obligations.QueueAndTimeKept
  intro c s u hinv hnext
  exact (exec_keeps hinv hnext).2

/-! ### The completion of every command -/

/-- A meaning that answers a next state where its operands name units the module has, and otherwise stops naming the unit. -/
def Completes (ok : Bool) (r : Res) : Prop := (ok = true → ∃ u, r = .next u) ∧ (ok = false → ∃ n, r = .fault (.noSuchUnit n))

theorem completes_next (s : State) : Completes true (.next s) := ⟨fun _ => ⟨s, rfl⟩, nofun⟩

theorem completes_guard (ok : Bool) (n : Nat) (s : State) : Completes ok (guardUnit ok n s) := by
  cases ok with
  | false => exact ⟨nofun, fun _ => ⟨n, rfl⟩⟩
  | true => exact ⟨fun _ => ⟨s, rfl⟩, nofun⟩

/-- A row with an opcode completes, whatever its bytes. -/
theorem completes_opRow (o : OpDef) (t n seq : Nat) (p : List Byte) (s : State) : Completes true (opRow o t n seq p s) := by
  unfold opRow
  dsimp only
  split
  · exact completes_next _
  · split
    · exact completes_next _
    · split <;> exact completes_next _

theorem completes_pointNotify (t sub : Nat) (s : State) : Completes true (execPointNotify t sub s) := by
  unfold execPointNotify
  dsimp only
  split <;> exact completes_next _

theorem completes_thrAoHoldExpiry (t : Nat) (s : State) : Completes true (execThrAoHoldExpiry t s) := by
  unfold execThrAoHoldExpiry
  dsimp only
  split <;> exact completes_next _

theorem completes_rtcmFrame (t : Nat) (via : RtcmVia) (s : State) (bytes : List Byte) : Completes true (execRtcmFrame t via s bytes) := by
  unfold execRtcmFrame
  dsimp only
  split
  · exact completes_next _
  · split <;> exact completes_next _

theorem completes_iec450Datagram (t group addr port : Nat) (bytes : List Byte) (s : State) :
    Completes true (execIec450Datagram t group addr port bytes s) := by
  unfold execIec450Datagram
  dsimp only
  split <;> exact completes_next _

theorem completes_logSnapshotCapture (t : Nat) (s : State) (fails : Nat) : Completes true (execLogSnapshotCapture t s fails) := by
  unfold execLogSnapshotCapture
  dsimp only
  split <;> exact completes_next _

/-- Every command completes exactly where it is well-formed: rows without a numbered operand always, the others by their guard. -/
theorem exec_completes (c : Instr) (s : State) : Completes c.wf (exec c s) := by
  cases c with
  | commandPacket => exact completes_next _
  | seqGapTimeout => exact completes_next _
  | journalPeerAck => exact completes_next _
  | journalMirrorTimeout => exact completes_next _
  | journalResyncComplete => exact completes_next _
  | commandCompletion => exact completes_next _
  | sessionDormant => exact completes_next _
  | sessionReclaim => exact completes_next _
  | sysQuery => exact completes_opRow _ _ _ _ _ _
  | getSurvey => exact completes_opRow _ _ _ _ _ _
  | setMode => exact completes_opRow _ _ _ _ _ _
  | sessionQuery => exact completes_opRow _ _ _ _ _ _
  | openSession => exact completes_next _
  | closeSession => exact completes_opRow _ _ _ _ _ _
  | keepalive => exact completes_opRow _ _ _ _ _ _
  | journalQuery => exact completes_opRow _ _ _ _ _ _
  | cfgQuery => exact completes_opRow _ _ _ _ _ _
  | cfgStage => exact completes_opRow _ _ _ _ _ _
  | cfgValidate => exact completes_opRow _ _ _ _ _ _
  | cfgCommit => exact completes_opRow _ _ _ _ _ _
  | cfgFactory => exact completes_opRow _ _ _ _ _ _
  | cfgFromPeer => exact completes_opRow _ _ _ _ _ _
  | holdSelectFunction => exact completes_opRow _ _ _ _ _ _
  | holdSetSetpoint => exact completes_opRow _ _ _ _ _ _
  | holdSetEnd => exact completes_opRow _ _ _ _ _ _
  | holdBprSet => exact completes_opRow _ _ _ _ _ _
  | holdStatus => exact completes_opRow _ _ _ _ _ _
  | refSelect => exact completes_opRow _ _ _ _ _ _
  | refQuery => exact completes_opRow _ _ _ _ _ _
  | refRetry => exact completes_opRow _ _ _ _ _ _
  | estReinit => exact completes_opRow _ _ _ _ _ _
  | alcSelect => exact completes_opRow _ _ _ _ _ _
  | alcSetBerm => exact completes_opRow _ _ _ _ _ _
  | alcQuery => exact completes_opRow _ _ _ _ _ _
  | alcLearnReset => exact completes_opRow _ _ _ _ _ _
  | thrQuery => exact completes_opRow _ _ _ _ _ _
  | thrClear => exact completes_opRow _ _ _ _ _ _
  | thrEnable => exact completes_opRow _ _ _ _ _ _
  | cqaQuery => exact completes_opRow _ _ _ _ _ _
  | cqaCaseQuery => exact completes_opRow _ _ _ _ _ _
  | cqaCaseEnable => exact completes_opRow _ _ _ _ _ _
  | cqaWhatif => exact completes_opRow _ _ _ _ _ _
  | whatifDeadline => exact completes_next _
  | timeQuery => exact completes_opRow _ _ _ _ _ _
  | timeSelect => exact completes_opRow _ _ _ _ _ _
  | timePulse => exact completes_opRow _ _ _ _ _ _
  | timeStepAllow => exact completes_opRow _ _ _ _ _ _
  | canQuery => exact completes_opRow _ _ _ _ _ _
  | busRecover => exact completes_opRow _ _ _ _ _ _
  | canRateDetect => exact completes_opRow _ _ _ _ _ _
  | canNodeList => exact completes_opRow _ _ _ _ _ _
  | serQuery => exact completes_opRow _ _ _ _ _ _
  | pointRead => exact completes_opRow _ _ _ _ _ _
  | pointWrite => exact completes_opRow _ _ _ _ _ _
  | pointForce => exact completes_opRow _ _ _ _ _ _
  | pointUnforce => exact completes_opRow _ _ _ _ _ _
  | pointSubscribe => exact completes_opRow _ _ _ _ _ _
  | pointUnsubscribe => exact completes_opRow _ _ _ _ _ _
  | producerList => exact completes_opRow _ _ _ _ _ _
  | pointNotify => exact completes_pointNotify _ _ _
  | fioQuery => exact completes_opRow _ _ _ _ _ _
  | fioSet => exact completes_opRow _ _ _ _ _ _
  | fioPulse => exact completes_opRow _ _ _ _ _ _
  | fioClear => exact completes_opRow _ _ _ _ _ _
  | fioGroupRestore => exact completes_opRow _ _ _ _ _ _
  | logFreeze => exact completes_opRow _ _ _ _ _ _
  | logThaw => exact completes_opRow _ _ _ _ _ _
  | logRead => exact completes_opRow _ _ _ _ _ _
  | logSnapRead => exact completes_opRow _ _ _ _ _ _
  | logCodes => exact completes_opRow _ _ _ _ _ _
  | logExport => exact completes_opRow _ _ _ _ _ _
  | logSpillEnd => exact completes_opRow _ _ _ _ _ _
  | safeQuery => exact completes_opRow _ _ _ _ _ _
  | safeReset => exact completes_opRow _ _ _ _ _ _
  | safeBrakeTest => exact completes_opRow _ _ _ _ _ _
  | safeCfgRead => exact completes_opRow _ _ _ _ _ _
  | safeCfgConfirm => exact completes_opRow _ _ _ _ _ _
  | safeStop => exact completes_opRow _ _ _ _ _ _
  | redQuery => exact completes_opRow _ _ _ _ _ _
  | roleRotate => exact completes_opRow _ _ _ _ _ _
  | wardenPromote => exact completes_opRow _ _ _ _ _ _
  | wardenRelease => exact completes_opRow _ _ _ _ _ _
  | imgStage => exact completes_opRow _ _ _ _ _ _
  | imgVerify => exact completes_opRow _ _ _ _ _ _
  | imgActivate => exact completes_opRow _ _ _ _ _ _
  | domainDrain => exact completes_opRow _ _ _ _ _ _
  | domainRestore => exact completes_opRow _ _ _ _ _ _
  | domainOff => exact completes_guard _ _ _
  | domainRunning => exact completes_guard _ _ _
  | sysRestart => exact completes_opRow _ _ _ _ _ _
  | sysRestartDelayEnd => exact completes_next _
  | keyWrite => exact completes_opRow _ _ _ _ _ _
  | henSubmit => exact completes_opRow _ _ _ _ _ _
  | henStatus => exact completes_opRow _ _ _ _ _ _
  | henCancel => exact completes_opRow _ _ _ _ _ _
  | satQuery => exact completes_opRow _ _ _ _ _ _
  | satRestart => exact completes_opRow _ _ _ _ _ _
  | satIntegrityReset => exact completes_opRow _ _ _ _ _ _
  | satTimeAccept => exact completes_opRow _ _ _ _ _ _
  | satExclude => exact completes_opRow _ _ _ _ _ _
  | satAntBias => exact completes_opRow _ _ _ _ _ _
  | registerWrite => exact completes_guard _ _ _
  | stickyRegisterRead => exact completes_guard _ _ _
  | partitionAccessViolation => exact completes_next _
  | dramRegionViolation => exact completes_guard _ _ _
  | dramEccError => exact completes_guard _ _ _
  | lockstepMismatch => exact completes_next _
  | partitionSliceEnd => exact completes_next _
  | partitionFault => exact completes_next _
  | partitionWatchdogExpiry => exact completes_next _
  | frameStart => exact completes_next _
  | estimationDeadline => exact completes_next _
  | allocSubmitInstant => exact completes_next _
  | allocationCompose => exact completes_next _
  | sealWindowClose => exact completes_next _
  | commitInstant => exact completes_next _
  | frameMirrorSend => exact completes_next _
  | frameMirrorReceived => exact completes_next _
  | frameClockStep => exact completes_guard _ _ _
  | refTimeoutExpiry => exact completes_guard _ _ _
  | refTrialComplete => exact completes_guard _ _ _
  | estDrLimitExpiry => exact completes_next _
  | estPeerDiffCount => exact completes_next _
  | mpcFailCount => exact completes_next _
  | mpcOkCount => exact completes_next _
  | joyCentreRelease => exact completes_next _
  | excursionClearTimer => exact completes_guard _ _ _
  | bprContactDetected => exact completes_next _
  | bprContactTimeout => exact completes_next _
  | bprContactLoss => exact completes_next _
  | powerEnvelopeMessage => exact completes_guard _ _ _
  | pwrSourceStale => exact completes_guard _ _ _
  | pwrFreshCountReached => exact completes_guard _ _ _
  | pwrLimitCount => exact completes_guard _ _ _
  | alcRepeatLimitReached => exact completes_next _
  | alcSatTimer => exact completes_next _
  | learnedModelSave => exact completes_next _
  | learnedModelMirror => exact completes_next _
  | cqaAlarmDelayReached => exact completes_guard _ _ _
  | cqaClearTimeReached => exact completes_guard _ _ _
  | cqaUnprovenDelayReached => exact completes_next _
  | capabilityEnvelopePeriod => exact completes_next _
  | capabilityEnvelopeEnd => exact completes_next _
  | henSubHiWrite => exact completes_guard _ _ _
  | henProblemEnd => exact completes_guard _ _ _
  | henSuspensionPoint => exact completes_guard _ _ _
  | henJobDeadline => exact completes_guard _ _ _
  | henQCancelWrite => exact completes_guard _ _ _
  | henQEnClear => exact completes_guard _ _ _
  | henQPop => exact completes_guard _ _ _
  | henClusterEnClear => exact completes_guard _ _ _
  | henSramError => exact completes_guard _ _ _
  | henClusterStop => exact completes_guard _ _ _
  | henDrainDone => exact completes_guard _ _ _
  | sequencerSlice => exact completes_guard _ _ _
  | thrSealWrite => exact completes_guard _ _ _
  | thrShadowWrite => exact completes_guard _ _ _
  | thrWithdraw => exact completes_guard _ _ _
  | thrCtrlClear => exact completes_guard _ _ _
  | thrCtrlEnWrite => exact completes_guard _ _ _
  | thrAuthWrite => exact completes_next _
  | thrAoHoldExpiry => exact completes_thrAoHoldExpiry _ _
  | thrFeedbackFrame => exact completes_guard _ _ _
  | thrFeedback2Frame => exact completes_guard _ _ _
  | thrFbTimeout => exact completes_guard _ _ _
  | thrAzFollowExpiry => exact completes_guard _ _ _
  | thrAzWrongDirExpiry => exact completes_guard _ _ _
  | thrRudderFollowExpiry => exact completes_guard _ _ _
  | thrTHighExpiry => exact completes_guard _ _ _
  | thrTDevExpiry => exact completes_guard _ _ _
  | thrAngDisagreeExpiry => exact completes_guard _ _ _
  | thrNotReadyRecovery => exact completes_guard _ _ _
  | thrDegradedRecovery => exact completes_guard _ _ _
  | satEpoch => exact completes_next _
  | satSecondChecks => exact completes_next _
  | satSignalAcquired => exact completes_next _
  | satChannelRelease => exact completes_next _
  | rtcmFrame => exact completes_rtcmFrame _ _ _ _
  | antOpenDetect => exact completes_guard _ _ _
  | antShort => exact completes_guard _ _ _
  | antBiasRetry => exact completes_guard _ _ _
  | antGeometryExclude => exact completes_guard _ _ _
  | satHoldoverEntry => exact completes_next _
  | satReturnConfirmed => exact completes_next _
  | satTimeStep => exact completes_next _
  | satSlewComplete => exact completes_next _
  | satPps => exact completes_next _
  | satWake => exact completes_next _
  | satWakeEnd => exact completes_next _
  | satRetainedWrite => exact completes_next _
  | ptpSyncReceived => exact completes_guard _ _ _
  | ptpDelayResponse => exact completes_guard _ _ _
  | ptpAnnounceReceived => exact completes_guard _ _ _
  | ptpAnnounceTimeout => exact completes_guard _ _ _
  | ptpSyncTimeout => exact completes_guard _ _ _
  | ppsInEdge => exact completes_next _
  | vcLock => exact completes_guard _ _ _
  | vcStep => exact completes_guard _ _ _
  | frameRevertTimer => exact completes_next _
  | fallbackReturnTimer => exact completes_guard _ _ _
  | tmuCtrlWrite => exact completes_next _
  | tmuIncrWrite => exact completes_next _
  | timeLoRead => exact completes_guard _ _ _
  | captureEvent => exact completes_guard _ _ _
  | captureEntryAged => exact completes_guard _ _ _
  | capFifoData0Read => exact completes_guard _ _ _
  | capFifoData1Read => exact completes_guard _ _ _
  | pulseArm => exact completes_guard _ _ _
  | pulseDisarm => exact completes_guard _ _ _
  | pulseOutputFire => exact completes_guard _ _ _
  | pulseWidthEnd => exact completes_guard _ _ _
  | producerWrite => exact completes_guard _ _ _
  | producerTimeout => exact completes_guard _ _ _
  | pointTimeout => exact completes_guard _ _ _
  | pntWrGo => exact completes_next _
  | heartbeatSend => exact completes_next _
  | heartbeatReceived => exact completes_guard _ _ _
  | heartbeatMissCheck => exact completes_next _
  | leaseGrantReceived => exact completes_guard _ _ _
  | leaseHolderExpiry => exact completes_next _
  | leaseExpiryW => exact completes_next _
  | leaseGuardEnd => exact completes_next _
  | takeoverCheckEnd => exact completes_next _
  | rotationRelease => exact completes_next _
  | roleRelayFaultDetect => exact completes_guard _ _ _
  | rotateDueReached => exact completes_next _
  | uidStrapChange => exact completes_guard _ _ _
  | safeInputEdge => exact completes_guard _ _ _
  | testPulseCheck => exact completes_guard _ _ _
  | discrepancyExpiry => exact completes_guard _ _ _
  | safePCycle => exact completes_next _
  | safeWatchdogExpiry => exact completes_next _
  | safePathDisagree => exact completes_next _
  | safePLockstepMismatch => exact completes_next _
  | processStopRequest => exact completes_next _
  | stsDelayExpiry => exact completes_guard _ _ _
  | stsOffPulse => exact completes_guard _ _ _
  | brakeSetSpeedReached => exact completes_guard _ _ _
  | brakeTestDue => exact completes_guard _ _ _
  | brakeTestThrust => exact completes_guard _ _ _
  | brakeTestThrustEnd => exact completes_guard _ _ _
  | brakeTestResult => exact completes_guard _ _ _
  | sltViolation => exact completes_guard _ _ _
  | safetyOutputFault => exact completes_guard _ _ _
  | safetyEncoderFault => exact completes_guard _ _ _
  | ssupLow => exact completes_next _
  | safetyStartTest => exact completes_next _
  | fioInputEdge => exact completes_guard _ _ _
  | fioWireBreak => exact completes_guard _ _ _
  | fioWireBreakClear => exact completes_guard _ _ _
  | fioOutputSample => exact completes_guard _ _ _
  | fioOvercurrentRetry => exact completes_guard _ _ _
  | fioGroupOverload => exact completes_guard _ _ _
  | fioSupplyStateChange => exact completes_guard _ _ _
  | fioRestoreSwitch => exact completes_guard _ _ _
  | fioPulseEnd => exact completes_guard _ _ _
  | canFrameReceived => exact completes_guard _ _ _
  | canTimedFrameDue => exact completes_guard _ _ _
  | canTxAttemptEnd => exact completes_guard _ _ _
  | canFrameExpiry => exact completes_guard _ _ _
  | canBusOff => exact completes_guard _ _ _
  | canRecoverComplete => exact completes_guard _ _ _
  | canRecoverTimeout => exact completes_guard _ _ _
  | canDetectDwellEnd => exact completes_guard _ _ _
  | canNodeForget => exact completes_guard _ _ _
  | serialSentence => exact completes_guard _ _ _
  | serialBinaryFrame => exact completes_guard _ _ _
  | iec450Datagram => exact completes_iec450Datagram _ _ _ _ _ _
  | serialTxSentence => exact completes_guard _ _ _
  | dmaStart => exact completes_guard _ _ _
  | dmaEnClear => exact completes_guard _ _ _
  | dmaTrigger => exact completes_guard _ _ _
  | dmaDescriptorEnd => exact completes_guard _ _ _
  | logRecordSubmit => exact completes_next _
  | logRecordRelease => exact completes_next _
  | logSnapshotCapture => exact completes_logSnapshotCapture _ _ _
  | logFreezeTimeout => exact completes_next _
  | logRdGo => exact completes_next _
  | logOptimeLoRead => exact completes_next _
  | supplyLowEntry => exact completes_next _
  | supplyNormalReturn => exact completes_next _
  | powerDown => exact completes_next _
  | vlInputLost => exact completes_next _
  | supplyHigh => exact completes_next _
  | resetNAssert => exact completes_next _
  | resetNRelease => exact completes_guard _ _ _
  | resetHeld => exact completes_next _
  | coldStart => exact completes_guard _ _ _
  | restoreComplete => exact completes_next _
  | keepCounterSave => exact completes_next _
  | timeKeeperCalibrate => exact completes_next _
  | baseplateHot => exact completes_next _
  | keepExitTimer => exact completes_next _
  | holdGrantTimeout => exact completes_next _
  | holdReleaseComplete => exact completes_next _
  | cfgEffectFrame => exact completes_next _
  | imgTrialEnd => exact completes_guard _ _ _
  | domainStartFailure => exact completes_guard _ _ _
  | journalEntryMirrored => exact completes_next _
  | wardenHoldStateReceived => exact completes_next _
  | safeResetForwarded => exact completes_next _
  | ssupRestored => exact completes_next _
  | vlInputRestored => exact completes_guard _ _ _
  | ppsInLost => exact completes_next _
  | canReceiveError => exact completes_guard _ _ _
  | satSignalLost => exact completes_next _
  | ptpTransmitInterval => exact completes_guard _ _ _
  | partitionStartCommand => exact completes_next _

/-- Settles O5, by the guard of each row's operand. -/
theorem wellFormedCommandsComplete : Obligations.WellFormedCommandsComplete := by
  unfold Obligations.WellFormedCommandsComplete
  exact exec_completes

end Sys2Proof.Machine
end

section
/-!
PROOF. What the refutations below compute: the next state of a command, and a unit to start from.
-/
namespace Sys2Proof.Machine

/-- The next state a meaning answers, where it answers one. -/
def Res.state? (r : Res) : Option State :=
  match r with
  | .next u => some u
  | _ => none

theorem Res.state?_next {r : Res} {u : State} (h : r = .next u) : Res.state? r = some u := by rw [h]; rfl

/-- A reply that a command gives has left the unit. -/
theorem Does.sent {c : Instr} {s v : State} {e : Emit} (h : Does c s e v) : e ∈ ((Res.state? (exec c s)).map State.sent).getD [] := by
  obtain ⟨u, hnext, -, hsent⟩ := h
  rw [Res.state?_next hnext]
  exact hsent

/-- A service session with every right. -/
def serviceSession : Session := { num := 1, client := 7, role := .service, auth := true, iface := .svc }

/-- A unit with every domain powered, that holds pair authority and has one session open. -/
def openUnit : State :=
  { State.reset with keep.powered := 4095, cmd.sessions := [serviceSession], cmd.pairAuth := true, cmd.replayDone := true, now := 10 }

end Sys2Proof.Machine
end

section
/-!
PROOF. The queries (O9, O10). A query's reply reads the state its command began in, which differs from the state at the command's instant in what was
sent, the recorder, the alarms and the sessions with their journal (`OnlyCmd`); a reply that reads none of these is the one of the statement.
-/
namespace Sys2Proof.Machine

/-! ### Commands by the reply they give -/

section
variable {o : OpDef} {t q : Nat} {x : Session} {p r : List Byte} {c : Instr} {s v : State}

/-- A command whose effect leaves the sessions: it does that effect, and replies what its effect answers. -/
theorem does_began (hrow : exec c s = opRow o t x.num q p s) (h : s.takes o t x q false p = true)
    (hdefer : o.defer (s.began o t x q false p) p = false)
    (heffect : OnlyCmd v (o.run (s.began o t x q false p) x.num q p).1)
    (htalks : Talks s x (o.run (s.began o t x q false p) x.num q p).1) :
    Does c s (s.replyOf x q o.code stDone (o.run (s.began o t x q false p) x.num q p).2) v := by
  obtain ⟨hs, hr, hc⟩ := State.takes_iff h
  obtain ⟨u, hnext, honly, hsent⟩ := opRow_done hs hr hc hdefer htalks
  exact ⟨u, hrow.trans hnext, onlyCmd_trans heffect honly, hsent⟩

/-- A query by what it replies in the state it began in. -/
theorem does_query (hrow : exec c s = opRow o t x.num q p s) (h : s.takes o t x q false p = true)
    (hdefer : o.defer (s.began o t x q false p) p = false)
    (hrun : o.run (s.began o t x q false p) x.num q p = (s.began o t x q false p, r)) :
    Does c s (s.replyOf x q o.code stDone r) (s.arrive t) := by
  obtain ⟨u, hnext, honly, hsent⟩ := opRow_query h ⟨hdefer, by rw [hrun]⟩
  rw [hrun] at hsent
  exact ⟨u, hrow.trans hnext, honly, hsent⟩

/-- A query whose reply reads nothing that the acceptance of a command changes. -/
theorem does_query_of_onlyCmd (hrow : exec c s = opRow o t x.num q p s) (h : s.takes o t x q false p = true)
    (hrun : ∀ b, OnlyCmd (s.arrive t) b → o.defer b p = false ∧ o.run b x.num q p = (b, r)) :
    Does c s (s.replyOf x q o.code stDone r) (s.arrive t) := by
  obtain ⟨hs, hr, -⟩ := State.takes_iff h
  obtain ⟨hdefer, hr⟩ := hrun _ (onlyCmd_began hs (s.ready_iff hr).1.2.2.1 o t q false p)
  exact does_query hrow h hdefer hr

/-- A command that is DONE at once, by its effect. -/
theorem does_effect (hrow : exec c s = opRow o t x.num q p s) (h : s.takes o t x q false p = true)
    (hrun : ∀ b, OnlyCmd (s.arrive t) b → o.defer b p = false ∧ OnlyCmd v (o.run b x.num q p).1 ∧
      (o.run b x.num q p).1.cmd = b.cmd ∧ (o.run b x.num q p).1.red = b.red ∧ (o.run b x.num q p).2 = r) :
    Does c s (s.replyOf x q o.code stDone r) v := by
  obtain ⟨u, hnext, honly, hsent⟩ := opRow_effect h hrun
  exact ⟨u, hrow.trans hnext, honly, hsent⟩

/-- A command that is ACCEPTED, by its effect. -/
theorem does_accepted (hrow : exec c s = opRow o t x.num q p s) (h : s.takes o t x q true p = true)
    (hrun : ∀ b, OnlyCmd (s.arrive t) b → OnlyCmd v (o.run b x.num q p).1 ∧ (o.run b x.num q p).1.cmd = b.cmd ∧
      (o.run b x.num q p).1.sent = b.sent) :
    Does c s (s.replyOf x q o.code stAccepted []) v := by
  obtain ⟨u, hnext, honly, hsent⟩ := opRow_acceptedEffect h hrun
  exact ⟨u, hrow.trans hnext, honly, hsent⟩

end

/-- What holds of a state in any sessions, recorder and alarms holds of every state that differs from it in them. -/
theorem OnlyCmd.all {a : State} {P : State → Prop} (H : ∀ e l m c, P { a with sent := e, log := l, alarms := m, cmd := c }) : ∀ b, OnlyCmd a b → P b := by
  rintro _ ⟨e, l, m, c, rfl⟩
  exact H e l m c

/-- An operation that neither reads nor changes what was sent, the recorder, the alarms and the sessions. -/
def Beside (F : State → State) : Prop :=
  ∀ a e l m c, F { a with sent := e, log := l, alarms := m, cmd := c } = { F a with sent := e, log := l, alarms := m, cmd := c }

theorem Beside.comp {F G : State → State} (hF : Beside F) (hG : Beside G) : Beside (fun u => G (F u)) := by
  intro a e l m c
  dsimp only
  rw [hF, hG]

theorem beside_ite {C : State → Prop} [∀ u, Decidable (C u)] {F G : State → State} (hF : Beside F) (hG : Beside G)
    (hC : ∀ a e l m c, C { a with sent := e, log := l, alarms := m, cmd := c } ↔ C a) : Beside (fun u => if C u then F u else G u) := by
  intro a e l m c
  dsimp only
  by_cases h : C a
  · rw [if_pos h, if_pos ((hC a e l m c).2 h), hF]
  · rw [if_neg h, if_neg (mt (hC a e l m c).1 h), hG]

/-- An operation beside them takes states that differ in them alone to such states. -/
theorem OnlyCmd.map {a b : State} {F : State → State} (h : OnlyCmd a b) (hF : Beside F) : OnlyCmd (F a) (F b) := by
  obtain ⟨e, l, m, c, rfl⟩ := h
  exact ⟨e, l, m, c, hF a e l m c⟩

theorem Beside.cmd {F : State → State} (hF : Beside F) (u : State) : (F u).cmd = u.cmd := by
  have h := congrArg State.cmd (hF u u.sent u.log u.alarms u.cmd)
  exact h

theorem Beside.sent {F : State → State} (hF : Beside F) (u : State) : (F u).sent = u.sent := by
  have h := congrArg State.sent (hF u u.sent u.log u.alarms u.cmd)
  exact h

/-- A record or an alarm beside what a command does. -/
theorem OnlyCmd.log {a b u : State} (h : OnlyCmd a b) (k : OnlyLog b u) : OnlyCmd a u := onlyCmd_trans h (onlyCmd_of_onlyLog k)

end Sys2Proof.Machine
end

section
/-!
PROOF. The state a command begins in, and the queries (O9, O10).
-/
namespace Sys2Proof.Machine
variable {o : OpDef} {t q : Nat} {x : Session} {p : List Byte} {acc : Bool} {s : State}

theorem State.began_onlyCmd (h : s.takes o t x q acc p = true) : OnlyCmd (s.arrive t) (s.began o t x q acc p) := by
  obtain ⟨hs, hr, -⟩ := State.takes_iff h
  exact onlyCmd_began hs (s.ready_iff hr).1.2.2.1 o t q acc p

/-- The parts of a session that the acceptance of one of its commands leaves. -/
structure SameOpen (y z : Session) : Prop where
  num : z.num = y.num
  role : z.role = y.role
  pair : z.pair = y.pair
  e : z.e = y.e
  held : z.held = y.held
  dormant : z.dormant = y.dormant
  closing : z.closing = y.closing

/-- What the acceptance of a command that is DONE at once leaves of the sessions and the journal's counters. -/
theorem State.began_cmd (s : State) (o : OpDef) (t : Nat) (x : Session) (q : Nat) (p : List Byte) :
    ∃ (g : Session → Session) (j : List JEntry) (jt : Nat), (∀ y, SameOpen y (g y)) ∧
      (s.began o t x q false p).cmd = { s.cmd with
        sessions := s.cmd.sessions.map g, journal := j, jnum := (s.cmd.jnum + 1) % 2 ^ 32, jtail := jt } := by
  unfold State.began
  simp only [Bool.false_eq_true, if_false]
  unfold State.pushEntryJ
  simp only [State.modEntry, (onlyLog_journalLow _).cmd, State.modSess, State.asked, State.arrive_cmd, List.map_map]
  refine ⟨_, _, _, fun y => ?_, rfl⟩
  dsimp only [Function.comp]
  split <;> exact ⟨rfl, rfl, rfl, rfl, rfl, rfl, rfl⟩

/-! ### What the queries read of the sessions -/

theorem State.began_sess (h : s.takes o t x q false p = true) : ∃ y, (s.began o t x q false p).sess? x.num = some y ∧ SameOpen x y := by
  obtain ⟨g, j, jt, hg, hcmd⟩ := s.began_cmd o t x q p
  obtain ⟨hs, -, -⟩ := State.takes_iff h
  refine ⟨g x, ?_, hg x⟩
  unfold State.sess? at hs ⊢
  have hnum : ((fun y : Session => decide (y.num = x.num)) ∘ g) = fun y => decide (y.num = x.num) := funext fun y => by simp [(hg y).num]
  rw [hcmd, List.find?_map, hnum, hs]
  rfl

theorem State.began_openCount : (s.began o t x q false p).openCount = s.openCount := by
  obtain ⟨g, j, jt, hg, hcmd⟩ := s.began_cmd o t x q p
  have hopen : ((fun y : Session => !y.dormant && !y.closing) ∘ g) = fun y => !y.dormant && !y.closing :=
    funext fun y => by simp [(hg y).dormant, (hg y).closing]
  simp [State.openCount, hcmd, List.filter_map, hopen]

theorem State.began_dormantCount : (s.began o t x q false p).dormantCount = s.dormantCount := by
  obtain ⟨g, j, jt, hg, hcmd⟩ := s.began_cmd o t x q p
  have hdormant : ((fun y : Session => y.dormant && !y.closing) ∘ g) = fun y => y.dormant && !y.closing :=
    funext fun y => by simp [(hg y).dormant, (hg y).closing]
  simp [State.dormantCount, hcmd, List.filter_map, hdormant]

theorem State.began_outstanding (n : Nat) : (s.began o t x q false p).outstanding n = s.outstanding n := by
  obtain ⟨g, j, jt, -, hcmd⟩ := s.began_cmd o t x q p
  simp [State.outstanding, hcmd]

theorem opSessionQuery_run {b : State} {n : Nat} {y : Session} (hy : b.sess? n = some y) :
    opSessionQuery.run b n q p = (b, leBytes 4 y.e ++ leBytes 4 y.held.length ++ leBytes 4 (b.outstanding n) ++
      [byte y.role.code, byte (b2n (!y.pair)), 0, 0] ++ leBytes 4 b.openCount ++ leBytes 4 b.dormantCount) := by
  unfold opSessionQuery
  dsimp only
  rw [hy]

theorem sessionQuery_does (h : s.takes opSessionQuery t x q false p = true) :
    Does (.sessionQuery t x.num q p) s (s.replyOf x q 0x0104 stDone (leBytes 4 x.e ++ leBytes 4 0 ++ leBytes 4 (s.outstanding x.num) ++
      [byte x.role.code, byte (b2n (!x.pair)), 0, 0] ++ leBytes 4 s.openCount ++ leBytes 4 s.dormantCount)) (s.arrive t) := by
  obtain ⟨y, hy, hsame⟩ := State.began_sess h
  obtain ⟨-, hr, -⟩ := State.takes_iff h
  have hheld : x.held = [] := (s.ready_iff hr).2.2.2.2.2.2
  refine does_query (o := opSessionQuery) rfl h rfl ?_
  rw [opSessionQuery_run hy]
  simp only [hsame.e, hsame.held, hheld, hsame.role, hsame.pair, List.length_nil, State.began_outstanding, State.began_openCount,
    State.began_dormantCount]

/-! ### Queries that also act -/

theorem State.surveySync_onlyPnt (s : State) : s.surveySync = { s with pnt := s.surveySync.pnt } := by
  unfold State.surveySync
  dsimp only
  split <;> rfl

/-- The synchronised point table is the only other thing GET_SURVEY changes. R364. -/
theorem getSurvey_does (h : s.takes opGetSurvey t x q false p = true) :
    Does (.getSurvey t x.num q p) s
      (s.replyOf x q 0x0101 stDone (((s.began opGetSurvey t x q false p).surveySync.survey.drop (fld p 0 4)).take 1400))
      { s.arrive t with pnt := (s.began opGetSurvey t x q false p).surveySync.pnt } := by
  refine does_began (o := opGetSurvey) rfl h rfl ?_ ?_
  · show OnlyCmd _ (s.began opGetSurvey t x q false p).surveySync
    obtain ⟨_, _, _, _, hb⟩ := State.began_onlyCmd h
    rw [State.surveySync_onlyPnt, hb]
    exact ⟨_, _, _, _, rfl⟩
  · show Talks s x (s.began opGetSurvey t x q false p).surveySync
    have hbegan : Talks s x (s.began opGetSurvey t x q false p) := talks_began (State.takes_iff h).1
    rw [State.surveySync_onlyPnt]
    exact talks_same hbegan rfl rfl rfl

/-! ### What a failing log memory changes -/

theorem OnlyLog.setLog {s u : State} (h : OnlyLog s u) (l : LogSt) : OnlyLog s { u with log := l } := onlyLog_trans h ⟨_, _, rfl⟩

theorem onlyLog_writeHeld (s : State) : OnlyLog s s.writeHeld :=
  onlyLog_foldl ((onlyLog_refl s).setLog _) fun u e h => onlyLog_trans h (onlyLog_storeRec u e.rec_)

theorem onlyLog_fullCheck (s : State) : OnlyLog s s.fullCheck := onlyLog_ite (onlyLog_raiseAlarm _ _ _ _) (onlyLog_refl _)

theorem onlyLog_dropAlarm (s : State) (e : EvCode) (i : Nat) : OnlyLog s (s.dropAlarm e i) := ⟨_, _, rfl⟩

theorem onlyLog_logRelease (s : State) (reason : Nat) : OnlyLog s (s.logRelease reason) := by
  unfold State.logRelease
  refine onlyLog_trans ?_ (onlyLog_fullCheck _)
  refine onlyLog_trans ?_ (onlyLog_submitRec _ _ _ _ _)
  refine onlyLog_trans ?_ (onlyLog_dropAlarm _ _ _)
  exact onlyLog_foldl ((onlyLog_writeHeld s).setLog _) fun u x h => h.setLog _

theorem onlyLog_logFail (s : State) (slot : Nat) (r : Word) (cause : Nat) (pending : Option LogRec) :
    OnlyLog s (s.logFail slot r cause pending) := by
  unfold State.logFail
  split
  · exact onlyLog_refl s
  · extract_lets +onlyGivenNames frozen l s1 s2 rc r4 s4 s5
    have h1 : OnlyLog s s1 := (onlyLog_refl s).setLog _
    have h2 : OnlyLog s s2 := by
      unfold s2
      split
      · exact onlyLog_trans h1 (onlyLog_storeSpill _ _)
      · exact h1
    have h4 : OnlyLog s s4 := onlyLog_trans h2 (onlyLog_trans (onlyLog_takeSeq s2) (onlyLog_storeSpill _ _))
    have h5 : OnlyLog s s5 := onlyLog_trans h4 (onlyLog_raiseAlarm _ _ _ _)
    exact onlyLog_ite (onlyLog_trans h5 (onlyLog_logRelease _ _)) h5

theorem onlyLog_logReadCheck (s : State) (rs : List LogRec) : OnlyLog s (s.logReadCheck rs) := by
  unfold State.logReadCheck
  split
  · exact onlyLog_refl s
  · exact onlyLog_logFail _ _ _ _ _

/-- Reading the log changes nothing but the recorder, where a record read is unsound. R541. -/
theorem onlyLog_opLogRead (s : State) (n : Nat) : OnlyLog s (opLogRead.run s n q p).1 :=
  onlyLog_ite (onlyLog_logReadCheck _ _) (onlyLog_refl s)

theorem logRead_does (h : s.takes opLogRead t x q false p = true) :
    Does (.logRead t x.num q p) s (s.replyOf x q 0x0902 stDone (opLogRead.run (s.began opLogRead t x q false p) x.num q p).2) (s.arrive t) :=
  have honly := onlyLog_opLogRead (q := q) (p := p) (s.began opLogRead t x q false p) x.num
  does_began (o := opLogRead) rfl h rfl (onlyCmd_trans (State.began_onlyCmd h) (onlyCmd_of_onlyLog honly))
    (talks_onlyLog (talks_began (State.takes_iff h).1) honly)

/-! ### Replies of a fixed layout -/

@[simp] theorem length_leBytes (n v : Nat) : (leBytes n v).length = n := by
  induction n generalizing v with
  | zero => rfl
  | succ n ih => simp [leBytes, ih]

@[simp] theorem length_bI (i : Int) : (bI i).length = 4 := length_leBytes _ _

@[simp] theorem length_bF (r : Rat) : (bF r).length = 4 := length_leBytes _ _

/-- A slice that lies between what stands before it and behind it. -/
theorem slice_append_middle (a b c : List Byte) : slice a.length b.length (a ++ (b ++ c)) = b := by
  simp [slice]

/-- TIME_QUERY's reply is 48 bytes; the selected clock is its first byte and the frame's time stands at offset 8. R331. -/
theorem opTimeQuery_layout (n : Nat) :
    (opTimeQuery.run s n q p).2.length = 48 ∧ slice 0 1 (opTimeQuery.run s n q p).2 = [byte s.tmu.selVc] ∧
      slice 8 8 (opTimeQuery.run s n q p).2 = leBytes 8 s.sel := by
  refine ⟨by simp [opTimeQuery], by simp [opTimeQuery, slice], ?_⟩
  have hmid := slice_append_middle
    ([byte s.tmu.selVc, byte (b2n (decide (s.selDAt s.raw ≠ 0)) + 2 * b2n (decide (s.tmu.force ≠ 0))), 0, 0] ++ bI s.selDiff)
    (leBytes 8 s.sel)
  simp only [List.length_append, length_bI, length_leBytes, List.length_cons, List.length_nil] at hmid
  simp only [opTimeQuery, List.append_assoc] at hmid ⊢
  exact hmid _

theorem timeQuery_does (h : s.takes opTimeQuery t x q false p = true) :
    Does (.timeQuery t x.num q p) s (s.replyOf x q 0x0700 stDone (opTimeQuery.run (s.began opTimeQuery t x q false p) x.num q p).2) (s.arrive t) ∧
    (opTimeQuery.run (s.began opTimeQuery t x q false p) x.num q p).2.length = 48 ∧
    slice 0 1 (opTimeQuery.run (s.began opTimeQuery t x q false p) x.num q p).2 = [byte s.tmu.selVc] ∧
    slice 8 8 (opTimeQuery.run (s.began opTimeQuery t x q false p) x.num q p).2 = leBytes 8 (s.arrive t).sel := by
  obtain ⟨hlength, hclock, htime⟩ := opTimeQuery_layout (s := s.began opTimeQuery t x q false p) (q := q) (p := p) x.num
  obtain ⟨_, _, _, _, hb⟩ := State.began_onlyCmd h
  refine ⟨does_query (o := opTimeQuery) rfl h rfl rfl, hlength, hclock.trans ?_, htime.trans ?_⟩
  · rw [hb]; rfl
  · rw [hb]; rfl

/-- A list of entries of one length. -/
theorem length_flatMap_of_forall {α β : Type} {f : α → List β} {c : Nat} (h : ∀ x, (f x).length = c) (l : List α) :
    (l.flatMap f).length = c * l.length := by
  induction l with
  | nil => rfl
  | cons x l ih => rw [List.flatMap_cons, List.length_append, h, ih, List.length_cons, Nat.mul_succ, Nat.add_comm]

/-- CAN_NODE_LIST lists at most 40 nodes, 16 bytes each. R498. -/
theorem opCanNodeList_length (n : Nat) :
    (opCanNodeList.run s n q p).2.length = 4 + 16 * min 40 ((s.port (fld p 0 1)).nodes.length - fld p 1 1) := by
  have hone : ∀ x : CanNode, ([byte x.node, byte (if s.now < x.last + 1000000000 then 0 else 1)] ++
      leBytes 2 (x.recent.filter (fun a => s.now < a + 1000000000)).length ++ leBytes 4 ((s.now - x.last) / 1000000) ++
      leBytes 4 x.lastId ++ leBytes 4 ((s.now - x.first) / 1000000000)).length = 16 := by
    intro x
    simp only [List.length_append, length_leBytes, List.length_cons, List.length_nil]
  simp only [opCanNodeList, zeros, List.length_append, List.length_cons, List.length_nil, List.length_replicate, length_flatMap_of_forall hone,
    List.length_take, List.length_drop]

/-! ### The statements -/

/-- Settles O9. The queries of the unit and of the sections each read the state they began in; what they read of the sessions, the alarms and the
recorder is named by the lemmas above. -/
theorem systemAndSafetyQueries : Obligations.SystemAndSafetyQueries := by
  unfold Obligations.SystemAndSafetyQueries
  constructor
  · intro t q p s x
    refine ⟨fun h => ?_, fun h => ?_, sessionQuery_does, fun h => ⟨?_, ?_⟩, fun h => ?_, getSurvey_does⟩
    · exact does_query_of_onlyCmd (o := opSysQuery) rfl h (OnlyCmd.all fun _ _ _ _ => ⟨rfl, rfl⟩)
    · exact does_query_of_onlyCmd (o := opKeepalive) rfl h (OnlyCmd.all fun _ _ _ _ => ⟨rfl, rfl⟩)
    · exact does_query (o := opJournalQuery) rfl h rfl rfl
    · obtain ⟨g, j, jt, -, hcmd⟩ := s.began_cmd opJournalQuery t x q p
      rw [hcmd]
    · exact does_query_of_onlyCmd (o := opCfgQuery) rfl h (OnlyCmd.all fun _ _ _ _ => ⟨rfl, rfl⟩)
  · intro t q p s x
    refine ⟨fun h => ?_, logRead_does, fun h => ?_, fun h => ?_, fun h => ?_, fun h => ?_, fun h => ?_⟩
    · exact does_query_of_onlyCmd (o := opLogCodes) rfl h (OnlyCmd.all fun _ _ _ _ => ⟨rfl, rfl⟩)
    · exact does_query (o := opLogSnapRead) rfl h rfl rfl
    · exact does_query (o := opSafeQuery) rfl h rfl rfl
    · exact does_query_of_onlyCmd (o := opSafeCfgRead) rfl h (OnlyCmd.all fun _ _ _ _ => ⟨rfl, rfl⟩)
    · exact does_query_of_onlyCmd (o := opRedQuery) rfl h (OnlyCmd.all fun _ _ _ _ => ⟨rfl, rfl⟩)
    · refine does_query (o := opSatQuery) rfl h rfl ?_
      obtain ⟨_, _, _, _, hb⟩ := State.began_onlyCmd h
      rw [hb]
      rfl

/-- Settles O10. Only CQA_QUERY's flags and the layouts of TIME_QUERY and CAN_NODE_LIST need more than reading the reply off its definition. -/
theorem controlAndFieldQueries : Obligations.ControlAndFieldQueries := by
  unfold Obligations.ControlAndFieldQueries
  constructor
  · intro t q p s x
    refine ⟨fun h => ?_, fun h => ?_, fun h => ?_, fun h => ?_, fun h => ?_, fun h => ?_, fun h => ?_⟩
    · exact does_query_of_onlyCmd (o := opHoldStatus) rfl h (OnlyCmd.all fun _ _ _ _ => ⟨rfl, rfl⟩)
    · exact does_query_of_onlyCmd (o := opRefQuery) rfl h (OnlyCmd.all fun _ _ _ _ => ⟨rfl, rfl⟩)
    · exact does_query_of_onlyCmd (o := opAlcQuery) rfl h (OnlyCmd.all fun _ _ _ _ => ⟨rfl, rfl⟩)
    · exact does_query_of_onlyCmd (o := opThrQuery) rfl h (OnlyCmd.all fun _ _ _ _ => ⟨rfl, rfl⟩)
    · refine does_query (o := opCqaQuery) rfl h rfl ?_
      obtain ⟨_, _, _, _, hb⟩ := State.began_onlyCmd h
      rw [hb]
      rfl
    · exact does_query_of_onlyCmd (o := opCqaCaseQuery) rfl h (OnlyCmd.all fun _ _ _ _ => ⟨rfl, rfl⟩)
    · exact does_query_of_onlyCmd (o := opHenStatus) rfl h (OnlyCmd.all fun _ _ _ _ => ⟨rfl, rfl⟩)
  · intro t q p s x
    refine ⟨timeQuery_does, fun h => ?_, fun h => ⟨?_, ?_⟩, fun h => ?_, fun h => ?_, fun h => ?_, fun h => ?_⟩
    · exact does_query_of_onlyCmd (o := opCanQuery) rfl h (OnlyCmd.all fun _ _ _ _ => ⟨rfl, rfl⟩)
    · exact does_query_of_onlyCmd (o := opCanNodeList) rfl h (OnlyCmd.all fun _ _ _ _ => ⟨rfl, rfl⟩)
    · exact opCanNodeList_length x.num
    · exact does_query_of_onlyCmd (o := opSerQuery) rfl h (OnlyCmd.all fun _ _ _ _ => ⟨rfl, rfl⟩)
    · exact does_query_of_onlyCmd (o := opPointRead) rfl h (OnlyCmd.all fun _ _ _ _ => ⟨rfl, rfl⟩)
    · exact does_query_of_onlyCmd (o := opProducerList) rfl h (OnlyCmd.all fun _ _ _ _ => ⟨rfl, rfl⟩)
    · exact does_query_of_onlyCmd (o := opFioQuery) rfl h (OnlyCmd.all fun _ _ _ _ => ⟨rfl, rfl⟩)

end Sys2Proof.Machine
end

section
/-!
PROOF. The commands that wait for a fence and those of the thruster channels (O12).
-/
namespace Sys2Proof.Machine
variable {t q : Nat} {x : Session} {p : List Byte} {s : State}

/-- The parts a command's row needs of what an effect leaves: the sessions and the unit's identity. -/
theorem thrClear_frame (b : State) (c : Nat) : (b.thrClear c).cmd = b.cmd ∧ (b.thrClear c).red = b.red := by
  unfold State.thrClear State.thrInService
  dsimp only
  split
  · exact ⟨rfl, rfl⟩
  · split <;> simp

theorem opThrClear_present (h : s.takes opThrClear t x q false p = true) : (s.tch (fld p 0 1)).present = 0 := by
  obtain ⟨-, -, hc⟩ := State.takes_iff h
  refine Classical.byContradiction fun hpresent => ?_
  simp only [opThrClear] at hc
  split at hc
  · exact absurd hc (by decide)
  · rw [if_pos (show ((s.asked t x).tch (fld p 0 1)).present ≠ 0 from hpresent)] at hc
    exact absurd hc (by decide)

/-- A channel's return to service: what it clears of the channel, beside its alarms. R264. -/
def ThrChan.served (c : ThrChan) : ThrChan := { c with
  state := 1, zero := false, rampOut := false, frozenAng := none, outRun := c.actRun, aoOff := [false, false, false]
  timers := { c.timers with clearSince := none } }

theorem onlyLog_thrInService (b : State) (c : Nat) : OnlyLog (b.modTch c ThrChan.served) (b.thrInService c) :=
  onlyLog_trans (onlyLog_clearAlarm _ _ _) (onlyLog_clearAlarm _ _ _)

/-- THR_CLEAR on a channel that is present: its faults, and its return to service where it is FAILED. R264. -/
theorem onlyCmd_thrClear {a b : State} (h : OnlyCmd a b) {c : Nat} (hpresent : (a.tch c).present = 0) :
    OnlyCmd (if (a.tch c).state = 6 then (a.modTch c (fun y => { y with fault := 0 })).modTch c ThrChan.served
      else a.modTch c (fun y => { y with fault := 0 })) (b.thrClear c) := by
  have hread : b.tch c = a.tch c := by obtain ⟨_, _, _, _, rfl⟩ := h; rfl
  have hfault : OnlyCmd (a.modTch c fun y => { y with fault := 0 }) ((b.modTch c fun y => { y with fault := 0 }).clearAlarm .THR_FAILED c) :=
    (h.map (F := fun u => u.modTch c fun y => { y with fault := 0 }) fun _ _ _ _ _ => rfl).log (onlyLog_clearAlarm _ _ _)
  unfold State.thrClear
  rw [hread, if_neg (c := (a.tch c).present ≠ 0) (by rw [hpresent]; decide)]
  dsimp only
  split
  · exact (hfault.map (F := fun u => u.modTch c ThrChan.served) fun _ _ _ _ _ => rfl).log (onlyLog_thrInService _ _)
  · exact hfault

/-- THR_CLEAR by what it leaves. R264. -/
theorem thrClear_does {v : State} (h : s.takes opThrClear t x q false p = true)
    (hv : v = if (s.tch (fld p 0 1)).state = 6 then ((s.arrive t).modTch (fld p 0 1) (fun y => { y with fault := 0 })).modTch (fld p 0 1) ThrChan.served
      else (s.arrive t).modTch (fld p 0 1) (fun y => { y with fault := 0 })) :
    Does (.thrClear t x.num q p) s (s.replyOf x q 0x0511 stDone []) v := by
  have hpresent : ((s.arrive t).tch (fld p 0 1)).present = 0 := by rw [State.arrive_tch, opThrClear_present h]
  refine does_effect (o := opThrClear) rfl h fun b hb => ⟨rfl, ?_, (thrClear_frame b _).1, (thrClear_frame b _).2, rfl⟩
  subst hv
  exact onlyCmd_thrClear hb hpresent

/-- Settles O12. The commands of the references, the estimator, allocation and analysis add to what waits for the fence and read nothing else. -/
theorem fenceAndChannelCommands : Obligations.FenceAndChannelCommands := by
  unfold Obligations.FenceAndChannelCommands
  constructor
  · intro t q p s x
    refine ⟨fun h => ?_, fun h => ?_, fun h => ?_, fun h => ?_, fun h => ?_, fun h => ?_, fun h => ?_, fun h => ?_⟩
    · exact does_effect (o := opRefSelect) rfl h (OnlyCmd.all fun _ _ _ _ => ⟨rfl, ⟨_, _, _, _, rfl⟩, rfl, rfl, rfl⟩)
    · exact does_effect (o := opRefRetry) rfl h (OnlyCmd.all fun _ _ _ _ => ⟨rfl, ⟨_, _, _, _, rfl⟩, rfl, rfl, rfl⟩)
    · exact does_effect (o := opEstReinit) rfl h (OnlyCmd.all fun _ _ _ _ => ⟨rfl, ⟨_, _, _, _, rfl⟩, rfl, rfl, rfl⟩)
    · exact does_effect (o := opAlcSelect) rfl h (OnlyCmd.all fun _ _ _ _ => ⟨rfl, ⟨_, _, _, _, rfl⟩, rfl, rfl, rfl⟩)
    · exact does_effect (o := opAlcSetBerm) rfl h (OnlyCmd.all fun _ _ _ _ => ⟨rfl, ⟨_, _, _, _, rfl⟩, rfl, rfl, rfl⟩)
    · exact does_effect (o := opAlcLearnReset) rfl h (OnlyCmd.all fun _ _ _ _ => ⟨rfl, ⟨_, _, _, _, rfl⟩, rfl, rfl, rfl⟩)
    · exact does_effect (o := opCqaCaseEnable) rfl h (OnlyCmd.all fun _ _ _ _ => ⟨rfl, ⟨_, _, _, _, rfl⟩, rfl, rfl, rfl⟩)
    · exact does_accepted (o := opCqaWhatif) rfl h (OnlyCmd.all fun _ _ _ _ => ⟨⟨_, _, _, _, rfl⟩, rfl, rfl⟩)
  · intro t q p s x
    refine ⟨fun h hstate => ?_, fun h hstate => ?_, fun h => ?_⟩
    · exact thrClear_does h (if_neg hstate).symm
    · exact thrClear_does h (if_pos hstate).symm
    · exact does_effect (o := opThrEnable) rfl h (OnlyCmd.all fun _ _ _ _ => ⟨rfl, ⟨_, _, _, _, rfl⟩, rfl, rfl, rfl⟩)

end Sys2Proof.Machine
end

section
/-!
PROOF. The commands of the time unit, the ports and the field channels (O13).
-/
namespace Sys2Proof.Machine
variable {t q : Nat} {x : Session} {p : List Byte} {s : State}

/-! ### Operations beside the sessions and the recorder -/

theorem beside_pulseArm (k : Nat) : Beside (fun u => u.pulseArm k) :=
  beside_ite (C := fun u => u.armPast k (u.pulse k).clk (u.pulse k).start = true) (fun _ _ _ _ _ => rfl) (fun _ _ _ _ _ => rfl)
    fun _ _ _ _ _ => Iff.rfl

theorem beside_putVc (n : Nat) (v : VcSt) : Beside (fun u => u.putVc n v) := by
  intro a e l m c
  unfold State.putVc
  dsimp only
  split <;> rfl

theorem beside_setVc (n : Nat) (v : VcSt) : Beside (fun u => u.setVc n v) :=
  Beside.comp (F := fun u => if u.tmu.selVc = n ∧ (u.vc n).rate ≠ v.rate then
      { u with tmu := { u.tmu with selD := u.selDAt u.raw, selDRaw := u.raw } } else u)
    (beside_ite (fun _ _ _ _ _ => rfl) (fun _ _ _ _ _ => rfl) fun _ _ _ _ _ => Iff.rfl) (beside_putVc n v)

theorem beside_modVc (n : Nat) (f : VcSt → VcSt) : Beside (fun u => u.modVc n f) :=
  fun a e l m c => beside_setVc n (f (a.vc n)) a e l m c

theorem beside_stepAllow (n : Nat) : Beside (fun u => u.stepAllow n) := by
  refine Beside.comp (F := fun u => { u with frame := { u.frame with stepAtFrame :=
    if u.tmu.selVc = n ∧ u.sys.mode = .hold ∧ (u.vc n).stepPending then some (u.frame.number + 2) else u.frame.stepAtFrame } })
    (G := fun u => u.modVc n (fun v => if v.stepPending then { v with stepAllowed := true, stepArm := true } else v)) (fun _ _ _ _ _ => rfl) ?_
  exact beside_modVc n _

theorem beside_fioFollow1 (k : Nat) : Beside (fun u => u.fioFollow1 k) :=
  beside_ite (C := fun u => ¬ u.fout k) (fun _ _ _ _ _ => rfl) (fun _ _ _ _ _ => rfl) fun _ _ _ _ _ => Iff.rfl

/-- FIO_PULSE commands the output on and notes its end. R464. -/
def State.fioPulsed (u : State) (n q : Nat) (p : List Byte) : State := u.modFch (fld p 0 1) (fun c => { c with
  cmd := true, pulse := some { session := n, seq := q, start := u.now, stop := u.now + fld p 4 4 * 1000000 } })

theorem beside_fioPulse (n q : Nat) (p : List Byte) : Beside (fun u => u.fioPulse n q p) :=
  Beside.comp (F := fun u => u.fioPulsed n q p) (fun _ _ _ _ _ => rfl) (beside_fioFollow1 (fld p 0 1))

/-! ### The commands -/

/-- TIME_STEP_ALLOW's two bits. R310. -/
theorem opTimeStepAllow_run (b : State) (n : Nat) : opTimeStepAllow.run b n q p =
    ((if (fld p 0 1).testBit 1 then (if (fld p 0 1).testBit 0 then b.stepAllow 0 else b).stepAllow 1
      else if (fld p 0 1).testBit 0 then b.stepAllow 0 else b), []) := rfl

/-- A command whose effect is an operation beside the sessions and the recorder. -/
theorem does_beside {o : OpDef} {c : Instr} {F : State → State} {r : List Byte} (hF : Beside F) (hred : ∀ u, (F u).red = u.red)
    (hrow : exec c s = opRow o t x.num q p s) (h : s.takes o t x q false p = true)
    (hrun : ∀ b, OnlyCmd (s.arrive t) b → o.defer b p = false ∧ o.run b x.num q p = (F b, r)) :
    Does c s (s.replyOf x q o.code stDone r) (F (s.arrive t)) := by
  refine does_effect hrow h fun b hb => ?_
  obtain ⟨hdefer, hb'⟩ := hrun b hb
  rw [hb']
  exact ⟨hdefer, hb.map hF, hF.cmd b, hred b, rfl⟩

theorem State.pulseDisarm_armed {u : State} {k : Nat} (h : (u.pulse k).armed = true) : OnlyLog (u.modPulse k (fun y => { y with
    armed := false, armAfter := false, abortedF := y.abortedF || !y.high })) (u.pulseDisarm k) := by
  unfold State.pulseDisarm
  dsimp only
  rw [if_neg (by simp [h])]
  exact onlyLog_disableRec _ _ _ _ _ _ _ _

theorem State.stepAllow_red (u : State) (n : Nat) : (u.stepAllow n).red = u.red := State.setVc_red _ _ _

theorem State.pulseArm_red (u : State) (k : Nat) : (u.pulseArm k).red = u.red := by
  unfold State.pulseArm
  dsimp only
  split <;> rfl

theorem onlyCmd_pulseDisarm {a b : State} (h : OnlyCmd a b) {k : Nat} (harmed : (a.pulse k).armed = true) :
    OnlyCmd (a.modPulse k (fun y => { y with armed := false, armAfter := false, abortedF := y.abortedF || !y.high })) (b.pulseDisarm k) := by
  have hb : (b.pulse k).armed = true := by obtain ⟨_, _, _, _, rfl⟩ := h; exact harmed
  refine OnlyCmd.log ?_ (State.pulseDisarm_armed hb)
  exact h.map (F := fun u => u.modPulse k fun y => { y with armed := false, armAfter := false, abortedF := y.abortedF || !y.high })
    fun _ _ _ _ _ => rfl

/-- TIME_PULSE's programming of an output. R325. -/
def State.pulseProgram (u : State) (p : List Byte) : State := u.modPulse (fld p 0 1) (fun y => { y with
  clk := fld p 2 1, pol := decide (fld p 3 1 = 1), start := fld p 4 8, period := fld p 12 4, width := fld p 16 4 })

theorem beside_pulseProgram : Beside (fun u => u.pulseProgram p) := fun _ _ _ _ _ => rfl

theorem opTimePulse_run (b : State) (n : Nat) : opTimePulse.run b n q p =
    if (fld p 1 1).testBit 1 then (b.pulseDisarm (fld p 0 1), [])
    else (if (fld p 1 1).testBit 0 then (b.pulseProgram p).pulseArm (fld p 0 1) else b.pulseProgram p, []) := rfl

theorem timePulse_disarm_does (h : s.takes opTimePulse t x q false p = true) (hbit : (fld p 1 1).testBit 1 = true)
    (harmed : (s.pulse (fld p 0 1)).armed = true) :
    Does (.timePulse t x.num q p) s (s.replyOf x q 0x0702 stDone []) ((s.arrive t).modPulse (fld p 0 1) (fun y => { y with
      armed := false, armAfter := false, abortedF := y.abortedF || !y.high })) := by
  have harmed' : ((s.arrive t).pulse (fld p 0 1)).armed = true := harmed
  refine does_effect (o := opTimePulse) rfl h fun b hb => ?_
  have hb' : (b.pulse (fld p 0 1)).armed = true := by obtain ⟨_, _, _, _, rfl⟩ := hb; exact harmed
  have hlog := State.pulseDisarm_armed hb'
  rw [opTimePulse_run, if_pos hbit]
  exact ⟨rfl, onlyCmd_pulseDisarm hb harmed', hlog.cmd, hlog.red, rfl⟩

/-- Settles O13. Each operation of the time unit and the field channels commutes with what the acceptance and the reply change. -/
theorem timeAndFieldCommands : Obligations.TimeAndFieldCommands := by
  unfold Obligations.TimeAndFieldCommands
  constructor
  · intro t q p s x
    refine ⟨fun h => ?_, fun h hdis harm => ?_, fun h hdis harm => ?_, timePulse_disarm_does, fun h hm => ?_, fun h hm => ?_, fun h hm => ?_⟩
    · exact does_effect (o := opTimeSelect) rfl h (OnlyCmd.all fun _ _ _ _ => ⟨rfl, ⟨_, _, _, _, rfl⟩, rfl, rfl, rfl⟩)
    · refine does_beside (o := opTimePulse) beside_pulseProgram (fun _ => rfl) rfl h fun b _ => ⟨rfl, ?_⟩
      rw [opTimePulse_run, hdis, harm]
      rfl
    · refine does_beside (o := opTimePulse) (beside_pulseProgram.comp (beside_pulseArm (fld p 0 1))) (fun u => State.pulseArm_red _ _) rfl h
        fun b _ => ⟨rfl, ?_⟩
      rw [opTimePulse_run, hdis, harm]
      rfl
    · refine does_beside (o := opTimeStepAllow) (beside_stepAllow 0) (fun u => u.stepAllow_red 0) rfl h fun b _ => ⟨rfl, ?_⟩
      rw [opTimeStepAllow_run, hm]
      rfl
    · refine does_beside (o := opTimeStepAllow) (beside_stepAllow 1) (fun u => u.stepAllow_red 1) rfl h fun b _ => ⟨rfl, ?_⟩
      rw [opTimeStepAllow_run, hm]
      rfl
    · refine does_beside (o := opTimeStepAllow) ((beside_stepAllow 0).comp (beside_stepAllow 1))
        (fun u => (State.stepAllow_red _ 1).trans (u.stepAllow_red 0)) rfl h fun b _ => ⟨rfl, ?_⟩
      rw [opTimeStepAllow_run, hm]
      rfl
  · intro t q p s x
    refine ⟨fun h => ?_, fun h => ⟨opRow_ended h, rfl⟩, fun h => ?_, fun h => ⟨opRow_ended h, rfl⟩, fun h => ⟨opRow_ended h, rfl⟩,
      fun h => ⟨opRow_ended h, rfl⟩⟩
    · exact does_accepted (o := opBusRecover) rfl h (OnlyCmd.all fun _ _ _ _ => ⟨⟨_, _, _, _, rfl⟩, rfl, rfl⟩)
    · exact does_accepted (o := opFioPulse) rfl h fun b hb =>
        ⟨hb.map (beside_fioPulse x.num q p), (beside_fioPulse x.num q p).cmd b, (beside_fioPulse x.num q p).sent b⟩

end Sys2Proof.Machine
end

section
/-!
PROOF. POINT_FORCE in the instant of a write (O14). A force takes its cycle before a write of the same instant (R33, R381 and log 115): it keeps that write
behind itself and notes the point as it stood before. The third clause of the statement says that a force of an unforced point always keeps nothing.
-/
namespace Sys2Proof.Machine

/-- A unit in which the configured point 32768 has been written in the present instant. -/
def justWritten : State :=
  State.producerWrite { openUnit with cfg.given := [((.PNT_TYPE, 32768), 2)] } 32768 5 10 qGood 0xFFFD

/-- POINT_FORCE of point 32768 to 0. -/
def forceParams : List Byte := leBytes 4 32768 ++ List.replicate 12 0

/-- Refutes O14: a point written in the instant of its force keeps that write behind the force, so that the force is not the plain one. -/
theorem not_pointCommands : ¬ Obligations.PointCommands := by
  unfold Obligations.PointCommands
  intro h
  obtain ⟨-, -, hforce, -⟩ := h 10 1 forceParams justWritten serviceSession
  obtain ⟨u, hnext, -, -, hplain, -⟩ := hforce (by decide +kernel) (by decide +kernel)
  have hkept : ((Res.state? (exec (.pointForce 10 serviceSession.num 1 forceParams) justWritten)).bind (fun v => v.force? 32768)).bind (·.kept) =
      some (justWritten.point 32768) := by decide +kernel
  have hplain' : u.force? 32768 = some { before := justWritten.point 32768 } := hplain
  rw [Res.state?_next hnext, Option.bind_some, hplain'] at hkept
  cases hkept

end Sys2Proof.Machine
end

section
/-!
PROOF. LOG_FREEZE while a record waits in the recorder's queue (O15). Before its own record LOG_FREEZE writes what the queue holds and has been waited for
long enough (R530), and each of these takes a sequence number. The statement gives LOG_FREEZE the number the recorder would give before that.
-/
namespace Sys2Proof.Machine

/-- A unit whose recorder's queue holds one record. -/
def recordQueued : State := openUnit.event .CFG_FACTORY_EV [0]

/-- Refutes O15: 100 ms after a record was submitted, it takes number 1 as the recorder freezes and LOG_FREEZE's own record number 2; the statement's
reply names number 1. -/
theorem not_recorderAndSafetyCommands : ¬ Obligations.RecorderAndSafetyCommands := by
  unfold Obligations.RecorderAndSafetyCommands
  intro h
  obtain ⟨hrecorder, -⟩ := h
  obtain ⟨hfreeze, -⟩ := hrecorder 100000000 1 [] recordQueued serviceSession
  obtain ⟨hdoes, -⟩ := hfreeze (by decide +kernel)
  have hsent := hdoes.sent
  revert hsent
  decide +kernel

end Sys2Proof.Machine
end

section
/-!
PROOF. The commands of authority and of the major mode (O16). They change the redundancy state, of which a reply reads the unit and its epoch alone.
-/
namespace Sys2Proof.Machine
variable {t q : Nat} {x : Session} {p r : List Byte} {s v : State} {acc : Bool}

/-- The sessions, the peer and the unit's identity in one state as in another, whatever else of the redundancy state changed. -/
theorem talks_identity {s u v : State} {x : Session} (h : Talks s x u) (hcmd : v.cmd = u.cmd)
    (hepoch : v.red.epochHeld = u.red.epochHeld) (hunit : v.red.unit = u.red.unit) : Talks s x v := by
  obtain ⟨⟨y, hy, hsame⟩, hepoch', hunit', hpeer⟩ := h
  refine ⟨⟨y, ?_, hsame⟩, hepoch.trans hepoch', hunit.trans hunit', by rw [hcmd, hpeer]⟩
  unfold State.sess? at *
  rw [hcmd]
  exact hy

/-- A command that is DONE at once, by an effect that keeps the unit's identity. -/
theorem does_effect_red {o : OpDef} {c : Instr} (hrow : exec c s = opRow o t x.num q p s) (h : s.takes o t x q false p = true)
    (hrun : ∀ b, OnlyCmd (s.arrive t) b → o.defer b p = false ∧ OnlyCmd v (o.run b x.num q p).1 ∧ (o.run b x.num q p).1.cmd = b.cmd ∧
      (o.run b x.num q p).1.red.epochHeld = b.red.epochHeld ∧ (o.run b x.num q p).1.red.unit = b.red.unit ∧ (o.run b x.num q p).2 = r) :
    Does c s (s.replyOf x q o.code stDone r) v := by
  obtain ⟨hdefer, honly, hcmd, hepoch, hunit, hreply⟩ := hrun _ (State.began_onlyCmd h)
  have hdoes := does_began hrow h hdefer honly (talks_identity (talks_began (State.takes_iff h).1) hcmd hepoch hunit)
  rwa [hreply] at hdoes

theorem State.began_arbiter {o : OpDef} (h : s.takes o t x q acc p = true) : (s.began o t x q acc p).arbiter = s.arbiter := by
  obtain ⟨_, _, _, _, hb⟩ := State.began_onlyCmd h
  rw [hb]
  rfl

theorem State.began_sys {o : OpDef} (h : s.takes o t x q acc p = true) : (s.began o t x q acc p).sys = s.sys := by
  obtain ⟨_, _, _, _, hb⟩ := State.began_onlyCmd h
  rw [hb]
  rfl

/-! ### SET_MODE -/

theorem modeOfCode_ne_zero {k : Nat} {m : Mode} (h : modeOfCode k = some m) (hkeep : m ≠ .keep) : k ≠ 0 := by
  rintro rfl
  exact hkeep (Option.some.inj h).symm

/-- SET_MODE to another mode than KEEP goes there. R574. -/
theorem opSetMode_run {m : Mode} (hm : modeOfCode (fld p 0 1) = some m) (hzero : fld p 0 1 ≠ 0) (b : State) (n : Nat) :
    opSetMode.defer b p = false ∧ opSetMode.run b n q p = (b.modeGo n q m, []) := by
  have hrun : opSetMode.run b n q p = if fld p 0 1 = 0 then ((b.deferredDone n q 0x0103 []).enterKeep (fld p 4 4), [])
    else (b.modeGo n q ((modeOfCode (fld p 0 1)).getD .standby), []) := rfl
  refine ⟨decide_eq_false hzero, ?_⟩
  rw [hrun, if_neg hzero, hm]
  rfl

theorem State.modeGo_hold_unleased {b : State} (h : b.leaseMode = false) (n q : Nat) :
    b.modeGo n q .hold = b.modRed (fun r => { r with gainDue := true }) := by
  unfold State.modeGo
  dsimp only
  rw [if_neg (by simp [h])]

theorem State.modeGo_hold_leased {b : State} (h : b.leaseMode = true) (n q : Nat) : b.modeGo n q .hold =
    { b with red := { b.red with pairHold := true }, sys := { b.sys with holdReq := some (n, q, b.now + 200000000) } } := by
  unfold State.modeGo
  dsimp only
  rw [if_pos h]

theorem State.modeGo_leaves_hold {b : State} (h : b.sys.mode = .hold) (n q : Nat) :
    b.modeGo n q .standby = { b with sys := { b.sys with leavingHold := some (b.sys.leavingHold.getD b.now) } } := by
  unfold State.modeGo
  dsimp only
  rw [if_pos h]

theorem State.modeGo_at_once {b : State} {m : Mode} (hm : m ≠ .hold) (h : b.sys.mode ≠ .hold) (n q : Nat) : b.modeGo n q m = b.setMode m 0 := by
  unfold State.modeGo
  cases m with
  | hold => exact absurd rfl hm
  | standby => exact if_neg h
  | _ => rfl

/-- Settles O16. -/
theorem authorityAndModeCommands : Obligations.AuthorityAndModeCommands := by
  unfold Obligations.AuthorityAndModeCommands
  constructor
  · intro t q p s x
    refine ⟨fun h => ?_, fun h => ?_, fun h harbiter => ⟨opRow_ended h, ?_⟩, fun h harbiter => ⟨opRow_ended h, ?_, fun b hb => ?_⟩⟩
    · exact does_effect_red (o := opRoleRotate) rfl h (OnlyCmd.all fun _ _ _ _ => ⟨rfl, ⟨_, _, _, _, rfl⟩, rfl, rfl, rfl, rfl⟩)
    · exact does_effect_red (o := opWardenRelease) rfl h (OnlyCmd.all fun _ _ _ _ => ⟨rfl, ⟨_, _, _, _, rfl⟩, rfl, rfl, rfl, rfl⟩)
    · have hbegan : (s.began opWardenPromote t x q false p).arbiter ≠ true := by rw [State.began_arbiter h, harbiter]; decide
      exact congrArg (·, []) (if_neg hbegan)
    · exact (State.began_arbiter h).trans harbiter
    · exact congrArg (·, []) (if_pos hb)
  · intro t q p s x
    refine ⟨fun h hm hlease => ?_, fun h hm hlease => ?_, fun h hm hmode => ?_, fun m h hzero hm hne hmode => ⟨opRow_ended h, ?_⟩,
      fun h hzero => ⟨opRow_ended h, decide_eq_true hzero, fun b => if_pos hzero⟩⟩
    · have hzero := modeOfCode_ne_zero hm (by decide)
      refine does_effect_red (o := opSetMode) rfl h fun b hb => ?_
      have hb' : b.leaseMode = false := by obtain ⟨_, _, _, _, rfl⟩ := hb; exact hlease
      obtain ⟨hdefer, hrun⟩ := opSetMode_run (q := q) hm hzero b x.num
      rw [hrun, State.modeGo_hold_unleased hb']
      exact ⟨hdefer, hb.map (F := fun u => u.modRed fun r => { r with gainDue := true }) fun _ _ _ _ _ => rfl, rfl, rfl, rfl, rfl⟩
    · have hzero := modeOfCode_ne_zero hm (by decide)
      refine does_accepted (o := opSetMode) rfl h fun b hb => ?_
      have hb' : b.leaseMode = true := by obtain ⟨_, _, _, _, rfl⟩ := hb; exact hlease
      obtain ⟨-, hrun⟩ := opSetMode_run (q := q) hm hzero b x.num
      rw [hrun, State.modeGo_hold_leased hb']
      obtain ⟨_, _, _, _, rfl⟩ := hb
      exact ⟨⟨_, _, _, _, rfl⟩, rfl, rfl⟩
    · have hzero := modeOfCode_ne_zero hm (by decide)
      refine does_effect_red (o := opSetMode) rfl h fun b hb => ?_
      have hb' : b.sys.mode = .hold := by obtain ⟨_, _, _, _, rfl⟩ := hb; exact hmode
      obtain ⟨hdefer, hrun⟩ := opSetMode_run (q := q) hm hzero b x.num
      rw [hrun, State.modeGo_leaves_hold hb']
      obtain ⟨_, _, _, _, rfl⟩ := hb
      exact ⟨hdefer, ⟨_, _, _, _, rfl⟩, rfl, rfl, rfl, rfl⟩
    · obtain ⟨-, hrun⟩ := opSetMode_run (q := q) hm hzero (s.began opSetMode t x q false p) x.num
      rw [hrun, State.modeGo_at_once hne (by rw [State.began_sys h]; exact hmode)]

end Sys2Proof.Machine
end

section
/-!
PROOF. Sessions open and close; the unit's images, keys, restarts and domains (O17).
-/
namespace Sys2Proof.Machine
variable {t q : Nat} {x : Session} {p : List Byte} {s : State}

/-! ### CLOSE_SESSION -/

theorem pruneJournal_accepted (u : State) : u.pruneJournal.cmd.accepted = u.cmd.accepted := by
  unfold State.pruneJournal
  rw [(onlyLog_journalLow _).cmd]

/-- A closing session without a command still to complete leaves its slot. R344. -/
theorem freeSlot_frees {u : State} {n : Nat} {y : Session} (h : u.sess? n = some y) (hclosing : y.closing = true)
    (haccepted : ∀ a ∈ u.cmd.accepted, a.1 ≠ n) : (u.freeSlot n).sess? n = none := by
  have hany : u.cmd.accepted.any (fun a => decide (a.1 = n)) = false := by simpa using haccepted
  unfold State.freeSlot
  rw [h]
  dsimp only
  rw [if_pos ⟨hclosing, by simp [hany]⟩, pruneJournal_sess]
  simp [State.sess?]

/-- The consuming reply of a closing session frees its slot. -/
theorem reply_frees {u : State} (h : Talks s x u) (hclosing : x.closing = true) (haccepted : ∀ a ∈ u.cmd.accepted, a.1 ≠ x.num)
    (op st : Nat) (r : List Byte) : (u.reply x.num q op st r).sess? x.num = none := by
  obtain ⟨⟨z, hz, k⟩, -, -, -⟩ := h
  unfold State.reply
  rw [hz]
  extract_lets v w _ w'
  have hsess : w'.sess? x.num = w.sess? x.num ∧ w'.cmd.accepted = w.cmd.accepted := by
    unfold w'
    split <;> exact ⟨rfl, rfl⟩
  clear_value w'
  have hv : Talks u z w := by
    refine talks_modSess (talks_modSess (talks_refl (k.num ▸ hz)) _ _ ?_) _ _ ?_
    · exact fun y => ⟨rfl, rfl, rfl, rfl, rfl, rfl, rfl, rfl, rfl, rfl⟩
    · exact fun y => ⟨rfl, rfl, rfl, rfl, rfl, rfl, rfl, rfl, rfl, rfl⟩
  have hacc : w.cmd.accepted = u.cmd.accepted := rfl
  clear_value w
  obtain ⟨y, hy, hsame⟩ := hv.sess
  refine freeSlot_frees (y := y) ?_ (hsame.closing.trans (k.closing.trans hclosing)) ?_
  · rw [pruneJournal_sess, ← hy, k.num]
    exact hsess.1
  · rw [pruneJournal_accepted]
    change ∀ a ∈ w'.cmd.accepted, _
    rwa [hsess.2, hacc]

theorem setReply_accepted (u : State) (n : Nat) (r : List Byte) : (u.setReply n r).cmd.accepted = u.cmd.accepted := by
  unfold State.setReply
  dsimp only
  repeat' split
  all_goals rfl

theorem mirrorEntry_accepted (u : State) (n k : Nat) : (u.mirrorEntry n k).cmd.accepted = u.cmd.accepted := by
  unfold State.mirrorEntry
  repeat' split
  all_goals rfl

/-- The session that CLOSE_SESSION closes, as far as a reply can tell. R344. -/
theorem talks_close {u : State} (h : Talks s x u) :
    Talks s { x with closing := true, held := [] } (u.modSess x.num (fun y => { y with closing := true, held := [] })) := by
  obtain ⟨⟨y, hy, k⟩, hepoch, hunit, hpeer⟩ := h
  refine ⟨⟨{ y with closing := true, held := [] }, ?_, ?_⟩, hepoch, hunit, hpeer⟩
  · rw [State.modSess_sess, hy]
    · simp [k.num]
    · exact fun _ => rfl
  · exact ⟨k.num, k.client, k.pair, k.auth, k.key, k.iface, k.addr, k.port, rfl, rfl⟩

/-- How a command that is DONE at once ends: its reply, and what was held behind it. -/
theorem State.ended_done {o : OpDef} (hdefer : o.defer (s.began o t x q false p) p = false) :
    ∃ jn, s.ended o t x q false p = ((((o.run (s.began o t x q false p) x.num q p).1.setReply jn
      (o.run (s.began o t x q false p) x.num q p).2).mirrorEntry x.num jn).reply x.num q o.code stDone
        (o.run (s.began o t x q false p) x.num q p).2).runHeld 64 x.num := by
  unfold State.ended State.runOp
  simp only [Bool.false_eq_true, if_false]
  exact ⟨_, congrArg (fun u : State => u.runHeld 64 x.num) (if_neg (Bool.eq_false_iff.1 hdefer))⟩

theorem closeSession_frees (h : s.takes opCloseSession t x q false p = true) (haccepted : ∀ a ∈ s.cmd.accepted, a.1 ≠ x.num) :
    ∃ u, exec (.closeSession t x.num q p) s = .next u ∧ s.replyOf x q 0x0106 stDone [] ∈ u.sent ∧ u.sess? x.num = none := by
  have hclosed := talks_close (talks_began (o := opCloseSession) (t := t) (seq := q) (p := p) (State.takes_iff h).1)
  obtain ⟨g, j, jt, -, hcmd⟩ := s.began_cmd opCloseSession t x q p
  obtain ⟨jn, hend⟩ := State.ended_done (s := s) (t := t) (x := x) (q := q) (p := p) (o := opCloseSession) rfl
  have hreply := talks_mirrorEntry (talks_setReply hclosed jn []) x.num jn
  have hfree := reply_frees (q := q) hreply rfl (by rw [mirrorEntry_accepted, setReply_accepted, State.modSess, hcmd]; exact haccepted)
    0x0106 stDone []
  refine ⟨_, opRow_ended h, ?_⟩
  rw [hend, State.runHeld_none]
  · exact ⟨State.reply_sent hreply q 0x0106 stDone [], hfree⟩
  · exact fun y hy _ => reply_held hreply rfl q 0x0106 stDone [] y hy

/-! ### OPEN_SESSION -/

theorem mirrorSession_cmd (u : State) (y : Session) : (u.mirrorSession y).cmd = u.cmd := by
  unfold State.mirrorSession
  split <;> rfl

/-- A session that is opened stands as it was entered, but for the reply it is kept with. R343. -/
theorem State.opened_sess {u : State} {y : Session} (h : u.sess? y.num = some y) (f : Source) (sess : Nat) (un : List Byte) :
    (∃ z, (u.opened y f sess un).sess? y.num = some z ∧ z.client = y.client ∧ z.role = y.role ∧ z.auth = y.auth ∧ z.pair = y.pair ∧ z.e = y.e ∧
      z.openNonce = y.openNonce) ∧ (u.opened y f sess un).cmd.nextSession = u.cmd.nextSession := by
  unfold State.opened
  extract_lets peer r fl v
  have hcmd : ((v.mirrorSession y).answer f y.trailKey (v.single y) y.client y.num 0 0x0105 stDone 0 r).cmd = v.cmd := mirrorSession_cmd v y
  refine ⟨⟨{ y with
    openSess := sess, openReply := { seq := 0, opcode := 0x0105, status := stDone, flags := fl, epoch := u.red.epochHeld, params := some r } },
    ?_, rfl, rfl, rfl, rfl, rfl, rfl⟩, (congrArg CmdSt.nextSession hcmd).trans rfl⟩
  unfold State.sess?
  rw [hcmd]
  refine (State.modSess_sess _ _ _ _ ?_).trans ?_
  · exact fun _ => rfl
  · rw [h]
    exact congrArg some (if_pos rfl)

theorem State.makeSlot_free {u : State} (h : u.cmd.sessions.length < 256) : u.makeSlot = some u := if_pos h

/-- A client without a session takes a free slot under the next number. R343. -/
theorem State.newSession_sess {u : State} {client : Nat} (hclient : ∀ y ∈ u.cmd.sessions, y.client ≠ client ∧ y.num ≠ u.cmd.nextSession)
    (hroom : u.cmd.sessions.length < 256) (r : Role) (f : Source) (pair auth : Bool) (nonce : List Byte) :
    (∃ z, (u.newSession r f client pair auth nonce).sess? u.cmd.nextSession = some z ∧ z.client = client ∧ z.role = r ∧ z.auth = auth ∧
      z.pair = pair ∧ z.e = 1 ∧ z.openNonce = nonce) ∧ (u.newSession r f client pair auth nonce).cmd.nextSession = seqNext u.cmd.nextSession := by
  have hnone : u.cmd.sessions.filter (fun x => decide (x.client = client)) = [] := by
    simpa [List.filter_eq_nil_iff] using fun y hy => (hclient y hy).1
  have hnum : u.cmd.sessions.find? (fun x => decide (x.num = u.cmd.nextSession)) = none := by
    simpa [List.find?_eq_none] using fun y hy => (hclient y hy).2
  unfold State.newSession
  extract_lets old close v
  have hv : v = u := by
    have hold : old = [] := by rw [show old = List.map _ _ from rfl, hnone]; rfl
    rw [show v = old.foldl close u from rfl, hold]
    rfl
  clear_value v
  subst hv
  split
  · next hfull => exact absurd ((State.makeSlot_free hroom).symm.trans hfull) nofun
  next v' hslot =>
  obtain rfl : v = v' := Option.some.inj ((State.makeSlot_free hroom).symm.trans hslot)
  extract_lets g un w n y
  have hw : w.cmd = v.cmd := by
    unfold w
    split <;> rfl
  have hn : n = v.cmd.nextSession := congrArg CmdSt.nextSession hw
  have hy : State.sess? { w with cmd := { w.cmd with sessions := w.cmd.sessions ++ [y], nextSession := seqNext n } } y.num = some y := by
    have hnone : v.cmd.sessions.find? (fun x => decide (x.num = y.num)) = none := by rw [show y.num = n from rfl, hn]; exact hnum
    unfold State.sess?
    dsimp only
    rw [hw, List.find?_append, hnone]
    simp
  obtain ⟨⟨z, hz, hfields⟩, hnext⟩ := State.opened_sess hy f 0 un
  exact ⟨⟨z, hn ▸ hz, hfields⟩, hnext.trans (congrArg seqNext hn)⟩

theorem openSession_opens {iface : Iface} {addr port client : Nat} {auth : Bool} {r : Role} (hhears : s.hears = true)
    (hrole : roleOf (fld p 0 1) = some r) (hport : portAdmits r iface = true)
    (hkey : (if auth then (s.roleKey r).isSome else s.openFree r iface) = true) (hlen : 20 ≤ p.length) (hnew : (fld p 1 1).testBit 0 = false)
    (hpair : (fld p 1 1).testBit 1 = true ∨ s.pairOk = true) (hclient : ∀ y ∈ s.cmd.sessions, y.client ≠ client ∧ y.num ≠ s.cmd.nextSession) :
    execOpenSession t iface addr port client 0 auth p s = .next
      ((s.arrive t).newSession r { iface := iface, addr := addr, port := port } client (!(fld p 1 1).testBit 1) auth (slice 4 16 p)) := by
  have hnone : s.cmd.sessions.find? (fun x => x.client = client && x.openNonce = slice 4 16 p && x.openSess = 0 && !x.closing &&
      decide ((s.arrive t).now < x.openAt + 30000000000)) = none := by
    simp only [List.find?_eq_none]
    intro y hy
    simp [(hclient y hy).1]
  have htrailed : (match roleOf (fld p 0 1) with
    | some r => if auth then ((s.arrive t).roleKey r).isSome else (s.arrive t).openFree r iface || !portAdmits r iface
    | none => !auth) = true := by
    rw [hrole]
    dsimp only
    cases auth with
    | true => exact hkey
    | false => exact Bool.or_eq_true_iff.2 (Or.inl hkey)
  unfold execOpenSession
  extract_lets v trailed
  rw [if_pos ⟨hhears, htrailed⟩]
  unfold State.openSession
  dsimp only
  rw [show v.cmd.sessions.find? _ = none from hnone]
  have hpair' : ¬ ((!(fld p 1 1).testBit 1) = true ∧ ¬ v.pairOk = true) := by
    rcases hpair with hpair | hpair
    · simp [hpair]
    · exact fun hno => hno.2 hpair
  simp only [hnew, hrole, hport, Bool.false_eq_true, if_false, false_and, Option.any_none]
  rw [if_neg hpair', if_neg (by simp), if_neg (Nat.not_lt.2 hlen)]

/-! ### The unit's image store, keys and domains -/

/-- A choice of two that are not a value is not that value. -/
theorem ite_ne {α : Type} {c : Prop} [Decidable c] {a b v : α} (ha : a ≠ v) (hb : b ≠ v) : (if c then a else b) ≠ v := by
  split
  · exact ha
  · exact hb

theorem ite_eq_or {α : Type} {c : Prop} [Decidable c] (a b : α) : (if c then a else b) = a ∨ (if c then a else b) = b := by
  split
  · exact Or.inl rfl
  · exact Or.inr rfl

/-- A domain whose drain is answered DONE does not run, one whose drain is ACCEPTED does. R592. -/
theorem State.drainChk_dom {u : State} {d : Nat} : (u.drainChk d = stDone → u.dom d = false) ∧ (u.drainChk d = stAccepted → u.dom d = true) := by
  unfold State.drainChk
  cases hd : u.dom d with
  | false =>
    refine ⟨fun _ => rfl, fun h => ?_⟩
    simp only [Bool.false_eq_true, not_false_eq_true, if_true] at h
    exact absurd h (ite_ne (by decide) (ite_ne (by decide) (by decide)))
  | true =>
    refine ⟨fun h => ?_, fun _ => rfl⟩
    simp only [not_true_eq_false, if_false] at h
    exact absurd h (ite_ne (by decide) (ite_ne (by decide) (ite_ne (by decide) (ite_ne (by decide) (by decide)))))

/-- A domain whose restore is answered DONE runs, one whose restore is ACCEPTED does not. R592. -/
theorem State.restoreChk_dom {u : State} {d : Nat} :
    (u.restoreChk d = stDone → u.dom d = true) ∧ (u.restoreChk d = stAccepted → u.dom d = false) := by
  unfold State.restoreChk
  cases hd : u.dom d with
  | false =>
    refine ⟨fun h => ?_, fun _ => rfl⟩
    simp only [Bool.false_eq_true, if_false] at h
    exact absurd h (ite_ne (by decide) (ite_ne (by decide) (ite_ne (by decide) (by decide))))
  | true =>
    refine ⟨fun _ => rfl, fun h => ?_⟩
    simp only [if_true] at h
    exact absurd h (ite_ne (by decide) (ite_ne (by decide) (by decide)))

theorem OnlyCmd.dom {a b : State} (h : OnlyCmd a b) (d : Nat) : b.dom d = a.dom d := by
  obtain ⟨_, _, _, _, rfl⟩ := h
  rfl

/-- What KEY_WRITE writes, and that a commissioning key ends the session that loads it. R342. -/
theorem opKeyWrite_run (b : State) (n : Nat) : opKeyWrite.run b n q p =
    (if fld p 0 1 = 3 then (if fld p 0 1 = 0x10 then b.modKeep (fun k => { k with integKey := p.drop 4 })
        else b.modKeep (fun k => { k with roleKeys := assocSet k.roleKeys (fld p 0 1) ((p.drop 4).take 32) })).modSess n
          (fun y => { y with closing := y.closing || y.keyLoad })
      else if fld p 0 1 = 0x10 then b.modKeep (fun k => { k with integKey := p.drop 4 })
        else b.modKeep (fun k => { k with roleKeys := assocSet k.roleKeys (fld p 0 1) ((p.drop 4).take 32) }), []) := rfl

theorem opImgActivate_run (b : State) (n : Nat) : opImgActivate.run b n q p = (b.imgActivate (fld p 0 1), []) := rfl

/-- Settles O17. -/
theorem sessionAndUnitCommands : Obligations.SessionAndUnitCommands := by
  unfold Obligations.SessionAndUnitCommands
  constructor
  · intro t q p s x
    refine ⟨closeSession_frees, fun iface addr port client auth r hhears hrole hport hkey hlen hnew hpair hclient hroom => ?_⟩
    obtain ⟨⟨z, hz, hfields⟩, hnext⟩ := State.newSession_sess (u := s.arrive t) hclient hroom r
      { iface := iface, addr := addr, port := port } (!(fld p 1 1).testBit 1) auth (slice 4 16 p)
    obtain ⟨hc, hr, ha, hp, he, hn⟩ := hfields
    exact ⟨_, z, openSession_opens hhears hrole hport hkey hlen hnew hpair hclient, hz, hc, hr, ha, hp, he, hn, hnext⟩
  · intro t q p s x
    refine ⟨fun h => ?_, fun h hk => ?_, fun h hk hk3 => ?_, fun h hk => ⟨opRow_ended h, fun b => ?_⟩, fun h => ?_, fun h => ?_, fun h hd => ?_,
      fun h hd => ⟨opRow_ended h, fun b => ?_⟩, fun h => ?_, fun h => ⟨opRow_ended h, State.drainChk_dom.2 (State.takes_iff h).2.2, fun b hb => ?_⟩, fun h => ?_,
      fun h => ⟨opRow_ended h, State.restoreChk_dom.2 (State.takes_iff h).2.2, fun b hb => ?_⟩⟩
    · exact does_effect (o := opSysRestart) rfl h (OnlyCmd.all fun _ _ _ _ => ⟨rfl, ⟨_, _, _, _, rfl⟩, rfl, rfl, rfl⟩)
    · refine does_effect (o := opKeyWrite) rfl h (OnlyCmd.all fun _ _ _ _ => ?_)
      rw [opKeyWrite_run, if_neg (by omega), if_pos hk]
      exact ⟨rfl, ⟨_, _, _, _, rfl⟩, rfl, rfl, rfl⟩
    · refine does_effect (o := opKeyWrite) rfl h (OnlyCmd.all fun _ _ _ _ => ?_)
      rw [opKeyWrite_run, if_neg hk3, if_neg hk]
      exact ⟨rfl, ⟨_, _, _, _, rfl⟩, rfl, rfl, rfl⟩
    · rw [opKeyWrite_run, if_pos hk, if_neg (by omega), hk]
    · exact does_effect (o := opImgStage) rfl h (OnlyCmd.all fun _ _ _ _ => ⟨rfl, ⟨_, _, _, _, rfl⟩, rfl, rfl, rfl⟩)
    · exact does_accepted (o := opImgVerify) rfl h (OnlyCmd.all fun _ _ _ _ => ⟨⟨_, _, _, _, rfl⟩, rfl, rfl⟩)
    · refine does_effect (o := opImgActivate) rfl h (OnlyCmd.all fun _ _ _ _ => ?_)
      rw [opImgActivate_run, State.imgActivate, if_neg hd]
      exact ⟨rfl, ⟨_, _, _, _, rfl⟩, rfl, rfl, rfl⟩
    · rw [opImgActivate_run, State.imgActivate, if_pos hd, hd]
    · refine does_query_of_onlyCmd (o := opDomainDrain) rfl h fun b hb => ?_
      have hoff : ¬ b.dom (fld p 0 1) = true := by rw [hb.dom]; exact Bool.eq_false_iff.1 (State.drainChk_dom.1 (State.takes_iff h).2.2)
      exact ⟨rfl, congrArg (·, []) (if_neg hoff)⟩
    · exact congrArg (·, []) (if_pos hb)
    · refine does_query_of_onlyCmd (o := opDomainRestore) rfl h fun b hb => ?_
      have hon : b.dom (fld p 0 1) = true := by rw [hb.dom]; exact State.restoreChk_dom.1 (State.takes_iff h).2.2
      exact ⟨rfl, congrArg (·, []) (if_pos hon)⟩
    · exact congrArg (·, []) (if_neg (Bool.eq_false_iff.1 hb))

end Sys2Proof.Machine
end

section
/-!
PROOF. The commands of the configuration (O18). What they change and read stands beside the sessions and the recorder.
-/
namespace Sys2Proof.Machine
variable {t q : Nat} {x : Session} {p : List Byte} {s : State}

/-! ### The configuration -/

/-- The configuration with another result of the last validation. R586. -/
def State.setValidated (s : State) (v : Option (Nat × Word × Nat)) : State := { s with cfg := { s.cfg with validated := v } }

/-- The configuration with a commit to come. R588. -/
def State.setCommit (s : State) (g : Nat) (b : List Byte) : State := { s with cfg := { s.cfg with commit := some (g, 10, b), commitOk := true } }

theorem beside_writeCopy (g : Nat) (c : List Byte) : Beside (fun u => u.writeCopy g c) :=
  beside_ite (C := fun u : State => u.cfg.copyA.genOf < u.cfg.copyB.genOf) (fun _ _ _ _ _ => rfl) (fun _ _ _ _ _ => rfl)
    fun _ _ _ _ _ => Iff.rfl

theorem beside_safePend (c : List Byte) : Beside (fun u => u.safePend c) :=
  beside_ite (C := fun u : State => u.safe.confirmed = some c) (fun _ _ _ _ _ => rfl) (fun _ _ _ _ _ => rfl) fun _ _ _ _ _ => Iff.rfl

/-- What CFG_COMMIT does with a body that is validated. R588. -/
theorem opCfgCommit_run {b : State} {c : List Byte} (h : b.commitBody p = some c) (n : Nat) : opCfgCommit.run b n q p =
    (((b.writeCopy b.nextGen c).safePend ((b.writeCopy b.nextGen c).withBody c).safeCanon).setCommit b.nextGen c,
      leBytes 4 b.nextGen ++ leBytes 8
        ((((b.writeCopy b.nextGen c).safePend ((b.writeCopy b.nextGen c).withBody c).safeCanon).setCommit b.nextGen c).frame.number + 10)) := by
  unfold opCfgCommit
  dsimp only
  rw [h]
  rfl

/-- CFG_COMMIT on the configuration it finds. R588. -/
def State.cfgCommitted (u : State) (g : Nat) (c w : List Byte) : State := ((u.writeCopy g c).safePend w).setCommit g c

theorem beside_cfgCommitted (g : Nat) (c w : List Byte) : Beside (fun u => u.cfgCommitted g c w) :=
  ((beside_writeCopy g c).comp (beside_safePend w)).comp (G := fun u => u.setCommit g c) fun _ _ _ _ _ => rfl

theorem writeCopy_frame (u : State) (g : Nat) (c : List Byte) : (u.writeCopy g c).frame = u.frame ∧ (u.writeCopy g c).red = u.red := by
  unfold State.writeCopy
  dsimp only
  split <;> exact ⟨rfl, rfl⟩

theorem safePend_frame (u : State) (w : List Byte) : (u.safePend w).frame = u.frame ∧ (u.safePend w).red = u.red := by
  unfold State.safePend
  split <;> exact ⟨rfl, rfl⟩

theorem cfgCommitted_frame (u : State) (g : Nat) (c w : List Byte) :
    (u.cfgCommitted g c w).frame = u.frame ∧ (u.cfgCommitted g c w).red = u.red := by
  obtain ⟨hframe, hred⟩ := writeCopy_frame u g c
  obtain ⟨hframe', hred'⟩ := safePend_frame (u.writeCopy g c) w
  exact ⟨hframe'.trans hframe, hred'.trans hred⟩

/-- The safety set of a body is read in the configuration that the body gives, whichever copy it is written to. -/
theorem writeCopy_safeCanon (u : State) (g : Nat) (c : List Byte) : ((u.writeCopy g c).withBody c).safeCanon = (u.withBody c).safeCanon := by
  unfold State.writeCopy
  dsimp only
  split <;> rfl

theorem opCfgCommit_reply {b : State} {c : List Byte} (h : b.commitBody p = some c) (n : Nat) : opCfgCommit.run b n q p =
    (b.cfgCommitted b.nextGen c (b.withBody c).safeCanon, leBytes 4 b.nextGen ++ leBytes 8 (b.frame.number + 10)) := by
  rw [opCfgCommit_run h, writeCopy_safeCanon]
  exact congrArg (fun f => (b.cfgCommitted b.nextGen c (b.withBody c).safeCanon, leBytes 4 b.nextGen ++ leBytes 8 (FrameSt.number f + 10)))
    (cfgCommitted_frame b b.nextGen c (b.withBody c).safeCanon).1

/-- What stands of a validation when more is staged. R585. -/
def State.stillValid (u : State) : Option (Nat × Word × Nat) :=
  if (match u.cfg.validated with
    | none => false
    | some (_, crc, len) => (u.stagedBody len crc.toNat).isSome) then u.cfg.validated else none

/-- The staged bytes with others written over them. R585. -/
def State.setStaging (u : State) (p : List Byte) : State :=
  { u with cfg := { u.cfg with staging := stageAt u.cfg.staging (fld p 0 4) (p.drop 12) } }

theorem opCfgStage_run (b : State) (n : Nat) :
    opCfgStage.run b n q p = ((b.setStaging p).setValidated (b.setStaging p).stillValid, []) := rfl

theorem beside_cfgStage : Beside (fun u => (u.setStaging p).setValidated (u.setStaging p).stillValid) := fun _ _ _ _ _ => rfl

/-- Settles O18. -/
theorem configurationCommands : Obligations.ConfigurationCommands := by
  unfold Obligations.ConfigurationCommands
  intro t q p s x
  refine ⟨fun h => ⟨((s.arrive t).setStaging p).stillValid, ?_, ?_⟩, fun f h hf => ?_, fun b v h hb hv => ?_,
    fun h => ⟨opRow_ended h, rfl, fun _ => rfl⟩, fun h => ?_⟩
  · exact does_beside (o := opCfgStage) beside_cfgStage (fun _ => rfl) rfl h fun b _ => ⟨rfl, opCfgStage_run b x.num⟩
  · unfold State.stillValid
    exact (ite_eq_or _ _).symm
  · have hf' : ∀ b, OnlyCmd (s.arrive t) b → b.stagedFail (fld p 0 4) (fld p 4 4) = f := by
      intro b hb
      rw [← hf]
      obtain ⟨_, _, _, _, hbegan⟩ := State.began_onlyCmd h
      rw [hbegan]
      obtain ⟨_, _, _, _, rfl⟩ := hb
      rfl
    refine does_effect (o := opCfgValidate) rfl h fun b hb => ?_
    have hrun : opCfgValidate.run b x.num q p = (b.setValidated (if f.isNone then some (b.cfg.gen, wN (fld p 4 4), fld p 0 4) else none),
        cfgReport (b.cfg.staging.take (fld p 0 4)) f) := by
      rw [← hf' b hb]
      rfl
    rw [hrun]
    obtain ⟨_, _, _, _, rfl⟩ := hb
    exact ⟨rfl, ⟨_, _, _, _, rfl⟩, rfl, rfl, rfl⟩
  · subst hv
    refine does_effect (o := opCfgCommit) rfl h fun c hc => ?_
    have hcommit := beside_cfgCommitted (s.nextGen) b (s.withBody b).safeCanon
    have hrun : opCfgCommit.run c x.num q p = (c.cfgCommitted s.nextGen b (s.withBody b).safeCanon,
        leBytes 4 s.nextGen ++ leBytes 8 (s.frame.number + 10)) := by
      have hcommitted : c.commitBody p = some b := by
        obtain ⟨_, _, _, _, rfl⟩ := hc
        exact hb
      rw [opCfgCommit_reply hcommitted]
      obtain ⟨_, _, _, _, rfl⟩ := hc
      rfl
    rw [hrun]
    exact ⟨rfl, hc.map hcommit, hcommit.cmd c, (cfgCommitted_frame c _ _ _).2, rfl⟩
  · exact does_accepted (o := opCfgFromPeer) rfl h (OnlyCmd.all fun _ _ _ _ => ⟨⟨_, _, _, _, rfl⟩, rfl, rfl⟩)

end Sys2Proof.Machine
end

section
/-!
PROOF. The commands of the receiver and of the hold engine (O19). HEN_SUBMIT with a deadline that runs before its frame has started, as one run again
from the journal does, is kept for the frame's start; the statement has it join its queue in every state.
-/
namespace Sys2Proof.Machine

/-- HEN_SUBMIT of one problem to queue 2, with a deadline. -/
def deadlineSubmission : List Byte :=
  [1, 0, 0, 0, 1, 0, 1, 0, 0, 0, 0, 0, 0, 0, 0, 0, 1, 0, 0, 0] ++ List.replicate 28 0 ++ leBytes 4 32 ++ leBytes 4 32 ++ List.replicate 8 0 ++
    [0, 2, 0, 0] ++ List.replicate 32 0

/-- A unit whose frame runs, with a number of frame starts since its clock came up. R52. -/
def inFrame (started : Nat) : State := { openUnit with frame.running := true, frame.started := started }

/-- The submission waits for the frame's start. -/
theorem henSubmit_waits : (opHenSubmit.run (inFrame 0) serviceSession.num 1 deadlineSubmission).1.hen.replay.length = 1 := by decide +kernel

/-- Refutes O19: a HEN_SUBMIT with a deadline that comes before its frame has started joins no queue yet. -/
theorem not_receiverAndEngineCommands : ¬ Obligations.ReceiverAndEngineCommands := by
  unfold Obligations.ReceiverAndEngineCommands
  rintro ⟨-, hengine⟩
  obtain ⟨hsubmit, -⟩ := hengine 10 1 deadlineSubmission (inFrame 1) serviceSession
  obtain ⟨-, hrun⟩ := hsubmit (by decide +kernel)
  have hwaits := henSubmit_waits
  rw [hrun] at hwaits
  revert hwaits
  decide +kernel

end Sys2Proof.Machine
end

section
/-!
PROOF. Commands that are not executed (O7). A refusal takes a block of the journal: where the journal's ring has none free it is answered that instead.
-/
namespace Sys2Proof.Machine

/-- A session of the least rights. -/
def lowSession : Session := { num := 1, client := 7, role := .operator, auth := true, iface := .svc }

/-- A journal entry with that many bytes of parameters. -/
def longEntry (n : Nat) : JEntry := { params := List.replicate n 0 }

theorem longEntry_blocks (n : Nat) : (longEntry n).blocks = 1 + blocks64 n := by
  simp [longEntry, JEntry.blocks, show blocks64 0 = 0 from rfl]

/-- A unit whose journal's ring has no block free, with such a session open. R347. -/
def fullJournalUnit : State := { openUnit with cmd.sessions := [lowSession], cmd.journal := [longEntry (64 * ringBlocks)] }

theorem fullJournalUnit_freeBlocks : fullJournalUnit.freeBlocks = 0 := by
  have hjournal : fullJournalUnit.cmd.journal = [longEntry (64 * ringBlocks)] := rfl
  rw [State.freeBlocks, State.usedBlocks, hjournal, List.map_singleton, longEntry_blocks]
  decide

theorem asked_freeBlocks (s : State) (t : Nat) (x : Session) : (s.asked t x).freeBlocks = s.freeBlocks := rfl

/-- A command that its session may not send, with no block free for its refusal. R345. -/
theorem accept_full {s : State} {o : OpDef} {x : Session} {q : Nat} {p : List Byte} (hadmitted : o.admitted x = false)
    (hfull : s.freeBlocks = 0) : s.accept o x q p = s.replyFree x q o.code stJournalFull [] := by
  unfold State.accept State.refuse
  rw [if_pos (by simp [hadmitted]), if_pos (by omega)]

/-- The next state of POINT_FORCE there. -/
def fullJournalNext : State := (fullJournalUnit.asked 10 lowSession).replyFree lowSession 1 opPointForce.code stJournalFull []

theorem pointForce_full : exec (.pointForce 10 1 1 []) fullJournalUnit = .next fullJournalNext := by
  have hrow : exec (.pointForce 10 1 1 []) fullJournalUnit =
      .next (((fullJournalUnit.asked 10 lowSession).accept opPointForce lowSession 1 []).runHeld 64 1) := rfl
  rw [hrow, accept_full (by decide +kernel) ((asked_freeBlocks _ _ _).trans fullJournalUnit_freeBlocks)]
  rfl

/-- Refutes O7: with the journal full, a command that its session may not send is answered JOURNAL_FULL, not PERMISSION. -/
theorem not_commandRefusals : ¬ Obligations.CommandRefusals := by
  unfold Obligations.CommandRefusals
  intro h
  obtain ⟨-, hrefused, -⟩ := h 10 1 [] fullJournalUnit lowSession (.pointForce 10 1 1 []) opPointForce (by simp [lowSession]) (by decide +kernel)
  obtain ⟨-, hpermission⟩ := hrefused (by decide +kernel) (by decide +kernel) (by decide +kernel) (by decide +kernel) (by decide +kernel)
    (by decide +kernel) (by decide +kernel)
  obtain ⟨u, hnext, -, hsent⟩ := hpermission (by decide +kernel) (by decide +kernel)
  rw [pointForce_full] at hnext
  obtain rfl : fullJournalNext = u := Host.Outcome.next.inj hnext
  revert hsent
  decide +kernel

end Sys2Proof.Machine
end

section
/-!
PROOF. Arrival of command packets and the timeouts of a session (O8).
-/
namespace Sys2Proof.Machine
variable {t q : Nat} {x : Session} {p : List Byte} {s : State} {o : OpDef} {acc : Bool}

/-! ### A datagram that is a command -/

/-- A row of an opcode past its first checks is the acceptance of the command. -/
theorem opRow_accept (h : s.takes o t x q acc p = true) :
    opRow o t x.num q p s = .next (((s.asked t x).accept o x q p).runHeld 64 x.num) := by
  obtain ⟨hs, hr, -⟩ := State.takes_iff h
  obtain ⟨⟨hdom, hdormant, hclosing, hseq, hwaiting, hreplay⟩, hpair, -⟩ := s.ready_iff hr
  have hs' : (s.arrive t).sess? x.num = some x := hs
  unfold opRow
  dsimp only
  rw [hs']
  dsimp only
  rw [if_neg, if_neg]
  · rfl
  · rintro ⟨hp, hno⟩
    rcases hpair with hpair | hpair
    · rw [hpair] at hp
      cases hp
    · exact hno hpair
  · rintro (hno | hno | hno | hno | hno | hno)
    · exact hno hdom
    · rw [hdormant] at hno
      cases hno
    · rw [hclosing] at hno
      cases hno
    · exact hno hseq
    · rw [show (s.arrive t).waiting x.num = s.waiting x.num from rfl, hwaiting] at hno
      cases hno
    · exact hno hreplay

/-- What the acceptance of a command makes of the state. -/
theorem accept_ended (h : s.takes o t x q acc p = true) : ((s.asked t x).accept o x q p).runHeld 64 x.num = s.ended o t x q acc p :=
  Host.Outcome.next.inj ((opRow_accept h).symm.trans (opRow_ended h))

/-- The acceptance of a command does not read when its session's last valid packet came. -/
theorem accept_lastValid (u : State) (a : Nat) : u.accept o { x with lastValid := a } q p = u.accept o x q p := rfl

/-- A valid packet of a session that came from where the session's packets came from: only its instant is noted. R345. -/
theorem noteSource_same {u : State} {a : Nat} {f : Source} (hsame : ∀ y ∈ u.cmd.sessions, y.num = x.num → y = x)
    (hiface : x.iface = f.iface) (haddr : x.addr = f.addr) (hport : x.port = f.port) :
    (u.modSess x.num (fun y => { y with lastValid := a })).noteSource x.num f = u.modSess x.num (fun y => { y with lastValid := a }) := by
  have hsessions : (u.cmd.sessions.map (fun y => if y.num = x.num then { y with lastValid := a } else y)).map
      (fun y => if y.num = x.num then { y with iface := f.iface, addr := f.addr, port := f.port } else y) =
        u.cmd.sessions.map (fun y => if y.num = x.num then { y with lastValid := a } else y) := by
    rw [List.map_map]
    refine List.map_congr_left fun y hy => ?_
    dsimp only [Function.comp]
    by_cases hnum : y.num = x.num
    · obtain rfl := hsame y hy hnum
      simp [← hiface, ← haddr, ← hport]
    · simp [hnum]
  unfold State.noteSource State.modSess
  dsimp only
  rw [hsessions]

/-- A packet that passes the checks of its session is the command its opcode names. R345. -/
theorem sessPkt_command {z : State} {f : Source} {k : Pkt} (hop : opOf k.op = some o) (hsess : k.sess = x.num) (hauth : k.auth = x.auth)
    (htrailer : k.trailerOk x.trailKey = true) (hclient : k.client = x.client) (hiface : x.iface = f.iface) (haddr : x.addr = f.addr)
    (hport : x.port = f.port) (hsame : ∀ y ∈ z.cmd.sessions, y.num = x.num → y = x) (h : z.takes o t x k.seq acc k.params = true) :
    (z.arrive t).sessPkt f k = z.ended o t x k.seq acc k.params := by
  obtain ⟨hs, hr, -⟩ := State.takes_iff h
  obtain ⟨⟨-, hdormant, hclosing, hseq, hwaiting, hreplay⟩, hpair, -⟩ := z.ready_iff hr
  have hfilter : ((z.arrive t).sess? k.sess).filter (fun y => !y.closing) = some x := by
    rw [hsess, show (z.arrive t).sess? x.num = some x from hs]
    simp [hclosing]
  have hasked : ((z.arrive t).modSess x.num (fun y => { y with lastValid := (z.arrive t).now })).noteSource x.num f = z.asked t x :=
    noteSource_same hsame hiface haddr hport
  have hsess' : ((z.asked t x).sess? k.sess).getD x = { x with lastValid := max z.now t } := by
    rw [hsess, State.asked, State.modSess_sess]
    · rw [show (z.arrive t).sess? x.num = some x from hs]
      simp
    · exact fun _ => rfl
  have hnotPair : ¬ ((opOf k.op).any OpDef.pair ∧ ¬ (z.asked t x).pairOk) := by
    rw [hop]
    rintro ⟨hp, hno⟩
    rcases hpair with hpair | hpair
    · exact Bool.false_ne_true (hpair.symm.trans hp)
    · exact hno hpair
  unfold State.sessPkt
  rw [hfilter]
  dsimp only
  rw [if_neg (by simp [hauth]), if_neg (by simp [htrailer]), if_neg (by simp [hdormant]), if_neg (by simp [hclient]), hasked, hsess',
    if_neg hnotPair]
  unfold State.sequenced State.nextPkt
  rw [if_pos hseq, if_neg ?_, hop]
  · exact (congrArg (fun u : State => u.runHeld 64 x.num) (accept_lastValid (z.asked t x) _)).trans (accept_ended h)
  · rintro (hno | hno)
    · exact Bool.false_ne_true (hwaiting.symm.trans hno)
    · exact hno hreplay

/-- A datagram that is heard and finds room is read once those before it are. R334. -/
theorem commandPacket_datagram {iface : Iface} {addr port : Nat} {bytes : List Byte} {z : State} (hhears : s.hears = true)
    (hroom : (s.arrive t).netWaiting < 256)
    (hz : z = { s with cmd := { s.cmd with netUntil := max (max s.now t) s.cmd.netUntil + 500000 } }) :
    exec (.commandPacket t iface addr port bytes) s = .next ((z.arrive t).datagram { iface := iface, addr := addr, port := port } bytes) := by
  have hhears' : (s.arrive t).hears = true := hhears
  rw [exec_commandPacket, execCommandPacket]
  dsimp only
  rw [if_neg (Classical.not_not.2 hhears'), if_neg (Nat.not_le.2 hroom), hz]
  rfl

theorem datagram_sess {z : State} {f : Source} {b : List Byte} {k : Pkt} (hread : Pkt.read b = some k) (hflag : k.flags.testBit 5 = false)
    (hop : k.op ≠ 0x0105) : z.datagram f b = z.sessPkt f k := by
  rw [State.datagram, hread]
  dsimp only
  rw [hflag, if_neg Bool.false_ne_true, if_neg hop]

/-! ### The packets held behind a gap -/

theorem seqGap_sent (u : State) (y : Session) (f : Source) (n op : Nat) : (u.seqGap y f n op).sent.length = u.sent.length + 1 := by
  simp [State.seqGap, State.answer, State.emit]

/-- Held packets are answered one by one. R346. -/
theorem seqGaps_drop (u : State) (y : Session) (l : List HeldPkt) :
    (l.foldl (fun v h => v.seqGap y { iface := h.iface, addr := h.addr, port := h.port } h.seq h.opcode) u).sent.length =
        u.sent.length + l.length ∧
      (l.foldl (fun v h => v.seqGap y { iface := h.iface, addr := h.addr, port := h.port } h.seq h.opcode) u).cmd =
        { u.cmd with seqGaps := u.cmd.seqGaps + l.length } := by
  induction l generalizing u with
  | nil => simp
  | cons h l ih =>
    obtain ⟨hsent, hcmd⟩ := ih (u.seqGap y { iface := h.iface, addr := h.addr, port := h.port } h.seq h.opcode)
    rw [List.foldl_cons, hsent, hcmd, seqGap_sent]
    refine ⟨by rw [List.length_cons]; omega, ?_⟩
    have hcount : u.cmd.seqGaps + 1 + (l.length : Word) = u.cmd.seqGaps + ((h :: l).length : Word) := by
      show u.cmd.seqGaps + 1#32 + BitVec.ofNat 32 l.length = u.cmd.seqGaps + BitVec.ofNat 32 (l.length + 1)
      rw [BitVec.ofNat_add, BitVec.add_assoc, BitVec.add_comm 1#32]
    rw [← hcount]
    rfl

/-- A gap in a session's numbers is given up: nothing stays held, each packet is answered. R346. -/
theorem dropHeld_held {u : State} (h : u.sess? x.num = some x) :
    (u.dropHeld x.num).sess? x.num = some { x with held := [] } ∧
      (u.dropHeld x.num).cmd.seqGaps = u.cmd.seqGaps + x.held.length ∧
      (u.dropHeld x.num).sent.length = u.sent.length + x.held.length := by
  unfold State.dropHeld
  rw [h]
  obtain ⟨hsent, hcmd⟩ := seqGaps_drop (u.modSess x.num (fun y => { y with held := [] })) x x.held
  refine ⟨?_, congrArg CmdSt.seqGaps hcmd, hsent⟩
  have hsess : (u.modSess x.num (fun y => { y with held := [] })).sess? x.num = some { x with held := [] } := by
    rw [State.modSess_sess, h]
    · simp
    · exact fun _ => rfl
  rw [← hsess]
  exact congrArg (fun c : CmdSt => c.sessions.find? fun y => decide (y.num = x.num)) hcmd

/-! ### A session given up -/

/-- A reclaimed session is gone with its subscriptions, and every other session stays. R344. -/
theorem reclaim_sess (u : State) (n : Nat) :
    (u.reclaim n).sess? n = none ∧ (∀ b ∈ (u.reclaim n).pnt.subs, b.session ≠ n) ∧ ∀ m, m ≠ n → (u.reclaim n).sess? m = u.sess? m := by
  unfold State.reclaim
  extract_lets v
  have hv : v.cmd = u.cmd := by
    unfold v
    split
    · exact mirrorSession_cmd _ _
    · rfl
  clear_value v
  refine ⟨?_, fun b hb => ?_, fun m hm => ?_⟩
  · rw [pruneJournal_sess]
    simp [State.sess?]
  · unfold State.pruneJournal at hb
    rw [(onlyLog_journalLow _).pnt] at hb
    simpa using (List.mem_filter.1 hb).2
  · rw [pruneJournal_sess]
    unfold State.sess?
    dsimp only
    rw [hv, List.find?_filter]
    congr 1
    funext y
    by_cases hy : y.num = m <;> simp [hy, hm]

/-- Settles O8. -/
theorem commandArrivalAndTimeouts : Obligations.CommandArrivalAndTimeouts := by
  unfold Obligations.CommandArrivalAndTimeouts
  constructor
  · intro t iface addr port bytes s
    refine ⟨fun hoff => ?_, fun hhears hfull => ?_, fun hhears hroom hread => ?_, ?_⟩
    · exact congrArg Host.Outcome.next (if_pos (show ¬ (s.arrive t).hears = true from Bool.eq_false_iff.1 hoff))
    · rw [exec_commandPacket, execCommandPacket]
      dsimp only
      rw [if_neg (Classical.not_not.2 (show (s.arrive t).hears = true from hhears)), if_pos hfull]
      rfl
    · rw [exec_commandPacket, execCommandPacket]
      dsimp only
      rw [if_neg (Classical.not_not.2 (show (s.arrive t).hears = true from hhears)), if_neg (Nat.not_le.2 hroom), State.datagram, hread]
      rfl
    · rintro k o x acc z hhears hroom hz hread hflag hop hopOf hsess hauth htrailer hclient rfl rfl rfl hsame h
      have hsame' : ∀ y ∈ z.cmd.sessions, y.num = x.num → y = x := by
        rw [hz]
        exact hsame
      rw [commandPacket_datagram hhears hroom hz, datagram_sess hread hflag hop]
      exact congrArg Host.Outcome.next (sessPkt_command hopOf hsess hauth htrailer hclient rfl rfl rfl hsame' h)
  · intro t s x hs
    have hs' : (s.arrive t).sess? x.num = some x := hs
    refine ⟨fun ⟨h, hmem, hdue⟩ => ?_, fun hnone => ?_, fun hopen hdue => ?_, fun hearly => ?_, fun hdormant hdue => ?_, fun hopen => ?_⟩
    · obtain ⟨hsess, hgaps, hsent⟩ := dropHeld_held hs'
      have hany : x.held.any (fun h => (s.arrive t).past h.at_ 500000000) = true := List.any_eq_true.2 ⟨h, hmem, decide_eq_true hdue⟩
      refine ⟨_, _, ?_, hsess, rfl, rfl, hgaps, hsent.trans (Nat.zero_add _)⟩
      rw [exec_seqGapTimeout, execSeqGapTimeout, hs']
      exact congrArg Host.Outcome.next (if_pos hany)
    · have hany : ¬ x.held.any (fun h => (s.arrive t).past h.at_ 500000000) = true := by
        rw [List.any_eq_true]
        rintro ⟨h, hmem, hdue⟩
        exact Nat.not_le.2 (hnone h hmem) (of_decide_eq_true hdue)
      rw [exec_seqGapTimeout, execSeqGapTimeout, hs']
      exact congrArg Host.Outcome.next (if_neg hany)
    · have hdue' : (s.arrive t).past x.lastValid 30000000000 = true := decide_eq_true hdue
      refine ⟨(s.arrive t).modSess x.num (fun y => { y with dormant := true, dormantAt := max s.now t }), _, ?_, ?_, rfl, fun n hn => ?_⟩
      · rw [exec_sessionDormant, execSessionDormant, hs']
        exact congrArg Host.Outcome.next (if_pos ⟨by simp [hopen], hdue'⟩)
      · rw [State.modSess_sess, hs']
        · simp
        · exact fun _ => rfl
      · rw [State.modSess_sess]
        · rw [show (s.arrive t).sess? n = s.sess? n from rfl]
          cases hy : s.sess? n with
          | none => rfl
          | some y =>
            have hnum : y.num = n := by simpa using List.find?_some hy
            simp [hnum, hn]
        · exact fun _ => rfl
    · have hearly' : ¬ (s.arrive t).past x.lastValid 30000000000 = true := fun hdue => Nat.not_le.2 hearly (of_decide_eq_true hdue)
      rw [exec_sessionDormant, execSessionDormant, hs']
      exact congrArg Host.Outcome.next (if_neg fun hno => hearly' hno.2)
    · obtain ⟨hgone, hsubs, hother⟩ := reclaim_sess (s.arrive t) x.num
      have hdue' : (s.arrive t).past x.dormantAt (s.parNs .CMD_DORMANT_KEEP) = true := decide_eq_true hdue
      refine ⟨_, ?_, hgone, hsubs, hother⟩
      rw [exec_sessionReclaim, execSessionReclaim, hs']
      exact congrArg Host.Outcome.next (if_pos ⟨hdormant, hdue'⟩)
    · rw [exec_sessionReclaim, execSessionReclaim, hs']
      exact congrArg Host.Outcome.next (if_neg fun hno => Bool.false_ne_true (hopen.symm.trans hno.1))

end Sys2Proof.Machine
end

section
/-!
PROOF. The journal and its mirror at the peer (O20), and the ends of ACCEPTED commands (O21).
-/
namespace Sys2Proof.Machine
variable {t j : Nat} {s : State}

/-! ### Acknowledgements and lost ones -/

theorem peerAck_waiting {u : State} {f : InFlight} (h : u.cmd.inflight.find? (fun f => decide (f.jnum = j)) = some f) :
    u.peerAck j = ((State.modEntry { u with cmd := { u.cmd with
      inflight := u.cmd.inflight.filter (fun g => g.jnum ≠ j), mirrorMaxNow := max u.cmd.mirrorMaxNow (u.now - f.sentAt) } } j
        (fun e => { e with mirrored := true })).proceed f).runHeld 64 f.session := by
  unfold State.peerAck
  rw [h]

theorem peerAck_unknown {u : State} (h : ∀ f ∈ u.cmd.inflight, f.jnum ≠ j) :
    u.peerAck j = u.modEntry j (fun e => { e with mirrored := true }) := by
  have hnone : u.cmd.inflight.find? (fun f => decide (f.jnum = j)) = none := by simpa [List.find?_eq_none] using h
  unfold State.peerAck
  rw [hnone]

/-- The only entry in flight is lost: the peer is absent, and what waited for it runs. R351. -/
theorem mirrorLost_only {u : State} {f : InFlight} (hf : u.cmd.inflight = [f]) (hj : f.jnum = j)
    (hdue : u.past f.sentAt (u.parMs .CMD_MIRROR_TIMEOUT) = true) : u.mirrorLost j =
      ((State.modEntry (State.raiseAlarm { u with cmd := { u.cmd with inflight := [], peerPresent := false, resync := false } }
        .JOURNAL_MIRROR_LOST) j (fun e => { e with single := true })).proceed f).runHeld 64 f.session := by
  unfold State.mirrorLost
  rw [if_neg (by simp [hf, hj, hdue]), hf, ← hj]
  rfl

theorem mirrorLost_early {u : State} (h : ∀ f ∈ u.cmd.inflight, f.jnum = j → u.now < f.sentAt + u.parMs .CMD_MIRROR_TIMEOUT) :
    u.mirrorLost j = u := by
  unfold State.mirrorLost
  refine if_pos ?_
  rw [List.any_eq_true]
  rintro ⟨f, hf, hlost⟩
  obtain ⟨hnum, hpast⟩ := (Bool.and_eq_true _ _).mp hlost
  exact Nat.not_le.2 (h f hf (of_decide_eq_true hnum)) (of_decide_eq_true hpast)

/-! ### Resynchronisation -/

theorem mirrorSessions_cmd (u : State) (l : List Session) : (l.foldl State.mirrorSession u).cmd = u.cmd := by
  induction l generalizing u with
  | nil => rfl
  | cons y l ih => rw [List.foldl_cons, ih, mirrorSession_cmd]

theorem mirrorSession_red (u : State) (y : Session) : (u.mirrorSession y).red = u.red := by
  unfold State.mirrorSession
  split <;> rfl

theorem mirrorSessions_red (u : State) (l : List Session) : (l.foldl State.mirrorSession u).red = u.red := by
  induction l generalizing u with
  | nil => rfl
  | cons y l ih => rw [List.foldl_cons, ih, mirrorSession_red]

/-- Entries sent to the peer one by one. R351. -/
theorem emitEntries (u : State) (l : List JEntry) :
    l.foldl (fun v e => v.emit (.journal v.peerOnLan e)) u = { u with sent := u.sent ++ l.map (.journal u.peerOnLan) } := by
  induction l generalizing u with
  | nil => simp
  | cons e l ih =>
    rw [List.foldl_cons, ih]
    simp [State.emit, show State.peerOnLan { u with sent := u.sent ++ [Emit.journal u.peerOnLan e] } = u.peerOnLan from rfl]

theorem pairEntry_congr {u v : State} (h : v.cmd.sessions = u.cmd.sessions) (e : JEntry) : v.pairEntry e = u.pairEntry e := by
  unfold State.pairEntry State.sess?
  rw [h]

/-- What a resynchronising unit leaves: its entries of pair sessions marked, each not yet mirrored sent. R351. -/
theorem resyncSend_journal (u : State) :
    u.resyncSend.cmd = { u.cmd with journal := u.cmd.journal.map (fun e => { e with mirrored := e.mirrored || u.pairEntry e }) } ∧
      ∀ e ∈ u.cmd.journal, u.pairEntry e = true → e.mirrored = false → .journal u.peerOnLan e ∈ u.resyncSend.sent := by
  unfold State.resyncSend
  dsimp only
  rw [emitEntries]
  have hcmd := mirrorSessions_cmd u u.cmd.sessions
  have hred := mirrorSessions_red u u.cmd.sessions
  generalize u.cmd.sessions.foldl State.mirrorSession u = v at hcmd hred
  have hpair : ∀ e, v.pairEntry e = u.pairEntry e := pairEntry_congr (congrArg CmdSt.sessions hcmd)
  have hlan : v.peerOnLan = u.peerOnLan := by unfold State.peerOnLan; rw [hred]
  refine ⟨?_, fun e he hp hm => List.mem_append_right _ (List.mem_map.2 ⟨e, ?_, by rw [hlan]⟩)⟩
  · dsimp only
    rw [hcmd]
    simp only [funext hpair]
    rfl
  · rw [hcmd]
    exact List.mem_filter.2 ⟨he, by rw [hpair, hp, hm]; rfl⟩

/-- A session goes back to before an entry that is dropped. R351. -/
def State.sessBack (u : State) (a : Nat × Nat) : State := u.modSess a.1 (fun x => { x with
  e := if seqIsBefore a.2 x.e then a.2 else x.e
  replies := x.replies.filter (fun r => r.seq ≠ a.2), words := x.words.filter (fun w => w.1 ≠ a.2 % 1024) })

/-- Sessions that go back keep their kind, and the journal. -/
theorem sessBack_keeps (u : State) (l : List (Nat × Nat)) :
    (∀ n, ((l.foldl State.sessBack u).sess? n).map Session.pair = (u.sess? n).map Session.pair) ∧
      (l.foldl State.sessBack u).cmd.journal = u.cmd.journal := by
  induction l generalizing u with
  | nil => exact ⟨fun _ => rfl, rfl⟩
  | cons a l ih =>
    obtain ⟨hpair, hjournal⟩ := ih (u.sessBack a)
    refine ⟨fun n => (hpair n).trans ?_, hjournal⟩
    have hback : (u.sessBack a).sess? n = _ := State.modSess_sess u n a.1 _ fun _ => rfl
    rw [hback, Option.map_map]
    congr 1
    funext y
    dsimp only [Function.comp]
    split <;> rfl

theorem pairEntry_of_pair {u v : State} (h : ∀ n, (v.sess? n).map Session.pair = (u.sess? n).map Session.pair) (e : JEntry) :
    v.pairEntry e = u.pairEntry e := by
  have hget : ∀ w : State, w.pairEntry e = ((w.sess? e.session).map Session.pair).getD (!e.unitOp) := by
    intro w
    unfold State.pairEntry
    cases w.sess? e.session <;> rfl
  rw [hget, hget, h]

/-- A unit without pair authority keeps the entries of pair sessions that the other holds. R351. -/
theorem resyncDiscard_keeps {u : State} {held : List Nat} (hauth : u.cmd.pairAuth = false) :
    (∀ e, (u.resyncDiscard held).pairEntry e = u.pairEntry e) ∧
      (u.resyncDiscard held).cmd.journal = u.cmd.journal.filter (fun e => !(u.pairEntry e && !held.contains e.num)) := by
  unfold State.resyncDiscard
  rw [hauth, if_neg Bool.false_ne_true]
  obtain ⟨hpair, hjournal⟩ := sessBack_keeps
    { u with cmd := { u.cmd with
      journal := u.cmd.journal.filter (fun e => !(u.pairEntry e && !held.contains e.num))
      accepted := u.cmd.accepted.filter (fun a =>
        !((u.cmd.journal.filter (fun e => u.pairEntry e && !held.contains e.num)).map (fun e => (e.session, e.seq))).contains a)
      toApply := u.cmd.toApply.filter (fun n => !(u.cmd.journal.filter (fun e => u.pairEntry e && !held.contains e.num)).any (fun e => e.num = n)) } }
    ((u.cmd.journal.filter (fun e => u.pairEntry e && !held.contains e.num)).map (fun e => (e.session, e.seq)))
  exact ⟨pairEntry_of_pair hpair, hjournal⟩

theorem resync_done {held : List Nat} (hdom : s.dom 3 = true) (hpair : s.pairUnit = true) :
    ∃ u, exec (.journalResyncComplete t held) s = .next u ∧ u.cmd.peerPresent = true ∧ u.cmd.resync = false ∧
      (s.cmd.pairAuth = true → u.cmd.journal = s.cmd.journal.map (fun e => { e with mirrored := e.mirrored || s.pairEntry e }) ∧
        ∀ e ∈ s.cmd.journal, s.pairEntry e = true → e.mirrored = false → .journal s.peerOnLan e ∈ u.sent) ∧
      (s.cmd.pairAuth = false → ∀ e ∈ u.cmd.journal, s.pairEntry e = true → e.num ∈ held ∧ e.mirrored = true) := by
  have hnext : exec (.journalResyncComplete t held) s = .next ((State.resyncSend { (s.arrive t).resyncDiscard held with
      cmd := { ((s.arrive t).resyncDiscard held).cmd with peerPresent := true, resync := false } }).clearAlarm .JOURNAL_MIRROR_LOST) := by
    have hrow : exec (.journalResyncComplete t held) s =
        .next (if (s.arrive t).dom 3 then (s.arrive t).resynced held else s.arrive t) := rfl
    rw [hrow, if_pos (show (s.arrive t).dom 3 = true from hdom)]
    exact congrArg Host.Outcome.next (if_neg (Classical.not_not.2 (show (s.arrive t).pairUnit = true from hpair)))
  refine ⟨_, hnext, ?_⟩
  obtain ⟨hcmd, hsent⟩ := resyncSend_journal { (s.arrive t).resyncDiscard held with
    cmd := { ((s.arrive t).resyncDiscard held).cmd with peerPresent := true, resync := false } }
  rw [(onlyLog_clearAlarm _ _ _).cmd, (onlyLog_clearAlarm _ _ _).sent, hcmd]
  refine ⟨rfl, rfl, fun hauth => ?_, fun hauth e he hp => ?_⟩
  · have hall : (s.arrive t).resyncDiscard held = s.arrive t := if_pos (show (s.arrive t).cmd.pairAuth = true from hauth)
    rw [hall] at hsent ⊢
    exact ⟨rfl, hsent⟩
  · obtain ⟨hpairs, hjournal⟩ := resyncDiscard_keeps (u := s.arrive t) (held := held) hauth
    obtain ⟨e0, he0, rfl⟩ := List.mem_map.1 he
    have hpairs' : ∀ e, State.pairEntry { (s.arrive t).resyncDiscard held with
        cmd := { ((s.arrive t).resyncDiscard held).cmd with peerPresent := true, resync := false } } e = s.pairEntry e := hpairs
    have hp0 : s.pairEntry e0 = true := hp
    have hmem : e0 ∈ s.cmd.journal.filter (fun e => !(s.pairEntry e && !held.contains e.num)) := hjournal ▸ he0
    have hkept := (List.mem_filter.1 hmem).2
    rw [hp0] at hkept
    refine ⟨by simpa using hkept, ?_⟩
    dsimp only
    rw [hpairs', hp0, Bool.or_true]

/-! ### What the peer mirrors -/

theorem pruneJournal_sent (u : State) : u.pruneJournal.sent = u.sent := by
  unfold State.pruneJournal
  rw [(onlyLog_journalLow _).sent]

theorem freeSlot_sent (u : State) (n : Nat) : (u.freeSlot n).sent = u.sent := by
  unfold State.freeSlot
  split
  · rfl
  · split
    · rw [pruneJournal_sent]
    · rfl

theorem mirrorSlot_red (u : State) (e : JEntry) : (u.mirrorSlot e).red = u.red := by
  unfold State.mirrorSlot
  split <;> rfl

theorem mirrorSlot_known {u : State} {e : JEntry} {x : Session} (h : u.sess? e.session = some x) : u.mirrorSlot e = u :=
  if_pos (by rw [h]; rfl)

/-- A mirrored entry is acknowledged. R349. -/
theorem takeEntry_ack (u : State) (e : JEntry) : .journalAck u.peerOnLan e.num ∈ (u.takeEntry e).sent := by
  unfold State.takeEntry
  extract_lets v e' known c w fin slot x y z
  have hw : w.red = u.red := by
    refine Eq.trans ?_ (mirrorSlot_red u e)
    unfold w
    split <;> rfl
  have hlan : y.peerOnLan = u.peerOnLan := by
    unfold State.peerOnLan
    rw [show y.red = w.red from rfl, hw]
  have hz : .journalAck u.peerOnLan e.num ∈ z.sent := by
    rw [show z.sent = _ from pruneJournal_sent _, ← hlan]
    exact List.mem_append_right _ (List.mem_singleton.2 rfl)
  clear_value z
  split
  · rw [State.mirrorClose, freeSlot_sent]
    exact hz
  · exact hz

/-- A session that the peer closed is gone where no command of it is still to complete. R344. -/
theorem mirrorClose_frees {u : State} {n : Nat} (haccepted : ∀ a ∈ u.cmd.accepted, a.1 ≠ n) : (u.mirrorClose n).sess? n = none := by
  unfold State.mirrorClose
  have hsess := State.modSess_sess u n n (fun x => { x with closing := true, held := [] }) fun _ => rfl
  cases hx : u.sess? n with
  | none =>
    rw [hx] at hsess
    unfold State.freeSlot
    rw [hsess]
    exact hsess
  | some x =>
    have hnum : x.num = n := by simpa using List.find?_some hx
    rw [hx, Option.map_some, if_pos hnum] at hsess
    exact freeSlot_frees hsess rfl haccepted

theorem fromJournal_pair {u : State} {e : JEntry} (hdom : u.dom 3 = true) (hpair : u.pairUnit = true) :
    u.fromJournal e = if e.opcode = 0x0105 then u.takeDescriptor e else u.takeEntry e := by
  unfold State.fromJournal
  exact if_neg (by simp [hdom, hpair])

/-- Settles O20. -/
theorem journalEvents : Obligations.JournalEvents := by
  unfold Obligations.JournalEvents
  intro t j s hdom
  have hdom' : (s.arrive t).dom 3 = true := hdom
  have hack : exec (.journalPeerAck t j) s = .next ((s.arrive t).peerAck j) := congrArg Host.Outcome.next (if_pos hdom')
  have hlost : exec (.journalMirrorTimeout t j) s = .next ((s.arrive t).mirrorLost j) := congrArg Host.Outcome.next (if_pos hdom')
  refine ⟨fun hnone => ?_, fun f hf => ?_, fun hearly => ?_, fun f hf hj hdue => ?_, fun held hpair => resync_done hdom hpair,
    fun e hpair hop => ?_, fun e hpair hop hst haccepted => ?_, fun e x hpair hop hst hx => ?_, fun e hpair => ?_⟩
  · rw [hack, peerAck_unknown (u := s.arrive t) hnone]
  · rw [hack, peerAck_waiting (u := s.arrive t) hf]
    rfl
  · rw [hlost, mirrorLost_early (u := s.arrive t) hearly]
  · rw [hlost, mirrorLost_only (u := s.arrive t) hf hj (decide_eq_true hdue)]
    rfl
  · refine ⟨_, congrArg Host.Outcome.next ((fromJournal_pair (u := s.arrive t) hdom hpair).trans (if_neg hop)), ?_⟩
    exact takeEntry_ack (s.arrive t) e
  · refine ⟨_, congrArg Host.Outcome.next ((fromJournal_pair (u := s.arrive t) hdom hpair).trans (if_pos hop)), ?_⟩
    rw [State.takeDescriptor, if_pos hst]
    exact mirrorClose_frees haccepted
  · refine congrArg Host.Outcome.next (((fromJournal_pair (u := s.arrive t) hdom hpair).trans (if_pos hop)).trans ?_)
    rw [State.takeDescriptor, if_neg hst, mirrorSlot_known (u := s.arrive t) hx]
    rfl
  · exact congrArg Host.Outcome.next (if_pos (Or.inl (show ¬ (s.arrive t).pairUnit = true from Bool.eq_false_iff.1 hpair)))

/-! ### The ends of ACCEPTED commands -/

theorem freeSlot_accepted (u : State) (n : Nat) : (u.freeSlot n).cmd.accepted = u.cmd.accepted := by
  unfold State.freeSlot
  split
  · rfl
  · split
    · rw [pruneJournal_accepted]
    · rfl

theorem sendCompletion_accepted (u : State) (n q op st : Nat) (p : List Byte) :
    (u.sendCompletion n q op st p).cmd.accepted = u.cmd.accepted := by
  unfold State.sendCompletion
  split
  · rfl
  · rw [freeSlot_accepted]
    split <;> rfl

/-- A command that has completed is no longer to complete. R352. -/
theorem completeCmd_accepted (u : State) (n q st : Nat) (p : List Byte) : (n, q) ∉ (u.completeCmd n q st p).cmd.accepted := by
  unfold State.completeCmd
  split
  · next hnot => simpa using hnot
  · extract_lets ent op _ v w x y
    have hy : (n, q) ∉ y.cmd.accepted := by
      have hv : (n, q) ∉ v.cmd.accepted := by simp [v]
      have hw : w.cmd.accepted = v.cmd.accepted := by
        unfold w
        cases ent <;> rfl
      rw [show y.cmd.accepted = w.cmd.accepted from rfl, hw]
      exact hv
    clear_value y
    split
    · split
      · rw [pruneJournal_accepted]
        exact hy
      · rw [pruneJournal_accepted, sendCompletion_accepted]
        exact hy
    · rw [sendCompletion_accepted]
      exact hy

/-- A command that no block holds is not one of those whose end lies in the recorder or the unit. R352. -/
theorem cmdHeld_false {u : State} {n q : Nat} (h : u.cmdHeld n q = false) : u.log.exporting ≠ some (n, q) ∧ u.log.spillEnd ≠ some (n, q) ∧
    ¬ u.sys.verifying.any (fun v => v.1 = n && v.2.1 = q) = true ∧ u.sys.cfgFromPeer ≠ some (n, q) := by
  unfold State.cmdHeld at h
  simp only [Bool.or_eq_false_iff, decide_eq_false_iff_not] at h
  obtain ⟨⟨⟨⟨⟨⟨-, hverifying⟩, -⟩, hpeer⟩, hexport⟩, hspill⟩, -⟩ := h
  exact ⟨hexport, hspill, Bool.eq_false_iff.1 hverifying, hpeer⟩

section
variable {u : State} {n q st : Nat} {p : List Byte}

theorem completion_export (hmem : (n, q) ∈ u.cmd.accepted) (h : u.log.exporting = some (n, q)) : u.completion n q st p = u.logExportEnd := by
  unfold State.completion
  rw [if_neg (by simpa using hmem), if_pos h]

theorem completion_test (hmem : (n, q) ∈ u.cmd.accepted) (hexport : u.log.exporting ≠ some (n, q)) (h : u.log.spillEnd = some (n, q)) :
    u.completion n q st p = u.logSpillTested (fld p 0 4) := by
  unfold State.completion
  rw [if_neg (by simpa using hmem), if_neg hexport, if_pos h]

theorem completion_other (hmem : (n, q) ∈ u.cmd.accepted) (hexport : u.log.exporting ≠ some (n, q)) (hspill : u.log.spillEnd ≠ some (n, q)) :
    u.completion n q st p = if u.sys.verifying.any (fun v => v.1 = n && v.2.1 = q) then u.imgVerified (fld p 0 1 = 4)
      else if u.sys.cfgFromPeer = some (n, q) then u.fromPeer st p
      else if u.cmdHeld n q then u
      else u.completeCmd n q st p := by
  unfold State.completion
  rw [if_neg (by simpa using hmem), if_neg hexport, if_neg hspill]

end

/-- Settles O21. -/
theorem completions : Obligations.Completions := by
  unfold Obligations.Completions
  intro t n q status p s hdom
  have hrow : exec (.commandCompletion t n q status p) s = .next ((s.arrive t).completion n q status p) :=
    congrArg Host.Outcome.next (if_pos (show (s.arrive t).dom 3 = true from hdom))
  refine ⟨fun hnot => ?_, fun hmem hexport => ?_, fun hmem hexport hspill => ?_, fun len hmem hexport hspill hverify => ?_,
    fun hmem hexport hspill hverify hpeer hst => ?_, fun hmem hheld => ⟨_, ?_, rfl, completeCmd_accepted _ _ _ _ _⟩, fun w hw hdue => ?_,
    fun w hw hearly => ?_⟩
  · rw [hrow]
    exact congrArg Host.Outcome.next (if_pos (show ¬ (s.arrive t).cmd.accepted.contains (n, q) = true by simpa using hnot))
  · rw [hrow, completion_export (u := s.arrive t) hmem hexport]
  · rw [hrow, completion_test (u := s.arrive t) hmem hexport hspill]
  · rw [hrow, completion_other (u := s.arrive t) hmem hexport hspill]
    have hverify' : (s.arrive t).sys.verifying.any (fun v => v.1 = n && v.2.1 = q) = true := by
      rw [show (s.arrive t).sys.verifying = some (n, q, len) from hverify]
      simp
    exact congrArg Host.Outcome.next (if_pos hverify')
  · have hverify' : ¬ (s.arrive t).sys.verifying.any (fun v => v.1 = n && v.2.1 = q) = true := by
      rw [show (s.arrive t).sys.verifying = none from hverify]
      exact Bool.false_ne_true
    rw [hrow, completion_other (u := s.arrive t) hmem hexport hspill, if_neg hverify', if_pos (show (s.arrive t).sys.cfgFromPeer = _ from hpeer),
      State.fromPeer, show (s.arrive t).sys.cfgFromPeer = some (n, q) from hpeer]
    exact congrArg Host.Outcome.next (if_pos hst)
  · obtain ⟨hexport, hspill, hverify, hpeer⟩ := cmdHeld_false hheld
    rw [hrow, completion_other (u := s.arrive t) hmem hexport hspill, if_neg (show ¬ (s.arrive t).sys.verifying.any _ = true from hverify),
      if_neg (show ¬ (s.arrive t).sys.cfgFromPeer = _ from hpeer),
      if_neg (show ¬ (s.arrive t).cmdHeld n q = true from Bool.eq_false_iff.1 hheld)]
  · rw [exec_whatifDeadline, execWhatifDeadline]
    rw [show (s.arrive t).cqa.whatif.find? _ = some w from hw]
    exact congrArg Host.Outcome.next (if_pos hdue)
  · rw [exec_whatifDeadline, execWhatifDeadline]
    rw [show (s.arrive t).cqa.whatif.find? _ = some w from hw]
    exact congrArg Host.Outcome.next (if_neg (Nat.not_le.2 hearly))

end Sys2Proof.Machine
end

section
/-!
PROOF. DRAM violations, ECC errors and lockstep mismatches (O24); domains, restarts and the major mode (O25).
-/
namespace Sys2Proof.Machine
variable {t a d : Nat} {s u : State}

theorem guardUnit_in {ok : Bool} {n : Nat} (h : ok = true) : guardUnit ok n u = .next u := if_pos h

theorem guardUnit_out {ok : Bool} {n : Nat} (h : ok = false) : guardUnit ok n u = .fault (.noSuchUnit n) := if_neg (Bool.eq_false_iff.1 h)

theorem between_iff {lo n hi : Nat} : between lo n hi = true ↔ lo ≤ n ∧ n ≤ hi := by simp [between]

/-- A command of a numbered unit that the module has answers the state its branch gives. -/
theorem guardUnit_next {ok : Bool} {n : Nat} {v : State} (hok : ok = true) (h : u = v) : guardUnit ok n u = .next v := by
  rw [guardUnit_in hok, h]

/-! ### Memory errors -/

section
variable {met : EccMeet} {w : Who}

theorem dramEccError_in (hin : between dramLo a dramHi = true) (hdom : s.dom 1 = true) (c : Bool) :
    exec (.dramEccError t a c met) s = .next (if c then { s.arrive t with dram := { s.dram with eccCorrected := s.dram.eccCorrected + 1 } }
      else if a < app1Lo then (s.arrive t).lockstep 2
      else if a ≤ app1Hi then (s.arrive t).lockstep 3
      else ((s.arrive t).event .DRAM_ECC_UNCORR [wN a, wN (a / 2 ^ 32)]).eccFails a met) :=
  guardUnit_next hin (if_neg (Classical.not_not.2 (show (s.arrive t).dom 1 = true from hdom)))

/-- An uncorrected error outside the regions of the lockstep pairs. R14. -/
theorem dramEccError_shared (hin : between dramLo a dramHi = true) (hdom : s.dom 1 = true) (happ : app1Hi < a) :
    exec (.dramEccError t a false met) s = .next (((s.arrive t).event .DRAM_ECC_UNCORR [wN a, wN (a / 2 ^ 32)]).eccFails a met) := by
  have hlo : ¬ a < app1Lo := Nat.not_lt.2 (Nat.le_trans (by decide) (Nat.le_of_lt happ))
  rw [dramEccError_in hin hdom, if_neg Bool.false_ne_true, if_neg hlo, if_neg (Nat.not_le.2 happ)]

/-- A record and a bus error. -/
theorem onlyLog_busErr {v : State} (h : OnlyLog u v) (hsent : u.sent = []) :
    OnlyLog { u with sent := [.busError w a] } (v.busErr w a) := by
  obtain ⟨l, m, rfl⟩ := h
  refine ⟨l, m, ?_⟩
  simp [State.busErr, State.emit, hsent]

theorem dramRegionViolation_core (hin : between dramLo a dramHi = true) (hdom : s.dom 1 = true) (hmay : dramMay w a = false)
    (hw : w ≠ .part) : exec (.dramRegionViolation t w a) s =
      .next (((s.arrive t).event .DRAM_VIOLATION [wN a, wN (a / 2 ^ 32)]).busErr w a) := by
  refine guardUnit_next hin ((if_neg ?_).trans ?_)
  · rintro (h | h)
    · exact h hdom
    · exact Bool.false_ne_true (hmay.symm.trans h)
  · cases w with
    | part => exact absurd rfl hw
    | _ => rfl

/-- What the failure of an access or of a transfer leaves. R14. -/
theorem eccFails_dma {n : Nat} {x : DmaDesc} (hdesc : (u.dch n).desc = some x) (hstate : (u.dch n).state = 2) :
    u.eccFails a (.dma n) = u.dmaBusErr n x := by
  unfold State.eccFails
  dsimp only
  rw [hdesc]
  exact if_pos hstate

theorem eccFails_hen {i : Nat} {r : HenRun} (hrun : (u.cl i).run = some r) :
    u.eccFails a (.hen i) = (((u.modCl i (fun c => { c with run := none })).lose i r hfMemerr).henGo).henSettle := by
  unfold State.eccFails
  dsimp only
  rw [hrun]

theorem eccFails_hen_idle {i : Nat} (hrun : (u.cl i).run = none) : u.eccFails a (.hen i) = u := by
  unfold State.eccFails
  dsimp only
  rw [hrun]

end

/-! ### Lockstep mismatches -/

theorem State.setMode_mode (u : State) {m : Mode} (hm : m ≠ .standby) (k : Nat) : (u.setMode m k).sys.mode = m := by
  unfold State.setMode
  split
  · assumption
  · dsimp only
    rw [State.event_sys]

/-- A mismatch in a unit whose safety section goes on with the other units. R11. -/
theorem lockstep_pair (hdom : u.dom d = true) (h : u.red.unit ≠ 3 ∨ u.sys.mode = .keep) :
    u.lockstep d = ((((u.giveUp 16 true).event .LOCKSTEP_MISMATCH [wN (d - 2)]).lockstepStop).appRestart d) := by
  unfold State.lockstep
  rw [if_neg (Classical.not_not.2 hdom)]
  refine if_neg fun hno => ?_
  obtain ⟨hunit, hmode⟩ := (Bool.and_eq_true _ _).mp hno.1
  rcases h with h | h
  · exact h (of_decide_eq_true hunit)
  · exact of_decide_eq_true hmode h

/-- A mismatch in a single unit ends in SAFE-STOP. R11. -/
theorem lockstep_single (hdom : u.dom d = true) (hunit : u.red.unit = 3) (hkeep : u.sys.mode ≠ .keep) (hstop : u.sys.mode ≠ .safeStop) :
    (u.lockstep d).sys.mode = .safeStop := by
  unfold State.lockstep
  rw [if_neg (Classical.not_not.2 hdom)]
  extract_lets single inStop v w
  have hsingle : single = true ∧ ¬ inStop = true := ⟨by simp [single, hunit, hkeep], by simp [inStop, hstop]⟩
  rw [if_pos hsingle]
  exact State.setMode_mode _ (by decide) 16

/-- Settles O24. -/
theorem memoryErrors : Obligations.MemoryErrors := by
  unfold Obligations.MemoryErrors
  intro t a s
  refine ⟨fun hout w b => ⟨guardUnit_out hout, fun m => guardUnit_out hout⟩, fun w hin hdom hmay hw => ?_, fun w hin hmay => ?_,
    fun hin hdom m => ?_, fun hin hdom hlo m => ?_, fun hdom hlo hhi m => ?_,
    fun hin hdom happ => ⟨?_, fun w => ?_, fun n x hdesc hstate => ?_, fun i r hrun => ?_, fun i hrun => ?_⟩, fun hdom => ?_, fun hdom hpair => ?_,
    fun hdom hpair => ?_, fun b hdom hunit hkeep hstop => ⟨_, rfl, ?_⟩⟩
  · exact ⟨_, dramRegionViolation_core hin hdom hmay hw, onlyLog_busErr (u := s.arrive t) (onlyLog_event _ _ _) rfl⟩
  · exact guardUnit_next hin (if_pos (Or.inr hmay))
  · rw [dramEccError_in hin hdom, if_pos rfl]
  · rw [dramEccError_in hin hdom, if_neg Bool.false_ne_true, if_pos hlo]
    rfl
  · have hin : between dramLo a dramHi = true := by
      have hbounds : dramLo ≤ app1Lo ∧ app1Hi ≤ dramHi := by decide
      exact between_iff.2 ⟨Nat.le_trans hbounds.1 hlo, Nat.le_trans hhi hbounds.2⟩
    rw [dramEccError_in hin hdom, if_neg Bool.false_ne_true, if_neg (Nat.not_lt.2 hlo), if_pos hhi]
    rfl
  · exact ⟨_, dramEccError_shared hin hdom happ, onlyLog_event _ _ _⟩
  · exact ⟨_, dramEccError_shared hin hdom happ, onlyLog_busErr (u := s.arrive t) (onlyLog_event _ _ _) rfl⟩
  · rw [dramEccError_shared hin hdom happ, eccFails_dma (x := x)]
    · rw [State.event_dch]
      exact hdesc
    · rw [State.event_dch]
      exact hstate
  · rw [dramEccError_shared hin hdom happ, eccFails_hen (r := r)]
    rw [State.event_cl]
    exact hrun
  · refine ⟨_, dramEccError_shared hin hdom happ, ?_⟩
    rw [eccFails_hen_idle]
    · exact onlyLog_event _ _ _
    · rw [State.event_cl]
      exact hrun
  · exact congrArg Host.Outcome.next (if_pos (show ¬ (s.arrive t).dom 2 = true from Bool.eq_false_iff.1 hdom))
  · exact congrArg Host.Outcome.next (lockstep_pair (u := s.arrive t) hdom hpair)
  · exact congrArg Host.Outcome.next (lockstep_pair (u := s.arrive t) hdom hpair)
  · exact lockstep_single (u := s.arrive t) hdom hunit hkeep hstop

/-! ### Domains and restarts -/

section
variable {j : DrainJob}

theorem jobDone_of_job (hjob : u.domJob d = some j) (st : Nat) : u.jobDone d st = (u.dropJob d).completeCmd j.session j.seq st [] := by
  unfold State.jobDone
  rw [hjob]

theorem domainOff_job (hd : d < 12) (hjob : s.domJob d = some j) (hrestore : j.restore = false) (hoff : s.dom d = false) :
    exec (.domainOff t d) s = .next (((s.arrive t).dropJob d).completeCmd j.session j.seq stDone []) := by
  have hjob' : (s.arrive t).domJob d = some j := hjob
  have hidle : ¬ (d = 10 ∧ (s.arrive t).dom 10 ∧ (s.arrive t).busIdle) := by
    rintro ⟨rfl, hon, -⟩
    exact Bool.false_ne_true (hoff.symm.trans hon)
  rw [← jobDone_of_job hjob']
  refine guardUnit_next (decide_eq_true hd) ?_
  rw [hjob']
  dsimp only
  rw [if_neg (Bool.eq_false_iff.1 hrestore), if_neg hidle]
  exact if_neg (Bool.eq_false_iff.1 hoff)

theorem domainOff_restoring (hd : d < 12) (hjob : s.domJob d = some j) (hrestore : j.restore = true) :
    exec (.domainOff t d) s = .next (s.arrive t) := by
  refine guardUnit_next (decide_eq_true hd) ?_
  rw [show (s.arrive t).domJob d = some j from hjob]
  exact if_pos hrestore

/-- A domain that is restored while the unit operates. R592. -/
theorem domainRunning_job (hd : d < 12) (hmode : s.sys.mode ≠ .restore) (hjob : s.domJob d = some j) (hrestore : j.restore = true)
    (himg : s.imgStarts d = true) (hneeds : (domNeeds d).all s.dom = true) (hstart : (d = 4 ∨ d = 5) → s.safe.startDue = false) :
    exec (.domainRunning t d) s =
      .next (((if (d = 4 || d = 5) then s.arrive t else (s.arrive t).groupUp d).domRuns d).jobDone d stDone) := by
  refine guardUnit_next (decide_eq_true hd) ?_
  rw [show (s.arrive t).domJob d = some j from hjob, if_neg (show ¬ (s.arrive t).sys.mode = .restore from hmode)]
  refine if_neg ?_
  rintro (hno | hno | hno | ⟨hsafety, hdue⟩)
  · exact hno hrestore
  · exact hno himg
  · exact hno hneeds
  · exact Bool.false_ne_true ((hstart (by simpa using hsafety)).symm.trans hdue)

theorem domainRunning_restore (hd : d < 12) (hmode : s.sys.mode = .restore) (h : 0 < d ∧ ¬ s.dom d = true ∧ (domNeeds d).all s.dom = true ∧
    s.imgStarts d = true ∧ ¬ s.sys.failedDom.testBit d = true) : exec (.domainRunning t d) s = .next ((s.arrive t).domUp d) :=
  guardUnit_next (decide_eq_true hd) ((if_pos (show (s.arrive t).sys.mode = .restore from hmode)).trans (if_pos h))

theorem startFailure_next (hd : d < 12) : exec (.domainStartFailure t d) s = .next ((s.arrive t).startFailure d) :=
  guardUnit_next (Bool.or_eq_true_iff.2 (Or.inl (decide_eq_true hd))) rfl

theorem startFailure_job (hmode : u.sys.mode ≠ .restore) (hjob : u.domJob d = some j) (hrestore : j.restore = true) :
    u.startFailure d = (((domGroup d).foldl State.domDown u).failedStart d).jobDone d stAborted := by
  unfold State.startFailure
  rw [if_neg fun hno => hmode hno.1, hjob]
  exact if_pos hrestore

end

section
variable {k : Nat} {cold : Bool}

theorem sysRestart_due (h : s.sys.restartAt = some (k, cold)) (hdue : k ≤ max s.now t) :
    exec (.sysRestartDelayEnd t) s = .next ((s.arrive t).restart cold) := by
  rw [exec_sysRestartDelayEnd, execSysRestartDelayEnd, show (s.arrive t).sys.restartAt = _ from h]
  exact congrArg Host.Outcome.next (if_pos hdue)

theorem sysRestart_early (h : s.sys.restartAt = some (k, cold)) (hearly : max s.now t < k) :
    exec (.sysRestartDelayEnd t) s = .next (s.arrive t) := by
  rw [exec_sysRestartDelayEnd, execSysRestartDelayEnd, show (s.arrive t).sys.restartAt = _ from h]
  exact congrArg Host.Outcome.next (if_neg (Nat.not_le.2 hearly))

end

/-! ### The major mode -/

theorem holdGrant_due {n q k : Nat} (h : s.sys.holdReq = some (n, q, k)) (hdue : k ≤ max s.now t) : exec (.holdGrantTimeout t) s =
    .next ((((s.arrive t).modRed (fun r => { r with pairHold := false })).event .HOLD_NOT_GRANTED []).holdReqDone stDeadline) := by
  rw [exec_holdGrantTimeout, execHoldGrantTimeout, show (s.arrive t).sys.holdReq = _ from h]
  exact congrArg Host.Outcome.next (if_pos hdue)

theorem holdGrant_early {n q k : Nat} (h : s.sys.holdReq = some (n, q, k)) (hearly : max s.now t < k) :
    exec (.holdGrantTimeout t) s = .next (s.arrive t) := by
  rw [exec_holdGrantTimeout, execHoldGrantTimeout, show (s.arrive t).sys.holdReq = _ from h]
  exact congrArg Host.Outcome.next (if_neg (Nat.not_le.2 hearly))

theorem holdRelease_next (h : (s.arrive t).mayLeave = true) : exec (.holdReleaseComplete t) s =
    .next (((s.arrive t).giveUp 22 false).modRed (fun r => { r with pairHold := false, marksOut := r.unit = 0 || r.unit = 1 })) :=
  congrArg Host.Outcome.next (if_pos h)

/-- An image changed, its domain kept. -/
theorem State.modImg_img (u : State) (d : Nat) {f : ImgSt → ImgSt} (hf : ∀ x, (f x).domain = x.domain) :
    (u.modImg d f).img? d = (u.img? d).map f := by
  unfold State.modImg State.img?
  dsimp only
  induction u.sys.images with
  | nil => rfl
  | cons x l ih =>
    rw [List.map_cons, List.find?_cons, List.find?_cons]
    by_cases hx : x.domain = imgOf d
    · simp [hx, hf]
    · simpa [hx] using ih

/-- A trial that has stood its time: its image is not on trial, and its version the least. R581. -/
theorem imgTrialEnd_next {x : ImgSt} (hd : d < 12 ∨ d = 0x80) (himg : s.img? d = some x)
    (hheld : (s.arrive t).held x.trial (s.parNs .IMG_TRIAL_TIME) = true) :
    ∃ u, exec (.imgTrialEnd t d) s = .next u ∧ assoc u.keep.minVersion (imgOf d) = some (x.slot x.running).version ∧
      u.img? d = some { x with trial := none, selfResets := 0, fellBack := false } := by
  have hok : (decide (d < 12) || d == 0x80) = true := by simpa using hd
  rw [exec_imgTrialEnd, execImgTrialEnd]
  dsimp only
  rw [guardUnit_in hok, show (s.arrive t).img? d = some x from himg]
  refine ⟨_, congrArg Host.Outcome.next (if_pos hheld), ?_, ?_⟩
  · rw [State.clearAlarm_keep]
    exact assoc_assocSet_same _ _ _
  · rw [State.clearAlarm_imgOf]
    exact (State.modImg_img (s.arrive t) d (f := fun x => { x with trial := none, selfResets := 0, fellBack := false }) fun _ => rfl).trans
      (congrArg (Option.map _) himg)

/-- Settles O25. -/
theorem domainAndModeEvents : Obligations.DomainAndModeEvents := by
  unfold Obligations.DomainAndModeEvents
  constructor
  · intro t d s
    refine ⟨fun hd => ⟨guardUnit_out (decide_eq_false (Nat.not_lt.2 hd)), guardUnit_out (decide_eq_false (Nat.not_lt.2 hd))⟩,
      fun j hd hjob hr hoff => domainOff_job hd hjob hr hoff, fun j hd hjob hr => domainOff_restoring hd hjob hr,
      fun hd hmode hpos hoff hneeds himg hfailed => ?_, fun j hd hmode hjob hr himg hneeds h4 h5 => ?_, fun j hmode hjob hr himg h45 hdue => ?_,
      fun hd hmode => ?_, fun j hd hmode hjob hr => ?_, fun hnone => ?_, fun k hk hdue => sysRestart_due hk hdue,
      fun k hk hdue => sysRestart_due hk hdue, fun k c hk hearly => sysRestart_early hk hearly, fun hmode hon hheld => ?_, fun hmode => ?_⟩
    · exact domainRunning_restore hd hmode ⟨hpos, Bool.eq_false_iff.1 hoff, hneeds, himg, Bool.eq_false_iff.1 hfailed⟩
    · rw [domainRunning_job hd hmode hjob hr himg hneeds fun hno => (hno.elim h4 h5).elim, if_neg (by simp [h4, h5])]
    · have hd : d < 12 := by omega
      have hneeds : (domNeeds d).all s.dom = true := by rcases h45 with rfl | rfl <;> rfl
      rw [domainRunning_job hd hmode hjob hr himg hneeds fun _ => hdue, if_pos (by simpa using h45)]
    · rw [startFailure_next hd]
      exact congrArg Host.Outcome.next (if_pos ⟨hmode, hd⟩)
    · rw [startFailure_next hd, startFailure_job (u := s.arrive t) hmode hjob hr]
    · rw [exec_sysRestartDelayEnd, execSysRestartDelayEnd, show (s.arrive t).sys.restartAt = _ from hnone]
    · exact congrArg Host.Outcome.next (if_pos ⟨hmode, hon, by rw [show (s.arrive t).keep.resetHeld = _ from hheld]; rfl⟩)
    · exact congrArg Host.Outcome.next (if_neg fun hno => hmode hno.1)
  · intro t s
    refine ⟨fun n q k hk hdue => holdGrant_due hk hdue, fun n q k hk hearly => holdGrant_early hk hearly, fun k hk hdue => ?_,
      fun k hk hzero => ?_, fun hnone => ?_, fun k hk hmode hdue hon hheld => ?_, fun hmode => ?_, fun d x hd himg hheld => imgTrialEnd_next hd himg hheld⟩
    · refine holdRelease_next ?_
      unfold State.mayLeave State.held
      rw [show (s.arrive t).sys.leavingHold = _ from hk]
      exact Bool.or_eq_true_iff.2 (Or.inl (decide_eq_true hdue))
    · refine holdRelease_next ?_
      unfold State.mayLeave
      rw [show (s.arrive t).sys.leavingHold = _ from hk]
      refine Bool.or_eq_true_iff.2 (Or.inr ((Bool.and_eq_true _ _).mpr ⟨rfl, List.all_eq_true.2 fun c hc => ?_⟩))
      rcases hzero c hc with hz | hz
      · rw [show (s.arrive t).alcConf c = false from hz]
        rfl
      · exact Bool.or_eq_true_iff.2 (Or.inr (decide_eq_true hz))
    · refine congrArg Host.Outcome.next (if_neg ?_)
      unfold State.mayLeave State.held
      rw [show (s.arrive t).sys.leavingHold = _ from hnone]
      exact Bool.false_ne_true
    · rw [exec_keepExitTimer, execKeepExitTimer, show (s.arrive t).sys.keepExit = _ from hk]
      exact congrArg Host.Outcome.next (if_pos ⟨hmode, hdue, hon, by rw [show (s.arrive t).keep.resetHeld = _ from hheld]; rfl⟩)
    · rw [exec_keepExitTimer, execKeepExitTimer]
      cases hk : (s.arrive t).sys.keepExit with
      | none => rfl
      | some k => exact congrArg Host.Outcome.next (if_neg fun hno => hmode hno.1)

end Sys2Proof.Machine
end

section
/-!
PROOF. The instants of a frame and the steps of its clock (O26), and the mirrors (O27).
-/
namespace Sys2Proof.Machine
variable {t n : Nat} {s u : State}

/-! ### A frame's start -/

theorem frameBegin_frame (u : State) : u.frameBegin.frame.number = (u.sel + 2) / 20000000 ∧
    u.frameBegin.frame.startT = (u.sel + 2) / 20000000 * 20000000 ∧ u.frameBegin.frame.started = u.frame.started + 1 := by
  have hnumber : u.boundary / frameNs = (u.sel + 2) / 20000000 := Nat.mul_div_cancel _ (by decide)
  unfold State.frameBegin
  extract_lets b f late raw number back v
  have hv : v.frame.number = (u.sel + 2) / 20000000 ∧ v.frame.startT = (u.sel + 2) / 20000000 * 20000000 ∧
      v.frame.started = u.frame.started + 1 := ⟨hnumber, rfl, rfl⟩
  clear_value v
  split
  · rw [State.event_frame]
    exact hv
  · exact hv

/-! ### The close of the seal window -/

/-- The seal window closes with nothing sealed, on a unit that does not command. R48. -/
theorem sealClose_stall (hposes : u.alcPoses = true) (hsealed : u.frame.sealedNow = []) (hcommanding : u.red.commanding = false) :
    OnlyLog { u with frame := { u.frame with
      sealLate := u.frame.sealLate + wN u.sealAll.length
      phaseSealClosed := true, stalled := u.frame.stalled + 1, stallRun := u.frame.stallRun + 1 } } u.sealClose := by
  have hleft : u.sealAll.filter (fun c => !u.frame.sealedNow.contains c) = u.sealAll := by simp [hsealed]
  have hempty : u.frame.sealedNow.isEmpty = true := by rw [hsealed]; rfl
  unfold State.sealClose
  extract_lets _ all left v
  rw [if_pos (show v.alcPoses = true from hposes), show v.frame.sealedNow.isEmpty = true from hempty]
  unfold State.stallStep
  rw [if_pos rfl]
  extract_lets w x
  have hx : OnlyLog w x := onlyLog_ite (onlyLog_raiseAlarm _ _ _ _) (onlyLog_refl w)
  have hcmd : x.red.commanding = false := by rw [hx.red]; exact hcommanding
  rw [if_neg fun hno => Bool.false_ne_true (hcmd.symm.trans hno.2)]
  rw [← hleft]
  exact hx

/-- The seal window closes with a channel sealed. R48. -/
theorem sealClose_sealed (hposes : u.alcPoses = true) (hsealed : u.frame.sealedNow ≠ []) :
    OnlyLog { u with frame := { u.frame with
      sealLate := u.frame.sealLate + wN (u.sealAll.filter (fun c => !u.frame.sealedNow.contains c)).length
      phaseSealClosed := true, stallRun := 0, stallGaveUp := false } } u.sealClose ∧ u.sealClose.alarmOn .FRAME_STALL = false := by
  have hsome : u.frame.sealedNow.isEmpty = false := by simpa using hsealed
  unfold State.sealClose
  extract_lets _ all left v
  rw [if_pos (show v.alcPoses = true from hposes), show v.frame.sealedNow.isEmpty = false from hsome]
  exact ⟨onlyLog_clearAlarm _ _ _, (State.clearAlarm_alarmOn _ _ _ _ _ (by decide)).trans rfl⟩

/-! ### Steps of the frame's clock -/

theorem frameClockStep_selected (hn : n < 2) (hdom : s.dom 9 = true) (hsel : s.tmu.selVc = n) :
    exec (.frameClockStep t n) s = .next ((s.arrive t).vcStep n) :=
  guardUnit_next (decide_eq_true hn) (if_pos ⟨hdom, hsel⟩)

/-- A step that may not be made yet changes nothing. R309. -/
theorem frameClockStep_early (hn : n < 2) (hmay : (s.arrive t).stepMay n = false) : exec (.frameClockStep t n) s = .next (s.arrive t) := by
  have hstep : (s.arrive t).vcStep n = s.arrive t := if_pos (Bool.eq_false_iff.1 hmay)
  refine guardUnit_next (decide_eq_true hn) ?_
  rw [hstep]
  exact ite_self _

theorem stepMay_first (harm : (u.vc n).stepArm = true) (hlast : (u.vc n).lastStepAt = none) (hsecond : u.atSecond n = true) :
    u.stepMay n = true := by
  unfold State.stepMay
  dsimp only
  rw [harm, hlast, hsecond]
  rfl

/-- Settles O26. -/
theorem frameInstants : Obligations.FrameInstants := by
  unfold Obligations.FrameInstants
  constructor
  · intro t s
    refine ⟨fun hoff => ?_, fun hdue => ⟨congrArg Host.Outcome.next (if_pos hdue), frameBegin_frame (s.arrive t)⟩,
      fun hdue ⟨g, n, b, hcommit, hn⟩ => ?_, fun hnone => ?_, fun e hrun hdom hphase hlate => ?_, fun e hphase => ?_,
      fun hrun hdom hhold hphase hlate => congrArg Host.Outcome.next (if_pos ⟨hrun, hdom, hhold, Bool.eq_false_iff.1 hphase, hlate⟩), fun hphase => ?_,
      fun l hdom hrun halloc hphase hlate hnom => congrArg Host.Outcome.next
        (if_pos ⟨hdom, hrun, halloc, Bool.eq_false_iff.1 hphase, hlate, hnom⟩), fun l hphase => ?_,
      fun hrun hdom hphase hlate => congrArg Host.Outcome.next (if_pos ⟨hrun, hdom, Bool.eq_false_iff.1 hphase, hlate⟩),
      fun hrun hdom hphase hlate hposes hsealed hcommanding => ?_, fun hrun hdom hphase hlate hposes hsealed => ?_, fun hphase => ?_,
      fun hrun hphase hlate => ⟨_, congrArg Host.Outcome.next (if_pos ⟨hrun, Bool.eq_false_iff.1 hphase, hlate⟩), rfl, rfl⟩, fun hphase => ?_⟩
    · have hdue : ¬ (s.arrive t).frameDue = true := by
        unfold State.frameDue
        rw [show (s.arrive t).frame.running = false from hoff]
        simp
      exact congrArg Host.Outcome.next (if_neg hdue)
    · refine congrArg Host.Outcome.next (if_pos ⟨hdue, ?_⟩)
      rw [show (s.arrive t).cfg.commit = _ from hcommit]
      exact decide_eq_true hn
    · refine congrArg Host.Outcome.next (if_neg fun hno => ?_)
      rw [show (s.arrive t).cfg.commit = none from hnone] at hno
      exact Bool.false_ne_true hno.2
    · exact ⟨_, congrArg Host.Outcome.next (if_pos ⟨hrun, hdom, Bool.eq_false_iff.1 hphase, hlate⟩), rfl, rfl⟩
    · exact congrArg Host.Outcome.next (if_neg fun hno => hno.2.2.1 hphase)
    · exact congrArg Host.Outcome.next (if_neg fun hno => Bool.eq_false_iff.1 hphase hno.2.2.1)
    · exact congrArg Host.Outcome.next (if_neg fun hno => hno.2.2.2.1 hphase)
    · exact ⟨_, congrArg Host.Outcome.next (if_pos ⟨hrun, hdom, Bool.eq_false_iff.1 hphase, hlate⟩),
        sealClose_stall (u := s.arrive t) hposes hsealed hcommanding⟩
    · exact ⟨_, congrArg Host.Outcome.next (if_pos ⟨hrun, hdom, Bool.eq_false_iff.1 hphase, hlate⟩),
        sealClose_sealed (u := s.arrive t) hposes hsealed⟩
    · exact congrArg Host.Outcome.next (if_neg fun hno => hno.2.2.1 hphase)
    · exact congrArg Host.Outcome.next (if_neg fun hno => hno.2.1 hphase)
  · intro t n s
    refine ⟨fun hn => guardUnit_out (decide_eq_false (Nat.not_lt.2 hn)), fun hn hsel => ?_, fun hn hsecond => ?_, fun hn harm => ?_,
      fun a hn hlast hearly => ?_, fun hn hdom hsel harm hlast hsecond hbar => ?_, fun hn hdom hsel harm hlast hsecond hbar => ?_⟩
    · exact guardUnit_next (decide_eq_true hn) (if_neg fun hno => hsel hno.2)
    · refine frameClockStep_early hn ?_
      unfold State.stepMay
      dsimp only
      rw [hsecond, Bool.and_false, Bool.false_and]
    · refine frameClockStep_early hn ?_
      unfold State.stepMay
      dsimp only
      rw [show ((s.arrive t).vc n).stepArm = false from harm, Bool.false_and, Bool.false_and]
    · refine frameClockStep_early hn ?_
      have hpast : (s.arrive t).past a 5000000000 = false := decide_eq_false (Nat.not_le.2 hearly)
      unfold State.stepMay
      dsimp only
      rw [show ((s.arrive t).vc n).lastStepAt = some a from hlast]
      exact Bool.and_eq_false_iff.2 (Or.inr hpast)
    · rw [frameClockStep_selected hn hdom hsel, State.vcStep, if_neg (Classical.not_not.2 (stepMay_first (u := s.arrive t) harm hlast hsecond)),
        if_neg (Bool.eq_false_iff.1 hbar)]
    · rw [frameClockStep_selected hn hdom hsel, State.vcStep, if_neg (Classical.not_not.2 (stepMay_first (u := s.arrive t) harm hlast hsecond)),
        if_pos hbar]

/-! ### The mirrors -/

theorem alarmIf_red (u : State) (c : Bool) (e : EvCode) (i : Nat) : (u.alarmIf c e i).red = u.red := (onlyLog_alarmIf u c e i).red

theorem overdue_red (u : State) (b : Nat) : (u.overdue b).red = u.red := by
  unfold State.overdue
  exact alarmIf_red _ _ _ _

theorem foldl_red {α : Type} {f : State → α → State} (hf : ∀ v a, (f v a).red = v.red) (l : List α) (v : State) :
    (l.foldl f v).red = v.red := by
  induction l generalizing v with
  | nil => rfl
  | cons a l ih => rw [List.foldl_cons, ih, hf]

/-- The brake hours that the other unit sends, taken as the unit's own. R436. -/
def State.takeHours (m : MirrorData) (u : State) (b : Nat) : State := State.overdue (u.modSafe (fun x => x.modBrake b (fun k => { k with
  hoursNs := m.brkHours.getD (b - 1) 0, hoursAt := u.now }))) b

theorem takeHours_red (m : MirrorData) (u : State) (b : Nat) : (u.takeHours m b).red = u.red := by
  unfold State.takeHours
  rw [overdue_red]
  rfl

theorem takeExchange_red (u : State) (m : MirrorData) : (u.takeExchange m).red = u.red := by
  unfold State.takeExchange
  extract_lets v w
  have hw : w.red = u.red := by
    unfold w
    exact alarmIf_red _ _ _ _
  clear_value w
  split
  · exact (foldl_red (fun x b => takeHours_red m x b) four w).trans hw
  · exact hw

theorem frameMirrorReceived_pair {m : MirrorData} (hdom : s.dom 3 = true) (hpair : s.pairUnit = true) :
    exec (.frameMirrorReceived t m) s = .next (if m.active ∧ ¬ s.red.commanding
      then ((s.arrive t).takeExchange { m with active := m.active && !s.red.commanding }).holdMirror m
      else (s.arrive t).takeExchange { m with active := m.active && !s.red.commanding }) := by
  have hred : ((s.arrive t).takeExchange { m with active := m.active && !s.red.commanding }).red.commanding = s.red.commanding :=
    congrArg RedSt.commanding (takeExchange_red (s.arrive t) _)
  have hcond : (s.arrive t).dom 3 = true ∧ (s.arrive t).pairUnit = true := ⟨hdom, hpair⟩
  rw [exec_frameMirrorReceived, execFrameMirrorReceived]
  dsimp only
  rw [if_pos hcond]
  change Host.Outcome.next (if m.active = true ∧
    ¬ ((s.arrive t).takeExchange { m with active := m.active && !s.red.commanding }).red.commanding = true then _ else _) = _
  rw [hred]
  rfl

/-- Settles O27. -/
theorem mirrors : Obligations.Mirrors := by
  unfold Obligations.Mirrors
  intro t m s
  refine ⟨fun hspan => ?_, fun hspan hdom hpair hcommanding => ?_, fun hspan hdom hpair hcommanding hmarks => ?_, fun hpair => ⟨?_, ?_⟩,
    fun hdom hpair hcommanding hactive => ?_, fun hdom hpair hnot => ?_, fun n happlied hlate => ?_, fun n happlied hlate hheld => ?_,
    fun hcommanding hpair hrun hdom => ?_, fun hcommanding => ?_, fun hdom hunit hcommanding happlied => ?_, fun hunit => ?_⟩
  · exact congrArg Host.Outcome.next ((if_neg fun hno => Bool.eq_false_iff.1 hspan hno.1).trans
      (if_neg fun hno => Bool.eq_false_iff.1 hspan hno.1))
  · rw [exec_frameMirrorSend, execFrameMirrorSend]
    dsimp only
    have hcond : (s.arrive t).mirrorSpan = true ∧ (s.arrive t).dom 3 = true ∧ (s.arrive t).pairUnit = true ∧
        ((s.arrive t).red.commanding = true ∨ (s.arrive t).red.marksOut = true) := ⟨hspan, hdom, hpair, Or.inl hcommanding⟩
    rw [if_pos hcond]
    cases hw : s.parB .RED_HAS_W with
    | true => exact congrArg Host.Outcome.next (if_pos hw)
    | false => exact congrArg Host.Outcome.next (if_neg (Bool.eq_false_iff.1 hw))
  · refine congrArg Host.Outcome.next ((if_neg fun hno => ?_).trans (if_pos ⟨hspan, hdom, hpair⟩))
    rcases hno.2.2.2 with hno | hno
    · exact Bool.eq_false_iff.1 hcommanding hno
    · exact Bool.eq_false_iff.1 hmarks hno
  · exact congrArg Host.Outcome.next ((if_neg fun hno => Bool.eq_false_iff.1 hpair hno.2.2.1).trans
      (if_neg fun hno => Bool.eq_false_iff.1 hpair hno.2.2))
  · exact congrArg Host.Outcome.next (if_neg fun hno => Bool.eq_false_iff.1 hpair hno.2)
  · have hsame : (m.active && !s.red.commanding) = m.active := by rw [hcommanding]; exact Bool.and_true _
    rw [frameMirrorReceived_pair hdom hpair, hsame, if_pos ⟨hactive, Bool.eq_false_iff.1 hcommanding⟩]
  · have hoff : (m.active && !s.red.commanding) = false := by rcases hnot with h | h <;> simp [h]
    rw [frameMirrorReceived_pair hdom hpair, hoff]
    refine congrArg Host.Outcome.next (if_neg fun hno => ?_)
    rcases hnot with h | h
    · exact hno.2 h
    · exact Bool.eq_false_iff.1 h hno.1
  · unfold State.holdMirror
    extract_lets _ f
    have hany : f.mirrorApplied.any (fun n => m.frame < n) = true := by
      rw [show f.mirrorApplied = some n from happlied]
      exact decide_eq_true hlate
    exact if_pos hany
  · unfold State.holdMirror
    extract_lets _ f
    have hany : ¬ f.mirrorApplied.any (fun n => m.frame < n) = true := by
      rw [show f.mirrorApplied = some n from happlied]
      exact fun hno => Nat.not_lt.2 hlate (of_decide_eq_true hno)
    rw [if_neg hany]
    show some (match f.mirrorHeld with | none => m | some h => _) = some m
    rw [show f.mirrorHeld = none from hheld]
  · exact congrArg Host.Outcome.next (if_pos ⟨hcommanding, hpair, hrun, hdom⟩)
  · exact congrArg Host.Outcome.next (if_neg fun hno => Bool.eq_false_iff.1 hcommanding hno.1)
  · refine congrArg Host.Outcome.next (if_pos ⟨hdom, hunit, Bool.eq_false_iff.1 hcommanding, ?_⟩)
    rw [show (s.arrive t).frame.mirrorApplied = none from happlied]
    exact Bool.false_ne_true
  · exact congrArg Host.Outcome.next (if_neg fun hno => hunit hno.2.1)

end Sys2Proof.Machine
end

section
/-!
PROOF. The timers of the references and the estimator (O28), of the hold functions and of the berth press (O29).
-/
namespace Sys2Proof.Machine
variable {t i : Nat} {s u : State}

/-! ### References -/

theorem refUnavailable_slot (h : i < u.est.slots.length) (r : Nat) : ((u.refUnavailable i r).slot i).state = .unavailable ∧
    ((u.refUnavailable i r).slot i).reason = r ∧ ∀ k, k ≠ i → (u.refUnavailable i r).slot k = u.slot k := by
  unfold State.refUnavailable
  rw [State.slot_modSlot _ h]
  exact ⟨rfl, rfl, fun k hk => State.slot_modSlot_ne _ hk.symm⟩

theorem refTimeout_due {p : Nat} (hsrc : u.slotSrc i = some p)
    (hlive : (u.slot i).state = .trial ∨ (u.slot i).state = .accepted ∨ (u.slot i).state = .rejected)
    (hdue : u.past (u.slot i).lastUsableAt (u.parNs .REF_TIMEOUT i) = true) :
    ∃ r, u.refTimeout i = u.refUnavailable i r ∧ (r = 17 ∨ r = 19) := by
  have hlive' : ((u.slot i).state = .trial || (u.slot i).state = .accepted || (u.slot i).state = .rejected) = true := by
    simpa [or_assoc] using hlive
  unfold State.refTimeout
  dsimp only
  rw [if_pos ⟨hlive', hdue⟩, hsrc]
  exact ⟨_, rfl, ite_eq_or _ _⟩

/-- A trial that has passed for its time: the slot is accepted and its rejection cleared, and no other slot changes. R61. -/
theorem trialDone_passed {a : Nat} (hslots : i < u.est.slots.length) (htrial : (u.slot i).state = .trial) (hsince : (u.slot i).trialSince = some a)
    (hdue : a + (if (u.acceptedOf (u.slotKind i)).isEmpty then u.parNs .REF_TRIAL_DR i else u.parNs .REF_TRIAL_TIME i) ≤ u.now) :
    ((u.trialDone i).slot i).state = .accepted ∧ ((u.trialDone i).slot i).reason = 0 ∧ (u.trialDone i).alarmOn .REF_REJECTED i = false ∧
      ∀ k, k ≠ i → (u.trialDone i).slot k = u.slot k := by
  have hheld : u.held (u.slot i).trialSince (if (u.acceptedOf (u.slotKind i)).isEmpty then u.parNs .REF_TRIAL_DR i
      else u.parNs .REF_TRIAL_TIME i) = true := by
    rw [hsince]
    exact decide_eq_true hdue
  unfold State.trialDone
  extract_lets z d v
  rw [if_pos ⟨htrial, hheld⟩]
  have hv : (v.slot i).state = .accepted ∧ (v.slot i).reason = 0 ∧ v.alarmOn .REF_REJECTED i = false ∧ ∀ k, k ≠ i → v.slot k = u.slot k := by
    unfold v
    simp only [State.clearAlarm_slot, State.slot_modSlot _ hslots]
    refine ⟨trivial, trivial, ?_, fun k hk => State.slot_modSlot_ne _ hk.symm⟩
    rw [State.clearAlarm_alarmOn _ _ _ _ _ (by decide)]
    simp
  clear_value v
  obtain ⟨hstate, hreason, halarm, hother⟩ := hv
  split
  · simp only [State.clearAlarm_slot]
    refine ⟨hstate, hreason, ?_, hother⟩
    rw [State.clearAlarm_alarmOn _ _ _ _ _ (by decide)]
    exact Bool.and_eq_false_iff.2 (Or.inr halarm)
  · exact ⟨hstate, hreason, halarm, hother⟩

theorem raiseAlarm_on (u : State) (e : EvCode) (k : Nat) (h : e ≠ .LOG_FLOOD) : (u.raiseAlarm e k).alarmOn e k = true := by
  rw [State.raiseAlarm_alarmOn _ _ _ _ _ _ h]
  simp

theorem clearAlarm_off (u : State) (e : EvCode) (k : Nat) (h : e ≠ .LOG_FLOOD) : (u.clearAlarm e k).alarmOn e k = false := by
  rw [State.clearAlarm_alarmOn _ _ _ _ _ h]
  simp

/-- Settles O28. -/
theorem estimatorTimers : Obligations.EstimatorTimers := by
  unfold Obligations.EstimatorTimers
  intro t i s
  refine ⟨fun hi => ⟨guardUnit_out (decide_eq_false (Nat.not_lt.2 hi)), guardUnit_out (decide_eq_false (Nat.not_lt.2 hi))⟩,
    fun p hi hslots hsrc hlive hdue => ?_, fun hi hearly => ?_, fun a hi hslots htrial hsince hdue => ?_, fun hi hnot => ?_,
    fun hdr hlost hdue => ?_, fun hdr hlost hdue => ?_, fun hnot => ?_, fun hrun => ?_, fun hrun => ?_⟩
  · obtain ⟨r, hr, hreason⟩ := refTimeout_due (u := s.arrive t) hsrc hlive (decide_eq_true hdue)
    obtain ⟨hstate, hreason', hother⟩ := refUnavailable_slot (u := s.arrive t) hslots r
    exact ⟨_, r, guardUnit_next (decide_eq_true hi) hr, rfl, hreason, hstate, hreason', hother⟩
  · exact guardUnit_next (decide_eq_true hi) (if_neg fun hno => Nat.not_le.2 hearly (of_decide_eq_true hno.2))
  · obtain ⟨hstate, hreason, halarm, hother⟩ := trialDone_passed (u := s.arrive t) hslots htrial hsince hdue
    exact ⟨_, guardUnit_next (decide_eq_true hi) rfl, hstate, hreason, halarm, hother⟩
  · exact guardUnit_next (decide_eq_true hi) (if_neg fun hno => hnot hno.1)
  · exact ⟨_, congrArg Host.Outcome.next ((if_neg Bool.false_ne_true).trans (if_pos ⟨hdr, Bool.eq_false_iff.1 hlost, decide_eq_true hdue⟩)), raiseAlarm_on _ _ _ (by decide),
      onlyLog_raiseAlarm _ _ _ _⟩
  · exact ⟨_, congrArg Host.Outcome.next ((if_pos rfl).trans (if_pos ⟨hdr, Bool.eq_false_iff.1 hlost, decide_eq_true hdue⟩)), raiseAlarm_on _ _ _ (by decide),
      onlyLog_raiseAlarm _ _ _ _⟩
  · exact congrArg Host.Outcome.next ((if_neg Bool.false_ne_true).trans (if_neg fun hno => Bool.eq_false_iff.1 hnot hno.1))
  · exact ⟨_, congrArg Host.Outcome.next (if_pos hrun), raiseAlarm_on _ _ _ (by decide), onlyLog_raiseAlarm _ _ _ _⟩
  · exact congrArg Host.Outcome.next (if_neg (Nat.not_le.2 hrun))

/-! ### The hold functions -/

theorem raiseAlarm_stays {e e' : EvCode} {k j : Nat} {p : List Word} (h : u.alarmOn e' j = true) (he : e' ≠ .LOG_FLOOD) :
    (u.raiseAlarm e k p).alarmOn e' j = true := by
  rw [State.raiseAlarm_alarmOn _ _ _ _ _ _ he, h, Bool.or_true]

theorem clearAlarm_stays {e e' : EvCode} {k j : Nat} (h : u.alarmOn e' j = false) (he : e' ≠ .LOG_FLOOD) :
    (u.clearAlarm e k).alarmOn e' j = false := by
  rw [State.clearAlarm_alarmOn _ _ _ _ _ he, h, Bool.and_false]

/-- An operation of the hold functions beside records and alarms. -/
theorem OnlyLog.modHold {a b : State} (h : OnlyLog a b) (f : HoldCore → HoldCore) : OnlyLog (a.modHold f) (b.modHold f) := by
  obtain ⟨l, m, rfl⟩ := h
  exact ⟨l, m, rfl⟩

/-- The function goes on with the direct law, with both alarms. R107. -/
theorem mpcFail_direct (u : State) :
    (((u.modHold (fun c => { c with direct := true })).raiseAlarm .MPC_FAIL).degrade 3).alarmOn .MPC_FAIL = true ∧
    (((u.modHold (fun c => { c with direct := true })).raiseAlarm .MPC_FAIL).degrade 3).alarmOn .HOLD_DEGRADED = true ∧
    OnlyLog { u with hold := { u.hold with core := { u.hold.core with direct := true, degraded := true } } }
      (((u.modHold (fun c => { c with direct := true })).raiseAlarm .MPC_FAIL).degrade 3) := by
  have hraise := raiseAlarm_on (u.modHold (fun c => { c with direct := true })) .MPC_FAIL 0 (by decide)
  refine ⟨raiseAlarm_stays hraise (by decide), ?_, ?_⟩
  · rw [State.degrade, State.raiseAlarm_alarmOn _ _ _ _ _ _ (by decide)]
    simp
  · have hfirst := (onlyLog_raiseAlarm (u.modHold (fun c => { c with direct := true })) .MPC_FAIL 0 []).modHold fun c => { c with degraded := true }
    exact onlyLog_trans hfirst (onlyLog_raiseAlarm _ _ _ _)

theorem excAlarm_notFlood (i : Nat) : excAlarm i ≠ .LOG_FLOOD := by
  unfold excAlarm
  exact ite_ne (by decide) (ite_ne (by decide) (ite_ne (by decide) (by decide)))

/-- Settles O29. -/
theorem holdCountersAndBerthPress : Obligations.HoldCountersAndBerthPress := by
  unfold Obligations.HoldCountersAndBerthPress
  constructor
  · intro t i s
    refine ⟨fun hmpc hdirect hfail => ⟨_, congrArg Host.Outcome.next (if_pos ⟨hmpc, Bool.eq_false_iff.1 hdirect, hfail⟩), mpcFail_direct (s.arrive t)⟩,
      fun hfail => ?_, fun hmpc hdirect hok => ⟨_, congrArg Host.Outcome.next (if_pos ⟨hmpc, hdirect, hok⟩), ?_, ?_⟩, fun hdirect => ?_,
      fun a hfrozen hcentred hdue => ?_, fun hfrozen => ?_, fun hi => guardUnit_out (decide_eq_false (Nat.not_lt.2 hi)), fun a hi hbelow hdue => ?_,
      fun hi hbelow => ?_⟩
    · exact congrArg Host.Outcome.next (if_neg fun hno => Nat.not_le.2 hfail hno.2.2)
    · exact clearAlarm_off _ _ _ (by decide)
    · exact onlyLog_clearAlarm _ _ _
    · exact congrArg Host.Outcome.next (if_neg fun hno => Bool.eq_false_iff.1 hdirect hno.2.1)
    · have hheld : (s.arrive t).held s.hold.core.joyCentredAt 500000000 = true := by
        rw [hcentred]
        exact decide_eq_true hdue
      exact congrArg Host.Outcome.next (if_pos ⟨hfrozen, hheld⟩)
    · exact congrArg Host.Outcome.next (if_neg fun hno => Bool.eq_false_iff.1 hfrozen hno.1)
    · have hheld : (s.arrive t).held (assoc s.hold.excBelow i) 10000000000 = true := by
        rw [hbelow]
        exact decide_eq_true hdue
      exact ⟨_, guardUnit_next (decide_eq_true hi) (if_pos hheld), clearAlarm_off _ _ _ (excAlarm_notFlood i), onlyLog_clearAlarm _ _ _⟩
    · have hheld : ¬ (s.arrive t).held (assoc s.hold.excBelow i) 10000000000 = true := by
        rw [hbelow]
        exact Bool.false_ne_true
      exact guardUnit_next (decide_eq_true hi) (if_neg hheld)
  · intro t s
    refine ⟨fun a hfunc hstate hstall hdue => ?_, fun hnone => ?_, fun hfunc hstate hdue => ?_, fun hfunc => ⟨?_, ?_, ?_⟩,
      fun hfunc hstate hlost => ?_⟩
    · have hheld : (s.arrive t).held s.hold.core.bprStallSince (s.parNs .BPR_STALL_TIME) = true := by
        rw [hstall]
        exact decide_eq_true hdue
      have hst : (if s.hold.core.bprState = 5 ∨ s.hold.core.bprF = s.pressForce then 4 else 3) =
          if s.hold.core.bprState = 5 then 4 else if s.hold.core.bprF = s.pressForce then 4 else 3 := by
        by_cases hfive : s.hold.core.bprState = 5
        · rw [if_pos (Or.inl hfive), if_pos hfive]
        · rw [if_neg hfive]
          simp only [hfive, false_or]
      rw [hst]
      exact ⟨_, congrArg Host.Outcome.next (if_pos ⟨hfunc, hstate, hheld⟩), clearAlarm_stays (clearAlarm_off _ _ _ (by decide)) (by decide),
        clearAlarm_off _ _ _ (by decide), onlyLog_trans (onlyLog_clearAlarm _ _ _) (onlyLog_clearAlarm _ _ _)⟩
    · refine congrArg Host.Outcome.next (if_neg fun hno => ?_)
      rw [show (s.arrive t).hold.core.bprStallSince = none from hnone] at hno
      exact Bool.false_ne_true hno.2.2
    · exact ⟨_, congrArg Host.Outcome.next (if_pos ⟨hfunc, hstate, decide_eq_true hdue⟩), raiseAlarm_on _ _ _ (by decide),
        onlyLog_raiseAlarm _ _ _ _⟩
    · exact congrArg Host.Outcome.next (if_neg fun hno => hfunc hno.1)
    · exact congrArg Host.Outcome.next (if_neg fun hno => hfunc hno.1)
    · exact congrArg Host.Outcome.next (if_neg fun hno => hfunc hno.1)
    · have hloss : s.par .BPR_LOSS_DIST < s.hold.core.gap ∨ (s.arrive t).held s.hold.core.bprLossSince 1000000000 = true := by
        refine hlost.imp id fun ⟨a, hsince, hdue⟩ => ?_
        rw [hsince]
        exact decide_eq_true hdue
      exact ⟨_, congrArg Host.Outcome.next (if_pos ⟨hfunc, hstate, hloss⟩), raiseAlarm_on _ _ _ (by decide), onlyLog_raiseAlarm _ _ _ _⟩

end Sys2Proof.Machine
end

section
/-!
PROOF. Power envelopes (O30), and the timers of allocation and consequence analysis (O31).
-/
namespace Sys2Proof.Machine
variable {t n k port sof : Nat} {f : CanFrame} {s u : State}

/-! ### Power envelope messages -/

/-- The checks of a power envelope message. R151. -/
def pwrSound (f : CanFrame) : Bool := f.fd && f.data.length = 16 && f.prio = 2 && f.crcOk && pwrRange f.data

/-- The source of a section that a message's source number names. R151. -/
def PwrSection.source (x : PwrSection) (k : Nat) : PwrSource := if k = 1 then x.src1 else x.src2

theorem powerEnvelope_next (hport : between 1 port 4 = true) (hdom : s.dom 10 = true) (hext : f.ext = true) (hfunc : f.func = 0x040)
    (hindex : between 1 f.index 4 = true) (hsrc : s.pwrSourceOf f.index port f = some k) : exec (.powerEnvelopeMessage t port sof f) s =
      .next (if ¬ pwrSound f = true then ((s.arrive t).modSect f.index (fun x => { x with bad := x.bad + 1 })).event .PWR_MSG_BAD [wN port, wN f.id]
        else if ((s.sect f.index).source k).counter = some (byte (fld f.data 13 1)) then s.arrive t
        else (s.arrive t).modSect f.index (fun x => { x with
          src1 := if k = 1 then ((s.sect f.index).source k).take sof f.data else x.src1
          src2 := if k = 1 then x.src2 else ((s.sect f.index).source k).take sof f.data, state := if x.state = 1 then 2 else x.state })) := by
  have hsrc' : (s.arrive t).pwrSourceOf f.index port f = some k := hsrc
  have hcond : ¬ (¬ (s.arrive t).dom 10 = true ∨ ¬ f.ext = true ∨ f.func ≠ 0x040 ∨ ¬ between 1 f.index 4 = true) := by
    rintro (h | h | h | h)
    · exact h hdom
    · exact h hext
    · exact h hfunc
    · exact h hindex
  refine guardUnit_next hport ((if_neg hcond).trans ?_)
  rw [hsrc']
  rfl

theorem powerEnvelope_noSource (hport : between 1 port 4 = true) (hsrc : s.pwrSourceOf f.index port f = none) :
    exec (.powerEnvelopeMessage t port sof f) s = .next (s.arrive t) := by
  refine guardUnit_next hport ?_
  dsimp only
  rw [show (s.arrive t).pwrSourceOf f.index port f = none from hsrc]
  exact ite_self _

/-! ### The state of a section -/

theorem sectStale_current (h : u.pwrCurrent (u.sect n).src1 = true ∨ u.pwrCurrent (u.sect n).src2 = true) : u.sectStale n = u := if_pos h

/-- A section without a current source is STALE. R153. -/
theorem sectStale_stale (h1 : u.pwrCurrent (u.sect n).src1 = false) (h2 : u.pwrCurrent (u.sect n).src2 = false) : u.sectStale n =
    ((u.modSect n (fun x => { x with state := 1, src1 := { x.src1 with run := 0 }, src2 := { x.src2 with run := 0 } })).envelope n).raiseAlarm
      .PWR_ENV_STALE n := by
  refine if_neg ?_
  rintro (h | h)
  · exact Bool.eq_false_iff.1 h1 h
  · exact Bool.eq_false_iff.1 h2 h

/-- Settles O30. -/
theorem powerEnvelopes : Obligations.PowerEnvelopes := by
  unfold Obligations.PowerEnvelopes
  intro t port sof n f s
  refine ⟨fun hport => guardUnit_out hport, fun hport hsrc => powerEnvelope_noSource hport hsrc,
    fun k hport hdom hext hfunc hindex hsrc hbad => ?_, fun hport hdom hext hfunc hindex hsrc hok hcount => ?_,
    fun hport hdom hext hfunc hindex hsrc hok hcount => ?_, fun hport hdom hext hfunc hindex hsrc hok hcount => ?_,
    fun hport hdom hext hfunc hindex hsrc hok hcount => ?_, fun hn => ⟨guardUnit_out hn, guardUnit_out hn, guardUnit_out hn⟩,
    fun hn hcurrent => guardUnit_next hn (sectStale_current (u := s.arrive t) hcurrent), fun hn h1 h2 => ?_, fun hn hstate hfresh => ?_,
    fun hn hstate => guardUnit_next hn (if_neg fun hno => hstate hno.1), fun hn hbind => ?_, fun hn hbind hfree => ?_⟩
  · have hbad' : ¬ pwrSound f = true := Bool.eq_false_iff.1 hbad
    rw [powerEnvelope_next hport hdom hext hfunc hindex hsrc, if_pos hbad']
    exact ⟨_, rfl, onlyLog_event _ _ _⟩
  · have hok' : pwrSound f = true := hok
    rw [powerEnvelope_next hport hdom hext hfunc hindex hsrc, if_neg (Classical.not_not.2 hok'), if_neg (show ¬ ((s.sect f.index).source 1).counter = _ from hcount)]
    rfl
  · have hok' : pwrSound f = true := hok
    rw [powerEnvelope_next hport hdom hext hfunc hindex hsrc, if_neg (Classical.not_not.2 hok'), if_pos (show ((s.sect f.index).source 1).counter = _ from hcount)]
  · have hok' : pwrSound f = true := hok
    rw [powerEnvelope_next hport hdom hext hfunc hindex hsrc, if_neg (Classical.not_not.2 hok'), if_neg (show ¬ ((s.sect f.index).source 2).counter = _ from hcount)]
    rfl
  · have hok' : pwrSound f = true := hok
    rw [powerEnvelope_next hport hdom hext hfunc hindex hsrc, if_neg (Classical.not_not.2 hok'), if_pos (show ((s.sect f.index).source 2).counter = _ from hcount)]
  · exact ⟨_, guardUnit_next hn (sectStale_stale (u := s.arrive t) h1 h2), raiseAlarm_on _ _ _ (by decide), onlyLog_raiseAlarm _ _ _ _⟩
  · exact ⟨_, guardUnit_next hn (if_pos ⟨hstate, hfresh⟩), clearAlarm_off _ _ _ (by decide), onlyLog_clearAlarm _ _ _⟩
  · exact ⟨_, guardUnit_next hn (if_pos hbind), raiseAlarm_on _ _ _ (by decide), onlyLog_raiseAlarm _ _ _ _⟩
  · exact ⟨_, guardUnit_next hn ((if_neg (Nat.not_le.2 hbind)).trans (if_pos hfree)), clearAlarm_off _ _ _ (by decide), onlyLog_clearAlarm _ _ _⟩

/-! ### Allocation and consequence analysis -/

theorem held_some {a d : Nat} {x : Option Nat} (hx : x = some a) (hdue : a + d ≤ u.now) : u.held x d = true := by
  rw [hx]
  exact decide_eq_true hdue

theorem held_none {x : Option Nat} {d : Nat} (hx : x = none) : ¬ u.held x d = true := by
  rw [hx]
  exact Bool.false_ne_true

theorem envelopeEnd_at {m : Nat} (h : s.cqa.envFrame = some m) :
    exec (.capabilityEnvelopeEnd t) s = .next (if 49 ≤ m then (s.arrive t).envEnd else s.arrive t) := by
  rw [exec_capabilityEnvelopeEnd, execCapabilityEnvelopeEnd, show (s.arrive t).cqa.envFrame = some m from h]

/-- The alarm of consequence analysis ends with the last case in alarm. R183. -/
theorem consequence_clears {v : State} (h : OnlyLog u v) :
    OnlyLog u (if v.cqa.cases.any (fun x => x.inAlarm) then v else v.clearAlarm .CONSEQUENCE) ∧
      ((∀ x ∈ (if v.cqa.cases.any (fun x => x.inAlarm) then v else v.clearAlarm .CONSEQUENCE).cqa.cases, x.inAlarm = false) →
        (if v.cqa.cases.any (fun x => x.inAlarm) then v else v.clearAlarm .CONSEQUENCE).alarmOn .CONSEQUENCE = false) := by
  split
  · next hany =>
    obtain ⟨x, hx, halarm⟩ := List.any_eq_true.1 hany
    exact ⟨h, fun hall => absurd halarm (Bool.eq_false_iff.1 (hall x hx))⟩
  · exact ⟨onlyLog_trans h (onlyLog_clearAlarm _ _ _), fun _ => clearAlarm_off _ _ _ (by decide)⟩

/-- Settles O31. -/
theorem allocationAndConsequenceTimers : Obligations.AllocationAndConsequenceTimers := by
  unfold Obligations.AllocationAndConsequenceTimers
  constructor
  · intro t s
    refine ⟨fun hrun => ⟨_, congrArg Host.Outcome.next (if_pos hrun), raiseAlarm_on _ _ _ (by decide), onlyLog_raiseAlarm _ _ _ _⟩,
      fun hrun => congrArg Host.Outcome.next (if_neg (Nat.not_le.2 hrun)), fun a hover hdue => ?_, fun a hover hunder hdue => ?_,
      fun hover hunder => ?_, fun hdue hrun => congrArg Host.Outcome.next (if_pos ⟨decide_eq_true hdue, hrun⟩),
      fun hearly => congrArg Host.Outcome.next (if_neg fun hno => Nat.not_le.2 hearly (of_decide_eq_true hno.1))⟩
    · exact ⟨_, congrArg Host.Outcome.next (if_pos (held_some (u := s.arrive t) hover hdue)), raiseAlarm_on _ _ _ (by decide),
        onlyLog_raiseAlarm _ _ _ _⟩
    · exact ⟨_, congrArg Host.Outcome.next ((if_neg (held_none (u := s.arrive t) hover)).trans (if_pos (held_some (u := s.arrive t) hunder hdue))),
        clearAlarm_off _ _ _ (by decide), onlyLog_clearAlarm _ _ _⟩
    · exact congrArg Host.Outcome.next ((if_neg (held_none (u := s.arrive t) hover)).trans (if_neg (held_none (u := s.arrive t) hunder)))
  · intro t k s
    refine ⟨fun hk => ⟨guardUnit_out hk, guardUnit_out hk⟩, fun hk hruns halarm hdue => ?_,
      fun hk hruns => guardUnit_next hk (if_neg fun hno => Bool.eq_false_iff.1 hruns hno.1), fun hk halarm hdue => ?_,
      fun hk halarm => guardUnit_next hk (if_neg fun hno => Bool.eq_false_iff.1 halarm hno.1), fun ⟨x, hx, hstate, hdue⟩ => ?_, fun hnone => ?_,
      fun hon hposes hrun hidle => ?_, fun hoff => congrArg Host.Outcome.next (if_neg fun hno => Bool.eq_false_iff.1 hoff hno.1), fun m hm hend => ?_,
      fun m hm hend => ?_, fun hnone => ?_⟩
    · exact ⟨_, guardUnit_next hk (if_pos ⟨hruns, Bool.eq_false_iff.1 halarm, hdue⟩), raiseAlarm_on _ _ _ (by decide),
        onlyLog_trans (onlyLog_raiseAlarm _ _ _ _) (onlyLog_raiseAlarm _ _ _ _)⟩
    · refine ⟨_, guardUnit_next hk (if_pos ⟨halarm, hdue⟩), consequence_clears ?_⟩
      exact onlyLog_trans (onlyLog_dropAlarm _ _ _) (onlyLog_submitRec _ _ _ _ _)
    · refine ⟨_, congrArg Host.Outcome.next (if_pos ?_), raiseAlarm_on _ _ _ (by decide), onlyLog_raiseAlarm _ _ _ _⟩
      exact List.any_eq_true.2 ⟨x, hx, (Bool.and_eq_true _ _).mpr ⟨decide_eq_true hstate, decide_eq_true hdue⟩⟩
    · refine congrArg Host.Outcome.next (if_neg ?_)
      rw [List.any_eq_true]
      rintro ⟨x, hx, hno⟩
      exact hnone x hx (of_decide_eq_true ((Bool.and_eq_true _ _).mp hno).1)
    · refine congrArg Host.Outcome.next (if_pos ⟨hon, hposes, hrun, ?_⟩)
      rcases hidle with h | ⟨m, h, hm⟩
      · rw [show (s.arrive t).cqa.envFrame = none from h]
      · rw [show (s.arrive t).cqa.envFrame = some m from h]
        exact decide_eq_true hm
    · rw [envelopeEnd_at hm, if_pos hend]
    · rw [envelopeEnd_at hm, if_neg (Nat.not_le.2 hend)]
    · rw [exec_capabilityEnvelopeEnd, execCapabilityEnvelopeEnd, show (s.arrive t).cqa.envFrame = none from hnone]

end Sys2Proof.Machine
end

section
/-!
PROOF. Submissions to the hold engine (O32), the ends of its problems and jobs, and its clusters (O33).
-/
namespace Sys2Proof.Machine
variable {t q i : Nat} {who : Who} {v tag : Word} {s u : State}

/-! ### Submissions -/

/-- The requesters that may submit to a queue. R19, R213. -/
def submits (who : Who) (q : Nat) : Prop := who = .app0 ∨ who = .app1 ∨ (who = .part ∧ 2 ≤ q)

/-- The descriptor address a SUB_HI write gives. R213. -/
def State.subAddr (u : State) (q : Nat) (who : Who) (v : Word) : Nat := v.toNat % 256 * 2 ^ 32 + ((u.hq q).subs.getD who.req {}).lo.toNat

/-- The check of a SUB_HI write's descriptor. R213. -/
def State.subCheck (u : State) (q : Nat) (who : Who) (v : Word) : Nat :=
  u.henCheck q (u.subAddr q who v) (Memory.read u.dram.cells (u.subAddr q who v) 64) (if who = .part then partLo else sharedLo)
    (if who = .part then partHi else sharedHi)

/-- SUB_HI's RESULT. R213. -/
def State.subResult (u : State) (q : Nat) (who : Who) (c : Nat) : State :=
  u.modHq q (fun x => { x with subs := x.subs.modify who.req (fun y => { y with res := c }) })

theorem henSubmit_eq (hwho : submits who q) : u.henSubmit q who v =
    if u.subCheck q who v = 0 then
      (u.subResult q who (u.subCheck q who v)).henAccept q { descJob (Memory.read u.dram.cells (u.subAddr q who v) 64) with
        origin := if who = .app0 then .app0 else if who = .app1 then .app1 else .partition }
          (fld (Memory.read u.dram.cells (u.subAddr q who v) 64) 16 4)
    else (u.subResult q who (u.subCheck q who v)).modHq q (fun x => { x with refusals := x.refusals + 1, intRefused := true }) := by
  rcases hwho with rfl | rfl | ⟨rfl, -⟩ <;> rfl

theorem subHiWrite_submits (hq : q < 4) (hwho : submits who q) : exec (.henSubHiWrite t q who v) s =
    .next (if s.dom 1 then ((s.arrive t).henSubmit q who v).henSettle else s.arrive t) := by
  refine guardUnit_next (decide_eq_true hq) ?_
  rcases hwho with rfl | rfl | ⟨rfl, hpart⟩
  · rfl
  · rfl
  · exact if_neg (Nat.not_lt.2 hpart)

theorem onlyLog_partViolation (h : u.sent = []) (a : Nat) : OnlyLog { u with
    sent := [.busError .part a], part := { u.part with lastBusError := a, busErrors := u.part.busErrors + 1 } } (u.partViolation a) :=
  onlyLog_busErr (u := { u with part := { u.part with lastBusError := a, busErrors := u.part.busErrors + 1 } }) (onlyLog_event _ _ _) h

theorem subHiWrite_part (hq : q < 2) :
    exec (.henSubHiWrite t q .part v) s = .next ((s.arrive t).partViolation (0x40030104 + 0x40 * q)) :=
  guardUnit_next (decide_eq_true (by omega)) (if_pos hq)

theorem henQPop_next (hq : q < 4) : exec (.henQPop t q) s = .next ((s.arrive t).modHq q (fun x => { x with done := x.done.drop 1 })) :=
  guardUnit_next (decide_eq_true hq) rfl

/-- A command of a numbered unit that the module has completes. -/
theorem guardUnit_completes {ok : Bool} {n : Nat} (hok : ok = true) : ∃ w, guardUnit ok n u = .next w := ⟨u, guardUnit_in hok⟩

/-- Settles O32. -/
theorem engineSubmissions : Obligations.EngineSubmissions := by
  unfold Obligations.EngineSubmissions
  intro t q who v s
  refine ⟨fun hq => ⟨guardUnit_out (decide_eq_false (Nat.not_lt.2 hq)), guardUnit_out (decide_eq_false (Nat.not_lt.2 hq))⟩,
    fun hq => ⟨_, subHiWrite_part hq, onlyLog_partViolation (u := s.arrive t) rfl _⟩, fun hq hdom hwho => ?_, fun hq hwho => ?_,
    fun c a hq hdom hwho ha hc hne => ?_, fun a hq hdom hwho ha hc => ?_, fun hq hlen => ?_,
    fun hq => ⟨guardUnit_completes (decide_eq_true hq), guardUnit_completes (decide_eq_true hq)⟩⟩
  · rw [subHiWrite_submits hq hwho, if_neg (Bool.eq_false_iff.1 hdom)]
  · refine guardUnit_next (decide_eq_true hq) ?_
    rcases hwho with rfl | rfl <;> rfl
  · subst ha hc
    rw [subHiWrite_submits hq hwho, if_pos hdom, henSubmit_eq hwho, if_neg (show ¬ (s.arrive t).subCheck q who v = 0 from hne)]
    rfl
  · subst ha
    have hcheck : (s.arrive t).subCheck q who v = 0 := hc
    rw [subHiWrite_submits hq hwho, if_pos hdom, henSubmit_eq hwho, if_pos hcheck, hcheck]
    rfl
  · refine ⟨_, henQPop_next hq, ?_⟩
    rw [State.hq_modHq _ (show q < (s.arrive t).hen.queues.length from hlen)]
    exact ⟨rfl, rfl, fun k hk => State.hq_modHq_ne _ hk.symm⟩

/-! ### Ends of problems and jobs -/

theorem problemEnd_run {r : HenRun} (hrun : (u.cl i).run = some r) : u.problemEnd i =
    ((u.modCl i (fun c => { c with run := none })).putResult r.queue r.job r.index ((r.prob.result r.prob.iter).res 0 i r.suspended)).checkJob
      r.queue r.job := by
  unfold State.problemEnd
  rw [hrun]

theorem henProblemEnd_idle (hi : i < 2) (hrun : (s.cl i).run = none) (both : Bool) : exec (.henProblemEnd t i both) s = .next (s.arrive t) := by
  refine guardUnit_next (decide_eq_true hi) (if_neg ?_)
  rw [show ((s.arrive t).cl i).run = none from hrun]
  exact Bool.false_ne_true

theorem henProblemEnd_run {r : HenRun} (hi : i < 2) (hrun : (s.cl i).run = some r) : exec (.henProblemEnd t i false) s =
      .next ((s.arrive t).problemEnd i).henGo.henSettle ∧
    exec (.henProblemEnd t i true) s = .next (((s.arrive t).problemEnd 0).problemEnd 1).henGo.henSettle := by
  have hsome : ((s.arrive t).cl i).run.isSome = true := by rw [show ((s.arrive t).cl i).run = some r from hrun]; rfl
  exact ⟨guardUnit_next (decide_eq_true hi) (if_pos hsome), guardUnit_next (decide_eq_true hi) (if_pos hsome)⟩

theorem henSuspensionPoint_next (hi : i < 2) (both : Bool) : exec (.henSuspensionPoint t i both) s =
    .next (if both then ((s.arrive t).suspPoint 0).suspPoint 1 else (s.arrive t).suspPoint i) :=
  guardUnit_next (decide_eq_true hi) rfl

theorem suspPoint_idle (hrun : (u.cl i).run = none) : u.suspPoint i = u := by
  unfold State.suspPoint
  rw [hrun]

theorem suspPoint_run {r : HenRun} (hrun : (u.cl i).run = some r) : u.suspPoint i = u.suspend i r := by
  unfold State.suspPoint
  rw [hrun]

/-- The iterations an iterative problem has made lie between those it had and its limit. R209. -/
theorem itersNow_iterative {r : HenRun} {lim : Nat} (h : iterative r.prob.op = true) :
    (u.itersNow r lim).1 ≤ lim ∧ (u.itersNow r lim).2 = { u with free := u.free + 1 } := by
  unfold State.itersNow
  dsimp only
  rw [if_neg (Classical.not_not.2 h)]
  refine ⟨?_, rfl⟩
  dsimp only
  generalize u.freeW.1.toNat = w
  generalize hmin : min lim (r.iters + (u.now - r.startAt - if r.suspended = true then 1000 else 0) * r.prob.iter / r.prob.maxNs) = least
  have hleast : least ≤ lim := hmin ▸ Nat.min_le_left _ _
  have hmod : w % (lim - least + 1) < lim - least + 1 := Nat.mod_lt _ (Nat.succ_pos _)
  show least + w % (lim - least + 1) ≤ lim
  omega

/-- A suspended problem, and the state of the cluster that it leaves. R212. -/
def State.suspended (u : State) (i : Nat) (r : HenRun) (n : Nat) : State :=
  State.modCl { u with free := u.free + 1, hen := { u.hen with suspends := u.hen.suspends + 1 } } i (fun c => { c with
    run := none, susp := some { r with iters := n, suspended := true, suspAt := some u.now, suspBefore := r.suspended } })

/-- An iterative problem gives its cluster to a lower-numbered queue at its suspension point. R212. -/
theorem suspend_lower {r : HenRun} {k : Nat} {j : HenJob} (hwork : u.nextWork i = some (k, j)) (hk : k < r.queue) (hsusp : (u.cl i).susp = none)
    (hop : iterative r.prob.op = true) (hiter : r.iters + 1 < r.prob.iter) :
    ∃ n, r.iters < n ∧ n < r.prob.iter ∧ u.suspend i r = ((u.suspended i r n).dispatch i k j true).henGo := by
  obtain ⟨hle, hfree⟩ := itersNow_iterative (u := u) (r := r) (lim := r.prob.iter - 1) hop
  refine ⟨max (r.iters + 1) (u.itersNow r (r.prob.iter - 1)).1, by omega, by omega, ?_⟩
  have hcond : ¬ (r.queue ≤ k ∨ (u.cl i).susp.isSome = true ∨ ¬ iterative r.prob.op = true ∨ r.prob.iter ≤ r.iters + 1) := by
    rintro (h | h | h | h)
    · omega
    · rw [hsusp] at h
      cases h
    · exact h hop
    · omega
  unfold State.suspend
  rw [hwork]
  dsimp only
  rw [if_neg hcond, hfree]
  unfold State.suspended State.modCl
  split <;> rfl

theorem suspend_higher {r : HenRun} {k : Nat} {j : HenJob} (hwork : u.nextWork i = some (k, j)) (hk : r.queue ≤ k) : u.suspend i r = u := by
  unfold State.suspend
  rw [hwork]
  exact if_pos (Or.inl hk)

theorem henJobDeadline_job {id a : Nat} {j : HenJob} {ends : List Nat} (hq : q < 4) (hjob : s.job? q id = some j) (hdl : j.deadline = some a) :
    exec (.henJobDeadline t q id ends) s = .next (if a ≤ (s.arrive t).raw
      then (((s.arrive t).endFirst ends).endJob q id false).henGo.henSettle else s.arrive t) := by
  refine guardUnit_next (decide_eq_true hq) ?_
  rw [show (s.arrive t).job? q id = some j from hjob]
  dsimp only
  rw [hdl]

theorem henJobDeadline_none {id : Nat} {ends : List Nat} (hq : q < 4) (hjob : s.job? q id = none) :
    exec (.henJobDeadline t q id ends) s = .next (s.arrive t) := by
  refine guardUnit_next (decide_eq_true hq) ?_
  rw [show (s.arrive t).job? q id = none from hjob]

theorem henQCancelWrite_next {ends : List Nat} (hq : q < 4) : exec (.henQCancelWrite t q tag ends) s =
    .next ((((s.arrive t).endFirst ends).henCancel q tag false).henGo.henSettle) := guardUnit_next (decide_eq_true hq) rfl

/-- The oldest job of a queue with the tag ends: with what it has where it has started, aborted where it has not. R219. -/
theorem henCancel_job {j : HenJob} (hfind : (u.hq q).jobs.find? (fun j => decide (j.tag = tag)) = some j) (hjob : u.job? q j.id = some j) :
    u.henCancel q tag false = (if j.started then u.endJob q j.id true else u.completeJob q j.id 2 3 true).henGo := by
  unfold State.henCancel
  simp only [Bool.not_false, Bool.true_or, Bool.and_true]
  rw [hfind]
  dsimp only
  rw [State.cancelJob, hjob]

theorem henQEnClear_next (hq : q < 4) : exec (.henQEnClear t q) s =
    .next (if (s.hq q).en then ((s.arrive t).henDisable q 0).henGo.henSettle else s.arrive t) := guardUnit_next (decide_eq_true hq) rfl

/-- Settles O33. -/
theorem engineEndsAndClusters : Obligations.EngineEndsAndClusters := by
  unfold Obligations.EngineEndsAndClusters
  constructor
  · intro t i q id tag s
    refine ⟨fun hi both => ⟨guardUnit_out (decide_eq_false (Nat.not_lt.2 hi)), guardUnit_out (decide_eq_false (Nat.not_lt.2 hi))⟩,
      fun hq ends => ⟨guardUnit_out (decide_eq_false (Nat.not_lt.2 hq)), guardUnit_out (decide_eq_false (Nat.not_lt.2 hq)),
        guardUnit_out (decide_eq_false (Nat.not_lt.2 hq))⟩, fun hi hrun => ⟨fun both => ?_, ?_⟩, fun r hi hrun => ⟨?_, ?_⟩,
      fun r k j hi hrun hwork hk hsusp hop hiter => ?_, fun hi => henSuspensionPoint_next hi true, fun r k j hi hrun hwork hk => ?_,
      fun j a ends hq hjob hdl hdue => ?_, fun j a ends hq hjob hdl hearly => ?_, fun ends hq hjob => henJobDeadline_none hq hjob,
      fun ends hq => henQCancelWrite_next hq, fun j hq hfind hjob hstarted => ?_, fun j hq hfind hjob hstarted => ?_, fun hq hen => ?_,
      fun hq hen => ?_, fun hi both => ⟨guardUnit_completes (decide_eq_true hi), guardUnit_completes (decide_eq_true hi)⟩,
      fun hq ends => ⟨guardUnit_completes (decide_eq_true hq), guardUnit_completes (decide_eq_true hq), guardUnit_completes (decide_eq_true hq)⟩⟩
    · exact henProblemEnd_idle hi hrun both
    · rw [henSuspensionPoint_next hi]
      exact congrArg Host.Outcome.next (suspPoint_idle (u := s.arrive t) hrun)
    · rw [(henProblemEnd_run hi hrun).1, problemEnd_run (u := s.arrive t) hrun]
    · exact (henProblemEnd_run hi hrun).2
    · obtain ⟨n, hn, hlim, hsuspend⟩ := suspend_lower (u := s.arrive t) hwork hk hsusp hop hiter
      refine ⟨n, hn, hlim, ?_⟩
      rw [henSuspensionPoint_next hi]
      exact congrArg Host.Outcome.next ((suspPoint_run (u := s.arrive t) hrun).trans hsuspend)
    · rw [henSuspensionPoint_next hi]
      exact congrArg Host.Outcome.next ((suspPoint_run (u := s.arrive t) hrun).trans (suspend_higher (u := s.arrive t) hwork hk))
    · rw [henJobDeadline_job hq hjob hdl, if_pos hdue]
    · rw [henJobDeadline_job hq hjob hdl, if_neg (Nat.not_le.2 hearly)]
    · rw [henQCancelWrite_next hq, show (s.arrive t).endFirst [] = s.arrive t from rfl, henCancel_job (u := s.arrive t) hfind hjob, hstarted,
        if_neg Bool.false_ne_true]
    · rw [henQCancelWrite_next hq, show (s.arrive t).endFirst [] = s.arrive t from rfl, henCancel_job (u := s.arrive t) hfind hjob, hstarted,
        if_pos rfl]
    · rw [henQEnClear_next hq, if_pos hen]
    · rw [henQEnClear_next hq, if_neg (Bool.eq_false_iff.1 hen)]
  · intro t i s
    refine ⟨fun hi b => ⟨guardUnit_out (decide_eq_false (Nat.not_lt.2 hi)), guardUnit_out (decide_eq_false (Nat.not_lt.2 hi)),
        guardUnit_out (decide_eq_false (Nat.not_lt.2 hi)), guardUnit_out (decide_eq_false (Nat.not_lt.2 hi))⟩,
      fun hi hen => guardUnit_next (decide_eq_true hi) (if_pos hen),
      fun hi hen => guardUnit_next (decide_eq_true hi) (if_neg (Bool.eq_false_iff.1 hen)),
      fun hi hoff b => ⟨guardUnit_next (decide_eq_true hi) (if_pos (Bool.eq_false_iff.1 hoff)),
        guardUnit_next (decide_eq_true hi) (if_neg (Bool.eq_false_iff.1 hoff))⟩, fun hi hon => ?_, fun hi hon => ?_,
      fun hi hon => guardUnit_next (decide_eq_true hi) (if_pos hon),
      fun hi hdrain hdom hdone => guardUnit_next (decide_eq_true hi) (if_pos ⟨hdrain, hdom, hdone⟩),
      fun hi hdrain => guardUnit_next (decide_eq_true hi) (if_neg fun hno => Bool.eq_false_iff.1 hdrain hno.1),
      fun hi b => ⟨guardUnit_completes (decide_eq_true hi), guardUnit_completes (decide_eq_true hi), guardUnit_completes (decide_eq_true hi),
        guardUnit_completes (decide_eq_true hi)⟩⟩
    · exact guardUnit_next (decide_eq_true hi) ((if_neg (Classical.not_not.2 (show ((s.arrive t).cl i).powered = true from hon))).trans (if_pos rfl))
    · exact guardUnit_next (decide_eq_true hi)
        ((if_neg (Classical.not_not.2 (show ((s.arrive t).cl i).powered = true from hon))).trans (if_neg Bool.false_ne_true))

end Sys2Proof.Machine
end

section
/-!
PROOF. The thruster channels: writes of their registers (O34), feedback frames (O35) and timed supervision (O36).
-/
namespace Sys2Proof.Machine
variable {t c bit port sof : Nat} {f : CanFrame} {s u : State}

/-! ### SEAL -/

theorem thrSeal_sealed (h : (u.tch c).sealed = true) : u.thrSeal c = u := if_pos h

/-- SEAL before the commit locks the shadow set and builds its frame. R237. -/
theorem thrSeal_inTime (hopen : (u.tch c).sealed = false) (hconf : u.tconf c = true) (hcommit : u.frame.phaseCommit = false) :
    u.thrSeal c = (u.modTch c (fun x => { x with sealed := true, sealedAt := u.now, withdrawnAt := none })).placeTimed c true false := by
  have hconf' : ∀ f, (u.modTch c f).tconf c = true := fun _ => hconf
  simp [State.thrSeal, hopen, hcommit, hconf']

/-- SEAL after the commit is late. R241. -/
theorem thrSeal_late (hopen : (u.tch c).sealed = false) (hconf : u.tconf c = true) (hcommit : u.frame.phaseCommit = true) :
    u.thrSeal c = (u.modTch c (fun x => { x with
      sealed := true, sealedAt := u.now, withdrawnAt := none, sealLateF := true, sealLates := satInc 255 x.sealLates })).placeTimed c true true := by
  have hconf' : ∀ f, (u.modTch c f).tconf c = true := fun _ => hconf
  simp [State.thrSeal, hopen, hcommit, hconf']

/-! ### WITHDRAW -/

theorem thrWithdraw_noPort (hseal : (u.tch c).sealed = true) (hlatch : (u.tch c).latch = false) (hport : u.tport c = 0) :
    u.thrWithdraw c = u.modTch c (fun x => { x with sealed := false, withdrawnAt := some u.now }) := by
  simp [State.thrWithdraw, hseal, hlatch, hport]

/-- WITHDRAW in time cancels the channel's frame in its mailbox. R239. -/
theorem thrWithdraw_port (hseal : (u.tch c).sealed = true) (hlatch : (u.tch c).latch = false) (hport : u.tport c ≠ 0) :
    u.thrWithdraw c = (u.cancelBox (u.tport c) (boxOf c false) abCancelled).modTch c (fun x => { x with
      sealed := false, withdrawnAt := some u.now }) := by
  have hnow := (onlyPorts_cancelBox u (u.tport c) (boxOf c false) abCancelled).now
  simp [State.thrWithdraw, hseal, hlatch, hport, hnow]

/-! ### The authority of the channels -/

theorem exec_thrAuthWrite_powered (hd : s.dom 10 = true) (t : Nat) (b : Bool) :
    exec (.thrAuthWrite t b) s = .next ((s.arrive t).thrAuth b false) := congrArg Host.Outcome.next (if_pos hd)

theorem exec_thrAoHoldExpiry_held {e : Nat} (h : s.thr.aoHoldUntil = some e) :
    exec (.thrAoHoldExpiry t) s = .next (if max s.now t < e then s.arrive t else (s.arrive t).thrHoldEnd) := by
  rw [exec_thrAoHoldExpiry, execThrAoHoldExpiry, show (s.arrive t).thr.aoHoldUntil = some e from h]
  rfl

/-- Settles O34. -/
theorem thrusterWrites : Obligations.ThrusterWrites := by
  unfold Obligations.ThrusterWrites
  intro t c v b s
  refine ⟨fun hc => ⟨guardUnit_out hc, guardUnit_out hc, guardUnit_out hc, guardUnit_out hc, guardUnit_out hc⟩,
    fun hc hd hseal => guardUnit_next hc ((if_pos hd).trans (thrSeal_sealed (u := s.arrive t) hseal)),
    fun hc hd hopen hconf hcommit => guardUnit_next hc ((if_pos hd).trans (thrSeal_inTime (u := s.arrive t) hopen hconf hcommit)),
    fun hc hd hopen hconf hcommit => guardUnit_next hc ((if_pos hd).trans (thrSeal_late (u := s.arrive t) hopen hconf hcommit)),
    fun hc hd hseal => guardUnit_next hc ((if_pos hd).trans (thrShadow_sealed (s := s.arrive t) hseal _ _)),
    fun hc hd hopen => ?_,
    fun hc hd hseal hlatch hport => guardUnit_next hc ((if_pos hd).trans (thrWithdraw_noPort (u := s.arrive t) hseal hlatch hport)),
    fun hc hd hseal hlatch hport => guardUnit_next hc ((if_pos hd).trans (thrWithdraw_port (u := s.arrive t) hseal hlatch hport)),
    fun hc hd hlatch => guardUnit_next hc ((if_pos hd).trans (thrWithdraw_latched (s := s.arrive t) hlatch)),
    fun hc hd => guardUnit_next hc (if_pos hd), fun hc hd => guardUnit_next hc (if_pos hd),
    fun hd hauth => ?_, fun hd hauth => exec_thrAuthWrite_powered hd t b, fun e he hdue => ?_, fun e he hearly => ?_,
    fun hd => congrArg Host.Outcome.next (if_neg (Bool.eq_false_iff.1 hd))⟩
  · have hopen' : ¬ (s.tch c).sealed = true := Bool.eq_false_iff.1 hopen
    exact ⟨guardUnit_next hc ((if_pos hd).trans (if_neg hopen')), guardUnit_next hc ((if_pos hd).trans (if_neg hopen')),
      guardUnit_next hc ((if_pos hd).trans (if_neg hopen'))⟩
  · rw [exec_thrAuthWrite_powered hd]
    exact congrArg Host.Outcome.next (if_pos hauth.symm)
  · rw [exec_thrAoHoldExpiry_held he, if_neg (Nat.not_lt.2 hdue)]
  · rw [exec_thrAoHoldExpiry_held he, if_pos hearly]

/-! ### Feedback -/

/-- A FEEDBACK frame of a channel: bad, repeated or taken. R257. -/
theorem exec_thrFeedbackFrame_chan (hport : between 1 port 4 = true) (hchan : s.fbChan port f = some c) :
    exec (.thrFeedbackFrame t port sof f) s = .next (if ¬ s.fbValid c 0x011 f = true then (s.arrive t).fbBad c
      else if (s.tch c).fb.counter = some (byte (fld f.data 13 1)) then s.arrive t
      else if (((s.arrive t).feedback c sof f).tch c).fb.fault = true then ((s.arrive t).feedback c sof f).abortChanTest c
      else (s.arrive t).feedback c sof f) := by
  refine guardUnit_next hport ?_
  rw [show (s.arrive t).fbChan port f = some c from hchan]
  rfl

/-- A FEEDBACK2 frame of a channel: bad, repeated or taken. R258. -/
theorem exec_thrFeedback2Frame_chan (hport : between 1 port 4 = true) (hchan : s.fbChan port f = some c) :
    exec (.thrFeedback2Frame t port sof f) s = .next (if ¬ s.fbValid c 0x012 f = true then (s.arrive t).fbBad c
      else if (s.tch c).fb2.counter = some (byte (fld f.data 13 1)) then s.arrive t else (s.arrive t).feedback2 c sof f) := by
  refine guardUnit_next hport ?_
  rw [show (s.arrive t).fbChan port f = some c from hchan]
  rfl

theorem exec_feedbackFrames_noChan (hport : between 1 port 4 = true) (hchan : s.fbChan port f = none) :
    exec (.thrFeedbackFrame t port sof f) s = .next (s.arrive t) ∧ exec (.thrFeedback2Frame t port sof f) s = .next (s.arrive t) := by
  constructor <;>
  · refine guardUnit_next hport ?_
    rw [show (s.arrive t).fbChan port f = none from hchan]

theorem fbChan_isTch (h : s.fbChan port f = some c) : isTch c = true := by
  unfold State.fbChan at h
  dsimp only at h
  split at h
  · next hall =>
    obtain ⟨hidx, -⟩ := hall
    rwa [Option.some.inj h] at hidx
  · exact absurd h (Option.some_ne_none _).symm

/-- Channels other than the one named stand at other places of the list. -/
theorem isTch_pred_ne {k : Nat} (hc : isTch c = true) (hk : 1 ≤ k) (hne : k ≠ c) : c - 1 ≠ k - 1 := by
  obtain ⟨hlo, -⟩ := between_iff.1 hc
  omega

/-- What a FEEDBACK frame sets of its channel. R257. -/
theorem feedback_sets (hlen : c - 1 < u.thr.chans.length) :
    ((u.feedback c sof f).tch c).tMeas = fldF f.data 0 ∧ ((u.feedback c sof f).tch c).pMeas = fldF f.data 8 ∧
      ((u.feedback c sof f).tch c).tMeasAt = some sof ∧ ((u.feedback c sof f).tch c).fb.ready = (fld f.data 12 1).testBit 0 ∧
      ((u.feedback c sof f).tch c).fb.local_ = (fld f.data 12 1).testBit 3 ∧
      ((u.feedback c sof f).tch c).fb.counter = some (byte (fld f.data 13 1)) ∧
      ((u.feedback c sof f).tch c).fb.fault = (fld f.data 12 1).testBit 2 := by
  rw [State.feedback, State.tch_modTch _ hlen]
  exact ⟨rfl, rfl, rfl, rfl, rfl, rfl, rfl⟩

/-- What a FEEDBACK2 frame sets of a channel without a shaft encoder. R258, R259. -/
theorem feedback2_sets (hlen : c - 1 < u.thr.chans.length) (henc : u.parN .THR_ENC_SHAFT c = 0) :
    ((u.feedback2 c sof f).tch c).shaftSpd = fldF f.data 0 ∧ ((u.feedback2 c sof f).tch c).fb2.epochSeen = wN (fld f.data 8 4) ∧
      ((u.feedback2 c sof f).tch c).fb2.faultCode = byte (fld f.data 12 1) := by
  rw [State.feedback2, State.tch_modTch _ hlen]
  exact ⟨if_neg (Bool.eq_false_iff.1 (decide_eq_false (Classical.not_not.2 henc))), rfl, rfl⟩

/-- Settles O35. -/
theorem thrusterFeedback : Obligations.ThrusterFeedback := by
  unfold Obligations.ThrusterFeedback
  intro t port sof c f s
  refine ⟨fun hport => ⟨guardUnit_out hport, guardUnit_out hport⟩, fun hport hchan => exec_feedbackFrames_noChan hport hchan,
    fun hport hchan hbad => ?_, fun hport hchan hbad => ?_, fun hport hchan hok hsame => ?_, fun hport hchan hlen hok hnew hfault => ?_,
    fun hport hchan hok hnew hfault => ?_, fun hport hchan hlen hok henc hnew => ?_⟩
  · rw [exec_thrFeedbackFrame_chan hport hchan, if_pos (Bool.eq_false_iff.1 hbad)]
    rfl
  · rw [exec_thrFeedback2Frame_chan hport hchan, if_pos (Bool.eq_false_iff.1 hbad)]
    rfl
  · rw [exec_thrFeedbackFrame_chan hport hchan, if_neg (Classical.not_not.2 hok), if_pos hsame]
  · obtain ⟨htm, hpm, hat, hready, hlocal, hcount, hfb⟩ := feedback_sets (u := s.arrive t) (sof := sof) (f := f) hlen
    have hquiet : ¬ (((s.arrive t).feedback c sof f).tch c).fb.fault = true := by rw [hfb]; exact Bool.eq_false_iff.1 hfault
    refine ⟨_, (exec_thrFeedbackFrame_chan hport hchan).trans (congrArg Host.Outcome.next
      ((if_neg (Classical.not_not.2 hok)).trans ((if_neg hnew).trans (if_neg hquiet)))), htm, hpm, hat, hready, hlocal, hcount,
      fun k hk hne => State.tch_modTch_ne (s := s.arrive t) _ (isTch_pred_ne (fbChan_isTch hchan) hk hne), rfl, rfl⟩
  · rw [exec_thrFeedbackFrame_chan hport hchan, if_neg (Classical.not_not.2 hok), if_neg hnew]
  · obtain ⟨hshaft, hepoch, hcode⟩ := feedback2_sets (u := s.arrive t) (sof := sof) (f := f) hlen henc
    exact ⟨_, (exec_thrFeedback2Frame_chan hport hchan).trans (congrArg Host.Outcome.next ((if_neg (Classical.not_not.2 hok)).trans (if_neg hnew))),
      hshaft, hepoch, hcode, fun k hk hne => State.tch_modTch_ne (s := s.arrive t) _ (isTch_pred_ne (fbChan_isTch hchan) hk hne), rfl⟩

/-! ### Supervision -/

theorem thrDetect_holds (h : u.thrCond c bit = true) (hbit : bit ≠ 8) : u.thrDetect c bit = u.thrFault c bit := by
  refine (if_pos h).trans ?_
  dsimp only
  rw [if_neg hbit]

theorem thrTimed_holds (hd : u.dom 10 = true) (hstate : (u.tch c).state ≠ 0) (h : u.thrCond c bit = true) (hbit : bit ≠ 8) :
    u.thrTimed c bit = u.thrFault c bit := (if_pos ⟨hd, hstate⟩).trans (thrDetect_holds h hbit)

theorem thrTimed_clear (h : u.thrCond c bit = false) : u.thrTimed c bit = u := by
  unfold State.thrTimed
  rw [State.thrDetect, if_neg (Bool.eq_false_iff.1 h), ite_self]

theorem thrTimed_off (h : u.dom 10 = false ∨ (u.tch c).state = 0) : u.thrTimed c bit = u := by
  refine if_neg fun hon => ?_
  obtain ⟨hd, hstate⟩ := hon
  exact h.elim (fun hoff => Bool.eq_false_iff.1 hoff hd) hstate

/-- The rows of the timed conditions are one operation, each for its own fault bit. R262. -/
theorem exec_timedCondition {i : Instr} {b : Nat} (hc : isTch c = true)
    (hi : (i, b) ∈ [(Instr.thrAzFollowExpiry t c, 4), (Instr.thrAzWrongDirExpiry t c, 5), (Instr.thrRudderFollowExpiry t c, 11),
      (Instr.thrTHighExpiry t c, 6), (Instr.thrTDevExpiry t c, 7), (Instr.thrAngDisagreeExpiry t c, 10)]) :
    exec i s = .next ((s.arrive t).thrTimed c b) ∧ b ≠ 8 := by
  simp only [List.mem_cons, List.not_mem_nil, or_false, Prod.mk.injEq] at hi
  obtain ⟨rfl, rfl⟩ | ⟨rfl, rfl⟩ | ⟨rfl, rfl⟩ | ⟨rfl, rfl⟩ | ⟨rfl, rfl⟩ | ⟨rfl, rfl⟩ := hi <;>
    exact ⟨guardUnit_in hc, by decide⟩

/-- Settles O36. -/
theorem thrusterSupervision : Obligations.ThrusterSupervision := by
  unfold Obligations.ThrusterSupervision
  intro t c s hc
  refine ⟨fun i b hi => ?_, fun hd hstate hcond => guardUnit_next hc ?_, fun hd hstate hno hcond => guardUnit_next hc ?_,
    fun hno hno9 => guardUnit_next hc ?_, fun a hd hstate ha hdue => guardUnit_next hc ((if_pos hd).trans ?_),
    fun hstate => guardUnit_next hc ?_, fun a hd hstate ha hdue => guardUnit_next hc ((if_pos hd).trans ?_),
    fun hstate => guardUnit_next hc ?_, fun inp hslice hconf hstate => guardUnit_next hc (if_pos ⟨hslice, hconf, hstate⟩),
    fun inp hslice => guardUnit_next hc (if_neg fun hno => Bool.eq_false_iff.1 hslice hno.1)⟩
  · obtain ⟨hexec, hbit⟩ := exec_timedCondition (s := s) hc hi
    rw [hexec]
    exact ⟨fun hd hstate hcond => congrArg Host.Outcome.next (thrTimed_holds (u := s.arrive t) hd hstate hcond hbit),
      fun hno => congrArg Host.Outcome.next (thrTimed_clear hno), fun hoff => congrArg Host.Outcome.next (thrTimed_off (u := s.arrive t) hoff)⟩
  · rw [thrTimed_holds (u := s.arrive t) hd hstate hcond (by decide)]
  · rw [thrTimed_clear hno, thrTimed_holds (u := s.arrive t) hd hstate hcond (by decide)]
  · rw [thrTimed_clear hno, thrTimed_clear hno9]
  · exact if_pos ⟨hstate, held_some (u := s.arrive t) ha hdue⟩
  · exact (congrArg (ite _ · _) (if_neg fun hno => hstate hno.1)).trans (ite_self _)
  · exact if_pos ⟨hstate, held_some (u := s.arrive t) ha hdue⟩
  · exact (congrArg (ite _ · _) (if_neg fun hno => hstate hno.1)).trans (ite_self _)

end Sys2Proof.Machine
end

section
/-!
PROOF. The receiver's antennas and corrections (O40), the sources of the virtual clocks and the pulse input (O41), the writes of the clocks' control
registers (O42), latched reads, captures and pulse outputs (O43).
-/
namespace Sys2Proof.Machine
variable {t a n k lim : Nat} {s u v : State} {f : State → State}

/-! ### Antennas -/

theorem biasRetry_on : u.biasRetry a true = u.modAnt a (fun x => { x with biasOn := true, shortAt := none, okSince := some u.now }) := rfl

theorem biasRetry_failed : u.biasRetry a false = u.modAnt a (fun x => { x with shortAt := some u.now }) := rfl

/-! ### Corrections -/

theorem rtcm_unsound {b : List Byte} (h : rtcmSound b = false) :
    u.rtcm b = { u with sat := { u.sat with rtcmBad := u.sat.rtcmBad + 1 } } := if_pos (Bool.eq_false_iff.1 h)

/-- An observation message of a system notes its instant. R284. -/
theorem rtcm_observed {b : List Byte} {y : SatSys} (h : rtcmSound b = true) (hsys : rtcmSys (msbField b 24 12) = some y)
    (hbds : y = .beidou → rtcmBds b = true) : u.rtcm b = { u with sat := { u.sat with
      corrAt := some u.now, corrSys := (y, u.now) :: u.sat.corrSys.filter (fun e => e.1 ≠ y) } } := by
  rw [State.rtcm, if_neg (Classical.not_not.2 h)]
  dsimp only
  rw [hsys]
  exact if_neg fun hno => hno.2 (hbds hno.1)

theorem rtcmSound_first {b : List Byte} (h : b.getD 0 0 ≠ 0xD3) : rtcmSound b = false := by
  simp only [rtcmSound, decide_eq_false h, Bool.false_and]

theorem exec_rtcmFrame_udp {p : Nat} {b : List Byte} (hfrom : s.rtcmFrom (.udp p) = true) (hd : s.dom 8 = true) :
    exec (.rtcmFrame t (.udp p) b) s = .next ((s.arrive t).rtcm b) := by
  refine (if_neg (Classical.not_not.2 (show (s.arrive t).rtcmFrom (.udp p) = true from hfrom))).trans ?_
  exact congrArg Host.Outcome.next (if_pos hd)

theorem onlyLog_serJudge_window (u : State) (n : Nat) :
    OnlyLog (u.modSer n (fun p => { p with window := p.window.filter (fun w => u.now < w.1 + 10000000000) })) (u.serJudge n) := by
  rw [State.serJudge]
  split
  · exact onlyLog_raiseAlarm _ _ _ _
  · split
    · exact onlyLog_clearAlarm _ _ _
    · exact onlyLog_refl _

theorem serChars_dom (u : State) (n c e d : Nat) : (u.serChars n c e).dom d = u.dom d :=
  (onlyLog_serJudge_window _ n).dom d

/-- Settles O40. -/
theorem receiverInputs : Obligations.ReceiverInputs := by
  unfold Obligations.ReceiverInputs
  intro t a ok via b s
  refine ⟨fun ha => ⟨guardUnit_out ha, guardUnit_out ha, guardUnit_out ha, guardUnit_out ha⟩, fun ha hd => ?_,
    fun i ha hd hon hopen hdue => ?_, fun ha hidle => guardUnit_next ha (if_neg ?_), fun ha hd hon => ?_, fun i ha hd hshort hdue => ?_,
    fun i ha hd hgeom hdue hin => ?_, fun hfrom => ?_, fun p hfrom hd hfirst => ?_, fun p y hfrom hd hsound hsys hbds => ?_,
    fun n e hfrom he => ?_, fun n hfrom hsound hd => ?_⟩
  · have hoff : ¬ (s.arrive t).dom 8 = true := Bool.eq_false_iff.1 hd
    exact ⟨guardUnit_next ha (if_neg fun hno => hoff hno.1), guardUnit_next ha (if_neg fun hno => hoff hno.1),
      guardUnit_next ha (if_neg fun hno => hoff hno.1), guardUnit_next ha (if_neg fun hno => hoff hno.1)⟩
  · exact ⟨_, guardUnit_next ha (if_pos ⟨hd, hon, held_some (u := s.arrive t) hopen hdue⟩), raiseAlarm_on _ _ _ (by decide),
      onlyLog_raiseAlarm _ _ _ _⟩
  · rintro ⟨-, hon, hheld⟩
    exact hidle.elim (fun hoff => Bool.eq_false_iff.1 hoff hon) (fun hnone => held_none (u := s.arrive t) hnone hheld)
  · exact ⟨_, guardUnit_next ha (if_pos ⟨hd, hon⟩), raiseAlarm_on _ _ _ (by decide), onlyLog_raiseAlarm _ _ _ _⟩
  · have hheld := held_some (u := s.arrive t) hshort hdue
    exact ⟨guardUnit_next ha ((if_pos ⟨hd, hheld⟩).trans biasRetry_on), guardUnit_next ha ((if_pos ⟨hd, hheld⟩).trans biasRetry_failed)⟩
  · exact ⟨_, guardUnit_next ha (if_pos ⟨hd, held_some (u := s.arrive t) hgeom hdue, Bool.eq_false_iff.1 hin⟩),
      raiseAlarm_on _ _ _ (by decide), onlyLog_raiseAlarm _ _ _ _⟩
  · refine if_pos (Bool.eq_false_iff.1 ?_)
    cases via <;> exact hfrom
  · rw [exec_rtcmFrame_udp hfrom hd, rtcm_unsound (rtcmSound_first hfirst)]
    rfl
  · rw [exec_rtcmFrame_udp hfrom hd, rtcm_observed hsound hsys hbds]
    rfl
  · refine (if_neg (Classical.not_not.2 (show (s.arrive t).rtcmFrom (.ser n e) = true from hfrom))).trans ?_
    exact congrArg Host.Outcome.next (if_pos he)
  · refine (if_neg (Classical.not_not.2 (show (s.arrive t).rtcmFrom (.ser n 0) = true from hfrom))).trans (congrArg Host.Outcome.next ?_)
    have hd' : (((s.arrive t).serChars n b.length 0).serGood n).dom 8 = true := (serChars_dom _ _ _ _ _).trans hd
    dsimp only
    rw [if_neg (Classical.not_not.2 rfl), if_pos hsound, if_pos hd']

/-! ### Operations of the time unit -/

theorem tmuOn_next (hn : n < lim) (hd : u.dom 9 = true) (h : f u = v) : tmuOn n lim u f = .next v :=
  guardUnit_next (decide_eq_true hn) ((if_pos hd).trans h)

theorem tmuOn_off (hn : n < lim) (hd : u.dom 9 = false) : tmuOn n lim u f = .next u :=
  guardUnit_next (decide_eq_true hn) (if_neg (Bool.eq_false_iff.1 hd))

theorem tmuOn_idle (hn : n < lim) (h : f u = u) : tmuOn n lim u f = .next u := by
  refine guardUnit_next (decide_eq_true hn) ?_
  rw [h, ite_self]

theorem tmuOn_out (hn : lim ≤ n) : tmuOn n lim u f = .fault (.noSuchUnit n) := guardUnit_out (decide_eq_false (Nat.not_lt.2 hn))

theorem netUp_dom (h : u.netUp = true) : u.dom 9 = true := ((Bool.and_eq_true _ _).mp h).1

theorem netUp_off (h : u.dom 9 = false) : u.netUp = false := by
  rw [State.netUp, h, Bool.false_and]

theorem netOn_next (hn : n < lim) (hnet : u.netUp = true) (h : f u = v) : netOn n lim u f = .next v :=
  tmuOn_next hn (netUp_dom hnet) ((if_pos hnet).trans h)

theorem netOn_down (hn : n < lim) (hnet : u.netUp = false) : netOn n lim u f = .next u :=
  tmuOn_idle hn (if_neg (Bool.eq_false_iff.1 hnet))

theorem netOn_idle (hn : n < lim) (h : f u = u) : netOn n lim u f = .next u := by
  refine tmuOn_idle hn ?_
  rw [h, ite_self]

/-! ### The clock a write of one of them leaves -/

theorem putVc_vc (u : State) (n : Nat) (x : VcSt) : (u.putVc n x).vc n = x := by
  by_cases hn : n = 0 <;> simp [State.putVc, State.vc, hn]

theorem putVc_vc_other (u : State) (x : VcSt) (hn : n < 2) : (u.putVc n x).vc (1 - n) = u.vc (1 - n) := by
  obtain rfl | rfl : n = 0 ∨ n = 1 := by omega
  · rfl
  · rfl

theorem setVc_vc (u : State) (n : Nat) (x : VcSt) : (u.setVc n x).vc n = x := putVc_vc _ n x

theorem setVc_vc_other (u : State) (x : VcSt) (hn : n < 2) : (u.setVc n x).vc (1 - n) = u.vc (1 - n) := by
  refine (putVc_vc_other _ x hn).trans ?_
  split <;> rfl

/-- A write of a clock that is what stands there changes nothing. -/
theorem setVc_self (u : State) (n : Nat) : u.setVc n (u.vc n) = u := by
  unfold State.setVc State.putVc State.vc
  by_cases hn : n = 0 <;> simp [hn]

/-! ### What loses a source leaves the configuration -/

theorem srcLost_cfg (u : State) (n : Nat) : (u.srcLost n).cfg = u.cfg := by
  rw [State.srcLost]
  dsimp only
  split
  · exact State.setVc_cfg ..
  · exact (State.raiseAlarm_cfg ..).trans (State.setVc_cfg ..)

theorem cfgSrcLost_cfg (u : State) (n : Nat) : (u.cfgSrcLost n).cfg = u.cfg := by
  rw [State.cfgSrcLost]
  split
  · exact State.setVc_cfg ..
  · exact srcLost_cfg u n

/-- The source a clock is configured for is the configuration's alone. -/
theorem vcCfgSrc_of_cfg (h : v.cfg = u.cfg) (n : Nat) : v.vcCfgSrc n = u.vcCfgSrc n := by
  unfold State.vcCfgSrc State.parN State.par State.par?
  rw [h]

/-! ### PTP -/

theorem delayResponse_vc (u : State) (c : Rat) (hn : n < 2) :
    (u.modVc n (fun v => { v with delays := (c :: v.delays).take 8 })).vc n = { u.vc n with delays := (c :: (u.vc n).delays).take 8 } ∧
      (u.modVc n (fun v => { v with delays := (c :: v.delays).take 8 })).vc (1 - n) = u.vc (1 - n) :=
  ⟨setVc_vc _ n _, setVc_vc_other _ _ hn⟩

/-- The announces of a port that still come leave the clock alone. -/
theorem bestOf_kept {port : Nat} (h : ∀ e ∈ (u.vc n).best, e.1 ≠ port) :
    u.modVc n (fun v => { v with best := v.best.filter (fun e => e.1 ≠ port || !u.past e.2.1 u.annTimeout) }) = u := by
  have hall : (u.vc n).best.filter (fun e => e.1 ≠ port || !u.past e.2.1 u.annTimeout) = (u.vc n).best :=
    List.filter_eq_self.2 fun e he => by rw [decide_eq_true (h e he), Bool.true_or]
  rw [State.modVc, hall]
  exact setVc_self u n

theorem vcLock_locks (hqual : (u.vc n).qual = 3) (hsrc : (u.vc n).srcPresent = true)
    (hheld : u.held (u.vc n).lockSince (u.parNs .TMU_LOCK_TIME) = true) :
    u.vcLock n = (u.setVc n { u.vc n with qual := 1, everLocked := true }).clearAlarm .TIME_SRC_LOST n := if_pos ⟨hqual, hsrc, hheld⟩

theorem vcLock_idle (hqual : (u.vc n).qual ≠ 3) : u.vcLock n = u := if_neg fun hno => hqual hno.1

/-- A PTP message is due when none was sent, or its interval has passed since the last. R318. -/
theorem ptpDue {key d : Nat} (h : ∀ a, assoc u.tmu.ptpSent key = some a → a + d ≤ u.now) :
    (match assoc u.tmu.ptpSent key with
      | none => true
      | some a => u.past a d) = true := by
  split
  · rfl
  · next a ha => exact decide_eq_true (h a ha)

/-! ### The pulse input -/

/-- Whether an edge comes 1 s ± 100 µs after the clock's last. R307. -/
def inSecond (u : State) (n : Nat) : Bool :=
  match (u.vc n).ppsLast with
  | none => false
  | some a => between 999900000 (u.raw - a) 1000100000

theorem inSecond_first (h : (u.vc n).ppsLast = none) : inSecond u n = false := by rw [inSecond, h]

theorem inSecond_after {a : Nat} (h : (u.vc n).ppsLast = some a) (hin : between 999900000 (u.raw - a) 1000100000 = true) :
    inSecond u n = true := by
  rw [inSecond, h]
  exact hin

/-- What an edge of the pulse input does with one clock. R307. -/
def pulseIn (u : State) (n : Nat) : State :=
  if u.vcCfgSrc n ≠ .pps then u
  else
    let w := u.modVc n (fun v => { v with
      ppsLast := some u.raw, srcPresentAt := if inSecond u n then some (v.srcPresentAt.getD u.now) else none })
    if ¬ inSecond u n then w.cfgSrcLost n
    else if (u.vc n).qual ≠ 0 ∧ ¬ (u.vc n).fallback then w.vcSample n (secOffset (w.vcNow n))
    else w

/-- What the end of the pulses does with one clock. R307. -/
def pulseInLost (u : State) (n : Nat) : State :=
  match (u.vc n).ppsLast with
  | none => u
  | some a => if u.vcCfgSrc n = .pps ∧ a + 1000100000 < u.raw then (u.modVc n (fun v => { v with ppsLast := none })).cfgSrcLost n else u

theorem exec_ppsInEdge_eq : exec (.ppsInEdge t) s = tmuOn 0 1 (s.arrive t) (fun u => pulseIn (pulseIn u 0) 1) := by
  rw [exec_ppsInEdge, execPpsInEdge]
  rfl

theorem exec_ppsInLost_eq : exec (.ppsInLost t) s = tmuOn 0 1 (s.arrive t) (fun u => pulseInLost (pulseInLost u 0) 1) := by
  rw [exec_ppsInLost, execPpsInLost]
  rfl

/-- A clock with another source is left alone. -/
theorem pulseIn_other (h : u.vcCfgSrc n ≠ .pps) : pulseIn u n = u := if_pos h

theorem pulseInLost_other (h : u.vcCfgSrc n ≠ .pps) : pulseInLost u n = u := by
  unfold pulseInLost
  split
  · rfl
  · exact if_neg fun hno => h hno.1

/-- The first edge is no second yet: the source is lost. -/
theorem pulseIn_first (hsrc : u.vcCfgSrc n = .pps) (hlast : (u.vc n).ppsLast = none) :
    pulseIn u n = (u.modVc n (fun v => { v with ppsLast := some u.raw, srcPresentAt := none })).cfgSrcLost n := by
  simp [pulseIn, hsrc, inSecond_first hlast]

/-- An edge 1 s ± 100 µs after the last is noted; a clock without a time takes no sample. -/
theorem pulseIn_second {a : Nat} (hsrc : u.vcCfgSrc n = .pps) (hlast : (u.vc n).ppsLast = some a)
    (hin : between 999900000 (u.raw - a) 1000100000 = true) (hqual : (u.vc n).qual = 0) :
    pulseIn u n = u.modVc n (fun v => { v with ppsLast := some u.raw, srcPresentAt := some (v.srcPresentAt.getD u.now) }) := by
  simp [pulseIn, hsrc, inSecond_after hlast hin, hqual]

theorem pulseInLost_lost {a : Nat} (hsrc : u.vcCfgSrc n = .pps) (hlast : (u.vc n).ppsLast = some a) (hlate : a + 1000100000 < u.raw) :
    pulseInLost u n = (u.modVc n (fun v => { v with ppsLast := none })).cfgSrcLost n := by
  unfold pulseInLost
  rw [hlast]
  exact if_pos ⟨hsrc, hlate⟩

theorem modVc_cfgSrc (u : State) (x : VcSt → VcSt) (n k : Nat) : (u.modVc k x).vcCfgSrc n = u.vcCfgSrc n :=
  vcCfgSrc_of_cfg (State.setVc_cfg ..) n

theorem modVc_cfgSrcLost_cfgSrc (u : State) (x : VcSt → VcSt) (n k : Nat) : ((u.modVc k x).cfgSrcLost k).vcCfgSrc n = u.vcCfgSrc n :=
  (vcCfgSrc_of_cfg (cfgSrcLost_cfg _ k) n).trans (modVc_cfgSrc u x n k)

/-- The edges of a pulse input that clock 0 alone follows. R307. -/
theorem pulseIn_clock0 (h1 : u.vcCfgSrc 1 ≠ .pps) (h : pulseIn u 0 = v) (hcfg : v.vcCfgSrc 1 = u.vcCfgSrc 1) :
    pulseIn (pulseIn u 0) 1 = v := by
  rw [h, pulseIn_other]
  rwa [hcfg]

theorem pulseInLost_clock0 (h1 : u.vcCfgSrc 1 ≠ .pps) (h : pulseInLost u 0 = v) (hcfg : v.vcCfgSrc 1 = u.vcCfgSrc 1) :
    pulseInLost (pulseInLost u 0) 1 = v := by
  rw [h, pulseInLost_other]
  rwa [hcfg]

/-- Settles O41. -/
theorem clockSourcesAndPulseInput : Obligations.ClockSourcesAndPulseInput := by
  unfold Obligations.ClockSourcesAndPulseInput
  constructor
  · intro t n port d o k log c m s
    simp only [exec_ptpSyncReceived, exec_ptpDelayResponse, exec_ptpAnnounceReceived, exec_ptpAnnounceTimeout, exec_ptpSyncTimeout,
      exec_vcLock, exec_ptpTransmitInterval, exec_ppsInEdge]
    refine ⟨fun hn => ⟨tmuOn_out hn, tmuOn_out hn, tmuOn_out hn, tmuOn_out hn, tmuOn_out hn, tmuOn_out hn⟩, fun hn hd => ?_,
      fun hn hnet => ⟨netOn_down (u := s.arrive t) hn hnet, netOn_down (u := s.arrive t) hn hnet, netOn_down (u := s.arrive t) hn hnet⟩,
      fun hn hnet => netOn_next (u := s.arrive t) hn hnet rfl,
      fun hn hnet => ⟨_, netOn_next (u := s.arrive t) hn hnet rfl, delayResponse_vc (s.arrive t) c hn⟩,
      fun hn hnet => netOn_next (u := s.arrive t) hn hnet rfl, fun hn hd hport hann hsrc => tmuOn_next (u := s.arrive t) hn hd ?_,
      fun hn hd hport hbest => tmuOn_idle hn ?_, fun hn hd hcfg hsrc hsync => tmuOn_next (u := s.arrive t) hn hd (if_pos ?_),
      fun hn hcfg => tmuOn_idle hn (if_neg fun hno => hcfg hno.1), fun a hn hd hqual hsrc hlock hdue => ?_,
      fun hn hqual => tmuOn_idle hn (vcLock_idle (u := s.arrive t) hqual),
      fun hn hnet hcfg hport hk hsends hdue => netOn_next (u := s.arrive t) hn hnet ((if_pos ?_).trans rfl),
      fun hn hcfg => netOn_idle hn (if_neg fun hno => hcfg hno.1)⟩
    · have hnet := netUp_off (u := s.arrive t) hd
      exact ⟨netOn_down hn hnet, tmuOn_off (u := s.arrive t) hn hd, netOn_down hn hnet, tmuOn_off (u := s.arrive t) Nat.one_pos hd⟩
    · have hgone : (decide (((s.arrive t).vc n).portToMaster = port) && (s.arrive t).past ((s.arrive t).vc n).lastAnnounce
          (s.arrive t).annTimeout) = true := (Bool.and_eq_true _ _).mpr ⟨decide_eq_true hport, decide_eq_true hann⟩
      dsimp only
      rw [if_neg fun hno => hno.2 hgone, if_pos ⟨hgone, Or.inl hsrc⟩]
    · have hstays : ¬ (decide (((s.arrive t).vc n).portToMaster = port) && (s.arrive t).past ((s.arrive t).vc n).lastAnnounce
          (s.arrive t).annTimeout) = true := fun hno => hport (of_decide_eq_true ((Bool.and_eq_true _ _).mp hno).1)
      dsimp only
      simp only [bestOf_kept (u := s.arrive t) hbest, hstays, Bool.false_eq_true, false_and, if_false, not_false_eq_true, and_self, if_true]
    · exact ⟨hcfg, decide_eq_true hsync, Or.inl hsrc⟩
    · exact ⟨_, tmuOn_next (u := s.arrive t) hn hd (vcLock_locks (u := s.arrive t) hqual hsrc (held_some (u := s.arrive t) hlock hdue)),
        clearAlarm_off _ _ _ (by decide), onlyLog_clearAlarm _ _ _⟩
    · exact ⟨hcfg, hport, hk, ptpDue (u := s.arrive t) hdue, hsends⟩
  · intro t s
    simp only [exec_ppsInEdge_eq, exec_ppsInLost_eq]
    refine ⟨fun h0 h1 => ⟨tmuOn_idle Nat.one_pos (pulseIn_clock0 (u := s.arrive t) h1 (pulseIn_other (u := s.arrive t) h0) rfl),
        tmuOn_idle Nat.one_pos (pulseInLost_clock0 (u := s.arrive t) h1 (pulseInLost_other (u := s.arrive t) h0) rfl)⟩,
      fun hd h0 h1 hlast => tmuOn_next (u := s.arrive t) Nat.one_pos hd
        (pulseIn_clock0 h1 (pulseIn_first (u := s.arrive t) h0 hlast) (modVc_cfgSrcLost_cfgSrc ..)),
      fun a hd h0 h1 hlast hlo hhi hqual => tmuOn_next (u := s.arrive t) Nat.one_pos hd
        (pulseIn_clock0 h1 (pulseIn_second (u := s.arrive t) h0 hlast (between_iff.2 ⟨hlo, hhi⟩) hqual) (modVc_cfgSrc ..)),
      fun a hd h0 hlast hother hlate h1 => tmuOn_next (u := s.arrive t) Nat.one_pos hd
        (pulseInLost_clock0 h1 (pulseInLost_lost (u := s.arrive t) h0 hlast hlate) (modVc_cfgSrcLost_cfgSrc ..))⟩

/-! ### Steps and control registers -/

theorem stepMay_due (harm : (u.vc n).stepArm = true) (hlast : (u.vc n).lastStepAt = none) (hsec : u.atSecond n = true) :
    u.stepMay n = true := by
  rw [State.stepMay, harm, hlast, hsec]
  rfl

theorem stepMay_not (h : (u.vc n).stepArm = false ∨ u.atSecond n = false) : u.stepMay n = false := by
  rw [State.stepMay]
  rcases h with h | h <;> rw [h]
  · rfl
  · rw [Bool.and_false, Bool.false_and]

theorem vcStep_applied (hmay : u.stepMay n = true) (hfree : u.stepBarred n = false) : u.vcStep n = u.vcApplyStep n :=
  (if_neg (Classical.not_not.2 hmay)).trans (if_neg (Bool.eq_false_iff.1 hfree))

theorem vcStep_barred (hmay : u.stepMay n = true) (hbar : u.stepBarred n = true) :
    u.vcStep n = (u.modVc n (fun v => { v with stepPending := true })).raiseAlarm .TIME_STEP_PENDING n :=
  (if_neg (Classical.not_not.2 hmay)).trans (if_pos hbar)

theorem vcStep_idle (hmay : u.stepMay n = false) : u.vcStep n = u := if_pos (Bool.eq_false_iff.1 hmay)

/-- A clock that fell back returns to its source when that has been there for 10 s. R314. -/
theorem fallbackReturn_returns {a : Nat} (hfall : (u.vc n).fallback = true) (hsrc : (u.vc n).srcPresentAt = some a)
    (hdue : a + 10000000000 ≤ u.now) : u.fallbackReturn n =
      ((u.modVc n (fun v => { v with fallback := false, src := u.vcCfgSrc n })).masterChange n (u.vc n).gmId (u.vc n).gmId).modVc n
        (fun x => { x with srcPresentAt := some a }) := by
  refine (if_pos ⟨hfall, held_some hsrc hdue⟩).trans ?_
  rw [hsrc]

theorem tmuCtrl_noStep {w : Word} (h4 : w.toNat.testBit 4 = false) (h5 : w.toNat.testBit 5 = false) :
    u.tmuCtrl w = { u with tmu := { u.tmu with
      force := if w.toNat % 4 = 3 then u.tmu.force else w.toNat % 4, revert := w.toNat.testBit 2, fallbackSat := w.toNat.testBit 3 } } := by
  simp [State.tmuCtrl, h4, h5]

theorem tmuCtrl_stepVc0 {w : Word} (h4 : w.toNat.testBit 4 = true) (h5 : w.toNat.testBit 5 = false) :
    u.tmuCtrl w = State.stepAllow { u with tmu := { u.tmu with
      force := if w.toNat % 4 = 3 then u.tmu.force else w.toNat % 4, revert := w.toNat.testBit 2, fallbackSat := w.toNat.testBit 3 } } 0 := by
  simp [State.tmuCtrl, h4, h5]

/-- TMU_INCR stays within 4.0 ns ± 50 ppm. R305. -/
theorem incrClamp_bounds (w : Word) : 0x3FFF2E49 ≤ (incrClamp w).toNat ∧ (incrClamp w).toNat ≤ 0x4000D1B7 := by
  unfold incrClamp
  split
  · decide
  · split
    · decide
    · next hlo hhi => exact ⟨Nat.not_lt.1 hlo, Nat.not_lt.1 hhi⟩

theorem incrClamp_within {w : Word} (hlo : 0x3FFF2E49 ≤ w.toNat) (hhi : w.toNat ≤ 0x4000D1B7) : incrClamp w = w :=
  (if_neg (Nat.not_lt.2 hlo)).trans (if_neg (Nat.not_lt.2 hhi))

/-- A write of TMU_INCR leaves the raw time where it is. R305. -/
theorem setIncr_rawFixed (u : State) (w : Word) : (u.setIncr w).rawFixed = u.rawFixed := by
  change (u.rawFixed + (u.now / 4 - u.now / 4) * (incrClamp w).toNat) % 2 ^ 92 = u.rawFixed
  rw [Nat.sub_self, Nat.zero_mul, Nat.add_zero]
  exact Nat.mod_mod _ _

/-- Settles O42. -/
theorem clockControl : Obligations.ClockControl := by
  unfold Obligations.ClockControl
  intro t n v s
  simp only [exec_vcStep, exec_fallbackReturnTimer, exec_frameRevertTimer, exec_tmuCtrlWrite, exec_tmuIncrWrite]
  refine ⟨fun hn => ⟨tmuOn_out hn, tmuOn_out hn⟩,
    fun hn hd harm hlast hsec hfree =>
      tmuOn_next (u := s.arrive t) hn hd (vcStep_applied (stepMay_due (u := s.arrive t) harm hlast hsec) hfree),
    fun hn hd harm hlast hsec hbar =>
      tmuOn_next (u := s.arrive t) hn hd (vcStep_barred (stepMay_due (u := s.arrive t) harm hlast hsec) hbar),
    fun hn hnot => tmuOn_idle hn (vcStep_idle (stepMay_not (u := s.arrive t) hnot)),
    fun hd hwant => tmuOn_next (u := s.arrive t) Nat.one_pos hd (if_pos hwant),
    fun hwant => tmuOn_idle Nat.one_pos (if_neg hwant),
    fun a hn hd hfall hsrc hdue => tmuOn_next (u := s.arrive t) hn hd (fallbackReturn_returns (u := s.arrive t) hfall hsrc hdue),
    fun hn hfall => tmuOn_idle hn (if_neg fun hno => Bool.eq_false_iff.1 hfall hno.1),
    fun hd h4 h5 => tmuOn_next (u := s.arrive t) Nat.one_pos hd (tmuCtrl_noStep h4 h5),
    fun hd h4 h5 => tmuOn_next (u := s.arrive t) Nat.one_pos hd (tmuCtrl_stepVc0 h4 h5), fun hd => ?_,
    fun hd => ⟨tmuOn_off (u := s.arrive t) Nat.one_pos hd, tmuOn_off (u := s.arrive t) Nat.one_pos hd,
      tmuOn_off (u := s.arrive t) Nat.one_pos hd⟩⟩
  obtain ⟨hlo, hhi⟩ := incrClamp_bounds v
  exact ⟨_, tmuOn_next (u := s.arrive t) Nat.one_pos hd rfl, rfl, rfl, hlo, hhi, incrClamp_within,
    congrArg (· / 2 ^ 28) (setIncr_rawFixed (s.arrive t) v)⟩

/-! ### Latched reads -/

theorem readLo_sel (u : State) (who : Who) :
    u.readLo who 0 = ((words64 (u.sel : Int)).getD 0 0, { u with tmu := { u.tmu with
      hi := u.tmu.hi.modify who.latch (fun l => { l with sel := (words64 (u.sel : Int)).getD 1 0 }) } }) := rfl

/-- A read of a LO register leaves the latches of other requesters. R319. -/
theorem readLo_hi_other (u : State) (who w : Who) (k : Nat) (h : w.latch ≠ who.latch) :
    (u.readLo who k).2.tmu.hi.getD w.latch {} = u.tmu.hi.getD w.latch {} := getD_modify_ne _ _ h.symm

theorem readLo_sent (u : State) (who : Who) (k : Nat) : (u.readLo who k).2.sent = u.sent := rfl

theorem latch_lt (who : Who) : who.latch < 3 := by cases who <;> decide

/-! ### Capture FIFOs -/

theorem capf_modCap {g : CapFifo → CapFifo} (hk : k < u.tmu.caps.length) : (u.modCap k g).capf k = g (u.capf k) := getD_modify_self g _ hk

theorem capf_modCap_ne {g : CapFifo → CapFifo} {j : Nat} (h : k ≠ j) : (u.modCap k g).capf j = u.capf j := getD_modify_ne g _ h

/-- The entry of an edge of a source. R320. -/
def captured (u : State) (source : Nat) (rising : Bool) : CapEntry :=
  { ns := wN (u.sel % 2 ^ 32), source := source, rising := rising, raw := u.raw, gen := u.tmu.selGen }

/-- An edge's entry taken by one FIFO it feeds. -/
def capturedBy (source : Nat) (e : CapEntry) (u : State) (j : Nat) : State :=
  if (u.parL .TMU_CAP_SOURCES j).contains (source : Rat) then
    let r := (u.capf j).push e
    let w := u.modCap j (fun _ => r.1)
    if r.2 then { w with tmu := { w.tmu with capOverrun := wSat w.tmu.capOverrun } } else w
  else u

theorem capture_eq (u : State) (source : Nat) (rising : Bool) :
    u.capture source rising = (List.range 8).foldl (capturedBy source (captured u source rising)) u := rfl

section
variable {source j : Nat} {e : CapEntry}

theorem capturedBy_other (h : j ≠ k) : (capturedBy source e u j).capf k = u.capf k := by
  unfold capturedBy
  split
  · dsimp only
    split
    · exact capf_modCap_ne h
    · exact capf_modCap_ne h
  · rfl

theorem capturedBy_parL : (capturedBy source e u j).parL .TMU_CAP_SOURCES k = u.parL .TMU_CAP_SOURCES k := by
  unfold capturedBy
  split
  · dsimp only
    split <;> rfl
  · rfl

theorem capturedBy_length : (capturedBy source e u j).tmu.caps.length = u.tmu.caps.length := by
  unfold capturedBy
  split
  · dsimp only
    split <;> exact List.length_modify ..
  · rfl

/-- A FIFO with room takes the entry as its last. -/
theorem capturedBy_taken (hk : k < u.tmu.caps.length) (hsrc : (u.parL .TMU_CAP_SOURCES k).contains (source : Rat) = true)
    (hroom : (u.capf k).q.length < 256) :
    (capturedBy source e u k).capf k = { u.capf k with lost := false, q := (u.capf k).q ++ [{ e with overrun := (u.capf k).lost }] } := by
  have hpush : (u.capf k).push e = ({ u.capf k with q := (u.capf k).q ++ [{ e with overrun := (u.capf k).lost }], lost := false }, false) :=
    if_neg (Nat.not_le.2 hroom)
  unfold capturedBy
  rw [if_pos hsrc]
  dsimp only
  rw [hpush]
  exact capf_modCap hk

theorem capturedBy_foldl_other {l : List Nat} (h : k ∉ l) : ∀ u, (l.foldl (capturedBy source e) u).capf k = u.capf k := by
  induction l with
  | nil => exact fun _ => rfl
  | cons j l ih =>
    obtain ⟨hj, hl⟩ := not_or.1 (mt List.mem_cons.2 h)
    intro u
    exact (ih hl _).trans (capturedBy_other (Ne.symm hj))

/-- Each FIFO is visited once. -/
theorem capturedBy_foldl_taken {l : List Nat} (hnodup : l.Nodup) (hmem : k ∈ l) : ∀ u : State, k < u.tmu.caps.length →
    (u.parL .TMU_CAP_SOURCES k).contains (source : Rat) = true → (u.capf k).q.length < 256 →
    (l.foldl (capturedBy source e) u).capf k =
      { u.capf k with lost := false, q := (u.capf k).q ++ [{ e with overrun := (u.capf k).lost }] } := by
  induction l with
  | nil => exact absurd hmem List.not_mem_nil
  | cons j l ih =>
    intro u hk hsrc hroom
    obtain ⟨hj, hl⟩ := List.nodup_cons.1 hnodup
    rcases List.mem_cons.1 hmem with rfl | hin
    · exact (capturedBy_foldl_other hj _).trans (capturedBy_taken hk hsrc hroom)
    · have hne : j ≠ k := fun heq => hj (heq ▸ hin)
      have hsame : (capturedBy source e u j).capf k = u.capf k := capturedBy_other hne
      refine (ih hl hin _ (by rwa [capturedBy_length]) (by rwa [capturedBy_parL]) (by rwa [hsame])).trans ?_
      rw [hsame]

end

theorem readData0_empty (h : (u.capf k).q = []) : (u.readData0 k).1 = 0 := by
  rw [State.readData0, h]
  rfl

theorem readData0_oldest {e : CapEntry} {l : List CapEntry} (h : (u.capf k).q = e :: l) :
    u.readData0 k = (e.ns, u.modCap k (fun c => { c with latched := some { e with aged := u.capAged e } })) := by
  rw [State.readData0, h]
  rfl

theorem readData1_unlatched (h : (u.capf k).latched = none) : u.readData1 k = (0, u) := by rw [State.readData1, h]

/-- DATA1 answers the latched entry and removes it. R321. -/
theorem readData1_latched {e : CapEntry} (hk : k < u.tmu.caps.length) (h : (u.capf k).latched = some e) :
    (u.readData1 k).1 = u.data1 e ∧ (u.readData1 k).2.sent = u.sent ∧
      (u.readData1 k).2.capf k = { u.capf k with latched := none, q := (u.capf k).q.tail } := by
  rw [State.readData1, h]
  refine ⟨rfl, ?_, ?_⟩
  · dsimp only
    split <;> rfl
  · dsimp only
    split <;> exact capf_modCap hk

/-! ### Pulse outputs -/

theorem pulse_modPulse {g : PulseOut → PulseOut} (hk : k < u.tmu.pulses.length) : (u.modPulse k g).pulse k = g (u.pulse k) :=
  getD_modify_self g _ hk

theorem pulse_modPulse_ne {g : PulseOut → PulseOut} {j : Nat} (h : k ≠ j) : (u.modPulse k g).pulse j = u.pulse j := getD_modify_ne g _ h

/-- Settles O43. -/
theorem timeReadsAndPulseOutputs : Obligations.TimeReadsAndPulseOutputs := by
  unfold Obligations.TimeReadsAndPulseOutputs
  constructor
  · intro t k f who r s
    simp only [exec_timeLoRead, exec_captureEntryAged, exec_capFifoData0Read, exec_capFifoData1Read, exec_captureEvent]
    refine ⟨fun hk => tmuOn_out hk, fun hk hd => ⟨_, tmuOn_next (u := s.arrive t) hk hd rfl, rfl, fun w hw => readLo_hi_other _ who w k hw⟩,
      fun hd hlen => ⟨_, tmuOn_next (u := s.arrive t) (by decide) hd rfl, rfl, ?_⟩, fun hf => ⟨tmuOn_out hf, tmuOn_out hf, tmuOn_out hf⟩,
      fun hsrc => guardUnit_out hsrc, fun hsrc hd => guardUnit_next hsrc (if_pos hd), fun hf hlen hsrc hroom => ?_,
      fun hf hd => tmuOn_next (u := s.arrive t) hf hd rfl, fun e l hf hd hlen hq => ?_, fun hf hd hq => ?_, fun e hf hd hlen hlatch => ?_,
      fun hf hd hlatch => ?_⟩
    · dsimp only
      rw [readLo_sel]
      exact congrArg HiLatch.sel (getD_modify_self _ _ (Nat.lt_of_lt_of_le (latch_lt who) hlen))
    · rw [capture_eq]
      exact capturedBy_foldl_taken List.nodup_range (List.mem_range.2 hf) s hlen hsrc hroom
    · refine ⟨_, tmuOn_next (u := s.arrive t) hf hd rfl, ?_⟩
      dsimp only
      rw [readData0_oldest (u := s.arrive t) hq]
      have hcapf := capf_modCap (u := s.arrive t) (g := fun c => { c with latched := some { e with aged := (s.arrive t).capAged e } }) hlen
      exact ⟨rfl, (congrArg CapFifo.q hcapf).trans hq, congrArg CapFifo.latched hcapf⟩
    · refine ⟨_, tmuOn_next (u := s.arrive t) hf hd rfl, ?_⟩
      dsimp only
      rw [readData0_empty (u := s.arrive t) hq]
      rfl
    · obtain ⟨hword, hsent, hcapf⟩ := readData1_latched (u := s.arrive t) hlen hlatch
      refine ⟨_, tmuOn_next (u := s.arrive t) hf hd rfl, ?_, congrArg CapFifo.q hcapf, congrArg CapFifo.latched hcapf⟩
      change ((s.arrive t).readData1 f).2.sent ++ [.readData ((s.arrive t).readData1 f).1] = _
      rw [hword, hsent]
      rfl
    · refine tmuOn_next (u := s.arrive t) hf hd ?_
      dsimp only
      rw [readData1_unlatched (u := s.arrive t) hlatch]
      rfl
  · intro t k v s
    simp only [exec_pulseArm, exec_pulseDisarm, exec_pulseOutputFire, exec_pulseWidthEnd]
    refine ⟨fun hk => ⟨tmuOn_out hk, tmuOn_out hk, tmuOn_out hk, tmuOn_out hk⟩, fun hk hd => tmuOn_next (u := s.arrive t) hk hd rfl,
      fun hfuture => if_neg (Bool.eq_false_iff.1 hfuture), fun hpast => if_pos hpast,
      fun hk hd harmed => ⟨_, tmuOn_next (u := s.arrive t) hk hd (if_neg (Classical.not_not.2 harmed)), onlyLog_disableRec _ _ _ _ _ _ _ _⟩,
      fun hk harmed => tmuOn_idle hk (if_pos (Bool.eq_false_iff.1 harmed)), fun hk hd hlen hdue hlow => ?_,
      fun hk hdue => tmuOn_idle hk (if_neg fun hno => Bool.eq_false_iff.1 hdue hno.1),
      fun hk hd hhigh hend => tmuOn_next (u := s.arrive t) hk hd (if_pos ⟨hhigh, hend⟩),
      fun hk hearly => tmuOn_idle hk (if_neg fun hno => Nat.not_le.2 hearly hno.2)⟩
    exact ⟨_, tmuOn_next (u := s.arrive t) hk hd (if_pos ⟨hdue, Bool.eq_false_iff.1 hlow⟩), pulse_modPulse (u := s.arrive t) hlen,
      fun j hj => pulse_modPulse_ne (u := s.arrive t) hj.symm⟩

end Sys2Proof.Machine
end

section
/-!
PROOF. A point's timeout (O44). A point that is stale already, here because its producer went silent, keeps that reason when its own time runs out: the
timeout is added to it (R379). The ninth clause of the statement says that the timeout stands alone.
-/
namespace Sys2Proof.Machine

/-- A unit in which the configured point 32768, stale since its producer went silent, has not been written for its time. -/
def silentPoint : State :=
  { openUnit with
    cfg.given := [((.PNT_TYPE, 32768), 2), ((.PNT_TIMEOUT, 32768), 100)]
    pnt.points := [(32768, { qual := qStale ||| rNoProducer, typ := 2 })] }

/-- 200 ms after the start. -/
def afterTimeout : Nat := 200000000

/-- Refutes O44: the timeout of a point that is stale without its producer adds its reason to the one that stands. -/
theorem not_pointEventsAndNotifications : ¬ Obligations.PointEventsAndNotifications := by
  unfold Obligations.PointEventsAndNotifications
  rintro ⟨h, -⟩
  obtain ⟨-, -, -, -, -, -, -, -, htimeout, -⟩ := h afterTimeout 32768 0 0 0 silentPoint
  obtain ⟨u, hnext, hpoint, -⟩ := htimeout (by decide +kernel) (by decide +kernel) (by decide +kernel) (by decide +kernel) (by decide +kernel)
    (by decide +kernel)
  have hboth : ((Res.state? (exec (.pointTimeout afterTimeout 32768) silentPoint)).map (fun v => (v.point 32768).qual)) =
      some (qStale ||| rNoProducer ||| rTimeout) := by decide +kernel
  rw [Res.state?_next hnext, Option.map_some, hpoint] at hboth
  exact absurd hboth (by decide)

end Sys2Proof.Machine
end

section
/-!
PROOF. Heartbeats of the partners, missed ones, and the strap (O46).
-/
namespace Sys2Proof.Machine
variable {t k path : Nat} {lane : Bool} {b : List Byte} {s u v : State}

/-! ### Heartbeats out -/

theorem relDue_none (h : u.red.relPend = none) : u.relDue = u := by rw [State.relDue, h]

theorem foldl_emit {α : Type} (g : α → Emit) (l : List α) : ∀ u : State,
    l.foldl (fun s p => s.emit (g p)) u = { u with sent := u.sent ++ l.map g } := by
  induction l with
  | nil =>
    intro u
    rw [List.map_nil, List.append_nil, List.foldl_nil]
  | cons p l ih =>
    intro u
    rw [List.foldl_cons, ih, List.map_cons]
    simp [State.emit]

/-- A unit that notes the instant of its heartbeat. -/
def beating (u : State) : State := u.modRed (fun r => { r with requestAt := u.raw, hbFrame := some u.frame.number })

theorem beating_shesen (u : State) (n : Nat) (lo : Word) (rel : Bool) :
    (beating u).shesen ((beating u).hbFlags rel) n 0 lo = u.shesen (u.hbFlags rel) n 0 lo := rfl

/-- The heartbeat of a unit that has no release to announce but its rotation's. R392, R413. -/
theorem heartbeat_out (hrel : u.red.relPend = none) (hdue : u.red.releaseDue = false) : u.heartbeat = { u with
    red := { u.red with requestAt := u.raw, hbFrame := some u.frame.number }
    sent := u.sent ++ u.paths.map (fun p => .heartbeat p (u.shesen (u.hbFlags (u.red.rotation = some 1))
      (if u.red.rotation = some 1 then u.red.rotationTo else 0xFF) 0 (wN u.raw))) } := by
  have hbeat : u.heartbeat = u.paths.foldl (fun s p => s.emit (.heartbeat p ((beating u).shesen ((beating u).hbFlags
      (u.red.rotation = some 1)) (if u.red.rotation = some 1 then u.red.rotationTo else 0xFF) 0 (wN u.raw)))) (beating u) := by
    rw [State.heartbeat, relDue_none hrel]
    simp only [hdue, Bool.false_eq_true, if_false, Bool.false_or, decide_eq_true_eq]
    rfl
  rw [hbeat, beating_shesen]
  exact foldl_emit _ _ _

/-! ### Heartbeats in -/

/-- A partner's heartbeat taken, before what it asks of W and any release it announces. R393, R394. -/
def heardFrom (u : State) (k : Nat) (lane : Bool) (b : List Byte) : State :=
  (((u.modPartner k (fun x => x.take u.now lane b)).hearsAgain k).takeSkew k b).seeEpoch (wN (fld b 12 4))

/-- What a heartbeat with the flag CANDIDATE asks of W. R397. -/
def requestOf (u : State) (k : Nat) (b : List Byte) : LeaseReq :=
  { unit := k, at_ := u.now, score := fld b 17 1, epoch := wN (fld b 12 4), commanding := (fld b 18 1).testBit 0, sentLo := wN (fld b 32 4) }

theorem takeHeartbeat_plain (hrel : u.red.relPend = none) (hbit : (fld b 18 1).testBit 4 = false) :
    u.takeHeartbeat k lane b = if (heardFrom u k lane b).arbiter = true ∧ (fld b 18 1).testBit 1 = true then
      (heardFrom u k lane b).leaseRequest (requestOf (heardFrom u k lane b) k b) else heardFrom u k lane b := by
  rw [State.takeHeartbeat, relDue_none hrel]
  exact if_pos (Bool.eq_false_iff.1 hbit)

theorem onlyLog_hearsAgain (u : State) (k : Nat) : OnlyLog (u.modRed (fun r => { r with silenced := false })) (u.hearsAgain k) := by
  have hclear : OnlyLog u (if u.pairUnit then u.clearAlarm (if k = 2 then .W_LOST else .PEER_LOST) else u) := by
    split
    · exact onlyLog_clearAlarm _ _ _
    · exact onlyLog_refl _
  rw [State.hearsAgain]
  generalize (if u.pairUnit then u.clearAlarm (if k = 2 then .W_LOST else .PEER_LOST) else u) = w at hclear
  obtain ⟨l, a, rfl⟩ := hclear
  dsimp only
  split
  · exact onlyLog_trans ⟨l, a, rfl⟩ (onlyLog_clearAlarm _ _ _)
  · next hloud =>
    refine ⟨l, a, ?_⟩
    rw [State.modRed, ← Bool.eq_false_iff.2 hloud]

theorem hearsAgain_clears (hpair : u.pairUnit = true) : (u.hearsAgain k).alarmOn (if k = 2 then .W_LOST else .PEER_LOST) = false := by
  have hevent : (if k = 2 then EvCode.W_LOST else EvCode.PEER_LOST) ≠ .LOG_FLOOD := by split <;> decide
  rw [State.hearsAgain, if_pos hpair]
  generalize (if k = 2 then EvCode.W_LOST else EvCode.PEER_LOST) = e at hevent ⊢
  have hoff : (u.clearAlarm e).alarmOn e = false := clearAlarm_off _ _ _ hevent
  split
  · exact clearAlarm_stays hoff hevent
  · exact hoff

theorem takeSkew_frame (u : State) (k : Nat) (b : List Byte) : ∃ f, u.takeSkew k b = { u with frame := f } := by
  rw [State.takeSkew]
  split
  · exact ⟨u.frame, rfl⟩
  · exact ⟨_, rfl⟩

/-- What a heartbeat leaves of the redundancy state. -/
theorem heardFrom_red (u : State) (k : Nat) (lane : Bool) (b : List Byte) : (heardFrom u k lane b).red =
    { (u.modPartner k (fun x => x.take u.now lane b)).red with
      silenced := false
      epochSeen := if (u.modPartner k (fun x => x.take u.now lane b)).red.epochSeen.toNat < (wN (fld b 12 4)).toNat then wN (fld b 12 4)
        else (u.modPartner k (fun x => x.take u.now lane b)).red.epochSeen
      epochHeld := if (u.modPartner k (fun x => x.take u.now lane b)).red.commanding then
          (u.modPartner k (fun x => x.take u.now lane b)).red.epochHeld
        else if (u.modPartner k (fun x => x.take u.now lane b)).red.epochSeen.toNat < (wN (fld b 12 4)).toNat then wN (fld b 12 4)
        else (u.modPartner k (fun x => x.take u.now lane b)).red.epochSeen } := by
  rw [heardFrom]
  generalize u.modPartner k (fun x => x.take u.now lane b) = w
  obtain ⟨l, a, hears⟩ := onlyLog_hearsAgain w k
  rw [hears]
  obtain ⟨f, hskew⟩ := takeSkew_frame { w.modRed (fun r => { r with silenced := false }) with log := l, alarms := a } k b
  rw [hskew]
  rfl

/-- What a heartbeat may change at all. -/
theorem heardFrom_frame (u : State) (k : Nat) (lane : Bool) (b : List Byte) :
    ∃ f l a r m, heardFrom u k lane b = { u with frame := f, log := l, alarms := a, red := r, keep := m } := by
  obtain ⟨l, a, hears⟩ := onlyLog_hearsAgain (u.modPartner k (fun x => x.take u.now lane b)) k
  rw [heardFrom, hears]
  obtain ⟨f, hskew⟩ := takeSkew_frame { (u.modPartner k (fun x => x.take u.now lane b)).modRed (fun r => { r with silenced := false }) with
    log := l, alarms := a } k b
  rw [hskew]
  exact ⟨_, _, _, _, _, rfl⟩

theorem modPartner_arbiter (u : State) (k : Nat) (g : Partner → Partner) : (u.modPartner k g).red.unit = u.red.unit ∧
    (u.modPartner k g).red.epochSeen = u.red.epochSeen ∧ (u.modPartner k g).red.lease = u.red.lease := by
  unfold State.modPartner State.modRed
  dsimp only
  split
  · exact ⟨rfl, rfl, rfl⟩
  · split <;> exact ⟨rfl, rfl, rfl⟩

theorem modPartner_partner (u : State) (g : Partner → Partner) (hk : k < 3) : (u.modPartner k g).partner k = g (u.partner k) := by
  obtain rfl | rfl | rfl : k = 0 ∨ k = 1 ∨ k = 2 := by omega
  · rfl
  · rfl
  · rfl

theorem modPartner_partner_ne (u : State) (g : Partner → Partner) {j : Nat} (hk : k < 3) (hj : j < 3) (hne : j ≠ k) :
    (u.modPartner k g).partner j = u.partner j := by
  obtain rfl | rfl | rfl : k = 0 ∨ k = 1 ∨ k = 2 := by omega
  · simp [State.modPartner, State.modRed, State.partner, hne]
  · simp [State.modPartner, State.modRed, State.partner, hne]
  · obtain rfl | rfl : j = 0 ∨ j = 1 := by omega
    · rfl
    · rfl

theorem heardFrom_partner (u : State) (k j : Nat) (lane : Bool) (b : List Byte) :
    (heardFrom u k lane b).partner j = (u.modPartner k (fun x => x.take u.now lane b)).partner j := by
  rw [State.partner, heardFrom_red]
  rfl

theorem heardFrom_arbiter (u : State) (k : Nat) (lane : Bool) (b : List Byte) : (heardFrom u k lane b).arbiter = u.arbiter := by
  have hunit : (heardFrom u k lane b).red.unit = u.red.unit := by
    rw [heardFrom_red]
    exact (modPartner_arbiter u k _).1
  obtain ⟨f, l, a, r, m, h⟩ := heardFrom_frame u k lane b
  rw [h] at hunit ⊢
  rw [State.arbiter, hunit]
  rfl

theorem heardFrom_lease (u : State) (k : Nat) (lane : Bool) (b : List Byte) : (heardFrom u k lane b).red.lease = u.red.lease := by
  rw [heardFrom_red]
  exact (modPartner_arbiter u k _).2.2

theorem heardFrom_alarm (hpair : u.pairUnit = true) : (heardFrom u k lane b).alarmOn (if k = 2 then .W_LOST else .PEER_LOST) = false := by
  have hpair' : (u.modPartner k (fun x => x.take u.now lane b)).pairUnit = true := by
    rw [State.pairUnit, (modPartner_arbiter u k _).1]
    exact hpair
  have hoff := hearsAgain_clears (k := k) hpair'
  rw [heardFrom]
  obtain ⟨f, hskew⟩ := takeSkew_frame ((u.modPartner k (fun x => x.take u.now lane b)).hearsAgain k) k b
  rw [hskew]
  exact hoff

theorem partners_lt (h : u.partners.contains k = true) : k < 3 := by
  rw [State.partners] at h
  split at h
  · exact absurd h Bool.false_ne_true
  · have hmem := (List.mem_filter.1 (List.contains_iff_mem.1 h)).1
    simp only [List.mem_cons, List.not_mem_nil, or_false] at hmem
    omega

/-- A request of the lease's holder renews it. R398. -/
theorem leaseRequest_holder {r : LeaseReq} (h : u.red.lease.holder = some r.unit) :
    ∃ w : State, u.leaseRequest r = w.sendGrant r.unit r.sentLo ∧ w.red.lease.holder = some r.unit ∧
      w.red.lease.expires = u.now + 80000000 ∧ w.red.lease.epoch = u.red.lease.epoch :=
  ⟨_, if_pos h, h, rfl, rfl⟩

theorem exec_heartbeatReceived_partner (hpath : path < 3) (hd : s.dom 3 = true) (hok : s.shesenOk b = true)
    (hbeat : (fld b 18 1).testBit 7 = false) (hother : fld b 3 1 ≠ s.red.unit) (hpartner : s.partners.contains (fld b 3 1) = true) :
    exec (.heartbeatReceived t path b) s = .next ((s.arrive t).takeHeartbeat (fld b 3 1) (decide (path < 2)) b) := by
  refine guardUnit_next (decide_eq_true hpath) ((if_neg ?_).trans ((if_neg hother).trans (if_pos hpartner)))
  rintro (hoff | hbad | hgrant)
  · exact hoff hd
  · exact hbad hok
  · exact Bool.eq_false_iff.1 hbeat hgrant

theorem exec_heartbeatReceived_own (hpath : path < 3) (hd : s.dom 3 = true) (hok : s.shesenOk b = true)
    (hbeat : (fld b 18 1).testBit 7 = false) (hown : fld b 3 1 = s.red.unit) : exec (.heartbeatReceived t path b) s =
    .next (((s.arrive t).modRed (fun r => { r with uidConflictAt := some (max s.now t), health := 0 })).raiseAlarm .UID_CONFLICT) := by
  refine guardUnit_next (decide_eq_true hpath) ((if_neg ?_).trans (if_pos hown))
  rintro (hoff | hbad | hgrant)
  · exact hoff hd
  · exact hbad hok
  · exact Bool.eq_false_iff.1 hbeat hgrant

/-! ### Missed heartbeats -/

/-- The frames in a row a partner has missed, this one with it. R394. -/
def missCount (u : State) (k : Nat) : Nat :=
  if ((u.partner k).laneFrame.any (fun f => decide (u.frame.number ≤ f)) || (u.partner k).lanFrame.any (fun f => decide (u.frame.number ≤ f))) then 0
  else (u.partner k).missed + 1

/-- Whether a partner is lost with this frame: W after 2, another after 3. R394. -/
def newlyLost (u : State) (k : Nat) : Bool := !(u.partner k).lost && decide ((if k = 2 then 2 else 3) ≤ missCount u k)

/-- The partner's count of a frame. -/
def counted (u : State) (k : Nat) : State :=
  u.modPartner k (fun x => { x with missed := missCount u k, lost := x.lost || newlyLost u k })

/-- A lost peer's skew is no longer known. -/
def skewDropped (u : State) (k : Nat) : State :=
  if u.peerOf = some k then { u with frame := { u.frame with peerSkew := none } } else u

theorem missOne_eq (u : State) (k : Nat) : u.missOne k = if ¬ newlyLost u k then counted u k
    else if (skewDropped (counted u k) k).pairUnit then
      (skewDropped (counted u k) k).raiseAlarm (if k = 2 then .W_LOST else .PEER_LOST)
    else skewDropped (counted u k) k := rfl

theorem skewDropped_red (u : State) (k : Nat) : (skewDropped u k).red = u.red := by
  rw [skewDropped]
  split <;> rfl

theorem missOne_red (u : State) (k : Nat) : (u.missOne k).red = (counted u k).red := by
  rw [missOne_eq]
  split
  · rfl
  · split
    · rw [State.raiseAlarm_red, skewDropped_red]
    · exact skewDropped_red _ k

theorem missOne_partner (hk : k < 3) :
    (u.missOne k).partner k = { u.partner k with missed := missCount u k, lost := (u.partner k).lost || newlyLost u k } := by
  rw [State.partner, missOne_red]
  exact modPartner_partner u _ hk

theorem missOne_alarm (hpair : u.pairUnit = true) (hnew : newlyLost u k = true) :
    (u.missOne k).alarmOn (if k = 2 then .W_LOST else .PEER_LOST) = true := by
  have hpair' : (skewDropped (counted u k) k).pairUnit = true := by
    rw [State.pairUnit, skewDropped_red, counted, (modPartner_arbiter u k _).1]
    exact hpair
  rw [missOne_eq, if_neg (Classical.not_not.2 hnew), if_pos hpair']
  exact raiseAlarm_on _ _ _ (by split <;> decide)

theorem missCount_missed (hlane : ∀ f, (u.partner k).laneFrame = some f → f < u.frame.number)
    (hlan : ∀ f, (u.partner k).lanFrame = some f → f < u.frame.number) : missCount u k = (u.partner k).missed + 1 := by
  refine if_neg ?_
  rw [Bool.or_eq_true, Option.any_eq_true, Option.any_eq_true]
  rintro (⟨f, hf, hle⟩ | ⟨f, hf, hle⟩)
  · exact Nat.not_le.2 (hlane f hf) (of_decide_eq_true hle)
  · exact Nat.not_le.2 (hlan f hf) (of_decide_eq_true hle)

theorem missCount_heard {f : Nat} (hle : u.frame.number ≤ f) (h : (u.partner k).laneFrame = some f ∨ (u.partner k).lanFrame = some f) :
    missCount u k = 0 := by
  refine if_pos ?_
  rw [Bool.or_eq_true, Option.any_eq_true, Option.any_eq_true]
  exact h.imp (fun h => ⟨f, h, decide_eq_true hle⟩) (fun h => ⟨f, h, decide_eq_true hle⟩)

theorem newlyLost_eq {m : Nat} (hm : missCount u k = m) :
    ((u.partner k).lost || newlyLost u k) = ((u.partner k).lost || decide ((if k = 2 then 2 else 3) ≤ m)) := by
  rw [newlyLost, hm]
  cases (u.partner k).lost <;> simp

/-- Settles O46. -/
theorem heartbeatEvents : Obligations.HeartbeatEvents := by
  unfold Obligations.HeartbeatEvents
  intro t path k b s
  refine ⟨fun hpath => guardUnit_out (decide_eq_false (Nat.not_lt.2 hpath)), fun hrun hunit hd hphase hnew hrel hdue => ?_,
    fun hidle => ?_, fun hearly => ?_, fun hpath hbad => ?_, fun hpath hd hok hbeat hown => ?_,
    fun hpath hd hok hbeat hk hother hpartner hrel harb hbit => ?_, fun hpath hd hok hbeat hk hother hpartner harb hcand hrel hbit hholder => ?_,
    fun hpath hno hother => ?_, fun hrun hd hphase hnew => congrArg Host.Outcome.next (if_pos ⟨hrun, hd, hphase, hnew⟩),
    fun hdone => congrArg Host.Outcome.next (if_neg fun hno => hno.2.2.2 hdone),
    fun hearly => congrArg Host.Outcome.next (if_neg fun hno => Nat.not_le.2 hearly hno.2.2.1), fun hk hlane hlan => ?_,
    fun f hk hle hheard => ?_, fun hk => guardUnit_out (decide_eq_false (Nat.not_lt.2 hk)), fun hk hne => ?_,
    fun hk => guardUnit_next (decide_eq_true hk) (if_pos rfl)⟩
  · exact congrArg Host.Outcome.next ((if_pos ⟨hrun, hunit, hd, hphase, hnew⟩).trans (heartbeat_out (u := s.arrive t) hrel hdue))
  · refine congrArg Host.Outcome.next (if_neg ?_)
    rintro ⟨-, hunit, -, -, hnew⟩
    exact hidle.elim hunit hnew
  · refine congrArg Host.Outcome.next (if_neg ?_)
    rintro ⟨-, -, -, hphase, -⟩
    exact Nat.not_le.2 hearly hphase
  · exact guardUnit_next (decide_eq_true hpath) (if_pos (Or.inr (Or.inl (Bool.eq_false_iff.1 hbad))))
  · exact ⟨_, exec_heartbeatReceived_own hpath hd hok hbeat hown, raiseAlarm_on _ _ _ (by decide), onlyLog_raiseAlarm _ _ _ _⟩
  · subst hk
    have hlt := partners_lt hpartner
    have hnoreq : ¬ ((heardFrom (s.arrive t) (fld b 3 1) (decide (path < 2)) b).arbiter = true ∧ (fld b 18 1).testBit 1 = true) := by
      rw [heardFrom_arbiter]
      exact fun hno => Bool.eq_false_iff.1 harb hno.1
    refine ⟨_, (exec_heartbeatReceived_partner hpath hd hok hbeat hother hpartner).trans (congrArg Host.Outcome.next
      ((takeHeartbeat_plain (u := s.arrive t) hrel hbit).trans (if_neg hnoreq))), ?_, fun j hj hne => ?_, ?_, ?_, ?_, rfl,
      fun hpair => heardFrom_alarm (u := s.arrive t) hpair⟩
    · rw [heardFrom_partner, modPartner_partner _ _ hlt]
      rfl
    · rw [heardFrom_partner, modPartner_partner_ne _ _ hlt hj hne]
      rfl
    · rw [heardFrom_red]
    · obtain ⟨f, l, a, r, m, h⟩ := heardFrom_frame (s.arrive t) (fld b 3 1) (decide (path < 2)) b
      rw [h]
      rfl
    · rw [heardFrom_red, (modPartner_arbiter _ _ _).2.1]
      rfl
  · subst hk
    have hreq : (heardFrom (s.arrive t) (fld b 3 1) (decide (path < 2)) b).arbiter = true ∧ (fld b 18 1).testBit 1 = true :=
      ⟨(heardFrom_arbiter _ _ _ _).trans harb, hcand⟩
    have hlease := heardFrom_lease (s.arrive t) (fld b 3 1) (decide (path < 2)) b
    have hnow : (heardFrom (s.arrive t) (fld b 3 1) (decide (path < 2)) b).now = max s.now t := by
      obtain ⟨f, l, a, r, m, h⟩ := heardFrom_frame (s.arrive t) (fld b 3 1) (decide (path < 2)) b
      rw [h]
      rfl
    obtain ⟨w, hw, hwholder, hwexpires, hwepoch⟩ := leaseRequest_holder
      (u := heardFrom (s.arrive t) (fld b 3 1) (decide (path < 2)) b)
      (r := requestOf (heardFrom (s.arrive t) (fld b 3 1) (decide (path < 2)) b) (fld b 3 1) b)
      ((congrArg LeaseW.holder hlease).trans hholder)
    exact ⟨w, (exec_heartbeatReceived_partner hpath hd hok hbeat hother hpartner).trans (congrArg Host.Outcome.next
      ((takeHeartbeat_plain (u := s.arrive t) hrel hbit).trans ((if_pos hreq).trans hw))), hwholder,
      hwexpires.trans (congrArg (· + 80000000) hnow), hwepoch.trans (congrArg LeaseW.epoch hlease)⟩
  · refine guardUnit_next (decide_eq_true hpath) ?_
    have hno' : ¬ (s.arrive t).partners.contains (fld b 3 1) = true := Bool.eq_false_iff.1 hno
    exact (congrArg (ite _ _) ((if_neg hother).trans (if_neg hno'))).trans (ite_self _)
  · have hcount := missCount_missed hlane hlan
    rw [missOne_partner hk]
    refine ⟨hcount, newlyLost_eq hcount, fun hpair hlost hdue => missOne_alarm hpair ?_⟩
    rw [newlyLost, hlost, hcount]
    exact decide_eq_true hdue
  · have hcount := missCount_heard hle hheard
    rw [missOne_partner hk]
    refine ⟨hcount, (newlyLost_eq hcount).trans ?_⟩
    rw [decide_eq_false (by split <;> decide), Bool.or_false]
  · exact ⟨_, guardUnit_next (decide_eq_true hk) (if_neg hne.symm), onlyLog_event _ _ _⟩

end Sys2Proof.Machine
end

section
/-!
PROOF. The DMA engine's events (R501–R514) and what a trigger does to the descriptors that wait for it (R507). The end of a descriptor is one change of
its channel and at most 12 bytes; a move changes bytes alone; a take is one of four changes of its channel.
-/
namespace Sys2Proof.Machine

/-! ### Bytes read back -/

theorem Memory.read_write : ∀ (bs : List Byte) {m : Memory} (a : Nat), Memory.wf m = true → (m.write a bs).read a bs.length = bs
  | [], _, _, _ => rfl
  | b :: bs, m, a, hm => by
    have hset := Memory.set_wf (a := a) (v := b) hm
    have htail := Memory.read_write bs (a + 1) hset
    have hhead : ((m.set a b).write (a + 1) bs).get a = b := by
      rw [Memory.get_write_outside bs hset (by omega), Memory.get_set hm, if_pos rfl]
    rw [Memory.write, List.length_cons, Memory.read, List.range_succ_eq_map, List.map_cons, List.map_map]
    rw [Memory.read] at htail
    refine congr (congrArg List.cons hhead) (Eq.trans ?_ htail)
    exact List.map_congr_left fun i _ => congrArg (Memory.get _) (by simp only [Nat.succ_eq_add_one]; omega)

/-! ### The end of a descriptor, R511 -/

/-- A channel whose descriptor ended with a status, so many bytes of it moved. R511. -/
def DmaChan.ended (c : DmaChan) (d : DmaDesc) (status moved : Nat) : DmaChan :=
  { c with
    state := 0, last := status, endF := c.endF || decide (status = 0)
    half := c.half || (d.circ && (decide (d.startPos < d.size / 2 ∧ d.size / 2 ≤ d.startPos + moved) ||
      decide (d.size + d.size / 2 ≤ d.startPos + moved)))
    full := c.full || (d.circ && decide (d.size ≤ d.startPos + moved)), err := c.err || !decide (status = 0)
    remain := wN (d.len - moved), cur := d.addr
    circPos := if d.circ then (if d.circ then (d.startPos + moved) % d.size else 0) else c.circPos, tag := d.tag
    count := if decide (status = 0) then c.count + 1 else c.count
    prevCirc := if d.circ then some (d.srcCirc, d.base, d.size, if d.circ then (d.startPos + moved) % d.size else 0) else none
    desc := none, goAt := none }

/-- The three status words of a descriptor. R511. -/
def State.dmaStatus (s : State) (d : DmaDesc) (status moved : Nat) : List Byte :=
  leBytes 4 status ++ leBytes 4 (d.len - moved) ++ leBytes 4 (s.sel % 2 ^ 32)

@[simp] theorem State.dmaStatus_length (s : State) (d : DmaDesc) (status moved : Nat) : (s.dmaStatus d status moved).length = 12 := rfl

theorem State.dmaEnd_ended (s : State) (n : Nat) (d : DmaDesc) (status moved : Nat) (trusted : Bool) :
    ∃ e, s.dmaEnd n d status moved trusted =
      { { s with dram.cells := if trusted then Memory.write s.dram.cells (d.addr + 36) (s.dmaStatus d status moved) else s.dram.cells }.modDch n
          (·.ended d status moved) with sent := e } := by
  unfold State.dmaEnd
  extract_lets rem cells m v half tot hf ff ef pos w asks
  refine ⟨if (w.dch n).ie && asks then s.sent ++ [.irq "DMA" n] else s.sent, ?_⟩
  cases trusted <;> split <;> rfl

theorem State.dmaEnd_dch {s : State} {n : Nat} (hn : n < s.dma.chans.length) (d : DmaDesc) (status moved : Nat) (trusted : Bool) :
    (s.dmaEnd n d status moved trusted).dch n = (s.dch n).ended d status moved := by
  obtain ⟨e, heq⟩ := s.dmaEnd_ended n d status moved trusted
  rw [heq]
  exact State.dch_modDch (s := { s with dram.cells := _ }) (·.ended d status moved) hn

theorem State.dmaEnd_cells (s : State) (n : Nat) (d : DmaDesc) (status moved : Nat) :
    (s.dmaEnd n d status moved true).dram.cells = Memory.write s.dram.cells (d.addr + 36) (s.dmaStatus d status moved) := by
  obtain ⟨e, heq⟩ := s.dmaEnd_ended n d status moved true
  rw [heq]
  rfl

theorem State.dmaEnd_now (s : State) (n : Nat) (d : DmaDesc) (status moved : Nat) (trusted : Bool) :
    (s.dmaEnd n d status moved trusted).now = s.now := by
  obtain ⟨e, heq⟩ := s.dmaEnd_ended n d status moved trusted
  rw [heq]
  rfl

/-! ### A move, R509 -/

/-- From `s` to `u` bytes were written and nothing else. -/
def OnlyBytes (s u : State) : Prop :=
  ∃ c x y, u = { s with dram.cells := c, dma.sram0 := x, dma.sram1 := y }

theorem onlyBytes_refl (s : State) : OnlyBytes s s := ⟨_, _, _, rfl⟩

theorem OnlyBytes.trans {s u v : State} (h : OnlyBytes s u) (h' : OnlyBytes u v) : OnlyBytes s v := by
  obtain ⟨c, x, y, rfl⟩ := h
  obtain ⟨c', x', y', rfl⟩ := h'
  exact ⟨c', x', y', rfl⟩

theorem OnlyBytes.dch {s u : State} (h : OnlyBytes s u) (k : Nat) : u.dch k = s.dch k := by
  obtain ⟨c, x, y, rfl⟩ := h
  rfl

theorem OnlyBytes.chans_length {s u : State} (h : OnlyBytes s u) : u.dma.chans.length = s.dma.chans.length := by
  obtain ⟨c, x, y, rfl⟩ := h
  rfl

theorem OnlyBytes.sel {s u : State} (h : OnlyBytes s u) : u.sel = s.sel := by
  obtain ⟨c, x, y, rfl⟩ := h
  rfl

theorem onlyBytes_dmaSet (s : State) (a : Nat) (v : Byte) : OnlyBytes s (s.dmaSet a v) := by
  unfold State.dmaSet
  split <;> exact ⟨_, _, _, rfl⟩

theorem onlyBytes_dmaCopy (s : State) (d : DmaDesc) (a k : Nat) : OnlyBytes s (s.dmaCopy d a k) := by
  induction k with
  | zero => exact onlyBytes_refl s
  | succ k ih =>
    rw [State.dmaCopy_succ]
    exact ih.trans (onlyBytes_dmaSet _ _ _)

theorem onlyBytes_dmaMove (s : State) (d : DmaDesc) (m : Nat) : OnlyBytes s (s.dmaMove d m) := by
  unfold State.dmaMove
  split
  · exact onlyBytes_dmaCopy _ _ _ _
  · exact onlyBytes_dmaCopy _ _ _ _

section
variable {q : List Instr} {t : Nat} {s : State} (h : Kept q t s) {d : DmaDesc} (hplain : d.dstCirc = false)
  (hpnt : d.dst + d.len ≤ pntLo ∨ pntHi < d.dst)
include h hplain hpnt

/-- A copy to a plain range outside the point table leaves every address outside that range. -/
theorem State.dmaByte_dmaCopy_outside {a b k : Nat} (hk : a + k ≤ d.len) (hb : b < d.dst ∨ d.dst + d.len ≤ b) :
    (s.dmaCopy d a k).dmaByte b = s.dmaByte b := by
  induction k with
  | zero => rfl
  | succ k ih =>
    rw [State.dmaCopy_succ, DmaDesc.addrAt_dst hplain, State.dmaByte_dmaSet (State.dmaCopy_kept h) (by omega), if_neg (by omega)]
    exact ih (by omega)

theorem State.dmaByte_dmaMove_outside {b m : Nat} (hm : m ≤ d.len) (hb : b < d.dst ∨ d.dst + d.len ≤ b) :
    (s.dmaMove d m).dmaByte b = s.dmaByte b := by
  unfold State.dmaMove
  split
  · exact State.dmaByte_dmaCopy_outside h hplain hpnt (by omega) hb
  · exact State.dmaByte_dmaCopy_outside h hplain hpnt (by omega) hb

/-- A move and the end of its descriptor leave every byte outside the destination and the status words. R509, R511. -/
theorem State.dmaByte_moved_outside {b m : Nat} (hm : m ≤ d.len) (hb : b < d.dst ∨ d.dst + d.len ≤ b)
    (hstat : b < d.addr + 36 ∨ d.addr + 48 ≤ b) (n status : Nat) (trusted : Bool) :
    ((s.dmaMove d m).dmaEnd n d status m trusted).dmaByte b = s.dmaByte b := by
  rw [State.dmaByte_dmaEnd (State.dmaMove_kept h) hstat, State.dmaByte_dmaMove_outside h hplain hpnt hm hb]

end

/-! ### A take, R506 -/

/-- A channel that ended before a descriptor could be read: nothing taken, the error's status. R506. -/
def DmaChan.untaken (c : DmaChan) (a status : Nat) : DmaChan :=
  { c with cur := a, state := 0, last := status, err := true, desc := none }

theorem State.dmaTake_misaligned {s : State} {a : Nat} (ha : a % 64 ≠ 0) (n : Nat) :
    s.dmaTake n a = (s.modDch n (fun c => { c with cur := a })).modDch n
      (fun c => { c with state := 0, last := 2, err := true, desc := none }) :=
  if_pos ha

/-- Whether the descriptor at an address lies where its channel may read one. R506. -/
abbrev descReach (n a : Nat) : Bool := inRange (if 24 ≤ n then partLo else dramLo) (if 24 ≤ n then partHi else sharedHi) a 64

theorem descReach_eq (n a : Nat) : (if dmaPart n then inRange partLo partHi a 64 else inRange dramLo sharedHi a 64) = descReach n a := by
  by_cases hp : 24 ≤ n
  · simp [dmaPart, descReach, hp]
  · simp [dmaPart, descReach, hp]

theorem State.dmaTake_unreachable {s : State} {n a : Nat} (hlt : n < s.dma.chans.length) (ha : a % 64 = 0) (hreach : descReach n a = false) :
    (s.dmaTake n a).dch n = (s.dch n).untaken a 5 := by
  unfold State.dmaTake
  extract_lets +onlyGivenNames v
  rw [if_neg (by simp [ha]), if_pos (by simp [descReach_eq, hreach])]
  have hlogged : OnlyLog v (if dmaPart n then v.event .PARTITION_VIOLATION [wN a, wN (a / 2 ^ 32)] else v) :=
    onlyLog_ite (onlyLog_event v _ _) (onlyLog_refl v)
  have hv : v.dch n = { s.dch n with cur := a } := State.dch_modDch _ hlt
  rw [State.dch_modDch _ (by rw [hlogged.dma]; simpa [v] using hlt), hlogged.dch, hv]
  rfl

section
variable {s : State} {n a : Nat} (hlt : n < s.dma.chans.length) (halign : a % 64 = 0) (hreach : descReach n a = true)
  (hprev : (s.dch n).prevCirc = none)
include hlt halign hreach hprev

/-- A first descriptor that can be read and passes every check is taken. R506. -/
theorem State.dmaTake_first_passes (hpass : s.dmaCheck n (s.firstDesc a) (Memory.read s.dram.cells a 64) = 0) :
    s.dmaTake n a = (s.modDch n (fun c => { c with cur := a })).modDch n (fun c => { c with
      desc := some (s.firstDesc a), state := if (s.firstDesc a).trig = 0 then 2 else 1, remain := wN (s.firstDesc a).len
      circPos := if (s.firstDesc a).circ then (s.firstDesc a).startPos else c.circPos }) := by
  unfold State.dmaTake
  extract_lets +onlyGivenNames v
  rw [if_neg (by simp [halign]), if_neg (by rw [descReach_eq, hreach]; simp)]
  extract_lets d c pos d' st b x
  have hc : c.prevCirc = none := by simp only [c, v, State.dch_modDch _ hlt, hprev]
  have hpos : pos = if d.circ then d.circAddr % d.size else 0 := by simp only [pos, hc, ite_not]
  have hd : d' = s.firstDesc a := by simp only [d', hpos]; rfl
  have hst : st = 0 := by simp only [st, hd]; exact hpass
  rw [if_pos hst, ← hd]

/-- A first descriptor that can be read and fails a check: the channel ended with that status. R506. -/
theorem State.dmaTake_first_fails_dch (hfail : s.dmaCheck n (s.firstDesc a) (Memory.read s.dram.cells a 64) ≠ 0) :
    (s.dmaTake n a).dch n = { s.dch n with cur := a }.ended (s.firstDesc a)
      (s.dmaCheck n (s.firstDesc a) (Memory.read s.dram.cells a 64)) 0 := by
  unfold State.dmaTake
  extract_lets +onlyGivenNames v
  rw [if_neg (by simp [halign]), if_neg (by rw [descReach_eq, hreach]; simp)]
  extract_lets d c pos d' st b x
  have hv : v.dch n = { s.dch n with cur := a } := State.dch_modDch _ hlt
  have hc : c.prevCirc = none := by simp only [c, hv, hprev]
  have hpos : pos = if d.circ then d.circAddr % d.size else 0 := by simp only [pos, hc, ite_not]
  have hd : d' = s.firstDesc a := by simp only [d', hpos]; rfl
  have hst : st = s.dmaCheck n (s.firstDesc a) (Memory.read s.dram.cells a 64) := by simp only [st, hd]; rfl
  have hx : OnlyLog v x := onlyLog_ite (onlyLog_event v _ _) (onlyLog_refl v)
  rw [if_neg (hst ▸ hfail), ← hst, ← hd, State.dmaEnd_dch (by rw [hx.dma]; simpa [v] using hlt), hx.dch, hv]

end

/-! ### A START of a free channel, R505 -/

/-- A channel at its START: the chain has no previous descriptor, and what the take changes is noted. -/
def DmaChan.ready (c : DmaChan) (now : Nat) : DmaChan :=
  { c with prevCirc := none, startAt := some (now, c.cur, c.remain, c.circPos) }

section
variable {s : State} {n a : Nat} (hlt : n < s.dma.chans.length) (hfree : (s.dch n).desc = none) (hen : (s.dch n).en = true)
  (ha : a = (s.dch n).firstAt)
include hlt hfree hen ha

theorem State.dmaStart_misaligned (halign : a % 64 ≠ 0) : (s.dmaStart n).dch n = ((s.dch n).ready s.now).untaken a 2 := by
  rw [State.dmaStart_free hfree hen, ← ha, State.dmaTake_misaligned halign, State.dch_modDch _ (by simpa [State.dmaReady] using hlt),
    State.dch_modDch _ (by simpa [State.dmaReady] using hlt), State.dmaReady, State.dch_modDch _ hlt]
  rfl

theorem State.dmaStart_unreachable (halign : a % 64 = 0) (hreach : descReach n a = false) :
    (s.dmaStart n).dch n = ((s.dch n).ready s.now).untaken a 5 := by
  rw [State.dmaStart_free hfree hen, ← ha, State.dmaTake_unreachable (by simpa [State.dmaReady] using hlt) halign hreach, State.dmaReady,
    State.dch_modDch _ hlt]
  rfl

theorem State.dmaStart_passes (halign : a % 64 = 0) (hreach : descReach n a = true)
    (hpass : s.dmaCheck n (s.firstDesc a) (Memory.read s.dram.cells a 64) = 0) :
    (s.dmaStart n).dch n = { (s.dch n).ready s.now with
      cur := a, desc := some (s.firstDesc a), state := if (s.firstDesc a).trig = 0 then 2 else 1, remain := wN (s.firstDesc a).len
      circPos := if (s.firstDesc a).circ then (s.firstDesc a).startPos else (s.dch n).circPos } ∧
    (s.dmaStart n).dram = s.dram := by
  have hready : n < (s.dmaReady n).dma.chans.length := by simpa [State.dmaReady] using hlt
  have hprev : ((s.dmaReady n).dch n).prevCirc = none := by rw [State.dmaReady, State.dch_modDch _ hlt]
  rw [State.dmaStart_free hfree hen, ← ha, State.dmaTake_first_passes hready halign hreach hprev hpass]
  refine ⟨?_, rfl⟩
  rw [State.dch_modDch _ (by simpa using hready), State.dch_modDch _ hready, State.dmaReady, State.dch_modDch _ hlt]
  rfl

theorem State.dmaStart_fails {st : Nat} (halign : a % 64 = 0) (hreach : descReach n a = true)
    (hst : s.dmaCheck n (s.firstDesc a) (Memory.read s.dram.cells a 64) = st) (hfail : st ≠ 0) :
    (s.dmaStart n).dch n = { (s.dch n).ready s.now with cur := a }.ended (s.firstDesc a) st 0 := by
  subst hst
  have hready : n < (s.dmaReady n).dma.chans.length := by simpa [State.dmaReady] using hlt
  have hprev : ((s.dmaReady n).dch n).prevCirc = none := by rw [State.dmaReady, State.dch_modDch _ hlt]
  rw [State.dmaStart_free hfree hen, ← ha, State.dmaTake_first_fails_dch hready halign hreach hprev hfail, State.dmaReady,
    State.dch_modDch _ hlt]
  rfl

end

/-! ### EN cleared, R513, R515 -/

/-- A channel with EN clear. -/
def DmaChan.off (c : DmaChan) : DmaChan := { c with en := false }

/-- A channel whose START fell into the cycle that cleared EN: refused, as before its START. R515. -/
theorem State.dmaUnstart_same {s : State} {n : Nat} {x : Nat × Nat × Word × Nat} (hdesc : (s.dch n).desc.isSome = true)
    (hx : (s.dch n).startAt = some x) (hnow : x.1 = s.now) :
    s.dmaUnstart n = s.modDch n (fun c => { c with
      desc := none, state := 0, refused := true, cur := x.2.1, remain := x.2.2.1, circPos := x.2.2.2, startAt := none }) := by
  obtain ⟨a, cur, rem, pos⟩ := x
  simp only [State.dmaUnstart, hx]
  exact if_pos ⟨hnow, hdesc⟩

theorem State.dmaUnstart_idle {s : State} {n : Nat} (hdesc : (s.dch n).desc = none) : s.dmaUnstart n = s := by
  unfold State.dmaUnstart
  split
  · rfl
  · exact if_neg (fun hc => by simp [hdesc] at hc)

theorem State.dmaUnstart_other {s : State} {n : Nat} (hx : ∀ x, (s.dch n).startAt = some x → x.1 ≠ s.now) : s.dmaUnstart n = s := by
  unfold State.dmaUnstart
  split
  · rfl
  · next hsome => exact if_neg (fun hc => hx _ hsome hc.1)

/-- A START of the same cycle or none: a channel whose EN is cleared has no descriptor and stays as it is but for EN. -/
theorem State.dmaDisable_none {s : State} {n : Nat} (hnone : ((s.dmaUnstart n).dch n).desc = none)
    (why : Nat) : OnlyLog ((s.dmaUnstart n).modDch n (fun c => { c with en := false })) (s.dmaDisable n why) := by
  unfold State.dmaDisable
  extract_lets v c w
  have hc : c.desc = none := hnone
  rw [hc]
  exact onlyLog_disableRec _ _ _ _ _ _ _ _

/-- The channel of a descriptor that EN cleared stops: ended ABORTED with nothing moved where it still waits. R513. -/
theorem State.dmaDisable_waiting {s : State} {n : Nat} {d : DmaDesc} (hun : s.dmaUnstart n = s) (hlt : n < s.dma.chans.length)
    (hd : (s.dch n).desc = some d) (hwait : (s.dch n).state = 1) (why : Nat) :
    (s.dmaDisable n why).dch n = (s.dch n).off.ended d 1 0 := by
  unfold State.dmaDisable
  extract_lets v c w
  have hv : v = s := hun
  have hc : c = s.dch n := congrArg (State.dch · n) hun
  have hw : w.dch n = (s.dch n).off := by simp only [w, hv]; exact State.dch_modDch _ hlt
  rw [hc, hd]
  dsimp only
  rw [if_pos (Or.inl hwait), State.disableRec_dch, State.dmaEnd_dch (by simpa [w, hv] using hlt), hw]

/-- Whatever ran on it, a channel whose EN is cleared has EN clear and no descriptor. R513. -/
theorem State.dmaDisable_stops {s : State} {n : Nat} (hlt : n < s.dma.chans.length) (why : Nat) :
    ((s.dmaDisable n why).dch n).en = false ∧ ((s.dmaDisable n why).dch n).desc = none := by
  have hlen : n < (s.dmaUnstart n).dma.chans.length := by
    unfold State.dmaUnstart
    split
    · exact hlt
    · split
      · simpa using hlt
      · exact hlt
  unfold State.dmaDisable
  extract_lets v c w
  have hw : w.dch n = (v.dch n).off := State.dch_modDch _ hlen
  have hwlen : n < w.dma.chans.length := by simpa [w] using hlen
  split
  · next hnone => rw [State.disableRec_dch, hw]; exact ⟨rfl, hnone⟩
  · next d hd =>
    split
    · rw [State.disableRec_dch, State.dmaEnd_dch hwlen, hw]
      exact ⟨rfl, rfl⟩
    · dsimp only [State.freeW]
      generalize d.afterBursts _ = m
      generalize hzdef : State.dmaMove { w with free := w.free + 1 } d m = z
      have hmoved : OnlyBytes { w with free := w.free + 1 } z := hzdef ▸ onlyBytes_dmaMove _ _ _
      have hz : z.dch n = (v.dch n).off := (hmoved.dch n).trans hw
      have hzlen : n < z.dma.chans.length := hmoved.chans_length ▸ hwlen
      split
      · rw [State.disableRec_dch, State.dmaEnd_dch hzlen, hz]
        exact ⟨rfl, rfl⟩
      · rw [State.disableRec_dch, State.dmaEnd_dch hzlen, hz]
        exact ⟨rfl, rfl⟩

/-! ### A trigger, R507 -/

/-- What a trigger does to one channel: its waiting descriptor starts; for one that moves the trigger is missed. -/
def DmaChan.trigger (c : DmaChan) (kind now : Nat) : DmaChan :=
  if c.desc.any (fun d => d.trig = kind) then (if c.state = 1 then { c with state := 2, goAt := some now } else { c with trigMiss := true }) else c

/-- The trigger's step at channel `n`. -/
def State.dmaTrigAt (kind : Nat) (s : State) (n : Nat) : State :=
  match (s.dch n).desc with
  | none => s
  | some d =>
    if d.trig ≠ kind then s
    else if (s.dch n).state = 1 then s.modDch n (fun c => { c with state := 2, goAt := some s.now })
    else s.modDch n (fun c => { c with trigMiss := true })

/-- From `s` to `u` only the DMA channels changed. -/
def OnlyDch (s u : State) : Prop := ∃ c, u = { s with dma.chans := c }

theorem onlyDch_modDch (s : State) (n : Nat) (f : DmaChan → DmaChan) : OnlyDch s (s.modDch n f) := ⟨_, rfl⟩

/-- One change of channel `n` to what the trigger makes of it. -/
theorem trigger_modDch {s : State} {n kind : Nat} (hlt : n < s.dma.chans.length) {f : DmaChan → DmaChan}
    (hf : f (s.dch n) = (s.dch n).trigger kind s.now) :
    (s.modDch n f).dch n = (s.dch n).trigger kind s.now ∧ ∀ j, j ≠ n → (s.modDch n f).dch j = s.dch j :=
  ⟨(State.dch_modDch f hlt).trans hf, fun _ hj => State.dch_modDch_ne f hj.symm⟩

theorem onlyDch_dmaTrigAt (kind : Nat) (s : State) (n : Nat) : OnlyDch s (s.dmaTrigAt kind n) := by
  unfold State.dmaTrigAt
  split
  · exact ⟨_, rfl⟩
  · exact iteInduction (fun _ => ⟨_, rfl⟩) (fun _ => iteInduction (fun _ => onlyDch_modDch _ _ _) (fun _ => onlyDch_modDch _ _ _))

/-- At one channel a trigger is its change of that channel. -/
theorem State.dmaTrigAt_dch {s : State} {n : Nat} (hlt : n < s.dma.chans.length) (kind : Nat) :
    (s.dmaTrigAt kind n).dch n = (s.dch n).trigger kind s.now ∧ ∀ j, j ≠ n → (s.dmaTrigAt kind n).dch j = s.dch j := by
  unfold State.dmaTrigAt
  split
  · next hnone => exact ⟨by simp [DmaChan.trigger, hnone], fun _ _ => rfl⟩
  · next d hd =>
    split
    · next hother => exact ⟨by simp [DmaChan.trigger, hd, hother], fun _ _ => rfl⟩
    · next hkind =>
      have hkind : d.trig = kind := Classical.not_not.mp hkind
      split
      · next hwait => exact trigger_modDch hlt (by simp [DmaChan.trigger, hd, hkind, hwait])
      · next hmove => exact trigger_modDch hlt (by simp [DmaChan.trigger, hd, hkind, hmove])

theorem State.dmaTrigAt_chans_length (s : State) (kind n : Nat) : (s.dmaTrigAt kind n).dma.chans.length = s.dma.chans.length := by
  unfold State.dmaTrigAt
  split
  · rfl
  · exact iteInduction (motive := fun u : State => u.dma.chans.length = s.dma.chans.length) (fun _ => rfl)
      (fun _ => iteInduction (motive := fun u : State => u.dma.chans.length = s.dma.chans.length)
        (fun _ => State.modDch_chans_length _ _ _) (fun _ => State.modDch_chans_length _ _ _))

/-- A trigger reaches each channel of a list once. -/
theorem dmaTrigAt_foldl (kind : Nat) (l : List Nat) (hnodup : l.Nodup) (s : State) (hl : ∀ n ∈ l, n < s.dma.chans.length) :
    OnlyDch s (l.foldl (State.dmaTrigAt kind) s) ∧
      ∀ j, (l.foldl (State.dmaTrigAt kind) s).dch j = if j ∈ l then (s.dch j).trigger kind s.now else s.dch j := by
  induction l generalizing s with
  | nil => exact ⟨⟨_, rfl⟩, fun _ => rfl⟩
  | cons n l ih =>
    obtain ⟨hnl, hnodup⟩ := List.nodup_cons.mp hnodup
    obtain ⟨hself, hother⟩ := State.dmaTrigAt_dch (hl n (by simp)) kind
    obtain ⟨c, hc⟩ := onlyDch_dmaTrigAt kind s n
    have hnow : (s.dmaTrigAt kind n).now = s.now := hc ▸ rfl
    have hlen : (s.dmaTrigAt kind n).dma.chans.length = s.dma.chans.length := s.dmaTrigAt_chans_length kind n
    obtain ⟨⟨c', hc'⟩, hrest⟩ := ih hnodup (s.dmaTrigAt kind n) (fun m hm => hlen ▸ hl m (by simp [hm]))
    refine ⟨⟨c', ?_⟩, fun j => ?_⟩
    · rw [List.foldl_cons, hc', hc]
    · rw [List.foldl_cons, hrest, hnow]
      by_cases hj : j = n
      · subst hj
        rw [if_neg hnl, hself, if_pos (by simp)]
      · rw [hother j hj]
        simp [hj]

theorem exec_dmaTrigger_eq {k : Nat} (hk1 : 1 ≤ k) (hk3 : k ≤ 3) (t : Nat) (s : State) :
    exec (.dmaTrigger t k) s = .next ((List.range 32).foldl (State.dmaTrigAt k) (s.arrive t)) := by
  rw [exec_dmaTrigger, execDmaTrigger]
  exact guardUnit_in (between_iff.2 ⟨hk1, hk3⟩)

theorem exec_dmaTrigger_dch {k : Nat} {s : State} (hs : s.Inv) (hk1 : 1 ≤ k) (hk3 : k ≤ 3) (t : Nat) :
    ∃ u, exec (.dmaTrigger t k) s = .next u ∧ u = { s.arrive t with dma := { s.dma with chans := u.dma.chans } } ∧
      ∀ j, j < 32 → u.dch j = (s.dch j).trigger k (max s.now t) := by
  obtain ⟨⟨c, hc⟩, hdch⟩ := dmaTrigAt_foldl k (List.range 32) List.nodup_range (s.arrive t)
    (fun n hn => dch_lt hs (List.mem_range.mp hn))
  refine ⟨_, exec_dmaTrigger_eq hk1 hk3 t s, ?_, fun j hj => ?_⟩
  · rw [hc]
    rfl
  · rw [hdch, if_pos (List.mem_range.mpr hj)]
    rfl

/-! ### The events -/

theorem exec_dmaStart_off {n : Nat} {s : State} (hn : n < 32) (hd : s.dom 1 = false) (t : Nat) :
    exec (.dmaStart t n) s = .next (s.arrive t) := by
  simp [execDmaStart, guardUnit, hn, hd]

theorem exec_dmaEnClear_noop {n : Nat} {s : State} (hn : n < 32) (h : s.dom 1 = false ∨ (s.dch n).en = false) (t : Nat) :
    exec (.dmaEnClear t n) s = .next (s.arrive t) := by
  obtain h | h := h
  · simp [execDmaEnClear, guardUnit, hn, h]
  · simp [execDmaEnClear, guardUnit, hn, h]

theorem exec_dmaEnClear_powered {n : Nat} {s : State} (hn : n < 32) (hd : s.dom 1 = true) (hen : (s.dch n).en = true) (t : Nat) :
    exec (.dmaEnClear t n) s = .next ((s.arrive t).dmaDisable n 0) := by
  simp [execDmaEnClear, guardUnit, hn, hd, hen]

theorem exec_dmaDescriptorEnd_idle {n : Nat} {s : State} (hn : n < 32) (h : (s.dch n).desc = none ∨ (s.dch n).state ≠ 2) (t : Nat) (e : Bool) :
    exec (.dmaDescriptorEnd t n e) s = .next (s.arrive t) := by
  rw [exec_dmaDescriptorEnd, execDmaDescriptorEnd]
  refine (guardUnit_in (by simpa using hn)).trans ?_
  cases hd : (s.dch n).desc with
  | none => simp [hd]
  | some d => simp [hd, h.resolve_left (by simp [hd])]

theorem exec_dmaDescriptorEnd_busErr {n : Nat} {s : State} {d : DmaDesc} (hn : n < 32) (hd : (s.dch n).desc = some d)
    (hmoving : (s.dch n).state = 2) (t : Nat) : exec (.dmaDescriptorEnd t n true) s = .next ((s.arrive t).dmaBusErr n d) := by
  simp [execDmaDescriptorEnd, guardUnit, hn, hd, hmoving]

theorem exec_dmaDescriptorEnd_next {n : Nat} {s : State} {d : DmaDesc} (hn : n < 32) (hd : (s.dch n).desc = some d)
    (hmoving : (s.dch n).state = 2) (hnext : d.next ≠ 0) (t : Nat) : exec (.dmaDescriptorEnd t n false) s =
      .next ((((s.arrive t).dmaMove d d.len).dmaEnd n d 0 d.len true).dmaTake n d.next) := by
  simp [execDmaDescriptorEnd, guardUnit, hn, hd, hmoving, State.dmaNext, hnext]

theorem DmaDesc.afterBursts_le (d : DmaDesc) (k : Nat) : d.afterBursts k ≤ d.len := Nat.min_le_left _ _

/-- A moving descriptor that ends BUSERR: some of its bytes moved, then its end. R514. -/
theorem State.dmaBusErr_moving {s : State} {n : Nat} {d : DmaDesc} (hmoving : (s.dch n).state = 2) :
    ∃ m, m ≤ d.len ∧ s.dmaBusErr n d = (s.freeW.2.dmaMove d m).dmaEnd n d 6 m true :=
  ⟨_, d.afterBursts_le _, by rw [State.dmaBusErr, if_neg (by simp [hmoving])]⟩

/-- After a move and its descriptor's end the channel shows the end. -/
theorem State.moved_dch {s : State} {n : Nat} (hlt : n < s.dma.chans.length) (d : DmaDesc) (m status moved : Nat) (trusted : Bool) :
    ((s.dmaMove d m).dmaEnd n d status moved trusted).dch n = (s.dch n).ended d status moved := by
  have hmoved := onlyBytes_dmaMove s d m
  rw [State.dmaEnd_dch (hmoved.chans_length ▸ hlt), hmoved.dch]

/-- The status words read back after a descriptor's end. R511. -/
theorem State.moved_status {q : List Instr} {t : Nat} {s : State} (h : Kept q t s) (n : Nat) (d : DmaDesc) (m status moved : Nat) :
    Memory.read ((s.dmaMove d m).dmaEnd n d status moved true).dram.cells (d.addr + 36) 12 = s.dmaStatus d status moved := by
  have hsel : (s.dmaMove d m).dmaStatus d status moved = s.dmaStatus d status moved := by
    rw [State.dmaStatus, (onlyBytes_dmaMove s d m).sel]
    rfl
  have hread := Memory.read_write ((s.dmaMove d m).dmaStatus d status moved) (d.addr + 36) (State.dmaMove_kept (a1 := d) (a2 := m) h).dram
  rwa [State.dmaStatus_length, hsel, ← hsel, ← State.dmaEnd_cells _ n, hsel] at hread

/-- Settles O53: each event of a channel is the change that its START, EN, trigger or descriptor's end makes of it. -/
theorem dmaEvents : Obligations.DmaEvents := by
  unfold Obligations.DmaEvents
  intro t n k e s hs
  have hkept : Kept s.pending (max s.now t) (s.arrive t) := State.arrive_kept hs.kept
  refine ⟨fun hn => ?_, fun hk => ?_, fun hn hd => ?_, fun hn hd hbusy => ?_, fun a hn hd hfree hen ha => ?_, fun hn hd hen => ?_,
    fun hn hen => exec_dmaEnClear_noop hn (.inr hen) t, fun hk1 hk3 => exec_dmaTrigger_dch hs hk1 hk3 t,
    fun hn hidle => exec_dmaDescriptorEnd_idle hn hidle t e, fun d hn hd hmoving hnext => exec_dmaDescriptorEnd_next hn hd hmoving hnext t,
    fun d hn hd hmoving hplain hpnt => ?_⟩
  · have hout : decide (n < 32) = false := by simpa using hn
    exact ⟨guardUnit_out hout, guardUnit_out hout, guardUnit_out hout⟩
  · exact guardUnit_out (Bool.eq_false_iff.2 (mt between_iff.1 (by omega)))
  · exact ⟨exec_dmaStart_off hn hd t, exec_dmaEnClear_noop hn (.inl hd) t⟩
  · rw [exec_dmaStart_powered hn hd, State.dmaStart_refused (s := s.arrive t) hbusy]
  · have hlt : n < (s.arrive t).dma.chans.length := dch_lt hs hn
    refine ⟨fun halign => ⟨_, exec_dmaStart_powered hn hd t, ?_, ?_⟩, fun halign hreach => ⟨_, exec_dmaStart_powered hn hd t, ?_⟩,
      fun d st halign hreach hdesc hst => ⟨_, exec_dmaStart_powered hn hd t, ?_, ?_, ?_⟩⟩
    · exact State.dmaStart_misaligned hlt hfree hen ha halign
    · exact (State.dmaStart_took hlt hfree hen).others
    · exact State.dmaStart_unreachable hlt hfree hen ha halign hreach
    · exact (State.dmaStart_took hlt hfree hen).cur.trans ha.symm
    · obtain rfl : d = s.firstDesc a := hdesc
      intro hpass
      obtain ⟨hdch, hdram⟩ := State.dmaStart_passes (s := s.arrive t) hlt hfree hen ha halign hreach (hst ▸ hpass)
      rw [hdch]
      exact ⟨rfl, rfl, rfl, hdram⟩
    · obtain rfl : d = s.firstDesc a := hdesc
      intro hfail
      rw [State.dmaStart_fails (s := s.arrive t) hlt hfree hen ha halign hreach hst.symm hfail]
      exact ⟨rfl, rfl, rfl, by simp [DmaChan.ended, hfail], by simp [DmaChan.ended, DmaChan.ready, hfail]⟩
  · have hlt : n < (s.arrive t).dma.chans.length := dch_lt hs hn
    obtain ⟨hoff, hnone⟩ := State.dmaDisable_stops hlt 0
    refine ⟨_, exec_dmaEnClear_powered hn hd hen t, hoff, hnone, fun hidle => ?_, fun hbusy hwait hat => ?_, fun x hbusy hx hnow => ?_⟩
    · have hun : (s.arrive t).dmaUnstart n = s.arrive t := State.dmaUnstart_idle hidle
      have hlog := State.dmaDisable_none (s := s.arrive t) (n := n) (by rw [hun]; exact hidle) 0
      rwa [hun] at hlog
    · obtain ⟨d, hdesc⟩ := Option.isSome_iff_exists.mp hbusy
      rw [State.dmaDisable_waiting (s := s.arrive t) (State.dmaUnstart_other hat) hlt hdesc hwait 0]
      exact ⟨rfl, by simp [DmaChan.ended]⟩
    · have hun := State.dmaUnstart_same (s := s.arrive t) hbusy hx hnow
      have hdch : ((s.arrive t).dmaUnstart n).dch n = _ := congrArg (fun u : State => u.dch n) hun
      rw [State.dch_modDch _ hlt] at hdch
      have hlog := State.dmaDisable_none (s := s.arrive t) (n := n) (by rw [hdch]) 0
      have hfinal : ((s.arrive t).dmaDisable n 0).dch n = (((s.arrive t).dmaUnstart n).dch n).off := by
        rw [hlog.dch, State.dch_modDch _ (by rw [hun]; simpa using hlt)]
        rfl
      rw [hfinal, hdch, hlog.dram, hun]
      exact ⟨rfl, rfl, rfl⟩
  · have hlt : n < (s.arrive t).dma.chans.length := dch_lt hs hn
    refine ⟨?_, fun hlast => ⟨_, exec_dmaDescriptorEnd_last hn hd hmoving hlast t, ?_⟩⟩
    · obtain ⟨m, hm, heq⟩ := State.dmaBusErr_moving (s := s.arrive t) (d := d) hmoving
      have hfree : Kept s.pending (max s.now t) (s.arrive t).freeW.2 := State.freeW_kept hkept
      refine ⟨_, exec_dmaDescriptorEnd_busErr hn hd hmoving t, ?_⟩
      rw [heq, State.moved_dch (s := (s.arrive t).freeW.2) hlt]
      exact ⟨rfl, by simp [DmaChan.ended], rfl, rfl, rfl, fun a ha hstat => State.dmaByte_moved_outside hfree hplain hpnt hm ha hstat n 6 true⟩
    · rw [State.moved_dch hlt]
      refine ⟨rfl, by simp [DmaChan.ended], by simp [DmaChan.ended], by simp [DmaChan.ended, wN], rfl, rfl, rfl, rfl, ?_,
        fun a ha hstat => State.dmaByte_moved_outside hkept hplain hpnt (Nat.le_refl _) ha hstat n 0 true, fun i hi hstat => ?_⟩
      · rw [State.moved_status hkept, State.dmaStatus, Nat.sub_self]
      · have hcopy := State.dmaByte_dmaCopy hkept hplain (a := 0) (by simpa using hpnt) hi
        rw [State.dmaByte_dmaEnd (State.dmaMove_kept hkept) hstat, State.dmaMove_len]
        simpa using hcopy

/-- Settles O55: the take of a descriptor with a TRIG leaves its channel waiting, an end of what waits changes nothing, and a trigger is
one change of each channel. -/
theorem triggeredDescriptors : Obligations.TriggeredDescriptors := by
  unfold Obligations.TriggeredDescriptors
  intro t n k s hs hn hk1 hk3
  have hlt : n < (s.arrive t).dma.chans.length := dch_lt hs hn
  obtain ⟨u, hu, -, hdch⟩ := exec_dmaTrigger_dch hs hk1 hk3 t
  refine ⟨fun a d hdom hfree hen ha halign hreach hdesc hpass htrig => ⟨_, exec_dmaStart_powered hn hdom t, ?_⟩,
    fun d hd htrig hwait => ⟨exec_dmaDescriptorEnd_idle hn (.inr (by omega)) t false, u, hu, ?_⟩, fun d hd htrig hmoving => ⟨u, hu, ?_⟩,
    fun d hd hother => ⟨u, hu, ?_⟩⟩
  · obtain rfl : d = s.firstDesc a := hdesc
    obtain ⟨hch, -⟩ := State.dmaStart_passes (s := s.arrive t) hlt hfree hen ha halign hreach hpass
    rw [hch]
    exact ⟨rfl, if_neg (by rw [show ((s.arrive t).firstDesc a).trig = k from htrig]; omega)⟩
  · simp [hdch n hn, DmaChan.trigger, hd, htrig, hwait]
  · simp [hdch n hn, DmaChan.trigger, hd, htrig, hmoving]
  · simp [hdch n hn, DmaChan.trigger, hd, hother]

end Sys2Proof.Machine
end

section
/-!
PROOF. The recorder's release (O57). A record that finds no slot raises LOG_FULL (R540), and the release is the event that raises it, whether or not an
entry is due: a drop of the same instant shows. The fourth clause of the statement says that a release with nothing due changes nothing.
-/
namespace Sys2Proof.Machine

/-- A unit whose recorder dropped a record at this instant and holds none waiting. -/
def droppedNow : State :=
  { openUnit with log.dropAt := some 10 }

/-- Refutes O57: a release with no entry due raises LOG_FULL for a drop of the same instant. -/
theorem not_recorderEvents : ¬ Obligations.RecorderEvents := by
  unfold Obligations.RecorderEvents
  intro h
  obtain ⟨-, -, -, hnone, -⟩ := h 10 0 0 .LOG_FULL [] none .app0 0 true droppedNow ⟨by decide +kernel, by decide +kernel⟩
  have hsame := hnone (Or.inr (by decide +kernel))
  have hraised : (Res.state? (exec (.logRecordRelease 10 0) droppedNow)).map (fun u => u.alarmOn .LOG_FULL) = some true := by decide +kernel
  rw [Res.state?_next hsame] at hraised
  exact absurd hraised (by decide +kernel)

end Sys2Proof.Machine
end

section
/-!
PROOF. The logic supply, the baseplate and KEEP's counters (R547, R548, R556, R557, R569). The entry to LOW flushes the recorder's queue: each release
takes its entry out of the queue, so that as many releases as the queue is long leave nothing unreleased, and the write of what a freeze held takes the rest.
-/
namespace Sys2Proof.Machine

/-! ### The recorder's queue while records are stored -/

/-- From `s` to `u` the recorder's queue and its state are as before. -/
def SameQueue (s u : State) : Prop := u.log.queue = s.log.queue ∧ u.log.state = s.log.state

theorem sameQueue_refl (s : State) : SameQueue s s := ⟨rfl, rfl⟩

theorem SameQueue.trans {s u v : State} (h : SameQueue s u) (h' : SameQueue u v) : SameQueue s v := ⟨h'.1.trans h.1, h'.2.trans h.2⟩

theorem sameQueue_storeSpill (s : State) (r : LogRec) : SameQueue s (s.storeSpill r) := by
  unfold State.storeSpill
  extract_lets r' rs l put
  have hput : ∀ slot l, SameQueue s (put slot l) := fun _ _ => ⟨rfl, rfl⟩
  split
  · exact hput _ _
  · split
    · exact hput _ _
    · exact ⟨rfl, rfl⟩

theorem sameQueue_storeMram (s : State) (r : LogRec) : SameQueue s (s.storeMram r) := by
  unfold State.storeMram
  extract_lets rs l put evict res gen
  have hput : ∀ slot l, SameQueue s (put slot l) := fun _ _ => ⟨rfl, rfl⟩
  have hevict : ∀ f, SameQueue s (evict f) := by
    intro f
    dsimp only [evict]
    split
    · exact hput _ _
    · exact ⟨rfl, rfl⟩
  split
  · exact hput _ _
  · split
    · exact hput _ _
    · split
      · exact hevict _
      · exact hevict _

theorem sameQueue_storeRec (s : State) (r : LogRec) : SameQueue s (s.storeRec r) := by
  unfold State.storeRec
  split
  · exact sameQueue_storeSpill s r
  · exact sameQueue_storeMram s r

theorem sameQueue_fireTrigger (s : State) (t : Nat) (r : LogRec) : SameQueue s (s.fireTrigger t r).1 := by
  unfold State.fireTrigger
  split
  · exact sameQueue_refl s
  · extract_lets hold
    split
    · exact ⟨rfl, rfl⟩
    · exact ⟨rfl, rfl⟩

theorem sameQueue_numberEntry (s : State) (en : LogEntry) : SameQueue s (s.numberEntry en).1 := by
  unfold State.numberEntry State.takeSeq
  dsimp only
  split
  · exact ⟨rfl, rfl⟩
  · exact SameQueue.trans ⟨rfl, rfl⟩ (sameQueue_fireTrigger _ _ _)

/-! ### The queue flushed, R537 -/

/-- The entry a fold of `nextRelease` keeps is one of those it went through. -/
theorem nextRelease_mem {q : List LogEntry} {x : LogEntry} (h : nextRelease q = some x) : x ∈ q ∧ x.released = false := by
  have hfold : ∀ (l : List LogEntry) (m : Option LogEntry) (y : LogEntry),
      l.foldl (fun m e => match m with
        | none => some e
        | some x => if entryBefore e x then some e else some x) m = some y → y ∈ l ∨ m = some y := by
    intro l
    induction l with
    | nil => exact fun m y hy => .inr hy
    | cons e l ih =>
      intro m y hy
      obtain hl | hm := ih _ _ hy
      · exact .inl (List.mem_cons_of_mem _ hl)
      · cases m with
        | none => exact .inl (by simp_all)
        | some z =>
          by_cases hz : entryBefore e z = true
          · exact .inl (by simp_all)
          · exact .inr (by simp_all)
  obtain hmem | hnone := hfold _ _ _ h
  · simpa using List.mem_filter.mp hmem
  · exact absurd hnone (by simp)

theorem nextRelease_none {q : List LogEntry} (h : nextRelease q = none) : ∀ x ∈ q, x.released = true := by
  have hfold : ∀ (l : List LogEntry) (m : Option LogEntry),
      l.foldl (fun m e => match m with
        | none => some e
        | some x => if entryBefore e x then some e else some x) m = none → l = [] := by
    intro l
    induction l with
    | nil => exact fun _ _ => rfl
    | cons e l ih =>
      intro m hm
      have hl := ih _ hm
      subst hl
      cases m with
      | none => simp at hm
      | some z => by_cases hz : entryBefore e z = true <;> simp [hz] at hm
  intro x hx
  refine Classical.byContradiction fun hrel => ?_
  have hempty := hfold _ _ h
  exact absurd (hempty ▸ List.mem_filter.mpr ⟨hx, by simpa using hrel⟩) (by simp)

/-- Outside a freeze a release takes its entry out of the queue. R522. -/
theorem State.releaseEntry_queue {s : State} (hstate : s.log.state ≠ 1) (en : LogEntry) :
    (s.releaseEntry en).log.queue = s.log.queue.filter (fun e => e.order ≠ en.order) ∧ (s.releaseEntry en).log.state = s.log.state := by
  obtain ⟨hq, hst⟩ := sameQueue_numberEntry s en
  unfold State.releaseEntry
  dsimp only
  rw [if_neg (hst ▸ hstate)]
  obtain ⟨hq', hst'⟩ := sameQueue_storeRec { (s.numberEntry en).1 with
    log := { (s.numberEntry en).1.log with queue := (s.numberEntry en).1.log.queue.filter (fun e => e.order ≠ en.order) } } (s.numberEntry en).2
  exact ⟨hq'.trans (by rw [← hq]), hst'.trans hst⟩

/-- As many releases as there are entries leave none unreleased. -/
theorem State.flushQueue_go_released {n : Nat} {s : State} (hstate : s.log.state ≠ 1) (hn : s.log.queue.length ≤ n) :
    ∀ x ∈ (State.flushQueue.go n s).log.queue, x.released = true := by
  induction n generalizing s with
  | zero =>
    have hempty : s.log.queue = [] := List.length_eq_zero_iff.mp (by omega)
    simp [State.flushQueue.go, hempty]
  | succ n ih =>
    unfold State.flushQueue.go
    split
    · next hnone => exact nextRelease_none hnone
    · next en hen =>
      obtain ⟨hq, hst⟩ := State.releaseEntry_queue hstate en
      refine ih (hst ▸ hstate) ?_
      have hshort : (s.log.queue.filter (fun e => e.order ≠ en.order)).length < s.log.queue.length :=
        List.length_filter_lt_length_iff_exists.mpr ⟨en, (nextRelease_mem hen).1, by simp⟩
      rw [hq]
      omega

/-- What a freeze held is written, and only what is unreleased stays in the queue. R531. -/
theorem State.writeHeld_queue (s : State) : s.writeHeld.log.queue = s.log.queue.filter (fun e => !e.released) := by
  have hfold : ∀ (l : List LogEntry) (u : State), SameQueue u (l.foldl (fun s e => s.storeRec e.rec_) u) := by
    intro l
    induction l with
    | nil => exact sameQueue_refl
    | cons e l ih => exact fun u => (sameQueue_storeRec u e.rec_).trans (ih _)
  exact (hfold _ _).1

theorem State.flushQueue_queue {s : State} (hstate : s.log.state ≠ 1) : s.flushQueue.log.queue = [] := by
  rw [State.flushQueue, State.writeHeld_queue, List.filter_eq_nil_iff]
  intro x hx
  simp [State.flushQueue_go_released hstate (Nat.le_refl _) x hx]

theorem onlyLog_releaseEntry (s : State) (en : LogEntry) : OnlyLog s (s.releaseEntry en) := by
  unfold State.releaseEntry
  dsimp only
  exact onlyLog_ite ((onlyLog_numberEntry s en).setLog _) (onlyLog_trans ((onlyLog_numberEntry s en).setLog _) (onlyLog_storeRec _ _))

theorem onlyLog_flushQueue (s : State) : OnlyLog s s.flushQueue := by
  have hgo : ∀ (n : Nat) (u : State), OnlyLog u (State.flushQueue.go n u) := by
    intro n
    induction n with
    | zero => exact onlyLog_refl
    | succ n ih =>
      intro u
      unfold State.flushQueue.go
      split
      · exact onlyLog_refl u
      · exact onlyLog_trans (onlyLog_releaseEntry u _) (ih _)
  exact onlyLog_trans (hgo _ _) (onlyLog_writeHeld _)

/-! ### The recorder's state through a record -/

/-- From `s` to `u` the recorder's state is as before. -/
def SameState (s u : State) : Prop := u.log.state = s.log.state

theorem SameQueue.state {s u : State} (h : SameQueue s u) : SameState s u := h.2

theorem SameState.trans {s u v : State} (h : SameState s u) (h' : SameState u v) : SameState s v := Eq.trans h' h

theorem sameState_enqueue (s : State) (en : LogEntry) : SameState s (s.enqueue en) := by
  unfold State.enqueue
  extract_lets q sv u upd
  split
  · split
    · rfl
    · split
      · rfl
      · rfl
  · split
    · split
      · rfl
      · rfl
    · rfl

theorem sameState_floodCheck (s : State) : SameState s s.floodCheck := by
  unfold State.floodCheck
  split
  · exact SameState.trans rfl (sameState_enqueue _ _)
  · rfl

theorem sameState_submitRec (s : State) (e : EvCode) (cls : Nat) (p : List Word) (cap : Option (Nat × Nat)) :
    SameState s (s.submitRec e cls p cap) := by
  unfold State.submitRec
  extract_lets r en
  split
  · rfl
  · split
    · exact SameState.trans (s := s) (u := s.takeSeq.2) rfl (sameQueue_storeRec _ _).state
    · split
      · exact (sameQueue_numberEntry s _).state.trans (sameQueue_storeRec _ _).state
      · exact (sameState_enqueue s en).trans (sameState_floodCheck _)

theorem sameState_raiseAlarm (s : State) (e : EvCode) (k : Nat) (p : List Word) : SameState s (s.raiseAlarm e k p) := by
  unfold State.raiseAlarm
  split
  · rfl
  · exact SameState.trans rfl (sameState_submitRec _ _ _ _ _)

theorem sameState_fullCheck (s : State) : SameState s s.fullCheck := by
  unfold State.fullCheck
  split
  · exact sameState_raiseAlarm _ _ _ _
  · rfl

theorem sameState_writeHeld (s : State) : SameState s s.writeHeld := by
  have hfold : ∀ (l : List LogEntry) (u : State), SameState u (l.foldl (fun s e => s.storeRec e.rec_) u) := by
    intro l
    induction l with
    | nil => exact fun _ => rfl
    | cons e l ih => exact fun u => (sameQueue_storeRec u e.rec_).state.trans (ih _)
  exact SameState.trans rfl (hfold _ _)

/-- What a freeze held is written in the state the recorder has. R531. -/
theorem sameState_logRelease (s : State) (reason : Nat) : SameState s (s.logRelease reason) := by
  have hput : ∀ (l : List Snap) (u : State), SameState u (l.foldl (fun (s : State) (x : Snap) =>
      { s with log := if s.log.state = 2 then s.log.missSnap else (s.log.placeSnap x).getD s.log.missSnap }) u) := by
    intro l
    induction l with
    | nil => exact fun _ => rfl
    | cons x l ih =>
      refine fun u => SameState.trans ?_ (ih _)
      unfold SameState LogSt.placeSnap
      dsimp only
      split
      · rfl
      · split
        · rfl
        · cases u.log.snaps.find? (fun y => y.sev ≤ x.sev) with
          | none => rfl
          | some y => rfl
  unfold State.logRelease
  refine SameState.trans ?_ (sameState_fullCheck _)
  refine SameState.trans ?_ (sameState_submitRec _ _ _ _ _)
  exact (sameState_writeHeld s).trans (SameState.trans rfl (hput _ _))

/-- After a thaw no freeze stands. R531. -/
theorem State.logThaw_state (s : State) (reason : Nat) : (s.logThaw reason).log.state ≠ 1 := by
  unfold State.logThaw
  split
  · assumption
  · rw [sameState_logRelease]
    exact Nat.zero_ne_one

theorem onlyLog_logThaw (s : State) (reason : Nat) : OnlyLog s (s.logThaw reason) := by
  unfold State.logThaw
  exact onlyLog_ite (onlyLog_refl s) (onlyLog_trans ((onlyLog_refl s).setLog _) (onlyLog_logRelease _ _))

/-! ### The entry to LOW, R548 -/

theorem State.satRetain_log (s : State) : s.satRetain.log = s.log := by
  unfold State.satRetain State.satWrite
  dsimp only
  split <;> rfl

theorem State.satRetain_keep (s : State) : s.satRetain.keep = s.keep := by
  unfold State.satRetain State.satWrite
  dsimp only
  split <;> rfl

/-- The retained writes change none of KEEP's own state, and with D1 powered they leave the recorder's queue empty. -/
theorem State.lowWrites_keep (s : State) : s.lowWrites.keep = s.keep := by
  have hflush : OnlyLog s (if s.dom 1 then (s.logThaw 2).flushQueue else s) :=
    onlyLog_ite (onlyLog_trans (onlyLog_logThaw s 2) (onlyLog_flushQueue _)) (onlyLog_refl s)
  unfold State.lowWrites
  extract_lets u v
  have hv : v.keep = s.keep := (apply_ite State.keep _ _ _).trans ((ite_self _).trans hflush.keep)
  split
  · exact v.satRetain_keep.trans hv
  · exact hv

theorem State.lowWrites_queue {s : State} (hd : s.dom 1 = true) : s.lowWrites.log.queue = [] := by
  unfold State.lowWrites
  extract_lets u v
  have hu : u.log.queue = [] := by
    simp only [u, hd, if_true]
    exact State.flushQueue_queue (s.logThaw_state 2)
  have hv : v.log.queue = [] := by
    simp only [v, apply_ite State.log, apply_ite LogSt.queue]
    exact (ite_self _).trans hu
  split
  · rw [State.satRetain_log, hv]
  · exact hv

/-- A record of a supply that is not normal goes straight to the storage. R537. -/
theorem State.submitRec_queue_low {s : State} (hlow : s.keep.supply.state ≠ 0) (e : EvCode) (cls : Nat) (p : List Word) :
    (s.submitRec e cls p).log.queue = s.log.queue := by
  unfold State.submitRec
  extract_lets r en
  split
  · rfl
  · split
    · exact (sameQueue_storeRec s.takeSeq.2 _).1
    · exact ((sameQueue_numberEntry s _).trans (sameQueue_storeRec _ _)).1

theorem State.raiseAlarm_queue_low {s : State} (hlow : s.keep.supply.state ≠ 0) (e : EvCode) (k : Nat) (p : List Word) :
    (s.raiseAlarm e k p).log.queue = s.log.queue := by
  unfold State.raiseAlarm
  split
  · rfl
  · exact State.submitRec_queue_low (s := { s with alarms := s.alarms ++ [(e, k)] }) hlow _ _ _

/-- The entry to LOW: the state, one more dip, and the voltages as they are. -/
theorem State.lowEnter_supply (s : State) :
    s.lowEnter.keep.supply = { s.keep.supply with state := 1, dips := s.keep.supply.dips + 1 } := by
  rw [State.lowEnter, State.raiseAlarm_keep]
  simp only [State.modSupply, State.modKeep_keep, State.lowWrites_keep]

theorem State.lowEnter_queue {s : State} (hd : s.dom 1 = true) : s.lowEnter.log.queue = [] := by
  rw [State.lowEnter, State.raiseAlarm_queue_low (by simp [State.modSupply])]
  exact State.lowWrites_queue hd

/-! ### The voltages, R543 -/

/-- The higher of two voltages. R543. -/
abbrev higher (va vb : Rat) : Rat := if va < vb then vb else va

theorem State.supplyIs_vl (s : State) (va vb : Rat) : (s.supplyIs va vb).keep.supply.vl = higher va vb := rfl

/-- A voltage below 17.0 V is below one of at least 18.0 V. -/
theorem higher_of_low {v w : Rat} (hv : v < 17) (hw : 18 ≤ w) : v < w := by
  refine Rat.not_le.1 fun hle => ?_
  have hge : (18 : Rat) ≤ 17 := Rat.le_trans hw (Rat.le_trans hle (Rat.le_of_lt hv))
  exact absurd hge (by decide)

theorem SupplySt.vl_of_first_low {x : SupplySt} (ha : x.vla < 17) (hb : 18 ≤ x.vlb) : 18 ≤ x.vl := by
  rw [SupplySt.vl, if_pos (higher_of_low ha hb)]
  exact hb

theorem SupplySt.vl_of_second_low {x : SupplySt} (hb : x.vlb < 17) (ha : 18 ≤ x.vla) : 18 ≤ x.vl := by
  rw [SupplySt.vl, if_neg (Rat.not_lt.2 (Rat.le_of_lt (higher_of_low hb ha)))]
  exact ha

/-- An input lost while the other carries V_L at or above 18.0 V. R547. -/
theorem State.inputIs_vl {s : State} {b : Bool} {v : Rat} (hv : v < 17) (hother : 18 ≤ (if b then s.keep.supply.vla else s.keep.supply.vlb)) :
    18 ≤ (s.inputIs (b2n b) v).keep.supply.vl := by
  cases b with
  | false => exact SupplySt.vl_of_first_low (x := { s.keep.supply with vla := v }) hv hother
  | true => exact SupplySt.vl_of_second_low (x := { s.keep.supply with vlb := v }) hv hother

/-- Settles O58: each event is one measurement kept, and where its condition holds one alarm or one write of KEEP. -/
theorem supplyEvents : Obligations.SupplyEvents := by
  unfold Obligations.SupplyEvents
  intro t k b va vb v s
  refine ⟨fun hon hst hlow => ?_, fun h => ?_, fun hon hst hhigh => ?_, fun h => ?_, fun hon hhigh => ?_, fun h => ?_,
    fun hon hv hother hsingle => ?_, fun h => ?_, fun hk => guardUnit_out (decide_eq_false (Nat.not_lt.2 hk)), fun hon hv => ?_, fun h => ?_,
    fun hk hon hv => ?_, fun hk h => ?_, ?_, fun hon => ?_, fun hoff => ?_, fun hon hd9 hpres hdue => ?_, fun h => ?_⟩
  · refine ⟨_, congrArg Host.Outcome.next (if_pos ⟨hon, hst, hlow⟩), ?_⟩
    rw [State.lowEnter_supply]
    exact ⟨rfl, rfl, rfl, rfl, raiseAlarm_on _ _ _ (by decide), fun hd => State.lowEnter_queue hd⟩
  · refine congrArg Host.Outcome.next (if_neg ?_)
    rintro ⟨hon, hst, hlow⟩
    obtain h | h | h := h
    · exact absurd (hon.symm.trans h) (by decide)
    · exact h hst
    · exact absurd hlow (Rat.not_lt.mpr h)
  · exact ⟨_, congrArg Host.Outcome.next (if_pos ⟨hon, hst, hhigh⟩), rfl, (congrArg (fun k : KeepSt => k.supply.dips) (State.clearAlarm_keep (s := (s.arrive t).supplyIs va vb) .SUPPLY_LOW 0) :),
      clearAlarm_off _ _ _ (by decide)⟩
  · refine congrArg Host.Outcome.next (if_neg ?_)
    rintro ⟨hon, hst, hhigh⟩
    obtain h | h | h := h
    · exact absurd (hon.symm.trans h) (by decide)
    · exact h hst
    · exact absurd hhigh (Rat.not_le.mpr h)
  · exact ⟨_, congrArg Host.Outcome.next (if_pos ⟨hon, hhigh⟩), raiseAlarm_on _ _ _ (by decide), onlyLog_raiseAlarm _ _ _ _⟩
  · exact congrArg Host.Outcome.next (if_neg fun hc => absurd hc.2 (Rat.not_lt.mpr h))
  · refine ⟨_, congrArg Host.Outcome.next (if_pos ⟨hon, hv, State.inputIs_vl (s := s.arrive t) hv hother, ?_⟩), raiseAlarm_on _ _ _ (by decide),
      onlyLog_raiseAlarm _ _ _ _⟩
    exact Bool.eq_false_iff.1 hsingle
  · refine congrArg Host.Outcome.next (if_neg ?_)
    rintro ⟨-, hv, -, hsingle⟩
    obtain h | h := h
    · exact absurd hv (Rat.not_lt.mpr h)
    · exact hsingle h
  · exact ⟨_, (guardUnit_in (n := 2) rfl).trans (congrArg Host.Outcome.next ((if_pos rfl).trans (if_pos ⟨hv, hon⟩))), clearAlarm_off _ _ _ (by decide), onlyLog_clearAlarm _ _ _⟩
  · refine (guardUnit_in (n := 2) rfl).trans (congrArg Host.Outcome.next ((if_pos rfl).trans (if_neg ?_)))
    rintro ⟨hv, hon⟩
    obtain h | h := h
    · exact absurd hv (Rat.not_le.mpr h)
    · exact absurd (hon.symm.trans h) (by decide)
  · have hin : decide (k < 3) = true := decide_eq_true (by omega)
    refine ⟨_, (guardUnit_in hin).trans (congrArg Host.Outcome.next ((if_neg (by omega)).trans (if_pos ⟨hv, hon⟩))), clearAlarm_off _ _ _ (by decide),
      onlyLog_clearAlarm _ _ _⟩
  · have hin : decide (k < 3) = true := decide_eq_true (by omega)
    refine (guardUnit_in hin).trans (congrArg Host.Outcome.next ((if_neg (by omega)).trans (if_neg ?_)))
    rintro ⟨hv, hon⟩
    obtain h | h := h
    · exact absurd hv (Rat.not_le.mpr h)
    · exact absurd (hon.symm.trans h) (by decide)
  · refine ⟨_, rfl, ?_, fun hon hv => ?_, fun hv => ?_⟩
    · exact congrArg KeepSt.baseT ((apply_ite State.keep _ _ _).trans ((congrArg (ite _ · _) (State.raiseAlarm_keep ..)).trans (ite_self _)))
    · rw [if_pos ⟨hon, hv⟩]
      exact raiseAlarm_on _ _ _ (by decide)
    · rw [if_neg fun hc => absurd hc.2 (Rat.not_lt.mpr hv)]
      exact ⟨rfl, rfl⟩
  · exact congrArg Host.Outcome.next (if_pos hon)
  · exact congrArg Host.Outcome.next (if_neg (Bool.eq_false_iff.1 hoff))
  · refine ⟨_, congrArg Host.Outcome.next (if_pos ⟨hon, hd9, hpres, hdue.imp id decide_eq_true⟩), rfl, rfl, rfl, rfl⟩
  · refine congrArg Host.Outcome.next (if_neg ?_)
    rintro ⟨hon, hd9, hpres, -⟩
    obtain h | h | h := h
    · exact absurd (hon.symm.trans h) (by decide)
    · exact absurd (hd9.symm.trans h) (by decide)
    · exact absurd (hpres.symm.trans h) (by decide)

end Sys2Proof.Machine
end

section
/-!
PROOF. A stop with a delay (O48). An encoder fault under a limited-thrust entry is a violation as soon as the entry is active (R438, R441), and a violation
de-energises its pairs at once, without the delay (R430). In a state that holds such an encoder fault the evaluation of any input's edge finds the
violation, so that the edge's own stop takes no delay. The fifth clause of the statement asks only that no such cause stood before the edge.
-/
namespace Sys2Proof.Machine

/-- A confirmed set: input 1 stops pair 1, which waits 10 ms; input 2 limits the thrust under entry 1, of encoder 5, which stops pair 1. -/
def limitedSet : List Byte :=
  ((((((((List.replicate 223 0).set 2 1).set 6 1).set 10 2).set 16 1).set 66 1).set 67 10).set 147 5).set 154 1

/-- A unit that runs pair 1 with input 2 open and encoder 5 faulted, and has not evaluated them yet. -/
def unevaluated : State :=
  { openUnit with
    safe.confirmed := some limitedSet
    safe.lHealthy := true
    safe.ins := [{}, { a := false }, {}, {}, {}, {}, {}, {}]
    safe.sts := [{ stopped := false }, {}, {}, {}]
    safe.encFault := [5] }

/-- Refutes O48: the edge that opens input 1 finds the violation of entry 1, and pair 1 stops without its delay. -/
theorem not_safetyStops : ¬ Obligations.SafetyStops := by
  unfold Obligations.SafetyStops
  intro h
  obtain ⟨-, -, -, -, hstop, -⟩ := h 10 1 1 false false unevaluated ⟨by decide +kernel, by decide +kernel⟩
  obtain ⟨u, hnext, -, -, -, hdelay⟩ := hstop (by decide) (by decide) (by decide) (by decide) (by decide +kernel) (by decide +kernel)
    (by decide +kernel)
  have hend := hdelay (by decide +kernel) (by decide +kernel) (by decide +kernel)
  have hatOnce : (Res.state? (exec (.safeInputEdge 10 1 false false) unevaluated)).map (fun v => (v.safe.pair 1).delayEnd) = some none := by
    decide +kernel
  rw [Res.state?_next hnext, Option.map_some, hend] at hatOnce
  exact absurd hatOnce (by simp)

end Sys2Proof.Machine
end

section
/-!
PROOF. An output's sample (O50). A switched-off output shows no overcurrent (R460), and a sample ends with the outputs following their commands. An output
whose command is a point follows it in the same sample that wrote it: where that point is the output's own value point, a sample that finds the readback low
and the current at the limit writes the point, switches the output off and with it ends the overcurrent. The clause of the statement on the sample
asks that the overcurrent stands.
-/
namespace Sys2Proof.Machine

/-- A unit whose output 1 is on and commanded by its own value point, which holds. -/
def selfFollowing : State :=
  { openUnit with
    cfg.given := [((.FIO_MODE, 1), 4), ((.FIO_OUT_SRC, 1), 2), ((.FIO_OUT_PT, 1), 3328)]
    pnt.points := [(3328, { value := 1 })]
    fio.chans := { on := true, cmd := true, rb := true } :: List.replicate 95 {} }

/-- Refutes O50: a sample at the limit with the readback low switches output 1 off, and no overcurrent stands. -/
theorem not_fieldEvents : ¬ Obligations.FieldEvents := by
  unfold Obligations.FieldEvents
  intro h
  obtain ⟨-, -, -, -, -, -, -, -, -, hsample, -⟩ := h 10 1 1 0 false 0 1200 selfFollowing ⟨by decide +kernel, by decide +kernel⟩
  obtain ⟨u, hnext, -, -, hover⟩ := hsample (by decide) (by decide) (by decide +kernel) (by decide +kernel)
  have hstands := hover (by decide +kernel) (by decide)
  have hoff : (Res.state? (exec (.fioOutputSample 10 1 0 1200) selfFollowing)).map (fun v => (v.fch 1).overcurrent) = some false := by
    decide +kernel
  rw [Res.state?_next hnext, Option.map_some, hstands] at hoff
  exact absurd hoff (by decide)

end Sys2Proof.Machine
end

section
/-!
PROOF. What the completion of an ACCEPTED command changes (R343, R344, R352): its reply, the journal, the sessions with their subscriptions, and of the
alarms none but the recorder's and the journal's own. Every block's proof that ends a command cites this.
-/
namespace Sys2Proof.Machine

/-- From `s` to `u` at most a command was completed. -/
structure OnlyDone (s u : State) : Prop where
  same : ∃ e l a c p, u = { s with sent := e, log := l, alarms := a, cmd := c, pnt := p }
  alarm : ∀ ev k, ev ≠ .LOG_FLOOD → ev ≠ .JOURNAL_LOW → u.alarmOn ev k = s.alarmOn ev k

theorem onlyDone_refl (s : State) : OnlyDone s s := ⟨⟨_, _, _, _, _, rfl⟩, fun _ _ _ _ => rfl⟩

theorem OnlyDone.trans {s u v : State} (h : OnlyDone s u) (h' : OnlyDone u v) : OnlyDone s v := by
  obtain ⟨⟨e, l, a, c, p, rfl⟩, hal⟩ := h
  obtain ⟨⟨e', l', a', c', p', rfl⟩, hal'⟩ := h'
  exact ⟨⟨e', l', a', c', p', rfl⟩, fun ev k hf hj => (hal' ev k hf hj).trans (hal ev k hf hj)⟩

/-- A change of the sessions, the journal, the subscriptions or what was sent. -/
theorem onlyDone_cmd (s : State) (e : List Emit) (c : CmdSt) (p : PntSt) : OnlyDone s { s with sent := e, cmd := c, pnt := p } :=
  ⟨⟨e, s.log, s.alarms, c, p, rfl⟩, fun _ _ _ _ => rfl⟩

theorem onlyDone_ite {s u v : State} {b : Prop} [Decidable b] (hu : OnlyDone s u) (hv : OnlyDone s v) : OnlyDone s (if b then u else v) := by
  split
  · exact hu
  · exact hv

theorem onlyDone_journalLow (s : State) : OnlyDone s s.journalLow := by
  have hsame : OnlyLog s s.journalLow := onlyLog_ite (onlyLog_raiseAlarm _ _ _ _) (onlyLog_ite (onlyLog_clearAlarm _ _ _) (onlyLog_refl _))
  obtain ⟨l, a, heq⟩ := hsame
  refine ⟨⟨s.sent, l, a, s.cmd, s.pnt, heq⟩, fun ev k hf hj => ?_⟩
  unfold State.journalLow
  split
  · rw [State.raiseAlarm_alarmOn _ _ _ _ _ _ hf]
    simp [hj.symm]
  · split
    · rw [State.clearAlarm_alarmOn _ _ _ _ _ hf]
      simp [hj.symm]
    · rfl

theorem onlyDone_pruneJournal (s : State) : OnlyDone s s.pruneJournal :=
  (onlyDone_cmd s s.sent _ s.pnt).trans (onlyDone_journalLow _)

theorem onlyDone_freeSlot (s : State) (n : Nat) : OnlyDone s (s.freeSlot n) := by
  unfold State.freeSlot
  split
  · exact onlyDone_refl s
  · exact onlyDone_ite ((onlyDone_cmd s s.sent _ _).trans (onlyDone_pruneJournal _)) (onlyDone_refl s)

theorem onlyDone_sendCompletion (s : State) (n seq op st : Nat) (p : List Byte) : OnlyDone s (s.sendCompletion n seq op st p) := by
  unfold State.sendCompletion
  split
  · exact onlyDone_refl s
  · exact OnlyDone.trans (onlyDone_ite (onlyDone_refl s) (onlyDone_cmd s _ s.cmd s.pnt)) (onlyDone_freeSlot _ _)

theorem onlyDone_completeCmd (s : State) (n seq st : Nat) (p : List Byte) : OnlyDone s (s.completeCmd n seq st p) := by
  unfold State.completeCmd
  split
  · exact onlyDone_refl s
  · extract_lets ent op c s1 s2 s3 s4
    have h1 : OnlyDone s s1 := onlyDone_cmd s s.sent _ s.pnt
    clear_value ent
    have h2 : OnlyDone s s2 := by
      cases ent with
      | none => exact h1
      | some e => exact h1.trans (onlyDone_cmd s1 s1.sent _ s1.pnt)
    have h4 : OnlyDone s s4 := h2.trans (onlyDone_cmd s2 s2.sent _ s2.pnt)
    split
    · split
      · exact h4.trans ((onlyDone_cmd s4 _ _ s4.pnt).trans (onlyDone_pruneJournal _))
      · exact h4.trans ((onlyDone_sendCompletion _ _ _ _ _ _).trans (onlyDone_pruneJournal _))
    · exact h4.trans (onlyDone_sendCompletion _ _ _ _ _ _)

section
variable {s u : State} (h : OnlyDone s u)
include h

theorem OnlyDone.now : u.now = s.now := by obtain ⟨⟨_, _, _, _, _, rfl⟩, -⟩ := h; rfl
theorem OnlyDone.bus : u.bus = s.bus := by obtain ⟨⟨_, _, _, _, _, rfl⟩, -⟩ := h; rfl
theorem OnlyDone.safe : u.safe = s.safe := by obtain ⟨⟨_, _, _, _, _, rfl⟩, -⟩ := h; rfl
theorem OnlyDone.red : u.red = s.red := by obtain ⟨⟨_, _, _, _, _, rfl⟩, -⟩ := h; rfl
theorem OnlyDone.sys : u.sys = s.sys := by obtain ⟨⟨_, _, _, _, _, rfl⟩, -⟩ := h; rfl
theorem OnlyDone.keep : u.keep = s.keep := by obtain ⟨⟨_, _, _, _, _, rfl⟩, -⟩ := h; rfl
theorem OnlyDone.part : u.part = s.part := by obtain ⟨⟨_, _, _, _, _, rfl⟩, -⟩ := h; rfl
theorem OnlyDone.port (n : Nat) : u.port n = s.port n := by obtain ⟨⟨_, _, _, _, _, rfl⟩, -⟩ := h; rfl

end

end Sys2Proof.Machine
end

section
/-!
PROOF. Which parts of a CAN port the controllers' operations leave alone (R475–R489). A view of a port is what a statement looks at; an operation keeps every
view that does not look at the fields it changes.
-/
namespace Sys2Proof.Machine

/-! ### Views of a port -/

/-- From `s` to `u` the ports are as many as before, and the view `v` of port `n` is the same. -/
def SameView {α : Type} (v : CanPort → α) (n : Nat) (s u : State) : Prop :=
  u.bus.can.length = s.bus.can.length ∧ v (u.port n) = v (s.port n)

section
variable {α : Type} {v : CanPort → α} {n : Nat}

theorem sameView_refl (s : State) : SameView v n s s := ⟨rfl, rfl⟩

theorem SameView.trans {s u w : State} (h : SameView v n s u) (h' : SameView v n u w) : SameView v n s w :=
  ⟨h'.1.trans h.1, h'.2.trans h.2⟩

theorem sameView_of_bus {s u : State} (h : u.bus.can = s.bus.can) : SameView v n s u :=
  ⟨congrArg List.length h, congrArg (fun l : List CanPort => v (l.getD (n - 1) {})) h⟩

theorem sameView_ite {s a b : State} {c : Prop} [Decidable c] (ha : SameView v n s a) (hb : SameView v n s b) :
    SameView v n s (if c then a else b) := by
  split
  · exact ha
  · exact hb

theorem sameView_foldl {β : Type} {f : State → β → State} (hf : ∀ u x, SameView v n u (f u x)) (l : List β) (s : State) :
    SameView v n s (l.foldl f s) := by
  induction l generalizing s with
  | nil => exact sameView_refl s
  | cons x l ih => exact (hf s x).trans (ih _)

theorem State.modPort_can_length (s : State) (m : Nat) (f : CanPort → CanPort) : (s.modPort m f).bus.can.length = s.bus.can.length :=
  List.length_modify _ _ _

/-- A change that the view does not see, of this port or of another. -/
theorem sameView_modPort {f : CanPort → CanPort} (hf : ∀ p, v (f p) = v p) (s : State) (m : Nat) : SameView v n s (s.modPort m f) := by
  refine ⟨s.modPort_can_length m f, ?_⟩
  by_cases hm : m - 1 = n - 1
  · have hport : ((s.modPort m f).port n) = (s.bus.can.modify (n - 1) f).getD (n - 1) {} := by
      rw [← hm]
      unfold State.port
      rw [← hm]
      rfl
    by_cases hlt : n - 1 < s.bus.can.length
    · rw [hport, getD_modify_self f _ hlt]
      exact hf _
    · rw [hport, List.modify_eq_self (by omega)]
      rfl
  · rw [State.port_modPort_ne f hm]

/-- The port itself, changed so that its view is the new one. -/
theorem view_modPort {s : State} (hlt : n - 1 < s.bus.can.length) (f : CanPort → CanPort) : v ((s.modPort n f).port n) = v (f (s.port n)) := by
  rw [State.port_modPort f hlt]

end

/-! ### Which views the operations keep -/

section
variable {α : Type} {v : CanPort → α} {n : Nat} (hboxes : ∀ p b, v { p with boxes := b } = v p)
include hboxes

theorem sameView_modBox (s : State) (m i : Nat) (f : Mailbox → Mailbox) : SameView v n s (s.modBox m i f) :=
  sameView_modPort (fun _ => hboxes _ _) s m

theorem sameView_nextBehind (s : State) (m i : Nat) : SameView v n s (s.nextBehind m i) := by
  unfold State.nextBehind
  split
  · exact sameView_modBox hboxes s m i _
  · exact sameView_modBox hboxes s m i _

theorem sameView_canNext (hbus : ∀ p i a, v { p with onBus := i, onBusAt := a } = v p) (s : State) (m : Nat) : SameView v n s (s.canNext m) := by
  unfold State.canNext
  dsimp only
  split
  · exact sameView_refl s
  · split
    · exact sameView_refl s
    · exact ((sameView_modPort (fun _ => hbus _ _ _) s m).trans (sameView_modBox hboxes _ m _ _)).trans (sameView_of_bus rfl)

end

theorem sameView_clashReset {α : Type} {v : CanPort → α} {n : Nat} (hclash : ∀ p c, v { p with clash := c } = v p) (s : State) (m id : Nat)
    (own : Bool) : SameView v n s (s.clashReset m id own) :=
  sameView_modPort (fun _ => hclash _ _) s m

theorem sameView_clashSeen {α : Type} {v : CanPort → α} {n : Nat} (hclash : ∀ p c, v { p with clash := c } = v p)
    (hseen : ∀ p i b c, v { p with lastClash := i, lastClashPos := b, clashSeen := c } = v p) (s : State) (m id bit : Nat) (own : Bool) :
    SameView v n s (s.clashSeen m id bit own).2 := by
  unfold State.clashSeen
  extract_lets p run s1 was s2
  have h1 : SameView v n s s1 := sameView_modPort (fun _ => hclash _ _) s m
  have h2 : SameView v n s s2 := h1.trans (sameView_modPort (fun _ => hseen _ _ _ _) s1 m)
  split
  · exact h1
  · exact sameView_ite h2 (h2.trans (sameView_of_bus (by rw [State.raiseAlarm_bus])))

/-- The counters of a port after `f`, whose error state follows them. R481. -/
theorem view_canCount {α : Type} {v : CanPort → α} {n : Nat} {s : State} (hstate : ∀ p k a, v { p with state := k, activeSince := a } = v p)
    (hlt : n - 1 < s.bus.can.length) (f : CanPort → CanPort) : v ((s.canCount n f).port n) = v (f (s.port n)) := by
  have hre : ∀ p : CanPort, v p.reState = v p := by
    intro p
    unfold CanPort.reState
    split
    · split
      · exact hstate p _ _
      · exact hstate p 2 p.activeSince
    · rfl
  unfold State.canCount
  extract_lets was w
  have hw : v (w.port n) = v (f (s.port n)) := by
    rw [State.port_modPort _ hlt]
    dsimp only
    split
    · exact (hstate _ _ _).trans (hre _)
    · exact hre _
  split
  · exact (congrArg (fun b : BusSt => v (b.can.getD (n - 1) {})) (State.raiseAlarm_bus ..)).trans hw
  · exact hw

theorem State.canCount_can_length (s : State) (n : Nat) (f : CanPort → CanPort) : (s.canCount n f).bus.can.length = s.bus.can.length := by
  unfold State.canCount
  extract_lets was w
  split
  · rw [State.raiseAlarm_bus]
    exact s.modPort_can_length n _
  · exact s.modPort_can_length n _

theorem State.canCount_pnt (s : State) (n : Nat) (f : CanPort → CanPort) : (s.canCount n f).pnt = s.pnt := by
  unfold State.canCount
  extract_lets was w
  split
  · rw [State.raiseAlarm_pnt]
    rfl
  · rfl

theorem State.clashSeen_pnt (s : State) (n id bit : Nat) (own : Bool) : (s.clashSeen n id bit own).2.pnt = s.pnt := by
  unfold State.clashSeen
  extract_lets p run s1 was s2
  split
  · rfl
  · dsimp only
    split
    · rfl
    · rw [State.raiseAlarm_pnt]
      rfl

theorem OnlyPorts.pnt {s u : State} (h : OnlyPorts s u) : u.pnt = s.pnt := by obtain ⟨_, _, _, _, rfl⟩ := h; rfl
theorem OnlyPorts.alarms {s u : State} (h : OnlyPorts s u) : u.alarms = s.alarms := by obtain ⟨_, _, _, _, rfl⟩ := h; rfl
theorem OnlyPorts.raw {s u : State} (h : OnlyPorts s u) : u.raw = s.raw := by obtain ⟨_, _, _, _, rfl⟩ := h; rfl

/-- A frame that ends ABORTED changes of its port the counts of its reasons alone. R478. -/
theorem sameView_frameAborted {α : Type} {v : CanPort → α} {n : Nat} (haborts : ∀ p a, v { p with aborts := a } = v p) (s : State) (m : Nat)
    (f : TxFrame) (why : Nat) : SameView v n s (s.frameAborted m f why) := by
  unfold State.frameAborted
  extract_lets w fr x
  have hw : SameView v n s w := sameView_modPort (fun _ => haborts _ _) s m
  have hx : SameView v n s x := hw.trans (sameView_ite (sameView_of_bus rfl) (sameView_refl w))
  exact sameView_ite (hx.trans (sameView_of_bus rfl)) hx

/-! ### Points written do not reach a port, R489 -/

theorem State.watchHits_bus (s : State) (p : Nat) : (s.watchHits p).bus = s.bus := by
  unfold State.watchHits
  dsimp only
  split
  · rfl
  · split <;> rfl

theorem State.producerWrite_bus (s : State) (p : Nat) (v : Dword) (ts : Nat) (q src : Half) : (s.producerWrite p v ts q src).bus = s.bus := by
  unfold State.producerWrite
  dsimp only
  split
  · rfl
  · exact State.watchHits_bus _ _

theorem State.badWrite_bus (s : State) (p ts : Nat) (reason src : Half) : (s.badWrite p ts reason src).bus = s.bus :=
  State.producerWrite_bus _ _ _ _ _ _

theorem State.numWrite_bus (s : State) (p k ts : Nat) (q : Rat) : (s.numWrite p k ts q).bus = s.bus := by
  unfold State.numWrite
  dsimp only
  split
  · exact State.producerWrite_bus _ _ _ _ _ _
  · exact State.badWrite_bus _ _ _ _ _

theorem State.producerSeen_bus (s : State) (transport id udp : Nat) : (s.producerSeen transport id udp).2.bus = s.bus := by
  unfold State.producerSeen
  split
  · dsimp only
    split
    · rw [State.silentAlarm, State.alarmIf_bus, State.event_bus]
      rfl
    · rfl
  · split
    · rfl
    · split
      · rfl
      · rw [State.event_bus]
        rfl

/-- The maps change of their port its count of failures at most. R489. -/
theorem sameView_mapEntry {α : Type} {v : CanPort → α} {n : Nat} (hfail : ∀ p k, v { p with mapFail := k } = v p) (s : State)
    (m e k ts : Nat) (f : CanFrame) : SameView v n s (s.mapEntry m e k ts f) := by
  unfold State.mapEntry
  extract_lets enc o len full mask e2e ctr key b w p
  have hbad : SameView v n s (s.mapFail m) := sameView_modPort (fun _ => hfail _ _) s m
  have hw : w.bus.can = s.bus.can := by
    dsimp only [w]
    split <;> rfl
  refine sameView_ite (sameView_refl s) (sameView_ite hbad (sameView_ite hbad ?_))
  split
  · exact sameView_of_bus ((congrArg BusSt.can (State.badWrite_bus _ _ _ _ _)).trans hw)
  · exact sameView_of_bus ((congrArg BusSt.can (State.numWrite_bus _ _ _ _ _)).trans hw)

theorem sameView_canMaps {α : Type} {v : CanPort → α} {n : Nat} (hfail : ∀ p k, v { p with mapFail := k } = v p) (s : State) (m ts : Nat)
    (f : CanFrame) : SameView v n s (s.canMaps m ts f) := by
  unfold State.canMaps
  extract_lets node id listed
  refine sameView_ite (sameView_refl s) ?_
  have hseen := State.producerSeen_bus s 0 id 0
  split
  · next u heq =>
    rw [heq] at hseen
    exact sameView_of_bus (congrArg BusSt.can hseen)
  · next k u heq =>
    rw [heq] at hseen
    exact SameView.trans (sameView_of_bus (congrArg BusSt.can hseen)) (sameView_foldl (fun u e => sameView_mapEntry hfail u m e k ts f) _ _)

theorem sameView_discover {α : Type} {v : CanPort → α} {n : Nat} (hnodes : ∀ p l, v { p with nodes := l } = v p)
    (hfull : ∀ p b, v { p with tableFullRec := b } = v p) (s : State) (m : Nat) (f : CanFrame) : SameView v n s (s.discover m f) := by
  unfold State.discover
  dsimp only
  split
  · exact sameView_modPort (fun _ => hnodes _ _) s m
  · refine sameView_ite (sameView_modPort (fun _ => hnodes _ _) s m) (sameView_ite (sameView_refl s) ?_)
    exact SameView.trans (sameView_modPort (fun _ => hfull _ _) s m) (sameView_of_bus (by rw [State.event_bus]))

end Sys2Proof.Machine
end

section
/-!
PROOF. Events of the CAN controllers (R476–R488, R497): each event's effect on the counters of its port, on its mailboxes and on the alarms, the rest of
what it does keeping them.
-/
namespace Sys2Proof.Machine

/-! ### Ports that are there -/

theorem port_lt {s : State} {n : Nat} (hs : s.Inv) (h4 : n ≤ 4) : n - 1 < s.bus.can.length := by
  obtain ⟨-, -, -, hlen, -⟩ := hs.units
  omega

theorem guardPort {n : Nat} (h1 : 1 ≤ n) (h4 : n ≤ 4) (u : State) : guardUnit (between 1 n 4) n u = .next u :=
  guardUnit_in (between_iff.2 ⟨h1, h4⟩)

theorem guardPort_out {n : Nat} (h : n = 0 ∨ 4 < n) (u : State) : guardUnit (between 1 n 4) n u = .fault (.noSuchUnit n) :=
  guardUnit_out (Bool.eq_false_iff.2 (mt between_iff.1 (by omega)))

theorem guardBox {n i : Nat} (h1 : 1 ≤ n) (h4 : n ≤ 4) (hi : i < 64) (u : State) : guardUnit (between 1 n 4 && i < 64) n u = .next u :=
  guardUnit_in (by simp [between, h1, h4, hi])

theorem guardBox_out {n i : Nat} (h : n = 0 ∨ 4 < n ∨ 64 ≤ i) (u : State) :
    guardUnit (between 1 n 4 && i < 64) n u = .fault (.noSuchUnit n) := by
  refine guardUnit_out ?_
  simp only [between, Bool.and_eq_false_iff, decide_eq_false_iff_not]
  omega

/-! ### A port that is idle -/

/-- A port that may not send begins no frame. R476, R481. -/
theorem canNext_silent {s : State} {n : Nat} (h : (s.port n).canSend = false) : s.canNext n = s := by
  unfold State.canNext
  exact if_pos (Or.inr (Or.inr (by simp [h])))

/-- With another node's frame on the bus none begins. R476. -/
theorem canNext_foreign {s : State} {n : Nat} (h : (s.port n).foreign = true) : s.canNext n = s := by
  unfold State.canNext
  exact if_pos (Or.inr (Or.inl h))

theorem canSend_of_state {p : CanPort} (h : p.state = 0 ∨ p.state = 4 ∨ p.state = 5) : p.canSend = false := by
  obtain h | h | h := h <;> simp [CanPort.canSend, h]

/-- The state of a port at the end of a foreign frame. -/
theorem busEnd_view {α : Type} {v : CanPort → α} {n : Nat} (hv : ∀ p b, v { p with foreign := false, busyNs := b } = v p) (s : State) (m sof : Nat) :
    SameView v n s (s.busEnd m sof) :=
  sameView_modPort (fun _ => hv _ _) s m

/-! ### The mailboxes, R475 -/

theorem box_modBox {s : State} {n i : Nat} (hlt : n - 1 < s.bus.can.length) (hi : i < (s.port n).boxes.length) (f : Mailbox → Mailbox) :
    (s.modBox n i f).box n i = f (s.box n i) := by
  unfold State.modBox State.box
  rw [State.port_modPort _ hlt]
  exact getD_modify_self f _ hi

theorem box_modBox_ne {s : State} {n i j : Nat} (hlt : n - 1 < s.bus.can.length) (hij : i ≠ j) (f : Mailbox → Mailbox) :
    (s.modBox n i f).box n j = s.box n j := by
  unfold State.modBox State.box
  rw [State.port_modPort _ hlt]
  exact getD_modify_ne f _ hij

/-- Past the end of a list stands its default. -/
theorem getD_of_length_le {α : Type} {l : List α} {i : Nat} (d : α) (h : l.length ≤ i) : l.getD i d = d := by
  rw [List.getD_eq_getElem?_getD, List.getElem?_eq_none h, Option.getD_none]

/-- An instant that has not come is not past. -/
theorem not_past {s : State} {a d : Nat} (h : s.now < a + d) : ¬ s.past a d = true := fun hpast => Nat.not_le.2 h (of_decide_eq_true hpast)

/-- A mailbox that holds a frame is one of the port's. -/
theorem box_lt_of_cur {s : State} {n i : Nat} {x : TxFrame} (h : (s.box n i).cur = some x) : i < (s.port n).boxes.length := by
  refine Classical.byContradiction fun hlt => ?_
  have hblank : s.box n i = {} := getD_of_length_le _ (by omega)
  rw [hblank] at h
  exact absurd h (by simp)

/-- Two changes of a mailbox that agree on what it holds are the same change. -/
theorem modBox_congr {s : State} {n i : Nat} {f g : Mailbox → Mailbox} (h : f (s.box n i) = g (s.box n i)) : s.modBox n i f = s.modBox n i g := by
  have hboxes : (s.port n).boxes.modify i f = (s.port n).boxes.modify i g := by
    refine List.ext_getElem? fun j => ?_
    by_cases hj : i = j
    · subst hj
      by_cases hi : i < (s.port n).boxes.length
      · have hget : (s.port n).boxes[i] = s.box n i := by simp [State.box, List.getD, hi]
        simp [hi, hget, h]
      · rw [List.modify_eq_self (by omega), List.modify_eq_self (by omega)]
    · simp [hj]
  have hport : s.bus.can.modify (n - 1) (fun p => { p with boxes := p.boxes.modify i f }) =
      s.bus.can.modify (n - 1) (fun p => { p with boxes := p.boxes.modify i g }) := by
    refine List.ext_getElem? fun j => ?_
    by_cases hj : n - 1 = j
    · subst hj
      by_cases hn : n - 1 < s.bus.can.length
      · have hget : s.bus.can[n - 1] = s.port n := by simp [State.port, List.getD, hn]
        simp [hn, hget, hboxes]
      · rw [List.modify_eq_self (by omega), List.modify_eq_self (by omega)]
    · simp [hj]
  unfold State.modBox State.modPort
  rw [hport]

/-- The mailbox picked for the bus holds a frame. R476. -/
theorem pickBox_cur {bs : List Mailbox} {i : Nat} {f : TxFrame} (h : pickBox bs = some (i, f)) : (bs.getD i {}).cur = some f := by
  have hzip : ∀ x ∈ (List.range bs.length).zip bs, bs.getD x.1 {} = x.2 := by
    intro x hx
    obtain ⟨k, hk, rfl⟩ := List.mem_iff_getElem.mp hx
    simp only [List.length_zip, List.length_range] at hk
    simp [List.getD, (by omega : k < bs.length)]
  refine List.foldlRecOn ((List.range bs.length).zip bs) _ (motive := fun m => ∀ e, m = some e → (bs.getD e.1 {}).cur = some e.2)
    (by simp) (fun m hm x hx e he => ?_) (i, f) h
  have hbox := hzip x hx
  split at he
  · exact hm e he
  · next f hf =>
    have hnew : (bs.getD x.1 {}).cur = some f := hbox ▸ hf
    split at he
    · exact hm e he
    · split at he
      · obtain rfl := Option.some.inj he
        exact hnew
      · split at he
        · obtain rfl := Option.some.inj he
          exact hnew
        · exact hm e he

/-- A frame that begins is one of another mailbox than an empty one, which stays empty. R476. -/
theorem canNext_box_empty {s : State} {n j : Nat} (hlt : n - 1 < s.bus.can.length) (hj : (s.box n j).cur = none) :
    ((s.canNext n).box n j).cur = none := by
  unfold State.canNext
  dsimp only
  split
  · exact hj
  · split
    · exact hj
    · next i f hpick =>
      have hcur : (s.box n i).cur = some f := pickBox_cur hpick
      have hij : i ≠ j := by
        rintro rfl
        exact absurd (hj.symm.trans hcur) (by simp)
      have hlt' : n - 1 < (s.modPort n (fun p => { p with onBus := some i, onBusAt := s.now })).bus.can.length := by
        rw [State.modPort_can_length]
        exact hlt
      have hbox : ((s.modPort n (fun p => { p with onBus := some i, onBusAt := s.now })).box n j) = s.box n j := by
        unfold State.box
        rw [State.port_modPort _ hlt]
      exact (congrArg Mailbox.cur ((box_modBox_ne hlt' hij _).trans hbox)).trans hj

/-! ### A frame received, R481, R487 -/

/-- The counters of a port that a frame of another node moves, and what waits to be read. -/
def CanPort.heard (p : CanPort) : Word × Word × Word × Nat × Nat := (p.rx, p.tx, p.errors, p.tec, p.rec_)

section
variable {s : State} {n : Nat} (hlt : n - 1 < s.bus.can.length)
include hlt

theorem canTake_heard (sof : Nat) (f : CanFrame) :
    ((s.canTake n sof f).port n).heard = ({ s.port n with rx := (s.port n).rx + 1, rec_ := recGood (s.port n).rec_ } : CanPort).heard := by
  unfold State.canTake
  extract_lets u w x
  have hu : (u.port n).heard = ({ s.port n with rx := (s.port n).rx + 1, rec_ := recGood (s.port n).rec_ } : CanPort).heard :=
    (sameView_clashReset (fun _ _ => rfl) _ n f.id false).2.trans (view_canCount (fun _ _ _ => rfl) hlt _)
  split
  · have hdrop : SameView CanPort.heard n u (u.modPort n (fun p => { p with rxOverrun := p.rxOverrun + 1, overrunAt := some u.now })) :=
      sameView_modPort (fun _ => by rfl) u n
    rw [State.raiseAlarm_port]
    exact hdrop.2.trans hu
  · have hw : SameView CanPort.heard n u w := sameView_modPort (fun _ => by rfl) u n
    have hx : SameView CanPort.heard n u x := hw.trans (sameView_ite (sameView_discover (fun _ _ => rfl) (fun _ _ => rfl) w n f) (sameView_refl w))
    exact (hx.trans (sameView_canMaps (fun _ _ => rfl) x n _ f)).2.trans hu

/-- With room in it the FIFO takes the frame. -/
theorem canTake_fifo (sof : Nat) (f : CanFrame) (hroom : (s.port n).rxFifo.length < 512) :
    ((s.canTake n sof f).port n).rxFifo = (s.port n).rxFifo ++ [(sof, f)] := by
  unfold State.canTake
  extract_lets u w x
  have hu : (u.port n).rxFifo = (s.port n).rxFifo :=
    (sameView_clashReset (v := CanPort.rxFifo) (fun _ _ => rfl) _ n f.id false).2.trans
      (view_canCount (v := CanPort.rxFifo) (fun _ _ _ => rfl) hlt _)
  have hulen : n - 1 < u.bus.can.length := by
    rw [(sameView_clashReset (v := CanPort.rxFifo) (n := n) (fun _ _ => rfl) _ n f.id false).1, State.canCount_can_length]
    exact hlt
  rw [if_neg (by rw [hu]; omega)]
  have hw : (w.port n).rxFifo = (s.port n).rxFifo ++ [(sof, f)] := by
    rw [State.port_modPort _ hulen]
    exact congrArg (· ++ [(sof, f)]) hu
  have hx : SameView CanPort.rxFifo n w x := sameView_ite (sameView_discover (fun _ _ => rfl) (fun _ _ => rfl) w n f) (sameView_refl w)
  exact (hx.trans (sameView_canMaps (fun _ _ => rfl) x n _ f)).2.trans hw

/-- With the FIFO full the frame is dropped: one more overrun, and its alarm. -/
theorem canTake_overrun (sof : Nat) (f : CanFrame) (hfull : 512 ≤ (s.port n).rxFifo.length) :
    ((s.canTake n sof f).port n).rxFifo = (s.port n).rxFifo ∧ ((s.canTake n sof f).port n).rxOverrun = (s.port n).rxOverrun + 1 ∧
      (s.canTake n sof f).alarmOn .CAN_RX_OVERRUN n = true ∧ (s.canTake n sof f).pnt = s.pnt := by
  unfold State.canTake
  extract_lets u w x
  have hu : ((u.port n).rxFifo, (u.port n).rxOverrun) = ((s.port n).rxFifo, (s.port n).rxOverrun) :=
    (sameView_clashReset (v := fun p => (p.rxFifo, p.rxOverrun)) (fun _ _ => rfl) _ n f.id false).2.trans
      (view_canCount (v := fun p => (p.rxFifo, p.rxOverrun)) (fun _ _ _ => rfl) hlt _)
  obtain ⟨hfifo, hover⟩ := Prod.mk.inj hu
  have hulen : n - 1 < u.bus.can.length := by
    rw [(sameView_clashReset (v := CanPort.rxFifo) (n := n) (fun _ _ => rfl) _ n f.id false).1, State.canCount_can_length]
    exact hlt
  have hupnt : u.pnt = s.pnt := State.canCount_pnt s n _
  rw [if_pos (by rw [hfifo]; exact hfull), State.raiseAlarm_pnt, State.raiseAlarm_port, State.port_modPort _ hulen]
  exact ⟨hfifo, congrArg (· + 1) hover, raiseAlarm_on _ _ _ (by decide), hupnt⟩

end

/-- A frame received without error by a port that listens. -/
theorem exec_canFrameReceived_listens {s : State} {n : Nat} {f : CanFrame} (h1 : 1 ≤ n) (h4 : n ≤ 4) (hdata : f.rtr = false)
    (hlisten : (s.port n).state = 2 ∨ (s.port n).state = 3 ∨ (s.port n).state = 6) (t sof : Nat) :
    exec (.canFrameReceived t n sof f) s = .next ((((s.arrive t).busEnd n sof).canTake n sof f).canNext n) := by
  have hstate : (((s.arrive t).busEnd n sof).port n).state = (s.port n).state :=
    (busEnd_view (v := CanPort.state) (n := n) (fun _ _ => rfl) (s.arrive t) n sof).2
  have hnot : ¬ (((s.arrive t).busEnd n sof).port n).state = 1 := by rw [hstate]; omega
  have hlistens : (((s.arrive t).busEnd n sof).port n).listens = true := by
    simp only [CanPort.listens, hstate, Bool.or_eq_true, decide_eq_true_eq]
    omega
  rw [exec_canFrameReceived, execCanFrameReceived]
  exact (guardPort h1 h4 _).trans (congrArg (fun u : State => Host.Outcome.next (u.canNext n))
    ((if_neg (by simp [hdata])).trans ((if_neg hnot).trans (if_pos hlistens))))

/-- An error seen by a port that listens: its counters, the clash it may belong to, and the next frame. R481, R485. -/
theorem exec_canReceiveError_listens {s : State} {n : Nat} (h1 : 1 ≤ n) (h4 : n ≤ 4)
    (hlisten : (s.port n).state = 2 ∨ (s.port n).state = 3 ∨ (s.port n).state = 6) (t sof bit id : Nat) (late eight : Bool) :
    ∃ w, w = ((s.arrive t).busEnd n sof).canCount n (fun p => { p with
        errors := p.errors + 1, rec_ := if p.state = 6 then p.rec_ else p.rec_ + (if eight then 8 else 1) }) ∧
      exec (.canReceiveError t n sof bit late id eight) s = .next ((if late then (w.clashSeen n id bit false).2 else w).canNext n) := by
  have hstate : (((s.arrive t).busEnd n sof).port n).state = (s.port n).state :=
    (busEnd_view (v := CanPort.state) (n := n) (fun _ _ => rfl) (s.arrive t) n sof).2
  have hnot : ¬ (((s.arrive t).busEnd n sof).port n).state = 1 := by rw [hstate]; omega
  have hlistens : (((s.arrive t).busEnd n sof).port n).listens = true := by
    simp only [CanPort.listens, hstate, Bool.or_eq_true, decide_eq_true_eq]
    omega
  refine ⟨_, rfl, ?_⟩
  rw [exec_canReceiveError, execCanReceiveError]
  exact (guardPort h1 h4 _).trans (congrArg (fun u : State => Host.Outcome.next (u.canNext n)) ((if_neg hnot).trans (if_pos hlistens)))

/-! ### An attempt's end, R478, R481 -/

/-- What a transmission moves of a port's counters. -/
def CanPort.sendCounts (p : CanPort) : Word × Word × Nat := (p.tx, p.errors, p.tec)

/-- The port as its attempt leaves the bus. -/
def State.attemptOff (s : State) (n : Nat) : State :=
  s.modPort n (fun p => { p with onBus := none, busyNs := p.busyNs + (s.now - p.onBusAt) })

theorem sameView_attemptOff {α : Type} {v : CanPort → α} {n : Nat} (hv : ∀ p b, v { p with onBus := none, busyNs := b } = v p) (s : State) :
    SameView v n s (s.attemptOff n) :=
  sameView_modPort (fun _ => hv _ _) s n

/-- A frame sent: counted, one taken from the transmit counter, and no clash with its identifier. -/
def State.attemptSent (s : State) (n : Nat) (x : TxFrame) : State :=
  (((s.attemptOff n).canCount n (fun p => { p with tec := p.tec - 1 })).frameSent n).clashReset n x.frame.id true

theorem attemptEnd_success_eq (s : State) (n i : Nat) (x : TxFrame) : s.attemptEnd n i x .success = (s.attemptSent n x).nextBehind n i := rfl

/-- An attempt's error counted. -/
def State.attemptErr (s : State) (n : Nat) (noAck : Bool) : State :=
  (s.attemptOff n).canCount n (fun p => { p with errors := p.errors + 1, tec := if noAck ∧ p.state = 3 then p.tec else p.tec + 8 })

/-- The clash an error may belong to, noted. R485. -/
def State.attemptClash (s : State) (n : Nat) (x : TxFrame) (bit : Nat) (late : Bool) : State :=
  if late then (s.clashSeen n x.frame.id bit true).2 else s.clashReset n x.frame.id true

/-- A frame that is to be tried again, or that a cancellation ends. R479. -/
def State.attemptAgain (s : State) (n i : Nat) (x : TxFrame) : State :=
  match x.cancelled with
  | some why => (s.frameAborted n x why).nextBehind n i
  | none => s.modBox n i (fun b => { b with cur := some { x with begun := false } })

theorem attemptEnd_error_eq (s : State) (n i : Nat) (x : TxFrame) (bit : Nat) (late noAck : Bool) :
    s.attemptEnd n i x (.error bit late noAck) =
      if 255 < (((s.attemptErr n noAck).attemptClash n x bit late).port n).tec then
        ((s.attemptErr n noAck).attemptClash n x bit late).modBox n i (fun b => { b with cur := some { x with begun := false } })
      else if late && ((s.attemptErr n noAck).clashSeen n x.frame.id bit true).1 then
        ((((s.attemptErr n noAck).attemptClash n x bit late).frameAborted n x abClash).nextBehind n i).clashReset n x.frame.id true
      else ((s.attemptErr n noAck).attemptClash n x bit late).attemptAgain n i x := rfl

section
variable {s : State} {n i : Nat} {x : TxFrame} (hlt : n - 1 < s.bus.can.length)
include hlt

theorem attemptOff_lt : n - 1 < (s.attemptOff n).bus.can.length := by
  rw [(sameView_attemptOff (v := CanPort.state) (n := n) (fun _ _ => rfl) s).1]
  exact hlt

/-- A success counts the frame and takes one from the transmit counter. -/
theorem attemptEnd_success :
    ((s.attemptEnd n i x .success).port n).tx = (s.port n).tx + 1 ∧ ((s.attemptEnd n i x .success).port n).tec = (s.port n).tec - 1 ∧
      ((s.attemptEnd n i x .success).port n).aborts = (s.port n).aborts := by
  have h0 := (sameView_attemptOff (v := fun p => (p.tx, p.tec, p.aborts)) (n := n) (fun _ _ => rfl) s).2
  have hlt0 := attemptOff_lt hlt
  have hlt1 : n - 1 < ((s.attemptOff n).canCount n (fun p => { p with tec := p.tec - 1 })).bus.can.length := by
    rw [State.canCount_can_length]
    exact hlt0
  have hcount := view_canCount (v := fun p => (p.tx, p.tec, p.aborts)) (n := n) (fun _ _ _ => rfl) hlt0 (fun p => { p with tec := p.tec - 1 })
  have hsent := view_modPort (v := fun p => (p.tx, p.tec, p.aborts)) hlt1 (fun p => { p with tx := p.tx + 1 })
  have hclash := (sameView_clashReset (v := fun p => (p.tx, p.tec, p.aborts)) (n := n) (fun _ _ => rfl)
    (((s.attemptOff n).canCount n (fun p => { p with tec := p.tec - 1 })).frameSent n) n x.frame.id true).2
  have hbehind := (sameView_nextBehind (v := fun p => (p.tx, p.tec, p.aborts)) (n := n) (fun _ _ => rfl) (s.attemptSent n x) n i).2
  have hend := hbehind.trans (hclash.trans hsent)
  rw [attemptEnd_success_eq]
  simp only [Prod.mk.injEq] at h0 hcount hend
  obtain ⟨htx0, htec0, hab0⟩ := h0
  obtain ⟨htx1, htec1, hab1⟩ := hcount
  obtain ⟨htx, htec, hab⟩ := hend
  exact ⟨by rw [htx, htx1, htx0], by rw [htec, htec1, htec0], by rw [hab, hab1, hab0]⟩

/-- With nothing waiting behind it the mailbox of a frame that was sent is empty. -/
theorem attemptEnd_success_box (hbehind : (s.box n i).behind = none) : ((s.attemptEnd n i x .success).box n i).cur = none := by
  have hboxes : ((s.attemptSent n x).port n).boxes = (s.port n).boxes := by
    refine (sameView_clashReset (v := CanPort.boxes) (fun _ _ => rfl) _ n x.frame.id true).2.trans ?_
    refine (sameView_modPort (v := CanPort.boxes) (n := n) (fun _ => by rfl) _ n).2.trans ?_
    exact (view_canCount (v := CanPort.boxes) (fun _ _ _ => rfl) (attemptOff_lt hlt) _).trans
      (sameView_attemptOff (v := CanPort.boxes) (n := n) (fun _ _ => rfl) s).2
  have hlen : n - 1 < (s.attemptSent n x).bus.can.length := by
    simp only [State.attemptSent, State.frameSent, State.clashReset, State.modPort_can_length, State.canCount_can_length]
    exact attemptOff_lt hlt
  rw [attemptEnd_success_eq]
  generalize s.attemptSent n x = u at hboxes hlen ⊢
  have hbox : u.box n i = s.box n i := congrArg (·.getD i {}) hboxes
  unfold State.nextBehind
  rw [hbox, hbehind]
  by_cases hi : i < (u.port n).boxes.length
  · exact congrArg Mailbox.cur (box_modBox hlen hi _)
  · have hblank : (u.modBox n i (fun b => { b with cur := none })).box n i = {} := by
      unfold State.modBox State.box
      rw [State.port_modPort _ hlen]
      exact getD_of_length_le _ (by rw [List.length_modify]; omega)
    exact congrArg Mailbox.cur hblank

/-- A frame that lost its arbitration stays in its mailbox, with the winner's on the bus. -/
theorem attemptEnd_lost (hi : i < (s.port n).boxes.length) (hkeep : x.cancelled = none) :
    ((s.attemptEnd n i x .lost).port n).tx = (s.port n).tx ∧ ((s.attemptEnd n i x .lost).port n).tec = (s.port n).tec ∧
      ((s.attemptEnd n i x .lost).port n).aborts = (s.port n).aborts ∧ ((s.attemptEnd n i x .lost).box n i).cur = some { x with begun := false } ∧
      ((s.attemptEnd n i x .lost).port n).foreign = true := by
  have hlt0 := attemptOff_lt hlt
  have hlt1 : n - 1 < ((s.attemptOff n).modPort n (fun p => { p with foreign := true })).bus.can.length := by
    rw [State.modPort_can_length]
    exact hlt0
  have heq : s.attemptEnd n i x .lost = ((s.attemptOff n).modPort n (fun p => { p with foreign := true })).modBox n i
      (fun b => { b with cur := some { x with begun := false } }) := by
    simp only [State.attemptEnd, hkeep]
    rfl
  have hp0 : (s.attemptOff n).port n = { s.port n with onBus := none, busyNs := (s.port n).busyNs + (s.now - (s.port n).onBusAt) } :=
    State.port_modPort _ hlt
  have hp1 := State.port_modPort (fun p => { p with foreign := true }) hlt0
  have hi1 : i < (((s.attemptOff n).modPort n (fun p => { p with foreign := true })).port n).boxes.length := by
    rw [hp1, hp0]
    exact hi
  rw [heq, box_modBox hlt1 hi1, State.modBox, State.port_modPort _ hlt1, hp1, hp0]
  exact ⟨rfl, rfl, rfl, rfl, rfl⟩

/-- An error counts, and adds 8 to the transmit counter but for a missing acknowledgement in ERROR_PASSIVE. -/
theorem attemptEnd_error (bit : Nat) (late noAck : Bool) :
    ((s.attemptEnd n i x (.error bit late noAck)).port n).sendCounts = ((s.port n).tx, (s.port n).errors + 1,
      if noAck ∧ (s.port n).state = 3 then (s.port n).tec else (s.port n).tec + 8) := by
  have hw : ((s.attemptErr n noAck).port n).sendCounts = ((s.port n).tx, (s.port n).errors + 1,
      if noAck ∧ (s.port n).state = 3 then (s.port n).tec else (s.port n).tec + 8) := by
    refine (view_canCount (v := CanPort.sendCounts) (fun _ _ _ => rfl) (attemptOff_lt hlt) _).trans ?_
    have hp0 : (s.attemptOff n).port n = { s.port n with onBus := none, busyNs := (s.port n).busyNs + (s.now - (s.port n).onBusAt) } :=
      State.port_modPort _ hlt
    rw [hp0]
    rfl
  rw [attemptEnd_error_eq, ← hw]
  generalize s.attemptErr n noAck = w
  have hu : SameView CanPort.sendCounts n w (w.attemptClash n x bit late) :=
    sameView_ite (sameView_clashSeen (fun _ _ => rfl) (fun _ _ _ _ => rfl) w n x.frame.id bit true)
      (sameView_clashReset (fun _ _ => rfl) w n x.frame.id true)
  generalize w.attemptClash n x bit late = u at hu ⊢
  have hagain : SameView CanPort.sendCounts n u (u.attemptAgain n i x) := by
    unfold State.attemptAgain
    split
    · exact (sameView_frameAborted (fun _ _ => rfl) u n x _).trans (sameView_nextBehind (fun _ _ => rfl) _ n i)
    · exact sameView_modBox (fun _ _ => rfl) u n i _
  have hclash : SameView CanPort.sendCounts n u (((u.frameAborted n x abClash).nextBehind n i).clashReset n x.frame.id true) :=
    ((sameView_frameAborted (fun _ _ => rfl) u n x abClash).trans (sameView_nextBehind (fun _ _ => rfl) _ n i)).trans
      (sameView_clashReset (fun _ _ => rfl) _ n x.frame.id true)
  exact (hu.trans (sameView_ite (sameView_modBox (fun _ _ => rfl) u n i _) (sameView_ite hclash hagain))).2

end

end Sys2Proof.Machine
end

section
/-!
PROOF. Bus-off, the expiry of frames, recovery, rate detection and the nodes of a CAN port (R477–R479, R482, R483, R486, R488), and with them the statement
on the controllers' events.
-/
namespace Sys2Proof.Machine

/-! ### Bus-off, R482 -/

/-- A step that settles its own element and leaves the settled ones settles every element of the list it goes through. -/
theorem foldl_settles {P : State → Nat → Prop} {F : State → Nat → State} (hself : ∀ s i, P (F s i) i)
    (hkeep : ∀ s i j, P s j → P (F s i) j) (l : List Nat) : ∀ s, ∀ k ∈ l, P (l.foldl F s) k := by
  have hfold : ∀ (l : List Nat) (s : State) (k : Nat), P s k → P (l.foldl F s) k := by
    intro l
    induction l with
    | nil => exact fun _ _ h => h
    | cons i l ih => exact fun s k h => ih _ k (hkeep s i k h)
  induction l with
  | nil => simp
  | cons i l ih =>
    intro s k hk
    obtain rfl | hk := List.mem_cons.mp hk
    · exact hfold l _ k (hself s k)
    · exact ih _ k hk

theorem box_of_port_gone {s : State} {n : Nat} (h : s.bus.can.length ≤ n - 1) (i : Nat) : s.box n i = {} := by
  have hport : s.port n = {} := getD_of_length_le _ h
  unfold State.box
  rw [hport]
  refine (List.getD_eq_getElem?_getD ..).trans ?_
  rw [show ({} : CanPort).boxes = List.replicate 64 {} from rfl, List.getElem?_replicate]
  split
  · rfl
  · rfl

theorem modBox_blank (s : State) (n i : Nat) : (s.modBox n i (fun _ => {})).box n i = {} := by
  by_cases hlt : n - 1 < s.bus.can.length
  · by_cases hi : i < (s.port n).boxes.length
    · exact box_modBox hlt hi _
    · unfold State.modBox State.box
      rw [State.port_modPort _ hlt]
      exact getD_of_length_le _ (by rw [List.length_modify]; omega)
  · refine box_of_port_gone ?_ i
    unfold State.modBox
    rw [State.modPort_can_length]
    omega

theorem modBox_keeps_blank {s : State} {n j : Nat} (h : s.box n j = {}) (i : Nat) : (s.modBox n i (fun _ => {})).box n j = {} := by
  by_cases hij : i = j
  · rw [hij]
    exact modBox_blank s n j
  · by_cases hlt : n - 1 < s.bus.can.length
    · rw [box_modBox_ne hlt hij]
      exact h
    · refine box_of_port_gone ?_ j
      unfold State.modBox
      rw [State.modPort_can_length]
      omega

/-- A frame that ends ABORTED leaves the mailboxes. -/
theorem frameAborted_box (s : State) (n : Nat) (f : TxFrame) (why j : Nat) : (s.frameAborted n f why).box n j = s.box n j :=
  congrArg (·.getD j {}) (sameView_frameAborted (v := CanPort.boxes) (n := n) (fun _ _ => rfl) s n f why).2

/-- One mailbox's frames ABORTED at once. -/
def State.abortBox (s : State) (n why i : Nat) : State :=
  let b := s.box n i
  let s := match b.cur with
    | some g => s.frameAborted n g why
    | none => s
  let s := match b.behind with
    | some g => s.frameAborted n g why
    | none => s
  s.modBox n i (fun _ => {})

theorem abortPort_eq (s : State) (n why : Nat) :
    s.abortPort n why = ((List.range 64).foldl (fun s i => s.abortBox n why i) s).modPort n (fun p => { p with onBus := none }) := rfl

theorem abortBox_keeps_blank {s : State} {n j : Nat} (h : s.box n j = {}) (why i : Nat) : (s.abortBox n why i).box n j = {} := by
  unfold State.abortBox
  extract_lets b u w
  have hu : u.box n j = {} := by
    dsimp only [u]
    split
    · rw [frameAborted_box, h]
    · exact h
  have hw : w.box n j = {} := by
    dsimp only [w]
    split
    · rw [frameAborted_box, hu]
    · exact hu
  exact modBox_keeps_blank hw i

theorem sameView_abortBox {α : Type} {v : CanPort → α} {n : Nat} (haborts : ∀ p a, v { p with aborts := a } = v p)
    (hboxes : ∀ p b, v { p with boxes := b } = v p) (s : State) (why i : Nat) : SameView v n s (s.abortBox n why i) := by
  unfold State.abortBox
  extract_lets b u w
  have hu : SameView v n s u := by
    dsimp only [u]
    split
    · exact sameView_frameAborted haborts s n _ why
    · exact sameView_refl s
  have hw : SameView v n s w := by
    dsimp only [w]
    split
    · exact hu.trans (sameView_frameAborted haborts u n _ why)
    · exact hu
  exact hw.trans (sameView_modBox hboxes w n i _)

/-- Every mailbox of a port that was aborted is empty, and none is on the bus. -/
theorem abortPort_empties {s : State} {n : Nat} (hlt : n - 1 < s.bus.can.length) (why : Nat) :
    (∀ k, k < 64 → (s.abortPort n why).box n k = {}) ∧ ((s.abortPort n why).port n).onBus = none ∧
      ((s.abortPort n why).port n).state = (s.port n).state := by
  rw [abortPort_eq]
  have hloop : SameView CanPort.state n s ((List.range 64).foldl (fun s i => s.abortBox n why i) s) :=
    sameView_foldl (fun u i => sameView_abortBox (fun _ _ => rfl) (fun _ _ => rfl) u why i) _ s
  have hblank := foldl_settles (P := fun u k => u.box n k = {}) (F := fun s i => s.abortBox n why i) (fun u i => modBox_blank _ n i)
    (fun u i j h => abortBox_keeps_blank h why i) (List.range 64) s
  generalize (List.range 64).foldl (fun s i => s.abortBox n why i) s = u at hloop hblank
  have hlt' : n - 1 < u.bus.can.length := by
    rw [hloop.1]
    exact hlt
  have hport := State.port_modPort (fun p => { p with onBus := none }) hlt'
  refine ⟨fun k hk => ?_, ?_, ?_⟩
  · have hbox : (u.modPort n (fun p => { p with onBus := none })).box n k = u.box n k := by
      unfold State.box
      rw [hport]
    exact hbox.trans (hblank k (List.mem_range.mpr hk))
  · rw [hport]
  · rw [hport]
    exact hloop.2

/-! ### The expiry of a mailbox's frames, R477, R479 -/

/-- The frame that waits behind, ended where its expiry has come. -/
def State.expireBehind (s : State) (n i : Nat) : State :=
  match (s.box n i).behind with
  | some h => if s.expired h then (s.frameAborted n h abExpired).modBox n i (fun b => { b with behind := none }) else s
  | none => s

/-- The frame in its mailbox, ended where its expiry has come and no attempt runs. -/
def State.expireCur (s : State) (n i : Nat) : State :=
  match (s.box n i).cur with
  | none => s
  | some f =>
    if ¬ s.expired f then s
    else if f.begun then s.modBox n i (fun b => { b with cur := some { f with cancelled := some (f.cancelled.getD abExpired) } })
    else ((s.frameAborted n f abExpired).nextBehind n i).canNext n

theorem exec_canFrameExpiry_eq {n i : Nat} (h1 : 1 ≤ n) (h4 : n ≤ 4) (hi : i < 64) (t : Nat) (s : State) :
    exec (.canFrameExpiry t n i) s = .next ((((s.arrive t).canDue n).expireBehind n i).expireCur n i) :=
  guardBox h1 h4 hi _

section
variable {u : State} {n i : Nat}

theorem expireBehind_none (h : (u.box n i).behind = none) : u.expireBehind n i = u := by
  simp only [State.expireBehind, h]

theorem expireCur_none (h : (u.box n i).cur = none) : u.expireCur n i = u := by
  simp only [State.expireCur, h]

theorem expireCur_not {x : TxFrame} (h : (u.box n i).cur = some x) (hx : u.expired x = false) : u.expireCur n i = u := by
  simp only [State.expireCur, h]
  exact if_pos (Bool.eq_false_iff.1 hx)

theorem expireCur_begun {x : TxFrame} (h : (u.box n i).cur = some x) (hx : u.expired x = true) (hbegun : x.begun = true) :
    u.expireCur n i = u.modBox n i (fun b => { b with cur := some { x with cancelled := some (x.cancelled.getD abExpired) } }) := by
  simp only [State.expireCur, h]
  exact (if_neg (Classical.not_not.mpr hx)).trans (if_pos hbegun)

theorem expireCur_waiting {x : TxFrame} (h : (u.box n i).cur = some x) (hx : u.expired x = true) (hbegun : x.begun = false) :
    u.expireCur n i = ((u.frameAborted n x abExpired).nextBehind n i).canNext n := by
  simp only [State.expireCur, h]
  exact (if_neg (Classical.not_not.mpr hx)).trans (if_neg (Bool.eq_false_iff.1 hbegun))

theorem expired_some {x : TxFrame} {e : Nat} (h : x.expiry = some e) : u.expired x = decide (e ≤ u.raw) := by
  simp only [State.expired, h]

theorem expired_none {x : TxFrame} (h : x.expiry = none) : u.expired x = false := by
  simp only [State.expired, h]

/-- The frame behind expires; the one before it, which has no expiry, stays. -/
theorem expire_behind_only (hlt : n - 1 < u.bus.can.length) {x h : TxFrame} (hcur : (u.box n i).cur = some x) (hx : x.expiry = none)
    (hbehind : (u.box n i).behind = some h) (hexp : u.expired h = true) :
    (u.expireBehind n i).expireCur n i = (u.frameAborted n h abExpired).modBox n i (fun b => { b with behind := none }) := by
  have heq : u.expireBehind n i = (u.frameAborted n h abExpired).modBox n i (fun b => { b with behind := none }) := by
    simp only [State.expireBehind, hbehind]
    exact if_pos hexp
  have hview := sameView_frameAborted (v := CanPort.boxes) (n := n) (fun _ _ => rfl) u n h abExpired
  have hstays : (((u.frameAborted n h abExpired).modBox n i (fun b => { b with behind := none })).box n i).cur = some x := by
    rw [box_modBox (by rw [hview.1]; exact hlt) (by rw [hview.2]; exact box_lt_of_cur hcur), frameAborted_box]
    exact hcur
  rw [heq]
  exact expireCur_not hstays (expired_none hx)

end

/-! ### Rate detection, R486 -/

/-- The next pair of a detection that has `k` of them. -/
def Detect.next (d : Detect) (k now : Nat) : Detect :=
  { idx := if k ≤ d.idx + 1 then 0 else d.idx + 1, pass := if k ≤ d.idx + 1 then d.pass + 1 else d.pass, since := now }

theorem onlyLog_detectNext {s : State} {n : Nat} {d : Detect} (hd : (s.port n).detect = some d) :
    OnlyLog (s.modPort n (fun p => { p with detect := some (d.next ((s.parL .BUS_CAN_RATES n).length / 2) s.now) })) (s.detectNext n) := by
  unfold State.detectNext
  rw [hd]
  exact onlyLog_ite (onlyLog_raiseAlarm _ _ _ _) (onlyLog_refl _)

theorem detectNext_port {s : State} {n : Nat} {d : Detect} (hlt : n - 1 < s.bus.can.length) (hd : (s.port n).detect = some d) :
    (s.detectNext n).port n = { s.port n with detect := some (d.next ((s.parL .BUS_CAN_RATES n).length / 2) s.now) } := by
  rw [(onlyLog_detectNext hd).port]
  exact State.port_modPort _ hlt

/-! ### The events -/

theorem exec_canTxAttemptEnd_on {s : State} {n j : Nat} {x : TxFrame} (h1 : 1 ≤ n) (h4 : n ≤ 4) (hbus : (s.port n).onBus = some j)
    (hcur : (s.box n j).cur = some x) (t : Nat) (o : TxOutcome) :
    exec (.canTxAttemptEnd t n o) s = .next (((s.arrive t).attemptEnd n j x o).canNext n) := by
  refine (guardPort h1 h4 _).trans (congrArg Host.Outcome.next ?_)
  rw [show ((s.arrive t).port n).onBus = some j from hbus]
  dsimp only
  rw [show ((s.arrive t).box n j).cur = some x from hcur]

/-- A port recovered from bus-off. R483. -/
def State.canRecovered (s : State) (n : Nat) : State :=
  (s.modPort n (fun p => { p with state := 2, tec := 0, rec_ := 0, recover := none, activeSince := some s.now })).clearAlarm .CAN_BUS_OFF n

theorem canRecovered_port {s : State} {n : Nat} (hlt : n - 1 < s.bus.can.length) :
    (s.canRecovered n).port n = { s.port n with state := 2, tec := 0, rec_ := 0, recover := none, activeSince := some s.now } := by
  rw [State.canRecovered, State.clearAlarm_port, State.port_modPort _ hlt]

section
variable {s : State} {n : Nat} (h1 : 1 ≤ n) (h4 : n ≤ 4)
include h1 h4

theorem exec_canRecoverComplete_some {a q d : Nat} (hrec : (s.port n).recover = some (a, q, d)) (t : Nat) :
    exec (.canRecoverComplete t n) s = .next (((s.arrive t).canRecovered n).completeCmd a q stDone []) := by
  refine (guardPort h1 h4 _).trans (congrArg Host.Outcome.next ?_)
  rw [show ((s.arrive t).port n).recover = some (a, q, d) from hrec]
  rfl

theorem exec_canRecoverTimeout_some {a q d : Nat} (hrec : (s.port n).recover = some (a, q, d)) (t : Nat) :
    exec (.canRecoverTimeout t n) s = .next (if max s.now t < d then s.arrive t
      else ((s.arrive t).modPort n (fun p => { p with state := 4, recover := none })).completeCmd a q stDeadline []) := by
  refine (guardPort h1 h4 _).trans (congrArg Host.Outcome.next ?_)
  rw [show ((s.arrive t).port n).recover = some (a, q, d) from hrec]
  rfl

theorem exec_canDetectDwellEnd_some {d : Detect} (hdet : (s.port n).detect = some d) (t : Nat) :
    exec (.canDetectDwellEnd t n) s = .next (
      if ¬ (s.arrive t).past d.since (s.parMs .BUS_DETECT_DWELL) then s.arrive t
      else if d.frames = 0 then (s.arrive t).detectNext n
      else (s.arrive t).modPort n (fun p => { p with detect := some { d with since := max s.now t, frames := 0 } })) := by
  refine (guardPort h1 h4 _).trans (congrArg Host.Outcome.next ?_)
  rw [show ((s.arrive t).port n).detect = some d from hdet]
  rfl

theorem exec_canNodeForget_some {node : Nat} {x : CanNode} (hfind : (s.port n).nodes.find? (fun y => y.node = node) = some x) (t : Nat) :
    exec (.canNodeForget t n node) s = .next (
      if (s.arrive t).past x.last (s.parNs .BUS_NODE_FORGET) then
        { (s.arrive t).modPort n (fun p => { p with nodes := p.nodes.filter (fun y => y.node ≠ node), tableFullRec := false }) with
          pnt := { s.pnt with producers := s.pnt.producers.filter (fun e =>
            !(512 ≤ e.1 && e.2.transport = 0 && e.2.id = BitVec.ofNat 32 (node + n * 256))) } }
      else s.arrive t) := by
  refine (guardPort h1 h4 _).trans (congrArg Host.Outcome.next ?_)
  rw [show ((s.arrive t).port n).nodes.find? (fun y => y.node = node) = some x from hfind]
  rfl

end

theorem attemptEnd_lt {s : State} {n i : Nat} {x : TxFrame} (hlt : n - 1 < s.bus.can.length) :
    n - 1 < (s.attemptEnd n i x .success).bus.can.length := by
  rw [attemptEnd_success_eq, (sameView_nextBehind (v := CanPort.state) (n := n) (fun _ _ => rfl) _ n i).1]
  simp only [State.attemptSent, State.frameSent, State.clashReset, State.modPort_can_length, State.canCount_can_length]
  exact attemptOff_lt hlt


theorem canDue_can_length (s : State) (n : Nat) : (s.canDue n).bus.can.length = s.bus.can.length := by
  have h1 := (sameView_canNext (v := CanPort.state) (n := n) (fun _ _ => rfl) (fun _ _ _ => rfl) (s.modPort n (fun p => { p with
    boxes := p.boxes.map (fun b => { b with cur := b.cur.map (fun f => { f with due := f.due || s.dueNow f }) }) })) n).1
  exact h1.trans (s.modPort_can_length n _)

/-- Settles O51: each event is its effect on the port's counters and mailboxes, with the operations after it keeping them. -/
theorem canEvents : Obligations.CanEvents := by
  unfold Obligations.CanEvents
  intro t n i sof bit id node late eight noAck idle f s hs
  refine ⟨fun hn o => ?_, fun h1 h4 hrtr => ?_, fun h1 h4 hlisten => ⟨fun hdata => ?_, ?_⟩, fun h1 h4 hdet => ⟨fun hdata => ?_, ?_⟩,
    fun h1 h4 hoff => ⟨?_, ?_⟩, fun h1 h4 hi => ⟨guardBox_out (.inr (.inr hi)) _, guardBox_out (.inr (.inr hi)) _⟩, fun x h1 h4 hi hcur hdue => ?_,
    fun o h1 h4 hfree => ?_, fun j x h1 h4 hbus hcur => ⟨?_, fun hkeep => ?_, ?_⟩, fun v h1 h4 hi hv => ⟨fun hcur hbehind => ?_,
      fun x e hcur hbehind hexp => ⟨fun hlater => ?_, fun hdue hbegun => ?_, fun hdue hbegun => ?_⟩, fun x h e hcur hx hbehind hexp hdue => ?_⟩,
    fun h1 h4 hstate htec => ?_, fun h1 h4 htec => ?_, fun a q d h1 h4 hrec => ⟨?_, fun hearly => ?_, fun hdue => ?_⟩,
    fun h1 h4 hrec => ⟨?_, ?_⟩, fun d h1 h4 hdet => ⟨fun hearly => ?_, fun hdue hframes => ?_, fun hdue hframes => ?_⟩, fun h1 h4 hdet => ?_,
    fun x h1 h4 hfind => ⟨fun hearly => ?_, fun hdue => ?_⟩, fun h1 h4 hnone => ?_⟩
  · exact ⟨guardPort_out hn _, guardPort_out hn _, guardBox_out (hn.imp_right .inl) _, guardPort_out hn _, guardBox_out (hn.imp_right .inl) _,
      guardPort_out hn _, guardPort_out hn _, guardPort_out hn _, guardPort_out hn _, guardPort_out hn _⟩
  · exact (guardPort h1 h4 _).trans (congrArg (fun u : State => Host.Outcome.next (u.canNext n)) (if_pos hrtr))
  · have hlt : n - 1 < ((s.arrive t).busEnd n sof).bus.can.length := by
      rw [(busEnd_view (v := CanPort.state) (n := n) (fun _ _ => rfl) (s.arrive t) n sof).1]
      exact port_lt hs h4
    have hend := (busEnd_view (v := fun p => (p.heard, p.rxFifo, p.rxOverrun)) (n := n) (fun _ _ => rfl) (s.arrive t) n sof).2
    have hnext := (sameView_canNext (v := fun p => (p.heard, p.rxFifo, p.rxOverrun)) (n := n) (fun _ _ => rfl) (fun _ _ _ => rfl)
      (((s.arrive t).busEnd n sof).canTake n sof f) n).2
    have hports := onlyPorts_canNext (((s.arrive t).busEnd n sof).canTake n sof f) n
    have hheard := canTake_heard hlt sof f
    have hpnt : ((s.arrive t).busEnd n sof).pnt = s.pnt := rfl
    refine ⟨_, exec_canFrameReceived_listens h1 h4 hdata hlisten t sof, ?_⟩
    generalize hw : ((s.arrive t).busEnd n sof) = w at *
    simp only [Prod.mk.injEq, CanPort.heard, State.arrive_port] at hend hnext hheard
    obtain ⟨⟨hrx, htx, herr, htec, hrec⟩, hfifo, hover⟩ := hend
    obtain ⟨⟨hrx', -, -, htec', hrec'⟩, hfifo', hover'⟩ := hnext
    obtain ⟨hrx1, -, -, htec1, hrec1⟩ := hheard
    refine ⟨by rw [hrx', hrx1, hrx], by rw [hrec', hrec1, hrec]; rfl, by rw [htec', htec1, htec], fun hroom => ?_, fun hfull => ?_⟩
    · rw [hfifo', canTake_fifo hlt sof f (by rw [hfifo]; exact hroom), hfifo]
    · obtain ⟨hf, ho, ha, hp⟩ := canTake_overrun hlt sof f (by rw [hfifo]; exact hfull)
      exact ⟨by rw [hfifo', hf, hfifo], by rw [hover', ho, hover], (alarmOn_eq hports.alarms _ _).trans ha, hports.pnt.trans (hp.trans hpnt)⟩
  · obtain ⟨w, hw, hexec⟩ := exec_canReceiveError_listens (s := s) h1 h4 hlisten t sof bit id late eight
    have hlt : n - 1 < ((s.arrive t).busEnd n sof).bus.can.length := by
      rw [(busEnd_view (v := CanPort.state) (n := n) (fun _ _ => rfl) (s.arrive t) n sof).1]
      exact port_lt hs h4
    have hend := (busEnd_view (v := fun p => (p.heard, p.state)) (n := n) (fun _ _ => rfl) (s.arrive t) n sof).2
    have hcount := view_canCount (v := CanPort.heard) (fun _ _ _ => rfl) hlt (fun p => { p with
        errors := p.errors + 1, rec_ := if p.state = 6 then p.rec_ else p.rec_ + (if eight then 8 else 1) })
    have hwpnt : w.pnt = s.pnt := hw ▸ State.canCount_pnt _ _ _
    rw [← hw] at hcount
    have hclash : SameView CanPort.heard n w (if late then (w.clashSeen n id bit false).2 else w) :=
      sameView_ite (sameView_clashSeen (fun _ _ => rfl) (fun _ _ _ _ => rfl) w n id bit false) (sameView_refl w)
    have hclashPnt : (if late then (w.clashSeen n id bit false).2 else w).pnt = w.pnt := by
      split
      · exact State.clashSeen_pnt _ _ _ _ _
      · rfl
    have hnext := (sameView_canNext (v := CanPort.heard) (n := n) (fun _ _ => rfl) (fun _ _ _ => rfl)
      (if late then (w.clashSeen n id bit false).2 else w) n).2.trans hclash.2
    have hports := onlyPorts_canNext (if late then (w.clashSeen n id bit false).2 else w) n
    refine ⟨_, hexec, ?_⟩
    simp only [Prod.mk.injEq, CanPort.heard, State.arrive_port] at hend hcount hnext
    obtain ⟨⟨hrx, -, herr, -, hrec⟩, hst⟩ := hend
    obtain ⟨hrx1, -, herr1, -, hrec1⟩ := hcount
    obtain ⟨hrx2, -, herr2, -, hrec2⟩ := hnext
    exact ⟨by rw [herr2, herr1, herr], by rw [hrec2, hrec1, hst, hrec], by rw [hrx2, hrx1, hrx], hports.pnt.trans (hclashPnt.trans hwpnt)⟩
  · have hst : (((s.arrive t).busEnd n sof).port n).state = 1 :=
      (busEnd_view (v := CanPort.state) (n := n) (fun _ _ => rfl) (s.arrive t) n sof).2.trans hdet
    exact (guardPort h1 h4 _).trans (congrArg (fun u : State => Host.Outcome.next (u.canNext n)) ((if_neg (by simp [hdata])).trans (if_pos hst)))
  · have hst : (((s.arrive t).busEnd n sof).port n).state = 1 :=
      (busEnd_view (v := CanPort.state) (n := n) (fun _ _ => rfl) (s.arrive t) n sof).2.trans hdet
    exact (guardPort h1 h4 _).trans (congrArg (fun u : State => Host.Outcome.next (u.canNext n)) (if_pos hst))
  · have hst : (((s.arrive t).busEnd n sof).port n).state = (s.port n).state :=
      (busEnd_view (v := CanPort.state) (n := n) (fun _ _ => rfl) (s.arrive t) n sof).2
    have hsilent : (((s.arrive t).busEnd n sof).port n).canSend = false := canSend_of_state (by rw [hst]; exact hoff)
    have hdeaf : ¬ (((s.arrive t).busEnd n sof).port n).listens = true := by
      simp only [CanPort.listens, hst, Bool.or_eq_true, decide_eq_true_eq]
      omega
    refine (guardPort h1 h4 _).trans (congrArg Host.Outcome.next (Eq.trans (congrArg (State.canNext · n) ?_) (canNext_silent hsilent)))
    by_cases hrtr : f.rtr = true
    · exact if_pos hrtr
    · exact (if_neg hrtr).trans ((if_neg (by rw [hst]; omega)).trans (if_neg hdeaf))
  · have hst : (((s.arrive t).busEnd n sof).port n).state = (s.port n).state :=
      (busEnd_view (v := CanPort.state) (n := n) (fun _ _ => rfl) (s.arrive t) n sof).2
    have hsilent : (((s.arrive t).busEnd n sof).port n).canSend = false := canSend_of_state (by rw [hst]; exact hoff)
    have hdeaf : ¬ (((s.arrive t).busEnd n sof).port n).listens = true := by
      simp only [CanPort.listens, hst, Bool.or_eq_true, decide_eq_true_eq]
      omega
    refine (guardPort h1 h4 _).trans (congrArg Host.Outcome.next (Eq.trans (congrArg (State.canNext · n) ?_) (canNext_silent hsilent)))
    exact (if_neg (by rw [hst]; omega)).trans (if_neg hdeaf)
  · refine (guardBox h1 h4 hi _).trans (congrArg (fun u : State => Host.Outcome.next (u.canNext n)) (modBox_congr ?_))
    have hsame : ((s.arrive t).modPort n (fun p => { p with foreign := !idle && p.onBus.isNone })).box n i = s.box n i :=
      congrArg (·.getD i {}) (sameView_modPort (v := CanPort.boxes) (n := n) (fun _ => by rfl) (s.arrive t) n).2
    have hnow : (s.arrive t).dueNow x = true := by
      unfold State.dueNow
      split
      · rfl
      · next a ha => exact decide_eq_true (hdue a ha)
    rw [hsame, hcur]
    exact congrArg (fun b => { s.box n i with cur := some { x with due := b } }) hnow
  · refine (guardPort h1 h4 _).trans (congrArg Host.Outcome.next ?_)
    rw [show ((s.arrive t).port n).onBus = none from hfree]
  · have hlt : n - 1 < (s.arrive t).bus.can.length := port_lt hs h4
    obtain ⟨htx, htec, hab⟩ := attemptEnd_success (s := s.arrive t) (i := j) (x := x) hlt
    have hlen : n - 1 < ((s.arrive t).attemptEnd n j x .success).bus.can.length := attemptEnd_lt hlt
    have hnext := (sameView_canNext (v := fun p => (p.tx, p.tec, p.aborts)) (n := n) (fun _ _ => rfl) (fun _ _ _ => rfl)
      ((s.arrive t).attemptEnd n j x .success) n).2
    refine ⟨_, exec_canTxAttemptEnd_on (s := s) h1 h4 hbus hcur t .success, ?_⟩
    simp only [Prod.mk.injEq] at hnext
    obtain ⟨htx', htec', hab'⟩ := hnext
    exact ⟨htx'.trans htx, htec'.trans htec, hab'.trans hab, fun hbehind =>
      canNext_box_empty hlen (attemptEnd_success_box (s := s.arrive t) hlt hbehind)⟩
  · have hlt : n - 1 < (s.arrive t).bus.can.length := port_lt hs h4
    obtain ⟨htx, htec, hab, hbox, hforeign⟩ := attemptEnd_lost (s := s.arrive t) hlt (box_lt_of_cur hcur) hkeep
    refine ⟨_, exec_canTxAttemptEnd_on (s := s) h1 h4 hbus hcur t .lost, ?_⟩
    rw [canNext_foreign hforeign]
    exact ⟨htx, htec, hab, hbox, hforeign⟩
  · have hlt : n - 1 < (s.arrive t).bus.can.length := port_lt hs h4
    have hcounts := attemptEnd_error (s := s.arrive t) (i := j) (x := x) hlt bit late noAck
    have hnext := (sameView_canNext (v := CanPort.sendCounts) (n := n) (fun _ _ => rfl) (fun _ _ _ => rfl)
      ((s.arrive t).attemptEnd n j x (.error bit late noAck)) n).2.trans hcounts
    refine ⟨_, exec_canTxAttemptEnd_on (s := s) h1 h4 hbus hcur t (.error bit late noAck), ?_⟩
    simp only [Prod.mk.injEq, CanPort.sendCounts] at hnext
    obtain ⟨htx, herr, htec⟩ := hnext
    exact ⟨herr, htx, htec⟩
  · rw [exec_canFrameExpiry_eq h1 h4 hi, ← hv, expireBehind_none hbehind, expireCur_none hcur]
  · rw [exec_canFrameExpiry_eq h1 h4 hi, ← hv, expireBehind_none hbehind, expireCur_not hcur]
    rw [expired_some hexp, hv, (onlyPorts_canDue _ n).raw]
    exact decide_eq_false (Nat.not_le.mpr hlater)
  · rw [exec_canFrameExpiry_eq h1 h4 hi, ← hv, expireBehind_none hbehind, expireCur_begun hcur ?_ hbegun]
    rw [expired_some hexp, hv, (onlyPorts_canDue _ n).raw]
    exact decide_eq_true hdue
  · rw [exec_canFrameExpiry_eq h1 h4 hi, ← hv, expireBehind_none hbehind, expireCur_waiting hcur ?_ hbegun]
    rw [expired_some hexp, hv, (onlyPorts_canDue _ n).raw]
    exact decide_eq_true hdue
  · have hlt : n - 1 < v.bus.can.length := by
      rw [hv, canDue_can_length]
      exact port_lt hs h4
    rw [exec_canFrameExpiry_eq h1 h4 hi, ← hv, expire_behind_only hlt hcur hx hbehind]
    rw [expired_some hexp, hv, (onlyPorts_canDue _ n).raw]
    exact decide_eq_true hdue
  · have hlt : n - 1 < ((s.arrive t).modPort n (fun p => { p with state := 4 })).bus.can.length := by
      rw [State.modPort_can_length]
      exact port_lt hs h4
    obtain ⟨hempty, hbus, hst⟩ := abortPort_empties hlt abBusOff
    refine ⟨_, (guardPort h1 h4 _).trans (congrArg Host.Outcome.next (if_pos ⟨hstate, htec⟩)), ?_⟩
    refine ⟨?_, ?_, fun k hk => ?_, raiseAlarm_on _ _ _ (by decide)⟩
    · rw [State.raiseAlarm_port, hst, State.port_modPort (s := s.arrive t) _ (port_lt hs h4)]
    · rw [State.raiseAlarm_port, hbus]
    · unfold State.box
      rw [State.raiseAlarm_port]
      exact hempty k hk
  · exact (guardPort h1 h4 _).trans (congrArg Host.Outcome.next (if_neg fun hc => absurd hc.2 (Nat.not_lt.mpr htec)))
  · have hdone := onlyDone_completeCmd ((s.arrive t).canRecovered n) a q stDone []
    have hport : ((s.arrive t).canRecovered n).port n = _ := canRecovered_port (port_lt hs h4)
    refine ⟨_, exec_canRecoverComplete_some h1 h4 hrec t, ?_⟩
    rw [hdone.port, hport, hdone.alarm _ _ (by decide) (by decide)]
    exact ⟨rfl, rfl, rfl, rfl, clearAlarm_off _ _ _ (by decide), completeCmd_accepted _ _ _ _ _⟩
  · rw [exec_canRecoverTimeout_some h1 h4 hrec]
    exact congrArg Host.Outcome.next (if_pos hearly)
  · refine ⟨_, (exec_canRecoverTimeout_some h1 h4 hrec t).trans (congrArg Host.Outcome.next (if_neg (Nat.not_lt.mpr hdue))), ?_⟩
    rw [(onlyDone_completeCmd _ a q stDeadline []).port, State.port_modPort (s := s.arrive t) _ (port_lt hs h4)]
    exact ⟨rfl, rfl, completeCmd_accepted _ _ _ _ _⟩
  · refine (guardPort h1 h4 _).trans (congrArg Host.Outcome.next ?_)
    rw [show ((s.arrive t).port n).recover = none from hrec]
  · refine (guardPort h1 h4 _).trans (congrArg Host.Outcome.next ?_)
    rw [show ((s.arrive t).port n).recover = none from hrec]
  · rw [exec_canDetectDwellEnd_some h1 h4 hdet]
    exact congrArg Host.Outcome.next (if_pos (not_past hearly))
  · rw [exec_canDetectDwellEnd_some h1 h4 hdet]
    exact congrArg Host.Outcome.next ((if_neg (Classical.not_not.mpr (decide_eq_true hdue))).trans (if_neg hframes))
  · refine ⟨_, d.next ((s.parL .BUS_CAN_RATES n).length / 2) (max s.now t), (exec_canDetectDwellEnd_some h1 h4 hdet t).trans
      (congrArg Host.Outcome.next ((if_neg (Classical.not_not.mpr (decide_eq_true hdue))).trans (if_pos hframes))), ?_⟩
    rw [detectNext_port (s := s.arrive t) (port_lt hs h4) hdet]
    exact ⟨rfl, rfl, rfl, rfl, rfl⟩
  · refine (guardPort h1 h4 _).trans (congrArg Host.Outcome.next ?_)
    rw [show ((s.arrive t).port n).detect = none from hdet]
  · rw [exec_canNodeForget_some h1 h4 hfind]
    exact congrArg Host.Outcome.next (if_neg (not_past hearly))
  · refine ⟨_, (exec_canNodeForget_some h1 h4 hfind t).trans (congrArg Host.Outcome.next (if_pos (decide_eq_true hdue))), ?_, rfl⟩
    exact congrArg CanPort.nodes (State.port_modPort (s := s.arrive t) _ (port_lt hs h4))
  · refine (guardPort h1 h4 _).trans (congrArg Host.Outcome.next ?_)
    rw [show ((s.arrive t).port n).nodes.find? (fun x => x.node = node) = none from
      List.find?_eq_none.mpr fun x hx => by simpa using hnone x hx]

end Sys2Proof.Machine
end

section
/-!
PROOF. Events of the serial ports and of the IEC 61162-450 network (R490–R496): what is received counts on its port, what it writes are points alone, and a
talker's sentence is put behind those the port holds.
-/
namespace Sys2Proof.Machine

/-! ### Points written leave the buses and the time -/

/-- From `s` to `u` the buses and the time are as before. -/
def SameBus (s u : State) : Prop := u.bus = s.bus ∧ u.now = s.now

theorem sameBus_refl (s : State) : SameBus s s := ⟨rfl, rfl⟩

theorem SameBus.trans {s u v : State} (h : SameBus s u) (h' : SameBus u v) : SameBus s v := ⟨h'.1.trans h.1, h'.2.trans h.2⟩

theorem sameBus_ite {s a b : State} {c : Prop} [Decidable c] (ha : SameBus s a) (hb : SameBus s b) : SameBus s (if c then a else b) := by
  split
  · exact ha
  · exact hb

theorem sameBus_foldl {α : Type} {f : State → α → State} (hf : ∀ u x, SameBus u (f u x)) (l : List α) (s : State) : SameBus s (l.foldl f s) := by
  induction l generalizing s with
  | nil => exact sameBus_refl s
  | cons x l ih => exact (hf s x).trans (ih _)

theorem State.watchHits_now (s : State) (p : Nat) : (s.watchHits p).now = s.now := by
  unfold State.watchHits
  dsimp only
  split
  · rfl
  · split <;> rfl

theorem sameBus_producerWrite (s : State) (p : Nat) (v : Dword) (ts : Nat) (q src : Half) : SameBus s (s.producerWrite p v ts q src) := by
  refine ⟨s.producerWrite_bus p v ts q src, ?_⟩
  unfold State.producerWrite
  dsimp only
  split
  · rfl
  · exact State.watchHits_now _ _

theorem sameBus_badWrite (s : State) (p ts : Nat) (reason src : Half) : SameBus s (s.badWrite p ts reason src) :=
  SameBus.trans (u := s.freeW.2) ⟨rfl, rfl⟩ (sameBus_producerWrite _ _ _ _ _ _)

theorem sameBus_numWrite (s : State) (p k ts : Nat) (q : Rat) : SameBus s (s.numWrite p k ts q) := by
  unfold State.numWrite
  exact sameBus_ite (sameBus_producerWrite _ _ _ _ _ _) (sameBus_badWrite _ _ _ _ _)

theorem sameBus_producerSeen (s : State) (transport id udp : Nat) : SameBus s (s.producerSeen transport id udp).2 := by
  refine ⟨s.producerSeen_bus transport id udp, ?_⟩
  unfold State.producerSeen
  split
  · dsimp only
    split
    · rw [State.silentAlarm, State.alarmIf_now, State.event_now]
      rfl
    · rfl
  · split
    · rfl
    · split
      · rfl
      · rw [State.event_now]
        rfl

theorem sameBus_smapEntry (s : State) (src k ts : Nat) (body : List Nat) (m : List Rat) : SameBus s (s.smapEntry src k ts body m) := by
  unfold State.smapEntry
  dsimp only
  split
  · exact sameBus_refl s
  · refine sameBus_foldl (fun u e => sameBus_ite (sameBus_refl u) ?_) _ s
    split
    · exact sameBus_numWrite _ _ _ _ _
    · exact sameBus_badWrite _ _ _ _ _

theorem sameBus_sentence (s : State) (src transport id udp ts : Nat) (body : List Nat) : SameBus s (s.sentence src transport id udp ts body) := by
  have hseen := sameBus_producerSeen s transport id udp
  unfold State.sentence
  split
  · next u heq =>
    rw [heq] at hseen
    exact hseen
  · next k u heq =>
    rw [heq] at hseen
    exact hseen.trans (sameBus_foldl (fun v m => sameBus_smapEntry v src k ts body m) _ u)

theorem sameBus_binWrite (s : State) (k ts : Nat) (vs : List (Nat × Option Rat)) : SameBus s (s.binWrite k ts vs) := by
  unfold State.binWrite
  refine sameBus_foldl (fun u e => sameBus_ite (sameBus_refl u) ?_) vs s
  split
  · exact sameBus_numWrite _ _ _ _ _
  · exact sameBus_badWrite _ _ _ _ _

/-! ### The counters of a serial port -/

theorem ser_lt {s : State} {n : Nat} (hs : s.Inv) (h1 : 1 ≤ n) (h12 : n ≤ 12) : n - 1 < s.bus.ser.length := by
  obtain ⟨-, -, -, -, hlen, -⟩ := hs.units
  omega

/-- The characters received are counted, with those that had errors; nothing else of the port that is counted changes. R490. -/
theorem serChars_ser {s : State} {n : Nat} (hlt : n - 1 < s.bus.ser.length) (c e : Nat) :
    ∃ w, (s.serChars n c e).ser n = { s.ser n with charErr := (s.ser n).charErr + wN e, window := w } := by
  have hlog := onlyLog_serJudge_window (s.modSer n (fun p => { p with charErr := p.charErr + wN e, window := (s.now, c, e) :: p.window })) n
  have hcount := State.ser_modSer (fun p => { p with charErr := p.charErr + wN e, window := (s.now, c, e) :: p.window }) hlt
  have hjudged := (hlog.ser n).trans (State.ser_modSer _ (by simpa [State.modSer] using hlt))
  rw [hcount] at hjudged
  exact ⟨_, hjudged⟩

theorem serChars_others (s : State) (n c e : Nat) :
    (s.serChars n c e).bus.ser.length = s.bus.ser.length ∧ (s.serChars n c e).now = s.now ∧ (s.serChars n c e).pnt = s.pnt ∧
      (s.serChars n c e).cfg = s.cfg := by
  have hlog := onlyLog_serJudge_window (s.modSer n (fun p => { p with charErr := p.charErr + wN e, window := (s.now, c, e) :: p.window })) n
  refine ⟨?_, hlog.now, hlog.pnt, hlog.cfg⟩
  show (State.serJudge _ n).bus.ser.length = _
  rw [hlog.bus]
  simp [State.modSer]

/-- So many frames that failed, counted one by one. -/
theorem serBad_times {s : State} {n : Nat} (hlt : n - 1 < s.bus.ser.length) (k : Nat) :
    ((List.range k).foldl (fun s _ => s.serBad n) s).ser n = { s.ser n with bad := (s.ser n).bad + BitVec.ofNat 32 k } ∧
      ((List.range k).foldl (fun s _ => s.serBad n) s).bus.ser.length = s.bus.ser.length ∧
      ((List.range k).foldl (fun s _ => s.serBad n) s).now = s.now ∧ ((List.range k).foldl (fun s _ => s.serBad n) s).pnt = s.pnt := by
  induction k with
  | zero => simp
  | succ k ih =>
    obtain ⟨hser, hlen, hnow, hpnt⟩ := ih
    rw [List.range_succ, List.foldl_append, List.foldl_cons, List.foldl_nil]
    refine ⟨?_, ?_, hnow, hpnt⟩
    · rw [State.serBad, State.ser_modSer _ (by rw [hlen]; exact hlt), hser]
      have hsum : (s.ser n).bad + BitVec.ofNat 32 k + 1 = (s.ser n).bad + BitVec.ofNat 32 (k + 1) := by
        rw [BitVec.ofNat_add, ← BitVec.add_assoc]
        rfl
      exact congrArg (fun b => { s.ser n with bad := b }) hsum
    · rw [← hlen]
      simp [State.serBad, State.modSer]

/-- A frame of a binary protocol taken. R493. -/
def State.binTake (s : State) (n start : Nat) (d : List Rat) (f : Nat × List Byte) : State :=
  match (s.serGood n).producerSeen 1 (n * 65536) 0 with
  | (none, s) => s
  | (some k, s) => s.binWrite k (s.selAt (s.rawAt (start + f.1 * s.charBits n * 1000000000 / s.serBaud n))) (binFields d f.2)

theorem sameBus_binTake (s : State) (n start : Nat) (d : List Rat) (f : Nat × List Byte) : SameBus (s.serGood n) (s.binTake n start d f) := by
  have hseen := sameBus_producerSeen (s.serGood n) 1 (n * 65536) 0
  unfold State.binTake
  split
  · next u heq =>
    rw [heq] at hseen
    exact hseen
  · next k u heq =>
    rw [heq] at hseen
    exact hseen.trans (sameBus_binWrite u k _ _)

/-- So many frames that were accepted: counted, and the newest's instant kept. -/
theorem binTake_all {n start : Nat} {d : List Rat} (fs : List (Nat × List Byte)) : ∀ {s : State}, n - 1 < s.bus.ser.length →
    ((fs.foldl (fun s f => s.binTake n start d f) s).ser n).accepted = (s.ser n).accepted + BitVec.ofNat 32 fs.length ∧
      ((fs.foldl (fun s f => s.binTake n start d f) s).ser n).bad = (s.ser n).bad ∧
      ((fs.foldl (fun s f => s.binTake n start d f) s).ser n).lastAcc = if fs = [] then (s.ser n).lastAcc else some s.now := by
  induction fs with
  | nil => simp
  | cons f fs ih =>
    intro s hlt
    obtain ⟨hbus, hnow⟩ := sameBus_binTake s n start d f
    have hser : (s.binTake n start d f).ser n = { s.ser n with accepted := (s.ser n).accepted + 1, lastAcc := some s.now } :=
      (congrArg (fun b : BusSt => b.ser.getD (n - 1) {}) hbus).trans (State.ser_modSer _ hlt)
    have hlen : n - 1 < (s.binTake n start d f).bus.ser.length := by
      rw [hbus]
      simpa [State.serGood, State.modSer] using hlt
    obtain ⟨hacc, hbad, hlast⟩ := ih hlen
    rw [List.foldl_cons, hacc, hbad, hlast, hser, hnow]
    refine ⟨?_, rfl, ?_⟩
    · rw [List.length_cons, Nat.add_comm, BitVec.ofNat_add, ← BitVec.add_assoc]
      rfl
    · simp only [List.cons_ne_nil, if_false]
      exact ite_self _

/-! ### Talkers, R495 -/

/-- From `s` to `u` sentences left a port: the points and the time are as before, and the ports are as many. -/
structure Drained (s u : State) : Prop where
  pnt : u.pnt = s.pnt
  now : u.now = s.now
  ser : u.bus.ser.length = s.bus.ser.length

theorem drained_serDrain (s : State) (n : Nat) : Drained s (s.serDrain n) := by
  have hgo : ∀ (k : Nat) (u : State), Drained u (State.serDrain.go n k u) := by
    intro k
    induction k with
    | zero => exact fun u => ⟨rfl, rfl, rfl⟩
    | succ k ih =>
      intro u
      unfold State.serDrain.go
      split
      · exact ⟨rfl, rfl, rfl⟩
      · next x xs hq =>
        extract_lets start e
        split
        · exact ⟨rfl, rfl, rfl⟩
        · obtain ⟨hpnt, hnow, hser⟩ := ih ((u.modSer n (fun p => { p with
            txq := p.txq.drop 1, lastTx := (1000, e) :: p.lastTx.filter (fun l => l.1 ≠ 1000) })).emit (.serial n x.data))
          exact ⟨hpnt, hnow, hser.trans (by simp [State.modSer, State.emit])⟩
  exact hgo 9 s

/-- A sentence queued behind those that wait; of a full queue the oldest that waits is dropped. -/
theorem serQueue_txq {s : State} {n : Nat} (hlt : n - 1 < s.bus.ser.length) (x : SerTx) :
    ((s.serQueue n x).ser n).txq =
      (if 9 ≤ (s.ser n).txq.length then (s.ser n).txq.take 1 ++ (s.ser n).txq.drop 2 else (s.ser n).txq) ++ [x] := by
  unfold State.serQueue
  extract_lets u v
  have hu : (u.ser n).txq = (s.ser n).txq := by rw [State.ser_modSer _ hlt]
  have hulen : n - 1 < u.bus.ser.length := by simpa [u, State.modSer] using hlt
  have hv : (v.ser n).txq = if 9 ≤ (s.ser n).txq.length then (s.ser n).txq.take 1 ++ (s.ser n).txq.drop 2 else (s.ser n).txq := by
    unfold v
    rw [hu]
    split
    · rw [State.ser_modSer _ hulen, hu]
    · exact hu
  have hvlen : n - 1 < v.bus.ser.length := by
    unfold v
    split
    · simpa [State.modSer] using hulen
    · exact hulen
  rw [State.ser_modSer _ hvlen, hv]

theorem serQueue_pnt (s : State) (n : Nat) (x : SerTx) : (s.serQueue n x).pnt = s.pnt := by
  unfold State.serQueue
  dsimp only
  split <;> rfl

/-! ### The events of a serial port -/

/-- A sentence where the port takes none changes nothing. R490. -/
theorem execSerialSentence_none {t n start e : Nat} {bs : List Byte} {s : State} (h1 : 1 ≤ n) (h12 : n ≤ 12)
    (hno : ¬(s.arrive t).dom 10 ∨ (s.arrive t).parN .BUS_SER_MODE n = 0 ∨ 2 ≤ (s.arrive t).parN .BUS_SER_PROTO n) :
    exec (.serialSentence t n start e bs) s = .next (s.arrive t) :=
  guardUnit_next (between_iff.2 ⟨h1, h12⟩) (if_pos hno)

/-- A sentence that holds no characters that may be taken is counted as bad. R490. -/
theorem execSerialSentence_bad {t n start e : Nat} {bs : List Byte} {s : State} (h1 : 1 ≤ n) (h12 : n ≤ 12)
    (hon : ¬(¬(s.arrive t).dom 10 ∨ (s.arrive t).parN .BUS_SER_MODE n = 0 ∨ 2 ≤ (s.arrive t).parN .BUS_SER_PROTO n))
    (hbad : (if e = 0 then sentenceBody (((s.arrive t).serChars n bs.length e).parB .BUS_SER_CKSUM n) (bs.map BitVec.toNat) else none) = none) :
    exec (.serialSentence t n start e bs) s = .next (((s.arrive t).serChars n bs.length e).serBad n) := by
  refine guardUnit_next (between_iff.2 ⟨h1, h12⟩) ((if_neg hon).trans ?_)
  dsimp only
  rw [hbad]

/-- A sentence that is accepted is counted and writes the points it carries. R490. -/
theorem execSerialSentence_good {t n start : Nat} {bs : List Byte} {body : List Nat} {s : State} (h1 : 1 ≤ n) (h12 : n ≤ 12)
    (hon : ¬(¬(s.arrive t).dom 10 ∨ (s.arrive t).parN .BUS_SER_MODE n = 0 ∨ 2 ≤ (s.arrive t).parN .BUS_SER_PROTO n))
    (hbody : sentenceBody (((s.arrive t).serChars n bs.length 0).parB .BUS_SER_CKSUM n) (bs.map BitVec.toNat) = some body) :
    ∃ k ts, exec (.serialSentence t n start 0 bs) s = .next ((((s.arrive t).serChars n bs.length 0).serGood n).sentence n 1 k 0 ts body) := by
  refine ⟨talkerOf body + n * 65536, ((s.arrive t).serChars n bs.length 0).serGood n |>.selAt ?_, guardUnit_next (between_iff.2 ⟨h1, h12⟩) ((if_neg hon).trans ?_)⟩
  · exact (((s.arrive t).serChars n bs.length 0).serGood n).rawAt start
  · dsimp only
    rw [if_pos rfl, hbody]
    rfl

/-- What a port counts of a frame that failed. -/
theorem serChars_serBad {s : State} {n : Nat} (hlt : n - 1 < s.bus.ser.length) (c e : Nat) :
    (((s.serChars n c e).serBad n).ser n).bad = (s.ser n).bad + 1 ∧
      (((s.serChars n c e).serBad n).ser n).charErr = (s.ser n).charErr + wN e ∧
      (((s.serChars n c e).serBad n).ser n).accepted = (s.ser n).accepted ∧ ((s.serChars n c e).serBad n).pnt = s.pnt := by
  obtain ⟨w, hw⟩ := serChars_ser hlt c e
  obtain ⟨hlen, -, hpnt, -⟩ := serChars_others s n c e
  rw [State.serBad, State.ser_modSer _ (by rw [hlen]; exact hlt), hw]
  exact ⟨rfl, rfl, rfl, hpnt⟩

/-- What a port counts of a sentence that is accepted. -/
theorem serChars_sentence {s : State} {n : Nat} (hlt : n - 1 < s.bus.ser.length) (c src k udp ts : Nat) (body : List Nat) :
    ((((s.serChars n c 0).serGood n).sentence src 1 k udp ts body).ser n).accepted = (s.ser n).accepted + 1 ∧
      ((((s.serChars n c 0).serGood n).sentence src 1 k udp ts body).ser n).lastAcc = some s.now ∧
      ((((s.serChars n c 0).serGood n).sentence src 1 k udp ts body).ser n).bad = (s.ser n).bad := by
  obtain ⟨w, hw⟩ := serChars_ser hlt c 0
  obtain ⟨hlen, hnow, -, -⟩ := serChars_others s n c 0
  have hser : (((s.serChars n c 0).serGood n).sentence src 1 k udp ts body).ser n = ((s.serChars n c 0).serGood n).ser n :=
    congrArg (fun b : BusSt => b.ser.getD (n - 1) {}) (sameBus_sentence _ src 1 k udp ts body).1
  rw [hser, State.serGood, State.ser_modSer _ (by rw [hlen]; exact hlt), hw, hnow]
  exact ⟨rfl, rfl, rfl⟩

/-- A frame of a binary protocol that a port takes: what it holds is accepted and counted. R493. -/
theorem execSerialBinaryFrame_scan {t n start : Nat} {bs : List Byte} {s : State} (h1 : 1 ≤ n) (h12 : n ≤ 12)
    (hon : ¬(¬(s.arrive t).dom 10 ∨ (s.arrive t).parN .BUS_SER_MODE n = 0 ∨ (s.arrive t).parN .BUS_SER_PROTO n ≠ 2))
    {d : List Rat} (hd : d = ((s.arrive t).serChars n bs.length 0).parL .BUS_BIN (((s.arrive t).serChars n bs.length 0).parN .BUS_SER_PARSER n))
    (hne : d ≠ []) :
    exec (.serialBinaryFrame t n start 0 bs) s = .next ((binScan d bs).1.foldl (fun s f => s.binTake n start d f)
      ((List.range (binScan d bs).2).foldl (fun s _ => s.serBad n) ((s.arrive t).serChars n bs.length 0))) := by
  refine guardUnit_next (between_iff.2 ⟨h1, h12⟩) ((if_neg hon).trans ?_)
  dsimp only
  rw [← hd, if_neg (by simpa using hne), if_neg (by simp)]
  rfl

/-- What a port counts of a frame of a binary protocol. -/
theorem binScan_counted {s : State} {n start : Nat} (hlt : n - 1 < s.bus.ser.length) (c : Nat) (d : List Rat) (fs : List (Nat × List Byte)) (k : Nat)
    {u : State} (hu : u = fs.foldl (fun s f => s.binTake n start d f) ((List.range k).foldl (fun s _ => s.serBad n) (s.serChars n c 0))) :
    (u.ser n).accepted = (s.ser n).accepted + BitVec.ofNat 32 fs.length ∧ (u.ser n).bad = (s.ser n).bad + BitVec.ofNat 32 k ∧
      (fs ≠ [] → (u.ser n).lastAcc = some s.now) ∧ (fs = [] → u.pnt = s.pnt) := by
  obtain ⟨w, hw⟩ := serChars_ser hlt c 0
  obtain ⟨hlen, hnow, hpnt, -⟩ := serChars_others s n c 0
  obtain ⟨hbads, hbadlen, hbadnow, hbadpnt⟩ := serBad_times (s := s.serChars n c 0) (n := n) (by rw [hlen]; exact hlt) k
  obtain ⟨hacc, hbad, hlast⟩ := binTake_all (start := start) (d := d) fs (by rw [hbadlen, hlen]; exact hlt)
  rw [hbads, hw] at hacc hbad
  rw [hbadnow, hnow] at hlast
  rw [← hu] at hacc hbad hlast
  refine ⟨hacc, hbad, fun hne => hlast.trans (if_neg hne), ?_⟩
  rintro rfl
  rw [hu, List.foldl_nil, hbadpnt, hpnt]

/-! ### Datagrams of the IEC 61162-450 network, R496 -/

/-- A line of a datagram taken. -/
def State.lineTake (s : State) (group addr port ts : Nat) (l : List Nat) : State :=
  match (dropTag l).bind (sentenceBody false) with
  | none => s
  | some body => s.sentence (256 + group) 2 addr port ts body

theorem lineTake_bad {s : State} {g addr port ts : Nat} {l : List Nat} (h : (dropTag l).bind (sentenceBody false) = none) :
    s.lineTake g addr port ts l = s := by
  rw [State.lineTake, h]

theorem sameBus_lineTake (s : State) (g addr port ts : Nat) (l : List Nat) : SameBus s (s.lineTake g addr port ts l) := by
  unfold State.lineTake
  split
  · exact sameBus_refl s
  · exact sameBus_sentence _ _ _ _ _ _ _

theorem lineTakes_bad {s : State} {g addr port ts : Nat} {ls : List (List Nat)}
    (h : ∀ l ∈ ls, (dropTag l).bind (sentenceBody false) = none) : ls.foldl (fun s l => s.lineTake g addr port ts l) s = s := by
  induction ls with
  | nil => rfl
  | cons l ls ih =>
    rw [List.foldl_cons, lineTake_bad (h l List.mem_cons_self)]
    exact ih (fun l hl => h l (List.mem_cons_of_mem _ hl))

/-- The lines of a datagram that the network takes. -/
theorem execIec450Datagram_lines {t g addr port : Nat} {bs : List Byte} {s : State} (hnet : s.netUp = true) (hdom : s.dom 10 = true)
    (hg : (s.parL .BUS_450_GROUPS 0).contains (g : Rat) = true) (hhead : (bs.map BitVec.toNat).take 6 = [85, 100, 80, 98, 67, 0]) :
    exec (.iec450Datagram t g addr port bs) s = .next (((splitLines ((bs.map BitVec.toNat).drop 6)).filter (fun l => !l.isEmpty)).foldl
      (fun u l => u.lineTake g addr port (s.arrive t).sel l) (s.arrive t)) := by
  refine (if_neg ?_).trans rfl
  rintro (h | h | h | h)
  · exact h hnet
  · exact h hdom
  · exact h hg
  · exact h hhead

/-- Settles O52: what is received counts on its port, and what it writes are points alone. -/
theorem serialEvents : Obligations.SerialEvents := by
  unfold Obligations.SerialEvents
  intro t n start g addr port kind bs s hs
  have hlt (h1 : 1 ≤ n) (h12 : n ≤ 12) : n - 1 < (s.arrive t).bus.ser.length := ser_lt hs h1 h12
  refine ⟨?_, ?_, ?_, ?_, ?_, ?_, ?_, ?_, ?_⟩
  · intro hn errs
    have hout : between 1 n 12 = false := Bool.eq_false_iff.2 (fun h => by
      have := between_iff.1 h
      omega)
    exact ⟨guardUnit_out hout, guardUnit_out hout, guardUnit_out hout⟩
  · intro h1 h12 hoff errs
    have hnone : ¬(s.arrive t).dom 10 ∨ (s.arrive t).parN .BUS_SER_MODE n = 0 := hoff.imp_left (fun h => by
      show ¬s.dom 10 = true
      simp [h])
    exact ⟨execSerialSentence_none h1 h12 (hnone.imp_right Or.inl),
      guardUnit_next (between_iff.2 ⟨h1, h12⟩) (if_pos (hnone.imp_right Or.inl))⟩
  · intro h1 h12 hdom hmode hproto
    have hon : ¬(¬(s.arrive t).dom 10 ∨ (s.arrive t).parN .BUS_SER_MODE n = 0 ∨ 2 ≤ (s.arrive t).parN .BUS_SER_PROTO n) := by
      rintro (h | h | h)
      · exact h hdom
      · exact hmode h
      · exact absurd hproto (Nat.not_lt.2 h)
    have hpar (e : Nat) : ((s.arrive t).serChars n bs.length e).parB .BUS_SER_CKSUM n = s.parB .BUS_SER_CKSUM n :=
      congrArg (fun c : CfgSt => { s with cfg := c }.parB .BUS_SER_CKSUM n) (serChars_others (s.arrive t) n bs.length e).2.2.2
    refine ⟨?_, ?_, ?_⟩
    · intro body hbody
      obtain ⟨k, ts, hex⟩ := execSerialSentence_good (start := start) h1 h12 hon ((congrArg (sentenceBody · _) (hpar 0)).trans hbody)
      exact ⟨_, hex, serChars_sentence (hlt h1 h12) bs.length n k 0 ts body⟩
    · intro hbody
      obtain ⟨hbad, -, hacc, hpnt⟩ := serChars_serBad (hlt h1 h12) bs.length 0
      exact ⟨_, execSerialSentence_bad h1 h12 hon ((if_pos rfl).trans ((congrArg (sentenceBody · _) (hpar 0)).trans hbody)), hbad, hacc, hpnt⟩
    · intro errs herrs
      exact ⟨_, execSerialSentence_bad h1 h12 hon (if_neg (Nat.ne_of_gt herrs)), serChars_serBad (hlt h1 h12) bs.length errs⟩
  · intro h1 h12 hdom hmode hproto d hd
    have hon : ¬(¬(s.arrive t).dom 10 ∨ (s.arrive t).parN .BUS_SER_MODE n = 0 ∨ (s.arrive t).parN .BUS_SER_PROTO n ≠ 2) := by
      rintro (h | h | h)
      · exact h hdom
      · exact hmode h
      · exact h hproto
    have hpar (e : Nat) : d = ((s.arrive t).serChars n bs.length e).parL .BUS_BIN (((s.arrive t).serChars n bs.length e).parN .BUS_SER_PARSER n) :=
      hd.trans (congrArg (fun c : CfgSt => { s with cfg := c }.parL .BUS_BIN ({ s with cfg := c }.parN .BUS_SER_PARSER n))
        (serChars_others (s.arrive t) n bs.length e).2.2.2).symm
    refine ⟨?_, ?_, ?_⟩
    · intro hnil errs
      refine guardUnit_next (between_iff.2 ⟨h1, h12⟩) ((if_neg hon).trans ?_)
      dsimp only
      rw [← hpar errs, hnil]
      exact if_pos rfl
    · intro errs hne herrs
      refine guardUnit_next (between_iff.2 ⟨h1, h12⟩) ((if_neg hon).trans ?_)
      dsimp only
      rw [← hpar errs, if_neg (by simpa using hne)]
      exact if_pos (Nat.ne_of_gt herrs)
    · intro hne
      exact ⟨_, execSerialBinaryFrame_scan h1 h12 hon (hpar 0) hne, binScan_counted (hlt h1 h12) bs.length d _ _ rfl⟩
  · intro hoff
    refine if_pos ?_
    rcases hoff with h | h | h | h
    · exact Or.inl (fun h' => Bool.false_ne_true (h.symm.trans h'))
    · exact Or.inr (Or.inl (fun h' => Bool.false_ne_true (h.symm.trans h')))
    · exact Or.inr (Or.inr (Or.inl (fun h' => Bool.false_ne_true (h.symm.trans h'))))
    · exact Or.inr (Or.inr (Or.inr h))
  · intro hnet hdom hg hhead
    refine ⟨_, execIec450Datagram_lines hnet hdom hg hhead, (sameBus_foldl (fun u l => sameBus_lineTake u g addr port _ l) _ _).1, ?_⟩
    intro hbad
    rw [lineTakes_bad]
    · rfl
    · intro l hl
      obtain ⟨hmem, hne⟩ := List.mem_filter.1 hl
      exact hbad l hmem (by simpa using hne)
  · intro h1 h12 hdue
    refine guardUnit_next (between_iff.2 ⟨h1, h12⟩) ?_
    dsimp only
    rw [hdue]
    rfl
  · intro h1 h12 hdue htalk
    refine guardUnit_next (between_iff.2 ⟨h1, h12⟩) ?_
    dsimp only
    rw [hdue, htalk]
    rfl
  · intro d h1 h12 hdue htalk
    obtain ⟨hpnt, hnow, hlen⟩ := drained_serDrain (s.arrive t) n
    refine ⟨((s.arrive t).serDrain n).serQueue n { kind := kind, data := d, queued := max s.now t },
      guardUnit_next (between_iff.2 ⟨h1, h12⟩) ?_, (serQueue_pnt _ _ _).trans hpnt, serQueue_txq (by rw [hlen]; exact hlt h1 h12) _⟩
    dsimp only
    rw [hdue, htalk, hnow]
    rfl

end Sys2Proof.Machine
end

section
/-!
PROOF. What the end of authority leaves alone (R382, R399): the time, KEEP, the mode, the safety section but for its brakes and what notes their difference, and the redundancy
state but for the takeover check. The proofs of leases, of the safety technologies and of the restarts cite this.
-/
namespace Sys2Proof.Machine

/-- From `s` to `u` the time, KEEP and the mode are as before, the safety section but for its brakes and the redundancy state but for its check. -/
structure Calm (s u : State) : Prop where
  now : u.now = s.now
  keep : u.keep = s.keep
  mode : u.sys.mode = s.sys.mode
  safe : ∃ b d, u.safe = { s.safe with brk := b, differSince := d }
  red : ∃ c, u.red = { s.red with check := c }

theorem calm_refl (s : State) : Calm s s := ⟨rfl, rfl, rfl, ⟨_, _, rfl⟩, ⟨_, rfl⟩⟩

theorem Calm.trans {s u v : State} (h : Calm s u) (h' : Calm u v) : Calm s v := by
  obtain ⟨b, d, hb⟩ := h.safe
  obtain ⟨b', d', hb'⟩ := h'.safe
  obtain ⟨c, hc⟩ := h.red
  obtain ⟨c', hc'⟩ := h'.red
  exact ⟨h'.now.trans h.now, h'.keep.trans h.keep, h'.mode.trans h.mode, ⟨b', d', by rw [hb', hb]⟩, ⟨c', by rw [hc', hc]⟩⟩

/-- The same, of a change before the part that is known. -/
theorem Calm.after {s u v : State} (h' : Calm u v) (h : Calm s u) : Calm s v := h.trans h'

theorem calm_ite {s a b : State} {c : Prop} [Decidable c] (ha : Calm s a) (hb : Calm s b) : Calm s (if c then a else b) := by
  split
  · exact ha
  · exact hb

theorem calm_foldl {α : Type} {f : State → α → State} (hf : ∀ u x, Calm u (f u x)) (l : List α) (s : State) : Calm s (l.foldl f s) := by
  induction l generalizing s with
  | nil => exact calm_refl s
  | cons x l ih => exact (hf s x).trans (ih _)

theorem OnlyLog.calm {s u : State} (h : OnlyLog s u) : Calm s u := by
  obtain ⟨_, _, rfl⟩ := h
  exact ⟨rfl, rfl, rfl, ⟨_, _, rfl⟩, ⟨_, rfl⟩⟩

theorem OnlyDone.calm {s u : State} (h : OnlyDone s u) : Calm s u := by
  obtain ⟨⟨_, _, _, _, _, rfl⟩, -⟩ := h
  exact ⟨rfl, rfl, rfl, ⟨_, _, rfl⟩, ⟨_, rfl⟩⟩

theorem calm_completeCmd (s : State) (n seq st : Nat) (p : List Byte) : Calm s (s.completeCmd n seq st p) := (onlyDone_completeCmd s n seq st p).calm

section
variable {s u : State} (h : Calm s u)
include h

theorem Calm.commanding : u.red.commanding = s.red.commanding := by obtain ⟨_, h⟩ := h.red; rw [h]
theorem Calm.epochSeen : u.red.epochSeen = s.red.epochSeen := by obtain ⟨_, h⟩ := h.red; rw [h]
theorem Calm.safeStop : u.safe.safeStop = s.safe.safeStop := by obtain ⟨_, _, h⟩ := h.safe; rw [h]
theorem Calm.pHealthy : u.safe.pHealthy = s.safe.pHealthy := by obtain ⟨_, _, h⟩ := h.safe; rw [h]
theorem Calm.lHealthy : u.safe.lHealthy = s.safe.lHealthy := by obtain ⟨_, _, h⟩ := h.safe; rw [h]
theorem Calm.pair (p : Nat) : u.safe.pair p = s.safe.pair p := by
  obtain ⟨_, _, h⟩ := h.safe
  rw [h]
  rfl
theorem Calm.energised (p : Nat) (c : Bool) : u.safe.energised p c = s.safe.energised p c := by
  obtain ⟨_, _, h⟩ := h.safe
  rw [h]
  rfl

end

/-! ### The field channels -/

theorem calm_fioFollow1 (s : State) (c : Nat) : Calm s (s.fioFollow1 c) := by
  unfold State.fioFollow1
  dsimp only
  split
  · exact ⟨rfl, rfl, rfl, ⟨_, _, rfl⟩, ⟨_, rfl⟩⟩
  · exact ⟨rfl, rfl, rfl, ⟨_, _, rfl⟩, ⟨_, rfl⟩⟩

theorem calm_fioFollow (s : State) : Calm s s.fioFollow := calm_foldl calm_fioFollow1 _ s

theorem calm_fioPulseOver (s : State) (c st : Nat) : Calm s (s.fioPulseOver c st) := by
  unfold State.fioPulseOver
  split
  · exact calm_refl s
  · exact (calm_completeCmd _ _ _ _ _).after ((calm_fioFollow1 _ _).after ⟨rfl, rfl, rfl, ⟨_, _, rfl⟩, ⟨_, rfl⟩⟩)

theorem calm_fioPulseAbort (s : State) (c why : Nat) : Calm s (s.fioPulseAbort c why) := by
  unfold State.fioPulseAbort
  split
  · exact calm_refl s
  · exact calm_ite ((calm_fioPulseOver _ _ _).trans (onlyLog_disableRec _ _ _ _ _ _ _ _).calm)
      ((calm_fioPulseOver _ _ _).trans (onlyLog_disableRec _ _ _ _ _ _ _ _).calm)

theorem calm_fioPulsesAbort (s : State) (cs : List Nat) (why : Nat) : Calm s (s.fioPulsesAbort cs why) :=
  calm_foldl (fun u c => calm_fioPulseAbort u c why) cs s

/-! ### The mailboxes of the CAN ports -/

theorem calm_frameAborted (s : State) (n : Nat) (f : TxFrame) (why : Nat) : Calm s (s.frameAborted n f why) := by
  unfold State.frameAborted
  dsimp only
  repeat' split
  all_goals exact ⟨rfl, rfl, rfl, ⟨_, _, rfl⟩, ⟨_, rfl⟩⟩

theorem calm_canNext (s : State) (n : Nat) : Calm s (s.canNext n) := by
  unfold State.canNext
  dsimp only
  repeat' split
  all_goals exact ⟨rfl, rfl, rfl, ⟨_, _, rfl⟩, ⟨_, rfl⟩⟩

theorem calm_canDue (s : State) (n : Nat) : Calm s (s.canDue n) := (calm_canNext _ n).after ⟨rfl, rfl, rfl, ⟨_, _, rfl⟩, ⟨_, rfl⟩⟩

/-- A frame that completes ABORTED and leaves its mailbox. -/
theorem calm_abortedFromBox (s : State) (n i : Nat) (f : TxFrame) (why : Nat) (g : Mailbox → Mailbox) :
    Calm s ((s.frameAborted n f why).modBox n i g) := (calm_frameAborted s n f why).trans ⟨rfl, rfl, rfl, ⟨_, _, rfl⟩, ⟨_, rfl⟩⟩

theorem calm_dropBox (s : State) (n i why : Nat) : Calm s (s.dropBox n i why) := by
  unfold State.dropBox
  extract_lets b v
  have hv : Calm s v := by
    unfold v
    split
    · exact calm_abortedFromBox s n i _ why _
    · exact calm_refl s
  refine hv.trans ?_
  split
  · exact calm_refl v
  · exact calm_ite ⟨rfl, rfl, rfl, ⟨_, _, rfl⟩, ⟨_, rfl⟩⟩ (calm_abortedFromBox v n i _ why _)

theorem calm_cancelBox (s : State) (n i why : Nat) : Calm s (s.cancelBox n i why) := (calm_canDue s n).trans (calm_dropBox _ n i why)

/-! ### The thruster channels and their authority, R382 -/

theorem calm_setAo (s : State) (j : Nat) (v : Rat) : Calm s (s.setAo j v) := calm_ite (calm_refl s) ⟨rfl, rfl, rfl, ⟨_, _, rfl⟩, ⟨_, rfl⟩⟩

theorem calm_thrOutputs (s : State) (c : Nat) : Calm s (s.thrOutputs c) :=
  calm_ite (calm_refl s) (calm_foldl (fun u _ => calm_setAo u _ _) _ s)

/-- The mailboxes of a channel are emptied. -/
theorem calm_cancelBoxes (s : State) (c : Nat) : Calm s (if s.tport c = 0 then s
    else (s.cancelBox (s.tport c) (boxOf c false) abCancelled).cancelBox (s.tport c) (boxOf c true) abCancelled) :=
  calm_ite (calm_refl s) ((calm_cancelBox _ _ _ _).trans (calm_cancelBox _ _ _ _))

theorem calm_fioAuthLost (s : State) : Calm s s.fioAuthLost := (calm_fioPulsesAbort _ _ _).trans (calm_fioFollow _)

theorem calm_thrAuth (s : State) (on hold : Bool) : Calm s (s.thrAuth on hold) := by
  unfold State.thrAuth
  refine calm_ite (calm_refl s) ?_
  extract_lets _ v w x
  have hv : Calm s v := ⟨rfl, rfl, rfl, ⟨_, _, rfl⟩, ⟨_, rfl⟩⟩
  refine calm_ite (hv.trans (calm_fioFollow v)) ?_
  have hw : Calm v w := calm_foldl calm_cancelBoxes _ v
  have hx : Calm w x := calm_ite (calm_refl w) (calm_foldl calm_thrOutputs _ w)
  exact ((hv.trans hw).trans hx).trans (calm_fioAuthLost x)

/-! ### Brake tests and the mode -/

theorem calm_abortBrakeTest (s : State) (b : Nat) : Calm s (s.abortBrakeTest b) := by
  unfold State.abortBrakeTest
  split
  · exact calm_refl s
  · exact (calm_completeCmd _ _ _ _ _).after ⟨rfl, rfl, rfl, ⟨_, _, rfl⟩, ⟨_, rfl⟩⟩

theorem calm_abortBrakeTests (s : State) : Calm s (four.foldl (fun s b => s.abortBrakeTest b) s) := calm_foldl calm_abortBrakeTest _ s

theorem calm_whatifDone (s : State) (w : WhatIf) (st : Nat) (r : CaseRes) : Calm s (s.whatifDone w st r) :=
  (calm_completeCmd _ _ _ _ _).after ⟨rfl, rfl, rfl, ⟨_, _, rfl⟩, ⟨_, rfl⟩⟩

theorem calm_whatifAbort (s : State) : Calm s s.whatifAbort := calm_foldl (fun u w => calm_whatifDone u w _ _) _ s

theorem calm_leaveMode (s : State) : Calm s s.leaveMode := by
  unfold State.leaveMode
  split
  · exact (calm_whatifAbort _).after ⟨rfl, rfl, rfl, ⟨_, _, rfl⟩, ⟨_, rfl⟩⟩
  · exact calm_whatifAbort s
  · exact calm_refl s

theorem calm_learnSave (s : State) : Calm s s.learnSave := ⟨rfl, rfl, rfl, ⟨_, _, rfl⟩, ⟨_, rfl⟩⟩

theorem calm_satRetain (s : State) : Calm s s.satRetain := by
  unfold State.satRetain State.satWrite
  dsimp only
  split
  · exact calm_refl s
  · exact ⟨rfl, rfl, rfl, ⟨_, _, rfl⟩, ⟨_, rfl⟩⟩

/-- The state in a mode, with nothing the change carries with it. -/
def State.inMode (s : State) (m : Mode) : State := { s with sys := { s.sys with mode := m } }

theorem Calm.inMode {s u : State} (h : Calm s u) (m : Mode) : Calm (s.inMode m) (u.inMode m) := ⟨h.now, h.keep, rfl, h.safe, h.red⟩

theorem inMode_self (s : State) : s.inMode s.sys.mode = s := rfl

/-- The mode changes, and what it carries with it is calm. R574. -/
theorem setMode_calm (s : State) (m : Mode) (c : Nat) : Calm (s.inMode m) (s.setMode m c) := by
  unfold State.setMode
  split
  · next h =>
    subst h
    exact calm_refl s
  · extract_lets old v _ w
    have hw : Calm (s.inMode m) w := ((calm_leaveMode s).inMode m).trans (onlyLog_event _ _ _).calm
    exact calm_ite (calm_ite ((hw.trans (calm_learnSave w)).trans (calm_satRetain _)) (hw.trans (calm_learnSave w))) hw

/-! ### Authority given up, R399 -/

/-- The redundancy state of a unit that gives authority up at an instant. R399. -/
def RedSt.yield (r : RedSt) (now : Nat) : RedSt := { r with
  commanding := false, suspended := false, grantedAt := none, rotation := none, check := { r.check with running := false }
  epochHeld := r.epochSeen, rotateAgeAt := now, pairHold := r.pairHold && r.unit ≠ 3
  lease := if r.lease.holder = some r.unit then { r.lease with holder := none } else r.lease }

/-- Outputs and tests ended, the state before the redundancy state changes. -/
def State.quiet (s : State) (hold : Bool) : State := four.foldl (fun s b => s.abortBrakeTest b) (s.thrAuth false hold)

theorem calm_quiet (s : State) (hold : Bool) : Calm s (s.quiet hold) := (calm_thrAuth s false hold).trans (calm_abortBrakeTests _)

/-- Authority given up, before the mode follows. -/
def State.yielded (s : State) (cause : Nat) (hold : Bool) : State :=
  (((s.quiet hold).modRed (fun r => r.yield (s.quiet hold).now)).clearAlarm .LEASE_SUSPENDED).event .TAKEOVER [s.red.epochHeld, 0, wN cause]

theorem giveUp_commanding {s : State} (h : s.red.commanding = true) (cause : Nat) (hold : Bool) : s.giveUp cause hold =
    if (s.yielded cause hold).sys.mode = .hold
    then (s.yielded cause hold).setMode (if (s.yielded cause hold).red.unit = 2 then .warden else .standby) cause
    else s.yielded cause hold := if_neg (Classical.not_not.2 h)

theorem giveUp_not {s : State} (h : s.red.commanding = false) (cause : Nat) (hold : Bool) : s.giveUp cause hold = s := if_pos (by simp [h])

/-- What a unit that gives authority up is left with: the time, KEEP and the safety section but for its tests as before, another mode only after
HOLD, and no authority. -/
structure Yields (s u : State) : Prop where
  now : u.now = s.now
  keep : u.keep = s.keep
  mode : s.sys.mode ≠ .hold → u.sys.mode = s.sys.mode
  safe : ∃ b d, u.safe = { s.safe with brk := b, differSince := d }
  off : u.red.commanding = false

theorem Calm.yields {s u v : State} (h' : Calm u v) (h : Yields s u) : Yields s v := by
  obtain ⟨b, d, hb⟩ := h.safe
  obtain ⟨b', d', hb'⟩ := h'.safe
  exact ⟨h'.now.trans h.now, h'.keep.trans h.keep, fun hm => h'.mode.trans (h.mode hm), ⟨b', d', by rw [hb', hb]⟩, h'.commanding.trans h.off⟩

theorem yielded_red (s : State) (cause : Nat) (hold : Bool) : (s.yielded cause hold).red = (s.quiet hold).red.yield (s.quiet hold).now := by
  unfold State.yielded
  rw [State.event_red, State.clearAlarm_red, State.modRed_red]

theorem yields_modRed {s u : State} (h : Calm s u) (now : Nat) : Yields s (u.modRed (fun r => r.yield now)) :=
  ⟨h.now, h.keep, fun _ => h.mode, h.safe, rfl⟩

theorem yields_yielded (s : State) (cause : Nat) (hold : Bool) : Yields s (s.yielded cause hold) := by
  unfold State.yielded
  exact (onlyLog_event _ _ _).calm.yields ((onlyLog_clearAlarm _ _ _).calm.yields (yields_modRed (calm_quiet s hold) _))

theorem yields_setMode {s u : State} (h : Yields s u) (hm : u.sys.mode = .hold) (m : Mode) (c : Nat) : Yields s (u.setMode m c) := by
  have hhold : s.sys.mode = .hold := by
    refine Classical.byContradiction fun hne => ?_
    exact hne ((h.mode hne).symm.trans hm)
  exact (setMode_calm u m c).yields ⟨h.now, h.keep, fun hne => absurd hhold hne, h.safe, h.off⟩

theorem yields_giveUp (s : State) (cause : Nat) (hold : Bool) : Yields s (s.giveUp cause hold) := by
  cases hc : s.red.commanding with
  | false =>
    rw [giveUp_not hc]
    exact ⟨rfl, rfl, fun _ => rfl, ⟨_, _, rfl⟩, hc⟩
  | true =>
    rw [giveUp_commanding hc]
    have hy := yields_yielded s cause hold
    split
    · next hm => exact yields_setMode hy hm _ _
    · exact hy

/-- The epoch and the rotation of a unit that has given authority up. R399. -/
theorem giveUp_red {s : State} (h : s.red.commanding = true) (cause : Nat) (hold : Bool) :
    ∃ c, (s.giveUp cause hold).red = { (s.red.yield s.now) with check := c } := by
  obtain ⟨c, hc⟩ := (calm_quiet s hold).red
  have hy : (s.yielded cause hold).red = { (s.red.yield s.now) with check := { c with running := false } } := by
    rw [yielded_red, hc, (calm_quiet s hold).now]
    rfl
  rw [giveUp_commanding h]
  split
  · generalize s.yielded cause hold = v at hy ⊢
    generalize (if v.red.unit = 2 then Mode.warden else Mode.standby) = m
    obtain ⟨c', hc'⟩ := (setMode_calm v m cause).red
    rw [State.inMode, hy] at hc'
    exact ⟨c', hc'⟩
  · exact ⟨_, hy⟩

end Sys2Proof.Machine
end

section
/-!
PROOF. Leases, the takeover check, rotation and the relays (R397–R399, R408, R410, R411, R413, R414).
-/
namespace Sys2Proof.Machine

/-! ### A grant, R398 -/

/-- A grant to a unit that commands renews its lease. R398. -/
theorem takeGrant_renews {s : State} (hc : s.red.commanding = true) (hw : s.red.w.lost = false) (b : List Byte) :
    (s.takeGrant b).red.commanding = true ∧ (s.takeGrant b).red.suspended = false ∧
      (s.takeGrant b).red.grantedAt = some (max (s.sentAt (fld b 32 4)) (s.red.grantedAt.getD 0)) := by
  unfold State.takeGrant
  extract_lets at_ u v
  have hu : u.red.commanding = true := hc
  rw [if_pos hu]
  split
  · rw [State.clearAlarm_red]
    exact ⟨hc, rfl, rfl⟩
  · next hno =>
    refine ⟨hc, ?_, rfl⟩
    refine Classical.byContradiction fun hsus => ?_
    have hlost : v.red.w.lost = false := hw
    exact hno ⟨eq_true_of_ne_false hsus, by simp [hlost]⟩

/-- A grant to a candidate gives it authority. R398. -/
theorem takeGrant_gains {s : State} (hc : s.red.commanding = false) (hcand : s.candidate = true) (b : List Byte) :
    s.takeGrant b = ((s.seeEpoch (wN (fld b 28 4))).modRed (fun r => { r with grantedAt := some (s.sentAt (fld b 32 4)) })).gain
      (wN (fld b 28 4)) 1 := by
  unfold State.takeGrant
  have hcand' : (s.seeEpoch (wN (fld b 28 4))).candidate = true := hcand
  dsimp only
  rw [if_neg (by simpa [State.seeEpoch] using hc), if_pos hcand']

/-! ### The takeover check, R408, R410 -/

/-- The check has passed on every channel. R410. -/
theorem checkEnd_passed {s : State} (hmask : s.checkCan ||| s.red.check.failedAo ||| s.checkRole = 0) :
    s.checkEnd.alarmOn .ROTATE_DUE = false ∧ OnlyLog { s with red := { s.red with
      rotateAge := 0, rotateAgeAt := s.now, check := { s.red.check with running := false, last := 0 } } } s.checkEnd := by
  unfold State.checkEnd
  dsimp only
  rw [if_pos hmask, hmask]
  exact ⟨clearAlarm_off _ _ _ (by decide), onlyLog_clearAlarm _ _ _⟩

/-- The check has failed on a channel and another unit may take over: it is asked to. R410, R411. -/
theorem checkEnd_yields {s : State} (hmask : s.checkCan ||| s.red.check.failedAo ||| s.checkRole ≠ 0) (hyield : s.mayYield = true) :
    s.checkEnd.alarmOn .TAKEOVER_CHECK_FAIL = true ∧ OnlyLog { s with red := { s.red with
      releaseDue := true
      check := { s.red.check with
        running := false, last := s.checkCan ||| s.red.check.failedAo ||| s.checkRole, failedSince := true } } } s.checkEnd := by
  unfold State.checkEnd
  extract_lets can ao role mask u w
  rw [if_neg hmask]
  have hw : OnlyLog (u.modRed (fun r => { r with check := { r.check with failedSince := true } })) w := onlyLog_raiseAlarm _ _ _ _
  have hmay : w.mayYield = true := by
    obtain ⟨_, _, heq⟩ := hw
    rw [heq]
    exact hyield
  rw [if_pos hmay]
  refine ⟨?_, ?_⟩
  · show w.alarmOn .TAKEOVER_CHECK_FAIL = true
    exact (State.raiseAlarm_alarmOn _ _ _ _ _ _ (by decide)).trans (by simp)
  · obtain ⟨l, a, heq⟩ := hw
    rw [heq]
    exact ⟨l, a, rfl⟩

/-- Settles O47. -/
theorem leaseEvents : Obligations.LeaseEvents := by
  unfold Obligations.LeaseEvents
  intro t path k b s
  have hpath (h : path < 3) : decide (path < 3) = true := decide_eq_true h
  refine ⟨fun hp => guardUnit_out (decide_eq_false (Nat.not_lt.2 hp)), ?_, ?_, ?_, ?_, ?_, ?_, ?_, ?_, ?_, ?_, ?_, ?_, ?_, ?_, ?_, ?_, ?_, ?_, ?_,
    ?_, ?_, ?_, ?_, ?_⟩
  · intro hp hdom hok hflag htype hunit hpair hmode hc hw
    refine ⟨_, guardUnit_next (hpath hp) (if_pos ⟨hdom, hok, hflag, htype, hunit, hpair, hmode⟩), takeGrant_renews (s := s.arrive t) hc hw b⟩
  · intro hp hdom hok hflag htype hunit hpair hmode hc hcand
    exact guardUnit_next (hpath hp) ((if_pos ⟨hdom, hok, hflag, htype, hunit, hpair, hmode⟩).trans (takeGrant_gains (s := s.arrive t) hc hcand b))
  · intro hp hunit
    exact guardUnit_next (hpath hp) (if_neg (fun h => hunit h.2.2.2.2.1))
  · intro hp hok
    exact guardUnit_next (hpath hp) (if_neg (fun h => Bool.false_ne_true (hok.symm.trans h.2.1)))
  · intro hleased hage hmay
    exact congrArg Host.Outcome.next ((if_pos ⟨hleased, hage⟩).trans (if_neg (Bool.eq_false_iff.1 hmay)))
  · intro hleased hage hmay
    exact ⟨_, congrArg Host.Outcome.next ((if_pos ⟨hleased, hage⟩).trans (if_pos hmay)), raiseAlarm_on _ _ _ (by decide), onlyLog_raiseAlarm _ _ _ _⟩
  · intro hleased
    exact congrArg Host.Outcome.next (if_neg (fun h => Bool.false_ne_true (hleased.symm.trans h.1)))
  · intro hage
    exact congrArg Host.Outcome.next (if_neg (fun h => Bool.false_ne_true (hage.symm.trans h.2)))
  · intro harb hholder hk hexp
    refine congrArg Host.Outcome.next (if_pos ⟨harb, ?_, ?_, hexp⟩)
    · exact Option.isSome_iff_exists.2 ⟨k, hholder⟩
    · exact fun h => hk (Option.some.inj (hholder.symm.trans h))
  · intro hexp
    exact congrArg Host.Outcome.next (if_neg (fun h => absurd hexp (Nat.not_lt.2 h.2.2.2)))
  · intro g harb hg hdue
    show Host.Outcome.next (match s.red.lease.guardUntil with | none => _ | some g => _) = _
    rw [hg]
    exact congrArg Host.Outcome.next (if_pos ⟨harb, hdue⟩)
  · intro hg
    show Host.Outcome.next (match s.red.lease.guardUntil with | none => _ | some g => _) = _
    rw [hg]
  · intro hrun hframes hel hmask
    exact ⟨_, congrArg Host.Outcome.next (if_pos ⟨hrun, hframes, hel⟩), checkEnd_passed (s := s.arrive t) hmask⟩
  · intro hrun hframes hel hmask hyield
    exact ⟨_, congrArg Host.Outcome.next (if_pos ⟨hrun, hframes, hel⟩), checkEnd_yields (s := s.arrive t) hmask hyield⟩
  · intro hrun
    exact congrArg Host.Outcome.next (if_neg (fun h => Bool.false_ne_true (hrun.symm.trans h.1)))
  · intro hc hrot hel hunit
    exact congrArg Host.Outcome.next ((if_pos ⟨hc, hrot, hel⟩).trans (congrArg (fun u : State => u.giveUp 21 true) (if_neg hunit)))
  · intro hc hrot hel hunit
    exact congrArg Host.Outcome.next ((if_pos ⟨hc, hrot, hel⟩).trans (congrArg (fun u : State => u.giveUp 21 true) (if_pos hunit)))
  · intro hrot
    exact congrArg Host.Outcome.next (if_neg (fun h => hrot h.2.1))
  · intro hk
    refine guardUnit_out (Bool.eq_false_iff.2 (fun h => ?_))
    have := between_iff.1 h
    omega
  · intro a hk hbad hdue
    have hin : between 1 k 2 = true := between_iff.2 (by omega)
    have hheld : (s.arrive t).held (assoc (s.arrive t).red.relayBadSince k) 1000000000 = true := held_some hbad hdue
    exact ⟨_, guardUnit_next hin (if_pos hheld), raiseAlarm_on _ _ _ (by decide), onlyLog_raiseAlarm _ _ _ _⟩
  · intro hk hbad
    have hin : between 1 k 2 = true := between_iff.2 (by omega)
    exact guardUnit_next hin (if_neg (held_none hbad))
  · intro hdue
    exact ⟨_, congrArg Host.Outcome.next (if_pos hdue), raiseAlarm_on _ _ _ (by decide), onlyLog_raiseAlarm _ _ _ _⟩
  · intro hdue
    exact congrArg Host.Outcome.next (if_neg (Nat.not_le.2 hdue))
  · intro hc c h
    obtain ⟨x, hred⟩ := giveUp_red hc c h
    exact ⟨(yields_giveUp s c h).off, by rw [hred]; rfl, by rw [hred]; rfl⟩

end Sys2Proof.Machine
end

section
/-!
PROOF. What the evaluation of the safety section decides (R430, R435, R441): a pair with a cause that acts at once is stopped with its gates off, and
what both technologies hold beside their units stays.
-/
namespace Sys2Proof.Machine

/-- A fold that passes an element which brings `Q` about, under a `P` every step keeps, ends in `Q`. -/
theorem foldl_reaches {α β : Type} {f : β → α → β} {P Q : β → Prop} {a : α} (hP : ∀ x b, P x → P (f x b)) (hset : ∀ x, P x → Q (f x a))
    (hQ : ∀ x b, P x → Q x → Q (f x b)) (l : List α) (hmem : a ∈ l) : ∀ x, P x → Q (l.foldl f x) := by
  have hstay : ∀ (l : List α) x, P x → Q x → Q (l.foldl f x) := by
    intro l
    induction l with
    | nil => exact fun _ _ hq => hq
    | cons b l ih => exact fun x hp hq => ih _ (hP x b hp) (hQ x b hp hq)
  induction l with
  | nil => simp at hmem
  | cons b l ih =>
    intro x hp
    rcases List.mem_cons.1 hmem with rfl | hl
    · exact hstay l _ (hP x a hp) (hset x hp)
    · exact ih hl _ (hP x b hp)

theorem foldl_keeps {α β : Type} {f : β → α → β} {P : β → Prop} (hP : ∀ x b, P x → P (f x b)) (l : List α) (x : β) (h : P x) : P (l.foldl f x) :=
  List.foldlRecOn l f h (fun x hx b _ => hP x b hx)

theorem mem_four {p : Nat} (h1 : 1 ≤ p) (h4 : p ≤ 4) : p ∈ four := by
  have : p = 1 ∨ p = 2 ∨ p = 3 ∨ p = 4 := by omega
  simpa [four] using this

/-! ### The units of the safety section -/

/-- From `x` to `y` at most the inputs, pairs, brakes and entries changed. -/
def UnitsOnly (x y : SafeSt) : Prop := ∃ i t b l, y = { x with ins := i, sts := t, brk := b, slt := l }

theorem unitsOnly_refl (x : SafeSt) : UnitsOnly x x := ⟨_, _, _, _, rfl⟩

theorem UnitsOnly.trans {x y z : SafeSt} (h : UnitsOnly x y) (h' : UnitsOnly y z) : UnitsOnly x z := by
  obtain ⟨_, _, _, _, rfl⟩ := h
  obtain ⟨_, _, _, _, rfl⟩ := h'
  exact ⟨_, _, _, _, rfl⟩

theorem unitsOnly_foldl {f : SafeSt → Nat → SafeSt} (hf : ∀ x p, UnitsOnly x (f x p)) (l : List Nat) (x : SafeSt) : UnitsOnly x (l.foldl f x) :=
  foldl_keeps (P := fun y => UnitsOnly x y) (fun y p h => h.trans (hf y p)) l x (unitsOnly_refl x)

theorem unitsOnly_eval (x : SafeSt) (now : Nat) : UnitsOnly x (x.eval now) := by
  have hnote : UnitsOnly x x.noteDemands := ⟨_, _, _, _, rfl⟩
  have hslt := unitsOnly_foldl (f := fun x j => x.evalSlt j) (fun _ _ => ⟨_, _, _, _, rfl⟩) four x.noteDemands
  have hpair := unitsOnly_foldl (f := fun x p => x.evalPair now p) (fun _ _ => ⟨_, _, _, _, rfl⟩) four (four.foldl (fun x j => x.evalSlt j) x.noteDemands)
  exact ((hnote.trans hslt).trans hpair).trans (unitsOnly_foldl (f := fun x b => x.evalBrake now b) (fun _ _ => ⟨_, _, _, _, rfl⟩) four _)

theorem unitsOnly_driveL (x : SafeSt) : UnitsOnly x x.driveL :=
  (unitsOnly_foldl (f := fun x p => x.modPair p (fun q => { q with gateL := [x.pairOn p && x.lHealthy, x.pairOn p && x.lHealthy] }))
    (fun _ _ => ⟨_, _, _, _, rfl⟩) four x).trans
    (unitsOnly_foldl (f := fun x b => x.modBrake b (fun k => { k with gatesL := !k.isSet && x.lHealthy })) (fun _ _ => ⟨_, _, _, _, rfl⟩) four _)

theorem unitsOnly_driveP (x : SafeSt) : UnitsOnly x x.driveP :=
  (unitsOnly_foldl (f := fun x p => x.modPair p (fun q => { q with gateP := [x.pairOn p && x.pHealthy, x.pairOn p && x.pHealthy] }))
    (fun _ _ => ⟨_, _, _, _, rfl⟩) four x).trans
    (unitsOnly_foldl (f := fun x b => x.modBrake b (fun k => { k with gatesP := !k.isSet && x.pHealthy })) (fun _ _ => ⟨_, _, _, _, rfl⟩) four _)

/-! ### A pair -/

theorem pair_modPair {x : SafeSt} {p : Nat} (hlt : p - 1 < x.sts.length) (f : StsPair → StsPair) : (x.modPair p f).pair p = f (x.pair p) := by
  simp [SafeSt.modPair, SafeSt.pair, hlt]

theorem pair_modPair_ne {x : SafeSt} {p q : Nat} (h : q - 1 ≠ p - 1) (f : StsPair → StsPair) : (x.modPair q f).pair p = x.pair p := by
  simp only [SafeSt.modPair, SafeSt.pair, List.getD_eq_getElem?_getD]
  rw [List.getElem?_modify]
  simp [h]

theorem pair_congr {x : SafeSt} {p q : Nat} (h : q - 1 = p - 1) : x.pair q = x.pair p := by rw [SafeSt.pair, h, SafeSt.pair]

/-- What a change of some pair keeps of every pair it keeps of pair `p`. -/
theorem pair_modPair_keeps {P : StsPair → Prop} {x : SafeSt} {p : Nat} (hlt : p - 1 < x.sts.length) (q : Nat) {f : StsPair → StsPair}
    (hf : ∀ y, P y → P (f y)) (h : P (x.pair p)) : P ((x.modPair q f).pair p) := by
  by_cases heq : q - 1 = p - 1
  · rw [← pair_congr heq, pair_modPair (by rw [heq]; exact hlt), pair_congr heq]
    exact hf _ h
  · rw [pair_modPair_ne heq]
    exact h

/-- A cause of pair `p` that acts at once and that no evaluation ends stands. R430, R441. -/
def SafeSt.Forced (x : SafeSt) (p : Nat) : Prop :=
  p - 1 < x.sts.length ∧ (x.safeStop = true ∨ x.confirmed = none ∨ (x.pair p).faulted = true)

/-- Pair `p` is stopped, with no delay that runs. -/
def StsPair.Down (q : StsPair) : Prop := q.stopped = true ∧ q.delayEnd = none

/-- Pair `p` is one of the section's, and down. -/
def SafeSt.PairDown (x : SafeSt) (p : Nat) : Prop := p - 1 < x.sts.length ∧ (x.pair p).Down

theorem forced_hard {x : SafeSt} {p : Nat} (h : x.Forced p) : x.hardCause p = true := by
  obtain ⟨-, h | h | h⟩ := h <;> simp [SafeSt.hardCause, h]

theorem forced_units {x y : SafeSt} {p : Nat} (h : x.Forced p) (hu : UnitsOnly x y) (hsts : y.sts.length = x.sts.length)
    (hf : (x.pair p).faulted = true → (y.pair p).faulted = true) : y.Forced p := by
  obtain ⟨hlt, hc⟩ := h
  refine ⟨hsts ▸ hlt, ?_⟩
  rcases hc with h | h | h
  · obtain ⟨_, _, _, _, rfl⟩ := hu
    exact Or.inl h
  · obtain ⟨_, _, _, _, rfl⟩ := hu
    exact Or.inr (Or.inl h)
  · exact Or.inr (Or.inr (hf h))

theorem forced_modPair {x : SafeSt} {p q : Nat} {f : StsPair → StsPair} (h : x.Forced p) (hf : ∀ y : StsPair, y.faulted = true → (f y).faulted = true) :
    (x.modPair q f).Forced p :=
  forced_units h ⟨_, _, _, _, rfl⟩ (by simp [SafeSt.modPair]) (pair_modPair_keeps (P := fun y => y.faulted = true) h.1 q hf)

theorem forced_foldl {f : SafeSt → Nat → SafeSt} {p : Nat} (hf : ∀ x q, x.Forced p → (f x q).Forced p) (l : List Nat) {x : SafeSt} (h : x.Forced p) :
    (l.foldl f x).Forced p := foldl_keeps (P := fun x => x.Forced p) hf l x h

theorem forced_congr {x : SafeSt} {p q : Nat} (h : q - 1 = p - 1) (hp : x.Forced p) : x.Forced q := by
  obtain ⟨hlt, hc⟩ := hp
  exact ⟨by rw [h]; exact hlt, by rw [pair_congr h]; exact hc⟩

theorem evalPair_down {x : SafeSt} {p : Nat} (h : x.Forced p) (now : Nat) : ((x.evalPair now p).pair p).Down := by
  unfold SafeSt.evalPair
  dsimp only
  rw [pair_modPair h.1, forced_hard h]
  exact ⟨by simp [SafeSt.cause, forced_hard h], by simp⟩

theorem forced_evalPair {x : SafeSt} {p : Nat} (now q : Nat) (h : x.Forced p) : (x.evalPair now q).Forced p := forced_modPair h (fun _ h => h)

theorem evalPair_keepsDown {x : SafeSt} {p : Nat} (now q : Nat) (h : x.Forced p) (hd : (x.pair p).Down) : ((x.evalPair now q).pair p).Down := by
  by_cases heq : q - 1 = p - 1
  · rw [← pair_congr heq]
    exact evalPair_down (forced_congr heq h) now
  · rw [SafeSt.evalPair, pair_modPair_ne heq]
    exact hd

/-- A pair with a cause that acts at once is stopped by every evaluation. R430. -/
theorem eval_down {x : SafeSt} {p : Nat} (h1 : 1 ≤ p) (h4 : p ≤ 4) (h : x.Forced p) (now : Nat) :
    (x.eval now).Forced p ∧ (x.eval now).PairDown p := by
  have hslt := forced_foldl (f := fun x j => x.evalSlt j) (p := p) (x := x.noteDemands) (fun _ _ h => h) four h
  have hpairs := forced_foldl (f := fun x p => x.evalPair now p) (p := p) (fun _ q h => forced_evalPair now q h) four hslt
  have hdown := foldl_reaches (f := fun x p => x.evalPair now p) (P := fun x : SafeSt => x.Forced p) (Q := fun x => (x.pair p).Down)
    (fun _ q h => forced_evalPair now q h) (fun _ h => evalPair_down h now) (fun _ q hx hq => evalPair_keepsDown now q hx hq) four (mem_four h1 h4) _ hslt
  have hbrakes := foldl_keeps (f := fun x b => x.evalBrake now b) (P := fun y : SafeSt => y.Forced p ∧ (y.pair p).Down) (fun _ _ h => h) four _
    ⟨hpairs, hdown⟩
  exact ⟨hbrakes.1, hbrakes.1.1, hbrakes.2⟩

/-- The gates a drive sets of pair `p`, none where the pair is down. -/
theorem pairOn_down {x : SafeSt} {p : Nat} (h : (x.pair p).Down) : x.pairOn p = false := by simp [SafeSt.pairOn, h.1, h.2]

/-- One technology holds the gates of a pair off. -/
def StsPair.Off (q : StsPair) : Prop := q.gateP = [false, false] ∨ q.gateL = [false, false]

theorem off_energised {x : SafeSt} {p : Nat} (h : (x.pair p).Off) (c : Bool) : x.energised p c = false := by
  unfold SafeSt.energised
  rcases h with h | h <;> cases c <;> simp [h]

theorem pairDown_modPair {x : SafeSt} {p : Nat} (h : x.PairDown p) (q : Nat) {f : StsPair → StsPair} (hf : ∀ y : StsPair, y.Down → (f y).Down) :
    (x.modPair q f).PairDown p :=
  ⟨by simpa [SafeSt.modPair] using h.1, pair_modPair_keeps (P := StsPair.Down) h.1 q hf h.2⟩

/-- A drive takes the gates of a pair that is down off, pair by pair. -/
theorem drive_pairs {x : SafeSt} {p : Nat} {f : SafeSt → Nat → SafeSt} {g : StsPair → List Bool → StsPair} {on : SafeSt → Nat → Bool}
    (h1 : 1 ≤ p) (h4 : p ≤ 4) (hf : ∀ y q, f y q = y.modPair q (fun z => g z [on y q, on y q]))
    (hon : ∀ y q, (y.pair q).Down → on y q = false) (hdown : ∀ z l, z.Down → (g z l).Down) (hoff : ∀ z, (g z [false, false]).Off)
    (h : x.PairDown p) : (four.foldl f x).PairDown p ∧ ((four.foldl f x).pair p).Off := by
  have hkeep : ∀ (y : SafeSt) q, y.PairDown p → (f y q).PairDown p := fun y q hy => by
    rw [hf]
    exact pairDown_modPair hy q (fun z hz => hdown z _ hz)
  have hset : ∀ (y : SafeSt) q, q - 1 = p - 1 → y.PairDown p → ((f y q).pair p).Off := fun y q heq hy => by
    rw [hf, ← pair_congr heq, pair_modPair (by rw [heq]; exact hy.1), hon y q (by rw [pair_congr heq]; exact hy.2)]
    exact hoff _
  refine ⟨foldl_keeps (P := fun y : SafeSt => y.PairDown p) hkeep four x h,
    foldl_reaches (P := fun y : SafeSt => y.PairDown p) (Q := fun y => (y.pair p).Off) hkeep (fun y hy => hset y p rfl hy) (fun y q hy hq => ?_) four
      (mem_four h1 h4) x h⟩
  by_cases heq : q - 1 = p - 1
  · exact hset y q heq hy
  · rw [hf, pair_modPair_ne heq]
    exact hq

theorem driveL_off {x : SafeSt} {p : Nat} (h1 : 1 ≤ p) (h4 : p ≤ 4) (h : x.PairDown p) : x.driveL.PairDown p ∧ (x.driveL.pair p).Off :=
  foldl_keeps (P := fun y : SafeSt => y.PairDown p ∧ (y.pair p).Off) (fun _ _ h => h) four _
    (drive_pairs (g := fun z l => { z with gateL := l }) (on := fun y q => y.pairOn q && y.lHealthy) h1 h4 (fun _ _ => rfl)
      (fun y q hd => by simp [pairOn_down hd]) (fun _ _ h => h) (fun _ => Or.inr rfl) h)

theorem driveP_off {x : SafeSt} {p : Nat} (h1 : 1 ≤ p) (h4 : p ≤ 4) (h : x.PairDown p) : x.driveP.PairDown p ∧ (x.driveP.pair p).Off :=
  foldl_keeps (P := fun y : SafeSt => y.PairDown p ∧ (y.pair p).Off) (fun _ _ h => h) four _
    (drive_pairs (g := fun z l => { z with gateP := l }) (on := fun y q => y.pairOn q && y.pHealthy) h1 h4 (fun _ _ => rfl)
      (fun y q hd => by simp [pairOn_down hd]) (fun _ _ h => h) (fun _ => Or.inl rfl) h)

/-! ### A brake -/

theorem brake_modBrake {x : SafeSt} {b : Nat} (hlt : b - 1 < x.brk.length) (f : Brake → Brake) : (x.modBrake b f).brake b = f (x.brake b) := by
  simp [SafeSt.modBrake, SafeSt.brake, hlt]

theorem brake_modBrake_ne {x : SafeSt} {b c : Nat} (h : c - 1 ≠ b - 1) (f : Brake → Brake) : (x.modBrake c f).brake b = x.brake b := by
  simp only [SafeSt.modBrake, SafeSt.brake, List.getD_eq_getElem?_getD]
  rw [List.getElem?_modify]
  simp [h]

theorem brake_congr {x : SafeSt} {b c : Nat} (h : c - 1 = b - 1) : x.brake c = x.brake b := by rw [SafeSt.brake, h, SafeSt.brake]

/-- Brake `b` is one of the section's and `P` of it. -/
def SafeSt.BrakeIs (P : Brake → Prop) (b : Nat) (x : SafeSt) : Prop := b - 1 < x.brk.length ∧ P (x.brake b)

theorem brakeIs_modBrake {P : Brake → Prop} {x : SafeSt} {b c : Nat} {f : Brake → Brake} (h : x.BrakeIs P b) (hf : c - 1 = b - 1 → P (f (x.brake b))) :
    (x.modBrake c f).BrakeIs P b := by
  refine ⟨by simpa [SafeSt.modBrake] using h.1, ?_⟩
  by_cases heq : c - 1 = b - 1
  · rw [← brake_congr heq, brake_modBrake (by rw [heq]; exact h.1), brake_congr heq]
    exact hf heq
  · rw [brake_modBrake_ne heq]
    exact h.2

/-- What an evaluation keeps of a brake that each of its own evaluations keeps. -/
theorem eval_brakeIs {P : Brake → Prop} {x : SafeSt} {b : Nat} {now : Nat}
    (hP : ∀ (y : SafeSt) c, y.BrakeIs P b → (y.evalBrake now c).BrakeIs P b) (h : x.BrakeIs P b) : (x.eval now).BrakeIs P b := by
  have hslt := foldl_keeps (P := fun y : SafeSt => y.BrakeIs P b) (f := fun x j => x.evalSlt j) (fun _ _ h => h) four x.noteDemands h
  have hpair := foldl_keeps (P := fun y : SafeSt => y.BrakeIs P b) (f := fun x p => x.evalPair now p) (fun _ _ h => h) four _ hslt
  exact foldl_keeps (P := fun y : SafeSt => y.BrakeIs P b) hP four _ hpair

/-- The gates a drive sets keep of a brake what its gates do not decide. -/
theorem drive_brakeIs {P : Brake → Prop} {x : SafeSt} {b : Nat} (hL : ∀ k g, P k → P { k with gatesL := g })
    (hPg : ∀ k g, P k → P { k with gatesP := g }) (h : x.BrakeIs P b) : x.driveL.driveP.BrakeIs P b := by
  have hl1 := foldl_keeps (P := fun y : SafeSt => y.BrakeIs P b)
    (f := fun x p => x.modPair p (fun q => { q with gateL := [x.pairOn p && x.lHealthy, x.pairOn p && x.lHealthy] })) (fun _ _ h => h) four x h
  have hl2 := foldl_keeps (P := fun y : SafeSt => y.BrakeIs P b) (f := fun x b => x.modBrake b (fun k => { k with gatesL := !k.isSet && x.lHealthy }))
    (fun y c hy => brakeIs_modBrake hy (fun _ => hL _ _ hy.2)) four _ hl1
  have hp1 := foldl_keeps (P := fun y : SafeSt => y.BrakeIs P b)
    (f := fun x p => x.modPair p (fun q => { q with gateP := [x.pairOn p && x.pHealthy, x.pairOn p && x.pHealthy] })) (fun _ _ h => h) four _ hl2
  exact foldl_keeps (P := fun y : SafeSt => y.BrakeIs P b) (f := fun x b => x.modBrake b (fun k => { k with gatesP := !k.isSet && x.pHealthy }))
    (fun y c hy => brakeIs_modBrake hy (fun _ => hPg _ _ hy.2)) four _ hp1

/-- What a passed test leaves of a brake, at an instant. R437. -/
def Brake.Passed (now : Nat) (k : Brake) : Prop :=
  k.test = none ∧ k.failed = false ∧ k.overdue = false ∧ k.hoursNs = 0 ∧ k.hoursAt = now

theorem evalBrake_passed {x : SafeSt} {b now : Nat} (c : Nat) (h : x.BrakeIs (Brake.Passed now) b) :
    (x.evalBrake now c).BrakeIs (Brake.Passed now) b := by
  refine brakeIs_modBrake h (fun heq => ?_)
  obtain ⟨htest, hfailed, hover, hns, hat⟩ := h.2
  refine ⟨htest, hfailed, hover, ?_, rfl⟩
  show (if (x.brake c).isSet then (x.brake c).hoursNs else (x.brake c).hoursNs + (now - (x.brake c).hoursAt)) = 0
  rw [brake_congr heq, hns, hat]
  simp

/-- What a failed test leaves of a brake. R437. -/
def Brake.Failed (k : Brake) : Prop := k.test = none ∧ k.failed = true

theorem evalBrake_failed {x : SafeSt} {b now : Nat} (c : Nat) (h : x.BrakeIs Brake.Failed b) : (x.evalBrake now c).BrakeIs Brake.Failed b :=
  brakeIs_modBrake h (fun _ => h.2)

theorem evalBrake_sets {x : SafeSt} {b now : Nat} {c : Nat} (heq : c - 1 = b - 1) (h : x.BrakeIs Brake.Failed b) :
    ((x.evalBrake now c).brake b).isSet = true := by
  rw [← brake_congr heq, SafeSt.evalBrake, brake_modBrake (by rw [heq]; exact h.1)]
  simp [SafeSt.brakeAtOnce, brake_congr heq, h.2.2]

/-- A brake whose test has failed is set by every evaluation. R437. -/
theorem eval_sets {x : SafeSt} {b now : Nat} (h1 : 1 ≤ b) (h4 : b ≤ 4) (h : x.BrakeIs Brake.Failed b) :
    (x.eval now).BrakeIs (fun k => Brake.Failed k ∧ k.isSet = true) b := by
  have hslt := foldl_keeps (P := fun y : SafeSt => y.BrakeIs Brake.Failed b) (f := fun x j => x.evalSlt j) (fun _ _ h => h) four x.noteDemands h
  have hpair := foldl_keeps (P := fun y : SafeSt => y.BrakeIs Brake.Failed b) (f := fun x p => x.evalPair now p) (fun _ _ h => h) four _ hslt
  obtain ⟨hlt, hfailed⟩ := eval_brakeIs (now := now) (fun y c => evalBrake_failed c) h
  refine ⟨hlt, hfailed, ?_⟩
  refine foldl_reaches (P := fun y : SafeSt => y.BrakeIs Brake.Failed b) (Q := fun y => (y.brake b).isSet = true) (fun y c => evalBrake_failed c)
    (fun y => evalBrake_sets rfl) (fun y c hy hq => ?_) four (mem_four h1 h4) _ hpair
  by_cases heq : c - 1 = b - 1
  · exact evalBrake_sets heq hy
  · exact (congrArg Brake.isSet (brake_modBrake_ne heq _)).trans hq

end Sys2Proof.Machine
end

section
/-!
PROOF. The two safety technologies, their start test and brake tests (R424, R425, R435–R437, R443, R453).
-/
namespace Sys2Proof.Machine

/-! ### What an evaluation of the safety section leaves -/

/-- From `s` to `u` the safety section has been evaluated: the time, KEEP and the mode are as before, and of the safety section what is not a unit's. -/
structure Judged (s u : State) : Prop where
  now : u.now = s.now
  keep : u.keep = s.keep
  mode : u.sys.mode = s.sys.mode
  sts : u.safe.sts.length = s.safe.sts.length
  safe : ∃ i t b l d, u.safe = { s.safe with ins := i, sts := t, brk := b, slt := l, differSince := d }

theorem Judged.trans {s u v : State} (h : Judged s u) (h' : Judged u v) : Judged s v := by
  obtain ⟨i, t, b, l, d, hs⟩ := h.safe
  obtain ⟨i', t', b', l', d', hs'⟩ := h'.safe
  exact ⟨h'.now.trans h.now, h'.keep.trans h.keep, h'.mode.trans h.mode, h'.sts.trans h.sts, i', t', b', l', d', by rw [hs', hs]⟩

theorem Calm.sts {s u : State} (h : Calm s u) : u.safe.sts = s.safe.sts := by
  obtain ⟨_, _, h⟩ := h.safe
  rw [h]

theorem Calm.judged {s u : State} (h : Calm s u) : Judged s u := by
  obtain ⟨_, _, hs⟩ := h.safe
  exact ⟨h.now, h.keep, h.mode, by rw [h.sts], _, _, _, _, _, hs⟩

theorem sts_of_sizes {x y : SafeSt} (h : y.sizes = x.sizes) : y.sts.length = x.sts.length := by
  simp only [SafeSt.sizes, List.cons.injEq] at h
  exact h.2.1

theorem judged_modSafe {s : State} {f : SafeSt → SafeSt} (h : UnitsOnly s.safe (f s.safe)) (hs : (f s.safe).sizes = s.safe.sizes) :
    Judged s (s.modSafe f) := by
  obtain ⟨i, t, b, l, hf⟩ := h
  exact ⟨rfl, rfl, rfl, sts_of_sizes hs, i, t, b, l, _, hf⟩

theorem calm_noteDiffer (s : State) : Calm s s.noteDiffer := ⟨rfl, rfl, rfl, ⟨_, _, rfl⟩, ⟨_, rfl⟩⟩

theorem onlyLog_stopRecords (s : State) (x : SafeSt) : OnlyLog s (s.stopRecords x) := by
  refine onlyLog_trans (onlyLog_foldl (onlyLog_refl s) (fun u p h => ?_)) (onlyLog_alarmIf _ _ _ _)
  exact onlyLog_trans h (onlyLog_ite (onlyLog_event _ _ _) (onlyLog_ite (onlyLog_event _ _ _) (onlyLog_refl _)))

/-- What follows an evaluation: the difference noted, the records. -/
theorem calm_after (s : State) (x : SafeSt) : Calm s (s.noteDiffer.stopRecords x) := (calm_noteDiffer s).trans (onlyLog_stopRecords _ x).calm

theorem calm_abortDemanded (s : State) : Calm s s.abortDemanded :=
  calm_foldl (fun u b => calm_ite (calm_abortBrakeTest u b) (calm_refl u)) four s

/-- Pair `p` is shut: down, and held off by a technology. -/
def State.Shut (s : State) (p : Nat) : Prop := s.safe.PairDown p ∧ (s.safe.pair p).Off

theorem Calm.shut {s u : State} (h : Calm s u) {p : Nat} (hs : s.Shut p) : u.Shut p := by
  unfold State.Shut SafeSt.PairDown at *
  rw [h.pair, h.sts]
  exact hs

theorem shut_of_safe {s u : State} (h : u.safe = s.safe) {p : Nat} (hs : s.Shut p) : u.Shut p := by
  unfold State.Shut at *
  rw [h]
  exact hs

theorem Calm.forced {s u : State} (h : Calm s u) {p : Nat} (hf : s.safe.Forced p) : u.safe.Forced p := by
  obtain ⟨_, _, h⟩ := h.safe
  rw [h]
  exact hf

theorem State.Shut.stopped {s : State} {p : Nat} (h : s.Shut p) (c : Bool) : (s.safe.pair p).stopped = true ∧ s.safe.energised p c = false :=
  ⟨h.1.2.1, off_energised h.2 c⟩

theorem driveL_forced {x : SafeSt} {p : Nat} (h : x.Forced p) : x.driveL.Forced p :=
  forced_foldl (f := fun x b => x.modBrake b (fun k => { k with gatesL := !k.isSet && x.lHealthy })) (fun _ _ h => h) four
    (forced_foldl (f := fun x p => x.modPair p (fun q => { q with gateL := [x.pairOn p && x.lHealthy, x.pairOn p && x.lHealthy] }))
      (fun _ _ h => forced_modPair h (fun _ h => h)) four h)

theorem driveP_forced {x : SafeSt} {p : Nat} (h : x.Forced p) : x.driveP.Forced p :=
  forced_foldl (f := fun x b => x.modBrake b (fun k => { k with gatesP := !k.isSet && x.pHealthy })) (fun _ _ h => h) four
    (forced_foldl (f := fun x p => x.modPair p (fun q => { q with gateP := [x.pairOn p && x.pHealthy, x.pairOn p && x.pHealthy] }))
      (fun _ _ h => forced_modPair h (fun _ h => h)) four h)

/-- An evaluation with both drives shuts a pair with a cause that acts at once. R430. -/
theorem evalBoth_shuts {x : SafeSt} {p : Nat} (h1 : 1 ≤ p) (h4 : p ≤ 4) (h : x.Forced p) (now : Nat) :
    (x.eval now).driveL.driveP.Forced p ∧ (x.eval now).driveL.driveP.PairDown p ∧ ((x.eval now).driveL.driveP.pair p).Off := by
  obtain ⟨hforced, hdown⟩ := eval_down h1 h4 h now
  exact ⟨driveP_forced (driveL_forced hforced), driveP_off h1 h4 (driveL_off h1 h4 hdown).1⟩

/-- Both technologies judge the section, before what follows it. -/
def State.judgeBoth (s : State) : State := s.modSafe (fun x => (x.eval s.now).driveL.driveP)

theorem judged_judgeBoth (s : State) : Judged s s.judgeBoth :=
  judged_modSafe (((unitsOnly_eval _ _).trans (unitsOnly_driveL _)).trans (unitsOnly_driveP _)) (by simp)

theorem safeBoth_eq (s : State) : s.safeBoth = s.abortDemanded.judgeBoth.noteDiffer.stopRecords s.safe := rfl

theorem judgeBoth_shuts {s : State} {p : Nat} (h1 : 1 ≤ p) (h4 : p ≤ 4) (h : s.safe.Forced p) : s.judgeBoth.safe.Forced p ∧ s.judgeBoth.Shut p :=
  evalBoth_shuts h1 h4 h s.now

theorem judged_safeBoth (s : State) : Judged s s.safeBoth := by
  rw [safeBoth_eq]
  exact ((calm_abortDemanded s).judged.trans (judged_judgeBoth _)).trans (calm_after _ _).judged

/-- Both technologies evaluate a pair with a cause that acts at once: it is shut. R430. -/
theorem safeBoth_shuts {s : State} {p : Nat} (h1 : 1 ≤ p) (h4 : p ≤ 4) (h : s.safe.Forced p) : s.safeBoth.safe.Forced p ∧ s.safeBoth.Shut p := by
  rw [safeBoth_eq]
  obtain ⟨hforced, hshut⟩ := judgeBoth_shuts h1 h4 ((calm_abortDemanded s).forced h)
  exact ⟨(calm_after _ _).forced hforced, (calm_after _ _).shut hshut⟩

/-! ### Faults of a technology, R425 -/

/-- The safety section of a state, in SAFE-STOP. -/
def State.inSafeStop (s : State) : State := s.modSafe (fun x => { x with safeStop := true })

/-- The technologies that are asked drive their gates. -/
def State.drives (s : State) (byP byL : Bool) : State :=
  if byL then (if byP then s.modSafe (·.driveP) else s).modSafe (·.driveL) else if byP then s.modSafe (·.driveP) else s

theorem judged_drives (s : State) (byP byL : Bool) : Judged s (s.drives byP byL) := by
  have hP (u : State) : Judged u (u.modSafe (·.driveP)) := judged_modSafe (unitsOnly_driveP _) (by simp)
  have hL (u : State) : Judged u (u.modSafe (·.driveL)) := judged_modSafe (unitsOnly_driveL _) (by simp)
  cases byL with
  | true =>
    cases byP with
    | true => exact (hP s).trans (hL _)
    | false => exact hL s
  | false =>
    cases byP with
    | true => exact hP s
    | false => exact (calm_refl s).judged

theorem drives_shuts {s : State} {byP byL : Bool} (hby : byP = true ∨ byL = true) {p : Nat} (h1 : 1 ≤ p) (h4 : p ≤ 4) (h : s.safe.PairDown p) :
    (s.drives byP byL).Shut p := by
  have hP : (s.modSafe (·.driveP)).Shut p := driveP_off h1 h4 h
  cases byL with
  | true =>
    cases byP with
    | true => exact driveL_off h1 h4 hP.1
    | false => exact driveL_off h1 h4 h
  | false =>
    rcases hby with rfl | h
    · exact hP
    · exact absurd h Bool.false_ne_true

/-- The section evaluated in SAFE-STOP. -/
def State.stopEval (s : State) : State := s.modSafe (fun x => ({ x with safeStop := true } : SafeSt).eval s.now)

theorem safeStopEnter_eq (s : State) (byP byL : Bool) : s.safeStopEnter byP byL =
    (four.foldl (fun s b => s.abortBrakeTest b) (s.abortDemanded.stopEval.drives byP byL)).noteDiffer.stopRecords s.safe := by
  cases byP <;> cases byL <;> rfl

theorem judged_stopEval (s : State) : Judged s.inSafeStop s.stopEval := by
  obtain ⟨i, t, b, l, h⟩ := unitsOnly_eval { s.safe with safeStop := true } s.now
  exact ⟨rfl, rfl, rfl, sts_of_sizes (SafeSt.eval_sizes _ _), i, t, b, l, s.safe.differSince, h⟩

theorem stopEval_down {s : State} (hsts : s.safe.sts.length = 4) {p : Nat} (h1 : 1 ≤ p) (h4 : p ≤ 4) : s.stopEval.safe.PairDown p :=
  (eval_down (x := { s.safe with safeStop := true }) h1 h4 ⟨show p - 1 < s.safe.sts.length by omega, Or.inl rfl⟩ s.now).2

theorem Calm.inSafeStop {s u : State} (h : Calm s u) : Calm s.inSafeStop u.inSafeStop := by
  obtain ⟨b, d, hs⟩ := h.safe
  exact ⟨h.now, h.keep, h.mode, ⟨b, d, congrArg (fun x : SafeSt => { x with safeStop := true }) hs⟩, h.red⟩

theorem judged_safeStopEnter (s : State) (byP byL : Bool) : Judged s.inSafeStop (s.safeStopEnter byP byL) := by
  rw [safeStopEnter_eq]
  have htail := (calm_abortBrakeTests (s.abortDemanded.stopEval.drives byP byL)).trans (calm_after _ s.safe)
  exact (((calm_abortDemanded s).inSafeStop.judged.trans (judged_stopEval _)).trans (judged_drives _ _ _)).trans htail.judged

theorem safeStopEnter_shuts {s : State} {byP byL : Bool} (hby : byP = true ∨ byL = true) (hsts : s.safe.sts.length = 4) {p : Nat} (h1 : 1 ≤ p)
    (h4 : p ≤ 4) : (s.safeStopEnter byP byL).Shut p := by
  rw [safeStopEnter_eq]
  have hlen : s.abortDemanded.safe.sts.length = 4 := by rw [(calm_abortDemanded s).sts, hsts]
  exact ((calm_abortBrakeTests _).trans (calm_after _ s.safe)).shut (drives_shuts hby h1 h4 (stopEval_down hlen h1 h4))

/-- What a fault of a technology leaves. R425. -/
structure Faulted (s u : State) (byP byL : Bool) : Prop where
  mode : u.sys.mode = .safeStop
  safeStop : u.safe.safeStop = true
  off : u.red.commanding = false
  pHealthy : u.safe.pHealthy = (s.safe.pHealthy && !byL)
  lHealthy : u.safe.lHealthy = (s.safe.lHealthy && !byP)
  shut : ∀ p, 1 ≤ p → p ≤ 4 → u.Shut p

/-- The fault of a technology noted and recorded, before it is answered. -/
def State.techNoted (s : State) (kind : Nat) (byP byL : Bool) : State :=
  (s.modSafe (fun x => { x with pHealthy := x.pHealthy && !byL, lHealthy := x.lHealthy && !byP })).safetyFault (16 + kind) 0

theorem calm_safetyFault (s : State) (kind which : Nat) : Calm s (s.safetyFault kind which) :=
  (onlyLog_trans (onlyLog_event _ _ _) (onlyLog_raiseAlarm _ _ _ _)).calm

theorem Yields.shut {s u : State} (h : Yields s u) {p : Nat} (hs : s.Shut p) : u.Shut p := by
  obtain ⟨_, _, h⟩ := h.safe
  unfold State.Shut at *
  rw [h]
  exact hs

/-- SAFE-STOP that no command has asked for. -/
def State.stopUnasked (s : State) : State := { s with sys := { s.sys with safeStopBy := 0 } }

theorem stopUnasked_safe (s : State) : s.stopUnasked.safe = s.safe := rfl

theorem stopUnasked_mode (s : State) : s.stopUnasked.sys.mode = s.sys.mode := rfl

theorem inMode_mode (s : State) (m : Mode) : (s.inMode m).sys.mode = m := rfl

theorem inMode_safe (s : State) (m : Mode) : (s.inMode m).safe = s.safe := rfl

/-- SAFE-STOP entered, before the mode follows. -/
def State.techStopped (s : State) (kind : Nat) (byP byL : Bool) : State :=
  ((s.techNoted kind byP byL).safeStopEnter byP byL).stopUnasked

theorem techFault_eq {s : State} {kind : Nat} {byP byL : Bool} (hkeep : (s.techStopped kind byP byL).sys.mode ≠ .keep) :
    s.techFault kind byP byL = ((s.techStopped kind byP byL).setMode .safeStop 25).giveUp 25 false :=
  congrArg (fun u : State => u.giveUp 25 false) (if_neg hkeep)

/-- A fault of a technology ends in SAFE-STOP without authority, every pair shut. R425. -/
theorem techFault_faulted {s : State} (hsts : s.safe.sts.length = 4) (hkeep : s.sys.mode ≠ .keep) (kind : Nat) {byP byL : Bool}
    (hby : byP = true ∨ byL = true) : Faulted s (s.techFault kind byP byL) byP byL := by
  have hnoted : (s.techNoted kind byP byL).safe = { s.safe with pHealthy := s.safe.pHealthy && !byL, lHealthy := s.safe.lHealthy && !byP } :=
    (onlyLog_trans (onlyLog_event _ _ _) (onlyLog_raiseAlarm _ _ _ _)).safe
  obtain ⟨-, -, hmode, -, i, t, b, l, d, hsafe⟩ := judged_safeStopEnter (s.techNoted kind byP byL) byP byL
  have hstart : (s.techStopped kind byP byL).sys.mode = s.sys.mode := (stopUnasked_mode _).trans (hmode.trans (calm_safetyFault _ _ _).mode)
  rw [techFault_eq (by rw [hstart]; exact hkeep)]
  have hset := setMode_calm (s.techStopped kind byP byL) .safeStop 25
  have hyields := yields_giveUp ((s.techStopped kind byP byL).setMode .safeStop 25) 25 false
  have hshut (p : Nat) (h1 : 1 ≤ p) (h4 : p ≤ 4) : ((s.techStopped kind byP byL).inMode .safeStop).Shut p :=
    shut_of_safe ((inMode_safe _ _).trans (stopUnasked_safe _)) (safeStopEnter_shuts hby (by rw [hnoted]; exact hsts) h1 h4)
  have hflags : (s.techStopped kind byP byL).safe = { s.safe with
      pHealthy := s.safe.pHealthy && !byL, lHealthy := s.safe.lHealthy && !byP, safeStop := true, ins := i, sts := t, brk := b, slt := l
      differSince := d } := by
    have hsame : (s.techStopped kind byP byL).safe = ((s.techNoted kind byP byL).safeStopEnter byP byL).safe := stopUnasked_safe _
    have hin : (s.techNoted kind byP byL).inSafeStop.safe = { (s.techNoted kind byP byL).safe with safeStop := true } := rfl
    rw [hsame, hsafe, hin, hnoted]
  obtain ⟨_, _, hlast⟩ := hyields.safe
  have hstop : ((s.techStopped kind byP byL).setMode .safeStop 25).sys.mode = .safeStop := hset.mode.trans (inMode_mode _ _)
  refine ⟨(hyields.mode (by rw [hstop]; decide)).trans hstop, ?_, hyields.off, ?_, ?_, fun p h1 h4 => hyields.shut (hset.shut (hshut p h1 h4))⟩
  · rw [hlast]
    exact hset.safeStop.trans (congrArg SafeSt.safeStop hflags)
  · rw [hlast]
    exact hset.pHealthy.trans (congrArg SafeSt.pHealthy hflags)
  · rw [hlast]
    exact hset.lHealthy.trans (congrArg SafeSt.lHealthy hflags)

/-! ### SAFE-P's cycle, R424 -/

/-- SAFE-P's window: the token, the speeds, its evaluation and its gates. R424. -/
def SafeSt.cycle (x : SafeSt) (now : Nat) (sp : List (Nat × Rat)) : SafeSt :=
  ((four.foldl (fun x j => SafeSt.watchSlt x now j) ({ x with tokenAt := now, encSpeed := sp } : SafeSt)).eval now).driveP

theorem unitsOnly_cycle (x : SafeSt) (now : Nat) (sp : List (Nat × Rat)) : UnitsOnly { x with tokenAt := now, encSpeed := sp } (x.cycle now sp) :=
  ((unitsOnly_foldl (f := fun x j => SafeSt.watchSlt x now j) (fun _ _ => ⟨_, _, _, _, rfl⟩) four _).trans (unitsOnly_eval _ now)).trans
    (unitsOnly_driveP _)

theorem cycle_sizes (x : SafeSt) (now : Nat) (sp : List (Nat × Rat)) : (x.cycle now sp).sizes = x.sizes := by
  have hwatch := foldl_keeps (P := fun y : SafeSt => y.sizes = x.sizes) (f := fun x j => SafeSt.watchSlt x now j)
    (fun y j h => (SafeSt.watchSlt_sizes y now j).trans h) four { x with tokenAt := now, encSpeed := sp } rfl
  rw [SafeSt.cycle, SafeSt.driveP_sizes, SafeSt.eval_sizes, hwatch]

/-- SAFE-L follows where it runs. -/
def State.followL (s : State) : State := s.modSafe (fun x => if s.dom 5 && x.lHealthy then x.driveL else x)

theorem judged_followL (s : State) : Judged s s.followL := by
  refine judged_modSafe (f := fun x => if s.dom 5 && x.lHealthy then x.driveL else x) ?_ ?_
  · exact iteInduction (fun _ => unitsOnly_driveL _) (fun _ => unitsOnly_refl _)
  · exact iteInduction (motive := fun y : SafeSt => y.sizes = s.safe.sizes) (fun _ => SafeSt.driveL_sizes _) (fun _ => rfl)

/-- The token of a window and the speeds it brings. -/
def State.windowed (s : State) (now : Nat) (sp : List (Nat × Rat)) : State := s.modSafe (fun x => { x with tokenAt := now, encSpeed := sp })

theorem Calm.windowed {s u : State} (h : Calm s u) (now : Nat) (sp : List (Nat × Rat)) : Calm (s.windowed now sp) (u.windowed now sp) := by
  obtain ⟨b, d, hs⟩ := h.safe
  exact ⟨h.now, h.keep, h.mode, ⟨b, d, congrArg (fun x : SafeSt => { x with tokenAt := now, encSpeed := sp }) hs⟩, h.red⟩

/-- SAFE-P's window evaluated. -/
def State.judgeP (s : State) (now : Nat) (sp : List (Nat × Rat)) : State := s.modSafe (fun x => x.cycle now sp)

theorem judged_judgeP (s : State) (now : Nat) (sp : List (Nat × Rat)) : Judged (s.windowed now sp) (s.judgeP now sp) := by
  obtain ⟨i, t, b, l, h⟩ := unitsOnly_cycle s.safe now sp
  exact ⟨rfl, rfl, rfl, sts_of_sizes (cycle_sizes s.safe now sp), i, t, b, l, s.safe.differSince, h⟩

/-- A cycle of SAFE-P, before what it reads back. R424. -/
def State.cycled (s : State) (sp : List (Nat × Rat)) : State :=
  (s.abortDemanded.judgeP s.abortDemanded.now sp).followL.noteDiffer.stopRecords s.safe

theorem judged_cycled (s : State) (sp : List (Nat × Rat)) : Judged (s.windowed s.now sp) (s.cycled sp) := by
  have hcalm := calm_abortDemanded s
  have hwin : Calm (s.windowed s.now sp) (s.abortDemanded.windowed s.abortDemanded.now sp) := by
    rw [hcalm.now]
    exact hcalm.windowed s.now sp
  exact ((hwin.judged.trans (judged_judgeP _ _ _)).trans (judged_followL _)).trans (calm_after _ _).judged

theorem safePCycle_eq (s : State) (sp : List (Nat × Rat)) : s.safePCycle sp = (s.cycled sp).safe.confirmed.elim (s.cycled sp) (fun c =>
    if (s.cycled sp).dom 5 && (s.cycled sp).safe.lHealthy && (s.cycled sp).safe.slBank ≠ slBytes c then (s.cycled sp).techFault 2 true false
    else s.cycled sp) := by
  show (match (s.cycled sp).safe.confirmed with
    | none => s.cycled sp
    | some c => _) = _
  cases (s.cycled sp).safe.confirmed <;> rfl

/-- A cycle after which SAFE-L's registers read back right. R424. -/
theorem safePCycle_right {s : State} {sp : List (Nat × Rat)} (h : ∀ c, (s.cycled sp).safe.confirmed = some c → (s.cycled sp).safe.slBank = slBytes c) :
    s.safePCycle sp = s.cycled sp := by
  rw [safePCycle_eq]
  cases hc : (s.cycled sp).safe.confirmed with
  | none => rfl
  | some c => exact if_neg (by simp [h c hc])

/-- A cycle that finds a register of SAFE-L wrong. R424. -/
theorem safePCycle_wrong {s : State} {sp : List (Nat × Rat)} {c : List Byte} (hc : (s.cycled sp).safe.confirmed = some c)
    (hbank : (s.cycled sp).safe.slBank ≠ slBytes c) (hdom : (s.cycled sp).dom 5 = true) (hl : (s.cycled sp).safe.lHealthy = true) :
    s.safePCycle sp = (s.cycled sp).techFault 2 true false := by
  rw [safePCycle_eq, hc]
  exact if_pos (by simp [hdom, hl, hbank])

/-! ### Alarms that an evaluation and a change of the mode leave -/

/-- From `s` to `u` every alarm stands as before but the recorder's, the journal's and the one of a stop that is active. -/
def KeepsAlarms (s u : State) : Prop :=
  ∀ ev k, ev ≠ .LOG_FLOOD → ev ≠ .JOURNAL_LOW → ev ≠ .SAFE_STOP_ACTIVE → u.alarmOn ev k = s.alarmOn ev k

theorem keepsAlarms_refl (s : State) : KeepsAlarms s s := fun _ _ _ _ _ => rfl

theorem KeepsAlarms.trans {s u v : State} (h : KeepsAlarms s u) (h' : KeepsAlarms u v) : KeepsAlarms s v :=
  fun ev k hf hj hs => (h' ev k hf hj hs).trans (h ev k hf hj hs)

theorem keepsAlarms_ite {s a b : State} {c : Prop} [Decidable c] (ha : KeepsAlarms s a) (hb : KeepsAlarms s b) : KeepsAlarms s (if c then a else b) := by
  split
  · exact ha
  · exact hb

theorem keepsAlarms_foldl {α : Type} {f : State → α → State} (hf : ∀ u x, KeepsAlarms u (f u x)) (l : List α) (s : State) :
    KeepsAlarms s (l.foldl f s) :=
  foldl_keeps (P := fun u => KeepsAlarms s u) (fun u x h => h.trans (hf u x)) l s (keepsAlarms_refl s)

theorem keepsAlarms_of_eq {s u : State} (h : u.alarms = s.alarms) : KeepsAlarms s u := fun ev k _ _ _ => alarmOn_eq h ev k

theorem OnlyDone.keepsAlarms {s u : State} (h : OnlyDone s u) : KeepsAlarms s u := fun ev k hf hj _ => h.alarm ev k hf hj

theorem keepsAlarms_event (s : State) (e : EvCode) (p : List Word) : KeepsAlarms s (s.event e p) := fun ev k hf _ _ => State.event_alarmOn s e p ev k hf

theorem keepsAlarms_abortBrakeTest (s : State) (b : Nat) : KeepsAlarms s (s.abortBrakeTest b) := by
  unfold State.abortBrakeTest
  split
  · exact keepsAlarms_refl s
  · exact KeepsAlarms.trans (keepsAlarms_of_eq rfl) (onlyDone_completeCmd _ _ _ _ _).keepsAlarms

theorem keepsAlarms_stopRecords (s : State) (x : SafeSt) : KeepsAlarms s (s.stopRecords x) := by
  have hrec (u : State) (p : Nat) : KeepsAlarms u (if ¬(x.pair p).stopped ∧ (u.safe.pair p).stopped then u.event .SAFE_STOP_EV [wN p]
      else if (x.pair p).stopped ∧ ¬(u.safe.pair p).stopped then u.event .SAFE_STOP_END [wN p] else u) :=
    keepsAlarms_ite (keepsAlarms_event u _ _) (keepsAlarms_ite (keepsAlarms_event u _ _) (keepsAlarms_refl u))
  refine (keepsAlarms_foldl hrec four s).trans (keepsAlarms_ite ?_ ?_)
  · intro ev k hf _ hs
    rw [State.raiseAlarm_alarmOn _ _ _ _ _ _ hf]
    simp [hs.symm]
  · intro ev k hf _ hs
    rw [State.clearAlarm_alarmOn _ _ _ _ _ hf]
    simp [hs.symm]

theorem keepsAlarms_abortDemanded (s : State) : KeepsAlarms s s.abortDemanded :=
  keepsAlarms_foldl (fun u b => keepsAlarms_ite (keepsAlarms_abortBrakeTest u b) (keepsAlarms_refl u)) four s

theorem keepsAlarms_judgeBoth (s : State) : KeepsAlarms s s.judgeBoth.noteDiffer := keepsAlarms_of_eq rfl

theorem keepsAlarms_safeBoth (s : State) : KeepsAlarms s s.safeBoth := by
  rw [safeBoth_eq]
  exact ((keepsAlarms_abortDemanded s).trans (keepsAlarms_judgeBoth _)).trans (keepsAlarms_stopRecords _ _)

theorem keepsAlarms_whatifDone (s : State) (w : WhatIf) (st : Nat) (r : CaseRes) : KeepsAlarms s (s.whatifDone w st r) :=
  (keepsAlarms_of_eq rfl : KeepsAlarms s { s with
    cqa := { s.cqa with whatif := s.cqa.whatif.filter (fun x => ¬(x.session = w.session ∧ x.seq = w.seq)) } }).trans
    (onlyDone_completeCmd _ _ _ _ _).keepsAlarms

theorem keepsAlarms_whatifAbort (s : State) : KeepsAlarms s s.whatifAbort := keepsAlarms_foldl (fun u w => keepsAlarms_whatifDone u w _ _) _ s

theorem keepsAlarms_leaveMode (s : State) : KeepsAlarms s s.leaveMode := by
  unfold State.leaveMode
  split
  · exact KeepsAlarms.trans (keepsAlarms_of_eq rfl) (keepsAlarms_whatifAbort _)
  · exact keepsAlarms_whatifAbort s
  · exact keepsAlarms_refl s

theorem keepsAlarms_satRetain (s : State) : KeepsAlarms s s.satRetain := by
  unfold State.satRetain State.satWrite
  dsimp only
  exact keepsAlarms_ite (keepsAlarms_refl s) (keepsAlarms_of_eq rfl)

theorem keepsAlarms_setMode (s : State) (m : Mode) (c : Nat) : KeepsAlarms s (s.setMode m c) := by
  unfold State.setMode
  split
  · exact keepsAlarms_refl s
  · extract_lets old v _ w
    have hin : KeepsAlarms v (v.inMode m) := keepsAlarms_of_eq rfl
    have hw : KeepsAlarms s w := ((keepsAlarms_leaveMode s).trans hin).trans (keepsAlarms_event _ _ _)
    have hlearn : KeepsAlarms w w.learnSave := keepsAlarms_of_eq rfl
    exact keepsAlarms_ite (keepsAlarms_ite ((hw.trans hlearn).trans (keepsAlarms_satRetain _)) (hw.trans hlearn)) hw

end Sys2Proof.Machine
end

section
/-!
PROOF. The start test of D4 and D5, the brake tests, and the safety technologies together (R424, R425, R435–R437, R443, R453).
-/
namespace Sys2Proof.Machine

/-! ### The start test, R425, R443 -/

/-- What both technologies start from: no fault, the confirmed set, the token of this instant. R425. -/
def SafeSt.begin (x : SafeSt) (now : Nat) (back : Bool) : SafeSt := { x with
  pHealthy := true, lHealthy := true, startDue := false, safeStop := x.safeStop && !back, tokenAt := now, differSince := none, encSpeed := []
  slBank := (x.confirmed.map slBytes).getD [], slPending := (x.pendingSet.map slBytes).getD []
  brk := x.brk.map (fun (k : Brake) => { k with hoursAt := now }) }

/-- Whether the start ends a SAFE-STOP that R425 made. -/
def State.stopOver (s : State) : Bool := s.safe.safeStop && s.sys.safeStopBy = 0

/-- Both technologies as they start. -/
def State.begun (s : State) : State := s.modSafe (fun x => x.begin s.now s.stopOver)

/-- Both technologies started, before the mode follows. -/
def State.started (s : State) : State := (s.begun.judgeBoth.noteDiffer.stopRecords s.safe).clearAlarm .SAFE_PATH_FAULT

theorem safeStart_eq (s : State) :
    s.safeStart = if s.stopOver ∧ s.started.sys.mode = .safeStop then s.started.setMode .standby 24 else s.started := rfl

theorem calm_startTail (s : State) (x : SafeSt) : Calm s ((s.noteDiffer.stopRecords x).clearAlarm .SAFE_PATH_FAULT) :=
  (calm_after s x).trans (onlyLog_clearAlarm _ _ _).calm

/-- From `s` to `u` the safety section is as before but for its brakes and what notes their difference, and the alarms stand. -/
structure SafeSame (s u : State) : Prop where
  now : u.now = s.now
  safe : ∃ b d, u.safe = { s.safe with brk := b, differSince := d }
  alarms : KeepsAlarms s u

theorem SafeSame.shut {s u : State} (h : SafeSame s u) {p : Nat} (hs : s.Shut p) : u.Shut p := by
  obtain ⟨_, _, h⟩ := h.safe
  unfold State.Shut at *
  rw [h]
  exact hs

theorem safeSame_safeStart (s : State) : SafeSame s.started s.safeStart := by
  rw [safeStart_eq]
  split
  · obtain ⟨hnow, -, -, hsafe, -⟩ := setMode_calm s.started .standby 24
    exact ⟨hnow, hsafe, keepsAlarms_setMode _ _ _⟩
  · exact ⟨rfl, ⟨_, _, rfl⟩, keepsAlarms_refl _⟩

/-- What both technologies have after a start that passes. R425. -/
structure Begun (s u : State) : Prop where
  now : u.now = s.now
  pHealthy : u.safe.pHealthy = true
  lHealthy : u.safe.lHealthy = true
  startDue : u.safe.startDue = false
  confirmed : u.safe.confirmed = s.safe.confirmed
  tokenAt : u.safe.tokenAt = s.now
  slBank : u.safe.slBank = (s.safe.confirmed.map slBytes).getD []
  sts : u.safe.sts.length = s.safe.sts.length
  alarm : u.alarmOn .SAFE_PATH_FAULT = false

theorem judged_started (s : State) : Judged s.begun s.started :=
  (judged_judgeBoth s.begun).trans (calm_startTail s.begun.judgeBoth s.safe).judged

theorem begun_safeStart (s : State) : Begun s s.safeStart := by
  obtain ⟨hnow, -, -, hsts, i, t, b, l, d, hsafe⟩ := judged_started s
  obtain ⟨hnow', ⟨b', d', hsafe'⟩, halarms⟩ := safeSame_safeStart s
  have hall : s.safeStart.safe = { s.begun.safe with ins := i, sts := t, brk := b', slt := l, differSince := d' } := by rw [hsafe', hsafe]
  have hlen : s.safeStart.safe.sts.length = s.safe.sts.length := by
    rw [hsafe']
    exact hsts
  refine ⟨hnow'.trans hnow, by rw [hall]; rfl, by rw [hall]; rfl, by rw [hall]; rfl, by rw [hall]; rfl, by rw [hall]; rfl, by rw [hall]; rfl, hlen, ?_⟩
  rw [halarms _ _ (by decide) (by decide) (by decide)]
  exact clearAlarm_off _ _ _ (by decide)

/-- Without a confirmed set a start leaves every pair shut. R443. -/
theorem safeStart_shuts {s : State} (hnone : s.safe.confirmed = none) (hsts : s.safe.sts.length = 4) {p : Nat} (h1 : 1 ≤ p) (h4 : p ≤ 4) :
    s.safeStart.Shut p := by
  have hforced : s.begun.safe.Forced p := ⟨show p - 1 < s.safe.sts.length by omega, Or.inr (Or.inl hnone)⟩
  exact (safeSame_safeStart s).shut ((calm_startTail _ _).shut (judgeBoth_shuts h1 h4 hforced).2)

/-! ### An output fault of a pair, R441 -/

/-- Pair `p` is one of the section's and faulted. -/
def SafeSt.FaultIn (p : Nat) (x : SafeSt) : Prop := p - 1 < x.sts.length ∧ (x.pair p).faulted = true

theorem SafeSt.FaultIn.forced {x : SafeSt} {p : Nat} (h : x.FaultIn p) : x.Forced p := ⟨h.1, Or.inr (Or.inr h.2)⟩

theorem faultIn_modPair {x : SafeSt} {p : Nat} (h : x.FaultIn p) (q : Nat) {f : StsPair → StsPair}
    (hf : ∀ y : StsPair, y.faulted = true → (f y).faulted = true) : (x.modPair q f).FaultIn p :=
  ⟨by simpa [SafeSt.modPair] using h.1, pair_modPair_keeps (P := fun z => z.faulted = true) h.1 q hf h.2⟩

theorem faultIn_evalPair {x : SafeSt} {p : Nat} (now q : Nat) (h : x.FaultIn p) : (x.evalPair now q).FaultIn p := faultIn_modPair h q (fun _ h => h)

theorem faultIn_eval {x : SafeSt} {p : Nat} (h : x.FaultIn p) (now : Nat) : (x.eval now).FaultIn p := by
  have hslt := foldl_keeps (P := SafeSt.FaultIn p) (f := fun x j => x.evalSlt j) (fun _ _ h => h) four x.noteDemands h
  have hpair := foldl_keeps (P := SafeSt.FaultIn p) (f := fun x p => x.evalPair now p) (fun _ q hy => faultIn_evalPair now q hy) four _ hslt
  exact foldl_keeps (P := SafeSt.FaultIn p) (f := fun x b => x.evalBrake now b) (fun _ _ h => h) four _ hpair

theorem faultIn_driveL {x : SafeSt} {p : Nat} (h : x.FaultIn p) : x.driveL.FaultIn p := by
  have hpairs := foldl_keeps (P := SafeSt.FaultIn p)
    (f := fun x p => x.modPair p (fun q => { q with gateL := [x.pairOn p && x.lHealthy, x.pairOn p && x.lHealthy] }))
    (fun _ q hy => by exact faultIn_modPair hy q (fun _ h => h)) four x h
  exact foldl_keeps (P := SafeSt.FaultIn p) (f := fun x b => x.modBrake b (fun k => { k with gatesL := !k.isSet && x.lHealthy }))
    (fun _ _ h => h) four _ hpairs

theorem faultIn_driveP {x : SafeSt} {p : Nat} (h : x.FaultIn p) : x.driveP.FaultIn p := by
  have hpairs := foldl_keeps (P := SafeSt.FaultIn p)
    (f := fun x p => x.modPair p (fun q => { q with gateP := [x.pairOn p && x.pHealthy, x.pairOn p && x.pHealthy] }))
    (fun _ q hy => by exact faultIn_modPair hy q (fun _ h => h)) four x h
  exact foldl_keeps (P := SafeSt.FaultIn p) (f := fun x b => x.modBrake b (fun k => { k with gatesP := !k.isSet && x.pHealthy }))
    (fun _ _ h => h) four _ hpairs

theorem Calm.faultIn {s u : State} (h : Calm s u) {p : Nat} (hf : s.safe.FaultIn p) : u.safe.FaultIn p := by
  unfold SafeSt.FaultIn at *
  rw [h.pair, h.sts]
  exact hf

theorem faultIn_safeBoth {s : State} {p : Nat} (h : s.safe.FaultIn p) : s.safeBoth.safe.FaultIn p := by
  rw [safeBoth_eq]
  have hjudged : s.abortDemanded.judgeBoth.safe.FaultIn p := faultIn_driveP (faultIn_driveL (faultIn_eval ((calm_abortDemanded s).faultIn h) _))
  exact (calm_after _ _).faultIn hjudged

/-- Pair `p` has an output fault: it is one of the section's and faulted, it is shut, and the alarm stands. R441. -/
structure PairFault (p : Nat) (u : State) : Prop where
  faultIn : u.safe.FaultIn p
  shut : u.Shut p
  alarm : u.alarmOn .SAFE_FAULT = true

/-- The fault of pair `q` noted and recorded, before it is answered. -/
def State.stsNoted (s : State) (q which : Nat) : State := (s.modSafe (fun x => x.modPair q (fun y => { y with faulted := true }))).safetyFault 3 which

theorem stsFault_eq (s : State) (q which : Nat) : s.stsFault q which = (s.stsNoted q which).safeBoth := rfl

theorem stsNoted_alarm (s : State) (q which : Nat) : (s.stsNoted q which).alarmOn .SAFE_FAULT = true := raiseAlarm_on _ _ _ (by decide)

theorem stsFault_faults {s : State} {p : Nat} (q which : Nat) (h1 : 1 ≤ p) (h4 : p ≤ 4) (h : (s.stsNoted q which).safe.FaultIn p) :
    PairFault p (s.stsFault q which) := by
  rw [stsFault_eq]
  exact ⟨faultIn_safeBoth h, (safeBoth_shuts h1 h4 h.forced).2,
    (keepsAlarms_safeBoth _ _ _ (by decide) (by decide) (by decide)).trans (stsNoted_alarm s q which)⟩

theorem stsNoted_same {s : State} {p which : Nat} (hlt : p - 1 < s.safe.sts.length) : (s.stsNoted p which).safe.FaultIn p := by
  refine (calm_safetyFault _ _ _).faultIn ⟨by simpa [State.modSafe, SafeSt.modPair] using hlt, ?_⟩
  exact congrArg StsPair.faulted (pair_modPair hlt _)

theorem stsNoted_keeps {s : State} {p : Nat} (q which : Nat) (h : s.safe.FaultIn p) : (s.stsNoted q which).safe.FaultIn p :=
  (calm_safetyFault _ _ _).faultIn (faultIn_modPair h q (fun _ _ => rfl))

theorem stsFault_sts (s : State) (q which : Nat) : (s.stsFault q which).safe.sts.length = s.safe.sts.length := by
  rw [stsFault_eq, (judged_safeBoth _).sts, State.stsNoted, (calm_safetyFault _ _ _).sts]
  simp [State.modSafe, SafeSt.modPair]

/-- The channels of a mask that fail their off-pulse: each pair named ends faulted and shut. R441, R443. -/
theorem startPulses_faults {s : State} (hsts : s.safe.sts.length = 4) {mask p : Nat} {c : Bool} (h1 : 1 ≤ p) (h4 : p ≤ 4)
    (hbit : mask.testBit (2 * (p - 1) + b2n c) = true) : PairFault p (s.startPulses mask) := by
  have hc : b2n c ≤ 1 := by cases c <;> decide
  refine foldl_reaches (P := fun u : State => u.safe.sts.length = 4) (Q := PairFault p) (a := 2 * (p - 1) + b2n c) (fun u i hu => ?_) (fun u hu => ?_)
    (fun u i _ hq => ?_) (List.range 8) (List.mem_range.2 (by omega)) s hsts
  · split
    · rw [stsFault_sts, hu]
    · exact hu
  · rw [if_pos hbit, show (2 * (p - 1) + b2n c) / 2 + 1 = p by omega]
    exact stsFault_faults _ _ h1 h4 (stsNoted_same (by omega))
  · split
    · exact stsFault_faults _ _ h1 h4 (stsNoted_keeps _ _ hq.faultIn)
    · exact hq

theorem startPulses_none (s : State) : s.startPulses 0 = s :=
  foldl_keeps (P := fun u => u = s) (fun u i h => by simp [h]) (List.range 8) s rfl

/-! ### Brake tests, R436, R437 -/

/-- A brake without a test is left by the tests that end. -/
theorem abortBrakeTest_brake {s : State} {b : Nat} (c : Nat) {P : Brake → Prop} (hP : ∀ k, P k → k.test = none) (h : s.safe.BrakeIs P b) :
    (s.abortBrakeTest c).safe.BrakeIs P b := by
  unfold State.abortBrakeTest
  split
  · exact h
  · next y hy =>
    rw [(onlyDone_completeCmd _ _ _ _ _).safe]
    refine brakeIs_modBrake h (fun heq => ?_)
    rw [brake_congr heq, hP _ h.2] at hy
    exact absurd hy (by simp)

theorem abortDemanded_brake {s : State} {b : Nat} {P : Brake → Prop} (hP : ∀ k, P k → k.test = none) (h : s.safe.BrakeIs P b) :
    s.abortDemanded.safe.BrakeIs P b := by
  refine foldl_keeps (P := fun u : State => u.safe.BrakeIs P b) (fun u c hu => ?_) four s h
  exact iteInduction (motive := fun v : State => v.safe.BrakeIs P b) (fun _ => abortBrakeTest_brake c hP hu) (fun _ => hu)

theorem after_brake {s : State} {b : Nat} {P : Brake → Prop} (x : SafeSt) (h : s.safe.BrakeIs P b) : (s.noteDiffer.stopRecords x).safe.BrakeIs P b := by
  rw [(onlyLog_stopRecords _ x).safe]
  exact h

/-- What both evaluations and their drives keep of a brake without a test. -/
theorem safeBoth_brake {s : State} {b : Nat} {P Q : Brake → Prop} (hP : ∀ k, P k → k.test = none) (h : s.safe.BrakeIs P b)
    (heval : ∀ x now, now = s.now → SafeSt.BrakeIs P b x → SafeSt.BrakeIs Q b (x.eval now)) (hL : ∀ k g, Q k → Q { k with gatesL := g })
    (hPg : ∀ k g, Q k → Q { k with gatesP := g }) : s.safeBoth.safe.BrakeIs Q b := by
  rw [safeBoth_eq]
  exact after_brake _ (drive_brakeIs hL hPg (heval _ _ (calm_abortDemanded s).now (abortDemanded_brake hP h)))

/-- The state of a brake whose test ends. R437. -/
def Brake.ended (k : Brake) (pass : Bool) (now : Nat) : Brake :=
  if pass then { k with test := none, failed := false, hoursNs := 0, hoursAt := now, overdue := false } else { k with test := none, failed := true }

/-- Whether both technologies measured a rotation within the brake's limit. R437. -/
def State.testPasses (s : State) (b : Nat) (rotP rotL : Rat) : Bool := absQ rotP ≤ s.safe.brkTestAng b && absQ rotL ≤ s.safe.brkTestAng b

/-- The end of a test recorded, before it is answered. -/
def State.testNoted (s : State) (b : Nat) (pass : Bool) : State :=
  if pass then
    (((s.modSafe (fun x => x.modBrake b (fun k => k.ended pass s.now))).event .BRAKE_TEST_PASS [wN b]).clearAlarm .BRAKE_TEST_OVERDUE b).clearAlarm
      .BRAKE_TEST_FAIL b
  else (s.modSafe (fun x => x.modBrake b (fun k => k.ended pass s.now))).raiseAlarm .BRAKE_TEST_FAIL b

theorem testEnd_eq {s : State} {b : Nat} {y : BrakeTest} (hy : (s.safe.brake b).test = some y) (rotP rotL : Rat) :
    s.testEnd b rotP rotL = (s.testNoted b (s.testPasses b rotP rotL)).safeBoth.completeCmd y.session y.seq stDone
      ([if s.testPasses b rotP rotL then 0 else 1, 0, 0, 0] ++ bF rotP ++ bF rotL) := by
  unfold State.testEnd
  rw [hy]
  rfl

theorem onlyLog_testNoted (s : State) (b : Nat) (pass : Bool) :
    OnlyLog (s.modSafe (fun x => x.modBrake b (fun k => k.ended pass s.now))) (s.testNoted b pass) :=
  onlyLog_ite (onlyLog_trans (onlyLog_trans (onlyLog_event _ _ _) (onlyLog_clearAlarm _ _ _)) (onlyLog_clearAlarm _ _ _)) (onlyLog_raiseAlarm _ _ _ _)

theorem testNoted_brake {s : State} {b : Nat} (hlt : b - 1 < s.safe.brk.length) {pass : Bool} {P : Brake → Prop}
    (h : P ((s.safe.brake b).ended pass s.now)) : (s.testNoted b pass).safe.BrakeIs P b := by
  rw [(onlyLog_testNoted s b pass).safe]
  refine ⟨by simpa [State.modSafe, SafeSt.modBrake] using hlt, ?_⟩
  exact (congrArg P (brake_modBrake hlt _)).mpr h

/-- A test that passes leaves the brake without a test, a failure or released hours. R437. -/
theorem testEnd_passes {s : State} {b : Nat} (hlt : b - 1 < s.safe.brk.length) {y : BrakeTest} (hy : (s.safe.brake b).test = some y) {rotP rotL : Rat}
    (hpass : s.testPasses b rotP rotL = true) : (s.testEnd b rotP rotL).safe.BrakeIs (Brake.Passed s.now) b := by
  rw [testEnd_eq hy, (onlyDone_completeCmd _ _ _ _ _).safe, hpass]
  have hnow : (s.testNoted b true).now = s.now := (onlyLog_testNoted s b true).now
  refine safeBoth_brake (P := Brake.Passed s.now) (fun _ h => h.1) (testNoted_brake hlt ⟨rfl, rfl, rfl, rfl, rfl⟩) ?_ (fun _ _ h => h) (fun _ _ h => h)
  intro x now hat hx
  rw [hat, hnow]
  exact eval_brakeIs (fun _ c => evalBrake_passed c) hx

/-- A test that fails leaves the brake failed and set, with its alarm. R437. -/
theorem testEnd_fails {s : State} {b : Nat} (h1 : 1 ≤ b) (h4 : b ≤ 4) (hlt : b - 1 < s.safe.brk.length) {y : BrakeTest}
    (hy : (s.safe.brake b).test = some y) {rotP rotL : Rat} (hfail : s.testPasses b rotP rotL = false) :
    (s.testEnd b rotP rotL).safe.BrakeIs (fun k => Brake.Failed k ∧ k.isSet = true) b ∧ (s.testEnd b rotP rotL).alarmOn .BRAKE_TEST_FAIL b = true := by
  rw [testEnd_eq hy, hfail]
  constructor
  · rw [(onlyDone_completeCmd _ _ _ _ _).safe]
    exact safeBoth_brake (P := Brake.Failed) (fun _ h => h.1) (testNoted_brake hlt ⟨rfl, rfl⟩) (fun _ _ _ hx => eval_sets h1 h4 hx) (fun _ _ h => h)
      (fun _ _ h => h)
  · rw [(onlyDone_completeCmd _ _ _ _ _).alarm _ _ (by decide) (by decide), keepsAlarms_safeBoth _ _ _ (by decide) (by decide) (by decide)]
    exact raiseAlarm_on _ _ _ (by decide)

theorem testAt_some {s : State} {b ph d : Nat} {y : BrakeTest} (hy : (s.safe.brake b).test = some y) (hph : y.phase = ph) (hd : y.t0 + d ≤ s.now) :
    s.testAt b ph d = true := by
  unfold State.testAt
  rw [hy]
  simp [hph, State.past, hd]

theorem testAt_none {s : State} {b : Nat} (hy : (s.safe.brake b).test = none) (ph d : Nat) : ¬s.testAt b ph d = true := by
  unfold State.testAt
  rw [hy]
  exact Bool.false_ne_true

/-- How many pairs and brakes a state with every unit has. R430, R435. -/
theorem safe_lengths {s : State} (hs : s.Inv) : s.safe.sts.length = 4 ∧ s.safe.brk.length = 4 := by
  have k := hs.2
  simp only [State.sizes, unitSizes, SafeSt.sizes, List.cons.injEq, and_true] at k
  obtain ⟨-, -, -, -, -, -, -, -, -, -, -, -, -, hsts, hbrk, -⟩ := k
  exact ⟨hsts, hbrk⟩

/-- A cycle leaves of the section what is no unit's, beside the token and the speeds. R424. -/
theorem cycled_safe (s : State) (sp : List (Nat × Rat)) : ∃ i t b l d, (s.cycled sp).safe =
    { s.safe with tokenAt := s.now, encSpeed := sp, ins := i, sts := t, brk := b, slt := l, differSince := d } :=
  (judged_cycled s sp).safe

/-- BRAKE_TEST_OVERDUE stands as the released time says. R436. -/
theorem overdue_alarm (s : State) (b : Nat) : (s.overdue b).alarmOn .BRAKE_TEST_OVERDUE b =
    (decide (s.safe.brkTestInt b * 3600000000000 ≤ s.safe.releasedNs s.now b) && s.safe.brkUse b && s.safe.confirmed.isSome) := by
  unfold State.overdue
  extract_lets due
  unfold State.alarmIf
  show _ = due
  cases due with
  | true =>
    rw [if_pos rfl]
    exact raiseAlarm_on _ .BRAKE_TEST_OVERDUE b (by decide)
  | false =>
    rw [if_neg Bool.false_ne_true]
    exact clearAlarm_off _ .BRAKE_TEST_OVERDUE b (by decide)

/-- The section without a confirmed set. R443. -/
def State.unset (s : State) : State := s.modSafe (fun x => { x with confirmed := none })

/-- The section with its start test done. -/
def State.tested (s : State) : State := s.modSafe (fun x => { x with startDue := false })

section
variable {t mask : Nat} {s : State} (hd4 : s.dom 4 = true) (hd5 : s.dom 5 = true) (hdue : s.safe.startDue = true)
include hd4 hd5 hdue

theorem startTest_runs : ¬(¬(s.arrive t).dom 4 = true ∨ ¬(s.arrive t).dom 5 = true ∨ ¬(s.arrive t).safe.startDue = true) := by
  rintro (h | h | h)
  · exact h hd4
  · exact h hd5
  · exact h hdue

theorem startTest_ran (ok bank : Bool) : exec (.safetyStartTest t ok bank mask) s = .next (
    if bank then (if ok then s.arrive t else (s.arrive t).unset).safeStart.startPulses mask
    else (if ok then s.arrive t else (s.arrive t).unset).tested.techFault 2 true false) :=
  congrArg Host.Outcome.next (if_neg (startTest_runs hd4 hd5 hdue))

theorem startTest_unset : exec (.safetyStartTest t false true 0) s = .next (s.arrive t).unset.safeStart := by
  rw [startTest_ran hd4 hd5 hdue, if_pos rfl, if_neg Bool.false_ne_true, startPulses_none]

theorem startTest_bad : exec (.safetyStartTest t true false mask) s = .next ((s.arrive t).tested.techFault 2 true false) := by
  rw [startTest_ran hd4 hd5 hdue, if_neg Bool.false_ne_true, if_pos rfl]

theorem startTest_masked : exec (.safetyStartTest t true true mask) s = .next ((s.arrive t).safeStart.startPulses mask) := by
  rw [startTest_ran hd4 hd5 hdue, if_pos rfl, if_pos rfl]

theorem startTest_passed : exec (.safetyStartTest t true true 0) s = .next (s.arrive t).safeStart := by
  rw [startTest_masked hd4 hd5 hdue, startPulses_none]

end

/-- A start without a valid confirmed set. R443. -/
theorem unset_starts {s : State} (hsts : s.safe.sts.length = 4) :
    s.unset.safeStart.safe.confirmed = none ∧ s.unset.safeStart.safe.startDue = false ∧
      ∀ p c, 1 ≤ p → p ≤ 4 → (s.unset.safeStart.safe.pair p).stopped = true ∧ s.unset.safeStart.safe.energised p c = false :=
  ⟨(begun_safeStart _).confirmed, (begun_safeStart _).startDue, fun _ c h1 h4 => (safeStart_shuts (s := s.unset) rfl hsts h1 h4).stopped c⟩

/-- A start whose register set does not read back. R425. -/
theorem badBank_faults {s : State} (hsts : s.safe.sts.length = 4) (hkeep : s.sys.mode ≠ .keep) :
    (s.tested.techFault 2 true false).sys.mode = .safeStop ∧ (s.tested.techFault 2 true false).safe.lHealthy = false ∧
      (s.tested.techFault 2 true false).safe.safeStop = true ∧ (s.tested.techFault 2 true false).red.commanding = false := by
  have hfault := techFault_faulted (s := s.tested) hsts hkeep 2 (byP := true) (byL := false) (Or.inl rfl)
  exact ⟨hfault.mode, hfault.lHealthy.trans (Bool.and_false _), hfault.safeStop, hfault.off⟩

/-- A start at which a channel fails its off-pulse. R441, R443. -/
theorem masked_faults {s : State} (hsts : s.safe.sts.length = 4) {mask p : Nat} {c : Bool} (h1 : 1 ≤ p) (h4 : p ≤ 4)
    (hbit : mask.testBit (2 * (p - 1) + b2n c) = true) :
    ((s.safeStart.startPulses mask).safe.pair p).faulted = true ∧ ((s.safeStart.startPulses mask).safe.pair p).stopped = true ∧
      (s.safeStart.startPulses mask).safe.energised p c = false ∧ (s.safeStart.startPulses mask).alarmOn .SAFE_FAULT = true := by
  have hfault := startPulses_faults (s := s.safeStart) ((begun_safeStart s).sts.trans hsts) h1 h4 hbit
  exact ⟨hfault.faultIn.2, (hfault.shut.stopped c).1, (hfault.shut.stopped c).2, hfault.alarm⟩

/-- A start that passes. R425. -/
theorem safeStart_passes (s : State) :
    s.safeStart.safe.pHealthy = true ∧ s.safeStart.safe.lHealthy = true ∧ s.safeStart.safe.startDue = false ∧ s.safeStart.safe.tokenAt = s.now ∧
      s.safeStart.safe.slBank = (s.safe.confirmed.map slBytes).getD [] ∧ s.safeStart.alarmOn .SAFE_PATH_FAULT = false := by
  have hbegun := begun_safeStart s
  exact ⟨hbegun.pHealthy, hbegun.lHealthy, hbegun.startDue, hbegun.tokenAt, hbegun.slBank, hbegun.alarm⟩

/-- Settles O49: each fault of a technology shuts every pair through SAFE-STOP. -/
theorem safetyTechnologies : Obligations.SafetyTechnologies := by
  unfold Obligations.SafetyTechnologies
  intro t b rp rl sp s hs
  have hsts : (s.arrive t).safe.sts.length = 4 := (safe_lengths hs).1
  have hbrk (h1 : 1 ≤ b) (h4 : b ≤ 4) : b - 1 < (s.arrive t).safe.brk.length := by
    have hlen : (s.arrive t).safe.brk.length = 4 := (safe_lengths hs).2
    omega
  refine ⟨?_, ?_, ?_, ?_, ?_, ?_, ?_, ?_, ?_, ?_, ?_, ?_, ?_, ?_, ?_, ?_, ?_, ?_, ?_, ?_⟩
  · intro hp hbank
    obtain ⟨i, t', b', l, d, hsafe⟩ := cycled_safe (s.arrive t) sp
    have hright : (s.arrive t).safePCycle sp = (s.arrive t).cycled sp := by
      refine safePCycle_right (fun c hc => ?_)
      rw [hsafe] at hc ⊢
      exact hbank c hc
    refine ⟨_, congrArg Host.Outcome.next ((if_pos hp).trans hright), ?_, ?_, (judged_cycled _ sp).mode⟩
    · rw [hsafe]
      rfl
    · rw [hsafe]
  · intro c hp hc hbank hdom hl hkeep
    obtain ⟨i, t', b', l, d, hsafe⟩ := cycled_safe (s.arrive t) sp
    have hwrong : (s.arrive t).safePCycle sp = ((s.arrive t).cycled sp).techFault 2 true false := by
      refine safePCycle_wrong (c := c) ?_ ?_ ?_ ?_
      · rw [hsafe]
        exact hc
      · rw [hsafe]
        exact hbank
      · rw [State.dom, (judged_cycled _ sp).keep]
        exact hdom
      · rw [hsafe]
        exact hl
    have hfault := techFault_faulted (s := (s.arrive t).cycled sp) ((judged_cycled _ sp).sts.trans hsts) (by rw [(judged_cycled _ sp).mode]; exact hkeep)
      2 (byP := true) (byL := false) (Or.inl rfl)
    exact ⟨_, congrArg Host.Outcome.next ((if_pos hp).trans hwrong), hfault.mode, hfault.safeStop, hfault.off⟩
  · intro hp
    exact congrArg Host.Outcome.next (if_neg (Bool.eq_false_iff.1 hp))
  · intro hdom hl hdue hkeep
    have hfault := techFault_faulted hsts hkeep 1 (byP := false) (byL := true) (Or.inr rfl)
    exact ⟨_, congrArg Host.Outcome.next (if_pos ⟨hdom, hl, decide_eq_true hdue⟩), hfault.mode, hfault.safeStop, hfault.off,
      hfault.pHealthy.trans (Bool.and_false _), fun p c h1 h4 => (hfault.shut p h1 h4).stopped c⟩
  · intro hearly
    exact congrArg Host.Outcome.next (if_neg (fun h => absurd (of_decide_eq_true h.2.2) (Nat.not_le.2 hearly)))
  · intro a hup hsince hdue hkeep
    have hfault := techFault_faulted hsts hkeep 3 (byP := true) (byL := true) (Or.inl rfl)
    have hsame : OnlyLog ((s.arrive t).techFault 3 true true) (((s.arrive t).techFault 3 true true).raiseAlarm .SAFE_PATH_FAULT) :=
      onlyLog_raiseAlarm _ _ _ _
    exact ⟨_, congrArg Host.Outcome.next (if_pos ⟨hup, held_some hsince hdue⟩), raiseAlarm_on _ _ _ (by decide), hsame.calm.mode.trans hfault.mode,
      hsame.calm.safeStop.trans hfault.safeStop, hsame.calm.commanding.trans hfault.off,
      fun p c h1 h4 => (hsame.calm.shut (hfault.shut p h1 h4)).stopped c⟩
  · intro hnone
    exact congrArg Host.Outcome.next (if_neg (fun h => held_none hnone h.2))
  · intro hdom hkeep
    have hfault := techFault_faulted hsts hkeep 0 (byP := false) (byL := true) (Or.inr rfl)
    exact ⟨_, congrArg Host.Outcome.next (if_pos hdom), hfault.mode, hfault.safeStop, hfault.off, fun p c h1 h4 => (hfault.shut p h1 h4).stopped c⟩
  · intro hdom
    exact congrArg Host.Outcome.next (if_neg (Bool.eq_false_iff.1 hdom))
  · intro hd4 hd5 hdue
    exact ⟨⟨_, startTest_unset hd4 hd5 hdue, unset_starts hsts⟩, fun hkeep mask => ⟨_, startTest_bad hd4 hd5 hdue, badBank_faults hsts hkeep⟩,
      fun mask p c h1 h4 hbit => ⟨_, startTest_masked hd4 hd5 hdue, masked_faults hsts h1 h4 hbit⟩, ⟨_, startTest_passed hd4 hd5 hdue, safeStart_passes _⟩⟩
  · intro ok bank mask hdue
    exact congrArg Host.Outcome.next (if_pos (Or.inr (Or.inr (Bool.eq_false_iff.1 hdue))))
  · intro hb
    have hout : between 1 b 4 = false := Bool.eq_false_iff.2 (fun h => by
      have := between_iff.1 h
      omega)
    exact ⟨guardUnit_out hout, guardUnit_out hout, guardUnit_out hout, guardUnit_out hout⟩
  · intro h1 h4 huse hconf
    have huse' : (s.arrive t).safe.brkUse b = true := huse
    have hconf' : (s.arrive t).safe.confirmed.isSome = true := hconf
    refine ⟨_, guardUnit_in (between_iff.2 ⟨h1, h4⟩), ?_⟩
    rw [overdue_alarm, huse', hconf', Bool.and_true, Bool.and_true]
    exact decide_eq_true_iff
  · intro y h1 h4 hy hph hd
    exact guardUnit_next (between_iff.2 ⟨h1, h4⟩) (if_pos (testAt_some (s := s.arrive t) hy hph hd))
  · intro y h1 h4 hy hph hd
    exact guardUnit_next (between_iff.2 ⟨h1, h4⟩) (if_pos (testAt_some (s := s.arrive t) hy hph hd))
  · intro h1 h4 hy
    have hin := between_iff.2 ⟨h1, h4⟩
    exact ⟨guardUnit_next hin (if_neg (testAt_none (s := s.arrive t) hy _ _)), guardUnit_next hin (if_neg (testAt_none (s := s.arrive t) hy _ _)),
      guardUnit_next hin (if_neg (testAt_none (s := s.arrive t) hy _ _))⟩
  · intro y h1 h4 hy hph hd hrp hrl
    have hpass : (s.arrive t).testPasses b rp rl = true :=
      Bool.and_eq_true_iff.2 ⟨decide_eq_true hrp, decide_eq_true hrl⟩
    obtain ⟨-, htest, hfailed, hover, hns, -⟩ := testEnd_passes (s := s.arrive t) (hbrk h1 h4) hy hpass
    refine ⟨_, guardUnit_next (between_iff.2 ⟨h1, h4⟩) (if_pos (testAt_some (s := s.arrive t) hy hph hd)), htest, hfailed, hns, hover, ?_⟩
    rw [testEnd_eq (s := s.arrive t) hy]
    exact completeCmd_accepted _ _ _ _ _
  · intro y h1 h4 hy hph hd hrp
    have hfail : (s.arrive t).testPasses b rp rl = false :=
      Bool.and_eq_false_iff.2 (Or.inl (decide_eq_false (Rat.not_le.2 hrp)))
    obtain ⟨⟨-, ⟨htest, hfailed⟩, hset⟩, halarm⟩ := testEnd_fails (s := s.arrive t) h1 h4 (hbrk h1 h4) hy hfail
    refine ⟨_, guardUnit_next (between_iff.2 ⟨h1, h4⟩) (if_pos (testAt_some (s := s.arrive t) hy hph hd)), htest, hfailed, hset, halarm, ?_⟩
    rw [testEnd_eq (s := s.arrive t) hy]
    exact completeCmd_accepted _ _ _ _ _
  · intro hcan
    exact congrArg Host.Outcome.next (if_pos hcan)
  · intro hcan
    exact congrArg Host.Outcome.next (if_neg (Bool.eq_false_iff.1 hcan))

end Sys2Proof.Machine
end

section
/-!
PROOF. What the hold engine, the DMA engine and the ends of their work leave alone (R19, R220, R227, R502, R512): the time, KEEP, the mode, the
redundancy state, the parameters, and the partition while no start of it is due. The proofs of the partition and of the restarts cite this.
-/
namespace Sys2Proof.Machine

/-- From `s` to `u` the time, KEEP, the mode, the redundancy state and the parameters are as before, and so is the partition while no start is due. -/
structure Still (s u : State) : Prop where
  now : u.now = s.now
  keep : u.keep = s.keep
  sys : u.sys = s.sys
  red : u.red = s.red
  cfg : u.cfg = s.cfg
  part : s.part.startDue = none → u.part = s.part

theorem still_refl (s : State) : Still s s := ⟨rfl, rfl, rfl, rfl, rfl, fun _ => rfl⟩

theorem Still.trans {s u v : State} (h : Still s u) (h' : Still u v) : Still s v :=
  ⟨h'.now.trans h.now, h'.keep.trans h.keep, h'.sys.trans h.sys, h'.red.trans h.red, h'.cfg.trans h.cfg,
    fun hp => (h'.part (by rw [h.part hp]; exact hp)).trans (h.part hp)⟩

/-- The same, of a change before the part that is known. -/
theorem Still.after {s u v : State} (h' : Still u v) (h : Still s u) : Still s v := h.trans h'

theorem still_ite {s a b : State} {c : Prop} [Decidable c] (ha : Still s a) (hb : Still s b) : Still s (if c then a else b) := by
  split
  · exact ha
  · exact hb

theorem still_foldl {α : Type} {f : State → α → State} (hf : ∀ u x, Still u (f u x)) (l : List α) (s : State) : Still s (l.foldl f s) := by
  induction l generalizing s with
  | nil => exact still_refl s
  | cons x l ih => exact (hf s x).trans (ih _)

theorem OnlyLog.still {s u : State} (h : OnlyLog s u) : Still s u := by
  obtain ⟨_, _, rfl⟩ := h
  exact ⟨rfl, rfl, rfl, rfl, rfl, fun _ => rfl⟩

theorem OnlyDone.still {s u : State} (h : OnlyDone s u) : Still s u := by
  obtain ⟨⟨_, _, _, _, _, rfl⟩, -⟩ := h
  exact ⟨rfl, rfl, rfl, rfl, rfl, fun _ => rfl⟩

theorem OnlyBytes.still {s u : State} (h : OnlyBytes s u) : Still s u := by
  obtain ⟨_, _, _, rfl⟩ := h
  exact ⟨rfl, rfl, rfl, rfl, rfl, fun _ => rfl⟩

theorem still_completeCmd (s : State) (n seq st : Nat) (p : List Byte) : Still s (s.completeCmd n seq st p) := (onlyDone_completeCmd s n seq st p).still

theorem still_modCl (s : State) (i : Nat) (f : HenCluster → HenCluster) : Still s (s.modCl i f) := by
  unfold State.modCl
  split
  · exact ⟨rfl, rfl, rfl, rfl, rfl, fun _ => rfl⟩
  · exact ⟨rfl, rfl, rfl, rfl, rfl, fun _ => rfl⟩

theorem still_modHq (s : State) (q : Nat) (f : HenQueue → HenQueue) : Still s (s.modHq q f) := ⟨rfl, rfl, rfl, rfl, rfl, fun _ => rfl⟩

/-! ### The hold engine -/

theorem still_putResult (s : State) (q id idx : Nat) (r : ProbRes) : Still s (s.putResult q id idx r) := by
  unfold State.putResult
  split
  · exact still_refl s
  · exact still_ite ⟨rfl, rfl, rfl, rfl, rfl, fun _ => rfl⟩ ⟨rfl, rfl, rfl, rfl, rfl, fun _ => rfl⟩

theorem still_deliver (s : State) (q : Nat) (j : HenJob) (d : HenDone) : Still s (s.deliver q j d) := by
  unfold State.deliver
  split
  · exact still_modHq s q _
  · exact still_modHq s q _
  · exact still_modHq s q _
  · exact still_completeCmd _ _ _ _ _
  · exact ⟨rfl, rfl, rfl, rfl, rfl, fun _ => rfl⟩

theorem still_countTrunc (s : State) : Still s s.countTrunc := still_ite (still_refl s) ⟨rfl, rfl, rfl, rfl, rfl, fun _ => rfl⟩

theorem still_completeJob (s : State) (q id jstat rest : Nat) (cancel : Bool) : Still s (s.completeJob q id jstat rest cancel) := by
  unfold State.completeJob
  split
  · exact still_refl s
  · extract_lets missing u
    have hu : Still s u := still_foldl (fun v i => still_putResult v _ _ _ _) missing s
    split
    · exact hu
    · extract_lets d irq v _ w x y
      have hw : Still u w := ⟨rfl, rfl, rfl, rfl, rfl, fun _ => rfl⟩
      have hx : Still w x := still_ite (still_countTrunc w) (still_refl w)
      have hy : Still x y := still_ite ⟨rfl, rfl, rfl, rfl, rfl, fun _ => rfl⟩ (still_refl x)
      exact (((hu.trans hw).trans hx).trans hy).trans (still_deliver y _ _ _)

theorem still_checkJob (s : State) (q id : Nat) : Still s (s.checkJob q id) := by
  unfold State.checkJob
  split
  · exact still_refl s
  · exact still_ite (still_completeJob _ _ _ _ _ _) (still_refl s)

theorem still_lose (s : State) (i : Nat) (r : HenRun) (flag : Nat) : Still s (s.lose i r flag) := (still_putResult _ _ _ _ _).trans (still_checkJob _ _ _)

theorem still_abortJob (s : State) (q id : Nat) (int : Bool) : Still s (s.abortJob q id int) := by
  unfold State.abortJob
  extract_lets u v
  have hu : Still s u := still_completeJob _ _ _ _ _ _
  have hv : Still u v := still_modHq u q _
  exact still_ite ((hu.trans hv).trans (still_ite ⟨rfl, rfl, rfl, rfl, rfl, fun _ => rfl⟩ (still_refl v))) hu

theorem still_sweepJob (s : State) (q : Nat) (j : HenJob) : Still s (s.sweepJob q j) :=
  still_ite (still_refl s) (still_ite (still_abortJob _ _ _ _) (still_ite (still_refl s) (still_completeJob _ _ _ _ _ _)))

theorem still_sweep (s : State) : Still s s.sweep :=
  still_foldl (fun u q => still_foldl (fun v j => still_sweepJob v q j) _ u) _ s

theorem still_dispatch (s : State) (i q : Nat) (j : HenJob) (atSusp : Bool) : Still s (s.dispatch i q j atSusp) := by
  unfold State.dispatch
  extract_lets wait start r _ u
  have hu : Still s u := ⟨rfl, rfl, rfl, rfl, rfl, fun _ => rfl⟩
  exact (hu.trans (still_modCl u i _)).trans (still_modHq _ q _)

theorem still_fill (s : State) (i : Nat) : Still s (s.fill i) := by
  unfold State.fill
  refine still_ite (still_refl s) ?_
  split
  · exact still_modCl s i _
  · split
    · exact still_refl s
    · exact still_dispatch _ _ _ _ _

theorem still_fillBoth (s : State) : Still s s.fillBoth := by
  have hnote (u : State) : Still u u.noteWait := ⟨rfl, rfl, rfl, rfl, rfl, fun _ => rfl⟩
  exact ((still_fill s 0).trans (still_fill _ 1)).trans (hnote _)

theorem still_henGo (s : State) : Still s s.henGo := ((still_fillBoth s).trans (still_sweep _)).trans (still_fillBoth _)

theorem still_loseAll (s : State) (i flag : Nat) : Still s (s.loseAll i flag) := by
  unfold State.loseAll
  extract_lets c u v
  have hu : Still s u := still_modCl s i _
  have hv : Still u v := by
    unfold v
    split
    · exact still_lose _ _ _ _
    · exact still_refl u
  refine (hu.trans hv).trans ?_
  split
  · exact still_lose _ _ _ _
  · exact still_refl v

theorem still_henPartEnd (s : State) : Still s s.henPartEnd := (still_foldl (fun u _ => still_abortJob u _ _ _) _ s).trans (still_henGo _)

/-! ### Results that end and the partition's start -/

theorem still_whatifDone (s : State) (w : WhatIf) (st : Nat) (r : CaseRes) : Still s (s.whatifDone w st r) :=
  (still_completeCmd _ _ _ _ _).after ⟨rfl, rfl, rfl, rfl, rfl, fun _ => rfl⟩

theorem still_takeAlloc (s : State) (j : HenJob) : Still s (s.takeAlloc j) := by
  unfold State.takeAlloc
  extract_lets _ _ u rs both v
  have hu : Still s u := ⟨rfl, rfl, rfl, rfl, rfl, fun _ => rfl⟩
  have hv : Still u v := by
    refine still_foldl (fun w e => ?_) both u
    dsimp only
    split
    · exact ⟨rfl, rfl, rfl, rfl, rfl, fun _ => rfl⟩
    · exact ⟨rfl, rfl, rfl, rfl, rfl, fun _ => rfl⟩
  exact (hu.trans hv).trans ⟨rfl, rfl, rfl, rfl, rfl, fun _ => rfl⟩

theorem still_takeEnv (s : State) (a p : Nat) (j : HenJob) : Still s (s.takeEnv a p j) := by
  unfold State.takeEnv
  extract_lets r
  exact still_ite (still_refl s) (still_ite ⟨rfl, rfl, rfl, rfl, rfl, fun _ => rfl⟩ ⟨rfl, rfl, rfl, rfl, rfl, fun _ => rfl⟩)

theorem still_takeWhatif (s : State) (n q : Nat) (j : HenJob) : Still s (s.takeWhatif n q j) := by
  unfold State.takeWhatif
  split
  · exact still_refl s
  · split
    · exact still_refl s
    · exact still_whatifDone _ _ _ _

theorem still_partGo (s : State) : Still s s.partGo := by
  unfold State.partGo
  split
  · exact still_refl s
  · next again cause hdue =>
    refine still_ite (still_refl s) ?_
    extract_lets _ u
    have hu : Still s u := ⟨rfl, rfl, rfl, rfl, rfl, fun hnone => absurd (hnone.symm.trans hdue) (by simp)⟩
    exact still_ite (hu.trans (onlyLog_event _ _ _).still) hu

theorem still_henSettle (s : State) : Still s s.henSettle := by
  unfold State.henSettle
  refine Still.trans ?_ (still_partGo _)
  refine (still_foldl (fun u e => ?_) s.hen.finished _).after ⟨rfl, rfl, rfl, rfl, rfl, fun _ => rfl⟩
  dsimp only
  split
  · exact still_ite ⟨rfl, rfl, rfl, rfl, rfl, fun _ => rfl⟩ (still_refl u)
  · exact still_ite (still_takeAlloc _ _) (still_refl u)
  · exact still_takeEnv _ _ _ _
  · exact still_takeWhatif _ _ _ _
  · exact still_refl u

/-! ### The DMA engine -/

theorem still_modDch (s : State) (n : Nat) (f : DmaChan → DmaChan) : Still s (s.modDch n f) := ⟨rfl, rfl, rfl, rfl, rfl, fun _ => rfl⟩

theorem still_dmaEnd (s : State) (n : Nat) (d : DmaDesc) (status moved : Nat) (trusted : Bool) : Still s (s.dmaEnd n d status moved trusted) := by
  unfold State.dmaEnd
  extract_lets rem cells _ u half tot hf ff ef pos v asks
  have hu : Still s u := still_ite ⟨rfl, rfl, rfl, rfl, rfl, fun _ => rfl⟩ (still_refl s)
  have hv : Still u v := still_modDch u n _
  exact (hu.trans hv).trans (still_ite ⟨rfl, rfl, rfl, rfl, rfl, fun _ => rfl⟩ (still_refl v))

theorem still_dmaUnstart (s : State) (n : Nat) : Still s (s.dmaUnstart n) := by
  unfold State.dmaUnstart
  split
  · exact still_refl s
  · exact still_ite (still_modDch s n _) (still_refl s)

theorem still_dmaDisable (s : State) (n why : Nat) : Still s (s.dmaDisable n why) := by
  unfold State.dmaDisable
  extract_lets u c v
  have hu : Still s u := still_dmaUnstart s n
  have hv : Still s v := hu.trans (still_modDch u n _)
  split
  · exact hv.trans (onlyLog_disableRec _ _ _ _ _ _ _ _).still
  · next d _ =>
    refine still_ite ((hv.trans (still_dmaEnd _ _ _ _ _ _)).trans (onlyLog_disableRec _ _ _ _ _ _ _ _).still) ?_
    have hmove (m : Nat) : Still s (v.freeW.2.dmaMove d m) := (onlyBytes_dmaMove _ _ _).still.after (hv.trans ⟨rfl, rfl, rfl, rfl, rfl, fun _ => rfl⟩)
    exact still_ite (((hmove _).trans (still_dmaEnd _ _ _ _ _ _)).trans (onlyLog_disableRec _ _ _ _ _ _ _ _).still)
      (((hmove _).trans (still_dmaEnd _ _ _ _ _ _)).trans (onlyLog_disableRec _ _ _ _ _ _ _ _).still)

theorem still_dmaPartStop (s : State) : Still s s.dmaPartStop := still_foldl (fun u n => still_ite (still_dmaDisable u n 1) (still_refl u)) _ s

theorem still_dmaBusErr (s : State) (n : Nat) (d : DmaDesc) : Still s (s.dmaBusErr n d) :=
  still_ite (still_dmaEnd _ _ _ _ _ _) ((still_dmaEnd _ _ _ _ _ _).after ((onlyBytes_dmaMove _ _ _).still.after ⟨rfl, rfl, rfl, rfl, rfl, fun _ => rfl⟩))

theorem still_dmaClusterLost (s : State) (i : Nat) : Still s (s.dmaClusterLost i) := by
  refine still_foldl (fun u n => ?_) (List.range 32) s
  split
  · exact still_refl u
  · exact still_ite (still_dmaBusErr _ _ _) (still_refl u)

/-! ### The partition's stop, R19 -/

theorem still_partEnd (s : State) : Still s s.partEnd := ((still_dmaPartStop s).trans (still_henPartEnd _)).trans (still_henSettle _)

/-- The state of a partition that stops: no start due, and not running. -/
def State.partOff (s : State) : State := { s with part := { s.part with startDue := none, running := false } }

/-- The partition's stop leaves it stopped and what no work of its own touches as before. R19. -/
theorem partStop_still {s : State} (hrun : s.part.running = true) (why : Nat) : Still s.partOff (s.partStop why) := by
  unfold State.partStop
  extract_lets _ u js ds done
  rw [if_neg (by simpa [u] using hrun)]
  have hend : Still s.partOff (State.partEnd { u with part := { u.part with running := false } }) := still_partEnd s.partOff
  exact hend.trans (onlyLog_disableRec _ _ _ _ _ _ _ _).still

end Sys2Proof.Machine
end

section
/-!
PROOF. The integrator partition (R17–R20): its slices, its violations, its faults and its restarts.
-/
namespace Sys2Proof.Machine

theorem imgFallback_now (s : State) (d : Nat) : (s.imgFallback d).now = s.now := by
  unfold State.imgFallback
  split
  · rfl
  · split
    · rw [State.raiseAlarm_now]
      rfl
    · rfl

theorem selfReset_now (s : State) (d : Nat) : (s.selfReset d).now = s.now := by
  unfold State.selfReset
  split
  · rfl
  · split
    · rfl
    · dsimp only
      split
      · rw [imgFallback_now]
        rfl
      · rfl

theorem imgStart_now (s : State) (ds : List Nat) : (s.imgStart ds).now = s.now := by
  unfold State.imgStart
  dsimp only
  split <;> rfl

/-- The fourth fault within 10 minutes leaves the partition stopped. R20. -/
theorem partFault_stops {s : State} (hrun : s.part.running = true) (hmany : 3 ≤ s.recentRestarts.length) (cause : Nat) :
    (s.partFault cause).part.running = false ∧ (s.partFault cause).part.stoppedByFaults = true := by
  have hpart : (s.partStop cause).part = { s.part with startDue := none, running := false } := (partStop_still hrun cause).part rfl
  unfold State.partFault
  dsimp only
  rw [if_neg (by simpa using hrun), if_pos hmany, State.event_part, hpart]
  exact ⟨rfl, rfl⟩

/-- The stop of the partition, its image's count and its start that a fault brings. R20. -/
theorem partFault_restarts {s : State} (hrun : s.part.running = true) (hfew : s.recentRestarts.length < 3) (cause : Nat) :
    s.partFault cause = State.partStart { (((s.partStop cause).selfReset 0x80).imgStart [0x80]) with
      part := { (((s.partStop cause).selfReset 0x80).imgStart [0x80]).part with restarts := s.now :: s.recentRestarts } } true cause := by
  have hnow : (((s.partStop cause).selfReset 0x80).imgStart [0x80]).now = s.now := by
    rw [imgStart_now, selfReset_now, (partStop_still hrun cause).now]
    rfl
  unfold State.partFault
  dsimp only
  rw [if_neg (by simpa using hrun), if_neg (Nat.not_le.2 hfew), hnow]

/-- A partition whose image is there and that nothing keeps from it starts at once. R20. -/
theorem partStart_now {s : State} (hpresent : s.part.present = true) (hfaults : s.part.stoppedByFaults = false) (hrun : s.part.running = false)
    (hjobs : s.partJobs = []) : s.partStart false 0 = { s with part := { s.part with startDue := none, running := true, watchdogAt := s.now } } := by
  unfold State.partStart
  rw [if_pos ⟨hpresent, by simp [hfaults], by simp [hrun]⟩]
  have hnone : State.partJobs { s with part := { s.part with startDue := some (false, 0) } } = [] := hjobs
  unfold State.partGo
  dsimp only
  rw [hnone]
  rfl

/-- An access outside the partition's memory and registers. R18. -/
theorem accessViolation_next {t a : Nat} {s : State} (hrun : s.part.running = true) (hdom : s.dom 3 = true) (hpart : between partLo a partHi = false)
    (hwin : inWin a = false) : exec (.partitionAccessViolation t a) s = .next ((s.arrive t).partViolation a) := by
  rw [exec_partitionAccessViolation]
  unfold execPartitionAccessViolation
  extract_lets u full
  have hfull : full = false := by
    unfold full
    rw [hpart, hwin]
    rfl
  exact congrArg Host.Outcome.next (if_pos ⟨hrun, hdom, ne_true_of_eq_false hfull⟩)

/-- Settles O23: a stop of the partition takes its work with it and no more. -/
theorem partitionEvents : Obligations.PartitionEvents := by
  unfold Obligations.PartitionEvents
  intro t n s
  refine ⟨?_, ?_, ?_, ?_, ?_, ?_, ?_, ?_, ?_, ?_⟩
  · intro hrun hone height hwhen
    refine congrArg Host.Outcome.next (if_pos ?_)
    have hwhen' : (!s.frame.running || s.frame.started = 0 || decide ((s.arrive t).frameElapsed ≤ 15500000) ||
        decide (19000000 + n ≤ (s.arrive t).frameElapsed)) = true := by
      rcases hwhen with h | h | h | h <;> simp [h]
    show (s.part.running && decide (n ≤ 1000000) && decide (s.part.slicesFrame + n ≤ 8000000) && _) = true
    rw [hrun, decide_eq_true hone, decide_eq_true height]
    exact hwhen'
  · intro hlong
    refine congrArg Host.Outcome.next (if_neg (fun h => ?_))
    simp only [State.sliceMay, Bool.and_eq_true, decide_eq_true_eq] at h
    obtain ⟨⟨⟨-, hone⟩, height⟩, -⟩ := h
    have height' : s.part.slicesFrame + n ≤ 8000000 := height
    omega
  · intro hrun hstarted hlate hearly
    refine congrArg Host.Outcome.next (if_neg (fun h => ?_))
    simp only [State.sliceMay, Bool.and_eq_true, Bool.or_eq_true, decide_eq_true_eq, Bool.not_eq_true'] at h
    obtain ⟨-, ((h | h) | h) | h⟩ := h
    · exact Bool.false_ne_true (h.symm.trans hrun)
    · exact hstarted h
    · omega
    · omega
  · intro hrun
    refine ⟨congrArg Host.Outcome.next (if_neg (fun h => ?_)), congrArg Host.Outcome.next (if_pos (Bool.eq_false_iff.1 hrun))⟩
    simp only [State.sliceMay, Bool.and_eq_true] at h
    exact Bool.false_ne_true (hrun.symm.trans h.1.1.1)
  · intro hrun hdom hpart hwin
    have hlog := onlyLog_partViolation (u := s.arrive t) rfl n
    rw [State.arrive_part] at hlog
    exact ⟨_, accessViolation_next hrun hdom hpart hwin, hlog⟩
  · intro hrun hmany
    exact ⟨_, rfl, partFault_stops (s := s.arrive t) hrun hmany n⟩
  · intro hrun hfew
    exact congrArg Host.Outcome.next (partFault_restarts (s := s.arrive t) hrun hfew n)
  · intro hdue
    exact congrArg Host.Outcome.next (if_pos (decide_eq_true hdue))
  · intro hearly
    exact congrArg Host.Outcome.next (if_neg (fun h => absurd (of_decide_eq_true h) (Nat.not_le.2 hearly)))
  · intro hfaults hpresent hrun hdom hjobs
    exact congrArg Host.Outcome.next ((if_pos ⟨hfaults, hdom⟩).trans (partStart_now (s := { s.arrive t with
      part := { s.part with stoppedByFaults := false, restarts := [] } }) hpresent rfl hrun hjobs))

end Sys2Proof.Machine
end

section
/-!
PROOF. What the power-down of a domain leaves (R550, R578): the time, KEEP but for its count of lost records and the powers, the mode, and a unit without
authority without it. The proofs of the restarts cite this.
-/
namespace Sys2Proof.Machine

/-- From `s` to `u` work of a domain ended: the time, the mode and KEEP but for its count of lost records are as before, and no authority came. -/
structure Ends (s u : State) : Prop where
  now : u.now = s.now
  keep : ∃ q, u.keep = { s.keep with queueLost := q }
  mode : u.sys.mode = s.sys.mode
  off : s.red.commanding = false → u.red.commanding = false

theorem ends_refl (s : State) : Ends s s := ⟨rfl, ⟨_, rfl⟩, rfl, id⟩

theorem Ends.trans {s u v : State} (h : Ends s u) (h' : Ends u v) : Ends s v := by
  obtain ⟨q, hk⟩ := h.keep
  obtain ⟨q', hk'⟩ := h'.keep
  exact ⟨h'.now.trans h.now, ⟨q', by rw [hk', hk]⟩, h'.mode.trans h.mode, fun hoff => h'.off (h.off hoff)⟩

theorem Ends.after {s u v : State} (h' : Ends u v) (h : Ends s u) : Ends s v := h.trans h'

theorem ends_ite {s a b : State} {c : Prop} [Decidable c] (ha : Ends s a) (hb : Ends s b) : Ends s (if c then a else b) := by
  split
  · exact ha
  · exact hb

theorem ends_foldl {α : Type} {f : State → α → State} (hf : ∀ u x, Ends u (f u x)) (l : List α) (s : State) : Ends s (l.foldl f s) := by
  induction l generalizing s with
  | nil => exact ends_refl s
  | cons x l ih => exact (hf s x).trans (ih _)

theorem Calm.ends {s u : State} (h : Calm s u) : Ends s u :=
  ⟨h.now, ⟨s.keep.queueLost, h.keep⟩, h.mode, fun hoff => h.commanding.trans hoff⟩

theorem Still.ends {s u : State} (h : Still s u) : Ends s u :=
  ⟨h.now, ⟨s.keep.queueLost, h.keep⟩, by rw [h.sys], fun hoff => by rw [h.red]; exact hoff⟩

theorem OnlyLog.ends {s u : State} (h : OnlyLog s u) : Ends s u := h.still.ends

theorem Ends.dom {s u : State} (h : Ends s u) (d : Nat) : u.dom d = s.dom d := by
  obtain ⟨_, hk⟩ := h.keep
  rw [State.dom, State.dom, hk]

theorem Ends.d0On {s u : State} (h : Ends s u) : u.keep.d0On = s.keep.d0On := by
  obtain ⟨_, hk⟩ := h.keep
  rw [hk]

/-! ### Each domain's own work -/

theorem ends_logReset (s : State) : Ends s s.logReset := by
  unfold State.logReset
  refine (ends_foldl (fun u e => ends_ite ?_ (ends_refl u)) _ _).after ⟨rfl, ⟨_, rfl⟩, rfl, id⟩
  exact (onlyLog_direct _ _ _ _).ends.after ⟨rfl, ⟨_, rfl⟩, rfl, id⟩

theorem ends_dmaReset (s : State) : Ends s s.dmaReset := by
  unfold State.dmaReset
  extract_lets k u
  have hu : Ends s u := ends_ite (ends_refl s) (onlyLog_direct _ _ _ _).ends
  exact hu.trans ⟨rfl, ⟨_, rfl⟩, rfl, id⟩

theorem ends_henReset (s : State) : Ends s s.henReset :=
  ends_foldl (fun u _ => ends_ite (ends_refl u) (onlyLog_direct _ _ _ _).ends) _ s

/-- The memories of D1 lost: DRAM, the engine, the points and what was staged. R568, R578. -/
def State.memLost (s : State) : State :=
  { s with
    dram := {}, hen := { cl0 := { powered := s.hen.cl0.powered }, cl1 := { powered := s.hen.cl1.powered } }
    pnt := { svyGen := s.pnt.svyGen, svyLive := s.pnt.svyLive, nextSub := s.pnt.nextSub }
    cfg := { s.cfg with staging := [], validated := none } }

theorem ends_memLost (s : State) : Ends s s.memLost := ⟨rfl, ⟨_, rfl⟩, rfl, id⟩

theorem d1Down_eq (s : State) : s.d1Down = s.logReset.dmaReset.henReset.memLost := rfl

theorem ends_d1Down (s : State) : Ends s s.d1Down := by
  rw [d1Down_eq]
  exact (((ends_logReset s).trans (ends_dmaReset _)).trans (ends_henReset _)).trans (ends_memLost _)

theorem ends_d2Reset (s : State) : Ends s s.d2Reset := ⟨rfl, ⟨_, rfl⟩, rfl, id⟩

theorem ends_partStop (s : State) (why : Nat) : Ends s (s.partStop why) := by
  cases hrun : s.part.running with
  | true => exact (partStop_still hrun why).ends.after ⟨rfl, ⟨_, rfl⟩, rfl, id⟩
  | false =>
    unfold State.partStop
    dsimp only
    rw [if_pos (by simp [hrun])]
    exact ⟨rfl, ⟨_, rfl⟩, rfl, id⟩

/-- The reset of D3 takes authority away. R578. -/
theorem d3Reset_off (s : State) : s.d3Reset.red.commanding = false := rfl

theorem ends_rebuildReplies (s : State) : Ends s s.rebuildReplies := ⟨rfl, ⟨_, rfl⟩, rfl, id⟩

theorem ends_d3Reset (s : State) : Ends s s.d3Reset := by
  obtain ⟨hnow, hkeep, hmode, -⟩ := (ends_partStop s 16).trans (ends_rebuildReplies _)
  exact ⟨hnow, hkeep, hmode, fun _ => rfl⟩

theorem ends_safeDown (s : State) : Ends s s.safeDown := (calm_abortBrakeTests s).ends.trans ⟨rfl, ⟨_, rfl⟩, rfl, id⟩

theorem still_clStop (s : State) (i : Nat) : Still s (s.clStop i) := by
  unfold State.clStop
  exact (still_henGo _).after ((still_loseAll _ _ _).after (still_modCl s i _))

theorem still_sramLost (s : State) (k : Nat) : Still s (s.sramLost k) := ⟨rfl, rfl, rfl, rfl, rfl, fun _ => rfl⟩

theorem ends_clusterDown (s : State) (i : Nat) : Ends s (((s.clStop i).dmaClusterLost i).sramLost i) :=
  (((still_clStop s i).trans (still_dmaClusterLost _ i)).trans (still_sramLost _ i)).ends

theorem still_putPoint (s : State) (p : Nat) (x : Point) : Still s (s.putPoint p x) := by
  unfold State.putPoint State.watchHits
  dsimp only
  split
  · exact ⟨rfl, rfl, rfl, rfl, rfl, fun _ => rfl⟩
  · split
    · exact ⟨rfl, rfl, rfl, rfl, rfl, fun _ => rfl⟩
    · exact ⟨rfl, rfl, rfl, rfl, rfl, fun _ => rfl⟩

theorem still_publish (s : State) (ts : Nat) (l : List (Nat × PVal × Half)) : Still s (s.publish ts l) :=
  still_foldl (fun u _ => still_putPoint u _ _) l s

theorem still_satWithdraw (s : State) : Still s s.satWithdraw := by
  unfold State.satWithdraw State.posBlock State.attBlock
  dsimp only
  exact (still_publish _ _ _).after ((still_publish _ _ _).after ((still_publish _ _ _).after ⟨rfl, rfl, rfl, rfl, rfl, fun _ => rfl⟩))

theorem still_setVc (s : State) (n : Nat) (v : VcSt) : Still s (s.setVc n v) := ⟨by simp, by simp, by simp, by simp, by simp, fun _ => by simp⟩

theorem still_srcLost (s : State) (n : Nat) : Still s (s.srcLost n) :=
  still_ite (still_setVc _ _ _) ((onlyLog_raiseAlarm _ _ _ _).still.after (still_setVc _ _ _))

theorem still_satGone (s : State) : Still s s.satGone := still_foldl (fun u n => still_ite (still_srcLost u n) (still_refl u)) _ s

theorem still_setBias (s : State) (a : Nat) (on : Bool) : Still s (s.setBias a on) := ⟨rfl, rfl, rfl, rfl, rfl, fun _ => rfl⟩

theorem still_satDown (s : State) : Still s s.satDown := by
  unfold State.satDown
  extract_lets u had v w _ x
  have hu : Still s u := still_satWithdraw s
  clear_value u
  have hv : Still u v := ⟨rfl, rfl, rfl, rfl, rfl, fun _ => rfl⟩
  clear_value v
  have hw : Still v w := still_ite (still_satGone v) (still_refl v)
  clear_value w
  have hx : Still w x := ⟨rfl, rfl, rfl, rfl, rfl, fun _ => rfl⟩
  exact (((hu.trans hv).trans hw).trans hx).trans (still_foldl (fun y a => still_setBias y a false) antAll x)

theorem still_pulseDisarm (s : State) (k : Nat) : Still s (s.pulseDisarm k) :=
  still_ite (still_refl s) ((onlyLog_disableRec _ _ _ _ _ _ _ _).still.after ⟨rfl, rfl, rfl, rfl, rfl, fun _ => rfl⟩)

theorem still_d9Down (s : State) : Still s s.d9Down := by
  unfold State.d9Down
  extract_lets u
  have hu : Still s u := still_foldl (fun v k => still_ite (still_pulseDisarm v k) (still_refl v)) _ s
  exact hu.trans ⟨rfl, rfl, rfl, rfl, rfl, fun _ => rfl⟩

theorem calm_disablePort (s : State) (n why : Nat) : Calm s (s.disablePort n why) :=
  (onlyLog_disableRec _ _ _ _ _ _ _ _).calm.after ((calm_foldl (fun u i => calm_dropBox u n i why) _ _).after (calm_canDue s n))

theorem calm_abortPort (s : State) (n why : Nat) : Calm s (s.abortPort n why) := by
  unfold State.abortPort
  extract_lets u
  have hu : Calm s u := by
    refine calm_foldl (fun v i => ?_) _ s
    extract_lets b w x
    have hw : Calm v w := by
      unfold w
      split
      · exact calm_frameAborted _ _ _ _
      · exact calm_refl v
    have hx : Calm w x := by
      unfold x
      split
      · exact calm_frameAborted _ _ _ _
      · exact calm_refl w
    exact (hw.trans hx).trans ⟨rfl, rfl, rfl, ⟨_, _, rfl⟩, ⟨_, rfl⟩⟩
  exact hu.trans ⟨rfl, rfl, rfl, ⟨_, _, rfl⟩, ⟨_, rfl⟩⟩

theorem calm_serDisable (s : State) (n why : Nat) : Calm s (s.serDisable n why) :=
  (onlyLog_disableRec _ _ _ _ _ _ _ _).calm.after ⟨rfl, rfl, rfl, ⟨_, _, rfl⟩, ⟨_, rfl⟩⟩

theorem calm_modPort (s : State) (n : Nat) (f : CanPort → CanPort) : Calm s (s.modPort n f) := ⟨rfl, rfl, rfl, ⟨_, _, rfl⟩, ⟨_, rfl⟩⟩

theorem calm_modSer (s : State) (n : Nat) (f : SerPort → SerPort) : Calm s (s.modSer n f) := ⟨rfl, rfl, rfl, ⟨_, _, rfl⟩, ⟨_, rfl⟩⟩

theorem calm_d10Down (s : State) : Calm s s.d10Down := by
  unfold State.d10Down
  extract_lets u v w
  have hu : Calm s u := by
    refine calm_foldl (fun x n => ?_) _ s
    exact (calm_modPort _ _ _).after (calm_ite (calm_refl x) ((calm_abortPort _ _ _).after (calm_disablePort _ _ _)))
  clear_value u
  have hv : Calm u v := by
    refine calm_foldl (fun x n => ?_) _ u
    split
    · exact calm_refl x
    · exact (calm_completeCmd _ _ _ _ _).after (calm_modPort _ _ _)
  clear_value v
  have hw : Calm v w := by
    refine calm_foldl (fun x n => ?_) _ v
    exact (calm_modSer _ _ _).after (calm_ite (calm_refl x) (calm_serDisable _ _ _))
  clear_value w
  exact ((hu.trans hv).trans hw).trans ⟨rfl, rfl, rfl, ⟨_, _, rfl⟩, ⟨_, rfl⟩⟩

/-! ### A domain powered down, R578 -/

/-- The work a domain ends as it goes down. -/
def State.domEnds (s : State) (d : Nat) : State :=
  match d with
  | 1 => s.d1Down
  | 2 => s.d2Reset
  | 3 => s.d3Reset
  | 4 => s.safeDown
  | 5 => s.safeDown
  | 6 => ((s.clStop 0).dmaClusterLost 0).sramLost 0
  | 7 => ((s.clStop 1).dmaClusterLost 1).sramLost 1
  | 8 => s.satDown
  | 9 => s.d9Down
  | 10 => s.d10Down
  | 11 => s.fioDown 1
  | _ => s

theorem ends_domEnds (s : State) (d : Nat) : Ends s (s.domEnds d) := by
  unfold State.domEnds
  split
  · exact ends_d1Down s
  · exact ends_d2Reset s
  · exact ends_d3Reset s
  · exact ends_safeDown s
  · exact ends_safeDown s
  · exact ends_clusterDown s 0
  · exact ends_clusterDown s 1
  · exact (still_satDown s).ends
  · exact (still_d9Down s).ends
  · exact (calm_d10Down s).ends
  · exact ((calm_fioPulsesAbort s _ _).trans (calm_fioFollow _)).ends
  · exact ends_refl s

theorem domDown_eq {s : State} {d : Nat} (h : s.dom d = true) : s.domDown d = ((s.domEnds d).setDom d false).henSettle := by
  unfold State.domDown
  rw [if_neg (by simp [h])]
  rfl

theorem domDown_off {s : State} {d : Nat} (h : s.dom d = false) : s.domDown d = s := if_pos (by simp [h])

end Sys2Proof.Machine
end

section
/-!
PROOF. Domains powered down and up (R550, R578, R592): which of them run after, and what they leave.
-/
namespace Sys2Proof.Machine

/-! ### The powers -/

/-- A bit taken out of a number. -/
theorem testBit_sub_and (p d e : Nat) : (p - (p &&& 2 ^ d)).testBit e = (p.testBit e && decide (e ≠ d)) := by
  induction d generalizing p e with
  | zero =>
    rw [Nat.pow_zero, Nat.and_one_is_mod]
    cases e with
    | zero =>
      have heven : (p - p % 2) % 2 = 0 := by omega
      simp [Nat.testBit_zero, heven]
    | succ e =>
      have hhalf : (p - p % 2) / 2 = p / 2 := by omega
      simp [Nat.testBit_succ, hhalf]
  | succ d ih =>
    have hbit : p &&& 2 ^ (d + 1) = 2 * (p / 2 &&& 2 ^ d) := by
      have hdiv : (p &&& 2 ^ (d + 1)) / 2 = p / 2 &&& 2 ^ d := by
        rw [Nat.and_div_two, Nat.pow_succ, Nat.mul_div_cancel _ (by decide)]
      have hmod : (p &&& 2 ^ (d + 1)) % 2 = 0 := by
        rw [← Nat.pow_one 2, Nat.and_mod_two_pow, Nat.pow_one, Nat.pow_succ, Nat.mul_mod_left, Nat.and_zero]
      omega
    have hle : p / 2 &&& 2 ^ d ≤ p / 2 := Nat.and_le_left
    rw [hbit]
    cases e with
    | zero =>
      have hpar : (p - 2 * (p / 2 &&& 2 ^ d)) % 2 = p % 2 := by omega
      simp [Nat.testBit_zero, hpar]
    | succ e =>
      have hhalf : (p - 2 * (p / 2 &&& 2 ^ d)) / 2 = p / 2 - (p / 2 &&& 2 ^ d) := by omega
      rw [Nat.testBit_succ, hhalf, ih, Nat.testBit_succ]
      simp

theorem dom_setDom_false (s : State) (d e : Nat) : (s.setDom d false).dom e = (s.dom e && decide (e ≠ d)) := testBit_sub_and _ _ _

theorem dom_setDom_true (s : State) (d e : Nat) : (s.setDom d true).dom e = (s.dom e || decide (d = e)) := by
  show (s.keep.powered ||| 2 ^ d).testBit e = _
  rw [Nat.testBit_or, Nat.testBit_two_pow]
  rfl

/-! ### Domains down -/

/-- From `s` to `u` domains went down: the time, the mode and KEEP but for its count of lost records and the powers are as before, no domain was
powered and no authority came. -/
structure Fallen (s u : State) : Prop where
  now : u.now = s.now
  keep : ∃ q p, u.keep = { s.keep with queueLost := q, powered := p }
  mode : u.sys.mode = s.sys.mode
  off : s.red.commanding = false → u.red.commanding = false
  dom : ∀ e, s.dom e = false → u.dom e = false

theorem fallen_refl (s : State) : Fallen s s := ⟨rfl, ⟨_, _, rfl⟩, rfl, id, fun _ => id⟩

theorem Fallen.trans {s u v : State} (h : Fallen s u) (h' : Fallen u v) : Fallen s v := by
  obtain ⟨q, p, hk⟩ := h.keep
  obtain ⟨q', p', hk'⟩ := h'.keep
  exact ⟨h'.now.trans h.now, ⟨q', p', by rw [hk', hk]⟩, h'.mode.trans h.mode, fun hoff => h'.off (h.off hoff), fun e he => h'.dom e (h.dom e he)⟩

theorem Ends.fallen {s u : State} (h : Ends s u) : Fallen s u := by
  obtain ⟨q, hk⟩ := h.keep
  exact ⟨h.now, ⟨q, s.keep.powered, hk⟩, h.mode, h.off, fun e he => (h.dom e).trans he⟩

theorem fallen_setDom (s : State) (d : Nat) : Fallen s (s.setDom d false) :=
  ⟨rfl, ⟨_, _, rfl⟩, rfl, id, fun e he => by rw [dom_setDom_false, he]; rfl⟩

theorem fallen_domDown (s : State) (d : Nat) : Fallen s (s.domDown d) := by
  cases h : s.dom d with
  | true =>
    rw [domDown_eq h]
    exact ((ends_domEnds s d).fallen.trans (fallen_setDom _ d)).trans (still_henSettle _).ends.fallen
  | false =>
    rw [domDown_off h]
    exact fallen_refl s

/-- A domain that goes down does not run after; the others do as before. R578. -/
theorem dom_domDown (s : State) (d e : Nat) : (s.domDown d).dom e = (s.dom e && decide (e ≠ d)) := by
  cases h : s.dom d with
  | true =>
    rw [domDown_eq h, (still_henSettle _).ends.dom, dom_setDom_false, (ends_domEnds s d).dom]
  | false =>
    rw [domDown_off h]
    by_cases hde : e = d
    · rw [hde, h]
      rfl
    · simp [hde]

/-- The reset of D3 leaves no authority. R578. -/
theorem domDown_authority {s : State} (h : s.red.commanding = false ∨ s.dom 3 = true) : (s.domDown 3).red.commanding = false := by
  cases hd : s.dom 3 with
  | true =>
    rw [domDown_eq hd, (still_henSettle _).red]
    exact d3Reset_off s
  | false =>
    rw [domDown_off hd]
    exact h.resolve_right (by simp [hd])

/-- The domains of a list in the order in which they go down. R550. -/
def downs (ds : List Nat) : List Nat := [11, 10, 8, 7, 6, 3, 2, 9, 1, 4, 5].filter (fun d => ds.contains d)

theorem allDown_eq (s : State) (ds : List Nat) : s.allDown ds = (downs ds).foldl State.domDown s := rfl

theorem fallen_foldl (l : List Nat) (s : State) : Fallen s (l.foldl State.domDown s) :=
  List.foldlRecOn l State.domDown (fallen_refl s) (fun u h d _ => h.trans (fallen_domDown u d))

theorem fallen_allDown (s : State) (ds : List Nat) : Fallen s (s.allDown ds) := fallen_foldl (downs ds) s

/-- Of the domains some go down. -/
theorem dom_allDown (s : State) (ds : List Nat) (e : Nat) : (s.allDown ds).dom e = (s.dom e && !(downs ds).contains e) := by
  rw [allDown_eq]
  generalize downs ds = l
  induction l generalizing s with
  | nil => simp
  | cons d l ih =>
    rw [List.foldl_cons, ih, dom_domDown]
    by_cases h : e = d
    · simp [h]
    · simp [h]

/-- A unit whose D3 is among the domains that go down is left without authority, where it had none or D3 ran. R578. -/
theorem allDown_authority {s : State} {ds : List Nat} (h : s.red.commanding = false ∨ s.dom 3 = true) (h3 : 3 ∈ downs ds) :
    (s.allDown ds).red.commanding = false := by
  rw [allDown_eq]
  refine foldl_reaches (P := fun u : State => u.red.commanding = false ∨ u.dom 3 = true) (Q := fun u => u.red.commanding = false) (fun u d hu => ?_)
    (fun u => domDown_authority) (fun u d _ => (fallen_domDown u d).off) (downs ds) h3 s h
  by_cases hd : d = 3
  · rw [hd]
    exact Or.inl (domDown_authority hu)
  · refine hu.imp (fallen_domDown u d).off (fun h3 => ?_)
    rw [dom_domDown, h3]
    simp [Ne.symm hd]

/-! ### Domains up, R592 -/

/-- From `s` to `u` domains started: the time and the parameters are as before, and what ran runs. -/
structure Risen (s u : State) : Prop where
  now : u.now = s.now
  cfg : u.cfg = s.cfg
  dom : ∀ e, s.dom e = true → u.dom e = true

theorem risen_refl (s : State) : Risen s s := ⟨rfl, rfl, fun _ => id⟩

theorem Risen.trans {s u v : State} (h : Risen s u) (h' : Risen u v) : Risen s v :=
  ⟨h'.now.trans h.now, h'.cfg.trans h.cfg, fun e he => h'.dom e (h.dom e he)⟩

theorem Risen.after {s u v : State} (h' : Risen u v) (h : Risen s u) : Risen s v := h.trans h'

theorem Still.risen {s u : State} (h : Still s u) : Risen s u := ⟨h.now, h.cfg, fun e he => (h.ends.dom e).trans he⟩

theorem risen_setDom (s : State) (d : Nat) : Risen s (s.setDom d true) := ⟨rfl, rfl, fun e he => by rw [dom_setDom_true, he]; rfl⟩

/-- D1 starts: the records lost are counted. R537. -/
theorem risen_logUp (s : State) : Risen s s.logUp := by
  unfold State.logUp
  extract_lets n
  split
  · exact risen_refl s
  · exact (onlyLog_direct _ _ _ _).still.risen.after ⟨rfl, rfl, fun _ => id⟩

theorem still_modVc (s : State) (n : Nat) (f : VcSt → VcSt) : Still s (s.modVc n f) := still_setVc s n _

theorem still_vcSample (s : State) (n : Nat) (e : Int) : Still s (s.vcSample n e) := by
  unfold State.vcSample
  extract_lets v v1 _ u lim small v2 _ w
  have hu : Still s u := still_ite (onlyLog_clearAlarm _ _ _).still (still_refl s)
  have hw : Still u w := still_setVc u n _
  refine still_ite (still_setVc _ _ _) (still_ite (still_setVc _ _ _) (still_ite (still_setVc _ _ _) (still_ite ?_ ?_)))
  · exact hu.trans (still_setVc _ _ _)
  · exact (hu.trans hw).trans (still_ite ((onlyLog_raiseAlarm _ _ _ _).still.after (still_modVc _ _ _)) (still_refl w))

theorem still_tmuUp (s : State) (k : Option KeptTime) : Still s (s.tmuUp k) := by
  unfold State.tmuUp
  extract_lets u v _ w x y
  have hu : Still s u := ⟨rfl, rfl, rfl, rfl, rfl, fun _ => rfl⟩
  clear_value u
  have hv : Still u v := ⟨rfl, rfl, rfl, rfl, rfl, fun _ => rfl⟩
  clear_value v
  have hw : Still v w := ⟨rfl, rfl, rfl, rfl, rfl, fun _ => rfl⟩
  clear_value w
  have hx : Still w x := ⟨rfl, rfl, rfl, rfl, rfl, fun _ => rfl⟩
  clear_value x
  have hy : Still x y := still_foldl (fun z n => still_ite (onlyLog_raiseAlarm _ _ _ _).still (still_refl z)) _ x
  clear_value y
  refine ((((hu.trans hv).trans hw).trans hx).trans hy).trans (still_foldl (fun z n => ?_) _ y)
  exact still_ite (still_vcSample _ _ _) (still_refl z)

theorem still_modSt (s : State) (f : SatTime → SatTime) : Still s (s.modSt f) := ⟨rfl, rfl, rfl, rfl, rfl, fun _ => rfl⟩

theorem still_satUp (s : State) : Still s s.satUp := by
  unfold State.satUp
  extract_lets g t bound ty u v w x
  clear_value bound
  have hu : Still s u := still_ite (still_refl s) (onlyLog_event _ _ _).still
  clear_value u
  have hv : Still u v := ⟨rfl, rfl, rfl, rfl, rfl, fun _ => rfl⟩
  clear_value v
  have hw : Still v w := still_modSt v _
  clear_value w
  have hx : Still w x := by
    unfold x
    split
    · exact still_refl w
    · exact still_ite ((onlyLog_raiseAlarm _ _ _ _).still.after (still_modSt _ _)) (still_refl w)
  clear_value x
  exact (((hu.trans hv).trans hw).trans hx).trans (still_foldl (fun y a => still_setBias y a _) antAll x)

end Sys2Proof.Machine
end

section
/-!
PROOF. The entry to RESTORE (R558, R559, R565, R574): what it leaves of KEEP, the role and the powers.
-/
namespace Sys2Proof.Machine

/-! ### A domain powered up, R592 -/

theorem domUp_on {s : State} {d : Nat} (h : s.dom d = true) : s.domUp d = s := if_pos (by simp [h])

theorem domUp_off {s : State} {d : Nat} (h : ¬ s.dom d = true) (hd : d = 4 ∨ d = 5) : s.domUp d = s.setDom d true := by
  unfold State.domUp
  rw [if_neg h]
  rcases hd with rfl | rfl
  · rfl
  · rfl

/-- From `s` to `u` the safety section's domains may have started: KEEP but for the powers, the mode and the role are as before. -/
structure Powers (s u : State) : Prop where
  keep : ∃ p, u.keep = { s.keep with powered := p }
  mode : u.sys.mode = s.sys.mode
  red : u.red = s.red
  dom : ∀ e, s.dom e = true → u.dom e = true

theorem powers_domUp (s : State) {d : Nat} (hd : d = 4 ∨ d = 5) : Powers s (s.domUp d) := by
  by_cases h : s.dom d = true
  · rw [domUp_on h]
    exact ⟨⟨_, rfl⟩, rfl, rfl, fun _ => id⟩
  · rw [domUp_off h hd]
    exact ⟨⟨_, rfl⟩, rfl, rfl, (risen_setDom s d).dom⟩

theorem dom_domUp (s : State) {d : Nat} (hd : d = 4 ∨ d = 5) : (s.domUp d).dom d = true := by
  by_cases h : s.dom d = true
  · rw [domUp_on h, h]
  · rw [domUp_off h hd, dom_setDom_true]
    simp

/-! ### What RESTORE prepares -/

/-- From `s` to `u` the unit's start was prepared: KEEP but for its count of lost records, the mode and the role but for the takeover check are as
before. -/
structure Readies (s u : State) : Prop where
  keep : ∃ q, u.keep = { s.keep with queueLost := q }
  mode : u.sys.mode = s.sys.mode
  red : ∃ c, u.red = { s.red with check := c }

theorem readies_refl (s : State) : Readies s s := ⟨⟨_, rfl⟩, rfl, ⟨_, rfl⟩⟩

theorem Readies.trans {s u v : State} (h : Readies s u) (h' : Readies u v) : Readies s v := by
  obtain ⟨q, hk⟩ := h.keep
  obtain ⟨q', hk'⟩ := h'.keep
  obtain ⟨c, hr⟩ := h.red
  obtain ⟨c', hr'⟩ := h'.red
  exact ⟨⟨q', by rw [hk', hk]⟩, h'.mode.trans h.mode, ⟨c', by rw [hr', hr]⟩⟩

theorem readies_ite {s a b : State} {c : Prop} [Decidable c] (ha : Readies s a) (hb : Readies s b) : Readies s (if c then a else b) := by
  split
  · exact ha
  · exact hb

theorem Calm.readies {s u : State} (h : Calm s u) : Readies s u := ⟨⟨s.keep.queueLost, h.keep⟩, h.mode, h.red⟩

theorem OnlyLog.readies {s u : State} (h : OnlyLog s u) : Readies s u := h.calm.readies

theorem readies_imgStart (s : State) (ds : List Nat) : Readies s (s.imgStart ds) := by
  unfold State.imgStart
  extract_lets start u valid
  exact readies_ite ⟨⟨_, rfl⟩, rfl, ⟨_, rfl⟩⟩ ⟨⟨_, rfl⟩, rfl, ⟨_, rfl⟩⟩

theorem readies_alarmIf (s : State) (cond : Bool) (e : EvCode) (i : Nat) : Readies s (s.alarmIf cond e i) :=
  readies_ite (onlyLog_raiseAlarm _ _ _ _).readies (onlyLog_clearAlarm _ _ _).readies

theorem readies_henPivSet (s : State) : Readies s s.henPivSet := ⟨⟨_, rfl⟩, rfl, ⟨_, rfl⟩⟩

theorem readies_withBody (s : State) (b : List Byte) : Readies s (s.withBody b) := ⟨⟨_, rfl⟩, rfl, ⟨_, rfl⟩⟩

theorem readies_cfg (s : State) (c : CfgSt) : Readies s { s with cfg := c } := ⟨⟨_, rfl⟩, rfl, ⟨_, rfl⟩⟩

theorem readies_chooseCfg (s : State) : Readies s s.chooseCfg := by
  unfold State.chooseCfg
  extract_lets a b _ u use
  have hu : Readies s u := readies_cfg s _
  have huse : ∀ v c src, Readies v (use v c src) := fun v c src =>
    (((readies_withBody v c.body).trans (readies_henPivSet _)).trans (readies_cfg _ _)).trans (readies_alarmIf _ _ _ _)
  clear_value u use
  refine hu.trans (readies_ite (readies_ite (huse _ _ _) (huse _ _ _)) (readies_ite ?_ (readies_ite ?_ ?_)))
  · exact ((readies_cfg u _).trans (huse _ _ _)).trans (onlyLog_event _ _ _).readies
  · exact ((readies_cfg u _).trans (huse _ _ _)).trans (onlyLog_event _ _ _).readies
  · exact ((readies_cfg u _).trans (onlyLog_raiseAlarm _ _ _ _).readies).trans (readies_henPivSet _)

theorem readies_safePend (s : State) (c : List Byte) : Readies s (s.safePend c) :=
  readies_ite ⟨⟨_, rfl⟩, rfl, ⟨_, rfl⟩⟩ ⟨⟨_, rfl⟩, rfl, ⟨_, rfl⟩⟩

/-! ### RESTORE entered -/

/-- From `s` to `u` the unit entered RESTORE for a cause with its straps. -/
structure Restored (cause straps : Nat) (s u : State) : Prop where
  keep : ∃ q p, u.keep = { s.keep with queueLost := q, powered := p, resetCause := cause, resetHeld := none, resetHeldRec := false }
  mode : u.sys.mode = .restore
  unit : u.red.unit = straps
  strap : u.red.strap = straps
  dom4 : u.dom 4 = true
  dom5 : u.dom 5 = true
  off : s.red.commanding = false ∨ s.dom 3 = true → u.red.commanding = false

theorem ends_dropAlarms (s : State) : Ends s s.dropAlarms := ⟨rfl, ⟨_, rfl⟩, rfl, id⟩

/-- The domains that go down as the unit enters RESTORE: all, but for those a wake of KEEP leaves running. -/
def restoreDowns (wake : Bool) : List Nat := if wake then [2, 3, 4, 5, 6, 7, 10, 11] else allDoms

theorem three_mem_restoreDowns (wake : Bool) : 3 ∈ downs (restoreDowns wake) := by
  cases wake with
  | true => decide
  | false => decide

theorem restored_enterRestore (s : State) (cause straps : Nat) : Restored cause straps s (s.enterRestore cause straps) := by
  unfold State.enterRestore
  extract_lets wake v0 v1 v2 v3 _ v4 v5 v6 v7 v8 _
  have hdown : Fallen s v0 := ((fallen_allDown s (restoreDowns wake)).trans (onlyLog_clearAlarm _ _ _).ends.fallen).trans (ends_dropAlarms _).fallen
  have hoff : s.red.commanding = false ∨ s.dom 3 = true → v0.red.commanding = false := fun h =>
    (onlyLog_clearAlarm (s.allDown (restoreDowns wake)) EvCode.KEEP_DATA_LOST 0).ends.off (allDown_authority h (three_mem_restoreDowns wake))
  clear_value v0
  have hred : v1.red.unit = straps ∧ v1.red.strap = straps ∧ v1.red.commanding = v0.red.commanding ∧ v1.keep = v0.keep := ⟨rfl, rfl, rfl, rfl⟩
  clear_value v1
  have hkeep : v2.keep = { v1.keep with resetCause := cause, resetHeld := none, resetHeldRec := false } ∧ v2.red = v1.red := ⟨rfl, rfl⟩
  clear_value v2
  have hmode : Calm ((v2.modSafe (fun x => { x with safeStop := false })).inMode .restore) v3 := setMode_calm _ _ _
  clear_value v3
  have hready : Readies v3 v7 := by
    have h5 : Readies v3 v5 := ⟨⟨_, rfl⟩, rfl, ⟨_, rfl⟩⟩
    clear_value v5
    have h6 : Readies v5 v6 := (readies_imgStart _ _).trans (readies_chooseCfg _)
    clear_value v6
    exact (h5.trans h6).trans (readies_ite (readies_refl v6) (readies_safePend _ _))
  clear_value v7
  have hup : Powers v7 (v7.domUp 4) := powers_domUp v7 (Or.inl rfl)
  have hup' : Powers (v7.domUp 4) v8 := powers_domUp _ (Or.inr rfl)
  have hdom4 : v8.dom 4 = true := hup'.dom 4 (dom_domUp v7 (Or.inl rfl))
  have hdom5 : v8.dom 5 = true := dom_domUp _ (Or.inr rfl)
  clear_value v8
  have hleft : Restored cause straps s v8 := by
    obtain ⟨q0, p0, hk0⟩ := hdown.keep
    obtain ⟨hunit, hstrap, hcom, hk1⟩ := hred
    obtain ⟨hk2, hr2⟩ := hkeep
    obtain ⟨q7, hk7⟩ := hready.keep
    obtain ⟨p8, hk8⟩ := hup.keep
    obtain ⟨p9, hk9⟩ := hup'.keep
    obtain ⟨c3, hr3⟩ := hmode.red
    obtain ⟨c7, hr7⟩ := hready.red
    have hr : v8.red = { v1.red with check := c7 } := by
      rw [hup'.red, hup.red, hr7, hr3, ← hr2]
      rfl
    refine ⟨⟨q7, p9, ?_⟩, ?_, ?_, ?_, hdom4, hdom5, fun h => ?_⟩
    · have hk3 : v3.keep = v2.keep := hmode.keep
      rw [hk9, hk8, hk7, hk3, hk2, hk1, hk0]
    · rw [hup'.mode, hup.mode, hready.mode, hmode.mode]
      rfl
    · rw [hr, hunit]
    · rw [hr, hstrap]
    · rw [hr]
      exact hcom.trans (hoff h)
  obtain ⟨h1, h2, h3, h4, h5, h6, h7⟩ := hleft
  split
  · exact ⟨h1, h2, h3, h4, h5, h6, h7⟩
  · exact ⟨h1, h2, h3, h4, h5, h6, h7⟩

end Sys2Proof.Machine
end

section
/-!
PROOF. The power-down and the reset input (R550–R553): authority goes first, then the records KEEP saves, then every domain.
-/
namespace Sys2Proof.Machine

/-! ### The power-down, R550, R551 -/

theorem calm_lowWrites (s : State) : Calm s s.lowWrites := by
  unfold State.lowWrites
  extract_lets u v
  have hu : Calm s u := calm_ite ((onlyLog_logThaw s 2).calm.trans (onlyLog_flushQueue _).calm) (calm_refl s)
  clear_value u
  have hv : Calm u v := calm_ite (calm_learnSave u) (calm_refl u)
  clear_value v
  exact (hu.trans hv).trans (calm_ite (calm_satRetain v) (calm_refl v))

/-- The entry to LOW changes neither the time nor KEEP but for its supply. R547. -/
theorem lowEnter_left (s : State) : s.lowEnter.now = s.now ∧ ∃ x, s.lowEnter.keep = { s.keep with supply := x } := by
  have hlow := calm_lowWrites s
  have halarm := onlyLog_raiseAlarm (s.lowWrites.modSupply (fun x => { x with state := 1, dips := x.dips + 1 })) .SUPPLY_LOW 0 []
  refine ⟨halarm.now.trans hlow.now, { s.keep.supply with state := 1, dips := s.keep.supply.dips + 1 }, halarm.keep.trans ?_⟩
  rw [State.modSupply, State.modKeep_keep, hlow.keep]

/-- What a unit saves before its domains go down. R550. -/
def State.saved (s : State) : State := s.saveCounters.saveTime

theorem saved_left (s : State) : s.saved.now = s.now ∧ s.saved.red = s.red ∧
    ∃ tk, s.saved.keep = { s.keep with wordsA := ⟨s.optime, s.keep.pcycle⟩, wordsB := ⟨s.optime, s.keep.pcycle⟩, tk := tk } :=
  ⟨rfl, rfl, _, rfl⟩

/-- What the power-down leaves: nothing powered, a cold start ready, no authority, and the control words of the instant. R550, R551. -/
theorem powerDown_left (s : State) :
    s.powerDown.keep.d0On = false ∧ s.powerDown.keep.powered = 0 ∧ s.powerDown.keep.coldReady = true ∧ s.powerDown.keep.supply.state = 2 ∧
      s.powerDown.red.commanding = false ∧ s.powerDown.keep.wordsA = { optime := s.optime, pcycle := s.keep.pcycle } ∧
      s.powerDown.keep.wordsB = s.powerDown.keep.wordsA := by
  unfold State.powerDown
  extract_lets a b x c d
  have ha : a.now = s.now ∧ a.keep = { s.keep with supply := { s.keep.supply with state := 2 } } := ⟨rfl, rfl⟩
  clear_value a
  have hyield : Yields a (a.giveUp 23 false) := yields_giveUp a 23 false
  have hdown : Fallen (a.giveUp 23 false) b := fallen_allDown _ _
  clear_value b
  have hrec : ∃ v, OnlyLog b v ∧ c = v.saved := ⟨_, onlyLog_direct b _ _ _, rfl⟩
  obtain ⟨v, hlog, hsave⟩ := hrec
  clear_value c
  have hall : Fallen c d := fallen_allDown c allDoms
  clear_value d
  obtain ⟨hanow, hakeep⟩ := ha
  obtain ⟨q, p, hb⟩ := hdown.keep
  obtain ⟨hvnow, hvred, tk, hv⟩ := saved_left v
  obtain ⟨q', p', hd⟩ := hall.keep
  have hvk : v.keep = { s.keep with supply := { s.keep.supply with state := 2 }, queueLost := q, powered := p } := by
    rw [hlog.keep, hb, hyield.keep, hakeep]
  have hvt : v.now = s.now := by rw [hlog.now, hdown.now, hyield.now, hanow]
  have hvo : v.optime = s.optime := by
    unfold State.optime
    rw [hvk, hvt]
  have hoff : d.red.commanding = false := by
    refine hall.off ?_
    rw [hsave, hvred, hlog.red]
    exact hdown.off hyield.off
  rw [hsave, hv, hvk, hvo] at hd
  refine ⟨rfl, rfl, rfl, ?_, hoff, ?_, ?_⟩
  · rw [State.modKeep_keep, hd]
  · rw [State.modKeep_keep, hd]
  · rw [State.modKeep_keep, hd]

/-! ### The reset input, R552, R553 -/

/-- No domain but D0 runs after all went down. R578. -/
theorem dom_allDown_all (s : State) {d : Nat} (hlo : 1 ≤ d) (hhi : d ≤ 11) : (s.allDown allDoms).dom d = false := by
  have hmem : ∀ e < 12, 1 ≤ e → (downs allDoms).contains e = true := by decide
  rw [dom_allDown, hmem d (by omega) hlo, Bool.not_true, Bool.and_false]

theorem storeSpill_nextSeq (s : State) (r : LogRec) : (s.storeSpill r).log.nextSeq = s.log.nextSeq := by
  unfold State.storeSpill
  extract_lets r' rs l put
  split
  · rfl
  · split
    · rfl
    · rfl

theorem storeMram_nextSeq (s : State) (r : LogRec) : (s.storeMram r).log.nextSeq = s.log.nextSeq := by
  unfold State.storeMram
  extract_lets rs l put evict res gen
  have hevict : ∀ f, (evict f).log.nextSeq = s.log.nextSeq := by
    intro f
    dsimp only [evict]
    split
    · rfl
    · rfl
  split
  · rfl
  · split
    · rfl
    · split
      · exact hevict _
      · exact hevict _

/-- A direct record takes the next sequence number. R524. -/
theorem direct_nextSeq (s : State) (e : EvCode) (c : Nat) (p : List Word) : (s.direct e c p).log.nextSeq = s.log.nextSeq + 1 := by
  unfold State.direct State.storeRec
  dsimp only
  split
  · exact storeSpill_nextSeq _ _
  · exact storeMram_nextSeq _ _

/-- What RESET_N leaves as it is asserted: the pin held from then, no authority, no domain but D0. R552. -/
theorem resetNAssert_left (s : State) :
    let u := (((s.giveUp 23 false).allDown allDoms).modKeep (fun k => { k with resetHeld := some s.now, resetHeldRec := false })).direct .RESET_PIN clsEvent []
    u.keep.resetHeld = some s.now ∧ u.keep.resetHeldRec = false ∧ u.red.commanding = false ∧ ∀ d, 1 ≤ d → d ≤ 11 → u.dom d = false := by
  intro u
  have hdown := fallen_allDown (s.giveUp 23 false) allDoms
  have hu : u.keep = { ((s.giveUp 23 false).allDown allDoms).keep with resetHeld := some s.now, resetHeldRec := false } := (onlyLog_direct _ _ _ _).keep
  have hred : u.red = ((s.giveUp 23 false).allDown allDoms).red := (onlyLog_direct _ _ _ _).red
  refine ⟨by rw [hu], by rw [hu], ?_, fun d hlo hhi => ?_⟩
  · rw [hred]
    exact hdown.off (yields_giveUp s 23 false).off
  · rw [State.dom, hu]
    exact dom_allDown_all _ hlo hhi

end Sys2Proof.Machine
end

section
/-!
PROOF. The cold start (R524, R551, R556, R558, R564): KEEP is set from the control words, what failed its check is dropped, and the unit enters RESTORE.
-/
namespace Sys2Proof.Machine

/-- From `s` to `u` a start read what was retained: of KEEP only the count of lost records, the role epochs, the trim, the keys and the time keeper may
differ, and no time came. -/
structure Reads (s u : State) : Prop where
  keep : ∃ q e t r i k, u.keep = { s.keep with queueLost := q, epochRetained := e, trim := t, roleKeys := r, integKey := i, tk := k } ∧
    (s.keep.tk.time = none → k.time = none)

theorem Reads.trans {s u v : State} (h : Reads s u) (h' : Reads u v) : Reads s v := by
  obtain ⟨q, e, t, r, i, k, hk, htime⟩ := h.keep
  obtain ⟨q', e', t', r', i', k', hk', htime'⟩ := h'.keep
  refine ⟨⟨q', e', t', r', i', k', by rw [hk', hk], fun h => htime' ?_⟩⟩
  rw [hk]
  exact htime h

theorem Readies.reads {s u : State} (h : Readies s u) : Reads s u := by
  obtain ⟨q, hk⟩ := h.keep
  exact ⟨⟨q, _, _, _, _, _, hk, id⟩⟩

theorem readies_foldl {α : Type} {f : State → α → State} (hf : ∀ u x, Readies u (f u x)) (l : List α) (s : State) : Readies s (l.foldl f s) := by
  induction l generalizing s with
  | nil => exact readies_refl s
  | cons x l ih => exact (hf s x).trans (ih _)

theorem readies_log (s : State) (l : LogSt) : Readies s { s with log := l } := ⟨⟨_, rfl⟩, rfl, ⟨_, rfl⟩⟩

/-- The record whose write was cut off is stored or counted as torn, and the log's head is found again. R524. -/
theorem readies_logStart (s : State) : Readies s s.logStart := by
  unfold State.logStart
  extract_lets _ v _ u top
  have hv : Readies s v := readies_log s _
  have hu : Readies s u := by
    unfold u
    split
    · exact readies_refl s
    · exact hv.trans (readies_ite (onlyLog_storeRec _ _).readies ((readies_log _ _).trans (onlyLog_direct _ _ _ _).readies))
  clear_value u top
  refine hu.trans (readies_ite ?_ (readies_refl u))
  split
  · exact readies_log u _
  · exact readies_refl u

theorem readies_modSess (s : State) (n : Nat) (f : Session → Session) : Readies s (s.modSess n f) := ⟨⟨_, rfl⟩, rfl, ⟨_, rfl⟩⟩

theorem readies_dropEntries (s : State) (gone : JEntry → Bool) : Readies s (s.dropEntries gone) := by
  unfold State.dropEntries
  extract_lets out lost _ u
  have hu : Readies s u := ⟨⟨_, rfl⟩, rfl, ⟨_, rfl⟩⟩
  exact hu.trans (readies_foldl (fun v a => readies_modSess v _ _) lost u)

theorem readies_journalCut (s : State) (n : Nat) : Readies s (s.journalCut n) := by
  unfold State.journalCut
  dsimp only
  split
  · exact readies_refl s
  · exact (readies_dropEntries s _).trans ⟨⟨_, rfl⟩, rfl, ⟨_, rfl⟩⟩

theorem reads_retainedBad (s : State) (b : RetainBad) : Reads s (s.retainedBad b) := by
  unfold State.retainedBad
  extract_lets cut _ _ _ _ u v w
  have hu : Readies s u := ⟨⟨_, rfl⟩, rfl, ⟨_, rfl⟩⟩
  clear_value u
  have hv : Readies u v := by
    unfold v
    split
    · exact readies_journalCut u _
    · exact readies_refl u
  clear_value v
  have hw : Reads v w := ⟨⟨_, _, _, _, _, _, rfl, id⟩⟩
  clear_value w
  exact ((hu.trans hv).reads.trans hw).trans (readies_foldl (fun x k => (onlyLog_direct x _ _ _).readies) _ w).reads

theorem reads_wordsLost (s : State) : Reads s s.wordsLost := ⟨⟨_, _, _, _, _, _, rfl, fun _ => rfl⟩⟩

/-- D0 is lost without the sequence: of KEEP the powers, the count of lost records and a held reset go. R556. -/
theorem loseD0_left (s : State) (slot : Nat) :
    (s.loseD0 slot).now = s.now ∧ (s.loseD0 slot).keep = { s.keep with queueLost := 0, powered := 0, resetHeld := none } := by
  unfold State.loseD0
  extract_lets u l c x
  have hu : Ends s u := by
    unfold u State.logCut
    split
    · exact ends_refl s
    · split
      · exact ends_refl s
      · exact (onlyLog_numberEntry s _).ends.trans ⟨rfl, ⟨_, rfl⟩, rfl, id⟩
  clear_value u
  have hx : Fallen u x := fallen_allDown u allDoms
  clear_value x l c
  obtain ⟨q, hk⟩ := hu.keep
  obtain ⟨q', p', hk'⟩ := hx.keep
  have hkeep : x.keep = { s.keep with queueLost := q', powered := p' } := by rw [hk', hk]
  exact ⟨hx.now.trans hu.now, congrArg (fun k : KeepSt => { k with queueLost := 0, powered := 0, resetHeld := none }) hkeep⟩

/-- KEEP as a cold start sets it with its counters. R556, R558. -/
def KeepSt.started (k : KeepSt) (c : Word × Nat) (now : Nat) : KeepSt :=
  { k with
    pcycle := c.1, optimeBase := c.2, optimeAt := now, wordsA := { optime := c.2, pcycle := c.1 }, wordsB := { optime := c.2, pcycle := c.1 }
    coldReady := false, d0On := true, powered := 1, tk := { lastKnown := k.tk.lastKnown }
    supply := { k.supply with state := 0 }, coolSince := none }

/-- From `s` to `u` D0 started: RESTORE with its cause and straps, the counters in both control words, and no time. -/
structure ColdStarted (c : Word × Nat) (cause straps : Nat) (s u : State) : Prop where
  mode : u.sys.mode = .restore
  unit : u.red.unit = straps
  dom4 : u.dom 4 = true
  dom5 : u.dom 5 = true
  keep : ∃ q p e t r i k, u.keep = { s.keep.started c s.now with
    queueLost := q, epochRetained := e, trim := t, roleKeys := r, integKey := i, tk := k, powered := p
    resetCause := cause, resetHeld := none, resetHeldRec := false } ∧ k.time = none

theorem OnlyLog.coldStarted {c : Word × Nat} {cause straps : Nat} {s u v : State} (h' : OnlyLog u v) (h : ColdStarted c cause straps s u) :
    ColdStarted c cause straps s v := by
  obtain ⟨hmode, hunit, hdom4, hdom5, hkeep⟩ := h
  exact ⟨h'.sys ▸ hmode, h'.red ▸ hunit, (h'.ends.dom 4).trans hdom4, (h'.ends.dom 5).trans hdom5, h'.keep ▸ hkeep⟩

theorem coldStarted_coldStart (s : State) (seq : Bool) (cause straps : Nat) (bad : RetainBad) :
    ColdStarted (s.startCounters seq (s.keep.words bad.words)) cause straps s (s.coldStart seq cause straps bad) := by
  unfold State.coldStart
  extract_lets w c v0 v1 v2
  have h0 : v0.keep = s.keep.started c s.now := rfl
  clear_value v0
  have h1 : Reads v0 v1 := by
    have hwords : Reads v0 (if w.isSome then v0 else v0.wordsLost) := by
      split
      · exact (readies_refl v0).reads
      · exact reads_wordsLost v0
    exact (hwords.trans (readies_logStart _).reads).trans (reads_retainedBad _ _)
  clear_value v1
  have hstart : Restored cause straps (v1.imgStart [0]) v2 := restored_enterRestore _ _ _
  clear_value v2
  have hcold : ColdStarted c cause straps s v2 := by
    obtain ⟨q, e, t, r, i, k, hk1, htime⟩ := h1.keep
    obtain ⟨q', hk2⟩ := (readies_imgStart v1 [0]).keep
    obtain ⟨q'', p, hk3⟩ := hstart.keep
    refine ⟨hstart.mode, hstart.unit, hstart.dom4, hstart.dom5, q'', p, e, t, r, i, k, ?_, htime ?_⟩
    · rw [hk3, hk2, hk1, h0]
    · rw [h0]
      rfl
  split
  · exact hcold
  · exact (onlyLog_raiseAlarm _ _ _ _).coldStarted hcold

/-- A start that found no control words says so. R564. -/
theorem coldStart_dataLost {s : State} {bad : RetainBad} (h : s.keep.words bad.words = none) (seq : Bool) (cause straps : Nat) :
    (s.coldStart seq cause straps bad).alarmOn .KEEP_DATA_LOST = true := by
  unfold State.coldStart
  extract_lets w c v0 v1 v2
  have hw : ¬ w.isSome = true := by
    unfold w
    rw [h]
    exact Bool.false_ne_true
  rw [if_neg hw]
  exact raiseAlarm_on _ _ _ (by decide)

end Sys2Proof.Machine
end

section
/-!
PROOF. The wakes of KEEP and the pins (R297, R577, R605–R615): what a wake starts and ends, and which class of pins a domain that does not run leaves idle.
-/
namespace Sys2Proof.Machine

/-! ### The wakes of KEEP, R297 -/

/-- D1, D8 and D9 keep, as they start, the time, the parameters and what runs. R592. -/
theorem risen_domUp_off {s : State} {d : Nat} (h : ¬ s.dom d = true) (hd : d = 1 ∨ d = 8 ∨ d = 9) : Risen (s.setDom d true) (s.domUp d) := by
  unfold State.domUp
  rw [if_neg h]
  rcases hd with rfl | rfl | rfl
  · exact (risen_logUp _).after ⟨rfl, rfl, fun _ => id⟩
  · exact (still_satUp _).risen
  · exact (still_tmuUp _ _).risen.after ⟨rfl, rfl, fun _ => id⟩

theorem risen_domUp (s : State) {d : Nat} (hd : d = 1 ∨ d = 8 ∨ d = 9) : Risen s (s.domUp d) ∧ (s.domUp d).dom d = true := by
  by_cases h : s.dom d = true
  · rw [domUp_on h]
    exact ⟨risen_refl s, h⟩
  · refine ⟨(risen_setDom s d).trans (risen_domUp_off h hd), (risen_domUp_off h hd).dom d ?_⟩
    rw [dom_setDom_true]
    simp

theorem allUp_wake (s : State) : s.allUp [1, 9, 8] = ((s.domUp 1).domUp 9).domUp 8 := rfl

/-- A wake leaves D1, D8 and D9 running, with the time and the parameters as before. R297. -/
theorem wake_left (s : State) : Risen s (s.allUp [1, 9, 8]) ∧ (s.allUp [1, 9, 8]).dom 1 = true ∧ (s.allUp [1, 9, 8]).dom 8 = true ∧
    (s.allUp [1, 9, 8]).dom 9 = true := by
  obtain ⟨h1, hdom1⟩ := risen_domUp s (d := 1) (Or.inl rfl)
  obtain ⟨h9, hdom9⟩ := risen_domUp (s.domUp 1) (d := 9) (Or.inr (Or.inr rfl))
  obtain ⟨h8, hdom8⟩ := risen_domUp ((s.domUp 1).domUp 9) (d := 8) (Or.inr (Or.inl rfl))
  rw [allUp_wake]
  exact ⟨(h1.trans h9).trans h8, h8.dom 1 (h9.dom 1 hdom1), hdom8, h8.dom 9 hdom9⟩

theorem Risen.parN {s u : State} (h : Risen s u) (p : Param) (i : Nat) : u.parN p i = s.parN p i := by
  unfold State.parN State.par State.par?
  rw [h.cfg]

theorem dom_drainMem (s : State) (d : Nat) : s.drainMem.dom d = (s.dom d && decide (d ≠ 1)) := by
  have hdrain : OnlyLog s (if s.dom 1 then s.logDrain else s) :=
    onlyLog_ite (onlyLog_trans (onlyLog_logThaw s 0) (onlyLog_flushQueue _)) (onlyLog_refl s)
  unfold State.drainMem
  rw [dom_domDown, hdrain.ends.dom]

/-- A wake that ends leaves D1, D8 and D9 off. R297. -/
theorem wakeEnd_left (s : State) : s.wakeEnd.sat.wake = none ∧ s.wakeEnd.dom 1 = false ∧ s.wakeEnd.dom 8 = false ∧ s.wakeEnd.dom 9 = false := by
  unfold State.wakeEnd
  extract_lets u v _
  have hv (d : Nat) : v.dom d = (u.dom d && !(downs [8, 9]).contains d && decide (d ≠ 1)) := by
    unfold v
    rw [dom_drainMem, dom_allDown]
  clear_value v
  refine ⟨rfl, (hv 1).trans ?_, (hv 8).trans ?_, (hv 9).trans ?_⟩
  · simp
  · simp [downs]
  · simp [downs]

theorem wakeOver_of_past {s : State} {a : Nat} (h : a + s.parNs .SAT_WAKE_TIME ≤ s.now) : s.wakeOver a = true := by
  unfold State.wakeOver State.past
  rw [decide_eq_true h, Bool.true_or]

theorem not_wakeOver {s : State} {a : Nat} (h : s.now < a + s.parNs .SAT_WAKE_TIME) (h' : s.now < a + 20000000000) : s.wakeOver a = false := by
  unfold State.wakeOver State.past
  rw [decide_eq_false (Nat.not_le.2 h), decide_eq_false (Nat.not_le.2 h'), Bool.false_and, Bool.or_false]

/-! ### The pins, R605–R615 -/

theorem netUp_iff (s : State) : s.netUp = true ↔ s.dom 9 = true ∧ s.sys.mode ≠ .keep := by
  unfold State.netUp
  rw [Bool.and_eq_true, decide_eq_true_iff]

/-- With D10 off its pins are idle. R611. -/
theorem pins_d10_off {s : State} (h : s.dom 10 = false) :
    s.pins.role = false ∧ (∀ p ∈ s.pins.can, p = (false, false)) ∧ (∀ p ∈ s.pins.ser, p = (false, false)) ∧ ∀ q ∈ s.pins.ao, q = none := by
  refine ⟨?_, ?_, ?_, ?_⟩ <;> simp [State.pins, h]

theorem analogOutputs_length {s : State} (hs : s.Inv) : s.bus.ao.length = 16 := by
  have k := hs.2
  simp only [State.sizes, unitSizes, List.cons.injEq, and_true] at k
  obtain ⟨-, -, ⟨-, -, hao, -⟩, -⟩ := k
  exact hao

/-- With D4 or D5 off the safety outputs are idle. R605, R615. -/
theorem pins_safe_off {s : State} (h : s.dom 4 = false ∨ s.dom 5 = false) :
    s.pins.testPulse = false ∧ (∀ p ∈ s.pins.sts, p = (false, false)) ∧ ∀ x ∈ s.pins.brk, x = false := by
  have hoff : (s.dom 4 && s.dom 5) = false := by
    rcases h with h | h
    · rw [h, Bool.false_and]
    · rw [h, Bool.and_false]
  unfold State.pins
  dsimp only
  simp only [hoff, Bool.false_and]
  refine ⟨trivial, fun p hp => ?_, fun x hx => ?_⟩
  · obtain ⟨_, -, rfl⟩ := List.mem_map.1 hp
    rfl
  · obtain ⟨_, -, rfl⟩ := List.mem_map.1 hx
    rfl

/-- With no domain running every pin class is idle. R615. -/
theorem pins_idle {s : State} (hs : s.Inv) (h : ∀ d, 1 ≤ d → d ≤ 11 → s.dom d = false) : s.pins = Pins.idle s.keepStat := by
  have h4 := h 4 (by decide) (by decide)
  have h8 := h 8 (by decide) (by decide)
  have h10 := h 10 (by decide) (by decide)
  have h11 := h 11 (by decide) (by decide)
  have hnet := netUp_off (h 9 (by decide) (by decide))
  obtain ⟨hsts, hbrk⟩ := safe_lengths hs
  unfold State.pins Pins.idle
  simp only [h4, h8, h10, h11, hnet, Bool.false_and, Bool.false_eq_true, if_false, List.map_const', hsts, hbrk, analogOutputs_length hs]
  rfl

end Sys2Proof.Machine
end

section
/-!
PROOF. O59: the restarts of the unit and its pins.
-/
namespace Sys2Proof.Machine

/-- The power-down, with and without an entry to LOW before it. R550. -/
theorem powerDown_supply {t : Nat} {va vb : Rat} {s : State} (hon : s.keep.d0On = true) (hlow : (if va < vb then vb else va) < 29 / 2) :
    ∃ u, exec (.powerDown t va vb) s = .next u ∧ u.keep.d0On = false ∧ u.keep.powered = 0 ∧ u.keep.coldReady = true ∧
      u.keep.supply.state = 2 ∧ u.red.commanding = false ∧
      u.keep.wordsA = { optime := (s.arrive t).optime, pcycle := s.keep.pcycle } ∧ u.keep.wordsB = u.keep.wordsA := by
  refine ⟨_, congrArg Host.Outcome.next (if_pos ⟨hon, hlow⟩), ?_⟩
  split
  · obtain ⟨hnow, x, hkeep⟩ := lowEnter_left ((s.arrive t).supplyIs va vb)
    have hopt : ((s.arrive t).supplyIs va vb).lowEnter.optime = (s.arrive t).optime := by
      unfold State.optime
      rw [hkeep, hnow]
      rfl
    have hcyc : ((s.arrive t).supplyIs va vb).lowEnter.keep.pcycle = s.keep.pcycle := by
      rw [hkeep]
      rfl
    have hdown := powerDown_left ((s.arrive t).supplyIs va vb).lowEnter
    rw [hopt, hcyc] at hdown
    exact hdown
  · exact powerDown_left ((s.arrive t).supplyIs va vb)

/-- The state a cold start finds: of a unit whose D0 was still powered D0 is lost first. R556, R558. -/
def State.startsFrom (s : State) (bad : RetainBad) : State := if s.keep.coldReady then s else s.loseD0 bad.slot

/-- The cold start of a unit. R551, R556, R558. -/
def State.starts (s : State) (straps : Nat) (bad : RetainBad) : State :=
  (s.startsFrom bad).coldStart s.keep.coldReady (if s.keep.coldReady then 1 else 0) straps bad

theorem coldStart_starts {t x : Nat} {va vb : Rat} (bad : RetainBad) {s : State} (hx : x < 4) (hv : 18 ≤ (if va < vb then vb else va)) :
    exec (.coldStart t x va vb bad) s = .next (((s.arrive t).supplyIs va vb).starts x bad) := by
  refine guardUnit_next (decide_eq_true hx) ((if_neg (Classical.not_not.2 hv)).trans ?_)
  unfold State.starts State.startsFrom
  cases ((s.arrive t).supplyIs va vb).keep.coldReady with
  | true => rfl
  | false => rfl

theorem coldStarted_starts (s : State) (straps : Nat) (bad : RetainBad) :
    ColdStarted ((s.startsFrom bad).startCounters s.keep.coldReady ((s.startsFrom bad).keep.words bad.words)) (if s.keep.coldReady then 1 else 0) straps
      (s.startsFrom bad) (s.starts straps bad) :=
  coldStarted_coldStart _ _ _ _ _

/-- The loss of D0 leaves both control words. R556. -/
theorem startsFrom_words (s : State) (bad : RetainBad) : (s.startsFrom bad).keep.words bad.words = s.keep.words bad.words := by
  unfold State.startsFrom
  split
  · rfl
  · rw [(loseD0_left s bad.slot).2]
    rfl

/-- The counters of a start in order that finds no control words go on from the newest record. R564. -/
theorem startCounters_newest {s : State} {bad : RetainBad} (hready : s.keep.coldReady = true) (hw : s.keep.words bad.words = none) :
    (s.startsFrom bad).startCounters s.keep.coldReady ((s.startsFrom bad).keep.words bad.words) = (s.log.newest.pcycle + 1, s.log.newest.optime + 1) := by
  rw [startsFrom_words, hw]
  unfold State.startsFrom
  rw [if_pos hready]
  rfl

section
variable {c : Word × Nat} {cause straps : Nat} {s u : State}

/-- The counters a start leaves stand in KEEP and in both control words. R564. -/
theorem ColdStarted.words (h : ColdStarted c cause straps s u) : u.keep.pcycle = c.1 ∧ u.keep.optimeBase = c.2 ∧
    u.keep.wordsA = { optime := u.keep.optimeBase, pcycle := u.keep.pcycle } ∧ u.keep.wordsB = u.keep.wordsA := by
  obtain ⟨_, _, _, _, _, _, _, hk, -⟩ := h.keep
  rw [hk]
  exact ⟨rfl, rfl, rfl, rfl⟩

theorem ColdStarted.powers (h : ColdStarted c cause straps s u) : u.keep.d0On = true ∧ u.keep.coldReady = false ∧ u.keep.supply.state = 0 ∧
    u.keep.resetCause = cause ∧ u.keep.tk.time = none := by
  obtain ⟨_, _, _, _, _, _, _, hk, htime⟩ := h.keep
  rw [hk]
  exact ⟨rfl, rfl, rfl, rfl, htime⟩

end

/-- RESET_N held for 30 s is recorded once. R553. -/
theorem resetHeld_records {t a : Nat} {s : State} (hheld : s.keep.resetHeld = some a) (hlong : a + 30000000000 ≤ max s.now t)
    (hrec : s.keep.resetHeldRec = false) :
    exec (.resetHeld t) s = .next (((s.arrive t).modKeep (fun k => { k with resetHeldRec := true })).direct .RESET_HELD clsEvent []) := by
  refine congrArg Host.Outcome.next (if_pos ⟨?_, ?_⟩)
  · exact held_some hheld hlong
  · show ¬ s.keep.resetHeldRec = true
    rw [hrec]
    exact Bool.false_ne_true

theorem resetHeld_not {t : Nat} {s : State} (h : s.keep.resetHeld = none ∨ s.keep.resetHeldRec = true) :
    exec (.resetHeld t) s = .next (s.arrive t) := by
  refine congrArg Host.Outcome.next (if_neg ?_)
  rintro ⟨hheld, hrec⟩
  rcases h with h | h
  · exact held_none h hheld
  · exact hrec h

/-- RESET_N released enters RESTORE. R558. -/
theorem resetNRelease_restores {t x : Nat} {s : State} (hx : x < 4) (hon : s.keep.d0On = true) (hheld : s.keep.resetHeld.isSome = true) :
    exec (.resetNRelease t x) s = .next ((s.arrive t).enterRestore (if s.sys.mode = .keep then 3 else 2) x) :=
  guardUnit_next (decide_eq_true hx) (if_pos ⟨hon, hheld⟩)

/-- Settles O59: what RESTORE, the power-down, the reset input and the wakes leave, and each pin class with its domain. -/
theorem restartEvents : Obligations.RestartEvents := by
  unfold Obligations.RestartEvents
  refine ⟨fun t x va vb bad s => ⟨?_, ?_, ?_, ?_, ?_, ?_, ?_, ?_, ?_, ?_, ?_, ?_, ?_, ?_, ?_, ?_, ?_⟩, fun s hs => ⟨?_, ?_, ?_, ?_, ?_, ?_, ?_, ?_, ?_⟩⟩
  · exact powerDown_supply
  · intro h
    refine congrArg Host.Outcome.next (if_neg ?_)
    rintro ⟨hon, hlow⟩
    rcases h with h | h
    · exact Bool.false_ne_true (h.symm.trans hon)
    · exact absurd hlow (Rat.not_lt.2 h)
  · intro hon hheld
    exact ⟨_, congrArg Host.Outcome.next (if_pos ⟨hon, Option.isNone_iff_eq_none.2 hheld⟩), resetNAssert_left (s.arrive t)⟩
  · intro h
    refine congrArg Host.Outcome.next (if_neg ?_)
    rintro ⟨hon, hnone⟩
    rcases h with h | h
    · exact Bool.false_ne_true (h.symm.trans hon)
    · exact absurd (Option.isNone_iff_eq_none.1 hnone) (Option.isSome_iff_ne_none.1 h)
  · intro a hheld hlong hrec
    exact ⟨_, resetHeld_records hheld hlong hrec, onlyLog_direct _ _ _ _, direct_nextSeq _ _ _ _⟩
  · exact resetHeld_not
  · intro hx
    exact ⟨guardUnit_out (decide_eq_false (Nat.not_lt.2 hx)), guardUnit_out (decide_eq_false (Nat.not_lt.2 hx))⟩
  · intro hx hon hheld
    obtain ⟨⟨q, p, hk⟩, hmode, hunit, hstrap, hdom4, hdom5, hoff⟩ := restored_enterRestore (s.arrive t) (if s.sys.mode = .keep then 3 else 2) x
    refine ⟨_, resetNRelease_restores hx hon hheld, hmode, ?_, hunit, hstrap, ?_, ?_, hdom4, hdom5, hoff⟩
    · rw [hk]
    · rw [hk]
    · rw [hk]
      exact hon
  · intro hx h
    refine guardUnit_next (decide_eq_true hx) (if_neg ?_)
    rintro ⟨hon, hsome⟩
    rcases h with h | h
    · exact Bool.false_ne_true (h.symm.trans hon)
    · exact Option.isSome_iff_ne_none.1 hsome h
  · intro hx hlow
    exact guardUnit_next (decide_eq_true hx) (if_pos (Rat.not_le.2 hlow))
  · intro w hx hv hw
    have hcold := coldStarted_starts ((s.arrive t).supplyIs va vb) x bad
    rw [startsFrom_words, show ((s.arrive t).supplyIs va vb).keep.words bad.words = some w from hw] at hcold
    obtain ⟨hpcycle, hbase, hwordsA, hwordsB⟩ := hcold.words
    obtain ⟨hon, hready, hsupply, hcause, htime⟩ := hcold.powers
    exact ⟨_, coldStart_starts bad hx hv, hcold.mode, hon, hready, hsupply, hcold.unit, hcause, hpcycle, htime, hbase, hwordsA, hwordsB, hcold.dom4,
      hcold.dom5⟩
  · intro hx hv hw
    have hcold := coldStarted_starts ((s.arrive t).supplyIs va vb) x bad
    obtain ⟨hpcycle, hbase, hwordsA, hwordsB⟩ := hcold.words
    refine ⟨_, coldStart_starts bad hx hv, hcold.mode, hcold.powers.1, ?_, fun hready => ?_, hwordsA, hwordsB⟩
    · exact coldStart_dataLost ((startsFrom_words ((s.arrive t).supplyIs va vb) bad).trans hw) _ _ _
    · rw [hpcycle, hbase, startCounters_newest (s := (s.arrive t).supplyIs va vb) hready hw]
      exact ⟨rfl, rfl⟩
  · intro a hkeep hon hheld hwake hint hnext hdue
    obtain ⟨hrisen, h1, h8, h9⟩ := wake_left (s.arrive t)
    have hany : (s.arrive t).sat.nextWake.any (fun a => decide (a ≤ (s.arrive t).now)) = true := by
      rw [show (s.arrive t).sat.nextWake = some a from hnext]
      exact decide_eq_true hdue
    refine ⟨_, congrArg Host.Outcome.next (if_pos ⟨hkeep, hon, Option.isNone_iff_eq_none.2 hheld, Option.isNone_iff_eq_none.2 hwake, hint, hany⟩),
      congrArg some hrisen.now, h1, h8, h9, ?_⟩
    dsimp only
    rw [hrisen.now, hrisen.parN]
    rfl
  · intro h
    refine congrArg Host.Outcome.next (if_neg ?_)
    rintro ⟨hkeep, -, -, hwake, -, hany⟩
    rcases h with h | h | h
    · exact h hkeep
    · exact absurd (Option.isNone_iff_eq_none.1 hwake) (Option.isSome_iff_ne_none.1 h)
    · rw [show (s.arrive t).sat.nextWake = none from h] at hany
      exact Bool.false_ne_true hany
  · intro a hwake hkeep hover
    refine ⟨(s.arrive t).wakeEnd, congrArg Host.Outcome.next ?_, wakeEnd_left _⟩
    rw [show (s.arrive t).sat.wake = some a from hwake]
    exact if_pos ⟨hkeep, wakeOver_of_past hover⟩
  · intro a hwake hearly hshort
    refine congrArg Host.Outcome.next ?_
    rw [show (s.arrive t).sat.wake = some a from hwake]
    refine if_neg ?_
    rintro ⟨-, hover⟩
    exact Bool.false_ne_true ((not_wakeOver hearly hshort).symm.trans hover)
  · intro hwake
    refine congrArg Host.Outcome.next ?_
    rw [show (s.arrive t).sat.wake = none from hwake]
  · exact netUp_iff s
  · exact netUp_iff s
  · exact netUp_iff s
  · exact pins_d10_off
  · intro n hlo hhi h10
    have hn : n - 1 + 1 = n := by omega
    unfold State.pins
    dsimp only
    rw [List.getD_eq_getElem?_getD, List.getElem?_map, List.getElem?_range (show n - 1 < 4 by omega)]
    simp only [Option.map_some, Option.getD_some, hn, h10, Bool.true_and]
  · intro h11 x hx
    simp only [State.pins, h11, Bool.false_and, List.mem_map] at hx
    obtain ⟨_, -, rfl⟩ := hx
    rfl
  · exact pins_safe_off
  · intro h8 x hx
    simp only [State.pins, h8, Bool.false_and, List.mem_map] at hx
    obtain ⟨_, -, rfl⟩ := hx
    rfl
  · exact pins_idle hs

end Sys2Proof.Machine
end
